-- ==== Sys2Proof/Word.lean ====
section
/-! DEFINITION. The word types of the HVM-8400 and their plainest arithmetic. -/

namespace Sys2Proof

/-- A byte of any memory. -/
abbrev Byte := BitVec 8
/-- A half word: one Canopy gain word (R144). -/
abbrev W16 := BitVec 16
/-- A register or data word. -/
abbrev W32 := BitVec 32
/-- A Fuller instruction word (R218), a counter of R15, a sequence number of R72. -/
abbrev W64 := BitVec 64

/-- A map that is plain data: a list of keys and values whose keys rise strictly and which lists no value
equal to what an unlisted key reads as. -/
abbrev Sparse (α : Type) := List (Nat × α)

end Sys2Proof
end

