-- ==== Sys2Proof/Types.lean ====
section
/-! DEFINITION. The operand types of the commands: what the outside world (pins, packets, memories' error
findings, the flash, the host) supplies with a happening; and the plain data a block image stands for. -/

namespace Sys2Proof

/-! ## The structure a block image fixes (R84, R115 to R136, R142, R254, R475) -/

/-- A port input of R115: what feeds one input strip channel. -/
inductive PortSrc where
  | asp (port slot : Nat)
  | aes (rx : Nat) (chB : Bool)
  | stream (s ch : Nat)
  | mic (m : Nat)
  deriving DecidableEq, Repr, Inhabited

/-- The one source of a matrix input (R116). -/
inductive MiSource where
  | none
  | strip (i : Nat)
  | voice (v : Nat)
  | bus (mo : Nat)
  | sel (s : Nat)
  deriving DecidableEq, Repr, Inhabited

/-- A selector's candidate (R119): input side strips, voices and bus returns; output side matrix outputs. -/
inductive CandSrc where
  | strip (i : Nat)
  | voice (v : Nat)
  | bus (mo : Nat)
  | mo (o : Nat)
  deriving DecidableEq, Repr, Inhabited

/-- The gate kinds of R120; 6 and 7 are refused by the loader. -/
inductive Gate where
  | always
  | detector (d : Nat)
  | voice (v : Nat)
  | contact (c : Nat)
  | host (g : Nat)
  | ptt (m : Nat)
  | reserved (kind : Nat)
  deriving DecidableEq, Repr, Inhabited

/-- One candidate as the SELECTOR section gives it (R120). -/
structure Cand where
  src : CandSrc
  gate : Gate
  en : Bool
  pri : Nat
  deriving DecidableEq, Repr, Inhabited

/-- One selector as the image fixes it (R119, R120). `idle` is the idle candidate, none for silence. -/
structure SelInfo where
  priority : Bool
  outSide : Bool
  target : Nat
  cands : List Cand
  idle : Option Nat
  fade : Nat
  deriving DecidableEq, Repr, Inhabited

/-- The source of an output strip channel (R115). -/
inductive OutSrc where
  | mo (o : Nat)
  | sel (s : Nat)
  deriving DecidableEq, Repr, Inhabited

/-- The source of a sink (R117). -/
inductive SinkSrc where
  | mo (o : Nat)
  | strip (o : Nat)
  | line (l : Nat)
  deriving DecidableEq, Repr, Inhabited

/-- A sink that leaves the module (R115). -/
inductive SinkId where
  | asp (port slot : Nat)
  | aes (tx : Nat) (chB : Bool)
  | stream (s ch : Nat)
  | hw (k : Nat)
  deriving DecidableEq, Repr, Inhabited

/-- A delay line as RINGMAP carves it (R125, R136): lengths in ticks, delay in samples. -/
structure LineInfo where
  src : Nat
  base : Nat
  size : Nat
  len : Nat
  delay : Nat
  deriving DecidableEq, Repr, Inhabited

/-- A recorder channel as the image fixes it (R133). -/
structure RecInfo where
  src : SinkSrc
  format : Nat
  gate : Gate
  base : Nat
  size : Nat
  deriving DecidableEq, Repr, Inhabited

/-- One Fuller core's areas as the image fixes them (R198, R204, R205), all in bytes. `inb` lays out the inbound
half, `outb` the outbound window: the word offset of a channel's block of one tick and the channel. -/
structure CoreInfo where
  setLen : Nat
  setOff : Nat
  winInLen : Nat
  winInOff : Nat
  winOutLen : Nat
  winOutOff : Nat
  inPorts : List (Nat × PortSrc)
  inMos : List (Nat × OutSrc)
  inTaps : List (Nat × Nat)
  outStrips : List (Nat × Nat)
  outOuts : List (Nat × Nat)
  deriving DecidableEq, Repr, Inhabited

/-- An ASRC channel's binding (R251, ASR_CH_INFO): port 0 to 15 serial, 16 to 23 AES3 receiver. -/
structure AsrcInfo where
  tx : Bool
  port : Nat
  slot : Nat
  deriving DecidableEq, Repr, Inhabited

/-- A proving return of the image (R480, PRV_RET_INFO): its kind, expected latency in samples and index; `source` is what a proving-return
sink carries, `input` the port input that is a return. -/
structure RetInfo where
  kind : Nat
  expected : Nat
  index : Nat
  source : Option SinkSrc
  input : Option PortSrc
  deriving DecidableEq, Repr, Inhabited

/-- What PARAM sets in one bank (R150): gain words by their key of R148, detectors (THR, HOLD), scaling modes,
plain selectors (position, fade), Fuller parameter words by core and word. -/
structure ParamBank where
  gains : List (Nat × W16)
  dets : List (Nat × (Nat × Nat))
  scls : List (Nat × Nat)
  sels : List (Nat × (Nat × Nat))
  params : List (Nat × List (Nat × W32))
  deriving DecidableEq, Repr, Inhabited

/-- The structure a block image stands for: what GRAPH, SELECTOR, TILEMAP, RINGMAP and PARAM give. The streams carry their channel counts
(R291); `hostPool` is STR_HQ_POOL (R305). -/
structure Structure where
  strips : List (Nat × PortSrc)
  miSrc : List (Nat × MiSource)
  moUsed : Nat
  selectors : List SelInfo
  outStrips : List (Nat × OutSrc)
  lines : List LineInfo
  voices : Nat
  clipBase : Nat
  clipSize : Nat
  recs : List RecInfo
  sceneBase : Nat
  sceneSize : Nat
  sinks : List (SinkId × SinkSrc)
  miPos : List (Nat × (Nat × Nat))
  moPos : List (Nat × (Nat × Nat))
  cores : List (Nat × CoreInfo)
  asrc : List (Nat × AsrcInfo)
  rooted : List Nat
  rxStreams : List (Nat × Nat)
  txStreams : List (Nat × Nat)
  hostPool : Nat
  rets : List RetInfo
  live : ParamBank
  shadow : ParamBank
  deriving DecidableEq, Repr, Inhabited

/-! ## Findings that accompany a command -/

/-- What an ECC or parity check found in a word (R168, R231, R363): a single-bit error that is corrected, or a
word that cannot be. -/
inductive EccKind where
  | corrected
  | uncorrectable
  deriving DecidableEq, Repr, Inhabited

/-- A finding in a tile's memories (R168). `mem`: 0 live bank, 1 shadow bank, 2 flags; `word` the 64-bit word. -/
structure GainEcc where
  tile : Fin 256
  mem : Fin 3
  word : Nat
  kind : EccKind
  deriving DecidableEq, Repr

/-- A finding in a Fuller core's memories (R231). `mem`: 0 P, 1 X, 2 Y; `word` the 64-bit word. -/
structure FulEcc where
  core : Fin 64
  mem : Fin 3
  word : Fin 8192
  kind : EccKind
  deriving DecidableEq, Repr

/-- A finding in the pool (R363): the byte address of the ECC word, what was found, and whether the word lies in real-time staging (R364), whose
place in the pool no rule gives. -/
structure PoolEcc where
  addr : Nat
  kind : EccKind
  staging : Bool
  deriving DecidableEq, Repr

/-- A ring-store object whose fetch is not complete at the boundary (R30). -/
inductive RingObj where
  | line (l : Nat)
  | voice (v : Nat)
  | chan (c : Nat)
  deriving DecidableEq, Repr

/-- What the correlation of R479 measured for a point of a group: a crosspoint (m, o), or a return r and input m. `gain` is in 0.1 dB: the gain
error of a crosspoint that is not off, else the measured gain; `lat` in samples, `snr` in dB, `inv` the polarity found. -/
structure ProveMeas where
  isRet : Bool
  point : Nat
  input : Nat
  gain : Int
  lat : Int
  snr : Int
  inv : Bool
  deriving DecidableEq, Repr, Inhabited

/-- What the outside world shows a tick boundary (R25): the phases of the present word-clock, DARS and 10 MHz inputs in ns (R269), the
cycles of each Trunk target that real-time traffic took in the ending tick (R35) and the QoS 15 bytes, the ring fetches that were late (R30), what the scrubs and
reads of the tick found (R168, R231, R363), what a proving group that ends has measured (R479), and `dt`, the nanoseconds by which the local clock of network time has advanced since it last did. -/
structure TickObs where
  phi : List (Nat × Int)
  load : List Nat
  qos15Bytes : Nat
  late : List RingObj
  gainEcc : List GainEcc
  fulEcc : List FulEcc
  poolEcc : List PoolEcc
  asrcIn : List (Nat × List Int)
  prove : List ProveMeas
  dt : Nat
  deriving DecidableEq, Repr, Inhabited

/-- What Heartwood measures in one of its ticks (R444, R445, R447, R470): the common-mode current of each microphone input in µA, the
resistance of each contact in Ω, VBAT and VRAIL in mV, and the channels whose current limit acted. A missing entry is not measured. -/
structure HwdObs where
  iUa : List Nat
  ohms : List Nat
  vbat : Nat
  vrail : Nat
  limits : List (Fin 2)
  deriving DecidableEq, Repr, Inhabited

/-- The width of a host access. -/
inductive Width where
  | byte
  | half
  | word
  deriving DecidableEq, Repr, Inhabited

end Sys2Proof

namespace Sys2Proof

/-! ## Operands of chapters 09 to 15 -/

/-- The head of a received PTP message (R315): the leg it came on, the sender's port identity, the sequence and the
correction field in ns. -/
structure PtpHead where
  legB : Bool
  v6 : Bool
  domain : Byte
  version : Nat
  src : W64
  srcPort : Nat
  seq : Nat
  corr : Int
  deriving DecidableEq, Repr, Inhabited

/-- What NET_LINK brings at a port: the speed code that an SGMII PHY reports (R309), and the levels of the pins NETn_LOS and
NETn_MOD_ABS (R288). -/
structure LinkPins where
  speed : Nat
  los : Bool
  modAbs : Bool
  deriving DecidableEq, Repr, Inhabited

/-- The body of an Announce (R321, R322). -/
structure AnnounceBody where
  gm : W64
  pri1 : Nat
  clockClass : Nat
  accuracy : Nat
  variance : Nat
  pri2 : Nat
  steps : Nat
  utc : W16
  utcValid : Bool
  leap61 : Bool
  leap59 : Bool
  ptpScale : Bool
  deriving DecidableEq, Repr, Inhabited

/-- What a read of one ECC word found (R346): nothing, a single-bit error, an uncorrectable syndrome. The poison
mark is the model's own state. -/
inductive DramFound where
  | clean
  | single (syndrome : Byte)
  | double (syndrome : Byte)
  deriving DecidableEq, Repr, Inhabited

/-- A host read: its width, and what the ECC check of an on-chip memory (R168, R231, R363) or of DRAM (R346) finds in the words it reads. -/
structure ReadHit where
  width : Width
  ecc : Option EccKind
  dram : DramFound
  deriving DecidableEq, Repr, Inhabited

/-- What a host write of an on-chip memory meets: a write of the engine in the same cycle (R233, R366), and what the ECC check of the word that it
merges into finds (R168, R231). -/
structure WriteHit where
  collide : Bool
  ecc : Option EccKind
  deriving DecidableEq, Repr, Inhabited

/-- A parity alert (R348): whether it is the third on one command, the command by its code in DRC_HIST_CMD, its master and the DRAM address it goes
to (none for a refresh, whose address reads 0). -/
structure ParityHit where
  persist : Bool
  cmd : Fin 11
  master : Fin 15
  addr : Nat
  deriving DecidableEq, Repr, Inhabited

/-- How initial training found a physical rank (R334). -/
inductive RankFound where
  | absent
  | works
  | fails
  deriving DecidableEq, Repr, Inhabited

/-- A failing word the Carder found (R369): MEM and UNIT of CRD_FAIL_LOG, the word, and whether only E3 or E5 of a
Retention run found it. -/
structure FailWord where
  mem : Fin 7
  unit : Fin 256
  word : Nat
  retention : Bool
  deriving DecidableEq, Repr

/-- What the loader does on the boot flash (R104): a command on one line, the read of SFDP, a DTR read from a byte address. -/
inductive FlashAccess where
  | command (op : Byte)
  | sfdp
  | read (addr : Nat)
  deriving DecidableEq, Repr

/-- What a twin says of a load or graft (R106): the ERROR its image was refused with, 0 for none; or, the active, the boundary it names. -/
inductive ImgReply where
  | verdict (code : Byte)
  | boundary (t : Nat)
  deriving DecidableEq, Repr

/-- A transmit frame sync edge: the media-clock cycles after its sample, and for a slave port the BCLK cycles that its frame turns out to have (R239,
R260). -/
structure TxEdge where
  frac : Nat
  len : Option Nat
  deriving DecidableEq, Repr

/-- A transmit frame at the pins, in BCLK cycles from the frame's edge (R241): the level of a master's frame sync in each, the cycles before the first
data bit, the bits of DT (none at high impedance), and whether the module drives on the rising edge of BCLK. -/
structure SerialPins where
  sync : List Bool
  start : Nat
  data : List (Option Bool)
  rising : Bool
  deriving DecidableEq, Repr

/-- An item of the ingest bundle (R414). -/
inductive BundleItem where
  | outOfStep
  | block (src : PortSrc) (samples : List Int)
  | contacts (closed : List Nat)
  | ports (src : PortSrc) (samples : List Int) (running : Bool)
  deriving DecidableEq, Repr

/-- A ledger record as the partner sends it (R429); `granted` as in the ledger (log entry 74). -/
structure RecordMsg where
  seq : W64
  tick : W64
  op : W16
  args : List W32
  granted : Bool
  confirm : Bool
  deriving DecidableEq, Repr, Inhabited

end Sys2Proof

namespace Sys2Proof

/-! ## Operands of the Fuller instructions (R219, R220) -/

/-- A move field of format P (R220). -/
structure PMove where
  store : Bool
  code : Fin 16
  ptr : Fin 8
  mode : Fin 4
  deriving DecidableEq, Repr

/-- The operand fields of a format P instruction (R219): the accumulators, the register choices, the shift count and both moves. -/
structure PArgs where
  da : Fin 4
  sa : Fin 4
  xs : Bool
  ys : Bool
  k : Fin 32
  x : PMove
  y : PMove
  deriving DecidableEq, Repr

/-- The operand fields of a format J instruction (R218, R222). -/
structure JArgs where
  cond : Fin 16
  count : BitVec 16
  finish : BitVec 13
  target : BitVec 13
  deriving DecidableEq, Repr

/-! ## What the wake sequence finds (R334, R337, R370, R506) -/

/-- What a start finds outside and inside the module: the straps (R41), what the flash slots supply (R104; none where the flash is unavailable), what initial training finds in
each channel (R334), the failing words of the start-up march (R370), and whether the retention check of R340 finds the records whole. -/
structure WakeObs where
  straps : BitVec 4
  flash0 : Option (List Byte)
  flash1 : Option (List Byte)
  ranks0 : List RankFound
  ranks1 : List RankFound
  march : List FailWord
  retained : Bool
  partnerReply : Bool
  deriving DecidableEq, Repr

end Sys2Proof

namespace Sys2Proof

/-- A command line of the monitor after parsing (R516); `bad` is a line that matches no command (R517, error 01), `range` one whose
argument lies outside its range (error 02). -/
inductive MonCmd where
  | peek (a n : Nat)
  | dump (a n : Nat)
  | dram (d n : Nat)
  | ev
  | job (slot : Nat)
  | ledger (idx n : Nat)
  | stat
  | traceTick (n : Nat)
  | traceEv (n : Nat)
  | traceLedger (n : Nat)
  | stop
  | baud (r : Nat)
  | poke (a : Nat) (v : W32)
  | rmw (a : Nat) (v m : W32)
  | testOn
  | testOff
  | bad
  | range
  deriving DecidableEq, Repr

end Sys2Proof
end

