-- ==== Sys2Proof/Machine/Parts1.lean ====
section
/-! DEFINITION. The parts of State for chapters 01 to 08: time, host access, jobs, the ledger's records, block
images, the signal graph, the ring store, the Canopy, the Fuller cores and the audio ports. -/

namespace Sys2Proof.Machine

/-! ## What the module was built and strapped as -/

/-- What is fixed per module (R2, R43, R77, R309): the variant, the serial number, the factory MAC addresses. -/
structure Fit where
  variantA : Bool
  serial : W64
  macs : List (BitVec 48)
  deriving DecidableEq, Repr

/-- The phase of a start (R506): without power, the 420 ms sequence up to and after the clearing of memories,
running, in Nap, held by RESET_N or stopped by a supply fault. -/
inductive Phase where
  | off
  | starting
  | running
  | nap
  | held
  | failed
  deriving DecidableEq, Repr

/-- Time and host access (chapters 01 and 02). `answering` is 1 once the memories have been cleared (R42);
`realignLoaded` says that the coming boundary finds the counters of a realignment loaded; `deferred` holds events that arose while the host interface was down (R508), `onceTick` the events raised once per tick. -/
structure SysSt where
  phase : Phase
  answering : Bool
  ready : Bool
  cause : Nat
  straps : BitVec 4
  hostLink : Bool
  faulty : Bool
  mediaRun : Bool
  aligned : Bool
  tick : W64
  realignReq : Bool
  realignLeft : Nat
  realignLoaded : Bool
  cfgPass : Bool
  cfgDirty : Bool
  cfgCommit : Nat
  cfgDiffs : Nat
  cfgActed : Bool
  spiTag : Byte
  spiStatus : Byte
  spiDiscarded : Nat
  capHost : Sparse W32
  capMon : Sparse W32
  msix : Sparse W32
  deferred : List Nat
  onceTick : List Nat
  deriving DecidableEq, Repr

/-! ## Jobs (R67 to R71) -/

/-- The STATE of a job slot (R68). -/
inductive JobState where
  | idle
  | queued
  | running
  | done
  | failed
  | aborted
  deriving DecidableEq, Repr

/-- One job slot (R67, R68, R82). `fin` is the ending the job's work has come to, written by JOB_DONE: 0 for done,
else the ERROR code. `order` is the order of starting; `granted` says that class 1 was granted when the start arrived, or that the start came
through the ledger, where it had been granted at submission (R499). -/
structure JobSlot where
  kind : Byte
  st : JobState
  error : Byte
  total : Nat
  args : List W32
  order : Nat
  abortReq : Bool
  granted : Bool
  fin : Option Byte
  deriving DecidableEq, Repr

/-! ## The command ledger (R72 to R75, R426 to R430) -/

/-- One ledger record that is not executed yet (R72, R426): its words, whether it is accepted, whether both twins hold it, and whether it arrived
through the standby; `granted` says that its class was granted at submission (an IMG_LOAD while no image runs may be taken without class 1, R102). What has been executed or has expired stands in DRAM only. -/
structure LedgerEntry where
  seq : Nat
  tick : Nat
  op : Nat
  args : List W32
  accepted : Bool
  both : Bool
  partner : Bool
  granted : Bool
  deriving DecidableEq, Repr

/-- The ledger (R74, R75, R426 to R430): the session, the submission registers, the records, LDG_ACC and LDG_EXE, the LDG_ACC that the trailer of
the ending tick has carried, and LDG_SUBRES. -/
structure LedgerState where
  session : W32
  sub : Sparse W32
  entries : List LedgerEntry
  acc : Nat
  exe : Nat
  sent : Option Nat
  result : Nat
  resultSeq : W16
  deriving DecidableEq, Repr

/-! ## Block images (chapter 03) -/

/-- A state-region descriptor (R92). -/
structure Region where
  id : Nat
  kind : Nat
  core : Nat
  base : Nat
  size : Nat
  deriving DecidableEq, Repr, Inhabited

/-- A COMPAT entry (R91, R108): a predecessor's fingerprint and its rules (old region, new region). -/
structure CompatEntry where
  fprint : List Byte
  rules : List (Nat × Nat)
  zeros : Bool
  deriving DecidableEq, Repr, Inhabited

/-- What the loader keeps of a checked image (R87, R91): the header's fields, the digests, the structure, and the
fixed payloads. -/
structure Image where
  generation : W32
  length : Nat
  rate96 : Bool
  ssig : List Byte
  fprint : List Byte
  structure' : Structure
  progs : List (W64 × List W64)
  datas : List (Nat × Nat × Nat × List Byte)
  reginit : List (W32 × W32)
  budget : List Nat
  regions : List Region
  compat : List CompatEntry
  deriving DecidableEq, Repr, Inhabited

/-- Where a load or graft stands (R96, R98, R106, R110); `left` counts the ticks of the leads that are still to pass. -/
inductive LoadPhase where
  | idle
  | reported
  | armed (t : Nat)
  | stopping (left : Nat)
  | distributed
  | starting (left : Nat)
  | graftT1 (t1 : Nat)
  | graftCopied (t2 : Nat)
  | graftSwapped (t2 : Nat)
  deriving DecidableEq, Repr

/-- The loader (chapter 03). `running` is the image whose structure the module has, `shown` the one that the IMG registers show, `source` its source; `slot` is the job's slot, none for a boot load; `staged` the image that phase 1 has checked, `stagedSrc` its source;

`ssig1` and `fprint1` the digests the partner reported last, `partnerCode` its report while a load of this module has not taken it (0 for an
image that passed); `leadMax` the leads of phase 2; `heldEnables` the enables of REGINIT; `takeTick` the takeover tick of a graft,
`oldImage` the image it grafts on, `carry` the regions it carries; `bootSlot` the flash slot that a boot load tried first. -/
structure ImgSt where
  running : Option Image
  shown : Option Image
  oldImage : Option Image
  source : Nat
  bgLoad : Bool
  phase : LoadPhase
  slot : Option Nat
  staged : Option Image
  stagedSrc : Nat
  ssig1 : List Byte
  fprint1 : List Byte
  partnerCode : Option Nat
  leadMax : Nat
  heldEnables : List (W32 × W32)
  takeTick : W32
  carry : List (Nat × Nat)
  bootSlot : Nat
  deriving DecidableEq, Repr

/-! ## The signal graph and the ring store (chapter 04) -/

/-- A selector's run state (R119, R121, R137): the live choice and the held one (none is silence), the fade that
runs, and the banked position and fade of a plain selector. `fresh` says that the fade starts with the coming boundary. -/
structure SelState where
  live : Option Nat
  prev : Option Nat
  held : Option (Option Nat)
  fadeLen : Nat
  fadeLeft : Nat
  fresh : Bool
  pos : Nat
  fade : Nat
  shadowPos : Nat
  shadowFade : Nat
  deriving DecidableEq, Repr

/-- A priority table entry (R120). -/
structure PriEntry where
  en : Bool
  pri : Nat
  deriving DecidableEq, Repr

/-- A delay line's run state (R125, R126): L in ticks, the delay in effect and the one faded from in samples, the fade, the write pointer
in samples, the samples written since the history broke, a delay or a length that a write has set for the next boundary, LATE, and whether the block of the running tick holds flagged silence, from a late fetch or a poisoned word (R134). -/
structure LineState where
  len : Nat
  delay : Nat
  old : Nat
  fadeLen : Nat
  fadeLeft : Nat
  w : Nat
  since : Nat
  pend : Option Nat
  want : Option Nat
  wantLen : Option Nat
  late : Bool
  silent : Bool
  deriving DecidableEq, Repr

/-- An announcement waiting on a voice (R128, R129). -/
structure Announce where
  clip : Nat
  pri : Nat
  id : W32
  repeats : Nat
  seq : Nat
  deriving DecidableEq, Repr, Inhabited

/-- The announcement a voice plays (R130): the latched clip entry and the next sample's number. -/
structure Play where
  ann : Announce
  addr : Nat
  length : Nat
  format : Nat
  pos : Nat
  left : Nat
  stopping : Bool
  deriving DecidableEq, Repr, Inhabited

/-- A message player voice (R127 to R131): its queue, what it plays, the block staged for the next mix. -/
structure Voice where
  queue : List Announce
  play : Option Play
  lastId : W32
  staged : List Int
  delivers : Bool
  late : Bool
  deriving DecidableEq, Repr

/-- A retained segment of a recorder channel (R133): its first tick, its place in the region and its length in bytes. -/
structure RecSeg where
  tick : Nat
  off : Nat
  len : Nat
  deriving DecidableEq, Repr, Inhabited

/-- One recorder channel (R133, R134): the open segment, the retained ones, oldest first, and where the next one goes. -/
structure Recorder where
  ticks : Nat
  firstTick : Nat
  gated : Bool
  flagged : Bool
  skipped : Bool
  buf : List Int
  segs : List RecSeg
  nextOff : Nat
  deriving DecidableEq, Repr

/-- A RECORDER_EXPORT or LEDGER_DUMP in progress (R135, R433): the slot, the recorder channel, the segments' first ticks or the entries' sequence
numbers still to be copied, the host address of the next one, and the counts of the result window. -/
structure DmaWork where
  slot : Nat
  chan : Nat
  plan : List Nat
  addr : Nat
  copied : Nat
  bytes : Nat
  first : W32
  skipped : Nat
  deriving DecidableEq, Repr

/-- The graph's samples in flight (R5, the pipeline table): the ingest being gathered and closed, the strip outputs, the mix and
(`moHold`) the mix before it, the output-side selectors, the output strips, the delay lines' outputs, what each
of them blends (its tap at the old and at the new delay, empty where the line passes its input, and the crossfade), whether a tick's output strips have still to be
closed, and the blocks emitted, by the tick in which they leave (frame n under n + 5, R23). -/
structure Pipe where
  gather : List (PortSrc × List Int)
  portIn : List (PortSrc × List Int)
  stripOut : Sparse (List Int)
  mixOut : Sparse (List Int)
  moHold : Sparse (List Int)
  outSel : Sparse (List Int)
  outStrip : Sparse (List Int)
  taps : Sparse (List Int)
  tapRaw : Sparse (List Int × List Int × Nat × Nat)
  stripsDue : Bool
  emitted : List (Nat × List (SinkId × List Int))
  deriving DecidableEq, Repr

/-- Selectors and the ring store (chapter 04). `contacts` and `ptts` are the closed CINs and the pressed keys as step 2 of the last
boundary closed them (R120); `dma` is the job of the DMA engine. -/
structure GraphSt where
  contacts : List Nat
  ptts : List Nat
  dma : Option DmaWork
  sels : Sparse SelState
  pris : Sparse PriEntry
  lines : Sparse LineState
  voices : Sparse Voice
  recs : Sparse Recorder
  pipe : Pipe
  deriving DecidableEq, Repr

/-! ## The Canopy (chapters 05 and 06) -/

/-- An activity detector's banked values (R160). -/
structure DetCfg where
  thr : Nat
  hold : Nat
  deriving DecidableEq, Repr

/-- An activity detector's run state (R161). -/
structure DetState where
  isOpen : Bool
  cnt : Nat
  deriving DecidableEq, Repr

/-- A pending SWAP (R189, R190): its sequence number and its own STEP, 0 for CNP_STEP. -/
structure PendSwap where
  seq : Nat
  step : Nat
  deriving DecidableEq, Repr

/-- A SCENE_STAGE in progress (R183, R184, R186). `pos` is the bytes of scene read, `crc` the running CRC over them, for MIRROR `pos` the 64 KiB
pieces copied; `lastTick` the tick of the last write, `swapAt` that of the first swap since writing began, `torn` that a write followed it. -/
structure SceneWork where
  slot : Nat
  mirror : Bool
  pos : Nat
  records : Nat
  written : Nat
  gains : Nat
  held : Nat
  firstTick : Option W32
  lastTick : W32
  swapAt : Option W32
  torn : Bool
  crc : W32
  want : W32
  total : Nat
  recCount : Nat
  deriving DecidableEq, Repr

/-- The Canopy's banks, flags, detectors and scales (chapters 05 and 06). Gain words are keyed n × 131,072 + b × 512 + a
(R148 over 2), flags by the same key. `prev` is the scale of R164 after the last tick, `counts` its N, `lastX` each input's last sample, `awake` the tiles that
are not gated in the running tick, `satOuts` the outputs that saturated in the last mix; `swapTick` and `swapStep` belong to the transition that runs;
`swapped` says that a swap has taken effect at the coming boundary; `timedOut` are the flags that the last mix clears at its timeout (R194), `eff` the words in effect at its
last sample, none before the first mix; `prvUsed` the proving cycles of the running tick, `prvLast` those of the last one. -/
structure CanopySt where
  liveBank1 : Bool
  gainLive : Sparse W16
  gainShadow : Sparse W16
  flags : Sparse Bool
  detLive : Sparse DetCfg
  detShadow : Sparse DetCfg
  dets : Sparse DetState
  sclLive : Sparse Nat
  sclShadow : Sparse Nat
  prev : Sparse Nat
  counts : Sparse Nat
  lastX : Sparse Int
  pendSwaps : List PendSwap
  swapTick : Nat
  swapStep : Nat
  swapped : Bool
  timedOut : List Nat
  eff : Option (Sparse W16)
  awake : List Nat
  tilesOn : Nat
  scrubPos : Nat
  flagScrubPos : Nat
  prvUsed : Sparse Nat
  prvLast : Sparse Nat
  satOuts : List Nat
  scene : Option SceneWork
  deriving DecidableEq, Repr

/-! ## The Fuller cores (chapter 07) -/

/-- A level of the loop stack (R225). -/
structure LoopLevel where
  outerLc : BitVec 16
  start : BitVec 13
  finish : BitVec 13
  deriving DecidableEq, Repr

/-- The old values that the move directly after a K or T write of a pointer, stride or ring register uses (R221). -/
structure LatePtr where
  k : Nat
  pt : BitVec 15
  st : BitVec 14
  rg : W32
  deriving DecidableEq, Repr

/-- One Fuller core (chapter 07): memories in words, data registers, accumulators, pointers, stacks, flags, and its
course through the tick. `far` is the far half of the inbound window (R204), `len` the instruction count of FUL_PROG, `active` a program running in the
tick, `recOvf` to `recIll` the record of the tick (R208), `esats` the saturated extractions of the instruction. -/
structure Core where
  p : Sparse W64
  x : Sparse W32
  y : Sparse W32
  far : Sparse W32
  len : Nat
  x0 : W32
  x1 : W32
  y0 : W32
  y1 : W32
  acc : Sparse W64
  pt : Sparse (BitVec 15)
  st : Sparse (BitVec 14)
  rg : Sparse W32
  lc : BitVec 16
  z : Bool
  n : Bool
  v : Bool
  ovf : Bool
  wrap : Bool
  esat : Bool
  ill : Bool
  pc : BitVec 13
  loops : List LoopLevel
  calls : List (BitVec 13)
  cycles : Nat
  active : Bool
  tended : Bool
  overran : Bool
  dead : Bool
  recOvf : Bool
  recWrap : Bool
  recIll : Bool
  late : Option LatePtr
  scrubPos : Nat
  esats : Nat
  deriving DecidableEq, Repr

/-! ## The audio ports (chapter 08) -/

/-- The states of R245. -/
inductive PortState where
  | off
  | starting
  | run
  | stopping
  deriving DecidableEq, Repr

/-- A slot mask that a write has set and the tick in which it landed (R247). -/
structure MaskChange where
  mask : W32
  tick : Nat
  deriving DecidableEq, Repr

/-- One port: 0 to 15 serial, 16 to 23 AES3 receivers, 24 to 31 AES3 transmitters. `cfg` and `depth` are the copies of
R246; `rx` and `tx` the expected indices of R239; `blk` the receive block by index; `firsts` by block the ts and E of R240, `eSum` and `eCnt` the phase errors of the tick (R254); masks R247;
`quality` the ticks for which the clock has been qualified; `lastSent` the samples sent last (R412); `win` the ticks of the running window of R248; `bw` the
ASRC bandwidth code in force (R267); `ended` the boundary at which the port last entered OFF. -/
structure Port where
  st : PortState
  leadLeft : Nat
  cfg : W32
  depth : W32
  runTick : Nat
  clock : Bool
  quality : Nat
  rateClass : Nat
  rate : Nat
  rateRef : Nat
  mismatch : Bool
  rx : Option Nat
  tx : Option Nat
  reenter : Bool
  blk : Sparse (List Int)
  firsts : Sparse (Nat × Int)
  maskRx : W32
  maskTx : W32
  chgRx : List MaskChange
  chgTx : List MaskChange
  locked : Bool
  lockTicks : Nat
  ratio : W32
  fade : Nat
  steering : Bool
  rootSteps : Nat
  csA : List Byte
  csB : List Byte
  csTx : List Byte
  eSum : Int
  eCnt : Nat
  lastSent : List Int
  win : Nat
  bw : Nat
  ended : Option Nat
  deriving DecidableEq, Repr

end Sys2Proof.Machine
end

