-- ==== Sys2Proof/Machine/Parts2.lean ====
section
/-! DEFINITION. The parts of State for chapters 09 to 11: the clock references, the network ports and streams, and
network time with the pulse outputs. -/

namespace Sys2Proof.Machine

/-! ## Clock references (chapter 09) -/

/-- The states of R270 (DISPUTED and NOT_FITTED are read from the flags and the image). -/
inductive RefState where
  | absent
  | qualifying
  | qualified
  | disqualified
  deriving DecidableEq, Repr

/-- One reference input (R268 to R271, R278). `hist` holds the φ of past boundaries, latest first; `guardLeft` and
`agreeLeft` are in ticks; `fail` is the reason of a disqualification found in the running tick, 0 for none. -/
structure RefIn where
  present : Bool
  st : RefState
  reason : Nat
  disputed : Bool
  minority : Bool
  agreeLeft : Nat
  guardLeft : Nat
  fail : Nat
  freq : Int
  winClean : Bool
  phi : Int
  hist : List Int
  deriving DecidableEq, Repr

/-- The PLL's states (R285). -/
inductive PllState where
  | stopped
  | freeRun
  | switching
  | locked
  | absorbing
  deriving DecidableEq, Repr

/-- The clock-reference subsystem (chapter 09). Frequencies of the output are kept in 1/3000 ppb, so that CLK_SLEW ppb
per second is CLK_SLEW units per tick. Targets: 0 to 5 an input, 6 free run, 7 none. `fromFree` says that the switch began in
free run, `holdTicks` the ticks since the last eligible input was lost (R280), `holdTe` the bound of the last boundary, `lastE0` |φ − build-out| of the input that
was eligible there, `absorbDev` the deviation of R277; `win` counts the ticks of the frequency window (R269), `winDone` says that the window ending at the coming
boundary has been judged, `looped` that the loop and the selector have done that boundary's work. -/
structure ClkSt where
  refs : Sparse RefIn
  pll : PllState
  outFreq : Int
  target : Nat
  selected : Nat
  targetFreq : Int
  targetLost : Bool
  fromFree : Bool
  buildout : Int
  wtrLeft : Option Nat
  epochValid : Bool
  atLimit : Bool
  holdTicks : Option Nat
  holdE0 : Nat
  holdTe : Nat
  lastE0 : Option Nat
  holdExceeded : Bool
  absorbDev : Int
  win : Nat
  winDone : Bool
  looped : Bool
  deriving DecidableEq, Repr

/-! ## Network ports and streams (chapter 10) -/

/-- A membership query that waits for its answer (R303): its protocol, the group it asks about as words in network order, zeros for all groups,
and the ticks left of its maximum response time. -/
structure GroupQuery where
  v6 : Bool
  group : List W32
  left : Nat
  deriving DecidableEq, Repr

/-- With what a PTP message is sent (R314): the port, its MAC address, its IP address, the 802.1Q tag where the port tags, and the DSCP. -/
structure PtpNet where
  port : Nat
  mac : List Byte
  v6 : Bool
  ip : List W32
  tag : Option Nat
  dscp : Nat
  deriving DecidableEq, Repr

/-- One network port (R287 to R290, R303, R304, R306, R309). `v2Left` counts the ticks left in which an IGMPv2 querier is still taken as heard,
`paused` the received pause in thirds of a bit time, `txOfs` NET_TX_OFS as of the last boundary, `used` the wire bytes of the running tick. -/
structure NetPort where
  up : Bool
  los : Bool
  modAbs : Bool
  an : Bool
  fec : Bool
  speed : Nat
  v2Left : Nat
  paused : Nat
  txOfs : Nat
  used : Nat
  queries : List GroupQuery
  deriving DecidableEq, Repr

/-- The states of R300. -/
inductive StrState where
  | off
  | waiting
  | run
  | lost
  deriving DecidableEq, Repr

/-- A packet kept for the comparison of R299: its first index, its frames and its payload's CRC-32C. -/
structure PktSeen where
  s0 : Nat
  frames : Nat
  crc : W32
  deriving DecidableEq, Repr

/-- One stream, receive or transmit (R291 to R300). `jitter` holds the filled sample indices, each with a sample
per channel; `quietA`, `quietB` and `quiet` count the ended ticks without an arrival, `arrA` and `arrB` note the running tick's, `lateA` and `lateB` those after
the bundle cutoff, which count as the next tick's (R413). -/
structure Stream where
  desc : List W32
  st : StrState
  legA : Bool
  legB : Bool
  lostA : Bool
  lostB : Bool
  arrA : Bool
  arrB : Bool
  lateA : Bool
  lateB : Bool
  quietA : Nat
  quietB : Nat
  quiet : Nat
  jitter : Sparse (List Int)
  seen : List PktSeen
  rgA : Nat
  rgB : Nat
  pkts : Nat
  late : Nat
  early : Nat
  dup : Nat
  pad : Nat
  malf : Nat
  guard : Nat
  diverge : Nat
  mMin : Option Int
  mMax : Option Int
  marMin : Option Int
  marMax : Option Int
  deriving DecidableEq, Repr

/-- Network ports, streams and host queues (chapter 10). Streams are keyed by index, transmit streams from 1024 on.
`applies` are the STR_APPLY writes of the tick, `bucket` the bytes taken from the token bucket of R305 in thirds, `due` the ports whose media
of the tick has not started, `vec3Rx` and `vec3Tx` whether vector 3 was sent in the tick. -/
structure NetSt where
  ports : Sparse NetPort
  streams : Sparse Stream
  applies : List W32
  bucket : Nat
  rxProd : Nat
  txCons : Nat
  vec3Rx : Bool
  vec3Tx : Bool
  dmaStopped : Bool
  marginTicks : Nat
  due : List Nat
  deriving DecidableEq, Repr

/-! ## Network time (chapter 11) -/

/-- The port states of TIM_STATE (R328). -/
inductive PtpState where
  | initializing
  | faulty
  | disabled
  | listening
  | preMaster
  | master
  | passive
  | uncalibrated
  | slave
  deriving DecidableEq, Repr

/-- A foreign master heard on a leg (R315): what its latest Announce said. -/
structure ForeignMaster where
  src : W64
  srcPort : Nat
  gm : W64
  pri1 : Nat
  clockClass : Nat
  accuracy : Nat
  variance : Nat
  pri2 : Nat
  steps : Nat
  utc : W32
  ptpScale : Bool
  count : Nat
  deriving DecidableEq, Repr, Inhabited

/-- A two-step Sync that waits for its Follow_Up (R319): the source, the sequence, the receipt time, the correction. -/
structure WaitSync where
  src : W64
  seq : Nat
  rx : Int
  corr : Int
  deriving DecidableEq, Repr

/-- One leg of the PTP port (R315): its foreign masters, its chosen master, its mean path delay and open exchanges; `annAt` is when its master's
last Announce was accepted. -/
structure PtpLeg where
  foreign : List ForeignMaster
  master : Option ForeignMaster
  mpd : Int
  wait : Option WaitSync
  t12 : Option Int
  reqSeq : Nat
  reqTx : Option Int
  lastOffset : Option Int
  annAt : Nat
  deriving DecidableEq, Repr

/-- Network time (chapter 11). `now` is the local clock in ns since its zero, `sinceTick` the part of it since the last tick boundary; `mono` what
the clock has counted since reset, which no step moves and the timeouts are measured on; `syncAt` is its reading at the last accepted Sync of the
serving leg, `syncLost` that three sync intervals have passed since; `rate` the correction in 0.001 ppb; `good`
the count of accepted offsets in a row within QUAL_THR; `outs` the run of outliers; `slewAt` when the rate was last corrected;
`qualThr` TIM_QUAL as of the last Sync; `disagree` the syncs in a row for which the legs differed. -/
structure TimSt where
  now : Nat
  sinceTick : Nat
  mono : Nat
  syncAt : Nat
  syncLost : Bool
  rate : Int
  pst : PtpState
  qualified : Bool
  serving : Nat
  legA : PtpLeg
  legB : PtpLeg
  gm : W64
  lastGm : Option W64
  first : Bool
  good : Nat
  outs : List Int
  slewAt : Nat
  stepHeld : Bool
  ackArmed : Bool
  disagree : Nat
  masterSeq : Nat
  qualThr : W32
  deriving DecidableEq, Repr

/-- One pulse output (R324, R325): the latched schedule in ns, the next edge's number, the pulse's end. -/
structure Pps where
  armed : Bool
  active : Bool
  start : Nat
  period : Nat
  width : Nat
  nextK : Nat
  endAt : Nat
  deriving DecidableEq, Repr

end Sys2Proof.Machine
end

