-- ==== Sys2Proof/Machine/Copy.lean ====
section
/-! DEFINITION. What a state copy between twins carries (R108, R109, R424), the operand of the commands that complete one. -/

namespace Sys2Proof

/-- What the state copy of a resynchronisation or a graft carries: the tick counter; the ledger's session, its counts and the records not yet
executed; DRAM and pool bytes; the Fuller cores with P, X, Y and their registers (R232); the Canopy's banks, flags and transitions; selectors, ring-store
pointers and queues; port and stream state; registers; the MiB copied. -/
structure StateCopy where
  tick : W64
  session : W32
  acc : Nat
  exe : Nat
  records : List RecordMsg
  dram : List (Nat × Byte)
  pool : List (Nat × Byte)
  cores : Sparse Machine.Core
  canopy : Machine.CanopySt
  graph : Machine.GraphSt
  ports : Sparse Machine.Port
  streams : Sparse Machine.Stream
  regs : List (Nat × W32)
  mib : Nat
  deriving DecidableEq, Repr

end Sys2Proof
end

