-- ==== Sys2Proof/Syntax.lean ====
section
/-! DEFINITION. The commands of the HVM-8400: one constructor per row of the table, each under the rule that governs it. The operands
carry what the outside supplies with the command: an address, a value, a frame, what was measured, what an error check found. -/

namespace Sys2Proof

/-- The commands (the rows of the table of operations and events). -/
inductive Instr where
  /-- TICK_BOUNDARY (R25). -/
  | tickBoundary (obs : TickObs)
  /-- CORE_OVERRUN (R31). -/
  | coreOverrun (core : Fin 64)
  /-- TCK_REALIGN (R18). -/
  | tckRealign (val : W32)
  /-- REALIGN_COUNTER_LOAD (R18). -/
  | realignCounterLoad
  /-- REALIGN_END (R18). -/
  | realignEnd
  /-- REGISTER_WRITE (R58). -/
  | registerWrite (addr : Nat) (val : W32)
  /-- RC_REGISTER_READ (R58). -/
  | rcRegisterRead (addr : Nat) (hit : ReadHit)
  /-- MULTIWORD_CAPTURE_READ (R60). -/
  | multiwordCaptureRead (addr : Nat)
  /-- NARROW_WRITE (R54). -/
  | narrowWrite (addr : Nat) (width : Width) (val : W32)
  /-- UNMAPPED (R53). -/
  | unmapped (addr : Nat) (isWrite : Bool) (val : W32)
  /-- FUNCTION_LEVEL_RESET (R44). -/
  | functionLevelReset
  /-- HOST_LINK (R44). -/
  | hostLink (up : Bool)
  /-- SPI_WRITE_FRAME (R47). -/
  | spiWriteFrame (bytes : List Byte)
  /-- SPI_READ_FRAME (R48). -/
  | spiReadFrame (bytes : List Byte) (waits : Nat)
  /-- SPI_READ_TIMEOUT (R48). -/
  | spiReadTimeout (bytes : List Byte)
  /-- SPI_STATUS_FRAME (R49). -/
  | spiStatusFrame (tag : Byte)
  /-- SHORT (R50). -/
  | spiShort (bytes : List Byte)
  /-- CFGCRC_PASS_END (R63). -/
  | cfgcrcPassEnd
  /-- COMMIT (R62). -/
  | commit (val : W32)
  /-- CFGCRC_REF_WRITE (R63). -/
  | cfgcrcRefWrite (val : W32)
  /-- EVT_PEND_CLEAR (R66). -/
  | evtPendClear (word : Fin 4) (val : W32)
  /-- EVT_RAISE (R80). -/
  | evtRaise (val : W32)
  /-- SYS_RESET (R77). -/
  | sysReset (val : W32)
  /-- STEWARD_WATCHDOG (R77). -/
  | stewardWatchdog
  /-- RESET_N (R536). -/
  | resetN (low : Bool)
  /-- COLD_START (R506). -/
  | coldStart
  /-- WAKE_SEQUENCE (R506). -/
  | wakeSequence (obs : WakeObs)
  /-- READY (R506). -/
  | ready
  /-- BOOT_BG_LOAD (R105). -/
  | bootBgLoad (bytes : Option (List Byte))
  /-- WAKE_ABANDON (R507). -/
  | wakeAbandon
  /-- COLD_START_RETRY (R507). -/
  | coldStartRetry
  /-- IMG_LOAD (R96). -/
  | imgLoad (slot : Fin 16) (bytes : Option (List Byte))
  /-- IMG_DMA_TIMEOUT (R97). -/
  | imgDmaTimeout (slot : Fin 16)
  /-- IMG_TWIN_REPORT (R106). -/
  | imgTwinReport (ssig fprint : List Byte) (reply : ImgReply)
  /-- IMG_LOAD_PHASE2 (R98). -/
  | imgLoadPhase2
  /-- IMG_MEDIA_RESTART (R98). -/
  | imgMediaRestart
  /-- GRAFT (R110). -/
  | graft (slot : Fin 16) (bytes : Option (List Byte))
  /-- GRAFT_T1 (R110). -/
  | graftT1
  /-- GRAFT_STATE_COMPLETE (R110). -/
  | graftStateComplete (copy : StateCopy)
  /-- GRAFT_T2 (R110). -/
  | graftT2
  /-- JOB_RESERVED_KIND (R69). -/
  | jobReservedKind (slot : Fin 16) (val : W32)
  /-- JOB_DISPATCH (R67). -/
  | jobDispatch (slot : Fin 16)
  /-- JOB_ABORT (R70). -/
  | jobAbort (slot : Fin 16) (val : W32)
  /-- JOB_SAFE_POINT_ABORT (R70). -/
  | jobSafePointAbort (slot : Fin 16)
  /-- JOB_DONE (R71). -/
  | jobDone (slot : Fin 16)
  /-- LEDGER_SUBMIT (R74). -/
  | ledgerSubmit (val : W32)
  /-- LEDGER_ACCEPT (R429). -/
  | ledgerAccept
  /-- LEDGER_NOP (R73). -/
  | ledgerNop (seq : Nat)
  /-- REG_WRITE (R73). -/
  | regWrite (seq : Nat)
  /-- SWAP (R189). -/
  | swap (seq : Nat)
  /-- SWAP_TAKES_EFFECT (R189). -/
  | swapTakesEffect
  /-- CROSSPOINT_STEP_TIMEOUT (R193). -/
  | crosspointStepTimeout (tile : Fin 256) (b a : Nat)
  /-- ANNOUNCE (R129). -/
  | announce (seq : Nat)
  /-- ROLE_SWAP (R422). -/
  | roleSwap (seq : Nat)
  /-- GRF_SEL_SET (R119). -/
  | grfSelSet (val : W32)
  /-- GRF_PRI_SET (R138). -/
  | grfPriSet (val : W32)
  /-- SELECTOR_FADE_END (R122). -/
  | selectorFadeEnd (sel : Nat)
  /-- RNG_DLY_SET (R125). -/
  | rngDlySet (val : W32)
  /-- RNG_LEN_SET (R126). -/
  | rngLenSet (val : W32)
  /-- DELAY_FADE_END (R125). -/
  | delayFadeEnd (line : Nat)
  /-- PLAY_END (R130). -/
  | playEnd (voice : Nat)
  /-- PLY_CANCEL_STOP (R131). -/
  | plyCancelStop (voice : Nat)
  /-- PLY_CANCEL_QUEUE (R131). -/
  | plyCancelQueue (voice : Nat)
  /-- PLY_CANCEL_BOTH (R131). -/
  | plyCancelBoth (voice : Nat)
  /-- RECORDER_SEGMENT_END (R133). -/
  | recorderSegmentEnd (ch : Nat)
  /-- RECORDER_EXPORT (R135). -/
  | recorderExport (slot : Fin 16) (n : Nat)
  /-- GAIN_SHADOW_WRITE (R151). -/
  | gainShadowWrite (addr : Nat) (width : Width) (val : W32) (hit : WriteHit)
  /-- CNP_DET_SET (R172). -/
  | cnpDetSet (val : W32)
  /-- CNP_SCL_SET (R172). -/
  | cnpSclSet (val : W32)
  /-- DETECTOR_HOLD_EXPIRY (R161). -/
  | detectorHoldExpiry (d : Nat)
  /-- SCENE_STAGE_LOAD (R183). -/
  | sceneStageLoad (slot : Fin 16) (n : Nat) (collide : Bool)
  /-- SCENE_STAGE_MIRROR (R184). -/
  | sceneStageMirror (slot : Fin 16) (n : Nat)
  /-- FULLER_MEMORY_WRITE (R233). -/
  | fullerMemoryWrite (addr : Nat) (width : Width) (val : W32) (hit : WriteHit)
  /-- NOP (R219). -/
  | nop (core : Fin 64) (f : PArgs)
  /-- CLR (R219). -/
  | clr (core : Fin 64) (f : PArgs)
  /-- MPY (R219). -/
  | mpy (core : Fin 64) (f : PArgs)
  /-- MAC (R219). -/
  | mac (core : Fin 64) (f : PArgs)
  /-- MSU (R219). -/
  | msu (core : Fin 64) (f : PArgs)
  /-- DMPY (R219). -/
  | dmpy (core : Fin 64) (f : PArgs)
  /-- DMAC (R219). -/
  | dmac (core : Fin 64) (f : PArgs)
  /-- CMPY (R219). -/
  | cmpy (core : Fin 64) (f : PArgs)
  /-- CMAC (R219). -/
  | cmac (core : Fin 64) (f : PArgs)
  /-- CMACJ (R219). -/
  | cmacj (core : Fin 64) (f : PArgs)
  /-- ADD (R219). -/
  | add (core : Fin 64) (f : PArgs)
  /-- SUB (R219). -/
  | sub (core : Fin 64) (f : PArgs)
  /-- ADDX (R219). -/
  | addx (core : Fin 64) (f : PArgs)
  /-- ASL (R219). -/
  | asl (core : Fin 64) (f : PArgs)
  /-- ASR (R219). -/
  | asr (core : Fin 64) (f : PArgs)
  /-- NEG (R219). -/
  | neg (core : Fin 64) (f : PArgs)
  /-- ABS (R219). -/
  | abs (core : Fin 64) (f : PArgs)
  /-- MAXA (R219). -/
  | maxa (core : Fin 64) (f : PArgs)
  /-- CMP (R219). -/
  | cmp (core : Fin 64) (f : PArgs)
  /-- TST (R219). -/
  | tst (core : Fin 64) (f : PArgs)
  /-- DIV (R213). -/
  | div (core : Fin 64) (f : PArgs)
  /-- COPY (R219). -/
  | copy (core : Fin 64) (f : PArgs)
  /-- JMP (R222). -/
  | jmp (core : Fin 64) (j : JArgs)
  /-- CALL (R222). -/
  | call (core : Fin 64) (j : JArgs)
  /-- RET (R222). -/
  | ret (core : Fin 64) (j : JArgs)
  /-- DO (R225). -/
  | doLoop (core : Fin 64) (j : JArgs)
  /-- DOLC (R225). -/
  | dolc (core : Fin 64) (j : JArgs)
  /-- BRKLP (R222). -/
  | brklp (core : Fin 64) (j : JArgs)
  /-- TEND (R222). -/
  | tend (core : Fin 64) (j : JArgs)
  /-- K_IMMEDIATE (R224). -/
  | kImmediate (core : Fin 64) (sel : Fin 64) (val : W32)
  /-- T_TRANSFER (R224). -/
  | tTransfer (core : Fin 64) (dst src : Fin 64)
  /-- RESERVED_ENCODING (R227). -/
  | reservedEncoding (core : Fin 64) (word : W64)
  /-- PORT_ENABLE (R244). -/
  | portEnable (port : Fin 32)
  /-- PORT_DISABLE (R245). -/
  | portDisable (port : Fin 32)
  /-- PORT_LEAD_EXPIRY (R245). -/
  | portLeadExpiry (port : Fin 32)
  /-- PORT_RECEIVE_FRAME (R239). -/
  | portReceiveFrame (port : Fin 16) (sp : Nat) (frac : Nat) (len : Nat) (dr : List Bool)
  /-- PORT_TRANSMIT_FRAME (R239). -/
  | portTransmitFrame (port : Fin 32) (sp : Nat) (edge : TxEdge)
  /-- PORT_CLOCK_LOSS (R249). -/
  | portClockLoss (port : Fin 24)
  /-- PORT_CLOCK_QUALIFY (R250). -/
  | portClockQualify (port : Fin 24) (rate : Nat)
  /-- RATE_WINDOW_END (R248). -/
  | rateWindowEnd (port : Fin 24) (rate : Nat)
  /-- SLOT_MASK_WRITE (R247). -/
  | slotMaskWrite (port : Fin 16) (tx : Bool) (val : W32)
  /-- ASRC_LOCK (R253). -/
  | asrcLock (port : Fin 24) (ratio : W32)
  /-- AES3_RECEIVE_FRAME (R256). -/
  | aes3ReceiveFrame (rx : Fin 8) (sp : Nat) (frac : Nat) (a b : W32) (parityErr biphaseErr : Bool)
  /-- AES_CS (R257). -/
  | aesCs (rx : Fin 8) (csA csB : List Byte)
  /-- AES3_TX_BLOCK_START (R258). -/
  | aes3TxBlockStart (tx : Fin 8)
  /-- REF_PRESENT (R270). -/
  | refPresent (inp : Fin 6)
  /-- REF_LOST (R270). -/
  | refLost (inp : Fin 6)
  /-- FREQ_WINDOW_END (R270). -/
  | freqWindowEnd (freqs : List (Nat × Int))
  /-- GUARD_EXPIRY (R270). -/
  | guardExpiry (inp : Fin 6)
  /-- WTR_EXPIRY (R272). -/
  | wtrExpiry
  /-- SWITCH_DONE (R273). -/
  | switchDone
  /-- ABSORBED (R277). -/
  | absorbed
  /-- HOLDOVER (R280). -/
  | holdover
  /-- TICK_MARKER (R281). -/
  | tickMarker (offset : Int)
  /-- NET_ENABLE (R290). -/
  | netEnable (port : Fin 4) (val : W32)
  /-- NET_LINK (R289). -/
  | netLink (port : Fin 4) (up : Bool) (pins : LinkPins)
  /-- NET_FRAME_RECEIVE (R297). -/
  | netFrameReceive (port : Fin 4) (bytes : List Byte)
  /-- STREAM_LOAD (R291). -/
  | streamLoad (val : W32)
  /-- STREAM_ENABLE (R291). -/
  | streamEnable (val : W32)
  /-- STREAM_DISABLE (R291). -/
  | streamDisable (val : W32)
  /-- STREAM_CLEAR (R291). -/
  | streamClear (val : W32)
  /-- STREAM_LOST (R300). -/
  | streamLost (idx : Nat)
  /-- STREAM_MARGIN_WINDOW_END (R298). -/
  | streamMarginWindowEnd
  /-- MEDIA_TX_START (R296). -/
  | mediaTxStart (port : Fin 4)
  /-- HOST_FRAME_SEND (R306). -/
  | hostFrameSend (slotBytes : List Byte)
  /-- STR_HQ_TX_PROD (R306). -/
  | strHqTxProd (val : W32)
  /-- MEMBERSHIP_REPORT (R303). -/
  | membershipReport (port : Fin 4)
  /-- IGMPV2_QUERIER_TIMEOUT (R303). -/
  | igmpv2QuerierTimeout (port : Fin 4)
  /-- PAUSE_EXPIRY (R304). -/
  | pauseExpiry (port : Fin 4)
  /-- PTP_ENABLE (R314). -/
  | ptpEnable (val : W32)
  /-- SYNC (R319). -/
  | ptpSync (head : PtpHead) (t1 : Option Int) (t2 : Int) (dt : Nat)
  /-- FOLLOW_UP (R319). -/
  | followUp (head : PtpHead) (t1 : Int) (dt : Nat)
  /-- ANNOUNCE_MESSAGE (R321). -/
  | announceMessage (head : PtpHead) (body : AnnounceBody) (dt : Nat)
  /-- DELAY_RESP (R315). -/
  | delayResp (head : PtpHead) (t4 : Int) (reqSrc : W64) (dt : Nat)
  /-- DELAY_REQ_SEND (R315). -/
  | delayReqSend (legB : Bool) (t3 : Int) (dt : Nat)
  /-- PTP_MASTER_SEND (R313). -/
  | ptpMasterSend (legB : Bool) (dt : Nat)
  /-- DELAY_REQ (R313). -/
  | delayReq (head : PtpHead) (rx : Int) (dt : Nat)
  /-- ANNOUNCE_RECEIPT_TIMEOUT (R34). -/
  | announceReceiptTimeout (dt : Nat)
  /-- SYNC_LOSS_TIMEOUT (R322). -/
  | syncLossTimeout (dt : Nat)
  /-- TIM_STEP_ACK (R320). -/
  | timStepAck (val : W32)
  /-- SET (R322). -/
  | timSet (val : W32)
  /-- ARM (R324). -/
  | ppsArm (p : Fin 4) (val : W32)
  /-- DISARM (R332). -/
  | ppsDisarm (p : Fin 4) (val : W32)
  /-- PPS_EDGE (R325). -/
  | ppsEdge (p : Fin 4)
  /-- PPS_PULSE_END (R325). -/
  | ppsPulseEnd (p : Fin 4)
  /-- REFRESH_DUE (R342). -/
  | refreshDue (ch : Fin 2) (rank : Fin 4)
  /-- OWED_REFRESH_ISSUE (R342). -/
  | owedRefreshIssue (ch : Fin 2) (rank : Fin 4) (n : Nat)
  /-- DRAM_TEMP_READ (R341). -/
  | dramTempRead (ch : Fin 2) (hot : List Bool)
  /-- ZQ_CALIBRATION (R338). -/
  | zqCalibration (ch : Fin 2)
  /-- RETRAIN (R338). -/
  | retrain (ch : Fin 2) (ok : Bool) (readWin writeWin lane : Nat)
  /-- DRAM_READ (R345). -/
  | dramRead (addr : Nat) (n : Nat) (master : Fin 12) (qos : Fin 16) (found : List DramFound)
  /-- DRAM_WRITE (R344). -/
  | dramWrite (addr : Nat) (bytes : List (Option Byte)) (master : Fin 12) (qos : Fin 16)
  /-- WRITE_QUEUE_ISSUE (R344). -/
  | writeQueueIssue (ch : Fin 2) (found : List DramFound)
  /-- PATROL_SCRUB_READ (R347). -/
  | patrolScrubRead (ch : Fin 2) (found : List (List DramFound))
  /-- DRAM_PARITY (R348). -/
  | dramParity (ch : Fin 2) (rank : Fin 4) (hit : ParityHit)
  /-- HAMMER_WINDOW_START (R350). -/
  | hammerWindowStart
  /-- ROW_HAMMER (R350). -/
  | rowHammer (ch : Fin 2) (rank : Fin 4) (bg : Fin 4) (bank : Fin 4) (row : Nat)
  /-- MIGRATION_COMPLETE (R353). -/
  | migrationComplete (ch : Fin 2)
  /-- MIGRATE (R355). -/
  | migrate (slot : Fin 16)
  /-- APERTURE_ACCESS (R357). -/
  | apertureAccess (addr : Nat) (isWrite : Bool) (width : Width) (val : W32) (found : DramFound)
  /-- MARCH_PRESERVING (R372). -/
  | marchPreserving (slot : Fin 16) (fails : List FailWord)
  /-- MARCH_DESTRUCTIVE (R371). -/
  | marchDestructive (slot : Fin 16) (fails : List FailWord)
  /-- RETENTION_HOLD_END (R369). -/
  | retentionHoldEnd
  /-- LOAN_BANK_SWITCH (R372). -/
  | loanBankSwitch
  /-- MEM_REP_SET (R377). -/
  | memRepSet (val : W32)
  /-- REPAIR_ROW_SWITCH (R377). -/
  | repairRowSwitch (bank : Fin 64) (spare : Fin 8)
  /-- LOCKED_SEQUENCE_REQUEST (R392). -/
  | lockedSequenceRequest (master : Fin 12) (target : Fin 7) (addr : Nat)
  /-- LOCK_RELEASE_TIMEOUT (R392). -/
  | lockReleaseTimeout
  /-- TRK_TIMEOUT (R395). -/
  | trkTimeout (master : Fin 12) (target : Fin 7) (addr : Nat)
  /-- TRK_ISOLATE (R396). -/
  | trkIsolate (master : Fin 12) (granted : Nat) (dropped : Nat) (target : Fin 7) (addr : Nat)
  /-- QOS_AGEING (R388). -/
  | qosAgeing (cycles : Nat)
  /-- TWIN_PAIR (R406). -/
  | twinPair (val : W32)
  /-- TWIN_UNPAIR (R406). -/
  | twinUnpair (val : W32)
  /-- PAIR_FORM (R406). -/
  | pairForm
  /-- TWIN_LINK_UP (R407). -/
  | twinLinkUp (serial : W64) (lanes latency : Nat)
  /-- TWIN_LINK_LOSS (R408). -/
  | twinLinkLoss
  /-- TWIN_HEARTBEAT (R410). -/
  | twinHeartbeat (tick : Nat) (edge : Bool)
  /-- DIGEST_MESSAGE (R416). -/
  | digestMessage (tick : Nat) (crc : W32) (fault : Bool)
  /-- BUNDLE_CUTOFF (R413). -/
  | bundleCutoff
  /-- BUNDLE_TRAILER (R415). -/
  | bundleTrailer (frame : Nat) (bytes acc : Nat) (whole : Bool)
  /-- BUNDLE_ITEM (R414). -/
  | bundleItem (frame : Nat) (item : BundleItem)
  /-- LEDGER_RECORD_FORWARD (R429). -/
  | ledgerRecordForward (r : RecordMsg)
  /-- FORWARDED_PACKET (R307). -/
  | forwardedPacket (port : Fin 4) (bytes : List Byte)
  /-- TAKEOVER (R420). -/
  | takeover (cause : Fin 4)
  /-- ROLE_RX_CHANGE (R411). -/
  | roleRxChange (level : Bool)
  /-- RESYNC (R424). -/
  | resync (slot : Fin 16)
  /-- AUTO_RESYNC_START (R424). -/
  | autoResyncStart
  /-- RESYNC_DELTA (R424). -/
  | resyncDelta (copy : StateCopy)
  /-- RESYNC_STANDBY_REACHED (R424). -/
  | resyncStandbyReached
  /-- LEDGER_DUMP (R433). -/
  | ledgerDump (slot : Fin 16) (n : Nat)
  /-- HEARTWOOD_POWER_UP (R439). -/
  | heartwoodPowerUp
  /-- HW_CLOCK_LOSS (R440). -/
  | hwClockLoss
  /-- HW_CLOCK_RETURN (R440). -/
  | hwClockReturn
  /-- BRIDGE_FRAME (R441). -/
  | bridgeFrame (mics : List (Nat × List Int)) (status : Bool)
  /-- HW_BRIDGE (R441). -/
  | hwBridge
  /-- ENGINE_HEARTBEAT (R458). -/
  | engineHeartbeat (tick : Nat)
  /-- HEARTWOOD_TICK (R458). -/
  | heartwoodTick (obs : HwdObs)
  /-- HW_FALLBACK (R459). -/
  | hwFallback
  /-- HW_RETURN (R462). -/
  | hwReturn
  /-- FALLBACK_FORCE_SET (R463). -/
  | fallbackForceSet (val : W32)
  /-- FALLBACK_FORCE_CLEAR (R463). -/
  | fallbackForceClear (val : W32)
  /-- RESERVE_MESSAGE_END (R461). -/
  | reserveMessageEnd
  /-- JACK_INSERT (R444). -/
  | jackInsert (mic : Fin 4)
  /-- MIC_TYPE_DETECT (R444). -/
  | micTypeDetect (mic : Fin 4) (current rd : Nat)
  /-- JACK_REMOVE (R444). -/
  | jackRemove (mic : Fin 4)
  /-- HW_MIC_FAULT (R445). -/
  | hwMicFault (mic : Fin 4) (iUa : Nat)
  /-- HW_KEY (R446). -/
  | hwKey (mic : Fin 4) (iUa : Nat)
  /-- HW_CONTACT (R448). -/
  | hwContact (cin : Fin 8) (ohms : Nat)
  /-- PILOT_WINDOW_END (R455). -/
  | pilotWindowEnd (ch : Fin 2) (r x : Int) (tooSmall : Bool) (power : Nat)
  /-- HW_SHORT (R456). -/
  | hwShort (ch : Fin 2) (r x : Int)
  /-- SHORT_PROBE (R457). -/
  | shortProbe (ch : Fin 2)
  /-- SHORT_PROBE_END (R457). -/
  | shortProbeEnd (ch : Fin 2) (r x : Int) (limited : Bool)
  /-- CHANNEL_REENABLE (R457). -/
  | channelReenable (ch : Fin 2) (val : W32)
  /-- VBAT_FAULT (R453). -/
  | vbatFault (mv : Nat)
  /-- VBAT_RETURN (R453). -/
  | vbatReturn (mv : Nat)
  /-- HW_THERMAL (R453). -/
  | hwThermal (temp : Int)
  /-- RESERVE_STORE_READ (R466). -/
  | reserveStoreRead
  /-- RESERVE_STORE_WRITE (R466). -/
  | reserveStoreWrite (val : W32)
  /-- RESERVE_CHECK (R466). -/
  | reserveCheck
  /-- HWD_RS_SAVE (R467). -/
  | hwdRsSave (val : W32)
  /-- IMPEDANCE_SWEEP (R468). -/
  | impedanceSweep (slot : Fin 16)
  /-- SWEEP_POINT_END (R468). -/
  | sweepPointEnd (r x : Int)
  /-- PROVE (R483). -/
  | prove (slot : Fin 16)
  /-- PROVE_GROUP_START (R478). -/
  | proveGroupStart
  /-- PROVE_GROUP_END (R481). -/
  | proveGroupEnd (meas : List ProveMeas)
  /-- PROVE_WRITES_DONE (R483). -/
  | proveWritesDone
  /-- PRESENCE_ASSERT (R492). -/
  | presenceAssert
  /-- PRESENCE_RELEASE (R492). -/
  | presenceRelease
  /-- PRESENCE_WINDOW_EXPIRY (R493). -/
  | presenceWindowExpiry
  /-- SEAL_SAMPLE (R494). -/
  | sealSample (ok : Bool)
  /-- RESEAL (R495). -/
  | reseal (val : W32)
  /-- DOMAIN_FAULT (R501). -/
  | domainFault (d : Fin 12)
  /-- SUPPLY_FAIL (R502). -/
  | supplyFail
  /-- SUPPLY_RETURN (R502). -/
  | supplyReturn
  /-- VCORE_UNDERVOLTAGE (R528). -/
  | vcoreUndervoltage
  /-- TEMP_WARN_CROSS (R502). -/
  | tempWarnCross (temp : Int)
  /-- ENGINE_THERMAL_FAULT (R502). -/
  | engineThermalFault
  /-- PWD_LATCH_CLR (R511). -/
  | pwdLatchClr (val : W32)
  /-- PWD_NAP (R504). -/
  | pwdNap (val : W32)
  /-- NAP_ENTRY (R504). -/
  | napEntry
  /-- NAP_WAKE (R505). -/
  | napWake (source : Nat) (cin : Nat)
  /-- MONITOR_CHARACTER (R515). -/
  | monitorCharacter (char : Byte) (framing : Bool)
  /-- MONITOR_BREAK (R514). -/
  | monitorBreak
  /-- UNKNOWN_COMMAND (R516). -/
  | unknownCommand (line : List Byte)
  /-- PEEK (R516). -/
  | monPeek (addr : Nat) (n : Nat)
  /-- DUMP (R516). -/
  | monDump (addr : Nat) (n : Nat)
  /-- DRAM (R516). -/
  | monDram (addr : Nat) (n : Nat)
  /-- EV (R516). -/
  | monEv
  /-- JOB (R516). -/
  | monJob (slot : Nat)
  /-- LEDGER (R516). -/
  | monLedger (idx : Nat) (n : Nat)
  /-- STAT (R516). -/
  | monStat
  /-- TRACE_TICK (R521). -/
  | traceTick (n : Nat)
  /-- TRACE_EV (R521). -/
  | traceEv (n : Nat)
  /-- TRACE_LEDGER (R521). -/
  | traceLedger (n : Nat)
  /-- STOP (R516). -/
  | monStop
  /-- BAUD (R513). -/
  | baud (code : Nat)
  /-- POKE (R519). -/
  | poke (addr : Nat) (val : W32)
  /-- RMW (R519). -/
  | rmw (addr : Nat) (val mask : W32)
  /-- TEST_ON (R520). -/
  | testOn
  /-- TEST_OFF (R520). -/
  | testOff
  /-- MON_BAUD_WRITE (R523). -/
  | monBaudWrite (val : W32)
  /-- SPI_BAD_OP_FRAME (R50). -/
  | spiBadOpFrame (bytes : List Byte)
  /-- MON_TX_CHARACTER_SENT (R513). -/
  | monTxCharacterSent
  /-- VAON_LOSS (R495). -/
  | vaonLoss
  deriving DecidableEq, Repr

end Sys2Proof
end

