-- ==== Sys2Proof/Decode.lean ====
section
/-! DEFINITION. The command that a word of the table's bits spells, and the instruction that a word of a Fuller core's program encodes (R218
to R222, R227). -/

namespace Sys2Proof

/-- The command that a word spells by the table's bits: the table gives bits to none of its rows, so no word spells a command. (The encodings
of R218 to R227 are words of a core's program; `fulInstr` reads them.) -/
def decodeTableWord (_ _ : Nat) : Option Instr := none

/-! ## The words of a Fuller program -/

/-- Bits [hi:lo] of a program word. -/
def wordField (w : W64) (hi lo : Nat) : Nat := w.toNat / 2 ^ lo % 2 ^ (hi + 1 - lo)
/-- A move field of a format P word, at bit `lo` (R220): [19] direction, [18:15] code, [14:12] pointer, [11:10] modify mode. -/
def moveField (w : W64) (lo : Nat) : PMove :=
  { store := decide (wordField w (lo + 19) (lo + 19) = 1), code := Fin.ofNat 16 (wordField w (lo + 18) (lo + 15)),
    ptr := Fin.ofNat 8 (wordField w (lo + 14) (lo + 12)), mode := Fin.ofNat 4 (wordField w (lo + 11) (lo + 10)) }
/-- The operand fields of a format P word (R218, R219): [56:55] DA, [54:53] SA, [52] XS, [51] YS, [50:46] K, [39:20] X move, [19:0] Y move. -/
def pFields (w : W64) : PArgs :=
  { da := Fin.ofNat 4 (wordField w 56 55), sa := Fin.ofNat 4 (wordField w 54 53), xs := decide (wordField w 52 52 = 1),
    ys := decide (wordField w 51 51 = 1), k := Fin.ofNat 32 (wordField w 50 46), x := moveField w 20, y := moveField w 0 }
/-- The operand fields of a format J word (R218): [59:56] COND, [51:36] COUNT, [28:16] END, [12:0] TARGET. -/
def jFields (w : W64) : JArgs :=
  { cond := Fin.ofNat 16 (wordField w 59 56), count := BitVec.ofNat 16 (wordField w 51 36), finish := BitVec.ofNat 13 (wordField w 28 16),
    target := BitVec.ofNat 13 (wordField w 12 0) }
/-- Format P: OPC [62:57] picks the operation (R219); 0x16 to 0x3F are reserved. -/
def pInstr (k : Fin 64) (w : W64) : Instr :=
  match wordField w 62 57 with
  | 0x00 => .nop k (pFields w)
  | 0x01 => .clr k (pFields w)
  | 0x02 => .mpy k (pFields w)
  | 0x03 => .mac k (pFields w)
  | 0x04 => .msu k (pFields w)
  | 0x05 => .dmpy k (pFields w)
  | 0x06 => .dmac k (pFields w)
  | 0x07 => .cmpy k (pFields w)
  | 0x08 => .cmac k (pFields w)
  | 0x09 => .cmacj k (pFields w)
  | 0x0A => .add k (pFields w)
  | 0x0B => .sub k (pFields w)
  | 0x0C => .addx k (pFields w)
  | 0x0D => .asl k (pFields w)
  | 0x0E => .asr k (pFields w)
  | 0x0F => .neg k (pFields w)
  | 0x10 => .abs k (pFields w)
  | 0x11 => .maxa k (pFields w)
  | 0x12 => .cmp k (pFields w)
  | 0x13 => .tst k (pFields w)
  | 0x14 => .div k (pFields w)
  | 0x15 => .copy k (pFields w)
  | _ => .reservedEncoding k w
/-- Format J: KIND [55:52] picks the control instruction (R222); 7 to 15 are reserved. -/
def jInstr (k : Fin 64) (w : W64) : Instr :=
  match wordField w 55 52 with
  | 0 => .jmp k (jFields w)
  | 1 => .call k (jFields w)
  | 2 => .ret k (jFields w)
  | 3 => .doLoop k (jFields w)
  | 4 => .dolc k (jFields w)
  | 5 => .brklp k (jFields w)
  | 6 => .tend k (jFields w)
  | _ => .reservedEncoding k w
/-- The instruction that a word of core k's program encodes: the top bits fix its format (R218), formats 0b1011 to 0b1111 are reserved (R227).
Bits of a field marked zero are ignored. -/
def fulInstr (k : Fin 64) (w : W64) : Instr :=
  match wordField w 63 60 with
  | 8 => jInstr k w
  | 9 => .kImmediate k (Fin.ofNat 64 (wordField w 59 54)) (BitVec.ofNat 32 (wordField w 31 0))
  | 10 => .tTransfer k (Fin.ofNat 64 (wordField w 59 54)) (Fin.ofNat 64 (wordField w 53 48))
  | n => if n < 8 then pInstr k w else .reservedEncoding k w

end Sys2Proof
end

