-- ==== Sys2Proof/Config.lean ====
section
/-! DEFINITION. What an implementation fixes and the spec leaves open: free values. Each is a constant without a body, so that no
proof can see what it is (log entry 3). -/

namespace Sys2Proof

/-- A free number, applied to the state's counter of free values. -/
opaque Config.freeNat : Nat → Nat
/-- A free signed number, applied to the state's counter of free values. -/
opaque Config.freeInt : Nat → Int
/-- A free bit, applied to the state's counter of free values. -/
opaque Config.freeBit : Nat → Bool
/-- The sample words that a FULL or a WIDE recorder segment holds for a sample: R133 gives the width, not the conversion. -/
opaque Config.recFull : Int → Nat
opaque Config.recWide : Int → Nat
/-- Byte i of a SPEECH segment made of the given samples: R133 does not give the decimating filter. -/
opaque Config.recSpeech : List Int → Nat → Byte
/-- A sample of an ASRC channel that transmits, by the channel, the instant of its frame (sample and cycles), the bandwidth code, the ratio and the samples
that the channel has been given: R252 gives the converter's characteristics, not its filter. -/
opaque Config.asrcOut : Nat → Nat → Nat → Nat → Nat → List Int → Int
/-- The gain of the clock loop by its bandwidth code (13 for the 100 Hz of R281), in 1/3000 ppb per ns: R275 gives bandwidths, not numbers. -/
opaque Config.loopGain : Nat → Nat
/-- The output digest over the samples emitted and stored in a tick and LDG_EXE: R416 fixes what it covers, not the order. -/
opaque Config.digest : List Int → Nat → Nat

/-- The Ethernet destination of a unicast media packet, and the flow label of an IPv6 one, by the stream and the packet's first index: no rule
gives them, and R296 and R307 make them the same on both legs and in both twins. -/
opaque Config.nextHop : Nat → Nat → Nat
opaque Config.flowLabel : Nat → Nat → Nat

/-- What the record streams of an image's GRAPH, SELECTOR, TILEMAP, RINGMAP and PARAM sections say, by the rate and the sections' kinds and payloads, or
the table index of a section whose content is illegal: R90 fixes the records' heads, not the types' contents. -/
opaque Config.imageStructure : Bool → List (Nat × List Byte) → Except Nat Structure

end Sys2Proof
end

