-- ==== Sys2Proof/Machine/Sparse.lean ====
section
/-! DEFINITION. Reading and writing the sparse maps of the state: register files, memories, tables. A map that
holds words or bytes is kept canonical by `spSet`: keys rise strictly and no entry equals what an unlisted key reads as. -/

namespace Sys2Proof.Machine

/-- What a key reads as; an unlisted key reads as `d`. -/
def spGet {α : Type} (d : α) : Sparse α → Nat → α
  | [], _ => d
  | (j, v) :: m, k => if j = k then v else spGet d m k

/-- Whether a key is listed, and with what. -/
def spFind {α : Type} : Sparse α → Nat → Option α
  | [], _ => none
  | (j, v) :: m, k => if j = k then some v else spFind m k

/-- The map without a key. -/
def spDel {α : Type} : Sparse α → Nat → Sparse α
  | [], _ => []
  | (j, v) :: m, k => if j = k then spDel m k else (j, v) :: spDel m k

/-- The map with an entry put before the first larger key. -/
def spIns {α : Type} (k : Nat) (v : α) : Sparse α → Sparse α
  | [] => [(k, v)]
  | (j, w) :: m => if k < j then (k, v) :: (j, w) :: m else (j, w) :: spIns k v m

/-- Lists the key with the value, whatever it is. -/
def spPut {α : Type} (m : Sparse α) (k : Nat) (v : α) : Sparse α := spIns k v (spDel m k)

/-- Writes a value; writing what an unlisted key reads as removes the entry, so that equal maps are equal data. -/
def spSet {α : Type} [DecidableEq α] (d : α) (m : Sparse α) (k : Nat) (v : α) : Sparse α :=
  if v = d then spDel m k else spPut m k v

/-- Reads, changes and lists again. -/
def spMod {α : Type} (d : α) (m : Sparse α) (k : Nat) (f : α → α) : Sparse α := spPut m k (f (spGet d m k))

/-- Writes a run of values at rising keys. -/
def spSetAll {α : Type} [DecidableEq α] (d : α) (m : Sparse α) (k : Nat) : List α → Sparse α
  | [] => m
  | v :: vs => spSetAll d (spSet d m k v) (k + 1) vs

/-- Reads a run of `n` values from a key on. -/
def spRun {α : Type} (d : α) (m : Sparse α) (k : Nat) : Nat → List α
  | 0 => []
  | n + 1 => spGet d m k :: spRun d m (k + 1) n

/-- The map without the keys from `lo` up to and without `hi`. -/
def spClear {α : Type} : Sparse α → Nat → Nat → Sparse α
  | [], _, _ => []
  | (j, v) :: m, lo, hi => if lo ≤ j ∧ j < hi then spClear m lo hi else (j, v) :: spClear m lo hi

/-- Whether the keys rise strictly from above a bound and no entry equals what its key reads as unlisted. -/
def spCanonFrom {α : Type} [DecidableEq α] (d : Nat → α) : Option Nat → Sparse α → Bool
  | _, [] => true
  | lo, (j, v) :: m =>
    (match lo with | none => true | some l => decide (l < j)) && !decide (v = d j) && spCanonFrom d (some j) m

/-- The canonical form of a map whose unlisted keys read as `d`. -/
def spCanon {α : Type} [DecidableEq α] (d : Nat → α) (m : Sparse α) : Bool := spCanonFrom d none m

/-- The canonical form of a byte memory: addresses rise strictly and no listed byte is the 0 that an unlisted byte reads as. -/
def Memory.wf (m : Sparse Byte) : Bool := spCanon (fun _ => (0 : Byte)) m

/-- The bytes of a memory from an address on (an unlisted byte reads 0, log entry 4). -/
def memRead (m : Sparse Byte) (a n : Nat) : List Byte := spRun 0 m a n
/-- The memory after a store of bytes. -/
def memWrite (m : Sparse Byte) (a : Nat) (bs : List Byte) : Sparse Byte := spSetAll 0 m a bs
/-- The memory after `n` bytes from an address on have been cleared. -/
def memClear (m : Sparse Byte) (a n : Nat) : Sparse Byte := spClear m a (a + n)

/-- The element of a list at an index, or a default. -/
def nth {α : Type} (d : α) : List α → Nat → α
  | [], _ => d
  | x :: _, 0 => x
  | _ :: xs, n + 1 => nth d xs n

/-- A list with the element at an index replaced. -/
def setNth {α : Type} (xs : List α) (i : Nat) (v : α) : List α :=
  match xs, i with
  | [], _ => []
  | _ :: ys, 0 => v :: ys
  | y :: ys, n + 1 => y :: setNth ys n v

/-- The numbers from `a` on, `n` of them. -/
def upFrom (a : Nat) : Nat → List Nat
  | 0 => []
  | n + 1 => a :: upFrom (a + 1) n

/-- Folds a state over a list. -/
def foldS {σ α : Type} (f : σ → α → σ) : σ → List α → σ
  | s, [] => s
  | s, x :: xs => foldS f (f s x) xs

/-- `f` applied `n` times. -/
def timesN {σ : Type} (f : σ → σ) : Nat → σ → σ
  | 0, s => s
  | n + 1, s => timesN f n (f s)

end Sys2Proof.Machine
end

