-- ==== Sys2Proof/Machine/Bits.lean ====
section
/-! DEFINITION. Bit fields, saturation, byte order and rounding: the helpers every block uses. -/

namespace Sys2Proof.Machine

/-- A natural number as a register word. -/
def w32 (n : Nat) : W32 := BitVec.ofNat 32 n
/-- A Boolean as a bit. -/
def b01 (b : Bool) : Nat := if b then 1 else 0
/-- A signed number as a two's complement register word. -/
def i32 (i : Int) : W32 := BitVec.ofInt 32 i

/-- The field [hi:lo] of a word. -/
def fld (w : W32) (hi lo : Nat) : Nat := (w.toNat / 2 ^ lo) % 2 ^ (hi + 1 - lo)
/-- A word of ones at [hi:lo]. -/
def maskOf (hi lo : Nat) : W32 := w32 ((2 ^ (hi + 1 - lo) - 1) * 2 ^ lo)
/-- A word with its field [hi:lo] replaced. -/
def putFld (w : W32) (hi lo n : Nat) : W32 :=
  (w &&& ~~~(maskOf hi lo)) ||| w32 ((n % 2 ^ (hi + 1 - lo)) * 2 ^ lo)
/-- A bit of a word. -/
def bitOf (w : W32) (i : Nat) : Bool := w.getLsbD i
/-- The word that is 1 at a bit only. -/
def oneBit (i : Nat) : W32 := w32 (2 ^ i)
/-- A word with one bit set or cleared. -/
def putBit (w : W32) (i : Nat) (b : Bool) : W32 := if b then w ||| oneBit i else w &&& ~~~(oneBit i)

/-- A number of `n` bits read as two's complement. -/
def sext (n : Nat) (x : Nat) : Int :=
  if x % 2 ^ n < 2 ^ (n - 1) then ((x % 2 ^ n : Nat) : Int) else ((x % 2 ^ n : Nat) : Int) - ((2 ^ n : Nat) : Int)
/-- A signed number modulo 2^n. -/
def uwrap (n : Nat) (i : Int) : Nat := (i % ((2 ^ n : Nat) : Int)).toNat
/-- Clamping to [lo, hi]. -/
def clampI (lo hi i : Int) : Int := if i < lo then lo else if hi < i then hi else i
/-- A count that saturates at all ones of n bits. -/
def satN (n x : Nat) : Nat := if 2 ^ n - 1 < x then 2 ^ n - 1 else x
/-- A signed number saturated to n bits. -/
def satI (n : Nat) (i : Int) : Int := clampI (-((2 ^ (n - 1) : Nat) : Int)) (((2 ^ (n - 1) : Nat) : Int) - 1) i
/-- A signed number as a saturating 32-bit register word. -/
def i32sat (i : Int) : W32 := i32 (satI 32 i)

/-- Low and high word of a 64-bit value. -/
def lo32 (w : W64) : W32 := w.setWidth 32
def hi32 (w : W64) : W32 := (w >>> 32).setWidth 32
/-- A 64-bit value of two words. -/
def cat64 (hi lo : W32) : W64 := BitVec.ofNat 64 (hi.toNat * 2 ^ 32 + lo.toNat)
/-- Low and high word of a natural number modulo 2^64. -/
def loN (n : Nat) : W32 := w32 n
def hiN (n : Nat) : W32 := w32 (n / 2 ^ 32)

/-- The little-endian number of a list of bytes. -/
def leNat : List Byte → Nat
  | [] => 0
  | b :: bs => b.toNat + 256 * leNat bs
/-- The big-endian number of a list of bytes. -/
def beNat (bs : List Byte) : Nat := leNat bs.reverse
/-- `n` bytes of a number, least significant first. -/
def leBytes : Nat → Nat → List Byte
  | 0, _ => []
  | n + 1, x => BitVec.ofNat 8 x :: leBytes n (x / 256)
/-- `n` bytes of a number, most significant first. -/
def beBytes (n x : Nat) : List Byte := (leBytes n x).reverse
/-- `n` bytes of a list from an offset on; a byte past the end reads 0. -/
def slice (bs : List Byte) (off n : Nat) : List Byte :=
  let xs := (bs.drop off).take n
  xs ++ List.replicate (n - xs.length) 0
/-- The little-endian number of `n` bytes at an offset. -/
def leAt (bs : List Byte) (off n : Nat) : Nat := leNat (slice bs off n)
/-- A byte list as words, least significant byte first. -/
def wordsOf : Nat → List Byte → List W32
  | 0, _ => []
  | n + 1, bs => w32 (leAt bs 0 4) :: wordsOf n (bs.drop 4)

/-- Rounding a quotient to the nearest integer, halves away from zero. -/
def roundDiv (a : Int) (b : Nat) : Int :=
  if b = 0 then 0
  else if 0 ≤ a then ((2 * a + b) / (2 * (b : Int))) else -((2 * (-a) + b) / (2 * (b : Int)))

/-- The integer square root: the bits of the root from `n` down. -/
def isqrtFrom : Nat → Nat → Nat → Nat
  | 0, r, _ => r
  | n + 1, r, x => let t := r + 2 ^ n
                   if t * t ≤ x then isqrtFrom n t x else isqrtFrom n r x
/-- The largest r with r² ≤ x, for x below 2^128. -/
def isqrt (x : Nat) : Nat := isqrtFrom 64 0 x

/-- The largest number below 2^n for which a monotone test holds, built from the top bit down. -/
def searchBits (test : Nat → Bool) : Nat → Nat → Nat
  | 0, r => r
  | n + 1, r => if test (r + 2 ^ n) then searchBits test n (r + 2 ^ n) else searchBits test n r

/-- The largest magnitude in a list of samples. -/
def peakOf : List Int → Nat
  | [] => 0
  | x :: xs => max x.natAbs (peakOf xs)

end Sys2Proof.Machine
end

