-- ==== Sys2Proof/Machine/Digest.lean ====
section
/-! DEFINITION. The check sums of R46 (CRC-32C, the Ethernet FCS, the AES3 channel-status CRCC) and the SHA-256 of R87
and R91. -/

namespace Sys2Proof.Machine

/-- One bit of a reflected CRC-32 with the given reflected polynomial. -/
def crcBit (poly c : W32) : W32 := if c.getLsbD 0 then (c >>> 1) ^^^ poly else c >>> 1
/-- One byte of a reflected CRC-32. -/
def crcByte (poly c : W32) (b : Byte) : W32 := timesN (crcBit poly) 8 (c ^^^ b.setWidth 32)
/-- The running value over a list of bytes. -/
def crcRun (poly : W32) : W32 → List Byte → W32
  | c, [] => c
  | c, b :: bs => crcRun poly (crcByte poly c b) bs

/-- CRC-32C of R46: polynomial 0x1EDC6F41 reflected, initial value and final XOR all ones. -/
def crc32c (bs : List Byte) : W32 := ~~~(crcRun 0x82F63B78 0xFFFFFFFF bs)
/-- The CRC-32 of IEEE 802.3 that R46 names as the FCS. -/
def crc32e (bs : List Byte) : W32 := ~~~(crcRun 0xEDB88320 0xFFFFFFFF bs)
/-- One bit of the 8-bit CRCC of AES3 (x^8 + x^4 + x^3 + x^2 + 1, reflected), initial value all ones (R46, PRESUMED: the
AES3 standard that R46 names). -/
def crccBit (c : Byte) : Byte := if c.getLsbD 0 then (c >>> 1) ^^^ 0xB8 else c >>> 1
/-- The CRCC over channel-status bytes 0 to 22. -/
def crcc : Byte → List Byte → Byte
  | c, [] => c
  | c, b :: bs => crcc (timesN crccBit 8 (c ^^^ b)) bs

/-! ## SHA-256 (R93, FIPS 180-4)

The working words of the standard move along by one place in every round, so two queues of four hold them: `a` to `d` and `e` to `h`, newest first.
The schedule is a third queue, of 16 words, oldest first: a round takes its head and puts a new word at its end. The constants are what the standard
defines them to be, the first 32 bits of the fractional parts of roots of the first primes. -/

/-- The primes below a bound of at most 324, in ascending order: no divisor from 2 to 17 but themselves. -/
def primesBelow (n : Nat) : List Nat := (upFrom 2 (n - 2)).filter (fun p => (upFrom 2 16).all (fun d => p == d || p % d != 0))
/-- The first 32 bits of the fractional part of the k-th root of p. -/
def rootFraction (k p : Nat) : W32 := w32 (searchBits (fun r => decide (r ^ k ≤ p * 2 ^ (32 * k))) 40 0)
/-- The XOR of a word's rotations to the right. -/
def spin (x : W32) (rs : List Nat) : W32 := foldS (fun (y : W32) r => y ^^^ x.rotateRight r) 0 rs
/-- The queues of a compression: `a` to `d`, `e` to `h`, the schedule. -/
structure ShaQueues where
  upper : List W32
  lower : List W32
  words : List W32
  deriving DecidableEq, Repr
/-- The word that enters the schedule's queue. -/
def ShaQueues.fresh (q : ShaQueues) : W32 :=
  let near := nth 0 q.words 1
  let far := nth 0 q.words 14
  nth 0 q.words 0 + nth 0 q.words 9 + (spin near [7, 18] ^^^ near >>> 3) + (spin far [17, 19] ^^^ far >>> 10)
/-- A round with its constant: choice among the lower queue, majority of the upper one. -/
def ShaQueues.round (q : ShaQueues) (k : W32) : ShaQueues :=
  let up (i : Nat) : W32 := nth 0 q.upper i
  let lo (i : Nat) : W32 := nth 0 q.lower i
  let add := nth 0 q.words 0 + k + lo 3 + spin (lo 0) [6, 11, 25] + (lo 2 ^^^ (lo 0 &&& (lo 1 ^^^ lo 2)))
  let lead := add + spin (up 0) [2, 13, 22] + ((up 0 &&& (up 1 ||| up 2)) ||| (up 1 &&& up 2))
  { upper := lead :: q.upper.take 3, lower := (up 3 + add) :: q.lower.take 3, words := q.words.drop 1 ++ [q.fresh] }
/-- A block of 64 bytes joins the running digest of eight words. -/
def digestBlock (ks : List W32) (h : List W32) (block : List Byte) : List W32 :=
  let start : ShaQueues := { upper := h.take 4, lower := h.drop 4, words := (upFrom 0 16).map (fun i => w32 (beNat (slice block (4 * i) 4))) }
  let last := foldS ShaQueues.round start ks
  List.zipWith (· + ·) h (last.upper ++ last.lower)
/-- The message with its mark, its zeros and its length in bits: whole blocks. -/
def digestPad (bs : List Byte) : List Byte := bs ++ [0x80] ++ List.replicate ((64 - (bs.length + 9) % 64) % 64) 0 ++ beBytes 8 (8 * bs.length)
/-- SHA-256 of a byte string. -/
def sha256 (bs : List Byte) : List Byte :=
  let whole := digestPad bs
  let ks := (primesBelow 312).map (rootFraction 3)
  let start := (primesBelow 20).map (rootFraction 2)
  (foldS (fun h i => digestBlock ks h (slice whole (64 * i) 64)) start (upFrom 0 (whole.length / 64))).flatMap (fun w => beBytes 4 w.toNat)

end Sys2Proof.Machine
end

