-- ==== Sys2Proof/Machine/RegMap.lean ====
section
/-! DEFINITION. The registers by the manual's names, and each one's fields by access code, reset value and class, as the
register maps of the chapters give them (R12, R38, R77, R80, R83, R112, R137, R139, R170, R173, R236, R262, R265, R266,
R267, R283, R309, R312, R328, R332, R359, R379, R381, R402, R435, R438, R470, R473, R474, R489, R509, R511, R523). A
register is known by the host address of its place in window 0 of its block. -/

namespace Sys2Proof.Machine

/-- The base of AES3 transmitter window n (0 to 7): AES 8 to 14, then AES 15 at 0x3F400 (R52). -/
abbrev aestBase (n : Nat) : Nat := if n = 7 then 0x3F400 else 0x38000 + 0x1000 * n

abbrev TCK_ID : Nat := 0x6000
abbrev TCK_CTL : Nat := 0x6004
abbrev TCK_STAT : Nat := 0x6008
abbrev TCK_LOCK : Nat := 0x600C
abbrev TCK_RATE : Nat := 0x6010
abbrev TCK_COUNT_LO : Nat := 0x6014
abbrev TCK_COUNT_HI : Nat := 0x6018
abbrev TCK_SAMPLE_LO : Nat := 0x601C
abbrev TCK_SAMPLE_HI : Nat := 0x6020
abbrev TCK_PHASE : Nat := 0x6024
abbrev TCK_OVR_LO : Nat := 0x6028
abbrev TCK_OVR_HI : Nat := 0x602C
abbrev TCK_OVR_COUNT : Nat := 0x6030
abbrev TCK_OVR_LAST : Nat := 0x6034
abbrev TCK_MARGIN : Nat := 0x6038
abbrev TCK_RING_LATE : Nat := 0x603C
abbrev TCK_LOAD : Nat := 0x6040
abbrev TCK_LOAD_PEAK : Nat := 0x6044
abbrev TCK_EPOCH_OFS : Nat := 0x6048
abbrev TCK_REALIGN : Nat := 0x604C
abbrev SYS_ID : Nat := 0x0
abbrev SYS_CTL : Nat := 0x4
abbrev SYS_STAT : Nat := 0x8
abbrev SYS_LOCK : Nat := 0xC
abbrev SYS_STRAPS : Nat := 0x10
abbrev SYS_RSTCAUSE : Nat := 0x14
abbrev SYS_RESET : Nat := 0x18
abbrev SYS_CFGCRC_CTL : Nat := 0x1C
abbrev SYS_CFGCRC_REF : Nat := 0x20
abbrev SYS_CFGCRC_LAST : Nat := 0x24
abbrev SYS_CFGCRC_ACT : Nat := 0x28
abbrev SYS_NARROW_ADDR : Nat := 0x2C
abbrev SYS_UNMAP_ADDR : Nat := 0x30
abbrev SYS_COLLIDE_COUNT : Nat := 0x34
abbrev SYS_SPI_ERR_COUNT : Nat := 0x38
abbrev SYS_SPI_LAST : Nat := 0x3C
abbrev SYS_SERIAL_LO : Nat := 0x40
abbrev SYS_SERIAL_HI : Nat := 0x44
abbrev EVT_ID : Nat := 0x1000
abbrev EVT_CTL : Nat := 0x1004
abbrev EVT_STAT : Nat := 0x1008
abbrev EVT_LOCK : Nat := 0x100C
abbrev EVT_PEND (i : Nat) : Nat := 0x1010 + 0x4 * i
abbrev EVT_MASK (i : Nat) : Nat := 0x1020 + 0x4 * i
abbrev EVT_ALARM (i : Nat) : Nat := 0x1030 + 0x4 * i
abbrev EVT_LAST : Nat := 0x1040
abbrev EVT_LAST_TICK : Nat := 0x1044
abbrev EVT_RAISE : Nat := 0x1048
abbrev EVT_COUNT : Nat := 0x104C
abbrev JOB_ID : Nat := 0x2000
abbrev JOB_CTL : Nat := 0x2004
abbrev JOB_STAT : Nat := 0x2008
abbrev JOB_LOCK : Nat := 0x200C
abbrev JOB_ACTIVE : Nat := 0x2010
abbrev LDG_SUB (i : Nat) : Nat := 0xA1100 + 0x4 * i
abbrev LDG_ACC_LO : Nat := 0xA1120
abbrev LDG_ACC_HI : Nat := 0xA1124
abbrev LDG_EXE_LO : Nat := 0xA1128
abbrev LDG_EXE_HI : Nat := 0xA112C
abbrev LDG_SUBRES : Nat := 0xA1130
abbrev IMG_ID : Nat := 0x5000
abbrev IMG_CTL : Nat := 0x5004
abbrev IMG_STAT : Nat := 0x5008
abbrev IMG_LOCK : Nat := 0x500C
abbrev IMG_STATE : Nat := 0x5010
abbrev IMG_GEN : Nat := 0x5014
abbrev IMG_LEN : Nat := 0x5018
abbrev IMG_FAIL : Nat := 0x501C
abbrev IMG_SSIG (i : Nat) : Nat := 0x5020 + 0x4 * i
abbrev IMG_FPRINT (i : Nat) : Nat := 0x5040 + 0x4 * i
abbrev IMG_TRUST (i : Nat) : Nat := 0x5060 + 0x4 * i
abbrev IMG_TRUST_CTL : Nat := 0x5080
abbrev IMG_FLASH : Nat := 0x5084
abbrev IMG_LOADS : Nat := 0x5088
abbrev IMG_FAILS : Nat := 0x508C
abbrev IMG_GAP : Nat := 0x5090
abbrev GRF_ID : Nat := 0x10000
abbrev GRF_CTL : Nat := 0x10004
abbrev GRF_STAT : Nat := 0x10008
abbrev GRF_LOCK : Nat := 0x1000C
abbrev GRF_MI_COUNT : Nat := 0x10010
abbrev GRF_MO_COUNT : Nat := 0x10014
abbrev GRF_SEL_COUNT : Nat := 0x10018
abbrev GRF_MI_RSEL : Nat := 0x10020
abbrev GRF_MI_SRC : Nat := 0x10024
abbrev GRF_SEL_RSEL : Nat := 0x10028
abbrev GRF_SEL_INFO : Nat := 0x1002C
abbrev GRF_SEL_STATE : Nat := 0x10030
abbrev GRF_SEL_SET : Nat := 0x10034
abbrev GRF_PRI_SET : Nat := 0x10038
abbrev GRF_CAND_RSEL : Nat := 0x10040
abbrev GRF_CAND_SRC : Nat := 0x10044
abbrev GRF_CAND_GATE : Nat := 0x10048
abbrev GRF_CAND_PRI : Nat := 0x1004C
abbrev GRF_GATE (i : Nat) : Nat := 0x10050 + 0x4 * i
abbrev GRF_SEL_CHANGES : Nat := 0x10070
abbrev GRF_SEL_LAST : Nat := 0x10074
abbrev RNG_ID : Nat := 0x72000
abbrev RNG_CTL : Nat := 0x72004
abbrev RNG_STAT : Nat := 0x72008
abbrev RNG_LOCK : Nat := 0x7200C
abbrev RNG_LINES : Nat := 0x72010
abbrev RNG_VOICES : Nat := 0x72014
abbrev RNG_RECS : Nat := 0x72018
abbrev RNG_XFADE : Nat := 0x7201C
abbrev RNG_DLY_SET : Nat := 0x72020
abbrev RNG_LEN_SET : Nat := 0x72024
abbrev RNG_DLY_RSEL : Nat := 0x72028
abbrev RNG_DLY_DELAY : Nat := 0x7202C
abbrev RNG_DLY_LEN : Nat := 0x72030
abbrev RNG_DLY_STATE : Nat := 0x72034
abbrev RNG_CLIP_BASE : Nat := 0x72038
abbrev RNG_PLY_CANCEL : Nat := 0x7203C
abbrev RNG_PLY_RSEL : Nat := 0x72040
abbrev RNG_PLY_STATE : Nat := 0x72044
abbrev RNG_PLY_ID : Nat := 0x72048
abbrev RNG_PLY_LEFT : Nat := 0x7204C
abbrev RNG_ANN_DONE : Nat := 0x72050
abbrev RNG_ANN_CANCELLED : Nat := 0x72054
abbrev RNG_ANN_REFUSED : Nat := 0x72058
abbrev RNG_REC_RSEL : Nat := 0x7205C
abbrev RNG_REC_INFO : Nat := 0x72060
abbrev RNG_REC_OLDEST : Nat := 0x72064
abbrev RNG_REC_NEWEST : Nat := 0x72068
abbrev RNG_REC_SKIPS : Nat := 0x7206C
abbrev RNG_REC_FREEZE (i : Nat) : Nat := 0x72070 + 0x4 * i
abbrev CNP_ID : Nat := 0x8000
abbrev CNP_CTL : Nat := 0x8004
abbrev CNP_STAT : Nat := 0x8008
abbrev CNP_LOCK : Nat := 0x800C
abbrev CNP_GEOM : Nat := 0x8010
abbrev CNP_MI_RSEL : Nat := 0x8014
abbrev CNP_MI_POS : Nat := 0x8018
abbrev CNP_MO_RSEL : Nat := 0x801C
abbrev CNP_MO_POS : Nat := 0x8020
abbrev CNP_STEP : Nat := 0x8024
abbrev CNP_XFR : Nat := 0x8028
abbrev CNP_XFR_TOTAL : Nat := 0x802C
abbrev CNP_DET_SET : Nat := 0x8030
abbrev CNP_DET_RSEL : Nat := 0x8034
abbrev CNP_DET_LIVE : Nat := 0x8038
abbrev CNP_DET_SHADOW : Nat := 0x803C
abbrev CNP_OPEN_RSEL : Nat := 0x8040
abbrev CNP_OPEN : Nat := 0x8044
abbrev CNP_SCL_SET : Nat := 0x8048
abbrev CNP_SCL_RSEL : Nat := 0x804C
abbrev CNP_SCL_STATE : Nat := 0x8050
abbrev CNP_SCL_VALUE : Nat := 0x8054
abbrev CNP_SAT_COUNT : Nat := 0x8058
abbrev CNP_SAT_LAST : Nat := 0x805C
abbrev CNP_SAT_TICK : Nat := 0x8060
abbrev CNP_CE_COUNT : Nat := 0x8064
abbrev CNP_UE_COUNT : Nat := 0x8068
abbrev CNP_UE_TILE : Nat := 0x806C
abbrev CNP_TILES_ON : Nat := 0x8070
abbrev CNP_SCRUB : Nat := 0x8074
abbrev TILE_ID (n : Nat) : Nat := 0x100000 + 0x1000 * n + 0x0
abbrev TILE_CTL (n : Nat) : Nat := 0x100000 + 0x1000 * n + 0x4
abbrev TILE_STAT (n : Nat) : Nat := 0x100000 + 0x1000 * n + 0x8
abbrev TILE_LOCK (n : Nat) : Nat := 0x100000 + 0x1000 * n + 0xC
abbrev TILE_POS (n : Nat) : Nat := 0x100000 + 0x1000 * n + 0x10
abbrev TILE_STATE (n : Nat) : Nat := 0x100000 + 0x1000 * n + 0x14
abbrev TILE_ON_LIVE (n : Nat) : Nat := 0x100000 + 0x1000 * n + 0x18
abbrev TILE_ON_SHADOW (n : Nat) : Nat := 0x100000 + 0x1000 * n + 0x1C
abbrev TILE_XFR_COUNT (n : Nat) : Nat := 0x100000 + 0x1000 * n + 0x20
abbrev TILE_XP_RSEL (n : Nat) : Nat := 0x100000 + 0x1000 * n + 0x24
abbrev TILE_XP_EFF (n : Nat) : Nat := 0x100000 + 0x1000 * n + 0x28
abbrev TILE_CE_COUNT (n : Nat) : Nat := 0x100000 + 0x1000 * n + 0x2C
abbrev TILE_UE_COUNT (n : Nat) : Nat := 0x100000 + 0x1000 * n + 0x30
abbrev TILE_ECC_ADDR (n : Nat) : Nat := 0x100000 + 0x1000 * n + 0x34
abbrev TILE_SCRUB_POS (n : Nat) : Nat := 0x100000 + 0x1000 * n + 0x38
abbrev TILE_HELD_COUNT (n : Nat) : Nat := 0x100000 + 0x1000 * n + 0x3C
abbrev TILE_PRV_USED (n : Nat) : Nat := 0x100000 + 0x1000 * n + 0x40
abbrev FUL_ID (n : Nat) : Nat := 0x200000 + 0x1000 * n + 0x0
abbrev FUL_CTL (n : Nat) : Nat := 0x200000 + 0x1000 * n + 0x4
abbrev FUL_STAT (n : Nat) : Nat := 0x200000 + 0x1000 * n + 0x8
abbrev FUL_LOCK (n : Nat) : Nat := 0x200000 + 0x1000 * n + 0xC
abbrev FUL_PROG (n : Nat) : Nat := 0x200000 + 0x1000 * n + 0x10
abbrev FUL_PSET (n : Nat) : Nat := 0x200000 + 0x1000 * n + 0x14
abbrev FUL_WIN_IN (n : Nat) : Nat := 0x200000 + 0x1000 * n + 0x18
abbrev FUL_WIN_OUT (n : Nat) : Nat := 0x200000 + 0x1000 * n + 0x1C
abbrev FUL_WCET (n : Nat) : Nat := 0x200000 + 0x1000 * n + 0x20
abbrev FUL_CYCLES (n : Nat) : Nat := 0x200000 + 0x1000 * n + 0x24
abbrev FUL_CYC_MAX (n : Nat) : Nat := 0x200000 + 0x1000 * n + 0x28
abbrev FUL_OVR_COUNT (n : Nat) : Nat := 0x200000 + 0x1000 * n + 0x2C
abbrev FUL_FLAG_COUNT (n : Nat) : Nat := 0x200000 + 0x1000 * n + 0x30
abbrev FUL_ESAT_COUNT (n : Nat) : Nat := 0x200000 + 0x1000 * n + 0x34
abbrev FUL_CE_COUNT (n : Nat) : Nat := 0x200000 + 0x1000 * n + 0x38
abbrev FUL_UE_COUNT (n : Nat) : Nat := 0x200000 + 0x1000 * n + 0x3C
abbrev FUL_ECC_ADDR (n : Nat) : Nat := 0x200000 + 0x1000 * n + 0x40
abbrev FUL_COLLIDE_COUNT (n : Nat) : Nat := 0x200000 + 0x1000 * n + 0x44
abbrev FUL_COLLIDE_ADDR (n : Nat) : Nat := 0x200000 + 0x1000 * n + 0x48
abbrev FUL_CSR (n : Nat) : Nat := 0x200000 + 0x1000 * n + 0x4C
abbrev FUL_PC (n : Nat) : Nat := 0x200000 + 0x1000 * n + 0x50
abbrev FUL_SCRUB (n : Nat) : Nat := 0x200000 + 0x1000 * n + 0x54
abbrev ASP_ID (n : Nat) : Nat := 0x20000 + 0x1000 * n + 0x0
abbrev ASP_CTL (n : Nat) : Nat := 0x20000 + 0x1000 * n + 0x4
abbrev ASP_STAT (n : Nat) : Nat := 0x20000 + 0x1000 * n + 0x8
abbrev ASP_LOCK (n : Nat) : Nat := 0x20000 + 0x1000 * n + 0xC
abbrev ASP_CFG (n : Nat) : Nat := 0x20000 + 0x1000 * n + 0x10
abbrev ASP_DEPTH (n : Nat) : Nat := 0x20000 + 0x1000 * n + 0x14
abbrev ASP_SLOTS_RX (n : Nat) : Nat := 0x20000 + 0x1000 * n + 0x18
abbrev ASP_SLOTS_TX (n : Nat) : Nat := 0x20000 + 0x1000 * n + 0x1C
abbrev ASP_STATE (n : Nat) : Nat := 0x20000 + 0x1000 * n + 0x20
abbrev ASP_TS_PHASE (n : Nat) : Nat := 0x20000 + 0x1000 * n + 0x24
abbrev ASP_TS_LO (n : Nat) : Nat := 0x20000 + 0x1000 * n + 0x28
abbrev ASP_TS_HI (n : Nat) : Nat := 0x20000 + 0x1000 * n + 0x2C
abbrev ASP_RATE (n : Nat) : Nat := 0x20000 + 0x1000 * n + 0x30
abbrev ASP_PAD_COUNT (n : Nat) : Nat := 0x20000 + 0x1000 * n + 0x34
abbrev ASP_DROP_COUNT (n : Nat) : Nat := 0x20000 + 0x1000 * n + 0x38
abbrev ASP_FERR_COUNT (n : Nat) : Nat := 0x20000 + 0x1000 * n + 0x3C
abbrev ASP_CLIP_COUNT (n : Nat) : Nat := 0x20000 + 0x1000 * n + 0x40
abbrev ASP_ASRC_RATIO (n : Nat) : Nat := 0x20000 + 0x1000 * n + 0x44
abbrev ASP_SLIP_LAST (n : Nat) : Nat := 0x20000 + 0x1000 * n + 0x48
abbrev AESR_ID (n : Nat) : Nat := 0x30000 + 0x1000 * n + 0x0
abbrev AESR_CTL (n : Nat) : Nat := 0x30000 + 0x1000 * n + 0x4
abbrev AESR_STAT (n : Nat) : Nat := 0x30000 + 0x1000 * n + 0x8
abbrev AESR_LOCK (n : Nat) : Nat := 0x30000 + 0x1000 * n + 0xC
abbrev AESR_CFG (n : Nat) : Nat := 0x30000 + 0x1000 * n + 0x10
abbrev AESR_STATE (n : Nat) : Nat := 0x30000 + 0x1000 * n + 0x14
abbrev AESR_TS_PHASE (n : Nat) : Nat := 0x30000 + 0x1000 * n + 0x18
abbrev AESR_TS_LO (n : Nat) : Nat := 0x30000 + 0x1000 * n + 0x1C
abbrev AESR_TS_HI (n : Nat) : Nat := 0x30000 + 0x1000 * n + 0x20
abbrev AESR_RATE (n : Nat) : Nat := 0x30000 + 0x1000 * n + 0x24
abbrev AESR_PAD_COUNT (n : Nat) : Nat := 0x30000 + 0x1000 * n + 0x28
abbrev AESR_DROP_COUNT (n : Nat) : Nat := 0x30000 + 0x1000 * n + 0x2C
abbrev AESR_PARITY_COUNT (n : Nat) : Nat := 0x30000 + 0x1000 * n + 0x30
abbrev AESR_CRC_COUNT (n : Nat) : Nat := 0x30000 + 0x1000 * n + 0x34
abbrev AESR_VALID_COUNT (n : Nat) : Nat := 0x30000 + 0x1000 * n + 0x38
abbrev AESR_ASRC_RATIO (n : Nat) : Nat := 0x30000 + 0x1000 * n + 0x3C
abbrev AESR_CS_RSEL (n : Nat) : Nat := 0x30000 + 0x1000 * n + 0x40
abbrev AESR_CS (n i : Nat) : Nat := 0x30000 + 0x1000 * n + 0x44 + 0x4 * i
abbrev AESR_CS_TICK (n : Nat) : Nat := 0x30000 + 0x1000 * n + 0x5C
abbrev AEST_ID (n : Nat) : Nat := aestBase n + 0x0
abbrev AEST_CTL (n : Nat) : Nat := aestBase n + 0x4
abbrev AEST_STAT (n : Nat) : Nat := aestBase n + 0x8
abbrev AEST_LOCK (n : Nat) : Nat := aestBase n + 0xC
abbrev AEST_CFG (n : Nat) : Nat := aestBase n + 0x10
abbrev AEST_STATE (n : Nat) : Nat := aestBase n + 0x14
abbrev AEST_CS (n i : Nat) : Nat := aestBase n + 0x18 + 0x4 * i
abbrev AEST_CLIP_COUNT (n : Nat) : Nat := aestBase n + 0x30
abbrev ASR_ID : Nat := 0x3F000
abbrev ASR_CTL : Nat := 0x3F004
abbrev ASR_STAT : Nat := 0x3F008
abbrev ASR_LOCK : Nat := 0x3F00C
abbrev ASR_CH_USED : Nat := 0x3F010
abbrev ASR_BW : Nat := 0x3F014
abbrev ASR_CH_RSEL : Nat := 0x3F018
abbrev ASR_CH_INFO : Nat := 0x3F01C
abbrev ASR_LOCKED (i : Nat) : Nat := 0x3F020 + 0x4 * i
abbrev ASR_EVSRC : Nat := 0x3F030
abbrev ASR_MCLK : Nat := 0x3F034
abbrev ASR_UNLOCK_COUNT : Nat := 0x3F038
abbrev CLK_ID : Nat := 0x7000
abbrev CLK_CTL : Nat := 0x7004
abbrev CLK_STAT : Nat := 0x7008
abbrev CLK_LOCK : Nat := 0x700C
abbrev CLK_STATE : Nat := 0x7010
abbrev CLK_OUT_FREQ : Nat := 0x7014
abbrev CLK_WTR : Nat := 0x7018
abbrev CLK_GUARD : Nat := 0x701C
abbrev CLK_DISPUTE : Nat := 0x7020
abbrev CLK_FWIN : Nat := 0x7024
abbrev CLK_SLEW : Nat := 0x7028
abbrev CLK_HOLD_CFG : Nat := 0x702C
abbrev CLK_HOLD_SPEC : Nat := 0x7030
abbrev CLK_HOLD_TE : Nat := 0x7034
abbrev CLK_ABSORB_MAX : Nat := 0x7038
abbrev CLK_MISC : Nat := 0x703C
abbrev CLK_BUILDOUT : Nat := 0x7040
abbrev CLK_EVSRC : Nat := 0x7044
abbrev CLK_SWITCHES : Nat := 0x7048
abbrev CLK_JUMPS : Nat := 0x704C
abbrev CLK_DISPUTES : Nat := 0x7050
abbrev CLK_REF_CFG (i : Nat) : Nat := 0x7080 + 0x10 * i
abbrev CLK_REF_STATE (i : Nat) : Nat := 0x7084 + 0x10 * i
abbrev CLK_REF_FREQ (i : Nat) : Nat := 0x7088 + 0x10 * i
abbrev CLK_REF_PHASE (i : Nat) : Nat := 0x708C + 0x10 * i
abbrev NET_ID (n : Nat) : Nat := 0x40000 + 0x1000 * n + 0x0
abbrev NET_CTL (n : Nat) : Nat := 0x40000 + 0x1000 * n + 0x4
abbrev NET_STAT (n : Nat) : Nat := 0x40000 + 0x1000 * n + 0x8
abbrev NET_LOCK (n : Nat) : Nat := 0x40000 + 0x1000 * n + 0xC
abbrev NET_CFG (n : Nat) : Nat := 0x40000 + 0x1000 * n + 0x10
abbrev NET_SERDES (n : Nat) : Nat := 0x40000 + 0x1000 * n + 0x14
abbrev NET_LINK (n : Nat) : Nat := 0x40000 + 0x1000 * n + 0x18
abbrev NET_MAC_LO (n : Nat) : Nat := 0x40000 + 0x1000 * n + 0x1C
abbrev NET_MAC_HI (n : Nat) : Nat := 0x40000 + 0x1000 * n + 0x20
abbrev NET_IP4 (n : Nat) : Nat := 0x40000 + 0x1000 * n + 0x24
abbrev NET_IP6 (n i : Nat) : Nat := 0x40000 + 0x1000 * n + 0x28 + 0x4 * i
abbrev NET_VLAN (n : Nat) : Nat := 0x40000 + 0x1000 * n + 0x38
abbrev NET_TX_OFS (n : Nat) : Nat := 0x40000 + 0x1000 * n + 0x3C
abbrev NET_RX_FRAMES (n : Nat) : Nat := 0x40000 + 0x1000 * n + 0x40
abbrev NET_RX_FCS (n : Nat) : Nat := 0x40000 + 0x1000 * n + 0x44
abbrev NET_RX_SIZE (n : Nat) : Nat := 0x40000 + 0x1000 * n + 0x48
abbrev NET_RX_FILTERED (n : Nat) : Nat := 0x40000 + 0x1000 * n + 0x4C
abbrev NET_RX_PAUSE (n : Nat) : Nat := 0x40000 + 0x1000 * n + 0x50
abbrev NET_TX_FRAMES (n : Nat) : Nat := 0x40000 + 0x1000 * n + 0x54
abbrev NET_TX_DISCARD (n : Nat) : Nat := 0x40000 + 0x1000 * n + 0x58
abbrev NET_LINK_CHANGES (n : Nat) : Nat := 0x40000 + 0x1000 * n + 0x5C
abbrev STR_ID : Nat := 0x50000
abbrev STR_CTL : Nat := 0x50004
abbrev STR_STAT : Nat := 0x50008
abbrev STR_LOCK : Nat := 0x5000C
abbrev STR_COUNT : Nat := 0x50010
abbrev STR_CHANS : Nat := 0x50014
abbrev STR_HQ_CTL : Nat := 0x50018
abbrev STR_HQ_RX_BASE_LO : Nat := 0x5001C
abbrev STR_HQ_RX_BASE_HI : Nat := 0x50020
abbrev STR_HQ_RX_CONS : Nat := 0x50024
abbrev STR_HQ_RX_PROD : Nat := 0x50028
abbrev STR_HQ_TX_BASE_LO : Nat := 0x5002C
abbrev STR_HQ_TX_BASE_HI : Nat := 0x50030
abbrev STR_HQ_TX_PROD : Nat := 0x50034
abbrev STR_HQ_TX_CONS : Nat := 0x50038
abbrev STR_HQ_RX_DROP : Nat := 0x5003C
abbrev STR_HQ_RX_PKTS : Nat := 0x50040
abbrev STR_HQ_TX_PKTS : Nat := 0x50044
abbrev STR_APPLY : Nat := 0x50048
abbrev STR_RSEL : Nat := 0x5004C
abbrev STR_LAST_EV : Nat := 0x50050
abbrev STR_SPOOF : Nat := 0x50054
abbrev STR_M_FRAME : Nat := 0x50058
abbrev STR_M_RTP : Nat := 0x5005C
abbrev STR_HQ_POOL : Nat := 0x50060
abbrev STR_D (i : Nat) : Nat := 0x50080 + 0x4 * i
abbrev STR_V (i : Nat) : Nat := 0x500C0 + 0x4 * i
abbrev STR_V_STATE : Nat := 0x50100
abbrev STR_V_PKTS : Nat := 0x50104
abbrev STR_V_LATE : Nat := 0x50108
abbrev STR_V_EARLY : Nat := 0x5010C
abbrev STR_V_DUP : Nat := 0x50110
abbrev STR_V_PAD : Nat := 0x50114
abbrev STR_V_MALF : Nat := 0x50118
abbrev STR_V_GUARD : Nat := 0x5011C
abbrev STR_V_DIVERGE : Nat := 0x50120
abbrev STR_V_MARGIN : Nat := 0x50124
abbrev TIM_ID : Nat := 0x60000
abbrev TIM_CTL : Nat := 0x60004
abbrev TIM_STAT : Nat := 0x60008
abbrev TIM_LOCK : Nat := 0x6000C
abbrev TIM_NS : Nat := 0x60010
abbrev TIM_SEC_LO : Nat := 0x60014
abbrev TIM_SEC_HI : Nat := 0x60018
abbrev TIM_CFG : Nat := 0x6001C
abbrev TIM_INTERVALS : Nat := 0x60020
abbrev TIM_PRIO : Nat := 0x60024
abbrev TIM_STATE : Nat := 0x60028
abbrev TIM_GM0 : Nat := 0x6002C
abbrev TIM_GM1 : Nat := 0x60030
abbrev TIM_OFFSET : Nat := 0x60034
abbrev TIM_MPD_A : Nat := 0x60038
abbrev TIM_MPD_B : Nat := 0x6003C
abbrev TIM_FREQ : Nat := 0x60040
abbrev TIM_UTC : Nat := 0x60044
abbrev TIM_QUAL : Nat := 0x60048
abbrev TIM_OUTLIER : Nat := 0x6004C
abbrev TIM_STEP_MAX : Nat := 0x60050
abbrev TIM_STEP_ACK : Nat := 0x60054
abbrev TIM_LEG_AGREE : Nat := 0x60058
abbrev TIM_CORR_A : Nat := 0x6005C
abbrev TIM_CORR_B : Nat := 0x60060
abbrev TIM_SYNC_RX : Nat := 0x60064
abbrev TIM_OUTLIERS : Nat := 0x60068
abbrev TIM_STEPS : Nat := 0x6006C
abbrev TIM_REJECT : Nat := 0x60070
abbrev TIM_LAST_STEP : Nat := 0x60074
abbrev TIM_SET_NS : Nat := 0x60078
abbrev TIM_SET_SLO : Nat := 0x6007C
abbrev TIM_SET_SHI : Nat := 0x60080
abbrev TIM_ACCEPT (i : Nat) : Nat := 0x60084 + 0x4 * i
abbrev PPS_CTL (i : Nat) : Nat := 0x60100 + 0x20 * i
abbrev PPS_START_NS (i : Nat) : Nat := 0x60104 + 0x20 * i
abbrev PPS_START_SLO (i : Nat) : Nat := 0x60108 + 0x20 * i
abbrev PPS_START_SHI (i : Nat) : Nat := 0x6010C + 0x20 * i
abbrev PPS_PERIOD (i : Nat) : Nat := 0x60110 + 0x20 * i
abbrev PPS_WIDTH (i : Nat) : Nat := 0x60114 + 0x20 * i
abbrev PPS_STATE (i : Nat) : Nat := 0x60118 + 0x20 * i
abbrev PPS_COUNT (i : Nat) : Nat := 0x6011C + 0x20 * i
abbrev DRC_ID (n : Nat) : Nat := 0x70000 + 0x1000 * n + 0x0
abbrev DRC_CTL (n : Nat) : Nat := 0x70000 + 0x1000 * n + 0x4
abbrev DRC_STAT (n : Nat) : Nat := 0x70000 + 0x1000 * n + 0x8
abbrev DRC_LOCK (n : Nat) : Nat := 0x70000 + 0x1000 * n + 0xC
abbrev DRC_CONF (n : Nat) : Nat := 0x70000 + 0x1000 * n + 0x10
abbrev DRC_RANKMAP (n : Nat) : Nat := 0x70000 + 0x1000 * n + 0x14
abbrev DRC_RANK_STATE (n : Nat) : Nat := 0x70000 + 0x1000 * n + 0x18
abbrev DRC_APBASE (n : Nat) : Nat := 0x70000 + 0x1000 * n + 0x1C
abbrev DRC_POLICY (n : Nat) : Nat := 0x70000 + 0x1000 * n + 0x20
abbrev DRC_HAMMER_THR (n : Nat) : Nat := 0x70000 + 0x1000 * n + 0x24
abbrev DRC_CE_THR (n : Nat) : Nat := 0x70000 + 0x1000 * n + 0x28
abbrev DRC_TRAIN_PER (n : Nat) : Nat := 0x70000 + 0x1000 * n + 0x2C
abbrev DRC_SCRUB (n : Nat) : Nat := 0x70000 + 0x1000 * n + 0x30
abbrev DRC_TEMP (n : Nat) : Nat := 0x70000 + 0x1000 * n + 0x34
abbrev DRC_REF_OWED (n : Nat) : Nat := 0x70000 + 0x1000 * n + 0x38
abbrev DRC_REF_FORCED (n : Nat) : Nat := 0x70000 + 0x1000 * n + 0x3C
abbrev DRC_REF_OVER (n : Nat) : Nat := 0x70000 + 0x1000 * n + 0x40
abbrev DRC_CE_COUNT (n : Nat) : Nat := 0x70000 + 0x1000 * n + 0x44
abbrev DRC_UE_COUNT (n : Nat) : Nat := 0x70000 + 0x1000 * n + 0x48
abbrev DRC_PAR_COUNT (n : Nat) : Nat := 0x70000 + 0x1000 * n + 0x4C
abbrev DRC_POISON_COUNT (n : Nat) : Nat := 0x70000 + 0x1000 * n + 0x50
abbrev DRC_FWD_COUNT (n : Nat) : Nat := 0x70000 + 0x1000 * n + 0x54
abbrev DRC_RAW_WAIT (n : Nat) : Nat := 0x70000 + 0x1000 * n + 0x58
abbrev DRC_HAMMER_COUNT (n : Nat) : Nat := 0x70000 + 0x1000 * n + 0x5C
abbrev DRC_HAMMER_LAST (n : Nat) : Nat := 0x70000 + 0x1000 * n + 0x60
abbrev DRC_THROTTLE (n : Nat) : Nat := 0x70000 + 0x1000 * n + 0x64
abbrev DRC_ERR_SYND (n : Nat) : Nat := 0x70000 + 0x1000 * n + 0x68
abbrev DRC_ERR_INFO (n : Nat) : Nat := 0x70000 + 0x1000 * n + 0x6C
abbrev DRC_ERR_ADDR_LO (n : Nat) : Nat := 0x70000 + 0x1000 * n + 0x70
abbrev DRC_ERR_ADDR_HI (n : Nat) : Nat := 0x70000 + 0x1000 * n + 0x74
abbrev DRC_HIST_RSEL (n : Nat) : Nat := 0x70000 + 0x1000 * n + 0x78
abbrev DRC_HIST_CMD (n : Nat) : Nat := 0x70000 + 0x1000 * n + 0x7C
abbrev DRC_HIST_TIME (n : Nat) : Nat := 0x70000 + 0x1000 * n + 0x80
abbrev DRC_FRZ_DROP (n : Nat) : Nat := 0x70000 + 0x1000 * n + 0x84
abbrev DRC_TRAIN_RSEL (n : Nat) : Nat := 0x70000 + 0x1000 * n + 0x88
abbrev DRC_TRAIN_MARGIN (n : Nat) : Nat := 0x70000 + 0x1000 * n + 0x8C
abbrev DRC_TRAIN_LAST (n : Nat) : Nat := 0x70000 + 0x1000 * n + 0x90
abbrev DRC_TRAIN_FAILS (n : Nat) : Nat := 0x70000 + 0x1000 * n + 0x94
abbrev DRC_MIG_STATE (n : Nat) : Nat := 0x70000 + 0x1000 * n + 0x98
abbrev DRC_MIG_POISON (n : Nat) : Nat := 0x70000 + 0x1000 * n + 0x9C
abbrev DRC_SCRUB_POS (n : Nat) : Nat := 0x70000 + 0x1000 * n + 0xA0
abbrev MEM_ID : Nat := 0x80000
abbrev MEM_CTL : Nat := 0x80004
abbrev MEM_STAT : Nat := 0x80008
abbrev MEM_LOCK : Nat := 0x8000C
abbrev MEM_LOAN : Nat := 0x80010
abbrev MEM_SCRUB : Nat := 0x80014
abbrev MEM_SCRUB_POS : Nat := 0x80018
abbrev MEM_CE_COUNT : Nat := 0x8001C
abbrev MEM_UE_COUNT : Nat := 0x80020
abbrev MEM_ECC_ADDR : Nat := 0x80024
abbrev MEM_REP_RSEL : Nat := 0x80028
abbrev MEM_REP_ENTRY : Nat := 0x8002C
abbrev MEM_REP_SET : Nat := 0x80030
abbrev MEM_REP_USED : Nat := 0x80034
abbrev MEM_CLEAR_TIME : Nat := 0x80038
abbrev MEM_CONFLICT (i : Nat) : Nat := 0x80040 + 0x4 * i
abbrev CRD_ID : Nat := 0x81000
abbrev CRD_CTL : Nat := 0x81004
abbrev CRD_STAT : Nat := 0x81008
abbrev CRD_LOCK : Nat := 0x8100C
abbrev CRD_BOOT : Nat := 0x81010
abbrev CRD_HOLD : Nat := 0x81014
abbrev CRD_STATE : Nat := 0x81018
abbrev CRD_FAILS : Nat := 0x8101C
abbrev CRD_REPAIRS : Nat := 0x81020
abbrev CRD_FAIL_RSEL : Nat := 0x81024
abbrev CRD_FAIL_LOG : Nat := 0x81028
abbrev CRD_LAST_TICK : Nat := 0x8102C
abbrev CRD_RUNS : Nat := 0x81030
abbrev TRK_ID : Nat := 0x90000
abbrev TRK_CTL : Nat := 0x90004
abbrev TRK_STAT : Nat := 0x90008
abbrev TRK_LOCK : Nat := 0x9000C
abbrev TRK_MODE : Nat := 0x90010
abbrev TRK_AGE : Nat := 0x90014
abbrev TRK_LOCKOUT_LAST : Nat := 0x90018
abbrev TRK_ISO_LAST : Nat := 0x9001C
abbrev TRK_TIMEOUT_LAST : Nat := 0x90020
abbrev TRK_LOCKOUT_COUNT : Nat := 0x90024
abbrev TRK_ISO_COUNT : Nat := 0x90028
abbrev TRK_TIMEOUT_COUNT : Nat := 0x9002C
abbrev TRK_SPLIT_COUNT : Nat := 0x90030
abbrev TRK_QOS (i : Nat) : Nat := 0x90040 + 0x4 * i
abbrev TRK_TGT_LOAD (i : Nat) : Nat := 0x90070 + 0x4 * i
abbrev TRK_WAIT_RSEL : Nat := 0x9008C
abbrev TRK_WAIT_MAX : Nat := 0x90090
abbrev TRK_WAIT_TGT : Nat := 0x90094
abbrev TRK_BRG_DEPTH : Nat := 0x90098
abbrev TRK_QOS15_BYTES : Nat := 0x9009C
abbrev TWN_ID : Nat := 0xA0000
abbrev TWN_CTL : Nat := 0xA0004
abbrev TWN_STAT : Nat := 0xA0008
abbrev TWN_LOCK : Nat := 0xA000C
abbrev TWN_STATE : Nat := 0xA0010
abbrev TWN_CFG : Nat := 0xA0014
abbrev TWN_PAIR : Nat := 0xA0018
abbrev TWN_PARTNER_LO : Nat := 0xA001C
abbrev TWN_PARTNER_HI : Nat := 0xA0020
abbrev TWN_LINK : Nat := 0xA0024
abbrev TWN_HB_MISS : Nat := 0xA0028
abbrev TWN_DIGEST : Nat := 0xA002C
abbrev TWN_DIGEST_P : Nat := 0xA0030
abbrev TWN_MISMATCH_TICK : Nat := 0xA0034
abbrev TWN_TAKEOVERS : Nat := 0xA0038
abbrev TWN_LAST_TAKE : Nat := 0xA003C
abbrev TWN_OOS_COUNT : Nat := 0xA0040
abbrev TWN_ORPHANS : Nat := 0xA0044
abbrev TWN_PORT_SRC0 : Nat := 0xA0048
abbrev TWN_PORT_SRC1 : Nat := 0xA004C
abbrev TWN_BUNDLE_BYTES : Nat := 0xA0050
abbrev TWN_BUNDLE_MAX : Nat := 0xA0054
abbrev TWN_RESYNC_STATE : Nat := 0xA0058
abbrev LDG_ID : Nat := 0xA1000
abbrev LDG_CTL : Nat := 0xA1004
abbrev LDG_STAT : Nat := 0xA1008
abbrev LDG_LOCK : Nat := 0xA100C
abbrev LDG_SESSION : Nat := 0xA1010
abbrev LDG_CFG : Nat := 0xA1014
abbrev LDG_HELD : Nat := 0xA1018
abbrev LDG_PEND : Nat := 0xA101C
abbrev LDG_LATE_COUNT : Nat := 0xA1020
abbrev LDG_CONFLICTS : Nat := 0xA1024
abbrev LDG_FULL_COUNT : Nat := 0xA1028
abbrev LDG_ENT_RSEL : Nat := 0xA102C
abbrev LDG_ENT (i : Nat) : Nat := 0xA1030 + 0x4 * i
abbrev HWD_ID : Nat := 0xB0000
abbrev HWD_CTL : Nat := 0xB0004
abbrev HWD_STAT : Nat := 0xB0008
abbrev HWD_LOCK : Nat := 0xB000C
abbrev HWD_STATE : Nat := 0xB0010
abbrev HWD_FB_CTL : Nat := 0xB0014
abbrev HWD_FB_CFG : Nat := 0xB0018
abbrev HWD_VBAT : Nat := 0xB001C
abbrev HWD_TEMP : Nat := 0xB0020
abbrev HWD_TAKES : Nat := 0xB0024
abbrev HWD_LAST_TAKE : Nat := 0xB0028
abbrev HWD_RS_ADDR : Nat := 0xB002C
abbrev HWD_RS_DATA : Nat := 0xB0030
abbrev HWD_RS_STATE : Nat := 0xB0034
abbrev HWD_RS_SAVE : Nat := 0xB0038
abbrev HWD_TRIG (i : Nat) : Nat := 0xB0040 + 0x4 * i
abbrev HWD_MIC_CFG (i : Nat) : Nat := 0xB1010 + 0x10 * i
abbrev HWD_MIC_STATE (i : Nat) : Nat := 0xB1014 + 0x10 * i
abbrev HWD_MIC_RD (i : Nat) : Nat := 0xB1018 + 0x10 * i
abbrev HWD_MIC_PEAK (i : Nat) : Nat := 0xB101C + 0x10 * i
abbrev HWD_KEY_DEB : Nat := 0xB1050
abbrev HWD_CIN_DEB : Nat := 0xB1054
abbrev HWD_CIN_STATE : Nat := 0xB1058
abbrev HWD_CIN_RSEL : Nat := 0xB105C
abbrev HWD_CIN_OHMS : Nat := 0xB1060
abbrev HWD_CIN_CHANGES : Nat := 0xB1064
abbrev HWD_CH_CFG (i : Nat) : Nat := 0xB2010 + 0x20 * i
abbrev HWD_CH_STATE (i : Nat) : Nat := 0xB2014 + 0x20 * i
abbrev HWD_CH_Z (i : Nat) : Nat := 0xB2018 + 0x20 * i
abbrev HWD_CH_ZREF (i : Nat) : Nat := 0xB201C + 0x20 * i
abbrev HWD_CH_SHORTS (i : Nat) : Nat := 0xB2020 + 0x20 * i
abbrev HWD_CH_LIMITS (i : Nat) : Nat := 0xB2024 + 0x20 * i
abbrev HWD_CH_POWER (i : Nat) : Nat := 0xB2028 + 0x20 * i
abbrev HWD_Z_SHORT : Nat := 0xB2050
abbrev PRV_ID : Nat := 0xC0000
abbrev PRV_CTL : Nat := 0xC0004
abbrev PRV_STAT : Nat := 0xC0008
abbrev PRV_LOCK : Nat := 0xC000C
abbrev PRV_STATE : Nat := 0xC0010
abbrev PRV_LEVEL : Nat := 0xC0014
abbrev PRV_TOL : Nat := 0xC0018
abbrev PRV_RET_COUNT : Nat := 0xC001C
abbrev PRV_RET_RSEL : Nat := 0xC0020
abbrev PRV_RET_INFO : Nat := 0xC0024
abbrev PRV_GROUPS : Nat := 0xC0028
abbrev PRV_FAILS : Nat := 0xC002C
abbrev PRV_LAST_FAIL : Nat := 0xC0030
abbrev PRV_TABLE_LO : Nat := 0xC0034
abbrev PRV_TABLE_HI : Nat := 0xC0038
abbrev PRS_ID : Nat := 0x3000
abbrev PRS_CTL : Nat := 0x3004
abbrev PRS_STAT : Nat := 0x3008
abbrev PRS_LOCK : Nat := 0x300C
abbrev PRS_STATE : Nat := 0x3010
abbrev PRS_WINDOW : Nat := 0x3014
abbrev PRS_RESEAL : Nat := 0x3018
abbrev PRS_DENIED : Nat := 0x301C
abbrev PRS_DENIED_LAST : Nat := 0x3020
abbrev PRS_SEAL_BREAKS : Nat := 0x3024
abbrev PRS_SEAL_TIME : Nat := 0x3028
abbrev PRS_PRESENCE_COUNT : Nat := 0x302C
abbrev PWD_ID : Nat := 0x4000
abbrev PWD_CTL : Nat := 0x4004
abbrev PWD_STAT : Nat := 0x4008
abbrev PWD_LOCK : Nat := 0x400C
abbrev PWD_DOMAINS : Nat := 0x4010
abbrev PWD_NAP : Nat := 0x4014
abbrev PWD_WAKE_CFG : Nat := 0x4018
abbrev PWD_WAKE_STAT : Nat := 0x401C
abbrev PWD_RTC : Nat := 0x4020
abbrev PWD_RTC_ALARM : Nat := 0x4024
abbrev PWD_TEMP : Nat := 0x4028
abbrev PWD_TEMP_WARN : Nat := 0x402C
abbrev PWD_LATCH_CLR : Nat := 0x4030
abbrev PWD_WAKES : Nat := 0x4034
abbrev PWD_OCC_RSEL : Nat := 0x4038
abbrev PWD_OCC : Nat := 0x403C
abbrev MON_ID : Nat := 0xD0000
abbrev MON_CTL : Nat := 0xD0004
abbrev MON_STAT : Nat := 0xD0008
abbrev MON_LOCK : Nat := 0xD000C
abbrev MON_BAUD : Nat := 0xD0010
abbrev MON_STATE : Nat := 0xD0014
abbrev MON_LINE_ERR : Nat := 0xD0018
abbrev MON_WRITES : Nat := 0xD001C
abbrev MON_TRACE_DROP : Nat := 0xD0020

/-- A register as its map row gives it: the offset, the reset value, the bits of each access code (RW, W1C, CFG, LK), whether the write is W1S
(LOCK), whether a read clears it, and the class a write needs. Every other bit is RO, WO or reserved. -/
structure RegSpec where
  off : Nat
  reset : W32
  rw : W32
  w1c : W32
  w1s : W32
  cfg : W32
  lk : W32
  rc : Bool
  cls : Nat
  deriving DecidableEq, Repr

/-- A read-only register. -/
abbrev ro (off : Nat) (reset : W32) : RegSpec := ⟨off, reset, 0, 0, 0, 0, 0, false, 0⟩
/-- A write-only register; `cls` is the class of its write. -/
abbrev wo (off : Nat) (cls : Nat) : RegSpec := ⟨off, 0, 0, 0, 0, 0, 0, false, cls⟩
/-- A write-only register whose write is held to LOCK. -/
abbrev wolk (off : Nat) (cls : Nat) : RegSpec := ⟨off, 0, 0, 0, 0, 0, 0xFFFFFFFF, false, cls⟩
/-- A register with RW bits. -/
abbrev rw (off : Nat) (mask reset : W32) (cls : Nat) : RegSpec := ⟨off, reset, mask, 0, 0, 0, 0, false, cls⟩
/-- A register with W1C bits. -/
abbrev w1c (off : Nat) (mask reset : W32) : RegSpec := ⟨off, reset, 0, mask, 0, 0, 0, false, 0⟩
/-- A register with W1S bits. -/
abbrev w1s (off : Nat) (mask : W32) : RegSpec := ⟨off, 0, 0, 0, mask, 0, 0, false, 0⟩
/-- A register with CFG bits. -/
abbrev cfg (off : Nat) (mask reset : W32) : RegSpec := ⟨off, reset, 0, 0, 0, mask, 0, false, 0⟩
/-- A register with LK bits. -/
abbrev lk (off : Nat) (mask reset : W32) (cls : Nat) : RegSpec := ⟨off, reset, 0, 0, 0, 0, mask, false, cls⟩
/-- A register that the host's read clears. -/
abbrev rc (off : Nat) (reset : W32) : RegSpec := ⟨off, reset, 0, 0, 0, 0, 0, true, 0⟩

/-- The TCK block's registers. -/
def specsTck : List RegSpec :=
  [ro 0x0 0x54434B01, ro 0x4 0x0, w1c 0x8 0xC0000014 0x0, w1s 0xC 0x1, ro 0x10 0x0, ro 0x14 0x0, ro 0x18 0x0,
   ro 0x1C 0x0, ro 0x20 0x0, ro 0x24 0x0, w1c 0x28 0xFFFFFFFF 0x0, w1c 0x2C 0xFFFFFFFF 0x0, rw 0x30 0xFFFFFFFF 0x0 0,
   ro 0x34 0x0, rc 0x38 0x3F061A80, rw 0x3C 0xFFFFFFFF 0x0 0, ro 0x40 0x0, rc 0x44 0x0, ro 0x48 0x0, wo 0x4C 1]

/-- The SYS block's registers. -/
def specsSys : List RegSpec :=
  [ro 0x0 0x535953A1, ro 0x4 0x1, w1c 0x8 0xC000000F 0x0, w1s 0xC 0x1, ro 0x10 0x0, ro 0x14 0x0, wo 0x18 1,
   ⟨0x1C, 0x0, 0x8, 0x4, 0x1, 0x0, 0x0, false, 0⟩, rw 0x20 0xFFFFFFFF 0x0 0, ro 0x24 0x0, lk 0x28 0x3 0x1 0, ro 0x2C 0x0, ro 0x30 0x0,
   rw 0x34 0xFFFFFFFF 0x0 0, rw 0x38 0xFFFFFFFF 0x0 0, ro 0x3C 0x0, ro 0x40 0x0, ro 0x44 0x0]

/-- The EVT block's registers. -/
def specsEvt : List RegSpec :=
  [ro 0x0 0x45565401, rw 0x4 0x1 0x0 0, w1c 0x8 0xC0000000 0x0, w1s 0xC 0x1, w1c 0x10 0xFFFFFFFF 0x0,
   w1c 0x14 0xFFFFFFFF 0x0, w1c 0x18 0xFFFFFFFF 0x0, w1c 0x1C 0xFFFFFFFF 0x0, rw 0x20 0xFFFFFFFF 0xFFFFFFFF 0,
   rw 0x24 0xFFFFFFFF 0xFFFFFFFF 0, rw 0x28 0xFFFFFFFF 0xFFFFFFFF 0, rw 0x2C 0xFFFFFFFF 0xFFFFFFFF 0,
   lk 0x30 0xFFFFFFFF 0x0 0, lk 0x34 0xFFFFFFFF 0x0 0, lk 0x38 0xFFFFFFFF 0x0 0, lk 0x3C 0xFFFFFFFF 0x0 0, ro 0x40 0x0,
   ro 0x44 0x0, wo 0x48 2, rw 0x4C 0xFFFFFFFF 0x0 0]

/-- The JOB block's registers. -/
def specsJob : List RegSpec :=
  [ro 0x0 0x4A4F4201, ro 0x4 0x1, w1c 0x8 0xC0000001 0x0, w1s 0xC 0x1, ro 0x10 0x0]

/-- The LDG block's registers. -/
def specsLdg : List RegSpec :=
  [wo 0x100 0, wo 0x104 0, wo 0x108 0, wo 0x10C 0, wo 0x110 0, wo 0x114 0, wo 0x118 0, wo 0x11C 0, ro 0x120 0x0,
   ro 0x124 0x0, ro 0x128 0x0, ro 0x12C 0x0, ro 0x130 0x0, ro 0x0 0x4C444701, ro 0x4 0x1, w1c 0x8 0xC0000007 0x0,
   w1s 0xC 0x1, ro 0x10 0x0, lk 0x14 0x1 0x0 0, ro 0x18 0x0, ro 0x1C 0x0, rw 0x20 0xFFFFFFFF 0x0 0,
   rw 0x24 0xFFFFFFFF 0x0 0, rw 0x28 0xFFFFFFFF 0x0 0, rw 0x2C 0xFFFF 0x0 0, ro 0x30 0x0, ro 0x34 0x0, ro 0x38 0x0,
   ro 0x3C 0x0, ro 0x40 0x0, ro 0x44 0x0, ro 0x48 0x0, ro 0x4C 0x0]

/-- The IMG block's registers. -/
def specsImg : List RegSpec :=
  [ro 0x0 0x494D4701, ro 0x4 0x1, w1c 0x8 0xC0000007 0x0, w1s 0xC 0x1, ro 0x10 0x1C, ro 0x14 0x0, ro 0x18 0x0,
   ro 0x1C 0x0, ro 0x20 0x0, ro 0x24 0x0, ro 0x28 0x0, ro 0x2C 0x0, ro 0x30 0x0, ro 0x34 0x0, ro 0x38 0x0, ro 0x3C 0x0,
   ro 0x40 0x0, ro 0x44 0x0, ro 0x48 0x0, ro 0x4C 0x0, ro 0x50 0x0, ro 0x54 0x0, ro 0x58 0x0, ro 0x5C 0x0,
   rw 0x60 0xFFFFFFFF 0x0 1, rw 0x64 0xFFFFFFFF 0x0 1, rw 0x68 0xFFFFFFFF 0x0 1, rw 0x6C 0xFFFFFFFF 0x0 1,
   rw 0x70 0xFFFFFFFF 0x0 1, rw 0x74 0xFFFFFFFF 0x0 1, rw 0x78 0xFFFFFFFF 0x0 1, rw 0x7C 0xFFFFFFFF 0x0 1,
   rw 0x80 0x1 0x0 1, lk 0x84 0x3 0x0 0, rw 0x88 0xFFFFFFFF 0x0 0, rw 0x8C 0xFFFFFFFF 0x0 0, ro 0x90 0x0]

/-- The GRF block's registers. -/
def specsGrf : List RegSpec :=
  [ro 0x0 0x47524601, ro 0x4 0x1, w1c 0x8 0xC0000001 0x0, w1s 0xC 0x1, ro 0x10 0x0, ro 0x14 0x0, ro 0x18 0x0,
   rw 0x20 0x1FFF 0x0 0, ro 0x24 0x0, rw 0x28 0x7FF 0x0 0, ro 0x2C 0x0, ro 0x30 0x0, wo 0x34 0, wolk 0x38 1,
   rw 0x40 0xF 0x0 0, ro 0x44 0x0, ro 0x48 0x0, ro 0x4C 0x0, rw 0x50 0xFFFFFFFF 0x0 0, rw 0x54 0xFFFFFFFF 0x0 0,
   rw 0x58 0xFFFFFFFF 0x0 0, rw 0x5C 0xFFFFFFFF 0x0 0, rw 0x60 0xFFFFFFFF 0x0 0, rw 0x64 0xFFFFFFFF 0x0 0,
   rw 0x68 0xFFFFFFFF 0x0 0, rw 0x6C 0xFFFFFFFF 0x0 0, rw 0x70 0xFFFFFFFF 0x0 0, ro 0x74 0x0]

/-- The RNG block's registers. -/
def specsRng : List RegSpec :=
  [ro 0x0 0x524E4701, ro 0x4 0x1, w1c 0x8 0xC000003F 0x0, w1s 0xC 0x1, ro 0x10 0x0, ro 0x14 0x0, ro 0x18 0x0,
   rw 0x1C 0x3F 0x3 0, wo 0x20 0, wo 0x24 0, rw 0x28 0xFFF 0x0 0, ro 0x2C 0x0, ro 0x30 0x0, ro 0x34 0x0, ro 0x38 0x0,
   wo 0x3C 0, rw 0x40 0x3FF 0x0 0, ro 0x44 0x0, ro 0x48 0x0, ro 0x4C 0x0, rw 0x50 0xFFFFFFFF 0x0 0,
   rw 0x54 0xFFFFFFFF 0x0 0, rw 0x58 0xFFFFFFFF 0x0 0, rw 0x5C 0x1FF 0x0 0, ro 0x60 0x0, ro 0x64 0x0, ro 0x68 0x0,
   rw 0x6C 0xFFFFFFFF 0x0 0, rw 0x70 0xFFFFFFFF 0x0 0, rw 0x74 0xFFFFFFFF 0x0 0, rw 0x78 0xFFFFFFFF 0x0 0,
   rw 0x7C 0xFFFFFFFF 0x0 0, rw 0x80 0xFFFFFFFF 0x0 0, rw 0x84 0xFFFFFFFF 0x0 0, rw 0x88 0xFFFFFFFF 0x0 0,
   rw 0x8C 0xFFFFFFFF 0x0 0, rw 0x90 0xFFFFFFFF 0x0 0, rw 0x94 0xFFFFFFFF 0x0 0, rw 0x98 0xFFFFFFFF 0x0 0,
   rw 0x9C 0xFFFFFFFF 0x0 0, rw 0xA0 0xFFFFFFFF 0x0 0, rw 0xA4 0xFFFFFFFF 0x0 0, rw 0xA8 0xFFFFFFFF 0x0 0,
   rw 0xAC 0xFFFFFFFF 0x0 0]

/-- The CNP block's registers. -/
def specsCnp : List RegSpec :=
  [ro 0x0 0x434E5001, ro 0x4 0x1, w1c 0x8 0xC000000F 0x0, w1s 0xC 0x1, ro 0x10 0x0, rw 0x14 0x1FFF 0x0 0, ro 0x18 0x0,
   rw 0x1C 0xFFF 0x0 0, ro 0x20 0x0, rw 0x24 0xFF 0x59 0, ro 0x28 0x0, ro 0x2C 0x0, wo 0x30 0, rw 0x34 0x1FFF 0x0 0,
   ro 0x38 0x0, ro 0x3C 0x0, rw 0x40 0xFF 0x0 0, ro 0x44 0x0, wo 0x48 0, rw 0x4C 0xFFF 0x0 0, ro 0x50 0x0,
   ro 0x54 0x800000, rw 0x58 0xFFFFFFFF 0x0 0, ro 0x5C 0x0, ro 0x60 0x0, rw 0x64 0xFFFFFFFF 0x0 0,
   rw 0x68 0xFFFFFFFF 0x0 0, ro 0x6C 0x0, ro 0x70 0x0, rw 0x74 0x1 0x1 0]

/-- The TILE block's registers. -/
def specsTile : List RegSpec :=
  [ro 0x0 0x54494C01, ro 0x4 0x1, w1c 0x8 0xC0000007 0x0, w1s 0xC 0x1, ro 0x10 0x0, ro 0x14 0x0, ro 0x18 0x0,
   ro 0x1C 0x0, ro 0x20 0x0, rw 0x24 0x1FFFF 0x0 0, ro 0x28 0x0, rw 0x2C 0xFFFFFFFF 0x0 0, rw 0x30 0xFFFFFFFF 0x0 0,
   ro 0x34 0x0, ro 0x38 0x0, rw 0x3C 0xFFFFFFFF 0x0 0, ro 0x40 0x0]

/-- The FUL block's registers. -/
def specsFul : List RegSpec :=
  [ro 0x0 0x46554C01, ro 0x4 0x0, w1c 0x8 0xC000001F 0x0, w1s 0xC 0x1, ro 0x10 0x0, ro 0x14 0x0, ro 0x18 0x0,
   ro 0x1C 0x0, ro 0x20 0x0, ro 0x24 0x0, rc 0x28 0x0, rw 0x2C 0xFFFFFFFF 0x0 0, rw 0x30 0xFFFFFFFF 0x0 0,
   rw 0x34 0xFFFFFFFF 0x0 0, rw 0x38 0xFFFFFFFF 0x0 0, rw 0x3C 0xFFFFFFFF 0x0 0, ro 0x40 0x0, rw 0x44 0xFFFFFFFF 0x0 0,
   ro 0x48 0x0, ro 0x4C 0x0, ro 0x50 0x0, rw 0x54 0x1 0x1 0]

/-- The ASP block's registers. -/
def specsAsp : List RegSpec :=
  [ro 0x0 0x41535001, rw 0x4 0x1 0x0 0, w1c 0x8 0xC000007F 0x0, w1s 0xC 0x1, cfg 0x10 0x1FFFF 0x18008,
   cfg 0x14 0x3F7F7F 0x70302, rw 0x18 0xFFFFFFFF 0x3 0, rw 0x1C 0xFFFFFFFF 0x3 0, ro 0x20 0x0, ro 0x24 0x0, ro 0x28 0x0,
   ro 0x2C 0x0, ro 0x30 0x0, rw 0x34 0xFFFFFFFF 0x0 0, rw 0x38 0xFFFFFFFF 0x0 0, rw 0x3C 0xFFFFFFFF 0x0 0,
   rw 0x40 0xFFFFFFFF 0x0 0, ro 0x44 0x0, ro 0x48 0x0]

/-- The AESR block's registers. -/
def specsAesr : List RegSpec :=
  [ro 0x0 0x41455301, rw 0x4 0x1 0x0 0, w1c 0x8 0xC000007F 0x0, w1s 0xC 0x1, cfg 0x10 0x3F001F 0x70000, ro 0x14 0x0,
   ro 0x18 0x0, ro 0x1C 0x0, ro 0x20 0x0, ro 0x24 0x0, rw 0x28 0xFFFFFFFF 0x0 0, rw 0x2C 0xFFFFFFFF 0x0 0,
   rw 0x30 0xFFFFFFFF 0x0 0, rw 0x34 0xFFFFFFFF 0x0 0, rw 0x38 0xFFFFFFFF 0x0 0, ro 0x3C 0x0, rw 0x40 0x1 0x0 0,
   ro 0x44 0x0, ro 0x48 0x0, ro 0x4C 0x0, ro 0x50 0x0, ro 0x54 0x0, ro 0x58 0x0, ro 0x5C 0x0]

/-- The AEST block's registers. -/
def specsAest : List RegSpec :=
  [ro 0x0 0x41455302, rw 0x4 0x1 0x0 0, w1c 0x8 0xC0000003 0x0, w1s 0xC 0x1, cfg 0x10 0x3F0003 0x70001, ro 0x14 0x0,
   rw 0x18 0xFFFFFFFF 0x0 0, rw 0x1C 0xFFFFFFFF 0x0 0, rw 0x20 0xFFFFFFFF 0x0 0, rw 0x24 0xFFFFFFFF 0x0 0,
   rw 0x28 0xFFFFFFFF 0x0 0, rw 0x2C 0xFFFFFFFF 0x0 0, rw 0x30 0xFFFFFFFF 0x0 0]

/-- The ASR block's registers. -/
def specsAsr : List RegSpec :=
  [ro 0x0 0x41535201, ro 0x4 0x1, w1c 0x8 0xC0000003 0x0, w1s 0xC 0x1, ro 0x10 0x0, rw 0x14 0x7 0x2 0,
   rw 0x18 0x7F 0x0 0, ro 0x1C 0x0, ro 0x20 0x0, ro 0x24 0x0, ro 0x28 0x0, ro 0x2C 0x0, rc 0x30 0x0,
   rw 0x34 0xFF0F 0x0 0, rw 0x38 0xFFFFFFFF 0x0 0]

/-- The CLK block's registers. -/
def specsClk : List RegSpec :=
  [ro 0x0 0x434C4B01, rw 0x4 0x6 0x7 0, w1c 0x8 0xC000007F 0x0, w1s 0xC 0x1, ro 0x10 0x770, ro 0x14 0x0,
   rw 0x18 0x3FF 0xA 0, rw 0x1C 0x3FF 0xA 0, rw 0x20 0xFFFF 0x7D0 0, rw 0x24 0x1FFFF 0xC350 0, rw 0x28 0x7F 0x64 0,
   rw 0x2C 0x7 0x0 0, rw 0x30 0xFFFFFFFF 0x3E8 0, ro 0x34 0x0, rw 0x38 0x3FFFF 0xC350 0, rw 0x3C 0x71 0x0 0, ro 0x40 0x0,
   rc 0x44 0x0, rw 0x48 0xFFFFFFFF 0x0 0, rw 0x4C 0xFFFFFFFF 0x0 0, rw 0x50 0xFFFFFFFF 0x0 0,
   lk 0x80 0xFFFFFFFF 0x1E03E850 0, lk 0x90 0xFFFFFFFF 0x1E01F4A2 0, lk 0xA0 0xFFFFFFFF 0x1E01F4A4 0,
   lk 0xB0 0xFFFFFFFF 0x1E006486 0, lk 0xC0 0xFFFFFFFF 0x1E138838 0, lk 0xD0 0xFFFFFFFF 0x1E13883A 0, ro 0x84 0x0,
   ro 0x94 0x0, ro 0xA4 0x0, ro 0xB4 0x0, ro 0xC4 0x0, ro 0xD4 0x0, ro 0x88 0x0, ro 0x98 0x0, ro 0xA8 0x0, ro 0xB8 0x0,
   ro 0xC8 0x0, ro 0xD8 0x0, ro 0x8C 0x0, ro 0x9C 0x0, ro 0xAC 0x0, ro 0xBC 0x0, ro 0xCC 0x0, ro 0xDC 0x0]

/-- The NET block's registers. -/
def specsNet : List RegSpec :=
  [ro 0x0 0x4E455401, rw 0x4 0x1 0x0 0, w1c 0x8 0xC000001F 0x0, w1s 0xC 0x1, cfg 0x10 0x17F 0x108,
   cfg 0x14 0x1F7F 0x140A, ro 0x18 0x0, cfg 0x1C 0xFFFFFFFF 0x0, cfg 0x20 0xFFFF 0x0, cfg 0x24 0xFFFFFFFF 0x0,
   cfg 0x28 0xFFFFFFFF 0x0, cfg 0x2C 0xFFFFFFFF 0x0, cfg 0x30 0xFFFFFFFF 0x0, cfg 0x34 0xFFFFFFFF 0x0,
   cfg 0x38 0x3F3FFFFF 0x2E22A000, rw 0x3C 0xFF 0x14 0, rw 0x40 0xFFFFFFFF 0x0 0, rw 0x44 0xFFFFFFFF 0x0 0,
   rw 0x48 0xFFFFFFFF 0x0 0, rw 0x4C 0xFFFFFFFF 0x0 0, rw 0x50 0xFFFFFFFF 0x0 0, rw 0x54 0xFFFFFFFF 0x0 0,
   rw 0x58 0xFFFFFFFF 0x0 0, rw 0x5C 0xFFFFFFFF 0x0 0]

/-- The STR block's registers. -/
def specsStr : List RegSpec :=
  [ro 0x0 0x53545201, ro 0x4 0x1, w1c 0x8 0xC0000003 0x0, w1s 0xC 0x1, ro 0x10 0x0, ro 0x14 0x0, rw 0x18 0xFF77F 0x64 0,
   rw 0x1C 0xFFFFFFFF 0x0 0, rw 0x20 0xFFFFFFFF 0x0 0, rw 0x24 0xFFF 0x0 0, ro 0x28 0x0, rw 0x2C 0xFFFFFFFF 0x0 0,
   rw 0x30 0xFFFFFFFF 0x0 0, rw 0x34 0xFFF 0x0 0, ro 0x38 0x0, rw 0x3C 0xFFFFFFFF 0x0 0, rw 0x40 0xFFFFFFFF 0x0 0,
   rw 0x44 0xFFFFFFFF 0x0 0, wo 0x48 0, rw 0x4C 0x83FF 0x0 0, ro 0x50 0x0, rw 0x54 0xFFFFFFFF 0x0 0,
   rw 0x58 0xFFFFFFFF 0x0 0, rw 0x5C 0xFFFFFFFF 0x0 0, ro 0x60 0x0, rw 0x80 0xFFFFFFFF 0x0 0, rw 0x84 0xFFFFFFFF 0x0 0,
   rw 0x88 0xFFFFFFFF 0x0 0, rw 0x8C 0xFFFFFFFF 0x0 0, rw 0x90 0xFFFFFFFF 0x0 0, rw 0x94 0xFFFFFFFF 0x0 0,
   rw 0x98 0xFFFFFFFF 0x0 0, rw 0x9C 0xFFFFFFFF 0x0 0, rw 0xA0 0xFFFFFFFF 0x0 0, rw 0xA4 0xFFFFFFFF 0x0 0,
   rw 0xA8 0xFFFFFFFF 0x0 0, rw 0xAC 0xFFFFFFFF 0x0 0, rw 0xB0 0xFFFFFFFF 0x0 0, rw 0xB4 0xFFFFFFFF 0x0 0,
   rw 0xB8 0xFFFFFFFF 0x0 0, rw 0xBC 0xFFFFFFFF 0x0 0, ro 0xC0 0x0, ro 0xC4 0x0, ro 0xC8 0x0, ro 0xCC 0x0, ro 0xD0 0x0,
   ro 0xD4 0x0, ro 0xD8 0x0, ro 0xDC 0x0, ro 0xE0 0x0, ro 0xE4 0x0, ro 0xE8 0x0, ro 0xEC 0x0, ro 0xF0 0x0, ro 0xF4 0x0,
   ro 0xF8 0x0, ro 0xFC 0x0, ro 0x100 0x0, ro 0x104 0x0, ro 0x108 0x0, ro 0x10C 0x0, ro 0x110 0x0, ro 0x114 0x0,
   ro 0x118 0x0, ro 0x11C 0x0, ro 0x120 0x0, ro 0x124 0x0]

/-- The TIM block's registers. -/
def specsTim : List RegSpec :=
  [ro 0x0 0x54494D01, ⟨0x4, 0x0, 0x3, 0x0, 0x4, 0x0, 0x0, false, 0⟩, w1c 0x8 0xC000007F 0x0, w1s 0xC 0x1, ro 0x10 0x0, ro 0x14 0x0, ro 0x18 0x0,
   cfg 0x1C 0xFF3F 0x10, cfg 0x20 0xFFFF 0x3D1D, cfg 0x24 0xFFFFFF 0xF88080, ro 0x28 0x0, ro 0x2C 0x0, ro 0x30 0x0,
   ro 0x34 0x0, ro 0x38 0x0, ro 0x3C 0x0, ro 0x40 0x0, ro 0x44 0x0, rw 0x48 0xFFFFFF 0x1003E8 0,
   rw 0x4C 0xF0FFFFF 0x40007D0 0, rw 0x50 0xFFFFFFFF 0x3B9ACA00 0, wo 0x54 1, rw 0x58 0xFFFF 0x3E8 0,
   rw 0x5C 0xFFFFFFFF 0x0 0, rw 0x60 0xFFFFFFFF 0x0 0, rw 0x64 0xFFFFFFFF 0x0 0, rw 0x68 0xFFFFFFFF 0x0 0,
   rw 0x6C 0xFFFFFFFF 0x0 0, rw 0x70 0xFFFFFFFF 0x0 0, ro 0x74 0x0, rw 0x78 0xFFFFFFFF 0x0 0, rw 0x7C 0xFFFFFFFF 0x0 0,
   rw 0x80 0xFFFFFFFF 0x0 0, lk 0x84 0xFFFFFFFF 0x0 0, lk 0x88 0xFFFFFFFF 0x0 0, lk 0x8C 0xFFFFFFFF 0x0 0,
   lk 0x90 0xFFFFFFFF 0x0 0, lk 0x94 0xFFFFFFFF 0x0 0, lk 0x98 0xFFFFFFFF 0x0 0, lk 0x9C 0xFFFFFFFF 0x0 0,
   lk 0xA0 0xFFFFFFFF 0x0 0, lk 0xA4 0xFFFFFFFF 0x0 0, lk 0xA8 0xFFFFFFFF 0x0 0, lk 0xAC 0xFFFFFFFF 0x0 0,
   lk 0xB0 0xFFFFFFFF 0x0 0, lk 0xB4 0xFFFFFFFF 0x0 0, lk 0xB8 0xFFFFFFFF 0x0 0, lk 0xBC 0xFFFFFFFF 0x0 0,
   lk 0xC0 0xFFFFFFFF 0x0 0, ⟨0x100, 0x0, 0x4, 0x0, 0x3, 0x0, 0x0, false, 0⟩, ⟨0x120, 0x0, 0x4, 0x0, 0x3, 0x0, 0x0, false, 0⟩, ⟨0x140, 0x0, 0x4, 0x0, 0x3, 0x0, 0x0, false, 0⟩, ⟨0x160, 0x0, 0x4, 0x0, 0x3, 0x0, 0x0, false, 0⟩,
   rw 0x104 0xFFFFFFFF 0x0 0, rw 0x124 0xFFFFFFFF 0x0 0, rw 0x144 0xFFFFFFFF 0x0 0, rw 0x164 0xFFFFFFFF 0x0 0,
   rw 0x108 0xFFFFFFFF 0x0 0, rw 0x128 0xFFFFFFFF 0x0 0, rw 0x148 0xFFFFFFFF 0x0 0, rw 0x168 0xFFFFFFFF 0x0 0,
   rw 0x10C 0xFFFFFFFF 0x0 0, rw 0x12C 0xFFFFFFFF 0x0 0, rw 0x14C 0xFFFFFFFF 0x0 0, rw 0x16C 0xFFFFFFFF 0x0 0,
   rw 0x110 0xFFFFFFFF 0x0 0, rw 0x130 0xFFFFFFFF 0x0 0, rw 0x150 0xFFFFFFFF 0x0 0, rw 0x170 0xFFFFFFFF 0x0 0,
   rw 0x114 0xFFFFFFFF 0x8 0, rw 0x134 0xFFFFFFFF 0x8 0, rw 0x154 0xFFFFFFFF 0x8 0, rw 0x174 0xFFFFFFFF 0x8 0,
   w1c 0x118 0x4 0x0, w1c 0x138 0x4 0x0, w1c 0x158 0x4 0x0, w1c 0x178 0x4 0x0, rw 0x11C 0xFFFFFFFF 0x0 0,
   rw 0x13C 0xFFFFFFFF 0x0 0, rw 0x15C 0xFFFFFFFF 0x0 0, rw 0x17C 0xFFFFFFFF 0x0 0]

/-- The DRC block's registers. -/
def specsDrc : List RegSpec :=
  [ro 0x0 0x44524301, ro 0x4 0x0, w1c 0x8 0xC0003FFF 0x0, w1s 0xC 0x1, ro 0x10 0x0, ro 0x14 0x0, ro 0x18 0x0,
   rw 0x1C 0x7FF 0x0 0, lk 0x20 0xF 0x8 0, rw 0x24 0x1FFFF 0x4000 0, rw 0x28 0xFFFFFFFF 0x3E8 0, rw 0x2C 0xFF 0xA 0,
   rw 0x30 0xFF01 0x1801 0, ro 0x34 0x0, ro 0x38 0x0, rw 0x3C 0xFFFFFFFF 0x0 0, rw 0x40 0xFFFFFFFF 0x0 0,
   rw 0x44 0xFFFFFFFF 0x0 0, rw 0x48 0xFFFFFFFF 0x0 0, rw 0x4C 0xFFFFFFFF 0x0 0, rw 0x50 0xFFFFFFFF 0x0 0,
   rw 0x54 0xFFFFFFFF 0x0 0, rw 0x58 0xFFFFFFFF 0x0 0, rw 0x5C 0xFFFFFFFF 0x0 0, ro 0x60 0x0, ro 0x64 0x0, ro 0x68 0x0,
   ro 0x6C 0x0, ro 0x70 0x0, ro 0x74 0x0, rw 0x78 0x3F 0x0 0, ro 0x7C 0x0, ro 0x80 0x0, ro 0x84 0x0, rw 0x88 0x3 0x0 0,
   ro 0x8C 0x0, ro 0x90 0x0, rw 0x94 0xFFFFFFFF 0x0 0, ro 0x98 0x0, rw 0x9C 0xFFFFFFFF 0x0 0, ro 0xA0 0x0]

/-- The MEM block's registers. -/
def specsMem : List RegSpec :=
  [ro 0x0 0x4D454D01, ro 0x4 0x1, w1c 0x8 0xC000000F 0x0, w1s 0xC 0x1, ro 0x10 0x0, rw 0x14 0x1 0x1 0, ro 0x18 0x0,
   rw 0x1C 0xFFFFFFFF 0x0 0, rw 0x20 0xFFFFFFFF 0x0 0, ro 0x24 0x0, rw 0x28 0x1FF 0x0 0, ro 0x2C 0x0, wolk 0x30 0,
   ro 0x34 0x0, ro 0x38 0x4B0, rw 0x40 0xFFFFFFFF 0x0 0, rw 0x44 0xFFFFFFFF 0x0 0, rw 0x48 0xFFFFFFFF 0x0 0,
   rw 0x4C 0xFFFFFFFF 0x0 0, rw 0x50 0xFFFFFFFF 0x0 0, rw 0x54 0xFFFFFFFF 0x0 0, rw 0x58 0xFFFFFFFF 0x0 0,
   rw 0x5C 0xFFFFFFFF 0x0 0, rw 0x60 0xFFFFFFFF 0x0 0, rw 0x64 0xFFFFFFFF 0x0 0, rw 0x68 0xFFFFFFFF 0x0 0,
   rw 0x6C 0xFFFFFFFF 0x0 0]

/-- The CRD block's registers. -/
def specsCrd : List RegSpec :=
  [ro 0x0 0x43524401, ro 0x4 0x1, w1c 0x8 0xC000001F 0x0, w1s 0xC 0x1, lk 0x10 0x3 0x1 0, rw 0x14 0xFF 0x64 0,
   ro 0x18 0x0, rw 0x1C 0xFFFFFFFF 0x0 0, rw 0x20 0xFFFFFFFF 0x0 0, rw 0x24 0x1F 0x0 0, ro 0x28 0x0, ro 0x2C 0x0,
   rw 0x30 0xFFFFFFFF 0x0 0]

/-- The TRK block's registers. -/
def specsTrk : List RegSpec :=
  [ro 0x0 0x54524B01, ro 0x4 0x1, w1c 0x8 0xC000000F 0x0, w1s 0xC 0x1, ro 0x10 0x0, lk 0x14 0xFFFF 0x400 0, ro 0x18 0x0,
   ro 0x1C 0x0, ro 0x20 0x0, rw 0x24 0xFFFFFFFF 0x0 0, rw 0x28 0xFFFFFFFF 0x0 0, rw 0x2C 0xFFFFFFFF 0x0 0,
   rw 0x30 0xFFFFFFFF 0x0 0, lk 0x40 0xF 0x8 0, lk 0x44 0xF 0xA 0, lk 0x48 0xF 0x4 0, lk 0x4C 0xF 0x4 0,
   lk 0x50 0xF 0x4 0, lk 0x54 0xF 0x4 0, lk 0x58 0xF 0x6 0, ro 0x5C 0xF, lk 0x60 0xF 0x6 0, lk 0x64 0xF 0x5 0,
   lk 0x68 0xF 0x0 0, lk 0x6C 0xF 0x3 0, ro 0x70 0x0, ro 0x74 0x0, ro 0x78 0x0, ro 0x7C 0x0, ro 0x80 0x0, ro 0x84 0x0,
   ro 0x88 0x0, rw 0x8C 0xF 0x0 0, rc 0x90 0x0, ro 0x94 0x0, rc 0x98 0x0, ro 0x9C 0x0]

/-- The TWN block's registers. -/
def specsTwn : List RegSpec :=
  [ro 0x0 0x54574E01, ro 0x4 0x0, w1c 0x8 0xC00000FF 0x0, w1s 0xC 0x1, ro 0x10 0x0, lk 0x14 0x7 0x1 0, wo 0x18 1,
   rw 0x1C 0xFFFFFFFF 0x0 1, rw 0x20 0xFFFFFFFF 0x0 1, ro 0x24 0x0, rw 0x28 0xFFFFFFFF 0x0 0, ro 0x2C 0x0, ro 0x30 0x0,
   ro 0x34 0x0, rw 0x38 0xFFFFFFFF 0x0 0, ro 0x3C 0x0, rw 0x40 0xFFFFFFFF 0x0 0, rw 0x44 0xFFFFFFFF 0x0 0,
   rw 0x48 0xFFFFFFFF 0x0 0, rw 0x4C 0xFFFFFF 0x0 0, ro 0x50 0x0, rc 0x54 0x0, ro 0x58 0x0]

/-- The HWD block's registers. -/
def specsHwd : List RegSpec :=
  [ro 0x0 0x48574401, ro 0x4 0x1, w1c 0x8 0xC0000FFF 0x0, w1s 0xC 0x1, ro 0x10 0x1, rw 0x14 0x1 0x0 1,
   lk 0x18 0xFF3F0F 0xFF0603 1, ro 0x1C 0x0, ro 0x20 0x0, rw 0x24 0xFFFFFFFF 0x0 0, ro 0x28 0x0, rw 0x2C 0xFFFFFC 0x0 0,
   rw 0x30 0x0 0x0 1, ro 0x34 0x0, wo 0x38 1, lk 0x40 0x3FFF 0x0 1, lk 0x44 0x3FFF 0x0 1, lk 0x48 0x3FFF 0x0 1,
   lk 0x4C 0x3FFF 0x0 1, lk 0x50 0x3FFF 0x0 1, lk 0x54 0x3FFF 0x0 1, lk 0x58 0x3FFF 0x0 1, lk 0x5C 0x3FFF 0x0 1,
   rw 0x1010 0x73F 0x1E 0, rw 0x1020 0x73F 0x1E 0, rw 0x1030 0x73F 0x1E 0, rw 0x1040 0x73F 0x1E 0, ro 0x1014 0x0,
   ro 0x1024 0x0, ro 0x1034 0x0, ro 0x1044 0x0, ro 0x1018 0x0, ro 0x1028 0x0, ro 0x1038 0x0, ro 0x1048 0x0,
   rc 0x101C 0x0, rc 0x102C 0x0, rc 0x103C 0x0, rc 0x104C 0x0, rw 0x1050 0xFF 0x1E 0, rw 0x1054 0xFF 0x3C 0,
   ro 0x1058 0x0, rw 0x105C 0x7 0x0 0, ro 0x1060 0x0, rw 0x1064 0xFFFFFFFF 0x0 0, rw 0x2010 0x33F01 0x30001 0,
   rw 0x2030 0x33F01 0x30001 0, ro 0x2014 0x0, ro 0x2034 0x0, ro 0x2018 0x0, ro 0x2038 0x0,
   rw 0x201C 0xFFFFFF 0x140190 0, rw 0x203C 0xFFFFFF 0x140190 0, rw 0x2020 0xFFFFFFFF 0x0 0,
   rw 0x2040 0xFFFFFFFF 0x0 0, rw 0x2024 0xFFFFFFFF 0x0 0, rw 0x2044 0xFFFFFFFF 0x0 0, ro 0x2028 0x0, ro 0x2048 0x0,
   rw 0x2050 0xFFFFFFFF 0x4E200064 0]

/-- The PRV block's registers. -/
def specsPrv : List RegSpec :=
  [ro 0x0 0x50525601, ro 0x4 0x1, w1c 0x8 0xC000000F 0x0, w1s 0xC 0x1, ro 0x10 0x0, rw 0x14 0xFF 0x78 0,
   lk 0x18 0xFFFFFFFF 0x64011405 0, ro 0x1C 0x0, rw 0x20 0xFF 0x0 0, ro 0x24 0x0, rw 0x28 0xFFFFFFFF 0x0 0,
   rw 0x2C 0xFFFFFFFF 0x0 0, ro 0x30 0x0, ro 0x34 0x0, ro 0x38 0x0]

/-- The PRS block's registers. -/
def specsPrs : List RegSpec :=
  [ro 0x0 0x50525301, ro 0x4 0x1, w1c 0x8 0xC000000F 0x0, w1s 0xC 0x1, ro 0x10 0x8, lk 0x14 0x3FF 0x78 0, wo 0x18 1,
   rw 0x1C 0xFFFFFFFF 0x0 0, ro 0x20 0x0, rw 0x24 0xFFFFFFFF 0x0 0, ro 0x28 0x0, rw 0x2C 0xFFFFFFFF 0x0 0]

/-- The PWD block's registers. -/
def specsPwd : List RegSpec :=
  [ro 0x0 0x50574401, ro 0x4 0x1, w1c 0x8 0xC000000F 0x0, w1s 0xC 0x1, ro 0x10 0x0, wo 0x14 1, lk 0x18 0xFF0F 0xFF07 0,
   ro 0x1C 0x0, rw 0x20 0xFFFFFFFF 0x0 0, rw 0x24 0xFFFFFFFF 0xFFFFFFFF 0, ro 0x28 0x0, rw 0x2C 0xFF 0x6E 0, wo 0x30 1,
   rw 0x34 0xFFFFFFFF 0x0 0, rw 0x38 0xF 0x1 0, rc 0x3C 0x0]

/-- The MON block's registers. -/
def specsMon : List RegSpec :=
  [ro 0x0 0x4D4F4E01, lk 0x4 0x3 0x3 0, w1c 0x8 0xC000000F 0x0, w1s 0xC 0x1, rw 0x10 0x7 0x0 0, ro 0x14 0x0,
   rw 0x18 0xFFFFFFFF 0x0 0, rw 0x1C 0xFFFFFFFF 0x0 0, rw 0x20 0xFFFFFFFF 0x0 0]

/-- The blocks of R51 and R52. -/
inductive Block where
  | sys | evt | job | prs | pwd | img | tck | clk | cnp | grf | asr | str | tim | rng | mem | crd | trk | twn | ldg | hwd | prv | mon
  | asp (n : Nat)
  | aesr (n : Nat)
  | aest (n : Nat)
  | net (n : Nat)
  | drc (c : Nat)
  | tile (n : Nat)
  | ful (k : Nat)
  deriving DecidableEq, Repr

/-- The host address of a block's window 0 (R52). -/
def blkBase : Block → Nat
  | .sys => 0 | .evt => 0x1000 | .job => 0x2000 | .prs => 0x3000 | .pwd => 0x4000 | .img => 0x5000 | .tck => 0x6000
  | .clk => 0x7000 | .cnp => 0x8000 | .grf => 0x10000 | .asr => 0x3F000 | .str => 0x50000 | .tim => 0x60000
  | .rng => 0x72000 | .mem => 0x80000 | .crd => 0x81000 | .trk => 0x90000 | .twn => 0xA0000 | .ldg => 0xA1000
  | .hwd => 0xB0000 | .prv => 0xC0000 | .mon => 0xD0000
  | .asp n => 0x20000 + 0x1000 * n
  | .aesr n => 0x30000 + 0x1000 * n
  | .aest n => aestBase n
  | .net n => 0x40000 + 0x1000 * n
  | .drc c => 0x70000 + 0x1000 * c
  | .tile n => 0x100000 + 0x1000 * n
  | .ful k => 0x200000 + 0x1000 * k

/-- The registers of a block. -/
def specsOf : Block → List RegSpec
  | .sys => specsSys | .evt => specsEvt | .job => specsJob | .prs => specsPrs | .pwd => specsPwd | .img => specsImg
  | .tck => specsTck | .clk => specsClk | .cnp => specsCnp | .grf => specsGrf | .asr => specsAsr | .str => specsStr
  | .tim => specsTim | .rng => specsRng | .mem => specsMem | .crd => specsCrd | .trk => specsTrk | .twn => specsTwn
  | .ldg => specsLdg | .hwd => specsHwd | .prv => specsPrv | .mon => specsMon
  | .asp _ => specsAsp | .aesr _ => specsAesr | .aest _ => specsAest | .net _ => specsNet | .drc _ => specsDrc
  | .tile _ => specsTile | .ful _ => specsFul

/-- An offset that no block lists: it reads 0 and ignores writes. -/
def noOffset : Nat := 0x3FC

/-- The window w of a block of several windows: its header is window 0's (R545), `has` says which windows hold more. -/
def multiWin (b : Block) (w off : Nat) (has : Bool) : Block × Nat :=
  if off < 0x10 then (b, off) else if has then (b, 0x1000 * w + off) else (b, noOffset)

/-- The block and the offset that a register address reaches (R51, R52, R55, R545); none for an unmapped address or an
unpopulated window. The MSI-X windows are not blocks. -/
def locate (a : Nat) : Option (Block × Nat) :=
  let win := a / 0x1000
  let off := (a % 0x400) / 4 * 4
  if a < 0x100000 then
    if win < 9 then
      some (match win with
        | 0 => (.sys, off) | 1 => (.evt, off) | 2 => (.job, off) | 3 => (.prs, off) | 4 => (.pwd, off)
        | 5 => (.img, off) | 6 => (.tck, off) | 7 => (.clk, off) | _ => (.cnp, off))
    else if 0x10 ≤ win ∧ win < 0x20 then some (multiWin .grf (win - 0x10) off (win == 0x10))
    else if 0x20 ≤ win ∧ win < 0x30 then some (.asp (win - 0x20), off)
    else if 0x30 ≤ win ∧ win < 0x38 then some (.aesr (win - 0x30), off)
    else if 0x38 ≤ win ∧ win < 0x3F then some (.aest (win - 0x38), off)
    else if win = 0x3F then some (if a % 0x800 < 0x400 then (.asr, off) else (.aest 7, off))
    else if 0x40 ≤ win ∧ win < 0x44 then some (.net (win - 0x40), off)
    else if 0x50 ≤ win ∧ win < 0x60 then some (multiWin .str (win - 0x50) off (win == 0x50))
    else if win = 0x60 then some (.tim, off)
    else if win = 0x70 ∨ win = 0x71 then some (.drc (win - 0x70), off)
    else if win = 0x72 then some (.rng, off)
    else if win = 0x80 then some (.mem, off)
    else if win = 0x81 then some (.crd, off)
    else if win = 0x90 then some (.trk, off)
    else if win = 0xA0 then some (.twn, off)
    else if win = 0xA1 then some (.ldg, off)
    else if 0xB0 ≤ win ∧ win < 0xC0 then some (multiWin .hwd (win - 0xB0) off (decide (win < 0xB3)))
    else if win = 0xC0 then some (.prv, off)
    else if win = 0xD0 then some (.mon, off)
    else none
  else if a < 0x200000 then some (.tile (win - 0x100), off)
  else if a < 0x240000 then some (.ful (win - 0x200), off)
  else none

/-- The row of an offset in a block's map. -/
def findSpec : List RegSpec → Nat → Option RegSpec
  | [], _ => none
  | r :: rs, off => if r.off = off then some r else findSpec rs off

/-- The map row of the register whose place is `a`; none where the window lists nothing. -/
def specAt (a : Nat) : Option RegSpec :=
  match locate a with
  | none => none
  | some (b, off) => findSpec (specsOf b) off

/-- What a register holds after a cold start where the chapters' maps give it (the per-module, per-image and
per-detection values are written by the steps that fix them). -/
def resetVal (a : Nat) : W32 :=
  match specAt a with
  | none => 0
  | some r => r.reset

end Sys2Proof.Machine
end

