-- ==== Sys2Proof/Machine/Parts3.lean ====
section
/-! DEFINITION. The parts of State for chapters 12 to 15: the DRAM channels, the on-chip memories and the Carder,
the Trunk, and the twin pair. -/

namespace Sys2Proof.Machine

/-! ## DRAM channels (chapter 12) -/

/-- The rank states of R361. -/
inductive RankState where
  | absent
  | inService
  | suspect
  | spare
  | migratingOut
  | migratingIn
  | retired
  | failed
  | unused
  deriving DecidableEq, Repr

/-- One physical rank (R338, R341 to R343, R361): its state, refresh interval and owed refreshes, and training. -/
structure Rank where
  st : RankState
  hot : Bool
  fast : Bool
  owed : Nat
  readWin : Nat
  writeWin : Nat
  lane : Nat
  lkg : Bool
  lastTrain : W32
  deriving DecidableEq, Repr

/-- A write-queue entry (R344): the line's DRAM address over 64, and for each of its 64 bytes the strobed value. -/
structure WqEntry where
  line : Nat
  bytes : List (Option Byte)
  qos15 : Bool
  deriving DecidableEq, Repr

/-- A row of a bank's hammer table (R350): the row, its count, the counts per master, whether it was treated. -/
structure HammerRow where
  row : Nat
  count : Nat
  masters : Sparse Nat
  treated : Bool
  deriving DecidableEq, Repr

/-- An entry of the command history (R352, DRC_HIST_CMD): the word and the DRAM clock time of the command. -/
structure HistCmd where
  cmd : W32
  time : Nat
  deriving DecidableEq, Repr

/-- A migration (R353): source and target rank, cause, MiB copied, whether the source was SUSPECT, the job's slot; `done` once the last line has been
copied, `complete` after the remap. -/
structure Migration where
  source : Nat
  target : Nat
  cause : Nat
  copied : Nat
  wasSuspect : Bool
  slot : Option Nat
  poisoned : Nat
  startTick : W32
  done : Bool
  complete : Bool
  deriving DecidableEq, Repr

/-- One DRAM channel (chapter 12). `rankMap` maps the logical ranks, `hammer` is keyed by rank, bank group and bank (rank × 16 + group × 4 +
bank); `neighbours` are the rows to be activated at a rank's next refresh slot, as (bank key, row). `thrEff` and `ceEff` are the thresholds
in effect (R359: an accepted value counts from the next tick boundary), `scrubOn` likewise; `overTick`: the running tick has had a catch-up of more
than eight refreshes (R343). `zqTicks`, `tempTicks` and `trainTicks` count the ticks since the last short calibration, temperature reading and
retraining (R338, R341), `trainEff` is the retraining period in effect. -/
structure Channel where
  enabled : Bool
  ranks : List Rank
  rankMap : List Nat
  spareRank : Option Nat
  spareUsed : Bool
  wq : List WqEntry
  hammer : Sparse (List HammerRow)
  throttle : List (Nat × Nat)
  neighbours : List (Nat × Nat)
  hist : List HistCmd
  frzDrop : Nat
  trainNext : Nat
  mig : Option Migration
  migLast : W32
  scrubPos : Nat
  overTick : Bool
  zqTicks : Nat
  tempTicks : Nat
  trainTicks : Nat
  trainEff : Nat
  thrEff : Nat
  ceEff : Nat
  scrubOn : Bool
  deriving DecidableEq, Repr

/-- Both channels and the bytes of DRAM (R335, R336). `poison` lists the poisoned ECC words by DRAM address over 8; `ret` are the
retention records of R340: the tick and what the ledger's CRC-32C covers. -/
structure DramSt where
  mem : Sparse Byte
  poison : Sparse Bool
  ch0 : Channel
  ch1 : Channel
  frozen : Bool
  ranksW : Nat
  ret : List (W64 × Sparse Byte)
  selfRefresh : Bool
  time : Nat
  deriving DecidableEq, Repr

/-! ## On-chip memories and the Carder (chapter 13) -/

/-- An entry of the repair map (R375, R377). -/
structure RepEntry where
  row : Nat
  host : Bool
  active : Bool
  deriving DecidableEq, Repr

/-- What the Carder does (R383). -/
inductive CrdAct where
  | idle
  | startup
  | destructive
  | preserving
  | remap
  deriving DecidableEq, Repr

/-- A MARCH in progress (R371 to R373): the job's slot and arguments, where it stands (`step` 0 a copy waits for the boundary, 1 the bank is
tested, 2 the copy back waits for the boundary), its hold in ticks and what is left of the one that runs, the failing words the run meets, and what it has found. -/
structure MarchWork where
  slot : Nat
  retention : Bool
  groups : Nat
  bank : Nat
  lastBank : Nat
  step : Nat
  element : Nat
  holding : Bool
  hold : Nat
  holdLeft : Nat
  progress : Nat
  fails : List FailWord
  found : Nat
  repaired : Nat
  unrepaired : Nat
  records : List W32
  startTick : W32
  deriving DecidableEq, Repr

/-- The pool, its repair map and loan bank, and the Carder (chapter 13). The map is keyed bank × 8 + spare; `loanDone` says that the switch of the
coming boundary has been made. -/
structure MemSt where
  pool : Sparse Byte
  rep : Sparse (Option RepEntry)
  loanUse : Bool
  loanTaken : Bool
  loanBank : Nat
  loanDone : Bool
  scrubPos : Nat
  act : CrdAct
  march : Option MarchWork
  log : List W32
  deriving DecidableEq, Repr

/-! ## The Trunk (chapter 14) -/

/-- A piece that waits at a DRAM channel which a locked sequence holds (R388, R392): a write carries its bytes by strobe, a read their
number. -/
structure TrkReq where
  master : Nat
  target : Nat
  qos : Nat
  waited : Nat
  addr : Nat
  isWrite : Bool
  bytes : List (Option Byte)
  deriving DecidableEq, Repr

/-- The Trunk (R388 to R396): the requests waiting, the last master granted per target and QoS, the lock held, whether in TEST mode one has held a DRAM
channel or the pool in the running tick (R32), and the targets' cycles under real-time traffic in the running window of 3,000 ticks (R35). -/
structure TrkSt where
  waiting : List TrkReq
  lastGrant : Sparse Nat
  lock : Option (Nat × Nat)
  lockAddr : Nat
  lockTick : Bool
  loadSum : List Nat
  loadTicks : Nat
  test : Bool
  waitMax : Sparse Nat
  waitTgt : Sparse Nat
  deriving DecidableEq, Repr

/-! ## The twin pair (chapter 15) -/

/-- The roles of R418. -/
inductive Role where
  | alone
  | active
  | standby
  | outOfStep
  | resyncing
  | grafting
  | joining
  deriving DecidableEq, Repr

/-- The bundle of a frame (R414, R415): its blocks, the LDG_ACC it carries, the closed contacts (0 to 7), pressed keys (8 to 11) and occupied jacks
(12 to 15). An active holds its partner's port blocks and inputs in the same form. -/
structure Bundle where
  frame : Nat
  blocks : List (PortSrc × List Int)
  acc : Nat
  contacts : List Nat
  whole : Bool
  deriving DecidableEq, Repr

/-- The twin pair (chapter 15). Digests are keyed by tick, `digestNow` is the running tick's; `hbArrived` and `edges` are the running tick's heartbeat frame and pin edges, `hbSeen`
the last boundary's finding, `misses` the closed ticks in a row without one; `faultFlag` is FAULT of the next digest, `faultP` the partner's and
`faultClosed` that it has been closed; `cutoff` says that the running tick's trailer has been sent; `partnerStep` that the standby is in step,
as the active knows it; `phase` to `matching` are the course of a resynchronisation. -/
structure TwnSt where
  role : Role
  oosCause : Nat
  partner : Option W64
  keyHere : Bool
  paired : Bool
  linkUp : Bool
  lanes : Nat
  latency : Nat
  crcErr : Nat
  roleTx : Bool
  roleRx : Bool
  selOut : Bool
  hbTx : Bool
  hbSeen : Bool
  hbArrived : Bool
  edges : Nat
  misses : Nat
  faultFlag : Bool
  digestNow : W32
  digests : Sparse W32
  digestsP : Sparse W32
  faultP : Bool
  faultClosed : Bool
  bundles : List Bundle
  cutoff : Bool
  orphans : List Nat
  activeSince : Nat
  partnerReady : Bool
  partnerImage : Bool
  partnerStep : Bool
  suspended : Bool
  phase : Nat
  outcome : Nat
  mib : Nat
  passes : Nat
  resyncStart : W32
  resyncSlot : Option Nat
  matching : Nat
  deriving DecidableEq, Repr

end Sys2Proof.Machine
end

