-- ==== Sys2Proof/Machine/Parts4.lean ====
section
/-! DEFINITION. The parts of State for chapters 16 to 19: the Heartwood die, silent proving, presence and power, and the Dravot
monitor. -/

namespace Sys2Proof.Machine

/-- A microphone input (R443 to R446): the TYPE of R444 (0 no jack, 7 measuring), its keys, LINE_FAULT, the bias, the key band being counted
(`cand`, `cnt`), the ticks for which the supervision has disagreed with LINE_FAULT, and the ticks of the measurement after an insertion. -/
structure MicIn where
  jack : Bool
  ty : Nat
  bias : Bool
  ptt : Bool
  chime : Bool
  fault : Bool
  iUa : Nat
  cand : Nat
  cnt : Nat
  badCnt : Nat
  meas : Nat
  deriving DecidableEq, Repr

/-- A supervised contact (R447, R448): its state as HWD_CIN_STATE codes it, the state being counted, the last resistance. -/
structure CinLine where
  st : Nat
  cand : Nat
  cnt : Nat
  ohms : Nat
  deriving DecidableEq, Repr

/-- What a power channel puts on its terminals: nothing (high impedance), zero because no frame arrived, the samples of an engine frame, the last
sample held in a twin pair (R412, R459), the fallback mix of the priority microphone and a message by its index and first sample, in its fade-out or
not, and its attenuation in dB (R460), zero outside CH_MASK, the pilot alone (R457), a sweep's point at its level (R468). -/
inductive SpkSrc where
  | hiz
  | silent
  | engine (samples : List Int)
  | hold (sample : Int)
  | mix (mic : Bool) (msg : Option (Nat × Nat)) (fading : Bool) (att : Nat)
  | unmasked
  | probe
  | sweep (point level : Nat)
  deriving DecidableEq, Repr

/-- One tick of a channel: what it fades from over the tick with the weights of R122 for S = 64, if it fades (R453), what it plays, its attenuation
in dB, and whether the pilot is added (R454). -/
structure SpkTick where
  fade : Option SpkSrc
  src : SpkSrc
  att : Nat
  pilot : Bool
  deriving DecidableEq, Repr

/-- The STATE of a power channel (R475). -/
inductive ChState where
  | off
  | play
  | hizShort
  | hizFault
  | sweep
  deriving DecidableEq, Repr

/-- A power channel (R453 to R457): LINE and the change being held, RANGE, the ticks of the pilot window, the ticks since the short or the last
probe began, the probe that runs and its ticks, the probes passed, whether one passing probe returns the channel, whether EN has been
written 0 in HIZ_SHORT, whether the coming tick is a fade-in, a short to be reported and a return to be made at the next boundary (R456, R457), the
frame that has arrived from the engine, the last sample played, and what the running tick plays. -/
structure PowCh where
  st : ChState
  line : Nat
  cand : Nat
  cnt : Nat
  range : Bool
  win : Nat
  since : Nat
  probing : Bool
  probeTicks : Nat
  passes : Nat
  single : Bool
  enLow : Bool
  fadeIn : Bool
  shorted : Option (Int × Int)
  back : Bool
  samples : Option (List Int)
  last : Int
  heard : SpkSrc
  deriving DecidableEq, Repr

/-- The MODE of R472. -/
inductive HwMode where
  | engine
  | fallback
  | returning
  deriving DecidableEq, Repr

/-- The fallback message that plays (R461): its index, whether the chime key asked for it, its trigger, the first sample of the running
tick, whether the running tick is its fade-out, and whether it starts with the coming boundary. -/
structure MsgPlay where
  idx : Nat
  chime : Bool
  trig : Nat
  pos : Nat
  fading : Bool
  fresh : Bool
  deriving DecidableEq, Repr

/-- An IMPEDANCE_SWEEP in progress (R468): the slot, the channel, the points measured, the ticks of the running point, the level in dB below
full scale. -/
structure SweepWork where
  slot : Nat
  ch : Nat
  points : List W32
  ticks : Nat
  level : Nat
  deriving DecidableEq, Repr

/-- Heartwood (chapter 16). `age` counts the ticks since its power-up, up to 1,200; `num` numbers its ticks; `hbCount` to `missed` follow the
heartbeats (`arrived` those of the running tick); `forcePrev` is FORCE at the last boundary; `once` the triggers that have played for this
closure; `mram` the reserve store; `good` the good messages; `checkLeft` the ticks to the end of a check; `causes` the events to be raised;
`found` says that the engine has looked at HWD_STAT since it started; `status` to `sentP` is the engine's end of the bridge, and `afterCut` a status
word that came after the bundle cutoff and counts as the next tick's (R413). -/
structure HwdSt where
  powered : Bool
  age : Nat
  num : Nat
  mode : HwMode
  hbCount : Nat
  hbLast : Nat
  arrived : Nat
  hbGood : Bool
  missed : Nat
  clockInt : Bool
  forcePrev : Bool
  play : Option MsgPlay
  chimeReq : Bool
  once : List Nat
  mics : Sparse MicIn
  cins : Sparse CinLine
  chs : Sparse PowCh
  vbatBad : Bool
  hot : Bool
  att : Bool
  mram : Sparse Byte
  good : List Nat
  checkLeft : Nat
  cfgOk : Bool
  causes : List Nat
  found : Bool
  status : Bool
  noStatus : Nat
  lost : Bool
  sentC : List Nat
  sentP : List Nat
  afterCut : Option (List Nat × List Nat)
  micBlk : Sparse (List Int)
  sweep : Option SweepWork
  deriving DecidableEq, Repr

/-- Where a PROVE stands (R478, R483, R485): the boundaries to the first group's start, a group started whose tick 0 is the coming one, a tick of
a group, the fade-out of an ABORT with the group tick and the fade ticks gone, the last group's writes. -/
inductive PrvStage where
  | waiting (n : Nat)
  | armed
  | group (gt : Nat)
  | fading (gt gone : Nat)
  | ending
  deriving DecidableEq, Repr

/-- The PROVE that runs: its slot, RETURNS, the last group, the table address, the stage. -/
structure PrvRun where
  slot : Nat
  rets : Bool
  last : Nat
  table : Nat
  stage : PrvStage
  deriving DecidableEq, Repr

/-- What a window has seen (R481 orders 2 to 4, R482): the live words at its start, the crosspoints that changed or were in transition, those whose
word was not off at some mix, the outputs that saturated and those with a scaling mode. -/
structure PrvMark where
  ref : Sparse W16
  changed : List Nat
  on : List Nat
  sat : List Nat
  scaled : List Nat
  deriving DecidableEq, Repr

/-- A group's results being written: the ticks left, the entries by DRAM address, its end. -/
structure PrvWrite where
  left : Nat
  entries : List (Nat × W32)
  endTick : W32
  deriving DecidableEq, Repr

/-- Silent proving (chapter 17): the job, the current or last group, the level in use, the window, the writes under way, and the words of R484: groups
done, entries by STATE 1 to 7, discarded groups, the first start, the last end, the records. -/
structure PrvSt where
  run : Option PrvRun
  group : Nat
  level : Nat
  mark : PrvMark
  pend : Option PrvWrite
  groups : Nat
  states : List Nat
  lost : Nat
  g0 : W32
  gEnd : W32
  records : List W32
  deriving DecidableEq, Repr

/-- Presence and the seal (R492 to R496). `elapsed` counts the ticks since the last tick in which PRESENCE_N was
asserted; `window` is 1 while the presence window runs, whatever the latch holds. -/
structure PrsSt where
  present : Bool
  window : Bool
  elapsed : Nat
  sealLatch : Bool
  sealIntact : Bool
  sealFails : Nat
  deriving DecidableEq, Repr

/-- How far a Nap request has come (R504). -/
inductive NapStage where
  | none
  | requested
  | stopping (left : Nat)
  | stopped
  deriving DecidableEq, Repr

/-- Power domains, the wake record and Nap (R500 to R507, R511, R512). `powered` and `clocked` hold domain d at bit d − 1;
`occ` the ticks of PWD_OCC by domain; `rtcTicks` the ticks into the running RTC second; `held` the wake sources that were active at the entry into Nap
and still are; `wakeDue` a source that came before the entry, its contact and the ticks until its wake starts. -/
structure PwdSt where
  wakeSource : Nat
  wakeCin : Nat
  napSeen : Bool
  held : List Nat
  wakeDue : Option (Nat × Nat × Nat)
  supplyFail : Bool
  thermal : Bool
  rtcTicks : Nat
  temp : Int
  tempAbove : Bool
  powered : BitVec 12
  clocked : BitVec 12
  failed : BitVec 12
  occ : Sparse W32
  stage : NapStage
  pwrLow : Bool
  coldRetry : Bool
  deriving DecidableEq, Repr

/-- The Dravot monitor (chapter 19). `line` is the line being typed, latest character first; `tx` the characters waiting
to be sent; `promptNext` says that the prompt follows them; `waiting` the commands that arrived while a reply was being sent; `baudNext` a rate that takes effect after the character being sent,
`baudLine` one that does after the reply; `trace` the
TRACE of R524 with `left` records to come, `buf` the records not yet sent, `dropped` the trace's count. -/
structure MonSt where
  line : List Byte
  tooLong : Bool
  lastCr : Bool
  tx : List Byte
  promptNext : Bool
  prompt : Bool
  waiting : List MonCmd
  rxSeen : Bool
  rxIdle : Nat
  brk : Bool
  baudNext : Option Nat
  baudLine : Option Nat
  trace : Nat
  left : Nat
  buf : List (List Byte)
  dropped : Nat
  deriving DecidableEq, Repr

end Sys2Proof.Machine
end

