-- ==== Sys2Proof/Machine/State.lean ====
section
/-! DEFINITION. The state of the HVM-8400, as plain data; why a step can stop; the state right after reset. -/

namespace Sys2Proof.Machine

/-- What leaves the module: the data a read returns, interrupt messages, SPI bytes, DMA to host memory, what a DRAM read gives its master, network
frames, the instants at which a port starts its media, NETn_TXDIS and PTP messages, twin-link messages, Heartwood bridge words and a tick of a loudspeaker line, monitor characters, accesses of the boot flash; and what the audio pins carry: serial and AES3
frames, the receive frame syncs of a master, MCLK_OUT0 to MCLK_OUT3 as divisors of the media clock, 0 for low. -/
inductive Out where
  | readData (v : W32)
  | msix (vec : Nat)
  | spi (bytes : List Byte)
  | dma (addr : Nat) (bytes : List Byte)
  | dram (master : Nat) (bytes : List Byte)
  | frame (port : Nat) (bytes : List Byte)
  | igmp (port : Nat) (groups : List (List W32)) (leave : Bool)
  | mediaStart (port us : Nat)
  | txDis (port : Nat) (high : Bool)
  | ptp (net : PtpNet) (kind seq : Nat) (t : Int)
  | twin (kind : Nat) (args : List Nat)
  | speaker (ch : Nat) (tick : SpkTick)
  | bridge (tick : Nat) (samples : List (Nat × List Int))
  | twinRecord (seq tick op : Nat) (args : List W32) (granted confirm : Bool)
  | twinItem (frame : Nat) (src : PortSrc) (samples : List Int)
  | aesBlock (tx : Nat) (bytes : List Byte)
  | serial (port : Nat) (words : List (Option W32)) (pins : SerialPins)
  | rxSync (port : Nat) (levels : List Bool)
  | aesFrame (tx : Nat) (z : Bool) (a b : W32)
  | mclk (divisors : List Nat)
  | mon (char : Byte)
  | flash (access : FlashAccess)
  deriving DecidableEq, Repr

/-- Why the machine could stop with a fault: no command of this block does (every command has an effect or none), so there is no
reason to name. -/
inductive Fault where
  deriving DecidableEq, Repr

/-- Why a command has no meaning. `notModelled` is raised only by the dispatch, for a row whose meaning is not written yet:
safe, since nothing follows from a refusal. -/
inductive Refusal where
  | notModelled (mnemonic : String)
  deriving DecidableEq, Repr

/-- The state of the module. `pending` is the queue of waiting commands; `regs` the register values that differ from their reset
values, by address; `out` what has left the module; `free` counts the free values drawn (the model's own). -/
structure State where
  pending : List Instr
  fit : Fit
  regs : Sparse W32
  out : List Out
  free : Nat
  sys : SysSt
  jobs : Sparse JobSlot
  ledger : LedgerState
  img : ImgSt
  graph : GraphSt
  canopy : CanopySt
  cores : Sparse Core
  ports : Sparse Port
  clk : ClkSt
  net : NetSt
  tim : TimSt
  pps : Sparse Pps
  dram : DramSt
  mem : MemSt
  trk : TrkSt
  twn : TwnSt
  hwd : HwdSt
  prv : PrvSt
  prs : PrsSt
  pwd : PwdSt
  mon : MonSt
  deriving DecidableEq, Repr

/-- Time and host access before the first start: no power, nothing sampled. -/
def resetSys : SysSt :=
  { phase := .off, answering := false, ready := false, cause := 1, straps := 0, hostLink := false, faulty := false,
    mediaRun := false, aligned := false, tick := 0, realignReq := false, realignLeft := 0, realignLoaded := false,
    cfgPass := false, cfgDirty := false, cfgCommit := 0, cfgDiffs := 0, cfgActed := false, spiTag := 0, spiStatus := 0,
    spiDiscarded := 0, capHost := [], capMon := [], msix := [], deferred := [], onceTick := [] }

/-- The ledger of no session (R427): no record, both counts 0. DESIGN CHOICE (log entry 67): LDG_SUB0 to LDG_SUB7 hold 0 until they are written. -/
def resetLedger : LedgerState :=
  { session := 0, sub := [], entries := [], acc := 0, exe := 0, sent := none, result := 0, resultSeq := 0 }

/-- The loader with no image (R113: SOURCE 7, nothing loaded). -/
def resetImg : ImgSt :=
  { running := none, shown := none, oldImage := none, source := 7, bgLoad := false, phase := .idle, slot := none, staged := none, stagedSrc := 7, ssig1 := [],
    fprint1 := [], partnerCode := none, leadMax := 0, heldEnables := [], takeTick := 0, carry := [], bootSlot := 0 }

/-- The graph with no image. -/
def resetGraph : GraphSt :=
  { contacts := [], ptts := [], dma := none, sels := [], pris := [], lines := [], voices := [], recs := [],
    pipe := { gather := [], portIn := [], stripOut := [], mixOut := [], moHold := [], outSel := [], outStrip := [], taps := [], tapRaw := [], stripsDue := false, emitted := [] } }

/-- The Canopy cleared (R367). -/
def resetCanopy : CanopySt :=
  { liveBank1 := false, gainLive := [], gainShadow := [], flags := [], detLive := [], detShadow := [], dets := [], sclLive := [],
    sclShadow := [], prev := [], counts := [], lastX := [], pendSwaps := [], swapTick := 0, swapStep := 0, swapped := false, timedOut := [], eff := none,
    awake := (List.range 256), tilesOn := 0, scrubPos := 0, flagScrubPos := 0, prvUsed := [], prvLast := [], satOuts := [], scene := none }

/-- The reference subsystem at reset: target and selected input read 7, none (R285). -/
def resetClk : ClkSt :=
  { refs := [], pll := .stopped, outFreq := 0, target := 7, selected := 7, targetFreq := 0, targetLost := false, fromFree := false, buildout := 0,
    wtrLeft := none, epochValid := false, atLimit := false, holdTicks := none, holdE0 := 0, holdTe := 0, lastE0 := none,
    holdExceeded := false, absorbDev := 0, win := 0, winDone := false, looped := false }

/-- Network ports, streams and host queues at reset. -/
def resetNet : NetSt :=
  { ports := [], streams := [], applies := [], bucket := 0, rxProd := 0, txCons := 0, vec3Rx := false,
    vec3Tx := false, dmaStopped := false, marginTicks := 0, due := [] }

/-- A leg of the PTP port at reset. -/
def resetLeg : PtpLeg :=
  { foreign := [], master := none, mpd := 0, wait := none, t12 := none, reqSeq := 0, reqTx := none, lastOffset := none, annAt := 0 }

/-- Network time at reset: TIM_STATE 0. -/
def resetTim : TimSt :=
  { now := 0, sinceTick := 0, mono := 0, syncAt := 0, syncLost := false, rate := 0, pst := .initializing, qualified := false, serving := 0, legA := resetLeg, legB := resetLeg, gm := 0,
    lastGm := none, first := false, good := 0, outs := [], slewAt := 0, stepHeld := false, ackArmed := false, disagree := 0,
    masterSeq := 0, qualThr := 0 }

/-- A DRAM channel before detection. -/
def resetChannel : Channel :=
  { enabled := false, ranks := [], rankMap := [], spareRank := none, spareUsed := false, wq := [], hammer := [], throttle := [],
    neighbours := [], hist := [], frzDrop := 0, trainNext := 0, mig := none, migLast := 0, scrubPos := 0, overTick := false,
    zqTicks := 0, tempTicks := 0, trainTicks := 0, trainEff := 10, thrEff := 0x4000, ceEff := 0x3E8, scrubOn := true }

/-- The DRAM before detection, its bytes unlisted. -/
def resetDram : DramSt :=
  { mem := [], poison := [], ch0 := resetChannel, ch1 := resetChannel, frozen := false, ranksW := 0, ret := [],
    selfRefresh := false, time := 0 }

/-- The pool and the Carder at reset. -/
def resetMem : MemSt :=
  { pool := [], rep := [], loanUse := false, loanTaken := false, loanBank := 0, loanDone := false, scrubPos := 0, act := .idle, march := none, log := [] }

/-- The Trunk at reset. -/
def resetTrk : TrkSt :=
  { waiting := [], lastGrant := [], lock := none, lockAddr := 0, lockTick := false, loadSum := [0, 0, 0, 0, 0, 0, 0], loadTicks := 0, test := false, waitMax := [], waitTgt := [] }

/-- The twin pair at a cold start: ALONE, no partner (R406, R418). -/
def resetTwn : TwnSt :=
  { role := .alone, oosCause := 0, partner := none, keyHere := false, paired := false, linkUp := false, lanes := 0, latency := 0,
    crcErr := 0, roleTx := false, roleRx := false, selOut := false, hbTx := false, hbSeen := false, hbArrived := false, edges := 0,
    misses := 0, faultFlag := false, digestNow := 0, digests := [], digestsP := [], faultP := false, faultClosed := false, bundles := [], cutoff := false,
    orphans := [], activeSince := 0, partnerReady := false, partnerImage := false, partnerStep := false, suspended := false, phase := 0,
    outcome := 0, mib := 0, passes := 0, resyncStart := 0, resyncSlot := none, matching := 0 }

/-- Heartwood at its reset values, in FALLBACK, with a reserve store (R439, R459). -/
def resetHwd (mram : Sparse Byte) : HwdSt :=
  { powered := false, age := 0, num := 0, mode := .fallback, hbCount := 0, hbLast := 0, arrived := 0, hbGood := false, missed := 3,
    clockInt := false, forcePrev := false, play := none, chimeReq := false, once := [], mics := [], cins := [], chs := [],
    vbatBad := false, hot := false, att := false, mram := mram, good := [], checkLeft := 0, cfgOk := false, causes := [],
    found := true, status := false, noStatus := 0, lost := false, sentC := [], sentP := [], afterCut := none, micBlk := [], sweep := none }

/-- No window seen. -/
def noMark : PrvMark := { ref := [], changed := [], on := [], sat := [], scaled := [] }
/-- Proving at reset: nothing runs. -/
def resetPrv : PrvSt :=
  { run := none, group := 0, level := 120, mark := noMark, pend := none, groups := 0, states := [0, 0, 0, 0, 0, 0, 0], lost := 0,
    g0 := 0, gEnd := 0, records := [] }

/-- The seed before its first cold start: the latch set (R495). -/
def resetPrs : PrsSt :=
  { present := false, window := false, elapsed := 0, sealLatch := true, sealIntact := false, sealFails := 0 }

/-- Power before the first cold start: SOURCE 7, no wake (R512). -/
def resetPwd : PwdSt :=
  { wakeSource := 7, wakeCin := 0, napSeen := false, held := [], wakeDue := none, supplyFail := false, thermal := false, rtcTicks := 0, temp := 0,
    tempAbove := false, powered := 0, clocked := 0, failed := 0, occ := [], stage := .none, pwrLow := false, coldRetry := false }

/-- The monitor at reset: nothing typed, the prompt sent. -/
def resetMon : MonSt :=
  { line := [], tooLong := false, lastCr := false, tx := [], promptNext := false, prompt := true, waiting := [],
    rxSeen := false, rxIdle := 0, brk := false, baudNext := none, baudLine := none, trace := 0, left := 0, buf := [], dropped := 0 }

/-- The module before its first cold start (R427, R495, R506): no power, every register at its reset value, every memory
unlisted, the queue empty. The variant, the serial number and the MAC addresses are the model's choice (log entry 1). -/
def State.reset : State :=
  { pending := [], fit := { variantA := true, serial := 0, macs := [0, 0, 0, 0] }, regs := [], out := [], free := 0,
    sys := resetSys, jobs := [], ledger := resetLedger, img := resetImg, graph := resetGraph, canopy := resetCanopy,
    cores := [], ports := [], clk := resetClk, net := resetNet, tim := resetTim, pps := [], dram := resetDram, mem := resetMem,
    trk := resetTrk, twn := resetTwn, hwd := resetHwd [], prv := resetPrv, prs := resetPrs,
    pwd := resetPwd, mon := resetMon }

end Sys2Proof.Machine
end

