-- ==== Sys2Proof/Machine/Ops.lean ====
section
/-! DEFINITION. The operations every command shares: reading and writing registers, counters and flags, raising events, the
command classes, the free values, and how a command answers. -/

namespace Sys2Proof.Machine

/-! ## Answering -/

/-- A core's stacks after a command that is none of its instructions: as they were, or emptied (R203, R225). -/
def keepStacks (old : Sparse Core) (p : Nat × Core) : Nat × Core :=
  match spFind old p.1 with
  | some c => (p.1, { p.2 with loops := if p.2.loops.isEmpty then [] else c.loops, calls := if p.2.calls.isEmpty then [] else c.calls })
  | none => (p.1, { p.2 with loops := [], calls := [] })

/-- The answer of a command: the next state, with the queue and what the module was built as untouched; only an instruction of a core's
own pushes its stacks. -/
def done (s t : State) : Host.Outcome State Fault Refusal :=
  .next { t with pending := s.pending, fit := s.fit, cores := t.cores.map (keepStacks s.cores) }

/-- The answer of an instruction of a Fuller core. -/
def doneStep (s t : State) : Host.Outcome State Fault Refusal := .next { t with pending := s.pending, fit := s.fit }

/-- The answer of a command that does not reach the Fuller cores. -/
def doneCore (s t : State) : Host.Outcome State Fault Refusal := .next { t with pending := s.pending, fit := s.fit, cores := s.cores }

/-- Records what leaves the module. -/
def State.emit (s : State) (o : Out) : State := { s with out := s.out ++ [o] }

/-- The index of the next free value, and the state after it has been drawn. -/
def State.drawn (s : State) : State := { s with free := s.free + 1 }

/-- `f` where the condition holds. -/
def State.when (s : State) (c : Bool) (f : State → State) : State := if c then f s else s

/-! ## Registers -/

/-- The value of a register in the register file. -/
def State.rd (s : State) (a : Nat) : W32 := spGet (resetVal a) s.regs a
/-- Hardware's write of a register. -/
def State.wr (s : State) (a : Nat) (v : W32) : State := { s with regs := spSet (resetVal a) s.regs a v }
/-- A field of a register. -/
def State.rdF (s : State) (a hi lo : Nat) : Nat := fld (s.rd a) hi lo
/-- Hardware's write of a field. -/
def State.wrF (s : State) (a hi lo n : Nat) : State := s.wr a (putFld (s.rd a) hi lo n)
/-- A bit of a register. -/
def State.bit (s : State) (a i : Nat) : Bool := bitOf (s.rd a) i
/-- Hardware sets a bit (W1C flags: R59, hardware setting wins). -/
def State.flag (s : State) (a i : Nat) : State := s.wr a (s.rd a ||| oneBit i)
/-- Hardware clears a bit. -/
def State.unflag (s : State) (a i : Nat) : State := s.wr a (s.rd a &&& ~~~(oneBit i))
/-- A hardware counter counts, saturating at all ones (R59). -/
def State.count (s : State) (a n : Nat) : State := s.wr a (w32 (satN 32 ((s.rd a).toNat + n)))
/-- Returns a register to its reset value. -/
def State.unwr (s : State) (a : Nat) : State := { s with regs := spDel s.regs a }

/-- TCK_COUNT_LO. -/
def State.tickLo (s : State) : W32 := lo32 s.sys.tick
/-- The number of the running tick. -/
def State.tickN (s : State) : Nat := s.sys.tick.toNat

/-- The image that runs. -/
def State.image (s : State) : Option Image := s.img.running
/-- The running image's structure, an empty one without an image. -/
def State.struct (s : State) : Structure :=
  match s.img.running with
  | some i => i.structure'
  | none => default
/-- The tick length of R14: 32 samples at 96 kHz, else 16. -/
def State.tickLen (s : State) : Nat :=
  match s.img.running with
  | some i => if i.rate96 then 32 else 16
  | none => 16
/-- TCK_RATE. -/
def State.rate96 (s : State) : Bool :=
  match s.img.running with
  | some i => i.rate96
  | none => false
/-- The sample counter: the tick counter times the tick length (R15). -/
def State.samples (s : State) : W64 := BitVec.ofNat 64 (s.sys.tick.toNat * s.tickLen)

/-! ## Traces (R521) -/

/-- The characters of a text. -/
def txt (t : String) : List Byte := t.toList.map (fun c => BitVec.ofNat 8 c.toNat)
/-- A hexadecimal digit, capital. -/
def hexDigit (n : Nat) : Byte := if n < 10 then BitVec.ofNat 8 (48 + n) else BitVec.ofNat 8 (55 + n)
/-- Decimal digits of a number, most significant first. -/
def decDigits : Nat → Nat → List Byte
  | 0, _ => []
  | f + 1, n => (if n < 10 then [] else decDigits f (n / 10)) ++ [BitVec.ofNat 8 (48 + n % 10)]
/-- A number in decimal. -/
def dec (n : Nat) : List Byte := decDigits 20 n
/-- A word as 0xVVVV_VVVV (R516). -/
def hexW (w : W32) : List Byte :=
  let d (i : Nat) : Byte := hexDigit (fld w (4 * i + 3) (4 * i))
  txt "0x" ++ [d 7, d 6, d 5, d 4] ++ txt "_" ++ [d 3, d 2, d 1, d 0]
/-- Words of a line separated by single spaces. -/
def spaced : List (List Byte) → List Byte
  | [] => []
  | [x] => x
  | x :: xs => x ++ [0x20] ++ spaced xs

/-- Takes a record of a running trace of the given kind; one that finds the buffer full is dropped and counted. The flag of EV125 is
set here, the event by the caller. -/
def State.record (s : State) (kind : Nat) (line : List Byte) : State :=
  if s.mon.trace = kind ∧ 0 < s.mon.left then
    if s.mon.buf.length < 4096 then
      { s with mon := { s.mon with buf := s.mon.buf ++ [line], left := s.mon.left - 1 } }
    else ({ s with mon := { s.mon with dropped := s.mon.dropped + 1 } }.count MON_TRACE_DROP 1).flag MON_STAT 3
  else s

/-! ## The host's access (R41, R42) -/

/-- The host interface answers: the memories are cleared, and under PCIe the link is up. -/
def State.hostUp (s : State) : Bool := s.sys.answering && (s.sys.straps.getLsbD 0 || s.sys.hostLink)
/-- What a host access does where the interface answers; else it does not reach the module. -/
def State.byHost (s : State) (f : State → State) : State := if s.hostUp then f s else s

/-! ## Events (R64 to R66) -/

/-- The reserved events, which never become pending. -/
def eventReserved (e : Nat) : Bool :=
  decide (128 ≤ e) || (decide (12 ≤ e) && decide (e ≤ 15)) || e == 23 || (decide (35 ≤ e) && decide (e ≤ 39)) || e == 54 || e == 55
    || e == 90 || e == 91 || e == 95 || e == 122 || e == 123
/-- The events of the variant (R3). -/
def State.eventHere (s : State) (e : Nat) : Bool :=
  !eventReserved e && (s.fit.variantA || !(decide (108 ≤ e) && decide (e ≤ 119)))

/-- The names of the events, EV0 to EV127 (R65 and the chapters' event tables). -/
def eventNames : List String :=
  ["CFG_CRC", "STRIP_OVERRUN", "RING_LATE", "TICK_ALIGN", "NARROW_WRITE", "UNMAPPED", "CFG_IGNORED", "LOCK_VIOL", "HOST_LINK",
   "SPI_ERROR", "COLLIDED", "RESET_CAUSE", "", "", "", "", "PRESENCE", "SEAL_BREAK", "RESEAL", "CLASS_DENIED", "NAP_REFUSED",
   "SUPPLY", "THERMAL", "", "REF_DISQUAL", "REF_QUAL", "REF_LOST", "SWITCH_START", "SWITCH_DONE", "REF_DISPUTE", "FREE_RUN",
   "HOLDOVER", "REF_FREQ", "PULL_LIMIT", "ABSORBED", "", "", "", "", ""] ++
  ["PORT_SLIP", "PORT_RATE", "PORT_CLOCK", "PORT_FRAME", "PORT_CFG", "AES_LOCK", "AES_RATE", "AES_SLIP", "AES_ERROR", "AES_CS",
   "ASRC_LOCK", "ASRC_RANGE", "ROOT_LEVEL", "PORT_STATE", "", "", "NET_LINK", "STREAM_LOST", "STREAM_UP", "LEG_CHANGE",
   "PKT_MALFORMED", "HOSTQ_DROP", "RATE_GUARD", "STREAM_SPOOF", "PKT_TIMING", "NET_CFG", "PTP_STATE", "NET_TIME", "PTP_STEP",
   "PTP_REJECT", "PTP_LEG", "PPS_LATE"] ++
  ["DRAM_CE_THR", "DRAM_UE", "DRAM_PARITY", "DRAM_FREEZE", "TRAIN_FAIL", "ROW_HAMMER", "MIGRATE", "REFRESH_OVER", "DRAM_TEMP",
   "POISON_READ", "DRAM_INIT", "RING_STORE", "FULLER_FLAG", "FULLER_ECC", "GAIN_ECC", "POOL_ECC", "MARCH_FAULT", "REPAIR", "", "",
   "TRK_LOCKOUT", "TRK_ISOLATE", "TRK_TIMEOUT", "", "TWIN_LINK", "TWIN_PAIR", "TAKEOVER", "ROLE_SWAP", "OUT_OF_STEP", "RESYNC",
   "HB_MISS", "DUAL_ACTIVE", "LEDGER_FULL", "LEDGER_CONFLICT", "LEDGER_LATE", "LEDGER_LOST"] ++
  ["HW_FALLBACK", "HW_RETURN", "HW_SHORT", "HW_LINE", "HW_MIC_JACK", "HW_MIC_FAULT", "HW_KEY", "HW_CONTACT", "HW_CONTACT_FAULT",
   "HW_SUPPLY", "HW_RESERVE", "HW_BRIDGE", "PROVE_FAIL", "RETURN_FAIL", "", "", "MON_ACTIVE", "MON_TRACE_DROP", "MON_WRITE",
   "MON_LINE_ERR"]

/-- EVnnn as the monitor writes it: the number in plain decimal. -/
def eventLabel (e : Nat) : List Byte := txt "EV" ++ dec e ++ [0x20] ++ txt (nth "" eventNames e)

/-- Whether an event is pending. -/
def State.pends (s : State) (e : Nat) : Bool := s.bit (EVT_PEND (e / 32)) (e % 32)
/-- Whether MSI-X vector v is masked by its table entry (PRESUMED: the PCI Express layout that R43 names). -/
def State.vecMasked (s : State) (v : Nat) : Bool := bitOf (spGet 1 s.sys.msix (4 * v + 3)) 0
/-- Sends an MSI-X vector, under the PCIe host interface with its link up; a masked one stays in the pending-bit array. -/
def State.vector (s : State) (v : Nat) : State :=
  if s.sys.hostLink && !bitOf (s.sys.straps.setWidth 32) 0 then
    if s.vecMasked v then { s with sys := { s.sys with msix := spPut s.sys.msix 16 (spGet 0 s.sys.msix 16 ||| oneBit v) } }
    else s.emit (.msix v)
  else s

/-- An event becomes pending (R66): its bit sets, EVT_LAST, EVT_LAST_TICK and EVT_COUNT follow, and the vectors of R45 are
sent where it was not pending before. DESIGN CHOICE (log entry 65): an event that is reserved or that the variant lacks leaves EVT_LAST, EVT_LAST_TICK and
EVT_COUNT as they are, whoever raises it, EVT_RAISE among them. -/
def State.pend (s : State) (e : Nat) : State :=
  if s.eventHere e then
    let t := ((s.flag (EVT_PEND (e / 32)) (e % 32)).wr EVT_LAST (w32 e)).wr EVT_LAST_TICK s.tickLo
    let t := t.count EVT_COUNT 1
    let t := t.when (!s.pends e && s.bit EVT_CTL 0 && !s.bit (EVT_MASK (e / 32)) (e % 32)) (·.vector 0)
    t.when (!s.pends e && s.bit (EVT_ALARM (e / 32)) (e % 32)) (·.vector 1)
  else s

/-- The trace record of an event (R521). -/
def State.recEvent (s : State) (e : Nat) : State :=
  if s.eventHere e then s.record 2 (spaced [txt "T", dec s.tickLo.toNat, eventLabel e]) else s

/-- Raises the event of a dropped trace record, at most once per tick; its own record is dropped too. -/
def State.raiseDrop (s : State) (before : Nat) : State :=
  if s.mon.dropped = before then s
  else if s.sys.onceTick.contains 125 then s
  else ({ s with sys := { s.sys with onceTick := 125 :: s.sys.onceTick } }.pend 125).recEvent 125

/-- Raises an event (R66). One of the presence, seal and power range that arises while the host interface is down
waits until READY sets (R508). -/
def State.raise (s : State) (e : Nat) : State :=
  if 16 ≤ e ∧ e ≤ 23 ∧ s.sys.answering = false then
    { s with sys := { s.sys with deferred := s.sys.deferred ++ [e] } }
  else ((s.pend e).recEvent e).raiseDrop s.mon.dropped

/-- Raises an event that is raised at most once per tick. -/
def State.raiseOnce (s : State) (e : Nat) : State :=
  if s.sys.onceTick.contains e then s
  else { s with sys := { s.sys with onceTick := e :: s.sys.onceTick } }.raise e

/-- Sets a status flag and raises its event. -/
def State.flagRaise (s : State) (a i e : Nat) : State := (s.flag a i).raise e

/-- Takes a trace record of a kind other than `ev` and raises EV125 where it was dropped. -/
def State.trace (s : State) (kind : Nat) (line : List Byte) : State := (s.record kind line).raiseDrop s.mon.dropped

/-- IRQ_N is asserted: an unmasked event is pending and EVT_CTL.ENABLE is 1 (R66). -/
def State.irq (s : State) : Bool :=
  s.bit EVT_CTL 0 && (upFrom 0 4).any (fun k => s.rd (EVT_PEND k) &&& ~~~(s.rd (EVT_MASK k)) != 0)
/-- ALARM_N is asserted: a pending event has its EVT_ALARM bit set (R66). -/
def State.alarm (s : State) : Bool := (upFrom 0 4).any (fun k => s.rd (EVT_PEND k) &&& s.rd (EVT_ALARM k) != 0)

/-! ## Command classes (R496 to R499) -/

/-- Class 1 is granted: the presence window is valid (R493, R495). -/
def State.class1 (s : State) : Bool := s.prs.window && !s.prs.sealLatch
/-- Class 2 is granted: DEVELOP was high at the last sampling (R496). -/
def State.class2 (s : State) : Bool := s.sys.straps.getLsbD 1
/-- Whether a class is granted. -/
def State.granted (s : State) (cls : Nat) : Bool := cls == 0 || (cls == 1 && s.class1) || (cls == 2 && s.class2)

/-- The counting of a refusal (R498): PRS_DENIED, DENIED, the record of class, path and address, EV19 once per tick. -/
def State.deny (s : State) (cls path addr : Nat) : State :=
  let t := (s.count PRS_DENIED 1).flag PRS_STAT 2
  let t := t.wr PRS_DENIED_LAST (w32 (cls * 2 ^ 30 + path * 2 ^ 28 + addr / 4 % 2 ^ 22 * 4))
  t.raiseOnce 19

/-! ## The lock and the enable of a block (R56, R58) -/

/-- CTL.ENABLE of a block. -/
def State.enabled (s : State) (b : Block) : Bool := s.bit (blkBase b + 4) 0
/-- LOCK of a block. -/
def State.locked (s : State) (b : Block) : Bool := s.bit (blkBase b + 0xC) 0

/-- An LK write after LOCK: STAT.LOCK_VIOL and EV7 (R12, R58). -/
def State.lockViol (s : State) (b : Block) : State := s.flagRaise (blkBase b + 8) 30 7
/-- A CFG write while enabled: STAT.CFG_IGNORED and EV6 (R12, R58). -/
def State.cfgIgnored (s : State) (b : Block) : State := s.flagRaise (blkBase b + 8) 31 6

/-- A power domain has failed since the last start: its functions are unavailable (R501). -/
def State.domFailed (s : State) (d : Nat) : Bool := s.pwd.failed.getLsbD (d - 1)

/-! ## The memories of the host map (R51) -/

/-- The engine declares itself faulty (R63 with ACT 2): SEL_OUT drops (R411). -/
def State.declareFaulty (s : State) : State := { s with sys := { s.sys with faulty := true }, twn := { s.twn with selOut := false } }

/-- A word of the pool at a byte offset, least significant byte first. -/
def State.poolW (s : State) (a : Nat) : W32 := w32 (leNat (memRead s.mem.pool a 4))
/-- The pool after a store of bytes. -/
def State.poolWr (s : State) (a : Nat) (bs : List Byte) : State :=
  { s with mem := { s.mem with pool := memWrite s.mem.pool a bs } }
/-- The pool after a word has been stored. -/
def State.poolWrW (s : State) (a : Nat) (w : W32) : State := s.poolWr a (leBytes 4 w.toNat)

/-- The pool offset of word k of slot s's result window (R71). -/
def resultOff (slot k : Nat) : Nat := 0xFFC000 + slot * 0x400 + 4 * k
/-- Zeroes a slot's result window. -/
def State.resultClear (s : State) (slot : Nat) : State :=
  { s with mem := { s.mem with pool := memClear s.mem.pool (resultOff slot 0) 0x400 } }
/-- Writes result words from word 1 on, then word 0, which counts them (R71); at most 255. -/
def State.resultWrite (s : State) (slot : Nat) (ws : List W32) : State :=
  let ws := ws.take 255
  (s.poolWr (resultOff slot 1) (ws.flatMap (fun w => leBytes 4 w.toNat))).poolWrW (resultOff slot 0) (w32 ws.length)

/-- Writes result words from word k on, then word 0, which counts them with those written before. -/
def State.resultMore (s : State) (slot k : Nat) (ws : List W32) : State :=
  (s.poolWr (resultOff slot k) (ws.flatMap (fun w => leBytes 4 w.toNat))).poolWrW (resultOff slot 0) (w32 (k - 1 + ws.length))

end Sys2Proof.Machine
end

