-- ==== Sys2Proof/Machine/Operands.lean ====
section
/-! DEFINITION. The operand forms of the Fuller cores (R204, R207, R211, R214 to R221): registers by selector and by move
code, pointer updates, and the two memories as a program sees them. -/

namespace Sys2Proof.Machine

/-- A core as phase 2 leaves it: cleared memories and registers, no program. -/
def coreInit : Core :=
  { p := [], x := [], y := [], far := [], len := 0, x0 := 0, x1 := 0, y0 := 0, y1 := 0, acc := [], pt := [], st := [], rg := [],
    lc := 0, z := false, n := false, v := false, ovf := false, wrap := false, esat := false, ill := false, pc := 0, loops := [],
    calls := [], cycles := 0, active := false, tended := false, overran := false, dead := false, recOvf := false, recWrap := false,
    recIll := false, late := none, scrubPos := 0, esats := 0 }

/-- A core of the state. -/
def State.core (s : State) (k : Nat) : Core := spGet coreInit s.cores k
/-- The state with a core replaced. -/
def State.setCore (s : State) (k : Nat) (c : Core) : State := { s with cores := spPut s.cores k c }

/-- An accumulator, its value and its new value. -/
def Core.a (c : Core) (i : Nat) : Int := (spGet 0 c.acc i).toInt
def Core.setA (c : Core) (i : Nat) (v : Int) : Core := { c with acc := spSet 0 c.acc i (BitVec.ofInt 64 v) }

/-- The sticky flags with the record of the tick (R208). -/
def Core.setIll (c : Core) : Core := { c with ill := true, recIll := true }
def Core.setWrap (c : Core) : Core := { c with wrap := true, recWrap := true }
def Core.setOvf (c : Core) : Core := { c with ovf := true, recOvf := true }

/-- Rounding a quotient by 2^n half to even (R211). -/
def roundEven (a : Int) (n : Nat) : Int :=
  let q := a / ((2 ^ n : Nat) : Int)
  let r := a % ((2 ^ n : Nat) : Int)
  if 2 * r < ((2 ^ n : Nat) : Int) then q
  else if ((2 ^ n : Nat) : Int) < 2 * r then q + 1
  else if q % 2 = 0 then q else q + 1

/-- An extraction of R211: the rounded value, saturated to `w` bits. -/
def extract (a : Int) (n w : Nat) : Int := satI w (roundEven a n)
/-- Whether an extraction saturates. -/
def extractSat (a : Int) (n w : Nat) : Bool := decide (satI w (roundEven a n) ≠ roundEven a n)

/-- A saturated extraction sets ESAT and counts (R211). -/
def Core.noteSat (c : Core) (b : Bool) : Core := if b then { c with esat := true, esats := c.esats + 1 } else c

/-- CSR (R208). -/
def Core.csr (c : Core) : W32 :=
  w32 (b01 c.z + 2 * b01 c.n + 4 * b01 c.v + 256 * b01 c.ovf + 512 * b01 c.wrap + 1024 * b01 c.esat + 2048 * b01 c.ill)

/-! ## Rings and pointers (R207, R214 to R217) -/

/-- BASE, MODE and LEN of a ring descriptor. -/
def rgBase (w : W32) : Nat := fld w 13 0
def rgMode (w : W32) : Nat := fld w 15 14
def rgLen (w : W32) : Nat := fld w 30 16
/-- A written ring descriptor: bit 31 reserved, a LEN above 16,384 becomes 16,384. -/
def rgClean (w : W32) : W32 := if 16384 < rgLen w then putFld (w &&& 0x7FFFFFFF) 30 16 16384 else w &&& 0x7FFFFFFF

/-- The position of the highest set bit, for a number below 2^15. -/
def topBit : Nat → Nat → Nat
  | 0, _ => 0
  | f + 1, n => if 2 ^ (f + 1) ≤ n then f + 1 else topBit f n
/-- `w` bits reversed. -/
def bitrev : Nat → Nat → Nat
  | 0, _ => 0
  | w + 1, x => (x % 2) * 2 ^ w + bitrev w (x / 2)

/-- A pointer update: the new pointer and whether WRAP sets (R214 to R216). -/
def ptStep (pt : Nat) (rg : W32) (delta : Int) : Nat × Bool :=
  let base := rgBase rg
  let len := rgLen rg
  let o : Int := (pt : Int) - base
  if rgMode rg = 1 ∧ len ≠ 0 then
    if o < 0 ∨ (len : Int) ≤ o then (base, true) else (base + ((o + delta) % (len : Int)).toNat, false)
  else if rgMode rg = 2 ∧ len ≠ 0 then
    let w := topBit 14 len
    if o < 0 ∨ ((2 ^ w : Nat) : Int) ≤ o then (base, true)
    else (base + bitrev w ((bitrev w o.toNat + bitrev w (delta % ((2 ^ w : Nat) : Int)).toNat) % 2 ^ w), false)
  else (((pt : Int) + delta) % 16384 |>.toNat, false)

/-- Whether a pointer lies outside the range of its ring, judged when RG is written (R217). -/
def ptOutside (pt : Nat) (rg : W32) : Bool :=
  let o : Int := (pt : Int) - rgBase rg
  if rgMode rg = 1 ∧ rgLen rg ≠ 0 then decide (o < 0 ∨ (rgLen rg : Int) ≤ o)
  else if rgMode rg = 2 ∧ rgLen rg ≠ 0 then decide (o < 0 ∨ ((2 ^ topBit 14 (rgLen rg) : Nat) : Int) ≤ o)
  else false

/-- Pointer, stride and ring of pointer k as a move of the running instruction uses them: a value that the instruction just
before wrote is not yet seen (R221). -/
def Core.ptr (c : Core) (k : Nat) : Nat × Int × W32 :=
  match c.late with
  | some l => if l.k = k then (l.pt.toNat, l.st.toInt, l.rg)
              else ((spGet 0 c.pt k).toNat, (spGet 0 c.st k).toInt, spGet 0 c.rg k)
  | none => ((spGet 0 c.pt k).toNat, (spGet 0 c.st k).toInt, spGet 0 c.rg k)

/-! ## The memories as a program sees them (R201, R204) -/

/-- Whether a word address of X lies in the second half-length of the inbound window. -/
def inFarHalf (i : CoreInfo) (a : Nat) : Bool :=
  decide (i.winInOff / 4 + i.winInLen / 4 ≤ a) && decide (a < i.winInOff / 4 + 2 * (i.winInLen / 4))

/-- A program's read of one word of X or Y. -/
def Core.load (c : Core) (i : CoreInfo) (isX : Bool) (a : Nat) : W32 :=
  if isX then (if inFarHalf i (a % 16384) then 0 else spGet 0 c.x (a % 16384)) else spGet 0 c.y (a % 16384)
/-- A program's write of one word of X or Y. -/
def Core.store (c : Core) (i : CoreInfo) (isX : Bool) (a : Nat) (w : W32) : Core :=
  if isX then (if inFarHalf i (a % 16384) then c else { c with x := spSet 0 c.x (a % 16384) w })
  else { c with y := spSet 0 c.y (a % 16384) w }
/-- An access to the second half-length sets ILL (R204). -/
def Core.noteFar (c : Core) (i : CoreInfo) (isX : Bool) (a : Nat) : Core :=
  if isX && inFarHalf i (a % 16384) then c.setIll else c

/-! ## Selectors (R207, R224) -/

/-- The value a T instruction reads from a selector; `t` is TICK. -/
def selRead (c : Core) (t : W32) (n : Nat) : W32 :=
  if n = 0 then c.x0 else if n = 1 then c.x1 else if n = 2 then c.y0 else if n = 3 then c.y1
  else if n < 8 then hi32 (spGet 0 c.acc (n - 4))
  else if n < 12 then lo32 (spGet 0 c.acc (n - 8))
  else if n < 16 then i32 (extract (c.a (n - 12)) 22 32)
  else if n < 24 then w32 ((spGet 0 c.pt (n - 16)).toNat % 16384)
  else if n < 32 then w32 (spGet 0 c.st (n - 24)).toNat
  else if n < 40 then spGet 0 c.rg (n - 32)
  else if n = 0x31 then w32 c.lc.toNat
  else if n = 0x32 then c.csr
  else if n = 0x33 then t
  else if 0x34 ≤ n ∧ n < 0x38 then w32 ((spGet 0 c.acc (n - 0x34)).toNat % 2 ^ 24)
  else 0
/-- A reserved selector: reads give 0, writes are dropped, both set ILL. -/
def selReserved (n : Nat) : Bool := (decide (0x28 ≤ n) && decide (n ≤ 0x30)) || decide (0x38 ≤ n)
/-- What reading a selector does to the flags: an extraction may saturate, a reserved selector sets ILL. -/
def selReadNote (c : Core) (n : Nat) : Core :=
  if 12 ≤ n ∧ n < 16 then c.noteSat (extractSat (c.a (n - 12)) 22 32)
  else if selReserved n then c.setIll else c

/-- Remembers the pointer set that moves of the next instruction still use. -/
def Core.hold (c : Core) (k : Nat) : Core :=
  { c with late := some { k := k, pt := spGet 0 c.pt k, st := spGet 0 c.st k, rg := spGet 0 c.rg k } }

/-- A K or T write of a selector (R207, R217). -/
def selWrite (c : Core) (n : Nat) (v : W32) : Core :=
  if n = 0 then { c with x0 := v } else if n = 1 then { c with x1 := v }
  else if n = 2 then { c with y0 := v } else if n = 3 then { c with y1 := v }
  else if n < 8 then { c with acc := spSet 0 c.acc (n - 4) (cat64 v (lo32 (spGet 0 c.acc (n - 4)))) }
  else if n < 12 then { c with acc := spSet 0 c.acc (n - 8) (cat64 (hi32 (spGet 0 c.acc (n - 8))) v) }
  else if n < 16 then c.setA (n - 12) (v.toInt * 2 ^ 22)
  else if n < 24 then { c.hold (n - 16) with pt := spSet 0 c.pt (n - 16) (BitVec.ofNat 15 (v.toNat % 16384)) }
  else if n < 32 then { c.hold (n - 24) with st := spSet 0 c.st (n - 24) (v.setWidth 14) }
  else if n < 40 then
    let k := n - 32
    let w := rgClean v
    let d := { c.hold k with rg := spSet 0 c.rg k w }
    if ptOutside (spGet 0 c.pt k).toNat w then { d with pt := spSet 0 d.pt k (BitVec.ofNat 15 (rgBase w)) }.setWrap else d
  else if n = 0x31 then { c with lc := v.setWidth 16 }
  else if n = 0x32 then
    { c with z := bitOf v 0, n := bitOf v 1, v := bitOf v 2, ovf := bitOf v 8, wrap := bitOf v 9, esat := bitOf v 10,
             ill := bitOf v 11 }
  else c.setIll

/-! ## Moves (R220, R221) -/

/-- The size of a move in words. -/
def moveSize (code : Nat) : Nat := if code = 13 ∨ code = 14 then 2 else 1
/-- The word address of a move: the pointer's, bit 0 forced to 0 for a pair. -/
def Core.moveAddr (c : Core) (m : PMove) : Nat :=
  let a := (c.ptr m.ptr.val).1
  if moveSize m.code.val = 2 then a / 2 * 2 else a
/-- Whether a move field names a move. -/
def moveActs (m : PMove) : Bool := decide (1 ≤ m.code.val) && decide (m.code.val ≤ 14)

/-- The words a store move writes, from the registers as they stand before the instruction, and whether an extraction saturates. -/
def Core.storeWords (c : Core) (code : Nat) : List W32 × Bool :=
  if code = 1 then ([c.x0], false) else if code = 2 then ([c.x1], false)
  else if code = 3 then ([c.y0], false) else if code = 4 then ([c.y1], false)
  else if code < 9 then ([i32 (extract (c.a (code - 5)) 22 32)], extractSat (c.a (code - 5)) 22 32)
  else if code < 13 then ([i32 (extract (c.a (code - 9)) 23 24)], extractSat (c.a (code - 9)) 23 24)
  else if code = 13 then ([c.x0, c.x1], false)
  else ([c.y0, c.y1], false)

/-- The registers after a load move: `c` is the core written, `keep` says which accumulators the arithmetic writes. -/
def Core.loadRegs (c : Core) (keep : List Nat) (code : Nat) (w0 w1 : W32) : Core :=
  if code = 1 then { c with x0 := w0 } else if code = 2 then { c with x1 := w0 }
  else if code = 3 then { c with y0 := w0 } else if code = 4 then { c with y1 := w0 }
  else if code < 9 then (if keep.contains (code - 5) then c else c.setA (code - 5) (w0.toInt * 2 ^ 22))
  else if code < 13 then (if keep.contains (code - 9) then c else c.setA (code - 9) (sext 24 w0.toNat * 2 ^ 23))
  else if code = 13 then { c with x0 := w0, x1 := w1 }
  else { c with y0 := w0, y1 := w1 }

/-- One move of an instruction: `c0` is the core before the instruction, `c` the core being written; loads do not touch the accumulators
of `keep`, which the arithmetic writes (R221). -/
def doMove (i : CoreInfo) (c0 : Core) (keep : List Nat) (isX : Bool) (m : PMove) (c : Core) : Core :=
  let code := m.code.val
  if code = 15 then c.setIll
  else if !moveActs m then c
  else
    let a := c0.moveAddr m
    let c := c.noteFar i isX a
    let c := if moveSize code = 2 then c.noteFar i isX (a + 1) else c
    if m.store then
      let ws := c0.storeWords code
      let c := c.noteSat ws.2
      let c := c.store i isX a (nth 0 ws.1 0)
      if moveSize code = 2 then c.store i isX (a + 1) (nth 0 ws.1 1) else c
    else c.loadRegs keep code (c0.load i isX a) (c0.load i isX (a + 1))

/-- The update of a move's pointer (R214 to R217), from the values that the move itself uses, available to the next instruction (R221). Where
the instruction just before has written that pointer, the move's own update is the later result and stands; of two moves that share one
pointer the Y move's update stands (log entry 78). -/
def movePtr (c0 : Core) (m : PMove) (c : Core) : Core :=
  if !moveActs m || m.mode.val == 0 then c
  else
    let k := m.ptr.val
    let p := c0.ptr k
    let size : Int := moveSize m.code.val
    let delta : Int := if m.mode.val = 1 then size else if m.mode.val = 2 then p.2.1 else -size
    let r := ptStep p.1 p.2.2 delta
    let c := if r.2 then c.setWrap else c
    { c with pt := spSet 0 c.pt k (BitVec.ofNat 15 r.1) }

end Sys2Proof.Machine
end

