-- ==== Sys2Proof/Machine/Flags.lean ====
section
/-! DEFINITION. The flags of the Fuller cores: Z, N, V from a result, OVF from a saturating accumulator, and the conditions of
R223 (R208, R210, R212). -/

namespace Sys2Proof.Machine

/-- Z, N and V from a result (R208, R212). -/
def Core.flagsOf (c : Core) (r : Int) : Core :=
  { c with z := decide (r = 0), n := decide (r < 0), v := extractSat r 22 32 }

/-- An exact result brought into an accumulator, the nearer bound outside 64 bits (R210). -/
def accSat (r : Int) : Int := satI 64 r
/-- Whether it saturates. -/
def accOver (r : Int) : Bool := decide (accSat r ≠ r)
/-- Writes an exact result: saturation, OVF. -/
def Core.put (c : Core) (i : Nat) (r : Int) : Core :=
  let d := c.setA i (accSat r)
  if accOver r then d.setOvf else d

/-- Whether COND holds, by R223; 9 to 15 proceed as failed. -/
def condHolds (c : Core) (cond : Nat) : Bool :=
  match cond with
  | 0 => true
  | 1 => c.z
  | 2 => !c.z
  | 3 => c.n
  | 4 => !c.n
  | 5 => !c.n && !c.z
  | 6 => c.n || c.z
  | 7 => c.v
  | 8 => !c.v
  | _ => false
/-- A reserved COND sets ILL (R223). -/
def Core.noteCond (c : Core) (cond : Nat) : Core := if 9 ≤ cond then c.setIll else c

end Sys2Proof.Machine
end

