-- ==== Sys2Proof/Machine/Fuller.lean ====
section
/-! DEFINITION. The Fuller instructions (R219 to R228): how a core executes one, and the meaning of each command of that family. -/

namespace Sys2Proof.Machine

/-- A core executes instructions: it has a program that runs in this tick, has not executed TEND, is not dead, and the
instruction ends within the budget of 396,000 cycles (R203, R229, R231). -/
def Core.runs (c : Core) (cost : Nat) : Bool :=
  c.active && !c.tended && !c.overran && !c.dead && decide (c.cycles + cost ≤ 396000)

/-- The instruction that core k fetches: the word of P at its PC, by its encoding (R201, R203, R218). -/
def State.due (s : State) (k : Fin 64) : Instr := fulInstr k (spGet 0 (s.core k.val).p (s.core k.val).pc.toNat)
/-- A core's instruction as a command: it has its effect where it is the one that the core fetches next; a command that names another
instruction is no event of the core, and nothing happens (log entry 79). -/
def coreDoes (k : Fin 64) (i : Instr) (g : State → State) (s : State) : Host.Outcome State Fault Refusal :=
  doneStep s (if s.due k = i then g s else s)

/-- The areas of a core as the running image fixes them. -/
def State.coreInfo (s : State) (k : Nat) : CoreInfo :=
  match spFind s.struct.cores k with
  | some i => i
  | none => default

/-- Stores a core after an instruction; its saturated extractions are counted (R211). -/
def State.putCore (s : State) (k : Nat) (c : Core) : State :=
  (s.setCore k { c with esats := 0 }).count (FUL_ESAT_COUNT k) c.esats

/-! ## Program flow (R222, R225, R226) -/

/-- The levels whose END the completed instruction at `at'` reaches, inner first: LC decreases; where it is not 0 the body starts again,
else the level is popped and the outer LC restored (R225). At most the four levels of the stack. -/
def loopEnd : Nat → Core → BitVec 13 → Core
  | 0, c, _ => c
  | f + 1, c, at' =>
    match c.loops with
    | [] => c
    | l :: ls =>
      if l.finish = at' then
        let n := c.lc - 1
        if n = 0 then loopEnd f { c with loops := ls, lc := l.outerLc } at'
        else { c with lc := n, pc := l.start }
      else c

/-- A core's PC goes to the next instruction, with the loop ends that the instruction completes. -/
def Core.advance (c : Core) : Core := loopEnd 4 { c with pc := c.pc + 1 } c.pc

/-- A core spends cycles. -/
def Core.spend (c : Core) (n : Nat) : Core := { c with cycles := c.cycles + n }
/-- The pointer set of a K or T instruction is taken over after the instruction that follows it. -/
def Core.settle (c : Core) : Core := { c with late := none }

/-- Runs a format P instruction on a core: `ar` is the arithmetic on the core as it stands before the instruction and the accumulators it
writes; every operand is read first, stores store the old registers, the arithmetic result wins over a load, the Y move over the X move (R221). -/
def pRun (i : CoreInfo) (f : PArgs) (keep : List Nat) (ar : Core → Core) (c : Core) : Core :=
  let d := doMove i c keep true f.x c
  let d := doMove i c keep false f.y d
  let d := movePtr c f.x d
  let d := movePtr c f.y d
  let a := ar c
  let d := { d with z := a.z, n := a.n, v := a.v, ovf := d.ovf || a.ovf, recOvf := d.recOvf || a.recOvf }
  let d := { d with acc := foldS (fun m j => spSet 0 m j (spGet 0 a.acc j)) d.acc keep }
  (d.settle.spend 1).advance

/-- The state after core k has executed a format P instruction; nothing where the core does not run. -/
def stepP (k : Nat) (f : PArgs) (keep : List Nat) (ar : Core → Core) (s : State) : State :=
  if (s.core k).runs 1 then s.putCore k (pRun (s.coreInfo k) f keep ar (s.core k)) else s

/-! ## Operands of the arithmetic field (R209, R219) -/

/-- X(XS) and Y(YS) as signed numbers, the latter its bits [23:0]. -/
def Core.xv (c : Core) (sel : Bool) : Int := if sel then c.x1.toInt else c.x0.toInt
def Core.yv (c : Core) (sel : Bool) : Int := sext 24 (if sel then c.y1 else c.y0).toNat

/-- Writes one accumulator and sets the flags from it. -/
def ar1 (i : Nat) (r : Int) (c : Core) : Core := (c.put i r).flagsOf (accSat r)
/-- Writes a pair and sets the flags from the even accumulator. -/
def ar2 (p : Nat) (re ro : Int) (c : Core) : Core := ((c.put (2 * p) re).put (2 * p + 1) ro).flagsOf (accSat re)

/-- One step of division on an accumulator's value and the divisor: the new r, the new q, and whether r saturates (R213). -/
def divStep (a d : Int) : Int × Nat × Bool :=
  let r := a / 2 ^ 24
  let q := (a % 2 ^ 24).toNat
  let r := if decide (0 ≤ r) = decide (0 ≤ d) then 2 * r - d else 2 * r + d
  let bit := if decide (0 ≤ r) = decide (0 ≤ d) then 1 else 0
  (satI 40 r, (2 * q + bit) % 2 ^ 24, decide (satI 40 r ≠ r))

/-- DIV on an accumulator (R213). -/
def arDiv (i : Nat) (d : Int) (c : Core) : Core :=
  let r := divStep (c.a i) d
  let v := r.1 * 2 ^ 24 + (r.2.1 : Int)
  let e := (c.setA i v).flagsOf v
  if r.2.2 then e.setOvf else e

/-! ## The commands of format P -/

/-- NOP: nothing but its moves. -/
def execNop (k : Fin 64) (f : PArgs) (s : State) : Host.Outcome State Fault Refusal :=
  coreDoes k (.nop k f) (stepP k.val f [] id) s
/-- CLR: DA = 0. -/
def execClr (k : Fin 64) (f : PArgs) (s : State) : Host.Outcome State Fault Refusal :=
  coreDoes k (.clr k f) (stepP k.val f [f.da.val] (ar1 f.da.val 0)) s
/-- MPY: DA = X(XS) × Y(YS). -/
def execMpy (k : Fin 64) (f : PArgs) (s : State) : Host.Outcome State Fault Refusal :=
  coreDoes k (.mpy k f) (stepP k.val f [f.da.val] (fun c => ar1 f.da.val (c.xv f.xs * c.yv f.ys) c)) s
/-- MAC: DA = DA + X(XS) × Y(YS). -/
def execMac (k : Fin 64) (f : PArgs) (s : State) : Host.Outcome State Fault Refusal :=
  coreDoes k (.mac k f) (stepP k.val f [f.da.val] (fun c => ar1 f.da.val (c.a f.da.val + c.xv f.xs * c.yv f.ys) c)) s
/-- MSU: DA = DA − X(XS) × Y(YS). -/
def execMsu (k : Fin 64) (f : PArgs) (s : State) : Host.Outcome State Fault Refusal :=
  coreDoes k (.msu k f) (stepP k.val f [f.da.val] (fun c => ar1 f.da.val (c.a f.da.val - c.xv f.xs * c.yv f.ys) c)) s

/-- The accumulators of the pair that DA names. -/
def pairOf (f : PArgs) : List Nat := [2 * (f.da.val / 2), 2 * (f.da.val / 2) + 1]
/-- X0·Y0, X1·Y1, X0·Y1 and X1·Y0. -/
def Core.p00 (c : Core) : Int := c.xv false * c.yv false
def Core.p11 (c : Core) : Int := c.xv true * c.yv true
def Core.p01 (c : Core) : Int := c.xv false * c.yv true
def Core.p10 (c : Core) : Int := c.xv true * c.yv false

/-- DMPY: Ae = X0·Y0 + X1·Y1; Ao = X0·Y1 + X1·Y0. -/
def execDmpy (k : Fin 64) (f : PArgs) (s : State) : Host.Outcome State Fault Refusal :=
  coreDoes k (.dmpy k f) (stepP k.val f (pairOf f) (fun c => ar2 (f.da.val / 2) (c.p00 + c.p11) (c.p01 + c.p10) c)) s
/-- DMAC: Ae += X0·Y0 + X1·Y1; Ao += X0·Y1 + X1·Y0. -/
def execDmac (k : Fin 64) (f : PArgs) (s : State) : Host.Outcome State Fault Refusal :=
  coreDoes k (.dmac k f) (stepP k.val f (pairOf f) (fun c =>
    ar2 (f.da.val / 2) (c.a (2 * (f.da.val / 2)) + c.p00 + c.p11) (c.a (2 * (f.da.val / 2) + 1) + c.p01 + c.p10) c)) s
/-- CMPY: Ae = X0·Y0 − X1·Y1; Ao = X0·Y1 + X1·Y0. -/
def execCmpy (k : Fin 64) (f : PArgs) (s : State) : Host.Outcome State Fault Refusal :=
  coreDoes k (.cmpy k f) (stepP k.val f (pairOf f) (fun c => ar2 (f.da.val / 2) (c.p00 - c.p11) (c.p01 + c.p10) c)) s
/-- CMAC: Ae += X0·Y0 − X1·Y1; Ao += X0·Y1 + X1·Y0. -/
def execCmac (k : Fin 64) (f : PArgs) (s : State) : Host.Outcome State Fault Refusal :=
  coreDoes k (.cmac k f) (stepP k.val f (pairOf f) (fun c =>
    ar2 (f.da.val / 2) (c.a (2 * (f.da.val / 2)) + c.p00 - c.p11) (c.a (2 * (f.da.val / 2) + 1) + c.p01 + c.p10) c)) s
/-- CMACJ: Ae += X0·Y0 + X1·Y1; Ao += X1·Y0 − X0·Y1. -/
def execCmacj (k : Fin 64) (f : PArgs) (s : State) : Host.Outcome State Fault Refusal :=
  coreDoes k (.cmacj k f) (stepP k.val f (pairOf f) (fun c =>
    ar2 (f.da.val / 2) (c.a (2 * (f.da.val / 2)) + c.p00 + c.p11) (c.a (2 * (f.da.val / 2) + 1) + c.p10 - c.p01) c)) s
/-- ADD: DA = DA + SA. -/
def execAdd (k : Fin 64) (f : PArgs) (s : State) : Host.Outcome State Fault Refusal :=
  coreDoes k (.add k f) (stepP k.val f [f.da.val] (fun c => ar1 f.da.val (c.a f.da.val + c.a f.sa.val) c)) s
/-- SUB: DA = DA − SA. -/
def execSub (k : Fin 64) (f : PArgs) (s : State) : Host.Outcome State Fault Refusal :=
  coreDoes k (.sub k f) (stepP k.val f [f.da.val] (fun c => ar1 f.da.val (c.a f.da.val - c.a f.sa.val) c)) s
/-- ADDX: DA = DA + X(XS) × 2^22. -/
def execAddx (k : Fin 64) (f : PArgs) (s : State) : Host.Outcome State Fault Refusal :=
  coreDoes k (.addx k f) (stepP k.val f [f.da.val] (fun c => ar1 f.da.val (c.a f.da.val + c.xv f.xs * 2 ^ 22) c)) s
/-- ASL: DA = DA × 2^K, saturating. -/
def execAsl (k : Fin 64) (f : PArgs) (s : State) : Host.Outcome State Fault Refusal :=
  coreDoes k (.asl k f) (stepP k.val f [f.da.val] (fun c => ar1 f.da.val (c.a f.da.val * 2 ^ f.k.val) c)) s
/-- ASR: DA = floor(DA / 2^K). -/
def execAsr (k : Fin 64) (f : PArgs) (s : State) : Host.Outcome State Fault Refusal :=
  coreDoes k (.asr k f) (stepP k.val f [f.da.val] (fun c => ar1 f.da.val (c.a f.da.val / 2 ^ f.k.val) c)) s
/-- NEG: DA = −DA, saturating. -/
def execNeg (k : Fin 64) (f : PArgs) (s : State) : Host.Outcome State Fault Refusal :=
  coreDoes k (.neg k f) (stepP k.val f [f.da.val] (fun c => ar1 f.da.val (-(c.a f.da.val)) c)) s
/-- ABS: DA = abs(DA), saturating. -/
def execAbs (k : Fin 64) (f : PArgs) (s : State) : Host.Outcome State Fault Refusal :=
  coreDoes k (.abs k f) (stepP k.val f [f.da.val] (fun c => ar1 f.da.val ((c.a f.da.val).natAbs : Int) c)) s
/-- MAXA: DA = max(DA, abs(X(XS)) × 2^22). -/
def execMaxa (k : Fin 64) (f : PArgs) (s : State) : Host.Outcome State Fault Refusal :=
  coreDoes k (.maxa k f) (stepP k.val f [f.da.val] (fun c => ar1 f.da.val (max (c.a f.da.val) (((c.xv f.xs).natAbs : Int) * 2 ^ 22)) c)) s
/-- CMP: flags from DA − SA; no write. -/
def execCmp (k : Fin 64) (f : PArgs) (s : State) : Host.Outcome State Fault Refusal :=
  coreDoes k (.cmp k f) (stepP k.val f [] (fun c => c.flagsOf (c.a f.da.val - c.a f.sa.val))) s
/-- TST: flags from DA; no write. -/
def execTst (k : Fin 64) (f : PArgs) (s : State) : Host.Outcome State Fault Refusal :=
  coreDoes k (.tst k f) (stepP k.val f [] (fun c => c.flagsOf (c.a f.da.val))) s
/-- DIV: one step of non-restoring division by X(XS). -/
def execDiv (k : Fin 64) (f : PArgs) (s : State) : Host.Outcome State Fault Refusal :=
  coreDoes k (.div k f) (stepP k.val f [f.da.val] (fun c => arDiv f.da.val (c.xv f.xs) c)) s
/-- COPY: DA = SA. -/
def execCopy (k : Fin 64) (f : PArgs) (s : State) : Host.Outcome State Fault Refusal :=
  coreDoes k (.copy k f) (stepP k.val f [f.da.val] (fun c => ar1 f.da.val (c.a f.sa.val) c)) s

/-! ## The commands of format J (R222, R223, R225, R226, R228) -/

/-- Runs a control instruction of one cost on core k: `g` sets the PC of the instruction that follows; the loop ends that the completed
instruction stands at come after its effect, a return to a loop's start included (R225; log entry 80). A TEND keeps the PC at itself (FUL_PC). -/
def stepC (k : Nat) (cost : Core → Nat) (g : Core → Core) (s : State) : State :=
  let c := s.core k
  if c.runs (cost c) then
    let d := loopEnd 4 (g c) c.pc
    s.putCore k ((if d.tended then { d with pc := c.pc } else d).settle.spend (cost c))
  else s

/-- The next instruction. -/
def Core.next (c : Core) : Core := { c with pc := c.pc + 1 }
/-- A failed condition: the next instruction. -/
def jNext (cond : Nat) (c : Core) : Core := (c.noteCond cond).next
/-- The cost of JMP, CALL, RET and BRKLP: 3 cycles when the condition holds, else 1; executed as NOP 1. -/
def jCost (j : JArgs) (bad : Core → Bool) (c : Core) : Nat := if condHolds c j.cond.val && !bad c then 3 else 1

/-- JMP: PC = TARGET when COND holds. -/
def execJmp (k : Fin 64) (j : JArgs) (s : State) : Host.Outcome State Fault Refusal :=
  coreDoes k (.jmp k j) (stepC k.val (jCost j (fun _ => false)) (fun c =>
    if condHolds c j.cond.val then { c with pc := j.target } else jNext j.cond.val c)) s

/-- CALL: push PC + 1 and go to TARGET; on a full call stack a NOP with ILL. -/
def execCall (k : Fin 64) (j : JArgs) (s : State) : Host.Outcome State Fault Refusal :=
  coreDoes k (.call k j) (stepC k.val (jCost j (fun c => decide (8 ≤ c.calls.length))) (fun c =>
    if !condHolds c j.cond.val then jNext j.cond.val c
    else if 8 ≤ c.calls.length then c.setIll.next
    else { c with calls := (c.pc + 1) :: c.calls, pc := j.target })) s

/-- RET: PC = popped address; on an empty call stack a NOP with ILL. -/
def execRet (k : Fin 64) (j : JArgs) (s : State) : Host.Outcome State Fault Refusal :=
  coreDoes k (.ret k j) (stepC k.val (jCost j (fun c => c.calls.isEmpty)) (fun c =>
    if !condHolds c j.cond.val then jNext j.cond.val c
    else match c.calls with
      | [] => c.setIll.next
      | a :: as => { c with calls := as, pc := a })) s

/-- The loop instruction with a count: its effect (R222, R225, R226). -/
def loopStart (j : JArgs) (count : BitVec 16) (c : Core) : Core :=
  if j.finish ≤ c.pc then (c.noteCond j.cond.val).setIll.next
  else if !condHolds c j.cond.val || count == 0 then { c.noteCond j.cond.val with pc := j.finish + 1 }
  else if 4 ≤ c.loops.length then c.setIll.next
  else { c with loops := { outerLc := c.lc, start := c.pc + 1, finish := j.finish } :: c.loops, lc := count, pc := c.pc + 1 }
/-- Its cost: 2 cycles when the body is entered, 3 when it is skipped, 1 where it executes as NOP. -/
def loopCost (j : JArgs) (count : BitVec 16) (c : Core) : Nat :=
  if j.finish ≤ c.pc then 1 else if !condHolds c j.cond.val || count == 0 then 3 else 2

/-- DO: a loop of COUNT iterations over the next instruction to END. -/
def execDoLoop (k : Fin 64) (j : JArgs) (s : State) : Host.Outcome State Fault Refusal :=
  coreDoes k (.doLoop k j) (stepC k.val (loopCost j j.count) (loopStart j j.count)) s
/-- DOLC: as DO with the count from LC. -/
def execDolc (k : Fin 64) (j : JArgs) (s : State) : Host.Outcome State Fault Refusal :=
  coreDoes k (.dolc k j) (stepC k.val (fun c => loopCost j c.lc c) (fun c => loopStart j c.lc c)) s

/-- BRKLP: pop the innermost loop and continue after its END; on an empty loop stack a NOP with ILL. -/
def execBrklp (k : Fin 64) (j : JArgs) (s : State) : Host.Outcome State Fault Refusal :=
  coreDoes k (.brklp k j) (stepC k.val (jCost j (fun c => c.loops.isEmpty)) (fun c =>
    if !condHolds c j.cond.val then jNext j.cond.val c
    else match c.loops with
      | [] => c.setIll.next
      | l :: ls => { c with loops := ls, lc := l.outerLc, pc := l.finish + 1 })) s

/-- TEND: the core's work for the tick ends; PC stays at it (FUL_PC). -/
def execTend (k : Fin 64) (j : JArgs) (s : State) : Host.Outcome State Fault Refusal :=
  coreDoes k (.tend k j) (stepC k.val (fun _ => 1) (fun c =>
    if condHolds c j.cond.val then { c with tended := true } else jNext j.cond.val c)) s

/-! ## Formats K and T, and reserved encodings (R224, R227) -/

/-- A write of a selector leaves the pointers that moves of the next instruction still use; other instructions let them settle. -/
def stepSel (k : Nat) (g : Core → Core) (s : State) : State :=
  let c := s.core k
  if c.runs 1 then s.putCore k ((g c.settle).spend 1).advance else s

/-- K: VALUE to the selected register. -/
def execKImmediate (k : Fin 64) (sel : Fin 64) (val : W32) (s : State) : Host.Outcome State Fault Refusal :=
  coreDoes k (.kImmediate k sel val) (stepSel k.val (fun c => selWrite c sel.val val)) s
/-- T: the source register to the destination register. -/
def execTTransfer (k : Fin 64) (dst src : Fin 64) (s : State) : Host.Outcome State Fault Refusal :=
  coreDoes k (.tTransfer k dst src) (stepSel k.val (fun c => selWrite (selReadNote c src.val) dst.val (selRead c s.tickLo src.val))) s
/-- A reserved encoding executes as NOP and sets ILL (R227): formats 0b1011 to 0b1111, KIND 7 to 15 of format J, and OPC 0x16 to 0x3F of format
P, a NOP that keeps the moves of its word (log entry 30). -/
def execReservedEncoding (k : Fin 64) (word : W64) (s : State) : Host.Outcome State Fault Refusal :=
  coreDoes k (.reservedEncoding k word) (fun s =>
    if wordField word 63 63 = 0 then
      (if (s.core k.val).runs 1 then s.putCore k.val (pRun (s.coreInfo k.val) (pFields word) [] id (s.core k.val)).setIll else s)
    else stepSel k.val Core.setIll s) s

end Sys2Proof.Machine
end

