-- ==== Sys2Proof/Machine/TwinCore.lean ====
section
/-! DEFINITION. What a fault of the module's own does to a twin pair (R32, R169, R232, R356, R364, R416, R419): the standby leaves
step, the active reports FAULT in its next digest. -/

namespace Sys2Proof.Machine

/-- A STANDBY becomes OUT_OF_STEP for a cause of R419; the partner is told, and EV100 is raised. -/
def State.outOfStep (s : State) (cause : Nat) : State :=
  match s.twn.role with
  | .standby =>
    let t := { s with twn := { s.twn with role := .outOfStep, oosCause := cause } }
    ((t.count TWN_OOS_COUNT 1).flagRaise TWN_STAT 4 100).emit (.twin 2 [cause])
  | _ => s

/-- A fault of the module's own sets FAULT for its next digest; the standby goes out of step with cause 3. -/
def State.twinFault (s : State) : State :=
  match s.twn.role with
  | .standby => ({ s with twn := { s.twn with faultFlag := true } } : State).outOfStep 3
  | .active => { s with twn := { s.twn with faultFlag := true } }
  | _ => s

/-- The active learns that its standby has left the lockstep: EV100 is raised there too, and the active continues (R419). -/
def State.partnerOut (s : State) : State :=
  if s.twn.role = .active ∧ s.twn.partnerStep then
    ({ s with twn := { s.twn with partnerStep := false } } : State).flagRaise TWN_STAT 4 100
  else s

/-- The module runs in a pair: it has a partner that matched, and a role in it. -/
def State.inPair (s : State) : Bool :=
  s.twn.paired && match s.twn.role with
    | .active => true
    | .standby => true
    | _ => false

end Sys2Proof.Machine
end

