-- ==== Sys2Proof/Machine/Canopy.lean ====
section
/-! DEFINITION. The Canopy (chapter 05) and the crosspoint transitions (chapter 06): gain words and coefficients, census, mix, scaling,
detectors, the exchange of banks, writes to the shadow banks, gating and error protection. -/

namespace Sys2Proof.Machine

/-! ## Exact tables (R145, R160, R162) -/

/-- A quotient rounded half to even. -/
def roundEvenQ (a : Int) (b : Nat) : Int :=
  let q := a / (b : Int)
  let r := a % (b : Int)
  if 2 * r < (b : Int) then q else if (b : Int) < 2 * r then q + 1 else if q % 2 = 0 then q else q + 1

/-- M(A) = round_half_even(2^22 × 10^((1536 − A) / 2560)): the largest m with (2m − 1)^2560 ≤ (2^23)^2560 × 10^(1536 − A) (R145). -/
def gainMag (a : Nat) : Nat :=
  searchBits (fun m => decide ((2 * m - 1) ^ 2560 * 10 ^ (a - 1536) ≤ 2 ^ (23 * 2560) * 10 ^ (1536 - a))) 24 0
/-- Whether a gain word is off: ATT = 0x7FFF, whatever INV holds (R144). -/
def gainOff (w : W16) : Bool := w.toNat % 0x8000 == 0x7FFF
/-- The coefficient of a gain word, 0 for an off one (R145, R146). -/
def coeff (w : W16) : Int :=
  if gainOff w then 0
  else if w.toNat < 0x8000 then (gainMag w.toNat : Int) else -(gainMag (w.toNat % 0x8000) : Int)
/-- Whether two gain words differ for the transition rule: both off words count as 0x7FFF. -/
def gainDiffers (a b : W16) : Bool := if gainOff a && gainOff b then false else a != b

/-- The linear threshold of THR: round_half_even(2^23 × 10^(−THR/40)) (R160). -/
def thrLin (thr : Nat) : Nat :=
  searchBits (fun m => decide ((2 * m - 1) ^ 40 * 10 ^ thr ≤ 2 ^ (24 * 40))) 24 0
/-- round_half_even(2^23 / √n) (R162). -/
def invSqrt (n : Nat) : Nat := searchBits (fun m => decide ((2 * m - 1) ^ 2 * n ≤ 2 ^ 48)) 24 0

/-- The target scale of a mode for a count N (R162, R164). -/
def scaleTarget (mode n : Nat) : Int :=
  if mode = 1 then roundEvenQ (2 ^ 23) n else if mode = 2 then (invSqrt n : Int) else 2 ^ 23

/-! ## Crosspoints (R142, R148) -/

/-- The key of a crosspoint: tile n, local output b, local input a. -/
def xpKey (n b a : Nat) : Nat := n * 131072 + b * 512 + a
def keyTile (k : Nat) : Nat := k / 131072
def keyB (k : Nat) : Nat := k / 512 % 256
def keyA (k : Nat) : Nat := k % 512

/-- The matrix input or output bound to a slot. -/
def findSlot : List (Nat × (Nat × Nat)) → Nat → Nat → Option Nat
  | [], _, _ => none
  | (m, (r, a)) :: ps, row, slot => if r = row ∧ a = slot then some m else findSlot ps row slot
/-- The matrix input and output of a crosspoint key. -/
def keyPair (st : Structure) (k : Nat) : Option (Nat × Nat) :=
  match findSlot st.miPos (keyTile k / 16) (keyA k), findSlot st.moPos (keyTile k % 16) (keyB k) with
  | some m, some o => some (m, o)
  | _, _ => none

/-- The gain words of a crosspoint. -/
def CanopySt.live (c : CanopySt) (k : Nat) : W16 := spGet 0x7FFF c.gainLive k
def CanopySt.shadow (c : CanopySt) (k : Nat) : W16 := spGet 0x7FFF c.gainShadow k
/-- Whether a crosspoint is in transition. -/
def CanopySt.flagged (c : CanopySt) (k : Nat) : Bool := spGet false c.flags k
/-- The gain word in effect: the old one while the flag is set (R147, R193). -/
def CanopySt.effective (c : CanopySt) (k : Nat) : W16 := if c.flagged k then c.shadow k else c.live k
/-- The crosspoints that may count: those with a live word that is not the default, and those in transition. -/
def CanopySt.keys (c : CanopySt) : List Nat :=
  c.gainLive.map (·.1) ++ (c.flags.map (·.1)).filter (fun k => (spFind c.gainLive k).isNone)

/-- Banked detector values and a detector's state; the values of R150 where the image sets none. -/
def detDefault : DetCfg := { thr := 120, hold := 30 }
def CanopySt.det (c : CanopySt) (d : Nat) : DetState := spGet { isOpen := false, cnt := 0 } c.dets d
def CanopySt.detCfg (c : CanopySt) (d : Nat) : DetCfg := spGet detDefault c.detLive d

/-! ## Census and mix (R157, R161, R163, R164, R192, R193) -/

/-- The zero crossings of a tick's samples against the last sample of the tick before (R192). -/
def crossings (prev : Int) : List Int → List Bool
  | [] => []
  | x :: xs => (decide (x = 0) || decide (x < 0) != decide (prev < 0)) :: crossings x xs

/-- The sample of a tick on which a flagged crosspoint takes its new gain, and whether that is a crossing: the first crossing or sample D − 1,
whichever comes first (R193); j is the transition's sample number of the list's head. -/
def takeAt (d : Nat) : Nat → List Bool → Option (Nat × Bool)
  | _, [] => none
  | j, c :: cs => if c || j + 1 == d then some (0, c) else (takeAt d (j + 1) cs).map (fun q => (q.1 + 1, q.2))

/-- The products of a tick's samples: the old coefficient before sample `kt`, the new one from it on. -/
def products (old new : Int) (kt : Option Nat) : Nat → List Int → List Int
  | _, [] => []
  | k, x :: xs =>
    (x * (match kt with | some t => if t ≤ k then new else old | none => old)) :: products old new kt (k + 1) xs

/-- Two lists added element by element; a missing element counts 0. -/
def addLists : List Int → List Int → List Int
  | [], ys => ys
  | xs, [] => xs
  | x :: xs, y :: ys => (x + y) :: addLists xs ys

/-- N of each output: the crosspoints that are not off and whose input's detector is open (R163). -/
def census (st : Structure) (c : CanopySt) : Sparse Nat :=
  foldS (fun m k => match keyPair st k with
    | some (mi, mo) => if !gainOff (c.effective k) && (c.det mi).isOpen then spPut m mo (spGet 0 m mo + 1) else m
    | none => m) [] c.keys

/-- What the Crown forms in a mix: the exact sums by output, the flags that the crossings leave set, and the crosspoints that take their new gain at
the end of their timeout. -/
structure Crown where
  sums : Sparse (List Int)
  flags : Sparse Bool
  due : List Nat
  deriving DecidableEq, Repr

/-- The mix of a tick (R155, R193). The crossings are those of the inputs `x`; `y` is what enters the mix, with the proving signatures (R477); an
input that neither lists carries zero, `z`. -/
def mixSums (st : Structure) (c : CanopySt) (x y : Sparse (List Int)) (z : List Int) (j0 d : Nat) : Crown :=
  foldS (fun (p : Crown) k => match keyPair st k with
    | none => p
    | some (mi, mo) =>
      let xs := spGet z y mi
      if c.flagged k then
        let kt := takeAt d j0 (crossings (spGet 0 c.lastX mi) (spGet z x mi))
        let prod := products (coeff (c.shadow k)) (coeff (c.live k)) (kt.map (·.1)) 0 xs
        { sums := spPut p.sums mo (addLists (spGet [] p.sums mo) prod)
          flags := if kt.any (·.2) then spSet false p.flags k false else p.flags
          due := if kt.any (fun q => !q.2) then p.due ++ [k] else p.due }
      else { p with sums := spPut p.sums mo (addLists (spGet [] p.sums mo) (xs.map (· * coeff (c.live k)))) })
    { sums := [], flags := c.flags, due := [] } c.keys
/-- The gain words in effect at the last sample of a mix. -/
def CanopySt.effAfter (c : CanopySt) (m : Crown) : Sparse W16 :=
  foldS (fun g k => spSet 0x7FFF g k (c.shadow k)) c.gainLive ((m.flags.map (·.1)).filter (fun k => !m.due.contains k))

/-- The scale of each sample of a tick: a linear ramp from `prev` to the target (R164). -/
def scaleRamp (prev target : Int) (t : Nat) : List Int :=
  (upFrom 1 t).map (fun k => prev + roundEvenQ ((target - prev) * (k : Int)) t)

/-- One output sample: scaled, rounded half to even by 45 bits, saturated; and whether it saturated (R157). -/
def outSample (acc sc : Int) : Int × Bool :=
  let y := roundEvenQ (acc * sc) (2 ^ 45)
  (satI 32 y, decide (satI 32 y ≠ y))

/-- A tick's output words of one output. -/
def outSamples : List Int → List Int → List (Int × Bool)
  | _, [] => []
  | [], sc :: scs => outSample 0 sc :: outSamples [] scs
  | a :: as, sc :: scs => outSample a sc :: outSamples as scs

/-- The detector rule of R161. One whose count comes to 0 closes with the end of the mix: at DETECTOR_HOLD_EXPIRY, else ahead of the next boundary. -/
def detStep (hasSource : Bool) (thr hold peak : Nat) (d : DetState) : DetState :=
  if !hasSource then { isOpen := false, cnt := 0 }
  else if thr ≤ peak then { isOpen := true, cnt := hold }
  else if d.isOpen then { isOpen := true, cnt := d.cnt - 1 }
  else d
/-- A detector whose hold has run out closes. -/
def DetState.expired (d : DetState) : Bool := d.isOpen && d.cnt == 0

/-- One output of the mix: its samples, its new scale, and its saturations (R157, R158, R164). -/
def mixOutput (s : State) (n : Sparse Nat) (sums : Sparse (List Int)) (r : Sparse (List Int) × State) (o : Nat) :
    Sparse (List Int) × State :=
  let t := r.2
  let prev : Int := (spGet (2 ^ 23) s.canopy.prev o : Nat)
  let target := scaleTarget (spGet 0 s.canopy.sclLive o) (max 1 (spGet 0 n o))
  let ys := outSamples (spGet [] sums o) (scaleRamp prev target s.tickLen)
  let sats := (ys.filter (·.2)).length
  let t := { t with canopy := { t.canopy with prev := spPut t.canopy.prev o target.toNat } }
  let t := if sats = 0 then t
    else
      let u := (((t.count CNP_SAT_COUNT sats).flag CNP_STAT 3).wr CNP_SAT_LAST (w32 o)).wr CNP_SAT_TICK t.tickLo
      { u with canopy := { u.canopy with satOuts := u.canopy.satOuts ++ [o] } }
  (spPut r.1 o (ys.map (·.1)), t)

/-- The mix of a tick: `x` holds the samples that each matrix input carries, `y` the same with the signatures of R477. Census, sums under the transition rule, scaling,
saturation, then the detectors. The outputs are stored as the tick's matrix outputs. -/
def State.canopyMix (s : State) (x y : Sparse (List Int)) : State :=
  let st := s.struct
  let t := s.tickLen
  let n := census st s.canopy
  let j0 := (s.tickN - s.canopy.swapTick) * t
  let m := mixSums st s.canopy x y (List.replicate t 0) j0 (s.canopy.swapStep * t)
  let r := foldS (mixOutput s n m.sums) ([], { s with canopy := { s.canopy with satOuts := [] } }) (st.moPos.map (·.1))
  let dets := foldS (fun m (p : Nat × MiSource) =>
    let d := detStep (p.2 != .none) (thrLin (s.canopy.detCfg p.1).thr) (s.canopy.detCfg p.1).hold (peakOf (spGet [] x p.1))
      (s.canopy.det p.1)
    spPut m p.1 d) [] st.miSrc
  let last := foldS (fun m (p : Nat × List Int) => spSet 0 m p.1 (nth 0 p.2 (t - 1))) [] x
  let u := r.2
  { u with canopy := { u.canopy with flags := m.flags, timedOut := m.due, eff := some (s.canopy.effAfter m), counts := foldS (fun m o => spPut m o (max 1 (spGet 0 n o))) [] (st.moPos.map (·.1)),
                                     dets := dets, lastX := last },
           graph := { u.graph with pipe := { u.graph.pipe with mixOut := r.1 } } }

/-- The end of a mix (R161, R193): the crosspoints at the end of their timeout take their new gain, the detectors whose hold has run out close. -/
def CanopySt.mixEnd (c : CanopySt) : CanopySt :=
  { c with
    flags := foldS (fun m k => spSet false m k false) c.flags c.timedOut
    timedOut := []
    dets := c.dets.map (fun p => (p.1, if p.2.expired then { isOpen := false, cnt := 0 } else p.2)) }
def State.mixEnd (s : State) : State := { s with canopy := s.canopy.mixEnd }

/-! ## The exchange of banks (R147, R161, R177, R189, R190) -/

/-- The transition flags that an exchange sets: the crosspoints whose new live word differs from the old one. -/
def swapFlags (newLive newShadow : Sparse W16) : Sparse Bool :=
  let ks := newLive.map (·.1) ++ newShadow.map (·.1)
  foldS (fun m k => if gainDiffers (spGet 0x7FFF newLive k) (spGet 0x7FFF newShadow k) then spSet false m k true else m) [] ks

/-- The Canopy's banks exchange roles at boundary t with a timeout of `step` ticks. -/
def CanopySt.exchange (c : CanopySt) (t step : Nat) : CanopySt :=
  { c with
    liveBank1 := !c.liveBank1
    gainLive := c.gainShadow
    gainShadow := c.gainLive
    flags := swapFlags c.gainShadow c.gainLive
    detLive := c.detShadow
    detShadow := c.detLive
    dets := c.dets.map (fun p => (p.1, { p.2 with cnt := min p.2.cnt (spGet detDefault c.detShadow p.1).hold }))
    sclLive := c.sclShadow
    sclShadow := c.sclLive
    swapTick := t
    swapStep := step }

/-! ## Writes to the shadow banks (R151, R172) -/

/-- Whether a CNP_DET_SET value is refused (R172). -/
def detSetBad (s : State) (v : W32) : Bool :=
  decide (160 < fld v 7 0) || fld v 15 8 == 0 || (s.rate96 && decide (4096 ≤ fld v 28 16))
/-- CNP_DET_SET. -/
def State.detSet (s : State) (v : W32) : State :=
  if detSetBad s v then s.flag CNP_STAT 0
  else { s with canopy := { s.canopy with
    detShadow := spSet detDefault s.canopy.detShadow (fld v 28 16) { thr := fld v 7 0, hold := fld v 15 8 } } }
/-- CNP_SCL_SET. -/
def State.sclSet (s : State) (v : W32) : State :=
  if fld v 1 0 = 3 then s.flag CNP_STAT 0
  else { s with canopy := { s.canopy with sclShadow := spSet 0 s.canopy.sclShadow (fld v 27 16) (fld v 1 0) } }

/-- A write of one shadow gain word: held while its transition flag is set, and then counted in its tile (R151). -/
def State.gainWrite (s : State) (key : Nat) (w : W16) : State :=
  if s.canopy.flagged key then (s.flag (TILE_STAT (keyTile key)) 2).count (TILE_HELD_COUNT (keyTile key)) 1
  else { s with canopy := { s.canopy with gainShadow := spSet 0x7FFF s.canopy.gainShadow key w } }

/-- The gain word after some of its two bytes have been written. -/
def mergeHalf (old : W16) (off n : Nat) (v : W32) : W16 :=
  if n = 1 then (if off = 0 then BitVec.ofNat 16 (old.toNat / 256 * 256 + v.toNat % 256)
                 else BitVec.ofNat 16 (v.toNat % 256 * 256 + old.toNat % 256))
  else v.setWidth 16

/-- A host write of 8, 16 or 32 bits to the shadow bank at a window offset (R54, R151). -/
def State.gainHostWrite (s : State) (off : Nat) (width : Width) (v : W32) : State :=
  match width with
  | .byte => s.gainWrite (off / 2) (mergeHalf (s.canopy.shadow (off / 2)) (off % 2) 1 v)
  | .half => s.gainWrite (off / 2) (v.setWidth 16)
  | .word => (s.gainWrite (off / 4 * 2) (v.setWidth 16)).gainWrite (off / 4 * 2 + 1) ((v >>> 16).setWidth 16)

/-- A host gain write that loses a same-cycle collision (R65, R366): not performed, counted, EV10. -/
def State.gainCollided (s : State) : State := (s.count SYS_COLLIDE_COUNT 1).flagRaise SYS_STAT 3 10

/-! ## Gating (R167) -/

/-- The tiles that are not gated: a word on in either bank, a flag set, or a proving group. -/
def CanopySt.busyTiles (c : CanopySt) : List Nat :=
  (((c.gainLive.filter (fun p => !gainOff p.2)).map (fun p => keyTile p.1)) ++
   ((c.gainShadow.filter (fun p => !gainOff p.2)).map (fun p => keyTile p.1)) ++ (c.flags.map (fun p => keyTile p.1)) ++
   c.prvUsed.map (·.1)).dedup
/-- The tick entry: CNP_TILES_ON shows the ending tick, and each tile enters or leaves the gated state. -/
def State.tileGating (s : State) : State :=
  { s with canopy := { s.canopy with tilesOn := s.canopy.awake.length, awake := s.canopy.busyTiles } }

/-! ## Scrub and errors (R168, R169) -/

/-- The record of an ECC finding in TILE_ECC_ADDR. -/
def tileEccAddr (mem : Nat) (ue : Bool) (word : Nat) : W32 := w32 (mem * 2 ^ 30 + b01 ue * 2 ^ 29 + 8 * word % 2 ^ 18)

/-- The four gain words of an ECC word rewritten as off. -/
def offFour (m : Sparse W16) (key : Nat) : Sparse W16 :=
  spSet 0x7FFF (spSet 0x7FFF (spSet 0x7FFF (spSet 0x7FFF m key 0x7FFF) (key + 1) 0x7FFF) (key + 2) 0x7FFF) (key + 3) 0x7FFF

/-- The counts of an uncorrectable gain word or a flag parity error, EV86 and the twin consequence of R169. -/
def State.gainUe (s : State) (e : GainEcc) (cnpBit : Nat) : State :=
  let n := e.tile.val
  let s := ((s.count (TILE_UE_COUNT n) 1).count CNP_UE_COUNT 1).flag (TILE_STAT n) 1
  let s := (s.wr (TILE_ECC_ADDR n) (tileEccAddr e.mem.val true e.word)).wr CNP_UE_TILE (w32 n)
  (s.flagRaise CNP_STAT cnpBit 86).twinFault

/-- One finding of the scrub or of a read (R168). -/
def State.gainEcc (s : State) (e : GainEcc) : State :=
  let n := e.tile.val
  let key := n * 131072 + 4 * e.word
  if e.mem.val = 2 then
    let ks := upFrom (n * 131072 + 64 * e.word) 64
    ({ s with canopy := { s.canopy with flags := foldS (fun m k => spSet false m k false) s.canopy.flags ks } }).gainUe e 1
  else match e.kind with
    | .corrected =>
      (((s.count (TILE_CE_COUNT n) 1).count CNP_CE_COUNT 1).flag (TILE_STAT n) 0).wr (TILE_ECC_ADDR n)
        (tileEccAddr e.mem.val false e.word)
    | .uncorrectable =>
      (if e.mem.val = 0 then { s with canopy := { s.canopy with gainLive := offFour s.canopy.gainLive key } }
       else { s with canopy := { s.canopy with gainShadow := offFour s.canopy.gainShadow key } }).gainUe e 2

/-- The tick's scrub: 8 words of each gain bank and of each flag memory, in ascending order, while CNP_SCRUB.EN is 1. -/
def State.gainScrub (s : State) : State :=
  if s.bit CNP_SCRUB 0 then
    { s with canopy := { s.canopy with scrubPos := (s.canopy.scrubPos + 8) % 32768, flagScrubPos := (s.canopy.flagScrubPos + 8) % 2048 } }
  else s

/-! ## Read-back (R170, R173) -/

/-- CNP_XFR and CNP_XFR_TOTAL. -/
def State.cnpXfr (s : State) : W32 :=
  w32 (b01 (!s.canopy.pendSwaps.isEmpty) * 2 ^ 31 + ((s.canopy.flags.map (fun p => keyTile p.1)).dedup).length)
/-- The crosspoints of tile n in a list of keys. -/
def inTile (n : Nat) (ks : List Nat) : Nat := (ks.filter (fun k => keyTile k == n)).length
/-- TILE_XP_EFF of the crosspoint that TILE_XP_RSEL names. -/
def State.xpEff (s : State) (n : Nat) : W32 :=
  let r := s.rd (TILE_XP_RSEL n)
  if s.rate96 && decide (256 ≤ fld r 16 8) then 0
  else
    let k := xpKey n (fld r 7 0) (fld r 16 8)
    w32 (b01 (s.canopy.flagged k && !s.canopy.timedOut.contains k) * 65536 + (match s.canopy.eff with
      | some g => (spGet 0x7FFF g k).toNat
      | none => 0))

end Sys2Proof.Machine
end

