-- ==== Sys2Proof/Machine/Signature.lean ====
section
/-! DEFINITION. The signatures of silent proving (R476 to R478): the tones on the grid of 512 slots, the ramps, and what they add to
the matrix inputs. Sines are computed in fixed point with 96 fractional bits (log entry 60). -/

namespace Sys2Proof.Machine

/-- 2^96. -/
def sigOne : Int := 2 ^ 96
/-- 2π in 96 fractional bits. -/
def sigTau : Int := 497805226624462170461043889244
/-- The rest of the cosine series from term `k` on, for x² in 96 fractional bits. -/
def cosSeries (x2 : Int) : Nat → Int → Int → Int
  | 0, _, _ => 0
  | n + 1, k, term => term + cosSeries x2 n (k + 2) (-(term * x2 / (sigOne * ((k + 1) * (k + 2)))))
/-- The cosine of an angle in 96 fractional bits, in [0, π/2]. -/
def cosFix (x : Int) : Int := cosSeries (x * x / sigOne) 24 0 sigOne
/-- The cosine of 2π k / 10240. -/
def cosGrid (k : Nat) : Int :=
  let k := k % 10240
  let a := if 5120 < k then 10240 - k else k
  if a ≤ 2560 then cosFix (sigTau * (a : Int) / 10240) else -(cosFix (sigTau * ((5120 - a : Nat) : Int) / 10240))

/-- L of PRV_LEVEL in 96 fractional bits: 10^(−LEVEL/40). -/
def levelLin (v : Nat) : Int := (searchBits (fun m => decide (m ^ 40 * 10 ^ v ≤ 2 ^ (96 * 40))) 97 0 : Nat)

/-- The inputs of a group: 64 at 48 kHz, 32 at 96 kHz. -/
def State.prvInputs (s : State) : Nat := if s.rate96 then 32 else 64
/-- The grid steps of 10,240 that a sample advances tone slot s: (1920 + s) / 5120 of a turn at 48 kHz, half of it at 96 kHz. -/
def toneStep (rate96 : Bool) (slot : Nat) : Nat := if rate96 then 1920 + slot else 2 * (1920 + slot)

/-- The ramp of a group's sample, in 96 fractional bits (R478); Q is the length of the fade in samples. -/
def sigRamp (rate96 : Bool) (t gt k : Nat) : Int :=
  let q := if rate96 then 512 else 256
  let fade (i : Nat) : Int := (sigOne - cosGrid (i * (5120 / q))) / 2
  if gt < 16 then fade (gt * t + k)
  else if gt < 5984 then sigOne
  else fade (q - 1 - ((gt - 5984) * t + k))
/-- The sum of a signature's 8 cosines at sample n, in 96 fractional bits. -/
def sigTones (rate96 : Bool) (k n : Nat) : Int :=
  let base := if rate96 then 16 * k else 8 * k
  foldS (fun (a : Int) j => a + cosGrid (toneStep rate96 (base + j) * n + 640 * j * j)) 0 (upFrom 0 8)
/-- Sample n of signature k under a ramp, in Q8.23: rounded half to even. -/
def sigSample (rate96 : Bool) (lin ramp : Int) (k n : Nat) : Int := roundEvenQ (ramp * lin * sigTones rate96 k n) (2 ^ (3 * 96 + 1 - 23))

/-- The group tick of the mix and its ramp's extra factor: the fade-out of an ABORT from the tick on that begins it. -/
def State.prvNow (s : State) : Option (Nat × Option Nat) :=
  match s.prv.run with
  | some r => (match r.stage with
    | .group gt => some (gt, none)
    | .fading gt gone => some (gt, some gone)
    | _ => none)
  | none => none
/-- The ramp of sample k of the tick. -/
def State.prvRamp (s : State) (gt : Nat) (gone : Option Nat) (k : Nat) : Int :=
  let t := s.tickLen
  let r := sigRamp s.rate96 t gt k
  match gone with
  | none => r
  | some g => r * sigRamp s.rate96 t (5984 + g) k / sigOne

/-- A signature's tick for matrix input m. -/
def State.sigBlock (s : State) (m gt : Nat) (gone : Option Nat) : List Int :=
  let t := s.tickLen
  let lin := levelLin s.prv.level
  (upFrom 0 t).map (fun k => sigSample s.rate96 lin (s.prvRamp gt gone k) (m % s.prvInputs) (gt * t + k))

/-- The inputs' samples as they enter the mix (R477): each input of the group that has a source receives its signature, and the sum saturates. -/
def State.withSignatures (s : State) (x : Sparse (List Int)) : Sparse (List Int) :=
  match s.prvNow with
  | none => x
  | some (gt, gone) =>
    foldS (fun m (p : Nat × MiSource) =>
      if p.2 != .none && p.1 / s.prvInputs == s.prv.group then
        spPut m p.1 ((addLists (spGet [] x p.1) (s.sigBlock p.1 gt gone)).map (satI 32))
      else m) x s.struct.miSrc

end Sys2Proof.Machine
end

