-- ==== Sys2Proof/Machine/JobBase.lean ====
section
/-! DEFINITION. The job slots (R67 to R71, R82): state words, the engines, ending a job, and the arguments. What each kind does
stands in its chapter's file. -/

namespace Sys2Proof.Machine

/-- A slot at reset: idle (R70, R81). -/
def idleSlot : JobSlot :=
  { kind := 0, st := .idle, error := 0, total := 0, args := [0, 0, 0, 0], order := 0, abortReq := false, granted := false,
    fin := none }
/-- Slot k. -/
def State.slot (s : State) (k : Nat) : JobSlot := spGet idleSlot s.jobs k
/-- Replaces slot k. -/
def State.setSlot (s : State) (k : Nat) (j : JobSlot) : State := { s with jobs := spPut s.jobs k j }
/-- Changes slot k. -/
def State.modSlot (s : State) (k : Nat) (f : JobSlot → JobSlot) : State := s.setSlot k (f (s.slot k))
/-- JOB_ARGi of a slot. -/
def JobSlot.arg (j : JobSlot) (i : Nat) : W32 := nth 0 j.args i

/-- The STATE code of R68. -/
def jobCode : JobState → Nat
  | .idle => 0 | .queued => 1 | .running => 2 | .done => 3 | .failed => 4 | .aborted => 5
/-- JOB_STATUS (R68). -/
def JobSlot.status (j : JobSlot) : W32 := w32 (jobCode j.st * 2 ^ 28 + j.error.toNat * 2 ^ 20 + satN 20 j.total)
/-- Whether a slot is queued or running. -/
def JobSlot.busy (j : JobSlot) : Bool := j.st == .queued || j.st == .running

/-- The engines a kind needs (R69): 1 loader, 2 twin link, 3 scene loader, 4 Carder, 5 DRAM migration, 6 proving, 7 Heartwood, 8 DMA. -/
def jobEngines (kind : Nat) : List Nat :=
  if kind = 1 then [1] else if kind = 2 then [1, 2] else if kind = 3 then [3] else if kind = 4 then [4]
  else if kind = 5 then [5] else if kind = 6 then [2] else if kind = 7 then [6] else if kind = 8 then [7]
  else if kind = 9 ∨ kind = 10 then [8] else []

/-- The slot numbers. -/
def slotNums : List Nat := upFrom 0 16
/-- The slots whose job satisfies a test. -/
def State.slotsWith (s : State) (f : JobSlot → Bool) : List Nat := slotNums.filter (fun k => f (s.slot k))

/-- Whether a queued job may begin: no running job and no earlier queued one needs an engine of its own (R67), and the loader has no background
load of R105. -/
def State.engineFree (s : State) (k : Nat) : Bool :=
  let j := s.slot k
  !(s.img.bgLoad && (jobEngines j.kind.toNat).contains 1) && slotNums.all (fun i =>
    let o := s.slot i
    i == k || !((o.st == .running || (o.st == .queued && decide (o.order < j.order)))
      && (jobEngines o.kind.toNat).any (fun e => (jobEngines j.kind.toNat).contains e)))

/-- A queued job begins running: its window is zeroed (R67, R71). -/
def State.jobBegin (s : State) (k : Nat) : State :=
  (s.modSlot k (fun j => { j with st := .running, total := 0, error := 0, fin := none })).resultClear k

/-- Begins the job where it is queued and its engine free. -/
def State.jobTryBegin (s : State) (k : Nat) : State :=
  if (s.slot k).st = .queued ∧ s.engineFree k then s.jobBegin k else s

/-- Whether a slot runs a job of a kind. -/
def State.runsJob (s : State) (k kind : Nat) : Bool := (s.slot k).st == .running && (s.slot k).kind.toNat == kind

/-- Ends a job: state 3 for error 0, else state 4 with the code. -/
def State.jobEnd (s : State) (k : Nat) (err : Nat) : State :=
  s.modSlot k (fun j => { j with st := if err = 0 then .done else .failed, error := BitVec.ofNat 8 err, abortReq := false, fin := none })
/-- Ends a job in state 5. -/
def State.jobAborted (s : State) (k : Nat) : State :=
  s.modSlot k (fun j => { j with st := .aborted, error := 0, abortReq := false, fin := none })
/-- A refusal in IMG_STAT, IMG_FAIL and IMG_FAILS (R114); `place` is WHERE. -/
def State.imgFailed (s : State) (place code sec : Nat) : State :=
  ((s.flag IMG_STAT 0).wr IMG_FAIL (w32 (place * 65536 + sec * 256 + code))).count IMG_FAILS 1
/-- Notes how the job's work ended; JOB_DONE writes it. -/
def State.jobFin (s : State) (k : Nat) (err : Nat) : State := s.modSlot k (fun j => { j with fin := some (BitVec.ofNat 8 err) })
/-- Sets PROGRESS. -/
def State.jobProgress (s : State) (k n : Nat) : State := s.modSlot k (fun j => { j with total := n })

/-- The result words of a SCENE_STAGE (R186). -/
def sceneResult (w : SceneWork) : List W32 :=
  [w32 w.written, w32 w.gains, w32 w.held, w.firstTick.getD 0, w.lastTick, w32 (b01 w.torn), if w.torn then w.swapAt.getD 0 else 0]
/-- The scene loader stops for a slot, whose result window is written, whatever the job's ending (R186); zeros where it has not begun. -/
def State.sceneClose (s : State) (k : Nat) : State :=
  match s.canopy.scene with
  | some w => if w.slot = k then { s with canopy := { s.canopy with scene := none } }.resultWrite k (sceneResult w)
    else s.resultWrite k (List.replicate 7 0)
  | none => s.resultWrite k (List.replicate 7 0)

/-- A load or graft ends with a code that no check of its image gives: the words not yet written are written (R103, R114). -/
def State.imgDropped (s : State) (k code : Nat) : State :=
  let t := if (s.slot k).st = .running then s else s.resultClear k
  (t.imgFailed 0 code 0xFF).resultMore k 18 [3, w32 (0xFF00 + code), 0]
/-- The results of a job that ends before its work has begun: refused with a code, or, with 0, aborted (R103, R186). -/
def State.unrunWords (s : State) (k code : Nat) : State :=
  let kind := (s.slot k).kind.toNat
  if kind = 1 ∨ kind = 2 then (if code = 0 then (s.resultClear k).resultMore k 18 [4, 0, 0] else s.imgDropped k code)
  else if kind = 3 then (s.resultClear k).resultWrite k (List.replicate 7 0)
  else s
/-- The end of a job that a freeze meets: ERROR 0x05 (R352). -/
def State.jobFrozen (s : State) (k : Nat) : State :=
  let kind := (s.slot k).kind.toNat
  (if kind = 3 then s.sceneClose k else if kind = 1 ∨ kind = 2 then s.imgDropped k 0x05 else s).jobEnd k 0x05
/-- An IMG_LOAD or GRAFT runs. -/
def State.loadsRun (s : State) : Bool := !(s.slotsWith (fun j => j.st == .running && (j.kind == 1 || j.kind == 2))).isEmpty
/-- Phase 1 of a load or a graft runs, or phase 2 (R100). -/
def State.stagingHeld (s : State) : Bool := s.img.phase != .idle || s.img.bgLoad || s.loadsRun

/-- An access outside mapped space (R53): UNMAPPED, its address, EV5. -/
def State.unmappedAt (s : State) (addr : Nat) : State := ((s.flag SYS_STAT 1).wr SYS_UNMAP_ADDR (w32 addr)).raise 5

/-- A value read leaves to the reader. -/
def State.answer (s : State) (v : W32) : State := s.emit (.readData v)

/-- The bytes of a word that an access of a width addresses, right-justified (R54). -/
def narrow (width : Width) (addr : Nat) (v : W32) : W32 :=
  match width with
  | .byte => w32 (v.toNat / 2 ^ (8 * (addr % 4)) % 256)
  | .half => w32 (v.toNat / 2 ^ (8 * (addr % 4 / 2 * 2)) % 65536)
  | .word => v
/-- The bytes an access of a width stores. -/
def widthBytes (width : Width) : Nat := match width with | .byte => 1 | .half => 2 | .word => 4
/-- The address aligned to the width. -/
def widthAlign (width : Width) (addr : Nat) : Nat := addr / widthBytes width * widthBytes width

end Sys2Proof.Machine
end

