-- ==== Sys2Proof/Machine/Dram.lean ====
section
/-! DEFINITION. The DRAM channels (chapter 12): address mapping, the write queue, error detection, row-hammer defence, freezing,
migration, refresh and retraining, and the accesses of the module's own engines. -/

namespace Sys2Proof.Machine

/-! ## Address mapping (R334, R335) -/

/-- The channel of a DRAM byte address: A[8]. -/
def dramCh (a : Nat) : Nat := a / 256 % 2
/-- The per-channel address c. -/
def dramC (a : Nat) : Nat := a / 512 * 256 + a % 256
/-- Column (of the burst), bank group, bank, row and logical rank of a per-channel address. -/
def cCol (c : Nat) : Nat := c / 64 % 128 * 8
def cBg (c : Nat) : Nat := c / 2 ^ 13 % 4
def cBank (c : Nat) : Nat := c / 2 ^ 15 % 4
def cRow (c : Nat) : Nat := c / 2 ^ 17 % 2 ^ 17
def cRank (c : Nat) : Nat := c / 2 ^ 34
/-- The DRAM byte address of a per-channel address. -/
def dramOf (ch c : Nat) : Nat := c / 256 * 512 + ch * 256 + c % 256
/-- The key of a bank of a channel. -/
def bankKey (rank bg bank : Nat) : Nat := rank * 16 + bg * 4 + bank

/-- The usable DRAM of the module in bytes (R334): 32 GiB for each of up to three logical ranks per channel. -/
def State.dramSize (s : State) : Nat := min 3 s.dram.ranksW * 2 ^ 35

/-- Channel c. -/
def State.chan (s : State) (c : Nat) : Channel := if c = 0 then s.dram.ch0 else s.dram.ch1
/-- Replaces channel c. -/
def State.setChan (s : State) (c : Nat) (x : Channel) : State :=
  { s with dram := if c = 0 then { s.dram with ch0 := x } else { s.dram with ch1 := x } }
/-- Changes channel c. -/
def State.modChan (s : State) (c : Nat) (f : Channel → Channel) : State := s.setChan c (f (s.chan c))

/-- A rank before detection. -/
def noRank : Rank :=
  { st := .absent, hot := false, fast := false, owed := 0, readWin := 0, writeWin := 0, lane := 0, lkg := false, lastTrain := 0 }
/-- Physical rank k of a channel. -/
def Channel.rank (x : Channel) (k : Nat) : Rank := nth noRank x.ranks k
/-- Changes physical rank k. -/
def Channel.modRank (x : Channel) (k : Nat) (f : Rank → Rank) : Channel := { x with ranks := setNth x.ranks k (f (x.rank k)) }
/-- The migration that copies. -/
def Channel.copying (x : Channel) : Option Migration :=
  match x.mig with
  | some m => if m.complete then none else some m
  | none => none
/-- The physical rank that serves a per-channel address (R335, R353): lines below the copy pointer come from the target. -/
def Channel.physOf (x : Channel) (c : Nat) : Nat :=
  let k := nth 0 x.rankMap (cRank c)
  match x.copying with
  | some m => if m.source = k ∧ c % 2 ^ 34 / 2 ^ 20 < m.copied then m.target else k
  | none => k
/-- Whether a rank works in the sense of R341: it is powered, trained and not set aside. -/
def RankState.live : RankState → Bool
  | .inService => true | .suspect => true | .spare => true | .migratingOut => true | .migratingIn => true | _ => false

/-! ## Command history (R352, R361) -/

/-- Adds a command to the history of 64, newest first; a frozen history keeps its contents. -/
def State.hist (s : State) (ch cmd rank bg bank master addr : Nat) (alert : Bool) : State :=
  if s.dram.frozen then s
  else s.modChan ch (fun x => { x with hist := ({ cmd := w32 (cmd * 2 ^ 28 + rank % 4 * 2 ^ 26 + bg % 4 * 2 ^ 24 + bank % 4 * 2 ^ 22
      + master % 16 * 2 ^ 18 + b01 alert * 2 ^ 17 + addr % 2 ^ 17), time := s.dram.time } :: x.hist).take 64 })

/-! ## The error record (R349) -/

/-- Writes the error record for the per-channel address c and the DRAM address a; a corrected error or a retried alert gives way to UE, POISON
and PARITY. -/
def State.errAt (s : State) (ch kind synd word master rank c a : Nat) : State :=
  if s.dram.frozen then s
  else if (kind = 1 ∨ kind = 4) ∧ (s.rd (DRC_STAT ch) &&& 0xE) ≠ 0 then s
  else
    (((s.wr (DRC_ERR_SYND ch) (w32 (master * 2 ^ 16 + word * 2 ^ 8 + synd))).wr (DRC_ERR_INFO ch)
      (w32 (kind * 2 ^ 28 + rank % 4 * 2 ^ 26 + cBg c * 2 ^ 24 + cBank c * 2 ^ 22 + cRow c))).wr (DRC_ERR_ADDR_LO ch)
      (w32 (a / 64 * 64))).wr (DRC_ERR_ADDR_HI ch) (w32 (a / 2 ^ 32 % 32))

/-- The error record of a line that has a DRAM address. -/
def State.errRec (s : State) (ch kind synd word master rank a : Nat) : State := s.errAt ch kind synd word master rank (dramC a) a

/-! ## Migration and freeze (R351 to R353) -/

/-- DRC_MIG_STATE of a migration (R361). -/
def migWord (m : Migration) (st : Nat) : W32 :=
  w32 (m.copied * 2 ^ 16 + m.cause * 2 ^ 8 + m.target * 2 ^ 6 + m.source * 2 ^ 4 + st)

/-- Whether a channel's spare can take a migration. -/
def Channel.spareFree (x : Channel) : Bool :=
  match x.spareRank with
  | some k => (x.rank k).st == .spare && x.copying.isNone
  | none => false

/-- A migration starts: the source becomes MIGRATING_OUT, the spare MIGRATING_IN, EV78. -/
def State.migStart (s : State) (ch source cause : Nat) (slot : Option Nat) : State :=
  match (s.chan ch).spareRank with
  | none => s
  | some k =>
    let x := s.chan ch
    let m : Migration := { source := source, target := k, cause := cause, copied := 0, wasSuspect := (x.rank source).st == .suspect,
                           slot := slot, poisoned := 0, startTick := s.tickLo, done := false, complete := false }
    let x := { (x.modRank source (fun r => { r with st := .migratingOut })).modRank k (fun r => { r with st := .migratingIn }) with
               mig := some m }
    (s.setChan ch x).flagRaise (DRC_STAT ch) 6 78

/-- An automatic migration of a logical rank, where the spare is free. -/
def State.migAuto (s : State) (ch rank cause : Nat) : State :=
  if (s.chan ch).spareFree && (s.chan ch).rankMap.contains rank then s.migStart ch rank cause none else s

/-- The result words of a MIGRATE job (R355). -/
def migResult (m : Migration) (stop : W32) : List W32 := [w32 m.copied, w32 m.poisoned, m.startTick, stop]

/-- The migration of a channel is abandoned: the ranks return, or the spare is FAILED; EV78. -/
def State.migAbandon (s : State) (ch : Nat) (failed : Bool) : State :=
  match (s.chan ch).copying with
  | none => s
  | some m =>
    let x := s.chan ch
    let x := x.modRank m.source (fun r => { r with st := if m.wasSuspect then .suspect else .inService })
    let x := x.modRank m.target (fun r => { r with st := if failed then .failed else .spare })
    let t := (s.setChan ch { x with mig := none, migLast := migWord m 3 }).flagRaise (DRC_STAT ch) 6 78
    match m.slot with
    | some k => if failed then (t.resultWrite k (migResult m 0)).jobEnd k 0x42 else t.resultWrite k (migResult m 0)
    | none => t

/-- A load stands in phase 1, or waits for its boundary T. -/
def ImgSt.phase1 (i : ImgSt) : Bool :=
  match i.phase with
  | .idle => true
  | .reported => true
  | .armed _ => true
  | _ => false
/-- The kinds of job that a freeze ends (R352); IMG_LOAD only while queued or in phase 1. -/
def State.usesDram (s : State) (j : JobSlot) : Bool :=
  let k := j.kind.toNat
  j.busy && (k == 3 || k == 5 || k == 6 || k == 9 || k == 10 ||
    (k == 1 && (j.st == .queued || s.img.phase1)))

/-- A freeze of both channels (R352): queued writes are discarded, migrations abandoned, jobs that use DRAM end with 0x05, EV75; with
FREEZE_ACT a standalone engine declares itself faulty, and a twin has a fault of its own (R356). -/
def State.dramFreeze (s : State) : State :=
  if s.dram.frozen then s
  else
    let drop (x : Channel) : Channel := { x with frzDrop := x.wq.length, wq := [] }
    let s := (s.migAbandon 0 false).migAbandon 1 false
    let s := { s with dram := { s.dram with frozen := true, ch0 := drop s.dram.ch0, ch1 := drop s.dram.ch1 } }
    let s := foldS (fun t k => if s.usesDram (s.slot k) then t.jobFrozen k else t) s slotNums
    let s := if s.img.phase1 && s.img.slot.any (fun k => (s.slot k).kind == 1) then { s with img := { s.img with phase := .idle, slot := none, staged := none } } else s
    let s := { s with graph := { s.graph with dma := none } }
    let s := s.raise 75
    (s.when (s.bit (DRC_POLICY 0) 0 && !s.inPair) State.declareFaulty).twinFault

/-- What follows an uncorrectable word or a command error on a physical rank (R351). -/
def State.dramOutcome (s : State) (ch rank cause : Nat) (isWord : Bool) : State :=
  if s.dram.ranksW = 4 then
    match (s.chan ch).copying with
    | some m =>
      if m.target = rank then (s.migAbandon ch true).dramFreeze
      else if m.source = rank ∧ isWord then s
      else s.dramFreeze
    | none =>
      if (s.chan ch).spareFree then s.migAuto ch rank cause else s.dramFreeze
  else s.dramFreeze

/-! ## Error detection (R346) -/

/-- The word at a DRAM address becomes poisoned: zero data with the poison mark. -/
def State.poisonWord (s : State) (a : Nat) : State :=
  { s with dram := { s.dram with mem := memClear s.dram.mem (a / 8 * 8) 8, poison := spSet false s.dram.poison (a / 8) true } }
/-- Whether the word at a DRAM address is poisoned. -/
def State.poisoned (s : State) (a : Nat) : Bool := spGet false s.dram.poison (a / 8)

/-- A corrected word: the count, the record, and the threshold with its migration. -/
def State.dramCe (s : State) (synd : Byte) (master a : Nat) : State :=
  let ch := dramCh a
  let rank := (s.chan ch).physOf (dramC a)
  let old := (s.rd (DRC_CE_COUNT ch)).toNat
  let t := (s.count (DRC_CE_COUNT ch) 1).errRec ch 1 synd.toNat (a / 8 % 8) master rank a
  if old = (s.chan ch).ceEff then
    let t := t.flagRaise (DRC_STAT ch) 0 72
    if s.bit (DRC_POLICY ch) 1 then t.migAuto ch rank 3 else t
  else t

/-- A poisoned word is read: counted, POISON, EV81 at most once per tick; a real-time reader makes it a twin's fault (R356). -/
def State.dramPoisonRead (s : State) (master a : Nat) (rt : Bool) : State :=
  let ch := dramCh a
  let t := (s.errRec ch 3 0xFF (a / 8 % 8) master ((s.chan ch).physOf (dramC a)) a).count (DRC_POISON_COUNT ch) 1
  let t := (t.flag (DRC_STAT ch) 3).raiseOnce 81
  t.when rt State.twinFault

/-- An uncorrectable word: poisoned, UE, counted, EV73, then what R351 gives. -/
def State.dramUe (s : State) (synd : Byte) (master a : Nat) : State :=
  let ch := dramCh a
  let rank := (s.chan ch).physOf (dramC a)
  let t := (s.errRec ch 2 synd.toNat (a / 8 % 8) master rank a).poisonWord a
  ((t.count (DRC_UE_COUNT ch) 1).flagRaise (DRC_STAT ch) 1 73).dramOutcome ch rank 0 true

/-- The check of one ECC word that is read. -/
def State.dramWordRead (s : State) (a master : Nat) (rt : Bool) (f : DramFound) : State :=
  if s.dram.frozen then s
  else if s.poisoned a then s.dramPoisonRead master a rt
  else match f with
    | .clean => s
    | .single y => s.dramCe y master a
    | .double y => if y = 0xFF then (s.poisonWord a).dramPoisonRead master a rt else s.dramUe y master a

/-! ## Row-hammer defence (R350) -/

/-- The row of a table with the smallest count. -/
def hammerMin : List HammerRow → Nat → Nat → Nat → Nat
  | [], _, best, _ => best
  | r :: rs, i, best, low => if r.count < low then hammerMin rs (i + 1) i r.count else hammerMin rs (i + 1) best low
/-- One activation of a row by a master in a bank's table of 32 rows. -/
def hammerTouch (rows : List HammerRow) (row master : Nat) : List HammerRow :=
  if rows.any (fun r => r.row == row) then
    rows.map (fun r => if r.row = row then { r with count := r.count + 1, masters := spPut r.masters master (spGet 0 r.masters master + 1) } else r)
  else if rows.length < 32 then rows ++ [{ row := row, count := 1, masters := [(master, 1)], treated := false }]
  else
    let i := hammerMin rows 0 0 (2 ^ 32)
    setNth rows i { row := row, count := (nth { row := 0, count := 0, masters := [], treated := false } rows i).count + 1,
                    masters := [(master, 1)], treated := false }
/-- The heaviest requester: the highest count, the lower identity on equal counts, RING passed over; RING where no other activated it. -/
def heaviest (m : Sparse Nat) : Nat :=
  (foldS (fun (b : Nat × Nat) (p : Nat × Nat) => if p.1 ≠ 7 ∧ (b.2 < p.2 ∨ (b.2 = p.2 ∧ p.1 < b.1)) then p else b) (7, 0) m).1

/-- Treats a row: neighbours, throttle, record, EV77. -/
def State.hammerTreat (s : State) (ch rank bg bank row : Nat) (masters : Sparse Nat) : State :=
  let k := bankKey rank bg bank
  let m := heaviest masters
  let s := s.modChan ch (fun x =>
    { x with hammer := spMod [] x.hammer k (fun rows => rows.map (fun r => if r.row = row then { r with treated := true } else r))
             neighbours := x.neighbours ++ (if row = 0 then [] else [(k, row - 1)]) ++ (if row + 1 = 2 ^ 17 then [] else [(k, row + 1)])
             throttle := if m = 7 then x.throttle else x.throttle ++ [(m, k)] })
  ((s.wr (DRC_HAMMER_LAST ch) (w32 (m * 2 ^ 28 + rank * 2 ^ 26 + bg * 2 ^ 24 + bank * 2 ^ 22 + row))).count (DRC_HAMMER_COUNT ch) 1).flagRaise
    (DRC_STAT ch) 5 77

/-- Treats a row whose count has reached the threshold, once in a window, while HAMMER_EN is 1. -/
def State.hammerCheck (s : State) (ch rank bg bank row : Nat) : State :=
  match ((spGet [] (s.chan ch).hammer (bankKey rank bg bank)).filter (fun r => r.row == row)).head? with
  | some r => if s.bit (DRC_POLICY ch) 3 && decide ((s.chan ch).thrEff ≤ r.count) && !r.treated then s.hammerTreat ch rank bg bank row r.masters else s
  | none => s

/-- An activation of a row. -/
def State.activate (s : State) (ch rank bg bank row master : Nat) : State :=
  let s := s.hist ch 0 rank bg bank master row false
  (s.modChan ch (fun x => { x with hammer := spMod [] x.hammer (bankKey rank bg bank) (fun rows => hammerTouch rows row master) })).hammerCheck
    ch rank bg bank row

/-- The DRAM commands of one line: whether its row must be activated is a free value (the spec gives no page policy), then RD or WR. -/
def State.lineCmd (s : State) (a cmd master : Nat) : State :=
  let ch := dramCh a
  let c := dramC a
  let rank := (s.chan ch).physOf c
  let t := s.drawn.when (Config.freeBit s.free) (fun t => t.activate ch rank (cBg c) (cBank c) (cRow c) master)
  t.hist ch cmd rank (cBg c) (cBank c) master (cCol c) false

/-! ## The write queue (R344, R345) -/

/-- The strobed bytes of one ECC word of an entry. -/
def wqWord (bs : List (Option Byte)) (w : Nat) : List (Option Byte) := (bs.drop (8 * w)).take 8
/-- Stores strobed bytes from an address on. -/
def storeBytes (m : Sparse Byte) : Nat → List (Option Byte) → Sparse Byte
  | _, [] => m
  | a, some b :: bs => storeBytes (spSet 0 m a b) (a + 1) bs
  | a, none :: bs => storeBytes m (a + 1) bs
/-- Newer strobed bytes over older ones. -/
def mergeStrobes : List (Option Byte) → List (Option Byte) → List (Option Byte)
  | [], ys => ys
  | xs, [] => xs
  | x :: xs, y :: ys => (match y with | some b => some b | none => x) :: mergeStrobes xs ys

/-- Issues one ECC word of an entry: full strobes clear poison; partial ones read, correct and merge, and an uncorrectable word is
written back poisoned. -/
def State.issueWord (s : State) (line master : Nat) (bs : List (Option Byte)) (found : List DramFound) (w : Nat) : State :=
  let a := line + 8 * w
  let ws := wqWord bs w
  if ws.all (·.isNone) then s
  else if ws.all (·.isSome) then
    { s with dram := { s.dram with mem := storeBytes s.dram.mem a ws, poison := spSet false s.dram.poison (a / 8) false } }
  else
    let t := s.dramWordRead a master false (nth .clean found w)
    if t.poisoned a then t else { t with dram := { t.dram with mem := storeBytes t.dram.mem a ws } }

/-- Issues an entry to DRAM. -/
def State.issueEntry (s : State) (e : WqEntry) (found : List DramFound) : State :=
  let a := e.line * 64
  let part := (upFrom 0 8).any (fun w => let ws := wqWord e.bytes w; ws.any (·.isNone) && ws.any (·.isSome))
  let s := if part then s.lineCmd a 1 14 else s
  let s := s.lineCmd a 2 14
  foldS (fun t w => t.issueWord a 14 e.bytes found w) s (upFrom 0 8)

/-- The oldest entry of a channel's queue issues. -/
def State.issueOldest (s : State) (ch : Nat) (found : List DramFound) : State :=
  if s.dram.frozen then s
  else match (s.chan ch).wq with
    | [] => s
    | e :: es => (s.modChan ch (fun x => { x with wq := es })).issueEntry e found

/-- The queue entry of a line. -/
def findEntry (q : List WqEntry) (line : Nat) : Option WqEntry := (q.filter (fun e => e.line == line)).head?

/-- Whether a write may take a free entry: 16 of the 64 are kept for QoS 15. -/
def wqFree (q : List WqEntry) (rt : Bool) : Bool :=
  decide (q.length < 64) && (rt || decide ((q.filter (fun e => !e.qos15)).length < 48))

/-- A write of one line's strobed bytes enters the queue. One that finds no free entry waits at the Trunk; the wait ends when the oldest
entry issues. A write with no strobe makes no entry (R396). -/
def State.lineWrite (s : State) (line : Nat) (bs : List (Option Byte)) (rt : Bool) : State :=
  let ch := dramCh (line * 64)
  if s.dram.frozen || bs.all (·.isNone) then s
  else match findEntry (s.chan ch).wq line with
    | some _ => s.modChan ch (fun x => { x with wq := x.wq.map (fun e =>
        if e.line = line then { e with bytes := mergeStrobes e.bytes bs, qos15 := e.qos15 || rt } else e) })
    | none =>
      let s := if wqFree (s.chan ch).wq rt then s else s.issueOldest ch []
      if s.dram.frozen then s
      else s.modChan ch (fun x => { x with wq := x.wq ++ [{ line := line, bytes := bs, qos15 := rt }] })

/-- The bytes of an entry that has all its strobes set. -/
def entryBytes (bs : List (Option Byte)) : List Byte := bs.map (fun b => b.getD 0)

/-- A read of `n` bytes inside one line, under the comparison with the write queue (R345). -/
def State.lineRead (s : State) (a n master : Nat) (rt : Bool) (found : List DramFound) : State × List Byte :=
  let ch := dramCh a
  let line := a / 64
  let words := upFrom (a / 8) ((a + n - 1) / 8 + 1 - a / 8)
  let fromDram (s : State) : State × List Byte :=
    let t := s.lineCmd (line * 64) 1 master
    let t := (foldS (fun (p : State × Nat) w => (p.1.dramWordRead (w * 8) master rt (nth .clean found p.2), p.2 + 1)) (t, 0) words).1
    (t, memRead t.dram.mem a n)
  if s.dram.frozen then (s, List.replicate n 0)
  else match findEntry (s.chan ch).wq line with
    | none => fromDram s
    | some e =>
      if e.bytes.all (·.isSome) then (s.count (DRC_FWD_COUNT ch) 1, slice (entryBytes e.bytes) (a % 64) n)
      else fromDram (((s.modChan ch (fun x => { x with wq := x.wq.filter (fun f => f.line != line) })).issueEntry e []).count (DRC_RAW_WAIT ch) 1)

/-- The pieces of a byte range that end at multiples of a power of two, as (address, length). -/
def piecesOf (grain : Nat) : Nat → Nat → Nat → List (Nat × Nat)
  | 0, _, _ => []
  | _, _, 0 => []
  | f + 1, a, n + 1 =>
    let m := min (n + 1) (grain - a % grain)
    (a, m) :: piecesOf grain f (a + m) (n + 1 - m)
/-- The lines of a byte range. -/
def linesOf (a n : Nat) : List (Nat × Nat) := piecesOf 64 (n / 64 + 2) a n

/-- A read of a byte range, line by line. -/
def State.rangeRead (s : State) (a n master : Nat) (rt : Bool) (found : List DramFound) : State × List Byte :=
  (foldS (fun (p : (State × List Byte) × List DramFound) (l : Nat × Nat) =>
    let r := p.1.1.lineRead l.1 l.2 master rt p.2
    ((r.1, p.1.2 ++ r.2), p.2.drop ((l.1 + l.2 - 1) / 8 + 1 - l.1 / 8))) ((s, []), found) (linesOf a n)).1

/-- A write of strobed bytes from an address on, line by line. -/
def State.rangeWrite (s : State) (a : Nat) (bs : List (Option Byte)) (rt : Bool) : State :=
  (foldS (fun (p : State × List (Option Byte)) (l : Nat × Nat) =>
    let pad := List.replicate (l.1 % 64) none ++ p.2.take l.2
    (p.1.lineWrite (l.1 / 64) (pad ++ List.replicate (64 - pad.length) none) rt, p.2.drop l.2)) (s, bs) (linesOf a bs.length)).1

/-! ## Accesses of the module's own engines -/

/-- The bytes a read finds now: the queue's newer bytes over DRAM's. -/
def State.dramPeek (s : State) (a n : Nat) : List Byte :=
  (upFrom a n).map (fun x => match findEntry (s.chan (dramCh x)).wq (x / 64) with
    | some e => (match nth none e.bytes (x % 64) with | some b => b | none => spGet 0 s.dram.mem x)
    | none => spGet 0 s.dram.mem x)

/-- The poisoned words of a byte range. -/
def State.poisonIn (s : State) (a n : Nat) : List Nat := (s.dram.poison.map (·.1)).filter (fun w => decide (a / 8 ≤ w) && decide (w * 8 < a + n))

/-- An engine's read: the bytes, and whether a word of them was poisoned, which is counted. A frozen controller gives zeros. -/
def State.engineRead (s : State) (a n master : Nat) (rt : Bool) : State × List Byte × Bool :=
  if s.dram.frozen then (s, List.replicate n 0, true)
  else
    let ps := s.poisonIn a n
    (foldS (fun t w => t.dramPoisonRead master (w * 8) rt) s ps, s.dramPeek a n, !ps.isEmpty)

/-- An engine's write lands in DRAM: newer than any queued byte, clearing the poison of the words it covers and leaving a word it covers
in part poisoned. -/
def State.engineWrite (s : State) (a : Nat) (bs : List Byte) : State :=
  if s.dram.frozen then s
  else
    let n := bs.length
    let keep := (s.poisonIn a n).filter (fun w => decide (w * 8 < a) || decide (a + n < w * 8 + 8))
    let strip (q : List WqEntry) : List WqEntry := q.map (fun e =>
      { e with bytes := (upFrom (e.line * 64) 64).map (fun x =>
        if a ≤ x ∧ x < a + n then none else nth none e.bytes (x - e.line * 64)) })
    let mem := foldS (fun m w => memClear m (w * 8) 8) (memWrite s.dram.mem a bs) keep
    let poison := foldS (fun m w => if keep.contains w then m else spDel m w) s.dram.poison (s.poisonIn a n)
    let fix (x : Channel) : Channel := { x with wq := (strip x.wq).filter (fun e => !e.bytes.all (·.isNone)) }
    { s with dram := { s.dram with mem := mem, poison := poison, ch0 := fix s.dram.ch0, ch1 := fix s.dram.ch1 } }

/-! ## Refresh (R341 to R343) -/

/-- Refreshes issued to a rank: each a REF, after which the neighbours that wait for the rank's slot are activated and precharged. -/
def State.refreshIssue (s : State) (ch rank n : Nat) : State :=
  let s := timesN (fun t => t.hist ch 5 rank 0 0 14 0 false) n s
  let ns := (s.chan ch).neighbours.filter (fun p => p.1 / 16 == rank)
  if n = 0 then s
  else
    let s := foldS (fun t p => (t.hist ch 0 rank (p.1 / 4) p.1 14 p.2 false).hist ch 3 rank (p.1 / 4) p.1 14 0 false) s ns
    s.modChan ch (fun x => { x with neighbours := x.neighbours.filter (fun p => p.1 / 16 != rank) })

/-- Every owed refresh of a rank is forced back to back. -/
def State.refreshForce (s : State) (ch rank : Nat) : State :=
  let n := ((s.chan ch).rank rank).owed
  ((s.refreshIssue ch rank n).modChan ch (fun x => x.modRank rank (fun r => { r with owed := 0 }))).count (DRC_REF_FORCED ch) n

/-- A change of a rank's interval (R341, R343): TEMP_CHG and EV80; the owed count doubles or halves rounded up, and one above 8 is forced. -/
def State.intervalChange (s : State) (ch rank : Nat) : State :=
  let x := s.chan ch
  let r := x.rank rank
  let fast := r.hot || s.bit (DRC_POLICY ch) 2
  if fast = r.fast then s
  else
    let owed := if fast then 2 * r.owed else (r.owed + 1) / 2
    let t := (s.setChan ch (x.modRank rank (fun r => { r with fast := fast, owed := owed }))).flagRaise (DRC_STAT ch) 8 80
    if 8 < owed then ((((t.refreshForce ch rank).modChan ch (fun x => { x with overTick := true })).count (DRC_REF_OVER ch) 1).flagRaise (DRC_STAT ch) 7 79)
    else t

/-- Whether a real-time request to a rank is queued (R342). -/
def State.rtQueued (s : State) (ch rank : Nat) : Bool :=
  (s.chan ch).wq.any (fun e => e.qos15 && (s.chan ch).physOf (dramC (e.line * 64)) == rank)
    || s.trk.waiting.any (fun w => w.target == ch && w.qos == 15)

/-- REFRESH_DUE: issued at once, or owed, and all forced when 8 are owed. -/
def execRefreshDue (ch : Fin 2) (rank : Fin 4) (s : State) : Host.Outcome State Fault Refusal :=
  doneCore s (
    let c := ch.val
    let k := rank.val
    if !((s.chan c).rank k).st.live then s
    else
      let t := s.intervalChange c k
      if t.rtQueued c k then
        let t := t.modChan c (fun x => x.modRank k (fun r => { r with owed := r.owed + 1 }))
        if 8 ≤ ((t.chan c).rank k).owed then t.refreshForce c k else t
      else t.refreshIssue c k 1)

/-- OWED_REFRESH_ISSUE: owed refreshes of a rank go out at a piece boundary. -/
def execOwedRefreshIssue (ch : Fin 2) (rank : Fin 4) (n : Nat) (s : State) : Host.Outcome State Fault Refusal :=
  doneCore s (
    let c := ch.val
    let k := rank.val
    let m := min n ((s.chan c).rank k).owed
    if s.rtQueued c k then s
    else (s.refreshIssue c k m).modChan c (fun x => x.modRank k (fun r => { r with owed := r.owed - m })))

/-- The MPR temperature status of each rank; the interval follows at the rank's next due refresh (R341). -/
def State.tempRead (s : State) (ch : Nat) (hot : List Bool) : State :=
  let t := s.modChan ch (fun x => { x with tempTicks := 0 })
  foldS (fun t k =>
    if !((s.chan ch).rank k).st.live then t
    else (t.hist ch 10 k 0 0 14 0 false).modChan ch (fun x => x.modRank k (fun r => { r with hot := nth false hot k }))) t (upFrom 0 4)
/-- DRAM_TEMP_READ: the 32 ms since the last one, 96 ticks, end with the running tick or have ended. -/
def execDramTempRead (ch : Fin 2) (hot : List Bool) (s : State) : Host.Outcome State Fault Refusal :=
  doneCore s (if 95 ≤ (s.chan ch.val).tempTicks then s.tempRead ch.val hot else s)

/-- A short calibration of each rank (R338). -/
def State.zqCalibrate (s : State) (ch : Nat) : State :=
  foldS (fun t k => if ((s.chan ch).rank k).st.live then t.hist ch 7 k 0 0 14 0 false else t) s (upFrom 0 4)
/-- ZQ_CALIBRATION: the 128 ms since the last one, 384 ticks, end with the running tick. -/
def execZqCalibration (ch : Fin 2) (s : State) : Host.Outcome State Fault Refusal :=
  doneCore s (if (s.chan ch.val).zqTicks = 383 then (s.zqCalibrate ch.val).modChan ch.val (fun x => { x with zqTicks := 384 }) else s)

/-! ## Retraining (R338) -/

/-- The first live rank from a number on, in turn. -/
def nextRank (x : Channel) : Nat → Nat → Option Nat
  | 0, _ => none
  | n + 1, k => if (x.rank (k % 4)).st.live then some (k % 4) else nextRank x n (k + 1)

/-- A rank has been retrained; where a lane has no working setting the rank becomes SUSPECT. -/
def State.retrain (s : State) (c k : Nat) (ok : Bool) (readWin writeWin lane : Nat) : State :=
  let t := s.modChan c (fun x => { x.modRank k (fun r =>
    if ok then { r with readWin := readWin % 256, writeWin := writeWin % 256, lane := lane % 16, lkg := false, lastTrain := s.tickLo }
    else { r with lkg := true, lastTrain := s.tickLo }) with trainNext := (k + 1) % 4, trainTicks := 0 })
  if ok then t
  else
    let t := t.modChan c (fun x => match (x.rank k).st with
      | .migratingOut => { x with mig := x.mig.map (fun m => { m with wasSuspect := true }) }
      | .migratingIn => x
      | _ => x.modRank k (fun r => { r with st := .suspect }))
    let t := (t.count (DRC_TRAIN_FAILS c) 1).flagRaise (DRC_STAT c) 4 76
    if t.dram.ranksW = 4 then t.migAuto c k 1 else t
/-- RETRAIN: DRC_TRAIN_PER seconds after the last retraining, one rank in turn is retrained while no refresh is owed on it; frozen channels read no
data (R338, R352). -/
def execRetrain (ch : Fin 2) (ok : Bool) (readWin writeWin lane : Nat) (s : State) : Host.Outcome State Fault Refusal :=
  doneCore s (
    let x := s.chan ch.val
    match nextRank x 4 x.trainNext with
    | none => s
    | some k =>
      if s.dram.frozen ∨ x.trainTicks + 1 < 3000 * x.trainEff ∨ 0 < (x.rank k).owed then s
      else s.retrain ch.val k ok readWin writeWin lane)

/-! ## Parity (R348, R352) -/

/-- The ADDR field of DRC_HIST_CMD: the row of an ACT, the column of a RD or WR. -/
def histAddr (cmd c : Nat) : Nat := match cmd with | 0 => cRow c | 1 => cCol c | 2 => cCol c | _ => 0
/-- A command of the history with its bank; a refresh and the commands after it name none. -/
def State.histCmd (s : State) (ch cmd rank master c : Nat) (alert : Bool) : State :=
  s.hist ch cmd rank (if cmd < 4 then cBg c else 0) (if cmd < 4 then cBank c else 0) master (histAddr cmd c) alert
/-- DRAM_PARITY: an alert closes the rank's banks and the command is reissued; a third one on a command (`persist`) is a command error. Frozen
channels only refresh (R352). -/
def execDramParity (ch : Fin 2) (rank : Fin 4) (hit : ParityHit) (s : State) : Host.Outcome State Fault Refusal :=
  doneCore s (
    if s.dram.frozen ∧ hit.cmd.val ≠ 5 then s
    else
      let c := ch.val
      let a := if hit.cmd.val = 5 then 0 else hit.addr
      let t := s.errRec c (if hit.persist then 5 else 4) 0 0 hit.master.val rank.val a
      let t := (t.histCmd c hit.cmd.val rank.val hit.master.val (dramC a) true).hist c 4 rank.val 0 0 14 0 false
      let t := ((t.count (DRC_PAR_COUNT c) 1).flag (DRC_STAT c) 2).raiseOnce 74
      if hit.persist then
        let u := (t.count (DRC_UE_COUNT c) 1).flagRaise (DRC_STAT c) 1 73
        if s.dram.frozen then u else u.dramOutcome c rank.val 2 false
      else t.histCmd c hit.cmd.val rank.val hit.master.val (dramC a) false)

/-! ## Row hammer -/

/-- A window starts: every table clears and the throttles end (R350). -/
def State.hammerWindow (s : State) : State :=
  let f (x : Channel) : Channel := { x with hammer := [], throttle := [] }
  { s with dram := { s.dram with ch0 := f s.dram.ch0, ch1 := f s.dram.ch1 } }
/-- HAMMER_WINDOW_START: the window's last tick runs, and the next window starts with the coming boundary. -/
def execHammerWindowStart (s : State) : Host.Outcome State Fault Refusal :=
  doneCore s (if (s.tickN + 1) % 192 = 0 then s.hammerWindow else s)

/-- ROW_HAMMER: the activations of a row reach the threshold in the running window; the row is treated once (R350). -/
def execRowHammer (ch : Fin 2) (rank : Fin 4) (bg : Fin 4) (bank : Fin 4) (row : Nat) (s : State) : Host.Outcome State Fault Refusal :=
  doneCore s (
    let k := bankKey rank.val bg.val bank.val
    let rows := spGet [] (s.chan ch.val).hammer k
    let rows := if rows.any (fun r => r.row == row) then rows else hammerTouch rows row 7
    let thr := (s.chan ch.val).thrEff
    let rows := rows.map (fun r => if r.row = row then { r with count := max thr r.count } else r)
    (s.modChan ch.val (fun x => { x with hammer := spPut x.hammer k rows })).hammerCheck ch.val rank.val bg.val bank.val row)

/-! ## Patrol scrub (R347) -/

/-- The ranks the patrol reads, in ascending order, and the number of lines of a rank. -/
def patrolRanks (x : Channel) : List Nat := (upFrom 0 4).filter (fun k => (x.rank k).st.live)
def rankLines : Nat := 2 ^ 28

/-- The check of one ECC word that the patrol reads in a rank without DRAM addresses, the spare: the address that the record names is a free value
(log entry 87). -/
def State.spareRead (s : State) (ch rank c word : Nat) (f : DramFound) : State :=
  let rec' (t : State) (kind : Nat) (y : Byte) : State := t.drawn.errAt ch kind y.toNat word 13 rank c (Config.freeNat t.free)
  if s.dram.frozen then s
  else match f with
    | .clean => s
    | .single y =>
      let old := (s.rd (DRC_CE_COUNT ch)).toNat
      let t := rec' (s.count (DRC_CE_COUNT ch) 1) 1 y
      if old = (s.chan ch).ceEff then t.flagRaise (DRC_STAT ch) 0 72 else t
    | .double y =>
      if y = 0xFF then (((rec' s 3 y).count (DRC_POISON_COUNT ch) 1).flag (DRC_STAT ch) 3).raiseOnce 81
      else
        let u := ((rec' s 2 y).count (DRC_UE_COUNT ch) 1).flagRaise (DRC_STAT ch) 1 73
        match (u.chan ch).copying with
        | some _ => u.dramOutcome ch rank 0 true
        | none => u

/-- The patrol reads one line: of a logical rank through its DRAM addresses, of the spare as a rank without any. -/
def State.patrolLine (s : State) (ch : Nat) (found : List DramFound) : State :=
  let x := s.chan ch
  let rs := patrolRanks x
  let i := x.scrubPos / rankLines
  let off := x.scrubPos % rankLines
  let total := rs.length * rankLines
  if total = 0 then s
  else
    let k := nth 0 rs i
    let next := if total ≤ x.scrubPos + 1 then 0 else x.scrubPos + 1
    let t := s.modChan ch (fun x => { x with scrubPos := next })
    match (upFrom 0 3).filter (fun l => decide (l < x.rankMap.length) && nth 9 x.rankMap l == k) with
    | l :: _ =>
      let a := dramOf ch (l * 2 ^ 34 + off * 64)
      (foldS (fun (p : State × Nat) f => (p.1.dramWordRead (a + 8 * p.2) 13 false f, p.2 + 1)) (t.lineCmd a 1 13, 0)
        ((found ++ List.replicate 8 DramFound.clean).take 8)).1
    | [] => (foldS (fun (p : State × Nat) f => (p.1.spareRead ch k (off * 64) p.2 f, p.2 + 1)) (t, 0) found).1

/-- PATROL_SCRUB_READ: the patrol reads the next lines, with what it finds in each. -/
def execPatrolScrubRead (ch : Fin 2) (found : List (List DramFound)) (s : State) : Host.Outcome State Fault Refusal :=
  doneCore s (if (s.chan ch.val).scrubOn && !s.dram.frozen then
    foldS (fun t f => if t.dram.frozen then t else t.patrolLine ch.val f) s found else s)

/-- WRITE_QUEUE_ISSUE: the oldest entry issues; `found` tells, by ECC word of the line, what its reads find. -/
def execWriteQueueIssue (ch : Fin 2) (found : List DramFound) (s : State) : Host.Outcome State Fault Refusal :=
  doneCore s (s.issueOldest ch.val found)

/-! ## MIGRATE and its end (R353, R355) -/

/-- The specific conditions of a MIGRATE job; 0 where it may run. -/
def State.migrateError (s : State) (ch rank : Nat) : Nat :=
  let x := s.chan ch
  if !x.spareFree then 0x40
  else if x.rankMap.contains rank && ((x.rank rank).st == .inService || (x.rank rank).st == .suspect) then 0
  else 0x41

/-- MIGRATE: the job of a slot begins and starts the migration of the rank its arguments name. -/
def execMigrate (slot : Fin 16) (s : State) : Host.Outcome State Fault Refusal :=
  doneCore s (
    let t := s.jobTryBegin slot.val
    if t.runsJob slot.val 5 then
      let a := (t.slot slot.val).arg 0
      let ch := fld a 0 0
      if t.dram.frozen then t.jobEnd slot.val 0x05
      else if t.migrateError ch (fld a 2 1) ≠ 0 then t.jobEnd slot.val (t.migrateError ch (fld a 2 1))
      else t.migStart ch (fld a 2 1) 4 (some slot.val)
    else s)

/-- The poisoned words of a physical rank from one MiB of it to another: each one is written to the spare poisoned. -/
def State.rankPoison (s : State) (ch rank lo hi : Nat) : Nat :=
  (s.dram.poison.filter (fun p =>
    let c := dramC (p.1 * 8)
    dramCh (p.1 * 8) == ch && nth 9 (s.chan ch).rankMap (cRank c) == rank && decide (lo ≤ c % 2 ^ 34 / 2 ^ 20) && decide (c % 2 ^ 34 / 2 ^ 20 < hi))).length
/-- The copy has come to a MiB: its poisoned words are counted in DRC_MIG_POISON, and a MIGRATE job's PROGRESS follows. -/
def State.migCopied (s : State) (ch : Nat) (m : Migration) (n : Nat) (last : Bool) : State :=
  let p := s.rankPoison ch m.source m.copied n
  let t := (s.modChan ch (fun x => { x with mig := some { m with copied := n, poisoned := m.poisoned + p, done := last } })).count (DRC_MIG_POISON ch) p
  match m.slot with
  | some k => t.jobProgress k n
  | none => t

/-- The remap at the boundary after the last line has been copied. -/
def State.migComplete (s : State) (ch : Nat) (m0 : Migration) : State :=
  let m := { m0 with complete := true }
  let x := s.chan ch
  let x := (x.modRank m.source (fun r => { r with st := .retired, owed := 0 })).modRank m.target (fun r => { r with st := .inService })
  let x := { x with rankMap := x.rankMap.map (fun k => if k = m.source then m.target else k), spareUsed := true, mig := some m,
                    migLast := migWord m 2 }
  let t := ((s.setChan ch x).hist ch 8 m.source 0 0 14 0 false).flagRaise (DRC_STAT ch) 6 78
  match m.slot with
  | some k => (t.resultWrite k (migResult m s.tickLo)).jobEnd k 0
  | none => t

/-- MIGRATION_COMPLETE: the last line has been copied; the rank is remapped at the next tick boundary (R353). -/
def execMigrationComplete (ch : Fin 2) (s : State) : Host.Outcome State Fault Refusal :=
  doneCore s (match (s.chan ch.val).copying with
    | some m => s.migCopied ch.val m 16384 true
    | none => s)

/-- A MIGRATE job's abort at its next MiB (R355). -/
def State.migrateAbort (s : State) (slot : Nat) : State :=
  foldS (fun t ch => match (t.chan ch).copying with
    | some m => if m.slot = some slot then t.migAbandon ch false else t
    | none => t) s [0, 1]

/-- The copy's progress in a tick: how far it has come, in MiB, is a free value that only grows and stays below the whole rank (R36 gives
rates, not progress). -/
def State.migTick (s : State) (ch : Nat) : State :=
  match (s.chan ch).copying with
  | some m => if m.done then s else s.drawn.migCopied ch m (m.copied + Config.freeNat s.free % (16384 - m.copied)) false
  | none => s
/-- The remap of a migration whose last line has been copied. -/
def State.migRemap (s : State) (ch : Nat) : State :=
  match (s.chan ch).copying with
  | some m => if m.done then s.migComplete ch m else s
  | none => s

/-- A tick of a channel: thresholds and periods written take effect, the times of R338 and R341 go on, and a calibration that is due and has not
been made is made. -/
def State.chanTick (s : State) (ch : Nat) : State :=
  let s := if (s.chan ch).zqTicks = 383 then s.zqCalibrate ch else s
  s.modChan ch (fun x => { x with
    thrEff := (s.rd (DRC_HAMMER_THR ch)).toNat
    ceEff := (s.rd (DRC_CE_THR ch)).toNat
    trainEff := s.rdF (DRC_TRAIN_PER ch) 7 0
    scrubOn := s.bit (DRC_SCRUB ch) 0
    overTick := false
    zqTicks := if 383 ≤ x.zqTicks then 0 else x.zqTicks + 1
    tempTicks := x.tempTicks + 1
    trainTicks := x.trainTicks + 1 })
/-- A tick of the DRAM clock: it moves on by 533,333⅓ cycles unless frozen, and copies progress. -/
def State.dramTime (s : State) : State :=
  let s := (s.chanTick 0).chanTick 1
  let s := { s with dram := { s.dram with time := if s.dram.frozen then s.dram.time else s.dram.time + 1600000 } }
  (s.migTick 0).migTick 1
/-- The DRAM part of a tick boundary: beside it, a finished copy is remapped and the hammer window turns at multiples of 192. -/
def State.dramTick (s : State) : State :=
  (((s.migRemap 0).migRemap 1).when (s.tickN % 192 == 0) State.hammerWindow).dramTime

/-! ## Detection (R334, R337) -/

/-- The rank a finding of initial training gives. -/
def foundRank (tick : W32) : RankFound → Rank
  | .absent => noRank
  | .works => { noRank with st := .inService, lastTrain := tick }
  | .fails => { noRank with st := .failed }
/-- The working ranks of a list of findings, in ascending order. -/
def workingRanks (rs : List RankFound) : List Nat :=
  (upFrom 0 4).filter (fun k => nth .absent rs k == .works)

/-- One channel after detection with w working ranks to use. -/
def detectChannel (old : Channel) (tick : W32) (w : Nat) (rs : List RankFound) : Channel :=
  let ks := workingRanks rs
  let logical := ks.take (min w 3)
  let spare := if w = 4 then (ks.drop 3).head? else none
  let ranks := (upFrom 0 4).map (fun k =>
    let r := foundRank tick (nth .absent rs k)
    if r.st = .inService then
      (if logical.contains k then r else if spare = some k then { r with st := .spare } else { r with st := .unused })
    else r)
  { old with enabled := decide (0 < w), ranks := ranks, rankMap := logical, spareRank := spare, spareUsed := false, wq := [],
             hammer := [], throttle := [], neighbours := [], hist := [], frzDrop := 0, trainNext := 0, mig := none, migLast := 0,
             scrubPos := 0, overTick := false, zqTicks := 0, tempTicks := 0, trainTicks := 0 }

/-- Detection and training of both channels; what the bytes of DRAM hold is the caller's. -/
def State.dramDetect (s : State) (r0 r1 : List RankFound) : State :=
  let n0 := (workingRanks r0).length
  let n1 := (workingRanks r1).length
  let w := min n0 n1
  let conf (c n : Nat) : W32 :=
    w32 (n + b01 (w == 4) * 8 + (min w 3 - 1) * 16 + c * 256 + min 3 w * 32 * 65536)
  let s := { s with dram := { s.dram with ch0 := detectChannel s.dram.ch0 s.tickLo w r0, ch1 := detectChannel s.dram.ch1 s.tickLo w r1,
                                          frozen := false, ranksW := w, selfRefresh := false } }
  let s := (s.wr (DRC_CONF 0) (conf 0 n0)).wr (DRC_CONF 1) (conf 1 n1)
  let bad (rs : List RankFound) : Bool := rs.any (fun r => r == .fails)
  let s := s.when (bad r0 || w == 0) (fun t => t.flag (DRC_STAT 0) 9)
  let s := s.when (bad r1 || w == 0) (fun t => t.flag (DRC_STAT 1) 9)
  s.when (bad r0 || bad r1) (fun t => t.raise 82)

/-! ## Read-back (R359, R361) -/

/-- The STATE code of a rank. -/
def rankCode : RankState → Nat
  | .absent => 0 | .inService => 1 | .suspect => 2 | .spare => 3 | .migratingOut => 4 | .migratingIn => 5 | .retired => 6 | .failed => 7
  | .unused => 8
/-- A sum over the four ranks. -/
def rankSum (f : Nat → Nat) : Nat := f 0 + f 1 + f 2 + f 3

/-- The computed registers of a DRC window, by offset. -/
def State.drcView (s : State) (c off : Nat) : Option W32 :=
  let x := s.chan c
  let h := nth { cmd := 0, time := s.dram.time } x.hist (s.rdF (DRC_HIST_RSEL c) 5 0)
  let tr := x.rank (s.rdF (DRC_TRAIN_RSEL c) 1 0)
  if off = 0x04 then some (w32 (b01 x.enabled + b01 s.dram.frozen * 2))
  else if off = 0x14 then
    some (w32 (nth 0 x.rankMap 0 + nth 0 x.rankMap 1 * 4 + nth 0 x.rankMap 2 * 16 + (x.spareRank.getD 0) * 64 + b01 x.spareUsed * 256
      + b01 (!x.ranks.any (fun r => r.st == .spare)) * 512))
  else if off = 0x18 then some (w32 (rankSum (fun k => rankCode (x.rank k).st * 16 ^ k)))
  else if off = 0x34 then some (w32 (rankSum (fun k => b01 (x.rank k).hot * 2 ^ k + b01 (x.rank k).fast * 2 ^ (k + 4))))
  else if off = 0x38 then some (w32 (rankSum (fun k => (x.rank k).owed % 32 * 256 ^ k)))
  else if off = 0x64 then some (w32 (foldS (fun n m => n + b01 (x.throttle.any (fun p => p.1 == m)) * 2 ^ m) 0 (upFrom 0 14)))
  else if off = 0x7C then some h.cmd
  else if off = 0x80 then some (if x.hist.length ≤ s.rdF (DRC_HIST_RSEL c) 5 0 then 0 else w32 (satN 32 ((s.dram.time - h.time) / 3)))
  else if off = 0x84 then some (w32 (x.frzDrop % 128))
  else if off = 0x8C then some (w32 (tr.readWin + tr.writeWin * 256 + tr.lane * 65536 + b01 tr.lkg * 2 ^ 24))
  else if off = 0x90 then some tr.lastTrain
  else if off = 0x98 then some (match x.copying with | some m => migWord m 1 | none => x.migLast)
  else if off = 0xA0 then some (w32 (x.scrubPos / 2 ^ 14 % 2 ^ 17))
  else none

/-- The registers whose write is held to a range (R359): whether the value is out of it. -/
def drcBadArg (off : Nat) (v : W32) : Bool :=
  (off == 0x24 && (decide (fld v 16 0 < 1024) || decide (65536 < fld v 16 0)))
    || (off == 0x28 && v == 0) || (off == 0x2C && fld v 7 0 == 0) || (off == 0x30 && fld v 15 8 == 0)

end Sys2Proof.Machine
end

