-- ==== Sys2Proof/Machine/Trunk.lean ====
section
/-! DEFINITION. The Trunk (chapter 14) and the accesses that cross it to DRAM: modes, locked sequences, arbitration of waiting pieces,
timeouts and isolators; the DRAM aperture (R357). -/

namespace Sys2Proof.Machine

/-! ## Modes (R391) -/

/-- TRK_MODE: start-up until READY, recovery while a load has stopped the media clock or a destructive MARCH runs, test, else normal. -/
def State.trkMode (s : State) : Nat :=
  if !s.sys.ready then 0
  else if s.mem.act == .destructive then 3
  else match s.img.phase with
    | .stopping _ => 3
    | .distributed => 3
    | _ => if s.trk.test then 2 else 1

/-! ## Records (R404) -/

/-- The layout of the record registers. -/
def trkWord (master target : Nat) (forced : Bool) (addr : Nat) : W32 :=
  w32 (master % 16 * 2 ^ 28 + target % 8 * 2 ^ 25 + b01 forced * 2 ^ 24 + addr / 64 % 2 ^ 24)

/-- A lock refused, or released by the fabric: the record, the count, LOCKOUT and EV92 (R392). -/
def State.lockout (s : State) (master target : Nat) (forced : Bool) (addr : Nat) : State :=
  ((s.wr TRK_LOCKOUT_LAST (trkWord master target forced addr)).count TRK_LOCKOUT_COUNT 1).flagRaise TRK_STAT 0 92

/-! ## QoS and arbitration (R387, R388) -/

/-- The QoS a transaction carries: 15 only for real-time traffic of NET, RING, TWN and PRV, else the master's TRK_QOS. -/
def State.qosOf (s : State) (master qos : Nat) : Nat :=
  if master = 7 ∨ (qos = 15 ∧ (master = 6 ∨ master = 9 ∨ master = 11)) then 15 else (s.rd (TRK_QOS master)).toNat % 16
/-- The effective QoS of a piece that has waited. -/
def State.effQos (s : State) (r : TrkReq) : Nat :=
  if 15 ≤ r.qos then 15 else max r.qos (min 14 (r.qos + r.waited / max 1 (s.rdF TRK_AGE 15 0)))
/-- How far a master stands after the one granted last, in rotation. -/
def rotation (last master : Nat) : Nat := (master + 16 - (last + 1) % 16) % 16

/-- Whether piece `r` is granted before `b`. -/
def State.before (s : State) (r b : TrkReq) : Bool :=
  let e := s.effQos r
  let f := s.effQos b
  let last := spGet 15 s.trk.lastGrant (r.target * 16 + e)
  decide (f < e) || (e == f && decide (rotation last r.master < rotation last b.master))

/-- The piece granted next at a target, and its index. -/
def State.pick (s : State) (target : Nat) : List TrkReq → Nat → Option (Nat × TrkReq) → Option (Nat × TrkReq)
  | [], _, b => b
  | r :: rs, i, b =>
    if r.target = target then
      (match b with
       | none => s.pick target rs (i + 1) (some (i, r))
       | some (j, q) => if s.before r q then s.pick target rs (i + 1) (some (i, r)) else s.pick target rs (i + 1) (some (j, q)))
    else s.pick target rs (i + 1) b

/-- A piece is granted and performed at its DRAM channel. -/
def State.grant (s : State) (r : TrkReq) (found : List DramFound) : State × List Byte :=
  let s := { s with trk := { s.trk with
    lastGrant := spPut s.trk.lastGrant (r.target * 16 + s.effQos r) r.master
    waitMax := if spGet 0 s.trk.waitMax r.master < satN 20 r.waited then spPut s.trk.waitMax r.master (satN 20 r.waited) else s.trk.waitMax
    waitTgt := if spGet 0 s.trk.waitMax r.master < satN 20 r.waited then spPut s.trk.waitTgt r.master r.target else s.trk.waitTgt } }
  if r.isWrite then (s.rangeWrite r.addr r.bytes (r.qos == 15), [])
  else s.rangeRead r.addr r.bytes.length r.master (r.qos == 15) found

/-- Whether a piece must wait: a locked sequence of another master holds its target (R392). -/
def State.mustWait (s : State) (master target : Nat) : Bool :=
  match s.trk.lock with
  | some (m, t) => t == target && m != master
  | none => false

/-- One piece: granted at once, or waiting. -/
def State.piece (s : State) (r : TrkReq) (found : List DramFound) : State × List Byte :=
  if s.mustWait r.master r.target then ({ s with trk := { s.trk with waiting := s.trk.waiting ++ [r] } }, []) else s.grant r found

/-- The waiting pieces of a target are granted in the order of R388. -/
def State.drain (s : State) (target : Nat) : State :=
  timesN (fun t => match t.pick target t.trk.waiting 0 none with
    | none => t
    | some (i, r) =>
      let q := { t with trk := { t.trk with waiting := t.trk.waiting.take i ++ t.trk.waiting.drop (i + 1) } }.grant r []
      if r.isWrite then q.1 else q.1.emit (.dram r.master q.2)) s.trk.waiting.length s

/-- A transaction of a master to DRAM, split at every 256 bytes (R389); what it reads. One outside the usable DRAM is answered DECODE. -/
def State.burst (s : State) (master qos addr : Nat) (isWrite : Bool) (bytes : List (Option Byte)) (found : List DramFound) :
    State × List Byte :=
  let n := bytes.length
  if s.dramSize < addr + n then (s, List.replicate n 0)
  else
    let ps := piecesOf 256 (n / 256 + 2) addr n
    let s := s.when (decide (1 < ps.length)) (fun t => t.count TRK_SPLIT_COUNT 1)
    (foldS (fun (p : (State × List Byte) × (List (Option Byte) × List DramFound)) (l : Nat × Nat) =>
      let r : TrkReq := { master := master, target := dramCh l.1, qos := s.qosOf master qos, waited := 0, addr := l.1, isWrite := isWrite,
                          bytes := p.2.1.take l.2 }
      let q := p.1.1.piece r p.2.2
      ((q.1, p.1.2 ++ q.2), (p.2.1.drop l.2, p.2.2.drop ((l.1 + l.2 - 1) / 8 + 1 - l.1 / 8))))
      ((s, []), (bytes, found)) ps).1

/-- DRAM_READ: a master reads `n` bytes; `found` tells what each ECC word's check finds. -/
def execDramRead (addr n : Nat) (master : Fin 12) (qos : Fin 16) (found : List DramFound) (s : State) : Host.Outcome State Fault Refusal :=
  doneCore s (
    let r := s.burst master.val qos.val addr false (List.replicate n none) found
    r.1.emit (.dram master.val r.2))

/-- DRAM_WRITE: a master writes strobed bytes. -/
def execDramWrite (addr : Nat) (bytes : List (Option Byte)) (master : Fin 12) (qos : Fin 16) (s : State) : Host.Outcome State Fault Refusal :=
  doneCore s (s.burst master.val qos.val addr true bytes []).1

/-! ## Locked sequences (R392) -/

/-- The lock is released and the waiting pieces go on. -/
def State.lockFree (s : State) : State :=
  match s.trk.lock with
  | none => s
  | some (_, t) => { s with trk := { s.trk with lock := none } }.drain t
/-- The fabric releases a held lock. -/
def State.lockForced (s : State) : State :=
  match s.trk.lock with
  | none => s
  | some (m, t) => (s.lockout m t true s.trk.lockAddr).lockFree
/-- A change of mode to NORMAL releases a held lock. -/
def State.lockMode (s : State) : State := if s.trkMode = 1 then s.lockForced else s

/-- LOCKED_SEQUENCE_REQUEST: only STW issues one; NORMAL refuses it, the other modes grant it where the target is free. -/
def State.lockRequest (s : State) (master target addr : Nat) : State :=
  if master ≠ 1 then s
  else if s.trkMode = 1 then s.lockout master target false addr
  else match s.trk.lock with
    | some _ => s
    | none => { s with trk := { s.trk with lock := some (master, target), lockAddr := addr,
                                           lockTick := s.trk.lockTick || (s.trkMode == 2 && decide (target < 3)) } }
def execLockedSequenceRequest (master : Fin 12) (target : Fin 7) (addr : Nat) (s : State) : Host.Outcome State Fault Refusal :=
  doneCore s (s.lockRequest master.val target.val addr)

/-- LOCK_RELEASE_TIMEOUT: a lock held for 65,536 cycles. -/
def execLockReleaseTimeout (s : State) : Host.Outcome State Fault Refusal := doneCore s s.lockForced

/-- A transaction without a response (R395): TRK_TIMEOUT_LAST, the count, STAT.TIMEOUT, EV94. -/
def State.trkTimeout (s : State) (master target addr : Nat) : State :=
  ((s.wr TRK_TIMEOUT_LAST (trkWord master target false addr)).count TRK_TIMEOUT_COUNT 1).flagRaise TRK_STAT 2 94
/-- TRK_TIMEOUT. -/
def execTrkTimeout (master : Fin 12) (target : Fin 7) (addr : Nat) (s : State) : Host.Outcome State Fault Refusal :=
  doneCore s (s.trkTimeout master.val target.val addr)

/-- The isolator of a master acts (R396): its pieces not yet granted are never issued, a lock it holds is released, EV93. -/
def State.isolate (s : State) (master target addr : Nat) : State :=
  let s := { s with trk := { s.trk with waiting := s.trk.waiting.filter (fun r => r.master != master) } }
  let s := match s.trk.lock with
    | some (m, _) => if m = master then s.lockFree else s
    | none => s
  ((s.wr TRK_ISO_LAST (trkWord master target false addr)).count TRK_ISO_COUNT 1).flagRaise TRK_STAT 1 93
/-- TRK_ISOLATE: `granted` pieces complete with their remaining strobes off, `dropped` are never issued; neither changes a byte. -/
def execTrkIsolate (master : Fin 12) (granted dropped : Nat) (target : Fin 7) (addr : Nat) (s : State) : Host.Outcome State Fault Refusal :=
  doneCore s (if granted + dropped = 0 then s else s.isolate master.val target.val addr)
/-- A master's reset with pieces waiting: its isolator acts on the first of them. -/
def State.isolateWaiting (s : State) (master : Nat) : State :=
  match (s.trk.waiting.filter (fun r => r.master == master)).head? with
  | some r => s.isolate master r.target r.addr
  | none => s

/-- QOS_AGEING: the waiting pieces have waited for so many Trunk cycles more (R388). -/
def execQosAgeing (cycles : Nat) (s : State) : Host.Outcome State Fault Refusal :=
  doneCore s { s with trk := { s.trk with waiting := s.trk.waiting.map (fun r => { r with waited := r.waited + cycles }) } }

/-- The load of a target over a window of 3,000 ticks of 200,000 cycles, in 0.1 % (R35), rounded down (log entry 61). -/
def loadShare (cycles : Nat) : Nat := min 1000 (cycles / 600000)
/-- The end of a window of R35: every target's load, and TCK_LOAD with its peak, the lower code on equal loads (R40). -/
def State.loadEnd (s : State) (sums : List Nat) : State :=
  let w (k : Nat) : Nat := loadShare (nth 0 sums k)
  let s := foldS (fun t k => t.wr (TRK_TGT_LOAD k) (w32 (w k))) s (upFrom 0 7)
  let top := foldS (fun (b : Nat × Nat) k => if b.2 < w k then (k, w k) else b) (0, w 0) (upFrom 0 7)
  let v := w32 (top.1 * 2 ^ 20 + top.2)
  let s := s.wr TCK_LOAD v
  s.when (decide (s.rdF TCK_LOAD_PEAK 9 0 < top.2)) (fun t => t.wr TCK_LOAD_PEAK v)
/-- The Trunk's part of a tick boundary: the cycles that real-time traffic took of each target in the tick join the window of R35, the real-time
bytes are shown, and the branch depths take a free highest value (the spec gives no schedule of register accesses). -/
def State.trkTick (s : State) (load : List Nat) (bytes : Nat) : State :=
  let sums := (upFrom 0 7).map (fun k => nth 0 s.trk.loadSum k + min 200000 (nth 0 load k))
  let full := decide (2999 ≤ s.trk.loadTicks)
  let s := s.when full (fun t => t.loadEnd sums)
  let s := { s with trk := { s.trk with loadSum := if full then [0, 0, 0, 0, 0, 0, 0] else sums, loadTicks := if full then 0 else s.trk.loadTicks + 1,
                                        lockTick := match s.trk.lock with
                                          | some (_, t) => s.trkMode == 2 && decide (t < 3)
                                          | none => false } }
  let s := s.wr TRK_QOS15_BYTES (w32 (satN 32 bytes))
  let d (b : Nat) : Nat := max (s.rdF TRK_BRG_DEPTH (8 * b + 4) (8 * b)) (Config.freeNat s.free / 17 ^ b % 17)
  s.drawn.wr TRK_BRG_DEPTH (w32 (d 0 + d 1 * 2 ^ 8 + d 2 * 2 ^ 16 + d 3 * 2 ^ 24))

/-- The computed registers of the TRK window. -/
def State.trkView (s : State) (off : Nat) : Option W32 :=
  if off = 0x10 then some (w32 s.trkMode)
  else if off = 0x90 then some (w32 (if s.rdF TRK_WAIT_RSEL 3 0 < 12 then spGet 0 s.trk.waitMax (s.rdF TRK_WAIT_RSEL 3 0) else 0))
  else if off = 0x94 then some (w32 (if s.rdF TRK_WAIT_RSEL 3 0 < 12 then spGet 0 s.trk.waitTgt (s.rdF TRK_WAIT_RSEL 3 0) else 0))
  else none

/-! ## The aperture (R357) -/

/-- The DRAM address that the aperture shows at a host address. -/
def State.apAddr (s : State) (addr : Nat) : Nat := s.rdF (DRC_APBASE 0) 10 0 * 2 ^ 26 + addr % 2 ^ 26

/-- A host address of the aperture that shows no DRAM: R53, and APERTURE of channel 0. -/
def State.apOutside (s : State) (addr : Nat) (width : Width) : Bool := decide (s.dramSize < widthAlign width (s.apAddr addr) + widthBytes width)
def State.apUnmapped (s : State) (addr : Nat) : State := (s.unmappedAt addr).flag (DRC_STAT 0) 11
/-- A host write through the aperture. -/
def State.apWrite (s : State) (addr : Nat) (width : Width) (v : W32) : State :=
  let a := widthAlign width (s.apAddr addr)
  if s.apOutside addr width then s.apUnmapped addr
  else if s.dram.frozen then s
  else if a < 0x1000000 ∧ s.stagingHeld then s.flag IMG_STAT 2
  else if 0x1000000 ≤ a ∧ a < 0x4000000 then s.flag (DRC_STAT 0) 12
  else (s.burst 0 8 a true ((leBytes (widthBytes width) v.toNat).map some) []).1
/-- A host read through the aperture: its value, none while a locked sequence of another master holds the channel. -/
def State.apRead (s : State) (addr : Nat) (width : Width) (found : DramFound) : State × Option W32 :=
  let a := widthAlign width (s.apAddr addr)
  if s.apOutside addr width then (s.apUnmapped addr, some 0)
  else if s.dram.frozen then (s, some 0)
  else
    let r := s.burst 0 8 a false (List.replicate (widthBytes width) none) [found]
    (r.1, if s.mustWait 0 (dramCh a) then none else some (w32 (leNat r.2)))
/-- A host access through the aperture; an answer for a read. -/
def State.aperture (s : State) (addr : Nat) (isWrite : Bool) (width : Width) (v : W32) (found : DramFound) : State :=
  if isWrite then s.apWrite addr width v
  else
    let r := s.apRead addr width found
    match r.2 with
    | some x => r.1.answer x
    | none => r.1

/-- APERTURE_ACCESS at a host address of the aperture. -/
def execApertureAccess (addr : Nat) (isWrite : Bool) (width : Width) (val : W32) (found : DramFound) (s : State) : Host.Outcome State Fault Refusal :=
  doneCore s (s.byHost (fun s => s.aperture addr isWrite width val found))

end Sys2Proof.Machine
end

