-- ==== Sys2Proof/Machine/Graph.lean ====
section
/-! DEFINITION. The signal graph (chapter 04): selectors and their crossfades, delay lines, message players, incident recorders, and the
path of samples through a tick. -/

namespace Sys2Proof.Machine

/-! ## Crossfades (R122) -/

/-- A tick's samples, missing ones read as zero. -/
def fullTick (t : Nat) (xs : List Int) : List Int := (upFrom 0 t).map (fun k => nth 0 xs k)
/-- The incoming weight of sample j of a crossfade of S samples, Q0.23. -/
def fadeWeight (j s : Nat) : Int := roundEvenQ ((j : Int) * 2 ^ 23) s
/-- The crossfade of one sample from `a` to `b`. -/
def fadeSample (a b : Int) (j s : Nat) : Int :=
  if s ≤ j then b else roundEvenQ (a * (2 ^ 23 - fadeWeight j s) + b * fadeWeight j s) (2 ^ 23)
/-- Tick number `i` of a crossfade of `len` ticks of `t` samples. -/
def fadeTick (t len i : Nat) (a b : List Int) : List Int :=
  (upFrom 0 t).map (fun k => fadeSample (nth 0 a k) (nth 0 b k) (i * t + k) (len * t))
/-- The outgoing block while a fade runs, else the incoming one. -/
def fadeOr (t len left : Nat) (a b : List Int) : List Int :=
  if left = 0 then fullTick t b else fadeTick t len (len - left) a b

/-! ## Gates (R120) -/

/-- Whether a gate is open at the boundary. -/
def State.gateOpen (s : State) : Gate → Bool
  | .always => true
  | .detector d => (s.canopy.det d).isOpen
  | .voice v => match spFind s.graph.voices v with
    | some x => x.delivers
    | none => false
  | .contact c => s.fit.variantA && s.graph.contacts.contains c
  | .host g => s.bit (GRF_GATE (g / 32 % 8)) (g % 32)
  | .ptt m => s.fit.variantA && s.graph.ptts.contains m
  | .reserved _ => false

/-! ## Selectors (R119 to R122, R137, R138) -/

/-- A selector that has not been set up. -/
def noSel : SelState :=
  { live := none, prev := none, held := none, fadeLen := 1, fadeLeft := 0, fresh := false, pos := 0, fade := 1, shadowPos := 0, shadowFade := 1 }
def State.sel (s : State) (k : Nat) : SelState := spGet noSel s.graph.sels k
def State.setSel (s : State) (k : Nat) (x : SelState) : State := { s with graph := { s.graph with sels := spPut s.graph.sels k x } }
/-- The image's selector k. -/
def State.selInfo (s : State) (k : Nat) : Option SelInfo := (s.struct.selectors.drop k).head?
/-- GRF_SEL_COUNT. -/
def State.selCount (s : State) : Nat := s.struct.selectors.length
/-- The priority table's entry of a candidate. -/
def State.pri (s : State) (sel c : Nat) : PriEntry := spGet { en := false, pri := 15 } s.graph.pris (sel * 16 + c)

/-- The best candidate of R121: the lowest priority number among open, enabled ones, the lower index on equal ones. -/
def State.bestOf (s : State) (sel : Nat) : List Cand → Nat → Option Nat → Option Nat
  | [], _, b => b
  | c :: cs, i, b =>
    let e := s.pri sel i
    if e.en && s.gateOpen c.gate then
      (match b with
       | none => s.bestOf sel cs (i + 1) (some i)
       | some j => s.bestOf sel cs (i + 1) (if e.pri < (s.pri sel j).pri then some i else some j))
    else s.bestOf sel cs (i + 1) b

/-- The winner of a priority selector: an equal-priority rival never displaces the current candidate; the idle choice without any. -/
def State.winner (s : State) (sel : Nat) (info : SelInfo) (cur : Option Nat) : Option Nat :=
  match s.bestOf sel info.cands 0 none with
  | none => info.idle
  | some b =>
    match cur with
    | some c =>
      (match (info.cands.drop c).head? with
       | some k => if s.gateOpen k.gate && (s.pri sel c).en && decide ((s.pri sel c).pri = (s.pri sel b).pri) then some c else some b
       | none => some b)
    | none => some b

/-- Evaluates one priority selector. -/
def State.selEval (s : State) (k : Nat) (info : SelInfo) : State :=
  let x := s.sel k
  let best := s.winner k info x.live
  if best = x.live then s.setSel k { x with held := none }
  else if x.fadeLeft ≠ 0 then s.setSel k { x with held := some best }
  else
    let t := s.setSel k { x with prev := x.live, live := best, held := none, fadeLen := info.fade, fadeLeft := info.fade }
    (t.count GRF_SEL_CHANGES 1).wr GRF_SEL_LAST (w32 (k * 2 ^ 16 + best.getD 0))

/-- The evaluation of every priority selector in step 8. -/
def State.selEvalAll (s : State) : State :=
  (foldS (fun (p : State × Nat) (i : SelInfo) => (if i.priority then p.1.selEval p.2 i else p.1, p.2 + 1)) (s, 0) s.struct.selectors).1

/-- A boundary: one tick less of every running crossfade but one that starts with this boundary. -/
def State.selTick (s : State) : State :=
  { s with graph := { s.graph with sels := s.graph.sels.map (fun p =>
      (p.1, { p.2 with fadeLeft := if p.2.fresh then p.2.fadeLeft else p.2.fadeLeft - 1, fresh := false })) } }

/-- SELECTOR_FADE_END: a crossfade in its last tick has ended. -/
def execSelectorFadeEnd (sel : Nat) (s : State) : Host.Outcome State Fault Refusal :=
  doneCore s (if (s.sel sel).fadeLeft = 1 ∧ (s.sel sel).fresh = false then s.setSel sel { s.sel sel with fadeLeft := 0 } else s)

/-- The exchange of the plain selectors' banks at a SWAP (R119, R189): a changed live position starts a crossfade; `early`: before the boundary's
own work has begun. -/
def selExchange (early : Bool) (x : SelState) : SelState :=
  let y := { x with pos := x.shadowPos, fade := x.shadowFade, shadowPos := x.pos, shadowFade := x.fade }
  if x.shadowPos = x.pos then y
  else { y with prev := x.live, live := some x.shadowPos, fadeLen := x.shadowFade, fadeLeft := x.shadowFade, fresh := early }
/-- A selector's part of a SWAP; a priority selector has none. -/
def selSwapOne (early : Bool) (info : Option SelInfo) (x : SelState) : SelState :=
  match info with
  | some i => if i.priority then x else selExchange early x
  | none => x
def State.selSwap (s : State) (early : Bool) : State :=
  { s with graph := { s.graph with sels := s.graph.sels.map (fun p => (p.1, selSwapOne early (s.selInfo p.1) p.2)) } }

/-- The effect of GRF_SEL_SET (R138). -/
def State.grfSelSet (s : State) (v : W32) : State :=
  let k := fld v 26 16
  match s.selInfo k with
  | none => s.flag GRF_STAT 0
  | some i =>
    if i.priority || decide (i.cands.length ≤ fld v 3 0) then s.flag GRF_STAT 0
    else s.setSel k { s.sel k with shadowPos := fld v 3 0, shadowFade := fld v 15 10 + 1 }
/-- The effect of GRF_PRI_SET where its class is granted and GRF_LOCK is 0. -/
def State.grfPriSet (s : State) (v : W32) : State :=
  let k := fld v 26 16
  match s.selInfo k with
  | none => s.flag GRF_STAT 0
  | some i =>
    if !i.priority || decide (i.cands.length ≤ fld v 11 8) then s.flag GRF_STAT 0
    else { s with graph := { s.graph with pris := spPut s.graph.pris (k * 16 + fld v 11 8) { en := bitOf v 4, pri := fld v 3 0 } } }

/-! ## Delay lines (R125, R126) -/

/-- A delay line that has not been set up. -/
def noLine : LineState :=
  { len := 2, delay := 0, old := 0, fadeLen := 1, fadeLeft := 0, w := 0, since := 0, pend := none, want := none, wantLen := none,
    late := false, silent := false }
def State.line (s : State) (l : Nat) : LineState := spGet noLine s.graph.lines l
def State.setLine (s : State) (l : Nat) (x : LineState) : State := { s with graph := { s.graph with lines := spPut s.graph.lines l x } }
/-- The image's delay line l. -/
def State.lineInfo (s : State) (l : Nat) : Option LineInfo := (s.struct.lines.drop l).head?
/-- A ring-store condition: its bit and EV83 (R124). -/
def State.rngFlag (s : State) (i : Nat) : State := s.flagRaise RNG_STAT i 83

/-- The clamp test: the delay, and whether it was changed. -/
def clampDelay (len t d : Nat) : Nat × Bool :=
  if d = 0 then (0, false)
  else if d < t then (t, true)
  else if len * t - t < d then (len * t - t, true)
  else (d, false)

/-- Step 6 for one line: a length written takes effect, then the clamp test, then a delay that no running crossfade holds back. Where a new
length makes the line fill, or its clamp moves the target of a running crossfade, no rule gives the course of the crossfade: the model ends
it where the line fills, and lets it run on to the clamped delay where the history is unbroken (log entry 58). -/
def State.lineStep6 (s : State) (l : Nat) : State :=
  let x := s.line l
  let t := s.tickLen
  let ask := if x.fadeLeft = 0 then x.want else none
  let d := match ask with | some d => d | none => x.delay
  match x.wantLen with
  | some n =>
    let kept := decide (x.w < n * t)
    let w := if kept then x.w else x.w % (n * t)
    let c := clampDelay n t d
    let y := { x with len := n, w := w, wantLen := none, want := if ask.isSome then none else x.want }
    let u := if kept && decide (c.1 ≤ w) then
        (if c.1 = x.delay then { y with since := min x.since w }
         else if x.fadeLeft ≠ 0 then { y with since := min x.since w, delay := c.1 }
         else { y with since := min x.since w, old := x.delay, delay := c.1, fadeLen := s.rdF RNG_XFADE 5 0 + 1,
                       fadeLeft := s.rdF RNG_XFADE 5 0 + 1 })
      else { y with since := 0, delay := c.1, fadeLeft := 0 }
    (s.setLine l u).when c.2 (fun t => t.rngFlag 0)
  | none =>
    match ask with
    | none => s
    | some _ =>
      let c := clampDelay x.len t d
      let y := { x with want := none }
      let u := if c.1 = x.delay then y
        else { y with old := x.delay, delay := c.1, fadeLen := s.rdF RNG_XFADE 5 0 + 1, fadeLeft := s.rdF RNG_XFADE 5 0 + 1 }
      (s.setLine l u).when c.2 (fun t => t.rngFlag 0)
/-- Step 6 of R25. -/
def State.step6 (s : State) : State := foldS (fun t l => t.lineStep6 l) s (s.graph.lines.map (·.1))

/-- A boundary for one line: one tick less of a running crossfade; the block of the ending tick's output strip takes its place in the ring. -/
def LineState.tickEnd (x : LineState) (t : Nat) (due : Bool) : LineState :=
  if due then { x with fadeLeft := x.fadeLeft - 1, pend := some x.w, w := (x.w + t) % (x.len * t), since := min (x.since + t) (x.len * t) }
  else { x with fadeLeft := x.fadeLeft - 1, pend := none }
/-- A boundary for every line (R125). -/
def State.lineFades (s : State) : State :=
  { s with graph := { s.graph with
      lines := s.graph.lines.map (fun (p : Nat × LineState) => (p.1, p.2.tickEnd s.tickLen s.graph.pipe.stripsDue))
      pipe := { s.graph.pipe with stripsDue := false } } }

/-- DELAY_FADE_END: a crossfade in its last tick has ended; the coming boundary applies the delay that waited for it (step 6). -/
def execDelayFadeEnd (line : Nat) (s : State) : Host.Outcome State Fault Refusal :=
  doneCore s (if (s.line line).fadeLeft = 1 then s.setLine line { s.line line with fadeLeft := 0 } else s)

/-- The effect of RNG_DLY_SET. -/
def State.rngDlySet (s : State) (v : W32) : State :=
  let l := fld v 31 20
  if s.struct.lines.length ≤ l then s.rngFlag 1 else s.setLine l { s.line l with want := some (fld v 19 0) }
/-- The effect of RNG_LEN_SET. -/
def State.rngLenSet (s : State) (v : W32) : State :=
  let l := fld v 31 20
  match s.lineInfo l with
  | none => s.rngFlag 1
  | some i =>
    if fld v 15 0 < 2 ∨ i.size < fld v 15 0 then s.rngFlag 1 else s.setLine l { s.line l with wantLen := some (fld v 15 0) }

/-- The bytes of a block of samples as the ring store keeps them. -/
def blockBytes (xs : List Int) : List Byte := xs.flatMap (fun x => leBytes 4 (uwrap 32 x))
/-- The samples of a run of 32-bit words. -/
def wordSamples (bs : List Byte) : Nat → List Int
  | 0 => []
  | n + 1 => sext 32 (leAt bs 0 4) :: wordSamples (bs.drop 4) n

/-- The tap of a line at a delay of a tick or more, and whether it holds flagged silence: samples older than the history read zero; a poisoned
word reads zero, flagged. With no delay the line passes its input, which no tap holds. -/
def State.tap (s : State) (i : LineInfo) (x : LineState) (d : Nat) : State × List Int × Bool :=
  let t := s.tickLen
  let ring := x.len * t
  if d = 0 then (s, [], false)
  else if x.since + t ≤ d then (s, fullTick t [], false)
  else
    let p := (x.w + ring - d) % ring
    let m := min t (ring - p)
    let r := s.engineRead (i.base + 4 * p) (4 * m) 7 true
    let q := if m < t then r.1.engineRead i.base (4 * (t - m)) 7 true else (r.1, [], false)
    let ys := wordSamples (r.2.1 ++ q.2.1) t
    (q.1, (upFrom 0 t).map (fun k => if d - k ≤ x.since then nth 0 ys k else 0), r.2.2 || q.2.2)

/-- What a line delivers of its input block and its taps. -/
def lineBlend (t : Nat) (raw : List Int × List Int × Nat × Nat) (block : List Int) : List Int :=
  let through (a : List Int) : List Int := if a.isEmpty then block else a
  fadeOr t raw.2.2.1 raw.2.2.2 (through raw.1) (through raw.2.1)
/-- The output and the taps of a line for the running tick. -/
def State.setTap (s : State) (l : Nat) (raw : Option (List Int × List Int × Nat × Nat)) (out : List Int) : State :=
  let p := s.graph.pipe
  { s with graph := { s.graph with pipe := { p with taps := spPut p.taps l out,
                                                    tapRaw := match raw with | some r => spPut p.tapRaw l r | none => spDel p.tapRaw l } } }

/-- The closing of a delay line's tick: the block of its strip is written, and reaches the output where the line passes it. -/
def State.lineClose (s : State) (l : Nat) (i : LineInfo) : State :=
  let t := s.tickLen
  let x := s.line l
  let block := fullTick t (spGet [] s.graph.pipe.outStrip i.src)
  match x.pend with
  | none => s
  | some p =>
    let s := if p < x.len * t then s.engineWrite (i.base + 4 * p) (blockBytes block) else s
    let s := s.setLine l { x with pend := none }
    match spFind s.graph.pipe.tapRaw l with
    | some raw => s.setTap l none (lineBlend t raw block)
    | none => s

/-- One delay line's reads for a tick: its tap, both taps while a crossfade runs; a late fetch gives zero (R24, R30). -/
def State.lineFetch (s : State) (l : Nat) (i : LineInfo) (late : Bool) : State :=
  let t := s.tickLen
  let x := s.line l
  let isLate := late && (decide (0 < x.delay) || (decide (0 < x.fadeLeft) && decide (0 < x.old)))
  if isLate then (s.setLine l { x with late := true, silent := true }).setTap l none (fullTick t [])
  else
    let b := s.tap i x x.delay
    let a := if x.fadeLeft = 0 then (b.1, [], false) else b.1.tap i x x.old
    let raw := (a.2.1, b.2.1, x.fadeLen, x.fadeLeft)
    (a.1.setLine l { x with late := false, silent := b.2.2 || a.2.2 }).setTap l (some raw)
      (lineBlend t raw (fullTick t (spGet [] s.graph.pipe.outStrip i.src)))

/-! ## Message players (R127 to R132) -/

/-- An idle voice. -/
def idleVoice : Voice := { queue := [], play := none, lastId := 0, staged := [], delivers := false, late := false }
def State.voice (s : State) (v : Nat) : Voice := spGet idleVoice s.graph.voices v
def State.setVoice (s : State) (v : Nat) (x : Voice) : State := { s with graph := { s.graph with voices := spPut s.graph.voices v x } }

/-- The bytes of a sample of a clip format. -/
def clipWidth (f : Nat) : Nat := if f = 0 then 2 else 4
/-- A clip sample in the internal format: full scale is 1.0. -/
def clipSample (f x : Nat) : Int :=
  if f = 0 then sext 16 x * 256 else if f = 1 then sext 24 x else sext 32 x
/-- The clip samples of a run of bytes. -/
def clipSamples (f : Nat) (bs : List Byte) : Nat → List Int
  | 0 => []
  | n + 1 => clipSample f (leAt bs 0 (clipWidth f)) :: clipSamples f (bs.drop (clipWidth f)) n

/-- Whether a clip table entry is valid and its samples lie in the clip region (R127, R130). -/
def clipValid (st : Structure) (e : List Byte) : Bool :=
  let addr := leAt e 0 8
  let len := leAt e 8 4
  let f := leAt e 12 1
  leAt e 13 3 == 0 && addr % 64 == 0 && decide (st.clipBase + 2 ^ 20 ≤ addr) && decide (addr < st.clipBase + st.clipSize)
    && decide (1 ≤ len) && decide (f ≤ 2) && decide (addr + len * clipWidth f ≤ st.clipBase + st.clipSize)

/-- The head of a voice's queue starts: the entry is latched, or the announcement ends at once. While the channels are frozen no entry can be
read; R129 and R352 do not say what becomes of the announcement, and the model lets it wait in its queue (log entry 59). -/
def State.voiceStart (s : State) (v : Nat) : State :=
  let x := s.voice v
  match x.queue with
  | [] => s
  | a :: q =>
    if s.dram.frozen then s
    else
      let r := s.engineRead (s.struct.clipBase + 16 * a.clip) 16 7 true
      let t := r.1
      if clipValid t.struct r.2.1 then
        t.setVoice v { x with queue := q, lastId := a.id,
                              play := some { ann := a, addr := leAt r.2.1 0 8, length := leAt r.2.1 8 4, format := leAt r.2.1 12 1,
                                             pos := 0, left := a.repeats, stopping := false } }
      else ((t.setVoice v { x with queue := q }).count RNG_ANN_REFUSED 1).rngFlag 2

/-- A play that has come to its clip's end, or that was stopped: it repeats, counts as done, or is gone. -/
def State.voiceEnd (s : State) (v : Nat) : State :=
  let x := s.voice v
  match x.play with
  | none => s
  | some p =>
    if p.stopping then s.setVoice v { x with play := none }
    else if p.pos < p.length then s
    else if p.left = 0 then (s.setVoice v { x with play := none }).count RNG_ANN_DONE 1
    else s.setVoice v { x with play := some { p with pos := 0, left := if p.ann.repeats = 0xFFFF then p.left else p.left - 1 } }

/-- PLAY_END: the clip has come to its last sample. A repetition, or the next entry, starts with the coming boundary. -/
def execPlayEnd (voice : Nat) (s : State) : Host.Outcome State Fault Refusal :=
  doneCore s (
    match (s.voice voice).play with
    | some p =>
      if p.length ≤ p.pos ∧ p.stopping = false then s.voiceEnd voice else s
    | none => s)

/-- A voice stages the block of the next mix (R123). -/
def State.voiceStage (s : State) (v : Nat) : State :=
  let s := s.voiceEnd v
  let s := if (s.voice v).play.isNone then s.voiceStart v else s
  let x := s.voice v
  match x.play with
  | none => s.setVoice v { x with staged := [], delivers := false }
  | some p =>
    let n := min s.tickLen (p.length - p.pos)
    let r := s.engineRead (p.addr + p.pos * clipWidth p.format) (n * clipWidth p.format) 7 true
    r.1.setVoice v { x with staged := clipSamples p.format r.2.1 n, delivers := true, play := some { p with pos := p.pos + n } }

/-- The block a voice gives to the mix of this tick: faded to zero where the announcement was stopped. -/
def voiceBlock (t : Nat) (x : Voice) : List Int :=
  match x.play with
  | some p => if p.stopping then fadeTick t 1 0 x.staged [] else fullTick t x.staged
  | none => fullTick t x.staged

/-- A late fetch of a voice: the mix of the tick takes zero. -/
def State.voiceLate (s : State) (v : Nat) (late : Bool) : State :=
  let x := s.voice v
  s.setVoice v (if late && x.delivers then { x with staged := [], delivers := false, late := true } else { x with late := false })

/-- The place of an announcement in a queue ordered by priority, then by sequence number. -/
def enqueue (a : Announce) : List Announce → List Announce
  | [] => [a]
  | b :: q => if a.pri < b.pri ∨ (a.pri = b.pri ∧ a.seq < b.seq) then a :: b :: q else b :: enqueue a q

/-- The effect of an ANNOUNCE (R128, R129); whether it was taken. -/
def State.announce (s : State) (seq : Nat) (a0 a1 a2 : W32) : State × Bool :=
  let v := fld a0 25 16
  if s.struct.voices ≤ v ∨ fld a0 31 30 ≠ 0 ∨ fld a2 31 16 ≠ 0 then ((s.count RNG_ANN_REFUSED 1).rngFlag 4, false)
  else
    let x := s.voice v
    if 32 ≤ x.queue.length then ((s.count RNG_ANN_REFUSED 1).rngFlag 3, false)
    else
      let a : Announce := { clip := fld a0 15 0, pri := fld a0 29 26, id := a1, repeats := fld a2 15 0, seq := seq }
      let t := s.setVoice v { x with queue := enqueue a x.queue }
      (if x.play.isNone then t.voiceStart v else t, true)

/-- RNG_PLY_CANCEL, mode 1: the playing announcement stops with a one-tick fade. -/
def State.cancelStop (s : State) (v : Nat) : State :=
  let x := s.voice v
  match x.play with
  | some p => if p.stopping then s else (s.setVoice v { x with play := some { p with stopping := true } }).count RNG_ANN_CANCELLED 1
  | none => s
/-- Mode 2: every queued entry is removed. -/
def State.cancelQueue (s : State) (v : Nat) : State :=
  let x := s.voice v
  (s.setVoice v { x with queue := [] }).count RNG_ANN_CANCELLED x.queue.length
/-- The effect of RNG_PLY_CANCEL. -/
def State.rngCancel (s : State) (v : W32) : State :=
  let k := fld v 25 16
  let m := fld v 1 0
  if m = 0 ∨ s.struct.voices ≤ k then s.rngFlag 1
  else if m = 1 then s.cancelStop k
  else if m = 2 then s.cancelQueue k
  else (s.cancelStop k).cancelQueue k

/-! ## Recorders (R133 to R135) -/

/-- A recorder channel with nothing recorded. -/
def noRecorder : Recorder :=
  { ticks := 0, firstTick := 0, gated := false, flagged := false, skipped := false, buf := [], segs := [], nextOff := 0 }
def State.recorder (s : State) (c : Nat) : Recorder := spGet noRecorder s.graph.recs c
def State.setRecorder (s : State) (c : Nat) (x : Recorder) : State := { s with graph := { s.graph with recs := spPut s.graph.recs c x } }
/-- The image's recorder channel c. -/
def State.recInfo (s : State) (c : Nat) : Option RecInfo := (s.struct.recs.drop c).head?

/-- The payload bytes of a segment. -/
def recPayload (format : Nat) (r96 : Bool) : Nat :=
  if format = 0 then (if r96 then 2880 else 1440) else if format = 1 then (if r96 then 1920 else 960) else 320
/-- A segment's payload: the conversions are free values (log entry 5). -/
def recBytes (format : Nat) (xs : List Int) : List Byte :=
  if format = 0 then xs.flatMap (fun x => leBytes 3 (Config.recFull x))
  else if format = 1 then xs.flatMap (fun x => leBytes 2 (Config.recWide x))
  else (upFrom 0 320).map (fun i => Config.recSpeech xs i)

/-- The segments of a region after one of `len` bytes has been stored: behind the last one, or at the region's start where it does not fit there;
those it overwrites, the oldest, are gone. A region smaller than a segment holds none. Returns the place too. -/
def segPut (size : Nat) (x : Recorder) (len : Nat) : List RecSeg × Nat :=
  let a := if x.nextOff + len ≤ size then x.nextOff else 0
  if size < len then (x.segs, 0)
  else (x.segs.filter (fun g => decide (g.off + g.len ≤ a) || decide (a + len ≤ g.off)) ++ [{ tick := x.firstTick, off := a, len := len }], a)
/-- The end of a segment of 30 ticks: stored where the gate was open in one of them, over the oldest in a full region. -/
def State.segmentEnd (s : State) (c : Nat) : State :=
  let x := s.recorder c
  match s.recInfo c with
  | none => s
  | some i =>
    if x.ticks < 30 then s
    else if !x.gated then s.setRecorder c { x with ticks := 0, gated := false, flagged := false, skipped := true, buf := [] }
    else
      let pay := recBytes i.format x.buf
      let len := 16 + recPayload i.format s.rate96
      let head := leBytes 8 x.firstTick ++ leBytes 2 c ++ leBytes 1 i.format ++ leBytes 1 (b01 x.skipped + 2 * b01 x.flagged)
        ++ leBytes 4 (crc32c pay).toNat
      let g := segPut i.size x len
      let y := { x with ticks := 0, gated := false, flagged := false, skipped := false, buf := [] }
      if i.size < len then s.setRecorder c y
      else (s.engineWrite (i.base + g.2) (head ++ pay)).setRecorder c { y with segs := g.1, nextOff := g.2 + len }

/-- RECORDER_SEGMENT_END: a channel whose segment has had its 30 ticks. -/
def execRecorderSegmentEnd (ch : Nat) (s : State) : Host.Outcome State Fault Refusal := doneCore s (s.segmentEnd ch)

/-- Whether a recorder channel records the coming tick: one whose segment is closed starts none while RNG_REC_FREEZE holds its bit (R133). -/
def State.recDue (s : State) (c : Nat) : Bool :=
  !((s.recorder c).ticks % 30 == 0 && s.bit (RNG_REC_FREEZE (c / 32)) (c % 32))
/-- Whether the source of a recorder channel carries flagged silence in the frame that is emitted: a delay line whose fetch was late or held a
poisoned word (R134). -/
def State.srcSilent (s : State) : SinkSrc → Bool
  | .line l => (s.line l).silent
  | _ => false
/-- One recorder channel in a tick: a late read of its own records zeros (R30); those, and the flagged silence of its source, mark the segment. -/
def State.recorderRun (s : State) (c : Nat) (i : RecInfo) (xs : List Int) (late : Bool) : State :=
  let due := s.recDue c
  let s := s.segmentEnd c
  let x := s.recorder c
  if !due then s
  else
    s.setRecorder c { x with
      firstTick := if x.ticks = 0 then s.tickN else x.firstTick
      ticks := x.ticks + 1
      gated := x.gated || s.gateOpen i.gate
      flagged := x.flagged || late || s.srcSilent i.src
      buf := x.buf ++ (if late then fullTick s.tickLen [] else fullTick s.tickLen xs) }

/-- The specific conditions of a RECORDER_EXPORT, in the order of its table; 0 where it may run. -/
def State.exportError (s : State) (args : List W32) : Nat :=
  if bitOf (s.sys.straps.setWidth 32) 0 then 0x40
  else match (s.recorder (fld (nth 0 args 0) 8 0)).segs.head? with
    | some g => if (w32 g.tick - nth 0 args 1) ≠ 0 ∧ (w32 g.tick - nth 0 args 1).toNat < 2 ^ 31 then 0x41 else 0
    | none => 0

/-- The segments an export copies: from the first one at or after JOB_ARG1 on, as many as asked for. -/
def State.exportPlan (s : State) (args : List W32) : List Nat :=
  let from' := nth 0 args 1
  let segs := ((s.recorder (fld (nth 0 args 0) 8 0)).segs.map (·.tick)).filter (fun t => decide ((w32 t - from').toNat < 2 ^ 31))
  let n := fld (nth 0 args 0) 31 16
  if n = 0 then segs else segs.take n

/-- One segment is copied, or skipped where it has been overwritten. -/
def State.exportOne (s : State) : State :=
  match s.graph.dma with
  | none => s
  | some d =>
    match d.plan with
    | [] => s
    | t :: ts =>
      let next (d : DmaWork) (s : State) : State :=
        { s with graph := { s.graph with dma := some { d with plan := ts } } }.jobProgress d.slot (d.copied + d.skipped)
      match ((s.recorder d.chan).segs.filter (fun g => g.tick == t)).head?, s.recInfo d.chan with
      | some g, some i =>
        let r := s.engineRead (i.base + g.off) g.len 2 false
        let host := d.addr
        next { d with copied := d.copied + 1, bytes := d.bytes + g.len, addr := d.addr + g.len,
                      first := if d.copied = 0 then w32 t else d.first } (r.1.emit (.dma host r.2.1))
      | _, _ => next { d with skipped := d.skipped + 1 } ((s.count RNG_REC_SKIPS 1).rngFlag 5)

/-- The result words of an export. -/
def exportResult (d : DmaWork) : List W32 := [w32 d.copied, w32 d.bytes, d.first, w32 d.skipped]

/-- RECORDER_EXPORT: the slot's job begins where it can, then copies up to `n` segments; with none left its work has ended. -/
def execRecorderExport (slot : Fin 16) (n : Nat) (s : State) : Host.Outcome State Fault Refusal :=
  doneCore s (
    let k := slot.val
    let s0 := s.jobTryBegin k
    if !s0.runsJob k 9 || (s0.slot k).fin.isSome then s0
    else if s0.dram.frozen then s0.jobEnd k 0x05
    else
      let args := (s0.slot k).args
      let w : DmaWork :=
        { slot := k, chan := fld (nth 0 args 0) 8 0, plan := s0.exportPlan args, addr := (cat64 (nth 0 args 3) (nth 0 args 2)).toNat,
          copied := 0, bytes := 0, first := 0, skipped := 0 }
      let s1 := if s0.graph.dma.isNone then { s0 with graph := { s0.graph with dma := some w } } else s0
      let s2 := timesN State.exportOne n s1
      match s2.graph.dma with
      | some d => if d.plan.isEmpty then ({ s2 with graph := { s2.graph with dma := none } }.resultWrite k (exportResult d)).jobFin k 0 else s2
      | none => s2)

/-! ## The path of samples through a tick -/

/-- What feeds a port input in the closed ingest. -/
def findBlock : List (PortSrc × List Int) → PortSrc → List Int
  | [], _ => []
  | (p, xs) :: ps, q => if p = q then xs else findBlock ps q

/-- The strip outputs of the frame the cores work on next: pass-through of the port inputs (R115). -/
def passStrips (st : Structure) (inp : List (PortSrc × List Int)) (t : Nat) : Sparse (List Int) :=
  foldS (fun m (p : Nat × PortSrc) => spPut m p.1 (fullTick t (findBlock inp p.2))) [] st.strips

/-- The output strips of the frame: pass-through of the matrix outputs and output-side selectors. -/
def passOuts (st : Structure) (mix sels : Sparse (List Int)) (t : Nat) : Sparse (List Int) :=
  foldS (fun m (p : Nat × OutSrc) => spPut m p.1 (fullTick t (match p.2 with
    | .mo o => spGet [] mix o
    | .sel k => spGet [] sels k))) [] st.outStrips

/-- The samples of a candidate in the mix of a tick. -/
def State.candBlock (s : State) (mix : Sparse (List Int)) : CandSrc → List Int
  | .strip i => spGet [] s.graph.pipe.stripOut i
  | .voice v => voiceBlock s.tickLen (s.voice v)
  | .bus o => spGet [] mix o
  | .mo o => spGet [] mix o
/-- The samples of a choice of a selector; silence is zero. -/
def State.choiceBlock (s : State) (mix : Sparse (List Int)) (i : SelInfo) (c : Option Nat) : List Int :=
  match c with
  | none => []
  | some k => match (i.cands.drop k).head? with
    | some c => s.candBlock mix c.src
    | none => []
/-- A selector's samples. -/
def State.selBlock (s : State) (mix : Sparse (List Int)) (k : Nat) (i : SelInfo) : List Int :=
  let x := s.sel k
  fadeOr s.tickLen x.fadeLen x.fadeLeft (s.choiceBlock mix i x.prev) (s.choiceBlock mix i x.live)

/-- The samples each matrix input carries (R116, R118): a bus return carries its output's last mix. -/
def State.matrixInputs (s : State) : Sparse (List Int) :=
  let t := s.tickLen
  foldS (fun m (p : Nat × MiSource) => spPut m p.1 (fullTick t (match p.2 with
    | .none => []
    | .strip i => spGet [] s.graph.pipe.stripOut i
    | .voice v => voiceBlock t (s.voice v)
    | .bus o => spGet [] s.graph.pipe.mixOut o
    | .sel k => match s.selInfo k with
      | some i => s.selBlock s.graph.pipe.mixOut k i
      | none => []))) [] s.struct.miSrc

/-- The mix of a tick, and the output-side selectors after it. -/
def State.mixTick (s : State) : State :=
  let x := s.matrixInputs
  let u := s.canopyMix x (s.withSignatures x)
  let sels := (foldS (fun (p : Sparse (List Int) × Nat) (i : SelInfo) =>
    (if i.outSide then spPut p.1 p.2 (u.selBlock u.graph.pipe.mixOut p.2 i) else p.1, p.2 + 1)) ([], 0) u.struct.selectors).1
  { u with graph := { u.graph with pipe := { u.graph.pipe with outSel := sels } } }

/-- The samples of a sink's source in the frame that is emitted. -/
def State.sinkBlock (s : State) : SinkSrc → List Int
  | .mo o => fullTick s.tickLen (spGet [] s.graph.pipe.moHold o)
  | .strip o => fullTick s.tickLen (spGet [] s.graph.pipe.outStrip o)
  | .line l => fullTick s.tickLen (spGet [] s.graph.pipe.taps l)

/-- One of the causes of R32 stood in the ending tick: a freeze, a catch-up of more than eight refreshes, or, in TEST mode, a locked sequence on a
DRAM channel or the pool. -/
def State.lateCause (s : State) : Bool := s.dram.frozen || s.dram.ch0.overTick || s.dram.ch1.overTick || s.trk.lockTick
/-- The ring objects late in the running tick: those found late, and all of them under a freeze (R352). -/
def State.isLate (s : State) (late : List RingObj) (o : RingObj) : Bool := s.dram.frozen || late.contains o

/-- The objects whose read for the tick is due and late (R30). -/
def State.lateDue (s : State) (late : List RingObj) : Nat :=
  (s.graph.lines.filter (fun p => (decide (0 < p.2.delay) || (decide (0 < p.2.fadeLeft) && decide (0 < p.2.old)))
    && s.isLate late (.line p.1))).length
  + (s.graph.voices.filter (fun p => p.2.delivers && s.isLate late (.voice p.1))).length
  + ((upFrom 0 s.struct.recs.length).filter (fun c => s.recDue c && s.isLate late (.chan c))).length

/-- The reads of every delay line for a tick, whose output strips are to be closed. -/
def State.lineReads (s : State) (late : List RingObj) : State :=
  let s := (foldS (fun (p : State × Nat) (i : LineInfo) => (p.1.lineFetch p.2 i (s.isLate late (.line p.2)), p.2 + 1)) (s, 0) s.struct.lines).1
  { s with graph := { s.graph with pipe := { s.graph.pipe with stripsDue := true } } }

/-- The emit of a tick: the delay lines take their blocks, the sinks take their blocks, the recorders record. `mute` replaces every emitted sample with zero. -/
def State.emitTick (s : State) (late : List RingObj) (mute : Bool) : State :=
  let s := (foldS (fun (p : State × Nat) (i : LineInfo) => (p.1.lineClose p.2 i, p.2 + 1)) (s, 0) s.struct.lines).1
  let block (src : SinkSrc) : List Int := if mute then fullTick s.tickLen [] else s.sinkBlock src
  let outs := s.struct.sinks.map (fun p => (p.1, block p.2))
  let s := { s with graph := { s.graph with pipe := { s.graph.pipe with
    emitted := (s.graph.pipe.emitted.filter (fun e => decide (s.tickN ≤ e.1 + 12))) ++ [(s.tickN + 1, outs)] } } }
  (foldS (fun (p : State × Nat) (i : RecInfo) =>
    (p.1.recorderRun p.2 i (block i.src) (s.isLate late (.chan p.2)), p.2 + 1)) (s, 0) s.struct.recs).1

/-! ## Loading (R120, R121, R136) -/

/-- A selector as phase 2 leaves it. -/
def selInit (live shadow : ParamBank) (k : Nat) (i : SelInfo) : SelState :=
  if i.priority then { noSel with live := i.idle, fadeLen := i.fade }
  else
    let a := spGet (0, 1) live.sels k
    let b := spGet (0, 1) shadow.sels k
    { noSel with live := some a.1, pos := a.1, fade := a.2, fadeLen := a.2, shadowPos := b.1, shadowFade := b.2 }

/-- The priority table of the SELECTOR section. -/
def prisInit : List SelInfo → Nat → Sparse PriEntry
  | [], _ => []
  | i :: is, k => (foldS (fun (p : Sparse PriEntry × Nat) (c : Cand) => (p.1 ++ [(k * 16 + p.2, { en := c.en, pri := c.pri })], p.2 + 1))
      ([], 0) i.cands).1 ++ prisInit is (k + 1)

/-- The graph after phase 2 of a load of a structure; `old` is the structure that ran: a recorder whose region keeps its place keeps its
segments. -/
def graphInit (g : GraphSt) (old st : Structure) : GraphSt :=
  { contacts := g.contacts, ptts := g.ptts, dma := none,
    sels := (foldS (fun (p : Sparse SelState × Nat) i => (p.1 ++ [(p.2, selInit st.live st.shadow p.2 i)], p.2 + 1)) ([], 0) st.selectors).1,
    pris := prisInit st.selectors 0,
    lines := (foldS (fun (p : Sparse LineState × Nat) (i : LineInfo) =>
      (p.1 ++ [(p.2, { noLine with len := i.len, delay := i.delay })], p.2 + 1)) ([], 0) st.lines).1,
    voices := (upFrom 0 st.voices).map (fun v => (v, idleVoice)),
    recs := (foldS (fun (p : Sparse Recorder × Nat) (i : RecInfo) =>
      let x := match (old.recs.drop p.2).head? with
        | some o => if o.base = i.base ∧ o.size = i.size then
            { spGet noRecorder g.recs p.2 with ticks := 0, buf := [], gated := false, flagged := false } else noRecorder
        | none => noRecorder
      (p.1 ++ [(p.2, x)], p.2 + 1)) ([], 0) st.recs).1,
    pipe := { gather := [], portIn := [], stripOut := [], mixOut := [], moHold := [], outSel := [], outStrip := [], taps := [], tapRaw := [], stripsDue := true, emitted := [] } }

/-! ## Read-back (R137, R139) -/

/-- The layout of GRF_MI_SRC. -/
def miWord : MiSource → W32
  | .none => 0
  | .strip i => w32 (2 ^ 28 + i)
  | .voice v => w32 (2 * 2 ^ 28 + v)
  | .bus o => w32 (3 * 2 ^ 28 + o)
  | .sel k => w32 (4 * 2 ^ 28 + k)
/-- The layout of GRF_CAND_SRC. -/
def candWord : CandSrc → W32
  | .strip i => w32 (2 ^ 28 + i)
  | .voice v => w32 (2 * 2 ^ 28 + v)
  | .bus o => w32 (3 * 2 ^ 28 + o)
  | .mo o => w32 o
/-- A gate's kind and index. -/
def gateWord : Gate → Nat × Nat
  | .always => (0, 0) | .detector d => (1, d) | .voice v => (2, v) | .contact c => (3, c) | .host g => (4, g) | .ptt m => (5, m)
  | .reserved k => (k, 0)
/-- The source of a matrix input. -/
def findMi : List (Nat × MiSource) → Nat → MiSource
  | [], _ => .none
  | (k, x) :: ms, n => if k = n then x else findMi ms n

/-- GRF_SEL_STATE of a selector. -/
def selWord (i : SelInfo) (x : SelState) : W32 :=
  let idleNo := i.idle.getD 0
  let liveIdle := i.priority && x.live == i.idle
  let heldIdle := i.priority && x.held == some i.idle
  let second := if i.priority then (match x.held with | some h => (if heldIdle then idleNo else h.getD 0) | none => 0) else x.shadowPos
  w32 ((if liveIdle then idleNo else x.live.getD 0) + second * 16 + x.fadeLeft * 2 ^ 8 + b01 (x.fadeLeft != 0) * 2 ^ 15
    + b01 (i.priority && x.held.isSome) * 2 ^ 16 + b01 liveIdle * 2 ^ 17 + b01 heldIdle * 2 ^ 18)

/-- The computed registers of GRF. -/
def State.grfView (s : State) (off : Nat) : Option W32 :=
  let k := s.rdF GRF_SEL_RSEL 10 0
  let c := s.rdF GRF_CAND_RSEL 3 0
  let info := s.selInfo k
  let cand : Option Cand := match info with | some i => (i.cands.drop c).head? | none => none
  if off = 0x10 then some (w32 (s.struct.miSrc.filter (fun p => p.2 != .none)).length)
  else if off = 0x14 then some (w32 s.struct.moUsed)
  else if off = 0x18 then some (w32 s.selCount)
  else if off = 0x24 then some (miWord (findMi s.struct.miSrc (s.rdF GRF_MI_RSEL 12 0)))
  else if off = 0x2C then some (match info with
    | none => 0
    | some i => w32 (b01 i.priority * 2 ^ 31 + b01 i.outSide * 2 ^ 30 + i.target * 2 ^ 16 + (i.cands.length - 1) * 2 ^ 12
        + (if i.priority then i.idle.getD 0 * 2 ^ 8 + b01 i.idle.isNone * 2 ^ 7 + (i.fade - 1) else 0)))
  else if off = 0x30 then some (match info with | none => 0 | some i => selWord i (s.sel k))
  else if off = 0x44 then some (match cand with | some c => candWord c.src | none => 0)
  else if off = 0x48 then some (match cand with | some c => w32 ((gateWord c.gate).1 * 2 ^ 29 + (gateWord c.gate).2) | none => 0)
  else if off = 0x4C then some (match cand with | some _ => w32 (b01 (s.pri k c).en * 16 + (s.pri k c).pri) | none => 0)
  else none

/-- The computed registers of RNG. -/
def State.rngView (s : State) (off : Nat) : Option W32 :=
  let l := s.rdF RNG_DLY_RSEL 11 0
  let x := s.line l
  let li := s.lineInfo l
  let v := s.voice (s.rdF RNG_PLY_RSEL 9 0)
  let c := s.rdF RNG_REC_RSEL 8 0
  let r := s.recorder c
  if off = 0x10 then some (w32 s.struct.lines.length)
  else if off = 0x14 then some (w32 s.struct.voices)
  else if off = 0x18 then some (w32 s.struct.recs.length)
  else if off = 0x2C then some (match li with | some _ => w32 x.delay | none => 0)
  else if off = 0x30 then some (match li with | some i => w32 (x.len + i.size * 65536) | none => 0)
  else if off = 0x34 then some (match li with
    | some _ => w32 (x.w + b01 (x.fadeLeft != 0) * 2 ^ 20 + b01 (decide (x.since < x.delay)) * 2 ^ 21 + b01 x.late * 2 ^ 22)
    | none => 0)
  else if off = 0x38 then some (w32 (s.struct.clipBase / 65536))
  else if off = 0x44 then some (match v.play with
    | some p => w32 ((if p.stopping then 2 else 1) * 2 ^ 30 + v.queue.length * 2 ^ 24 + p.ann.pri * 2 ^ 20 + b01 v.late * 2 ^ 16 + p.ann.clip)
    | none => w32 (v.queue.length * 2 ^ 24 + b01 v.late * 2 ^ 16))
  else if off = 0x48 then some v.lastId
  else if off = 0x4C then some (match v.play with | some p => w32 p.left | none => 0)
  else if off = 0x60 then some (match s.recInfo c with
    | some i => w32 (i.format * 2 ^ 30 + (gateWord i.gate).1 * 2 ^ 27 + (gateWord i.gate).2)
    | none => 0)
  else if off = 0x64 then some (match r.segs.head? with | some p => w32 p.tick | none => 0)
  else if off = 0x68 then some (match r.segs.getLast? with | some p => w32 p.tick | none => 0)
  else none

end Sys2Proof.Machine
end

