-- ==== Sys2Proof/Machine/FullerHost.lean ====
section
/-! DEFINITION. The Fuller cores seen from outside (R203 to R206, R229 to R237): the tick entry, hand-off and inbound halves, overruns,
error findings, and the host's accesses to the memories. -/

namespace Sys2Proof.Machine

/-! ## Tick entry and judgement (R203, R229, R31, R235) -/

/-- The tick entry of a core: PC 0, both stacks empty, Z, N and V clear, cycle 0. -/
def Core.entry (c : Core) : Core :=
  { c with pc := 0, loops := [], calls := [], z := false, n := false, v := false, cycles := 0, active := decide (0 < c.len) && !c.dead,
           tended := false, overran := false, recOvf := false, recWrap := false, recIll := false, late := none, esats := 0 }

/-- A core in a tick that no stage starts (R98, R504): nothing runs and nothing is recorded. -/
def Core.rest (c : Core) : Core := { c with active := false, tended := false, overran := false, recOvf := false, recWrap := false, recIll := false, late := none }

/-- The TCK_OVR bit of a core. -/
def State.ovrBit (s : State) (k : Nat) : State := if k < 32 then s.flag TCK_OVR_LO k else s.flag TCK_OVR_HI (k - 32)

/-- A core that has not reached TEND when cycle 399,999 ends (R31, R33, R229); `tick` is the tick that ends with it. -/
def State.coreOverrun (tick : Nat) (s : State) (k : Nat) : State :=
  let c := s.core k
  if c.active && !c.tended && !c.overran && !c.dead then
    let t := (s.setCore k { c with overran := true }).ovrBit k
    let t := ((t.count TCK_OVR_COUNT 1).wr TCK_OVR_LAST (w32 tick)).flag TCK_STAT 2
    let t := ((t.flag (FUL_STAT k) 0).count (FUL_OVR_COUNT k) 1).wr (FUL_CYCLES k) 0x80000000
    let t := (t.flag (FUL_CYC_MAX k) 31).wr (FUL_PC k) (w32 c.pc.toNat)
    t.raiseOnce 1
  else s

/-- CORE_OVERRUN. -/
def execCoreOverrun (core : Fin 64) (s : State) : Host.Outcome State Fault Refusal := done s (s.coreOverrun s.tickN core.val)

/-- The margin of a core in the ending tick (R229); a core that was given no work, as one without a program. -/
def coreMargin (c : Core) : Nat :=
  if c.len = 0 || (!c.active && !c.dead) then 396000 else if c.active && c.tended then 396001 - c.cycles else 0

/-- TCK_MARGIN takes a smaller margin, or an equal one of a lower core. -/
def State.marginNote (s : State) (k m : Nat) : State :=
  let r := s.rd TCK_MARGIN
  if m < fld r 18 0 ∨ (m = fld r 18 0 ∧ k < fld r 29 24) then s.wr TCK_MARGIN (w32 (k * 2 ^ 24 + m)) else s

/-- Step 7 for one core: overrun, cycles, CSR, flags of the tick that ends. A dead core counts as overrun in its TCK_OVR and its FUL_STAT.OVR
bit (R231, R237). -/
def State.coreJudge (tick : Nat) (s : State) (k : Nat) : State :=
  let c0 := s.core k
  let s := if c0.dead then (s.ovrBit k).flag (FUL_STAT k) 0 else s.coreOverrun tick k
  let c := s.core k
  let s := if c.active && c.tended then
      ((s.wr (FUL_CYCLES k) (w32 c.cycles)).wr (FUL_CYC_MAX k) (putFld (s.rd (FUL_CYC_MAX k)) 18 0 (max (s.rdF (FUL_CYC_MAX k) 18 0) c.cycles))).wr
        (FUL_PC k) (w32 c.pc.toNat)
    else s
  let s := s.marginNote k (coreMargin c)
  if c.len = 0 then s
  else
    let s := s.wr (FUL_CSR k) c.csr
    if c.recOvf || c.recWrap || c.recIll then
      let st := s.rd (FUL_STAT k) ||| w32 (2 * b01 c.recOvf + 4 * b01 c.recWrap + 8 * b01 c.recIll)
      ((s.wr (FUL_STAT k) st).count (FUL_FLAG_COUNT k) 1).raiseOnce 84
    else s

/-- The cores of the machine. -/
def coreNums : List Nat := upFrom 0 64
/-- Step 7 for every core. -/
def State.judgeCores (s : State) (tick : Nat) : State := foldS (State.coreJudge tick) s coreNums
/-- The tick entry of every core. -/
def State.enterCores (s : State) : State := { s with cores := s.cores.map (fun p => (p.1, p.2.entry)) }
/-- A tick without work for the cores. -/
def State.restCores (s : State) : State := { s with cores := s.cores.map (fun p => (p.1, p.2.rest)) }
/-- P is rewritten for every core: DEAD clears (R231). -/
def State.coresRevived (s : State) : State := foldS (fun t k => t.unflag (FUL_STAT k) 5) s coreNums

/-! ## Hand-off and inbound halves (R204, R205) -/

/-- The samples at a word offset of X. -/
def Core.block (c : Core) (w t : Nat) : List Int := (upFrom 0 t).map (fun k => (spGet 0 c.x ((w + k) % 16384)).toInt)

/-- Hands a core's outbound window to the strips that the image binds: zeros after an overrun or from a dead core. -/
def State.handOff (s : State) (p : Nat × CoreInfo) : State :=
  let c := s.core p.1
  let t := s.tickLen
  let i := p.2
  if c.len = 0 then s
  else
    let get (w : Nat) : List Int := if c.overran || c.dead || !c.tended then fullTick t [] else c.block (i.winOutOff / 4 + w) t
    let a := foldS (fun m (q : Nat × Nat) => spPut m q.2 (get q.1)) s.graph.pipe.stripOut i.outStrips
    let b := foldS (fun m (q : Nat × Nat) => spPut m q.2 (get q.1)) s.graph.pipe.outStrip i.outOuts
    { s with graph := { s.graph with pipe := { s.graph.pipe with stripOut := a, outStrip := b } } }

/-- Writes a block of samples into a sparse memory of words. -/
def putBlock (m : Sparse W32) (w : Nat) (xs : List Int) : Sparse W32 := spSetAll 0 m w (xs.map i32)

/-- The far half with what the tick has brought: port inputs, matrix outputs, ring-store taps. -/
def State.inboundHalf (s : State) (i : CoreInfo) (mix : Sparse (List Int)) (far : Sparse W32) : Sparse W32 :=
  let t := s.tickLen
  let a := foldS (fun m (q : Nat × PortSrc) => putBlock m q.1 (fullTick t (findBlock s.graph.pipe.portIn q.2))) far i.inPorts
  let b := foldS (fun m (q : Nat × OutSrc) => putBlock m q.1 (fullTick t (match q.2 with
    | .mo o => spGet [] mix o
    | .sel k => spGet [] s.graph.pipe.outSel k))) a i.inMos
  foldS (fun m (q : Nat × Nat) => putBlock m q.1 (fullTick t (spGet [] s.graph.pipe.taps q.2))) b i.inTaps

/-- The inbound halves of a core exchange; `mix` holds the matrix outputs of the ending tick's mix. -/
def State.inbound (s : State) (mix : Sparse (List Int)) (p : Nat × CoreInfo) : State :=
  let c := s.core p.1
  let base := p.2.winInOff / 4
  let n := p.2.winInLen / 4
  let far := s.inboundHalf p.2 mix c.far
  let cur := foldS (fun m (q : Nat × W32) => if base ≤ q.1 ∧ q.1 < base + n then spSet 0 m (q.1 - base) q.2 else m) [] c.x
  let x := foldS (fun m (q : Nat × W32) => if q.1 < n then spSet 0 m (base + q.1) q.2 else m) (spClear c.x base (base + n)) far
  s.setCore p.1 { c with x := x, far := cur }

/-! ## Parameter sets at a swap (R198) -/

/-- The live and the shadow half of a core's parameter sets exchange roles. -/
def Core.setSwap (c : Core) (i : CoreInfo) : Core :=
  let b := i.setOff / 4
  let l := i.setLen / 4
  if l = 0 then c
  else
    let rest := spClear c.y b (b + 2 * l)
    let y := foldS (fun m (q : Nat × W32) =>
      if b ≤ q.1 ∧ q.1 < b + l then spSet 0 m (q.1 + l) q.2
      else if b + l ≤ q.1 ∧ q.1 < b + 2 * l then spSet 0 m (q.1 - l) q.2 else m) rest c.y
    { c with y := y }
/-- The parameter sets of every core exchange. -/
def State.setsSwap (s : State) : State := foldS (fun t (p : Nat × CoreInfo) => t.setCore p.1 ((t.core p.1).setSwap p.2)) s s.struct.cores

/-! ## Error findings and the scrub (R231, R232) -/

/-- One finding in a core's memories. -/
def State.fulEcc (s : State) (e : FulEcc) : State :=
  let k := e.core.val
  let c := s.core k
  let ue : Bool := e.kind == .uncorrectable
  let s := s.wr (FUL_ECC_ADDR k) (w32 (e.mem.val * 2 ^ 30 + b01 ue * 2 ^ 29 + 8 * e.word.val))
  if !ue then s.count (FUL_CE_COUNT k) 1
  else
    let w := 2 * e.word.val
    let zero (m : Sparse W32) : Sparse W32 := spSet 0 (spSet 0 m w 0) (w + 1) 0
    let s := if e.mem.val = 0 then (s.setCore k { c with dead := true, active := false }).flag (FUL_STAT k) 5
      else if e.mem.val = 1 then s.setCore k { c with x := zero c.x }
      else s.setCore k { c with y := zero c.y }
    (((s.count (FUL_UE_COUNT k) 1).flag (FUL_STAT k) 4).raise 85).twinFault

/-- The scrub of a tick: 8 words of each memory of every core whose FUL_SCRUB.EN is 1. -/
def State.fulScrub (s : State) : State :=
  foldS (fun t k => if t.bit (FUL_SCRUB k) 0 then t.setCore k { t.core k with scrubPos := ((t.core k).scrubPos + 8) % 8192 } else t) s
    (s.cores.map (·.1))

/-! ## Host accesses (R53, R54, R85, R198, R234) -/

/-- Where a byte offset of a core's Y memory in the host's view lies in the core's own view: the two halves of the parameter sets trade places. -/
def hostY (i : CoreInfo) (off : Nat) : Nat :=
  if i.setOff ≤ off ∧ off < i.setOff + i.setLen then off + i.setLen
  else if i.setOff + i.setLen ≤ off ∧ off < i.setOff + 2 * i.setLen then off - i.setLen
  else off
/-- Whether a byte offset of X lies where the host must not write: either inbound half or the outbound window. -/
def heldX (i : CoreInfo) (off : Nat) : Bool :=
  (decide (i.winInOff ≤ off) && decide (off < i.winInOff + 2 * i.winInLen))
    || (decide (i.winOutOff ≤ off) && decide (off < i.winOutOff + i.winOutLen))
/-- Whether a byte offset of Y in the host's view lies in the live half. -/
def heldY (i : CoreInfo) (off : Nat) : Bool := decide (i.setOff + i.setLen ≤ off) && decide (off < i.setOff + 2 * i.setLen)
/-- A byte offset of X as the host reads it: the inbound window reads its current half. -/
def hostX (i : CoreInfo) (off : Nat) : Nat :=
  if i.winInOff + i.winInLen ≤ off ∧ off < i.winInOff + 2 * i.winInLen then off - i.winInLen else off

/-- The core, the memory (0 P, 1 X, 2 Y, 3 unmapped) and the byte offset of a host address of the Fuller memories. -/
def fulCore (addr : Nat) : Nat := (addr - 0x2000000) / 0x40000 % 64
def fulMem (addr : Nat) : Nat := addr / 0x10000 % 4
def fulOff (addr : Nat) : Nat := addr % 0x10000

/-- A word with some of its bytes replaced. -/
def mergeWord (old : W32) (width : Width) (addr : Nat) (v : W32) : W32 :=
  match width with
  | .byte => putFld old (8 * (addr % 4) + 7) (8 * (addr % 4)) v.toNat
  | .half => putFld old (8 * (addr % 4 / 2 * 2) + 15) (8 * (addr % 4 / 2 * 2)) v.toNat
  | .word => v

/-- What the check of a core's memory (0 P, 1 X, 2 Y) finds in the word of a byte offset. -/
def State.fulHit (s : State) (k mem off : Nat) : Option EccKind → State
  | some kind => s.fulEcc { core := Fin.ofNat 64 k, mem := Fin.ofNat 3 mem, word := Fin.ofNat 8192 (off / 8), kind := kind }
  | none => s
/-- The byte offset in a core's own view of an offset that the host reads. -/
def hostOff (i : CoreInfo) (mem off : Nat) : Nat := if mem = 1 then hostX i off else if mem = 2 then hostY i off else off
/-- A host or monitor read of the 32-bit word at an address of the Fuller memories. -/
def State.fulRead (s : State) (addr : Nat) (ecc : Option EccKind) : State × W32 :=
  let k := fulCore addr
  let s := if fulMem addr = 3 then s else s.fulHit k (fulMem addr) (hostOff (s.coreInfo k) (fulMem addr) (fulOff addr)) ecc
  let c := s.core k
  let i := s.coreInfo k
  let off := fulOff addr / 4 * 4
  if fulMem addr = 0 then
    let w := spGet 0 c.p (off / 8)
    (s, if off % 8 = 0 then lo32 w else hi32 w)
  else if fulMem addr = 1 then (s, spGet 0 c.x (hostX i off / 4))
  else if fulMem addr = 2 then (s, spGet 0 c.y (hostY i off / 4))
  else (s.unmappedAt addr, 0)

/-- A host write to the Fuller memories; `hit.collide`: the core writes the same ECC word in the same cycle (R233). -/
def State.fulWrite (s : State) (addr : Nat) (width : Width) (v : W32) (hit : WriteHit) : State :=
  let k := fulCore addr
  let i := s.coreInfo k
  let off := fulOff addr
  let mem := fulMem addr
  if mem = 0 ∨ mem = 3 then s.unmappedAt addr
  else if (mem = 1 ∧ heldX i off) ∨ (mem = 2 ∧ heldY i off) then s.unmappedAt addr
  else
  let s := s.fulHit k mem (if mem = 2 then hostY i off else off) hit.ecc
  let c := s.core k
  if hit.collide then (s.count (FUL_COLLIDE_COUNT k) 1).wr (FUL_COLLIDE_ADDR k) (w32 (mem * 2 ^ 30 + off))
  else if mem = 1 then s.setCore k { c with x := spSet 0 c.x (off / 4) (mergeWord (spGet 0 c.x (off / 4)) width addr v) }
  else
    let w := hostY i off / 4
    s.setCore k { c with y := spSet 0 c.y w (mergeWord (spGet 0 c.y w) width addr v) }

/-- The computed registers of a FUL window. -/
def State.fulView (s : State) (k off : Nat) : Option W32 :=
  let c := s.core k
  let i := s.coreInfo k
  if off = 0x04 then some (w32 (b01 (decide (0 < c.len))))
  else if off = 0x10 then some (w32 c.len)
  else if off = 0x14 then some (w32 (i.setLen * 65536 + i.setOff))
  else if off = 0x18 then some (w32 (i.winInLen * 65536 + i.winInOff))
  else if off = 0x1C then some (w32 (i.winOutLen * 65536 + i.winOutOff))
  else if off = 0x20 then some (w32 (match s.image with | some m => nth 0 m.budget k | none => 0))
  else none

end Sys2Proof.Machine
end

