-- ==== Sys2Proof/Machine/Scene.lean ====
section
/-! DEFINITION. Banks, scenes and swaps (chapters 05 and 06): the exchange of every bank, SCENE_STAGE, the shadow writes that have rows of
their own, and the read-back of CNP and the tiles. -/

namespace Sys2Proof.Machine

/-! ## The swap (R187, R189, R190, R197, R198) -/

/-- Whether a plain selector's crossfade has more than `n` ticks to go: with 1, after the mix of a tick that still runs. -/
def State.plainFading (s : State) (n : Nat) : Bool :=
  s.graph.sels.any (fun p => (decide (n < p.2.fadeLeft) || p.2.fresh) && match s.selInfo p.1 with
    | some i => !i.priority
    | none => false)

/-- A scene job sees a swap at boundary t: what it writes from there on is torn from what it has written (R186, R187). -/
def SceneWork.meet (w : SceneWork) (t : Nat) : SceneWork :=
  if w.firstTick.isSome && w.swapAt.isNone then { w with swapAt := some (w32 t) } else w
/-- The oldest pending swap takes effect at boundary t where no transition and no plain-selector crossfade remains; `early`: ahead of the boundary. -/
def State.swapEffect (s : State) (t : Nat) (early : Bool) : State :=
  match s.canopy.pendSwaps with
  | [] => s
  | p :: ps =>
    if !s.canopy.flags.isEmpty || s.plainFading (b01 early) || s.canopy.swapped then s
    else
      let step := if p.step = 0 then s.rdF CNP_STEP 7 0 + 1 else p.step
      let c := { s.canopy.exchange t step with pendSwaps := ps, swapped := true, scene := s.canopy.scene.map (·.meet t) }
      ({ s with canopy := c }.selSwap early).setsSwap
/-- Step 5 of boundary t: at most one swap takes effect, one that SWAP_TAKES_EFFECT has brought included. -/
def State.swapStep (s : State) (t : Nat) : State :=
  let u := s.swapEffect t false
  { u with canopy := { u.canopy with swapped := false } }
/-- SWAP_TAKES_EFFECT, ahead of the next boundary's mix: the last mix has ended. -/
def execSwapTakesEffect (s : State) : Host.Outcome State Fault Refusal :=
  done s (if s.sys.mediaRun && s.sys.phase == .running then s.mixEnd.swapEffect (s.tickN + 1) true else s)

/-- A SWAP joins the pending list (R188, R189). -/
def State.swapJoin (s : State) (seq : Nat) (a0 : W32) : State :=
  { s with canopy := { s.canopy with pendSwaps := s.canopy.pendSwaps ++ [{ seq := seq, step := fld a0 8 0 }] } }

/-- Whether two crosspoints share an input: their tiles' row and their local input. -/
def sameInput (j k : Nat) : Bool := keyTile j / 16 == keyTile k / 16 && keyA j == keyA k
/-- CROSSPOINT_STEP_TIMEOUT: the crosspoint has come to the last sample of its timeout without a crossing; all that share its input take their new
gains there (R193, R194). -/
def execCrosspointStepTimeout (tile : Fin 256) (b a : Nat) (s : State) : Host.Outcome State Fault Refusal :=
  doneCore s (
    let k := xpKey tile.val b a
    if a < 512 ∧ b < 256 ∧ s.canopy.timedOut.contains k then
      { s with canopy := { s.canopy with flags := foldS (fun m j => spSet false m j false) s.canopy.flags (s.canopy.timedOut.filter (sameInput k))
                                         timedOut := s.canopy.timedOut.filter (fun j => !sameInput k j) } }
    else s)

/-- DETECTOR_HOLD_EXPIRY: a detector whose hold has run out in the mix closes at its end (R161). -/
def execDetectorHoldExpiry (d : Nat) (s : State) : Host.Outcome State Fault Refusal :=
  doneCore s (
    if (s.canopy.det d).expired then { s with canopy := { s.canopy with dets := spPut s.canopy.dets d { isOpen := false, cnt := 0 } } } else s)

/-! ## The shadow window (R148, R149, R151, R366) -/

/-- Whether a window offset holds no gain word: at 96 kHz the upper half of each run (R149). -/
def State.gainHole (s : State) (off : Nat) : Bool := s.rate96 && decide (256 ≤ off / 2 % 512)

/-- What the check of a gain bank finds at a window offset. -/
def State.gainHit (s : State) (live : Bool) (off : Nat) : Option EccKind → State
  | some kind => s.gainEcc { tile := Fin.ofNat 256 (off / 0x40000), mem := if live then 0 else 1, word := off % 0x40000 / 8, kind := kind }
  | none => s
/-- A host write at an address of the shadow window. -/
def State.gainWin (s : State) (addr : Nat) (width : Width) (v : W32) (hit : WriteHit) : State :=
  let off := widthAlign width (addr % 2 ^ 26)
  if s.gainHole off then s.unmappedAt addr
  else if hit.collide then s.gainCollided
  else (s.gainHit false off hit.ecc).gainHostWrite off width v

/-- The 32-bit word of the shadow or the live window at an offset. -/
def CanopySt.gainWord (c : CanopySt) (live : Bool) (off : Nat) : W32 :=
  let k := off / 4 * 2
  if live then w32 ((c.live k).toNat + (c.live (k + 1)).toNat * 65536) else w32 ((c.shadow k).toNat + (c.shadow (k + 1)).toNat * 65536)
/-- A read at an address of either gain window. -/
def State.gainRead (s : State) (addr : Nat) (ecc : Option EccKind) : State × W32 :=
  let off := addr % 2 ^ 26
  let live := decide (0x8000000 ≤ addr)
  if s.gainHole off then (s.unmappedAt addr, 0)
  else
    let t := s.gainHit live off ecc
    (t, t.canopy.gainWord live off)

/-! ## SCENE_STAGE (R180 to R187) -/

/-- The engine writes one shadow gain word: held, and counted, while its transition flag is set. -/
def State.sceneGain (s : State) (w : SceneWork) (key : Nat) (g : W16) : State × SceneWork :=
  (s.gainWrite key g, if s.canopy.flagged key then { w with held := w.held + 1 } else { w with gains := w.gains + 1 })

/-- Writes a run of gain words. -/
def State.sceneRun (s : State) (w : SceneWork) (key : Nat) : List W16 → State × SceneWork
  | [] => (s, w)
  | g :: gs => let r := s.sceneGain w key g; r.1.sceneRun r.2 (key + 1) gs

/-- Whether a record of R181 is refused: its type, its words, the selectors and cores it names. -/
def State.recordBad (s : State) (ty words : Nat) (ws : List W32) : Bool :=
  let t := if s.rate96 then 256 else 512
  let w0 := nth 0 ws 0
  let w1 := nth 0 ws 1
  let c := fld w1 9 0
  if ty = 1 then
    decide (words < 2) || words != 2 + (c + 1) / 2 || fld w0 31 25 != 0 || fld w1 31 10 != 0 || decide (c < 1) || decide (512 < c)
      || decide (t < fld w0 24 16 + c) || (c % 2 == 1 && fld (nth 0 ws (2 + c / 2)) 31 16 != 0)
  else if ty = 2 then
    words != 2 || fld w0 31 25 != 0 || fld w1 15 10 != 0 || decide (c < 1) || decide (512 < c) || decide (t < fld w0 24 16 + c)
  else if ty = 3 then words != 1 || detSetBad s w0
  else if ty = 4 then words != 1 || fld w0 1 0 == 3
  else if ty = 5 then words != 1 || (match s.selInfo (fld w0 26 16) with
    | some i => i.priority || decide (i.cands.length ≤ fld w0 3 0)
    | none => true)
  else if ty = 6 then
    decide (words < 1) || fld w0 15 6 != 0 || decide ((s.coreInfo (fld w0 5 0)).setLen / 4 < fld w0 31 16 + (words - 1))
  else ty != 0xFFFF

/-- The gain words packed two to a word. -/
def unpackGains : Nat → List W32 → List W16
  | 0, _ => []
  | _, [] => []
  | 1, w :: _ => [w.setWidth 16]
  | n + 2, w :: ws => w.setWidth 16 :: (w >>> 16).setWidth 16 :: unpackGains n ws

/-- A scene job writes in a tick. -/
def SceneWork.wrote (w : SceneWork) (tick : W32) : SceneWork :=
  { w with firstTick := some (w.firstTick.getD tick), lastTick := tick, torn := w.torn || w.swapAt.isSome }
/-- Writes an accepted record to the shadow banks. -/
def State.recordWrite (s : State) (w : SceneWork) (ty : Nat) (ws : List W32) : State × SceneWork :=
  let w0 := nth 0 ws 0
  let w1 := nth 0 ws 1
  let key := xpKey (fld w0 7 0) (fld w0 15 8) (fld w0 24 16)
  let w := if ty = 0xFFFF then w
    else { (w.wrote s.tickLo) with written := w.written + 1 }
  if ty = 1 then s.sceneRun w key (unpackGains (fld w1 9 0) (ws.drop 2))
  else if ty = 2 then s.sceneRun w key (List.replicate (fld w1 9 0) ((w1 >>> 16).setWidth 16))
  else if ty = 3 then (s.detSet w0, w)
  else if ty = 4 then (s.sclSet w0, w)
  else if ty = 5 then (s.grfSelSet w0, w)
  else if ty = 6 then
    let k := fld w0 5 0
    let i := s.coreInfo k
    let c := s.core k
    (s.setCore k { c with y := spSetAll 0 c.y ((i.setOff + i.setLen) / 4 + fld w0 31 16) (ws.drop 1) }, w)
  else (s, w)

/-- The job ends: result window, then the ending for JOB_DONE. -/
def State.sceneStop (s : State) (slot err : Nat) : State := (s.sceneClose slot).jobFin slot err

/-- An ABORT is taken at a safe point of R185: what has been written stays. -/
def State.sceneAbort (s : State) (slot : Nat) : State := (s.sceneClose slot).jobAborted slot

/-- Opens the scene that a LOAD names: the extent, then the header (R183). -/
def State.sceneOpen (s : State) (slot : Nat) : State :=
  let j := s.slot slot
  let a := (cat64 (j.arg 2) (j.arg 1)).toNat
  let base := s.struct.sceneBase
  let size := s.struct.sceneSize
  let w : SceneWork := { slot := slot, mirror := false, pos := 32, records := 0, written := 0, gains := 0, held := 0, firstTick := none,
                         lastTick := 0, swapAt := none, torn := false, crc := 0xFFFFFFFF, want := 0, total := 0, recCount := 0 }
  let stop (s : State) (err : Nat) : State := { s with canopy := { s.canopy with scene := some w } }.sceneStop slot err
  if a % 64 ≠ 0 ∨ a < base ∨ base + size < a + 32 then stop s 0x40
  else
    let r := s.engineRead a 32 8 false
    let h := r.2.1
    let len := leAt h 4 4
    if base + size < a + max len 32 then stop r.1 0x40
    else if leAt h 0 4 ≠ 0x43535648 ∨ len % 4 ≠ 0 ∨ len < 36 ∨ 134217728 < len ∨ leAt h 12 1 ≠ b01 s.rate96 ∨ leAt h 13 15 ≠ 0 then stop r.1 0x41
    else { r.1 with canopy := { r.1.canopy with scene := some { w with total := len, recCount := leAt h 8 4, want := w32 (leAt h 28 4) } } }

/-- Reads, checks and writes the next record; past the last one checks the CRC. -/
def State.sceneStep (s : State) (slot : Nat) : State :=
  match s.canopy.scene with
  | none => s
  | some w =>
    let a := (cat64 ((s.slot slot).arg 2) ((s.slot slot).arg 1)).toNat
    if (s.slot slot).abortReq then s.sceneAbort slot
    else if w.total ≤ w.pos then
      s.sceneStop slot (if w.records ≠ w.recCount then 0x42 else if ~~~w.crc ≠ w.want then 0x43 else 0)
    else
      let r := s.engineRead (a + w.pos) 4 8 false
      let head := w32 (leAt r.2.1 0 4)
      let words := fld head 31 16
      let s := r.1
      if w.records = w.recCount ∨ w.total < w.pos + 4 + 4 * words then s.sceneStop slot 0x42
      else
        let q := s.engineRead (a + w.pos + 4) (4 * words) 8 false
        let ws := wordsOf words q.2.1
        if q.1.recordBad (fld head 15 0) words ws then q.1.sceneStop slot 0x42
        else
          let w := { w with pos := w.pos + 4 + 4 * words, records := w.records + 1, crc := crcRun 0x82F63B78 w.crc (r.2.1 ++ q.2.1) }
          let p := q.1.recordWrite w (fld head 15 0) ws
          { p.1 with canopy := { p.1.canopy with scene := some p.2 } }.jobProgress slot (w.pos / 1024)

/-- Whether the scene loader works for a slot. -/
def State.sceneOf (s : State) (slot : Nat) : Bool :=
  match s.canopy.scene with
  | some w => w.slot == slot
  | none => false

/-- SCENE_STAGE_LOAD: the slot's job begins where it can, opens its scene, and reads up to `n` records; `collide`: a host gain write loses a
cycle to the loader port (R366). -/
def execSceneStageLoad (slot : Fin 16) (n : Nat) (collide : Bool) (s : State) : Host.Outcome State Fault Refusal :=
  done s (
    let k := slot.val
    let s0 := s.jobTryBegin k
    if !s0.runsJob k 3 || fld ((s0.slot k).arg 0) 1 0 != 0 || (s0.slot k).fin.isSome then s
    else if s0.dram.frozen then s0.jobFrozen k
    else if (s0.slot k).abortReq && !s0.sceneOf k then s0.sceneAbort k
    else
      let s1 := if s0.sceneOf k then s0 else s0.sceneOpen k
      (timesN (fun t => t.sceneStep k) n s1).when collide State.gainCollided)

/-- Copies the live entries in a range of keys to the shadow bank. -/
def copyBank {α : Type} [DecidableEq α] (d : α) (live shadow : Sparse α) (lo hi : Nat) : Sparse α :=
  foldS (fun m (p : Nat × α) => if lo ≤ p.1 ∧ p.1 < hi then spSet d m p.1 p.2 else m) (spClear shadow lo hi) live

/-- Words of the live half of a core's parameter sets copied to the shadow half: those from `lo` up to and without `hi` of the set. -/
def Core.setMirror (c : Core) (i : CoreInfo) (lo hi : Nat) : Core :=
  let b := i.setOff / 4
  let l := i.setLen / 4
  let h := min hi l
  let y := foldS (fun m (q : Nat × W32) => if b + lo ≤ q.1 ∧ q.1 < b + h then spSet 0 m (q.1 + l) q.2 else m) (spClear c.y (b + l + lo) (b + l + h)) c.y
  { c with y := y }

/-- The bytes of the banks after the gain banks (R184): 4 for each detector, output and selector, then the parameter sets. -/
def State.mirrorTail (s : State) : Nat := 57344 + foldS (fun n (p : Nat × CoreInfo) => n + p.2.setLen) 0 s.struct.cores
/-- The parameter sets' part of a piece of the tail, from byte `lo` up to and without `hi`; the sets begin at byte 57,344. -/
def State.mirrorSets (s : State) (lo hi : Nat) : State :=
  (foldS (fun (q : State × Nat) (p : Nat × CoreInfo) =>
    (q.1.setCore p.1 ((q.1.core p.1).setMirror p.2 ((lo - q.2) / 4) ((hi - q.2) / 4)), q.2 + p.2.setLen)) (s, 57344) s.struct.cores).1
/-- A 64 KiB piece of the tail: entries and words in the order of R184. -/
def State.mirrorBanks (s : State) (lo hi : Nat) : State :=
  let c := s.canopy
  let sel (p : Nat × SelState) : Nat × SelState :=
    if lo ≤ 49152 + 4 * p.1 ∧ 49152 + 4 * p.1 < hi then (p.1, { p.2 with shadowPos := p.2.pos, shadowFade := p.2.fade }) else p
  ({ s with
    canopy := { c with detShadow := copyBank detDefault c.detLive c.detShadow (lo / 4) (min hi 32768 / 4),
                       sclShadow := copyBank 0 c.sclLive c.sclShadow ((lo - 32768) / 4) ((min hi 49152 - 32768) / 4) }
    graph := { s.graph with sels := s.graph.sels.map sel } }).mirrorSets lo hi
/-- A 64 KiB piece of the gain bank: words whose transition flag is set are held (R151). -/
def State.mirrorGains (s : State) (w : SceneWork) (lo hi : Nat) : State × SceneWork :=
  let c := s.canopy
  let held := (c.flags.map (·.1)).filter (fun k => decide (lo ≤ k) && decide (k < hi))
  let g := foldS (fun m k => spSet 0x7FFF m k (c.shadow k)) (copyBank 0x7FFF c.gainLive c.gainShadow lo hi) held
  let t := foldS (fun (u : State) k => (u.flag (TILE_STAT (keyTile k)) 2).count (TILE_HELD_COUNT (keyTile k)) 1)
    { s with canopy := { c with gainShadow := g } } held
  (t, { w with gains := w.gains + ((if s.rate96 then 16384 else 32768) - held.length), held := w.held + held.length })
/-- One 64 KiB piece of MIRROR; pieces 0 to 1023 are the gain bank. -/
def State.mirrorStep (s : State) (slot : Nat) : State :=
  match s.canopy.scene with
  | none => s
  | some w =>
    if (s.slot slot).abortReq then s.sceneAbort slot
    else
      let v := { (w.wrote s.tickLo) with pos := w.pos + 1 }
      if w.pos < 1024 then
        let r := s.mirrorGains v (w.pos * 32768) ((w.pos + 1) * 32768)
        { r.1 with canopy := { r.1.canopy with scene := some r.2 } }.jobProgress slot ((w.pos + 1) * 64)
      else
        let lo := (w.pos - 1024) * 65536
        let t := s.mirrorBanks lo (lo + 65536)
        let u := { t with canopy := { t.canopy with scene := some v } }.jobProgress slot (65536 + min (lo + 65536) s.mirrorTail / 1024)
        if s.mirrorTail ≤ lo + 65536 then u.sceneStop slot 0 else u

/-- SCENE_STAGE_MIRROR: the slot's job begins where it can and, once no transition runs and no swap is pending, copies up to `n` pieces; copying that has begun
goes on. -/
def execSceneStageMirror (slot : Fin 16) (n : Nat) (s : State) : Host.Outcome State Fault Refusal :=
  done s (
    let k := slot.val
    let s0 := s.jobTryBegin k
    if !s0.runsJob k 3 || fld ((s0.slot k).arg 0) 1 0 != 1 || (s0.slot k).fin.isSome then s
    else if s0.dram.frozen then s0.jobFrozen k
    else if (s0.slot k).abortReq && !s0.sceneOf k then s0.sceneAbort k
    else if !s0.sceneOf k && (!s0.canopy.flags.isEmpty || s0.plainFading 0 || !s0.canopy.pendSwaps.isEmpty) then s0
    else
      let w : SceneWork := { slot := k, mirror := true, pos := 0, records := 0, written := 0, gains := 0, held := 0, firstTick := none,
                             lastTick := 0, swapAt := none, torn := false, crc := 0, want := 0, total := 0, recCount := 0 }
      let s1 := if s0.sceneOf k then s0 else { s0 with canopy := { s0.canopy with scene := some w } }
      timesN (fun t => if t.sceneOf k then t.mirrorStep k else t) n s1)

/-! ## Read-back (R170, R173) -/

/-- The binding of a matrix input or output (R142). -/
def findPos : List (Nat × (Nat × Nat)) → Nat → Option (Nat × Nat)
  | [], _ => none
  | (m, p) :: ps, n => if m = n then some p else findPos ps n

/-- The computed registers of CNP. -/
def State.cnpView (s : State) (off : Nat) : Option W32 :=
  let d := s.rdF CNP_DET_RSEL 12 0
  let o := s.rdF CNP_SCL_RSEL 11 0
  let g := s.rdF CNP_OPEN_RSEL 7 0
  let sh := spGet detDefault s.canopy.detShadow d
  if off = 0x10 then some (match s.image with
    | some _ => w32 (b01 s.rate96 * 2 ^ 31 + (if s.rate96 then 256 else 512) * 2 ^ 16 + 256)
    | none => 0)
  else if off = 0x18 then some (match findPos s.struct.miPos (s.rdF CNP_MI_RSEL 12 0) with
    | some (r, a) => w32 (2 ^ 31 + r * 2 ^ 16 + a) | none => 0)
  else if off = 0x20 then some (match findPos s.struct.moPos (s.rdF CNP_MO_RSEL 11 0) with
    | some (c, b) => w32 (2 ^ 31 + c * 2 ^ 16 + b) | none => 0)
  else if off = 0x28 then some s.cnpXfr
  else if off = 0x2C then some (w32 s.canopy.flags.length)
  else if off = 0x38 then some (match s.image with
    | some _ => w32 ((s.canopy.det d).cnt * 2 ^ 24 + b01 (s.canopy.det d).isOpen * 2 ^ 16 + (s.canopy.detCfg d).hold * 256 + (s.canopy.detCfg d).thr)
    | none => 0)
  else if off = 0x3C then some (match s.image with | some _ => w32 (sh.hold * 256 + sh.thr) | none => 0)
  else if off = 0x44 then some (if s.rate96 && decide (128 ≤ g) then 0
    else w32 (foldS (fun n k => n + b01 (s.canopy.det (32 * g + k)).isOpen * 2 ^ k) 0 (upFrom 0 32)))
  else if off = 0x50 then some (w32 (spGet 0 s.canopy.counts o * 2 ^ 16 + spGet 0 s.canopy.sclShadow o * 4 + spGet 0 s.canopy.sclLive o))
  else if off = 0x54 then some (w32 (spGet (2 ^ 23) s.canopy.prev o))
  else if off = 0x70 then some (w32 s.canopy.tilesOn)
  else none

/-- The words of a gain bank of tile n that are not off. -/
def onWords (n : Nat) (m : Sparse W16) : Nat := (m.filter (fun p => keyTile p.1 == n && !gainOff p.2)).length

/-- The computed registers of a tile window. -/
def State.tileView (s : State) (n off : Nat) : Option W32 :=
  let c := s.canopy
  if off = 0x10 then some (w32 n)
  else if off = 0x14 then some (w32 (b01 (!c.awake.contains n) + b01 (decide (0 < inTile n (c.flags.map (·.1)))) * 2
    + b01 (c.prvUsed.any (fun p => p.1 == n)) * 4))
  else if off = 0x18 then some (w32 (onWords n c.gainLive))
  else if off = 0x1C then some (w32 (onWords n c.gainShadow))
  else if off = 0x20 then some (w32 (inTile n (c.flags.map (·.1))))
  else if off = 0x28 then some (s.xpEff n)
  else if off = 0x38 then some (w32 c.scrubPos)
  else if off = 0x40 then some (w32 (spGet 0 c.prvLast n))
  else none

end Sys2Proof.Machine
end

