-- ==== Sys2Proof/Machine/Ports.lean ====
section
/-! DEFINITION. Serial audio and AES3 ports (chapter 08): the grid at the pins, formats, states, clocks and rates, the ASRC bank, channel
status. Ports 0 to 15 are serial, 16 to 23 AES3 receivers, 24 to 31 AES3 transmitters. -/

namespace Sys2Proof.Machine

/-! ## The ports -/

/-- A port at reset. -/
def portInit : Port :=
  { st := .off, leadLeft := 0, cfg := 0, depth := 0, runTick := 0, clock := false, quality := 0, rateClass := 0, rate := 0, rateRef := 0,
    mismatch := false, rx := none, tx := none, reenter := false, blk := [], firsts := [], maskRx := 3,
    maskTx := 3, chgRx := [], chgTx := [], locked := false, lockTicks := 0, ratio := 0, fade := 0,
    steering := false, rootSteps := 0, csA := [], csB := [], csTx := [], eSum := 0, eCnt := 0, lastSent := [],
    win := 0, bw := 2, ended := none }
def State.port (s : State) (p : Nat) : Port := spGet portInit s.ports p
def State.setPort (s : State) (p : Nat) (x : Port) : State := { s with ports := spPut s.ports p x }
def State.modPort (s : State) (p : Nat) (f : Port → Port) : State := s.setPort p (f (s.port p))

/-- The window of a port. -/
def portBase (p : Nat) : Nat := if p < 16 then 0x20000 + 0x1000 * p else if p < 24 then 0x30000 + 0x1000 * (p - 16) else aestBase (p - 24)
/-- The CTL, STAT and CFG addresses of a port. -/
def portCtlA (p : Nat) : Nat := portBase p + 4
def portStat (p : Nat) : Nat := portBase p + 8
def portCfgA (p : Nat) : Nat := portBase p + 0x10
/-- The address of a port's PAD, DROP and last-slip register. -/
def padA (p : Nat) : Nat := portBase p + (if p < 16 then 0x34 else 0x28)
def dropA (p : Nat) : Nat := portBase p + (if p < 16 then 0x38 else 0x2C)

/-- A port event: its source bit in ASR_EVSRC, then the event (R260). -/
def State.portRaise (s : State) (p e : Nat) : State := (s.flag ASR_EVSRC p).raise e
/-- A port event that also sets a status flag. -/
def State.portFlag (s : State) (p bit e : Nat) : State := (s.flag (portStat p) bit).portRaise p e

/-! ## Configuration (R241 to R244, R263) -/

/-- FMT, WIDTH in bits, MODE and slots of an ASP_CFG word. -/
def aspFmt (w : W32) : Nat := fld w 1 0
def aspWidth (w : W32) : Nat := match fld w 4 3 with | 0 => 16 | 1 => 24 | _ => 32
def aspMode (w : W32) : Nat := fld w 12 11
def aspSlots (w : W32) : Nat := if aspFmt w = 2 then fld w 10 6 + 1 else 2

/-- Whether a port is SYNC, and whether it is ASRC, by a CFG word. -/
def portSync (p : Nat) (w : W32) : Bool := if p < 16 then aspMode w == 1 else if p < 24 then fld w 1 0 == 0 else false
def portAsrc (p : Nat) (w : W32) : Bool := if p < 16 then aspMode w == 2 else if p < 24 then fld w 1 0 == 1 else false
/-- Whether a port makes its own clocks. -/
def portMaster (p : Nat) (w : W32) : Bool := if p < 16 then aspMode w == 0 else decide (24 ≤ p)
/-- LEAD in ticks by the register that holds it. -/
def portLead (p : Nat) (cfg depth : W32) : Nat := if p < 16 then fld depth 21 16 + 1 else fld cfg 21 16 + 1

/-- The ASRC channels bound to a port. -/
def State.asrcOf (s : State) (p : Nat) : List (Nat × AsrcInfo) := s.struct.asrc.filter (fun q => q.2.port == p)

/-- Whether a write of 1 to ENABLE is refused (R244). -/
def State.enableBad (s : State) (p : Nat) : Bool :=
  let w := s.rd (portCfgA p)
  let d := s.rd (portBase p + 0x14)
  if p < 16 then
    aspFmt w == 3 || fld w 4 3 == 3 || aspMode w == 3
      || (aspFmt w == 2 && (decide (aspSlots w < 2) || decide ((if s.rate96 then 16 else 32) < aspSlots w)))
      || (aspMode w == 0 && (if s.rate96 then 3072 else 6144) % (aspSlots w * aspWidth w) != 0)
      || fld d 6 0 == 0 || decide (64 < fld d 6 0) || fld d 14 8 == 0 || decide (64 < fld d 14 8)
      || (aspMode w == 2 && (s.asrcOf p).isEmpty)
      || (s.struct.rooted.contains p && aspMode w != 1)
  else if p < 24 then
    decide (2 ≤ fld w 1 0) || decide (2 ≤ fld w 4 3) || (fld w 1 0 == 1 && (s.asrcOf p).isEmpty)
      || (s.struct.rooted.contains p && fld w 1 0 != 0)
  else false

/-- A write to a port's CTL: ENABLE, refused under R244. -/
def State.portCtl (s : State) (p : Nat) (v : W32) : State :=
  if bitOf v 0 then
    if s.bit (portCtlA p) 0 || s.domFailed 10 then s
    else if s.enableBad p then (s.flag (portStat p) 6).portRaise p 44
    else s.wr (portCtlA p) 1
  else s.wr (portCtlA p) 0

/-- The port to which a CTL address belongs. -/
def portOfCtl (a : Nat) : Option Nat := (upFrom 0 32).find? (fun p => portCtlA p == a)

/-- PORT_ENABLE and PORT_DISABLE. -/
def execPortEnable (port : Fin 32) (s : State) : Host.Outcome State Fault Refusal := doneCore s (s.byHost (fun s => s.portCtl port.val 1))
def execPortDisable (port : Fin 32) (s : State) : Host.Outcome State Fault Refusal := doneCore s (s.byHost (fun s => s.portCtl port.val 0))

/-! ## States (R245, R246, R250) -/

/-- The media-clock cycles per sample. -/
def State.cyc (s : State) : Nat := if s.rate96 then 256 else 512
/-- The rate class of the system rate. -/
def State.sysClass (s : State) : Nat := if s.rate96 then 5 else 3
/-- Whether a slave's clock is qualified (R250). -/
def portQualified (p : Nat) (x : Port) : Bool := x.clock && (if portAsrc p x.cfg then x.locked else !x.mismatch)

/-- A port takes a new state: STATE_CHG and EV53. -/
def State.portTo (s : State) (p : Nat) (x : Port) : State := (s.setPort p x).portFlag p 0 53

/-- The configuration that a port runs by, or that it would start with. -/
def State.cfgNow (s : State) (p : Nat) : W32 := if (s.port p).st = .off then s.rd (portCfgA p) else (s.port p).cfg
/-- Whether a rate in mHz lies within a share (in 1/10000) of a nominal one. -/
def rateWithin (share rate nom : Nat) : Bool :=
  decide (10000 * rate ≤ (10000 + share) * nom) && decide ((10000 - share) * nom ≤ 10000 * rate)
/-- The system rate in mHz. -/
def State.sysRate (s : State) : Nat := if s.rate96 then 96000000 else 48000000
/-- The register of the measured rate; a transmitter has none. -/
def rateA (p : Nat) : Nat := portBase p + (if p < 16 then 0x30 else 0x24)
def State.rateWr (s : State) (p : Nat) (v : W32) : State := if p < 24 then s.wr (rateA p) v else s
/-- A SYNC port whose clock is present but not within ±0.5 % of the system rate (R250). -/
def State.misrated (s : State) (p : Nat) (cfg : W32) (rate : Nat) : Bool := portSync p cfg && !rateWithin 50 rate s.sysRate

/-- A port enters STARTING at boundary t: its configuration is copied (R246); a master's clocks run, and its rate reads 0 up to its first window (R248). -/
def State.portStart (s : State) (p : Nat) : State :=
  let w := s.rd (portCfgA p)
  let d := if p < 16 then s.rd (portBase p + 0x14) else 0
  let x := s.port p
  let x := { x with st := .starting, cfg := w, depth := d, leadLeft := portLead p w d, rx := none, tx := none, reenter := false, blk := [],
                    quality := 0, mismatch := x.clock && s.misrated p w x.rate, locked := false, ratio := 0,
                    maskRx := (x.chgRx.getLast?.map (·.mask)).getD x.maskRx, maskTx := (x.chgTx.getLast?.map (·.mask)).getD x.maskTx, chgRx := [], chgTx := [] }
  if portMaster p w then (s.rateWr p 0).portTo p { x with clock := true, rateClass := s.sysClass, rate := 0, win := 0 } else s.portTo p x

/-- The last tick of a lead: STARTING becomes RUN at boundary t, STOPPING becomes OFF, in which a master's clock, class and rate read 0 and no ASRC is
locked (log entry 84). -/
def State.portLeadEnd (s : State) (p t : Nat) : State :=
  let x := s.port p
  match x.st with
  | .starting => s.portTo p { x with st := .run, leadLeft := 0, runTick := t, tx := none }
  | .stopping =>
    let y := { x with st := .off, leadLeft := 0, blk := [], rx := none, tx := none, locked := false, ratio := 0, fade := 0, ended := some t }
    if portMaster p x.cfg then (s.rateWr p 0).portTo p { y with clock := false, rateClass := 0, rate := 0 } else s.portTo p y
  | _ => s

/-- PORT_LEAD_EXPIRY: a port in the last tick of its lead, at the coming boundary, by the conditions of R245. -/
def execPortLeadExpiry (port : Fin 32) (s : State) : Host.Outcome State Fault Refusal :=
  doneCore s (
    let p := port.val
    let x := s.port p
    let ready := s.bit (portCtlA p) 0 && (portMaster p x.cfg || portQualified p x)
    if s.sys.mediaRun && x.leadLeft == 1 && (x.st == .stopping || (x.st == .starting && ready)) then s.portLeadEnd p (s.tickN + 1) else s)

/-- The bandwidth code of the ASRC bank: 5 to 7 act as 2 (R267). -/
def State.asrBw (s : State) : Nat := if s.rdF ASR_BW 2 0 < 5 then s.rdF ASR_BW 2 0 else 2
/-- A port that re-enters after a loss, at the end of its LEAD qualified ticks (R250); an ASRC port's data fades in (R253). -/
def State.portReenter (s : State) (p : Nat) (x : Port) : State :=
  s.setPort p { x with reenter := false, quality := 0, tx := none, fade := if portAsrc p x.cfg then 1 else x.fade }
/-- Step 8 of boundary t for one port. `stop`: phase 2 of a load stops every port, whatever ENABLE holds. -/
def State.portTick (s : State) (t : Nat) (stop : Bool) (p : Nat) : State :=
  let x := s.port p
  let en := s.bit (portCtlA p) 0 && !stop
  let justOff := x.ended == some t
  let x := { x with lockTicks := if x.clock then x.lockTicks + 1 else 0, win := if x.clock then x.win + 1 else 0, bw := s.asrBw, ended := none }
  let s := s.setPort p x
  match x.st with
  | .off => if en && !justOff then s.portStart p else s
  | .starting =>
    if !en then s.portTo p { x with st := .stopping, leadLeft := portLead p x.cfg x.depth }
    else if portMaster p x.cfg || portQualified p x then
      if x.leadLeft ≤ 1 then s.portLeadEnd p t else s.setPort p { x with leadLeft := x.leadLeft - 1 }
    else s.setPort p { x with leadLeft := portLead p x.cfg x.depth }
  | .run =>
    if !en then s.portTo p { x with st := .stopping, leadLeft := portLead p x.cfg x.depth }
    else if x.reenter then
      if portQualified p x then
        if portLead p x.cfg x.depth ≤ x.quality + 1 then s.portReenter p x else s.setPort p { x with quality := x.quality + 1 }
      else s.setPort p { x with quality := 0 }
    else s
  | .stopping => if x.leadLeft ≤ 1 then s.portLeadEnd p t else s.setPort p { x with leadLeft := x.leadLeft - 1 }
/-- Step 8 for every port. -/
def State.portsTick (s : State) (t : Nat) (stop : Bool) : State := foldS (fun u p => u.portTick t stop p) s (upFrom 0 32)

/-! ## Indices (R238, R239) -/

/-- The expected index of an edge: the sample index it takes and whether the port slips. -/
def indexOf (pos : Int) (c : Nat) (x : Option Nat) : Int × Bool :=
  match x with
  | some e =>
    if 4 * (pos - (e : Int) * (c : Int)).natAbs ≤ 3 * c then ((e : Int), false) else (roundEvenQ pos c, true)
  | none => (roundEvenQ pos c, false)

/-- The slot mask in force at the edges of tick n: a write that landed in tick u acts from the edges of tick u + 1 on (R247). -/
def maskAt (n : Nat) (mask : W32) (chg : List MaskChange) : W32 := foldS (fun m (c : MaskChange) => if c.tick + 1 ≤ n then c.mask else m) mask chg
/-- The slots that carry data at the edges of tick n: enabled there, and at the edges of the tick before. -/
def dataAt (n : Nat) (mask : W32) (chg : List MaskChange) : W32 := maskAt n mask chg &&& maskAt (n - 1) mask chg
/-- The changes that edges of tick n and later still tell apart, with the mask before them. -/
def maskLate (n : Nat) (chg : List MaskChange) : List MaskChange := chg.filter (fun c => decide (n < c.tick + 4))
def maskOld (n : Nat) (mask : W32) (chg : List MaskChange) : W32 := foldS (fun m (c : MaskChange) => if c.tick + 4 ≤ n then c.mask else m) mask chg

/-- The effect of a slot-mask write (R247): with the media clock stopped it is in full effect from the first frame. -/
def State.slotMask (s : State) (p : Nat) (tx : Bool) (v : W32) : State :=
  let s := s.wr (portBase p + (if tx then 0x1C else 0x18)) v
  let n := s.tickN
  s.modPort p (fun x =>
    if s.sys.mediaRun then
      (if tx then { x with maskTx := maskOld n x.maskTx x.chgTx, chgTx := maskLate n x.chgTx ++ [{ mask := v, tick := n }] }
       else { x with maskRx := maskOld n x.maskRx x.chgRx, chgRx := maskLate n x.chgRx ++ [{ mask := v, tick := n }] })
    else (if tx then { x with maskTx := v, chgTx := [] } else { x with maskRx := v, chgRx := [] }))
/-- SLOT_MASK_WRITE. -/
def execSlotMaskWrite (port : Fin 16) (tx : Bool) (val : W32) (s : State) : Host.Outcome State Fault Refusal :=
  doneCore s (s.byHost (fun s => s.slotMask port.val tx val))

/-! ## Words (R242) -/

/-- The BCLK cycles from a frame's edge to its first data bit (R241). -/
def aspDelay (cfg : W32) : Nat := if aspFmt cfg = 1 then 0 else if aspFmt cfg = 2 then b01 (bitOf cfg 2) else 1
/-- The frame sync that begins a frame, level by BCLK cycle: low then high in I2S, high then low left-justified, one cycle high in TDM; FS_POL inverts it. -/
def frameSync (cfg : W32) : List Bool :=
  (upFrom 0 (aspSlots cfg * aspWidth cfg)).map (fun i =>
    (match aspFmt cfg with | 0 => decide (aspWidth cfg ≤ i) | 1 => decide (i < aspWidth cfg) | _ => i == 0) != bitOf cfg 14)
/-- The word of slot k in the levels of DR at the sampling edges of a frame, most significant bit first. -/
def slotWord (cfg : W32) (dr : List Bool) (k : Nat) : W32 :=
  w32 (foldS (fun n j => 2 * n + b01 (nth false dr (aspDelay cfg + k * aspWidth cfg + j))) 0 (upFrom 0 (aspWidth cfg)))
/-- A transmit frame at the pins: a master's FST, DT most significant bit first, cut short after `len` cycles. -/
def serialPins (p : Nat) (cfg : W32) (ws : List (Option W32)) (len : Option Nat) : SerialPins :=
  let bits := ws.flatMap (fun w => (upFrom 0 (aspWidth cfg)).map (fun j => w.map (fun v => bitOf v (aspWidth cfg - 1 - j))))
  { sync := if portMaster p cfg then frameSync cfg else [], start := aspDelay cfg,
    data := match len with | some n => bits.take (n - aspDelay cfg) | none => bits, rising := bitOf cfg 13 }

/-- A received word in the internal format. -/
def rxWord (cfg : W32) (w : W32) : Int :=
  let n := aspWidth cfg
  if n = 16 then sext 16 w.toNat * 256
  else if n = 24 then sext 24 w.toNat
  else if bitOf cfg 5 then sext 24 (w.toNat / 256)
  else roundEvenQ w.toInt 256
/-- A word to transmit, and whether it was clamped. -/
def txWord (cfg : W32) (y : Int) : W32 × Bool :=
  let n := aspWidth cfg
  if n = 16 then
    let r := roundEvenQ y 256
    (w32 (uwrap 16 (satI 16 r)), decide (satI 16 r ≠ r))
  else
    let c := satI 24 y
    (if n = 24 then w32 (uwrap 24 c) else i32 (c * 256), decide (c ≠ y))

/-! ## Receiving (R239, R240) -/

/-- Notes the last pad, drop or slip of a serial port. -/
def State.slipLast (s : State) (p : Nat) : State := if p < 16 then s.wr (ASP_SLIP_LAST p) s.tickLo else s
/-- A pad or a drop of n frames. -/
def State.portPads (s : State) (p n : Nat) : State := if n = 0 then s else (s.count (padA p) n).slipLast p
def State.portDrops (s : State) (p n : Nat) : State := if n = 0 then s else (s.count (dropA p) n).slipLast p

/-- The last tick before data: of STARTING, or of the LEAD qualified ticks of a re-entry. In it the first frames of the next block begin (R238, R245, R250). -/
def portSoon (p : Nat) (x : Port) : Bool :=
  (x.st == .starting && decide (x.leadLeft ≤ 1))
    || (x.st == .run && x.reenter && portQualified p x && decide (portLead p x.cfg x.depth ≤ x.quality + 1))
/-- Whether a port takes receive frames. -/
def portListens (p : Nat) (x : Port) : Bool :=
  ((x.st == .run && !x.reenter) || portSoon p x) && x.clock && !x.mismatch && !(portAsrc p x.cfg) && (decide (16 ≤ p) || bitOf x.cfg 15)
/-- Whether a port's receive pins are not ignored, and its clock is there (R245). -/
def portHears (p : Nat) (x : Port) : Bool := x.st != .off && x.clock && (decide (16 ≤ p) || bitOf x.cfg 15)
/-- Whether an edge at media time `pos`, less its depth, can be the port's: a master's lie exactly on its samples (R239). -/
def edgeFits (p c : Nat) (x : Port) (pos : Int) : Bool := !portMaster p x.cfg || pos % (c : Int) == 0
/-- The index an edge takes: a master's by its instant, a slave's by R239. -/
def edgeIndex (p c : Nat) (x : Port) (pos : Int) (expected : Option Nat) : Int × Bool :=
  if portMaster p x.cfg then (pos / (c : Int), false) else indexOf pos c expected

/-- A received frame takes its index; `keep` is false where the frame is dropped whole for an error, which counts as a drop. -/
def State.portTake (s : State) (p : Nat) (ts depth : Int) (samples : List Int) (keep : Bool) : State :=
  let x := s.port p
  if !portListens p x then s
  else
    let c := s.cyc
    let t := s.tickLen
    let pos := ts + depth
    let r := edgeIndex p c x pos x.rx
    let idx := r.1.toNat
    let e := pos - r.1 * (c : Int)
    let first := (spFind x.firsts (idx / t)).isNone && decide (s.tickN ≤ idx / t)
    let x1 := { x with rx := some (idx + 1), eSum := x.eSum + e, eCnt := x.eCnt + 1,
                       firsts := if first then spPut x.firsts (idx / t) (ts.toNat, e) else x.firsts }
    if portSoon p x && decide (idx / t ≤ s.tickN) then s else
    let s := (s.setPort p x1).when r.2 (fun s => (s.slipLast p).portFlag p 2 (if p < 16 then 40 else 47))
    if !keep ∨ r.1 < (s.tickN * t : Nat) ∨ (spFind x1.blk idx).isSome then s.portDrops p 1
    else s.modPort p (fun x => { x with blk := spPut x.blk idx samples })
/-- A slave frame that is not SLOTS × WIDTH BCLK cycles long (R260). -/
def State.frameLen (s : State) (p : Nat) (len : Option Nat) : State :=
  let x := s.port p
  match len with
  | some n => if portMaster p x.cfg || n == aspSlots x.cfg * aspWidth x.cfg then s else (s.count (ASP_FERR_COUNT p) 1).portFlag p 3 43
  | none => s

/-- PORT_RECEIVE_FRAME: a serial frame whose edge lies `frac` cycles after sample `sp`, `len` bit clocks long, with the levels of DR at its sampling edges;
a master drives its frame sync. -/
def execPortReceiveFrame (port : Fin 16) (sp : Nat) (frac : Nat) (len : Nat) (dr : List Bool) (s : State) : Host.Outcome State Fault Refusal :=
  doneCore s (
    let p := port.val
    let x := s.port p
    let ts : Int := ((sp * s.cyc + frac : Nat) : Int)
    let depth : Int := ((256 * fld x.depth 6 0 : Nat) : Int)
    if !portHears p x || !edgeFits p s.cyc x (ts + depth) then s
    else
      let ok := portMaster p x.cfg || len == aspSlots x.cfg * aspWidth x.cfg
      let data := dataAt (sp / s.tickLen) x.maskRx x.chgRx
      let samples := (upFrom 0 (aspSlots x.cfg)).map (fun k => if bitOf data k then rxWord x.cfg (slotWord x.cfg dr k) else 0)
      let t := s.when (portMaster p x.cfg) (·.emit (.rxSync p (frameSync x.cfg)))
      let t := (t.portTake p ts depth samples ok).when (portAsrc p x.cfg && x.st == .run && !ok) (·.portDrops p 1)
      t.frameLen p (some len))

/-- An AES3 audio word: 24 bits, or 20 with the auxiliary bits ignored. -/
def aesWord (cfg w : W32) : Int :=
  let a := w.toNat / 16 % 2 ^ 24
  if fld cfg 4 3 = 1 then sext 24 (a / 16 * 16) else sext 24 a

/-- EV48, at most once per tick, with ERROR. -/
def State.aesError (s : State) (p : Nat) : State := ((s.flag (portStat p) 3).flag ASR_EVSRC p).raiseOnce 48

/-- AES3_RECEIVE_FRAME: both subframes, each with its audio word in [27:4] and its validity bit at [28]. -/
def execAes3ReceiveFrame (rx : Fin 8) (sp : Nat) (frac : Nat) (a b : W32) (parityErr biphaseErr : Bool) (s : State) :
    Host.Outcome State Fault Refusal :=
  doneCore s (
    let r := rx.val
    let p := 16 + r
    let x := s.port p
    if !portHears p x then s
    else
      let bad := parityErr || biphaseErr
      let inval := bitOf a 28 || bitOf b 28
      let drop := bad || (inval && bitOf x.cfg 2)
      let s := s.portTake p ((sp * s.cyc + frac : Nat) : Int) (s.cyc : Int) [aesWord x.cfg a, aesWord x.cfg b] (!drop)
      let s := s.when (portAsrc p x.cfg && x.st == .run && drop) (·.portDrops p 1)
      let s := if bad then (s.count (AESR_PARITY_COUNT r) 1).aesError p else s
      if inval then s.count (AESR_VALID_COUNT r) 1 else s)

/-- The closing of a receive block at boundary t: indices that no frame took are padded, those of a lost or mismatched clock too, the stamps recorded (R239,
R240, R249, R250). -/
def State.portClose (s : State) (t p : Nat) : State :=
  let x := s.port p
  let n := s.tickLen
  let lo := (t - 1) * n
  let due := x.st == .run && decide (x.runTick ≤ t - 1) && !(portAsrc p x.cfg) && (decide (16 ≤ p) || bitOf x.cfg 15)
  let missing := ((upFrom lo n).filter (fun i => (spFind x.blk i).isNone)).length
  let s := if due then s.portPads p missing else s
  let base := portBase p + (if p < 16 then 0x24 else 0x18)
  let s := match spFind x.firsts (t - 1) with
    | some (ts, e) => ((s.wr base (w32 (ts % s.cyc * 65536 + uwrap 16 e))).wr (base + 4) (loN (ts / s.cyc))).wr (base + 8) (hiN (ts / s.cyc))
    | none => s
  s.modPort p (fun x => { x with blk := spClear x.blk 0 (lo + n), firsts := spClear x.firsts 0 t })

/-- The samples of an ASRC channel in a tick, faded in after a lock and out after an unlock. -/
def asrcBlock (t : Nat) (x : Port) (xs : List Int) : List Int :=
  if x.fade = 1 then fadeTick t 1 0 [] xs
  else if x.fade = 2 then fadeTick t 1 0 xs []
  else if x.locked then fullTick t xs else fullTick t []

/-- The channel of the ASRC bank that receives a slot. -/
def findAsrc : List (Nat × AsrcInfo) → Nat → Nat → Option Nat
  | [], _, _ => none
  | (c, i) :: cs, p, slot => if i.port = p ∧ i.slot = slot ∧ i.tx = false then some c else findAsrc cs p slot

/-- What the ASRC bank delivers for a channel. -/
def findChan : List (Nat × List Int) → Nat → List Int
  | [], _ => []
  | (c, xs) :: cs, k => if c = k then xs else findChan cs k

/-- The block that a slot of a port delivers for the frame t − 1 that closes at boundary t. -/
def State.slotBlock (s : State) (asrc : List (Nat × List Int)) (t p slot : Nat) : List Int :=
  let x := s.port p
  let n := s.tickLen
  if x.st ≠ .run ∨ t ≤ x.runTick ∨ x.mismatch then fullTick n []
  else if portAsrc p x.cfg then
    match findAsrc s.struct.asrc p slot with
    | some c =>
      if (p < 16 && (!bitOf x.cfg 15 || !bitOf (dataAt (t - 1) x.maskRx x.chgRx) slot)) || (x.reenter && x.fade != 2) then fullTick n []
      else asrcBlock n x (findChan asrc c)
    | none => fullTick n []
  else (upFrom ((t - 1) * n) n).map (fun i => nth 0 (spGet [] x.blk i) slot)

/-! ## Transmitting (R239, R242, R255, R412) -/

/-- The block that a frame emitted for a sink. -/
def findSink : List (SinkId × List Int) → SinkId → List Int
  | [], _ => []
  | (k, xs) :: ss, q => if k = q then xs else findSink ss q
/-- What leaves in tick n, while the transmit buffer holds it at tick t: from tick n up to the boundary of tick n + 2 (R239). -/
def findFrame : List (Nat × List (SinkId × List Int)) → Nat → Nat → Option (List (SinkId × List Int))
  | [], _, _ => none
  | (f, o) :: es, n, t => if f = n then (if n ≤ t ∧ t < n + 2 then some o else none) else findFrame es n t

/-- The sink of a slot of a port; channel A and B of an AES3 transmitter are slots 0 and 1. -/
def slotSink (p slot : Nat) : SinkId := if p < 16 then .asp p slot else .aes (p - 24) (slot == 1)

/-- The 24 bytes of channel status that a transmitter's block carries (R258). -/
def State.csBytes (s : State) (tx : Nat) : List Byte :=
  let bs := (upFrom 0 6).flatMap (fun i => leBytes 4 (s.rd (AEST_CS tx i)).toNat)
  if s.bit (AEST_CFG tx) 0 then bs.take 23 ++ [crcc 0xFF (bs.take 23)] else bs
/-- A block start: the words are copied and sent in both subframes. -/
def State.aesBlockStart (s : State) (tx : Nat) : State :=
  (s.modPort (24 + tx) (fun x => { x with csTx := s.csBytes tx })).emit (.aesBlock tx (s.csBytes tx))
/-- AES3_TX_BLOCK_START, while the transmitter's clock runs. -/
def execAes3TxBlockStart (tx : Fin 8) (s : State) : Host.Outcome State Fault Refusal :=
  doneCore s (if (s.port (24 + tx.val)).st = .off then s else s.aesBlockStart tx.val)
/-- A subframe of AES3 without its preamble: [27:4] the audio word, [28] validity, [29] the user bit 0, [30] channel status, [31] even parity (R255). -/
def aesSub (y : Int) (valid cs : Bool) : W32 :=
  let n := uwrap 24 (satI 24 y) * 16 + b01 valid * 2 ^ 28 + b01 cs * 2 ^ 30
  w32 (n + foldS (fun k i => (k + n / 2 ^ i) % 2) 0 (upFrom 4 27) * 2 ^ 31)

/-- The samples that a transmit frame of index `i` carries, and whether data was found; without data zeros, or in a pair the samples sent last. -/
def State.txSamples (s : State) (p i n : Nat) : List Int × Bool :=
  let t := s.tickLen
  let x := s.port p
  let frame := i / t
  if x.st ≠ .run ∨ frame < x.runTick ∨ x.reenter ∨ x.mismatch then (List.replicate n 0, true)
  else match findFrame s.graph.pipe.emitted frame s.tickN with
    | some o => ((upFrom 0 n).map (fun k => nth 0 (findSink o (slotSink p k)) (i % t)), true)
    | none => (if s.inPair then (upFrom 0 n).map (fun k => nth 0 x.lastSent k) else List.replicate n 0, false)

/-- Clamped words are counted, with CLIP (R242, R258). -/
def State.clips (s : State) (p n : Nat) : State :=
  if n = 0 then s else (s.count (if p < 16 then ASP_CLIP_COUNT p else AEST_CLIP_COUNT (p - 24)) n).flag (portStat p) 1
/-- The words of a serial transmit frame: an enabled slot without data carries zero, a disabled one is at high impedance. -/
def State.txSend (s : State) (p n : Nat) (mask data : W32) (xs : List Int) (len : Option Nat) : State :=
  let cfg := (s.port p).cfg
  let ws := (upFrom 0 n).map (fun k => if bitOf mask k then some (txWord cfg (if bitOf data k then nth 0 xs k else 0)) else none)
  let s := s.clips p (ws.filter (fun w => match w with | some (_, true) => true | _ => false)).length
  let vs := ws.map (fun w => w.map (·.1))
  (s.modPort p (fun x => { x with lastSent := xs })).emit (.serial p vs (serialPins p cfg vs len))
/-- An AES3 frame of index i: both subframes, with the block's channel-status bit, VALID and Z at the block's start (R255, R258). -/
def State.aesSend (s : State) (tx i : Nat) (xs : List Int) : State :=
  let p := 24 + tx
  let s := if i % 192 = 0 then s.aesBlockStart tx else s
  let cs := bitOf (w32 (nth 0 (s.port p).csTx (i % 192 / 8)).toNat) (i % 192 % 8)
  let s := s.clips p (xs.filter (fun y => decide (satI 24 y ≠ y))).length
  (s.modPort p (fun x => { x with lastSent := xs })).emit
    (.aesFrame tx (i % 192 == 0) (aesSub (nth 0 xs 0) (s.bit (AEST_CFG tx) 1) cs) (aesSub (nth 0 xs 1) (s.bit (AEST_CFG tx) 1) cs))

/-- The ASRC channel that transmits a slot. -/
def txChan (st : Structure) (p slot : Nat) : Option Nat :=
  (st.asrc.find? (fun q => q.2.tx && q.2.port == p && q.2.slot == slot)).map (·.1)
/-- A sample that a port in ASRC mode sends: the converter's output, a free function of the edge and of what the channel was given, so that both twins
send the same (R252, R259); it fades out after an unlock and in after a re-entry (R253). -/
def State.asrcSample (s : State) (p slot sp frac : Nat) : Int :=
  let x := s.port p
  let t := s.tickLen
  let y (c : Nat) : Int := satI 32 (Config.asrcOut c sp frac x.bw x.ratio.toNat (s.graph.pipe.emitted.flatMap (fun e => findSink e.2 (slotSink p slot))))
  match txChan s.struct p slot with
  | none => 0
  | some c =>
    if x.fade = 2 then fadeSample (y c) 0 (sp % t) t
    else if !x.locked || x.reenter then 0
    else if x.fade = 1 then fadeSample 0 (y c) (sp % t) t else y c

/-- A serial port's transmit frame by its index (R239): a slave's slip, the indices passed over, the data or a pad. -/
def State.txIndexed (s : State) (p n : Nat) (mask data : W32) (pos : Int) (len : Option Nat) : State :=
  let x := s.port p
  let r := edgeIndex p s.cyc x pos x.tx
  let i := r.1.toNat
  let skipped := match x.tx with | some e => if portMaster p x.cfg then 0 else i - e | none => 0
  let s1 := (s.modPort p (fun x => { x with tx := some (i + 1) })).when r.2 (fun s => (s.slipLast p).portFlag p 2 40)
  let d := (s1.portDrops p skipped).txSamples p i n
  let s2 := (s1.portDrops p skipped).txSend p n mask data d.1 len
  if d.2 then s2 else s2.portPads p 1
/-- PORT_TRANSMIT_FRAME: the transmit edge of a serial port or AES3 transmitter. -/
def execPortTransmitFrame (port : Fin 32) (sp : Nat) (edge : TxEdge) (s : State) : Host.Outcome State Fault Refusal :=
  doneCore s (
    let p := port.val
    let x := s.port p
    let n := if p < 16 then aspSlots x.cfg else 2
    let pos : Int := ((sp * s.cyc + edge.frac : Nat) : Int) - ((if p < 16 then 256 * fld x.depth 14 8 else s.cyc : Nat) : Int)
    if (16 ≤ p ∧ p < 24) ∨ x.st = .off ∨ x.clock = false ∨ (p < 16 ∧ bitOf x.cfg 16 = false) ∨ edgeFits p s.cyc x pos = false then s
    else if 24 ≤ p then s.aesSend (p - 24) (pos / (s.cyc : Int)).toNat (s.txSamples p (pos / (s.cyc : Int)).toNat 2).1
    else
      let mask := maskAt (sp / s.tickLen) x.maskTx x.chgTx
      let data := dataAt (sp / s.tickLen) x.maskTx x.chgTx
      let s := s.frameLen p edge.len
      if x.st = .run ∧ portAsrc p x.cfg then s.txSend p n mask data ((upFrom 0 n).map (fun k => s.asrcSample p k sp edge.frac)) edge.len
      else if x.st ≠ .run ∨ x.reenter ∨ x.mismatch then s.txSend p n mask data (List.replicate n 0) edge.len
      else s.txIndexed p n mask data pos edge.len)

/-! ## Clocks and rates (R248 to R250) -/

/-- The class of a measured rate. -/
def rateClassOf (rate : Nat) : Nat :=
  if rate = 0 then 0
  else if rateWithin 100 rate 32000000 then 1 else if rateWithin 100 rate 44100000 then 2
  else if rateWithin 100 rate 48000000 then 3 else if rateWithin 100 rate 88200000 then 4
  else if rateWithin 100 rate 96000000 then 5 else if rateWithin 100 rate 176400000 then 6
  else if rateWithin 100 rate 192000000 then 7 else 8
/-- The ASRC of a port unlocks: the outputs fade out, EV50 (R253); a running port re-enters once it is locked again (R250). -/
def State.asrcUnlock (s : State) (p : Nat) : State :=
  let x := s.port p
  if x.locked then
    (((s.setPort p { x with locked := false, fade := 2, lockTicks := 0, ratio := 0, reenter := x.reenter || x.st == .run, quality := 0 }).flag ASR_STAT 0).count
      ASR_UNLOCK_COUNT 1).portRaise p 50
  else s

/-- A slave port's measured rate: class, mismatch, the events of R248. A mismatch ends what a running port expects: it re-enters later (R250). -/
def State.portRate (s : State) (p rate : Nat) : State :=
  let x := s.port p
  let cls := rateClassOf rate
  let off := s.misrated p (s.cfgNow p) rate
  let chg := cls != x.rateClass || (x.rateRef != 0 && !rateWithin 50 rate x.rateRef)
  let s1 := (s.wr (rateA p) (w32 rate)).setPort p
    { x with rate := rate, rateClass := cls, mismatch := off, rateRef := if chg then rate else x.rateRef, reenter := x.reenter || (off && x.st == .run),
             quality := if off then 0 else x.quality, rx := if off then none else x.rx, tx := if off then none else x.tx }
  let s2 := if chg then s1.portFlag p 5 (if p < 16 then 41 else 46) else s1
  if cls != x.rateClass then s2.asrcUnlock p else s2

/-- Whether a port runs on a clock from outside, by its running or its written configuration. -/
def State.portSlave (s : State) (p : Nat) : Bool := !portMaster p (s.cfgNow p)

/-- PORT_CLOCK_LOSS (R249): no edge or preamble has come up to the end of the sample period in which the timeout expires (R7). The class becomes 0, a change
of R248. -/
def execPortClockLoss (port : Fin 24) (s : State) : Host.Outcome State Fault Refusal :=
  doneCore s (
    let p := port.val
    let x := s.port p
    if s.portSlave p && x.clock then
      let s1 := (s.wr (rateA p) 0).setPort p { x with clock := false, rateClass := 0, rate := 0, rateRef := 0, rx := none, tx := none, quality := 0,
                                                      mismatch := false, reenter := x.reenter || x.st == .run }
      let s2 := (s1.portFlag p 4 (if p < 16 then 42 else 45)).when (x.rateClass != 0) (·.portFlag p 5 (if p < 16 then 41 else 46))
      s2.asrcUnlock p
    else s)

/-- PORT_CLOCK_QUALIFY: a slave's clock has appeared or returned, with its measured rate (R249, R250). -/
def execPortClockQualify (port : Fin 24) (rate : Nat) (s : State) : Host.Outcome State Fault Refusal :=
  doneCore s (
    let p := port.val
    let x := s.port p
    if s.portSlave p && !x.clock && rate != 0 then
      ((s.setPort p { x with clock := true, lockTicks := 0, rateRef := 0, win := 0 }).portRaise p (if p < 16 then 42 else 45)).portRate p rate
    else s)

/-- RATE_WINDOW_END: the end of a window of 300 ticks, with the rate that its edges gave (log entry 82); a master reports its own while its clocks run. -/
def execRateWindowEnd (port : Fin 24) (rate : Nat) (s : State) : Host.Outcome State Fault Refusal :=
  doneCore s (
    let p := port.val
    let x := s.port p
    if !x.clock || decide (x.win < 300) then s
    else
      let t := s.setPort p { x with win := 0 }
      if s.portSlave p then t.portRate p rate else (t.wr (rateA p) (w32 rate)).setPort p { x with rate := rate, win := 0 })

/-- ASRC_LOCK: the ratio estimate has varied by less than 2 ppm over the last 300 ticks; a ratio out of range or a step of more than 0.5 % unlocks (R253). -/
def execAsrcLock (port : Fin 24) (ratio : W32) (s : State) : Host.Outcome State Fault Refusal :=
  doneCore s (
    let p := port.val
    let x := s.port p
    let r := ratio.toNat
    if !(portAsrc p x.cfg) || !x.clock || x.st == .off then s
    else if r < 0x4000000 ∨ 0x40000000 < r then (s.asrcUnlock p).flagRaise ASR_STAT 1 51 |>.flag ASR_EVSRC p
    else if x.locked then (if rateWithin 50 r x.ratio.toNat then s.setPort p { x with ratio := ratio } else s.asrcUnlock p)
    else if x.lockTicks < 300 then s
    else (s.setPort p { x with locked := true, ratio := ratio }).portRaise p 50)

/-- AES_CS: both subframes' channel-status blocks of 24 bytes, while the receive pins are not ignored (R245, R256, R257). -/
def State.aesCs (s : State) (r : Nat) (bIs : Bool) (bs : List Byte) : State :=
  let p := 16 + r
  let x := s.port p
  if leAt bs 0 1 % 2 = 1 ∧ nth 0 bs 23 ≠ crcc 0xFF (bs.take 23) then (s.count (AESR_CRC_COUNT r) 1).aesError p
  else if (if bIs then x.csB else x.csA) = bs then s
  else ((s.setPort p (if bIs then { x with csB := bs } else { x with csA := bs })).wr (AESR_CS_TICK r) s.tickLo).portFlag p 1 49
def execAesCs (rx : Fin 8) (csA csB : List Byte) (s : State) : Host.Outcome State Fault Refusal :=
  doneCore s (if portHears (16 + rx.val) (s.port (16 + rx.val)) then (s.aesCs rx.val false csA).aesCs rx.val true csB else s)

/-! ## The tick's part (R254) -/

/-- The buffer level of the steering rooted port: EV52 at each half sample beyond the first. -/
def State.rootLevel (s : State) (p : Nat) : State :=
  let x := s.port p
  if x.steering && decide (0 < x.eCnt) then
    let e := (roundDiv x.eSum x.eCnt).natAbs
    let k := (2 * e - 1) / s.cyc
    (s.setPort p { x with rootSteps := k }).when (decide (x.rootSteps < k)) (fun s => s.portRaise p 52)
  else s
/-- The marks that last one tick. -/
def State.portsClear (s : State) : State :=
  { s with ports := s.ports.map (fun q => (q.1, { q.2 with eSum := 0, eCnt := 0, fade := 0 })) }

/-! ## Read-back -/

/-- The STATE code of R245. -/
def portCode : PortState → Nat
  | .off => 0 | .starting => 1 | .run => 2 | .stopping => 3
/-- ASP_STATE and AESR_STATE without their own extra bit. -/
def State.portWord (s : State) (p : Nat) : Nat :=
  let x := s.port p
  portCode x.st + b01 x.clock * 4 + b01 (s.struct.rooted.contains p) * 8 + b01 x.steering * 16 + b01 x.mismatch * 32 + b01 x.locked * 64
    + x.leadLeft * 256 + x.rateClass * 65536
/-- The computed registers of a port's window. -/
def State.portView (s : State) (p off : Nat) : Option W32 :=
  let x := s.port p
  if p < 16 then
    if off = 0x20 then some (w32 (s.portWord p))
    else if off = 0x44 then some (if x.locked then x.ratio else 0)
    else none
  else if p < 24 then
    let cs := if s.bit (portBase p + 0x40) 0 then x.csB else x.csA
    if off = 0x14 then some (w32 (s.portWord p + leAt x.csA 0 1 % 2 * 128))
    else if off = 0x3C then some (if x.locked then x.ratio else 0)
    else if 0x44 ≤ off ∧ off ≤ 0x58 then some (w32 (leAt cs (off - 0x44) 4))
    else none
  else if off = 0x14 then some (w32 (portCode x.st + x.leadLeft * 256))
  else none

/-- The computed registers of ASR. -/
def State.asrView (s : State) (off : Nat) : Option W32 :=
  if off = 0x10 then some (w32 s.struct.asrc.length)
  else if off = 0x1C then some (match spFind s.struct.asrc (s.rdF ASR_CH_RSEL 6 0) with
    | some i => w32 (2 ^ 31 + b01 i.tx * 2 ^ 30 + i.port * 2 ^ 16 + i.slot)
    | none => 0)
  else if 0x20 ≤ off ∧ off ≤ 0x2C then
    let g := (off - 0x20) / 4
    some (w32 (foldS (fun n (q : Nat × AsrcInfo) => n + b01 (q.1 / 32 == g && (s.port q.2.port).locked) * 2 ^ (q.1 % 32)) 0 s.struct.asrc))
  else none

end Sys2Proof.Machine
end

