-- ==== Sys2Proof/Machine/Clock.lean ====
section
/-! DEFINITION. Clock references (chapter 09): qualification, the jump detector, selection, switching by phase build-out,
disputes, free run with the holdover bound, and absorption. -/

namespace Sys2Proof.Machine

/-- A reference input at reset. -/
def refInit : RefIn :=
  { present := false, st := .absent, reason := 0, disputed := false, minority := false, agreeLeft := 0, guardLeft := 0, fail := 0, freq := 0,
    winClean := false, phi := 0, hist := [] }
def State.ref (s : State) (i : Nat) : RefIn := spGet refInit s.clk.refs i
def State.modRef (s : State) (i : Nat) (f : RefIn → RefIn) : State :=
  { s with clk := { s.clk with refs := spPut s.clk.refs i (f (s.ref i)) } }
def State.modClk (s : State) (f : ClkSt → ClkSt) : State := { s with clk := f s.clk }

/-- The six inputs. -/
def refNums : List Nat := [0, 1, 2, 3, 4, 5]
/-- CLK_REF_CFG.EN, RANK, JUMP and WINDOW (R284). -/
def State.refEn (s : State) (i : Nat) : Bool := s.bit (CLK_REF_CFG i) 0
def State.refRank (s : State) (i : Nat) : Nat := s.rdF (CLK_REF_CFG i) 3 1
def State.refJump (s : State) (i : Nat) : Nat := s.rdF (CLK_REF_CFG i) 23 8
def State.refWindow (s : State) (i : Nat) : Nat := s.rdF (CLK_REF_CFG i) 31 24
/-- The guard time in ticks. -/
def State.guardTicks (s : State) : Nat := s.rdF CLK_GUARD 9 0 * 3000

/-- The port bound to input 4 or 5 (R268). -/
def State.rootPort (s : State) (i : Nat) : Option Nat := s.struct.rooted[i - 4]?
/-- Whether an input whose presence the module itself derives is present (R268); word clock and 10 MHz are pins. -/
def State.refDerived (s : State) (i : Nat) : Bool :=
  if i = 0 then s.tim.qualified
  else if i = 2 then
    let x := s.port (16 + s.rdF CLK_MISC 6 4)
    s.bit (portCtlA (16 + s.rdF CLK_MISC 6 4)) 0 && x.clock && x.rateClass == s.sysClass
  else if i = 4 ∨ i = 5 then
    match s.rootPort i with
    | some p => (s.port p).st == .run && (s.port p).clock && !(s.port p).mismatch
    | none => false
  else (s.ref i).present

/-- An input raises an event (R282): CLK_EVSRC names it. -/
def State.clkRaise (s : State) (i e : Nat) : State := (s.flag CLK_EVSRC i).raise e

/-- Eligible inputs (R270): QUALIFIED and not the minority of a dispute. -/
def RefIn.eligible (x : RefIn) : Bool := x.st == .qualified && !x.minority
def State.eligibleRefs (s : State) : List Nat := refNums.filter (fun i => (s.ref i).eligible)

/-- An input is disqualified, or its guard time restarts, at a boundary (R270); the guard time's first tick is the one that begins there. Reasons: 1 LOST,
2 JUMP, 3 FREQ. -/
def State.refFail (s : State) (i reason : Nat) : State :=
  let x := s.ref i
  let active := x.st == .qualified || (x.st == .qualifying && reason != 3)
  let t := if x.st == .disqualified || active then s.modRef i (fun x => { x with guardLeft := s.guardTicks + 1 }) else s
  if active then (t.modRef i (fun x => { x with st := .disqualified, reason := reason })).clkRaise i 24 else t
/-- A disqualification is found within a tick: it takes effect at the boundary that closes it. -/
def State.refMark (s : State) (i reason : Nat) : State := s.modRef i (fun x => { x with fail := if x.fail = 0 then reason else x.fail })
/-- The closing boundary: what was found takes effect. -/
def State.refSettle (s : State) (i : Nat) : State :=
  if (s.ref i).fail = 0 then s else (s.refFail i (s.ref i).fail).modRef i (fun x => { x with fail := 0 })

/-- An input becomes present (R270). -/
def State.refArrive (s : State) (i : Nat) : State :=
  let x := s.ref i
  if x.present && x.st != .absent then s
  else s.modRef i (fun x => { x with present := true, winClean := false, hist := [],
                                     st := if s.refEn i && x.st == .absent then .qualifying else x.st })
/-- An input ceases to be present: EV26, and EV24 at the closing boundary (R270). -/
def State.refLeave (s : State) (i : Nat) : State :=
  if (s.ref i).present then
    let t := s.modRef i (fun x => { x with present := false, winClean := false, hist := [] })
    if s.refEn i then (t.clkRaise i 26).refMark i 1 else t
  else s

/-- REF_PRESENT: an edge, a lock or a qualified time is there again. -/
def execRefPresent (inp : Fin 6) (s : State) : Host.Outcome State Fault Refusal :=
  doneCore s (if inp.val = 1 ∨ inp.val = 3 ∨ s.refDerived inp.val then s.refArrive inp.val else s)
/-- REF_LOST: the loss timeout of R268 has expired without an edge up to the end of its last period (R7), or the source has gone. -/
def execRefLost (inp : Fin 6) (s : State) : Host.Outcome State Fault Refusal :=
  doneCore s (if inp.val = 1 ∨ inp.val = 3 ∨ !s.refDerived inp.val then s.refLeave inp.val else s)

/-- The start of a boundary for one input: a cleared EN makes it ABSENT, and what the module derives is followed. -/
def State.refGate (s : State) (i : Nat) : State :=
  if s.refEn i then if s.refDerived i then s.refArrive i else s.refLeave i
  else if (s.ref i).st = .absent then s.modRef i (fun x => { x with present := s.refDerived i })
  else s.modRef i (fun x => { x with st := .absent, present := s.refDerived i, minority := false, disputed := false, winClean := false,
                                     hist := [], guardLeft := 0, fail := 0 })

/-! ## Measurement at a boundary (R269, R271) -/

/-- What was measured for an input. -/
def findPhi : List (Nat × Int) → Nat → Option Int
  | [], _ => none
  | (j, p) :: r, i => if j = i then some p else findPhi r i

/-- The signed time in ns from the boundary to the nearest point of the network tick grid (R16: every 1/3000 s). -/
def gridPhi (now : Nat) : Int := roundDiv (roundDiv (3 * (now : Int)) 1000000 * 1000000) 3 - now

/-- φ of an input at this boundary: computed where the module holds what it is computed from, else what the converter saw; a
present input of which nothing is shown has a free one. -/
def State.phiOf (s : State) (obs : List (Nat × Int)) (i : Nat) : Int × State :=
  let x := s.ref i
  if i = 0 then (gridPhi s.tim.now, s)
  else if i = 4 ∨ i = 5 then
    match s.rootPort i with
    | some p => (if (s.port p).eCnt = 0 then x.phi else roundDiv ((s.port p).eSum * 4069) (100 * (s.port p).eCnt), s)
    | none => (0, s)
  else match findPhi obs i with
    | some p => (p, s)
    | none => (Config.freeInt s.free, s.drawn)

/-- The jump of R271, from φ and the past φ, latest first: none with less than 3001 of them. -/
def jumpOf (phi : Int) (hist : List Int) (w thr : Nat) : Bool :=
  match hist.head?, hist[3000]?, hist[w - 1]? with
  | some a, some b, some p => decide (3000 * (thr : Int) < ((phi - p) * 3000 - (w : Int) * (a - b)).natAbs)
  | _, _, _ => false

/-- Measures one enabled and present input; every jump is counted and flagged, and found for the boundary that closes the tick (R271, R283, R286). -/
def State.refMeasure (obs : List (Nat × Int)) (s : State) (i : Nat) : State :=
  let x := s.ref i
  if s.refEn i && x.present && x.st != .absent then
    let (p, t) := s.phiOf obs i
    let jump := jumpOf p x.hist (s.refWindow i) (s.refJump i)
    let t := if jump then (((t.count CLK_JUMPS 1).flag CLK_STAT 1).refMark i 2).modRef i (fun x => { x with winClean := false }) else t
    t.modRef i (fun x => { x with phi := p, hist := (p :: x.hist).take 3256 })
  else s

/-! ## Qualification (R270) and disputes (R278) -/

/-- A frequency lies outside ±FWIN. -/
def State.outside (s : State) (f : Int) : Bool := decide (s.rdF CLK_FWIN 16 0 < f.natAbs)
/-- An input qualifies: EV25. -/
def State.refQualify (s : State) (i : Nat) : State := (s.modRef i (fun x => { x with st := .qualified, guardLeft := 0 })).clkRaise i 25

/-- The end of a frequency window for one input. -/
def State.refWindowEnd (s : State) (q : Nat × Int) : State :=
  let i := q.1
  let x := s.ref i
  if decide (i < 6) && s.refEn i && x.present && x.st != .absent then
    let t := s.modRef i (fun x => { x with freq := q.2, winClean := true })
    if s.outside q.2 then (t.clkRaise i 32).refMark i 3
    else if x.st == .qualifying && x.winClean && x.fail == 0 then t.refQualify i
    else t
  else s

/-- Whether two frequencies differ by more than CLK_DISPUTE. -/
def State.differ (s : State) (i j : Nat) : Bool := decide (s.rdF CLK_DISPUTE 15 0 < ((s.ref i).freq - (s.ref j).freq).natAbs)
/-- An input that R278 compares: eligible or disputed. -/
def RefIn.compared (x : RefIn) : Bool := x.eligible || x.disputed
/-- The pairs of equal rank that R278 compares. -/
def State.rankPairs (s : State) : List (Nat × Nat) :=
  (refNums.flatMap (fun i => refNums.map (fun j => (i, j)))).filter
    (fun p => decide (p.1 < p.2) && s.refRank p.1 == s.refRank p.2 && (s.ref p.1).compared && (s.ref p.2).compared)

/-- One pair that differs: both are DISPUTED, EV29. -/
def State.dispute (s : State) (p : Nat × Nat) : State :=
  let mark (x : RefIn) : RefIn := { x with disputed := true, minority := false, agreeLeft := s.guardTicks }
  let t := (s.modRef p.1 mark).modRef p.2 mark
  (((t.count CLK_DISPUTES 1).flag CLK_STAT 2).flag CLK_EVSRC p.1).clkRaise p.2 29
/-- The input of a pair that a third one speaks against: the minority (R278's table). -/
def State.disputeLost (s : State) (p : Nat × Nat) : Option Nat :=
  (refNums.find? (fun k => k != p.1 && k != p.2 && (s.ref k).st == .qualified && (s.differ k p.1 != s.differ k p.2))).map
    (fun k => if s.differ k p.1 then p.1 else p.2)

/-- A disputed input that differs from no other of its rank comes a window closer to the end of its dispute. -/
def State.agree (apart : List (Nat × Nat)) (s : State) (i : Nat) : State :=
  let x := s.ref i
  if x.disputed && !apart.any (fun p => p.1 == i || p.2 == i) then
    if x.agreeLeft ≤ 3000 then s.modRef i (fun x => { x with disputed := false, minority := false, agreeLeft := 0 })
    else s.modRef i (fun x => { x with agreeLeft := x.agreeLeft - 3000 })
  else s

/-- A frequency window ends with the frequencies measured in it; that of a present input of which nothing is shown is a free value. -/
def State.freqEnd (s : State) (freqs : List (Nat × Int)) : State :=
  let one (t : State) (i : Nat) : State :=
    match freqs.find? (fun q => q.1 == i) with
    | some q => t.refWindowEnd q
    | none => if s.refEn i && (s.ref i).present then (t.drawn).refWindowEnd (i, Config.freeInt t.free) else t
  let t := foldS one s refNums
  let apart := t.rankPairs.filter (fun p => t.differ p.1 p.2)
  let t := foldS State.dispute (foldS (State.agree apart) t refNums) apart
  foldS (fun u i => u.modRef i (fun x => { x with minority := true })) t (apart.filterMap t.disputeLost)
/-- FREQ_WINDOW_END: the window of 3000 ticks that ends with the running one (R269, R270, R278). -/
def execFreqWindowEnd (freqs : List (Nat × Int)) (s : State) : Host.Outcome State Fault Refusal :=
  doneCore s (if s.clk.win = 2999 ∧ s.clk.winDone = false then (s.freqEnd freqs).modClk (fun c => { c with winDone := true }) else s)
/-- A boundary's part of the frequency window. -/
def State.windowTick (s : State) : State :=
  if s.clk.win < 2999 then s.modClk (fun c => { c with win := c.win + 1 })
  else (if s.clk.winDone then s else s.freqEnd []).modClk (fun c => { c with win := 0, winDone := false })

/-- The guard time of an input ends: it qualifies where its conditions have held (R270). -/
def State.guardEnd (s : State) (i : Nat) : State :=
  let x := s.ref i
  if x.st == .disqualified && x.present && x.fail == 0 && !s.outside x.freq then s.refQualify i else s
/-- A tick of an input's guard time, which runs while the input is present. -/
def State.guardTick (s : State) (i : Nat) : State :=
  let x := s.ref i
  if x.st == .disqualified && x.present then
    if x.guardLeft ≤ 1 then s.guardEnd i else s.modRef i (fun x => { x with guardLeft := x.guardLeft - 1 })
  else s
/-- GUARD_EXPIRY: the guard time's last tick. -/
def execGuardExpiry (inp : Fin 6) (s : State) : Host.Outcome State Fault Refusal :=
  doneCore s (if (s.ref inp.val).guardLeft ≤ 1 then s.guardTick inp.val else s)

/-! ## Switching (R273, R274, R277, R279) -/

/-- ±100 ppm in the unit of the output frequency. -/
def pullLimit : Int := 300000000
/-- A port's STEERING follows the input that the loop is closed on. -/
def State.steer (s : State) : State :=
  let on (p : Nat) : Bool := (s.clk.selected == 4 && s.rootPort 4 == some p) || (s.clk.selected == 5 && s.rootPort 5 == some p)
  { s with ports := s.ports.map (fun q => (q.1, { q.2 with steering := on q.1 })) }
/-- The output frequency held within ±100 ppm; EV33 where the limit is reached. -/
def State.setOut (s : State) (f : Int) : State :=
  let lim := decide (pullLimit ≤ f.natAbs)
  let t := s.modClk (fun c => { c with outFreq := clampI (-pullLimit) pullLimit f, atLimit := lim })
  if lim && !s.clk.atLimit then t.flagRaise CLK_STAT 5 33 else t

/-- A switch starts (R272, R273, R277): target 0 to 5 or free run 6. -/
def State.switchTo (s : State) (target : Nat) : State :=
  let c := s.clk
  let t := if c.selected = 0 then { s with sys := { s.sys with aligned := false } } else s
  let bo := if c.pll = .absorbing then (s.ref 0).phi else c.buildout
  let t := t.modClk (fun c => { c with pll := .switching, target := target, selected := 7, wtrLeft := none, absorbDev := 0, targetLost := false,
                                       targetFreq := if target = 6 then 0 else (s.ref target).freq,
                                       fromFree := c.fromFree || c.pll == .freeRun, buildout := bo })
  let t := ((t.steer.count CLK_SWITCHES 1).flag CLK_STAT 0)
  let t := if target = 6 then t.flagRaise CLK_STAT 3 30 else t
  t.raise 27

/-- The loop closes on an input: its φ becomes the build-out offset, or is absorbed (R273, R277); the holdover timer stops (R280). -/
def State.closeLoop (s : State) (i : Nat) : State :=
  let off := (s.ref i).phi
  let absorb := i == 0 && s.bit CLK_CTL 2 && s.clk.epochValid && decide (off.natAbs ≤ s.rdF CLK_ABSORB_MAX 17 0)
  let from_ := s.clk.fromFree
  let t := s.modClk (fun c => { c with pll := if absorb then .absorbing else .locked, selected := i, target := 7, buildout := off,
                                       holdTicks := none, holdE0 := 0, holdTe := 0, holdExceeded := false, fromFree := false, absorbDev := 0 })
  let t := t.steer.raise 28
  if from_ then t.flagRaise CLK_STAT 3 30 else t

/-- The switch ends at this boundary (R273, R274, R279). -/
def State.switchEnd (s : State) : State :=
  let c := s.clk
  if c.target = 6 then (s.modClk (fun c => { c with pll := .freeRun, target := 7, selected := 7, buildout := 0, fromFree := true })).raise 28
  else if c.targetLost then (s.modClk (fun c => { c with pll := .locked, target := 7, selected := 7 })).raise 28
  else s.closeLoop c.target

/-- The frequency the slew heads for: the target's latest measurement while it is eligible. -/
def State.switchAim (s : State) : State :=
  let c := s.clk
  if c.target < 6 then
    if (s.ref c.target).eligible && !c.targetLost then s.modClk (fun c => { c with targetFreq := (s.ref c.target).freq })
    else s.modClk (fun c => { c with targetLost := true })
  else s

/-- A tick of slew: the frequency after it. -/
def slewed (out aim : Int) (slew : Nat) : Int := if (aim - out).natAbs ≤ slew then aim else if out < aim then out + slew else out - slew
/-- Whether a switch ends with the output at a frequency: within 1 ppb of the target, or at the limit. -/
def switchOver (out aim : Int) : Bool := decide ((aim - out).natAbs ≤ 3000) || (decide (pullLimit ≤ out.natAbs) && decide (out.natAbs ≤ aim.natAbs))

/-- The output of a switch at the next boundary. -/
def State.switchOut (s : State) : Int := slewed s.clk.outFreq (3000 * s.clk.targetFreq) (s.rdF CLK_SLEW 6 0)
/-- A tick of a switch. -/
def State.switchTick (s : State) : State :=
  let s := s.switchAim
  let f := s.switchOut
  let t := s.setOut f
  if switchOver t.clk.outFreq (3000 * t.clk.targetFreq) then t.switchEnd else t

/-- The deviation of an absorption after another tick (R277): at most 0.5 ppm towards the offset's end, reached and left at CLK_SLEW; it is
left when no more than the way of the return ramp remains. -/
def absorbStep (dev off : Int) (slew : Nat) : Int :=
  let brake := decide (2 * slew * off.natAbs * 9000000 ≤ dev.natAbs * dev.natAbs)
  let goal : Int := if brake then 0 else if 0 < off then -1500000 else 1500000
  slewed dev goal slew
/-- The offset has been absorbed: ALIGNED sets, EV34 (R277). The deviation that is left goes at CLK_SLEW as the loop follows its reference. -/
def State.absorbEnd (s : State) : State :=
  (({ s with sys := { s.sys with aligned := true } }.modClk (fun c => { c with pll := .locked, absorbDev := 0, buildout := 0 })).wr TCK_EPOCH_OFS 0).raise 34

/-- The bandwidth code of an input's loop (R284). -/
def State.refBw (s : State) (i : Nat) : Nat := s.rdF (CLK_REF_CFG i) 7 4
/-- The frequency that the closed loop heads for (R275): the reference's, corrected so that φ moves towards the build-out offset (R273), by a gain of the
programmed bandwidth. -/
def State.loopAim (s : State) : Int :=
  let x := s.ref s.clk.selected
  3000 * x.freq - (Config.loopGain (s.refBw s.clk.selected) : Int) * (x.phi - s.clk.buildout)
/-- A tick of the loop: the frequency keeps its value and moves at no more than CLK_SLEW, so that it never steps (R275, R279; log entry 39); an absorption adds its
deviation, unless the input has just ceased to be eligible, which ends it (R277). -/
def State.loopTick (s : State) : State :=
  let slew := s.rdF CLK_SLEW 6 0
  match s.clk.pll with
  | .stopped => s
  | .freeRun => s.setOut (slewed s.clk.outFreq 0 slew)
  | .switching => s.switchTick
  | .locked => s.setOut (slewed s.clk.outFreq s.loopAim slew)
  | .absorbing =>
    let off := (s.ref 0).phi
    if !(s.ref 0).eligible then s
    else if off.natAbs < 20 then s.absorbEnd
    else
      let dev := absorbStep s.clk.absorbDev off slew
      let base := slewed (s.clk.outFreq - s.clk.absorbDev) (3000 * (s.ref 0).freq) slew
      (s.modClk (fun c => { c with absorbDev := dev, buildout := off })).setOut (base + dev)

/-- The selector of R272. -/
def State.selectRef (s : State) : State :=
  let c := s.clk
  let cands := s.eligibleRefs
  let better (a b : Nat) : Bool := decide (s.refRank a < s.refRank b)
  if c.pll = .switching ∨ c.pll = .stopped then s
  else match cands with
  | [] => if c.pll = .freeRun then s else s.switchTo 6
  | i :: is =>
    let first := foldS (fun b k => if better k b then k else b) i is
    let best := if cands.contains c.selected && !better first c.selected then c.selected else first
    if !cands.contains c.selected then s.switchTo best
    else if better best c.selected && s.bit CLK_CTL 1 then
      match c.wtrLeft with
      | none => s.modClk (fun c => { c with wtrLeft := some (s.rdF CLK_WTR 9 0 * 3000) })
      | some n => if n ≤ 1 then s.switchTo best else s.modClk (fun c => { c with wtrLeft := some (n - 1) })
    else s.modClk (fun c => { c with wtrLeft := none })

/-- The loop and the selector at the coming boundary, done by the command that names what they bring about. -/
def State.loopEarly (s : State) : State := ((s.loopTick).selectRef).modClk (fun c => { c with looped := true })
/-- The loop and the selector of a boundary; where a command has done them, an input found ineligible since is still dropped. -/
def State.loopStage (s : State) : State :=
  (if !s.clk.looped then (s.loopTick).selectRef
   else if (s.ref s.clk.selected).eligible then s else s.selectRef).modClk (fun c => { c with looped := false })
/-- WTR_EXPIRY: the last tick of the wait-to-restore. -/
def execWtrExpiry (s : State) : Host.Outcome State Fault Refusal :=
  doneCore s (match s.clk.wtrLeft with
    | some n => if n ≤ 1 ∧ s.clk.looped = false then s.loopEarly else s
    | none => s)
/-- SWITCH_DONE: the switch that the next tick of slew ends; the selector runs where it ended without closing the loop. -/
def execSwitchDone (s : State) : Host.Outcome State Fault Refusal :=
  doneCore s (if s.clk.pll = .switching ∧ (s.switchTick).clk.pll ≠ .switching ∧ s.clk.looped = false then s.loopEarly else s)
/-- ABSORBED: the offset has fallen below 20 ns. -/
def execAbsorbed (s : State) : Host.Outcome State Fault Refusal :=
  doneCore s (if s.clk.pll = .absorbing ∧ (s.ref 0).eligible ∧ (s.ref 0).phi.natAbs < 20 ∧ s.clk.looped = false then s.loopEarly else s)

/-! ## Holdover (R280) -/

/-- y0 in ppb and twice d in ppb per day, by class. -/
def holdClass (cls : Nat) : Nat × Nat :=
  match cls with
  | 1 => (280, 8) | 2 => (50, 2) | 3 => (10, 1) | _ => (1000, 20)
/-- The denominator of te over ticks: 3000 × 4 × 86,400 × 3000. -/
def teDen : Nat := 3110400000000
/-- te in ns over `teDen`, after n ticks. -/
def teNum (cls e0 n : Nat) : Nat := e0 * teDen + (holdClass cls).1 * n * 1036800000 + (holdClass cls).2 * n * n
/-- te first exceeds CLK_HOLD_SPEC after n ticks: HOLD_EXCEEDED, EV31. -/
def State.holdJudge (s : State) (n : Nat) : State :=
  if !s.clk.holdExceeded && decide ((s.rd CLK_HOLD_SPEC).toNat * teDen < teNum (s.rdF CLK_HOLD_CFG 2 0) s.clk.holdE0 n) then
    (s.modClk (fun c => { c with holdExceeded := true })).flagRaise CLK_STAT 4 31
  else s
/-- The holdover timer stands at n ticks: te is reported and judged. -/
def State.holdAt (s : State) (n : Nat) : State :=
  (s.modClk (fun c => { c with holdTicks := some n, holdTe := teNum (s.rdF CLK_HOLD_CFG 2 0) c.holdE0 n / teDen })).holdJudge n
/-- The holdover timer at a boundary (R280): it starts at the one at which the last eligible input is lost, from |φ − build-out| of that input at its last
eligible tick. -/
def State.holdTick (s : State) : State :=
  match s.eligibleRefs, s.clk.holdTicks, s.clk.lastE0 with
  | _, some n, _ => s.holdAt (n + 1)
  | [], none, some e => (s.modClk (fun c => { c with holdE0 := e, lastE0 := none })).holdAt 0
  | _, _, _ => s
/-- What the timer would start from. -/
def State.holdNote (s : State) : State :=
  match s.eligibleRefs with
  | [] => s
  | i :: _ =>
    let j := if (s.ref s.clk.selected).eligible then s.clk.selected else i
    s.modClk (fun c => { c with lastE0 := some ((s.ref j).phi - c.buildout).natAbs })
/-- HOLDOVER: the bound is passed within the running tick. -/
def execHoldover (s : State) : Host.Outcome State Fault Refusal :=
  doneCore s (match s.clk.holdTicks with
    | none => s
    | some n => s.holdJudge (n + 1))

/-! ## The boundary, starts, and the twin (R272, R276, R281) -/

/-- The module follows the active twin's marker. -/
def State.followsMarker (s : State) : Bool := s.twn.linkUp && s.twn.role != .alone && s.twn.role != .active

/-- TCK_EPOCH_OFS after a measurement of network time: 0 while ALIGNED (R17). -/
def State.epochTick (s : State) : State :=
  if (s.ref 0).present && s.sys.mediaRun then s.wr TCK_EPOCH_OFS (if s.sys.aligned then 0 else i32sat (-(gridPhi s.tim.now))) else s

/-- Qualification and measurement at a tick boundary, with the media clock stopped too (R276). -/
def State.refTick (s : State) (obs : List (Nat × Int)) : State :=
  let s := foldS State.refGate s refNums
  let s := foldS (State.refMeasure obs) s refNums
  let s := foldS State.refSettle s.windowTick refNums
  foldS State.guardTick s refNums
/-- The reference subsystem at a tick boundary. -/
def State.clkTick (s : State) (obs : List (Nat × Int)) : State :=
  let s := ((s.refTick obs).epochTick).holdTick
  (if s.followsMarker then s else s.loopStage).holdNote

/-- The best eligible input of R272 with nothing selected. -/
def State.bestRef (s : State) : Option Nat :=
  match s.eligibleRefs with
  | [] => none
  | i :: is => some (foldS (fun b k => if s.refRank k < s.refRank b then k else b) i is)

/-- The media clock starts (R276); `net`: the counters were loaded from network time. -/
def State.pllStart (s : State) (net : Bool) : State :=
  let s := s.modClk (fun c => { c with epochValid := net, wtrLeft := none, target := 7, absorbDev := 0, fromFree := false, looped := false })
  match s.bestRef with
  | some i => ((s.modClk (fun c => { c with pll := .locked, selected := i, holdTicks := none, holdTe := 0, holdExceeded := false,
                                            buildout := if i = 0 && net then 0 else (s.ref i).phi })).setOut (3000 * (s.ref i).freq)).steer
  | none => ((s.modClk (fun c => { c with pll := .freeRun, selected := 7, buildout := 0 })).setOut 0).steer
/-- The media clock stops. -/
def State.pllStop (s : State) : State :=
  (s.modClk (fun c => { c with pll := .stopped, looped := false, selected := 7, target := 7, wtrLeft := none, absorbDev := 0 })).steer

/-- A new active closes its loop on its best eligible input by a switch from its present frequency (R281). -/
def State.clkTakeover (s : State) : State := s.switchTo (s.bestRef.getD 6)

/-- TICK_MARKER: the standby's PLL is steered to the active's boundary, which follows its own by `offset` ns, with a loop of 100 Hz (R281). -/
def execTickMarker (offset : Int) (s : State) : Host.Outcome State Fault Refusal :=
  doneCore s (if s.followsMarker && s.sys.mediaRun then
    (s.modClk (fun c => { c with pll := .locked, selected := 7, target := 7, wtrLeft := none })).setOut (s.clk.outFreq - (Config.loopGain 13 : Int) * offset)
  else s)

/-! ## Registers (R283 to R285) -/

/-- The bandwidth codes of an input's type (R268). -/
def bwRange (i : Nat) : Nat × Nat := match i with | 0 => (3, 9) | 1 => (8, 12) | 2 => (8, 12) | 3 => (6, 11) | _ => (0, 6)
/-- A value that a CLK write may not have. -/
def clkBadArg (a : Nat) (v : W32) : Bool :=
  if a = CLK_WTR then decide (600 < fld v 9 0)
  else if a = CLK_GUARD then decide (fld v 9 0 = 0) || decide (600 < fld v 9 0)
  else if a = CLK_DISPUTE then decide (fld v 15 0 < 100) || decide (50000 < fld v 15 0)
  else if a = CLK_FWIN then decide (fld v 16 0 < 1000) || decide (100000 < fld v 16 0)
  else if a = CLK_SLEW then decide (fld v 6 0 < 10) || decide (100 < fld v 6 0)
  else if a = CLK_HOLD_SPEC then decide (v.toNat < 10)
  else if a = CLK_ABSORB_MAX then decide (200000 < fld v 17 0)
  else match refNums.find? (fun i => a == CLK_REF_CFG i) with
    | some i => decide (fld v 31 24 = 0) || decide (fld v 23 8 < 10) || decide (fld v 7 4 < (bwRange i).1) || decide ((bwRange i).2 < fld v 7 4)
    | none => false

/-- The STATE code of R283. -/
def State.refCode (s : State) (i : Nat) : Nat :=
  if 4 ≤ i ∧ s.rootPort i = none then 5
  else if (s.ref i).minority && (s.ref i).st == .qualified then 4
  else match (s.ref i).st with | .absent => 0 | .qualifying => 1 | .qualified => 2 | .disqualified => 3
def pllCode : PllState → Nat
  | .stopped => 0 | .freeRun => 1 | .switching => 2 | .locked => 3 | .absorbing => 4

/-- The computed registers of CLK. -/
def State.clkView (s : State) (off : Nat) : Option W32 :=
  let c := s.clk
  if off = 0x10 then
    some (w32 (pllCode c.pll + c.selected * 16 + c.target * 256 + b01 c.wtrLeft.isSome * 4096 + b01 c.holdExceeded * 8192
      + b01 c.atLimit * 16384 + b01 c.epochValid * 32768))
  else if off = 0x14 then some (i32 (roundDiv c.outFreq 3000))
  else if off = 0x34 then some (w32 (satN 32 c.holdTe))
  else if off = 0x40 then some (i32sat c.buildout)
  else if 0x80 ≤ off ∧ off < 0xE0 then
    let i := (off - 0x80) / 16
    let x := s.ref i
    match off % 16 with
    | 4 => some (w32 (s.refCode i + x.reason * 16 + b01 x.disputed * 256 + b01 (c.selected == i) * 512
             + (if x.st = .disqualified then (x.guardLeft + 2999) / 3000 else 0) * 65536))
    | 8 => some (i32sat x.freq)
    | 12 => some (i32sat x.phi)
    | _ => none
  else none

end Sys2Proof.Machine
end

