-- ==== Sys2Proof/Machine/Stream.lean ====
section
/-! DEFINITION. Stream descriptors, the jitter buffers and the merge (chapter 10: R291 to R293, R295, R298 to R300, R303). -/

namespace Sys2Proof.Machine

/-! ## Ports -/

/-- A network port at reset. -/
def netPortInit : NetPort :=
  { up := false, los := false, modAbs := false, an := false, fec := false, speed := 0, v2Left := 0, paused := 0, txOfs := 20,
    used := 0, queries := [] }
def State.netPort (s : State) (p : Nat) : NetPort := spGet netPortInit s.net.ports p
def State.modNetPort (s : State) (p : Nat) (f : NetPort → NetPort) : State :=
  { s with net := { s.net with ports := spPut s.net.ports p (f (s.netPort p)) } }
/-- NET_CTL.ENABLE, NET_CFG.TYPE, JUMBO, IGMP_AUTO and PAUSE_HONOUR of a port (R309, R310). -/
def State.netOn (s : State) (p : Nat) : Bool := s.bit (NET_CTL p) 0
def State.netType (s : State) (p : Nat) : Nat := s.rdF (NET_CFG p) 2 0
def State.netJumbo (s : State) (p : Nat) : Bool := s.bit (NET_CFG p) 6
def State.netIgmp (s : State) (p : Nat) : Bool := s.bit (NET_CFG p) 8

/-! ## Streams -/

/-- A stream of the image that nothing has been loaded into. -/
def strInit : Stream :=
  { desc := List.replicate 16 0, st := .off, legA := false, legB := false, lostA := false, lostB := false, arrA := false, arrB := false,
    lateA := false, lateB := false, quietA := 0, quietB := 0, quiet := 0, jitter := [], seen := [], rgA := 0, rgB := 0, pkts := 0, late := 0, early := 0, dup := 0,
    pad := 0, malf := 0, guard := 0, diverge := 0, mMin := none, mMax := none, marMin := none, marMax := none }
/-- Stream k: a receive stream's index, a transmit stream's plus 1024. -/
def State.str (s : State) (k : Nat) : Stream := spGet strInit s.net.streams k
def State.setStr (s : State) (k : Nat) (x : Stream) : State := { s with net := { s.net with streams := spPut s.net.streams k x } }
def State.modStr (s : State) (k : Nat) (f : Stream → Stream) : State := s.setStr k (f (s.str k))
/-- The channels the image binds to a stream; none for a stream it does not bind. -/
def State.strChans (s : State) (k : Nat) : Option Nat :=
  if k < 1024 then spFind s.struct.rxStreams k else spFind s.struct.txStreams (k - 1024)
/-- The streams in one direction. -/
def State.rxKeys (s : State) : List Nat := s.struct.rxStreams.map (·.1)
def State.txKeys (s : State) : List Nat := s.struct.txStreams.map (fun q => q.1 + 1024)

/-- Descriptor words and fields (R292). -/
def Stream.d (x : Stream) (i : Nat) : W32 := nth 0 x.desc i
def Stream.legs (x : Stream) : Nat := fld (x.d 0) 1 0
def Stream.pair (x : Stream) : Nat := fld (x.d 0) 2 2
def Stream.v6 (x : Stream) : Bool := bitOf (x.d 0) 3
def Stream.l24 (x : Stream) : Bool := fld (x.d 0) 5 4 == 1
def Stream.ptime (x : Stream) : Nat := match fld (x.d 0) 7 6 with | 0 => 1 | 1 => 3 | _ => 12
def Stream.jb (x : Stream) : Nat := fld (x.d 0) 13 8
def Stream.timeout (x : Stream) : Nat := fld (x.d 0) 21 14
def Stream.pt (x : Stream) : Nat := fld (x.d 0) 28 22
def Stream.dport (x : Stream) : Nat := fld (x.d 1) 15 0
def Stream.src (x : Stream) : List W32 := (x.desc.drop 8).take 4
def Stream.dst (x : Stream) : List W32 := (x.desc.drop 12).take 4
/-- Whether a stream uses a leg: false is leg A. -/
def Stream.usesLeg (x : Stream) (b : Bool) : Bool := bitOf (x.d 0) (b01 b)
def Stream.on (x : Stream) : Bool := x.st != .off
/-- The ports a stream uses. -/
def Stream.ports (x : Stream) : List Nat := (if x.usesLeg false then [2 * x.pair] else []) ++ (if x.usesLeg true then [2 * x.pair + 1] else [])
/-- A multicast destination. -/
def multicast (v6 : Bool) (dst : List W32) : Bool :=
  if v6 then fld (nth 0 dst 0) 31 24 == 0xFF else fld (nth 0 dst 0) 31 28 == 0xE

/-- Raises a stream's event: STR_LAST_EV names it (R308). -/
def State.strMark (s : State) (k e : Nat) : State := s.wr STR_LAST_EV (w32 (k % 1024 + k / 1024 * 32768 + e * 65536))
def State.strRaise (s : State) (k e : Nat) : State := (s.strMark k e).raise e
def State.strRaiseOnce (s : State) (k e : Nat) : State := if s.sys.onceTick.contains e then s else (s.strMark k e).raiseOnce e

/-! ## The OPs of STR_APPLY (R291, R293, R295) -/

/-- A descriptor with a value that R292 marks refused, or a zero word or bits that are not zero. -/
def descBad (tx : Bool) (d : List W32) : Bool :=
  let w (i : Nat) : W32 := nth 0 d i
  let v6 := bitOf (w 0) 3
  decide (fld (w 0) 1 0 = 0) || decide (2 ≤ fld (w 0) 5 4) || decide (fld (w 0) 31 29 ≠ 0)
    || (if tx then decide (fld (w 0) 7 6 = 3) || decide (fld (w 4) 7 0 = 0)
        else decide (fld (w 0) 13 8 = 0) || decide (48 < fld (w 0) 13 8) || decide (fld (w 0) 21 14 = 0)
          || decide (fld (w 4) 15 8 = 0) || decide (64 < fld (w 4) 15 8))
    || decide (fld (w 4) 31 16 ≠ 0) || w 5 != 0 || w 6 != 0 || w 7 != 0
    || (!v6 && ((!tx && (w 9 != 0 || w 10 != 0 || w 11 != 0)) || w 13 != 0 || w 14 != 0 || w 15 != 0))

/-- Samples per packet, payload bytes and wire bytes of a transmit stream (R294, R295). -/
def State.pktSamples (s : State) (x : Stream) : Nat := x.ptime * s.tickLen
def State.pktPayload (s : State) (x : Stream) (chans : Nat) : Nat := chans * s.pktSamples x * (if x.l24 then 3 else 2)
def State.pktWire (s : State) (p : Nat) (x : Stream) (chans : Nat) : Nat :=
  14 + (if s.bit (NET_VLAN p) 12 then 4 else 0) + (if x.v6 then 40 else 20) + 8 + 12 + s.pktPayload x chans + 4 + 20
/-- The speed code that a port carries or, with its link down, its type gives: 1 100 Mb/s to 4 10 Gb/s. -/
def State.netSpeed (s : State) (p : Nat) : Nat :=
  if (s.netPort p).up then (s.netPort p).speed
  else match s.netType p with | 0 => 4 | 1 => 4 | 2 => 3 | _ => 2
/-- The wire bytes a tick's media may take (R295) and those of the whole tick. -/
def mediaCap (speed : Nat) : Nat := match speed with | 4 => 375000 | 3 => 93750 | 2 => 37500 | _ => 3750
def tickCap (speed : Nat) : Nat := match speed with | 4 => 416666 | 3 => 104166 | 2 => 41666 | _ => 4166
/-- The wire bytes of all enabled transmit streams of a port. -/
def State.mediaBytes (s : State) (p : Nat) : Nat :=
  foldS (fun n k => if (s.str k).on && (s.str k).ports.contains p then n + s.pktWire p (s.str k) ((s.strChans k).getD 0) else n) 0 s.txKeys
/-- An ENABLE of a transmit stream that breaks R295. -/
def State.txBad (s : State) (k : Nat) : Bool :=
  let x := s.str k
  let ch := (s.strChans k).getD 0
  decide ((if x.ports.all s.netJumbo then 8940 else 1440) < s.pktPayload x ch)
    || x.ports.any (fun p => decide (mediaCap (s.netSpeed p) < s.mediaBytes p + (if x.on then 0 else s.pktWire p x ch)))
/-- The keys that admit a packet. -/
def Stream.admitKey (x : Stream) : List W32 × Nat × W32 × Nat × Bool := (x.src ++ x.dst, x.dport, x.d 2, x.pair, x.v6)

/-- A packet that is due on a port is sent, or discarded and counted while the link is down (R289). -/
def State.portSend (s : State) (p : Nat) (o : Out) : State :=
  if (s.netPort p).up then (s.emit o).count (NET_TX_FRAMES p) 1 else s.count (NET_TX_DISCARD p) 1
/-- A membership report or leave on a port for a stream's group (R303): IGMPv3 and MLDv2 name the stream's source. -/
def State.report (s : State) (p : Nat) (x : Stream) (leave : Bool) : State :=
  if s.netOn p && s.netIgmp p && multicast x.v6 x.dst then
    s.portSend p (.igmp p [if decide (0 < (s.netPort p).v2Left) && !x.v6 then x.dst else x.dst ++ x.src] leave)
  else s
def State.reports (s : State) (x : Stream) (leave : Bool) : State := foldS (fun u p => u.report p x leave) s x.ports

/-- A refused OP (R293). -/
def State.strRefuse (s : State) (k : Nat) : State := (s.flag STR_STAT 0).strRaise k 65

/-- The stream that an STR_APPLY value names. -/
def applyKey (v : W32) : Nat := fld v 9 0 + fld v 15 15 * 1024
/-- Reserved bits of an STR_APPLY value that are set, or a stream the image does not bind. -/
def State.applyBad (s : State) (v : W32) : Bool := v &&& 0xFFFC7C00 != 0 || (s.strChans (applyKey v)).isNone

/-- OP 0, LOAD. -/
def State.strLoad (s : State) (v : W32) : State :=
  let k := applyKey v
  let d := (upFrom 0 16).map (fun i => s.rd (STR_D i))
  if s.applyBad v || (s.str k).on || descBad (decide (1024 ≤ k)) d then s.strRefuse k
  else s.modStr k (fun x => { x with desc := d })
/-- OP 1, ENABLE. DEDUCED (log entry 86): a stream whose loaded words R292 refuses, such as one that nothing was loaded into, is refused. -/
def State.strEnable (s : State) (v : W32) : State :=
  let k := applyKey v
  let x := s.str k
  if s.applyBad v || descBad (decide (1024 ≤ k)) x.desc then s.strRefuse k
  else if 1024 ≤ k then
    if s.txBad k then s.strRefuse k else s.modStr k (fun x => { x with st := .run })
  else if s.rxKeys.any (fun j => (s.str j).on && (s.str j).admitKey == x.admitKey) then s.strRefuse k
  else
    (s.setStr k { x with st := .waiting, legA := false, legB := false, lostA := false, lostB := false, arrA := false, arrB := false,
                         lateA := false, lateB := false, quietA := 0, quietB := 0, quiet := 0, jitter := [], seen := [] }).reports x false
/-- OP 2, DISABLE. -/
def State.strDisable (s : State) (v : W32) : State :=
  let k := applyKey v
  let x := s.str k
  if s.applyBad v || !x.on then s.strRefuse k
  else
    let t := s.setStr k { x with st := .off, legA := false, legB := false, jitter := [], seen := [] }
    if k < 1024 then t.reports x true else t
/-- OP 3, CLEAR. -/
def State.strClear (s : State) (v : W32) : State :=
  let k := applyKey v
  if s.applyBad v then s.strRefuse k
  else s.modStr k (fun x => { x with pkts := 0, late := 0, early := 0, dup := 0, pad := 0, malf := 0, guard := 0, diverge := 0 })
/-- An STR_APPLY write acts by its OP. -/
def State.strApply (s : State) (v : W32) : State :=
  match fld v 17 16 with
  | 0 => s.strLoad v | 1 => s.strEnable v | 2 => s.strDisable v | _ => s.strClear v
/-- Step 8 of the boundary after the writes (R291). -/
def State.strApplies (s : State) : State := { foldS State.strApply s s.net.applies with net := { (foldS State.strApply s s.net.applies).net with applies := [] } }

/-- STR_APPLY (R291): its operation waits for the boundary. -/
def State.applyWrite (s : State) (v : W32) : State := { s with net := { s.net with applies := s.net.applies ++ [v] } }
/-- STREAM_LOAD, STREAM_ENABLE, STREAM_DISABLE and STREAM_CLEAR: the host writes STR_APPLY with that OP, which acts at the next boundary. -/
def State.applyOp (s : State) (op : Nat) (val : W32) : State := s.byHost (fun s => s.applyWrite (putFld val 17 16 op))
def execStreamLoad (val : W32) (s : State) : Host.Outcome State Fault Refusal := doneCore s (s.applyOp 0 val)
def execStreamEnable (val : W32) (s : State) : Host.Outcome State Fault Refusal := doneCore s (s.applyOp 1 val)
def execStreamDisable (val : W32) (s : State) : Host.Outcome State Fault Refusal := doneCore s (s.applyOp 2 val)
def execStreamClear (val : W32) (s : State) : Host.Outcome State Fault Refusal := doneCore s (s.applyOp 3 val)

/-! ## Timing and merge (R298, R299) -/

/-- A twin that ingests from the active's bundle. -/
def State.follows (s : State) : Bool := s.twn.role == .standby || s.twn.role == .grafting || s.twn.role == .resyncing

/-- The 64-bit index congruent to a 32-bit one that lies nearest the sample counter. -/
def State.nearIndex (s : State) (r : Nat) : Int :=
  let c : Nat := s.samples.toNat
  (c : Int) + sext 32 (uwrap 32 ((r : Int) - c))

/-- A packet arrives on its leg (R300). -/
def State.strArrive (s : State) (k : Nat) (legB : Bool) : State :=
  let x := s.str k
  let back := if legB then x.lostB && x.legA else x.lostA && x.legB
  let y := if legB then { x with legB := true, lostB := false, arrB := x.arrB || !s.twn.cutoff, lateB := x.lateB || s.twn.cutoff }
    else { x with legA := true, lostA := false, arrA := x.arrA || !s.twn.cutoff, lateA := x.lateA || s.twn.cutoff }
  let t := s.setStr k { y with st := .run, pkts := satN 32 (x.pkts + 1) }
  let t := if x.st = .run then t else t.strRaise k 58
  if back && x.legs == 3 && x.st == .run then t.strRaise k 59 else t

/-- Fills the indices from s0 on that are not filled yet and whose frame is still open; the jitter buffer and how many it filled and found. -/
def jitterFill (T J c : Nat) : Int → List (List Int) → Sparse (List Int) × Nat × Nat → Sparse (List Int) × Nat × Nat
  | _, [], r => r
  | s0, f :: fs, (b, filled, found) =>
    if s0 < 0 ∨ s0 / (T : Int) + J < c then jitterFill T J c (s0 + 1) fs (b, filled, found)
    else match spFind b s0.toNat with
      | some _ => jitterFill T J c (s0 + 1) fs (b, filled, found + 1)
      | none => jitterFill T J c (s0 + 1) fs (spPut b s0.toNat f, filled + 1, found)

/-- Steps 15 and 16 of R297 for an admitted packet: its stream, its leg, its RTP timestamp, its frames and its payload's CRC-32C. What comes after
the bundle cutoff counts as arriving in the next tick (R413). -/
def State.strMerge (s : State) (k : Nat) (legB : Bool) (ts : W32) (frames : List (List Int)) (crc : W32) : State :=
  let x := s.str k
  let T := s.tickLen
  let c := s.tickN + b01 s.twn.cutoff
  let s0 := s.nearIndex (uwrap 32 ((ts.toNat : Int) - (x.d 3).toNat))
  let s1 := s0 + frames.length - 1
  let f (i : Int) : Int := i / (T : Int) + x.jb
  if f s1 < c then (s.modStr k (fun x => { x with late := satN 32 (x.late + 1) })).strRaiseOnce k 64
  else if (c : Int) + 63 < f s1 then (s.modStr k (fun x => { x with early := satN 32 (x.early + 1) })).strRaiseOnce k 64
  else
    let m := f s0 - c
    let s := if f s0 < c then (s.modStr k (fun x => { x with late := satN 32 (x.late + 1) })).strRaiseOnce k 64 else s
    let s := s.modStr k (fun x => { x with mMin := some (match x.mMin with | none => m | some a => min a m),
                                            mMax := some (match x.mMax with | none => m | some a => max a m) })
    let s := s.strArrive k legB
    let x := s.str k
    let r := jitterFill T x.jb c s0 frames (x.jitter, 0, 0)
    let first := x.seen.find? (fun p => (p.s0 : Int) == s0 && p.frames == frames.length)
    let s := s.modStr k (fun x => { x with
      jitter := r.1
      seen := if first.isNone then x.seen ++ [{ s0 := s0.toNat, frames := frames.length, crc := crc }] else x.seen
      dup := if r.2.1 = 0 then satN 32 (x.dup + 1) else x.dup })
    if r.2.1 = 0 ∧ first.any (fun p => p.crc != crc) then
      (s.modStr k (fun x => { x with diverge := satN 32 (x.diverge + 1) })).strRaise k 63
    else s
/-- A standby keeps what it admits for the frames that it must ingest itself (R415): the packet arrives and fills the indices that are open. The
checks of R298 and the counts of R299 are the active's alone (R307). -/
def State.strKeep (s : State) (k : Nat) (legB : Bool) (ts : W32) (frames : List (List Int)) : State :=
  let x := s.str k
  let c := s.tickN + b01 s.twn.cutoff
  let s0 := s.nearIndex (uwrap 32 ((ts.toNat : Int) - (x.d 3).toNat))
  let f1 : Int := (s0 + frames.length - 1) / (s.tickLen : Int) + x.jb
  if f1 < c ∨ (c : Int) + 63 < f1 then s
  else (s.strArrive k legB).modStr k (fun y => { y with jitter := (jitterFill s.tickLen y.jb c s0 frames (y.jitter, 0, 0)).1 })

/-- The samples of a channel that the jitter buffer holds for frame c. -/
def Stream.block (x : Stream) (T c ch : Nat) : List Int :=
  (upFrom ((c - x.jb) * T) T).map (fun i => if x.st = .run ∧ x.jb ≤ c then nth 0 ((spFind x.jitter i).getD []) ch else 0)
/-- The close of ingest of frame c for one stream (R299): the pad count, which a twin that ingests from the bundle leaves to the active (R307), and
the indices of the frame leave the buffer. -/
def State.strClose (c : Nat) (s : State) (k : Nat) : State :=
  let x := s.str k
  let T := s.tickLen
  let hole := x.jb ≤ c && (upFrom ((c - x.jb) * T) T).any (fun i => (spFind x.jitter i).isNone)
  let x := if x.st == .run && hole && !s.follows then { x with pad := satN 32 (x.pad + 1) } else x
  if x.on then s.setStr k { x with jitter := spClear x.jitter 0 ((c + 1 - x.jb) * T),
                                    seen := x.seen.filter (fun p => decide (c < (p.s0 + p.frames - 1) / T + x.jb)) }
  else s
/-- The blocks of a frame from the receive streams. -/
def State.strBlocks (s : State) (c : Nat) : List (PortSrc × List Int) :=
  s.struct.rxStreams.flatMap (fun q => (upFrom 0 q.2).map (fun ch => (PortSrc.stream q.1 ch, (s.str q.1).block s.tickLen c ch)))

/-! ## Loss (R300) -/

/-- Judges the legs and the stream by the counts of ended ticks without an arrival. -/
def State.strJudge (s : State) (k qa qb q : Nat) : State :=
  let x := s.str k
  let T := x.timeout
  let goneA := x.usesLeg false && !x.lostA && decide (T ≤ qa)
  let goneB := x.usesLeg true && !x.lostB && decide (T ≤ qb)
  let y := { x with lostA := x.lostA || goneA, legA := x.legA && !goneA, lostB := x.lostB || goneB, legB := x.legB && !goneB }
  let t := s.setStr k y
  if x.on && x.st != .lost && decide (T ≤ q) then (t.setStr k { y with st := .lost, legA := false, legB := false }).strRaise k 57
  else if x.st == .run && x.legs == 3 && ((goneA && y.legB) || (goneB && y.legA)) then t.strRaise k 59
  else t
/-- The end of a tick for one receive stream. -/
def State.strTimeout (s : State) (k : Nat) : State :=
  let x := s.str k
  if x.on then
    let qa := if x.arrA then 0 else x.quietA + 1
    let qb := if x.arrB then 0 else x.quietB + 1
    let q := if x.arrA || x.arrB then 0 else x.quiet + 1
    (s.setStr k { x with quietA := qa, quietB := qb, quiet := q, arrA := x.lateA, arrB := x.lateB, lateA := false, lateB := false, rgA := 0, rgB := 0 }).strJudge k qa qb q
  else s
/-- STREAM_LOST: the timeout of a stream, or of one of its legs, runs out with the running tick. -/
def execStreamLost (idx : Nat) (s : State) : Host.Outcome State Fault Refusal :=
  doneCore s (
    let x := s.str idx
    if idx < 1024 ∧ x.on then
      s.strJudge idx (if x.arrA then 0 else x.quietA + 1) (if x.arrB then 0 else x.quietB + 1) (if x.arrA || x.arrB then 0 else x.quiet + 1)
    else s)

/-- The end of a margin window (R298). -/
def State.marginEnd (s : State) : State :=
  { s with net := { s.net with marginTicks := 0, streams := s.net.streams.map (fun q =>
      (q.1, { q.2 with marMin := q.2.mMin, marMax := q.2.mMax, mMin := none, mMax := none })) } }
/-- A tick of the margin window; the next window starts at the boundary after its last tick. -/
def State.marginTick (s : State) : State :=
  if s.net.marginTicks = 2999 then s.marginEnd
  else { s with net := { s.net with marginTicks := if 3000 ≤ s.net.marginTicks then 0 else s.net.marginTicks + 1 } }
/-- STREAM_MARGIN_WINDOW_END: the running tick is the window's last, and the margins are reported. -/
def execStreamMarginWindowEnd (s : State) : Host.Outcome State Fault Refusal :=
  doneCore s (if s.net.marginTicks = 2999 then { s.marginEnd with net := { s.marginEnd.net with marginTicks := 3000 } } else s)

/-! ## Membership (R303) -/

/-- The enabled receive streams of a port. -/
def State.portStreams (s : State) (p : Nat) : List Nat := s.rxKeys.filter (fun k => (s.str k).on && (s.str k).ports.contains p)
/-- The answer to a query: a report for each of the port's groups of its protocol, or for the group queried. -/
def State.igmpAnswer (s : State) (p : Nat) (q : GroupQuery) : State :=
  foldS (fun (u : State) k =>
    if (s.str k).v6 == q.v6 && (q.group.all (· == 0) || (s.str k).dst == q.group) then u.report p (s.str k) false else u) s (s.portStreams p)
/-- MEMBERSHIP_REPORT: the random delay after the oldest query has passed. -/
def execMembershipReport (port : Fin 4) (s : State) : Host.Outcome State Fault Refusal :=
  doneCore s (
    let p := port.val
    match (s.netPort p).queries with
    | [] => s
    | q :: qs => (s.modNetPort p (fun n => { n with queries := qs })).igmpAnswer p q)
/-- IGMPV2_QUERIER_TIMEOUT: the 400 s without an IGMPv2 querier end with the running tick. -/
def execIgmpv2QuerierTimeout (port : Fin 4) (s : State) : Host.Outcome State Fault Refusal :=
  doneCore s (s.modNetPort port.val (fun n => if n.v2Left ≤ 1 then { n with v2Left := 0 } else n))
/-- Thirds of a bit time in a tick at a speed code. -/
def tickBits (speed : Nat) : Nat := match speed with | 4 => 10000000 | 3 => 2500000 | 2 => 1000000 | _ => 100000
/-- The end of a tick for a port: the pause and the querier's time go down, a query whose maximum response time ends is answered, and NET_TX_OFS
is taken for the next tick (R309). -/
def State.netPortTick (s : State) (p : Nat) : State :=
  let n := s.netPort p
  let t := s.modNetPort p (fun n => { n with
    paused := n.paused - tickBits (s.netSpeed p)
    v2Left := n.v2Left - 1
    used := 0
    txOfs := min 200 (s.rdF (NET_TX_OFS p) 7 0)
    queries := (n.queries.filter (fun q => decide (1 < q.left))).map (fun q => { q with left := q.left - 1 }) })
  foldS (fun (u : State) q => u.igmpAnswer p q) t (n.queries.filter (fun q => decide (q.left ≤ 1)))
/-- The end of a tick for the ports, the rate guards of step 14 and the sending of vector 3. -/
def State.netTick (s : State) : State :=
  let t := foldS State.netPortTick s [0, 1, 2, 3]
  { t with net := { t.net with vec3Rx := false, vec3Tx := false,
                               streams := t.net.streams.map (fun q => (q.1, { q.2 with rgA := 0, rgB := 0 })) } }

/-! ## Read-back (R312) -/

def strCode : StrState → Nat
  | .off => 0 | .waiting => 1 | .run => 2 | .lost => 3
/-- A margin as its byte. -/
def marginByte (m : Option Int) : Nat := match m with | none => 0xFF | some i => uwrap 8 (clampI (-128) 127 i)
/-- The computed registers of STR. -/
def State.strView (s : State) (off : Nat) : Option W32 :=
  let k := fld (s.rd STR_RSEL) 9 0 + fld (s.rd STR_RSEL) 15 15 * 1024
  let x := s.str k
  if off = 0x10 then some (w32 (s.struct.rxStreams.length + s.struct.txStreams.length * 65536))
  else if off = 0x14 then
    some (w32 (foldS (fun n (q : Nat × Nat) => n + q.2) 0 s.struct.rxStreams + foldS (fun n (q : Nat × Nat) => n + q.2) 0 s.struct.txStreams * 65536))
  else if off = 0x28 then some (w32 s.net.rxProd)
  else if off = 0x38 then some (w32 s.net.txCons)
  else if off = 0x60 then some (w32 s.struct.hostPool)
  else if 0xC0 ≤ off ∧ off < 0x100 then some (x.d ((off - 0xC0) / 4))
  else if off = 0x100 then some (match s.strChans k with
    | none => 0
    | some c => w32 (2 ^ 31 + (c - 1) * 65536 + b01 x.legB * 8 + b01 x.legA * 4 + strCode x.st))
  else if off = 0x104 then some (w32 x.pkts)
  else if off = 0x108 then some (w32 x.late)
  else if off = 0x10C then some (w32 x.early)
  else if off = 0x110 then some (w32 x.dup)
  else if off = 0x114 then some (w32 x.pad)
  else if off = 0x118 then some (w32 x.malf)
  else if off = 0x11C then some (w32 x.guard)
  else if off = 0x120 then some (w32 x.diverge)
  else if off = 0x124 then some (w32 (marginByte x.marMin + marginByte x.marMax * 256))
  else none

end Sys2Proof.Machine
end

