-- ==== Sys2Proof/Machine/Net.lean ====
section
/-! DEFINITION. Network ports (chapter 10): enable and link, the checks of a received frame, the media packets, and the host packet
queues. -/

namespace Sys2Proof.Machine

/-! ## Enable and link (R287 to R290) -/

/-- The MAC address of a port as six bytes. -/
def State.netMac (s : State) (p : Nat) : List Byte := beBytes 2 (s.rdF (NET_MAC_HI p) 15 0) ++ beBytes 4 (s.rd (NET_MAC_LO p)).toNat
/-- What R290 refuses. -/
def State.netBad (s : State) (p : Nat) : Bool :=
  decide (5 ≤ s.netType p) || (s.bit (NET_CFG p) 4 && s.netType p != 1) || bitOf (s.rd (NET_MAC_HI p)) 8 || (s.netMac p).all (· == 0)
/-- A change of link state (R289). -/
def State.linkSet (s : State) (p : Nat) (up : Bool) (speed : Nat) : State :=
  let an := up && (s.netType p == 1 || (s.bit (NET_CFG p) 3 && (s.netType p == 3 || s.netType p == 4)))
  let t := s.modNetPort p (fun n => { n with up := up, speed := speed, an := an, fec := up && s.netType p == 1 && s.bit (NET_CFG p) 4 })
  if (s.netPort p).up = up then t else ((t.count (NET_LINK_CHANGES p) 1).flag (NET_STAT p) 0).raise 56
/-- The level of the pin NETn_TXDIS: high while the port is disabled (R288). -/
def State.txDis (s : State) (p : Nat) : Bool := !s.netOn p
/-- A write of NET_CTL (R290). -/
def State.netCtl (s : State) (p : Nat) (v : W32) : State :=
  if bitOf v 0 then
    if s.netOn p then s
    else if s.netBad p then s.flagRaise (NET_STAT p) 4 65
    else (s.wr (NET_CTL p) 1).emit (.txDis p false)
  else
    let t := (s.wr (NET_CTL p) 0).linkSet p false 0
    if s.netOn p then t.emit (.txDis p true) else t
/-- NET_ENABLE: the write of NET_CTL. -/
def execNetEnable (port : Fin 4) (val : W32) (s : State) : Host.Outcome State Fault Refusal := doneCore s (s.byHost (fun s => s.netCtl port.val val))
/-- NET_LINK: the pins NETn_LOS and NETn_MOD_ABS stand as given (R288), and the link of an enabled port comes up or goes down; an SGMII PHY reports
its speed (R287). -/
def execNetLink (port : Fin 4) (up : Bool) (pins : LinkPins) (s : State) : Host.Outcome State Fault Refusal :=
  doneCore s (
    let p := port.val
    let speed := pins.speed
    let s := s.modNetPort p (fun n => { n with los := pins.los, modAbs := pins.modAbs })
    if !s.netOn p || s.domFailed 7 then s
    else if !up then s.linkSet p false 0
    else match s.netType p with
    | 4 => if speed = 5 then ((s.linkSet p false 5).flag (NET_STAT p) 3).raise 56 else s.linkSet p true (if speed = 1 then 1 else 2)
    | 3 => s.linkSet p true 2
    | 2 => s.linkSet p true 3
    | _ => s.linkSet p true 4)

/-! ## Reading a frame -/

/-- A big-endian number in a frame. -/
def beAt (bs : List Byte) (off n : Nat) : Nat := beNat (slice bs off n)
/-- A frame's tag flag, EtherType and the offset of what follows. -/
def etherOf (bs : List Byte) : Bool × Nat × Nat := if beAt bs 12 2 = 0x8100 then (true, beAt bs 16 2, 18) else (false, beAt bs 12 2, 14)
/-- The ones' complement sum of 16-bit words. -/
def sum16 : Nat → List Byte → Nat
  | 0, _ => 0
  | n + 1, bs => let t := sum16 n (bs.drop 2) + beAt bs 0 2
                 if 65535 < t then t - 65535 else t
/-- The Internet checksum over bytes. -/
def inetSum (bs : List Byte) : Nat := sum16 ((bs.length + 1) / 2) bs

/-- The upper protocol of an IPv6 packet: the protocol, its offset from the packet's start, whether a fragment header was passed. -/
def ip6Upper (bs : List Byte) : Nat → Nat → Nat → Bool → Nat × Nat × Bool
  | 0, next, off, frag => (next, off, frag)
  | n + 1, next, off, frag =>
    if next = 0 ∨ next = 43 ∨ next = 60 then ip6Upper bs n (beAt bs off 1) (off + 8 + 8 * beAt bs (off + 1) 1) frag
    else if next = 44 then ip6Upper bs n (beAt bs off 1) (off + 8) true
    else (next, off, frag)

/-- What a frame carries above Ethernet, from the IP header on (`ip`): IPv6, the protocol, the offset of its header and whether the packet is a
fragment; none for what is not IP. -/
def ipOf (etype : Nat) (ip : List Byte) : Option (Bool × Nat × Nat × Bool) :=
  if etype = 0x0800 then some (false, beAt ip 9 1, beAt ip 0 1 % 16 * 4, decide (beAt ip 6 2 % 16384 ≠ 0))
  else if etype = 0x86DD then
    let r := ip6Upper ip 8 (beAt ip 6 1) 40 false
    some (true, r.1, r.2.1, r.2.2)
  else none

/-- The IP header is wrong, or the packet is a fragment (step 8 of R297). -/
def ipBad (v6 : Bool) (off : Nat) (frag : Bool) (ip : List Byte) : Bool :=
  frag || (if v6 then beAt ip 0 1 / 16 != 6 || decide (ip.length < 40 + beAt ip 4 2) || decide (40 + beAt ip 4 2 < off + 8)
    else beAt ip 0 1 / 16 != 4 || decide (off < 20) || decide (beAt ip 2 2 < off + 8) || decide (ip.length < beAt ip 2 2)
      || inetSum (ip.take off) != 65535)
/-- The bytes of the datagram within its packet. -/
def udpSpan (v6 : Bool) (off : Nat) (ip : List Byte) : Nat := if v6 then 40 + beAt ip 4 2 - off else beAt ip 2 2 - off
/-- The addresses of a packet as words in network order: the four of IPv6, or the one of IPv4 with three zeros. -/
def addrAt (v6 : Bool) (ip : List Byte) (dst : Bool) : List W32 :=
  if v6 then (upFrom 0 4).map (fun i => w32 (beAt ip ((if dst then 24 else 8) + 4 * i) 4))
  else [w32 (beAt ip (if dst then 16 else 12) 4), 0, 0, 0]
/-- The pseudo-header's bytes. -/
def pseudo (v6 : Bool) (ip : List Byte) (n : Nat) : List Byte :=
  (if v6 then slice ip 8 32 else slice ip 12 8) ++ beBytes 4 n ++ beBytes 4 17
/-- UDP length or checksum wrong (step 9). -/
def udpBad (v6 : Bool) (off : Nat) (ip : List Byte) : Bool :=
  let n := udpSpan v6 off ip
  let u := slice ip off n
  beAt u 4 2 != n || (if beAt u 6 2 = 0 then v6 else inetSum (pseudo v6 ip n ++ u) != 65535)

/-- The payload of an RTP datagram after CSRC, extension and padding are skipped (step 11); none where they do not fit. -/
def rtpPayload (u : List Byte) : Option (List Byte) :=
  let b := beAt u 0 1
  let h0 := 12 + 4 * (b % 16)
  let h := if b / 16 % 2 = 1 then h0 + 4 + 4 * beAt u (h0 + 2) 2 else h0
  let pad := if b / 32 % 2 = 1 then beAt u (u.length - 1) 1 else 0
  if b / 64 ≠ 2 ∨ u.length < 12 ∨ u.length < h ∨ u.length - h < pad then none
  else some (slice u h (u.length - h - pad))

/-- The samples of a payload, frame by frame, converted as R242. -/
def rtpFrames (l24 : Bool) (chans : Nat) : Nat → List Byte → List (List Int)
  | 0, _ => []
  | n + 1, bs =>
    let w := if l24 then 3 else 2
    ((upFrom 0 chans).map (fun ch => if l24 then sext 24 (beAt bs (w * ch) w) else sext 16 (beAt bs (w * ch) w) * 256))
      :: rtpFrames l24 chans n (bs.drop (w * chans))

/-! ## The host receive queue (R305) -/

/-- The straps choose PCIe. -/
def State.pcie (s : State) : Bool := !s.sys.straps.getLsbD 0
/-- Slot bytes and number of slots of a ring. -/
def State.hqSlot (s : State) : Nat := if s.bit STR_HQ_CTL 10 then 9216 else 2048
def hqCount (code : Nat) : Nat := 2 ^ (min code 8 + 4)
def State.hqRxN (s : State) : Nat := hqCount (s.rdF STR_HQ_CTL 15 12)
def State.hqTxN (s : State) : Nat := hqCount (s.rdF STR_HQ_CTL 19 16)
/-- RATE, other values than 1 to 100 acting as 100. -/
def State.hqRate (s : State) : Nat := let r := s.rdF STR_HQ_CTL 6 0; if r = 0 ∨ 100 < r then 100 else r
/-- The burst of 64 kB in thirds of a byte. -/
def hqBurst : Nat := 192000
/-- A tick refills the bucket and ends for the ports. -/
def State.hqRefill (s : State) : State :=
  { s.netTick with net := { s.netTick.net with bucket := s.net.bucket - 125 * s.hqRate } }
/-- Stores bytes in the host's ring: host memory under PCIe, the pool under SPI. -/
def State.ringStore (s : State) (lo hi : Nat) (off : Nat) (bs : List Byte) : State :=
  if s.pcie then s.emit (.dma ((s.rd hi).toNat * 2 ^ 32 + (s.rd lo).toNat + off) bs) else s.poolWr ((s.rd lo).toNat + off) bs
/-- A dropped frame. -/
def State.hqDrop (s : State) : State := (s.count STR_HQ_RX_DROP 1).raiseOnce 61
/-- A frame for the host receive queue, without its FCS. -/
def State.hostQueue (s : State) (p : Nat) (frame : List Byte) : State :=
  if !s.bit STR_HQ_CTL 8 then s
  else
    let n := s.hqRxN
    let next := (s.net.rxProd + 1) % n
    let need := 3 * frame.length
    if next = s.rdF STR_HQ_RX_CONS 11 0 % n ∨ hqBurst < s.net.bucket + need ∨ s.hqSlot < frame.length + 16 ∨ s.net.dmaStopped then s.hqDrop
    else
      let head := leBytes 2 frame.length ++ [BitVec.ofNat 8 p, BitVec.ofNat 8 (b01 (etherOf frame).1)] ++ leBytes 4 s.tickLo.toNat
        ++ leBytes 4 (s.tim.now % 1000000000) ++ leBytes 4 0
      let t := s.ringStore STR_HQ_RX_BASE_LO STR_HQ_RX_BASE_HI (s.net.rxProd % n * s.hqSlot) (head ++ frame)
      let t := { t with net := { t.net with rxProd := next, bucket := s.net.bucket + need } }.count STR_HQ_RX_PKTS 1
      if t.net.vec3Rx then t else { t with net := { t.net with vec3Rx := true } }.vector 3

/-! ## The checks of R297 -/

/-- The multicast MAC of a group. -/
def groupMac (v6 : Bool) (dst : List W32) : List Byte :=
  if v6 then [0x33, 0x33] ++ beBytes 4 (nth 0 dst 3).toNat else [0x01, 0x00, 0x5E] ++ beBytes 3 (fld (nth 0 dst 0) 22 0)
/-- Network time runs on the pair of a port. -/
def State.timHere (s : State) (p : Nat) : Bool := s.bit TIM_CTL 0 && s.rdF TIM_CFG 0 0 == p / 2
/-- The destination MACs a port takes (step 3). -/
def State.macTaken (s : State) (p : Nat) (mac : List Byte) : Bool :=
  mac == s.netMac p || mac == List.replicate 6 0xFF || mac == [0x01, 0x80, 0xC2, 0x00, 0x00, 0x01]
    || (s.portStreams p).any (fun k => multicast (s.str k).v6 (s.str k).dst && groupMac (s.str k).v6 (s.str k).dst == mac)
    || (s.timHere p && (mac == [0x01, 0x00, 0x5E, 0x00, 0x01, 0x81] || mac == [0x33, 0x33, 0x00, 0x00, 0x01, 0x81]))
    || (s.netIgmp p && (mac == [0x01, 0x00, 0x5E, 0x00, 0x00, 0x01] || mac == [0x33, 0x33, 0x00, 0x00, 0x00, 0x01]))

/-- A PAUSE frame (R304). A quantum is 512 bit times (PRESUMED, log entry 85: IEEE 802.3). -/
def State.pauseFrame (s : State) (p quanta : Nat) : State :=
  let t := (s.count (NET_RX_PAUSE p) 1).flag (NET_STAT p) 1
  if s.bit (NET_CFG p) 5 then t.modNetPort p (fun n => { n with paused := 1536 * quanta }) else t

/-- A maximum response code: the value itself, or above `lim` a mantissa of `m` bits with its top bit implied and an exponent. -/
def respTime (m lim code : Nat) : Nat := if code < lim then code else (code % 2 ^ m + 2 ^ m) * 2 ^ (code / 2 ^ m % 8 + 3)
/-- An IGMP or MLD query (step 6) and whether its sender is an IGMPv2 querier. PRESUMED (log entry 85): the messages of IGMPv2, IGMPv3 and MLDv2,
which R302 names; a query without a response time leaves 10 s. -/
def queryOf (v6 : Bool) (proto off : Nat) (ip : List Byte) : Option (GroupQuery × Bool) :=
  if !v6 && proto == 2 && beAt ip off 1 == 0x11 then
    let t := respTime 4 128 (beAt ip (off + 1) 1)
    some ({ v6 := false, group := [w32 (beAt ip (off + 4) 4), 0, 0, 0], left := 300 * (if t = 0 then 100 else t) }, decide (beAt ip 2 2 - off < 12))
  else if v6 && proto == 58 && beAt ip off 1 == 130 then
    some ({ v6 := true, group := (upFrom 0 4).map (fun i => w32 (beAt ip (off + 8 + 4 * i) 4)), left := 3 * respTime 12 32768 (beAt ip (off + 4) 2) }, false)
  else none

/-- Steps 8 and 9, 11, 13 raise EV60 at most once per tick. -/
def State.malformed (s : State) (a : Nat) : State := (s.count a 1).raiseOnce 60

/-- What an admitted packet is: its stream, its leg, its timestamp, its frames and its payload's CRC-32C. -/
abbrev Admitted := Nat × Bool × W32 × List (List Int) × W32

/-- Steps 8 to 14 for a UDP packet. The packet where it is admitted. -/
def State.udpCheck (s : State) (p : Nat) (frame : List Byte) (v6 : Bool) (off : Nat) (frag : Bool) (ip : List Byte) : State × Option Admitted :=
  if ipBad v6 off frag ip then (s.malformed STR_M_FRAME, none)
  else if udpBad v6 off ip then (s.malformed STR_M_FRAME, none)
  else
    let u := slice ip off (udpSpan v6 off ip)
    let legB := p % 2 == 1
    let hits := s.rxKeys.filter (fun k => let x := s.str k
      x.on && x.pair == p / 2 && x.usesLeg legB && x.v6 == v6 && x.dst == addrAt v6 ip true && x.dport == beAt u 2 2)
    match hits with
    | [] => (s.hostQueue p frame, none)
    | first :: _ =>
      let r := u.drop 8
      match rtpPayload r with
      | none => (s.malformed STR_M_RTP, none)
      | some pay =>
        match hits.filter (fun k => (s.str k).src == addrAt v6 ip false && (s.str k).d 2 == w32 (beAt r 8 4)) with
        | [] => ((s.count STR_SPOOF 1).strRaise first 63, none)
        | k :: _ =>
          let x := s.str k
          let chans := (s.strChans k).getD 0
          let size := chans * (if x.l24 then 3 else 2)
          let n := pay.length / size
          if beAt r 1 1 % 128 ≠ x.pt ∨ size = 0 ∨ pay.length % size ≠ 0 ∨ n = 0 ∨ (if s.rate96 then 384 else 192) < n then
            ((s.modStr k (fun x => { x with malf := satN 32 (x.malf + 1) })).strRaiseOnce k 60, none)
          else
            let used := if legB then x.rgB else x.rgA
            let s := s.modStr k (fun x => if legB then { x with rgB := x.rgB + 1 } else { x with rgA := x.rgA + 1 })
            if fld (x.d 4) 15 8 ≤ used then
              ((s.modStr k (fun x => { x with guard := satN 32 (x.guard + 1) })).strRaise k 62, none)
            else (s, some (k, legB, w32 (beAt r 4 4), rtpFrames x.l24 chans n pay, crc32c pay))

/-- An admitted packet is merged; a twin that ingests from the bundle forwards it to the active (R307) and keeps it for its orphan frames (R415). -/
def State.takePacket (s : State) (p : Nat) (bytes : List Byte) (a : Admitted) : State :=
  if s.follows then
    (if s.twn.linkUp then s.emit (.twin 4 (p :: bytes.map (·.toNat))) else s).strKeep a.1 a.2.1 a.2.2.1 a.2.2.2.1
  else s.strMerge a.1 a.2.1 a.2.2.1 a.2.2.2.1 a.2.2.2.2

/-- A received frame with its FCS passes the checks of R297 in order. -/
def State.netReceive (s : State) (p : Nat) (bytes : List Byte) : State :=
  let n := bytes.length
  let frame := bytes.take (n - 4)
  if n < 4 ∨ w32 (leAt bytes (n - 4) 4) ≠ crc32e frame then (s.count (NET_RX_FCS p) 1).flag (NET_STAT p) 2
  else
    let s := s.count (NET_RX_FRAMES p) 1
    if n < 64 ∨ (if s.netJumbo p then 9022 else 1522) < n then s.count (NET_RX_SIZE p) 1
    else if !s.macTaken p (frame.take 6) then s.count (NET_RX_FILTERED p) 1
    else
      let e := etherOf frame
      let ip := frame.drop e.2.2
      if e.2.1 = 0x8808 then s.pauseFrame p (beAt ip 2 2)
      else match ipOf e.2.1 ip with
      | none => s.hostQueue p frame
      | some (v6, proto, off, frag) =>
        let port := beAt ip (off + 2) 2
        if proto = 17 ∧ !frag ∧ (port = 319 ∨ port = 320) then s
        else match (if s.netIgmp p then queryOf v6 proto off ip else none) with
        | some (q, v2) => s.modNetPort p (fun x => { x with queries := x.queries ++ [q], v2Left := if v2 then 1200001 else x.v2Left })
        | none =>
          if proto ≠ 17 then s.hostQueue p frame
          else
            let r := s.udpCheck p frame v6 off frag ip
            match r.2 with
            | none => r.1
            | some a => r.1.takePacket p bytes a

/-- NET_FRAME_RECEIVE: a frame reaches an enabled port whose link is up. -/
def execNetFrameReceive (port : Fin 4) (bytes : List Byte) (s : State) : Host.Outcome State Fault Refusal :=
  doneCore s (if s.netOn port.val && (s.netPort port.val).up then s.netReceive port.val bytes else s)

/-- A packet that the standby admitted and forwarded: the active applies R298 and R299 (R307, R414). -/
def State.forwarded (s : State) (p : Nat) (bytes : List Byte) : State :=
  let frame := bytes.take (bytes.length - 4)
  let e := etherOf frame
  let ip := frame.drop e.2.2
  match ipOf e.2.1 ip with
  | some (v6, 17, off, false) =>
    let u := slice ip off (udpSpan v6 off ip)
    let r := u.drop 8
    match rtpPayload r, s.rxKeys.filter (fun k => let x := s.str k
        x.on && x.pair == p / 2 && x.usesLeg (p % 2 == 1) && x.v6 == v6 && x.dst == addrAt v6 ip true && x.dport == beAt u 2 2
          && x.src == addrAt v6 ip false && x.d 2 == w32 (beAt r 8 4)) with
    | some pay, k :: _ =>
      let x := s.str k
      let chans := (s.strChans k).getD 0
      let size := chans * (if x.l24 then 3 else 2)
      if size = 0 then s else s.strMerge k (p % 2 == 1) (w32 (beAt r 4 4)) (rtpFrames x.l24 chans (pay.length / size) pay) (crc32c pay)
    | _, _ => s
  | _ => s
/-- FORWARDED_PACKET: the active takes a packet that its standby forwards. -/
def execForwardedPacket (port : Fin 4) (bytes : List Byte) (s : State) : Host.Outcome State Fault Refusal :=
  doneCore s (if s.twn.role = .active then s.forwarded port.val bytes else s)

/-! ## Media packets (R294, R296) -/

/-- A frame with its FCS, padded to the least size. -/
def framed (bs : List Byte) : List Byte :=
  let f := bs ++ List.replicate (60 - bs.length) 0
  f ++ leBytes 4 (crc32e f).toNat
/-- The 802.1Q tag of NET_VLAN. -/
def State.vlanTag (s : State) (p : Nat) : List Byte :=
  beBytes 2 0x8100 ++ beBytes 2 (s.rdF (NET_VLAN p) 15 13 * 8192 + s.rdF (NET_VLAN p) 11 0)
/-- The Ethernet destination: the group's MAC, or a free one for a unicast destination (no rule resolves its address), the same on both legs. -/
def State.dstMac (_s : State) (x : Stream) (k s0 : Nat) : List Byte :=
  if multicast x.v6 x.dst then groupMac x.v6 x.dst else beBytes 6 (Config.nextHop k s0)
/-- Addresses as bytes. -/
def addrBytes (v6 : Bool) (ws : List W32) : List Byte := (if v6 then ws else ws.take 1).flatMap (fun w => beBytes 4 w.toNat)
/-- The IP header of a media packet; the IPv6 flow label is a free value, the same wherever the packet is sent (no rule gives it). -/
def State.ipHeader (s : State) (p : Nat) (x : Stream) (n k s0 : Nat) : List Byte :=
  let dscp := s.rdF (NET_VLAN p) 21 16
  let hops := fld (x.d 4) 7 0
  if x.v6 then
    beBytes 4 (6 * 2 ^ 28 + dscp * 4 * 2 ^ 20 + Config.flowLabel k s0 % 2 ^ 20) ++ beBytes 2 n ++ [17, BitVec.ofNat 8 hops]
      ++ addrBytes true ((upFrom 0 4).map (fun i => s.rd (NET_IP6 p i))) ++ addrBytes true x.dst
  else
    let a := [0x45, BitVec.ofNat 8 (dscp * 4)] ++ beBytes 2 (20 + n) ++ beBytes 2 0 ++ beBytes 2 0x4000 ++ [BitVec.ofNat 8 hops, 17]
    let b := addrBytes false [s.rd (NET_IP4 p)] ++ addrBytes false x.dst
    a ++ beBytes 2 (65535 - inetSum (a ++ b)) ++ b
/-- The media packet of a transmit stream on a port, whose first output index is s0. -/
def State.mediaFrame (s : State) (p k s0 : Nat) : List Byte :=
  let x := s.str k
  let T := s.tickLen
  let P := s.pktSamples x
  let sample (i ch : Nat) : List Byte :=
    let y := nth 0 (findSink ((spFind s.graph.pipe.emitted (i / T)).getD []) (.stream (k - 1024) ch)) (i % T)
    if x.l24 then beBytes 3 (txWord 0x8 y).1.toNat else beBytes 2 (txWord 0 y).1.toNat
  let pay := (upFrom s0 P).flatMap (fun i => (upFrom 0 ((s.strChans k).getD 0)).flatMap (sample i))
  let rtp := [0x80, BitVec.ofNat 8 x.pt] ++ beBytes 2 (s0 / P % 65536) ++ beBytes 4 ((s0 + (x.d 3).toNat) % 2 ^ 32) ++ beBytes 4 (x.d 2).toNat ++ pay
  let n := 8 + rtp.length
  let ip := s.ipHeader p x n k s0
  let u := beBytes 2 (fld (x.d 1) 31 16) ++ beBytes 2 x.dport ++ beBytes 2 n
  let c := 65535 - inetSum (pseudo x.v6 ip n ++ u ++ beBytes 2 0 ++ rtp)
  framed (s.dstMac x k s0 ++ s.netMac p ++ (if s.bit (NET_VLAN p) 12 then s.vlanTag p else []) ++ beBytes 2 (if x.v6 then 0x86DD else 0x0800)
    ++ ip ++ u ++ beBytes 2 (if c = 0 then 65535 else c) ++ rtp)

/-- The first index of the packet that a stream sends in the running tick; none where no packet ends with the last tick's emission. -/
def State.pktDue (s : State) (k : Nat) : Option Nat :=
  let x := s.str k
  if x.on && (s.tickN + 1) % x.ptime == 0 && decide (x.ptime ≤ s.tickN + 1) then some ((s.tickN + 1) * s.tickLen - s.pktSamples x) else none

/-- Sends or discards a stream's packet; `q.2` counts the port's wire bytes of the tick. -/
def State.mediaSend (p : Nat) (q : State × Nat) (k : Nat) : State × Nat :=
  let s := q.1
  if !(s.str k).ports.contains p then q
  else match s.pktDue k with
  | none => q
  | some s0 =>
    let w := q.2 + s.pktWire p (s.str k) ((s.strChans k).getD 0)
    if !(s.netPort p).up ∨ tickCap (s.netSpeed p) < w then (s.count (NET_TX_DISCARD p) 1, q.2)
    else ((((s.emit (.frame p (s.mediaFrame p k s0))).count (NET_TX_FRAMES p) 1).modStr k
      (fun x => { x with pkts := satN 32 (x.pkts + 1) })), w)
/-- MEDIA_TX_START: NET_TX_OFS after the boundary a port sends the tick's media packets in ascending stream index, once per tick. -/
def execMediaTxStart (port : Fin 4) (s : State) : Host.Outcome State Fault Refusal :=
  doneCore s (
    let p := port.val
    if s.netOn p && s.sys.mediaRun && s.net.due.contains p then
      let t := { s with net := { s.net with due := s.net.due.filter (· != p) } }.emit (.mediaStart p (s.netPort p).txOfs)
      let r := foldS (State.mediaSend p) (t, 0) s.txKeys
      r.1.modNetPort p (fun n => { n with used := r.2 })
    else s)

/-! ## The host transmit queue (R306) -/

/-- CONS advances past a slot; vector 3 once per tick. -/
def State.hqAdvance (s : State) : State :=
  let t := { s with net := { s.net with txCons := (s.net.txCons + 1) % s.hqTxN } }
  if t.net.vec3Tx then t else { t with net := { t.net with vec3Tx := true } }.vector 3
/-- The slot at CONS: the pool's bytes under SPI, what host memory holds under PCIe. -/
def State.hqTxSlot (s : State) (hostBytes : List Byte) : List Byte :=
  if s.pcie then hostBytes else memRead s.mem.pool ((s.rd STR_HQ_TX_BASE_LO).toNat + s.net.txCons * s.hqSlot) s.hqSlot
/-- The wire bytes of a frame of n bytes without its FCS: preamble, inter-frame gap and FCS beside it. -/
def frameWire (n : Nat) : Nat := max 60 n + 24
/-- The port has not sent the tick's media yet, or has no time left in the tick for a frame of n bytes (R296, R306). -/
def State.portBusy (s : State) (p n : Nat) : Bool :=
  (s.sys.mediaRun && s.net.due.contains p) || decide (tickCap (s.netSpeed p) < (s.netPort p).used + frameWire n)
/-- HOST_FRAME_SEND: the slot at CONS is sent in the time its port leaves after media. DEDUCED (log entry 86): a length that the slot cannot hold is
out of range. -/
def execHostFrameSend (slotBytes : List Byte) (s : State) : Host.Outcome State Fault Refusal :=
  doneCore s (
    if !s.bit STR_HQ_CTL 9 ∨ s.net.txCons = s.rdF STR_HQ_TX_PROD 11 0 % s.hqTxN ∨ s.net.dmaStopped then s
    else
      let b := s.hqTxSlot slotBytes
      let n := leAt b 0 2
      let p := leAt b 2 1
      if 4 ≤ p ∨ n < 60 ∨ (if s.netJumbo p then 9014 else 1514) < n ∨ s.hqSlot < n + 16 then (s.flag STR_STAT 1).hqAdvance
      else if !s.netOn p ∨ !(s.netPort p).up then (s.count (NET_TX_DISCARD p) 1).hqAdvance
      else
        let f := slice b 16 n
        let f := if bitOf (w32 (leAt b 3 1)) 0 then f.take 12 ++ s.vlanTag p ++ f.drop 12 else f
        if 0 < (s.netPort p).paused ∨ s.portBusy p f.length then s
        else ((((s.emit (.frame p (framed f))).count (NET_TX_FRAMES p) 1).count STR_HQ_TX_PKTS 1).modNetPort p
          (fun x => { x with used := x.used + frameWire f.length })).hqAdvance)

/-- PAUSE_EXPIRY: the quanta received last run out within the running tick (R7, R304). -/
def execPauseExpiry (port : Fin 4) (s : State) : Host.Outcome State Fault Refusal :=
  doneCore s (s.modNetPort port.val (fun n => if n.paused ≤ tickBits (s.netSpeed port.val) then { n with paused := 0 } else n))

/-! ## Register writes of the host queues (R305, R306) -/

/-- A ring under SPI that does not lie in the host-queue area, or meets the other enabled ring. -/
def State.ringBad (s : State) (v : W32) : Bool :=
  let size (code : Nat) : Nat := hqCount code * (if bitOf v 10 then 9216 else 2048)
  let base := fld (w32 s.struct.hostPool) 11 0 * 4096
  let last := base + fld (w32 s.struct.hostPool) 27 16 * 4096
  let rx := (s.rd STR_HQ_RX_BASE_LO).toNat
  let tx := (s.rd STR_HQ_TX_BASE_LO).toNat
  let rxEnd := rx + size (fld v 15 12)
  let txEnd := tx + size (fld v 19 16)
  !s.pcie && ((bitOf v 8 && (s.rd STR_HQ_RX_BASE_HI != 0 || decide (rx < base) || decide (last < rxEnd)))
    || (bitOf v 9 && (s.rd STR_HQ_TX_BASE_HI != 0 || decide (tx < base) || decide (last < txEnd)))
    || (bitOf v 8 && bitOf v 9 && decide (rx < txEnd) && decide (tx < rxEnd)))

/-- A write that R305 or R306 refuses with BAD_ARG. -/
def State.hqBad (s : State) (a : Nat) (v : W32) : Bool :=
  let c := s.rd STR_HQ_CTL
  let rx := bitOf c 8
  let tx := bitOf c 9
  if a = STR_HQ_RX_BASE_LO ∨ a = STR_HQ_RX_BASE_HI then rx
  else if a = STR_HQ_TX_BASE_LO ∨ a = STR_HQ_TX_BASE_HI then tx
  else if a = STR_HQ_CTL then
    (rx && fld v 15 12 != fld c 15 12) || (tx && fld v 19 16 != fld c 19 16)
      || ((rx || tx) && bitOf v 10 != bitOf c 10) || s.ringBad v
  else false

/-- NET_LINK (R309). -/
def State.netView (s : State) (p off : Nat) : Option W32 :=
  let n := s.netPort p
  if off = 0x18 then
    some (w32 (b01 n.up + b01 n.los * 2 + b01 n.modAbs * 4 + b01 n.an * 8 + b01 n.fec * 16 + n.speed * 32))
  else none

end Sys2Proof.Machine
end

