-- ==== Sys2Proof/Machine/Tim.lean ====
section
/-! DEFINITION. Network time (chapter 11): the PTP port and its legs, the servo and its defences, qualification, and the pulse
outputs. Best-master selection follows the default algorithm of IEEE 1588-2019, which R313 names (PRESUMED). -/

namespace Sys2Proof.Machine

def State.modTim (s : State) (f : TimSt → TimSt) : State := { s with tim := f s.tim }
/-- The local clock has advanced. -/
def State.timAdvance (s : State) (dt : Nat) : State := s.modTim (fun t => { t with now := t.now + dt, sinceTick := t.sinceTick + dt, mono := t.mono + dt })
/-- The local clock at a tick boundary. -/
def State.timTick (s : State) (dt : Nat) : State := (s.timAdvance dt).modTim (fun t => { t with sinceTick := 0 })
/-- Network time as the local clock holds it for the last tick boundary. -/
def State.boundaryTime (s : State) : Nat := s.tim.now - s.tim.sinceTick
/-- TIM_STAT.BAD_CFG. -/
def State.timBad (s : State) : State := s.flag TIM_STAT 6

/-! ## Pulse outputs (R324, R325) -/

def ppsInit : Pps := { armed := false, active := false, start := 0, period := 0, width := 0, nextK := 0, endAt := 0 }
def State.pulse (s : State) (p : Nat) : Pps := spGet ppsInit s.pps p
def State.modPulse (s : State) (p : Nat) (f : Pps → Pps) : State := { s with pps := spPut s.pps p (f (s.pulse p)) }

/-- Produces edge k at the clock's present reading. -/
def State.ppsProduce (s : State) (p k : Nat) (late : Bool) : State :=
  let t := s.modPulse p (fun x => { x with active := true, endAt := s.tim.now + x.width, nextK := k + 1, armed := x.period != 0 })
  let t := t.count (PPS_COUNT p) 1
  if late then t.flagRaise (PPS_STATE p) 2 71 else t
/-- The instant of edge k. -/
def Pps.instant (x : Pps) (k : Nat) : Nat := x.start + k * x.period
/-- The latest edge not yet produced whose instant the clock has passed. -/
def Pps.passed (x : Pps) (now : Nat) : Option Nat :=
  if !x.armed || decide (now < x.instant x.nextK) then none
  else if x.period = 0 then (if x.nextK = 0 then some 0 else none)
  else some ((now - x.start) / x.period)
/-- A step ends a pulse in progress; a forward one that passes a due instant produces the latest passed edge at once. -/
def State.ppsStep (s : State) (p : Nat) : State :=
  let s := s.modPulse p (fun x => { x with active := false })
  match (s.pulse p).passed s.tim.now with
  | some k => s.ppsProduce p k true
  | none => s
/-- PPS_CTL.ARM (R324, R325). -/
def State.ppsArm (s : State) (p : Nat) : State :=
  let ns := (s.rd (PPS_START_NS p)).toNat
  let per := (s.rd (PPS_PERIOD p)).toNat
  let wid := (s.rd (PPS_WIDTH p)).toNat
  if (0 < per ∧ per < 1000) ∨ wid < 8 ∨ (0 < per ∧ per ≤ wid) ∨ 999999999 < ns then (s.modPulse p (fun x => { x with armed := false })).timBad
  else
    let start := ((s.rd (PPS_START_SHI p)).toNat * 2 ^ 32 + (s.rd (PPS_START_SLO p)).toNat) * 1000000000 + ns
    let k := if per = 0 ∨ s.tim.now ≤ start then 0 else (s.tim.now - start + per - 1) / per
    let t := s.modPulse p (fun x => { x with armed := true, start := start, period := per, width := wid, nextK := k })
    if per = 0 ∧ start < s.tim.now then t.ppsProduce p 0 true else t
/-- PPS_CTL.DISARM: the pulse ends. -/
def State.ppsDisarm (s : State) (p : Nat) : State := s.modPulse p (fun x => { x with armed := false, active := false })
/-- A write of PPS_CTL; with ARM and DISARM together DISARM wins (R332). -/
def State.ppsCtl (s : State) (p : Nat) (v : W32) : State :=
  let s := s.wr (PPS_CTL p) (v &&& 4)
  if bitOf v 1 then s.ppsDisarm p else if bitOf v 0 then s.ppsArm p else s

/-- ARM: a write of PPS_CTL with ARM at 1. -/
def execPpsArm (p : Fin 4) (val : W32) (s : State) : Host.Outcome State Fault Refusal := doneCore s (s.byHost (fun s => s.ppsCtl p.val (val ||| 1)))
/-- DISARM: a write of PPS_CTL with DISARM at 1. -/
def execPpsDisarm (p : Fin 4) (val : W32) (s : State) : Host.Outcome State Fault Refusal := doneCore s (s.byHost (fun s => s.ppsCtl p.val (val ||| 2)))
/-- PPS_EDGE: the local clock reaches the next edge's instant. -/
def execPpsEdge (p : Fin 4) (s : State) : Host.Outcome State Fault Refusal :=
  doneCore s (
    let x := s.pulse p.val
    if x.armed then (s.timAdvance (x.instant x.nextK - s.tim.now)).ppsProduce p.val x.nextK false else s)
/-- PPS_PULSE_END: the local clock reaches the pulse's end. -/
def execPpsPulseEnd (p : Fin 4) (s : State) : Host.Outcome State Fault Refusal :=
  doneCore s (
    let x := s.pulse p.val
    if x.active then
      (s.timAdvance (x.endAt - s.tim.now)).modPulse p.val (fun x => { x with active := false })
    else s)

/-! ## The port (R313 to R315) -/

/-- The pair's ports by leg. -/
def State.timPort (s : State) (legB : Bool) : Nat := 2 * s.rdF TIM_CFG 0 0 + b01 legB
def TimSt.leg (t : TimSt) (legB : Bool) : PtpLeg := if legB then t.legB else t.legA
def State.modLeg (s : State) (legB : Bool) (f : PtpLeg → PtpLeg) : State :=
  s.modTim (fun t => if legB then { t with legB := f t.legB } else { t with legA := f t.legA })
def State.timOn (s : State) : Bool := s.bit TIM_CTL 0
/-- SLAVE_ONLY acts as 1 in a twin pair (R322). -/
def State.slaveOnly (s : State) : Bool := s.bit TIM_CFG 4 || s.twn.paired
/-- The port's clock identity: the EUI-64 of leg A's MAC (PRESUMED: IEEE 1588). -/
def State.clockId (s : State) : W64 :=
  let m := s.netMac (s.timPort false)
  BitVec.ofNat 64 (beNat (m.take 3 ++ [0xFF, 0xFE] ++ m.drop 3))

/-- The message is for this port: enabled, its leg's link up (R289), by its transport (R329), in its domain, version 2 (R314). -/
def State.ptpHere (s : State) (h : PtpHead) : Bool :=
  s.timOn && (s.netPort (s.timPort h.legB)).up && h.v6 == s.bit TIM_CFG 1 && h.version == 2 && h.domain.toNat == s.rdF TIM_CFG 15 8
/-- With what a leg's messages are sent (R314). -/
def State.ptpNet (s : State) (legB : Bool) : PtpNet :=
  let p := s.timPort legB
  let v6 := s.bit TIM_CFG 1
  { port := p, mac := s.netMac p, v6 := v6, ip := if v6 then (upFrom 0 4).map (fun i => s.rd (NET_IP6 p i)) else [s.rd (NET_IP4 p)],
    tag := if s.bit (NET_VLAN p) 12 then some (s.rdF (NET_VLAN p) 15 13 * 8192 + s.rdF (NET_VLAN p) 11 0) else none,
    dscp := s.rdF (NET_VLAN p) 29 24 }
/-- A leg sends a message: on a link that is down it is discarded (R289). -/
def State.ptpSend (s : State) (legB : Bool) (kind seq : Nat) (t : Int) : State :=
  s.portSend (s.timPort legB) (.ptp (s.ptpNet legB) kind seq t)
/-- The message comes from a leg's master. -/
def State.fromMaster (s : State) (h : PtpHead) : Bool :=
  match (s.tim.leg h.legB).master with
  | some m => m.src == h.src && m.srcPort == h.srcPort
  | none => false

/-- The port state changes: EV66 (R327). Outside SLAVE the clock runs uncorrected (R317). -/
def State.ptpTo (s : State) (st : PtpState) : State :=
  if s.tim.pst = st then s
  else
    let t := s.modTim (fun t => { t with
      pst := st
      rate := if st = .slave then t.rate else 0
      good := if st = .slave then t.good else 0
      legA := if st = .listening then { t.legA with annAt := t.mono } else t.legA
      legB := if st = .listening then { t.legB with annAt := t.mono } else t.legB })
    t.flagRaise TIM_STAT 0 66

/-- Network time is qualified by R322. -/
def TimSt.fit (t : TimSt) (self : Bool) : Bool :=
  (t.pst == .slave && !t.stepHeld && !t.syncLost && decide (fld t.qualThr 23 16 ≤ t.good)) || (t.pst == .master && self)
/-- Judges qualification anew: EV67, and EV3 where it qualifies after the media clock has started (R17, R322). -/
def State.timJudge (s : State) : State :=
  let q := s.timOn && s.tim.fit (s.bit TIM_CTL 1)
  if q = s.tim.qualified then s
  else
    let t := (s.modTim (fun t => { t with qualified := q })).flagRaise TIM_STAT 1 67
    if q && s.sys.mediaRun && !s.sys.aligned then (t.wr TCK_EPOCH_OFS (i32sat (-(gridPhi t.boundaryTime)))).raise 3 else t

/-- The serving leg follows the legs' masters: A where A has one, else B (R315); EV66 where the grandmaster changes. -/
def State.serve (s : State) : State :=
  let old := s.tim.serving
  let leg := if s.tim.legA.master.isSome then 1 else if s.tim.legB.master.isSome then 2 else 0
  let gm := match s.tim.legA.master, s.tim.legB.master with
    | some m, _ => m.gm
    | none, some m => m.gm
    | none, none => 0
  let t := s.modTim (fun t => { t with serving := leg, gm := gm })
  let t := if gm = s.tim.gm then t else t.flagRaise TIM_STAT 0 66
  if old != leg && old != 0 && leg != 0 then t.raise 70 else t

/-! ## Best master (R313, R321) -/

/-- The order of two data sets by the default algorithm: the first list of keys that is smaller is better. -/
def keysLess : List Nat → List Nat → Bool
  | a :: as, b :: bs => if a < b then true else if b < a then false else keysLess as bs
  | _, _ => false
def ForeignMaster.keys (m : ForeignMaster) : List Nat :=
  if m.gm = 0 then [m.pri1] else [m.pri1, m.clockClass, m.accuracy, m.variance, m.pri2, m.gm.toNat, m.steps, m.src.toNat, m.srcPort]
/-- The port's own data set (TIM_PRIO; accuracy and variance unknown: PRESUMED IEEE 1588's codes). -/
def State.ownKeys (s : State) : List Nat :=
  [s.rdF TIM_PRIO 7 0, s.rdF TIM_PRIO 23 16, 0xFE, 0xFFFF, s.rdF TIM_PRIO 15 8, s.clockId.toNat, 0, s.clockId.toNat, 1]
/-- The best of the foreign masters that have been heard twice. -/
def bestForeign (fs : List ForeignMaster) : Option ForeignMaster :=
  foldS (fun (b : Option ForeignMaster) m => if m.count < 2 then b else match b with
    | none => some m
    | some x => if keysLess m.keys x.keys then some m else some x) none fs
/-- A new leg master starts from no path delay. -/
def PtpLeg.follow (l : PtpLeg) (m : Option ForeignMaster) : PtpLeg :=
  match l.master, m with
  | some a, some b => if a.src = b.src ∧ a.srcPort = b.srcPort then { l with master := m }
                      else { l with master := m, wait := none, t12 := none, reqTx := none, lastOffset := none }
  | _, none => { l with master := none, wait := none, t12 := none, reqTx := none, lastOffset := none }
  | none, some _ => { l with master := m, wait := none, t12 := none, reqTx := none, lastOffset := none }
/-- The state decision after the foreign masters have changed. -/
def State.ptpDecide (s : State) : State :=
  let a := bestForeign s.tim.legA.foreign
  let b := bestForeign s.tim.legB.foreign
  let own := !s.slaveOnly && (match a.orElse (fun _ => b) with
    | some m => keysLess s.ownKeys m.keys
    | none => false)
  if own then (((s.modLeg false (·.follow none)).modLeg true (·.follow none)).serve.ptpTo .master).timJudge
  else
    let t := ((s.modLeg false (·.follow a)).modLeg true (·.follow b)).serve
    let t := if t.tim.serving = 0 then (if s.tim.pst = .master then t else t.ptpTo .listening)
      else if s.tim.pst = .slave || s.tim.pst = .uncalibrated then t
      else (t.modTim (fun t => { t with first := true })).ptpTo .uncalibrated
    t.timJudge

/-- A grandmaster in the acceptable master table (R321, R331). -/
def State.acceptable (s : State) (gm : W64) : Bool :=
  (upFrom 0 8).any (fun e => gm != 0 && cat64 (s.rd (TIM_ACCEPT (2 * e))) (s.rd (TIM_ACCEPT (2 * e + 1))) == gm)
/-- EV69 at most once per tick. -/
def State.timReject (s : State) : State := ((s.count TIM_REJECT 1).flag TIM_STAT 4).raiseOnce 69

/-- ANNOUNCE_MESSAGE: an Announce is filtered and feeds the selection of the leg's master. -/
def execAnnounceMessage (head : PtpHead) (body : AnnounceBody) (dt : Nat) (s : State) : Host.Outcome State Fault Refusal :=
  doneCore s (
    let s := s.timAdvance dt
    if !s.ptpHere head then s
    else if 255 ≤ body.steps ∨ (s.bit TIM_CFG 5 ∧ !s.acceptable body.gm) then s.timReject
    else
      let same (m : ForeignMaster) : Bool := m.src == head.src && m.srcPort == head.srcPort
      let l := s.tim.leg head.legB
      let n := match l.foreign.find? same with | some m => m.count | none => 0
      let m : ForeignMaster :=
        { src := head.src, srcPort := head.srcPort, gm := body.gm, pri1 := body.pri1, clockClass := body.clockClass, accuracy := body.accuracy,
          variance := body.variance, pri2 := body.pri2, steps := body.steps,
          utc := w32 (body.utc.toNat + b01 body.utcValid * 65536 + b01 body.leap61 * 131072 + b01 body.leap59 * 262144),
          ptpScale := body.ptpScale, count := n + 1 }
      let t := (s.modLeg head.legB (fun l => { l with foreign := m :: l.foreign.filter (fun x => !same x) })).ptpDecide
      t.modLeg head.legB (fun l => if l.master.any same || l.master.isNone then { l with annAt := s.tim.mono } else l))

/-! ## The servo (R316, R319, R320) -/

/-- Fixed corrections in tenths of a ns, egress and ingress, of a port (R316). -/
def State.portCorr (s : State) (p : Nat) : Nat × Nat :=
  match s.netType p with
  | 0 => (640, 928)
  | 1 => if s.bit (NET_CFG p) 4 then (704, 1632) else (640, 928)
  | 2 => (1120, 1760)
  | 3 => (2160, 3440)
  | _ => if s.netSpeed p = 1 then (12800, 22400) else (2320, 3600)
/-- The extra signed corrections of a leg: ingress and egress. -/
def State.legCorr (s : State) (legB : Bool) : Int × Int :=
  let w := s.rd (if legB then TIM_CORR_B else TIM_CORR_A)
  (sext 16 (fld w 15 0), sext 16 (fld w 31 16))
/-- A receipt stamp referred to the pins. -/
def State.ingress (s : State) (legB : Bool) (t : Int) : Int :=
  roundDiv (10 * t - (s.portCorr (s.timPort legB)).2) 10 + (s.legCorr legB).1
/-- A sending stamp referred to the pins. -/
def State.egress (s : State) (legB : Bool) (t : Int) : Int :=
  roundDiv (10 * t + (s.portCorr (s.timPort legB)).1) 10 + (s.legCorr legB).2

/-- Accepts an offset: TIM_OFFSET, and the run of R322 (`residual` counts there). -/
def State.timAccept (s : State) (o residual : Int) : State :=
  let ok := decide (residual.natAbs ≤ fld s.tim.qualThr 15 0)
  let t := s.modTim (fun t => { t with
    good := if ok then t.good + 1 else 0
    outs := []
    first := false
    lastGm := some t.gm
    syncAt := t.mono
    syncLost := false })
  (t.wr TIM_OFFSET (i32sat o)).count TIM_SYNC_RX 1
/-- Slews: the loop's new rate is a free value within ±1,000 ppm that differs from the last by at most 10 ppm per second (R317, R319). -/
def State.timSlew (s : State) (o : Int) : State :=
  let lim : Int := (s.tim.now - s.tim.slewAt) / 100
  let r := clampI (s.tim.rate - lim) (s.tim.rate + lim) (clampI (-1000000000) 1000000000 (Config.freeInt s.free))
  (s.drawn.modTim (fun t => { t with rate := r, slewAt := t.now })).timAccept o o
/-- Makes a step, or refuses it (R320). -/
def State.timStep (s : State) (o : Int) (acked : Bool) : State :=
  let mx := (s.rd TIM_STEP_MAX).toNat
  if acked || mx == 0 || decide (o.natAbs ≤ mx) then
    let t := s.modTim (fun t => { t with now := ((t.now : Int) + o).toNat, slewAt := ((t.now : Int) + o).toNat, stepHeld := false, ackArmed := false })
    let t := ((t.timAccept o 0).count TIM_STEPS 1).wr TIM_LAST_STEP (i32sat o)
    foldS State.ppsStep (t.flagRaise TIM_STAT 2 68) [0, 1, 2, 3]
  else (s.modTim (fun t => { t with stepHeld := true })).raise 69

/-- All of a list lie within a distance of each other. -/
def allWithin (d : Nat) : List Int → Bool
  | [] => true
  | x :: xs => xs.all (fun y => decide ((x - y).natAbs ≤ d)) && allWithin d xs

/-- An offset of the serving leg (R319). `p`, what the loop predicts, is a free value: no rule gives the predictor. -/
def State.servo (s : State) (o : Int) : State :=
  let w := s.rd TIM_OUTLIER
  let lim := fld w 19 0
  let n := fld w 27 24
  let p := Config.freeInt s.free
  if s.tim.ackArmed then (s.timStep o true)
  else if s.tim.stepHeld then
    if o.natAbs ≤ lim then (s.modTim (fun t => { t with stepHeld := false })).timSlew o else s
  else if s.tim.first || s.tim.lastGm != some s.tim.gm then
    if 20 < o.natAbs then s.timStep o false else s.timSlew o
  else if (o - p).natAbs ≤ lim then s.drawn.timSlew o
  else if s.tim.outs.length < n then
    (((s.drawn.modTim (fun t => { t with outs := t.outs ++ [o] })).count TIM_OUTLIERS 1).flag TIM_STAT 3).raiseOnce 69
  else if allWithin lim (s.tim.outs ++ [o]) then s.drawn.timStep o false
  else s.drawn.modTim (fun t => { t with outs := [o] })

/-- Compares the legs' offsets at a sync of the serving leg (R315). -/
def State.legsAgree (s : State) : State :=
  match s.tim.legA.lastOffset, s.tim.legB.lastOffset with
  | some a, some b =>
    if s.tim.legA.master.isSome && s.tim.legB.master.isSome && decide (s.rdF TIM_LEG_AGREE 15 0 < (a - b).natAbs) then
      let t := s.modTim (fun t => { t with disagree := t.disagree + 1 })
      if s.tim.disagree + 1 = 4 then t.flagRaise TIM_STAT 5 70 else t
    else s.modTim (fun t => { t with disagree := 0 })
  | _, _ => s.modTim (fun t => { t with disagree := 0 })

/-- An offset has been measured on a leg: the master's time plus path delay and correction minus the receipt time. -/
def State.ptpOffset (s : State) (legB : Bool) (t1 corr t2 : Int) : State :=
  let l := s.tim.leg legB
  let o := t1 + l.mpd + corr - t2
  let s := s.modLeg legB (fun l => { l with lastOffset := some o, t12 := some (t2 - t1 - corr) })
  if s.tim.serving = 1 + b01 legB then
    let s := s.legsAgree.modTim (fun t => { t with qualThr := s.rd TIM_QUAL })
    let s := if s.tim.pst = .uncalibrated then (s.modTim (fun t => { t with first := true, syncAt := t.mono, syncLost := false })).ptpTo .slave else s
    if s.tim.pst = .slave then (s.servo o).timJudge else s
  else s

/-- SYNC: a Sync from a leg's master, one-step with its time, two-step without. -/
def execPtpSync (head : PtpHead) (t1 : Option Int) (t2 : Int) (dt : Nat) (s : State) : Host.Outcome State Fault Refusal :=
  doneCore s (
    let s := s.timAdvance dt
    if !s.ptpHere head ∨ !s.fromMaster head then s
    else
      let rx := s.ingress head.legB t2
      match t1 with
      | some t => s.ptpOffset head.legB t head.corr rx
      | none => s.modLeg head.legB (fun l => { l with wait := some { src := head.src, seq := head.seq, rx := rx, corr := head.corr } }))
/-- FOLLOW_UP: it completes the two-step Sync of its sequence. -/
def execFollowUp (head : PtpHead) (t1 : Int) (dt : Nat) (s : State) : Host.Outcome State Fault Refusal :=
  doneCore s (
    let s := s.timAdvance dt
    if !s.ptpHere head ∨ !s.fromMaster head then s
    else match (s.tim.leg head.legB).wait with
    | some w =>
      if w.src = head.src ∧ w.seq = head.seq then
        (s.modLeg head.legB (fun l => { l with wait := none })).ptpOffset head.legB t1 (w.corr + head.corr) w.rx
      else s
    | none => s)
/-- DELAY_REQ_SEND: a leg sends a Delay_Req at its interval. -/
def execDelayReqSend (legB : Bool) (t3 : Int) (dt : Nat) (s : State) : Host.Outcome State Fault Refusal :=
  doneCore s (
    let s := s.timAdvance dt
    let l := s.tim.leg legB
    if s.timOn && l.master.isSome && (s.tim.pst == .slave || s.tim.pst == .uncalibrated) then
      (s.modLeg legB (fun l => { l with reqSeq := (l.reqSeq + 1) % 65536, reqTx := some (s.egress legB t3) })).ptpSend legB 1 l.reqSeq t3
    else s)
/-- DELAY_RESP: the master's answer to the leg's last Delay_Req gives the mean path delay. -/
def execDelayResp (head : PtpHead) (t4 : Int) (reqSrc : W64) (dt : Nat) (s : State) : Host.Outcome State Fault Refusal :=
  doneCore s (
    let s := s.timAdvance dt
    let l := s.tim.leg head.legB
    match l.reqTx, l.t12 with
    | some t3, some d =>
      if s.ptpHere head && s.fromMaster head && reqSrc == s.clockId && (head.seq + 1) % 65536 == l.reqSeq then
        s.modLeg head.legB (fun l => { l with mpd := roundDiv (d + (t4 - head.corr - t3)) 2, reqTx := none })
      else s
    | _, _ => s)
/-- PTP_MASTER_SEND: as master a leg sends Announce, two-step Sync and Follow_Up. -/
def execPtpMasterSend (legB : Bool) (dt : Nat) (s : State) : Host.Outcome State Fault Refusal :=
  doneCore s (
    let s := s.timAdvance dt
    if s.timOn && s.tim.pst == .master then
      let q := s.tim.masterSeq
      (((s.modTim (fun t => { t with masterSeq := (q + 1) % 65536 })).ptpSend legB 11 q s.tim.now).ptpSend legB 0 q 0).ptpSend
        legB 8 q (s.egress legB s.tim.now)
    else s)
/-- DELAY_REQ: as master the port answers with a Delay_Resp. -/
def execDelayReq (head : PtpHead) (rx : Int) (dt : Nat) (s : State) : Host.Outcome State Fault Refusal :=
  doneCore s (
    let s := s.timAdvance dt
    if s.ptpHere head && s.tim.pst == .master then s.ptpSend head.legB 9 head.seq (s.ingress head.legB rx) else s)

/-- A number of intervals of 2 to the power of a signed 4-bit code, in ns. -/
def spanNs (n code : Nat) : Nat := (n * 1000000000 * 2 ^ (sext 4 code + 8).toNat) / 256
/-- The announce receipt timeout and the three sync intervals of R322, in ns. -/
def State.annLimit (s : State) : Nat := spanNs (s.rdF TIM_INTERVALS 15 12) (s.rdF TIM_INTERVALS 7 4)
def State.syncLimit (s : State) : Nat := spanNs 3 (s.rdF TIM_INTERVALS 3 0)
/-- A leg whose master has been silent for the announce receipt timeout forgets it. -/
def PtpLeg.silence (l : PtpLeg) (mono lim : Nat) : PtpLeg :=
  match l.master with
  | some m => if lim ≤ mono - l.annAt then { l with foreign := l.foreign.filter (fun x => !(x.src == m.src && x.srcPort == m.srcPort)), annAt := mono } else l
  | none => l
/-- The announce receipt timeout runs out on a leg with a master (R319), or in LISTENING, where a port that may be master becomes it. An Announce
accepted in the tick keeps the master (R34): the timeout is many ticks long. -/
def State.annTimeout (s : State) : State :=
  let t := s.tim
  let lim := s.annLimit
  let gone (l : PtpLeg) : Bool := l.master.isSome && decide (lim ≤ t.mono - l.annAt)
  if !s.timOn then s
  else if gone t.legA || gone t.legB then
    let u := ((s.modLeg false (·.silence t.mono lim)).modLeg true (·.silence t.mono lim)).ptpDecide
    if u.tim.serving = 0 && !u.slaveOnly then (u.ptpTo .master).timJudge else u
  else if t.pst == .listening && !s.slaveOnly && decide (lim ≤ t.mono - t.legA.annAt) && decide (lim ≤ t.mono - t.legB.annAt) then
    (s.ptpTo .master).timJudge
  else s
/-- No Sync has been accepted on the serving leg for three sync intervals (R322). -/
def State.syncTimeout (s : State) : State :=
  if s.timOn && s.tim.pst == .slave && decide (s.syncLimit ≤ s.tim.mono - s.tim.syncAt) then
    (s.modTim (fun t => { t with syncLost := true })).timJudge
  else s
/-- ANNOUNCE_RECEIPT_TIMEOUT: the local clock reaches the instant at which the timeout runs out. -/
def execAnnounceReceiptTimeout (dt : Nat) (s : State) : Host.Outcome State Fault Refusal := doneCore s (s.timAdvance dt).annTimeout
/-- SYNC_LOSS_TIMEOUT: the local clock reaches the end of three sync intervals without an accepted Sync. -/
def execSyncLossTimeout (dt : Nat) (s : State) : Host.Outcome State Fault Refusal := doneCore s (s.timAdvance dt).syncTimeout
/-- The timeouts of network time that a boundary finds run out. -/
def State.ptpTimeouts (s : State) : State := s.annTimeout.syncTimeout

/-! ## TIM_CTL, TIM_STEP_ACK and SET (R314, R320, R322) -/

/-- The intervals of a profile (R314), each signed in 4 bits. -/
def State.intervalsBad (s : State) : Bool :=
  let w := s.rd TIM_INTERVALS
  let sy := sext 4 (fld w 3 0)
  let an := sext 4 (fld w 7 4)
  let dl := sext 4 (fld w 11 8)
  let rcpt := fld w 15 12
  let prof := s.rdF TIM_CFG 3 2
  decide (2 ≤ prof) || decide (128 ≤ s.rdF TIM_CFG 15 8) || decide (an < 0) || decide (4 < an) || decide (rcpt < 2) || decide (10 < rcpt) || decide (5 < dl)
    || (if prof = 0 then decide (sy < -4) || decide (1 < sy) || decide (dl < -3) else decide (sy < -1) || decide (1 < sy) || decide (dl < 0))
/-- The port stops (R325: a pulse in progress ends). -/
def State.ptpOff (s : State) : State :=
  let t := ((s.modTim (fun t => { t with legA := resetLeg, legB := resetLeg, serving := 0, gm := 0, stepHeld := false, ackArmed := false, outs := [] })).ptpTo
    .disabled).timJudge
  foldS (fun (u : State) p => u.modPulse p (fun x => { x with active := false })) t [0, 1, 2, 3]
/-- SET: the TIM_SET time is loaded (R322). -/
def State.timLoad (s : State) : State :=
  if s.twn.paired then s
  else if 999999999 < (s.rd TIM_SET_NS).toNat then s.timBad
  else
    let t := s.modTim (fun t => { t with now := (cat64 (s.rd TIM_SET_SHI) (s.rd TIM_SET_SLO)).toNat * 1000000000 + (s.rd TIM_SET_NS).toNat })
    foldS State.ppsStep t [0, 1, 2, 3]
/-- A write of TIM_CTL. -/
def State.timCtl (s : State) (v : W32) : State :=
  if bitOf v 0 && !s.timOn && s.intervalsBad then s.timBad.raise 69
  else
    let t := s.wr TIM_CTL (v &&& 3)
    let t := if bitOf v 2 then t.timLoad else t
    if bitOf v 0 && !s.timOn then t.ptpTo .listening
    else if !bitOf v 0 && s.timOn then t.ptpOff
    else t.timJudge
/-- PTP_ENABLE: a write of TIM_CTL. -/
def execPtpEnable (val : W32) (s : State) : Host.Outcome State Fault Refusal := doneCore s (s.byHost (fun s => s.timCtl val))
/-- SET: a write of TIM_CTL with SET at 1. -/
def execTimSet (val : W32) (s : State) : Host.Outcome State Fault Refusal := doneCore s (s.byHost (fun s => s.timCtl (val ||| 4)))
/-- An accepted write of TIM_STEP_ACK. -/
def State.stepAck (s : State) (v : W32) : State :=
  if v = 0x5E7C ∧ s.tim.stepHeld then s.modTim (fun t => { t with ackArmed := true }) else s
/-- A value that TIM_QUAL or TIM_OUTLIER may not have (R328). -/
def timBadArg (a : Nat) (v : W32) : Bool :=
  if a = TIM_QUAL then fld v 15 0 == 0 || fld v 23 16 == 0
  else if a = TIM_OUTLIER then decide (fld v 19 0 < 100) || decide (1000000 < fld v 19 0) || fld v 27 24 == 0
  else false

/-! ## Counters from network time (R323) and read-back (R328, R332) -/

/-- The tick number at a reading of the local clock. -/
def tickOf (now : Nat) : Nat := now / 1000000000 * 3000 + now % 1000000000 * 3 / 1000000

def ptpCode : PtpState → Nat
  | .initializing => 0 | .faulty => 1 | .disabled => 2 | .listening => 3 | .preMaster => 4 | .master => 5 | .passive => 6
  | .uncalibrated => 7 | .slave => 8
/-- The serving leg's master. -/
def State.servingMaster (s : State) : Option ForeignMaster :=
  if s.tim.serving = 0 then none else (s.tim.leg (s.tim.serving == 2)).master
/-- The computed registers of TIM. -/
def State.timView (s : State) (off : Nat) : Option W32 :=
  let t := s.tim
  let m := s.servingMaster
  if off = 0x10 then some (w32 (t.now % 1000000000))
  else if off = 0x14 then some (loN (t.now / 1000000000))
  else if off = 0x18 then some (hiN (t.now / 1000000000))
  else if off = 0x28 then
    some (w32 (ptpCode t.pst + b01 t.qualified * 16 + t.serving * 32 + b01 t.stepHeld * 128
      + b01 (match m with | some x => x.ptpScale | none => false) * 256 + b01 t.legA.master.isSome * 512 + b01 t.legB.master.isSome * 1024
      + (match m with | some x => x.steps % 256 | none => 0) * 65536))
  else if off = 0x2C then some (hi32 t.gm)
  else if off = 0x30 then some (lo32 t.gm)
  else if off = 0x38 then some (i32sat t.legA.mpd)
  else if off = 0x3C then some (i32sat t.legB.mpd)
  else if off = 0x40 then some (i32 t.rate)
  else if off = 0x44 then some (match m with | some x => x.utc | none => 0)
  else if 0x100 ≤ off ∧ off < 0x180 then
    let p := (off - 0x100) / 0x20
    let x := s.pulse p
    match off % 0x20 with
    | 0 => some (s.rd (PPS_CTL p) ||| w32 (b01 x.armed))
    | 0x18 => some (s.rd (PPS_STATE p) ||| w32 (b01 x.armed + b01 x.active * 2))
    | _ => none
  else none

end Sys2Proof.Machine
end

