-- ==== Sys2Proof/Machine/Carder.lean ====
section
/-! DEFINITION. The pool's ECC, clearing, the Carder and the soft repair (chapter 13). -/

namespace Sys2Proof.Machine

def State.modMem (s : State) (f : MemSt → MemSt) : State := { s with mem := f s.mem }

/-! ## The pool's ECC (R363, R364) -/

/-- The bank, the row and the ECC word within its row of a pool offset (R362). -/
def poolBank (x : Nat) : Nat := x / 256 % 64
def poolRow (x : Nat) : Nat := x / 16384
/-- A word lies in a state region of the running image. -/
def State.inRegion (s : State) (x : Nat) : Bool :=
  match s.image with
  | some i => i.regions.any (fun r => r.kind == 2 && decide (r.base ≤ x) && decide (x < r.base + r.size))
  | none => false
/-- The row of a pool offset reaches a spare. -/
def State.rowMapped (s : State) (bank row : Nat) : Bool :=
  (upFrom 0 8).any (fun e => match spGet none s.mem.rep (bank * 8 + e) with
    | some r => r.row == row && r.active
    | none => false)
/-- What a read or the scrub found in a pool word. -/
def State.poolEcc (s : State) (e : PoolEcc) : State :=
  let a := e.addr / 8 * 8 % 2 ^ 24
  let w (ue : Bool) : W32 := w32 (b01 ue * 2 ^ 31 + b01 (s.rowMapped (poolBank a) (poolRow a)) * 2 ^ 30 + a)
  match e.kind with
  | .corrected => ((s.count MEM_CE_COUNT 1).flag MEM_STAT 0).wr MEM_ECC_ADDR (w false)
  | .uncorrectable =>
    let t := (((s.modMem (fun m => { m with pool := memClear m.pool a 8 })).count MEM_UE_COUNT 1).wr MEM_ECC_ADDR (w true)).flagRaise MEM_STAT 1 87
    if s.inRegion a || e.staging then t.twinFault else t
/-- A tick of the pool's scrub: 8 words of each bank in ascending order; its position. -/
def State.poolScrub (s : State) : State :=
  if s.bit MEM_SCRUB 0 then s.modMem (fun m => { m with scrubPos := (m.scrubPos + 8) % 4128 }) else s

/-! ## Clearing (R367) -/

/-- Clears the pool but for the result windows. -/
def State.clearPool (s : State) (keep : Bool) : State :=
  s.modMem (fun m => { m with pool := if keep then memClear m.pool 0 0xFFC000 else [] })
/-- Clears P, X and Y of every core. -/
def State.clearFuller (s : State) : State :=
  { s with cores := s.cores.map (fun q => (q.1, { q.2 with p := [], x := [], y := [], far := [] })) }
/-- Clears the gain banks and the flags. -/
def State.clearGain (s : State) : State := { s with canopy := { s.canopy with gainLive := [], gainShadow := [], flags := [] } }
/-- Clears every on-chip memory; a load's phase 2 keeps the result windows. -/
def State.clearAll (s : State) (keep : Bool) : State := (((s.clearPool keep).clearFuller).clearGain).wr MEM_CLEAR_TIME 0x4B0

/-! ## Soft repair (R375) -/

/-- The lowest free spare of a bank. -/
def State.freeSpare (s : State) (bank : Nat) : Option Nat := (upFrom 0 8).find? (fun e => (spGet none s.mem.rep (bank * 8 + e)).isNone)
/-- A row named by an entry of its bank. -/
def State.rowNamed (s : State) (bank row : Nat) : Bool :=
  (upFrom 0 8).any (fun e => match spGet none s.mem.rep (bank * 8 + e) with
    | some r => r.row == row
    | none => false)
def State.putRep (s : State) (bank e : Nat) (r : RepEntry) : State := s.modMem (fun m => { m with rep := spPut m.rep (bank * 8 + e) (some r) })

/-- A failing row: repaired, or left so. -/
def State.repairRow (s : State) (bank row : Nat) : State × Bool :=
  if 1024 ≤ row then (s, false)
  else if s.rowNamed bank row then (s, true)
  else match s.freeSpare bank with
  | some e => (((s.putRep bank e { row := row, host := false, active := true }).count CRD_REPAIRS 1).flagRaise CRD_STAT 1 89, true)
  | none => (s.flagRaise CRD_STAT 2 89, false)

/-- The fail record of a word (R383). -/
def failRecord (f : FailWord) (repaired : Bool) : W32 :=
  w32 (f.mem.val * 2 ^ 29 + b01 repaired * 2 ^ 28 + b01 f.retention * 2 ^ 27 + f.unit.val * 2 ^ 18 + f.word % 2 ^ 18)
/-- The first word of its pool row among the failing ones. -/
def newRow (fs : List FailWord) (f : FailWord) : Bool := !fs.any (fun g => g.mem == 0 && g.unit == f.unit && g.word / 32 == f.word / 32)

/-- The failing words that an algorithm finds: what only a hold shows is found by Retention alone (R369). -/
def foundBy (retention : Bool) (fs : List FailWord) : List FailWord := fs.filter (fun f => retention || !f.retention)
/-- The Carder meets failing words in order: they are counted, logged and their rows repaired; a spare row is none of the pool's rows. `seen` are those it has met; the answer holds
the counts of repaired and unrepaired rows and the records. -/
def State.meetFails : List FailWord → List FailWord → State → Nat × Nat × List W32 → State × (Nat × Nat × List W32)
  | [], _, s, r => (s, r)
  | f :: fs, seen, s, (rep, un, recs) =>
    let s := s.count CRD_FAILS 1
    let pool := f.mem = 0
    let first := decide pool && decide (f.word < 32768) && newRow seen f
    let mapped := decide pool && s.rowNamed f.unit.val (f.word / 32)
    let q := if first && !mapped then s.repairRow f.unit.val (f.word / 32) else (s, mapped)
    let w := failRecord f q.2
    let t := q.1.modMem (fun m => { m with log := (w :: m.log).take 32 })
    State.meetFails fs (f :: seen) t (rep + b01 (first && !mapped && q.2), un + b01 (first && !q.2), recs ++ [w])

/-- A march ends: EV88 where it found a failing word, the run and its tick (R378, R381). -/
def State.marchEnd (s : State) (found : Nat) : State :=
  let t := (s.count CRD_RUNS 1).wr CRD_LAST_TICK s.tickLo
  if found = 0 then t else t.flagRaise CRD_STAT 0 88

/-- The start-up march of R370: the findings of MODE 0 are none. -/
def State.startMarch (s : State) (fails : List FailWord) : State :=
  let s := s.modMem (fun m => { m with log := [] })
  if s.rdF CRD_BOOT 1 0 = 0 then s else (State.meetFails (foundBy false fails) [] s (0, 0, [])).1.marchEnd (foundBy false fails).length

/-! ## The MARCH job (R371 to R373) -/

/-- What a MARCH's arguments and conditions say: 0 for none, else the ERROR. -/
def State.marchError (s : State) (j : JobSlot) : Nat :=
  let a0 := j.arg 0
  let a1 := j.arg 1
  let destr := bitOf a0 0
  if a0 &&& 0xFFFFFFFC != 0 || j.arg 2 != 0 || j.arg 3 != 0
      || (if destr then a1 &&& 0xFFFFFFF8 != 0 || a1 == 0 else a1 &&& 0xFFFFC0C0 != 0 || decide (fld a1 13 8 < fld a1 5 0)) then 0x02
  else if destr && s.img.running.isSome then 0x40
  else if !destr && s.mem.loanTaken then 0x41
  else 0

/-- The result window of a MARCH. -/
def State.marchResult (s : State) (m : MarchWork) : State :=
  s.resultWrite m.slot ([w32 m.found, w32 m.repaired, w32 m.unrepaired, m.startTick, s.tickLo] ++ m.records.take 250)
/-- The march is over: its results, its job's ending, and the Carder idle. `err` none ends it aborted. -/
def State.marchClose (s : State) (m : MarchWork) : State :=
  ((s.modMem (fun x => { x with march := none, act := .idle, loanUse := false })).marchEnd m.found).marchResult m
def State.setMarch (s : State) (m : MarchWork) : State := (s.modMem (fun x => { x with march := some m })).jobProgress m.slot m.progress

/-- A new march of a slot's job. -/
def State.marchNew (s : State) (k : Nat) (fails : List FailWord) : MarchWork :=
  let j := s.slot k
  { slot := k, retention := bitOf (j.arg 0) 1, groups := fld (j.arg 1) 2 0, bank := fld (j.arg 1) 5 0, lastBank := fld (j.arg 1) 13 8,
    step := 0, element := 0, holding := false, hold := 3 * s.rdF CRD_HOLD 7 0, holdLeft := 3 * s.rdF CRD_HOLD 7 0, progress := 0,
    fails := foundBy (bitOf (j.arg 0) 1) fails, found := 0, repaired := 0, unrepaired := 0, records := [],
    startTick := s.tickLo }

/-- The bank under test has been tested: its failing words are met; an unrepairable row makes the loan bank keep its place (R376). -/
def State.bankTested (s : State) (m : MarchWork) : State :=
  let mine := m.fails.filter (fun f => f.mem == 0 && f.unit.val == m.bank)
  let r := State.meetFails mine [] s (0, 0, [])
  let m := { m with found := m.found + mine.length, repaired := m.repaired + r.2.1, unrepaired := m.unrepaired + r.2.2.1,
                    records := m.records ++ r.2.2.2, element := 5, holding := false }
  if r.2.2.1 = 0 then r.1.setMarch { m with step := 2 }
  else
    let m := { m with progress := m.progress + 1 }
    ((((r.1.modMem (fun x => { x with loanTaken := true, loanBank := m.bank })).flagRaise CRD_STAT 3 89).jobProgress m.slot m.progress).marchClose m).jobFin
      m.slot 0

/-- MARCH_PRESERVING: the job begins with the copy of the first bank into the loan bank. `fails` are the words that fail in its run. -/
def execMarchPreserving (slot : Fin 16) (fails : List FailWord) (s : State) : Host.Outcome State Fault Refusal :=
  doneCore s (
    let k := slot.val
    let t := s.jobTryBegin k
    if !t.runsJob k 4 || bitOf ((t.slot k).arg 0) 0 || t.mem.march.isSome || (t.slot k).fin.isSome then s
    else if t.marchError (t.slot k) ≠ 0 then t.jobEnd k (t.marchError (t.slot k))
    else (t.modMem (fun x => { x with act := .preserving })).setMarch (t.marchNew k fails))

/-- The boundary after a copy: accesses go to the loan bank and the bank is tested, or return to the bank and the next one is copied (R372). -/
def State.loanSwitch (s : State) : State :=
  match s.mem.march with
  | none => s
  | some m =>
    if s.mem.act ≠ .preserving then s
    else if m.step = 0 then
      let t := s.modMem (fun x => { x with loanUse := true, loanBank := m.bank })
      let m := { m with step := 1, element := if m.retention then 3 else 5, holding := m.retention }
      if m.retention then t.setMarch m else t.bankTested m
    else if m.step = 2 then
      let t := s.modMem (fun x => { x with loanUse := false })
      let m := { m with progress := m.progress + 1 }
      if m.bank = m.lastBank then (((t.jobProgress m.slot m.progress).marchClose m).jobFin m.slot 0)
      else t.setMarch { m with bank := m.bank + 1, step := 0, element := 0 }
    else s
/-- LOAN_BANK_SWITCH: the switch of the coming boundary, once. -/
def execLoanBankSwitch (s : State) : Host.Outcome State Fault Refusal :=
  doneCore s (if s.mem.loanDone then s else s.loanSwitch.modMem (fun m => { m with loanDone := true }))

/-- A destructive march has run its elements: the findings, the clearing of what was tested, the results (R371). -/
def State.destroyed (s : State) (m : MarchWork) : State :=
  let hit (f : FailWord) : Bool :=
    if f.mem = 0 then m.groups % 2 == 1 else if f.mem.val ≤ 3 then m.groups / 2 % 2 == 1 else m.groups / 4 % 2 == 1
  let mine := m.fails.filter hit
  let r := State.meetFails mine [] s (0, 0, [])
  let t := if m.groups % 2 = 1 then r.1.clearPool true else r.1
  let t := if m.groups / 2 % 2 = 1 then t.clearFuller else t
  let t := if m.groups / 4 % 2 = 1 then t.clearGain else t
  ((t.jobProgress m.slot 6).marchClose { m with found := mine.length, repaired := r.2.1, unrepaired := r.2.2.1, records := r.2.2.2 }).lockMode.jobFin
    m.slot 0
/-- MARCH_DESTRUCTIVE: the job runs its elements; a Retention run stops in its first hold, before E3. -/
def execMarchDestructive (slot : Fin 16) (fails : List FailWord) (s : State) : Host.Outcome State Fault Refusal :=
  done s (
    let k := slot.val
    let t := s.jobTryBegin k
    if !t.runsJob k 4 || !bitOf ((t.slot k).arg 0) 0 || t.mem.march.isSome || (t.slot k).fin.isSome then s
    else if t.marchError (t.slot k) ≠ 0 then t.jobEnd k (t.marchError (t.slot k))
    else
      let m := t.marchNew k fails
      if m.retention then (t.modMem (fun x => { x with act := .destructive })).setMarch { m with element := 3, holding := true, progress := 3 }
      else t.destroyed m)
/-- The hold before E3 or before E5 ends (R369). -/
def State.holdEnd (s : State) (m : MarchWork) : State :=
  if m.element = 3 then s.setMarch { m with element := 5, holdLeft := m.hold, progress := if s.mem.act = .destructive then 5 else m.progress }
  else if s.mem.act = .destructive then s.destroyed { m with holding := false }
  else s.bankTested { m with holding := false }
/-- RETENTION_HOLD_END: the H ms of a hold, 3 H ticks, end with the running tick. -/
def execRetentionHoldEnd (s : State) : Host.Outcome State Fault Refusal :=
  done s (match s.mem.march with
  | none => s
  | some m => if m.holding ∧ m.holdLeft ≤ 1 then s.holdEnd m else s)
/-- A tick of a hold. -/
def State.holdTickMarch (s : State) : State :=
  match s.mem.march with
  | none => s
  | some m => if !m.holding then s else if m.holdLeft ≤ 1 then s.holdEnd m else s.setMarch { m with holdLeft := m.holdLeft - 1 }

/-- The march stops at its safe point (R373): a destructive one is still followed by its clearing, a preserving one has copied its bank back. -/
def State.marchAbort (s : State) (k : Nat) : State :=
  match s.mem.march with
  | none => s
  | some m =>
    if m.slot ≠ k then s
    else if s.mem.act = .destructive then
      let p := m.progress
      ((s.destroyed { m with fails := m.fails.filter (fun f => !f.retention) }).jobProgress k p)
    else s.marchClose m

/-! ## MEM_REP_SET (R377) -/

/-- An accepted write of MEM_REP_SET: the row's copy into the spare starts. -/
def State.repSet (s : State) (v : W32) : State :=
  let bank := fld v 21 16
  let row := fld v 9 0
  if s.locked .mem then s.lockViol .mem
  else if s.rowNamed bank row then s.flag MEM_STAT 2
  else match s.freeSpare bank with
  | none => s.flag MEM_STAT 3
  | some e =>
    let t := s.putRep bank e { row := row, host := true, active := false }
    if t.mem.act = .idle then t.modMem (fun m => { m with act := .remap }) else t
/-- MEM_REP_SET: its write. -/
def execMemRepSet (val : W32) (s : State) : Host.Outcome State Fault Refusal := doneCore s (s.byHost (fun s => s.repSet val))
/-- The row of an entry switches at the boundary: ACTIVE, EV89. -/
def State.repSwitch (s : State) (key : Nat) : State :=
  match spGet none s.mem.rep key with
  | some r =>
    if r.active then s
    else
      let t := s.modMem (fun m => { m with rep := spPut m.rep key (some { r with active := true }) })
      let t := t.modMem (fun m => { m with act := if m.act == .remap && !m.rep.any (fun q => match q.2 with
        | some x => !x.active
        | none => false) then .idle else m.act })
      t.raise 89
  | none => s
def execRepairRowSwitch (bank : Fin 64) (spare : Fin 8) (s : State) : Host.Outcome State Fault Refusal :=
  doneCore s (s.repSwitch (bank.val * 8 + spare.val))
/-- A tick's time for the Carder: a hold goes on, and the next boundary may switch the loan bank. -/
def State.carderTime (s : State) : State := s.holdTickMarch.modMem (fun m => { m with loanDone := false })
/-- The boundary: every copied row switches, and the loan bank. -/
def State.memTick (s : State) : State :=
  let t := (foldS State.repSwitch s (s.mem.rep.map (·.1))).poolScrub.holdTickMarch
  (if s.mem.loanDone then t else t.loanSwitch).modMem (fun m => { m with loanDone := false })

/-! ## Read-back (R379, R381, R383) -/

def crdCode : CrdAct → Nat
  | .idle => 0 | .startup => 1 | .destructive => 2 | .preserving => 3 | .remap => 4
/-- The computed registers of MEM. -/
def State.memView (s : State) (off : Nat) : Option W32 :=
  let m := s.mem
  if off = 0x10 then
    some (w32 (b01 (m.act == .preserving) + b01 m.loanTaken * 2 + (if m.loanTaken || m.loanUse then m.loanBank
      else match m.march with | some w => if m.act == .preserving then w.bank else 0 | none => 0) * 256))
  else if off = 0x18 then some (w32 m.scrubPos)
  else if off = 0x2C then some (match spGet none m.rep (s.rdF MEM_REP_RSEL 8 0) with
    | none => 0
    | some r => w32 (2 ^ 31 + b01 r.host * 2 ^ 30 + b01 r.active * 2 ^ 29 + r.row))
  else if off = 0x34 then
    let used := (m.rep.filter (fun q => q.2.isSome)).length
    let full := ((upFrom 0 64).filter (fun b => (s.freeSpare b).isNone)).length
    some (w32 (used + full * 65536))
  else none
/-- The computed registers of CRD. -/
def State.crdView (s : State) (off : Nat) : Option W32 :=
  if off = 0x18 then
    some (match s.mem.march with
    | some m => w32 (b01 m.holding * 2 ^ 20 + m.element * 2 ^ 16 + (if s.mem.act = .preserving then m.bank * 256 else 0) + crdCode s.mem.act)
    | none => w32 (crdCode s.mem.act + (match s.mem.rep.find? (fun q => match q.2 with
        | some x => !x.active
        | none => false) with
      | some q => q.1 / 8 * 256
      | none => 0)))
  else if off = 0x28 then some (nth 0 s.mem.log (s.rdF CRD_FAIL_RSEL 4 0))
  else none
/-- CRD_HOLD of 0 (R381). -/
def crdBadArg (a : Nat) (v : W32) : Bool := a == CRD_HOLD && fld v 7 0 == 0
/-- The groups that a destructive march tests now: their host reads return zero and their writes are ignored (R371). -/
def State.underTest (s : State) (g : Nat) : Bool :=
  s.mem.act == .destructive && (match s.mem.march with
    | some m => m.groups / 2 ^ g % 2 == 1
    | none => false)

end Sys2Proof.Machine
end

