-- ==== Sys2Proof/Machine/Heartwood.lean ====
section
/-! DEFINITION. Heartwood (chapter 16): its supply and clock, the bridge, microphones, contacts, power channels, the fallback, the
reserve store and IMPEDANCE_SWEEP. -/

namespace Sys2Proof.Machine

/-! ## Shared pieces -/

/-- Changes Heartwood's own state. -/
def State.modHwd (s : State) (f : HwdSt → HwdSt) : State := { s with hwd := f s.hwd }
/-- Heartwood is fitted and runs (R3, R439). -/
def State.hwHere (s : State) : Bool := s.fit.variantA && s.hwd.powered && !s.domFailed 12
/-- An effect of Heartwood's, none where it does not run. -/
def State.onHw (s : State) (f : State → State) : State := if s.hwHere then f s else s
/-- An effect of its inputs and channels, which are ready 40 ms after its power-up (R440). -/
def State.onHwReady (s : State) (f : State → State) : State := s.onHw (fun s => if 120 ≤ s.hwd.age then f s else s)
/-- Heartwood sets a STAT bit whose event the engine raises at its next boundary (R442). -/
def State.hwFlag (s : State) (bit ev : Nat) : State :=
  (s.flag HWD_STAT bit).modHwd (fun h => { h with causes := if h.causes.contains ev then h.causes else h.causes ++ [ev] })

/-- The STAT bit behind an event of R469. -/
def hwBitOf (ev : Nat) : Nat :=
  match ev with
  | 108 => 0 | 109 => 1 | 110 => 5 | 111 => 6 | 112 => 2 | 113 => 2 | 114 => 3 | 115 => 4 | 116 => 4 | 118 => 7 | _ => 11
/-- The event that a set STAT bit stands for where nothing else is known of it. -/
def hwEventOf (bit : Nat) : Nat :=
  match bit with
  | 0 => 108 | 1 => 109 | 2 => 112 | 3 => 114 | 4 => 115 | 5 => 110 | 6 => 111 | 7 => 118 | 8 => 117 | 9 => 117 | 10 => 117 | _ => 119
/-- Whether an event's bit is set: EV117 stands for VBAT, THERMAL and CLOCK. -/
def State.hwEventSet (s : State) (ev : Nat) : Bool :=
  if ev = 117 then s.bit HWD_STAT 8 || s.bit HWD_STAT 9 || s.bit HWD_STAT 10 else s.bit HWD_STAT (hwBitOf ev)
/-- The engine's boundary (R442): each bit newly set raises its event; when the engine runs again, each bit it finds set does so once. -/
def State.hwEvents (s : State) : State :=
  let old := if s.hwd.found then [] else
    ((upFrom 0 11).filter (fun b => s.bit HWD_STAT b)).map hwEventOf
  let evs := foldS (fun (l : List Nat) e => if l.contains e then l else l ++ [e]) s.hwd.causes
    (old.filter (fun e => !(e == 112 && s.hwd.causes.contains 113) && !(e == 115 && s.hwd.causes.contains 116)))
  let t := s.modHwd (fun h => { h with causes := [], found := true })
  foldS (fun (u : State) e => if u.hwEventSet e then u.raise e else u) t evs

/-! ## Supply and clock (R439, R440) -/

/-- HW_CLOCK_LOSS: the XO absent for 2 µs. -/
def execHwClockLoss (s : State) : Host.Outcome State Fault Refusal :=
  doneCore s (s.onHw (fun s => if s.hwd.clockInt then s else (s.modHwd (fun h => { h with clockInt := true })).hwFlag 10 117))
/-- HW_CLOCK_RETURN: the XO present for 1 ms. -/
def execHwClockReturn (s : State) : Host.Outcome State Fault Refusal :=
  doneCore s (s.onHw (fun s => if s.hwd.clockInt then (s.modHwd (fun h => { h with clockInt := false })).hwFlag 10 117 else s))

/-! ## The reserve store (R465 to R467) -/

/-- A word of the reserve store. -/
def HwdSt.word (h : HwdSt) (a : Nat) : Nat := leNat (memRead h.mram a 4)
/-- START and LENGTH of a directory entry. -/
def HwdSt.msgStart (h : HwdSt) (i : Nat) : Nat := h.word (16 * i)
def HwdSt.msgLen (h : HwdSt) (i : Nat) : Nat := h.word (16 * i + 4)
/-- VALID of a directory entry. -/
def HwdSt.msgValid (h : HwdSt) (i : Nat) : Bool := (spGet 0 h.mram (16 * i + 12)).getLsbD 0
/-- Whether an entry is good: VALID, the table of R465, its CRC. -/
def HwdSt.msgGood (h : HwdSt) (i : Nat) : Bool :=
  h.msgValid i && spGet 0 h.mram (16 * i + 12) == 1 && memRead h.mram (16 * i + 13) 3 == [0, 0, 0]
    && h.msgStart i % 2 == 0 && decide (0x2000 ≤ h.msgStart i) && decide (1 ≤ h.msgLen i)
    && decide (h.msgStart i + 2 * h.msgLen i ≤ 0x1000000)
    && crc32c (memRead h.mram (h.msgStart i) (2 * h.msgLen i)) == w32 (h.word (16 * i + 8))

/-- The registers of the configuration block, words 1 to 20, with the bits each of them holds. -/
def hwCfgRegs : List (Nat × W32) :=
  [(HWD_FB_CFG, 0xFF3F0F), (HWD_TRIG 0, 0x3FFF), (HWD_TRIG 1, 0x3FFF), (HWD_TRIG 2, 0x3FFF), (HWD_TRIG 3, 0x3FFF),
   (HWD_TRIG 4, 0x3FFF), (HWD_TRIG 5, 0x3FFF), (HWD_TRIG 6, 0x3FFF), (HWD_TRIG 7, 0x3FFF)] ++
  [(HWD_MIC_CFG 0, 0x73F), (HWD_MIC_CFG 1, 0x73F), (HWD_MIC_CFG 2, 0x73F), (HWD_MIC_CFG 3, 0x73F), (HWD_KEY_DEB, 0xFF),
   (HWD_CIN_DEB, 0xFF), (HWD_CH_CFG 0, 0x33F01), (HWD_CH_CFG 1, 0x33F01), (HWD_CH_ZREF 0, 0xFFFFFF), (HWD_CH_ZREF 1, 0xFFFFFF),
   (HWD_Z_SHORT, 0xFFFFFFFF)]
/-- The bytes of the configuration block as the registers stand. -/
def State.hwBlock (s : State) : List Byte :=
  let bs := [0x48, 0x57, 0x43, 0x46] ++ hwCfgRegs.flatMap (fun r => leBytes 4 (s.rd r.1).toNat)
  bs ++ leBytes 4 (crc32c bs).toNat
/-- Whether the store's configuration block is good. -/
def HwdSt.cfgGood (h : HwdSt) : Bool :=
  memRead h.mram 0x1000 4 == [0x48, 0x57, 0x43, 0x46] && crc32c (memRead h.mram 0x1000 84) == w32 (h.word 0x1054)

/-- A check of the store (R466): the good messages, and RS_BAD for an entry that is VALID and fails. -/
def State.hwCheck (s : State) : State :=
  let ids := upFrom 0 256
  let bad := ids.any (fun i => s.hwd.msgValid i && !s.hwd.msgGood i)
  let t := s.modHwd (fun h => { h with good := ids.filter h.msgGood, checkLeft := 0, cfgOk := h.cfgGood })
  t.when bad (·.hwFlag 7 118)
/-- RESERVE_CHECK: the check that is due with the coming boundary ends. -/
def execReserveCheck (s : State) : Host.Outcome State Fault Refusal :=
  doneCore s (s.onHw (fun s => if s.hwd.checkLeft = 1 then s.hwCheck else s))

/-- The store has been written: checked again 1 s after the last write, a message that plays and is touched stops with a fade. -/
def State.hwStored (s : State) (a n : Nat) : State :=
  s.modHwd (fun h => { h with
    checkLeft := 3000 + 1020
    play := match h.play with
      | none => none
      | some p =>
        let st := h.msgStart p.idx
        if (16 * p.idx < a + n ∧ a < 16 * p.idx + 16) ∨ (st < a + n ∧ a < st + 2 * h.msgLen p.idx) then some { p with fading := true }
        else some p })
/-- The word address of HWD_RS_ADDR. -/
def State.rsAddr (s : State) : Nat := s.rdF HWD_RS_ADDR 23 2 * 4
/-- HWD_RS_ADDR after an access of HWD_RS_DATA. -/
def State.rsNext (s : State) : State := s.wr HWD_RS_ADDR (w32 ((s.rsAddr + 4) % 0x1000000))
/-- A read of HWD_RS_DATA. -/
def State.rsRead (s : State) : State × W32 := (s.rsNext, w32 (s.hwd.word s.rsAddr))
/-- A granted write of HWD_RS_DATA. -/
def State.rsWrite (s : State) (v : W32) : State :=
  let a := s.rsAddr
  ((s.hwStored a 4).modHwd (fun h => { h with mram := memWrite h.mram a (leBytes 4 v.toNat) })).rsNext
/-- A granted write of HWD_RS_SAVE: the key saves the block, any other value is ignored. -/
def State.rsSave (s : State) (v : W32) : State :=
  if v = 0x3D0B then
    let bs := s.hwBlock
    (s.hwStored 0x1000 88).modHwd (fun h => { h with mram := memWrite h.mram 0x1000 bs, cfgOk := true })
  else s

/-! ## Entering and leaving FALLBACK (R459, R462, R463) -/

/-- A microphone input without a jack. -/
def noMic : MicIn :=
  { jack := false, ty := 0, bias := false, ptt := false, chime := false, fault := false, iUa := 0, cand := 6, cnt := 0, badCnt := 0, meas := 0 }
def State.micIn (s : State) (m : Nat) : MicIn := spGet noMic s.hwd.mics m
def State.setMic (s : State) (m : Nat) (x : MicIn) : State := s.modHwd (fun h => { h with mics := spPut h.mics m x })
/-- A contact that reads OPEN. -/
def noCin : CinLine := { st := 0, cand := 0, cnt := 0, ohms := 0 }
def State.cin (s : State) (c : Nat) : CinLine := spGet noCin s.hwd.cins c
def State.setCin (s : State) (c : Nat) (x : CinLine) : State := s.modHwd (fun h => { h with cins := spPut h.cins c x })
/-- A channel at reset: OFF. -/
def noCh : PowCh :=
  { st := .off, line := 0, cand := 0, cnt := 0, range := false, win := 0, since := 0, probing := false, probeTicks := 0, passes := 0,
    single := false, enLow := false, fadeIn := false, shorted := none, back := false, samples := none, last := 0, heard := .silent }
def State.powCh (s : State) (k : Nat) : PowCh := spGet noCh s.hwd.chs k
def State.setCh (s : State) (k : Nat) (x : PowCh) : State := s.modHwd (fun h => { h with chs := spPut h.chs k x })

/-- MIC_MODE of HWD_FB_CFG. -/
def State.micMode (s : State) : Bool := s.bit HWD_FB_CFG 2
/-- The priority microphone is heard (R460). -/
def State.micHeard (s : State) : Bool :=
  let x := s.micIn 0
  if s.micMode then x.jack && decide (1 ≤ x.ty) && decide (x.ty ≤ 4) else x.ptt
/-- The talk key mutes message and chime. -/
def State.hwPressed (s : State) : Bool := !s.micMode && (s.micIn 0).ptt
/-- SOURCE of R472. -/
def State.hwSource (s : State) : Nat :=
  if s.hwd.mode = .fallback then
    (if s.micHeard then (if s.micMode && s.hwd.play.isSome then 3 else 1) else if s.hwd.play.isSome then 2 else 0)
  else 0

/-- The sweep ends with an error (R468). -/
def sweepWords (w : SweepWork) : List W32 := w32 w.points.length :: w.points
def State.sweepClose (s : State) : State :=
  match s.hwd.sweep with
  | none => s
  | some w =>
    let x := s.powCh w.ch
    let t := s.setCh w.ch (if x.st = .sweep then { x with st := .play, fadeIn := true, win := 0 } else x)
    (t.modHwd (fun h => { h with sweep := none })).resultWrite w.slot (sweepWords w)
def State.sweepFail (s : State) : State :=
  match s.hwd.sweep with
  | none => s
  | some w => s.sweepClose.jobFin w.slot 0x40

/-- Heartwood takes its channels at the boundary of tick `n`. -/
def State.hwTake (s : State) (n : Nat) : State :=
  let t := s.sweepFail.modHwd (fun h => { h with mode := .fallback, play := none, chimeReq := false })
  ((t.count HWD_TAKES 1).wr HWD_LAST_TAKE (w32 n)).hwFlag 0 108
/-- Heartwood returns its channels: the playing message stops with the crossfade. -/
def State.hwReturn (s : State) : State :=
  (s.modHwd (fun h => { h with mode := .returning, play := none, chimeReq := false })).hwFlag 1 109
/-- FORCE of HWD_FB_CTL. -/
def State.forced (s : State) : Bool := s.bit HWD_FB_CTL 0
/-- The channels may return: FORCE is 0 and 300 good heartbeats are counted, at once where FORCE has just been cleared, else not while a source is
heard under HOLD_ACTIVE. -/
def State.mayReturn (s : State) : Bool :=
  !s.forced && decide (300 ≤ s.hwd.hbCount) && (s.hwd.forcePrev || !s.bit HWD_FB_CFG 3 || s.hwSource == 0)

/-- HW_FALLBACK: the tick that ends is the third without a good heartbeat. -/
def execHwFallback (s : State) : Host.Outcome State Fault Refusal :=
  doneCore s (s.onHw (fun s => if s.hwd.mode = .engine ∧ 2 ≤ s.hwd.missed ∧ s.hwd.hbGood = false then s.hwTake (s.hwd.num + 1) else s))
/-- HW_RETURN: the boundary that follows the 300th consecutive good heartbeat. -/
def execHwReturn (s : State) : Host.Outcome State Fault Refusal :=
  doneCore s (s.onHw (fun s => if s.hwd.mode = .fallback ∧ s.mayReturn = true ∧ s.hwd.hbGood = true then s.hwReturn else s))

/-! ## The bridge and the heartbeats (R441, R458) -/

/-- A heartbeat reaches Heartwood: good when it is the first of its tick and follows the last good one, or any number after a miss. -/
def State.hwBeat (s : State) (n : Nat) : State :=
  s.onHw (fun s => s.modHwd (fun h =>
    if h.arrived = 0 ∧ (h.missed ≠ 0 ∨ n = h.hbLast + 1) then
      { h with arrived := 1, hbGood := true, hbLast := n, hbCount := min 300 (h.hbCount + 1) }
    else { h with arrived := h.arrived + 1, hbGood := false, hbCount := 0 }))
/-- The engine sends heartbeats: it runs its ticks and has not declared itself faulty (R99, R458). -/
def State.beats (s : State) : Bool := s.sys.phase == .running && s.sys.mediaRun && !s.sys.faulty
/-- ENGINE_HEARTBEAT: a heartbeat of an engine that sends them reaches Heartwood. -/
def execEngineHeartbeat (tick : Nat) (s : State) : Host.Outcome State Fault Refusal := doneCore s (if s.beats then s.hwBeat tick else s)

/-- What the engine sends in step 8 besides the heartbeat: the channels' samples of the emitted frame. -/
def State.hwSamples (s : State) (k : Nat) (xs : List Int) : State := s.onHw (fun s => s.setCh k { s.powCh k with samples := some xs })

/-- The contacts taken as CLOSED, the keys taken as pressed. -/
def State.cinClosed (s : State) : List Nat := (upFrom 0 8).filter (fun c => (s.cin c).st == 1)
def State.pttPressed (s : State) : List Nat := (upFrom 0 4).filter (fun m => (s.micIn m).ptt)

/-- A microphone's block as Heartwood delivers it: zero without a type, while measuring, and under LINE_FAULT. -/
def State.micBlock (s : State) (m : Nat) (xs : List Int) : List Int :=
  let x := s.micIn m
  if x.jack && x.ty != 0 && x.ty != 7 && !x.fault then xs else xs.map (fun _ => 0)
/-- A microphone block crosses the bridge; HWD_MIC_PEAK follows the samples. -/
def State.micArrive (s : State) (m : Nat) (xs : List Int) : State :=
  if m < 4 then
    let ys := s.micBlock m xs
    (s.wr (HWD_MIC_PEAK m) (w32 (max (s.rd (HWD_MIC_PEAK m)).toNat (min 0xFFFFFF (peakOf ys))))).modHwd
      (fun h => { h with micBlk := spPut h.micBlk m ys })
  else s
/-- The bridge frames of a tick from Heartwood to the engine (R441): microphone blocks, and the status word where it arrives. -/
def State.hwFrame (s : State) (mics : List (Nat × List Int)) (status : Bool) : State :=
  let s := foldS (fun (t : State) (p : Nat × List Int) => t.micArrive p.1 p.2) s mics
  if !status then s
  else if s.twn.cutoff then s.modHwd (fun h => { h with afterCut := some (s.cinClosed, s.pttPressed) })
  else s.modHwd (fun h => { h with status := true, sentC := s.cinClosed, sentP := s.pttPressed })
/-- A state taken in a tick reaches the engine in that tick's status word, wherever in the tick it is taken (R446, R448). -/
def State.hwResend (s : State) : State :=
  if s.hwd.afterCut.isSome then s.modHwd (fun h => { h with afterCut := some (s.cinClosed, s.pttPressed) })
  else if s.hwd.status then s.modHwd (fun h => { h with sentC := s.cinClosed, sentP := s.pttPressed })
  else s
/-- BRIDGE_FRAME. -/
def execBridgeFrame (mics : List (Nat × List Int)) (status : Bool) (s : State) : Host.Outcome State Fault Refusal :=
  doneCore s (s.onHw (fun s => s.hwFrame mics status))

/-- The bridge is lost, or back: BRIDGE and EV119, set and raised by the engine. -/
def State.hwLost (s : State) (l : Bool) : State := (s.modHwd (fun h => { h with lost := l })).flagRaise HWD_STAT 11 119
/-- HW_BRIDGE: the tick that ends is the third without a status word. -/
def execHwBridge (s : State) : Host.Outcome State Fault Refusal :=
  doneCore s (if s.fit.variantA && !s.hwd.lost && !s.hwd.status && decide (2 ≤ s.hwd.noStatus) then
    { s.hwLost true with graph := { s.graph with contacts := [], ptts := [] } } else s)
/-- A status word that came after the cutoff counts as the next tick's. -/
def State.hwCarry (s : State) : State :=
  match s.hwd.afterCut with
  | some w => s.modHwd (fun h => { h with status := true, sentC := w.1, sentP := w.2, afterCut := none })
  | none => s
/-- The engine's boundary: the status word of the ending tick is closed in step 2, a third missing one loses the bridge. -/
def State.hwClose (s : State) : State :=
  if !s.fit.variantA then s
  else if s.hwd.status then
    let t := s.modHwd (fun h => { h with status := false, noStatus := 0 })
    let t := if s.hwd.lost then t.hwLost false else t
    { t with graph := { t.graph with contacts := s.hwd.sentC, ptts := s.hwd.sentP } }
  else
    let t := s.modHwd (fun h => { h with noStatus := min 3 (h.noStatus + 1) })
    let t := if 2 ≤ s.hwd.noStatus ∧ s.hwd.lost = false then t.hwLost true else t
    if t.hwd.lost then { t with graph := { t.graph with contacts := [], ptts := [] } } else t
/-- The microphone blocks of the closing frame, each taken once; zero while the bridge is lost. -/
def State.hwMicBlock (s : State) (m : Nat) : List Int := if s.hwd.lost || !s.fit.variantA then [] else spGet [] s.hwd.micBlk m
def State.hwMicsTaken (s : State) : State := s.modHwd (fun h => { h with micBlk := [] })

/-! ## Microphone inputs (R444 to R446) -/

/-- TYPE_FORCE where it names a type. -/
def State.typeForce (s : State) (m : Nat) : Nat :=
  let f := s.rdF (HWD_MIC_CFG m) 10 8
  if 1 ≤ f ∧ f ≤ 4 then f else 0
/-- The type of R444 by current in µA and resistance in Ω. -/
def micType (i rd : Nat) : Nat :=
  if i < 50 ∧ 50 ≤ rd ∧ rd ≤ 2000 then 1
  else if 300 ≤ i ∧ i ≤ 3000 then 2
  else if i < 50 ∧ 20000 < rd then 3
  else if 120 ≤ i ∧ i ≤ 260 then 4
  else if 3000 < i then 6
  else 5
/-- JACK_INSERT: the jack switch low for 100 ms. -/
def execJackInsert (mic : Fin 4) (s : State) : Host.Outcome State Fault Refusal :=
  doneCore s (s.onHwReady (fun s =>
    if (s.micIn mic.val).jack then s else s.setMic mic.val { noMic with jack := true, ty := 7, bias := true }))
/-- MIC_TYPE_DETECT: the measurement of 50 ms, 150 ticks, has ended. -/
def execMicTypeDetect (mic : Fin 4) (current rd : Nat) (s : State) : Host.Outcome State Fault Refusal :=
  doneCore s (s.onHw (fun s =>
    let x := s.micIn mic.val
    if x.jack && x.ty == 7 && decide (150 ≤ x.meas) then
      let f := s.typeForce mic.val
      let ty := if f = 0 then micType current rd else f
      let t := s.setMic mic.val { x with ty := ty, bias := ty == 2 || ty == 4, iUa := current }
      (t.wr (HWD_MIC_RD mic.val) (w32 (if 65534 < rd then 0xFFFF else rd))).hwFlag 2 112
    else s))
/-- JACK_REMOVE: the jack switch high for 10 ms. -/
def execJackRemove (mic : Fin 4) (s : State) : Host.Outcome State Fault Refusal :=
  doneCore s (s.onHw (fun s => if (s.micIn mic.val).jack then (s.setMic mic.val noMic).hwFlag 2 112 else s))

/-- Rc above a resistance: 5.0 V / I − 6.8 kΩ by the current in µA, without rounding. -/
def rcOver (r i : Nat) : Bool := decide ((r + 6800) * i < 5000000)
/-- Rc at or above a resistance. -/
def rcFrom (r i : Nat) : Bool := decide ((r + 6800) * i ≤ 5000000)
/-- The key band of a current (R446): 0 none, 1 CHIME, 2 PTT, 3 both, 4 line open, 5 line short, 6 between bands. -/
def keyBand (i : Nat) : Nat :=
  if rcOver 40000 i then 4
  else if rcFrom 17600 i && !rcOver 28000 i then 0
  else if rcFrom 11000 i && !rcOver 16500 i then 1
  else if rcFrom 8000 i && !rcOver 10000 i then 2
  else if rcFrom 6000 i && !rcOver 7800 i then 3
  else if !rcFrom 2000 i then 5
  else 6
/-- Whether an input's supervision condition fails (R445). -/
def micFails (ty i : Nat) : Bool :=
  if ty = 2 then !(decide (300 ≤ i) && decide (i ≤ 3000))
  else if ty = 4 then keyBand i == 4 || keyBand i == 5
  else false
/-- HWD_KEY_DEB. -/
def State.keyDeb (s : State) : Nat := s.rdF HWD_KEY_DEB 7 0

/-- One tick of supervision of an input. -/
def State.micSupervise (s : State) (m i : Nat) : State :=
  let x := s.micIn m
  if x.jack && (x.ty == 2 || x.ty == 4) then
    if micFails x.ty i = x.fault then s.setMic m { x with badCnt := 0 }
    else if s.keyDeb ≤ x.badCnt + 1 then
      (s.setMic m { x with badCnt := 0, fault := !x.fault }).when (!x.fault) (·.hwFlag 2 113)
    else s.setMic m { x with badCnt := x.badCnt + 1 }
  else s
/-- HW_MIC_FAULT: the condition failing or holding in the HWD_KEY_DEB-th tick. -/
def execHwMicFault (mic : Fin 4) (iUa : Nat) (s : State) : Host.Outcome State Fault Refusal :=
  doneCore s (s.onHwReady (fun s => if s.keyDeb ≤ (s.micIn mic.val).badCnt + 1 then s.micSupervise mic.val iUa else s))

/-- A chime asked for by a press of input 0 (R460). -/
def State.chimePress (s : State) (m : Nat) (before : Bool) : State :=
  if m = 0 ∧ before = false ∧ (s.micIn 0).chime = true ∧ s.hwd.mode = .fallback then s.modHwd (fun h => { h with chimeReq := true }) else s
/-- One tick of an input's key band. -/
def State.micKeys (s : State) (m i : Nat) : State :=
  let x := s.micIn m
  if x.jack && x.ty == 4 then
    let b := keyBand i
    if b = 6 then s
    else
      let n := if x.cand = b then x.cnt + 1 else 1
      let y := { x with cand := b, cnt := min 255 n }
      let ptt := b == 2 || b == 3
      let chime := b == 1 || b == 3
      if b < 4 ∧ s.keyDeb ≤ n ∧ (ptt ≠ x.ptt ∨ chime ≠ x.chime) then
        ((s.setMic m { y with ptt := ptt, chime := chime }).chimePress m x.chime).hwFlag 3 114
      else s.setMic m y
  else s
/-- HW_KEY: the band found in the HWD_KEY_DEB-th tick. -/
def execHwKey (mic : Fin 4) (iUa : Nat) (s : State) : Host.Outcome State Fault Refusal :=
  doneCore s (s.onHwReady (fun s =>
    let x := s.micIn mic.val
    if s.keyDeb ≤ (if x.cand = keyBand iUa then x.cnt else 0) + 1 then (s.micKeys mic.val iUa).hwResend else s))

/-! ## Contacts (R447, R448) -/

/-- The state of a resistance as HWD_CIN_STATE codes it; an edge belongs to the higher band. -/
def cinBand (ohms : Nat) : Nat := if ohms < 150 then 3 else if ohms < 2200 then 1 else if ohms ≤ 12000 then 0 else 2
/-- HWD_CIN_DEB. -/
def State.cinDeb (s : State) : Nat := s.rdF HWD_CIN_DEB 7 0
/-- One tick of a contact. -/
def State.cinTick (s : State) (c ohms : Nat) : State :=
  let x := s.cin c
  let b := cinBand ohms
  let y := { x with ohms := ohms }
  if b = x.st then s.setCin c { y with cand := b, cnt := 0 }
  else
    let n := if x.cand = b then x.cnt + 1 else 1
    if s.cinDeb ≤ n then
      (((s.setCin c { y with st := b, cand := b, cnt := 0 }).count HWD_CIN_CHANGES 1).hwFlag 4 115).when (decide (2 ≤ b)) (·.hwFlag 4 116)
    else s.setCin c { y with cand := b, cnt := n }
/-- HW_CONTACT: the band found in the HWD_CIN_DEB-th consecutive tick. -/
def execHwContact (cin : Fin 8) (ohms : Nat) (s : State) : Host.Outcome State Fault Refusal :=
  doneCore s (s.onHwReady (fun s =>
    let x := s.cin cin.val
    if x.st ≠ cinBand ohms ∧ s.cinDeb ≤ (if x.cand = cinBand ohms then x.cnt else 0) + 1 then (s.cinTick cin.val ohms).hwResend else s))

/-! ## Power channels (R453 to R457) -/

/-- |Z|² of a measured impedance in 10 mΩ. -/
def zSq (r x : Int) : Nat := r.natAbs * r.natAbs + x.natAbs * x.natAbs
/-- HWD_CH_Z. -/
def zWord (r x : Int) : W32 := w32 (uwrap 16 (satI 16 x) * 2 ^ 16 + uwrap 16 (satI 16 r))
/-- RANGE: |Z| outside 2 to 32 Ω. -/
def zRange (r x : Int) : Bool := decide (zSq r x < 200 * 200) || decide (3200 * 3200 < zSq r x)
/-- The short threshold of HWD_Z_SHORT, and the open one. -/
def State.zShort (s : State) : Nat := s.rdF HWD_Z_SHORT 15 0
def State.zOpen (s : State) : Nat := s.rdF HWD_Z_SHORT 31 16
/-- The line state of R455, the first row that applies. -/
def State.lineOf (s : State) (k : Nat) (r x : Int) (tooSmall : Bool) : Nat :=
  let z := zSq r x
  let ref := s.rdF (HWD_CH_ZREF k) 15 0
  let tol := s.rdF (HWD_CH_ZREF k) 23 16
  if !tooSmall && decide (z < s.zShort * s.zShort) then 4
  else if tooSmall || decide (s.zOpen * s.zOpen < z) then 5
  else if 10000 * z < ref * (100 - tol) * (ref * (100 - tol)) then 2
  else if ref * (100 + tol) * (ref * (100 + tol)) < 10000 * z then 3
  else 1
/-- A measured Z is reported. -/
def State.zReport (s : State) (k : Nat) (r x : Int) : State :=
  (s.setCh k { s.powCh k with range := zRange r x }).wr (HWD_CH_Z k) (zWord r x)
/-- A short (R456): high impedance at once; the next tick boundary reports it. -/
def State.chShort (s : State) (k : Nat) (r x : Int) : State :=
  s.setCh k { s.powCh k with
    st := .hizShort, shorted := some (r, x), cand := 0, cnt := 0, win := 0, since := 0, probing := false, passes := 0
    single := false, enLow := false, fadeIn := false, back := false }
/-- The boundary after a short: HWD_CH_Z, LINE SHORT, the count, EV110. -/
def State.shortReport (s : State) (k : Nat) : State :=
  match (s.powCh k).shorted with
  | some z =>
    let t := s.zReport k z.1 z.2
    ((t.setCh k { t.powCh k with line := 4, shorted := none }).count (HWD_CH_SHORTS k) 1).hwFlag 5 110
  | none => s
/-- A channel that a short can reach. -/
def chDrives (c : ChState) : Bool := c == .play || c == .sweep
/-- HW_SHORT: the current limit has acted on every cycle for 20 µs, with Z from V / I during the limit. -/
def execHwShort (ch : Fin 2) (r x : Int) (s : State) : Host.Outcome State Fault Refusal :=
  doneCore s (s.onHw (fun s =>
    let y := s.powCh ch.val
    if y.st = .play then s.chShort ch.val r x
    else if y.st = .sweep then s.sweepFail.chShort ch.val r x
    else s))

/-- A window's line state taken: the first one at once, a change among OK, LOW, HIGH and OPEN after two windows (R455). -/
def State.lineTake (s : State) (k d : Nat) : State :=
  let y := s.powCh k
  if d = y.line then s.setCh k { y with cand := 0, cnt := 0 }
  else if y.line = 0 ∨ y.line = 4 then s.setCh k { y with line := d, cand := 0, cnt := 0 }
  else if y.cand = d then (s.setCh k { y with line := d, cand := 0, cnt := 0 }).hwFlag 6 111
  else s.setCh k { y with cand := d, cnt := 1 }
/-- PILOT_WINDOW_END: the 300-tick window of a channel that plays with its pilot on ends. -/
def execPilotWindowEnd (ch : Fin 2) (r x : Int) (tooSmall : Bool) (power : Nat) (s : State) : Host.Outcome State Fault Refusal :=
  doneCore s (s.onHw (fun s =>
    let k := ch.val
    if (s.powCh k).st = .play ∧ 300 ≤ (s.powCh k).win then
      let d := s.lineOf k r x tooSmall
      let t := ((s.setCh k { s.powCh k with win := 0 }).zReport k r x).wr (HWD_CH_POWER k) (w32 (min 0xFFFF power))
      if d = 4 then t.chShort k r x else t.lineTake k d
    else s))

/-- A probe begins (R457). -/
def State.probeStart (s : State) (k : Nat) (single : Bool) : State :=
  s.setCh k { s.powCh k with probing := true, probeTicks := 0, since := 0, single := single || (s.powCh k).single }
/-- SHORT_PROBE: every 3000 ticks in HIZ_SHORT with AUTO_RETURN at 1. -/
def execShortProbe (ch : Fin 2) (s : State) : Host.Outcome State Fault Refusal :=
  doneCore s (s.onHw (fun s =>
    let y := s.powCh ch.val
    if y.st = .hizShort ∧ s.bit (HWD_CH_CFG ch.val) 17 = true ∧ y.probing = false ∧ y.back = false ∧ 3000 ≤ y.since then s.probeStart ch.val false else s))
/-- The channel plays again, with a fade-in. -/
def State.chReturn (s : State) (k : Nat) : State :=
  s.setCh k { s.powCh k with
    st := if s.bit (HWD_CH_CFG k) 0 then .play else .off, fadeIn := true, win := 0, probing := false, passes := 0
    single := false, enLow := false, back := false }
/-- The boundary after the probe that passes: the channel returns, and EV110 is raised again. -/
def State.shortReturn (s : State) (k : Nat) : State :=
  if (s.powCh k).back then (s.chReturn k).hwFlag 5 110 else s
/-- SHORT_PROBE_END: a probe ends after 300 ticks, or at once where it meets the current limit; one that returns the channel does so at the next tick
boundary. -/
def execShortProbeEnd (ch : Fin 2) (r x : Int) (limited : Bool) (s : State) : Host.Outcome State Fault Refusal :=
  doneCore s (s.onHw (fun s =>
    let k := ch.val
    let y := s.powCh k
    if y.st = .hizShort ∧ y.probing = true ∧ (limited = true ∨ 300 ≤ y.probeTicks) then
      let pass := !limited && decide (4 * s.zShort * s.zShort ≤ zSq r x)
      let t := s.zReport k r x
      let y := t.powCh k
      if pass && (y.single || decide (1 ≤ y.passes)) then t.setCh k { y with probing := false, back := true }
      else t.setCh k { y with probing := false, single := false, passes := if pass then y.passes + 1 else 0 }
    else s))

/-- The effect of a write of HWD_CH_CFG beyond its bits: EN 0 switches a playing channel off; with AUTO_RETURN at 0, EN 1 after EN 0 starts a probe in
HIZ_SHORT (R457). -/
def State.chCfg (s : State) (k : Nat) (v : W32) : State :=
  let t := s.wr (HWD_CH_CFG k) (v &&& 0x33F01)
  let y := t.powCh k
  if bitOf v 0 then
    (match y.st with
     | .off => if 120 ≤ s.hwd.age then t.setCh k { y with st := .play, win := 0 } else t
     | .hizShort => 
       if y.enLow && !bitOf v 17 then (t.setCh k { y with enLow := false }).probeStart k true else t.setCh k { y with enLow := false }
     | _ => t)
  else
    (match y.st with
     | .play => t.setCh k { y with st := .off, win := 0 }
     | .sweep => t.sweepFail.setCh k { y with st := .off, win := 0 }
     | .hizShort => t.setCh k { y with enLow := true }
     | _ => t)

/-- Both channels to high impedance. -/
def State.chsFault (s : State) : State :=
  foldS (fun (t : State) k => t.setCh k { t.powCh k with st := .hizFault, win := 0, probing := false, passes := 0, single := false, back := false }) s.sweepFail [0, 1]
/-- Both channels back, once neither condition holds. -/
def State.chsReturn (s : State) : State :=
  if s.hwd.vbatBad || s.hwd.hot then s
  else foldS (fun (t : State) k => if (t.powCh k).st = .hizFault then t.chReturn k else t) s [0, 1]
/-- VBAT_FAULT: VBAT below 17 V for 1 ms, or above 33 V. -/
def execVbatFault (mv : Nat) (s : State) : Host.Outcome State Fault Refusal :=
  doneCore s (s.onHw (fun s =>
    let s := s.wrF HWD_VBAT 15 0 (min 0xFFFF mv)
    if (mv < 17000 ∨ 33000 < mv) ∧ s.hwd.vbatBad = false then
      ((s.modHwd (fun h => { h with vbatBad := true })).chsFault).hwFlag 8 117
    else s))
/-- VBAT_RETURN: VBAT within 18 to 32 V for 100 ms. -/
def execVbatReturn (mv : Nat) (s : State) : Host.Outcome State Fault Refusal :=
  doneCore s (s.onHw (fun s =>
    let s := s.wrF HWD_VBAT 15 0 (min 0xFFFF mv)
    if 18000 ≤ mv ∧ mv ≤ 32000 ∧ s.hwd.vbatBad = true then
      ((s.modHwd (fun h => { h with vbatBad := false })).chsReturn).hwFlag 8 117
    else s))
/-- HW_THERMAL: the die above 150 °C attenuates, above 165 °C floats the channels, below 140 °C returns both. -/
def execHwThermal (temp : Int) (s : State) : Host.Outcome State Fault Refusal :=
  doneCore s (s.onHw (fun s =>
    let s := s.wr HWD_TEMP (w32 (uwrap 8 (satI 8 temp)))
    let a := if 150 < temp then true else if temp < 140 then false else s.hwd.att
    let h := if 165 < temp then true else if temp < 140 then false else s.hwd.hot
    let t := s.modHwd (fun w => { w with att := a, hot := h })
    let t := if h && !s.hwd.hot then t.chsFault else if !h && s.hwd.hot then t.chsReturn else t
    if a ≠ s.hwd.att ∨ h ≠ s.hwd.hot then t.hwFlag 9 117 else t))

/-! ## The fallback mix (R460, R461) -/

/-- Trigger c is active: EN is 1 and CIN c is CLOSED. -/
def State.trigOn (s : State) (c : Nat) : Bool := s.bit (HWD_TRIG c) 12 && (s.cin c).st == 1
/-- The trigger of the wanted message: the lowest PRI, on equal PRI the lowest c. -/
def State.wantedFrom (s : State) : List Nat → Option Nat → Option Nat
  | [], b => b
  | c :: cs, b =>
    if s.trigOn c then
      (match b with
       | none => s.wantedFrom cs (some c)
       | some d => s.wantedFrom cs (if s.rdF (HWD_TRIG c) 11 8 < s.rdF (HWD_TRIG d) 11 8 then some c else some d))
    else s.wantedFrom cs b
def State.wanted (s : State) : Option Nat := s.wantedFrom (upFrom 0 8) none
/-- The message of a trigger, and whether it repeats. -/
def State.trigMsg (s : State) (c : Nat) : Nat := s.rdF (HWD_TRIG c) 7 0
def State.trigRepeat (s : State) (c : Nat) : Bool := s.bit (HWD_TRIG c) 13
/-- The message of the chime key, where it is good. -/
def State.chimeMsg (s : State) : Option Nat :=
  let m := s.rdF HWD_FB_CFG 23 16
  if s.hwd.good.contains m then some m else none

/-- What starts at a boundary at which nothing plays any more. -/
def State.hwNext (s : State) : Option MsgPlay :=
  let play (i : Nat) (ch : Bool) (c : Nat) : MsgPlay := { idx := i, chime := ch, trig := c, pos := 0, fading := false, fresh := false }
  if s.hwPressed then none
  else
    match (if s.hwd.chimeReq then s.chimeMsg else none) with
    | some m => some (play m true 0)
    | none =>
      (match s.wanted with
       | none => none
       | some c =>
         if s.hwd.good.contains (s.trigMsg c) && (s.trigRepeat c || !s.hwd.once.contains c) then some (play (s.trigMsg c) false c) else none)
/-- The next message starts, or silence; a chime that the talk key mutes is dropped. -/
def State.hwStart (s : State) (fresh : Bool) : State :=
  let p := s.hwNext
  s.modHwd (fun h => { h with play := p.map (fun q => { q with fresh := fresh }), chimeReq := false })
/-- A play has ended: with REPEAT at 0 the trigger has played for its closure. -/
def State.hwEnd (s : State) (p : MsgPlay) (fresh : Bool) : State :=
  (s.modHwd (fun h => { h with
    once := if p.chime || s.trigRepeat p.trig || h.once.contains p.trig then h.once else p.trig :: h.once })).hwStart fresh
/-- The playing message fades out in the tick that begins. -/
def State.hwFade (s : State) (p : MsgPlay) : State := s.modHwd (fun h => { h with play := some { p with fading := true } })
/-- The messages at a Heartwood boundary in FALLBACK. -/
def State.hwMessages (s : State) : State :=
  match s.hwd.play with
  | none => s.hwStart false
  | some p =>
    if p.fresh then s.modHwd (fun h => { h with play := some { p with fresh := false } })
    else if p.fading then s.hwStart false
    else
      let p := { p with pos := p.pos + 16 }
      let t := s.modHwd (fun h => { h with play := some p })
      if s.hwd.msgLen p.idx ≤ p.pos then t.hwEnd p false
      else if s.hwPressed then (t.modHwd (fun h => { h with chimeReq := false })).hwFade p
      else if s.hwd.chimeReq && s.chimeMsg.isSome && !p.chime then t.hwFade p
      else if p.chime then t
      else
        match s.wanted with
        | none => t
        | some c => if s.trigMsg c = p.idx then t.modHwd (fun h => { h with play := some { p with trig := c } }) else t.hwFade p
/-- RESERVE_MESSAGE_END: a play in its last tick ends with the coming boundary. -/
def execReserveMessageEnd (s : State) : Host.Outcome State Fault Refusal :=
  doneCore s (s.onHw (fun s =>
    match s.hwd.play with
    | none => s
    | some p => if !p.fading && !p.fresh && decide (s.hwd.msgLen p.idx ≤ p.pos + 16) then s.hwEnd p true else s))

/-! ## Heartwood's tick (R458) -/

/-- The heartbeats of the ending tick are closed; the tick is numbered. -/
def State.hwCloseBeat (s : State) : State :=
  s.modHwd (fun h =>
    if h.hbGood then { h with num := h.hbLast + 1, missed := 0, arrived := 0, hbGood := false }
    else { h with num := h.num + 1, missed := min 3 (h.missed + 1), hbCount := 0, arrived := 0 })
/-- The channels' counts of a tick; a channel whose EN is 1 plays from 40 ms after power-up. -/
def State.chTick (s : State) (k : Nat) : State :=
  let y := s.powCh k
  let y := { y with since := y.since + 1, probeTicks := y.probeTicks + 1,
                    win := if y.st = .play ∧ s.bit (HWD_CH_CFG k) 16 = true then y.win + 1 else 0,
                    st := if y.st = .off ∧ s.hwd.age = 120 ∧ s.bit (HWD_CH_CFG k) 0 = true then .play else y.st }
  s.setCh k y
/-- The channels at a boundary: a short of the ending tick is reported, a probe that passed returns its channel. -/
def State.chBoundary (s : State) (k : Nat) : State := ((s.chTick k).shortReport k).shortReturn k
/-- What a channel plays in the tick that begins. -/
def State.chSrc (s : State) (k : Nat) : SpkSrc :=
  let y := s.powCh k
  match y.st with
  | .hizShort => if y.probing then .probe else .hiz
  | .sweep => .sweep (match s.hwd.sweep with | some w => w.points.length | none => 0) (match s.hwd.sweep with | some w => w.level | none => 0)
  | .play =>
    if s.hwd.mode = .fallback then
      (if s.bit HWD_FB_CFG k then
        .mix s.micHeard (s.hwd.play.map (fun p => (p.idx, p.pos))) (s.hwd.play.any (·.fading)) (s.rdF HWD_FB_CFG 13 8)
       else .unmasked)
    else match y.samples with
      | some xs => .engine xs
      | none => if s.inPair then .hold y.last else .silent
  | _ => .hiz
/-- Whether a source is the engine's or Heartwood's own. -/
def SpkSrc.ofEngine : SpkSrc → Bool
  | .engine _ => true | .hold _ => true | .silent => true | _ => false
def SpkSrc.ofFallback : SpkSrc → Bool
  | .mix _ _ _ _ => true | .unmasked => true | _ => false
/-- The mix goes on through the tick in which it fades out. -/
def SpkSrc.onward : SpkSrc → SpkSrc
  | .mix m q f a => .mix m (q.map (fun x => (x.1, x.2 + 16))) f a
  | x => x
/-- A channel's tick begins: a fade-in from zero; at a takeover a fade from the value it holds, at a return a crossfade from the mix (R459, R462). -/
def State.chPlay (s : State) (k : Nat) : State :=
  let y := s.powCh k
  let src := s.chSrc k
  let fade :=
    if src.ofEngine || src.ofFallback then
      (if y.fadeIn then some .silent
       else if y.heard.ofEngine && src.ofFallback then some (.hold y.last)
       else if y.heard.ofFallback && src.ofEngine then some y.heard.onward else none)
    else none
  let last := match src with | .engine xs => xs.getLastD y.last | .hold x => x | _ => 0
  let t := s.setCh k { y with fadeIn := false, samples := none, last := last, heard := src }
  if y.st = .off then t
  else t.emit (.speaker k { fade := fade, src := src, att := s.rdF (HWD_CH_CFG k) 13 8 + (if s.hwd.att then 6 else 0),
                            pilot := y.st == .play && s.bit (HWD_CH_CFG k) 16 })
/-- A tick of the measurement after an insertion. -/
def State.micTick (s : State) (m : Nat) : State :=
  let x := s.micIn m
  if x.ty = 7 then s.setMic m { x with meas := min 150 (x.meas + 1) } else s
/-- The measurements of the ending tick. -/
def State.hwMeasure (s : State) (o : HwdObs) : State :=
  let s := s.wr HWD_VBAT (w32 (min 0xFFFF o.vrail * 2 ^ 16 + min 0xFFFF o.vbat))
  let s := foldS (fun (t : State) (k : Fin 2) => t.count (HWD_CH_LIMITS k.val) 1) s o.limits
  if s.hwd.age < 120 then s
  else
    let s := (foldS (fun (p : State × Nat) i =>
      let t := p.1.micSupervise p.2 i
      let t := t.micKeys p.2 i
      (t.setMic p.2 { t.micIn p.2 with iUa := i }, p.2 + 1)) (s, 0) (o.iUa.take 4)).1
    (foldS (fun (p : State × Nat) r => (p.1.cinTick p.2 r, p.2 + 1)) (s, 0) (o.ohms.take 8)).1
/-- The mode at a Heartwood boundary: the crossfade ends, FORCE and a third miss enter FALLBACK, 300 heartbeats leave it. -/
def State.hwModeStep (s : State) : State :=
  let t := if s.hwd.mode = .returning then s.modHwd (fun h => { h with mode := .engine }) else s
  let t := if t.hwd.mode = .engine then
      (if t.forced || decide (3 ≤ t.hwd.missed) then t.hwTake t.hwd.num else t)
    else if t.mayReturn then t.hwReturn else t
  t.modHwd (fun h => { h with forcePrev := t.forced })
/-- Heartwood's boundary. -/
def State.hwTick (s : State) (o : HwdObs) : State :=
  let s := s.hwCloseBeat.modHwd (fun h => { h with age := min 1200 (h.age + 1) })
  let s := (foldS State.micTick (s.hwMeasure o) [0, 1, 2, 3]).hwResend
  let s := if s.hwd.checkLeft = 1 then s.hwCheck else s.modHwd (fun h => { h with checkLeft := h.checkLeft - 1 })
  let s := foldS (fun (t : State) k => t.chBoundary k) s [0, 1]
  let s := s.modHwd (fun h => { h with
    once := h.once.filter (fun c => (s.cin c).st == 1)
    sweep := h.sweep.map (fun w => { w with ticks := w.ticks + 1 }) })
  let s := s.hwModeStep
  let s := if s.hwd.mode = .fallback then s.hwMessages else s.modHwd (fun h => { h with chimeReq := false })
  foldS (fun (t : State) k => t.chPlay k) s [0, 1]
/-- HEARTWOOD_TICK: Heartwood's boundary; where it coincides with the engine's, it stands before that TICK_BOUNDARY (log entry 88). -/
def execHeartwoodTick (obs : HwdObs) (s : State) : Host.Outcome State Fault Refusal := doneCore s (s.onHw (fun s => s.hwTick obs))

/-! ## Power-up (R439, R459, R467) -/

/-- Heartwood powers up: every register at its reset value, then the saved configuration, then FALLBACK; the store's check takes until 400 ms. -/
def State.hwPowerUp (s : State) : State :=
  let t := { s with regs := spClear s.regs 0xB0000 0xB3000,
                    hwd := { resetHwd s.hwd.mram with powered := true, checkLeft := 1200 } }
  let ok := t.hwd.cfgGood
  let t := if ok then
      (foldS (fun (p : State × Nat) (r : Nat × W32) => (p.1.wr r.1 (w32 (s.hwd.word (0x1000 + 4 * p.2)) &&& r.2), p.2 + 1)) (t, 1) hwCfgRegs).1
    else t.hwFlag 7 118
  (t.modHwd (fun h => { h with cfgOk := ok })).hwTake 0
/-- HEARTWOOD_POWER_UP: VBAT in range, outside Nap. -/
def execHeartwoodPowerUp (s : State) : Host.Outcome State Fault Refusal :=
  doneCore s (if s.fit.variantA && s.sys.phase != .nap then s.hwPowerUp else s)
/-- Heartwood's supply ends: in Nap, or with the module's. -/
def State.hwPowerDown (s : State) : State := s.modHwd (fun h => { h with powered := false, sweep := none, play := none })

/-! ## IMPEDANCE_SWEEP (R468) -/

/-- The start checks of the kind: its arguments, then whether the channel plays. -/
def State.sweepError (s : State) (j : JobSlot) : Nat :=
  let a := j.arg 0
  if !s.fit.variantA then 0x04
  else if a &&& 0xFFFF00FE ≠ 0 ∨ fld a 15 8 < 20 ∨ 60 < fld a 15 8 ∨ j.arg 1 ≠ 0 ∨ j.arg 2 ≠ 0 ∨ j.arg 3 ≠ 0 then 0x02
  else if s.hwHere && s.bit (HWD_CH_CFG (fld a 0 0)) 0 && (s.powCh (fld a 0 0)).st == .play then 0
  else 0x40
/-- IMPEDANCE_SWEEP: the slot's job begins where it can. -/
def execImpedanceSweep (slot : Fin 16) (s : State) : Host.Outcome State Fault Refusal :=
  doneCore s (
    let k := slot.val
    let s0 := s.jobTryBegin k
    if !s0.runsJob k 8 || s0.hwd.sweep.isSome || (s0.slot k).fin.isSome then s0
    else
      let ch := fld ((s0.slot k).arg 0) 0 0
      if s0.sweepError (s0.slot k) ≠ 0 then s0.jobFin k (s0.sweepError (s0.slot k))
      else
        (s0.setCh ch { s0.powCh ch with st := .sweep, win := 0 }).modHwd (fun h => { h with sweep := some { slot := k, ch := ch, points := [], ticks := 0, level := fld ((s0.slot k).arg 0) 15 8 } }))
/-- SWEEP_POINT_END: a point of 300 ticks ends; an ABORT is taken here. -/
def execSweepPointEnd (r x : Int) (s : State) : Host.Outcome State Fault Refusal :=
  doneCore s (
    match s.hwd.sweep with
    | none => s
    | some w =>
      if w.ticks < 300 then s
      else
        let w := { w with points := w.points ++ [zWord r x], ticks := 0 }
        let t := (s.modHwd (fun h => { h with sweep := some w })).jobProgress w.slot w.points.length
        if (s.slot w.slot).abortReq then t.sweepClose.jobAborted w.slot
        else if 28 ≤ w.points.length then t.sweepClose.jobFin w.slot 0
        else t)
/-- The sweep of a slot stops at its safe point. -/
def State.sweepAbort (s : State) (k : Nat) : State :=
  match s.hwd.sweep with
  | none => s
  | some w => if w.slot = k then s.sweepClose else s

/-! ## What the read-only registers show (R470 to R475) -/

def hwModeCode : HwMode → Nat
  | .engine => 0 | .fallback => 1 | .returning => 2
def chStateCode : ChState → Nat
  | .off => 0 | .play => 1 | .hizShort => 2 | .hizFault => 3 | .sweep => 4
/-- HWD_STATE. -/
def State.hwState (s : State) : W32 :=
  let msg := match s.hwd.play with
    | some p => p.idx
    | none => 0
  w32 (s.hwd.hbCount * 2 ^ 16 + msg * 2 ^ 8 + s.hwSource * 2 ^ 6 + b01 s.hwd.clockInt * 2 ^ 5
    + b01 (s.hwd.mode == .fallback && s.forced) * 2 ^ 4 + hwModeCode s.hwd.mode)
/-- HWD_MIC_STATE of an input. -/
def MicIn.word (x : MicIn) : W32 :=
  w32 (min 0xFFFF x.iUa * 2 ^ 16 + b01 x.bias * 2 ^ 7 + b01 x.fault * 2 ^ 6 + b01 x.chime * 2 ^ 5 + b01 x.ptt * 2 ^ 4 + x.ty * 2 + b01 x.jack)
/-- HWD_CH_STATE of a channel. -/
def State.chWord (s : State) (k : Nat) : W32 :=
  let y := s.powCh k
  let src := s.hwd.mode == .fallback && s.bit HWD_FB_CFG k
  w32 (b01 y.range * 2 ^ 9 + b01 src * 2 ^ 8 + y.line * 2 ^ 4 + chStateCode y.st)
/-- HWD_RS_STATE. -/
def State.rsState (s : State) : W32 :=
  let n := s.hwd.good.length
  w32 (b01 s.hwd.cfgOk * 2 ^ 17 + b01 (n == 256) * 2 ^ 16 + n % 256 * 2 ^ 8 + b01 (decide (1 ≤ s.hwd.checkLeft) && decide (s.hwd.checkLeft ≤ 1020)))
/-- The computed registers of the HWD windows; none for one that the register file holds. -/
def State.hwdView (s : State) (off : Nat) : Option W32 :=
  if off = 0x10 then some s.hwState
  else if off = 0x34 then some s.rsState
  else if off = 0x1058 then some (w32 (foldS (fun n c => n + (s.cin c).st * 2 ^ (2 * c)) 0 (upFrom 0 8)))
  else if off = 0x1060 then some (w32 (min 0xFFFF (s.cin (s.rdF HWD_CIN_RSEL 2 0)).ohms))
  else if 0x1010 ≤ off ∧ off < 0x1050 ∧ off % 16 = 4 then some (s.micIn ((off - 0x1010) / 16)).word
  else if off = 0x2014 then some (s.chWord 0)
  else if off = 0x2034 then some (s.chWord 1)
  else none

end Sys2Proof.Machine
end

