-- ==== Sys2Proof/Machine/Presence.lean ====
section
/-! DEFINITION. Presence and the seal (R492 to R496), power domains, supply and temperature (R500 to R502), and the Nap request
(R503, R504). -/

namespace Sys2Proof.Machine

def State.modPrs (s : State) (f : PrsSt → PrsSt) : State := { s with prs := f s.prs }
def State.modPwd (s : State) (f : PwdSt → PwdSt) : State := { s with pwd := f s.pwd }
/-- The seed is powered: VAON is in range. -/
def State.seedOn (s : State) : Bool := s.sys.phase != .off

/-! ## Presence (R492, R493) -/

/-- The window opens: EV16. -/
def State.windowOpen (s : State) : State :=
  if s.prs.window then s.modPrs (fun p => { p with elapsed := 0 })
  else (s.modPrs (fun p => { p with window := true, elapsed := 0 })).flagRaise PRS_STAT 0 16
/-- The window runs out: EV16. -/
def State.windowEnd (s : State) : State := (s.modPrs (fun p => { p with window := false, elapsed := 0 })).flagRaise PRS_STAT 0 16
/-- PRESENCE_N counts as asserted. -/
def State.presentOn (s : State) : State :=
  if s.prs.present then s else ((s.modPrs (fun p => { p with present := true })).count PRS_PRESENCE_COUNT 1).windowOpen
/-- PRESENCE_ASSERT: PRESENCE_N has read low for 30 consecutive ticks. -/
def execPresenceAssert (s : State) : Host.Outcome State Fault Refusal := doneCore s (if s.seedOn then s.presentOn else s)
/-- A wake source that was active at the entry into Nap has become inactive (R505). -/
def State.unheld (s : State) (source : Nat) : State := s.modPwd (fun p => { p with held := p.held.filter (· != source) })
/-- PRESENCE_RELEASE: PRESENCE_N has read high for 30 consecutive ticks. -/
def execPresenceRelease (s : State) : Host.Outcome State Fault Refusal :=
  doneCore s (if s.seedOn && s.prs.present then (s.modPrs (fun p => { p with present := false, elapsed := 0 })).unheld 1 else s)
/-- The window's length in ticks. -/
def State.windowTicks (s : State) : Nat := 3000 * s.rdF PRS_WINDOW 9 0
/-- The time since the last asserted tick grows; a window whose time has passed runs out. -/
def State.prsElapse (s : State) (n : Nat) : State :=
  if s.prs.window && !s.prs.present then
    let t := s.modPrs (fun p => { p with elapsed := p.elapsed + n })
    if t.windowTicks ≤ t.prs.elapsed then t.windowEnd else t
  else s

/-! ## The seal (R494, R495) -/

/-- A sampling of the loop; the second failing one in a row is a break. -/
def State.sealSample (s : State) (ok : Bool) : State :=
  let n := if ok then 0 else min 3 (s.prs.sealFails + 1)
  let t := s.modPrs (fun p => { p with sealIntact := ok, sealFails := n })
  if ok then t.unheld 2
  else if n = 2 then
    (((t.modPrs (fun p => { p with sealLatch := true })).count PRS_SEAL_BREAKS 1).wr PRS_SEAL_TIME (t.rd PWD_RTC)).flagRaise PRS_STAT 1 17
  else t
/-- SEAL_SAMPLE. -/
def execSealSample (ok : Bool) (s : State) : Host.Outcome State Fault Refusal := doneCore s (if s.seedOn then s.sealSample ok else s)
/-- The conditions under which the key of PRS_RESEAL is accepted on a path; PATH 3 is the monitor. -/
def State.resealOk (s : State) (path : Nat) (v : W32) : Bool := v == 0x5EA1 && s.prs.present && s.prs.sealIntact && path != 3
/-- The seal latch clears: EV18. -/
def State.unseal (s : State) : State := if s.prs.sealLatch then (s.modPrs (fun p => { p with sealLatch := false })).raise 18 else s
/-- A write of PRS_RESEAL by a path (R495). -/
def State.reseal (s : State) (path : Nat) (v : W32) : State :=
  if s.resealOk path v then
    s.unseal
  else s.deny 1 path PRS_RESEAL
/-- RESEAL: a host write of PRS_RESEAL. -/
def execReseal (val : W32) (s : State) : Host.Outcome State Fault Refusal := doneCore s (s.byHost (fun s => s.reseal 0 val))

/-! ## Time of the seed -/

/-- The RTC advances by a number of ticks, 3000 to the second (log entry 20). -/
def State.rtcAdvance (s : State) (n : Nat) : State :=
  let t := s.pwd.rtcTicks + n
  (s.modPwd (fun p => { p with rtcTicks := t % 3000 })).wr PWD_RTC (w32 ((s.rd PWD_RTC).toNat + t / 3000))

/-- The module is awake: neither off, nor in Nap, nor without its supplies. -/
def State.awake (s : State) : Bool := s.sys.phase == .running || s.sys.phase == .starting || s.sys.phase == .held

/-- PRESENCE_WINDOW_EXPIRY: the time passes with the running tick; in Nap, where no tick shows the time, it shows that the RTC has come so far. -/
def execPresenceWindowExpiry (s : State) : Host.Outcome State Fault Refusal :=
  doneCore s (
    if s.seedOn && s.prs.window && !s.prs.present then
      (if s.sys.phase = .nap then (s.rtcAdvance (s.windowTicks - s.prs.elapsed)).windowEnd
       else if s.windowTicks ≤ s.prs.elapsed + 1 then s.windowEnd else s)
    else s)

/-! ## Power domains (R500, R501) -/

/-- Whether the running image binds a matrix output in a range of columns. -/
def State.bindsColumns (s : State) (lo hi : Nat) : Bool := s.struct.moPos.any (fun p => decide (lo ≤ p.2.1) && decide (p.2.1 < hi))
/-- Whether a core of a range has a program. -/
def State.hasProgram (s : State) (lo hi : Nat) : Bool :=
  match s.img.running with
  | some i => (upFrom lo (hi - lo)).any (fun k => i.progs.any (fun q => q.1.getLsbD k))
  | none => false
/-- A port is enabled, or network time. -/
def State.netUsed (s : State) : Bool := (upFrom 0 4).any (fun p => s.bit (NET_CTL p) 0) || s.bit TIM_CTL 0
/-- A channel has a working rank. -/
def State.dramUsed (s : State) : Bool := s.dram.ch0.enabled || s.dram.ch1.enabled
/-- Whether a domain's logic is powered while the module is awake. -/
def State.domOn (s : State) (d : Nat) : Bool :=
  if d = 1 then s.seedOn
  else if d = 12 then s.hwHere
  else s.awake && !s.domFailed d && (match d with
    | 3 => s.bindsColumns 0 8
    | 4 => s.bindsColumns 8 16
    | 5 => s.hasProgram 0 32
    | 6 => s.hasProgram 32 64
    | 7 => s.netUsed
    | 8 => s.sys.straps.getLsbD 2
    | 9 => s.dramUsed
    | _ => true)
/-- Whether a domain had clocks running in the tick; the steward's tasks, and whether some bank of the pool had a cycle that is
not idle, are not stated (free values). -/
def State.domClocked (s : State) (d : Nat) : Bool :=
  match d with
  | 2 => Config.freeBit s.free
  | 3 => s.canopy.awake.any (fun n => decide (n % 16 < 8))
  | 4 => s.canopy.awake.any (fun n => decide (8 ≤ n % 16))
  | 5 => s.cores.any (fun p => decide (p.1 < 32) && p.2.active)
  | 6 => s.cores.any (fun p => decide (32 ≤ p.1) && p.2.active)
  | 8 => s.twn.linkUp
  | 11 => Config.freeBit (s.free + 1) && s.domOn 11
  | _ => s.domOn d
/-- The domains as a word of bits d − 1. -/
def domBits (f : Nat → Bool) : Nat := foldS (fun n d => n + b01 (f d) * 2 ^ (d - 1)) 0 (upFrom 1 12)
/-- The ending tick's clocks are noted and counted. -/
def State.pwdTick (s : State) : State :=
  let b := domBits s.domClocked
  (s.modPwd (fun p => { p with
    clocked := BitVec.ofNat 12 b
    occ := foldS (fun (m : Sparse W32) d => if b / 2 ^ (d - 1) % 2 = 1 then spPut m d (w32 (satN 32 ((spGet 0 m d).toNat + 1))) else m) p.occ
      (upFrom 1 12) })).drawn.drawn

/-- DOMAIN_FAULT: the power-good of a domain that is needed has not arrived within 100 µs; `d` is the domain's number less 1. -/
def execDomainFault (d : Fin 12) (s : State) : Host.Outcome State Fault Refusal :=
  doneCore s (
    let n := d.val + 1
    if !s.domOn n then s
    else
    let t := (s.modPwd (fun p => { p with failed := p.failed ||| BitVec.ofNat 12 (2 ^ d.val) })).flagRaise PWD_STAT 1 21
    if n == 3 || n == 4 || n == 5 || n == 6 || n == 9 || n == 11 then t.declareFaulty.twinFault else t)

/-! ## Supply and temperature (R502, R528) -/

/-- PWR_OK low for 10 µs: the engine declares itself faulty and stops; SUPPLY_FAIL latches, EV21 follows after the restart. -/
def State.supplyFail (s : State) : State :=
  if s.awake then
    let t := s.declareFaulty.twinFault.modPwd (fun p => { p with supplyFail := true })
    { t with sys := { t.sys with phase := .failed, answering := false, ready := false, mediaRun := false, deferred := t.sys.deferred ++ [21] } }
  else s
/-- SUPPLY_FAIL. -/
def execSupplyFail (s : State) : Host.Outcome State Fault Refusal := doneCore s s.supplyFail
/-- VCORE_UNDERVOLTAGE: VCORE below 0.70 V for 1 µs acts as PWR_OK low. -/
def execVcoreUndervoltage (s : State) : Host.Outcome State Fault Refusal := doneCore s s.supplyFail
/-- PWD_TEMP_WARN in °C. -/
def State.tempWarn (s : State) : Int := (s.rdF PWD_TEMP_WARN 7 0 : Nat)
/-- TEMP_WARN_CROSS: the engine die's temperature crosses the threshold, or falls back below it by 5 °C. -/
def execTempWarnCross (temp : Int) (s : State) : Host.Outcome State Fault Refusal :=
  doneCore s (
    let t := s.modPwd (fun p => { p with temp := temp })
    if !s.awake then s
    else if s.pwd.tempAbove = false ∧ s.tempWarn < temp then (t.modPwd (fun p => { p with tempAbove := true })).flagRaise PWD_STAT 0 22
    else if s.pwd.tempAbove = true ∧ temp < s.tempWarn - 5 then (t.modPwd (fun p => { p with tempAbove := false })).flagRaise PWD_STAT 0 22
    else t)
/-- ENGINE_THERMAL_FAULT: above 130 °C for 10 ms. -/
def execEngineThermalFault (s : State) : Host.Outcome State Fault Refusal :=
  doneCore s (if s.awake then (s.declareFaulty.twinFault).modPwd (fun p => { p with thermal := true }) else s)
/-- A granted write of PWD_LATCH_CLR. -/
def State.latchClr (s : State) (v : W32) : State :=
  s.modPwd (fun p => { p with supplyFail := p.supplyFail && !bitOf v 0, thermal := p.thermal && !bitOf v 1 })

/-! ## Nap (R503, R504) -/

/-- A contact that is a wake source counts as CLOSED. -/
def State.napContact (s : State) : Bool :=
  s.hwHere && (upFrom 0 8).any (fun c => s.bit PWD_WAKE_CFG (8 + c) && (s.cin c).st == 1)
/-- The wake sources that are active as Nap begins: PRESENCE_N, a broken loop, an alarm second that is now. -/
def State.napHeld (s : State) : List Nat :=
  (if s.prs.present then [1] else []) ++ (if 2 ≤ s.prs.sealFails then [2] else []) ++ (if s.rd PWD_RTC = s.rd PWD_RTC_ALARM then [3] else [])
/-- A granted write of PWD_NAP: the key requests Nap; any other value is ignored. -/
def State.napRequest (s : State) (v : W32) : State :=
  if v ≠ 0x4E41 then s
  else if (s.hwHere && s.forced) || s.napContact then s.flagRaise PWD_STAT 2 20
  else if s.pwd.stage = .none then s.modPwd (fun p => { p with stage := .requested })
  else s
/-- The longest lead of a port that is not OFF (R98). -/
def State.longestLead (s : State) : Nat :=
  foldS (fun n (p : Nat × Port) => if p.2.st = .off then n else max n (portLead p.1 p.2.cfg p.2.depth)) 0 s.ports
/-- The media clock stops; a configuration CRC pass that runs is not completed. -/
def State.mediaStop (s : State) : State := { s with sys := { s.sys with
  mediaRun := false, realignReq := false, realignLeft := 0, cfgPass := false, cfgCommit := if s.sys.cfgCommit = 0 then 0 else 1 } }

/-! ## Registers (R509 to R512) -/

/-- Writes that are ignored and set BAD_ARG. -/
def prsBadArg (a : Nat) (v : W32) : Bool := a == PRS_WINDOW && (decide (fld v 9 0 < 10) || decide (600 < fld v 9 0))
def pwdBadArg (a : Nat) (v : W32) : Bool := a == PWD_TEMP_WARN && (decide (fld v 7 0 < 60) || decide (125 < fld v 7 0))
/-- LEFT of PRS_STATE. -/
def State.prsLeft (s : State) : Nat :=
  if s.prs.present then s.rdF PRS_WINDOW 9 0 else if s.prs.window then (s.windowTicks - s.prs.elapsed) / 3000 else 0
/-- The computed registers of the PRS window. -/
def State.prsView (s : State) (off : Nat) : Option W32 :=
  if off = 0x10 then
    some (w32 (s.prsLeft * 2 ^ 16 + b01 s.class2 * 2 ^ 5 + b01 s.class1 * 2 ^ 4 + b01 s.prs.sealLatch * 2 ^ 3 + b01 s.prs.sealIntact * 2 ^ 2
      + b01 s.prs.window * 2 + b01 s.prs.present))
  else none
/-- The computed registers of the PWD window. -/
def State.pwdView (s : State) (off : Nat) : Option W32 :=
  let p := s.pwd
  if off = 0x10 then some (w32 (p.clocked.toNat * 2 ^ 16 + domBits s.domOn))
  else if off = 0x18 then some (if s.fit.variantA then s.rd PWD_WAKE_CFG else s.rd PWD_WAKE_CFG &&& 0xF)
  else if off = 0x1C then
    some (w32 (b01 p.thermal * 2 ^ 17 + b01 p.supplyFail * 2 ^ 16 + b01 p.napSeen * 2 ^ 8 + p.wakeCin * 8 + p.wakeSource))
  else if off = 0x28 then some (w32 (uwrap 8 (satI 8 p.temp)))
  else if off = 0x3C then some (spGet 0 p.occ (s.rdF PWD_OCC_RSEL 3 0))
  else none

end Sys2Proof.Machine
end

