-- ==== Sys2Proof/Machine/Proving.lean ====
section
/-! DEFINITION. Silent proving (chapter 17): the PROVE job, the groups, the judgement of each entry, the result table. -/

namespace Sys2Proof.Machine

def State.modPrv (s : State) (f : PrvSt → PrvSt) : State := { s with prv := f s.prv }

/-! ## The table (R482, R483) -/

/-- R of R482: the inputs at the rate. -/
def State.prvRows (s : State) : Nat := if s.rate96 then 4096 else 8192
/-- The bytes of the whole table. -/
def State.prvSize (s : State) : Nat := s.prvRows * 16384 + s.prvRows * 4 * s.struct.rets.length
/-- The DRAM ranges of the RINGMAP: base and size in bytes (R125, R127, R133, R182). -/
def State.ringRegions (s : State) : List (Nat × Nat) :=
  s.struct.lines.map (fun i => (i.base, 4 * s.tickLen * i.size)) ++ s.struct.recs.map (fun i => (i.base, i.size))
    ++ [(s.struct.clipBase, s.struct.clipSize), (s.struct.sceneBase, s.struct.sceneSize)]
/-- BAD_TABLE. -/
def State.prvBadTable (s : State) (b : Nat) : Bool :=
  b % 4096 != 0 || decide (b < 0x04000000) || decide (s.dramSize < b + s.prvSize)
    || s.ringRegions.any (fun r => decide (r.1 < b + s.prvSize) && decide (b < r.1 + r.2))
/-- The table address of a job. -/
def prvTable (j : JobSlot) : Nat := (j.arg 2).toNat * 2 ^ 32 + (j.arg 1).toNat
/-- A breach of the argument table (ERROR 0x02). -/
def prvArgsBad (j : JobSlot) : Bool :=
  (j.arg 0 &&& 0xFFFE8080) != 0 || decide (fld (j.arg 0) 14 8 < fld (j.arg 0) 6 0) || j.arg 3 != 0
/-- The conditions of the kind, in its table's order. -/
def State.prvError (s : State) (j : JobSlot) : Nat :=
  if s.prvBadTable (prvTable j) then 0x40 else if s.img.running.isNone then 0x41 else 0

/-! ## Groups (R478, R486) -/

/-- The tiles of the columns that hold a matrix output in use, with what their proving row spends in a tick. -/
def State.prvTiles (s : State) (use : Nat) : Sparse Nat :=
  let cols := (s.struct.moPos.map (fun (p : Nat × (Nat × Nat)) => p.2.1)).dedup
  foldS (fun (m : Sparse Nat) n => if cols.contains (n % 16) then spPut m n use else m) [] (upFrom 0 256)
/-- The tiles' share in the running tick: PROVING from the first group's start to the job's end, 32,768 cycles in a window tick. -/
def State.prvShare (s : State) : State :=
  let use := match s.prv.run with
    | none => []
    | some r => (match r.stage with
      | .waiting _ => []
      | .group gt => s.prvTiles (if 216 ≤ gt ∧ gt < 5976 then 32768 else 0)
      | _ => s.prvTiles 0)
  { s with canopy := { s.canopy with prvUsed := use, prvLast := s.canopy.prvUsed } }
/-- Replaces the running PROVE's stage. -/
def State.prvStage (s : State) (g : PrvStage) : State := s.modPrv (fun p => { p with run := p.run.map (fun r => { r with stage := g }) })
/-- The PROVE is over: nothing is injected any more. -/
def State.prvStop (s : State) : State := s.modPrv (fun p => { p with run := none, pend := none })

/-- PROVE: the slot's job begins where it can; the first group starts at the second boundary from there. -/
def execProve (slot : Fin 16) (s : State) : Host.Outcome State Fault Refusal :=
  doneCore s (
    let k := slot.val
    let s0 := s.jobTryBegin k
    if !s0.runsJob k 7 || s0.prv.run.isSome || (s0.slot k).fin.isSome then s0
    else
      let j := s0.slot k
      if s0.prvError j ≠ 0 then s0.jobFin k (s0.prvError j)
      else
        let a := j.arg 0
        let t := s0.modPrv (fun p => { resetPrv with
          level := p.level, group := fld a 6 0
          run := some { slot := k, rets := bitOf a 16, last := fld a 14 8, table := prvTable j, stage := .waiting 2 } })
        (t.wr PRV_TABLE_LO (w32 (prvTable j))).wr PRV_TABLE_HI (w32 (prvTable j / 2 ^ 32 % 32)))

/-- A group starts at the boundary of tick `n`: PRV_LEVEL is taken. -/
def State.prvStart (s : State) (n : Nat) (stage : PrvStage) : State :=
  (s.modPrv (fun p => { p with
    level := s.rdF PRV_LEVEL 7 0, mark := noMark
    g0 := match p.run with
      | some r => if r.stage = .waiting 1 ∧ p.groups = 0 ∧ p.pend.isNone then w32 n else p.g0
      | none => p.g0 })).prvStage stage
/-- PROVE_GROUP_START: the group that is due starts with the coming boundary. -/
def execProveGroupStart (s : State) : Host.Outcome State Fault Refusal :=
  doneCore s (
    match s.prv.run with
    | some r => if r.stage = .waiting 1 ∧ (s.slot r.slot).abortReq = false then s.prvStart (s.tickN + 1) .armed else s
    | none => s)

/-! ## What a window sees (R481 orders 2 to 4, R482) -/

/-- The crosspoints whose live word has changed since the window's start, and those in transition. -/
def State.prvChanged (s : State) (ref : Sparse W16) : List Nat :=
  (((ref.map (·.1)) ++ (s.canopy.gainLive.map (·.1))).filter (fun k => s.canopy.live k != spGet 0x7FFF ref k)) ++ s.canopy.flags.map (·.1)
/-- What a mix adds to the window's marks; `before` is the state before the mix. -/
def State.prvSee (s : State) (before : State) : State :=
  match before.prv.run with
  | some r => (match r.stage with
    | .group gt =>
      if 216 ≤ gt ∧ gt < 5976 then
        s.modPrv (fun p =>
          let ref := if gt = 216 then before.canopy.gainLive else p.mark.ref
          { p with mark :=
            { ref := ref
              on := (p.mark.on ++ (before.canopy.gainLive.filter (fun q => !gainOff q.2)).map (·.1)).dedup
              changed := (p.mark.changed ++ before.prvChanged ref).dedup
              sat := (p.mark.sat ++ s.canopy.satOuts).dedup
              scaled := (p.mark.scaled ++ (before.canopy.sclLive.filter (fun q => q.2 == 1 || q.2 == 2)).map (·.1)).dedup } })
      else s
    | _ => s)
  | none => s

/-! ## Judgement (R481, R482) -/

/-- What was measured for a point; one that no measurement is given for has free values (the four numbers from `n` on). -/
def findMeas (isRet : Bool) (point input n : Nat) : List ProveMeas → ProveMeas
  | [] => { isRet := isRet, point := point, input := input, gain := Config.freeInt n, lat := Config.freeInt (n + 1),
            snr := Config.freeInt (n + 2), inv := Config.freeBit (n + 3) }
  | x :: xs => if x.isRet = isRet ∧ x.point = point ∧ x.input = input then x else findMeas isRet point input n xs

/-- The crosspoint of a matrix input and output; none where either is not placed. -/
def State.xpOf (s : State) (m o : Nat) : Option Nat :=
  match spFind s.struct.miPos m, spFind s.struct.moPos o with
  | some (r, a), some (c, b) => some (xpKey (16 * r + c) b a)
  | _, _ => none
/-- The live word of a crosspoint as the window found it; one that has changed since makes the entry VOID, or was changed after the window. -/
def State.xpWord (s : State) (m o : Nat) : W16 := match s.xpOf m o with
  | some k => spGet 0x7FFF s.prv.mark.ref k
  | none => 0x7FFF
/-- OFF: the word was off throughout the window. -/
def State.xpOff (s : State) (m o : Nat) : Bool := match s.xpOf m o with
  | some k => !s.prv.mark.on.contains k
  | none => true
/-- Whether matrix input m has a source. -/
def State.hasSource (s : State) (m : Nat) : Bool := match spFind s.struct.miSrc m with
  | some x => x != .none
  | none => false

/-- An entry of R482. -/
def prvEntry (st : Nat) (off scaled pol : Bool) (gain lat : Int) : W32 :=
  w32 (st * 2 ^ 29 + b01 off * 2 ^ 28 + b01 scaled * 2 ^ 27 + b01 pol * 2 ^ 26 + uwrap 12 (satI 12 gain) * 2 ^ 14 + uwrap 14 (satI 14 lat))
/-- The STATE of an entry. -/
def entryState (w : W32) : Nat := fld w 31 29

/-- The STATE of a crosspoint entry: the first row of R481 that applies. -/
def State.xpState (s : State) (m o : Nat) (x : ProveMeas) : Nat :=
  let w := s.xpWord m o
  let key := s.xpOf m o
  let tol := s.rd PRV_TOL
  let voided := (match key with
    | some k => s.prv.mark.changed.contains k
    | none => false) || s.prv.mark.sat.contains o
  if !s.hasSource m then 7
  else if voided then 6
  else if s.xpOff m o then (if -(10 * (fld tol 31 24 : Int)) < x.gain then 4 else 1)
  else if x.snr < (fld tol 15 8 : Int) then 5
  else if x.inv != w.getLsbD 15 then 2
  else if fld tol 7 0 < x.gain.natAbs then 2
  else if fld tol 23 16 < x.lat.natAbs then 3
  else 1
/-- The entry of crosspoint (m, o). POLARITY comes with order 6 of R481: FAILED_GAIN by the measured inversion. -/
def State.xpEntry (s : State) (m o : Nat) (x : ProveMeas) : W32 :=
  prvEntry (s.xpState m o x) (s.xpOff m o) (s.prv.mark.scaled.contains o) (s.xpState m o x == 2 && x.inv != (s.xpWord m o).getLsbD 15) x.gain x.lat

/-- The STATE of a return entry. -/
def State.retState (s : State) (i : RetInfo) (m : Nat) (x : ProveMeas) : Nat :=
  let tol := s.rd PRV_TOL
  if !s.hasSource m || decide (200 * s.tickLen < i.expected) then 7
  else if x.snr < (fld tol 15 8 : Int) then 5
  else if fld tol 23 16 < (x.lat - (i.expected : Int)).natAbs then 3
  else 1
/-- The matrix outputs that a source carries. -/
def State.sourceOuts (s : State) : SinkSrc → List Nat
  | .mo o => [o]
  | .strip o => (match spFind s.struct.outStrips o with
    | some (.mo x) => [x]
    | some (.sel k) => (match s.selInfo k with
      | some i => i.cands.filterMap (fun c => match c.src with
        | .mo x => some x
        | _ => none)
      | none => [])
    | none => [])
  | .line l => (match s.lineInfo l with
    | some i => (match spFind s.struct.outStrips i.src with
      | some (.mo x) => [x]
      | some (.sel k) => (match s.selInfo k with
        | some i => i.cands.filterMap (fun c => match c.src with
          | .mo x => some x
          | _ => none)
        | none => [])
      | none => [])
    | none => [])
/-- The INV that a return's route gives input m: the word's where one matrix output feeds the return, else none (log entry 38). -/
def State.retInv (s : State) (i : RetInfo) (m : Nat) : Bool :=
  match i.source with
  | some src => (match s.sourceOuts src with
    | [o] => (s.xpWord m o).getLsbD 15
    | _ => false)
  | none => false
/-- The entry of return r and input m; order 6 sets its POLARITY and does not judge it. -/
def State.retEntry (s : State) (i : RetInfo) (m : Nat) (x : ProveMeas) : W32 :=
  let st := s.retState i m x
  prvEntry st false false (st != 7 && st != 5 && x.inv != s.retInv i m) x.gain x.lat
/-- Whether some route from an input of the group to a return is not off; of a port input's route the module knows only that it starts at some output. -/
def State.retRouted (s : State) (i : RetInfo) (ms : List Nat) : Bool :=
  let outs : List Nat := match i.source with
    | some src => s.sourceOuts src
    | none => s.struct.moPos.map (fun (p : Nat × (Nat × Nat)) => p.1)
  ms.any (fun m => outs.any (fun o => !gainOff (s.xpWord m o)))

/-- PRV_LAST_FAIL of an entry. -/
def failWord (st : Nat) (isRet : Bool) (m point : Nat) : W32 := w32 (st * 2 ^ 29 + b01 isRet * 2 ^ 28 + m % 8192 * 2 ^ 13 + point % 4096)
/-- Whether a STATE is a failure. -/
def stateFails (st : Nat) : Bool := decide (2 ≤ st) && decide (st ≤ 4)

/-- The inputs of the running group. -/
def State.groupInputs (s : State) : List Nat := upFrom (s.prv.group * s.prvInputs) s.prvInputs
/-- The points of the group in the table's order: whether a return, the input, the point. -/
def State.groupPoints (s : State) (rets : Bool) : List (Bool × Nat × Nat) :=
  s.groupInputs.flatMap (fun m => (upFrom 0 4096).map (fun o => (false, m, o)))
    ++ (if rets then (upFrom 0 s.struct.rets.length).flatMap (fun r => s.groupInputs.map (fun m => (true, m, r))) else [])
/-- The address and the entry of a point. -/
def State.pointEntry (s : State) (table : Nat) (meas : List ProveMeas) (n : Nat) (q : Bool × Nat × Nat) : Nat × W32 :=
  let x := findMeas q.1 q.2.2 q.2.1 n meas
  if q.1 then
    (match (s.struct.rets.drop q.2.2).head? with
     | some i => (table + s.prvRows * 16384 + (q.2.2 * s.prvRows + q.2.1) * 4, s.retEntry i q.2.1 x)
     | none => (table, 0))
  else (table + (q.2.1 * 4096 + q.2.2) * 4, s.xpEntry q.2.1 q.2.2 x)

/-- The group's entries with their points. -/
def State.groupEntries (s : State) (r : PrvRun) (meas : List ProveMeas) : List ((Bool × Nat × Nat) × Nat × W32) :=
  (foldS (fun (p : List ((Bool × Nat × Nat) × Nat × W32) × Nat) (q : Bool × Nat × Nat) => (p.1 ++ [(q, s.pointEntry r.table meas p.2 q)], p.2 + 4))
    ([], s.free) (s.groupPoints r.rets)).1

/-- A group ends: every entry is judged, the counts, flags and events of the group follow, and its writes begin. -/
def State.prvJudge (s : State) (r : PrvRun) (meas : List ProveMeas) (endTick : W32) (left : Nat) : State :=
  let es := s.groupEntries r meas
  let stOf (e : (Bool × Nat × Nat) × Nat × W32) : Nat := entryState e.2.2
  let fails := es.filter (fun e => stateFails (stOf e))
  let recs := fails.map (fun e => failWord (stOf e) e.1.1 e.1.2.1 e.1.2.2)
  let xpFail := es.any (fun e => !e.1.1 && stateFails (stOf e))
  let retFail := es.any (fun e => e.1.1 && stOf e == 3) || (r.rets && (upFrom 0 s.struct.rets.length).any (fun k =>
    (es.filter (fun e => e.1.1 && e.1.2.2 == k)).all (fun e => stOf e == 5)
      && (match (s.struct.rets.drop k).head? with
          | some i => s.retRouted i s.groupInputs
          | none => false)))
  let t := { s with free := s.free + 4 * es.length }.modPrv (fun p => { p with
    pend := some { left := left, entries := es.map (fun (e : (Bool × Nat × Nat) × Nat × W32) => e.2), endTick := endTick }
    states := (upFrom 1 7).map (fun c => nth 0 p.states (c - 1) + (es.filter (fun e => stOf e == c)).length)
    records := (p.records ++ recs).take 244 })
  let t := t.count PRV_FAILS fails.length
  let t := match recs.getLast? with
    | some w => t.wr PRV_LAST_FAIL w
    | none => t
  let t := t.when (es.any (fun e => stOf e == 6)) (·.flag PRV_STAT 2)
  let t := t.when xpFail (·.flagRaise PRV_STAT 0 120)
  t.when retFail (·.flagRaise PRV_STAT 1 121)

/-- After a group: the next one starts at the same boundary, or the last one's writes are awaited. -/
def State.prvNext (s : State) (r : PrvRun) (n : Nat) (stage : PrvStage) : State :=
  if s.prv.group < r.last then (s.modPrv (fun p => { p with group := p.group + 1 })).prvStart n stage else s.prvStage .ending
/-- PROVE_GROUP_END: the group in its last tick ends with the coming boundary, and the next one starts there. -/
def execProveGroupEnd (meas : List ProveMeas) (s : State) : Host.Outcome State Fault Refusal :=
  doneCore s (
    match s.prv.run with
    | some r =>
      if r.stage = .group 5999 ∧ (s.slot r.slot).abortReq = false then
        (s.prvJudge r meas (w32 (s.tickN + 1)) 217).prvNext r (s.tickN + 1) .armed
      else s
    | none => s)

/-- A group's writes complete: the table, unless a freeze discards it, then the result window, then PROGRESS. -/
def State.prvWritten (s : State) (r : PrvRun) (w : PrvWrite) : State :=
  let t := if s.dram.frozen then s.modPrv (fun p => { p with lost := p.lost + 1 })
    else foldS (fun (u : State) (e : Nat × W32) => u.engineWrite e.1 (leBytes 4 e.2.toNat)) s w.entries
  let t := t.modPrv (fun p => { p with pend := none, groups := p.groups + 1, gEnd := w.endTick })
  let p := t.prv
  let t := t.count PRV_GROUPS 1
  let t := t.resultWrite r.slot ([w32 p.groups] ++ p.states.map w32 ++ [w32 p.lost, p.g0, p.gEnd] ++ p.records)
  let t := t.jobProgress r.slot p.groups
  if r.stage = .ending then t.prvStop.jobFin r.slot 0 else t
/-- PROVE_WRITES_DONE: the writes in their last tick are complete. -/
def execProveWritesDone (s : State) : Host.Outcome State Fault Refusal :=
  doneCore s (
    match s.prv.run, s.prv.pend with
    | some r, some w => if w.left ≤ 1 then s.prvWritten r w else s
    | _, _ => s)

/-- A PROVE ends in state 5 (R100, R485). -/
def State.prvAbort (s : State) : State :=
  match s.prv.run with
  | some r => s.prvStop.jobAborted r.slot
  | none => s

/-! ## The boundary -/

/-- The writes under way come one tick nearer to their end. -/
def State.prvWrites (s : State) : State :=
  match s.prv.run, s.prv.pend with
  | some r, some w => if w.left ≤ 1 then s.prvWritten r w else s.modPrv (fun p => { p with pend := some { w with left := w.left - 1 } })
  | _, _ => s
/-- The stage at the boundary of tick `n` (R478, R485). -/
def State.prvStep (s : State) (n : Nat) (meas : List ProveMeas) : State :=
  match s.prv.run with
  | none => s
  | some r =>
    let ab := (s.slot r.slot).abortReq
    match r.stage with
    | .waiting k => if ab then s.prvAbort else if k ≤ 1 then s.prvStart n (.group 0) else s.prvStage (.waiting (k - 1))
    | .armed => if ab then s.prvAbort else s.prvStage (.group 0)
    | .group gt =>
      if ab then s.prvStage (.fading (gt + 1) 0)
      else if gt < 5999 then s.prvStage (.group (gt + 1))
      else (s.prvJudge r meas (w32 n) 216).prvNext r n (.group 0)
    | .fading gt gone => if 15 ≤ gone then s.prvAbort else s.prvStage (.fading (gt + 1) (gone + 1))
    | .ending => if ab then s.prvAbort else s
/-- The boundary of tick `n`. -/
def State.prvTick (s : State) (n : Nat) (meas : List ProveMeas) : State := ((s.prvWrites).prvStep n meas).prvShare

/-! ## Registers (R489 to R491) -/

/-- A PRV_LEVEL or PRV_TOL write that is ignored and sets BAD_ARG. -/
def prvBadArg (a : Nat) (v : W32) : Bool :=
  if a = PRV_LEVEL then decide (fld v 7 0 < 80) || decide (160 < fld v 7 0)
  else if a = PRV_TOL then
    decide (fld v 31 24 < 40) || decide (200 < fld v 31 24) || decide (60 < fld v 15 8) || decide (fld v 7 0 < 1) || decide (100 < fld v 7 0)
  else false
/-- PRV_STATE. -/
def State.prvState (s : State) : W32 :=
  let g := s.prv.group % 128
  match s.prvNow with
  | some (gt, gone) =>
    let fade := gone.isSome || decide (gt < 16) || decide (5984 ≤ gt)
    w32 (gt * 2 ^ 16 + b01 fade * 2 ^ 10 + b01 (gone.isNone && decide (216 ≤ gt) && decide (gt < 5976)) * 2 ^ 9 + 2 ^ 8 + g)
  | none => w32 g
/-- The computed registers of the PRV window. -/
def State.prvView (s : State) (off : Nat) : Option W32 :=
  if off = 0x10 then some s.prvState
  else if off = 0x1C then some (w32 s.struct.rets.length)
  else if off = 0x24 then some (match (s.struct.rets.drop (s.rdF PRV_RET_RSEL 7 0)).head? with
    | some i => w32 (i.kind * 2 ^ 30 + i.expected % 2 ^ 14 * 2 ^ 16 + i.index % 2 ^ 13)
    | none => 0)
  else none

end Sys2Proof.Machine
end

