-- ==== Sys2Proof/Machine/Twin.lean ====
section
/-! DEFINITION. The twin pair (chapter 15): pairing, the link, heartbeats, bundles, digests, roles, takeover, and resynchronisation. -/

namespace Sys2Proof.Machine

def State.modTwn (s : State) (f : TwnSt → TwnSt) : State := { s with twn := f s.twn }
/-- STRAP_TWIN as sampled (R405). -/
def State.strapTwin (s : State) : Bool := s.sys.straps.getLsbD 2
/-- TWN_PARTNER. -/
def State.partnerReg (s : State) : W64 := cat64 (s.rd TWN_PARTNER_HI) (s.rd TWN_PARTNER_LO)

/-! ## Pairing and the link (R405 to R408) -/

/-- An accepted write of TWN_PAIR: the keys of R406. -/
def State.twinPair (s : State) (v : W32) : State :=
  if !s.strapTwin then s
  else if v = 0x7A17 then (s.modTwn (fun t => { t with keyHere := true })).emit (.twin 11 [])
  else if v = 0x7A00 then
    let was := s.twn.paired
    let t := (s.wr TWN_PARTNER_LO 0).wr TWN_PARTNER_HI 0
    let t := t.modTwn (fun x => { x with role := .alone, paired := false, keyHere := false, partner := none, roleTx := false, selOut := false,
                                         partnerStep := false })
    (if was then t.flagRaise TWN_STAT 1 97 else t).emit (.twin 12 [])
  else s
/-- A write of TWN_PAIR from the host: class 1 (R498). -/
def State.twinPairHost (s : State) (v : W32) : State := if s.class1 then s.twinPair v else s.deny 1 0 TWN_PAIR
/-- TWIN_PAIR: the pairing key. -/
def execTwinPair (val : W32) (s : State) : Host.Outcome State Fault Refusal := doneCore s (s.byHost (fun s => s.twinPairHost val))
/-- TWIN_UNPAIR: the unpairing key. -/
def execTwinUnpair (val : W32) (s : State) : Host.Outcome State Fault Refusal := doneCore s (s.byHost (fun s => s.twinPairHost val))
/-- PAIR_FORM: the boundary at which both keys are written, the serial numbers match and the link is up within 4 µs. -/
def execPairForm (s : State) : Host.Outcome State Fault Refusal :=
  doneCore s (
    let t := s.twn
    if s.strapTwin && t.keyHere && t.linkUp && t.partner == some s.partnerReg && decide (t.latency ≤ 400) && !t.paired then
      (s.modTwn (fun t => { t with paired := true, keyHere := false })).flagRaise TWN_STAT 1 97
    else s)
/-- A change of the link (R408). -/
def State.twinLink (s : State) (up : Bool) : State :=
  (s.modTwn (fun t => { t with linkUp := up, lanes := if up then t.lanes else 0 })).flagRaise TWN_STAT 0 96
/-- TWIN_LINK_UP: the link has trained and the partner has sent its serial number (R407). -/
def execTwinLinkUp (serial : W64) (lanes latency : Nat) (s : State) : Host.Outcome State Fault Refusal :=
  doneCore s (
    if !s.strapTwin || s.twn.linkUp || s.domFailed 8 then s
    else
      let t := s.modTwn (fun t => { t with lanes := lanes % 16, latency := latency % 4096, partner := some serial })
      if serial = s.partnerReg then (t.twinLink true).emit (.twin 1 [s.fit.serial.toNat])
      else (t.modTwn (fun t => { t with partner := none })).flagRaise TWN_STAT 5 96)

/-! ## Resynchronisation's end (R425) -/

/-- A resynchronisation fails with an ERROR of R425. -/
def State.resyncFail (s : State) (err : Nat) : State :=
  let t := s.modTwn (fun t => { t with role := .outOfStep, phase := 0, outcome := err - 0x3E, resyncSlot := none })
  let t := t.flagRaise TWN_STAT 6 101
  match s.twn.resyncSlot with
  | some k => (t.resultWrite k [w32 s.twn.mib, w32 s.twn.passes, s.twn.resyncStart, 0]).jobFin k err
  | none => t

/-- TWIN_LINK_LOSS: no frame for 2 µs. Where the heartbeat on the pin goes on, the standby leaves step and EV100 is raised in both twins (R419); a copy
ends (R425). -/
def execTwinLinkLoss (s : State) : Host.Outcome State Fault Refusal :=
  doneCore s (
    if !s.twn.linkUp then s
    else
      let t := (s.twinLink false).isolateWaiting 9
      if t.twn.role = .resyncing then t.resyncFail 0x41
      else if t.twn.edges = 1 then (t.outOfStep 4).partnerOut else t)

/-! ## Heartbeats, bundles and digests (R410, R413 to R416) -/

/-- TWIN_HEARTBEAT: a heartbeat frame with its tick, or an edge of TWIN_HB_RX. -/
def execTwinHeartbeat (tick : Nat) (edge : Bool) (s : State) : Host.Outcome State Fault Refusal :=
  doneCore s (
    if edge then s.modTwn (fun t => { t with edges := t.edges + 1 })
    else if s.twn.linkUp && tick == s.tickN then s.modTwn (fun t => { t with hbArrived := true }) else s)
/-- DIGEST_MESSAGE: the partner's digest of a tick, and its FAULT. -/
def execDigestMessage (tick : Nat) (crc : W32) (fault : Bool) (s : State) : Host.Outcome State Fault Refusal :=
  doneCore s (if s.twn.linkUp then s.modTwn (fun t => { t with digestsP := spPut t.digestsP tick crc, faultP := t.faultP || fault }) else s)

/-- The bundle held for a frame. -/
def noBundle (frame : Nat) : Bundle := { frame := frame, blocks := [], acc := 0, contacts := [], whole := false }
def TwnSt.bundle (t : TwnSt) (frame : Nat) : Bundle := (t.bundles.find? (fun b => b.frame == frame)).getD (noBundle frame)
def State.modBundle (s : State) (frame : Nat) (f : Bundle → Bundle) : State :=
  s.modTwn (fun t => { t with bundles := f (t.bundle frame) :: t.bundles.filter (fun b => b.frame != frame) })
/-- The largest bundle (TWN_BUNDLE_MAX). -/
def State.bundleSize (s : State) (n : Nat) : State :=
  let t := s.wr TWN_BUNDLE_BYTES (w32 n)
  if (t.rd TWN_BUNDLE_MAX).toNat < n then t.wr TWN_BUNDLE_MAX (w32 n) else t

/-- The highest number up to which every record of the session is held, or (`both`) held by both twins. -/
def accFrom (es : List LedgerEntry) (both : Bool) : Nat → Nat → Nat
  | 0, n => n
  | f + 1, n => if es.any (fun e => e.seq == n + 1 && (e.both || !both)) then accFrom es both f (n + 1) else n
def State.accReady (s : State) (both : Bool) : Nat := accFrom s.ledger.entries both s.ledger.entries.length s.ledger.acc

/-- BUNDLE_CUTOFF: the active sends the trailer with its LDG_ACC; what arrives later counts as arriving in the next tick (R413). The
bundle's length is a free value: no rule gives its coding. -/
def State.cutoffNow (s : State) : State :=
  if s.twn.role = .active ∧ s.twn.linkUp ∧ !s.twn.cutoff then
    let n := Config.freeNat s.free % 2 ^ 32
    let acc := s.accReady true
    let t := { s.drawn with ledger := { s.ledger with sent := some acc } }
    ((t.modTwn (fun t => { t with cutoff := true })).bundleSize n).emit (.twin 7 [s.tickN, n, acc])
  else s
def execBundleCutoff (s : State) : Host.Outcome State Fault Refusal := doneCore s s.cutoffNow
/-! ## Roles (R418, R420, R423) -/

/-- The active takes the role (R420): its pins, its clock, EV98. -/
def State.takeover (s : State) (cause : Nat) : State :=
  let b := s.tickN
  let t := s.modTwn (fun t => { t with role := .active, roleTx := true, selOut := true, activeSince := b, misses := 0, orphans := [],
                                       faultP := false, faultClosed := false, partnerStep := false })
  let t := (t.count TWN_TAKEOVERS 1).wr TWN_LAST_TAKE (w32 (cause * 2 ^ 28 + b % 2 ^ 28))
  (if s.sys.mediaRun then t.clkTakeover else t).flagRaise TWN_STAT 3 98
/-- TAKEOVER: a standby in step whose trigger of R420 holds takes the active role: cause 0 where the running tick is the second without a heartbeat,
cause 1 where a digest closed at an earlier boundary carried FAULT. A ROLE_SWAP's takeover, cause 2, comes with its ledger entry in step 4 (R422), and
R420 has no further trigger: those two causes name nothing that this row does. -/
def execTakeover (cause : Fin 4) (s : State) : Host.Outcome State Fault Refusal :=
  doneCore s (
    let heard := s.twn.hbArrived || s.twn.edges == 1
    let holds : Bool := match cause.val with
      | 0 => decide (1 ≤ s.twn.misses) && !heard
      | 1 => s.twn.faultClosed
      | _ => false
    if s.twn.role = .standby ∧ holds then s.takeover cause.val else s)

/-- A resynchronisation starts (R424). -/
def State.resyncStart (s : State) (slot : Option Nat) : State :=
  let t := s.modTwn (fun t => { t with role := .resyncing, phase := 2, outcome := 0, mib := 0, passes := 0, resyncStart := s.tickLo, resyncSlot := slot,
                                       matching := 0, bundles := [], orphans := [], digests := [], digestsP := [], faultP := false, faultClosed := false })
  t.raise 101
/-- AUTO_RESYNC (R424, R435). -/
def State.autoResync (s : State) : State :=
  if s.bit TWN_CFG 0 && s.twn.linkUp && s.twn.paired && s.img.running.isSome
      && (s.twn.role == .outOfStep || (s.twn.role == .joining && s.twn.roleRx)) then s.resyncStart none else s
/-- AUTO_RESYNC_START: an out-of-step or joining twin starts by itself. -/
def execAutoResyncStart (s : State) : Host.Outcome State Fault Refusal := doneCore s s.autoResync

/-- A module in ACTIVE sees its partner active: the later of the two yields. Which one that is lies outside the module: a free bit (R423). -/
def State.dualActive (s : State) : State :=
  let t := s.drawn.flagRaise TWN_STAT 7 103
  if Config.freeBit s.free then
    let t := t.modTwn (fun t => { t with role := .outOfStep, oosCause := 5, roleTx := false, selOut := false })
    ((t.count TWN_OOS_COUNT 1).flagRaise TWN_STAT 4 100).autoResync
  else t.wr TWN_LAST_TAKE (w32 (3 * 2 ^ 28 + t.tickN % 2 ^ 28))
/-- BUNDLE_TRAILER: the standby's bundle of a frame is whole; a bundle that an active receives shows a dual active (R423). -/
def execBundleTrailer (frame : Nat) (bytes acc : Nat) (whole : Bool) (s : State) : Host.Outcome State Fault Refusal :=
  doneCore s (
    if s.twn.linkUp && s.twn.role == .active && whole then s.dualActive
    else if s.twn.linkUp && s.twn.role != .active && s.twn.role != .alone then
      if whole then (s.modBundle frame (fun b => { b with whole := true, acc := acc })).bundleSize bytes
      else s.modTwn (fun t => { t with crcErr := satN 16 (t.crcErr + 1) })
    else s)
/-- ROLE_RX_CHANGE: the partner's TWIN_ROLE_TX changes (R411, R423). -/
def execRoleRxChange (level : Bool) (s : State) : Host.Outcome State Fault Refusal :=
  doneCore s (
    let t := s.modTwn (fun t => { t with roleRx := level })
    if level && !s.twn.roleRx then
      if t.twn.role = .active then t.dualActive else t.modTwn (fun t => { t with selOut := false })
    else t)
/-- BUNDLE_ITEM: an item of the partner's. A standby takes the active's; an active takes the standby's port blocks and inputs, and learns of a dual
active from a bundle (R423), and from the partner's news that it has left the lockstep (R419). -/
def execBundleItem (frame : Nat) (item : BundleItem) (s : State) : Host.Outcome State Fault Refusal :=
  doneCore s (
    if !s.twn.linkUp then s
    else match item with
    | .block src xs =>
      if s.twn.role = .active then s.dualActive else s.modBundle frame (fun b => { b with blocks := (src, xs) :: b.blocks })
    | .outOfStep => s.partnerOut
    | .contacts closed => s.modBundle frame (fun b => { b with contacts := closed })
    | .ports src xs running =>
      if s.twn.role = .active ∧ running then s.modBundle frame (fun b => { b with blocks := (src, xs) :: b.blocks }) else s)

/-- ROLE_SWAP in step 4 (R422): whether it was done. -/
def State.roleSwap (s : State) : State × Bool :=
  if (s.twn.role == .standby || (s.twn.role == .active && s.twn.partnerStep)) && s.twn.paired then
    if s.twn.role = .active then
      let t := s.modTwn (fun t => { t with role := .standby, roleTx := false, misses := 0, orphans := [], bundles := [],
                                           faultP := false, faultClosed := false })
      ((if s.sys.mediaRun then t.modClk (fun c => { c with pll := .locked, selected := 7, target := 7, wtrLeft := none }) else t).raise 99, true)
    else (((s.takeover 2).modTwn (fun t => { t with partnerStep := true })).raise 99, true)
  else (s.raise 99, false)

/-- The role at a boundary of a module that has none yet (R418). -/
def State.takeRole (s : State) : State :=
  if !s.strapTwin || !s.twn.paired then s
  else match s.twn.role with
  | .alone => if s.twn.linkUp then s.modTwn (fun t => { t with role := .joining }) else s
  | .joining =>
    if !s.twn.linkUp then s.modTwn (fun t => { t with role := .alone })
    else if s.twn.roleRx then s.autoResync
    else if s.img.running.isSome && s.sys.ready && s.twn.partnerImage && s.twn.partnerReady && decide (s.fit.serial.toNat < s.partnerReg.toNat) then
      s.modTwn (fun t => { t with role := .active, roleTx := true, selOut := true, activeSince := s.tickN })
    else s
  | _ => s

/-! ## The resynchronisation's work (R424, R425) -/

/-- RESYNC: the job begins, its conditions are checked, and the copy starts. -/
def execResync (slot : Fin 16) (s : State) : Host.Outcome State Fault Refusal :=
  doneCore s (
    let k := slot.val
    let t := s.jobTryBegin k
    if !t.runsJob k 6 || (t.slot k).fin.isSome || t.twn.resyncSlot == some k then s
    else if (t.slot k).args.any (· != 0) then t.jobEnd k 0x02
    else if t.twn.role = .active ∨ t.twn.role = .standby ∨ t.twn.role = .alone then t.jobEnd k 0x43
    else if (match t.img.running with
      | some i => t.img.ssig1 != [] && (t.img.ssig1 != i.ssig || t.img.fprint1 != i.fprint)
      | none => true) then t.jobEnd k 0x40
    else if !t.twn.linkUp then t.jobEnd k 0x41
    else t.resyncStart (some k))

/-- The DRAM and pool bytes and the registers of a state copy. -/
def State.applyMemory (s : State) (c : StateCopy) : State :=
  let s := { s with dram := { s.dram with mem := foldS (fun m (q : Nat × Byte) => spSet 0 m q.1 q.2) s.dram.mem c.dram } }
  let s := s.modMem (fun m => { m with pool := foldS (fun p (q : Nat × Byte) => spSet 0 p (q.1 % 2 ^ 24) q.2) m.pool c.pool })
  foldS (fun (u : State) (q : Nat × W32) => u.wr q.1 q.2) s c.regs
/-- The Fuller cores of a state copy: P, X and Y are restored from the active, with the registers that lockstep needs, and no core stays dead
(R231, R232; log entry 81). -/
def State.applyFuller (s : State) (c : StateCopy) : State :=
  { s.coresRevived with cores := c.cores.map (fun q => (q.1, { q.2 with dead := false })) }
/-- Applies the whole state copy of a resynchronisation (R424). -/
def State.applyCopy (s : State) (c : StateCopy) : State :=
  let s := (s.applyMemory c).applyFuller c
  { s with canopy := c.canopy, graph := { c.graph with dma := s.graph.dma }, ports := c.ports, net := { s.net with streams := c.streams } }
/-- The ledger of the active, adopted by a joining twin (R427). -/
def adopted (c : StateCopy) : LedgerState :=
  { session := c.session, sub := [], acc := c.acc, exe := c.exe, sent := none, result := 0, resultSeq := 0,
    entries := c.records.map (fun r =>
      { seq := r.seq.toNat, tick := r.tick.toNat, op := r.op.toNat, args := r.args, accepted := decide (r.seq.toNat ≤ c.acc), both := true,
        partner := false, granted := r.granted }) }
/-- RESYNC_DELTA: the delta that completes the copy arrives in tick Tc; the twin runs in lockstep from its bundle on (R424). -/
def execResyncDelta (copy : StateCopy) (s : State) : Host.Outcome State Fault Refusal :=
  done s (
    if s.twn.role = .resyncing ∧ s.twn.linkUp ∧ s.twn.phase < 5 then
      let t := (s.applyCopy copy).modTwn (fun t => { t with phase := 5, mib := t.mib + copy.mib, passes := t.passes + 1, matching := 0 })
      let t := { t with sys := { t.sys with tick := copy.tick }, ledger := { adopted copy with sub := t.ledger.sub } }
      match t.twn.resyncSlot with
      | some k => t.jobProgress k t.twn.mib
      | none => t
    else s)
/-- A graft ends with a result word 18 of R103: 1 or 2 where both twins are in step, 5 with the partner lost (step 7 of R110, R111). -/
def State.graftEnd (s : State) (outcome : Nat) : State :=
  match s.img.phase, s.img.slot with
  | .graftSwapped _, some k =>
    let aborted := (s.slot k).abortReq
    let t := { s with img := { s.img with phase := .idle, slot := none, staged := none, carry := [] } }
    let t := ((t.modTwn (fun x => { x with suspended := false })).count IMG_LOADS 1).resultMore k 18
      [w32 (if outcome = 5 then 5 else if aborted then 2 else 1), 0, s.img.takeTick]
    if aborted then t.jobAborted k else t.jobFin k 0
  | _, _ => s
/-- Five digests in a row have matched: STANDBY (R424). -/
def State.standbyReached (s : State) : State :=
  let s := s.graftEnd 1
  let t := (s.modTwn (fun t => { t with role := .standby, phase := 0, outcome := 1, resyncSlot := none, oosCause := 0, misses := 0, orphans := [] })).raise 101
  match s.twn.resyncSlot with
  | some k => (t.resultWrite k [w32 s.twn.mib, w32 s.twn.passes, s.twn.resyncStart, s.tickLo]).jobFin k 0
  | none => t
/-- RESYNC_STANDBY_REACHED: on the resynchronising twin its own step; on the active the news of it. -/
def execResyncStandbyReached (s : State) : Host.Outcome State Fault Refusal :=
  doneCore s (
    if s.twn.role = .active ∧ s.twn.paired ∧ s.twn.linkUp then ((s.graftEnd 1).modTwn (fun t => { t with partnerStep := true })).raise 101
    else if s.twn.role = .resyncing ∧ s.twn.phase = 5 then s.standbyReached else s)
/-- The resynchronisation is aborted at its safe point (R425). -/
def State.resyncAbort (s : State) (k : Nat) : State :=
  if s.twn.resyncSlot = some k then
    (s.modTwn (fun t => { t with role := .outOfStep, phase := 0, resyncSlot := none })).resultWrite k [w32 s.twn.mib, w32 s.twn.passes, s.twn.resyncStart, 0]
  else s

/-! ## The boundary -/

/-- The digests of a tick are compared in step 2 of the second boundary after it (R416). -/
def State.compareDigests (s : State) (t : Nat) : State :=
  match spFind s.twn.digests t, spFind s.twn.digestsP t with
  | some a, some b =>
    if s.twn.suspended && s.twn.role != .resyncing then s
    else
      let s := (s.wr TWN_DIGEST a).wr TWN_DIGEST_P b
      if a = b then
        if s.twn.role = .resyncing ∧ s.twn.phase = 5 then
          let u := s.modTwn (fun x => { x with matching := x.matching + 1 })
          if 5 ≤ u.twn.matching then u.standbyReached else u
        else s
      else
        let s := s.wr TWN_MISMATCH_TICK (loN t)
        match s.twn.role with
        | .standby => s.outOfStep 1
        | .active => s.partnerOut
        | .resyncing => s.modTwn (fun x => { x with matching := 0 })
        | _ => s
  | _, _ => s

/-- Step 2 for the pair: the heartbeat and the bundle of the ending tick c, the digests of tick c − 1, the partner's FAULT. -/
def State.twnClose (s : State) (c : Nat) : State :=
  let x := s.twn
  let hb := x.hbArrived || x.edges == 1
  let s := s.modTwn (fun t => { t with hbSeen := hb, hbArrived := false, edges := 0, cutoff := false, partnerReady := t.partnerReady || hb })
  if !x.paired || x.role == .alone then s
  else
    let s := if c = 0 then s else s.compareDigests (c - 1)
    let s := s.modTwn (fun t => { t with digests := t.digests.filter (fun q => decide (c ≤ q.1 + 2)), digestsP := t.digestsP.filter (fun q => decide (c ≤ q.1 + 2)),
                                         faultClosed := t.faultP })
    if x.role = .active then
      let s := if (hb && !x.linkUp) || x.faultP then s.partnerOut else s
      s.modTwn (fun t => { t with faultP := false, faultClosed := false, partnerStep := t.partnerStep && t.linkUp })
    else
      let s := if hb then s.modTwn (fun t => { t with misses := 0 })
        else ((s.modTwn (fun t => { t with misses := t.misses + 1 })).count TWN_HB_MISS 1).flagRaise TWN_STAT 2 102
      if s.twn.role = .standby then
        let s := if (s.twn.bundle c).whole then s
          else (s.modTwn (fun t => { t with orphans := c :: t.orphans })).count TWN_ORPHANS 1
        if hb && s.twn.orphans.any (fun f => decide (f < c)) then s.outOfStep 2
        else if hb && !s.twn.linkUp then s.outOfStep 4 else s
      else s
/-- Step 3 for the pair: takeovers, and a copy whose active has failed. `closed`: a FAULT closed at an earlier boundary. -/
def State.twnTimeouts (s : State) (closed : Bool) : State :=
  match s.twn.role with
  | .standby => if 2 ≤ s.twn.misses then s.takeover 0 else if closed then s.takeover 1 else s
  | .resyncing => if 2 ≤ s.twn.misses then s.resyncFail 0x42 else s
  | _ => s
/-- Step 8 for the pair at boundary b: TWIN_HB_TX toggles, the heartbeat, the digest of the ended tick and the marker are sent. -/
def State.twnSend (s : State) (b : Nat) (digest : W32) : State :=
  if !s.strapTwin then s
  else
    let s := s.modTwn (fun t => { t with hbTx := !t.hbTx, bundles := t.bundles.filter (fun x => decide (b ≤ x.frame + 2)) })
    if !s.twn.linkUp then s
    else
      let s := (s.emit (.twin 5 [b])).emit (.twin 6 [b - 1, digest.toNat, b01 s.twn.faultFlag])
      let s := s.modTwn (fun t => { t with digests := spPut t.digests (b - 1) digest, faultFlag := false })
      if s.twn.role = .active then s.emit (.twin 3 [b, uwrap 32 (s.ref s.clk.selected).phi]) else s

/-- The contacts, keys and jacks that a bundle carries, merged by TWN_CFG.MERGE (R414, R435). -/
def State.mergeInputs (s : State) (own : List Nat) (frame : Nat) : List Nat :=
  let other := (s.twn.bundle frame).contacts
  match s.rdF TWN_CFG 2 1 with
  | 1 => own
  | 2 => own.filter (fun c => other.contains c)
  | _ => own ++ other.filter (fun c => !own.contains c)
/-- EITHER for an input (R435). -/
def State.portEither (s : State) (src : PortSrc) : Bool :=
  match src with
  | .asp p _ => s.rdF TWN_PORT_SRC0 (2 * p + 1) (2 * p) == 1
  | .aes r _ => s.rdF TWN_PORT_SRC1 (2 * r + 1) (2 * r) == 1
  | .mic m => s.rdF TWN_PORT_SRC1 (2 * m + 17) (2 * m + 16) == 1
  | .stream _ _ => false
/-- The active's port of an input is in RUN. -/
def State.srcRuns (s : State) (src : PortSrc) : Bool :=
  match src with
  | .asp p _ => (s.port p).st == .run
  | .aes r _ => (s.port (16 + r)).st == .run
  | _ => true

/-! ## Read-back (R435, R436) -/

def roleCode : Role → Nat
  | .alone => 0 | .active => 1 | .standby => 2 | .outOfStep => 3 | .resyncing => 4 | .grafting => 5 | .joining => 6
/-- The computed registers of TWN. -/
def State.twnView (s : State) (off : Nat) : Option W32 :=
  let t := s.twn
  if off = 0x4 then some (w32 (b01 s.strapTwin))
  else if off = 0x10 then
    some (w32 (roleCode t.role + b01 t.linkUp * 8 + b01 t.hbSeen * 16 + b01 t.selOut * 32 + b01 t.roleRx * 64 + b01 t.paired * 128 + t.oosCause * 4096))
  else if off = 0x24 then some (w32 (t.lanes + t.latency * 16 + t.crcErr * 65536))
  else if off = 0x58 then some (w32 (t.phase + t.outcome * 16 + t.mib / 1024 % 65536 * 65536))
  else none

end Sys2Proof.Machine
end

