-- ==== Sys2Proof/Machine/JobStart.lean ====
section
/-! DEFINITION. Starting, dispatching and ending jobs (R67 to R71, R82, R498): the checks of a start, the write of JOB_CMD and
JOB_ARG, and how a job's work stops. -/

namespace Sys2Proof.Machine

/-! ## The checks of a start (R68) -/

/-- A reserved KIND (R69). -/
def kindReserved (k : Nat) : Bool := k == 0 || decide (10 < k)
/-- A start that needs class 1 at the write (R69, R102, R498): an IMG_LOAD without a running image is judged by its SSIG in phase 1. -/
def State.jobClass1 (s : State) (j : JobSlot) : Bool :=
  let k := j.kind.toNat
  (k == 1 && s.img.shown.isSome) || k == 2 || (k == 4 && bitOf (j.arg 0) 0)
/-- A breach of the argument table of the kind, zero bits included. -/
def State.jobArgsBad (s : State) (j : JobSlot) : Bool :=
  let a := j.arg 0
  match j.kind.toNat with
  | 1 => a &&& 0xFFFFFFFC != 0 || j.arg 3 != 0
  | 2 => a &&& 0xFFFFFFFC != 0 || decide (3000 < (j.arg 3).toNat)
  | 3 => a &&& 0xFFFFFFFE != 0 || j.arg 3 != 0
  | 4 => s.marchError j == 0x02
  | 5 => a &&& 0xFFFFFFF8 != 0 || j.arg 1 != 0 || j.arg 2 != 0 || j.arg 3 != 0
  | 6 => j.args.any (· != 0)
  | 7 => prvArgsBad j
  | 8 => s.sweepError j == 0x02
  | 9 => fld a 15 9 != 0
  | _ => fld a 31 16 != 0 || j.arg 1 == 0 || decide (65536 < (j.arg 1).toNat)
/-- The specific conditions of a kind that are judged at the start; 0 where it may be queued. A load's and a graft's are judged in phase 1, a
scene's as it is read. -/
def State.jobCondition (s : State) (j : JobSlot) : Nat :=
  match j.kind.toNat with
  | 4 => s.marchError j
  | 5 => s.migrateError (fld (j.arg 0) 0 0) (fld (j.arg 0) 2 1)
  | 6 => if s.twn.role = .active ∨ s.twn.role = .standby ∨ s.twn.role = .alone then 0x43 else 0
  | 7 => s.prvError j
  | 8 => s.sweepError j
  | 9 => s.exportError j.args
  | 10 => if bitOf (s.sys.straps.setWidth 32) 0 then 0x40 else 0
  | _ => 0
/-- The ERROR of a started job, 0 for none: the checks in the order of R68. -/
def State.startError (s : State) (j : JobSlot) : Nat :=
  if kindReserved j.kind.toNat then 0x01
  else if s.jobClass1 j && !j.granted then 0x03
  else if j.kind.toNat = 8 ∧ s.fit.variantA = false then 0x04
  else if s.jobArgsBad j then 0x02
  else s.jobCondition j

/-! ## The write of JOB_CMD (R67, R70, R82) -/

/-- JOB_CMD of a slot. -/
def jobCmdA (k : Nat) : Nat := 0x2100 + 0x20 * k
/-- JOB_STAT.BUSY_WR. -/
def State.busyWr (s : State) : State := s.flag JOB_STAT 0
/-- A number above every slot's order. -/
def State.nextOrder (s : State) : Nat := foldS (fun n (p : Nat × JobSlot) => max n (p.2.order + 1)) 1 s.jobs
/-- A job is started: it fails at once with the first check it breaches, or is queued. A refusal for want of presence is counted (R498); a
refused job writes the result words its kind has (R103, R186). -/
def State.jobStart (s : State) (k : Nat) (granted : Bool) : State :=
  let j := { s.slot k with granted := granted }
  let e := s.startError j
  let s := if e = 0x03 then s.deny 1 2 (jobCmdA k) else s
  let t := s.setSlot k { j with
    st := if e = 0 then .queued else .failed, error := BitVec.ofNat 8 e, total := 0, order := s.nextOrder, abortReq := false, fin := none }
  t.when (e != 0) (·.unrunWords k e)
/-- ABORT is written: a queued job ends at once, a running one at its safe point (R70). -/
def State.abortWrite (s : State) (k : Nat) : State :=
  if (s.slot k).st = .queued then (s.unrunWords k 0).jobAborted k
  else if (s.slot k).st = .running then s.modSlot k (fun j => { j with abortReq := true })
  else s
/-- A write of JOB_CMD; `granted` is the class 1 grant of its path. -/
def State.jobCmd (s : State) (k : Nat) (v : W32) (granted : Bool) : State :=
  let busy := (s.slot k).busy
  if bitOf v 30 then (s.when (bitOf v 31 && busy) State.busyWr).abortWrite k
  else if busy then s.busyWr
  else if bitOf v 31 && !s.sys.ready then s.busyWr
  else
    let t := s.modSlot k (fun j => { j with kind := BitVec.ofNat 8 (fld v 7 0) })
    if bitOf v 31 then t.jobStart k granted else t
/-- A write of JOB_ARGi. -/
def State.jobArg (s : State) (k i : Nat) (v : W32) : State :=
  if (s.slot k).busy then s.busyWr else s.modSlot k (fun j => { j with args := setNth j.args i v })

/-! ## Dispatch and ending -/

/-- The kinds that use DRAM: a freeze ends them with ERROR 0x05 (R352). -/
def kindUsesDram (k : Nat) : Bool := k == 1 || k == 3 || k == 5 || k == 6 || k == 9 || k == 10
/-- JOB_DISPATCH: a queued job begins once its engine is free. -/
def execJobDispatch (slot : Fin 16) (s : State) : Host.Outcome State Fault Refusal :=
  doneCore s (
    let t := s.jobTryBegin slot.val
    if (s.slot slot.val).st = .queued ∧ t.dram.frozen ∧ kindUsesDram (t.slot slot.val).kind.toNat then t.jobFrozen slot.val else t)
/-- JOB_DONE: the job's work has come to its ending, which its status word now shows. -/
def execJobDone (slot : Fin 16) (s : State) : Host.Outcome State Fault Refusal :=
  doneCore s (
    match (s.slot slot.val).st, (s.slot slot.val).fin with
    | .running, some e => s.jobEnd slot.val e.toNat
    | _, _ => s)

/-- The DMA engine's work for a slot stops; its result words are written. -/
def State.dmaStop (s : State) (k : Nat) : State :=
  match s.graph.dma with
  | some d =>
    if d.slot = k then
      { s with graph := { s.graph with dma := none } }.resultWrite k
        (if (s.slot k).kind.toNat = 9 then exportResult d else [w32 d.copied, d.first])
    else s
  | none => s
/-- The work of a running job stops where it stands, with the results its kind writes. -/
def State.workStop (s : State) (k : Nat) : State :=
  match (s.slot k).kind.toNat with
  | 3 => s.sceneClose k
  | 4 => s.marchAbort k
  | 5 => s.migrateAbort k
  | 6 => s.resyncAbort k
  | 7 => (match s.prv.run with
    | some r => if r.slot = k then s.prvStop else s
    | none => s)
  | 8 => s.sweepAbort k
  | 9 => s.dmaStop k
  | 10 => s.dmaStop k
  | _ => s
/-- A job ends in state 5 with its work stopped. -/
def State.jobStop (s : State) (k : Nat) : State := (if (s.slot k).st = .running then s.workStop k else s.unrunWords k 0).jobAborted k
/-- The queued and running jobs of the given kinds end in state 5 (R100, R504). -/
def State.jobsStop (s : State) (kinds : List Nat) : State :=
  foldS (fun (t : State) k => if (t.slot k).busy && kinds.contains (t.slot k).kind.toNat then t.jobStop k else t) s slotNums
/-- Every slot returns to state 0, its result window cleared (R70). -/
def State.jobsReset (s : State) : State :=
  let t := { s with jobs := [], canopy := { s.canopy with scene := none }, graph := { s.graph with dma := none } }
  (t.modMem (fun m => { m with pool := memClear m.pool 0xFFC000 0x4000, march := none }))

end Sys2Proof.Machine
end

