-- ==== Sys2Proof/Machine/ResetBase.lean ====
section
/-! DEFINITION. What a reset keeps and what it clears (R44, R57, R70, R77, R112, R339, R340, R406, R427, R470, R503, R509, R511): the engine
going down for a warm reset, RESET_N, Nap, or a supply failure. -/

namespace Sys2Proof.Machine

/-- The registers of the seed domain: they keep their values through Nap and warm resets (R102, R381, R435, R509, R511). -/
def seedReg (a : Nat) : Bool :=
  (decide (IMG_TRUST 0 ≤ a) && decide (a ≤ IMG_TRUST_CTL)) || a == CRD_BOOT || a == TWN_PARTNER_LO || a == TWN_PARTNER_HI
    || a == PRS_WINDOW || a == PRS_SEAL_BREAKS || a == PRS_SEAL_TIME
    || a == PWD_WAKE_CFG || a == PWD_WAKE_STAT || a == PWD_RTC || a == PWD_RTC_ALARM || a == PWD_WAKES
/-- The registers on the Heartwood die (R470). -/
def hwdReg (a : Nat) : Bool := decide (0xB0000 ≤ a) && decide (a < 0xB3000)

/-- The registers of the engine die that outlast its going down into a phase: IMG_FLASH through a reset that keeps the supplies, since the boot load that
follows it follows POLICY (R105; DEDUCED, log entry 51). -/
def keptReg (ph : Phase) (a : Nat) : Bool := a == IMG_FLASH && ph != .nap

/-- The factory's MAC addresses stand in the NET windows (R309). -/
def State.macsSet (s : State) : State :=
  foldS (fun (t : State) p =>
    let m := (nth 0 s.fit.macs p).toNat
    (t.wr (NET_MAC_HI p) (hiN m)).wr (NET_MAC_LO p) (loN m)) s [0, 1, 2, 3]

def State.modSys (s : State) (f : SysSt → SysSt) : State := { s with sys := f s.sys }
/-- The queued DRAM writes issue before self-refresh. -/
def State.flushWrites (s : State) : State :=
  let s := timesN (fun (t : State) => t.issueOldest 0 []) s.dram.ch0.wq.length s
  timesN (fun (t : State) => t.issueOldest 1 []) s.dram.ch1.wq.length s
/-- The bytes of the ledger region that are not zero: a retention record holds what its CRC-32C covers (log entry 4). -/
def State.ledgerCells (s : State) : Sparse Byte := s.dram.mem.filter (fun p => decide (0x1000000 ≤ p.1) && decide (p.1 < 0x1200000))
/-- The retention records of a warm reset: one for each logical rank, of the tick counter and the ledger region (R340). -/
def State.retain (s : State) : State :=
  let s := s.flushWrites
  let n := s.dram.ch0.rankMap.length + s.dram.ch1.rankMap.length
  { s with dram := { s.dram with selfRefresh := decide (0 < n), ret := List.replicate n (s.sys.tick, s.ledgerCells) } }

/-- The engine end of the bridge at a reset: nothing heard, no sweep of a slot. -/
def State.hwEngineReset (s : State) : State :=
  (match s.hwd.sweep with
   | some w => s.setCh w.ch { s.powCh w.ch with st := if (s.powCh w.ch).st == ChState.sweep then .play else (s.powCh w.ch).st }
   | none => s).modHwd (fun h => { h with sweep := none, status := false, noStatus := 0, lost := false, sentC := [], sentP := [], afterCut := none, micBlk := [] })

/-- The engine die goes down into a phase: every register of its own but IMG_FLASH returns to its reset value, every slot to state 0, and whatever its
blocks held is lost, the words of LDG_SUB0 to LDG_SUB7 among it (log entry 67); the seed, Heartwood, the repair map, a loan bank that is taken (R376), the DRAM and the ledger stand as they were. Events of R508 that have not been raised wait;
NETn_TXDIS goes high (R288). -/
def State.engineDown (s : State) (ph : Phase) : State :=
  let s := s.hwEngineReset
  { s with
    regs := s.regs.filter (fun p => seedReg p.1 || hwdReg p.1 || keptReg ph p.1)
    out := s.out ++ (([0, 1, 2, 3] : List Nat).filter (fun p => s.bit (NET_CTL p) 0)).map (fun p => Out.txDis p true)
    sys := { resetSys with phase := ph, cause := s.sys.cause, straps := s.sys.straps, deferred := s.sys.deferred }
    ledger := { s.ledger with sub := [], sent := none, result := 0, resultSeq := 0 }
    jobs := []
    img := resetImg
    graph := resetGraph
    canopy := resetCanopy
    cores := []
    ports := []
    clk := resetClk
    net := resetNet
    tim := resetTim
    pps := []
    mem := { resetMem with rep := s.mem.rep, loanTaken := s.mem.loanTaken, loanBank := if s.mem.loanTaken then s.mem.loanBank else 0 }
    trk := resetTrk
    twn := { resetTwn with paired := s.twn.paired }
    prv := resetPrv
    pwd := { s.pwd with failed := 0, clocked := 0, occ := [], stage := .none, tempAbove := false, wakeDue := if ph = .nap then s.pwd.wakeDue else none }
    mon := resetMon }

/-- A warm reset begins: DRAM in self-refresh with its retention records, the engine down, the sequence running (R77, R339). -/
def State.warmReset (s : State) (cause : Nat) : State :=
  let t := s.retain.engineDown .starting
  { t with sys := { t.sys with cause := cause } }

/-- The last digest sent again with FAULT, as a warm reset that SYS_RESET requests gives it (R416). -/
def State.faultDigest (s : State) : State :=
  if s.inPair && s.twn.linkUp then s.emit (.twin 6 [s.tickN - 1, (spGet 0 s.twn.digests (s.tickN - 1)).toNat, 1]) else s
/-- A granted write of SYS_RESET (R77). -/
def State.sysReset (s : State) (v : W32) : State := if v = 0x3A5C then s.faultDigest.warmReset 8 else s

/-- What Nap takes away: the supplies, with them DRAM, the repair map, the ledger and Heartwood (R439, R503). -/
def State.napDown (s : State) : State :=
  let t := (s.hwPowerDown).engineDown .nap
  { t with dram := resetDram, mem := resetMem, ledger := { resetLedger with session := s.ledger.session } }

end Sys2Proof.Machine
end

