-- ==== Sys2Proof/Machine/Submit.lean ====
section
/-! DEFINITION. The classes of the registers (R497) and the submission of ledger records (R72 to R74, R426, R428, R498). -/

namespace Sys2Proof.Machine

/-! ## Places and classes of registers -/

/-- The place in window 0 of its block of the register that an address reaches (R55, R545). -/
def place (a : Nat) : Option Nat := (locate a).map (fun q => blkBase q.1 + q.2)
/-- The slot of a JOB_CMD, JOB_STATUS or JOB_ARG offset, and the offset in the slot (R81). -/
def jobOffset (off : Nat) : Option (Nat × Nat) := if 0x100 ≤ off ∧ off < 0x300 then some ((off - 0x100) / 0x20, off % 0x20) else none
/-- The class of a write to a register's place (R497, R80, R489, R509). -/
def classAt (a : Nat) : Nat := match specAt a with | some r => r.cls | none => 0
/-- The word that a REG_WRITE writes to a JOB_CMD (R73, R82): KIND keeps its unmasked bits, START and ABORT take 0 for theirs. -/
def State.jobMerged (s : State) (k : Nat) (v mask : W32) : W32 :=
  (v &&& mask) ||| (w32 (s.slot k).kind.toNat &&& ~~~mask)
/-- The class of a REG_WRITE by its target (R498): a start of IMG_LOAD is of class 0 while no image runs, and its phase 1 judges it (R102). -/
def State.regWriteClass (s : State) (addr : Nat) (v mask : W32) : Nat :=
  match locate addr with
  | none => 0
  | some (.job, off) =>
    (match jobOffset off with
     | some (k, 0) =>
       let w := s.jobMerged k v mask
       let kind := fld w 7 0
       if bitOf w 31 && !bitOf w 30 && (kind == 2 || kind == 4 || (kind == 1 && s.img.shown.isSome)) then 1 else 0
     | _ => 0)
  | some (b, off) => classAt (blkBase b + off)
/-- Whether a REG_WRITE's class is granted at its submission: PRS_RESEAL is judged by the conditions of R495. -/
def State.regWriteGranted (s : State) (addr : Nat) (v mask : W32) : Bool :=
  if place addr = some PRS_RESEAL then s.resealOk 1 (v &&& mask) else s.granted (s.regWriteClass addr v mask)

/-! ## Entries in DRAM (R426) -/

/-- The DRAM address of the entry of a sequence number. -/
def entryAddr (seq : Nat) : Nat := 0x1000000 + seq % 65536 * 32
/-- The 32 bytes of an entry. -/
def entryWords (e : LedgerEntry) (st outcome : Nat) : List Byte :=
  leBytes 8 e.seq ++ leBytes 8 e.tick ++ leBytes 2 (st + outcome * 16 + b01 e.partner * 256) ++ leBytes 2 e.op
    ++ e.args.flatMap (fun w => leBytes 4 w.toNat)
/-- Writes an entry with its STATE and OUTCOME. -/
def State.entryWrite (s : State) (e : LedgerEntry) (st outcome : Nat) : State := s.engineWrite (entryAddr e.seq) (entryWords e st outcome)

/-! ## Submission -/

/-- LDG_SUBk as last written. -/
def State.sub (s : State) (k : Nat) : W32 := spGet 0 s.ledger.sub k
/-- The record in the submission registers. -/
def State.subEntry (s : State) : LedgerEntry :=
  { seq := (cat64 (s.sub 1) (s.sub 0)).toNat, tick := (cat64 (s.sub 3) (s.sub 2)).toNat, op := fld (s.sub 4) 31 16,
    args := [s.sub 5, s.sub 6, s.sub 7], accepted := false, both := false,
    partner := s.twn.role != .alone && s.twn.role != .active, granted := s.img.shown.isSome || s.class1 }
/-- BAD_OP: an unknown OP, non-zero reserved bits, a bad REG_WRITE address (R72, R73, R188, R422). -/
def State.subBad (s : State) (e : LedgerEntry) : Bool :=
  let a0 := nth 0 e.args 0
  fld (s.sub 4) 15 0 != 0
    || (match e.op with
        | 0 => false
        | 1 => decide (0x240000 ≤ a0.toNat) || a0.toNat % 4 != 0
        | 2 => decide (256 < a0.toNat) || nth 0 e.args 1 != 0 || nth 0 e.args 2 != 0
        | 3 => false
        | 4 => e.args.any (· != 0)
        | _ => true)
/-- FULL (R42, R74, R428): not READY, 65,536 entries not yet executed, the number beyond LDG_EXE + 65,536, the active out of reach, or DRAM frozen. -/
def State.subFull (s : State) (e : LedgerEntry) : Bool :=
  !s.sys.ready || s.dram.frozen || decide (65536 ≤ s.ledger.entries.length) || decide (s.ledger.exe + 65536 < e.seq)
    || (s.twn.role != .alone && s.twn.role != .active && !s.twn.linkUp)
/-- Whether a number is held and not executed. -/
def State.holds (s : State) (seq : Nat) : Bool := s.ledger.entries.any (fun e => e.seq == seq)
/-- RESULT of R74, in the order of its table. -/
def State.subResult (s : State) (e : LedgerEntry) : Nat :=
  if s.subBad e then 3
  else if e.op = 1 ∧ !s.regWriteGranted (nth 0 e.args 0).toNat (nth 0 e.args 1) (nth 0 e.args 2) then 5
  else if e.seq ≤ s.ledger.acc ∨ s.holds e.seq then 2
  else if s.subFull e then 4
  else if e.seq = s.accReady false + 1 then 0
  else 1
/-- A record enters the ledger: its entry with STATE 1, and the record to the partner (R429). -/
def State.hold (s : State) (e : LedgerEntry) : State :=
  let t := { s with ledger := { s.ledger with entries := s.ledger.entries ++ [e] } }
  let t := t.entryWrite e 1 0
  if s.twn.paired && s.twn.linkUp && s.twn.role != .alone then t.emit (.twinRecord e.seq e.tick e.op e.args e.granted false) else t
/-- The write of LDG_SUB7: the record is checked, and kept or discarded. -/
def State.submit (s : State) (v : W32) : State :=
  let s := { s with ledger := { s.ledger with sub := spPut s.ledger.sub 7 v } }
  let e := s.subEntry
  let r := s.subResult e
  let t := { s with ledger := { s.ledger with result := r, resultSeq := BitVec.ofNat 16 e.seq } }
  if r = 5 then t.deny (s.regWriteClass (nth 0 e.args 0).toNat (nth 0 e.args 1) (nth 0 e.args 2)) 1 (nth 0 e.args 0).toNat
  else if r = 4 then (t.count LDG_FULL_COUNT 1).raiseOnce 104
  else if r ≤ 1 then t.hold e
  else t
/-- A write of LDG_SUBk, k below 7. -/
def State.subWrite (s : State) (k : Nat) (v : W32) : State := { s with ledger := { s.ledger with sub := spPut s.ledger.sub k v } }

end Sys2Proof.Machine
end

