-- ==== Sys2Proof/Machine/Access.lean ====
section
/-! DEFINITION. Reading and writing registers and memories (R51 to R60, R545, R77 to R83, R497, R498): what each register shows, what a
write to it does for the host, the ledger, the monitor and the loader, and the host's accesses by address range. -/

namespace Sys2Proof.Machine

/-! ## What the registers of SYS, TCK, JOB, LDG, IMG and MON show (R38, R78, R79, R81, R83, R112, R113, R438, R524) -/

/-- The computed registers of SYS. -/
def State.sysView (s : State) (off : Nat) : Option W32 :=
  if off = 0x08 then
    some (s.rd SYS_STAT ||| w32 (b01 (s.sys.hostLink || s.sys.straps.getLsbD 0) * 2 ^ 8 + b01 s.sys.ready * 2 ^ 9))
  else if off = 0x10 then some (s.sys.straps.setWidth 32)
  else if off = 0x14 then some (w32 s.sys.cause)
  else if off = 0x1C then
    let c := s.rd SYS_CFGCRC_CTL &&& (if s.rdF SYS_CFGCRC_ACT 1 0 = 0 then 0xFFFFFFFD else 0xFFFFFFFF)
    some (c ||| w32 (b01 (s.sys.cfgCommit != 0) + (if s.sys.cfgPass then s.tickN % 16 * 256 else 0)))
  else if off = 0x40 then some (lo32 s.fit.serial)
  else if off = 0x44 then some (hi32 s.fit.serial)
  else none

/-- The sample counter as a read inside the tick finds it: the samples since the boundary are a free value. -/
def State.samplesNow (s : State) : W64 :=
  if s.sys.mediaRun then s.samples + BitVec.ofNat 64 (Config.freeNat s.free % s.tickLen) else s.samples
/-- The computed registers of TCK. -/
def State.tckView (s : State) (off : Nat) : Option W32 :=
  if off = 0x04 then some (w32 (b01 s.sys.mediaRun))
  else if off = 0x08 then
    some (s.rd TCK_STAT ||| w32 (b01 s.sys.mediaRun + b01 s.sys.aligned * 2 + b01 (s.sys.realignLeft != 0) * 8))
  else if off = 0x10 then some (w32 (b01 s.rate96))
  else if off = 0x14 then some (lo32 s.sys.tick)
  else if off = 0x18 then some (hi32 s.sys.tick)
  else if off = 0x1C then some (lo32 s.samplesNow)
  else if off = 0x20 then some (hi32 s.samplesNow)
  else if off = 0x24 then some (if s.sys.mediaRun then w32 (Config.freeNat s.free % 400000) else 0)
  else if off = 0x48 then some (if s.sys.aligned then 0 else s.rd TCK_EPOCH_OFS)
  else none
/-- Whether a read shows a free value, the place inside the running tick. -/
def readsPhase (a : Nat) : Bool := a == TCK_PHASE || a == TCK_SAMPLE_LO

/-- The registers of JOB. DESIGN CHOICE (log entry 66): the self-clearing START and ABORT of JOB_CMD have cleared by the time of any read, while an
aborted job still waits for its safe point too. -/
def State.jobView (s : State) (off : Nat) : Option W32 :=
  match jobOffset off with
  | some (k, r) =>
    let j := s.slot k
    if r = 0 then some (w32 j.kind.toNat)
    else if r = 4 then some j.status
    else if r < 0x18 then some (j.arg ((r - 8) / 4))
    else if r = 0x18 then some (loN j.total)
    else some (hiN j.total)
  | none => if off = 0x10 then some (w32 (foldS (fun n k => n + b01 (s.slot k).busy * 2 ^ k) 0 slotNums)) else none

/-- The computed registers of LDG. -/
def State.ldgView (s : State) (off : Nat) : Option W32 :=
  let l := s.ledger
  if off = 0x10 then some l.session
  else if off = 0x18 then some (w32 (l.entries.filter (fun e => !e.accepted)).length)
  else if off = 0x1C then some (w32 (l.entries.filter (fun e => e.accepted)).length)
  else if 0x30 ≤ off ∧ off < 0x50 then some (w32 (leNat (s.dramPeek (entryAddr (s.rdF LDG_ENT_RSEL 15 0) + (off - 0x30)) 4)))
  else if off = 0x120 then some (loN l.acc)
  else if off = 0x124 then some (hiN l.acc)
  else if off = 0x128 then some (loN l.exe)
  else if off = 0x12C then some (hiN l.exe)
  else if off = 0x130 then some (w32 (l.result * 2 ^ 28 + l.resultSeq.toNat))
  else none

/-- Whether a digest is the trusted one (R102). -/
def State.trustedSsig (s : State) (d : List Byte) : Bool := (upFrom 0 8).all (fun i => s.rd (IMG_TRUST i) == w32 (leAt d (4 * i) 4))
/-- PHASE of IMG_STATE; `begun`: the boundary t1 of a graft has come. -/
def phaseCode (begun : Bool) : LoadPhase → Nat
  | .idle => 0 | .reported => 1 | .armed _ => 1 | .stopping _ => 2 | .distributed => 2 | .starting _ => 2
  | .graftT1 _ => if begun then 3 else 1 | .graftCopied _ => 3 | .graftSwapped _ => 3
/-- PHASE: 1 from the start of phase 1 on, which the background load of R105 runs too. -/
def State.imgPhase (s : State) : Nat :=
  if s.img.phase == .idle then b01 (s.img.bgLoad || s.loadsRun) else phaseCode s.twn.suspended s.img.phase
/-- The computed registers of IMG. -/
def State.imgView (s : State) (off : Nat) : Option W32 :=
  let p := s.img
  if off = 0x10 then
    some (w32 (b01 p.shown.isSome + b01 (match p.shown with | some i => i.rate96 | none => false) * 2 + p.source * 4 + s.imgPhase * 2 ^ 8 + b01 p.bgLoad * 2 ^ 10
      + b01 (match p.shown with | some i => s.trustedSsig i.ssig | none => false) * 2 ^ 11))
  else if off = 0x14 then some (match p.shown with | some i => i.generation | none => 0)
  else if off = 0x18 then some (match p.shown with | some i => w32 i.length | none => 0)
  else if 0x20 ≤ off ∧ off < 0x40 then some (match p.shown with | some i => w32 (leAt i.ssig (off - 0x20) 4) | none => 0)
  else if 0x40 ≤ off ∧ off < 0x60 then some (match p.shown with | some i => w32 (leAt i.fprint (off - 0x40) 4) | none => 0)
  else none

/-- The computed registers of MON. -/
def State.monView (s : State) (off : Nat) : Option W32 :=
  let m := s.mon
  if off = 0x14 then
    some (w32 (b01 m.brk + b01 m.rxSeen * 2 + b01 m.prompt * 4 + b01 s.class2 * 8 + m.trace * 16 + m.buf.length * 2 ^ 16))
  else none

/-! ## Reading a register -/

/-- The computed registers of every block. -/
def State.view (s : State) (b : Block) (off : Nat) : Option W32 :=
  match b with
  | .sys => s.sysView off
  | .tck => s.tckView off
  | .job => s.jobView off
  | .ldg => s.ldgView off
  | .img => s.imgView off
  | .mon => s.monView off
  | .prs => s.prsView off
  | .pwd => s.pwdView off
  | .clk => s.clkView off
  | .cnp => s.cnpView off
  | .grf => s.grfView off
  | .asr => s.asrView off
  | .str => s.strView off
  | .tim => s.timView off
  | .rng => s.rngView off
  | .mem => s.memView off
  | .crd => s.crdView off
  | .trk => s.trkView off
  | .twn => s.twnView off
  | .hwd => s.hwdView off
  | .prv => s.prvView off
  | .evt => none
  | .asp n => s.portView n off
  | .aesr n => s.portView (16 + n) off
  | .aest n => s.portView (24 + n) off
  | .net n => s.netView n off
  | .drc c => s.drcView c off
  | .tile n => s.tileView n off
  | .ful k => s.fulView k off

/-- What a register holds, read without any effect. -/
def State.regVal (s : State) (b : Block) (off : Nat) : W32 :=
  match s.view b off with
  | some v => v
  | none => if b = .hwd ∧ off = 0x30 then w32 (s.hwd.word s.rsAddr) else s.rd (blkBase b + off)
/-- The HWD windows of a module without Heartwood read 0 (R3). -/
def State.regShow (s : State) (b : Block) (off : Nat) : W32 := if b = .hwd ∧ !s.fit.variantA then 0 else s.regVal b off

/-! ## Multi-word values (R60, R240, R318, R349) -/

/-- The lower words that a read of a register captures besides itself. -/
def capturesOf (b : Block) (off : Nat) : List Nat :=
  match b with
  | .tim => if off = 0x14 then [0x10] else []
  | .asp _ => if off = 0x28 then [0x24] else []
  | .aesr _ => if off = 0x1C then [0x18] else []
  | .drc _ => if off = 0x70 then [0x6C, 0x68] else []
  | _ => []
/-- Whether a register is a lower word, which reads from its capture. -/
def capturedWord (b : Block) (off : Nat) : Bool :=
  match b with
  | .tim => off == 0x10
  | .asp _ => off == 0x24
  | .aesr _ => off == 0x18
  | .drc _ => off == 0x6C || off == 0x68
  | _ => false
/-- A reader's captures after a read of a register. -/
def State.capture (s : State) (cap : Sparse W32) (b : Block) (off : Nat) : Sparse W32 :=
  foldS (fun m o => spPut m (blkBase b + o) (s.regVal b o)) cap (capturesOf b off)
/-- The value a reader with these captures sees. -/
def State.seen (s : State) (cap : Sparse W32) (b : Block) (off : Nat) : W32 :=
  if capturedWord b off then spGet (resetVal (blkBase b + off)) cap (blkBase b + off) else s.regShow b off

/-! ## The host's reads -/

/-- A host read clears an RC register (R58). -/
def State.clearRc (s : State) (b : Block) (off : Nat) : State :=
  let a := blkBase b + off
  match specAt a with
  | none => s
  | some r =>
    if r.rc then
      if a = TRK_WAIT_MAX then { s with trk := { s.trk with waitMax := spDel s.trk.waitMax (s.rdF TRK_WAIT_RSEL 3 0) } }
      else if a = PWD_OCC then s.modPwd (fun p => { p with occ := spDel p.occ (s.rdF PWD_OCC_RSEL 3 0) })
      else s.unwr a
    else s
/-- Heartwood does not answer a register access: it has no power, or the bridge carries nothing (R441, R395). -/
def State.hwSilent (s : State) (b : Block) : Bool := b == .hwd && s.fit.variantA && (!s.hwHere || s.hwd.lost)
/-- A host read of the 32-bit register at an address of the register ranges. -/
def State.hostReg (s : State) (addr : Nat) : State × W32 :=
  match locate addr with
  | none => (s.unmappedAt addr, 0)
  | some (b, off) =>
    if s.hwSilent b then (s.trkTimeout 0 6 addr, 0)
    else if b = .hwd ∧ off = 0x30 ∧ s.fit.variantA then s.rsRead
    else
      let v := s.seen s.sys.capHost b off
      let t := { s with sys := { s.sys with capHost := s.capture s.sys.capHost b off } }
      ((t.clearRc b off).when (readsPhase (blkBase b + off)) State.drawn, v)

/-- A monitor read of a register: no flag, no clearing, its own captures (R518). -/
def State.monReg (s : State) (addr : Nat) : State × W32 :=
  match locate addr with
  | none => (s, 0)
  | some (b, off) =>
    if s.hwSilent b then (s, 0)
    else
      let v := s.seen s.sys.capMon b off
      let t := { s with sys := { s.sys with capMon := s.capture s.sys.capMon b off } }
      (t.when (readsPhase (blkBase b + off)) State.drawn, v)

/-! ## A write of a register without an effect of its own (R12, R58) -/

/-- The bits that a write changes by copying the value. -/
def State.writable (s : State) (b : Block) (r : RegSpec) : W32 :=
  r.rw ||| (if s.enabled b then 0 else r.cfg) ||| (if s.locked b then 0 else r.lk)
/-- The register after a write: the writable bits copied, W1C bits cleared, W1S bits set. -/
def written (old v m : W32) (r : RegSpec) : W32 := (((old &&& ~~~m) ||| (v &&& m)) &&& ~~~(v &&& r.w1c)) ||| (v &&& r.w1s)
/-- The flags of a write that CFG or LK fields ignore. -/
def State.ignored (s : State) (b : Block) (r : RegSpec) : State :=
  (s.when (r.cfg != 0 && s.enabled b) (·.cfgIgnored b)).when (r.lk != 0 && s.locked b) (·.lockViol b)
/-- The write of a register field by field. -/
def State.plainWrite (s : State) (b : Block) (a : Nat) (r : RegSpec) (v : W32) : State :=
  let t := s.wr a (written (s.rd a) v (s.writable b r) r)
  (t.when ((t.rd a ^^^ s.rd a) &&& r.cfg != 0) (·.modSys (fun y => { y with cfgDirty := true }))).ignored b r

/-- The flag that a value out of its range sets instead of being taken. -/
def State.badArg (s : State) (b : Block) (off : Nat) (v : W32) : Option (Nat × Nat) :=
  let a := blkBase b + off
  match b with
  | .clk => if clkBadArg a v then some (CLK_STAT, 6) else none
  | .tim => if timBadArg a v then some (TIM_STAT, 6) else none
  | .str => if s.hqBad a v then some (STR_STAT, 0) else none
  | .crd => if crdBadArg a v then some (CRD_STAT, 4) else none
  | .prv => if prvBadArg a v then some (PRV_STAT, 3) else none
  | .prs => if prsBadArg a v then some (PRS_STAT, 3) else none
  | .pwd => if pwdBadArg a v then some (PWD_STAT, 3) else none
  | .drc c => if drcBadArg off v then some (DRC_STAT c, 13) else none
  | .trk =>
    if (off = 0x14 ∧ fld v 15 0 < 64) ∨ (0x40 ≤ off ∧ off < 0x70 ∧ off ≠ 0x5C ∧ fld v 3 0 = 15) then some (TRK_STAT, 3) else none
  | _ => none
/-- A write that an address ignores without a flag: channel 1's aperture base (R359), and a debounce of 0 (R470). -/
def dumb (b : Block) (off : Nat) (v : W32) : Bool :=
  (b == .drc 1 && off == 0x1C) || (b == .hwd && (off == 0x1050 || off == 0x1054) && fld v 7 0 == 0)
/-- The value as the register takes it: channel 1's FREEZE_ACT reads 0, a TOL out of range keeps the old one. -/
def State.taken (s : State) (b : Block) (off : Nat) (v : W32) : W32 :=
  if b == .drc 1 && off == 0x20 then v &&& 0xFFFFFFFE
  else if b == .hwd && (off == 0x201C || off == 0x203C) && (fld v 23 16 == 0 || decide (50 < fld v 23 16)) then
    putFld v 23 16 (s.rdF (blkBase b + off) 23 16)
  else v

/-! ## Writes with an effect of their own -/

/-- SYS_CFGCRC_CTL (R62, R79): HOLD, MISMATCH, COMMIT. -/
def State.commitWrite (s : State) (v : W32) : State :=
  let t := s.wr SYS_CFGCRC_CTL (((s.rd SYS_CFGCRC_CTL &&& 0xFFFFFFF7) ||| (v &&& 8)) &&& ~~~(v &&& 4))
  if bitOf v 0 then { t with sys := { t.sys with cfgCommit := if t.sys.cfgCommit < 2 then 1 else 3 } } else t
/-- SYS_CFGCRC_REF (R62, R63): a direct write ends a run of differing passes. -/
def State.refWrite (s : State) (v : W32) : State :=
  let t := s.wr SYS_CFGCRC_REF v
  { t with sys := { t.sys with cfgDiffs := 0, cfgActed := false } }
/-- EVT_PENDk (R45, R66): the bits written 1 clear; vector 0 is sent again while an unmasked event is pending. -/
def State.pendWrite (s : State) (k : Nat) (v : W32) : State :=
  let t := s.wr (EVT_PEND k) (s.rd (EVT_PEND k) &&& ~~~v)
  t.when t.irq (·.vector 0)
/-- TCK_REALIGN (R18, R19). -/
def State.realign (s : State) (v : W32) : State :=
  if v ≠ 0xA1C7 then s
  else if s.tim.qualified then { s with sys := { s.sys with realignReq := true } }
  else s.flagRaise TCK_STAT 4 3
/-- GRF_PRI_SET (R138): held to GRF_LOCK. -/
def State.priWrite (s : State) (v : W32) : State := if s.locked .grf then s.lockViol .grf else s.grfPriSet v
/-- An accepted STR_HQ_CTL: the DMA rings that a link loss had stopped run again. -/
def State.hqCtlWrite (s : State) (v : W32) : State :=
  let t := s.wr STR_HQ_CTL (v &&& 0xFF77F)
  { t with net := { t.net with dmaStopped := false } }
/-- ASR_MCLK: the pins MCLK_OUT0 to MCLK_OUT3 carry the media clock, its half or its quarter, or are driven low (R261, R267). -/
def State.mclkWrite (s : State) (v : W32) : State :=
  (s.wr ASR_MCLK (v &&& 0xFF0F)).emit (.mclk ((upFrom 0 4).map (fun k =>
    if bitOf v k then (match fld v (9 + 2 * k) (8 + 2 * k) with | 1 => 2 | 2 => 4 | _ => 1) else 0)))
/-- PWD_RTC: the second starts afresh. -/
def State.rtcWrite (s : State) (v : W32) : State := (s.wr PWD_RTC v).modPwd (fun p => { p with rtcTicks := 0 })
/-- MON_BAUD (R523): after the stop bit of the character being sent, or at once. -/
def State.baudWrite (s : State) (v : W32) : State :=
  if s.mon.tx.isEmpty then { (s.wr MON_BAUD (v &&& 7)) with mon := { s.mon with baudNext := none } }
  else { s with mon := { s.mon with baudNext := some (fld v 2 0) } }

/-- What a write to a register does where that is more than taking the bits; `path` is 0 for the host, 1 for the ledger, 2 for a ledger record taken
without class 1, 3 for the monitor, 4 for the loader. -/
def State.sideWrite (s : State) (path : Nat) (b : Block) (off : Nat) (v : W32) : Option State :=
  match b with
  | .sys =>
    if off = 0x18 then some (s.sysReset v)
    else if off = 0x1C then some (s.commitWrite v)
    else if off = 0x20 then some (s.refWrite v)
    else none
  | .evt =>
    if 0x10 ≤ off ∧ off < 0x20 then some (s.pendWrite ((off - 0x10) / 4) v)
    else if off = 0x48 then some (s.raise (fld v 6 0))
    else none
  | .tck => if off = 0x4C then some (s.realign v) else none
  | .job =>
    (match jobOffset off with
     | some (k, r) =>
       if r = 0 then some (s.jobCmd k v (path == 1 || s.class1))
       else if 8 ≤ r ∧ r < 0x18 then some (s.jobArg k ((r - 8) / 4) v)
       else some s
     | none => none)
  | .ldg =>
    if 0x100 ≤ off ∧ off < 0x11C then some (s.subWrite ((off - 0x100) / 4) v)
    else if off = 0x11C then some (s.submit v)
    else none
  | .grf => if off = 0x34 then some (s.grfSelSet v) else if off = 0x38 then some (s.priWrite v) else none
  | .rng =>
    if off = 0x20 then some (s.rngDlySet v)
    else if off = 0x24 then some (s.rngLenSet v)
    else if off = 0x3C then some (s.rngCancel v)
    else none
  | .cnp => if off = 0x30 then some (s.detSet v) else if off = 0x48 then some (s.sclSet v) else none
  | .asp n =>
    if off = 0x4 then some (s.portCtl n v)
    else if off = 0x18 then some (s.slotMask n false v)
    else if off = 0x1C then some (s.slotMask n true v)
    else none
  | .aesr n => if off = 0x4 then some (s.portCtl (16 + n) v) else none
  | .asr => if off = 0x34 then some (s.mclkWrite v) else none
  | .aest n => if off = 0x4 then some (s.portCtl (24 + n) v) else none
  | .net n => if off = 0x4 then some (s.netCtl n v) else none
  | .str => if off = 0x48 then some (s.applyWrite v) else if off = 0x18 then some (s.hqCtlWrite v) else none
  | .tim =>
    if off = 0x4 then some (s.timCtl v)
    else if off = 0x54 then some (s.stepAck v)
    else if off = 0x100 ∨ off = 0x120 ∨ off = 0x140 ∨ off = 0x160 then some (s.ppsCtl ((off - 0x100) / 0x20) v)
    else none
  | .mem => if off = 0x30 then some (s.repSet v) else none
  | .twn => if 0x10 ≤ off ∧ !s.strapTwin then some s else if off = 0x18 then some (s.twinPair v) else none
  | .hwd =>
    if off = 0x30 then some (s.rsWrite v)
    else if off = 0x38 then some (s.rsSave v)
    else if off = 0x2010 then some (s.chCfg 0 v)
    else if off = 0x2030 then some (s.chCfg 1 v)
    else none
  | .prs => if off = 0x18 then some (if path = 1 then (if v = 0x5EA1 then s.unseal else s) else s.reseal path v) else none
  | .pwd =>
    if off = 0x14 then some (s.napRequest v)
    else if off = 0x30 then some (s.latchClr v)
    else if off = 0x20 then some (s.rtcWrite v)
    else none
  | .mon => if off = 0x10 then some (s.baudWrite v) else none
  | _ => none

/-- A granted write of the register at an offset of a block. -/
def State.blockWrite (s : State) (path : Nat) (b : Block) (off : Nat) (v : W32) : State :=
  let a := blkBase b + off
  let held := match specAt a with
    | some r => r.lk != 0 && s.locked b
    | none => false
  if dumb b off v then s
  else match (if held then none else s.badArg b off v) with
  | some (stat, bit) => s.flag stat bit
  | none =>
    match s.sideWrite path b off v with
    | some t => t
    | none =>
      (match specAt a with
       | some r => s.plainWrite b a r (s.taken b off v)
       | none => s)

/-- A 32-bit write to an address of the register ranges by a path. Only a direct write is judged by its class here: the ledger's was judged
at submission, the monitor's at its command, and the loader has none. PRS_RESEAL judges itself. -/
def State.regWrite (s : State) (path addr : Nat) (v : W32) : State :=
  match locate addr with
  | none => if path = 0 ∨ path = 1 then s.unmappedAt addr else s
  | some (b, off) =>
    let a := blkBase b + off
    if b = .hwd ∧ !s.fit.variantA then s
    else if path = 0 ∧ a ≠ PRS_RESEAL ∧ !s.granted (classAt a) then s.deny (classAt a) 0 addr
    else if s.hwSilent b then s.trkTimeout (if path = 0 then 0 else 1) 6 addr
    else s.blockWrite path b off v

/-! ## The host's accesses by range (R51, R53, R54) -/

/-- The MSI-X windows, which answer under PCIe (R43). -/
def State.msixAt (s : State) (addr : Nat) : Bool := s.pcie && decide (0xFE000 ≤ addr) && decide (addr < 0x100000)
/-- The key of an MSI-X word: four words for each of the 4 vectors, then the pending bits. -/
def msixKey (addr : Nat) : Option Nat :=
  if addr < 0xFE040 then some ((addr - 0xFE000) / 4) else if 0xFF000 ≤ addr ∧ addr < 0xFF004 then some 16 else none
/-- An MSI-X word: a vector is masked until its control word is written. -/
def State.msixWord (s : State) (k : Nat) : W32 := spGet (if k < 16 ∧ k % 4 = 3 then 1 else 0) s.sys.msix k
/-- A write of the MSI-X table; unmasking a pending vector sends it. -/
def State.msixWrite (s : State) (k : Nat) (v : W32) : State :=
  let t := { s with sys := { s.sys with msix := spPut s.sys.msix k v } }
  if k < 16 ∧ k % 4 = 3 ∧ !bitOf v 0 ∧ bitOf (s.msixWord 16) (k / 4) then
    { t with sys := { t.sys with msix := spPut t.sys.msix 16 (s.msixWord 16 &&& ~~~(oneBit (k / 4))) } }.vector (k / 4)
  else t

/-- A write narrower than a word to a register range (R54); one outside mapped space is flagged for that too. -/
def State.narrowAt (s : State) (addr : Nat) : State :=
  let t := ((s.flag SYS_STAT 0).wr SYS_NARROW_ADDR (w32 addr)).raise 4
  if (locate addr).isNone && !s.msixAt addr then t.unmappedAt addr else t

/-- A host write of any width at an address. -/
def State.hostWrite (s : State) (addr : Nat) (width : Width) (v : W32) (hit : WriteHit) : State :=
  if addr < 0x240000 then
    if s.msixAt addr then
      (match width, msixKey addr with
       | .word, some k => if k < 16 then s.msixWrite k v else s
       | .word, none => s
       | _, _ => s.narrowAt addr)
    else if width = .word then s.regWrite 0 (addr / 4 * 4) v
    else s.narrowAt addr
  else if addr < 0x1000000 then s.unmappedAt addr
  else if addr < 0x2000000 then
    if s.underTest 0 then s else s.poolWr (widthAlign width (addr - 0x1000000)) (leBytes (widthBytes width) v.toNat)
  else if addr < 0x3000000 then if s.underTest 1 && fulMem addr != 3 then s else s.fulWrite addr width v hit
  else if addr < 0x4000000 then s.unmappedAt addr
  else if addr < 0x8000000 then if s.underTest 2 then s else s.gainWin addr width v hit
  else if addr < 0xC000000 then s.unmappedAt addr
  else if addr < 0x10000000 then s.apWrite addr width v
  else s.unmappedAt addr

/-- A host read of the pool's word: what the check finds, then the word (R363). -/
def State.poolRead (s : State) (off : Nat) (ecc : Option EccKind) : State × W32 :=
  let t := match ecc with
    | some kind => s.drawn.poolEcc { addr := off, kind := kind, staging := Config.freeBit s.free }
    | none => s
  (t, t.poolW off)
/-- A host read of the word at an address: none while the read waits at a locked DRAM channel. A narrow read returns its bytes. -/
def State.hostRead (s : State) (addr : Nat) (hit : ReadHit) : State × Option W32 :=
  let one (r : State × W32) : State × Option W32 := (r.1, some (narrow hit.width addr r.2))
  if addr < 0x240000 then
    if s.msixAt addr then (s, some (narrow hit.width addr (match msixKey addr with | some k => s.msixWord k | none => 0)))
    else one (s.hostReg addr)
  else if addr < 0x1000000 then one (s.unmappedAt addr, 0)
  else if addr < 0x2000000 then one (if s.underTest 0 then (s, 0) else s.poolRead ((addr - 0x1000000) / 4 * 4) hit.ecc)
  else if addr < 0x3000000 then if s.underTest 1 && fulMem addr != 3 then one (s, 0) else one (s.fulRead addr hit.ecc)
  else if addr < 0x4000000 then one (s.unmappedAt addr, 0)
  else if addr < 0xC000000 then if s.underTest 2 then one (s, 0) else one (s.gainRead addr hit.ecc)
  else if addr < 0x10000000 then s.apRead addr hit.width hit.dram
  else one (s.unmappedAt addr, 0)

/-- A host read whose value is answered. -/
def State.hostReadOut (s : State) (addr : Nat) (hit : ReadHit) : State :=
  let r := s.hostRead addr hit
  match r.2 with
  | some v => r.1.answer v
  | none => r.1
/-- A read or a write of a width that meets no error. -/
def cleanRead (width : Width) : ReadHit := { width := width, ecc := none, dram := .clean }
def cleanWrite : WriteHit := { collide := false, ecc := none }

end Sys2Proof.Machine
end

