-- ==== Sys2Proof/Machine/ImageParse.lean ====
section
/-! DEFINITION. The checks of phase 1 on an image's bytes (R86 to R94, R97, R546, R547), in the order of R97's table, and the image
they give. -/

namespace Sys2Proof.Machine

/-- What a check says of an image: the ERROR of R97 and the section of R547, 0xFF for none. -/
structure ImgFault where
  code : Nat
  sec : Nat
  deriving DecidableEq, Repr

/-- What is known of an image when its checks end (R103): GENERATION once its header has passed, both digests once recomputed. -/
structure ImgKnown where
  gen : W32
  ssig : List Byte
  fprint : List Byte
  deriving DecidableEq, Repr

/-- The module an image is checked against: variant, usable DRAM in bytes. -/
structure ImgTarget where
  variantA : Bool
  dram : Nat
  deriving DecidableEq, Repr

/-- An entry of the section table (R88). -/
structure SecEntry where
  kind : Nat
  zero : Nat
  off : Nat
  len : Nat
  crc : W32
  deriving DecidableEq, Repr

/-! ## The header and the table (R87, R88) -/

/-- A little-endian field of the image. -/
def imgField (bs : List Byte) (off n : Nat) : Nat := leAt bs off n
/-- Whether bytes [off, off + n) are all zero. -/
def zeroBytes (bs : List Byte) (off n : Nat) : Bool := ((bs.drop off).take n).all (· == 0)
/-- The section table. -/
def secTable (bs : List Byte) : List SecEntry :=
  (upFrom 0 (imgField bs 0x0C 2)).map (fun i =>
    let o := 0x100 + 16 * i
    { kind := imgField bs o 2, zero := imgField bs (o + 2) 2, off := imgField bs (o + 4) 4, len := imgField bs (o + 8) 4,
      crc := w32 (imgField bs (o + 12) 4) })
/-- A section's payload. -/
def payload (bs : List Byte) (e : SecEntry) : List Byte := slice bs e.off e.len

/-- The FORMAT check: the format, the header's size, and every field and bit marked zero. -/
def badFormat (bs : List Byte) : Bool :=
  imgField bs 4 2 != 1 || imgField bs 6 2 != 0x100 || decide (8 ≤ imgField bs 0x0E 2) || decide (4 ≤ imgField bs 0x17 1)
    || !zeroBytes bs 0x1C 4 || !zeroBytes bs 0x68 144
/-- The TARGET check. -/
def badTarget (t : ImgTarget) (bs : List Byte) : Bool :=
  imgField bs 0x14 2 != 0x8400 || decide (0xA1 < imgField bs 0x16 1) || imgField bs 0x17 1 / (if t.variantA then 1 else 2) % 2 == 0

/-- The payloads in ascending order without overlap, each at a multiple of 16 inside the image, with zeros between them; `at_` is the end
of what came before. -/
def badPlaces (bs : List Byte) (length : Nat) : Nat → List SecEntry → Bool
  | p, [] => !zeroBytes bs p (length - p)
  | p, e :: es =>
    decide (e.off < p) || e.off % 16 != 0 || decide (length < e.off + e.len) || !zeroBytes bs p (e.off - p)
      || badPlaces bs length (e.off + e.len) es
/-- The LAYOUT check. -/
def badLayout (bs : List Byte) : Bool :=
  let length := imgField bs 8 4
  let n := imgField bs 0x0C 2
  decide (length < 512) || decide (16777216 < length) || length % 16 != 0 || length != bs.length || decide (n < 5) || decide (255 < n)
    || decide (length < 0x100 + 16 * n) || (secTable bs).any (fun e => e.zero != 0 || decide (e.len < 4))
    || badPlaces bs length (0x100 + 16 * n) (secTable bs)

/-! ## Kinds (R89) -/

/-- The largest count of a kind in an image; none for a kind without a limit, 0 for a reserved one. -/
def kindMax (k : Nat) : Option Nat :=
  match k with
  | 1 => some 1 | 2 => some 1 | 3 => some 1 | 4 => some 64 | 5 => some 128 | 6 => some 1 | 7 => some 1 | 8 => some 1 | 9 => some 1
  | 10 => some 1 | 11 => some 1 | 12 => none
  | _ => if 0x8000 ≤ k then none else some 0
/-- The kinds that must be present. -/
def kindsNeeded : List Nat := [1, 3, 7, 9, 10]
/-- The KIND check, section by section: a reserved kind names 0xFF, one beyond its count its own section. -/
def kindFault : Nat → Sparse Nat → List SecEntry → Option ImgFault
  | _, seen, [] => if kindsNeeded.all (fun k => spGet 0 seen k != 0) then none else some { code := 0x47, sec := 0xFF }
  | i, seen, e :: es =>
    match kindMax e.kind with
    | none => kindFault (i + 1) seen es
    | some m =>
      if m = 0 then some { code := 0x47, sec := 0xFF }
      else if m ≤ spGet 0 seen e.kind then some { code := 0x47, sec := i }
      else kindFault (i + 1) (spPut seen e.kind (spGet 0 seen e.kind + 1)) es

/-! ## Content (R90 to R92) -/

/-- A stream of records that ends exactly at its length (R90); the fuel is its words. -/
def recordsEnd : Nat → List Byte → Bool
  | _, [] => true
  | 0, _ => false
  | n + 1, bs =>
    if bs.length < 4 then false
    else
      let words := leAt bs 2 2
      if bs.length < 4 + 4 * words then false else recordsEnd n (bs.drop (4 + 4 * words))

/-- A stream of records without its padding records (TYPE 0xFFFF, R90); the fuel is its bytes. -/
def recordsKept : Nat → List Byte → List Byte
  | 0, bs => bs
  | _, [] => []
  | n + 1, bs =>
    let size := 4 + 4 * leAt bs 2 2
    (if leAt bs 0 2 = 0xFFFF then [] else bs.take size) ++ recordsKept n (bs.drop size)
/-- The kinds whose payloads are streams of records (R90). -/
def kindRecords (k : Nat) : Bool := k == 1 || k == 2 || k == 3 || k == 6 || k == 7

/-- The cores of a mask. -/
def maskCores (m : W64) : List Nat := (upFrom 0 64).filter (fun k => m.getLsbD k)
/-- A FULLER_PROG payload: the mask and the instruction words. -/
def progOf (p : List Byte) : W64 × List W64 :=
  (BitVec.ofNat 64 (leAt p 0 8), (upFrom 0 (leAt p 8 4)).map (fun i => BitVec.ofNat 64 (leAt p (16 + 8 * i) 8)))
def badProg (p : List Byte) : Bool :=
  let w := leAt p 8 4
  decide (p.length < 16) || decide (w < 1) || decide (8192 < w) || !zeroBytes p 12 4 || p.length != 16 + 8 * w
/-- A FULLER_DATA payload: core, memory, offset, bytes. -/
def dataOf (p : List Byte) : Nat × Nat × Nat × List Byte := (leAt p 0 2, leAt p 2 1, leAt p 4 4, p.drop 8)
def badData (p : List Byte) : Bool :=
  decide (p.length < 8) || decide (63 < leAt p 0 2) || decide (1 < leAt p 2 1) || leAt p 3 1 != 0 || decide (65536 < leAt p 4 4 + (p.length - 8))
/-- The pairs of a REGINIT payload. -/
def pairsOf (p : List Byte) : List (W32 × W32) :=
  (upFrom 0 (leAt p 0 4)).map (fun i => (w32 (leAt p (4 + 8 * i) 4), w32 (leAt p (8 + 8 * i) 4)))
/-- An address REGINIT may name: word-aligned, a register range, outside SYS, EVT, JOB, PRS, PWD, IMG, TWN, LDG and MON. -/
def reginitOk (a : Nat) : Bool :=
  a % 4 == 0 && decide (a < 0x240000) && !decide (a < 0x6000) && !(decide (0xA0000 ≤ a) && decide (a < 0xA2000))
    && !(decide (0xD0000 ≤ a) && decide (a < 0xD1000))
def badReginit (p : List Byte) : Bool := p.length != 4 + 8 * leAt p 0 4 || (pairsOf p).any (fun q => !reginitOk q.1.toNat)
/-- A STATE_LAYOUT payload's descriptors. -/
def regionsOf (p : List Byte) : List Region :=
  (upFrom 0 (leAt p 4 4)).map (fun i =>
    let o := 8 + 24 * i
    { id := leAt p o 2, kind := leAt p (o + 2) 1, core := leAt p (o + 3) 1, base := leAt p (o + 4) 8, size := leAt p (o + 12) 8 })
def badRegion (r : Region) : Bool :=
  decide (5 < r.kind) || (if r.kind < 2 then decide (63 < r.core) || decide (65536 ≤ r.base) || decide (65536 < r.base + r.size)
    else r.core != 0 || (if r.kind = 2 then decide (0xFFC000 ≤ r.base) || decide (0xFFC000 < r.base + r.size) else decide (r.base < 0x04000000)))
/-- Whether a list of numbers repeats one. -/
def repeats : List Nat → Bool
  | [] => false
  | x :: xs => xs.contains x || repeats xs
def badLayoutState (p : List Byte) : Bool :=
  let n := leAt p 4 4
  decide (p.length < 8) || decide (1 < leAt p 0 4) || decide (n < 1) || decide (65535 < n) || p.length != 8 + 24 * n
    || (regionsOf p).any badRegion || repeats ((regionsOf p).map (·.id))
    || (upFrom 0 n).any (fun i => !zeroBytes p (8 + 24 * i + 20) 4)
/-- The entries of a COMPAT payload from a byte on; none where one overruns it or holds a byte that must be zero. -/
def compatFrom : Nat → List Byte → Option (List CompatEntry)
  | 0, p => if p.length = 0 then some [] else none
  | n + 1, p =>
    let m := leAt p 32 4
    if p.length < 40 + 8 * m then none
    else
      let rules := (upFrom 0 m).map (fun i => (leAt p (40 + 8 * i) 2, leAt p (42 + 8 * i) 2))
      let zeros := zeroBytes p 36 4 && (upFrom 0 m).all (fun i => zeroBytes p (44 + 8 * i) 4)
      if zeros then
        (compatFrom n (p.drop (40 + 8 * m))).map (fun es => { fprint := p.take 32, rules := rules, zeros := zeros } :: es)
      else none
def compatOf (p : List Byte) : Option (List CompatEntry) :=
  let e := leAt p 0 4
  if 1 ≤ e ∧ e ≤ 16 then compatFrom e (p.drop 4) else none

/-- The content check of one section; `cores` are those that earlier FULLER_PROG sections name. -/
def badSection (cores : List Nat) (kind : Nat) (p : List Byte) : Bool :=
  match kind with
  | 1 => !recordsEnd p.length p
  | 2 => !recordsEnd p.length p
  | 3 => !recordsEnd p.length p
  | 4 => badProg p || (maskCores (progOf p).1).any cores.contains
  | 5 => badData p
  | 6 => !recordsEnd p.length p
  | 7 => !recordsEnd p.length p
  | 8 => badReginit p
  | 9 => p.length != 268
  | 10 => badLayoutState p
  | 11 => (compatOf p).isNone
  | _ => false
/-- The first section whose fixed content breaches its rule. -/
def contentFault : Nat → List Nat → List (Nat × List Byte) → Option Nat
  | _, _, [] => none
  | i, cores, (k, p) :: ss =>
    if badSection cores k p then some i else contentFault (i + 1) (if k = 4 then cores ++ maskCores (progOf p).1 else cores) ss

/-- A gate of R120's table, its index in range. -/
def gateOk : Gate → Bool
  | .always => true
  | .detector d => decide (d < 8192)
  | .voice v => decide (v < 1024)
  | .contact c => decide (c < 8)
  | .host g => decide (g < 256)
  | .ptt m => decide (m < 4)
  | .reserved _ => false
/-- The matrix inputs that a selector feeds. -/
def selFeeds (st : Structure) (k : Nat) : List Nat := (st.miSrc.filter (fun q => q.2 == .sel k)).map (·.1)
/-- The candidates of a selector that the loader accepts (R119, R120): none waits for the detector of the input that the selector feeds. -/
def selOk (st : Structure) (k : Nat) (i : SelInfo) : Bool :=
  decide (2 ≤ i.cands.length) && decide (i.cands.length ≤ 16) && decide (1 ≤ i.fade) && decide (i.fade ≤ 64)
    && i.cands.all (fun c => gateOk c.gate && !(selFeeds st k).any (fun m => c.gate == .detector m)) && (match i.idle with
      | some c => decide (c < i.cands.length)
      | none => true)
/-- Numbers below a bound, none of them twice. -/
def distinctBelow (n : Nat) (xs : List Nat) : Bool := xs.all (fun x => decide (x < n)) && xs.dedup.length == xs.length
/-- The matrix outputs that bus returns carry (R115). -/
def busReturns (st : Structure) : List Nat :=
  (st.miSrc.filterMap (fun q => match q.2 with
    | .bus o => some o
    | _ => none) ++ st.selectors.flatMap (fun i => i.cands.filterMap (fun c => match c.src with
    | .bus o => some o
    | _ => none))).dedup
/-- What breaches a limit in GRAPH (R115, R117, R120, R143, R254, R291, R480), in the areas that a core has (R198, R204, R205) among it. -/
def graphFault (half : Nat) (st : Structure) : Bool :=
  !distinctBelow half (st.strips.map (·.1)) || !distinctBelow 4096 (st.outStrips.map (·.1)) || !distinctBelow half (st.miSrc.map (·.1))
    || (st.sinks.map (·.1)).dedup.length != st.sinks.length || decide (1024 < (busReturns st).length)
    || decide (256 < st.rets.length) || decide (2 < st.rooted.dedup.length) || st.recs.any (fun r => !gateOk r.gate)
    || !distinctBelow 512 (st.rxStreams.map (·.1)) || !distinctBelow 512 (st.txStreams.map (·.1))
    || (st.rxStreams ++ st.txStreams).any (fun q => decide (q.2 < 1) || decide (64 < q.2))
    || !distinctBelow 64 (st.cores.map (·.1))
    || st.cores.any (fun q => decide (8192 < q.2.setLen) || q.2.setLen % 64 != 0 || decide (65536 < q.2.setOff + 2 * q.2.setLen)
      || decide (16384 < q.2.winInLen) || q.2.winInLen % 64 != 0 || q.2.winInOff % 64 != 0 || decide (65536 < q.2.winInOff + 2 * q.2.winInLen)
      || decide (16384 < q.2.winOutLen) || q.2.winOutLen % 64 != 0 || q.2.winOutOff % 64 != 0 || decide (65536 < q.2.winOutOff + q.2.winOutLen))
/-- What breaches R142: TILEMAP binds every matrix input and every matrix output to a slot of its own. -/
def tilemapFault (half : Nat) (st : Structure) : Bool :=
  let slots (wide : Nat) (ps : List (Nat × (Nat × Nat))) : Bool :=
    ps.all (fun p => decide (p.2.1 < 16) && decide (p.2.2 < wide)) && (ps.map (fun p => p.2.1 * 512 + p.2.2)).dedup.length == ps.length
  !(distinctBelow half (st.miPos.map (·.1)) && st.miPos.length == half && slots (half / 16) st.miPos
    && distinctBelow 4096 (st.moPos.map (·.1)) && st.moPos.length == 4096 && slots 256 st.moPos)
/-- What breaches a limit of RINGMAP (R115, R125, R133). -/
def ringmapFault (rate96 : Bool) (st : Structure) : Bool :=
  let tick := if rate96 then 32 else 16
  decide (4096 < st.lines.length) || decide (1024 < st.voices) || decide (512 < st.recs.length)
    || st.lines.any (fun l => decide (l.len < 2) || decide (l.size < l.len) || decide ((if rate96 then 24000 else 48000) < l.size)
      || (l.delay != 0 && (decide (l.delay < tick) || decide (l.len * tick - tick < l.delay))))
/-- The limits on a structure, as the kinds of the sections that breach them: GRAPH, SELECTOR, TILEMAP, RINGMAP. -/
def structureFaults (rate96 : Bool) (st : Structure) : List Nat :=
  let half := if rate96 then 4096 else 8192
  (if graphFault half st then [1] else [])
    ++ (if decide (2048 < st.selectors.length) || (st.selectors.zipIdx).any (fun q => !selOk st q.2 q.1) then [2] else [])
    ++ (if tilemapFault half st then [3] else []) ++ (if ringmapFault rate96 st then [7] else [])
/-- Whether a section names a Heartwood source or sink (USES_HWD, R87). -/
def usesHwd (st : Structure) : Bool :=
  let mic : PortSrc → Bool
    | .mic _ => true
    | _ => false
  st.strips.any (fun q => mic q.2) || st.cores.any (fun q => q.2.inPorts.any (fun p => mic p.2))
    || st.rets.any (fun r => (r.input.map mic).getD false)
    || st.sinks.any (fun q => match q.1 with
      | .hw _ => true
      | _ => false)
/-- The table index of the first section of a kind, 0xFF without one. -/
def kindIndex : Nat → Nat → List (Nat × List Byte) → Nat
  | _, _, [] => 0xFF
  | i, k, (j, _) :: ss => if j = k then i else kindIndex (i + 1) k ss
/-- The sections that stand for the structure, their padding dropped, by table index. -/
def structural : Nat → List (Nat × List Byte) → List (Nat × Nat × List Byte)
  | _, [] => []
  | i, (k, p) :: ss => if kindRecords k then (i, k, recordsKept p.length p) :: structural (i + 1) ss else structural (i + 1) ss
/-- The structure an image stands for, its streams in ascending order; else the table index of the first section whose content breaches a rule. -/
def structureOf (rate96 : Bool) (ss : List (Nat × List Byte)) : Except Nat Structure :=
  let parts := structural 0 ss
  match Config.imageStructure rate96 (parts.map (·.2)) with
  | .error i => .error (nth 0xFF (parts.map (·.1)) (i % parts.length))
  | .ok st =>
    match structureFaults rate96 st with
    | [] =>
      let up (xs : List (Nat × Nat)) : List (Nat × Nat) := foldS (fun m (q : Nat × Nat) => spPut m q.1 q.2) [] xs
      .ok { st with rxStreams := up st.rxStreams, txStreams := up st.txStreams }
    | ks => .error (foldS (fun m k => min m (kindIndex 0 k ss)) 0xFF ks)
/-- CONTENT of one section or another: the lowest table index that breaches (R547), else the structure. -/
def contentOf (rate96 : Bool) (ss : List (Nat × List Byte)) : Except Nat Structure :=
  match contentFault 0 [] ss, structureOf rate96 ss with
  | none, r => r
  | some i, .error j => .error (min i j)
  | some i, .ok _ => .error i
/-- The payload of the first section of a kind. -/
def kindPayload (k : Nat) : List (Nat × List Byte) → Option (List Byte)
  | [] => none
  | (j, p) :: ss => if j = k then some p else kindPayload k ss

/-! ## Digests, budgets and DRAM (R21, R93, R94) -/

/-- The structural kinds. -/
def kindStructural (k : Nat) : Bool := k == 1 || k == 2 || k == 3 || k == 4 || k == 7 || k == 8 || k == 9 || k == 10
/-- SSIG recomputed. -/
def ssigOf (ss : List (Nat × List Byte)) : List Byte :=
  sha256 ((ss.filter (fun s => kindStructural s.1)).flatMap (fun s => leBytes 2 s.1 ++ leBytes 4 s.2.length ++ s.2))
/-- FPRINT recomputed. -/
def fprintOf (ss : List (Nat × List Byte)) : List Byte := sha256 ((kindPayload 10 ss).getD [])
/-- The 67 words of the BUDGET section. -/
def budgetOf (ss : List (Nat × List Byte)) : List Nat := (wordsOf 67 ((kindPayload 9 ss).getD [])).map (·.toNat)
def badBudget (b : List Nat) : Bool :=
  (b.take 64).any (fun c => decide (396000 < c)) || decide (4800000 < nth 0 b 64) || decide (4800000 < nth 0 b 65) || nth 0 b 66 != 0
/-- The RINGMAP's objects as base and size in bytes. -/
def ringObjects (rate96 : Bool) (st : Structure) : List (Nat × Nat) :=
  (((st.lines.map (fun (i : LineInfo) => (i.base, (if rate96 then 128 else 64) * i.size)) ++ st.recs.map (fun (i : RecInfo) => (i.base, i.size))
    ++ [(st.clipBase, st.clipSize), (st.sceneBase, st.sceneSize)]).filter (fun (r : Nat × Nat) => r.2 != 0)) : List (Nat × Nat))
/-- The DRAM check: an object in reserved DRAM names RINGMAP; DRAM_NEED against the installed DRAM or the objects 0xFF. Where RINGMAP names no object, R94 gives no highest address: DRAM_NEED
is then held to the installed DRAM only (DESIGN CHOICE, log entry 71). -/
def dramFault (t : ImgTarget) (rate96 : Bool) (st : Structure) (need : Nat) (ss : List (Nat × List Byte)) : Option ImgFault :=
  let os := ringObjects rate96 st
  if os.any (fun r => decide (r.1 < 0x04000000)) then some { code := 0x4C, sec := kindIndex 0 7 ss }
  else if t.dram < need ∨ (os ≠ [] ∧ foldS (fun m (r : Nat × Nat) => max m (r.1 + r.2)) 0 os ≠ need) then some { code := 0x4C, sec := 0xFF }
  else none

/-! ## The checks in order (R97) -/

/-- The image that passed. -/
def mkImage (bs : List Byte) (ss : List (Nat × List Byte)) (st : Structure) (ssig fprint : List Byte) : Image :=
  { generation := w32 (imgField bs 0x10 4), length := imgField bs 8 4, rate96 := imgField bs 0x0E 2 % 2 == 1, ssig := ssig, fprint := fprint,
    structure' := st, progs := (ss.filter (fun s => s.1 == 4)).map (fun s => progOf s.2),
    datas := (ss.filter (fun s => s.1 == 5)).map (fun s => dataOf s.2), reginit := pairsOf ((kindPayload 8 ss).getD []),
    budget := budgetOf ss, regions := regionsOf ((kindPayload 10 ss).getD []), compat := ((kindPayload 11 ss).bind compatOf).getD [] }

/-- A refusal that knows the digests, or nothing yet. -/
def refuse (code sec : Nat) (k : ImgKnown) : ImgKnown × Except ImgFault Image := (k, .error { code := code, sec := sec })
/-- The first payload whose CRC is wrong. -/
def crcFault (bs : List Byte) : Nat → List SecEntry → Option Nat
  | _, [] => none
  | i, e :: es => if crc32c (payload bs e) ≠ e.crc then some i else crcFault bs (i + 1) es

/-- The checks from CONTENT on. -/
def checkContent (t : ImgTarget) (bs : List Byte) (ss : List (Nat × List Byte)) (k : ImgKnown) : ImgKnown × Except ImgFault Image :=
  let flags := imgField bs 0x0E 2
  let rate96 := flags % 2 == 1
  match contentOf rate96 ss with
  | .error i => refuse 0x48 i k
  | .ok st =>
    if (leAt ((kindPayload 10 ss).getD []) 0 4 == 1) != rate96 || (flags / 2 % 2 == 1) != usesHwd st
        || (flags / 4 % 2 == 1) != (kindPayload 11 ss).isSome then refuse 0x48 0xFF k
    else
      let ssig := ssigOf ss
      let fprint := fprintOf ss
      let k := { k with ssig := ssig, fprint := fprint }
      if ssig ≠ slice bs 0x20 32 then refuse 0x49 0xFF k
      else if fprint ≠ slice bs 0x40 32 then refuse 0x4A 0xFF k
      else if badBudget (budgetOf ss) then refuse 0x4B (kindIndex 0 9 ss) k
      else
        match dramFault t rate96 st (imgField bs 0x60 8) ss with
        | some f => (k, .error f)
        | none => if flags / 2 % 2 = 1 ∧ t.variantA = false then refuse 0x4D 0xFF k else (k, .ok (mkImage bs ss st ssig fprint))

/-- The checks of R97 on an image's bytes, with what is known of it when they end. -/
def checkImage (t : ImgTarget) (bs : List Byte) : ImgKnown × Except ImgFault Image :=
  let k0 : ImgKnown := { gen := 0, ssig := [], fprint := [] }
  let magic : List Byte := [0x48, 0x56, 0x42, 0x49]
  if bs.length < 256 then (if 4 ≤ bs.length ∧ bs.take 4 ≠ magic then refuse 0x40 0xFF k0 else refuse 0x44 0xFF k0)
  else if bs.take 4 ≠ magic then refuse 0x40 0xFF k0
  else if crc32c (bs.take 0xFC) ≠ w32 (imgField bs 0xFC 4) then refuse 0x41 0xFF k0
  else if badFormat bs then refuse 0x42 0xFF k0
  else if badTarget t bs then refuse 0x43 0xFF k0
  else
    let k := { k0 with gen := w32 (imgField bs 0x10 4) }
    if badLayout bs then refuse 0x44 0xFF k
    else if crc32c (slice bs 0x100 (16 * imgField bs 0x0C 2)) ≠ w32 (imgField bs 0xF8 4) then refuse 0x45 0xFF k
    else
      let es := secTable bs
      match crcFault bs 0 es with
      | some i => refuse 0x46 i k
      | none =>
        match kindFault 0 [] es with
        | some f => (k, .error f)
        | none => checkContent t bs (es.map (fun e => (e.kind, payload bs e))) k

/-! ## Graft compatibility (R107, R108) -/

/-- The region of an ID. -/
def regionById (rs : List Region) (id : Nat) : Option Region := rs.find? (fun r => r.id == id)
/-- One rule of R108 against both layouts. -/
def ruleOk (old new : List Region) (r : Nat × Nat) : Bool :=
  match regionById old r.1, regionById new r.2 with
  | some a, some b => a.kind == b.kind && (if a.kind < 3 then decide (a.size ≤ b.size) else a.base == b.base && a.size == b.size)
  | _, _ => false
/-- How the running state is carried: every region by ID for equal fingerprints, else the rules of a COMPAT entry that pass; none where N may not be grafted onto O. -/
def graftMap (o n : Image) : Option (List (Nat × Nat)) :=
  if n.fprint = o.fprint then some (o.regions.map (fun r => (r.id, r.id)))
  else
    (n.compat.find? (fun e => e.fprint == o.fprint && e.rules.all (ruleOk o.regions n.regions) && !repeats (e.rules.map (·.1))
      && !repeats (e.rules.map (·.2)))).map (·.rules)

end Sys2Proof.Machine
end

