-- ==== Sys2Proof/Machine/ImgLoad.lean ====
section
/-! DEFINITION. Block images (chapter 03): phase 1 with its refusals, the twins' agreement, phase 2 with its distribution and restart, and the
graft. -/

namespace Sys2Proof.Machine

def State.modImg (s : State) (f : ImgSt → ImgSt) : State := { s with img := f s.img }

/-! ## Phase 1 (R95 to R97, R102, R103) -/

/-- What an image is checked against. -/
def State.imgTarget (s : State) : ImgTarget := { variantA := s.fit.variantA, dram := s.dramSize }
/-- A digest as eight words. -/
def digestWords (d : List Byte) : List W32 := (upFrom 0 8).map (fun i => w32 (leAt d (4 * i) 4))
/-- Result words 1 to 17. -/
def imgWords (k : ImgKnown) : List W32 := k.gen :: (digestWords k.ssig ++ digestWords k.fprint)
/-- What is known of an image that passed. -/
def Image.known (i : Image) : ImgKnown := { gen := i.generation, ssig := i.ssig, fprint := i.fprint }
/-- No load or graft stands. -/
def State.imgIdle (s : State) : State := s.modImg (fun p => { p with phase := .idle, slot := none, staged := none, carry := [], partnerCode := none })

/-- A load or graft of a slot is refused: every result word is written, the staging area is given up (R97, R103). -/
def State.imgRefuse (s : State) (k code sec : Nat) (known : ImgKnown) : State :=
  ((s.imgIdle.imgFailed 0 code sec).resultWrite k (imgWords known ++ [3, w32 (sec * 256 + code), 0])).jobFin k code
/-- A load in the pair: both twins take part in it (R106). -/
def State.pairLoads (s : State) : Bool := s.inPair && s.twn.linkUp && (s.twn.role == .standby || s.twn.partnerStep)
/-- A refusal of phase 1, which a twin reports to its partner. -/
def State.imgRefuseTell (s : State) (k code sec : Nat) (known : ImgKnown) : State :=
  (s.imgRefuse k code sec known).when (s.pairLoads) (·.emit (.twin 13 [code]))

/-- The bytes of the staging area: as many as the header gives, 512 where it gives no legal length; none where they cannot be read. -/
def State.readStaging (s : State) : State × Option (List Byte) :=
  let n := leNat (s.dramPeek 8 4)
  let r := s.engineRead 0 (if 512 ≤ n ∧ n ≤ 16777216 then n else 512) 1 false
  (r.1, if r.2.2 then none else some r.2.1)
/-- The loader resets the boot flash and reads SFDP (R104). -/
def State.flashOpen (s : State) : State := ((s.emit (.flash (.command 0x66))).emit (.flash (.command 0x99))).emit (.flash .sfdp)
/-- The byte of the flash at which a slot begins (R104). -/
def flashBase (slot : Nat) : Nat := 0x1000000 * slot
/-- The bytes a source supplies; none for SOURCE: a flash without a supported read, a DMA that fails, a staging area that cannot be read. -/
def State.imgSource (s : State) (src : Nat) (bytes : Option (List Byte)) : State × Option (List Byte) :=
  if src < 2 then
    (s.flashOpen.when bytes.isSome (·.emit (.flash (.read (flashBase src)))), if s.dram.frozen || decide (s.dramSize < 16777216) then none else bytes)
  else if s.dram.frozen || decide (s.dramSize < 16777216) then (s, none)
  else if src = 3 then s.readStaging
  else (s, if s.pcie then bytes else none)

/-- What the twins' agreement comes to (R106, R107): an ERROR of R97, else the regions that a graft carries. -/
def State.imgAgreed (s : State) (k : Nat) (i : Image) (c : Nat) : Except Nat (List (Nat × Nat)) :=
  if c ≠ 0 then .error c
  else if s.img.ssig1 ≠ i.ssig ∨ s.img.fprint1 ≠ i.fprint then .error 0x50
  else if (s.slot k).kind = 1 then .ok []
  else
    match s.img.running with
    | none => .error 0x51
    | some o =>
      if o.rate96 ≠ i.rate96 then .error 0x52
      else match graftMap o i with
        | none => .error 0x53
        | some rs => .ok rs
/-- The boundary T of a load or t1 of a graft is named. -/
def State.imgNamed (s : State) (k t : Nat) (rs : List (Nat × Nat)) : State :=
  if (s.slot k).kind = 1 then s.modImg (fun p => { p with partnerCode := none, phase := .armed t })
  else s.modImg (fun p => { p with partnerCode := none, phase := .graftT1 t, carry := rs, oldImage := p.running })
/-- With both reports in (R106, R107) the load or graft is refused, or the active names its boundary: the first that lies 2 ticks after the later
report (log entry 72). The standby waits for the active's naming, which `named` brings. -/
def State.imgDecide (s : State) (named : Option Nat) : State :=
  match s.img.phase, s.img.slot, s.img.staged, s.img.partnerCode with
  | .reported, some k, some i, some c =>
    (match s.imgAgreed k i c with
     | .error e => s.imgRefuse k e 0xFF i.known
     | .ok rs =>
       if s.twn.role = .active then (s.imgNamed k (s.tickN + 3) rs).emit (.twin 15 [s.tickN + 3])
       else match named with
         | some t => s.imgNamed k t rs
         | none => s)
  | _, _, _, _ => s

/-- An image that has passed every check of R97: staged, its digests in the result window, reported in a pair, else armed for the next boundary. -/
def State.imgStage (s : State) (k src : Nat) (bytes : List Byte) (i : Image) : State :=
  let s := if src = 3 then s else s.engineWrite 0 bytes
  let s := (s.resultWrite k (imgWords i.known)).modImg (fun p => { p with slot := some k, staged := some i, stagedSrc := src })
  if s.pairLoads then
    ((s.modImg (fun p => { p with phase := .reported })).emit (.twin 13 [0, leNat i.ssig, leNat i.fprint])).imgDecide none
  else s.modImg (fun p => { p with phase := .armed (s.tickN + 1) })

/-- Phase 1 of a running job. -/
def State.imgPhase1 (s : State) (k : Nat) (bytes : Option (List Byte)) : State :=
  let j := s.slot k
  let graft := j.kind.toNat == 2
  let r := s.imgSource (fld (j.arg 0) 3 0) bytes
  match r.2 with
  | none => r.1.imgRefuseTell k 0x4E 0xFF { gen := 0, ssig := [], fprint := [] }
  | some bs =>
    let s := r.1.jobProgress k (bs.length / 1024)
    match checkImage s.imgTarget bs with
    | (known, .error f) => s.imgRefuseTell k f.code f.sec known
    | (_, .ok i) =>
      let trusted := s.trustedSsig i.ssig
      if !graft && !j.granted && !(s.img.shown.isNone && trusted) then (s.deny 1 2 (jobCmdA k)).imgRefuseTell k 0x03 0xFF i.known
      else if s.bit IMG_TRUST_CTL 0 && !trusted then s.imgRefuseTell k 0x4F 0xFF i.known
      else if graft && !s.pairLoads then s.imgRefuse k 0x51 0xFF i.known
      else s.imgStage k (fld (j.arg 0) 3 0) bs i

/-- A load or graft may begin its phase 1: its job runs and none stands. -/
def State.imgReady (s : State) (k kind : Nat) : Bool :=
  s.runsJob k kind && (s.slot k).fin.isNone && s.img.slot.isNone && s.img.phase == .idle
/-- The abort of a load or graft in phase 1: state 5, OUTCOME 4 (R101, R103). -/
def State.imgAbort (s : State) (k : Nat) : State :=
  let known := match s.img.staged with
    | some i => i.known
    | none => { gen := 0, ssig := [], fprint := [] }
  ((s.imgIdle).resultWrite k (imgWords known ++ [4, 0, 0])).jobAborted k
/-- Phase 1 of a slot's load or graft, which begins where it can: its source has been read and is checked, unless an ABORT is taken first. -/
def State.imgRun (s : State) (k kind : Nat) (bytes : Option (List Byte)) : State :=
  let t := s.jobTryBegin k
  if !t.imgReady k kind then s
  else if (s.slot k).st = .queued ∧ t.dram.frozen then t.jobFrozen k
  else if (t.slot k).abortReq then t.imgAbort k
  else t.imgPhase1 k bytes
/-- IMG_LOAD: phase 1 of a load. -/
def execImgLoad (slot : Fin 16) (bytes : Option (List Byte)) (s : State) : Host.Outcome State Fault Refusal := doneCore s (s.imgRun slot.val 1 bytes)
/-- GRAFT: phase 1 of a graft. -/
def execGraft (slot : Fin 16) (bytes : Option (List Byte)) (s : State) : Host.Outcome State Fault Refusal := doneCore s (s.imgRun slot.val 2 bytes)
/-- IMG_DMA_TIMEOUT: a DMA read of source 2 has had no completion for 50 ms. -/
def execImgDmaTimeout (slot : Fin 16) (s : State) : Host.Outcome State Fault Refusal :=
  doneCore s (
    let k := slot.val
    if (s.imgReady k 1 || s.imgReady k 2) && fld ((s.slot k).arg 0) 3 0 == 2 && s.pcie then
      s.imgRefuseTell k 0x4E 0xFF { gen := 0, ssig := [], fprint := [] }
    else s)
/-- IMG_TWIN_REPORT: the partner's digests, the ERROR its image was refused with, or the boundary that the active names. -/
def execImgTwinReport (ssig fprint : List Byte) (reply : ImgReply) (s : State) : Host.Outcome State Fault Refusal :=
  doneCore s (
    if !s.twn.linkUp then s
    else match reply with
      | .boundary t => s.imgDecide (some t)
      | .verdict code =>
        let loads := !(s.slotsWith (fun j => j.busy && (j.kind == 1 || j.kind == 2) && j.fin.isNone)).isEmpty
        let t := if code = 0 then
            (s.modImg (fun p => { p with ssig1 := ssig, fprint1 := fprint })).modTwn (fun x => { x with partnerImage := true })
          else s
        (t.modImg (fun p => { p with partnerCode := if loads then some code.toNat else p.partnerCode })).imgDecide none)

/-! ## Distribution (R91, R98, R136, R150, R367) -/

/-- Bytes written into a memory of words from a byte offset on. -/
def putWordBytes (m : Sparse W32) (off : Nat) : List Byte → Sparse W32
  | [] => m
  | b :: bs =>
    let w := off / 4
    putWordBytes (spSet 0 m w (putFld (spGet 0 m w) (8 * (off % 4) + 7) (8 * (off % 4)) b.toNat)) (off + 1) bs
/-- Words of a parameter set from a word offset on. -/
def putParams (m : Sparse W32) (w : Nat) (ps : List (Nat × W32)) : Sparse W32 := foldS (fun m (q : Nat × W32) => spSet 0 m (w + q.1) q.2) m ps
/-- A core as the image sets it up: its program, its initial data, its parameter sets. -/
def coreOf (i : Image) (k : Nat) : Core :=
  let prog := (i.progs.find? (fun (q : W64 × List W64) => q.1.getLsbD k)).map (fun (q : W64 × List W64) => q.2)
  let data (mem : Nat) : Sparse W32 := foldS (fun m (d : Nat × Nat × Nat × List Byte) =>
    if d.1 = k ∧ d.2.1 = mem then putWordBytes m d.2.2.1 d.2.2.2 else m) [] i.datas
  let y := data 1
  let y := match spFind i.structure'.cores k with
    | none => y
    | some c => putParams (putParams y (c.setOff / 4) (spGet [] i.structure'.live.params k)) ((c.setOff + c.setLen) / 4)
        (spGet [] i.structure'.shadow.params k)
  { coreInit with p := spSetAll 0 [] 0 (prog.getD []), len := (prog.getD []).length, x := data 0, y := y }
/-- A bank of gain words: 0x7FFF where PARAM sets none. -/
def bankOf (gs : List (Nat × W16)) : Sparse W16 := foldS (fun m (q : Nat × W16) => spSet 0x7FFF m q.1 q.2) [] gs
/-- The detectors of a bank. -/
def detsOf (ds : List (Nat × (Nat × Nat))) : Sparse DetCfg := foldS (fun m (q : Nat × (Nat × Nat)) => spSet detDefault m q.1 { thr := q.2.1, hold := q.2.2 }) [] ds
/-- The scaling modes of a bank. -/
def sclsOf (ms : List (Nat × Nat)) : Sparse Nat := foldS (fun m (q : Nat × Nat) => spSet 0 m q.1 q.2) [] ms
/-- The Canopy after phase 2: both banks as PARAM sets them, no flag, no swap. -/
def canopyOf (st : Structure) : CanopySt :=
  { resetCanopy with gainLive := bankOf st.live.gains, gainShadow := bankOf st.shadow.gains, detLive := detsOf st.live.dets,
                     detShadow := detsOf st.shadow.dets, sclLive := sclsOf st.live.scls, sclShadow := sclsOf st.shadow.scls }

/-- Whether an address is a CTL whose ENABLE a write sets. -/
def ctlEnable (a : Nat) : Bool :=
  match locate a with
  | some (_, off) => off == 4 && (match specAt a with
    | some r => bitOf r.rw 0
    | none => false)
  | none => false
/-- A pair that enables its block. -/
def pairEnables (q : W32 × W32) : Bool := ctlEnable q.1.toNat && bitOf q.2 0
/-- One pair of REGINIT: an enable is kept for the restart, in place of an earlier one of its block; a later pair that disables the block drops it. -/
def State.reginitPair (s : State) (q : W32 × W32) : State :=
  let drop (t : State) : State := t.modImg (fun p => { p with heldEnables := p.heldEnables.filter (fun h => h.1 != q.1) })
  if pairEnables q then
    (drop (s.when (q.2 &&& 0xFFFFFFFE != 0) (·.regWrite 4 q.1.toNat (q.2 &&& 0xFFFFFFFE)))).modImg (fun p => { p with heldEnables := p.heldEnables ++ [q] })
  else (s.when (ctlEnable q.1.toNat) drop).regWrite 4 q.1.toNat q.2
/-- REGINIT: the blocks it enables are held disabled, the pairs are taken in order (R91, R98). -/
def State.reginit (s : State) (pairs : List (W32 × W32)) : State :=
  let s := foldS (fun (t : State) (q : W32 × W32) => t.unflag q.1.toNat 0) s (pairs.filter pairEnables)
  foldS State.reginitPair (s.modImg (fun p => { p with heldEnables := [] })) pairs
/-- Held enables take effect. TIM_CTL.SET has acted with its pair. -/
def State.heldApply (s : State) : State :=
  (foldS (fun (t : State) (q : W32 × W32) => t.regWrite 4 q.1.toNat (if q.1.toNat = TIM_CTL then q.2 &&& 0xFFFFFFFB else q.2)) s s.img.heldEnables).modImg
    (fun p => { p with heldEnables := [] })
/-- The streams an image binds, their buffers cleared. -/
def State.streamsKept (s : State) (st : Structure) : Sparse Stream :=
  (s.net.streams.filter (fun q => (st.rxStreams.any (fun r => r.1 == q.1)) || st.txStreams.any (fun r => r.1 + 1024 == q.1))).map
    (fun q => (q.1, { q.2 with jitter := [], seen := [] }))

/-- An image is distributed: every on-chip memory but the result windows is cleared, then the sections are loaded and REGINIT applied. -/
def State.distribute (s : State) (i : Image) : State :=
  let old := s.struct
  let st := i.structure'
  let s := ((s.clearAll true).portsClear).coresRevived
  let s := { s with
    graph := { graphInit s.graph old st with dma := s.graph.dma }
    canopy := canopyOf st
    cores := (coreNums.filter (fun k => i.progs.any (fun (q : W64 × List W64) => q.1.getLsbD k) || i.datas.any (fun d => d.1 == k)
      || (spFind st.cores k).isSome)).map (fun k => (k, coreOf i k))
    net := { s.net with streams := s.streamsKept st } }
  (s.modImg (fun p => { p with running := some i })).reginit i.reginit
/-- The IMG registers show the image that runs. -/
def State.imgShow (s : State) (src : Nat) : State := s.modImg (fun p => { p with shown := p.running, source := src })

/-- Phase 2 begins at T, in place of step 8 (R98, R100): the jobs that end, and every port stops. -/
def State.phase2Begin (s : State) (b : Nat) : State :=
  let s := (s.jobsStop [3, 4, 7, 8, 9]).portsTick b true
  let lead := foldS (fun n (q : Nat × Port) => max n q.2.leadLeft) 0 s.ports
  s.modImg (fun p => { p with phase := .stopping lead, leadMax := lead })
/-- IMG_LOAD_PHASE2: with the media clock stopped, the memories are cleared and the staged image is distributed. -/
def execImgLoadPhase2 (s : State) : Host.Outcome State Fault Refusal :=
  done s (
    if s.sys.mediaRun then s
    else match s.img.staged, s.img.phase with
    | some i, .armed _ => ((s.jobsStop [3, 4, 7, 8, 9]).distribute i).modImg (fun p => { p with phase := .distributed, leadMax := 0 })
    | some i, .stopping _ => (s.distribute i).modImg (fun p => { p with phase := .distributed })
    | _, _ => s)

/-! ## The restart (R16, R98, R121, R245, R276) -/

/-- The counters load from network time where it is qualified, else they start from zero; ALIGNED says which. -/
def State.loadCounters (s : State) : State :=
  let net := s.tim.qualified
  { s with sys := { s.sys with tick := if net then BitVec.ofNat 64 (tickOf s.tim.now) else 0, aligned := net } }
/-- What step 8 of a boundary does for the ports, the cores, the tiles and the selectors. -/
def State.tickEntry (s : State) (b : Nat) : State := (((s.portsTick b false).enterCores).tileGating).selEvalAll
/-- The media clock starts: the boundary at which it does is the entry of its first tick, in which the emit has silence. -/
def State.mediaStart (s : State) : State :=
  let net := s.tim.qualified
  let s := (s.loadCounters).modTim (fun t => { t with sinceTick := 0 })
  let s := { s with graph := { s.graph with pipe := { s.graph.pipe with emitted := [(s.tickN + 1, [])] } } }
  let s := ({ s with sys := { s.sys with mediaRun := true } }.pllStart net).heldApply
  let s := s.modSys (fun y => { y with cfgPass := s.tickN % 16 == 0, cfgDirty := false })
  let s := s.tickEntry s.tickN
  { s with canopy := { s.canopy with tilesOn := 0 } }
/-- The COMMIT made as the media clock starts: a pass that begins at that boundary is the first after it (DEDUCED, log entry 8). -/
def State.commitMade (s : State) : State := s.modSys (fun y => { y with cfgCommit := if y.cfgPass then 2 else 1 })
/-- IMG_GAP: both leads, the clearing and the distribution, to the nearest µs. -/
def gapUs (lmax lead length : Nat) : Nat := (roundDiv (((lmax + lead) * 2000000 + 7200000 + 3 * length : Nat) : Int) 6000).toNat
/-- Phase 2 has ended: the IMG registers change, the load is counted, its job is done (R98, R101, R103). -/
def State.imgFinish (s : State) : State :=
  match s.img.running with
  | none => s
  | some i =>
    let gap := gapUs s.img.leadMax 0 i.length
    let t := (((s.imgShow s.img.stagedSrc).count IMG_LOADS 1).wr IMG_GAP (w32 gap)).imgIdle
    match s.img.slot with
    | some k =>
      let aborted := (s.slot k).abortReq
      let t := t.resultMore k 18 [w32 (if aborted then 2 else 1), 0, w32 gap]
      if aborted then t.jobAborted k else t.jobFin k 0
    | none => t.modImg (fun p => { p with bgLoad := false })
/-- The start leads of the ports after a restart; phase 2 ends with the longest. -/
def State.imgStarting (s : State) : State :=
  let lead := foldS (fun n (q : Nat × Port) => if q.2.st = .starting then max n q.2.leadLeft else n) 0 s.ports
  let t := s.modImg (fun p => { p with phase := .starting lead, leadMax := p.leadMax + lead })
  if lead = 0 then t.imgFinish else t
/-- A boundary in the start leads after a restart. -/
def State.imgLeadTick (s : State) : State :=
  match s.img.phase with
  | .starting n => if n ≤ 1 then s.imgFinish else s.modImg (fun p => { p with phase := .starting (n - 1) })
  | _ => s
/-- IMG_MEDIA_RESTART: the media clock starts with the new image; COMMIT is made; the start leads begin. -/
def execImgMediaRestart (s : State) : Host.Outcome State Fault Refusal :=
  done s (
    match s.img.phase with
    | .distributed =>
      (s.mediaStart.commitMade.modTwn (fun x => { x with digests := [], digestsP := [], bundles := [], orphans := [] })).imgStarting
    | _ => s)

/-! ## The graft (R107 to R111) -/

/-- A graft ends with PARTNER_LOST: no takeover is possible, the running image stays. -/
def State.graftLost (s : State) : State :=
  match s.img.slot, s.img.staged with
  | some k, some i => (s.modTwn (fun x => { x with suspended := false })).imgRefuse k 0x54 0xFF i.known
  | _, _ => s
/-- Boundary t1: the standby takes up N on its own engine, with no effect on outputs; the active continues alone. -/
def State.graftBegin (s : State) : State :=
  match s.img.staged with
  | none => s
  | some i =>
    if !s.twn.linkUp || (s.twn.role == .active && !s.twn.partnerStep) || (s.twn.role != .active && s.twn.role != .standby) then s.graftLost
    else
      let t := s.modTwn (fun x => { x with suspended := true })
      if s.twn.role = .active then t
      else (((t.modTwn (fun x => { x with role := .grafting })).distribute i).heldApply).imgShow 4
/-- GRAFT_T1: the boundary named t1 is the coming one. -/
def execGraftT1 (s : State) : Host.Outcome State Fault Refusal :=
  done s (
    match s.img.phase with
    | .graftT1 t => if t = s.tickN + 1 ∧ !s.twn.suspended then s.graftBegin else s
    | _ => s)

/-- The bytes of a region of words of a copy. -/
def copyWords (m : Sparse W32) (base size : Nat) : List Byte :=
  (upFrom base size).map (fun o => BitVec.ofNat 8 ((spGet 0 m (o / 4)).toNat / 2 ^ (8 * (o % 4))))
/-- A core of a copy. -/
def coreIn (c : StateCopy) (k : Nat) : Core := spGet coreInit c.cores k
/-- A carried region of X, Y or the pool: its bytes, and zeros in the tail. -/
def State.carryRegion (s : State) (c : StateCopy) (a b : Region) : State :=
  let tail : List Byte := List.replicate (b.size - a.size) 0
  match a.kind with
  | 0 => s.setCore b.core { s.core b.core with x := putWordBytes (s.core b.core).x b.base (copyWords (coreIn c a.core).x a.base a.size ++ tail) }
  | 1 => s.setCore b.core { s.core b.core with y := putWordBytes (s.core b.core).y b.base (copyWords (coreIn c a.core).y a.base a.size ++ tail) }
  | 2 => s.poolWr b.base ((upFrom a.base a.size).map (fun o => spGet 0 c.pool o) ++ tail)
  | _ => s
/-- The run state of the delay lines and recorder channels whose regions are carried in place. -/
def carryGraph (g : GraphSt) (c : GraphSt) (o n : Structure) (bases : List Nat) : GraphSt :=
  let lineAt (base : Nat) : Option Nat := ((upFrom 0 o.lines.length).find? (fun i => ((o.lines.drop i).head?.map (·.base)) == some base))
  let recAt (base : Nat) : Option Nat := ((upFrom 0 o.recs.length).find? (fun i => ((o.recs.drop i).head?.map (·.base)) == some base))
  { g with
    lines := (foldS (fun (p : Sparse LineState × Nat) (i : LineInfo) =>
      (match (if bases.contains i.base then lineAt i.base else none) with
       | some k => spPut p.1 p.2 (spGet noLine c.lines k)
       | none => p.1, p.2 + 1)) (g.lines, 0) n.lines).1
    recs := (foldS (fun (p : Sparse Recorder × Nat) (i : RecInfo) =>
      (match (if bases.contains i.base then recAt i.base else none) with
       | some k => spPut p.1 p.2 (spGet noRecorder c.recs k)
       | none => p.1, p.2 + 1)) (g.recs, 0) n.recs).1
    voices := if bases.contains n.clipBase then c.voices else g.voices
    sels := c.sels
    pris := c.pris
    contacts := c.contacts
    ptts := c.ptts }
/-- The parameter sets of a core, each carried word for word. -/
def State.carryParams (s : State) (c : StateCopy) (o : Structure) (p : Nat × CoreInfo) : State :=
  match spFind o.cores p.1 with
  | none => s
  | some old =>
    let n := min old.setLen p.2.setLen
    let y := putWordBytes (s.core p.1).y p.2.setOff (copyWords (coreIn c p.1).y old.setOff n)
    s.setCore p.1 { s.core p.1 with y := putWordBytes y (p.2.setOff + p.2.setLen) (copyWords (coreIn c p.1).y (old.setOff + old.setLen) n) }
/-- The state map of a graft applied to N (R108, R109). -/
def State.graftApply (s : State) (o n : Image) (c : StateCopy) : State :=
  let pairs := s.img.carry.filterMap (fun r => match regionById o.regions r.1, regionById n.regions r.2 with
    | some a, some b => some (a, b)
    | _, _ => none)
  let s := foldS (fun (t : State) (q : Region × Region) => t.carryRegion c q.1 q.2) s pairs
  let s := { s with dram := { s.dram with mem := foldS (fun m (q : Nat × Byte) => spSet 0 m q.1 q.2) s.dram.mem c.dram } }
  let s := foldS (fun (t : State) p => t.carryParams c o.structure' p) s n.structure'.cores
  let bases := (pairs.filter (fun (q : Region × Region) => decide (3 ≤ q.1.kind))).map (fun (q : Region × Region) => q.2.base)
  { s with canopy := c.canopy, graph := carryGraph s.graph c.graph o.structure' n.structure' bases }
/-- GRAFT_STATE_COMPLETE: the state of step 4 is complete in both twins; t2 follows S ticks later. `copy` carries O's state. -/
def execGraftStateComplete (copy : StateCopy) (s : State) : Host.Outcome State Fault Refusal :=
  done s (
    match s.img.phase, s.img.slot, s.img.staged with
    | .graftT1 _, some k, some n =>
      if s.twn.suspended && s.twn.linkUp then
        let settle := ((s.slot k).arg 3).toNat
        let t := (s.jobProgress k ((s.slot k).total + copy.mib)).modImg (fun p => { p with phase := .graftCopied (s.tickN + 1 + settle) })
        if s.twn.role = .grafting then
          (match s.img.oldImage with
           | some o => t.graftApply o n copy
           | none => t)
        else t
      else s
    | _, _, _ => s)

/-- Boundary t2: the planned role swap; the new active runs N, the old one takes up N and resynchronises. -/
def State.graftSwap (s : State) (b : Nat) : State :=
  match s.img.slot, s.img.staged with
  | some _, some n =>
    let t := s.modImg (fun p => { p with phase := .graftSwapped b, takeTick := w32 b })
    if s.twn.role = .grafting then (t.takeover 2).raise 99
    else if s.twn.role = .active then
      let t := t.modTwn (fun x => { x with role := .standby, roleTx := false, partnerStep := false, misses := 0, orphans := [], bundles := [] })
      let t := if t.sys.mediaRun then t.modClk (fun c => { c with pll := .locked, selected := 7, target := 7, wtrLeft := none }) else t
      ((((t.raise 99).distribute n).heldApply).imgShow 4).resyncStart none
    else t
  | _, _ => s
/-- GRAFT_T2: the boundary named t2 is the coming one. -/
def execGraftT2 (s : State) : Host.Outcome State Fault Refusal :=
  done s (
    match s.img.phase with
    | .graftCopied t => if t = s.tickN + 1 then s.graftSwap t else s
    | _ => s)
/-- A twin has failed in a load or graft, as the boundary finds it (R111): the link is gone, or the active is silent. A load whose partner fails before
T is named goes on alone (log entry 73). -/
def State.graftWatch (s : State) (b : Nat) : State :=
  let silent := decide (2 ≤ s.twn.misses) && (s.twn.role == .grafting || s.twn.role == .resyncing)
  match s.img.phase with
  | .reported =>
    if s.pairLoads then s
    else if s.img.slot.any (fun k => (s.slot k).kind == 1) then s.modImg (fun p => { p with partnerCode := none, phase := .armed b })
    else s.graftLost
  | .graftT1 _ => if s.twn.suspended && (silent || (s.twn.role == .active && !s.twn.linkUp)) then
      (if s.twn.role = .grafting then s.modTwn (fun x => { x with role := .outOfStep, oosCause := 4 }) else s).graftLost else s
  | .graftCopied _ =>
    if s.twn.role = .active ∧ !s.twn.linkUp then s.graftLost
    else if silent then ((s.modImg (fun p => { p with phase := .graftSwapped b, takeTick := w32 b })).takeover 0).graftEnd 5 else s
  | .graftSwapped _ => if silent || (s.twn.role == .active && !s.twn.linkUp) then s.graftEnd 5 else s
  | _ => s

end Sys2Proof.Machine
end

