-- ==== Sys2Proof/Machine/Ledger.lean ====
section
/-! DEFINITION. The command ledger (R72 to R76, R426 to R433): acceptance, execution, forwarding between the twins, and the dump. -/

namespace Sys2Proof.Machine

def State.modLedger (s : State) (f : LedgerState → LedgerState) : State := { s with ledger := f s.ledger }

/-! ## Acceptance (R75, R413, R429) -/

/-- LDG_ACC after the acceptance of boundary b: what the own ledger holds where the module accepts alone, what the trailer of the ending tick
carried in a pair. DESIGN CHOICE (log entry 62): a standalone module writes the entry when the record is submitted and accepts it at the boundary that
follows. -/
def State.accAt (s : State) (b : Nat) : Nat :=
  match s.twn.role with
  | .alone => s.accReady false
  | .active => if s.twn.partnerStep && s.twn.linkUp then s.ledger.sent.getD s.ledger.acc else s.accReady false
  | _ => if (s.twn.bundle (b - 1)).whole then min (s.twn.bundle (b - 1)).acc (s.accReady false) else s.ledger.acc
/-- Vector 2, at most once per tick (R45). -/
def State.ledgerVector (s : State) : State :=
  if s.sys.onceTick.contains 1002 then s else { s with sys := { s.sys with onceTick := 1002 :: s.sys.onceTick } }.vector 2
/-- Step 2 of boundary b: LDG_ACC advances, entries take STATE 2. -/
def State.ledgerAccept (s : State) (b : Nat) : State :=
  let n := s.accAt b
  if s.dram.frozen || decide (n ≤ s.ledger.acc) then s
  else
    let new (e : LedgerEntry) : Bool := !e.accepted && decide (e.seq ≤ n)
    let s := foldS (fun (t : State) e => t.entryWrite e 2 0) s (s.ledger.entries.filter new)
    let s := s.modLedger (fun l => { l with acc := n, entries := l.entries.map (fun e => if new e then { e with accepted := true } else e) })
    s.ledgerVector.trace 3 (spaced [txt "T", dec (b % 2 ^ 32), txt "acc", dec n])
/-- LEDGER_ACCEPT: the acceptance of the coming boundary. -/
def execLedgerAccept (s : State) : Host.Outcome State Fault Refusal := doneCore s (if s.sys.mediaRun then s.ledgerAccept (s.tickN + 1) else s)

/-! ## What a command does (R73, R422) -/

/-- The word that a REG_WRITE writes: masked bits from ARG1, unmasked ones as read or 0. -/
def State.mergedWord (s : State) (b : Block) (off : Nat) (v mask : W32) : W32 :=
  match b, jobOffset off with
  | .job, some (k, 0) => s.jobMerged k v mask
  | .job, some (k, r) => if 8 ≤ r ∧ r < 0x18 then (v &&& mask) ||| ((s.slot k).arg ((r - 8) / 4) &&& ~~~mask) else v &&& mask
  | _, _ =>
    (match specAt (blkBase b + off) with
     | some r => (v &&& mask) ||| (s.regVal b off &&& ~~~mask &&& (if b = .hwd ∧ off = 0x30 then 0xFFFFFFFF else r.rw ||| r.cfg ||| r.lk))
     | none => v &&& mask)
/-- Whether every masked bit that the register has falls to the CFG or LK rule. -/
def State.allIgnored (s : State) (b : Block) (off : Nat) (mask : W32) : Bool :=
  match specAt (blkBase b + off) with
  | some r =>
    let lost := (if s.enabled b then r.cfg else 0) ||| (if s.locked b then r.lk else 0)
    mask &&& lost != 0 && mask &&& (s.writable b r ||| r.w1c ||| r.w1s) == 0
  | none => false
/-- REG_WRITE at its named tick: its effect and its OUTCOME. -/
def State.ledgerWrite (s : State) (args : List W32) (granted : Bool) : State × Nat :=
  let addr := (nth 0 args 0).toNat
  match locate addr with
  | none =>
    if s.msixAt addr then
      (match msixKey addr with
       | some k => if k < 16 then (s.msixWrite k ((nth 0 args 1 &&& nth 0 args 2) ||| (s.msixWord k &&& ~~~(nth 0 args 2))), 1) else (s, 1)
       | none => (s, 1))
    else (s.unmappedAt addr, 2)
  | some (b, off) =>
    (s.regWrite (if granted then 1 else 2) addr (s.mergedWord b off (nth 0 args 1) (nth 0 args 2)), if s.allIgnored b off (nth 0 args 2) then 2 else 1)
/-- The effect of a command and its OUTCOME. -/
def State.ledgerOp (s : State) (e : LedgerEntry) : State × Nat :=
  match e.op with
  | 1 => s.ledgerWrite e.args e.granted
  | 2 => (s.swapJoin e.seq (nth 0 e.args 0), 1)
  | 3 => let r := s.announce e.seq (nth 0 e.args 0) (nth 0 e.args 1) (nth 0 e.args 2); (r.1, if r.2 then 1 else 2)
  | 4 => let r := s.roleSwap; (r.1, if r.2 then 1 else 5)
  | _ => (s, 1)

/-! ## Execution (R430) -/

/-- The entry has executed: STATE 3 with its OUTCOME, LDG_EXE. -/
def State.executed (s : State) (b : Nat) (e : LedgerEntry) (outcome : Nat) : State :=
  let t := (s.modLedger (fun l => { l with exe := max l.exe e.seq, entries := l.entries.filter (fun x => x.seq != e.seq) })).entryWrite e 3 outcome
  let t := if s.ledger.exe < e.seq then t.ledgerVector else t
  t.trace 3 (spaced [txt "T", dec (b % 2 ^ 32), txt "exe", dec e.seq, txt "op", dec e.op, txt "out", dec outcome])
/-- A late command is counted (R430). -/
def State.lateCount (s : State) : State := ((s.flag LDG_STAT 2).count LDG_LATE_COUNT 1).raiseOnce 106
/-- An accepted command at step 4 of boundary b. One that resets the module is entered as executed before it acts. -/
def State.ledgerRun (s : State) (b : Nat) (e : LedgerEntry) : State :=
  let late := decide (e.tick < b)
  if late && s.bit LDG_CFG 0 then
    ((s.modLedger (fun l => { l with entries := l.entries.filter (fun x => x.seq != e.seq) })).entryWrite e 4 4).lateCount
  else
    let s := if late then s.lateCount else s
    let out (n : Nat) : Nat := if late then 3 else n
    let r := s.ledgerOp e
    if r.1.sys.phase = s.sys.phase then r.1.executed b e (out r.2) else ((s.executed b e (out 1)).ledgerOp e).1

/-- Whether an entry comes before another: by named tick, then by number. -/
def before (a b : LedgerEntry) : Bool := decide (a.tick < b.tick) || (a.tick == b.tick && decide (a.seq < b.seq))
/-- The first due entry at boundary b. -/
def firstDue (es : List LedgerEntry) (b : Nat) : Option LedgerEntry :=
  foldS (fun (m : Option LedgerEntry) e =>
    if e.accepted && decide (e.tick ≤ b) then (match m with
      | none => some e
      | some x => if before e x then some e else m) else m) none es
/-- Step 4 of boundary b: every accepted command that is due, in order; nothing executes in a freeze, nor after a reset. -/
def State.ledgerExecute (b : Nat) : Nat → State → State
  | 0, s => s
  | f + 1, s =>
    if s.dram.frozen || s.sys.phase != .running then s
    else match firstDue s.ledger.entries b with
    | none => s
    | some e => State.ledgerExecute b f (s.ledgerRun b e)
/-- The command of a number as a step of its own: executed where it is accepted, due with the coming boundary, and the first in order. -/
def State.ledgerStep (s : State) (op seq : Nat) : State :=
  let b := s.tickN + 1
  match firstDue s.ledger.entries b with
  | some e => if s.sys.mediaRun && s.sys.phase == .running && !s.dram.frozen && e.seq == seq && e.op == op then s.ledgerRun b e else s
  | none => s
/-- LEDGER_NOP: OP 0. -/
def execLedgerNop (seq : Nat) (s : State) : Host.Outcome State Fault Refusal := doneCore s (s.ledgerStep 0 seq)
/-- REG_WRITE: OP 1. -/
def execRegWrite (seq : Nat) (s : State) : Host.Outcome State Fault Refusal := done s (s.ledgerStep 1 seq)
/-- SWAP: OP 2. -/
def execSwap (seq : Nat) (s : State) : Host.Outcome State Fault Refusal := doneCore s (s.ledgerStep 2 seq)
/-- ANNOUNCE: OP 3. -/
def execAnnounce (seq : Nat) (s : State) : Host.Outcome State Fault Refusal := doneCore s (s.ledgerStep 3 seq)
/-- ROLE_SWAP: OP 4. -/
def execRoleSwap (seq : Nat) (s : State) : Host.Outcome State Fault Refusal := doneCore s (s.ledgerStep 4 seq)

/-! ## Submission by the host and forwarding (R74, R428, R429) -/

/-- LEDGER_SUBMIT: the host's write of LDG_SUB7. -/
def execLedgerSubmit (val : W32) (s : State) : Host.Outcome State Fault Refusal := doneCore s (s.byHost (fun s => s.submit val))

/-- Two records under one number are the same. -/
def sameRecord (e : LedgerEntry) (r : RecordMsg) : Bool :=
  e.tick == r.tick.toNat && e.op == r.op.toNat && e.args == r.args
/-- Different records under one number (R428): the one that the active holds first is kept. -/
def State.ledgerConflict (s : State) (e : LedgerEntry) (r : RecordMsg) : State :=
  let t := (s.count LDG_CONFLICTS 1).flagRaise LDG_STAT 1 105
  if s.twn.role = .active then t
  else
    let e' := { e with tick := r.tick.toNat, op := r.op.toNat, args := r.args, both := true, partner := false, granted := r.granted }
    (t.modLedger (fun l => { l with entries := l.entries.map (fun x => if x.seq = e.seq then e' else x) })).entryWrite e' 1 0
/-- LEDGER_RECORD_FORWARD: a record of the partner's, or its confirmation, arrives over the link. -/
def execLedgerRecordForward (r : RecordMsg) (s : State) : Host.Outcome State Fault Refusal :=
  doneCore s (
    let n := r.seq.toNat
    let both (t : State) : State := t.modLedger (fun l => { l with entries := l.entries.map (fun x => if x.seq = n then { x with both := true } else x) })
    if !s.twn.linkUp || s.dram.frozen then s
    else if r.confirm then both s
    else match s.ledger.entries.find? (fun e => e.seq == n) with
    | some e =>
      if sameRecord e r then (both s).emit (.twinRecord n r.tick.toNat r.op.toNat r.args r.granted true)
      else if e.accepted then s else s.ledgerConflict e r
    | none =>
      if n ≤ s.ledger.acc then s
      else
        let e : LedgerEntry := { seq := n, tick := r.tick.toNat, op := r.op.toNat, args := r.args, accepted := false, both := true,
                                 partner := s.twn.role == .active, granted := r.granted }
        ((s.modLedger (fun l => { l with entries := l.entries ++ [e] })).entryWrite e 1 0).emit (.twinRecord n r.tick.toNat r.op.toNat r.args r.granted true))

/-! ## The dump (R433) -/

/-- One entry is copied to host memory. -/
def State.dumpOne (s : State) : State :=
  match s.graph.dma with
  | none => s
  | some d =>
    match d.plan with
    | [] => s
    | i :: is =>
      let r := s.engineRead (0x1000000 + i % 65536 * 32) 32 2 false
      let t := r.1.emit (.dma d.addr r.2.1)
      { t with graph := { t.graph with dma := some { d with plan := is, addr := d.addr + 32, copied := d.copied + 1 } } }.jobProgress d.slot (d.copied + 1)
/-- LEDGER_DUMP: the slot's job begins where it can, then copies up to `n` entries; with none left its work has ended. -/
def execLedgerDump (slot : Fin 16) (n : Nat) (s : State) : Host.Outcome State Fault Refusal :=
  doneCore s (
    let k := slot.val
    let s0 := s.jobTryBegin k
    if !s0.runsJob k 10 || (s0.slot k).fin.isSome then s0
    else if s0.dram.frozen then s0.jobEnd k 0x05
    else
      let args := (s0.slot k).args
      let w : DmaWork :=
        { slot := k, chan := 0, plan := (upFrom (fld (nth 0 args 0) 15 0) (nth 0 args 1).toNat).map (· % 65536),
          addr := (cat64 (nth 0 args 3) (nth 0 args 2)).toNat, copied := 0, bytes := 0, first := loN s0.ledger.exe, skipped := 0 }
      let s1 := if s0.graph.dma.isNone then { s0 with graph := { s0.graph with dma := some w } } else s0
      let s2 := timesN State.dumpOne n s1
      match s2.graph.dma with
      | some d => if d.plan.isEmpty then ({ s2 with graph := { s2.graph with dma := none } }.resultWrite k [w32 d.copied, d.first]).jobFin k 0 else s2
      | none => s2)

end Sys2Proof.Machine
end

