-- ==== Sys2Proof/Machine/Start.lean ====
section
/-! DEFINITION. Starts and resets (R41, R42, R77, R104, R105, R340, R427, R504 to R508, R536): the cold start, the wake sequence, READY, the boot
image, RESET_N, the supplies, and Nap. -/

namespace Sys2Proof.Machine

/-! ## What begins a start -/

/-- The sequence of R506 begins with a cause. -/
def State.startNow (s : State) (cause : Nat) : State :=
  (s.modPwd (fun p => { p with pwrLow := false, coldRetry := false })).modSys (fun y => { y with phase := .starting, cause := cause, answering := false, ready := false })
/-- COLD_START: VAON has been in range for 10 ms. -/
def execColdStart (s : State) : Host.Outcome State Fault Refusal := done s (if s.sys.phase = .off then s.startNow 1 else s)
/-- COLD_START_RETRY: the seed tries again after an abandoned cold start. -/
def execColdStartRetry (s : State) : Host.Outcome State Fault Refusal :=
  done s (if s.sys.phase = .nap ∧ s.pwd.coldRetry then s.startNow 1 else s)
/-- SYS_RESET: the host's write of the key register. -/
def execSysReset (val : W32) (s : State) : Host.Outcome State Fault Refusal := done s (s.byHost (fun s => s.regWrite 0 SYS_RESET val))
/-- The engine is up, or on its way. -/
def State.engineUp (s : State) : Bool := s.sys.phase == .running || s.sys.phase == .starting
/-- STEWARD_WATCHDOG: it expires and requests a warm reset. -/
def execStewardWatchdog (s : State) : Host.Outcome State Fault Refusal := done s (if s.engineUp then s.warmReset 16 else s)
/-- RESET_N: low for 10 µs holds the engine, its rise starts the sequence. -/
def execResetN (low : Bool) (s : State) : Host.Outcome State Fault Refusal :=
  done s (
    if low then (if s.engineUp then s.retain.engineDown .held else s)
    else if s.sys.phase = .held then s.startNow 4 else s)
/-- SUPPLY_RETURN: PWR_OK has been high again for 10 ms. -/
def execSupplyReturn (s : State) : Host.Outcome State Fault Refusal := done s (if s.sys.phase = .failed then s.warmReset 4 else s)

/-! ## DRAM at a start (R334, R339, R340, R354) -/

/-- A channel after a warm reset whose mapped ranks all work: the mapping is kept, with its RETIRED rank and its spare; none where it cannot be. -/
def keptChannel (old new : Channel) : Option Channel :=
  let works (k : Nat) : Bool := (new.rank k).st == .inService || (new.rank k).st == .spare || (new.rank k).st == .unused
  if old.rankMap.length = new.rankMap.length ∧ old.rankMap.all works then
    let st (k : Nat) : RankState :=
      if !works k then (new.rank k).st
      else if old.rankMap.contains k then .inService
      else if (old.rank k).st == .retired then .retired
      else if old.spareRank == some k && !old.spareUsed then .spare else .unused
    some { new with rankMap := old.rankMap, spareRank := old.spareRank, spareUsed := old.spareUsed,
                    ranks := (upFrom 0 4).map (fun k => { new.rank k with st := st k }) }
  else none
/-- A migration that a warm reset met starts afresh from line 0, its source SUSPECT. -/
def State.migAgain (s : State) (ch : Nat) (m : Option Migration) : State :=
  match m with
  | some m => if (s.chan ch).spareFree then (s.modChan ch (fun x => x.modRank m.source (fun r => { r with st := .suspect }))).migStart ch m.source m.cause none else s
  | none => s
/-- The ledger of a lost session: a fresh session value, LOST, EV107 (R427). -/
def State.ledgerLost (s : State) : State :=
  let c := 1 + Config.freeNat s.free % 4294967294
  let v := if s.ledger.session.toNat ≠ 0 ∧ s.ledger.session.toNat ≤ c then c + 1 else c
  let t := { s.drawn with ledger := { resetLedger with session := w32 v }, dram := { s.dram with mem := memClear s.dram.mem 0x1000000 0x200000 } }
  t.flagRaise LDG_STAT 0 107
/-- DRAM at a start: detection; after a warm reset the retention check, else nothing is kept. -/
def State.dramStart (s : State) (obs : WakeObs) : State :=
  let old := s.dram
  let t := s.dramDetect obs.ranks0 obs.ranks1
  if !old.selfRefresh then { t with dram := { t.dram with mem := [], poison := [], ret := [] } }.ledgerLost
  else
    let same := obs.retained && old.ret.all (fun r => r.2 == s.ledgerCells)
    match keptChannel old.ch0 t.dram.ch0, keptChannel old.ch1 t.dram.ch1 with
    | some a, some b =>
      let t := { t with dram := { t.dram with ch0 := a, ch1 := b, ret := [] } }
      let t := (t.migAgain 0 old.ch0.copying).migAgain 1 old.ch1.copying
      if same then t else (((t.flag (DRC_STAT 0) 10).flag (DRC_STAT 1) 10).raise 82).ledgerLost
    | _, _ =>
      let t := { t with dram := { t.dram with mem := [], poison := [], ret := [] } }
      (((t.flag (DRC_STAT 0) 10).flag (DRC_STAT 1) 10).raise 82).ledgerLost

/-! ## The boot image (R104, R105, R114) -/

/-- A flash slot whose header passes HDR_CRC: its GENERATION. -/
def bootGen (bs : Option (List Byte)) : Option Nat :=
  let bs := bs.getD []
  if 256 ≤ bs.length ∧ crc32c (bs.take 0xFC) = w32 (imgField bs 0xFC 4) then some (imgField bs 0x10 4) else none
/-- The slot that the loader takes first. -/
def State.bootChoice (s : State) (f0 f1 : Option (List Byte)) : Nat :=
  match s.rdF IMG_FLASH 1 0 with
  | 1 => 0
  | 2 => 1
  | _ => match bootGen f0, bootGen f1 with
    | some a, some b => if a < b then 1 else 0
    | none, some _ => 1
    | _, _ => 0
/-- What the checks say of a boot image. -/
def State.bootCheck (s : State) (bytes : Option (List Byte)) : Except ImgFault Image :=
  match (if s.dram.frozen || decide (s.dramSize < 16777216) then none else bytes) with
  | none => .error { code := 0x4E, sec := 0xFF }
  | some bs =>
    match (checkImage s.imgTarget bs).2 with
    | .ok i => if s.bit IMG_TRUST_CTL 0 && !s.trustedSsig i.ssig then .error { code := 0x4F, sec := 0xFF } else .ok i
    | .error f => .error f
/-- Loads a boot image from a slot; `place` is WHERE of a refusal. Whether it was loaded. -/
def State.bootLoad (s : State) (place : Nat) (bytes : Option (List Byte)) : State × Bool :=
  match s.bootCheck bytes with
  | .ok i => ((s.engineWrite 0 (bytes.getD [])).distribute i, true)
  | .error f => (s.imgFailed place f.code f.sec, false)
/-- The boot load within the wake sequence: with STRAP_BOOT at 1 none. -/
def State.bootStart (s : State) (obs : WakeObs) : State :=
  if s.sys.straps.getLsbD 3 then s
  else
    let c := s.bootChoice obs.flash0 obs.flash1
    let both := s.rdF IMG_FLASH 1 0 == 0 || s.rdF IMG_FLASH 1 0 == 3
    let s := (s.flashOpen.when both (fun t => (t.emit (.flash (.read 0))).emit (.flash (.read (flashBase 1))))).emit (.flash (.read (flashBase c)))
    let r := s.bootLoad 1 (if c = 0 then obs.flash0 else obs.flash1)
    if r.2 then (r.1.imgShow c).count IMG_LOADS 1
    else
      (r.1.flag IMG_STAT 1).modImg (fun p => { p with bgLoad := both, bootSlot := c })
/-- The media clock starts with an image; a COMMIT is made. -/
def State.mediaWithImage (s : State) : State :=
  if s.img.running.isSome then s.mediaStart.commitMade else s
/-- BOOT_BG_LOAD: the other slot is loaded in the background; where it loads, the media clock starts, and with the end of the start leads the load is done. -/
def execBootBgLoad (bytes : Option (List Byte)) (s : State) : Host.Outcome State Fault Refusal :=
  done s (
    if s.img.bgLoad && s.sys.ready && s.img.running.isNone && s.img.phase == .idle then
      let c := 1 - s.img.bootSlot
      let r := (s.flashOpen.when bytes.isSome (·.emit (.flash (.read (flashBase c))))).bootLoad 2 bytes
      if r.2 then (r.1.modImg (fun p => { p with stagedSrc := c, leadMax := 0 })).mediaStart.commitMade.imgStarting
      else r.1.modImg (fun p => { p with bgLoad := false })
    else s)

/-! ## The sequence (R506) -/

/-- WAKE_SEQUENCE: from the straps to the boot image. -/
def execWakeSequence (obs : WakeObs) (s : State) : Host.Outcome State Fault Refusal :=
  done s (
    if s.sys.phase = .starting ∧ !s.sys.answering then
      let s := s.modSys (fun y => { y with straps := obs.straps })
      let s := ((s.startMarch obs.march).clearAll false).modSys (fun y => { y with answering := true })
      (((s.dramStart obs).bootStart obs).macsSet).modTwn (fun t => { t with partnerReady := obs.partnerReply })
    else s)
/-- A deferred event becomes pending, with the status bit it sets. -/
def State.raiseLate (s : State) (e : Nat) : State :=
  if e = 16 then s.flagRaise PRS_STAT 0 16
  else if e = 17 then s.flagRaise PRS_STAT 1 17
  else if e = 22 then s.flagRaise PWD_STAT 0 22
  else s.raise e
/-- READY: 420 ms after the start. -/
def execReady (s : State) : Host.Outcome State Fault Refusal :=
  done s (
    if s.sys.phase = .starting ∧ s.sys.answering then
      let late := s.sys.deferred
      let t := s.modSys (fun y => { y with phase := .running, ready := true, deferred := [] })
      let t := ((t.mediaWithImage).rtcAdvance 1260).prsElapse 1260
      let t := foldS State.raiseLate t late
      let t := if s.sys.cause = 1 then t else t.raise 11
      t.modHwd (fun h => { h with found := false })
    else s)
/-- WAKE_ABANDON: PWR_OK is not high by 100 ms: SUPPLY_FAIL, and back to Nap. -/
def execWakeAbandon (s : State) : Host.Outcome State Fault Refusal :=
  done s (
    if s.sys.phase = .starting ∧ !s.sys.answering then
      let t := s.napDown.modPwd (fun p => { p with supplyFail := true, pwrLow := true, napSeen := true, held := s.napHeld, coldRetry := s.sys.cause == 1 })
      t.modSys (fun y => { y with deferred := y.deferred ++ [21] })
    else s)

/-! ## Nap (R504, R505) and the seed's supply -/

/-- PWD_NAP: the host's write of the key register. -/
def execPwdNap (val : W32) (s : State) : Host.Outcome State Fault Refusal := doneCore s (s.byHost (fun s => s.regWrite 0 PWD_NAP val))
/-- PWD_LATCH_CLR: the host's write. -/
def execPwdLatchClr (val : W32) (s : State) : Host.Outcome State Fault Refusal := doneCore s (s.byHost (fun s => s.regWrite 0 PWD_LATCH_CLR val))
/-- NAP_ENTRY: 1 ms after the media clock has stopped; at once where it does not run. -/
def execNapEntry (s : State) : Host.Outcome State Fault Refusal :=
  done s (
    if s.pwd.stage = .stopped ∨ (s.pwd.stage = .requested ∧ !s.sys.mediaRun) then
      (s.napDown).modPwd (fun p => { p with napSeen := true, pwrLow := true, held := s.napHeld })
    else s)
/-- A wake source is enabled (R505). -/
def State.wakeEnabled (s : State) (source cin : Nat) : Bool :=
  if source < 4 then s.bit PWD_WAKE_CFG source else source == 4 && decide (cin < 8) && s.fit.variantA && s.bit PWD_WAKE_CFG (8 + cin)
/-- What taking a source is besides the wake: PRESENCE_N opens the window, a break of the seal sets the latch, an alarm shows that the RTC has come
to its second. -/
def State.wakeTaken (s : State) (source : Nat) : State :=
  if source = 1 then s.presentOn
  else if source = 2 then timesN (fun t => t.sealSample false) (2 - s.prs.sealFails) s
  else if source = 3 then
    let n := ((s.rd PWD_RTC_ALARM).toNat - (s.rd PWD_RTC).toNat) * 3000 - s.pwd.rtcTicks
    (s.rtcAdvance n).prsElapse n
  else s
/-- The wake of a source: Heartwood powers up with the supplies. -/
def State.wakeNow (s : State) (source cin : Nat) : State :=
  let t := (s.modPwd (fun p => { p with wakeSource := source, wakeCin := if source = 4 then cin else 0, wakeDue := none, held := [] })).count PWD_WAKES 1
  let t := t.startNow 2
  if s.fit.variantA then t.hwPowerUp else t
/-- NAP_WAKE: a source is taken during Nap by a change that happens there; one taken after the PWD_NAP write and before the entry starts its wake 10 ms
after the entry, and of two the lowest is recorded (R504, R505). -/
def execNapWake (source cin : Nat) (s : State) : Host.Outcome State Fault Refusal :=
  done s (
    if !s.wakeEnabled source cin then s
    else if s.sys.phase = .nap then
      (if s.pwd.held.contains source ∨ (source = 3 ∧ (s.rd PWD_RTC_ALARM).toNat < (s.rd PWD_RTC).toNat) then s
       else (s.wakeTaken source).wakeNow source cin)
    else if s.pwd.stage ≠ .none then
      (match s.pwd.wakeDue with
       | some w => if w.1 ≤ source then s else s.modPwd (fun p => { p with wakeDue := some (source, cin, 30) })
       | none => s.modPwd (fun p => { p with wakeDue := some (source, cin, 30) }))
    else s)
/-- A tick's time in Nap: a wake that was asked for before the entry starts once PWR_EN has been low for 10 ms. -/
def State.napTime (s : State) : State :=
  match s.pwd.wakeDue with
  | some (src, cin, n) =>
    if s.sys.phase ≠ .nap then s
    else if n ≤ 1 then s.wakeNow src cin
    else s.modPwd (fun p => { p with wakeDue := some (src, cin, n - 1) })
  | none => s
/-- VAON_LOSS: the seed loses its supply, and with it everything but Heartwood's own. -/
def execVaonLoss (s : State) : Host.Outcome State Fault Refusal :=
  done s { State.reset with out := s.out, free := s.free, hwd := s.hwd, regs := s.regs.filter (fun p => hwdReg p.1) }

end Sys2Proof.Machine
end

