-- ==== Sys2Proof/Machine/HostRows.lean ====
section
/-! DEFINITION. The host's commands (R41 to R60, R66 to R70, R138, R498): register writes that have a row of their own, reads, the PCIe
endpoint, the quad SPI target, and the job commands of the host. -/

namespace Sys2Proof.Machine

/-- A host write of a 32-bit register. -/
def State.hostReg32 (s : State) (a : Nat) (v : W32) : State := s.byHost (fun s => s.regWrite 0 a v)

/-! ## Any address (R51 to R60) -/

/-- REGISTER_WRITE: a host write that has no row of its own. -/
def execRegisterWrite (addr : Nat) (val : W32) (s : State) : Host.Outcome State Fault Refusal := done s (s.byHost (fun s => s.hostWrite addr .word val cleanWrite))
/-- RC_REGISTER_READ: a host read of a register. -/
def execRcRegisterRead (addr : Nat) (hit : ReadHit) (s : State) : Host.Outcome State Fault Refusal := doneCore s (s.byHost (fun s => s.hostReadOut addr hit))
/-- MULTIWORD_CAPTURE_READ: a host read of a word of a multi-word value. -/
def execMultiwordCaptureRead (addr : Nat) (s : State) : Host.Outcome State Fault Refusal := doneCore s (s.byHost (fun s => s.hostReadOut addr (cleanRead .word)))
/-- NARROW_WRITE: a host write of 8 or 16 bits. -/
def execNarrowWrite (addr : Nat) (width : Width) (val : W32) (s : State) : Host.Outcome State Fault Refusal :=
  done s (s.byHost (fun s => s.hostWrite addr width val cleanWrite))
/-- UNMAPPED: an access of the host, as R53 takes it where nothing answers. -/
def execUnmapped (addr : Nat) (isWrite : Bool) (val : W32) (s : State) : Host.Outcome State Fault Refusal :=
  done s (s.byHost (fun s => if isWrite then s.hostWrite addr .word val cleanWrite else s.hostReadOut addr (cleanRead .word)))
/-- GAIN_SHADOW_WRITE: a host write in the shadow window. -/
def execGainShadowWrite (addr : Nat) (width : Width) (val : W32) (hit : WriteHit) (s : State) : Host.Outcome State Fault Refusal :=
  doneCore s (s.byHost (fun s => s.hostWrite (0x4000000 + addr % 0x4000000) width val hit))
/-- FULLER_MEMORY_WRITE: a host write in the Fuller memories. -/
def execFullerMemoryWrite (addr : Nat) (width : Width) (val : W32) (hit : WriteHit) (s : State) : Host.Outcome State Fault Refusal :=
  done s (s.byHost (fun s => s.hostWrite (0x2000000 + addr % 0x1000000) width val hit))

/-! ## Registers with a row of their own -/

/-- TCK_REALIGN (R18, R19). -/
def execTckRealign (val : W32) (s : State) : Host.Outcome State Fault Refusal := doneCore s (s.byHost (fun s => if s.class1 then s.realign val else s.deny 1 0 TCK_REALIGN))
/-- COMMIT: SYS_CFGCRC_CTL written with COMMIT at 1 (R62). -/
def execCommit (val : W32) (s : State) : Host.Outcome State Fault Refusal := doneCore s (s.byHost (fun s => s.commitWrite (val ||| 1)))
/-- CFGCRC_REF_WRITE (R63). -/
def execCfgcrcRefWrite (val : W32) (s : State) : Host.Outcome State Fault Refusal := doneCore s (s.byHost (fun s => s.refWrite val))
/-- EVT_PEND_CLEAR (R66). -/
def execEvtPendClear (word : Fin 4) (val : W32) (s : State) : Host.Outcome State Fault Refusal := doneCore s (s.byHost (fun s => s.pendWrite word.val val))
/-- EVT_RAISE: class 2 (R80); without DEVELOP the write is refused (R498). -/
def execEvtRaise (val : W32) (s : State) : Host.Outcome State Fault Refusal :=
  doneCore s (s.byHost (fun s => if s.class2 then s.raise (fld val 6 0) else s.deny 2 0 EVT_RAISE))
/-- GRF_SEL_SET (R138). -/
def execGrfSelSet (val : W32) (s : State) : Host.Outcome State Fault Refusal := doneCore s (s.byHost (fun s => s.grfSelSet val))
/-- GRF_PRI_SET: class 1 (R138, R497). -/
def execGrfPriSet (val : W32) (s : State) : Host.Outcome State Fault Refusal :=
  doneCore s (s.byHost (fun s => if s.class1 then s.priWrite val else s.deny 1 0 GRF_PRI_SET))
/-- RNG_DLY_SET (R140). -/
def execRngDlySet (val : W32) (s : State) : Host.Outcome State Fault Refusal := doneCore s (s.byHost (fun s => s.rngDlySet val))
/-- RNG_LEN_SET (R140). -/
def execRngLenSet (val : W32) (s : State) : Host.Outcome State Fault Refusal := doneCore s (s.byHost (fun s => s.rngLenSet val))
/-- A value of RNG_PLY_CANCEL. -/
def cancelWord (voice mode : Nat) : W32 := w32 (voice % 1024 * 65536 + mode)
/-- PLY_CANCEL_STOP: mode 1 (R131). -/
def execPlyCancelStop (voice : Nat) (s : State) : Host.Outcome State Fault Refusal := doneCore s (s.byHost (fun s => s.rngCancel (cancelWord voice 1)))
/-- PLY_CANCEL_QUEUE: mode 2. -/
def execPlyCancelQueue (voice : Nat) (s : State) : Host.Outcome State Fault Refusal := doneCore s (s.byHost (fun s => s.rngCancel (cancelWord voice 2)))
/-- PLY_CANCEL_BOTH: mode 3. -/
def execPlyCancelBoth (voice : Nat) (s : State) : Host.Outcome State Fault Refusal := doneCore s (s.byHost (fun s => s.rngCancel (cancelWord voice 3)))
/-- CNP_DET_SET (R160). -/
def execCnpDetSet (val : W32) (s : State) : Host.Outcome State Fault Refusal := doneCore s (s.byHost (fun s => s.detSet val))
/-- CNP_SCL_SET (R162). -/
def execCnpSclSet (val : W32) (s : State) : Host.Outcome State Fault Refusal := doneCore s (s.byHost (fun s => s.sclSet val))
/-- STR_HQ_TX_PROD (R306). -/
def execStrHqTxProd (val : W32) (s : State) : Host.Outcome State Fault Refusal := doneCore s (s.hostReg32 STR_HQ_TX_PROD val)
/-- TIM_STEP_ACK: class 1 (R320). -/
def execTimStepAck (val : W32) (s : State) : Host.Outcome State Fault Refusal :=
  doneCore s (s.byHost (fun s => if s.class1 then s.stepAck val else s.deny 1 0 TIM_STEP_ACK))
/-- FALLBACK_FORCE_SET: HWD_FB_CTL with FORCE at 1 (R463). -/
def execFallbackForceSet (val : W32) (s : State) : Host.Outcome State Fault Refusal := doneCore s (s.hostReg32 HWD_FB_CTL (val ||| 1))
/-- FALLBACK_FORCE_CLEAR: HWD_FB_CTL with FORCE at 0. -/
def execFallbackForceClear (val : W32) (s : State) : Host.Outcome State Fault Refusal := doneCore s (s.hostReg32 HWD_FB_CTL (val &&& 0xFFFFFFFE))
/-- CHANNEL_REENABLE: HWD_CH_CFG with EN at 0, then at 1 (R457). -/
def execChannelReenable (ch : Fin 2) (val : W32) (s : State) : Host.Outcome State Fault Refusal :=
  doneCore s ((s.hostReg32 (HWD_CH_CFG ch.val) (val &&& 0xFFFFFFFE)).hostReg32 (HWD_CH_CFG ch.val) (val ||| 1))
/-- RESERVE_STORE_READ: a host read of HWD_RS_DATA (R466). -/
def execReserveStoreRead (s : State) : Host.Outcome State Fault Refusal := doneCore s (s.byHost (fun s => s.hostReadOut HWD_RS_DATA (cleanRead .word)))
/-- RESERVE_STORE_WRITE: a host write of HWD_RS_DATA. -/
def execReserveStoreWrite (val : W32) (s : State) : Host.Outcome State Fault Refusal := doneCore s (s.hostReg32 HWD_RS_DATA val)
/-- HWD_RS_SAVE (R467). -/
def execHwdRsSave (val : W32) (s : State) : Host.Outcome State Fault Refusal := doneCore s (s.hostReg32 HWD_RS_SAVE val)
/-- MON_BAUD_WRITE: the host's write of MON_BAUD (R523). -/
def execMonBaudWrite (val : W32) (s : State) : Host.Outcome State Fault Refusal := doneCore s (s.hostReg32 MON_BAUD val)

/-! ## The PCIe endpoint (R44) -/

/-- The endpoint returns to its reset values; the DMA rings stop, what HOST and the DMA masters await is dropped. -/
def State.endpointReset (s : State) : State :=
  let t := { s with sys := { s.sys with msix := [] }, net := { s.net with dmaStopped := true } }
  foldS (fun (u : State) m => u.isolateWaiting m) t [0, 2, 3, 4, 5]
/-- FUNCTION_LEVEL_RESET. -/
def execFunctionLevelReset (s : State) : Host.Outcome State Fault Refusal := doneCore s (if s.pcie && s.sys.hostLink then s.endpointReset else s)
/-- HOST_LINK: the link trains once the memories are cleared, or is lost. -/
def execHostLink (up : Bool) (s : State) : Host.Outcome State Fault Refusal :=
  doneCore s (
    if !s.pcie || s.sys.hostLink == up || (up && !s.sys.answering) then s
    else
      let t := if up then s else s.endpointReset
      ({ t with sys := { t.sys with hostLink := up } }).raise 8)

/-! ## The quad SPI target (R46 to R50) -/

/-- The straps chose SPI, and it answers. -/
def State.spiUp (s : State) : Bool := s.sys.straps.getLsbD 0 && s.sys.answering
/-- A frame ends with a status code: SYS_SPI_LAST, and for an error SPI_ERR, its count and EV9. DESIGN CHOICE (log entry 63): the discarded frames
that a status frame counts are those that end SHORT. -/
def State.spiEnd (s : State) (tag : Byte) (code : Nat) : State :=
  let t := { s with sys := { s.sys with spiTag := tag, spiStatus := BitVec.ofNat 8 code,
                                        spiDiscarded := if code = 5 then satN 16 (s.sys.spiDiscarded + 1) else s.sys.spiDiscarded } }
  let t := t.wr SYS_SPI_LAST (w32 (tag.toNat * 256 + code))
  if code = 0 then t else (t.count SYS_SPI_ERR_COUNT 1).flagRaise SYS_STAT 2 9
/-- The tag of a frame. DESIGN CHOICE (log entry 63): 0 for a frame cut before its tag byte; a status frame that is cut short is recorded as the last
frame, with SHORT. -/
def spiTagOf (bs : List Byte) : Byte := nth 0 bs 1
/-- The address and the number of words of a frame. -/
def spiAddr (bs : List Byte) : Nat := beNat (slice bs 2 4)
def spiWords (bs : List Byte) : Nat := (nth 0 bs 6).toNat + 1
/-- The CRC at an offset over the bytes before it. -/
def spiCrcOk (bs : List Byte) (n : Nat) : Bool := crc32c (bs.take n) == w32 (leAt bs n 4)
/-- The words of a write frame, one by one. -/
def State.spiStore (s : State) (a : Nat) : List W32 → State
  | [] => s
  | w :: ws => (if s.spiUp then s.hostWrite (a % 2 ^ 32) .word w cleanWrite else s).spiStore (a + 4) ws
/-- SPI_WRITE_FRAME: the bytes the host drives. A frame that ends early is short. -/
def execSpiWriteFrame (bytes : List Byte) (s : State) : Host.Outcome State Fault Refusal :=
  done s (
    let n := 4 * spiWords bytes
    if !s.spiUp || nth 0 bytes 0 != 0xA2 then s
    else if bytes.length < 11 + n then s.spiEnd (spiTagOf bytes) 5
    else
      let code := if !spiCrcOk bytes (7 + n) then 1 else if spiAddr bytes % 4 ≠ 0 then 3 else 0
      let t := if code = 0 then s.spiStore (spiAddr bytes) (wordsOf (spiWords bytes) (bytes.drop 7)) else s
      if t.spiUp then (t.emit (.spi [BitVec.ofNat 8 code])).spiEnd (spiTagOf bytes) code else t)
/-- The words of a read frame; none where a read waits at a locked channel. -/
def State.spiLoad (s : State) (a : Nat) : Nat → List W32 → State × Option (List W32)
  | 0, ws => (s, some ws)
  | n + 1, ws =>
    let r := s.hostRead (a % 2 ^ 32) (cleanRead .word)
    match r.2 with
    | some w => r.1.spiLoad (a + 4) n (ws ++ [w])
    | none => (r.1, none)
/-- What is wrong with a read frame's head, 0 for nothing. -/
def spiReadCode (bs : List Byte) : Nat := if !spiCrcOk bs 7 then 1 else if spiAddr bs % 4 ≠ 0 then 3 else 0
/-- What the module drives in a read frame that has no data: at most 1,024 wait bytes, the error marker, the code, and 0xFF in every further byte of a
frame of `len` bytes, up to the rise of HSPI_CS_N (R48). The turnaround is byte 11. -/
def spiErrorBytes (len waits code : Nat) : List Byte :=
  List.replicate (min waits 1024) 0 ++ [0xE1, BitVec.ofNat 8 code] ++ List.replicate (len - (14 + min waits 1024)) 0xFF
/-- A read frame: wait bytes, then the data or the error marker with its code. `bytes` are the bytes of the frame up to the rise of HSPI_CS_N, of which
the host drives the first 11. -/
def State.spiRead (s : State) (bytes : List Byte) (waits : Nat) (late : Bool) : State :=
  if !s.spiUp || nth 0 bytes 0 != 0xA3 then s
  else if bytes.length < 11 then s.spiEnd (spiTagOf bytes) 5
  else
    let bad (t : State) (w code : Nat) : State := (t.emit (.spi (spiErrorBytes bytes.length w code))).spiEnd (spiTagOf bytes) code
    if spiReadCode bytes ≠ 0 then bad s waits (spiReadCode bytes)
    else
      let r := s.spiLoad (spiAddr bytes) (spiWords bytes) []
      match r.2 with
      | some ws =>
        if late then bad r.1 1024 4
        else
          let d : List Byte := 0x5A :: ws.flatMap (fun w => leBytes 4 w.toNat)
          (r.1.emit (.spi (List.replicate waits 0 ++ d ++ leBytes 4 (crc32c d).toNat ++ [0]))).spiEnd (spiTagOf bytes) 0
      | none => bad r.1 1024 4
/-- SPI_READ_FRAME: the data come after `waits` wait bytes. -/
def execSpiReadFrame (bytes : List Byte) (waits : Nat) (s : State) : Host.Outcome State Fault Refusal :=
  doneCore s (s.spiRead bytes waits (decide (1024 < waits)))
/-- SPI_READ_TIMEOUT: 1,024 wait bytes have been sent without data; the reads still complete inside the module. -/
def execSpiReadTimeout (bytes : List Byte) (s : State) : Host.Outcome State Fault Refusal := doneCore s (s.spiRead bytes 1024 true)
/-- SPI_STATUS_FRAME: the last frame's tag and status, the count of discarded frames, which clears. DESIGN CHOICE (log entry 63): the low byte of the
count is sent first, in byte 5. -/
def execSpiStatusFrame (_ : Byte) (s : State) : Host.Outcome State Fault Refusal :=
  doneCore s (
    if s.spiUp then
      { s with sys := { s.sys with spiDiscarded := 0 } }.emit (.spi ([s.sys.spiTag, s.sys.spiStatus] ++ leBytes 2 s.sys.spiDiscarded))
    else s)
/-- SHORT: the frame ends early; the reads of a whole read head still complete. -/
def execSpiShort (bytes : List Byte) (s : State) : Host.Outcome State Fault Refusal :=
  doneCore s (
    if !s.spiUp then s
    else
      let t := if nth 0 bytes 0 == 0xA3 && decide (11 ≤ bytes.length) && spiReadCode bytes == 0 then
          (s.spiLoad (spiAddr bytes) (spiWords bytes) []).1 else s
      t.spiEnd (spiTagOf bytes) 5)
/-- SPI_BAD_OP_FRAME: an opcode that no frame has. DESIGN CHOICE (log entry 63): the answer on the wire is the one status byte 0x02. -/
def execSpiBadOpFrame (bytes : List Byte) (s : State) : Host.Outcome State Fault Refusal :=
  doneCore s (
    let op := nth 0 bytes 0
    if !s.spiUp || op == 0xA2 || op == 0xA3 || op == 0xA5 then s else (s.emit (.spi [2])).spiEnd (spiTagOf bytes) 2)

/-! ## Jobs (R67 to R70, R82, R101) -/

/-- JOB_RESERVED_KIND: a start with a reserved KIND. -/
def execJobReservedKind (slot : Fin 16) (val : W32) (s : State) : Host.Outcome State Fault Refusal :=
  doneCore s (s.byHost (fun s => if kindReserved (fld val 7 0) then s.jobCmd slot.val ((val ||| 0x80000000) &&& 0xBFFFFFFF) s.class1 else s))
/-- JOB_ABORT: JOB_CMD written with ABORT at 1. -/
def execJobAbort (slot : Fin 16) (val : W32) (s : State) : Host.Outcome State Fault Refusal :=
  doneCore s (s.byHost (fun s => s.jobCmd slot.val (val ||| 0x40000000) s.class1))

/-- A load or graft that has not begun its phase 2, or its t1, may still be given up (R101, R111). -/
def State.imgAbortable (s : State) : Bool :=
  match s.img.phase with
  | .idle => true
  | .reported => true
  | .armed _ => true
  | .graftT1 _ => !s.twn.suspended
  | _ => false
/-- JOB_SAFE_POINT_ABORT: the running job has come to its safe point. A PROVE that injects and a sweep under way have safe points of their own. -/
def execJobSafePointAbort (slot : Fin 16) (s : State) : Host.Outcome State Fault Refusal :=
  doneCore s (
    let k := slot.val
    let j := s.slot k
    if j.st ≠ .running ∨ !j.abortReq ∨ j.fin.isSome then s
    else match j.kind.toNat with
      | 1 => if s.imgAbortable then s.imgAbort k else s
      | 2 => if s.imgAbortable then s.imgAbort k else s
      | 7 => (match s.prv.run with
        | some r => if r.slot = k then s else s.jobStop k
        | none => s.jobStop k)
      | 8 => (match s.hwd.sweep with
        | some w => if w.slot = k then s else s.jobStop k
        | none => s.jobStop k)
      | _ => s.jobStop k)

end Sys2Proof.Machine
end

