-- ==== Sys2Proof/Machine/Tick.lean ====
section
/-! DEFINITION. The tick boundary (R25): its eight steps in their order, the ingest of a frame (R413 to R415), the stages of the pipeline
(R5, R22 to R24, R30 to R33), a realignment (R18), the configuration CRC (R61 to R63), and what a boundary is while a load or Nap stops the
media clock (R98, R504). -/

namespace Sys2Proof.Machine

/-! ## Realignment (R16, R18, R276) -/

/-- The tick stamps that measure a distance from the running tick move with the counters: the tick after `old` has become `new`. -/
def State.stampsMove (s : State) (old new : Nat) : State :=
  let mv (n : Nat) : Nat := new + n - (old + 1)
  { s with
    canopy := { s.canopy with swapTick := mv s.canopy.swapTick }
    graph := { s.graph with pipe := { s.graph.pipe with emitted := s.graph.pipe.emitted.map (fun e => (mv e.1, e.2)) } }
    ports := s.ports.map (fun q => (q.1, { q.2 with
      runTick := min q.2.runTick new
      chgRx := q.2.chgRx.map (fun c => { c with tick := mv c.tick })
      chgTx := q.2.chgTx.map (fun c => { c with tick := mv c.tick }) })) }
/-- The fourth muted tick: the counters load from network time, and the output starts anew. -/
def State.realignLoad (s : State) : State :=
  let t := s.loadCounters
  ((t.modSys (fun y => { y with aligned := s.sys.aligned && t.sys.aligned })).stampsMove s.tickN t.tickN).pllStart t.sys.aligned
/-- REALIGN_COUNTER_LOAD: the boundary of the fourth muted tick is the coming one, which then finds the counters loaded. -/
def execRealignCounterLoad (s : State) : Host.Outcome State Fault Refusal :=
  doneCore s (if s.sys.mediaRun ∧ s.sys.realignLeft = 6 ∧ s.sys.realignLoaded = false then
    s.realignLoad.modSys (fun y => { y with realignLoaded := true }) else s)
/-- The eighth muted tick has ended: ALIGNED, and EV3. -/
def State.realignDone (s : State) : State := (s.modSys (fun y => { y with realignLeft := 0, aligned := s.clk.epochValid })).raise 3
/-- REALIGN_END. -/
def execRealignEnd (s : State) : Host.Outcome State Fault Refusal :=
  doneCore s (if s.sys.mediaRun ∧ s.sys.realignLeft = 1 then s.realignDone else s)
/-- Step 1: the counters advance, or load in a realignment, whose muted ticks count down. -/
def State.advance (s : State) : State :=
  let up (t : State) : State := t.modSys (fun y => { y with tick := y.tick + 1 })
  if s.sys.realignLeft = 0 then
    (if s.sys.realignReq then (up s).modSys (fun y => { y with realignReq := false, realignLeft := 8 }) else up s)
  else if s.sys.realignLeft = 1 then (up s).realignDone
  else
    let t := s.modSys (fun y => { y with realignLeft := y.realignLeft - 1 })
    if t.sys.realignLeft = 5 then (if s.sys.realignLoaded then t else t.realignLoad).modSys (fun y => { y with realignLoaded := false })
    else up t

/-! ## The configuration CRC (R61 to R63) -/

/-- The blocks in ascending address whose registers hold CFG bits. -/
def cfgBlocks : List Block :=
  (([.sys, .evt, .job, .prs, .pwd, .img, .tck, .clk, .cnp, .grf] : List Block) ++ (upFrom 0 16).map Block.asp ++ (upFrom 0 8).map Block.aesr
    ++ (upFrom 0 7).map Block.aest ++ ([.asr, .aest 7] : List Block) ++ (upFrom 0 4).map Block.net
    ++ ([.str, .tim, .drc 0, .drc 1, .rng, .mem, .crd, .trk, .twn, .ldg, .hwd, .prv, .mon] : List Block)
    ++ (upFrom 0 256).map Block.tile ++ (upFrom 0 64).map Block.ful).filter (fun b => (specsOf b).any (fun r => r.cfg != 0))
/-- The configuration CRC as the registers stand. -/
def State.cfgCrc (s : State) : W32 :=
  crc32c (cfgBlocks.flatMap (fun b => ((specsOf b).filter (fun r => r.cfg != 0)).flatMap
    (fun r => leBytes 4 (s.rd (blkBase b + r.off) &&& r.cfg).toNat)))
/-- The action of SYS_CFGCRC_ACT for a run of differing passes. -/
def State.cfgAct (s : State) : State :=
  let t := s.flagRaise SYS_CFGCRC_CTL 2 0
  if s.rdF SYS_CFGCRC_ACT 1 0 = 2 then t.declareFaulty.twinFault else t
/-- A complete pass is judged. DESIGN CHOICE (log entry 64): a pass that ends under ACT 0 ends a run of differing passes, and so does an equal pass while
HOLD is 1. -/
def State.cfgJudge (s : State) (crc : W32) : State :=
  if s.rdF SYS_CFGCRC_ACT 1 0 = 0 ∨ crc = s.rd SYS_CFGCRC_REF then s.modSys (fun y => { y with cfgDiffs := 0, cfgActed := false })
  else if s.bit SYS_CFGCRC_CTL 3 then s.modSys (fun y => { y with cfgDiffs := 0 })
  else if 1 ≤ s.sys.cfgDiffs ∧ s.sys.cfgActed = false then
    (s.modSys (fun y => { y with cfgDiffs := 2, cfgActed := true })).cfgAct
  else s.modSys (fun y => { y with cfgDiffs := min 2 (y.cfgDiffs + 1) })
/-- The end of a pass: LAST, MATCH, and either the copy of a COMMIT or the judgement. A pass in which CFG bits changed has a free result. -/
def State.cfgEnd (s : State) : State :=
  let crc := if s.sys.cfgDirty then w32 (Config.freeNat s.free) else s.cfgCrc
  let s := (if s.sys.cfgDirty then s.drawn else s).wr SYS_CFGCRC_LAST crc
  let hit (t : State) (b : Bool) : State := t.wr SYS_CFGCRC_CTL (putBit (t.rd SYS_CFGCRC_CTL) 1 b)
  if 2 ≤ s.sys.cfgCommit then
    ((hit (s.wr SYS_CFGCRC_REF crc) true).unflag SYS_CFGCRC_CTL 2).modSys
      (fun y => { y with cfgPass := false, cfgCommit := y.cfgCommit - 2, cfgDiffs := 0, cfgActed := false })
  else ((hit s (crc == s.rd SYS_CFGCRC_REF)).cfgJudge crc).modSys (fun y => { y with cfgPass := false })
/-- CFGCRC_PASS_END: the pass that runs ends with the coming boundary. -/
def execCfgcrcPassEnd (s : State) : Host.Outcome State Fault Refusal :=
  doneCore s (if s.sys.mediaRun && s.sys.cfgPass && (s.tickN + 1) % 16 == 0 then s.cfgEnd else s)
/-- At a tick whose count is a multiple of 16 a pass ends and the next one begins. -/
def State.cfgTick (s : State) : State :=
  if s.tickN % 16 = 0 then
    (if s.sys.cfgPass then s.cfgEnd else s).modSys
      (fun y => { y with cfgPass := true, cfgDirty := false, cfgCommit := if y.cfgCommit = 0 then 0 else 2 })
  else s

/-! ## Ingest (R5, R23, R30, R413 to R415, R435) -/

/-- The inputs that strips and cores read. -/
def inputSources (st : Structure) : List PortSrc :=
  (st.strips.map (·.2) ++ st.cores.flatMap (fun q => q.2.inPorts.map (·.2))).dedup
/-- The module's own block of frame c for an input. -/
def State.ownBlock (s : State) (asrc : List (Nat × List Int)) (c : Nat) : PortSrc → List Int
  | .asp p slot => s.slotBlock asrc (c + 1) p slot
  | .aes r chB => s.slotBlock asrc (c + 1) (16 + r) (b01 chB)
  | .stream k ch => (s.str k).block s.tickLen c ch
  | .mic m => fullTick s.tickLen (s.hwMicBlock m)
/-- The block of an input that the frame ingests. -/
def State.ingestBlock (s : State) (asrc : List (Nat × List Int)) (c : Nat) (src : PortSrc) : List Int :=
  let b := s.twn.bundle c
  if s.follows && b.whole then fullTick s.tickLen (findBlock b.blocks src)
  else if s.twn.role = .active ∧ s.portEither src ∧ !s.srcRuns src then
    (match b.blocks.find? (fun q => q.1 == src) with
     | some q => fullTick s.tickLen q.2
     | none => s.ownBlock asrc c src)
  else s.ownBlock asrc c src
/-- The closed contacts (0 to 7), pressed keys (8 to 11) and occupied jacks (12 to 15) of the module's own Heartwood. -/
def State.ownInputs (s : State) : List Nat :=
  if s.fit.variantA && !s.hwd.lost then
    s.hwd.sentC ++ s.hwd.sentP.map (· + 8) ++ ((upFrom 0 4).filter (fun m => (s.micIn m).jack)).map (· + 12)
  else []
/-- The inputs that the gates of the new tick see. -/
def State.inputsClose (s : State) (c : Nat) : State :=
  let own := s.ownInputs
  let all :=
    if s.follows && (s.twn.bundle c).whole then (s.twn.bundle c).contacts
    else if s.twn.role = .active ∧ s.twn.linkUp ∧ s.twn.bundles.any (fun b => b.frame == c) then s.mergeInputs own c
    else own
  let t := { s with graph := { s.graph with contacts := all.filter (· < 8), ptts := (all.filter (fun n => 8 ≤ n && n < 12)).map (· - 8) } }
  if s.inPair && s.twn.linkUp then t.emit (.twin 14 (c :: (if s.twn.role = .active then all else own))) else t
/-- The items of a frame that cross the link: the active's blocks, the standby's blocks of EITHER ports that run. -/
def State.itemsSend (s : State) (c : Nat) (blocks : List (PortSrc × List Int)) : State :=
  if s.inPair && s.twn.linkUp then
    foldS (fun (t : State) (q : PortSrc × List Int) =>
      if s.twn.role == .active || (s.portEither q.1 && s.srcRuns q.1) then t.emit (.twinItem c q.1 q.2) else t) s blocks
  else s
/-- Step 2 for frame c: the blocks are taken, then every port, stream and input closes. -/
def State.ingest (s : State) (asrc : List (Nat × List Int)) (c : Nat) : State :=
  let srcs := inputSources s.struct
  let blocks := srcs.map (fun q => (q, s.ingestBlock asrc c q))
  let own := if s.twn.role = .standby then srcs.map (fun q => (q, s.ownBlock asrc c q)) else blocks
  let t := (s.itemsSend c own).hwMicsTaken
  let t := foldS (fun (u : State) p => u.portClose (c + 1) p) t (upFrom 0 24)
  let t := foldS (fun (u : State) k => u.strClose c k) t t.rxKeys
  { t with graph := { t.graph with pipe := { t.graph.pipe with portIn := blocks } } }
/-- Step 2 of the boundary that ends tick c. -/
def State.arrivals (s : State) (asrc : List (Nat × List Int)) (c : Nat) : State :=
  let s := (s.hwClose).ingest asrc c
  let s := ((s.inputsClose c).twnClose c).hwCarry
  (s.ledgerAccept (c + 1)).modLedger (fun l => { l with sent := none })

/-! ## Steps 3 to 7 -/

/-- 10 s without a character end RX_SEEN. -/
def State.monIdle (s : State) : State :=
  if s.mon.rxSeen then
    (if 29999 ≤ s.mon.rxIdle then { s with mon := { s.mon with rxSeen := false, rxIdle := 0 } }
     else { s with mon := { s.mon with rxIdle := s.mon.rxIdle + 1 } })
  else s
/-- Step 3: timeouts, reference inputs, a twin's failure. `fault`: the partner's FAULT was closed at an earlier boundary. -/
def State.timeouts (s : State) (obs : TickObs) (fault : Bool) : State :=
  let s := ((s.prsElapse 1).rtcAdvance 1).monIdle
  let s := ((foldS State.strTimeout s s.rxKeys).marginTick).ptpTimeouts
  let s := (s.graftWatch s.tickN).twnTimeouts fault
  s.clkTick obs.phi
/-- The ring-store reads that are late for the new tick (R30, R32, R33). -/
def State.ringLate (s : State) (late : List RingObj) : State :=
  let n := s.lateDue late
  if n = 0 then s else (((s.count TCK_RING_LATE n).flag TCK_STAT 2).raise 2).twinFault
/-- The core that left the fewest cycles in the ending tick. -/
def State.leastCore (s : State) : Nat × Nat :=
  foldS (fun (b : Nat × Nat) k => if coreMargin (s.core k) < b.2 then (k, coreMargin (s.core k)) else b) (0, coreMargin (s.core 0)) coreNums
/-- The record of a tick trace (R521). -/
def State.tickTrace (s : State) : State :=
  let b := s.leastCore
  let late := (coreNums.filter (fun k => (s.core k).overran || (s.core k).dead)).length
  s.trace 1 (spaced [txt "T", dec (s.tickN % 2 ^ 32), txt "load", dec (s.rdF TCK_LOAD 9 0), txt "margin", dec b.2, txt "core", dec b.1,
    txt "ovr", dec late, txt "exe", dec (s.ledger.exe % 2 ^ 32)])
/-- What the scrubs and reads of the ending tick found, and the next words to scrub (R168, R231, R363). -/
def State.scrubs (s : State) (obs : TickObs) : State :=
  let s := foldS State.gainEcc s obs.gainEcc
  let s := foldS State.fulEcc s obs.fulEcc
  let s := foldS State.poolEcc s obs.poolEcc
  ((s.gainScrub).fulScrub).memTick
/-- Step 7, with what else the boundary measures of tick c, which ends. -/
def State.tickEvents (s : State) (c : Nat) (obs : TickObs) : State :=
  let s := (s.judgeCores c).ringLate obs.late
  let s := (s.scrubs obs).hwEvents
  let s := (foldS State.rootLevel s (upFrom 0 24)).portsClear
  let s := ((s.pwdTick).trkTick obs.load obs.qos15Bytes).dramTick
  let s := (s.cfgTick).tickTrace
  s.modSys (fun y => { y with onceTick := [] })

/-! ## Step 8 -/

/-- The samples that a tick emits and stores, as the digest of R416 covers them. -/
def State.emittedWork (s : State) : List Int :=
  (s.graph.pipe.emitted.drop (s.graph.pipe.emitted.length - 1)).flatMap (fun e => e.2.flatMap (·.2))
    ++ s.struct.lines.flatMap (fun i => fullTick s.tickLen (spGet [] s.graph.pipe.outStrip i.src))
    ++ s.struct.recs.flatMap (fun i => s.sinkBlock i.src)
/-- The emit of frame b − 4: cores hand their output strips over first. -/
def State.emitStage (s : State) (obs : TickObs) (mute : Bool) : State :=
  let s := foldS State.handOff s s.struct.cores
  let s := s.emitTick obs.late mute
  s.modTwn (fun t => { t with digestNow := w32 (Config.digest s.emittedWork s.ledger.exe) })
/-- The engine's frames to Heartwood: the heartbeat, unless the engine is faulty, and the samples of the emitted frame (R441, R458). -/
def State.bridgeSend (s : State) (b : Nat) : State :=
  if !s.fit.variantA then s
  else
    let outs := (s.graph.pipe.emitted.filter (fun e => e.1 == b + 1)).flatMap (·.2)
    let xs := (upFrom 0 2).filterMap (fun k => (outs.find? (fun o => o.1 == SinkId.hw k)).map (fun o => (k, o.2)))
    let t := foldS (fun (u : State) (q : Nat × List Int) => u.hwSamples q.1 q.2) s xs
    if s.sys.faulty then t else t.emit (.bridge b xs)
/-- The output-strip, mix and input-strip stages of tick b, on frames b − 3, b − 2 and b − 1. -/
def State.mixStage (s : State) (obs : TickObs) : State :=
  let p := s.graph.pipe
  let s := { s with graph := { s.graph with pipe := { p with moHold := p.mixOut, outStrip := passOuts s.struct p.mixOut p.outSel s.tickLen } } }
  let s := s.lineReads obs.late
  let s := foldS (fun (u : State) (q : Nat × CoreInfo) => u.inbound p.mixOut q) s s.struct.cores
  let s := foldS (fun (u : State) v => u.voiceLate v (s.isLate obs.late (.voice v))) s (s.graph.voices.map (·.1))
  let s := (s.mixTick).prvSee s
  let s := foldS State.voiceStage s (upFrom 0 s.struct.voices)
  { s with graph := { s.graph with pipe := { s.graph.pipe with stripOut := passStrips s.struct s.graph.pipe.portIn s.tickLen } } }
/-- A graft's boundaries t1 and t2 (R110). -/
def State.graftStage (s : State) (b : Nat) : State :=
  match s.img.phase with
  | .graftT1 t => if t = b ∧ !s.twn.suspended then s.graftBegin else s
  | .graftCopied t => if t = b then s.graftSwap b else s
  | _ => s
/-- What leaves in step 8 to the partner and to Heartwood, and the roles. -/
def State.sendStage (s : State) (b : Nat) (digest : W32) : State := ((((s.takeRole).autoResync).twnSend b digest).bridgeSend b)
/-- Step 8 of boundary b: every stage starts its work. -/
def State.stages (s : State) (b : Nat) (obs : TickObs) : State :=
  let ended := s.twn.digestNow
  let s := (s.graftStage b).strApplies
  let s := ((s.emitStage obs (decide (0 < s.sys.realignLeft))).prvTick b obs.prove).tickEntry b
  let s := (s.mixStage obs).hqRefill
  let s := { s with net := { s.net with due := if s.twn.role == Role.grafting then [] else upFrom 0 4 } }
  s.sendStage b ended
/-- A boundary after the ports of a stopping module: no stage starts. In the first of these ticks the streams send the frame emitted last
(R29, R98), then none. -/
def State.stopStage (s : State) (b : Nat) (first : Bool) : State :=
  let s := s.strApplies.hqRefill.restCores
  { s with net := { s.net with due := if first then upFrom 0 4 else [] } }.sendStage b s.twn.digestNow
/-- The media clock stops at the end of the longest lead. -/
def State.mediaHalt (s : State) : State := s.mediaStop.pllStop
/-- The Nap entry's boundary T + Lmax (R504). -/
def State.napStopped (s : State) : State :=
  ((s.jobsStop [1, 2, 3, 4, 5, 6, 7, 8, 9, 10]).mediaHalt).modPwd (fun p => { p with stage := .stopped, napSeen := true })
/-- The longest lead of the ports that stop. -/
def State.stopLead (s : State) : Nat := foldS (fun n (q : Nat × Port) => max n q.2.leadLeft) 0 s.ports
/-- Step 8 under a Nap request or phase 2 of a load, else the stages. -/
def State.step8 (s : State) (b : Nat) (obs : TickObs) : State :=
  match s.pwd.stage with
  | .requested =>
    let t := (s.portsTick b true).stopStage b true
    let t := t.modTwn (fun x => { x with faultFlag := true })
    if t.stopLead = 0 then t.napStopped else t.modPwd (fun p => { p with stage := .stopping t.stopLead })
  | .stopping n =>
    let t := (s.portsTick b true).stopStage b false
    if n ≤ 1 then t.napStopped else t.modPwd (fun p => { p with stage := .stopping (n - 1) })
  | _ =>
    match s.img.phase with
    | .armed t =>
      if t ≤ b then
        let u := (s.phase2Begin b).stopStage b true
        if u.img.leadMax = 0 then u.mediaHalt else u
      else s.stages b obs
    | .stopping n =>
      let u := (s.portsTick b true).stopStage b false
      if n ≤ 1 then u.mediaHalt else u.modImg (fun p => { p with phase := .stopping (n - 1) })
    | _ => s.imgLeadTick.stages b obs

/-! ## The boundary -/

/-- The boundary that ends tick c and begins the next, in the order of R25. -/
def State.boundary (s : State) (obs : TickObs) : State :=
  let c := s.tickN
  let fault := s.twn.faultClosed
  let obs := { obs with late := if s.lateCause then obs.late else [] }
  let s := (((((s.mixEnd).cutoffNow).timTick obs.dt).advance).selTick).lineFades
  let s := ((s.arrivals obs.asrcIn c).timeouts obs fault)
  let s := State.ledgerExecute s.tickN s.ledger.entries.length s
  if s.sys.phase != .running then s
  else
    let s := ((s.swapStep s.tickN).step6).tickEvents c obs
    s.step8 s.tickN obs
/-- A tick's time without a media clock: the seed's clocks, network time and the qualification of the references go on (R276). -/
def State.idleTick (s : State) (obs : TickObs) : State :=
  if s.seedOn && s.sys.phase != .starting then
    let t := (((s.timTick obs.dt).prsElapse 1).rtcAdvance 1).monIdle.ptpTimeouts.hqRefill.modSys (fun y => { y with onceTick := [] })
    if s.sys.phase == .running then (((t.refTick obs.phi).holdTick).holdNote).dramTime.carderTime else t.napTime
  else s
/-- TICK_BOUNDARY. -/
def execTickBoundary (obs : TickObs) (s : State) : Host.Outcome State Fault Refusal :=
  done s (if s.sys.mediaRun && s.sys.phase == .running then s.boundary obs else s.idleTick obs)

end Sys2Proof.Machine
end

