-- ==== Sys2Proof/Machine/Monitor.lean ====
section
/-! DEFINITION. The Dravot monitor (chapter 19): the line (R513, R514), commands and replies (R515 to R517), reads without side effects
(R518), writes (R519), TEST mode (R520), traces (R521). -/

namespace Sys2Proof.Machine

def State.modMon (s : State) (f : MonSt → MonSt) : State := { s with mon := f s.mon }
def crlf : List Byte := [0x0D, 0x0A]
/-- A reply line. -/
def State.say (s : State) (line : List Byte) : State := s.modMon (fun m => { m with tx := m.tx ++ line ++ crlf })
/-- The final line of a command, which the prompt follows. -/
def State.sayEnd (s : State) (line : List Byte) : State := (s.say line).modMon (fun m => { m with promptNext := true })
def State.sayOk (s : State) : State := s.sayEnd (txt "ok")
def errName : Nat → String
  | 1 => "SYNTAX"
  | 2 => "RANGE"
  | 3 => "DEVELOP"
  | 4 => "PRESENCE"
  | 5 => "BUSY"
  | 6 => "TIMEOUT"
  | 7 => "LOCKED"
  | _ => "DISABLED"
def State.sayErr (s : State) (n : Nat) : State := s.sayEnd (spaced [txt "err", txt "0" ++ dec n, txt (errName n)])

/-! ## Numbers and words of a line (R515) -/

/-- A character in lower case. -/
def lower (c : Byte) : Byte := if 0x41 ≤ c.toNat ∧ c.toNat ≤ 0x5A then c + 0x20 else c
/-- The value of a digit to a base. -/
def digitOf (base : Nat) (c : Byte) : Option Nat :=
  let n := c.toNat
  let v := if 0x30 ≤ n ∧ n ≤ 0x39 then some (n - 0x30) else if 0x61 ≤ n ∧ n ≤ 0x66 then some (n - 0x57) else none
  match v with
  | some d => if d < base then some d else none
  | none => none
/-- Digits with underscores between them; at least one digit. -/
def digitsOf (base : Nat) : List Byte → Option Nat → Option Nat
  | [], acc => acc
  | c :: cs, acc =>
    if c = 0x5F then digitsOf base cs acc
    else match digitOf base c with
      | some d => digitsOf base cs (some (acc.getD 0 * base + d))
      | none => none
/-- A number, decimal or with the prefix 0x. -/
def numOf : List Byte → Option Nat
  | 0x30 :: 0x78 :: cs => digitsOf 16 cs none
  | cs => digitsOf 10 cs none
/-- The words of a line. -/
def wordsIn : List Byte → List Byte → List (List Byte)
  | [], w => if w.isEmpty then [] else [w]
  | c :: cs, w => if c = 0x20 then (if w.isEmpty then wordsIn cs [] else w :: wordsIn cs []) else wordsIn cs (w ++ [c])
/-- The numbers of an argument list; none where a word is no number. -/
def numsOf : List (List Byte) → Option (List Nat)
  | [] => some []
  | w :: ws => match numOf w, numsOf ws with
    | some n, some ns => some (n :: ns)
    | _, _ => none
/-- A command with values, which must fit a word. -/
def valueCmd (vs : List Nat) (c : MonCmd) : MonCmd := if vs.all (fun v => decide (v < 2 ^ 32)) then c else .range
/-- The command that a word and its numbers spell. -/
def wordCmd (w : List Byte) (ns : List Nat) : MonCmd :=
  if w = txt "peek" then (match ns with | [a] => .peek a 1 | [a, n] => .peek a n | _ => .bad)
  else if w = txt "dump" then (match ns with | [a, n] => .dump a n | _ => .bad)
  else if w = txt "dram" then (match ns with | [a, n] => .dram a n | _ => .bad)
  else if w = txt "ev" then (match ns with | [] => .ev | _ => .bad)
  else if w = txt "job" then (match ns with | [k] => .job k | _ => .bad)
  else if w = txt "ledger" then (match ns with | [i] => .ledger i 1 | [i, n] => .ledger i n | _ => .bad)
  else if w = txt "stat" then (match ns with | [] => .stat | _ => .bad)
  else if w = txt "stop" then (match ns with | [] => .stop | _ => .bad)
  else if w = txt "baud" then (match ns with | [r] => .baud r | _ => .bad)
  else if w = txt "poke" then (match ns with | [a, v] => valueCmd [v] (.poke a (w32 v)) | _ => .bad)
  else if w = txt "rmw" then (match ns with | [a, v, m] => valueCmd [v, m] (.rmw a (w32 v) (w32 m)) | _ => .bad)
  else .bad
/-- The command of a line. -/
def parseLine (line : List Byte) : MonCmd :=
  match wordsIn (line.map lower) [] with
  | [] => .bad
  | w :: ws =>
    if w = txt "trace" then
      (match ws with
       | [k, x] => (match numOf x with
         | some n => if k = txt "tick" then .traceTick n else if k = txt "ev" then .traceEv n
             else if k = txt "ledger" then .traceLedger n else .bad
         | none => .bad)
       | _ => .bad)
    else if w = txt "test" then
      (match ws with
       | [x] => if x = txt "on" then .testOn else if x = txt "off" then .testOff else .bad
       | _ => .bad)
    else match numsOf ws with
      | some ns => wordCmd w ns
      | none => .bad

/-! ## Reads (R518) -/

/-- A word as the monitor reads it; none where the access times out. -/
def State.monRead (s : State) (a : Nat) : State × Option W32 :=
  if a < 0x240000 then
    if s.msixAt a then (s, some (match msixKey a with | some k => s.msixWord k | none => 0))
    else match locate a with
      | some (b, _) => if s.hwSilent b then (s.trkTimeout 1 6 a, none) else let r := s.monReg a; (r.1, some r.2)
      | none => (s, some 0)
  else if a < 0x1000000 then (s, some 0)
  else if a < 0x2000000 then (s, some (if s.underTest 0 then 0 else s.poolW (a - 0x1000000)))
  else if a < 0x3000000 then (s, some (if s.underTest 1 || fulMem a == 3 then 0 else (s.fulRead a none).2))
  else if 0x4000000 ≤ a ∧ a < 0xC000000 then
    (s, some (if s.underTest 2 || s.gainHole (a % 2 ^ 26) then 0 else s.canopy.gainWord (decide (0x8000000 ≤ a)) (a % 2 ^ 26)))
  else if 0xC000000 ≤ a ∧ a < 0x10000000 then
    if s.apOutside a .word || s.dram.frozen then (s, some 0)
    else
      let r := s.burst 1 8 (s.apAddr a) false (List.replicate 4 none) []
      (r.1, some (w32 (leNat r.2)))
  else (s, some 0)
/-- `n` words from an address up, and whether all were read. -/
def State.monWords (a : Nat) : Nat → State → State × List W32 × Bool
  | 0, s => (s, [], true)
  | n + 1, s =>
    let r := s.monRead a
    match r.2 with
    | none => (r.1, [], false)
    | some v =>
      let q := State.monWords (a + 4) n r.1
      (q.1, v :: q.2.1, q.2.2)
/-- An address as the monitor writes it; one of DRAM above 4 GiB shows its upper digits first. -/
def addrText (a : Nat) : List Byte :=
  if a < 2 ^ 32 then hexW (w32 a)
  else txt "0x" ++ (if a < 2 ^ 36 then [] else [hexDigit (a / 2 ^ 36 % 16)]) ++ [hexDigit (a / 2 ^ 32 % 16), 0x5F] ++ (hexW (w32 a)).drop 2
/-- A line of an address and words. -/
def wordLine (a : Nat) (ws : List W32) : List Byte := addrText a ++ txt ": " ++ spaced (ws.map hexW)
/-- The lines of `w` words each. -/
def dumpLines (w : Nat) : Nat → Nat → List W32 → List (List Byte)
  | 0, _, _ => []
  | f + 1, a, ws => if ws.isEmpty then [] else wordLine a (ws.take w) :: dumpLines w f (a + 4 * w) (ws.drop w)
/-- `peek` and `dump`: lines of `w` words. -/
def State.monShow (s : State) (w a n : Nat) : State :=
  let r := State.monWords a n s
  let t := foldS State.say r.1 (dumpLines w n a r.2.1)
  if r.2.2 then t.sayOk else t.sayErr 6
/-- `dram`: through the steward's own path; what lies outside the installed memory reads 0. -/
def State.monDramRead (s : State) (a n : Nat) : State :=
  let r := s.engineRead a (min n (s.dramSize - a)) 1 false
  let bs := r.2.1 ++ List.replicate (n - r.2.1.length) 0
  (foldS State.say r.1 (dumpLines 4 n a (wordsOf (n / 4) bs))).sayOk
/-- `ledger`: a line for each entry. -/
def State.monEntries : Nat → Nat → State → State
  | 0, _, s => s.sayOk
  | n + 1, i, s =>
    let r := s.engineRead (entryAddr (i % 65536)) 32 1 false
    let f (off k : Nat) : Nat := leAt r.2.1 off k
    let t := r.1.say (spaced ([dec (f 0 8), dec (f 8 8), dec (f 16 2 % 16), dec (f 16 2 / 16 % 16), dec (f 18 2)]
      ++ [hexW (w32 (f 20 4)), hexW (w32 (f 24 4)), hexW (w32 (f 28 4))]))
    State.monEntries n (i + 1) t
/-- `job`. -/
def State.monJobLine (s : State) (k : Nat) : State :=
  let j := s.slot k
  let st := j.status
  (s.say (spaced [txt "slot", dec k, txt "kind", dec j.kind.toNat, txt "state", dec (fld st 31 28), txt "error", dec (fld st 27 20),
    txt "progress", dec (fld st 19 0), txt "total", dec j.total])).sayOk
/-- A register's line of `stat`. -/
def State.statLine (q : State × Bool) (n : String × List Nat) : State × Bool :=
  let r := foldS (fun (p : State × List W32 × Bool) a =>
    let x := p.1.monRead a
    (x.1, p.2.1 ++ [x.2.getD 0], p.2.2 && x.2.isSome)) (q.1, [], true) n.2
  (r.1.say (spaced (txt n.1 :: r.2.1.map hexW)), q.2 && r.2.2)
/-- `stat`: the state registers; the high word of a two-word value first. -/
def State.monStatLines (s : State) : State :=
  let a := foldS State.statLine (s, true) [("SYS_STAT", [SYS_STAT]), ("TCK_STAT", [TCK_STAT]), ("IMG_STATE", [IMG_STATE]), ("TWN_STATE", [TWN_STATE]),
    ("CLK_STATE", [CLK_STATE])]
  let b := if s.fit.variantA then State.statLine a ("HWD_STATE", [HWD_STATE]) else (a.1.say (txt "HWD_STATE -"), a.2)
  let c := foldS State.statLine b [("LDG_ACC", [LDG_ACC_HI, LDG_ACC_LO]), ("LDG_EXE", [LDG_EXE_HI, LDG_EXE_LO]), ("TCK_LOAD", [TCK_LOAD])]
  if c.2 then c.1.sayOk else c.1.sayErr 6

/-! ## Writes (R519) -/

/-- The effect of a monitor write; unmapped ranges are ignored without a flag. -/
def State.monWrite (s : State) (a : Nat) (v : W32) : State :=
  if a < 0x240000 then
    if s.msixAt a then (match msixKey a with | some k => if k < 16 then s.msixWrite k v else s | none => s) else s.regWrite 3 a v
  else if a < 0x1000000 then s
  else if a < 0x2000000 then if s.underTest 0 then s else s.poolWrW (a - 0x1000000) v
  else if a < 0x3000000 then if s.underTest 1 || fulMem a == 3 then s else s.fulWrite a .word v cleanWrite
  else if a < 0x4000000 then s
  else if a < 0x8000000 then if s.underTest 2 || s.gainHole (a % 2 ^ 26) then s else s.gainWin a .word v cleanWrite
  else if a < 0xC000000 then if s.gainHole (a % 2 ^ 26) then s else s.unmappedAt a
  else if a < 0x10000000 then
    let d := s.apAddr a
    if s.apOutside a .word || s.dram.frozen then s
    else if d < 0x1000000 ∧ s.stagingHeld then s.flag IMG_STAT 2
    else if 0x1000000 ≤ d ∧ d < 0x4000000 then s.flag (DRC_STAT 0) 12
    else (s.burst 1 8 d true ((leBytes 4 v.toNat).map some) []).1
  else s
/-- The register that an address reaches. -/
def regAt (a : Nat) : Option Nat := if a < 0x240000 then (locate a).map (fun q => blkBase q.1 + q.2) else none
/-- The class of an address; PRS_RESEAL judges itself. -/
def regClass (a : Nat) : Nat := match regAt a with
  | some r => if r = PRS_RESEAL then 0 else classAt r
  | none => 0
/-- Whether an access reaches the HWD windows while Heartwood is silent. -/
def State.monSilent (s : State) (a : Nat) : Bool :=
  decide (a < 0x240000) && (match locate a with
    | some (b, _) => s.hwSilent b
    | none => false)
/-- The Trunk target of a host address (R384). -/
def State.targetOf (s : State) (a : Nat) : Nat :=
  if a < 0x1000000 then (if 0xB0000 ≤ a ∧ a < 0xC0000 then 6 else 5)
  else if a < 0x2000000 then 2
  else if a < 0x4000000 then 3
  else if a < 0xC000000 then 4
  else dramCh (s.apAddr a)
/-- A write and its reply. A reset that the write orders leaves no reply; a write of PRS_RESEAL is refused, not performed. -/
def State.monStore (s : State) (a : Nat) (v : W32) : State :=
  let t := s.monWrite a v
  if s.monSilent a then (t.say (wordLine a [0])).sayErr 6
  else if t.sys.phase != s.sys.phase then t
  else
    let t := if regAt a = some PRS_RESEAL then t else (t.count MON_WRITES 1).flagRaise MON_STAT 2 126
    let r := t.monRead a
    (r.1.say (wordLine a [r.2.getD 0])).sayOk
/-- The checks of `poke` and `rmw` in the order of their codes; then the write. -/
def State.monChecked (s : State) (a : Nat) (f : State → State) : State :=
  if a % 4 ≠ 0 ∨ 2 ^ 32 ≤ a then s.sayErr 2
  else if !s.class2 then (s.deny 2 3 a).sayErr 3
  else if regClass a = 1 ∧ !s.class1 then (s.deny 1 3 a).sayErr 4
  else f s
/-- `rmw`: in NORMAL the lock is refused; else the masked bits are written under it. -/
def State.monRmw (s : State) (a : Nat) (v m : W32) : State :=
  if s.trkMode = 1 then (s.lockRequest 1 (s.targetOf a) a).sayErr 7
  else
    let r := s.monRead a
    r.1.monStore a ((r.2.getD 0 &&& ~~~m) ||| (v &&& m))
/-- `test on` and `test off`. -/
def State.monTest (s : State) (on : Bool) : State :=
  if !s.class2 then (s.deny 2 3 TRK_MODE).sayErr 3
  else if on && s.img.running.isSome && s.ports.any (fun p => p.2.st != .off) then s.sayErr 2
  else
    let t := { s with trk := { s.trk with test := on } }.lockMode
    (t.say (spaced [txt "mode", dec t.trkMode])).sayOk

/-! ## Traces (R521) -/

/-- A trace starts. -/
def State.traceStart (s : State) (kind n : Nat) : State :=
  if n = 0 ∨ 3000 < n then s.sayErr 2
  else s.modMon (fun m => { m with trace := kind, left := n, buf := [], dropped := 0 })
/-- The lines that end a trace; records not yet sent are discarded. -/
def State.traceEnd (s : State) : State :=
  let d := s.mon.dropped
  let t := s.modMon (fun m => { m with trace := 0, left := 0, buf := [] })
  (t.when (d != 0) (·.say (spaced [txt "dropped", dec d]))).sayOk

/-! ## Serving a command (R515 to R517) -/

/-- Whether a command of this form is served while MON_CTL.ENABLE is 0. -/
def alwaysServed : MonCmd → Bool
  | .baud _ => true
  | .stat => true
  | .bad => true
  | .range => true
  | _ => false
/-- A command runs: its reply and its final line. -/
def State.monRun (s : State) (c : MonCmd) : State :=
  let s := s.modMon (fun m => { m with prompt := false })
  if !s.bit MON_CTL 0 && !alwaysServed c then s.sayErr 8
  else match c with
  | .bad => s.sayErr 1
  | .range => s.sayErr 2
  | .peek a n => if a % 4 ≠ 0 ∨ 2 ^ 32 ≤ a ∨ n = 0 ∨ 256 < n then s.sayErr 2 else s.monShow 1 a n
  | .dump a n => if a % 4 ≠ 0 ∨ 2 ^ 32 ≤ a ∨ n < 4 ∨ 65536 < n then s.sayErr 2 else s.monShow 4 a ((n + 15) / 16 * 4)
  | .dram a n => if a % 16 ≠ 0 ∨ n < 4 ∨ 65536 < n then s.sayErr 2 else s.monDramRead a ((n + 15) / 16 * 16)
  | .ev => (foldS (fun (t : State) e => t.say (eventLabel e)) s ((upFrom 0 128).filter s.pends)).sayOk
  | .job k => if 16 ≤ k then s.sayErr 2 else s.monJobLine k
  | .ledger i n => if 65536 ≤ i ∨ n = 0 ∨ 64 < n then s.sayErr 2 else State.monEntries n i s
  | .stat => s.monStatLines
  | .traceTick n => s.traceStart 1 n
  | .traceEv n => s.traceStart 2 n
  | .traceLedger n => s.traceStart 3 n
  | .stop => s.sayOk
  | .baud r => if 5 < r then s.sayErr 2 else (s.modMon (fun m => { m with baudLine := some r })).sayOk
  | .poke a v => s.monChecked a (fun t => t.monStore a v)
  | .rmw a v m => s.monChecked a (fun t => t.monRmw a v m)
  | .testOn => s.monTest true
  | .testOff => s.monTest false
/-- The steward serves the monitor: it has started after the reset or wake (R506). -/
def State.monUp (s : State) : Bool := s.engineUp && s.sys.answering
/-- A complete command arrives: it runs at the prompt, waits while a reply is sent, and during a trace only `stop` is served. -/
def State.monLine (s : State) (c : MonCmd) : State :=
  if !s.monUp then s
  else if s.mon.trace ≠ 0 then
    match c with
    | .stop =>
      let t := s.traceEnd.modMon (fun m => { m with tx := m.tx ++ txt "> " })
      t.sayOk
    | .bad => s.sayErr 1
    | _ => s.sayErr 5
  else if s.mon.prompt then s.monRun c
  else s.modMon (fun m => { m with waiting := m.waiting ++ [c] })

/-! ## Characters (R513 to R515) -/

/-- An accepted character is echoed. -/
def State.echo (s : State) (c : Byte) : State := s.when (s.bit MON_CTL 1) (·.modMon (fun m => { m with tx := m.tx ++ [c] }))
/-- CR or LF: the line is parsed and its command arrives. -/
def State.lineEnd (s : State) : State :=
  let c := if s.mon.tooLong then .bad else parseLine s.mon.line.reverse
  (s.modMon (fun m => { m with line := [], tooLong := false })).monLine c
/-- An accepted character (R515). -/
def State.monChar (s : State) (c : Byte) : State :=
  let cr := s.mon.lastCr
  let s := s.modMon (fun m => { m with lastCr := c == 0x0D, brk := false })
  if c = 0x0A ∧ cr then s.echo c
  else if c = 0x0D ∨ c = 0x0A then (s.echo c).lineEnd
  else if s.mon.tooLong then s
  else if c = 0x08 ∨ c = 0x7F then (s.echo c).modMon (fun m => { m with line := m.line.drop 1 })
  else if 120 ≤ s.mon.line.length then s.modMon (fun m => { m with tooLong := true })
  else (s.echo c).modMon (fun m => { m with line := c :: m.line })
/-- MONITOR_CHARACTER: one with a framing error is discarded and counted; the first after 10 s raises EV124. -/
def execMonitorCharacter (char : Byte) (framing : Bool) (s : State) : Host.Outcome State Fault Refusal :=
  done s (
    if !s.monUp then s
    else if framing then (s.count MON_LINE_ERR 1).flagRaise MON_STAT 1 127
    else
      let t := if s.mon.rxSeen then s else s.flagRaise MON_STAT 0 124
      (t.modMon (fun m => { m with rxSeen := true, rxIdle := 0 })).monChar char)
/-- MONITOR_BREAK: the line is discarded, a trace stops, `ok`, and 115,200 baud again. -/
def execMonitorBreak (s : State) : Host.Outcome State Fault Refusal :=
  doneCore s (
    if !s.monUp then s
    else
      let t := (s.wr MON_BAUD 0).modMon (fun m => { m with
        line := [], tooLong := false, lastCr := false, brk := true, baudNext := none, baudLine := none, prompt := false })
      if t.mon.trace ≠ 0 then t.traceEnd else t.sayOk)
/-- UNKNOWN_COMMAND: a line that matches no command, or is too long. -/
def execUnknownCommand (line : List Byte) (s : State) : Host.Outcome State Fault Refusal :=
  doneCore s (if 120 < line.length ∨ parseLine line = .bad then s.monLine .bad else s)

/-- The reply, the prompt or a record has been sent to its end. -/
def State.lineIdle (s : State) : State :=
  let s := match s.mon.baudLine with
    | some r => if s.mon.promptNext then (s.wr MON_BAUD (w32 r)).modMon (fun m => { m with baudLine := none }) else s
    | none => s
  if s.mon.promptNext then s.modMon (fun m => { m with promptNext := false, tx := txt "> " })
  else if s.mon.trace ≠ 0 then
    if s.mon.buf.isEmpty && s.mon.left == 0 then s.traceEnd else s
  else
    match s.mon.waiting with
    | [] => s.modMon (fun m => { m with prompt := true })
    | c :: cs => (s.modMon (fun m => { m with waiting := cs })).monRun c
/-- The next record of a trace goes to an idle line. -/
def State.recordNext (s : State) : State :=
  match s.mon.tx, s.mon.buf with
  | [], l :: ls => s.modMon (fun m => { m with buf := ls, tx := l ++ crlf })
  | _, _ => s
/-- MON_TX_CHARACTER_SENT: the stop bit of the next character on MON_TX. -/
def execMonTxCharacterSent (s : State) : Host.Outcome State Fault Refusal :=
  done s (
    let s := s.recordNext
    match s.mon.tx with
    | [] => s
    | c :: cs =>
      let t := (s.modMon (fun m => { m with tx := cs })).emit (.mon c)
      let t := match t.mon.baudNext with
        | some r => (t.wr MON_BAUD (w32 r)).modMon (fun m => { m with baudNext := none })
        | none => t
      if cs.isEmpty then t.lineIdle else t)

/-! ## The commands of R516 -/

/-- PEEK. -/
def execMonPeek (addr n : Nat) (s : State) : Host.Outcome State Fault Refusal := doneCore s (s.monLine (.peek addr n))
/-- DUMP. -/
def execMonDump (addr n : Nat) (s : State) : Host.Outcome State Fault Refusal := doneCore s (s.monLine (.dump addr n))
/-- DRAM. -/
def execMonDram (addr n : Nat) (s : State) : Host.Outcome State Fault Refusal := doneCore s (s.monLine (.dram addr n))
/-- EV. -/
def execMonEv (s : State) : Host.Outcome State Fault Refusal := doneCore s (s.monLine .ev)
/-- JOB. -/
def execMonJob (slot : Nat) (s : State) : Host.Outcome State Fault Refusal := doneCore s (s.monLine (.job slot))
/-- LEDGER. -/
def execMonLedger (idx n : Nat) (s : State) : Host.Outcome State Fault Refusal := doneCore s (s.monLine (.ledger idx n))
/-- STAT. -/
def execMonStat (s : State) : Host.Outcome State Fault Refusal := doneCore s (s.monLine .stat)
/-- TRACE_TICK. -/
def execTraceTick (n : Nat) (s : State) : Host.Outcome State Fault Refusal := doneCore s (s.monLine (.traceTick n))
/-- TRACE_EV. -/
def execTraceEv (n : Nat) (s : State) : Host.Outcome State Fault Refusal := doneCore s (s.monLine (.traceEv n))
/-- TRACE_LEDGER. -/
def execTraceLedger (n : Nat) (s : State) : Host.Outcome State Fault Refusal := doneCore s (s.monLine (.traceLedger n))
/-- STOP. -/
def execMonStop (s : State) : Host.Outcome State Fault Refusal := doneCore s (s.monLine .stop)
/-- BAUD. -/
def execBaud (code : Nat) (s : State) : Host.Outcome State Fault Refusal := doneCore s (s.monLine (.baud code))
/-- POKE. -/
def execPoke (addr : Nat) (val : W32) (s : State) : Host.Outcome State Fault Refusal := done s (s.monLine (.poke addr val))
/-- RMW. -/
def execRmw (addr : Nat) (val mask : W32) (s : State) : Host.Outcome State Fault Refusal := done s (s.monLine (.rmw addr val mask))
/-- TEST_ON. -/
def execTestOn (s : State) : Host.Outcome State Fault Refusal := doneCore s (s.monLine .testOn)
/-- TEST_OFF. -/
def execTestOff (s : State) : Host.Outcome State Fault Refusal := doneCore s (s.monLine .testOff)

end Sys2Proof.Machine
end

