-- ==== Sys2Proof/Machine/Dispatch.lean ====
section
/-! DEFINITION. The dispatch: one arm per command, each one direct call of that command's meaning. -/

namespace Sys2Proof.Machine

/-- What a command does to everything but the queue. -/
def exec (i : Instr) (s : State) : Host.Outcome State Fault Refusal :=
  match i with
  | .tickBoundary obs => Sys2Proof.Machine.execTickBoundary obs s
  | .coreOverrun core => Sys2Proof.Machine.execCoreOverrun core s
  | .tckRealign val => Sys2Proof.Machine.execTckRealign val s
  | .realignCounterLoad => Sys2Proof.Machine.execRealignCounterLoad s
  | .realignEnd => Sys2Proof.Machine.execRealignEnd s
  | .registerWrite addr val => Sys2Proof.Machine.execRegisterWrite addr val s
  | .rcRegisterRead addr hit => Sys2Proof.Machine.execRcRegisterRead addr hit s
  | .multiwordCaptureRead addr => Sys2Proof.Machine.execMultiwordCaptureRead addr s
  | .narrowWrite addr width val => Sys2Proof.Machine.execNarrowWrite addr width val s
  | .unmapped addr isWrite val => Sys2Proof.Machine.execUnmapped addr isWrite val s
  | .functionLevelReset => Sys2Proof.Machine.execFunctionLevelReset s
  | .hostLink up => Sys2Proof.Machine.execHostLink up s
  | .spiWriteFrame bytes => Sys2Proof.Machine.execSpiWriteFrame bytes s
  | .spiReadFrame bytes waits => Sys2Proof.Machine.execSpiReadFrame bytes waits s
  | .spiReadTimeout bytes => Sys2Proof.Machine.execSpiReadTimeout bytes s
  | .spiStatusFrame tag => Sys2Proof.Machine.execSpiStatusFrame tag s
  | .spiShort bytes => Sys2Proof.Machine.execSpiShort bytes s
  | .cfgcrcPassEnd => Sys2Proof.Machine.execCfgcrcPassEnd s
  | .commit val => Sys2Proof.Machine.execCommit val s
  | .cfgcrcRefWrite val => Sys2Proof.Machine.execCfgcrcRefWrite val s
  | .evtPendClear word val => Sys2Proof.Machine.execEvtPendClear word val s
  | .evtRaise val => Sys2Proof.Machine.execEvtRaise val s
  | .sysReset val => Sys2Proof.Machine.execSysReset val s
  | .stewardWatchdog => Sys2Proof.Machine.execStewardWatchdog s
  | .resetN low => Sys2Proof.Machine.execResetN low s
  | .coldStart => Sys2Proof.Machine.execColdStart s
  | .wakeSequence obs => Sys2Proof.Machine.execWakeSequence obs s
  | .ready => Sys2Proof.Machine.execReady s
  | .bootBgLoad bytes => Sys2Proof.Machine.execBootBgLoad bytes s
  | .wakeAbandon => Sys2Proof.Machine.execWakeAbandon s
  | .coldStartRetry => Sys2Proof.Machine.execColdStartRetry s
  | .imgLoad slot bytes => Sys2Proof.Machine.execImgLoad slot bytes s
  | .imgDmaTimeout slot => Sys2Proof.Machine.execImgDmaTimeout slot s
  | .imgTwinReport ssig fprint reply => Sys2Proof.Machine.execImgTwinReport ssig fprint reply s
  | .imgLoadPhase2 => Sys2Proof.Machine.execImgLoadPhase2 s
  | .imgMediaRestart => Sys2Proof.Machine.execImgMediaRestart s
  | .graft slot bytes => Sys2Proof.Machine.execGraft slot bytes s
  | .graftT1 => Sys2Proof.Machine.execGraftT1 s
  | .graftStateComplete copy => Sys2Proof.Machine.execGraftStateComplete copy s
  | .graftT2 => Sys2Proof.Machine.execGraftT2 s
  | .jobReservedKind slot val => Sys2Proof.Machine.execJobReservedKind slot val s
  | .jobDispatch slot => Sys2Proof.Machine.execJobDispatch slot s
  | .jobAbort slot val => Sys2Proof.Machine.execJobAbort slot val s
  | .jobSafePointAbort slot => Sys2Proof.Machine.execJobSafePointAbort slot s
  | .jobDone slot => Sys2Proof.Machine.execJobDone slot s
  | .ledgerSubmit val => Sys2Proof.Machine.execLedgerSubmit val s
  | .ledgerAccept => Sys2Proof.Machine.execLedgerAccept s
  | .ledgerNop seq => Sys2Proof.Machine.execLedgerNop seq s
  | .regWrite seq => Sys2Proof.Machine.execRegWrite seq s
  | .swap seq => Sys2Proof.Machine.execSwap seq s
  | .swapTakesEffect => Sys2Proof.Machine.execSwapTakesEffect s
  | .crosspointStepTimeout tile b a => Sys2Proof.Machine.execCrosspointStepTimeout tile b a s
  | .announce seq => Sys2Proof.Machine.execAnnounce seq s
  | .roleSwap seq => Sys2Proof.Machine.execRoleSwap seq s
  | .grfSelSet val => Sys2Proof.Machine.execGrfSelSet val s
  | .grfPriSet val => Sys2Proof.Machine.execGrfPriSet val s
  | .selectorFadeEnd sel => Sys2Proof.Machine.execSelectorFadeEnd sel s
  | .rngDlySet val => Sys2Proof.Machine.execRngDlySet val s
  | .rngLenSet val => Sys2Proof.Machine.execRngLenSet val s
  | .delayFadeEnd line => Sys2Proof.Machine.execDelayFadeEnd line s
  | .playEnd voice => Sys2Proof.Machine.execPlayEnd voice s
  | .plyCancelStop voice => Sys2Proof.Machine.execPlyCancelStop voice s
  | .plyCancelQueue voice => Sys2Proof.Machine.execPlyCancelQueue voice s
  | .plyCancelBoth voice => Sys2Proof.Machine.execPlyCancelBoth voice s
  | .recorderSegmentEnd ch => Sys2Proof.Machine.execRecorderSegmentEnd ch s
  | .recorderExport slot n => Sys2Proof.Machine.execRecorderExport slot n s
  | .gainShadowWrite addr width val hit => Sys2Proof.Machine.execGainShadowWrite addr width val hit s
  | .cnpDetSet val => Sys2Proof.Machine.execCnpDetSet val s
  | .cnpSclSet val => Sys2Proof.Machine.execCnpSclSet val s
  | .detectorHoldExpiry d => Sys2Proof.Machine.execDetectorHoldExpiry d s
  | .sceneStageLoad slot n collide => Sys2Proof.Machine.execSceneStageLoad slot n collide s
  | .sceneStageMirror slot n => Sys2Proof.Machine.execSceneStageMirror slot n s
  | .fullerMemoryWrite addr width val hit => Sys2Proof.Machine.execFullerMemoryWrite addr width val hit s
  | .nop core f => Sys2Proof.Machine.execNop core f s
  | .clr core f => Sys2Proof.Machine.execClr core f s
  | .mpy core f => Sys2Proof.Machine.execMpy core f s
  | .mac core f => Sys2Proof.Machine.execMac core f s
  | .msu core f => Sys2Proof.Machine.execMsu core f s
  | .dmpy core f => Sys2Proof.Machine.execDmpy core f s
  | .dmac core f => Sys2Proof.Machine.execDmac core f s
  | .cmpy core f => Sys2Proof.Machine.execCmpy core f s
  | .cmac core f => Sys2Proof.Machine.execCmac core f s
  | .cmacj core f => Sys2Proof.Machine.execCmacj core f s
  | .add core f => Sys2Proof.Machine.execAdd core f s
  | .sub core f => Sys2Proof.Machine.execSub core f s
  | .addx core f => Sys2Proof.Machine.execAddx core f s
  | .asl core f => Sys2Proof.Machine.execAsl core f s
  | .asr core f => Sys2Proof.Machine.execAsr core f s
  | .neg core f => Sys2Proof.Machine.execNeg core f s
  | .abs core f => Sys2Proof.Machine.execAbs core f s
  | .maxa core f => Sys2Proof.Machine.execMaxa core f s
  | .cmp core f => Sys2Proof.Machine.execCmp core f s
  | .tst core f => Sys2Proof.Machine.execTst core f s
  | .div core f => Sys2Proof.Machine.execDiv core f s
  | .copy core f => Sys2Proof.Machine.execCopy core f s
  | .jmp core j => Sys2Proof.Machine.execJmp core j s
  | .call core j => Sys2Proof.Machine.execCall core j s
  | .ret core j => Sys2Proof.Machine.execRet core j s
  | .doLoop core j => Sys2Proof.Machine.execDoLoop core j s
  | .dolc core j => Sys2Proof.Machine.execDolc core j s
  | .brklp core j => Sys2Proof.Machine.execBrklp core j s
  | .tend core j => Sys2Proof.Machine.execTend core j s
  | .kImmediate core sel val => Sys2Proof.Machine.execKImmediate core sel val s
  | .tTransfer core dst src => Sys2Proof.Machine.execTTransfer core dst src s
  | .reservedEncoding core word => Sys2Proof.Machine.execReservedEncoding core word s
  | .portEnable port => Sys2Proof.Machine.execPortEnable port s
  | .portDisable port => Sys2Proof.Machine.execPortDisable port s
  | .portLeadExpiry port => Sys2Proof.Machine.execPortLeadExpiry port s
  | .portReceiveFrame port sp frac len words => Sys2Proof.Machine.execPortReceiveFrame port sp frac len words s
  | .portTransmitFrame port sp frac => Sys2Proof.Machine.execPortTransmitFrame port sp frac s
  | .portClockLoss port => Sys2Proof.Machine.execPortClockLoss port s
  | .portClockQualify port rate => Sys2Proof.Machine.execPortClockQualify port rate s
  | .rateWindowEnd port rate => Sys2Proof.Machine.execRateWindowEnd port rate s
  | .slotMaskWrite port tx val => Sys2Proof.Machine.execSlotMaskWrite port tx val s
  | .asrcLock port ratio => Sys2Proof.Machine.execAsrcLock port ratio s
  | .aes3ReceiveFrame rx sp frac a b parityErr biphaseErr => Sys2Proof.Machine.execAes3ReceiveFrame rx sp frac a b parityErr biphaseErr s
  | .aesCs rx csA csB => Sys2Proof.Machine.execAesCs rx csA csB s
  | .aes3TxBlockStart tx => Sys2Proof.Machine.execAes3TxBlockStart tx s
  | .refPresent inp => Sys2Proof.Machine.execRefPresent inp s
  | .refLost inp => Sys2Proof.Machine.execRefLost inp s
  | .freqWindowEnd freqs => Sys2Proof.Machine.execFreqWindowEnd freqs s
  | .guardExpiry inp => Sys2Proof.Machine.execGuardExpiry inp s
  | .wtrExpiry => Sys2Proof.Machine.execWtrExpiry s
  | .switchDone => Sys2Proof.Machine.execSwitchDone s
  | .absorbed => Sys2Proof.Machine.execAbsorbed s
  | .holdover => Sys2Proof.Machine.execHoldover s
  | .tickMarker offset => Sys2Proof.Machine.execTickMarker offset s
  | .netEnable port val => Sys2Proof.Machine.execNetEnable port val s
  | .netLink port up speed => Sys2Proof.Machine.execNetLink port up speed s
  | .netFrameReceive port bytes => Sys2Proof.Machine.execNetFrameReceive port bytes s
  | .streamLoad val => Sys2Proof.Machine.execStreamLoad val s
  | .streamEnable val => Sys2Proof.Machine.execStreamEnable val s
  | .streamDisable val => Sys2Proof.Machine.execStreamDisable val s
  | .streamClear val => Sys2Proof.Machine.execStreamClear val s
  | .streamLost idx => Sys2Proof.Machine.execStreamLost idx s
  | .streamMarginWindowEnd => Sys2Proof.Machine.execStreamMarginWindowEnd s
  | .mediaTxStart port => Sys2Proof.Machine.execMediaTxStart port s
  | .hostFrameSend slotBytes => Sys2Proof.Machine.execHostFrameSend slotBytes s
  | .strHqTxProd val => Sys2Proof.Machine.execStrHqTxProd val s
  | .membershipReport port => Sys2Proof.Machine.execMembershipReport port s
  | .igmpv2QuerierTimeout port => Sys2Proof.Machine.execIgmpv2QuerierTimeout port s
  | .pauseExpiry port => Sys2Proof.Machine.execPauseExpiry port s
  | .ptpEnable val => Sys2Proof.Machine.execPtpEnable val s
  | .ptpSync head t1 t2 dt => Sys2Proof.Machine.execPtpSync head t1 t2 dt s
  | .followUp head t1 dt => Sys2Proof.Machine.execFollowUp head t1 dt s
  | .announceMessage head body dt => Sys2Proof.Machine.execAnnounceMessage head body dt s
  | .delayResp head t4 reqSrc dt => Sys2Proof.Machine.execDelayResp head t4 reqSrc dt s
  | .delayReqSend legB t3 dt => Sys2Proof.Machine.execDelayReqSend legB t3 dt s
  | .ptpMasterSend legB dt => Sys2Proof.Machine.execPtpMasterSend legB dt s
  | .delayReq head rx dt => Sys2Proof.Machine.execDelayReq head rx dt s
  | .announceReceiptTimeout dt => Sys2Proof.Machine.execAnnounceReceiptTimeout dt s
  | .syncLossTimeout dt => Sys2Proof.Machine.execSyncLossTimeout dt s
  | .timStepAck val => Sys2Proof.Machine.execTimStepAck val s
  | .timSet val => Sys2Proof.Machine.execTimSet val s
  | .ppsArm p val => Sys2Proof.Machine.execPpsArm p val s
  | .ppsDisarm p val => Sys2Proof.Machine.execPpsDisarm p val s
  | .ppsEdge p => Sys2Proof.Machine.execPpsEdge p s
  | .ppsPulseEnd p => Sys2Proof.Machine.execPpsPulseEnd p s
  | .refreshDue ch rank => Sys2Proof.Machine.execRefreshDue ch rank s
  | .owedRefreshIssue ch rank n => Sys2Proof.Machine.execOwedRefreshIssue ch rank n s
  | .dramTempRead ch hot => Sys2Proof.Machine.execDramTempRead ch hot s
  | .zqCalibration ch => Sys2Proof.Machine.execZqCalibration ch s
  | .retrain ch ok readWin writeWin lane => Sys2Proof.Machine.execRetrain ch ok readWin writeWin lane s
  | .dramRead addr n master qos found => Sys2Proof.Machine.execDramRead addr n master qos found s
  | .dramWrite addr bytes master qos => Sys2Proof.Machine.execDramWrite addr bytes master qos s
  | .writeQueueIssue ch found => Sys2Proof.Machine.execWriteQueueIssue ch found s
  | .patrolScrubRead ch found => Sys2Proof.Machine.execPatrolScrubRead ch found s
  | .dramParity ch rank persist => Sys2Proof.Machine.execDramParity ch rank persist s
  | .hammerWindowStart => Sys2Proof.Machine.execHammerWindowStart s
  | .rowHammer ch rank bg bank row => Sys2Proof.Machine.execRowHammer ch rank bg bank row s
  | .migrationComplete ch => Sys2Proof.Machine.execMigrationComplete ch s
  | .migrate slot => Sys2Proof.Machine.execMigrate slot s
  | .apertureAccess addr isWrite width val found => Sys2Proof.Machine.execApertureAccess addr isWrite width val found s
  | .marchPreserving slot fails => Sys2Proof.Machine.execMarchPreserving slot fails s
  | .marchDestructive slot fails => Sys2Proof.Machine.execMarchDestructive slot fails s
  | .retentionHoldEnd => Sys2Proof.Machine.execRetentionHoldEnd s
  | .loanBankSwitch => Sys2Proof.Machine.execLoanBankSwitch s
  | .memRepSet val => Sys2Proof.Machine.execMemRepSet val s
  | .repairRowSwitch bank spare => Sys2Proof.Machine.execRepairRowSwitch bank spare s
  | .lockedSequenceRequest master target addr => Sys2Proof.Machine.execLockedSequenceRequest master target addr s
  | .lockReleaseTimeout => Sys2Proof.Machine.execLockReleaseTimeout s
  | .trkTimeout master target addr => Sys2Proof.Machine.execTrkTimeout master target addr s
  | .trkIsolate master granted dropped target addr => Sys2Proof.Machine.execTrkIsolate master granted dropped target addr s
  | .qosAgeing cycles => Sys2Proof.Machine.execQosAgeing cycles s
  | .twinPair val => Sys2Proof.Machine.execTwinPair val s
  | .twinUnpair val => Sys2Proof.Machine.execTwinUnpair val s
  | .pairForm => Sys2Proof.Machine.execPairForm s
  | .twinLinkUp serial lanes latency => Sys2Proof.Machine.execTwinLinkUp serial lanes latency s
  | .twinLinkLoss => Sys2Proof.Machine.execTwinLinkLoss s
  | .twinHeartbeat tick edge => Sys2Proof.Machine.execTwinHeartbeat tick edge s
  | .digestMessage tick crc fault => Sys2Proof.Machine.execDigestMessage tick crc fault s
  | .bundleCutoff => Sys2Proof.Machine.execBundleCutoff s
  | .bundleTrailer frame bytes acc whole => Sys2Proof.Machine.execBundleTrailer frame bytes acc whole s
  | .bundleItem frame item => Sys2Proof.Machine.execBundleItem frame item s
  | .ledgerRecordForward r => Sys2Proof.Machine.execLedgerRecordForward r s
  | .forwardedPacket port bytes => Sys2Proof.Machine.execForwardedPacket port bytes s
  | .takeover cause => Sys2Proof.Machine.execTakeover cause s
  | .roleRxChange level => Sys2Proof.Machine.execRoleRxChange level s
  | .resync slot => Sys2Proof.Machine.execResync slot s
  | .autoResyncStart => Sys2Proof.Machine.execAutoResyncStart s
  | .resyncDelta copy => Sys2Proof.Machine.execResyncDelta copy s
  | .resyncStandbyReached => Sys2Proof.Machine.execResyncStandbyReached s
  | .ledgerDump slot n => Sys2Proof.Machine.execLedgerDump slot n s
  | .heartwoodPowerUp => Sys2Proof.Machine.execHeartwoodPowerUp s
  | .hwClockLoss => Sys2Proof.Machine.execHwClockLoss s
  | .hwClockReturn => Sys2Proof.Machine.execHwClockReturn s
  | .bridgeFrame mics status => Sys2Proof.Machine.execBridgeFrame mics status s
  | .hwBridge => Sys2Proof.Machine.execHwBridge s
  | .engineHeartbeat tick => Sys2Proof.Machine.execEngineHeartbeat tick s
  | .heartwoodTick obs => Sys2Proof.Machine.execHeartwoodTick obs s
  | .hwFallback => Sys2Proof.Machine.execHwFallback s
  | .hwReturn => Sys2Proof.Machine.execHwReturn s
  | .fallbackForceSet val => Sys2Proof.Machine.execFallbackForceSet val s
  | .fallbackForceClear val => Sys2Proof.Machine.execFallbackForceClear val s
  | .reserveMessageEnd => Sys2Proof.Machine.execReserveMessageEnd s
  | .jackInsert mic => Sys2Proof.Machine.execJackInsert mic s
  | .micTypeDetect mic current rd => Sys2Proof.Machine.execMicTypeDetect mic current rd s
  | .jackRemove mic => Sys2Proof.Machine.execJackRemove mic s
  | .hwMicFault mic iUa => Sys2Proof.Machine.execHwMicFault mic iUa s
  | .hwKey mic iUa => Sys2Proof.Machine.execHwKey mic iUa s
  | .hwContact cin ohms => Sys2Proof.Machine.execHwContact cin ohms s
  | .pilotWindowEnd ch r x tooSmall power => Sys2Proof.Machine.execPilotWindowEnd ch r x tooSmall power s
  | .hwShort ch r x => Sys2Proof.Machine.execHwShort ch r x s
  | .shortProbe ch => Sys2Proof.Machine.execShortProbe ch s
  | .shortProbeEnd ch r x limited => Sys2Proof.Machine.execShortProbeEnd ch r x limited s
  | .channelReenable ch val => Sys2Proof.Machine.execChannelReenable ch val s
  | .vbatFault mv => Sys2Proof.Machine.execVbatFault mv s
  | .vbatReturn mv => Sys2Proof.Machine.execVbatReturn mv s
  | .hwThermal temp => Sys2Proof.Machine.execHwThermal temp s
  | .reserveStoreRead => Sys2Proof.Machine.execReserveStoreRead s
  | .reserveStoreWrite val => Sys2Proof.Machine.execReserveStoreWrite val s
  | .reserveCheck => Sys2Proof.Machine.execReserveCheck s
  | .hwdRsSave val => Sys2Proof.Machine.execHwdRsSave val s
  | .impedanceSweep slot => Sys2Proof.Machine.execImpedanceSweep slot s
  | .sweepPointEnd r x => Sys2Proof.Machine.execSweepPointEnd r x s
  | .prove slot => Sys2Proof.Machine.execProve slot s
  | .proveGroupStart => Sys2Proof.Machine.execProveGroupStart s
  | .proveGroupEnd meas => Sys2Proof.Machine.execProveGroupEnd meas s
  | .proveWritesDone => Sys2Proof.Machine.execProveWritesDone s
  | .presenceAssert => Sys2Proof.Machine.execPresenceAssert s
  | .presenceRelease => Sys2Proof.Machine.execPresenceRelease s
  | .presenceWindowExpiry => Sys2Proof.Machine.execPresenceWindowExpiry s
  | .sealSample ok => Sys2Proof.Machine.execSealSample ok s
  | .reseal val => Sys2Proof.Machine.execReseal val s
  | .domainFault d => Sys2Proof.Machine.execDomainFault d s
  | .supplyFail => Sys2Proof.Machine.execSupplyFail s
  | .supplyReturn => Sys2Proof.Machine.execSupplyReturn s
  | .vcoreUndervoltage => Sys2Proof.Machine.execVcoreUndervoltage s
  | .tempWarnCross temp => Sys2Proof.Machine.execTempWarnCross temp s
  | .engineThermalFault => Sys2Proof.Machine.execEngineThermalFault s
  | .pwdLatchClr val => Sys2Proof.Machine.execPwdLatchClr val s
  | .pwdNap val => Sys2Proof.Machine.execPwdNap val s
  | .napEntry => Sys2Proof.Machine.execNapEntry s
  | .napWake source cin => Sys2Proof.Machine.execNapWake source cin s
  | .monitorCharacter char framing => Sys2Proof.Machine.execMonitorCharacter char framing s
  | .monitorBreak => Sys2Proof.Machine.execMonitorBreak s
  | .unknownCommand line => Sys2Proof.Machine.execUnknownCommand line s
  | .monPeek addr n => Sys2Proof.Machine.execMonPeek addr n s
  | .monDump addr n => Sys2Proof.Machine.execMonDump addr n s
  | .monDram addr n => Sys2Proof.Machine.execMonDram addr n s
  | .monEv => Sys2Proof.Machine.execMonEv s
  | .monJob slot => Sys2Proof.Machine.execMonJob slot s
  | .monLedger idx n => Sys2Proof.Machine.execMonLedger idx n s
  | .monStat => Sys2Proof.Machine.execMonStat s
  | .traceTick n => Sys2Proof.Machine.execTraceTick n s
  | .traceEv n => Sys2Proof.Machine.execTraceEv n s
  | .traceLedger n => Sys2Proof.Machine.execTraceLedger n s
  | .monStop => Sys2Proof.Machine.execMonStop s
  | .baud code => Sys2Proof.Machine.execBaud code s
  | .poke addr val => Sys2Proof.Machine.execPoke addr val s
  | .rmw addr val mask => Sys2Proof.Machine.execRmw addr val mask s
  | .testOn => Sys2Proof.Machine.execTestOn s
  | .testOff => Sys2Proof.Machine.execTestOff s
  | .monBaudWrite val => Sys2Proof.Machine.execMonBaudWrite val s
  | .spiBadOpFrame bytes => Sys2Proof.Machine.execSpiBadOpFrame bytes s
  | .monTxCharacterSent => Sys2Proof.Machine.execMonTxCharacterSent s
  | .vaonLoss => Sys2Proof.Machine.execVaonLoss s

end Sys2Proof.Machine
end

