-- ==== Sys2Proof/Safety.lean ====
section
/-! DEFINITION. What the claims of this model are stated in: the shape of a state that no step may leave, and runs. -/

namespace Sys2Proof.Machine

/-- A core whose stacks have no more levels than the core has: four loops, eight calls (R225, R226). -/
def stacksOk (c : Core) : Bool := decide (c.loops.length ≤ 4) && decide (c.calls.length ≤ 8)
/-- Every core's stacks are within their levels. -/
def coresOk (s : State) : Bool := s.cores.all (fun p => stacksOk p.2)

/-- The commands still waiting are the last ones of those that waited before, and the module is the same one. -/
def queueOf (a s : State) : Prop := s.fit = a.fit ∧ ∃ taken, a.pending = taken ++ s.pending

/-- The memories are in canonical form. -/
def memOk (s : State) : Bool := Memory.wf s.mem.pool && Memory.wf s.dram.mem && Memory.wf s.hwd.mram

/-- The registers that raising an event may change: EVT_PEND, EVT_LAST, EVT_LAST_TICK, EVT_COUNT, and those of a dropped trace record. -/
def evtReg (a : Nat) : Bool :=
  (decide (0x1010 ≤ a) && decide (a < 0x1020)) || a == EVT_LAST || a == EVT_LAST_TICK || a == EVT_COUNT || a == MON_STAT || a == MON_TRACE_DROP

/-- Nothing but registers, what leaves the module, the interrupt messages, the events held back or raised once, and the monitor's trace
may differ. -/
def evtOnly (s t : State) : Prop :=
  t = { s with regs := t.regs, out := t.out, mon := t.mon,
               sys := { s.sys with msix := t.sys.msix, deferred := t.sys.deferred, onceTick := t.sys.onceTick } }

/-- A command is carried out: the answer is a next state of the given property. -/
def leads (i : Instr) (s : State) (p : State → Prop) : Prop := ∃ t, exec i s = .next t ∧ p t

/-! ## The frame of a Fuller instruction -/

/-- The word addresses that a move of an instruction stores to: the one or two words at its pointer. -/
def storeAddrs (c : Core) (m : PMove) : List Nat :=
  if m.store && moveActs m then
    (c.moveAddr m % 16384) :: (if moveSize m.code.val = 2 then [(c.moveAddr m + 1) % 16384] else [])
  else []
/-- Whether a move loads accumulator j. -/
def loadsAcc (m : PMove) (j : Nat) : Bool := !m.store && (m.code.val == 5 + j || m.code.val == 9 + j)
/-- Nothing but core k and its count of saturated extractions differs. -/
def coreOnly (k : Nat) (s t : State) : Prop :=
  t = { s with cores := t.cores, regs := t.regs } ∧ (∀ j, j ≠ k → t.core j = s.core j) ∧ ∀ a, a ≠ FUL_ESAT_COUNT k → t.rd a = s.rd a

/-! ## Frames -/

/-- The parts of the state. -/
inductive Part where
  | regs | out | free | sys | jobs | ledger | img | graph | canopy | cores | ports | clk | net | tim | pps | dram | mem | trk | twn | hwd | prv | prs
  | pwd | mon
  deriving DecidableEq, Repr
/-- A part is the same in both states. -/
def Part.same (p : Part) (s t : State) : Prop :=
  match p with
  | .regs => t.regs = s.regs
  | .out => t.out = s.out
  | .free => t.free = s.free
  | .sys => t.sys = s.sys
  | .jobs => t.jobs = s.jobs
  | .ledger => t.ledger = s.ledger
  | .img => t.img = s.img
  | .graph => t.graph = s.graph
  | .canopy => t.canopy = s.canopy
  | .cores => t.cores = s.cores
  | .ports => t.ports = s.ports
  | .clk => t.clk = s.clk
  | .net => t.net = s.net
  | .tim => t.tim = s.tim
  | .pps => t.pps = s.pps
  | .dram => t.dram = s.dram
  | .mem => t.mem = s.mem
  | .trk => t.trk = s.trk
  | .twn => t.twn = s.twn
  | .hwd => t.hwd = s.hwd
  | .prv => t.prv = s.prv
  | .prs => t.prs = s.prs
  | .pwd => t.pwd = s.pwd
  | .mon => t.mon = s.mon
/-- Nothing but the named parts may differ; the queue and what the module was built as never do. -/
def keeps (ps : List Part) (s t : State) : Prop := t.pending = s.pending ∧ t.fit = s.fit ∧ ∀ p, p ∉ ps → p.same s t
/-- No register but the named ones differs, and those that raising an event changes. -/
def regsKeep (as : List Nat) (s t : State) : Prop := ∀ a, a ∉ as → evtReg a = false → t.rd a = s.rd a
/-- No register but the named ones differs. -/
def regsOnly (as : List Nat) (s t : State) : Prop := ∀ a, a ∉ as → t.rd a = s.rd a
/-- No register outside a range of addresses differs. -/
def regsOutside (lo hi : Nat) (s t : State) : Prop := ∀ a, a < lo ∨ hi ≤ a → t.rd a = s.rd a
/-- The event is pending after the command, where the variant has it and the host interface is up (R66, R508). -/
def raised (e : Nat) (s t : State) : Prop := s.eventHere e = true → (e < 16 ∨ 23 < e ∨ s.sys.answering = true) → t.pends e = true
/-- A register that counts, saturating at all ones (R59). -/
def counted (a n : Nat) (s t : State) : Prop := t.rd a = w32 (satN 32 ((s.rd a).toNat + n))

/-- The place of a register that the host may write by the rules of R12 and R58 alone: no effect of its own, its class granted, no value refused. -/
abbrev plainPlace (s : State) (addr : Nat) (b : Block) (off : Nat) (r : RegSpec) (v : W32) : Prop :=
  addr < 0x240000 ∧ s.msixAt addr = false ∧ locate (addr / 4 * 4) = some (b, off) ∧ specAt (blkBase b + off) = some r ∧
  (b ≠ .hwd ∨ s.fit.variantA = true) ∧ s.hwSilent b = false ∧ s.granted (classAt (blkBase b + off)) = true ∧ s.sideWrite 0 b off v = none ∧
  dumb b off v = false ∧ s.badArg b off v = none ∧ s.taken b off v = v

/-- An address outside mapped space, for a write or a read (R51, R53): in no register block, or beyond the register and memory ranges. -/
abbrev nowhere (s : State) (isWrite : Bool) (addr : Nat) : Prop :=
  (addr < 0x240000 ∧ s.msixAt addr = false ∧ locate addr = none) ∨ (0x240000 ≤ addr ∧ addr < 0x1000000) ∨ (0x3000000 ≤ addr ∧ addr < 0x4000000) ∨
  (isWrite = true ∧ 0x8000000 ≤ addr ∧ addr < 0xC000000) ∨ 0x10000000 ≤ addr

/-- Two sparse maps read the same but at the named keys. -/
def sameBut {α : Type} (as : List Nat) (d : α) (m n : Sparse α) : Prop := ∀ a, a ∉ as → spGet d n a = spGet d m a

/-- Whether a move loads one of X0, X1, Y0 and Y1. -/
def loadsData (m : PMove) : Bool := !m.store && ((decide (1 ≤ m.code.val) && decide (m.code.val ≤ 4)) || m.code.val == 13 || m.code.val == 14)
/-- What an instruction of format P leaves alone in its core: every word but those its moves store to, every accumulator but those of `accs` and those a move loads, the
data registers where no move loads one, the pointers its moves do not name, the strides, rings, return addresses and program; outside a loop the PC goes to the next instruction. -/
def opFrame (f : PArgs) (accs : List Nat) (c d : Core) : Prop :=
  sameBut (storeAddrs c f.x) 0 c.x d.x ∧ sameBut (storeAddrs c f.y) 0 c.y d.y ∧
  (∀ j ∈ [0, 1, 2, 3], j ∉ accs → loadsAcc f.x j = false → loadsAcc f.y j = false → d.a j = c.a j) ∧
  (loadsData f.x = false → loadsData f.y = false → d.x0 = c.x0 ∧ d.x1 = c.x1 ∧ d.y0 = c.y0 ∧ d.y1 = c.y1) ∧
  sameBut [f.x.ptr.val, f.y.ptr.val] 0 c.pt d.pt ∧ d.st = c.st ∧ d.rg = c.rg ∧ d.calls = c.calls ∧ d.p = c.p ∧ d.far = c.far ∧ d.len = c.len ∧
  d.active = c.active ∧ d.tended = c.tended ∧ d.overran = c.overran ∧ d.dead = c.dead ∧ d.cycles = c.cycles + 1 ∧
  (f.x.code = 0 → f.y.code = 0 → d.wrap = c.wrap ∧ d.esat = c.esat ∧ d.ill = c.ill) ∧ (c.loops = [] → d.pc = c.pc + 1 ∧ d.loops = [] ∧ d.lc = c.lc)
/-- The flags follow an exact result r (R208, R210, R212). -/
def flagsAre (r : Int) (c d : Core) : Prop :=
  d.z = decide (accSat r = 0) ∧ d.n = decide (accSat r < 0) ∧ d.v = extractSat (accSat r) 22 32 ∧ d.ovf = (c.ovf || accOver r)
/-- An instruction of format P has written one accumulator from an exact result, and the flags. -/
def gives1 (k : Nat) (f : PArgs) (r : Int) (s t : State) : Prop :=
  coreOnly k s t ∧ (t.core k).a f.da.val = accSat r ∧ flagsAre r (s.core k) (t.core k) ∧ opFrame f [f.da.val] (s.core k) (t.core k)
/-- An instruction of format P has written a pair from exact results, and the flags from the even one. -/
def gives2 (k : Nat) (f : PArgs) (e o : Int) (s t : State) : Prop :=
  coreOnly k s t ∧ (t.core k).a (2 * (f.da.val / 2)) = accSat e ∧ (t.core k).a (2 * (f.da.val / 2) + 1) = accSat o ∧
  (t.core k).z = decide (accSat e = 0) ∧ (t.core k).n = decide (accSat e < 0) ∧ (t.core k).v = extractSat (accSat e) 22 32 ∧
  (t.core k).ovf = ((s.core k).ovf || accOver e || accOver o) ∧ opFrame f (pairOf f) (s.core k) (t.core k)
/-- The part of a core that flow control does not touch. -/
def flowFrame (c d : Core) : Prop :=
  d.x = c.x ∧ d.y = c.y ∧ d.far = c.far ∧ d.p = c.p ∧ d.len = c.len ∧ d.x0 = c.x0 ∧ d.x1 = c.x1 ∧ d.y0 = c.y0 ∧ d.y1 = c.y1 ∧ d.acc = c.acc ∧ d.pt = c.pt ∧ d.st = c.st ∧
  d.rg = c.rg ∧ d.z = c.z ∧ d.n = c.n ∧ d.v = c.v ∧ d.ovf = c.ovf ∧ d.wrap = c.wrap ∧ d.esat = c.esat ∧ d.active = c.active ∧ d.overran = c.overran ∧ d.dead = c.dead

end Sys2Proof.Machine
end

