-- ==== Sys2Proof/Certificates/Slice0/Obligations.lean ====
section
/-! DEFINITION. The statements for the provers. Each is about every state and every operand that meet its hypotheses; `leads c s p` says that the command c
is carried out at s and that the next state has the property p. -/

open Sys2Proof Sys2Proof.Machine

/-! ## Starts and jobs (R41 to R44, R67 to R71, R504 to R512) -/

/-- R504, R506, R507, R512: a cold start and its retry begin the sequence, SYS_RSTCAUSE reading cold start and the host interface silent; a start whose
supplies do not come returns to Nap with SUPPLY_FAIL latched. READY ends the sequence: the module runs, the events that had waited are pending, and
for a start other than a cold one EV11. -/
def Obligations.StartSequence : Prop := ∀ (s : State),
  (s.sys.phase = .off → leads .coldStart s (fun t => t.sys = { s.sys with phase := .starting, cause := 1, answering := false, ready := false } ∧
    t.pwd = { s.pwd with pwrLow := false, coldRetry := false } ∧ t.regs = s.regs ∧ keeps [.sys, .pwd, .cores] s t)) ∧
  (s.sys.phase = .nap → s.pwd.coldRetry = true → leads .coldStartRetry s (fun t => t.sys = { s.sys with phase := .starting, cause := 1, answering := false, ready := false } ∧
    t.pwd = { s.pwd with pwrLow := false, coldRetry := false } ∧ t.regs = s.regs ∧ keeps [.sys, .pwd, .cores] s t)) ∧
  (s.sys.phase = .starting → s.sys.answering = false → leads .wakeAbandon s (fun t => t.sys.phase = .nap ∧ t.sys.ready = false ∧ t.sys.answering = false ∧ 21 ∈ t.sys.deferred ∧
    t.pwd.supplyFail = true ∧ t.pwd.coldRetry = (s.sys.cause == 1) ∧ t.dram = resetDram ∧ t.mem = resetMem ∧ t.jobs = [] ∧ t.prs = s.prs ∧ t.pwd.napSeen = true ∧ ((∀ p : Fin 4, s.bit (NET_CTL p.val) 0 = false) → t.out = s.out))) ∧
  (s.sys.phase = .starting → s.sys.answering = true → s.img.running = none → leads .ready s (fun t => t.sys.phase = .running ∧ t.sys.ready = true ∧ t.sys.mediaRun = s.sys.mediaRun ∧
    t.sys.deferred = [] ∧ (s.sys.cause ≠ 1 → raised 11 s t) ∧ (∀ e ∈ s.sys.deferred, s.eventHere e = true → t.pends e = true) ∧
    keeps [.regs, .out, .mon, .sys, .prs, .pwd, .hwd, .cores] s t)) ∧
  (s.sys.phase = .starting → s.sys.answering = true → s.img.running.isSome = true → s.img.heldEnables = [] → s.sys.cause = 1 → leads .ready s (fun t =>
    t.sys.phase = .running ∧ t.sys.ready = true ∧ t.sys.mediaRun = true ∧ t.sys.cfgCommit ≠ 0 ∧ t.img.running = s.img.running))

/-- R42, R104, R334, R367, R427: within the sequence the straps are sampled, the on-chip memories are cleared before the host interface answers, the ranks
are found, and without retained DRAM a new session starts: LDG_ACC and LDG_EXE read 0, LDG_SESSION is a fresh non-zero value, LOST sets and EV107 is
raised. With STRAP_BOOT at 1 no image is loaded. -/
def Obligations.WakeSequence : Prop := ∀ (s : State) (obs : WakeObs),
  (s.sys.phase = .starting → s.sys.answering = false → s.dram.selfRefresh = false → obs.straps.getLsbD 3 = true → leads (.wakeSequence obs) s (fun t =>
    t.sys.straps = obs.straps ∧ t.sys.answering = true ∧ t.sys.phase = .starting ∧ t.sys.ready = s.sys.ready ∧ t.mem.pool = [] ∧ t.canopy.gainLive = [] ∧ t.canopy.gainShadow = [] ∧
    t.canopy.flags = [] ∧ (∀ k : Fin 64, (t.core k.val).p = [] ∧ (t.core k.val).x = [] ∧ (t.core k.val).y = []) ∧
    t.dramSize = min 3 (min (workingRanks obs.ranks0).length (workingRanks obs.ranks1).length) * 2 ^ 35 ∧ t.dram.mem = [] ∧ t.img = s.img ∧
    t.ledger.acc = 0 ∧ t.ledger.exe = 0 ∧ t.ledger.entries = [] ∧ t.ledger.session ≠ 0 ∧ t.ledger.session ≠ s.ledger.session ∧ t.bit LDG_STAT 0 = true ∧ raised 107 s t ∧
    t.prs = s.prs ∧ t.pwd = s.pwd ∧ t.jobs = s.jobs))

/-- R70, R77, R339, R427, R502, R536: a warm reset, which SYS_RESET with its key and class 1 requests, the steward watchdog and RESET_N (held while low)
or a returning supply cause, takes the engine down: every slot returns to state 0, registers outside the seed and Heartwood, but for IMG_FLASH (log
entry 51), to their reset values, and keeps DRAM in self-refresh, the ledger's counts and session, presence and the repair map; nothing leaves the
module where no network port was enabled. Another value of SYS_RESET is ignored. -/
def Obligations.WarmResets : Prop := ∀ (s : State) (v : W32), s.dram.ch0.wq = [] → s.dram.ch1.wq = [] →
  (s.hostUp = true → s.class1 = true → s.inPair = false → leads (.sysReset 0x3A5C) s (fun t => t.sys = { resetSys with phase := .starting, cause := 8, straps := s.sys.straps, deferred := s.sys.deferred } ∧
    t.jobs = [] ∧ t.regs = s.regs.filter (fun p => seedReg p.1 || hwdReg p.1 || p.1 == IMG_FLASH) ∧ t.dram.mem = s.dram.mem ∧ t.ledger.acc = s.ledger.acc ∧ t.ledger.exe = s.ledger.exe ∧
    t.ledger.session = s.ledger.session ∧ t.ledger.entries = s.ledger.entries ∧ t.prs = s.prs ∧ t.mem.rep = s.mem.rep ∧ ((∀ p : Fin 4, s.bit (NET_CTL p.val) 0 = false) → t.out = s.out))) ∧
  (s.hostUp = true → s.class1 = true → v ≠ 0x3A5C → leads (.sysReset v) s (fun t => keeps [.cores] s t)) ∧
  (s.engineUp = true → leads .stewardWatchdog s (fun t => t.sys = { resetSys with phase := .starting, cause := 16, straps := s.sys.straps, deferred := s.sys.deferred } ∧
    t.jobs = [] ∧ t.regs = s.regs.filter (fun p => seedReg p.1 || hwdReg p.1 || p.1 == IMG_FLASH) ∧ t.dram.mem = s.dram.mem ∧ t.ledger.exe = s.ledger.exe ∧ t.prs = s.prs ∧ t.mem.rep = s.mem.rep ∧ ((∀ p : Fin 4, s.bit (NET_CTL p.val) 0 = false) → t.out = s.out))) ∧
  (s.engineUp = true → leads (.resetN true) s (fun t => t.sys = { resetSys with phase := .held, cause := s.sys.cause, straps := s.sys.straps, deferred := s.sys.deferred } ∧
    t.jobs = [] ∧ t.regs = s.regs.filter (fun p => seedReg p.1 || hwdReg p.1 || p.1 == IMG_FLASH) ∧ t.dram.mem = s.dram.mem ∧ t.ledger.exe = s.ledger.exe ∧ t.prs = s.prs ∧ ((∀ p : Fin 4, s.bit (NET_CTL p.val) 0 = false) → t.out = s.out))) ∧
  (s.sys.phase = .held → leads (.resetN false) s (fun t => t.sys = { s.sys with phase := .starting, cause := 4, answering := false, ready := false } ∧ t.regs = s.regs ∧ keeps [.sys, .pwd, .cores] s t)) ∧
  (s.sys.phase = .failed → leads .supplyReturn s (fun t => t.sys = { resetSys with phase := .starting, cause := 4, straps := s.sys.straps, deferred := s.sys.deferred } ∧
    t.jobs = [] ∧ t.dram.mem = s.dram.mem ∧ t.prs = s.prs)) ∧
  (exec .vaonLoss s = .next { State.reset with pending := s.pending, fit := s.fit, out := s.out, free := s.free, hwd := s.hwd, regs := s.regs.filter (fun p => hwdReg p.1) })

/-- R67 to R71: a start with a reserved KIND fails at once with ERROR 0x01; a write to a queued or running slot, or a start before READY, is ignored and
sets BUSY_WR. A queued job runs when its engine is free, with its result window zeroed. An ABORT ends a queued job at once and a running one at its
safe point, and has no effect on another slot. JOB_DONE shows the ending that the work has come to. -/
def Obligations.JobLifeCycle : Prop := ∀ (s : State) (k : Fin 16) (v : W32) (e : Byte) (x : Nat),
  (s.hostUp = true → (fld v 7 0 = 0 ∨ 10 < fld v 7 0) → (s.slot k.val).busy = false → s.sys.ready = true → leads (.jobReservedKind k v) s (fun t =>
    (t.slot k.val).st = .failed ∧ (t.slot k.val).error = 1 ∧ (t.slot k.val).kind = BitVec.ofNat 8 (fld v 7 0) ∧ (t.slot k.val).args = (s.slot k.val).args ∧
    (∀ j : Fin 16, j ≠ k → t.slot j.val = s.slot j.val) ∧ keeps [.jobs] s t)) ∧
  (s.hostUp = true → (fld v 7 0 = 0 ∨ 10 < fld v 7 0) → ((s.slot k.val).busy = true ∨ s.sys.ready = false) → leads (.jobReservedKind k v) s (fun t =>
    t.bit JOB_STAT 0 = true ∧ regsOnly [JOB_STAT] s t ∧ keeps [.regs] s t)) ∧
  ((s.slot k.val).st = .queued → s.engineFree k.val = true → s.dram.frozen = false → leads (.jobDispatch k) s (fun t =>
    t.slot k.val = { s.slot k.val with st := .running, total := 0, error := 0, fin := none } ∧ (∀ j : Fin 16, j ≠ k → t.slot j.val = s.slot j.val) ∧
    spGet 0 t.mem.pool x = (if 0xFFC000 + k.val * 0x400 ≤ x ∧ x < 0xFFC000 + k.val * 0x400 + 0x400 then 0 else spGet 0 s.mem.pool x) ∧ keeps [.jobs, .mem] s t)) ∧
  ((s.slot k.val).st = .queued → s.engineFree k.val = false → s.dram.frozen = false → exec (.jobDispatch k) s = .next s) ∧
  (s.hostUp = true → leads (.jobAbort k v) s (fun t =>
    ((s.slot k.val).st = .queued → t.slot k.val = { s.slot k.val with st := .aborted, error := 0, abortReq := false, fin := none }) ∧
    ((s.slot k.val).st = .running → t.slot k.val = { s.slot k.val with abortReq := true }) ∧ ((s.slot k.val).busy = false → t.slot k.val = s.slot k.val) ∧
    (∀ j : Fin 16, j ≠ k → t.slot j.val = s.slot j.val) ∧ (bitOf v 31 = true → (s.slot k.val).busy = true → t.bit JOB_STAT 0 = true) ∧
    regsOnly [JOB_STAT] s t ∧ keeps [.jobs, .regs] s t)) ∧
  ((s.slot k.val).st = .running → (s.slot k.val).fin = some e → leads (.jobDone k) s (fun t =>
    t.slot k.val = { s.slot k.val with st := if e = 0 then .done else .failed, error := e, abortReq := false, fin := none } ∧
    (∀ j : Fin 16, j ≠ k → t.slot j.val = s.slot j.val) ∧ keeps [.jobs] s t)) ∧
  ((s.slot k.val).st = .running → (s.slot k.val).abortReq = true → (s.slot k.val).fin = none → ((s.slot k.val).kind = 3 ∨ (s.slot k.val).kind = 9 ∨ (s.slot k.val).kind = 10) →
    leads (.jobSafePointAbort k) s (fun t => (t.slot k.val).st = .aborted ∧ (t.slot k.val).abortReq = false ∧ (∀ j : Fin 16, j ≠ k → t.slot j.val = s.slot j.val) ∧
    keeps [.jobs, .canopy, .graph, .mem] s t)) ∧
  ((s.slot k.val).st = .running → (s.slot k.val).abortReq = true → (s.slot k.val).fin = none → ((s.slot k.val).kind = 4 ∨ (s.slot k.val).kind = 5 ∨ (s.slot k.val).kind = 6) →
    leads (.jobSafePointAbort k) s (fun t => (t.slot k.val).st = .aborted ∧ (t.slot k.val).abortReq = false))

/-! ## The command ledger (R72 to R75, R426 to R433) -/

/-- R72 to R74, R428: the write of LDG_SUB7 submits the record; the checks run in their order and the first that applies gives RESULT. BAD_OP,
NO_PRESENCE, DUPLICATE and FULL discard the record; one that is taken or held enters the ledger with its entry in DRAM at STATE 1. FULL is counted and
raises EV104 once per tick, NO_PRESENCE counts as R498 gives. -/
def Obligations.LedgerSubmission : Prop := ∀ (s u : State) (v : W32), s.hostUp = true → u = { s with ledger := { s.ledger with sub := spPut s.ledger.sub 7 v } } →
  (u.subBad u.subEntry = true → exec (.ledgerSubmit v) s = .next { u with ledger := { u.ledger with result := 3, resultSeq := BitVec.ofNat 16 u.subEntry.seq } }) ∧
  (u.subBad u.subEntry = false → u.subEntry.op = 1 → u.regWriteGranted (u.sub 5).toNat (u.sub 6) (u.sub 7) = false → leads (.ledgerSubmit v) s (fun t =>
    t.ledger = { u.ledger with result := 5, resultSeq := BitVec.ofNat 16 u.subEntry.seq } ∧ t.dram = s.dram ∧ counted PRS_DENIED 1 s t ∧ t.bit PRS_STAT 2 = true ∧
    regsKeep [PRS_DENIED, PRS_STAT, PRS_DENIED_LAST] s t ∧ keeps [.regs, .out, .mon, .sys, .ledger] s t)) ∧
  (u.subBad u.subEntry = false → (u.subEntry.op ≠ 1 ∨ u.regWriteGranted (u.sub 5).toNat (u.sub 6) (u.sub 7) = true) → (u.subEntry.seq ≤ s.ledger.acc ∨ s.holds u.subEntry.seq = true) →
    exec (.ledgerSubmit v) s = .next { u with ledger := { u.ledger with result := 2, resultSeq := BitVec.ofNat 16 u.subEntry.seq } }) ∧
  (u.subBad u.subEntry = false → (u.subEntry.op ≠ 1 ∨ u.regWriteGranted (u.sub 5).toNat (u.sub 6) (u.sub 7) = true) → s.ledger.acc < u.subEntry.seq → s.holds u.subEntry.seq = false →
    (s.sys.ready = false ∨ s.dram.frozen = true ∨ 65536 ≤ s.ledger.entries.length ∨ s.ledger.exe + 65536 < u.subEntry.seq) → leads (.ledgerSubmit v) s (fun t =>
    t.ledger = { u.ledger with result := 4, resultSeq := BitVec.ofNat 16 u.subEntry.seq } ∧ counted LDG_FULL_COUNT 1 s t ∧ (s.sys.onceTick.contains 104 = false → raised 104 s t) ∧
    regsKeep [LDG_FULL_COUNT] s t ∧ keeps [.regs, .out, .mon, .sys, .ledger] s t)) ∧
  (u.subBad u.subEntry = false → (u.subEntry.op ≠ 1 ∨ u.regWriteGranted (u.sub 5).toNat (u.sub 6) (u.sub 7) = true) → s.ledger.acc < u.subEntry.seq → s.holds u.subEntry.seq = false →
    s.sys.ready = true → s.dram.frozen = false → s.ledger.entries.length < 65536 → u.subEntry.seq ≤ s.ledger.exe + 65536 → s.twn.role = .alone → leads (.ledgerSubmit v) s (fun t =>
    t.ledger.entries = s.ledger.entries ++ [u.subEntry] ∧ t.ledger.acc = s.ledger.acc ∧ t.ledger.exe = s.ledger.exe ∧
    t.ledger.result = (if u.subEntry.seq = s.accReady false + 1 then 0 else 1) ∧ t.dramPeek (entryAddr u.subEntry.seq) 32 = entryWords u.subEntry 1 0 ∧ keeps [.ledger, .dram] s t))

/-- R75, R429: a boundary accepts, in sequence, every number whose predecessors are held: LDG_ACC advances and its entries take STATE 2. R429: a record of
the partner's that is new enters the ledger and is confirmed to the partner; one at or below LDG_ACC changes nothing. R428: different records under
one number leave the active's, counted, with EV105. -/
def Obligations.LedgerAcceptance : Prop := ∀ (s : State) (r : RecordMsg) (e : LedgerEntry),
  (s.sys.mediaRun = true → s.twn.role = .alone → s.dram.frozen = false → s.ledger.acc < s.accReady false → leads .ledgerAccept s (fun t =>
    t.ledger.acc = s.accReady false ∧ t.ledger.exe = s.ledger.exe ∧
    t.ledger.entries = s.ledger.entries.map (fun x => if x.seq ≤ s.accReady false then { x with accepted := true } else x) ∧
    regsKeep [] s t ∧ keeps [.regs, .out, .mon, .sys, .ledger, .dram] s t)) ∧
  (s.twn.linkUp = true → s.dram.frozen = false → r.confirm = false → r.args.length = 3 → s.ledger.entries.all (fun x => x.seq != r.seq.toNat) = true → s.ledger.acc < r.seq.toNat → leads (.ledgerRecordForward r) s (fun t =>
    (∃ x ∈ t.ledger.entries, t.ledger.entries = s.ledger.entries ++ [x] ∧ x.seq = r.seq.toNat ∧ x.tick = r.tick.toNat ∧ x.op = r.op.toNat ∧ x.args = r.args ∧ x.accepted = false ∧ x.both = true ∧ x.granted = r.granted ∧
      t.dramPeek (entryAddr x.seq) 32 = entryWords x 1 0) ∧
    t.out = s.out ++ [.twinRecord r.seq.toNat r.tick.toNat r.op.toNat r.args r.granted true] ∧ keeps [.out, .ledger, .dram] s t)) ∧
  (s.twn.linkUp = true → s.dram.frozen = false → r.confirm = false → s.ledger.entries.all (fun x => x.seq != r.seq.toNat) = true → r.seq.toNat ≤ s.ledger.acc → exec (.ledgerRecordForward r) s = .next s) ∧
  (s.twn.linkUp = true → s.dram.frozen = false → r.confirm = false → s.twn.role = .active → s.ledger.entries.find? (fun x => x.seq == r.seq.toNat) = some e → sameRecord e r = false → e.accepted = false →
    leads (.ledgerRecordForward r) s (fun t => t.ledger = s.ledger ∧ counted LDG_CONFLICTS 1 s t ∧ t.bit LDG_STAT 1 = true ∧ raised 105 s t ∧ evtOnly s t ∧ regsKeep [LDG_CONFLICTS, LDG_STAT] s t))

/-- R73, R75, R430: an accepted command that is due executes once, in order of named tick and number: a NOP fills its number, a REG_WRITE writes the
masked bits of its register and leaves the others, and one of an unmapped address is ignored with OUTCOME 2 as R53 gives. The entry's STATE is 3 with
its OUTCOME and LDG_EXE follows. A late command with LATE at 1 does not execute: STATE 4, OUTCOME 4, counted, EV106. -/
def Obligations.LedgerExecution : Prop := ∀ (s : State) (e : LedgerEntry) (b : Block) (off : Nat) (r : RegSpec) (addr v mask : W32),
  firstDue s.ledger.entries (s.tickN + 1) = some e → s.sys.mediaRun = true → s.sys.phase = .running → s.dram.frozen = false → e.args = [addr, v, mask] →
  (e.op = 0 → s.tickN + 1 ≤ e.tick → leads (.ledgerNop e.seq) s (fun t => t.ledger.exe = max s.ledger.exe e.seq ∧ t.ledger.entries = s.ledger.entries.filter (fun x => x.seq != e.seq) ∧
    t.dramPeek (entryAddr e.seq) 32 = entryWords e 3 1 ∧ regsKeep [] s t ∧ keeps [.regs, .out, .mon, .sys, .ledger, .dram] s t)) ∧
  (e.op = 0 → e.tick < s.tickN + 1 → s.bit LDG_CFG 0 = true → leads (.ledgerNop e.seq) s (fun t => t.ledger.exe = s.ledger.exe ∧ t.ledger.entries = s.ledger.entries.filter (fun x => x.seq != e.seq) ∧
    t.dramPeek (entryAddr e.seq) 32 = entryWords e 4 4 ∧ t.bit LDG_STAT 2 = true ∧ counted LDG_LATE_COUNT 1 s t ∧ (s.sys.onceTick.contains 106 = false → raised 106 s t) ∧
    regsKeep [LDG_STAT, LDG_LATE_COUNT] s t ∧ keeps [.regs, .out, .mon, .sys, .ledger, .dram] s t)) ∧
  (e.op = 1 → s.tickN + 1 ≤ e.tick → locate addr.toNat = none → leads (.regWrite e.seq) s (fun t => t.ledger.exe = max s.ledger.exe e.seq ∧ t.dramPeek (entryAddr e.seq) 32 = entryWords e 3 2 ∧
    t.bit SYS_STAT 1 = true ∧ t.rd SYS_UNMAP_ADDR = addr ∧ raised 5 s t ∧ regsKeep [SYS_STAT, SYS_UNMAP_ADDR] s t ∧ keeps [.regs, .out, .mon, .sys, .ledger, .dram, .cores] s t)) ∧
  (e.op = 1 → s.tickN + 1 ≤ e.tick → locate addr.toNat = some (b, off) → b ≠ .hwd → specAt (blkBase b + off) = some r → r.cfg = 0 → r.lk = 0 → r.w1c = 0 → r.w1s = 0 → mask &&& r.rw = mask →
    s.view b off = none → jobOffset off = none → evtReg (blkBase b + off) = false →
    s.sideWrite (if e.granted then 1 else 2) b off ((v &&& mask) ||| (s.rd (blkBase b + off) &&& ~~~mask &&& r.rw)) = none → dumb b off ((v &&& mask) ||| (s.rd (blkBase b + off) &&& ~~~mask &&& r.rw)) = false →
    s.badArg b off ((v &&& mask) ||| (s.rd (blkBase b + off) &&& ~~~mask &&& r.rw)) = none →
    s.taken b off ((v &&& mask) ||| (s.rd (blkBase b + off) &&& ~~~mask &&& r.rw)) = ((v &&& mask) ||| (s.rd (blkBase b + off) &&& ~~~mask &&& r.rw)) →
    leads (.regWrite e.seq) s (fun t => t.rd (blkBase b + off) = (s.rd (blkBase b + off) &&& ~~~mask) ||| (v &&& mask) ∧ t.ledger.exe = max s.ledger.exe e.seq ∧
    t.ledger.entries = s.ledger.entries.filter (fun x => x.seq != e.seq) ∧ t.dramPeek (entryAddr e.seq) 32 = entryWords e 3 1 ∧ regsKeep [blkBase b + off] s t ∧
    keeps [.regs, .out, .mon, .sys, .ledger, .dram, .cores] s t))

/-- R433: a LEDGER_DUMP copies entries from its first index on to host memory by DMA, wrapping at 65,535; with all of them copied its work is done, words
1 and 2 of its result window hold the number copied and LDG_EXE at its start. -/
def Obligations.LedgerDump : Prop := ∀ (s : State) (k : Fin 16) (i count : Nat) (host : W64),
  ((s.slot k.val).st = .queued → (s.slot k.val).kind = 10 → s.engineFree k.val = true → s.dram.frozen = false → s.dram.poison = [] → s.graph.dma = none →
    (s.slot k.val).args = [w32 i, w32 count, lo32 host, hi32 host] → i < 65536 → 0 < count → count ≤ 65536 → leads (.ledgerDump k count) s (fun t =>
    t.out = s.out ++ (upFrom 0 count).map (fun j => .dma (host.toNat + 32 * j) (s.dramPeek (0x1000000 + (i + j) % 65536 * 32) 32)) ∧
    (t.slot k.val).st = .running ∧ (t.slot k.val).fin = some 0 ∧ (t.slot k.val).total = count ∧ t.graph.dma = none ∧
    t.poolW (resultOff k.val 0) = 2 ∧ t.poolW (resultOff k.val 1) = w32 count ∧ t.poolW (resultOff k.val 2) = loN s.ledger.exe ∧ keeps [.out, .jobs, .mem, .graph] s t))

/-! ## The frame tick (R15 to R34) -/

/-- R15, R25: a boundary with the media clock running and nothing else due ends the tick: the tick counter goes up by one, the sample counter by a tick's
samples; with the media clock stopped the counters stand. R18, R19: TCK_REALIGN with 0xA1C7 requests a realignment under presence while network time
is qualified, is refused without it, and any other value is ignored; the fourth muted tick loads the counters, the eighth ends it with EV3. R31: an
overrun halts the core and is recorded. -/
def Obligations.TickRealignmentOverrun : Prop := ∀ (s : State) (obs : TickObs) (v : W32) (k : Fin 64),
  (s.sys.mediaRun = true → s.sys.phase = .running → s.sys.realignReq = false → s.sys.realignLeft = 0 → s.twn.role = .alone → s.ledger.entries = [] → s.img.phase = .idle → s.pwd.stage = .none → leads (.tickBoundary obs) s (fun t =>
    t.sys.tick = s.sys.tick + 1 ∧ t.sys.mediaRun = true ∧ t.sys.phase = .running ∧ t.sys.realignLeft = 0 ∧ t.samples = s.samples + BitVec.ofNat 64 s.tickLen)) ∧
  (s.sys.mediaRun = false → s.sys.phase = .running → leads (.tickBoundary obs) s (fun t => t.sys.tick = s.sys.tick ∧ t.sys.mediaRun = false ∧ t.sys.phase = .running)) ∧
  (s.hostUp = true → s.class1 = true → s.tim.qualified = true → v = 0xA1C7 → exec (.tckRealign v) s = .next { s with sys := { s.sys with realignReq := true } }) ∧
  (s.hostUp = true → s.class1 = true → v ≠ 0xA1C7 → exec (.tckRealign v) s = .next s) ∧
  (s.hostUp = true → s.class1 = true → s.tim.qualified = false → v = 0xA1C7 → leads (.tckRealign v) s (fun t => t.bit TCK_STAT 4 = true ∧ raised 3 s t ∧ regsKeep [TCK_STAT] s t ∧ evtOnly s t)) ∧
  (s.hostUp = true → s.class1 = false → leads (.tckRealign v) s (fun t => counted PRS_DENIED 1 s t ∧ t.bit PRS_STAT 2 = true ∧ t.sys.realignReq = s.sys.realignReq ∧ regsKeep [PRS_DENIED, PRS_STAT, PRS_DENIED_LAST] s t ∧ evtOnly s t)) ∧
  (s.sys.mediaRun = true → s.sys.realignLeft = 6 → s.sys.realignLoaded = false → s.tim.qualified = true → leads .realignCounterLoad s (fun t => t.sys.tick = BitVec.ofNat 64 (tickOf s.tim.now) ∧ t.sys.aligned = s.sys.aligned ∧ t.sys.realignLoaded = true ∧ t.sys.mediaRun = true ∧ t.clk.epochValid = true ∧
    keeps [.regs, .out, .mon, .sys, .clk, .canopy, .graph, .ports] s t)) ∧
  (s.sys.mediaRun = true → s.sys.realignLeft = 1 → s.clk.epochValid = true → leads .realignEnd s (fun t => t.sys.aligned = true ∧ t.sys.realignLeft = 0 ∧ t.sys.tick = s.sys.tick ∧ raised 3 s t ∧ regsKeep [] s t ∧ keeps [.regs, .out, .mon, .sys] s t)) ∧
  ((s.core k.val).active = true → (s.core k.val).tended = false → (s.core k.val).overran = false → (s.core k.val).dead = false → leads (.coreOverrun k) s (fun t => t.core k.val = { s.core k.val with overran := true } ∧ sameBut [k.val] coreInit s.cores t.cores ∧
    (if k.val < 32 then t.bit TCK_OVR_LO k.val else t.bit TCK_OVR_HI (k.val - 32)) = true ∧ counted TCK_OVR_COUNT 1 s t ∧ t.rd TCK_OVR_LAST = s.tickLo ∧ t.bit (FUL_STAT k.val) 0 = true ∧ counted (FUL_OVR_COUNT k.val) 1 s t ∧
    t.rd (FUL_CYCLES k.val) = 0x80000000 ∧ t.rd (FUL_PC k.val) = w32 (s.core k.val).pc.toNat ∧ (s.sys.onceTick.contains 1 = false → raised 1 s t) ∧
    regsKeep [TCK_OVR_LO, TCK_OVR_HI, TCK_OVR_COUNT, TCK_OVR_LAST, TCK_STAT, FUL_STAT k.val, FUL_OVR_COUNT k.val, FUL_CYCLES k.val, FUL_CYC_MAX k.val, FUL_PC k.val] s t ∧ keeps [.regs, .out, .mon, .sys, .cores] s t))

/-! ## Register accesses (R12, R53 to R60) -/

/-- R12, R58: a host write of a register whose CFG bits are not held by CTL.ENABLE and whose LK bits are not held by LOCK: RW, CFG and LK bits take the
value, a 1 clears a W1C bit and sets a W1S bit, every other bit, every other register and every memory stay as they were. A register whose write has
an effect of its own has that effect, nothing else. A word written in the pool's range is stored there. -/
def Obligations.RegisterWrite : Prop := ∀ (s u : State) (addr off i : Nat) (b : Block) (r : RegSpec) (v : W32),
  s.hostUp = true →
  (plainPlace s addr b off r v → (r.cfg = 0 ∨ s.enabled b = false) → (r.lk = 0 ∨ s.locked b = false) → i < 32 → leads (.registerWrite addr v) s (fun t =>
    (bitOf (r.rw ||| r.cfg ||| r.lk) i = true → bitOf (r.w1c ||| r.w1s) i = false → t.bit (blkBase b + off) i = bitOf v i) ∧
    (bitOf (r.rw ||| r.cfg ||| r.lk ||| r.w1s) i = false → bitOf r.w1c i = true → t.bit (blkBase b + off) i = (s.bit (blkBase b + off) i && !bitOf v i)) ∧
    (bitOf (r.rw ||| r.cfg ||| r.lk ||| r.w1c) i = false → bitOf r.w1s i = true → t.bit (blkBase b + off) i = (s.bit (blkBase b + off) i || bitOf v i)) ∧
    (bitOf (r.rw ||| r.cfg ||| r.lk ||| r.w1c ||| r.w1s) i = false → t.bit (blkBase b + off) i = s.bit (blkBase b + off) i) ∧
    regsOnly [blkBase b + off] s t ∧ t.sys = { s.sys with cfgDirty := t.sys.cfgDirty } ∧ keeps [.regs, .cores, .sys] s t)) ∧
  (addr < 0x240000 → s.msixAt addr = false → locate (addr / 4 * 4) = some (b, off) → specAt (blkBase b + off) = some r → (r.lk = 0 ∨ s.locked b = false) →
    (b ≠ .hwd ∨ s.fit.variantA = true) → s.hwSilent b = false → (s.granted (classAt (blkBase b + off)) = true ∨ blkBase b + off = PRS_RESEAL) →
    dumb b off v = false → s.badArg b off v = none → s.sideWrite 0 b off v = some u →
    leads (.registerWrite addr v) s (fun t =>
      t = { u with pending := s.pending, fit := s.fit, cores := t.cores })) ∧
  (0x1000000 ≤ addr → addr < 0x2000000 → s.underTest 0 = false → leads (.registerWrite addr v) s (fun t =>
    t.mem = { s.mem with pool := memWrite s.mem.pool (widthAlign .word (addr - 0x1000000)) (leBytes 4 v.toNat) } ∧ keeps [.mem, .cores] s t))

/-- R12, R58: a CFG field written while the block's CTL.ENABLE is 1 keeps its value, STAT.CFG_IGNORED sets and EV6 is raised; R12, R57: an LK field
written while LOCK is 1 keeps its value, STAT.LOCK_VIOL sets and EV7 is raised; R498: a write without its class grant changes nothing but the counting
of the refusal. -/
def Obligations.ProtectedWrite : Prop := ∀ (s : State) (addr off : Nat) (b : Block) (r : RegSpec) (v : W32),
  s.hostUp = true →
  (plainPlace s addr b off r v → off ≠ 8 → evtReg (blkBase b + off) = false → r.cfg ≠ 0 → s.enabled b = true → leads (.registerWrite addr v) s (fun t =>
    (∀ i : Fin 32, bitOf r.cfg i = true → bitOf (r.rw ||| r.lk ||| r.w1c ||| r.w1s) i = false → t.bit (blkBase b + off) i = s.bit (blkBase b + off) i) ∧
    t.bit (blkBase b + 8) 31 = true ∧ raised 6 s t ∧ regsKeep [blkBase b + 8, blkBase b + off] s t ∧ keeps [.regs, .cores, .out, .mon, .sys] s t)) ∧
  (plainPlace s addr b off r v → off ≠ 8 → evtReg (blkBase b + off) = false → r.lk ≠ 0 → s.locked b = true → leads (.registerWrite addr v) s (fun t =>
    (∀ i : Fin 32, bitOf r.lk i = true → bitOf (r.rw ||| r.cfg ||| r.w1c ||| r.w1s) i = false → t.bit (blkBase b + off) i = s.bit (blkBase b + off) i) ∧
    t.bit (blkBase b + 8) 30 = true ∧ raised 7 s t ∧ regsKeep [blkBase b + 8, blkBase b + off] s t ∧ keeps [.regs, .cores, .out, .mon, .sys] s t)) ∧
  (addr < 0x240000 → s.msixAt addr = false → locate (addr / 4 * 4) = some (b, off) → (b ≠ .hwd ∨ s.fit.variantA = true) → blkBase b + off ≠ PRS_RESEAL →
    s.granted (classAt (blkBase b + off)) = false → leads (.registerWrite addr v) s (fun t =>
      counted PRS_DENIED 1 s t ∧ t.bit PRS_STAT 2 = true ∧ regsKeep [PRS_DENIED, PRS_STAT, PRS_DENIED_LAST] s t ∧
      keeps [.regs, .cores, .out, .mon, .sys] s t))

/-- R58: a host read of an RC register returns its value, whatever the width, and clears it. R60: a read of the low word of a multi-word value captures
its lower words, and a lower word reads from the host's capture. -/
def Obligations.RegisterRead : Prop := ∀ (s : State) (addr off : Nat) (b : Block) (r : RegSpec) (hit : ReadHit),
  s.hostUp = true → addr < 0x240000 → s.msixAt addr = false → locate addr = some (b, off) → s.hwSilent b = false → (b ≠ .hwd ∨ off ≠ 0x30) → readsPhase (blkBase b + off) = false →
  (specAt (blkBase b + off) = some r → r.rc = true → capturedWord b off = false → capturesOf b off = [] → blkBase b + off ≠ TRK_WAIT_MAX →
    blkBase b + off ≠ PWD_OCC → leads (.rcRegisterRead addr hit) s (fun t =>
      t.out = s.out ++ [.readData (narrow hit.width addr (s.regShow b off))] ∧ t.rd (blkBase b + off) = resetVal (blkBase b + off) ∧
      regsOnly [blkBase b + off] s t ∧ keeps [.regs, .out] s t)) ∧
  (specAt (blkBase b + off) = some r → r.rc = false → capturedWord b off = false → (capturesOf b off).Nodup → leads (.multiwordCaptureRead addr) s (fun t =>
      t.out = s.out ++ [.readData (s.regShow b off)] ∧
      (∀ o ∈ capturesOf b off, spGet 0 t.sys.capHost (blkBase b + o) = s.regVal b o) ∧
      t.sys = { s.sys with capHost := t.sys.capHost } ∧ keeps [.sys, .out] s t)) ∧
  (specAt (blkBase b + off) = some r → r.rc = false → capturedWord b off = true → capturesOf b off = [] → leads (.multiwordCaptureRead addr) s (fun t =>
      t = { s with out := s.out ++ [.readData (spGet (resetVal (blkBase b + off)) s.sys.capHost (blkBase b + off))] }))

/-- R54: a write narrower than 32 bits to a register range is ignored, sets SYS_STAT.NARROW_WR, records its address and raises EV4; the pool takes a write
of any width. R53: an access outside mapped space sets SYS_STAT.UNMAPPED, records its address and raises EV5; a read returns 0. -/
def Obligations.NarrowAndUnmapped : Prop := ∀ (s : State) (addr : Nat) (w : Width) (v : W32),
  s.hostUp = true →
  (addr < 0x240000 → s.msixAt addr = false → locate addr ≠ none → w ≠ .word → leads (.narrowWrite addr w v) s (fun t =>
    t.bit SYS_STAT 0 = true ∧ t.rd SYS_NARROW_ADDR = w32 addr ∧ raised 4 s t ∧ regsKeep [SYS_STAT, SYS_NARROW_ADDR] s t ∧
    keeps [.regs, .cores, .out, .mon, .sys] s t)) ∧
  (0x1000000 ≤ addr → addr < 0x2000000 → s.underTest 0 = false → leads (.narrowWrite addr w v) s (fun t =>
    t.mem = { s.mem with pool := memWrite s.mem.pool (widthAlign w (addr - 0x1000000)) (leBytes (widthBytes w) v.toNat) } ∧
    keeps [.mem, .cores] s t)) ∧
  (addr < 0x240000 → s.msixAt addr = false → locate addr = none → w ≠ .word → leads (.narrowWrite addr w v) s (fun t =>
    t.bit SYS_STAT 0 = true ∧ t.bit SYS_STAT 1 = true ∧ t.rd SYS_NARROW_ADDR = w32 addr ∧ t.rd SYS_UNMAP_ADDR = w32 addr ∧
    raised 4 s t ∧ raised 5 s t ∧ regsKeep [SYS_STAT, SYS_NARROW_ADDR, SYS_UNMAP_ADDR] s t ∧ keeps [.regs, .cores, .out, .mon, .sys] s t)) ∧
  (addr % 4 = 0 → nowhere s true addr → leads (.unmapped addr true v) s (fun t =>
    t.bit SYS_STAT 1 = true ∧ t.rd SYS_UNMAP_ADDR = w32 addr ∧ raised 5 s t ∧ regsKeep [SYS_STAT, SYS_UNMAP_ADDR] s t ∧
    keeps [.regs, .cores, .out, .mon, .sys] s t)) ∧
  (nowhere s false addr → leads (.unmapped addr false v) s (fun t =>
    .readData 0 ∈ t.out ∧ t.bit SYS_STAT 1 = true ∧ t.rd SYS_UNMAP_ADDR = w32 addr ∧ raised 5 s t ∧ regsKeep [SYS_STAT, SYS_UNMAP_ADDR] s t ∧
    keeps [.regs, .cores, .out, .mon, .sys] s t))

/-! ## Host interface and events (R44 to R66) -/

/-- R44: a function-level reset under PCIe returns the MSI-X table to its reset values and stops the DMA rings towards host memory; the rest of the module
continues unchanged. Each change of the link's state raises EV8, and its loss acts on the endpoint as the reset does. -/
def Obligations.PcieEndpoint : Prop := ∀ s : State, s.pcie = true → s.trk.waiting = [] →
  (s.sys.hostLink = true → exec .functionLevelReset s =
    .next { s with sys := { s.sys with msix := [] }, net := { s.net with dmaStopped := true } }) ∧
  (s.sys.hostLink = false → s.sys.answering = true → leads (.hostLink true) s (fun t =>
    evtOnly { s with sys := { s.sys with hostLink := true } } t ∧ raised 8 s t ∧ regsKeep [] s t)) ∧
  (s.sys.hostLink = true → leads (.hostLink false) s (fun t =>
    evtOnly { s with sys := { s.sys with hostLink := false, msix := [] }, net := { s.net with dmaStopped := true } } t ∧ raised 8 s t ∧ regsKeep [] s t))

/-- R46, R47, R50: a whole SPI write frame whose CRC holds is carried out word by word in ascending order and answered with status 0; one whose CRC fails
writes nothing, is answered with status 1, sets SPI_ERR, counts and raises EV9. A read frame returns the start marker, the data, their CRC and status
0 after its wait bytes. R48 to R50: a read that has sent 1,024 wait bytes ends with the error marker, status 4 and 0xFF up to the frame's end; a frame
that ends early is short, status 5 and one discarded frame more; an unknown opcode is answered with status 2. Each sets SPI_ERR, counts and raises
EV9. A status frame returns the last frame's tag and status and the count of discarded frames, which it clears, and is not recorded itself. -/
def Obligations.SpiTarget : Prop := ∀ (s : State) (bytes : List Byte) (waits : Nat) (ws : List W32) (tag : Byte), s.spiUp = true →
  (nth 0 bytes 0 = 0xA2 → 11 + 4 * spiWords bytes ≤ bytes.length → spiCrcOk bytes (7 + 4 * spiWords bytes) = true → spiAddr bytes % 4 = 0 →
    (s.spiStore (spiAddr bytes) (wordsOf (spiWords bytes) (bytes.drop 7))).spiUp = true → leads (.spiWriteFrame bytes) s (fun t =>
      t.out = (s.spiStore (spiAddr bytes) (wordsOf (spiWords bytes) (bytes.drop 7))).out ++ [.spi [0]] ∧
      t.sys.spiTag = spiTagOf bytes ∧ t.sys.spiStatus = 0 ∧ t.rd SYS_SPI_LAST = w32 ((spiTagOf bytes).toNat * 256) ∧
      regsOnly [SYS_SPI_LAST] (s.spiStore (spiAddr bytes) (wordsOf (spiWords bytes) (bytes.drop 7))) t ∧
      t.mem = (s.spiStore (spiAddr bytes) (wordsOf (spiWords bytes) (bytes.drop 7))).mem ∧
      t.dram = (s.spiStore (spiAddr bytes) (wordsOf (spiWords bytes) (bytes.drop 7))).dram)) ∧
  (nth 0 bytes 0 = 0xA2 → 11 + 4 * spiWords bytes ≤ bytes.length → spiCrcOk bytes (7 + 4 * spiWords bytes) = false → leads (.spiWriteFrame bytes) s (fun t =>
      t.sys.spiStatus = 1 ∧ counted SYS_SPI_ERR_COUNT 1 s t ∧ t.bit SYS_STAT 2 = true ∧ raised 9 s t ∧
      regsKeep [SYS_SPI_LAST, SYS_SPI_ERR_COUNT, SYS_STAT] s t ∧ keeps [.regs, .out, .mon, .sys, .cores] s t)) ∧
  (nth 0 bytes 0 = 0xA3 → 11 ≤ bytes.length → spiReadCode bytes = 0 → waits ≤ 1024 → (s.spiLoad (spiAddr bytes) (spiWords bytes) []).2 = some ws →
    leads (.spiReadFrame bytes waits) s (fun t =>
      t.out = (s.spiLoad (spiAddr bytes) (spiWords bytes) []).1.out ++ [.spi (List.replicate waits 0 ++ (0x5A :: ws.flatMap (fun w => leBytes 4 w.toNat)) ++
        leBytes 4 (crc32c (0x5A :: ws.flatMap (fun w => leBytes 4 w.toNat))).toNat ++ [0])] ∧
      t.sys.spiTag = spiTagOf bytes ∧ t.sys.spiStatus = 0 ∧ t.cores = s.cores)) ∧
  (nth 0 bytes 0 = 0xA3 → 11 ≤ bytes.length → spiReadCode bytes = 0 → leads (.spiReadTimeout bytes) s (fun t =>
    t.sys.spiStatus = 4 ∧ t.bit SYS_STAT 2 = true ∧ t.pends 9 = true ∧
    .spi (List.replicate 1024 0 ++ [0xE1, 4] ++ List.replicate (bytes.length - 1038) 0xFF) ∈ t.out ∧ t.rd SYS_SPI_LAST = w32 ((spiTagOf bytes).toNat * 256 + 4))) ∧
  (nth 0 bytes 0 ≠ 0xA3 → leads (.spiShort bytes) s (fun t =>
    t.sys.spiStatus = 5 ∧ t.sys.spiDiscarded = satN 16 (s.sys.spiDiscarded + 1) ∧ counted SYS_SPI_ERR_COUNT 1 s t ∧ t.bit SYS_STAT 2 = true ∧
    raised 9 s t ∧ regsKeep [SYS_SPI_LAST, SYS_SPI_ERR_COUNT, SYS_STAT] s t ∧ keeps [.regs, .out, .mon, .sys] s t)) ∧
  (nth 0 bytes 0 ≠ 0xA2 → nth 0 bytes 0 ≠ 0xA3 → nth 0 bytes 0 ≠ 0xA5 → leads (.spiBadOpFrame bytes) s (fun t =>
    t.sys.spiStatus = 2 ∧ .spi [2] ∈ t.out ∧ counted SYS_SPI_ERR_COUNT 1 s t ∧ t.bit SYS_STAT 2 = true ∧
    raised 9 s t ∧ regsKeep [SYS_SPI_LAST, SYS_SPI_ERR_COUNT, SYS_STAT] s t ∧ keeps [.regs, .out, .mon, .sys] s t)) ∧
  (exec (.spiStatusFrame tag) s = .next { s with sys := { s.sys with spiDiscarded := 0 }, out := s.out ++ [.spi ([s.sys.spiTag, s.sys.spiStatus] ++ leBytes 2 s.sys.spiDiscarded)] })

/-- R61 to R63: COMMIT asks for a copy; a direct write of SYS_CFGCRC_REF ends a run of differing passes; the end of a pass writes its result to
SYS_CFGCRC_LAST and compares it, a pass that finds the reference shows MATCH and ends a run of differing passes, the second differing pass acts, and a
pass that began after a COMMIT copies it into the reference. R66, R45: a 1 written to a bit of EVT_PEND clears it and leaves the others, and sends
vector 0 again where IRQ_N stays asserted. R80: with class 2 a write of EVT_RAISE raises the event of its number; without DEVELOP it is ignored and
counted (R498). -/
def Obligations.ConfigCrcAndEvents : Prop := ∀ (s : State) (v : W32) (k : Fin 4) (e : Fin 128), s.hostUp = true →
  (leads (.commit v) s (fun t => t.sys.cfgCommit ≠ 0 ∧ t.sys = { s.sys with cfgCommit := t.sys.cfgCommit } ∧
    t.bit SYS_CFGCRC_CTL 3 = bitOf v 3 ∧ (bitOf v 2 = true → t.bit SYS_CFGCRC_CTL 2 = false) ∧ regsOnly [SYS_CFGCRC_CTL] s t ∧ keeps [.regs, .sys] s t)) ∧
  (leads (.cfgcrcRefWrite v) s (fun t => t.rd SYS_CFGCRC_REF = v ∧ t.sys = { s.sys with cfgDiffs := 0, cfgActed := false } ∧
    regsOnly [SYS_CFGCRC_REF] s t ∧ keeps [.regs, .sys] s t)) ∧
  (s.sys.mediaRun = true → s.sys.cfgPass = true → (s.tickN + 1) % 16 = 0 → s.sys.cfgDirty = false → 2 ≤ s.sys.cfgCommit → leads .cfgcrcPassEnd s (fun t =>
    t.rd SYS_CFGCRC_LAST = s.cfgCrc ∧ t.rd SYS_CFGCRC_REF = s.cfgCrc ∧ t.bit SYS_CFGCRC_CTL 1 = true ∧ t.bit SYS_CFGCRC_CTL 2 = false ∧
    t.sys.cfgPass = false ∧ t.sys.cfgDiffs = 0 ∧ regsOnly [SYS_CFGCRC_LAST, SYS_CFGCRC_REF, SYS_CFGCRC_CTL] s t ∧ keeps [.regs, .sys] s t)) ∧
  (s.sys.mediaRun = true → s.sys.cfgPass = true → (s.tickN + 1) % 16 = 0 → s.sys.cfgDirty = false → s.sys.cfgCommit < 2 → s.sys.cfgDiffs = 1 → s.sys.cfgActed = false →
    s.bit SYS_CFGCRC_CTL 3 = false → s.rdF SYS_CFGCRC_ACT 1 0 = 1 → s.cfgCrc ≠ s.rd SYS_CFGCRC_REF → leads .cfgcrcPassEnd s (fun t =>
    t.rd SYS_CFGCRC_LAST = s.cfgCrc ∧ t.bit SYS_CFGCRC_CTL 1 = false ∧ t.bit SYS_CFGCRC_CTL 2 = true ∧ raised 0 s t ∧ t.sys.cfgPass = false ∧
    t.sys.cfgActed = true ∧ regsKeep [SYS_CFGCRC_LAST, SYS_CFGCRC_CTL] s t ∧ keeps [.regs, .sys, .out, .mon] s t)) ∧
  (s.sys.mediaRun = true → s.sys.cfgPass = true → (s.tickN + 1) % 16 = 0 → s.sys.cfgDirty = false → s.sys.cfgCommit < 2 → s.cfgCrc = s.rd SYS_CFGCRC_REF →
    leads .cfgcrcPassEnd s (fun t => t.rd SYS_CFGCRC_LAST = s.cfgCrc ∧ t.bit SYS_CFGCRC_CTL 1 = true ∧ t.sys.cfgPass = false ∧ t.sys.cfgDiffs = 0 ∧
      t.sys.cfgActed = false ∧ regsOnly [SYS_CFGCRC_LAST, SYS_CFGCRC_CTL] s t ∧ keeps [.regs, .sys] s t)) ∧
  (leads (.evtPendClear k v) s (fun t => t.rd (EVT_PEND k.val) = s.rd (EVT_PEND k.val) &&& ~~~v ∧ regsOnly [EVT_PEND k.val] s t ∧
    keeps [.regs, .sys, .out] s t)) ∧
  (s.class2 = true → s.eventHere e.val = true → leads (.evtRaise (w32 e.val)) s (fun t =>
    evtOnly s t ∧ t.pends e.val = true ∧ regsKeep [] s t)) ∧
  (s.class2 = false → leads (.evtRaise (w32 e.val)) s (fun t =>
    evtOnly s t ∧ counted PRS_DENIED 1 s t ∧ t.bit PRS_STAT 2 = true ∧ regsKeep [PRS_DENIED, PRS_STAT, PRS_DENIED_LAST] s t))

/-! ## Block images (R84 to R114) -/

/-- R95 to R97, R102 to R104, R114: phase 1 of a running IMG_LOAD checks what its source supplies in the order of R97. A source that supplies nothing is
refused with SOURCE, an image that fails a check with that check's ERROR; the refusal is counted, every result word is written and the running image
is untouched. An image that passes is staged in DRAM and armed for the next boundary; from the flash, the loader's reset and SFDP read stand before
it. R106: a partner's report of equal digests lets the active name the boundary, 2 ticks after the later report (log entry 72), the standby takes the
active's naming; a refusal of the partner's ends this load with the same ERROR, other digests with TWIN_MISMATCH. R101: an ABORT taken in phase 1 ends
the load with OUTCOME 4. -/
def Obligations.ImagePhase1 : Prop := ∀ (s : State) (k : Fin 16) (bytes ss fp : List Byte) (code : Byte) (i : Image) (n : Nat), (s.slot k.val).st = .running → (s.slot k.val).kind = 1 → (s.slot k.val).fin = none → s.dram.frozen = false →
  (s.img.slot = none → s.img.phase = .idle → s.pairLoads = false → (s.slot k.val).abortReq = false → fld ((s.slot k.val).arg 0) 3 0 = 0 → leads (.imgLoad k none) s (fun t => (t.slot k.val).fin = some 0x4E ∧ (t.slot k.val).st = .running ∧ t.img.running = s.img.running ∧ t.img.phase = .idle ∧
    t.rd IMG_FAIL = 0xFF4E ∧ counted IMG_FAILS 1 s t ∧ t.bit IMG_STAT 0 = true ∧ t.poolW (resultOff k.val 0) = 20 ∧ t.poolW (resultOff k.val 18) = 3 ∧ t.poolW (resultOff k.val 19) = 0xFF4E ∧ t.poolW (resultOff k.val 1) = 0 ∧
    t.out = s.out ++ [.flash (.command 0x66), .flash (.command 0x99), .flash .sfdp] ∧ regsOnly [IMG_FAIL, IMG_FAILS, IMG_STAT] s t ∧ keeps [.regs, .out, .jobs, .img, .mem] s t)) ∧
  (s.img.slot = none → s.img.phase = .idle → s.pairLoads = false → (s.slot k.val).abortReq = false → (s.slot k.val).granted = true → fld ((s.slot k.val).arg 0) 3 0 = 0 → 16777216 ≤ s.dramSize → leads (.imgLoad k (some bytes)) s (fun t => t.img.running = s.img.running ∧
    t.out = s.out ++ [.flash (.command 0x66), .flash (.command 0x99), .flash .sfdp, .flash (.read 0)] ∧ (∀ e, (checkImage s.imgTarget bytes).2 = .error e →
    (t.slot k.val).fin = some (BitVec.ofNat 8 e.code) ∧ t.rd IMG_FAIL = w32 (e.sec * 256 + e.code) ∧ counted IMG_FAILS 1 s t ∧ t.img.phase = .idle ∧ t.poolW (resultOff k.val 18) = 3 ∧ regsOnly [IMG_FAIL, IMG_FAILS, IMG_STAT] s t ∧ keeps [.regs, .out, .jobs, .img, .mem] s t) ∧
    (∀ x, (checkImage s.imgTarget bytes).2 = .ok x → s.dram.poison = [] → s.bit IMG_TRUST_CTL 0 = false → t.img.staged = some x ∧ t.img.phase = .armed (s.tickN + 1) ∧ t.img.slot = some k.val ∧
    t.dramPeek 0 bytes.length = bytes ∧ (t.slot k.val).st = .running ∧ (t.slot k.val).fin = none ∧ t.poolW (resultOff k.val 0) = 17 ∧ t.poolW (resultOff k.val 1) = x.generation ∧ keeps [.out, .jobs, .img, .mem, .dram] s t))) ∧
  (s.img.slot = none → s.img.phase = .idle → s.pairLoads = false → (s.slot k.val).abortReq = false → fld ((s.slot k.val).arg 0) 3 0 = 0 → 4 ≤ bytes.length → bytes.take 4 ≠ [0x48, 0x56, 0x42, 0x49] → 16777216 ≤ s.dramSize → leads (.imgLoad k (some bytes)) s (fun t => (t.slot k.val).fin = some 0x40 ∧ t.rd IMG_FAIL = 0xFF40)) ∧
  (s.img.slot = none → s.img.phase = .idle → (s.slot k.val).abortReq = true → leads (.imgLoad k (some bytes)) s (fun t => (t.slot k.val).st = .aborted ∧ t.poolW (resultOff k.val 18) = 4 ∧ t.img.running = s.img.running ∧ keeps [.jobs, .img, .mem] s t)) ∧
  (s.img.slot = none → s.img.phase = .idle → s.pairLoads = false → s.pcie = true → fld ((s.slot k.val).arg 0) 3 0 = 2 → leads (.imgDmaTimeout k) s (fun t => (t.slot k.val).fin = some 0x4E ∧ t.rd IMG_FAIL = 0xFF4E ∧ counted IMG_FAILS 1 s t ∧ t.img.running = s.img.running ∧
    t.poolW (resultOff k.val 18) = 3 ∧ regsOnly [IMG_FAIL, IMG_FAILS, IMG_STAT] s t ∧ keeps [.regs, .jobs, .img, .mem] s t)) ∧
  (s.img.slot = some k.val → s.img.phase = .reported → s.img.staged = some i → s.twn.linkUp = true → s.twn.role = .active → ss = i.ssig → fp = i.fprint → leads (.imgTwinReport ss fp (.verdict 0)) s (fun t => t.img.phase = .armed (s.tickN + 3) ∧ t.img.staged = some i ∧ t.img.partnerCode = none ∧
    t.img.running = s.img.running ∧ t.twn.partnerImage = true ∧ t.out = s.out ++ [.twin 15 [s.tickN + 3]] ∧ keeps [.img, .twn, .out] s t)) ∧
  (s.img.slot = some k.val → s.img.phase = .reported → s.img.staged = some i → s.img.partnerCode = some 0 → s.img.ssig1 = i.ssig → s.img.fprint1 = i.fprint → s.twn.linkUp = true → s.twn.role = .standby → leads (.imgTwinReport ss fp (.boundary n)) s (fun t =>
    t.img = { s.img with phase := .armed n, partnerCode := none } ∧ keeps [.img] s t)) ∧
  (s.img.slot = some k.val → s.img.phase = .reported → s.img.staged = some i → s.twn.linkUp = true → code ≠ 0 → leads (.imgTwinReport ss fp (.verdict code)) s (fun t => (t.slot k.val).fin = some code ∧ t.img.phase = .idle ∧ t.img.staged = none ∧ t.img.running = s.img.running ∧
    counted IMG_FAILS 1 s t ∧ regsOnly [IMG_FAIL, IMG_FAILS, IMG_STAT] s t ∧ keeps [.regs, .jobs, .img, .mem] s t)) ∧
  (s.img.slot = some k.val → s.img.phase = .reported → s.img.staged = some i → s.twn.linkUp = true → ss ≠ i.ssig → leads (.imgTwinReport ss fp (.verdict 0)) s (fun t => (t.slot k.val).fin = some 0x50 ∧ t.img.phase = .idle ∧ t.img.running = s.img.running ∧ keeps [.regs, .jobs, .img, .mem, .twn] s t))

/-- R98, R367, R16: phase 2 clears every on-chip memory but the result windows and distributes the staged image's sections; the restart starts the media
clock with its counters from network time, or from zero; where no port has a start lead to wait for, the load ends there: the IMG registers show the
image, the load is counted and its job done, or aborted where an ABORT waits (R101). R105: the other flash slot loads in the background; where it
loads, the media clock starts; where it is refused, LOADED stays 0. -/
def Obligations.ImagePhase2 : Prop := ∀ (s : State) (i : Image) (n : Nat) (k : Fin 16) (bytes : Option (List Byte)),
  (s.sys.mediaRun = false → s.img.staged = some i → s.img.phase = .stopping n → i.reginit = [] → leads .imgLoadPhase2 s (fun t => t.img.running = some i ∧ t.img.shown = s.img.shown ∧ t.img.source = s.img.source ∧ t.img.phase = .distributed ∧ t.canopy = canopyOf i.structure' ∧
    (∀ c ∈ upFrom 0 64, t.core c = coreOf i c) ∧ t.poolW 0 = 0 ∧ t.poolW 0xFFBFFC = 0 ∧ t.poolW 0xFFC000 = s.poolW 0xFFC000 ∧ t.poolW 0xFFFFFC = s.poolW 0xFFFFFC ∧ t.rd MEM_CLEAR_TIME = 0x4B0 ∧ regsOnly (MEM_CLEAR_TIME :: (upFrom 0 64).map FUL_STAT) s t ∧
    keeps [.regs, .img, .graph, .canopy, .cores, .ports, .net, .mem] s t)) ∧
  (s.img.phase = .distributed → s.img.running = some i → s.img.heldEnables = [] → s.img.slot = some k.val → leads .imgMediaRestart s (fun t => t.sys.mediaRun = true ∧
    t.sys.tick = (if s.tim.qualified = true then BitVec.ofNat 64 (tickOf s.tim.now) else 0) ∧ t.sys.aligned = s.tim.qualified ∧ t.img.running = some i ∧ (s.sys.cfgCommit = 0 → t.sys.cfgCommit ≠ 0) ∧
    ((∀ q ∈ t.ports, q.2.st ≠ .starting) → t.img.phase = .idle ∧ t.img.shown = some i ∧ t.img.source = s.img.stagedSrc ∧ counted IMG_LOADS 1 s t ∧ t.poolW (resultOff k.val 19) = 0 ∧ t.poolW (resultOff k.val 20) = t.rd IMG_GAP ∧
      (if (s.slot k.val).abortReq = true then (t.slot k.val).st = .aborted ∧ t.poolW (resultOff k.val 18) = 2 else (t.slot k.val).fin = some 0 ∧ t.poolW (resultOff k.val 18) = 1)) ∧
    keeps [.regs, .out, .mon, .sys, .jobs, .img, .graph, .canopy, .cores, .ports, .clk, .twn, .mem, .tim] s t)) ∧
  (s.img.bgLoad = true → s.sys.ready = true → s.img.running = none → s.img.phase = .idle → leads (.bootBgLoad bytes) s (fun t => (∀ e, s.bootCheck bytes = .error e → t.img.bgLoad = false ∧ t.img.running = none ∧ t.bit IMG_STAT 0 = true ∧
    t.rd IMG_FAIL = w32 (131072 + e.sec * 256 + e.code) ∧ counted IMG_FAILS 1 s t ∧ regsOnly [IMG_FAIL, IMG_FAILS, IMG_STAT] s t ∧ keeps [.regs, .out, .img, .cores] s t) ∧
    (∀ x, s.bootCheck bytes = .ok x → x.reginit = [] → t.sys.mediaRun = true ∧ t.img.running = some x ∧ t.img.stagedSrc = 1 - s.img.bootSlot))) ∧
  (s.img.bgLoad = true → s.sys.ready = true → s.img.running = none → s.img.phase = .idle → bytes = none → leads (.bootBgLoad bytes) s (fun t => t.img.running = none ∧ t.rd IMG_FAIL = 0x2FF4E ∧ t.sys = s.sys))

/-- R107, R110, R111: a GRAFT that passes its checks in a pair in step is reported to the partner, one without a standby in step is refused with
NOT_PAIRED; at t1 the comparison of digests is suspended and the standby takes up the new image; the state being complete names t2 after the settling
ticks; at t2 the roles change, with EV99, and the old active takes up the new image and resynchronises. -/
def Obligations.Graft : Prop := ∀ (s : State) (i o : Image) (k : Fin 16) (bytes : List Byte) (n : Nat) (copy : StateCopy),
  ((s.slot k.val).st = .running → (s.slot k.val).kind = 2 → (s.slot k.val).fin = none → (s.slot k.val).abortReq = false → s.dram.frozen = false → s.img.slot = none → s.img.phase = .idle → fld ((s.slot k.val).arg 0) 3 0 = 0 → 16777216 ≤ s.dramSize → s.img.partnerCode = none →
    s.bit IMG_TRUST_CTL 0 = false → s.img.running = some o → leads (.graft k (some bytes)) s (fun t => t.img.running = some o ∧ (∀ e, (checkImage s.imgTarget bytes).2 = .error e → (t.slot k.val).fin = some (BitVec.ofNat 8 e.code) ∧ t.img.phase = .idle) ∧
    (∀ x, (checkImage s.imgTarget bytes).2 = .ok x → if s.pairLoads = true then t.img.phase = .reported ∧ t.img.staged = some x ∧ t.img.slot = some k.val else (t.slot k.val).fin = some 0x51 ∧ t.img.phase = .idle) ∧ keeps [.regs, .out, .jobs, .img, .mem, .dram] s t)) ∧
  (s.img.phase = .graftT1 (s.tickN + 1) → s.twn.suspended = false → s.img.staged = some i → s.twn.linkUp = true → s.twn.role = .active → s.twn.partnerStep = true → leads .graftT1 s (fun t => t.twn = { s.twn with suspended := true } ∧ keeps [.twn, .cores] s t)) ∧
  (s.img.phase = .graftT1 (s.tickN + 1) → s.twn.suspended = false → s.img.staged = some i → s.twn.linkUp = true → s.twn.role = .standby → i.reginit = [] → leads .graftT1 s (fun t => t.twn = { s.twn with suspended := true, role := .grafting } ∧
    t.img.running = some i ∧ t.img.shown = some i ∧ t.img.source = 4 ∧ t.canopy = canopyOf i.structure' ∧ keeps [.regs, .img, .graph, .canopy, .cores, .ports, .net, .mem, .twn] s t)) ∧
  (s.img.phase = .graftT1 n → s.img.slot = some k.val → s.img.staged = some i → s.twn.suspended = true → s.twn.linkUp = true → s.twn.role = .active → leads (.graftStateComplete copy) s (fun t =>
    t.img = { s.img with phase := .graftCopied (s.tickN + 1 + ((s.slot k.val).arg 3).toNat) } ∧ (t.slot k.val).total = (s.slot k.val).total + copy.mib ∧ keeps [.jobs, .img, .cores] s t)) ∧
  (s.img.phase = .graftT1 n → s.img.slot = some k.val → s.img.staged = some i → s.twn.suspended = true → s.twn.linkUp = true → s.twn.role = .grafting → s.img.oldImage = some o → leads (.graftStateComplete copy) s (fun t =>
    t.img = { s.img with phase := .graftCopied (s.tickN + 1 + ((s.slot k.val).arg 3).toNat) } ∧ t.canopy = copy.canopy ∧ t.graph.sels = copy.graph.sels ∧ t.graph.pris = copy.graph.pris ∧ keeps [.jobs, .img, .graph, .canopy, .cores, .mem, .dram] s t)) ∧
  (s.img.phase = .graftCopied (s.tickN + 1) → s.img.slot = some k.val → s.img.staged = some i → s.twn.role = .grafting → s.sys.mediaRun = true → leads .graftT2 s (fun t => t.twn.role = .active ∧ t.twn.roleTx = true ∧ t.twn.selOut = true ∧ t.img.phase = .graftSwapped (s.tickN + 1) ∧
    t.img.takeTick = w32 (s.tickN + 1) ∧ counted TWN_TAKEOVERS 1 s t ∧ raised 98 s t ∧ raised 99 s t ∧ t.bit TWN_STAT 3 = true ∧ keeps [.regs, .out, .mon, .sys, .img, .cores, .ports, .clk, .twn] s t)) ∧
  (s.img.phase = .graftCopied (s.tickN + 1) → s.img.slot = some k.val → s.img.staged = some i → s.twn.role = .active → s.sys.mediaRun = true → i.reginit = [] → leads .graftT2 s (fun t => t.twn.role = .resyncing ∧ t.twn.roleTx = false ∧ t.twn.phase = 2 ∧ t.img.running = some i ∧ t.img.source = 4 ∧
    t.img.phase = .graftSwapped (s.tickN + 1) ∧ raised 99 s t ∧ raised 101 s t ∧ keeps [.regs, .out, .mon, .sys, .img, .graph, .canopy, .cores, .ports, .clk, .net, .mem, .twn] s t))

/-! ## Signal graph and ring store (R115 to R139) -/

/-- R119, R138: GRF_SEL_SET writes a plain selector's shadow position and fade; R120: GRF_PRI_SET, under presence and before GRF_LOCK, writes a
candidate's EN and priority; what names no such selector, position or candidate is ignored with BAD_SEL. R125, R126: RNG_DLY_SET and RNG_LEN_SET give
a line a delay or a length for the next boundary, outside their ranges BAD_ARG with EV83. R122, R125: a crossfade ends with its last tick; step 6 of a
boundary holds a delay back while a crossfade runs, then applies it, clamped, with a crossfade of its own. -/
def Obligations.SelectorsAndDelays : Prop := ∀ (s : State) (v : W32) (i : SelInfo) (l : LineInfo) (k n : Nat) (x : LineState), s.hostUp = true →
  (k = fld v 26 16 → s.selInfo k = some i → i.priority = false → fld v 3 0 < i.cands.length → exec (.grfSelSet v) s = .next (s.setSel k { s.sel k with shadowPos := fld v 3 0, shadowFade := fld v 15 10 + 1 })) ∧
  (s.selInfo (fld v 26 16) = none ∨ (s.selInfo (fld v 26 16) = some i ∧ (i.priority = true ∨ i.cands.length ≤ fld v 3 0)) → leads (.grfSelSet v) s (fun t => t.bit GRF_STAT 0 = true ∧ regsOnly [GRF_STAT] s t ∧ keeps [.regs] s t)) ∧
  (k = fld v 26 16 → s.selInfo k = some i → i.priority = true → fld v 11 8 < i.cands.length → s.class1 = true → s.locked .grf = false → leads (.grfPriSet v) s (fun t => t.pri k (fld v 11 8) = { en := bitOf v 4, pri := fld v 3 0 } ∧
    sameBut [k * 16 + fld v 11 8] { en := false, pri := 15 } s.graph.pris t.graph.pris ∧ t.graph = { s.graph with pris := t.graph.pris } ∧ keeps [.graph] s t)) ∧
  (s.class1 = true → s.locked .grf = false → s.selInfo (fld v 26 16) = none ∨ (s.selInfo (fld v 26 16) = some i ∧ (i.priority = false ∨ i.cands.length ≤ fld v 11 8)) → leads (.grfPriSet v) s (fun t => t.bit GRF_STAT 0 = true ∧ regsOnly [GRF_STAT] s t ∧ keeps [.regs] s t)) ∧
  (s.class1 = true → s.locked .grf = true → leads (.grfPriSet v) s (fun t => t.graph = s.graph ∧ t.bit GRF_STAT 30 = true ∧ raised 7 s t ∧ regsKeep [GRF_STAT] s t ∧ evtOnly s t)) ∧
  (s.class1 = false → leads (.grfPriSet v) s (fun t => t.graph = s.graph ∧ counted PRS_DENIED 1 s t ∧ t.bit PRS_STAT 2 = true ∧ regsKeep [PRS_DENIED, PRS_STAT, PRS_DENIED_LAST] s t ∧ evtOnly s t)) ∧
  ((s.sel k).fadeLeft = 1 → (s.sel k).fresh = false → exec (.selectorFadeEnd k) s = .next (s.setSel k { s.sel k with fadeLeft := 0 })) ∧
  (k = fld v 31 20 → k < s.struct.lines.length → exec (.rngDlySet v) s = .next (s.setLine k { s.line k with want := some (fld v 19 0) })) ∧
  (s.struct.lines.length ≤ fld v 31 20 → ∀ c ∈ [Instr.rngDlySet v, .rngLenSet v], leads c s (fun t => t.bit RNG_STAT 1 = true ∧ raised 83 s t ∧ regsKeep [RNG_STAT] s t ∧ evtOnly s t)) ∧
  (k = fld v 31 20 → s.lineInfo k = some l → 2 ≤ fld v 15 0 → fld v 15 0 ≤ l.size → exec (.rngLenSet v) s = .next (s.setLine k { s.line k with wantLen := some (fld v 15 0) })) ∧
  (s.lineInfo (fld v 31 20) = some l → fld v 15 0 < 2 ∨ l.size < fld v 15 0 → leads (.rngLenSet v) s (fun t => t.bit RNG_STAT 1 = true ∧ raised 83 s t ∧ regsKeep [RNG_STAT] s t ∧ evtOnly s t)) ∧
  (s.line k = x → x.fadeLeft = 1 → exec (.delayFadeEnd k) s = .next (s.setLine k { x with fadeLeft := 0 })) ∧
  (s.line k = x → x.fadeLeft = 0 → x.want = some n → x.wantLen = none → n ≠ x.delay → s.tickLen ≤ n → n ≤ x.len * s.tickLen - s.tickLen →
    s.lineStep6 k = s.setLine k { x with want := none, old := x.delay, delay := n, fadeLen := s.rdF RNG_XFADE 5 0 + 1, fadeLeft := s.rdF RNG_XFADE 5 0 + 1 }) ∧
  (s.line k = x → x.fadeLeft = 0 → x.want = some n → x.wantLen = none → x.delay = s.tickLen → 0 < n → n < s.tickLen →
    s.lineStep6 k = (s.setLine k { x with want := none }).rngFlag 0) ∧
  (s.line k = x → 0 < x.fadeLeft → x.wantLen = none → s.lineStep6 k = s)

/-- R128 to R130: an ANNOUNCE joins its voice's queue by priority and then number, and never interrupts a play; at an idle voice it starts, its clip entry
latched. One for a voice that is none, or for a full queue, has OUTCOME 2; it is counted, as is one whose clip entry is not valid. R130: the end of a
clip repeats it, or counts the announcement as done, and the coming boundary starts the next. R131: a cancel stops the play, empties the queue, or
both, counting each announcement. -/
def Obligations.MessagePlayers : Prop := ∀ (s : State) (e : LedgerEntry) (v : Nat) (x : Voice) (p : Play) (a : Announce) (q1 q2 : List Announce) (bs : List Byte) (a0 a1 a2 : W32), s.voice v = x → v = fld a0 25 16 → a = { clip := fld a0 15 0, pri := fld a0 29 26, id := a1, repeats := fld a2 15 0, seq := e.seq } →
  e.op = 3 → e.args = [a0, a1, a2] → s.tickN + 1 ≤ e.tick → s.sys.mediaRun = true → s.sys.phase = .running → s.dram.frozen = false → s.dram.poison = [] → s.hostUp = true →
  (firstDue s.ledger.entries (s.tickN + 1) = some e → v < s.struct.voices → fld a0 31 30 = 0 → fld a2 31 16 = 0 → x.queue.length < 32 → x.play = some p → x.queue = q1 ++ q2 → (∀ q ∈ q1, q.pri < a.pri ∨ (q.pri = a.pri ∧ q.seq ≤ a.seq)) → (∀ q ∈ q2, a.pri < q.pri ∨ (a.pri = q.pri ∧ a.seq < q.seq)) →
    leads (.announce e.seq) s (fun t => t.voice v = { x with queue := q1 ++ [a] ++ q2 } ∧ t.ledger.exe = max s.ledger.exe e.seq ∧ t.dramPeek (entryAddr e.seq) 32 = entryWords e 3 1 ∧ sameBut [v] idleVoice s.graph.voices t.graph.voices ∧ regsKeep [] s t ∧
    keeps [.regs, .out, .mon, .sys, .ledger, .dram, .graph] s t)) ∧
  (firstDue s.ledger.entries (s.tickN + 1) = some e → v < s.struct.voices → fld a0 31 30 = 0 → fld a2 31 16 = 0 → x.queue = [] → x.play = none → bs = s.dramPeek (s.struct.clipBase + 16 * a.clip) 16 → clipValid s.struct bs = true → leads (.announce e.seq) s (fun t =>
    t.voice v = { x with lastId := a1, play := some { ann := a, addr := leAt bs 0 8, length := leAt bs 8 4, format := leAt bs 12 1, pos := 0, left := fld a2 15 0, stopping := false } } ∧ sameBut [v] idleVoice s.graph.voices t.graph.voices ∧ regsKeep [] s t)) ∧
  (firstDue s.ledger.entries (s.tickN + 1) = some e → v < s.struct.voices → fld a0 31 30 = 0 → fld a2 31 16 = 0 → x.queue = [] → x.play = none → clipValid s.struct (s.dramPeek (s.struct.clipBase + 16 * a.clip) 16) = false → leads (.announce e.seq) s (fun t =>
    t.voice v = x ∧ counted RNG_ANN_REFUSED 1 s t ∧ t.bit RNG_STAT 2 = true ∧ raised 83 s t ∧ t.dramPeek (entryAddr e.seq) 32 = entryWords e 3 1 ∧ regsKeep [RNG_ANN_REFUSED, RNG_STAT] s t)) ∧
  (firstDue s.ledger.entries (s.tickN + 1) = some e → s.struct.voices ≤ v → leads (.announce e.seq) s (fun t => t.graph = s.graph ∧ counted RNG_ANN_REFUSED 1 s t ∧ t.bit RNG_STAT 4 = true ∧ raised 83 s t ∧ t.dramPeek (entryAddr e.seq) 32 = entryWords e 3 2 ∧
    regsKeep [RNG_ANN_REFUSED, RNG_STAT] s t ∧ keeps [.regs, .out, .mon, .sys, .ledger, .dram] s t)) ∧
  (firstDue s.ledger.entries (s.tickN + 1) = some e → v < s.struct.voices → fld a0 31 30 = 0 → fld a2 31 16 = 0 → 32 ≤ x.queue.length → leads (.announce e.seq) s (fun t => t.graph = s.graph ∧ counted RNG_ANN_REFUSED 1 s t ∧ t.bit RNG_STAT 3 = true ∧ raised 83 s t ∧
    t.dramPeek (entryAddr e.seq) 32 = entryWords e 3 2 ∧ regsKeep [RNG_ANN_REFUSED, RNG_STAT] s t ∧ keeps [.regs, .out, .mon, .sys, .ledger, .dram] s t)) ∧
  (x.play = some p → p.length ≤ p.pos → p.stopping = false → p.left = 0 → leads (.playEnd v) s (fun t => t.voice v = { x with play := none } ∧ counted RNG_ANN_DONE 1 s t ∧ sameBut [v] idleVoice s.graph.voices t.graph.voices ∧ regsOnly [RNG_ANN_DONE] s t ∧ keeps [.regs, .graph] s t)) ∧
  (x.play = none → x.queue = a :: q2 → bs = s.dramPeek (s.struct.clipBase + 16 * a.clip) 16 → clipValid s.struct bs = true →
    (s.voiceStart v).voice v = { x with queue := q2, lastId := a1, play := some { ann := a, addr := leAt bs 0 8, length := leAt bs 8 4, format := leAt bs 12 1, pos := 0, left := fld a2 15 0, stopping := false } } ∧
    regsOnly [] s (s.voiceStart v) ∧ keeps [.graph] s (s.voiceStart v)) ∧
  (x.play = some p → p.length ≤ p.pos → p.stopping = false → p.left ≠ 0 → exec (.playEnd v) s = .next (s.setVoice v { x with play := some { p with pos := 0, left := if p.ann.repeats = 0xFFFF then p.left else p.left - 1 } })) ∧
  (v < s.struct.voices → x.play = some p → p.stopping = false → leads (.plyCancelStop v) s (fun t => t.voice v = { x with play := some { p with stopping := true } } ∧ counted RNG_ANN_CANCELLED 1 s t ∧ sameBut [v] idleVoice s.graph.voices t.graph.voices ∧ regsOnly [RNG_ANN_CANCELLED] s t ∧ keeps [.regs, .graph] s t)) ∧
  (v < s.struct.voices → leads (.plyCancelQueue v) s (fun t => t.voice v = { x with queue := [] } ∧ counted RNG_ANN_CANCELLED x.queue.length s t ∧ sameBut [v] idleVoice s.graph.voices t.graph.voices ∧ regsOnly [RNG_ANN_CANCELLED] s t ∧ keeps [.regs, .graph] s t)) ∧
  (v < s.struct.voices → x.play = some p → p.stopping = false → leads (.plyCancelBoth v) s (fun t => t.voice v = { x with queue := [], play := some { p with stopping := true } } ∧ counted RNG_ANN_CANCELLED (x.queue.length + 1) s t ∧ regsOnly [RNG_ANN_CANCELLED] s t ∧ keeps [.regs, .graph] s t)) ∧
  (s.struct.voices ≤ v → ∀ c ∈ [Instr.plyCancelStop v, .plyCancelQueue v, .plyCancelBoth v], leads c s (fun t => t.graph = s.graph ∧ t.bit RNG_STAT 1 = true ∧ raised 83 s t ∧ regsKeep [RNG_STAT] s t ∧ evtOnly s t))

/-- R133, R134: a segment of 30 ticks whose gate was open in one of them is written with its header behind the last one of its region, or at the region's
start where it does not fit there; the segments it overwrites are gone; one whose gate was closed is skipped. R135: a RECORDER_EXPORT copies the
retained segments to host memory; with all of them copied its work is done and its result window written. -/
def Obligations.Recorders : Prop := ∀ (s : State) (c len a : Nat) (g : RecSeg) (i : RecInfo) (r : Recorder) (k : Fin 16) (host : W64), s.recInfo c = some i → s.recorder c = r → len = 16 + recPayload i.format s.rate96 → c < 512 → s.dram.frozen = false → s.dram.poison = [] →
  (30 ≤ r.ticks → r.gated = true → len ≤ i.size → a = (if r.nextOff + len ≤ i.size then r.nextOff else 0) → leads (.recorderSegmentEnd c) s (fun t =>
    t.recorder c = { r with ticks := 0, gated := false, flagged := false, skipped := false, buf := [], nextOff := a + len,
                            segs := r.segs.filter (fun x => decide (x.off + x.len ≤ a) || decide (a + len ≤ x.off)) ++ [{ tick := r.firstTick, off := a, len := len }] } ∧
    t.dramPeek (i.base + a) 12 = leBytes 8 r.firstTick ++ leBytes 2 c ++ leBytes 1 i.format ++ leBytes 1 ((if r.skipped = true then 1 else 0) + (if r.flagged = true then 2 else 0)) ∧ sameBut [c] noRecorder s.graph.recs t.graph.recs ∧ keeps [.graph, .dram] s t)) ∧
  (30 ≤ r.ticks → r.gated = false → exec (.recorderSegmentEnd c) s = .next (s.setRecorder c { r with ticks := 0, gated := false, flagged := false, skipped := true, buf := [] })) ∧
  (r.ticks < 30 → exec (.recorderSegmentEnd c) s = .next s) ∧
  ((s.slot k.val).st = .queued → (s.slot k.val).kind = 9 → s.engineFree k.val = true → s.graph.dma = none → (s.slot k.val).args = [w32 c, w32 g.tick, lo32 host, hi32 host] → r.segs = [g] → leads (.recorderExport k 1) s (fun t =>
    t.out = s.out ++ [.dma host.toNat (s.dramPeek (i.base + g.off) g.len)] ∧ (t.slot k.val).st = .running ∧ (t.slot k.val).fin = some 0 ∧ (t.slot k.val).total = 1 ∧ t.graph = s.graph ∧ t.poolW (resultOff k.val 0) = 4 ∧ t.poolW (resultOff k.val 1) = 1 ∧
    t.poolW (resultOff k.val 2) = w32 g.len ∧ t.poolW (resultOff k.val 3) = w32 g.tick ∧ t.poolW (resultOff k.val 4) = 0 ∧ keeps [.out, .jobs, .mem, .graph] s t)) ∧
  ((s.slot k.val).st = .queued → (s.slot k.val).kind = 9 → s.engineFree k.val = true → s.graph.dma = none → (s.slot k.val).args = [w32 c, w32 g.tick, lo32 host, hi32 host] → r.segs = [] → leads (.recorderExport k 1) s (fun t =>
    t.out = s.out ∧ (t.slot k.val).fin = some 0 ∧ (t.slot k.val).total = 0 ∧ t.poolW (resultOff k.val 0) = 4 ∧ t.poolW (resultOff k.val 1) = 0 ∧ keeps [.jobs, .mem, .graph] s t))

/-! ## The Canopy and click-free change (R140 to R195) -/

/-- R188 to R190: a SWAP executes at its named tick and joins the pending list; the oldest takes effect at a boundary with no transition and no
plain-selector crossfade left, and then the banks exchange roles, each crosspoint whose word differs is in transition, and the timeout is STEP or
CNP_STEP as it stands. R193, R194: a crosspoint that has come to the last sample of its timeout takes its new gain, with all that share its input.
R161: a detector whose hold has run down in the mix closes. R160, R162, R172: CNP_DET_SET and CNP_SCL_SET write the shadow values, and BAD_ARG refuses
the values outside their ranges. -/
def Obligations.SwapsAndTransitions : Prop := ∀ (s : State) (e : LedgerEntry) (p : PendSwap) (ps : List PendSwap) (i : SelInfo) (k d : Nat) (tile : Fin 256) (b a : Nat) (v a0 a1 a2 : W32),
  (firstDue s.ledger.entries (s.tickN + 1) = some e → s.sys.mediaRun = true → s.sys.phase = .running → s.dram.frozen = false → e.op = 2 → e.args = [a0, a1, a2] → s.tickN + 1 ≤ e.tick → leads (.swap e.seq) s (fun t =>
    t.canopy = { s.canopy with pendSwaps := s.canopy.pendSwaps ++ [{ seq := e.seq, step := fld a0 8 0 }] } ∧ bitOf t.cnpXfr 31 = true ∧ t.ledger.exe = max s.ledger.exe e.seq ∧ t.dramPeek (entryAddr e.seq) 32 = entryWords e 3 1 ∧ regsKeep [] s t ∧
    keeps [.regs, .out, .mon, .sys, .ledger, .dram, .canopy] s t)) ∧
  (s.sys.mediaRun = true → s.sys.phase = .running → s.canopy.pendSwaps = p :: ps → s.canopy.mixEnd.flags = [] → s.plainFading 1 = false → s.canopy.swapped = false → leads .swapTakesEffect s (fun t => t.canopy.live k = s.canopy.shadow k ∧ t.canopy.shadow k = s.canopy.live k ∧ t.canopy.flagged k = gainDiffers (s.canopy.shadow k) (s.canopy.live k) ∧
    t.canopy.effective k = (if gainDiffers (s.canopy.shadow k) (s.canopy.live k) = true then s.canopy.live k else s.canopy.shadow k) ∧ t.canopy.detLive = s.canopy.detShadow ∧ t.canopy.detShadow = s.canopy.detLive ∧ t.canopy.sclLive = s.canopy.sclShadow ∧
    t.canopy.sclShadow = s.canopy.sclLive ∧ t.canopy.liveBank1 = !s.canopy.liveBank1 ∧ t.canopy.pendSwaps = ps ∧ t.canopy.swapped = true ∧ t.canopy.swapTick = s.tickN + 1 ∧ t.canopy.swapStep = (if p.step = 0 then s.rdF CNP_STEP 7 0 + 1 else p.step) ∧ keeps [.canopy, .graph, .cores] s t)) ∧
  (s.sys.mediaRun = true → s.sys.phase = .running → s.canopy.pendSwaps = p :: ps → s.canopy.mixEnd.flags = [] → s.plainFading 1 = false → s.canopy.swapped = false → s.selInfo d = some i → i.priority = false → (spFind s.graph.sels d).isSome = true → leads .swapTakesEffect s (fun t =>
    (t.sel d).pos = (s.sel d).shadowPos ∧ (t.sel d).shadowPos = (s.sel d).pos ∧ (t.sel d).fade = (s.sel d).shadowFade ∧ (t.sel d).fadeLeft = (if (s.sel d).shadowPos = (s.sel d).pos then (s.sel d).fadeLeft else (s.sel d).shadowFade))) ∧
  (s.sys.mediaRun = true → s.sys.phase = .running → s.canopy.mixEnd.flags ≠ [] ∨ s.plainFading 1 = true ∨ s.canopy.pendSwaps = [] ∨ s.canopy.swapped = true → leads .swapTakesEffect s (fun t => t.canopy = s.canopy.mixEnd ∧ sameBut [] coreInit s.cores t.cores ∧ keeps [.canopy, .cores] s t)) ∧
  (k = xpKey tile.val b a → a < 512 → b < 256 → s.canopy.timedOut.contains k = true → leads (.crosspointStepTimeout tile b a) s (fun t => t.canopy.effective k = s.canopy.live k ∧ t.canopy.flagged k = false ∧
    (∀ j ∈ s.canopy.timedOut, sameInput k j = true → t.canopy.flagged j = false) ∧ sameBut (s.canopy.timedOut.filter (sameInput k)) false s.canopy.flags t.canopy.flags ∧
    t.canopy = { s.canopy with flags := t.canopy.flags, timedOut := s.canopy.timedOut.filter (fun j => !sameInput k j) } ∧ keeps [.canopy] s t)) ∧
  (s.canopy.timedOut.contains (xpKey tile.val b a) = false → exec (.crosspointStepTimeout tile b a) s = .next s) ∧
  ((s.canopy.det d).isOpen = true → (s.canopy.det d).cnt = 0 → exec (.detectorHoldExpiry d) s = .next { s with canopy := { s.canopy with dets := spPut s.canopy.dets d { isOpen := false, cnt := 0 } } }) ∧
  (s.hostUp = true → fld v 7 0 ≤ 160 → fld v 15 8 ≠ 0 → s.rate96 = false ∨ fld v 28 16 < 4096 → leads (.cnpDetSet v) s (fun t => spGet detDefault t.canopy.detShadow (fld v 28 16) = { thr := fld v 7 0, hold := fld v 15 8 } ∧
    sameBut [fld v 28 16] detDefault s.canopy.detShadow t.canopy.detShadow ∧ t.canopy = { s.canopy with detShadow := t.canopy.detShadow } ∧ keeps [.canopy] s t)) ∧
  (s.hostUp = true → 160 < fld v 7 0 ∨ fld v 15 8 = 0 ∨ (s.rate96 = true ∧ 4096 ≤ fld v 28 16) → leads (.cnpDetSet v) s (fun t => t.bit CNP_STAT 0 = true ∧ regsOnly [CNP_STAT] s t ∧ keeps [.regs] s t)) ∧
  (s.hostUp = true → fld v 1 0 ≠ 3 → leads (.cnpSclSet v) s (fun t => spGet 0 t.canopy.sclShadow (fld v 27 16) = fld v 1 0 ∧ sameBut [fld v 27 16] 0 s.canopy.sclShadow t.canopy.sclShadow ∧ t.canopy = { s.canopy with sclShadow := t.canopy.sclShadow } ∧ keeps [.canopy] s t)) ∧
  (s.hostUp = true → fld v 1 0 = 3 → leads (.cnpSclSet v) s (fun t => t.bit CNP_STAT 0 = true ∧ regsOnly [CNP_STAT] s t ∧ keeps [.regs] s t))

/-- R148, R151: a host write of a gain word goes to the shadow bank; the word of a crosspoint in transition is held and counted in its tile. R65, R366:
one that loses a cycle is not performed, counted, EV10. R149: at 96 kHz the upper half of a run is unmapped. R182, R183, R186: a SCENE_STAGE checks
its extent, header, records and CRC in that order, writes each record to the shadow banks before the next is read, and writes its result window when
it ends; R184: MIRROR copies the live banks to the shadow banks, 64 KiB of gains at a time, then the others, and waits only before copying begins.
R185: an ABORT is taken before any record is read. -/
def Obligations.GainWritesAndScenes : Prop := ∀ (s : State) (w : SceneWork) (hit : WriteHit) (k : Fin 16) (addr key j n a : Nat) (v : W32) (h r : List Byte),
  (s.hostUp = true → s.underTest 2 = false → addr % 2 = 0 → addr < 0x4000000 → key = addr / 2 → s.gainHole addr = false → s.canopy.flagged key = false → leads (.gainShadowWrite addr .half v { collide := false, ecc := none }) s (fun t => t.canopy.shadow key = v.setWidth 16 ∧
    sameBut [key] 0x7FFF s.canopy.gainShadow t.canopy.gainShadow ∧ t.canopy = { s.canopy with gainShadow := t.canopy.gainShadow } ∧ keeps [.canopy] s t)) ∧
  (s.hostUp = true → s.underTest 2 = false → addr % 4 = 0 → addr < 0x4000000 → key = addr / 2 → s.gainHole addr = false → s.canopy.flagged key = false → s.canopy.flagged (key + 1) = false → leads (.gainShadowWrite addr .word v { collide := false, ecc := none }) s (fun t =>
    t.canopy.shadow key = v.setWidth 16 ∧ t.canopy.shadow (key + 1) = (v >>> 16).setWidth 16 ∧ sameBut [key, key + 1] 0x7FFF s.canopy.gainShadow t.canopy.gainShadow ∧ keeps [.canopy] s t)) ∧
  (s.hostUp = true → s.underTest 2 = false → addr % 2 = 0 → addr < 0x4000000 → key = addr / 2 → s.gainHole addr = false → s.canopy.flagged key = true → leads (.gainShadowWrite addr .half v { collide := false, ecc := none }) s (fun t => t.canopy = s.canopy ∧ t.bit (TILE_STAT (keyTile key)) 2 = true ∧
    counted (TILE_HELD_COUNT (keyTile key)) 1 s t ∧ regsOnly [TILE_STAT (keyTile key), TILE_HELD_COUNT (keyTile key)] s t ∧ keeps [.regs] s t)) ∧
  (s.hostUp = true → s.underTest 2 = false → addr % 2 = 0 → addr < 0x4000000 → s.gainHole addr = false → hit.collide = true → leads (.gainShadowWrite addr .half v hit) s (fun t => t.canopy = s.canopy ∧ counted SYS_COLLIDE_COUNT 1 s t ∧ t.bit SYS_STAT 3 = true ∧ raised 10 s t ∧
    regsKeep [SYS_COLLIDE_COUNT, SYS_STAT] s t ∧ evtOnly s t)) ∧
  (s.hostUp = true → s.underTest 2 = false → addr % 2 = 0 → addr < 0x4000000 → s.rate96 = true → 256 ≤ addr / 2 % 512 → leads (.gainShadowWrite addr .half v hit) s (fun t => t.canopy = s.canopy ∧ t.bit SYS_STAT 1 = true ∧ t.rd SYS_UNMAP_ADDR = w32 (0x4000000 + addr) ∧ raised 5 s t ∧
    regsKeep [SYS_STAT, SYS_UNMAP_ADDR] s t ∧ evtOnly s t)) ∧
  ((s.slot k.val).st = .running → (s.slot k.val).kind = 3 → (s.slot k.val).fin = none → (s.slot k.val).abortReq = false → fld ((s.slot k.val).arg 0) 1 0 = 0 → s.dram.frozen = false → s.canopy.scene = none → s.dram.poison = [] → a = (cat64 ((s.slot k.val).arg 2) ((s.slot k.val).arg 1)).toNat →
    a % 64 ≠ 0 ∨ a < s.struct.sceneBase ∨ s.struct.sceneBase + s.struct.sceneSize < a + 32 → leads (.sceneStageLoad k n false) s (fun t => (t.slot k.val).fin = some 0x40 ∧ t.canopy = s.canopy ∧ t.poolW (resultOff k.val 0) = 7 ∧ t.poolW (resultOff k.val 1) = 0 ∧
    t.poolW (resultOff k.val 4) = 0 ∧ keeps [.jobs, .mem, .cores] s t)) ∧
  ((s.slot k.val).st = .running → (s.slot k.val).kind = 3 → (s.slot k.val).fin = none → (s.slot k.val).abortReq = false → fld ((s.slot k.val).arg 0) 1 0 = 0 → s.dram.frozen = false → s.canopy.scene = none → s.dram.poison = [] → a = (cat64 ((s.slot k.val).arg 2) ((s.slot k.val).arg 1)).toNat →
    h = s.dramPeek a 32 → a % 64 = 0 → s.struct.sceneBase ≤ a → a + max (leAt h 4 4) 32 ≤ s.struct.sceneBase + s.struct.sceneSize → h.take 4 ≠ [0x48, 0x56, 0x53, 0x43] → leads (.sceneStageLoad k n false) s (fun t => (t.slot k.val).fin = some 0x41 ∧ t.canopy = s.canopy ∧
    t.poolW (resultOff k.val 0) = 7 ∧ t.poolW (resultOff k.val 1) = 0 ∧ keeps [.jobs, .mem, .cores] s t)) ∧
  ((s.slot k.val).st = .running → (s.slot k.val).kind = 3 → (s.slot k.val).fin = none → (s.slot k.val).abortReq = false → fld ((s.slot k.val).arg 0) 1 0 = 0 → s.dram.frozen = false → s.canopy.scene = some w → w.slot = k.val → s.dram.poison = [] → a = (cat64 ((s.slot k.val).arg 2) ((s.slot k.val).arg 1)).toNat →
    r = s.dramPeek (a + w.pos) 12 → leAt r 0 4 = 0x20002 → w.records < w.recCount → w.pos + 12 ≤ w.total → s.recordBad 2 2 [w32 (leAt r 4 4), w32 (leAt r 8 4)] = false → key = xpKey (leAt r 4 1) (leAt r 5 1) (fld (w32 (leAt r 4 4)) 24 16) →
    (∀ x ∈ s.canopy.flags, x.1 < key ∨ key + 512 ≤ x.1) → leads (.sceneStageLoad k 1 false) s (fun t =>
    t.canopy.shadow j = (if key ≤ j ∧ j < key + fld (w32 (leAt r 8 4)) 9 0 then BitVec.ofNat 16 (leAt r 10 2) else s.canopy.shadow j) ∧ t.canopy.scene = some { w with pos := w.pos + 12, records := w.records + 1, written := w.written + 1, gains := w.gains + fld (w32 (leAt r 8 4)) 9 0, firstTick := some (w.firstTick.getD s.tickLo), lastTick := s.tickLo, torn := w.torn || w.swapAt.isSome, crc := crcRun 0x82F63B78 w.crc r } ∧ (t.slot k.val).total = (w.pos + 12) / 1024 ∧ (t.slot k.val).fin = none ∧ keeps [.jobs, .canopy, .cores] s t)) ∧
  ((s.slot k.val).st = .running → (s.slot k.val).kind = 3 → (s.slot k.val).fin = none → (s.slot k.val).abortReq = false → fld ((s.slot k.val).arg 0) 1 0 = 0 → s.dram.frozen = false → s.canopy.scene = some w → w.slot = k.val → w.total ≤ w.pos → leads (.sceneStageLoad k 1 false) s (fun t =>
    (t.slot k.val).fin = some (if w.records ≠ w.recCount then 0x42 else if ~~~w.crc ≠ w.want then 0x43 else 0) ∧ t.canopy = { s.canopy with scene := none } ∧ t.poolW (resultOff k.val 0) = 7 ∧ t.poolW (resultOff k.val 1) = w32 w.written ∧ t.poolW (resultOff k.val 2) = w32 w.gains ∧
    t.poolW (resultOff k.val 3) = w32 w.held ∧ t.poolW (resultOff k.val 4) = w.firstTick.getD 0 ∧ t.poolW (resultOff k.val 5) = w.lastTick ∧ t.poolW (resultOff k.val 6) = (if w.torn = true then 1 else 0) ∧ t.poolW (resultOff k.val 7) = (if w.torn = true then w.swapAt.getD 0 else 0) ∧ keeps [.jobs, .canopy, .mem, .cores] s t)) ∧
  ((s.slot k.val).st = .running → (s.slot k.val).kind = 3 → (s.slot k.val).fin = none → (s.slot k.val).abortReq = true → fld ((s.slot k.val).arg 0) 1 0 = 0 → s.dram.frozen = false → s.canopy.scene = none → leads (.sceneStageLoad k n false) s (fun t => (t.slot k.val).st = .aborted ∧ t.canopy = s.canopy ∧
    t.poolW (resultOff k.val 0) = 7 ∧ t.poolW (resultOff k.val 1) = 0 ∧ keeps [.jobs, .mem, .cores] s t)) ∧
  ((s.slot k.val).st = .running → (s.slot k.val).kind = 3 → (s.slot k.val).fin = none → (s.slot k.val).abortReq = false → fld ((s.slot k.val).arg 0) 1 0 = 1 → s.dram.frozen = false → s.canopy.flags = [] → spCanon (fun _ => 0x7FFF) s.canopy.gainLive = true → s.canopy.scene = some w → w.slot = k.val → w.pos < 1024 →
    leads (.sceneStageMirror k 1) s (fun t => t.canopy.shadow j = (if w.pos * 32768 ≤ j ∧ j < (w.pos + 1) * 32768 then s.canopy.live j else s.canopy.shadow j) ∧ (t.slot k.val).total = (w.pos + 1) * 64 ∧ t.canopy.gainLive = s.canopy.gainLive ∧ keeps [.jobs, .canopy, .cores] s t)) ∧
  ((s.slot k.val).st = .running → (s.slot k.val).kind = 3 → (s.slot k.val).fin = none → (s.slot k.val).abortReq = false → fld ((s.slot k.val).arg 0) 1 0 = 1 → s.dram.frozen = false → s.struct.cores = [] → spCanon (fun _ => detDefault) s.canopy.detLive = true → spCanon (fun _ => 0) s.canopy.sclLive = true → s.canopy.scene = some w → w.slot = k.val → w.pos = 1024 →
    leads (.sceneStageMirror k 1) s (fun t => t.canopy = { s.canopy with detShadow := t.canopy.detShadow, sclShadow := t.canopy.sclShadow, scene := none } ∧ (j < 8192 → spGet detDefault t.canopy.detShadow j = s.canopy.detCfg j) ∧ (j < 4096 → spGet 0 t.canopy.sclShadow j = spGet 0 s.canopy.sclLive j) ∧
    (j < 2048 → (t.sel j).shadowPos = (t.sel j).pos ∧ (t.sel j).pos = (s.sel j).pos) ∧ (t.slot k.val).fin = some 0 ∧ t.poolW (resultOff k.val 0) = 7 ∧ t.poolW (resultOff k.val 1) = w32 w.written ∧ t.poolW (resultOff k.val 2) = w32 w.gains ∧ keeps [.jobs, .canopy, .graph, .mem, .cores] s t)) ∧
  ((s.slot k.val).st = .running → (s.slot k.val).kind = 3 → (s.slot k.val).fin = none → (s.slot k.val).abortReq = false → fld ((s.slot k.val).arg 0) 1 0 = 1 → s.dram.frozen = false → s.canopy.scene = none → s.canopy.flags ≠ [] ∨ s.plainFading 0 = true ∨ s.canopy.pendSwaps ≠ [] → leads (.sceneStageMirror k n) s (fun t =>
    t.canopy = s.canopy ∧ sameBut [] coreInit s.cores t.cores ∧ keeps [.cores] s t))

/-! ## The Fuller cores (R196 to R237) -/

/-- R209, R210, R212, R219, R228: the single-accumulator operations of format P write DA from the exact result, the nearer bound outside 64 bits with OVF,
set Z, N and V from it, take one cycle and leave everything else but what their moves do. -/
def Obligations.FullerAccumulator : Prop := ∀ (s : State) (k : Fin 64) (f : PArgs), (s.core k.val).runs 1 = true →
  (s.due k = .clr k f → leads (.clr k f) s (gives1 k.val f 0 s)) ∧
  (s.due k = .mpy k f → leads (.mpy k f) s (gives1 k.val f ((s.core k.val).xv f.xs * (s.core k.val).yv f.ys) s)) ∧
  (s.due k = .mac k f → leads (.mac k f) s (gives1 k.val f ((s.core k.val).a f.da.val + (s.core k.val).xv f.xs * (s.core k.val).yv f.ys) s)) ∧
  (s.due k = .msu k f → leads (.msu k f) s (gives1 k.val f ((s.core k.val).a f.da.val - (s.core k.val).xv f.xs * (s.core k.val).yv f.ys) s)) ∧
  (s.due k = .add k f → leads (.add k f) s (gives1 k.val f ((s.core k.val).a f.da.val + (s.core k.val).a f.sa.val) s)) ∧
  (s.due k = .sub k f → leads (.sub k f) s (gives1 k.val f ((s.core k.val).a f.da.val - (s.core k.val).a f.sa.val) s)) ∧
  (s.due k = .addx k f → leads (.addx k f) s (gives1 k.val f ((s.core k.val).a f.da.val + (s.core k.val).xv f.xs * 4194304) s)) ∧
  (s.due k = .asl k f → leads (.asl k f) s (gives1 k.val f ((s.core k.val).a f.da.val * 2 ^ f.k.val) s)) ∧
  (s.due k = .asr k f → leads (.asr k f) s (gives1 k.val f (Int.fdiv ((s.core k.val).a f.da.val) (2 ^ f.k.val)) s)) ∧
  (s.due k = .neg k f → leads (.neg k f) s (gives1 k.val f (-(s.core k.val).a f.da.val) s)) ∧
  (s.due k = .abs k f → leads (.abs k f) s (gives1 k.val f (max ((s.core k.val).a f.da.val) (-(s.core k.val).a f.da.val)) s)) ∧
  (s.due k = .maxa k f → leads (.maxa k f) s (gives1 k.val f (max ((s.core k.val).a f.da.val) (max ((s.core k.val).xv f.xs) (-(s.core k.val).xv f.xs) * 4194304)) s)) ∧
  (s.due k = .copy k f → leads (.copy k f) s (gives1 k.val f ((s.core k.val).a f.sa.val) s))

/-- R219, R210, R212: the pair operations write Ae and Ao of the pair that DA names from sums of both products formed exactly, each saturating for itself,
and the flags from Ae. R213: DIV makes one step of non-restoring division. NOP, CMP and TST write no accumulator. -/
def Obligations.FullerPairsAndDivision : Prop := ∀ (s : State) (k : Fin 64) (f : PArgs) (c : Core) (e o r : Int), (s.core k.val).runs 1 = true → s.core k.val = c →
  (s.due k = .dmpy k f → leads (.dmpy k f) s (gives2 k.val f (c.x0.toInt * c.yv false + c.x1.toInt * c.yv true) (c.x0.toInt * c.yv true + c.x1.toInt * c.yv false) s)) ∧
  (s.due k = .dmac k f → e = c.a (2 * (f.da.val / 2)) → o = c.a (2 * (f.da.val / 2) + 1) → leads (.dmac k f) s (gives2 k.val f (e + (c.x0.toInt * c.yv false + c.x1.toInt * c.yv true)) (o + (c.x0.toInt * c.yv true + c.x1.toInt * c.yv false)) s)) ∧
  (s.due k = .cmpy k f → leads (.cmpy k f) s (gives2 k.val f (c.x0.toInt * c.yv false - c.x1.toInt * c.yv true) (c.x0.toInt * c.yv true + c.x1.toInt * c.yv false) s)) ∧
  (s.due k = .cmac k f → e = c.a (2 * (f.da.val / 2)) → o = c.a (2 * (f.da.val / 2) + 1) → leads (.cmac k f) s (gives2 k.val f (e + (c.x0.toInt * c.yv false - c.x1.toInt * c.yv true)) (o + (c.x0.toInt * c.yv true + c.x1.toInt * c.yv false)) s)) ∧
  (s.due k = .cmacj k f → e = c.a (2 * (f.da.val / 2)) → o = c.a (2 * (f.da.val / 2) + 1) → leads (.cmacj k f) s (gives2 k.val f (e + (c.x0.toInt * c.yv false + c.x1.toInt * c.yv true)) (o + (c.x1.toInt * c.yv false - c.x0.toInt * c.yv true)) s)) ∧
  (s.due k = .div k f → r = (if (decide (0 ≤ c.a f.da.val) = decide (0 ≤ c.xv f.xs)) then 2 * Int.fdiv (c.a f.da.val) 16777216 - c.xv f.xs else 2 * Int.fdiv (c.a f.da.val) 16777216 + c.xv f.xs) →
    leads (.div k f) s (fun t => coreOnly k.val s t ∧ opFrame f [f.da.val] c (t.core k.val) ∧
    (t.core k.val).a f.da.val = max (-549755813888) (min 549755813887 r) * 16777216 +
      (2 * (c.a f.da.val % 16777216) + (if decide (0 ≤ r) = decide (0 ≤ c.xv f.xs) then 1 else 0)) % 16777216 ∧
    ((t.core k.val).ovf = true ↔ c.ovf = true ∨ r < -549755813888 ∨ 549755813887 < r))) ∧
  (s.due k = .nop k f → leads (.nop k f) s (fun t => coreOnly k.val s t ∧ opFrame f [] c (t.core k.val) ∧ (t.core k.val).z = c.z ∧ (t.core k.val).n = c.n ∧ (t.core k.val).v = c.v ∧ (t.core k.val).ovf = c.ovf)) ∧
  (s.due k = .tst k f → leads (.tst k f) s (fun t => coreOnly k.val s t ∧ opFrame f [] c (t.core k.val) ∧ (t.core k.val).z = decide (c.a f.da.val = 0) ∧ (t.core k.val).n = decide (c.a f.da.val < 0) ∧
    (t.core k.val).v = extractSat (c.a f.da.val) 22 32 ∧ (t.core k.val).ovf = c.ovf)) ∧
  (s.due k = .cmp k f → leads (.cmp k f) s (fun t => coreOnly k.val s t ∧ opFrame f [] c (t.core k.val) ∧ (t.core k.val).z = decide (c.a f.da.val - c.a f.sa.val = 0) ∧
    (t.core k.val).n = decide (c.a f.da.val - c.a f.sa.val < 0) ∧ (t.core k.val).v = extractSat (c.a f.da.val - c.a f.sa.val) 22 32 ∧ (t.core k.val).ovf = c.ovf))

/-- R211, R214, R215, R220, R221: a Y move loads the register that its code names with the word at its pointer, or stores what the register held before
the instruction; an extraction rounds half to even and saturates with ESAT, counted. The pointer moves by the access size, or its stride, in linear or
modulo mode; outside its range it goes to BASE with WRAP. -/
def Obligations.FullerMoves : Prop := ∀ (s : State) (k : Fin 64) (f : PArgs) (c : Core) (a : Nat) (w : W32) (j : Fin 4), (s.core k.val).runs 1 = true → s.core k.val = c → c.late = none → f.x.code = 0 → a = (spGet 0 c.pt f.y.ptr.val).toNat → w = spGet 0 c.y (a % 16384) →
  (s.due k = .nop k f → f.y.store = false → f.y.code = 3 → leads (.nop k f) s (fun t => (t.core k.val).y0 = w ∧ (t.core k.val).y1 = c.y1 ∧ (t.core k.val).x0 = c.x0 ∧ (t.core k.val).x1 = c.x1)) ∧
  (s.due k = .nop k f → f.y.store = false → f.y.code.val = 5 + j.val → leads (.nop k f) s (fun t => (t.core k.val).a j.val = w.toInt * 4194304)) ∧
  (s.due k = .nop k f → f.y.store = false → f.y.code.val = 9 + j.val → leads (.nop k f) s (fun t => (t.core k.val).a j.val = sext 24 w.toNat * 8388608)) ∧
  (s.due k = .nop k f → f.y.store = false → f.y.code = 14 → leads (.nop k f) s (fun t => (t.core k.val).y0 = spGet 0 c.y (a / 2 * 2 % 16384) ∧ (t.core k.val).y1 = spGet 0 c.y ((a / 2 * 2 + 1) % 16384))) ∧
  (s.due k = .nop k f → f.y.store = true → f.y.code = 3 → leads (.nop k f) s (fun t => spGet 0 (t.core k.val).y (a % 16384) = c.y0)) ∧
  (s.due k = .clr k f → f.y.store = true → f.y.code.val = 5 + j.val → c.esats = 0 → leads (.clr k f) s (fun t => spGet 0 (t.core k.val).y (a % 16384) = i32 (extract (c.a j.val) 22 32) ∧
    (t.core k.val).esat = (c.esat || extractSat (c.a j.val) 22 32) ∧ (t.rd (FUL_ESAT_COUNT k.val) = s.rd (FUL_ESAT_COUNT k.val) ↔ extractSat (c.a j.val) 22 32 = false ∨ (s.rd (FUL_ESAT_COUNT k.val)).toNat = 4294967295))) ∧
  (s.due k = .nop k f → f.y.store = true → f.y.code.val = 9 + j.val → leads (.nop k f) s (fun t => spGet 0 (t.core k.val).y (a % 16384) = i32 (extract (c.a j.val) 23 24))) ∧
  (s.due k = .nop k f → 1 ≤ f.y.code.val → f.y.code.val ≤ 12 → f.y.mode = 1 → rgMode (spGet 0 c.rg f.y.ptr.val) = 0 → leads (.nop k f) s (fun t => (spGet 0 (t.core k.val).pt f.y.ptr.val).toNat = (a + 1) % 16384 ∧ (t.core k.val).wrap = c.wrap)) ∧
  (s.due k = .nop k f → 1 ≤ f.y.code.val → f.y.code.val ≤ 14 → f.y.mode = 2 → rgMode (spGet 0 c.rg f.y.ptr.val) = 1 → 0 < rgLen (spGet 0 c.rg f.y.ptr.val) → rgLen (spGet 0 c.rg f.y.ptr.val) ≤ 16384 → rgBase (spGet 0 c.rg f.y.ptr.val) ≤ a → a < rgBase (spGet 0 c.rg f.y.ptr.val) + rgLen (spGet 0 c.rg f.y.ptr.val) →
    leads (.nop k f) s (fun t => ((spGet 0 (t.core k.val).pt f.y.ptr.val).toNat : Int) = rgBase (spGet 0 c.rg f.y.ptr.val) +
      ((a : Int) - rgBase (spGet 0 c.rg f.y.ptr.val) + (spGet 0 c.st f.y.ptr.val).toInt) % rgLen (spGet 0 c.rg f.y.ptr.val) ∧ (t.core k.val).wrap = c.wrap)) ∧
  (s.due k = .nop k f → 1 ≤ f.y.code.val → f.y.code.val ≤ 14 → f.y.mode = 3 → rgMode (spGet 0 c.rg f.y.ptr.val) = 1 → 0 < rgLen (spGet 0 c.rg f.y.ptr.val) → a < rgBase (spGet 0 c.rg f.y.ptr.val) ∨ rgBase (spGet 0 c.rg f.y.ptr.val) + rgLen (spGet 0 c.rg f.y.ptr.val) ≤ a →
    leads (.nop k f) s (fun t => (spGet 0 (t.core k.val).pt f.y.ptr.val).toNat = rgBase (spGet 0 c.rg f.y.ptr.val) ∧ (t.core k.val).wrap = true ∧ (t.core k.val).recWrap = true))

/-- R222, R223, R225, R226, R228: JMP, CALL and RET move the PC where COND holds, in 3 cycles, and take 1 cycle where it fails; DO and DOLC push a level
and set LC, or skip the body; the instruction at END decreases LC and goes back or leaves the level, a taken jump there too (its order is the model's
reading, log entry 80); BRKLP pops it. What does not fit a stack executes as NOP, or runs the body once, with ILL. TEND ends the core's work for the
tick. -/
def Obligations.FullerFlow : Prop := ∀ (s : State) (k : Fin 64) (j : JArgs) (c : Core) (i : Instr) (f : PArgs) (n : BitVec 16) (l : LoopLevel), s.core k.val = c → c.runs 3 = true →
  (s.due k = .jmp k j → condHolds c j.cond.val = true → (c.loops.head?.all (fun m => m.finish != c.pc)) = true → leads (.jmp k j) s (fun t => coreOnly k.val s t ∧ flowFrame c (t.core k.val) ∧ (t.core k.val).pc = j.target ∧ (t.core k.val).cycles = c.cycles + 3 ∧ (t.core k.val).loops = c.loops ∧ (t.core k.val).calls = c.calls ∧
    (t.core k.val).lc = c.lc ∧ (t.core k.val).ill = c.ill ∧ (t.core k.val).tended = false)) ∧
  (s.due k = i → condHolds c j.cond.val = false → (c.loops.head?.all (fun m => m.finish != c.pc)) = true → i ∈ [Instr.jmp k j, .call k j, .ret k j, .brklp k j, .tend k j] → leads i s (fun t => coreOnly k.val s t ∧ flowFrame c (t.core k.val) ∧ (t.core k.val).pc = c.pc + 1 ∧ (t.core k.val).cycles = c.cycles + 1 ∧
    (t.core k.val).loops = c.loops ∧ (t.core k.val).calls = c.calls ∧ (t.core k.val).lc = c.lc ∧ (t.core k.val).ill = (c.ill || decide (9 ≤ j.cond.val)) ∧ (t.core k.val).tended = false)) ∧
  (s.due k = .call k j → condHolds c j.cond.val = true → (c.loops.head?.all (fun m => m.finish != c.pc)) = true → c.calls.length < 8 → leads (.call k j) s (fun t => coreOnly k.val s t ∧ flowFrame c (t.core k.val) ∧ (t.core k.val).pc = j.target ∧ (t.core k.val).calls = (c.pc + 1) :: c.calls ∧ (t.core k.val).loops = c.loops ∧ (t.core k.val).lc = c.lc ∧
    (t.core k.val).cycles = c.cycles + 3 ∧ (t.core k.val).ill = c.ill)) ∧
  (s.due k = .ret k j → condHolds c j.cond.val = true → (c.loops.head?.all (fun m => m.finish != c.pc)) = true → c.calls ≠ [] → leads (.ret k j) s (fun t => coreOnly k.val s t ∧ flowFrame c (t.core k.val) ∧ (t.core k.val).pc = c.calls.headD 0 ∧ (t.core k.val).calls = c.calls.tail ∧ (t.core k.val).loops = c.loops ∧ (t.core k.val).lc = c.lc ∧
    (t.core k.val).cycles = c.cycles + 3 ∧ (t.core k.val).ill = c.ill)) ∧
  (s.due k = i → condHolds c j.cond.val = true → (c.loops.head?.all (fun m => m.finish != c.pc)) = true → i ∈ (if 8 ≤ c.calls.length then [Instr.call k j] else []) ++ (if c.calls = [] then [Instr.ret k j] else []) ++ (if c.loops = [] then [Instr.brklp k j] else []) → leads i s (fun t => coreOnly k.val s t ∧ flowFrame c (t.core k.val) ∧ (t.core k.val).pc = c.pc + 1 ∧
    (t.core k.val).calls = c.calls ∧ (t.core k.val).loops = c.loops ∧ (t.core k.val).lc = c.lc ∧ (t.core k.val).cycles = c.cycles + 1 ∧ (t.core k.val).ill = true)) ∧
  (s.due k = i → condHolds c j.cond.val = true → c.pc < j.finish → n ≠ 0 → c.loops.length < 4 → i ∈ (if n = j.count then [Instr.doLoop k j] else []) ++ (if n = c.lc then [Instr.dolc k j] else []) → leads i s (fun t => coreOnly k.val s t ∧ flowFrame c (t.core k.val) ∧
    (t.core k.val).loops = { outerLc := c.lc, start := c.pc + 1, finish := j.finish } :: c.loops ∧ (t.core k.val).lc = n ∧ (t.core k.val).pc = c.pc + 1 ∧ (t.core k.val).calls = c.calls ∧ (t.core k.val).cycles = c.cycles + 2 ∧ (t.core k.val).ill = c.ill)) ∧
  (s.due k = i → condHolds c j.cond.val = false ∨ n = 0 → c.pc < j.finish → (c.loops.head?.all (fun m => m.finish != c.pc)) = true → i ∈ (if n = j.count then [Instr.doLoop k j] else []) ++ (if n = c.lc then [Instr.dolc k j] else []) → leads i s (fun t => coreOnly k.val s t ∧ flowFrame c (t.core k.val) ∧
    (t.core k.val).loops = c.loops ∧ (t.core k.val).lc = c.lc ∧ (t.core k.val).pc = j.finish + 1 ∧ (t.core k.val).calls = c.calls ∧ (t.core k.val).cycles = c.cycles + 3 ∧ (t.core k.val).ill = (c.ill || decide (9 ≤ j.cond.val)))) ∧
  (s.due k = i → condHolds c j.cond.val = true → c.pc < j.finish → n ≠ 0 → 4 ≤ c.loops.length → (c.loops.head?.all (fun m => m.finish != c.pc)) = true → i ∈ (if n = j.count then [Instr.doLoop k j] else []) ++ (if n = c.lc then [Instr.dolc k j] else []) → leads i s (fun t => coreOnly k.val s t ∧ flowFrame c (t.core k.val) ∧
    (t.core k.val).loops = c.loops ∧ (t.core k.val).lc = c.lc ∧ (t.core k.val).pc = c.pc + 1 ∧ (t.core k.val).ill = true)) ∧
  (s.due k = i → j.finish ≤ c.pc → (c.loops.head?.all (fun m => m.finish != c.pc)) = true → i ∈ [Instr.doLoop k j, .dolc k j] → leads i s (fun t => coreOnly k.val s t ∧ flowFrame c (t.core k.val) ∧ (t.core k.val).loops = c.loops ∧ (t.core k.val).lc = c.lc ∧ (t.core k.val).pc = c.pc + 1 ∧ (t.core k.val).cycles = c.cycles + 1 ∧ (t.core k.val).ill = true)) ∧
  (s.due k = .nop k f → f.x.code = 0 → f.y.code = 0 → c.loops = [l] → l.finish = c.pc → c.lc ≠ 1 → leads (.nop k f) s (fun t => (t.core k.val).pc = l.start ∧ (t.core k.val).lc = c.lc - 1 ∧ (t.core k.val).loops = [l] ∧ (t.core k.val).cycles = c.cycles + 1)) ∧
  (s.due k = .nop k f → f.x.code = 0 → f.y.code = 0 → c.loops = [l] → l.finish = c.pc → c.lc = 1 → leads (.nop k f) s (fun t => (t.core k.val).pc = c.pc + 1 ∧ (t.core k.val).lc = l.outerLc ∧ (t.core k.val).loops = [])) ∧
  (s.due k = .jmp k j → condHolds c j.cond.val = true → c.loops = [l] → l.finish = c.pc → leads (.jmp k j) s (fun t => (t.core k.val).cycles = c.cycles + 3 ∧
    (if c.lc = 1 then (t.core k.val).pc = j.target ∧ (t.core k.val).lc = l.outerLc ∧ (t.core k.val).loops = [] else (t.core k.val).pc = l.start ∧ (t.core k.val).lc = c.lc - 1 ∧ (t.core k.val).loops = [l]))) ∧
  (s.due k = .brklp k j → condHolds c j.cond.val = true → c.loops ≠ [] → l = c.loops.headD l → (c.loops.tail.head?.all (fun m => m.finish != c.pc)) = true → leads (.brklp k j) s (fun t => coreOnly k.val s t ∧ flowFrame c (t.core k.val) ∧ (t.core k.val).pc = l.finish + 1 ∧ (t.core k.val).lc = l.outerLc ∧ (t.core k.val).loops = c.loops.tail ∧
    (t.core k.val).calls = c.calls ∧ (t.core k.val).cycles = c.cycles + 3 ∧ (t.core k.val).ill = c.ill)) ∧
  (s.due k = .tend k j → condHolds c j.cond.val = true → (c.loops.head?.all (fun m => m.finish != c.pc)) = true → leads (.tend k j) s (fun t => coreOnly k.val s t ∧ flowFrame c (t.core k.val) ∧ (t.core k.val).tended = true ∧ (t.core k.val).pc = c.pc ∧ (t.core k.val).cycles = c.cycles + 1 ∧ (t.core k.val).loops = c.loops ∧
    (t.core k.val).calls = c.calls ∧ (t.core k.val).lc = c.lc ∧ (t.core k.val).ill = c.ill))

/-- R207, R208, R224: a K instruction writes VALUE to the register its selector names; TICK, the quotients and the reserved selectors drop it with ILL. A
T instruction reads its source as the selector defines, an extraction with ESAT. R227: a reserved word executes as a NOP with ILL. R233, R234: a host
write of a free word of X or Y lands, one that meets the core's write is counted and lost, and P is not written. -/
def Obligations.FullerTransfersAndHost : Prop := ∀ (s : State) (k : Fin 64) (d src : Fin 64) (v : W32) (hit : WriteHit) (c : Core) (j : Fin 4) (w : W64) (off : Nat), s.core k.val = c → c.runs 1 = true →
  (s.due k = .kImmediate k 0 v → c.loops = [] → leads (.kImmediate k 0 v) s (fun t => coreOnly k.val s t ∧ t.core k.val = { c with x0 := v, late := none, cycles := c.cycles + 1, esats := 0, pc := c.pc + 1 })) ∧
  (s.due k = .kImmediate k d v → d.val = 4 + j.val → leads (.kImmediate k d v) s (fun t => coreOnly k.val s t ∧ hi32 (spGet 0 (t.core k.val).acc j.val) = v ∧ lo32 (spGet 0 (t.core k.val).acc j.val) = lo32 (spGet 0 c.acc j.val))) ∧
  (s.due k = .kImmediate k d v → d.val = 8 + j.val → leads (.kImmediate k d v) s (fun t => coreOnly k.val s t ∧ lo32 (spGet 0 (t.core k.val).acc j.val) = v ∧ hi32 (spGet 0 (t.core k.val).acc j.val) = hi32 (spGet 0 c.acc j.val))) ∧
  (s.due k = .kImmediate k d v → d.val = 12 + j.val → leads (.kImmediate k d v) s (fun t => coreOnly k.val s t ∧ (t.core k.val).a j.val = v.toInt * 4194304)) ∧
  (s.due k = .kImmediate k d v → 16 ≤ d.val → d.val < 24 → leads (.kImmediate k d v) s (fun t => coreOnly k.val s t ∧ (spGet 0 (t.core k.val).pt (d.val - 16)).toNat = v.toNat % 16384 ∧ ∃ l ∈ (t.core k.val).late, l.k = d.val - 16 ∧ l.pt = spGet 0 c.pt (d.val - 16))) ∧
  (s.due k = .kImmediate k d v → 24 ≤ d.val → d.val < 32 → leads (.kImmediate k d v) s (fun t => coreOnly k.val s t ∧ spGet 0 (t.core k.val).st (d.val - 24) = v.setWidth 14)) ∧
  (s.due k = .kImmediate k d v → 32 ≤ d.val → d.val < 40 → rgMode v = 0 → rgLen v ≤ 16384 → leads (.kImmediate k d v) s (fun t => coreOnly k.val s t ∧ spGet 0 (t.core k.val).rg (d.val - 32) = v &&& 0x7FFFFFFF ∧ (t.core k.val).pt = c.pt ∧ (t.core k.val).wrap = c.wrap)) ∧
  (s.due k = .kImmediate k d v → 32 ≤ d.val → d.val < 40 → rgMode v = 1 → 0 < rgLen v → rgLen v ≤ 16384 → (spGet 0 c.pt (d.val - 32)).toNat < rgBase v → leads (.kImmediate k d v) s (fun t => coreOnly k.val s t ∧ (spGet 0 (t.core k.val).pt (d.val - 32)).toNat = rgBase v ∧ (t.core k.val).wrap = true)) ∧
  (s.due k = .kImmediate k 0x31 v → c.loops = [] → leads (.kImmediate k 0x31 v) s (fun t => coreOnly k.val s t ∧ (t.core k.val).lc = v.setWidth 16)) ∧
  (s.due k = .kImmediate k 0x32 v → leads (.kImmediate k 0x32 v) s (fun t => coreOnly k.val s t ∧ (t.core k.val).csr = v &&& 0xF07)) ∧
  (s.due k = .kImmediate k d v → (0x28 ≤ d.val ∧ d.val ≤ 0x30) ∨ 0x33 ≤ d.val → c.loops = [] → leads (.kImmediate k d v) s (fun t => coreOnly k.val s t ∧ t.core k.val = { c with ill := true, recIll := true, late := none, cycles := c.cycles + 1, esats := 0, pc := c.pc + 1 })) ∧
  (s.due k = .tTransfer k d src → (src = 0 ∧ v = c.x0) ∨ (src = 0x31 ∧ v = w32 c.lc.toNat) ∨ (src = 0x32 ∧ v = c.csr) ∨ (src = 0x33 ∧ v = s.tickLo) → leads (.tTransfer k d src) s (fun t => coreOnly k.val s t ∧
    t.core k.val = { ((selWrite c.settle d.val v).spend 1).advance with esats := 0 })) ∧
  (s.due k = .tTransfer k 0 d → d.val = 12 + j.val → leads (.tTransfer k 0 d) s (fun t => coreOnly k.val s t ∧ (t.core k.val).x0 = i32 (extract (c.a j.val) 22 32) ∧ (t.core k.val).esat = (c.esat || extractSat (c.a j.val) 22 32))) ∧
  (s.due k = .tTransfer k 0 d → d.val = 0x34 + j.val → leads (.tTransfer k 0 d) s (fun t => coreOnly k.val s t ∧ (t.core k.val).x0.toNat = (spGet 0 c.acc j.val).toNat % 16777216 ∧ (t.core k.val).ill = c.ill)) ∧
  (s.due k = .tTransfer k 0 d → (0x28 ≤ d.val ∧ d.val ≤ 0x30) ∨ 0x38 ≤ d.val → leads (.tTransfer k 0 d) s (fun t => coreOnly k.val s t ∧ (t.core k.val).x0 = 0 ∧ (t.core k.val).ill = true)) ∧
  (s.due k = .reservedEncoding k w → 0xB000000000000000 ≤ w.toNat ∨ (w.toNat / 2 ^ 60 = 8 ∧ 7 ≤ w.toNat / 2 ^ 52 % 16) → c.loops = [] → leads (.reservedEncoding k w) s (fun t => coreOnly k.val s t ∧
    t.core k.val = { c with ill := true, recIll := true, late := none, cycles := c.cycles + 1, esats := 0, pc := c.pc + 1 })) ∧
  (s.due k = .reservedEncoding k w → w.toNat / 2 ^ 63 = 0 → 0x16 ≤ w.toNat / 2 ^ 57 % 64 → w.toNat / 2 ^ 35 % 16 = 0 → w.toNat / 2 ^ 15 % 16 = 0 → c.loops = [] → leads (.reservedEncoding k w) s (fun t => coreOnly k.val s t ∧
    t.core k.val = { c with ill := true, recIll := true, late := none, cycles := c.cycles + 1, esats := 0, pc := c.pc + 1 })) ∧
  (s.hostUp = true → s.underTest 1 = false → off < 0x10000 → heldX (s.coreInfo k.val) off = false → leads (.fullerMemoryWrite (0x40000 * k.val + 0x10000 + off) .word v { collide := false, ecc := none }) s (fun t => spGet 0 (t.core k.val).x (off / 4) = v ∧
    sameBut [off / 4] 0 c.x (t.core k.val).x ∧ { t.core k.val with x := c.x } = c ∧ sameBut [k.val] coreInit s.cores t.cores ∧ keeps [.cores] s t)) ∧
  (s.hostUp = true → s.underTest 1 = false → off < 0x10000 → off < (s.coreInfo k.val).setOff ∨ (s.coreInfo k.val).setOff + 2 * (s.coreInfo k.val).setLen ≤ off → leads (.fullerMemoryWrite (0x40000 * k.val + 0x20000 + off) .word v { collide := false, ecc := none }) s (fun t =>
    spGet 0 (t.core k.val).y (off / 4) = v ∧ sameBut [off / 4] 0 c.y (t.core k.val).y ∧ { t.core k.val with y := c.y } = c ∧ sameBut [k.val] coreInit s.cores t.cores ∧ keeps [.cores] s t)) ∧
  (s.hostUp = true → s.underTest 1 = false → off < 0x10000 → heldX (s.coreInfo k.val) off = false → hit.collide = true → leads (.fullerMemoryWrite (0x40000 * k.val + 0x10000 + off) .word v hit) s (fun t => sameBut [] coreInit s.cores t.cores ∧
    counted (FUL_COLLIDE_COUNT k.val) 1 s t ∧ t.rd (FUL_COLLIDE_ADDR k.val) = w32 (0x40000000 + off) ∧ regsOnly [FUL_COLLIDE_COUNT k.val, FUL_COLLIDE_ADDR k.val] s t ∧ keeps [.regs, .cores] s t)) ∧
  (s.hostUp = true → s.underTest 1 = false → off < 0x10000 → leads (.fullerMemoryWrite (0x40000 * k.val + off) .word v { collide := false, ecc := none }) s (fun t => sameBut [] coreInit s.cores t.cores ∧ t.bit SYS_STAT 1 = true ∧
    t.rd SYS_UNMAP_ADDR = w32 (0x2000000 + 0x40000 * k.val + off) ∧ raised 5 s t ∧ regsKeep [SYS_STAT, SYS_UNMAP_ADDR] s t ∧ keeps [.regs, .out, .mon, .sys, .cores] s t))

/-! ## Audio ports (R238 to R267) -/

/-- R244, R245: a write of ENABLE takes effect at the next boundary and is refused with BAD_CFG and EV44 where the configuration breaks R244; the last
tick of a lead moves STARTING to RUN, STOPPING to OFF, with EV53. R247: a slot mask takes effect in two steps, at once where the media clock is
stopped. R248 to R250: a slave's clock is lost, returns, and is measured, with the events of its kind of port. R253: the ASRC locks after 300 ticks,
unlocks with its clock, and refuses a ratio out of range. -/
def Obligations.PortStates : Prop := ∀ (s : State) (p : Fin 32) (q : Fin 24) (k : Fin 16) (x : Port) (tx : Bool) (v : W32) (rate n : Nat) (off chg : Bool), s.hostUp = true →
  (s.bit (portCtlA p.val) 0 = false → s.domFailed 10 = false → s.enableBad p.val = false → leads (.portEnable p) s (fun t => t.rd (portCtlA p.val) = 1 ∧ regsOnly [portCtlA p.val] s t ∧ keeps [.regs] s t)) ∧
  (s.bit (portCtlA p.val) 0 = false → s.domFailed 10 = false → (p.val < 16 ∧ (aspFmt (s.rd (portCfgA p.val)) = 3 ∨ fld (s.rd (portCfgA p.val)) 4 3 = 3 ∨ aspMode (s.rd (portCfgA p.val)) = 3 ∨ fld (s.rd (portBase p.val + 0x14)) 6 0 = 0 ∨ 64 < fld (s.rd (portBase p.val + 0x14)) 14 8 ∨
    (aspMode (s.rd (portCfgA p.val)) = 2 ∧ s.asrcOf p.val = []) ∨ (s.struct.rooted.contains p.val = true ∧ aspMode (s.rd (portCfgA p.val)) ≠ 1))) ∨ (16 ≤ p.val ∧ p.val < 24 ∧ 2 ≤ fld (s.rd (portCfgA p.val)) 1 0) → leads (.portEnable p) s (fun t =>
    t.rd (portCtlA p.val) = s.rd (portCtlA p.val) ∧ t.bit (portStat p.val) 6 = true ∧ t.bit ASR_EVSRC p.val = true ∧ raised 44 s t ∧ regsKeep [portStat p.val, ASR_EVSRC] s t ∧ evtOnly s t)) ∧
  (leads (.portDisable p) s (fun t => t.rd (portCtlA p.val) = 0 ∧ regsOnly [portCtlA p.val] s t ∧ keeps [.regs] s t)) ∧
  (s.port p.val = x → s.sys.mediaRun = true → x.leadLeft = 1 → x.st = .starting → s.bit (portCtlA p.val) 0 = true → portMaster p.val x.cfg = true ∨ portQualified p.val x = true → leads (.portLeadExpiry p) s (fun t => t.port p.val = { x with st := .run, leadLeft := 0, runTick := s.tickN + 1, tx := none } ∧ t.bit (portStat p.val) 0 = true ∧ t.bit ASR_EVSRC p.val = true ∧ raised 53 s t ∧
    sameBut [p.val] portInit s.ports t.ports ∧ regsKeep [portStat p.val, ASR_EVSRC] s t ∧ keeps [.regs, .out, .mon, .sys, .ports] s t)) ∧
  (s.port p.val = x → s.sys.mediaRun = true → x.leadLeft = 1 → x.st = .stopping → leads (.portLeadExpiry p) s (fun t =>
    t.port p.val = { x with st := .off, leadLeft := 0, blk := [], rx := none, tx := none, locked := false, ratio := 0, fade := 0, ended := some (s.tickN + 1), clock := x.clock && !portMaster p.val x.cfg, rateClass := if portMaster p.val x.cfg = true then 0 else x.rateClass, rate := if portMaster p.val x.cfg = true then 0 else x.rate } ∧ (portMaster p.val x.cfg = true → p.val < 24 → t.rd (rateA p.val) = 0) ∧ t.bit (portStat p.val) 0 = true ∧ raised 53 s t ∧
    sameBut [p.val] portInit s.ports t.ports ∧ regsKeep (portStat p.val :: ASR_EVSRC :: (if portMaster p.val x.cfg = true ∧ p.val < 24 then [rateA p.val] else [])) s t ∧ keeps [.regs, .out, .mon, .sys, .ports] s t)) ∧
  (s.sys.mediaRun = false → exec (.portLeadExpiry p) s = .next s) ∧
  (s.port k.val = x → s.sys.mediaRun = true → s.tickN + 1 ≤ n → leads (.slotMaskWrite k tx v) s (fun t => t.rd (portBase k.val + (if tx = true then 0x1C else 0x18)) = v ∧
    t.port k.val = (if tx = true then { x with maskTx := maskOld s.tickN x.maskTx x.chgTx, chgTx := maskLate s.tickN x.chgTx ++ [{ mask := v, tick := s.tickN }] }
      else { x with maskRx := maskOld s.tickN x.maskRx x.chgRx, chgRx := maskLate s.tickN x.chgRx ++ [{ mask := v, tick := s.tickN }] }) ∧
    maskAt n (if tx = true then (t.port k.val).maskTx else (t.port k.val).maskRx) (if tx = true then (t.port k.val).chgTx else (t.port k.val).chgRx) = v ∧
    sameBut [k.val] portInit s.ports t.ports ∧ regsOnly [portBase k.val + (if tx = true then 0x1C else 0x18)] s t ∧ keeps [.regs, .ports] s t)) ∧
  (s.port k.val = x → s.sys.mediaRun = false → leads (.slotMaskWrite k tx v) s (fun t => t.port k.val = (if tx = true then { x with maskTx := v, chgTx := [] } else { x with maskRx := v, chgRx := [] }) ∧
    t.rd (portBase k.val + (if tx = true then 0x1C else 0x18)) = v ∧ sameBut [k.val] portInit s.ports t.ports ∧ regsOnly [portBase k.val + (if tx = true then 0x1C else 0x18)] s t ∧ keeps [.regs, .ports] s t)) ∧
  (s.port q.val = x → x.clock = true → s.portSlave q.val = true → leads (.portClockLoss q) s (fun t => t.port q.val = { x with clock := false, rateClass := 0, rate := 0, rateRef := 0, rx := none, tx := none, quality := 0, mismatch := false, reenter := x.reenter || x.st == .run, locked := false, fade := if x.locked = true then 2 else x.fade, lockTicks := if x.locked = true then 0 else x.lockTicks, ratio := if x.locked = true then 0 else x.ratio } ∧
    t.rd (rateA q.val) = 0 ∧ t.bit (portStat q.val) 4 = true ∧ raised (if q.val < 16 then 42 else 45) s t ∧ (x.rateClass ≠ 0 → raised (if q.val < 16 then 41 else 46) s t ∧ t.bit (portStat q.val) 5 = true) ∧
    (x.locked = true → raised 50 s t ∧ counted ASR_UNLOCK_COUNT 1 s t ∧ t.bit ASR_STAT 0 = true) ∧ sameBut [q.val] portInit s.ports t.ports ∧
    regsKeep ([rateA q.val, portStat q.val, ASR_EVSRC] ++ (if x.locked = true then [ASR_STAT, ASR_UNLOCK_COUNT] else [])) s t ∧ keeps [.regs, .out, .mon, .sys, .ports] s t)) ∧
  (s.port q.val = x → x.clock = false → s.portSlave q.val = true → rate ≠ 0 → x.locked = false → off = s.misrated q.val (s.cfgNow q.val) rate → leads (.portClockQualify q rate) s (fun t =>
    t.port q.val = { x with clock := true, lockTicks := 0, win := 0, rate := rate, rateClass := rateClassOf rate, rateRef := if rateClassOf rate ≠ x.rateClass then rate else 0, mismatch := off, reenter := x.reenter || (off && x.st == .run), quality := if off = true then 0 else x.quality, rx := if off = true then none else x.rx, tx := if off = true then none else x.tx } ∧ t.rd (rateA q.val) = w32 rate ∧
    raised (if q.val < 16 then 42 else 45) s t ∧ (rateClassOf rate ≠ x.rateClass → raised (if q.val < 16 then 41 else 46) s t ∧ t.bit (portStat q.val) 5 = true) ∧
    sameBut [q.val] portInit s.ports t.ports ∧ regsKeep [rateA q.val, portStat q.val, ASR_EVSRC] s t ∧ keeps [.regs, .out, .mon, .sys, .ports] s t)) ∧
  (s.port q.val = x → x.clock = true → 300 ≤ x.win → s.portSlave q.val = false → leads (.rateWindowEnd q rate) s (fun t => t.port q.val = { x with rate := rate, win := 0 } ∧ t.rd (rateA q.val) = w32 rate ∧ sameBut [q.val] portInit s.ports t.ports ∧
    regsOnly [rateA q.val] s t ∧ keeps [.regs, .ports] s t)) ∧
  (s.port q.val = x → x.clock = true → 300 ≤ x.win → s.portSlave q.val = true → x.locked = false → off = s.misrated q.val (s.cfgNow q.val) rate → chg = (rateClassOf rate != x.rateClass || (x.rateRef != 0 && !rateWithin 50 rate x.rateRef)) →
    leads (.rateWindowEnd q rate) s (fun t => t.port q.val = { x with win := 0, rate := rate, rateClass := rateClassOf rate, rateRef := if chg = true then rate else x.rateRef, mismatch := off, reenter := x.reenter || (off && x.st == .run), quality := if off = true then 0 else x.quality, rx := if off = true then none else x.rx, tx := if off = true then none else x.tx } ∧ t.rd (rateA q.val) = w32 rate ∧ (chg = true → t.bit (portStat q.val) 5 = true ∧ raised (if q.val < 16 then 41 else 46) s t) ∧
    sameBut [q.val] portInit s.ports t.ports ∧ (chg = false → regsOnly [rateA q.val] s t) ∧ regsKeep [rateA q.val, portStat q.val, ASR_EVSRC] s t ∧ keeps [.regs, .out, .mon, .sys, .ports] s t)) ∧
  (s.port q.val = x → x.clock = true → 300 ≤ x.win → s.portSlave q.val = true → x.locked = true → rateClassOf rate ≠ x.rateClass → leads (.rateWindowEnd q rate) s (fun t => (t.port q.val).locked = false ∧ (t.port q.val).fade = 2 ∧ (t.port q.val).ratio = 0 ∧
    (t.port q.val).rateClass = rateClassOf rate ∧ raised 50 s t ∧ t.bit ASR_STAT 0 = true ∧ counted ASR_UNLOCK_COUNT 1 s t ∧ t.bit (portStat q.val) 5 = true ∧ sameBut [q.val] portInit s.ports t.ports ∧
    regsKeep [rateA q.val, portStat q.val, ASR_EVSRC, ASR_STAT, ASR_UNLOCK_COUNT] s t ∧ keeps [.regs, .out, .mon, .sys, .ports] s t)) ∧
  (s.port q.val = x → portAsrc q.val x.cfg = true → x.clock = true → x.st ≠ .off → x.locked = false → 300 ≤ x.lockTicks → 0x4000000 ≤ v.toNat → v.toNat ≤ 0x40000000 → leads (.asrcLock q v) s (fun t => t.port q.val = { x with locked := true, ratio := v } ∧ t.bit ASR_EVSRC q.val = true ∧
    raised 50 s t ∧ sameBut [q.val] portInit s.ports t.ports ∧ regsKeep [ASR_EVSRC] s t ∧ keeps [.regs, .out, .mon, .sys, .ports] s t)) ∧
  (s.port q.val = x → portAsrc q.val x.cfg = true → x.clock = true → x.st ≠ .off → x.locked = false → x.lockTicks < 300 → 0x4000000 ≤ v.toNat → v.toNat ≤ 0x40000000 → exec (.asrcLock q v) s = .next s) ∧
  (s.port q.val = x → portAsrc q.val x.cfg = true → x.clock = true → x.st ≠ .off → x.locked = true → rateWithin 50 v.toNat x.ratio.toNat = true → 0x4000000 ≤ v.toNat → v.toNat ≤ 0x40000000 → leads (.asrcLock q v) s (fun t =>
    t.port q.val = { x with ratio := v } ∧ sameBut [q.val] portInit s.ports t.ports ∧ keeps [.ports] s t)) ∧
  (s.port q.val = x → portAsrc q.val x.cfg = true → x.clock = true → x.st ≠ .off → v.toNat < 0x4000000 ∨ 0x40000000 < v.toNat → leads (.asrcLock q v) s (fun t => (t.port q.val).locked = false ∧ t.bit ASR_STAT 1 = true ∧ t.bit ASR_EVSRC q.val = true ∧ raised 51 s t ∧
    (x.locked = true → raised 50 s t ∧ counted ASR_UNLOCK_COUNT 1 s t) ∧ sameBut [q.val] portInit s.ports t.ports ∧ regsKeep [ASR_STAT, ASR_EVSRC, ASR_UNLOCK_COUNT] s t ∧ keeps [.regs, .out, .mon, .sys, .ports] s t))

/-- R239, R241, R242, EV43: a received frame takes the index it was expected at where its edge lies within three quarters of a sample of it, else the
nearest, which is a slip; its enabled slots enter the receive block, and a frame of the wrong length is counted and dropped. A transmit frame carries
the emitted block's sample of its index, converted and clamped by R242, at high impedance where its slot is off, and zeros outside RUN. R255 to R258:
an AES3 frame with a parity or bi-phase error is dropped and counted, EV48; channel status is kept per subframe, EV49; a transmitter copies its
channel status at each block start. -/
def Obligations.PortFrames : Prop := ∀ (s : State) (p : Fin 16) (r : Fin 8) (x : Port) (e sp frac n k : Nat) (pos : Int) (dr : List Bool) (a b data mask : W32) (vs : List (Option W32)) (pe be : Bool) (csA csB : List Byte) (o : List (SinkId × List Int)),
  (s.port p.val = x → portListens p.val x = true → x.st = .run → x.reenter = false → portMaster p.val x.cfg = false → x.rx = some e → n = aspSlots x.cfg → pos = ((sp * s.cyc + frac + 256 * fld x.depth 6 0 : Nat) : Int) → 4 * (pos - (e : Int) * (s.cyc : Int)).natAbs ≤ 3 * s.cyc →
    s.tickN * s.tickLen ≤ e → spFind x.blk e = none → k < n → data = dataAt (sp / s.tickLen) x.maskRx x.chgRx → leads (.portReceiveFrame p sp frac (n * aspWidth x.cfg) dr) s (fun t => (t.port p.val).rx = some (e + 1) ∧
    nth 0 (spGet [] (t.port p.val).blk e) k = (if bitOf data k = true then rxWord x.cfg (slotWord x.cfg dr k) else 0) ∧
    (spGet [] (t.port p.val).blk e).length = n ∧ sameBut [e] [] x.blk (t.port p.val).blk ∧ sameBut [p.val] portInit s.ports t.ports ∧ keeps [.ports] s t)) ∧
  (s.port p.val = x → portListens p.val x = true → x.st = .run → x.reenter = false → portMaster p.val x.cfg = true → n = aspSlots x.cfg → pos = ((sp * s.cyc + frac + 256 * fld x.depth 6 0 : Nat) : Int) → pos = (e : Int) * (s.cyc : Int) →
    s.tickN * s.tickLen ≤ e → spFind x.blk e = none → k < n → data = dataAt (sp / s.tickLen) x.maskRx x.chgRx → leads (.portReceiveFrame p sp frac (n * aspWidth x.cfg) dr) s (fun t => t.out = s.out ++ [.rxSync p.val (frameSync x.cfg)] ∧ (t.port p.val).rx = some (e + 1) ∧
    nth 0 (spGet [] (t.port p.val).blk e) k = (if bitOf data k = true then rxWord x.cfg (slotWord x.cfg dr k) else 0) ∧
    (spGet [] (t.port p.val).blk e).length = n ∧ sameBut [e] [] x.blk (t.port p.val).blk ∧ sameBut [p.val] portInit s.ports t.ports ∧ keeps [.out, .ports] s t)) ∧
  (s.port p.val = x → portListens p.val x = true → x.st = .run → x.reenter = false → x.rx = some e → portMaster p.val x.cfg = false → n ≠ aspSlots x.cfg * aspWidth x.cfg → pos = ((sp * s.cyc + frac + 256 * fld x.depth 6 0 : Nat) : Int) →
    4 * (pos - (e : Int) * (s.cyc : Int)).natAbs ≤ 3 * s.cyc → leads (.portReceiveFrame p sp frac n dr) s (fun t => (t.port p.val).rx = some (e + 1) ∧ (t.port p.val).blk = x.blk ∧ counted (ASP_FERR_COUNT p.val) 1 s t ∧ counted (dropA p.val) 1 s t ∧ t.rd (ASP_SLIP_LAST p.val) = s.tickLo ∧
    t.bit (portStat p.val) 3 = true ∧ raised 43 s t ∧ sameBut [p.val] portInit s.ports t.ports ∧ regsKeep [ASP_FERR_COUNT p.val, portStat p.val, ASR_EVSRC, dropA p.val, ASP_SLIP_LAST p.val] s t ∧ keeps [.regs, .out, .mon, .sys, .ports] s t)) ∧
  (s.port p.val = x → portListens p.val x = true → x.st = .run → x.reenter = false → portMaster p.val x.cfg = false → x.rx = some e → n = aspSlots x.cfg → pos = ((sp * s.cyc + frac + 256 * fld x.depth 6 0 : Nat) : Int) → 3 * s.cyc < 4 * (pos - (e : Int) * (s.cyc : Int)).natAbs →
    leads (.portReceiveFrame p sp frac (n * aspWidth x.cfg) dr) s (fun t => (t.port p.val).rx = some ((roundEvenQ pos s.cyc).toNat + 1) ∧ t.bit (portStat p.val) 2 = true ∧ raised 40 s t ∧ t.rd (ASP_SLIP_LAST p.val) = s.tickLo ∧ sameBut [p.val] portInit s.ports t.ports ∧
    regsKeep [portStat p.val, ASR_EVSRC, ASP_SLIP_LAST p.val, dropA p.val] s t ∧ keeps [.regs, .out, .mon, .sys, .ports] s t)) ∧
  (s.port p.val = x → x.st = .off → exec (.portReceiveFrame p sp frac n dr) s = .next s ∧ exec (.portTransmitFrame (Fin.castLE (by decide) p) sp ⟨frac, none⟩) s = .next s) ∧
  (s.port p.val = x → x.st = .starting → x.clock = true → bitOf x.cfg 16 = true → portMaster p.val x.cfg = false → mask = maskAt (sp / s.tickLen) x.maskTx x.chgTx →
    vs = (upFrom 0 (aspSlots x.cfg)).map (fun k => if bitOf mask k = true then some 0 else none) → leads (.portTransmitFrame (Fin.castLE (by decide) p) sp ⟨frac, none⟩) s (fun t =>
    t.out = s.out ++ [.serial p.val vs (serialPins p.val x.cfg vs none)] ∧ sameBut [p.val] portInit s.ports t.ports ∧ keeps [.out, .ports] s t)) ∧
  (s.port p.val = x → x.st = .starting → x.clock = true → bitOf x.cfg 16 = true → portMaster p.val x.cfg = false → n ≠ aspSlots x.cfg * aspWidth x.cfg → leads (.portTransmitFrame (Fin.castLE (by decide) p) sp ⟨frac, some n⟩) s (fun t =>
    counted (ASP_FERR_COUNT p.val) 1 s t ∧ t.bit (portStat p.val) 3 = true ∧ raised 43 s t ∧ sameBut [p.val] portInit s.ports t.ports ∧ regsKeep [ASP_FERR_COUNT p.val, portStat p.val, ASR_EVSRC] s t ∧ keeps [.regs, .out, .mon, .sys, .ports] s t)) ∧
  (s.port p.val = x → x.st = .run → x.clock = true → bitOf x.cfg 16 = true → x.reenter = false → x.mismatch = false → portAsrc p.val x.cfg = false → portMaster p.val x.cfg = false → x.tx = some e → pos = ((sp * s.cyc + frac : Nat) : Int) - ((256 * fld x.depth 14 8 : Nat) : Int) →
    4 * (pos - (e : Int) * (s.cyc : Int)).natAbs ≤ 3 * s.cyc → x.runTick ≤ e / s.tickLen → findFrame s.graph.pipe.emitted (e / s.tickLen) s.tickN = some o → mask = maskAt (sp / s.tickLen) x.maskTx x.chgTx → data = dataAt (sp / s.tickLen) x.maskTx x.chgTx →
    vs = (upFrom 0 (aspSlots x.cfg)).map (fun k => if bitOf mask k = true then some (txWord x.cfg (if bitOf data k = true then nth 0 (findSink o (.asp p.val k)) (e % s.tickLen) else 0)).1 else none) →
    leads (.portTransmitFrame (Fin.castLE (by decide) p) sp ⟨frac, none⟩) s (fun t => t.out = s.out ++ [.serial p.val vs (serialPins p.val x.cfg vs none)] ∧ (t.port p.val).tx = some (e + 1) ∧
    sameBut [p.val] portInit s.ports t.ports ∧ regsOnly [ASP_CLIP_COUNT p.val, portStat p.val] s t ∧ keeps [.regs, .out, .ports] s t)) ∧
  (s.port (24 + r.val) = x → x.st = .run → x.clock = true → x.reenter = false → x.mismatch = false → ((sp * s.cyc + frac : Nat) : Int) - (s.cyc : Int) = (e : Int) * (s.cyc : Int) → e % 192 ≠ 0 → x.runTick ≤ e / s.tickLen →
    findFrame s.graph.pipe.emitted (e / s.tickLen) s.tickN = some o → leads (.portTransmitFrame ⟨24 + r.val, by omega⟩ sp ⟨frac, none⟩) s (fun t =>
    t.out = s.out ++ [.aesFrame r.val false (aesSub (nth 0 (findSink o (.aes r.val false)) (e % s.tickLen)) (s.bit (AEST_CFG r.val) 1) (bitOf (w32 (nth 0 x.csTx (e % 192 / 8)).toNat) (e % 192 % 8)))
      (aesSub (nth 0 (findSink o (.aes r.val true)) (e % s.tickLen)) (s.bit (AEST_CFG r.val) 1) (bitOf (w32 (nth 0 x.csTx (e % 192 / 8)).toNat) (e % 192 % 8)))] ∧
    sameBut [24 + r.val] portInit s.ports t.ports ∧ regsOnly [AEST_CLIP_COUNT r.val, portStat (24 + r.val)] s t ∧ keeps [.regs, .out, .ports] s t)) ∧
  (s.port (16 + r.val) = x → portListens (16 + r.val) x = true → x.st = .run → x.reenter = false → x.rx = some e → pos = ((sp * s.cyc + frac + s.cyc : Nat) : Int) → 4 * (pos - (e : Int) * (s.cyc : Int)).natAbs ≤ 3 * s.cyc → s.tickN * s.tickLen ≤ e → spFind x.blk e = none →
    bitOf a 28 = false → bitOf b 28 = false → leads (.aes3ReceiveFrame r sp frac a b false false) s (fun t => (t.port (16 + r.val)).rx = some (e + 1) ∧ spGet [] (t.port (16 + r.val)).blk e = [aesWord x.cfg a, aesWord x.cfg b] ∧
    sameBut [e] [] x.blk (t.port (16 + r.val)).blk ∧ sameBut [16 + r.val] portInit s.ports t.ports ∧ keeps [.ports] s t)) ∧
  (s.port (16 + r.val) = x → portListens (16 + r.val) x = true → x.st = .run → x.reenter = false → x.rx = some e → pos = ((sp * s.cyc + frac + s.cyc : Nat) : Int) → 4 * (pos - (e : Int) * (s.cyc : Int)).natAbs ≤ 3 * s.cyc → bitOf a 28 = false → bitOf b 28 = false → (pe || be) = true →
    leads (.aes3ReceiveFrame r sp frac a b pe be) s (fun t => (t.port (16 + r.val)).rx = some (e + 1) ∧ (t.port (16 + r.val)).blk = x.blk ∧ counted (AESR_PARITY_COUNT r.val) 1 s t ∧ counted (dropA (16 + r.val)) 1 s t ∧ t.bit (portStat (16 + r.val)) 3 = true ∧
    (s.sys.onceTick.contains 48 = false → raised 48 s t) ∧ sameBut [16 + r.val] portInit s.ports t.ports ∧ regsKeep [AESR_PARITY_COUNT r.val, dropA (16 + r.val), portStat (16 + r.val), ASR_EVSRC] s t ∧ keeps [.regs, .out, .mon, .sys, .ports] s t)) ∧
  (s.port (16 + r.val) = x → portHears (16 + r.val) x = true → leAt csA 0 1 % 2 = 0 → csA ≠ x.csA → csB = x.csB → leAt csB 0 1 % 2 = 0 → leads (.aesCs r csA csB) s (fun t => t.port (16 + r.val) = { x with csA := csA } ∧ t.rd (AESR_CS_TICK r.val) = s.tickLo ∧
    t.bit (portStat (16 + r.val)) 1 = true ∧ raised 49 s t ∧ sameBut [16 + r.val] portInit s.ports t.ports ∧ regsKeep [AESR_CS_TICK r.val, portStat (16 + r.val), ASR_EVSRC] s t ∧ keeps [.regs, .out, .mon, .sys, .ports] s t)) ∧
  (s.port (16 + r.val) = x → portHears (16 + r.val) x = false → exec (.aesCs r csA csB) s = .next s) ∧
  (s.port (24 + r.val) = x → x.st ≠ .off → s.bit (AEST_CFG r.val) 0 = false → leads (.aes3TxBlockStart r) s (fun t => t.out = s.out ++ [.aesBlock r.val ((upFrom 0 6).flatMap (fun i => leBytes 4 (s.rd (AEST_CS r.val i)).toNat))] ∧
    t.port (24 + r.val) = { x with csTx := (upFrom 0 6).flatMap (fun i => leBytes 4 (s.rd (AEST_CS r.val i)).toNat) } ∧ sameBut [24 + r.val] portInit s.ports t.ports ∧ keeps [.out, .ports] s t))

/-! ## Clock references (R268 to R286) -/

/-- R268 to R271: an input that appears qualifies from ABSENT; one that is lost, or whose frequency lies outside the window, raises its event and is found
for the closing boundary, where it is disqualified with its reason and its guard time; it qualifies when the guard time ends inside the window, or
after two clean windows. R278: two inputs of one rank that differ are disputed, and a third qualified input names the minority. R280: the bound passed
raises EV31. R272 to R275, R277: the wait-to-restore ends in a switch; a switch ends in free run or with the loop closed on its target; an absorbed
offset sets ALIGNED; the closed loop moves by no more than CLK_SLEW. R281: a standby follows the active's marker. -/
def Obligations.ClockReferences : Prop := ∀ (s : State) (i : Fin 6) (j k n m : Nat) (x y : RefIn) (f g h o : Int), s.ref i.val = x → s.refEn i.val = true →
  (i.val = 1 ∨ i.val = 3 ∨ s.refDerived i.val = true → x.st = .absent → leads (.refPresent i) s (fun t => t.ref i.val = { x with present := true, winClean := false, hist := [], st := .qualifying } ∧ sameBut [i.val] refInit s.clk.refs t.clk.refs ∧ keeps [.clk] s t)) ∧
  (i.val = 1 ∨ i.val = 3 ∨ s.refDerived i.val = false → x.present = true → leads (.refLost i) s (fun t => t.ref i.val = { x with present := false, winClean := false, hist := [], fail := if x.fail = 0 then 1 else x.fail } ∧ raised 26 s t ∧ t.bit CLK_EVSRC i.val = true ∧
    t.clk = { s.clk with refs := t.clk.refs } ∧ sameBut [i.val] refInit s.clk.refs t.clk.refs ∧ regsKeep [CLK_EVSRC] s t ∧ keeps [.regs, .out, .mon, .sys, .clk] s t)) ∧
  (x.fail = n → n ≠ 0 → x.st = .qualified → (s.refSettle i.val).ref i.val = { x with st := .disqualified, reason := n, guardLeft := s.rdF CLK_GUARD 9 0 * 3000 + 1, fail := 0 } ∧ raised 24 s (s.refSettle i.val) ∧ (s.refSettle i.val).bit CLK_EVSRC i.val = true ∧
    sameBut [i.val] refInit s.clk.refs (s.refSettle i.val).clk.refs ∧ regsKeep [CLK_EVSRC] s (s.refSettle i.val) ∧ keeps [.regs, .out, .mon, .sys, .clk] s (s.refSettle i.val)) ∧
  (x.st ≠ .absent → x.present = true → s.clk.win = 2999 → s.clk.winDone = false → s.rdF CLK_FWIN 16 0 < f.natAbs → x.disputed = false → (∀ k ∈ refNums, k ≠ i.val → (s.refEn k && (s.ref k).present) = false ∧ (s.ref k).compared = false) → leads (.freqWindowEnd [(i.val, f)]) s (fun t =>
    t.ref i.val = { x with freq := f, winClean := true, fail := if x.fail = 0 then 3 else x.fail } ∧ raised 32 s t ∧ t.bit CLK_EVSRC i.val = true ∧ t.clk = { s.clk with refs := t.clk.refs, winDone := true } ∧ sameBut [i.val] refInit s.clk.refs t.clk.refs ∧ regsKeep [CLK_EVSRC] s t ∧
    keeps [.regs, .out, .mon, .sys, .clk] s t)) ∧
  (x.st = .qualifying → x.present = true → x.winClean = true → x.fail = 0 → x.disputed = false → s.clk.win = 2999 → s.clk.winDone = false → f.natAbs ≤ s.rdF CLK_FWIN 16 0 → (∀ k ∈ refNums, k ≠ i.val → (s.refEn k && (s.ref k).present) = false ∧ (s.ref k).compared = false) →
    leads (.freqWindowEnd [(i.val, f)]) s (fun t => t.ref i.val = { x with freq := f, st := .qualified, guardLeft := 0 } ∧ raised 25 s t ∧ t.bit CLK_EVSRC i.val = true ∧ t.clk = { s.clk with refs := t.clk.refs, winDone := true } ∧ sameBut [i.val] refInit s.clk.refs t.clk.refs ∧
    regsKeep [CLK_EVSRC] s t ∧ keeps [.regs, .out, .mon, .sys, .clk] s t)) ∧
  (x.st = .qualifying → x.present = true → x.winClean = false → x.disputed = false → s.clk.win = 2999 → s.clk.winDone = false → f.natAbs ≤ s.rdF CLK_FWIN 16 0 → (∀ k ∈ refNums, k ≠ i.val → (s.refEn k && (s.ref k).present) = false ∧ (s.ref k).compared = false) →
    leads (.freqWindowEnd [(i.val, f)]) s (fun t => t.ref i.val = { x with freq := f, winClean := true } ∧ t.clk = { s.clk with refs := t.clk.refs, winDone := true } ∧ sameBut [i.val] refInit s.clk.refs t.clk.refs ∧ keeps [.clk] s t)) ∧
  (s.ref j = y → j < 6 → i.val ≠ j → s.refEn j = true → s.refRank i.val = s.refRank j → x.present = true → y.present = true → x.eligible = true → y.eligible = true → s.clk.win = 2999 → s.clk.winDone = false → f.natAbs ≤ s.rdF CLK_FWIN 16 0 → g.natAbs ≤ s.rdF CLK_FWIN 16 0 →
    s.rdF CLK_DISPUTE 15 0 < (f - g).natAbs → (∀ k ∈ refNums, k ≠ i.val → k ≠ j → (s.refEn k && (s.ref k).present) = false ∧ (s.ref k).st ≠ .qualified ∧ (s.ref k).disputed = false) → leads (.freqWindowEnd [(i.val, f), (j, g)]) s (fun t =>
    t.ref i.val = { x with freq := f, winClean := true, disputed := true, minority := false, agreeLeft := s.rdF CLK_GUARD 9 0 * 3000 } ∧ t.ref j = { y with freq := g, winClean := true, disputed := true, minority := false, agreeLeft := s.rdF CLK_GUARD 9 0 * 3000 } ∧
    counted CLK_DISPUTES 1 s t ∧ t.bit CLK_STAT 2 = true ∧ t.bit CLK_EVSRC i.val = true ∧ t.bit CLK_EVSRC j = true ∧ raised 29 s t ∧ sameBut [i.val, j] refInit s.clk.refs t.clk.refs ∧ regsKeep [CLK_DISPUTES, CLK_STAT, CLK_EVSRC] s t ∧ keeps [.regs, .out, .mon, .sys, .clk] s t)) ∧
  (s.ref j = y → j < 6 → k < 6 → i.val ≠ j → i.val ≠ k → j ≠ k → s.refEn j = true → s.refEn k = true → s.refRank i.val = s.refRank j → s.refRank k ≠ s.refRank j → x.present = true → y.present = true → (s.ref k).present = true → x.eligible = true → y.eligible = true → (s.ref k).eligible = true →
    (s.ref k).disputed = false → s.clk.win = 2999 → s.clk.winDone = false → f.natAbs ≤ s.rdF CLK_FWIN 16 0 → g.natAbs ≤ s.rdF CLK_FWIN 16 0 → h.natAbs ≤ s.rdF CLK_FWIN 16 0 → s.rdF CLK_DISPUTE 15 0 < (f - g).natAbs → s.rdF CLK_DISPUTE 15 0 < (h - f).natAbs → (h - g).natAbs ≤ s.rdF CLK_DISPUTE 15 0 →
    (∀ l ∈ refNums, l ≠ i.val → l ≠ j → l ≠ k → (s.refEn l && (s.ref l).present) = false ∧ (s.ref l).st ≠ .qualified ∧ (s.ref l).disputed = false) → leads (.freqWindowEnd [(i.val, f), (j, g), (k, h)]) s (fun t =>
    t.ref i.val = { x with freq := f, winClean := true, disputed := true, minority := true, agreeLeft := s.rdF CLK_GUARD 9 0 * 3000 } ∧ t.ref j = { y with freq := g, winClean := true, disputed := true, minority := false, agreeLeft := s.rdF CLK_GUARD 9 0 * 3000 } ∧
    raised 29 s t ∧ sameBut [i.val, j, k] refInit s.clk.refs t.clk.refs ∧ regsKeep [CLK_DISPUTES, CLK_STAT, CLK_EVSRC] s t ∧ keeps [.regs, .out, .mon, .sys, .clk] s t)) ∧
  (s.clk.win ≠ 2999 ∨ s.clk.winDone = true → exec (.freqWindowEnd [(i.val, f)]) s = .next s) ∧
  (x.st = .disqualified → x.present = true → x.guardLeft ≤ 1 → x.fail = 0 → x.freq.natAbs ≤ s.rdF CLK_FWIN 16 0 → leads (.guardExpiry i) s (fun t => t.ref i.val = { x with st := .qualified, guardLeft := 0 } ∧ raised 25 s t ∧ t.bit CLK_EVSRC i.val = true ∧ sameBut [i.val] refInit s.clk.refs t.clk.refs ∧
    regsKeep [CLK_EVSRC] s t ∧ keeps [.regs, .out, .mon, .sys, .clk] s t)) ∧
  (x.st = .disqualified → x.present = true → x.guardLeft ≤ 1 → s.rdF CLK_FWIN 16 0 < x.freq.natAbs ∨ x.fail ≠ 0 → exec (.guardExpiry i) s = .next s) ∧
  (s.clk.wtrLeft = some n → n ≤ 1 → s.clk.looped = false → s.clk.pll = .locked → s.clk.selected = i.val → s.eligibleRefs = (if i.val < j then [i.val, j] else [j, i.val]) → j < 6 → s.refRank j < s.refRank i.val → s.bit CLK_CTL 1 = true → leads .wtrExpiry s (fun t =>
    t.clk.pll = .switching ∧ t.clk.target = j ∧ t.clk.selected = 7 ∧ t.clk.wtrLeft = none ∧ t.clk.looped = true ∧ t.clk.targetFreq = (s.ref j).freq ∧ t.clk.refs = s.clk.refs ∧ t.clk.outFreq = clampI (-pullLimit) pullLimit (slewed s.clk.outFreq s.loopAim (s.rdF CLK_SLEW 6 0)) ∧
    t.sys.aligned = (s.sys.aligned && decide (i.val ≠ 0)) ∧ counted CLK_SWITCHES 1 s t ∧ t.bit CLK_STAT 0 = true ∧ raised 27 s t ∧ regsKeep [CLK_SWITCHES, CLK_STAT] s t ∧ keeps [.regs, .out, .mon, .sys, .clk, .ports] s t)) ∧
  (s.clk.wtrLeft = none ∨ s.clk.looped = true → exec .wtrExpiry s = .next s) ∧
  (s.clk.pll = .switching → s.clk.looped = false → s.clk.target = 6 → s.clk.targetFreq = 0 → s.clk.outFreq = 0 → s.eligibleRefs = [] → leads .switchDone s (fun t =>
    t.clk = { s.clk with pll := .freeRun, target := 7, selected := 7, buildout := 0, fromFree := true, atLimit := false, looped := true } ∧ raised 28 s t ∧ regsKeep [] s t ∧ keeps [.regs, .out, .mon, .sys, .clk] s t)) ∧
  (s.clk.pll = .switching → s.clk.looped = false → s.clk.target = i.val → s.clk.targetLost = false → i.val ≠ 0 → s.clk.outFreq = 3000 * x.freq → x.freq.natAbs < 100000 → s.eligibleRefs = [i.val] → leads .switchDone s (fun t =>
    t.clk = { s.clk with pll := .locked, selected := i.val, target := 7, targetFreq := x.freq, buildout := x.phi, holdTicks := none, holdE0 := 0, holdTe := 0, holdExceeded := false, fromFree := false, absorbDev := 0, wtrLeft := none, atLimit := false, looped := true } ∧
    raised 28 s t ∧ (s.clk.fromFree = true → raised 30 s t ∧ t.bit CLK_STAT 3 = true) ∧ regsKeep [CLK_STAT] s t ∧ keeps [.regs, .out, .mon, .sys, .clk, .ports] s t)) ∧
  (s.clk.pll = .absorbing → s.clk.looped = false → s.clk.selected = 0 → (s.ref 0).phi.natAbs < 20 → s.eligibleRefs = [0] → leads .absorbed s (fun t => t.clk = { s.clk with pll := .locked, absorbDev := 0, buildout := 0, wtrLeft := none, looped := true } ∧ t.sys.aligned = true ∧ t.rd TCK_EPOCH_OFS = 0 ∧ raised 34 s t ∧
    regsKeep [TCK_EPOCH_OFS] s t ∧ keeps [.regs, .out, .mon, .sys, .clk] s t)) ∧
  (s.clk.holdTicks = some n → s.clk.holdExceeded = false → (s.rd CLK_HOLD_SPEC).toNat * teDen < teNum (s.rdF CLK_HOLD_CFG 2 0) s.clk.holdE0 (n + 1) → leads .holdover s (fun t => t.clk = { s.clk with holdExceeded := true } ∧ t.bit CLK_STAT 4 = true ∧ raised 31 s t ∧ regsKeep [CLK_STAT] s t ∧
    keeps [.regs, .out, .mon, .sys, .clk] s t)) ∧
  (s.clk.holdTicks = some n → (s.holdAt m).clk.holdTicks = some m ∧ (s.holdAt m).clk.holdTe = teNum (s.rdF CLK_HOLD_CFG 2 0) s.clk.holdE0 m / teDen) ∧
  (s.twn.linkUp = true → s.twn.role ≠ .alone → s.twn.role ≠ .active → s.sys.mediaRun = true → leads (.tickMarker o) s (fun t => t.clk.outFreq = clampI (-pullLimit) pullLimit (s.clk.outFreq - (Config.loopGain 13 : Int) * o) ∧
    t.clk = { s.clk with pll := .locked, selected := 7, target := 7, wtrLeft := none, outFreq := t.clk.outFreq, atLimit := t.clk.atLimit } ∧ regsKeep [CLK_STAT] s t ∧ keeps [.regs, .out, .mon, .sys, .clk] s t)) ∧
  (s.followsMarker = false → exec (.tickMarker o) s = .next s)

/-! ## Network media (R287 to R312) -/

/-- R287, R289, R290: a port's enable, the refusal of a bad configuration with BAD_CFG and EV65, and the changes of its link, each counted, with EV56.
R291, R293: LOAD, ENABLE, DISABLE and CLEAR of a stream, and their refusal with BAD_ARG and EV65. R298, R300: a stream, or one of its legs, is lost;
the margins of a window. R303, R304: a membership report, the end of IGMPv2, and the end of a PAUSE. -/
def Obligations.NetPortsAndStreams : Prop := ∀ (s : State) (p : Fin 4) (pins : LinkPins) (v : W32) (k : Nat) (x : Stream) (n : NetPort) (q : GroupQuery) (qs : List GroupQuery) (d : List W32), s.hostUp = true → s.netPort p.val = n → s.str k = x →
  (bitOf v 0 = true → s.netOn p.val = false → s.netBad p.val = false → leads (.netEnable p v) s (fun t => t.rd (NET_CTL p.val) = 1 ∧ t.out = s.out ++ [.txDis p.val false] ∧ regsOnly [NET_CTL p.val] s t ∧ keeps [.regs, .out] s t)) ∧
  (bitOf v 0 = true → s.netOn p.val = false → 5 ≤ s.netType p.val ∨ (s.bit (NET_CFG p.val) 4 = true ∧ s.netType p.val ≠ 1) ∨ s.bit (NET_MAC_HI p.val) 8 = true → leads (.netEnable p v) s (fun t => s.netBad p.val = true ∧ t.rd (NET_CTL p.val) = s.rd (NET_CTL p.val) ∧ t.bit (NET_STAT p.val) 4 = true ∧ raised 65 s t ∧
    regsKeep [NET_STAT p.val] s t ∧ evtOnly s t)) ∧
  (bitOf v 0 = false → n.up = true → leads (.netEnable p v) s (fun t => t.rd (NET_CTL p.val) = 0 ∧ t.netPort p.val = { n with up := false, speed := 0, an := false, fec := false } ∧ counted (NET_LINK_CHANGES p.val) 1 s t ∧ t.bit (NET_STAT p.val) 0 = true ∧ raised 56 s t ∧
    sameBut [p.val] netPortInit s.net.ports t.net.ports ∧ regsKeep [NET_CTL p.val, NET_LINK_CHANGES p.val, NET_STAT p.val] s t ∧ keeps [.regs, .out, .mon, .sys, .net] s t)) ∧
  (bitOf v 0 = false → n.up = false → s.netOn p.val = true → leads (.netEnable p v) s (fun t => t.rd (NET_CTL p.val) = 0 ∧ t.out = s.out ++ [.txDis p.val true] ∧ t.netPort p.val = { n with speed := 0, an := false, fec := false } ∧
    sameBut [p.val] netPortInit s.net.ports t.net.ports ∧ regsOnly [NET_CTL p.val] s t ∧ keeps [.regs, .out, .net] s t)) ∧
  (s.netOn p.val = true → s.domFailed 7 = false → s.netType p.val < 2 → n.up = false → leads (.netLink p true pins) s (fun t =>
    t.netPort p.val = { n with los := pins.los, modAbs := pins.modAbs, up := true, speed := 4, an := s.netType p.val == 1, fec := s.netType p.val == 1 && s.bit (NET_CFG p.val) 4 } ∧ counted (NET_LINK_CHANGES p.val) 1 s t ∧ t.bit (NET_STAT p.val) 0 = true ∧ raised 56 s t ∧
    sameBut [p.val] netPortInit s.net.ports t.net.ports ∧ regsKeep [NET_LINK_CHANGES p.val, NET_STAT p.val] s t ∧ keeps [.regs, .out, .mon, .sys, .net] s t)) ∧
  (s.netOn p.val = true → s.domFailed 7 = false → s.netType p.val = 4 → pins.speed = 5 → n.up = false → leads (.netLink p true pins) s (fun t => t.netPort p.val = { n with los := pins.los, modAbs := pins.modAbs, up := false, speed := 5, an := false, fec := false } ∧
    t.bit (NET_STAT p.val) 3 = true ∧ raised 56 s t ∧ sameBut [p.val] netPortInit s.net.ports t.net.ports ∧ regsKeep [NET_STAT p.val] s t ∧ keeps [.regs, .out, .mon, .sys, .net] s t)) ∧
  (s.netOn p.val = true → s.domFailed 7 = false → n.up = true → leads (.netLink p false pins) s (fun t => t.netPort p.val = { n with los := pins.los, modAbs := pins.modAbs, up := false, speed := 0, an := false, fec := false } ∧ counted (NET_LINK_CHANGES p.val) 1 s t ∧ t.bit (NET_STAT p.val) 0 = true ∧
    raised 56 s t ∧ sameBut [p.val] netPortInit s.net.ports t.net.ports ∧ regsKeep [NET_LINK_CHANGES p.val, NET_STAT p.val] s t ∧ keeps [.regs, .out, .mon, .sys, .net] s t)) ∧
  (s.netOn p.val = false → leads (.netLink p true pins) s (fun t => t.netPort p.val = { n with los := pins.los, modAbs := pins.modAbs } ∧ sameBut [p.val] netPortInit s.net.ports t.net.ports ∧ keeps [.net] s t)) ∧
  (leads (.streamLoad v) s (fun t => t.net = { s.net with applies := s.net.applies ++ [putFld v 17 16 0] } ∧ keeps [.net] s t) ∧ leads (.streamEnable v) s (fun t => t.net = { s.net with applies := s.net.applies ++ [putFld v 17 16 1] } ∧ keeps [.net] s t) ∧
    leads (.streamDisable v) s (fun t => t.net = { s.net with applies := s.net.applies ++ [putFld v 17 16 2] } ∧ keeps [.net] s t) ∧ leads (.streamClear v) s (fun t => t.net = { s.net with applies := s.net.applies ++ [putFld v 17 16 3] } ∧ keeps [.net] s t)) ∧
  (s.net.applies = [v] → k = applyKey v → v &&& 0xFFFC7C00 = 0 → (s.strChans k).isSome = true → fld v 17 16 = 0 → x.on = false → d = (upFrom 0 16).map (fun j => s.rd (STR_D j)) → descBad (decide (1024 ≤ k)) d = false → (s.strApplies).str k = { x with desc := d } ∧ sameBut [k] strInit s.net.streams (s.strApplies).net.streams ∧ (s.strApplies).net = { s.net with streams := (s.strApplies).net.streams, applies := [] } ∧ keeps [.net] s s.strApplies) ∧
  (s.net.applies = [v] → k = applyKey v → fld v 17 16 = 0 → v &&& 0xFFFC7C00 ≠ 0 ∨ s.strChans k = none ∨ x.on = true → (s.strApplies).bit STR_STAT 0 = true ∧ (s.strApplies).rd STR_LAST_EV = w32 (k % 1024 + k / 1024 * 32768 + 65 * 65536) ∧ raised 65 s s.strApplies ∧ (s.strApplies).net = { s.net with applies := [] } ∧
    regsKeep [STR_STAT, STR_LAST_EV] s s.strApplies ∧ keeps [.regs, .out, .mon, .sys, .net] s s.strApplies) ∧
  (s.net.applies = [v] → k = applyKey v → v &&& 0xFFFC7C00 = 0 → (s.strChans k).isSome = true → fld v 17 16 = 1 → k < 1024 → descBad false x.desc = false → (∀ j ∈ s.rxKeys, (s.str j).on = true → (s.str j).admitKey ≠ x.admitKey) → x.ports = [p.val] → s.netOn p.val = true → s.netIgmp p.val = true → n.v2Left = 0 → multicast x.v6 x.dst = true → n.up = true →
    (s.strApplies).str k = { x with st := .waiting, legA := false, legB := false, lostA := false, lostB := false, arrA := false, arrB := false, lateA := false, lateB := false, quietA := 0, quietB := 0, quiet := 0, jitter := [], seen := [] } ∧ (s.strApplies).out = s.out ++ [.igmp p.val [x.dst ++ x.src] false] ∧
    counted (NET_TX_FRAMES p.val) 1 s s.strApplies ∧ sameBut [k] strInit s.net.streams (s.strApplies).net.streams ∧ (s.strApplies).net = { s.net with streams := (s.strApplies).net.streams, applies := [] } ∧ regsOnly [NET_TX_FRAMES p.val] s s.strApplies ∧ keeps [.regs, .out, .net] s s.strApplies) ∧
  (s.net.applies = [v] → k = applyKey v → v &&& 0xFFFC7C00 = 0 → (s.strChans k).isSome = true → fld v 17 16 = 1 → 1024 ≤ k → descBad true x.desc = false → s.txBad k = false → (s.strApplies).str k = { x with st := .run } ∧ sameBut [k] strInit s.net.streams (s.strApplies).net.streams ∧ (s.strApplies).net = { s.net with streams := (s.strApplies).net.streams, applies := [] } ∧ keeps [.net] s s.strApplies) ∧
  (s.net.applies = [v] → k = applyKey v → v &&& 0xFFFC7C00 = 0 → (s.strChans k).isSome = true → fld v 17 16 = 2 → x.on = true → k < 1024 → multicast x.v6 x.dst = false → (s.strApplies).str k = { x with st := .off, legA := false, legB := false, jitter := [], seen := [] } ∧ sameBut [k] strInit s.net.streams (s.strApplies).net.streams ∧ (s.strApplies).net = { s.net with streams := (s.strApplies).net.streams, applies := [] } ∧ keeps [.net] s s.strApplies) ∧
  (s.net.applies = [v] → k = applyKey v → v &&& 0xFFFC7C00 = 0 → (s.strChans k).isSome = true → fld v 17 16 = 2 → x.on = true → k < 1024 → x.ports = [p.val] → s.netOn p.val = true → s.netIgmp p.val = true → n.v2Left = 0 → multicast x.v6 x.dst = true → n.up = false → (s.strApplies).str k = { x with st := .off, legA := false, legB := false, jitter := [], seen := [] } ∧
    counted (NET_TX_DISCARD p.val) 1 s s.strApplies ∧ sameBut [k] strInit s.net.streams (s.strApplies).net.streams ∧ (s.strApplies).net = { s.net with streams := (s.strApplies).net.streams, applies := [] } ∧ regsOnly [NET_TX_DISCARD p.val] s s.strApplies ∧ keeps [.regs, .net] s s.strApplies) ∧
  (s.net.applies = [v] → k = applyKey v → fld v 17 16 = 2 → x.on = false → (s.strApplies).net = { s.net with applies := [] } ∧ (s.strApplies).bit STR_STAT 0 = true ∧ raised 65 s s.strApplies ∧ regsKeep [STR_STAT, STR_LAST_EV] s s.strApplies ∧ keeps [.regs, .out, .mon, .sys, .net] s s.strApplies) ∧
  (s.net.applies = [v] → k = applyKey v → v &&& 0xFFFC7C00 = 0 → (s.strChans k).isSome = true → fld v 17 16 = 3 → (s.strApplies).str k = { x with pkts := 0, late := 0, early := 0, dup := 0, pad := 0, malf := 0, guard := 0, diverge := 0 } ∧ sameBut [k] strInit s.net.streams (s.strApplies).net.streams ∧ (s.strApplies).net = { s.net with streams := (s.strApplies).net.streams, applies := [] } ∧ keeps [.net] s s.strApplies) ∧
  (k < 1024 → x.st = .run → x.arrA = false → x.arrB = false → x.timeout ≤ x.quiet + 1 → leads (.streamLost k) s (fun t => (t.str k).st = .lost ∧ (t.str k).legA = false ∧ (t.str k).legB = false ∧ (t.str k).pkts = x.pkts ∧ t.rd STR_LAST_EV = w32 (k + 57 * 65536) ∧ raised 57 s t ∧
    sameBut [k] strInit s.net.streams t.net.streams ∧ regsKeep [STR_LAST_EV] s t ∧ keeps [.regs, .out, .mon, .sys, .net] s t)) ∧
  (k < 1024 → x.st = .run → x.legs = 3 → x.arrA = false → x.arrB = true → x.legB = true → x.lostA = false → x.timeout ≤ x.quietA + 1 → 1 ≤ x.timeout → leads (.streamLost k) s (fun t => t.str k = { x with lostA := true, legA := false } ∧ t.rd STR_LAST_EV = w32 (k + 59 * 65536) ∧ raised 59 s t ∧
    sameBut [k] strInit s.net.streams t.net.streams ∧ regsKeep [STR_LAST_EV] s t ∧ keeps [.regs, .out, .mon, .sys, .net] s t)) ∧
  (s.net.marginTicks = 2999 → leads .streamMarginWindowEnd s (fun t => t.str k = { x with marMin := x.mMin, marMax := x.mMax, mMin := none, mMax := none } ∧ t.net = { s.net with marginTicks := 3000, streams := t.net.streams } ∧ keeps [.net] s t)) ∧
  (n.queries = q :: qs → q.group.all (· == 0) = true → q.v6 = x.v6 → s.portStreams p.val = [k] → s.netOn p.val = true → s.netIgmp p.val = true → n.v2Left = 0 → multicast x.v6 x.dst = true → n.up = true → leads (.membershipReport p) s (fun t => t.netPort p.val = { n with queries := qs } ∧
    t.out = s.out ++ [.igmp p.val [x.dst ++ x.src] false] ∧ counted (NET_TX_FRAMES p.val) 1 s t ∧ sameBut [p.val] netPortInit s.net.ports t.net.ports ∧ t.net = { s.net with ports := t.net.ports } ∧ regsOnly [NET_TX_FRAMES p.val] s t ∧ keeps [.regs, .out, .net] s t)) ∧
  (n.v2Left ≤ 1 → leads (.igmpv2QuerierTimeout p) s (fun t => t.netPort p.val = { n with v2Left := 0 } ∧ sameBut [p.val] netPortInit s.net.ports t.net.ports ∧ t.net = { s.net with ports := t.net.ports } ∧ keeps [.net] s t)) ∧
  (n.paused ≤ tickBits (s.netSpeed p.val) → leads (.pauseExpiry p) s (fun t => t.netPort p.val = { n with paused := 0 } ∧ sameBut [p.val] netPortInit s.net.ports t.net.ports ∧ t.net = { s.net with ports := t.net.ports } ∧ keeps [.net] s t))

/-- R297: the first check that applies decides a received frame's fate: FCS, size, destination, PAUSE; a packet that passes them all, on the module or
forwarded by its standby, fills the indices of its stream's jitter buffer by its timestamp (R298, R299) and brings the stream to RUN with EV58 (R300).
R294, R296: a port sends the packet of a transmit stream once in its tick, its sequence number and timestamp by the packet's first index; R289: with
its link down it is discarded. R306: the host's frame at CONS is sent and CONS advances; a PAUSE holds it. -/
def Obligations.NetPackets : Prop := ∀ (s : State) (p : Fin 4) (bytes frame ip u pay f : List Byte) (k ofs off e len : Nat) (tag : Bool) (x y : Stream) (v : W32), s.hostUp = true → s.str k = x → frame = bytes.take (bytes.length - 4) →
  (s.netOn p.val = true → (s.netPort p.val).up = true → 4 ≤ bytes.length → w32 (leAt bytes (bytes.length - 4) 4) ≠ crc32e frame → leads (.netFrameReceive p bytes) s (fun t => counted (NET_RX_FCS p.val) 1 s t ∧ t.bit (NET_STAT p.val) 2 = true ∧ regsOnly [NET_RX_FCS p.val, NET_STAT p.val] s t ∧ keeps [.regs] s t)) ∧
  (s.netOn p.val = true → (s.netPort p.val).up = true → 4 ≤ bytes.length → bytes.length < 64 → w32 (leAt bytes (bytes.length - 4) 4) = crc32e frame → leads (.netFrameReceive p bytes) s (fun t => counted (NET_RX_FRAMES p.val) 1 s t ∧ counted (NET_RX_SIZE p.val) 1 s t ∧
    regsOnly [NET_RX_FRAMES p.val, NET_RX_SIZE p.val] s t ∧ keeps [.regs] s t)) ∧
  (s.netOn p.val = true → (s.netPort p.val).up = true → 64 ≤ bytes.length → bytes.length ≤ 1522 → w32 (leAt bytes (bytes.length - 4) 4) = crc32e frame → s.macTaken p.val (frame.take 6) = false → leads (.netFrameReceive p bytes) s (fun t => counted (NET_RX_FRAMES p.val) 1 s t ∧ counted (NET_RX_FILTERED p.val) 1 s t ∧
    regsOnly [NET_RX_FRAMES p.val, NET_RX_FILTERED p.val] s t ∧ keeps [.regs] s t)) ∧
  (s.netOn p.val = true → (s.netPort p.val).up = true → 64 ≤ bytes.length → bytes.length ≤ 1522 → w32 (leAt bytes (bytes.length - 4) 4) = crc32e frame → s.macTaken p.val (frame.take 6) = true → etherOf frame = (false, 0x8808, 14) → s.bit (NET_CFG p.val) 5 = true → leads (.netFrameReceive p bytes) s (fun t =>
    counted (NET_RX_FRAMES p.val) 1 s t ∧ counted (NET_RX_PAUSE p.val) 1 s t ∧ t.bit (NET_STAT p.val) 1 = true ∧ (t.netPort p.val).paused = 1536 * beAt frame 16 2 ∧ regsOnly [NET_RX_FRAMES p.val, NET_RX_PAUSE p.val, NET_STAT p.val] s t ∧ keeps [.regs, .net] s t)) ∧
  (s.netOn p.val = true → (s.netPort p.val).up = true → 64 ≤ bytes.length → bytes.length ≤ 1522 → w32 (leAt bytes (bytes.length - 4) 4) = crc32e frame → s.macTaken p.val (frame.take 6) = true → etherOf frame = (tag, 0x0800, ofs) → ip = frame.drop ofs → ipOf 0x0800 ip = some (false, 17, off, false) →
    ipBad false off false ip = false → udpBad false off ip = false → beAt ip (off + 2) 2 ≠ 319 → beAt ip (off + 2) 2 ≠ 320 → u = slice ip off (udpSpan false off ip) → s.rxKeys.filter (fun j => (s.str j).on && (s.str j).pair == p.val / 2 && (s.str j).usesLeg (p.val % 2 == 1) && (s.str j).v6 == false &&
      (s.str j).dst == addrAt false ip true && (s.str j).dport == beAt u 2 2) = [k] → rtpPayload (u.drop 8) = some pay → x.src = addrAt false ip false → x.d 2 = w32 (beAt u 16 4) → beAt u 9 1 % 128 = x.pt → (s.strChans k).getD 0 = 1 → x.l24 = true → pay.length = 3 * len → 1 ≤ len → len ≤ 192 →
    (if p.val % 2 = 1 then x.rgB else x.rgA) < fld (x.d 4) 15 8 → s.follows = false → s.twn.cutoff = false → x.st = .waiting → x.jitter = [] → s.nearIndex (uwrap 32 ((beAt u 12 4 : Int) - (x.d 3).toNat)) = (e : Int) → s.tickN ≤ e / s.tickLen + x.jb → (e + len - 1) / s.tickLen + x.jb ≤ s.tickN + 63 →
    leads (.netFrameReceive p bytes) s (fun t => (t.str k).st = .run ∧ (t.str k).pkts = satN 32 (x.pkts + 1) ∧ (∀ j ∈ upFrom 0 len, spFind (t.str k).jitter (e + j) = some [sext 24 (beAt pay (3 * j) 3)]) ∧ (t.str k).late = x.late ∧ (t.str k).dup = x.dup ∧ (if p.val % 2 = 1 then (t.str k).legB else (t.str k).legA) = true ∧
    counted (NET_RX_FRAMES p.val) 1 s t ∧ raised 58 s t ∧ t.rd STR_LAST_EV = w32 (k % 1024 + k / 1024 * 32768 + 58 * 65536) ∧ sameBut [k] strInit s.net.streams t.net.streams ∧ regsKeep [NET_RX_FRAMES p.val, STR_LAST_EV] s t ∧ keeps [.regs, .out, .mon, .sys, .net] s t)) ∧
  (s.twn.role = .active → etherOf frame = (tag, 0x0800, ofs) → ip = frame.drop ofs → ipOf 0x0800 ip = some (false, 17, off, false) → u = slice ip off (udpSpan false off ip) → rtpPayload (u.drop 8) = some pay → s.rxKeys.filter (fun j => (s.str j).on && (s.str j).pair == p.val / 2 && (s.str j).usesLeg (p.val % 2 == 1) &&
      (s.str j).v6 == false && (s.str j).dst == addrAt false ip true && (s.str j).dport == beAt u 2 2 && (s.str j).src == addrAt false ip false && (s.str j).d 2 == w32 (beAt u 16 4)) = [k] → (s.strChans k).getD 0 = 1 → x.l24 = true → pay.length = 3 * len → 1 ≤ len → s.twn.cutoff = false → x.st = .waiting →
    x.jitter = [] → s.nearIndex (uwrap 32 ((beAt u 12 4 : Int) - (x.d 3).toNat)) = (e : Int) → s.tickN ≤ e / s.tickLen + x.jb → (e + len - 1) / s.tickLen + x.jb ≤ s.tickN + 63 → leads (.forwardedPacket p bytes) s (fun t => (t.str k).st = .run ∧ (t.str k).pkts = satN 32 (x.pkts + 1) ∧
    (∀ j ∈ upFrom 0 len, spFind (t.str k).jitter (e + j) = some [sext 24 (beAt pay (3 * j) 3)]) ∧ raised 58 s t ∧ sameBut [k] strInit s.net.streams t.net.streams ∧ regsKeep [STR_LAST_EV] s t ∧ keeps [.regs, .out, .mon, .sys, .net] s t)) ∧
  (s.netOn p.val = true → s.sys.mediaRun = true → p.val ∈ s.net.due → s.txKeys = [k] → 1024 ≤ k → x.ports.contains p.val = true → s.pktDue k = some e → (s.netPort p.val).up = true → s.pktWire p.val x ((s.strChans k).getD 0) ≤ tickCap (s.netSpeed p.val) → f = s.mediaFrame p.val k e → leads (.mediaTxStart p) s (fun t =>
    t.out = s.out ++ [.mediaStart p.val (s.netPort p.val).txOfs, .frame p.val f] ∧ t.netPort p.val = { s.netPort p.val with used := s.pktWire p.val x ((s.strChans k).getD 0) } ∧ counted (NET_TX_FRAMES p.val) 1 s t ∧ t.str k = { x with pkts := satN 32 (x.pkts + 1) } ∧ t.net.due = s.net.due.filter (· != p.val) ∧ sameBut [k] strInit s.net.streams t.net.streams ∧ regsOnly [NET_TX_FRAMES p.val] s t ∧ keeps [.regs, .out, .net] s t)) ∧
  (1024 ≤ k → multicast x.v6 x.dst = true → x.v6 = false → x.dst.length = 4 → s.bit (NET_VLAN p.val) 12 = false → f = s.mediaFrame p.val k e → beAt f 12 2 = 0x0800 ∧ beAt f 36 2 = x.dport ∧ beAt f 42 1 = 0x80 ∧ beAt f 44 2 = e / s.pktSamples x % 65536 ∧ beAt f 46 4 = (e + (x.d 3).toNat) % 2 ^ 32 ∧ beAt f 50 4 = (x.d 2).toNat) ∧
  (s.netOn p.val = true → s.sys.mediaRun = true → p.val ∈ s.net.due → s.txKeys = [k] → x.ports.contains p.val = true → s.pktDue k = some e → (s.netPort p.val).up = false → leads (.mediaTxStart p) s (fun t => counted (NET_TX_DISCARD p.val) 1 s t ∧ t.net = { s.net with due := s.net.due.filter (· != p.val), ports := t.net.ports } ∧
    t.netPort p.val = { s.netPort p.val with used := 0 } ∧ sameBut [p.val] netPortInit s.net.ports t.net.ports ∧ t.out = s.out ++ [.mediaStart p.val (s.netPort p.val).txOfs] ∧ regsOnly [NET_TX_DISCARD p.val] s t ∧ keeps [.regs, .out, .net] s t)) ∧
  (s.bit STR_HQ_CTL 9 = true → s.net.txCons ≠ s.rdF STR_HQ_TX_PROD 11 0 % s.hqTxN → s.net.dmaStopped = false → f = s.hqTxSlot bytes → leAt f 2 1 = p.val → 60 ≤ leAt f 0 2 → leAt f 0 2 ≤ 1514 → (s.netPort p.val).paused = 0 → s.netOn p.val = true → (s.netPort p.val).up = true → leAt f 3 1 % 2 = 0 → s.net.vec3Tx = true → u = slice f 16 (leAt f 0 2) → s.portBusy p.val u.length = false →
    leads (.hostFrameSend bytes) s (fun t => t.out = s.out ++ [.frame p.val (framed u)] ∧ counted (NET_TX_FRAMES p.val) 1 s t ∧ counted STR_HQ_TX_PKTS 1 s t ∧ t.net = { s.net with txCons := (s.net.txCons + 1) % s.hqTxN, ports := t.net.ports } ∧ sameBut [p.val] netPortInit s.net.ports t.net.ports ∧
    t.netPort p.val = { s.netPort p.val with used := (s.netPort p.val).used + frameWire u.length } ∧ regsOnly [NET_TX_FRAMES p.val, STR_HQ_TX_PKTS] s t ∧ keeps [.regs, .out, .net] s t)) ∧
  (s.bit STR_HQ_CTL 9 = true → s.net.dmaStopped = false → f = s.hqTxSlot bytes → leAt f 2 1 = p.val → 60 ≤ leAt f 0 2 → leAt f 0 2 ≤ 1514 → s.netOn p.val = true → (s.netPort p.val).up = true → leAt f 3 1 % 2 = 0 → u = slice f 16 (leAt f 0 2) → 0 < (s.netPort p.val).paused ∨ s.portBusy p.val u.length = true → exec (.hostFrameSend bytes) s = .next s) ∧
  (leads (.strHqTxProd v) s (fun t => t.rd STR_HQ_TX_PROD = v &&& 0xFFF ∧ regsOnly [STR_HQ_TX_PROD] s t ∧ keeps [.regs] s t))

/-! ## Network time (R313 to R333) -/

/-- R314, R322: TIM_CTL enables the port, which listens; intervals outside the profile are refused with BAD_CFG and EV69; SET loads the local clock, but
not in a pair. R320: TIM_STEP_ACK, with presence, lets the next offset step. R322: three sync intervals without a Sync end qualification. R324, R325:
ARM latches a schedule or refuses it, a late one-shot fires at once, DISARM ends the pulse, an edge starts it, and it ends after its width. -/
def Obligations.NetTimeAndPulses : Prop := ∀ (s : State) (p : Fin 4) (v : W32) (x : Pps) (st per wid dt : Nat), s.hostUp = true → s.pulse p.val = x →
  (bitOf v 0 = true → bitOf v 2 = false → s.timOn = false → s.intervalsBad = false → s.tim.qualified = false → s.tim.pst = .disabled → leads (.ptpEnable v) s (fun t => t.rd TIM_CTL = v &&& 3 ∧ t.tim = { s.tim with pst := .listening, rate := 0, good := 0, legA := { s.tim.legA with annAt := s.tim.mono }, legB := { s.tim.legB with annAt := s.tim.mono } } ∧ t.bit TIM_STAT 0 = true ∧ raised 66 s t ∧
    regsKeep [TIM_CTL, TIM_STAT] s t ∧ keeps [.regs, .out, .mon, .sys, .tim] s t)) ∧
  (bitOf v 0 = true → s.timOn = false → 2 ≤ s.rdF TIM_CFG 3 2 ∨ 128 ≤ s.rdF TIM_CFG 15 8 ∨ fld (s.rd TIM_INTERVALS) 15 12 < 2 ∨ 10 < fld (s.rd TIM_INTERVALS) 15 12 ∨ 4 < sext 4 (fld (s.rd TIM_INTERVALS) 7 4) ∨ sext 4 (fld (s.rd TIM_INTERVALS) 7 4) < 0 ∨ 1 < sext 4 (fld (s.rd TIM_INTERVALS) 3 0) ∨
    (s.rdF TIM_CFG 3 2 = 1 ∧ sext 4 (fld (s.rd TIM_INTERVALS) 3 0) < -1) → leads (.ptpEnable v) s (fun t => t.rd TIM_CTL = s.rd TIM_CTL ∧ t.bit TIM_STAT 6 = true ∧ raised 69 s t ∧ regsKeep [TIM_STAT] s t ∧ evtOnly s t)) ∧
  (bitOf v 0 = false → s.timOn = false → s.tim.qualified = false → s.twn.paired = false → (s.rd TIM_SET_NS).toNat ≤ 999999999 → (∀ j ∈ [0, 1, 2, 3], (s.pulse j).armed = false) → leads (.timSet v) s (fun t => t.rd TIM_CTL = v &&& 3 ∧
    t.tim = { s.tim with now := ((s.rd TIM_SET_SHI).toNat * 2 ^ 32 + (s.rd TIM_SET_SLO).toNat) * 1000000000 + (s.rd TIM_SET_NS).toNat } ∧ t.pulse p.val = { x with active := false } ∧ regsOnly [TIM_CTL] s t ∧ keeps [.regs, .tim, .pps] s t)) ∧
  (bitOf v 0 = false → s.timOn = false → s.tim.qualified = false → s.twn.paired = true → leads (.timSet v) s (fun t => t.rd TIM_CTL = v &&& 3 ∧ regsOnly [TIM_CTL] s t ∧ keeps [.regs] s t)) ∧
  (s.class1 = true → v = 0x5E7C → s.tim.stepHeld = true → exec (.timStepAck v) s = .next { s with tim := { s.tim with ackArmed := true } }) ∧
  (s.class1 = true → v ≠ 0x5E7C ∨ s.tim.stepHeld = false → exec (.timStepAck v) s = .next s) ∧
  (s.class1 = false → leads (.timStepAck v) s (fun t => t.tim = s.tim ∧ counted PRS_DENIED 1 s t ∧ t.bit PRS_STAT 2 = true ∧ regsKeep [PRS_DENIED, PRS_STAT, PRS_DENIED_LAST] s t ∧ evtOnly s t)) ∧
  (s.timOn = true → s.tim.pst = .slave → s.tim.qualified = true → s.syncLimit ≤ s.tim.mono + dt - s.tim.syncAt → leads (.syncLossTimeout dt) s (fun t => t.tim = { (s.timAdvance dt).tim with syncLost := true, qualified := false } ∧ t.tim.now = s.tim.now + dt ∧ t.bit TIM_STAT 1 = true ∧ raised 67 s t ∧
    regsKeep [TIM_STAT] s t ∧ keeps [.regs, .out, .mon, .sys, .tim] s t)) ∧
  (s.tim.mono + dt - s.tim.syncAt < s.syncLimit → exec (.syncLossTimeout dt) s = .next (s.timAdvance dt)) ∧
  (bitOf v 1 = false → per = (s.rd (PPS_PERIOD p.val)).toNat → wid = (s.rd (PPS_WIDTH p.val)).toNat → st = ((s.rd (PPS_START_SHI p.val)).toNat * 2 ^ 32 + (s.rd (PPS_START_SLO p.val)).toNat) * 1000000000 + (s.rd (PPS_START_NS p.val)).toNat → (s.rd (PPS_START_NS p.val)).toNat ≤ 999999999 →
    1000 ≤ per → 8 ≤ wid → wid < per → s.tim.now ≤ st → leads (.ppsArm p v) s (fun t => t.pulse p.val = { x with armed := true, start := st, period := per, width := wid, nextK := 0 } ∧ t.bit (PPS_CTL p.val) 2 = bitOf v 2 ∧ sameBut [p.val] ppsInit s.pps t.pps ∧ regsOnly [PPS_CTL p.val] s t ∧ keeps [.regs, .pps] s t)) ∧
  (bitOf v 1 = false → per = (s.rd (PPS_PERIOD p.val)).toNat → wid = (s.rd (PPS_WIDTH p.val)).toNat → st = ((s.rd (PPS_START_SHI p.val)).toNat * 2 ^ 32 + (s.rd (PPS_START_SLO p.val)).toNat) * 1000000000 + (s.rd (PPS_START_NS p.val)).toNat → (s.rd (PPS_START_NS p.val)).toNat ≤ 999999999 →
    per = 0 → 8 ≤ wid → st < s.tim.now → leads (.ppsArm p v) s (fun t => t.pulse p.val = { armed := false, active := true, start := st, period := 0, width := wid, nextK := 1, endAt := s.tim.now + wid } ∧ counted (PPS_COUNT p.val) 1 s t ∧ t.bit (PPS_STATE p.val) 2 = true ∧ raised 71 s t ∧
    sameBut [p.val] ppsInit s.pps t.pps ∧ regsKeep [PPS_CTL p.val, PPS_COUNT p.val, PPS_STATE p.val] s t ∧ keeps [.regs, .out, .mon, .sys, .pps] s t)) ∧
  (bitOf v 1 = false → (1 ≤ (s.rd (PPS_PERIOD p.val)).toNat ∧ (s.rd (PPS_PERIOD p.val)).toNat ≤ 999) ∨ (s.rd (PPS_WIDTH p.val)).toNat < 8 ∨ (1 ≤ (s.rd (PPS_PERIOD p.val)).toNat ∧ (s.rd (PPS_PERIOD p.val)).toNat ≤ (s.rd (PPS_WIDTH p.val)).toNat) ∨ 999999999 < (s.rd (PPS_START_NS p.val)).toNat →
    leads (.ppsArm p v) s (fun t => t.pulse p.val = { x with armed := false } ∧ t.bit TIM_STAT 6 = true ∧ sameBut [p.val] ppsInit s.pps t.pps ∧ regsOnly [PPS_CTL p.val, TIM_STAT] s t ∧ keeps [.regs, .pps] s t)) ∧
  (leads (.ppsDisarm p v) s (fun t => t.pulse p.val = { x with armed := false, active := false } ∧ sameBut [p.val] ppsInit s.pps t.pps ∧ regsOnly [PPS_CTL p.val] s t ∧ keeps [.regs, .pps] s t)) ∧
  (x.armed = true → s.tim.now ≤ x.start + x.nextK * x.period → leads (.ppsEdge p) s (fun t => t.pulse p.val = { x with active := true, endAt := x.start + x.nextK * x.period + x.width, nextK := x.nextK + 1, armed := x.period != 0 } ∧ t.tim = (s.timAdvance (x.start + x.nextK * x.period - s.tim.now)).tim ∧ t.tim.now = x.start + x.nextK * x.period ∧
    counted (PPS_COUNT p.val) 1 s t ∧ sameBut [p.val] ppsInit s.pps t.pps ∧ regsOnly [PPS_COUNT p.val] s t ∧ keeps [.regs, .tim, .pps] s t)) ∧
  (x.active = true → s.tim.now ≤ x.endAt → leads (.ppsPulseEnd p) s (fun t => t.pulse p.val = { x with active := false } ∧ t.tim = (s.timAdvance (x.endAt - s.tim.now)).tim ∧ t.tim.now = x.endAt ∧ sameBut [p.val] ppsInit s.pps t.pps ∧ keeps [.tim, .pps] s t))

/-- R313 to R315, R319 to R322: an Announce is recorded, filtered by the acceptable master table, and the second of one master makes it the leg's master,
UNCALIBRATED, EV66; a two-step Sync waits for its Follow_Up; the first offset slews the clock up to 20 ns, steps it up to TIM_STEP_MAX, EV68, and is
held beyond, EV69; Delay_Req and Delay_Resp measure the path delay; a master sends and answers; the announce receipt timeout drops the leg's master.
The rate that the loop takes on is a free value, bounded by R319 (log entry 33). -/
def Obligations.PtpMessages : Prop := ∀ (s : State) (h : PtpHead) (b : AnnounceBody) (m : ForeignMaster) (l : PtpLeg) (w : WaitSync) (o t1 t2 t3 t4 d : Int) (dt : Nat) (rs : W64), s.timOn = true → s.tim.leg h.legB = l →
  (s.ptpHere h = true → b.steps < 255 → s.bit TIM_CFG 5 = false → s.tim.pst = .listening → s.tim.serving = 0 → s.tim.gm = 0 → s.tim.qualified = false → s.slaveOnly = true → s.tim.legA.foreign = [] → s.tim.legB.foreign = [] → s.tim.legA.master = none → s.tim.legB.master = none → leads (.announceMessage h b dt) s (fun t =>
    (t.tim.leg h.legB).foreign.map (fun x => (x.src, x.srcPort, x.gm, x.steps, x.count)) = [(h.src, h.srcPort, b.gm, b.steps, 1)] ∧ t.tim.now = s.tim.now + dt ∧ t.tim.pst = .listening ∧ t.tim.leg (!h.legB) = { s.tim.leg (!h.legB) with wait := none, t12 := none, reqTx := none, lastOffset := none } ∧ keeps [.tim] s t)) ∧
  (s.ptpHere h = true → b.steps < 255 → s.bit TIM_CFG 5 = false → s.tim.pst = .listening → s.tim.serving = 0 → s.tim.gm = 0 → s.tim.qualified = false → s.slaveOnly = true → l.foreign = [m] → m.src = h.src → m.srcPort = h.srcPort → m.count = 1 → (s.tim.leg (!h.legB)).foreign = [] → s.tim.legA.master = none → s.tim.legB.master = none → b.gm ≠ 0 →
    leads (.announceMessage h b dt) s (fun t => (t.tim.leg h.legB).master.map (fun x => (x.src, x.srcPort, x.gm)) = some (h.src, h.srcPort, b.gm) ∧ t.tim.serving = (if h.legB = true then 2 else 1) ∧ t.tim.gm = b.gm ∧ t.tim.pst = .uncalibrated ∧ t.tim.now = s.tim.now + dt ∧ t.bit TIM_STAT 0 = true ∧ raised 66 s t ∧
    regsKeep [TIM_STAT] s t ∧ keeps [.regs, .out, .mon, .sys, .tim] s t)) ∧
  (s.ptpHere h = true → 255 ≤ b.steps ∨ (s.bit TIM_CFG 5 = true ∧ s.acceptable b.gm = false) → leads (.announceMessage h b dt) s (fun t => t.tim = (s.timAdvance dt).tim ∧ counted TIM_REJECT 1 s t ∧ t.bit TIM_STAT 4 = true ∧ (s.sys.onceTick.contains 69 = false → raised 69 s t) ∧ regsKeep [TIM_REJECT, TIM_STAT] s t ∧
    keeps [.regs, .out, .mon, .sys, .tim] s t)) ∧
  (h.version ≠ 2 ∨ h.domain.toNat ≠ s.rdF TIM_CFG 15 8 ∨ h.v6 ≠ s.bit TIM_CFG 1 ∨ (s.netPort (s.timPort h.legB)).up = false → ∀ c ∈ [Instr.announceMessage h b dt, .ptpSync h (some t1) t2 dt, .ptpSync h none t2 dt, .followUp h t1 dt, .delayReq h t2 dt, .delayResp h t4 rs dt], exec c s = .next (s.timAdvance dt)) ∧
  (s.ptpHere h = true → s.fromMaster h = true → leads (.ptpSync h none t2 dt) s (fun t => t.tim.leg h.legB = { l with wait := some { src := h.src, seq := h.seq, rx := s.ingress h.legB t2, corr := h.corr } } ∧ t.tim.leg (!h.legB) = s.tim.leg (!h.legB) ∧ t.tim.now = s.tim.now + dt ∧ t.tim.pst = s.tim.pst ∧ t.tim.rate = s.tim.rate ∧ keeps [.tim] s t)) ∧
  (s.ptpHere h = true → s.fromMaster h = true → o = t1 + l.mpd + h.corr - s.ingress h.legB t2 → s.tim.serving = (if h.legB = true then 2 else 1) → (s.tim.leg (!h.legB)).lastOffset = none → s.tim.pst = .slave → s.tim.ackArmed = false → s.tim.stepHeld = false → s.tim.first = true → o.natAbs ≤ 20 → s.tim.slewAt ≤ s.tim.now + dt →
    s.tim.qualified = false → s.tim.good + 1 < fld (s.rd TIM_QUAL) 23 16 → leads (.ptpSync h (some t1) t2 dt) s (fun t => t.rd TIM_OFFSET = i32sat o ∧ counted TIM_SYNC_RX 1 s t ∧ (t.tim.rate - s.tim.rate).natAbs ≤ (s.tim.now + dt - s.tim.slewAt) / 100 ∧ t.tim.now = s.tim.now + dt ∧ t.tim.slewAt = s.tim.now + dt ∧ t.tim.first = false ∧
    t.tim.outs = [] ∧ t.tim.good = (if o.natAbs ≤ fld (s.rd TIM_QUAL) 15 0 then s.tim.good + 1 else 0) ∧ t.tim.lastGm = some s.tim.gm ∧ regsOnly [TIM_OFFSET, TIM_SYNC_RX] s t ∧ keeps [.regs, .free, .tim] s t)) ∧
  (s.ptpHere h = true → s.fromMaster h = true → l.wait = some w → w.src = h.src → w.seq = h.seq → o = t1 + l.mpd + (w.corr + h.corr) - w.rx → s.tim.serving = (if h.legB = true then 2 else 1) → (s.tim.leg (!h.legB)).lastOffset = none → s.tim.pst = .slave → s.tim.ackArmed = false → s.tim.stepHeld = false → s.tim.first = true →
    20 < o.natAbs → o.natAbs ≤ (s.rd TIM_STEP_MAX).toNat → s.tim.qualified = false → s.tim.good + 1 < fld (s.rd TIM_QUAL) 23 16 → (∀ j ∈ [0, 1, 2, 3], (s.pulse j).armed = false) → leads (.followUp h t1 dt) s (fun t => t.tim.now = (((s.tim.now + dt : Nat) : Int) + o).toNat ∧ counted TIM_STEPS 1 s t ∧ t.rd TIM_LAST_STEP = i32sat o ∧
    t.rd TIM_OFFSET = i32sat o ∧ t.bit TIM_STAT 2 = true ∧ raised 68 s t ∧ t.tim.good = s.tim.good + 1 ∧ t.tim.rate = s.tim.rate ∧ (t.tim.leg h.legB).wait = none ∧ regsKeep [TIM_OFFSET, TIM_SYNC_RX, TIM_STEPS, TIM_LAST_STEP, TIM_STAT] s t ∧ keeps [.regs, .out, .mon, .sys, .tim, .pps] s t)) ∧
  (s.ptpHere h = true → s.fromMaster h = true → o = t1 + l.mpd + h.corr - s.ingress h.legB t2 → s.tim.serving = (if h.legB = true then 2 else 1) → (s.tim.leg (!h.legB)).lastOffset = none → s.tim.pst = .slave → s.tim.ackArmed = false → s.tim.stepHeld = false → s.tim.first = true → 20 < o.natAbs → (s.rd TIM_STEP_MAX).toNat < o.natAbs →
    s.rd TIM_STEP_MAX ≠ 0 → s.tim.qualified = false → leads (.ptpSync h (some t1) t2 dt) s (fun t => t.tim.stepHeld = true ∧ t.tim.now = s.tim.now + dt ∧ t.tim.rate = s.tim.rate ∧ raised 69 s t ∧ regsKeep [] s t ∧ keeps [.regs, .out, .mon, .sys, .tim] s t)) ∧
  (l.master.isSome = true → s.tim.pst = .slave ∨ s.tim.pst = .uncalibrated → (s.netPort (s.timPort h.legB)).up = true → leads (.delayReqSend h.legB t3 dt) s (fun t => t.out = s.out ++ [.ptp (s.ptpNet h.legB) 1 l.reqSeq t3] ∧ t.tim.leg h.legB = { l with reqSeq := (l.reqSeq + 1) % 65536, reqTx := some (s.egress h.legB t3) } ∧
    t.tim.leg (!h.legB) = s.tim.leg (!h.legB) ∧ t.tim.now = s.tim.now + dt ∧ counted (NET_TX_FRAMES (s.timPort h.legB)) 1 s t ∧ regsOnly [NET_TX_FRAMES (s.timPort h.legB)] s t ∧ keeps [.regs, .out, .tim] s t)) ∧
  (l.master.isSome = true → s.tim.pst = .slave ∨ s.tim.pst = .uncalibrated → (s.netPort (s.timPort h.legB)).up = false → leads (.delayReqSend h.legB t3 dt) s (fun t => counted (NET_TX_DISCARD (s.timPort h.legB)) 1 s t ∧ t.tim.leg h.legB = { l with reqSeq := (l.reqSeq + 1) % 65536, reqTx := some (s.egress h.legB t3) } ∧
    t.tim.now = s.tim.now + dt ∧ regsOnly [NET_TX_DISCARD (s.timPort h.legB)] s t ∧ keeps [.regs, .tim] s t)) ∧
  (s.ptpHere h = true → s.fromMaster h = true → l.reqTx = some t3 → l.t12 = some d → rs = s.clockId → (h.seq + 1) % 65536 = l.reqSeq → leads (.delayResp h t4 rs dt) s (fun t => t.tim.leg h.legB = { l with mpd := roundDiv (d + (t4 - h.corr - t3)) 2, reqTx := none } ∧ t.tim.leg (!h.legB) = s.tim.leg (!h.legB) ∧
    t.tim.now = s.tim.now + dt ∧ keeps [.tim] s t)) ∧
  (s.tim.pst = .master → (s.netPort (s.timPort h.legB)).up = true → leads (.ptpMasterSend h.legB dt) s (fun t => t.out = s.out ++ [.ptp (s.ptpNet h.legB) 11 s.tim.masterSeq ((s.tim.now + dt : Nat) : Int), .ptp (s.ptpNet h.legB) 0 s.tim.masterSeq 0,
    .ptp (s.ptpNet h.legB) 8 s.tim.masterSeq (s.egress h.legB ((s.tim.now + dt : Nat) : Int))] ∧ t.tim = { (s.timAdvance dt).tim with masterSeq := (s.tim.masterSeq + 1) % 65536 } ∧ counted (NET_TX_FRAMES (s.timPort h.legB)) 3 s t ∧ regsOnly [NET_TX_FRAMES (s.timPort h.legB)] s t ∧ keeps [.regs, .out, .tim] s t)) ∧
  (s.ptpHere h = true → s.tim.pst = .master → leads (.delayReq h t2 dt) s (fun t => t.tim = (s.timAdvance dt).tim ∧ t.out = s.out ++ [.ptp (s.ptpNet h.legB) 9 h.seq (s.ingress h.legB t2)] ∧ counted (NET_TX_FRAMES (s.timPort h.legB)) 1 s t ∧ regsOnly [NET_TX_FRAMES (s.timPort h.legB)] s t ∧
    keeps [.regs, .out, .tim] s t)) ∧
  (s.slaveOnly = true → s.tim.legA.master = some m → s.tim.legB.master = none → s.tim.legA.foreign = [m] → s.tim.legB.foreign = [] → s.tim.serving = 1 → s.tim.pst = .slave → s.tim.gm = m.gm → m.gm ≠ 0 → s.tim.qualified = false → s.annLimit ≤ s.tim.mono + dt - s.tim.legA.annAt → leads (.announceReceiptTimeout dt) s (fun t => t.tim.legA.master = none ∧ t.tim.legA.foreign = [] ∧
    t.tim.serving = 0 ∧ t.tim.gm = 0 ∧ t.tim.pst = .listening ∧ t.tim.rate = 0 ∧ t.tim.now = s.tim.now + dt ∧ t.bit TIM_STAT 0 = true ∧ raised 66 s t ∧ regsKeep [TIM_STAT] s t ∧ keeps [.regs, .out, .mon, .sys, .tim] s t)) ∧
  (s.tim.pst = .slave → s.tim.mono + dt - s.tim.legA.annAt < s.annLimit → s.tim.mono + dt - s.tim.legB.annAt < s.annLimit → exec (.announceReceiptTimeout dt) s = .next (s.timAdvance dt))

/-! ## DRAM (R334 to R362) -/

/-- R341, R342, R343: a refresh that falls due with no real-time request to its rank is issued at once; otherwise it is owed, and when eight are owed all
are forced and counted. A change of interval, which a temperature reading has prepared, takes effect at the next due refresh and raises EV80. Owed
refreshes go out at a piece boundary. -/
def Obligations.DramRefresh : Prop := ∀ (s : State) (ch : Fin 2) (rank : Fin 4) (n : Nat) (hot : List Bool),
  (((s.chan ch.val).rank rank.val).st.live = true → (((s.chan ch.val).rank rank.val).hot || s.bit (DRC_POLICY ch.val) 2) = ((s.chan ch.val).rank rank.val).fast →
    s.rtQueued ch.val rank.val = false → (s.chan ch.val).neighbours = [] → leads (.refreshDue ch rank) s (fun t =>
    t.chan ch.val = { s.chan ch.val with hist := (t.chan ch.val).hist } ∧ keeps [.dram] s t ∧ t.dram.mem = s.dram.mem ∧
    (s.dram.frozen = false → ((t.chan ch.val).hist.map (·.cmd)).head? = some (w32 (5 * 2 ^ 28 + rank.val * 2 ^ 26 + 14 * 2 ^ 18))))) ∧
  (((s.chan ch.val).rank rank.val).st.live = true → (((s.chan ch.val).rank rank.val).hot || s.bit (DRC_POLICY ch.val) 2) = ((s.chan ch.val).rank rank.val).fast →
    s.rtQueued ch.val rank.val = true → ((s.chan ch.val).rank rank.val).owed < 7 → leads (.refreshDue ch rank) s (fun t =>
    t.chan ch.val = (s.chan ch.val).modRank rank.val (fun r => { r with owed := r.owed + 1 }) ∧ keeps [.dram] s t ∧ t.dram.mem = s.dram.mem)) ∧
  (((s.chan ch.val).rank rank.val).st.live = true → (((s.chan ch.val).rank rank.val).hot || s.bit (DRC_POLICY ch.val) 2) = ((s.chan ch.val).rank rank.val).fast →
    s.rtQueued ch.val rank.val = true → 7 ≤ ((s.chan ch.val).rank rank.val).owed → leads (.refreshDue ch rank) s (fun t =>
    ((t.chan ch.val).rank rank.val).owed = 0 ∧ counted (DRC_REF_FORCED ch.val) (((s.chan ch.val).rank rank.val).owed + 1) s t ∧
    regsOnly [DRC_REF_FORCED ch.val] s t ∧ keeps [.regs, .dram] s t ∧ t.dram.mem = s.dram.mem)) ∧
  (((s.chan ch.val).rank rank.val).st.live = true → (((s.chan ch.val).rank rank.val).hot || s.bit (DRC_POLICY ch.val) 2) ≠ ((s.chan ch.val).rank rank.val).fast →
    leads (.refreshDue ch rank) s (fun t =>
    ((t.chan ch.val).rank rank.val).fast = (((s.chan ch.val).rank rank.val).hot || s.bit (DRC_POLICY ch.val) 2) ∧ t.bit (DRC_STAT ch.val) 8 = true ∧ raised 80 s t ∧
    regsKeep [DRC_STAT ch.val, DRC_REF_FORCED ch.val, DRC_REF_OVER ch.val] s t ∧ keeps [.regs, .out, .mon, .sys, .dram] s t ∧ t.dram.mem = s.dram.mem)) ∧
  (s.rtQueued ch.val rank.val = false → leads (.owedRefreshIssue ch rank n) s (fun t =>
    ((t.chan ch.val).rank rank.val).owed = ((s.chan ch.val).rank rank.val).owed - n ∧ keeps [.dram] s t ∧ t.dram.mem = s.dram.mem)) ∧
  (95 ≤ (s.chan ch.val).tempTicks → leads (.dramTempRead ch hot) s (fun t => (t.chan ch.val).tempTicks = 0 ∧ (∀ k : Fin 4, ((s.chan ch.val).rank k.val).st.live = true →
    (t.chan ch.val).rank k.val = { (s.chan ch.val).rank k.val with hot := nth false hot k.val }) ∧ keeps [.dram] s t ∧ t.dram.mem = s.dram.mem)) ∧
  ((s.chan ch.val).tempTicks < 95 → exec (.dramTempRead ch hot) s = .next s)

/-- R338: a short ZQ calibration goes to every live rank. Retraining takes the ranks in turn; a working setting becomes the last-known-good one; without
one the rank keeps its settings, becomes SUSPECT, is counted and raises EV76, and where no spare is free nothing else follows. -/
def Obligations.DramTraining : Prop := ∀ (s : State) (ch : Fin 2) (k : Fin 4) (readWin writeWin lane : Nat),
  ((s.chan ch.val).zqTicks = 383 → leads (.zqCalibration ch) s (fun t => t.chan ch.val = { s.chan ch.val with hist := (t.chan ch.val).hist, zqTicks := 384 } ∧ keeps [.dram] s t ∧ t.dram.mem = s.dram.mem ∧
    (s.dram.frozen = false → ((s.chan ch.val).rank k.val).st.live = true →
      w32 (7 * 2 ^ 28 + k.val * 2 ^ 26 + 14 * 2 ^ 18) ∈ (t.chan ch.val).hist.map (·.cmd)))) ∧
  ((s.chan ch.val).zqTicks ≠ 383 → exec (.zqCalibration ch) s = .next s) ∧
  (nextRank (s.chan ch.val) 4 (s.chan ch.val).trainNext = some k.val → s.dram.frozen = false → 3000 * (s.chan ch.val).trainEff ≤ (s.chan ch.val).trainTicks + 1 → ((s.chan ch.val).rank k.val).owed = 0 → leads (.retrain ch true readWin writeWin lane) s (fun t =>
    (t.chan ch.val).rank k.val = { (s.chan ch.val).rank k.val with readWin := readWin % 256, writeWin := writeWin % 256, lane := lane % 16, lkg := false, lastTrain := s.tickLo } ∧
    (t.chan ch.val).trainNext = (k.val + 1) % 4 ∧ (t.chan ch.val).trainTicks = 0 ∧ (∀ j : Fin 4, j ≠ k → (t.chan ch.val).rank j.val = (s.chan ch.val).rank j.val) ∧ keeps [.dram] s t ∧ t.dram.mem = s.dram.mem)) ∧
  (nextRank (s.chan ch.val) 4 (s.chan ch.val).trainNext = some k.val → s.dram.frozen = false → 3000 * (s.chan ch.val).trainEff ≤ (s.chan ch.val).trainTicks + 1 → ((s.chan ch.val).rank k.val).owed = 0 → s.dram.ranksW ≠ 4 → ((s.chan ch.val).rank k.val).st = .inService →
    leads (.retrain ch false readWin writeWin lane) s (fun t => (t.chan ch.val).trainTicks = 0 ∧ (t.chan ch.val).trainNext = (k.val + 1) % 4 ∧
    (t.chan ch.val).rank k.val = { (s.chan ch.val).rank k.val with st := .suspect, lkg := true, lastTrain := s.tickLo } ∧ counted (DRC_TRAIN_FAILS ch.val) 1 s t ∧
    t.bit (DRC_STAT ch.val) 4 = true ∧ raised 76 s t ∧ regsKeep [DRC_STAT ch.val, DRC_TRAIN_FAILS ch.val] s t ∧ keeps [.regs, .out, .mon, .sys, .dram] s t ∧
    t.dram.mem = s.dram.mem)) ∧
  (nextRank (s.chan ch.val) 4 (s.chan ch.val).trainNext = some k.val → s.dram.frozen = true ∨ (s.chan ch.val).trainTicks + 1 < 3000 * (s.chan ch.val).trainEff ∨ 0 < ((s.chan ch.val).rank k.val).owed → exec (.retrain ch true readWin writeWin lane) s = .next s)

/-- R344, R345, R389: a read of bytes of one line that no queue entry covers returns what DRAM holds; an entry with all its strobes forwards them and
counts. A write of one line makes an entry, or merges into the line's entry, the newer bytes winning, and no byte outside it reads differently. An
entry that issues stores its bytes and clears their poison. -/
def Obligations.DramReadsAndWrites : Prop := ∀ (s : State) (addr n x : Nat) (bytes : List (Option Byte)) (master : Fin 12) (qos : Fin 16) (e : WqEntry) (es : List WqEntry),
  s.dram.frozen = false →
  (0 < n → addr % 64 + n ≤ 64 → addr + n ≤ s.dramSize → s.trk.lock = none → findEntry (s.chan (dramCh addr)).wq (addr / 64) = none → s.dram.poison = [] →
    leads (.dramRead addr n master qos []) s (fun t => .dram master.val (memRead s.dram.mem addr n) ∈ t.out ∧ t.dram.mem = s.dram.mem ∧ t.dram.poison = [] ∧
    (∀ c : Fin 2, (t.chan c.val).wq = (s.chan c.val).wq) ∧ keeps [.regs, .out, .free, .sys, .mon, .dram, .trk] s t)) ∧
  (0 < n → addr % 64 + n ≤ 64 → addr + n ≤ s.dramSize → s.trk.lock = none → findEntry (s.chan (dramCh addr)).wq (addr / 64) = some e → e.bytes.all (·.isSome) = true →
    leads (.dramRead addr n master qos []) s (fun t => t.out = s.out ++ [.dram master.val (slice (e.bytes.map (fun b => b.getD 0)) (addr % 64) n)] ∧ t.dram = s.dram ∧
    counted (DRC_FWD_COUNT (dramCh addr)) 1 s t ∧ regsOnly [DRC_FWD_COUNT (dramCh addr)] s t ∧ keeps [.regs, .out, .trk] s t)) ∧
  (bytes ≠ [] → bytes.any (·.isSome) = true → addr % 64 + bytes.length ≤ 64 → addr + bytes.length ≤ s.dramSize → s.trk.lock = none →
    ((findEntry (s.chan (dramCh addr)).wq (addr / 64)).isSome = true ∨ wqFree (s.chan (dramCh addr)).wq (s.qosOf master.val qos.val == 15) = true) →
    leads (.dramWrite addr bytes master qos) s (fun t =>
    t.dramPeek x 1 = (if addr ≤ x ∧ x < addr + bytes.length then (match nth none bytes (x - addr) with | some b => [b] | none => s.dramPeek x 1) else s.dramPeek x 1) ∧
    t.dram.mem = s.dram.mem ∧ keeps [.dram, .trk] s t)) ∧
  ((s.chan (dramCh (e.line * 64))).wq = e :: es → e.bytes.length = 64 → e.bytes.all (·.isSome) = true →
    leads (.writeQueueIssue (if e.line / 4 % 2 = 0 then 0 else 1) []) s (fun t =>
    (t.chan (dramCh (e.line * 64))).wq = es ∧ spGet 0 t.dram.mem x = (if x / 64 = e.line then (nth none e.bytes (x % 64)).getD 0 else spGet 0 s.dram.mem x) ∧
    (x / 8 / 8 = e.line → spGet false t.dram.poison (x / 8) = false) ∧ keeps [.regs, .out, .free, .sys, .mon, .dram] s t))

/-- R347, R357: the patrol reads the next line and moves on; a host access through the aperture reaches DRC_APBASE times 64 MiB plus its offset, one
outside the usable DRAM is unmapped and sets AP_RANGE, a write to the module area outside the staging area is ignored and sets AP_PROTECT. -/
def Obligations.PatrolAndAperture : Prop := ∀ (s : State) (ch : Fin 2) (addr x : Nat) (width : Width) (v : W32) (found : DramFound),
  ((s.chan ch.val).scrubOn = true → s.dram.frozen = false → s.dram.poison = [] → (s.chan ch.val).scrubPos + 1 < (patrolRanks (s.chan ch.val)).length * rankLines →
    leads (.patrolScrubRead ch [[]]) s (fun t => (t.chan ch.val).scrubPos = (s.chan ch.val).scrubPos + 1 ∧ t.dram.mem = s.dram.mem ∧ t.dram.poison = [] ∧
    keeps [.regs, .out, .free, .sys, .mon, .dram] s t)) ∧
  (s.hostUp = true → s.dram.frozen = false → s.apOutside addr width = false → 0x4000000 ≤ widthAlign width (s.apAddr addr) → s.trk.lock = none →
    ((findEntry (s.chan (dramCh (widthAlign width (s.apAddr addr)))).wq (widthAlign width (s.apAddr addr) / 64)).isSome = true ∨
      wqFree (s.chan (dramCh (widthAlign width (s.apAddr addr)))).wq false = true) → s.qosOf 0 8 ≠ 15 →
    leads (.apertureAccess addr true width v found) s (fun t => t.dramPeek (widthAlign width (s.apAddr addr)) (widthBytes width) = leBytes (widthBytes width) v.toNat ∧
    (x < widthAlign width (s.apAddr addr) ∨ widthAlign width (s.apAddr addr) + widthBytes width ≤ x → t.dramPeek x 1 = s.dramPeek x 1) ∧
    t.dram.mem = s.dram.mem ∧ keeps [.dram, .trk] s t)) ∧
  (s.hostUp = true → s.dram.frozen = false → s.apOutside addr width = false → s.trk.lock = none → s.dram.poison = [] →
    findEntry (s.chan (dramCh (widthAlign width (s.apAddr addr)))).wq (widthAlign width (s.apAddr addr) / 64) = none →
    leads (.apertureAccess addr false width v .clean) s (fun t =>
    .readData (w32 (leNat (memRead s.dram.mem (widthAlign width (s.apAddr addr)) (widthBytes width)))) ∈ t.out ∧ t.dram.mem = s.dram.mem ∧
    keeps [.regs, .out, .free, .sys, .mon, .dram, .trk] s t)) ∧
  (s.hostUp = true → s.apOutside addr width = true → leads (.apertureAccess addr true width v found) s (fun t =>
    t.bit (DRC_STAT 0) 11 = true ∧ t.bit SYS_STAT 1 = true ∧ t.rd SYS_UNMAP_ADDR = w32 addr ∧ raised 5 s t ∧ evtOnly s t ∧
    regsKeep [DRC_STAT 0, SYS_STAT, SYS_UNMAP_ADDR] s t)) ∧
  (s.hostUp = true → s.dram.frozen = false → s.apOutside addr width = false → 0x1000000 ≤ widthAlign width (s.apAddr addr) → widthAlign width (s.apAddr addr) < 0x4000000 →
    leads (.apertureAccess addr true width v found) s (fun t => t.bit (DRC_STAT 0) 12 = true ∧ regsOnly [DRC_STAT 0] s t ∧ keeps [.regs] s t))

/-- R348, R351, R352: a retried alert is counted and sets PARITY; a command error where no spare can take the rank freezes both channels together and
discards their queued writes, counted. R350: every table clears at a window start; a row whose count reaches the threshold is treated once: record,
count and EV77. R353, R355: a MIGRATE job whose arguments name an in-service logical rank, with a free spare, begins the copy: the source becomes
MIGRATING_OUT, the spare MIGRATING_IN, EV78. After the last line the logical rank maps to the spare, the source is RETIRED and EV78 is raised again. -/
def Obligations.DramFaultsAndMigration : Prop := ∀ (s : State) (ch : Fin 2) (rank : Fin 4) (bg : Fin 4) (bank : Fin 4) (row : Nat) (slot : Fin 16) (m : Migration) (k : Nat) (hit : ParityHit),
  (hit.persist = false → s.dram.frozen = false ∨ hit.cmd.val = 5 → leads (.dramParity ch rank hit) s (fun t => counted (DRC_PAR_COUNT ch.val) 1 s t ∧ t.bit (DRC_STAT ch.val) 2 = true ∧
    (s.sys.onceTick.contains 74 = false → raised 74 s t) ∧ t.dram.mem = s.dram.mem ∧ t.dram.frozen = s.dram.frozen ∧
    (∀ c : Fin 2, t.chan c.val = { s.chan c.val with hist := (t.chan c.val).hist }) ∧
    regsKeep [DRC_PAR_COUNT ch.val, DRC_STAT ch.val, DRC_ERR_SYND ch.val, DRC_ERR_INFO ch.val, DRC_ERR_ADDR_LO ch.val, DRC_ERR_ADDR_HI ch.val] s t ∧
    keeps [.regs, .out, .mon, .sys, .dram] s t)) ∧
  (hit.persist = true → s.dram.frozen = false → s.dram.ranksW ≠ 4 → leads (.dramParity ch rank hit) s (fun t => t.dram.frozen = true ∧ counted (DRC_PAR_COUNT ch.val) 1 s t ∧ counted (DRC_UE_COUNT ch.val) 1 s t ∧
    t.bit (DRC_STAT ch.val) 1 = true ∧ raised 73 s t ∧ raised 75 s t ∧ t.dram.mem = s.dram.mem ∧
    (∀ c : Fin 2, (t.chan c.val).wq = [] ∧ (t.chan c.val).frzDrop = (s.chan c.val).wq.length ∧ (t.chan c.val).copying = none))) ∧
  (s.dram.frozen = true → hit.cmd.val ≠ 5 → exec (.dramParity ch rank hit) s = .next s) ∧
  ((s.tickN + 1) % 192 ≠ 0 → exec .hammerWindowStart s = .next s) ∧
  ((s.tickN + 1) % 192 = 0 → exec .hammerWindowStart s = .next { s with dram := { s.dram with
    ch0 := { s.dram.ch0 with hammer := [], throttle := [] }, ch1 := { s.dram.ch1 with hammer := [], throttle := [] } } }) ∧
  (row < 2 ^ 17 → s.bit (DRC_POLICY ch.val) 3 = true →
    (∀ r ∈ spGet [] (s.chan ch.val).hammer (bankKey rank.val bg.val bank.val), r.row = row → r.treated = false) →
    leads (.rowHammer ch rank bg bank row) s (fun t => t.bit (DRC_STAT ch.val) 5 = true ∧ raised 77 s t ∧ counted (DRC_HAMMER_COUNT ch.val) 1 s t ∧
    (t.rd (DRC_HAMMER_LAST ch.val)).toNat % 2 ^ 28 = rank.val * 2 ^ 26 + bg.val * 2 ^ 24 + bank.val * 2 ^ 22 + row ∧
    (∀ r ∈ spGet [] (t.chan ch.val).hammer (bankKey rank.val bg.val bank.val), r.row = row → r.treated = true) ∧
    (row ≠ 0 → (bankKey rank.val bg.val bank.val, row - 1) ∈ (t.chan ch.val).neighbours) ∧
    (row + 1 ≠ 2 ^ 17 → (bankKey rank.val bg.val bank.val, row + 1) ∈ (t.chan ch.val).neighbours) ∧
    regsKeep [DRC_STAT ch.val, DRC_HAMMER_COUNT ch.val, DRC_HAMMER_LAST ch.val] s t ∧ keeps [.regs, .out, .mon, .sys, .dram] s t ∧ t.dram.mem = s.dram.mem)) ∧
  ((s.slot slot.val).st = .queued → (s.slot slot.val).kind = 5 → s.engineFree slot.val = true → s.dram.frozen = false →
    ch.val = fld ((s.slot slot.val).arg 0) 0 0 → s.migrateError ch.val (fld ((s.slot slot.val).arg 0) 2 1) = 0 → (s.chan ch.val).spareRank = some k →
    leads (.migrate slot) s (fun t => (t.slot slot.val).st = .running ∧ ((t.chan ch.val).rank (fld ((s.slot slot.val).arg 0) 2 1)).st = .migratingOut ∧
    ((t.chan ch.val).rank k).st = .migratingIn ∧ t.bit (DRC_STAT ch.val) 6 = true ∧ raised 78 s t ∧
    (t.chan ch.val).copying.map (fun x => (x.source, x.target, x.cause, x.copied, x.slot)) = some (fld ((s.slot slot.val).arg 0) 2 1, k, 4, 0, some slot.val) ∧
    regsKeep [DRC_STAT ch.val] s t ∧ keeps [.regs, .out, .mon, .sys, .jobs, .mem, .dram] s t ∧ t.dram.mem = s.dram.mem)) ∧
  ((s.chan ch.val).copying = some m → m.slot = none → k = s.rankPoison ch.val m.source m.copied 16384 → leads (.migrationComplete ch) s (fun t => (t.chan ch.val) = { s.chan ch.val with mig := some { m with copied := 16384, poisoned := m.poisoned + k, done := true } } ∧
    counted (DRC_MIG_POISON ch.val) k s t ∧ (∀ c : Fin 2, c ≠ ch → t.chan c.val = s.chan c.val) ∧ t.dram.mem = s.dram.mem ∧ regsOnly [DRC_MIG_POISON ch.val] s t ∧ keeps [.regs, .dram] s t)) ∧
  ((s.chan ch.val).copying = some m → m.done = true → m.slot = none → m.source < (s.chan ch.val).ranks.length → m.target < (s.chan ch.val).ranks.length → m.source ≠ m.target →
    ((s.migRemap ch.val).chan ch.val).rank m.source = { (s.chan ch.val).rank m.source with st := .retired, owed := 0 } ∧ (((s.migRemap ch.val).chan ch.val).rank m.target).st = .inService ∧
    ((s.migRemap ch.val).chan ch.val).rankMap = (s.chan ch.val).rankMap.map (fun j => if j = m.source then m.target else j) ∧ ((s.migRemap ch.val).chan ch.val).spareUsed = true ∧ ((s.migRemap ch.val).chan ch.val).copying = none ∧
    (s.migRemap ch.val).bit (DRC_STAT ch.val) 6 = true ∧ raised 78 s (s.migRemap ch.val) ∧ regsKeep [DRC_STAT ch.val] s (s.migRemap ch.val) ∧ keeps [.regs, .out, .mon, .sys, .dram] s (s.migRemap ch.val) ∧
    (s.migRemap ch.val).dram.mem = s.dram.mem)

/-! ## On-chip memory and the Trunk (R363 to R404) -/

/-- R371 to R373: a preserving MARCH begins with the copy of its first bank; a destructive one whose run finds nothing clears the memories it has tested,
but for the result windows, counts a run and is done after six elements. R369, R372: the hold before E3 of a Retention run ends and E5's follows; at
the boundary after a bank's copy all accesses go to the loan bank, and after the copy back they return and the next bank's copy begins. -/
def Obligations.MemoryMarch : Prop := ∀ (s : State) (slot : Fin 16) (fails : List FailWord) (m : MarchWork),
  ((s.slot slot.val).st = .queued → (s.slot slot.val).kind = 4 → s.engineFree slot.val = true → s.mem.march = none → s.marchError (s.slot slot.val) = 0 → bitOf ((s.slot slot.val).arg 0) 0 = false → leads (.marchPreserving slot fails) s (fun t => (t.slot slot.val).st = .running ∧ t.mem.act = .preserving ∧
    t.mem.march.map (fun m => (m.slot, m.bank, m.lastBank, m.step, m.progress)) =
      some (slot.val, fld ((s.slot slot.val).arg 1) 5 0, fld ((s.slot slot.val).arg 1) 13 8, 0, 0) ∧ keeps [.jobs, .mem] s t)) ∧
  ((s.slot slot.val).st = .queued → (s.slot slot.val).kind = 4 → s.engineFree slot.val = true → s.mem.march = none → s.marchError (s.slot slot.val) = 0 → bitOf ((s.slot slot.val).arg 0) 0 = true → bitOf ((s.slot slot.val).arg 0) 1 = false → s.trk.lock = none → leads (.marchDestructive slot []) s (fun t =>
    (t.slot slot.val).fin = some 0 ∧ (t.slot slot.val).total = 6 ∧ t.mem.act = .idle ∧ t.mem.march = none ∧ counted CRD_RUNS 1 s t ∧ t.rd CRD_LAST_TICK = s.tickLo ∧
    (bitOf ((s.slot slot.val).arg 1) 0 = true → ∀ p ∈ (t.mem.pool : List (Nat × Byte)), 0xFFC000 ≤ p.1) ∧
    (bitOf ((s.slot slot.val).arg 1) 1 = true → ∀ k : Fin 64, (t.core k.val).p = [] ∧ (t.core k.val).x = [] ∧ (t.core k.val).y = []) ∧
    (bitOf ((s.slot slot.val).arg 1) 2 = true → t.canopy.gainLive = [] ∧ t.canopy.gainShadow = [] ∧ t.canopy.flags = []) ∧
    regsOnly [CRD_RUNS, CRD_LAST_TICK] s t ∧ keeps [.regs, .jobs, .mem, .cores, .canopy] s t)) ∧
  (s.mem.march = some m → m.holding = true → m.holdLeft ≤ 1 → m.element = 3 → leads .retentionHoldEnd s (fun t => t.mem = { s.mem with march := t.mem.march } ∧
    t.mem.march.map (·.element) = some 5 ∧ t.mem.march.map (·.holding) = some true ∧ t.mem.march.map (·.holdLeft) = some m.hold ∧ keeps [.jobs, .mem] s t)) ∧
  (s.mem.march = some m → m.holding = false ∨ 1 < m.holdLeft → exec .retentionHoldEnd s = .next s) ∧
  (s.mem.march = some m → s.mem.loanDone = false → s.mem.act = .preserving → m.step = 0 → m.retention = false → m.fails = [] → leads .loanBankSwitch s (fun t =>
    t.mem.loanUse = true ∧ t.mem.loanDone = true ∧ t.mem.loanBank = m.bank ∧ t.mem.march.map (·.step) = some 2 ∧ t.mem.pool = s.mem.pool ∧ keeps [.jobs, .mem] s t)) ∧
  (s.mem.march = some m → s.mem.loanDone = false → s.mem.act = .preserving → m.step = 2 → m.bank ≠ m.lastBank → leads .loanBankSwitch s (fun t =>
    t.mem.loanUse = false ∧ t.mem.loanDone = true ∧ t.mem.march.map (·.step) = some 0 ∧ t.mem.march.map (·.bank) = some (m.bank + 1) ∧ t.mem.march.map (·.progress) = some (m.progress + 1) ∧
    (t.slot m.slot).total = m.progress + 1 ∧ t.mem.pool = s.mem.pool ∧ keeps [.jobs, .mem] s t)) ∧
  (s.mem.loanDone = true → exec .loanBankSwitch s = .next s)

/-- R377: a write of MEM_REP_SET takes the lowest free spare of its bank; it is ignored with BAD_ARG where the row is mapped, with REP_FULL where no spare
is free, with LOCK_VIOL and EV7 after MEM_LOCK. At the next boundary the row switches: the entry is ACTIVE, and EV89. -/
def Obligations.RepairMap : Prop := ∀ (s : State) (k : Nat) (v : W32) (bank : Fin 64) (e : Fin 8) (r : RepEntry), s.hostUp = true →
  (s.locked .mem = false → s.rowNamed (fld v 21 16) (fld v 9 0) = false → s.freeSpare (fld v 21 16) = some e.val → leads (.memRepSet v) s (fun t =>
    spGet none t.mem.rep (fld v 21 16 * 8 + e.val) = some { row := fld v 9 0, host := true, active := false } ∧
    (k ≠ fld v 21 16 * 8 + e.val → spGet none t.mem.rep k = spGet none s.mem.rep k) ∧ t.mem.pool = s.mem.pool ∧ keeps [.mem] s t)) ∧
  (s.locked .mem = false → s.rowNamed (fld v 21 16) (fld v 9 0) = true → leads (.memRepSet v) s (fun t => t.bit MEM_STAT 2 = true ∧ regsOnly [MEM_STAT] s t ∧ keeps [.regs] s t)) ∧
  (s.locked .mem = false → s.rowNamed (fld v 21 16) (fld v 9 0) = false → s.freeSpare (fld v 21 16) = none → leads (.memRepSet v) s (fun t =>
    t.bit MEM_STAT 3 = true ∧ regsOnly [MEM_STAT] s t ∧ keeps [.regs] s t)) ∧
  (s.locked .mem = true → leads (.memRepSet v) s (fun t => t.bit MEM_STAT 30 = true ∧ raised 7 s t ∧ evtOnly s t ∧ regsKeep [MEM_STAT] s t)) ∧
  (spGet none s.mem.rep (bank.val * 8 + e.val) = some r → r.active = false → leads (.repairRowSwitch bank e) s (fun t =>
    spGet none t.mem.rep (bank.val * 8 + e.val) = some { r with active := true } ∧ raised 89 s t ∧ t.mem.pool = s.mem.pool ∧ regsKeep [] s t ∧
    keeps [.regs, .out, .mon, .sys, .mem] s t))

/-- R392: only STW requests a lock; in NORMAL it is refused and recorded, in the other modes a free target grants it; the fabric releases one held too
long, FORCED, with EV92. R395, R396: a transaction without a response is recorded, counted and raises EV94, an isolator's acting likewise EV93,
dropping the pieces not granted. R388: waiting pieces age. -/
def Obligations.TrunkContainment : Prop := ∀ (s : State) (master : Fin 12) (target : Fin 7) (addr n : Nat) (w : Nat × Nat),
  (s.trkMode ≠ 1 → s.trk.lock = none → exec (.lockedSequenceRequest 1 target addr) s =
    .next { s with trk := { s.trk with lock := some (1, target.val), lockAddr := addr } }) ∧
  (s.trkMode = 1 → leads (.lockedSequenceRequest 1 target addr) s (fun t => t.rd TRK_LOCKOUT_LAST = w32 (2 ^ 28 + target.val * 2 ^ 25 + addr / 64 % 2 ^ 24) ∧
    counted TRK_LOCKOUT_COUNT 1 s t ∧ t.bit TRK_STAT 0 = true ∧ raised 92 s t ∧ evtOnly s t ∧ regsKeep [TRK_LOCKOUT_LAST, TRK_LOCKOUT_COUNT, TRK_STAT] s t)) ∧
  (s.trk.lock = some w → s.trk.waiting = [] → leads .lockReleaseTimeout s (fun t => t.trk = { s.trk with lock := none } ∧
    t.rd TRK_LOCKOUT_LAST = w32 (w.1 % 16 * 2 ^ 28 + w.2 % 8 * 2 ^ 25 + 2 ^ 24 + s.trk.lockAddr / 64 % 2 ^ 24) ∧ counted TRK_LOCKOUT_COUNT 1 s t ∧
    t.bit TRK_STAT 0 = true ∧ raised 92 s t ∧ regsKeep [TRK_LOCKOUT_LAST, TRK_LOCKOUT_COUNT, TRK_STAT] s t ∧ keeps [.regs, .out, .mon, .sys, .trk] s t)) ∧
  (leads (.trkTimeout master target addr) s (fun t => t.rd TRK_TIMEOUT_LAST = w32 (master.val * 2 ^ 28 + target.val * 2 ^ 25 + addr / 64 % 2 ^ 24) ∧
    counted TRK_TIMEOUT_COUNT 1 s t ∧ t.bit TRK_STAT 2 = true ∧ raised 94 s t ∧ evtOnly s t ∧ regsKeep [TRK_TIMEOUT_LAST, TRK_TIMEOUT_COUNT, TRK_STAT] s t)) ∧
  (0 < n → s.trk.lock = none → leads (.trkIsolate master n 0 target addr) s (fun t => t.trk = { s.trk with waiting := s.trk.waiting.filter (fun r => r.master != master.val) } ∧
    t.rd TRK_ISO_LAST = w32 (master.val * 2 ^ 28 + target.val * 2 ^ 25 + addr / 64 % 2 ^ 24) ∧ counted TRK_ISO_COUNT 1 s t ∧ t.bit TRK_STAT 1 = true ∧ raised 93 s t ∧
    regsKeep [TRK_ISO_LAST, TRK_ISO_COUNT, TRK_STAT] s t ∧ keeps [.regs, .out, .mon, .sys, .trk] s t)) ∧
  (exec (.qosAgeing n) s = .next { s with trk := { s.trk with waiting := s.trk.waiting.map (fun r => { r with waited := r.waited + n }) } })

/-! ## Twin pairs (R405 to R438) -/

/-- R406 to R408: the keys of TWN_PAIR, class 1, and only with STRAP_TWIN; unpairing clears the partner record, EV97; the pair forms where the key is
written, the link is up at 4 µs or less and the serial numbers match; the link comes up where the partner's number is TWN_PARTNER's, EV96, else
PARTNER_MISMATCH; a lost link, EV96. R410, R413 to R416: heartbeats, digests, the trailer at the cutoff and the items of a bundle; a trailer that
fails its CRC is counted in CRC_ERR. The length of the bundle that is sent is a free value (log entry 34). -/
def Obligations.TwinPairLinkAndBundles : Prop := ∀ (s : State) (v : W32) (serial : W64) (lanes latency tick frame bytes acc : Nat) (edge fault : Bool) (src : PortSrc) (xs : List Int) (closed : List Nat),
  (s.hostUp = true → s.class1 = true → s.strapTwin = true → v = 0x7A17 → exec (.twinPair v) s = .next { s with twn := { s.twn with keyHere := true }, out := s.out ++ [.twin 11 []] }) ∧
  (s.hostUp = true → s.class1 = true → s.strapTwin = true → v = 0x7A00 → s.twn.paired = true → leads (.twinUnpair v) s (fun t => t.twn = { s.twn with role := .alone, paired := false, keyHere := false, partner := none, roleTx := false, selOut := false, partnerStep := false } ∧ t.rd TWN_PARTNER_LO = 0 ∧ t.rd TWN_PARTNER_HI = 0 ∧
    t.bit TWN_STAT 1 = true ∧ raised 97 s t ∧ t.out.getLast? = some (.twin 12 []) ∧ regsKeep [TWN_PARTNER_LO, TWN_PARTNER_HI, TWN_STAT] s t ∧ keeps [.regs, .out, .mon, .sys, .twn] s t)) ∧
  (s.hostUp = true → s.class1 = true → s.strapTwin = true → v = 0x7A00 → s.twn.paired = false → leads (.twinUnpair v) s (fun t => t.twn = { s.twn with role := .alone, keyHere := false, partner := none, roleTx := false, selOut := false, partnerStep := false } ∧ t.rd TWN_PARTNER_LO = 0 ∧ t.rd TWN_PARTNER_HI = 0 ∧
    t.out = s.out ++ [.twin 12 []] ∧ regsOnly [TWN_PARTNER_LO, TWN_PARTNER_HI] s t ∧ keeps [.regs, .out, .twn] s t)) ∧
  (s.hostUp = true → s.class1 = true → s.strapTwin = false ∨ (v ≠ 0x7A17 ∧ v ≠ 0x7A00) → ∀ c ∈ [Instr.twinPair v, .twinUnpair v], exec c s = .next s) ∧
  (s.hostUp = true → s.class1 = false → ∀ c ∈ [Instr.twinPair v, .twinUnpair v], leads c s (fun t => t.twn = s.twn ∧ counted PRS_DENIED 1 s t ∧ t.bit PRS_STAT 2 = true ∧ (s.sys.onceTick.contains 19 = false → raised 19 s t) ∧ regsKeep [PRS_DENIED, PRS_STAT, PRS_DENIED_LAST] s t ∧ evtOnly s t)) ∧
  (s.strapTwin = true → s.twn.keyHere = true → s.twn.linkUp = true → s.twn.partner = some s.partnerReg → s.twn.latency ≤ 400 → s.twn.paired = false → leads .pairForm s (fun t => t.twn = { s.twn with paired := true, keyHere := false } ∧ t.bit TWN_STAT 1 = true ∧ raised 97 s t ∧
    regsKeep [TWN_STAT] s t ∧ keeps [.regs, .out, .mon, .sys, .twn] s t)) ∧
  (s.strapTwin = true → s.twn.linkUp = false → s.domFailed 8 = false → serial = s.partnerReg → leads (.twinLinkUp serial lanes latency) s (fun t => t.twn = { s.twn with linkUp := true, lanes := lanes % 16, latency := latency % 4096, partner := some serial } ∧ t.bit TWN_STAT 0 = true ∧ raised 96 s t ∧
    t.out.getLast? = some (.twin 1 [s.fit.serial.toNat]) ∧ regsKeep [TWN_STAT] s t ∧ keeps [.regs, .out, .mon, .sys, .twn] s t)) ∧
  (s.strapTwin = true → s.twn.linkUp = false → s.domFailed 8 = false → serial ≠ s.partnerReg → leads (.twinLinkUp serial lanes latency) s (fun t => t.twn = { s.twn with lanes := lanes % 16, latency := latency % 4096, partner := none } ∧ t.bit TWN_STAT 5 = true ∧ raised 96 s t ∧
    regsKeep [TWN_STAT] s t ∧ keeps [.regs, .out, .mon, .sys, .twn] s t)) ∧
  (s.twn.linkUp = true → s.twn.role ≠ .resyncing → s.twn.edges ≠ 1 → s.trk.waiting.filter (fun r => r.master == 9) = [] → leads .twinLinkLoss s (fun t => t.twn = { s.twn with linkUp := false, lanes := 0 } ∧ t.bit TWN_STAT 0 = true ∧ raised 96 s t ∧ regsKeep [TWN_STAT] s t ∧ keeps [.regs, .out, .mon, .sys, .twn] s t)) ∧
  (s.twn.linkUp = true → s.twn.role = .standby → s.twn.edges = 1 → s.trk.waiting.filter (fun r => r.master == 9) = [] → leads .twinLinkLoss s (fun t => t.twn = { s.twn with linkUp := false, lanes := 0, role := .outOfStep, oosCause := 4 } ∧ t.bit TWN_STAT 0 = true ∧ t.bit TWN_STAT 4 = true ∧ raised 96 s t ∧ raised 100 s t ∧ counted TWN_OOS_COUNT 1 s t ∧
    regsKeep [TWN_STAT, TWN_OOS_COUNT] s t ∧ keeps [.regs, .out, .mon, .sys, .twn] s t)) ∧
  (s.twn.linkUp = true → s.twn.role = .active → s.twn.partnerStep = true → s.twn.edges = 1 → s.trk.waiting.filter (fun r => r.master == 9) = [] → leads .twinLinkLoss s (fun t => t.twn = { s.twn with linkUp := false, lanes := 0, partnerStep := false } ∧ t.bit TWN_STAT 0 = true ∧ t.bit TWN_STAT 4 = true ∧ raised 96 s t ∧ raised 100 s t ∧
    regsKeep [TWN_STAT] s t ∧ keeps [.regs, .out, .mon, .sys, .twn] s t)) ∧
  (exec (.twinHeartbeat tick true) s = .next { s with twn := { s.twn with edges := s.twn.edges + 1 } }) ∧
  (s.twn.linkUp = true → exec (.twinHeartbeat tick false) s = .next (if tick = s.tickN then { s with twn := { s.twn with hbArrived := true } } else s)) ∧
  (s.twn.linkUp = true → leads (.digestMessage tick v fault) s (fun t => spFind t.twn.digestsP tick = some v ∧ t.twn = { s.twn with digestsP := t.twn.digestsP, faultP := s.twn.faultP || fault } ∧ sameBut [tick] 0 s.twn.digestsP t.twn.digestsP ∧ keeps [.twn] s t)) ∧
  (s.twn.role = .active → s.twn.linkUp = true → s.twn.cutoff = false → leads .bundleCutoff s (fun t => t.twn = { s.twn with cutoff := true } ∧ t.ledger = { s.ledger with sent := some (s.accReady true) } ∧ t.out = s.out ++ [.twin 7 [s.tickN, (t.rd TWN_BUNDLE_BYTES).toNat, s.accReady true]] ∧
    (s.rd TWN_BUNDLE_MAX).toNat ≤ (t.rd TWN_BUNDLE_MAX).toNat ∧ (t.rd TWN_BUNDLE_BYTES).toNat ≤ (t.rd TWN_BUNDLE_MAX).toNat ∧ t.free = s.free + 1 ∧ regsOnly [TWN_BUNDLE_BYTES, TWN_BUNDLE_MAX] s t ∧ keeps [.regs, .out, .free, .ledger, .twn] s t)) ∧
  (s.twn.linkUp = true → s.twn.role = .standby → bytes < 2 ^ 32 → leads (.bundleTrailer frame bytes acc true) s (fun t => t.twn.bundle frame = { s.twn.bundle frame with whole := true, acc := acc } ∧ (frame ≠ tick → t.twn.bundle tick = s.twn.bundle tick) ∧ t.twn = { s.twn with bundles := t.twn.bundles } ∧
    (t.rd TWN_BUNDLE_BYTES).toNat = bytes ∧ (t.rd TWN_BUNDLE_MAX).toNat = max bytes (s.rd TWN_BUNDLE_MAX).toNat ∧ regsOnly [TWN_BUNDLE_BYTES, TWN_BUNDLE_MAX] s t ∧ keeps [.regs, .twn] s t)) ∧
  (s.twn.linkUp = true → s.twn.role = .standby → exec (.bundleTrailer frame bytes acc false) s = .next { s with twn := { s.twn with crcErr := min (s.twn.crcErr + 1) 65535 } }) ∧
  (s.twn.linkUp = true → s.twn.role ≠ .active → leads (.bundleItem frame (.block src xs)) s (fun t => t.twn.bundle frame = { s.twn.bundle frame with blocks := (src, xs) :: (s.twn.bundle frame).blocks } ∧ (frame ≠ tick → t.twn.bundle tick = s.twn.bundle tick) ∧ t.twn = { s.twn with bundles := t.twn.bundles } ∧ keeps [.twn] s t)) ∧
  (s.twn.linkUp = true → leads (.bundleItem frame (.contacts closed)) s (fun t => t.twn.bundle frame = { s.twn.bundle frame with contacts := closed } ∧ (frame ≠ tick → t.twn.bundle tick = s.twn.bundle tick) ∧ t.twn = { s.twn with bundles := t.twn.bundles } ∧ keeps [.twn] s t)) ∧
  (s.twn.linkUp = true → s.twn.role = .active → leads (.bundleItem frame (.ports src xs true)) s (fun t => t.twn.bundle frame = { s.twn.bundle frame with blocks := (src, xs) :: (s.twn.bundle frame).blocks } ∧ (frame ≠ tick → t.twn.bundle tick = s.twn.bundle tick) ∧ t.twn = { s.twn with bundles := t.twn.bundles } ∧ keeps [.twn] s t)) ∧
  (s.twn.linkUp = true → s.twn.role = .active → s.twn.partnerStep = true → leads (.bundleItem frame .outOfStep) s (fun t => t.twn = { s.twn with partnerStep := false } ∧ t.bit TWN_STAT 4 = true ∧ raised 100 s t ∧ regsKeep [TWN_STAT] s t ∧ keeps [.regs, .out, .mon, .sys, .twn] s t)) ∧
  (s.twn.linkUp = false → ∀ c ∈ [Instr.digestMessage tick v fault, .bundleItem frame (.block src xs), .bundleTrailer frame bytes acc edge, .twinLinkLoss], exec c s = .next s)

/-- R418 to R423: the standby takes the role where its trigger of R420 holds, EV98; the rise of TWIN_ROLE_RX drops SEL_OUT of a module that is not active,
and on an active one raises EV103, of which the later active yields, out of step with cause 5; a ROLE_SWAP in step exchanges the roles, EV99, and out
of step records REFUSED. Which of two actives yields is a free bit (log entry 35). R424, R425: RESYNC begins, or fails by name; the delta copies the
active's state; the fifth digest makes the STANDBY, EV101, with the words of the result window. -/
def Obligations.TwinRolesAndResync : Prop := ∀ (s : State) (cause : Fin 4) (k : Fin 16) (e : LedgerEntry) (i : Image) (copy : StateCopy) (off : Nat),
  (s.twn.role = .standby → (cause.val = 0 ∧ 1 ≤ s.twn.misses ∧ s.twn.hbArrived = false ∧ s.twn.edges ≠ 1) ∨ (cause.val = 1 ∧ s.twn.faultClosed = true) → leads (.takeover cause) s (fun t => t.twn = { s.twn with role := .active, roleTx := true, selOut := true, activeSince := s.tickN, misses := 0, orphans := [], faultP := false, faultClosed := false, partnerStep := false } ∧ counted TWN_TAKEOVERS 1 s t ∧ t.rd TWN_LAST_TAKE = w32 (cause.val * 2 ^ 28 + s.tickN % 2 ^ 28) ∧ t.bit TWN_STAT 3 = true ∧ raised 98 s t ∧ (s.sys.mediaRun = false → t.clk = s.clk) ∧
    (s.sys.mediaRun = true → t.clk.pll = .switching ∧ t.clk.target = s.bestRef.getD 6 ∧ t.clk.selected = 7) ∧ regsKeep [TWN_TAKEOVERS, TWN_LAST_TAKE, TWN_STAT, CLK_SWITCHES, CLK_STAT] s t ∧ keeps [.regs, .out, .mon, .sys, .clk, .ports, .twn] s t)) ∧
  (s.twn.role ≠ .standby ∨ 2 ≤ cause.val → exec (.takeover cause) s = .next s) ∧
  (s.twn.roleRx = false → s.twn.role ≠ .active → exec (.roleRxChange true) s = .next { s with twn := { s.twn with roleRx := true, selOut := false } }) ∧
  (exec (.roleRxChange false) s = .next { s with twn := { s.twn with roleRx := false } }) ∧
  (s.twn.roleRx = false → s.twn.role = .active → s.bit TWN_CFG 0 = false → leads (.roleRxChange true) s (fun t => t.bit TWN_STAT 7 = true ∧ raised 103 s t ∧ t.twn.roleRx = true ∧ t.free = s.free + 1 ∧ ((t.twn = { s.twn with roleRx := true } ∧ t.rd TWN_LAST_TAKE = w32 (3 * 2 ^ 28 + s.tickN % 2 ^ 28)) ∨
    (t.twn = { s.twn with roleRx := true, role := .outOfStep, oosCause := 5, roleTx := false, selOut := false } ∧ counted TWN_OOS_COUNT 1 s t ∧ t.bit TWN_STAT 4 = true ∧ raised 100 s t)) ∧ regsKeep [TWN_STAT, TWN_LAST_TAKE, TWN_OOS_COUNT] s t ∧ keeps [.regs, .out, .free, .mon, .sys, .twn] s t)) ∧
  (s.twn.linkUp = true → s.twn.role = .active → s.bit TWN_CFG 0 = false → leads (.bundleTrailer off 0 0 true) s (fun t => t.bit TWN_STAT 7 = true ∧ raised 103 s t ∧ t.free = s.free + 1 ∧ ((t.twn = s.twn ∧ t.rd TWN_LAST_TAKE = w32 (3 * 2 ^ 28 + s.tickN % 2 ^ 28)) ∨
    (t.twn = { s.twn with role := .outOfStep, oosCause := 5, roleTx := false, selOut := false } ∧ counted TWN_OOS_COUNT 1 s t ∧ t.bit TWN_STAT 4 = true ∧ raised 100 s t)) ∧ regsKeep [TWN_STAT, TWN_LAST_TAKE, TWN_OOS_COUNT] s t ∧ keeps [.regs, .out, .free, .mon, .sys, .twn] s t)) ∧
  (firstDue s.ledger.entries (s.tickN + 1) = some e → s.sys.mediaRun = true → s.sys.phase = .running → s.dram.frozen = false → e.op = 4 → s.tickN + 1 ≤ e.tick → s.twn.paired = true → s.twn.role = .active → s.twn.partnerStep = true → leads (.roleSwap e.seq) s (fun t => t.twn = { s.twn with role := .standby, roleTx := false, misses := 0, orphans := [], bundles := [], faultP := false, faultClosed := false } ∧ t.clk.pll = .locked ∧ t.clk.selected = 7 ∧ raised 99 s t ∧ t.ledger.exe = max s.ledger.exe e.seq ∧ t.dramPeek (entryAddr e.seq) 32 = entryWords e 3 1 ∧ regsKeep [] s t ∧ keeps [.regs, .out, .mon, .sys, .ledger, .clk, .dram, .twn] s t)) ∧
  (firstDue s.ledger.entries (s.tickN + 1) = some e → s.sys.mediaRun = true → s.sys.phase = .running → s.dram.frozen = false → e.op = 4 → s.tickN + 1 ≤ e.tick → s.twn.paired = true → s.twn.role = .standby → leads (.roleSwap e.seq) s (fun t => t.twn = { s.twn with role := .active, roleTx := true, selOut := true, activeSince := s.tickN, misses := 0, orphans := [], faultP := false, faultClosed := false, partnerStep := true } ∧ counted TWN_TAKEOVERS 1 s t ∧ t.rd TWN_LAST_TAKE = w32 (2 * 2 ^ 28 + s.tickN % 2 ^ 28) ∧ t.clk.pll = .switching ∧ t.clk.target = s.bestRef.getD 6 ∧ raised 98 s t ∧ raised 99 s t ∧ t.ledger.exe = max s.ledger.exe e.seq ∧
    t.dramPeek (entryAddr e.seq) 32 = entryWords e 3 1 ∧ regsKeep [TWN_TAKEOVERS, TWN_LAST_TAKE, TWN_STAT, CLK_SWITCHES, CLK_STAT] s t ∧ keeps [.regs, .out, .mon, .sys, .ledger, .clk, .ports, .dram, .twn] s t)) ∧
  (firstDue s.ledger.entries (s.tickN + 1) = some e → s.sys.mediaRun = true → s.sys.phase = .running → s.dram.frozen = false → e.op = 4 → s.tickN + 1 ≤ e.tick → s.twn.paired = false → leads (.roleSwap e.seq) s (fun t => t.twn = s.twn ∧ raised 99 s t ∧ t.ledger.exe = max s.ledger.exe e.seq ∧
    t.dramPeek (entryAddr e.seq) 32 = entryWords e 3 5 ∧ regsKeep [] s t ∧ keeps [.regs, .out, .mon, .sys, .ledger, .dram] s t)) ∧
  ((s.slot k.val).st = .queued → (s.slot k.val).kind = 6 → s.engineFree k.val = true → s.twn.resyncSlot = none → (s.slot k.val).args = [0, 0, 0, 0] → s.twn.role = .outOfStep ∨ s.twn.role = .joining → s.img.running = some i → s.img.ssig1 = [] → s.twn.linkUp = true → leads (.resync k) s (fun t => (t.slot k.val).st = .running ∧
    t.twn = { s.twn with role := .resyncing, phase := 2, outcome := 0, mib := 0, passes := 0, resyncStart := s.tickLo, resyncSlot := some k.val, matching := 0, bundles := [], orphans := [], digests := [], digestsP := [], faultP := false, faultClosed := false } ∧ raised 101 s t ∧ regsKeep [] s t ∧ keeps [.regs, .out, .mon, .sys, .jobs, .mem, .twn] s t)) ∧
  ((s.slot k.val).st = .queued → (s.slot k.val).kind = 6 → s.engineFree k.val = true → s.twn.resyncSlot = none → (s.slot k.val).args = [0, 0, 0, 0] → s.twn.role = .active ∨ s.twn.role = .standby ∨ s.twn.role = .alone → leads (.resync k) s (fun t => (t.slot k.val).st = .failed ∧ sameBut [k.val] idleSlot s.jobs t.jobs ∧ (t.slot k.val).error = 0x43 ∧ t.twn = s.twn ∧ keeps [.jobs, .mem] s t)) ∧
  ((s.slot k.val).st = .queued → (s.slot k.val).kind = 6 → s.engineFree k.val = true → s.twn.resyncSlot = none → (s.slot k.val).args = [0, 0, 0, 0] → s.twn.role = .outOfStep → s.img.running = none → leads (.resync k) s (fun t => (t.slot k.val).st = .failed ∧ sameBut [k.val] idleSlot s.jobs t.jobs ∧ (t.slot k.val).error = 0x40 ∧ t.twn = s.twn ∧ keeps [.jobs, .mem] s t)) ∧
  (s.bit TWN_CFG 0 = true → s.twn.linkUp = true → s.twn.paired = true → s.img.running = some i → s.twn.role = .outOfStep → leads .autoResyncStart s (fun t => t.twn = { s.twn with role := .resyncing, phase := 2, outcome := 0, mib := 0, passes := 0, resyncStart := s.tickLo, resyncSlot := none, matching := 0, bundles := [], orphans := [], digests := [], digestsP := [], faultP := false, faultClosed := false } ∧ raised 101 s t ∧ regsKeep [] s t ∧ keeps [.regs, .out, .mon, .sys, .twn] s t)) ∧
  (s.bit TWN_CFG 0 = false → exec .autoResyncStart s = .next s) ∧
  (s.twn.role = .resyncing → s.twn.linkUp = true → s.twn.phase < 5 → s.twn.resyncSlot = none → copy.dram = [(off, 9)] → copy.regs = [] → leads (.resyncDelta copy) s (fun t => t.twn = { s.twn with phase := 5, mib := s.twn.mib + copy.mib, passes := s.twn.passes + 1, matching := 0 } ∧ t.sys = { s.sys with tick := copy.tick } ∧
    t.cores = copy.cores.map (fun q => (q.1, { q.2 with dead := false })) ∧ (∀ j : Fin 64, t.bit (FUL_STAT j.val) 5 = false) ∧ t.canopy = copy.canopy ∧ t.graph = { copy.graph with dma := s.graph.dma } ∧ t.ports = copy.ports ∧ t.net = { s.net with streams := copy.streams } ∧ t.ledger = { adopted copy with sub := s.ledger.sub } ∧ spGet 0 t.dram.mem off = 9 ∧ sameBut [off] 0 s.dram.mem t.dram.mem ∧
    regsOnly ((upFrom 0 64).map FUL_STAT) s t ∧ keeps [.regs, .sys, .ledger, .graph, .canopy, .cores, .ports, .net, .dram, .mem, .twn] s t)) ∧
  (s.twn.role = .resyncing → s.twn.phase = 5 → s.img.phase = .idle → s.twn.resyncSlot = some k.val → leads .resyncStandbyReached s (fun t => t.twn = { s.twn with role := .standby, phase := 0, outcome := 1, resyncSlot := none, oosCause := 0, misses := 0, orphans := [] } ∧ (t.slot k.val).fin = some 0 ∧ raised 101 s t ∧
    t.poolW (resultOff k.val 0) = 4 ∧ t.poolW (resultOff k.val 1) = w32 s.twn.mib ∧ t.poolW (resultOff k.val 2) = w32 s.twn.passes ∧ t.poolW (resultOff k.val 3) = s.twn.resyncStart ∧ t.poolW (resultOff k.val 4) = s.tickLo ∧ regsKeep [] s t ∧ keeps [.regs, .out, .mon, .sys, .jobs, .mem, .twn] s t)) ∧
  (s.twn.role = .active → s.twn.paired = true → s.twn.linkUp = true → s.img.phase = .idle → leads .resyncStandbyReached s (fun t => t.twn = { s.twn with partnerStep := true } ∧ raised 101 s t ∧ regsKeep [] s t ∧ keeps [.regs, .out, .mon, .sys, .twn] s t))

/-! ## Heartwood (R439 to R475) -/

/-- R439 to R442, R458 to R463, R467: Heartwood powers up in FALLBACK with the saved configuration, or with its reset values, RS_BAD and EV118; the
clock's loss and return, EV117; the bridge carries the blocks, zero under a fault, and loses and finds its status word, EV119; heartbeats are good or
restart the count; the third missed tick takes the channels, the 300th good one returns them, and FORCE is class 1; a message plays again with REPEAT,
else once per closure. -/
def Obligations.HeartwoodBridgeAndFallback : Prop := ∀ (s : State) (n m0 : Nat) (m : Fin 4) (xs : List Int) (o : HwdObs) (v : W32) (p : MsgPlay), s.hwHere = true →
  (s.sys.phase ≠ .nap → leads .heartwoodPowerUp s (fun t => t.hwd.powered = true ∧ t.hwd.mode = .fallback ∧ t.hwd.age = 0 ∧ t.hwd.hbCount = 0 ∧ t.hwd.play = none ∧ t.hwd.mics = [] ∧ t.hwd.cins = [] ∧ t.hwd.chs = [] ∧ t.hwd.mram = s.hwd.mram ∧ t.hwd.cfgOk = s.hwd.cfgGood ∧ t.rd HWD_TAKES = 1 ∧ t.rd HWD_LAST_TAKE = 0 ∧
    t.bit HWD_STAT 0 = true ∧ 108 ∈ t.hwd.causes ∧ (s.hwd.cfgGood = true → t.rd HWD_FB_CFG = w32 (s.hwd.word 0x1004) &&& 0xFF3F0F ∧ t.rd HWD_Z_SHORT = w32 (s.hwd.word 0x1050)) ∧ (s.hwd.cfgGood = false → t.rd HWD_FB_CFG = 0x00FF0603 ∧ t.rd HWD_Z_SHORT = 0x4E200064 ∧ t.bit HWD_STAT 7 = true ∧ 118 ∈ t.hwd.causes) ∧
    t.rd HWD_FB_CTL = 0 ∧ regsOutside 0xB0000 0xB3000 s t ∧ keeps [.regs, .hwd] s t)) ∧
  (s.hwd.clockInt = false → leads .hwClockLoss s (fun t => t.hwd = { s.hwd with clockInt := true, causes := t.hwd.causes } ∧ 117 ∈ t.hwd.causes ∧ t.bit HWD_STAT 10 = true ∧ regsOnly [HWD_STAT] s t ∧ keeps [.regs, .hwd] s t)) ∧
  (s.hwd.clockInt = true → leads .hwClockReturn s (fun t => t.hwd = { s.hwd with clockInt := false, causes := t.hwd.causes } ∧ 117 ∈ t.hwd.causes ∧ t.bit HWD_STAT 10 = true ∧ regsOnly [HWD_STAT] s t ∧ keeps [.regs, .hwd] s t)) ∧
  (s.twn.cutoff = false → leads (.bridgeFrame [(m.val, xs)] true) s (fun t => spGet [] t.hwd.micBlk m.val = (if (s.micIn m.val).jack = true ∧ (s.micIn m.val).ty ≠ 0 ∧ (s.micIn m.val).ty ≠ 7 ∧ (s.micIn m.val).fault = false then xs else xs.map (fun _ => 0)) ∧ sameBut [m.val] [] s.hwd.micBlk t.hwd.micBlk ∧
    t.hwd = { s.hwd with micBlk := t.hwd.micBlk, status := true, sentC := s.cinClosed, sentP := s.pttPressed } ∧ (s.rd (HWD_MIC_PEAK m.val)).toNat ≤ (t.rd (HWD_MIC_PEAK m.val)).toNat ∧ regsOnly [HWD_MIC_PEAK m.val] s t ∧ keeps [.regs, .hwd] s t)) ∧
  (s.twn.cutoff = true → exec (.bridgeFrame [] true) s = .next { s with hwd := { s.hwd with afterCut := some (s.cinClosed, s.pttPressed) } }) ∧
  (s.hwd.lost = false → s.hwd.status = false → 2 ≤ s.hwd.noStatus → leads .hwBridge s (fun t => t.hwd = { s.hwd with lost := true } ∧ t.graph = { s.graph with contacts := [], ptts := [] } ∧ t.bit HWD_STAT 11 = true ∧ raised 119 s t ∧ regsKeep [HWD_STAT] s t ∧ keeps [.regs, .out, .mon, .sys, .graph, .hwd] s t)) ∧
  (s.sys.phase = .running → s.sys.mediaRun = true → s.sys.faulty = false → s.hwd.arrived = 0 → s.hwd.missed ≠ 0 ∨ n = s.hwd.hbLast + 1 → exec (.engineHeartbeat n) s = .next { s with hwd := { s.hwd with arrived := 1, hbGood := true, hbLast := n, hbCount := min 300 (s.hwd.hbCount + 1) } }) ∧
  (s.sys.phase = .running → s.sys.mediaRun = true → s.sys.faulty = false → s.hwd.arrived ≠ 0 ∨ (s.hwd.missed = 0 ∧ n ≠ s.hwd.hbLast + 1) → exec (.engineHeartbeat n) s = .next { s with hwd := { s.hwd with arrived := s.hwd.arrived + 1, hbGood := false, hbCount := 0 } }) ∧
  (s.sys.phase ≠ .running ∨ s.sys.mediaRun = false ∨ s.sys.faulty = true → exec (.engineHeartbeat n) s = .next s) ∧
  (s.hwd.mode = .engine → 2 ≤ s.hwd.missed → s.hwd.hbGood = false → s.hwd.sweep = none → leads .hwFallback s (fun t => t.hwd = { s.hwd with mode := .fallback, play := none, chimeReq := false, causes := t.hwd.causes } ∧ 108 ∈ t.hwd.causes ∧ counted HWD_TAKES 1 s t ∧ t.rd HWD_LAST_TAKE = w32 (s.hwd.num + 1) ∧ t.bit HWD_STAT 0 = true ∧
    regsOnly [HWD_TAKES, HWD_LAST_TAKE, HWD_STAT] s t ∧ keeps [.regs, .hwd] s t)) ∧
  (s.hwd.mode = .engine → s.hwd.missed = 2 → s.hwd.hbGood = false → s.hwd.sweep = none → 1200 ≤ s.hwd.age → s.hwd.checkLeft = 0 → o.iUa = [] → o.ohms = [] → o.limits = [] → (∀ k ∈ [0, 1], (s.powCh k).shorted = none ∧ (s.powCh k).back = false) → leads (.heartwoodTick o) s (fun t => t.hwd.mode = .fallback ∧ t.hwd.num = s.hwd.num + 1 ∧ t.hwd.missed = 3 ∧ t.hwd.hbCount = 0 ∧ 108 ∈ t.hwd.causes ∧
    counted HWD_TAKES 1 s t ∧ t.rd HWD_LAST_TAKE = w32 (s.hwd.num + 1) ∧ t.rd HWD_VBAT = w32 (min 0xFFFF o.vrail * 2 ^ 16 + min 0xFFFF o.vbat) ∧ t.bit HWD_STAT 0 = true ∧ t.hwd.mram = s.hwd.mram ∧ (∀ j ∈ [0, 1, 2, 3], t.micIn j = if (s.micIn j).ty = 7 then { s.micIn j with meas := min 150 ((s.micIn j).meas + 1) } else s.micIn j) ∧ t.hwd.cins = s.hwd.cins ∧ ((s.powCh 0).st = .play → (s.powCh 0).fadeIn = false → (s.powCh 0).heard = .engine xs → s.bit HWD_FB_CFG 0 = true → .speaker 0 { fade := some (.hold (s.powCh 0).last), src := .mix t.micHeard (t.hwd.play.map (fun q => (q.idx, q.pos))) (t.hwd.play.any (·.fading)) (s.rdF HWD_FB_CFG 13 8), att := s.rdF (HWD_CH_CFG 0) 13 8 + (if s.hwd.att then 6 else 0), pilot := s.bit (HWD_CH_CFG 0) 16 } ∈ t.out) ∧
    regsOnly [HWD_VBAT, HWD_TAKES, HWD_LAST_TAKE, HWD_STAT] s t ∧ keeps [.regs, .out, .hwd] s t)) ∧
  (s.hwd.mode = .engine → s.hwd.hbGood = true → s.forced = false → s.hwd.sweep = none → 1200 ≤ s.hwd.age → s.hwd.checkLeft = 0 → o.iUa = [] → o.ohms = [] → o.limits = [] → (∀ k ∈ [0, 1], (s.powCh k).shorted = none ∧ (s.powCh k).back = false) → leads (.heartwoodTick o) s (fun t => t.hwd.mode = .engine ∧ t.hwd.num = s.hwd.hbLast + 1 ∧ t.hwd.missed = 0 ∧ t.hwd.arrived = 0 ∧ t.hwd.hbGood = false ∧
    t.hwd.hbCount = s.hwd.hbCount ∧ t.rd HWD_VBAT = w32 (min 0xFFFF o.vrail * 2 ^ 16 + min 0xFFFF o.vbat) ∧ t.hwd.play = s.hwd.play ∧ t.hwd.mram = s.hwd.mram ∧ (∀ j ∈ [0, 1, 2, 3], t.micIn j = if (s.micIn j).ty = 7 then { s.micIn j with meas := min 150 ((s.micIn j).meas + 1) } else s.micIn j) ∧ t.hwd.cins = s.hwd.cins ∧ (∀ k ∈ [0, 1], ∀ q ∈ [(s.powCh k).samples], (s.powCh k).st = .play → (s.powCh k).heard = .silent → q = some xs → .speaker k { fade := if (s.powCh k).fadeIn then some .silent else none, src := .engine xs, att := s.rdF (HWD_CH_CFG k) 13 8 + (if s.hwd.att then 6 else 0), pilot := s.bit (HWD_CH_CFG k) 16 } ∈ t.out) ∧
    regsOnly [HWD_VBAT] s t ∧ keeps [.regs, .out, .hwd] s t)) ∧
  (s.hwd.mode = .fallback → s.forced = false → 300 ≤ s.hwd.hbCount → s.hwd.forcePrev = true ∨ s.bit HWD_FB_CFG 3 = false ∨ s.hwSource = 0 → s.hwd.hbGood = true → leads .hwReturn s (fun t => t.hwd = { s.hwd with mode := .returning, play := none, chimeReq := false, causes := t.hwd.causes } ∧ 109 ∈ t.hwd.causes ∧ t.bit HWD_STAT 1 = true ∧ regsOnly [HWD_STAT] s t ∧
    keeps [.regs, .hwd] s t)) ∧
  (s.hwd.mode = .fallback → s.forced = true ∨ s.hwd.hbCount < 300 ∨ (s.hwd.forcePrev = false ∧ s.bit HWD_FB_CFG 3 = true ∧ s.hwSource ≠ 0) → exec .hwReturn s = .next s) ∧
  (s.hostUp = true → s.class1 = true → s.hwd.lost = false → leads (.fallbackForceSet v) s (fun t => t.rd HWD_FB_CTL = 1 ∧ regsOnly [HWD_FB_CTL] s t ∧ keeps [.regs] s t) ∧ leads (.fallbackForceClear v) s (fun t => t.rd HWD_FB_CTL = 0 ∧ regsOnly [HWD_FB_CTL] s t ∧ keeps [.regs] s t)) ∧
  (s.hostUp = true → s.class1 = false → ∀ c ∈ [Instr.fallbackForceSet v, .fallbackForceClear v, .reserveStoreWrite v, .hwdRsSave v], leads c s (fun t => t.hwd = s.hwd ∧ counted PRS_DENIED 1 s t ∧ t.bit PRS_STAT 2 = true ∧ (s.sys.onceTick.contains 19 = false → raised 19 s t) ∧ regsKeep [PRS_DENIED, PRS_STAT, PRS_DENIED_LAST] s t ∧ evtOnly s t)) ∧
  (s.hwd.play = some p → p.fading = false → p.fresh = false → p.chime = false → s.hwd.msgLen p.idx ≤ p.pos + 16 → s.hwPressed = false → s.hwd.chimeReq = false → s.wanted = some p.trig → s.trigMsg p.trig = m0 → s.trigRepeat p.trig = true → s.hwd.good.contains m0 = true → leads .reserveMessageEnd s (fun t =>
    t.hwd = { s.hwd with play := some { idx := m0, chime := false, trig := p.trig, pos := 0, fading := false, fresh := true } } ∧ keeps [.hwd] s t)) ∧
  (s.hwd.play = some p → p.fading = false → p.fresh = false → p.chime = false → s.hwd.msgLen p.idx ≤ p.pos + 16 → s.hwPressed = false → s.hwd.chimeReq = false → s.wanted = some p.trig → s.trigRepeat p.trig = false → leads .reserveMessageEnd s (fun t => t.hwd.play = none ∧ p.trig ∈ t.hwd.once ∧ t.hwd = { s.hwd with play := none, once := t.hwd.once } ∧ keeps [.hwd] s t))

/-- R444 to R448: an insertion measures with the bias on; the type follows the table, or TYPE_FORCE, and sets the bias, EV112; a removal ends the input,
EV112; an ELECTRET or SUPERVISED input whose condition fails for HWD_KEY_DEB ticks takes LINE_FAULT, EV113, and clears it after as many; the key bands
of a supervised station, EV114, a chime asked for in FALLBACK; a contact's band held for HWD_CIN_DEB ticks, EV115, and EV116 for a line fault. -/
def Obligations.HeartwoodInputs : Prop := ∀ (s : State) (m : Fin 4) (c : Fin 8) (x : MicIn) (y : CinLine) (i rd ohms ty : Nat), s.hwHere = true → s.micIn m.val = x → s.cin c.val = y →
  (120 ≤ s.hwd.age → x.jack = false → leads (.jackInsert m) s (fun t => t.micIn m.val = { noMic with jack := true, ty := 7, bias := true } ∧ t.hwd = { s.hwd with mics := t.hwd.mics } ∧ sameBut [m.val] noMic s.hwd.mics t.hwd.mics ∧ keeps [.hwd] s t)) ∧
  (x.jack = true ∨ s.hwd.age < 120 → exec (.jackInsert m) s = .next s) ∧
  (x.jack = true → x.ty = 7 → 150 ≤ x.meas → s.typeForce m.val = 0 → (i < 50 ∧ 50 ≤ rd ∧ rd ≤ 2000 ∧ ty = 1) ∨ (300 ≤ i ∧ i ≤ 3000 ∧ ty = 2) ∨ (i < 50 ∧ 20000 < rd ∧ ty = 3) ∨ (120 ≤ i ∧ i ≤ 260 ∧ ty = 4) ∨ (3000 < i ∧ ty = 6) ∨ (50 ≤ i ∧ i < 120 ∧ ty = 5) ∨ (260 < i ∧ i < 300 ∧ ty = 5) ∨ (i < 50 ∧ rd < 50 ∧ ty = 5) ∨ (i < 50 ∧ 2000 < rd ∧ rd ≤ 20000 ∧ ty = 5) →
    leads (.micTypeDetect m i rd) s (fun t => t.micIn m.val = { x with ty := ty, bias := ty == 2 || ty == 4, iUa := i } ∧ t.rd (HWD_MIC_RD m.val) = w32 (if rd ≤ 65534 then rd else 0xFFFF) ∧ 112 ∈ t.hwd.causes ∧ t.bit HWD_STAT 2 = true ∧ sameBut [m.val] noMic s.hwd.mics t.hwd.mics ∧
    t.hwd = { s.hwd with mics := t.hwd.mics, causes := t.hwd.causes } ∧ regsOnly [HWD_MIC_RD m.val, HWD_STAT] s t ∧ keeps [.regs, .hwd] s t)) ∧
  (x.jack = true → x.ty = 7 → 150 ≤ x.meas → s.rdF (HWD_MIC_CFG m.val) 10 8 = ty → 1 ≤ ty → ty ≤ 4 → leads (.micTypeDetect m i rd) s (fun t => t.micIn m.val = { x with ty := ty, bias := ty == 2 || ty == 4, iUa := i } ∧ 112 ∈ t.hwd.causes ∧ keeps [.regs, .hwd] s t)) ∧
  (x.jack = true → x.ty = 7 → x.meas < 150 → exec (.micTypeDetect m i rd) s = .next s) ∧
  (x.jack = true → leads (.jackRemove m) s (fun t => t.micIn m.val = noMic ∧ 112 ∈ t.hwd.causes ∧ t.bit HWD_STAT 2 = true ∧ sameBut [m.val] noMic s.hwd.mics t.hwd.mics ∧ t.hwd = { s.hwd with mics := t.hwd.mics, causes := t.hwd.causes } ∧ regsOnly [HWD_STAT] s t ∧ keeps [.regs, .hwd] s t)) ∧
  (120 ≤ s.hwd.age → x.jack = true → x.fault = false → s.rdF HWD_KEY_DEB 7 0 ≤ x.badCnt + 1 → (x.ty = 2 ∧ (i < 300 ∨ 3000 < i)) ∨ (x.ty = 4 ∧ (46800 * i < 5000000 ∨ 5000000 < 8800 * i)) → leads (.hwMicFault m i) s (fun t => t.micIn m.val = { x with fault := true, badCnt := 0 } ∧ 113 ∈ t.hwd.causes ∧ t.bit HWD_STAT 2 = true ∧
    sameBut [m.val] noMic s.hwd.mics t.hwd.mics ∧ t.hwd = { s.hwd with mics := t.hwd.mics, causes := t.hwd.causes } ∧ regsOnly [HWD_STAT] s t ∧ keeps [.regs, .hwd] s t)) ∧
  (120 ≤ s.hwd.age → x.jack = true → x.fault = true → s.rdF HWD_KEY_DEB 7 0 ≤ x.badCnt + 1 → (x.ty = 2 ∧ 300 ≤ i ∧ i ≤ 3000) ∨ (x.ty = 4 ∧ 5000000 ≤ 46800 * i ∧ 8800 * i ≤ 5000000) → leads (.hwMicFault m i) s (fun t => t.micIn m.val = { x with fault := false, badCnt := 0 } ∧ sameBut [m.val] noMic s.hwd.mics t.hwd.mics ∧ t.hwd = { s.hwd with mics := t.hwd.mics } ∧
    keeps [.hwd] s t)) ∧
  (120 ≤ s.hwd.age → x.jack = true → x.ty = 4 → x.ptt = false → s.hwd.status = false → s.hwd.afterCut = none →  x.cand = 2 → 14800 * i ≤ 5000000 → 5000000 ≤ 16800 * i → s.rdF HWD_KEY_DEB 7 0 ≤ x.cnt + 1 → leads (.hwKey m i) s (fun t => t.micIn m.val = { x with ptt := true, chime := false, cnt := min 255 (x.cnt + 1) } ∧ 114 ∈ t.hwd.causes ∧ t.bit HWD_STAT 3 = true ∧
    sameBut [m.val] noMic s.hwd.mics t.hwd.mics ∧ t.hwd = { s.hwd with mics := t.hwd.mics, causes := t.hwd.causes } ∧ regsOnly [HWD_STAT] s t ∧ keeps [.regs, .hwd] s t)) ∧
  (120 ≤ s.hwd.age → x.jack = true → x.ty = 4 → x.chime = false → s.hwd.status = false → s.hwd.afterCut = none →  x.cand = 1 → 17800 * i ≤ 5000000 → 5000000 ≤ 23300 * i → s.rdF HWD_KEY_DEB 7 0 ≤ x.cnt + 1 → leads (.hwKey m i) s (fun t => t.micIn m.val = { x with ptt := false, chime := true, cnt := min 255 (x.cnt + 1) } ∧ 114 ∈ t.hwd.causes ∧
    t.hwd.chimeReq = (s.hwd.chimeReq || (decide (m.val = 0) && decide (s.hwd.mode = .fallback))) ∧ regsOnly [HWD_STAT] s t ∧ keeps [.regs, .hwd] s t)) ∧
  (120 ≤ s.hwd.age → s.hwd.status = false → s.hwd.afterCut = none → y.st ≠ 1 → y.cand = 1 → 150 ≤ ohms → ohms < 2200 → s.rdF HWD_CIN_DEB 7 0 ≤ y.cnt + 1 → leads (.hwContact c ohms) s (fun t => t.cin c.val = { st := 1, cand := 1, cnt := 0, ohms := ohms } ∧ counted HWD_CIN_CHANGES 1 s t ∧ 115 ∈ t.hwd.causes ∧ t.bit HWD_STAT 4 = true ∧ sameBut [c.val] noCin s.hwd.cins t.hwd.cins ∧
    t.hwd = { s.hwd with cins := t.hwd.cins, causes := t.hwd.causes } ∧ regsOnly [HWD_CIN_CHANGES, HWD_STAT] s t ∧ keeps [.regs, .hwd] s t)) ∧
  (120 ≤ s.hwd.age → (12000 < ohms ∧ ty = 2) ∨ (ohms < 150 ∧ ty = 3) → y.st ≠ ty → y.cand = ty → s.rdF HWD_CIN_DEB 7 0 ≤ y.cnt + 1 → leads (.hwContact c ohms) s (fun t => t.cin c.val = { st := ty, cand := ty, cnt := 0, ohms := ohms } ∧ counted HWD_CIN_CHANGES 1 s t ∧ 115 ∈ t.hwd.causes ∧ 116 ∈ t.hwd.causes ∧ t.bit HWD_STAT 4 = true ∧
    sameBut [c.val] noCin s.hwd.cins t.hwd.cins ∧ regsOnly [HWD_CIN_CHANGES, HWD_STAT] s t ∧ keeps [.regs, .hwd] s t)) ∧
  (120 ≤ s.hwd.age → s.hwd.status = true → s.hwd.afterCut = none → y.st ≠ 1 → y.cand = 1 → 150 ≤ ohms → ohms < 2200 → s.rdF HWD_CIN_DEB 7 0 ≤ y.cnt + 1 → leads (.hwContact c ohms) s (fun t => t.hwd.sentC = t.cinClosed ∧ c.val ∈ t.hwd.sentC ∧ keeps [.regs, .hwd] s t))

/-- R453 to R457, R468: a short floats the channel, is counted, EV110; a pilot window that holds OK changes nothing, one that shows HIGH twice takes it,
EV111; probes run every 3,000 ticks, and the second that passes, or the first after EN was written 0 and 1, returns the channel; VBAT and temperature
float or attenuate both channels and return them, EV117; IMPEDANCE_SWEEP measures 28 points, or ends with 0x40. R465 to R467: the store's data port
reads and writes a word and steps its address; a check finds the good entries; the key saves the configuration. -/
def Obligations.HeartwoodChannelsAndStore : Prop := ∀ (s : State) (ch : Fin 2) (k : Fin 16) (y : PowCh) (w : SweepWork) (r x temp : Int) (mv pw a z : Nat) (v : W32), s.hwHere = true → s.powCh ch.val = y →
  (y.st = .play → leads (.hwShort ch r x) s (fun t => t.powCh ch.val = { y with st := .hizShort, shorted := some (r, x), cand := 0, cnt := 0, win := 0, since := 0, probing := false, passes := 0, single := false, enLow := false, fadeIn := false, back := false } ∧
    sameBut [ch.val] noCh s.hwd.chs t.hwd.chs ∧ t.hwd = { s.hwd with chs := t.hwd.chs } ∧ keeps [.hwd] s t)) ∧
  (y.shorted = some (r, x) → (∀ t ∈ [s.shortReport ch.val], t.powCh ch.val = { y with range := decide (r * r + x * x < 40000) || decide (10240000 < r * r + x * x), line := 4, shorted := none } ∧ t.rd (HWD_CH_Z ch.val) = zWord r x ∧ counted (HWD_CH_SHORTS ch.val) 1 s t ∧ t.bit HWD_STAT 5 = true ∧ 110 ∈ t.hwd.causes ∧
    sameBut [ch.val] noCh s.hwd.chs t.hwd.chs ∧ t.hwd = { s.hwd with chs := t.hwd.chs, causes := t.hwd.causes } ∧ regsOnly [HWD_CH_Z ch.val, HWD_CH_SHORTS ch.val, HWD_STAT] s t ∧ keeps [.regs, .hwd] s t)) ∧
  (y.st = .play → 300 ≤ y.win → y.line = 1 → ((s.zShort * s.zShort : Nat) : Int) ≤ r * r + x * x → r * r + x * x ≤ ((s.zOpen * s.zOpen : Nat) : Int) → a = s.rdF (HWD_CH_ZREF ch.val) 15 0 * (100 - s.rdF (HWD_CH_ZREF ch.val) 23 16) → z = s.rdF (HWD_CH_ZREF ch.val) 15 0 * (100 + s.rdF (HWD_CH_ZREF ch.val) 23 16) →
    ((a * a : Nat) : Int) ≤ 10000 * (r * r + x * x) → 10000 * (r * r + x * x) ≤ ((z * z : Nat) : Int) → leads (.pilotWindowEnd ch r x false pw) s (fun t => (t.powCh ch.val).st = .play ∧ (t.powCh ch.val).line = 1 ∧ (t.powCh ch.val).win = 0 ∧ t.rd (HWD_CH_Z ch.val) = zWord r x ∧ t.rd (HWD_CH_POWER ch.val) = w32 (min 0xFFFF pw) ∧
    sameBut [ch.val] noCh s.hwd.chs t.hwd.chs ∧ t.hwd = { s.hwd with chs := t.hwd.chs } ∧ regsOnly [HWD_CH_Z ch.val, HWD_CH_POWER ch.val] s t ∧ keeps [.regs, .hwd] s t)) ∧
  (y.st = .play → 300 ≤ y.win → y.line = 1 → y.cand = 3 → ((s.zShort * s.zShort : Nat) : Int) ≤ r * r + x * x → r * r + x * x ≤ ((s.zOpen * s.zOpen : Nat) : Int) → z = s.rdF (HWD_CH_ZREF ch.val) 15 0 * (100 + s.rdF (HWD_CH_ZREF ch.val) 23 16) → ((z * z : Nat) : Int) < 10000 * (r * r + x * x) →
    leads (.pilotWindowEnd ch r x false pw) s (fun t => (t.powCh ch.val).line = 3 ∧ (t.powCh ch.val).st = .play ∧ t.bit HWD_STAT 6 = true ∧ 111 ∈ t.hwd.causes ∧ regsOnly [HWD_CH_Z ch.val, HWD_CH_POWER ch.val, HWD_STAT] s t ∧ keeps [.regs, .hwd] s t)) ∧
  (y.st = .hizShort → s.bit (HWD_CH_CFG ch.val) 17 = true → y.probing = false → y.back = false → 3000 ≤ y.since → leads (.shortProbe ch) s (fun t => t.powCh ch.val = { y with probing := true, probeTicks := 0, since := 0 } ∧ sameBut [ch.val] noCh s.hwd.chs t.hwd.chs ∧ t.hwd = { s.hwd with chs := t.hwd.chs } ∧ keeps [.hwd] s t)) ∧
  (y.st = .hizShort → y.probing = true → 300 ≤ y.probeTicks → ((4 * s.zShort * s.zShort : Nat) : Int) ≤ r * r + x * x → y.single = true ∨ 1 ≤ y.passes → leads (.shortProbeEnd ch r x false) s (fun t => (t.powCh ch.val).st = .hizShort ∧ (t.powCh ch.val).back = true ∧ (t.powCh ch.val).probing = false ∧
    t.rd (HWD_CH_Z ch.val) = zWord r x ∧ sameBut [ch.val] noCh s.hwd.chs t.hwd.chs ∧ t.hwd = { s.hwd with chs := t.hwd.chs } ∧ regsOnly [HWD_CH_Z ch.val] s t ∧ keeps [.regs, .hwd] s t)) ∧
  (y.back = true → s.bit (HWD_CH_CFG ch.val) 0 = true → (∀ t ∈ [s.shortReturn ch.val], (t.powCh ch.val).st = .play ∧ (t.powCh ch.val).fadeIn = true ∧ (t.powCh ch.val).back = false ∧ t.bit HWD_STAT 5 = true ∧ 110 ∈ t.hwd.causes ∧ sameBut [ch.val] noCh s.hwd.chs t.hwd.chs ∧
    t.hwd = { s.hwd with chs := t.hwd.chs, causes := t.hwd.causes } ∧ regsOnly [HWD_STAT] s t ∧ keeps [.regs, .hwd] s t)) ∧
  (y.st = .hizShort → y.probing = true → leads (.shortProbeEnd ch r x true) s (fun t => (t.powCh ch.val).st = .hizShort ∧ (t.powCh ch.val).probing = false ∧ (t.powCh ch.val).passes = 0 ∧ (t.powCh ch.val).single = false ∧ regsOnly [HWD_CH_Z ch.val] s t ∧ keeps [.regs, .hwd] s t)) ∧
  (s.hostUp = true → s.hwd.lost = false → y.st = .hizShort → y.enLow = true → bitOf v 17 = false → leads (.channelReenable ch v) s (fun t => t.powCh ch.val = { y with enLow := false, probing := true, probeTicks := 0, since := 0, single := true } ∧ t.rd (HWD_CH_CFG ch.val) = (v ||| 1) &&& 0x33F01 ∧ sameBut [ch.val] noCh s.hwd.chs t.hwd.chs ∧ regsOnly [HWD_CH_CFG ch.val] s t ∧
    keeps [.regs, .hwd] s t)) ∧
  (mv < 17000 ∨ 33000 < mv → s.hwd.vbatBad = false → s.hwd.sweep = none → leads (.vbatFault mv) s (fun t => t.hwd.vbatBad = true ∧ (∀ j ∈ [0, 1], (t.powCh j).st = .hizFault) ∧ t.rdF HWD_VBAT 15 0 = min 0xFFFF mv ∧ t.rdF HWD_VBAT 31 16 = s.rdF HWD_VBAT 31 16 ∧ t.bit HWD_STAT 8 = true ∧ 117 ∈ t.hwd.causes ∧
    t.hwd = { s.hwd with vbatBad := true, chs := t.hwd.chs, causes := t.hwd.causes } ∧ regsOnly [HWD_VBAT, HWD_STAT] s t ∧ keeps [.regs, .hwd] s t)) ∧
  (18000 ≤ mv → mv ≤ 32000 → s.hwd.vbatBad = true → s.hwd.hot = false → y.st = .hizFault → s.bit (HWD_CH_CFG ch.val) 0 = true → leads (.vbatReturn mv) s (fun t => t.hwd.vbatBad = false ∧ (t.powCh ch.val).st = .play ∧ (t.powCh ch.val).fadeIn = true ∧ t.bit HWD_STAT 8 = true ∧ 117 ∈ t.hwd.causes ∧
    t.hwd = { s.hwd with vbatBad := false, chs := t.hwd.chs, causes := t.hwd.causes } ∧ regsOnly [HWD_VBAT, HWD_STAT] s t ∧ keeps [.regs, .hwd] s t)) ∧
  (150 < temp → temp ≤ 165 → s.hwd.att = false → s.hwd.hot = false → leads (.hwThermal temp) s (fun t => t.hwd = { s.hwd with att := true, causes := t.hwd.causes } ∧ 117 ∈ t.hwd.causes ∧ t.bit HWD_STAT 9 = true ∧ regsOnly [HWD_TEMP, HWD_STAT] s t ∧ keeps [.regs, .hwd] s t)) ∧
  (165 < temp → s.hwd.hot = false → s.hwd.sweep = none → leads (.hwThermal temp) s (fun t => t.hwd = { s.hwd with att := true, hot := true, chs := t.hwd.chs, causes := t.hwd.causes } ∧ (∀ j ∈ [0, 1], (t.powCh j).st = .hizFault) ∧ 117 ∈ t.hwd.causes ∧ t.bit HWD_STAT 9 = true ∧ regsOnly [HWD_TEMP, HWD_STAT] s t ∧ keeps [.regs, .hwd] s t)) ∧
  (temp < 140 → s.hwd.hot = true → s.hwd.vbatBad = false → y.st = .hizFault → s.bit (HWD_CH_CFG ch.val) 0 = true → leads (.hwThermal temp) s (fun t => t.hwd = { s.hwd with att := false, hot := false, chs := t.hwd.chs, causes := t.hwd.causes } ∧ (t.powCh ch.val).st = .play ∧ (t.powCh ch.val).fadeIn = true ∧ t.bit HWD_STAT 9 = true ∧
    regsOnly [HWD_TEMP, HWD_STAT] s t ∧ keeps [.regs, .hwd] s t)) ∧
  ((s.slot k.val).st = .queued → (s.slot k.val).kind = 8 → s.engineFree k.val = true → s.hwd.sweep = none → (s.slot k.val).args = [w32 (pw * 256 + ch.val), 0, 0, 0] → 20 ≤ pw → pw ≤ 60 → s.bit (HWD_CH_CFG ch.val) 0 = true → y.st = .play → leads (.impedanceSweep k) s (fun t => (t.slot k.val).st = .running ∧
    t.hwd.sweep = some { slot := k.val, ch := ch.val, points := [], ticks := 0, level := pw } ∧ t.powCh ch.val = { y with st := .sweep, win := 0 } ∧ sameBut [k.val] idleSlot s.jobs t.jobs ∧ sameBut [ch.val] noCh s.hwd.chs t.hwd.chs ∧ keeps [.jobs, .mem, .hwd] s t)) ∧
  ((s.slot k.val).st = .queued → (s.slot k.val).kind = 8 → s.engineFree k.val = true → s.hwd.sweep = none → (s.slot k.val).args = [w32 (pw * 256 + ch.val), 0, 0, 0] → 20 ≤ pw → pw ≤ 60 → s.bit (HWD_CH_CFG ch.val) 0 = false ∨ y.st ≠ .play → leads (.impedanceSweep k) s (fun t => (t.slot k.val).fin = some 0x40 ∧ t.hwd = s.hwd ∧
    sameBut [k.val] idleSlot s.jobs t.jobs ∧ keeps [.jobs, .mem] s t)) ∧
  (s.hwd.sweep = some w → 300 ≤ w.ticks → w.points.length < 27 → (s.slot w.slot).abortReq = false → leads (.sweepPointEnd r x) s (fun t => t.hwd = { s.hwd with sweep := some { w with points := w.points ++ [zWord r x], ticks := 0 } } ∧ (t.slot w.slot).total = w.points.length + 1 ∧ sameBut [w.slot] idleSlot s.jobs t.jobs ∧ keeps [.jobs, .hwd] s t)) ∧
  (s.hwd.sweep = some w → 300 ≤ w.ticks → w.points.length = 27 → (s.slot w.slot).abortReq = false → w.slot = k.val → w.ch = ch.val → y.st = .sweep → leads (.sweepPointEnd r x) s (fun t => t.hwd.sweep = none ∧ (t.slot k.val).fin = some 0 ∧ (t.slot k.val).total = 28 ∧ (t.powCh ch.val).st = .play ∧ (t.powCh ch.val).fadeIn = true ∧
    t.poolW (resultOff k.val 0) = 29 ∧ t.poolW (resultOff k.val 1) = 28 ∧ t.poolW (resultOff k.val 29) = zWord r x ∧ keeps [.jobs, .mem, .hwd] s t)) ∧
  (s.hostUp = true → s.hwd.lost = false → leads .reserveStoreRead s (fun t => t.out = s.out ++ [.readData (w32 (s.hwd.word s.rsAddr))] ∧ t.rd HWD_RS_ADDR = w32 ((s.rsAddr + 4) % 0x1000000) ∧ regsOnly [HWD_RS_ADDR] s t ∧ keeps [.regs, .out] s t)) ∧
  (s.hostUp = true → s.hwd.lost = false → s.class1 = true → s.hwd.play = none → leads (.reserveStoreWrite v) s (fun t => memRead t.hwd.mram s.rsAddr 4 = leBytes 4 v.toNat ∧ sameBut [s.rsAddr, s.rsAddr + 1, s.rsAddr + 2, s.rsAddr + 3] 0 s.hwd.mram t.hwd.mram ∧ t.hwd = { s.hwd with mram := t.hwd.mram, checkLeft := 4020 } ∧
    t.rd HWD_RS_ADDR = w32 ((s.rsAddr + 4) % 0x1000000) ∧ regsOnly [HWD_RS_ADDR] s t ∧ keeps [.regs, .hwd] s t)) ∧
  (s.hwd.checkLeft = 1 → leads .reserveCheck s (fun t => t.hwd = { s.hwd with good := (upFrom 0 256).filter s.hwd.msgGood, checkLeft := 0, cfgOk := s.hwd.cfgGood, causes := t.hwd.causes } ∧ ((∃ i ∈ upFrom 0 256, s.hwd.msgValid i = true ∧ s.hwd.msgGood i = false) → t.bit HWD_STAT 7 = true ∧ 118 ∈ t.hwd.causes) ∧ regsOnly [HWD_STAT] s t ∧
    keeps [.regs, .hwd] s t)) ∧
  (s.hostUp = true → s.hwd.lost = false → s.class1 = true → s.hwd.play = none → v = 0x3D0B → leads (.hwdRsSave v) s (fun t => memRead t.hwd.mram 0x1000 88 = s.hwBlock ∧ sameBut (upFrom 0x1000 88) 0 s.hwd.mram t.hwd.mram ∧ t.hwd = { s.hwd with mram := t.hwd.mram, checkLeft := 4020, cfgOk := true } ∧ keeps [.hwd] s t)) ∧
  (s.hostUp = true → s.hwd.lost = false → s.class1 = true → v ≠ 0x3D0B → exec (.hwdRsSave v) s = .next s)

/-! ## Silent proving (R476 to R491) -/

/-- R478, R481 to R485, R488: a PROVE takes its groups, RETURNS and table and waits for the second boundary, or fails with BAD_TABLE or NO_IMAGE; a group
starts with PRV_LEVEL as it stands; a group that ends writes an entry for each of its crosspoints, PROVEN where its gain, latency and polarity agree,
FAILED_GAIN with POLARITY where the sign does not, VOID where its word changed, FAILED_LEAK where a word off throughout the window leaks, and the next
group starts, or the last one's writes end the job; the entries and the result words are written, the entries of a freeze discarded and counted. -/
def Obligations.ProvingJob : Prop := ∀ (s : State) (k : Fin 16) (b m o : Nat) (g l : Fin 128) (rets : Bool) (r : PrvRun) (w : PrvWrite) (q : ProveMeas) (a : Nat) (v : W32),
  ((s.slot k.val).st = .queued → (s.slot k.val).kind = 7 → s.engineFree k.val = true → s.prv.run = none → (s.slot k.val).args = [w32 (b01 rets * 65536 + l.val * 256 + g.val), w32 b, w32 (b / 2 ^ 32), 0] → b < 2 ^ 64 → s.prvBadTable b = false → s.img.running.isSome = true → leads (.prove k) s (fun t =>
    (t.slot k.val).st = .running ∧ t.prv.run = some { slot := k.val, rets := rets, last := l.val, table := b, stage := .waiting 2 } ∧ t.prv.group = g.val ∧ t.prv.groups = 0 ∧ t.prv.states = [0, 0, 0, 0, 0, 0, 0] ∧ t.prv.records = [] ∧ t.rd PRV_TABLE_LO = w32 b ∧ t.rd PRV_TABLE_HI = w32 (b / 2 ^ 32 % 32) ∧
    sameBut [k.val] idleSlot s.jobs t.jobs ∧ regsOnly [PRV_TABLE_LO, PRV_TABLE_HI] s t ∧ keeps [.regs, .jobs, .mem, .prv] s t)) ∧
  ((s.slot k.val).st = .queued → (s.slot k.val).kind = 7 → s.engineFree k.val = true → s.prv.run = none → (s.slot k.val).args = [w32 (b01 rets * 65536 + l.val * 256 + g.val), w32 b, w32 (b / 2 ^ 32), 0] → b < 2 ^ 64 → b % 4096 ≠ 0 ∨ b < 0x04000000 ∨ s.img.running.isSome = false → leads (.prove k) s (fun t =>
    (t.slot k.val).fin = some (if s.prvBadTable b then 0x40 else 0x41) ∧ t.prv = s.prv ∧ sameBut [k.val] idleSlot s.jobs t.jobs ∧ keeps [.jobs, .mem] s t)) ∧
  (s.prv.run = some r → r.stage = .waiting 1 → (s.slot r.slot).abortReq = false → s.prv.groups = 0 → s.prv.pend = none → leads .proveGroupStart s (fun t => t.prv = { s.prv with run := some { r with stage := .armed }, level := s.rdF PRV_LEVEL 7 0, mark := noMark, g0 := w32 (s.tickN + 1) } ∧ keeps [.prv] s t)) ∧
  (s.prv.run = some r → r.stage = .group 5999 → (s.slot r.slot).abortReq = false → s.prv.group * s.prvInputs ≤ m → m < s.prv.group * s.prvInputs + s.prvInputs → o < 4096 → q.isRet = false → q.point = o → q.input = m → s.hasSource m = true → s.xpOf m o = some a → a ∉ s.prv.mark.changed → o ∉ s.prv.mark.sat → o ∉ s.prv.mark.scaled → a ∈ s.prv.mark.on → (s.rdF PRV_TOL 15 8 : Int) ≤ q.snr →
    q.inv = (spGet 0x7FFF s.prv.mark.ref a).getLsbD 15 → q.gain.natAbs ≤ s.rdF PRV_TOL 7 0 → q.lat.natAbs ≤ s.rdF PRV_TOL 23 16 → leads (.proveGroupEnd [q]) s (fun t => ((∃ e ∈ t.prv.pend, (r.table + (m * 4096 + o) * 4, prvEntry 1 false false false q.gain q.lat) ∈ e.entries) ∧ t.prv.pend.map (·.left) = some 217 ∧ t.prv.pend.map (·.endTick) = some (w32 (s.tickN + 1))) ∧
    (s.prv.group < r.last → t.prv.group = s.prv.group + 1 ∧ t.prv.run = some { r with stage := .armed } ∧ t.prv.level = s.rdF PRV_LEVEL 7 0) ∧ (r.last ≤ s.prv.group → t.prv.group = s.prv.group ∧ t.prv.run = some { r with stage := .ending }) ∧ t.prv.groups = s.prv.groups ∧ regsKeep [PRV_STAT, PRV_FAILS, PRV_LAST_FAIL] s t ∧
    keeps [.regs, .out, .free, .mon, .sys, .prv] s t)) ∧
  (s.prv.run = some r → r.stage = .group 5999 → (s.slot r.slot).abortReq = false → s.prv.group * s.prvInputs ≤ m → m < s.prv.group * s.prvInputs + s.prvInputs → o < 4096 → q.isRet = false → q.point = o → q.input = m → s.hasSource m = true → s.xpOf m o = some a → a ∉ s.prv.mark.changed → o ∉ s.prv.mark.sat → o ∉ s.prv.mark.scaled → a ∈ s.prv.mark.on → (s.rdF PRV_TOL 15 8 : Int) ≤ q.snr →
    q.inv ≠ (spGet 0x7FFF s.prv.mark.ref a).getLsbD 15 → leads (.proveGroupEnd [q]) s (fun t => (∃ e ∈ t.prv.pend, (r.table + (m * 4096 + o) * 4, prvEntry 2 false false true q.gain q.lat) ∈ e.entries) ∧ t.bit PRV_STAT 0 = true ∧ raised 120 s t ∧ regsKeep [PRV_STAT, PRV_FAILS, PRV_LAST_FAIL] s t ∧ keeps [.regs, .out, .free, .mon, .sys, .prv] s t)) ∧
  (s.prv.run = some r → r.stage = .group 5999 → (s.slot r.slot).abortReq = false → s.prv.group * s.prvInputs ≤ m → m < s.prv.group * s.prvInputs + s.prvInputs → o < 4096 → q.isRet = false → q.point = o → q.input = m → s.hasSource m = true → s.xpOf m o = some a → a ∈ s.prv.mark.changed → o ∉ s.prv.mark.scaled → a ∈ s.prv.mark.on →
    leads (.proveGroupEnd [q]) s (fun t => (∃ e ∈ t.prv.pend, (r.table + (m * 4096 + o) * 4, prvEntry 6 false false false q.gain q.lat) ∈ e.entries) ∧ t.bit PRV_STAT 2 = true ∧ keeps [.regs, .out, .free, .mon, .sys, .prv] s t)) ∧
  (s.prv.run = some r → r.stage = .group 5999 → (s.slot r.slot).abortReq = false → s.prv.group * s.prvInputs ≤ m → m < s.prv.group * s.prvInputs + s.prvInputs → o < 4096 → q.isRet = false → q.point = o → q.input = m → s.hasSource m = true → s.xpOf m o = some a → a ∉ s.prv.mark.changed → o ∉ s.prv.mark.sat → o ∉ s.prv.mark.scaled → a ∉ s.prv.mark.on → -(10 * (s.rdF PRV_TOL 31 24 : Int)) < q.gain →
    leads (.proveGroupEnd [q]) s (fun t => (∃ e ∈ t.prv.pend, (r.table + (m * 4096 + o) * 4, prvEntry 4 true false false q.gain q.lat) ∈ e.entries) ∧ t.bit PRV_STAT 0 = true ∧ raised 120 s t ∧ regsKeep [PRV_STAT, PRV_FAILS, PRV_LAST_FAIL] s t ∧ keeps [.regs, .out, .free, .mon, .sys, .prv] s t)) ∧
  (s.prv.run = some r → s.prv.pend = some w → w.left ≤ 1 → w.entries = [(a, v)] → s.dram.frozen = false → s.dram.poison = [] → r.stage ≠ .ending → leads .proveWritesDone s (fun t => t.dramPeek a 4 = leBytes 4 v.toNat ∧ t.prv = { s.prv with pend := none, groups := s.prv.groups + 1, gEnd := w.endTick } ∧ counted PRV_GROUPS 1 s t ∧ (t.slot r.slot).total = s.prv.groups + 1 ∧
    t.poolW (resultOff r.slot 1) = w32 (s.prv.groups + 1) ∧ sameBut [r.slot] idleSlot s.jobs t.jobs ∧ regsOnly [PRV_GROUPS] s t ∧ keeps [.regs, .jobs, .dram, .mem, .prv] s t)) ∧
  (s.prv.run = some r → s.prv.pend = some w → w.left ≤ 1 → s.dram.frozen = true → r.stage = .ending → leads .proveWritesDone s (fun t => t.dram = s.dram ∧ t.prv = { s.prv with run := none, pend := none, groups := s.prv.groups + 1, gEnd := w.endTick, lost := s.prv.lost + 1 } ∧ t.canopy = { s.canopy with prvUsed := [] } ∧ (t.slot r.slot).fin = some 0 ∧
    counted PRV_GROUPS 1 s t ∧ sameBut [r.slot] idleSlot s.jobs t.jobs ∧ regsOnly [PRV_GROUPS] s t ∧ keeps [.regs, .jobs, .canopy, .mem, .prv] s t))

/-! ## Presence and power (R492 to R512) -/

/-- R492, R493: PRESENCE_N asserted opens or renews the presence window; its release starts the window's time. Nothing else but the count of assertions,
PRS_STAT and what EV16 changes differs. -/
def Obligations.PresenceWindow : Prop := ∀ s : State, s.seedOn = true →
  (s.prs.present = false → s.prs.window = false → leads .presenceAssert s (fun t =>
    evtOnly { s with prs := { s.prs with present := true, window := true, elapsed := 0 } } t ∧ counted PRS_PRESENCE_COUNT 1 s t ∧
    t.bit PRS_STAT 0 = true ∧ raised 16 s t ∧ regsKeep [PRS_PRESENCE_COUNT, PRS_STAT] s t)) ∧
  (s.prs.present = false → s.prs.window = true → leads .presenceAssert s (fun t =>
    evtOnly { s with prs := { s.prs with present := true, elapsed := 0 } } t ∧ counted PRS_PRESENCE_COUNT 1 s t ∧
    regsOnly [PRS_PRESENCE_COUNT] s t)) ∧
  (s.prs.present = true → exec .presenceRelease s = .next { s with prs := { s.prs with present := false, elapsed := 0 }, pwd := { s.pwd with held := s.pwd.held.filter (· != 1) } }) ∧
  (s.prs.present = true → exec .presenceAssert s = .next s) ∧
  (s.prs.present = false → exec .presenceRelease s = .next s) ∧
  (s.sys.phase ≠ .nap → s.prs.window = true → s.prs.present = false → s.windowTicks ≤ s.prs.elapsed + 1 → leads .presenceWindowExpiry s (fun t =>
    evtOnly { s with prs := { s.prs with window := false, elapsed := 0 } } t ∧ t.class1 = false ∧ t.bit PRS_STAT 0 = true ∧ raised 16 s t ∧
    regsKeep [PRS_STAT] s t)) ∧
  (s.sys.phase = .nap → s.prs.window = true → s.prs.present = false → leads .presenceWindowExpiry s (fun t => t.prs = { s.prs with window := false, elapsed := 0 } ∧ t.class1 = false ∧ t.bit PRS_STAT 0 = true ∧ t.sys.phase = .nap)) ∧
  (s.prs.window = false ∨ s.prs.present = true → exec .presenceWindowExpiry s = .next s)

/-- R494: a sampling of the seal loop is noted; the second failing one in a row sets the latch, counts a break, records the RTC and raises EV17; class 1
is withdrawn with it (R495). R495: the key of PRS_RESEAL clears a set seal latch and raises EV18 when presence is asserted and the loop is intact; any
other write by the host is refused and counted, and the latch keeps its value. -/
def Obligations.SealLatch : Prop := ∀ (s : State) (v : W32),
  (s.seedOn = true → exec (.sealSample true) s = .next { s with prs := { s.prs with sealIntact := true, sealFails := 0 }, pwd := { s.pwd with held := s.pwd.held.filter (· != 2) } }) ∧
  (s.seedOn = true → s.prs.sealFails ≠ 1 → exec (.sealSample false) s =
    .next { s with prs := { s.prs with sealIntact := false, sealFails := min 3 (s.prs.sealFails + 1) } }) ∧
  (s.seedOn = true → s.prs.sealFails = 1 → leads (.sealSample false) s (fun t =>
    evtOnly { s with prs := { s.prs with sealIntact := false, sealFails := 2, sealLatch := true } } t ∧ counted PRS_SEAL_BREAKS 1 s t ∧
    t.rd PRS_SEAL_TIME = s.rd PWD_RTC ∧ t.bit PRS_STAT 1 = true ∧ t.class1 = false ∧ raised 17 s t ∧
    regsKeep [PRS_SEAL_BREAKS, PRS_SEAL_TIME, PRS_STAT] s t)) ∧
  (s.hostUp = true → v = 0x5EA1 → s.prs.present = true → s.prs.sealIntact = true → s.prs.sealLatch = true → leads (.reseal v) s (fun t =>
    evtOnly { s with prs := { s.prs with sealLatch := false } } t ∧ raised 18 s t ∧ regsKeep [] s t)) ∧
  (s.hostUp = true → s.resealOk 0 v = false → leads (.reseal v) s (fun t =>
    evtOnly s t ∧ counted PRS_DENIED 1 s t ∧ t.bit PRS_STAT 2 = true ∧ regsKeep [PRS_DENIED, PRS_STAT, PRS_DENIED_LAST] s t))

/-- R501: a power domain that fails is marked, with PWD_STAT.DOMAIN_FAULT and EV21; a failed domain of the mix, the cores, DRAM or the clocks makes the
engine declare itself faulty. R502: PWR_OK low, VCORE undervoltage and the thermal fault. R502: the temperature of the engine die is noted; above the
threshold, and again 5 °C below it, PWD_STAT.TEMP and EV22. R511: PWD_LATCH_CLR, by a host with class 1, clears the latches whose bit is written 1. -/
def Obligations.PowerSupervision : Prop := ∀ (s : State) (d : Fin 12) (temp : Int) (v : W32),
  (s.domOn (d.val + 1) = false → exec (.domainFault d) s = .next s) ∧
  (s.domOn (d.val + 1) = true → leads (.domainFault d) s (fun t =>
    t.pwd = { s.pwd with failed := s.pwd.failed ||| BitVec.ofNat 12 (2 ^ d.val) } ∧ t.domFailed (d.val + 1) = true ∧ t.bit PWD_STAT 1 = true ∧
    raised 21 s t ∧ (d.val = 2 ∨ d.val = 3 ∨ d.val = 4 ∨ d.val = 5 ∨ d.val = 8 ∨ d.val = 10 → t.sys.faulty = true ∧ t.twn.selOut = false) ∧
    keeps [.regs, .out, .mon, .sys, .twn, .pwd] s t ∧ regsKeep [PWD_STAT, TWN_OOS_COUNT, TWN_STAT] s t ∧ (s.twn.role ≠ .standby → regsKeep [PWD_STAT] s t))) ∧
  (s.sys.phase = .running ∨ s.sys.phase = .starting ∨ s.sys.phase = .held → ∀ c ∈ [Instr.supplyFail, Instr.vcoreUndervoltage], leads c s (fun t =>
    t.sys.phase = .failed ∧ t.sys.mediaRun = false ∧ t.sys.answering = false ∧ t.sys.ready = false ∧ t.sys.faulty = true ∧
    t.pwd = { s.pwd with supplyFail := true } ∧ 21 ∈ t.sys.deferred ∧ regsKeep [TWN_OOS_COUNT, TWN_STAT] s t ∧ (s.twn.role ≠ .standby → t.regs = s.regs) ∧
    keeps [.regs, .out, .mon, .sys, .twn, .pwd] s t)) ∧
  (s.sys.phase = .running ∨ s.sys.phase = .starting ∨ s.sys.phase = .held → leads .engineThermalFault s (fun t => t.pwd = { s.pwd with thermal := true } ∧ t.sys.faulty = true ∧ t.twn.selOut = false ∧
    regsKeep [TWN_OOS_COUNT, TWN_STAT] s t ∧ (s.twn.role ≠ .standby → t.regs = s.regs) ∧ keeps [.regs, .out, .mon, .sys, .twn, .pwd] s t)) ∧
  (s.sys.phase = .running ∨ s.sys.phase = .starting ∨ s.sys.phase = .held → s.pwd.tempAbove = false → s.tempWarn < temp → leads (.tempWarnCross temp) s (fun t =>
    evtOnly { s with pwd := { s.pwd with temp := temp, tempAbove := true } } t ∧ t.bit PWD_STAT 0 = true ∧ raised 22 s t ∧ regsKeep [PWD_STAT] s t)) ∧
  (s.sys.phase = .running ∨ s.sys.phase = .starting ∨ s.sys.phase = .held → s.pwd.tempAbove = true → temp < s.tempWarn - 5 → leads (.tempWarnCross temp) s (fun t =>
    evtOnly { s with pwd := { s.pwd with temp := temp, tempAbove := false } } t ∧ t.bit PWD_STAT 0 = true ∧ raised 22 s t ∧ regsKeep [PWD_STAT] s t)) ∧
  (s.sys.phase = .off ∨ s.sys.phase = .nap ∨ s.sys.phase = .failed → ∀ c ∈ [Instr.supplyFail, .vcoreUndervoltage, .engineThermalFault, .tempWarnCross temp], exec c s = .next s) ∧
  (s.hostUp = true → s.class1 = true → exec (.pwdLatchClr v) s =
    .next { s with pwd := { s.pwd with supplyFail := s.pwd.supplyFail && !bitOf v 0, thermal := s.pwd.thermal && !bitOf v 1 } })

/-- R503, R504: a granted key of PWD_NAP requests Nap unless fallback is forced or a wake contact is closed, which raises EV20; the entry takes the engine
down into Nap. R505: an enabled wake source that changes in Nap starts the module with cause 1 of SYS_RSTCAUSE and is recorded; one taken after the
request and before the entry is kept for 30 ticks. -/
def Obligations.NapAndWake : Prop := ∀ (s : State) (source cin : Nat),
  (s.hostUp = true → s.class1 = true → s.pwd.stage = .none → (s.hwHere && s.forced) = false → s.napContact = false →
    exec (.pwdNap 0x4E41) s = .next { s with pwd := { s.pwd with stage := .requested } }) ∧
  (s.hostUp = true → s.class1 = true → ((s.hwHere && s.forced) || s.napContact) = true → leads (.pwdNap 0x4E41) s (fun t =>
    evtOnly s t ∧ t.bit PWD_STAT 2 = true ∧ raised 20 s t ∧ regsKeep [PWD_STAT] s t)) ∧
  (s.pwd.stage = .stopped ∨ (s.pwd.stage = .requested ∧ s.sys.mediaRun = false) → leads .napEntry s (fun t =>
    t.sys.phase = .nap ∧ t.sys.mediaRun = false ∧ t.sys.answering = false ∧ t.sys.ready = false ∧ t.pwd.napSeen = true ∧ t.pwd.pwrLow = true ∧ t.pwd.held = s.napHeld ∧ t.jobs = [] ∧ t.cores = [] ∧
    t.mem = resetMem ∧ t.dram = resetDram ∧ t.prs = s.prs ∧ t.hwd.mram = s.hwd.mram)) ∧
  (s.sys.phase = .nap → s.wakeEnabled source cin = true → source ∉ s.pwd.held → source ≠ 3 ∨ (s.rd PWD_RTC).toNat ≤ (s.rd PWD_RTC_ALARM).toNat → leads (.napWake source cin) s (fun t =>
    t.sys.phase = .starting ∧ t.sys.cause = 2 ∧ t.sys.answering = false ∧ t.sys.ready = false ∧ t.pwd.wakeSource = source ∧
    t.pwd.wakeCin = (if source = 4 then cin else 0) ∧ t.pwd.pwrLow = false ∧ (source = 1 → t.prs.present = true) ∧
    counted PWD_WAKES 1 s t ∧ t.mem = s.mem ∧ t.dram = s.dram ∧ t.jobs = s.jobs ∧ t.ledger = s.ledger)) ∧
  (s.sys.phase = .nap → s.wakeEnabled source cin = false ∨ source ∈ s.pwd.held → exec (.napWake source cin) s = .next s) ∧
  (s.sys.phase = .running → s.pwd.stage ≠ .none → s.wakeEnabled source cin = true → s.pwd.wakeDue = none → exec (.napWake source cin) s = .next { s with pwd := { s.pwd with wakeDue := some (source, cin, 30) } })

/-! ## The Dravot monitor (R513 to R530) -/

/-- R513 to R517: a character is taken and echoed, the first after 10 s raises EV124; one with a framing error is counted, EV127; CR runs the line; a
break answers ok at 115,200 baud and stops a trace; a character sent leaves on MON_TX, and the prompt follows a reply; an unknown line is 01, a number
out of range 02, a command during a trace 05, and one that a disabled monitor does not serve 08; MON_BAUD as the host writes it acts at once on an
idle line. R521: a trace starts, and stop or a break ends it with the dropped count. -/
def Obligations.MonitorLine : Prop := ∀ (s : State) (ch d : Byte) (cs ln : List Byte) (n : Nat) (v : W32), s.engineUp = true → s.sys.answering = true →
  (s.mon.rxSeen = true → ch ∉ [0x08, 0x0A, 0x0D, 0x7F] → s.mon.tooLong = false → s.mon.line.length < 120 → leads (.monitorCharacter ch false) s (fun t => t.mon = { s.mon with line := ch :: s.mon.line, lastCr := false, brk := false, rxIdle := 0, tx := s.mon.tx ++ (if s.bit MON_CTL 1 = true then [ch] else []) } ∧ sameBut [] coreInit s.cores t.cores ∧ keeps [.mon, .cores] s t)) ∧
  (s.mon.rxSeen = false → s.mon.trace = 0 → ch ∉ [0x08, 0x0A, 0x0D, 0x7F] → s.mon.tooLong = false → s.mon.line.length < 120 → leads (.monitorCharacter ch false) s (fun t => t.mon.line = ch :: s.mon.line ∧ t.mon.rxSeen = true ∧ t.bit MON_STAT 0 = true ∧ raised 124 s t ∧ regsKeep [MON_STAT] s t ∧ keeps [.regs, .out, .mon, .sys, .cores] s t)) ∧
  (s.mon.trace = 0 → leads (.monitorCharacter ch true) s (fun t => t.mon = s.mon ∧ counted MON_LINE_ERR 1 s t ∧ t.bit MON_STAT 1 = true ∧ raised 127 s t ∧ regsKeep [MON_LINE_ERR, MON_STAT] s t ∧ keeps [.regs, .out, .sys, .cores] s t)) ∧
  (s.mon.rxSeen = true → s.mon.trace = 0 → s.mon.prompt = true → s.mon.tooLong = false → s.mon.line.reverse = txt "STOP" → s.bit MON_CTL 0 = true → s.bit MON_CTL 1 = false → leads (.monitorCharacter 0x0D false) s (fun t => t.mon = { s.mon with line := [], lastCr := true, brk := false, rxIdle := 0, prompt := false, tx := s.mon.tx ++ txt "ok" ++ crlf, promptNext := true } ∧ keeps [.mon, .cores] s t)) ∧
  (s.mon.rxSeen = true → s.mon.trace = 0 → s.mon.prompt = true → s.mon.tooLong = true → s.bit MON_CTL 1 = false → leads (.monitorCharacter 0x0D false) s (fun t => t.mon = { s.mon with line := [], tooLong := false, lastCr := true, brk := false, rxIdle := 0, prompt := false, tx := s.mon.tx ++ txt "err 01 SYNTAX" ++ crlf, promptNext := true } ∧ keeps [.mon, .cores] s t)) ∧
  (s.mon.trace = 0 → leads .monitorBreak s (fun t => t.rd MON_BAUD = 0 ∧ t.mon = { s.mon with line := [], tooLong := false, lastCr := false, brk := true, baudNext := none, baudLine := none, prompt := false, tx := s.mon.tx ++ txt "ok" ++ crlf, promptNext := true } ∧ regsOnly [MON_BAUD] s t ∧ keeps [.regs, .mon] s t)) ∧
  (s.mon.trace ≠ 0 → s.mon.dropped = 0 → leads .monitorBreak s (fun t => t.rd MON_BAUD = 0 ∧ t.mon.trace = 0 ∧ t.mon.left = 0 ∧ t.mon.buf = [] ∧ t.mon.tx = s.mon.tx ++ txt "ok" ++ crlf ∧ regsOnly [MON_BAUD] s t ∧ keeps [.regs, .mon] s t)) ∧
  (s.mon.trace = 0 → s.mon.prompt = true → 120 < ln.length ∨ parseLine ln = .bad → leads (.unknownCommand ln) s (fun t => t.mon = { s.mon with prompt := false, tx := s.mon.tx ++ txt "err 01 SYNTAX" ++ crlf, promptNext := true } ∧ keeps [.mon] s t)) ∧
  (s.mon.tx = ch :: d :: cs → s.mon.baudNext = none → leads .monTxCharacterSent s (fun t => t.out = s.out ++ [.mon ch] ∧ t.mon = { s.mon with tx := d :: cs } ∧ sameBut [] coreInit s.cores t.cores ∧ keeps [.out, .mon, .cores] s t)) ∧
  (s.mon.tx = [ch] → s.mon.baudNext = none → s.mon.baudLine = some n → n < 8 → s.mon.promptNext = true → leads .monTxCharacterSent s (fun t => t.out = s.out ++ [.mon ch] ∧ t.rd MON_BAUD = w32 n ∧ t.mon = { s.mon with tx := txt "> ", promptNext := false, baudLine := none } ∧ regsOnly [MON_BAUD] s t ∧ keeps [.regs, .out, .mon, .cores] s t)) ∧
  (s.mon.tx = [ch] → s.mon.baudNext = none → s.mon.baudLine = none → s.mon.promptNext = false → s.mon.trace = 0 → s.mon.waiting = [] → leads .monTxCharacterSent s (fun t => t.out = s.out ++ [.mon ch] ∧ t.mon = { s.mon with tx := [], prompt := true } ∧ keeps [.out, .mon, .cores] s t)) ∧
  (s.mon.trace = 0 → s.mon.prompt = true → s.bit MON_CTL 0 = true → 1 ≤ n → n ≤ 3000 → ∀ q ∈ [(Instr.traceTick n, 1), (.traceEv n, 2), (.traceLedger n, 3)], exec q.1 s = .next { s with mon := { s.mon with prompt := false, trace := q.2, left := n, buf := [], dropped := 0 } }) ∧
  (s.mon.trace = 0 → s.mon.prompt = true → s.bit MON_CTL 0 = true → n = 0 ∨ 3000 < n → ∀ c ∈ [Instr.traceTick n, .traceEv n, .traceLedger n], exec c s = .next { s with mon := { s.mon with prompt := false, tx := s.mon.tx ++ txt "err 02 RANGE" ++ crlf, promptNext := true } }) ∧
  (s.mon.trace ≠ 0 → s.mon.dropped = 3 → exec .monStop s = .next { s with mon := { s.mon with trace := 0, left := 0, buf := [], tx := s.mon.tx ++ txt "dropped 3" ++ crlf ++ txt "ok" ++ crlf ++ txt "> " ++ txt "ok" ++ crlf, promptNext := true } }) ∧
  (s.mon.trace = 0 → s.mon.prompt = true → s.bit MON_CTL 0 = true → exec .monStop s = .next { s with mon := { s.mon with prompt := false, tx := s.mon.tx ++ txt "ok" ++ crlf, promptNext := true } }) ∧
  (s.mon.trace = 0 → s.mon.prompt = true → n ≤ 5 → exec (.baud n) s = .next { s with mon := { s.mon with prompt := false, baudLine := some n, tx := s.mon.tx ++ txt "ok" ++ crlf, promptNext := true } }) ∧
  (s.mon.trace ≠ 0 → ∀ c ∈ [Instr.baud n, .monEv, .monStat, .monPeek n 1, .monDump n 16, .monDram n 16, .monJob n, .monLedger n 1, .poke n v, .rmw n v v, .testOn, .testOff], leads c s (fun t => t.mon = { s.mon with tx := s.mon.tx ++ txt "err 05 BUSY" ++ crlf, promptNext := true } ∧ keeps [.mon, .cores] s t)) ∧
  (s.mon.trace = 0 → s.mon.prompt = true → s.bit MON_CTL 0 = false → ∀ c ∈ [Instr.monEv, .monPeek n 1, .monDump n 16, .monDram n 16, .monJob n, .monLedger n 1, .traceTick n, .monStop, .poke n v, .rmw n v v, .testOn, .testOff], leads c s (fun t => t.mon = { s.mon with prompt := false, tx := s.mon.tx ++ txt "err 08 DISABLED" ++ crlf, promptNext := true } ∧
    keeps [.mon, .cores] s t)) ∧
  (s.hostUp = true → leads (.monBaudWrite v) s (fun t => (s.mon.tx = [] → t.rd MON_BAUD = v &&& 7 ∧ t.mon = { s.mon with baudNext := none }) ∧ (s.mon.tx ≠ [] → t.rd MON_BAUD = s.rd MON_BAUD ∧ t.mon = { s.mon with baudNext := some (fld v 2 0) }) ∧ regsOnly [MON_BAUD] s t ∧ keeps [.regs, .mon] s t))

/-- R516 to R520: peek, dump and dram show words without a side effect, ev the pending events, job a slot, ledger an entry, stat the state registers; poke
and rmw are class 2, write, count, raise EV126 and read back, rmw in NORMAL is refused with err 07 and EV92; test on and test off switch TEST mode.
Each reply ends in one final line, and the prompt follows it. -/
def Obligations.MonitorCommands : Prop := ∀ (s : State) (a n k : Nat) (v m w : W32), s.engineUp = true → s.sys.answering = true → s.mon.trace = 0 → s.mon.prompt = true → s.bit MON_CTL 0 = true →
  (a % 4 = 0 → 0x1000000 ≤ a → a < 0x2000000 → s.underTest 0 = false → exec (.monPeek a 1) s = .next { s with mon := { s.mon with prompt := false, tx := s.mon.tx ++ hexW (w32 a) ++ txt ": " ++ hexW (s.poolW (a - 0x1000000)) ++ crlf ++ txt "ok" ++ crlf, promptNext := true } }) ∧
  (a % 4 = 0 → 0x1000000 ≤ a → a + 16 < 0x2000000 → s.underTest 0 = false → exec (.monDump a 13) s = .next { s with mon := { s.mon with prompt := false, tx := s.mon.tx ++ hexW (w32 a) ++ txt ": " ++ spaced ((upFrom 0 4).map (fun j => hexW (s.poolW (a - 0x1000000 + 4 * j)))) ++ crlf ++ txt "ok" ++ crlf, promptNext := true } }) ∧
  (a % 4 = 0 → 0x240000 ≤ a → a < 0x1000000 → ∀ q ∈ [(Instr.monPeek a 1, hexW 0), (.monDump a 16, spaced [hexW 0, hexW 0, hexW 0, hexW 0])], a + 16 < 0x1000000 → exec q.1 s = .next { s with mon := { s.mon with prompt := false, tx := s.mon.tx ++ hexW (w32 a) ++ txt ": " ++ q.2 ++ crlf ++ txt "ok" ++ crlf, promptNext := true } }) ∧
  (a % 4 ≠ 0 ∨ 2 ^ 32 ≤ a → ∀ c ∈ [Instr.monPeek a 1, .monDump a 16, .poke a v, .rmw a v m], leads c s (fun t => t.mon = { s.mon with prompt := false, tx := s.mon.tx ++ txt "err 02 RANGE" ++ crlf, promptNext := true } ∧ keeps [.mon, .cores] s t)) ∧
  (a % 16 = 0 → a < 2 ^ 32 → s.dram.frozen = false → s.dram.poison = [] → a + 16 ≤ s.dramSize → exec (.monDram a 16) s = .next { s with mon := { s.mon with prompt := false, tx := s.mon.tx ++ hexW (w32 a) ++ txt ": " ++ spaced ((upFrom 0 4).map (fun j => hexW (w32 (leNat (s.dramPeek (a + 4 * j) 4))))) ++ crlf ++ txt "ok" ++ crlf, promptNext := true } }) ∧
  (exec .monEv s = .next { s with mon := { s.mon with prompt := false, tx := s.mon.tx ++ ((upFrom 0 128).filter s.pends).flatMap (fun e => eventLabel e ++ crlf) ++ txt "ok" ++ crlf, promptNext := true } }) ∧
  (k < 16 → exec (.monJob k) s = .next { s with mon := { s.mon with prompt := false, tx := s.mon.tx ++ spaced [txt "slot", dec k, txt "kind", dec (s.slot k).kind.toNat, txt "state", dec (fld (s.slot k).status 31 28), txt "error", dec (fld (s.slot k).status 27 20), txt "progress", dec (fld (s.slot k).status 19 0), txt "total", dec (s.slot k).total] ++ crlf ++ txt "ok" ++ crlf, promptNext := true } }) ∧
  (16 ≤ k → exec (.monJob k) s = .next { s with mon := { s.mon with prompt := false, tx := s.mon.tx ++ txt "err 02 RANGE" ++ crlf, promptNext := true } }) ∧
  (n < 65536 → s.dram.frozen = false → s.dram.poison = [] → exec (.monLedger n 1) s = .next { s with mon := { s.mon with prompt := false, tx := s.mon.tx ++ spaced [dec (leNat (s.dramPeek (entryAddr n) 8)), dec (leNat (s.dramPeek (entryAddr n + 8) 8)), dec (leNat (s.dramPeek (entryAddr n + 16) 2) % 16), dec (leNat (s.dramPeek (entryAddr n + 16) 2) / 16 % 16), dec (leNat (s.dramPeek (entryAddr n + 18) 2)), hexW (w32 (leNat (s.dramPeek (entryAddr n + 20) 4))), hexW (w32 (leNat (s.dramPeek (entryAddr n + 24) 4))), hexW (w32 (leNat (s.dramPeek (entryAddr n + 28) 4)))] ++ crlf ++ txt "ok" ++ crlf, promptNext := true } }) ∧
  (s.hwSilent .hwd = false → leads .monStat s (fun t => (s.mon.tx ++ txt "SYS_STAT " ++ hexW (s.monReg SYS_STAT).2 ++ crlf) <+: t.mon.tx ∧ (txt "ok" ++ crlf) <:+ t.mon.tx ∧ t.mon.promptNext = true ∧ t.mon.prompt = false ∧ t.mon.line = s.mon.line ∧ keeps [.free, .mon, .sys] s t)) ∧
  (s.class2 = false → a % 4 = 0 → a < 2 ^ 32 → ∀ c ∈ [Instr.poke a v, .rmw a v m, .testOn, .testOff], leads c s (fun t => t.mon.tx = s.mon.tx ++ txt "err 03 DEVELOP" ++ crlf ∧ t.mon.promptNext = true ∧ counted PRS_DENIED 1 s t ∧ t.bit PRS_STAT 2 = true ∧ (s.sys.onceTick.contains 19 = false → raised 19 s t) ∧ t.mem = s.mem ∧ t.trk = s.trk ∧
    regsKeep [PRS_DENIED, PRS_STAT, PRS_DENIED_LAST] s t ∧ keeps [.regs, .out, .mon, .sys, .cores] s t)) ∧
  (s.class2 = true → a % 4 = 0 → 0x1000000 ≤ a → a < 0x2000000 → s.underTest 0 = false → leads (.poke a v) s (fun t => t.poolW (a - 0x1000000) = v ∧ t.mon = { s.mon with prompt := false, tx := s.mon.tx ++ hexW (w32 a) ++ txt ": " ++ hexW v ++ crlf ++ txt "ok" ++ crlf, promptNext := true } ∧ counted MON_WRITES 1 s t ∧ t.bit MON_STAT 2 = true ∧ raised 126 s t ∧
    sameBut [a - 0x1000000, a - 0xFFFFFF, a - 0xFFFFFE, a - 0xFFFFFD] 0 s.mem.pool t.mem.pool ∧ regsKeep [MON_WRITES, MON_STAT] s t ∧ keeps [.regs, .out, .mon, .sys, .cores, .mem] s t)) ∧
  (s.class2 = true → leads (.poke 0x1020 v) s (fun t => t.rd 0x1020 = v ∧ counted MON_WRITES 1 s t ∧ t.bit MON_STAT 2 = true ∧ raised 126 s t ∧ t.mon.tx = s.mon.tx ++ txt "0x0000_1020: " ++ hexW v ++ crlf ++ txt "ok" ++ crlf ∧ regsKeep [0x1020, MON_WRITES, MON_STAT] s t ∧ keeps [.regs, .out, .mon, .sys, .cores] s t)) ∧
  (s.class2 = true → a % 4 = 0 → 0x1000000 ≤ a → a < 0x2000000 → s.underTest 0 = false → s.trkMode ≠ 1 → w = (s.poolW (a - 0x1000000) &&& ~~~m) ||| (v &&& m) → leads (.rmw a v m) s (fun t => t.poolW (a - 0x1000000) = w ∧ t.mon = { s.mon with prompt := false, tx := s.mon.tx ++ hexW (w32 a) ++ txt ": " ++ hexW w ++ crlf ++ txt "ok" ++ crlf, promptNext := true } ∧
    counted MON_WRITES 1 s t ∧ t.bit MON_STAT 2 = true ∧ raised 126 s t ∧ sameBut [a - 0x1000000, a - 0xFFFFFF, a - 0xFFFFFE, a - 0xFFFFFD] 0 s.mem.pool t.mem.pool ∧ regsKeep [MON_WRITES, MON_STAT] s t ∧ keeps [.regs, .out, .mon, .sys, .cores, .mem] s t)) ∧
  (s.class2 = true → a % 4 = 0 → 0x1000000 ≤ a → a < 0x2000000 → s.trkMode = 1 → leads (.rmw a v m) s (fun t => t.mem = s.mem ∧ t.mon = { s.mon with prompt := false, tx := s.mon.tx ++ txt "err 07 LOCKED" ++ crlf, promptNext := true } ∧ t.rd TRK_LOCKOUT_LAST = w32 (2 ^ 28 + 2 * 2 ^ 25 + a / 64 % 2 ^ 24) ∧ counted TRK_LOCKOUT_COUNT 1 s t ∧ t.bit TRK_STAT 0 = true ∧
    raised 92 s t ∧ regsKeep [TRK_LOCKOUT_LAST, TRK_LOCKOUT_COUNT, TRK_STAT] s t ∧ keeps [.regs, .out, .mon, .sys, .cores] s t)) ∧
  (s.class2 = true → s.img.running = none → s.sys.ready = true → s.mem.act ≠ .destructive → s.img.phase = .idle → exec .testOn s = .next { s with trk := { s.trk with test := true }, mon := { s.mon with prompt := false, tx := s.mon.tx ++ txt "mode 2" ++ crlf ++ txt "ok" ++ crlf, promptNext := true } }) ∧
  (s.class2 = true → s.img.running.isSome = true → s.ports.any (fun p => p.2.st != .off) = true → exec .testOn s = .next { s with mon := { s.mon with prompt := false, tx := s.mon.tx ++ txt "err 02 RANGE" ++ crlf, promptNext := true } }) ∧
  (s.class2 = true → s.sys.ready = true → s.mem.act ≠ .destructive → s.img.phase = .idle → s.trk.lock = none → exec .testOff s = .next { s with trk := { s.trk with test := false }, mon := { s.mon with prompt := false, tx := s.mon.tx ++ txt "mode 1" ++ crlf ++ txt "ok" ++ crlf, promptNext := true } })

/-! ## The machine -/

/-- The step of the block: the command at the front of the queue acts on the state with the rest of the queue. On an empty queue the block idles, which is
the model's choice (log entry 2). Every command of the table completes in every state, and leaves the queue and what the module was built as alone. -/
def Obligations.StepTakesFront : Prop := ∀ (s : State) (c : Instr) (q : List Instr),
  (s.pending = c :: q → step s = exec c { s with pending := q }) ∧ (s.pending = [] → step s = .next s) ∧
  (∃ t, exec c s = .next t ∧ t.pending = s.pending ∧ t.fit = s.fit)

/-- What the module is before its first start: every register at the reset value of its map (R11 on), every memory unlisted and canonical, no core in a
loop or a call, the seal latch set (R495), the role ALONE (R418), Heartwood in FALLBACK (R459), no image (R113), the media clock stopped, the queue
empty. The variant, the serial number and the counter of free values are the model's choice (log entries 1 and 3), and nothing is said of them. -/
def Obligations.ResetState : Prop :=
  (∀ a, State.reset.rd a = resetVal a) ∧ memOk State.reset = true ∧ coresOk State.reset = true ∧ State.reset.pending = [] ∧ State.reset.out = [] ∧
  State.reset.jobs = [] ∧ State.reset.ledger.entries = [] ∧ State.reset.ledger.session = 0 ∧ State.reset.img.running = none ∧ State.reset.sys.phase = .off ∧
  State.reset.sys.mediaRun = false ∧ State.reset.sys.ready = false ∧ State.reset.sys.answering = false ∧ State.reset.twn.role = .alone ∧
  State.reset.hwd.mode = .fallback ∧ State.reset.prs.sealLatch = true ∧ State.reset.prs.window = false ∧ State.reset.clk.pll = .stopped ∧
  (∀ k, (State.reset.slot k).st = .idle) ∧ (∀ e < 128, State.reset.pends e = false) ∧ State.reset.class1 = false

/-- Every step keeps the three byte memories, the pool, DRAM and the reserve store, in canonical form: equal contents are equal data. -/
def Obligations.MemoriesStayCanonical : Prop := ∀ s t : State, memOk s = true → step s = .next t → memOk t = true

/-- Every step completes; it leaves no Fuller core with more than four loops or eight calls (R225, R226), takes commands from the front of the queue only,
and never changes what the module was built as. -/
def Obligations.StepsKeepStacksAndQueue : Prop := ∀ s : State, coresOk s = true → ∃ t, step s = .next t ∧ coresOk t = true ∧ queueOf s t
end

