-- ==== Sys2Proof/Laws/Sparse.lean ====
section
/-! SUPPORT. The laws of the sparse maps and the byte memories: read after write, the frame of a write, and that every operation keeps
the canonical form. -/

namespace Sys2Proof.Machine

variable {α : Type}

/-! ## Reading after a change -/

@[simp] theorem spGet_nil (d : α) (k : Nat) : spGet d [] k = d := rfl
@[simp] theorem spFind_nil (k : Nat) : spFind ([] : Sparse α) k = none := rfl

@[simp] theorem spGet_spDel_same (d : α) (m : Sparse α) (k : Nat) : spGet d (spDel m k) k = d := by
  induction m with
  | nil => rfl
  | cons p m ih =>
    obtain ⟨j, v⟩ := p
    by_cases h : j = k <;> simp [spDel, spGet, h, ih]

theorem spGet_spDel_ne (d : α) (m : Sparse α) {k j : Nat} (h : j ≠ k) : spGet d (spDel m k) j = spGet d m j := by
  induction m with
  | nil => rfl
  | cons p m ih =>
    obtain ⟨i, v⟩ := p
    by_cases hi : i = k
    · subst hi
      simp [spDel, spGet, ih, Ne.symm h]
    · rcases eq_or_ne i j with rfl | hj <;> simp_all [spDel, spGet]

theorem spGet_spIns_same (d : α) (m : Sparse α) (k : Nat) (v : α) (h : spFind m k = none) : spGet d (spIns k v m) k = v := by
  induction m with
  | nil => simp [spIns, spGet]
  | cons p m ih =>
    obtain ⟨j, w⟩ := p
    have hj : j ≠ k := by
      intro e
      simp [spFind, e] at h
    have hm : spFind m k = none := by simpa [spFind, hj] using h
    by_cases hk : k < j <;> simp [spIns, spGet, hk, hj, ih hm]

theorem spGet_spIns_ne (d : α) (m : Sparse α) {k j : Nat} (v : α) (h : j ≠ k) : spGet d (spIns k v m) j = spGet d m j := by
  induction m with
  | nil => simp [spIns, spGet, Ne.symm h]
  | cons p m ih =>
    obtain ⟨i, w⟩ := p
    by_cases hk : k < i
    · simp [spIns, spGet, hk, Ne.symm h]
    · rw [spIns, if_neg hk]
      by_cases hj : i = j <;> simp [spGet, hj, ih]

@[simp] theorem spFind_spDel_same (m : Sparse α) (k : Nat) : spFind (spDel m k) k = none := by
  induction m with
  | nil => rfl
  | cons p m ih =>
    obtain ⟨j, v⟩ := p
    by_cases h : j = k <;> simp [spDel, spFind, h, ih]

@[simp] theorem spGet_spPut_same (d : α) (m : Sparse α) (k : Nat) (v : α) : spGet d (spPut m k v) k = v :=
  spGet_spIns_same d _ k v (spFind_spDel_same m k)

theorem spGet_spPut_ne (d : α) (m : Sparse α) {k j : Nat} (v : α) (h : j ≠ k) : spGet d (spPut m k v) j = spGet d m j := by
  rw [spPut, spGet_spIns_ne d _ v h, spGet_spDel_ne d m h]

/-- A read gives the value last written. -/
@[simp] theorem spGet_spSet_same [DecidableEq α] (d : α) (m : Sparse α) (k : Nat) (v : α) : spGet d (spSet d m k v) k = v := by
  by_cases h : v = d <;> simp [spSet, h]

/-- A write leaves every other key as it was. -/
theorem spGet_spSet_ne [DecidableEq α] (d e : α) (m : Sparse α) {k j : Nat} (v : α) (h : j ≠ k) :
    spGet e (spSet d m k v) j = spGet e m j := by
  by_cases hv : v = d
  · simp [spSet, hv, spGet_spDel_ne e m h]
  · simp [spSet, hv, spGet_spPut_ne e m v h]

theorem spFind_spIns_same (m : Sparse α) (k : Nat) (v : α) (h : spFind m k = none) : spFind (spIns k v m) k = some v := by
  induction m with
  | nil => simp [spIns, spFind]
  | cons p m ih =>
    obtain ⟨j, w⟩ := p
    have hj : j ≠ k := by
      intro e
      simp [spFind, e] at h
    have hm : spFind m k = none := by simpa [spFind, hj] using h
    by_cases hk : k < j <;> simp [spIns, spFind, hk, hj, ih hm]

@[simp] theorem spFind_spPut_same (m : Sparse α) (k : Nat) (v : α) : spFind (spPut m k v) k = some v :=
  spFind_spIns_same _ k v (spFind_spDel_same m k)

theorem spFind_spDel_ne (m : Sparse α) {k j : Nat} (h : j ≠ k) : spFind (spDel m k) j = spFind m j := by
  induction m with
  | nil => rfl
  | cons p m ih =>
    obtain ⟨i, v⟩ := p
    by_cases hi : i = k
    · subst hi
      simp [spDel, spFind, ih, Ne.symm h]
    · rcases eq_or_ne i j with rfl | hj <;> simp_all [spDel, spFind]

theorem spFind_spIns_ne (m : Sparse α) {k j : Nat} (v : α) (h : j ≠ k) : spFind (spIns k v m) j = spFind m j := by
  induction m with
  | nil => simp [spIns, spFind, Ne.symm h]
  | cons p m ih =>
    obtain ⟨i, w⟩ := p
    by_cases hk : k < i
    · simp [spIns, spFind, hk, Ne.symm h]
    · rw [spIns, if_neg hk]
      by_cases hj : i = j <;> simp [spFind, hj, ih]

theorem spFind_spPut_ne (m : Sparse α) {k j : Nat} (v : α) (h : j ≠ k) : spFind (spPut m k v) j = spFind m j := by
  rw [spPut, spFind_spIns_ne _ v h, spFind_spDel_ne m h]

/-- What an insertion lists was listed before, or is the new entry. -/
theorem mem_spIns {m : Sparse α} {k : Nat} {v : α} {p : Nat × α} (h : p ∈ spIns k v m) : p = (k, v) ∨ p ∈ m := by
  induction m with
  | nil => simpa [spIns] using h
  | cons q m ih =>
    obtain ⟨j, w⟩ := q
    by_cases hk : k < j
    · simpa [spIns, hk] using h
    · simp only [spIns, hk, if_false, List.mem_cons] at h
      rcases h with h | h
      · exact Or.inr (by simp [h])
      · rcases ih h with h | h
        · exact Or.inl h
        · exact Or.inr (by simp [h])

theorem mem_spDel {m : Sparse α} {k : Nat} {p : Nat × α} (h : p ∈ spDel m k) : p ∈ m := by
  induction m with
  | nil => simp [spDel] at h
  | cons q m ih =>
    obtain ⟨j, w⟩ := q
    by_cases hk : j = k
    · simp only [spDel, hk, if_true] at h
      exact List.mem_cons_of_mem _ (ih h)
    · simp only [spDel, hk, if_false, List.mem_cons] at h
      rcases h with h | h
      · simp [h]
      · exact List.mem_cons_of_mem _ (ih h)

/-- What a map lists after a key has been put was listed before, or is the new entry. -/
theorem mem_spPut {m : Sparse α} {k : Nat} {v : α} {p : Nat × α} (h : p ∈ spPut m k v) : p = (k, v) ∨ p ∈ m :=
  (mem_spIns h).imp id mem_spDel

/-- A listed value is one that a search finds in the map. -/
theorem mem_of_spFind {m : Sparse α} {k : Nat} {v : α} (h : spFind m k = some v) : (k, v) ∈ m := by
  induction m with
  | nil => simp at h
  | cons q m ih =>
    obtain ⟨j, w⟩ := q
    by_cases hk : j = k
    · subst hk
      simp [spFind] at h
      simp [h]
    · simp only [spFind, hk, if_false] at h
      exact List.mem_cons_of_mem _ (ih h)

/-! ## The canonical form -/

theorem spCanonFrom_weaken [DecidableEq α] {d : Nat → α} {m : Sparse α} {lo : Nat} (h : spCanonFrom d (some lo) m = true) :
    spCanonFrom d none m = true := by
  cases m with
  | nil => rfl
  | cons p m => simp_all [spCanonFrom]

theorem spCanonFrom_lower [DecidableEq α] {d : Nat → α} {m : Sparse α} {lo lo' : Nat} (hl : lo' ≤ lo)
    (h : spCanonFrom d (some lo) m = true) : spCanonFrom d (some lo') m = true := by
  cases m with
  | nil => rfl
  | cons p m =>
    obtain ⟨j, v⟩ := p
    simp only [spCanonFrom, Bool.and_eq_true, decide_eq_true_eq] at h ⊢
    exact ⟨⟨by omega, h.1.2⟩, h.2⟩

theorem spCanonFrom_spDel [DecidableEq α] {d : Nat → α} {m : Sparse α} (k : Nat) :
    ∀ lo : Option Nat, spCanonFrom d lo m = true → spCanonFrom d lo (spDel m k) = true := by
  induction m with
  | nil => intro lo _; rfl
  | cons p m ih =>
    obtain ⟨j, v⟩ := p
    intro lo h
    simp only [spCanonFrom, Bool.and_eq_true] at h
    by_cases hk : j = k
    · simp only [spDel, hk, if_true]
      have h2 := ih (some j) h.2
      cases lo with
      | none => exact spCanonFrom_weaken h2
      | some l =>
        have hl : l < j := by simpa using h.1.1
        exact spCanonFrom_lower (Nat.le_of_lt hl) h2
    · simp only [spDel, hk, if_false, spCanonFrom, Bool.and_eq_true]
      exact ⟨h.1, ih (some j) h.2⟩

theorem spCanonFrom_spIns [DecidableEq α] {d : Nat → α} {k : Nat} {v : α} (hv : v ≠ d k) {m : Sparse α} (hm : spFind m k = none) :
    ∀ lo : Option Nat, (∀ l, lo = some l → l < k) → spCanonFrom d lo m = true → spCanonFrom d lo (spIns k v m) = true := by
  induction m with
  | nil =>
    intro lo hl _
    cases lo with
    | none => simp [spIns, spCanonFrom, hv]
    | some l => simp [spIns, spCanonFrom, hv, hl l rfl]
  | cons p m ih =>
    obtain ⟨j, w⟩ := p
    intro lo hl h
    have hj : j ≠ k := by
      intro e
      simp [spFind, e] at hm
    have hm' : spFind m k = none := by simpa [spFind, hj] using hm
    simp only [spCanonFrom, Bool.and_eq_true] at h
    by_cases hk : k < j
    · simp only [spIns, hk, if_true, spCanonFrom, Bool.and_eq_true]
      refine ⟨⟨?_, by simp [hv]⟩, ⟨by simpa using hk, h.1.2⟩, h.2⟩
      cases lo with
      | none => rfl
      | some l => simpa using hl l rfl
    · simp only [spIns, hk, if_false, spCanonFrom, Bool.and_eq_true]
      refine ⟨h.1, ih hm' (some j) ?_ h.2⟩
      intro l e
      cases e
      omega

/-- A write keeps the canonical form. -/
theorem spCanon_spSet [DecidableEq α] (d : Nat → α) (m : Sparse α) (k : Nat) (v : α) (h : spCanon d m = true) :
    spCanon d (spSet (d k) m k v) = true := by
  have hd := spCanonFrom_spDel k none h
  by_cases hv : v = d k
  · simpa [spSet, hv, spCanon] using hd
  · have : spCanonFrom d none (spIns k v (spDel m k)) = true :=
      spCanonFrom_spIns hv (spFind_spDel_same m k) none (by simp) hd
    simpa [spSet, hv, spCanon, spPut] using this

theorem spCanonFrom_spClear [DecidableEq α] {d : Nat → α} {m : Sparse α} (lo hi : Nat) :
    ∀ b : Option Nat, spCanonFrom d b m = true → spCanonFrom d b (spClear m lo hi) = true := by
  induction m with
  | nil => intro b _; rfl
  | cons p m ih =>
    obtain ⟨j, v⟩ := p
    intro b h
    simp only [spCanonFrom, Bool.and_eq_true] at h
    by_cases hk : lo ≤ j ∧ j < hi
    · simp only [spClear, hk, if_true]
      have h2 := ih (some j) h.2
      cases b with
      | none => exact spCanonFrom_weaken h2
      | some l =>
        have hl : l < j := by simpa using h.1.1
        exact spCanonFrom_lower (Nat.le_of_lt hl) h2
    · simp only [spClear, hk, if_false, spCanonFrom, Bool.and_eq_true]
      exact ⟨h.1, ih (some j) h.2⟩

/-! ## The byte memories -/

/-- Every store keeps the canonical form of a memory. -/
theorem memWrite_wf (m : Sparse Byte) (a : Nat) (bs : List Byte) (h : Memory.wf m = true) : Memory.wf (memWrite m a bs) = true := by
  unfold memWrite
  induction bs generalizing m a with
  | nil => exact h
  | cons b bs ih => exact ih _ _ (spCanon_spSet (fun _ => (0 : Byte)) m a b h)

/-- Clearing keeps the canonical form of a memory. -/
theorem memClear_wf (m : Sparse Byte) (a n : Nat) (h : Memory.wf m = true) : Memory.wf (memClear m a n) = true :=
  spCanonFrom_spClear a (a + n) none h

theorem spGet_spSetAll_below [DecidableEq α] (d : α) (m : Sparse α) (k : Nat) (vs : List α) {j : Nat} (h : j < k) :
    spGet d (spSetAll d m k vs) j = spGet d m j := by
  induction vs generalizing m k with
  | nil => rfl
  | cons v vs ih => rw [spSetAll, ih _ _ (by omega), spGet_spSet_ne d d m v (by omega)]

theorem spGet_spSetAll_above [DecidableEq α] (d : α) (m : Sparse α) (k : Nat) (vs : List α) {j : Nat} (h : k + vs.length ≤ j) :
    spGet d (spSetAll d m k vs) j = spGet d m j := by
  induction vs generalizing m k with
  | nil => rfl
  | cons v vs ih =>
    simp only [List.length_cons] at h
    rw [spSetAll, ih _ _ (by omega), spGet_spSet_ne d d m v (by omega)]

/-- A byte outside the bytes stored reads as before. -/
theorem memWrite_other (m : Sparse Byte) (a : Nat) (bs : List Byte) {j : Nat} (h : j < a ∨ a + bs.length ≤ j) :
    spGet 0 (memWrite m a bs) j = spGet 0 m j := by
  rcases h with h | h
  · exact spGet_spSetAll_below 0 m a bs h
  · exact spGet_spSetAll_above 0 m a bs h

/-- The bytes stored are read back. -/
theorem memRead_memWrite (m : Sparse Byte) (a : Nat) (bs : List Byte) : memRead (memWrite m a bs) a bs.length = bs := by
  unfold memRead memWrite
  induction bs generalizing m a with
  | nil => rfl
  | cons b bs ih =>
    simp only [List.length_cons, spRun, spSetAll]
    rw [spGet_spSetAll_below _ _ _ _ (Nat.lt_succ_self a), spGet_spSet_same, ih]

end Sys2Proof.Machine
end

