-- ==== Sys2Proof/Laws/State.lean ====
section
/-! SUPPORT. One lemma for each field of the state under each update that the meanings are built from, so that no proof unfolds a
record update. -/

namespace Sys2Proof.Machine

variable (s : State)

/-! ## `wr`: a register takes a value -/

@[simp] theorem wr_pending (a : Nat) (v : W32) : (s.wr a v).pending = s.pending := rfl
@[simp] theorem wr_fit (a : Nat) (v : W32) : (s.wr a v).fit = s.fit := rfl
@[simp] theorem wr_regs (a : Nat) (v : W32) : (s.wr a v).regs = spSet (resetVal a) s.regs a v := rfl
@[simp] theorem wr_out (a : Nat) (v : W32) : (s.wr a v).out = s.out := rfl
@[simp] theorem wr_free (a : Nat) (v : W32) : (s.wr a v).free = s.free := rfl
@[simp] theorem wr_sys (a : Nat) (v : W32) : (s.wr a v).sys = s.sys := rfl
@[simp] theorem wr_jobs (a : Nat) (v : W32) : (s.wr a v).jobs = s.jobs := rfl
@[simp] theorem wr_ledger (a : Nat) (v : W32) : (s.wr a v).ledger = s.ledger := rfl
@[simp] theorem wr_img (a : Nat) (v : W32) : (s.wr a v).img = s.img := rfl
@[simp] theorem wr_graph (a : Nat) (v : W32) : (s.wr a v).graph = s.graph := rfl
@[simp] theorem wr_canopy (a : Nat) (v : W32) : (s.wr a v).canopy = s.canopy := rfl
@[simp] theorem wr_cores (a : Nat) (v : W32) : (s.wr a v).cores = s.cores := rfl
@[simp] theorem wr_ports (a : Nat) (v : W32) : (s.wr a v).ports = s.ports := rfl
@[simp] theorem wr_clk (a : Nat) (v : W32) : (s.wr a v).clk = s.clk := rfl
@[simp] theorem wr_net (a : Nat) (v : W32) : (s.wr a v).net = s.net := rfl
@[simp] theorem wr_tim (a : Nat) (v : W32) : (s.wr a v).tim = s.tim := rfl
@[simp] theorem wr_pps (a : Nat) (v : W32) : (s.wr a v).pps = s.pps := rfl
@[simp] theorem wr_dram (a : Nat) (v : W32) : (s.wr a v).dram = s.dram := rfl
@[simp] theorem wr_mem (a : Nat) (v : W32) : (s.wr a v).mem = s.mem := rfl
@[simp] theorem wr_trk (a : Nat) (v : W32) : (s.wr a v).trk = s.trk := rfl
@[simp] theorem wr_twn (a : Nat) (v : W32) : (s.wr a v).twn = s.twn := rfl
@[simp] theorem wr_hwd (a : Nat) (v : W32) : (s.wr a v).hwd = s.hwd := rfl
@[simp] theorem wr_prv (a : Nat) (v : W32) : (s.wr a v).prv = s.prv := rfl
@[simp] theorem wr_prs (a : Nat) (v : W32) : (s.wr a v).prs = s.prs := rfl
@[simp] theorem wr_pwd (a : Nat) (v : W32) : (s.wr a v).pwd = s.pwd := rfl
@[simp] theorem wr_mon (a : Nat) (v : W32) : (s.wr a v).mon = s.mon := rfl

/-! ## `unwr`: a register takes its reset value -/

@[simp] theorem unwr_pending (a : Nat) : (s.unwr a).pending = s.pending := rfl
@[simp] theorem unwr_fit (a : Nat) : (s.unwr a).fit = s.fit := rfl
@[simp] theorem unwr_regs (a : Nat) : (s.unwr a).regs = spDel s.regs a := rfl
@[simp] theorem unwr_out (a : Nat) : (s.unwr a).out = s.out := rfl
@[simp] theorem unwr_free (a : Nat) : (s.unwr a).free = s.free := rfl
@[simp] theorem unwr_sys (a : Nat) : (s.unwr a).sys = s.sys := rfl
@[simp] theorem unwr_jobs (a : Nat) : (s.unwr a).jobs = s.jobs := rfl
@[simp] theorem unwr_ledger (a : Nat) : (s.unwr a).ledger = s.ledger := rfl
@[simp] theorem unwr_img (a : Nat) : (s.unwr a).img = s.img := rfl
@[simp] theorem unwr_graph (a : Nat) : (s.unwr a).graph = s.graph := rfl
@[simp] theorem unwr_canopy (a : Nat) : (s.unwr a).canopy = s.canopy := rfl
@[simp] theorem unwr_cores (a : Nat) : (s.unwr a).cores = s.cores := rfl
@[simp] theorem unwr_ports (a : Nat) : (s.unwr a).ports = s.ports := rfl
@[simp] theorem unwr_clk (a : Nat) : (s.unwr a).clk = s.clk := rfl
@[simp] theorem unwr_net (a : Nat) : (s.unwr a).net = s.net := rfl
@[simp] theorem unwr_tim (a : Nat) : (s.unwr a).tim = s.tim := rfl
@[simp] theorem unwr_pps (a : Nat) : (s.unwr a).pps = s.pps := rfl
@[simp] theorem unwr_dram (a : Nat) : (s.unwr a).dram = s.dram := rfl
@[simp] theorem unwr_mem (a : Nat) : (s.unwr a).mem = s.mem := rfl
@[simp] theorem unwr_trk (a : Nat) : (s.unwr a).trk = s.trk := rfl
@[simp] theorem unwr_twn (a : Nat) : (s.unwr a).twn = s.twn := rfl
@[simp] theorem unwr_hwd (a : Nat) : (s.unwr a).hwd = s.hwd := rfl
@[simp] theorem unwr_prv (a : Nat) : (s.unwr a).prv = s.prv := rfl
@[simp] theorem unwr_prs (a : Nat) : (s.unwr a).prs = s.prs := rfl
@[simp] theorem unwr_pwd (a : Nat) : (s.unwr a).pwd = s.pwd := rfl
@[simp] theorem unwr_mon (a : Nat) : (s.unwr a).mon = s.mon := rfl

/-! ## `emit`: something leaves the module -/

@[simp] theorem emit_pending (o : Out) : (s.emit o).pending = s.pending := rfl
@[simp] theorem emit_fit (o : Out) : (s.emit o).fit = s.fit := rfl
@[simp] theorem emit_regs (o : Out) : (s.emit o).regs = s.regs := rfl
@[simp] theorem emit_out (o : Out) : (s.emit o).out = s.out ++ [o] := rfl
@[simp] theorem emit_free (o : Out) : (s.emit o).free = s.free := rfl
@[simp] theorem emit_sys (o : Out) : (s.emit o).sys = s.sys := rfl
@[simp] theorem emit_jobs (o : Out) : (s.emit o).jobs = s.jobs := rfl
@[simp] theorem emit_ledger (o : Out) : (s.emit o).ledger = s.ledger := rfl
@[simp] theorem emit_img (o : Out) : (s.emit o).img = s.img := rfl
@[simp] theorem emit_graph (o : Out) : (s.emit o).graph = s.graph := rfl
@[simp] theorem emit_canopy (o : Out) : (s.emit o).canopy = s.canopy := rfl
@[simp] theorem emit_cores (o : Out) : (s.emit o).cores = s.cores := rfl
@[simp] theorem emit_ports (o : Out) : (s.emit o).ports = s.ports := rfl
@[simp] theorem emit_clk (o : Out) : (s.emit o).clk = s.clk := rfl
@[simp] theorem emit_net (o : Out) : (s.emit o).net = s.net := rfl
@[simp] theorem emit_tim (o : Out) : (s.emit o).tim = s.tim := rfl
@[simp] theorem emit_pps (o : Out) : (s.emit o).pps = s.pps := rfl
@[simp] theorem emit_dram (o : Out) : (s.emit o).dram = s.dram := rfl
@[simp] theorem emit_mem (o : Out) : (s.emit o).mem = s.mem := rfl
@[simp] theorem emit_trk (o : Out) : (s.emit o).trk = s.trk := rfl
@[simp] theorem emit_twn (o : Out) : (s.emit o).twn = s.twn := rfl
@[simp] theorem emit_hwd (o : Out) : (s.emit o).hwd = s.hwd := rfl
@[simp] theorem emit_prv (o : Out) : (s.emit o).prv = s.prv := rfl
@[simp] theorem emit_prs (o : Out) : (s.emit o).prs = s.prs := rfl
@[simp] theorem emit_pwd (o : Out) : (s.emit o).pwd = s.pwd := rfl
@[simp] theorem emit_mon (o : Out) : (s.emit o).mon = s.mon := rfl

/-! ## `drawn`: a free value is drawn -/

@[simp] theorem drawn_pending : (s.drawn).pending = s.pending := rfl
@[simp] theorem drawn_fit : (s.drawn).fit = s.fit := rfl
@[simp] theorem drawn_regs : (s.drawn).regs = s.regs := rfl
@[simp] theorem drawn_out : (s.drawn).out = s.out := rfl
@[simp] theorem drawn_free : (s.drawn).free = s.free + 1 := rfl
@[simp] theorem drawn_sys : (s.drawn).sys = s.sys := rfl
@[simp] theorem drawn_jobs : (s.drawn).jobs = s.jobs := rfl
@[simp] theorem drawn_ledger : (s.drawn).ledger = s.ledger := rfl
@[simp] theorem drawn_img : (s.drawn).img = s.img := rfl
@[simp] theorem drawn_graph : (s.drawn).graph = s.graph := rfl
@[simp] theorem drawn_canopy : (s.drawn).canopy = s.canopy := rfl
@[simp] theorem drawn_cores : (s.drawn).cores = s.cores := rfl
@[simp] theorem drawn_ports : (s.drawn).ports = s.ports := rfl
@[simp] theorem drawn_clk : (s.drawn).clk = s.clk := rfl
@[simp] theorem drawn_net : (s.drawn).net = s.net := rfl
@[simp] theorem drawn_tim : (s.drawn).tim = s.tim := rfl
@[simp] theorem drawn_pps : (s.drawn).pps = s.pps := rfl
@[simp] theorem drawn_dram : (s.drawn).dram = s.dram := rfl
@[simp] theorem drawn_mem : (s.drawn).mem = s.mem := rfl
@[simp] theorem drawn_trk : (s.drawn).trk = s.trk := rfl
@[simp] theorem drawn_twn : (s.drawn).twn = s.twn := rfl
@[simp] theorem drawn_hwd : (s.drawn).hwd = s.hwd := rfl
@[simp] theorem drawn_prv : (s.drawn).prv = s.prv := rfl
@[simp] theorem drawn_prs : (s.drawn).prs = s.prs := rfl
@[simp] theorem drawn_pwd : (s.drawn).pwd = s.pwd := rfl
@[simp] theorem drawn_mon : (s.drawn).mon = s.mon := rfl

/-! ## `modSys`: the part `sys` changes -/

@[simp] theorem modSys_pending (f : SysSt → SysSt) : (s.modSys f).pending = s.pending := rfl
@[simp] theorem modSys_fit (f : SysSt → SysSt) : (s.modSys f).fit = s.fit := rfl
@[simp] theorem modSys_regs (f : SysSt → SysSt) : (s.modSys f).regs = s.regs := rfl
@[simp] theorem modSys_out (f : SysSt → SysSt) : (s.modSys f).out = s.out := rfl
@[simp] theorem modSys_free (f : SysSt → SysSt) : (s.modSys f).free = s.free := rfl
@[simp] theorem modSys_sys (f : SysSt → SysSt) : (s.modSys f).sys = f s.sys := rfl
@[simp] theorem modSys_jobs (f : SysSt → SysSt) : (s.modSys f).jobs = s.jobs := rfl
@[simp] theorem modSys_ledger (f : SysSt → SysSt) : (s.modSys f).ledger = s.ledger := rfl
@[simp] theorem modSys_img (f : SysSt → SysSt) : (s.modSys f).img = s.img := rfl
@[simp] theorem modSys_graph (f : SysSt → SysSt) : (s.modSys f).graph = s.graph := rfl
@[simp] theorem modSys_canopy (f : SysSt → SysSt) : (s.modSys f).canopy = s.canopy := rfl
@[simp] theorem modSys_cores (f : SysSt → SysSt) : (s.modSys f).cores = s.cores := rfl
@[simp] theorem modSys_ports (f : SysSt → SysSt) : (s.modSys f).ports = s.ports := rfl
@[simp] theorem modSys_clk (f : SysSt → SysSt) : (s.modSys f).clk = s.clk := rfl
@[simp] theorem modSys_net (f : SysSt → SysSt) : (s.modSys f).net = s.net := rfl
@[simp] theorem modSys_tim (f : SysSt → SysSt) : (s.modSys f).tim = s.tim := rfl
@[simp] theorem modSys_pps (f : SysSt → SysSt) : (s.modSys f).pps = s.pps := rfl
@[simp] theorem modSys_dram (f : SysSt → SysSt) : (s.modSys f).dram = s.dram := rfl
@[simp] theorem modSys_mem (f : SysSt → SysSt) : (s.modSys f).mem = s.mem := rfl
@[simp] theorem modSys_trk (f : SysSt → SysSt) : (s.modSys f).trk = s.trk := rfl
@[simp] theorem modSys_twn (f : SysSt → SysSt) : (s.modSys f).twn = s.twn := rfl
@[simp] theorem modSys_hwd (f : SysSt → SysSt) : (s.modSys f).hwd = s.hwd := rfl
@[simp] theorem modSys_prv (f : SysSt → SysSt) : (s.modSys f).prv = s.prv := rfl
@[simp] theorem modSys_prs (f : SysSt → SysSt) : (s.modSys f).prs = s.prs := rfl
@[simp] theorem modSys_pwd (f : SysSt → SysSt) : (s.modSys f).pwd = s.pwd := rfl
@[simp] theorem modSys_mon (f : SysSt → SysSt) : (s.modSys f).mon = s.mon := rfl

/-! ## `modLedger`: the part `ledger` changes -/

@[simp] theorem modLedger_pending (f : LedgerState → LedgerState) : (s.modLedger f).pending = s.pending := rfl
@[simp] theorem modLedger_fit (f : LedgerState → LedgerState) : (s.modLedger f).fit = s.fit := rfl
@[simp] theorem modLedger_regs (f : LedgerState → LedgerState) : (s.modLedger f).regs = s.regs := rfl
@[simp] theorem modLedger_out (f : LedgerState → LedgerState) : (s.modLedger f).out = s.out := rfl
@[simp] theorem modLedger_free (f : LedgerState → LedgerState) : (s.modLedger f).free = s.free := rfl
@[simp] theorem modLedger_sys (f : LedgerState → LedgerState) : (s.modLedger f).sys = s.sys := rfl
@[simp] theorem modLedger_jobs (f : LedgerState → LedgerState) : (s.modLedger f).jobs = s.jobs := rfl
@[simp] theorem modLedger_ledger (f : LedgerState → LedgerState) : (s.modLedger f).ledger = f s.ledger := rfl
@[simp] theorem modLedger_img (f : LedgerState → LedgerState) : (s.modLedger f).img = s.img := rfl
@[simp] theorem modLedger_graph (f : LedgerState → LedgerState) : (s.modLedger f).graph = s.graph := rfl
@[simp] theorem modLedger_canopy (f : LedgerState → LedgerState) : (s.modLedger f).canopy = s.canopy := rfl
@[simp] theorem modLedger_cores (f : LedgerState → LedgerState) : (s.modLedger f).cores = s.cores := rfl
@[simp] theorem modLedger_ports (f : LedgerState → LedgerState) : (s.modLedger f).ports = s.ports := rfl
@[simp] theorem modLedger_clk (f : LedgerState → LedgerState) : (s.modLedger f).clk = s.clk := rfl
@[simp] theorem modLedger_net (f : LedgerState → LedgerState) : (s.modLedger f).net = s.net := rfl
@[simp] theorem modLedger_tim (f : LedgerState → LedgerState) : (s.modLedger f).tim = s.tim := rfl
@[simp] theorem modLedger_pps (f : LedgerState → LedgerState) : (s.modLedger f).pps = s.pps := rfl
@[simp] theorem modLedger_dram (f : LedgerState → LedgerState) : (s.modLedger f).dram = s.dram := rfl
@[simp] theorem modLedger_mem (f : LedgerState → LedgerState) : (s.modLedger f).mem = s.mem := rfl
@[simp] theorem modLedger_trk (f : LedgerState → LedgerState) : (s.modLedger f).trk = s.trk := rfl
@[simp] theorem modLedger_twn (f : LedgerState → LedgerState) : (s.modLedger f).twn = s.twn := rfl
@[simp] theorem modLedger_hwd (f : LedgerState → LedgerState) : (s.modLedger f).hwd = s.hwd := rfl
@[simp] theorem modLedger_prv (f : LedgerState → LedgerState) : (s.modLedger f).prv = s.prv := rfl
@[simp] theorem modLedger_prs (f : LedgerState → LedgerState) : (s.modLedger f).prs = s.prs := rfl
@[simp] theorem modLedger_pwd (f : LedgerState → LedgerState) : (s.modLedger f).pwd = s.pwd := rfl
@[simp] theorem modLedger_mon (f : LedgerState → LedgerState) : (s.modLedger f).mon = s.mon := rfl

/-! ## `modImg`: the part `img` changes -/

@[simp] theorem modImg_pending (f : ImgSt → ImgSt) : (s.modImg f).pending = s.pending := rfl
@[simp] theorem modImg_fit (f : ImgSt → ImgSt) : (s.modImg f).fit = s.fit := rfl
@[simp] theorem modImg_regs (f : ImgSt → ImgSt) : (s.modImg f).regs = s.regs := rfl
@[simp] theorem modImg_out (f : ImgSt → ImgSt) : (s.modImg f).out = s.out := rfl
@[simp] theorem modImg_free (f : ImgSt → ImgSt) : (s.modImg f).free = s.free := rfl
@[simp] theorem modImg_sys (f : ImgSt → ImgSt) : (s.modImg f).sys = s.sys := rfl
@[simp] theorem modImg_jobs (f : ImgSt → ImgSt) : (s.modImg f).jobs = s.jobs := rfl
@[simp] theorem modImg_ledger (f : ImgSt → ImgSt) : (s.modImg f).ledger = s.ledger := rfl
@[simp] theorem modImg_img (f : ImgSt → ImgSt) : (s.modImg f).img = f s.img := rfl
@[simp] theorem modImg_graph (f : ImgSt → ImgSt) : (s.modImg f).graph = s.graph := rfl
@[simp] theorem modImg_canopy (f : ImgSt → ImgSt) : (s.modImg f).canopy = s.canopy := rfl
@[simp] theorem modImg_cores (f : ImgSt → ImgSt) : (s.modImg f).cores = s.cores := rfl
@[simp] theorem modImg_ports (f : ImgSt → ImgSt) : (s.modImg f).ports = s.ports := rfl
@[simp] theorem modImg_clk (f : ImgSt → ImgSt) : (s.modImg f).clk = s.clk := rfl
@[simp] theorem modImg_net (f : ImgSt → ImgSt) : (s.modImg f).net = s.net := rfl
@[simp] theorem modImg_tim (f : ImgSt → ImgSt) : (s.modImg f).tim = s.tim := rfl
@[simp] theorem modImg_pps (f : ImgSt → ImgSt) : (s.modImg f).pps = s.pps := rfl
@[simp] theorem modImg_dram (f : ImgSt → ImgSt) : (s.modImg f).dram = s.dram := rfl
@[simp] theorem modImg_mem (f : ImgSt → ImgSt) : (s.modImg f).mem = s.mem := rfl
@[simp] theorem modImg_trk (f : ImgSt → ImgSt) : (s.modImg f).trk = s.trk := rfl
@[simp] theorem modImg_twn (f : ImgSt → ImgSt) : (s.modImg f).twn = s.twn := rfl
@[simp] theorem modImg_hwd (f : ImgSt → ImgSt) : (s.modImg f).hwd = s.hwd := rfl
@[simp] theorem modImg_prv (f : ImgSt → ImgSt) : (s.modImg f).prv = s.prv := rfl
@[simp] theorem modImg_prs (f : ImgSt → ImgSt) : (s.modImg f).prs = s.prs := rfl
@[simp] theorem modImg_pwd (f : ImgSt → ImgSt) : (s.modImg f).pwd = s.pwd := rfl
@[simp] theorem modImg_mon (f : ImgSt → ImgSt) : (s.modImg f).mon = s.mon := rfl

/-! ## `modClk`: the part `clk` changes -/

@[simp] theorem modClk_pending (f : ClkSt → ClkSt) : (s.modClk f).pending = s.pending := rfl
@[simp] theorem modClk_fit (f : ClkSt → ClkSt) : (s.modClk f).fit = s.fit := rfl
@[simp] theorem modClk_regs (f : ClkSt → ClkSt) : (s.modClk f).regs = s.regs := rfl
@[simp] theorem modClk_out (f : ClkSt → ClkSt) : (s.modClk f).out = s.out := rfl
@[simp] theorem modClk_free (f : ClkSt → ClkSt) : (s.modClk f).free = s.free := rfl
@[simp] theorem modClk_sys (f : ClkSt → ClkSt) : (s.modClk f).sys = s.sys := rfl
@[simp] theorem modClk_jobs (f : ClkSt → ClkSt) : (s.modClk f).jobs = s.jobs := rfl
@[simp] theorem modClk_ledger (f : ClkSt → ClkSt) : (s.modClk f).ledger = s.ledger := rfl
@[simp] theorem modClk_img (f : ClkSt → ClkSt) : (s.modClk f).img = s.img := rfl
@[simp] theorem modClk_graph (f : ClkSt → ClkSt) : (s.modClk f).graph = s.graph := rfl
@[simp] theorem modClk_canopy (f : ClkSt → ClkSt) : (s.modClk f).canopy = s.canopy := rfl
@[simp] theorem modClk_cores (f : ClkSt → ClkSt) : (s.modClk f).cores = s.cores := rfl
@[simp] theorem modClk_ports (f : ClkSt → ClkSt) : (s.modClk f).ports = s.ports := rfl
@[simp] theorem modClk_clk (f : ClkSt → ClkSt) : (s.modClk f).clk = f s.clk := rfl
@[simp] theorem modClk_net (f : ClkSt → ClkSt) : (s.modClk f).net = s.net := rfl
@[simp] theorem modClk_tim (f : ClkSt → ClkSt) : (s.modClk f).tim = s.tim := rfl
@[simp] theorem modClk_pps (f : ClkSt → ClkSt) : (s.modClk f).pps = s.pps := rfl
@[simp] theorem modClk_dram (f : ClkSt → ClkSt) : (s.modClk f).dram = s.dram := rfl
@[simp] theorem modClk_mem (f : ClkSt → ClkSt) : (s.modClk f).mem = s.mem := rfl
@[simp] theorem modClk_trk (f : ClkSt → ClkSt) : (s.modClk f).trk = s.trk := rfl
@[simp] theorem modClk_twn (f : ClkSt → ClkSt) : (s.modClk f).twn = s.twn := rfl
@[simp] theorem modClk_hwd (f : ClkSt → ClkSt) : (s.modClk f).hwd = s.hwd := rfl
@[simp] theorem modClk_prv (f : ClkSt → ClkSt) : (s.modClk f).prv = s.prv := rfl
@[simp] theorem modClk_prs (f : ClkSt → ClkSt) : (s.modClk f).prs = s.prs := rfl
@[simp] theorem modClk_pwd (f : ClkSt → ClkSt) : (s.modClk f).pwd = s.pwd := rfl
@[simp] theorem modClk_mon (f : ClkSt → ClkSt) : (s.modClk f).mon = s.mon := rfl

/-! ## `modTim`: the part `tim` changes -/

@[simp] theorem modTim_pending (f : TimSt → TimSt) : (s.modTim f).pending = s.pending := rfl
@[simp] theorem modTim_fit (f : TimSt → TimSt) : (s.modTim f).fit = s.fit := rfl
@[simp] theorem modTim_regs (f : TimSt → TimSt) : (s.modTim f).regs = s.regs := rfl
@[simp] theorem modTim_out (f : TimSt → TimSt) : (s.modTim f).out = s.out := rfl
@[simp] theorem modTim_free (f : TimSt → TimSt) : (s.modTim f).free = s.free := rfl
@[simp] theorem modTim_sys (f : TimSt → TimSt) : (s.modTim f).sys = s.sys := rfl
@[simp] theorem modTim_jobs (f : TimSt → TimSt) : (s.modTim f).jobs = s.jobs := rfl
@[simp] theorem modTim_ledger (f : TimSt → TimSt) : (s.modTim f).ledger = s.ledger := rfl
@[simp] theorem modTim_img (f : TimSt → TimSt) : (s.modTim f).img = s.img := rfl
@[simp] theorem modTim_graph (f : TimSt → TimSt) : (s.modTim f).graph = s.graph := rfl
@[simp] theorem modTim_canopy (f : TimSt → TimSt) : (s.modTim f).canopy = s.canopy := rfl
@[simp] theorem modTim_cores (f : TimSt → TimSt) : (s.modTim f).cores = s.cores := rfl
@[simp] theorem modTim_ports (f : TimSt → TimSt) : (s.modTim f).ports = s.ports := rfl
@[simp] theorem modTim_clk (f : TimSt → TimSt) : (s.modTim f).clk = s.clk := rfl
@[simp] theorem modTim_net (f : TimSt → TimSt) : (s.modTim f).net = s.net := rfl
@[simp] theorem modTim_tim (f : TimSt → TimSt) : (s.modTim f).tim = f s.tim := rfl
@[simp] theorem modTim_pps (f : TimSt → TimSt) : (s.modTim f).pps = s.pps := rfl
@[simp] theorem modTim_dram (f : TimSt → TimSt) : (s.modTim f).dram = s.dram := rfl
@[simp] theorem modTim_mem (f : TimSt → TimSt) : (s.modTim f).mem = s.mem := rfl
@[simp] theorem modTim_trk (f : TimSt → TimSt) : (s.modTim f).trk = s.trk := rfl
@[simp] theorem modTim_twn (f : TimSt → TimSt) : (s.modTim f).twn = s.twn := rfl
@[simp] theorem modTim_hwd (f : TimSt → TimSt) : (s.modTim f).hwd = s.hwd := rfl
@[simp] theorem modTim_prv (f : TimSt → TimSt) : (s.modTim f).prv = s.prv := rfl
@[simp] theorem modTim_prs (f : TimSt → TimSt) : (s.modTim f).prs = s.prs := rfl
@[simp] theorem modTim_pwd (f : TimSt → TimSt) : (s.modTim f).pwd = s.pwd := rfl
@[simp] theorem modTim_mon (f : TimSt → TimSt) : (s.modTim f).mon = s.mon := rfl

/-! ## `modMem`: the part `mem` changes -/

@[simp] theorem modMem_pending (f : MemSt → MemSt) : (s.modMem f).pending = s.pending := rfl
@[simp] theorem modMem_fit (f : MemSt → MemSt) : (s.modMem f).fit = s.fit := rfl
@[simp] theorem modMem_regs (f : MemSt → MemSt) : (s.modMem f).regs = s.regs := rfl
@[simp] theorem modMem_out (f : MemSt → MemSt) : (s.modMem f).out = s.out := rfl
@[simp] theorem modMem_free (f : MemSt → MemSt) : (s.modMem f).free = s.free := rfl
@[simp] theorem modMem_sys (f : MemSt → MemSt) : (s.modMem f).sys = s.sys := rfl
@[simp] theorem modMem_jobs (f : MemSt → MemSt) : (s.modMem f).jobs = s.jobs := rfl
@[simp] theorem modMem_ledger (f : MemSt → MemSt) : (s.modMem f).ledger = s.ledger := rfl
@[simp] theorem modMem_img (f : MemSt → MemSt) : (s.modMem f).img = s.img := rfl
@[simp] theorem modMem_graph (f : MemSt → MemSt) : (s.modMem f).graph = s.graph := rfl
@[simp] theorem modMem_canopy (f : MemSt → MemSt) : (s.modMem f).canopy = s.canopy := rfl
@[simp] theorem modMem_cores (f : MemSt → MemSt) : (s.modMem f).cores = s.cores := rfl
@[simp] theorem modMem_ports (f : MemSt → MemSt) : (s.modMem f).ports = s.ports := rfl
@[simp] theorem modMem_clk (f : MemSt → MemSt) : (s.modMem f).clk = s.clk := rfl
@[simp] theorem modMem_net (f : MemSt → MemSt) : (s.modMem f).net = s.net := rfl
@[simp] theorem modMem_tim (f : MemSt → MemSt) : (s.modMem f).tim = s.tim := rfl
@[simp] theorem modMem_pps (f : MemSt → MemSt) : (s.modMem f).pps = s.pps := rfl
@[simp] theorem modMem_dram (f : MemSt → MemSt) : (s.modMem f).dram = s.dram := rfl
@[simp] theorem modMem_mem (f : MemSt → MemSt) : (s.modMem f).mem = f s.mem := rfl
@[simp] theorem modMem_trk (f : MemSt → MemSt) : (s.modMem f).trk = s.trk := rfl
@[simp] theorem modMem_twn (f : MemSt → MemSt) : (s.modMem f).twn = s.twn := rfl
@[simp] theorem modMem_hwd (f : MemSt → MemSt) : (s.modMem f).hwd = s.hwd := rfl
@[simp] theorem modMem_prv (f : MemSt → MemSt) : (s.modMem f).prv = s.prv := rfl
@[simp] theorem modMem_prs (f : MemSt → MemSt) : (s.modMem f).prs = s.prs := rfl
@[simp] theorem modMem_pwd (f : MemSt → MemSt) : (s.modMem f).pwd = s.pwd := rfl
@[simp] theorem modMem_mon (f : MemSt → MemSt) : (s.modMem f).mon = s.mon := rfl

/-! ## `modTwn`: the part `twn` changes -/

@[simp] theorem modTwn_pending (f : TwnSt → TwnSt) : (s.modTwn f).pending = s.pending := rfl
@[simp] theorem modTwn_fit (f : TwnSt → TwnSt) : (s.modTwn f).fit = s.fit := rfl
@[simp] theorem modTwn_regs (f : TwnSt → TwnSt) : (s.modTwn f).regs = s.regs := rfl
@[simp] theorem modTwn_out (f : TwnSt → TwnSt) : (s.modTwn f).out = s.out := rfl
@[simp] theorem modTwn_free (f : TwnSt → TwnSt) : (s.modTwn f).free = s.free := rfl
@[simp] theorem modTwn_sys (f : TwnSt → TwnSt) : (s.modTwn f).sys = s.sys := rfl
@[simp] theorem modTwn_jobs (f : TwnSt → TwnSt) : (s.modTwn f).jobs = s.jobs := rfl
@[simp] theorem modTwn_ledger (f : TwnSt → TwnSt) : (s.modTwn f).ledger = s.ledger := rfl
@[simp] theorem modTwn_img (f : TwnSt → TwnSt) : (s.modTwn f).img = s.img := rfl
@[simp] theorem modTwn_graph (f : TwnSt → TwnSt) : (s.modTwn f).graph = s.graph := rfl
@[simp] theorem modTwn_canopy (f : TwnSt → TwnSt) : (s.modTwn f).canopy = s.canopy := rfl
@[simp] theorem modTwn_cores (f : TwnSt → TwnSt) : (s.modTwn f).cores = s.cores := rfl
@[simp] theorem modTwn_ports (f : TwnSt → TwnSt) : (s.modTwn f).ports = s.ports := rfl
@[simp] theorem modTwn_clk (f : TwnSt → TwnSt) : (s.modTwn f).clk = s.clk := rfl
@[simp] theorem modTwn_net (f : TwnSt → TwnSt) : (s.modTwn f).net = s.net := rfl
@[simp] theorem modTwn_tim (f : TwnSt → TwnSt) : (s.modTwn f).tim = s.tim := rfl
@[simp] theorem modTwn_pps (f : TwnSt → TwnSt) : (s.modTwn f).pps = s.pps := rfl
@[simp] theorem modTwn_dram (f : TwnSt → TwnSt) : (s.modTwn f).dram = s.dram := rfl
@[simp] theorem modTwn_mem (f : TwnSt → TwnSt) : (s.modTwn f).mem = s.mem := rfl
@[simp] theorem modTwn_trk (f : TwnSt → TwnSt) : (s.modTwn f).trk = s.trk := rfl
@[simp] theorem modTwn_twn (f : TwnSt → TwnSt) : (s.modTwn f).twn = f s.twn := rfl
@[simp] theorem modTwn_hwd (f : TwnSt → TwnSt) : (s.modTwn f).hwd = s.hwd := rfl
@[simp] theorem modTwn_prv (f : TwnSt → TwnSt) : (s.modTwn f).prv = s.prv := rfl
@[simp] theorem modTwn_prs (f : TwnSt → TwnSt) : (s.modTwn f).prs = s.prs := rfl
@[simp] theorem modTwn_pwd (f : TwnSt → TwnSt) : (s.modTwn f).pwd = s.pwd := rfl
@[simp] theorem modTwn_mon (f : TwnSt → TwnSt) : (s.modTwn f).mon = s.mon := rfl

/-! ## `modHwd`: the part `hwd` changes -/

@[simp] theorem modHwd_pending (f : HwdSt → HwdSt) : (s.modHwd f).pending = s.pending := rfl
@[simp] theorem modHwd_fit (f : HwdSt → HwdSt) : (s.modHwd f).fit = s.fit := rfl
@[simp] theorem modHwd_regs (f : HwdSt → HwdSt) : (s.modHwd f).regs = s.regs := rfl
@[simp] theorem modHwd_out (f : HwdSt → HwdSt) : (s.modHwd f).out = s.out := rfl
@[simp] theorem modHwd_free (f : HwdSt → HwdSt) : (s.modHwd f).free = s.free := rfl
@[simp] theorem modHwd_sys (f : HwdSt → HwdSt) : (s.modHwd f).sys = s.sys := rfl
@[simp] theorem modHwd_jobs (f : HwdSt → HwdSt) : (s.modHwd f).jobs = s.jobs := rfl
@[simp] theorem modHwd_ledger (f : HwdSt → HwdSt) : (s.modHwd f).ledger = s.ledger := rfl
@[simp] theorem modHwd_img (f : HwdSt → HwdSt) : (s.modHwd f).img = s.img := rfl
@[simp] theorem modHwd_graph (f : HwdSt → HwdSt) : (s.modHwd f).graph = s.graph := rfl
@[simp] theorem modHwd_canopy (f : HwdSt → HwdSt) : (s.modHwd f).canopy = s.canopy := rfl
@[simp] theorem modHwd_cores (f : HwdSt → HwdSt) : (s.modHwd f).cores = s.cores := rfl
@[simp] theorem modHwd_ports (f : HwdSt → HwdSt) : (s.modHwd f).ports = s.ports := rfl
@[simp] theorem modHwd_clk (f : HwdSt → HwdSt) : (s.modHwd f).clk = s.clk := rfl
@[simp] theorem modHwd_net (f : HwdSt → HwdSt) : (s.modHwd f).net = s.net := rfl
@[simp] theorem modHwd_tim (f : HwdSt → HwdSt) : (s.modHwd f).tim = s.tim := rfl
@[simp] theorem modHwd_pps (f : HwdSt → HwdSt) : (s.modHwd f).pps = s.pps := rfl
@[simp] theorem modHwd_dram (f : HwdSt → HwdSt) : (s.modHwd f).dram = s.dram := rfl
@[simp] theorem modHwd_mem (f : HwdSt → HwdSt) : (s.modHwd f).mem = s.mem := rfl
@[simp] theorem modHwd_trk (f : HwdSt → HwdSt) : (s.modHwd f).trk = s.trk := rfl
@[simp] theorem modHwd_twn (f : HwdSt → HwdSt) : (s.modHwd f).twn = s.twn := rfl
@[simp] theorem modHwd_hwd (f : HwdSt → HwdSt) : (s.modHwd f).hwd = f s.hwd := rfl
@[simp] theorem modHwd_prv (f : HwdSt → HwdSt) : (s.modHwd f).prv = s.prv := rfl
@[simp] theorem modHwd_prs (f : HwdSt → HwdSt) : (s.modHwd f).prs = s.prs := rfl
@[simp] theorem modHwd_pwd (f : HwdSt → HwdSt) : (s.modHwd f).pwd = s.pwd := rfl
@[simp] theorem modHwd_mon (f : HwdSt → HwdSt) : (s.modHwd f).mon = s.mon := rfl

/-! ## `modPrv`: the part `prv` changes -/

@[simp] theorem modPrv_pending (f : PrvSt → PrvSt) : (s.modPrv f).pending = s.pending := rfl
@[simp] theorem modPrv_fit (f : PrvSt → PrvSt) : (s.modPrv f).fit = s.fit := rfl
@[simp] theorem modPrv_regs (f : PrvSt → PrvSt) : (s.modPrv f).regs = s.regs := rfl
@[simp] theorem modPrv_out (f : PrvSt → PrvSt) : (s.modPrv f).out = s.out := rfl
@[simp] theorem modPrv_free (f : PrvSt → PrvSt) : (s.modPrv f).free = s.free := rfl
@[simp] theorem modPrv_sys (f : PrvSt → PrvSt) : (s.modPrv f).sys = s.sys := rfl
@[simp] theorem modPrv_jobs (f : PrvSt → PrvSt) : (s.modPrv f).jobs = s.jobs := rfl
@[simp] theorem modPrv_ledger (f : PrvSt → PrvSt) : (s.modPrv f).ledger = s.ledger := rfl
@[simp] theorem modPrv_img (f : PrvSt → PrvSt) : (s.modPrv f).img = s.img := rfl
@[simp] theorem modPrv_graph (f : PrvSt → PrvSt) : (s.modPrv f).graph = s.graph := rfl
@[simp] theorem modPrv_canopy (f : PrvSt → PrvSt) : (s.modPrv f).canopy = s.canopy := rfl
@[simp] theorem modPrv_cores (f : PrvSt → PrvSt) : (s.modPrv f).cores = s.cores := rfl
@[simp] theorem modPrv_ports (f : PrvSt → PrvSt) : (s.modPrv f).ports = s.ports := rfl
@[simp] theorem modPrv_clk (f : PrvSt → PrvSt) : (s.modPrv f).clk = s.clk := rfl
@[simp] theorem modPrv_net (f : PrvSt → PrvSt) : (s.modPrv f).net = s.net := rfl
@[simp] theorem modPrv_tim (f : PrvSt → PrvSt) : (s.modPrv f).tim = s.tim := rfl
@[simp] theorem modPrv_pps (f : PrvSt → PrvSt) : (s.modPrv f).pps = s.pps := rfl
@[simp] theorem modPrv_dram (f : PrvSt → PrvSt) : (s.modPrv f).dram = s.dram := rfl
@[simp] theorem modPrv_mem (f : PrvSt → PrvSt) : (s.modPrv f).mem = s.mem := rfl
@[simp] theorem modPrv_trk (f : PrvSt → PrvSt) : (s.modPrv f).trk = s.trk := rfl
@[simp] theorem modPrv_twn (f : PrvSt → PrvSt) : (s.modPrv f).twn = s.twn := rfl
@[simp] theorem modPrv_hwd (f : PrvSt → PrvSt) : (s.modPrv f).hwd = s.hwd := rfl
@[simp] theorem modPrv_prv (f : PrvSt → PrvSt) : (s.modPrv f).prv = f s.prv := rfl
@[simp] theorem modPrv_prs (f : PrvSt → PrvSt) : (s.modPrv f).prs = s.prs := rfl
@[simp] theorem modPrv_pwd (f : PrvSt → PrvSt) : (s.modPrv f).pwd = s.pwd := rfl
@[simp] theorem modPrv_mon (f : PrvSt → PrvSt) : (s.modPrv f).mon = s.mon := rfl

/-! ## `modPrs`: the part `prs` changes -/

@[simp] theorem modPrs_pending (f : PrsSt → PrsSt) : (s.modPrs f).pending = s.pending := rfl
@[simp] theorem modPrs_fit (f : PrsSt → PrsSt) : (s.modPrs f).fit = s.fit := rfl
@[simp] theorem modPrs_regs (f : PrsSt → PrsSt) : (s.modPrs f).regs = s.regs := rfl
@[simp] theorem modPrs_out (f : PrsSt → PrsSt) : (s.modPrs f).out = s.out := rfl
@[simp] theorem modPrs_free (f : PrsSt → PrsSt) : (s.modPrs f).free = s.free := rfl
@[simp] theorem modPrs_sys (f : PrsSt → PrsSt) : (s.modPrs f).sys = s.sys := rfl
@[simp] theorem modPrs_jobs (f : PrsSt → PrsSt) : (s.modPrs f).jobs = s.jobs := rfl
@[simp] theorem modPrs_ledger (f : PrsSt → PrsSt) : (s.modPrs f).ledger = s.ledger := rfl
@[simp] theorem modPrs_img (f : PrsSt → PrsSt) : (s.modPrs f).img = s.img := rfl
@[simp] theorem modPrs_graph (f : PrsSt → PrsSt) : (s.modPrs f).graph = s.graph := rfl
@[simp] theorem modPrs_canopy (f : PrsSt → PrsSt) : (s.modPrs f).canopy = s.canopy := rfl
@[simp] theorem modPrs_cores (f : PrsSt → PrsSt) : (s.modPrs f).cores = s.cores := rfl
@[simp] theorem modPrs_ports (f : PrsSt → PrsSt) : (s.modPrs f).ports = s.ports := rfl
@[simp] theorem modPrs_clk (f : PrsSt → PrsSt) : (s.modPrs f).clk = s.clk := rfl
@[simp] theorem modPrs_net (f : PrsSt → PrsSt) : (s.modPrs f).net = s.net := rfl
@[simp] theorem modPrs_tim (f : PrsSt → PrsSt) : (s.modPrs f).tim = s.tim := rfl
@[simp] theorem modPrs_pps (f : PrsSt → PrsSt) : (s.modPrs f).pps = s.pps := rfl
@[simp] theorem modPrs_dram (f : PrsSt → PrsSt) : (s.modPrs f).dram = s.dram := rfl
@[simp] theorem modPrs_mem (f : PrsSt → PrsSt) : (s.modPrs f).mem = s.mem := rfl
@[simp] theorem modPrs_trk (f : PrsSt → PrsSt) : (s.modPrs f).trk = s.trk := rfl
@[simp] theorem modPrs_twn (f : PrsSt → PrsSt) : (s.modPrs f).twn = s.twn := rfl
@[simp] theorem modPrs_hwd (f : PrsSt → PrsSt) : (s.modPrs f).hwd = s.hwd := rfl
@[simp] theorem modPrs_prv (f : PrsSt → PrsSt) : (s.modPrs f).prv = s.prv := rfl
@[simp] theorem modPrs_prs (f : PrsSt → PrsSt) : (s.modPrs f).prs = f s.prs := rfl
@[simp] theorem modPrs_pwd (f : PrsSt → PrsSt) : (s.modPrs f).pwd = s.pwd := rfl
@[simp] theorem modPrs_mon (f : PrsSt → PrsSt) : (s.modPrs f).mon = s.mon := rfl

/-! ## `modPwd`: the part `pwd` changes -/

@[simp] theorem modPwd_pending (f : PwdSt → PwdSt) : (s.modPwd f).pending = s.pending := rfl
@[simp] theorem modPwd_fit (f : PwdSt → PwdSt) : (s.modPwd f).fit = s.fit := rfl
@[simp] theorem modPwd_regs (f : PwdSt → PwdSt) : (s.modPwd f).regs = s.regs := rfl
@[simp] theorem modPwd_out (f : PwdSt → PwdSt) : (s.modPwd f).out = s.out := rfl
@[simp] theorem modPwd_free (f : PwdSt → PwdSt) : (s.modPwd f).free = s.free := rfl
@[simp] theorem modPwd_sys (f : PwdSt → PwdSt) : (s.modPwd f).sys = s.sys := rfl
@[simp] theorem modPwd_jobs (f : PwdSt → PwdSt) : (s.modPwd f).jobs = s.jobs := rfl
@[simp] theorem modPwd_ledger (f : PwdSt → PwdSt) : (s.modPwd f).ledger = s.ledger := rfl
@[simp] theorem modPwd_img (f : PwdSt → PwdSt) : (s.modPwd f).img = s.img := rfl
@[simp] theorem modPwd_graph (f : PwdSt → PwdSt) : (s.modPwd f).graph = s.graph := rfl
@[simp] theorem modPwd_canopy (f : PwdSt → PwdSt) : (s.modPwd f).canopy = s.canopy := rfl
@[simp] theorem modPwd_cores (f : PwdSt → PwdSt) : (s.modPwd f).cores = s.cores := rfl
@[simp] theorem modPwd_ports (f : PwdSt → PwdSt) : (s.modPwd f).ports = s.ports := rfl
@[simp] theorem modPwd_clk (f : PwdSt → PwdSt) : (s.modPwd f).clk = s.clk := rfl
@[simp] theorem modPwd_net (f : PwdSt → PwdSt) : (s.modPwd f).net = s.net := rfl
@[simp] theorem modPwd_tim (f : PwdSt → PwdSt) : (s.modPwd f).tim = s.tim := rfl
@[simp] theorem modPwd_pps (f : PwdSt → PwdSt) : (s.modPwd f).pps = s.pps := rfl
@[simp] theorem modPwd_dram (f : PwdSt → PwdSt) : (s.modPwd f).dram = s.dram := rfl
@[simp] theorem modPwd_mem (f : PwdSt → PwdSt) : (s.modPwd f).mem = s.mem := rfl
@[simp] theorem modPwd_trk (f : PwdSt → PwdSt) : (s.modPwd f).trk = s.trk := rfl
@[simp] theorem modPwd_twn (f : PwdSt → PwdSt) : (s.modPwd f).twn = s.twn := rfl
@[simp] theorem modPwd_hwd (f : PwdSt → PwdSt) : (s.modPwd f).hwd = s.hwd := rfl
@[simp] theorem modPwd_prv (f : PwdSt → PwdSt) : (s.modPwd f).prv = s.prv := rfl
@[simp] theorem modPwd_prs (f : PwdSt → PwdSt) : (s.modPwd f).prs = s.prs := rfl
@[simp] theorem modPwd_pwd (f : PwdSt → PwdSt) : (s.modPwd f).pwd = f s.pwd := rfl
@[simp] theorem modPwd_mon (f : PwdSt → PwdSt) : (s.modPwd f).mon = s.mon := rfl

/-! ## `modMon`: the part `mon` changes -/

@[simp] theorem modMon_pending (f : MonSt → MonSt) : (s.modMon f).pending = s.pending := rfl
@[simp] theorem modMon_fit (f : MonSt → MonSt) : (s.modMon f).fit = s.fit := rfl
@[simp] theorem modMon_regs (f : MonSt → MonSt) : (s.modMon f).regs = s.regs := rfl
@[simp] theorem modMon_out (f : MonSt → MonSt) : (s.modMon f).out = s.out := rfl
@[simp] theorem modMon_free (f : MonSt → MonSt) : (s.modMon f).free = s.free := rfl
@[simp] theorem modMon_sys (f : MonSt → MonSt) : (s.modMon f).sys = s.sys := rfl
@[simp] theorem modMon_jobs (f : MonSt → MonSt) : (s.modMon f).jobs = s.jobs := rfl
@[simp] theorem modMon_ledger (f : MonSt → MonSt) : (s.modMon f).ledger = s.ledger := rfl
@[simp] theorem modMon_img (f : MonSt → MonSt) : (s.modMon f).img = s.img := rfl
@[simp] theorem modMon_graph (f : MonSt → MonSt) : (s.modMon f).graph = s.graph := rfl
@[simp] theorem modMon_canopy (f : MonSt → MonSt) : (s.modMon f).canopy = s.canopy := rfl
@[simp] theorem modMon_cores (f : MonSt → MonSt) : (s.modMon f).cores = s.cores := rfl
@[simp] theorem modMon_ports (f : MonSt → MonSt) : (s.modMon f).ports = s.ports := rfl
@[simp] theorem modMon_clk (f : MonSt → MonSt) : (s.modMon f).clk = s.clk := rfl
@[simp] theorem modMon_net (f : MonSt → MonSt) : (s.modMon f).net = s.net := rfl
@[simp] theorem modMon_tim (f : MonSt → MonSt) : (s.modMon f).tim = s.tim := rfl
@[simp] theorem modMon_pps (f : MonSt → MonSt) : (s.modMon f).pps = s.pps := rfl
@[simp] theorem modMon_dram (f : MonSt → MonSt) : (s.modMon f).dram = s.dram := rfl
@[simp] theorem modMon_mem (f : MonSt → MonSt) : (s.modMon f).mem = s.mem := rfl
@[simp] theorem modMon_trk (f : MonSt → MonSt) : (s.modMon f).trk = s.trk := rfl
@[simp] theorem modMon_twn (f : MonSt → MonSt) : (s.modMon f).twn = s.twn := rfl
@[simp] theorem modMon_hwd (f : MonSt → MonSt) : (s.modMon f).hwd = s.hwd := rfl
@[simp] theorem modMon_prv (f : MonSt → MonSt) : (s.modMon f).prv = s.prv := rfl
@[simp] theorem modMon_prs (f : MonSt → MonSt) : (s.modMon f).prs = s.prs := rfl
@[simp] theorem modMon_pwd (f : MonSt → MonSt) : (s.modMon f).pwd = s.pwd := rfl
@[simp] theorem modMon_mon (f : MonSt → MonSt) : (s.modMon f).mon = f s.mon := rfl

/-! ## `setSlot`: a job slot changes -/

@[simp] theorem setSlot_pending (k : Nat) (j : JobSlot) : (s.setSlot k j).pending = s.pending := rfl
@[simp] theorem setSlot_fit (k : Nat) (j : JobSlot) : (s.setSlot k j).fit = s.fit := rfl
@[simp] theorem setSlot_regs (k : Nat) (j : JobSlot) : (s.setSlot k j).regs = s.regs := rfl
@[simp] theorem setSlot_out (k : Nat) (j : JobSlot) : (s.setSlot k j).out = s.out := rfl
@[simp] theorem setSlot_free (k : Nat) (j : JobSlot) : (s.setSlot k j).free = s.free := rfl
@[simp] theorem setSlot_sys (k : Nat) (j : JobSlot) : (s.setSlot k j).sys = s.sys := rfl
@[simp] theorem setSlot_jobs (k : Nat) (j : JobSlot) : (s.setSlot k j).jobs = spPut s.jobs k j := rfl
@[simp] theorem setSlot_ledger (k : Nat) (j : JobSlot) : (s.setSlot k j).ledger = s.ledger := rfl
@[simp] theorem setSlot_img (k : Nat) (j : JobSlot) : (s.setSlot k j).img = s.img := rfl
@[simp] theorem setSlot_graph (k : Nat) (j : JobSlot) : (s.setSlot k j).graph = s.graph := rfl
@[simp] theorem setSlot_canopy (k : Nat) (j : JobSlot) : (s.setSlot k j).canopy = s.canopy := rfl
@[simp] theorem setSlot_cores (k : Nat) (j : JobSlot) : (s.setSlot k j).cores = s.cores := rfl
@[simp] theorem setSlot_ports (k : Nat) (j : JobSlot) : (s.setSlot k j).ports = s.ports := rfl
@[simp] theorem setSlot_clk (k : Nat) (j : JobSlot) : (s.setSlot k j).clk = s.clk := rfl
@[simp] theorem setSlot_net (k : Nat) (j : JobSlot) : (s.setSlot k j).net = s.net := rfl
@[simp] theorem setSlot_tim (k : Nat) (j : JobSlot) : (s.setSlot k j).tim = s.tim := rfl
@[simp] theorem setSlot_pps (k : Nat) (j : JobSlot) : (s.setSlot k j).pps = s.pps := rfl
@[simp] theorem setSlot_dram (k : Nat) (j : JobSlot) : (s.setSlot k j).dram = s.dram := rfl
@[simp] theorem setSlot_mem (k : Nat) (j : JobSlot) : (s.setSlot k j).mem = s.mem := rfl
@[simp] theorem setSlot_trk (k : Nat) (j : JobSlot) : (s.setSlot k j).trk = s.trk := rfl
@[simp] theorem setSlot_twn (k : Nat) (j : JobSlot) : (s.setSlot k j).twn = s.twn := rfl
@[simp] theorem setSlot_hwd (k : Nat) (j : JobSlot) : (s.setSlot k j).hwd = s.hwd := rfl
@[simp] theorem setSlot_prv (k : Nat) (j : JobSlot) : (s.setSlot k j).prv = s.prv := rfl
@[simp] theorem setSlot_prs (k : Nat) (j : JobSlot) : (s.setSlot k j).prs = s.prs := rfl
@[simp] theorem setSlot_pwd (k : Nat) (j : JobSlot) : (s.setSlot k j).pwd = s.pwd := rfl
@[simp] theorem setSlot_mon (k : Nat) (j : JobSlot) : (s.setSlot k j).mon = s.mon := rfl

/-! ## `setCore`: a Fuller core changes -/

@[simp] theorem setCore_pending (k : Nat) (c : Core) : (s.setCore k c).pending = s.pending := rfl
@[simp] theorem setCore_fit (k : Nat) (c : Core) : (s.setCore k c).fit = s.fit := rfl
@[simp] theorem setCore_regs (k : Nat) (c : Core) : (s.setCore k c).regs = s.regs := rfl
@[simp] theorem setCore_out (k : Nat) (c : Core) : (s.setCore k c).out = s.out := rfl
@[simp] theorem setCore_free (k : Nat) (c : Core) : (s.setCore k c).free = s.free := rfl
@[simp] theorem setCore_sys (k : Nat) (c : Core) : (s.setCore k c).sys = s.sys := rfl
@[simp] theorem setCore_jobs (k : Nat) (c : Core) : (s.setCore k c).jobs = s.jobs := rfl
@[simp] theorem setCore_ledger (k : Nat) (c : Core) : (s.setCore k c).ledger = s.ledger := rfl
@[simp] theorem setCore_img (k : Nat) (c : Core) : (s.setCore k c).img = s.img := rfl
@[simp] theorem setCore_graph (k : Nat) (c : Core) : (s.setCore k c).graph = s.graph := rfl
@[simp] theorem setCore_canopy (k : Nat) (c : Core) : (s.setCore k c).canopy = s.canopy := rfl
@[simp] theorem setCore_cores (k : Nat) (c : Core) : (s.setCore k c).cores = spPut s.cores k c := rfl
@[simp] theorem setCore_ports (k : Nat) (c : Core) : (s.setCore k c).ports = s.ports := rfl
@[simp] theorem setCore_clk (k : Nat) (c : Core) : (s.setCore k c).clk = s.clk := rfl
@[simp] theorem setCore_net (k : Nat) (c : Core) : (s.setCore k c).net = s.net := rfl
@[simp] theorem setCore_tim (k : Nat) (c : Core) : (s.setCore k c).tim = s.tim := rfl
@[simp] theorem setCore_pps (k : Nat) (c : Core) : (s.setCore k c).pps = s.pps := rfl
@[simp] theorem setCore_dram (k : Nat) (c : Core) : (s.setCore k c).dram = s.dram := rfl
@[simp] theorem setCore_mem (k : Nat) (c : Core) : (s.setCore k c).mem = s.mem := rfl
@[simp] theorem setCore_trk (k : Nat) (c : Core) : (s.setCore k c).trk = s.trk := rfl
@[simp] theorem setCore_twn (k : Nat) (c : Core) : (s.setCore k c).twn = s.twn := rfl
@[simp] theorem setCore_hwd (k : Nat) (c : Core) : (s.setCore k c).hwd = s.hwd := rfl
@[simp] theorem setCore_prv (k : Nat) (c : Core) : (s.setCore k c).prv = s.prv := rfl
@[simp] theorem setCore_prs (k : Nat) (c : Core) : (s.setCore k c).prs = s.prs := rfl
@[simp] theorem setCore_pwd (k : Nat) (c : Core) : (s.setCore k c).pwd = s.pwd := rfl
@[simp] theorem setCore_mon (k : Nat) (c : Core) : (s.setCore k c).mon = s.mon := rfl

/-! ## `setPort`: an audio port changes -/

@[simp] theorem setPort_pending (p : Nat) (x : Port) : (s.setPort p x).pending = s.pending := rfl
@[simp] theorem setPort_fit (p : Nat) (x : Port) : (s.setPort p x).fit = s.fit := rfl
@[simp] theorem setPort_regs (p : Nat) (x : Port) : (s.setPort p x).regs = s.regs := rfl
@[simp] theorem setPort_out (p : Nat) (x : Port) : (s.setPort p x).out = s.out := rfl
@[simp] theorem setPort_free (p : Nat) (x : Port) : (s.setPort p x).free = s.free := rfl
@[simp] theorem setPort_sys (p : Nat) (x : Port) : (s.setPort p x).sys = s.sys := rfl
@[simp] theorem setPort_jobs (p : Nat) (x : Port) : (s.setPort p x).jobs = s.jobs := rfl
@[simp] theorem setPort_ledger (p : Nat) (x : Port) : (s.setPort p x).ledger = s.ledger := rfl
@[simp] theorem setPort_img (p : Nat) (x : Port) : (s.setPort p x).img = s.img := rfl
@[simp] theorem setPort_graph (p : Nat) (x : Port) : (s.setPort p x).graph = s.graph := rfl
@[simp] theorem setPort_canopy (p : Nat) (x : Port) : (s.setPort p x).canopy = s.canopy := rfl
@[simp] theorem setPort_cores (p : Nat) (x : Port) : (s.setPort p x).cores = s.cores := rfl
@[simp] theorem setPort_ports (p : Nat) (x : Port) : (s.setPort p x).ports = spPut s.ports p x := rfl
@[simp] theorem setPort_clk (p : Nat) (x : Port) : (s.setPort p x).clk = s.clk := rfl
@[simp] theorem setPort_net (p : Nat) (x : Port) : (s.setPort p x).net = s.net := rfl
@[simp] theorem setPort_tim (p : Nat) (x : Port) : (s.setPort p x).tim = s.tim := rfl
@[simp] theorem setPort_pps (p : Nat) (x : Port) : (s.setPort p x).pps = s.pps := rfl
@[simp] theorem setPort_dram (p : Nat) (x : Port) : (s.setPort p x).dram = s.dram := rfl
@[simp] theorem setPort_mem (p : Nat) (x : Port) : (s.setPort p x).mem = s.mem := rfl
@[simp] theorem setPort_trk (p : Nat) (x : Port) : (s.setPort p x).trk = s.trk := rfl
@[simp] theorem setPort_twn (p : Nat) (x : Port) : (s.setPort p x).twn = s.twn := rfl
@[simp] theorem setPort_hwd (p : Nat) (x : Port) : (s.setPort p x).hwd = s.hwd := rfl
@[simp] theorem setPort_prv (p : Nat) (x : Port) : (s.setPort p x).prv = s.prv := rfl
@[simp] theorem setPort_prs (p : Nat) (x : Port) : (s.setPort p x).prs = s.prs := rfl
@[simp] theorem setPort_pwd (p : Nat) (x : Port) : (s.setPort p x).pwd = s.pwd := rfl
@[simp] theorem setPort_mon (p : Nat) (x : Port) : (s.setPort p x).mon = s.mon := rfl

/-! ## The answer of a command -/

/-- What a command that has made the state t answers: the queue, what the module was built as, and the cores as given. -/
def State.answered (t s : State) (c : Sparse Core) : State := { t with pending := s.pending, fit := s.fit, cores := c }

@[simp] theorem answered_pending (a : State) (c : Sparse Core) : (s.answered a c).pending = a.pending := rfl
@[simp] theorem answered_fit (a : State) (c : Sparse Core) : (s.answered a c).fit = a.fit := rfl
@[simp] theorem answered_regs (a : State) (c : Sparse Core) : (s.answered a c).regs = s.regs := rfl
@[simp] theorem answered_out (a : State) (c : Sparse Core) : (s.answered a c).out = s.out := rfl
@[simp] theorem answered_free (a : State) (c : Sparse Core) : (s.answered a c).free = s.free := rfl
@[simp] theorem answered_sys (a : State) (c : Sparse Core) : (s.answered a c).sys = s.sys := rfl
@[simp] theorem answered_jobs (a : State) (c : Sparse Core) : (s.answered a c).jobs = s.jobs := rfl
@[simp] theorem answered_ledger (a : State) (c : Sparse Core) : (s.answered a c).ledger = s.ledger := rfl
@[simp] theorem answered_img (a : State) (c : Sparse Core) : (s.answered a c).img = s.img := rfl
@[simp] theorem answered_graph (a : State) (c : Sparse Core) : (s.answered a c).graph = s.graph := rfl
@[simp] theorem answered_canopy (a : State) (c : Sparse Core) : (s.answered a c).canopy = s.canopy := rfl
@[simp] theorem answered_cores (a : State) (c : Sparse Core) : (s.answered a c).cores = c := rfl
@[simp] theorem answered_ports (a : State) (c : Sparse Core) : (s.answered a c).ports = s.ports := rfl
@[simp] theorem answered_clk (a : State) (c : Sparse Core) : (s.answered a c).clk = s.clk := rfl
@[simp] theorem answered_net (a : State) (c : Sparse Core) : (s.answered a c).net = s.net := rfl
@[simp] theorem answered_tim (a : State) (c : Sparse Core) : (s.answered a c).tim = s.tim := rfl
@[simp] theorem answered_pps (a : State) (c : Sparse Core) : (s.answered a c).pps = s.pps := rfl
@[simp] theorem answered_dram (a : State) (c : Sparse Core) : (s.answered a c).dram = s.dram := rfl
@[simp] theorem answered_mem (a : State) (c : Sparse Core) : (s.answered a c).mem = s.mem := rfl
@[simp] theorem answered_trk (a : State) (c : Sparse Core) : (s.answered a c).trk = s.trk := rfl
@[simp] theorem answered_twn (a : State) (c : Sparse Core) : (s.answered a c).twn = s.twn := rfl
@[simp] theorem answered_hwd (a : State) (c : Sparse Core) : (s.answered a c).hwd = s.hwd := rfl
@[simp] theorem answered_prv (a : State) (c : Sparse Core) : (s.answered a c).prv = s.prv := rfl
@[simp] theorem answered_prs (a : State) (c : Sparse Core) : (s.answered a c).prs = s.prs := rfl
@[simp] theorem answered_pwd (a : State) (c : Sparse Core) : (s.answered a c).pwd = s.pwd := rfl
@[simp] theorem answered_mon (a : State) (c : Sparse Core) : (s.answered a c).mon = s.mon := rfl
@[simp] theorem answered_rd (a : State) (c : Sparse Core) (x : Nat) : (s.answered a c).rd x = s.rd x := rfl
@[simp] theorem answered_bit (a : State) (c : Sparse Core) (x i : Nat) : (s.answered a c).bit x i = s.bit x i := rfl
@[simp] theorem answered_pends (a : State) (c : Sparse Core) (e : Nat) : (s.answered a c).pends e = s.pends e := rfl

end Sys2Proof.Machine
end

