-- ==== Sys2Proof/Laws/Ops.lean ====
section
/-! SUPPORT. What the shared operations can do, said once: reading a register after a write, and what raising an event, a class refusal
and a trace record change. -/

namespace Sys2Proof.Machine

variable (s : State)

/-! ## Registers -/

@[simp] theorem rd_wr_same (a : Nat) (v : W32) : (s.wr a v).rd a = v := by
  simp [State.rd]

theorem rd_wr_ne {a b : Nat} (v : W32) (h : b ≠ a) : (s.wr a v).rd b = s.rd b := by
  simp [State.rd, spGet_spSet_ne _ _ _ _ h]

/-- Registers that agree in the register file read alike. -/
theorem rd_of_regs {s t : State} (h : t.regs = s.regs) (a : Nat) : t.rd a = s.rd a := by
  simp [State.rd, h]

@[simp] theorem rd_emit (o : Out) (a : Nat) : (s.emit o).rd a = s.rd a := rd_of_regs rfl a
@[simp] theorem rd_drawn (a : Nat) : s.drawn.rd a = s.rd a := rd_of_regs rfl a
@[simp] theorem rd_modSys (f : SysSt → SysSt) (a : Nat) : (s.modSys f).rd a = s.rd a := rd_of_regs rfl a
@[simp] theorem rd_modHwd (f : HwdSt → HwdSt) (a : Nat) : (s.modHwd f).rd a = s.rd a := rd_of_regs rfl a
@[simp] theorem rd_modPrs (f : PrsSt → PrsSt) (a : Nat) : (s.modPrs f).rd a = s.rd a := rd_of_regs rfl a
@[simp] theorem rd_modPwd (f : PwdSt → PwdSt) (a : Nat) : (s.modPwd f).rd a = s.rd a := rd_of_regs rfl a
@[simp] theorem rd_modTwn (f : TwnSt → TwnSt) (a : Nat) : (s.modTwn f).rd a = s.rd a := rd_of_regs rfl a

@[simp] theorem when_true (f : State → State) : s.when true f = f s := rfl
@[simp] theorem when_false (f : State → State) : s.when false f = s := rfl

/-- A conditional change keeps what the change keeps. -/
theorem when_keeps {α : Type} (g : State → α) (c : Bool) (f : State → State) (h : g (f s) = g s) : g (s.when c f) = g s := by
  cases c <;> simp [h]

/-- Setting a bit of a register. -/
theorem rd_flag_same (a i : Nat) : (s.flag a i).rd a = s.rd a ||| oneBit i := rd_wr_same s a _
theorem rd_flag_ne {a b : Nat} (i : Nat) (h : b ≠ a) : (s.flag a i).rd b = s.rd b := rd_wr_ne s _ h
/-- Counting. -/
theorem rd_count_same (a n : Nat) : (s.count a n).rd a = w32 (satN 32 ((s.rd a).toNat + n)) := rd_wr_same s a _
theorem rd_count_ne {a b : Nat} (n : Nat) (h : b ≠ a) : (s.count a n).rd b = s.rd b := rd_wr_ne s _ h

@[simp] theorem flag_regs_only (a i : Nat) : s.flag a i = s.wr a (s.rd a ||| oneBit i) := rfl
@[simp] theorem unflag_regs_only (a i : Nat) : s.unflag a i = s.wr a (s.rd a &&& ~~~(oneBit i)) := rfl
@[simp] theorem count_regs_only (a n : Nat) : s.count a n = s.wr a (w32 (satN 32 ((s.rd a).toNat + n))) := rfl
@[simp] theorem wrF_regs_only (a hi lo n : Nat) : s.wrF a hi lo n = s.wr a (putFld (s.rd a) hi lo n) := rfl

/-! ## Events (R66) -/


theorem evtOnly_refl : evtOnly s s := rfl
theorem evtOnly.trans {s t u : State} (h1 : evtOnly s t) (h2 : evtOnly t u) : evtOnly s u := by
  unfold evtOnly at *
  rw [h2, h1]
theorem evtOnly_wr (a : Nat) (v : W32) : evtOnly s (s.wr a v) := rfl
theorem evtOnly_when (c : Bool) (f : State → State) (h : evtOnly s (f s)) : evtOnly s (s.when c f) := by
  cases c
  · rfl
  · exact h

theorem vector_only (v : Nat) : evtOnly s (s.vector v) := by
  unfold State.vector; split_ifs <;> rfl
theorem record_only (k : Nat) (l : List Byte) : evtOnly s (s.record k l) := by
  unfold State.record; split_ifs <;> rfl
theorem pend_only (e : Nat) : evtOnly s (s.pend e) := by
  unfold State.pend
  split_ifs
  · refine evtOnly.trans ?_ (evtOnly_when _ _ _ (vector_only _ 1))
    refine evtOnly.trans ?_ (evtOnly_when _ _ _ (vector_only _ 0))
    exact rfl
  · rfl
theorem recEvent_only (e : Nat) : evtOnly s (s.recEvent e) := by
  unfold State.recEvent
  split_ifs
  · exact record_only _ _ _
  · rfl
theorem raiseDrop_only (n : Nat) : evtOnly s (s.raiseDrop n) := by
  unfold State.raiseDrop
  split_ifs
  · rfl
  · rfl
  · refine evtOnly.trans ?_ (recEvent_only _ _)
    refine evtOnly.trans ?_ (pend_only _ _)
    exact rfl
/-- What raising an event can change. -/
theorem raise_only (e : Nat) : evtOnly s (s.raise e) := by
  unfold State.raise
  split_ifs
  · rfl
  · exact ((pend_only s e).trans (recEvent_only _ e)).trans (raiseDrop_only _ _)
theorem raiseOnce_only (e : Nat) : evtOnly s (s.raiseOnce e) := by
  unfold State.raiseOnce
  split_ifs
  · rfl
  · refine evtOnly.trans ?_ (raise_only _ _)
    exact rfl
theorem flagRaise_only (a i e : Nat) : evtOnly s (s.flagRaise a i e) := (evtOnly_wr s a _).trans (raise_only _ e)
/-- What a refusal can change. -/
theorem deny_only (c p a : Nat) : evtOnly s (s.deny c p a) :=
  (((evtOnly_wr s _ _).trans (evtOnly_wr _ _ _)).trans (evtOnly_wr _ _ _)).trans (raiseOnce_only _ 19)
/-- What a trace record can change. -/
theorem trace_only (k : Nat) (l : List Byte) : evtOnly s (s.trace k l) := (record_only s k l).trans (raiseDrop_only _ _)

theorem evtOnly.eq {s t : State} (h : evtOnly s t) : t = { s with regs := t.regs, out := t.out, mon := t.mon, sys := { s.sys with msix := t.sys.msix, deferred := t.sys.deferred, onceTick := t.sys.onceTick } } := h
theorem evtOnly.pending {s t : State} (h : evtOnly s t) : t.pending = s.pending := (congrArg State.pending h.eq :)
theorem evtOnly.fit {s t : State} (h : evtOnly s t) : t.fit = s.fit := (congrArg State.fit h.eq :)
theorem evtOnly.free {s t : State} (h : evtOnly s t) : t.free = s.free := (congrArg State.free h.eq :)
theorem evtOnly.jobs {s t : State} (h : evtOnly s t) : t.jobs = s.jobs := (congrArg State.jobs h.eq :)
theorem evtOnly.ledger {s t : State} (h : evtOnly s t) : t.ledger = s.ledger := (congrArg State.ledger h.eq :)
theorem evtOnly.img {s t : State} (h : evtOnly s t) : t.img = s.img := (congrArg State.img h.eq :)
theorem evtOnly.graph {s t : State} (h : evtOnly s t) : t.graph = s.graph := (congrArg State.graph h.eq :)
theorem evtOnly.canopy {s t : State} (h : evtOnly s t) : t.canopy = s.canopy := (congrArg State.canopy h.eq :)
theorem evtOnly.cores {s t : State} (h : evtOnly s t) : t.cores = s.cores := (congrArg State.cores h.eq :)
theorem evtOnly.ports {s t : State} (h : evtOnly s t) : t.ports = s.ports := (congrArg State.ports h.eq :)
theorem evtOnly.clk {s t : State} (h : evtOnly s t) : t.clk = s.clk := (congrArg State.clk h.eq :)
theorem evtOnly.net {s t : State} (h : evtOnly s t) : t.net = s.net := (congrArg State.net h.eq :)
theorem evtOnly.tim {s t : State} (h : evtOnly s t) : t.tim = s.tim := (congrArg State.tim h.eq :)
theorem evtOnly.pps {s t : State} (h : evtOnly s t) : t.pps = s.pps := (congrArg State.pps h.eq :)
theorem evtOnly.dram {s t : State} (h : evtOnly s t) : t.dram = s.dram := (congrArg State.dram h.eq :)
theorem evtOnly.mem {s t : State} (h : evtOnly s t) : t.mem = s.mem := (congrArg State.mem h.eq :)
theorem evtOnly.trk {s t : State} (h : evtOnly s t) : t.trk = s.trk := (congrArg State.trk h.eq :)
theorem evtOnly.twn {s t : State} (h : evtOnly s t) : t.twn = s.twn := (congrArg State.twn h.eq :)
theorem evtOnly.hwd {s t : State} (h : evtOnly s t) : t.hwd = s.hwd := (congrArg State.hwd h.eq :)
theorem evtOnly.prv {s t : State} (h : evtOnly s t) : t.prv = s.prv := (congrArg State.prv h.eq :)
theorem evtOnly.prs {s t : State} (h : evtOnly s t) : t.prs = s.prs := (congrArg State.prs h.eq :)
theorem evtOnly.pwd {s t : State} (h : evtOnly s t) : t.pwd = s.pwd := (congrArg State.pwd h.eq :)
theorem evtOnly.sys_phase {s t : State} (h : evtOnly s t) : t.sys.phase = s.sys.phase := (congrArg (fun x => x.sys.phase) h.eq :)
theorem evtOnly.sys_answering {s t : State} (h : evtOnly s t) : t.sys.answering = s.sys.answering := (congrArg (fun x => x.sys.answering) h.eq :)
theorem evtOnly.sys_ready {s t : State} (h : evtOnly s t) : t.sys.ready = s.sys.ready := (congrArg (fun x => x.sys.ready) h.eq :)
theorem evtOnly.sys_cause {s t : State} (h : evtOnly s t) : t.sys.cause = s.sys.cause := (congrArg (fun x => x.sys.cause) h.eq :)
theorem evtOnly.sys_straps {s t : State} (h : evtOnly s t) : t.sys.straps = s.sys.straps := (congrArg (fun x => x.sys.straps) h.eq :)
theorem evtOnly.sys_hostLink {s t : State} (h : evtOnly s t) : t.sys.hostLink = s.sys.hostLink := (congrArg (fun x => x.sys.hostLink) h.eq :)
theorem evtOnly.sys_faulty {s t : State} (h : evtOnly s t) : t.sys.faulty = s.sys.faulty := (congrArg (fun x => x.sys.faulty) h.eq :)
theorem evtOnly.sys_mediaRun {s t : State} (h : evtOnly s t) : t.sys.mediaRun = s.sys.mediaRun := (congrArg (fun x => x.sys.mediaRun) h.eq :)
theorem evtOnly.sys_aligned {s t : State} (h : evtOnly s t) : t.sys.aligned = s.sys.aligned := (congrArg (fun x => x.sys.aligned) h.eq :)
theorem evtOnly.sys_tick {s t : State} (h : evtOnly s t) : t.sys.tick = s.sys.tick := (congrArg (fun x => x.sys.tick) h.eq :)
theorem evtOnly.sys_realignReq {s t : State} (h : evtOnly s t) : t.sys.realignReq = s.sys.realignReq := (congrArg (fun x => x.sys.realignReq) h.eq :)
theorem evtOnly.sys_realignLeft {s t : State} (h : evtOnly s t) : t.sys.realignLeft = s.sys.realignLeft := (congrArg (fun x => x.sys.realignLeft) h.eq :)
theorem evtOnly.sys_realignLoaded {s t : State} (h : evtOnly s t) : t.sys.realignLoaded = s.sys.realignLoaded := (congrArg (fun x => x.sys.realignLoaded) h.eq :)
theorem evtOnly.sys_cfgPass {s t : State} (h : evtOnly s t) : t.sys.cfgPass = s.sys.cfgPass := (congrArg (fun x => x.sys.cfgPass) h.eq :)
theorem evtOnly.sys_cfgDirty {s t : State} (h : evtOnly s t) : t.sys.cfgDirty = s.sys.cfgDirty := (congrArg (fun x => x.sys.cfgDirty) h.eq :)
theorem evtOnly.sys_cfgCommit {s t : State} (h : evtOnly s t) : t.sys.cfgCommit = s.sys.cfgCommit := (congrArg (fun x => x.sys.cfgCommit) h.eq :)
theorem evtOnly.sys_cfgDiffs {s t : State} (h : evtOnly s t) : t.sys.cfgDiffs = s.sys.cfgDiffs := (congrArg (fun x => x.sys.cfgDiffs) h.eq :)
theorem evtOnly.sys_cfgActed {s t : State} (h : evtOnly s t) : t.sys.cfgActed = s.sys.cfgActed := (congrArg (fun x => x.sys.cfgActed) h.eq :)
theorem evtOnly.sys_spiTag {s t : State} (h : evtOnly s t) : t.sys.spiTag = s.sys.spiTag := (congrArg (fun x => x.sys.spiTag) h.eq :)
theorem evtOnly.sys_spiStatus {s t : State} (h : evtOnly s t) : t.sys.spiStatus = s.sys.spiStatus := (congrArg (fun x => x.sys.spiStatus) h.eq :)
theorem evtOnly.sys_spiDiscarded {s t : State} (h : evtOnly s t) : t.sys.spiDiscarded = s.sys.spiDiscarded := (congrArg (fun x => x.sys.spiDiscarded) h.eq :)
theorem evtOnly.sys_capHost {s t : State} (h : evtOnly s t) : t.sys.capHost = s.sys.capHost := (congrArg (fun x => x.sys.capHost) h.eq :)
theorem evtOnly.sys_capMon {s t : State} (h : evtOnly s t) : t.sys.capMon = s.sys.capMon := (congrArg (fun x => x.sys.capMon) h.eq :)

@[simp] theorem raise_pending (e : Nat) : (s.raise e).pending = s.pending := (raise_only s e).pending
@[simp] theorem raise_fit (e : Nat) : (s.raise e).fit = s.fit := (raise_only s e).fit
@[simp] theorem raise_free (e : Nat) : (s.raise e).free = s.free := (raise_only s e).free
@[simp] theorem raise_jobs (e : Nat) : (s.raise e).jobs = s.jobs := (raise_only s e).jobs
@[simp] theorem raise_ledger (e : Nat) : (s.raise e).ledger = s.ledger := (raise_only s e).ledger
@[simp] theorem raise_img (e : Nat) : (s.raise e).img = s.img := (raise_only s e).img
@[simp] theorem raise_graph (e : Nat) : (s.raise e).graph = s.graph := (raise_only s e).graph
@[simp] theorem raise_canopy (e : Nat) : (s.raise e).canopy = s.canopy := (raise_only s e).canopy
@[simp] theorem raise_cores (e : Nat) : (s.raise e).cores = s.cores := (raise_only s e).cores
@[simp] theorem raise_ports (e : Nat) : (s.raise e).ports = s.ports := (raise_only s e).ports
@[simp] theorem raise_clk (e : Nat) : (s.raise e).clk = s.clk := (raise_only s e).clk
@[simp] theorem raise_net (e : Nat) : (s.raise e).net = s.net := (raise_only s e).net
@[simp] theorem raise_tim (e : Nat) : (s.raise e).tim = s.tim := (raise_only s e).tim
@[simp] theorem raise_pps (e : Nat) : (s.raise e).pps = s.pps := (raise_only s e).pps
@[simp] theorem raise_dram (e : Nat) : (s.raise e).dram = s.dram := (raise_only s e).dram
@[simp] theorem raise_mem (e : Nat) : (s.raise e).mem = s.mem := (raise_only s e).mem
@[simp] theorem raise_trk (e : Nat) : (s.raise e).trk = s.trk := (raise_only s e).trk
@[simp] theorem raise_twn (e : Nat) : (s.raise e).twn = s.twn := (raise_only s e).twn
@[simp] theorem raise_hwd (e : Nat) : (s.raise e).hwd = s.hwd := (raise_only s e).hwd
@[simp] theorem raise_prv (e : Nat) : (s.raise e).prv = s.prv := (raise_only s e).prv
@[simp] theorem raise_prs (e : Nat) : (s.raise e).prs = s.prs := (raise_only s e).prs
@[simp] theorem raise_pwd (e : Nat) : (s.raise e).pwd = s.pwd := (raise_only s e).pwd
@[simp] theorem raise_sys_phase (e : Nat) : (s.raise e).sys.phase = s.sys.phase := (raise_only s e).sys_phase
@[simp] theorem raise_sys_answering (e : Nat) : (s.raise e).sys.answering = s.sys.answering := (raise_only s e).sys_answering
@[simp] theorem raise_sys_ready (e : Nat) : (s.raise e).sys.ready = s.sys.ready := (raise_only s e).sys_ready
@[simp] theorem raise_sys_cause (e : Nat) : (s.raise e).sys.cause = s.sys.cause := (raise_only s e).sys_cause
@[simp] theorem raise_sys_straps (e : Nat) : (s.raise e).sys.straps = s.sys.straps := (raise_only s e).sys_straps
@[simp] theorem raise_sys_hostLink (e : Nat) : (s.raise e).sys.hostLink = s.sys.hostLink := (raise_only s e).sys_hostLink
@[simp] theorem raise_sys_faulty (e : Nat) : (s.raise e).sys.faulty = s.sys.faulty := (raise_only s e).sys_faulty
@[simp] theorem raise_sys_mediaRun (e : Nat) : (s.raise e).sys.mediaRun = s.sys.mediaRun := (raise_only s e).sys_mediaRun
@[simp] theorem raise_sys_aligned (e : Nat) : (s.raise e).sys.aligned = s.sys.aligned := (raise_only s e).sys_aligned
@[simp] theorem raise_sys_tick (e : Nat) : (s.raise e).sys.tick = s.sys.tick := (raise_only s e).sys_tick
@[simp] theorem raise_sys_realignReq (e : Nat) : (s.raise e).sys.realignReq = s.sys.realignReq := (raise_only s e).sys_realignReq
@[simp] theorem raise_sys_realignLeft (e : Nat) : (s.raise e).sys.realignLeft = s.sys.realignLeft := (raise_only s e).sys_realignLeft
@[simp] theorem raise_sys_realignLoaded (e : Nat) : (s.raise e).sys.realignLoaded = s.sys.realignLoaded := (raise_only s e).sys_realignLoaded
@[simp] theorem raise_sys_cfgPass (e : Nat) : (s.raise e).sys.cfgPass = s.sys.cfgPass := (raise_only s e).sys_cfgPass
@[simp] theorem raise_sys_cfgDirty (e : Nat) : (s.raise e).sys.cfgDirty = s.sys.cfgDirty := (raise_only s e).sys_cfgDirty
@[simp] theorem raise_sys_cfgCommit (e : Nat) : (s.raise e).sys.cfgCommit = s.sys.cfgCommit := (raise_only s e).sys_cfgCommit
@[simp] theorem raise_sys_cfgDiffs (e : Nat) : (s.raise e).sys.cfgDiffs = s.sys.cfgDiffs := (raise_only s e).sys_cfgDiffs
@[simp] theorem raise_sys_cfgActed (e : Nat) : (s.raise e).sys.cfgActed = s.sys.cfgActed := (raise_only s e).sys_cfgActed
@[simp] theorem raise_sys_spiTag (e : Nat) : (s.raise e).sys.spiTag = s.sys.spiTag := (raise_only s e).sys_spiTag
@[simp] theorem raise_sys_spiStatus (e : Nat) : (s.raise e).sys.spiStatus = s.sys.spiStatus := (raise_only s e).sys_spiStatus
@[simp] theorem raise_sys_spiDiscarded (e : Nat) : (s.raise e).sys.spiDiscarded = s.sys.spiDiscarded := (raise_only s e).sys_spiDiscarded
@[simp] theorem raise_sys_capHost (e : Nat) : (s.raise e).sys.capHost = s.sys.capHost := (raise_only s e).sys_capHost
@[simp] theorem raise_sys_capMon (e : Nat) : (s.raise e).sys.capMon = s.sys.capMon := (raise_only s e).sys_capMon
@[simp] theorem raiseOnce_pending (e : Nat) : (s.raiseOnce e).pending = s.pending := (raiseOnce_only s e).pending
@[simp] theorem raiseOnce_fit (e : Nat) : (s.raiseOnce e).fit = s.fit := (raiseOnce_only s e).fit
@[simp] theorem raiseOnce_free (e : Nat) : (s.raiseOnce e).free = s.free := (raiseOnce_only s e).free
@[simp] theorem raiseOnce_jobs (e : Nat) : (s.raiseOnce e).jobs = s.jobs := (raiseOnce_only s e).jobs
@[simp] theorem raiseOnce_ledger (e : Nat) : (s.raiseOnce e).ledger = s.ledger := (raiseOnce_only s e).ledger
@[simp] theorem raiseOnce_img (e : Nat) : (s.raiseOnce e).img = s.img := (raiseOnce_only s e).img
@[simp] theorem raiseOnce_graph (e : Nat) : (s.raiseOnce e).graph = s.graph := (raiseOnce_only s e).graph
@[simp] theorem raiseOnce_canopy (e : Nat) : (s.raiseOnce e).canopy = s.canopy := (raiseOnce_only s e).canopy
@[simp] theorem raiseOnce_cores (e : Nat) : (s.raiseOnce e).cores = s.cores := (raiseOnce_only s e).cores
@[simp] theorem raiseOnce_ports (e : Nat) : (s.raiseOnce e).ports = s.ports := (raiseOnce_only s e).ports
@[simp] theorem raiseOnce_clk (e : Nat) : (s.raiseOnce e).clk = s.clk := (raiseOnce_only s e).clk
@[simp] theorem raiseOnce_net (e : Nat) : (s.raiseOnce e).net = s.net := (raiseOnce_only s e).net
@[simp] theorem raiseOnce_tim (e : Nat) : (s.raiseOnce e).tim = s.tim := (raiseOnce_only s e).tim
@[simp] theorem raiseOnce_pps (e : Nat) : (s.raiseOnce e).pps = s.pps := (raiseOnce_only s e).pps
@[simp] theorem raiseOnce_dram (e : Nat) : (s.raiseOnce e).dram = s.dram := (raiseOnce_only s e).dram
@[simp] theorem raiseOnce_mem (e : Nat) : (s.raiseOnce e).mem = s.mem := (raiseOnce_only s e).mem
@[simp] theorem raiseOnce_trk (e : Nat) : (s.raiseOnce e).trk = s.trk := (raiseOnce_only s e).trk
@[simp] theorem raiseOnce_twn (e : Nat) : (s.raiseOnce e).twn = s.twn := (raiseOnce_only s e).twn
@[simp] theorem raiseOnce_hwd (e : Nat) : (s.raiseOnce e).hwd = s.hwd := (raiseOnce_only s e).hwd
@[simp] theorem raiseOnce_prv (e : Nat) : (s.raiseOnce e).prv = s.prv := (raiseOnce_only s e).prv
@[simp] theorem raiseOnce_prs (e : Nat) : (s.raiseOnce e).prs = s.prs := (raiseOnce_only s e).prs
@[simp] theorem raiseOnce_pwd (e : Nat) : (s.raiseOnce e).pwd = s.pwd := (raiseOnce_only s e).pwd
@[simp] theorem raiseOnce_sys_phase (e : Nat) : (s.raiseOnce e).sys.phase = s.sys.phase := (raiseOnce_only s e).sys_phase
@[simp] theorem raiseOnce_sys_answering (e : Nat) : (s.raiseOnce e).sys.answering = s.sys.answering := (raiseOnce_only s e).sys_answering
@[simp] theorem raiseOnce_sys_ready (e : Nat) : (s.raiseOnce e).sys.ready = s.sys.ready := (raiseOnce_only s e).sys_ready
@[simp] theorem raiseOnce_sys_cause (e : Nat) : (s.raiseOnce e).sys.cause = s.sys.cause := (raiseOnce_only s e).sys_cause
@[simp] theorem raiseOnce_sys_straps (e : Nat) : (s.raiseOnce e).sys.straps = s.sys.straps := (raiseOnce_only s e).sys_straps
@[simp] theorem raiseOnce_sys_hostLink (e : Nat) : (s.raiseOnce e).sys.hostLink = s.sys.hostLink := (raiseOnce_only s e).sys_hostLink
@[simp] theorem raiseOnce_sys_faulty (e : Nat) : (s.raiseOnce e).sys.faulty = s.sys.faulty := (raiseOnce_only s e).sys_faulty
@[simp] theorem raiseOnce_sys_mediaRun (e : Nat) : (s.raiseOnce e).sys.mediaRun = s.sys.mediaRun := (raiseOnce_only s e).sys_mediaRun
@[simp] theorem raiseOnce_sys_aligned (e : Nat) : (s.raiseOnce e).sys.aligned = s.sys.aligned := (raiseOnce_only s e).sys_aligned
@[simp] theorem raiseOnce_sys_tick (e : Nat) : (s.raiseOnce e).sys.tick = s.sys.tick := (raiseOnce_only s e).sys_tick
@[simp] theorem raiseOnce_sys_realignReq (e : Nat) : (s.raiseOnce e).sys.realignReq = s.sys.realignReq := (raiseOnce_only s e).sys_realignReq
@[simp] theorem raiseOnce_sys_realignLeft (e : Nat) : (s.raiseOnce e).sys.realignLeft = s.sys.realignLeft := (raiseOnce_only s e).sys_realignLeft
@[simp] theorem raiseOnce_sys_realignLoaded (e : Nat) : (s.raiseOnce e).sys.realignLoaded = s.sys.realignLoaded := (raiseOnce_only s e).sys_realignLoaded
@[simp] theorem raiseOnce_sys_cfgPass (e : Nat) : (s.raiseOnce e).sys.cfgPass = s.sys.cfgPass := (raiseOnce_only s e).sys_cfgPass
@[simp] theorem raiseOnce_sys_cfgDirty (e : Nat) : (s.raiseOnce e).sys.cfgDirty = s.sys.cfgDirty := (raiseOnce_only s e).sys_cfgDirty
@[simp] theorem raiseOnce_sys_cfgCommit (e : Nat) : (s.raiseOnce e).sys.cfgCommit = s.sys.cfgCommit := (raiseOnce_only s e).sys_cfgCommit
@[simp] theorem raiseOnce_sys_cfgDiffs (e : Nat) : (s.raiseOnce e).sys.cfgDiffs = s.sys.cfgDiffs := (raiseOnce_only s e).sys_cfgDiffs
@[simp] theorem raiseOnce_sys_cfgActed (e : Nat) : (s.raiseOnce e).sys.cfgActed = s.sys.cfgActed := (raiseOnce_only s e).sys_cfgActed
@[simp] theorem raiseOnce_sys_spiTag (e : Nat) : (s.raiseOnce e).sys.spiTag = s.sys.spiTag := (raiseOnce_only s e).sys_spiTag
@[simp] theorem raiseOnce_sys_spiStatus (e : Nat) : (s.raiseOnce e).sys.spiStatus = s.sys.spiStatus := (raiseOnce_only s e).sys_spiStatus
@[simp] theorem raiseOnce_sys_spiDiscarded (e : Nat) : (s.raiseOnce e).sys.spiDiscarded = s.sys.spiDiscarded := (raiseOnce_only s e).sys_spiDiscarded
@[simp] theorem raiseOnce_sys_capHost (e : Nat) : (s.raiseOnce e).sys.capHost = s.sys.capHost := (raiseOnce_only s e).sys_capHost
@[simp] theorem raiseOnce_sys_capMon (e : Nat) : (s.raiseOnce e).sys.capMon = s.sys.capMon := (raiseOnce_only s e).sys_capMon
@[simp] theorem flagRaise_pending (a i e : Nat) : (s.flagRaise a i e).pending = s.pending := (flagRaise_only s a i e).pending
@[simp] theorem flagRaise_fit (a i e : Nat) : (s.flagRaise a i e).fit = s.fit := (flagRaise_only s a i e).fit
@[simp] theorem flagRaise_free (a i e : Nat) : (s.flagRaise a i e).free = s.free := (flagRaise_only s a i e).free
@[simp] theorem flagRaise_jobs (a i e : Nat) : (s.flagRaise a i e).jobs = s.jobs := (flagRaise_only s a i e).jobs
@[simp] theorem flagRaise_ledger (a i e : Nat) : (s.flagRaise a i e).ledger = s.ledger := (flagRaise_only s a i e).ledger
@[simp] theorem flagRaise_img (a i e : Nat) : (s.flagRaise a i e).img = s.img := (flagRaise_only s a i e).img
@[simp] theorem flagRaise_graph (a i e : Nat) : (s.flagRaise a i e).graph = s.graph := (flagRaise_only s a i e).graph
@[simp] theorem flagRaise_canopy (a i e : Nat) : (s.flagRaise a i e).canopy = s.canopy := (flagRaise_only s a i e).canopy
@[simp] theorem flagRaise_cores (a i e : Nat) : (s.flagRaise a i e).cores = s.cores := (flagRaise_only s a i e).cores
@[simp] theorem flagRaise_ports (a i e : Nat) : (s.flagRaise a i e).ports = s.ports := (flagRaise_only s a i e).ports
@[simp] theorem flagRaise_clk (a i e : Nat) : (s.flagRaise a i e).clk = s.clk := (flagRaise_only s a i e).clk
@[simp] theorem flagRaise_net (a i e : Nat) : (s.flagRaise a i e).net = s.net := (flagRaise_only s a i e).net
@[simp] theorem flagRaise_tim (a i e : Nat) : (s.flagRaise a i e).tim = s.tim := (flagRaise_only s a i e).tim
@[simp] theorem flagRaise_pps (a i e : Nat) : (s.flagRaise a i e).pps = s.pps := (flagRaise_only s a i e).pps
@[simp] theorem flagRaise_dram (a i e : Nat) : (s.flagRaise a i e).dram = s.dram := (flagRaise_only s a i e).dram
@[simp] theorem flagRaise_mem (a i e : Nat) : (s.flagRaise a i e).mem = s.mem := (flagRaise_only s a i e).mem
@[simp] theorem flagRaise_trk (a i e : Nat) : (s.flagRaise a i e).trk = s.trk := (flagRaise_only s a i e).trk
@[simp] theorem flagRaise_twn (a i e : Nat) : (s.flagRaise a i e).twn = s.twn := (flagRaise_only s a i e).twn
@[simp] theorem flagRaise_hwd (a i e : Nat) : (s.flagRaise a i e).hwd = s.hwd := (flagRaise_only s a i e).hwd
@[simp] theorem flagRaise_prv (a i e : Nat) : (s.flagRaise a i e).prv = s.prv := (flagRaise_only s a i e).prv
@[simp] theorem flagRaise_prs (a i e : Nat) : (s.flagRaise a i e).prs = s.prs := (flagRaise_only s a i e).prs
@[simp] theorem flagRaise_pwd (a i e : Nat) : (s.flagRaise a i e).pwd = s.pwd := (flagRaise_only s a i e).pwd
@[simp] theorem flagRaise_sys_phase (a i e : Nat) : (s.flagRaise a i e).sys.phase = s.sys.phase := (flagRaise_only s a i e).sys_phase
@[simp] theorem flagRaise_sys_answering (a i e : Nat) : (s.flagRaise a i e).sys.answering = s.sys.answering := (flagRaise_only s a i e).sys_answering
@[simp] theorem flagRaise_sys_ready (a i e : Nat) : (s.flagRaise a i e).sys.ready = s.sys.ready := (flagRaise_only s a i e).sys_ready
@[simp] theorem flagRaise_sys_cause (a i e : Nat) : (s.flagRaise a i e).sys.cause = s.sys.cause := (flagRaise_only s a i e).sys_cause
@[simp] theorem flagRaise_sys_straps (a i e : Nat) : (s.flagRaise a i e).sys.straps = s.sys.straps := (flagRaise_only s a i e).sys_straps
@[simp] theorem flagRaise_sys_hostLink (a i e : Nat) : (s.flagRaise a i e).sys.hostLink = s.sys.hostLink := (flagRaise_only s a i e).sys_hostLink
@[simp] theorem flagRaise_sys_faulty (a i e : Nat) : (s.flagRaise a i e).sys.faulty = s.sys.faulty := (flagRaise_only s a i e).sys_faulty
@[simp] theorem flagRaise_sys_mediaRun (a i e : Nat) : (s.flagRaise a i e).sys.mediaRun = s.sys.mediaRun := (flagRaise_only s a i e).sys_mediaRun
@[simp] theorem flagRaise_sys_aligned (a i e : Nat) : (s.flagRaise a i e).sys.aligned = s.sys.aligned := (flagRaise_only s a i e).sys_aligned
@[simp] theorem flagRaise_sys_tick (a i e : Nat) : (s.flagRaise a i e).sys.tick = s.sys.tick := (flagRaise_only s a i e).sys_tick
@[simp] theorem flagRaise_sys_realignReq (a i e : Nat) : (s.flagRaise a i e).sys.realignReq = s.sys.realignReq := (flagRaise_only s a i e).sys_realignReq
@[simp] theorem flagRaise_sys_realignLeft (a i e : Nat) : (s.flagRaise a i e).sys.realignLeft = s.sys.realignLeft := (flagRaise_only s a i e).sys_realignLeft
@[simp] theorem flagRaise_sys_realignLoaded (a i e : Nat) : (s.flagRaise a i e).sys.realignLoaded = s.sys.realignLoaded := (flagRaise_only s a i e).sys_realignLoaded
@[simp] theorem flagRaise_sys_cfgPass (a i e : Nat) : (s.flagRaise a i e).sys.cfgPass = s.sys.cfgPass := (flagRaise_only s a i e).sys_cfgPass
@[simp] theorem flagRaise_sys_cfgDirty (a i e : Nat) : (s.flagRaise a i e).sys.cfgDirty = s.sys.cfgDirty := (flagRaise_only s a i e).sys_cfgDirty
@[simp] theorem flagRaise_sys_cfgCommit (a i e : Nat) : (s.flagRaise a i e).sys.cfgCommit = s.sys.cfgCommit := (flagRaise_only s a i e).sys_cfgCommit
@[simp] theorem flagRaise_sys_cfgDiffs (a i e : Nat) : (s.flagRaise a i e).sys.cfgDiffs = s.sys.cfgDiffs := (flagRaise_only s a i e).sys_cfgDiffs
@[simp] theorem flagRaise_sys_cfgActed (a i e : Nat) : (s.flagRaise a i e).sys.cfgActed = s.sys.cfgActed := (flagRaise_only s a i e).sys_cfgActed
@[simp] theorem flagRaise_sys_spiTag (a i e : Nat) : (s.flagRaise a i e).sys.spiTag = s.sys.spiTag := (flagRaise_only s a i e).sys_spiTag
@[simp] theorem flagRaise_sys_spiStatus (a i e : Nat) : (s.flagRaise a i e).sys.spiStatus = s.sys.spiStatus := (flagRaise_only s a i e).sys_spiStatus
@[simp] theorem flagRaise_sys_spiDiscarded (a i e : Nat) : (s.flagRaise a i e).sys.spiDiscarded = s.sys.spiDiscarded := (flagRaise_only s a i e).sys_spiDiscarded
@[simp] theorem flagRaise_sys_capHost (a i e : Nat) : (s.flagRaise a i e).sys.capHost = s.sys.capHost := (flagRaise_only s a i e).sys_capHost
@[simp] theorem flagRaise_sys_capMon (a i e : Nat) : (s.flagRaise a i e).sys.capMon = s.sys.capMon := (flagRaise_only s a i e).sys_capMon
@[simp] theorem deny_pending (c p a : Nat) : (s.deny c p a).pending = s.pending := (deny_only s c p a).pending
@[simp] theorem deny_fit (c p a : Nat) : (s.deny c p a).fit = s.fit := (deny_only s c p a).fit
@[simp] theorem deny_free (c p a : Nat) : (s.deny c p a).free = s.free := (deny_only s c p a).free
@[simp] theorem deny_jobs (c p a : Nat) : (s.deny c p a).jobs = s.jobs := (deny_only s c p a).jobs
@[simp] theorem deny_ledger (c p a : Nat) : (s.deny c p a).ledger = s.ledger := (deny_only s c p a).ledger
@[simp] theorem deny_img (c p a : Nat) : (s.deny c p a).img = s.img := (deny_only s c p a).img
@[simp] theorem deny_graph (c p a : Nat) : (s.deny c p a).graph = s.graph := (deny_only s c p a).graph
@[simp] theorem deny_canopy (c p a : Nat) : (s.deny c p a).canopy = s.canopy := (deny_only s c p a).canopy
@[simp] theorem deny_cores (c p a : Nat) : (s.deny c p a).cores = s.cores := (deny_only s c p a).cores
@[simp] theorem deny_ports (c p a : Nat) : (s.deny c p a).ports = s.ports := (deny_only s c p a).ports
@[simp] theorem deny_clk (c p a : Nat) : (s.deny c p a).clk = s.clk := (deny_only s c p a).clk
@[simp] theorem deny_net (c p a : Nat) : (s.deny c p a).net = s.net := (deny_only s c p a).net
@[simp] theorem deny_tim (c p a : Nat) : (s.deny c p a).tim = s.tim := (deny_only s c p a).tim
@[simp] theorem deny_pps (c p a : Nat) : (s.deny c p a).pps = s.pps := (deny_only s c p a).pps
@[simp] theorem deny_dram (c p a : Nat) : (s.deny c p a).dram = s.dram := (deny_only s c p a).dram
@[simp] theorem deny_mem (c p a : Nat) : (s.deny c p a).mem = s.mem := (deny_only s c p a).mem
@[simp] theorem deny_trk (c p a : Nat) : (s.deny c p a).trk = s.trk := (deny_only s c p a).trk
@[simp] theorem deny_twn (c p a : Nat) : (s.deny c p a).twn = s.twn := (deny_only s c p a).twn
@[simp] theorem deny_hwd (c p a : Nat) : (s.deny c p a).hwd = s.hwd := (deny_only s c p a).hwd
@[simp] theorem deny_prv (c p a : Nat) : (s.deny c p a).prv = s.prv := (deny_only s c p a).prv
@[simp] theorem deny_prs (c p a : Nat) : (s.deny c p a).prs = s.prs := (deny_only s c p a).prs
@[simp] theorem deny_pwd (c p a : Nat) : (s.deny c p a).pwd = s.pwd := (deny_only s c p a).pwd
@[simp] theorem deny_sys_phase (c p a : Nat) : (s.deny c p a).sys.phase = s.sys.phase := (deny_only s c p a).sys_phase
@[simp] theorem deny_sys_answering (c p a : Nat) : (s.deny c p a).sys.answering = s.sys.answering := (deny_only s c p a).sys_answering
@[simp] theorem deny_sys_ready (c p a : Nat) : (s.deny c p a).sys.ready = s.sys.ready := (deny_only s c p a).sys_ready
@[simp] theorem deny_sys_cause (c p a : Nat) : (s.deny c p a).sys.cause = s.sys.cause := (deny_only s c p a).sys_cause
@[simp] theorem deny_sys_straps (c p a : Nat) : (s.deny c p a).sys.straps = s.sys.straps := (deny_only s c p a).sys_straps
@[simp] theorem deny_sys_hostLink (c p a : Nat) : (s.deny c p a).sys.hostLink = s.sys.hostLink := (deny_only s c p a).sys_hostLink
@[simp] theorem deny_sys_faulty (c p a : Nat) : (s.deny c p a).sys.faulty = s.sys.faulty := (deny_only s c p a).sys_faulty
@[simp] theorem deny_sys_mediaRun (c p a : Nat) : (s.deny c p a).sys.mediaRun = s.sys.mediaRun := (deny_only s c p a).sys_mediaRun
@[simp] theorem deny_sys_aligned (c p a : Nat) : (s.deny c p a).sys.aligned = s.sys.aligned := (deny_only s c p a).sys_aligned
@[simp] theorem deny_sys_tick (c p a : Nat) : (s.deny c p a).sys.tick = s.sys.tick := (deny_only s c p a).sys_tick
@[simp] theorem deny_sys_realignReq (c p a : Nat) : (s.deny c p a).sys.realignReq = s.sys.realignReq := (deny_only s c p a).sys_realignReq
@[simp] theorem deny_sys_realignLeft (c p a : Nat) : (s.deny c p a).sys.realignLeft = s.sys.realignLeft := (deny_only s c p a).sys_realignLeft
@[simp] theorem deny_sys_realignLoaded (c p a : Nat) : (s.deny c p a).sys.realignLoaded = s.sys.realignLoaded := (deny_only s c p a).sys_realignLoaded
@[simp] theorem deny_sys_cfgPass (c p a : Nat) : (s.deny c p a).sys.cfgPass = s.sys.cfgPass := (deny_only s c p a).sys_cfgPass
@[simp] theorem deny_sys_cfgDirty (c p a : Nat) : (s.deny c p a).sys.cfgDirty = s.sys.cfgDirty := (deny_only s c p a).sys_cfgDirty
@[simp] theorem deny_sys_cfgCommit (c p a : Nat) : (s.deny c p a).sys.cfgCommit = s.sys.cfgCommit := (deny_only s c p a).sys_cfgCommit
@[simp] theorem deny_sys_cfgDiffs (c p a : Nat) : (s.deny c p a).sys.cfgDiffs = s.sys.cfgDiffs := (deny_only s c p a).sys_cfgDiffs
@[simp] theorem deny_sys_cfgActed (c p a : Nat) : (s.deny c p a).sys.cfgActed = s.sys.cfgActed := (deny_only s c p a).sys_cfgActed
@[simp] theorem deny_sys_spiTag (c p a : Nat) : (s.deny c p a).sys.spiTag = s.sys.spiTag := (deny_only s c p a).sys_spiTag
@[simp] theorem deny_sys_spiStatus (c p a : Nat) : (s.deny c p a).sys.spiStatus = s.sys.spiStatus := (deny_only s c p a).sys_spiStatus
@[simp] theorem deny_sys_spiDiscarded (c p a : Nat) : (s.deny c p a).sys.spiDiscarded = s.sys.spiDiscarded := (deny_only s c p a).sys_spiDiscarded
@[simp] theorem deny_sys_capHost (c p a : Nat) : (s.deny c p a).sys.capHost = s.sys.capHost := (deny_only s c p a).sys_capHost
@[simp] theorem deny_sys_capMon (c p a : Nat) : (s.deny c p a).sys.capMon = s.sys.capMon := (deny_only s c p a).sys_capMon
@[simp] theorem trace_pending (k : Nat) (l : List Byte) : (s.trace k l).pending = s.pending := (trace_only s k l).pending
@[simp] theorem trace_fit (k : Nat) (l : List Byte) : (s.trace k l).fit = s.fit := (trace_only s k l).fit
@[simp] theorem trace_free (k : Nat) (l : List Byte) : (s.trace k l).free = s.free := (trace_only s k l).free
@[simp] theorem trace_jobs (k : Nat) (l : List Byte) : (s.trace k l).jobs = s.jobs := (trace_only s k l).jobs
@[simp] theorem trace_ledger (k : Nat) (l : List Byte) : (s.trace k l).ledger = s.ledger := (trace_only s k l).ledger
@[simp] theorem trace_img (k : Nat) (l : List Byte) : (s.trace k l).img = s.img := (trace_only s k l).img
@[simp] theorem trace_graph (k : Nat) (l : List Byte) : (s.trace k l).graph = s.graph := (trace_only s k l).graph
@[simp] theorem trace_canopy (k : Nat) (l : List Byte) : (s.trace k l).canopy = s.canopy := (trace_only s k l).canopy
@[simp] theorem trace_cores (k : Nat) (l : List Byte) : (s.trace k l).cores = s.cores := (trace_only s k l).cores
@[simp] theorem trace_ports (k : Nat) (l : List Byte) : (s.trace k l).ports = s.ports := (trace_only s k l).ports
@[simp] theorem trace_clk (k : Nat) (l : List Byte) : (s.trace k l).clk = s.clk := (trace_only s k l).clk
@[simp] theorem trace_net (k : Nat) (l : List Byte) : (s.trace k l).net = s.net := (trace_only s k l).net
@[simp] theorem trace_tim (k : Nat) (l : List Byte) : (s.trace k l).tim = s.tim := (trace_only s k l).tim
@[simp] theorem trace_pps (k : Nat) (l : List Byte) : (s.trace k l).pps = s.pps := (trace_only s k l).pps
@[simp] theorem trace_dram (k : Nat) (l : List Byte) : (s.trace k l).dram = s.dram := (trace_only s k l).dram
@[simp] theorem trace_mem (k : Nat) (l : List Byte) : (s.trace k l).mem = s.mem := (trace_only s k l).mem
@[simp] theorem trace_trk (k : Nat) (l : List Byte) : (s.trace k l).trk = s.trk := (trace_only s k l).trk
@[simp] theorem trace_twn (k : Nat) (l : List Byte) : (s.trace k l).twn = s.twn := (trace_only s k l).twn
@[simp] theorem trace_hwd (k : Nat) (l : List Byte) : (s.trace k l).hwd = s.hwd := (trace_only s k l).hwd
@[simp] theorem trace_prv (k : Nat) (l : List Byte) : (s.trace k l).prv = s.prv := (trace_only s k l).prv
@[simp] theorem trace_prs (k : Nat) (l : List Byte) : (s.trace k l).prs = s.prs := (trace_only s k l).prs
@[simp] theorem trace_pwd (k : Nat) (l : List Byte) : (s.trace k l).pwd = s.pwd := (trace_only s k l).pwd
@[simp] theorem trace_sys_phase (k : Nat) (l : List Byte) : (s.trace k l).sys.phase = s.sys.phase := (trace_only s k l).sys_phase
@[simp] theorem trace_sys_answering (k : Nat) (l : List Byte) : (s.trace k l).sys.answering = s.sys.answering := (trace_only s k l).sys_answering
@[simp] theorem trace_sys_ready (k : Nat) (l : List Byte) : (s.trace k l).sys.ready = s.sys.ready := (trace_only s k l).sys_ready
@[simp] theorem trace_sys_cause (k : Nat) (l : List Byte) : (s.trace k l).sys.cause = s.sys.cause := (trace_only s k l).sys_cause
@[simp] theorem trace_sys_straps (k : Nat) (l : List Byte) : (s.trace k l).sys.straps = s.sys.straps := (trace_only s k l).sys_straps
@[simp] theorem trace_sys_hostLink (k : Nat) (l : List Byte) : (s.trace k l).sys.hostLink = s.sys.hostLink := (trace_only s k l).sys_hostLink
@[simp] theorem trace_sys_faulty (k : Nat) (l : List Byte) : (s.trace k l).sys.faulty = s.sys.faulty := (trace_only s k l).sys_faulty
@[simp] theorem trace_sys_mediaRun (k : Nat) (l : List Byte) : (s.trace k l).sys.mediaRun = s.sys.mediaRun := (trace_only s k l).sys_mediaRun
@[simp] theorem trace_sys_aligned (k : Nat) (l : List Byte) : (s.trace k l).sys.aligned = s.sys.aligned := (trace_only s k l).sys_aligned
@[simp] theorem trace_sys_tick (k : Nat) (l : List Byte) : (s.trace k l).sys.tick = s.sys.tick := (trace_only s k l).sys_tick
@[simp] theorem trace_sys_realignReq (k : Nat) (l : List Byte) : (s.trace k l).sys.realignReq = s.sys.realignReq := (trace_only s k l).sys_realignReq
@[simp] theorem trace_sys_realignLeft (k : Nat) (l : List Byte) : (s.trace k l).sys.realignLeft = s.sys.realignLeft := (trace_only s k l).sys_realignLeft
@[simp] theorem trace_sys_realignLoaded (k : Nat) (l : List Byte) : (s.trace k l).sys.realignLoaded = s.sys.realignLoaded := (trace_only s k l).sys_realignLoaded
@[simp] theorem trace_sys_cfgPass (k : Nat) (l : List Byte) : (s.trace k l).sys.cfgPass = s.sys.cfgPass := (trace_only s k l).sys_cfgPass
@[simp] theorem trace_sys_cfgDirty (k : Nat) (l : List Byte) : (s.trace k l).sys.cfgDirty = s.sys.cfgDirty := (trace_only s k l).sys_cfgDirty
@[simp] theorem trace_sys_cfgCommit (k : Nat) (l : List Byte) : (s.trace k l).sys.cfgCommit = s.sys.cfgCommit := (trace_only s k l).sys_cfgCommit
@[simp] theorem trace_sys_cfgDiffs (k : Nat) (l : List Byte) : (s.trace k l).sys.cfgDiffs = s.sys.cfgDiffs := (trace_only s k l).sys_cfgDiffs
@[simp] theorem trace_sys_cfgActed (k : Nat) (l : List Byte) : (s.trace k l).sys.cfgActed = s.sys.cfgActed := (trace_only s k l).sys_cfgActed
@[simp] theorem trace_sys_spiTag (k : Nat) (l : List Byte) : (s.trace k l).sys.spiTag = s.sys.spiTag := (trace_only s k l).sys_spiTag
@[simp] theorem trace_sys_spiStatus (k : Nat) (l : List Byte) : (s.trace k l).sys.spiStatus = s.sys.spiStatus := (trace_only s k l).sys_spiStatus
@[simp] theorem trace_sys_spiDiscarded (k : Nat) (l : List Byte) : (s.trace k l).sys.spiDiscarded = s.sys.spiDiscarded := (trace_only s k l).sys_spiDiscarded
@[simp] theorem trace_sys_capHost (k : Nat) (l : List Byte) : (s.trace k l).sys.capHost = s.sys.capHost := (trace_only s k l).sys_capHost
@[simp] theorem trace_sys_capMon (k : Nat) (l : List Byte) : (s.trace k l).sys.capMon = s.sys.capMon := (trace_only s k l).sys_capMon

@[simp] theorem vector_regs (v : Nat) : (s.vector v).regs = s.regs := by
  unfold State.vector; split_ifs <;> rfl

theorem record_rd (k : Nat) (l : List Byte) {a : Nat} (h : evtReg a = false) : (s.record k l).rd a = s.rd a := by
  simp only [evtReg, Bool.or_eq_false_iff, beq_eq_false_iff_ne] at h
  unfold State.record
  split_ifs
  · exact rd_of_regs rfl a
  · simp only [flag_regs_only, count_regs_only]
    rw [rd_wr_ne _ _ h.1.2, rd_wr_ne _ _ h.2]
    exact rd_of_regs rfl a
  · rfl

theorem evtReg_pend {a : Nat} (h : evtReg a = false) {e : Nat} (he : e < 128) : a ≠ EVT_PEND (e / 32) := by
  simp only [evtReg, Bool.or_eq_false_iff, Bool.and_eq_false_iff, decide_eq_false_iff_not] at h
  simp only [EVT_PEND]
  omega

theorem eventHere_lt {e : Nat} (h : s.eventHere e = true) : e < 128 := by
  simp [State.eventHere, eventReserved] at h
  omega

/-- The registers of `pend` before its interrupt messages. -/
theorem pend_regs (e : Nat) (h : s.eventHere e = true) :
    (s.pend e).regs = ((((s.flag (EVT_PEND (e / 32)) (e % 32)).wr EVT_LAST (w32 e)).wr EVT_LAST_TICK s.tickLo).count EVT_COUNT 1).regs := by
  unfold State.pend
  rw [if_pos h]
  exact (when_keeps _ State.regs _ _ (vector_regs _ 1)).trans (when_keeps _ State.regs _ _ (vector_regs _ 0))

theorem pend_rd (e : Nat) {a : Nat} (h : evtReg a = false) : (s.pend e).rd a = s.rd a := by
  by_cases he : s.eventHere e = true
  · rw [rd_of_regs (pend_regs s e he)]
    have hp := evtReg_pend h (eventHere_lt s he)
    simp only [evtReg, Bool.or_eq_false_iff, beq_eq_false_iff_ne] at h
    simp only [flag_regs_only, count_regs_only]
    rw [rd_wr_ne _ _ h.1.1.2, rd_wr_ne _ _ h.1.1.1.2, rd_wr_ne _ _ h.1.1.1.1.2, rd_wr_ne _ _ hp]
  · unfold State.pend
    rw [if_neg he]

theorem recEvent_rd (e : Nat) {a : Nat} (h : evtReg a = false) : (s.recEvent e).rd a = s.rd a := by
  unfold State.recEvent
  split_ifs
  · exact record_rd s _ _ h
  · rfl

theorem raiseDrop_rd (n : Nat) {a : Nat} (h : evtReg a = false) : (s.raiseDrop n).rd a = s.rd a := by
  unfold State.raiseDrop
  split_ifs
  · rfl
  · rfl
  · rw [recEvent_rd _ _ h, pend_rd _ _ h]
    exact rd_of_regs rfl a

/-- Raising an event leaves every register but the event registers and those of a dropped trace record. -/
theorem raise_rd (e : Nat) {a : Nat} (h : evtReg a = false) : (s.raise e).rd a = s.rd a := by
  unfold State.raise
  split_ifs
  · exact rd_of_regs rfl a
  · rw [raiseDrop_rd _ _ h, recEvent_rd _ _ h, pend_rd _ _ h]

theorem raiseOnce_rd (e : Nat) {a : Nat} (h : evtReg a = false) : (s.raiseOnce e).rd a = s.rd a := by
  unfold State.raiseOnce
  split_ifs
  · rfl
  · rw [raise_rd _ _ h]
    exact rd_of_regs rfl a

theorem trace_rd (k : Nat) (l : List Byte) {a : Nat} (h : evtReg a = false) : (s.trace k l).rd a = s.rd a := by
  rw [State.trace, raiseDrop_rd _ _ h, record_rd _ _ _ h]

/-- A refusal leaves every register but PRS_DENIED, PRS_STAT, PRS_DENIED_LAST and those of EV19. -/
theorem deny_rd (c p x : Nat) {a : Nat} (h : evtReg a = false) (h1 : a ≠ PRS_DENIED) (h2 : a ≠ PRS_STAT) (h3 : a ≠ PRS_DENIED_LAST) :
    (s.deny c p x).rd a = s.rd a := by
  simp only [State.deny, flag_regs_only, count_regs_only]
  rw [raiseOnce_rd _ _ h, rd_wr_ne _ _ h3, rd_wr_ne _ _ h2, rd_wr_ne _ _ h1]

/-- What a refusal records. -/
theorem deny_counts (c p x : Nat) :
    (s.deny c p x).rd PRS_DENIED = w32 (satN 32 ((s.rd PRS_DENIED).toNat + 1)) ∧
    (s.deny c p x).rd PRS_STAT = s.rd PRS_STAT ||| oneBit 2 ∧
    (s.deny c p x).rd PRS_DENIED_LAST = w32 (c * 2 ^ 30 + p * 2 ^ 28 + x / 4 % 2 ^ 22 * 4) := by
  simp only [State.deny, flag_regs_only, count_regs_only]
  refine ⟨?_, ?_, ?_⟩
  · rw [raiseOnce_rd _ _ (by decide), rd_wr_ne _ _ (by decide), rd_wr_ne _ _ (by decide), rd_wr_same]
  · rw [raiseOnce_rd _ _ (by decide), rd_wr_ne _ _ (by decide), rd_wr_same, rd_wr_ne _ _ (by decide)]
  · rw [raiseOnce_rd _ _ (by decide), rd_wr_same]

/-! ## Raising an event without a trace, and what becomes pending -/

theorem record_quiet (k : Nat) (l : List Byte) (h : s.mon.trace = 0) (hk : k ≠ 0) : s.record k l = s := by
  unfold State.record
  rw [if_neg]
  rintro ⟨h1, _⟩
  exact hk (h1.symm.trans h)

@[simp] theorem vector_mon (v : Nat) : (s.vector v).mon = s.mon := by
  unfold State.vector; split_ifs <;> rfl

@[simp] theorem pend_mon (e : Nat) : (s.pend e).mon = s.mon := by
  unfold State.pend
  split_ifs
  · exact (when_keeps _ State.mon _ _ (vector_mon _ 1)).trans (when_keeps _ State.mon _ _ (vector_mon _ 0))
  · rfl

/-- With the host interface up and no trace running, raising an event makes it pending and does nothing else. -/
theorem raise_quiet (e : Nat) (h : s.mon.trace = 0) (ha : s.sys.answering = true) : s.raise e = s.pend e := by
  unfold State.raise
  rw [if_neg (by simp [ha])]
  have h2 : (s.pend e).recEvent e = s.pend e := by
    unfold State.recEvent
    split_ifs
    · exact record_quiet _ _ _ (by simpa using h) (by decide)
    · rfl
  rw [h2]
  unfold State.raiseDrop
  rw [if_pos (by simp)]

theorem bitOf_or_oneBit (w : W32) {i : Nat} (h : i < 32) : bitOf (w ||| oneBit i) i = true := by
  have : (BitVec.ofNat 32 (2 ^ i)).getLsbD i = true := by
    rw [BitVec.getLsbD_ofNat, Nat.testBit_two_pow_self]
    simpa using h
  simp only [bitOf, oneBit, w32, BitVec.getLsbD_or, this, Bool.or_true]

theorem evtPend_ne {x : Nat} (h : x < 4) : EVT_PEND x ≠ EVT_COUNT ∧ EVT_PEND x ≠ EVT_LAST_TICK ∧ EVT_PEND x ≠ EVT_LAST := by
  simp only [EVT_PEND, EVT_COUNT, EVT_LAST_TICK, EVT_LAST]
  omega

/-- An event that the module has becomes pending. -/
theorem pend_pends (e : Nat) (h : s.eventHere e = true) : (s.pend e).pends e = true := by
  have hl := eventHere_lt s h
  show bitOf ((s.pend e).rd _) _ = true
  rw [rd_of_regs (pend_regs s e h)]
  simp only [flag_regs_only, count_regs_only]
  obtain ⟨h1, h2, h3⟩ := evtPend_ne (x := e / 32) (by omega)
  rw [rd_wr_ne _ _ h1, rd_wr_ne _ _ h2, rd_wr_ne _ _ h3, rd_wr_same]
  exact bitOf_or_oneBit _ (by omega)

/-- What EVT_LAST, EVT_LAST_TICK and EVT_COUNT hold after an event. -/
theorem pend_last (e : Nat) (h : s.eventHere e = true) :
    (s.pend e).rd EVT_LAST = w32 e ∧ (s.pend e).rd EVT_LAST_TICK = lo32 s.sys.tick ∧
    (s.pend e).rd EVT_COUNT = w32 (satN 32 ((s.rd EVT_COUNT).toNat + 1)) := by
  obtain ⟨h1, h2, h3⟩ := evtPend_ne (x := e / 32) (by have := eventHere_lt s h; omega)
  refine ⟨?_, ?_, ?_⟩ <;> rw [rd_of_regs (pend_regs s e h)] <;> simp only [flag_regs_only, count_regs_only]
  · rw [rd_wr_ne _ _ (by decide), rd_wr_ne _ _ (by decide), rd_wr_same]
  · rw [rd_wr_ne _ _ (by decide), rd_wr_same]
    rfl
  · rw [rd_wr_same, rd_wr_ne _ _ (by decide), rd_wr_ne _ _ (by decide), rd_wr_ne _ _ h1.symm]

theorem record_pends (k : Nat) (l : List Byte) (e : Nat) (h : e < 128) : (s.record k l).pends e = s.pends e := by
  have h1 : EVT_PEND (e / 32) ≠ MON_STAT := by simp only [EVT_PEND, MON_STAT]; omega
  have h2 : EVT_PEND (e / 32) ≠ MON_TRACE_DROP := by simp only [EVT_PEND, MON_TRACE_DROP]; omega
  show bitOf (State.rd _ _) _ = bitOf (State.rd _ _) _
  congr 1
  unfold State.record
  split_ifs
  · exact rd_of_regs rfl _
  · simp only [flag_regs_only, count_regs_only]
    rw [rd_wr_ne _ _ h1, rd_wr_ne _ _ h2]
    exact rd_of_regs rfl _
  · rfl
theorem recEvent_pends (k e : Nat) (h : e < 128) : (s.recEvent k).pends e = s.pends e := by
  unfold State.recEvent
  split_ifs
  · exact record_pends s _ _ e h
  · rfl
/-- What is pending stays pending when an event is raised. -/
theorem pend_pends_mono (k e : Nat) (h : e < 128) (hp : s.pends e = true) : (s.pend k).pends e = true := by
  by_cases hk : s.eventHere k = true
  · have hk2 := eventHere_lt s hk
    show bitOf ((s.pend k).rd _) _ = true
    rw [rd_of_regs (pend_regs s k hk)]
    simp only [flag_regs_only, count_regs_only]
    obtain ⟨h1, h2, h3⟩ := evtPend_ne (x := e / 32) (by omega)
    rw [rd_wr_ne _ _ h1, rd_wr_ne _ _ h2, rd_wr_ne _ _ h3]
    by_cases hq : EVT_PEND (e / 32) = EVT_PEND (k / 32)
    · rw [hq, rd_wr_same]
      have hp' : bitOf (s.rd (EVT_PEND (e / 32))) (e % 32) = true := hp
      rw [hq] at hp'
      simp only [bitOf, BitVec.getLsbD_or] at hp' ⊢
      rw [hp']; rfl
    · rw [rd_wr_ne _ _ hq]; exact hp
  · unfold State.pend
    rw [if_neg hk]; exact hp
theorem raiseDrop_pends (n e : Nat) (h : e < 128) (hp : s.pends e = true) : (s.raiseDrop n).pends e = true := by
  unfold State.raiseDrop
  split_ifs
  · exact hp
  · exact hp
  · rw [recEvent_pends _ _ _ h]
    exact pend_pends_mono _ _ _ h hp
theorem raise_pends_mono (k e : Nat) (h : e < 128) (hp : s.pends e = true) : (s.raise k).pends e = true := by
  unfold State.raise
  split_ifs
  · exact hp
  · exact raiseDrop_pends _ _ _ h (by rw [recEvent_pends _ _ _ h]; exact pend_pends_mono s k e h hp)
/-- A raised event that the module has is pending; those of the presence, seal and power range where the host interface answers. -/
theorem raise_pends (e : Nat) (h : s.eventHere e = true) (ha : e < 16 ∨ 23 < e ∨ s.sys.answering = true) : (s.raise e).pends e = true := by
  unfold State.raise
  rw [if_neg (by rintro ⟨h1, h2, h3⟩; rcases ha with h | h | h; omega; omega; simp [h] at h3)]
  have hl := eventHere_lt s h
  exact raiseDrop_pends _ _ _ hl (by rw [recEvent_pends _ _ _ hl]; exact pend_pends s e h)
theorem raiseOnce_pends (e : Nat) (h : s.eventHere e = true) (ho : s.sys.onceTick.contains e = false) (ha : e < 16 ∨ 23 < e ∨ s.sys.answering = true) :
    (s.raiseOnce e).pends e = true := by
  unfold State.raiseOnce
  rw [ho]
  exact raise_pends _ e h ha
theorem flagRaise_pends (a i e : Nat) (h : s.eventHere e = true) (ha : e < 16 ∨ 23 < e ∨ s.sys.answering = true) :
    (s.flagRaise a i e).pends e = true := raise_pends _ e h ha
theorem flagRaise_rd (a i e : Nat) {b : Nat} (h : evtReg b = false) (hb : b ≠ a) : (s.flagRaise a i e).rd b = s.rd b := by
  unfold State.flagRaise
  rw [raise_rd _ _ h, rd_flag_ne _ _ hb]
theorem flagRaise_bit (a i e : Nat) (h : evtReg a = false) (hi : i < 32) : (s.flagRaise a i e).bit a i = true := by
  show bitOf ((s.flagRaise a i e).rd a) i = true
  unfold State.flagRaise
  rw [raise_rd _ _ h, rd_flag_same]
  exact bitOf_or_oneBit _ hi

/-- An event that every variant has. -/
theorem eventHere_of {s : State} {e : Nat} (h : (!eventReserved e && !(decide (108 ≤ e) && decide (e ≤ 119))) = true) : s.eventHere e = true := by
  simp only [Bool.and_eq_true] at h
  unfold State.eventHere
  rw [h.1, h.2]
  simp

/-! ## Bits of words and of registers -/

theorem bitOf_oneBit {i j : Nat} (hj : j < 32) : bitOf (oneBit i) j = decide (i = j) := by
  show (BitVec.ofNat 32 (2 ^ i)).getLsbD j = _
  rw [BitVec.getLsbD_ofNat, Nat.testBit_two_pow]
  simp [hj]
theorem bitOf_or (a b : W32) (i : Nat) : bitOf (a ||| b) i = (bitOf a i || bitOf b i) := by simp [bitOf]
theorem bitOf_and (a b : W32) (i : Nat) : bitOf (a &&& b) i = (bitOf a i && bitOf b i) := by simp [bitOf]
theorem bitOf_not (a : W32) {i : Nat} (hi : i < 32) : bitOf (~~~a) i = !bitOf a i := by simp [bitOf, hi]
theorem bitOf_putBit (w : W32) {i j : Nat} (b : Bool) (hj : j < 32) : bitOf (putBit w i b) j = if i = j then b else bitOf w j := by
  unfold putBit
  cases b
  · simp only [Bool.false_eq_true, if_false]
    rw [bitOf_and, bitOf_not _ hj, bitOf_oneBit hj]
    by_cases h : i = j <;> simp [h]
  · simp only [if_true]
    rw [bitOf_or, bitOf_oneBit hj]
    by_cases h : i = j <;> simp [h]
theorem bit_wr_same (a : Nat) (v : W32) (i : Nat) : (s.wr a v).bit a i = bitOf v i := by
  unfold State.bit
  rw [rd_wr_same]
theorem bit_wr_ne {a b : Nat} (v : W32) (i : Nat) (h : b ≠ a) : (s.wr a v).bit b i = s.bit b i := by
  unfold State.bit
  rw [rd_wr_ne _ _ h]
theorem bit_flag (a i : Nat) {j : Nat} (hj : j < 32) : (s.flag a i).bit a j = (decide (i = j) || s.bit a j) := by
  unfold State.bit
  rw [rd_flag_same, bitOf_or, bitOf_oneBit hj, Bool.or_comm]
theorem bit_unflag (a i : Nat) {j : Nat} (hj : j < 32) : (s.unflag a i).bit a j = (s.bit a j && !decide (i = j)) := by
  unfold State.unflag
  rw [bit_wr_same, bitOf_and, bitOf_not _ hj, bitOf_oneBit hj]
  rfl
theorem rd_unflag_ne {a b : Nat} (i : Nat) (h : b ≠ a) : (s.unflag a i).rd b = s.rd b := rd_wr_ne s _ h
theorem flag_sys (a i : Nat) : (s.flag a i).sys = s.sys := rfl
theorem unflag_sys (a i : Nat) : (s.unflag a i).sys = s.sys := rfl
theorem count_sys (a n : Nat) : (s.count a n).sys = s.sys := rfl
theorem bit_modSys (f : SysSt → SysSt) (a i : Nat) : (s.modSys f).bit a i = s.bit a i := rfl
theorem pends_modSys (f : SysSt → SysSt) (e : Nat) : (s.modSys f).pends e = s.pends e := rfl

/-! ## How a command answers -/

/-- A command that the host gives while its interface is up acts. -/
theorem byHost_up {s : State} (h : s.hostUp = true) (f : State → State) : s.byHost f = f s := by
  simp [State.byHost, h]

theorem answering_of_hostUp {s : State} (h : s.hostUp = true) : s.sys.answering = true := by
  simp [State.hostUp] at h
  exact h.1

/-- A command that does not reach the cores leads to the state it has made. -/
theorem leads_doneCore {i : Instr} {s t : State} {p : State → Prop} (h : exec i s = doneCore s t)
    (hp : p (t.answered s s.cores)) : leads i s p := ⟨_, h, hp⟩
/-- A command of any other kind leads to the state it has made, the stacks kept. -/
theorem leads_done {i : Instr} {s t : State} {p : State → Prop} (h : exec i s = done s t)
    (hp : p (t.answered s (t.cores.map (keepStacks s.cores)))) : leads i s p := ⟨_, h, hp⟩
/-- An instruction of a Fuller core leads to the state it has made. -/
theorem leads_doneStep {i : Instr} {s t : State} {p : State → Prop} (h : exec i s = doneStep s t)
    (hp : p (t.answered s t.cores)) : leads i s p := ⟨_, h, hp⟩

/-- A state that differs only in what events touch is answered as it is. -/
theorem evtOnly.answer {s t : State} (h : evtOnly s t) : t.answered s s.cores = t := by
  unfold State.answered
  have h1 := h.pending
  have h2 := h.fit
  have h3 := h.cores
  rw [← h1, ← h2, ← h3]

end Sys2Proof.Machine
end

