-- ==== Sys2Proof/Laws/Parts.lean ====
section
/-! SUPPORT. The updates of one line, selector, voice, recorder, stream, port, input, channel or contact: each field of the state under each of them, what a read
of the changed object and of another gives, and when a Fuller instruction and an effect of Heartwood act. -/

namespace Sys2Proof.Machine

variable (s : State)

/-! ## `setLine`: a delay line changes -/

@[simp] theorem setLine_pending (l : Nat) (x : LineState) : (s.setLine l x).pending = s.pending := rfl
@[simp] theorem setLine_fit (l : Nat) (x : LineState) : (s.setLine l x).fit = s.fit := rfl
@[simp] theorem setLine_regs (l : Nat) (x : LineState) : (s.setLine l x).regs = s.regs := rfl
@[simp] theorem setLine_out (l : Nat) (x : LineState) : (s.setLine l x).out = s.out := rfl
@[simp] theorem setLine_free (l : Nat) (x : LineState) : (s.setLine l x).free = s.free := rfl
@[simp] theorem setLine_sys (l : Nat) (x : LineState) : (s.setLine l x).sys = s.sys := rfl
@[simp] theorem setLine_jobs (l : Nat) (x : LineState) : (s.setLine l x).jobs = s.jobs := rfl
@[simp] theorem setLine_ledger (l : Nat) (x : LineState) : (s.setLine l x).ledger = s.ledger := rfl
@[simp] theorem setLine_img (l : Nat) (x : LineState) : (s.setLine l x).img = s.img := rfl
@[simp] theorem setLine_graph (l : Nat) (x : LineState) : (s.setLine l x).graph = { s.graph with lines := spPut s.graph.lines l x } := rfl
@[simp] theorem setLine_canopy (l : Nat) (x : LineState) : (s.setLine l x).canopy = s.canopy := rfl
@[simp] theorem setLine_cores (l : Nat) (x : LineState) : (s.setLine l x).cores = s.cores := rfl
@[simp] theorem setLine_ports (l : Nat) (x : LineState) : (s.setLine l x).ports = s.ports := rfl
@[simp] theorem setLine_clk (l : Nat) (x : LineState) : (s.setLine l x).clk = s.clk := rfl
@[simp] theorem setLine_net (l : Nat) (x : LineState) : (s.setLine l x).net = s.net := rfl
@[simp] theorem setLine_tim (l : Nat) (x : LineState) : (s.setLine l x).tim = s.tim := rfl
@[simp] theorem setLine_pps (l : Nat) (x : LineState) : (s.setLine l x).pps = s.pps := rfl
@[simp] theorem setLine_dram (l : Nat) (x : LineState) : (s.setLine l x).dram = s.dram := rfl
@[simp] theorem setLine_mem (l : Nat) (x : LineState) : (s.setLine l x).mem = s.mem := rfl
@[simp] theorem setLine_trk (l : Nat) (x : LineState) : (s.setLine l x).trk = s.trk := rfl
@[simp] theorem setLine_twn (l : Nat) (x : LineState) : (s.setLine l x).twn = s.twn := rfl
@[simp] theorem setLine_hwd (l : Nat) (x : LineState) : (s.setLine l x).hwd = s.hwd := rfl
@[simp] theorem setLine_prv (l : Nat) (x : LineState) : (s.setLine l x).prv = s.prv := rfl
@[simp] theorem setLine_prs (l : Nat) (x : LineState) : (s.setLine l x).prs = s.prs := rfl
@[simp] theorem setLine_pwd (l : Nat) (x : LineState) : (s.setLine l x).pwd = s.pwd := rfl
@[simp] theorem setLine_mon (l : Nat) (x : LineState) : (s.setLine l x).mon = s.mon := rfl
@[simp] theorem setLine_rd (l : Nat) (x : LineState) (r : Nat) : (s.setLine l x).rd r = s.rd r := rfl
theorem line_setLine_same (l : Nat) (x : LineState) : (s.setLine l x).line l = x := spGet_spPut_same ..
theorem line_setLine_ne (l : Nat) (x : LineState) {j : Nat} (h : j ≠ l) : (s.setLine l x).line j = s.line j := spGet_spPut_ne _ _ _ h

/-! ## `setSel`: a selector changes -/

@[simp] theorem setSel_pending (k : Nat) (x : SelState) : (s.setSel k x).pending = s.pending := rfl
@[simp] theorem setSel_fit (k : Nat) (x : SelState) : (s.setSel k x).fit = s.fit := rfl
@[simp] theorem setSel_regs (k : Nat) (x : SelState) : (s.setSel k x).regs = s.regs := rfl
@[simp] theorem setSel_out (k : Nat) (x : SelState) : (s.setSel k x).out = s.out := rfl
@[simp] theorem setSel_free (k : Nat) (x : SelState) : (s.setSel k x).free = s.free := rfl
@[simp] theorem setSel_sys (k : Nat) (x : SelState) : (s.setSel k x).sys = s.sys := rfl
@[simp] theorem setSel_jobs (k : Nat) (x : SelState) : (s.setSel k x).jobs = s.jobs := rfl
@[simp] theorem setSel_ledger (k : Nat) (x : SelState) : (s.setSel k x).ledger = s.ledger := rfl
@[simp] theorem setSel_img (k : Nat) (x : SelState) : (s.setSel k x).img = s.img := rfl
@[simp] theorem setSel_graph (k : Nat) (x : SelState) : (s.setSel k x).graph = { s.graph with sels := spPut s.graph.sels k x } := rfl
@[simp] theorem setSel_canopy (k : Nat) (x : SelState) : (s.setSel k x).canopy = s.canopy := rfl
@[simp] theorem setSel_cores (k : Nat) (x : SelState) : (s.setSel k x).cores = s.cores := rfl
@[simp] theorem setSel_ports (k : Nat) (x : SelState) : (s.setSel k x).ports = s.ports := rfl
@[simp] theorem setSel_clk (k : Nat) (x : SelState) : (s.setSel k x).clk = s.clk := rfl
@[simp] theorem setSel_net (k : Nat) (x : SelState) : (s.setSel k x).net = s.net := rfl
@[simp] theorem setSel_tim (k : Nat) (x : SelState) : (s.setSel k x).tim = s.tim := rfl
@[simp] theorem setSel_pps (k : Nat) (x : SelState) : (s.setSel k x).pps = s.pps := rfl
@[simp] theorem setSel_dram (k : Nat) (x : SelState) : (s.setSel k x).dram = s.dram := rfl
@[simp] theorem setSel_mem (k : Nat) (x : SelState) : (s.setSel k x).mem = s.mem := rfl
@[simp] theorem setSel_trk (k : Nat) (x : SelState) : (s.setSel k x).trk = s.trk := rfl
@[simp] theorem setSel_twn (k : Nat) (x : SelState) : (s.setSel k x).twn = s.twn := rfl
@[simp] theorem setSel_hwd (k : Nat) (x : SelState) : (s.setSel k x).hwd = s.hwd := rfl
@[simp] theorem setSel_prv (k : Nat) (x : SelState) : (s.setSel k x).prv = s.prv := rfl
@[simp] theorem setSel_prs (k : Nat) (x : SelState) : (s.setSel k x).prs = s.prs := rfl
@[simp] theorem setSel_pwd (k : Nat) (x : SelState) : (s.setSel k x).pwd = s.pwd := rfl
@[simp] theorem setSel_mon (k : Nat) (x : SelState) : (s.setSel k x).mon = s.mon := rfl
@[simp] theorem setSel_rd (k : Nat) (x : SelState) (r : Nat) : (s.setSel k x).rd r = s.rd r := rfl
theorem sel_setSel_same (k : Nat) (x : SelState) : (s.setSel k x).sel k = x := spGet_spPut_same ..
theorem sel_setSel_ne (k : Nat) (x : SelState) {j : Nat} (h : j ≠ k) : (s.setSel k x).sel j = s.sel j := spGet_spPut_ne _ _ _ h

/-! ## `setVoice`: a voice changes -/

@[simp] theorem setVoice_pending (v : Nat) (x : Voice) : (s.setVoice v x).pending = s.pending := rfl
@[simp] theorem setVoice_fit (v : Nat) (x : Voice) : (s.setVoice v x).fit = s.fit := rfl
@[simp] theorem setVoice_regs (v : Nat) (x : Voice) : (s.setVoice v x).regs = s.regs := rfl
@[simp] theorem setVoice_out (v : Nat) (x : Voice) : (s.setVoice v x).out = s.out := rfl
@[simp] theorem setVoice_free (v : Nat) (x : Voice) : (s.setVoice v x).free = s.free := rfl
@[simp] theorem setVoice_sys (v : Nat) (x : Voice) : (s.setVoice v x).sys = s.sys := rfl
@[simp] theorem setVoice_jobs (v : Nat) (x : Voice) : (s.setVoice v x).jobs = s.jobs := rfl
@[simp] theorem setVoice_ledger (v : Nat) (x : Voice) : (s.setVoice v x).ledger = s.ledger := rfl
@[simp] theorem setVoice_img (v : Nat) (x : Voice) : (s.setVoice v x).img = s.img := rfl
@[simp] theorem setVoice_graph (v : Nat) (x : Voice) : (s.setVoice v x).graph = { s.graph with voices := spPut s.graph.voices v x } := rfl
@[simp] theorem setVoice_canopy (v : Nat) (x : Voice) : (s.setVoice v x).canopy = s.canopy := rfl
@[simp] theorem setVoice_cores (v : Nat) (x : Voice) : (s.setVoice v x).cores = s.cores := rfl
@[simp] theorem setVoice_ports (v : Nat) (x : Voice) : (s.setVoice v x).ports = s.ports := rfl
@[simp] theorem setVoice_clk (v : Nat) (x : Voice) : (s.setVoice v x).clk = s.clk := rfl
@[simp] theorem setVoice_net (v : Nat) (x : Voice) : (s.setVoice v x).net = s.net := rfl
@[simp] theorem setVoice_tim (v : Nat) (x : Voice) : (s.setVoice v x).tim = s.tim := rfl
@[simp] theorem setVoice_pps (v : Nat) (x : Voice) : (s.setVoice v x).pps = s.pps := rfl
@[simp] theorem setVoice_dram (v : Nat) (x : Voice) : (s.setVoice v x).dram = s.dram := rfl
@[simp] theorem setVoice_mem (v : Nat) (x : Voice) : (s.setVoice v x).mem = s.mem := rfl
@[simp] theorem setVoice_trk (v : Nat) (x : Voice) : (s.setVoice v x).trk = s.trk := rfl
@[simp] theorem setVoice_twn (v : Nat) (x : Voice) : (s.setVoice v x).twn = s.twn := rfl
@[simp] theorem setVoice_hwd (v : Nat) (x : Voice) : (s.setVoice v x).hwd = s.hwd := rfl
@[simp] theorem setVoice_prv (v : Nat) (x : Voice) : (s.setVoice v x).prv = s.prv := rfl
@[simp] theorem setVoice_prs (v : Nat) (x : Voice) : (s.setVoice v x).prs = s.prs := rfl
@[simp] theorem setVoice_pwd (v : Nat) (x : Voice) : (s.setVoice v x).pwd = s.pwd := rfl
@[simp] theorem setVoice_mon (v : Nat) (x : Voice) : (s.setVoice v x).mon = s.mon := rfl
@[simp] theorem setVoice_rd (v : Nat) (x : Voice) (r : Nat) : (s.setVoice v x).rd r = s.rd r := rfl
theorem voice_setVoice_same (v : Nat) (x : Voice) : (s.setVoice v x).voice v = x := spGet_spPut_same ..
theorem voice_setVoice_ne (v : Nat) (x : Voice) {j : Nat} (h : j ≠ v) : (s.setVoice v x).voice j = s.voice j := spGet_spPut_ne _ _ _ h

/-! ## `setRecorder`: a recorder channel changes -/

@[simp] theorem setRecorder_pending (c : Nat) (x : Recorder) : (s.setRecorder c x).pending = s.pending := rfl
@[simp] theorem setRecorder_fit (c : Nat) (x : Recorder) : (s.setRecorder c x).fit = s.fit := rfl
@[simp] theorem setRecorder_regs (c : Nat) (x : Recorder) : (s.setRecorder c x).regs = s.regs := rfl
@[simp] theorem setRecorder_out (c : Nat) (x : Recorder) : (s.setRecorder c x).out = s.out := rfl
@[simp] theorem setRecorder_free (c : Nat) (x : Recorder) : (s.setRecorder c x).free = s.free := rfl
@[simp] theorem setRecorder_sys (c : Nat) (x : Recorder) : (s.setRecorder c x).sys = s.sys := rfl
@[simp] theorem setRecorder_jobs (c : Nat) (x : Recorder) : (s.setRecorder c x).jobs = s.jobs := rfl
@[simp] theorem setRecorder_ledger (c : Nat) (x : Recorder) : (s.setRecorder c x).ledger = s.ledger := rfl
@[simp] theorem setRecorder_img (c : Nat) (x : Recorder) : (s.setRecorder c x).img = s.img := rfl
@[simp] theorem setRecorder_graph (c : Nat) (x : Recorder) : (s.setRecorder c x).graph = { s.graph with recs := spPut s.graph.recs c x } := rfl
@[simp] theorem setRecorder_canopy (c : Nat) (x : Recorder) : (s.setRecorder c x).canopy = s.canopy := rfl
@[simp] theorem setRecorder_cores (c : Nat) (x : Recorder) : (s.setRecorder c x).cores = s.cores := rfl
@[simp] theorem setRecorder_ports (c : Nat) (x : Recorder) : (s.setRecorder c x).ports = s.ports := rfl
@[simp] theorem setRecorder_clk (c : Nat) (x : Recorder) : (s.setRecorder c x).clk = s.clk := rfl
@[simp] theorem setRecorder_net (c : Nat) (x : Recorder) : (s.setRecorder c x).net = s.net := rfl
@[simp] theorem setRecorder_tim (c : Nat) (x : Recorder) : (s.setRecorder c x).tim = s.tim := rfl
@[simp] theorem setRecorder_pps (c : Nat) (x : Recorder) : (s.setRecorder c x).pps = s.pps := rfl
@[simp] theorem setRecorder_dram (c : Nat) (x : Recorder) : (s.setRecorder c x).dram = s.dram := rfl
@[simp] theorem setRecorder_mem (c : Nat) (x : Recorder) : (s.setRecorder c x).mem = s.mem := rfl
@[simp] theorem setRecorder_trk (c : Nat) (x : Recorder) : (s.setRecorder c x).trk = s.trk := rfl
@[simp] theorem setRecorder_twn (c : Nat) (x : Recorder) : (s.setRecorder c x).twn = s.twn := rfl
@[simp] theorem setRecorder_hwd (c : Nat) (x : Recorder) : (s.setRecorder c x).hwd = s.hwd := rfl
@[simp] theorem setRecorder_prv (c : Nat) (x : Recorder) : (s.setRecorder c x).prv = s.prv := rfl
@[simp] theorem setRecorder_prs (c : Nat) (x : Recorder) : (s.setRecorder c x).prs = s.prs := rfl
@[simp] theorem setRecorder_pwd (c : Nat) (x : Recorder) : (s.setRecorder c x).pwd = s.pwd := rfl
@[simp] theorem setRecorder_mon (c : Nat) (x : Recorder) : (s.setRecorder c x).mon = s.mon := rfl
@[simp] theorem setRecorder_rd (c : Nat) (x : Recorder) (r : Nat) : (s.setRecorder c x).rd r = s.rd r := rfl
theorem recorder_setRecorder_same (c : Nat) (x : Recorder) : (s.setRecorder c x).recorder c = x := spGet_spPut_same ..
theorem recorder_setRecorder_ne (c : Nat) (x : Recorder) {j : Nat} (h : j ≠ c) : (s.setRecorder c x).recorder j = s.recorder j := spGet_spPut_ne _ _ _ h

/-! ## `setStr`: a stream changes -/

@[simp] theorem setStr_pending (k : Nat) (x : Stream) : (s.setStr k x).pending = s.pending := rfl
@[simp] theorem setStr_fit (k : Nat) (x : Stream) : (s.setStr k x).fit = s.fit := rfl
@[simp] theorem setStr_regs (k : Nat) (x : Stream) : (s.setStr k x).regs = s.regs := rfl
@[simp] theorem setStr_out (k : Nat) (x : Stream) : (s.setStr k x).out = s.out := rfl
@[simp] theorem setStr_free (k : Nat) (x : Stream) : (s.setStr k x).free = s.free := rfl
@[simp] theorem setStr_sys (k : Nat) (x : Stream) : (s.setStr k x).sys = s.sys := rfl
@[simp] theorem setStr_jobs (k : Nat) (x : Stream) : (s.setStr k x).jobs = s.jobs := rfl
@[simp] theorem setStr_ledger (k : Nat) (x : Stream) : (s.setStr k x).ledger = s.ledger := rfl
@[simp] theorem setStr_img (k : Nat) (x : Stream) : (s.setStr k x).img = s.img := rfl
@[simp] theorem setStr_graph (k : Nat) (x : Stream) : (s.setStr k x).graph = s.graph := rfl
@[simp] theorem setStr_canopy (k : Nat) (x : Stream) : (s.setStr k x).canopy = s.canopy := rfl
@[simp] theorem setStr_cores (k : Nat) (x : Stream) : (s.setStr k x).cores = s.cores := rfl
@[simp] theorem setStr_ports (k : Nat) (x : Stream) : (s.setStr k x).ports = s.ports := rfl
@[simp] theorem setStr_clk (k : Nat) (x : Stream) : (s.setStr k x).clk = s.clk := rfl
@[simp] theorem setStr_net (k : Nat) (x : Stream) : (s.setStr k x).net = { s.net with streams := spPut s.net.streams k x } := rfl
@[simp] theorem setStr_tim (k : Nat) (x : Stream) : (s.setStr k x).tim = s.tim := rfl
@[simp] theorem setStr_pps (k : Nat) (x : Stream) : (s.setStr k x).pps = s.pps := rfl
@[simp] theorem setStr_dram (k : Nat) (x : Stream) : (s.setStr k x).dram = s.dram := rfl
@[simp] theorem setStr_mem (k : Nat) (x : Stream) : (s.setStr k x).mem = s.mem := rfl
@[simp] theorem setStr_trk (k : Nat) (x : Stream) : (s.setStr k x).trk = s.trk := rfl
@[simp] theorem setStr_twn (k : Nat) (x : Stream) : (s.setStr k x).twn = s.twn := rfl
@[simp] theorem setStr_hwd (k : Nat) (x : Stream) : (s.setStr k x).hwd = s.hwd := rfl
@[simp] theorem setStr_prv (k : Nat) (x : Stream) : (s.setStr k x).prv = s.prv := rfl
@[simp] theorem setStr_prs (k : Nat) (x : Stream) : (s.setStr k x).prs = s.prs := rfl
@[simp] theorem setStr_pwd (k : Nat) (x : Stream) : (s.setStr k x).pwd = s.pwd := rfl
@[simp] theorem setStr_mon (k : Nat) (x : Stream) : (s.setStr k x).mon = s.mon := rfl
@[simp] theorem setStr_rd (k : Nat) (x : Stream) (r : Nat) : (s.setStr k x).rd r = s.rd r := rfl
theorem str_setStr_same (k : Nat) (x : Stream) : (s.setStr k x).str k = x := spGet_spPut_same ..
theorem str_setStr_ne (k : Nat) (x : Stream) {j : Nat} (h : j ≠ k) : (s.setStr k x).str j = s.str j := spGet_spPut_ne _ _ _ h

/-! ## `modNetPort`: a network port changes -/

@[simp] theorem modNetPort_pending (p : Nat) (f : NetPort → NetPort) : (s.modNetPort p f).pending = s.pending := rfl
@[simp] theorem modNetPort_fit (p : Nat) (f : NetPort → NetPort) : (s.modNetPort p f).fit = s.fit := rfl
@[simp] theorem modNetPort_regs (p : Nat) (f : NetPort → NetPort) : (s.modNetPort p f).regs = s.regs := rfl
@[simp] theorem modNetPort_out (p : Nat) (f : NetPort → NetPort) : (s.modNetPort p f).out = s.out := rfl
@[simp] theorem modNetPort_free (p : Nat) (f : NetPort → NetPort) : (s.modNetPort p f).free = s.free := rfl
@[simp] theorem modNetPort_sys (p : Nat) (f : NetPort → NetPort) : (s.modNetPort p f).sys = s.sys := rfl
@[simp] theorem modNetPort_jobs (p : Nat) (f : NetPort → NetPort) : (s.modNetPort p f).jobs = s.jobs := rfl
@[simp] theorem modNetPort_ledger (p : Nat) (f : NetPort → NetPort) : (s.modNetPort p f).ledger = s.ledger := rfl
@[simp] theorem modNetPort_img (p : Nat) (f : NetPort → NetPort) : (s.modNetPort p f).img = s.img := rfl
@[simp] theorem modNetPort_graph (p : Nat) (f : NetPort → NetPort) : (s.modNetPort p f).graph = s.graph := rfl
@[simp] theorem modNetPort_canopy (p : Nat) (f : NetPort → NetPort) : (s.modNetPort p f).canopy = s.canopy := rfl
@[simp] theorem modNetPort_cores (p : Nat) (f : NetPort → NetPort) : (s.modNetPort p f).cores = s.cores := rfl
@[simp] theorem modNetPort_ports (p : Nat) (f : NetPort → NetPort) : (s.modNetPort p f).ports = s.ports := rfl
@[simp] theorem modNetPort_clk (p : Nat) (f : NetPort → NetPort) : (s.modNetPort p f).clk = s.clk := rfl
@[simp] theorem modNetPort_net (p : Nat) (f : NetPort → NetPort) : (s.modNetPort p f).net = { s.net with ports := spPut s.net.ports p (f (s.netPort p)) } := rfl
@[simp] theorem modNetPort_tim (p : Nat) (f : NetPort → NetPort) : (s.modNetPort p f).tim = s.tim := rfl
@[simp] theorem modNetPort_pps (p : Nat) (f : NetPort → NetPort) : (s.modNetPort p f).pps = s.pps := rfl
@[simp] theorem modNetPort_dram (p : Nat) (f : NetPort → NetPort) : (s.modNetPort p f).dram = s.dram := rfl
@[simp] theorem modNetPort_mem (p : Nat) (f : NetPort → NetPort) : (s.modNetPort p f).mem = s.mem := rfl
@[simp] theorem modNetPort_trk (p : Nat) (f : NetPort → NetPort) : (s.modNetPort p f).trk = s.trk := rfl
@[simp] theorem modNetPort_twn (p : Nat) (f : NetPort → NetPort) : (s.modNetPort p f).twn = s.twn := rfl
@[simp] theorem modNetPort_hwd (p : Nat) (f : NetPort → NetPort) : (s.modNetPort p f).hwd = s.hwd := rfl
@[simp] theorem modNetPort_prv (p : Nat) (f : NetPort → NetPort) : (s.modNetPort p f).prv = s.prv := rfl
@[simp] theorem modNetPort_prs (p : Nat) (f : NetPort → NetPort) : (s.modNetPort p f).prs = s.prs := rfl
@[simp] theorem modNetPort_pwd (p : Nat) (f : NetPort → NetPort) : (s.modNetPort p f).pwd = s.pwd := rfl
@[simp] theorem modNetPort_mon (p : Nat) (f : NetPort → NetPort) : (s.modNetPort p f).mon = s.mon := rfl
@[simp] theorem modNetPort_rd (p : Nat) (f : NetPort → NetPort) (r : Nat) : (s.modNetPort p f).rd r = s.rd r := rfl
theorem netPort_modNetPort_same (p : Nat) (f : NetPort → NetPort) : (s.modNetPort p f).netPort p = (f (s.netPort p)) := spGet_spPut_same ..
theorem netPort_modNetPort_ne (p : Nat) (f : NetPort → NetPort) {j : Nat} (h : j ≠ p) : (s.modNetPort p f).netPort j = s.netPort j := spGet_spPut_ne _ _ _ h

/-! ## `modRef`: a reference input changes -/

@[simp] theorem modRef_pending (i : Nat) (f : RefIn → RefIn) : (s.modRef i f).pending = s.pending := rfl
@[simp] theorem modRef_fit (i : Nat) (f : RefIn → RefIn) : (s.modRef i f).fit = s.fit := rfl
@[simp] theorem modRef_regs (i : Nat) (f : RefIn → RefIn) : (s.modRef i f).regs = s.regs := rfl
@[simp] theorem modRef_out (i : Nat) (f : RefIn → RefIn) : (s.modRef i f).out = s.out := rfl
@[simp] theorem modRef_free (i : Nat) (f : RefIn → RefIn) : (s.modRef i f).free = s.free := rfl
@[simp] theorem modRef_sys (i : Nat) (f : RefIn → RefIn) : (s.modRef i f).sys = s.sys := rfl
@[simp] theorem modRef_jobs (i : Nat) (f : RefIn → RefIn) : (s.modRef i f).jobs = s.jobs := rfl
@[simp] theorem modRef_ledger (i : Nat) (f : RefIn → RefIn) : (s.modRef i f).ledger = s.ledger := rfl
@[simp] theorem modRef_img (i : Nat) (f : RefIn → RefIn) : (s.modRef i f).img = s.img := rfl
@[simp] theorem modRef_graph (i : Nat) (f : RefIn → RefIn) : (s.modRef i f).graph = s.graph := rfl
@[simp] theorem modRef_canopy (i : Nat) (f : RefIn → RefIn) : (s.modRef i f).canopy = s.canopy := rfl
@[simp] theorem modRef_cores (i : Nat) (f : RefIn → RefIn) : (s.modRef i f).cores = s.cores := rfl
@[simp] theorem modRef_ports (i : Nat) (f : RefIn → RefIn) : (s.modRef i f).ports = s.ports := rfl
@[simp] theorem modRef_clk (i : Nat) (f : RefIn → RefIn) : (s.modRef i f).clk = { s.clk with refs := spPut s.clk.refs i (f (s.ref i)) } := rfl
@[simp] theorem modRef_net (i : Nat) (f : RefIn → RefIn) : (s.modRef i f).net = s.net := rfl
@[simp] theorem modRef_tim (i : Nat) (f : RefIn → RefIn) : (s.modRef i f).tim = s.tim := rfl
@[simp] theorem modRef_pps (i : Nat) (f : RefIn → RefIn) : (s.modRef i f).pps = s.pps := rfl
@[simp] theorem modRef_dram (i : Nat) (f : RefIn → RefIn) : (s.modRef i f).dram = s.dram := rfl
@[simp] theorem modRef_mem (i : Nat) (f : RefIn → RefIn) : (s.modRef i f).mem = s.mem := rfl
@[simp] theorem modRef_trk (i : Nat) (f : RefIn → RefIn) : (s.modRef i f).trk = s.trk := rfl
@[simp] theorem modRef_twn (i : Nat) (f : RefIn → RefIn) : (s.modRef i f).twn = s.twn := rfl
@[simp] theorem modRef_hwd (i : Nat) (f : RefIn → RefIn) : (s.modRef i f).hwd = s.hwd := rfl
@[simp] theorem modRef_prv (i : Nat) (f : RefIn → RefIn) : (s.modRef i f).prv = s.prv := rfl
@[simp] theorem modRef_prs (i : Nat) (f : RefIn → RefIn) : (s.modRef i f).prs = s.prs := rfl
@[simp] theorem modRef_pwd (i : Nat) (f : RefIn → RefIn) : (s.modRef i f).pwd = s.pwd := rfl
@[simp] theorem modRef_mon (i : Nat) (f : RefIn → RefIn) : (s.modRef i f).mon = s.mon := rfl
@[simp] theorem modRef_rd (i : Nat) (f : RefIn → RefIn) (r : Nat) : (s.modRef i f).rd r = s.rd r := rfl
theorem ref_modRef_same (i : Nat) (f : RefIn → RefIn) : (s.modRef i f).ref i = (f (s.ref i)) := spGet_spPut_same ..
theorem ref_modRef_ne (i : Nat) (f : RefIn → RefIn) {j : Nat} (h : j ≠ i) : (s.modRef i f).ref j = s.ref j := spGet_spPut_ne _ _ _ h

/-! ## `modPulse`: a pulse output changes -/

@[simp] theorem modPulse_pending (p : Nat) (f : Pps → Pps) : (s.modPulse p f).pending = s.pending := rfl
@[simp] theorem modPulse_fit (p : Nat) (f : Pps → Pps) : (s.modPulse p f).fit = s.fit := rfl
@[simp] theorem modPulse_regs (p : Nat) (f : Pps → Pps) : (s.modPulse p f).regs = s.regs := rfl
@[simp] theorem modPulse_out (p : Nat) (f : Pps → Pps) : (s.modPulse p f).out = s.out := rfl
@[simp] theorem modPulse_free (p : Nat) (f : Pps → Pps) : (s.modPulse p f).free = s.free := rfl
@[simp] theorem modPulse_sys (p : Nat) (f : Pps → Pps) : (s.modPulse p f).sys = s.sys := rfl
@[simp] theorem modPulse_jobs (p : Nat) (f : Pps → Pps) : (s.modPulse p f).jobs = s.jobs := rfl
@[simp] theorem modPulse_ledger (p : Nat) (f : Pps → Pps) : (s.modPulse p f).ledger = s.ledger := rfl
@[simp] theorem modPulse_img (p : Nat) (f : Pps → Pps) : (s.modPulse p f).img = s.img := rfl
@[simp] theorem modPulse_graph (p : Nat) (f : Pps → Pps) : (s.modPulse p f).graph = s.graph := rfl
@[simp] theorem modPulse_canopy (p : Nat) (f : Pps → Pps) : (s.modPulse p f).canopy = s.canopy := rfl
@[simp] theorem modPulse_cores (p : Nat) (f : Pps → Pps) : (s.modPulse p f).cores = s.cores := rfl
@[simp] theorem modPulse_ports (p : Nat) (f : Pps → Pps) : (s.modPulse p f).ports = s.ports := rfl
@[simp] theorem modPulse_clk (p : Nat) (f : Pps → Pps) : (s.modPulse p f).clk = s.clk := rfl
@[simp] theorem modPulse_net (p : Nat) (f : Pps → Pps) : (s.modPulse p f).net = s.net := rfl
@[simp] theorem modPulse_tim (p : Nat) (f : Pps → Pps) : (s.modPulse p f).tim = s.tim := rfl
@[simp] theorem modPulse_pps (p : Nat) (f : Pps → Pps) : (s.modPulse p f).pps = spPut s.pps p (f (s.pulse p)) := rfl
@[simp] theorem modPulse_dram (p : Nat) (f : Pps → Pps) : (s.modPulse p f).dram = s.dram := rfl
@[simp] theorem modPulse_mem (p : Nat) (f : Pps → Pps) : (s.modPulse p f).mem = s.mem := rfl
@[simp] theorem modPulse_trk (p : Nat) (f : Pps → Pps) : (s.modPulse p f).trk = s.trk := rfl
@[simp] theorem modPulse_twn (p : Nat) (f : Pps → Pps) : (s.modPulse p f).twn = s.twn := rfl
@[simp] theorem modPulse_hwd (p : Nat) (f : Pps → Pps) : (s.modPulse p f).hwd = s.hwd := rfl
@[simp] theorem modPulse_prv (p : Nat) (f : Pps → Pps) : (s.modPulse p f).prv = s.prv := rfl
@[simp] theorem modPulse_prs (p : Nat) (f : Pps → Pps) : (s.modPulse p f).prs = s.prs := rfl
@[simp] theorem modPulse_pwd (p : Nat) (f : Pps → Pps) : (s.modPulse p f).pwd = s.pwd := rfl
@[simp] theorem modPulse_mon (p : Nat) (f : Pps → Pps) : (s.modPulse p f).mon = s.mon := rfl
@[simp] theorem modPulse_rd (p : Nat) (f : Pps → Pps) (r : Nat) : (s.modPulse p f).rd r = s.rd r := rfl
theorem pulse_modPulse_same (p : Nat) (f : Pps → Pps) : (s.modPulse p f).pulse p = (f (s.pulse p)) := spGet_spPut_same ..
theorem pulse_modPulse_ne (p : Nat) (f : Pps → Pps) {j : Nat} (h : j ≠ p) : (s.modPulse p f).pulse j = s.pulse j := spGet_spPut_ne _ _ _ h

/-! ## `setChan`: a DRAM channel changes -/

@[simp] theorem setChan_pending (c : Nat) (x : Channel) : (s.setChan c x).pending = s.pending := rfl
@[simp] theorem setChan_fit (c : Nat) (x : Channel) : (s.setChan c x).fit = s.fit := rfl
@[simp] theorem setChan_regs (c : Nat) (x : Channel) : (s.setChan c x).regs = s.regs := rfl
@[simp] theorem setChan_out (c : Nat) (x : Channel) : (s.setChan c x).out = s.out := rfl
@[simp] theorem setChan_free (c : Nat) (x : Channel) : (s.setChan c x).free = s.free := rfl
@[simp] theorem setChan_sys (c : Nat) (x : Channel) : (s.setChan c x).sys = s.sys := rfl
@[simp] theorem setChan_jobs (c : Nat) (x : Channel) : (s.setChan c x).jobs = s.jobs := rfl
@[simp] theorem setChan_ledger (c : Nat) (x : Channel) : (s.setChan c x).ledger = s.ledger := rfl
@[simp] theorem setChan_img (c : Nat) (x : Channel) : (s.setChan c x).img = s.img := rfl
@[simp] theorem setChan_graph (c : Nat) (x : Channel) : (s.setChan c x).graph = s.graph := rfl
@[simp] theorem setChan_canopy (c : Nat) (x : Channel) : (s.setChan c x).canopy = s.canopy := rfl
@[simp] theorem setChan_cores (c : Nat) (x : Channel) : (s.setChan c x).cores = s.cores := rfl
@[simp] theorem setChan_ports (c : Nat) (x : Channel) : (s.setChan c x).ports = s.ports := rfl
@[simp] theorem setChan_clk (c : Nat) (x : Channel) : (s.setChan c x).clk = s.clk := rfl
@[simp] theorem setChan_net (c : Nat) (x : Channel) : (s.setChan c x).net = s.net := rfl
@[simp] theorem setChan_tim (c : Nat) (x : Channel) : (s.setChan c x).tim = s.tim := rfl
@[simp] theorem setChan_pps (c : Nat) (x : Channel) : (s.setChan c x).pps = s.pps := rfl
@[simp] theorem setChan_dram (c : Nat) (x : Channel) : (s.setChan c x).dram = if c = 0 then { s.dram with ch0 := x } else { s.dram with ch1 := x } := rfl
@[simp] theorem setChan_mem (c : Nat) (x : Channel) : (s.setChan c x).mem = s.mem := rfl
@[simp] theorem setChan_trk (c : Nat) (x : Channel) : (s.setChan c x).trk = s.trk := rfl
@[simp] theorem setChan_twn (c : Nat) (x : Channel) : (s.setChan c x).twn = s.twn := rfl
@[simp] theorem setChan_hwd (c : Nat) (x : Channel) : (s.setChan c x).hwd = s.hwd := rfl
@[simp] theorem setChan_prv (c : Nat) (x : Channel) : (s.setChan c x).prv = s.prv := rfl
@[simp] theorem setChan_prs (c : Nat) (x : Channel) : (s.setChan c x).prs = s.prs := rfl
@[simp] theorem setChan_pwd (c : Nat) (x : Channel) : (s.setChan c x).pwd = s.pwd := rfl
@[simp] theorem setChan_mon (c : Nat) (x : Channel) : (s.setChan c x).mon = s.mon := rfl
@[simp] theorem setChan_rd (c : Nat) (x : Channel) (r : Nat) : (s.setChan c x).rd r = s.rd r := rfl

/-! ## `setMic`: a microphone input changes -/

@[simp] theorem setMic_pending (m : Nat) (x : MicIn) : (s.setMic m x).pending = s.pending := rfl
@[simp] theorem setMic_fit (m : Nat) (x : MicIn) : (s.setMic m x).fit = s.fit := rfl
@[simp] theorem setMic_regs (m : Nat) (x : MicIn) : (s.setMic m x).regs = s.regs := rfl
@[simp] theorem setMic_out (m : Nat) (x : MicIn) : (s.setMic m x).out = s.out := rfl
@[simp] theorem setMic_free (m : Nat) (x : MicIn) : (s.setMic m x).free = s.free := rfl
@[simp] theorem setMic_sys (m : Nat) (x : MicIn) : (s.setMic m x).sys = s.sys := rfl
@[simp] theorem setMic_jobs (m : Nat) (x : MicIn) : (s.setMic m x).jobs = s.jobs := rfl
@[simp] theorem setMic_ledger (m : Nat) (x : MicIn) : (s.setMic m x).ledger = s.ledger := rfl
@[simp] theorem setMic_img (m : Nat) (x : MicIn) : (s.setMic m x).img = s.img := rfl
@[simp] theorem setMic_graph (m : Nat) (x : MicIn) : (s.setMic m x).graph = s.graph := rfl
@[simp] theorem setMic_canopy (m : Nat) (x : MicIn) : (s.setMic m x).canopy = s.canopy := rfl
@[simp] theorem setMic_cores (m : Nat) (x : MicIn) : (s.setMic m x).cores = s.cores := rfl
@[simp] theorem setMic_ports (m : Nat) (x : MicIn) : (s.setMic m x).ports = s.ports := rfl
@[simp] theorem setMic_clk (m : Nat) (x : MicIn) : (s.setMic m x).clk = s.clk := rfl
@[simp] theorem setMic_net (m : Nat) (x : MicIn) : (s.setMic m x).net = s.net := rfl
@[simp] theorem setMic_tim (m : Nat) (x : MicIn) : (s.setMic m x).tim = s.tim := rfl
@[simp] theorem setMic_pps (m : Nat) (x : MicIn) : (s.setMic m x).pps = s.pps := rfl
@[simp] theorem setMic_dram (m : Nat) (x : MicIn) : (s.setMic m x).dram = s.dram := rfl
@[simp] theorem setMic_mem (m : Nat) (x : MicIn) : (s.setMic m x).mem = s.mem := rfl
@[simp] theorem setMic_trk (m : Nat) (x : MicIn) : (s.setMic m x).trk = s.trk := rfl
@[simp] theorem setMic_twn (m : Nat) (x : MicIn) : (s.setMic m x).twn = s.twn := rfl
@[simp] theorem setMic_hwd (m : Nat) (x : MicIn) : (s.setMic m x).hwd = { s.hwd with mics := spPut s.hwd.mics m x } := rfl
@[simp] theorem setMic_prv (m : Nat) (x : MicIn) : (s.setMic m x).prv = s.prv := rfl
@[simp] theorem setMic_prs (m : Nat) (x : MicIn) : (s.setMic m x).prs = s.prs := rfl
@[simp] theorem setMic_pwd (m : Nat) (x : MicIn) : (s.setMic m x).pwd = s.pwd := rfl
@[simp] theorem setMic_mon (m : Nat) (x : MicIn) : (s.setMic m x).mon = s.mon := rfl
@[simp] theorem setMic_rd (m : Nat) (x : MicIn) (r : Nat) : (s.setMic m x).rd r = s.rd r := rfl
theorem micIn_setMic_same (m : Nat) (x : MicIn) : (s.setMic m x).micIn m = x := spGet_spPut_same ..
theorem micIn_setMic_ne (m : Nat) (x : MicIn) {j : Nat} (h : j ≠ m) : (s.setMic m x).micIn j = s.micIn j := spGet_spPut_ne _ _ _ h

/-! ## `setCin`: a contact changes -/

@[simp] theorem setCin_pending (c : Nat) (x : CinLine) : (s.setCin c x).pending = s.pending := rfl
@[simp] theorem setCin_fit (c : Nat) (x : CinLine) : (s.setCin c x).fit = s.fit := rfl
@[simp] theorem setCin_regs (c : Nat) (x : CinLine) : (s.setCin c x).regs = s.regs := rfl
@[simp] theorem setCin_out (c : Nat) (x : CinLine) : (s.setCin c x).out = s.out := rfl
@[simp] theorem setCin_free (c : Nat) (x : CinLine) : (s.setCin c x).free = s.free := rfl
@[simp] theorem setCin_sys (c : Nat) (x : CinLine) : (s.setCin c x).sys = s.sys := rfl
@[simp] theorem setCin_jobs (c : Nat) (x : CinLine) : (s.setCin c x).jobs = s.jobs := rfl
@[simp] theorem setCin_ledger (c : Nat) (x : CinLine) : (s.setCin c x).ledger = s.ledger := rfl
@[simp] theorem setCin_img (c : Nat) (x : CinLine) : (s.setCin c x).img = s.img := rfl
@[simp] theorem setCin_graph (c : Nat) (x : CinLine) : (s.setCin c x).graph = s.graph := rfl
@[simp] theorem setCin_canopy (c : Nat) (x : CinLine) : (s.setCin c x).canopy = s.canopy := rfl
@[simp] theorem setCin_cores (c : Nat) (x : CinLine) : (s.setCin c x).cores = s.cores := rfl
@[simp] theorem setCin_ports (c : Nat) (x : CinLine) : (s.setCin c x).ports = s.ports := rfl
@[simp] theorem setCin_clk (c : Nat) (x : CinLine) : (s.setCin c x).clk = s.clk := rfl
@[simp] theorem setCin_net (c : Nat) (x : CinLine) : (s.setCin c x).net = s.net := rfl
@[simp] theorem setCin_tim (c : Nat) (x : CinLine) : (s.setCin c x).tim = s.tim := rfl
@[simp] theorem setCin_pps (c : Nat) (x : CinLine) : (s.setCin c x).pps = s.pps := rfl
@[simp] theorem setCin_dram (c : Nat) (x : CinLine) : (s.setCin c x).dram = s.dram := rfl
@[simp] theorem setCin_mem (c : Nat) (x : CinLine) : (s.setCin c x).mem = s.mem := rfl
@[simp] theorem setCin_trk (c : Nat) (x : CinLine) : (s.setCin c x).trk = s.trk := rfl
@[simp] theorem setCin_twn (c : Nat) (x : CinLine) : (s.setCin c x).twn = s.twn := rfl
@[simp] theorem setCin_hwd (c : Nat) (x : CinLine) : (s.setCin c x).hwd = { s.hwd with cins := spPut s.hwd.cins c x } := rfl
@[simp] theorem setCin_prv (c : Nat) (x : CinLine) : (s.setCin c x).prv = s.prv := rfl
@[simp] theorem setCin_prs (c : Nat) (x : CinLine) : (s.setCin c x).prs = s.prs := rfl
@[simp] theorem setCin_pwd (c : Nat) (x : CinLine) : (s.setCin c x).pwd = s.pwd := rfl
@[simp] theorem setCin_mon (c : Nat) (x : CinLine) : (s.setCin c x).mon = s.mon := rfl
@[simp] theorem setCin_rd (c : Nat) (x : CinLine) (r : Nat) : (s.setCin c x).rd r = s.rd r := rfl
theorem cin_setCin_same (c : Nat) (x : CinLine) : (s.setCin c x).cin c = x := spGet_spPut_same ..
theorem cin_setCin_ne (c : Nat) (x : CinLine) {j : Nat} (h : j ≠ c) : (s.setCin c x).cin j = s.cin j := spGet_spPut_ne _ _ _ h

/-! ## `setCh`: a power channel changes -/

@[simp] theorem setCh_pending (k : Nat) (x : PowCh) : (s.setCh k x).pending = s.pending := rfl
@[simp] theorem setCh_fit (k : Nat) (x : PowCh) : (s.setCh k x).fit = s.fit := rfl
@[simp] theorem setCh_regs (k : Nat) (x : PowCh) : (s.setCh k x).regs = s.regs := rfl
@[simp] theorem setCh_out (k : Nat) (x : PowCh) : (s.setCh k x).out = s.out := rfl
@[simp] theorem setCh_free (k : Nat) (x : PowCh) : (s.setCh k x).free = s.free := rfl
@[simp] theorem setCh_sys (k : Nat) (x : PowCh) : (s.setCh k x).sys = s.sys := rfl
@[simp] theorem setCh_jobs (k : Nat) (x : PowCh) : (s.setCh k x).jobs = s.jobs := rfl
@[simp] theorem setCh_ledger (k : Nat) (x : PowCh) : (s.setCh k x).ledger = s.ledger := rfl
@[simp] theorem setCh_img (k : Nat) (x : PowCh) : (s.setCh k x).img = s.img := rfl
@[simp] theorem setCh_graph (k : Nat) (x : PowCh) : (s.setCh k x).graph = s.graph := rfl
@[simp] theorem setCh_canopy (k : Nat) (x : PowCh) : (s.setCh k x).canopy = s.canopy := rfl
@[simp] theorem setCh_cores (k : Nat) (x : PowCh) : (s.setCh k x).cores = s.cores := rfl
@[simp] theorem setCh_ports (k : Nat) (x : PowCh) : (s.setCh k x).ports = s.ports := rfl
@[simp] theorem setCh_clk (k : Nat) (x : PowCh) : (s.setCh k x).clk = s.clk := rfl
@[simp] theorem setCh_net (k : Nat) (x : PowCh) : (s.setCh k x).net = s.net := rfl
@[simp] theorem setCh_tim (k : Nat) (x : PowCh) : (s.setCh k x).tim = s.tim := rfl
@[simp] theorem setCh_pps (k : Nat) (x : PowCh) : (s.setCh k x).pps = s.pps := rfl
@[simp] theorem setCh_dram (k : Nat) (x : PowCh) : (s.setCh k x).dram = s.dram := rfl
@[simp] theorem setCh_mem (k : Nat) (x : PowCh) : (s.setCh k x).mem = s.mem := rfl
@[simp] theorem setCh_trk (k : Nat) (x : PowCh) : (s.setCh k x).trk = s.trk := rfl
@[simp] theorem setCh_twn (k : Nat) (x : PowCh) : (s.setCh k x).twn = s.twn := rfl
@[simp] theorem setCh_hwd (k : Nat) (x : PowCh) : (s.setCh k x).hwd = { s.hwd with chs := spPut s.hwd.chs k x } := rfl
@[simp] theorem setCh_prv (k : Nat) (x : PowCh) : (s.setCh k x).prv = s.prv := rfl
@[simp] theorem setCh_prs (k : Nat) (x : PowCh) : (s.setCh k x).prs = s.prs := rfl
@[simp] theorem setCh_pwd (k : Nat) (x : PowCh) : (s.setCh k x).pwd = s.pwd := rfl
@[simp] theorem setCh_mon (k : Nat) (x : PowCh) : (s.setCh k x).mon = s.mon := rfl
@[simp] theorem setCh_rd (k : Nat) (x : PowCh) (r : Nat) : (s.setCh k x).rd r = s.rd r := rfl
theorem powCh_setCh_same (k : Nat) (x : PowCh) : (s.setCh k x).powCh k = x := spGet_spPut_same ..
theorem powCh_setCh_ne (k : Nat) (x : PowCh) {j : Nat} (h : j ≠ k) : (s.setCh k x).powCh j = s.powCh j := spGet_spPut_ne _ _ _ h

/-! ## When a command of a unit acts -/

/-- A Fuller instruction that the core fetches next acts; one that it does not leaves the state as it is. -/
theorem coreDoes_due {k : Fin 64} {i : Instr} {s : State} (g : State → State) (h : s.due k = i) : coreDoes k i g s = doneStep s (g s) := by
  unfold coreDoes
  rw [if_pos h]
theorem coreDoes_other {k : Fin 64} {i : Instr} {s : State} (g : State → State) (h : s.due k ≠ i) : coreDoes k i g s = doneStep s s := by
  unfold coreDoes
  rw [if_neg h]
/-- An effect of Heartwood's where it runs, and where its inputs are ready. -/
theorem onHw_here {s : State} (f : State → State) (h : s.hwHere = true) : s.onHw f = f s := by simp [State.onHw, h]
theorem onHw_absent {s : State} (f : State → State) (h : s.hwHere = false) : s.onHw f = s := by simp [State.onHw, h]
theorem onHwReady_ready {s : State} (f : State → State) (h : s.hwHere = true) (a : 120 ≤ s.hwd.age) : s.onHwReady f = f s := by
  simp [State.onHwReady, State.onHw, h, a]
theorem onHwReady_early {s : State} (f : State → State) (a : s.hwd.age < 120) : s.onHwReady f = s := by
  simp [State.onHwReady, State.onHw, Nat.not_le.mpr a]

end Sys2Proof.Machine
end

