-- ==== Sys2Proof/WellFormed.lean ====
section
/-! DEFINITION. Which commands are well formed: the bounds that the bus, the wire or the table sets to an operand. A meaning is total all the
same. -/

namespace Sys2Proof

/-- An address of the host's 4 GiB (R51). -/
def hostAddr (a : Nat) : Bool := decide (a < 2 ^ 32)
/-- A 64-bit counter or number (R15, R72). -/
def counter (n : Nat) : Bool := decide (n < 2 ^ 64)
/-- What a boundary is shown: phases of the six inputs, loads of the seven targets (R35, R268). -/
def obsOk (o : TickObs) : Bool := o.phi.all (fun q => decide (q.1 < 6)) && decide (o.load.length ≤ 7)

/-- A well-formed command. -/
def Instr.wf (i : Instr) : Bool :=
  match i with
  | .tickBoundary obs => obsOk obs
  | .coreOverrun _ => true
  | .tckRealign _ => true
  | .realignCounterLoad => true
  | .realignEnd => true
  | .registerWrite addr _ => hostAddr addr
  | .rcRegisterRead addr _ => hostAddr addr
  | .multiwordCaptureRead addr => hostAddr addr
  | .narrowWrite addr width _ => hostAddr addr && width != .word
  | .unmapped addr _ _ => hostAddr addr
  | .functionLevelReset => true
  | .hostLink _ => true
  | .spiWriteFrame _ => true
  | .spiReadFrame _ _ => true
  | .spiReadTimeout _ => true
  | .spiStatusFrame _ => true
  | .spiShort _ => true
  | .cfgcrcPassEnd => true
  | .commit _ => true
  | .cfgcrcRefWrite _ => true
  | .evtPendClear _ _ => true
  | .evtRaise _ => true
  | .sysReset _ => true
  | .stewardWatchdog => true
  | .resetN _ => true
  | .coldStart => true
  | .wakeSequence _ => true
  | .ready => true
  | .bootBgLoad _ => true
  | .wakeAbandon => true
  | .coldStartRetry => true
  | .imgLoad _ _ => true
  | .imgDmaTimeout _ => true
  | .imgTwinReport ssig fprint reply => reply != .verdict 0 || (ssig.length == 32 && fprint.length == 32)
  | .imgLoadPhase2 => true
  | .imgMediaRestart => true
  | .graft _ _ => true
  | .graftT1 => true
  | .graftStateComplete _ => true
  | .graftT2 => true
  | .jobReservedKind _ _ => true
  | .jobDispatch _ => true
  | .jobAbort _ _ => true
  | .jobSafePointAbort _ => true
  | .jobDone _ => true
  | .ledgerSubmit _ => true
  | .ledgerAccept => true
  | .ledgerNop seq => counter seq
  | .regWrite seq => counter seq
  | .swap seq => counter seq
  | .swapTakesEffect => true
  | .crosspointStepTimeout _ b a => decide (b < 256) && decide (a < 512)
  | .announce seq => counter seq
  | .roleSwap seq => counter seq
  | .grfSelSet _ => true
  | .grfPriSet _ => true
  | .selectorFadeEnd _ => true
  | .rngDlySet _ => true
  | .rngLenSet _ => true
  | .delayFadeEnd line => decide (line < 4096)
  | .playEnd voice => decide (voice < 1024)
  | .plyCancelStop voice => decide (voice < 1024)
  | .plyCancelQueue voice => decide (voice < 1024)
  | .plyCancelBoth voice => decide (voice < 1024)
  | .recorderSegmentEnd ch => decide (ch < 512)
  | .recorderExport _ _ => true
  | .gainShadowWrite addr _ _ _ => hostAddr addr
  | .cnpDetSet _ => true
  | .cnpSclSet _ => true
  | .detectorHoldExpiry d => decide (d < 8192)
  | .sceneStageLoad _ _ _ => true
  | .sceneStageMirror _ _ => true
  | .fullerMemoryWrite addr _ _ _ => hostAddr addr
  | .nop _ _ => true
  | .clr _ _ => true
  | .mpy _ _ => true
  | .mac _ _ => true
  | .msu _ _ => true
  | .dmpy _ _ => true
  | .dmac _ _ => true
  | .cmpy _ _ => true
  | .cmac _ _ => true
  | .cmacj _ _ => true
  | .add _ _ => true
  | .sub _ _ => true
  | .addx _ _ => true
  | .asl _ _ => true
  | .asr _ _ => true
  | .neg _ _ => true
  | .abs _ _ => true
  | .maxa _ _ => true
  | .cmp _ _ => true
  | .tst _ _ => true
  | .div _ _ => true
  | .copy _ _ => true
  | .jmp _ _ => true
  | .call _ _ => true
  | .ret _ _ => true
  | .doLoop _ _ => true
  | .dolc _ _ => true
  | .brklp _ _ => true
  | .tend _ _ => true
  | .kImmediate _ _ _ => true
  | .tTransfer _ _ _ => true
  | .reservedEncoding _ _ => true
  | .portEnable _ => true
  | .portDisable _ => true
  | .portLeadExpiry _ => true
  | .portReceiveFrame _ _ frac _ dr => decide (frac < 512) && decide (dr.length ≤ 1025)
  | .portTransmitFrame _ _ edge => decide (edge.frac < 512)
  | .portClockLoss _ => true
  | .portClockQualify _ _ => true
  | .rateWindowEnd _ _ => true
  | .slotMaskWrite _ _ _ => true
  | .asrcLock _ _ => true
  | .aes3ReceiveFrame _ _ frac _ _ _ _ => decide (frac < 512)
  | .aesCs _ csA csB => csA.length == 24 && csB.length == 24
  | .aes3TxBlockStart _ => true
  | .refPresent _ => true
  | .refLost _ => true
  | .freqWindowEnd freqs => freqs.all (fun q => decide (q.1 < 6))
  | .guardExpiry _ => true
  | .wtrExpiry => true
  | .switchDone => true
  | .absorbed => true
  | .holdover => true
  | .tickMarker _ => true
  | .netEnable _ _ => true
  | .netLink _ _ _ => true
  | .netFrameReceive _ _ => true
  | .streamLoad _ => true
  | .streamEnable _ => true
  | .streamDisable _ => true
  | .streamClear _ => true
  | .streamLost idx => decide (idx < 512)
  | .streamMarginWindowEnd => true
  | .mediaTxStart _ => true
  | .hostFrameSend _ => true
  | .strHqTxProd _ => true
  | .membershipReport _ => true
  | .igmpv2QuerierTimeout _ => true
  | .pauseExpiry _ => true
  | .ptpEnable _ => true
  | .ptpSync _ _ _ _ => true
  | .followUp _ _ _ => true
  | .announceMessage _ _ _ => true
  | .delayResp _ _ _ _ => true
  | .delayReqSend _ _ _ => true
  | .ptpMasterSend _ _ => true
  | .delayReq _ _ _ => true
  | .announceReceiptTimeout _ => true
  | .syncLossTimeout _ => true
  | .timStepAck _ => true
  | .timSet _ => true
  | .ppsArm _ _ => true
  | .ppsDisarm _ _ => true
  | .ppsEdge _ => true
  | .ppsPulseEnd _ => true
  | .refreshDue _ _ => true
  | .owedRefreshIssue _ _ _ => true
  | .dramTempRead _ _ => true
  | .zqCalibration _ => true
  | .retrain _ _ _ _ _ => true
  | .dramRead addr n _ _ _ => decide (addr + n ≤ 2 ^ 37)
  | .dramWrite addr bytes _ _ => decide (addr + bytes.length ≤ 2 ^ 37)
  | .writeQueueIssue _ _ => true
  | .patrolScrubRead _ _ => true
  | .dramParity _ _ _ => true
  | .hammerWindowStart => true
  | .rowHammer _ _ _ _ row => decide (row < 2 ^ 17)
  | .migrationComplete _ => true
  | .migrate _ => true
  | .apertureAccess addr _ _ _ _ => hostAddr addr
  | .marchPreserving _ _ => true
  | .marchDestructive _ _ => true
  | .retentionHoldEnd => true
  | .loanBankSwitch => true
  | .memRepSet _ => true
  | .repairRowSwitch _ _ => true
  | .lockedSequenceRequest _ _ addr => hostAddr addr
  | .lockReleaseTimeout => true
  | .trkTimeout _ _ _ => true
  | .trkIsolate _ _ _ _ _ => true
  | .qosAgeing _ => true
  | .twinPair _ => true
  | .twinUnpair _ => true
  | .pairForm => true
  | .twinLinkUp _ _ _ => true
  | .twinLinkLoss => true
  | .twinHeartbeat tick _ => counter tick
  | .digestMessage tick _ _ => counter tick
  | .bundleCutoff => true
  | .bundleTrailer frame _ acc _ => counter frame && counter acc
  | .bundleItem frame _ => counter frame
  | .ledgerRecordForward _ => true
  | .forwardedPacket _ _ => true
  | .takeover _ => true
  | .roleRxChange _ => true
  | .resync _ => true
  | .autoResyncStart => true
  | .resyncDelta _ => true
  | .resyncStandbyReached => true
  | .ledgerDump _ _ => true
  | .heartwoodPowerUp => true
  | .hwClockLoss => true
  | .hwClockReturn => true
  | .bridgeFrame mics _ => mics.all (fun q => decide (q.1 < 4))
  | .hwBridge => true
  | .engineHeartbeat tick => counter tick
  | .heartwoodTick _ => true
  | .hwFallback => true
  | .hwReturn => true
  | .fallbackForceSet _ => true
  | .fallbackForceClear _ => true
  | .reserveMessageEnd => true
  | .jackInsert _ => true
  | .micTypeDetect _ _ _ => true
  | .jackRemove _ => true
  | .hwMicFault _ _ => true
  | .hwKey _ _ => true
  | .hwContact _ _ => true
  | .pilotWindowEnd _ _ _ _ _ => true
  | .hwShort _ _ _ => true
  | .shortProbe _ => true
  | .shortProbeEnd _ _ _ _ => true
  | .channelReenable _ _ => true
  | .vbatFault _ => true
  | .vbatReturn _ => true
  | .hwThermal _ => true
  | .reserveStoreRead => true
  | .reserveStoreWrite _ => true
  | .reserveCheck => true
  | .hwdRsSave _ => true
  | .impedanceSweep _ => true
  | .sweepPointEnd _ _ => true
  | .prove _ => true
  | .proveGroupStart => true
  | .proveGroupEnd _ => true
  | .proveWritesDone => true
  | .presenceAssert => true
  | .presenceRelease => true
  | .presenceWindowExpiry => true
  | .sealSample _ => true
  | .reseal _ => true
  | .domainFault _ => true
  | .supplyFail => true
  | .supplyReturn => true
  | .vcoreUndervoltage => true
  | .tempWarnCross _ => true
  | .engineThermalFault => true
  | .pwdLatchClr _ => true
  | .pwdNap _ => true
  | .napEntry => true
  | .napWake source cin => decide (source < 5) && decide (cin < 8)
  | .monitorCharacter _ _ => true
  | .monitorBreak => true
  | .unknownCommand _ => true
  | .monPeek _ _ => true
  | .monDump _ _ => true
  | .monDram _ _ => true
  | .monEv => true
  | .monJob _ => true
  | .monLedger _ _ => true
  | .monStat => true
  | .traceTick _ => true
  | .traceEv _ => true
  | .traceLedger _ => true
  | .monStop => true
  | .baud _ => true
  | .poke _ _ => true
  | .rmw _ _ _ => true
  | .testOn => true
  | .testOff => true
  | .monBaudWrite _ => true
  | .spiBadOpFrame _ => true
  | .monTxCharacterSent => true
  | .vaonLoss => true

end Sys2Proof
end

