-- ==== Sys2Proof/Tests/Slice0.lean ====
section
/-! SUPPORT. The model's own tests: ill-formed commands are refused by `Instr.wf`; a few worked examples of the spec; and for every statement with
hypotheses a theorem that shows, clause by clause, a state and operands that meet them. -/

set_option maxRecDepth 10000
set_option synthInstance.maxHeartbeats 200000
set_option synthInstance.maxSize 4000
set_option Elab.async false
set_option linter.unusedVariables false

namespace Sys2Proof.Tests
open Sys2Proof.Machine

/-- A module that runs: PCIe with its link up, class 1 and class 2 granted, the media clock running in tick 1,000; each memory holds a byte, a few registers
and parts differ from their reset values. -/
def up : State :=
  { State.reset with
    free := 17
    out := [.msix 0]
    regs := [(0x1004, 1), (0x1020, 0xFFFFFFF0), (0x72020, 5)]
    sys := { resetSys with phase := .running, answering := true, ready := true, hostLink := true, mediaRun := true, tick := 1000, straps := 2, spiTag := 9 }
    jobs := [(3, { idleSlot with kind := 4, st := .done, order := 2 })]
    ledger := { resetLedger with session := 7, acc := 4, exe := 4 }
    cores := [(1, { coreInit with acc := [(0, 5)], x := [(16, 3)], loops := [{ outerLc := 1, start := 2, finish := 3 }], calls := [9] })]
    mem := { resetMem with pool := [(16, 5)] }
    dram := { resetDram with mem := [(0x2000000, 7)] }
    hwd := { resetHwd [(100, 9)] with powered := true }
    prs := { resetPrs with present := true, window := true, sealLatch := false, sealIntact := true } }
/-- An image with nothing in it. -/
def img0 : Image := { generation := 3, length := 4096, rate96 := false, ssig := [], fprint := [], structure' := default, progs := [], datas := [], reginit := [], budget := [], regions := [], compat := [] }

/-! ## Ill-formed commands -/

/-- An address past the host's 4 GiB, a word where a narrow write is asked, and a counter past 64 bits. -/
theorem wf_access :
    (Instr.registerWrite 0x100000000 0).wf = false ∧ (Instr.rcRegisterRead 0x100000000 (cleanRead .word)).wf = false ∧ (Instr.multiwordCaptureRead 0x100000000).wf = false ∧
    (Instr.narrowWrite 0 .word 0).wf = false ∧ (Instr.unmapped 0x100000000 true 0).wf = false ∧ (Instr.lockedSequenceRequest 1 0 0x100000000).wf = false ∧
    (Instr.gainShadowWrite 0x100000000 .word 0 cleanWrite).wf = false ∧ (Instr.fullerMemoryWrite 0x100000000 .word 0 cleanWrite).wf = false ∧
    (Instr.apertureAccess 0x100000000 false .word 0 .clean).wf = false ∧ (Instr.ledgerNop (2 ^ 64)).wf = false ∧ (Instr.engineHeartbeat (2 ^ 64)).wf = false ∧
    (Instr.bundleItem (2 ^ 64) (.contacts [])).wf = false := by decide
/-- A boundary shown a seventh input, or eight targets. -/
theorem wf_boundary :
    (Instr.tickBoundary { (default : TickObs) with phi := [(6, 0)] }).wf = false ∧
    (Instr.tickBoundary { (default : TickObs) with load := [0, 0, 0, 0, 0, 0, 0, 0] }).wf = false ∧
    (Instr.tickBoundary default).wf = true := by decide
/-- Numbers of lines, voices, channels, detectors, streams, crosspoints, rows and contacts out of their ranges. -/
theorem wf_numbers :
    (Instr.delayFadeEnd 4096).wf = false ∧ (Instr.playEnd 1024).wf = false ∧ (Instr.plyCancelStop 1024).wf = false ∧ (Instr.plyCancelQueue 1024).wf = false ∧
    (Instr.plyCancelBoth 1024).wf = false ∧ (Instr.recorderSegmentEnd 512).wf = false ∧ (Instr.detectorHoldExpiry 8192).wf = false ∧ (Instr.streamLost 512).wf = false ∧
    (Instr.crosspointStepTimeout 0 256 0).wf = false ∧ (Instr.crosspointStepTimeout 0 0 512).wf = false ∧ (Instr.rowHammer 0 0 0 0 (2 ^ 17)).wf = false ∧
    (Instr.napWake 5 0).wf = false ∧ (Instr.napWake 4 8).wf = false ∧ (Instr.freqWindowEnd [(6, 0)]).wf = false ∧ (Instr.bridgeFrame [(4, [])] true).wf = false := by decide
/-- Bytes past the end of DRAM, frames with more than 32 words or a fraction past 511, channel status and digests of a wrong length. -/
theorem wf_lengths :
    (Instr.dramRead (2 ^ 37) 1 0 0 []).wf = false ∧ (Instr.dramWrite (2 ^ 37) [some 0] 0 0).wf = false ∧
    (Instr.portReceiveFrame 0 0 512 16 []).wf = false ∧ (Instr.portReceiveFrame 0 0 0 16 (List.replicate 1026 0)).wf = false ∧
    (Instr.portTransmitFrame 0 0 { frac := 512, len := none }).wf = false ∧ (Instr.aesCs 0 [] []).wf = false ∧ (Instr.imgTwinReport [] [] (.verdict 0)).wf = false := by decide +kernel

/-! ## Worked examples of the spec -/

/-- R213's example: the first and the second step of 1,677,722 / 5,872,026. -/
theorem test_div_step_1 : divStep (1677722 * 2 ^ 24) 5872026 = (-2516582, 0, false) := by decide
theorem test_div_step_2 : divStep (-2516582 * 2 ^ 24) 5872026 = (838862, 1, false) := by decide
/-- R211's example: 1,500,000.5 rounds to the even neighbour, 1,500,000, and 1,500,001.5 to 1,500,002. -/
theorem test_round_half_even : extract (3000001 * 2 ^ 21) 22 32 = 1500000 ∧ extract (3000003 * 2 ^ 21) 22 32 = 1500002 := by decide
/-- R210's example: 2^63 takes the nearer bound. -/
theorem test_acc_bound : accSat (2 ^ 63) = 2 ^ 63 - 1 ∧ accOver (2 ^ 63) = true := by decide
/-- R377's example: 0x0011_012C names row 300 of bank 17, which takes spare 0. -/
theorem test_repair_set :
    (match exec (.memRepSet 0x0011012C) up with | .next t => spGet none t.mem.rep (17 * 8) | _ => none) =
      some { row := 300, host := true, active := false } := by decide +kernel

/-! ## Words of a Fuller program, written out from R218 to R222 -/

/-- R228's FIR step, DMAC with its two moves; at bits 63:60 = 8 and KIND 3 a DO of 5 rounds up to 18 on condition 2; a K of selector 0x31; a T from 0x11 to 0x08; format 0b1011. -/
theorem test_ful_words :
    fulInstr 7 0x0C00006840074800 = .dmac 7 { da := 0, sa := 0, xs := false, ys := false, k := 0, x := { store := false, code := 13, ptr := 0, mode := 1 }, y := { store := false, code := 14, ptr := 4, mode := 2 } } ∧
    fulInstr 7 0x8230005000120000 = .doLoop 7 { cond := 2, count := 5, finish := 18, target := 0 } ∧
    fulInstr 7 0x9C400000FFFF0001 = .kImmediate 7 0x31 0xFFFF0001 ∧
    fulInstr 7 0xA211000000000000 = .tTransfer 7 0x08 0x11 ∧
    fulInstr 7 0xB000000000000000 = .reservedEncoding 7 0xB000000000000000 := by decide +kernel
/-- OPC 0x14 with DA 2, SA 1, XS, YS and K 19 set is DIV; OPC 0x16 is reserved; KIND 6 is TEND and KIND 7 reserved. -/
theorem test_ful_fields :
    fulInstr 0 0x293CC00000000000 = .div 0 { da := 2, sa := 1, xs := true, ys := true, k := 19, x := { store := false, code := 0, ptr := 0, mode := 0 }, y := { store := false, code := 0, ptr := 0, mode := 0 } } ∧
    fulInstr 0 0x2C00000000000000 = .reservedEncoding 0 0x2C00000000000000 ∧
    fulInstr 0 0x8060000000000000 = .tend 0 { cond := 0, count := 0, finish := 0, target := 0 } ∧
    fulInstr 0 0x8070000000000000 = .reservedEncoding 0 0x8070000000000000 := by decide +kernel

/-! ## The hypotheses of the statements are met -/

/-! ### Presence and power (R492 to R512) -/

/-- The module in Nap. -/
def nap : State := { up with sys := { up.sys with phase := .nap, mediaRun := false, answering := false, ready := false } }

/-- The hypotheses of PresenceWindow are met, clause by clause. -/
theorem witness_PresenceWindow :
    (let s : State := { up with prs := { up.prs with present := false, window := false } }; s.seedOn = true ∧ s.prs.present = false ∧ s.prs.window = false) ∧
    (let s : State := { up with prs := { up.prs with present := false, elapsed := 7 } }; s.seedOn = true ∧ s.prs.present = false ∧ s.prs.window = true) ∧
    (let s : State := up; s.seedOn = true ∧ s.prs.present = true) ∧
    (let s : State := up; s.seedOn = true ∧ s.prs.present = true) ∧
    (let s : State := { up with prs := { up.prs with present := false } }; s.seedOn = true ∧ s.prs.present = false) ∧
    (let s : State := { up with prs := { up.prs with present := false, elapsed := 359999 } }; s.seedOn = true ∧ s.sys.phase ≠ .nap ∧ s.prs.window = true ∧ s.prs.present = false ∧ s.windowTicks ≤ s.prs.elapsed + 1) ∧
    (let s : State := { nap with prs := { up.prs with present := false } }; s.seedOn = true ∧ s.sys.phase = .nap ∧ s.prs.window = true ∧ s.prs.present = false) ∧
    (let s : State := up; s.seedOn = true ∧ (s.prs.window = false ∨ s.prs.present = true)) := by
  decide +kernel

/-- The hypotheses of SealLatch are met, clause by clause. -/
theorem witness_SealLatch :
    (let s : State := { up with pwd := { up.pwd with held := [1, 2] } }; s.seedOn = true) ∧
    (let s : State := up; s.seedOn = true ∧ s.prs.sealFails ≠ 1) ∧
    (let s : State := { up with prs := { up.prs with sealFails := 1 } }; s.seedOn = true ∧ s.prs.sealFails = 1) ∧
    (let s : State := { up with prs := { up.prs with sealLatch := true } }; let v : W32 := 0x5EA1; s.hostUp = true ∧ v = 0x5EA1 ∧ s.prs.present = true ∧ s.prs.sealIntact = true ∧ s.prs.sealLatch = true) ∧
    (let s : State := up; let v : W32 := 1; s.hostUp = true ∧ s.resealOk 0 v = false) := by
  decide +kernel

/-- The hypotheses of PowerSupervision are met, clause by clause. -/
theorem witness_PowerSupervision :
    (let s : State := up; let d : Fin 12 := 7; s.domOn (d.val + 1) = false) ∧
    (let s : State := { up with dram := { up.dram with ch0 := { up.dram.ch0 with enabled := true } } }; let d : Fin 12 := 8; s.domOn (d.val + 1) = true) ∧
    (let s : State := up; (s.sys.phase = .running ∨ s.sys.phase = .starting ∨ s.sys.phase = .held)) ∧
    (let s : State := up; (s.sys.phase = .running ∨ s.sys.phase = .starting ∨ s.sys.phase = .held)) ∧
    (let s : State := up; let temp : Int := 111; (s.sys.phase = .running ∨ s.sys.phase = .starting ∨ s.sys.phase = .held) ∧ s.pwd.tempAbove = false ∧ s.tempWarn < temp) ∧
    (let s : State := { up with pwd := { up.pwd with tempAbove := true } }; let temp : Int := 104; (s.sys.phase = .running ∨ s.sys.phase = .starting ∨ s.sys.phase = .held) ∧ s.pwd.tempAbove = true ∧ temp < s.tempWarn - 5) ∧
    (let s : State := nap; (s.sys.phase = .off ∨ s.sys.phase = .nap ∨ s.sys.phase = .failed)) ∧
    (let s : State := up; s.hostUp = true ∧ s.class1 = true) := by
  decide +kernel

/-- The hypotheses of NapAndWake are met, clause by clause. -/
theorem witness_NapAndWake :
    (let s : State := up; s.hostUp = true ∧ s.class1 = true ∧ s.pwd.stage = .none ∧ (s.hwHere && s.forced) = false ∧ s.napContact = false) ∧
    (let s : State := { up with regs := [(HWD_FB_CTL, 1)], hwd := { up.hwd with powered := true } }; s.hostUp = true ∧ s.class1 = true ∧ ((s.hwHere && s.forced) || s.napContact) = true) ∧
    (let s : State := { up with pwd := { up.pwd with stage := .stopped } }; (s.pwd.stage = .stopped ∨ (s.pwd.stage = .requested ∧ s.sys.mediaRun = false))) ∧
    (let s : State := nap; let source : Nat := 4; let cin : Nat := 7; s.sys.phase = .nap ∧ s.wakeEnabled source cin = true ∧ source ∉ s.pwd.held ∧ (source ≠ 3 ∨ (s.rd PWD_RTC).toNat ≤ (s.rd PWD_RTC_ALARM).toNat)) ∧
    (let s : State := { nap with pwd := { nap.pwd with held := [1] } }; let source : Nat := 1; let cin : Nat := 0; s.sys.phase = .nap ∧ (s.wakeEnabled source cin = false ∨ source ∈ s.pwd.held)) ∧
    (let s : State := { up with pwd := { up.pwd with stage := .stopped } }; let source : Nat := 1; let cin : Nat := 0; s.sys.phase = .running ∧ s.pwd.stage ≠ .none ∧ s.wakeEnabled source cin = true ∧ s.pwd.wakeDue = none) := by
  decide +kernel

/-! ### Register accesses (R12, R53 to R60) -/

/-- A register's description, for the witnesses. -/
def spec (off : Nat) (reset rw cfg lk : W32) (rc : Bool) (cls : Nat) : RegSpec :=
  { off := off, reset := reset, rw := rw, w1c := 0, w1s := 0, cfg := cfg, lk := lk, rc := rc, cls := cls }

/-- The hypotheses of RegisterWrite are met, clause by clause. -/
theorem witness_RegisterWrite :
    (let s : State := up; let addr : Nat := 0x1024; let off : Nat := 0x24; let i : Nat := 5; let b : Block := .evt; let r : RegSpec := spec 0x24 0xFFFFFFFF 0xFFFFFFFF 0 0 false 0; let v : W32 := 0x12345678; s.hostUp = true ∧ plainPlace s addr b off r v ∧ ((r.cfg = 0 ∨ s.enabled b = false)) ∧ ((r.lk = 0 ∨ s.locked b = false)) ∧ i < 32) ∧
    (let s : State := up; let u : State := up.commitWrite 0x9; let addr : Nat := 0x1C; let off : Nat := 0x1C; let b : Block := .sys; let r : RegSpec := (specAt 0x1C).getD (spec 0 0 0 0 0 false 0); let v : W32 := 9; s.hostUp = true ∧ addr < 0x240000 ∧ s.msixAt addr = false ∧ locate (addr / 4 * 4) = some (b, off) ∧ specAt (blkBase b + off) = some r ∧ ((r.lk = 0 ∨ s.locked b = false)) ∧ ((b ≠ .hwd ∨ s.fit.variantA = true)) ∧ s.hwSilent b = false ∧ ((s.granted (classAt (blkBase b + off)) = true ∨ blkBase b + off = PRS_RESEAL)) ∧ dumb b off v = false ∧ s.badArg b off v = none ∧ s.sideWrite 0 b off v = some u) ∧
    (let s : State := up; let addr : Nat := 0x1000012; s.hostUp = true ∧ 0x1000000 ≤ addr ∧ addr < 0x2000000 ∧ s.underTest 0 = false) := by
  decide +kernel

/-- The hypotheses of ProtectedWrite are met, clause by clause. -/
theorem witness_ProtectedWrite :
    (let s : State := { up with regs := [(0x20004, 1)] }; let addr : Nat := 0x20010; let off : Nat := 0x10; let b : Block := .asp 0; let r : RegSpec := spec 0x10 0x18008 0 0x1FFFF 0 false 0; let v : W32 := 0x555; s.hostUp = true ∧ plainPlace s addr b off r v ∧ off ≠ 8 ∧ evtReg (blkBase b + off) = false ∧ r.cfg ≠ 0 ∧ s.enabled b = true) ∧
    (let s : State := { up with regs := [(0xC, 1)] }; let addr : Nat := 0x28; let off : Nat := 0x28; let b : Block := .sys; let r : RegSpec := spec 0x28 1 0 0 3 false 0; let v : W32 := 2; s.hostUp = true ∧ plainPlace s addr b off r v ∧ off ≠ 8 ∧ evtReg (blkBase b + off) = false ∧ r.lk ≠ 0 ∧ s.locked b = true) ∧
    (let s : State := { up with prs := { up.prs with window := false } }; let addr : Nat := 0x18; let off : Nat := 0x18; let b : Block := .sys; s.hostUp = true ∧ addr < 0x240000 ∧ s.msixAt addr = false ∧ locate (addr / 4 * 4) = some (b, off) ∧ ((b ≠ .hwd ∨ s.fit.variantA = true)) ∧ blkBase b + off ≠ PRS_RESEAL ∧ s.granted (classAt (blkBase b + off)) = false) := by
  decide +kernel

/-- The hypotheses of RegisterRead are met, clause by clause. -/
theorem witness_RegisterRead :
    (let s : State := { up with regs := [(0x6038, 0x3F000123)] }; let addr : Nat := 0x6039; let off : Nat := 0x38; let b : Block := .tck; let r : RegSpec := spec 0x38 0x3F061A80 0 0 0 true 0; s.hostUp = true ∧ addr < 0x240000 ∧ s.msixAt addr = false ∧ locate addr = some (b, off) ∧ s.hwSilent b = false ∧ ((b ≠ .hwd ∨ off ≠ 0x30)) ∧ readsPhase (blkBase b + off) = false ∧ specAt (blkBase b + off) = some r ∧ r.rc = true ∧ capturedWord b off = false ∧ capturesOf b off = [] ∧ blkBase b + off ≠ TRK_WAIT_MAX ∧ blkBase b + off ≠ PWD_OCC) ∧
    (let s : State := { up with tim := { up.tim with now := 123456789012 } }; let addr : Nat := 0x60014; let off : Nat := 0x14; let b : Block := .tim; let r : RegSpec := spec 0x14 0 0 0 0 false 0; s.hostUp = true ∧ addr < 0x240000 ∧ s.msixAt addr = false ∧ locate addr = some (b, off) ∧ s.hwSilent b = false ∧ ((b ≠ .hwd ∨ off ≠ 0x30)) ∧ readsPhase (blkBase b + off) = false ∧ specAt (blkBase b + off) = some r ∧ r.rc = false ∧ capturedWord b off = false ∧ (capturesOf b off).Nodup) ∧
    (let s : State := { up with sys := { up.sys with capHost := [(0x60010, 77)] } }; let addr : Nat := 0x60010; let off : Nat := 0x10; let b : Block := .tim; let r : RegSpec := spec 0x10 0 0 0 0 false 0; s.hostUp = true ∧ addr < 0x240000 ∧ s.msixAt addr = false ∧ locate addr = some (b, off) ∧ s.hwSilent b = false ∧ ((b ≠ .hwd ∨ off ≠ 0x30)) ∧ readsPhase (blkBase b + off) = false ∧ specAt (blkBase b + off) = some r ∧ r.rc = false ∧ capturedWord b off = true ∧ capturesOf b off = []) := by
  decide +kernel

/-- The hypotheses of NarrowAndUnmapped are met, clause by clause. -/
theorem witness_NarrowAndUnmapped :
    (let s : State := up; let addr : Nat := 0x1024; let w : Width := .half; s.hostUp = true ∧ addr < 0x240000 ∧ s.msixAt addr = false ∧ locate addr ≠ none ∧ w ≠ .word) ∧
    (let s : State := up; let addr : Nat := 0x1000011; s.hostUp = true ∧ 0x1000000 ≤ addr ∧ addr < 0x2000000 ∧ s.underTest 0 = false) ∧
    (let s : State := up; let addr : Nat := 0x9011; let w : Width := .byte; s.hostUp = true ∧ addr < 0x240000 ∧ s.msixAt addr = false ∧ locate addr = none ∧ w ≠ .word) ∧
    (let s : State := up; let addr : Nat := 0x240000; s.hostUp = true ∧ addr % 4 = 0 ∧ nowhere s true addr) ∧
    (let s : State := up; let addr : Nat := 0xFFFFFC; s.hostUp = true ∧ nowhere s false addr) := by
  decide +kernel

/-! ### Host interface and events (R44 to R66) -/

/-- The same module with the quad SPI target as its host interface. -/
def upSpi : State := { up with sys := { up.sys with straps := 3, hostLink := false } }
/-- A frame with its CRC. -/
def crcd (bs : List Byte) : List Byte := bs ++ leBytes 4 (crc32c bs).toNat

/-- The hypotheses of PcieEndpoint are met, clause by clause. -/
theorem witness_PcieEndpoint :
    (let s : State := up; s.pcie = true ∧ s.trk.waiting = [] ∧ s.sys.hostLink = true) ∧
    (let s : State := { up with sys := { up.sys with hostLink := false } }; s.pcie = true ∧ s.trk.waiting = [] ∧ s.sys.hostLink = false ∧ s.sys.answering = true) ∧
    (let s : State := up; s.pcie = true ∧ s.trk.waiting = [] ∧ s.sys.hostLink = true) := by
  decide +kernel

/-- The hypotheses of SpiTarget are met, clause by clause. -/
theorem witness_SpiTarget :
    (let s : State := upSpi; let bytes : List Byte := crcd [0xA2, 7, 1, 0, 0, 16, 0, 1, 2, 3, 4]; s.spiUp = true ∧ nth 0 bytes 0 = 0xA2 ∧ 11 + 4 * spiWords bytes ≤ bytes.length ∧ spiCrcOk bytes (7 + 4 * spiWords bytes) = true ∧ spiAddr bytes % 4 = 0 ∧ (s.spiStore (spiAddr bytes) (wordsOf (spiWords bytes) (bytes.drop 7))).spiUp = true) ∧
    (let s : State := upSpi; let bytes : List Byte := [0xA2, 7, 1, 0, 0, 16, 0, 1, 2, 3, 4, 0, 0, 0, 0]; s.spiUp = true ∧ nth 0 bytes 0 = 0xA2 ∧ 11 + 4 * spiWords bytes ≤ bytes.length ∧ spiCrcOk bytes (7 + 4 * spiWords bytes) = false) ∧
    (let s : State := upSpi; let bytes : List Byte := crcd [0xA3, 7, 1, 0, 0, 20, 1]; let waits : Nat := 3; let ws : List W32 := [0, 0]; s.spiUp = true ∧ nth 0 bytes 0 = 0xA3 ∧ 11 ≤ bytes.length ∧ spiReadCode bytes = 0 ∧ waits ≤ 1024 ∧ (s.spiLoad (spiAddr bytes) (spiWords bytes) []).2 = some ws) ∧
    (let s : State := upSpi; let bytes : List Byte := crcd [0xA3, 7, 1, 0, 0, 16, 0]; s.spiUp = true ∧ nth 0 bytes 0 = 0xA3 ∧ 11 ≤ bytes.length ∧ spiReadCode bytes = 0) ∧
    (let s : State := upSpi; let bytes : List Byte := [0xA2, 7]; s.spiUp = true ∧ nth 0 bytes 0 ≠ 0xA3) ∧
    (let s : State := upSpi; let bytes : List Byte := [0xA7, 7]; s.spiUp = true ∧ nth 0 bytes 0 ≠ 0xA2 ∧ nth 0 bytes 0 ≠ 0xA3 ∧ nth 0 bytes 0 ≠ 0xA5) ∧
    (let s : State := upSpi; s.spiUp = true) := by
  decide +kernel

/-- The hypotheses of ConfigCrcAndEvents are met, clause by clause. -/
theorem witness_ConfigCrcAndEvents :
    (let s : State := up; s.hostUp = true) ∧
    (let s : State := up; s.hostUp = true) ∧
    (let s : State := { up with sys := { up.sys with tick := 1007, cfgPass := true, cfgCommit := 2 } }; s.hostUp = true ∧ s.sys.mediaRun = true ∧ s.sys.cfgPass = true ∧ (s.tickN + 1) % 16 = 0 ∧ s.sys.cfgDirty = false ∧ 2 ≤ s.sys.cfgCommit) ∧
    (let s : State := { up with regs := [(0x20, 5)], sys := { up.sys with tick := 1007, cfgPass := true, cfgDiffs := 1 } }; s.hostUp = true ∧ s.sys.mediaRun = true ∧ s.sys.cfgPass = true ∧ (s.tickN + 1) % 16 = 0 ∧ s.sys.cfgDirty = false ∧ s.sys.cfgCommit < 2 ∧ s.sys.cfgDiffs = 1 ∧ s.sys.cfgActed = false ∧ s.bit SYS_CFGCRC_CTL 3 = false ∧ s.rdF SYS_CFGCRC_ACT 1 0 = 1 ∧ s.cfgCrc ≠ s.rd SYS_CFGCRC_REF) ∧
    (let s : State := { up with regs := [(0x20, up.cfgCrc)], sys := { up.sys with tick := 1007, cfgPass := true, cfgDiffs := 1 } }; s.hostUp = true ∧ s.sys.mediaRun = true ∧ s.sys.cfgPass = true ∧ (s.tickN + 1) % 16 = 0 ∧ s.sys.cfgDirty = false ∧ s.sys.cfgCommit < 2 ∧ s.cfgCrc = s.rd SYS_CFGCRC_REF) ∧
    (let s : State := up; s.hostUp = true) ∧
    (let s : State := up; let e : Fin 128 := 17; s.hostUp = true ∧ s.class2 = true ∧ s.eventHere e.val = true) ∧
    (let s : State := { up with sys := { up.sys with straps := 0 } }; s.hostUp = true ∧ s.class2 = false) := by
  decide +kernel

/-! ### DRAM (R334 to R362) -/

/-- The module with two ranks found on each DRAM channel. -/
def upD : State := up.dramDetect [.works, .works] [.works, .works]
/-- The same with four ranks. -/
def upS : State := up.dramDetect [.works, .works, .works, .works] [.works, .works, .works, .works]
/-- A full queue entry of line 0x1000000. -/
def full : WqEntry := { line := 0x1000000, bytes := (upFrom 0 64).map (fun k => some (BitVec.ofNat 8 k)), qos15 := true }
/-- The module with that entry queued on channel 0. -/
def upQ : State := upD.modChan 0 (fun x => { x with wq := [full] })
/-- A queued MIGRATE of rank 1 of channel 0. -/
def upM : State := upS.setSlot 2 { idleSlot with kind := 5, st := .queued, args := [2, 0, 0, 0], order := 5 }
/-- A migration. -/
def mig1 : Migration := { source := 1, target := 3, cause := 0, copied := 5, wasSuspect := false, slot := none, poisoned := 0, startTick := 0, done := false, complete := false }

/-- The hypotheses of DramRefresh are met, clause by clause. -/
theorem witness_DramRefresh :
    (let s : State := upD; let ch : Fin 2 := 0; let rank : Fin 4 := 1; let hot : List Bool := []; ((s.chan ch.val).rank rank.val).st.live = true ∧ (((s.chan ch.val).rank rank.val).hot || s.bit (DRC_POLICY ch.val) 2) = ((s.chan ch.val).rank rank.val).fast ∧ s.rtQueued ch.val rank.val = false ∧ (s.chan ch.val).neighbours = []) ∧
    (let s : State := upQ; let ch : Fin 2 := 0; let rank : Fin 4 := 0; let hot : List Bool := []; ((s.chan ch.val).rank rank.val).st.live = true ∧ (((s.chan ch.val).rank rank.val).hot || s.bit (DRC_POLICY ch.val) 2) = ((s.chan ch.val).rank rank.val).fast ∧ s.rtQueued ch.val rank.val = true ∧ ((s.chan ch.val).rank rank.val).owed < 7) ∧
    (let s : State := upQ.modChan 0 (fun x => x.modRank 0 (fun r => { r with owed := 7 })); let ch : Fin 2 := 0; let rank : Fin 4 := 0; let hot : List Bool := []; ((s.chan ch.val).rank rank.val).st.live = true ∧ (((s.chan ch.val).rank rank.val).hot || s.bit (DRC_POLICY ch.val) 2) = ((s.chan ch.val).rank rank.val).fast ∧ s.rtQueued ch.val rank.val = true ∧ 7 ≤ ((s.chan ch.val).rank rank.val).owed) ∧
    (let s : State := upQ.modChan 0 (fun x => x.modRank 0 (fun r => { r with owed := 5, hot := true })); let ch : Fin 2 := 0; let rank : Fin 4 := 0; let hot : List Bool := []; ((s.chan ch.val).rank rank.val).st.live = true ∧ (((s.chan ch.val).rank rank.val).hot || s.bit (DRC_POLICY ch.val) 2) ≠ ((s.chan ch.val).rank rank.val).fast) ∧
    (let s : State := upD.modChan 0 (fun x => x.modRank 0 (fun r => { r with owed := 5, hot := true })); let ch : Fin 2 := 0; let rank : Fin 4 := 0; s.rtQueued ch.val rank.val = false) ∧
    (let s : State := upD.modChan 1 (fun x => { x with tempTicks := 95 }); let ch : Fin 2 := 1; 95 ≤ (s.chan ch.val).tempTicks) ∧
    (let s : State := upD; let ch : Fin 2 := 1; (s.chan ch.val).tempTicks < 95) := by
  decide +kernel

/-- The hypotheses of DramTraining are met, clause by clause. -/
theorem witness_DramTraining :
    (let s : State := upD.modChan 1 (fun x => { x with zqTicks := 383 }); let ch : Fin 2 := 1; (s.chan ch.val).zqTicks = 383) ∧
    (let s : State := upD; let ch : Fin 2 := 1; (s.chan ch.val).zqTicks ≠ 383) ∧
    (let s : State := upD.modChan 1 (fun x => { x with trainTicks := 30000, trainEff := 10 }); let ch : Fin 2 := 1; let k : Fin 4 := 0; nextRank (s.chan ch.val) 4 (s.chan ch.val).trainNext = some k.val ∧ s.dram.frozen = false ∧ 3000 * (s.chan ch.val).trainEff ≤ (s.chan ch.val).trainTicks + 1 ∧ ((s.chan ch.val).rank k.val).owed = 0) ∧
    (let s : State := upD.modChan 1 (fun x => { x with trainTicks := 29999, trainEff := 10 }); let ch : Fin 2 := 1; let k : Fin 4 := 0; nextRank (s.chan ch.val) 4 (s.chan ch.val).trainNext = some k.val ∧ s.dram.frozen = false ∧ 3000 * (s.chan ch.val).trainEff ≤ (s.chan ch.val).trainTicks + 1 ∧ ((s.chan ch.val).rank k.val).owed = 0 ∧ s.dram.ranksW ≠ 4 ∧ ((s.chan ch.val).rank k.val).st = .inService) ∧
    (let s : State := upD.modChan 1 (fun x => { x with trainTicks := 29998, trainEff := 10 }); let ch : Fin 2 := 1; let k : Fin 4 := 0; nextRank (s.chan ch.val) 4 (s.chan ch.val).trainNext = some k.val ∧ (s.dram.frozen = true ∨ (s.chan ch.val).trainTicks + 1 < 3000 * (s.chan ch.val).trainEff ∨ 0 < ((s.chan ch.val).rank k.val).owed)) := by
  decide +kernel

/-- The hypotheses of DramReadsAndWrites are met, clause by clause. -/
theorem witness_DramReadsAndWrites :
    (let s : State := upD; let addr : Nat := 0x2000000; let n : Nat := 4; s.dram.frozen = false ∧ 0 < n ∧ addr % 64 + n ≤ 64 ∧ addr + n ≤ s.dramSize ∧ s.trk.lock = none ∧ findEntry (s.chan (dramCh addr)).wq (addr / 64) = none ∧ s.dram.poison = []) ∧
    (let s : State := upQ; let addr : Nat := 0x40000004; let n : Nat := 4; let bytes : List (Option Byte) := []; let e : WqEntry := full; s.dram.frozen = false ∧ 0 < n ∧ addr % 64 + n ≤ 64 ∧ addr + n ≤ s.dramSize ∧ s.trk.lock = none ∧ findEntry (s.chan (dramCh addr)).wq (addr / 64) = some e ∧ e.bytes.all (·.isSome) = true) ∧
    (let s : State := upQ; let addr : Nat := 0x40000004; let bytes : List (Option Byte) := [some 9, none, some 7]; let master : Fin 12 := 3; let qos : Fin 16 := 4; s.dram.frozen = false ∧ bytes ≠ [] ∧ bytes.any (·.isSome) = true ∧ addr % 64 + bytes.length ≤ 64 ∧ addr + bytes.length ≤ s.dramSize ∧ s.trk.lock = none ∧ (((findEntry (s.chan (dramCh addr)).wq (addr / 64)).isSome = true ∨ wqFree (s.chan (dramCh addr)).wq (s.qosOf master.val qos.val == 15) = true))) ∧
    (let s : State := upQ; let bytes : List (Option Byte) := []; let e : WqEntry := full; let es : List WqEntry := []; s.dram.frozen = false ∧ (s.chan (dramCh (e.line * 64))).wq = e :: es ∧ e.bytes.length = 64 ∧ e.bytes.all (·.isSome) = true) := by
  decide +kernel

/-- The hypotheses of PatrolAndAperture are met, clause by clause. -/
theorem witness_PatrolAndAperture :
    (let s : State := upD; let ch : Fin 2 := 1; (s.chan ch.val).scrubOn = true ∧ s.dram.frozen = false ∧ s.dram.poison = [] ∧ (s.chan ch.val).scrubPos + 1 < (patrolRanks (s.chan ch.val)).length * rankLines) ∧
    (let s : State := upD.wr (DRC_APBASE 0) 1; let addr : Nat := 0xC000021; let width : Width := .half; s.hostUp = true ∧ s.dram.frozen = false ∧ s.apOutside addr width = false ∧ 0x4000000 ≤ widthAlign width (s.apAddr addr) ∧ s.trk.lock = none ∧ (((findEntry (s.chan (dramCh (widthAlign width (s.apAddr addr)))).wq (widthAlign width (s.apAddr addr) / 64)).isSome = true ∨
      wqFree (s.chan (dramCh (widthAlign width (s.apAddr addr)))).wq false = true)) ∧ s.qosOf 0 8 ≠ 15) ∧
    (let s : State := upD; let addr : Nat := 0xE000002; let width : Width := .byte; s.hostUp = true ∧ s.dram.frozen = false ∧ s.apOutside addr width = false ∧ s.trk.lock = none ∧ s.dram.poison = [] ∧ findEntry (s.chan (dramCh (widthAlign width (s.apAddr addr)))).wq (widthAlign width (s.apAddr addr) / 64) = none) ∧
    (let s : State := up; let addr : Nat := 0xE000002; let width : Width := .byte; s.hostUp = true ∧ s.apOutside addr width = true) ∧
    (let s : State := upD; let addr : Nat := 0xD000002; let width : Width := .byte; s.hostUp = true ∧ s.dram.frozen = false ∧ s.apOutside addr width = false ∧ 0x1000000 ≤ widthAlign width (s.apAddr addr) ∧ widthAlign width (s.apAddr addr) < 0x4000000) := by
  decide +kernel

/-- The hypotheses of DramFaultsAndMigration are met, clause by clause. -/
theorem witness_DramFaultsAndMigration :
    (let s : State := upQ; let hit : ParityHit := { persist := false, cmd := 1, master := 3, addr := 0x2000000 }; hit.persist = false ∧ (s.dram.frozen = false ∨ hit.cmd.val = 5)) ∧
    (let s : State := upQ; let hit : ParityHit := { persist := true, cmd := 2, master := 3, addr := 0x2000000 }; hit.persist = true ∧ s.dram.frozen = false ∧ s.dram.ranksW ≠ 4) ∧
    (let s : State := { upD with dram := { upD.dram with frozen := true } }; let hit : ParityHit := { persist := true, cmd := 2, master := 3, addr := 0x2000000 }; s.dram.frozen = true ∧ hit.cmd.val ≠ 5) ∧
    (let s : State := upQ; (s.tickN + 1) % 192 ≠ 0) ∧
    (let s : State := { upQ with sys := { upQ.sys with tick := 1151 } }; (s.tickN + 1) % 192 = 0) ∧
    (let s : State := upQ; let ch : Fin 2 := 1; let rank : Fin 4 := 1; let bg : Fin 4 := 2; let bank : Fin 4 := 3; let row : Nat := 131071; row < 2 ^ 17 ∧ s.bit (DRC_POLICY ch.val) 3 = true ∧ (∀ r ∈ spGet [] (s.chan ch.val).hammer (bankKey rank.val bg.val bank.val), r.row = row → r.treated = false)) ∧
    (let s : State := upM; let ch : Fin 2 := 0; let slot : Fin 16 := 2; let k : Nat := 3; (s.slot slot.val).st = .queued ∧ (s.slot slot.val).kind = 5 ∧ s.engineFree slot.val = true ∧ s.dram.frozen = false ∧ ch.val = fld ((s.slot slot.val).arg 0) 0 0 ∧ s.migrateError ch.val (fld ((s.slot slot.val).arg 0) 2 1) = 0 ∧ (s.chan ch.val).spareRank = some k) ∧
    (let s : State := (fun z : State => { z with dram := { z.dram with poison := [(0x100000020, true), (0x170000020, true)] } }) (upS.modChan 1 (fun x => { x with mig := some mig1 })); let ch : Fin 2 := 1; let slot : Fin 16 := 2; let m : Migration := mig1; let k : Nat := 1; (s.chan ch.val).copying = some m ∧ m.slot = none ∧ k = s.rankPoison ch.val m.source m.copied 16384) ∧
    (let s : State := upS.modChan 1 (fun x => { x with mig := some { mig1 with done := true } }); let ch : Fin 2 := 1; let slot : Fin 16 := 2; let m : Migration := { mig1 with done := true }; (s.chan ch.val).copying = some m ∧ m.done = true ∧ m.slot = none ∧ m.source < (s.chan ch.val).ranks.length ∧ m.target < (s.chan ch.val).ranks.length ∧ m.source ≠ m.target) := by
  decide +kernel

/-! ### On-chip memory and the Trunk (R363 to R404) -/

/-- A queued MARCH with its two arguments. -/
def upR (a b : W32) : State := up.setSlot 2 { idleSlot with kind := 4, st := .queued, args := [a, b, 0, 0], order := 5 }
/-- A march in progress at a step. -/
def march1 (r h : Bool) (step el : Nat) : MarchWork := { slot := 2, retention := r, groups := 1, bank := 4, lastBank := 9, step := step, element := el, holding := h, progress := 1, fails := [], found := 0, repaired := 0, unrepaired := 0, records := [], startTick := 0, hold := 30, holdLeft := 1 }
/-- The module with it. -/
def upP (m : MarchWork) : State := { up with mem := { up.mem with act := .preserving, march := some m } }
/-- The module with a repair entry of bank 1, spare 0. -/
def upE : State := { up with mem := { up.mem with rep := [(8, some { row := 5, host := true, active := false })] } }

/-- The hypotheses of MemoryMarch are met, clause by clause. -/
theorem witness_MemoryMarch :
    (let s : State := upR 0 0x0403; let slot : Fin 16 := 2; (s.slot slot.val).st = .queued ∧ (s.slot slot.val).kind = 4 ∧ s.engineFree slot.val = true ∧ s.mem.march = none ∧ s.marchError (s.slot slot.val) = 0 ∧ bitOf ((s.slot slot.val).arg 0) 0 = false) ∧
    (let s : State := upR 1 7; let slot : Fin 16 := 2; (s.slot slot.val).st = .queued ∧ (s.slot slot.val).kind = 4 ∧ s.engineFree slot.val = true ∧ s.mem.march = none ∧ s.marchError (s.slot slot.val) = 0 ∧ bitOf ((s.slot slot.val).arg 0) 0 = true ∧ bitOf ((s.slot slot.val).arg 0) 1 = false ∧ s.trk.lock = none) ∧
    (let s : State := upP (march1 true true 1 3); let m : MarchWork := march1 true true 1 3; s.mem.march = some m ∧ m.holding = true ∧ m.holdLeft ≤ 1 ∧ m.element = 3) ∧
    (let s : State := upP { march1 true true 1 3 with holdLeft := 2 }; let m : MarchWork := { march1 true true 1 3 with holdLeft := 2 }; s.mem.march = some m ∧ (m.holding = false ∨ 1 < m.holdLeft)) ∧
    (let s : State := upP (march1 false false 0 0); let fails : List FailWord := []; let m : MarchWork := march1 false false 0 0; s.mem.march = some m ∧ s.mem.loanDone = false ∧ s.mem.act = .preserving ∧ m.step = 0 ∧ m.retention = false ∧ m.fails = []) ∧
    (let s : State := upP (march1 false false 2 5); let m : MarchWork := march1 false false 2 5; s.mem.march = some m ∧ s.mem.loanDone = false ∧ s.mem.act = .preserving ∧ m.step = 2 ∧ m.bank ≠ m.lastBank) ∧
    (let s : State := { up with mem := { up.mem with loanDone := true } }; s.mem.loanDone = true) := by
  decide +kernel

/-- The hypotheses of RepairMap are met, clause by clause. -/
theorem witness_RepairMap :
    (let s : State := upE; let v : W32 := 0x10006; let e : Fin 8 := 1; s.hostUp = true ∧ s.locked .mem = false ∧ s.rowNamed (fld v 21 16) (fld v 9 0) = false ∧ s.freeSpare (fld v 21 16) = some e.val) ∧
    (let s : State := upE; let v : W32 := 0x10005; s.hostUp = true ∧ s.locked .mem = false ∧ s.rowNamed (fld v 21 16) (fld v 9 0) = true) ∧
    (let s : State := { up with mem := { up.mem with rep := (upFrom 0 8).map (fun k => (k, some { row := k, host := true, active := true })) } }; let v : W32 := 20; s.hostUp = true ∧ s.locked .mem = false ∧ s.rowNamed (fld v 21 16) (fld v 9 0) = false ∧ s.freeSpare (fld v 21 16) = none) ∧
    (let s : State := up.wr (blkBase .mem + 0xC) 1; s.hostUp = true ∧ s.locked .mem = true) ∧
    (let s : State := upE; let bank : Fin 64 := 1; let e : Fin 8 := 0; let r : RepEntry := { row := 5, host := true, active := false }; s.hostUp = true ∧ spGet none s.mem.rep (bank.val * 8 + e.val) = some r ∧ r.active = false) := by
  decide +kernel

/-- The hypotheses of TrunkContainment are met, clause by clause. -/
theorem witness_TrunkContainment :
    (let s : State := { up with sys := { up.sys with ready := false } }; s.trkMode ≠ 1 ∧ s.trk.lock = none) ∧
    (let s : State := up; s.trkMode = 1) ∧
    (let s : State := { up with trk := { up.trk with lock := some (1, 1) } }; let w : Nat × Nat := (1, 1); s.trk.lock = some w ∧ s.trk.waiting = []) ∧
    (let s : State := up; let n : Nat := 3; 0 < n ∧ s.trk.lock = none) := by
  decide +kernel

/-! ### Starts and jobs (R41 to R44, R67 to R71, R504 to R512) -/

/-- The module in a phase of its start. -/
def upPh (p : Phase) (ans : Bool) (c : Nat) : State := { up with sys := { up.sys with phase := p, answering := ans, ready := false, mediaRun := false, cause := c, deferred := [17, 21] } }
/-- What a start finds with two ranks on each channel, the SPI host and no boot image. -/
def obs1 : WakeObs := { straps := 9, flash0 := some [], flash1 := some [], ranks0 := [.works, .works], ranks1 := [.absent, .works, .fails], march := [], retained := false, partnerReply := false }
/-- The module with that image. -/
def upI : State := { up with img := { up.img with running := some img0, source := 2 } }
/-- The module with slot 5 in a state. -/
def upJ (k : Byte) (st : JobState) (a : Bool) (f : Option Byte) : State := up.setSlot 5 { idleSlot with kind := k, st := st, abortReq := a, fin := f, order := 5 }

/-- The hypotheses of StartSequence are met, clause by clause. -/
theorem witness_StartSequence :
    (let s : State := State.reset; s.sys.phase = .off) ∧
    (let s : State := { upPh .nap false 1 with pwd := { up.pwd with coldRetry := true } }; s.sys.phase = .nap ∧ s.pwd.coldRetry = true) ∧
    (let s : State := upPh .starting false 1; s.sys.phase = .starting ∧ s.sys.answering = false) ∧
    (let s : State := upPh .starting true 2; s.sys.phase = .starting ∧ s.sys.answering = true ∧ s.img.running = none) ∧
    (let s : State := { upPh .starting true 1 with img := upI.img }; s.sys.phase = .starting ∧ s.sys.answering = true ∧ s.img.running.isSome = true ∧ s.img.heldEnables = [] ∧ s.sys.cause = 1) := by
  decide +kernel

/-- The hypotheses of WakeSequence are met, clause by clause. -/
theorem witness_WakeSequence :
    (let s : State := upPh .starting false 1; let obs : WakeObs := obs1; s.sys.phase = .starting ∧ s.sys.answering = false ∧ s.dram.selfRefresh = false ∧ obs.straps.getLsbD 3 = true) := by
  decide +kernel

/-- The hypotheses of WarmResets are met, clause by clause. -/
theorem witness_WarmResets :
    (let s : State := up; s.dram.ch0.wq = [] ∧ s.dram.ch1.wq = [] ∧ s.hostUp = true ∧ s.class1 = true ∧ s.inPair = false) ∧
    (let s : State := up; let v : W32 := 1; s.dram.ch0.wq = [] ∧ s.dram.ch1.wq = [] ∧ s.hostUp = true ∧ s.class1 = true ∧ v ≠ 0x3A5C) ∧
    (let s : State := up; s.dram.ch0.wq = [] ∧ s.dram.ch1.wq = [] ∧ s.engineUp = true) ∧
    (let s : State := up; s.dram.ch0.wq = [] ∧ s.dram.ch1.wq = [] ∧ s.engineUp = true) ∧
    (let s : State := upPh .held false 1; s.dram.ch0.wq = [] ∧ s.dram.ch1.wq = [] ∧ s.sys.phase = .held) ∧
    (let s : State := upPh .failed false 1; s.dram.ch0.wq = [] ∧ s.dram.ch1.wq = [] ∧ s.sys.phase = .failed) ∧
    (let s : State := up; s.dram.ch0.wq = [] ∧ s.dram.ch1.wq = []) := by
  decide +kernel

/-- The hypotheses of JobLifeCycle are met, clause by clause. -/
theorem witness_JobLifeCycle :
    (let s : State := up; let k : Fin 16 := 3; let v : W32 := 0x8000000B; s.hostUp = true ∧ ((fld v 7 0 = 0 ∨ 10 < fld v 7 0)) ∧ (s.slot k.val).busy = false ∧ s.sys.ready = true) ∧
    (let s : State := upJ 3 .running false none; let k : Fin 16 := 5; let v : W32 := 0x8000000B; s.hostUp = true ∧ ((fld v 7 0 = 0 ∨ 10 < fld v 7 0)) ∧ (((s.slot k.val).busy = true ∨ s.sys.ready = false))) ∧
    (let s : State := upJ 3 .queued false none; let k : Fin 16 := 5; (s.slot k.val).st = .queued ∧ s.engineFree k.val = true ∧ s.dram.frozen = false) ∧
    (let s : State := (upJ 9 .queued false none).setSlot 1 { idleSlot with kind := 10, st := .running }; let k : Fin 16 := 5; (s.slot k.val).st = .queued ∧ s.engineFree k.val = false ∧ s.dram.frozen = false) ∧
    (let s : State := upJ 3 .running false none; s.hostUp = true) ∧
    (let s : State := upJ 3 .running false (some 0x42); let k : Fin 16 := 5; let e : Byte := 0x42; (s.slot k.val).st = .running ∧ (s.slot k.val).fin = some e) ∧
    (let s : State := upJ 3 .running true none; let k : Fin 16 := 5; (s.slot k.val).st = .running ∧ (s.slot k.val).abortReq = true ∧ (s.slot k.val).fin = none ∧ (((s.slot k.val).kind = 3 ∨ (s.slot k.val).kind = 9 ∨ (s.slot k.val).kind = 10))) ∧
    (let s : State := upJ 4 .running true none; let k : Fin 16 := 5; (s.slot k.val).st = .running ∧ (s.slot k.val).abortReq = true ∧ (s.slot k.val).fin = none ∧ (((s.slot k.val).kind = 4 ∨ (s.slot k.val).kind = 5 ∨ (s.slot k.val).kind = 6))) := by
  decide +kernel

/-! ### The command ledger (R72 to R75, R426 to R433) -/

/-- The module with a record in LDG_SUB0 to LDG_SUB6, and after the write of LDG_SUB7. -/
def upL (sub : Sparse W32) : State := { up with ledger := { up.ledger with sub := sub } }
def upL7 (sub : Sparse W32) (v : W32) : State := { up with ledger := { up.ledger with sub := spPut sub 7 v } }
/-- An entry that waits in the ledger. -/
def ent (seq tick op : Nat) (a : List W32) (acc : Bool) : LedgerEntry := { seq := seq, tick := tick, op := op, args := a, accepted := acc, both := false, partner := false, granted := true }
/-- The module with entries in its ledger. -/
def upN (es : List LedgerEntry) : State := { up with ledger := { up.ledger with entries := es } }
/-- The active of a pair with those entries. -/
def upA (es : List LedgerEntry) : State := { upN es with twn := { up.twn with role := .active, paired := true, linkUp := true } }
/-- A record of the partner's. -/
def rec5 (n : W64) : RecordMsg := { seq := n, tick := 2000, op := 0, args := [1, 2, 3], granted := true, confirm := false }
/-- A queued LEDGER_DUMP. -/
def upG : State := up.setSlot 2 { idleSlot with kind := 10, st := .queued, args := [65535, 2, 0x1000, 1], order := 3 }

/-- The hypotheses of LedgerSubmission are met, clause by clause. -/
theorem witness_LedgerSubmission :
    (let s : State := upL [(0, 5), (4, 0x70000)]; let u : State := upL7 [(0, 5), (4, 0x70000)] 9; let v : W32 := 9; s.hostUp = true ∧ u = { s with ledger := { s.ledger with sub := spPut s.ledger.sub 7 v } } ∧ u.subBad u.subEntry = true) ∧
    (let s : State := { upL [(0, 5), (4, 0x10000), (5, 0x18)] with prs := resetPrs }; let u : State := { upL7 [(0, 5), (4, 0x10000), (5, 0x18)] 9 with prs := resetPrs }; let v : W32 := 9; s.hostUp = true ∧ u = { s with ledger := { s.ledger with sub := spPut s.ledger.sub 7 v } } ∧ u.subBad u.subEntry = false ∧ u.subEntry.op = 1 ∧ u.regWriteGranted (u.sub 5).toNat (u.sub 6) (u.sub 7) = false) ∧
    (let s : State := upL [(0, 4)]; let u : State := upL7 [(0, 4)] 9; let v : W32 := 9; s.hostUp = true ∧ u = { s with ledger := { s.ledger with sub := spPut s.ledger.sub 7 v } } ∧ u.subBad u.subEntry = false ∧ ((u.subEntry.op ≠ 1 ∨ u.regWriteGranted (u.sub 5).toNat (u.sub 6) (u.sub 7) = true)) ∧ ((u.subEntry.seq ≤ s.ledger.acc ∨ s.holds u.subEntry.seq = true))) ∧
    (let s : State := upL [(0, 65541)]; let u : State := upL7 [(0, 65541)] 9; let v : W32 := 9; s.hostUp = true ∧ u = { s with ledger := { s.ledger with sub := spPut s.ledger.sub 7 v } } ∧ u.subBad u.subEntry = false ∧ ((u.subEntry.op ≠ 1 ∨ u.regWriteGranted (u.sub 5).toNat (u.sub 6) (u.sub 7) = true)) ∧ s.ledger.acc < u.subEntry.seq ∧ s.holds u.subEntry.seq = false ∧ ((s.sys.ready = false ∨ s.dram.frozen = true ∨ 65536 ≤ s.ledger.entries.length ∨ s.ledger.exe + 65536 < u.subEntry.seq))) ∧
    (let s : State := upL [(0, 65540)]; let u : State := upL7 [(0, 65540)] 9; let v : W32 := 9; s.hostUp = true ∧ u = { s with ledger := { s.ledger with sub := spPut s.ledger.sub 7 v } } ∧ u.subBad u.subEntry = false ∧ ((u.subEntry.op ≠ 1 ∨ u.regWriteGranted (u.sub 5).toNat (u.sub 6) (u.sub 7) = true)) ∧ s.ledger.acc < u.subEntry.seq ∧ s.holds u.subEntry.seq = false ∧ s.sys.ready = true ∧ s.dram.frozen = false ∧ s.ledger.entries.length < 65536 ∧ u.subEntry.seq ≤ s.ledger.exe + 65536 ∧ s.twn.role = .alone) := by
  decide +kernel

/-- The hypotheses of LedgerAcceptance are met, clause by clause. -/
theorem witness_LedgerAcceptance :
    (let s : State := upN [ent 6 2000 0 [] false, ent 5 2000 0 [] false, ent 8 2000 0 [] false]; s.sys.mediaRun = true ∧ s.twn.role = .alone ∧ s.dram.frozen = false ∧ s.ledger.acc < s.accReady false) ∧
    (let s : State := upA []; let r : RecordMsg := rec5 5; s.twn.linkUp = true ∧ s.dram.frozen = false ∧ r.confirm = false ∧ r.args.length = 3 ∧ s.ledger.entries.all (fun x => x.seq != r.seq.toNat) = true ∧ s.ledger.acc < r.seq.toNat) ∧
    (let s : State := upA []; let r : RecordMsg := rec5 4; s.twn.linkUp = true ∧ s.dram.frozen = false ∧ r.confirm = false ∧ s.ledger.entries.all (fun x => x.seq != r.seq.toNat) = true ∧ r.seq.toNat ≤ s.ledger.acc) ∧
    (let s : State := upA [ent 5 0 0 [] false]; let r : RecordMsg := rec5 5; let e : LedgerEntry := ent 5 0 0 [] false; s.twn.linkUp = true ∧ s.dram.frozen = false ∧ r.confirm = false ∧ s.twn.role = .active ∧ s.ledger.entries.find? (fun x => x.seq == r.seq.toNat) = some e ∧ sameRecord e r = false ∧ e.accepted = false) := by
  decide +kernel

/-- The hypotheses of LedgerExecution are met, clause by clause. -/
theorem witness_LedgerExecution :
    (let s : State := upN [ent 5 1001 0 [0, 0, 0] true]; let e : LedgerEntry := ent 5 1001 0 [0, 0, 0] true; let addr : W32 := 0; let v : W32 := 0; let mask : W32 := 0; firstDue s.ledger.entries (s.tickN + 1) = some e ∧ s.sys.mediaRun = true ∧ s.sys.phase = .running ∧ s.dram.frozen = false ∧ e.args = [addr, v, mask] ∧ e.op = 0 ∧ s.tickN + 1 ≤ e.tick) ∧
    (let s : State := (upN [ent 5 1000 0 [0, 0, 0] true]).wr LDG_CFG 1; let e : LedgerEntry := ent 5 1000 0 [0, 0, 0] true; let addr : W32 := 0; let v : W32 := 0; let mask : W32 := 0; firstDue s.ledger.entries (s.tickN + 1) = some e ∧ s.sys.mediaRun = true ∧ s.sys.phase = .running ∧ s.dram.frozen = false ∧ e.args = [addr, v, mask] ∧ e.op = 0 ∧ e.tick < s.tickN + 1 ∧ s.bit LDG_CFG 0 = true) ∧
    (let s : State := upN [ent 5 1001 1 [0xE0000, 0, 0] true]; let e : LedgerEntry := ent 5 1001 1 [0xE0000, 0, 0] true; let addr : W32 := 0xE0000; let v : W32 := 0; let mask : W32 := 0; firstDue s.ledger.entries (s.tickN + 1) = some e ∧ s.sys.mediaRun = true ∧ s.sys.phase = .running ∧ s.dram.frozen = false ∧ e.args = [addr, v, mask] ∧ e.op = 1 ∧ s.tickN + 1 ≤ e.tick ∧ locate addr.toNat = none) ∧
    (let s : State := upN [ent 5 1001 1 [0x1020, 9, 12] true]; let e : LedgerEntry := ent 5 1001 1 [0x1020, 9, 12] true; let b : Block := .evt; let off : Nat := 0x20; let r : RegSpec := (specAt 0x1020).getD (ro 0 0); let addr : W32 := 0x1020; let v : W32 := 9; let mask : W32 := 12; firstDue s.ledger.entries (s.tickN + 1) = some e ∧ s.sys.mediaRun = true ∧ s.sys.phase = .running ∧ s.dram.frozen = false ∧ e.args = [addr, v, mask] ∧ e.op = 1 ∧ s.tickN + 1 ≤ e.tick ∧ locate addr.toNat = some (b, off) ∧ b ≠ .hwd ∧ specAt (blkBase b + off) = some r ∧ r.cfg = 0 ∧ r.lk = 0 ∧ r.w1c = 0 ∧ r.w1s = 0 ∧ mask &&& r.rw = mask ∧ s.view b off = none ∧ jobOffset off = none ∧ evtReg (blkBase b + off) = false ∧ s.sideWrite (if e.granted then 1 else 2) b off ((v &&& mask) ||| (s.rd (blkBase b + off) &&& ~~~mask &&& r.rw)) = none ∧ dumb b off ((v &&& mask) ||| (s.rd (blkBase b + off) &&& ~~~mask &&& r.rw)) = false ∧ s.badArg b off ((v &&& mask) ||| (s.rd (blkBase b + off) &&& ~~~mask &&& r.rw)) = none ∧ s.taken b off ((v &&& mask) ||| (s.rd (blkBase b + off) &&& ~~~mask &&& r.rw)) = ((v &&& mask) ||| (s.rd (blkBase b + off) &&& ~~~mask &&& r.rw))) := by
  decide +kernel

/-- The hypotheses of LedgerDump are met, clause by clause. -/
theorem witness_LedgerDump :
    (let s : State := upG; let k : Fin 16 := 2; let i : Nat := 65535; let count : Nat := 2; let host : W64 := 0x100001000; (s.slot k.val).st = .queued ∧ (s.slot k.val).kind = 10 ∧ s.engineFree k.val = true ∧ s.dram.frozen = false ∧ s.dram.poison = [] ∧ s.graph.dma = none ∧ (s.slot k.val).args = [w32 i, w32 count, lo32 host, hi32 host] ∧ i < 65536 ∧ 0 < count ∧ count ≤ 65536) := by
  decide +kernel

/-! ### The Fuller cores (R196 to R237) -/

/-- A core in its program, and the module with it as core 1. -/
def co1 : Core := { coreInit with active := true, len := 9, cycles := 395997, pc := 5, x0 := 0x80000000, x1 := 7, y0 := 0x800000, y1 := 3, acc := [(0, 0x7FC0000000000000), (1, 5), (3, 0xFFFFFFFFFF000000)], y := [(4, 0xFF800001), (5, 6)], pt := [(2, 5)], lc := 2 }
def upC (c : Core) : State := { up with cores := [(1, c)] }
/-- A level that ends at word 7. -/
def lv7 : List LoopLevel := List.replicate 4 { outerLc := 4, start := 2, finish := 7 }
/-- Program words as R218 to R222 lay them out. -/
def mvN (m : PMove) : Nat := (if m.store then 2 ^ 19 else 0) + m.code.val * 2 ^ 15 + m.ptr.val * 2 ^ 12 + m.mode.val * 2 ^ 10
def pW (opc : Nat) (f : PArgs) : W64 := BitVec.ofNat 64 (opc * 2 ^ 57 + f.da.val * 2 ^ 55 + f.sa.val * 2 ^ 53 + (if f.xs then 2 ^ 52 else 0) + (if f.ys then 2 ^ 51 else 0) + f.k.val * 2 ^ 46 + mvN f.x * 2 ^ 20 + mvN f.y)
def jW (kind : Nat) (j : JArgs) : W64 := BitVec.ofNat 64 (8 * 2 ^ 60 + j.cond.val * 2 ^ 56 + kind * 2 ^ 52 + j.count.toNat * 2 ^ 36 + j.finish.toNat * 2 ^ 16 + j.target.toNat)
def kW (sel : Nat) (v : W32) : W64 := BitVec.ofNat 64 (9 * 2 ^ 60 + sel * 2 ^ 54 + v.toNat)
def tW (dst src : Nat) : W64 := BitVec.ofNat 64 (10 * 2 ^ 60 + dst * 2 ^ 54 + src * 2 ^ 48)
/-- A core at word 5 of its program. -/
def cP (w : W64) (c : Core) : Core := { c with p := [(5, w)] }
/-- Operands of format P: accumulators, a Y move. -/
def pa (da sa : Fin 4) (y : PMove) : PArgs := { da := da, sa := sa, xs := true, ys := false, k := 3, x := { store := false, code := 0, ptr := 0, mode := 0 }, y := y }
def mv (st : Bool) (code : Fin 16) (mode : Fin 4) : PMove := { store := st, code := code, ptr := 2, mode := mode }
/-- Operands of format J. -/
def ja (cond : Fin 16) (count : BitVec 16) (fin : BitVec 13) : JArgs := { cond := cond, count := count, finish := fin, target := 77 }
/-- Levels of the loop stack. -/
def lv (n : Nat) : List LoopLevel := List.replicate n { outerLc := 4, start := 2, finish := 5 }

/-- The hypotheses of FullerAccumulator are met, clause by clause. -/
theorem witness_FullerAccumulator :
    (let s : State := upC (cP (pW 1 (pa 0 1 (mv true 5 1))) co1); let k : Fin 64 := 1; let f : PArgs := pa 0 1 (mv true 5 1); (s.core k.val).runs 1 = true ∧ s.due k = .clr k f) ∧
    (let s : State := upC (cP (pW 2 (pa 0 1 (mv true 5 1))) co1); let k : Fin 64 := 1; let f : PArgs := pa 0 1 (mv true 5 1); (s.core k.val).runs 1 = true ∧ s.due k = .mpy k f) ∧
    (let s : State := upC (cP (pW 3 (pa 0 1 (mv true 5 1))) co1); let k : Fin 64 := 1; let f : PArgs := pa 0 1 (mv true 5 1); (s.core k.val).runs 1 = true ∧ s.due k = .mac k f) ∧
    (let s : State := upC (cP (pW 4 (pa 3 1 (mv false 8 3))) co1); let k : Fin 64 := 1; let f : PArgs := pa 3 1 (mv false 8 3); (s.core k.val).runs 1 = true ∧ s.due k = .msu k f) ∧
    (let s : State := upC (cP (pW 10 (pa 0 1 (mv true 5 1))) co1); let k : Fin 64 := 1; let f : PArgs := pa 0 1 (mv true 5 1); (s.core k.val).runs 1 = true ∧ s.due k = .add k f) ∧
    (let s : State := upC (cP (pW 11 (pa 0 3 (mv true 5 1))) co1); let k : Fin 64 := 1; let f : PArgs := pa 0 3 (mv true 5 1); (s.core k.val).runs 1 = true ∧ s.due k = .sub k f) ∧
    (let s : State := upC (cP (pW 12 (pa 0 1 (mv true 5 1))) co1); let k : Fin 64 := 1; let f : PArgs := pa 0 1 (mv true 5 1); (s.core k.val).runs 1 = true ∧ s.due k = .addx k f) ∧
    (let s : State := upC (cP (pW 13 (pa 0 1 (mv true 5 1))) co1); let k : Fin 64 := 1; let f : PArgs := pa 0 1 (mv true 5 1); (s.core k.val).runs 1 = true ∧ s.due k = .asl k f) ∧
    (let s : State := upC (cP (pW 14 (pa 3 1 (mv true 5 1))) co1); let k : Fin 64 := 1; let f : PArgs := pa 3 1 (mv true 5 1); (s.core k.val).runs 1 = true ∧ s.due k = .asr k f) ∧
    (let s : State := upC (cP (pW 15 (pa 0 1 (mv true 15 1))) co1); let k : Fin 64 := 1; let f : PArgs := pa 0 1 (mv true 15 1); (s.core k.val).runs 1 = true ∧ s.due k = .neg k f) ∧
    (let s : State := upC (cP (pW 16 (pa 3 1 (mv false 14 1))) co1); let k : Fin 64 := 1; let f : PArgs := pa 3 1 (mv false 14 1); (s.core k.val).runs 1 = true ∧ s.due k = .abs k f) ∧
    (let s : State := upC (cP (pW 17 (pa 1 1 (mv true 5 1))) co1); let k : Fin 64 := 1; let f : PArgs := pa 1 1 (mv true 5 1); (s.core k.val).runs 1 = true ∧ s.due k = .maxa k f) ∧
    (let s : State := upC (cP (pW 21 (pa 2 3 (mv true 5 1))) co1); let k : Fin 64 := 1; let f : PArgs := pa 2 3 (mv true 5 1); (s.core k.val).runs 1 = true ∧ s.due k = .copy k f) := by
  decide +kernel

/-- The hypotheses of FullerPairsAndDivision are met, clause by clause. -/
theorem witness_FullerPairsAndDivision :
    (let s : State := upC (cP (pW 5 (pa 1 1 (mv true 5 1))) co1); let k : Fin 64 := 1; let f : PArgs := pa 1 1 (mv true 5 1); let c : Core := cP (pW 5 (pa 1 1 (mv true 5 1))) co1; (s.core k.val).runs 1 = true ∧ s.core k.val = c ∧ s.due k = .dmpy k f) ∧
    (let s : State := upC (cP (pW 6 (pa 1 1 (mv true 5 1))) co1); let k : Fin 64 := 1; let f : PArgs := pa 1 1 (mv true 5 1); let c : Core := cP (pW 6 (pa 1 1 (mv true 5 1))) co1; let e : Int := 0x7FC0000000000000; let o : Int := 5; (s.core k.val).runs 1 = true ∧ s.core k.val = c ∧ s.due k = .dmac k f ∧ e = c.a (2 * (f.da.val / 2)) ∧ o = c.a (2 * (f.da.val / 2) + 1)) ∧
    (let s : State := upC (cP (pW 7 (pa 1 1 (mv true 5 1))) co1); let k : Fin 64 := 1; let f : PArgs := pa 1 1 (mv true 5 1); let c : Core := cP (pW 7 (pa 1 1 (mv true 5 1))) co1; (s.core k.val).runs 1 = true ∧ s.core k.val = c ∧ s.due k = .cmpy k f) ∧
    (let s : State := upC (cP (pW 8 (pa 1 1 (mv true 5 1))) co1); let k : Fin 64 := 1; let f : PArgs := pa 1 1 (mv true 5 1); let c : Core := cP (pW 8 (pa 1 1 (mv true 5 1))) co1; let e : Int := 0x7FC0000000000000; let o : Int := 5; (s.core k.val).runs 1 = true ∧ s.core k.val = c ∧ s.due k = .cmac k f ∧ e = c.a (2 * (f.da.val / 2)) ∧ o = c.a (2 * (f.da.val / 2) + 1)) ∧
    (let s : State := upC (cP (pW 9 (pa 1 1 (mv true 5 1))) co1); let k : Fin 64 := 1; let f : PArgs := pa 1 1 (mv true 5 1); let c : Core := cP (pW 9 (pa 1 1 (mv true 5 1))) co1; let e : Int := 0x7FC0000000000000; let o : Int := 5; (s.core k.val).runs 1 = true ∧ s.core k.val = c ∧ s.due k = .cmacj k f ∧ e = c.a (2 * (f.da.val / 2)) ∧ o = c.a (2 * (f.da.val / 2) + 1)) ∧
    (let s : State := upC (cP (pW 20 (pa 3 1 (mv true 5 1))) co1); let k : Fin 64 := 1; let f : PArgs := pa 3 1 (mv true 5 1); let c : Core := cP (pW 20 (pa 3 1 (mv true 5 1))) co1; let r : Int := 5; (s.core k.val).runs 1 = true ∧ s.core k.val = c ∧ s.due k = .div k f ∧ r = (if (decide (0 ≤ c.a f.da.val) = decide (0 ≤ c.xv f.xs)) then 2 * Int.fdiv (c.a f.da.val) 16777216 - c.xv f.xs else 2 * Int.fdiv (c.a f.da.val) 16777216 + c.xv f.xs)) ∧
    (let s : State := upC (cP (pW 0 (pa 3 1 (mv true 5 1))) co1); let k : Fin 64 := 1; let f : PArgs := pa 3 1 (mv true 5 1); let c : Core := cP (pW 0 (pa 3 1 (mv true 5 1))) co1; (s.core k.val).runs 1 = true ∧ s.core k.val = c ∧ s.due k = .nop k f) ∧
    (let s : State := upC (cP (pW 19 (pa 3 1 (mv true 5 1))) co1); let k : Fin 64 := 1; let f : PArgs := pa 3 1 (mv true 5 1); let c : Core := cP (pW 19 (pa 3 1 (mv true 5 1))) co1; (s.core k.val).runs 1 = true ∧ s.core k.val = c ∧ s.due k = .tst k f) ∧
    (let s : State := upC (cP (pW 18 (pa 3 1 (mv true 5 1))) co1); let k : Fin 64 := 1; let f : PArgs := pa 3 1 (mv true 5 1); let c : Core := cP (pW 18 (pa 3 1 (mv true 5 1))) co1; (s.core k.val).runs 1 = true ∧ s.core k.val = c ∧ s.due k = .cmp k f) := by
  decide +kernel

/-- The hypotheses of FullerMoves are met, clause by clause. -/
theorem witness_FullerMoves :
    (let s : State := upC (cP (pW 0 (pa 3 1 (mv false 3 1))) co1); let k : Fin 64 := 1; let f : PArgs := pa 3 1 (mv false 3 1); let c : Core := cP (pW 0 (pa 3 1 (mv false 3 1))) co1; let a : Nat := 5; let w : W32 := 6; (s.core k.val).runs 1 = true ∧ s.core k.val = c ∧ c.late = none ∧ f.x.code = 0 ∧ a = (spGet 0 c.pt f.y.ptr.val).toNat ∧ w = spGet 0 c.y (a % 16384) ∧ s.due k = .nop k f ∧ f.y.store = false ∧ f.y.code = 3) ∧
    (let s : State := upC (cP (pW 0 (pa 3 1 (mv false 8 1))) co1); let k : Fin 64 := 1; let f : PArgs := pa 3 1 (mv false 8 1); let c : Core := cP (pW 0 (pa 3 1 (mv false 8 1))) co1; let a : Nat := 5; let w : W32 := 6; let j : Fin 4 := 3; (s.core k.val).runs 1 = true ∧ s.core k.val = c ∧ c.late = none ∧ f.x.code = 0 ∧ a = (spGet 0 c.pt f.y.ptr.val).toNat ∧ w = spGet 0 c.y (a % 16384) ∧ s.due k = .nop k f ∧ f.y.store = false ∧ f.y.code.val = 5 + j.val) ∧
    (let s : State := upC (cP (pW 0 (pa 3 1 (mv false 9 1))) { co1 with pt := [(2, 4)] }); let k : Fin 64 := 1; let f : PArgs := pa 3 1 (mv false 9 1); let c : Core := cP (pW 0 (pa 3 1 (mv false 9 1))) { co1 with pt := [(2, 4)] }; let a : Nat := 4; let w : W32 := 0xFF800001; let j : Fin 4 := 0; (s.core k.val).runs 1 = true ∧ s.core k.val = c ∧ c.late = none ∧ f.x.code = 0 ∧ a = (spGet 0 c.pt f.y.ptr.val).toNat ∧ w = spGet 0 c.y (a % 16384) ∧ s.due k = .nop k f ∧ f.y.store = false ∧ f.y.code.val = 9 + j.val) ∧
    (let s : State := upC (cP (pW 0 (pa 3 1 (mv false 14 1))) co1); let k : Fin 64 := 1; let f : PArgs := pa 3 1 (mv false 14 1); let c : Core := cP (pW 0 (pa 3 1 (mv false 14 1))) co1; let a : Nat := 5; let w : W32 := 6; (s.core k.val).runs 1 = true ∧ s.core k.val = c ∧ c.late = none ∧ f.x.code = 0 ∧ a = (spGet 0 c.pt f.y.ptr.val).toNat ∧ w = spGet 0 c.y (a % 16384) ∧ s.due k = .nop k f ∧ f.y.store = false ∧ f.y.code = 14) ∧
    (let s : State := upC (cP (pW 0 (pa 3 1 (mv true 3 1))) co1); let k : Fin 64 := 1; let f : PArgs := pa 3 1 (mv true 3 1); let c : Core := cP (pW 0 (pa 3 1 (mv true 3 1))) co1; let a : Nat := 5; let w : W32 := 6; (s.core k.val).runs 1 = true ∧ s.core k.val = c ∧ c.late = none ∧ f.x.code = 0 ∧ a = (spGet 0 c.pt f.y.ptr.val).toNat ∧ w = spGet 0 c.y (a % 16384) ∧ s.due k = .nop k f ∧ f.y.store = true ∧ f.y.code = 3) ∧
    (let s : State := upC (cP (pW 1 (pa 0 1 (mv true 5 1))) co1); let k : Fin 64 := 1; let f : PArgs := pa 0 1 (mv true 5 1); let c : Core := cP (pW 1 (pa 0 1 (mv true 5 1))) co1; let a : Nat := 5; let w : W32 := 6; let j : Fin 4 := 0; (s.core k.val).runs 1 = true ∧ s.core k.val = c ∧ c.late = none ∧ f.x.code = 0 ∧ a = (spGet 0 c.pt f.y.ptr.val).toNat ∧ w = spGet 0 c.y (a % 16384) ∧ s.due k = .clr k f ∧ f.y.store = true ∧ f.y.code.val = 5 + j.val ∧ c.esats = 0) ∧
    (let s : State := upC (cP (pW 0 (pa 0 1 (mv true 10 1))) co1); let k : Fin 64 := 1; let f : PArgs := pa 0 1 (mv true 10 1); let c : Core := cP (pW 0 (pa 0 1 (mv true 10 1))) co1; let a : Nat := 5; let w : W32 := 6; let j : Fin 4 := 1; (s.core k.val).runs 1 = true ∧ s.core k.val = c ∧ c.late = none ∧ f.x.code = 0 ∧ a = (spGet 0 c.pt f.y.ptr.val).toNat ∧ w = spGet 0 c.y (a % 16384) ∧ s.due k = .nop k f ∧ f.y.store = true ∧ f.y.code.val = 9 + j.val) ∧
    (let s : State := upC (cP (pW 0 (pa 0 1 (mv true 12 1))) co1); let k : Fin 64 := 1; let f : PArgs := pa 0 1 (mv true 12 1); let c : Core := cP (pW 0 (pa 0 1 (mv true 12 1))) co1; let a : Nat := 5; let w : W32 := 6; (s.core k.val).runs 1 = true ∧ s.core k.val = c ∧ c.late = none ∧ f.x.code = 0 ∧ a = (spGet 0 c.pt f.y.ptr.val).toNat ∧ w = spGet 0 c.y (a % 16384) ∧ s.due k = .nop k f ∧ 1 ≤ f.y.code.val ∧ f.y.code.val ≤ 12 ∧ f.y.mode = 1 ∧ rgMode (spGet 0 c.rg f.y.ptr.val) = 0) ∧
    (let s : State := upC (cP (pW 0 (pa 0 1 (mv true 14 2))) { co1 with rg := [(2, 0x34003)], st := [(2, 0x3FFF)], pt := [(2, 3)] }); let k : Fin 64 := 1; let f : PArgs := pa 0 1 (mv true 14 2); let c : Core := cP (pW 0 (pa 0 1 (mv true 14 2))) { co1 with rg := [(2, 0x34003)], st := [(2, 0x3FFF)], pt := [(2, 3)] }; let a : Nat := 3; let w : W32 := 0; (s.core k.val).runs 1 = true ∧ s.core k.val = c ∧ c.late = none ∧ f.x.code = 0 ∧ a = (spGet 0 c.pt f.y.ptr.val).toNat ∧ w = spGet 0 c.y (a % 16384) ∧ s.due k = .nop k f ∧ 1 ≤ f.y.code.val ∧ f.y.code.val ≤ 14 ∧ f.y.mode = 2 ∧ rgMode (spGet 0 c.rg f.y.ptr.val) = 1 ∧ 0 < rgLen (spGet 0 c.rg f.y.ptr.val) ∧ rgLen (spGet 0 c.rg f.y.ptr.val) ≤ 16384 ∧ rgBase (spGet 0 c.rg f.y.ptr.val) ≤ a ∧ a < rgBase (spGet 0 c.rg f.y.ptr.val) + rgLen (spGet 0 c.rg f.y.ptr.val)) ∧
    (let s : State := upC (cP (pW 0 (pa 0 1 (mv true 14 3))) { co1 with rg := [(2, 0x24003)] }); let k : Fin 64 := 1; let f : PArgs := pa 0 1 (mv true 14 3); let c : Core := cP (pW 0 (pa 0 1 (mv true 14 3))) { co1 with rg := [(2, 0x24003)] }; let a : Nat := 5; let w : W32 := 6; (s.core k.val).runs 1 = true ∧ s.core k.val = c ∧ c.late = none ∧ f.x.code = 0 ∧ a = (spGet 0 c.pt f.y.ptr.val).toNat ∧ w = spGet 0 c.y (a % 16384) ∧ s.due k = .nop k f ∧ 1 ≤ f.y.code.val ∧ f.y.code.val ≤ 14 ∧ f.y.mode = 3 ∧ rgMode (spGet 0 c.rg f.y.ptr.val) = 1 ∧ 0 < rgLen (spGet 0 c.rg f.y.ptr.val) ∧ (a < rgBase (spGet 0 c.rg f.y.ptr.val) ∨ rgBase (spGet 0 c.rg f.y.ptr.val) + rgLen (spGet 0 c.rg f.y.ptr.val) ≤ a)) := by
  decide +kernel

/-- The hypotheses of FullerFlow are met, clause by clause. -/
theorem witness_FullerFlow :
    (let s : State := upC (cP (jW 0 (ja 0 3 9)) co1); let k : Fin 64 := 1; let j : JArgs := ja 0 3 9; let c : Core := cP (jW 0 (ja 0 3 9)) co1; s.core k.val = c ∧ c.runs 3 = true ∧ s.due k = .jmp k j ∧ condHolds c j.cond.val = true ∧ (c.loops.head?.all (fun m => m.finish != c.pc)) = true) ∧
    (let s : State := upC (cP (jW 2 (ja 15 3 9)) { co1 with loops := [{ outerLc := 1, start := 2, finish := 7 }] }); let k : Fin 64 := 1; let j : JArgs := ja 15 3 9; let c : Core := cP (jW 2 (ja 15 3 9)) { co1 with loops := [{ outerLc := 1, start := 2, finish := 7 }] }; let i : Instr := .ret 1 (ja 15 3 9); s.core k.val = c ∧ c.runs 3 = true ∧ s.due k = i ∧ condHolds c j.cond.val = false ∧ (c.loops.head?.all (fun m => m.finish != c.pc)) = true ∧ i ∈ [Instr.jmp k j, .call k j, .ret k j, .brklp k j, .tend k j]) ∧
    (let s : State := upC (cP (jW 1 (ja 2 3 9)) { co1 with calls := [1, 2, 3, 4, 5, 6, 7] }); let k : Fin 64 := 1; let j : JArgs := ja 2 3 9; let c : Core := cP (jW 1 (ja 2 3 9)) { co1 with calls := [1, 2, 3, 4, 5, 6, 7] }; s.core k.val = c ∧ c.runs 3 = true ∧ s.due k = .call k j ∧ condHolds c j.cond.val = true ∧ (c.loops.head?.all (fun m => m.finish != c.pc)) = true ∧ c.calls.length < 8) ∧
    (let s : State := upC (cP (jW 2 (ja 4 3 9)) { co1 with calls := [6, 7] }); let k : Fin 64 := 1; let j : JArgs := ja 4 3 9; let c : Core := cP (jW 2 (ja 4 3 9)) { co1 with calls := [6, 7] }; s.core k.val = c ∧ c.runs 3 = true ∧ s.due k = .ret k j ∧ condHolds c j.cond.val = true ∧ (c.loops.head?.all (fun m => m.finish != c.pc)) = true ∧ c.calls ≠ []) ∧
    (let s : State := upC (cP (jW 1 (ja 8 3 9)) { co1 with calls := [1, 2, 3, 4, 5, 6, 7, 8] }); let k : Fin 64 := 1; let j : JArgs := ja 8 3 9; let c : Core := cP (jW 1 (ja 8 3 9)) { co1 with calls := [1, 2, 3, 4, 5, 6, 7, 8] }; let i : Instr := .call 1 (ja 8 3 9); s.core k.val = c ∧ c.runs 3 = true ∧ s.due k = i ∧ condHolds c j.cond.val = true ∧ (c.loops.head?.all (fun m => m.finish != c.pc)) = true ∧ i ∈ (if 8 ≤ c.calls.length then [Instr.call k j] else []) ++ (if c.calls = [] then [Instr.ret k j] else []) ++ (if c.loops = [] then [Instr.brklp k j] else [])) ∧
    (let s : State := upC (cP (jW 3 (ja 0 2 6)) { co1 with loops := lv 3 }); let k : Fin 64 := 1; let j : JArgs := ja 0 2 6; let c : Core := cP (jW 3 (ja 0 2 6)) { co1 with loops := lv 3 }; let i : Instr := .doLoop 1 (ja 0 2 6); let n : BitVec 16 := 2; s.core k.val = c ∧ c.runs 3 = true ∧ s.due k = i ∧ condHolds c j.cond.val = true ∧ c.pc < j.finish ∧ n ≠ 0 ∧ c.loops.length < 4 ∧ i ∈ (if n = j.count then [Instr.doLoop k j] else []) ++ (if n = c.lc then [Instr.dolc k j] else [])) ∧
    (let s : State := upC (cP (jW 4 (ja 9 2 6)) { co1 with loops := lv7 }); let k : Fin 64 := 1; let j : JArgs := ja 9 2 6; let c : Core := cP (jW 4 (ja 9 2 6)) { co1 with loops := lv7 }; let i : Instr := .dolc 1 (ja 9 2 6); let n : BitVec 16 := 2; s.core k.val = c ∧ c.runs 3 = true ∧ s.due k = i ∧ (condHolds c j.cond.val = false ∨ n = 0) ∧ c.pc < j.finish ∧ (c.loops.head?.all (fun m => m.finish != c.pc)) = true ∧ i ∈ (if n = j.count then [Instr.doLoop k j] else []) ++ (if n = c.lc then [Instr.dolc k j] else [])) ∧
    (let s : State := upC (cP (jW 3 (ja 0 2 6)) { co1 with loops := lv7 }); let k : Fin 64 := 1; let j : JArgs := ja 0 2 6; let c : Core := cP (jW 3 (ja 0 2 6)) { co1 with loops := lv7 }; let i : Instr := .doLoop 1 (ja 0 2 6); let n : BitVec 16 := 2; s.core k.val = c ∧ c.runs 3 = true ∧ s.due k = i ∧ condHolds c j.cond.val = true ∧ c.pc < j.finish ∧ n ≠ 0 ∧ 4 ≤ c.loops.length ∧ (c.loops.head?.all (fun m => m.finish != c.pc)) = true ∧ i ∈ (if n = j.count then [Instr.doLoop k j] else []) ++ (if n = c.lc then [Instr.dolc k j] else [])) ∧
    (let s : State := upC (cP (jW 4 (ja 0 2 5)) { co1 with loops := [{ outerLc := 1, start := 2, finish := 7 }] }); let k : Fin 64 := 1; let j : JArgs := ja 0 2 5; let c : Core := cP (jW 4 (ja 0 2 5)) { co1 with loops := [{ outerLc := 1, start := 2, finish := 7 }] }; let i : Instr := .dolc 1 (ja 0 2 5); s.core k.val = c ∧ c.runs 3 = true ∧ s.due k = i ∧ j.finish ≤ c.pc ∧ (c.loops.head?.all (fun m => m.finish != c.pc)) = true ∧ i ∈ [Instr.doLoop k j, .dolc k j]) ∧
    (let s : State := upC (cP (pW 0 (pa 0 1 (mv false 0 0))) { co1 with loops := lv 1 }); let k : Fin 64 := 1; let c : Core := cP (pW 0 (pa 0 1 (mv false 0 0))) { co1 with loops := lv 1 }; let f : PArgs := pa 0 1 (mv false 0 0); let l : LoopLevel := { outerLc := 4, start := 2, finish := 5 }; s.core k.val = c ∧ c.runs 3 = true ∧ s.due k = .nop k f ∧ f.x.code = 0 ∧ f.y.code = 0 ∧ c.loops = [l] ∧ l.finish = c.pc ∧ c.lc ≠ 1) ∧
    (let s : State := upC (cP (pW 0 (pa 0 1 (mv false 0 0))) { co1 with loops := lv 1, lc := 1 }); let k : Fin 64 := 1; let c : Core := cP (pW 0 (pa 0 1 (mv false 0 0))) { co1 with loops := lv 1, lc := 1 }; let f : PArgs := pa 0 1 (mv false 0 0); let l : LoopLevel := { outerLc := 4, start := 2, finish := 5 }; s.core k.val = c ∧ c.runs 3 = true ∧ s.due k = .nop k f ∧ f.x.code = 0 ∧ f.y.code = 0 ∧ c.loops = [l] ∧ l.finish = c.pc ∧ c.lc = 1) ∧
    (let s : State := upC (cP (jW 0 (ja 0 2 5)) { co1 with loops := lv 1 }); let k : Fin 64 := 1; let j : JArgs := ja 0 2 5; let c : Core := cP (jW 0 (ja 0 2 5)) { co1 with loops := lv 1 }; let l : LoopLevel := { outerLc := 4, start := 2, finish := 5 }; s.core k.val = c ∧ c.runs 3 = true ∧ s.due k = .jmp k j ∧ condHolds c j.cond.val = true ∧ c.loops = [l] ∧ l.finish = c.pc) ∧
    (let s : State := upC (cP (jW 5 (ja 0 2 5)) { co1 with loops := { outerLc := 4, start := 2, finish := 5 } :: lv7, lc := 1 }); let k : Fin 64 := 1; let j : JArgs := ja 0 2 5; let c : Core := cP (jW 5 (ja 0 2 5)) { co1 with loops := { outerLc := 4, start := 2, finish := 5 } :: lv7, lc := 1 }; let l : LoopLevel := { outerLc := 4, start := 2, finish := 5 }; s.core k.val = c ∧ c.runs 3 = true ∧ s.due k = .brklp k j ∧ condHolds c j.cond.val = true ∧ c.loops ≠ [] ∧ l = c.loops.headD l ∧ (c.loops.tail.head?.all (fun m => m.finish != c.pc)) = true) ∧
    (let s : State := upC (cP (jW 6 (ja 0 2 5)) co1); let k : Fin 64 := 1; let j : JArgs := ja 0 2 5; let c : Core := cP (jW 6 (ja 0 2 5)) co1; s.core k.val = c ∧ c.runs 3 = true ∧ s.due k = .tend k j ∧ condHolds c j.cond.val = true ∧ (c.loops.head?.all (fun m => m.finish != c.pc)) = true) := by
  decide +kernel

/-- The hypotheses of FullerTransfersAndHost are met, clause by clause. -/
theorem witness_FullerTransfersAndHost :
    (let s : State := upC (cP (kW 0 9) co1); let k : Fin 64 := 1; let v : W32 := 9; let c : Core := cP (kW 0 9) co1; s.core k.val = c ∧ c.runs 1 = true ∧ s.due k = .kImmediate k 0 v ∧ c.loops = []) ∧
    (let s : State := upC (cP (kW 7 9) co1); let k : Fin 64 := 1; let d : Fin 64 := 7; let v : W32 := 9; let c : Core := cP (kW 7 9) co1; let j : Fin 4 := 3; s.core k.val = c ∧ c.runs 1 = true ∧ s.due k = .kImmediate k d v ∧ d.val = 4 + j.val) ∧
    (let s : State := upC (cP (kW 8 9) co1); let k : Fin 64 := 1; let d : Fin 64 := 8; let v : W32 := 9; let c : Core := cP (kW 8 9) co1; let j : Fin 4 := 0; s.core k.val = c ∧ c.runs 1 = true ∧ s.due k = .kImmediate k d v ∧ d.val = 8 + j.val) ∧
    (let s : State := upC (cP (kW 13 0x80000000) co1); let k : Fin 64 := 1; let d : Fin 64 := 13; let v : W32 := 0x80000000; let c : Core := cP (kW 13 0x80000000) co1; let j : Fin 4 := 1; s.core k.val = c ∧ c.runs 1 = true ∧ s.due k = .kImmediate k d v ∧ d.val = 12 + j.val) ∧
    (let s : State := upC (cP (kW 18 0x80007FFF) co1); let k : Fin 64 := 1; let d : Fin 64 := 18; let v : W32 := 0x80007FFF; let c : Core := cP (kW 18 0x80007FFF) co1; s.core k.val = c ∧ c.runs 1 = true ∧ s.due k = .kImmediate k d v ∧ 16 ≤ d.val ∧ d.val < 24) ∧
    (let s : State := upC (cP (kW 31 0x80007FFF) co1); let k : Fin 64 := 1; let d : Fin 64 := 31; let v : W32 := 0x80007FFF; let c : Core := cP (kW 31 0x80007FFF) co1; s.core k.val = c ∧ c.runs 1 = true ∧ s.due k = .kImmediate k d v ∧ 24 ≤ d.val ∧ d.val < 32) ∧
    (let s : State := upC (cP (kW 39 0xC0003FFF) co1); let k : Fin 64 := 1; let d : Fin 64 := 39; let v : W32 := 0xC0003FFF; let c : Core := cP (kW 39 0xC0003FFF) co1; s.core k.val = c ∧ c.runs 1 = true ∧ s.due k = .kImmediate k d v ∧ 32 ≤ d.val ∧ d.val < 40 ∧ rgMode v = 0 ∧ rgLen v ≤ 16384) ∧
    (let s : State := upC (cP (kW 34 0xC0007FFF) co1); let k : Fin 64 := 1; let d : Fin 64 := 34; let v : W32 := 0xC0007FFF; let c : Core := cP (kW 34 0xC0007FFF) co1; s.core k.val = c ∧ c.runs 1 = true ∧ s.due k = .kImmediate k d v ∧ 32 ≤ d.val ∧ d.val < 40 ∧ rgMode v = 1 ∧ 0 < rgLen v ∧ rgLen v ≤ 16384 ∧ (spGet 0 c.pt (d.val - 32)).toNat < rgBase v) ∧
    (let s : State := upC (cP (kW 0x31 0xC0007FFF) co1); let k : Fin 64 := 1; let v : W32 := 0xC0007FFF; let c : Core := cP (kW 0x31 0xC0007FFF) co1; s.core k.val = c ∧ c.runs 1 = true ∧ s.due k = .kImmediate k 0x31 v ∧ c.loops = []) ∧
    (let s : State := upC (cP (kW 0x32 0xFFFFFFFF) co1); let k : Fin 64 := 1; let v : W32 := 0xFFFFFFFF; let c : Core := cP (kW 0x32 0xFFFFFFFF) co1; s.core k.val = c ∧ c.runs 1 = true ∧ s.due k = .kImmediate k 0x32 v) ∧
    (let s : State := upC (cP (kW 0x33 0xFFFFFFFF) co1); let k : Fin 64 := 1; let d : Fin 64 := 0x33; let v : W32 := 0xFFFFFFFF; let c : Core := cP (kW 0x33 0xFFFFFFFF) co1; s.core k.val = c ∧ c.runs 1 = true ∧ s.due k = .kImmediate k d v ∧ ((0x28 ≤ d.val ∧ d.val ≤ 0x30) ∨ 0x33 ≤ d.val) ∧ c.loops = []) ∧
    (let s : State := upC (cP (tW 0x12 0x32) co1); let k : Fin 64 := 1; let d : Fin 64 := 0x12; let src : Fin 64 := 0x32; let v : W32 := co1.csr; let c : Core := cP (tW 0x12 0x32) co1; s.core k.val = c ∧ c.runs 1 = true ∧ s.due k = .tTransfer k d src ∧ ((src = 0 ∧ v = c.x0) ∨ (src = 0x31 ∧ v = w32 c.lc.toNat) ∨ (src = 0x32 ∧ v = c.csr) ∨ (src = 0x33 ∧ v = s.tickLo))) ∧
    (let s : State := upC (cP (tW 0 12) co1); let k : Fin 64 := 1; let d : Fin 64 := 12; let c : Core := cP (tW 0 12) co1; let j : Fin 4 := 0; s.core k.val = c ∧ c.runs 1 = true ∧ s.due k = .tTransfer k 0 d ∧ d.val = 12 + j.val) ∧
    (let s : State := upC (cP (tW 0 0x37) co1); let k : Fin 64 := 1; let d : Fin 64 := 0x37; let c : Core := cP (tW 0 0x37) co1; let j : Fin 4 := 3; s.core k.val = c ∧ c.runs 1 = true ∧ s.due k = .tTransfer k 0 d ∧ d.val = 0x34 + j.val) ∧
    (let s : State := upC (cP (tW 0 0x30) co1); let k : Fin 64 := 1; let d : Fin 64 := 0x30; let c : Core := cP (tW 0 0x30) co1; s.core k.val = c ∧ c.runs 1 = true ∧ s.due k = .tTransfer k 0 d ∧ ((0x28 ≤ d.val ∧ d.val ≤ 0x30) ∨ 0x38 ≤ d.val)) ∧
    (let s : State := upC (cP (0x80F0000000000000) co1); let k : Fin 64 := 1; let c : Core := cP (0x80F0000000000000) co1; let w : W64 := 0x80F0000000000000; s.core k.val = c ∧ c.runs 1 = true ∧ s.due k = .reservedEncoding k w ∧ (0xB000000000000000 ≤ w.toNat ∨ (w.toNat / 2 ^ 60 = 8 ∧ 7 ≤ w.toNat / 2 ^ 52 % 16)) ∧ c.loops = []) ∧
    (let s : State := upC (cP (0x2C00000000000000) co1); let k : Fin 64 := 1; let c : Core := cP (0x2C00000000000000) co1; let w : W64 := 0x2C00000000000000; s.core k.val = c ∧ c.runs 1 = true ∧ s.due k = .reservedEncoding k w ∧ w.toNat / 2 ^ 63 = 0 ∧ 0x16 ≤ w.toNat / 2 ^ 57 % 64 ∧ w.toNat / 2 ^ 35 % 16 = 0 ∧ w.toNat / 2 ^ 15 % 16 = 0 ∧ c.loops = []) ∧
    (let s : State := upC co1; let k : Fin 64 := 1; let c : Core := co1; let off : Nat := 0xFFFF; s.core k.val = c ∧ c.runs 1 = true ∧ s.hostUp = true ∧ s.underTest 1 = false ∧ off < 0x10000 ∧ heldX (s.coreInfo k.val) off = false) ∧
    (let s : State := upC co1; let k : Fin 64 := 1; let c : Core := co1; let off : Nat := 16; s.core k.val = c ∧ c.runs 1 = true ∧ s.hostUp = true ∧ s.underTest 1 = false ∧ off < 0x10000 ∧ (off < (s.coreInfo k.val).setOff ∨ (s.coreInfo k.val).setOff + 2 * (s.coreInfo k.val).setLen ≤ off)) ∧
    (let s : State := upC co1; let k : Fin 64 := 1; let hit : WriteHit := { collide := true, ecc := none }; let c : Core := co1; let off : Nat := 16; s.core k.val = c ∧ c.runs 1 = true ∧ s.hostUp = true ∧ s.underTest 1 = false ∧ off < 0x10000 ∧ heldX (s.coreInfo k.val) off = false ∧ hit.collide = true) ∧
    (let s : State := upC co1; let k : Fin 64 := 1; let c : Core := co1; let off : Nat := 16; s.core k.val = c ∧ c.runs 1 = true ∧ s.hostUp = true ∧ s.underTest 1 = false ∧ off < 0x10000) := by
  decide +kernel

/-! ### The frame tick (R15 to R34) -/

/-- The module with network time qualified, a realignment so far. -/
def upQT (left : Nat) : State := { up with tim := { up.tim with qualified := true, now := 1000000000 }, sys := { up.sys with realignLeft := left }, clk := { up.clk with epochValid := true } }
/-- A module whose core 33 still works. -/
def upO : State := { up with cores := [(33, { coreInit with active := true, pc := 17, len := 20 })] }

/-- The hypotheses of TickRealignmentOverrun are met, clause by clause. -/
theorem witness_TickRealignmentOverrun :
    (let s : State := up; s.sys.mediaRun = true ∧ s.sys.phase = .running ∧ s.sys.realignReq = false ∧ s.sys.realignLeft = 0 ∧ s.twn.role = .alone ∧ s.ledger.entries = [] ∧ s.img.phase = .idle ∧ s.pwd.stage = .none) ∧
    (let s : State := { up with sys := { up.sys with mediaRun := false } }; s.sys.mediaRun = false ∧ s.sys.phase = .running) ∧
    (let s : State := upQT 0; let v : W32 := 0xA1C7; s.hostUp = true ∧ s.class1 = true ∧ s.tim.qualified = true ∧ v = 0xA1C7) ∧
    (let s : State := upQT 0; let v : W32 := 0xA1C6; s.hostUp = true ∧ s.class1 = true ∧ v ≠ 0xA1C7) ∧
    (let s : State := up; let v : W32 := 0xA1C7; s.hostUp = true ∧ s.class1 = true ∧ s.tim.qualified = false ∧ v = 0xA1C7) ∧
    (let s : State := { upQT 0 with prs := resetPrs }; s.hostUp = true ∧ s.class1 = false) ∧
    (let s : State := upQT 6; s.sys.mediaRun = true ∧ s.sys.realignLeft = 6 ∧ s.sys.realignLoaded = false ∧ s.tim.qualified = true) ∧
    (let s : State := upQT 1; s.sys.mediaRun = true ∧ s.sys.realignLeft = 1 ∧ s.clk.epochValid = true) ∧
    (let s : State := upO; let k : Fin 64 := 33; (s.core k.val).active = true ∧ (s.core k.val).tended = false ∧ (s.core k.val).overran = false ∧ (s.core k.val).dead = false) := by
  decide +kernel

/-! ### Block images (R84 to R114) -/

/-- A module with a running load or graft in slot 3, two DRAM ranks, and an image that runs. -/
def img1 : Image := { img0 with generation := 7, structure' := { (default : Structure) with live := { (default : ParamBank) with gains := [(5, 9)] } }, progs := [(0x20, [1, 2])], datas := [(5, 0, 8, [1, 2])] }
def upW (kind : Byte) (args : List W32) (p : ImgSt) : State :=
  { (up.setSlot 3 { idleSlot with kind := kind, st := .running, args := args, granted := true, order := 1 }) with dram := { up.dram with ranksW := 2 }, img := p }
def imgs : ImgSt := { resetImg with running := some img0 }
/-- The same in a pair. -/
def upWP (kind : Byte) (p : ImgSt) (r : Role) (susp : Bool) : State :=
  { upW kind [0, 0, 0, 5] p with twn := { up.twn with role := r, paired := true, linkUp := true, partnerStep := true, suspended := susp } }
def cp0 : StateCopy := { tick := 0, session := 0, acc := 0, exe := 0, records := [], dram := [], pool := [], cores := [], canopy := { up.canopy with swapTick := 5 }, graph := up.graph, ports := [], streams := [], regs := [], mib := 6 }

/-- The hypotheses of ImagePhase1 are met, clause by clause. -/
theorem witness_ImagePhase1 :
    (let s : State := upW 1 [0, 0, 0, 0] imgs; let k : Fin 16 := 3; (s.slot k.val).st = .running ∧ (s.slot k.val).kind = 1 ∧ (s.slot k.val).fin = none ∧ s.dram.frozen = false ∧ s.img.slot = none ∧ s.img.phase = .idle ∧ s.pairLoads = false ∧ (s.slot k.val).abortReq = false ∧ fld ((s.slot k.val).arg 0) 3 0 = 0) ∧
    (let s : State := upW 1 [0, 0, 0, 0] imgs; let k : Fin 16 := 3; (s.slot k.val).st = .running ∧ (s.slot k.val).kind = 1 ∧ (s.slot k.val).fin = none ∧ s.dram.frozen = false ∧ s.img.slot = none ∧ s.img.phase = .idle ∧ s.pairLoads = false ∧ (s.slot k.val).abortReq = false ∧ (s.slot k.val).granted = true ∧ fld ((s.slot k.val).arg 0) 3 0 = 0 ∧ 16777216 ≤ s.dramSize) ∧
    (let s : State := upW 1 [0, 0, 0, 0] imgs; let k : Fin 16 := 3; let bytes : List Byte := [0x48, 0x56, 0x42, 0x48]; (s.slot k.val).st = .running ∧ (s.slot k.val).kind = 1 ∧ (s.slot k.val).fin = none ∧ s.dram.frozen = false ∧ s.img.slot = none ∧ s.img.phase = .idle ∧ s.pairLoads = false ∧ (s.slot k.val).abortReq = false ∧ fld ((s.slot k.val).arg 0) 3 0 = 0 ∧ 4 ≤ bytes.length ∧ bytes.take 4 ≠ [0x48, 0x56, 0x42, 0x49] ∧ 16777216 ≤ s.dramSize) ∧
    (let s : State := (upW 1 [0, 0, 0, 0] imgs).modSlot 3 (fun j => { j with abortReq := true }); let k : Fin 16 := 3; (s.slot k.val).st = .running ∧ (s.slot k.val).kind = 1 ∧ (s.slot k.val).fin = none ∧ s.dram.frozen = false ∧ s.img.slot = none ∧ s.img.phase = .idle ∧ (s.slot k.val).abortReq = true) ∧
    (let s : State := upW 1 [2, 0, 0, 0] imgs; let k : Fin 16 := 3; (s.slot k.val).st = .running ∧ (s.slot k.val).kind = 1 ∧ (s.slot k.val).fin = none ∧ s.dram.frozen = false ∧ s.img.slot = none ∧ s.img.phase = .idle ∧ s.pairLoads = false ∧ s.pcie = true ∧ fld ((s.slot k.val).arg 0) 3 0 = 2) ∧
    (let s : State := upWP 1 { imgs with slot := some 3, phase := .reported, staged := some img1 } .active false; let k : Fin 16 := 3; let ss : List Byte := img1.ssig; let fp : List Byte := img1.fprint; let i : Image := img1; (s.slot k.val).st = .running ∧ (s.slot k.val).kind = 1 ∧ (s.slot k.val).fin = none ∧ s.dram.frozen = false ∧ s.img.slot = some k.val ∧ s.img.phase = .reported ∧ s.img.staged = some i ∧ s.twn.linkUp = true ∧ s.twn.role = .active ∧ ss = i.ssig ∧ fp = i.fprint) ∧
    (let s : State := upWP 1 { imgs with slot := some 3, phase := .reported, staged := some img1, partnerCode := some 0, ssig1 := img1.ssig, fprint1 := img1.fprint } .standby false; let k : Fin 16 := 3; let i : Image := img1; (s.slot k.val).st = .running ∧ (s.slot k.val).kind = 1 ∧ (s.slot k.val).fin = none ∧ s.dram.frozen = false ∧ s.img.slot = some k.val ∧ s.img.phase = .reported ∧ s.img.staged = some i ∧ s.img.partnerCode = some 0 ∧ s.img.ssig1 = i.ssig ∧ s.img.fprint1 = i.fprint ∧ s.twn.linkUp = true ∧ s.twn.role = .standby) ∧
    (let s : State := upWP 1 { imgs with slot := some 3, phase := .reported, staged := some img1 } .active false; let k : Fin 16 := 3; let code : Byte := 0x46; let i : Image := img1; (s.slot k.val).st = .running ∧ (s.slot k.val).kind = 1 ∧ (s.slot k.val).fin = none ∧ s.dram.frozen = false ∧ s.img.slot = some k.val ∧ s.img.phase = .reported ∧ s.img.staged = some i ∧ s.twn.linkUp = true ∧ code ≠ 0) ∧
    (let s : State := upWP 1 { imgs with slot := some 3, phase := .reported, staged := some img1 } .active false; let k : Fin 16 := 3; let ss : List Byte := [99]; let i : Image := img1; (s.slot k.val).st = .running ∧ (s.slot k.val).kind = 1 ∧ (s.slot k.val).fin = none ∧ s.dram.frozen = false ∧ s.img.slot = some k.val ∧ s.img.phase = .reported ∧ s.img.staged = some i ∧ s.twn.linkUp = true ∧ ss ≠ i.ssig) := by
  decide +kernel

/-- The hypotheses of ImagePhase2 are met, clause by clause. -/
theorem witness_ImagePhase2 :
    (let s : State := (fun x : State => { x with sys := { x.sys with mediaRun := false } }) (upW 1 [0, 0, 0, 0] { imgs with slot := some 3, phase := .stopping 1000, staged := some img1, stagedSrc := 2 }); let i : Image := img1; let n : Nat := 1000; s.sys.mediaRun = false ∧ s.img.staged = some i ∧ s.img.phase = .stopping n ∧ i.reginit = []) ∧
    (let s : State := (fun x : State => { x with sys := { x.sys with mediaRun := false } }) (upW 1 [0, 0, 0, 0] { imgs with slot := some 3, phase := .distributed, running := some img1 }); let i : Image := img1; let k : Fin 16 := 3; s.img.phase = .distributed ∧ s.img.running = some i ∧ s.img.heldEnables = [] ∧ s.img.slot = some k.val) ∧
    (let s : State := upW 3 [] { resetImg with bgLoad := true }; s.img.bgLoad = true ∧ s.sys.ready = true ∧ s.img.running = none ∧ s.img.phase = .idle) ∧
    (let s : State := upW 3 [] { resetImg with bgLoad := true }; let bytes : Option (List Byte) := none; s.img.bgLoad = true ∧ s.sys.ready = true ∧ s.img.running = none ∧ s.img.phase = .idle ∧ bytes = none) := by
  decide +kernel

/-- The hypotheses of Graft are met, clause by clause. -/
theorem witness_Graft :
    (let s : State := upWP 2 imgs .active false; let o : Image := img0; let k : Fin 16 := 3; (s.slot k.val).st = .running ∧ (s.slot k.val).kind = 2 ∧ (s.slot k.val).fin = none ∧ (s.slot k.val).abortReq = false ∧ s.dram.frozen = false ∧ s.img.slot = none ∧ s.img.phase = .idle ∧ fld ((s.slot k.val).arg 0) 3 0 = 0 ∧ 16777216 ≤ s.dramSize ∧ s.img.partnerCode = none ∧ s.bit IMG_TRUST_CTL 0 = false ∧ s.img.running = some o) ∧
    (let s : State := upWP 2 { imgs with slot := some 3, phase := .graftT1 1001, staged := some img1, oldImage := some img0 } .active false; let i : Image := img1; s.img.phase = .graftT1 (s.tickN + 1) ∧ s.twn.suspended = false ∧ s.img.staged = some i ∧ s.twn.linkUp = true ∧ s.twn.role = .active ∧ s.twn.partnerStep = true) ∧
    (let s : State := upWP 2 { imgs with slot := some 3, phase := .graftT1 1001, staged := some img1, oldImage := some img0 } .standby false; let i : Image := img1; s.img.phase = .graftT1 (s.tickN + 1) ∧ s.twn.suspended = false ∧ s.img.staged = some i ∧ s.twn.linkUp = true ∧ s.twn.role = .standby ∧ i.reginit = []) ∧
    (let s : State := upWP 2 { imgs with slot := some 3, phase := .graftT1 1001, staged := some img1, oldImage := some img0 } .active true; let i : Image := img1; let k : Fin 16 := 3; let n : Nat := 1001; s.img.phase = .graftT1 n ∧ s.img.slot = some k.val ∧ s.img.staged = some i ∧ s.twn.suspended = true ∧ s.twn.linkUp = true ∧ s.twn.role = .active) ∧
    (let s : State := upWP 2 { imgs with slot := some 3, phase := .graftT1 1001, staged := some img1, oldImage := some img0 } .grafting true; let i : Image := img1; let o : Image := img0; let k : Fin 16 := 3; let n : Nat := 1001; s.img.phase = .graftT1 n ∧ s.img.slot = some k.val ∧ s.img.staged = some i ∧ s.twn.suspended = true ∧ s.twn.linkUp = true ∧ s.twn.role = .grafting ∧ s.img.oldImage = some o) ∧
    (let s : State := upWP 2 { imgs with slot := some 3, phase := .graftCopied 1001, staged := some img1, oldImage := some img0 } .grafting true; let i : Image := img1; let k : Fin 16 := 3; s.img.phase = .graftCopied (s.tickN + 1) ∧ s.img.slot = some k.val ∧ s.img.staged = some i ∧ s.twn.role = .grafting ∧ s.sys.mediaRun = true) ∧
    (let s : State := upWP 2 { imgs with slot := some 3, phase := .graftCopied 1001, staged := some img1, oldImage := some img0 } .active true; let i : Image := img1; let k : Fin 16 := 3; s.img.phase = .graftCopied (s.tickN + 1) ∧ s.img.slot = some k.val ∧ s.img.staged = some i ∧ s.twn.role = .active ∧ s.sys.mediaRun = true ∧ i.reginit = []) := by
  decide +kernel

/-! ### Signal graph and ring store (R115 to R139) -/

/-- An image with two selectors (plain and priority), two delay lines, two voices and a recorder channel. -/
def stG : Structure := { (default : Structure) with
  selectors := [{ priority := false, outSide := false, target := 3, cands := [{ src := .strip 1, gate := .always, en := true, pri := 0 }, { src := .strip 2, gate := .always, en := true, pri := 0 }], idle := none, fade := 1 },
                { priority := true, outSide := false, target := 4, cands := [{ src := .strip 1, gate := .always, en := true, pri := 0 }], idle := none, fade := 1 }],
  lines := [{ src := 0, base := 0x3000000, size := 8, len := 4, delay := 16 }, { src := 1, base := 0x3010000, size := 8, len := 4, delay := 16 }], voices := 2, clipBase := 0x4000000, clipSize := 0x200000,
  recs := [{ src := .mo 1, format := 2, gate := .always, base := 0x5000000, size := 1024 }] }
/-- The module that runs it. -/
def upGr : State := { up with img := { up.img with running := some { img0 with structure' := stG } } }
/-- A delay line in its crossfade's last tick, with a delay that waits. -/
def upLn (d : Nat) (w : Option Nat) : State := upGr.setLine 1 { noLine with len := 4, delay := d, fadeLen := 2, fadeLeft := 1, want := w }
/-- The same line without a crossfade. -/
def upLn0 (d : Nat) (w : Option Nat) : State := upGr.setLine 1 { noLine with len := 4, delay := d, fadeLen := 2, fadeLeft := 0, want := w }
/-- A play and an announcement of priority p and number n. -/
def annc (p n : Nat) : Announce := { clip := 1, pri := p, id := 7, repeats := 0, seq := n }
def playA (pos left : Nat) : Play := { ann := annc 2 1, addr := 0x4100000, length := 40, format := 0, pos := pos, left := left, stopping := false }
def vx (q : List Announce) (p : Option Play) : Voice := { idleVoice with queue := q, play := p }
def ann5 (a0 : W32) : LedgerEntry := ent 5 1001 3 [a0, 7, 0] true
/-- A voice, a clip entry in DRAM and an ANNOUNCE that is due. -/
def upV (v : Nat) (x : Voice) (a0 : W32) : State := { (upGr.setVoice v x) with ledger := { up.ledger with entries := [ann5 a0] }, dram := { up.dram with mem := [(0x4000012, 0x10), (0x4000013, 4), (0x4000018, 40)] } }
def clip1 : List Byte := [0, 0, 0x10, 4, 0, 0, 0, 0, 40, 0, 0, 0, 0, 0, 0, 0]
/-- A recorder channel whose segment has run. -/
def recR (tk : Nat) (g : Bool) : Recorder := { noRecorder with ticks := tk, firstTick := 900, gated := g, flagged := true, buf := [1], segs := [{ tick := 1, off := 0, len := 336 }, { tick := 31, off := 336, len := 336 }, { tick := 61, off := 672, len := 336 }], nextOff := 1008 }
def upRc (r : Recorder) (from' : W32) : State := (upGr.setRecorder 0 r).setSlot 2 { idleSlot with kind := 9, st := .queued, args := [0, from', 0x1000, 1], order := 3 }

/-- The hypotheses of SelectorsAndDelays are met, clause by clause. -/
theorem witness_SelectorsAndDelays :
    (let s : State := upGr; let v : W32 := 0x801; let i : SelInfo := stG.selectors.headD default; let k : Nat := 0; s.hostUp = true ∧ k = fld v 26 16 ∧ s.selInfo k = some i ∧ i.priority = false ∧ fld v 3 0 < i.cands.length) ∧
    (let s : State := upGr; let v : W32 := 0x20000; let i : SelInfo := stG.selectors.headD default; s.hostUp = true ∧ (s.selInfo (fld v 26 16) = none ∨ (s.selInfo (fld v 26 16) = some i ∧ (i.priority = true ∨ i.cands.length ≤ fld v 3 0)))) ∧
    (let s : State := upGr; let v : W32 := 0x10015; let i : SelInfo := (stG.selectors.drop 1).headD default; let k : Nat := 1; s.hostUp = true ∧ k = fld v 26 16 ∧ s.selInfo k = some i ∧ i.priority = true ∧ fld v 11 8 < i.cands.length ∧ s.class1 = true ∧ s.locked .grf = false) ∧
    (let s : State := upGr; let v : W32 := 0x15; let i : SelInfo := stG.selectors.headD default; s.hostUp = true ∧ s.class1 = true ∧ s.locked .grf = false ∧ (s.selInfo (fld v 26 16) = none ∨ (s.selInfo (fld v 26 16) = some i ∧ (i.priority = false ∨ i.cands.length ≤ fld v 11 8)))) ∧
    (let s : State := upGr.wr GRF_LOCK 1; s.hostUp = true ∧ s.class1 = true ∧ s.locked .grf = true) ∧
    (let s : State := { upGr with prs := resetPrs }; s.hostUp = true ∧ s.class1 = false) ∧
    (let s : State := upGr.setSel 1 { noSel with fadeLeft := 1, fadeLen := 3 }; let k : Nat := 1; s.hostUp = true ∧ (s.sel k).fadeLeft = 1 ∧ (s.sel k).fresh = false) ∧
    (let s : State := upGr; let v : W32 := 0x100020; let k : Nat := 1; s.hostUp = true ∧ k = fld v 31 20 ∧ k < s.struct.lines.length) ∧
    (let s : State := upGr; let v : W32 := 0x200020; s.hostUp = true ∧ s.struct.lines.length ≤ fld v 31 20) ∧
    (let s : State := upGr; let v : W32 := 0x100008; let l : LineInfo := (stG.lines.drop 1).headD default; let k : Nat := 1; s.hostUp = true ∧ k = fld v 31 20 ∧ s.lineInfo k = some l ∧ 2 ≤ fld v 15 0 ∧ fld v 15 0 ≤ l.size) ∧
    (let s : State := upGr; let v : W32 := 0x100009; let l : LineInfo := (stG.lines.drop 1).headD default; s.hostUp = true ∧ s.lineInfo (fld v 31 20) = some l ∧ (fld v 15 0 < 2 ∨ l.size < fld v 15 0)) ∧
    (let s : State := upLn 16 none; let k : Nat := 1; let x : LineState := { noLine with len := 4, delay := 16, fadeLen := 2, fadeLeft := 1 }; s.hostUp = true ∧ s.line k = x ∧ x.fadeLeft = 1) ∧
    (let s : State := upLn0 16 (some 48); let k : Nat := 1; let n : Nat := 48; let x : LineState := { noLine with len := 4, delay := 16, fadeLen := 2, fadeLeft := 0, want := some 48 }; s.hostUp = true ∧ s.line k = x ∧ x.fadeLeft = 0 ∧ x.want = some n ∧ x.wantLen = none ∧ n ≠ x.delay ∧ s.tickLen ≤ n ∧ n ≤ x.len * s.tickLen - s.tickLen) ∧
    (let s : State := upLn0 16 (some 1); let k : Nat := 1; let n : Nat := 1; let x : LineState := { noLine with len := 4, delay := 16, fadeLen := 2, fadeLeft := 0, want := some 1 }; s.hostUp = true ∧ s.line k = x ∧ x.fadeLeft = 0 ∧ x.want = some n ∧ x.wantLen = none ∧ x.delay = s.tickLen ∧ 0 < n ∧ n < s.tickLen) ∧
    (let s : State := upLn 16 none; let k : Nat := 1; let x : LineState := { noLine with len := 4, delay := 16, fadeLen := 2, fadeLeft := 1 }; s.hostUp = true ∧ s.line k = x ∧ 0 < x.fadeLeft ∧ x.wantLen = none) := by
  decide +kernel

/-- The hypotheses of MessagePlayers are met, clause by clause. -/
theorem witness_MessagePlayers :
    (let s : State := upV 1 (vx [annc 3 4, annc 4 3] (some (playA 8 0))) 0xC010001; let e : LedgerEntry := ann5 0xC010001; let v : Nat := 1; let x : Voice := vx [annc 3 4, annc 4 3] (some (playA 8 0)); let p : Play := playA 8 0; let a : Announce := annc 3 5; let q1 : List Announce := [annc 3 4]; let q2 : List Announce := [annc 4 3]; let a0 : W32 := 0xC010001; let a1 : W32 := 7; let a2 : W32 := 0; s.voice v = x ∧ v = fld a0 25 16 ∧ a = { clip := fld a0 15 0, pri := fld a0 29 26, id := a1, repeats := fld a2 15 0, seq := e.seq } ∧ e.op = 3 ∧ e.args = [a0, a1, a2] ∧ s.tickN + 1 ≤ e.tick ∧ s.sys.mediaRun = true ∧ s.sys.phase = .running ∧ s.dram.frozen = false ∧ s.dram.poison = [] ∧ s.hostUp = true ∧ firstDue s.ledger.entries (s.tickN + 1) = some e ∧ v < s.struct.voices ∧ fld a0 31 30 = 0 ∧ fld a2 31 16 = 0 ∧ x.queue.length < 32 ∧ x.play = some p ∧ x.queue = q1 ++ q2 ∧ ((∀ q ∈ q1, q.pri < a.pri ∨ (q.pri = a.pri ∧ q.seq ≤ a.seq))) ∧ ((∀ q ∈ q2, a.pri < q.pri ∨ (a.pri = q.pri ∧ a.seq < q.seq)))) ∧
    (let s : State := upV 1 (vx [] none) 0xC010001; let e : LedgerEntry := ann5 0xC010001; let v : Nat := 1; let x : Voice := vx [] none; let a : Announce := annc 3 5; let bs : List Byte := clip1; let a0 : W32 := 0xC010001; let a1 : W32 := 7; let a2 : W32 := 0; s.voice v = x ∧ v = fld a0 25 16 ∧ a = { clip := fld a0 15 0, pri := fld a0 29 26, id := a1, repeats := fld a2 15 0, seq := e.seq } ∧ e.op = 3 ∧ e.args = [a0, a1, a2] ∧ s.tickN + 1 ≤ e.tick ∧ s.sys.mediaRun = true ∧ s.sys.phase = .running ∧ s.dram.frozen = false ∧ s.dram.poison = [] ∧ s.hostUp = true ∧ firstDue s.ledger.entries (s.tickN + 1) = some e ∧ v < s.struct.voices ∧ fld a0 31 30 = 0 ∧ fld a2 31 16 = 0 ∧ x.queue = [] ∧ x.play = none ∧ bs = s.dramPeek (s.struct.clipBase + 16 * a.clip) 16 ∧ clipValid s.struct bs = true) ∧
    (let s : State := { upV 1 (vx [] none) 0xC010001 with dram := up.dram }; let e : LedgerEntry := ann5 0xC010001; let v : Nat := 1; let x : Voice := vx [] none; let a : Announce := annc 3 5; let a0 : W32 := 0xC010001; let a1 : W32 := 7; let a2 : W32 := 0; s.voice v = x ∧ v = fld a0 25 16 ∧ a = { clip := fld a0 15 0, pri := fld a0 29 26, id := a1, repeats := fld a2 15 0, seq := e.seq } ∧ e.op = 3 ∧ e.args = [a0, a1, a2] ∧ s.tickN + 1 ≤ e.tick ∧ s.sys.mediaRun = true ∧ s.sys.phase = .running ∧ s.dram.frozen = false ∧ s.dram.poison = [] ∧ s.hostUp = true ∧ firstDue s.ledger.entries (s.tickN + 1) = some e ∧ v < s.struct.voices ∧ fld a0 31 30 = 0 ∧ fld a2 31 16 = 0 ∧ x.queue = [] ∧ x.play = none ∧ clipValid s.struct (s.dramPeek (s.struct.clipBase + 16 * a.clip) 16) = false) ∧
    (let s : State := upV 1 (vx [] none) 0xC020001; let e : LedgerEntry := ann5 0xC020001; let v : Nat := 2; let x : Voice := idleVoice; let a : Announce := annc 3 5; let a0 : W32 := 0xC020001; let a1 : W32 := 7; let a2 : W32 := 0; s.voice v = x ∧ v = fld a0 25 16 ∧ a = { clip := fld a0 15 0, pri := fld a0 29 26, id := a1, repeats := fld a2 15 0, seq := e.seq } ∧ e.op = 3 ∧ e.args = [a0, a1, a2] ∧ s.tickN + 1 ≤ e.tick ∧ s.sys.mediaRun = true ∧ s.sys.phase = .running ∧ s.dram.frozen = false ∧ s.dram.poison = [] ∧ s.hostUp = true ∧ firstDue s.ledger.entries (s.tickN + 1) = some e ∧ s.struct.voices ≤ v) ∧
    (let s : State := upV 1 (vx (List.replicate 32 (annc 3 4)) none) 0xC010001; let e : LedgerEntry := ann5 0xC010001; let v : Nat := 1; let x : Voice := vx (List.replicate 32 (annc 3 4)) none; let a : Announce := annc 3 5; let a0 : W32 := 0xC010001; let a1 : W32 := 7; let a2 : W32 := 0; s.voice v = x ∧ v = fld a0 25 16 ∧ a = { clip := fld a0 15 0, pri := fld a0 29 26, id := a1, repeats := fld a2 15 0, seq := e.seq } ∧ e.op = 3 ∧ e.args = [a0, a1, a2] ∧ s.tickN + 1 ≤ e.tick ∧ s.sys.mediaRun = true ∧ s.sys.phase = .running ∧ s.dram.frozen = false ∧ s.dram.poison = [] ∧ s.hostUp = true ∧ firstDue s.ledger.entries (s.tickN + 1) = some e ∧ v < s.struct.voices ∧ fld a0 31 30 = 0 ∧ fld a2 31 16 = 0 ∧ 32 ≤ x.queue.length) ∧
    (let s : State := upV 1 (vx [] (some (playA 40 0))) 0xC010001; let e : LedgerEntry := ann5 0xC010001; let v : Nat := 1; let x : Voice := vx [] (some (playA 40 0)); let p : Play := playA 40 0; let a : Announce := annc 3 5; let a0 : W32 := 0xC010001; let a1 : W32 := 7; let a2 : W32 := 0; s.voice v = x ∧ v = fld a0 25 16 ∧ a = { clip := fld a0 15 0, pri := fld a0 29 26, id := a1, repeats := fld a2 15 0, seq := e.seq } ∧ e.op = 3 ∧ e.args = [a0, a1, a2] ∧ s.tickN + 1 ≤ e.tick ∧ s.sys.mediaRun = true ∧ s.sys.phase = .running ∧ s.dram.frozen = false ∧ s.dram.poison = [] ∧ s.hostUp = true ∧ x.play = some p ∧ p.length ≤ p.pos ∧ p.stopping = false ∧ p.left = 0) ∧
    (let s : State := upV 1 (vx [annc 3 5, annc 4 3] none) 0xC010001; let e : LedgerEntry := ann5 0xC010001; let v : Nat := 1; let x : Voice := vx [annc 3 5, annc 4 3] none; let a : Announce := annc 3 5; let q2 : List Announce := [annc 4 3]; let bs : List Byte := clip1; let a0 : W32 := 0xC010001; let a1 : W32 := 7; let a2 : W32 := 0; s.voice v = x ∧ v = fld a0 25 16 ∧ a = { clip := fld a0 15 0, pri := fld a0 29 26, id := a1, repeats := fld a2 15 0, seq := e.seq } ∧ e.op = 3 ∧ e.args = [a0, a1, a2] ∧ s.tickN + 1 ≤ e.tick ∧ s.sys.mediaRun = true ∧ s.sys.phase = .running ∧ s.dram.frozen = false ∧ s.dram.poison = [] ∧ s.hostUp = true ∧ x.play = none ∧ x.queue = a :: q2 ∧ bs = s.dramPeek (s.struct.clipBase + 16 * a.clip) 16 ∧ clipValid s.struct bs = true) ∧
    (let s : State := upV 1 (vx [] (some (playA 40 3))) 0xC010001; let e : LedgerEntry := ann5 0xC010001; let v : Nat := 1; let x : Voice := vx [] (some (playA 40 3)); let p : Play := playA 40 3; let a : Announce := annc 3 5; let a0 : W32 := 0xC010001; let a1 : W32 := 7; let a2 : W32 := 0; s.voice v = x ∧ v = fld a0 25 16 ∧ a = { clip := fld a0 15 0, pri := fld a0 29 26, id := a1, repeats := fld a2 15 0, seq := e.seq } ∧ e.op = 3 ∧ e.args = [a0, a1, a2] ∧ s.tickN + 1 ≤ e.tick ∧ s.sys.mediaRun = true ∧ s.sys.phase = .running ∧ s.dram.frozen = false ∧ s.dram.poison = [] ∧ s.hostUp = true ∧ x.play = some p ∧ p.length ≤ p.pos ∧ p.stopping = false ∧ p.left ≠ 0) ∧
    (let s : State := upV 1 (vx [annc 3 4] (some (playA 8 3))) 0xC010001; let e : LedgerEntry := ann5 0xC010001; let v : Nat := 1; let x : Voice := vx [annc 3 4] (some (playA 8 3)); let p : Play := playA 8 3; let a : Announce := annc 3 5; let a0 : W32 := 0xC010001; let a1 : W32 := 7; let a2 : W32 := 0; s.voice v = x ∧ v = fld a0 25 16 ∧ a = { clip := fld a0 15 0, pri := fld a0 29 26, id := a1, repeats := fld a2 15 0, seq := e.seq } ∧ e.op = 3 ∧ e.args = [a0, a1, a2] ∧ s.tickN + 1 ≤ e.tick ∧ s.sys.mediaRun = true ∧ s.sys.phase = .running ∧ s.dram.frozen = false ∧ s.dram.poison = [] ∧ s.hostUp = true ∧ v < s.struct.voices ∧ x.play = some p ∧ p.stopping = false) ∧
    (let s : State := upV 1 (vx [annc 3 4] (some (playA 8 3))) 0xC010001; let e : LedgerEntry := ann5 0xC010001; let v : Nat := 1; let x : Voice := vx [annc 3 4] (some (playA 8 3)); let a : Announce := annc 3 5; let a0 : W32 := 0xC010001; let a1 : W32 := 7; let a2 : W32 := 0; s.voice v = x ∧ v = fld a0 25 16 ∧ a = { clip := fld a0 15 0, pri := fld a0 29 26, id := a1, repeats := fld a2 15 0, seq := e.seq } ∧ e.op = 3 ∧ e.args = [a0, a1, a2] ∧ s.tickN + 1 ≤ e.tick ∧ s.sys.mediaRun = true ∧ s.sys.phase = .running ∧ s.dram.frozen = false ∧ s.dram.poison = [] ∧ s.hostUp = true ∧ v < s.struct.voices) ∧
    (let s : State := upV 1 (vx [annc 3 4] (some (playA 8 3))) 0xC010001; let e : LedgerEntry := ann5 0xC010001; let v : Nat := 1; let x : Voice := vx [annc 3 4] (some (playA 8 3)); let p : Play := playA 8 3; let a : Announce := annc 3 5; let a0 : W32 := 0xC010001; let a1 : W32 := 7; let a2 : W32 := 0; s.voice v = x ∧ v = fld a0 25 16 ∧ a = { clip := fld a0 15 0, pri := fld a0 29 26, id := a1, repeats := fld a2 15 0, seq := e.seq } ∧ e.op = 3 ∧ e.args = [a0, a1, a2] ∧ s.tickN + 1 ≤ e.tick ∧ s.sys.mediaRun = true ∧ s.sys.phase = .running ∧ s.dram.frozen = false ∧ s.dram.poison = [] ∧ s.hostUp = true ∧ v < s.struct.voices ∧ x.play = some p ∧ p.stopping = false) ∧
    (let s : State := upV 1 (vx [] none) 0xC020001; let e : LedgerEntry := ann5 0xC020001; let v : Nat := 2; let x : Voice := idleVoice; let a : Announce := annc 3 5; let a0 : W32 := 0xC020001; let a1 : W32 := 7; let a2 : W32 := 0; s.voice v = x ∧ v = fld a0 25 16 ∧ a = { clip := fld a0 15 0, pri := fld a0 29 26, id := a1, repeats := fld a2 15 0, seq := e.seq } ∧ e.op = 3 ∧ e.args = [a0, a1, a2] ∧ s.tickN + 1 ≤ e.tick ∧ s.sys.mediaRun = true ∧ s.sys.phase = .running ∧ s.dram.frozen = false ∧ s.dram.poison = [] ∧ s.hostUp = true ∧ s.struct.voices ≤ v) := by
  decide +kernel

/-- The hypotheses of Recorders are met, clause by clause. -/
theorem witness_Recorders :
    (let s : State := upRc (recR 30 true) 0; let c : Nat := 0; let len : Nat := 336; let a : Nat := 0; let i : RecInfo := stG.recs.headD default; let r : Recorder := recR 30 true; s.recInfo c = some i ∧ s.recorder c = r ∧ len = 16 + recPayload i.format s.rate96 ∧ c < 512 ∧ s.dram.frozen = false ∧ s.dram.poison = [] ∧ 30 ≤ r.ticks ∧ r.gated = true ∧ len ≤ i.size ∧ a = (if r.nextOff + len ≤ i.size then r.nextOff else 0)) ∧
    (let s : State := upRc (recR 30 false) 0; let c : Nat := 0; let len : Nat := 336; let i : RecInfo := stG.recs.headD default; let r : Recorder := recR 30 false; s.recInfo c = some i ∧ s.recorder c = r ∧ len = 16 + recPayload i.format s.rate96 ∧ c < 512 ∧ s.dram.frozen = false ∧ s.dram.poison = [] ∧ 30 ≤ r.ticks ∧ r.gated = false) ∧
    (let s : State := upRc (recR 29 false) 0; let c : Nat := 0; let len : Nat := 336; let i : RecInfo := stG.recs.headD default; let r : Recorder := recR 29 false; s.recInfo c = some i ∧ s.recorder c = r ∧ len = 16 + recPayload i.format s.rate96 ∧ c < 512 ∧ s.dram.frozen = false ∧ s.dram.poison = [] ∧ r.ticks < 30) ∧
    (let s : State := upRc { recR 3 false with segs := [{ tick := 31, off := 336, len := 336 }] } 31; let c : Nat := 0; let len : Nat := 336; let g : RecSeg := { tick := 31, off := 336, len := 336 }; let i : RecInfo := stG.recs.headD default; let r : Recorder := { recR 3 false with segs := [{ tick := 31, off := 336, len := 336 }] }; let k : Fin 16 := 2; let host : W64 := 0x100001000; s.recInfo c = some i ∧ s.recorder c = r ∧ len = 16 + recPayload i.format s.rate96 ∧ c < 512 ∧ s.dram.frozen = false ∧ s.dram.poison = [] ∧ (s.slot k.val).st = .queued ∧ (s.slot k.val).kind = 9 ∧ s.engineFree k.val = true ∧ s.graph.dma = none ∧ (s.slot k.val).args = [w32 c, w32 g.tick, lo32 host, hi32 host] ∧ r.segs = [g]) ∧
    (let s : State := upRc { recR 3 false with segs := [] } 31; let c : Nat := 0; let len : Nat := 336; let g : RecSeg := { tick := 31, off := 336, len := 336 }; let i : RecInfo := stG.recs.headD default; let r : Recorder := { recR 3 false with segs := [] }; let k : Fin 16 := 2; let host : W64 := 0x100001000; s.recInfo c = some i ∧ s.recorder c = r ∧ len = 16 + recPayload i.format s.rate96 ∧ c < 512 ∧ s.dram.frozen = false ∧ s.dram.poison = [] ∧ (s.slot k.val).st = .queued ∧ (s.slot k.val).kind = 9 ∧ s.engineFree k.val = true ∧ s.graph.dma = none ∧ (s.slot k.val).args = [w32 c, w32 g.tick, lo32 host, hi32 host] ∧ r.segs = []) := by
  decide +kernel

/-! ### The Canopy and click-free change (R140 to R195) -/

/-- An image with a plain selector, and a scene library. -/
def stC : Structure := { (default : Structure) with sceneBase := 0x6000000, sceneSize := 0x100000, selectors := [{ priority := false, outSide := false, target := 3, cands := [{ src := .strip 1, gate := .always, en := true, pri := 0 }, { src := .strip 2, gate := .always, en := true, pri := 0 }], idle := none, fade := 1 }] }
/-- The module that runs it, with the given flags and pending swaps; one gain differs between the banks. -/
def upCn (r96 : Bool) (fl : Sparse Bool) (ps : List PendSwap) : State := { up with img := { up.img with running := some { img0 with structure' := stC, rate96 := r96 } }, graph := { up.graph with sels := [(0, { noSel with live := some 0, shadowPos := 1, shadowFade := 9, fade := 2 })] }, canopy := { up.canopy with gainShadow := [(70, 0x600)], gainLive := [(70, 0x900), (90, 0x10)], flags := fl, pendSwaps := ps, sclShadow := [(7, 1)], dets := [(5, { isOpen := true, cnt := 1 })] } }
/-- Two crosspoints of one input at the end of their timeout. -/
def upTo : State := { (upCn false [(70, true), (582, true), (583, true)] []) with canopy := { (upCn false [(70, true), (582, true), (583, true)] []).canopy with timedOut := [70, 582, 583] } }
/-- A scene being read, and the module that reads it. -/
def scn (pos tot recs : Nat) (m : Bool) : SceneWork := { slot := 2, mirror := m, pos := pos, records := recs, written := 1, gains := 4, held := 0, firstTick := some 999, lastTick := 0, swapAt := none, torn := false, crc := 5, want := ~~~5, total := tot, recCount := 3 }
def upSc (mode : W32) (fl : Sparse Bool) (w : Option SceneWork) (a : W32) (m : Sparse Byte) : State := { (upCn false fl []).setSlot 2 { idleSlot with kind := 3, st := .running, args := [mode, a, 0, 0], order := 3 } with canopy := { (upCn false fl []).canopy with scene := w }, dram := { up.dram with mem := m } }

/-- The hypotheses of SwapsAndTransitions are met, clause by clause. -/
theorem witness_SwapsAndTransitions :
    (let s : State := upN [ent 5 1001 2 [7, 0, 0] true]; let e : LedgerEntry := ent 5 1001 2 [7, 0, 0] true; let a0 : W32 := 7; let a1 : W32 := 0; let a2 : W32 := 0; firstDue s.ledger.entries (s.tickN + 1) = some e ∧ s.sys.mediaRun = true ∧ s.sys.phase = .running ∧ s.dram.frozen = false ∧ e.op = 2 ∧ e.args = [a0, a1, a2] ∧ s.tickN + 1 ≤ e.tick) ∧
    (let s : State := upCn false [] [⟨3, 0⟩, ⟨4, 9⟩]; let p : PendSwap := ⟨3, 0⟩; let ps : List PendSwap := [⟨4, 9⟩]; s.sys.mediaRun = true ∧ s.sys.phase = .running ∧ s.canopy.pendSwaps = p :: ps ∧ s.canopy.mixEnd.flags = [] ∧ s.plainFading 1 = false ∧ s.canopy.swapped = false) ∧
    (let s : State := upCn false [] [⟨3, 0⟩, ⟨4, 9⟩]; let p : PendSwap := ⟨3, 0⟩; let ps : List PendSwap := [⟨4, 9⟩]; let i : SelInfo := stC.selectors.headD default; let d : Nat := 0; s.sys.mediaRun = true ∧ s.sys.phase = .running ∧ s.canopy.pendSwaps = p :: ps ∧ s.canopy.mixEnd.flags = [] ∧ s.plainFading 1 = false ∧ s.canopy.swapped = false ∧ s.selInfo d = some i ∧ i.priority = false ∧ (spFind s.graph.sels d).isSome = true) ∧
    (let s : State := upCn false [(70, true)] [⟨3, 0⟩, ⟨4, 9⟩]; s.sys.mediaRun = true ∧ s.sys.phase = .running ∧ (s.canopy.mixEnd.flags ≠ [] ∨ s.plainFading 1 = true ∨ s.canopy.pendSwaps = [] ∨ s.canopy.swapped = true)) ∧
    (let s : State := upTo; let k : Nat := 70; let tile : Fin 256 := 0; let b : Nat := 0; let a : Nat := 70; k = xpKey tile.val b a ∧ a < 512 ∧ b < 256 ∧ s.canopy.timedOut.contains k = true) ∧
    (let s : State := upCn false [(70, true)] []; let tile : Fin 256 := 0; let b : Nat := 0; let a : Nat := 71; s.canopy.timedOut.contains (xpKey tile.val b a) = false) ∧
    (let s : State := { (upCn false [] []) with canopy := { (upCn false [] []).canopy with dets := [(5, { isOpen := true, cnt := 0 })] } }; let d : Nat := 5; (s.canopy.det d).isOpen = true ∧ (s.canopy.det d).cnt = 0) ∧
    (let s : State := upCn false [] []; let v : W32 := 0x1FFF01A0; s.hostUp = true ∧ fld v 7 0 ≤ 160 ∧ fld v 15 8 ≠ 0 ∧ (s.rate96 = false ∨ fld v 28 16 < 4096)) ∧
    (let s : State := upCn true [] []; let v : W32 := 0x100001A0; s.hostUp = true ∧ (160 < fld v 7 0 ∨ fld v 15 8 = 0 ∨ (s.rate96 = true ∧ 4096 ≤ fld v 28 16))) ∧
    (let s : State := upCn false [] []; let v : W32 := 0xFFF0002; s.hostUp = true ∧ fld v 1 0 ≠ 3) ∧
    (let s : State := upCn false [] []; let v : W32 := 0xFFF0003; s.hostUp = true ∧ fld v 1 0 = 3) := by
  decide +kernel

/-- The hypotheses of GainWritesAndScenes are met, clause by clause. -/
theorem witness_GainWritesAndScenes :
    (let s : State := upCn false [] []; let addr : Nat := 0x3FFFFFE; let key : Nat := 0x1FFFFFF; s.hostUp = true ∧ s.underTest 2 = false ∧ addr % 2 = 0 ∧ addr < 0x4000000 ∧ key = addr / 2 ∧ s.gainHole addr = false ∧ s.canopy.flagged key = false) ∧
    (let s : State := upCn false [] []; let addr : Nat := 0x3FFFFFC; let key : Nat := 0x1FFFFFE; s.hostUp = true ∧ s.underTest 2 = false ∧ addr % 4 = 0 ∧ addr < 0x4000000 ∧ key = addr / 2 ∧ s.gainHole addr = false ∧ s.canopy.flagged key = false ∧ s.canopy.flagged (key + 1) = false) ∧
    (let s : State := upCn false [(70, true)] []; let addr : Nat := 140; let key : Nat := 70; s.hostUp = true ∧ s.underTest 2 = false ∧ addr % 2 = 0 ∧ addr < 0x4000000 ∧ key = addr / 2 ∧ s.gainHole addr = false ∧ s.canopy.flagged key = true) ∧
    (let s : State := upCn false [(70, true)] []; let hit : WriteHit := { collide := true, ecc := none }; let addr : Nat := 140; s.hostUp = true ∧ s.underTest 2 = false ∧ addr % 2 = 0 ∧ addr < 0x4000000 ∧ s.gainHole addr = false ∧ hit.collide = true) ∧
    (let s : State := upCn true [(70, true)] []; let addr : Nat := 512; s.hostUp = true ∧ s.underTest 2 = false ∧ addr % 2 = 0 ∧ addr < 0x4000000 ∧ s.rate96 = true ∧ 256 ≤ addr / 2 % 512) ∧
    (let s : State := upSc 0 [] none 0x60FFFF0 []; let k : Fin 16 := 2; let a : Nat := 0x60FFFF0; (s.slot k.val).st = .running ∧ (s.slot k.val).kind = 3 ∧ (s.slot k.val).fin = none ∧ (s.slot k.val).abortReq = false ∧ fld ((s.slot k.val).arg 0) 1 0 = 0 ∧ s.dram.frozen = false ∧ s.canopy.scene = none ∧ s.dram.poison = [] ∧ a = (cat64 ((s.slot k.val).arg 2) ((s.slot k.val).arg 1)).toNat ∧ (a % 64 ≠ 0 ∨ a < s.struct.sceneBase ∨ s.struct.sceneBase + s.struct.sceneSize < a + 32)) ∧
    (let s : State := upSc 0 [] none 0x6000040 []; let k : Fin 16 := 2; let a : Nat := 0x6000040; let h : List Byte := List.replicate 32 0; (s.slot k.val).st = .running ∧ (s.slot k.val).kind = 3 ∧ (s.slot k.val).fin = none ∧ (s.slot k.val).abortReq = false ∧ fld ((s.slot k.val).arg 0) 1 0 = 0 ∧ s.dram.frozen = false ∧ s.canopy.scene = none ∧ s.dram.poison = [] ∧ a = (cat64 ((s.slot k.val).arg 2) ((s.slot k.val).arg 1)).toNat ∧ h = s.dramPeek a 32 ∧ a % 64 = 0 ∧ s.struct.sceneBase ≤ a ∧ a + max (leAt h 4 4) 32 ≤ s.struct.sceneBase + s.struct.sceneSize ∧ h.take 4 ≠ [0x48, 0x56, 0x53, 0x43]) ∧
    (let s : State := upSc 0 [] (some (scn 32 64 2 false)) 0x6000040 [(0x6000060, 2), (0x6000062, 2), (0x6000064, 1), (0x6000066, 70), (0x6000068, 3), (0x600006B, 6)]; let w : SceneWork := scn 32 64 2 false; let k : Fin 16 := 2; let key : Nat := 0x20046; let a : Nat := 0x6000040; let r : List Byte := [2, 0, 2, 0, 1, 0, 70, 0, 3, 0, 0, 6]; (s.slot k.val).st = .running ∧ (s.slot k.val).kind = 3 ∧ (s.slot k.val).fin = none ∧ (s.slot k.val).abortReq = false ∧ fld ((s.slot k.val).arg 0) 1 0 = 0 ∧ s.dram.frozen = false ∧ s.canopy.scene = some w ∧ w.slot = k.val ∧ s.dram.poison = [] ∧ a = (cat64 ((s.slot k.val).arg 2) ((s.slot k.val).arg 1)).toNat ∧ r = s.dramPeek (a + w.pos) 12 ∧ leAt r 0 4 = 0x20002 ∧ w.records < w.recCount ∧ w.pos + 12 ≤ w.total ∧ s.recordBad 2 2 [w32 (leAt r 4 4), w32 (leAt r 8 4)] = false ∧ key = xpKey (leAt r 4 1) (leAt r 5 1) (fld (w32 (leAt r 4 4)) 24 16) ∧ ((∀ x ∈ s.canopy.flags, x.1 < key ∨ key + 512 ≤ x.1))) ∧
    (let s : State := upSc 0 [] (some (scn 64 64 3 false)) 0x6000040 []; let w : SceneWork := scn 64 64 3 false; let k : Fin 16 := 2; (s.slot k.val).st = .running ∧ (s.slot k.val).kind = 3 ∧ (s.slot k.val).fin = none ∧ (s.slot k.val).abortReq = false ∧ fld ((s.slot k.val).arg 0) 1 0 = 0 ∧ s.dram.frozen = false ∧ s.canopy.scene = some w ∧ w.slot = k.val ∧ w.total ≤ w.pos) ∧
    (let s : State := (upSc 0 [] none 0x60FFFF0 []).modSlot 2 (fun j => { j with abortReq := true }); let k : Fin 16 := 2; (s.slot k.val).st = .running ∧ (s.slot k.val).kind = 3 ∧ (s.slot k.val).fin = none ∧ (s.slot k.val).abortReq = true ∧ fld ((s.slot k.val).arg 0) 1 0 = 0 ∧ s.dram.frozen = false ∧ s.canopy.scene = none) ∧
    (let s : State := upSc 1 [] (some (scn 0 0 0 true)) 0 []; let w : SceneWork := scn 0 0 0 true; let k : Fin 16 := 2; (s.slot k.val).st = .running ∧ (s.slot k.val).kind = 3 ∧ (s.slot k.val).fin = none ∧ (s.slot k.val).abortReq = false ∧ fld ((s.slot k.val).arg 0) 1 0 = 1 ∧ s.dram.frozen = false ∧ s.canopy.flags = [] ∧ spCanon (fun _ => 0x7FFF) s.canopy.gainLive = true ∧ s.canopy.scene = some w ∧ w.slot = k.val ∧ w.pos < 1024) ∧
    (let s : State := upSc 1 [] (some (scn 1024 0 0 true)) 0 []; let w : SceneWork := scn 1024 0 0 true; let k : Fin 16 := 2; (s.slot k.val).st = .running ∧ (s.slot k.val).kind = 3 ∧ (s.slot k.val).fin = none ∧ (s.slot k.val).abortReq = false ∧ fld ((s.slot k.val).arg 0) 1 0 = 1 ∧ s.dram.frozen = false ∧ s.struct.cores = [] ∧ spCanon (fun _ => detDefault) s.canopy.detLive = true ∧ spCanon (fun _ => 0) s.canopy.sclLive = true ∧ s.canopy.scene = some w ∧ w.slot = k.val ∧ w.pos = 1024) ∧
    (let s : State := upSc 1 [(70, true)] none 0 []; let k : Fin 16 := 2; (s.slot k.val).st = .running ∧ (s.slot k.val).kind = 3 ∧ (s.slot k.val).fin = none ∧ (s.slot k.val).abortReq = false ∧ fld ((s.slot k.val).arg 0) 1 0 = 1 ∧ s.dram.frozen = false ∧ s.canopy.scene = none ∧ (s.canopy.flags ≠ [] ∨ s.plainFading 0 = true ∨ s.canopy.pendSwaps ≠ [])) := by
  decide +kernel

/-! ### Audio ports (R238 to R267) -/

/-- A port that runs as a SYNC slave, 16 bits, both directions, two and four steps deep. -/
def pt1 : Port := { portInit with st := .run, clock := true, cfg := 0x18800, depth := 0x402, rateClass := 3, runTick := 990 }
def upPt (p : Nat) (x : Port) : State := (up.setPort p x).wr (portCfgA p) x.cfg

/-- The hypotheses of PortStates are met, clause by clause. -/
theorem witness_PortStates :
    (let s : State := up; let p : Fin 32 := 31; s.hostUp = true ∧ s.bit (portCtlA p.val) 0 = false ∧ s.domFailed 10 = false ∧ s.enableBad p.val = false) ∧
    (let s : State := up.wr (portCfgA 3) 0x3; let p : Fin 32 := 3; s.hostUp = true ∧ s.bit (portCtlA p.val) 0 = false ∧ s.domFailed 10 = false ∧ ((p.val < 16 ∧ (aspFmt (s.rd (portCfgA p.val)) = 3 ∨ fld (s.rd (portCfgA p.val)) 4 3 = 3 ∨ aspMode (s.rd (portCfgA p.val)) = 3 ∨ fld (s.rd (portBase p.val + 0x14)) 6 0 = 0 ∨ 64 < fld (s.rd (portBase p.val + 0x14)) 14 8 ∨
    (aspMode (s.rd (portCfgA p.val)) = 2 ∧ s.asrcOf p.val = []) ∨ (s.struct.rooted.contains p.val = true ∧ aspMode (s.rd (portCfgA p.val)) ≠ 1))) ∨ (16 ≤ p.val ∧ p.val < 24 ∧ 2 ≤ fld (s.rd (portCfgA p.val)) 1 0))) ∧
    (let s : State := up.wr (portCtlA 3) 1; s.hostUp = true) ∧
    (let s : State := (upPt 3 { pt1 with st := .starting, leadLeft := 1 }).wr (portCtlA 3) 1; let p : Fin 32 := 3; let x : Port := { pt1 with st := .starting, leadLeft := 1 }; s.hostUp = true ∧ s.port p.val = x ∧ s.sys.mediaRun = true ∧ x.leadLeft = 1 ∧ x.st = .starting ∧ s.bit (portCtlA p.val) 0 = true ∧ (portMaster p.val x.cfg = true ∨ portQualified p.val x = true)) ∧
    (let s : State := upPt 3 { pt1 with st := .stopping, leadLeft := 1, cfg := 0x18000 }; let p : Fin 32 := 3; let x : Port := { pt1 with st := .stopping, leadLeft := 1, cfg := 0x18000 }; s.hostUp = true ∧ s.port p.val = x ∧ s.sys.mediaRun = true ∧ x.leadLeft = 1 ∧ x.st = .stopping) ∧
    (let s : State := { up with sys := { up.sys with mediaRun := false } }; s.hostUp = true ∧ s.sys.mediaRun = false) ∧
    (let s : State := upPt 3 { pt1 with chgTx := [{ mask := 5, tick := 999 }, { mask := 6, tick := 996 }] }; let k : Fin 16 := 3; let x : Port := { pt1 with chgTx := [{ mask := 5, tick := 999 }, { mask := 6, tick := 996 }] }; let n : Nat := 1001; s.hostUp = true ∧ s.port k.val = x ∧ s.sys.mediaRun = true ∧ s.tickN + 1 ≤ n) ∧
    (let s : State := { upPt 3 pt1 with sys := { up.sys with mediaRun := false } }; let k : Fin 16 := 3; let x : Port := pt1; s.hostUp = true ∧ s.port k.val = x ∧ s.sys.mediaRun = false) ∧
    (let s : State := upPt 3 { pt1 with locked := true }; let q : Fin 24 := 3; let x : Port := { pt1 with locked := true }; s.hostUp = true ∧ s.port q.val = x ∧ x.clock = true ∧ s.portSlave q.val = true) ∧
    (let s : State := upPt 3 { pt1 with clock := false }; let q : Fin 24 := 3; let x : Port := { pt1 with clock := false }; let rate : Nat := 44100000; let off : Bool := true; s.hostUp = true ∧ s.port q.val = x ∧ x.clock = false ∧ s.portSlave q.val = true ∧ rate ≠ 0 ∧ x.locked = false ∧ off = s.misrated q.val (s.cfgNow q.val) rate) ∧
    (let s : State := upPt 3 { pt1 with cfg := 0x18000, win := 300 }; let q : Fin 24 := 3; let x : Port := { pt1 with cfg := 0x18000, win := 300 }; s.hostUp = true ∧ s.port q.val = x ∧ x.clock = true ∧ 300 ≤ x.win ∧ s.portSlave q.val = false) ∧
    (let s : State := upPt 3 { pt1 with win := 300 }; let q : Fin 24 := 3; let x : Port := { pt1 with win := 300 }; let rate : Nat := 44100000; let off : Bool := true; let chg : Bool := true; s.hostUp = true ∧ s.port q.val = x ∧ x.clock = true ∧ 300 ≤ x.win ∧ s.portSlave q.val = true ∧ x.locked = false ∧ off = s.misrated q.val (s.cfgNow q.val) rate ∧ chg = (rateClassOf rate != x.rateClass || (x.rateRef != 0 && !rateWithin 50 rate x.rateRef))) ∧
    (let s : State := upPt 3 { pt1 with win := 300, locked := true }; let q : Fin 24 := 3; let x : Port := { pt1 with win := 300, locked := true }; let rate : Nat := 44100000; s.hostUp = true ∧ s.port q.val = x ∧ x.clock = true ∧ 300 ≤ x.win ∧ s.portSlave q.val = true ∧ x.locked = true ∧ rateClassOf rate ≠ x.rateClass) ∧
    (let s : State := upPt 3 { pt1 with cfg := 0x19000, lockTicks := 300 }; let q : Fin 24 := 3; let x : Port := { pt1 with cfg := 0x19000, lockTicks := 300 }; let v : W32 := 0x10000000; let off : Bool := false; s.hostUp = true ∧ s.port q.val = x ∧ portAsrc q.val x.cfg = true ∧ x.clock = true ∧ x.st ≠ .off ∧ x.locked = false ∧ 300 ≤ x.lockTicks ∧ 0x4000000 ≤ v.toNat ∧ v.toNat ≤ 0x40000000) ∧
    (let s : State := upPt 3 { pt1 with cfg := 0x19000, lockTicks := 299 }; let q : Fin 24 := 3; let x : Port := { pt1 with cfg := 0x19000, lockTicks := 299 }; let v : W32 := 0x10000000; let off : Bool := false; s.hostUp = true ∧ s.port q.val = x ∧ portAsrc q.val x.cfg = true ∧ x.clock = true ∧ x.st ≠ .off ∧ x.locked = false ∧ x.lockTicks < 300 ∧ 0x4000000 ≤ v.toNat ∧ v.toNat ≤ 0x40000000) ∧
    (let s : State := upPt 3 { pt1 with cfg := 0x19000, locked := true, ratio := 0x10000001 }; let q : Fin 24 := 3; let x : Port := { pt1 with cfg := 0x19000, locked := true, ratio := 0x10000001 }; let v : W32 := 0x10000000; let off : Bool := false; s.hostUp = true ∧ s.port q.val = x ∧ portAsrc q.val x.cfg = true ∧ x.clock = true ∧ x.st ≠ .off ∧ x.locked = true ∧ rateWithin 50 v.toNat x.ratio.toNat = true ∧ 0x4000000 ≤ v.toNat ∧ v.toNat ≤ 0x40000000) ∧
    (let s : State := upPt 3 { pt1 with cfg := 0x19000, locked := true }; let q : Fin 24 := 3; let x : Port := { pt1 with cfg := 0x19000, locked := true }; let v : W32 := 0x40000001; let off : Bool := false; s.hostUp = true ∧ s.port q.val = x ∧ portAsrc q.val x.cfg = true ∧ x.clock = true ∧ x.st ≠ .off ∧ (v.toNat < 0x4000000 ∨ 0x40000000 < v.toNat)) := by
  decide +kernel

/-- The hypotheses of PortFrames are met, clause by clause. -/
theorem witness_PortFrames :
    (let s : State := upPt 3 { pt1 with rx := some 16001 }; let p : Fin 16 := 3; let x : Port := { pt1 with rx := some 16001 }; let e : Nat := 16001; let sp : Nat := 16000; let frac : Nat := 384; let n : Nat := 2; let k : Nat := 1; let pos : Int := 8192896; let data : W32 := 3; s.port p.val = x ∧ portListens p.val x = true ∧ x.st = .run ∧ x.reenter = false ∧ portMaster p.val x.cfg = false ∧ x.rx = some e ∧ n = aspSlots x.cfg ∧ pos = ((sp * s.cyc + frac + 256 * fld x.depth 6 0 : Nat) : Int) ∧ 4 * (pos - (e : Int) * (s.cyc : Int)).natAbs ≤ 3 * s.cyc ∧ s.tickN * s.tickLen ≤ e ∧ spFind x.blk e = none ∧ k < n ∧ data = dataAt (sp / s.tickLen) x.maskRx x.chgRx) ∧
    (let s : State := upPt 3 { pt1 with cfg := 0x18000 }; let p : Fin 16 := 3; let x : Port := { pt1 with cfg := 0x18000 }; let e : Nat := 16001; let sp : Nat := 16000; let frac : Nat := 0; let n : Nat := 2; let k : Nat := 1; let pos : Int := 8192512; let data : W32 := 3; s.port p.val = x ∧ portListens p.val x = true ∧ x.st = .run ∧ x.reenter = false ∧ portMaster p.val x.cfg = true ∧ n = aspSlots x.cfg ∧ pos = ((sp * s.cyc + frac + 256 * fld x.depth 6 0 : Nat) : Int) ∧ pos = (e : Int) * (s.cyc : Int) ∧ s.tickN * s.tickLen ≤ e ∧ spFind x.blk e = none ∧ k < n ∧ data = dataAt (sp / s.tickLen) x.maskRx x.chgRx) ∧
    (let s : State := upPt 3 { pt1 with rx := some 16001 }; let p : Fin 16 := 3; let x : Port := { pt1 with rx := some 16001 }; let e : Nat := 16001; let sp : Nat := 16000; let frac : Nat := 0; let n : Nat := 31; let pos : Int := 8192512; s.port p.val = x ∧ portListens p.val x = true ∧ x.st = .run ∧ x.reenter = false ∧ x.rx = some e ∧ portMaster p.val x.cfg = false ∧ n ≠ aspSlots x.cfg * aspWidth x.cfg ∧ pos = ((sp * s.cyc + frac + 256 * fld x.depth 6 0 : Nat) : Int) ∧ 4 * (pos - (e : Int) * (s.cyc : Int)).natAbs ≤ 3 * s.cyc) ∧
    (let s : State := upPt 3 { pt1 with rx := some 16001 }; let p : Fin 16 := 3; let x : Port := { pt1 with rx := some 16001 }; let e : Nat := 16001; let sp : Nat := 16000; let frac : Nat := 385; let n : Nat := 2; let pos : Int := 8192897; s.port p.val = x ∧ portListens p.val x = true ∧ x.st = .run ∧ x.reenter = false ∧ portMaster p.val x.cfg = false ∧ x.rx = some e ∧ n = aspSlots x.cfg ∧ pos = ((sp * s.cyc + frac + 256 * fld x.depth 6 0 : Nat) : Int) ∧ 3 * s.cyc < 4 * (pos - (e : Int) * (s.cyc : Int)).natAbs) ∧
    (let s : State := up; let p : Fin 16 := 3; let x : Port := portInit; s.port p.val = x ∧ x.st = .off) ∧
    (let s : State := upPt 3 { pt1 with st := .starting, maskTx := 1 }; let p : Fin 16 := 3; let x : Port := { pt1 with st := .starting, maskTx := 1 }; let sp : Nat := 0; let k : Nat := 0; let mask : W32 := 1; let vs : List (Option W32) := [some 0, none]; s.port p.val = x ∧ x.st = .starting ∧ x.clock = true ∧ bitOf x.cfg 16 = true ∧ portMaster p.val x.cfg = false ∧ mask = maskAt (sp / s.tickLen) x.maskTx x.chgTx ∧ vs = (upFrom 0 (aspSlots x.cfg)).map (fun k => if bitOf mask k = true then some 0 else none)) ∧
    (let s : State := upPt 3 { pt1 with st := .starting, maskTx := 1 }; let p : Fin 16 := 3; let x : Port := { pt1 with st := .starting, maskTx := 1 }; let n : Nat := 31; s.port p.val = x ∧ x.st = .starting ∧ x.clock = true ∧ bitOf x.cfg 16 = true ∧ portMaster p.val x.cfg = false ∧ n ≠ aspSlots x.cfg * aspWidth x.cfg) ∧
    (let s : State := { upPt 3 { pt1 with tx := some 16000 } with graph := { up.graph with pipe := { up.graph.pipe with emitted := [(1000, [(.asp 3 0, [9000000, 5])])] } } }; let p : Fin 16 := 3; let x : Port := { pt1 with tx := some 16000 }; let e : Nat := 16000; let sp : Nat := 16002; let frac : Nat := 0; let k : Nat := 0; let pos : Int := 8192000; let data : W32 := 3; let mask : W32 := 3; let vs : List (Option W32) := [some 0x7FFF, some 0]; let o : List (SinkId × List Int) := [(.asp 3 0, [9000000, 5])]; s.port p.val = x ∧ x.st = .run ∧ x.clock = true ∧ bitOf x.cfg 16 = true ∧ x.reenter = false ∧ x.mismatch = false ∧ portAsrc p.val x.cfg = false ∧ portMaster p.val x.cfg = false ∧ x.tx = some e ∧ pos = ((sp * s.cyc + frac : Nat) : Int) - ((256 * fld x.depth 14 8 : Nat) : Int) ∧ 4 * (pos - (e : Int) * (s.cyc : Int)).natAbs ≤ 3 * s.cyc ∧ x.runTick ≤ e / s.tickLen ∧ findFrame s.graph.pipe.emitted (e / s.tickLen) s.tickN = some o ∧ mask = maskAt (sp / s.tickLen) x.maskTx x.chgTx ∧ data = dataAt (sp / s.tickLen) x.maskTx x.chgTx ∧ vs = (upFrom 0 (aspSlots x.cfg)).map (fun k => if bitOf mask k = true then some (txWord x.cfg (if bitOf data k = true then nth 0 (findSink o (.asp p.val k)) (e % s.tickLen) else 0)).1 else none)) ∧
    (let s : State := { upPt 26 pt1 with graph := { up.graph with pipe := { up.graph.pipe with emitted := [(1000, [(.aes 2 false, [9000000, 5])])] } } }; let r : Fin 8 := 2; let x : Port := pt1; let e : Nat := 16000; let sp : Nat := 16001; let frac : Nat := 0; let o : List (SinkId × List Int) := [(.aes 2 false, [9000000, 5])]; s.port (24 + r.val) = x ∧ x.st = .run ∧ x.clock = true ∧ x.reenter = false ∧ x.mismatch = false ∧ ((sp * s.cyc + frac : Nat) : Int) - (s.cyc : Int) = (e : Int) * (s.cyc : Int) ∧ e % 192 ≠ 0 ∧ x.runTick ≤ e / s.tickLen ∧ findFrame s.graph.pipe.emitted (e / s.tickLen) s.tickN = some o) ∧
    (let s : State := upPt 18 { pt1 with rx := some 16001, cfg := 0 }; let r : Fin 8 := 2; let x : Port := { pt1 with rx := some 16001, cfg := 0 }; let e : Nat := 16001; let sp : Nat := 16000; let frac : Nat := 0; let pos : Int := 8192512; let a : W32 := 0x1230; let b : W32 := 0x4560; s.port (16 + r.val) = x ∧ portListens (16 + r.val) x = true ∧ x.st = .run ∧ x.reenter = false ∧ x.rx = some e ∧ pos = ((sp * s.cyc + frac + s.cyc : Nat) : Int) ∧ 4 * (pos - (e : Int) * (s.cyc : Int)).natAbs ≤ 3 * s.cyc ∧ s.tickN * s.tickLen ≤ e ∧ spFind x.blk e = none ∧ bitOf a 28 = false ∧ bitOf b 28 = false) ∧
    (let s : State := upPt 18 { pt1 with rx := some 16001, cfg := 0 }; let r : Fin 8 := 2; let x : Port := { pt1 with rx := some 16001, cfg := 0 }; let e : Nat := 16001; let sp : Nat := 16000; let frac : Nat := 0; let pos : Int := 8192512; let a : W32 := 0x1230; let b : W32 := 0x4560; let pe : Bool := true; let be : Bool := false; s.port (16 + r.val) = x ∧ portListens (16 + r.val) x = true ∧ x.st = .run ∧ x.reenter = false ∧ x.rx = some e ∧ pos = ((sp * s.cyc + frac + s.cyc : Nat) : Int) ∧ 4 * (pos - (e : Int) * (s.cyc : Int)).natAbs ≤ 3 * s.cyc ∧ bitOf a 28 = false ∧ bitOf b 28 = false ∧ (pe || be) = true) ∧
    (let s : State := upPt 18 { pt1 with rx := some 16001, cfg := 0 }; let r : Fin 8 := 2; let x : Port := { pt1 with rx := some 16001, cfg := 0 }; let csA : List Byte := [2, 3]; let csB : List Byte := []; s.port (16 + r.val) = x ∧ portHears (16 + r.val) x = true ∧ leAt csA 0 1 % 2 = 0 ∧ csA ≠ x.csA ∧ csB = x.csB ∧ leAt csB 0 1 % 2 = 0) ∧
    (let s : State := upPt 18 { pt1 with st := .off }; let r : Fin 8 := 2; let x : Port := { pt1 with st := .off }; s.port (16 + r.val) = x ∧ portHears (16 + r.val) x = false) ∧
    (let s : State := upPt 26 pt1; let r : Fin 8 := 2; let x : Port := pt1; s.port (24 + r.val) = x ∧ x.st ≠ .off ∧ s.bit (AEST_CFG r.val) 0 = false) := by
  decide +kernel

/-! ### Clock references (R268 to R286) -/

/-- A present, qualified input; a module whose inputs 1 and 3 are enabled. -/
def rf1 : RefIn := { refInit with present := true, st := .qualified }
def upCk (rs : Sparse RefIn) (f : ClkSt → ClkSt) : State := (({ up with clk := f { up.clk with refs := rs } }.wr (CLK_REF_CFG 1) 0x40064061).wr (CLK_REF_CFG 3) 0x40064061)

/-- The hypotheses of ClockReferences are met, clause by clause. -/
theorem witness_ClockReferences :
    (let s : State := upCk [] (fun c => { c with win := 2999 }); let i : Fin 6 := 1; let x : RefIn := refInit; s.ref i.val = x ∧ s.refEn i.val = true ∧ (i.val = 1 ∨ i.val = 3 ∨ s.refDerived i.val = true) ∧ x.st = .absent) ∧
    (let s : State := upCk [(1, { rf1 with phi := 70 })] (fun c => { c with win := 2999 }); let i : Fin 6 := 1; let x : RefIn := { rf1 with phi := 70 }; s.ref i.val = x ∧ s.refEn i.val = true ∧ (i.val = 1 ∨ i.val = 3 ∨ s.refDerived i.val = false) ∧ x.present = true) ∧
    (let s : State := upCk [(1, { rf1 with fail := 2 })] (fun c => { c with win := 2999 }); let i : Fin 6 := 1; let n : Nat := 2; let x : RefIn := { rf1 with fail := 2 }; s.ref i.val = x ∧ s.refEn i.val = true ∧ x.fail = n ∧ n ≠ 0 ∧ x.st = .qualified) ∧
    (let s : State := upCk [(1, rf1)] (fun c => { c with win := 2999 }); let i : Fin 6 := 1; let k : Nat := 0; let x : RefIn := rf1; let f : Int := -90000; s.ref i.val = x ∧ s.refEn i.val = true ∧ x.st ≠ .absent ∧ x.present = true ∧ s.clk.win = 2999 ∧ s.clk.winDone = false ∧ s.rdF CLK_FWIN 16 0 < f.natAbs ∧ x.disputed = false ∧ (∀ k ∈ refNums, k ≠ i.val → (s.refEn k && (s.ref k).present) = false ∧ (s.ref k).compared = false)) ∧
    (let s : State := upCk [(1, { rf1 with st := .qualifying, winClean := true })] (fun c => { c with win := 2999 }); let i : Fin 6 := 1; let k : Nat := 0; let x : RefIn := { rf1 with st := .qualifying, winClean := true }; let f : Int := -9000; s.ref i.val = x ∧ s.refEn i.val = true ∧ x.st = .qualifying ∧ x.present = true ∧ x.winClean = true ∧ x.fail = 0 ∧ x.disputed = false ∧ s.clk.win = 2999 ∧ s.clk.winDone = false ∧ f.natAbs ≤ s.rdF CLK_FWIN 16 0 ∧ (∀ k ∈ refNums, k ≠ i.val → (s.refEn k && (s.ref k).present) = false ∧ (s.ref k).compared = false)) ∧
    (let s : State := upCk [(1, { rf1 with st := .qualifying })] (fun c => { c with win := 2999 }); let i : Fin 6 := 1; let k : Nat := 0; let x : RefIn := { rf1 with st := .qualifying }; let f : Int := -9000; s.ref i.val = x ∧ s.refEn i.val = true ∧ x.st = .qualifying ∧ x.present = true ∧ x.winClean = false ∧ x.disputed = false ∧ s.clk.win = 2999 ∧ s.clk.winDone = false ∧ f.natAbs ≤ s.rdF CLK_FWIN 16 0 ∧ (∀ k ∈ refNums, k ≠ i.val → (s.refEn k && (s.ref k).present) = false ∧ (s.ref k).compared = false)) ∧
    (let s : State := upCk [(1, rf1), (3, rf1)] (fun c => { c with win := 2999 }); let i : Fin 6 := 1; let j : Nat := 3; let k : Nat := 0; let x : RefIn := rf1; let y : RefIn := rf1; let f : Int := 9000; let g : Int := -9000; s.ref i.val = x ∧ s.refEn i.val = true ∧ s.ref j = y ∧ j < 6 ∧ i.val ≠ j ∧ s.refEn j = true ∧ s.refRank i.val = s.refRank j ∧ x.present = true ∧ y.present = true ∧ x.eligible = true ∧ y.eligible = true ∧ s.clk.win = 2999 ∧ s.clk.winDone = false ∧ f.natAbs ≤ s.rdF CLK_FWIN 16 0 ∧ g.natAbs ≤ s.rdF CLK_FWIN 16 0 ∧ s.rdF CLK_DISPUTE 15 0 < (f - g).natAbs ∧ (∀ k ∈ refNums, k ≠ i.val → k ≠ j → (s.refEn k && (s.ref k).present) = false ∧ (s.ref k).st ≠ .qualified ∧ (s.ref k).disputed = false)) ∧
    (let s : State := ((upCk [(1, rf1), (2, rf1), (3, rf1)] (fun c => { c with win := 2999 })).wr (CLK_REF_CFG 2) 0x40064083); let i : Fin 6 := 3; let j : Nat := 1; let k : Nat := 2; let x : RefIn := rf1; let y : RefIn := rf1; let f : Int := 9000; let g : Int := -9000; let h : Int := -9400; s.ref i.val = x ∧ s.refEn i.val = true ∧ s.ref j = y ∧ j < 6 ∧ k < 6 ∧ i.val ≠ j ∧ i.val ≠ k ∧ j ≠ k ∧ s.refEn j = true ∧ s.refEn k = true ∧ s.refRank i.val = s.refRank j ∧ s.refRank k ≠ s.refRank j ∧ x.present = true ∧ y.present = true ∧ (s.ref k).present = true ∧ x.eligible = true ∧ y.eligible = true ∧ (s.ref k).eligible = true ∧ (s.ref k).disputed = false ∧ s.clk.win = 2999 ∧ s.clk.winDone = false ∧ f.natAbs ≤ s.rdF CLK_FWIN 16 0 ∧ g.natAbs ≤ s.rdF CLK_FWIN 16 0 ∧ h.natAbs ≤ s.rdF CLK_FWIN 16 0 ∧ s.rdF CLK_DISPUTE 15 0 < (f - g).natAbs ∧ s.rdF CLK_DISPUTE 15 0 < (h - f).natAbs ∧ (h - g).natAbs ≤ s.rdF CLK_DISPUTE 15 0 ∧ (∀ l ∈ refNums, l ≠ i.val → l ≠ j → l ≠ k → (s.refEn l && (s.ref l).present) = false ∧ (s.ref l).st ≠ .qualified ∧ (s.ref l).disputed = false)) ∧
    (let s : State := upCk [(1, rf1)] (fun c => { c with winDone := true }); let i : Fin 6 := 1; let x : RefIn := rf1; s.ref i.val = x ∧ s.refEn i.val = true ∧ (s.clk.win ≠ 2999 ∨ s.clk.winDone = true)) ∧
    (let s : State := upCk [(1, { rf1 with st := .disqualified, guardLeft := 1 })] (fun c => { c with win := 2999 }); let i : Fin 6 := 1; let x : RefIn := { rf1 with st := .disqualified, guardLeft := 1 }; s.ref i.val = x ∧ s.refEn i.val = true ∧ x.st = .disqualified ∧ x.present = true ∧ x.guardLeft ≤ 1 ∧ x.fail = 0 ∧ x.freq.natAbs ≤ s.rdF CLK_FWIN 16 0) ∧
    (let s : State := upCk [(1, { rf1 with st := .disqualified, guardLeft := 1, freq := 90000 })] (fun c => { c with win := 2999 }); let i : Fin 6 := 1; let x : RefIn := { rf1 with st := .disqualified, guardLeft := 1, freq := 90000 }; s.ref i.val = x ∧ s.refEn i.val = true ∧ x.st = .disqualified ∧ x.present = true ∧ x.guardLeft ≤ 1 ∧ (s.rdF CLK_FWIN 16 0 < x.freq.natAbs ∨ x.fail ≠ 0)) ∧
    (let s : State := ((upCk [(1, rf1), (3, { rf1 with freq := 200 })] (fun c => { c with pll := .locked, selected := 1, wtrLeft := some 1 })).wr (CLK_REF_CFG 3) 0x40064061).wr (CLK_REF_CFG 1) 0x40064065 |>.wr CLK_CTL 2; let i : Fin 6 := 1; let j : Nat := 3; let n : Nat := 1; let x : RefIn := rf1; s.ref i.val = x ∧ s.refEn i.val = true ∧ s.clk.wtrLeft = some n ∧ n ≤ 1 ∧ s.clk.looped = false ∧ s.clk.pll = .locked ∧ s.clk.selected = i.val ∧ s.eligibleRefs = (if i.val < j then [i.val, j] else [j, i.val]) ∧ j < 6 ∧ s.refRank j < s.refRank i.val ∧ s.bit CLK_CTL 1 = true) ∧
    (let s : State := upCk [] (fun c => { c with win := 2999 }); let i : Fin 6 := 1; let x : RefIn := refInit; s.ref i.val = x ∧ s.refEn i.val = true ∧ (s.clk.wtrLeft = none ∨ s.clk.looped = true)) ∧
    (let s : State := upCk [] (fun c => { c with pll := .switching, target := 6, selected := 7 }); let i : Fin 6 := 1; let x : RefIn := refInit; s.ref i.val = x ∧ s.refEn i.val = true ∧ s.clk.pll = .switching ∧ s.clk.looped = false ∧ s.clk.target = 6 ∧ s.clk.targetFreq = 0 ∧ s.clk.outFreq = 0 ∧ s.eligibleRefs = []) ∧
    (let s : State := upCk [(1, { rf1 with freq := 50, phi := 9 })] (fun c => { c with pll := .switching, target := 1, selected := 7, outFreq := 150000, fromFree := true }); let i : Fin 6 := 1; let x : RefIn := { rf1 with freq := 50, phi := 9 }; s.ref i.val = x ∧ s.refEn i.val = true ∧ s.clk.pll = .switching ∧ s.clk.looped = false ∧ s.clk.target = i.val ∧ s.clk.targetLost = false ∧ i.val ≠ 0 ∧ s.clk.outFreq = 3000 * x.freq ∧ x.freq.natAbs < 100000 ∧ s.eligibleRefs = [i.val]) ∧
    (let s : State := upCk [(0, { rf1 with phi := -19 })] (fun c => { c with pll := .absorbing, selected := 0, buildout := -19 }); let i : Fin 6 := 1; let x : RefIn := refInit; s.ref i.val = x ∧ s.refEn i.val = true ∧ s.clk.pll = .absorbing ∧ s.clk.looped = false ∧ s.clk.selected = 0 ∧ (s.ref 0).phi.natAbs < 20 ∧ s.eligibleRefs = [0]) ∧
    (let s : State := upCk [] (fun c => { c with holdTicks := some 5184000000 }); let i : Fin 6 := 1; let n : Nat := 5184000000; let x : RefIn := refInit; s.ref i.val = x ∧ s.refEn i.val = true ∧ s.clk.holdTicks = some n ∧ s.clk.holdExceeded = false ∧ (s.rd CLK_HOLD_SPEC).toNat * teDen < teNum (s.rdF CLK_HOLD_CFG 2 0) s.clk.holdE0 (n + 1)) ∧
    (let s : State := upCk [] (fun c => { c with holdTicks := some 3, holdE0 := 40 }); let i : Fin 6 := 1; let n : Nat := 3; let x : RefIn := refInit; s.ref i.val = x ∧ s.refEn i.val = true ∧ s.clk.holdTicks = some n) ∧
    (let s : State := { upCk [] id with twn := { up.twn with linkUp := true, role := .standby } }; let i : Fin 6 := 1; let x : RefIn := refInit; s.ref i.val = x ∧ s.refEn i.val = true ∧ s.twn.linkUp = true ∧ s.twn.role ≠ .alone ∧ s.twn.role ≠ .active ∧ s.sys.mediaRun = true) ∧
    (let s : State := upCk [] id; let i : Fin 6 := 1; let x : RefIn := refInit; s.ref i.val = x ∧ s.refEn i.val = true ∧ s.followsMarker = false) := by
  decide +kernel

/-! ### Network media (R287 to R312) -/

/-- A receive descriptor: leg B of pair 0, L24, J 4, 30 ticks, PT 97; a transmit descriptor of the same group. -/
def descR : List W32 := [0x18478412, 5004, 77, 0, 0x400, 0, 0, 0, 0x0A000009, 0, 0, 0, 0xEF010203, 0, 0, 0]
def descT : List W32 := [0x18400012, 5004, 77, 9, 0x40, 0, 0, 0, 0, 0, 0, 0, 0xEF010203, 0, 0, 0]
/-- A module whose image binds receive stream 5 and transmit stream 3, one channel each, with a network port, registers and streams set. -/
def upNt (p : Nat) (n : NetPort) (rs : List (Nat × W32)) (ss : Sparse Stream) : State :=
  foldS (fun t q => t.wr q.1 q.2) { up with img := { up.img with running := some { img0 with structure' := { (default : Structure) with rxStreams := [(5, 1)], txStreams := [(3, 1)] } } }, net := { up.net with ports := [(p, n)], streams := ss } } rs

/-- The hypotheses of NetPortsAndStreams are met, clause by clause. -/
theorem witness_NetPortsAndStreams :
    (let s : State := upNt 1 (netPortInit) [(NET_MAC_LO 1, 7)] ([]); let p : Fin 4 := 1; let v : W32 := 1; let k : Nat := 0; let x : Stream := strInit; let n : NetPort := netPortInit; s.hostUp = true ∧ s.netPort p.val = n ∧ s.str k = x ∧ bitOf v 0 = true ∧ s.netOn p.val = false ∧ s.netBad p.val = false) ∧
    (let s : State := upNt 1 (netPortInit) [(NET_CFG 1, 0x10D)] ([]); let p : Fin 4 := 1; let v : W32 := 1; let k : Nat := 0; let x : Stream := strInit; let n : NetPort := netPortInit; s.hostUp = true ∧ s.netPort p.val = n ∧ s.str k = x ∧ bitOf v 0 = true ∧ s.netOn p.val = false ∧ (5 ≤ s.netType p.val ∨ (s.bit (NET_CFG p.val) 4 = true ∧ s.netType p.val ≠ 1) ∨ s.bit (NET_MAC_HI p.val) 8 = true)) ∧
    (let s : State := upNt 1 ({ netPortInit with up := true, speed := 4 }) [(NET_CTL 1, 1)] ([]); let p : Fin 4 := 1; let v : W32 := 0; let k : Nat := 0; let x : Stream := strInit; let n : NetPort := { netPortInit with up := true, speed := 4 }; s.hostUp = true ∧ s.netPort p.val = n ∧ s.str k = x ∧ bitOf v 0 = false ∧ n.up = true) ∧
    (let s : State := upNt 1 (netPortInit) [(NET_CTL 1, 1)] ([]); let p : Fin 4 := 1; let v : W32 := 0; let k : Nat := 0; let x : Stream := strInit; let n : NetPort := netPortInit; s.hostUp = true ∧ s.netPort p.val = n ∧ s.str k = x ∧ bitOf v 0 = false ∧ n.up = false ∧ s.netOn p.val = true) ∧
    (let s : State := upNt 1 (netPortInit) [(NET_CTL 1, 1)] ([]); let p : Fin 4 := 1; let k : Nat := 0; let x : Stream := strInit; let n : NetPort := netPortInit; s.hostUp = true ∧ s.netPort p.val = n ∧ s.str k = x ∧ s.netOn p.val = true ∧ s.domFailed 7 = false ∧ s.netType p.val < 2 ∧ n.up = false) ∧
    (let s : State := upNt 1 (netPortInit) [(NET_CTL 1, 1), (NET_CFG 1, 0x10C)] ([]); let p : Fin 4 := 1; let pins : LinkPins := { speed := 5, los := true, modAbs := false }; let k : Nat := 0; let x : Stream := strInit; let n : NetPort := netPortInit; s.hostUp = true ∧ s.netPort p.val = n ∧ s.str k = x ∧ s.netOn p.val = true ∧ s.domFailed 7 = false ∧ s.netType p.val = 4 ∧ pins.speed = 5 ∧ n.up = false) ∧
    (let s : State := upNt 1 ({ netPortInit with up := true, speed := 4 }) [(NET_CTL 1, 1)] ([]); let p : Fin 4 := 1; let k : Nat := 0; let x : Stream := strInit; let n : NetPort := { netPortInit with up := true, speed := 4 }; s.hostUp = true ∧ s.netPort p.val = n ∧ s.str k = x ∧ s.netOn p.val = true ∧ s.domFailed 7 = false ∧ n.up = true) ∧
    (let s : State := upNt 1 (netPortInit) [] ([]); let p : Fin 4 := 1; let k : Nat := 0; let x : Stream := strInit; let n : NetPort := netPortInit; s.hostUp = true ∧ s.netPort p.val = n ∧ s.str k = x ∧ s.netOn p.val = false) ∧
    (let s : State := upNt 1 ({ netPortInit with up := true, speed := 4 }) [] ([]); let p : Fin 4 := 1; let k : Nat := 0; let x : Stream := strInit; let n : NetPort := { netPortInit with up := true, speed := 4 }; s.hostUp = true ∧ s.netPort p.val = n ∧ s.str k = x) ∧
    (let s : State := (fun z : State => { z with net := { z.net with applies := [5] } }) (upNt 1 ({ netPortInit with up := true, speed := 4 }) [(STR_D 0, nth 0 descR 0), (STR_D 1, nth 0 descR 1), (STR_D 2, nth 0 descR 2), (STR_D 3, nth 0 descR 3), (STR_D 4, nth 0 descR 4), (STR_D 5, nth 0 descR 5), (STR_D 6, nth 0 descR 6), (STR_D 7, nth 0 descR 7), (STR_D 8, nth 0 descR 8), (STR_D 9, nth 0 descR 9), (STR_D 10, nth 0 descR 10), (STR_D 11, nth 0 descR 11), (STR_D 12, nth 0 descR 12), (STR_D 13, nth 0 descR 13), (STR_D 14, nth 0 descR 14), (STR_D 15, nth 0 descR 15)] ([])); let p : Fin 4 := 1; let v : W32 := 5; let k : Nat := 5; let x : Stream := strInit; let n : NetPort := { netPortInit with up := true, speed := 4 }; let d : List W32 := descR; s.hostUp = true ∧ s.netPort p.val = n ∧ s.str k = x ∧ s.net.applies = [v] ∧ k = applyKey v ∧ v &&& 0xFFFC7C00 = 0 ∧ (s.strChans k).isSome = true ∧ fld v 17 16 = 0 ∧ x.on = false ∧ d = (upFrom 0 16).map (fun j => s.rd (STR_D j)) ∧ descBad (decide (1024 ≤ k)) d = false) ∧
    (let s : State := (fun z : State => { z with net := { z.net with applies := [5] } }) (upNt 1 ({ netPortInit with up := true, speed := 4 }) [] ([(5, { strInit with desc := descR, st := .run })])); let p : Fin 4 := 1; let v : W32 := 5; let k : Nat := 5; let x : Stream := { strInit with desc := descR, st := .run }; let n : NetPort := { netPortInit with up := true, speed := 4 }; s.hostUp = true ∧ s.netPort p.val = n ∧ s.str k = x ∧ s.net.applies = [v] ∧ k = applyKey v ∧ fld v 17 16 = 0 ∧ (v &&& 0xFFFC7C00 ≠ 0 ∨ s.strChans k = none ∨ x.on = true)) ∧
    (let s : State := (fun z : State => { z with net := { z.net with applies := [0x10005] } }) (upNt 1 ({ netPortInit with up := true, speed := 4 }) [(NET_CTL 1, 1)] ([(5, { strInit with desc := descR })])); let p : Fin 4 := 1; let v : W32 := 0x10005; let k : Nat := 5; let x : Stream := { strInit with desc := descR }; let n : NetPort := { netPortInit with up := true, speed := 4 }; s.hostUp = true ∧ s.netPort p.val = n ∧ s.str k = x ∧ s.net.applies = [v] ∧ k = applyKey v ∧ v &&& 0xFFFC7C00 = 0 ∧ (s.strChans k).isSome = true ∧ fld v 17 16 = 1 ∧ k < 1024 ∧ descBad false x.desc = false ∧ (∀ j ∈ s.rxKeys, (s.str j).on = true → (s.str j).admitKey ≠ x.admitKey) ∧ x.ports = [p.val] ∧ s.netOn p.val = true ∧ s.netIgmp p.val = true ∧ n.v2Left = 0 ∧ multicast x.v6 x.dst = true ∧ n.up = true) ∧
    (let s : State := (fun z : State => { z with net := { z.net with applies := [0x18003] } }) (upNt 1 ({ netPortInit with up := true, speed := 4 }) [(NET_CTL 1, 1)] ([(1027, { strInit with desc := descT })])); let p : Fin 4 := 1; let v : W32 := 0x18003; let k : Nat := 1027; let x : Stream := { strInit with desc := descT }; let n : NetPort := { netPortInit with up := true, speed := 4 }; s.hostUp = true ∧ s.netPort p.val = n ∧ s.str k = x ∧ s.net.applies = [v] ∧ k = applyKey v ∧ v &&& 0xFFFC7C00 = 0 ∧ (s.strChans k).isSome = true ∧ fld v 17 16 = 1 ∧ 1024 ≤ k ∧ descBad true x.desc = false ∧ s.txBad k = false) ∧
    (let s : State := (fun z : State => { z with net := { z.net with applies := [0x20005] } }) (upNt 1 ({ netPortInit with up := true, speed := 4 }) [(NET_CTL 1, 1)] ([(5, { strInit with desc := setNth descR 12 0xA000001, st := .run })])); let p : Fin 4 := 1; let v : W32 := 0x20005; let k : Nat := 5; let x : Stream := { strInit with desc := setNth descR 12 0xA000001, st := .run }; let n : NetPort := { netPortInit with up := true, speed := 4 }; s.hostUp = true ∧ s.netPort p.val = n ∧ s.str k = x ∧ s.net.applies = [v] ∧ k = applyKey v ∧ v &&& 0xFFFC7C00 = 0 ∧ (s.strChans k).isSome = true ∧ fld v 17 16 = 2 ∧ x.on = true ∧ k < 1024 ∧ multicast x.v6 x.dst = false) ∧
    (let s : State := (fun z : State => { z with net := { z.net with applies := [0x20005] } }) (upNt 1 (netPortInit) [(NET_CTL 1, 1)] ([(5, { strInit with desc := descR, st := .run })])); let p : Fin 4 := 1; let v : W32 := 0x20005; let k : Nat := 5; let x : Stream := { strInit with desc := descR, st := .run }; let n : NetPort := netPortInit; s.hostUp = true ∧ s.netPort p.val = n ∧ s.str k = x ∧ s.net.applies = [v] ∧ k = applyKey v ∧ v &&& 0xFFFC7C00 = 0 ∧ (s.strChans k).isSome = true ∧ fld v 17 16 = 2 ∧ x.on = true ∧ k < 1024 ∧ x.ports = [p.val] ∧ s.netOn p.val = true ∧ s.netIgmp p.val = true ∧ n.v2Left = 0 ∧ multicast x.v6 x.dst = true ∧ n.up = false) ∧
    (let s : State := (fun z : State => { z with net := { z.net with applies := [0x20005] } }) (upNt 1 ({ netPortInit with up := true, speed := 4 }) [(NET_CTL 1, 1)] ([(5, { strInit with desc := descR })])); let p : Fin 4 := 1; let v : W32 := 0x20005; let k : Nat := 5; let x : Stream := { strInit with desc := descR }; let n : NetPort := { netPortInit with up := true, speed := 4 }; s.hostUp = true ∧ s.netPort p.val = n ∧ s.str k = x ∧ s.net.applies = [v] ∧ k = applyKey v ∧ fld v 17 16 = 2 ∧ x.on = false) ∧
    (let s : State := (fun z : State => { z with net := { z.net with applies := [0x30005] } }) (upNt 1 ({ netPortInit with up := true, speed := 4 }) [(NET_CTL 1, 1)] ([(5, { { strInit with desc := descR, st := .run } with pkts := 7 })])); let p : Fin 4 := 1; let v : W32 := 0x30005; let k : Nat := 5; let x : Stream := { { strInit with desc := descR, st := .run } with pkts := 7 }; let n : NetPort := { netPortInit with up := true, speed := 4 }; s.hostUp = true ∧ s.netPort p.val = n ∧ s.str k = x ∧ s.net.applies = [v] ∧ k = applyKey v ∧ v &&& 0xFFFC7C00 = 0 ∧ (s.strChans k).isSome = true ∧ fld v 17 16 = 3) ∧
    (let s : State := upNt 1 ({ netPortInit with up := true, speed := 4 }) [] ([(5, { strInit with desc := descR, st := .run, quiet := 29, legB := true })]); let p : Fin 4 := 1; let k : Nat := 5; let x : Stream := { strInit with desc := descR, st := .run, quiet := 29, legB := true }; let n : NetPort := { netPortInit with up := true, speed := 4 }; s.hostUp = true ∧ s.netPort p.val = n ∧ s.str k = x ∧ k < 1024 ∧ x.st = .run ∧ x.arrA = false ∧ x.arrB = false ∧ x.timeout ≤ x.quiet + 1) ∧
    (let s : State := upNt 1 ({ netPortInit with up := true, speed := 4 }) [] ([(5, { strInit with desc := setNth descR 0 (nth 0 descR 0 ||| 1), st := .run, quietA := 29, arrB := true, legB := true, legA := true })]); let p : Fin 4 := 1; let k : Nat := 5; let x : Stream := { strInit with desc := setNth descR 0 (nth 0 descR 0 ||| 1), st := .run, quietA := 29, arrB := true, legB := true, legA := true }; let n : NetPort := { netPortInit with up := true, speed := 4 }; s.hostUp = true ∧ s.netPort p.val = n ∧ s.str k = x ∧ k < 1024 ∧ x.st = .run ∧ x.legs = 3 ∧ x.arrA = false ∧ x.arrB = true ∧ x.legB = true ∧ x.lostA = false ∧ x.timeout ≤ x.quietA + 1 ∧ 1 ≤ x.timeout) ∧
    (let s : State := (fun z : State => { z with net := { z.net with marginTicks := 2999 } }) (upNt 1 netPortInit [] [(5, { strInit with desc := descR, mMin := some (-3), mMax := some 7 })]); let p : Fin 4 := 1; let k : Nat := 5; let x : Stream := { strInit with desc := descR, mMin := some (-3), mMax := some 7 }; let n : NetPort := netPortInit; s.hostUp = true ∧ s.netPort p.val = n ∧ s.str k = x ∧ s.net.marginTicks = 2999) ∧
    (let s : State := upNt 1 ({ netPortInit with up := true, queries := [{ v6 := false, group := [0, 0, 0, 0], left := 9 }, { v6 := false, group := [7, 0, 0, 0], left := 9 }] }) [(NET_CTL 1, 1)] ([(5, { strInit with desc := descR, st := .run })]); let p : Fin 4 := 1; let k : Nat := 5; let x : Stream := { strInit with desc := descR, st := .run }; let n : NetPort := { netPortInit with up := true, queries := [{ v6 := false, group := [0, 0, 0, 0], left := 9 }, { v6 := false, group := [7, 0, 0, 0], left := 9 }] }; let q : GroupQuery := { v6 := false, group := [0, 0, 0, 0], left := 9 }; let qs : List GroupQuery := [{ v6 := false, group := [7, 0, 0, 0], left := 9 }]; s.hostUp = true ∧ s.netPort p.val = n ∧ s.str k = x ∧ n.queries = q :: qs ∧ q.group.all (· == 0) = true ∧ q.v6 = x.v6 ∧ s.portStreams p.val = [k] ∧ s.netOn p.val = true ∧ s.netIgmp p.val = true ∧ n.v2Left = 0 ∧ multicast x.v6 x.dst = true ∧ n.up = true) ∧
    (let s : State := upNt 1 ({ netPortInit with v2Left := 1 }) [] ([]); let p : Fin 4 := 1; let k : Nat := 0; let x : Stream := strInit; let n : NetPort := { netPortInit with v2Left := 1 }; s.hostUp = true ∧ s.netPort p.val = n ∧ s.str k = x ∧ n.v2Left ≤ 1) ∧
    (let s : State := upNt 1 ({ netPortInit with paused := 99 }) [] ([]); let p : Fin 4 := 1; let k : Nat := 0; let x : Stream := strInit; let n : NetPort := { netPortInit with paused := 99 }; s.hostUp = true ∧ s.netPort p.val = n ∧ s.str k = x ∧ n.paused ≤ tickBits (s.netSpeed p.val)) := by
  decide +kernel

/-- The hypotheses of NetPackets are met, clause by clause. -/
theorem witness_NetPackets :
    (let s : State := upNt 1 ({ netPortInit with up := true, speed := 4 }) [(NET_CTL 1, 1)] ([]); let p : Fin 4 := 1; let bytes : List Byte := [1, 1, 1, 1, 1, 1, 1, 1, 1, 1, 1, 1, 1, 1, 1, 1, 1, 1, 1, 1, 1, 1, 1, 1, 1, 1, 1, 1, 1, 1, 1, 1, 1, 1, 1, 1, 1, 1, 1, 1, 1, 1, 1, 1, 1, 1, 1, 1, 1, 1, 1, 1, 1, 1, 1, 1, 1, 1, 1, 1, 0, 0, 0, 0]; let frame : List Byte := [1, 1, 1, 1, 1, 1, 1, 1, 1, 1, 1, 1, 1, 1, 1, 1, 1, 1, 1, 1, 1, 1, 1, 1, 1, 1, 1, 1, 1, 1, 1, 1, 1, 1, 1, 1, 1, 1, 1, 1, 1, 1, 1, 1, 1, 1, 1, 1, 1, 1, 1, 1, 1, 1, 1, 1, 1, 1, 1, 1]; let k : Nat := 0; let x : Stream := strInit; s.hostUp = true ∧ s.str k = x ∧ frame = bytes.take (bytes.length - 4) ∧ s.netOn p.val = true ∧ (s.netPort p.val).up = true ∧ 4 ≤ bytes.length ∧ w32 (leAt bytes (bytes.length - 4) 4) ≠ crc32e frame) ∧
    (let s : State := upNt 1 ({ netPortInit with up := true, speed := 4 }) [(NET_CTL 1, 1)] ([]); let p : Fin 4 := 1; let bytes : List Byte := [1, 1, 1, 1, 1, 1, 1, 1, 1, 1, 1, 1, 1, 1, 1, 1, 1, 1, 1, 1, 1, 1, 1, 1, 1, 1, 1, 1, 1, 1, 1, 1, 1, 1, 1, 1, 1, 1, 1, 1, 91, 134, 252, 54]; let frame : List Byte := [1, 1, 1, 1, 1, 1, 1, 1, 1, 1, 1, 1, 1, 1, 1, 1, 1, 1, 1, 1, 1, 1, 1, 1, 1, 1, 1, 1, 1, 1, 1, 1, 1, 1, 1, 1, 1, 1, 1, 1]; let k : Nat := 0; let x : Stream := strInit; s.hostUp = true ∧ s.str k = x ∧ frame = bytes.take (bytes.length - 4) ∧ s.netOn p.val = true ∧ (s.netPort p.val).up = true ∧ 4 ≤ bytes.length ∧ bytes.length < 64 ∧ w32 (leAt bytes (bytes.length - 4) 4) = crc32e frame) ∧
    (let s : State := upNt 1 ({ netPortInit with up := true, speed := 4 }) [(NET_CTL 1, 1)] ([]); let p : Fin 4 := 1; let bytes : List Byte := [1, 1, 1, 1, 1, 1, 1, 1, 1, 1, 1, 1, 1, 1, 1, 1, 1, 1, 1, 1, 1, 1, 1, 1, 1, 1, 1, 1, 1, 1, 1, 1, 1, 1, 1, 1, 1, 1, 1, 1, 1, 1, 1, 1, 1, 1, 1, 1, 1, 1, 1, 1, 1, 1, 1, 1, 1, 1, 1, 1, 151, 106, 2, 110]; let frame : List Byte := [1, 1, 1, 1, 1, 1, 1, 1, 1, 1, 1, 1, 1, 1, 1, 1, 1, 1, 1, 1, 1, 1, 1, 1, 1, 1, 1, 1, 1, 1, 1, 1, 1, 1, 1, 1, 1, 1, 1, 1, 1, 1, 1, 1, 1, 1, 1, 1, 1, 1, 1, 1, 1, 1, 1, 1, 1, 1, 1, 1]; let k : Nat := 0; let x : Stream := strInit; s.hostUp = true ∧ s.str k = x ∧ frame = bytes.take (bytes.length - 4) ∧ s.netOn p.val = true ∧ (s.netPort p.val).up = true ∧ 64 ≤ bytes.length ∧ bytes.length ≤ 1522 ∧ w32 (leAt bytes (bytes.length - 4) 4) = crc32e frame ∧ s.macTaken p.val (frame.take 6) = false) ∧
    (let s : State := upNt 1 ({ netPortInit with up := true, speed := 4 }) [(NET_CTL 1, 1), (NET_CFG 1, 0x128)] ([]); let p : Fin 4 := 1; let bytes : List Byte := [1, 128, 194, 0, 0, 1, 2, 2, 2, 2, 2, 2, 136, 8, 0, 1, 0, 9, 0, 0, 0, 0, 0, 0, 0, 0, 0, 0, 0, 0, 0, 0, 0, 0, 0, 0, 0, 0, 0, 0, 0, 0, 0, 0, 0, 0, 0, 0, 0, 0, 0, 0, 0, 0, 0, 0, 0, 0, 0, 0, 145, 103, 12, 108]; let frame : List Byte := [1, 128, 194, 0, 0, 1, 2, 2, 2, 2, 2, 2, 136, 8, 0, 1, 0, 9, 0, 0, 0, 0, 0, 0, 0, 0, 0, 0, 0, 0, 0, 0, 0, 0, 0, 0, 0, 0, 0, 0, 0, 0, 0, 0, 0, 0, 0, 0, 0, 0, 0, 0, 0, 0, 0, 0, 0, 0, 0, 0]; let k : Nat := 0; let x : Stream := strInit; s.hostUp = true ∧ s.str k = x ∧ frame = bytes.take (bytes.length - 4) ∧ s.netOn p.val = true ∧ (s.netPort p.val).up = true ∧ 64 ≤ bytes.length ∧ bytes.length ≤ 1522 ∧ w32 (leAt bytes (bytes.length - 4) 4) = crc32e frame ∧ s.macTaken p.val (frame.take 6) = true ∧ etherOf frame = (false, 0x8808, 14) ∧ s.bit (NET_CFG p.val) 5 = true) ∧
    (let s : State := upNt 1 ({ netPortInit with up := true, speed := 4 }) [(NET_CTL 1, 1)] ([(5, { strInit with desc := descR, st := .waiting })]); let p : Fin 4 := 1; let bytes : List Byte := [1, 0, 94, 1, 2, 3, 2, 2, 2, 2, 2, 2, 8, 0, 69, 0, 0, 46, 0, 0, 64, 0, 64, 17, 63, 178, 10, 0, 0, 9, 239, 1, 2, 3, 23, 112, 19, 140, 0, 26, 21, 129, 128, 97, 0, 0, 0, 0, 62, 128, 0, 0, 0, 77, 1, 2, 3, 255, 0, 0, 39, 111, 140, 216]; let frame : List Byte := [1, 0, 94, 1, 2, 3, 2, 2, 2, 2, 2, 2, 8, 0, 69, 0, 0, 46, 0, 0, 64, 0, 64, 17, 63, 178, 10, 0, 0, 9, 239, 1, 2, 3, 23, 112, 19, 140, 0, 26, 21, 129, 128, 97, 0, 0, 0, 0, 62, 128, 0, 0, 0, 77, 1, 2, 3, 255, 0, 0]; let ip : List Byte := [69, 0, 0, 46, 0, 0, 64, 0, 64, 17, 63, 178, 10, 0, 0, 9, 239, 1, 2, 3, 23, 112, 19, 140, 0, 26, 21, 129, 128, 97, 0, 0, 0, 0, 62, 128, 0, 0, 0, 77, 1, 2, 3, 255, 0, 0]; let u : List Byte := [23, 112, 19, 140, 0, 26, 21, 129, 128, 97, 0, 0, 0, 0, 62, 128, 0, 0, 0, 77, 1, 2, 3, 255, 0, 0]; let pay : List Byte := [1, 2, 3, 255, 0, 0]; let k : Nat := 5; let ofs : Nat := 14; let off : Nat := 20; let e : Nat := 16000; let len : Nat := 2; let tag : Bool := false; let x : Stream := { strInit with desc := descR, st := .waiting }; s.hostUp = true ∧ s.str k = x ∧ frame = bytes.take (bytes.length - 4) ∧ s.netOn p.val = true ∧ (s.netPort p.val).up = true ∧ 64 ≤ bytes.length ∧ bytes.length ≤ 1522 ∧ w32 (leAt bytes (bytes.length - 4) 4) = crc32e frame ∧ s.macTaken p.val (frame.take 6) = true ∧ etherOf frame = (tag, 0x0800, ofs) ∧ ip = frame.drop ofs ∧ ipOf 0x0800 ip = some (false, 17, off, false) ∧ ipBad false off false ip = false ∧ udpBad false off ip = false ∧ beAt ip (off + 2) 2 ≠ 319 ∧ beAt ip (off + 2) 2 ≠ 320 ∧ u = slice ip off (udpSpan false off ip) ∧ s.rxKeys.filter (fun j => (s.str j).on && (s.str j).pair == p.val / 2 && (s.str j).usesLeg (p.val % 2 == 1) && (s.str j).v6 == false &&
      (s.str j).dst == addrAt false ip true && (s.str j).dport == beAt u 2 2) = [k] ∧ rtpPayload (u.drop 8) = some pay ∧ x.src = addrAt false ip false ∧ x.d 2 = w32 (beAt u 16 4) ∧ beAt u 9 1 % 128 = x.pt ∧ (s.strChans k).getD 0 = 1 ∧ x.l24 = true ∧ pay.length = 3 * len ∧ 1 ≤ len ∧ len ≤ 192 ∧ (if p.val % 2 = 1 then x.rgB else x.rgA) < fld (x.d 4) 15 8 ∧ s.follows = false ∧ s.twn.cutoff = false ∧ x.st = .waiting ∧ x.jitter = [] ∧ s.nearIndex (uwrap 32 ((beAt u 12 4 : Int) - (x.d 3).toNat)) = (e : Int) ∧ s.tickN ≤ e / s.tickLen + x.jb ∧ (e + len - 1) / s.tickLen + x.jb ≤ s.tickN + 63) ∧
    (let s : State := (fun z : State => { z with twn := { z.twn with role := .active } }) (upNt 1 ({ netPortInit with up := true, speed := 4 }) [(NET_CTL 1, 1)] ([(5, { strInit with desc := descR, st := .waiting })])); let p : Fin 4 := 1; let bytes : List Byte := [1, 0, 94, 1, 2, 3, 2, 2, 2, 2, 2, 2, 8, 0, 69, 0, 0, 46, 0, 0, 64, 0, 64, 17, 63, 178, 10, 0, 0, 9, 239, 1, 2, 3, 23, 112, 19, 140, 0, 26, 21, 129, 128, 97, 0, 0, 0, 0, 62, 128, 0, 0, 0, 77, 1, 2, 3, 255, 0, 0, 39, 111, 140, 216]; let frame : List Byte := [1, 0, 94, 1, 2, 3, 2, 2, 2, 2, 2, 2, 8, 0, 69, 0, 0, 46, 0, 0, 64, 0, 64, 17, 63, 178, 10, 0, 0, 9, 239, 1, 2, 3, 23, 112, 19, 140, 0, 26, 21, 129, 128, 97, 0, 0, 0, 0, 62, 128, 0, 0, 0, 77, 1, 2, 3, 255, 0, 0]; let ip : List Byte := [69, 0, 0, 46, 0, 0, 64, 0, 64, 17, 63, 178, 10, 0, 0, 9, 239, 1, 2, 3, 23, 112, 19, 140, 0, 26, 21, 129, 128, 97, 0, 0, 0, 0, 62, 128, 0, 0, 0, 77, 1, 2, 3, 255, 0, 0]; let u : List Byte := [23, 112, 19, 140, 0, 26, 21, 129, 128, 97, 0, 0, 0, 0, 62, 128, 0, 0, 0, 77, 1, 2, 3, 255, 0, 0]; let pay : List Byte := [1, 2, 3, 255, 0, 0]; let k : Nat := 5; let ofs : Nat := 14; let off : Nat := 20; let e : Nat := 16000; let len : Nat := 2; let tag : Bool := false; let x : Stream := { strInit with desc := descR, st := .waiting }; s.hostUp = true ∧ s.str k = x ∧ frame = bytes.take (bytes.length - 4) ∧ s.twn.role = .active ∧ etherOf frame = (tag, 0x0800, ofs) ∧ ip = frame.drop ofs ∧ ipOf 0x0800 ip = some (false, 17, off, false) ∧ u = slice ip off (udpSpan false off ip) ∧ rtpPayload (u.drop 8) = some pay ∧ s.rxKeys.filter (fun j => (s.str j).on && (s.str j).pair == p.val / 2 && (s.str j).usesLeg (p.val % 2 == 1) &&
      (s.str j).v6 == false && (s.str j).dst == addrAt false ip true && (s.str j).dport == beAt u 2 2 && (s.str j).src == addrAt false ip false && (s.str j).d 2 == w32 (beAt u 16 4)) = [k] ∧ (s.strChans k).getD 0 = 1 ∧ x.l24 = true ∧ pay.length = 3 * len ∧ 1 ≤ len ∧ s.twn.cutoff = false ∧ x.st = .waiting ∧ x.jitter = [] ∧ s.nearIndex (uwrap 32 ((beAt u 12 4 : Int) - (x.d 3).toNat)) = (e : Int) ∧ s.tickN ≤ e / s.tickLen + x.jb ∧ (e + len - 1) / s.tickLen + x.jb ≤ s.tickN + 63) ∧
    (let s : State := (fun z : State => { z with net := { z.net with due := [1, 3] } }) (upNt 1 ({ netPortInit with up := true, speed := 4 }) [(NET_CTL 1, 1)] ([(1027, { strInit with desc := descT, st := .run })])); let p : Fin 4 := 1; let bytes : List Byte := []; let frame : List Byte := []; let f : List Byte := ((fun z : State => { z with net := { z.net with due := [1, 3] } }) (upNt 1 ({ netPortInit with up := true, speed := 4 }) [(NET_CTL 1, 1)] ([(1027, { strInit with desc := descT, st := .run })]))).mediaFrame 1 1027 16000; let k : Nat := 1027; let e : Nat := 16000; let x : Stream := { strInit with desc := descT, st := .run }; s.hostUp = true ∧ s.str k = x ∧ frame = bytes.take (bytes.length - 4) ∧ s.netOn p.val = true ∧ s.sys.mediaRun = true ∧ p.val ∈ s.net.due ∧ s.txKeys = [k] ∧ 1024 ≤ k ∧ x.ports.contains p.val = true ∧ s.pktDue k = some e ∧ (s.netPort p.val).up = true ∧ s.pktWire p.val x ((s.strChans k).getD 0) ≤ tickCap (s.netSpeed p.val) ∧ f = s.mediaFrame p.val k e) ∧
    (let s : State := (fun z : State => { z with net := { z.net with due := [1, 3] } }) (upNt 1 ({ netPortInit with up := true, speed := 4 }) [(NET_CTL 1, 1)] ([(1027, { strInit with desc := descT, st := .run })])); let p : Fin 4 := 1; let bytes : List Byte := []; let frame : List Byte := []; let f : List Byte := ((fun z : State => { z with net := { z.net with due := [1, 3] } }) (upNt 1 ({ netPortInit with up := true, speed := 4 }) [(NET_CTL 1, 1)] ([(1027, { strInit with desc := descT, st := .run })]))).mediaFrame 1 1027 16000; let k : Nat := 1027; let e : Nat := 16000; let x : Stream := { strInit with desc := descT, st := .run }; s.hostUp = true ∧ s.str k = x ∧ frame = bytes.take (bytes.length - 4) ∧ 1024 ≤ k ∧ multicast x.v6 x.dst = true ∧ x.v6 = false ∧ x.dst.length = 4 ∧ s.bit (NET_VLAN p.val) 12 = false ∧ f = s.mediaFrame p.val k e) ∧
    (let s : State := (fun z : State => { z with net := { z.net with due := [1, 3] } }) (upNt 1 (netPortInit) [(NET_CTL 1, 1)] ([(1027, { strInit with desc := descT, st := .run })])); let p : Fin 4 := 1; let bytes : List Byte := []; let frame : List Byte := []; let k : Nat := 1027; let e : Nat := 16000; let x : Stream := { strInit with desc := descT, st := .run }; s.hostUp = true ∧ s.str k = x ∧ frame = bytes.take (bytes.length - 4) ∧ s.netOn p.val = true ∧ s.sys.mediaRun = true ∧ p.val ∈ s.net.due ∧ s.txKeys = [k] ∧ x.ports.contains p.val = true ∧ s.pktDue k = some e ∧ (s.netPort p.val).up = false) ∧
    (let s : State := (fun z : State => { z with net := { z.net with vec3Tx := true, txCons := 15 } }) (upNt 1 ({ netPortInit with up := true, speed := 4 }) [(NET_CTL 1, 1), (STR_HQ_CTL, 0x264), (STR_HQ_TX_PROD, 3)] ([])); let p : Fin 4 := 1; let bytes : List Byte := [60, 0, 1, 0, 0, 0, 0, 0, 0, 0, 0, 0, 0, 0, 0, 0, 0, 1, 2, 3, 4, 5, 6, 7, 8, 9, 10, 11, 12, 13, 14, 15, 16, 17, 18, 19, 20, 21, 22, 23, 24, 25, 26, 27, 28, 29, 30, 31, 32, 33, 34, 35, 36, 37, 38, 39, 40, 41, 42, 43, 44, 45, 46, 47, 48, 49, 50, 51, 52, 53, 54, 55, 56, 57, 58, 59]; let frame : List Byte := [60, 0, 1, 0, 0, 0, 0, 0, 0, 0, 0, 0, 0, 0, 0, 0, 0, 1, 2, 3, 4, 5, 6, 7, 8, 9, 10, 11, 12, 13, 14, 15, 16, 17, 18, 19, 20, 21, 22, 23, 24, 25, 26, 27, 28, 29, 30, 31, 32, 33, 34, 35, 36, 37, 38, 39, 40, 41, 42, 43, 44, 45, 46, 47, 48, 49, 50, 51, 52, 53, 54, 55]; let u : List Byte := [0, 1, 2, 3, 4, 5, 6, 7, 8, 9, 10, 11, 12, 13, 14, 15, 16, 17, 18, 19, 20, 21, 22, 23, 24, 25, 26, 27, 28, 29, 30, 31, 32, 33, 34, 35, 36, 37, 38, 39, 40, 41, 42, 43, 44, 45, 46, 47, 48, 49, 50, 51, 52, 53, 54, 55, 56, 57, 58, 59]; let f : List Byte := [60, 0, 1, 0, 0, 0, 0, 0, 0, 0, 0, 0, 0, 0, 0, 0, 0, 1, 2, 3, 4, 5, 6, 7, 8, 9, 10, 11, 12, 13, 14, 15, 16, 17, 18, 19, 20, 21, 22, 23, 24, 25, 26, 27, 28, 29, 30, 31, 32, 33, 34, 35, 36, 37, 38, 39, 40, 41, 42, 43, 44, 45, 46, 47, 48, 49, 50, 51, 52, 53, 54, 55, 56, 57, 58, 59]; let k : Nat := 0; let x : Stream := strInit; s.hostUp = true ∧ s.str k = x ∧ frame = bytes.take (bytes.length - 4) ∧ s.bit STR_HQ_CTL 9 = true ∧ s.net.txCons ≠ s.rdF STR_HQ_TX_PROD 11 0 % s.hqTxN ∧ s.net.dmaStopped = false ∧ f = s.hqTxSlot bytes ∧ leAt f 2 1 = p.val ∧ 60 ≤ leAt f 0 2 ∧ leAt f 0 2 ≤ 1514 ∧ (s.netPort p.val).paused = 0 ∧ s.netOn p.val = true ∧ (s.netPort p.val).up = true ∧ leAt f 3 1 % 2 = 0 ∧ s.net.vec3Tx = true ∧ u = slice f 16 (leAt f 0 2) ∧ s.portBusy p.val u.length = false) ∧
    (let s : State := (fun z : State => { z with net := { z.net with vec3Tx := true, txCons := 15 } }) (upNt 1 ({ netPortInit with up := true, paused := 5 }) [(NET_CTL 1, 1), (STR_HQ_CTL, 0x264), (STR_HQ_TX_PROD, 3)] ([])); let p : Fin 4 := 1; let bytes : List Byte := [60, 0, 1, 0, 0, 0, 0, 0, 0, 0, 0, 0, 0, 0, 0, 0, 0, 1, 2, 3, 4, 5, 6, 7, 8, 9, 10, 11, 12, 13, 14, 15, 16, 17, 18, 19, 20, 21, 22, 23, 24, 25, 26, 27, 28, 29, 30, 31, 32, 33, 34, 35, 36, 37, 38, 39, 40, 41, 42, 43, 44, 45, 46, 47, 48, 49, 50, 51, 52, 53, 54, 55, 56, 57, 58, 59]; let frame : List Byte := [60, 0, 1, 0, 0, 0, 0, 0, 0, 0, 0, 0, 0, 0, 0, 0, 0, 1, 2, 3, 4, 5, 6, 7, 8, 9, 10, 11, 12, 13, 14, 15, 16, 17, 18, 19, 20, 21, 22, 23, 24, 25, 26, 27, 28, 29, 30, 31, 32, 33, 34, 35, 36, 37, 38, 39, 40, 41, 42, 43, 44, 45, 46, 47, 48, 49, 50, 51, 52, 53, 54, 55]; let u : List Byte := [0, 1, 2, 3, 4, 5, 6, 7, 8, 9, 10, 11, 12, 13, 14, 15, 16, 17, 18, 19, 20, 21, 22, 23, 24, 25, 26, 27, 28, 29, 30, 31, 32, 33, 34, 35, 36, 37, 38, 39, 40, 41, 42, 43, 44, 45, 46, 47, 48, 49, 50, 51, 52, 53, 54, 55, 56, 57, 58, 59]; let f : List Byte := [60, 0, 1, 0, 0, 0, 0, 0, 0, 0, 0, 0, 0, 0, 0, 0, 0, 1, 2, 3, 4, 5, 6, 7, 8, 9, 10, 11, 12, 13, 14, 15, 16, 17, 18, 19, 20, 21, 22, 23, 24, 25, 26, 27, 28, 29, 30, 31, 32, 33, 34, 35, 36, 37, 38, 39, 40, 41, 42, 43, 44, 45, 46, 47, 48, 49, 50, 51, 52, 53, 54, 55, 56, 57, 58, 59]; let k : Nat := 0; let x : Stream := strInit; s.hostUp = true ∧ s.str k = x ∧ frame = bytes.take (bytes.length - 4) ∧ s.bit STR_HQ_CTL 9 = true ∧ s.net.dmaStopped = false ∧ f = s.hqTxSlot bytes ∧ leAt f 2 1 = p.val ∧ 60 ≤ leAt f 0 2 ∧ leAt f 0 2 ≤ 1514 ∧ s.netOn p.val = true ∧ (s.netPort p.val).up = true ∧ leAt f 3 1 % 2 = 0 ∧ u = slice f 16 (leAt f 0 2) ∧ (0 < (s.netPort p.val).paused ∨ s.portBusy p.val u.length = true)) ∧
    (let s : State := up; let bytes : List Byte := []; let frame : List Byte := []; let k : Nat := 0; let x : Stream := strInit; s.hostUp = true ∧ s.str k = x ∧ frame = bytes.take (bytes.length - 4)) := by
  decide +kernel

/-! ### Network time (R313 to R333) -/

/-- A message head on leg B, an Announce and a foreign master heard once; a module with network time, registers and pulses set. -/
def hd1 : PtpHead := { legB := true, v6 := false, domain := 0, version := 2, src := 9, srcPort := 1, seq := 5, corr := 0 }
def an1 : AnnounceBody := { gm := 0xABC, pri1 := 128, clockClass := 6, accuracy := 0x20, variance := 0, pri2 := 128, steps := 0, utc := 37, utcValid := true, leap61 := false, leap59 := false, ptpScale := true }
def fm1 : ForeignMaster := { src := 9, srcPort := 1, gm := 0xABC, pri1 := 128, clockClass := 6, accuracy := 0x20, variance := 0, pri2 := 128, steps := 0, utc := 37, ptpScale := true, count := 1 }
def upTm (f : TimSt → TimSt) (rs : List (Nat × W32)) (ps : Sparse Pps) : State := foldS (fun t q => t.wr q.1 q.2) { up with tim := f up.tim, pps := ps, net := { up.net with ports := [(1, { netPortInit with up := true })] } } rs

/-- The hypotheses of NetTimeAndPulses are met, clause by clause. -/
theorem witness_NetTimeAndPulses :
    (let s : State := upTm (fun t => { t with pst := .disabled }) [] []; let p : Fin 4 := 2; let v : W32 := 3; let x : Pps := ppsInit; s.hostUp = true ∧ s.pulse p.val = x ∧ bitOf v 0 = true ∧ bitOf v 2 = false ∧ s.timOn = false ∧ s.intervalsBad = false ∧ s.tim.qualified = false ∧ s.tim.pst = .disabled) ∧
    (let s : State := upTm (fun t => { t with pst := .disabled }) [(TIM_CFG, 4)] []; let p : Fin 4 := 2; let v : W32 := 1; let x : Pps := ppsInit; s.hostUp = true ∧ s.pulse p.val = x ∧ bitOf v 0 = true ∧ s.timOn = false ∧ (2 ≤ s.rdF TIM_CFG 3 2 ∨ 128 ≤ s.rdF TIM_CFG 15 8 ∨ fld (s.rd TIM_INTERVALS) 15 12 < 2 ∨ 10 < fld (s.rd TIM_INTERVALS) 15 12 ∨ 4 < sext 4 (fld (s.rd TIM_INTERVALS) 7 4) ∨ sext 4 (fld (s.rd TIM_INTERVALS) 7 4) < 0 ∨ 1 < sext 4 (fld (s.rd TIM_INTERVALS) 3 0) ∨
    (s.rdF TIM_CFG 3 2 = 1 ∧ sext 4 (fld (s.rd TIM_INTERVALS) 3 0) < -1))) ∧
    (let s : State := upTm (fun t => { t with now := 7 }) [(TIM_SET_SLO, 9), (TIM_SET_NS, 11)] []; let p : Fin 4 := 2; let v : W32 := 0; let x : Pps := ppsInit; s.hostUp = true ∧ s.pulse p.val = x ∧ bitOf v 0 = false ∧ s.timOn = false ∧ s.tim.qualified = false ∧ s.twn.paired = false ∧ (s.rd TIM_SET_NS).toNat ≤ 999999999 ∧ (∀ j ∈ [0, 1, 2, 3], (s.pulse j).armed = false)) ∧
    (let s : State := { upTm id [] [] with twn := { up.twn with paired := true } }; let p : Fin 4 := 2; let v : W32 := 0; let x : Pps := ppsInit; s.hostUp = true ∧ s.pulse p.val = x ∧ bitOf v 0 = false ∧ s.timOn = false ∧ s.tim.qualified = false ∧ s.twn.paired = true) ∧
    (let s : State := upTm (fun t => { t with stepHeld := true }) [] []; let p : Fin 4 := 2; let v : W32 := 0x5E7C; let x : Pps := ppsInit; s.hostUp = true ∧ s.pulse p.val = x ∧ s.class1 = true ∧ v = 0x5E7C ∧ s.tim.stepHeld = true) ∧
    (let s : State := upTm (fun t => { t with stepHeld := true }) [] []; let p : Fin 4 := 2; let v : W32 := 0x5E7D; let x : Pps := ppsInit; s.hostUp = true ∧ s.pulse p.val = x ∧ s.class1 = true ∧ (v ≠ 0x5E7C ∨ s.tim.stepHeld = false)) ∧
    (let s : State := { upTm id [] [] with prs := resetPrs }; let p : Fin 4 := 2; let x : Pps := ppsInit; s.hostUp = true ∧ s.pulse p.val = x ∧ s.class1 = false) ∧
    (let s : State := upTm (fun t => { t with pst := .slave, qualified := true, mono := 374999923, syncAt := 0 }) [(TIM_CTL, 1)] []; let p : Fin 4 := 2; let x : Pps := ppsInit; let dt : Nat := 77; s.hostUp = true ∧ s.pulse p.val = x ∧ s.timOn = true ∧ s.tim.pst = .slave ∧ s.tim.qualified = true ∧ s.syncLimit ≤ s.tim.mono + dt - s.tim.syncAt) ∧
    (let s : State := upTm (fun t => { t with mono := 374999922, syncAt := 0 }) [(TIM_CTL, 1)] []; let p : Fin 4 := 2; let x : Pps := ppsInit; let dt : Nat := 77; s.hostUp = true ∧ s.pulse p.val = x ∧ s.tim.mono + dt - s.tim.syncAt < s.syncLimit) ∧
    (let s : State := upTm (fun t => { t with now := 1000000000 }) [(PPS_WIDTH 2, 8), (PPS_PERIOD 2, 1000), (PPS_START_SLO 2, 1)] []; let p : Fin 4 := 2; let v : W32 := 1; let x : Pps := ppsInit; let st : Nat := 1000000000; let per : Nat := 1000; let wid : Nat := 8; s.hostUp = true ∧ s.pulse p.val = x ∧ bitOf v 1 = false ∧ per = (s.rd (PPS_PERIOD p.val)).toNat ∧ wid = (s.rd (PPS_WIDTH p.val)).toNat ∧ st = ((s.rd (PPS_START_SHI p.val)).toNat * 2 ^ 32 + (s.rd (PPS_START_SLO p.val)).toNat) * 1000000000 + (s.rd (PPS_START_NS p.val)).toNat ∧ (s.rd (PPS_START_NS p.val)).toNat ≤ 999999999 ∧ 1000 ≤ per ∧ 8 ≤ wid ∧ wid < per ∧ s.tim.now ≤ st) ∧
    (let s : State := upTm (fun t => { t with now := 1000000001 }) [(PPS_WIDTH 2, 8), (PPS_PERIOD 2, 0), (PPS_START_SLO 2, 1)] []; let p : Fin 4 := 2; let v : W32 := 5; let x : Pps := ppsInit; let st : Nat := 1000000000; let per : Nat := 0; let wid : Nat := 8; s.hostUp = true ∧ s.pulse p.val = x ∧ bitOf v 1 = false ∧ per = (s.rd (PPS_PERIOD p.val)).toNat ∧ wid = (s.rd (PPS_WIDTH p.val)).toNat ∧ st = ((s.rd (PPS_START_SHI p.val)).toNat * 2 ^ 32 + (s.rd (PPS_START_SLO p.val)).toNat) * 1000000000 + (s.rd (PPS_START_NS p.val)).toNat ∧ (s.rd (PPS_START_NS p.val)).toNat ≤ 999999999 ∧ per = 0 ∧ 8 ≤ wid ∧ st < s.tim.now) ∧
    (let s : State := upTm (fun t => { t with now := 5000 }) [(PPS_WIDTH 2, 8), (PPS_PERIOD 2, 999)] [(2, { ppsInit with armed := true })]; let p : Fin 4 := 2; let v : W32 := 1; let x : Pps := { ppsInit with armed := true }; s.hostUp = true ∧ s.pulse p.val = x ∧ bitOf v 1 = false ∧ ((1 ≤ (s.rd (PPS_PERIOD p.val)).toNat ∧ (s.rd (PPS_PERIOD p.val)).toNat ≤ 999) ∨ (s.rd (PPS_WIDTH p.val)).toNat < 8 ∨ (1 ≤ (s.rd (PPS_PERIOD p.val)).toNat ∧ (s.rd (PPS_PERIOD p.val)).toNat ≤ (s.rd (PPS_WIDTH p.val)).toNat) ∨ 999999999 < (s.rd (PPS_START_NS p.val)).toNat)) ∧
    (let s : State := upTm (fun t => { t with now := 5000 }) [] [(2, { ppsInit with armed := true, active := true })]; let p : Fin 4 := 2; let x : Pps := { ppsInit with armed := true, active := true }; s.hostUp = true ∧ s.pulse p.val = x) ∧
    (let s : State := upTm (fun t => { t with now := 5000 }) [] [(2, { ppsInit with armed := true, start := 6000, period := 1000, width := 8, nextK := 2 })]; let p : Fin 4 := 2; let x : Pps := { ppsInit with armed := true, start := 6000, period := 1000, width := 8, nextK := 2 }; s.hostUp = true ∧ s.pulse p.val = x ∧ x.armed = true ∧ s.tim.now ≤ x.start + x.nextK * x.period) ∧
    (let s : State := upTm (fun t => { t with now := 5000 }) [] [(2, { ppsInit with active := true, endAt := 5008 })]; let p : Fin 4 := 2; let x : Pps := { ppsInit with active := true, endAt := 5008 }; s.hostUp = true ∧ s.pulse p.val = x ∧ x.active = true ∧ s.tim.now ≤ x.endAt) := by
  decide +kernel

/-- The hypotheses of PtpMessages are met, clause by clause. -/
theorem witness_PtpMessages :
    (let s : State := upTm (fun t => { t with pst := .listening }) [(TIM_CTL, 1)] []; let h : PtpHead := hd1; let b : AnnounceBody := an1; let l : PtpLeg := resetLeg; s.timOn = true ∧ s.tim.leg h.legB = l ∧ s.ptpHere h = true ∧ b.steps < 255 ∧ s.bit TIM_CFG 5 = false ∧ s.tim.pst = .listening ∧ s.tim.serving = 0 ∧ s.tim.gm = 0 ∧ s.tim.qualified = false ∧ s.slaveOnly = true ∧ s.tim.legA.foreign = [] ∧ s.tim.legB.foreign = [] ∧ s.tim.legA.master = none ∧ s.tim.legB.master = none) ∧
    (let s : State := upTm (fun t => { t with pst := .listening, legB := { resetLeg with foreign := [fm1] } }) [(TIM_CTL, 1)] []; let h : PtpHead := hd1; let b : AnnounceBody := an1; let m : ForeignMaster := fm1; let l : PtpLeg := { resetLeg with foreign := [fm1] }; s.timOn = true ∧ s.tim.leg h.legB = l ∧ s.ptpHere h = true ∧ b.steps < 255 ∧ s.bit TIM_CFG 5 = false ∧ s.tim.pst = .listening ∧ s.tim.serving = 0 ∧ s.tim.gm = 0 ∧ s.tim.qualified = false ∧ s.slaveOnly = true ∧ l.foreign = [m] ∧ m.src = h.src ∧ m.srcPort = h.srcPort ∧ m.count = 1 ∧ (s.tim.leg (!h.legB)).foreign = [] ∧ s.tim.legA.master = none ∧ s.tim.legB.master = none ∧ b.gm ≠ 0) ∧
    (let s : State := upTm (fun t => { t with now := 5000 }) [(TIM_CTL, 1), (TIM_CFG, 0x30)] []; let h : PtpHead := hd1; let b : AnnounceBody := an1; let l : PtpLeg := resetLeg; s.timOn = true ∧ s.tim.leg h.legB = l ∧ s.ptpHere h = true ∧ (255 ≤ b.steps ∨ (s.bit TIM_CFG 5 = true ∧ s.acceptable b.gm = false))) ∧
    (let s : State := upTm (fun t => { t with now := 5000 }) [(TIM_CTL, 1)] []; let h : PtpHead := { hd1 with version := 1 }; let l : PtpLeg := resetLeg; s.timOn = true ∧ s.tim.leg h.legB = l ∧ (h.version ≠ 2 ∨ h.domain.toNat ≠ s.rdF TIM_CFG 15 8 ∨ h.v6 ≠ s.bit TIM_CFG 1 ∨ (s.netPort (s.timPort h.legB)).up = false)) ∧
    (let s : State := upTm (fun t => { t with pst := .slave, serving := 2, legB := { resetLeg with master := some fm1, mpd := 10, wait := some { src := 9, seq := 5, rx := 100, corr := 3 }, t12 := some 40, reqTx := some 900, reqSeq := 6 } }) [(TIM_CTL, 1)] []; let h : PtpHead := hd1; let l : PtpLeg := { resetLeg with master := some fm1, mpd := 10, wait := some { src := 9, seq := 5, rx := 100, corr := 3 }, t12 := some 40, reqTx := some 900, reqSeq := 6 }; s.timOn = true ∧ s.tim.leg h.legB = l ∧ s.ptpHere h = true ∧ s.fromMaster h = true) ∧
    (let s : State := upTm (fun t => { t with pst := .slave, serving := 2, first := true, legB := { resetLeg with master := some fm1, mpd := 10, wait := some { src := 9, seq := 5, rx := 100, corr := 3 }, t12 := some 40, reqTx := some 900, reqSeq := 6 } }) [(TIM_CTL, 1)] []; let h : PtpHead := hd1; let l : PtpLeg := { resetLeg with master := some fm1, mpd := 10, wait := some { src := 9, seq := 5, rx := 100, corr := 3 }, t12 := some 40, reqTx := some 900, reqSeq := 6 }; let o : Int := 6; let t1 : Int := 3903; let t2 : Int := 4000; let dt : Nat := 50; s.timOn = true ∧ s.tim.leg h.legB = l ∧ s.ptpHere h = true ∧ s.fromMaster h = true ∧ o = t1 + l.mpd + h.corr - s.ingress h.legB t2 ∧ s.tim.serving = (if h.legB = true then 2 else 1) ∧ (s.tim.leg (!h.legB)).lastOffset = none ∧ s.tim.pst = .slave ∧ s.tim.ackArmed = false ∧ s.tim.stepHeld = false ∧ s.tim.first = true ∧ o.natAbs ≤ 20 ∧ s.tim.slewAt ≤ s.tim.now + dt ∧ s.tim.qualified = false ∧ s.tim.good + 1 < fld (s.rd TIM_QUAL) 23 16) ∧
    (let s : State := upTm (fun t => { t with pst := .slave, serving := 2, first := true, now := 5000, legB := { resetLeg with master := some fm1, mpd := 10, wait := some { src := 9, seq := 5, rx := 100, corr := 3 }, t12 := some 40, reqTx := some 900, reqSeq := 6 } }) [(TIM_CTL, 1)] []; let h : PtpHead := hd1; let l : PtpLeg := { resetLeg with master := some fm1, mpd := 10, wait := some { src := 9, seq := 5, rx := 100, corr := 3 }, t12 := some 40, reqTx := some 900, reqSeq := 6 }; let w : WaitSync := { src := 9, seq := 5, rx := 100, corr := 3 }; let o : Int := -1047; let t1 : Int := -960; s.timOn = true ∧ s.tim.leg h.legB = l ∧ s.ptpHere h = true ∧ s.fromMaster h = true ∧ l.wait = some w ∧ w.src = h.src ∧ w.seq = h.seq ∧ o = t1 + l.mpd + (w.corr + h.corr) - w.rx ∧ s.tim.serving = (if h.legB = true then 2 else 1) ∧ (s.tim.leg (!h.legB)).lastOffset = none ∧ s.tim.pst = .slave ∧ s.tim.ackArmed = false ∧ s.tim.stepHeld = false ∧ s.tim.first = true ∧ 20 < o.natAbs ∧ o.natAbs ≤ (s.rd TIM_STEP_MAX).toNat ∧ s.tim.qualified = false ∧ s.tim.good + 1 < fld (s.rd TIM_QUAL) 23 16 ∧ (∀ j ∈ [0, 1, 2, 3], (s.pulse j).armed = false)) ∧
    (let s : State := upTm (fun t => { t with pst := .slave, serving := 2, first := true, legB := { resetLeg with master := some fm1, mpd := 10, wait := some { src := 9, seq := 5, rx := 100, corr := 3 }, t12 := some 40, reqTx := some 900, reqSeq := 6 } }) [(TIM_CTL, 1)] []; let h : PtpHead := hd1; let l : PtpLeg := { resetLeg with master := some fm1, mpd := 10, wait := some { src := 9, seq := 5, rx := 100, corr := 3 }, t12 := some 40, reqTx := some 900, reqSeq := 6 }; let o : Int := 2000000006; let t1 : Int := 2000003903; let t2 : Int := 4000; s.timOn = true ∧ s.tim.leg h.legB = l ∧ s.ptpHere h = true ∧ s.fromMaster h = true ∧ o = t1 + l.mpd + h.corr - s.ingress h.legB t2 ∧ s.tim.serving = (if h.legB = true then 2 else 1) ∧ (s.tim.leg (!h.legB)).lastOffset = none ∧ s.tim.pst = .slave ∧ s.tim.ackArmed = false ∧ s.tim.stepHeld = false ∧ s.tim.first = true ∧ 20 < o.natAbs ∧ (s.rd TIM_STEP_MAX).toNat < o.natAbs ∧ s.rd TIM_STEP_MAX ≠ 0 ∧ s.tim.qualified = false) ∧
    (let s : State := upTm (fun t => { t with pst := .slave, legB := { resetLeg with master := some fm1, mpd := 10, wait := some { src := 9, seq := 5, rx := 100, corr := 3 }, t12 := some 40, reqTx := some 900, reqSeq := 6 } }) [(TIM_CTL, 1)] []; let h : PtpHead := hd1; let l : PtpLeg := { resetLeg with master := some fm1, mpd := 10, wait := some { src := 9, seq := 5, rx := 100, corr := 3 }, t12 := some 40, reqTx := some 900, reqSeq := 6 }; s.timOn = true ∧ s.tim.leg h.legB = l ∧ l.master.isSome = true ∧ (s.tim.pst = .slave ∨ s.tim.pst = .uncalibrated) ∧ (s.netPort (s.timPort h.legB)).up = true) ∧
    (let s : State := { upTm (fun t => { t with pst := .slave, legB := { resetLeg with master := some fm1, mpd := 10, wait := some { src := 9, seq := 5, rx := 100, corr := 3 }, t12 := some 40, reqTx := some 900, reqSeq := 6 } }) [(TIM_CTL, 1)] [] with net := up.net }; let h : PtpHead := hd1; let l : PtpLeg := { resetLeg with master := some fm1, mpd := 10, wait := some { src := 9, seq := 5, rx := 100, corr := 3 }, t12 := some 40, reqTx := some 900, reqSeq := 6 }; s.timOn = true ∧ s.tim.leg h.legB = l ∧ l.master.isSome = true ∧ (s.tim.pst = .slave ∨ s.tim.pst = .uncalibrated) ∧ (s.netPort (s.timPort h.legB)).up = false) ∧
    (let s : State := upTm (fun t => { t with pst := .slave, legB := { resetLeg with master := some fm1, mpd := 10, wait := some { src := 9, seq := 5, rx := 100, corr := 3 }, t12 := some 40, reqTx := some 900, reqSeq := 6 } }) [(TIM_CTL, 1)] []; let h : PtpHead := hd1; let l : PtpLeg := { resetLeg with master := some fm1, mpd := 10, wait := some { src := 9, seq := 5, rx := 100, corr := 3 }, t12 := some 40, reqTx := some 900, reqSeq := 6 }; let t3 : Int := 900; let d : Int := 40; let rs : W64 := (up.clockId); s.timOn = true ∧ s.tim.leg h.legB = l ∧ s.ptpHere h = true ∧ s.fromMaster h = true ∧ l.reqTx = some t3 ∧ l.t12 = some d ∧ rs = s.clockId ∧ (h.seq + 1) % 65536 = l.reqSeq) ∧
    (let s : State := upTm (fun t => { t with pst := .master }) [(TIM_CTL, 1)] []; let h : PtpHead := hd1; let l : PtpLeg := resetLeg; s.timOn = true ∧ s.tim.leg h.legB = l ∧ s.tim.pst = .master ∧ (s.netPort (s.timPort h.legB)).up = true) ∧
    (let s : State := upTm (fun t => { t with pst := .master }) [(TIM_CTL, 1)] []; let h : PtpHead := hd1; let l : PtpLeg := resetLeg; s.timOn = true ∧ s.tim.leg h.legB = l ∧ s.ptpHere h = true ∧ s.tim.pst = .master) ∧
    (let s : State := upTm (fun t => { t with pst := .slave, serving := 1, gm := 0xABC, mono := 5999999950, legA := { resetLeg with master := some fm1, foreign := [fm1] } }) [(TIM_CTL, 1)] []; let h : PtpHead := hd1; let m : ForeignMaster := fm1; let l : PtpLeg := resetLeg; let dt : Nat := 50; s.timOn = true ∧ s.tim.leg h.legB = l ∧ s.slaveOnly = true ∧ s.tim.legA.master = some m ∧ s.tim.legB.master = none ∧ s.tim.legA.foreign = [m] ∧ s.tim.legB.foreign = [] ∧ s.tim.serving = 1 ∧ s.tim.pst = .slave ∧ s.tim.gm = m.gm ∧ m.gm ≠ 0 ∧ s.tim.qualified = false ∧ s.annLimit ≤ s.tim.mono + dt - s.tim.legA.annAt) ∧
    (let s : State := upTm (fun t => { t with pst := .slave, serving := 1, gm := 0xABC, mono := 5999999949, legA := { resetLeg with master := some fm1, foreign := [fm1] } }) [(TIM_CTL, 1)] []; let h : PtpHead := hd1; let l : PtpLeg := resetLeg; let dt : Nat := 50; s.timOn = true ∧ s.tim.leg h.legB = l ∧ s.tim.pst = .slave ∧ s.tim.mono + dt - s.tim.legA.annAt < s.annLimit ∧ s.tim.mono + dt - s.tim.legB.annAt < s.annLimit) := by
  decide +kernel

/-! ### Twin pairs (R405 to R438) -/

/-- A module with STRAP_TWIN high, its pair and registers set; a state copy. -/
def upTw (f : TwnSt → TwnSt) (rs : List (Nat × W32)) : State := foldS (fun t q => t.wr q.1 q.2) { up with sys := { up.sys with straps := 6 }, twn := f up.twn } rs
def copy0 : StateCopy := { tick := 5000, session := 8, acc := 3, exe := 2, records := [{ seq := 4, tick := 6000, op := 0, args := [0, 0, 0], granted := true, confirm := false }], dram := [(0x2000001, 9)], pool := [(20, 6)], cores := [(3, { coreInit with dead := true, x := [(16, 3)] })], canopy := resetCanopy, graph := resetGraph, ports := [], streams := [], regs := [], mib := 66 }

/-- The hypotheses of TwinPairLinkAndBundles are met, clause by clause. -/
theorem witness_TwinPairLinkAndBundles :
    (let s : State := upTw (fun t => { t with misses := 0 }) []; let v : W32 := 0x7A17; s.hostUp = true ∧ s.class1 = true ∧ s.strapTwin = true ∧ v = 0x7A17) ∧
    (let s : State := upTw (fun t => { t with paired := true, partner := some 5, role := .active, selOut := true }) [(TWN_PARTNER_LO, 5), (TWN_PARTNER_HI, 1)]; let v : W32 := 0x7A00; s.hostUp = true ∧ s.class1 = true ∧ s.strapTwin = true ∧ v = 0x7A00 ∧ s.twn.paired = true) ∧
    (let s : State := upTw (fun t => { t with keyHere := true, selOut := true }) [(TWN_PARTNER_LO, 5), (TWN_PARTNER_HI, 1)]; let v : W32 := 0x7A00; s.hostUp = true ∧ s.class1 = true ∧ s.strapTwin = true ∧ v = 0x7A00 ∧ s.twn.paired = false) ∧
    (let s : State := upTw (fun t => { t with keyHere := true }) []; let v : W32 := 0x7A16; s.hostUp = true ∧ s.class1 = true ∧ (s.strapTwin = false ∨ (v ≠ 0x7A17 ∧ v ≠ 0x7A00))) ∧
    (let s : State := { upTw id [] with prs := resetPrs }; s.hostUp = true ∧ s.class1 = false) ∧
    (let s : State := upTw (fun t => { t with keyHere := true, linkUp := true, partner := some 0x100000005, latency := 400 }) [(TWN_PARTNER_LO, 5), (TWN_PARTNER_HI, 1)]; let latency : Nat := 400; s.strapTwin = true ∧ s.twn.keyHere = true ∧ s.twn.linkUp = true ∧ s.twn.partner = some s.partnerReg ∧ s.twn.latency ≤ 400 ∧ s.twn.paired = false) ∧
    (let s : State := upTw (fun t => { t with misses := 0 }) [(TWN_PARTNER_LO, 5)]; let serial : W64 := 5; s.strapTwin = true ∧ s.twn.linkUp = false ∧ s.domFailed 8 = false ∧ serial = s.partnerReg) ∧
    (let s : State := upTw (fun t => { t with partner := some 6 }) [(TWN_PARTNER_LO, 6)]; let serial : W64 := 5; s.strapTwin = true ∧ s.twn.linkUp = false ∧ s.domFailed 8 = false ∧ serial ≠ s.partnerReg) ∧
    (let s : State := upTw (fun t => { t with linkUp := true, lanes := 15, role := .standby, edges := 2 }) []; s.twn.linkUp = true ∧ s.twn.role ≠ .resyncing ∧ s.twn.edges ≠ 1 ∧ s.trk.waiting.filter (fun r => r.master == 9) = []) ∧
    (let s : State := upTw (fun t => { t with linkUp := true, lanes := 15, role := .standby, edges := 1 }) []; s.twn.linkUp = true ∧ s.twn.role = .standby ∧ s.twn.edges = 1 ∧ s.trk.waiting.filter (fun r => r.master == 9) = []) ∧
    (let s : State := upTw (fun t => { t with linkUp := true, lanes := 15, role := .active, partnerStep := true, edges := 1 }) []; s.twn.linkUp = true ∧ s.twn.role = .active ∧ s.twn.partnerStep = true ∧ s.twn.edges = 1 ∧ s.trk.waiting.filter (fun r => r.master == 9) = []) ∧
    (let s : State := upTw (fun t => { t with linkUp := true }) []; s.twn.linkUp = true) ∧
    (let s : State := upTw (fun t => { t with linkUp := true, digestsP := [(999, 7), (1001, 4)] }) []; s.twn.linkUp = true) ∧
    (let s : State := upTw (fun t => { t with linkUp := true, role := .active }) [(TWN_BUNDLE_MAX, 40)]; s.twn.role = .active ∧ s.twn.linkUp = true ∧ s.twn.cutoff = false) ∧
    (let s : State := upTw (fun t => { t with linkUp := true, role := .standby, bundles := [{ frame := 1000, blocks := [(.mic 0, [1])], acc := 0, contacts := [4], whole := false }, { frame := 1001, blocks := [], acc := 0, contacts := [], whole := true }] }) [(TWN_BUNDLE_MAX, 90)]; let bytes : Nat := 70; s.twn.linkUp = true ∧ s.twn.role = .standby ∧ bytes < 2 ^ 32) ∧
    (let s : State := upTw (fun t => { t with linkUp := true, role := .standby, crcErr := 65535 }) []; s.twn.linkUp = true ∧ s.twn.role = .standby) ∧
    (let s : State := upTw (fun t => { t with linkUp := true, role := .standby, bundles := [{ frame := 1000, blocks := [(.mic 0, [1])], acc := 0, contacts := [4], whole := false }, { frame := 1001, blocks := [], acc := 0, contacts := [], whole := true }] }) []; s.twn.linkUp = true ∧ s.twn.role ≠ .active) ∧
    (let s : State := upTw (fun t => { t with linkUp := true, role := .standby, bundles := [{ frame := 1000, blocks := [(.mic 0, [1])], acc := 0, contacts := [4], whole := false }, { frame := 1001, blocks := [], acc := 0, contacts := [], whole := true }] }) []; s.twn.linkUp = true) ∧
    (let s : State := upTw (fun t => { t with linkUp := true, role := .active, bundles := [{ frame := 1000, blocks := [(.mic 0, [1])], acc := 0, contacts := [4], whole := false }, { frame := 1001, blocks := [], acc := 0, contacts := [], whole := true }] }) []; s.twn.linkUp = true ∧ s.twn.role = .active) ∧
    (let s : State := upTw (fun t => { t with linkUp := true, role := .active, partnerStep := true }) []; s.twn.linkUp = true ∧ s.twn.role = .active ∧ s.twn.partnerStep = true) ∧
    (let s : State := upTw (fun t => { t with role := .standby }) []; s.twn.linkUp = false) := by
  decide +kernel

/-- The hypotheses of TwinRolesAndResync are met, clause by clause. -/
theorem witness_TwinRolesAndResync :
    (let s : State := upTw (fun t => { t with role := .standby, misses := 1, paired := true }) []; let cause : Fin 4 := 0; s.twn.role = .standby ∧ ((cause.val = 0 ∧ 1 ≤ s.twn.misses ∧ s.twn.hbArrived = false ∧ s.twn.edges ≠ 1) ∨ (cause.val = 1 ∧ s.twn.faultClosed = true))) ∧
    (let s : State := upTw (fun t => { t with role := .standby, misses := 1 }) []; let cause : Fin 4 := 2; (s.twn.role ≠ .standby ∨ 2 ≤ cause.val)) ∧
    (let s : State := upTw (fun t => { t with role := .standby, selOut := true }) []; s.twn.roleRx = false ∧ s.twn.role ≠ .active) ∧
    (let s : State := upTw (fun t => { t with role := .active, roleTx := true, selOut := true }) [(TWN_CFG, 0)]; s.twn.roleRx = false ∧ s.twn.role = .active ∧ s.bit TWN_CFG 0 = false) ∧
    (let s : State := upTw (fun t => { t with role := .active, roleTx := true, selOut := true, linkUp := true }) [(TWN_CFG, 0)]; s.twn.linkUp = true ∧ s.twn.role = .active ∧ s.bit TWN_CFG 0 = false) ∧
    (let s : State := { upTw (fun t => { t with paired := true, role := .active, partnerStep := true }) [] with ledger := { up.ledger with entries := [ent 5 1001 4 [0, 0, 0] true] } }; let e : LedgerEntry := ent 5 1001 4 [0, 0, 0] true; firstDue s.ledger.entries (s.tickN + 1) = some e ∧ s.sys.mediaRun = true ∧ s.sys.phase = .running ∧ s.dram.frozen = false ∧ e.op = 4 ∧ s.tickN + 1 ≤ e.tick ∧ s.twn.paired = true ∧ s.twn.role = .active ∧ s.twn.partnerStep = true) ∧
    (let s : State := { upTw (fun t => { t with paired := true, role := .standby, misses := 1 }) [] with ledger := { up.ledger with entries := [ent 5 1001 4 [0, 0, 0] true] } }; let e : LedgerEntry := ent 5 1001 4 [0, 0, 0] true; firstDue s.ledger.entries (s.tickN + 1) = some e ∧ s.sys.mediaRun = true ∧ s.sys.phase = .running ∧ s.dram.frozen = false ∧ e.op = 4 ∧ s.tickN + 1 ≤ e.tick ∧ s.twn.paired = true ∧ s.twn.role = .standby) ∧
    (let s : State := { upTw (fun t => { t with role := .alone }) [] with ledger := { up.ledger with entries := [ent 5 1001 4 [0, 0, 0] true] } }; let e : LedgerEntry := ent 5 1001 4 [0, 0, 0] true; firstDue s.ledger.entries (s.tickN + 1) = some e ∧ s.sys.mediaRun = true ∧ s.sys.phase = .running ∧ s.dram.frozen = false ∧ e.op = 4 ∧ s.tickN + 1 ≤ e.tick ∧ s.twn.paired = false) ∧
    (let s : State := { (upTw (fun t => { t with role := .outOfStep, linkUp := true }) []).setSlot 3 { idleSlot with kind := 6, st := .queued, order := 3 } with img := { resetImg with running := some img0 } }; let k : Fin 16 := 3; let i : Image := img0; (s.slot k.val).st = .queued ∧ (s.slot k.val).kind = 6 ∧ s.engineFree k.val = true ∧ s.twn.resyncSlot = none ∧ (s.slot k.val).args = [0, 0, 0, 0] ∧ (s.twn.role = .outOfStep ∨ s.twn.role = .joining) ∧ s.img.running = some i ∧ s.img.ssig1 = [] ∧ s.twn.linkUp = true) ∧
    (let s : State := { (upTw (fun t => { t with role := .active }) []).setSlot 3 { idleSlot with kind := 6, st := .queued, order := 3 } with img := { resetImg with running := some img0 } }; let k : Fin 16 := 3; (s.slot k.val).st = .queued ∧ (s.slot k.val).kind = 6 ∧ s.engineFree k.val = true ∧ s.twn.resyncSlot = none ∧ (s.slot k.val).args = [0, 0, 0, 0] ∧ (s.twn.role = .active ∨ s.twn.role = .standby ∨ s.twn.role = .alone)) ∧
    (let s : State := { (upTw (fun t => { t with role := .outOfStep }) []).setSlot 3 { idleSlot with kind := 6, st := .queued, order := 3 } with img := { resetImg with running := none } }; let k : Fin 16 := 3; (s.slot k.val).st = .queued ∧ (s.slot k.val).kind = 6 ∧ s.engineFree k.val = true ∧ s.twn.resyncSlot = none ∧ (s.slot k.val).args = [0, 0, 0, 0] ∧ s.twn.role = .outOfStep ∧ s.img.running = none) ∧
    (let s : State := { upTw (fun t => { t with role := .outOfStep, linkUp := true, paired := true }) [] with img := { resetImg with running := some img0 } }; let i : Image := img0; s.bit TWN_CFG 0 = true ∧ s.twn.linkUp = true ∧ s.twn.paired = true ∧ s.img.running = some i ∧ s.twn.role = .outOfStep) ∧
    (let s : State := upTw (fun t => { t with role := .outOfStep }) [(TWN_CFG, 0)]; s.bit TWN_CFG 0 = false) ∧
    (let s : State := upTw (fun t => { t with role := .resyncing, linkUp := true, phase := 2, mib := 4 }) []; let copy : StateCopy := copy0; let off : Nat := 0x2000001; s.twn.role = .resyncing ∧ s.twn.linkUp = true ∧ s.twn.phase < 5 ∧ s.twn.resyncSlot = none ∧ copy.dram = [(off, 9)] ∧ copy.regs = []) ∧
    (let s : State := (upTw (fun t => { t with role := .resyncing, phase := 5, resyncSlot := some 3, mib := 70, passes := 2, resyncStart := 11 }) []).setSlot 3 { idleSlot with kind := 6, st := .running, order := 3 }; let k : Fin 16 := 3; s.twn.role = .resyncing ∧ s.twn.phase = 5 ∧ s.img.phase = .idle ∧ s.twn.resyncSlot = some k.val) ∧
    (let s : State := upTw (fun t => { t with role := .active, paired := true, linkUp := true }) []; s.twn.role = .active ∧ s.twn.paired = true ∧ s.twn.linkUp = true ∧ s.img.phase = .idle) := by
  decide +kernel

/-! ### Heartwood (R439 to R475) -/

/-- A module whose Heartwood runs, with its state and registers set; a sweep. -/
def upHw (f : HwdSt → HwdSt) (rs : List (Nat × W32)) : State := foldS (fun t q => t.wr q.1 q.2) { up with hwd := f up.hwd } rs
def engine4 : SpkSrc := .engine [-7]
def sw0 : SweepWork := { slot := 0, ch := 0, points := [], ticks := 0, level := 20 }

/-- The hypotheses of HeartwoodBridgeAndFallback are met, clause by clause. -/
theorem witness_HeartwoodBridgeAndFallback :
    (let s : State := upHw (fun h => { h with hbCount := 0 }) [(HWD_FB_CTL, 1)]; s.hwHere = true ∧ s.sys.phase ≠ .nap) ∧
    (let s : State := upHw (fun h => { h with hbCount := 0 }) []; s.hwHere = true ∧ s.hwd.clockInt = false) ∧
    (let s : State := upHw (fun h => { h with clockInt := true }) []; s.hwHere = true ∧ s.hwd.clockInt = true) ∧
    (let s : State := upHw (fun h => { h with mics := [(1, { noMic with jack := true, ty := 2 })] }) [(HWD_MIC_PEAK 1, 3)]; s.hwHere = true ∧ s.twn.cutoff = false) ∧
    (let s : State := { upHw id [] with twn := { up.twn with cutoff := true } }; s.hwHere = true ∧ s.twn.cutoff = true) ∧
    (let s : State := upHw (fun h => { h with noStatus := 2 }) []; s.hwHere = true ∧ s.hwd.lost = false ∧ s.hwd.status = false ∧ 2 ≤ s.hwd.noStatus) ∧
    (let s : State := upHw (fun h => { h with missed := 0, hbLast := 1000, hbCount := 300 }) []; let n : Nat := 1001; s.hwHere = true ∧ s.sys.phase = .running ∧ s.sys.mediaRun = true ∧ s.sys.faulty = false ∧ s.hwd.arrived = 0 ∧ (s.hwd.missed ≠ 0 ∨ n = s.hwd.hbLast + 1)) ∧
    (let s : State := upHw (fun h => { h with missed := 0, hbLast := 1001, hbCount := 300 }) []; let n : Nat := 1001; s.hwHere = true ∧ s.sys.phase = .running ∧ s.sys.mediaRun = true ∧ s.sys.faulty = false ∧ (s.hwd.arrived ≠ 0 ∨ (s.hwd.missed = 0 ∧ n ≠ s.hwd.hbLast + 1))) ∧
    (let s : State := { upHw id [] with sys := { up.sys with mediaRun := false } }; s.hwHere = true ∧ (s.sys.phase ≠ .running ∨ s.sys.mediaRun = false ∨ s.sys.faulty = true)) ∧
    (let s : State := upHw (fun h => { h with mode := .engine, missed := 2, num := 7 }) []; s.hwHere = true ∧ s.hwd.mode = .engine ∧ 2 ≤ s.hwd.missed ∧ s.hwd.hbGood = false ∧ s.hwd.sweep = none) ∧
    (let s : State := upHw (fun h => { h with mode := .engine, missed := 2, num := 7, age := 1200, chs := [(0, { noCh with st := .play, heard := engine4, last := 4 })] }) [(HWD_FB_CFG, 3)]; let o : HwdObs := { iUa := [], ohms := [], vbat := 24000, vrail := 40000, limits := [] }; s.hwHere = true ∧ s.hwd.mode = .engine ∧ s.hwd.missed = 2 ∧ s.hwd.hbGood = false ∧ s.hwd.sweep = none ∧ 1200 ≤ s.hwd.age ∧ s.hwd.checkLeft = 0 ∧ o.iUa = [] ∧ o.ohms = [] ∧ o.limits = [] ∧ (∀ k ∈ [0, 1], (s.powCh k).shorted = none ∧ (s.powCh k).back = false)) ∧
    (let s : State := upHw (fun h => { h with mode := .engine, missed := 0, hbGood := true, hbLast := 9, age := 1200, hbCount := 299, chs := [(1, { noCh with st := .play, samples := some [-7], fadeIn := true })] }) []; let o : HwdObs := { iUa := [], ohms := [], vbat := 24000, vrail := 40000, limits := [] }; s.hwHere = true ∧ s.hwd.mode = .engine ∧ s.hwd.hbGood = true ∧ s.forced = false ∧ s.hwd.sweep = none ∧ 1200 ≤ s.hwd.age ∧ s.hwd.checkLeft = 0 ∧ o.iUa = [] ∧ o.ohms = [] ∧ o.limits = [] ∧ (∀ k ∈ [0, 1], (s.powCh k).shorted = none ∧ (s.powCh k).back = false)) ∧
    (let s : State := upHw (fun h => { h with hbCount := 300, hbGood := true, play := some { idx := 5, chime := false, trig := 2, pos := 32, fading := false, fresh := false } }) []; s.hwHere = true ∧ s.hwd.mode = .fallback ∧ s.forced = false ∧ 300 ≤ s.hwd.hbCount ∧ (s.hwd.forcePrev = true ∨ s.bit HWD_FB_CFG 3 = false ∨ s.hwSource = 0) ∧ s.hwd.hbGood = true) ∧
    (let s : State := upHw (fun h => { h with hbCount := 299, hbGood := true }) []; s.hwHere = true ∧ s.hwd.mode = .fallback ∧ (s.forced = true ∨ s.hwd.hbCount < 300 ∨ (s.hwd.forcePrev = false ∧ s.bit HWD_FB_CFG 3 = true ∧ s.hwSource ≠ 0))) ∧
    (let s : State := upHw (fun h => { h with hbCount := 0 }) []; s.hwHere = true ∧ s.hostUp = true ∧ s.class1 = true ∧ s.hwd.lost = false) ∧
    (let s : State := { upHw id [] with prs := resetPrs }; s.hwHere = true ∧ s.hostUp = true ∧ s.class1 = false) ∧
    (let s : State := upHw (fun h => { h with cins := [(2, { noCin with st := 1 })], play := some { idx := 5, chime := false, trig := 2, pos := 32, fading := false, fresh := false }, good := [5] }) [(HWD_TRIG 2, 0x3005)]; let m0 : Nat := 5; let p : MsgPlay := { idx := 5, chime := false, trig := 2, pos := 32, fading := false, fresh := false }; s.hwHere = true ∧ s.hwd.play = some p ∧ p.fading = false ∧ p.fresh = false ∧ p.chime = false ∧ s.hwd.msgLen p.idx ≤ p.pos + 16 ∧ s.hwPressed = false ∧ s.hwd.chimeReq = false ∧ s.wanted = some p.trig ∧ s.trigMsg p.trig = m0 ∧ s.trigRepeat p.trig = true ∧ s.hwd.good.contains m0 = true) ∧
    (let s : State := upHw (fun h => { h with cins := [(2, { noCin with st := 1 })], play := some { idx := 5, chime := false, trig := 2, pos := 32, fading := false, fresh := false }, good := [5] }) [(HWD_TRIG 2, 0x1005)]; let p : MsgPlay := { idx := 5, chime := false, trig := 2, pos := 32, fading := false, fresh := false }; s.hwHere = true ∧ s.hwd.play = some p ∧ p.fading = false ∧ p.fresh = false ∧ p.chime = false ∧ s.hwd.msgLen p.idx ≤ p.pos + 16 ∧ s.hwPressed = false ∧ s.hwd.chimeReq = false ∧ s.wanted = some p.trig ∧ s.trigRepeat p.trig = false) := by
  decide +kernel

/-- The hypotheses of HeartwoodInputs are met, clause by clause. -/
theorem witness_HeartwoodInputs :
    (let s : State := upHw (fun h => { h with age := 120, mics := [(3, noMic)] }) []; let m : Fin 4 := 3; let c : Fin 8 := 7; let x : MicIn := noMic; let y : CinLine := noCin; s.hwHere = true ∧ s.micIn m.val = x ∧ s.cin c.val = y ∧ 120 ≤ s.hwd.age ∧ x.jack = false) ∧
    (let s : State := upHw (fun h => { h with age := 120, mics := [(3, { noMic with jack := true, ty := 1 })] }) []; let m : Fin 4 := 3; let c : Fin 8 := 7; let x : MicIn := { noMic with jack := true, ty := 1 }; let y : CinLine := noCin; s.hwHere = true ∧ s.micIn m.val = x ∧ s.cin c.val = y ∧ (x.jack = true ∨ s.hwd.age < 120)) ∧
    (let s : State := upHw (fun h => { h with age := 120, mics := [(3, { noMic with jack := true, ty := 7, meas := 150 })] }) []; let m : Fin 4 := 3; let c : Fin 8 := 7; let x : MicIn := { noMic with jack := true, ty := 7, meas := 150 }; let y : CinLine := noCin; let i : Nat := 3000; let rd : Nat := 65535; let ty : Nat := 2; s.hwHere = true ∧ s.micIn m.val = x ∧ s.cin c.val = y ∧ x.jack = true ∧ x.ty = 7 ∧ 150 ≤ x.meas ∧ s.typeForce m.val = 0 ∧ ((i < 50 ∧ 50 ≤ rd ∧ rd ≤ 2000 ∧ ty = 1) ∨ (300 ≤ i ∧ i ≤ 3000 ∧ ty = 2) ∨ (i < 50 ∧ 20000 < rd ∧ ty = 3) ∨ (120 ≤ i ∧ i ≤ 260 ∧ ty = 4) ∨ (3000 < i ∧ ty = 6) ∨ (50 ≤ i ∧ i < 120 ∧ ty = 5) ∨ (260 < i ∧ i < 300 ∧ ty = 5) ∨ (i < 50 ∧ rd < 50 ∧ ty = 5) ∨ (i < 50 ∧ 2000 < rd ∧ rd ≤ 20000 ∧ ty = 5))) ∧
    (let s : State := upHw (fun h => { h with age := 120, mics := [(3, { noMic with jack := true, ty := 7, meas := 150 })] }) [(HWD_MIC_CFG 3, 0x400)]; let m : Fin 4 := 3; let c : Fin 8 := 7; let x : MicIn := { noMic with jack := true, ty := 7, meas := 150 }; let y : CinLine := noCin; let ty : Nat := 4; s.hwHere = true ∧ s.micIn m.val = x ∧ s.cin c.val = y ∧ x.jack = true ∧ x.ty = 7 ∧ 150 ≤ x.meas ∧ s.rdF (HWD_MIC_CFG m.val) 10 8 = ty ∧ 1 ≤ ty ∧ ty ≤ 4) ∧
    (let s : State := upHw (fun h => { h with age := 120, mics := [(3, { noMic with jack := true, ty := 7, meas := 149 })] }) []; let m : Fin 4 := 3; let c : Fin 8 := 7; let x : MicIn := { noMic with jack := true, ty := 7, meas := 149 }; let y : CinLine := noCin; let ty : Nat := 0; s.hwHere = true ∧ s.micIn m.val = x ∧ s.cin c.val = y ∧ x.jack = true ∧ x.ty = 7 ∧ x.meas < 150) ∧
    (let s : State := upHw (fun h => { h with age := 120, mics := [(3, { noMic with jack := true, ty := 4, bias := true })] }) []; let m : Fin 4 := 3; let c : Fin 8 := 7; let x : MicIn := { noMic with jack := true, ty := 4, bias := true }; let y : CinLine := noCin; s.hwHere = true ∧ s.micIn m.val = x ∧ s.cin c.val = y ∧ x.jack = true) ∧
    (let s : State := upHw (fun h => { h with age := 120, mics := [(3, { noMic with jack := true, ty := 4, badCnt := 29 })] }) []; let m : Fin 4 := 3; let c : Fin 8 := 7; let x : MicIn := { noMic with jack := true, ty := 4, badCnt := 29 }; let y : CinLine := noCin; let i : Nat := 106; let ty : Nat := 0; s.hwHere = true ∧ s.micIn m.val = x ∧ s.cin c.val = y ∧ 120 ≤ s.hwd.age ∧ x.jack = true ∧ x.fault = false ∧ s.rdF HWD_KEY_DEB 7 0 ≤ x.badCnt + 1 ∧ ((x.ty = 2 ∧ (i < 300 ∨ 3000 < i)) ∨ (x.ty = 4 ∧ (46800 * i < 5000000 ∨ 5000000 < 8800 * i)))) ∧
    (let s : State := upHw (fun h => { h with age := 120, mics := [(3, { noMic with jack := true, ty := 2, badCnt := 29, fault := true })] }) []; let m : Fin 4 := 3; let c : Fin 8 := 7; let x : MicIn := { noMic with jack := true, ty := 2, badCnt := 29, fault := true }; let y : CinLine := noCin; let i : Nat := 300; let ty : Nat := 0; s.hwHere = true ∧ s.micIn m.val = x ∧ s.cin c.val = y ∧ 120 ≤ s.hwd.age ∧ x.jack = true ∧ x.fault = true ∧ s.rdF HWD_KEY_DEB 7 0 ≤ x.badCnt + 1 ∧ ((x.ty = 2 ∧ 300 ≤ i ∧ i ≤ 3000) ∨ (x.ty = 4 ∧ 5000000 ≤ 46800 * i ∧ 8800 * i ≤ 5000000))) ∧
    (let s : State := upHw (fun h => { h with age := 120, mics := [(3, { noMic with jack := true, ty := 4, cand := 2, cnt := 29 })] }) []; let m : Fin 4 := 3; let c : Fin 8 := 7; let x : MicIn := { noMic with jack := true, ty := 4, cand := 2, cnt := 29 }; let y : CinLine := noCin; let i : Nat := 337; let ty : Nat := 0; s.hwHere = true ∧ s.micIn m.val = x ∧ s.cin c.val = y ∧ 120 ≤ s.hwd.age ∧ x.jack = true ∧ x.ty = 4 ∧ x.ptt = false ∧ s.hwd.status = false ∧ s.hwd.afterCut = none ∧ x.cand = 2 ∧ 14800 * i ≤ 5000000 ∧ 5000000 ≤ 16800 * i ∧ s.rdF HWD_KEY_DEB 7 0 ≤ x.cnt + 1) ∧
    (let s : State := upHw (fun h => { h with age := 120, mics := [(3, { noMic with jack := true, ty := 4, cand := 1, cnt := 29 })] }) []; let m : Fin 4 := 3; let c : Fin 8 := 7; let x : MicIn := { noMic with jack := true, ty := 4, cand := 1, cnt := 29 }; let y : CinLine := noCin; let i : Nat := 280; let ty : Nat := 0; s.hwHere = true ∧ s.micIn m.val = x ∧ s.cin c.val = y ∧ 120 ≤ s.hwd.age ∧ x.jack = true ∧ x.ty = 4 ∧ x.chime = false ∧ s.hwd.status = false ∧ s.hwd.afterCut = none ∧ x.cand = 1 ∧ 17800 * i ≤ 5000000 ∧ 5000000 ≤ 23300 * i ∧ s.rdF HWD_KEY_DEB 7 0 ≤ x.cnt + 1) ∧
    (let s : State := upHw (fun h => { h with age := 120, cins := [(7, { st := 0, cand := 1, cnt := 59, ohms := 9 })] }) []; let m : Fin 4 := 3; let c : Fin 8 := 7; let x : MicIn := noMic; let y : CinLine := { st := 0, cand := 1, cnt := 59, ohms := 9 }; let ohms : Nat := 2199; s.hwHere = true ∧ s.micIn m.val = x ∧ s.cin c.val = y ∧ 120 ≤ s.hwd.age ∧ s.hwd.status = false ∧ s.hwd.afterCut = none ∧ y.st ≠ 1 ∧ y.cand = 1 ∧ 150 ≤ ohms ∧ ohms < 2200 ∧ s.rdF HWD_CIN_DEB 7 0 ≤ y.cnt + 1) ∧
    (let s : State := upHw (fun h => { h with age := 120, cins := [(7, { st := 0, cand := 2, cnt := 59, ohms := 9 })] }) []; let m : Fin 4 := 3; let c : Fin 8 := 7; let x : MicIn := noMic; let y : CinLine := { st := 0, cand := 2, cnt := 59, ohms := 9 }; let ohms : Nat := 12001; let ty : Nat := 2; s.hwHere = true ∧ s.micIn m.val = x ∧ s.cin c.val = y ∧ 120 ≤ s.hwd.age ∧ ((12000 < ohms ∧ ty = 2) ∨ (ohms < 150 ∧ ty = 3)) ∧ y.st ≠ ty ∧ y.cand = ty ∧ s.rdF HWD_CIN_DEB 7 0 ≤ y.cnt + 1) ∧
    (let s : State := upHw (fun h => { h with age := 120, status := true, cins := [(7, { st := 0, cand := 1, cnt := 59, ohms := 9 })] }) []; let m : Fin 4 := 3; let c : Fin 8 := 7; let x : MicIn := noMic; let y : CinLine := { st := 0, cand := 1, cnt := 59, ohms := 9 }; let ohms : Nat := 2199; s.hwHere = true ∧ s.micIn m.val = x ∧ s.cin c.val = y ∧ 120 ≤ s.hwd.age ∧ s.hwd.status = true ∧ s.hwd.afterCut = none ∧ y.st ≠ 1 ∧ y.cand = 1 ∧ 150 ≤ ohms ∧ ohms < 2200 ∧ s.rdF HWD_CIN_DEB 7 0 ≤ y.cnt + 1) := by
  decide +kernel

/-- The hypotheses of HeartwoodChannelsAndStore are met, clause by clause. -/
theorem witness_HeartwoodChannelsAndStore :
    (let s : State := upHw (fun h => { h with chs := [(1, { noCh with st := .play, line := 1 })], hbCount := 0 }) []; let ch : Fin 2 := 1; let y : PowCh := { noCh with st := .play, line := 1 }; s.hwHere = true ∧ s.powCh ch.val = y ∧ y.st = .play) ∧
    (let s : State := upHw (fun h => { h with chs := [(1, { noCh with st := .hizShort, shorted := some (18, 0) })], hbCount := 0 }) []; let ch : Fin 2 := 1; let y : PowCh := { noCh with st := .hizShort, shorted := some (18, 0) }; let r : Int := 18; let x : Int := 0; s.hwHere = true ∧ s.powCh ch.val = y ∧ y.shorted = some (r, x)) ∧
    (let s : State := upHw (fun h => { h with chs := [(1, { noCh with st := .play, line := 1, win := 300 })], hbCount := 0 }) []; let ch : Fin 2 := 1; let y : PowCh := { noCh with st := .play, line := 1, win := 300 }; let r : Int := 320; let x : Int := 0; let a : Nat := 32000; let z : Nat := 48000; s.hwHere = true ∧ s.powCh ch.val = y ∧ y.st = .play ∧ 300 ≤ y.win ∧ y.line = 1 ∧ ((s.zShort * s.zShort : Nat) : Int) ≤ r * r + x * x ∧ r * r + x * x ≤ ((s.zOpen * s.zOpen : Nat) : Int) ∧ a = s.rdF (HWD_CH_ZREF ch.val) 15 0 * (100 - s.rdF (HWD_CH_ZREF ch.val) 23 16) ∧ z = s.rdF (HWD_CH_ZREF ch.val) 15 0 * (100 + s.rdF (HWD_CH_ZREF ch.val) 23 16) ∧ ((a * a : Nat) : Int) ≤ 10000 * (r * r + x * x) ∧ 10000 * (r * r + x * x) ≤ ((z * z : Nat) : Int)) ∧
    (let s : State := upHw (fun h => { h with chs := [(1, { noCh with st := .play, line := 1, win := 300, cand := 3, cnt := 1 })], hbCount := 0 }) []; let ch : Fin 2 := 1; let y : PowCh := { noCh with st := .play, line := 1, win := 300, cand := 3, cnt := 1 }; let r : Int := 481; let x : Int := 0; let z : Nat := 48000; s.hwHere = true ∧ s.powCh ch.val = y ∧ y.st = .play ∧ 300 ≤ y.win ∧ y.line = 1 ∧ y.cand = 3 ∧ ((s.zShort * s.zShort : Nat) : Int) ≤ r * r + x * x ∧ r * r + x * x ≤ ((s.zOpen * s.zOpen : Nat) : Int) ∧ z = s.rdF (HWD_CH_ZREF ch.val) 15 0 * (100 + s.rdF (HWD_CH_ZREF ch.val) 23 16) ∧ ((z * z : Nat) : Int) < 10000 * (r * r + x * x)) ∧
    (let s : State := upHw (fun h => { h with chs := [(1, { noCh with st := .hizShort, since := 3000 })], hbCount := 0 }) []; let ch : Fin 2 := 1; let y : PowCh := { noCh with st := .hizShort, since := 3000 }; s.hwHere = true ∧ s.powCh ch.val = y ∧ y.st = .hizShort ∧ s.bit (HWD_CH_CFG ch.val) 17 = true ∧ y.probing = false ∧ y.back = false ∧ 3000 ≤ y.since) ∧
    (let s : State := upHw (fun h => { h with chs := [(1, { noCh with st := .hizShort, probing := true, probeTicks := 300, passes := 1 })], hbCount := 0 }) []; let ch : Fin 2 := 1; let y : PowCh := { noCh with st := .hizShort, probing := true, probeTicks := 300, passes := 1 }; let r : Int := 200; let x : Int := 0; s.hwHere = true ∧ s.powCh ch.val = y ∧ y.st = .hizShort ∧ y.probing = true ∧ 300 ≤ y.probeTicks ∧ ((4 * s.zShort * s.zShort : Nat) : Int) ≤ r * r + x * x ∧ (y.single = true ∨ 1 ≤ y.passes)) ∧
    (let s : State := upHw (fun h => { h with chs := [(1, { noCh with st := .hizShort, back := true })], hbCount := 0 }) []; let ch : Fin 2 := 1; let y : PowCh := { noCh with st := .hizShort, back := true }; s.hwHere = true ∧ s.powCh ch.val = y ∧ y.back = true ∧ s.bit (HWD_CH_CFG ch.val) 0 = true) ∧
    (let s : State := upHw (fun h => { h with chs := [(1, { noCh with st := .hizShort, probing := true, passes := 1 })], hbCount := 0 }) []; let ch : Fin 2 := 1; let y : PowCh := { noCh with st := .hizShort, probing := true, passes := 1 }; s.hwHere = true ∧ s.powCh ch.val = y ∧ y.st = .hizShort ∧ y.probing = true) ∧
    (let s : State := upHw (fun h => { h with chs := [(1, { noCh with st := .hizShort, line := 4, enLow := true })], hbCount := 0 }) []; let ch : Fin 2 := 1; let y : PowCh := { noCh with st := .hizShort, line := 4, enLow := true }; let v : W32 := 0x87654321; s.hwHere = true ∧ s.powCh ch.val = y ∧ s.hostUp = true ∧ s.hwd.lost = false ∧ y.st = .hizShort ∧ y.enLow = true ∧ bitOf v 17 = false) ∧
    (let s : State := upHw (fun h => { h with chs := [(1, { noCh with st := .play })], hbCount := 0 }) []; let ch : Fin 2 := 1; let y : PowCh := { noCh with st := .play }; let mv : Nat := 16999; s.hwHere = true ∧ s.powCh ch.val = y ∧ (mv < 17000 ∨ 33000 < mv) ∧ s.hwd.vbatBad = false ∧ s.hwd.sweep = none) ∧
    (let s : State := upHw (fun h => { h with chs := [(1, { noCh with st := .hizFault })], vbatBad := true }) []; let ch : Fin 2 := 1; let y : PowCh := { noCh with st := .hizFault }; let mv : Nat := 32000; s.hwHere = true ∧ s.powCh ch.val = y ∧ 18000 ≤ mv ∧ mv ≤ 32000 ∧ s.hwd.vbatBad = true ∧ s.hwd.hot = false ∧ y.st = .hizFault ∧ s.bit (HWD_CH_CFG ch.val) 0 = true) ∧
    (let s : State := upHw (fun h => { h with chs := [(1, { noCh with st := .play })], hbCount := 0 }) []; let ch : Fin 2 := 1; let y : PowCh := { noCh with st := .play }; let temp : Int := 151; s.hwHere = true ∧ s.powCh ch.val = y ∧ 150 < temp ∧ temp ≤ 165 ∧ s.hwd.att = false ∧ s.hwd.hot = false) ∧
    (let s : State := upHw (fun h => { h with chs := [(1, { noCh with st := .play })], att := true }) []; let ch : Fin 2 := 1; let y : PowCh := { noCh with st := .play }; let temp : Int := 166; s.hwHere = true ∧ s.powCh ch.val = y ∧ 165 < temp ∧ s.hwd.hot = false ∧ s.hwd.sweep = none) ∧
    (let s : State := upHw (fun h => { h with chs := [(1, { noCh with st := .hizFault })], att := true, hot := true }) []; let ch : Fin 2 := 1; let y : PowCh := { noCh with st := .hizFault }; let temp : Int := 139; s.hwHere = true ∧ s.powCh ch.val = y ∧ temp < 140 ∧ s.hwd.hot = true ∧ s.hwd.vbatBad = false ∧ y.st = .hizFault ∧ s.bit (HWD_CH_CFG ch.val) 0 = true) ∧
    (let s : State := (upHw (fun h => { h with chs := [(1, { noCh with st := .play })] }) []).setSlot 3 { idleSlot with kind := 8, st := .queued, args := [0x1401, 0, 0, 0], order := 3 }; let ch : Fin 2 := 1; let k : Fin 16 := 3; let y : PowCh := { noCh with st := .play }; let pw : Nat := 20; s.hwHere = true ∧ s.powCh ch.val = y ∧ (s.slot k.val).st = .queued ∧ (s.slot k.val).kind = 8 ∧ s.engineFree k.val = true ∧ s.hwd.sweep = none ∧ (s.slot k.val).args = [w32 (pw * 256 + ch.val), 0, 0, 0] ∧ 20 ≤ pw ∧ pw ≤ 60 ∧ s.bit (HWD_CH_CFG ch.val) 0 = true ∧ y.st = .play) ∧
    (let s : State := (upHw (fun h => { h with chs := [(1, { noCh with st := .off })] }) []).setSlot 3 { idleSlot with kind := 8, st := .queued, args := [0x1401, 0, 0, 0], order := 3 }; let ch : Fin 2 := 1; let k : Fin 16 := 3; let y : PowCh := { noCh with st := .off }; let pw : Nat := 20; s.hwHere = true ∧ s.powCh ch.val = y ∧ (s.slot k.val).st = .queued ∧ (s.slot k.val).kind = 8 ∧ s.engineFree k.val = true ∧ s.hwd.sweep = none ∧ (s.slot k.val).args = [w32 (pw * 256 + ch.val), 0, 0, 0] ∧ 20 ≤ pw ∧ pw ≤ 60 ∧ (s.bit (HWD_CH_CFG ch.val) 0 = false ∨ y.st ≠ .play)) ∧
    (let s : State := (upHw (fun h => { h with chs := [(1, { noCh with st := .sweep })], sweep := some { slot := 3, ch := 1, points := [7], ticks := 300, level := 20 } }) []).setSlot 3 { idleSlot with kind := 8, st := .running, order := 3 }; let ch : Fin 2 := 1; let y : PowCh := { noCh with st := .sweep }; let w : SweepWork := { slot := 3, ch := 1, points := [7], ticks := 300, level := 20 }; s.hwHere = true ∧ s.powCh ch.val = y ∧ s.hwd.sweep = some w ∧ 300 ≤ w.ticks ∧ w.points.length < 27 ∧ (s.slot w.slot).abortReq = false) ∧
    (let s : State := (upHw (fun h => { h with chs := [(1, { noCh with st := .sweep })], sweep := some { slot := 3, ch := 1, points := List.replicate 27 7, ticks := 300, level := 20 } }) []).setSlot 3 { idleSlot with kind := 8, st := .running, order := 3 }; let ch : Fin 2 := 1; let k : Fin 16 := 3; let y : PowCh := { noCh with st := .sweep }; let w : SweepWork := { slot := 3, ch := 1, points := List.replicate 27 7, ticks := 300, level := 20 }; s.hwHere = true ∧ s.powCh ch.val = y ∧ s.hwd.sweep = some w ∧ 300 ≤ w.ticks ∧ w.points.length = 27 ∧ (s.slot w.slot).abortReq = false ∧ w.slot = k.val ∧ w.ch = ch.val ∧ y.st = .sweep) ∧
    (let s : State := upHw (fun h => { h with chs := [(1, noCh)], mram := [(0xFFFFFD, 3)] }) [(HWD_RS_ADDR, 0xFFFFFC)]; let ch : Fin 2 := 1; let y : PowCh := noCh; s.hwHere = true ∧ s.powCh ch.val = y ∧ s.hostUp = true ∧ s.hwd.lost = false) ∧
    (let s : State := upHw (fun h => { h with chs := [(1, noCh)], mram := [(0xFFFFFD, 3)] }) [(HWD_RS_ADDR, 0xFFFFFC)]; let ch : Fin 2 := 1; let y : PowCh := noCh; s.hwHere = true ∧ s.powCh ch.val = y ∧ s.hostUp = true ∧ s.hwd.lost = false ∧ s.class1 = true ∧ s.hwd.play = none) ∧
    (let s : State := upHw (fun h => { h with chs := [(1, noCh)], checkLeft := 1, mram := [(12, 1)] }) []; let ch : Fin 2 := 1; let y : PowCh := noCh; s.hwHere = true ∧ s.powCh ch.val = y ∧ s.hwd.checkLeft = 1) ∧
    (let s : State := upHw (fun h => { h with chs := [(1, noCh)], hbCount := 0 }) []; let ch : Fin 2 := 1; let y : PowCh := noCh; let v : W32 := 0x3D0B; s.hwHere = true ∧ s.powCh ch.val = y ∧ s.hostUp = true ∧ s.hwd.lost = false ∧ s.class1 = true ∧ s.hwd.play = none ∧ v = 0x3D0B) ∧
    (let s : State := upHw (fun h => { h with chs := [(1, noCh)], hbCount := 0 }) []; let ch : Fin 2 := 1; let y : PowCh := noCh; let v : W32 := 0x87654321; s.hwHere = true ∧ s.powCh ch.val = y ∧ s.hostUp = true ∧ s.hwd.lost = false ∧ s.class1 = true ∧ v ≠ 0x3D0B) := by
  decide +kernel

/-! ### Silent proving (R476 to R491) -/

/-- A PROVE of groups 1 and 2 in slot 3, a module that proves, one that holds an image and memory for a table; a measurement that agrees with an inverted crosspoint. -/
def run0 (g : PrvStage) : PrvRun := { slot := 3, rets := false, last := 2, table := 0x180000000, stage := g }
def upPv (p : PrvSt) : State := { up.setSlot 3 { idleSlot with kind := 7, st := .running, order := 3 } with prv := p }
def prvUp : State := { up with img := { resetImg with running := some img0 }, dram := { up.dram with ranksW := 2 } }
def mea0 : ProveMeas := { isRet := false, point := 4000, input := 66, gain := 3, lat := 1, snr := 40, inv := true }

/-- The hypotheses of ProvingJob are met, clause by clause. -/
theorem witness_ProvingJob :
    (let s : State := prvUp.setSlot 3 { idleSlot with kind := 7, st := .queued, args := [w32 0x17F00, w32 0x180001000, w32 (0x180001000 / 2 ^ 32), 0], order := 3 }; let k : Fin 16 := 3; let b : Nat := 0x180001000; let g : Fin 128 := 0; let l : Fin 128 := 127; let rets : Bool := true; (s.slot k.val).st = .queued ∧ (s.slot k.val).kind = 7 ∧ s.engineFree k.val = true ∧ s.prv.run = none ∧ (s.slot k.val).args = [w32 (b01 rets * 65536 + l.val * 256 + g.val), w32 b, w32 (b / 2 ^ 32), 0] ∧ b < 2 ^ 64 ∧ s.prvBadTable b = false ∧ s.img.running.isSome = true) ∧
    (let s : State := prvUp.setSlot 3 { idleSlot with kind := 7, st := .queued, args := [w32 0x17F00, w32 0x180001800, w32 (0x180001800 / 2 ^ 32), 0], order := 3 }; let k : Fin 16 := 3; let b : Nat := 0x180001800; let g : Fin 128 := 0; let l : Fin 128 := 127; let rets : Bool := true; (s.slot k.val).st = .queued ∧ (s.slot k.val).kind = 7 ∧ s.engineFree k.val = true ∧ s.prv.run = none ∧ (s.slot k.val).args = [w32 (b01 rets * 65536 + l.val * 256 + g.val), w32 b, w32 (b / 2 ^ 32), 0] ∧ b < 2 ^ 64 ∧ (b % 4096 ≠ 0 ∨ b < 0x04000000 ∨ s.img.running.isSome = false)) ∧
    (let s : State := upPv { resetPrv with run := some (run0 (.waiting 1)) }; let r : PrvRun := run0 (.waiting 1); s.prv.run = some r ∧ r.stage = .waiting 1 ∧ (s.slot r.slot).abortReq = false ∧ s.prv.groups = 0 ∧ s.prv.pend = none) ∧
    (let s : State := { upPv { resetPrv with run := some (run0 (.group 5999)), group := 1, mark := { noMark with ref := [(xpKey 3 4 2, 0x8900)], on := [xpKey 3 4 2] } } with img := { resetImg with running := some { img0 with structure' := { (default : Structure) with miSrc := [(66, .strip 1)], miPos := [(66, (0, 2))], moPos := [(4000, (3, 4))] } } } }; let m : Nat := 66; let o : Nat := 4000; let r : PrvRun := run0 (.group 5999); let q : ProveMeas := mea0; let a : Nat := xpKey 3 4 2; s.prv.run = some r ∧ r.stage = .group 5999 ∧ (s.slot r.slot).abortReq = false ∧ s.prv.group * s.prvInputs ≤ m ∧ m < s.prv.group * s.prvInputs + s.prvInputs ∧ o < 4096 ∧ q.isRet = false ∧ q.point = o ∧ q.input = m ∧ s.hasSource m = true ∧ s.xpOf m o = some a ∧ a ∉ s.prv.mark.changed ∧ o ∉ s.prv.mark.sat ∧ o ∉ s.prv.mark.scaled ∧ a ∈ s.prv.mark.on ∧ (s.rdF PRV_TOL 15 8 : Int) ≤ q.snr ∧ q.inv = (spGet 0x7FFF s.prv.mark.ref a).getLsbD 15 ∧ q.gain.natAbs ≤ s.rdF PRV_TOL 7 0 ∧ q.lat.natAbs ≤ s.rdF PRV_TOL 23 16) ∧
    (let s : State := { upPv { resetPrv with run := some (run0 (.group 5999)), group := 1, mark := { noMark with ref := [(xpKey 3 4 2, 0x900)], on := [xpKey 3 4 2] } } with img := { resetImg with running := some { img0 with structure' := { (default : Structure) with miSrc := [(66, .strip 1)], miPos := [(66, (0, 2))], moPos := [(4000, (3, 4))] } } } }; let m : Nat := 66; let o : Nat := 4000; let r : PrvRun := run0 (.group 5999); let q : ProveMeas := mea0; let a : Nat := xpKey 3 4 2; s.prv.run = some r ∧ r.stage = .group 5999 ∧ (s.slot r.slot).abortReq = false ∧ s.prv.group * s.prvInputs ≤ m ∧ m < s.prv.group * s.prvInputs + s.prvInputs ∧ o < 4096 ∧ q.isRet = false ∧ q.point = o ∧ q.input = m ∧ s.hasSource m = true ∧ s.xpOf m o = some a ∧ a ∉ s.prv.mark.changed ∧ o ∉ s.prv.mark.sat ∧ o ∉ s.prv.mark.scaled ∧ a ∈ s.prv.mark.on ∧ (s.rdF PRV_TOL 15 8 : Int) ≤ q.snr ∧ q.inv ≠ (spGet 0x7FFF s.prv.mark.ref a).getLsbD 15) ∧
    (let s : State := { upPv { resetPrv with run := some (run0 (.group 5999)), group := 1, mark := { noMark with ref := [(xpKey 3 4 2, 0x8900)], on := [xpKey 3 4 2], changed := [xpKey 3 4 2] } } with img := { resetImg with running := some { img0 with structure' := { (default : Structure) with miSrc := [(66, .strip 1)], miPos := [(66, (0, 2))], moPos := [(4000, (3, 4))] } } } }; let m : Nat := 66; let o : Nat := 4000; let r : PrvRun := run0 (.group 5999); let q : ProveMeas := mea0; let a : Nat := xpKey 3 4 2; s.prv.run = some r ∧ r.stage = .group 5999 ∧ (s.slot r.slot).abortReq = false ∧ s.prv.group * s.prvInputs ≤ m ∧ m < s.prv.group * s.prvInputs + s.prvInputs ∧ o < 4096 ∧ q.isRet = false ∧ q.point = o ∧ q.input = m ∧ s.hasSource m = true ∧ s.xpOf m o = some a ∧ a ∈ s.prv.mark.changed ∧ o ∉ s.prv.mark.scaled ∧ a ∈ s.prv.mark.on) ∧
    (let s : State := { upPv { resetPrv with run := some (run0 (.group 5999)), group := 1, mark := { noMark with ref := [(xpKey 3 4 2, 0x7FFF)], changed := [] } } with img := { resetImg with running := some { img0 with structure' := { (default : Structure) with miSrc := [(66, .strip 1)], miPos := [(66, (0, 2))], moPos := [(4000, (3, 4))] } } } }; let m : Nat := 66; let o : Nat := 4000; let r : PrvRun := run0 (.group 5999); let q : ProveMeas := { mea0 with gain := -5 }; let a : Nat := xpKey 3 4 2; s.prv.run = some r ∧ r.stage = .group 5999 ∧ (s.slot r.slot).abortReq = false ∧ s.prv.group * s.prvInputs ≤ m ∧ m < s.prv.group * s.prvInputs + s.prvInputs ∧ o < 4096 ∧ q.isRet = false ∧ q.point = o ∧ q.input = m ∧ s.hasSource m = true ∧ s.xpOf m o = some a ∧ a ∉ s.prv.mark.changed ∧ o ∉ s.prv.mark.sat ∧ o ∉ s.prv.mark.scaled ∧ a ∉ s.prv.mark.on ∧ -(10 * (s.rdF PRV_TOL 31 24 : Int)) < q.gain) ∧
    (let s : State := upPv { resetPrv with run := some (run0 (.group 3)), pend := some { left := 1, entries := [(0x180000000, 0x20000003)], endTick := 9 } }; let r : PrvRun := run0 (.group 3); let w : PrvWrite := { left := 1, entries := [(0x180000000, 0x20000003)], endTick := 9 }; let a : Nat := 0x180000000; let v : W32 := 0x20000003; s.prv.run = some r ∧ s.prv.pend = some w ∧ w.left ≤ 1 ∧ w.entries = [(a, v)] ∧ s.dram.frozen = false ∧ s.dram.poison = [] ∧ r.stage ≠ .ending) ∧
    (let s : State := { upPv { resetPrv with run := some (run0 .ending), pend := some { left := 1, entries := [], endTick := 9 } } with dram := { resetDram with frozen := true } }; let r : PrvRun := run0 .ending; let w : PrvWrite := { left := 1, entries := [], endTick := 9 }; s.prv.run = some r ∧ s.prv.pend = some w ∧ w.left ≤ 1 ∧ s.dram.frozen = true ∧ r.stage = .ending) := by
  decide +kernel

/-! ### The Dravot monitor (R513 to R530) -/

/-- A module whose monitor is at its prompt, its state and registers set. -/
def upMo (f : MonSt → MonSt) (rs : List (Nat × W32)) : State := foldS (fun t q => t.wr q.1 q.2) { up with mon := f up.mon } rs

/-- The hypotheses of MonitorLine are met, clause by clause. -/
theorem witness_MonitorLine :
    (let s : State := upMo (fun m => { m with rxSeen := true, line := [0x42], tx := [0x30] }) []; let ch : Byte := 0x41; s.engineUp = true ∧ s.sys.answering = true ∧ s.mon.rxSeen = true ∧ ch ∉ [0x08, 0x0A, 0x0D, 0x7F] ∧ s.mon.tooLong = false ∧ s.mon.line.length < 120) ∧
    (let s : State := upMo (fun m => { m with line := [0x42] }) []; let ch : Byte := 0x41; s.engineUp = true ∧ s.sys.answering = true ∧ s.mon.rxSeen = false ∧ s.mon.trace = 0 ∧ ch ∉ [0x08, 0x0A, 0x0D, 0x7F] ∧ s.mon.tooLong = false ∧ s.mon.line.length < 120) ∧
    (let s : State := upMo (fun m => { m with line := [0x42] }) []; s.engineUp = true ∧ s.sys.answering = true ∧ s.mon.trace = 0) ∧
    (let s : State := upMo (fun m => { m with rxSeen := true, line := (txt "STOP").reverse }) [(MON_CTL, 1)]; s.engineUp = true ∧ s.sys.answering = true ∧ s.mon.rxSeen = true ∧ s.mon.trace = 0 ∧ s.mon.prompt = true ∧ s.mon.tooLong = false ∧ s.mon.line.reverse = txt "STOP" ∧ s.bit MON_CTL 0 = true ∧ s.bit MON_CTL 1 = false) ∧
    (let s : State := upMo (fun m => { m with rxSeen := true, tooLong := true }) [(MON_CTL, 1)]; s.engineUp = true ∧ s.sys.answering = true ∧ s.mon.rxSeen = true ∧ s.mon.trace = 0 ∧ s.mon.prompt = true ∧ s.mon.tooLong = true ∧ s.bit MON_CTL 1 = false) ∧
    (let s : State := upMo (fun m => { m with line := [0x42], tx := [0x30] }) [(MON_BAUD, 5)]; s.engineUp = true ∧ s.sys.answering = true ∧ s.mon.trace = 0) ∧
    (let s : State := upMo (fun m => { m with trace := 2, left := 5, buf := [[0x41]] }) [(MON_BAUD, 5)]; s.engineUp = true ∧ s.sys.answering = true ∧ s.mon.trace ≠ 0 ∧ s.mon.dropped = 0) ∧
    (let s : State := upMo (fun m => { m with rxSeen := true }) []; let ln : List Byte := txt "peek 0x1 2 3"; s.engineUp = true ∧ s.sys.answering = true ∧ s.mon.trace = 0 ∧ s.mon.prompt = true ∧ (120 < ln.length ∨ parseLine ln = .bad)) ∧
    (let s : State := upMo (fun m => { m with tx := [0x41, 0x42, 0x43] }) []; let ch : Byte := 0x41; let d : Byte := 0x42; let cs : List Byte := [0x43]; s.engineUp = true ∧ s.sys.answering = true ∧ s.mon.tx = ch :: d :: cs ∧ s.mon.baudNext = none) ∧
    (let s : State := upMo (fun m => { m with tx := [0x41], baudLine := some 3, promptNext := true }) []; let ch : Byte := 0x41; let n : Nat := 3; s.engineUp = true ∧ s.sys.answering = true ∧ s.mon.tx = [ch] ∧ s.mon.baudNext = none ∧ s.mon.baudLine = some n ∧ n < 8 ∧ s.mon.promptNext = true) ∧
    (let s : State := upMo (fun m => { m with tx := [0x41], prompt := false }) []; let ch : Byte := 0x41; s.engineUp = true ∧ s.sys.answering = true ∧ s.mon.tx = [ch] ∧ s.mon.baudNext = none ∧ s.mon.baudLine = none ∧ s.mon.promptNext = false ∧ s.mon.trace = 0 ∧ s.mon.waiting = []) ∧
    (let s : State := upMo (fun m => { m with rxSeen := true }) []; let n : Nat := 3000; s.engineUp = true ∧ s.sys.answering = true ∧ s.mon.trace = 0 ∧ s.mon.prompt = true ∧ s.bit MON_CTL 0 = true ∧ 1 ≤ n ∧ n ≤ 3000) ∧
    (let s : State := upMo (fun m => { m with rxSeen := true }) []; let n : Nat := 3001; s.engineUp = true ∧ s.sys.answering = true ∧ s.mon.trace = 0 ∧ s.mon.prompt = true ∧ s.bit MON_CTL 0 = true ∧ (n = 0 ∨ 3000 < n)) ∧
    (let s : State := upMo (fun m => { m with trace := 1, left := 3, dropped := 3, buf := [[0x41]] }) []; s.engineUp = true ∧ s.sys.answering = true ∧ s.mon.trace ≠ 0 ∧ s.mon.dropped = 3) ∧
    (let s : State := upMo (fun m => { m with rxSeen := true }) []; s.engineUp = true ∧ s.sys.answering = true ∧ s.mon.trace = 0 ∧ s.mon.prompt = true ∧ s.bit MON_CTL 0 = true) ∧
    (let s : State := upMo (fun m => { m with rxSeen := true }) []; let n : Nat := 5; s.engineUp = true ∧ s.sys.answering = true ∧ s.mon.trace = 0 ∧ s.mon.prompt = true ∧ n ≤ 5) ∧
    (let s : State := upMo (fun m => { m with trace := 3, left := 2 }) []; s.engineUp = true ∧ s.sys.answering = true ∧ s.mon.trace ≠ 0) ∧
    (let s : State := upMo (fun m => { m with rxSeen := true }) [(MON_CTL, 2)]; s.engineUp = true ∧ s.sys.answering = true ∧ s.mon.trace = 0 ∧ s.mon.prompt = true ∧ s.bit MON_CTL 0 = false) ∧
    (let s : State := upMo (fun m => { m with tx := [0x41] }) []; s.engineUp = true ∧ s.sys.answering = true ∧ s.hostUp = true) := by
  decide +kernel

/-- The hypotheses of MonitorCommands are met, clause by clause. -/
theorem witness_MonitorCommands :
    (let s : State := { upMo (fun m => { m with tx := [0x30] }) [] with sys := { up.sys with straps := 2, ready := true } }; let a : Nat := 0x1000010; s.engineUp = true ∧ s.sys.answering = true ∧ s.mon.trace = 0 ∧ s.mon.prompt = true ∧ s.bit MON_CTL 0 = true ∧ a % 4 = 0 ∧ 0x1000000 ≤ a ∧ a < 0x2000000 ∧ s.underTest 0 = false) ∧
    (let s : State := { upMo (fun m => { m with tx := [0x30] }) [] with sys := { up.sys with straps := 2, ready := true } }; let a : Nat := 0x1000010; s.engineUp = true ∧ s.sys.answering = true ∧ s.mon.trace = 0 ∧ s.mon.prompt = true ∧ s.bit MON_CTL 0 = true ∧ a % 4 = 0 ∧ 0x1000000 ≤ a ∧ a + 16 < 0x2000000 ∧ s.underTest 0 = false) ∧
    (let s : State := { upMo (fun m => { m with tx := [0x30] }) [] with sys := { up.sys with straps := 2, ready := true } }; let a : Nat := 0xFFFFEC; s.engineUp = true ∧ s.sys.answering = true ∧ s.mon.trace = 0 ∧ s.mon.prompt = true ∧ s.bit MON_CTL 0 = true ∧ a % 4 = 0 ∧ 0x240000 ≤ a ∧ a < 0x1000000 ∧ ∀ q ∈ [(Instr.monPeek a 1, hexW 0), (.monDump a 16, spaced [hexW 0, hexW 0, hexW 0, hexW 0])], a + 16 < 0x1000000) ∧
    (let s : State := { upMo (fun m => { m with tx := [0x30] }) [] with sys := { up.sys with straps := 2, ready := true } }; let a : Nat := 0x100000002; s.engineUp = true ∧ s.sys.answering = true ∧ s.mon.trace = 0 ∧ s.mon.prompt = true ∧ s.bit MON_CTL 0 = true ∧ (a % 4 ≠ 0 ∨ 2 ^ 32 ≤ a)) ∧
    (let s : State := { upMo (fun m => { m with tx := [0x30] }) [] with sys := { up.sys with straps := 2, ready := true }, dram := { up.dram with ranksW := 1 } }; let a : Nat := 0x2000000; s.engineUp = true ∧ s.sys.answering = true ∧ s.mon.trace = 0 ∧ s.mon.prompt = true ∧ s.bit MON_CTL 0 = true ∧ a % 16 = 0 ∧ a < 2 ^ 32 ∧ s.dram.frozen = false ∧ s.dram.poison = [] ∧ a + 16 ≤ s.dramSize) ∧
    (let s : State := (upMo id []).raise 5; s.engineUp = true ∧ s.sys.answering = true ∧ s.mon.trace = 0 ∧ s.mon.prompt = true ∧ s.bit MON_CTL 0 = true) ∧
    (let s : State := { upMo (fun m => { m with tx := [0x30] }) [] with sys := { up.sys with straps := 2, ready := true } }; let k : Nat := 3; s.engineUp = true ∧ s.sys.answering = true ∧ s.mon.trace = 0 ∧ s.mon.prompt = true ∧ s.bit MON_CTL 0 = true ∧ k < 16) ∧
    (let s : State := { upMo (fun m => { m with tx := [0x30] }) [] with sys := { up.sys with straps := 2, ready := true } }; let k : Nat := 16; s.engineUp = true ∧ s.sys.answering = true ∧ s.mon.trace = 0 ∧ s.mon.prompt = true ∧ s.bit MON_CTL 0 = true ∧ 16 ≤ k) ∧
    (let s : State := { upMo (fun m => { m with tx := [0x30] }) [] with sys := { up.sys with straps := 2, ready := true } }; let n : Nat := 65535; s.engineUp = true ∧ s.sys.answering = true ∧ s.mon.trace = 0 ∧ s.mon.prompt = true ∧ s.bit MON_CTL 0 = true ∧ n < 65536 ∧ s.dram.frozen = false ∧ s.dram.poison = []) ∧
    (let s : State := { upMo (fun m => { m with tx := [0x30] }) [] with sys := { up.sys with straps := 2, ready := true } }; s.engineUp = true ∧ s.sys.answering = true ∧ s.mon.trace = 0 ∧ s.mon.prompt = true ∧ s.bit MON_CTL 0 = true ∧ s.hwSilent .hwd = false) ∧
    (let s : State := { upMo id [] with sys := { up.sys with straps := 0 } }; let a : Nat := 0x1020; s.engineUp = true ∧ s.sys.answering = true ∧ s.mon.trace = 0 ∧ s.mon.prompt = true ∧ s.bit MON_CTL 0 = true ∧ s.class2 = false ∧ a % 4 = 0 ∧ a < 2 ^ 32) ∧
    (let s : State := { upMo (fun m => { m with tx := [0x30] }) [] with sys := { up.sys with straps := 2, ready := true } }; let a : Nat := 0x1FFFFFC; s.engineUp = true ∧ s.sys.answering = true ∧ s.mon.trace = 0 ∧ s.mon.prompt = true ∧ s.bit MON_CTL 0 = true ∧ s.class2 = true ∧ a % 4 = 0 ∧ 0x1000000 ≤ a ∧ a < 0x2000000 ∧ s.underTest 0 = false) ∧
    (let s : State := { upMo (fun m => { m with tx := [0x30] }) [] with sys := { up.sys with straps := 2, ready := true } }; s.engineUp = true ∧ s.sys.answering = true ∧ s.mon.trace = 0 ∧ s.mon.prompt = true ∧ s.bit MON_CTL 0 = true ∧ s.class2 = true) ∧
    (let s : State := { upMo (fun m => { m with tx := [0x30] }) [] with sys := { up.sys with straps := 2, ready := true }, trk := { resetTrk with test := true } }; let a : Nat := 0x1000010; let v : W32 := 0x12345678; let m : W32 := 0xFFFF0000; let w : W32 := 0x12340005; s.engineUp = true ∧ s.sys.answering = true ∧ s.mon.trace = 0 ∧ s.mon.prompt = true ∧ s.bit MON_CTL 0 = true ∧ s.class2 = true ∧ a % 4 = 0 ∧ 0x1000000 ≤ a ∧ a < 0x2000000 ∧ s.underTest 0 = false ∧ s.trkMode ≠ 1 ∧ w = (s.poolW (a - 0x1000000) &&& ~~~m) ||| (v &&& m)) ∧
    (let s : State := { upMo (fun m => { m with tx := [0x30] }) [] with sys := { up.sys with straps := 2, ready := true } }; let a : Nat := 0x1000010; s.engineUp = true ∧ s.sys.answering = true ∧ s.mon.trace = 0 ∧ s.mon.prompt = true ∧ s.bit MON_CTL 0 = true ∧ s.class2 = true ∧ a % 4 = 0 ∧ 0x1000000 ≤ a ∧ a < 0x2000000 ∧ s.trkMode = 1) ∧
    (let s : State := { upMo (fun m => { m with tx := [0x30] }) [] with sys := { up.sys with straps := 2, ready := true } }; s.engineUp = true ∧ s.sys.answering = true ∧ s.mon.trace = 0 ∧ s.mon.prompt = true ∧ s.bit MON_CTL 0 = true ∧ s.class2 = true ∧ s.img.running = none ∧ s.sys.ready = true ∧ s.mem.act ≠ .destructive ∧ s.img.phase = .idle) ∧
    (let s : State := { upMo (fun m => { m with tx := [0x30] }) [] with sys := { up.sys with straps := 2, ready := true }, img := { resetImg with running := some img0 }, ports := [(3, { portInit with st := .run })] }; s.engineUp = true ∧ s.sys.answering = true ∧ s.mon.trace = 0 ∧ s.mon.prompt = true ∧ s.bit MON_CTL 0 = true ∧ s.class2 = true ∧ s.img.running.isSome = true ∧ s.ports.any (fun p => p.2.st != .off) = true) ∧
    (let s : State := { upMo (fun m => { m with tx := [0x30] }) [] with sys := { up.sys with straps := 2, ready := true }, trk := { resetTrk with test := true } }; s.engineUp = true ∧ s.sys.answering = true ∧ s.mon.trace = 0 ∧ s.mon.prompt = true ∧ s.bit MON_CTL 0 = true ∧ s.class2 = true ∧ s.sys.ready = true ∧ s.mem.act ≠ .destructive ∧ s.img.phase = .idle ∧ s.trk.lock = none) := by
  decide +kernel

/-! ### The machine -/

/-- A command waits in front of another. -/
def upTwo : State := { up with pending := [.heartwoodPowerUp, .coreOverrun 1] }
/-- The hypotheses of StepTakesFront, clause by clause. -/
theorem witness_StepTakesFront :
    (upTwo.pending = Instr.heartwoodPowerUp :: [.coreOverrun 1]) ∧ up.pending = [] := by
  decide +kernel
/-- The hypotheses of MemoriesStayCanonical, of a state with a command and bytes in its memories. -/
theorem witness_MemoriesStayCanonical : memOk upTwo = true ∧ ∃ t, step upTwo = .next t :=
  ⟨by decide +kernel, _, rfl⟩
/-- The hypothesis of StepsKeepStacksAndQueue, of a state with a core in a loop and a call. -/
theorem witness_StepsKeepStacksAndQueue : coresOk upTwo = true := by
  decide +kernel

end Sys2Proof.Tests
end

section
/-! SUPPORT. The frame tick (R15 to R34): what a boundary keeps and advances, realignment, and the overrun of a core. -/

namespace Sys2Proof.Machine

/-! ## The time base

What the counters of R15 and R25 rest on: the tick counter, the realignment, the phase and the clock that make a boundary one of a running
module, the tick length of the image, and what could stop the clock at the boundary (the ledger's records, a load or graft, a Nap request). -/

/-- The fields by which a boundary keeps or moves the counters. -/
structure TimeBase where
  tick : W64
  mediaRun : Bool
  phase : Phase
  realignReq : Bool
  realignLeft : Nat
  tickLen : Nat
  entries : List LedgerEntry
  load : LoadPhase
  stage : NapStage

/-- The time base of a state. -/
def State.timeBase (s : State) : TimeBase :=
  { tick := s.sys.tick, mediaRun := s.sys.mediaRun, phase := s.sys.phase, realignReq := s.sys.realignReq, realignLeft := s.sys.realignLeft,
    tickLen := s.tickLen, entries := s.ledger.entries, load := s.img.phase, stage := s.pwd.stage }

section
variable (s : State)

/-! ### Updates, branches and folds

One lemma follows for each function that a boundary reaches and that leaves the time base alone. simp tries them on a whole call before it visits
the state inside (`↓`), and they are no definitional rewrites (`(rfl)`), so that neither simp nor the kernel unfolds a chain of updates. -/

theorem timeBase_of_evtOnly {s t : State} (h : evtOnly s t) : t.timeBase = s.timeBase := by
  rw [h.eq]
  rfl

/-- An update of parts that hold nothing of the time base. -/
@[simp ↓] theorem timeBase_eta {pending fit regs out free jobs graph canopy cores ports clk net tim pps dram mem trk twn hwd prv prs mon} :
    (State.mk pending fit regs out free s.sys jobs s.ledger s.img graph canopy cores ports clk net tim pps dram mem trk twn hwd prv prs
      s.pwd mon).timeBase = s.timeBase := (rfl)
/-- An update of the other fields of `sys`. -/
@[simp ↓] theorem timeBase_eta_sys {pending fit regs out free jobs graph canopy cores ports clk net tim pps dram mem trk twn hwd prv prs mon
    answering ready cause straps hostLink faulty aligned realignLoaded cfgPass cfgDirty cfgCommit cfgDiffs cfgActed spiTag spiStatus
    spiDiscarded capHost capMon msix deferred onceTick} :
    (State.mk pending fit regs out free (SysSt.mk s.sys.phase answering ready cause straps hostLink faulty s.sys.mediaRun aligned s.sys.tick
      s.sys.realignReq s.sys.realignLeft realignLoaded cfgPass cfgDirty cfgCommit cfgDiffs cfgActed spiTag spiStatus spiDiscarded capHost capMon
      msix deferred onceTick) jobs s.ledger s.img graph canopy cores ports clk net tim pps dram mem trk twn hwd prv prs s.pwd mon).timeBase
      = s.timeBase := (rfl)
@[simp ↓] theorem modSys_timeBase (f : SysSt → SysSt) (h : ∀ y, (f y).tick = y.tick ∧ (f y).mediaRun = y.mediaRun ∧ (f y).phase = y.phase ∧
    (f y).realignReq = y.realignReq ∧ (f y).realignLeft = y.realignLeft) : (s.modSys f).timeBase = s.timeBase := by
  obtain ⟨htick, hrun, hphase, hreq, hleft⟩ := h s.sys
  simp [State.timeBase, State.modSys, State.tickLen, htick, hrun, hphase, hreq, hleft]
@[simp ↓] theorem modLedger_timeBase (f : LedgerState → LedgerState) (h : ∀ l, (f l).entries = l.entries) :
    (s.modLedger f).timeBase = s.timeBase := by
  simp [State.timeBase, State.modLedger, State.tickLen, h]
@[simp ↓] theorem ite_timeBase (c : Prop) [Decidable c] (s t : State) :
    (if c then s else t).timeBase = if c then s.timeBase else t.timeBase := apply_ite _ _ _ _
@[simp ↓] theorem when_timeBase (c : Bool) (f : State → State) : (s.when c f).timeBase = if c then (f s).timeBase else s.timeBase :=
  apply_ite _ _ _ _
@[simp ↓] theorem onHw_timeBase (f : State → State) : (s.onHw f).timeBase = if s.hwHere then (f s).timeBase else s.timeBase :=
  apply_ite _ _ _ _

/-- A fold whose every step keeps the time base of the state it carries keeps it. -/
theorem foldS_timeBase_of {σ α : Type} (g : σ → State) (f : σ → α → σ) (p : σ) (l : List α)
    (h : ∀ q a, (g (f q a)).timeBase = (g q).timeBase) : (g (foldS f p l)).timeBase = (g p).timeBase := by
  induction l generalizing p with
  | nil => rfl
  | cons x xs ih => rw [foldS, ih, h]
@[simp ↓] theorem foldS_timeBase {α : Type} (f : State → α → State) (l : List α) (h : ∀ t a, (f t a).timeBase = t.timeBase) :
    (foldS f s l).timeBase = s.timeBase := foldS_timeBase_of id f s l h

/-! ### Registers and events -/

@[simp ↓] theorem wr_timeBase (a : Nat) (v : W32) : (s.wr a v).timeBase = s.timeBase := (rfl)
@[simp ↓] theorem flag_timeBase (a i : Nat) : (s.flag a i).timeBase = s.timeBase := (rfl)
@[simp ↓] theorem count_timeBase (a n : Nat) : (s.count a n).timeBase = s.timeBase := (rfl)
@[simp ↓] theorem raise_timeBase (e : Nat) : (s.raise e).timeBase = s.timeBase := timeBase_of_evtOnly (raise_only s e)
@[simp ↓] theorem flagRaise_timeBase (a i e : Nat) : (s.flagRaise a i e).timeBase = s.timeBase := raise_timeBase _ _
@[simp ↓] theorem raiseOnce_timeBase (e : Nat) : (s.raiseOnce e).timeBase = s.timeBase := by simp [State.raiseOnce]
@[simp ↓] theorem trace_timeBase (kind : Nat) (line : List Byte) : (s.trace kind line).timeBase = s.timeBase :=
  timeBase_of_evtOnly (trace_only s kind line)
@[simp ↓] theorem emit_timeBase (o : Out) : (s.emit o).timeBase = s.timeBase := (rfl)
@[simp ↓] theorem drawn_timeBase : s.drawn.timeBase = s.timeBase := (rfl)

/-! ### Parts that hold nothing of the time base -/

@[simp ↓] theorem modClk_timeBase (f : ClkSt → ClkSt) : (s.modClk f).timeBase = s.timeBase := (rfl)
@[simp ↓] theorem modTim_timeBase (f : TimSt → TimSt) : (s.modTim f).timeBase = s.timeBase := (rfl)
@[simp ↓] theorem modTwn_timeBase (f : TwnSt → TwnSt) : (s.modTwn f).timeBase = s.timeBase := (rfl)
@[simp ↓] theorem modPrs_timeBase (f : PrsSt → PrsSt) : (s.modPrs f).timeBase = s.timeBase := (rfl)
@[simp ↓] theorem modHwd_timeBase (f : HwdSt → HwdSt) : (s.modHwd f).timeBase = s.timeBase := (rfl)
@[simp ↓] theorem modMem_timeBase (f : MemSt → MemSt) : (s.modMem f).timeBase = s.timeBase := (rfl)
@[simp ↓] theorem modPrv_timeBase (f : PrvSt → PrvSt) : (s.modPrv f).timeBase = s.timeBase := (rfl)
@[simp ↓] theorem modRef_timeBase (i : Nat) (f : RefIn → RefIn) : (s.modRef i f).timeBase = s.timeBase := (rfl)
@[simp ↓] theorem modLeg_timeBase (legB : Bool) (f : PtpLeg → PtpLeg) : (s.modLeg legB f).timeBase = s.timeBase := (rfl)
@[simp ↓] theorem setStr_timeBase (k : Nat) (x : Stream) : (s.setStr k x).timeBase = s.timeBase := (rfl)
@[simp ↓] theorem setPort_timeBase (p : Nat) (x : Port) : (s.setPort p x).timeBase = s.timeBase := (rfl)
@[simp ↓] theorem modPort_timeBase (p : Nat) (f : Port → Port) : (s.modPort p f).timeBase = s.timeBase := (rfl)
@[simp ↓] theorem setLine_timeBase (l : Nat) (x : LineState) : (s.setLine l x).timeBase = s.timeBase := (rfl)
@[simp ↓] theorem setSel_timeBase (k : Nat) (x : SelState) : (s.setSel k x).timeBase = s.timeBase := (rfl)
@[simp ↓] theorem setVoice_timeBase (v : Nat) (x : Voice) : (s.setVoice v x).timeBase = s.timeBase := (rfl)
@[simp ↓] theorem setRecorder_timeBase (c : Nat) (x : Recorder) : (s.setRecorder c x).timeBase = s.timeBase := (rfl)
@[simp ↓] theorem setTap_timeBase (l : Nat) (raw : Option (List Int × List Int × Nat × Nat)) (out : List Int) :
    (s.setTap l raw out).timeBase = s.timeBase :=
  (rfl)
@[simp ↓] theorem setCore_timeBase (k : Nat) (c : Core) : (s.setCore k c).timeBase = s.timeBase := (rfl)
@[simp ↓] theorem setChan_timeBase (c : Nat) (x : Channel) : (s.setChan c x).timeBase = s.timeBase := (rfl)
@[simp ↓] theorem modChan_timeBase (c : Nat) (f : Channel → Channel) : (s.modChan c f).timeBase = s.timeBase := (rfl)
@[simp ↓] theorem modNetPort_timeBase (p : Nat) (f : NetPort → NetPort) : (s.modNetPort p f).timeBase = s.timeBase := (rfl)
@[simp ↓] theorem modStr_timeBase (k : Nat) (f : Stream → Stream) : (s.modStr k f).timeBase = s.timeBase := (rfl)
@[simp ↓] theorem setCh_timeBase (k : Nat) (x : PowCh) : (s.setCh k x).timeBase = s.timeBase := (rfl)

/-! ### Jobs and results -/

@[simp ↓] theorem resultWrite_timeBase (slot : Nat) (ws : List W32) : (s.resultWrite slot ws).timeBase = s.timeBase := (rfl)
@[simp ↓] theorem resultMore_timeBase (slot k : Nat) (ws : List W32) : (s.resultMore slot k ws).timeBase = s.timeBase := (rfl)
@[simp ↓] theorem resultClear_timeBase (slot : Nat) : (s.resultClear slot).timeBase = s.timeBase := (rfl)
@[simp ↓] theorem jobFin_timeBase (k err : Nat) : (s.jobFin k err).timeBase = s.timeBase := (rfl)
@[simp ↓] theorem jobEnd_timeBase (k err : Nat) : (s.jobEnd k err).timeBase = s.timeBase := (rfl)
@[simp ↓] theorem jobAborted_timeBase (k : Nat) : (s.jobAborted k).timeBase = s.timeBase := (rfl)
@[simp ↓] theorem jobProgress_timeBase (k n : Nat) : (s.jobProgress k n).timeBase = s.timeBase := (rfl)
@[simp ↓] theorem imgFailed_timeBase (place code sec : Nat) : (s.imgFailed place code sec).timeBase = s.timeBase := (rfl)
@[simp ↓] theorem imgDropped_timeBase (k code : Nat) : (s.imgDropped k code).timeBase = s.timeBase := by simp [State.imgDropped]
@[simp ↓] theorem sceneClose_timeBase (k : Nat) : (s.sceneClose k).timeBase = s.timeBase := by
  unfold State.sceneClose
  split <;> simp
@[simp ↓] theorem jobFrozen_timeBase (k : Nat) : (s.jobFrozen k).timeBase = s.timeBase := by simp [State.jobFrozen]

/-! ### The twin pair -/

@[simp ↓] theorem declareFaulty_timeBase : s.declareFaulty.timeBase = s.timeBase := (rfl)
@[simp ↓] theorem outOfStep_timeBase (cause : Nat) : (s.outOfStep cause).timeBase = s.timeBase := by
  unfold State.outOfStep
  split <;> simp
@[simp ↓] theorem twinFault_timeBase : s.twinFault.timeBase = s.timeBase := by
  unfold State.twinFault
  split <;> simp
@[simp ↓] theorem partnerOut_timeBase : s.partnerOut.timeBase = s.timeBase := by simp [State.partnerOut]

/-! ### Step 1: the counters, crossfades and the close of the tick -/

@[simp ↓] theorem lineFades_timeBase : s.lineFades.timeBase = s.timeBase := (rfl)
@[simp ↓] theorem selTick_timeBase : s.selTick.timeBase = s.timeBase := (rfl)
@[simp ↓] theorem timTick_timeBase (dt : Nat) : (s.timTick dt).timeBase = s.timeBase := (rfl)
@[simp ↓] theorem bundleSize_timeBase (n : Nat) : (s.bundleSize n).timeBase = s.timeBase := by simp [State.bundleSize]
@[simp ↓] theorem cutoffNow_timeBase : s.cutoffNow.timeBase = s.timeBase := by
  unfold State.cutoffNow
  split_ifs
  · exact bundleSize_timeBase _ _
  · rfl
@[simp ↓] theorem mixEnd_timeBase : s.mixEnd.timeBase = s.timeBase := (rfl)

/-! ### Step 2: arrivals -/

@[simp ↓] theorem hwMicsTaken_timeBase : s.hwMicsTaken.timeBase = s.timeBase := (rfl)
@[simp ↓] theorem itemsSend_timeBase (c : Nat) (blocks : List (PortSrc × List Int)) : (s.itemsSend c blocks).timeBase = s.timeBase := by
  simp [State.itemsSend]
@[simp ↓] theorem slipLast_timeBase (p : Nat) : (s.slipLast p).timeBase = s.timeBase := by simp [State.slipLast]
@[simp ↓] theorem portPads_timeBase (p n : Nat) : (s.portPads p n).timeBase = s.timeBase := by simp [State.portPads]
@[simp ↓] theorem portClose_timeBase (t p : Nat) : (s.portClose t p).timeBase = s.timeBase := by
  unfold State.portClose
  dsimp only
  split <;> simp
@[simp ↓] theorem strClose_timeBase (c : Nat) (s : State) (k : Nat) : (State.strClose c s k).timeBase = s.timeBase := by simp [State.strClose]
@[simp ↓] theorem ingest_timeBase (asrc : List (Nat × List Int)) (c : Nat) : (s.ingest asrc c).timeBase = s.timeBase := by simp [State.ingest]
@[simp ↓] theorem hwLost_timeBase (l : Bool) : (s.hwLost l).timeBase = s.timeBase := raise_timeBase _ _
@[simp ↓] theorem hwClose_timeBase : s.hwClose.timeBase = s.timeBase := by simp [State.hwClose]
@[simp ↓] theorem hwCarry_timeBase : s.hwCarry.timeBase = s.timeBase := by
  unfold State.hwCarry
  split <;> simp
@[simp ↓] theorem inputsClose_timeBase (c : Nat) : (s.inputsClose c).timeBase = s.timeBase := by simp [State.inputsClose]
@[simp ↓] theorem engineWrite_timeBase (a : Nat) (bs : List Byte) : (s.engineWrite a bs).timeBase = s.timeBase := by simp [State.engineWrite]
@[simp ↓] theorem ledgerVector_timeBase : s.ledgerVector.timeBase = s.timeBase := by
  unfold State.ledgerVector
  split_ifs
  · rfl
  · exact timeBase_of_evtOnly (vector_only _ 2)

/-! ### Step 3: timeouts and the clock references -/

@[simp ↓] theorem monIdle_timeBase : s.monIdle.timeBase = s.timeBase := by simp [State.monIdle]
@[simp ↓] theorem rtcAdvance_timeBase (n : Nat) : (s.rtcAdvance n).timeBase = s.timeBase := (rfl)
@[simp ↓] theorem windowEnd_timeBase : s.windowEnd.timeBase = s.timeBase := raise_timeBase _ _
@[simp ↓] theorem prsElapse_timeBase (n : Nat) : (s.prsElapse n).timeBase = s.timeBase := by
  unfold State.prsElapse
  split <;> simp
@[simp ↓] theorem marginEnd_timeBase : s.marginEnd.timeBase = s.timeBase := (rfl)
@[simp ↓] theorem marginTick_timeBase : s.marginTick.timeBase = s.timeBase := by simp [State.marginTick]
@[simp ↓] theorem strRaise_timeBase (k e : Nat) : (s.strRaise k e).timeBase = s.timeBase := raise_timeBase _ _
@[simp ↓] theorem strJudge_timeBase (k qa qb q : Nat) : (s.strJudge k qa qb q).timeBase = s.timeBase := by simp [State.strJudge]
@[simp ↓] theorem strTimeout_timeBase (k : Nat) : (s.strTimeout k).timeBase = s.timeBase := by simp [State.strTimeout]
@[simp ↓] theorem timJudge_timeBase : s.timJudge.timeBase = s.timeBase := by simp [State.timJudge]
@[simp ↓] theorem syncTimeout_timeBase : s.syncTimeout.timeBase = s.timeBase := by simp [State.syncTimeout]
@[simp ↓] theorem ptpTo_timeBase (st : PtpState) : (s.ptpTo st).timeBase = s.timeBase := by simp [State.ptpTo]
@[simp ↓] theorem serve_timeBase : s.serve.timeBase = s.timeBase := by simp [State.serve]
@[simp ↓] theorem ptpDecide_timeBase : s.ptpDecide.timeBase = s.timeBase := by simp [State.ptpDecide]
@[simp ↓] theorem annTimeout_timeBase : s.annTimeout.timeBase = s.timeBase := by simp [State.annTimeout]
@[simp ↓] theorem ptpTimeouts_timeBase : s.ptpTimeouts.timeBase = s.timeBase := by simp [State.ptpTimeouts]
@[simp ↓] theorem steer_timeBase : s.steer.timeBase = s.timeBase := (rfl)
@[simp ↓] theorem setOut_timeBase (f : Int) : (s.setOut f).timeBase = s.timeBase := by simp [State.setOut]
@[simp ↓] theorem switchTo_timeBase (target : Nat) : (s.switchTo target).timeBase = s.timeBase := by simp [State.switchTo]
@[simp ↓] theorem clkTakeover_timeBase : s.clkTakeover.timeBase = s.timeBase := by simp [State.clkTakeover]
@[simp ↓] theorem takeover_timeBase (cause : Nat) : (s.takeover cause).timeBase = s.timeBase := by simp [State.takeover]
@[simp ↓] theorem resyncFail_timeBase (err : Nat) : (s.resyncFail err).timeBase = s.timeBase := by
  unfold State.resyncFail
  split <;> simp
@[simp ↓] theorem twnTimeouts_timeBase (closed : Bool) : (s.twnTimeouts closed).timeBase = s.timeBase := by
  unfold State.twnTimeouts
  split <;> simp
@[simp ↓] theorem holdJudge_timeBase (n : Nat) : (s.holdJudge n).timeBase = s.timeBase := by simp [State.holdJudge]
@[simp ↓] theorem holdAt_timeBase (n : Nat) : (s.holdAt n).timeBase = s.timeBase := by simp [State.holdAt]
@[simp ↓] theorem holdTick_timeBase : s.holdTick.timeBase = s.timeBase := by
  unfold State.holdTick
  split <;> simp
@[simp ↓] theorem holdNote_timeBase : s.holdNote.timeBase = s.timeBase := by
  unfold State.holdNote
  split <;> simp
@[simp ↓] theorem epochTick_timeBase : s.epochTick.timeBase = s.timeBase := by simp [State.epochTick]
@[simp ↓] theorem refArrive_timeBase (i : Nat) : (s.refArrive i).timeBase = s.timeBase := by simp [State.refArrive]
@[simp ↓] theorem refMark_timeBase (i reason : Nat) : (s.refMark i reason).timeBase = s.timeBase := (rfl)
@[simp ↓] theorem clkRaise_timeBase (i e : Nat) : (s.clkRaise i e).timeBase = s.timeBase := raise_timeBase _ _
@[simp ↓] theorem refLeave_timeBase (i : Nat) : (s.refLeave i).timeBase = s.timeBase := by simp [State.refLeave]
@[simp ↓] theorem refGate_timeBase (i : Nat) : (s.refGate i).timeBase = s.timeBase := by simp [State.refGate]
@[simp ↓] theorem phiOf_timeBase (obs : List (Nat × Int)) (i : Nat) : (s.phiOf obs i).2.timeBase = s.timeBase := by
  unfold State.phiOf
  dsimp only
  split_ifs
  · rfl
  · split <;> rfl
  · split
    · rfl
    · exact drawn_timeBase s
@[simp ↓] theorem refMeasure_timeBase (obs : List (Nat × Int)) (s : State) (i : Nat) : (State.refMeasure obs s i).timeBase = s.timeBase := by
  simp [State.refMeasure]
@[simp ↓] theorem refFail_timeBase (i reason : Nat) : (s.refFail i reason).timeBase = s.timeBase := by simp [State.refFail]
@[simp ↓] theorem refSettle_timeBase (i : Nat) : (s.refSettle i).timeBase = s.timeBase := by simp [State.refSettle]
@[simp ↓] theorem refQualify_timeBase (i : Nat) : (s.refQualify i).timeBase = s.timeBase := raise_timeBase _ _
@[simp ↓] theorem refWindowEnd_timeBase (q : Nat × Int) : (s.refWindowEnd q).timeBase = s.timeBase := by simp [State.refWindowEnd]
@[simp ↓] theorem dispute_timeBase (p : Nat × Nat) : (s.dispute p).timeBase = s.timeBase := raise_timeBase _ _
@[simp ↓] theorem agree_timeBase (apart : List (Nat × Nat)) (s : State) (i : Nat) : (State.agree apart s i).timeBase = s.timeBase := by
  simp [State.agree]
@[simp ↓] theorem freqEnd_timeBase (freqs : List (Nat × Int)) : (s.freqEnd freqs).timeBase = s.timeBase := by
  unfold State.freqEnd
  dsimp only
  rw [foldS_timeBase _ _ _ (fun u i => modRef_timeBase u i _), foldS_timeBase _ _ _ dispute_timeBase,
    foldS_timeBase _ _ _ (agree_timeBase _), foldS_timeBase]
  intro t i
  split <;> simp
@[simp ↓] theorem windowTick_timeBase : s.windowTick.timeBase = s.timeBase := by simp [State.windowTick]
@[simp ↓] theorem guardEnd_timeBase (i : Nat) : (s.guardEnd i).timeBase = s.timeBase := by simp [State.guardEnd]
@[simp ↓] theorem guardTick_timeBase (i : Nat) : (s.guardTick i).timeBase = s.timeBase := by simp [State.guardTick]
@[simp ↓] theorem refTick_timeBase (obs : List (Nat × Int)) : (s.refTick obs).timeBase = s.timeBase := by simp [State.refTick]
@[simp ↓] theorem switchAim_timeBase : s.switchAim.timeBase = s.timeBase := by simp [State.switchAim]
@[simp ↓] theorem closeLoop_timeBase (i : Nat) : (s.closeLoop i).timeBase = s.timeBase := by simp [State.closeLoop]
@[simp ↓] theorem switchEnd_timeBase : s.switchEnd.timeBase = s.timeBase := by simp [State.switchEnd]
@[simp ↓] theorem switchTick_timeBase : s.switchTick.timeBase = s.timeBase := by simp [State.switchTick]
@[simp ↓] theorem absorbEnd_timeBase : s.absorbEnd.timeBase = s.timeBase := raise_timeBase _ _
@[simp ↓] theorem loopTick_timeBase : s.loopTick.timeBase = s.timeBase := by
  unfold State.loopTick
  split <;> simp
@[simp ↓] theorem selectRef_timeBase : s.selectRef.timeBase = s.timeBase := by
  unfold State.selectRef
  dsimp only
  cases s.eligibleRefs with
  | nil => simp
  | cons i is => cases s.clk.wtrLeft <;> simp
@[simp ↓] theorem loopStage_timeBase : s.loopStage.timeBase = s.timeBase := by simp [State.loopStage]
@[simp ↓] theorem clkTick_timeBase (obs : List (Nat × Int)) : (s.clkTick obs).timeBase = s.timeBase := by simp [State.clkTick]

/-! ### Steps 5 and 6: swaps and delay lines -/

@[simp ↓] theorem setsSwap_timeBase : s.setsSwap.timeBase = s.timeBase := by simp [State.setsSwap]
@[simp ↓] theorem selSwap_timeBase (early : Bool) : (s.selSwap early).timeBase = s.timeBase := (rfl)
@[simp ↓] theorem swapEffect_timeBase (t : Nat) (early : Bool) : (s.swapEffect t early).timeBase = s.timeBase := by
  unfold State.swapEffect
  split <;> simp
@[simp ↓] theorem swapStep_timeBase (t : Nat) : (s.swapStep t).timeBase = s.timeBase := by simp [State.swapStep]
@[simp ↓] theorem rngFlag_timeBase (i : Nat) : (s.rngFlag i).timeBase = s.timeBase := raise_timeBase _ _
@[simp ↓] theorem lineStep6_timeBase (l : Nat) : (s.lineStep6 l).timeBase = s.timeBase := by
  unfold State.lineStep6
  dsimp only
  split
  · simp
  · split <;> simp
@[simp ↓] theorem step6_timeBase : s.step6.timeBase = s.timeBase := by simp [State.step6]

/-! ### Step 7: what the boundary measures -/

@[simp ↓] theorem ovrBit_timeBase (k : Nat) : (s.ovrBit k).timeBase = s.timeBase := by simp [State.ovrBit]
@[simp ↓] theorem coreOverrun_timeBase (tick : Nat) (s : State) (k : Nat) : (State.coreOverrun tick s k).timeBase = s.timeBase := by
  simp [State.coreOverrun]
@[simp ↓] theorem marginNote_timeBase (k m : Nat) : (s.marginNote k m).timeBase = s.timeBase := by simp [State.marginNote]
@[simp ↓] theorem coreJudge_timeBase (tick : Nat) (s : State) (k : Nat) : (State.coreJudge tick s k).timeBase = s.timeBase := by
  simp [State.coreJudge]
@[simp ↓] theorem judgeCores_timeBase (tick : Nat) : (s.judgeCores tick).timeBase = s.timeBase := by simp [State.judgeCores]
@[simp ↓] theorem ringLate_timeBase (late : List RingObj) : (s.ringLate late).timeBase = s.timeBase := by simp [State.ringLate]
@[simp ↓] theorem gainUe_timeBase (e : GainEcc) (cnpBit : Nat) : (s.gainUe e cnpBit).timeBase = s.timeBase := by simp [State.gainUe]
@[simp ↓] theorem gainEcc_timeBase (e : GainEcc) : (s.gainEcc e).timeBase = s.timeBase := by
  unfold State.gainEcc
  dsimp only
  split
  · simp
  · split <;> simp
@[simp ↓] theorem fulEcc_timeBase (e : FulEcc) : (s.fulEcc e).timeBase = s.timeBase := by simp [State.fulEcc]
@[simp ↓] theorem poolEcc_timeBase (e : PoolEcc) : (s.poolEcc e).timeBase = s.timeBase := by
  unfold State.poolEcc
  split <;> simp
@[simp ↓] theorem poolScrub_timeBase : s.poolScrub.timeBase = s.timeBase := by simp [State.poolScrub]
@[simp ↓] theorem fulScrub_timeBase : s.fulScrub.timeBase = s.timeBase := by simp [State.fulScrub]
@[simp ↓] theorem gainScrub_timeBase : s.gainScrub.timeBase = s.timeBase := by simp [State.gainScrub]
@[simp ↓] theorem hwEvents_timeBase : s.hwEvents.timeBase = s.timeBase := by simp [State.hwEvents]
@[simp ↓] theorem portRaise_timeBase (p e : Nat) : (s.portRaise p e).timeBase = s.timeBase := raise_timeBase _ _
@[simp ↓] theorem rootLevel_timeBase (p : Nat) : (s.rootLevel p).timeBase = s.timeBase := by simp [State.rootLevel]
@[simp ↓] theorem portsClear_timeBase : s.portsClear.timeBase = s.timeBase := (rfl)
@[simp ↓] theorem hist_timeBase (ch cmd rank bg bank master addr : Nat) (alert : Bool) :
    (s.hist ch cmd rank bg bank master addr alert).timeBase = s.timeBase := by
  simp [State.hist]
@[simp ↓] theorem zqCalibrate_timeBase (ch : Nat) : (s.zqCalibrate ch).timeBase = s.timeBase := by simp [State.zqCalibrate]
@[simp ↓] theorem chanTick_timeBase (ch : Nat) : (s.chanTick ch).timeBase = s.timeBase := by simp [State.chanTick]
@[simp ↓] theorem migCopied_timeBase (ch : Nat) (m : Migration) (n : Nat) (last : Bool) : (s.migCopied ch m n last).timeBase = s.timeBase := by
  unfold State.migCopied
  split <;> simp
@[simp ↓] theorem migTick_timeBase (ch : Nat) : (s.migTick ch).timeBase = s.timeBase := by
  unfold State.migTick
  split <;> simp
@[simp ↓] theorem dramTime_timeBase : s.dramTime.timeBase = s.timeBase := by simp [State.dramTime]
@[simp ↓] theorem migComplete_timeBase (ch : Nat) (m0 : Migration) : (s.migComplete ch m0).timeBase = s.timeBase := by
  unfold State.migComplete
  dsimp only
  split <;> simp
@[simp ↓] theorem migRemap_timeBase (ch : Nat) : (s.migRemap ch).timeBase = s.timeBase := by
  unfold State.migRemap
  split <;> simp
@[simp ↓] theorem hammerWindow_timeBase : s.hammerWindow.timeBase = s.timeBase := (rfl)
@[simp ↓] theorem dramTick_timeBase : s.dramTick.timeBase = s.timeBase := by simp [State.dramTick]
@[simp ↓] theorem loadEnd_timeBase (sums : List Nat) : (s.loadEnd sums).timeBase = s.timeBase := by simp [State.loadEnd]
@[simp ↓] theorem trkTick_timeBase (load : List Nat) (bytes : Nat) : (s.trkTick load bytes).timeBase = s.timeBase := by simp [State.trkTick]
@[simp ↓] theorem pwdTick_timeBase : s.pwdTick.timeBase = s.timeBase := (rfl)
@[simp ↓] theorem tickTrace_timeBase : s.tickTrace.timeBase = s.timeBase := by simp [State.tickTrace]
@[simp ↓] theorem cfgAct_timeBase : s.cfgAct.timeBase = s.timeBase := by simp [State.cfgAct]
@[simp ↓] theorem cfgJudge_timeBase (crc : W32) : (s.cfgJudge crc).timeBase = s.timeBase := by simp [State.cfgJudge]
@[simp ↓] theorem cfgEnd_timeBase : s.cfgEnd.timeBase = s.timeBase := by simp [State.cfgEnd]
@[simp ↓] theorem cfgTick_timeBase : s.cfgTick.timeBase = s.timeBase := by simp [State.cfgTick]

/-! ### DRAM accesses that no freeze follows, and the Carder -/

@[simp ↓] theorem errAt_timeBase (ch kind synd word master rank c a : Nat) : (s.errAt ch kind synd word master rank c a).timeBase = s.timeBase := by
  simp [State.errAt]
@[simp ↓] theorem errRec_timeBase (ch kind synd word master rank a : Nat) : (s.errRec ch kind synd word master rank a).timeBase = s.timeBase := by
  simp [State.errRec]
@[simp ↓] theorem dramPoisonRead_timeBase (master a : Nat) (rt : Bool) : (s.dramPoisonRead master a rt).timeBase = s.timeBase := by
  simp [State.dramPoisonRead]
@[simp ↓] theorem migStart_timeBase (ch source cause : Nat) (slot : Option Nat) : (s.migStart ch source cause slot).timeBase = s.timeBase := by
  unfold State.migStart
  split <;> simp
@[simp ↓] theorem migAuto_timeBase (ch rank cause : Nat) : (s.migAuto ch rank cause).timeBase = s.timeBase := by simp [State.migAuto]
@[simp ↓] theorem dramCe_timeBase (synd : Byte) (master a : Nat) : (s.dramCe synd master a).timeBase = s.timeBase := by simp [State.dramCe]
@[simp ↓] theorem poisonWord_timeBase (a : Nat) : (s.poisonWord a).timeBase = s.timeBase := (rfl)
@[simp ↓] theorem migAbandon_timeBase (ch : Nat) (failed : Bool) : (s.migAbandon ch failed).timeBase = s.timeBase := by
  unfold State.migAbandon
  dsimp only
  split
  · simp
  · split <;> simp
@[simp ↓] theorem hammerTreat_timeBase (ch rank bg bank row : Nat) (masters : Sparse Nat) :
    (s.hammerTreat ch rank bg bank row masters).timeBase = s.timeBase := by
  simp [State.hammerTreat]
@[simp ↓] theorem hammerCheck_timeBase (ch rank bg bank row : Nat) : (s.hammerCheck ch rank bg bank row).timeBase = s.timeBase := by
  unfold State.hammerCheck
  split <;> simp
@[simp ↓] theorem activate_timeBase (ch rank bg bank row master : Nat) : (s.activate ch rank bg bank row master).timeBase = s.timeBase := by
  simp [State.activate]
@[simp ↓] theorem lineCmd_timeBase (a cmd master : Nat) : (s.lineCmd a cmd master).timeBase = s.timeBase := by simp [State.lineCmd]
@[simp ↓] theorem engineRead_timeBase (a n master : Nat) (rt : Bool) : (s.engineRead a n master rt).1.timeBase = s.timeBase := by
  unfold State.engineRead
  split <;> simp
@[simp ↓] theorem lockout_timeBase (master target : Nat) (forced : Bool) (addr : Nat) :
    (s.lockout master target forced addr).timeBase = s.timeBase := by
  simp [State.lockout]
@[simp ↓] theorem setMarch_timeBase (m : MarchWork) : (s.setMarch m).timeBase = s.timeBase := (rfl)
@[simp ↓] theorem putRep_timeBase (bank e : Nat) (r : RepEntry) : (s.putRep bank e r).timeBase = s.timeBase := (rfl)
@[simp ↓] theorem repairRow_timeBase (bank row : Nat) : (s.repairRow bank row).1.timeBase = s.timeBase := by
  unfold State.repairRow
  split_ifs
  · rfl
  · rfl
  · split <;> simp
@[simp ↓] theorem meetFails_timeBase (fs seen : List FailWord) (r : Nat × Nat × List W32) :
    (State.meetFails fs seen s r).1.timeBase = s.timeBase := by
  induction fs generalizing seen s r with
  | nil => rfl
  | cons f fs ih =>
    simp only [State.meetFails, ih]
    split_ifs <;> simp
@[simp ↓] theorem clearPool_timeBase (keep : Bool) : (s.clearPool keep).timeBase = s.timeBase := (rfl)
@[simp ↓] theorem clearFuller_timeBase : s.clearFuller.timeBase = s.timeBase := (rfl)
@[simp ↓] theorem clearGain_timeBase : s.clearGain.timeBase = s.timeBase := (rfl)
@[simp ↓] theorem marchResult_timeBase (m : MarchWork) : (s.marchResult m).timeBase = s.timeBase := (rfl)
@[simp ↓] theorem marchEnd_timeBase (found : Nat) : (s.marchEnd found).timeBase = s.timeBase := by simp [State.marchEnd]
@[simp ↓] theorem marchClose_timeBase (m : MarchWork) : (s.marchClose m).timeBase = s.timeBase := by simp [State.marchClose]
@[simp ↓] theorem bankTested_timeBase (m : MarchWork) : (s.bankTested m).timeBase = s.timeBase := by simp [State.bankTested]
@[simp ↓] theorem repSwitch_timeBase (key : Nat) : (s.repSwitch key).timeBase = s.timeBase := by
  unfold State.repSwitch
  split <;> simp
@[simp ↓] theorem loanSwitch_timeBase : s.loanSwitch.timeBase = s.timeBase := by
  unfold State.loanSwitch
  split <;> simp

/-! ### Step 8: ports, streams and proving -/

@[simp ↓] theorem portTo_timeBase (p : Nat) (x : Port) : (s.portTo p x).timeBase = s.timeBase := raise_timeBase _ _
@[simp ↓] theorem rateWr_timeBase (p : Nat) (v : W32) : (s.rateWr p v).timeBase = s.timeBase := by simp [State.rateWr]
@[simp ↓] theorem portStart_timeBase (p : Nat) : (s.portStart p).timeBase = s.timeBase := by simp [State.portStart]
@[simp ↓] theorem portLeadEnd_timeBase (p t : Nat) : (s.portLeadEnd p t).timeBase = s.timeBase := by
  unfold State.portLeadEnd
  dsimp only
  split <;> simp
@[simp ↓] theorem portReenter_timeBase (p : Nat) (x : Port) : (s.portReenter p x).timeBase = s.timeBase := (rfl)
@[simp ↓] theorem portTick_timeBase (t : Nat) (stop : Bool) (p : Nat) : (s.portTick t stop p).timeBase = s.timeBase := by
  unfold State.portTick
  dsimp only
  split <;> simp
@[simp ↓] theorem portsTick_timeBase (t : Nat) (stop : Bool) : (s.portsTick t stop).timeBase = s.timeBase := by simp [State.portsTick]
@[simp ↓] theorem strRefuse_timeBase (k : Nat) : (s.strRefuse k).timeBase = s.timeBase := by simp [State.strRefuse]
@[simp ↓] theorem strLoad_timeBase (v : W32) : (s.strLoad v).timeBase = s.timeBase := by simp [State.strLoad]
@[simp ↓] theorem portSend_timeBase (p : Nat) (o : Out) : (s.portSend p o).timeBase = s.timeBase := by simp [State.portSend]
@[simp ↓] theorem report_timeBase (p : Nat) (x : Stream) (leave : Bool) : (s.report p x leave).timeBase = s.timeBase := by simp [State.report]
@[simp ↓] theorem reports_timeBase (x : Stream) (leave : Bool) : (s.reports x leave).timeBase = s.timeBase := by simp [State.reports]
@[simp ↓] theorem strEnable_timeBase (v : W32) : (s.strEnable v).timeBase = s.timeBase := by simp [State.strEnable]
@[simp ↓] theorem strDisable_timeBase (v : W32) : (s.strDisable v).timeBase = s.timeBase := by simp [State.strDisable]
@[simp ↓] theorem strClear_timeBase (v : W32) : (s.strClear v).timeBase = s.timeBase := by simp [State.strClear]
@[simp ↓] theorem strApply_timeBase (v : W32) : (s.strApply v).timeBase = s.timeBase := by
  unfold State.strApply
  split <;> simp
@[simp ↓] theorem strApplies_timeBase : s.strApplies.timeBase = s.timeBase := by simp [State.strApplies]
@[simp ↓] theorem igmpAnswer_timeBase (p : Nat) (q : GroupQuery) : (s.igmpAnswer p q).timeBase = s.timeBase := by simp [State.igmpAnswer]
@[simp ↓] theorem netPortTick_timeBase (p : Nat) : (s.netPortTick p).timeBase = s.timeBase := by simp [State.netPortTick]
@[simp ↓] theorem netTick_timeBase : s.netTick.timeBase = s.timeBase := by simp [State.netTick]
@[simp ↓] theorem hqRefill_timeBase : s.hqRefill.timeBase = s.timeBase := by simp [State.hqRefill]
@[simp ↓] theorem selEval_timeBase (k : Nat) (info : SelInfo) : (s.selEval k info).timeBase = s.timeBase := by simp [State.selEval]
@[simp ↓] theorem selEvalAll_timeBase : s.selEvalAll.timeBase = s.timeBase := by
  refine (foldS_timeBase_of Prod.fst _ _ _ ?_).trans rfl
  intro p i
  simp
@[simp ↓] theorem tileGating_timeBase : s.tileGating.timeBase = s.timeBase := (rfl)
@[simp ↓] theorem enterCores_timeBase : s.enterCores.timeBase = s.timeBase := (rfl)
@[simp ↓] theorem tickEntry_timeBase (b : Nat) : (s.tickEntry b).timeBase = s.timeBase := by simp [State.tickEntry]
@[simp ↓] theorem prvShare_timeBase : s.prvShare.timeBase = s.timeBase := (rfl)
@[simp ↓] theorem prvStop_timeBase : s.prvStop.timeBase = s.timeBase := (rfl)
@[simp ↓] theorem prvAbort_timeBase : s.prvAbort.timeBase = s.timeBase := by
  unfold State.prvAbort
  split <;> simp
@[simp ↓] theorem prvStage_timeBase (g : PrvStage) : (s.prvStage g).timeBase = s.timeBase := (rfl)
@[simp ↓] theorem prvStart_timeBase (n : Nat) (stage : PrvStage) : (s.prvStart n stage).timeBase = s.timeBase := (rfl)
@[simp ↓] theorem prvNext_timeBase (r : PrvRun) (n : Nat) (stage : PrvStage) : (s.prvNext r n stage).timeBase = s.timeBase := by simp [State.prvNext]
@[simp ↓] theorem prvJudge_timeBase (r : PrvRun) (meas : List ProveMeas) (endTick : W32) (left : Nat) :
    (s.prvJudge r meas endTick left).timeBase = s.timeBase := by
  unfold State.prvJudge
  dsimp only
  split <;> simp
@[simp ↓] theorem prvStep_timeBase (n : Nat) (meas : List ProveMeas) : (s.prvStep n meas).timeBase = s.timeBase := by
  unfold State.prvStep
  dsimp only
  split
  · simp
  · split <;> simp
@[simp ↓] theorem prvWritten_timeBase (r : PrvRun) (w : PrvWrite) : (s.prvWritten r w).timeBase = s.timeBase := by simp [State.prvWritten]
@[simp ↓] theorem prvWrites_timeBase : s.prvWrites.timeBase = s.timeBase := by
  unfold State.prvWrites
  split <;> simp
@[simp ↓] theorem prvTick_timeBase (n : Nat) (meas : List ProveMeas) : (s.prvTick n meas).timeBase = s.timeBase := by simp [State.prvTick]

/-! ### Step 8: the stages of the pipeline -/

@[simp ↓] theorem handOff_timeBase (p : Nat × CoreInfo) : (s.handOff p).timeBase = s.timeBase := by simp [State.handOff]
@[simp ↓] theorem lineClose_timeBase (l : Nat) (i : LineInfo) : (s.lineClose l i).timeBase = s.timeBase := by
  unfold State.lineClose
  dsimp only
  split
  · simp
  · split <;> simp
@[simp ↓] theorem segmentEnd_timeBase (c : Nat) : (s.segmentEnd c).timeBase = s.timeBase := by
  unfold State.segmentEnd
  split <;> simp
@[simp ↓] theorem recorderRun_timeBase (c : Nat) (i : RecInfo) (xs : List Int) (late : Bool) : (s.recorderRun c i xs late).timeBase = s.timeBase := by
  simp [State.recorderRun]
@[simp ↓] theorem emitTick_timeBase (late : List RingObj) (mute : Bool) : (s.emitTick late mute).timeBase = s.timeBase := by
  unfold State.emitTick
  refine (foldS_timeBase_of Prod.fst _ _ _ (by simp)).trans ?_
  exact foldS_timeBase_of Prod.fst _ _ _ (by simp)
@[simp ↓] theorem emitStage_timeBase (obs : TickObs) (mute : Bool) : (s.emitStage obs mute).timeBase = s.timeBase := by simp [State.emitStage]
@[simp ↓] theorem tap_timeBase (i : LineInfo) (x : LineState) (d : Nat) : (s.tap i x d).1.timeBase = s.timeBase := by
  unfold State.tap
  dsimp only
  split
  · rfl
  · split
    · rfl
    · split <;> simp
@[simp ↓] theorem lineFetch_timeBase (l : Nat) (i : LineInfo) (late : Bool) : (s.lineFetch l i late).timeBase = s.timeBase := by
  unfold State.lineFetch
  dsimp only
  split
  · simp
  · split <;> simp
@[simp ↓] theorem lineReads_timeBase (late : List RingObj) : (s.lineReads late).timeBase = s.timeBase := by
  refine (foldS_timeBase_of Prod.fst _ _ _ ?_).trans rfl
  intro p i
  simp
@[simp ↓] theorem inbound_timeBase (mix : Sparse (List Int)) (p : Nat × CoreInfo) : (s.inbound mix p).timeBase = s.timeBase := (rfl)
@[simp ↓] theorem voiceLate_timeBase (v : Nat) (late : Bool) : (s.voiceLate v late).timeBase = s.timeBase := (rfl)
@[simp ↓] theorem voiceEnd_timeBase (v : Nat) : (s.voiceEnd v).timeBase = s.timeBase := by
  unfold State.voiceEnd
  dsimp only
  split <;> simp
@[simp ↓] theorem voiceStart_timeBase (v : Nat) : (s.voiceStart v).timeBase = s.timeBase := by
  unfold State.voiceStart
  dsimp only
  split <;> simp
@[simp ↓] theorem voiceStage_timeBase (v : Nat) : (s.voiceStage v).timeBase = s.timeBase := by
  unfold State.voiceStage
  dsimp only
  split <;> simp
@[simp ↓] theorem prvSee_timeBase (before : State) : (s.prvSee before).timeBase = s.timeBase := by
  unfold State.prvSee
  split
  · split
    · split <;> simp
    · rfl
  · rfl
@[simp ↓] theorem mixOutput_timeBase (n : Sparse Nat) (sums : Sparse (List Int)) (r : Sparse (List Int) × State) (o : Nat) :
    (mixOutput s n sums r o).2.timeBase = r.2.timeBase := by
  simp [mixOutput]
@[simp ↓] theorem canopyMix_timeBase (x y : Sparse (List Int)) : (s.canopyMix x y).timeBase = s.timeBase :=
  foldS_timeBase_of Prod.snd _ _ _ (mixOutput_timeBase s _ _)
@[simp ↓] theorem mixTick_timeBase : s.mixTick.timeBase = s.timeBase := by simp [State.mixTick]
@[simp ↓] theorem mixStage_timeBase (obs : TickObs) : (s.mixStage obs).timeBase = s.timeBase := by simp [State.mixStage]
@[simp ↓] theorem hwSamples_timeBase (k : Nat) (xs : List Int) : (s.hwSamples k xs).timeBase = s.timeBase := by simp [State.hwSamples]
@[simp ↓] theorem bridgeSend_timeBase (b : Nat) : (s.bridgeSend b).timeBase = s.timeBase := by simp [State.bridgeSend]
@[simp ↓] theorem twnSend_timeBase (b : Nat) (digest : W32) : (s.twnSend b digest).timeBase = s.timeBase := by
  unfold State.twnSend
  split <;> simp
@[simp ↓] theorem resyncStart_timeBase (slot : Option Nat) : (s.resyncStart slot).timeBase = s.timeBase := raise_timeBase _ _
@[simp ↓] theorem autoResync_timeBase : s.autoResync.timeBase = s.timeBase := by simp [State.autoResync]
@[simp ↓] theorem takeRole_timeBase : s.takeRole.timeBase = s.timeBase := by
  unfold State.takeRole
  split
  · rfl
  · split <;> simp
@[simp ↓] theorem sendStage_timeBase (b : Nat) (digest : W32) : (s.sendStage b digest).timeBase = s.timeBase := by simp [State.sendStage]

end

end Sys2Proof.Machine
end

section
namespace Sys2Proof.Machine

/-! ## What a boundary does with nothing due

With no load or graft under way, no record in the ledger and no Nap request, the steps of a boundary that could stop the media clock keep the
time base. -/

section
variable (s : State)

/-! ### No load and no graft -/

theorem graftEnd_of_idle (outcome : Nat) (h : s.timeBase.load = .idle) : s.graftEnd outcome = s := by
  have hphase : s.img.phase = .idle := h
  simp [State.graftEnd, hphase]
theorem standbyReached_timeBase (h : s.timeBase.load = .idle) : s.standbyReached.timeBase = s.timeBase := by
  unfold State.standbyReached
  rw [graftEnd_of_idle s 1 h]
  dsimp only
  split <;> simp
theorem compareDigests_timeBase (t : Nat) (h : s.timeBase.load = .idle) : (s.compareDigests t).timeBase = s.timeBase := by
  unfold State.compareDigests
  split
  · dsimp only
    split
    · rfl
    · split
      · split
        · split
          · exact (standbyReached_timeBase _ (by simpa using h)).trans (by simp)
          · simp
        · simp
      · split <;> simp
  · rfl
theorem twnClose_timeBase (c : Nat) (h : s.timeBase.load = .idle) : (s.twnClose c).timeBase = s.timeBase := by
  have hdigest (t : State) (ht : t.timeBase = s.timeBase) : (t.compareDigests (c - 1)).timeBase = s.timeBase :=
    (compareDigests_timeBase t _ (ht ▸ h)).trans ht
  simp [State.twnClose, hdigest]
theorem graftWatch_of_idle (b : Nat) (h : s.timeBase.load = .idle) : s.graftWatch b = s := by
  have hphase : s.img.phase = .idle := h
  simp [State.graftWatch, hphase]
theorem graftStage_of_idle (b : Nat) (h : s.timeBase.load = .idle) : s.graftStage b = s := by
  have hphase : s.img.phase = .idle := h
  simp [State.graftStage, hphase]
theorem imgLeadTick_of_idle (h : s.timeBase.load = .idle) : s.imgLeadTick = s := by
  have hphase : s.img.phase = .idle := h
  simp [State.imgLeadTick, hphase]

/-! ### No record in the ledger -/

theorem ledgerAccept_timeBase (b : Nat) (h : s.timeBase.entries = []) : (s.ledgerAccept b).timeBase = s.timeBase := by
  have hentries : s.ledger.entries = [] := h
  unfold State.ledgerAccept
  dsimp only
  split
  · rfl
  · simp [hentries, foldS, State.modLedger, State.timeBase, State.tickLen]

/-! ### Steps 2, 3 and 8 -/

theorem arrivals_timeBase (asrc : List (Nat × List Int)) (c : Nat) (hload : s.timeBase.load = .idle) (hentries : s.timeBase.entries = []) :
    (s.arrivals asrc c).timeBase = s.timeBase := by
  have hclose : (((s.hwClose.ingest asrc c).inputsClose c).twnClose c).timeBase = s.timeBase :=
    (twnClose_timeBase _ c (by simpa using hload)).trans (by simp)
  simp [State.arrivals, ledgerAccept_timeBase, hclose, hentries]
theorem timeouts_timeBase (obs : TickObs) (fault : Bool) (h : s.timeBase.load = .idle) : (s.timeouts obs fault).timeBase = s.timeBase := by
  simp [State.timeouts, graftWatch_of_idle, h]
theorem stages_timeBase (b : Nat) (obs : TickObs) (h : s.timeBase.load = .idle) : (s.stages b obs).timeBase = s.timeBase := by
  simp [State.stages, graftStage_of_idle, h]
theorem step8_timeBase (b : Nat) (obs : TickObs) (hload : s.timeBase.load = .idle) (hstage : s.timeBase.stage = .none) :
    (s.step8 b obs).timeBase = s.timeBase := by
  have hphase : s.img.phase = .idle := hload
  have hnap : s.pwd.stage = .none := hstage
  simp [State.step8, hphase, hnap, imgLeadTick_of_idle, stages_timeBase, hload]

end

end Sys2Proof.Machine
end

section
namespace Sys2Proof.Machine

/-! ## What a failing memory may change

An uncorrectable error of the DRAM may freeze it (R341 and after), and the freeze ends a load that is still in phase 1. So DRAM traffic keeps the
time base but for a load, which it may drop. -/

/-- The time base is kept but for a load, which may have ended. -/
def TimeBase.Keeps (a b : TimeBase) : Prop := b = a ∨ b = { a with load := .idle }

theorem TimeBase.Keeps.of_eq {a b : TimeBase} (h : b = a) : a.Keeps b := .inl h
theorem TimeBase.Keeps.refl (a : TimeBase) : a.Keeps a := .inl rfl
theorem TimeBase.Keeps.trans {a b c : TimeBase} (hab : a.Keeps b) (hbc : b.Keeps c) : a.Keeps c := by
  obtain rfl | rfl := hab
  · exact hbc
  · obtain rfl | rfl := hbc
    · exact .inr rfl
    · exact .inr rfl
theorem TimeBase.Keeps.eq_of_idle {a b : TimeBase} (h : a.Keeps b) (hidle : a.load = .idle) : b = a := by
  obtain rfl | rfl := h
  · rfl
  · rw [← hidle]

/-- A fold whose every step keeps the time base but for a load does. -/
theorem foldS_keeps {σ α : Type} (g : σ → State) (f : σ → α → σ) (p : σ) (l : List α)
    (h : ∀ q a, (g q).timeBase.Keeps (g (f q a)).timeBase) : (g p).timeBase.Keeps (g (foldS f p l)).timeBase := by
  induction l generalizing p with
  | nil => exact .refl _
  | cons x xs ih => exact (h p x).trans (ih _)
theorem timesN_keeps (f : State → State) (n : Nat) (s : State) (h : ∀ t : State, t.timeBase.Keeps (f t).timeBase) :
    s.timeBase.Keeps (timesN f n s).timeBase := by
  induction n generalizing s with
  | zero => exact .refl _
  | succ n ih => exact (h s).trans (ih _)

section
variable (s : State)

/-! ### Freezing -/

theorem dramFreeze_keeps : s.timeBase.Keeps s.dramFreeze.timeBase := by
  unfold State.dramFreeze
  split
  · exact .refl _
  · extract_lets drop t dram u v img w graph x y
    have hv : v.timeBase = s.timeBase := by simp [v, u, t]
    have hw : w.timeBase = s.timeBase ∨ w.timeBase = { s.timeBase with load := .idle } := by
      rw [← hv]
      by_cases hload : (v.img.phase1 && v.img.slot.any fun k => (v.slot k).kind == 1) = true
      · exact .inr (by simp only [w, hload]; rfl)
      · exact .inl (by simp only [w, hload]; rfl)
    simpa [TimeBase.Keeps, y, x] using hw
theorem dramOutcome_keeps (ch rank cause : Nat) (isWord : Bool) : s.timeBase.Keeps (s.dramOutcome ch rank cause isWord).timeBase := by
  have hfreeze := dramFreeze_keeps s
  unfold State.dramOutcome
  split
  · split
    · split
      · simpa using dramFreeze_keeps (s.migAbandon ch true)
      · split
        · exact .refl _
        · exact hfreeze
    · split
      · exact .of_eq (by simp)
      · exact hfreeze
  · exact hfreeze
theorem dramUe_keeps (synd : Byte) (master a : Nat) : s.timeBase.Keeps (s.dramUe synd master a).timeBase := by
  unfold State.dramUe
  extract_lets ch rank t
  have ht : ((t.count (DRC_UE_COUNT ch) 1).flagRaise (DRC_STAT ch) 1 73).timeBase = s.timeBase := by simp [t]
  exact ht ▸ dramOutcome_keeps _ ch rank 0 true

/-! ### Reads and writes -/

theorem dramWordRead_keeps (a master : Nat) (rt : Bool) (f : DramFound) : s.timeBase.Keeps (s.dramWordRead a master rt f).timeBase := by
  unfold State.dramWordRead
  split
  · exact .refl _
  · split
    · exact .of_eq (by simp)
    · cases f with
      | clean => exact .refl _
      | single y => exact .of_eq (by simp)
      | double y =>
        dsimp only
        split
        · exact .of_eq (by simp)
        · exact dramUe_keeps s y master a
theorem issueWord_keeps (line master : Nat) (bs : List (Option Byte)) (found : List DramFound) (w : Nat) :
    s.timeBase.Keeps (s.issueWord line master bs found w).timeBase := by
  unfold State.issueWord
  extract_lets a ws dram t
  split
  · exact .refl _
  · split
    · exact .of_eq (by simp)
    · have hread : s.timeBase.Keeps t.timeBase := dramWordRead_keeps s a master false _
      split
      · exact hread
      · simpa using hread
theorem issueEntry_keeps (e : WqEntry) (found : List DramFound) : s.timeBase.Keeps (s.issueEntry e found).timeBase := by
  unfold State.issueEntry
  extract_lets a part t u
  have hu : u.timeBase = s.timeBase := by simp [u, t]
  exact hu ▸ foldS_keeps id _ u _ fun q w => issueWord_keeps q a 14 e.bytes found w
theorem issueOldest_keeps (ch : Nat) (found : List DramFound) : s.timeBase.Keeps (s.issueOldest ch found).timeBase := by
  unfold State.issueOldest
  split
  · exact .refl _
  · split
    · exact .refl _
    · simpa using issueEntry_keeps (s.modChan ch _) _ found
theorem lineWrite_keeps (line : Nat) (bs : List (Option Byte)) (rt : Bool) : s.timeBase.Keeps (s.lineWrite line bs rt).timeBase := by
  unfold State.lineWrite
  extract_lets ch t
  split
  · exact .refl _
  · split
    · exact .of_eq (by simp)
    · have ht : s.timeBase.Keeps t.timeBase := by
        simp only [t]
        split
        · exact .refl _
        · exact issueOldest_keeps s ch []
      split
      · exact ht
      · simpa using ht
theorem rangeWrite_keeps (a : Nat) (bs : List (Option Byte)) (rt : Bool) : s.timeBase.Keeps (s.rangeWrite a bs rt).timeBase :=
  foldS_keeps Prod.fst _ (s, bs) _ fun q _ => lineWrite_keeps q.1 _ _ rt
theorem lineRead_keeps (a n master : Nat) (rt : Bool) (found : List DramFound) : s.timeBase.Keeps (s.lineRead a n master rt found).1.timeBase := by
  unfold State.lineRead
  extract_lets ch line words fromDram
  have hdram (t : State) (ht : s.timeBase.Keeps t.timeBase) : s.timeBase.Keeps (fromDram t).1.timeBase := by
    refine ht.trans ?_
    have hcmd : (t.lineCmd (line * 64) 1 master).timeBase = t.timeBase := by simp
    exact hcmd ▸ foldS_keeps Prod.fst _ (t.lineCmd (line * 64) 1 master, 0) words fun q w => dramWordRead_keeps q.1 _ master rt _
  split
  · exact .refl _
  · split
    · exact hdram s (.refl _)
    · split
      · exact .of_eq (by simp)
      · refine hdram _ ?_
        simpa using issueEntry_keeps (s.modChan ch _) _ []
theorem rangeRead_keeps (a n master : Nat) (rt : Bool) (found : List DramFound) : s.timeBase.Keeps (s.rangeRead a n master rt found).1.timeBase :=
  foldS_keeps (fun p : (State × List Byte) × List DramFound => p.1.1) _ ((s, []), found) _ fun q _ => lineRead_keeps q.1.1 _ _ master rt _

/-! ### The crossbar and the Carder's lock -/

theorem grant_keeps (r : TrkReq) (found : List DramFound) : s.timeBase.Keeps (s.grant r found).1.timeBase := by
  unfold State.grant
  extract_lets trk t
  have ht : t.timeBase = s.timeBase := by simp [t]
  split
  · exact ht ▸ rangeWrite_keeps t _ _ _
  · exact ht ▸ rangeRead_keeps t _ _ _ _ found
theorem drain_keeps (target : Nat) : s.timeBase.Keeps (s.drain target).timeBase := by
  refine timesN_keeps _ _ s fun (t : State) => ?_
  split
  · exact .refl _
  · next i r _ =>
    extract_lets trk q
    have hq : t.timeBase.Keeps q.1.timeBase := grant_keeps { t with trk := _ } r []
    split
    · exact hq
    · simpa using hq
theorem lockFree_keeps : s.timeBase.Keeps s.lockFree.timeBase := by
  unfold State.lockFree
  split
  · exact .refl _
  · exact drain_keeps { s with trk := _ } _
theorem lockForced_keeps : s.timeBase.Keeps s.lockForced.timeBase := by
  unfold State.lockForced
  split
  · exact .refl _
  · simpa using lockFree_keeps (s.lockout _ _ true s.trk.lockAddr)
theorem lockMode_keeps : s.timeBase.Keeps s.lockMode.timeBase := by
  unfold State.lockMode
  split
  · exact lockForced_keeps s
  · exact .refl _

/-! ### The march test's end -/

theorem destroyed_keeps (m : MarchWork) : s.timeBase.Keeps (s.destroyed m).timeBase := by
  unfold State.destroyed
  extract_lets hit mine r t u v
  have hv : v.timeBase = s.timeBase := by simp [v, u, t, r]
  simpa [hv] using lockMode_keeps ((v.jobProgress m.slot 6).marchClose _)
theorem holdEnd_keeps (m : MarchWork) : s.timeBase.Keeps (s.holdEnd m).timeBase := by
  unfold State.holdEnd
  split
  · exact .of_eq (by simp)
  · split
    · exact destroyed_keeps s _
    · exact .of_eq (by simp)
theorem holdTickMarch_keeps : s.timeBase.Keeps s.holdTickMarch.timeBase := by
  unfold State.holdTickMarch
  split
  · exact .refl _
  · split
    · exact .refl _
    · split
      · exact holdEnd_keeps s _
      · exact .of_eq (by simp)
theorem memTick_keeps : s.timeBase.Keeps s.memTick.timeBase := by
  have hmarch := holdTickMarch_keeps (foldS State.repSwitch s (s.mem.rep.map (·.1))).poolScrub
  simp only [repSwitch_timeBase, poolScrub_timeBase, foldS_timeBase, implies_true] at hmarch
  simpa [State.memTick] using hmarch
theorem carderTime_keeps : s.timeBase.Keeps s.carderTime.timeBase := by
  simpa [State.carderTime] using holdTickMarch_keeps s

/-! ### Step 7 and the idle tick -/

theorem scrubs_keeps (obs : TickObs) : s.timeBase.Keeps (s.scrubs obs).timeBase := by
  unfold State.scrubs
  extract_lets t u v
  have hv : v.gainScrub.fulScrub.timeBase = s.timeBase := by simp [v, u, t]
  exact hv ▸ memTick_keeps _
theorem tickEvents_keeps (c : Nat) (obs : TickObs) : s.timeBase.Keeps (s.tickEvents c obs).timeBase := by
  have hscrubs := scrubs_keeps ((s.judgeCores c).ringLate obs.late) obs
  simpa [State.tickEvents] using hscrubs
theorem idleTick_keeps (obs : TickObs) (h : s.sys.phase = .running) : s.timeBase.Keeps (s.idleTick obs).timeBase := by
  unfold State.idleTick
  split
  · extract_lets t
    have ht : t.timeBase = s.timeBase := by
      simp only [t]
      simp
    clear_value t
    have hrefs : (t.refTick obs.phi).holdTick.holdNote.dramTime.timeBase = s.timeBase := by simpa using ht
    rw [if_pos (by simp [h]), ← hrefs]
    exact carderTime_keeps _
  · exact .refl _

end

end Sys2Proof.Machine
end

section
namespace Sys2Proof.Machine

/-! ## The boundary -/

section
variable (s : State)

/-- Step 1 outside a realignment: the counters advance. -/
theorem advance_timeBase (hleft : s.timeBase.realignLeft = 0) (hreq : s.timeBase.realignReq = false) :
    s.advance.timeBase = { s.timeBase with tick := s.timeBase.tick + 1 } := by
  have hl : s.sys.realignLeft = 0 := hleft
  have hr : s.sys.realignReq = false := hreq
  simp [State.advance, hl, hr, State.timeBase, State.modSys, State.tickLen]

/-- Steps 1 to 3 with nothing due: the tick counter moves. -/
theorem entered_timeBase (obs : TickObs) (asrc : List (Nat × List Int)) (c : Nat) (fault : Bool) (hleft : s.timeBase.realignLeft = 0)
    (hreq : s.timeBase.realignReq = false) (hentries : s.timeBase.entries = []) (hload : s.timeBase.load = .idle) :
    (((((((s.mixEnd).cutoffNow).timTick obs.dt).advance).selTick).lineFades.arrivals asrc c).timeouts obs fault).timeBase =
      { s.timeBase with tick := s.timeBase.tick + 1 } := by
  have hstep : (((((s.mixEnd).cutoffNow).timTick obs.dt).advance).selTick).lineFades.timeBase = { s.timeBase with tick := s.timeBase.tick + 1 } := by
    simp [advance_timeBase, hleft, hreq]
  have harrive := arrivals_timeBase _ asrc c ((congrArg TimeBase.load hstep).trans hload) ((congrArg TimeBase.entries hstep).trans hentries)
  rw [timeouts_timeBase _ _ _ (by rw [harrive, hstep]; exact hload), harrive, hstep]

/-- R25: with nothing else due a boundary moves the tick counter and no other part of the time base. -/
theorem boundary_timeBase (obs : TickObs) (hrun : s.timeBase.phase = .running) (hleft : s.timeBase.realignLeft = 0)
    (hreq : s.timeBase.realignReq = false) (hentries : s.timeBase.entries = []) (hload : s.timeBase.load = .idle)
    (hstage : s.timeBase.stage = .none) : (s.boundary obs).timeBase = { s.timeBase with tick := s.timeBase.tick + 1 } := by
  unfold State.boundary
  extract_lets c fault late t u v w
  have hu : u.timeBase = { s.timeBase with tick := s.timeBase.tick + 1 } := entered_timeBase s _ _ _ _ hleft hreq hentries hload
  clear_value u
  have hv : v = u := by
    have hnone : u.ledger.entries = [] := (congrArg TimeBase.entries hu).trans hentries
    simp only [v, hnone, List.length_nil, State.ledgerExecute]
  clear_value v
  have hphase : v.sys.phase = .running := hv ▸ (congrArg TimeBase.phase hu).trans hrun
  have hw : w.timeBase = u.timeBase := by
    have hkeeps := tickEvents_keeps ((v.swapStep v.tickN).step6) c late
    have hsame : ((v.swapStep v.tickN).step6).timeBase = u.timeBase := by simp [hv]
    rw [hsame] at hkeeps
    exact hkeeps.eq_of_idle (by rw [hu]; exact hload)
  clear_value w
  rw [if_neg (by simp [hphase]), step8_timeBase, hw, hu] <;> rw [hw, hu] <;> assumption

end

/-! ### The sample counter -/

/-- The sample counter is the tick counter by the tick's samples, so a tick adds its samples, wrapping or not. -/
theorem samples_add_tick (s t : State) (htick : t.sys.tick = s.sys.tick + 1) (hlen : t.tickLen = s.tickLen) :
    t.samples = s.samples + BitVec.ofNat 64 s.tickLen := by
  have hprod (x : W64) (n : Nat) : BitVec.ofNat 64 (x.toNat * n) = x * BitVec.ofNat 64 n := by
    simp [BitVec.ofNat_mul]
  rw [State.samples, State.samples, htick, hlen, hprod, hprod, add_mul, one_mul]

/-! ### A tick boundary -/

/-- R15, R25: a boundary of a running module ends the tick. -/
theorem leads_tickBoundary_running (s : State) (obs : TickObs) (hmedia : s.sys.mediaRun = true) (hrun : s.sys.phase = .running)
    (hreq : s.sys.realignReq = false) (hleft : s.sys.realignLeft = 0) (hentries : s.ledger.entries = []) (hload : s.img.phase = .idle)
    (hstage : s.pwd.stage = .none) : leads (.tickBoundary obs) s (fun t => t.sys.tick = s.sys.tick + 1 ∧ t.sys.mediaRun = true ∧
      t.sys.phase = .running ∧ t.sys.realignLeft = 0 ∧ t.samples = s.samples + BitVec.ofNat 64 s.tickLen) := by
  have hbase := boundary_timeBase s obs hrun hleft hreq hentries hload hstage
  have hexec : exec (.tickBoundary obs) s = done s (s.boundary obs) := by
    show execTickBoundary obs s = _
    simp [execTickBoundary, hmedia, hrun]
  refine leads_done hexec ?_
  generalize s.boundary obs = t at hbase
  have htick : t.sys.tick = s.sys.tick + 1 := congrArg TimeBase.tick hbase
  exact ⟨htick, (congrArg TimeBase.mediaRun hbase).trans hmedia, (congrArg TimeBase.phase hbase).trans hrun,
    (congrArg TimeBase.realignLeft hbase).trans hleft, samples_add_tick s t htick (congrArg TimeBase.tickLen hbase)⟩

/-- With the media clock stopped the counters stand. -/
theorem leads_tickBoundary_stopped (s : State) (obs : TickObs) (hmedia : s.sys.mediaRun = false) (hrun : s.sys.phase = .running) :
    leads (.tickBoundary obs) s (fun t => t.sys.tick = s.sys.tick ∧ t.sys.mediaRun = false ∧ t.sys.phase = .running) := by
  have hexec : exec (.tickBoundary obs) s = done s (s.idleTick obs) := by
    show execTickBoundary obs s = _
    simp [execTickBoundary, hmedia]
  refine leads_done hexec ?_
  have hkeeps := idleTick_keeps s obs hrun
  generalize s.idleTick obs = t at hkeeps
  have hkept : t.sys.tick = s.sys.tick ∧ t.sys.mediaRun = s.sys.mediaRun ∧ t.sys.phase = s.sys.phase := by
    obtain h | h := hkeeps
    · exact ⟨congrArg TimeBase.tick h, congrArg TimeBase.mediaRun h, congrArg TimeBase.phase h⟩
    · exact ⟨congrArg TimeBase.tick h, congrArg TimeBase.mediaRun h, congrArg TimeBase.phase h⟩
  obtain ⟨htick, hsame, hphase⟩ := hkept
  exact ⟨htick, hsame.trans hmedia, hphase.trans hrun⟩

end Sys2Proof.Machine
end

section
namespace Sys2Proof.Machine

/-! ## Frames of the answered state -/

theorem evtOnly.keeps {s t : State} (h : evtOnly s t) : keeps [.regs, .out, .mon, .sys] s t := by
  refine ⟨h.pending, h.fit, fun p hp => ?_⟩
  rw [h.eq]
  cases p <;> simp at hp <;> rfl

theorem keeps.fit {ps : List Part} {s t : State} (h : keeps ps s t) : t.fit = s.fit := h.2.1
theorem keeps.part {ps : List Part} {s t : State} (h : keeps ps s t) {p : Part} (hp : p ∉ ps) : p.same s t := h.2.2 p hp

theorem Part.same_trans {p : Part} {s t u : State} (hst : p.same s t) (htu : p.same t u) : p.same s u := by
  cases p <;> exact Eq.trans htu hst

/-- What two steps keep, one after the other. -/
theorem keeps.trans {ps qs : List Part} {s t u : State} (hst : keeps ps s t) (htu : keeps qs t u) (hsub : qs ⊆ ps) : keeps ps s u := by
  obtain ⟨hpending, hfit, hparts⟩ := hst
  obtain ⟨hpending', hfit', hparts'⟩ := htu
  exact ⟨hpending'.trans hpending, hfit'.trans hfit, fun p hp => Part.same_trans (hparts p hp) (hparts' p fun hq => hp (hsub hq))⟩

/-- The answer of a command that does not reach the cores keeps what its state keeps. -/
theorem keeps.answered {ps : List Part} {s t : State} (h : keeps ps s t) : keeps ps s (t.answered s s.cores) := by
  refine ⟨rfl, rfl, fun p hp => ?_⟩
  have hpart := h.part hp
  cases p with
  | cores => rfl
  | _ => exact hpart

/-! ## TCK_REALIGN (R18, R19) -/

section
variable {s : State} {v : W32}

theorem exec_tckRealign (hup : s.hostUp = true) :
    exec (.tckRealign v) s = doneCore s (if s.class1 then s.realign v else s.deny 1 0 TCK_REALIGN) := by
  show doneCore s _ = _
  rw [byHost_up hup]

theorem exec_tckRealign_qualified (hup : s.hostUp = true) (hcls : s.class1 = true) (hq : s.tim.qualified = true) (hv : v = 0xA1C7) :
    exec (.tckRealign v) s = .next { s with sys := { s.sys with realignReq := true } } := by
  rw [exec_tckRealign hup, if_pos hcls, State.realign, if_neg (by simp [hv]), if_pos hq]
  rfl

theorem exec_tckRealign_ignored (hup : s.hostUp = true) (hcls : s.class1 = true) (hv : v ≠ 0xA1C7) : exec (.tckRealign v) s = .next s := by
  rw [exec_tckRealign hup, if_pos hcls, State.realign, if_pos hv]
  rfl

/-- Without network time the request is refused with EV3, and nothing is muted or stepped. -/
theorem leads_tckRealign_unqualified (hup : s.hostUp = true) (hcls : s.class1 = true) (hq : s.tim.qualified = false) (hv : v = 0xA1C7) :
    leads (.tckRealign v) s (fun t => t.bit TCK_STAT 4 = true ∧ raised 3 s t ∧ regsKeep [TCK_STAT] s t ∧ evtOnly s t) := by
  have hexec : exec (.tckRealign v) s = doneCore s (s.flagRaise TCK_STAT 4 3) := by
    rw [exec_tckRealign hup, if_pos hcls, State.realign, if_neg (by simp [hv]), if_neg (by simp [hq])]
  have honly := flagRaise_only s TCK_STAT 4 3
  refine leads_doneCore hexec ?_
  rw [honly.answer]
  exact ⟨flagRaise_bit s _ _ _ (by decide) (by decide), flagRaise_pends s _ _ 3,
    fun a ha hevt => flagRaise_rd s _ _ _ hevt (by simpa using ha), honly⟩

/-- Without presence the write is denied. -/
theorem leads_tckRealign_denied (hup : s.hostUp = true) (hcls : s.class1 = false) :
    leads (.tckRealign v) s (fun t => counted PRS_DENIED 1 s t ∧ t.bit PRS_STAT 2 = true ∧ t.sys.realignReq = s.sys.realignReq ∧
      regsKeep [PRS_DENIED, PRS_STAT, PRS_DENIED_LAST] s t ∧ evtOnly s t) := by
  have hexec : exec (.tckRealign v) s = doneCore s (s.deny 1 0 TCK_REALIGN) := by
    rw [exec_tckRealign hup, if_neg (by simp [hcls])]
  have honly := deny_only s 1 0 TCK_REALIGN
  obtain ⟨hcount, hstat, -⟩ := deny_counts s 1 0 TCK_REALIGN
  refine leads_doneCore hexec ?_
  rw [honly.answer]
  refine ⟨hcount, ?_, honly.sys_realignReq, fun a ha hevt => ?_, honly⟩
  · rw [State.bit, hstat]
    exact bitOf_or_oneBit _ (by decide)
  · simp only [List.mem_cons, List.not_mem_nil, or_false, not_or] at ha
    obtain ⟨hden, hst, hlast⟩ := ha
    exact deny_rd s 1 0 _ hevt hden hst hlast

end

/-! ## The counters load, and the realignment ends -/

section
variable (s : State)

/-- Setting the PLL's output touches the clock, and raises EV33 at the limit. -/
theorem setOut_only (f : Int) : evtOnly { s with clk := (s.setOut f).clk } (s.setOut f) := by
  unfold State.setOut
  extract_lets lim t
  split
  · rw [flagRaise_clk]
    exact flagRaise_only t CLK_STAT 5 33
  · exact rfl

theorem setOut_epochValid (f : Int) : (s.setOut f).clk.epochValid = s.clk.epochValid := by
  unfold State.setOut
  extract_lets lim t
  split
  · rw [flagRaise_clk]
    rfl
  · rfl

/-- The PLL's start touches the clock and what the ports are steered by, and raises EV33 at the limit. -/
theorem pllStart_only (net : Bool) :
    evtOnly { s with clk := (s.pllStart net).clk, ports := (s.pllStart net).ports } (s.pllStart net) := by
  have hsteer (u : State) (f : Int) (hu : { s with clk := u.clk } = u) :
      evtOnly { s with clk := (u.setOut f).steer.clk, ports := (u.setOut f).steer.ports } (u.setOut f).steer := by
    have h := (setOut_only u f).eq
    unfold evtOnly State.steer
    rw [h, ← hu]
  unfold State.pllStart
  dsimp only
  split
  · exact hsteer _ _ rfl
  · exact hsteer _ _ rfl

theorem pllStart_epochValid (net : Bool) : (s.pllStart net).clk.epochValid = net := by
  unfold State.pllStart
  dsimp only
  split
  · exact setOut_epochValid _ _
  · exact setOut_epochValid _ _

end

/-- The counters loaded from the network time, before the PLL starts. -/
def State.counterLoaded (s : State) : State :=
  { s with sys := { s.sys with tick := BitVec.ofNat 64 (tickOf s.tim.now) } }.stampsMove s.tickN (BitVec.ofNat 64 (tickOf s.tim.now)).toNat

theorem realignLoad_qualified {s : State} (hq : s.tim.qualified = true) : s.realignLoad = s.counterLoaded.pllStart true := by
  simp [State.realignLoad, State.loadCounters, State.counterLoaded, State.modSys, State.tickN, hq]

/-- R19: the fourth muted tick loads the counters from the network time. -/
theorem leads_realignCounterLoad {s : State} (hmedia : s.sys.mediaRun = true) (hleft : s.sys.realignLeft = 6)
    (hloaded : s.sys.realignLoaded = false) (hq : s.tim.qualified = true) :
    leads .realignCounterLoad s (fun t => t.sys.tick = BitVec.ofNat 64 (tickOf s.tim.now) ∧ t.sys.aligned = s.sys.aligned ∧
      t.sys.realignLoaded = true ∧ t.sys.mediaRun = true ∧ t.clk.epochValid = true ∧
      keeps [.regs, .out, .mon, .sys, .clk, .canopy, .graph, .ports] s t) := by
  have hexec : exec .realignCounterLoad s =
      doneCore s ((s.counterLoaded.pllStart true).modSys (fun y => { y with realignLoaded := true })) := by
    show execRealignCounterLoad s = _
    rw [execRealignCounterLoad, if_pos ⟨hmedia, hleft, hloaded⟩, realignLoad_qualified hq]
  have honly := pllStart_only s.counterLoaded true
  have hstart : keeps [.regs, .out, .mon, .sys, .clk, .canopy, .graph, .ports] s
      { s.counterLoaded with clk := (s.counterLoaded.pllStart true).clk, ports := (s.counterLoaded.pllStart true).ports } := by
    refine ⟨rfl, rfl, fun p hp => ?_⟩
    cases p <;> simp at hp <;> rfl
  have hmark : keeps [.sys] (s.counterLoaded.pllStart true)
      ((s.counterLoaded.pllStart true).modSys (fun y => { y with realignLoaded := true })) := by
    refine ⟨rfl, rfl, fun p hp => ?_⟩
    cases p <;> simp at hp <;> rfl
  refine leads_doneCore hexec ⟨honly.sys_tick, honly.sys_aligned, rfl, honly.sys_mediaRun.trans hmedia, pllStart_epochValid _ true, ?_⟩
  exact ((hstart.trans honly.keeps (by decide)).trans hmark (by decide)).answered

/-- R19: the eighth muted tick ends the realignment with EV3. -/
theorem leads_realignEnd {s : State} (hmedia : s.sys.mediaRun = true) (hleft : s.sys.realignLeft = 1) (hvalid : s.clk.epochValid = true) :
    leads .realignEnd s (fun t => t.sys.aligned = true ∧ t.sys.realignLeft = 0 ∧ t.sys.tick = s.sys.tick ∧ raised 3 s t ∧
      regsKeep [] s t ∧ keeps [.regs, .out, .mon, .sys] s t) := by
  have hexec : exec .realignEnd s = doneCore s s.realignDone := by
    show execRealignEnd s = _
    rw [execRealignEnd, if_pos ⟨hmedia, hleft⟩]
  refine leads_doneCore hexec ?_
  unfold State.realignDone
  have hset : keeps [.regs, .out, .mon, .sys] s (s.modSys fun y => { y with realignLeft := 0, aligned := s.clk.epochValid }) := by
    refine ⟨rfl, rfl, fun p hp => ?_⟩
    cases p <;> simp at hp <;> rfl
  refine ⟨by simp [hvalid], by simp, by simp, fun he ha => raise_pends _ 3 he ha, fun a _ hevt => ?_,
    (hset.trans (raise_only _ 3).keeps (List.Subset.refl _)).answered⟩
  rw [answered_rd, raise_rd _ _ hevt, rd_modSys]

end Sys2Proof.Machine
end

section
namespace Sys2Proof.Machine

/-! ## Register writes keep the other parts -/

section
variable {ps : List Part} {s t : State}

theorem keeps.refl (ps : List Part) (s : State) : keeps ps s s := ⟨rfl, rfl, fun p _ => by cases p <;> rfl⟩
theorem keeps.wr (h : keeps ps s t) (hreg : .regs ∈ ps) {a : Nat} {v : W32} : keeps ps s (t.wr a v) := by
  have hwr : keeps [.regs] t (t.wr a v) := by
    refine ⟨rfl, rfl, fun p hp => ?_⟩
    cases p <;> simp at hp <;> rfl
  exact h.trans hwr (by simpa using hreg)
theorem keeps.answered_cores (h : keeps ps s t) (hcores : .cores ∈ ps) (c : Sparse Core) : keeps ps s (t.answered s c) := by
  refine ⟨rfl, rfl, fun p hp => ?_⟩
  have hpart := h.part hp
  cases p with
  | cores => exact absurd hcores hp
  | _ => exact hpart
theorem keeps.flag (h : keeps ps s t) (hreg : .regs ∈ ps) {a i : Nat} : keeps ps s (t.flag a i) := h.wr hreg
theorem keeps.count (h : keeps ps s t) (hreg : .regs ∈ ps) {a n : Nat} : keeps ps s (t.count a n) := h.wr hreg

end

/-! ## The stacks of the cores that a command leaves alone -/

theorem spGet_of_spFind {α : Type} {d : α} {m : Sparse α} {k : Nat} {v : α} (h : spFind m k = some v) : spGet d m k = v := by
  induction m with
  | nil => simp at h
  | cons p m ih =>
    obtain ⟨j, w⟩ := p
    by_cases hj : j = k
    · simpa [spGet, spFind, hj] using h
    · simpa [spGet, hj] using ih (by simpa [spFind, hj] using h)

theorem spGet_of_spFind_none {α : Type} {d : α} {m : Sparse α} {k : Nat} (h : spFind m k = none) : spGet d m k = d := by
  induction m with
  | nil => rfl
  | cons p m ih =>
    obtain ⟨j, w⟩ := p
    by_cases hj : j = k
    · simp [spFind, hj] at h
    · simpa [spGet, hj] using ih (by simpa [spFind, hj] using h)

/-- Only the stacks of an entry may differ once they are kept. -/
theorem spFind_keepStacks (old m : Sparse Core) (k : Nat) :
    spFind (m.map (keepStacks old)) k = (spFind m k).map (fun c => (keepStacks old (k, c)).2) := by
  induction m with
  | nil => rfl
  | cons p m ih =>
    obtain ⟨j, c⟩ := p
    have hkey : (keepStacks old (j, c)).1 = j := by
      unfold keepStacks
      split <;> rfl
    by_cases hj : j = k
    · subst hj
      simp [spFind, hkey]
    · simpa [spFind, hkey, hj] using ih

/-- A core whose stacks are those it had, or none, keeps them. -/
theorem keepStacks_same {old : Sparse Core} {k : Nat} {c b : Core} (hold : spFind old k = some b) (hloops : c.loops = b.loops)
    (hcalls : c.calls = b.calls) : keepStacks old (k, c) = (k, c) := by
  unfold keepStacks
  rw [hold]
  cases c
  simp_all

/-- A command that replaces one listed core, its stacks as they were, answers that core and no other change. -/
theorem spGet_keepStacks_spPut_same {old : Sparse Core} {k : Nat} {c b : Core} (hold : spFind old k = some b) (hloops : c.loops = b.loops)
    (hcalls : c.calls = b.calls) : spGet coreInit ((spPut old k c).map (keepStacks old)) k = c := by
  refine spGet_of_spFind ?_
  rw [spFind_keepStacks, spFind_spPut_same, Option.map_some, keepStacks_same hold hloops hcalls]
theorem spGet_keepStacks_spPut_ne (old : Sparse Core) {k j : Nat} (c : Core) (h : j ≠ k) :
    spGet coreInit ((spPut old k c).map (keepStacks old)) j = spGet coreInit old j := by
  have hfind := spFind_keepStacks old (spPut old k c) j
  rw [spFind_spPut_ne old c h] at hfind
  cases hold : spFind old j with
  | none =>
    rw [hold] at hfind
    rw [spGet_of_spFind_none hfind, spGet_of_spFind_none hold]
  | some b =>
    rw [hold, Option.map_some, keepStacks_same hold rfl rfl] at hfind
    rw [spGet_of_spFind hfind, spGet_of_spFind hold]

/-- A core that is active is listed. -/
theorem spFind_of_active {s : State} {k : Nat} (h : (s.core k).active = true) : spFind s.cores k = some (s.core k) := by
  cases hfind : spFind s.cores k with
  | none =>
    rw [State.core, spGet_of_spFind_none hfind] at h
    simp [coreInit] at h
  | some c => rw [State.core, spGet_of_spFind hfind]

/-! ## The overrun of a core (R31) -/

section
variable (s : State) (k : Nat)

/-- The address of the register that flags core k's overrun. -/
def ovrReg (k : Nat) : Nat := if k < 32 then TCK_OVR_LO else TCK_OVR_HI

theorem ovrBit_eq_flag : s.ovrBit k = s.flag (ovrReg k) (if k < 32 then k else k - 32) := by
  unfold State.ovrBit ovrReg
  split <;> rfl

/-- What an overrun records before EV1. -/
def State.overrunNote (s : State) (tick k : Nat) : State :=
  let t := (s.setCore k { s.core k with overran := true }).flag (ovrReg k) (if k < 32 then k else k - 32)
  let t := ((t.count TCK_OVR_COUNT 1).wr TCK_OVR_LAST (w32 tick)).flag TCK_STAT 2
  let t := ((t.flag (FUL_STAT k) 0).count (FUL_OVR_COUNT k) 1).wr (FUL_CYCLES k) 0x80000000
  (t.flag (FUL_CYC_MAX k) 31).wr (FUL_PC k) (w32 (s.core k).pc.toNat)

theorem coreOverrun_eq (tick : Nat) (hact : (s.core k).active = true) (htended : (s.core k).tended = false) (hran : (s.core k).overran = false)
    (hdead : (s.core k).dead = false) : State.coreOverrun tick s k = (s.overrunNote tick k).raiseOnce 1 := by
  simp [State.coreOverrun, State.overrunNote, ovrBit_eq_flag, hact, htended, hran, hdead]

theorem ovrReg_mem : ovrReg k = TCK_OVR_LO ∨ ovrReg k = TCK_OVR_HI := by
  unfold ovrReg
  split
  · exact .inl rfl
  · exact .inr rfl

theorem evtReg_ovrReg : evtReg (ovrReg k) = false := by
  obtain h | h := ovrReg_mem k <;> rw [h] <;> decide

/-- The registers of the cores are none of those that raising an event changes. -/
theorem evtReg_ful (off : Nat) : evtReg (0x200000 + 0x1000 * k + off) = false := by
  simp [evtReg, EVT_LAST, EVT_LAST_TICK, EVT_COUNT, MON_STAT, MON_TRACE_DROP]
  omega

theorem setCore_rd (c : Core) (a : Nat) : (s.setCore k c).rd a = s.rd a := rd_of_regs rfl a

/-- What each register reads after the records of an overrun. -/
theorem overrunNote_rd (tick : Nat) :
    (s.overrunNote tick k).rd (ovrReg k) = s.rd (ovrReg k) ||| oneBit (if k < 32 then k else k - 32) ∧
    (s.overrunNote tick k).rd TCK_OVR_COUNT = w32 (satN 32 ((s.rd TCK_OVR_COUNT).toNat + 1)) ∧
    (s.overrunNote tick k).rd TCK_OVR_LAST = w32 tick ∧
    (s.overrunNote tick k).rd (FUL_STAT k) = s.rd (FUL_STAT k) ||| oneBit 0 ∧
    (s.overrunNote tick k).rd (FUL_OVR_COUNT k) = w32 (satN 32 ((s.rd (FUL_OVR_COUNT k)).toNat + 1)) ∧
    (s.overrunNote tick k).rd (FUL_CYCLES k) = 0x80000000 ∧
    (s.overrunNote tick k).rd (FUL_PC k) = w32 (s.core k).pc.toNat := by
  have hreg : ovrReg k = 0x6028 ∨ ovrReg k = 0x602C := ovrReg_mem k
  unfold State.overrunNote
  refine ⟨?_, ?_, ?_, ?_, ?_, ?_, ?_⟩ <;>
    simp (disch := (simp only [TCK_OVR_COUNT, TCK_OVR_LAST, TCK_STAT, FUL_STAT, FUL_OVR_COUNT, FUL_CYCLES, FUL_CYC_MAX, FUL_PC]; omega)) only
      [rd_wr_same, rd_wr_ne, rd_flag_same, rd_flag_ne, rd_count_same, rd_count_ne, setCore_rd]

theorem overrunNote_rd_ne (tick : Nat) {a : Nat} (h : a ∉ [TCK_OVR_LO, TCK_OVR_HI, TCK_OVR_COUNT, TCK_OVR_LAST, TCK_STAT, FUL_STAT k,
    FUL_OVR_COUNT k, FUL_CYCLES k, FUL_CYC_MAX k, FUL_PC k]) : (s.overrunNote tick k).rd a = s.rd a := by
  have hreg := ovrReg_mem k
  simp only [List.mem_cons, List.not_mem_nil, or_false, not_or] at h
  obtain ⟨hlo, hhi, hcount, hlast, hstat, hful, hovr, hcyc, hmax, hpc⟩ := h
  unfold State.overrunNote
  simp (disch := omega) only [rd_wr_ne, rd_flag_ne, rd_count_ne, setCore_rd]

/-- The records of an overrun are registers. -/
theorem overrunNote_keeps (tick : Nat) : keeps [.regs] (s.setCore k { s.core k with overran := true }) (s.overrunNote tick k) := by
  have hset := keeps.refl [.regs] (s.setCore k { s.core k with overran := true })
  have hreg : Part.regs ∈ [Part.regs] := by decide
  exact ((((((((hset.flag hreg).count hreg).wr hreg).flag hreg).flag hreg).count hreg).wr hreg).flag hreg).wr hreg

end

/-- R31: an overrun halts the core and is recorded. -/
theorem leads_coreOverrun {s : State} {k : Fin 64} (hact : (s.core k.val).active = true) (htended : (s.core k.val).tended = false)
    (hran : (s.core k.val).overran = false) (hdead : (s.core k.val).dead = false) :
    leads (.coreOverrun k) s (fun t => t.core k.val = { s.core k.val with overran := true } ∧ sameBut [k.val] coreInit s.cores t.cores ∧
      (if k.val < 32 then t.bit TCK_OVR_LO k.val else t.bit TCK_OVR_HI (k.val - 32)) = true ∧ counted TCK_OVR_COUNT 1 s t ∧
      t.rd TCK_OVR_LAST = s.tickLo ∧ t.bit (FUL_STAT k.val) 0 = true ∧ counted (FUL_OVR_COUNT k.val) 1 s t ∧
      t.rd (FUL_CYCLES k.val) = 0x80000000 ∧ t.rd (FUL_PC k.val) = w32 (s.core k.val).pc.toNat ∧
      (s.sys.onceTick.contains 1 = false → raised 1 s t) ∧
      regsKeep [TCK_OVR_LO, TCK_OVR_HI, TCK_OVR_COUNT, TCK_OVR_LAST, TCK_STAT, FUL_STAT k.val, FUL_OVR_COUNT k.val, FUL_CYCLES k.val,
        FUL_CYC_MAX k.val, FUL_PC k.val] s t ∧ keeps [.regs, .out, .mon, .sys, .cores] s t) := by
  have hexec : exec (.coreOverrun k) s = done s ((s.overrunNote s.tickN k.val).raiseOnce 1) := by
    show execCoreOverrun k s = _
    rw [execCoreOverrun, coreOverrun_eq s k.val s.tickN hact htended hran hdead]
  obtain ⟨hovr, hcount, hlast, hstat, hfcount, hcycles, hpc⟩ := overrunNote_rd s k.val s.tickN
  have hother {a : Nat} := overrunNote_rd_ne s k.val s.tickN (a := a)
  have hnote := overrunNote_keeps s k.val s.tickN
  have hset : keeps [.regs, .out, .mon, .sys, .cores] s (s.setCore k.val { s.core k.val with overran := true }) := by
    refine ⟨rfl, rfl, fun p hp => ?_⟩
    cases p <;> simp at hp <;> rfl
  have hcores : (s.overrunNote s.tickN k.val).cores = spPut s.cores k.val { s.core k.val with overran := true } := hnote.part (p := .cores) (by decide)
  have hsys : (s.overrunNote s.tickN k.val).sys = s.sys := hnote.part (p := .sys) (by decide)
  have hfit : (s.overrunNote s.tickN k.val).fit = s.fit := hnote.fit
  refine leads_done hexec ?_
  rw [raiseOnce_cores, hcores]
  generalize s.overrunNote s.tickN k.val = u at *
  have hrd {a : Nat} (h : evtReg a = false) : (u.raiseOnce 1).rd a = u.rd a := raiseOnce_rd u 1 h
  have hlisted := spFind_of_active hact
  refine ⟨spGet_keepStacks_spPut_same hlisted rfl rfl, fun j hj => spGet_keepStacks_spPut_ne _ _ (by simpa using hj), ?_, ?_, ?_, ?_, ?_, ?_, ?_,
    fun honce he ha => ?_, fun a ha hevt => (hrd hevt).trans (hother ha), ?_⟩
  · have hflag := (hrd (evtReg_ovrReg k)).trans hovr
    by_cases hk : k.val < 32
    · rw [ovrReg, if_pos hk, if_pos hk] at hflag
      rw [if_pos hk, answered_bit, State.bit, hflag]
      exact bitOf_or_oneBit _ hk
    · rw [ovrReg, if_neg hk, if_neg hk] at hflag
      rw [if_neg hk, answered_bit, State.bit, hflag]
      exact bitOf_or_oneBit _ (by omega)
  · exact (hrd (by decide)).trans hcount
  · exact (hrd (by decide)).trans hlast
  · rw [answered_bit, State.bit, hrd (evtReg_ful k _), hstat]
    exact bitOf_or_oneBit _ (by decide)
  · exact (hrd (evtReg_ful k _)).trans hfcount
  · exact (hrd (evtReg_ful k _)).trans hcycles
  · exact (hrd (evtReg_ful k _)).trans hpc
  · refine raiseOnce_pends u 1 ?_ (by rw [hsys]; exact honce) (by rw [hsys]; exact ha)
    rw [State.eventHere, hfit]
    exact he
  · exact ((hset.trans hnote (by decide)).trans (raiseOnce_only u 1).keeps (by decide)).answered_cores (by decide) _

/-- Settles O9: the boundary moves the counters by `boundary_timeBase`, the idle tick keeps them by `idleTick_keeps`, and the realignment and the
overrun each do what their one state update says. -/
theorem tickRealignmentOverrun : Obligations.TickRealignmentOverrun := by
  intro s obs v k
  exact ⟨fun hmedia hrun hreq hleft _ => leads_tickBoundary_running s obs hmedia hrun hreq hleft, leads_tickBoundary_stopped s obs,
    exec_tckRealign_qualified, exec_tckRealign_ignored, leads_tckRealign_unqualified, leads_tckRealign_denied, leads_realignCounterLoad,
    leads_realignEnd, leads_coreOverrun⟩

end Sys2Proof.Machine
end

section
/-! SUPPORT. How a Fuller core executes an instruction (R219 to R228): what its moves, its arithmetic and a loop's end touch, and the state that an
instruction of format P or J answers. -/

namespace Sys2Proof.Machine

/-! ## An instruction of a core answers -/

/-- A command that leads to more leads to less. -/
theorem leads.mono {i : Instr} {s : State} {p q : State → Prop} (h : leads i s p) (hpq : ∀ t, p t → q t) : leads i s q :=
  let ⟨t, hexec, hp⟩ := h
  ⟨t, hexec, hpq t hp⟩

section
variable {s : State} {k : Nat} {c : Core}

theorem core_putCore_same : (s.putCore k c).core k = { c with esats := 0 } := spGet_spPut_same ..
theorem core_putCore_ne {j : Nat} (h : j ≠ k) : (s.putCore k c).core j = s.core j := spGet_spPut_ne _ _ _ h
theorem rd_putCore_ne {a : Nat} (h : a ≠ FUL_ESAT_COUNT k) : (s.putCore k c).rd a = s.rd a :=
  (rd_count_ne _ _ h).trans (rd_of_regs rfl a)

/-- Storing a core touches it and its count of saturated extractions. -/
theorem coreOnly_putCore : coreOnly k s (s.putCore k c) := ⟨rfl, fun _ h => core_putCore_ne h, fun _ h => rd_putCore_ne h⟩

end

/-- An instruction that stores its core answers the state with that core. -/
theorem leads_putCore {i : Instr} {s : State} {k : Nat} {c : Core} (h : exec i s = doneStep s (s.putCore k c)) :
    leads i s (fun t => coreOnly k s t ∧ t.core k = { c with esats := 0 }) :=
  leads_doneStep h ⟨coreOnly_putCore, core_putCore_same⟩

/-! ## When a core runs (R203, R229) -/

theorem Core.runs_of_le {c : Core} {m n : Nat} (h : c.runs m = true) (hle : n ≤ m) : c.runs n = true := by
  simp only [Core.runs, Bool.and_eq_true, decide_eq_true_eq] at h ⊢
  exact ⟨h.1, by omega⟩
theorem Core.tended_of_runs {c : Core} {m : Nat} (h : c.runs m = true) : c.tended = false := by
  simp only [Core.runs, Bool.and_eq_true, Bool.not_eq_true'] at h
  obtain ⟨⟨⟨⟨-, htended⟩, -⟩, -⟩, -⟩ := h
  exact htended

/-! ## The ends of loops (R225) -/

section
variable (c : Core) (at' : BitVec 13) (fuel : Nat)

/-- A loop's end touches the loop stack, LC and the PC. -/
theorem loopEnd_only : loopEnd fuel c at' = { c with loops := (loopEnd fuel c at').loops, lc := (loopEnd fuel c at').lc, pc := (loopEnd fuel c at').pc } := by
  induction fuel generalizing c with
  | zero => rfl
  | succ fuel ih =>
    unfold loopEnd
    split
    · rfl
    · split
      · dsimp only
        split
        · exact ih _
        · rfl
      · rfl

variable {c at'}

/-- An instruction that is not the END of the innermost loop completes no loop. -/
theorem loopEnd_of_not_end (h : (c.loops.head?.all fun m => m.finish != at') = true) : loopEnd fuel c at' = c := by
  cases fuel with
  | zero => rfl
  | succ fuel =>
    unfold loopEnd
    cases hloops : c.loops with
    | nil => rfl
    | cons l ls => simp_all

/-- At END with iterations left the body starts again. -/
theorem loopEnd_repeat {l : LoopLevel} {ls : List LoopLevel} (hloops : c.loops = l :: ls) (hend : l.finish = at') (hlc : c.lc ≠ 1) :
    loopEnd (fuel + 1) c at' = { c with lc := c.lc - 1, pc := l.start } := by
  have hleft : c.lc - 1 ≠ 0 := fun h => hlc (by bv_omega)
  rw [loopEnd, hloops]
  dsimp only
  rw [if_pos hend, if_neg hleft]

/-- At END of the last iteration the level is left. -/
theorem loopEnd_leave {l : LoopLevel} {ls : List LoopLevel} (hloops : c.loops = l :: ls) (hend : l.finish = at') (hlc : c.lc = 1) :
    loopEnd (fuel + 1) c at' = loopEnd fuel { c with loops := ls, lc := l.outerLc } at' := by
  have hdone : c.lc - 1 = 0 := by rw [hlc]; rfl
  rw [loopEnd, hloops]
  dsimp only
  rw [if_pos hend, if_pos hdone]

/-- The only level is left: the loop stack is empty. -/
theorem loopEnd_leave_last {l : LoopLevel} (hloops : c.loops = [l]) (hend : l.finish = at') (hlc : c.lc = 1) :
    loopEnd (fuel + 1) c at' = { c with loops := [], lc := l.outerLc } :=
  (loopEnd_leave fuel hloops hend hlc).trans (loopEnd_of_not_end fuel rfl)

end

/-! ## Sparse maps that differ at named keys -/

section
variable {α : Type} {d : α} {as bs : List Nat} {m n p : Sparse α}

theorem sameBut_refl (as : List Nat) (d : α) (m : Sparse α) : sameBut as d m m := fun _ _ => rfl
theorem sameBut.trans (hmn : sameBut as d m n) (hnp : sameBut as d n p) : sameBut as d m p :=
  fun a ha => (hnp a ha).trans (hmn a ha)
theorem sameBut.weaken (h : sameBut as d m n) (hsub : as ⊆ bs) : sameBut bs d m n := fun a ha => h a fun hmem => ha (hsub hmem)
theorem sameBut_spSet [DecidableEq α] {k : Nat} (v : α) (hk : k ∈ as) : sameBut as d m (spSet d m k v) :=
  fun _ ha => spGet_spSet_ne d d m v fun h => ha (h ▸ hk)

end

/-! ## Moves (R220, R221) -/

/-- The moves of an instruction and the updates of their pointers touch no other part of a core. -/
def MovesOnly (c d : Core) : Prop :=
  d = { c with x := d.x, y := d.y, x0 := d.x0, x1 := d.x1, y0 := d.y0, y1 := d.y1, acc := d.acc, pt := d.pt, wrap := d.wrap, recWrap := d.recWrap,
               esat := d.esat, esats := d.esats, ill := d.ill, recIll := d.recIll }
theorem MovesOnly.trans {c d e : Core} (hcd : MovesOnly c d) (hde : MovesOnly d e) : MovesOnly c e := by
  unfold MovesOnly at *
  rw [hde, hcd]

/-- What a move of X or Y (`isX`) whose words stand at the addresses `as` leaves alone: the words elsewhere, the accumulators and data registers that it
does not load, and all of the core but its memories, data registers, accumulators and the flags ESAT and ILL. -/
structure MoveFrame (isX : Bool) (as : List Nat) (m : PMove) (c d : Core) : Prop where
  only : d = { c with x := d.x, y := d.y, x0 := d.x0, x1 := d.x1, y0 := d.y0, y1 := d.y1, acc := d.acc, esat := d.esat, esats := d.esats,
                      ill := d.ill, recIll := d.recIll }
  x : sameBut (if isX then as else []) 0 c.x d.x
  y : sameBut (if isX then [] else as) 0 c.y d.y
  acc : ∀ j, loadsAcc m j = false → d.a j = c.a j
  data : loadsData m = false → d.x0 = c.x0 ∧ d.x1 = c.x1 ∧ d.y0 = c.y0 ∧ d.y1 = c.y1

section
variable {isX : Bool} {as : List Nat} {m : PMove} {c d e : Core}

theorem MoveFrame.refl (isX : Bool) (as : List Nat) (m : PMove) (c : Core) : MoveFrame isX as m c c :=
  ⟨rfl, sameBut_refl _ _ _, sameBut_refl _ _ _, fun _ _ => rfl, fun _ => ⟨rfl, rfl, rfl, rfl⟩⟩
theorem MoveFrame.trans (hcd : MoveFrame isX as m c d) (hde : MoveFrame isX as m d e) : MoveFrame isX as m c e where
  only := by rw [hde.only, hcd.only]
  x := hcd.x.trans hde.x
  y := hcd.y.trans hde.y
  acc j hj := (hde.acc j hj).trans (hcd.acc j hj)
  data h := by
    obtain ⟨hx0, hx1, hy0, hy1⟩ := hde.data h
    obtain ⟨gx0, gx1, gy0, gy1⟩ := hcd.data h
    exact ⟨hx0.trans gx0, hx1.trans gx1, hy0.trans gy0, hy1.trans gy1⟩

theorem MoveFrame.movesOnly (h : MoveFrame isX as m c d) : MovesOnly c d := by
  unfold MovesOnly
  rw [h.only]

/-- The flags ESAT and ILL, with what is counted of them, lie outside every frame of a move. -/
theorem MoveFrame.flags (esat ill recIll : Bool) (esats : Nat) :
    MoveFrame isX as m c { c with esat := esat, esats := esats, ill := ill, recIll := recIll } :=
  ⟨rfl, sameBut_refl _ _ _, sameBut_refl _ _ _, fun _ _ => rfl, fun _ => ⟨rfl, rfl, rfl, rfl⟩⟩
theorem setIll_moveFrame : MoveFrame isX as m c c.setIll := .flags ..
theorem noteSat_moveFrame (b : Bool) : MoveFrame isX as m c (c.noteSat b) := by
  unfold Core.noteSat
  split
  · exact .flags ..
  · exact .refl ..
theorem noteFar_moveFrame (i : CoreInfo) (a : Nat) : MoveFrame isX as m c (c.noteFar i isX a) := by
  unfold Core.noteFar
  split
  · exact setIll_moveFrame
  · exact .refl ..

/-- A store of a word at one of the addresses, which the second half of the inbound window drops. -/
theorem store_moveFrame (i : CoreInfo) {a : Nat} (w : W32) (ha : a % 16384 ∈ as) : MoveFrame isX as m c (c.store i isX a w) := by
  cases isX with
  | false => exact ⟨rfl, sameBut_refl _ _ _, sameBut_spSet w ha, fun _ _ => rfl, fun _ => ⟨rfl, rfl, rfl, rfl⟩⟩
  | true =>
    simp only [Core.store, if_true]
    split
    · exact .refl ..
    · exact ⟨rfl, sameBut_spSet w ha, sameBut_refl _ _ _, fun _ _ => rfl, fun _ => ⟨rfl, rfl, rfl, rfl⟩⟩

end

/-! ## Reading an accumulator after a write -/

theorem a_setA_ne (c : Core) {i j : Nat} (v : Int) (h : j ≠ i) : (c.setA i v).a j = c.a j := by
  unfold Core.a Core.setA
  rw [spGet_spSet_ne _ _ _ _ h]
theorem a_setA_same (c : Core) (i : Nat) {v : Int} (hlo : -2 ^ 63 ≤ v) (hhi : v < 2 ^ 63) : (c.setA i v).a i = v := by
  unfold Core.a Core.setA
  rw [spGet_spSet_same, BitVec.toInt_ofInt]
  exact Int.bmod_eq_of_le (by omega) (by omega)

/-- A load move touches only what its code names. -/
theorem loadRegs_moveFrame (isX : Bool) (as keep : List Nat) (m : PMove) (c : Core) (w0 w1 : W32) (hacts : moveActs m = true)
    (hload : m.store = false) : MoveFrame isX as m c (c.loadRegs keep m.code.val w0 w1) := by
  have hcode : 1 ≤ m.code.val ∧ m.code.val ≤ 14 := by simpa [moveActs] using hacts
  have hacc (j : Nat) (v : Int) (hj : m.code.val = 5 + j ∨ m.code.val = 9 + j) : MoveFrame isX as m c (c.setA j v) := by
    refine ⟨rfl, sameBut_refl _ _ _, sameBut_refl _ _ _, fun i hi => a_setA_ne c v fun h => ?_, fun _ => ⟨rfl, rfl, rfl, rfl⟩⟩
    simp [loadsAcc, hload] at hi
    omega
  have hdata (e : Core) (honly : e = { c with x0 := e.x0, x1 := e.x1, y0 := e.y0, y1 := e.y1 })
      (hc : m.code.val ≤ 4 ∨ m.code.val = 13 ∨ m.code.val = 14) : MoveFrame isX as m c e := by
    rw [honly]
    refine ⟨rfl, sameBut_refl _ _ _, sameBut_refl _ _ _, fun _ _ => rfl, fun h => ?_⟩
    simp [loadsData, hload] at h
    omega
  unfold Core.loadRegs
  split_ifs
  · exact hdata _ rfl (by omega)
  · exact hdata _ rfl (by omega)
  · exact hdata _ rfl (by omega)
  · exact hdata _ rfl (by omega)
  · exact .refl ..
  · exact hacc _ _ (by omega)
  · exact .refl ..
  · exact hacc _ _ (by omega)
  · exact hdata _ rfl (by omega)
  · exact hdata _ rfl (by omega)

section
variable (i : CoreInfo) (c0 : Core) (keep : List Nat) (isX : Bool) {m : PMove} (c : Core)

theorem moveAddr_mem_storeAddrs (hacts : moveActs m = true) (hstore : m.store = true) : c0.moveAddr m % 16384 ∈ storeAddrs c0 m := by
  simp [storeAddrs, hacts, hstore]
theorem moveAddr_succ_mem_storeAddrs (hacts : moveActs m = true) (hstore : m.store = true) (hpair : moveSize m.code.val = 2) :
    (c0.moveAddr m + 1) % 16384 ∈ storeAddrs c0 m := by
  simp [storeAddrs, hacts, hstore, hpair]

/-- A move touches the words that it stores to and the registers that it loads. -/
theorem doMove_moveFrame : MoveFrame isX (storeAddrs c0 m) m c (doMove i c0 keep isX m c) := by
  unfold doMove
  extract_lets code a far1 far2 ws noted stored
  have hfar1 : MoveFrame isX (storeAddrs c0 m) m c far1 := noteFar_moveFrame i a
  have hfar2 : MoveFrame isX (storeAddrs c0 m) m c far2 := by
    simp only [far2]
    split
    · exact hfar1.trans (noteFar_moveFrame i _)
    · exact hfar1
  split_ifs with hreserved hidle hstore hpair
  · exact setIll_moveFrame
  · exact .refl ..
  · have hacts : moveActs m = true := by simpa using hidle
    exact ((hfar2.trans (noteSat_moveFrame ws.2)).trans (store_moveFrame i _ (moveAddr_mem_storeAddrs c0 hacts hstore))).trans
      (store_moveFrame i _ (moveAddr_succ_mem_storeAddrs c0 hacts hstore hpair))
  · have hacts : moveActs m = true := by simpa using hidle
    exact (hfar2.trans (noteSat_moveFrame ws.2)).trans (store_moveFrame i _ (moveAddr_mem_storeAddrs c0 hacts hstore))
  · exact hfar2.trans (loadRegs_moveFrame isX _ keep m far2 _ _ (by simpa using hidle) (by simpa using hstore))

/-- A field that names no move moves no word and no pointer. -/
theorem doMove_of_code_zero (h : m.code = 0) : doMove i c0 keep isX m c = c := by
  simp [doMove, moveActs, h]
theorem movePtr_of_code_zero (h : m.code = 0) : movePtr c0 m c = c := by
  simp [movePtr, moveActs, h]

/-- The update of a move's pointer touches that pointer and WRAP, if anything. -/
theorem movePtr_cases : movePtr c0 m c = c ∨
    ∃ p wrap recWrap, movePtr c0 m c = { c with pt := spSet 0 c.pt m.ptr.val p, wrap := wrap, recWrap := recWrap } := by
  unfold movePtr
  extract_lets k p size delta r c'
  split
  · exact .inl rfl
  · cases hr : r.2 with
    | false => exact .inr ⟨_, _, _, by rw [show c' = c by simp [c', hr]]⟩
    | true => exact .inr ⟨_, _, _, by rw [show c' = c.setWrap by simp [c', hr]]; rfl⟩

theorem movePtr_only (m : PMove) : movePtr c0 m c = { c with pt := (movePtr c0 m c).pt, wrap := (movePtr c0 m c).wrap, recWrap := (movePtr c0 m c).recWrap } := by
  obtain h | ⟨p, wrap, recWrap, h⟩ := movePtr_cases c0 (m := m) c <;> rw [h]
theorem movePtr_movesOnly : MovesOnly c (movePtr c0 m c) := by
  unfold MovesOnly
  rw [movePtr_only]
theorem movePtr_pt : sameBut [m.ptr.val] 0 c.pt (movePtr c0 m c).pt := by
  obtain h | ⟨p, wrap, recWrap, h⟩ := movePtr_cases c0 (m := m) c <;> rw [h]
  · exact sameBut_refl _ _ _
  · exact sameBut_spSet p (List.mem_singleton_self _)

end

/-! ## Format P: both moves, then the arithmetic (R219, R221) -/

/-- The core after the moves of an instruction of format P. -/
def Core.moved (i : CoreInfo) (f : PArgs) (keep : List Nat) (c : Core) : Core :=
  movePtr c f.y (movePtr c f.x (doMove i c keep false f.y (doMove i c keep true f.x c)))
/-- The accumulators of a core, those of `keep` as the arithmetic has left them. -/
def accsAfter (keep : List Nat) (a d : Core) : Sparse W64 := foldS (fun m j => spSet 0 m j (spGet 0 a.acc j)) d.acc keep
/-- The core before the PC goes on: moved, with what the arithmetic writes. -/
def Core.worked (i : CoreInfo) (f : PArgs) (keep : List Nat) (ar : Core → Core) (c : Core) : Core :=
  let d := c.moved i f keep
  let a := ar c
  { d with z := a.z, n := a.n, v := a.v, ovf := d.ovf || a.ovf, recOvf := d.recOvf || a.recOvf, acc := accsAfter keep a d, late := none,
           cycles := d.cycles + 1 }

theorem spGet_foldS_spSet (g : Nat → W64) (m : Sparse W64) (keep : List Nat) (j : Nat) :
    spGet 0 (foldS (fun m j => spSet 0 m j (g j)) m keep) j = if j ∈ keep then g j else spGet 0 m j := by
  induction keep generalizing m with
  | nil => rfl
  | cons i keep ih =>
    rw [foldS, ih]
    by_cases hj : j = i
    · subst hj
      simp
    · simp [hj, spGet_spSet_ne]

section
variable (i : CoreInfo) (f : PArgs) (keep : List Nat) (ar : Core → Core) (c : Core)

theorem pRun_eq : pRun i f keep ar c = (c.worked i f keep ar).advance := rfl

/-- Both moves touch the memories, data registers, accumulators, pointers, and the flags WRAP, ESAT and ILL. -/
theorem moved_movesOnly : MovesOnly c (c.moved i f keep) :=
  have hx := (doMove_moveFrame i c keep true (m := f.x) c).movesOnly
  have hy := (doMove_moveFrame i c keep false (m := f.y) (doMove i c keep true f.x c)).movesOnly
  ((hx.trans hy).trans (movePtr_movesOnly ..)).trans (movePtr_movesOnly ..)

theorem moved_x : sameBut (storeAddrs c f.x) 0 c.x (c.moved i f keep).x := by
  have hx := (doMove_moveFrame i c keep true (m := f.x) c).x
  have hy := (doMove_moveFrame i c keep false (m := f.y) (doMove i c keep true f.x c)).x
  unfold Core.moved
  rw [movePtr_only, movePtr_only]
  exact hx.trans (hy.weaken (List.nil_subset _))
theorem moved_y : sameBut (storeAddrs c f.y) 0 c.y (c.moved i f keep).y := by
  have hx := (doMove_moveFrame i c keep true (m := f.x) c).y
  have hy := (doMove_moveFrame i c keep false (m := f.y) (doMove i c keep true f.x c)).y
  unfold Core.moved
  rw [movePtr_only, movePtr_only]
  exact (hx.weaken (List.nil_subset _)).trans hy
theorem moved_a {j : Nat} (hx : loadsAcc f.x j = false) (hy : loadsAcc f.y j = false) : (c.moved i f keep).a j = c.a j := by
  unfold Core.moved
  rw [movePtr_only, movePtr_only]
  exact ((doMove_moveFrame i c keep false _).acc j hy).trans ((doMove_moveFrame i c keep true c).acc j hx)
theorem moved_data (hx : loadsData f.x = false) (hy : loadsData f.y = false) : (c.moved i f keep).x0 = c.x0 ∧ (c.moved i f keep).x1 = c.x1 ∧
    (c.moved i f keep).y0 = c.y0 ∧ (c.moved i f keep).y1 = c.y1 := by
  obtain ⟨hx0, hx1, hy0, hy1⟩ := (doMove_moveFrame i c keep true c).data hx
  obtain ⟨gx0, gx1, gy0, gy1⟩ := (doMove_moveFrame i c keep false (doMove i c keep true f.x c)).data hy
  unfold Core.moved
  rw [movePtr_only, movePtr_only]
  exact ⟨gx0.trans hx0, gx1.trans hx1, gy0.trans hy0, gy1.trans hy1⟩
theorem moved_pt : sameBut [f.x.ptr.val, f.y.ptr.val] 0 c.pt (c.moved i f keep).pt := by
  have hpt : (doMove i c keep false f.y (doMove i c keep true f.x c)).pt = c.pt := by
    rw [(doMove_moveFrame i c keep false _).only, (doMove_moveFrame i c keep true c).only]
  have hx := movePtr_pt c (m := f.x) (doMove i c keep false f.y (doMove i c keep true f.x c))
  rw [hpt] at hx
  exact (hx.weaken (by simp)).trans ((movePtr_pt c _).weaken (by simp))

theorem moved_of_codes_zero (hx : f.x.code = 0) (hy : f.y.code = 0) : c.moved i f keep = c := by
  simp [Core.moved, doMove_of_code_zero, movePtr_of_code_zero, hx, hy]

/-- The instruction's own loop end touches the loop stack, LC and the PC. -/
theorem pRun_only : pRun i f keep ar c =
    { c.worked i f keep ar with loops := (pRun i f keep ar c).loops, lc := (pRun i f keep ar c).lc, pc := (pRun i f keep ar c).pc } :=
  loopEnd_only _ _ _

theorem worked_a (j : Nat) : (c.worked i f keep ar).a j = if j ∈ keep then (ar c).a j else (c.moved i f keep).a j := by
  unfold Core.a
  rw [show (c.worked i f keep ar).acc = accsAfter keep (ar c) (c.moved i f keep) from rfl, accsAfter, spGet_foldS_spSet]
  split <;> rfl
theorem pRun_a (j : Nat) : (pRun i f keep ar c).a j = if j ∈ keep then (ar c).a j else (c.moved i f keep).a j := by
  rw [pRun_only]
  exact worked_a i f keep ar c j

/-- The flags are those of the arithmetic, OVF sticky (R208). -/
theorem pRun_z : (pRun i f keep ar c).z = (ar c).z := by rw [pRun_only]; rfl
theorem pRun_n : (pRun i f keep ar c).n = (ar c).n := by rw [pRun_only]; rfl
theorem pRun_v : (pRun i f keep ar c).v = (ar c).v := by rw [pRun_only]; rfl
theorem pRun_ovf : (pRun i f keep ar c).ovf = (c.ovf || (ar c).ovf) := by
  have hmoved : (c.moved i f keep).ovf = c.ovf := (congrArg Core.ovf (moved_movesOnly i f keep c) :)
  rw [pRun_only, ← hmoved]
  rfl

/-- Outside a loop the instruction completes none. -/
theorem pRun_of_no_loop (h : c.loops = []) : pRun i f keep ar c = { c.worked i f keep ar with pc := c.pc + 1 } := by
  have hmoved := moved_movesOnly i f keep c
  have hpc : (c.worked i f keep ar).pc = c.pc := (congrArg Core.pc hmoved :)
  have hloops : (c.worked i f keep ar).loops = [] := (congrArg Core.loops hmoved :).trans h
  rw [pRun_eq, Core.advance, hpc]
  exact loopEnd_of_not_end 4 (by simp [hloops])

/-- What an instruction of format P leaves alone, whatever its arithmetic. -/
theorem pRun_opFrame : opFrame f keep c (pRun i f keep ar c) := by
  have hm := moved_movesOnly i f keep c
  have hacc (j : Nat) (hj : j ∉ keep) (hx : loadsAcc f.x j = false) (hy : loadsAcc f.y j = false) : (pRun i f keep ar c).a j = c.a j := by
    rw [pRun_a, if_neg hj, moved_a i f keep c hx hy]
  have hnone (hx : f.x.code = 0) (hy : f.y.code = 0) : (pRun i f keep ar c).wrap = c.wrap ∧ (pRun i f keep ar c).esat = c.esat ∧
      (pRun i f keep ar c).ill = c.ill := by
    rw [pRun_only]
    simp [Core.worked, moved_of_codes_zero i f keep c hx hy]
  have hpc (h : c.loops = []) : (pRun i f keep ar c).pc = c.pc + 1 ∧ (pRun i f keep ar c).loops = [] ∧ (pRun i f keep ar c).lc = c.lc := by
    rw [pRun_of_no_loop i f keep ar c h]
    exact ⟨rfl, (congrArg Core.loops hm :).trans h, (congrArg Core.lc hm :)⟩
  refine ⟨?_, ?_, fun j _ => hacc j, ?_, ?_, ?_, ?_, ?_, ?_, ?_, ?_, ?_, ?_, ?_, ?_, ?_, hnone, hpc⟩ <;> rw [pRun_only]
  · exact moved_x i f keep c
  · exact moved_y i f keep c
  · exact moved_data i f keep c
  · exact moved_pt i f keep c
  · exact (congrArg Core.st hm :)
  · exact (congrArg Core.rg hm :)
  · exact (congrArg Core.calls hm :)
  · exact (congrArg Core.p hm :)
  · exact (congrArg Core.far hm :)
  · exact (congrArg Core.len hm :)
  · exact (congrArg Core.active hm :)
  · exact (congrArg Core.tended hm :)
  · exact (congrArg Core.overran hm :)
  · exact (congrArg Core.dead hm :)
  · exact congrArg (fun d => d.cycles + 1) hm

end

/-- An instruction of format P that the core fetches next, and has the cycle for, runs. -/
theorem leads_stepP {i : Instr} {k : Fin 64} {s : State} {c : Core} {f : PArgs} {keep : List Nat} {ar : Core → Core}
    (hexec : exec i s = coreDoes k i (stepP k.val f keep ar) s) (hcore : s.core k.val = c) (hruns : c.runs 1 = true) (hdue : s.due k = i) :
    leads i s (fun t => coreOnly k.val s t ∧ t.core k.val = { pRun (s.coreInfo k.val) f keep ar c with esats := 0 }) := by
  subst hcore
  refine leads_putCore ?_
  rw [hexec, coreDoes_due _ hdue, stepP, if_pos hruns]

/-- What it answers: its frame, the accumulators that the arithmetic writes, and the flags. -/
theorem leads_arithmetic {i : Instr} {k : Fin 64} {s : State} {c : Core} {f : PArgs} {keep : List Nat} {ar : Core → Core}
    (hexec : exec i s = coreDoes k i (stepP k.val f keep ar) s) (hcore : s.core k.val = c) (hruns : c.runs 1 = true) (hdue : s.due k = i) :
    leads i s (fun t => coreOnly k.val s t ∧ opFrame f keep c (t.core k.val) ∧ (∀ j ∈ keep, (t.core k.val).a j = (ar c).a j) ∧
      (t.core k.val).z = (ar c).z ∧ (t.core k.val).n = (ar c).n ∧ (t.core k.val).v = (ar c).v ∧ (t.core k.val).ovf = (c.ovf || (ar c).ovf)) := by
  refine (leads_stepP hexec hcore hruns hdue).mono fun t ⟨honly, hafter⟩ => ⟨honly, ?_⟩
  rw [hafter]
  exact ⟨pRun_opFrame .., fun j hj => (pRun_a ..).trans (if_pos hj), pRun_z .., pRun_n .., pRun_v .., pRun_ovf ..⟩

end Sys2Proof.Machine
end

section
/-! SUPPORT. The arithmetic of R210 to R213 and R219: an exact result put into an accumulator, a pair, a step of division. -/

namespace Sys2Proof.Machine

/-! ## An exact result into an accumulator (R210) -/

theorem satI_40 (r : Int) : satI 40 r = max (-549755813888) (min 549755813887 r) := by
  simp only [satI, clampI]
  omega

section
variable (c : Core) (i : Nat) (r : Int)

theorem put_a_same : (c.put i r).a i = accSat r := by
  have hset : (c.setA i (accSat r)).a i = accSat r := by
    refine a_setA_same c i ?_ ?_ <;> (simp only [accSat, satI, clampI]; omega)
  unfold Core.put
  extract_lets d
  split <;> exact hset
theorem put_a_ne {j : Nat} (h : j ≠ i) : (c.put i r).a j = c.a j := by
  unfold Core.put
  extract_lets d
  split <;> exact a_setA_ne c _ h
theorem put_ovf : (c.put i r).ovf = (c.ovf || accOver r) := by
  unfold Core.put
  cases h : accOver r
  · exact (Bool.or_false _).symm
  · exact (Bool.or_true _).symm

end

section
variable (p : Nat) (e o : Int) (c : Core)

/-- A pair takes both results, each saturating for itself. -/
theorem ar2_a_even : (ar2 p e o c).a (2 * p) = accSat e := (put_a_ne _ _ _ (by omega)).trans (put_a_same c _ e)
theorem ar2_a_odd : (ar2 p e o c).a (2 * p + 1) = accSat o := put_a_same _ _ o
theorem ar2_ovf : (ar2 p e o c).ovf = (c.ovf || accOver e || accOver o) := (put_ovf _ _ o).trans (by rw [put_ovf])

end

/-- A pair operation writes both accumulators, and the flags from the even one (R219, R212). -/
theorem leads_pair {i : Instr} {k : Fin 64} {s : State} {c : Core} {f : PArgs} {e o : Core → Int}
    (hexec : exec i s = coreDoes k i (stepP k.val f (pairOf f) fun c => ar2 (f.da.val / 2) (e c) (o c) c) s)
    (hcore : s.core k.val = c) (hruns : c.runs 1 = true) (hdue : s.due k = i) : leads i s (gives2 k.val f (e c) (o c) s) := by
  refine (leads_arithmetic hexec hcore hruns hdue).mono fun t ⟨honly, hframe, hacc, hz, hn, hv, hovf⟩ => ?_
  subst hcore
  refine ⟨honly, (hacc _ (by simp [pairOf])).trans (ar2_a_even ..), (hacc _ (by simp [pairOf])).trans (ar2_a_odd ..), hz, hn, hv, ?_, hframe⟩
  rw [hovf, ar2_ovf]
  cases (s.core k.val).ovf <;> rfl

/-! ## One step of division (R213) -/

/-- The exact remainder of a step of division, before it saturates to 40 bits. -/
def divRem (a d : Int) : Int :=
  if decide (0 ≤ a) = decide (0 ≤ d) then 2 * Int.fdiv a 16777216 - d else 2 * Int.fdiv a 16777216 + d
/-- The bit that a step of division appends to the quotient. -/
def divBit (a d : Int) : Int := if decide (0 ≤ divRem a d) = decide (0 ≤ d) then 1 else 0

/-- The accumulator's value after a step: the saturated remainder above the quotient. -/
def divVal (a d : Int) : Int := satI 40 (divRem a d) * 16777216 + (2 * (a % 16777216) + divBit a d) % 16777216

theorem divStep_eq (a d : Int) : divStep a d =
    (satI 40 (divRem a d), ((2 * (a % 16777216) + divBit a d) % 16777216).toNat, decide (satI 40 (divRem a d) ≠ divRem a d)) := by
  have hquot : a / 2 ^ 24 = Int.fdiv a 16777216 := (Int.fdiv_eq_ediv_of_nonneg a (by decide)).symm
  have hsign : decide (0 ≤ Int.fdiv a 16777216) = decide (0 ≤ a) := by
    rw [Int.fdiv_eq_ediv_of_nonneg a (by decide)]
    exact decide_eq_decide.mpr (by omega)
  have hrem : (if decide (0 ≤ a) = decide (0 ≤ d) then 2 * Int.fdiv a 16777216 - d else 2 * Int.fdiv a 16777216 + d) = divRem a d := rfl
  simp only [divStep, hquot, hsign, hrem]
  refine Prod.ext rfl (Prod.ext ?_ rfl)
  dsimp only [divBit]
  split <;> omega

theorem divVal_bounds (a d : Int) : -2 ^ 63 ≤ divVal a d ∧ divVal a d < 2 ^ 63 := by
  unfold divVal
  rw [satI_40]
  omega

section
variable (c : Core) (i : Nat) (d : Int)

theorem arDiv_eq : arDiv i d c = if satI 40 (divRem (c.a i) d) ≠ divRem (c.a i) d
    then ((c.setA i (divVal (c.a i) d)).flagsOf (divVal (c.a i) d)).setOvf else (c.setA i (divVal (c.a i) d)).flagsOf (divVal (c.a i) d) := by
  have hval : satI 40 (divRem (c.a i) d) * 2 ^ 24 + (((2 * (c.a i % 16777216) + divBit (c.a i) d) % 16777216).toNat : Int) = divVal (c.a i) d := by
    unfold divVal
    omega
  simp only [arDiv, divStep_eq, hval, decide_eq_true_eq]

theorem arDiv_a : (arDiv i d c).a i = divVal (c.a i) d := by
  obtain ⟨hlo, hhi⟩ := divVal_bounds (c.a i) d
  have hset := a_setA_same c i hlo hhi
  rw [arDiv_eq]
  split <;> exact hset
theorem arDiv_ovf : (arDiv i d c).ovf = true ↔ c.ovf = true ∨ divRem (c.a i) d < -549755813888 ∨ 549755813887 < divRem (c.a i) d := by
  have hover : satI 40 (divRem (c.a i) d) ≠ divRem (c.a i) d ↔ divRem (c.a i) d < -549755813888 ∨ 549755813887 < divRem (c.a i) d := by
    rw [satI_40]
    omega
  rw [arDiv_eq]
  split <;> rename_i h
  · exact iff_of_true rfl (.inr (hover.mp h))
  · simp [Core.flagsOf, Core.setA, hover.not.mp h]

end

/-- DIV writes the accumulator that DA names by one step of division. -/
theorem leads_div {k : Fin 64} {s : State} {c : Core} {f : PArgs} {r : Int} (hcore : s.core k.val = c) (hruns : c.runs 1 = true)
    (hdue : s.due k = .div k f) (hr : r = divRem (c.a f.da.val) (c.xv f.xs)) :
    leads (.div k f) s (fun t => coreOnly k.val s t ∧ opFrame f [f.da.val] c (t.core k.val) ∧
      (t.core k.val).a f.da.val = max (-549755813888) (min 549755813887 r) * 16777216 +
        (2 * (c.a f.da.val % 16777216) + (if decide (0 ≤ r) = decide (0 ≤ c.xv f.xs) then 1 else 0)) % 16777216 ∧
      ((t.core k.val).ovf = true ↔ c.ovf = true ∨ r < -549755813888 ∨ 549755813887 < r)) := by
  have hexec : exec (.div k f) s = coreDoes k (.div k f) (stepP k.val f [f.da.val] fun c => arDiv f.da.val (c.xv f.xs) c) s := rfl
  refine (leads_arithmetic hexec hcore hruns hdue).mono fun t ⟨honly, hframe, hacc, _, _, _, hovf⟩ => ⟨honly, hframe, ?_, ?_⟩
  · rw [hacc _ (List.mem_singleton_self _), arDiv_a, hr, ← satI_40]
    rfl
  · rw [hovf, Bool.or_eq_true, arDiv_ovf, hr]
    tauto

/-- An operation of format P that writes no accumulator answers the flags of its arithmetic. -/
theorem leads_flags {i : Instr} {k : Fin 64} {s : State} {c : Core} {f : PArgs} {r : Core → Int}
    (hexec : exec i s = coreDoes k i (stepP k.val f [] fun c => c.flagsOf (r c)) s) (hcore : s.core k.val = c) (hruns : c.runs 1 = true)
    (hdue : s.due k = i) : leads i s (fun t => coreOnly k.val s t ∧ opFrame f [] c (t.core k.val) ∧ (t.core k.val).z = decide (r c = 0) ∧
      (t.core k.val).n = decide (r c < 0) ∧ (t.core k.val).v = extractSat (r c) 22 32 ∧ (t.core k.val).ovf = c.ovf) :=
  (leads_arithmetic hexec hcore hruns hdue).mono fun _ ⟨honly, hframe, _, hz, hn, hv, hovf⟩ =>
    ⟨honly, hframe, hz, hn, hv, hovf.trans (Bool.or_self _)⟩

/-- Settles O26: each operation is an arithmetic on the core's registers, whose frame, accumulators and flags `leads_arithmetic` gives; the pairs by
`leads_pair`, the division by `leads_div`. -/
theorem fullerPairsAndDivision : Obligations.FullerPairsAndDivision := by
  intro s k f c e o r hruns hcore
  rw [hcore] at hruns
  refine ⟨leads_pair (e := fun c => c.p00 + c.p11) (o := fun c => c.p01 + c.p10) rfl hcore hruns, ?_,
    leads_pair (e := fun c => c.p00 - c.p11) (o := fun c => c.p01 + c.p10) rfl hcore hruns, ?_, ?_, leads_div hcore hruns, ?_,
    leads_flags (r := fun c => c.a f.da.val) rfl hcore hruns, leads_flags (r := fun c => c.a f.da.val - c.a f.sa.val) rfl hcore hruns⟩
  · rintro hdue rfl rfl
    rw [← Int.add_assoc, ← Int.add_assoc]
    exact leads_pair (e := fun c => c.a (2 * (f.da.val / 2)) + c.p00 + c.p11) (o := fun c => c.a (2 * (f.da.val / 2) + 1) + c.p01 + c.p10) rfl hcore
      hruns hdue
  · rintro hdue rfl rfl
    rw [← Int.add_sub_assoc, ← Int.add_assoc]
    exact leads_pair (e := fun c => c.a (2 * (f.da.val / 2)) + c.p00 - c.p11) (o := fun c => c.a (2 * (f.da.val / 2) + 1) + c.p01 + c.p10) rfl hcore
      hruns hdue
  · rintro hdue rfl rfl
    rw [← Int.add_assoc, ← Int.add_sub_assoc]
    exact leads_pair (e := fun c => c.a (2 * (f.da.val / 2)) + c.p00 + c.p11) (o := fun c => c.a (2 * (f.da.val / 2) + 1) + c.p10 - c.p01) rfl hcore
      hruns hdue
  · intro hdue
    refine (leads_arithmetic (ar := id) rfl hcore hruns hdue).mono fun t ⟨honly, hframe, _, hz, hn, hv, hovf⟩ => ?_
    exact ⟨honly, hframe, hz, hn, hv, hovf.trans (Bool.or_self _)⟩

end Sys2Proof.Machine
end

section
/-! SUPPORT. Program flow of a Fuller core (R222, R223, R225, R226, R228): the instructions of format J, and what completing an instruction at the END of
a loop does. -/

namespace Sys2Proof.Machine

/-! ## Format J: the effect, the loop ends, the cost -/

/-- A core that an instruction of format J has left as `d`, once `n` cycles are spent and its saturated extractions counted. -/
def Core.after (d : Core) (n : Nat) : Core := { d with late := none, cycles := d.cycles + n, esats := 0 }
/-- A core at which a TEND stands keeps the PC of it. -/
def Core.parked (d : Core) (pc : BitVec 13) : Core := if d.tended then { d with pc := pc } else d

theorem parked_of_running {d : Core} (h : d.tended = false) (pc : BitVec 13) : d.parked pc = d := by simp [Core.parked, h]
theorem parked_of_tended {d : Core} (h : d.tended = true) (pc : BitVec 13) : d.parked pc = { d with pc := pc } := by simp [Core.parked, h]

section
variable {i : Instr} {k : Fin 64} {s : State} {c d : Core} {cost : Core → Nat} {g : Core → Core} {n : Nat}

/-- An instruction of format J that the core fetches next, and has the cycles for, has its effect and completes the loops whose END it is. -/
theorem leads_stepC (hexec : exec i s = coreDoes k i (stepC k.val cost g) s) (hcore : s.core k.val = c) (hruns : c.runs 3 = true) (hdue : s.due k = i)
    (hcost : cost c = n) (hle : n ≤ 3) (heffect : loopEnd 4 (g c) c.pc = d) :
    leads i s (fun t => coreOnly k.val s t ∧ t.core k.val = (d.parked c.pc).after n) := by
  generalize he : d.parked c.pc = e
  refine leads_putCore (c := e.settle.spend n) ?_
  rw [hexec, coreDoes_due _ hdue, stepC, hcore, hcost, if_pos (Core.runs_of_le hruns hle), heffect, ← he]
  rfl

/-- One that leaves the core running has set its PC. -/
theorem leads_stepC_running (hexec : exec i s = coreDoes k i (stepC k.val cost g) s) (hcore : s.core k.val = c) (hruns : c.runs 3 = true)
    (hdue : s.due k = i) (hcost : cost c = n) (hle : n ≤ 3) (heffect : loopEnd 4 (g c) c.pc = d) (htended : d.tended = c.tended) :
    leads i s (fun t => coreOnly k.val s t ∧ t.core k.val = d.after n) :=
  (leads_stepC hexec hcore hruns hdue hcost hle heffect).mono fun _ ⟨honly, hafter⟩ =>
    ⟨honly, by rw [hafter, parked_of_running (htended.trans (Core.tended_of_runs hruns))]⟩

/-- Where it is no END, its effect is all. -/
theorem leads_straight (hexec : exec i s = coreDoes k i (stepC k.val cost g) s) (hcore : s.core k.val = c) (hruns : c.runs 3 = true)
    (hdue : s.due k = i) (hcost : cost c = n) (hle : n ≤ 3) (heffect : g c = d) (hend : (d.loops.head?.all fun m => m.finish != c.pc) = true)
    (htended : d.tended = c.tended) :
    leads i s (fun t => coreOnly k.val s t ∧ t.core k.val = d.after n) :=
  leads_stepC_running hexec hcore hruns hdue hcost hle (by rw [heffect]; exact loopEnd_of_not_end 4 hend) htended

end

theorem flowFrame_refl (c : Core) : flowFrame c c :=
  ⟨rfl, rfl, rfl, rfl, rfl, rfl, rfl, rfl, rfl, rfl, rfl, rfl, rfl, rfl, rfl, rfl, rfl, rfl, rfl, rfl, rfl, rfl⟩

section
variable {c : Core} {j : JArgs}

/-! ### Conditions (R223) -/

theorem noteCond_eq (cond : Nat) : c.noteCond cond = { c with ill := c.ill || decide (9 ≤ cond), recIll := c.recIll || decide (9 ≤ cond) } := by
  unfold Core.noteCond
  split <;> rename_i h <;> simp [Core.setIll, h]

/-- ILL that an instruction sets hides that of its condition. -/
theorem setIll_noteCond (cond : Nat) : (c.noteCond cond).setIll = c.setIll := by
  rw [noteCond_eq]
  rfl

theorem jCost_of_failed (bad : Core → Bool) (h : condHolds c j.cond.val = false) : jCost j bad c = 1 := by simp [jCost, h]
theorem jCost_of_taken {bad : Core → Bool} (h : condHolds c j.cond.val = true) (hbad : bad c = false) : jCost j bad c = 3 := by simp [jCost, h, hbad]
theorem jCost_of_bad {bad : Core → Bool} (hbad : bad c = true) : jCost j bad c = 1 := by simp [jCost, hbad]

/-! ### The loop instructions (R225, R226) -/

section
variable {n : BitVec 16}

/-- The body is skipped where COND fails or the count is 0. -/
theorem skips_iff : (!condHolds c j.cond.val || n == 0) = true ↔ condHolds c j.cond.val = false ∨ n = 0 := by
  rw [Bool.or_eq_true, Bool.not_eq_true', beq_iff_eq]
theorem not_skips (hcond : condHolds c j.cond.val = true) (hn : n ≠ 0) : ¬(!condHolds c j.cond.val || n == 0) = true := by
  rw [skips_iff, hcond]
  exact fun h => h.elim Bool.noConfusion hn

theorem loopStart_of_no_body (h : j.finish ≤ c.pc) : loopStart j n c = c.setIll.next := by
  rw [loopStart, if_pos h, setIll_noteCond]
theorem loopStart_of_skipped (hbody : c.pc < j.finish) (h : condHolds c j.cond.val = false ∨ n = 0) :
    loopStart j n c = { c.noteCond j.cond.val with pc := j.finish + 1 } := by
  rw [loopStart, if_neg (BitVec.not_le.mpr hbody), if_pos (skips_iff.mpr h)]
theorem loopStart_of_full (hbody : c.pc < j.finish) (hcond : condHolds c j.cond.val = true) (hn : n ≠ 0) (h : 4 ≤ c.loops.length) :
    loopStart j n c = c.setIll.next := by
  rw [loopStart, if_neg (BitVec.not_le.mpr hbody), if_neg (not_skips hcond hn), if_pos h]
theorem loopStart_of_entered (hbody : c.pc < j.finish) (hcond : condHolds c j.cond.val = true) (hn : n ≠ 0) (h : c.loops.length < 4) :
    loopStart j n c =
      { c with loops := { outerLc := c.lc, start := c.pc + 1, finish := j.finish } :: c.loops, lc := n, pc := c.pc + 1 } := by
  rw [loopStart, if_neg (BitVec.not_le.mpr hbody), if_neg (not_skips hcond hn), if_neg (Nat.not_le.mpr h)]

theorem loopCost_of_no_body (h : j.finish ≤ c.pc) : loopCost j n c = 1 := if_pos h
theorem loopCost_of_skipped (hbody : c.pc < j.finish) (h : condHolds c j.cond.val = false ∨ n = 0) : loopCost j n c = 3 := by
  rw [loopCost, if_neg (BitVec.not_le.mpr hbody), if_pos (skips_iff.mpr h)]
theorem loopCost_of_entered (hbody : c.pc < j.finish) (hcond : condHolds c j.cond.val = true) (hn : n ≠ 0) : loopCost j n c = 2 := by
  rw [loopCost, if_neg (BitVec.not_le.mpr hbody), if_neg (not_skips hcond hn)]

end
end

section
variable {i : Instr} {k : Fin 64} {s : State} {c : Core} {j : JArgs} {cost : Core → Nat} {g : Core → Core} {n : Nat}

/-- DO and DOLC differ in where the count comes from. -/
theorem exec_loop {count : BitVec 16} (hi : i ∈ (if count = j.count then [Instr.doLoop k j] else []) ++ (if count = c.lc then [Instr.dolc k j] else [])) :
    ∃ cost g, exec i s = coreDoes k i (stepC k.val cost g) s ∧ cost c = loopCost j count c ∧ g c = loopStart j count c := by
  simp only [List.mem_append, List.mem_ite_nil_right, List.mem_singleton] at hi
  obtain ⟨rfl, rfl⟩ | ⟨rfl, rfl⟩ := hi
  · exact ⟨loopCost j j.count, loopStart j j.count, rfl, rfl, rfl⟩
  · exact ⟨fun c => loopCost j c.lc c, fun c => loopStart j c.lc c, rfl, rfl, rfl⟩

/-- Some count is that of a loop instruction. -/
theorem exists_count_of_loop (hi : i ∈ [Instr.doLoop k j, .dolc k j]) :
    ∃ count, i ∈ (if count = j.count then [Instr.doLoop k j] else []) ++ (if count = c.lc then [Instr.dolc k j] else []) := by
  simp only [List.mem_cons, List.not_mem_nil, or_false] at hi
  obtain rfl | rfl := hi
  · exact ⟨j.count, by simp⟩
  · exact ⟨c.lc, by simp⟩

/-- The conditional instructions where COND fails: the next instruction, in 1 cycle. -/
theorem exec_failed (hcond : condHolds c j.cond.val = false) (hi : i ∈ [Instr.jmp k j, .call k j, .ret k j, .brklp k j, .tend k j]) :
    ∃ cost g, exec i s = coreDoes k i (stepC k.val cost g) s ∧ cost c = 1 ∧ g c = jNext j.cond.val c := by
  have hfail : (!condHolds c j.cond.val) = true := by rw [hcond]; rfl
  have hnot : ¬condHolds c j.cond.val = true := by rw [hcond]; decide
  simp only [List.mem_cons, List.not_mem_nil, or_false] at hi
  obtain rfl | rfl | rfl | rfl | rfl := hi
  · exact ⟨_, _, rfl, jCost_of_failed _ hcond, if_neg hnot⟩
  · exact ⟨_, _, rfl, jCost_of_failed _ hcond, if_pos hfail⟩
  · exact ⟨_, _, rfl, jCost_of_failed _ hcond, if_pos hfail⟩
  · exact ⟨_, _, rfl, jCost_of_failed _ hcond, if_pos hfail⟩
  · exact ⟨_, _, rfl, rfl, if_neg hnot⟩

/-- A CALL with the stack full, a RET or a BRKLP with it empty executes as NOP with ILL. -/
theorem exec_stack_fault (hcond : condHolds c j.cond.val = true) (hi : i ∈ (if 8 ≤ c.calls.length then [Instr.call k j] else []) ++
      (if c.calls = [] then [Instr.ret k j] else []) ++ (if c.loops = [] then [Instr.brklp k j] else [])) :
    ∃ cost g, exec i s = coreDoes k i (stepC k.val cost g) s ∧ cost c = 1 ∧ g c = c.setIll.next := by
  have hheld : ¬(!condHolds c j.cond.val) = true := by rw [hcond]; decide
  simp only [List.mem_append, List.mem_ite_nil_right, List.mem_singleton] at hi
  obtain (⟨hfull, rfl⟩ | ⟨hempty, rfl⟩) | ⟨hempty, rfl⟩ := hi
  · exact ⟨_, _, rfl, jCost_of_bad (decide_eq_true hfull), by rw [if_neg hheld, if_pos hfull]⟩
  · exact ⟨_, _, rfl, jCost_of_bad (by rw [hempty]; rfl), by rw [if_neg hheld, hempty]⟩
  · exact ⟨_, _, rfl, jCost_of_bad (by rw [hempty]; rfl), by rw [if_neg hheld, hempty]⟩

/-! ## What the flow instructions answer where they are no END -/

/-- What executes as NOP, or runs the body once, sets ILL and goes on (R226). -/
theorem leads_ill_next (hexec : exec i s = coreDoes k i (stepC k.val cost g) s) (hcore : s.core k.val = c) (hruns : c.runs 3 = true) (hdue : s.due k = i)
    (hend : (c.loops.head?.all fun m => m.finish != c.pc) = true) (hcost : cost c = n) (hle : n ≤ 3) (heffect : g c = c.setIll.next) :
    leads i s (fun t => coreOnly k.val s t ∧ flowFrame c (t.core k.val) ∧ (t.core k.val).pc = c.pc + 1 ∧ (t.core k.val).calls = c.calls ∧
      (t.core k.val).loops = c.loops ∧ (t.core k.val).lc = c.lc ∧ (t.core k.val).cycles = c.cycles + n ∧ (t.core k.val).ill = true) := by
  refine (leads_straight hexec hcore hruns hdue hcost hle heffect hend rfl).mono fun t ⟨honly, hafter⟩ => ?_
  rw [hafter]
  exact ⟨honly, flowFrame_refl c, rfl, rfl, rfl, rfl, rfl, rfl⟩

/-- A failed condition: the next instruction, in 1 cycle (R222, R223). -/
theorem leads_failed (hexec : exec i s = coreDoes k i (stepC k.val cost g) s) (hcore : s.core k.val = c) (hruns : c.runs 3 = true) (hdue : s.due k = i)
    (hend : (c.loops.head?.all fun m => m.finish != c.pc) = true) (hcost : cost c = 1) (heffect : g c = jNext j.cond.val c) :
    leads i s (fun t => coreOnly k.val s t ∧ flowFrame c (t.core k.val) ∧ (t.core k.val).pc = c.pc + 1 ∧ (t.core k.val).cycles = c.cycles + 1 ∧
      (t.core k.val).loops = c.loops ∧ (t.core k.val).calls = c.calls ∧ (t.core k.val).lc = c.lc ∧
      (t.core k.val).ill = (c.ill || decide (9 ≤ j.cond.val)) ∧ (t.core k.val).tended = false) := by
  have htended := Core.tended_of_runs hruns
  rw [jNext, noteCond_eq] at heffect
  refine (leads_straight hexec hcore hruns hdue hcost (by decide) heffect hend rfl).mono fun t ⟨honly, hafter⟩ => ?_
  rw [hafter]
  exact ⟨honly, flowFrame_refl c, rfl, rfl, rfl, rfl, rfl, rfl, htended⟩

end

section
variable {k : Fin 64} {s : State} {c : Core} {j : JArgs} (hcore : s.core k.val = c) (hruns : c.runs 3 = true)
  (hcond : condHolds c j.cond.val = true)
include hcore hruns hcond

section
variable (hend : (c.loops.head?.all fun m => m.finish != c.pc) = true)
include hend

theorem leads_jmp (hdue : s.due k = .jmp k j) : leads (.jmp k j) s (fun t => coreOnly k.val s t ∧
    t.core k.val = { c with pc := j.target }.after 3) :=
  leads_straight (d := { c with pc := j.target }) rfl hcore hruns hdue (jCost_of_taken hcond rfl) (by decide) (if_pos hcond) hend rfl

theorem leads_call (hdue : s.due k = .call k j) (hroom : c.calls.length < 8) : leads (.call k j) s (fun t => coreOnly k.val s t ∧
    t.core k.val = { c with pc := j.target, calls := (c.pc + 1) :: c.calls }.after 3) :=
  leads_straight (d := { c with calls := (c.pc + 1) :: c.calls, pc := j.target }) rfl hcore hruns hdue
    (jCost_of_taken hcond (decide_eq_false (Nat.not_le.mpr hroom))) (by decide) (by simp [hcond, Nat.not_le.mpr hroom]) hend rfl

theorem leads_ret {a : BitVec 13} {as : List (BitVec 13)} (hdue : s.due k = .ret k j) (hcalls : c.calls = a :: as) :
    leads (.ret k j) s (fun t => coreOnly k.val s t ∧
      t.core k.val = { c with pc := a, calls := as }.after 3) :=
  leads_straight (d := { c with calls := as, pc := a }) rfl hcore hruns hdue (jCost_of_taken hcond (by simp [hcalls])) (by decide)
    (by simp [hcond, hcalls]) hend rfl

/-- A TEND leaves the PC at itself. -/
theorem leads_tend (hdue : s.due k = .tend k j) : leads (.tend k j) s (fun t => coreOnly k.val s t ∧
    t.core k.val = { c with tended := true }.after 1) :=
  (leads_stepC (d := { c with tended := true }) (n := 1) rfl hcore hruns hdue rfl (by decide)
    (by rw [if_pos hcond]; exact loopEnd_of_not_end 4 hend)).mono fun _ ⟨honly, hafter⟩ => ⟨honly, by rw [hafter, parked_of_tended rfl]⟩

end

/-- BRKLP leaves the innermost loop, and is then an END only of the next one. -/
theorem leads_brklp {l : LoopLevel} {ls : List LoopLevel} (hdue : s.due k = .brklp k j) (hloops : c.loops = l :: ls)
    (hend : (ls.head?.all fun m => m.finish != c.pc) = true) : leads (.brklp k j) s (fun t => coreOnly k.val s t ∧
      t.core k.val = { c with pc := l.finish + 1, lc := l.outerLc, loops := ls }.after 3) :=
  leads_straight (d := { c with loops := ls, lc := l.outerLc, pc := l.finish + 1 }) rfl hcore hruns hdue
    (jCost_of_taken hcond (by simp [hloops])) (by decide) (by simp [hcond, hloops]) hend rfl

/-- A taken jump at the END of a loop: the loop's end comes after it (log entry 80). -/
theorem leads_jmp_at_end (hdue : s.due k = .jmp k j) : leads (.jmp k j) s (fun t =>
    t.core k.val = (loopEnd 4 { c with pc := j.target } c.pc).after 3) := by
  have htended : (loopEnd 4 { c with pc := j.target } c.pc).tended = c.tended :=
    (congrArg Core.tended (loopEnd_only { c with pc := j.target } c.pc 4) :)
  exact (leads_stepC_running rfl hcore hruns hdue (jCost_of_taken hcond rfl) (by decide) (by rw [if_pos hcond]) htended).mono fun t h => h.2

/-- The loop instructions enter their body where the stack has room. -/
theorem leads_loop_entered {i : Instr} {n : BitVec 16} (hdue : s.due k = i) (hbody : c.pc < j.finish) (hn : n ≠ 0) (hroom : c.loops.length < 4)
    (hi : i ∈ (if n = j.count then [Instr.doLoop k j] else []) ++ (if n = c.lc then [Instr.dolc k j] else [])) :
    leads i s (fun t => coreOnly k.val s t ∧ t.core k.val =
      { c with loops := { outerLc := c.lc, start := c.pc + 1, finish := j.finish } :: c.loops, lc := n, pc := c.pc + 1 }.after 2) := by
  obtain ⟨cost, g, hexec, hcost, heffect⟩ := exec_loop hi
  rw [loopCost_of_entered hbody hcond hn] at hcost
  rw [loopStart_of_entered hbody hcond hn hroom] at heffect
  have hafterPc : j.finish ≠ c.pc := (BitVec.ne_of_lt hbody).symm
  exact leads_straight hexec hcore hruns hdue hcost (by decide) heffect (by simpa using hafterPc) rfl

end

/-- They skip it where COND fails or the count is 0. -/
theorem leads_loop_skipped {k : Fin 64} {s : State} {c : Core} {j : JArgs} {i : Instr} {n : BitVec 16} (hcore : s.core k.val = c)
    (hruns : c.runs 3 = true) (hdue : s.due k = i) (hskip : condHolds c j.cond.val = false ∨ n = 0) (hbody : c.pc < j.finish)
    (hend : (c.loops.head?.all fun m => m.finish != c.pc) = true)
    (hi : i ∈ (if n = j.count then [Instr.doLoop k j] else []) ++ (if n = c.lc then [Instr.dolc k j] else [])) :
    leads i s (fun t => coreOnly k.val s t ∧ t.core k.val =
      { c with pc := j.finish + 1, ill := c.ill || decide (9 ≤ j.cond.val), recIll := c.recIll || decide (9 ≤ j.cond.val) }.after 3) := by
  obtain ⟨cost, g, hexec, hcost, heffect⟩ := exec_loop hi
  rw [loopCost_of_skipped hbody hskip] at hcost
  rw [loopStart_of_skipped hbody hskip, noteCond_eq] at heffect
  exact leads_straight hexec hcore hruns hdue hcost (by decide) heffect hend rfl

/-- An instruction of format P at the END of a loop, with no moves: the loop end is all that touches the stack, LC and the PC. -/
theorem leads_nop_idle {k : Fin 64} {s : State} {c : Core} {f : PArgs} (hcore : s.core k.val = c) (hruns : c.runs 3 = true) (hdue : s.due k = .nop k f)
    (hx : f.x.code = 0) (hy : f.y.code = 0) :
    leads (.nop k f) s (fun t => ∃ e, t.core k.val = { loopEnd 4 e c.pc with esats := 0 } ∧ e.pc = c.pc + 1 ∧ e.loops = c.loops ∧ e.lc = c.lc ∧
      e.cycles = c.cycles + 1) := by
  refine (leads_stepP (ar := id) rfl hcore (Core.runs_of_le hruns (by decide)) hdue).mono fun t ⟨_, hafter⟩ => ?_
  have hmoved := moved_of_codes_zero (s.coreInfo k.val) f [] c hx hy
  rw [hafter, pRun_eq, Core.worked, hmoved]
  exact ⟨_, rfl, rfl, rfl, rfl, rfl⟩

/-- Settles O28: each flow instruction has the effect of its definition where it is no END (`leads_straight`), and the loop ends that it completes come
after it (`loopEnd_repeat`, `loopEnd_leave_last`). -/
theorem fullerFlow : Obligations.FullerFlow := by
  intro s k j c i f n l hcore hruns
  have htended := Core.tended_of_runs hruns
  refine ⟨?jmp, ?failed, ?call, ?ret, ?stack, ?entered, ?skipped, ?full, ?noBody, ?repeats, ?leaves, ?jmpAtEnd, ?brklp, ?tend⟩
  case jmp =>
    intro hdue hcond hend
    refine (leads_jmp hcore hruns hcond hend hdue).mono fun t ⟨honly, hafter⟩ => ?_
    rw [hafter]
    exact ⟨honly, flowFrame_refl c, rfl, rfl, rfl, rfl, rfl, rfl, htended⟩
  case failed =>
    intro hdue hcond hend hi
    obtain ⟨cost, g, hexec, hcost, heffect⟩ := exec_failed hcond hi
    exact leads_failed hexec hcore hruns hdue hend hcost heffect
  case call =>
    intro hdue hcond hend hroom
    refine (leads_call hcore hruns hcond hend hdue hroom).mono fun t ⟨honly, hafter⟩ => ?_
    rw [hafter]
    exact ⟨honly, flowFrame_refl c, rfl, rfl, rfl, rfl, rfl, rfl⟩
  case ret =>
    intro hdue hcond hend hcalls
    obtain ⟨a, as, hcalls⟩ := List.exists_cons_of_ne_nil hcalls
    refine (leads_ret hcore hruns hcond hend hdue hcalls).mono fun t ⟨honly, hafter⟩ => ?_
    rw [hafter, hcalls]
    exact ⟨honly, flowFrame_refl c, rfl, rfl, rfl, rfl, rfl, rfl⟩
  case stack =>
    intro hdue hcond hend hi
    obtain ⟨cost, g, hexec, hcost, heffect⟩ := exec_stack_fault hcond hi
    exact leads_ill_next hexec hcore hruns hdue hend hcost (by decide) heffect
  case entered =>
    intro hdue hcond hbody hn hroom hi
    refine (leads_loop_entered hcore hruns hcond hdue hbody hn hroom hi).mono fun t ⟨honly, hafter⟩ => ?_
    rw [hafter]
    exact ⟨honly, flowFrame_refl c, rfl, rfl, rfl, rfl, rfl, rfl⟩
  case skipped =>
    intro hdue hskip hbody hend hi
    refine (leads_loop_skipped hcore hruns hdue hskip hbody hend hi).mono fun t ⟨honly, hafter⟩ => ?_
    rw [hafter]
    exact ⟨honly, flowFrame_refl c, rfl, rfl, rfl, rfl, rfl, rfl⟩
  case full =>
    intro hdue hcond hbody hn hfull hend hi
    obtain ⟨cost, g, hexec, hcost, heffect⟩ := exec_loop hi
    rw [loopCost_of_entered hbody hcond hn] at hcost
    rw [loopStart_of_full hbody hcond hn hfull] at heffect
    exact (leads_ill_next hexec hcore hruns hdue hend hcost (by decide) heffect).mono
      fun t ⟨honly, hframe, hpc, _, hloops, hlc, _, hill⟩ => ⟨honly, hframe, hloops, hlc, hpc, hill⟩
  case noBody =>
    intro hdue hbody hend hi
    obtain ⟨n, hloop⟩ := exists_count_of_loop hi
    obtain ⟨cost, g, hexec, hcost, heffect⟩ := exec_loop hloop
    rw [loopCost_of_no_body hbody] at hcost
    rw [loopStart_of_no_body hbody] at heffect
    exact (leads_ill_next hexec hcore hruns hdue hend hcost (by decide) heffect).mono
      fun t ⟨honly, hframe, hpc, _, hloops, hlc, hcycles, hill⟩ => ⟨honly, hframe, hloops, hlc, hpc, hcycles, hill⟩
  case repeats =>
    intro hdue hx hy hloops hfinish hlc
    refine (leads_nop_idle hcore hruns hdue hx hy).mono fun t ⟨e, hafter, hpc, heloops, helc, hcycles⟩ => ?_
    rw [hafter, loopEnd_repeat 3 (heloops.trans hloops) hfinish (helc ▸ hlc)]
    exact ⟨rfl, congrArg (· - 1) helc, heloops.trans hloops, hcycles⟩
  case leaves =>
    intro hdue hx hy hloops hfinish hlc
    refine (leads_nop_idle hcore hruns hdue hx hy).mono fun t ⟨e, hafter, hpc, heloops, helc, _⟩ => ?_
    rw [hafter, loopEnd_leave_last 3 (heloops.trans hloops) hfinish (helc.trans hlc)]
    exact ⟨hpc, rfl, rfl⟩
  case jmpAtEnd =>
    intro hdue hcond hloops hfinish
    refine (leads_jmp_at_end hcore hruns hcond hdue).mono fun t hafter => ?_
    rw [hafter]
    split
    · rename_i hlc
      rw [loopEnd_leave_last 3 (c := { c with pc := j.target }) hloops hfinish hlc]
      exact ⟨rfl, rfl, rfl, rfl⟩
    · rename_i hlc
      rw [loopEnd_repeat 3 (c := { c with pc := j.target }) hloops hfinish hlc]
      exact ⟨rfl, rfl, rfl, hloops⟩
  case brklp =>
    intro hdue hcond hne hl hend
    obtain ⟨m, ls, hloops⟩ := List.exists_cons_of_ne_nil hne
    obtain rfl : l = m := by rw [hl, hloops]; rfl
    rw [hloops] at hend
    refine (leads_brklp hcore hruns hcond hdue hloops hend).mono fun t ⟨honly, hafter⟩ => ?_
    rw [hafter, hloops]
    exact ⟨honly, flowFrame_refl c, rfl, rfl, rfl, rfl, rfl, rfl⟩
  case tend =>
    intro hdue hcond hend
    refine (leads_tend hcore hruns hcond hend hdue).mono fun t ⟨honly, hafter⟩ => ?_
    rw [hafter]
    exact ⟨honly, flowFrame_refl c, rfl, rfl, rfl, rfl, rfl, rfl, rfl⟩

end Sys2Proof.Machine
end

section
/-! SUPPORT. The seal loop and its latch (R494, R495): what a break records, and what a write of PRS_RESEAL answers. -/

namespace Sys2Proof.Machine

section
variable {s : State} {v : W32}

/-! ## Changes of the presence block, and refusals (R498) -/

/-- A command that has changed the presence block, and else only what events touch, leads to that state as it is. -/
theorem leads_of_modPrs {i : Instr} {t : State} {f : PrsSt → PrsSt} {p : State → Prop} (hexec : exec i s = doneCore s t)
    (honly : evtOnly (s.modPrs f) t) (hp : p t) : leads i s p := by
  have hanswer : t.answered s s.cores = t := honly.answer
  exact leads_doneCore hexec (hanswer.symm ▸ hp)

/-- A refusal is counted and flagged, and leaves every register but those of R498. -/
theorem deny_refuses (c p x : Nat) : counted PRS_DENIED 1 s (s.deny c p x) ∧ (s.deny c p x).bit PRS_STAT 2 = true ∧
    regsKeep [PRS_DENIED, PRS_STAT, PRS_DENIED_LAST] s (s.deny c p x) := by
  obtain ⟨hcount, hstat, -⟩ := deny_counts s c p x
  refine ⟨hcount, ?_, fun a ha hevt => ?_⟩
  · rw [State.bit, hstat]
    exact bitOf_or_oneBit _ (by decide)
  · simp only [List.mem_cons, List.not_mem_nil, or_false, not_or] at ha
    obtain ⟨hden, hst, hlast⟩ := ha
    exact deny_rd s c p x hevt hden hst hlast

/-! ## What a break of the loop records (R494) -/

/-- A break is counted, its second kept, and EV17 raised. -/
def State.sealBreak (s : State) : State :=
  ((s.count PRS_SEAL_BREAKS 1).wr PRS_SEAL_TIME (s.rd PWD_RTC)).flagRaise PRS_STAT 1 17

theorem sealBreak_only : evtOnly s s.sealBreak :=
  ((evtOnly_wr s _ _).trans (evtOnly_wr _ _ _)).trans (flagRaise_only _ _ _ _)

theorem sealBreak_counted : counted PRS_SEAL_BREAKS 1 s s.sealBreak := by
  rw [counted, State.sealBreak, flagRaise_rd _ _ _ _ (by decide) (by decide), rd_wr_ne _ _ (by decide), rd_count_same]

theorem sealBreak_time : s.sealBreak.rd PRS_SEAL_TIME = s.rd PWD_RTC := by
  rw [State.sealBreak, flagRaise_rd _ _ _ _ (by decide) (by decide), rd_wr_same]

theorem sealBreak_flag : s.sealBreak.bit PRS_STAT 1 = true := flagRaise_bit _ _ _ _ (by decide) (by decide)

theorem sealBreak_raised : raised 17 s s.sealBreak := by
  intro _ hup
  exact raise_pends _ 17 (eventHere_of (by decide)) (by simpa using hup)

theorem sealBreak_regsKeep : regsKeep [PRS_SEAL_BREAKS, PRS_SEAL_TIME, PRS_STAT] s s.sealBreak := by
  intro a ha hevt
  simp only [List.mem_cons, List.not_mem_nil, or_false, not_or] at ha
  obtain ⟨hbreaks, htime, hstat⟩ := ha
  rw [State.sealBreak, flagRaise_rd _ _ _ _ hevt hstat, rd_wr_ne _ _ htime, rd_count_ne _ _ hbreaks]

/-! ## A sampling of the loop (R494) -/

theorem exec_sealSample (hseed : s.seedOn = true) (ok : Bool) : exec (.sealSample ok) s = doneCore s (s.sealSample ok) := by
  show doneCore s _ = _
  rw [if_pos hseed]

/-- A failing sampling that is not the second in a row is noted, and no more (log entry 53). -/
theorem sealSample_fail_of_ne_one (hfails : s.prs.sealFails ≠ 1) :
    s.sealSample false = s.modPrs fun p => { p with sealIntact := false, sealFails := min 3 (p.sealFails + 1) } :=
  if_neg (by show min 3 (s.prs.sealFails + 1) ≠ 2; omega)

/-- The second failing sampling in a row sets the latch and is a break. -/
theorem sealSample_fail_of_one (hfails : s.prs.sealFails = 1) :
    s.sealSample false = (s.modPrs fun p => { p with sealIntact := false, sealFails := 2, sealLatch := true }).sealBreak := by
  simp only [State.sealSample, hfails]
  rfl

/-- A set seal latch withdraws class 1, whatever the window (R495). -/
theorem class1_of_sealLatch (hlatch : s.prs.sealLatch = true) : s.class1 = false := by
  rw [State.class1, hlatch, Bool.not_true, Bool.and_false]

theorem leads_sealSample_break (hseed : s.seedOn = true) (hfails : s.prs.sealFails = 1) : leads (.sealSample false) s (fun t =>
    evtOnly { s with prs := { s.prs with sealIntact := false, sealFails := 2, sealLatch := true } } t ∧ counted PRS_SEAL_BREAKS 1 s t ∧
    t.rd PRS_SEAL_TIME = s.rd PWD_RTC ∧ t.bit PRS_STAT 1 = true ∧ t.class1 = false ∧ raised 17 s t ∧
    regsKeep [PRS_SEAL_BREAKS, PRS_SEAL_TIME, PRS_STAT] s t) := by
  refine leads_of_modPrs ((exec_sealSample hseed false).trans (congrArg _ (sealSample_fail_of_one hfails))) sealBreak_only ?_
  have hclass := class1_of_sealLatch (congrArg PrsSt.sealLatch
    (sealBreak_only (s := s.modPrs fun p => { p with sealIntact := false, sealFails := 2, sealLatch := true })).prs)
  exact ⟨sealBreak_only, sealBreak_counted, sealBreak_time, sealBreak_flag, hclass, sealBreak_raised (s := s.modPrs _), sealBreak_regsKeep⟩

/-! ## A write of PRS_RESEAL by the host (R495) -/

theorem exec_reseal (hup : s.hostUp = true) :
    exec (.reseal v) s = doneCore s (if s.resealOk 0 v then s.unseal else s.deny 1 0 PRS_RESEAL) := by
  show doneCore s _ = _
  rw [byHost_up hup]
  rfl

theorem resealOk_host (hkey : v = 0x5EA1) (hpresent : s.prs.present = true) (hintact : s.prs.sealIntact = true) :
    s.resealOk 0 v = true := by
  rw [State.resealOk, hkey, hpresent, hintact]
  rfl

/-- The key, its conditions met, clears a set latch with EV18. -/
theorem leads_reseal_clears (hup : s.hostUp = true) (hok : s.resealOk 0 v = true) (hlatch : s.prs.sealLatch = true) :
    leads (.reseal v) s (fun t => evtOnly { s with prs := { s.prs with sealLatch := false } } t ∧ raised 18 s t ∧ regsKeep [] s t) := by
  have hexec : exec (.reseal v) s = doneCore s ((s.modPrs fun p => { p with sealLatch := false }).raise 18) := by
    rw [exec_reseal hup, if_pos hok, State.unseal, if_pos hlatch]
  have honly := raise_only (s.modPrs fun p => { p with sealLatch := false }) 18
  exact leads_of_modPrs hexec honly ⟨honly, raise_pends (s.modPrs _) 18, fun a _ hevt => raise_rd _ 18 hevt⟩

/-- Any other write is refused, and the latch keeps its value with the rest of the state. -/
theorem leads_reseal_refused (hup : s.hostUp = true) (hok : s.resealOk 0 v = false) : leads (.reseal v) s (fun t =>
    evtOnly s t ∧ counted PRS_DENIED 1 s t ∧ t.bit PRS_STAT 2 = true ∧ regsKeep [PRS_DENIED, PRS_STAT, PRS_DENIED_LAST] s t) := by
  have hexec : exec (.reseal v) s = doneCore s (s.deny 1 0 PRS_RESEAL) := by
    rw [exec_reseal hup, hok]
    rfl
  have honly := deny_only s 1 0 PRS_RESEAL
  refine leads_doneCore hexec ?_
  rw [honly.answer]
  exact ⟨honly, deny_refuses 1 0 PRS_RESEAL⟩

end

/-- Settles O52: one failing sampling or a further one is noted alone, the second in a row is a break (`leads_sealSample_break`); a write of PRS_RESEAL
by the host clears the latch or is refused by `resealOk` alone. -/
theorem sealLatch : Obligations.SealLatch := by
  unfold Obligations.SealLatch
  intro s v
  refine ⟨fun hseed => exec_sealSample hseed true, fun hseed hfails => ?noted, leads_sealSample_break, fun hup hkey hpresent hintact hlatch => ?clears,
    leads_reseal_refused⟩
  case noted =>
    rw [exec_sealSample hseed, sealSample_fail_of_ne_one hfails]
    rfl
  case clears => exact leads_reseal_clears hup (resealOk_host hkey hpresent hintact) hlatch

end Sys2Proof.Machine
end

section
/-! SUPPORT. How a command answers (`done`, `doneCore`, `doneStep`), the stacks of the Fuller cores under it, and the module before its first start. -/

namespace Sys2Proof.Machine

/-! ## The three forms of an answer -/

/-- A function that keeps the stacks of every core within their levels and leaves the three byte memories alone. -/
structure CoreWork (g : State → State) : Prop where
  cores : ∀ s, coresOk s = true → coresOk (g s) = true
  mem : ∀ s, (g s).mem = s.mem
  dram : ∀ s, (g s).dram = s.dram
  hwd : ∀ s, (g s).hwd = s.hwd

section
variable {s : State} {k : Nat} {c d : Core}

/-! ### Cores within their levels -/

theorem coresOk_iff : coresOk s = true ↔ ∀ p ∈ s.cores, stacksOk p.2 = true := List.all_eq_true

theorem stacksOk_core (h : coresOk s = true) (k : Nat) : stacksOk (s.core k) = true := by
  cases hfind : spFind s.cores k with
  | none => rw [State.core, spGet_of_spFind_none hfind]; rfl
  | some c => rw [State.core, spGet_of_spFind hfind]; exact coresOk_iff.mp h _ (mem_of_spFind hfind)

theorem coresOk_putCore (h : coresOk s = true) (hc : stacksOk c = true) : coresOk (s.putCore k c) = true := by
  refine coresOk_iff.mpr fun p hp => ?_
  obtain rfl | hp := mem_spPut hp
  · exact hc
  · exact coresOk_iff.mp h p hp

/-- Once they are kept, the stacks of a core are those it had, or empty. -/
theorem stacksOk_keepStacks {old : Sparse Core} (h : ∀ p ∈ old, stacksOk p.2 = true) (p : Nat × Core) : stacksOk (keepStacks old p).2 = true := by
  unfold keepStacks
  split
  · next b hb =>
    have hold := h _ (mem_of_spFind hb)
    simp only [stacksOk, Bool.and_eq_true, decide_eq_true_eq] at hold ⊢
    exact ⟨by split <;> simp [hold.1], by split <;> simp [hold.2]⟩
  · rfl

/-- Stacks no longer than those of a core within its levels are within them. -/
theorem stacksOk_of_le (h : stacksOk c = true) (hloops : d.loops.length ≤ c.loops.length) (hcalls : d.calls.length ≤ c.calls.length) :
    stacksOk d = true := by
  simp only [stacksOk, Bool.and_eq_true, decide_eq_true_eq] at h ⊢
  omega

end

/-! ### The stacks under the instructions of a core (R222, R225, R226) -/

theorem loopEnd_loops_length (fuel : Nat) (c : Core) (at' : BitVec 13) : (loopEnd fuel c at').loops.length ≤ c.loops.length := by
  induction fuel generalizing c with
  | zero => exact Nat.le_refl _
  | succ fuel ih =>
    unfold loopEnd
    split
    · exact Nat.le_refl _
    · next l ls hloops =>
      split
      · dsimp only
        split
        · exact (ih _).trans (by simp [hloops])
        · exact Nat.le_refl _
      · exact Nat.le_refl _
theorem loopEnd_calls (fuel : Nat) (c : Core) (at' : BitVec 13) : (loopEnd fuel c at').calls = c.calls := by rw [loopEnd_only]
theorem stacksOk_loopEnd {c : Core} (h : stacksOk c = true) (fuel : Nat) (at' : BitVec 13) : stacksOk (loopEnd fuel c at') = true :=
  stacksOk_of_le h (loopEnd_loops_length ..) (Nat.le_of_eq (congrArg List.length (loopEnd_calls ..)))

theorem stacksOk_pRun (i : CoreInfo) (f : PArgs) (keep : List Nat) (ar : Core → Core) {c : Core} (h : stacksOk c = true) :
    stacksOk (pRun i f keep ar c) = true := by
  have hmoved := moved_movesOnly i f keep c
  have hloops : (c.worked i f keep ar).loops = c.loops := (congrArg Core.loops hmoved :)
  have hcalls : (c.worked i f keep ar).calls = c.calls := (congrArg Core.calls hmoved :)
  rw [pRun_eq]
  refine stacksOk_loopEnd (stacksOk_of_le h ?_ ?_) ..
  · exact Nat.le_of_eq (congrArg List.length hloops)
  · exact Nat.le_of_eq (congrArg List.length hcalls)

/-- Storing a core of an instruction leaves the memories alone. -/
theorem coreWork_putCore {run : State → Bool} {k : Nat} {g : State → Core}
    (h : ∀ s, stacksOk (s.core k) = true → stacksOk (g s) = true) : CoreWork (fun s => if run s then s.putCore k (g s) else s) where
  cores s hs := by
    split
    · exact coresOk_putCore hs (h s (stacksOk_core hs k))
    · exact hs
  mem s := by split <;> rfl
  dram s := by split <;> rfl
  hwd s := by split <;> rfl

theorem coreWork_stepP (k : Nat) (f : PArgs) (keep : List Nat) (ar : Core → Core) : CoreWork (stepP k f keep ar) :=
  coreWork_putCore fun s h => stacksOk_pRun (s.coreInfo k) f keep ar h

theorem coreWork_stepC (k : Nat) (cost : Core → Nat) {g : Core → Core} (hg : ∀ c, stacksOk c = true → stacksOk (g c) = true) :
    CoreWork (stepC k cost g) := by
  refine coreWork_putCore fun s h => ?_
  have hend := stacksOk_loopEnd (hg _ h) 4 (s.core k).pc
  split
  · exact hend
  · exact hend

theorem stacksOk_noteCond {c : Core} (h : stacksOk c = true) (cond : Nat) : stacksOk (c.noteCond cond) = true := by
  rw [noteCond_eq]
  exact h
theorem stacksOk_jNext {c : Core} (h : stacksOk c = true) (cond : Nat) : stacksOk (jNext cond c) = true := stacksOk_noteCond h cond

/-- A loop instruction pushes a level only where one is free (R226). -/
theorem stacksOk_loopStart (j : JArgs) (n : BitVec 16) {c : Core} (h : stacksOk c = true) : stacksOk (loopStart j n c) = true := by
  unfold loopStart
  split_ifs with hbody hskip hfull
  · exact stacksOk_noteCond h _
  · exact stacksOk_noteCond h _
  · exact h
  · simp only [stacksOk, Bool.and_eq_true, decide_eq_true_eq, List.length_cons] at h ⊢
    omega

/-- A write of a selector touches no stack. -/
theorem selWrite_stacks (c : Core) (n : Nat) (v : W32) : (selWrite c n v).loops = c.loops ∧ (selWrite c n v).calls = c.calls := by
  constructor
  · simp only [selWrite, apply_ite Core.loops, Core.setA, Core.hold, Core.setWrap, Core.setIll, ite_self]
  · simp only [selWrite, apply_ite Core.calls, Core.setA, Core.hold, Core.setWrap, Core.setIll, ite_self]
theorem selReadNote_stacks (c : Core) (n : Nat) : (selReadNote c n).loops = c.loops ∧ (selReadNote c n).calls = c.calls := by
  unfold selReadNote Core.noteSat
  repeat' split
  all_goals exact ⟨rfl, rfl⟩

/-- What a T instruction does to a core (R224). -/
def transfer (dst src : Nat) (s : State) (c : Core) : Core := selWrite (selReadNote c src) dst (selRead c s.tickLo src)
theorem transfer_stacks (s : State) (c : Core) (dst src : Nat) :
    (transfer dst src s c).loops = c.loops ∧ (transfer dst src s c).calls = c.calls := by
  obtain ⟨hloops, hcalls⟩ := selWrite_stacks (selReadNote c src) dst (selRead c s.tickLo src)
  obtain ⟨hloops', hcalls'⟩ := selReadNote_stacks c src
  exact ⟨hloops.trans hloops', hcalls.trans hcalls'⟩

theorem exec_tTransfer (k dst src : Fin 64) (s : State) : exec (.tTransfer k dst src) s =
    coreDoes k (.tTransfer k dst src) (fun s => stepSel k.val (transfer dst.val src.val s) s) s := by
  show execTTransfer k dst src s = _
  unfold execTTransfer coreDoes transfer
  rfl

theorem coreWork_stepSel (k : Nat) {g : State → Core → Core} (hg : ∀ s c, (g s c).loops = c.loops ∧ (g s c).calls = c.calls) :
    CoreWork (fun s => stepSel k (g s) s) := by
  refine coreWork_putCore fun s h => ?_
  obtain ⟨hloops, hcalls⟩ := hg s (s.core k).settle
  refine stacksOk_loopEnd (stacksOk_of_le h ?_ ?_) ..
  · exact Nat.le_of_eq (congrArg List.length hloops)
  · exact Nat.le_of_eq (congrArg List.length hcalls)

theorem coreWork_reserved (k : Nat) (word : W64) : CoreWork (fun s : State =>
    if wordField word 63 63 = 0 then
      (if (s.core k).runs 1 then s.putCore k (pRun (s.coreInfo k) (pFields word) [] id (s.core k)).setIll else s)
    else stepSel k Core.setIll s) := by
  split
  · exact coreWork_putCore (g := fun s => (pRun (s.coreInfo k) (pFields word) [] id (s.core k)).setIll) fun s h => stacksOk_pRun (s.coreInfo k) _ _ _ h
  · exact coreWork_stepSel k fun _ _ => ⟨rfl, rfl⟩

/-! ### Every command answers -/

/-- Whether a command is a Fuller core's own instruction. -/
inductive CoreAnswer (i : Instr) (s : State) : Prop where
  | mk (k : Fin 64) (g : State → State) (hexec : exec i s = coreDoes k i g s) (hwork : CoreWork g)

/-- What a command answers: a Fuller instruction stores its core; any other command answers the state it has made, with the cores as they were or with their
stacks kept. -/
theorem exec_answers (i : Instr) (s : State) : CoreAnswer i s ∨ (∃ t, exec i s = doneCore s t) ∨ ∃ t, exec i s = done s t := by
  cases i with
  | nop k | clr k | mpy k | mac k | msu k | dmpy k | dmac k | cmpy k | cmac k | cmacj k | add k | sub k | addx k | asl k | asr k | neg k | abs k | maxa k
  | cmp k | tst k | div k | copy k => exact .inl ⟨k, _, rfl, coreWork_stepP ..⟩
  | jmp k j =>
    refine .inl ⟨k, _, rfl, coreWork_stepC _ _ fun c h => ?_⟩
    split
    · exact h
    · exact stacksOk_jNext h _
  | call k j =>
    refine .inl ⟨k, _, rfl, coreWork_stepC _ _ fun c h => ?_⟩
    split_ifs with hcond hfull
    · exact stacksOk_jNext h _
    · exact h
    · simp only [stacksOk, Bool.and_eq_true, decide_eq_true_eq, List.length_cons] at h ⊢
      omega
  | ret k j =>
    refine .inl ⟨k, _, rfl, coreWork_stepC _ _ fun c h => ?_⟩
    split
    · exact stacksOk_jNext h _
    · split
      · exact h
      · next hcalls => exact stacksOk_of_le h (Nat.le_refl _) (by simp [hcalls])
  | doLoop k j => exact .inl ⟨k, _, rfl, coreWork_stepC _ _ fun c h => stacksOk_loopStart j j.count h⟩
  | dolc k j => exact .inl ⟨k, _, rfl, coreWork_stepC _ _ fun c h => stacksOk_loopStart j c.lc h⟩
  | brklp k j =>
    refine .inl ⟨k, _, rfl, coreWork_stepC _ _ fun c h => ?_⟩
    split
    · exact stacksOk_jNext h _
    · split
      · exact h
      · next hloops => exact stacksOk_of_le h (by simp [hloops]) (Nat.le_refl _)
  | tend k j =>
    refine .inl ⟨k, _, rfl, coreWork_stepC _ _ fun c h => ?_⟩
    split
    · exact h
    · exact stacksOk_jNext h _
  | kImmediate k sel val => exact .inl ⟨k, _, rfl, coreWork_stepSel (g := fun _ c => selWrite c sel.val val) _ fun _ c => selWrite_stacks c _ _⟩
  | tTransfer k dst src => 
    exact .inl ⟨k, fun s => stepSel k.val (transfer dst.val src.val s) s, exec_tTransfer k dst src s, coreWork_stepSel _ fun s c => transfer_stacks s c _ _⟩
  | reservedEncoding k word => exact .inl ⟨k, _, rfl, coreWork_reserved ..⟩
  | tickBoundary | coreOverrun | swapTakesEffect | sceneStageLoad | sceneStageMirror | marchDestructive | retentionHoldEnd | resyncDelta
  | imgLoadPhase2 | imgMediaRestart | graftT1 | graftStateComplete | graftT2 | regWrite | coldStart | coldStartRetry | sysReset | stewardWatchdog
  | resetN | supplyReturn | bootBgLoad | wakeSequence | ready | wakeAbandon | napEntry | napWake | vaonLoss | registerWrite | narrowWrite | unmapped
  | fullerMemoryWrite | spiWriteFrame | monitorCharacter | monTxCharacterSent | poke | rmw => exact .inr (.inr ⟨_, rfl⟩)
  | _ => exact .inr (.inl ⟨_, rfl⟩)

/-- Every command completes, leaves the queue and what the module was built as alone, and no core with more levels than it has. -/
theorem exec_completes (i : Instr) (s : State) :
    ∃ t, exec i s = .next t ∧ t.pending = s.pending ∧ t.fit = s.fit ∧ (coresOk s = true → coresOk t = true) := by
  obtain ⟨k, g, hexec, hwork⟩ | ⟨t, hexec⟩ | ⟨t, hexec⟩ := exec_answers i s
  · refine ⟨_, hexec, rfl, rfl, fun h => ?_⟩
    show coresOk (if s.due k = i then g s else s) = true
    split
    · exact hwork.cores s h
    · exact h
  · exact ⟨_, hexec, rfl, rfl, id⟩
  · refine ⟨_, hexec, rfl, rfl, fun h => coresOk_iff.mpr fun p hp => ?_⟩
    obtain ⟨q, -, rfl⟩ := List.mem_map.mp hp
    exact stacksOk_keepStacks (coresOk_iff.mp h) q

/-- Settles O57: the step on a queue and on an empty one is its definition, and every command completes (`exec_completes`). -/
theorem stepTakesFront : Obligations.StepTakesFront := by
  intro s c q
  refine ⟨fun h => ?_, fun h => ?_, ?_⟩
  · rw [step, h]
  · rw [step, h]
  · obtain ⟨t, hexec, hpending, hfit, -⟩ := exec_completes c s
    exact ⟨t, hexec, hpending, hfit⟩

/-- Settles O60: the front command, or none, is what a step takes, and every command keeps the stacks (`exec_completes`). -/
theorem stepsKeepStacksAndQueue : Obligations.StepsKeepStacksAndQueue := by
  intro s hs
  cases hq : s.pending with
  | nil => exact ⟨s, by rw [step, hq], hs, rfl, [], rfl⟩
  | cons c cs =>
    obtain ⟨t, hexec, hpending, hfit, hcores⟩ := exec_completes c { s with pending := cs }
    exact ⟨t, by simp only [step, hq, hexec], hcores hs, hfit, [c], by rw [hq, hpending]; rfl⟩

/-! ## The module before its first start -/

/-- No event is pending where EVT_PEND has its reset value. -/
theorem reset_pends {e : Nat} (he : e < 128) : State.reset.pends e = false := by
  have hblock : e / 32 = 0 ∨ e / 32 = 1 ∨ e / 32 = 2 ∨ e / 32 = 3 := by omega
  have hreset : State.reset.rd (EVT_PEND (e / 32)) = 0 := by
    obtain h | h | h | h := hblock <;> rw [h] <;> decide
  rw [State.pends, State.bit, hreset]
  simp [bitOf]

/-- Settles O58: the reset state lists no register, no byte and no core, and the rest of it is its definition. -/
theorem resetState : Obligations.ResetState :=
  ⟨fun _ => rfl, rfl, rfl, rfl, rfl, rfl, rfl, rfl, rfl, rfl, rfl, rfl, rfl, rfl, rfl, rfl, rfl, rfl, fun _ => rfl, fun _ => reset_pends, rfl⟩

end Sys2Proof.Machine
end

section
/-! SUPPORT. Statements that fail for the stacks of the Fuller cores: a command answered by `done` keeps the stacks of the state before it, so it does not
answer an unchanged state where a core is listed twice, nor does it store stacks that it has been given. -/

namespace Sys2Proof.Machine

/-! ## A core that is listed twice -/

/-- A map of cores that lists core 0 twice, the second time with a return address. -/
def listedTwice : Sparse Core := [(0, coreInit), (0, { coreInit with calls := [0] })]

/-- The stacks of the second entry are not kept: the search finds the first. -/
theorem keepStacks_listedTwice : listedTwice.map (keepStacks listedTwice) ≠ listedTwice := by
  intro h
  exact absurd (congrArg (fun m => m.map fun p => p.2.calls.length) h) (by decide)

/-- So `done` does not answer the state that it is given. -/
theorem done_listedTwice {s : State} (h : s.cores = listedTwice) : done s s ≠ .next s := by
  intro hdone
  have hstate := Host.Outcome.next.inj hdone
  have hcores : s.cores.map (keepStacks s.cores) = s.cores := (congrArg State.cores hstate :)
  rw [h] at hcores
  exact keepStacks_listedTwice hcores

/-- A module in Nap with no wake source enabled, its cores listed as above. -/
def napState : State := { State.reset with sys := { resetSys with phase := .nap }, cores := listedTwice }

/-- Refutes O54: in Nap a wake source that is not enabled starts nothing, but the answer keeps the stacks of the cores, and with core 0 listed twice that is
not the state itself. -/
theorem not_napAndWake : ¬ Obligations.NapAndWake := by
  intro h
  obtain ⟨-, -, -, -, hignored, -⟩ := h napState 4 9
  exact done_listedTwice (s := napState) rfl (hignored rfl (.inl rfl))

/-- A module with a MARCH that is not in a hold, its cores listed as above. -/
def marchState (m : MarchWork) : State := { State.reset with mem := { resetMem with march := some m }, cores := listedTwice }

/-- A MARCH at its beginning. -/
def freshMarch : MarchWork :=
  { slot := 0, retention := false, groups := 0, bank := 0, lastBank := 0, step := 0, element := 0, holding := false, hold := 0, holdLeft := 0,
    progress := 0, fails := [], found := 0, repaired := 0, unrepaired := 0, records := [], startTick := 0 }

/-- Refutes O42: the end of a hold that no MARCH is in changes nothing, but the answer keeps the stacks of the cores, and with core 0 listed twice that is
not the state itself. -/
theorem not_memoryMarch : ¬ Obligations.MemoryMarch := by
  intro h
  obtain ⟨-, -, -, hidle, -⟩ := h (marchState freshMarch) 0 [] freshMarch
  exact done_listedTwice (s := marchState freshMarch) rfl (hidle rfl (.inl rfl))

/-! ## Stacks that a state copy carries -/

/-- A state copy whose core 0 has a call on its stack, and one byte of DRAM. -/
def callCopy : StateCopy :=
  { tick := 0, session := 0, acc := 0, exe := 0, records := [], dram := [(0, 9)], pool := [], cores := [(0, { coreInit with calls := [0] })],
    canopy := resetCanopy, graph := resetGraph, ports := [], streams := [], regs := [], mib := 0 }

/-- A twin that resynchronises, its cores at reset. -/
def resyncState : State := { State.reset with twn := { resetTwn with role := .resyncing, linkUp := true } }

/-- Refutes O46: the delta gives core 0 a return address, but the answer leaves it the stack that it had before, which is empty. -/
theorem not_twinRolesAndResync : ¬ Obligations.TwinRolesAndResync := by
  intro h
  obtain ⟨-, -, -, -, -, -, -, -, -, -, -, -, -, -, hdelta, -⟩ := h resyncState 0 0 State.reset.subEntry default callCopy 0
  obtain ⟨t, hexec, -, -, hcores, -⟩ := hdelta rfl rfl (by decide) rfl rfl rfl
  have hkept : t.cores = [(0, coreInit)] := by
    cases Host.Outcome.next.inj hexec
    rfl
  rw [hkept] at hcores
  exact absurd (congrArg (fun m => m.map fun p => p.2.calls.length) hcores) (by decide)

end Sys2Proof.Machine
end

section
/-! SUPPORT. The canonical form of the byte memories (pool, DRAM, reserve store) under every operation of the model, and so under every step. -/

namespace Sys2Proof.Machine

/-! ## What keeps the form -/

section
variable {s t : State}

theorem memOk_iff : memOk s = true ↔ Memory.wf s.mem.pool = true ∧ Memory.wf s.dram.mem = true ∧ Memory.wf s.hwd.mram = true := by
  simp [memOk, and_assoc]
theorem poolOk (h : memOk s = true) : Memory.wf s.mem.pool = true := (memOk_iff.mp h).1
theorem dramOk (h : memOk s = true) : Memory.wf s.dram.mem = true := (memOk_iff.mp h).2.1
theorem mramOk (h : memOk s = true) : Memory.wf s.hwd.mram = true := (memOk_iff.mp h).2.2

/-- The three memories are all that the form speaks of. -/
theorem memOk_of_same (hpool : t.mem.pool = s.mem.pool) (hdram : t.dram.mem = s.dram.mem) (hmram : t.hwd.mram = s.hwd.mram) (h : memOk s = true) :
    memOk t = true := by
  rw [memOk, hpool, hdram, hmram]
  exact h
theorem memOk_pool {m : MemSt} (hm : Memory.wf m.pool = true) (h : memOk s = true) : memOk { s with mem := m } = true :=
  memOk_iff.mpr ⟨hm, (dramOk h :), (mramOk h :)⟩
theorem memOk_dram {d : DramSt} (hd : Memory.wf d.mem = true) (h : memOk s = true) : memOk { s with dram := d } = true :=
  memOk_iff.mpr ⟨(poolOk h :), hd, (mramOk h :)⟩
theorem memOk_hwd {d : HwdSt} (hd : Memory.wf d.mram = true) (h : memOk s = true) : memOk { s with hwd := d } = true :=
  memOk_iff.mpr ⟨(poolOk h :), (dramOk h :), hd⟩

/-- An update of the other parts. -/
theorem eta_memOk {pending fit regs out free sys jobs ledger img graph canopy cores ports clk net tim pps trk twn prv prs pwd mon} (h : memOk s = true) :
    memOk (State.mk pending fit regs out free sys jobs ledger img graph canopy cores ports clk net tim pps s.dram s.mem trk twn s.hwd prv prs pwd mon)
      = true := h
/-- An update of the DRAM's other fields. -/
theorem etaDram_memOk {pending fit regs out free sys jobs ledger img graph canopy cores ports clk net tim pps trk twn prv prs pwd mon
    poison ch0 ch1 frozen ranksW ret selfRefresh time} (h : memOk s = true) :
    memOk (State.mk pending fit regs out free sys jobs ledger img graph canopy cores ports clk net tim pps
      (DramSt.mk s.dram.mem poison ch0 ch1 frozen ranksW ret selfRefresh time) s.mem trk twn s.hwd prv prs pwd mon) = true := h

theorem ite_memOk {c : Prop} [Decidable c] (hs : memOk s = true) (ht : memOk t = true) : memOk (if c then s else t) = true := by
  split
  · exact hs
  · exact ht
/-- The state of an answer with a value. -/
theorem pair_memOk {β : Type} {x : β} (h : memOk s = true) : memOk (s, x).1 = true := h
theorem ite_fst_memOk {β : Type} {c : Prop} [Decidable c] {p q : State × β} (hp : memOk p.1 = true) (hq : memOk q.1 = true) :
    memOk (if c then p else q).1 = true := by
  split
  · exact hp
  · exact hq

/-- A fold keeps the form of the state it carries where each of its steps does. -/
theorem foldS_of_memOk {σ α : Type} (g : σ → State) {f : σ → α → σ} {p : σ} {l : List α}
    (hf : ∀ q a, memOk (g q) = true → memOk (g (f q a)) = true) (h : memOk (g p) = true) : memOk (g (foldS f p l)) = true := by
  induction l generalizing p with
  | nil => exact h
  | cons x xs ih => exact ih (hf p x h)
theorem foldS_memOk {α : Type} {f : State → α → State} {l : List α} (hf : ∀ t a, memOk t = true → memOk (f t a) = true) (h : memOk s = true) :
    memOk (foldS f s l) = true := foldS_of_memOk id hf h
theorem foldS_fst_memOk {α β : Type} {f : State × β → α → State × β} {p : State × β} {l : List α}
    (hf : ∀ q a, memOk q.1 = true → memOk (f q a).1 = true) (h : memOk p.1 = true) : memOk (foldS f p l).1 = true := foldS_of_memOk Prod.fst hf h
theorem timesN_memOk {f : State → State} {n : Nat} (hf : ∀ t, memOk t = true → memOk (f t) = true) (h : memOk s = true) :
    memOk (timesN f n s) = true := by
  induction n generalizing s with
  | zero => exact h
  | succ n ih => exact ih (hf s h)

/-- The state that an outcome answers has its memories in canonical form. -/
def AnswersOk (o : Host.Outcome State Fault Refusal) : Prop := ∀ u, o = .next u → memOk u = true
theorem done_memOk (h : memOk t = true) : AnswersOk (done s t) := by
  intro u hu
  cases hu
  exact h
theorem doneCore_memOk (h : memOk t = true) : AnswersOk (doneCore s t) := by
  intro u hu
  cases hu
  exact h

theorem coreDoes_memOk {k : Fin 64} {i : Instr} {g : State → State} (hg : ∀ t, memOk t = true → memOk (g t) = true) (h : memOk s = true) :
    AnswersOk (coreDoes k i g s) := by
  intro u hu
  cases hu
  show memOk (if s.due k = i then g s else s) = true
  exact ite_memOk (hg s h) h

/-! A write with an effect of its own answers a state or none. -/

theorem none_memOk : ∀ u ∈ (none : Option State), memOk u = true := fun _ h => absurd h (by simp)
theorem some_memOk (h : memOk s = true) : ∀ u ∈ some s, memOk u = true := by
  intro u hu
  obtain rfl := Option.some.inj hu
  exact h
theorem ite_opt_memOk {c : Prop} [Decidable c] {p q : Option State} (hp : ∀ u ∈ p, memOk u = true) (hq : ∀ u ∈ q, memOk u = true) :
    ∀ u ∈ (if c then p else q), memOk u = true := by
  split
  · exact hp
  · exact hq

end

/-! ## The operations, in the order of the model -/

theorem emit_memOk {s : State} {o : Out} (h : memOk s = true) : memOk (s.emit o) = true := by
  unfold State.emit
  exact eta_memOk h
theorem drawn_memOk {s : State} (h : memOk s = true) : memOk (s.drawn) = true := by
  unfold State.drawn
  exact eta_memOk h
theorem when_memOk {s : State} {c : Bool} {f : State → State} (hf : ∀ t, memOk t = true → memOk (f t) = true) (h : memOk s = true) :
    memOk (s.when c f) = true := ite_memOk (hf s h) h
theorem wr_memOk {s : State} {a : Nat} {v : W32} (h : memOk s = true) : memOk (s.wr a v) = true := by
  unfold State.wr
  exact eta_memOk h
theorem wrF_memOk {s : State} {a : Nat} {hi : Nat} {lo : Nat} {n : Nat} (h : memOk s = true) : memOk (s.wrF a hi lo n) = true := by
  unfold State.wrF
  exact wr_memOk h
theorem flag_memOk {s : State} {a : Nat} {i : Nat} (h : memOk s = true) : memOk (s.flag a i) = true := by
  unfold State.flag
  exact wr_memOk h
theorem unflag_memOk {s : State} {a : Nat} {i : Nat} (h : memOk s = true) : memOk (s.unflag a i) = true := by
  unfold State.unflag
  exact wr_memOk h
theorem count_memOk {s : State} {a : Nat} {n : Nat} (h : memOk s = true) : memOk (s.count a n) = true := by
  unfold State.count
  exact wr_memOk h
theorem unwr_memOk {s : State} {a : Nat} (h : memOk s = true) : memOk (s.unwr a) = true := by
  unfold State.unwr
  exact eta_memOk h
theorem record_memOk {s : State} {kind : Nat} {line : List Byte} (h : memOk s = true) : memOk (s.record kind line) = true := by
  unfold State.record
  exact ite_memOk (ite_memOk (eta_memOk h) (flag_memOk (count_memOk (eta_memOk h)))) h
theorem byHost_memOk {s : State} {f : State → State} (hf : ∀ t, memOk t = true → memOk (f t) = true) (h : memOk s = true) :
    memOk (s.byHost f) = true := ite_memOk (hf s h) h
theorem vector_memOk {s : State} {v : Nat} (h : memOk s = true) : memOk (s.vector v) = true := by
  unfold State.vector
  exact ite_memOk (ite_memOk (eta_memOk h) (emit_memOk h)) h
theorem pend_memOk {s : State} {e : Nat} (h : memOk s = true) : memOk (s.pend e) = true := by
  unfold State.pend
  exact ite_memOk (when_memOk (fun _ ht => vector_memOk ht) (when_memOk (fun _ ht => vector_memOk ht) (count_memOk (wr_memOk (wr_memOk (flag_memOk h)))))) h
theorem recEvent_memOk {s : State} {e : Nat} (h : memOk s = true) : memOk (s.recEvent e) = true := by
  unfold State.recEvent
  exact ite_memOk (record_memOk h) h
theorem raiseDrop_memOk {s : State} {before : Nat} (h : memOk s = true) : memOk (s.raiseDrop before) = true := by
  unfold State.raiseDrop
  exact ite_memOk h (ite_memOk h (recEvent_memOk (pend_memOk (eta_memOk h))))
theorem raise_memOk {s : State} {e : Nat} (h : memOk s = true) : memOk (s.raise e) = true := by
  unfold State.raise
  exact ite_memOk (eta_memOk h) (raiseDrop_memOk (recEvent_memOk (pend_memOk h)))
theorem raiseOnce_memOk {s : State} {e : Nat} (h : memOk s = true) : memOk (s.raiseOnce e) = true := by
  unfold State.raiseOnce
  exact ite_memOk h (raise_memOk (eta_memOk h))
theorem flagRaise_memOk {s : State} {a : Nat} {i : Nat} {e : Nat} (h : memOk s = true) : memOk (s.flagRaise a i e) = true := by
  unfold State.flagRaise
  exact raise_memOk (flag_memOk h)
theorem trace_memOk {s : State} {kind : Nat} {line : List Byte} (h : memOk s = true) : memOk (s.trace kind line) = true := by
  unfold State.trace
  exact raiseDrop_memOk (record_memOk h)
theorem deny_memOk {s : State} {cls : Nat} {path : Nat} {addr : Nat} (h : memOk s = true) : memOk (s.deny cls path addr) = true := by
  unfold State.deny
  exact raiseOnce_memOk (wr_memOk (flag_memOk (count_memOk h)))
theorem lockViol_memOk {s : State} {b : Block} (h : memOk s = true) : memOk (s.lockViol b) = true := by
  unfold State.lockViol
  exact flagRaise_memOk h
theorem cfgIgnored_memOk {s : State} {b : Block} (h : memOk s = true) : memOk (s.cfgIgnored b) = true := by
  unfold State.cfgIgnored
  exact flagRaise_memOk h
theorem declareFaulty_memOk {s : State} (h : memOk s = true) : memOk (s.declareFaulty) = true := by
  unfold State.declareFaulty
  exact eta_memOk h
theorem poolWr_memOk {s : State} {a : Nat} {bs : List Byte} (h : memOk s = true) : memOk (s.poolWr a bs) = true :=
  memOk_pool (memWrite_wf _ _ _ (poolOk h)) h
theorem poolWrW_memOk {s : State} {a : Nat} {w : W32} (h : memOk s = true) : memOk (s.poolWrW a w) = true := by
  unfold State.poolWrW
  exact poolWr_memOk h
theorem resultClear_memOk {s : State} {slot : Nat} (h : memOk s = true) : memOk (s.resultClear slot) = true :=
  memOk_pool (memClear_wf _ _ _ (poolOk h)) h
theorem resultWrite_memOk {s : State} {slot : Nat} {ws : List W32} (h : memOk s = true) : memOk (s.resultWrite slot ws) = true := by
  unfold State.resultWrite
  exact poolWrW_memOk (poolWr_memOk h)
theorem resultMore_memOk {s : State} {slot : Nat} {k : Nat} {ws : List W32} (h : memOk s = true) : memOk (s.resultMore slot k ws) = true := by
  unfold State.resultMore
  exact poolWrW_memOk (poolWr_memOk h)
theorem setCore_memOk {s : State} {k : Nat} {c : Core} (h : memOk s = true) : memOk (s.setCore k c) = true := by
  unfold State.setCore
  exact eta_memOk h
theorem putCore_memOk {s : State} {k : Nat} {c : Core} (h : memOk s = true) : memOk (s.putCore k c) = true := by
  unfold State.putCore
  exact count_memOk (setCore_memOk h)
theorem stepP_memOk {k : Nat} {f : PArgs} {keep : List Nat} {ar : Core → Core} {s : State} (h : memOk s = true) : memOk (stepP k f keep ar s) = true := by
  unfold stepP
  exact ite_memOk (putCore_memOk h) h
theorem stepC_memOk {k : Nat} {cost : Core → Nat} {g : Core → Core} {s : State} (h : memOk s = true) : memOk (stepC k cost g s) = true := by
  unfold stepC
  exact ite_memOk (putCore_memOk h) h
theorem stepSel_memOk {k : Nat} {g : Core → Core} {s : State} (h : memOk s = true) : memOk (stepSel k g s) = true := by
  unfold stepSel
  exact ite_memOk (putCore_memOk h) h
theorem outOfStep_memOk {s : State} {cause : Nat} (h : memOk s = true) : memOk (s.outOfStep cause) = true := by
  unfold State.outOfStep
  split
  · exact emit_memOk (flagRaise_memOk (count_memOk (eta_memOk h)))
  · exact h
theorem twinFault_memOk {s : State} (h : memOk s = true) : memOk (s.twinFault) = true := by
  unfold State.twinFault
  split
  · exact outOfStep_memOk (eta_memOk h)
  · exact eta_memOk h
  · exact h
theorem partnerOut_memOk {s : State} (h : memOk s = true) : memOk (s.partnerOut) = true := by
  unfold State.partnerOut
  exact ite_memOk (flagRaise_memOk (eta_memOk h)) h
theorem mixOutput_memOk {s : State} {n : Sparse Nat} {sums : Sparse (List Int)} {r : Sparse (List Int) × State} {o : Nat} (h : memOk r.2 = true) :
    memOk (mixOutput s n sums r o).2 = true := by
  unfold mixOutput
  exact ite_memOk (eta_memOk h) (eta_memOk (wr_memOk (wr_memOk (flag_memOk (count_memOk (eta_memOk h))))))
theorem canopyMix_memOk {s : State} {x y : Sparse (List Int)} (h : memOk s = true) : memOk (s.canopyMix x y) = true := by
  unfold State.canopyMix
  exact eta_memOk (foldS_of_memOk Prod.snd (fun _ _ hr => mixOutput_memOk hr) (eta_memOk h))
theorem mixEnd_memOk {s : State} (h : memOk s = true) : memOk (s.mixEnd) = true := by
  unfold State.mixEnd
  exact eta_memOk h
theorem detSet_memOk {s : State} {v : W32} (h : memOk s = true) : memOk (s.detSet v) = true := by
  unfold State.detSet
  exact ite_memOk (flag_memOk h) (eta_memOk h)
theorem sclSet_memOk {s : State} {v : W32} (h : memOk s = true) : memOk (s.sclSet v) = true := by
  unfold State.sclSet
  exact ite_memOk (flag_memOk h) (eta_memOk h)
theorem gainWrite_memOk {s : State} {key : Nat} {w : W16} (h : memOk s = true) : memOk (s.gainWrite key w) = true := by
  unfold State.gainWrite
  exact ite_memOk (count_memOk (flag_memOk h)) (eta_memOk h)
theorem gainHostWrite_memOk {s : State} {off : Nat} {width : Width} {v : W32} (h : memOk s = true) : memOk (s.gainHostWrite off width v) = true := by
  unfold State.gainHostWrite
  split
  · exact gainWrite_memOk h
  · exact gainWrite_memOk h
  · exact gainWrite_memOk (gainWrite_memOk h)
theorem gainCollided_memOk {s : State} (h : memOk s = true) : memOk (s.gainCollided) = true := by
  unfold State.gainCollided
  exact flagRaise_memOk (count_memOk h)
theorem tileGating_memOk {s : State} (h : memOk s = true) : memOk (s.tileGating) = true := by
  unfold State.tileGating
  exact eta_memOk h
theorem gainUe_memOk {s : State} {e : GainEcc} {cnpBit : Nat} (h : memOk s = true) : memOk (s.gainUe e cnpBit) = true := by
  unfold State.gainUe
  exact twinFault_memOk (flagRaise_memOk (wr_memOk (wr_memOk (flag_memOk (count_memOk (count_memOk h))))))
theorem gainEcc_memOk {s : State} {e : GainEcc} (h : memOk s = true) : memOk (s.gainEcc e) = true := by
  unfold State.gainEcc
  refine ite_memOk (gainUe_memOk (eta_memOk h)) ?_
  split
  · exact wr_memOk (flag_memOk (count_memOk (count_memOk h)))
  · exact gainUe_memOk (ite_memOk (eta_memOk h) (eta_memOk h))
theorem gainScrub_memOk {s : State} (h : memOk s = true) : memOk (s.gainScrub) = true := by
  unfold State.gainScrub
  exact ite_memOk (eta_memOk h) h
theorem setSlot_memOk {s : State} {k : Nat} {j : JobSlot} (h : memOk s = true) : memOk (s.setSlot k j) = true := by
  unfold State.setSlot
  exact eta_memOk h
theorem modSlot_memOk {s : State} {k : Nat} {f : JobSlot → JobSlot} (h : memOk s = true) : memOk (s.modSlot k f) = true := by
  unfold State.modSlot
  exact setSlot_memOk h
theorem jobBegin_memOk {s : State} {k : Nat} (h : memOk s = true) : memOk (s.jobBegin k) = true := by
  unfold State.jobBegin
  exact resultClear_memOk (modSlot_memOk h)
theorem jobTryBegin_memOk {s : State} {k : Nat} (h : memOk s = true) : memOk (s.jobTryBegin k) = true := by
  unfold State.jobTryBegin
  exact ite_memOk (jobBegin_memOk h) h
theorem jobEnd_memOk {s : State} {k : Nat} {err : Nat} (h : memOk s = true) : memOk (s.jobEnd k err) = true := by
  unfold State.jobEnd
  exact modSlot_memOk h
theorem jobAborted_memOk {s : State} {k : Nat} (h : memOk s = true) : memOk (s.jobAborted k) = true := by
  unfold State.jobAborted
  exact modSlot_memOk h
theorem imgFailed_memOk {s : State} {place : Nat} {code : Nat} {sec : Nat} (h : memOk s = true) : memOk (s.imgFailed place code sec) = true := by
  unfold State.imgFailed
  exact count_memOk (wr_memOk (flag_memOk h))
theorem jobFin_memOk {s : State} {k : Nat} {err : Nat} (h : memOk s = true) : memOk (s.jobFin k err) = true := by
  unfold State.jobFin
  exact modSlot_memOk h
theorem jobProgress_memOk {s : State} {k : Nat} {n : Nat} (h : memOk s = true) : memOk (s.jobProgress k n) = true := by
  unfold State.jobProgress
  exact modSlot_memOk h
theorem sceneClose_memOk {s : State} {k : Nat} (h : memOk s = true) : memOk (s.sceneClose k) = true := by
  unfold State.sceneClose
  split
  · exact ite_memOk (resultWrite_memOk (eta_memOk h)) (resultWrite_memOk h)
  · exact resultWrite_memOk h
theorem imgDropped_memOk {s : State} {k : Nat} {code : Nat} (h : memOk s = true) : memOk (s.imgDropped k code) = true := by
  unfold State.imgDropped
  exact resultMore_memOk (imgFailed_memOk (ite_memOk h (resultClear_memOk h)))
theorem unrunWords_memOk {s : State} {k : Nat} {code : Nat} (h : memOk s = true) : memOk (s.unrunWords k code) = true := by
  unfold State.unrunWords
  exact ite_memOk (ite_memOk (resultMore_memOk (resultClear_memOk h)) (imgDropped_memOk h)) (ite_memOk (resultWrite_memOk (resultClear_memOk h)) h)
theorem jobFrozen_memOk {s : State} {k : Nat} (h : memOk s = true) : memOk (s.jobFrozen k) = true := by
  unfold State.jobFrozen
  exact jobEnd_memOk (ite_memOk (sceneClose_memOk h) (ite_memOk (imgDropped_memOk h) h))
theorem unmappedAt_memOk {s : State} {addr : Nat} (h : memOk s = true) : memOk (s.unmappedAt addr) = true := by
  unfold State.unmappedAt
  exact raise_memOk (wr_memOk (flag_memOk h))
theorem answer_memOk {s : State} {v : W32} (h : memOk s = true) : memOk (s.answer v) = true := by
  unfold State.answer
  exact emit_memOk h
theorem setChan_memOk {s : State} {c : Nat} {x : Channel} (h : memOk s = true) : memOk (s.setChan c x) = true := by
  refine memOk_dram ?_ h
  split
  · exact (dramOk h :)
  · exact (dramOk h :)
theorem modChan_memOk {s : State} {c : Nat} {f : Channel → Channel} (h : memOk s = true) : memOk (s.modChan c f) = true := by
  unfold State.modChan
  exact setChan_memOk h
theorem hist_memOk {s : State} {ch : Nat} {cmd : Nat} {rank : Nat} {bg : Nat} {bank : Nat} {master : Nat} {addr : Nat} {alert : Bool} (h : memOk s = true) : memOk (s.hist ch cmd rank bg bank master addr alert) = true := by
  unfold State.hist
  exact ite_memOk h (modChan_memOk h)
theorem errAt_memOk {s : State} {ch : Nat} {kind : Nat} {synd : Nat} {word : Nat} {master : Nat} {rank : Nat} {c : Nat} {a : Nat} (h : memOk s = true) : memOk (s.errAt ch kind synd word master rank c a) = true := by
  unfold State.errAt
  exact ite_memOk h (ite_memOk h (wr_memOk (wr_memOk (wr_memOk (wr_memOk h)))))
theorem errRec_memOk {s : State} {ch : Nat} {kind : Nat} {synd : Nat} {word : Nat} {master : Nat} {rank : Nat} {a : Nat} (h : memOk s = true) : memOk (s.errRec ch kind synd word master rank a) = true := by
  unfold State.errRec
  exact errAt_memOk h
theorem migStart_memOk {s : State} {ch : Nat} {source : Nat} {cause : Nat} {slot : Option Nat} (h : memOk s = true) : memOk (s.migStart ch source cause slot) = true := by
  unfold State.migStart
  split
  · exact h
  · exact flagRaise_memOk (setChan_memOk h)
theorem migAuto_memOk {s : State} {ch : Nat} {rank : Nat} {cause : Nat} (h : memOk s = true) : memOk (s.migAuto ch rank cause) = true := by
  unfold State.migAuto
  exact ite_memOk (migStart_memOk h) h
theorem migAbandon_memOk {s : State} {ch : Nat} {failed : Bool} (h : memOk s = true) : memOk (s.migAbandon ch failed) = true := by
  unfold State.migAbandon
  split
  · exact h
  · dsimp only
    split
    · exact ite_memOk (jobEnd_memOk (resultWrite_memOk (flagRaise_memOk (setChan_memOk h)))) (resultWrite_memOk (flagRaise_memOk (setChan_memOk h)))
    · exact flagRaise_memOk (setChan_memOk h)
theorem dramFreeze_memOk {s : State} (h : memOk s = true) : memOk (s.dramFreeze) = true := by
  unfold State.dramFreeze
  exact ite_memOk h (twinFault_memOk (when_memOk (fun _ ht => declareFaulty_memOk ht) (raise_memOk (eta_memOk (ite_memOk (eta_memOk (foldS_memOk (fun _ _ ht => ite_memOk (jobFrozen_memOk ht) ht) (etaDram_memOk (migAbandon_memOk (migAbandon_memOk h))))) (foldS_memOk (fun _ _ ht => ite_memOk (jobFrozen_memOk ht) ht) (etaDram_memOk (migAbandon_memOk (migAbandon_memOk h)))))))))
theorem dramOutcome_memOk {s : State} {ch : Nat} {rank : Nat} {cause : Nat} {isWord : Bool} (h : memOk s = true) : memOk (s.dramOutcome ch rank cause isWord) = true := by
  unfold State.dramOutcome
  refine ite_memOk ?_ (dramFreeze_memOk h)
  split
  · exact ite_memOk (dramFreeze_memOk (migAbandon_memOk h)) (ite_memOk h (dramFreeze_memOk h))
  · exact ite_memOk (migAuto_memOk h) (dramFreeze_memOk h)
theorem poisonWord_memOk {s : State} {a : Nat} (h : memOk s = true) : memOk (s.poisonWord a) = true :=
  memOk_dram (memClear_wf _ _ _ (dramOk h)) h
theorem dramCe_memOk {s : State} {synd : Byte} {master : Nat} {a : Nat} (h : memOk s = true) : memOk (s.dramCe synd master a) = true := by
  unfold State.dramCe
  exact ite_memOk (ite_memOk (migAuto_memOk (flagRaise_memOk (errRec_memOk (count_memOk h)))) (flagRaise_memOk (errRec_memOk (count_memOk h)))) (errRec_memOk (count_memOk h))
theorem dramPoisonRead_memOk {s : State} {master : Nat} {a : Nat} {rt : Bool} (h : memOk s = true) : memOk (s.dramPoisonRead master a rt) = true := by
  unfold State.dramPoisonRead
  exact when_memOk (fun _ ht => twinFault_memOk ht) (raiseOnce_memOk (flag_memOk (count_memOk (errRec_memOk h))))
theorem dramUe_memOk {s : State} {synd : Byte} {master : Nat} {a : Nat} (h : memOk s = true) : memOk (s.dramUe synd master a) = true := by
  unfold State.dramUe
  exact dramOutcome_memOk (flagRaise_memOk (count_memOk (poisonWord_memOk (errRec_memOk h))))
theorem dramWordRead_memOk {s : State} {a : Nat} {master : Nat} {rt : Bool} {f : DramFound} (h : memOk s = true) : memOk (s.dramWordRead a master rt f) = true := by
  unfold State.dramWordRead
  refine ite_memOk h ?_
  refine ite_memOk (dramPoisonRead_memOk h) ?_
  split
  · exact h
  · exact dramCe_memOk h
  · exact ite_memOk (dramPoisonRead_memOk (poisonWord_memOk h)) (dramUe_memOk h)
theorem hammerTreat_memOk {s : State} {ch : Nat} {rank : Nat} {bg : Nat} {bank : Nat} {row : Nat} {masters : Sparse Nat} (h : memOk s = true) : memOk (s.hammerTreat ch rank bg bank row masters) = true := by
  unfold State.hammerTreat
  exact flagRaise_memOk (count_memOk (wr_memOk (modChan_memOk h)))
theorem hammerCheck_memOk {s : State} {ch : Nat} {rank : Nat} {bg : Nat} {bank : Nat} {row : Nat} (h : memOk s = true) : memOk (s.hammerCheck ch rank bg bank row) = true := by
  unfold State.hammerCheck
  split
  · exact ite_memOk (hammerTreat_memOk h) h
  · exact h
theorem activate_memOk {s : State} {ch : Nat} {rank : Nat} {bg : Nat} {bank : Nat} {row : Nat} {master : Nat} (h : memOk s = true) : memOk (s.activate ch rank bg bank row master) = true := by
  unfold State.activate
  exact hammerCheck_memOk (modChan_memOk (hist_memOk h))
theorem lineCmd_memOk {s : State} {a : Nat} {cmd : Nat} {master : Nat} (h : memOk s = true) : memOk (s.lineCmd a cmd master) = true := by
  unfold State.lineCmd
  exact hist_memOk (when_memOk (fun _ ht => activate_memOk ht) (drawn_memOk h))
theorem storeBytes_wf (m : Sparse Byte) (a : Nat) (bs : List (Option Byte)) (h : Memory.wf m = true) : Memory.wf (storeBytes m a bs) = true := by
  induction bs generalizing m a with
  | nil => exact h
  | cons b bs ih =>
    cases b with
    | none => exact ih _ _ h
    | some b => exact ih _ _ (spCanon_spSet (fun _ => (0 : Byte)) m a b h)
theorem issueWord_memOk {s : State} {line master : Nat} {bs : List (Option Byte)} {found : List DramFound} {w : Nat} (h : memOk s = true) :
    memOk (s.issueWord line master bs found w) = true := by
  unfold State.issueWord
  have hread := dramWordRead_memOk (a := line + 8 * w) (master := master) (rt := false) (f := nth .clean found w) h
  refine ite_memOk h (ite_memOk ?_ (ite_memOk hread ?_))
  · exact memOk_dram (storeBytes_wf _ _ _ (dramOk h)) h
  · exact memOk_dram (storeBytes_wf _ _ _ (dramOk hread)) hread
theorem issueEntry_memOk {s : State} {e : WqEntry} {found : List DramFound} (h : memOk s = true) : memOk (s.issueEntry e found) = true := by
  unfold State.issueEntry
  exact foldS_memOk (fun _ _ ht => issueWord_memOk ht) (lineCmd_memOk (ite_memOk (lineCmd_memOk h) h))
theorem issueOldest_memOk {s : State} {ch : Nat} {found : List DramFound} (h : memOk s = true) : memOk (s.issueOldest ch found) = true := by
  unfold State.issueOldest
  refine ite_memOk h ?_
  split
  · exact h
  · exact issueEntry_memOk (modChan_memOk h)
theorem lineWrite_memOk {s : State} {line : Nat} {bs : List (Option Byte)} {rt : Bool} (h : memOk s = true) : memOk (s.lineWrite line bs rt) = true := by
  unfold State.lineWrite
  refine ite_memOk h ?_
  split
  · exact modChan_memOk h
  · exact ite_memOk (ite_memOk h (issueOldest_memOk h)) (modChan_memOk (ite_memOk h (issueOldest_memOk h)))
theorem lineRead_memOk {s : State} {a : Nat} {n : Nat} {master : Nat} {rt : Bool} {found : List DramFound} (h : memOk s = true) : memOk (s.lineRead a n master rt found).1 = true := by
  unfold State.lineRead
  refine ite_fst_memOk (pair_memOk h) ?_
  split
  · exact pair_memOk (foldS_fst_memOk (fun _ _ ht => pair_memOk (dramWordRead_memOk ht)) (pair_memOk (lineCmd_memOk h)))
  · exact ite_fst_memOk (pair_memOk (count_memOk h)) (pair_memOk (foldS_fst_memOk (fun _ _ ht => pair_memOk (dramWordRead_memOk ht)) (pair_memOk (lineCmd_memOk (count_memOk (issueEntry_memOk (modChan_memOk h)))))))
theorem rangeRead_memOk {s : State} {a n master : Nat} {rt : Bool} {found : List DramFound} (h : memOk s = true) :
    memOk (s.rangeRead a n master rt found).1 = true := by
  unfold State.rangeRead
  exact foldS_of_memOk (fun p : (State × List Byte) × List DramFound => p.1.1) (fun _ _ hp => lineRead_memOk hp) h
theorem rangeWrite_memOk {s : State} {a : Nat} {bs : List (Option Byte)} {rt : Bool} (h : memOk s = true) : memOk (s.rangeWrite a bs rt) = true := by
  unfold State.rangeWrite
  exact foldS_fst_memOk (fun _ _ ht => pair_memOk (lineWrite_memOk ht)) (pair_memOk h)
theorem engineRead_memOk {s : State} {a : Nat} {n : Nat} {master : Nat} {rt : Bool} (h : memOk s = true) : memOk (s.engineRead a n master rt).1 = true := by
  unfold State.engineRead
  exact ite_fst_memOk (pair_memOk h) (pair_memOk (foldS_memOk (fun _ _ ht => dramPoisonRead_memOk ht) h))
theorem memClears_wf (m : Sparse Byte) (ws : List Nat) (h : Memory.wf m = true) : Memory.wf (foldS (fun m w => memClear m (w * 8) 8) m ws) = true := by
  induction ws generalizing m with
  | nil => exact h
  | cons w ws ih => exact ih _ (memClear_wf _ _ _ h)
theorem engineWrite_memOk {s : State} {a : Nat} {bs : List Byte} (h : memOk s = true) : memOk (s.engineWrite a bs) = true := by
  unfold State.engineWrite
  exact ite_memOk h (memOk_dram (memClears_wf _ _ (memWrite_wf _ _ _ (dramOk h))) h)
theorem refreshIssue_memOk {s : State} {ch : Nat} {rank : Nat} {n : Nat} (h : memOk s = true) : memOk (s.refreshIssue ch rank n) = true := by
  unfold State.refreshIssue
  exact ite_memOk (timesN_memOk (fun _ ht => hist_memOk ht) h) (modChan_memOk (foldS_memOk (fun _ _ ht => hist_memOk (hist_memOk ht)) (timesN_memOk (fun _ ht => hist_memOk ht) h)))
theorem refreshForce_memOk {s : State} {ch : Nat} {rank : Nat} (h : memOk s = true) : memOk (s.refreshForce ch rank) = true := by
  unfold State.refreshForce
  exact count_memOk (modChan_memOk (refreshIssue_memOk h))
theorem intervalChange_memOk {s : State} {ch : Nat} {rank : Nat} (h : memOk s = true) : memOk (s.intervalChange ch rank) = true := by
  unfold State.intervalChange
  exact ite_memOk h (ite_memOk (flagRaise_memOk (count_memOk (modChan_memOk (refreshForce_memOk (flagRaise_memOk (setChan_memOk h)))))) (flagRaise_memOk (setChan_memOk h)))
theorem tempRead_memOk {s : State} {ch : Nat} {hot : List Bool} (h : memOk s = true) : memOk (s.tempRead ch hot) = true := by
  unfold State.tempRead
  exact foldS_memOk (fun _ _ ht => ite_memOk ht (modChan_memOk (hist_memOk ht))) (modChan_memOk h)
theorem zqCalibrate_memOk {s : State} {ch : Nat} (h : memOk s = true) : memOk (s.zqCalibrate ch) = true := by
  unfold State.zqCalibrate
  exact foldS_memOk (fun _ _ ht => ite_memOk (hist_memOk ht) ht) h
theorem retrain_memOk {s : State} {c : Nat} {k : Nat} {ok : Bool} {readWin : Nat} {writeWin : Nat} {lane : Nat} (h : memOk s = true) : memOk (s.retrain c k ok readWin writeWin lane) = true := by
  unfold State.retrain
  exact ite_memOk (modChan_memOk h) (ite_memOk (migAuto_memOk (flagRaise_memOk (count_memOk (modChan_memOk (modChan_memOk h))))) (flagRaise_memOk (count_memOk (modChan_memOk (modChan_memOk h)))))
theorem histCmd_memOk {s : State} {ch : Nat} {cmd : Nat} {rank : Nat} {master : Nat} {c : Nat} {alert : Bool} (h : memOk s = true) : memOk (s.histCmd ch cmd rank master c alert) = true := by
  unfold State.histCmd
  exact hist_memOk h
theorem hammerWindow_memOk {s : State} (h : memOk s = true) : memOk (s.hammerWindow) = true := by
  unfold State.hammerWindow
  exact etaDram_memOk h
theorem spareRead_memOk {s : State} {ch : Nat} {rank : Nat} {c : Nat} {word : Nat} {f : DramFound} (h : memOk s = true) : memOk (s.spareRead ch rank c word f) = true := by
  unfold State.spareRead
  refine ite_memOk h ?_
  split
  · exact h
  · exact ite_memOk (flagRaise_memOk (errAt_memOk (drawn_memOk (count_memOk h)))) (errAt_memOk (drawn_memOk (count_memOk h)))
  · refine ite_memOk (raiseOnce_memOk (flag_memOk (count_memOk (errAt_memOk (drawn_memOk h))))) ?_
    dsimp only
    split
    · exact dramOutcome_memOk (flagRaise_memOk (count_memOk (errAt_memOk (drawn_memOk h))))
    · exact flagRaise_memOk (count_memOk (errAt_memOk (drawn_memOk h)))
theorem patrolLine_memOk {s : State} {ch : Nat} {found : List DramFound} (h : memOk s = true) : memOk (s.patrolLine ch found) = true := by
  unfold State.patrolLine
  refine ite_memOk h ?_
  dsimp only
  split
  · exact foldS_fst_memOk (fun _ _ ht => pair_memOk (dramWordRead_memOk ht)) (pair_memOk (lineCmd_memOk (modChan_memOk h)))
  · exact foldS_fst_memOk (fun _ _ ht => pair_memOk (spareRead_memOk ht)) (pair_memOk (modChan_memOk h))
theorem migCopied_memOk {s : State} {ch : Nat} {m : Migration} {n : Nat} {last : Bool} (h : memOk s = true) : memOk (s.migCopied ch m n last) = true := by
  unfold State.migCopied
  dsimp only
  split
  · exact jobProgress_memOk (count_memOk (modChan_memOk h))
  · exact count_memOk (modChan_memOk h)
theorem migComplete_memOk {s : State} {ch : Nat} {m0 : Migration} (h : memOk s = true) : memOk (s.migComplete ch m0) = true := by
  unfold State.migComplete
  dsimp only
  split
  · exact jobEnd_memOk (resultWrite_memOk (flagRaise_memOk (hist_memOk (setChan_memOk h))))
  · exact flagRaise_memOk (hist_memOk (setChan_memOk h))
theorem migrateAbort_memOk {s : State} {slot : Nat} (h : memOk s = true) : memOk (s.migrateAbort slot) = true := by
  unfold State.migrateAbort
  refine foldS_memOk ?_ h
  intro _ _ ht
  split
  · exact ite_memOk (migAbandon_memOk ht) ht
  · exact ht
theorem migTick_memOk {s : State} {ch : Nat} (h : memOk s = true) : memOk (s.migTick ch) = true := by
  unfold State.migTick
  split
  · exact ite_memOk h (migCopied_memOk (drawn_memOk h))
  · exact h
theorem migRemap_memOk {s : State} {ch : Nat} (h : memOk s = true) : memOk (s.migRemap ch) = true := by
  unfold State.migRemap
  split
  · exact ite_memOk (migComplete_memOk h) h
  · exact h
theorem chanTick_memOk {s : State} {ch : Nat} (h : memOk s = true) : memOk (s.chanTick ch) = true := by
  unfold State.chanTick
  exact modChan_memOk (ite_memOk (zqCalibrate_memOk h) h)
theorem dramTime_memOk {s : State} (h : memOk s = true) : memOk (s.dramTime) = true := by
  unfold State.dramTime
  exact migTick_memOk (migTick_memOk (etaDram_memOk (chanTick_memOk (chanTick_memOk h))))
theorem dramTick_memOk {s : State} (h : memOk s = true) : memOk (s.dramTick) = true := by
  unfold State.dramTick
  exact dramTime_memOk (when_memOk (fun _ ht => hammerWindow_memOk ht) (migRemap_memOk (migRemap_memOk h)))
theorem dramDetect_memOk {s : State} {r0 : List RankFound} {r1 : List RankFound} (h : memOk s = true) : memOk (s.dramDetect r0 r1) = true := by
  unfold State.dramDetect
  exact when_memOk (fun _ ht => raise_memOk ht) (when_memOk (fun _ ht => flag_memOk ht) (when_memOk (fun _ ht => flag_memOk ht) (wr_memOk (wr_memOk (etaDram_memOk h)))))
theorem lockout_memOk {s : State} {master : Nat} {target : Nat} {forced : Bool} {addr : Nat} (h : memOk s = true) : memOk (s.lockout master target forced addr) = true := by
  unfold State.lockout
  exact flagRaise_memOk (count_memOk (wr_memOk h))
theorem grant_memOk {s : State} {r : TrkReq} {found : List DramFound} (h : memOk s = true) : memOk (s.grant r found).1 = true := by
  unfold State.grant
  exact ite_fst_memOk (pair_memOk (rangeWrite_memOk (eta_memOk h))) (rangeRead_memOk (eta_memOk h))
theorem piece_memOk {s : State} {r : TrkReq} {found : List DramFound} (h : memOk s = true) : memOk (s.piece r found).1 = true := by
  unfold State.piece
  exact ite_fst_memOk (pair_memOk (eta_memOk h)) (grant_memOk h)
theorem drain_memOk {s : State} {target : Nat} (h : memOk s = true) : memOk (s.drain target) = true := by
  unfold State.drain
  refine timesN_memOk ?_ h
  intro _ ht
  split
  · exact ht
  · exact ite_memOk (grant_memOk (eta_memOk ht)) (emit_memOk (grant_memOk (eta_memOk ht)))
theorem burst_memOk {s : State} {master qos addr : Nat} {isWrite : Bool} {bytes : List (Option Byte)} {found : List DramFound} (h : memOk s = true) :
    memOk (s.burst master qos addr isWrite bytes found).1 = true := by
  unfold State.burst
  refine ite_fst_memOk h ?_
  exact foldS_of_memOk (fun p : (State × List Byte) × (List (Option Byte) × List DramFound) => p.1.1) (fun _ _ hp => piece_memOk hp)
    (when_memOk (fun _ ht => count_memOk ht) h)
theorem lockFree_memOk {s : State} (h : memOk s = true) : memOk (s.lockFree) = true := by
  unfold State.lockFree
  split
  · exact h
  · exact drain_memOk (eta_memOk h)
theorem lockForced_memOk {s : State} (h : memOk s = true) : memOk (s.lockForced) = true := by
  unfold State.lockForced
  split
  · exact h
  · exact lockFree_memOk (lockout_memOk h)
theorem lockMode_memOk {s : State} (h : memOk s = true) : memOk (s.lockMode) = true := by
  unfold State.lockMode
  exact ite_memOk (lockForced_memOk h) h
theorem lockRequest_memOk {s : State} {master : Nat} {target : Nat} {addr : Nat} (h : memOk s = true) : memOk (s.lockRequest master target addr) = true := by
  unfold State.lockRequest
  refine ite_memOk h ?_
  refine ite_memOk (lockout_memOk h) ?_
  split
  · exact h
  · exact eta_memOk h
theorem trkTimeout_memOk {s : State} {master : Nat} {target : Nat} {addr : Nat} (h : memOk s = true) : memOk (s.trkTimeout master target addr) = true := by
  unfold State.trkTimeout
  exact flagRaise_memOk (count_memOk (wr_memOk h))
theorem isolate_memOk {s : State} {master : Nat} {target : Nat} {addr : Nat} (h : memOk s = true) : memOk (s.isolate master target addr) = true := by
  unfold State.isolate
  refine flagRaise_memOk ?_
  refine count_memOk ?_
  refine wr_memOk ?_
  split
  · exact ite_memOk (lockFree_memOk (eta_memOk h)) (eta_memOk h)
  · exact eta_memOk h
theorem isolateWaiting_memOk {s : State} {master : Nat} (h : memOk s = true) : memOk (s.isolateWaiting master) = true := by
  unfold State.isolateWaiting
  split
  · exact isolate_memOk h
  · exact h
theorem loadEnd_memOk {s : State} {sums : List Nat} (h : memOk s = true) : memOk (s.loadEnd sums) = true := by
  unfold State.loadEnd
  exact when_memOk (fun _ ht => wr_memOk ht) (wr_memOk (foldS_memOk (fun _ _ ht => wr_memOk ht) h))
theorem trkTick_memOk {s : State} {load : List Nat} {bytes : Nat} (h : memOk s = true) : memOk (s.trkTick load bytes) = true := by
  unfold State.trkTick
  exact wr_memOk (drawn_memOk (wr_memOk (eta_memOk (when_memOk (fun _ ht => loadEnd_memOk ht) h))))
theorem apUnmapped_memOk {s : State} {addr : Nat} (h : memOk s = true) : memOk (s.apUnmapped addr) = true := by
  unfold State.apUnmapped
  exact flag_memOk (unmappedAt_memOk h)
theorem apWrite_memOk {s : State} {addr : Nat} {width : Width} {v : W32} (h : memOk s = true) : memOk (s.apWrite addr width v) = true := by
  rw [State.apWrite]
  exact ite_memOk (apUnmapped_memOk h) (ite_memOk h (ite_memOk (flag_memOk h) (ite_memOk (flag_memOk h) (burst_memOk h))))
theorem apRead_memOk {s : State} {addr : Nat} {width : Width} {found : DramFound} (h : memOk s = true) : memOk (s.apRead addr width found).1 = true := by
  rw [State.apRead]
  exact ite_fst_memOk (pair_memOk (apUnmapped_memOk h)) (ite_fst_memOk (pair_memOk h) (pair_memOk (burst_memOk h)))
theorem aperture_memOk {s : State} {addr : Nat} {isWrite : Bool} {width : Width} {v : W32} {found : DramFound} (h : memOk s = true) :
    memOk (s.aperture addr isWrite width v found) = true := by
  have hread := apRead_memOk (addr := addr) (width := width) (found := found) h
  rw [State.aperture]
  refine ite_memOk (apWrite_memOk h) ?_
  generalize s.apRead addr width found = r at hread
  obtain ⟨t, x⟩ := r
  cases x with
  | none => exact hread
  | some x => exact answer_memOk hread
theorem setSel_memOk {s : State} {k : Nat} {x : SelState} (h : memOk s = true) : memOk (s.setSel k x) = true := by
  unfold State.setSel
  exact eta_memOk h
theorem selEval_memOk {s : State} {k : Nat} {info : SelInfo} (h : memOk s = true) : memOk (s.selEval k info) = true := by
  unfold State.selEval
  exact ite_memOk (setSel_memOk h) (ite_memOk (setSel_memOk h) (wr_memOk (count_memOk (setSel_memOk h))))
theorem selEvalAll_memOk {s : State} (h : memOk s = true) : memOk (s.selEvalAll) = true := by
  unfold State.selEvalAll
  exact foldS_fst_memOk (fun _ _ ht => pair_memOk (ite_memOk (selEval_memOk ht) ht)) (pair_memOk h)
theorem selTick_memOk {s : State} (h : memOk s = true) : memOk (s.selTick) = true := by
  unfold State.selTick
  exact eta_memOk h
theorem selSwap_memOk {s : State} {early : Bool} (h : memOk s = true) : memOk (s.selSwap early) = true := by
  unfold State.selSwap
  exact eta_memOk h
theorem grfSelSet_memOk {s : State} {v : W32} (h : memOk s = true) : memOk (s.grfSelSet v) = true := by
  unfold State.grfSelSet
  dsimp only
  split
  · exact flag_memOk h
  · exact ite_memOk (flag_memOk h) (setSel_memOk h)
theorem grfPriSet_memOk {s : State} {v : W32} (h : memOk s = true) : memOk (s.grfPriSet v) = true := by
  unfold State.grfPriSet
  dsimp only
  split
  · exact flag_memOk h
  · exact ite_memOk (flag_memOk h) (eta_memOk h)
theorem setLine_memOk {s : State} {l : Nat} {x : LineState} (h : memOk s = true) : memOk (s.setLine l x) = true := by
  unfold State.setLine
  exact eta_memOk h
theorem rngFlag_memOk {s : State} {i : Nat} (h : memOk s = true) : memOk (s.rngFlag i) = true := by
  unfold State.rngFlag
  exact flagRaise_memOk h
theorem lineStep6_memOk {s : State} {l : Nat} (h : memOk s = true) : memOk (s.lineStep6 l) = true := by
  unfold State.lineStep6
  dsimp only
  split
  · exact when_memOk (fun _ ht => rngFlag_memOk ht) (setLine_memOk h)
  · split
    · exact h
    · exact when_memOk (fun _ ht => rngFlag_memOk ht) (setLine_memOk h)
theorem step6_memOk {s : State} (h : memOk s = true) : memOk (s.step6) = true := by
  unfold State.step6
  exact foldS_memOk (fun _ _ ht => lineStep6_memOk ht) h
theorem lineFades_memOk {s : State} (h : memOk s = true) : memOk (s.lineFades) = true := by
  unfold State.lineFades
  exact eta_memOk h
theorem rngDlySet_memOk {s : State} {v : W32} (h : memOk s = true) : memOk (s.rngDlySet v) = true := by
  unfold State.rngDlySet
  exact ite_memOk (rngFlag_memOk h) (setLine_memOk h)
theorem rngLenSet_memOk {s : State} {v : W32} (h : memOk s = true) : memOk (s.rngLenSet v) = true := by
  unfold State.rngLenSet
  dsimp only
  split
  · exact rngFlag_memOk h
  · exact ite_memOk (rngFlag_memOk h) (setLine_memOk h)
theorem tap_memOk {s : State} {i : LineInfo} {x : LineState} {d : Nat} (h : memOk s = true) : memOk (s.tap i x d).1 = true := by
  unfold State.tap
  exact ite_fst_memOk (pair_memOk h) (ite_fst_memOk (pair_memOk h) (pair_memOk (ite_fst_memOk (engineRead_memOk (engineRead_memOk h)) (pair_memOk (engineRead_memOk h)))))
theorem setTap_memOk {s : State} {l : Nat} {raw : Option (List Int × List Int × Nat × Nat)} {out : List Int} (h : memOk s = true) : memOk (s.setTap l raw out) = true := by
  unfold State.setTap
  exact eta_memOk h
theorem lineClose_memOk {s : State} {l : Nat} {i : LineInfo} (h : memOk s = true) : memOk (s.lineClose l i) = true := by
  unfold State.lineClose
  dsimp only
  split
  · exact h
  · split
    · exact setTap_memOk (setLine_memOk (ite_memOk (engineWrite_memOk h) h))
    · exact setLine_memOk (ite_memOk (engineWrite_memOk h) h)
theorem lineFetch_memOk {s : State} {l : Nat} {i : LineInfo} {late : Bool} (h : memOk s = true) : memOk (s.lineFetch l i late) = true := by
  unfold State.lineFetch
  exact ite_memOk (setTap_memOk (setLine_memOk h)) (setTap_memOk (setLine_memOk (ite_fst_memOk (pair_memOk (tap_memOk h)) (tap_memOk (tap_memOk h)))))
theorem setVoice_memOk {s : State} {v : Nat} {x : Voice} (h : memOk s = true) : memOk (s.setVoice v x) = true := by
  unfold State.setVoice
  exact eta_memOk h
theorem voiceStart_memOk {s : State} {v : Nat} (h : memOk s = true) : memOk (s.voiceStart v) = true := by
  unfold State.voiceStart
  dsimp only
  split
  · exact h
  · exact ite_memOk h (ite_memOk (setVoice_memOk (engineRead_memOk h)) (rngFlag_memOk (count_memOk (setVoice_memOk (engineRead_memOk h)))))
theorem voiceEnd_memOk {s : State} {v : Nat} (h : memOk s = true) : memOk (s.voiceEnd v) = true := by
  unfold State.voiceEnd
  dsimp only
  split
  · exact h
  · exact ite_memOk (setVoice_memOk h) (ite_memOk h (ite_memOk (count_memOk (setVoice_memOk h)) (setVoice_memOk h)))
theorem voiceStage_memOk {s : State} {v : Nat} (h : memOk s = true) : memOk (s.voiceStage v) = true := by
  unfold State.voiceStage
  dsimp only
  split
  · exact setVoice_memOk (ite_memOk (voiceStart_memOk (voiceEnd_memOk h)) (voiceEnd_memOk h))
  · exact setVoice_memOk (engineRead_memOk (ite_memOk (voiceStart_memOk (voiceEnd_memOk h)) (voiceEnd_memOk h)))
theorem voiceLate_memOk {s : State} {v : Nat} {late : Bool} (h : memOk s = true) : memOk (s.voiceLate v late) = true := by
  unfold State.voiceLate
  exact setVoice_memOk h
theorem announce_memOk {s : State} {seq : Nat} {a0 : W32} {a1 : W32} {a2 : W32} (h : memOk s = true) : memOk (s.announce seq a0 a1 a2).1 = true := by
  unfold State.announce
  exact ite_fst_memOk (pair_memOk (rngFlag_memOk (count_memOk h))) (ite_fst_memOk (pair_memOk (rngFlag_memOk (count_memOk h))) (pair_memOk (ite_memOk (voiceStart_memOk (setVoice_memOk h)) (setVoice_memOk h))))
theorem cancelStop_memOk {s : State} {v : Nat} (h : memOk s = true) : memOk (s.cancelStop v) = true := by
  unfold State.cancelStop
  dsimp only
  split
  · exact ite_memOk h (count_memOk (setVoice_memOk h))
  · exact h
theorem cancelQueue_memOk {s : State} {v : Nat} (h : memOk s = true) : memOk (s.cancelQueue v) = true := by
  unfold State.cancelQueue
  exact count_memOk (setVoice_memOk h)
theorem rngCancel_memOk {s : State} {v : W32} (h : memOk s = true) : memOk (s.rngCancel v) = true := by
  unfold State.rngCancel
  exact ite_memOk (rngFlag_memOk h) (ite_memOk (cancelStop_memOk h) (ite_memOk (cancelQueue_memOk h) (cancelQueue_memOk (cancelStop_memOk h))))
theorem setRecorder_memOk {s : State} {c : Nat} {x : Recorder} (h : memOk s = true) : memOk (s.setRecorder c x) = true := by
  unfold State.setRecorder
  exact eta_memOk h
theorem segmentEnd_memOk {s : State} {c : Nat} (h : memOk s = true) : memOk (s.segmentEnd c) = true := by
  unfold State.segmentEnd
  dsimp only
  split
  · exact h
  · exact ite_memOk h (ite_memOk (setRecorder_memOk h) (ite_memOk (setRecorder_memOk h) (setRecorder_memOk (engineWrite_memOk h))))
theorem recorderRun_memOk {s : State} {c : Nat} {i : RecInfo} {xs : List Int} {late : Bool} (h : memOk s = true) : memOk (s.recorderRun c i xs late) = true := by
  unfold State.recorderRun
  exact ite_memOk (segmentEnd_memOk h) (setRecorder_memOk (segmentEnd_memOk h))
theorem exportOne_memOk {s : State} (h : memOk s = true) : memOk (s.exportOne) = true := by
  unfold State.exportOne
  split
  · exact h
  · split
    · exact h
    · dsimp only
      split
      · exact jobProgress_memOk (eta_memOk (emit_memOk (engineRead_memOk h)))
      · exact jobProgress_memOk (eta_memOk (rngFlag_memOk (count_memOk h)))
theorem mixTick_memOk {s : State} (h : memOk s = true) : memOk (s.mixTick) = true := by
  unfold State.mixTick
  exact eta_memOk (canopyMix_memOk h)
theorem lineReads_memOk {s : State} {late : List RingObj} (h : memOk s = true) : memOk (s.lineReads late) = true := by
  unfold State.lineReads
  exact eta_memOk (foldS_fst_memOk (fun _ _ ht => pair_memOk (lineFetch_memOk ht)) (pair_memOk h))
theorem emitTick_memOk {s : State} {late : List RingObj} {mute : Bool} (h : memOk s = true) : memOk (s.emitTick late mute) = true := by
  unfold State.emitTick
  exact foldS_fst_memOk (fun _ _ ht => pair_memOk (recorderRun_memOk ht)) (pair_memOk (eta_memOk (foldS_fst_memOk (fun _ _ ht => pair_memOk (lineClose_memOk ht)) (pair_memOk h))))
theorem ovrBit_memOk {s : State} {k : Nat} (h : memOk s = true) : memOk (s.ovrBit k) = true := by
  unfold State.ovrBit
  exact ite_memOk (flag_memOk h) (flag_memOk h)
theorem coreOverrun_memOk {tick : Nat} {s : State} {k : Nat} (h : memOk s = true) : memOk (State.coreOverrun tick s k) = true := by
  unfold State.coreOverrun
  exact ite_memOk (raiseOnce_memOk (wr_memOk (flag_memOk (wr_memOk (count_memOk (flag_memOk (flag_memOk (wr_memOk (count_memOk (ovrBit_memOk (setCore_memOk h))))))))))) h
theorem marginNote_memOk {s : State} {k : Nat} {m : Nat} (h : memOk s = true) : memOk (s.marginNote k m) = true := by
  unfold State.marginNote
  exact ite_memOk (wr_memOk h) h
theorem coreJudge_memOk {tick : Nat} {s : State} {k : Nat} (h : memOk s = true) : memOk (State.coreJudge tick s k) = true := by
  unfold State.coreJudge
  exact ite_memOk (marginNote_memOk (ite_memOk (wr_memOk (wr_memOk (wr_memOk (ite_memOk (flag_memOk (ovrBit_memOk h)) (coreOverrun_memOk h))))) (ite_memOk (flag_memOk (ovrBit_memOk h)) (coreOverrun_memOk h)))) (ite_memOk (raiseOnce_memOk (count_memOk (wr_memOk (wr_memOk (marginNote_memOk (ite_memOk (wr_memOk (wr_memOk (wr_memOk (ite_memOk (flag_memOk (ovrBit_memOk h)) (coreOverrun_memOk h))))) (ite_memOk (flag_memOk (ovrBit_memOk h)) (coreOverrun_memOk h)))))))) (wr_memOk (marginNote_memOk (ite_memOk (wr_memOk (wr_memOk (wr_memOk (ite_memOk (flag_memOk (ovrBit_memOk h)) (coreOverrun_memOk h))))) (ite_memOk (flag_memOk (ovrBit_memOk h)) (coreOverrun_memOk h))))))
theorem judgeCores_memOk {s : State} {tick : Nat} (h : memOk s = true) : memOk (s.judgeCores tick) = true := by
  unfold State.judgeCores
  exact foldS_memOk (fun _ _ ht => coreJudge_memOk ht) h
theorem enterCores_memOk {s : State} (h : memOk s = true) : memOk (s.enterCores) = true := by
  unfold State.enterCores
  exact eta_memOk h
theorem restCores_memOk {s : State} (h : memOk s = true) : memOk (s.restCores) = true := by
  unfold State.restCores
  exact eta_memOk h
theorem coresRevived_memOk {s : State} (h : memOk s = true) : memOk (s.coresRevived) = true := by
  unfold State.coresRevived
  exact foldS_memOk (fun _ _ ht => unflag_memOk ht) h
theorem handOff_memOk {s : State} {p : Nat × CoreInfo} (h : memOk s = true) : memOk (s.handOff p) = true := by
  unfold State.handOff
  exact ite_memOk h (eta_memOk h)
theorem inbound_memOk {s : State} {mix : Sparse (List Int)} {p : Nat × CoreInfo} (h : memOk s = true) : memOk (s.inbound mix p) = true := by
  unfold State.inbound
  exact setCore_memOk h
theorem setsSwap_memOk {s : State} (h : memOk s = true) : memOk (s.setsSwap) = true := by
  unfold State.setsSwap
  exact foldS_memOk (fun _ _ ht => setCore_memOk ht) h
theorem fulEcc_memOk {s : State} {e : FulEcc} (h : memOk s = true) : memOk (s.fulEcc e) = true := by
  unfold State.fulEcc
  exact ite_memOk (count_memOk (wr_memOk h)) (twinFault_memOk (raise_memOk (flag_memOk (count_memOk (ite_memOk (flag_memOk (setCore_memOk (wr_memOk h))) (ite_memOk (setCore_memOk (wr_memOk h)) (setCore_memOk (wr_memOk h))))))))
theorem fulScrub_memOk {s : State} (h : memOk s = true) : memOk (s.fulScrub) = true := by
  unfold State.fulScrub
  exact foldS_memOk (fun _ _ ht => ite_memOk (setCore_memOk ht) ht) h
theorem fulHit_memOk {s : State} {k : Nat} {mem : Nat} {off : Nat} {a : Option EccKind} (h : memOk s = true) : memOk (s.fulHit k mem off a) = true := by
  unfold State.fulHit
  split
  · exact fulEcc_memOk h
  · exact h
theorem fulRead_memOk {s : State} {addr : Nat} {ecc : Option EccKind} (h : memOk s = true) : memOk (s.fulRead addr ecc).1 = true := by
  unfold State.fulRead
  exact ite_fst_memOk (pair_memOk (ite_memOk h (fulHit_memOk h))) (ite_fst_memOk (pair_memOk (ite_memOk h (fulHit_memOk h))) (ite_fst_memOk (pair_memOk (ite_memOk h (fulHit_memOk h))) (pair_memOk (unmappedAt_memOk (ite_memOk h (fulHit_memOk h))))))
theorem fulWrite_memOk {s : State} {addr : Nat} {width : Width} {v : W32} {hit : WriteHit} (h : memOk s = true) : memOk (s.fulWrite addr width v hit) = true := by
  unfold State.fulWrite
  exact ite_memOk (unmappedAt_memOk h) (ite_memOk (unmappedAt_memOk h) (ite_memOk (wr_memOk (count_memOk (fulHit_memOk h))) (ite_memOk (setCore_memOk (fulHit_memOk h)) (setCore_memOk (fulHit_memOk h)))))
theorem swapEffect_memOk {s : State} {t : Nat} {early : Bool} (h : memOk s = true) : memOk (s.swapEffect t early) = true := by
  unfold State.swapEffect
  split
  · exact h
  · exact ite_memOk h (setsSwap_memOk (selSwap_memOk (eta_memOk h)))
theorem swapStep_memOk {s : State} {t : Nat} (h : memOk s = true) : memOk (s.swapStep t) = true := by
  unfold State.swapStep
  exact eta_memOk (swapEffect_memOk h)
theorem swapJoin_memOk {s : State} {seq : Nat} {a0 : W32} (h : memOk s = true) : memOk (s.swapJoin seq a0) = true := by
  unfold State.swapJoin
  exact eta_memOk h
theorem gainHit_memOk {s : State} {live : Bool} {off : Nat} {a : Option EccKind} (h : memOk s = true) : memOk (s.gainHit live off a) = true := by
  unfold State.gainHit
  split
  · exact gainEcc_memOk h
  · exact h
theorem gainWin_memOk {s : State} {addr : Nat} {width : Width} {v : W32} {hit : WriteHit} (h : memOk s = true) : memOk (s.gainWin addr width v hit) = true := by
  unfold State.gainWin
  exact ite_memOk (unmappedAt_memOk h) (ite_memOk (gainCollided_memOk h) (gainHostWrite_memOk (gainHit_memOk h)))
theorem gainRead_memOk {s : State} {addr : Nat} {ecc : Option EccKind} (h : memOk s = true) : memOk (s.gainRead addr ecc).1 = true := by
  unfold State.gainRead
  exact ite_fst_memOk (pair_memOk (unmappedAt_memOk h)) (pair_memOk (gainHit_memOk h))
theorem sceneGain_memOk {s : State} {w : SceneWork} {key : Nat} {g : W16} (h : memOk s = true) : memOk (s.sceneGain w key g).1 = true := by
  unfold State.sceneGain
  exact pair_memOk (gainWrite_memOk h)
theorem sceneRun_memOk {s : State} {w : SceneWork} {key : Nat} {gs : List W16} (h : memOk s = true) : memOk (s.sceneRun w key gs).1 = true := by
  induction gs generalizing s w key with
  | nil => exact h
  | cons g gs ih => exact ih (sceneGain_memOk h)
theorem recordWrite_memOk {s : State} {w : SceneWork} {ty : Nat} {ws : List W32} (h : memOk s = true) : memOk (s.recordWrite w ty ws).1 = true := by
  unfold State.recordWrite
  exact ite_fst_memOk (sceneRun_memOk h) (ite_fst_memOk (sceneRun_memOk h) (ite_fst_memOk (pair_memOk (detSet_memOk h)) (ite_fst_memOk (pair_memOk (sclSet_memOk h)) (ite_fst_memOk (pair_memOk (grfSelSet_memOk h)) (ite_fst_memOk (pair_memOk (setCore_memOk h)) (pair_memOk h))))))
theorem sceneStop_memOk {s : State} {slot : Nat} {err : Nat} (h : memOk s = true) : memOk (s.sceneStop slot err) = true := by
  unfold State.sceneStop
  exact jobFin_memOk (sceneClose_memOk h)
theorem sceneAbort_memOk {s : State} {slot : Nat} (h : memOk s = true) : memOk (s.sceneAbort slot) = true := by
  unfold State.sceneAbort
  exact jobAborted_memOk (sceneClose_memOk h)
theorem sceneOpen_memOk {s : State} {slot : Nat} (h : memOk s = true) : memOk (s.sceneOpen slot) = true := by
  unfold State.sceneOpen
  exact ite_memOk (sceneStop_memOk (eta_memOk h)) (ite_memOk (sceneStop_memOk (eta_memOk (engineRead_memOk h))) (ite_memOk (sceneStop_memOk (eta_memOk (engineRead_memOk h))) (eta_memOk (engineRead_memOk h))))
theorem sceneStep_memOk {s : State} {slot : Nat} (h : memOk s = true) : memOk (s.sceneStep slot) = true := by
  unfold State.sceneStep
  split
  · exact h
  · exact ite_memOk (sceneAbort_memOk h) (ite_memOk (sceneStop_memOk h) (ite_memOk (sceneStop_memOk (engineRead_memOk h)) (ite_memOk (sceneStop_memOk (engineRead_memOk (engineRead_memOk h))) (jobProgress_memOk (eta_memOk (recordWrite_memOk (engineRead_memOk (engineRead_memOk h))))))))
theorem mirrorSets_memOk {s : State} {lo : Nat} {hi : Nat} (h : memOk s = true) : memOk (s.mirrorSets lo hi) = true := by
  unfold State.mirrorSets
  exact foldS_fst_memOk (fun _ _ ht => pair_memOk (setCore_memOk ht)) (pair_memOk h)
theorem mirrorBanks_memOk {s : State} {lo : Nat} {hi : Nat} (h : memOk s = true) : memOk (s.mirrorBanks lo hi) = true := by
  unfold State.mirrorBanks
  exact mirrorSets_memOk (eta_memOk h)
theorem mirrorGains_memOk {s : State} {w : SceneWork} {lo : Nat} {hi : Nat} (h : memOk s = true) : memOk (s.mirrorGains w lo hi).1 = true := by
  unfold State.mirrorGains
  exact pair_memOk (foldS_memOk (fun _ _ ht => count_memOk (flag_memOk ht)) (eta_memOk h))
theorem mirrorStep_memOk {s : State} {slot : Nat} (h : memOk s = true) : memOk (s.mirrorStep slot) = true := by
  unfold State.mirrorStep
  split
  · exact h
  · exact ite_memOk (sceneAbort_memOk h) (ite_memOk (jobProgress_memOk (eta_memOk (mirrorGains_memOk h))) (ite_memOk (sceneStop_memOk (jobProgress_memOk (eta_memOk (mirrorBanks_memOk h)))) (jobProgress_memOk (eta_memOk (mirrorBanks_memOk h)))))
theorem setPort_memOk {s : State} {p : Nat} {x : Port} (h : memOk s = true) : memOk (s.setPort p x) = true := by
  unfold State.setPort
  exact eta_memOk h
theorem modPort_memOk {s : State} {p : Nat} {f : Port → Port} (h : memOk s = true) : memOk (s.modPort p f) = true := by
  unfold State.modPort
  exact setPort_memOk h
theorem portRaise_memOk {s : State} {p : Nat} {e : Nat} (h : memOk s = true) : memOk (s.portRaise p e) = true := by
  unfold State.portRaise
  exact raise_memOk (flag_memOk h)
theorem portFlag_memOk {s : State} {p : Nat} {bit : Nat} {e : Nat} (h : memOk s = true) : memOk (s.portFlag p bit e) = true := by
  unfold State.portFlag
  exact portRaise_memOk (flag_memOk h)
theorem portCtl_memOk {s : State} {p : Nat} {v : W32} (h : memOk s = true) : memOk (s.portCtl p v) = true := by
  unfold State.portCtl
  exact ite_memOk (ite_memOk h (ite_memOk (portRaise_memOk (flag_memOk h)) (wr_memOk h))) (wr_memOk h)
theorem portTo_memOk {s : State} {p : Nat} {x : Port} (h : memOk s = true) : memOk (s.portTo p x) = true := by
  unfold State.portTo
  exact portFlag_memOk (setPort_memOk h)
theorem rateWr_memOk {s : State} {p : Nat} {v : W32} (h : memOk s = true) : memOk (s.rateWr p v) = true := by
  unfold State.rateWr
  exact ite_memOk (wr_memOk h) h
theorem portStart_memOk {s : State} {p : Nat} (h : memOk s = true) : memOk (s.portStart p) = true := by
  unfold State.portStart
  exact ite_memOk (portTo_memOk (rateWr_memOk h)) (portTo_memOk h)
theorem portLeadEnd_memOk {s : State} {p : Nat} {t : Nat} (h : memOk s = true) : memOk (s.portLeadEnd p t) = true := by
  unfold State.portLeadEnd
  dsimp only
  split
  · exact portTo_memOk h
  · exact ite_memOk (portTo_memOk (rateWr_memOk h)) (portTo_memOk h)
  · exact h
theorem portReenter_memOk {s : State} {p : Nat} {x : Port} (h : memOk s = true) : memOk (s.portReenter p x) = true := by
  unfold State.portReenter
  exact setPort_memOk h
theorem portTick_memOk {s : State} {t : Nat} {stop : Bool} {p : Nat} (h : memOk s = true) : memOk (s.portTick t stop p) = true := by
  unfold State.portTick
  dsimp only
  split
  · exact ite_memOk (portStart_memOk (setPort_memOk h)) (setPort_memOk h)
  · exact ite_memOk (portTo_memOk (setPort_memOk h)) (ite_memOk (ite_memOk (portLeadEnd_memOk (setPort_memOk h)) (setPort_memOk (setPort_memOk h))) (setPort_memOk (setPort_memOk h)))
  · exact ite_memOk (portTo_memOk (setPort_memOk h)) (ite_memOk (ite_memOk (ite_memOk (portReenter_memOk (setPort_memOk h)) (setPort_memOk (setPort_memOk h))) (setPort_memOk (setPort_memOk h))) (setPort_memOk h))
  · exact ite_memOk (portLeadEnd_memOk (setPort_memOk h)) (setPort_memOk (setPort_memOk h))
theorem portsTick_memOk {s : State} {t : Nat} {stop : Bool} (h : memOk s = true) : memOk (s.portsTick t stop) = true := by
  unfold State.portsTick
  exact foldS_memOk (fun _ _ ht => portTick_memOk ht) h
theorem slotMask_memOk {s : State} {p : Nat} {tx : Bool} {v : W32} (h : memOk s = true) : memOk (s.slotMask p tx v) = true := by
  unfold State.slotMask
  exact modPort_memOk (wr_memOk h)
theorem slipLast_memOk {s : State} {p : Nat} (h : memOk s = true) : memOk (s.slipLast p) = true := by
  unfold State.slipLast
  exact ite_memOk (wr_memOk h) h
theorem portPads_memOk {s : State} {p : Nat} {n : Nat} (h : memOk s = true) : memOk (s.portPads p n) = true := by
  unfold State.portPads
  exact ite_memOk h (slipLast_memOk (count_memOk h))
theorem portDrops_memOk {s : State} {p : Nat} {n : Nat} (h : memOk s = true) : memOk (s.portDrops p n) = true := by
  unfold State.portDrops
  exact ite_memOk h (slipLast_memOk (count_memOk h))
theorem portTake_memOk {s : State} {p : Nat} {ts : Int} {depth : Int} {samples : List Int} {keep : Bool} (h : memOk s = true) : memOk (s.portTake p ts depth samples keep) = true := by
  unfold State.portTake
  exact ite_memOk h (ite_memOk h (ite_memOk (portDrops_memOk (when_memOk (fun _ ht => portFlag_memOk (slipLast_memOk ht)) (setPort_memOk h))) (modPort_memOk (when_memOk (fun _ ht => portFlag_memOk (slipLast_memOk ht)) (setPort_memOk h)))))
theorem frameLen_memOk {s : State} {p : Nat} {len : Option Nat} (h : memOk s = true) : memOk (s.frameLen p len) = true := by
  unfold State.frameLen
  dsimp only
  split
  · exact ite_memOk h (portFlag_memOk (count_memOk h))
  · exact h
theorem aesError_memOk {s : State} {p : Nat} (h : memOk s = true) : memOk (s.aesError p) = true := by
  unfold State.aesError
  exact raiseOnce_memOk (flag_memOk (flag_memOk h))
theorem portClose_memOk {s : State} {t : Nat} {p : Nat} (h : memOk s = true) : memOk (s.portClose t p) = true := by
  unfold State.portClose
  refine modPort_memOk ?_
  split
  · exact wr_memOk (wr_memOk (wr_memOk (ite_memOk (portPads_memOk h) h)))
  · exact ite_memOk (portPads_memOk h) h
theorem aesBlockStart_memOk {s : State} {tx : Nat} (h : memOk s = true) : memOk (s.aesBlockStart tx) = true := by
  unfold State.aesBlockStart
  exact emit_memOk (modPort_memOk h)
theorem clips_memOk {s : State} {p : Nat} {n : Nat} (h : memOk s = true) : memOk (s.clips p n) = true := by
  unfold State.clips
  exact ite_memOk h (flag_memOk (count_memOk h))
theorem txSend_memOk {s : State} {p : Nat} {n : Nat} {mask : W32} {data : W32} {xs : List Int} {len : Option Nat} (h : memOk s = true) : memOk (s.txSend p n mask data xs len) = true := by
  unfold State.txSend
  exact emit_memOk (modPort_memOk (clips_memOk h))
theorem aesSend_memOk {s : State} {tx : Nat} {i : Nat} {xs : List Int} (h : memOk s = true) : memOk (s.aesSend tx i xs) = true := by
  unfold State.aesSend
  exact emit_memOk (modPort_memOk (clips_memOk (ite_memOk (aesBlockStart_memOk h) h)))
theorem txIndexed_memOk {s : State} {p : Nat} {n : Nat} {mask : W32} {data : W32} {pos : Int} {len : Option Nat} (h : memOk s = true) : memOk (s.txIndexed p n mask data pos len) = true := by
  unfold State.txIndexed
  exact ite_memOk (txSend_memOk (portDrops_memOk (when_memOk (fun _ ht => portFlag_memOk (slipLast_memOk ht)) (modPort_memOk h)))) (portPads_memOk (txSend_memOk (portDrops_memOk (when_memOk (fun _ ht => portFlag_memOk (slipLast_memOk ht)) (modPort_memOk h)))))
theorem asrcUnlock_memOk {s : State} {p : Nat} (h : memOk s = true) : memOk (s.asrcUnlock p) = true := by
  unfold State.asrcUnlock
  exact ite_memOk (portRaise_memOk (count_memOk (flag_memOk (setPort_memOk h)))) h
theorem portRate_memOk {s : State} {p : Nat} {rate : Nat} (h : memOk s = true) : memOk (s.portRate p rate) = true := by
  unfold State.portRate
  exact ite_memOk (asrcUnlock_memOk (ite_memOk (portFlag_memOk (setPort_memOk (wr_memOk h))) (setPort_memOk (wr_memOk h)))) (ite_memOk (portFlag_memOk (setPort_memOk (wr_memOk h))) (setPort_memOk (wr_memOk h)))
theorem aesCs_memOk {s : State} {r : Nat} {bIs : Bool} {bs : List Byte} (h : memOk s = true) : memOk (s.aesCs r bIs bs) = true := by
  unfold State.aesCs
  exact ite_memOk (aesError_memOk (count_memOk h)) (ite_memOk h (portFlag_memOk (wr_memOk (setPort_memOk h))))
theorem rootLevel_memOk {s : State} {p : Nat} (h : memOk s = true) : memOk (s.rootLevel p) = true := by
  unfold State.rootLevel
  exact ite_memOk (when_memOk (fun _ ht => portRaise_memOk ht) (setPort_memOk h)) h
theorem portsClear_memOk {s : State} (h : memOk s = true) : memOk (s.portsClear) = true := by
  unfold State.portsClear
  exact eta_memOk h
theorem modRef_memOk {s : State} {i : Nat} {f : RefIn → RefIn} (h : memOk s = true) : memOk (s.modRef i f) = true := by
  unfold State.modRef
  exact eta_memOk h
theorem modClk_memOk {s : State} {f : ClkSt → ClkSt} (h : memOk s = true) : memOk (s.modClk f) = true := by
  unfold State.modClk
  exact eta_memOk h
theorem clkRaise_memOk {s : State} {i : Nat} {e : Nat} (h : memOk s = true) : memOk (s.clkRaise i e) = true := by
  unfold State.clkRaise
  exact raise_memOk (flag_memOk h)
theorem refFail_memOk {s : State} {i : Nat} {reason : Nat} (h : memOk s = true) : memOk (s.refFail i reason) = true := by
  unfold State.refFail
  exact ite_memOk (clkRaise_memOk (modRef_memOk (ite_memOk (modRef_memOk h) h))) (ite_memOk (modRef_memOk h) h)
theorem refMark_memOk {s : State} {i : Nat} {reason : Nat} (h : memOk s = true) : memOk (s.refMark i reason) = true := by
  unfold State.refMark
  exact modRef_memOk h
theorem refSettle_memOk {s : State} {i : Nat} (h : memOk s = true) : memOk (s.refSettle i) = true := by
  unfold State.refSettle
  exact ite_memOk h (modRef_memOk (refFail_memOk h))
theorem refArrive_memOk {s : State} {i : Nat} (h : memOk s = true) : memOk (s.refArrive i) = true := by
  unfold State.refArrive
  exact ite_memOk h (modRef_memOk h)
theorem refLeave_memOk {s : State} {i : Nat} (h : memOk s = true) : memOk (s.refLeave i) = true := by
  unfold State.refLeave
  exact ite_memOk (ite_memOk (refMark_memOk (clkRaise_memOk (modRef_memOk h))) (modRef_memOk h)) h
theorem refGate_memOk {s : State} {i : Nat} (h : memOk s = true) : memOk (s.refGate i) = true := by
  unfold State.refGate
  exact ite_memOk (ite_memOk (refArrive_memOk h) (refLeave_memOk h)) (ite_memOk (modRef_memOk h) (modRef_memOk h))
theorem phiOf_memOk {s : State} {obs : List (Nat × Int)} {i : Nat} (h : memOk s = true) : memOk (s.phiOf obs i).2 = true := by
  unfold State.phiOf
  dsimp only
  split
  · exact h
  · split
    · split
      · exact h
      · exact h
    · split
      · exact h
      · exact drawn_memOk h
theorem refMeasure_memOk {obs : List (Nat × Int)} {s : State} {i : Nat} (h : memOk s = true) : memOk (State.refMeasure obs s i) = true := by
  have hphi := phiOf_memOk (obs := obs) (i := i) h
  unfold State.refMeasure
  exact ite_memOk (modRef_memOk (ite_memOk (modRef_memOk (refMark_memOk (flag_memOk (count_memOk hphi)))) hphi)) h
theorem refQualify_memOk {s : State} {i : Nat} (h : memOk s = true) : memOk (s.refQualify i) = true := by
  unfold State.refQualify
  exact clkRaise_memOk (modRef_memOk h)
theorem refWindowEnd_memOk {s : State} {q : Nat × Int} (h : memOk s = true) : memOk (s.refWindowEnd q) = true := by
  unfold State.refWindowEnd
  exact ite_memOk (ite_memOk (refMark_memOk (clkRaise_memOk (modRef_memOk h))) (ite_memOk (refQualify_memOk (modRef_memOk h)) (modRef_memOk h))) h
theorem dispute_memOk {s : State} {p : Nat × Nat} (h : memOk s = true) : memOk (s.dispute p) = true := by
  unfold State.dispute
  exact clkRaise_memOk (flag_memOk (flag_memOk (count_memOk (modRef_memOk (modRef_memOk h)))))
theorem agree_memOk {apart : List (Nat × Nat)} {s : State} {i : Nat} (h : memOk s = true) : memOk (State.agree apart s i) = true := by
  unfold State.agree
  exact ite_memOk (ite_memOk (modRef_memOk h) (modRef_memOk h)) h
theorem freqEnd_memOk {s : State} {freqs : List (Nat × Int)} (h : memOk s = true) : memOk (s.freqEnd freqs) = true := by
  unfold State.freqEnd
  refine foldS_memOk (fun _ _ ht => modRef_memOk ht) ?_
  refine foldS_memOk (fun _ _ ht => dispute_memOk ht) ?_
  refine foldS_memOk (fun _ _ ht => agree_memOk ht) ?_
  refine foldS_memOk ?_ h
  intro _ _ ht
  split
  · exact refWindowEnd_memOk ht
  · exact ite_memOk (refWindowEnd_memOk (drawn_memOk ht)) ht
theorem windowTick_memOk {s : State} (h : memOk s = true) : memOk (s.windowTick) = true := by
  unfold State.windowTick
  exact ite_memOk (modClk_memOk h) (modClk_memOk (ite_memOk h (freqEnd_memOk h)))
theorem guardEnd_memOk {s : State} {i : Nat} (h : memOk s = true) : memOk (s.guardEnd i) = true := by
  unfold State.guardEnd
  exact ite_memOk (refQualify_memOk h) h
theorem guardTick_memOk {s : State} {i : Nat} (h : memOk s = true) : memOk (s.guardTick i) = true := by
  unfold State.guardTick
  exact ite_memOk (ite_memOk (guardEnd_memOk h) (modRef_memOk h)) h
theorem steer_memOk {s : State} (h : memOk s = true) : memOk (s.steer) = true := by
  unfold State.steer
  exact eta_memOk h
theorem setOut_memOk {s : State} {f : Int} (h : memOk s = true) : memOk (s.setOut f) = true := by
  unfold State.setOut
  exact ite_memOk (flagRaise_memOk (modClk_memOk h)) (modClk_memOk h)
theorem switchTo_memOk {s : State} {target : Nat} (h : memOk s = true) : memOk (s.switchTo target) = true := by
  unfold State.switchTo
  exact raise_memOk (ite_memOk (flagRaise_memOk (flag_memOk (count_memOk (steer_memOk (modClk_memOk (ite_memOk (eta_memOk h) h)))))) (flag_memOk (count_memOk (steer_memOk (modClk_memOk (ite_memOk (eta_memOk h) h))))))
theorem closeLoop_memOk {s : State} {i : Nat} (h : memOk s = true) : memOk (s.closeLoop i) = true := by
  unfold State.closeLoop
  exact ite_memOk (flagRaise_memOk (raise_memOk (steer_memOk (modClk_memOk h)))) (raise_memOk (steer_memOk (modClk_memOk h)))
theorem switchEnd_memOk {s : State} (h : memOk s = true) : memOk (s.switchEnd) = true := by
  unfold State.switchEnd
  exact ite_memOk (raise_memOk (modClk_memOk h)) (ite_memOk (raise_memOk (modClk_memOk h)) (closeLoop_memOk h))
theorem switchAim_memOk {s : State} (h : memOk s = true) : memOk (s.switchAim) = true := by
  unfold State.switchAim
  exact ite_memOk (ite_memOk (modClk_memOk h) (modClk_memOk h)) h
theorem switchTick_memOk {s : State} (h : memOk s = true) : memOk (s.switchTick) = true := by
  unfold State.switchTick
  exact ite_memOk (switchEnd_memOk (setOut_memOk (switchAim_memOk h))) (setOut_memOk (switchAim_memOk h))
theorem absorbEnd_memOk {s : State} (h : memOk s = true) : memOk (s.absorbEnd) = true := by
  unfold State.absorbEnd
  exact raise_memOk (wr_memOk (modClk_memOk (eta_memOk h)))
theorem loopTick_memOk {s : State} (h : memOk s = true) : memOk (s.loopTick) = true := by
  unfold State.loopTick
  dsimp only
  split
  · exact h
  · exact setOut_memOk h
  · exact switchTick_memOk h
  · exact setOut_memOk h
  · exact ite_memOk h (ite_memOk (absorbEnd_memOk h) (setOut_memOk (modClk_memOk h)))
theorem selectRef_memOk {s : State} (h : memOk s = true) : memOk (s.selectRef) = true := by
  unfold State.selectRef
  refine ite_memOk h ?_
  split
  · exact ite_memOk h (switchTo_memOk h)
  · refine ite_memOk (switchTo_memOk h) ?_
    refine ite_memOk ?_ (modClk_memOk h)
    split
    · exact modClk_memOk h
    · exact ite_memOk (switchTo_memOk h) (modClk_memOk h)
theorem loopEarly_memOk {s : State} (h : memOk s = true) : memOk (s.loopEarly) = true := by
  unfold State.loopEarly
  exact modClk_memOk (selectRef_memOk (loopTick_memOk h))
theorem loopStage_memOk {s : State} (h : memOk s = true) : memOk (s.loopStage) = true := by
  unfold State.loopStage
  exact modClk_memOk (ite_memOk (selectRef_memOk (loopTick_memOk h)) (ite_memOk h (selectRef_memOk h)))
theorem holdJudge_memOk {s : State} {n : Nat} (h : memOk s = true) : memOk (s.holdJudge n) = true := by
  unfold State.holdJudge
  exact ite_memOk (flagRaise_memOk (modClk_memOk h)) h
theorem holdAt_memOk {s : State} {n : Nat} (h : memOk s = true) : memOk (s.holdAt n) = true := by
  unfold State.holdAt
  exact holdJudge_memOk (modClk_memOk h)
theorem holdTick_memOk {s : State} (h : memOk s = true) : memOk (s.holdTick) = true := by
  unfold State.holdTick
  split
  · exact holdAt_memOk h
  · exact holdAt_memOk (modClk_memOk h)
  · exact h
theorem holdNote_memOk {s : State} (h : memOk s = true) : memOk (s.holdNote) = true := by
  unfold State.holdNote
  split
  · exact h
  · exact modClk_memOk h
theorem epochTick_memOk {s : State} (h : memOk s = true) : memOk (s.epochTick) = true := by
  unfold State.epochTick
  exact ite_memOk (wr_memOk h) h
theorem refTick_memOk {s : State} {obs : List (Nat × Int)} (h : memOk s = true) : memOk (s.refTick obs) = true := by
  unfold State.refTick
  exact foldS_memOk (fun _ _ ht => guardTick_memOk ht) (foldS_memOk (fun _ _ ht => refSettle_memOk ht) (windowTick_memOk (foldS_memOk (fun _ _ ht => refMeasure_memOk ht) (foldS_memOk (fun _ _ ht => refGate_memOk ht) h))))
theorem clkTick_memOk {s : State} {obs : List (Nat × Int)} (h : memOk s = true) : memOk (s.clkTick obs) = true := by
  unfold State.clkTick
  exact holdNote_memOk (ite_memOk (holdTick_memOk (epochTick_memOk (refTick_memOk h))) (loopStage_memOk (holdTick_memOk (epochTick_memOk (refTick_memOk h)))))
theorem pllStart_memOk {s : State} {net : Bool} (h : memOk s = true) : memOk (s.pllStart net) = true := by
  unfold State.pllStart
  dsimp only
  split
  · exact steer_memOk (setOut_memOk (modClk_memOk (modClk_memOk h)))
  · exact steer_memOk (setOut_memOk (modClk_memOk (modClk_memOk h)))
theorem pllStop_memOk {s : State} (h : memOk s = true) : memOk (s.pllStop) = true := by
  unfold State.pllStop
  exact steer_memOk (modClk_memOk h)
theorem clkTakeover_memOk {s : State} (h : memOk s = true) : memOk (s.clkTakeover) = true := by
  unfold State.clkTakeover
  exact switchTo_memOk h
theorem modNetPort_memOk {s : State} {p : Nat} {f : NetPort → NetPort} (h : memOk s = true) : memOk (s.modNetPort p f) = true := by
  unfold State.modNetPort
  exact eta_memOk h
theorem setStr_memOk {s : State} {k : Nat} {x : Machine.Stream} (h : memOk s = true) : memOk (s.setStr k x) = true := by
  unfold State.setStr
  exact eta_memOk h
theorem modStr_memOk {s : State} {k : Nat} {f : Machine.Stream → Machine.Stream} (h : memOk s = true) : memOk (s.modStr k f) = true := by
  unfold State.modStr
  exact setStr_memOk h
theorem strMark_memOk {s : State} {k : Nat} {e : Nat} (h : memOk s = true) : memOk (s.strMark k e) = true := by
  unfold State.strMark
  exact wr_memOk h
theorem strRaise_memOk {s : State} {k : Nat} {e : Nat} (h : memOk s = true) : memOk (s.strRaise k e) = true := by
  unfold State.strRaise
  exact raise_memOk (strMark_memOk h)
theorem strRaiseOnce_memOk {s : State} {k : Nat} {e : Nat} (h : memOk s = true) : memOk (s.strRaiseOnce k e) = true := by
  unfold State.strRaiseOnce
  exact ite_memOk h (raiseOnce_memOk (strMark_memOk h))
theorem portSend_memOk {s : State} {p : Nat} {o : Out} (h : memOk s = true) : memOk (s.portSend p o) = true := by
  unfold State.portSend
  exact ite_memOk (count_memOk (emit_memOk h)) (count_memOk h)
theorem report_memOk {s : State} {p : Nat} {x : Machine.Stream} {leave : Bool} (h : memOk s = true) : memOk (s.report p x leave) = true := by
  unfold State.report
  exact ite_memOk (portSend_memOk h) h
theorem reports_memOk {s : State} {x : Machine.Stream} {leave : Bool} (h : memOk s = true) : memOk (s.reports x leave) = true := by
  unfold State.reports
  exact foldS_memOk (fun _ _ ht => report_memOk ht) h
theorem strRefuse_memOk {s : State} {k : Nat} (h : memOk s = true) : memOk (s.strRefuse k) = true := by
  unfold State.strRefuse
  exact strRaise_memOk (flag_memOk h)
theorem strLoad_memOk {s : State} {v : W32} (h : memOk s = true) : memOk (s.strLoad v) = true := by
  unfold State.strLoad
  exact ite_memOk (strRefuse_memOk h) (modStr_memOk h)
theorem strEnable_memOk {s : State} {v : W32} (h : memOk s = true) : memOk (s.strEnable v) = true := by
  unfold State.strEnable
  exact ite_memOk (strRefuse_memOk h) (ite_memOk (ite_memOk (strRefuse_memOk h) (modStr_memOk h)) (ite_memOk (strRefuse_memOk h) (reports_memOk (setStr_memOk h))))
theorem strDisable_memOk {s : State} {v : W32} (h : memOk s = true) : memOk (s.strDisable v) = true := by
  unfold State.strDisable
  exact ite_memOk (strRefuse_memOk h) (ite_memOk (reports_memOk (setStr_memOk h)) (setStr_memOk h))
theorem strClear_memOk {s : State} {v : W32} (h : memOk s = true) : memOk (s.strClear v) = true := by
  unfold State.strClear
  exact ite_memOk (strRefuse_memOk h) (modStr_memOk h)
theorem strApply_memOk {s : State} {v : W32} (h : memOk s = true) : memOk (s.strApply v) = true := by
  unfold State.strApply
  split
  · exact strLoad_memOk h
  · exact strEnable_memOk h
  · exact strDisable_memOk h
  · exact strClear_memOk h
theorem strApplies_memOk {s : State} (h : memOk s = true) : memOk (s.strApplies) = true := by
  unfold State.strApplies
  exact eta_memOk (foldS_memOk (fun _ _ ht => strApply_memOk ht) h)
theorem applyWrite_memOk {s : State} {v : W32} (h : memOk s = true) : memOk (s.applyWrite v) = true := by
  unfold State.applyWrite
  exact eta_memOk h
theorem applyOp_memOk {s : State} {op : Nat} {val : W32} (h : memOk s = true) : memOk (s.applyOp op val) = true := by
  unfold State.applyOp
  exact byHost_memOk (fun _ ht => applyWrite_memOk ht) h
theorem strArrive_memOk {s : State} {k : Nat} {legB : Bool} (h : memOk s = true) : memOk (s.strArrive k legB) = true := by
  unfold State.strArrive
  exact ite_memOk (strRaise_memOk (ite_memOk (setStr_memOk h) (strRaise_memOk (setStr_memOk h)))) (ite_memOk (setStr_memOk h) (strRaise_memOk (setStr_memOk h)))
theorem strMerge_memOk {s : State} {k : Nat} {legB : Bool} {ts : W32} {frames : List (List Int)} {crc : W32} (h : memOk s = true) : memOk (s.strMerge k legB ts frames crc) = true := by
  unfold State.strMerge
  exact ite_memOk (strRaiseOnce_memOk (modStr_memOk h)) (ite_memOk (strRaiseOnce_memOk (modStr_memOk h)) (ite_memOk (strRaise_memOk (modStr_memOk (modStr_memOk (strArrive_memOk (modStr_memOk (ite_memOk (strRaiseOnce_memOk (modStr_memOk h)) h)))))) (modStr_memOk (strArrive_memOk (modStr_memOk (ite_memOk (strRaiseOnce_memOk (modStr_memOk h)) h))))))
theorem strKeep_memOk {s : State} {k : Nat} {legB : Bool} {ts : W32} {frames : List (List Int)} (h : memOk s = true) : memOk (s.strKeep k legB ts frames) = true := by
  unfold State.strKeep
  exact ite_memOk h (modStr_memOk (strArrive_memOk h))
theorem strClose_memOk {c : Nat} {s : State} {k : Nat} (h : memOk s = true) : memOk (State.strClose c s k) = true := by
  unfold State.strClose
  exact ite_memOk (setStr_memOk h) h
theorem strJudge_memOk {s : State} {k : Nat} {qa : Nat} {qb : Nat} {q : Nat} (h : memOk s = true) : memOk (s.strJudge k qa qb q) = true := by
  unfold State.strJudge
  exact ite_memOk (strRaise_memOk (setStr_memOk (setStr_memOk h))) (ite_memOk (strRaise_memOk (setStr_memOk h)) (setStr_memOk h))
theorem strTimeout_memOk {s : State} {k : Nat} (h : memOk s = true) : memOk (s.strTimeout k) = true := by
  unfold State.strTimeout
  exact ite_memOk (strJudge_memOk (setStr_memOk h)) h
theorem marginEnd_memOk {s : State} (h : memOk s = true) : memOk (s.marginEnd) = true := by
  unfold State.marginEnd
  exact eta_memOk h
theorem marginTick_memOk {s : State} (h : memOk s = true) : memOk (s.marginTick) = true := by
  unfold State.marginTick
  exact ite_memOk (marginEnd_memOk h) (eta_memOk h)
theorem igmpAnswer_memOk {s : State} {p : Nat} {q : GroupQuery} (h : memOk s = true) : memOk (s.igmpAnswer p q) = true := by
  unfold State.igmpAnswer
  exact foldS_memOk (fun _ _ ht => ite_memOk (report_memOk ht) ht) h
theorem netPortTick_memOk {s : State} {p : Nat} (h : memOk s = true) : memOk (s.netPortTick p) = true := by
  unfold State.netPortTick
  exact foldS_memOk (fun _ _ ht => igmpAnswer_memOk ht) (modNetPort_memOk h)
theorem netTick_memOk {s : State} (h : memOk s = true) : memOk (s.netTick) = true := by
  unfold State.netTick
  exact eta_memOk (foldS_memOk (fun _ _ ht => netPortTick_memOk ht) h)
theorem linkSet_memOk {s : State} {p : Nat} {up : Bool} {speed : Nat} (h : memOk s = true) : memOk (s.linkSet p up speed) = true := by
  unfold State.linkSet
  exact ite_memOk (modNetPort_memOk h) (raise_memOk (flag_memOk (count_memOk (modNetPort_memOk h))))
theorem netCtl_memOk {s : State} {p : Nat} {v : W32} (h : memOk s = true) : memOk (s.netCtl p v) = true := by
  unfold State.netCtl
  exact ite_memOk (ite_memOk h (ite_memOk (flagRaise_memOk h) (emit_memOk (wr_memOk h)))) (ite_memOk (emit_memOk (linkSet_memOk (wr_memOk h))) (linkSet_memOk (wr_memOk h)))
theorem hqRefill_memOk {s : State} (h : memOk s = true) : memOk (s.hqRefill) = true := by
  unfold State.hqRefill
  exact eta_memOk (netTick_memOk h)
theorem ringStore_memOk {s : State} {lo : Nat} {hi : Nat} {off : Nat} {bs : List Byte} (h : memOk s = true) : memOk (s.ringStore lo hi off bs) = true := by
  unfold State.ringStore
  exact ite_memOk (emit_memOk h) (poolWr_memOk h)
theorem hqDrop_memOk {s : State} (h : memOk s = true) : memOk (s.hqDrop) = true := by
  unfold State.hqDrop
  exact raiseOnce_memOk (count_memOk h)
theorem hostQueue_memOk {s : State} {p : Nat} {frame : List Byte} (h : memOk s = true) : memOk (s.hostQueue p frame) = true := by
  unfold State.hostQueue
  exact ite_memOk h (ite_memOk (hqDrop_memOk h) (ite_memOk (count_memOk (eta_memOk (ringStore_memOk h))) (vector_memOk (eta_memOk (count_memOk (eta_memOk (ringStore_memOk h)))))))
theorem pauseFrame_memOk {s : State} {p : Nat} {quanta : Nat} (h : memOk s = true) : memOk (s.pauseFrame p quanta) = true := by
  unfold State.pauseFrame
  exact ite_memOk (modNetPort_memOk (flag_memOk (count_memOk h))) (flag_memOk (count_memOk h))
theorem malformed_memOk {s : State} {a : Nat} (h : memOk s = true) : memOk (s.malformed a) = true := by
  unfold State.malformed
  exact raiseOnce_memOk (count_memOk h)
theorem udpCheck_memOk {s : State} {p : Nat} {frame : List Byte} {v6 : Bool} {off : Nat} {frag : Bool} {ip : List Byte} (h : memOk s = true) : memOk (s.udpCheck p frame v6 off frag ip).1 = true := by
  unfold State.udpCheck
  refine ite_fst_memOk (pair_memOk (malformed_memOk h)) ?_
  refine ite_fst_memOk (pair_memOk (malformed_memOk h)) ?_
  dsimp only
  split
  · exact pair_memOk (hostQueue_memOk h)
  · split
    · exact pair_memOk (malformed_memOk h)
    · split
      · exact pair_memOk (strRaise_memOk (count_memOk h))
      · exact ite_fst_memOk (pair_memOk (strRaiseOnce_memOk (modStr_memOk h))) (ite_fst_memOk (pair_memOk (strRaise_memOk (modStr_memOk (modStr_memOk h)))) (pair_memOk (modStr_memOk h)))
theorem takePacket_memOk {s : State} {p : Nat} {bytes : List Byte} {a : Admitted} (h : memOk s = true) : memOk (s.takePacket p bytes a) = true := by
  unfold State.takePacket
  exact ite_memOk (strKeep_memOk (ite_memOk (emit_memOk h) h)) (strMerge_memOk h)
theorem netReceive_memOk {s : State} {p : Nat} {bytes : List Byte} (h : memOk s = true) : memOk (s.netReceive p bytes) = true := by
  unfold State.netReceive
  refine ite_memOk (flag_memOk (count_memOk h)) ?_
  refine ite_memOk (count_memOk (count_memOk h)) ?_
  refine ite_memOk (count_memOk (count_memOk h)) ?_
  refine ite_memOk (pauseFrame_memOk (count_memOk h)) ?_
  split
  · exact hostQueue_memOk (count_memOk h)
  · refine ite_memOk (count_memOk h) ?_
    split
    · exact modNetPort_memOk (count_memOk h)
    · refine ite_memOk (hostQueue_memOk (count_memOk h)) ?_
      dsimp only
      split
      · exact udpCheck_memOk (count_memOk h)
      · exact takePacket_memOk (udpCheck_memOk (count_memOk h))
theorem forwarded_memOk {s : State} {p : Nat} {bytes : List Byte} (h : memOk s = true) : memOk (s.forwarded p bytes) = true := by
  unfold State.forwarded
  dsimp only
  split
  · split
    · exact ite_memOk h (strMerge_memOk h)
    · exact h
  · exact h
theorem mediaSend_memOk {p : Nat} {q : Machine.State × Nat} {k : Nat} (h : memOk q.1 = true) : memOk (State.mediaSend p q k).1 = true := by
  unfold State.mediaSend
  refine ite_fst_memOk h ?_
  split
  · exact h
  · exact ite_fst_memOk (pair_memOk (count_memOk h)) (pair_memOk (modStr_memOk (count_memOk (emit_memOk h))))
theorem hqAdvance_memOk {s : State} (h : memOk s = true) : memOk (s.hqAdvance) = true := by
  unfold State.hqAdvance
  exact ite_memOk (eta_memOk h) (vector_memOk (eta_memOk (eta_memOk h)))
theorem modTim_memOk {s : State} {f : TimSt → TimSt} (h : memOk s = true) : memOk (s.modTim f) = true := by
  unfold State.modTim
  exact eta_memOk h
theorem timAdvance_memOk {s : State} {dt : Nat} (h : memOk s = true) : memOk (s.timAdvance dt) = true := by
  unfold State.timAdvance
  exact modTim_memOk h
theorem timTick_memOk {s : State} {dt : Nat} (h : memOk s = true) : memOk (s.timTick dt) = true := by
  unfold State.timTick
  exact modTim_memOk (timAdvance_memOk h)
theorem timBad_memOk {s : State} (h : memOk s = true) : memOk (s.timBad) = true := by
  unfold State.timBad
  exact flag_memOk h
theorem modPulse_memOk {s : State} {p : Nat} {f : Pps → Pps} (h : memOk s = true) : memOk (s.modPulse p f) = true := by
  unfold State.modPulse
  exact eta_memOk h
theorem ppsProduce_memOk {s : State} {p : Nat} {k : Nat} {late : Bool} (h : memOk s = true) : memOk (s.ppsProduce p k late) = true := by
  unfold State.ppsProduce
  exact ite_memOk (flagRaise_memOk (count_memOk (modPulse_memOk h))) (count_memOk (modPulse_memOk h))
theorem ppsStep_memOk {s : State} {p : Nat} (h : memOk s = true) : memOk (s.ppsStep p) = true := by
  unfold State.ppsStep
  dsimp only
  split
  · exact ppsProduce_memOk (modPulse_memOk h)
  · exact modPulse_memOk h
theorem ppsArm_memOk {s : State} {p : Nat} (h : memOk s = true) : memOk (s.ppsArm p) = true := by
  unfold State.ppsArm
  exact ite_memOk (timBad_memOk (modPulse_memOk h)) (ite_memOk (ppsProduce_memOk (modPulse_memOk h)) (modPulse_memOk h))
theorem ppsDisarm_memOk {s : State} {p : Nat} (h : memOk s = true) : memOk (s.ppsDisarm p) = true := by
  unfold State.ppsDisarm
  exact modPulse_memOk h
theorem ppsCtl_memOk {s : State} {p : Nat} {v : W32} (h : memOk s = true) : memOk (s.ppsCtl p v) = true := by
  unfold State.ppsCtl
  exact ite_memOk (ppsDisarm_memOk (wr_memOk h)) (ite_memOk (ppsArm_memOk (wr_memOk h)) (wr_memOk h))
theorem modLeg_memOk {s : State} {legB : Bool} {f : PtpLeg → PtpLeg} (h : memOk s = true) : memOk (s.modLeg legB f) = true := by
  unfold State.modLeg
  exact modTim_memOk h
theorem ptpSend_memOk {s : State} {legB : Bool} {kind : Nat} {seq : Nat} {t : Int} (h : memOk s = true) : memOk (s.ptpSend legB kind seq t) = true := by
  unfold State.ptpSend
  exact portSend_memOk h
theorem ptpTo_memOk {s : State} {st : PtpState} (h : memOk s = true) : memOk (s.ptpTo st) = true := by
  unfold State.ptpTo
  exact ite_memOk h (flagRaise_memOk (modTim_memOk h))
theorem timJudge_memOk {s : State} (h : memOk s = true) : memOk (s.timJudge) = true := by
  unfold State.timJudge
  exact ite_memOk h (ite_memOk (raise_memOk (wr_memOk (flagRaise_memOk (modTim_memOk h)))) (flagRaise_memOk (modTim_memOk h)))
theorem serve_memOk {s : State} (h : memOk s = true) : memOk (s.serve) = true := by
  unfold State.serve
  exact ite_memOk (raise_memOk (ite_memOk (modTim_memOk h) (flagRaise_memOk (modTim_memOk h)))) (ite_memOk (modTim_memOk h) (flagRaise_memOk (modTim_memOk h)))
theorem ptpDecide_memOk {s : State} (h : memOk s = true) : memOk (s.ptpDecide) = true := by
  unfold State.ptpDecide
  exact ite_memOk (timJudge_memOk (ptpTo_memOk (serve_memOk (modLeg_memOk (modLeg_memOk h))))) (timJudge_memOk (ite_memOk (ite_memOk (serve_memOk (modLeg_memOk (modLeg_memOk h))) (ptpTo_memOk (serve_memOk (modLeg_memOk (modLeg_memOk h))))) (ite_memOk (serve_memOk (modLeg_memOk (modLeg_memOk h))) (ptpTo_memOk (modTim_memOk (serve_memOk (modLeg_memOk (modLeg_memOk h))))))))
theorem timReject_memOk {s : State} (h : memOk s = true) : memOk (s.timReject) = true := by
  unfold State.timReject
  exact raiseOnce_memOk (flag_memOk (count_memOk h))
theorem timAccept_memOk {s : State} {o : Int} {residual : Int} (h : memOk s = true) : memOk (s.timAccept o residual) = true := by
  unfold State.timAccept
  exact count_memOk (wr_memOk (modTim_memOk h))
theorem timSlew_memOk {s : State} {o : Int} (h : memOk s = true) : memOk (s.timSlew o) = true := by
  unfold State.timSlew
  exact timAccept_memOk (modTim_memOk (drawn_memOk h))
theorem timStep_memOk {s : State} {o : Int} {acked : Bool} (h : memOk s = true) : memOk (s.timStep o acked) = true := by
  unfold State.timStep
  exact ite_memOk (foldS_memOk (fun _ _ ht => ppsStep_memOk ht) (flagRaise_memOk (wr_memOk (count_memOk (timAccept_memOk (modTim_memOk h)))))) (raise_memOk (modTim_memOk h))
theorem servo_memOk {s : State} {o : Int} (h : memOk s = true) : memOk (s.servo o) = true := by
  unfold State.servo
  exact ite_memOk (timStep_memOk h) (ite_memOk (ite_memOk (timSlew_memOk (modTim_memOk h)) h) (ite_memOk (ite_memOk (timStep_memOk h) (timSlew_memOk h)) (ite_memOk (timSlew_memOk (drawn_memOk h)) (ite_memOk (raiseOnce_memOk (flag_memOk (count_memOk (modTim_memOk (drawn_memOk h))))) (ite_memOk (timStep_memOk (drawn_memOk h)) (modTim_memOk (drawn_memOk h)))))))
theorem legsAgree_memOk {s : State} (h : memOk s = true) : memOk (s.legsAgree) = true := by
  unfold State.legsAgree
  split
  · exact ite_memOk (ite_memOk (flagRaise_memOk (modTim_memOk h)) (modTim_memOk h)) (modTim_memOk h)
  · exact modTim_memOk h
theorem ptpOffset_memOk {s : State} {legB : Bool} {t1 : Int} {corr : Int} {t2 : Int} (h : memOk s = true) : memOk (s.ptpOffset legB t1 corr t2) = true := by
  unfold State.ptpOffset
  exact ite_memOk (ite_memOk (timJudge_memOk (servo_memOk (ite_memOk (ptpTo_memOk (modTim_memOk (modTim_memOk (legsAgree_memOk (modLeg_memOk h))))) (modTim_memOk (legsAgree_memOk (modLeg_memOk h)))))) (ite_memOk (ptpTo_memOk (modTim_memOk (modTim_memOk (legsAgree_memOk (modLeg_memOk h))))) (modTim_memOk (legsAgree_memOk (modLeg_memOk h))))) (modLeg_memOk h)
theorem annTimeout_memOk {s : State} (h : memOk s = true) : memOk (s.annTimeout) = true := by
  unfold State.annTimeout
  exact ite_memOk h (ite_memOk (ite_memOk (timJudge_memOk (ptpTo_memOk (ptpDecide_memOk (modLeg_memOk (modLeg_memOk h))))) (ptpDecide_memOk (modLeg_memOk (modLeg_memOk h)))) (ite_memOk (timJudge_memOk (ptpTo_memOk h)) h))
theorem syncTimeout_memOk {s : State} (h : memOk s = true) : memOk (s.syncTimeout) = true := by
  unfold State.syncTimeout
  exact ite_memOk (timJudge_memOk (modTim_memOk h)) h
theorem ptpTimeouts_memOk {s : State} (h : memOk s = true) : memOk (s.ptpTimeouts) = true := by
  unfold State.ptpTimeouts
  exact syncTimeout_memOk (annTimeout_memOk h)
theorem ptpOff_memOk {s : State} (h : memOk s = true) : memOk (s.ptpOff) = true := by
  unfold State.ptpOff
  exact foldS_memOk (fun _ _ ht => modPulse_memOk ht) (timJudge_memOk (ptpTo_memOk (modTim_memOk h)))
theorem timLoad_memOk {s : State} (h : memOk s = true) : memOk (s.timLoad) = true := by
  unfold State.timLoad
  exact ite_memOk h (ite_memOk (timBad_memOk h) (foldS_memOk (fun _ _ ht => ppsStep_memOk ht) (modTim_memOk h)))
theorem timCtl_memOk {s : State} {v : W32} (h : memOk s = true) : memOk (s.timCtl v) = true := by
  unfold State.timCtl
  exact ite_memOk (raise_memOk (timBad_memOk h)) (ite_memOk (ptpTo_memOk (ite_memOk (timLoad_memOk (wr_memOk h)) (wr_memOk h))) (ite_memOk (ptpOff_memOk (ite_memOk (timLoad_memOk (wr_memOk h)) (wr_memOk h))) (timJudge_memOk (ite_memOk (timLoad_memOk (wr_memOk h)) (wr_memOk h)))))
theorem stepAck_memOk {s : State} {v : W32} (h : memOk s = true) : memOk (s.stepAck v) = true := by
  unfold State.stepAck
  exact ite_memOk (modTim_memOk h) h
theorem modMem_memOk {s : State} {f : MemSt → MemSt} (hf : ∀ m, Memory.wf m.pool = true → Memory.wf (f m).pool = true) (h : memOk s = true) :
    memOk (s.modMem f) = true := memOk_pool (hf s.mem (poolOk h)) h
theorem poolEcc_memOk {s : State} {e : PoolEcc} (h : memOk s = true) : memOk (s.poolEcc e) = true := by
  unfold State.poolEcc
  dsimp only
  split
  · exact wr_memOk (flag_memOk (count_memOk h))
  · have hpool (a n : Nat) := modMem_memOk (f := fun m => { m with pool := memClear m.pool a n }) (fun _ hm => memClear_wf _ _ _ hm) h
    exact ite_memOk (twinFault_memOk (flagRaise_memOk (wr_memOk (count_memOk (hpool _ _)))))
      (flagRaise_memOk (wr_memOk (count_memOk (hpool _ _))))
theorem poolScrub_memOk {s : State} (h : memOk s = true) : memOk (s.poolScrub) = true := by
  unfold State.poolScrub
  exact ite_memOk (modMem_memOk (fun _ hm => hm) h) h
theorem clearPool_memOk {s : State} {keep : Bool} (h : memOk s = true) : memOk (s.clearPool keep) = true := by
  unfold State.clearPool
  refine modMem_memOk (fun _ hm => ?_) h
  dsimp only
  split
  · exact memClear_wf _ _ _ hm
  · rfl
theorem clearFuller_memOk {s : State} (h : memOk s = true) : memOk (s.clearFuller) = true := by
  unfold State.clearFuller
  exact eta_memOk h
theorem clearGain_memOk {s : State} (h : memOk s = true) : memOk (s.clearGain) = true := by
  unfold State.clearGain
  exact eta_memOk h
theorem clearAll_memOk {s : State} {keep : Bool} (h : memOk s = true) : memOk (s.clearAll keep) = true := by
  unfold State.clearAll
  exact wr_memOk (clearGain_memOk (clearFuller_memOk (clearPool_memOk h)))
theorem putRep_memOk {s : State} {bank : Nat} {e : Nat} {r : RepEntry} (h : memOk s = true) : memOk (s.putRep bank e r) = true := by
  unfold State.putRep
  exact modMem_memOk (fun _ hm => hm) h
theorem repairRow_memOk {s : State} {bank : Nat} {row : Nat} (h : memOk s = true) : memOk (s.repairRow bank row).1 = true := by
  unfold State.repairRow
  refine ite_fst_memOk (pair_memOk h) ?_
  refine ite_fst_memOk (pair_memOk h) ?_
  split
  · exact pair_memOk (flagRaise_memOk (count_memOk (putRep_memOk h)))
  · exact pair_memOk (flagRaise_memOk h)
theorem meetFails_memOk {fs seen : List FailWord} {s : State} {r : Nat × Nat × List W32} (h : memOk s = true) :
    memOk (State.meetFails fs seen s r).1 = true := by
  induction fs generalizing seen s r with
  | nil => exact h
  | cons f fs ih => exact ih (modMem_memOk (fun _ hm => hm) (ite_fst_memOk (repairRow_memOk (count_memOk h)) (count_memOk h)))
theorem marchEnd_memOk {s : State} {found : Nat} (h : memOk s = true) : memOk (s.marchEnd found) = true := by
  unfold State.marchEnd
  exact ite_memOk (wr_memOk (count_memOk h)) (flagRaise_memOk (wr_memOk (count_memOk h)))
theorem startMarch_memOk {s : State} {fails : List FailWord} (h : memOk s = true) : memOk (s.startMarch fails) = true := by
  unfold State.startMarch
  exact ite_memOk (modMem_memOk (fun _ hm => hm) h) (marchEnd_memOk (meetFails_memOk (modMem_memOk (fun _ hm => hm) h)))
theorem marchResult_memOk {s : State} {m : MarchWork} (h : memOk s = true) : memOk (s.marchResult m) = true := by
  unfold State.marchResult
  exact resultWrite_memOk h
theorem marchClose_memOk {s : State} {m : MarchWork} (h : memOk s = true) : memOk (s.marchClose m) = true := by
  unfold State.marchClose
  exact marchResult_memOk (marchEnd_memOk (modMem_memOk (fun _ hm => hm) h))
theorem setMarch_memOk {s : State} {m : MarchWork} (h : memOk s = true) : memOk (s.setMarch m) = true := by
  unfold State.setMarch
  exact jobProgress_memOk (modMem_memOk (fun _ hm => hm) h)
theorem bankTested_memOk {s : State} {m : MarchWork} (h : memOk s = true) : memOk (s.bankTested m) = true := by
  unfold State.bankTested
  exact ite_memOk (setMarch_memOk (meetFails_memOk h)) (jobFin_memOk (marchClose_memOk (jobProgress_memOk (flagRaise_memOk (modMem_memOk (fun _ hm => hm) (meetFails_memOk h))))))
theorem loanSwitch_memOk {s : State} (h : memOk s = true) : memOk (s.loanSwitch) = true := by
  unfold State.loanSwitch
  split
  · exact h
  · exact ite_memOk h (ite_memOk (ite_memOk (setMarch_memOk (modMem_memOk (fun _ hm => hm) h)) (bankTested_memOk (modMem_memOk (fun _ hm => hm) h))) (ite_memOk (ite_memOk (jobFin_memOk (marchClose_memOk (jobProgress_memOk (modMem_memOk (fun _ hm => hm) h)))) (setMarch_memOk (modMem_memOk (fun _ hm => hm) h))) h))
theorem destroyed_memOk {s : State} {m : MarchWork} (h : memOk s = true) : memOk (s.destroyed m) = true := by
  unfold State.destroyed
  exact jobFin_memOk (lockMode_memOk (marchClose_memOk (jobProgress_memOk (ite_memOk (clearGain_memOk (ite_memOk (clearFuller_memOk (ite_memOk (clearPool_memOk (meetFails_memOk h)) (meetFails_memOk h))) (ite_memOk (clearPool_memOk (meetFails_memOk h)) (meetFails_memOk h)))) (ite_memOk (clearFuller_memOk (ite_memOk (clearPool_memOk (meetFails_memOk h)) (meetFails_memOk h))) (ite_memOk (clearPool_memOk (meetFails_memOk h)) (meetFails_memOk h)))))))
theorem holdEnd_memOk {s : State} {m : MarchWork} (h : memOk s = true) : memOk (s.holdEnd m) = true := by
  unfold State.holdEnd
  exact ite_memOk (setMarch_memOk h) (ite_memOk (destroyed_memOk h) (bankTested_memOk h))
theorem holdTickMarch_memOk {s : State} (h : memOk s = true) : memOk (s.holdTickMarch) = true := by
  unfold State.holdTickMarch
  split
  · exact h
  · exact ite_memOk h (ite_memOk (holdEnd_memOk h) (setMarch_memOk h))
theorem marchAbort_memOk {s : State} {k : Nat} (h : memOk s = true) : memOk (s.marchAbort k) = true := by
  unfold State.marchAbort
  split
  · exact h
  · exact ite_memOk h (ite_memOk (jobProgress_memOk (destroyed_memOk h)) (marchClose_memOk h))
theorem repSet_memOk {s : State} {v : W32} (h : memOk s = true) : memOk (s.repSet v) = true := by
  unfold State.repSet
  refine ite_memOk (lockViol_memOk h) ?_
  refine ite_memOk (flag_memOk h) ?_
  split
  · exact flag_memOk h
  · exact ite_memOk (modMem_memOk (fun _ hm => hm) (putRep_memOk h)) (putRep_memOk h)
theorem repSwitch_memOk {s : State} {key : Nat} (h : memOk s = true) : memOk (s.repSwitch key) = true := by
  unfold State.repSwitch
  split
  · exact ite_memOk h (raise_memOk (modMem_memOk (fun _ hm => hm) (modMem_memOk (fun _ hm => hm) h)))
  · exact h
theorem carderTime_memOk {s : State} (h : memOk s = true) : memOk (s.carderTime) = true := by
  unfold State.carderTime
  exact modMem_memOk (fun _ hm => hm) (holdTickMarch_memOk h)
theorem memTick_memOk {s : State} (h : memOk s = true) : memOk (s.memTick) = true := by
  unfold State.memTick
  exact modMem_memOk (fun _ hm => hm) (ite_memOk (holdTickMarch_memOk (poolScrub_memOk (foldS_memOk (fun _ _ ht => repSwitch_memOk ht) h))) (loanSwitch_memOk (holdTickMarch_memOk (poolScrub_memOk (foldS_memOk (fun _ _ ht => repSwitch_memOk ht) h)))))
theorem modHwd_memOk {s : State} {f : HwdSt → HwdSt} (hf : ∀ y, Memory.wf y.mram = true → Memory.wf (f y).mram = true) (h : memOk s = true) :
    memOk (s.modHwd f) = true := memOk_hwd (hf s.hwd (mramOk h)) h
theorem onHw_memOk {s : State} {f : State → State} (hf : ∀ t, memOk t = true → memOk (f t) = true) (h : memOk s = true) :
    memOk (s.onHw f) = true := ite_memOk (hf s h) h
theorem onHwReady_memOk {s : State} {f : State → State} (hf : ∀ t, memOk t = true → memOk (f t) = true) (h : memOk s = true) :
    memOk (s.onHwReady f) = true := onHw_memOk (fun _ ht => ite_memOk (hf _ ht) ht) h
theorem hwFlag_memOk {s : State} {bit : Nat} {ev : Nat} (h : memOk s = true) : memOk (s.hwFlag bit ev) = true := by
  unfold State.hwFlag
  exact modHwd_memOk (fun _ hm => hm) (flag_memOk h)
theorem hwEvents_memOk {s : State} (h : memOk s = true) : memOk (s.hwEvents) = true := by
  unfold State.hwEvents
  exact foldS_memOk (fun _ _ ht => ite_memOk (raise_memOk ht) ht) (modHwd_memOk (fun _ hm => hm) h)
theorem hwCheck_memOk {s : State} (h : memOk s = true) : memOk (s.hwCheck) = true := by
  unfold State.hwCheck
  exact when_memOk (fun _ ht => hwFlag_memOk ht) (modHwd_memOk (fun _ hm => hm) h)
theorem hwStored_memOk {s : State} {a : Nat} {n : Nat} (h : memOk s = true) : memOk (s.hwStored a n) = true := by
  unfold State.hwStored
  exact modHwd_memOk (fun _ hm => hm) h
theorem rsNext_memOk {s : State} (h : memOk s = true) : memOk (s.rsNext) = true := by
  unfold State.rsNext
  exact wr_memOk h
theorem rsRead_memOk {s : State} (h : memOk s = true) : memOk (s.rsRead).1 = true := by
  unfold State.rsRead
  exact pair_memOk (rsNext_memOk h)
theorem rsWrite_memOk {s : State} {v : W32} (h : memOk s = true) : memOk (s.rsWrite v) = true := by
  unfold State.rsWrite
  exact rsNext_memOk (modHwd_memOk (fun _ hm => memWrite_wf _ _ _ hm) (hwStored_memOk h))
theorem rsSave_memOk {s : State} {v : W32} (h : memOk s = true) : memOk (s.rsSave v) = true := by
  unfold State.rsSave
  exact ite_memOk (modHwd_memOk (fun _ hm => memWrite_wf _ _ _ hm) (hwStored_memOk h)) h
theorem setMic_memOk {s : State} {m : Nat} {x : MicIn} (h : memOk s = true) : memOk (s.setMic m x) = true := by
  unfold State.setMic
  exact modHwd_memOk (fun _ hm => hm) h
theorem setCin_memOk {s : State} {c : Nat} {x : CinLine} (h : memOk s = true) : memOk (s.setCin c x) = true := by
  unfold State.setCin
  exact modHwd_memOk (fun _ hm => hm) h
theorem setCh_memOk {s : State} {k : Nat} {x : PowCh} (h : memOk s = true) : memOk (s.setCh k x) = true := by
  unfold State.setCh
  exact modHwd_memOk (fun _ hm => hm) h
theorem sweepClose_memOk {s : State} (h : memOk s = true) : memOk (s.sweepClose) = true := by
  unfold State.sweepClose
  split
  · exact h
  · exact resultWrite_memOk (modHwd_memOk (fun _ hm => hm) (setCh_memOk h))
theorem sweepFail_memOk {s : State} (h : memOk s = true) : memOk (s.sweepFail) = true := by
  unfold State.sweepFail
  split
  · exact h
  · exact jobFin_memOk (sweepClose_memOk h)
theorem hwTake_memOk {s : State} {n : Nat} (h : memOk s = true) : memOk (s.hwTake n) = true := by
  unfold State.hwTake
  exact hwFlag_memOk (wr_memOk (count_memOk (modHwd_memOk (fun _ hm => hm) (sweepFail_memOk h))))
theorem hwReturn_memOk {s : State} (h : memOk s = true) : memOk (s.hwReturn) = true := by
  unfold State.hwReturn
  exact hwFlag_memOk (modHwd_memOk (fun _ hm => hm) h)
theorem hwBeat_memOk {s : State} {n : Nat} (h : memOk s = true) : memOk (s.hwBeat n) = true := by
  unfold State.hwBeat
  refine onHw_memOk (fun _ ht => modHwd_memOk (fun _ hm => ?_) ht) h
  split
  · exact hm
  · exact hm
theorem hwSamples_memOk {s : State} {k : Nat} {xs : List Int} (h : memOk s = true) : memOk (s.hwSamples k xs) = true := by
  unfold State.hwSamples
  exact onHw_memOk (fun _ ht => setCh_memOk ht) h
theorem micArrive_memOk {s : State} {m : Nat} {xs : List Int} (h : memOk s = true) : memOk (s.micArrive m xs) = true := by
  unfold State.micArrive
  exact ite_memOk (modHwd_memOk (fun _ hm => hm) (wr_memOk h)) h
theorem hwFrame_memOk {s : State} {mics : List (Nat × List Int)} {status : Bool} (h : memOk s = true) : memOk (s.hwFrame mics status) = true := by
  unfold State.hwFrame
  exact ite_memOk (foldS_memOk (fun _ _ ht => micArrive_memOk ht) h) (ite_memOk (modHwd_memOk (fun _ hm => hm) (foldS_memOk (fun _ _ ht => micArrive_memOk ht) h)) (modHwd_memOk (fun _ hm => hm) (foldS_memOk (fun _ _ ht => micArrive_memOk ht) h)))
theorem hwResend_memOk {s : State} (h : memOk s = true) : memOk (s.hwResend) = true := by
  unfold State.hwResend
  exact ite_memOk (modHwd_memOk (fun _ hm => hm) h) (ite_memOk (modHwd_memOk (fun _ hm => hm) h) h)
theorem hwLost_memOk {s : State} {l : Bool} (h : memOk s = true) : memOk (s.hwLost l) = true := by
  unfold State.hwLost
  exact flagRaise_memOk (modHwd_memOk (fun _ hm => hm) h)
theorem hwCarry_memOk {s : State} (h : memOk s = true) : memOk (s.hwCarry) = true := by
  unfold State.hwCarry
  split
  · exact modHwd_memOk (fun _ hm => hm) h
  · exact h
theorem hwClose_memOk {s : State} (h : memOk s = true) : memOk (s.hwClose) = true := by
  unfold State.hwClose
  exact ite_memOk h (ite_memOk (eta_memOk (ite_memOk (hwLost_memOk (modHwd_memOk (fun _ hm => hm) h)) (modHwd_memOk (fun _ hm => hm) h))) (ite_memOk (eta_memOk (ite_memOk (hwLost_memOk (modHwd_memOk (fun _ hm => hm) h)) (modHwd_memOk (fun _ hm => hm) h))) (ite_memOk (hwLost_memOk (modHwd_memOk (fun _ hm => hm) h)) (modHwd_memOk (fun _ hm => hm) h))))
theorem hwMicsTaken_memOk {s : State} (h : memOk s = true) : memOk (s.hwMicsTaken) = true := by
  unfold State.hwMicsTaken
  exact modHwd_memOk (fun _ hm => hm) h
theorem micSupervise_memOk {s : State} {m : Nat} {i : Nat} (h : memOk s = true) : memOk (s.micSupervise m i) = true := by
  unfold State.micSupervise
  exact ite_memOk (ite_memOk (setMic_memOk h) (ite_memOk (when_memOk (fun _ ht => hwFlag_memOk ht) (setMic_memOk h)) (setMic_memOk h))) h
theorem chimePress_memOk {s : State} {m : Nat} {before : Bool} (h : memOk s = true) : memOk (s.chimePress m before) = true := by
  unfold State.chimePress
  exact ite_memOk (modHwd_memOk (fun _ hm => hm) h) h
theorem micKeys_memOk {s : State} {m : Nat} {i : Nat} (h : memOk s = true) : memOk (s.micKeys m i) = true := by
  unfold State.micKeys
  exact ite_memOk (ite_memOk h (ite_memOk (hwFlag_memOk (chimePress_memOk (setMic_memOk h))) (setMic_memOk h))) h
theorem cinTick_memOk {s : State} {c : Nat} {ohms : Nat} (h : memOk s = true) : memOk (s.cinTick c ohms) = true := by
  unfold State.cinTick
  exact ite_memOk (setCin_memOk h) (ite_memOk (when_memOk (fun _ ht => hwFlag_memOk ht) (hwFlag_memOk (count_memOk (setCin_memOk h)))) (setCin_memOk h))
theorem zReport_memOk {s : State} {k : Nat} {r : Int} {x : Int} (h : memOk s = true) : memOk (s.zReport k r x) = true := by
  unfold State.zReport
  exact wr_memOk (setCh_memOk h)
theorem chShort_memOk {s : State} {k : Nat} {r : Int} {x : Int} (h : memOk s = true) : memOk (s.chShort k r x) = true := by
  unfold State.chShort
  exact setCh_memOk h
theorem shortReport_memOk {s : State} {k : Nat} (h : memOk s = true) : memOk (s.shortReport k) = true := by
  unfold State.shortReport
  split
  · exact hwFlag_memOk (count_memOk (setCh_memOk (zReport_memOk h)))
  · exact h
theorem lineTake_memOk {s : State} {k : Nat} {d : Nat} (h : memOk s = true) : memOk (s.lineTake k d) = true := by
  unfold State.lineTake
  exact ite_memOk (setCh_memOk h) (ite_memOk (setCh_memOk h) (ite_memOk (hwFlag_memOk (setCh_memOk h)) (setCh_memOk h)))
theorem probeStart_memOk {s : State} {k : Nat} {single : Bool} (h : memOk s = true) : memOk (s.probeStart k single) = true := by
  unfold State.probeStart
  exact setCh_memOk h
theorem chReturn_memOk {s : State} {k : Nat} (h : memOk s = true) : memOk (s.chReturn k) = true := by
  unfold State.chReturn
  exact setCh_memOk h
theorem shortReturn_memOk {s : State} {k : Nat} (h : memOk s = true) : memOk (s.shortReturn k) = true := by
  unfold State.shortReturn
  exact ite_memOk (hwFlag_memOk (chReturn_memOk h)) h
theorem chCfg_memOk {s : State} {k : Nat} {v : W32} (h : memOk s = true) : memOk (s.chCfg k v) = true := by
  unfold State.chCfg
  refine ite_memOk ?_ ?_
  · split
    · exact ite_memOk (setCh_memOk (wr_memOk h)) (wr_memOk h)
    · exact ite_memOk (probeStart_memOk (setCh_memOk (wr_memOk h))) (setCh_memOk (wr_memOk h))
    · exact wr_memOk h
  · split
    · exact setCh_memOk (wr_memOk h)
    · exact setCh_memOk (sweepFail_memOk (wr_memOk h))
    · exact setCh_memOk (wr_memOk h)
    · exact wr_memOk h
theorem chsFault_memOk {s : State} (h : memOk s = true) : memOk (s.chsFault) = true := by
  unfold State.chsFault
  exact foldS_memOk (fun _ _ ht => setCh_memOk ht) (sweepFail_memOk h)
theorem chsReturn_memOk {s : State} (h : memOk s = true) : memOk (s.chsReturn) = true := by
  unfold State.chsReturn
  exact ite_memOk h (foldS_memOk (fun _ _ ht => ite_memOk (chReturn_memOk ht) ht) h)
theorem hwStart_memOk {s : State} {fresh : Bool} (h : memOk s = true) : memOk (s.hwStart fresh) = true := by
  unfold State.hwStart
  exact modHwd_memOk (fun _ hm => hm) h
theorem hwEnd_memOk {s : State} {p : MsgPlay} {fresh : Bool} (h : memOk s = true) : memOk (s.hwEnd p fresh) = true := by
  unfold State.hwEnd
  exact hwStart_memOk (modHwd_memOk (fun _ hm => hm) h)
theorem hwFade_memOk {s : State} {p : MsgPlay} (h : memOk s = true) : memOk (s.hwFade p) = true := by
  unfold State.hwFade
  exact modHwd_memOk (fun _ hm => hm) h
theorem hwMessages_memOk {s : State} (h : memOk s = true) : memOk (s.hwMessages) = true := by
  unfold State.hwMessages
  split
  · exact hwStart_memOk h
  · refine ite_memOk (modHwd_memOk (fun _ hm => hm) h) ?_
    refine ite_memOk (hwStart_memOk h) ?_
    refine ite_memOk (hwEnd_memOk (modHwd_memOk (fun _ hm => hm) h)) ?_
    refine ite_memOk (hwFade_memOk (modHwd_memOk (fun _ hm => hm) (modHwd_memOk (fun _ hm => hm) h))) ?_
    refine ite_memOk (hwFade_memOk (modHwd_memOk (fun _ hm => hm) h)) ?_
    refine ite_memOk (modHwd_memOk (fun _ hm => hm) h) ?_
    split
    · exact modHwd_memOk (fun _ hm => hm) h
    · exact ite_memOk (modHwd_memOk (fun _ hm => hm) (modHwd_memOk (fun _ hm => hm) h)) (hwFade_memOk (modHwd_memOk (fun _ hm => hm) h))
theorem hwCloseBeat_memOk {s : State} (h : memOk s = true) : memOk s.hwCloseBeat = true := by
  unfold State.hwCloseBeat
  refine modHwd_memOk (fun _ hm => ?_) h
  split
  · exact hm
  · exact hm
theorem chTick_memOk {s : State} {k : Nat} (h : memOk s = true) : memOk (s.chTick k) = true := by
  unfold State.chTick
  exact setCh_memOk h
theorem chBoundary_memOk {s : State} {k : Nat} (h : memOk s = true) : memOk (s.chBoundary k) = true := by
  unfold State.chBoundary
  exact shortReturn_memOk (shortReport_memOk (chTick_memOk h))
theorem chPlay_memOk {s : State} {k : Nat} (h : memOk s = true) : memOk (s.chPlay k) = true := by
  unfold State.chPlay
  exact ite_memOk (setCh_memOk h) (emit_memOk (setCh_memOk h))
theorem micTick_memOk {s : State} {m : Nat} (h : memOk s = true) : memOk (s.micTick m) = true := by
  unfold State.micTick
  exact ite_memOk (setMic_memOk h) h
theorem hwMeasure_memOk {s : State} {o : HwdObs} (h : memOk s = true) : memOk (s.hwMeasure o) = true := by
  unfold State.hwMeasure
  exact ite_memOk (foldS_memOk (fun _ _ ht => count_memOk ht) (wr_memOk h)) (foldS_fst_memOk (fun _ _ ht => pair_memOk (cinTick_memOk ht)) (pair_memOk (foldS_fst_memOk (fun _ _ ht => pair_memOk (setMic_memOk (micKeys_memOk (micSupervise_memOk ht)))) (pair_memOk (foldS_memOk (fun _ _ ht => count_memOk ht) (wr_memOk h))))))
theorem hwModeStep_memOk {s : State} (h : memOk s = true) : memOk (s.hwModeStep) = true := by
  unfold State.hwModeStep
  exact modHwd_memOk (fun _ hm => hm) (ite_memOk (ite_memOk (hwTake_memOk (ite_memOk (modHwd_memOk (fun _ hm => hm) h) h)) (ite_memOk (modHwd_memOk (fun _ hm => hm) h) h)) (ite_memOk (hwReturn_memOk (ite_memOk (modHwd_memOk (fun _ hm => hm) h) h)) (ite_memOk (modHwd_memOk (fun _ hm => hm) h) h)))
theorem hwTick_memOk {s : State} {o : HwdObs} (h : memOk s = true) : memOk (s.hwTick o) = true := by
  unfold State.hwTick
  exact foldS_memOk (fun _ _ ht => chPlay_memOk ht) (ite_memOk (hwMessages_memOk (hwModeStep_memOk (modHwd_memOk (fun _ hm => hm) (foldS_memOk (fun _ _ ht => chBoundary_memOk ht) (ite_memOk (hwCheck_memOk (hwResend_memOk (foldS_memOk (fun _ _ ht => micTick_memOk ht) (hwMeasure_memOk (modHwd_memOk (fun _ hm => hm) (hwCloseBeat_memOk h)))))) (modHwd_memOk (fun _ hm => hm) (hwResend_memOk (foldS_memOk (fun _ _ ht => micTick_memOk ht) (hwMeasure_memOk (modHwd_memOk (fun _ hm => hm) (hwCloseBeat_memOk h))))))))))) (modHwd_memOk (fun _ hm => hm) (hwModeStep_memOk (modHwd_memOk (fun _ hm => hm) (foldS_memOk (fun _ _ ht => chBoundary_memOk ht) (ite_memOk (hwCheck_memOk (hwResend_memOk (foldS_memOk (fun _ _ ht => micTick_memOk ht) (hwMeasure_memOk (modHwd_memOk (fun _ hm => hm) (hwCloseBeat_memOk h)))))) (modHwd_memOk (fun _ hm => hm) (hwResend_memOk (foldS_memOk (fun _ _ ht => micTick_memOk ht) (hwMeasure_memOk (modHwd_memOk (fun _ hm => hm) (hwCloseBeat_memOk h))))))))))))
theorem hwPowerUp_memOk {s : State} (h : memOk s = true) : memOk s.hwPowerUp = true := by
  unfold State.hwPowerUp
  refine hwTake_memOk (modHwd_memOk (fun _ hm => hm) (ite_memOk ?_ (hwFlag_memOk ?_)))
  · exact foldS_of_memOk Prod.fst (fun _ _ hp => wr_memOk hp) (memOk_of_same rfl rfl rfl h)
  · exact memOk_of_same rfl rfl rfl h
theorem hwPowerDown_memOk {s : State} (h : memOk s = true) : memOk (s.hwPowerDown) = true := by
  unfold State.hwPowerDown
  exact modHwd_memOk (fun _ hm => hm) h
theorem sweepAbort_memOk {s : State} {k : Nat} (h : memOk s = true) : memOk (s.sweepAbort k) = true := by
  unfold State.sweepAbort
  split
  · exact h
  · exact ite_memOk (sweepClose_memOk h) h
theorem modPrs_memOk {s : State} {f : PrsSt → PrsSt} (h : memOk s = true) : memOk (s.modPrs f) = true := by
  unfold State.modPrs
  exact eta_memOk h
theorem modPwd_memOk {s : State} {f : PwdSt → PwdSt} (h : memOk s = true) : memOk (s.modPwd f) = true := by
  unfold State.modPwd
  exact eta_memOk h
theorem windowOpen_memOk {s : State} (h : memOk s = true) : memOk (s.windowOpen) = true := by
  unfold State.windowOpen
  exact ite_memOk (modPrs_memOk h) (flagRaise_memOk (modPrs_memOk h))
theorem windowEnd_memOk {s : State} (h : memOk s = true) : memOk (s.windowEnd) = true := by
  unfold State.windowEnd
  exact flagRaise_memOk (modPrs_memOk h)
theorem presentOn_memOk {s : State} (h : memOk s = true) : memOk (s.presentOn) = true := by
  unfold State.presentOn
  exact ite_memOk h (windowOpen_memOk (count_memOk (modPrs_memOk h)))
theorem unheld_memOk {s : State} {source : Nat} (h : memOk s = true) : memOk (s.unheld source) = true := by
  unfold State.unheld
  exact modPwd_memOk h
theorem prsElapse_memOk {s : State} {n : Nat} (h : memOk s = true) : memOk (s.prsElapse n) = true := by
  unfold State.prsElapse
  exact ite_memOk (ite_memOk (windowEnd_memOk (modPrs_memOk h)) (modPrs_memOk h)) h
theorem sealSample_memOk {s : State} {ok : Bool} (h : memOk s = true) : memOk (s.sealSample ok) = true := by
  unfold State.sealSample
  exact ite_memOk (unheld_memOk (modPrs_memOk h)) (ite_memOk (flagRaise_memOk (wr_memOk (count_memOk (modPrs_memOk (modPrs_memOk h))))) (modPrs_memOk h))
theorem unseal_memOk {s : State} (h : memOk s = true) : memOk (s.unseal) = true := by
  unfold State.unseal
  exact ite_memOk (raise_memOk (modPrs_memOk h)) h
theorem reseal_memOk {s : State} {path : Nat} {v : W32} (h : memOk s = true) : memOk (s.reseal path v) = true := by
  unfold State.reseal
  exact ite_memOk (unseal_memOk h) (deny_memOk h)
theorem rtcAdvance_memOk {s : State} {n : Nat} (h : memOk s = true) : memOk (s.rtcAdvance n) = true := by
  unfold State.rtcAdvance
  exact wr_memOk (modPwd_memOk h)
theorem pwdTick_memOk {s : State} (h : memOk s = true) : memOk (s.pwdTick) = true := by
  unfold State.pwdTick
  exact drawn_memOk (drawn_memOk (modPwd_memOk h))
theorem supplyFail_memOk {s : State} (h : memOk s = true) : memOk (s.supplyFail) = true := by
  unfold State.supplyFail
  exact ite_memOk (eta_memOk (modPwd_memOk (twinFault_memOk (declareFaulty_memOk h)))) h
theorem latchClr_memOk {s : State} {v : W32} (h : memOk s = true) : memOk (s.latchClr v) = true := by
  unfold State.latchClr
  exact modPwd_memOk h
theorem napRequest_memOk {s : State} {v : W32} (h : memOk s = true) : memOk (s.napRequest v) = true := by
  unfold State.napRequest
  exact ite_memOk h (ite_memOk (flagRaise_memOk h) (ite_memOk (modPwd_memOk h) h))
theorem mediaStop_memOk {s : State} (h : memOk s = true) : memOk (s.mediaStop) = true := by
  unfold State.mediaStop
  exact eta_memOk h
theorem modPrv_memOk {s : State} {f : PrvSt → PrvSt} (h : memOk s = true) : memOk (s.modPrv f) = true := by
  unfold State.modPrv
  exact eta_memOk h
theorem prvShare_memOk {s : State} (h : memOk s = true) : memOk (s.prvShare) = true := by
  unfold State.prvShare
  exact eta_memOk h
theorem prvStage_memOk {s : State} {g : PrvStage} (h : memOk s = true) : memOk (s.prvStage g) = true := by
  unfold State.prvStage
  exact modPrv_memOk h
theorem prvStop_memOk {s : State} (h : memOk s = true) : memOk (s.prvStop) = true := by
  unfold State.prvStop
  exact modPrv_memOk h
theorem prvStart_memOk {s : State} {n : Nat} {stage : PrvStage} (h : memOk s = true) : memOk (s.prvStart n stage) = true := by
  unfold State.prvStart
  exact prvStage_memOk (modPrv_memOk h)
theorem prvSee_memOk {s : State} {before : Machine.State} (h : memOk s = true) : memOk (s.prvSee before) = true := by
  unfold State.prvSee
  split
  · split
    · exact ite_memOk (modPrv_memOk h) h
    · exact h
  · exact h
theorem prvJudge_memOk {s : State} {r : PrvRun} {meas : List ProveMeas} {endTick : W32} {left : Nat} (h : memOk s = true) : memOk (s.prvJudge r meas endTick left) = true := by
  unfold State.prvJudge
  refine when_memOk (fun _ ht => flagRaise_memOk ht) ?_
  refine when_memOk (fun _ ht => flagRaise_memOk ht) ?_
  refine when_memOk (fun _ ht => flag_memOk ht) ?_
  split
  · exact wr_memOk (count_memOk (modPrv_memOk (eta_memOk h)))
  · exact count_memOk (modPrv_memOk (eta_memOk h))
theorem prvNext_memOk {s : State} {r : PrvRun} {n : Nat} {stage : PrvStage} (h : memOk s = true) : memOk (s.prvNext r n stage) = true := by
  unfold State.prvNext
  exact ite_memOk (prvStart_memOk (modPrv_memOk h)) (prvStage_memOk h)
theorem prvWritten_memOk {s : State} {r : PrvRun} {w : PrvWrite} (h : memOk s = true) : memOk (s.prvWritten r w) = true := by
  unfold State.prvWritten
  exact ite_memOk (jobFin_memOk (prvStop_memOk (jobProgress_memOk (resultWrite_memOk (count_memOk (modPrv_memOk (ite_memOk (modPrv_memOk h) (foldS_memOk (fun _ _ ht => engineWrite_memOk ht) h)))))))) (jobProgress_memOk (resultWrite_memOk (count_memOk (modPrv_memOk (ite_memOk (modPrv_memOk h) (foldS_memOk (fun _ _ ht => engineWrite_memOk ht) h))))))
theorem prvAbort_memOk {s : State} (h : memOk s = true) : memOk (s.prvAbort) = true := by
  unfold State.prvAbort
  split
  · exact jobAborted_memOk (prvStop_memOk h)
  · exact h
theorem prvWrites_memOk {s : State} (h : memOk s = true) : memOk (s.prvWrites) = true := by
  unfold State.prvWrites
  split
  · exact ite_memOk (prvWritten_memOk h) (modPrv_memOk h)
  · exact h
theorem prvStep_memOk {s : State} {n : Nat} {meas : List ProveMeas} (h : memOk s = true) : memOk (s.prvStep n meas) = true := by
  unfold State.prvStep
  split
  · exact h
  · dsimp only
    split
    · exact ite_memOk (prvAbort_memOk h) (ite_memOk (prvStart_memOk h) (prvStage_memOk h))
    · exact ite_memOk (prvAbort_memOk h) (prvStage_memOk h)
    · exact ite_memOk (prvStage_memOk h) (ite_memOk (prvStage_memOk h) (prvNext_memOk (prvJudge_memOk h)))
    · exact ite_memOk (prvAbort_memOk h) (prvStage_memOk h)
    · exact ite_memOk (prvAbort_memOk h) h
theorem prvTick_memOk {s : State} {n : Nat} {meas : List ProveMeas} (h : memOk s = true) : memOk (s.prvTick n meas) = true := by
  unfold State.prvTick
  exact prvShare_memOk (prvStep_memOk (prvWrites_memOk h))
theorem modTwn_memOk {s : State} {f : TwnSt → TwnSt} (h : memOk s = true) : memOk (s.modTwn f) = true := by
  unfold State.modTwn
  exact eta_memOk h
theorem twinPair_memOk {s : State} {v : W32} (h : memOk s = true) : memOk (s.twinPair v) = true := by
  unfold State.twinPair
  exact ite_memOk h (ite_memOk (emit_memOk (modTwn_memOk h)) (ite_memOk (emit_memOk (ite_memOk (flagRaise_memOk (modTwn_memOk (wr_memOk (wr_memOk h)))) (modTwn_memOk (wr_memOk (wr_memOk h))))) h))
theorem twinPairHost_memOk {s : State} {v : W32} (h : memOk s = true) : memOk (s.twinPairHost v) = true := by
  unfold State.twinPairHost
  exact ite_memOk (twinPair_memOk h) (deny_memOk h)
theorem twinLink_memOk {s : State} {up : Bool} (h : memOk s = true) : memOk (s.twinLink up) = true := by
  unfold State.twinLink
  exact flagRaise_memOk (modTwn_memOk h)
theorem resyncFail_memOk {s : State} {err : Nat} (h : memOk s = true) : memOk (s.resyncFail err) = true := by
  unfold State.resyncFail
  dsimp only
  split
  · exact jobFin_memOk (resultWrite_memOk (flagRaise_memOk (modTwn_memOk h)))
  · exact flagRaise_memOk (modTwn_memOk h)
theorem modBundle_memOk {s : State} {frame : Nat} {f : Bundle → Bundle} (h : memOk s = true) : memOk (s.modBundle frame f) = true := by
  unfold State.modBundle
  exact modTwn_memOk h
theorem bundleSize_memOk {s : State} {n : Nat} (h : memOk s = true) : memOk (s.bundleSize n) = true := by
  unfold State.bundleSize
  exact ite_memOk (wr_memOk (wr_memOk h)) (wr_memOk h)
theorem cutoffNow_memOk {s : State} (h : memOk s = true) : memOk (s.cutoffNow) = true := by
  unfold State.cutoffNow
  exact ite_memOk (emit_memOk (bundleSize_memOk (modTwn_memOk (eta_memOk (drawn_memOk h))))) h
theorem takeover_memOk {s : State} {cause : Nat} (h : memOk s = true) : memOk (s.takeover cause) = true := by
  unfold State.takeover
  exact flagRaise_memOk (ite_memOk (clkTakeover_memOk (wr_memOk (count_memOk (modTwn_memOk h)))) (wr_memOk (count_memOk (modTwn_memOk h))))
theorem resyncStart_memOk {s : State} {slot : Option Nat} (h : memOk s = true) : memOk (s.resyncStart slot) = true := by
  unfold State.resyncStart
  exact raise_memOk (modTwn_memOk h)
theorem autoResync_memOk {s : State} (h : memOk s = true) : memOk (s.autoResync) = true := by
  unfold State.autoResync
  exact ite_memOk (resyncStart_memOk h) h
theorem dualActive_memOk {s : State} (h : memOk s = true) : memOk (s.dualActive) = true := by
  unfold State.dualActive
  exact ite_memOk (autoResync_memOk (flagRaise_memOk (count_memOk (modTwn_memOk (flagRaise_memOk (drawn_memOk h)))))) (wr_memOk (flagRaise_memOk (drawn_memOk h)))
theorem roleSwap_memOk {s : State} (h : memOk s = true) : memOk (s.roleSwap).1 = true := by
  unfold State.roleSwap
  exact ite_fst_memOk (ite_fst_memOk (pair_memOk (raise_memOk (ite_memOk (modClk_memOk (modTwn_memOk h)) (modTwn_memOk h)))) (pair_memOk (raise_memOk (modTwn_memOk (takeover_memOk h))))) (pair_memOk (raise_memOk h))
theorem takeRole_memOk {s : State} (h : memOk s = true) : memOk (s.takeRole) = true := by
  unfold State.takeRole
  refine ite_memOk h ?_
  split
  · exact ite_memOk (modTwn_memOk h) h
  · exact ite_memOk (modTwn_memOk h) (ite_memOk (autoResync_memOk h) (ite_memOk (modTwn_memOk h) h))
  · exact h
theorem spSets_wf {β : Type} (k : β → Nat) (v : β → Byte) (m : Sparse Byte) (qs : List β) (h : Memory.wf m = true) :
    Memory.wf (foldS (fun m q => spSet 0 m (k q) (v q)) m qs) = true := by
  induction qs generalizing m with
  | nil => exact h
  | cons q qs ih => exact ih _ (spCanon_spSet (fun _ => (0 : Byte)) m (k q) (v q) h)
theorem applyMemory_memOk {s : State} {c : StateCopy} (h : memOk s = true) : memOk (s.applyMemory c) = true := by
  unfold State.applyMemory
  refine foldS_memOk (fun _ _ ht => wr_memOk ht) (memOk_pool ?_ (memOk_dram ?_ h))
  · exact spSets_wf (fun q => q.1 % 2 ^ 24) Prod.snd _ _ (poolOk h)
  · exact spSets_wf Prod.fst Prod.snd _ _ (dramOk h)
theorem applyFuller_memOk {s : State} {c : StateCopy} (h : memOk s = true) : memOk (s.applyFuller c) = true := by
  unfold State.applyFuller
  exact eta_memOk (coresRevived_memOk h)
theorem applyCopy_memOk {s : State} {c : StateCopy} (h : memOk s = true) : memOk (s.applyCopy c) = true := by
  unfold State.applyCopy
  exact eta_memOk (applyFuller_memOk (applyMemory_memOk h))
theorem graftEnd_memOk {s : State} {outcome : Nat} (h : memOk s = true) : memOk (s.graftEnd outcome) = true := by
  unfold State.graftEnd
  split
  · exact ite_memOk (jobAborted_memOk (resultMore_memOk (count_memOk (modTwn_memOk (eta_memOk h))))) (jobFin_memOk (resultMore_memOk (count_memOk (modTwn_memOk (eta_memOk h)))))
  · exact h
theorem standbyReached_memOk {s : State} (h : memOk s = true) : memOk (s.standbyReached) = true := by
  unfold State.standbyReached
  dsimp only
  split
  · exact jobFin_memOk (resultWrite_memOk (raise_memOk (modTwn_memOk (graftEnd_memOk h))))
  · exact raise_memOk (modTwn_memOk (graftEnd_memOk h))
theorem resyncAbort_memOk {s : State} {k : Nat} (h : memOk s = true) : memOk (s.resyncAbort k) = true := by
  unfold State.resyncAbort
  exact ite_memOk (resultWrite_memOk (modTwn_memOk h)) h
theorem compareDigests_memOk {s : State} {t : Nat} (h : memOk s = true) : memOk (s.compareDigests t) = true := by
  unfold State.compareDigests
  split
  · refine ite_memOk h ?_
    refine ite_memOk (ite_memOk (ite_memOk (standbyReached_memOk (modTwn_memOk (wr_memOk (wr_memOk h)))) (modTwn_memOk (wr_memOk (wr_memOk h)))) (wr_memOk (wr_memOk h))) ?_
    dsimp only
    split
    · exact outOfStep_memOk (wr_memOk (wr_memOk (wr_memOk h)))
    · exact partnerOut_memOk (wr_memOk (wr_memOk (wr_memOk h)))
    · exact modTwn_memOk (wr_memOk (wr_memOk (wr_memOk h)))
    · exact wr_memOk (wr_memOk (wr_memOk h))
  · exact h
theorem twnClose_memOk {s : State} {c : Nat} (h : memOk s = true) : memOk (s.twnClose c) = true := by
  unfold State.twnClose
  exact ite_memOk (modTwn_memOk h) (ite_memOk (modTwn_memOk (ite_memOk (partnerOut_memOk (modTwn_memOk (ite_memOk (modTwn_memOk h) (compareDigests_memOk (modTwn_memOk h))))) (modTwn_memOk (ite_memOk (modTwn_memOk h) (compareDigests_memOk (modTwn_memOk h)))))) (ite_memOk (ite_memOk (outOfStep_memOk (ite_memOk (ite_memOk (modTwn_memOk (modTwn_memOk (ite_memOk (modTwn_memOk h) (compareDigests_memOk (modTwn_memOk h))))) (flagRaise_memOk (count_memOk (modTwn_memOk (modTwn_memOk (ite_memOk (modTwn_memOk h) (compareDigests_memOk (modTwn_memOk h)))))))) (count_memOk (modTwn_memOk (ite_memOk (modTwn_memOk (modTwn_memOk (ite_memOk (modTwn_memOk h) (compareDigests_memOk (modTwn_memOk h))))) (flagRaise_memOk (count_memOk (modTwn_memOk (modTwn_memOk (ite_memOk (modTwn_memOk h) (compareDigests_memOk (modTwn_memOk h)))))))))))) (ite_memOk (outOfStep_memOk (ite_memOk (ite_memOk (modTwn_memOk (modTwn_memOk (ite_memOk (modTwn_memOk h) (compareDigests_memOk (modTwn_memOk h))))) (flagRaise_memOk (count_memOk (modTwn_memOk (modTwn_memOk (ite_memOk (modTwn_memOk h) (compareDigests_memOk (modTwn_memOk h)))))))) (count_memOk (modTwn_memOk (ite_memOk (modTwn_memOk (modTwn_memOk (ite_memOk (modTwn_memOk h) (compareDigests_memOk (modTwn_memOk h))))) (flagRaise_memOk (count_memOk (modTwn_memOk (modTwn_memOk (ite_memOk (modTwn_memOk h) (compareDigests_memOk (modTwn_memOk h)))))))))))) (ite_memOk (ite_memOk (modTwn_memOk (modTwn_memOk (ite_memOk (modTwn_memOk h) (compareDigests_memOk (modTwn_memOk h))))) (flagRaise_memOk (count_memOk (modTwn_memOk (modTwn_memOk (ite_memOk (modTwn_memOk h) (compareDigests_memOk (modTwn_memOk h)))))))) (count_memOk (modTwn_memOk (ite_memOk (modTwn_memOk (modTwn_memOk (ite_memOk (modTwn_memOk h) (compareDigests_memOk (modTwn_memOk h))))) (flagRaise_memOk (count_memOk (modTwn_memOk (modTwn_memOk (ite_memOk (modTwn_memOk h) (compareDigests_memOk (modTwn_memOk h))))))))))))) (ite_memOk (modTwn_memOk (modTwn_memOk (ite_memOk (modTwn_memOk h) (compareDigests_memOk (modTwn_memOk h))))) (flagRaise_memOk (count_memOk (modTwn_memOk (modTwn_memOk (ite_memOk (modTwn_memOk h) (compareDigests_memOk (modTwn_memOk h))))))))))
theorem twnTimeouts_memOk {s : State} {closed : Bool} (h : memOk s = true) : memOk (s.twnTimeouts closed) = true := by
  unfold State.twnTimeouts
  split
  · exact ite_memOk (takeover_memOk h) (ite_memOk (takeover_memOk h) h)
  · exact ite_memOk (resyncFail_memOk h) h
  · exact h
theorem twnSend_memOk {s : State} {b : Nat} {digest : W32} (h : memOk s = true) : memOk (s.twnSend b digest) = true := by
  unfold State.twnSend
  exact ite_memOk h (ite_memOk (modTwn_memOk h) (ite_memOk (emit_memOk (modTwn_memOk (emit_memOk (emit_memOk (modTwn_memOk h))))) (modTwn_memOk (emit_memOk (emit_memOk (modTwn_memOk h))))))
theorem busyWr_memOk {s : State} (h : memOk s = true) : memOk (s.busyWr) = true := by
  unfold State.busyWr
  exact flag_memOk h
theorem jobStart_memOk {s : State} {k : Nat} {granted : Bool} (h : memOk s = true) : memOk (s.jobStart k granted) = true := by
  unfold State.jobStart
  exact when_memOk (fun _ ht => unrunWords_memOk ht) (setSlot_memOk (ite_memOk (deny_memOk h) h))
theorem abortWrite_memOk {s : State} {k : Nat} (h : memOk s = true) : memOk (s.abortWrite k) = true := by
  unfold State.abortWrite
  exact ite_memOk (jobAborted_memOk (unrunWords_memOk h)) (ite_memOk (modSlot_memOk h) h)
theorem jobCmd_memOk {s : State} {k : Nat} {v : W32} {granted : Bool} (h : memOk s = true) : memOk (s.jobCmd k v granted) = true := by
  unfold State.jobCmd
  exact ite_memOk (abortWrite_memOk (when_memOk (fun _ ht => busyWr_memOk ht) h)) (ite_memOk (busyWr_memOk h) (ite_memOk (busyWr_memOk h) (ite_memOk (jobStart_memOk (modSlot_memOk h)) (modSlot_memOk h))))
theorem jobArg_memOk {s : State} {k : Nat} {i : Nat} {v : W32} (h : memOk s = true) : memOk (s.jobArg k i v) = true := by
  unfold State.jobArg
  exact ite_memOk (busyWr_memOk h) (modSlot_memOk h)
theorem dmaStop_memOk {s : State} {k : Nat} (h : memOk s = true) : memOk (s.dmaStop k) = true := by
  unfold State.dmaStop
  split
  · exact ite_memOk (resultWrite_memOk (eta_memOk h)) h
  · exact h
theorem workStop_memOk {s : State} {k : Nat} (h : memOk s = true) : memOk (s.workStop k) = true := by
  unfold State.workStop
  split
  · exact sceneClose_memOk h
  · exact marchAbort_memOk h
  · exact migrateAbort_memOk h
  · exact resyncAbort_memOk h
  · split
    · exact ite_memOk (prvStop_memOk h) h
    · exact h
  · exact sweepAbort_memOk h
  · exact dmaStop_memOk h
  · exact dmaStop_memOk h
  · exact h
theorem jobStop_memOk {s : State} {k : Nat} (h : memOk s = true) : memOk (s.jobStop k) = true := by
  unfold State.jobStop
  exact jobAborted_memOk (ite_memOk (workStop_memOk h) (unrunWords_memOk h))
theorem jobsStop_memOk {s : State} {kinds : List Nat} (h : memOk s = true) : memOk (s.jobsStop kinds) = true := by
  unfold State.jobsStop
  exact foldS_memOk (fun _ _ ht => ite_memOk (jobStop_memOk ht) ht) h
theorem macsSet_memOk {s : State} (h : memOk s = true) : memOk (s.macsSet) = true := by
  unfold State.macsSet
  exact foldS_memOk (fun _ _ ht => wr_memOk (wr_memOk ht)) h
theorem modSys_memOk {s : State} {f : SysSt → SysSt} (h : memOk s = true) : memOk (s.modSys f) = true := by
  unfold State.modSys
  exact eta_memOk h
theorem flushWrites_memOk {s : State} (h : memOk s = true) : memOk (s.flushWrites) = true := by
  unfold State.flushWrites
  exact timesN_memOk (fun _ ht => issueOldest_memOk ht) (timesN_memOk (fun _ ht => issueOldest_memOk ht) h)
theorem retain_memOk {s : State} (h : memOk s = true) : memOk (s.retain) = true := by
  unfold State.retain
  exact etaDram_memOk (flushWrites_memOk h)
theorem hwEngineReset_memOk {s : State} (h : memOk s = true) : memOk (s.hwEngineReset) = true := by
  unfold State.hwEngineReset
  refine modHwd_memOk (fun _ hm => hm) ?_
  split
  · exact setCh_memOk h
  · exact h
theorem engineDown_memOk {s : State} {ph : Phase} (h : memOk s = true) : memOk (s.engineDown ph) = true :=
  memOk_iff.mpr ⟨rfl, (dramOk (hwEngineReset_memOk h) :), (mramOk (hwEngineReset_memOk h) :)⟩
theorem warmReset_memOk {s : State} {cause : Nat} (h : memOk s = true) : memOk (s.warmReset cause) = true := by
  unfold State.warmReset
  exact eta_memOk (engineDown_memOk (retain_memOk h))
theorem faultDigest_memOk {s : State} (h : memOk s = true) : memOk (s.faultDigest) = true := by
  unfold State.faultDigest
  exact ite_memOk (emit_memOk h) h
theorem sysReset_memOk {s : State} {v : W32} (h : memOk s = true) : memOk (s.sysReset v) = true := by
  unfold State.sysReset
  exact ite_memOk (warmReset_memOk (faultDigest_memOk h)) h
theorem napDown_memOk {s : State} (h : memOk s = true) : memOk s.napDown = true :=
  memOk_iff.mpr ⟨rfl, rfl, (mramOk (engineDown_memOk (ph := .nap) (hwPowerDown_memOk h)) :)⟩
theorem entryWrite_memOk {s : State} {e : LedgerEntry} {st : Nat} {outcome : Nat} (h : memOk s = true) : memOk (s.entryWrite e st outcome) = true := by
  unfold State.entryWrite
  exact engineWrite_memOk h
theorem hold_memOk {s : State} {e : LedgerEntry} (h : memOk s = true) : memOk (s.hold e) = true := by
  unfold State.hold
  exact ite_memOk (emit_memOk (entryWrite_memOk (eta_memOk h))) (entryWrite_memOk (eta_memOk h))
theorem submit_memOk {s : State} {v : W32} (h : memOk s = true) : memOk (s.submit v) = true := by
  unfold State.submit
  exact ite_memOk (deny_memOk (eta_memOk (eta_memOk h))) (ite_memOk (raiseOnce_memOk (count_memOk (eta_memOk (eta_memOk h)))) (ite_memOk (hold_memOk (eta_memOk (eta_memOk h))) (eta_memOk (eta_memOk h))))
theorem subWrite_memOk {s : State} {k : Nat} {v : W32} (h : memOk s = true) : memOk (s.subWrite k v) = true := by
  unfold State.subWrite
  exact eta_memOk h
theorem clearRc_memOk {s : State} {b : Block} {off : Nat} (h : memOk s = true) : memOk (s.clearRc b off) = true := by
  unfold State.clearRc
  dsimp only
  split
  · exact h
  · exact ite_memOk (ite_memOk (eta_memOk h) (ite_memOk (modPwd_memOk h) (unwr_memOk h))) h
theorem hostReg_memOk {s : State} {addr : Nat} (h : memOk s = true) : memOk (s.hostReg addr).1 = true := by
  unfold State.hostReg
  split
  · exact pair_memOk (unmappedAt_memOk h)
  · exact ite_fst_memOk (pair_memOk (trkTimeout_memOk h)) (ite_fst_memOk (rsRead_memOk h) (pair_memOk (when_memOk (fun _ ht => drawn_memOk ht) (clearRc_memOk (eta_memOk h)))))
theorem monReg_memOk {s : State} {addr : Nat} (h : memOk s = true) : memOk (s.monReg addr).1 = true := by
  unfold State.monReg
  split
  · exact pair_memOk h
  · exact ite_fst_memOk (pair_memOk h) (pair_memOk (when_memOk (fun _ ht => drawn_memOk ht) (eta_memOk h)))
theorem ignored_memOk {s : State} {b : Block} {r : RegSpec} (h : memOk s = true) : memOk (s.ignored b r) = true := by
  unfold State.ignored
  exact when_memOk (fun _ ht => lockViol_memOk ht) (when_memOk (fun _ ht => cfgIgnored_memOk ht) h)
theorem plainWrite_memOk {s : State} {b : Block} {a : Nat} {r : RegSpec} {v : W32} (h : memOk s = true) : memOk (s.plainWrite b a r v) = true := by
  unfold State.plainWrite
  exact ignored_memOk (when_memOk (fun _ ht => modSys_memOk ht) (wr_memOk h))
theorem commitWrite_memOk {s : State} {v : W32} (h : memOk s = true) : memOk (s.commitWrite v) = true := by
  unfold State.commitWrite
  exact ite_memOk (eta_memOk (wr_memOk h)) (wr_memOk h)
theorem refWrite_memOk {s : State} {v : W32} (h : memOk s = true) : memOk (s.refWrite v) = true := by
  unfold State.refWrite
  exact eta_memOk (wr_memOk h)
theorem pendWrite_memOk {s : State} {k : Nat} {v : W32} (h : memOk s = true) : memOk (s.pendWrite k v) = true := by
  unfold State.pendWrite
  exact when_memOk (fun _ ht => vector_memOk ht) (wr_memOk h)
theorem realign_memOk {s : State} {v : W32} (h : memOk s = true) : memOk (s.realign v) = true := by
  unfold State.realign
  exact ite_memOk h (ite_memOk (eta_memOk h) (flagRaise_memOk h))
theorem priWrite_memOk {s : State} {v : W32} (h : memOk s = true) : memOk (s.priWrite v) = true := by
  unfold State.priWrite
  exact ite_memOk (lockViol_memOk h) (grfPriSet_memOk h)
theorem hqCtlWrite_memOk {s : State} {v : W32} (h : memOk s = true) : memOk (s.hqCtlWrite v) = true := by
  unfold State.hqCtlWrite
  exact eta_memOk (wr_memOk h)
theorem mclkWrite_memOk {s : State} {v : W32} (h : memOk s = true) : memOk (s.mclkWrite v) = true := by
  unfold State.mclkWrite
  exact emit_memOk (wr_memOk h)
theorem rtcWrite_memOk {s : State} {v : W32} (h : memOk s = true) : memOk (s.rtcWrite v) = true := by
  unfold State.rtcWrite
  exact modPwd_memOk (wr_memOk h)
theorem baudWrite_memOk {s : State} {v : W32} (h : memOk s = true) : memOk (s.baudWrite v) = true := by
  unfold State.baudWrite
  exact ite_memOk (eta_memOk (wr_memOk h)) (eta_memOk h)
theorem sideWrite_memOk {s : State} {path : Nat} {b : Block} {off : Nat} {v : W32} (h : memOk s = true) : ∀ t ∈ s.sideWrite path b off v, memOk t = true := by
  unfold State.sideWrite
  split
  · exact ite_opt_memOk (some_memOk (sysReset_memOk h)) (ite_opt_memOk (some_memOk (commitWrite_memOk h)) (ite_opt_memOk (some_memOk (refWrite_memOk h)) none_memOk))
  · exact ite_opt_memOk (some_memOk (pendWrite_memOk h)) (ite_opt_memOk (some_memOk (raise_memOk h)) none_memOk)
  · exact ite_opt_memOk (some_memOk (realign_memOk h)) none_memOk
  · split
    · exact ite_opt_memOk (some_memOk (jobCmd_memOk h)) (ite_opt_memOk (some_memOk (jobArg_memOk h)) (some_memOk h))
    · exact none_memOk
  · exact ite_opt_memOk (some_memOk (subWrite_memOk h)) (ite_opt_memOk (some_memOk (submit_memOk h)) none_memOk)
  · exact ite_opt_memOk (some_memOk (grfSelSet_memOk h)) (ite_opt_memOk (some_memOk (priWrite_memOk h)) none_memOk)
  · exact ite_opt_memOk (some_memOk (rngDlySet_memOk h)) (ite_opt_memOk (some_memOk (rngLenSet_memOk h)) (ite_opt_memOk (some_memOk (rngCancel_memOk h)) none_memOk))
  · exact ite_opt_memOk (some_memOk (detSet_memOk h)) (ite_opt_memOk (some_memOk (sclSet_memOk h)) none_memOk)
  · exact ite_opt_memOk (some_memOk (portCtl_memOk h)) (ite_opt_memOk (some_memOk (slotMask_memOk h)) (ite_opt_memOk (some_memOk (slotMask_memOk h)) none_memOk))
  · exact ite_opt_memOk (some_memOk (portCtl_memOk h)) none_memOk
  · exact ite_opt_memOk (some_memOk (mclkWrite_memOk h)) none_memOk
  · exact ite_opt_memOk (some_memOk (portCtl_memOk h)) none_memOk
  · exact ite_opt_memOk (some_memOk (netCtl_memOk h)) none_memOk
  · exact ite_opt_memOk (some_memOk (applyWrite_memOk h)) (ite_opt_memOk (some_memOk (hqCtlWrite_memOk h)) none_memOk)
  · exact ite_opt_memOk (some_memOk (timCtl_memOk h)) (ite_opt_memOk (some_memOk (stepAck_memOk h)) (ite_opt_memOk (some_memOk (ppsCtl_memOk h)) none_memOk))
  · exact ite_opt_memOk (some_memOk (repSet_memOk h)) none_memOk
  · exact ite_opt_memOk (some_memOk h) (ite_opt_memOk (some_memOk (twinPair_memOk h)) none_memOk)
  · exact ite_opt_memOk (some_memOk (rsWrite_memOk h)) (ite_opt_memOk (some_memOk (rsSave_memOk h)) (ite_opt_memOk (some_memOk (chCfg_memOk h)) (ite_opt_memOk (some_memOk (chCfg_memOk h)) none_memOk)))
  · exact ite_opt_memOk (some_memOk (ite_memOk (ite_memOk (unseal_memOk h) h) (reseal_memOk h))) none_memOk
  · exact ite_opt_memOk (some_memOk (napRequest_memOk h)) (ite_opt_memOk (some_memOk (latchClr_memOk h)) (ite_opt_memOk (some_memOk (rtcWrite_memOk h)) none_memOk))
  · exact ite_opt_memOk (some_memOk (baudWrite_memOk h)) none_memOk
  · exact none_memOk
theorem blockWrite_memOk {s : State} {path : Nat} {b : Block} {off : Nat} {v : W32} (h : memOk s = true) : memOk (s.blockWrite path b off v) = true := by
  unfold State.blockWrite
  extract_lets a held
  refine ite_memOk h ?_
  split
  · exact flag_memOk h
  · split
    · next t ht => exact sideWrite_memOk h t ht
    · split
      · exact plainWrite_memOk h
      · exact h
theorem regWrite_memOk {s : State} {path : Nat} {addr : Nat} {v : W32} (h : memOk s = true) : memOk (s.regWrite path addr v) = true := by
  unfold State.regWrite
  split
  · exact ite_memOk (unmappedAt_memOk h) h
  · exact ite_memOk h (ite_memOk (deny_memOk h) (ite_memOk (trkTimeout_memOk h) (blockWrite_memOk h)))
theorem msixWrite_memOk {s : State} {k : Nat} {v : W32} (h : memOk s = true) : memOk (s.msixWrite k v) = true := by
  unfold State.msixWrite
  exact ite_memOk (vector_memOk (eta_memOk (eta_memOk h))) (eta_memOk h)
theorem narrowAt_memOk {s : State} {addr : Nat} (h : memOk s = true) : memOk (s.narrowAt addr) = true := by
  unfold State.narrowAt
  exact ite_memOk (unmappedAt_memOk (raise_memOk (wr_memOk (flag_memOk h)))) (raise_memOk (wr_memOk (flag_memOk h)))
theorem hostWrite_memOk {s : State} {addr : Nat} {width : Width} {v : W32} {hit : WriteHit} (h : memOk s = true) : memOk (s.hostWrite addr width v hit) = true := by
  unfold State.hostWrite
  refine ite_memOk ?_ (ite_memOk (unmappedAt_memOk h) (ite_memOk (ite_memOk h (poolWr_memOk h)) (ite_memOk (ite_memOk h (fulWrite_memOk h)) (ite_memOk (unmappedAt_memOk h) (ite_memOk (ite_memOk h (gainWin_memOk h)) (ite_memOk (unmappedAt_memOk h) (ite_memOk (apWrite_memOk h) (unmappedAt_memOk h))))))))
  refine ite_memOk ?_ (ite_memOk (regWrite_memOk h) (narrowAt_memOk h))
  split
  · exact ite_memOk (msixWrite_memOk h) h
  · exact h
  · exact narrowAt_memOk h
theorem poolRead_memOk {s : State} {off : Nat} {ecc : Option EccKind} (h : memOk s = true) : memOk (s.poolRead off ecc).1 = true := by
  unfold State.poolRead
  refine pair_memOk ?_
  split
  · exact poolEcc_memOk (drawn_memOk h)
  · exact h
theorem hostRead_memOk {s : State} {addr : Nat} {hit : ReadHit} (h : memOk s = true) : memOk (s.hostRead addr hit).1 = true := by
  unfold State.hostRead
  exact ite_fst_memOk (ite_fst_memOk (pair_memOk h) (pair_memOk (hostReg_memOk h))) (ite_fst_memOk (pair_memOk (pair_memOk (unmappedAt_memOk h))) (ite_fst_memOk (pair_memOk (ite_fst_memOk (pair_memOk h) (poolRead_memOk h))) (ite_fst_memOk (ite_fst_memOk (pair_memOk (pair_memOk h)) (pair_memOk (fulRead_memOk h))) (ite_fst_memOk (pair_memOk (pair_memOk (unmappedAt_memOk h))) (ite_fst_memOk (ite_fst_memOk (pair_memOk (pair_memOk h)) (pair_memOk (gainRead_memOk h))) (ite_fst_memOk (apRead_memOk h) (pair_memOk (pair_memOk (unmappedAt_memOk h)))))))))
theorem hostReadOut_memOk {s : State} {addr : Nat} {hit : ReadHit} (h : memOk s = true) : memOk (s.hostReadOut addr hit) = true := by
  unfold State.hostReadOut
  dsimp only
  split
  · exact answer_memOk (hostRead_memOk h)
  · exact hostRead_memOk h
theorem modImg_memOk {s : State} {f : ImgSt → ImgSt} (h : memOk s = true) : memOk (s.modImg f) = true := by
  unfold State.modImg
  exact eta_memOk h
theorem imgIdle_memOk {s : State} (h : memOk s = true) : memOk (s.imgIdle) = true := by
  unfold State.imgIdle
  exact modImg_memOk h
theorem imgRefuse_memOk {s : State} {k : Nat} {code : Nat} {sec : Nat} {known : ImgKnown} (h : memOk s = true) : memOk (s.imgRefuse k code sec known) = true := by
  unfold State.imgRefuse
  exact jobFin_memOk (resultWrite_memOk (imgFailed_memOk (imgIdle_memOk h)))
theorem imgRefuseTell_memOk {s : State} {k : Nat} {code : Nat} {sec : Nat} {known : ImgKnown} (h : memOk s = true) : memOk (s.imgRefuseTell k code sec known) = true := by
  unfold State.imgRefuseTell
  exact when_memOk (fun _ ht => emit_memOk ht) (imgRefuse_memOk h)
theorem readStaging_memOk {s : State} (h : memOk s = true) : memOk (s.readStaging).1 = true := by
  unfold State.readStaging
  exact pair_memOk (engineRead_memOk h)
theorem flashOpen_memOk {s : State} (h : memOk s = true) : memOk (s.flashOpen) = true := by
  unfold State.flashOpen
  exact emit_memOk (emit_memOk (emit_memOk h))
theorem imgSource_memOk {s : State} {src : Nat} {bytes : Option (List Byte)} (h : memOk s = true) : memOk (s.imgSource src bytes).1 = true := by
  unfold State.imgSource
  exact ite_fst_memOk (pair_memOk (when_memOk (fun _ ht => emit_memOk ht) (flashOpen_memOk h))) (ite_fst_memOk (pair_memOk h) (ite_fst_memOk (readStaging_memOk h) (pair_memOk h)))
theorem imgNamed_memOk {s : State} {k : Nat} {t : Nat} {rs : List (Nat × Nat)} (h : memOk s = true) : memOk (s.imgNamed k t rs) = true := by
  unfold State.imgNamed
  exact ite_memOk (modImg_memOk h) (modImg_memOk h)
theorem imgDecide_memOk {s : State} {named : Option Nat} (h : memOk s = true) : memOk (s.imgDecide named) = true := by
  unfold State.imgDecide
  split
  · split
    · exact imgRefuse_memOk h
    · refine ite_memOk (emit_memOk (imgNamed_memOk h)) ?_
      split
      · exact imgNamed_memOk h
      · exact h
  · exact h
theorem imgStage_memOk {s : State} {k : Nat} {src : Nat} {bytes : List Byte} {i : Image} (h : memOk s = true) : memOk (s.imgStage k src bytes i) = true := by
  unfold State.imgStage
  exact ite_memOk (imgDecide_memOk (emit_memOk (modImg_memOk (modImg_memOk (resultWrite_memOk (ite_memOk h (engineWrite_memOk h))))))) (modImg_memOk (modImg_memOk (resultWrite_memOk (ite_memOk h (engineWrite_memOk h)))))
theorem imgPhase1_memOk {s : State} {k : Nat} {bytes : Option (List Byte)} (h : memOk s = true) : memOk (s.imgPhase1 k bytes) = true := by
  unfold State.imgPhase1
  dsimp only
  split
  · exact imgRefuseTell_memOk (imgSource_memOk h)
  · split
    · exact imgRefuseTell_memOk (jobProgress_memOk (imgSource_memOk h))
    · exact ite_memOk (imgRefuseTell_memOk (deny_memOk (jobProgress_memOk (imgSource_memOk h)))) (ite_memOk (imgRefuseTell_memOk (jobProgress_memOk (imgSource_memOk h))) (ite_memOk (imgRefuse_memOk (jobProgress_memOk (imgSource_memOk h))) (imgStage_memOk (jobProgress_memOk (imgSource_memOk h)))))
theorem imgAbort_memOk {s : State} {k : Nat} (h : memOk s = true) : memOk (s.imgAbort k) = true := by
  unfold State.imgAbort
  exact jobAborted_memOk (resultWrite_memOk (imgIdle_memOk h))
theorem imgRun_memOk {s : State} {k : Nat} {kind : Nat} {bytes : Option (List Byte)} (h : memOk s = true) : memOk (s.imgRun k kind bytes) = true := by
  unfold State.imgRun
  exact ite_memOk h (ite_memOk (jobFrozen_memOk (jobTryBegin_memOk h)) (ite_memOk (imgAbort_memOk (jobTryBegin_memOk h)) (imgPhase1_memOk (jobTryBegin_memOk h))))
theorem reginitPair_memOk {s : State} {q : W32 × W32} (h : memOk s = true) : memOk (s.reginitPair q) = true := by
  unfold State.reginitPair
  exact ite_memOk (modImg_memOk (modImg_memOk (when_memOk (fun _ ht => regWrite_memOk ht) h))) (regWrite_memOk (when_memOk (fun _ ht => modImg_memOk ht) h))
theorem reginit_memOk {s : State} {pairs : List (W32 × W32)} (h : memOk s = true) : memOk (s.reginit pairs) = true := by
  unfold State.reginit
  exact foldS_memOk (fun _ _ ht => reginitPair_memOk ht) (modImg_memOk (foldS_memOk (fun _ _ ht => unflag_memOk ht) h))
theorem heldApply_memOk {s : State} (h : memOk s = true) : memOk (s.heldApply) = true := by
  unfold State.heldApply
  exact modImg_memOk (foldS_memOk (fun _ _ ht => regWrite_memOk ht) h)
theorem distribute_memOk {s : State} {i : Image} (h : memOk s = true) : memOk (s.distribute i) = true := by
  unfold State.distribute
  exact reginit_memOk (modImg_memOk (eta_memOk (coresRevived_memOk (portsClear_memOk (clearAll_memOk h)))))
theorem imgShow_memOk {s : State} {src : Nat} (h : memOk s = true) : memOk (s.imgShow src) = true := by
  unfold State.imgShow
  exact modImg_memOk h
theorem phase2Begin_memOk {s : State} {b : Nat} (h : memOk s = true) : memOk (s.phase2Begin b) = true := by
  unfold State.phase2Begin
  exact modImg_memOk (portsTick_memOk (jobsStop_memOk h))
theorem loadCounters_memOk {s : State} (h : memOk s = true) : memOk (s.loadCounters) = true := by
  unfold State.loadCounters
  exact eta_memOk h
theorem tickEntry_memOk {s : State} {b : Nat} (h : memOk s = true) : memOk (s.tickEntry b) = true := by
  unfold State.tickEntry
  exact selEvalAll_memOk (tileGating_memOk (enterCores_memOk (portsTick_memOk h)))
theorem mediaStart_memOk {s : State} (h : memOk s = true) : memOk (s.mediaStart) = true := by
  unfold State.mediaStart
  exact eta_memOk (tickEntry_memOk (modSys_memOk (heldApply_memOk (pllStart_memOk (eta_memOk (eta_memOk (modTim_memOk (loadCounters_memOk h))))))))
theorem commitMade_memOk {s : State} (h : memOk s = true) : memOk (s.commitMade) = true := by
  unfold State.commitMade
  exact modSys_memOk h
theorem imgFinish_memOk {s : State} (h : memOk s = true) : memOk (s.imgFinish) = true := by
  unfold State.imgFinish
  split
  · exact h
  · dsimp only
    split
    · exact ite_memOk (jobAborted_memOk (resultMore_memOk (imgIdle_memOk (wr_memOk (count_memOk (imgShow_memOk h)))))) (jobFin_memOk (resultMore_memOk (imgIdle_memOk (wr_memOk (count_memOk (imgShow_memOk h))))))
    · exact modImg_memOk (imgIdle_memOk (wr_memOk (count_memOk (imgShow_memOk h))))
theorem imgStarting_memOk {s : State} (h : memOk s = true) : memOk (s.imgStarting) = true := by
  unfold State.imgStarting
  exact ite_memOk (imgFinish_memOk (modImg_memOk h)) (modImg_memOk h)
theorem imgLeadTick_memOk {s : State} (h : memOk s = true) : memOk (s.imgLeadTick) = true := by
  unfold State.imgLeadTick
  split
  · exact ite_memOk (imgFinish_memOk h) (modImg_memOk h)
  · exact h
theorem graftLost_memOk {s : State} (h : memOk s = true) : memOk (s.graftLost) = true := by
  unfold State.graftLost
  split
  · exact imgRefuse_memOk (modTwn_memOk h)
  · exact h
theorem graftBegin_memOk {s : State} (h : memOk s = true) : memOk (s.graftBegin) = true := by
  unfold State.graftBegin
  split
  · exact h
  · exact ite_memOk (graftLost_memOk h) (ite_memOk (modTwn_memOk h) (imgShow_memOk (heldApply_memOk (distribute_memOk (modTwn_memOk (modTwn_memOk h))))))
theorem carryRegion_memOk {s : State} {c : StateCopy} {a : Region} {b : Region} (h : memOk s = true) : memOk (s.carryRegion c a b) = true := by
  unfold State.carryRegion
  dsimp only
  split
  · exact setCore_memOk h
  · exact setCore_memOk h
  · exact poolWr_memOk h
  · exact h
theorem carryParams_memOk {s : State} {c : StateCopy} {o : Structure} {p : Nat × CoreInfo} (h : memOk s = true) : memOk (s.carryParams c o p) = true := by
  unfold State.carryParams
  split
  · exact h
  · exact setCore_memOk h
theorem graftApply_memOk {s : State} {o n : Image} {c : StateCopy} (h : memOk s = true) : memOk (s.graftApply o n c) = true := by
  unfold State.graftApply
  extract_lets pairs regions dram bytes params bases
  have hregions : memOk regions = true := foldS_memOk (fun _ _ ht => carryRegion_memOk ht) h
  have hbytes : memOk bytes = true := memOk_dram (spSets_wf Prod.fst Prod.snd _ _ (dramOk hregions)) hregions
  exact memOk_of_same rfl rfl rfl (foldS_memOk (f := fun (t : State) p => t.carryParams c o.structure' p) (fun _ _ ht => carryParams_memOk ht) hbytes)
theorem graftSwap_memOk {s : State} {b : Nat} (h : memOk s = true) : memOk (s.graftSwap b) = true := by
  unfold State.graftSwap
  split
  · exact ite_memOk (raise_memOk (takeover_memOk (modImg_memOk h))) (ite_memOk (resyncStart_memOk (imgShow_memOk (heldApply_memOk (distribute_memOk (raise_memOk (ite_memOk (modClk_memOk (modTwn_memOk (modImg_memOk h))) (modTwn_memOk (modImg_memOk h)))))))) (modImg_memOk h))
  · exact h
theorem graftWatch_memOk {s : State} {b : Nat} (h : memOk s = true) : memOk (s.graftWatch b) = true := by
  unfold State.graftWatch
  dsimp only
  split
  · exact ite_memOk h (ite_memOk (modImg_memOk h) (graftLost_memOk h))
  · exact ite_memOk (graftLost_memOk (ite_memOk (modTwn_memOk h) h)) h
  · exact ite_memOk (graftLost_memOk h) (ite_memOk (graftEnd_memOk (takeover_memOk (modImg_memOk h))) h)
  · exact ite_memOk (graftEnd_memOk h) h
  · exact h
theorem modLedger_memOk {s : State} {f : LedgerState → LedgerState} (h : memOk s = true) : memOk (s.modLedger f) = true := by
  unfold State.modLedger
  exact eta_memOk h
theorem ledgerVector_memOk {s : State} (h : memOk s = true) : memOk (s.ledgerVector) = true := by
  unfold State.ledgerVector
  exact ite_memOk h (vector_memOk (eta_memOk h))
theorem ledgerAccept_memOk {s : State} {b : Nat} (h : memOk s = true) : memOk (s.ledgerAccept b) = true := by
  unfold State.ledgerAccept
  exact ite_memOk h (trace_memOk (ledgerVector_memOk (modLedger_memOk (foldS_memOk (fun _ _ ht => entryWrite_memOk ht) h))))
theorem ledgerWrite_memOk {s : State} {args : List W32} {granted : Bool} (h : memOk s = true) : memOk (s.ledgerWrite args granted).1 = true := by
  unfold State.ledgerWrite
  dsimp only
  split
  · refine ite_fst_memOk ?_ (pair_memOk (unmappedAt_memOk h))
    split
    · exact ite_fst_memOk (pair_memOk (msixWrite_memOk h)) (pair_memOk h)
    · exact pair_memOk h
  · exact pair_memOk (regWrite_memOk h)
theorem ledgerOp_memOk {s : State} {e : LedgerEntry} (h : memOk s = true) : memOk (s.ledgerOp e).1 = true := by
  unfold State.ledgerOp
  split
  · exact ledgerWrite_memOk h
  · exact pair_memOk (swapJoin_memOk h)
  · exact pair_memOk (announce_memOk h)
  · exact pair_memOk (roleSwap_memOk h)
  · exact pair_memOk h
theorem executed_memOk {s : State} {b : Nat} {e : LedgerEntry} {outcome : Nat} (h : memOk s = true) : memOk (s.executed b e outcome) = true := by
  unfold State.executed
  exact trace_memOk (ite_memOk (ledgerVector_memOk (entryWrite_memOk (modLedger_memOk h))) (entryWrite_memOk (modLedger_memOk h)))
theorem lateCount_memOk {s : State} (h : memOk s = true) : memOk (s.lateCount) = true := by
  unfold State.lateCount
  exact raiseOnce_memOk (count_memOk (flag_memOk h))
theorem ledgerRun_memOk {s : State} {b : Nat} {e : LedgerEntry} (h : memOk s = true) : memOk (s.ledgerRun b e) = true := by
  unfold State.ledgerRun
  exact ite_memOk (lateCount_memOk (entryWrite_memOk (modLedger_memOk h))) (ite_memOk (executed_memOk (ledgerOp_memOk (ite_memOk (lateCount_memOk h) h))) (ledgerOp_memOk (executed_memOk (ite_memOk (lateCount_memOk h) h))))
theorem ledgerExecute_memOk {b fuel : Nat} {s : State} (h : memOk s = true) : memOk (State.ledgerExecute b fuel s) = true := by
  induction fuel generalizing s with
  | zero => exact h
  | succ fuel ih =>
    unfold State.ledgerExecute
    refine ite_memOk h ?_
    split
    · exact h
    · exact ih (ledgerRun_memOk h)
theorem ledgerStep_memOk {s : State} {op : Nat} {seq : Nat} (h : memOk s = true) : memOk (s.ledgerStep op seq) = true := by
  unfold State.ledgerStep
  dsimp only
  split
  · exact ite_memOk (ledgerRun_memOk h) h
  · exact h
theorem ledgerConflict_memOk {s : State} {e : LedgerEntry} {r : RecordMsg} (h : memOk s = true) : memOk (s.ledgerConflict e r) = true := by
  unfold State.ledgerConflict
  exact ite_memOk (flagRaise_memOk (count_memOk h)) (entryWrite_memOk (modLedger_memOk (flagRaise_memOk (count_memOk h))))
theorem dumpOne_memOk {s : State} (h : memOk s = true) : memOk (s.dumpOne) = true := by
  unfold State.dumpOne
  split
  · exact h
  · split
    · exact h
    · exact jobProgress_memOk (eta_memOk (emit_memOk (engineRead_memOk h)))
theorem startNow_memOk {s : State} {cause : Nat} (h : memOk s = true) : memOk (s.startNow cause) = true := by
  unfold State.startNow
  exact modSys_memOk (modPwd_memOk h)
theorem migAgain_memOk {s : State} {ch : Nat} {m : Option Migration} (h : memOk s = true) : memOk (s.migAgain ch m) = true := by
  unfold State.migAgain
  split
  · exact ite_memOk (migStart_memOk (modChan_memOk h)) h
  · exact h
theorem ledgerLost_memOk {s : State} (h : memOk s = true) : memOk s.ledgerLost = true := by
  unfold State.ledgerLost
  exact flagRaise_memOk (memOk_dram (memClear_wf _ _ _ (dramOk h)) h)
theorem dramStart_memOk {s : State} {obs : WakeObs} (h : memOk s = true) : memOk (s.dramStart obs) = true := by
  have hdetect := dramDetect_memOk (r0 := obs.ranks0) (r1 := obs.ranks1) h
  unfold State.dramStart
  extract_lets old t same
  have hclear : memOk { t with dram := { t.dram with mem := [], poison := [], ret := [] } } = true := memOk_dram rfl hdetect
  refine ite_memOk (ledgerLost_memOk hclear) ?_
  split
  · next a b _ _ =>
    have hkept : memOk { t with dram := { t.dram with ch0 := a, ch1 := b, ret := [] } } = true := memOk_of_same rfl rfl rfl hdetect
    have hagain := migAgain_memOk (ch := 1) (m := old.ch1.copying) (migAgain_memOk (ch := 0) (m := old.ch0.copying) hkept)
    exact ite_memOk hagain (ledgerLost_memOk (raise_memOk (flag_memOk (flag_memOk hagain))))
  · exact ledgerLost_memOk (raise_memOk (flag_memOk (flag_memOk hclear)))
theorem bootLoad_memOk {s : State} {place : Nat} {bytes : Option (List Byte)} (h : memOk s = true) : memOk (s.bootLoad place bytes).1 = true := by
  unfold State.bootLoad
  split
  · exact pair_memOk (distribute_memOk (engineWrite_memOk h))
  · exact pair_memOk (imgFailed_memOk h)
theorem bootStart_memOk {s : State} {obs : WakeObs} (h : memOk s = true) : memOk (s.bootStart obs) = true := by
  unfold State.bootStart
  exact ite_memOk h (ite_memOk (count_memOk (imgShow_memOk (bootLoad_memOk (emit_memOk (when_memOk (fun _ ht => emit_memOk (emit_memOk ht)) (flashOpen_memOk h)))))) (modImg_memOk (flag_memOk (bootLoad_memOk (emit_memOk (when_memOk (fun _ ht => emit_memOk (emit_memOk ht)) (flashOpen_memOk h)))))))
theorem mediaWithImage_memOk {s : State} (h : memOk s = true) : memOk (s.mediaWithImage) = true := by
  unfold State.mediaWithImage
  exact ite_memOk (commitMade_memOk (mediaStart_memOk h)) h
theorem raiseLate_memOk {s : State} {e : Nat} (h : memOk s = true) : memOk (s.raiseLate e) = true := by
  unfold State.raiseLate
  exact ite_memOk (flagRaise_memOk h) (ite_memOk (flagRaise_memOk h) (ite_memOk (flagRaise_memOk h) (raise_memOk h)))
theorem wakeTaken_memOk {s : State} {source : Nat} (h : memOk s = true) : memOk (s.wakeTaken source) = true := by
  unfold State.wakeTaken
  exact ite_memOk (presentOn_memOk h) (ite_memOk (timesN_memOk (fun _ ht => sealSample_memOk ht) h) (ite_memOk (prsElapse_memOk (rtcAdvance_memOk h)) h))
theorem wakeNow_memOk {s : State} {source : Nat} {cin : Nat} (h : memOk s = true) : memOk (s.wakeNow source cin) = true := by
  unfold State.wakeNow
  exact ite_memOk (hwPowerUp_memOk (startNow_memOk (count_memOk (modPwd_memOk h)))) (startNow_memOk (count_memOk (modPwd_memOk h)))
theorem napTime_memOk {s : State} (h : memOk s = true) : memOk (s.napTime) = true := by
  unfold State.napTime
  split
  · exact ite_memOk h (ite_memOk (wakeNow_memOk h) (modPwd_memOk h))
  · exact h
theorem hostReg32_memOk {s : State} {a : Nat} {v : W32} (h : memOk s = true) : memOk (s.hostReg32 a v) = true := by
  unfold State.hostReg32
  exact byHost_memOk (fun _ ht => regWrite_memOk ht) h
theorem endpointReset_memOk {s : State} (h : memOk s = true) : memOk (s.endpointReset) = true := by
  unfold State.endpointReset
  exact foldS_memOk (fun _ _ ht => isolateWaiting_memOk ht) (eta_memOk h)
theorem spiEnd_memOk {s : State} {tag : Byte} {code : Nat} (h : memOk s = true) : memOk (s.spiEnd tag code) = true := by
  unfold State.spiEnd
  exact ite_memOk (wr_memOk (eta_memOk h)) (flagRaise_memOk (count_memOk (wr_memOk (eta_memOk h))))
theorem spiStore_memOk {s : State} {a : Nat} {ws : List W32} (h : memOk s = true) : memOk (s.spiStore a ws) = true := by
  induction ws generalizing s a with
  | nil => exact h
  | cons w ws ih => exact ih (ite_memOk (hostWrite_memOk h) h)
theorem spiLoad_memOk {s : State} {a n : Nat} {ws : List W32} (h : memOk s = true) : memOk (s.spiLoad a n ws).1 = true := by
  induction n generalizing s a ws with
  | zero => exact h
  | succ n ih =>
    unfold State.spiLoad
    dsimp only
    split
    · exact ih (hostRead_memOk h)
    · exact hostRead_memOk h
theorem spiRead_memOk {s : State} {bytes : List Byte} {waits : Nat} {late : Bool} (h : memOk s = true) : memOk (s.spiRead bytes waits late) = true := by
  unfold State.spiRead
  refine ite_memOk h ?_
  refine ite_memOk (spiEnd_memOk h) ?_
  refine ite_memOk (spiEnd_memOk (emit_memOk h)) ?_
  dsimp only
  split
  · exact ite_memOk (spiEnd_memOk (emit_memOk (spiLoad_memOk h))) (spiEnd_memOk (emit_memOk (spiLoad_memOk h)))
  · exact spiEnd_memOk (emit_memOk (spiLoad_memOk h))
theorem stampsMove_memOk {s : State} {old : Nat} {new : Nat} (h : memOk s = true) : memOk (s.stampsMove old new) = true := by
  unfold State.stampsMove
  exact eta_memOk h
theorem realignLoad_memOk {s : State} (h : memOk s = true) : memOk (s.realignLoad) = true := by
  unfold State.realignLoad
  exact pllStart_memOk (stampsMove_memOk (modSys_memOk (loadCounters_memOk h)))
theorem realignDone_memOk {s : State} (h : memOk s = true) : memOk (s.realignDone) = true := by
  unfold State.realignDone
  exact raise_memOk (modSys_memOk h)
theorem advance_memOk {s : State} (h : memOk s = true) : memOk (s.advance) = true := by
  unfold State.advance
  exact ite_memOk (ite_memOk (modSys_memOk (modSys_memOk h)) (modSys_memOk h)) (ite_memOk (realignDone_memOk (modSys_memOk h)) (ite_memOk (modSys_memOk (ite_memOk (modSys_memOk h) (realignLoad_memOk (modSys_memOk h)))) (modSys_memOk (modSys_memOk h))))
theorem cfgAct_memOk {s : State} (h : memOk s = true) : memOk (s.cfgAct) = true := by
  unfold State.cfgAct
  exact ite_memOk (twinFault_memOk (declareFaulty_memOk (flagRaise_memOk h))) (flagRaise_memOk h)
theorem cfgJudge_memOk {s : State} {crc : W32} (h : memOk s = true) : memOk (s.cfgJudge crc) = true := by
  unfold State.cfgJudge
  exact ite_memOk (modSys_memOk h) (ite_memOk (modSys_memOk h) (ite_memOk (cfgAct_memOk (modSys_memOk h)) (modSys_memOk h)))
theorem cfgEnd_memOk {s : State} (h : memOk s = true) : memOk (s.cfgEnd) = true := by
  unfold State.cfgEnd
  exact ite_memOk (modSys_memOk (unflag_memOk (wr_memOk (wr_memOk (wr_memOk (ite_memOk (drawn_memOk h) h)))))) (modSys_memOk (cfgJudge_memOk (wr_memOk (wr_memOk (ite_memOk (drawn_memOk h) h)))))
theorem cfgTick_memOk {s : State} (h : memOk s = true) : memOk (s.cfgTick) = true := by
  unfold State.cfgTick
  exact ite_memOk (modSys_memOk (ite_memOk (cfgEnd_memOk h) h)) h
theorem inputsClose_memOk {s : State} {c : Nat} (h : memOk s = true) : memOk (s.inputsClose c) = true := by
  unfold State.inputsClose
  exact ite_memOk (emit_memOk (eta_memOk h)) (eta_memOk h)
theorem itemsSend_memOk {s : State} {c : Nat} {blocks : List (PortSrc × List Int)} (h : memOk s = true) : memOk (s.itemsSend c blocks) = true := by
  unfold State.itemsSend
  exact ite_memOk (foldS_memOk (fun _ _ ht => ite_memOk (emit_memOk ht) ht) h) h
theorem ingest_memOk {s : State} {asrc : List (Nat × List Int)} {c : Nat} (h : memOk s = true) : memOk (s.ingest asrc c) = true := by
  unfold State.ingest
  exact eta_memOk (foldS_memOk (fun _ _ ht => strClose_memOk ht) (foldS_memOk (fun _ _ ht => portClose_memOk ht) (hwMicsTaken_memOk (itemsSend_memOk h))))
theorem arrivals_memOk {s : State} {asrc : List (Nat × List Int)} {c : Nat} (h : memOk s = true) : memOk (s.arrivals asrc c) = true := by
  unfold State.arrivals
  exact modLedger_memOk (ledgerAccept_memOk (hwCarry_memOk (twnClose_memOk (inputsClose_memOk (ingest_memOk (hwClose_memOk h))))))
theorem monIdle_memOk {s : State} (h : memOk s = true) : memOk (s.monIdle) = true := by
  unfold State.monIdle
  exact ite_memOk (ite_memOk (eta_memOk h) (eta_memOk h)) h
theorem timeouts_memOk {s : State} {obs : TickObs} {fault : Bool} (h : memOk s = true) : memOk (s.timeouts obs fault) = true := by
  unfold State.timeouts
  exact clkTick_memOk (twnTimeouts_memOk (graftWatch_memOk (ptpTimeouts_memOk (marginTick_memOk (foldS_memOk (fun _ _ ht => strTimeout_memOk ht) (monIdle_memOk (rtcAdvance_memOk (prsElapse_memOk h))))))))
theorem ringLate_memOk {s : State} {late : List RingObj} (h : memOk s = true) : memOk (s.ringLate late) = true := by
  unfold State.ringLate
  exact ite_memOk h (twinFault_memOk (raise_memOk (flag_memOk (count_memOk h))))
theorem tickTrace_memOk {s : State} (h : memOk s = true) : memOk (s.tickTrace) = true := by
  unfold State.tickTrace
  exact trace_memOk h
theorem scrubs_memOk {s : State} {obs : TickObs} (h : memOk s = true) : memOk (s.scrubs obs) = true := by
  unfold State.scrubs
  exact memTick_memOk (fulScrub_memOk (gainScrub_memOk (foldS_memOk (fun _ _ ht => poolEcc_memOk ht) (foldS_memOk (fun _ _ ht => fulEcc_memOk ht) (foldS_memOk (fun _ _ ht => gainEcc_memOk ht) h)))))
theorem tickEvents_memOk {s : State} {c : Nat} {obs : TickObs} (h : memOk s = true) : memOk (s.tickEvents c obs) = true := by
  unfold State.tickEvents
  exact modSys_memOk (tickTrace_memOk (cfgTick_memOk (dramTick_memOk (trkTick_memOk (pwdTick_memOk (portsClear_memOk (foldS_memOk (fun _ _ ht => rootLevel_memOk ht) (hwEvents_memOk (scrubs_memOk (ringLate_memOk (judgeCores_memOk h)))))))))))
theorem emitStage_memOk {s : State} {obs : TickObs} {mute : Bool} (h : memOk s = true) : memOk (s.emitStage obs mute) = true := by
  unfold State.emitStage
  exact modTwn_memOk (emitTick_memOk (foldS_memOk (fun _ _ ht => handOff_memOk ht) h))
theorem bridgeSend_memOk {s : State} {b : Nat} (h : memOk s = true) : memOk (s.bridgeSend b) = true := by
  unfold State.bridgeSend
  exact ite_memOk h (ite_memOk (foldS_memOk (fun _ _ ht => hwSamples_memOk ht) h) (emit_memOk (foldS_memOk (fun _ _ ht => hwSamples_memOk ht) h)))
theorem mixStage_memOk {s : State} {obs : TickObs} (h : memOk s = true) : memOk (s.mixStage obs) = true := by
  unfold State.mixStage
  exact eta_memOk (foldS_memOk (fun _ _ ht => voiceStage_memOk ht) (prvSee_memOk (mixTick_memOk (foldS_memOk (fun _ _ ht => voiceLate_memOk ht) (foldS_memOk (fun _ _ ht => inbound_memOk ht) (lineReads_memOk (eta_memOk h)))))))
theorem graftStage_memOk {s : State} {b : Nat} (h : memOk s = true) : memOk (s.graftStage b) = true := by
  unfold State.graftStage
  split
  · exact ite_memOk (graftBegin_memOk h) h
  · exact ite_memOk (graftSwap_memOk h) h
  · exact h
theorem sendStage_memOk {s : State} {b : Nat} {digest : W32} (h : memOk s = true) : memOk (s.sendStage b digest) = true := by
  unfold State.sendStage
  exact bridgeSend_memOk (twnSend_memOk (autoResync_memOk (takeRole_memOk h)))
theorem stages_memOk {s : State} {b : Nat} {obs : TickObs} (h : memOk s = true) : memOk (s.stages b obs) = true := by
  unfold State.stages
  exact sendStage_memOk (eta_memOk (hqRefill_memOk (mixStage_memOk (tickEntry_memOk (prvTick_memOk (emitStage_memOk (strApplies_memOk (graftStage_memOk h))))))))
theorem stopStage_memOk {s : State} {b : Nat} {first : Bool} (h : memOk s = true) : memOk (s.stopStage b first) = true := by
  unfold State.stopStage
  exact sendStage_memOk (eta_memOk (restCores_memOk (hqRefill_memOk (strApplies_memOk h))))
theorem mediaHalt_memOk {s : State} (h : memOk s = true) : memOk (s.mediaHalt) = true := by
  unfold State.mediaHalt
  exact pllStop_memOk (mediaStop_memOk h)
theorem napStopped_memOk {s : State} (h : memOk s = true) : memOk (s.napStopped) = true := by
  unfold State.napStopped
  exact modPwd_memOk (mediaHalt_memOk (jobsStop_memOk h))
theorem step8_memOk {s : State} {b : Nat} {obs : TickObs} (h : memOk s = true) : memOk (s.step8 b obs) = true := by
  unfold State.step8
  split
  · exact ite_memOk (napStopped_memOk (modTwn_memOk (stopStage_memOk (portsTick_memOk h)))) (modPwd_memOk (modTwn_memOk (stopStage_memOk (portsTick_memOk h))))
  · exact ite_memOk (napStopped_memOk (stopStage_memOk (portsTick_memOk h))) (modPwd_memOk (stopStage_memOk (portsTick_memOk h)))
  · split
    · exact ite_memOk (ite_memOk (mediaHalt_memOk (stopStage_memOk (phase2Begin_memOk h))) (stopStage_memOk (phase2Begin_memOk h))) (stages_memOk h)
    · exact ite_memOk (mediaHalt_memOk (stopStage_memOk (portsTick_memOk h))) (modImg_memOk (stopStage_memOk (portsTick_memOk h)))
    · exact stages_memOk (imgLeadTick_memOk h)
theorem boundary_memOk {s : State} {obs : TickObs} (h : memOk s = true) : memOk (s.boundary obs) = true := by
  unfold State.boundary
  exact ite_memOk (ledgerExecute_memOk (timeouts_memOk (arrivals_memOk (lineFades_memOk (selTick_memOk (advance_memOk (timTick_memOk (cutoffNow_memOk (mixEnd_memOk h))))))))) (step8_memOk (tickEvents_memOk (step6_memOk (swapStep_memOk (ledgerExecute_memOk (timeouts_memOk (arrivals_memOk (lineFades_memOk (selTick_memOk (advance_memOk (timTick_memOk (cutoffNow_memOk (mixEnd_memOk h)))))))))))))
theorem idleTick_memOk {s : State} {obs : TickObs} (h : memOk s = true) : memOk (s.idleTick obs) = true := by
  unfold State.idleTick
  exact ite_memOk (ite_memOk (carderTime_memOk (dramTime_memOk (holdNote_memOk (holdTick_memOk (refTick_memOk (modSys_memOk (hqRefill_memOk (ptpTimeouts_memOk (monIdle_memOk (rtcAdvance_memOk (prsElapse_memOk (timTick_memOk h)))))))))))) (napTime_memOk (modSys_memOk (hqRefill_memOk (ptpTimeouts_memOk (monIdle_memOk (rtcAdvance_memOk (prsElapse_memOk (timTick_memOk h))))))))) h
theorem modMon_memOk {s : State} {f : MonSt → MonSt} (h : memOk s = true) : memOk (s.modMon f) = true := by
  unfold State.modMon
  exact eta_memOk h
theorem say_memOk {s : State} {line : List Byte} (h : memOk s = true) : memOk (s.say line) = true := by
  unfold State.say
  exact modMon_memOk h
theorem sayEnd_memOk {s : State} {line : List Byte} (h : memOk s = true) : memOk (s.sayEnd line) = true := by
  unfold State.sayEnd
  exact modMon_memOk (say_memOk h)
theorem sayOk_memOk {s : State} (h : memOk s = true) : memOk (s.sayOk) = true := by
  unfold State.sayOk
  exact sayEnd_memOk h
theorem sayErr_memOk {s : State} {n : Nat} (h : memOk s = true) : memOk (s.sayErr n) = true := by
  unfold State.sayErr
  exact sayEnd_memOk h
theorem monRead_memOk {s : State} {a : Nat} (h : memOk s = true) : memOk (s.monRead a).1 = true := by
  rw [State.monRead]
  refine ite_fst_memOk ?_ (ite_fst_memOk (pair_memOk h) (ite_fst_memOk (pair_memOk h) (ite_fst_memOk (pair_memOk h) (ite_fst_memOk (pair_memOk h) (ite_fst_memOk (ite_fst_memOk (pair_memOk h) (pair_memOk (burst_memOk h))) (pair_memOk h))))))
  refine ite_fst_memOk (pair_memOk h) ?_
  split
  · exact ite_fst_memOk (pair_memOk (trkTimeout_memOk h)) (pair_memOk (monReg_memOk h))
  · exact pair_memOk h
theorem monWords_memOk {a n : Nat} {s : State} (h : memOk s = true) : memOk (State.monWords a n s).1 = true := by
  induction n generalizing s a with
  | zero => exact h
  | succ n ih =>
    unfold State.monWords
    dsimp only
    split
    · exact monRead_memOk h
    · exact ih (monRead_memOk h)
theorem monShow_memOk {s : State} {w : Nat} {a : Nat} {n : Nat} (h : memOk s = true) : memOk (s.monShow w a n) = true := by
  unfold State.monShow
  exact ite_memOk (sayOk_memOk (foldS_memOk (fun _ _ ht => say_memOk ht) (monWords_memOk h))) (sayErr_memOk (foldS_memOk (fun _ _ ht => say_memOk ht) (monWords_memOk h)))
theorem monDramRead_memOk {s : State} {a : Nat} {n : Nat} (h : memOk s = true) : memOk (s.monDramRead a n) = true := by
  unfold State.monDramRead
  exact sayOk_memOk (foldS_memOk (fun _ _ ht => say_memOk ht) (engineRead_memOk h))
theorem monEntries_memOk {n i : Nat} {s : State} (h : memOk s = true) : memOk (State.monEntries n i s) = true := by
  induction n generalizing s i with
  | zero => exact sayOk_memOk h
  | succ n ih => exact ih (say_memOk (engineRead_memOk h))
theorem monJobLine_memOk {s : State} {k : Nat} (h : memOk s = true) : memOk (s.monJobLine k) = true := by
  unfold State.monJobLine
  exact sayOk_memOk (say_memOk h)
theorem statLine_memOk {q : Machine.State × Bool} {n : String × List Nat} (h : memOk q.1 = true) : memOk (State.statLine q n).1 = true := by
  unfold State.statLine
  exact pair_memOk (say_memOk (foldS_fst_memOk (fun _ _ ht => pair_memOk (monRead_memOk ht)) (pair_memOk h)))
theorem monStatLines_memOk {s : State} (h : memOk s = true) : memOk (s.monStatLines) = true := by
  unfold State.monStatLines
  exact ite_memOk (sayOk_memOk (foldS_fst_memOk (fun _ _ ht => statLine_memOk ht) (ite_fst_memOk (statLine_memOk (foldS_fst_memOk (fun _ _ ht => statLine_memOk ht) (pair_memOk h))) (pair_memOk (say_memOk (foldS_fst_memOk (fun _ _ ht => statLine_memOk ht) (pair_memOk h))))))) (sayErr_memOk (foldS_fst_memOk (fun _ _ ht => statLine_memOk ht) (ite_fst_memOk (statLine_memOk (foldS_fst_memOk (fun _ _ ht => statLine_memOk ht) (pair_memOk h))) (pair_memOk (say_memOk (foldS_fst_memOk (fun _ _ ht => statLine_memOk ht) (pair_memOk h)))))))
theorem monWrite_memOk {s : State} {a : Nat} {v : W32} (h : memOk s = true) : memOk (s.monWrite a v) = true := by
  unfold State.monWrite
  refine ite_memOk ?_ (ite_memOk h (ite_memOk (ite_memOk h (poolWrW_memOk h)) (ite_memOk (ite_memOk h (fulWrite_memOk h)) (ite_memOk h (ite_memOk (ite_memOk h (gainWin_memOk h)) (ite_memOk (ite_memOk h (unmappedAt_memOk h)) (ite_memOk (ite_memOk h (ite_memOk (flag_memOk h) (ite_memOk (flag_memOk h) (burst_memOk h)))) h)))))))
  refine ite_memOk ?_ (regWrite_memOk h)
  split
  · exact ite_memOk (msixWrite_memOk h) h
  · exact h
theorem monStore_memOk {s : State} {a : Nat} {v : W32} (h : memOk s = true) : memOk (s.monStore a v) = true := by
  unfold State.monStore
  exact ite_memOk (sayErr_memOk (say_memOk (monWrite_memOk h))) (ite_memOk (monWrite_memOk h) (sayOk_memOk (say_memOk (monRead_memOk (ite_memOk (monWrite_memOk h) (flagRaise_memOk (count_memOk (monWrite_memOk h))))))))
theorem monChecked_memOk {s : State} {a : Nat} {f : State → State} (hf : ∀ t, memOk t = true → memOk (f t) = true) (h : memOk s = true) :
    memOk (s.monChecked a f) = true := by
  unfold State.monChecked
  exact ite_memOk (sayErr_memOk h) (ite_memOk (sayErr_memOk (deny_memOk h)) (ite_memOk (sayErr_memOk (deny_memOk h)) (hf s h)))
theorem monRmw_memOk {s : State} {a : Nat} {v : W32} {m : W32} (h : memOk s = true) : memOk (s.monRmw a v m) = true := by
  unfold State.monRmw
  exact ite_memOk (sayErr_memOk (lockRequest_memOk h)) (monStore_memOk (monRead_memOk h))
theorem monTest_memOk {s : State} {on : Bool} (h : memOk s = true) : memOk (s.monTest on) = true := by
  unfold State.monTest
  exact ite_memOk (sayErr_memOk (deny_memOk h)) (ite_memOk (sayErr_memOk h) (sayOk_memOk (say_memOk (lockMode_memOk (eta_memOk h)))))
theorem traceStart_memOk {s : State} {kind : Nat} {n : Nat} (h : memOk s = true) : memOk (s.traceStart kind n) = true := by
  unfold State.traceStart
  exact ite_memOk (sayErr_memOk h) (modMon_memOk h)
theorem traceEnd_memOk {s : State} (h : memOk s = true) : memOk (s.traceEnd) = true := by
  unfold State.traceEnd
  exact sayOk_memOk (when_memOk (fun _ ht => say_memOk ht) (modMon_memOk h))
theorem monRun_memOk {s : State} {c : MonCmd} (h : memOk s = true) : memOk (s.monRun c) = true := by
  unfold State.monRun
  refine ite_memOk (sayErr_memOk (modMon_memOk h)) ?_
  split
  · exact sayErr_memOk (modMon_memOk h)
  · exact sayErr_memOk (modMon_memOk h)
  · exact ite_memOk (sayErr_memOk (modMon_memOk h)) (monShow_memOk (modMon_memOk h))
  · exact ite_memOk (sayErr_memOk (modMon_memOk h)) (monShow_memOk (modMon_memOk h))
  · exact ite_memOk (sayErr_memOk (modMon_memOk h)) (monDramRead_memOk (modMon_memOk h))
  · exact sayOk_memOk (foldS_memOk (fun _ _ ht => say_memOk ht) (modMon_memOk h))
  · exact ite_memOk (sayErr_memOk (modMon_memOk h)) (monJobLine_memOk (modMon_memOk h))
  · exact ite_memOk (sayErr_memOk (modMon_memOk h)) (monEntries_memOk (modMon_memOk h))
  · exact monStatLines_memOk (modMon_memOk h)
  · exact traceStart_memOk (modMon_memOk h)
  · exact traceStart_memOk (modMon_memOk h)
  · exact traceStart_memOk (modMon_memOk h)
  · exact sayOk_memOk (modMon_memOk h)
  · exact ite_memOk (sayErr_memOk (modMon_memOk h)) (sayOk_memOk (modMon_memOk (modMon_memOk h)))
  · exact monChecked_memOk (fun _ ht => monStore_memOk ht) (modMon_memOk h)
  · exact monChecked_memOk (fun _ ht => monRmw_memOk ht) (modMon_memOk h)
  · exact monTest_memOk (modMon_memOk h)
  · exact monTest_memOk (modMon_memOk h)
theorem monLine_memOk {s : State} {c : MonCmd} (h : memOk s = true) : memOk (s.monLine c) = true := by
  unfold State.monLine
  refine ite_memOk h ?_
  refine ite_memOk ?_ (ite_memOk (monRun_memOk h) (modMon_memOk h))
  split
  · exact sayOk_memOk (modMon_memOk (traceEnd_memOk h))
  · exact sayErr_memOk h
  · exact sayErr_memOk h
theorem echo_memOk {s : State} {c : Byte} (h : memOk s = true) : memOk (s.echo c) = true := by
  unfold State.echo
  exact when_memOk (fun _ ht => modMon_memOk ht) h
theorem lineEnd_memOk {s : State} (h : memOk s = true) : memOk (s.lineEnd) = true := by
  unfold State.lineEnd
  exact monLine_memOk (modMon_memOk h)
theorem monChar_memOk {s : State} {c : Byte} (h : memOk s = true) : memOk (s.monChar c) = true := by
  unfold State.monChar
  exact ite_memOk (echo_memOk (modMon_memOk h)) (ite_memOk (lineEnd_memOk (echo_memOk (modMon_memOk h))) (ite_memOk (modMon_memOk h) (ite_memOk (modMon_memOk (echo_memOk (modMon_memOk h))) (ite_memOk (modMon_memOk (modMon_memOk h)) (modMon_memOk (echo_memOk (modMon_memOk h)))))))
theorem lineIdle_memOk {s : State} (h : memOk s = true) : memOk (s.lineIdle) = true := by
  unfold State.lineIdle
  refine ite_memOk ?_ ?_
  · refine modMon_memOk ?_
    split
    · exact ite_memOk (modMon_memOk (wr_memOk h)) h
    · exact h
  · refine ite_memOk ?_ ?_
    · refine ite_memOk ?_ ?_
      · refine traceEnd_memOk ?_
        split
        · exact ite_memOk (modMon_memOk (wr_memOk h)) h
        · exact h
      · split
        · exact ite_memOk (modMon_memOk (wr_memOk h)) h
        · exact h
    · split
      · refine modMon_memOk ?_
        split
        · exact ite_memOk (modMon_memOk (wr_memOk h)) h
        · exact h
      · refine monRun_memOk ?_
        refine modMon_memOk ?_
        split
        · exact ite_memOk (modMon_memOk (wr_memOk h)) h
        · exact h
theorem recordNext_memOk {s : State} (h : memOk s = true) : memOk (s.recordNext) = true := by
  unfold State.recordNext
  split
  · exact modMon_memOk h
  · exact h
theorem execNop_memOk {k : Fin 64} {f : PArgs} {s : State} (h : memOk s = true) : AnswersOk (execNop k f s) := by
  unfold execNop
  exact coreDoes_memOk (fun _ ht => stepP_memOk ht) h
theorem execClr_memOk {k : Fin 64} {f : PArgs} {s : State} (h : memOk s = true) : AnswersOk (execClr k f s) := by
  unfold execClr
  exact coreDoes_memOk (fun _ ht => stepP_memOk ht) h
theorem execMpy_memOk {k : Fin 64} {f : PArgs} {s : State} (h : memOk s = true) : AnswersOk (execMpy k f s) := by
  unfold execMpy
  exact coreDoes_memOk (fun _ ht => stepP_memOk ht) h
theorem execMac_memOk {k : Fin 64} {f : PArgs} {s : State} (h : memOk s = true) : AnswersOk (execMac k f s) := by
  unfold execMac
  exact coreDoes_memOk (fun _ ht => stepP_memOk ht) h
theorem execMsu_memOk {k : Fin 64} {f : PArgs} {s : State} (h : memOk s = true) : AnswersOk (execMsu k f s) := by
  unfold execMsu
  exact coreDoes_memOk (fun _ ht => stepP_memOk ht) h
theorem execDmpy_memOk {k : Fin 64} {f : PArgs} {s : State} (h : memOk s = true) : AnswersOk (execDmpy k f s) := by
  unfold execDmpy
  exact coreDoes_memOk (fun _ ht => stepP_memOk ht) h
theorem execDmac_memOk {k : Fin 64} {f : PArgs} {s : State} (h : memOk s = true) : AnswersOk (execDmac k f s) := by
  unfold execDmac
  exact coreDoes_memOk (fun _ ht => stepP_memOk ht) h
theorem execCmpy_memOk {k : Fin 64} {f : PArgs} {s : State} (h : memOk s = true) : AnswersOk (execCmpy k f s) := by
  unfold execCmpy
  exact coreDoes_memOk (fun _ ht => stepP_memOk ht) h
theorem execCmac_memOk {k : Fin 64} {f : PArgs} {s : State} (h : memOk s = true) : AnswersOk (execCmac k f s) := by
  unfold execCmac
  exact coreDoes_memOk (fun _ ht => stepP_memOk ht) h
theorem execCmacj_memOk {k : Fin 64} {f : PArgs} {s : State} (h : memOk s = true) : AnswersOk (execCmacj k f s) := by
  unfold execCmacj
  exact coreDoes_memOk (fun _ ht => stepP_memOk ht) h
theorem execAdd_memOk {k : Fin 64} {f : PArgs} {s : State} (h : memOk s = true) : AnswersOk (execAdd k f s) := by
  unfold execAdd
  exact coreDoes_memOk (fun _ ht => stepP_memOk ht) h
theorem execSub_memOk {k : Fin 64} {f : PArgs} {s : State} (h : memOk s = true) : AnswersOk (execSub k f s) := by
  unfold execSub
  exact coreDoes_memOk (fun _ ht => stepP_memOk ht) h
theorem execAddx_memOk {k : Fin 64} {f : PArgs} {s : State} (h : memOk s = true) : AnswersOk (execAddx k f s) := by
  unfold execAddx
  exact coreDoes_memOk (fun _ ht => stepP_memOk ht) h
theorem execAsl_memOk {k : Fin 64} {f : PArgs} {s : State} (h : memOk s = true) : AnswersOk (execAsl k f s) := by
  unfold execAsl
  exact coreDoes_memOk (fun _ ht => stepP_memOk ht) h
theorem execAsr_memOk {k : Fin 64} {f : PArgs} {s : State} (h : memOk s = true) : AnswersOk (execAsr k f s) := by
  unfold execAsr
  exact coreDoes_memOk (fun _ ht => stepP_memOk ht) h
theorem execNeg_memOk {k : Fin 64} {f : PArgs} {s : State} (h : memOk s = true) : AnswersOk (execNeg k f s) := by
  unfold execNeg
  exact coreDoes_memOk (fun _ ht => stepP_memOk ht) h
theorem execAbs_memOk {k : Fin 64} {f : PArgs} {s : State} (h : memOk s = true) : AnswersOk (execAbs k f s) := by
  unfold execAbs
  exact coreDoes_memOk (fun _ ht => stepP_memOk ht) h
theorem execMaxa_memOk {k : Fin 64} {f : PArgs} {s : State} (h : memOk s = true) : AnswersOk (execMaxa k f s) := by
  unfold execMaxa
  exact coreDoes_memOk (fun _ ht => stepP_memOk ht) h
theorem execCmp_memOk {k : Fin 64} {f : PArgs} {s : State} (h : memOk s = true) : AnswersOk (execCmp k f s) := by
  unfold execCmp
  exact coreDoes_memOk (fun _ ht => stepP_memOk ht) h
theorem execTst_memOk {k : Fin 64} {f : PArgs} {s : State} (h : memOk s = true) : AnswersOk (execTst k f s) := by
  unfold execTst
  exact coreDoes_memOk (fun _ ht => stepP_memOk ht) h
theorem execDiv_memOk {k : Fin 64} {f : PArgs} {s : State} (h : memOk s = true) : AnswersOk (execDiv k f s) := by
  unfold execDiv
  exact coreDoes_memOk (fun _ ht => stepP_memOk ht) h
theorem execCopy_memOk {k : Fin 64} {f : PArgs} {s : State} (h : memOk s = true) : AnswersOk (execCopy k f s) := by
  unfold execCopy
  exact coreDoes_memOk (fun _ ht => stepP_memOk ht) h
theorem execJmp_memOk {k : Fin 64} {j : JArgs} {s : State} (h : memOk s = true) : AnswersOk (execJmp k j s) := by
  unfold execJmp
  exact coreDoes_memOk (fun _ ht => stepC_memOk ht) h
theorem execCall_memOk {k : Fin 64} {j : JArgs} {s : State} (h : memOk s = true) : AnswersOk (execCall k j s) := by
  unfold execCall
  exact coreDoes_memOk (fun _ ht => stepC_memOk ht) h
theorem execRet_memOk {k : Fin 64} {j : JArgs} {s : State} (h : memOk s = true) : AnswersOk (execRet k j s) := by
  unfold execRet
  exact coreDoes_memOk (fun _ ht => stepC_memOk ht) h
theorem execDoLoop_memOk {k : Fin 64} {j : JArgs} {s : State} (h : memOk s = true) : AnswersOk (execDoLoop k j s) := by
  unfold execDoLoop
  exact coreDoes_memOk (fun _ ht => stepC_memOk ht) h
theorem execDolc_memOk {k : Fin 64} {j : JArgs} {s : State} (h : memOk s = true) : AnswersOk (execDolc k j s) := by
  unfold execDolc
  exact coreDoes_memOk (fun _ ht => stepC_memOk ht) h
theorem execBrklp_memOk {k : Fin 64} {j : JArgs} {s : State} (h : memOk s = true) : AnswersOk (execBrklp k j s) := by
  unfold execBrklp
  exact coreDoes_memOk (fun _ ht => stepC_memOk ht) h
theorem execTend_memOk {k : Fin 64} {j : JArgs} {s : State} (h : memOk s = true) : AnswersOk (execTend k j s) := by
  unfold execTend
  exact coreDoes_memOk (fun _ ht => stepC_memOk ht) h
theorem execKImmediate_memOk {k : Fin 64} {sel : Fin 64} {val : W32} {s : State} (h : memOk s = true) : AnswersOk (execKImmediate k sel val s) := by
  unfold execKImmediate
  exact coreDoes_memOk (fun _ ht => stepSel_memOk ht) h
theorem execTTransfer_memOk {k : Fin 64} {dst : Fin 64} {src : Fin 64} {s : State} (h : memOk s = true) : AnswersOk (execTTransfer k dst src s) := by
  unfold execTTransfer
  exact coreDoes_memOk (fun _ ht => stepSel_memOk ht) h
theorem execReservedEncoding_memOk {k : Fin 64} {word : W64} {s : State} (h : memOk s = true) : AnswersOk (execReservedEncoding k word s) := by
  unfold execReservedEncoding
  exact coreDoes_memOk (fun _ ht => ite_memOk (ite_memOk (putCore_memOk ht) ht) (stepSel_memOk ht)) h
theorem execRefreshDue_memOk {ch : Fin 2} {rank : Fin 4} {s : State} (h : memOk s = true) : AnswersOk (execRefreshDue ch rank s) := by
  unfold execRefreshDue
  exact doneCore_memOk (ite_memOk h (ite_memOk (ite_memOk (refreshForce_memOk (modChan_memOk (intervalChange_memOk h))) (modChan_memOk (intervalChange_memOk h))) (refreshIssue_memOk (intervalChange_memOk h))))
theorem execOwedRefreshIssue_memOk {ch : Fin 2} {rank : Fin 4} {n : Nat} {s : State} (h : memOk s = true) : AnswersOk (execOwedRefreshIssue ch rank n s) := by
  unfold execOwedRefreshIssue
  exact doneCore_memOk (ite_memOk h (modChan_memOk (refreshIssue_memOk h)))
theorem execDramTempRead_memOk {ch : Fin 2} {hot : List Bool} {s : State} (h : memOk s = true) : AnswersOk (execDramTempRead ch hot s) := by
  unfold execDramTempRead
  exact doneCore_memOk (ite_memOk (tempRead_memOk h) h)
theorem execZqCalibration_memOk {ch : Fin 2} {s : State} (h : memOk s = true) : AnswersOk (execZqCalibration ch s) := by
  unfold execZqCalibration
  exact doneCore_memOk (ite_memOk (modChan_memOk (zqCalibrate_memOk h)) h)
theorem execRetrain_memOk {ch : Fin 2} {ok : Bool} {readWin : Nat} {writeWin : Nat} {lane : Nat} {s : State} (h : memOk s = true) : AnswersOk (execRetrain ch ok readWin writeWin lane s) := by
  unfold execRetrain
  refine doneCore_memOk ?_
  dsimp only
  split
  · exact h
  · exact ite_memOk h (retrain_memOk h)
theorem execDramParity_memOk {ch : Fin 2} {rank : Fin 4} {hit : ParityHit} {s : State} (h : memOk s = true) : AnswersOk (execDramParity ch rank hit s) := by
  unfold execDramParity
  exact doneCore_memOk (ite_memOk h (ite_memOk (ite_memOk (flagRaise_memOk (count_memOk (raiseOnce_memOk (flag_memOk (count_memOk (hist_memOk (histCmd_memOk (errRec_memOk h)))))))) (dramOutcome_memOk (flagRaise_memOk (count_memOk (raiseOnce_memOk (flag_memOk (count_memOk (hist_memOk (histCmd_memOk (errRec_memOk h)))))))))) (histCmd_memOk (raiseOnce_memOk (flag_memOk (count_memOk (hist_memOk (histCmd_memOk (errRec_memOk h)))))))))
theorem execHammerWindowStart_memOk {s : State} (h : memOk s = true) : AnswersOk (execHammerWindowStart s) := by
  unfold execHammerWindowStart
  exact doneCore_memOk (ite_memOk (hammerWindow_memOk h) h)
theorem execRowHammer_memOk {ch : Fin 2} {rank : Fin 4} {bg : Fin 4} {bank : Fin 4} {row : Nat} {s : State} (h : memOk s = true) : AnswersOk (execRowHammer ch rank bg bank row s) := by
  unfold execRowHammer
  exact doneCore_memOk (hammerCheck_memOk (modChan_memOk h))
theorem execPatrolScrubRead_memOk {ch : Fin 2} {found : List (List DramFound)} {s : State} (h : memOk s = true) : AnswersOk (execPatrolScrubRead ch found s) := by
  unfold execPatrolScrubRead
  exact doneCore_memOk (ite_memOk (foldS_memOk (fun _ _ ht => ite_memOk ht (patrolLine_memOk ht)) h) h)
theorem execWriteQueueIssue_memOk {ch : Fin 2} {found : List DramFound} {s : State} (h : memOk s = true) : AnswersOk (execWriteQueueIssue ch found s) := by
  unfold execWriteQueueIssue
  exact doneCore_memOk (issueOldest_memOk h)
theorem execMigrate_memOk {slot : Fin 16} {s : State} (h : memOk s = true) : AnswersOk (execMigrate slot s) := by
  unfold execMigrate
  exact doneCore_memOk (ite_memOk (ite_memOk (jobEnd_memOk (jobTryBegin_memOk h)) (ite_memOk (jobEnd_memOk (jobTryBegin_memOk h)) (migStart_memOk (jobTryBegin_memOk h)))) h)
theorem execMigrationComplete_memOk {ch : Fin 2} {s : State} (h : memOk s = true) : AnswersOk (execMigrationComplete ch s) := by
  unfold execMigrationComplete
  refine doneCore_memOk ?_
  split
  · exact migCopied_memOk h
  · exact h
theorem execDramRead_memOk {addr : Nat} {n : Nat} {master : Fin 12} {qos : Fin 16} {found : List DramFound} {s : State} (h : memOk s = true) : AnswersOk (execDramRead addr n master qos found s) := by
  unfold execDramRead
  exact doneCore_memOk (emit_memOk (burst_memOk h))
theorem execDramWrite_memOk {addr : Nat} {bytes : List (Option Byte)} {master : Fin 12} {qos : Fin 16} {s : State} (h : memOk s = true) : AnswersOk (execDramWrite addr bytes master qos s) := by
  unfold execDramWrite
  exact doneCore_memOk (burst_memOk h)
theorem execLockedSequenceRequest_memOk {master : Fin 12} {target : Fin 7} {addr : Nat} {s : State} (h : memOk s = true) : AnswersOk (execLockedSequenceRequest master target addr s) := by
  unfold execLockedSequenceRequest
  exact doneCore_memOk (lockRequest_memOk h)
theorem execLockReleaseTimeout_memOk {s : State} (h : memOk s = true) : AnswersOk (execLockReleaseTimeout s) := by
  unfold execLockReleaseTimeout
  exact doneCore_memOk (lockForced_memOk h)
theorem execTrkTimeout_memOk {master : Fin 12} {target : Fin 7} {addr : Nat} {s : State} (h : memOk s = true) : AnswersOk (execTrkTimeout master target addr s) := by
  unfold execTrkTimeout
  exact doneCore_memOk (trkTimeout_memOk h)
theorem execTrkIsolate_memOk {master : Fin 12} {granted : Nat} {dropped : Nat} {target : Fin 7} {addr : Nat} {s : State} (h : memOk s = true) : AnswersOk (execTrkIsolate master granted dropped target addr s) := by
  unfold execTrkIsolate
  exact doneCore_memOk (ite_memOk h (isolate_memOk h))
theorem execQosAgeing_memOk {cycles : Nat} {s : State} (h : memOk s = true) : AnswersOk (execQosAgeing cycles s) := by
  unfold execQosAgeing
  exact doneCore_memOk (eta_memOk h)
theorem execApertureAccess_memOk {addr : Nat} {isWrite : Bool} {width : Width} {val : W32} {found : DramFound} {s : State} (h : memOk s = true) : AnswersOk (execApertureAccess addr isWrite width val found s) := by
  unfold execApertureAccess
  exact doneCore_memOk (byHost_memOk (fun _ ht => aperture_memOk ht) h)
theorem execSelectorFadeEnd_memOk {sel : Nat} {s : State} (h : memOk s = true) : AnswersOk (execSelectorFadeEnd sel s) := by
  unfold execSelectorFadeEnd
  exact doneCore_memOk (ite_memOk (setSel_memOk h) h)
theorem execDelayFadeEnd_memOk {line : Nat} {s : State} (h : memOk s = true) : AnswersOk (execDelayFadeEnd line s) := by
  unfold execDelayFadeEnd
  exact doneCore_memOk (ite_memOk (setLine_memOk h) h)
theorem execPlayEnd_memOk {voice : Nat} {s : State} (h : memOk s = true) : AnswersOk (execPlayEnd voice s) := by
  unfold execPlayEnd
  refine doneCore_memOk ?_
  split
  · exact ite_memOk (voiceEnd_memOk h) h
  · exact h
theorem execRecorderSegmentEnd_memOk {ch : Nat} {s : State} (h : memOk s = true) : AnswersOk (execRecorderSegmentEnd ch s) := by
  unfold execRecorderSegmentEnd
  exact doneCore_memOk (segmentEnd_memOk h)
theorem execRecorderExport_memOk {slot : Fin 16} {n : Nat} {s : State} (h : memOk s = true) : AnswersOk (execRecorderExport slot n s) := by
  unfold execRecorderExport
  refine doneCore_memOk ?_
  refine ite_memOk (jobTryBegin_memOk h) ?_
  refine ite_memOk (jobEnd_memOk (jobTryBegin_memOk h)) ?_
  dsimp only
  split
  · exact ite_memOk (jobFin_memOk (resultWrite_memOk (eta_memOk (timesN_memOk (fun _ ht => exportOne_memOk ht) (ite_memOk (eta_memOk (jobTryBegin_memOk h)) (jobTryBegin_memOk h)))))) (timesN_memOk (fun _ ht => exportOne_memOk ht) (ite_memOk (eta_memOk (jobTryBegin_memOk h)) (jobTryBegin_memOk h)))
  · exact timesN_memOk (fun _ ht => exportOne_memOk ht) (ite_memOk (eta_memOk (jobTryBegin_memOk h)) (jobTryBegin_memOk h))
theorem execCoreOverrun_memOk {core : Fin 64} {s : State} (h : memOk s = true) : AnswersOk (execCoreOverrun core s) := by
  unfold execCoreOverrun
  exact done_memOk (coreOverrun_memOk h)
theorem execSwapTakesEffect_memOk {s : State} (h : memOk s = true) : AnswersOk (execSwapTakesEffect s) := by
  unfold execSwapTakesEffect
  exact done_memOk (ite_memOk (swapEffect_memOk (mixEnd_memOk h)) h)
theorem execCrosspointStepTimeout_memOk {tile : Fin 256} {b : Nat} {a : Nat} {s : State} (h : memOk s = true) : AnswersOk (execCrosspointStepTimeout tile b a s) := by
  unfold execCrosspointStepTimeout
  exact doneCore_memOk (ite_memOk (eta_memOk h) h)
theorem execDetectorHoldExpiry_memOk {d : Nat} {s : State} (h : memOk s = true) : AnswersOk (execDetectorHoldExpiry d s) := by
  unfold execDetectorHoldExpiry
  exact doneCore_memOk (ite_memOk (eta_memOk h) h)
theorem execSceneStageLoad_memOk {slot : Fin 16} {n : Nat} {collide : Bool} {s : State} (h : memOk s = true) : AnswersOk (execSceneStageLoad slot n collide s) := by
  unfold execSceneStageLoad
  exact done_memOk (ite_memOk h (ite_memOk (jobFrozen_memOk (jobTryBegin_memOk h)) (ite_memOk (sceneAbort_memOk (jobTryBegin_memOk h)) (when_memOk (fun _ ht => gainCollided_memOk ht) (timesN_memOk (fun _ ht => sceneStep_memOk ht) (ite_memOk (jobTryBegin_memOk h) (sceneOpen_memOk (jobTryBegin_memOk h))))))))
theorem execSceneStageMirror_memOk {slot : Fin 16} {n : Nat} {s : State} (h : memOk s = true) : AnswersOk (execSceneStageMirror slot n s) := by
  unfold execSceneStageMirror
  exact done_memOk (ite_memOk h (ite_memOk (jobFrozen_memOk (jobTryBegin_memOk h)) (ite_memOk (sceneAbort_memOk (jobTryBegin_memOk h)) (ite_memOk (jobTryBegin_memOk h) (timesN_memOk (fun _ ht => ite_memOk (mirrorStep_memOk ht) ht) (ite_memOk (jobTryBegin_memOk h) (eta_memOk (jobTryBegin_memOk h))))))))
theorem execPortEnable_memOk {port : Fin 32} {s : State} (h : memOk s = true) : AnswersOk (execPortEnable port s) := by
  unfold execPortEnable
  exact doneCore_memOk (byHost_memOk (fun _ ht => portCtl_memOk ht) h)
theorem execPortDisable_memOk {port : Fin 32} {s : State} (h : memOk s = true) : AnswersOk (execPortDisable port s) := by
  unfold execPortDisable
  exact doneCore_memOk (byHost_memOk (fun _ ht => portCtl_memOk ht) h)
theorem execPortLeadExpiry_memOk {port : Fin 32} {s : State} (h : memOk s = true) : AnswersOk (execPortLeadExpiry port s) := by
  unfold execPortLeadExpiry
  exact doneCore_memOk (ite_memOk (portLeadEnd_memOk h) h)
theorem execSlotMaskWrite_memOk {port : Fin 16} {tx : Bool} {val : W32} {s : State} (h : memOk s = true) : AnswersOk (execSlotMaskWrite port tx val s) := by
  unfold execSlotMaskWrite
  exact doneCore_memOk (byHost_memOk (fun _ ht => slotMask_memOk ht) h)
theorem execPortReceiveFrame_memOk {port : Fin 16} {sp : Nat} {frac : Nat} {len : Nat} {dr : List Bool} {s : State} (h : memOk s = true) : AnswersOk (execPortReceiveFrame port sp frac len dr s) := by
  unfold execPortReceiveFrame
  exact doneCore_memOk (ite_memOk h (frameLen_memOk (when_memOk (fun _ ht => portDrops_memOk ht) (portTake_memOk (when_memOk (fun _ ht => emit_memOk ht) h)))))
theorem execAes3ReceiveFrame_memOk {rx : Fin 8} {sp : Nat} {frac : Nat} {a : W32} {b : W32} {parityErr : Bool} {biphaseErr : Bool} {s : State} (h : memOk s = true) : AnswersOk (execAes3ReceiveFrame rx sp frac a b parityErr biphaseErr s) := by
  unfold execAes3ReceiveFrame
  exact doneCore_memOk (ite_memOk h (ite_memOk (count_memOk (ite_memOk (aesError_memOk (count_memOk (when_memOk (fun _ ht => portDrops_memOk ht) (portTake_memOk h)))) (when_memOk (fun _ ht => portDrops_memOk ht) (portTake_memOk h)))) (ite_memOk (aesError_memOk (count_memOk (when_memOk (fun _ ht => portDrops_memOk ht) (portTake_memOk h)))) (when_memOk (fun _ ht => portDrops_memOk ht) (portTake_memOk h)))))
theorem execAes3TxBlockStart_memOk {tx : Fin 8} {s : State} (h : memOk s = true) : AnswersOk (execAes3TxBlockStart tx s) := by
  unfold execAes3TxBlockStart
  exact doneCore_memOk (ite_memOk h (aesBlockStart_memOk h))
theorem execPortTransmitFrame_memOk {port : Fin 32} {sp : Nat} {edge : TxEdge} {s : State} (h : memOk s = true) : AnswersOk (execPortTransmitFrame port sp edge s) := by
  unfold execPortTransmitFrame
  exact doneCore_memOk (ite_memOk h (ite_memOk (aesSend_memOk h) (ite_memOk (txSend_memOk (frameLen_memOk h)) (ite_memOk (txSend_memOk (frameLen_memOk h)) (txIndexed_memOk (frameLen_memOk h))))))
theorem execPortClockLoss_memOk {port : Fin 24} {s : State} (h : memOk s = true) : AnswersOk (execPortClockLoss port s) := by
  unfold execPortClockLoss
  exact doneCore_memOk (ite_memOk (asrcUnlock_memOk (when_memOk (fun _ ht => portFlag_memOk ht) (portFlag_memOk (setPort_memOk (wr_memOk h))))) h)
theorem execPortClockQualify_memOk {port : Fin 24} {rate : Nat} {s : State} (h : memOk s = true) : AnswersOk (execPortClockQualify port rate s) := by
  unfold execPortClockQualify
  exact doneCore_memOk (ite_memOk (portRate_memOk (portRaise_memOk (setPort_memOk h))) h)
theorem execRateWindowEnd_memOk {port : Fin 24} {rate : Nat} {s : State} (h : memOk s = true) : AnswersOk (execRateWindowEnd port rate s) := by
  unfold execRateWindowEnd
  exact doneCore_memOk (ite_memOk h (ite_memOk (portRate_memOk (setPort_memOk h)) (setPort_memOk (wr_memOk (setPort_memOk h)))))
theorem execAsrcLock_memOk {port : Fin 24} {ratio : W32} {s : State} (h : memOk s = true) : AnswersOk (execAsrcLock port ratio s) := by
  unfold execAsrcLock
  exact doneCore_memOk (ite_memOk h (ite_memOk (flag_memOk (flagRaise_memOk (asrcUnlock_memOk h))) (ite_memOk (ite_memOk (setPort_memOk h) (asrcUnlock_memOk h)) (ite_memOk h (portRaise_memOk (setPort_memOk h))))))
theorem execAesCs_memOk {rx : Fin 8} {csA : List Byte} {csB : List Byte} {s : State} (h : memOk s = true) : AnswersOk (execAesCs rx csA csB s) := by
  unfold execAesCs
  exact doneCore_memOk (ite_memOk (aesCs_memOk (aesCs_memOk h)) h)
theorem execRefPresent_memOk {inp : Fin 6} {s : State} (h : memOk s = true) : AnswersOk (execRefPresent inp s) := by
  unfold execRefPresent
  exact doneCore_memOk (ite_memOk (refArrive_memOk h) h)
theorem execRefLost_memOk {inp : Fin 6} {s : State} (h : memOk s = true) : AnswersOk (execRefLost inp s) := by
  unfold execRefLost
  exact doneCore_memOk (ite_memOk (refLeave_memOk h) h)
theorem execFreqWindowEnd_memOk {freqs : List (Nat × Int)} {s : State} (h : memOk s = true) : AnswersOk (execFreqWindowEnd freqs s) := by
  unfold execFreqWindowEnd
  exact doneCore_memOk (ite_memOk (modClk_memOk (freqEnd_memOk h)) h)
theorem execGuardExpiry_memOk {inp : Fin 6} {s : State} (h : memOk s = true) : AnswersOk (execGuardExpiry inp s) := by
  unfold execGuardExpiry
  exact doneCore_memOk (ite_memOk (guardTick_memOk h) h)
theorem execWtrExpiry_memOk {s : State} (h : memOk s = true) : AnswersOk (execWtrExpiry s) := by
  unfold execWtrExpiry
  refine doneCore_memOk ?_
  split
  · exact ite_memOk (loopEarly_memOk h) h
  · exact h
theorem execSwitchDone_memOk {s : State} (h : memOk s = true) : AnswersOk (execSwitchDone s) := by
  unfold execSwitchDone
  exact doneCore_memOk (ite_memOk (loopEarly_memOk h) h)
theorem execAbsorbed_memOk {s : State} (h : memOk s = true) : AnswersOk (execAbsorbed s) := by
  unfold execAbsorbed
  exact doneCore_memOk (ite_memOk (loopEarly_memOk h) h)
theorem execHoldover_memOk {s : State} (h : memOk s = true) : AnswersOk (execHoldover s) := by
  unfold execHoldover
  refine doneCore_memOk ?_
  split
  · exact h
  · exact holdJudge_memOk h
theorem execTickMarker_memOk {offset : Int} {s : State} (h : memOk s = true) : AnswersOk (execTickMarker offset s) := by
  unfold execTickMarker
  exact doneCore_memOk (ite_memOk (setOut_memOk (modClk_memOk h)) h)
theorem execStreamLoad_memOk {val : W32} {s : State} (h : memOk s = true) : AnswersOk (execStreamLoad val s) := by
  unfold execStreamLoad
  exact doneCore_memOk (applyOp_memOk h)
theorem execStreamEnable_memOk {val : W32} {s : State} (h : memOk s = true) : AnswersOk (execStreamEnable val s) := by
  unfold execStreamEnable
  exact doneCore_memOk (applyOp_memOk h)
theorem execStreamDisable_memOk {val : W32} {s : State} (h : memOk s = true) : AnswersOk (execStreamDisable val s) := by
  unfold execStreamDisable
  exact doneCore_memOk (applyOp_memOk h)
theorem execStreamClear_memOk {val : W32} {s : State} (h : memOk s = true) : AnswersOk (execStreamClear val s) := by
  unfold execStreamClear
  exact doneCore_memOk (applyOp_memOk h)
theorem execStreamLost_memOk {idx : Nat} {s : State} (h : memOk s = true) : AnswersOk (execStreamLost idx s) := by
  unfold execStreamLost
  exact doneCore_memOk (ite_memOk (strJudge_memOk h) h)
theorem execStreamMarginWindowEnd_memOk {s : State} (h : memOk s = true) : AnswersOk (execStreamMarginWindowEnd s) := by
  unfold execStreamMarginWindowEnd
  exact doneCore_memOk (ite_memOk (eta_memOk (marginEnd_memOk h)) h)
theorem execMembershipReport_memOk {port : Fin 4} {s : State} (h : memOk s = true) : AnswersOk (execMembershipReport port s) := by
  unfold execMembershipReport
  refine doneCore_memOk ?_
  dsimp only
  split
  · exact h
  · exact igmpAnswer_memOk (modNetPort_memOk h)
theorem execIgmpv2QuerierTimeout_memOk {port : Fin 4} {s : State} (h : memOk s = true) : AnswersOk (execIgmpv2QuerierTimeout port s) := by
  unfold execIgmpv2QuerierTimeout
  exact doneCore_memOk (modNetPort_memOk h)
theorem execNetEnable_memOk {port : Fin 4} {val : W32} {s : State} (h : memOk s = true) : AnswersOk (execNetEnable port val s) := by
  unfold execNetEnable
  exact doneCore_memOk (byHost_memOk (fun _ ht => netCtl_memOk ht) h)
theorem execNetLink_memOk {port : Fin 4} {up : Bool} {pins : LinkPins} {s : State} (h : memOk s = true) : AnswersOk (execNetLink port up pins s) := by
  unfold execNetLink
  refine doneCore_memOk ?_
  refine ite_memOk (modNetPort_memOk h) ?_
  refine ite_memOk (linkSet_memOk (modNetPort_memOk h)) ?_
  split
  · exact ite_memOk (raise_memOk (flag_memOk (linkSet_memOk (modNetPort_memOk h)))) (linkSet_memOk (modNetPort_memOk h))
  · exact linkSet_memOk (modNetPort_memOk h)
  · exact linkSet_memOk (modNetPort_memOk h)
  · exact linkSet_memOk (modNetPort_memOk h)
theorem execNetFrameReceive_memOk {port : Fin 4} {bytes : List Byte} {s : State} (h : memOk s = true) : AnswersOk (execNetFrameReceive port bytes s) := by
  unfold execNetFrameReceive
  exact doneCore_memOk (ite_memOk (netReceive_memOk h) h)
theorem execForwardedPacket_memOk {port : Fin 4} {bytes : List Byte} {s : State} (h : memOk s = true) : AnswersOk (execForwardedPacket port bytes s) := by
  unfold execForwardedPacket
  exact doneCore_memOk (ite_memOk (forwarded_memOk h) h)
theorem execMediaTxStart_memOk {port : Fin 4} {s : State} (h : memOk s = true) : AnswersOk (execMediaTxStart port s) := by
  unfold execMediaTxStart
  exact doneCore_memOk (ite_memOk (modNetPort_memOk (foldS_fst_memOk (fun _ _ ht => mediaSend_memOk ht) (pair_memOk (emit_memOk (eta_memOk h))))) h)
theorem execHostFrameSend_memOk {slotBytes : List Byte} {s : State} (h : memOk s = true) : AnswersOk (execHostFrameSend slotBytes s) := by
  unfold execHostFrameSend
  exact doneCore_memOk (ite_memOk h (ite_memOk (hqAdvance_memOk (flag_memOk h)) (ite_memOk (hqAdvance_memOk (count_memOk h)) (ite_memOk h (hqAdvance_memOk (modNetPort_memOk (count_memOk (count_memOk (emit_memOk h)))))))))
theorem execPauseExpiry_memOk {port : Fin 4} {s : State} (h : memOk s = true) : AnswersOk (execPauseExpiry port s) := by
  unfold execPauseExpiry
  exact doneCore_memOk (modNetPort_memOk h)
theorem execPpsArm_memOk {p : Fin 4} {val : W32} {s : State} (h : memOk s = true) : AnswersOk (execPpsArm p val s) := by
  unfold execPpsArm
  exact doneCore_memOk (byHost_memOk (fun _ ht => ppsCtl_memOk ht) h)
theorem execPpsDisarm_memOk {p : Fin 4} {val : W32} {s : State} (h : memOk s = true) : AnswersOk (execPpsDisarm p val s) := by
  unfold execPpsDisarm
  exact doneCore_memOk (byHost_memOk (fun _ ht => ppsCtl_memOk ht) h)
theorem execPpsEdge_memOk {p : Fin 4} {s : State} (h : memOk s = true) : AnswersOk (execPpsEdge p s) := by
  unfold execPpsEdge
  exact doneCore_memOk (ite_memOk (ppsProduce_memOk (timAdvance_memOk h)) h)
theorem execPpsPulseEnd_memOk {p : Fin 4} {s : State} (h : memOk s = true) : AnswersOk (execPpsPulseEnd p s) := by
  unfold execPpsPulseEnd
  exact doneCore_memOk (ite_memOk (modPulse_memOk (timAdvance_memOk h)) h)
theorem execAnnounceMessage_memOk {head : PtpHead} {body : AnnounceBody} {dt : Nat} {s : State} (h : memOk s = true) : AnswersOk (execAnnounceMessage head body dt s) := by
  unfold execAnnounceMessage
  exact doneCore_memOk (ite_memOk (timAdvance_memOk h) (ite_memOk (timReject_memOk (timAdvance_memOk h)) (modLeg_memOk (ptpDecide_memOk (modLeg_memOk (timAdvance_memOk h))))))
theorem execPtpSync_memOk {head : PtpHead} {t1 : Option Int} {t2 : Int} {dt : Nat} {s : State} (h : memOk s = true) : AnswersOk (execPtpSync head t1 t2 dt s) := by
  unfold execPtpSync
  refine doneCore_memOk ?_
  refine ite_memOk (timAdvance_memOk h) ?_
  dsimp only
  split
  · exact ptpOffset_memOk (timAdvance_memOk h)
  · exact modLeg_memOk (timAdvance_memOk h)
theorem execFollowUp_memOk {head : PtpHead} {t1 : Int} {dt : Nat} {s : State} (h : memOk s = true) : AnswersOk (execFollowUp head t1 dt s) := by
  unfold execFollowUp
  refine doneCore_memOk ?_
  refine ite_memOk (timAdvance_memOk h) ?_
  split
  · exact ite_memOk (ptpOffset_memOk (modLeg_memOk (timAdvance_memOk h))) (timAdvance_memOk h)
  · exact timAdvance_memOk h
theorem execDelayReqSend_memOk {legB : Bool} {t3 : Int} {dt : Nat} {s : State} (h : memOk s = true) : AnswersOk (execDelayReqSend legB t3 dt s) := by
  unfold execDelayReqSend
  exact doneCore_memOk (ite_memOk (ptpSend_memOk (modLeg_memOk (timAdvance_memOk h))) (timAdvance_memOk h))
theorem execDelayResp_memOk {head : PtpHead} {t4 : Int} {reqSrc : W64} {dt : Nat} {s : State} (h : memOk s = true) : AnswersOk (execDelayResp head t4 reqSrc dt s) := by
  unfold execDelayResp
  refine doneCore_memOk ?_
  dsimp only
  split
  · exact ite_memOk (modLeg_memOk (timAdvance_memOk h)) (timAdvance_memOk h)
  · exact timAdvance_memOk h
theorem execPtpMasterSend_memOk {legB : Bool} {dt : Nat} {s : State} (h : memOk s = true) : AnswersOk (execPtpMasterSend legB dt s) := by
  unfold execPtpMasterSend
  exact doneCore_memOk (ite_memOk (ptpSend_memOk (ptpSend_memOk (ptpSend_memOk (modTim_memOk (timAdvance_memOk h))))) (timAdvance_memOk h))
theorem execDelayReq_memOk {head : PtpHead} {rx : Int} {dt : Nat} {s : State} (h : memOk s = true) : AnswersOk (execDelayReq head rx dt s) := by
  unfold execDelayReq
  exact doneCore_memOk (ite_memOk (ptpSend_memOk (timAdvance_memOk h)) (timAdvance_memOk h))
theorem execAnnounceReceiptTimeout_memOk {dt : Nat} {s : State} (h : memOk s = true) : AnswersOk (execAnnounceReceiptTimeout dt s) := by
  unfold execAnnounceReceiptTimeout
  exact doneCore_memOk (annTimeout_memOk (timAdvance_memOk h))
theorem execSyncLossTimeout_memOk {dt : Nat} {s : State} (h : memOk s = true) : AnswersOk (execSyncLossTimeout dt s) := by
  unfold execSyncLossTimeout
  exact doneCore_memOk (syncTimeout_memOk (timAdvance_memOk h))
theorem execPtpEnable_memOk {val : W32} {s : State} (h : memOk s = true) : AnswersOk (execPtpEnable val s) := by
  unfold execPtpEnable
  exact doneCore_memOk (byHost_memOk (fun _ ht => timCtl_memOk ht) h)
theorem execTimSet_memOk {val : W32} {s : State} (h : memOk s = true) : AnswersOk (execTimSet val s) := by
  unfold execTimSet
  exact doneCore_memOk (byHost_memOk (fun _ ht => timCtl_memOk ht) h)
theorem execMarchPreserving_memOk {slot : Fin 16} {fails : List FailWord} {s : State} (h : memOk s = true) : AnswersOk (execMarchPreserving slot fails s) := by
  unfold execMarchPreserving
  exact doneCore_memOk (ite_memOk h (ite_memOk (jobEnd_memOk (jobTryBegin_memOk h)) (setMarch_memOk (modMem_memOk (fun _ hm => hm) (jobTryBegin_memOk h)))))
theorem execLoanBankSwitch_memOk {s : State} (h : memOk s = true) : AnswersOk (execLoanBankSwitch s) := by
  unfold execLoanBankSwitch
  exact doneCore_memOk (ite_memOk h (modMem_memOk (fun _ hm => hm) (loanSwitch_memOk h)))
theorem execMarchDestructive_memOk {slot : Fin 16} {fails : List FailWord} {s : State} (h : memOk s = true) : AnswersOk (execMarchDestructive slot fails s) := by
  unfold execMarchDestructive
  exact done_memOk (ite_memOk h (ite_memOk (jobEnd_memOk (jobTryBegin_memOk h)) (ite_memOk (setMarch_memOk (modMem_memOk (fun _ hm => hm) (jobTryBegin_memOk h))) (destroyed_memOk (jobTryBegin_memOk h)))))
theorem execRetentionHoldEnd_memOk {s : State} (h : memOk s = true) : AnswersOk (execRetentionHoldEnd s) := by
  unfold execRetentionHoldEnd
  refine done_memOk ?_
  split
  · exact h
  · exact ite_memOk (holdEnd_memOk h) h
theorem execMemRepSet_memOk {val : W32} {s : State} (h : memOk s = true) : AnswersOk (execMemRepSet val s) := by
  unfold execMemRepSet
  exact doneCore_memOk (byHost_memOk (fun _ ht => repSet_memOk ht) h)
theorem execRepairRowSwitch_memOk {bank : Fin 64} {spare : Fin 8} {s : State} (h : memOk s = true) : AnswersOk (execRepairRowSwitch bank spare s) := by
  unfold execRepairRowSwitch
  exact doneCore_memOk (repSwitch_memOk h)
theorem execHwClockLoss_memOk {s : State} (h : memOk s = true) : AnswersOk (execHwClockLoss s) := by
  unfold execHwClockLoss
  exact doneCore_memOk (onHw_memOk (fun _ ht => ite_memOk ht (hwFlag_memOk (modHwd_memOk (fun _ hm => hm) ht))) h)
theorem execHwClockReturn_memOk {s : State} (h : memOk s = true) : AnswersOk (execHwClockReturn s) := by
  unfold execHwClockReturn
  exact doneCore_memOk (onHw_memOk (fun _ ht => ite_memOk (hwFlag_memOk (modHwd_memOk (fun _ hm => hm) ht)) ht) h)
theorem execReserveCheck_memOk {s : State} (h : memOk s = true) : AnswersOk (execReserveCheck s) := by
  unfold execReserveCheck
  exact doneCore_memOk (onHw_memOk (fun _ ht => ite_memOk (hwCheck_memOk ht) ht) h)
theorem execHwFallback_memOk {s : State} (h : memOk s = true) : AnswersOk (execHwFallback s) := by
  unfold execHwFallback
  exact doneCore_memOk (onHw_memOk (fun _ ht => ite_memOk (hwTake_memOk ht) ht) h)
theorem execHwReturn_memOk {s : State} (h : memOk s = true) : AnswersOk (execHwReturn s) := by
  unfold execHwReturn
  exact doneCore_memOk (onHw_memOk (fun _ ht => ite_memOk (hwReturn_memOk ht) ht) h)
theorem execEngineHeartbeat_memOk {tick : Nat} {s : State} (h : memOk s = true) : AnswersOk (execEngineHeartbeat tick s) := by
  unfold execEngineHeartbeat
  exact doneCore_memOk (ite_memOk (hwBeat_memOk h) h)
theorem execBridgeFrame_memOk {mics : List (Nat × List Int)} {status : Bool} {s : State} (h : memOk s = true) : AnswersOk (execBridgeFrame mics status s) := by
  unfold execBridgeFrame
  exact doneCore_memOk (onHw_memOk (fun _ ht => hwFrame_memOk ht) h)
theorem execHwBridge_memOk {s : State} (h : memOk s = true) : AnswersOk (execHwBridge s) := by
  unfold execHwBridge
  exact doneCore_memOk (ite_memOk (eta_memOk (hwLost_memOk h)) h)
theorem execJackInsert_memOk {mic : Fin 4} {s : State} (h : memOk s = true) : AnswersOk (execJackInsert mic s) := by
  unfold execJackInsert
  exact doneCore_memOk (onHwReady_memOk (fun _ ht => ite_memOk ht (setMic_memOk ht)) h)
theorem execMicTypeDetect_memOk {mic : Fin 4} {current : Nat} {rd : Nat} {s : State} (h : memOk s = true) : AnswersOk (execMicTypeDetect mic current rd s) := by
  unfold execMicTypeDetect
  exact doneCore_memOk (onHw_memOk (fun _ ht => ite_memOk (hwFlag_memOk (wr_memOk (setMic_memOk ht))) ht) h)
theorem execJackRemove_memOk {mic : Fin 4} {s : State} (h : memOk s = true) : AnswersOk (execJackRemove mic s) := by
  unfold execJackRemove
  exact doneCore_memOk (onHw_memOk (fun _ ht => ite_memOk (hwFlag_memOk (setMic_memOk ht)) ht) h)
theorem execHwMicFault_memOk {mic : Fin 4} {iUa : Nat} {s : State} (h : memOk s = true) : AnswersOk (execHwMicFault mic iUa s) := by
  unfold execHwMicFault
  exact doneCore_memOk (onHwReady_memOk (fun _ ht => ite_memOk (micSupervise_memOk ht) ht) h)
theorem execHwKey_memOk {mic : Fin 4} {iUa : Nat} {s : State} (h : memOk s = true) : AnswersOk (execHwKey mic iUa s) := by
  unfold execHwKey
  exact doneCore_memOk (onHwReady_memOk (fun _ ht => ite_memOk (hwResend_memOk (micKeys_memOk ht)) ht) h)
theorem execHwContact_memOk {cin : Fin 8} {ohms : Nat} {s : State} (h : memOk s = true) : AnswersOk (execHwContact cin ohms s) := by
  unfold execHwContact
  exact doneCore_memOk (onHwReady_memOk (fun _ ht => ite_memOk (hwResend_memOk (cinTick_memOk ht)) ht) h)
theorem execHwShort_memOk {ch : Fin 2} {r : Int} {x : Int} {s : State} (h : memOk s = true) : AnswersOk (execHwShort ch r x s) := by
  unfold execHwShort
  exact doneCore_memOk (onHw_memOk (fun _ ht => ite_memOk (chShort_memOk ht) (ite_memOk (chShort_memOk (sweepFail_memOk ht)) ht)) h)
theorem execPilotWindowEnd_memOk {ch : Fin 2} {r : Int} {x : Int} {tooSmall : Bool} {power : Nat} {s : State} (h : memOk s = true) : AnswersOk (execPilotWindowEnd ch r x tooSmall power s) := by
  unfold execPilotWindowEnd
  exact doneCore_memOk (onHw_memOk (fun _ ht => ite_memOk (ite_memOk (chShort_memOk (wr_memOk (zReport_memOk (setCh_memOk ht)))) (lineTake_memOk (wr_memOk (zReport_memOk (setCh_memOk ht))))) ht) h)
theorem execShortProbe_memOk {ch : Fin 2} {s : State} (h : memOk s = true) : AnswersOk (execShortProbe ch s) := by
  unfold execShortProbe
  exact doneCore_memOk (onHw_memOk (fun _ ht => ite_memOk (probeStart_memOk ht) ht) h)
theorem execShortProbeEnd_memOk {ch : Fin 2} {r : Int} {x : Int} {limited : Bool} {s : State} (h : memOk s = true) : AnswersOk (execShortProbeEnd ch r x limited s) := by
  unfold execShortProbeEnd
  exact doneCore_memOk (onHw_memOk (fun _ ht => ite_memOk (ite_memOk (setCh_memOk (zReport_memOk ht)) (setCh_memOk (zReport_memOk ht))) ht) h)
theorem execVbatFault_memOk {mv : Nat} {s : State} (h : memOk s = true) : AnswersOk (execVbatFault mv s) := by
  unfold execVbatFault
  exact doneCore_memOk (onHw_memOk (fun _ ht => ite_memOk (hwFlag_memOk (chsFault_memOk (modHwd_memOk (fun _ hm => hm) (wrF_memOk ht)))) (wrF_memOk ht)) h)
theorem execVbatReturn_memOk {mv : Nat} {s : State} (h : memOk s = true) : AnswersOk (execVbatReturn mv s) := by
  unfold execVbatReturn
  exact doneCore_memOk (onHw_memOk (fun _ ht => ite_memOk (hwFlag_memOk (chsReturn_memOk (modHwd_memOk (fun _ hm => hm) (wrF_memOk ht)))) (wrF_memOk ht)) h)
theorem execHwThermal_memOk {temp : Int} {s : State} (h : memOk s = true) : AnswersOk (execHwThermal temp s) := by
  unfold execHwThermal
  exact doneCore_memOk (onHw_memOk (fun _ ht => ite_memOk (hwFlag_memOk (ite_memOk (chsFault_memOk (modHwd_memOk (fun _ hm => hm) (wr_memOk ht))) (ite_memOk (chsReturn_memOk (modHwd_memOk (fun _ hm => hm) (wr_memOk ht))) (modHwd_memOk (fun _ hm => hm) (wr_memOk ht))))) (ite_memOk (chsFault_memOk (modHwd_memOk (fun _ hm => hm) (wr_memOk ht))) (ite_memOk (chsReturn_memOk (modHwd_memOk (fun _ hm => hm) (wr_memOk ht))) (modHwd_memOk (fun _ hm => hm) (wr_memOk ht))))) h)
theorem execReserveMessageEnd_memOk {s : State} (h : memOk s = true) : AnswersOk (execReserveMessageEnd s) := by
  unfold execReserveMessageEnd
  refine doneCore_memOk ?_
  refine onHw_memOk ?_ h
  intro _ ht
  split
  · exact ht
  · exact ite_memOk (hwEnd_memOk ht) ht
theorem execHeartwoodTick_memOk {obs : HwdObs} {s : State} (h : memOk s = true) : AnswersOk (execHeartwoodTick obs s) := by
  unfold execHeartwoodTick
  exact doneCore_memOk (onHw_memOk (fun _ ht => hwTick_memOk ht) h)
theorem execHeartwoodPowerUp_memOk {s : State} (h : memOk s = true) : AnswersOk (execHeartwoodPowerUp s) := by
  unfold execHeartwoodPowerUp
  exact doneCore_memOk (ite_memOk (hwPowerUp_memOk h) h)
theorem execImpedanceSweep_memOk {slot : Fin 16} {s : State} (h : memOk s = true) : AnswersOk (execImpedanceSweep slot s) := by
  unfold execImpedanceSweep
  exact doneCore_memOk (ite_memOk (jobTryBegin_memOk h) (ite_memOk (jobFin_memOk (jobTryBegin_memOk h)) (modHwd_memOk (fun _ hm => hm) (setCh_memOk (jobTryBegin_memOk h)))))
theorem execSweepPointEnd_memOk {r : Int} {x : Int} {s : State} (h : memOk s = true) : AnswersOk (execSweepPointEnd r x s) := by
  unfold execSweepPointEnd
  refine doneCore_memOk ?_
  split
  · exact h
  · exact ite_memOk h (ite_memOk (jobAborted_memOk (sweepClose_memOk (jobProgress_memOk (modHwd_memOk (fun _ hm => hm) h)))) (ite_memOk (jobFin_memOk (sweepClose_memOk (jobProgress_memOk (modHwd_memOk (fun _ hm => hm) h)))) (jobProgress_memOk (modHwd_memOk (fun _ hm => hm) h))))
theorem execPresenceAssert_memOk {s : State} (h : memOk s = true) : AnswersOk (execPresenceAssert s) := by
  unfold execPresenceAssert
  exact doneCore_memOk (ite_memOk (presentOn_memOk h) h)
theorem execPresenceRelease_memOk {s : State} (h : memOk s = true) : AnswersOk (execPresenceRelease s) := by
  unfold execPresenceRelease
  exact doneCore_memOk (ite_memOk (unheld_memOk (modPrs_memOk h)) h)
theorem execSealSample_memOk {ok : Bool} {s : State} (h : memOk s = true) : AnswersOk (execSealSample ok s) := by
  unfold execSealSample
  exact doneCore_memOk (ite_memOk (sealSample_memOk h) h)
theorem execReseal_memOk {val : W32} {s : State} (h : memOk s = true) : AnswersOk (execReseal val s) := by
  unfold execReseal
  exact doneCore_memOk (byHost_memOk (fun _ ht => reseal_memOk ht) h)
theorem execPresenceWindowExpiry_memOk {s : State} (h : memOk s = true) : AnswersOk (execPresenceWindowExpiry s) := by
  unfold execPresenceWindowExpiry
  exact doneCore_memOk (ite_memOk (ite_memOk (windowEnd_memOk (rtcAdvance_memOk h)) (ite_memOk (windowEnd_memOk h) h)) h)
theorem execDomainFault_memOk {d : Fin 12} {s : State} (h : memOk s = true) : AnswersOk (execDomainFault d s) := by
  unfold execDomainFault
  exact doneCore_memOk (ite_memOk h (ite_memOk (twinFault_memOk (declareFaulty_memOk (flagRaise_memOk (modPwd_memOk h)))) (flagRaise_memOk (modPwd_memOk h))))
theorem execSupplyFail_memOk {s : State} (h : memOk s = true) : AnswersOk (execSupplyFail s) := by
  unfold execSupplyFail
  exact doneCore_memOk (supplyFail_memOk h)
theorem execVcoreUndervoltage_memOk {s : State} (h : memOk s = true) : AnswersOk (execVcoreUndervoltage s) := by
  unfold execVcoreUndervoltage
  exact doneCore_memOk (supplyFail_memOk h)
theorem execTempWarnCross_memOk {temp : Int} {s : State} (h : memOk s = true) : AnswersOk (execTempWarnCross temp s) := by
  unfold execTempWarnCross
  exact doneCore_memOk (ite_memOk h (ite_memOk (flagRaise_memOk (modPwd_memOk (modPwd_memOk h))) (ite_memOk (flagRaise_memOk (modPwd_memOk (modPwd_memOk h))) (modPwd_memOk h))))
theorem execEngineThermalFault_memOk {s : State} (h : memOk s = true) : AnswersOk (execEngineThermalFault s) := by
  unfold execEngineThermalFault
  exact doneCore_memOk (ite_memOk (modPwd_memOk (twinFault_memOk (declareFaulty_memOk h))) h)
theorem execProve_memOk {slot : Fin 16} {s : State} (h : memOk s = true) : AnswersOk (execProve slot s) := by
  unfold execProve
  exact doneCore_memOk (ite_memOk (jobTryBegin_memOk h) (ite_memOk (jobFin_memOk (jobTryBegin_memOk h)) (wr_memOk (wr_memOk (modPrv_memOk (jobTryBegin_memOk h))))))
theorem execProveGroupStart_memOk {s : State} (h : memOk s = true) : AnswersOk (execProveGroupStart s) := by
  unfold execProveGroupStart
  refine doneCore_memOk ?_
  split
  · exact ite_memOk (prvStart_memOk h) h
  · exact h
theorem execProveGroupEnd_memOk {meas : List ProveMeas} {s : State} (h : memOk s = true) : AnswersOk (execProveGroupEnd meas s) := by
  unfold execProveGroupEnd
  refine doneCore_memOk ?_
  split
  · exact ite_memOk (prvNext_memOk (prvJudge_memOk h)) h
  · exact h
theorem execProveWritesDone_memOk {s : State} (h : memOk s = true) : AnswersOk (execProveWritesDone s) := by
  unfold execProveWritesDone
  refine doneCore_memOk ?_
  split
  · exact ite_memOk (prvWritten_memOk h) h
  · exact h
theorem execTwinPair_memOk {val : W32} {s : State} (h : memOk s = true) : AnswersOk (execTwinPair val s) := by
  unfold execTwinPair
  exact doneCore_memOk (byHost_memOk (fun _ ht => twinPairHost_memOk ht) h)
theorem execTwinUnpair_memOk {val : W32} {s : State} (h : memOk s = true) : AnswersOk (execTwinUnpair val s) := by
  unfold execTwinUnpair
  exact doneCore_memOk (byHost_memOk (fun _ ht => twinPairHost_memOk ht) h)
theorem execPairForm_memOk {s : State} (h : memOk s = true) : AnswersOk (execPairForm s) := by
  unfold execPairForm
  exact doneCore_memOk (ite_memOk (flagRaise_memOk (modTwn_memOk h)) h)
theorem execTwinLinkUp_memOk {serial : W64} {lanes : Nat} {latency : Nat} {s : State} (h : memOk s = true) : AnswersOk (execTwinLinkUp serial lanes latency s) := by
  unfold execTwinLinkUp
  exact doneCore_memOk (ite_memOk h (ite_memOk (emit_memOk (twinLink_memOk (modTwn_memOk h))) (flagRaise_memOk (modTwn_memOk (modTwn_memOk h)))))
theorem execTwinLinkLoss_memOk {s : State} (h : memOk s = true) : AnswersOk (execTwinLinkLoss s) := by
  unfold execTwinLinkLoss
  exact doneCore_memOk (ite_memOk h (ite_memOk (resyncFail_memOk (isolateWaiting_memOk (twinLink_memOk h))) (ite_memOk (partnerOut_memOk (outOfStep_memOk (isolateWaiting_memOk (twinLink_memOk h)))) (isolateWaiting_memOk (twinLink_memOk h)))))
theorem execTwinHeartbeat_memOk {tick : Nat} {edge : Bool} {s : State} (h : memOk s = true) : AnswersOk (execTwinHeartbeat tick edge s) := by
  unfold execTwinHeartbeat
  exact doneCore_memOk (ite_memOk (modTwn_memOk h) (ite_memOk (modTwn_memOk h) h))
theorem execDigestMessage_memOk {tick : Nat} {crc : W32} {fault : Bool} {s : State} (h : memOk s = true) : AnswersOk (execDigestMessage tick crc fault s) := by
  unfold execDigestMessage
  exact doneCore_memOk (ite_memOk (modTwn_memOk h) h)
theorem execBundleCutoff_memOk {s : State} (h : memOk s = true) : AnswersOk (execBundleCutoff s) := by
  unfold execBundleCutoff
  exact doneCore_memOk (cutoffNow_memOk h)
theorem execTakeover_memOk {cause : Fin 4} {s : State} (h : memOk s = true) : AnswersOk (execTakeover cause s) := by
  unfold execTakeover
  exact doneCore_memOk (ite_memOk (takeover_memOk h) h)
theorem execAutoResyncStart_memOk {s : State} (h : memOk s = true) : AnswersOk (execAutoResyncStart s) := by
  unfold execAutoResyncStart
  exact doneCore_memOk (autoResync_memOk h)
theorem execBundleTrailer_memOk {frame : Nat} {bytes : Nat} {acc : Nat} {whole : Bool} {s : State} (h : memOk s = true) : AnswersOk (execBundleTrailer frame bytes acc whole s) := by
  unfold execBundleTrailer
  exact doneCore_memOk (ite_memOk (dualActive_memOk h) (ite_memOk (ite_memOk (bundleSize_memOk (modBundle_memOk h)) (modTwn_memOk h)) h))
theorem execRoleRxChange_memOk {level : Bool} {s : State} (h : memOk s = true) : AnswersOk (execRoleRxChange level s) := by
  unfold execRoleRxChange
  exact doneCore_memOk (ite_memOk (ite_memOk (dualActive_memOk (modTwn_memOk h)) (modTwn_memOk (modTwn_memOk h))) (modTwn_memOk h))
theorem execBundleItem_memOk {frame : Nat} {item : BundleItem} {s : State} (h : memOk s = true) : AnswersOk (execBundleItem frame item s) := by
  unfold execBundleItem
  refine doneCore_memOk ?_
  refine ite_memOk h ?_
  split
  · exact ite_memOk (dualActive_memOk h) (modBundle_memOk h)
  · exact partnerOut_memOk h
  · exact modBundle_memOk h
  · exact ite_memOk (modBundle_memOk h) h
theorem execResync_memOk {slot : Fin 16} {s : State} (h : memOk s = true) : AnswersOk (execResync slot s) := by
  unfold execResync
  exact doneCore_memOk (ite_memOk h (ite_memOk (jobEnd_memOk (jobTryBegin_memOk h)) (ite_memOk (jobEnd_memOk (jobTryBegin_memOk h)) (ite_memOk (jobEnd_memOk (jobTryBegin_memOk h)) (ite_memOk (jobEnd_memOk (jobTryBegin_memOk h)) (resyncStart_memOk (jobTryBegin_memOk h)))))))
theorem execResyncDelta_memOk {copy : StateCopy} {s : State} (h : memOk s = true) : AnswersOk (execResyncDelta copy s) := by
  unfold execResyncDelta
  refine done_memOk ?_
  refine ite_memOk ?_ h
  dsimp only
  split
  · exact jobProgress_memOk (eta_memOk (modTwn_memOk (applyCopy_memOk h)))
  · exact eta_memOk (modTwn_memOk (applyCopy_memOk h))
theorem execResyncStandbyReached_memOk {s : State} (h : memOk s = true) : AnswersOk (execResyncStandbyReached s) := by
  unfold execResyncStandbyReached
  exact doneCore_memOk (ite_memOk (raise_memOk (modTwn_memOk (graftEnd_memOk h))) (ite_memOk (standbyReached_memOk h) h))
theorem execJobDispatch_memOk {slot : Fin 16} {s : State} (h : memOk s = true) : AnswersOk (execJobDispatch slot s) := by
  unfold execJobDispatch
  exact doneCore_memOk (ite_memOk (jobFrozen_memOk (jobTryBegin_memOk h)) (jobTryBegin_memOk h))
theorem execJobDone_memOk {slot : Fin 16} {s : State} (h : memOk s = true) : AnswersOk (execJobDone slot s) := by
  unfold execJobDone
  refine doneCore_memOk ?_
  split
  · exact jobEnd_memOk h
  · exact h
theorem execImgLoad_memOk {slot : Fin 16} {bytes : Option (List Byte)} {s : State} (h : memOk s = true) : AnswersOk (execImgLoad slot bytes s) := by
  unfold execImgLoad
  exact doneCore_memOk (imgRun_memOk h)
theorem execGraft_memOk {slot : Fin 16} {bytes : Option (List Byte)} {s : State} (h : memOk s = true) : AnswersOk (execGraft slot bytes s) := by
  unfold execGraft
  exact doneCore_memOk (imgRun_memOk h)
theorem execImgDmaTimeout_memOk {slot : Fin 16} {s : State} (h : memOk s = true) : AnswersOk (execImgDmaTimeout slot s) := by
  unfold execImgDmaTimeout
  exact doneCore_memOk (ite_memOk (imgRefuseTell_memOk h) h)
theorem execImgTwinReport_memOk {ssig : List Byte} {fprint : List Byte} {reply : ImgReply} {s : State} (h : memOk s = true) : AnswersOk (execImgTwinReport ssig fprint reply s) := by
  unfold execImgTwinReport
  refine doneCore_memOk ?_
  refine ite_memOk h ?_
  split
  · exact imgDecide_memOk h
  · exact imgDecide_memOk (modImg_memOk (ite_memOk (modTwn_memOk (modImg_memOk h)) h))
theorem execImgLoadPhase2_memOk {s : State} (h : memOk s = true) : AnswersOk (execImgLoadPhase2 s) := by
  unfold execImgLoadPhase2
  refine done_memOk ?_
  refine ite_memOk h ?_
  split
  · exact modImg_memOk (distribute_memOk (jobsStop_memOk h))
  · exact modImg_memOk (distribute_memOk h)
  · exact h
theorem execImgMediaRestart_memOk {s : State} (h : memOk s = true) : AnswersOk (execImgMediaRestart s) := by
  unfold execImgMediaRestart
  refine done_memOk ?_
  split
  · exact imgStarting_memOk (modTwn_memOk (commitMade_memOk (mediaStart_memOk h)))
  · exact h
theorem execGraftT1_memOk {s : State} (h : memOk s = true) : AnswersOk (execGraftT1 s) := by
  unfold execGraftT1
  refine done_memOk ?_
  split
  · exact ite_memOk (graftBegin_memOk h) h
  · exact h
theorem execGraftStateComplete_memOk {copy : StateCopy} {s : State} (h : memOk s = true) : AnswersOk (execGraftStateComplete copy s) := by
  unfold execGraftStateComplete
  refine done_memOk ?_
  split
  · refine ite_memOk ?_ h
    refine ite_memOk ?_ (modImg_memOk (jobProgress_memOk h))
    split
    · exact graftApply_memOk (modImg_memOk (jobProgress_memOk h))
    · exact modImg_memOk (jobProgress_memOk h)
  · exact h
theorem execGraftT2_memOk {s : State} (h : memOk s = true) : AnswersOk (execGraftT2 s) := by
  unfold execGraftT2
  refine done_memOk ?_
  split
  · exact ite_memOk (graftSwap_memOk h) h
  · exact h
theorem execLedgerAccept_memOk {s : State} (h : memOk s = true) : AnswersOk (execLedgerAccept s) := by
  unfold execLedgerAccept
  exact doneCore_memOk (ite_memOk (ledgerAccept_memOk h) h)
theorem execLedgerNop_memOk {seq : Nat} {s : State} (h : memOk s = true) : AnswersOk (execLedgerNop seq s) := by
  unfold execLedgerNop
  exact doneCore_memOk (ledgerStep_memOk h)
theorem execRegWrite_memOk {seq : Nat} {s : State} (h : memOk s = true) : AnswersOk (execRegWrite seq s) := by
  unfold execRegWrite
  exact done_memOk (ledgerStep_memOk h)
theorem execSwap_memOk {seq : Nat} {s : State} (h : memOk s = true) : AnswersOk (execSwap seq s) := by
  unfold execSwap
  exact doneCore_memOk (ledgerStep_memOk h)
theorem execAnnounce_memOk {seq : Nat} {s : State} (h : memOk s = true) : AnswersOk (execAnnounce seq s) := by
  unfold execAnnounce
  exact doneCore_memOk (ledgerStep_memOk h)
theorem execRoleSwap_memOk {seq : Nat} {s : State} (h : memOk s = true) : AnswersOk (execRoleSwap seq s) := by
  unfold execRoleSwap
  exact doneCore_memOk (ledgerStep_memOk h)
theorem execLedgerSubmit_memOk {val : W32} {s : State} (h : memOk s = true) : AnswersOk (execLedgerSubmit val s) := by
  unfold execLedgerSubmit
  exact doneCore_memOk (byHost_memOk (fun _ ht => submit_memOk ht) h)
theorem execLedgerRecordForward_memOk {r : RecordMsg} {s : State} (h : memOk s = true) : AnswersOk (execLedgerRecordForward r s) := by
  unfold execLedgerRecordForward
  refine doneCore_memOk ?_
  refine ite_memOk h ?_
  refine ite_memOk (modLedger_memOk h) ?_
  split
  · exact ite_memOk (emit_memOk (modLedger_memOk h)) (ite_memOk h (ledgerConflict_memOk h))
  · exact ite_memOk h (emit_memOk (entryWrite_memOk (modLedger_memOk h)))
theorem execLedgerDump_memOk {slot : Fin 16} {n : Nat} {s : State} (h : memOk s = true) : AnswersOk (execLedgerDump slot n s) := by
  unfold execLedgerDump
  refine doneCore_memOk ?_
  refine ite_memOk (jobTryBegin_memOk h) ?_
  refine ite_memOk (jobEnd_memOk (jobTryBegin_memOk h)) ?_
  dsimp only
  split
  · exact ite_memOk (jobFin_memOk (resultWrite_memOk (eta_memOk (timesN_memOk (fun _ ht => dumpOne_memOk ht) (ite_memOk (eta_memOk (jobTryBegin_memOk h)) (jobTryBegin_memOk h)))))) (timesN_memOk (fun _ ht => dumpOne_memOk ht) (ite_memOk (eta_memOk (jobTryBegin_memOk h)) (jobTryBegin_memOk h)))
  · exact timesN_memOk (fun _ ht => dumpOne_memOk ht) (ite_memOk (eta_memOk (jobTryBegin_memOk h)) (jobTryBegin_memOk h))
theorem execColdStart_memOk {s : State} (h : memOk s = true) : AnswersOk (execColdStart s) := by
  unfold execColdStart
  exact done_memOk (ite_memOk (startNow_memOk h) h)
theorem execColdStartRetry_memOk {s : State} (h : memOk s = true) : AnswersOk (execColdStartRetry s) := by
  unfold execColdStartRetry
  exact done_memOk (ite_memOk (startNow_memOk h) h)
theorem execSysReset_memOk {val : W32} {s : State} (h : memOk s = true) : AnswersOk (execSysReset val s) := by
  unfold execSysReset
  exact done_memOk (byHost_memOk (fun _ ht => regWrite_memOk ht) h)
theorem execStewardWatchdog_memOk {s : State} (h : memOk s = true) : AnswersOk (execStewardWatchdog s) := by
  unfold execStewardWatchdog
  exact done_memOk (ite_memOk (warmReset_memOk h) h)
theorem execResetN_memOk {low : Bool} {s : State} (h : memOk s = true) : AnswersOk (execResetN low s) := by
  unfold execResetN
  exact done_memOk (ite_memOk (ite_memOk (engineDown_memOk (retain_memOk h)) h) (ite_memOk (startNow_memOk h) h))
theorem execSupplyReturn_memOk {s : State} (h : memOk s = true) : AnswersOk (execSupplyReturn s) := by
  unfold execSupplyReturn
  exact done_memOk (ite_memOk (warmReset_memOk h) h)
theorem execBootBgLoad_memOk {bytes : Option (List Byte)} {s : State} (h : memOk s = true) : AnswersOk (execBootBgLoad bytes s) := by
  unfold execBootBgLoad
  exact done_memOk (ite_memOk (ite_memOk (imgStarting_memOk (commitMade_memOk (mediaStart_memOk (modImg_memOk (bootLoad_memOk (when_memOk (fun _ ht => emit_memOk ht) (flashOpen_memOk h))))))) (modImg_memOk (bootLoad_memOk (when_memOk (fun _ ht => emit_memOk ht) (flashOpen_memOk h))))) h)
theorem execWakeSequence_memOk {obs : WakeObs} {s : State} (h : memOk s = true) : AnswersOk (execWakeSequence obs s) := by
  unfold execWakeSequence
  exact done_memOk (ite_memOk (modTwn_memOk (macsSet_memOk (bootStart_memOk (dramStart_memOk (modSys_memOk (clearAll_memOk (startMarch_memOk (modSys_memOk h)))))))) h)
theorem execReady_memOk {s : State} (h : memOk s = true) : AnswersOk (execReady s) := by
  unfold execReady
  exact done_memOk (ite_memOk (modHwd_memOk (fun _ hm => hm) (ite_memOk (foldS_memOk (fun _ _ ht => raiseLate_memOk ht) (prsElapse_memOk (rtcAdvance_memOk (mediaWithImage_memOk (modSys_memOk h))))) (raise_memOk (foldS_memOk (fun _ _ ht => raiseLate_memOk ht) (prsElapse_memOk (rtcAdvance_memOk (mediaWithImage_memOk (modSys_memOk h)))))))) h)
theorem execWakeAbandon_memOk {s : State} (h : memOk s = true) : AnswersOk (execWakeAbandon s) := by
  unfold execWakeAbandon
  exact done_memOk (ite_memOk (modSys_memOk (modPwd_memOk (napDown_memOk h))) h)
theorem execPwdNap_memOk {val : W32} {s : State} (h : memOk s = true) : AnswersOk (execPwdNap val s) := by
  unfold execPwdNap
  exact doneCore_memOk (byHost_memOk (fun _ ht => regWrite_memOk ht) h)
theorem execPwdLatchClr_memOk {val : W32} {s : State} (h : memOk s = true) : AnswersOk (execPwdLatchClr val s) := by
  unfold execPwdLatchClr
  exact doneCore_memOk (byHost_memOk (fun _ ht => regWrite_memOk ht) h)
theorem execNapEntry_memOk {s : State} (h : memOk s = true) : AnswersOk (execNapEntry s) := by
  unfold execNapEntry
  exact done_memOk (ite_memOk (modPwd_memOk (napDown_memOk h)) h)
theorem execNapWake_memOk {source : Nat} {cin : Nat} {s : State} (h : memOk s = true) : AnswersOk (execNapWake source cin s) := by
  unfold execNapWake
  refine done_memOk ?_
  refine ite_memOk h ?_
  refine ite_memOk (ite_memOk h (wakeNow_memOk (wakeTaken_memOk h))) ?_
  refine ite_memOk ?_ h
  split
  · exact ite_memOk h (modPwd_memOk h)
  · exact modPwd_memOk h
theorem execVaonLoss_memOk {s : State} (h : memOk s = true) : AnswersOk (execVaonLoss s) := by
  unfold execVaonLoss
  exact done_memOk (memOk_iff.mpr ⟨rfl, rfl, (mramOk h :)⟩)
theorem execRegisterWrite_memOk {addr : Nat} {val : W32} {s : State} (h : memOk s = true) : AnswersOk (execRegisterWrite addr val s) := by
  unfold execRegisterWrite
  exact done_memOk (byHost_memOk (fun _ ht => hostWrite_memOk ht) h)
theorem execRcRegisterRead_memOk {addr : Nat} {hit : ReadHit} {s : State} (h : memOk s = true) : AnswersOk (execRcRegisterRead addr hit s) := by
  unfold execRcRegisterRead
  exact doneCore_memOk (byHost_memOk (fun _ ht => hostReadOut_memOk ht) h)
theorem execMultiwordCaptureRead_memOk {addr : Nat} {s : State} (h : memOk s = true) : AnswersOk (execMultiwordCaptureRead addr s) := by
  unfold execMultiwordCaptureRead
  exact doneCore_memOk (byHost_memOk (fun _ ht => hostReadOut_memOk ht) h)
theorem execNarrowWrite_memOk {addr : Nat} {width : Width} {val : W32} {s : State} (h : memOk s = true) : AnswersOk (execNarrowWrite addr width val s) := by
  unfold execNarrowWrite
  exact done_memOk (byHost_memOk (fun _ ht => hostWrite_memOk ht) h)
theorem execUnmapped_memOk {addr : Nat} {isWrite : Bool} {val : W32} {s : State} (h : memOk s = true) : AnswersOk (execUnmapped addr isWrite val s) := by
  unfold execUnmapped
  exact done_memOk (byHost_memOk (fun _ ht => ite_memOk (hostWrite_memOk ht) (hostReadOut_memOk ht)) h)
theorem execGainShadowWrite_memOk {addr : Nat} {width : Width} {val : W32} {hit : WriteHit} {s : State} (h : memOk s = true) : AnswersOk (execGainShadowWrite addr width val hit s) := by
  unfold execGainShadowWrite
  exact doneCore_memOk (byHost_memOk (fun _ ht => hostWrite_memOk ht) h)
theorem execFullerMemoryWrite_memOk {addr : Nat} {width : Width} {val : W32} {hit : WriteHit} {s : State} (h : memOk s = true) : AnswersOk (execFullerMemoryWrite addr width val hit s) := by
  unfold execFullerMemoryWrite
  exact done_memOk (byHost_memOk (fun _ ht => hostWrite_memOk ht) h)
theorem execTckRealign_memOk {val : W32} {s : State} (h : memOk s = true) : AnswersOk (execTckRealign val s) := by
  unfold execTckRealign
  exact doneCore_memOk (byHost_memOk (fun _ ht => ite_memOk (realign_memOk ht) (deny_memOk ht)) h)
theorem execCommit_memOk {val : W32} {s : State} (h : memOk s = true) : AnswersOk (execCommit val s) := by
  unfold execCommit
  exact doneCore_memOk (byHost_memOk (fun _ ht => commitWrite_memOk ht) h)
theorem execCfgcrcRefWrite_memOk {val : W32} {s : State} (h : memOk s = true) : AnswersOk (execCfgcrcRefWrite val s) := by
  unfold execCfgcrcRefWrite
  exact doneCore_memOk (byHost_memOk (fun _ ht => refWrite_memOk ht) h)
theorem execEvtPendClear_memOk {word : Fin 4} {val : W32} {s : State} (h : memOk s = true) : AnswersOk (execEvtPendClear word val s) := by
  unfold execEvtPendClear
  exact doneCore_memOk (byHost_memOk (fun _ ht => pendWrite_memOk ht) h)
theorem execEvtRaise_memOk {val : W32} {s : State} (h : memOk s = true) : AnswersOk (execEvtRaise val s) := by
  unfold execEvtRaise
  exact doneCore_memOk (byHost_memOk (fun _ ht => ite_memOk (raise_memOk ht) (deny_memOk ht)) h)
theorem execGrfSelSet_memOk {val : W32} {s : State} (h : memOk s = true) : AnswersOk (execGrfSelSet val s) := by
  unfold execGrfSelSet
  exact doneCore_memOk (byHost_memOk (fun _ ht => grfSelSet_memOk ht) h)
theorem execGrfPriSet_memOk {val : W32} {s : State} (h : memOk s = true) : AnswersOk (execGrfPriSet val s) := by
  unfold execGrfPriSet
  exact doneCore_memOk (byHost_memOk (fun _ ht => ite_memOk (priWrite_memOk ht) (deny_memOk ht)) h)
theorem execRngDlySet_memOk {val : W32} {s : State} (h : memOk s = true) : AnswersOk (execRngDlySet val s) := by
  unfold execRngDlySet
  exact doneCore_memOk (byHost_memOk (fun _ ht => rngDlySet_memOk ht) h)
theorem execRngLenSet_memOk {val : W32} {s : State} (h : memOk s = true) : AnswersOk (execRngLenSet val s) := by
  unfold execRngLenSet
  exact doneCore_memOk (byHost_memOk (fun _ ht => rngLenSet_memOk ht) h)
theorem execPlyCancelStop_memOk {voice : Nat} {s : State} (h : memOk s = true) : AnswersOk (execPlyCancelStop voice s) := by
  unfold execPlyCancelStop
  exact doneCore_memOk (byHost_memOk (fun _ ht => rngCancel_memOk ht) h)
theorem execPlyCancelQueue_memOk {voice : Nat} {s : State} (h : memOk s = true) : AnswersOk (execPlyCancelQueue voice s) := by
  unfold execPlyCancelQueue
  exact doneCore_memOk (byHost_memOk (fun _ ht => rngCancel_memOk ht) h)
theorem execPlyCancelBoth_memOk {voice : Nat} {s : State} (h : memOk s = true) : AnswersOk (execPlyCancelBoth voice s) := by
  unfold execPlyCancelBoth
  exact doneCore_memOk (byHost_memOk (fun _ ht => rngCancel_memOk ht) h)
theorem execCnpDetSet_memOk {val : W32} {s : State} (h : memOk s = true) : AnswersOk (execCnpDetSet val s) := by
  unfold execCnpDetSet
  exact doneCore_memOk (byHost_memOk (fun _ ht => detSet_memOk ht) h)
theorem execCnpSclSet_memOk {val : W32} {s : State} (h : memOk s = true) : AnswersOk (execCnpSclSet val s) := by
  unfold execCnpSclSet
  exact doneCore_memOk (byHost_memOk (fun _ ht => sclSet_memOk ht) h)
theorem execStrHqTxProd_memOk {val : W32} {s : State} (h : memOk s = true) : AnswersOk (execStrHqTxProd val s) := by
  unfold execStrHqTxProd
  exact doneCore_memOk (hostReg32_memOk h)
theorem execTimStepAck_memOk {val : W32} {s : State} (h : memOk s = true) : AnswersOk (execTimStepAck val s) := by
  unfold execTimStepAck
  exact doneCore_memOk (byHost_memOk (fun _ ht => ite_memOk (stepAck_memOk ht) (deny_memOk ht)) h)
theorem execFallbackForceSet_memOk {val : W32} {s : State} (h : memOk s = true) : AnswersOk (execFallbackForceSet val s) := by
  unfold execFallbackForceSet
  exact doneCore_memOk (hostReg32_memOk h)
theorem execFallbackForceClear_memOk {val : W32} {s : State} (h : memOk s = true) : AnswersOk (execFallbackForceClear val s) := by
  unfold execFallbackForceClear
  exact doneCore_memOk (hostReg32_memOk h)
theorem execChannelReenable_memOk {ch : Fin 2} {val : W32} {s : State} (h : memOk s = true) : AnswersOk (execChannelReenable ch val s) := by
  unfold execChannelReenable
  exact doneCore_memOk (hostReg32_memOk (hostReg32_memOk h))
theorem execReserveStoreRead_memOk {s : State} (h : memOk s = true) : AnswersOk (execReserveStoreRead s) := by
  unfold execReserveStoreRead
  exact doneCore_memOk (byHost_memOk (fun _ ht => hostReadOut_memOk ht) h)
theorem execReserveStoreWrite_memOk {val : W32} {s : State} (h : memOk s = true) : AnswersOk (execReserveStoreWrite val s) := by
  unfold execReserveStoreWrite
  exact doneCore_memOk (hostReg32_memOk h)
theorem execHwdRsSave_memOk {val : W32} {s : State} (h : memOk s = true) : AnswersOk (execHwdRsSave val s) := by
  unfold execHwdRsSave
  exact doneCore_memOk (hostReg32_memOk h)
theorem execMonBaudWrite_memOk {val : W32} {s : State} (h : memOk s = true) : AnswersOk (execMonBaudWrite val s) := by
  unfold execMonBaudWrite
  exact doneCore_memOk (hostReg32_memOk h)
theorem execFunctionLevelReset_memOk {s : State} (h : memOk s = true) : AnswersOk (execFunctionLevelReset s) := by
  unfold execFunctionLevelReset
  exact doneCore_memOk (ite_memOk (endpointReset_memOk h) h)
theorem execHostLink_memOk {up : Bool} {s : State} (h : memOk s = true) : AnswersOk (execHostLink up s) := by
  unfold execHostLink
  exact doneCore_memOk (ite_memOk h (raise_memOk (eta_memOk (ite_memOk h (endpointReset_memOk h)))))
theorem execSpiWriteFrame_memOk {bytes : List Byte} {s : State} (h : memOk s = true) : AnswersOk (execSpiWriteFrame bytes s) := by
  unfold execSpiWriteFrame
  exact done_memOk (ite_memOk h (ite_memOk (spiEnd_memOk h) (ite_memOk (spiEnd_memOk (emit_memOk (ite_memOk (spiStore_memOk h) h))) (ite_memOk (spiStore_memOk h) h))))
theorem execSpiReadFrame_memOk {bytes : List Byte} {waits : Nat} {s : State} (h : memOk s = true) : AnswersOk (execSpiReadFrame bytes waits s) := by
  unfold execSpiReadFrame
  exact doneCore_memOk (spiRead_memOk h)
theorem execSpiReadTimeout_memOk {bytes : List Byte} {s : State} (h : memOk s = true) : AnswersOk (execSpiReadTimeout bytes s) := by
  unfold execSpiReadTimeout
  exact doneCore_memOk (spiRead_memOk h)
theorem execSpiStatusFrame_memOk {x : Byte} {s : State} (h : memOk s = true) : AnswersOk (execSpiStatusFrame x s) := by
  unfold execSpiStatusFrame
  exact doneCore_memOk (ite_memOk (emit_memOk (eta_memOk h)) h)
theorem execSpiShort_memOk {bytes : List Byte} {s : State} (h : memOk s = true) : AnswersOk (execSpiShort bytes s) := by
  unfold execSpiShort
  exact doneCore_memOk (ite_memOk h (spiEnd_memOk (ite_memOk (spiLoad_memOk h) h)))
theorem execSpiBadOpFrame_memOk {bytes : List Byte} {s : State} (h : memOk s = true) : AnswersOk (execSpiBadOpFrame bytes s) := by
  unfold execSpiBadOpFrame
  exact doneCore_memOk (ite_memOk h (spiEnd_memOk (emit_memOk h)))
theorem execJobReservedKind_memOk {slot : Fin 16} {val : W32} {s : State} (h : memOk s = true) : AnswersOk (execJobReservedKind slot val s) := by
  unfold execJobReservedKind
  exact doneCore_memOk (byHost_memOk (fun _ ht => ite_memOk (jobCmd_memOk ht) ht) h)
theorem execJobAbort_memOk {slot : Fin 16} {val : W32} {s : State} (h : memOk s = true) : AnswersOk (execJobAbort slot val s) := by
  unfold execJobAbort
  exact doneCore_memOk (byHost_memOk (fun _ ht => jobCmd_memOk ht) h)
theorem execJobSafePointAbort_memOk {slot : Fin 16} {s : State} (h : memOk s = true) : AnswersOk (execJobSafePointAbort slot s) := by
  unfold execJobSafePointAbort
  refine doneCore_memOk ?_
  refine ite_memOk h ?_
  split
  · exact ite_memOk (imgAbort_memOk h) h
  · exact ite_memOk (imgAbort_memOk h) h
  · split
    · exact ite_memOk h (jobStop_memOk h)
    · exact jobStop_memOk h
  · split
    · exact ite_memOk h (jobStop_memOk h)
    · exact jobStop_memOk h
  · exact jobStop_memOk h
theorem execRealignCounterLoad_memOk {s : State} (h : memOk s = true) : AnswersOk (execRealignCounterLoad s) := by
  unfold execRealignCounterLoad
  exact doneCore_memOk (ite_memOk (modSys_memOk (realignLoad_memOk h)) h)
theorem execRealignEnd_memOk {s : State} (h : memOk s = true) : AnswersOk (execRealignEnd s) := by
  unfold execRealignEnd
  exact doneCore_memOk (ite_memOk (realignDone_memOk h) h)
theorem execCfgcrcPassEnd_memOk {s : State} (h : memOk s = true) : AnswersOk (execCfgcrcPassEnd s) := by
  unfold execCfgcrcPassEnd
  exact doneCore_memOk (ite_memOk (cfgEnd_memOk h) h)
theorem execTickBoundary_memOk {obs : TickObs} {s : State} (h : memOk s = true) : AnswersOk (execTickBoundary obs s) := by
  unfold execTickBoundary
  exact done_memOk (ite_memOk (boundary_memOk h) (idleTick_memOk h))
theorem execMonitorCharacter_memOk {char : Byte} {framing : Bool} {s : State} (h : memOk s = true) : AnswersOk (execMonitorCharacter char framing s) := by
  unfold execMonitorCharacter
  exact done_memOk (ite_memOk h (ite_memOk (flagRaise_memOk (count_memOk h)) (monChar_memOk (modMon_memOk (ite_memOk h (flagRaise_memOk h))))))
theorem execMonitorBreak_memOk {s : State} (h : memOk s = true) : AnswersOk (execMonitorBreak s) := by
  unfold execMonitorBreak
  exact doneCore_memOk (ite_memOk h (ite_memOk (traceEnd_memOk (modMon_memOk (wr_memOk h))) (sayOk_memOk (modMon_memOk (wr_memOk h)))))
theorem execUnknownCommand_memOk {line : List Byte} {s : State} (h : memOk s = true) : AnswersOk (execUnknownCommand line s) := by
  unfold execUnknownCommand
  exact doneCore_memOk (ite_memOk (monLine_memOk h) h)
theorem execMonTxCharacterSent_memOk {s : State} (h : memOk s = true) : AnswersOk (execMonTxCharacterSent s) := by
  unfold execMonTxCharacterSent
  refine done_memOk ?_
  dsimp only
  split
  · exact recordNext_memOk h
  · refine ite_memOk ?_ ?_
    · refine lineIdle_memOk ?_
      split
      · exact modMon_memOk (wr_memOk (emit_memOk (modMon_memOk (recordNext_memOk h))))
      · exact emit_memOk (modMon_memOk (recordNext_memOk h))
    · split
      · exact modMon_memOk (wr_memOk (emit_memOk (modMon_memOk (recordNext_memOk h))))
      · exact emit_memOk (modMon_memOk (recordNext_memOk h))
theorem execMonPeek_memOk {addr : Nat} {n : Nat} {s : State} (h : memOk s = true) : AnswersOk (execMonPeek addr n s) := by
  unfold execMonPeek
  exact doneCore_memOk (monLine_memOk h)
theorem execMonDump_memOk {addr : Nat} {n : Nat} {s : State} (h : memOk s = true) : AnswersOk (execMonDump addr n s) := by
  unfold execMonDump
  exact doneCore_memOk (monLine_memOk h)
theorem execMonDram_memOk {addr : Nat} {n : Nat} {s : State} (h : memOk s = true) : AnswersOk (execMonDram addr n s) := by
  unfold execMonDram
  exact doneCore_memOk (monLine_memOk h)
theorem execMonEv_memOk {s : State} (h : memOk s = true) : AnswersOk (execMonEv s) := by
  unfold execMonEv
  exact doneCore_memOk (monLine_memOk h)
theorem execMonJob_memOk {slot : Nat} {s : State} (h : memOk s = true) : AnswersOk (execMonJob slot s) := by
  unfold execMonJob
  exact doneCore_memOk (monLine_memOk h)
theorem execMonLedger_memOk {idx : Nat} {n : Nat} {s : State} (h : memOk s = true) : AnswersOk (execMonLedger idx n s) := by
  unfold execMonLedger
  exact doneCore_memOk (monLine_memOk h)
theorem execMonStat_memOk {s : State} (h : memOk s = true) : AnswersOk (execMonStat s) := by
  unfold execMonStat
  exact doneCore_memOk (monLine_memOk h)
theorem execTraceTick_memOk {n : Nat} {s : State} (h : memOk s = true) : AnswersOk (execTraceTick n s) := by
  unfold execTraceTick
  exact doneCore_memOk (monLine_memOk h)
theorem execTraceEv_memOk {n : Nat} {s : State} (h : memOk s = true) : AnswersOk (execTraceEv n s) := by
  unfold execTraceEv
  exact doneCore_memOk (monLine_memOk h)
theorem execTraceLedger_memOk {n : Nat} {s : State} (h : memOk s = true) : AnswersOk (execTraceLedger n s) := by
  unfold execTraceLedger
  exact doneCore_memOk (monLine_memOk h)
theorem execMonStop_memOk {s : State} (h : memOk s = true) : AnswersOk (execMonStop s) := by
  unfold execMonStop
  exact doneCore_memOk (monLine_memOk h)
theorem execBaud_memOk {code : Nat} {s : State} (h : memOk s = true) : AnswersOk (execBaud code s) := by
  unfold execBaud
  exact doneCore_memOk (monLine_memOk h)
theorem execPoke_memOk {addr : Nat} {val : W32} {s : State} (h : memOk s = true) : AnswersOk (execPoke addr val s) := by
  unfold execPoke
  exact done_memOk (monLine_memOk h)
theorem execRmw_memOk {addr : Nat} {val : W32} {mask : W32} {s : State} (h : memOk s = true) : AnswersOk (execRmw addr val mask s) := by
  unfold execRmw
  exact done_memOk (monLine_memOk h)
theorem execTestOn_memOk {s : State} (h : memOk s = true) : AnswersOk (execTestOn s) := by
  unfold execTestOn
  exact doneCore_memOk (monLine_memOk h)
theorem execTestOff_memOk {s : State} (h : memOk s = true) : AnswersOk (execTestOff s) := by
  unfold execTestOff
  exact doneCore_memOk (monLine_memOk h)

/-! ## Every command, and every step -/

/-- Every command keeps the memories in canonical form. -/
theorem exec_memOk (i : Instr) {s : State} (h : memOk s = true) : AnswersOk (exec i s) := by
  cases i with
  | tickBoundary => exact execTickBoundary_memOk h
  | coreOverrun => exact execCoreOverrun_memOk h
  | tckRealign => exact execTckRealign_memOk h
  | realignCounterLoad => exact execRealignCounterLoad_memOk h
  | realignEnd => exact execRealignEnd_memOk h
  | registerWrite => exact execRegisterWrite_memOk h
  | rcRegisterRead => exact execRcRegisterRead_memOk h
  | multiwordCaptureRead => exact execMultiwordCaptureRead_memOk h
  | narrowWrite => exact execNarrowWrite_memOk h
  | unmapped => exact execUnmapped_memOk h
  | functionLevelReset => exact execFunctionLevelReset_memOk h
  | hostLink => exact execHostLink_memOk h
  | spiWriteFrame => exact execSpiWriteFrame_memOk h
  | spiReadFrame => exact execSpiReadFrame_memOk h
  | spiReadTimeout => exact execSpiReadTimeout_memOk h
  | spiStatusFrame tag => exact execSpiStatusFrame_memOk (x := tag) h
  | spiShort => exact execSpiShort_memOk h
  | cfgcrcPassEnd => exact execCfgcrcPassEnd_memOk h
  | commit => exact execCommit_memOk h
  | cfgcrcRefWrite => exact execCfgcrcRefWrite_memOk h
  | evtPendClear => exact execEvtPendClear_memOk h
  | evtRaise => exact execEvtRaise_memOk h
  | sysReset => exact execSysReset_memOk h
  | stewardWatchdog => exact execStewardWatchdog_memOk h
  | resetN => exact execResetN_memOk h
  | coldStart => exact execColdStart_memOk h
  | wakeSequence => exact execWakeSequence_memOk h
  | ready => exact execReady_memOk h
  | bootBgLoad => exact execBootBgLoad_memOk h
  | wakeAbandon => exact execWakeAbandon_memOk h
  | coldStartRetry => exact execColdStartRetry_memOk h
  | imgLoad => exact execImgLoad_memOk h
  | imgDmaTimeout => exact execImgDmaTimeout_memOk h
  | imgTwinReport => exact execImgTwinReport_memOk h
  | imgLoadPhase2 => exact execImgLoadPhase2_memOk h
  | imgMediaRestart => exact execImgMediaRestart_memOk h
  | graft => exact execGraft_memOk h
  | graftT1 => exact execGraftT1_memOk h
  | graftStateComplete => exact execGraftStateComplete_memOk h
  | graftT2 => exact execGraftT2_memOk h
  | jobReservedKind => exact execJobReservedKind_memOk h
  | jobDispatch => exact execJobDispatch_memOk h
  | jobAbort => exact execJobAbort_memOk h
  | jobSafePointAbort => exact execJobSafePointAbort_memOk h
  | jobDone => exact execJobDone_memOk h
  | ledgerSubmit => exact execLedgerSubmit_memOk h
  | ledgerAccept => exact execLedgerAccept_memOk h
  | ledgerNop => exact execLedgerNop_memOk h
  | regWrite => exact execRegWrite_memOk h
  | swap => exact execSwap_memOk h
  | swapTakesEffect => exact execSwapTakesEffect_memOk h
  | crosspointStepTimeout => exact execCrosspointStepTimeout_memOk h
  | announce => exact execAnnounce_memOk h
  | roleSwap => exact execRoleSwap_memOk h
  | grfSelSet => exact execGrfSelSet_memOk h
  | grfPriSet => exact execGrfPriSet_memOk h
  | selectorFadeEnd => exact execSelectorFadeEnd_memOk h
  | rngDlySet => exact execRngDlySet_memOk h
  | rngLenSet => exact execRngLenSet_memOk h
  | delayFadeEnd => exact execDelayFadeEnd_memOk h
  | playEnd => exact execPlayEnd_memOk h
  | plyCancelStop => exact execPlyCancelStop_memOk h
  | plyCancelQueue => exact execPlyCancelQueue_memOk h
  | plyCancelBoth => exact execPlyCancelBoth_memOk h
  | recorderSegmentEnd => exact execRecorderSegmentEnd_memOk h
  | recorderExport => exact execRecorderExport_memOk h
  | gainShadowWrite => exact execGainShadowWrite_memOk h
  | cnpDetSet => exact execCnpDetSet_memOk h
  | cnpSclSet => exact execCnpSclSet_memOk h
  | detectorHoldExpiry => exact execDetectorHoldExpiry_memOk h
  | sceneStageLoad => exact execSceneStageLoad_memOk h
  | sceneStageMirror => exact execSceneStageMirror_memOk h
  | fullerMemoryWrite => exact execFullerMemoryWrite_memOk h
  | nop => exact execNop_memOk h
  | clr => exact execClr_memOk h
  | mpy => exact execMpy_memOk h
  | mac => exact execMac_memOk h
  | msu => exact execMsu_memOk h
  | dmpy => exact execDmpy_memOk h
  | dmac => exact execDmac_memOk h
  | cmpy => exact execCmpy_memOk h
  | cmac => exact execCmac_memOk h
  | cmacj => exact execCmacj_memOk h
  | add => exact execAdd_memOk h
  | sub => exact execSub_memOk h
  | addx => exact execAddx_memOk h
  | asl => exact execAsl_memOk h
  | asr => exact execAsr_memOk h
  | neg => exact execNeg_memOk h
  | abs => exact execAbs_memOk h
  | maxa => exact execMaxa_memOk h
  | cmp => exact execCmp_memOk h
  | tst => exact execTst_memOk h
  | div => exact execDiv_memOk h
  | copy => exact execCopy_memOk h
  | jmp => exact execJmp_memOk h
  | call => exact execCall_memOk h
  | ret => exact execRet_memOk h
  | doLoop => exact execDoLoop_memOk h
  | dolc => exact execDolc_memOk h
  | brklp => exact execBrklp_memOk h
  | tend => exact execTend_memOk h
  | kImmediate => exact execKImmediate_memOk h
  | tTransfer => exact execTTransfer_memOk h
  | reservedEncoding => exact execReservedEncoding_memOk h
  | portEnable => exact execPortEnable_memOk h
  | portDisable => exact execPortDisable_memOk h
  | portLeadExpiry => exact execPortLeadExpiry_memOk h
  | portReceiveFrame => exact execPortReceiveFrame_memOk h
  | portTransmitFrame => exact execPortTransmitFrame_memOk h
  | portClockLoss => exact execPortClockLoss_memOk h
  | portClockQualify => exact execPortClockQualify_memOk h
  | rateWindowEnd => exact execRateWindowEnd_memOk h
  | slotMaskWrite => exact execSlotMaskWrite_memOk h
  | asrcLock => exact execAsrcLock_memOk h
  | aes3ReceiveFrame => exact execAes3ReceiveFrame_memOk h
  | aesCs => exact execAesCs_memOk h
  | aes3TxBlockStart => exact execAes3TxBlockStart_memOk h
  | refPresent => exact execRefPresent_memOk h
  | refLost => exact execRefLost_memOk h
  | freqWindowEnd => exact execFreqWindowEnd_memOk h
  | guardExpiry => exact execGuardExpiry_memOk h
  | wtrExpiry => exact execWtrExpiry_memOk h
  | switchDone => exact execSwitchDone_memOk h
  | absorbed => exact execAbsorbed_memOk h
  | holdover => exact execHoldover_memOk h
  | tickMarker => exact execTickMarker_memOk h
  | netEnable => exact execNetEnable_memOk h
  | netLink => exact execNetLink_memOk h
  | netFrameReceive => exact execNetFrameReceive_memOk h
  | streamLoad => exact execStreamLoad_memOk h
  | streamEnable => exact execStreamEnable_memOk h
  | streamDisable => exact execStreamDisable_memOk h
  | streamClear => exact execStreamClear_memOk h
  | streamLost => exact execStreamLost_memOk h
  | streamMarginWindowEnd => exact execStreamMarginWindowEnd_memOk h
  | mediaTxStart => exact execMediaTxStart_memOk h
  | hostFrameSend => exact execHostFrameSend_memOk h
  | strHqTxProd => exact execStrHqTxProd_memOk h
  | membershipReport => exact execMembershipReport_memOk h
  | igmpv2QuerierTimeout => exact execIgmpv2QuerierTimeout_memOk h
  | pauseExpiry => exact execPauseExpiry_memOk h
  | ptpEnable => exact execPtpEnable_memOk h
  | ptpSync => exact execPtpSync_memOk h
  | followUp => exact execFollowUp_memOk h
  | announceMessage => exact execAnnounceMessage_memOk h
  | delayResp => exact execDelayResp_memOk h
  | delayReqSend => exact execDelayReqSend_memOk h
  | ptpMasterSend => exact execPtpMasterSend_memOk h
  | delayReq => exact execDelayReq_memOk h
  | announceReceiptTimeout => exact execAnnounceReceiptTimeout_memOk h
  | syncLossTimeout => exact execSyncLossTimeout_memOk h
  | timStepAck => exact execTimStepAck_memOk h
  | timSet => exact execTimSet_memOk h
  | ppsArm => exact execPpsArm_memOk h
  | ppsDisarm => exact execPpsDisarm_memOk h
  | ppsEdge => exact execPpsEdge_memOk h
  | ppsPulseEnd => exact execPpsPulseEnd_memOk h
  | refreshDue => exact execRefreshDue_memOk h
  | owedRefreshIssue => exact execOwedRefreshIssue_memOk h
  | dramTempRead => exact execDramTempRead_memOk h
  | zqCalibration => exact execZqCalibration_memOk h
  | retrain => exact execRetrain_memOk h
  | dramRead => exact execDramRead_memOk h
  | dramWrite => exact execDramWrite_memOk h
  | writeQueueIssue => exact execWriteQueueIssue_memOk h
  | patrolScrubRead => exact execPatrolScrubRead_memOk h
  | dramParity => exact execDramParity_memOk h
  | hammerWindowStart => exact execHammerWindowStart_memOk h
  | rowHammer => exact execRowHammer_memOk h
  | migrationComplete => exact execMigrationComplete_memOk h
  | migrate => exact execMigrate_memOk h
  | apertureAccess => exact execApertureAccess_memOk h
  | marchPreserving => exact execMarchPreserving_memOk h
  | marchDestructive => exact execMarchDestructive_memOk h
  | retentionHoldEnd => exact execRetentionHoldEnd_memOk h
  | loanBankSwitch => exact execLoanBankSwitch_memOk h
  | memRepSet => exact execMemRepSet_memOk h
  | repairRowSwitch => exact execRepairRowSwitch_memOk h
  | lockedSequenceRequest => exact execLockedSequenceRequest_memOk h
  | lockReleaseTimeout => exact execLockReleaseTimeout_memOk h
  | trkTimeout => exact execTrkTimeout_memOk h
  | trkIsolate => exact execTrkIsolate_memOk h
  | qosAgeing => exact execQosAgeing_memOk h
  | twinPair => exact execTwinPair_memOk h
  | twinUnpair => exact execTwinUnpair_memOk h
  | pairForm => exact execPairForm_memOk h
  | twinLinkUp => exact execTwinLinkUp_memOk h
  | twinLinkLoss => exact execTwinLinkLoss_memOk h
  | twinHeartbeat => exact execTwinHeartbeat_memOk h
  | digestMessage => exact execDigestMessage_memOk h
  | bundleCutoff => exact execBundleCutoff_memOk h
  | bundleTrailer => exact execBundleTrailer_memOk h
  | bundleItem => exact execBundleItem_memOk h
  | ledgerRecordForward => exact execLedgerRecordForward_memOk h
  | forwardedPacket => exact execForwardedPacket_memOk h
  | takeover => exact execTakeover_memOk h
  | roleRxChange => exact execRoleRxChange_memOk h
  | resync => exact execResync_memOk h
  | autoResyncStart => exact execAutoResyncStart_memOk h
  | resyncDelta => exact execResyncDelta_memOk h
  | resyncStandbyReached => exact execResyncStandbyReached_memOk h
  | ledgerDump => exact execLedgerDump_memOk h
  | heartwoodPowerUp => exact execHeartwoodPowerUp_memOk h
  | hwClockLoss => exact execHwClockLoss_memOk h
  | hwClockReturn => exact execHwClockReturn_memOk h
  | bridgeFrame => exact execBridgeFrame_memOk h
  | hwBridge => exact execHwBridge_memOk h
  | engineHeartbeat => exact execEngineHeartbeat_memOk h
  | heartwoodTick => exact execHeartwoodTick_memOk h
  | hwFallback => exact execHwFallback_memOk h
  | hwReturn => exact execHwReturn_memOk h
  | fallbackForceSet => exact execFallbackForceSet_memOk h
  | fallbackForceClear => exact execFallbackForceClear_memOk h
  | reserveMessageEnd => exact execReserveMessageEnd_memOk h
  | jackInsert => exact execJackInsert_memOk h
  | micTypeDetect => exact execMicTypeDetect_memOk h
  | jackRemove => exact execJackRemove_memOk h
  | hwMicFault => exact execHwMicFault_memOk h
  | hwKey => exact execHwKey_memOk h
  | hwContact => exact execHwContact_memOk h
  | pilotWindowEnd => exact execPilotWindowEnd_memOk h
  | hwShort => exact execHwShort_memOk h
  | shortProbe => exact execShortProbe_memOk h
  | shortProbeEnd => exact execShortProbeEnd_memOk h
  | channelReenable => exact execChannelReenable_memOk h
  | vbatFault => exact execVbatFault_memOk h
  | vbatReturn => exact execVbatReturn_memOk h
  | hwThermal => exact execHwThermal_memOk h
  | reserveStoreRead => exact execReserveStoreRead_memOk h
  | reserveStoreWrite => exact execReserveStoreWrite_memOk h
  | reserveCheck => exact execReserveCheck_memOk h
  | hwdRsSave => exact execHwdRsSave_memOk h
  | impedanceSweep => exact execImpedanceSweep_memOk h
  | sweepPointEnd => exact execSweepPointEnd_memOk h
  | prove => exact execProve_memOk h
  | proveGroupStart => exact execProveGroupStart_memOk h
  | proveGroupEnd => exact execProveGroupEnd_memOk h
  | proveWritesDone => exact execProveWritesDone_memOk h
  | presenceAssert => exact execPresenceAssert_memOk h
  | presenceRelease => exact execPresenceRelease_memOk h
  | presenceWindowExpiry => exact execPresenceWindowExpiry_memOk h
  | sealSample => exact execSealSample_memOk h
  | reseal => exact execReseal_memOk h
  | domainFault => exact execDomainFault_memOk h
  | supplyFail => exact execSupplyFail_memOk h
  | supplyReturn => exact execSupplyReturn_memOk h
  | vcoreUndervoltage => exact execVcoreUndervoltage_memOk h
  | tempWarnCross => exact execTempWarnCross_memOk h
  | engineThermalFault => exact execEngineThermalFault_memOk h
  | pwdLatchClr => exact execPwdLatchClr_memOk h
  | pwdNap => exact execPwdNap_memOk h
  | napEntry => exact execNapEntry_memOk h
  | napWake => exact execNapWake_memOk h
  | monitorCharacter => exact execMonitorCharacter_memOk h
  | monitorBreak => exact execMonitorBreak_memOk h
  | unknownCommand => exact execUnknownCommand_memOk h
  | monPeek => exact execMonPeek_memOk h
  | monDump => exact execMonDump_memOk h
  | monDram => exact execMonDram_memOk h
  | monEv => exact execMonEv_memOk h
  | monJob => exact execMonJob_memOk h
  | monLedger => exact execMonLedger_memOk h
  | monStat => exact execMonStat_memOk h
  | traceTick => exact execTraceTick_memOk h
  | traceEv => exact execTraceEv_memOk h
  | traceLedger => exact execTraceLedger_memOk h
  | monStop => exact execMonStop_memOk h
  | baud => exact execBaud_memOk h
  | poke => exact execPoke_memOk h
  | rmw => exact execRmw_memOk h
  | testOn => exact execTestOn_memOk h
  | testOff => exact execTestOff_memOk h
  | monBaudWrite => exact execMonBaudWrite_memOk h
  | spiBadOpFrame => exact execSpiBadOpFrame_memOk h
  | monTxCharacterSent => exact execMonTxCharacterSent_memOk h
  | vaonLoss => exact execVaonLoss_memOk h

/-- Settles O59: a step takes a command, which keeps the form (`exec_memOk`), or none. -/
theorem memoriesStayCanonical : Obligations.MemoriesStayCanonical := by
  intro s t hs hstep
  cases hq : s.pending with
  | nil =>
    simp only [step, hq] at hstep
    cases hstep
    exact hs
  | cons c cs =>
    simp only [step, hq] at hstep
    exact exec_memOk c (s := { s with pending := cs }) hs t hstep

end Sys2Proof.Machine
end

section
/-! SUPPORT. Frames, one operation at a time: which registers and which parts an operation leaves alone (`regsKeep`, `regsOnly`, `keeps`), and that an event raised
late in a command is raised by the command (`raised`). -/

namespace Sys2Proof.Machine

section
variable {s t u : State} {as bs : List Nat} {ps qs : List Part} {a b e i n : Nat} {v : W32}

/-! ## Registers, but for those of events -/

theorem regsKeep.refl (as : List Nat) (s : State) : regsKeep as s s := fun _ _ _ => rfl
theorem regsKeep.trans (h : regsKeep as s t) (h' : regsKeep as t u) : regsKeep as s u := fun a ha he => (h' a ha he).trans (h a ha he)
theorem regsKeep.mono (h : regsKeep as s t) (hsub : as ⊆ bs) : regsKeep bs s t := fun a ha => h a fun hmem => ha (hsub hmem)
theorem regsKeep.of_regs (h : regsKeep as s t) (hregs : u.regs = t.regs) : regsKeep as s u :=
  fun a ha he => (rd_of_regs hregs a).trans (h a ha he)
theorem regsKeep_of_regs (h : t.regs = s.regs) : regsKeep as s t := (regsKeep.refl as s).of_regs h
theorem regsKeep.wr (h : regsKeep as s t) (ha : a ∈ as) : regsKeep as s (t.wr a v) :=
  fun _ hb he => (rd_wr_ne _ _ fun heq => hb (by rwa [heq])).trans (h _ hb he)
theorem regsKeep.flag (h : regsKeep as s t) (ha : a ∈ as) : regsKeep as s (t.flag a i) := h.wr ha
theorem regsKeep.unflag (h : regsKeep as s t) (ha : a ∈ as) : regsKeep as s (t.unflag a i) := h.wr ha
theorem regsKeep.count (h : regsKeep as s t) (ha : a ∈ as) : regsKeep as s (t.count a n) := h.wr ha
theorem regsKeep.raise (h : regsKeep as s t) : regsKeep as s (t.raise e) := fun _ ha he => (raise_rd t e he).trans (h _ ha he)
theorem regsKeep.flagRaise (h : regsKeep as s t) (ha : a ∈ as) : regsKeep as s (t.flagRaise a i e) := (h.flag ha).raise
theorem regsKeep.raiseOnce (h : regsKeep as s t) : regsKeep as s (t.raiseOnce e) := fun _ ha he => (raiseOnce_rd t e he).trans (h _ ha he)

/-! ## Registers, those of events too -/

theorem regsOnly.refl (as : List Nat) (s : State) : regsOnly as s s := fun _ _ => rfl
theorem regsOnly.trans (h : regsOnly as s t) (h' : regsOnly as t u) : regsOnly as s u := fun a ha => (h' a ha).trans (h a ha)
theorem regsOnly.mono (h : regsOnly as s t) (hsub : as ⊆ bs) : regsOnly bs s t := fun a ha => h a fun hmem => ha (hsub hmem)
theorem regsOnly.of_regs (h : regsOnly as s t) (hregs : u.regs = t.regs) : regsOnly as s u := fun a ha => (rd_of_regs hregs a).trans (h a ha)
theorem regsOnly_of_regs (h : t.regs = s.regs) : regsOnly as s t := (regsOnly.refl as s).of_regs h
theorem regsOnly.wr (h : regsOnly as s t) (ha : a ∈ as) : regsOnly as s (t.wr a v) :=
  fun _ hb => (rd_wr_ne _ _ fun heq => hb (by rwa [heq])).trans (h _ hb)
theorem regsOnly.flag (h : regsOnly as s t) (ha : a ∈ as) : regsOnly as s (t.flag a i) := h.wr ha
theorem regsOnly.unflag (h : regsOnly as s t) (ha : a ∈ as) : regsOnly as s (t.unflag a i) := h.wr ha
theorem regsOnly.count (h : regsOnly as s t) (ha : a ∈ as) : regsOnly as s (t.count a n) := h.wr ha
theorem regsOnly.keep (h : regsOnly as s t) : regsKeep as s t := fun a ha _ => h a ha

/-! ## Parts -/

theorem keeps_iff : keeps ps s t ↔ t.pending = s.pending ∧ t.fit = s.fit ∧ (.regs ∈ ps ∨ t.regs = s.regs) ∧ (.out ∈ ps ∨ t.out = s.out) ∧
    (.free ∈ ps ∨ t.free = s.free) ∧ (.sys ∈ ps ∨ t.sys = s.sys) ∧ (.jobs ∈ ps ∨ t.jobs = s.jobs) ∧ (.ledger ∈ ps ∨ t.ledger = s.ledger) ∧
    (.img ∈ ps ∨ t.img = s.img) ∧ (.graph ∈ ps ∨ t.graph = s.graph) ∧ (.canopy ∈ ps ∨ t.canopy = s.canopy) ∧ (.cores ∈ ps ∨ t.cores = s.cores) ∧
    (.ports ∈ ps ∨ t.ports = s.ports) ∧ (.clk ∈ ps ∨ t.clk = s.clk) ∧ (.net ∈ ps ∨ t.net = s.net) ∧ (.tim ∈ ps ∨ t.tim = s.tim) ∧
    (.pps ∈ ps ∨ t.pps = s.pps) ∧ (.dram ∈ ps ∨ t.dram = s.dram) ∧ (.mem ∈ ps ∨ t.mem = s.mem) ∧ (.trk ∈ ps ∨ t.trk = s.trk) ∧
    (.twn ∈ ps ∨ t.twn = s.twn) ∧ (.hwd ∈ ps ∨ t.hwd = s.hwd) ∧ (.prv ∈ ps ∨ t.prv = s.prv) ∧ (.prs ∈ ps ∨ t.prs = s.prs) ∧
    (.pwd ∈ ps ∨ t.pwd = s.pwd) ∧ (.mon ∈ ps ∨ t.mon = s.mon) := by
  simp only [or_iff_not_imp_left]
  refine ⟨fun ⟨hq, hf, h⟩ => ⟨hq, hf, h .regs, h .out, h .free, h .sys, h .jobs, h .ledger, h .img, h .graph, h .canopy, h .cores, h .ports, h .clk, h .net,
    h .tim, h .pps, h .dram, h .mem, h .trk, h .twn, h .hwd, h .prv, h .prs, h .pwd, h .mon⟩, ?_⟩
  rintro ⟨hq, hf, h1, h2, h3, h4, h5, h6, h7, h8, h9, h10, h11, h12, h13, h14, h15, h16, h17, h18, h19, h20, h21, h22, h23, h24⟩
  refine ⟨hq, hf, fun p => ?_⟩
  cases p <;> assumption

theorem keeps.mono (h : keeps ps s t) (hsub : ps ⊆ qs) : keeps qs s t := ⟨h.1, h.2.1, fun p hp => h.2.2 p fun hmem => hp (hsub hmem)⟩
/-- What touches only what events touch. -/
theorem keeps.evt (h : keeps ps s t) (hsub : [.regs, .out, .mon, .sys] ⊆ ps) (hu : evtOnly t u) : keeps ps s u := h.trans hu.keeps hsub
theorem keeps.raise (h : keeps ps s t) (hsub : [.regs, .out, .mon, .sys] ⊆ ps) : keeps ps s (t.raise e) := h.evt hsub (raise_only t e)
theorem keeps.raiseOnce (h : keeps ps s t) (hsub : [.regs, .out, .mon, .sys] ⊆ ps) : keeps ps s (t.raiseOnce e) := h.evt hsub (raiseOnce_only t e)
theorem keeps.flagRaise (h : keeps ps s t) (hsub : [.regs, .out, .mon, .sys] ⊆ ps) : keeps ps s (t.flagRaise a i e) :=
  h.evt hsub (flagRaise_only t a i e)

/-! ## Events -/

theorem raised_raise (hfit : t.fit = s.fit) (hans : t.sys.answering = s.sys.answering) : raised e s (t.raise e) := fun hhere hup =>
  raise_pends t e (by rw [State.eventHere, hfit]; exact hhere) (by rw [hans]; exact hup)
theorem raised_flagRaise (hfit : t.fit = s.fit) (hans : t.sys.answering = s.sys.answering) : raised e s (t.flagRaise a i e) :=
  raised_raise (t := t.flag a i) hfit hans
theorem raised_raiseOnce (hfit : t.fit = s.fit) (hans : t.sys.answering = s.sys.answering) (hnew : t.sys.onceTick.contains e = false) :
    raised e s (t.raiseOnce e) := fun hhere hup =>
  raiseOnce_pends t e (by rw [State.eventHere, hfit]; exact hhere) hnew (by rw [hans]; exact hup)
theorem pends_of_regs (h : t.regs = s.regs) : t.pends e = s.pends e := congrArg (bitOf · _) (rd_of_regs h _)
theorem raised.of_regs (h : raised e s t) (hregs : u.regs = t.regs) : raised e s u := fun hhere hup => (pends_of_regs hregs).trans (h hhere hup)
theorem raised.raise (h : raised e s t) : raised e s (t.raise n) := fun hhere hup => raise_pends_mono t n e (eventHere_lt s hhere) (h hhere hup)
theorem raised.wr (h : raised e s t) (ha : evtReg a = false) : raised e s (t.wr a v) := fun hhere hup => by
  have hne := (evtReg_pend ha (eventHere_lt s hhere)).symm
  exact (congrArg (bitOf · _) (rd_wr_ne t v hne)).trans (h hhere hup)

/-! ## Bits and counters -/

theorem counted.of_rd (h : counted a n s t) (hrd : u.rd a = t.rd a) : counted a n s u := hrd.trans h
theorem counted.wr (h : counted a n s t) (hne : a ≠ b) : counted a n s (t.wr b v) := h.of_rd (rd_wr_ne t v hne)
theorem counted.flag (h : counted a n s t) (hne : a ≠ b) : counted a n s (t.flag b i) := h.wr hne
theorem counted.raise (h : counted a n s t) (hevt : evtReg a = false) : counted a n s (t.raise e) := h.of_rd (raise_rd t e hevt)
theorem counted.raiseOnce (h : counted a n s t) (hevt : evtReg a = false) : counted a n s (t.raiseOnce e) := h.of_rd (raiseOnce_rd t e hevt)
theorem counted.flagRaise (h : counted a n s t) (hne : a ≠ b) (hevt : evtReg a = false) : counted a n s (t.flagRaise b i e) :=
  h.of_rd (flagRaise_rd t b i e hevt hne)
theorem counted_count (h : t.rd a = s.rd a) : counted a n s (t.count a n) := by
  rw [counted, rd_count_same, h]
theorem bit_of_rd (h : t.rd a = u.rd a) : t.bit a i = u.bit a i := congrArg (bitOf · i) h
theorem bit_flag_self (hi : i < 32) : (t.flag a i).bit a i = true := by
  rw [bit_flag _ _ _ hi, decide_eq_true rfl, Bool.true_or]
theorem bit_raise (h : evtReg a = false) : (t.raise e).bit a i = t.bit a i := bit_of_rd (raise_rd t e h)

end

end Sys2Proof.Machine
end

section
/-! SUPPORT. The presence window (R492, R493): how it opens, is renewed and runs out. -/

namespace Sys2Proof.Machine

section
variable {s : State}

theorem exec_presenceAssert (hseed : s.seedOn = true) : exec .presenceAssert s = doneCore s s.presentOn := by
  show doneCore s _ = _
  rw [if_pos hseed]

theorem leads_presenceAssert_opens (hseed : s.seedOn = true) (hpresent : s.prs.present = false) (hwindow : s.prs.window = false) :
    leads .presenceAssert s (fun t =>
    evtOnly { s with prs := { s.prs with present := true, window := true, elapsed := 0 } } t ∧ counted PRS_PRESENCE_COUNT 1 s t ∧
    t.bit PRS_STAT 0 = true ∧ raised 16 s t ∧ regsKeep [PRS_PRESENCE_COUNT, PRS_STAT] s t) := by
  have hon : s.presentOn = ((s.modPrs fun p => { p with present := true, window := true, elapsed := 0 }).count PRS_PRESENCE_COUNT 1).flagRaise PRS_STAT 0 16 := by
    rw [State.presentOn, if_neg (by simp [hpresent]), State.windowOpen, if_neg (by simpa using hwindow)]
    rfl
  have honly := (evtOnly_wr (s.modPrs fun p => { p with present := true, window := true, elapsed := 0 }) PRS_PRESENCE_COUNT
    (w32 (satN 32 ((s.rd PRS_PRESENCE_COUNT).toNat + 1)))).trans (flagRaise_only _ PRS_STAT 0 16)
  refine leads_of_modPrs ((exec_presenceAssert hseed).trans (congrArg _ hon)) honly ⟨honly, ?_, flagRaise_bit _ _ _ _ (by decide) (by decide), raised_flagRaise rfl rfl, ?_⟩
  · exact counted.flagRaise (counted_count rfl) (by decide) (by decide)
  · exact regsKeep.flagRaise (regsKeep.count (regsKeep_of_regs rfl) (by simp)) (by simp)

theorem leads_presenceAssert_renews (hseed : s.seedOn = true) (hpresent : s.prs.present = false) (hwindow : s.prs.window = true) :
    leads .presenceAssert s (fun t => evtOnly { s with prs := { s.prs with present := true, elapsed := 0 } } t ∧ counted PRS_PRESENCE_COUNT 1 s t ∧
    regsOnly [PRS_PRESENCE_COUNT] s t) := by
  have hon : s.presentOn = (s.modPrs fun p => { p with present := true, elapsed := 0 }).count PRS_PRESENCE_COUNT 1 := by
    rw [State.presentOn, if_neg (by simp [hpresent]), State.windowOpen, if_pos (by simpa using hwindow)]
    rfl
  refine leads_of_modPrs ((exec_presenceAssert hseed).trans (congrArg _ hon)) rfl ⟨rfl, ?_, ?_⟩
  · exact counted_count rfl
  · exact (regsOnly_of_regs rfl).count (by simp)

/-! ## The end of the window -/

theorem windowEnd_only : evtOnly (s.modPrs fun p => { p with window := false, elapsed := 0 }) s.windowEnd := flagRaise_only _ _ _ _
theorem windowEnd_prs : s.windowEnd.prs = { s.prs with window := false, elapsed := 0 } := windowEnd_only.prs
theorem windowEnd_bit : s.windowEnd.bit PRS_STAT 0 = true := flagRaise_bit _ _ _ _ (by decide) (by decide)
theorem windowEnd_raised : raised 16 s s.windowEnd :=
  raised_flagRaise (t := s.modPrs fun p => { p with window := false, elapsed := 0 }) rfl rfl
theorem windowEnd_regsKeep : regsKeep [PRS_STAT] s s.windowEnd :=
  (regsKeep_of_regs (t := s.modPrs fun p => { p with window := false, elapsed := 0 }) rfl).flagRaise (by simp)
theorem class1_windowEnd : s.windowEnd.class1 = false := by
  rw [State.class1, windowEnd_prs]
  rfl

theorem exec_presenceWindowExpiry_idle (h : s.prs.window = false ∨ s.prs.present = true) : exec .presenceWindowExpiry s = .next s := by
  show doneCore s _ = _
  rw [if_neg (by rcases h with h | h <;> simp [h])]
  rfl

section
variable (hseed : s.seedOn = true) (hwindow : s.prs.window = true) (hpresent : s.prs.present = false)
include hseed hwindow hpresent

theorem leads_presenceWindowExpiry_awake (hawake : s.sys.phase ≠ .nap) (hover : s.windowTicks ≤ s.prs.elapsed + 1) : leads .presenceWindowExpiry s (fun t =>
    evtOnly { s with prs := { s.prs with window := false, elapsed := 0 } } t ∧ t.class1 = false ∧ t.bit PRS_STAT 0 = true ∧ raised 16 s t ∧
    regsKeep [PRS_STAT] s t) := by
  have hexec : exec .presenceWindowExpiry s = doneCore s s.windowEnd := by
    show doneCore s _ = _
    rw [if_pos (by simp [hseed, hwindow, hpresent]), if_neg hawake, if_pos hover]
  exact leads_of_modPrs hexec windowEnd_only ⟨windowEnd_only, class1_windowEnd, windowEnd_bit, windowEnd_raised, windowEnd_regsKeep⟩

theorem leads_presenceWindowExpiry_nap (hnap : s.sys.phase = .nap) : leads .presenceWindowExpiry s (fun t =>
    t.prs = { s.prs with window := false, elapsed := 0 } ∧ t.class1 = false ∧ t.bit PRS_STAT 0 = true ∧ t.sys.phase = .nap) := by
  have hexec : exec .presenceWindowExpiry s = doneCore s (s.rtcAdvance (s.windowTicks - s.prs.elapsed)).windowEnd := by
    show doneCore s _ = _
    rw [if_pos (by simp [hseed, hwindow, hpresent]), if_pos hnap]
  exact leads_doneCore hexec ⟨windowEnd_prs, class1_windowEnd, windowEnd_bit, windowEnd_only.sys_phase.trans hnap⟩

end
end

/-- Settles O51: an assertion opens or renews the window, a release starts its time, and its end withdraws class 1. -/
theorem presenceWindow : Obligations.PresenceWindow := by
  intro s hseed
  refine ⟨leads_presenceAssert_opens hseed, leads_presenceAssert_renews hseed, fun hpresent => ?released, fun hpresent => ?again, fun hpresent => ?absent,
    fun hawake hwindow hpresent => leads_presenceWindowExpiry_awake hseed hwindow hpresent hawake,
    fun hnap hwindow hpresent => leads_presenceWindowExpiry_nap hseed hwindow hpresent hnap, exec_presenceWindowExpiry_idle⟩
  case released =>
    show doneCore s _ = _
    rw [if_pos (by simp [hseed, hpresent])]
    rfl
  case again =>
    rw [exec_presenceAssert hseed, State.presentOn, if_pos hpresent]
    rfl
  case absent =>
    show doneCore s _ = _
    rw [if_neg (by simp [hpresent])]
    rfl

end Sys2Proof.Machine
end

section
/-! SUPPORT. Warm resets (R70, R77, R339, R502): what taking the engine down leaves. -/

namespace Sys2Proof.Machine

section
variable {s : State} {v : W32}

theorem hwEngineReset_only : s.hwEngineReset = { s with hwd := s.hwEngineReset.hwd } := by
  unfold State.hwEngineReset
  split <;> rfl

/-- With empty write queues nothing is left to be issued. -/
theorem flushWrites_of_empty (h0 : s.dram.ch0.wq = []) (h1 : s.dram.ch1.wq = []) : s.flushWrites = s := by
  rw [State.flushWrites, h0]
  show timesN _ s.dram.ch1.wq.length s = s
  rw [h1]
  rfl
theorem retain_only (h0 : s.dram.ch0.wq = []) (h1 : s.dram.ch1.wq = []) : ∃ sr ret, s.retain = { s with dram := { s.dram with selfRefresh := sr, ret := ret } } := by
  unfold State.retain
  rw [flushWrites_of_empty h0 h1]
  exact ⟨_, _, rfl⟩

/-- The registers that a warm reset keeps. -/
def warmKept (s : State) : Sparse W32 := s.regs.filter (fun p => seedReg p.1 || hwdReg p.1 || p.1 == IMG_FLASH)
/-- What a warm reset leaves, whatever its cause. -/
def WarmDown (s t : State) : Prop :=
  t.jobs = [] ∧ t.regs = warmKept s ∧ t.dram.mem = s.dram.mem ∧ t.ledger.acc = s.ledger.acc ∧ t.ledger.exe = s.ledger.exe ∧
  t.ledger.session = s.ledger.session ∧ t.ledger.entries = s.ledger.entries ∧ t.prs = s.prs ∧ t.mem.rep = s.mem.rep ∧
  ((∀ p : Fin 4, s.bit (NET_CTL p.val) 0 = false) → t.out = s.out)

/-- With no network port enabled none is disabled. -/
theorem noPorts (h : ∀ p : Fin 4, s.bit (NET_CTL p.val) 0 = false) :
    (([0, 1, 2, 3] : List Nat).filter (fun p => s.bit (NET_CTL p) 0)).map (fun p => Out.txDis p true) = [] := by
  have h0 := h 0
  have h1 := h 1
  have h2 := h 2
  have h3 := h 3
  simp_all [List.filter]

theorem warmDown_engineDown {ph : Phase} (hph : ph ≠ .nap) (h0 : s.dram.ch0.wq = []) (h1 : s.dram.ch1.wq = []) : WarmDown s (s.retain.engineDown ph) := by
  obtain ⟨sr, ret, hret⟩ := retain_only h0 h1
  rw [hret, State.engineDown, hwEngineReset_only]
  refine ⟨rfl, ?_, rfl, rfl, rfl, rfl, rfl, rfl, rfl, fun hports => ?_⟩
  · refine congrArg (s.regs.filter ·) (funext fun p => ?_)
    rw [keptReg, bne_iff_ne.mpr hph, Bool.and_true]
  · exact (congrArg (s.out ++ ·) (noPorts hports)).trans (List.append_nil _)
theorem engineDown_sys (ph : Phase) (h0 : s.dram.ch0.wq = []) (h1 : s.dram.ch1.wq = []) : (s.retain.engineDown ph).sys =
    { resetSys with phase := ph, cause := s.sys.cause, straps := s.sys.straps, deferred := s.sys.deferred } := by
  obtain ⟨sr, ret, hret⟩ := retain_only h0 h1
  rw [hret, State.engineDown, hwEngineReset_only]

theorem warmDown_warmReset (cause : Nat) (h0 : s.dram.ch0.wq = []) (h1 : s.dram.ch1.wq = []) : WarmDown s (s.warmReset cause) :=
  (warmDown_engineDown (ph := .starting) (by decide) h0 h1 :)
theorem warmReset_sys (cause : Nat) (h0 : s.dram.ch0.wq = []) (h1 : s.dram.ch1.wq = []) : (s.warmReset cause).sys =
    { resetSys with phase := .starting, cause := cause, straps := s.sys.straps, deferred := s.sys.deferred } := by
  rw [State.warmReset]
  exact congrArg (fun y => { y with cause := cause }) (engineDown_sys .starting h0 h1)

/-! ## SYS_RESET -/

/-- A granted write of a register with an effect of its own has that effect, where its value is not refused. -/
theorem regWrite_side {path addr off : Nat} {b : Block} {u : State} (hloc : locate addr = some (b, off)) (hb : (b == .hwd) = false)
    (hgrant : path ≠ 0 ∨ s.granted (classAt (blkBase b + off)) = true) (hdumb : dumb b off v = false) (hbad : s.badArg b off v = none)
    (hside : s.sideWrite path b off v = some u) : s.regWrite path addr v = u := by
  have hne : b ≠ .hwd := by simpa using hb
  rw [State.regWrite, hloc]
  simp only [State.hwSilent, hb, Bool.false_and, Bool.false_eq_true, if_false]
  rw [if_neg (fun h => hne h.1), if_neg (by rintro ⟨rfl, -, h⟩; rcases hgrant with hg | hg <;> simp_all), State.blockWrite]
  simp only [hdumb, hbad, ite_self, hside, Bool.false_eq_true, if_false]

theorem exec_sysReset (hup : s.hostUp = true) (hclass : s.class1 = true) : exec (.sysReset v) s = done s (s.sysReset v) := by
  show done s _ = _
  rw [byHost_up hup, regWrite_side (b := .sys) (off := 0x18) rfl rfl (.inr ?_) rfl rfl rfl]
  show (_ || (_ && s.class1) || _) = true
  rw [hclass]
  rfl

end

/-- Settles O3. -/
theorem warmResets : Obligations.WarmResets := by
  intro s v h0 h1
  have hreset : ∀ (i : Instr) (cause : Nat), exec i s = done s (s.warmReset cause) → leads i s (fun t =>
      t.sys = { resetSys with phase := .starting, cause := cause, straps := s.sys.straps, deferred := s.sys.deferred } ∧ WarmDown s t) :=
    fun i cause hexec => leads_done hexec ⟨warmReset_sys cause h0 h1, (warmDown_warmReset cause h0 h1 :)⟩
  refine ⟨fun hup hclass hpair => ?key, fun hup hclass hv => ?other, fun hup => ?watchdog, fun hup => ?low, fun hheld => ?high, fun hfailed => ?supply, rfl⟩
  case key =>
    have hexec : exec (.sysReset 0x3A5C) s = done s (s.warmReset 8) := by
      rw [exec_sysReset hup hclass, State.sysReset, if_pos rfl, State.faultDigest, hpair]
      rfl
    exact hreset _ _ hexec
  case other =>
    refine leads_done (exec_sysReset hup hclass) ?_
    rw [State.sysReset, if_neg hv]
    exact keeps.answered_cores (keeps.refl _ _) (by simp) _
  case watchdog =>
    have hexec : exec .stewardWatchdog s = done s (s.warmReset 16) := by
      show done s _ = _
      rw [if_pos hup]
    refine (hreset _ _ hexec).mono fun t => ?_
    rintro ⟨hsys, hjobs, hregs, hmem, -, hexe, -, -, hprs, hrep, hout⟩
    exact ⟨hsys, hjobs, hregs, hmem, hexe, hprs, hrep, hout⟩
  case low =>
    have hexec : exec (.resetN true) s = done s (s.retain.engineDown .held) := by
      show done s _ = _
      rw [if_pos rfl, if_pos hup]
    obtain ⟨hjobs, hregs, hmem, -, hexe, -, -, hprs, -, hout⟩ := warmDown_engineDown (ph := .held) (by decide) h0 h1
    exact leads_done hexec ⟨engineDown_sys .held h0 h1, hjobs, hregs, hmem, hexe, hprs, hout⟩
  case high =>
    have hexec : exec (.resetN false) s = done s (s.startNow 4) := by
      show done s _ = _
      rw [if_neg (by decide), if_pos hheld]
    refine leads_done hexec ⟨rfl, rfl, keeps.answered_cores ?_ (by simp) _⟩
    simp [keeps_iff, State.startNow, State.modPwd]
  case supply =>
    have hexec : exec .supplyReturn s = done s (s.warmReset 4) := by
      show done s _ = _
      rw [if_pos hfailed]
    refine (hreset _ _ hexec).mono fun t => ?_
    rintro ⟨hsys, hjobs, -, hmem, -, -, -, -, hprs, -, -⟩
    exact ⟨hsys, hjobs, hmem, hprs⟩

end Sys2Proof.Machine
end

section
/-! SUPPORT. Changes of named parts with events raised on the way (`partsOnly`), and the entry into a tick. -/

namespace Sys2Proof.Machine

section
variable {s t u : State} {ps qs : List Part} {e : Nat}

/-! ## Changes of some parts, with events raised on the way -/

/-- What events touch may differ, and the named parts. -/
def partsOnly (ps : List Part) (s t : State) : Prop := keeps (.regs :: .out :: .mon :: .sys :: ps) s t ∧
  t.sys = { s.sys with msix := t.sys.msix, deferred := t.sys.deferred, onceTick := t.sys.onceTick }

theorem partsOnly.refl (ps : List Part) (s : State) : partsOnly ps s s := ⟨keeps.refl _ _, rfl⟩
theorem partsOnly.trans (h : partsOnly ps s t) (h' : partsOnly ps t u) : partsOnly ps s u := by
  refine ⟨h.1.trans h'.1 fun _ => id, ?_⟩
  rw [h'.2, h.2]
theorem partsOnly.mono (h : partsOnly ps s t) (hsub : ps ⊆ qs) : partsOnly qs s t :=
  ⟨h.1.mono (List.cons_subset_cons _ (List.cons_subset_cons _ (List.cons_subset_cons _ (List.cons_subset_cons _ hsub)))), h.2⟩
theorem partsOnly_of_evtOnly (ps : List Part) (h : evtOnly s t) : partsOnly ps s t :=
  ⟨h.keeps.mono (by simp [List.subset_def]), congrArg State.sys h.eq⟩
theorem partsOnly_of_keeps (h : keeps ps s t) (hsys : t.sys = s.sys) : partsOnly ps s t :=
  ⟨h.mono fun _ hp => by simp [hp], by rw [hsys]⟩
theorem partsOnly_ite {c : Prop} [Decidable c] (ht : partsOnly ps s t) (hu : partsOnly ps s u) : partsOnly ps s (if c then t else u) := by
  split
  · exact ht
  · exact hu
theorem partsOnly_fold_of {σ α : Type} (g : σ → State) {f : σ → α → σ} (p : σ) (l : List α) (h : ∀ q a, partsOnly ps (g q) (g (f q a))) :
    partsOnly ps (g p) (g (foldS f p l)) := by
  induction l generalizing p with
  | nil => exact .refl _ _
  | cons x xs ih => exact (h p x).trans (ih _)
theorem partsOnly_fold {α : Type} {f : State → α → State} (l : List α) (h : ∀ t a, partsOnly ps t (f t a)) : partsOnly ps s (foldS f s l) :=
  partsOnly_fold_of id s l h

/-! ## The entry into a tick -/

theorem evtOnly_ite {c : Prop} [Decidable c] (ht : evtOnly s t) (hu : evtOnly s u) : evtOnly s (if c then t else u) := by
  split
  · exact ht
  · exact hu
theorem setPort_parts (p : Nat) (x : Port) : partsOnly [.ports] s (s.setPort p x) := partsOnly_of_keeps (by simp [keeps_iff]) rfl
theorem portFlag_only (p bit e : Nat) : evtOnly s (s.portFlag p bit e) := ((evtOnly_wr _ _ _).trans (evtOnly_wr _ _ _)).trans (raise_only _ _)
theorem rateWr_only (p : Nat) (v : W32) : evtOnly s (s.rateWr p v) := evtOnly_ite (evtOnly_wr _ _ _) (evtOnly_refl _)
theorem portTo_parts (p : Nat) (x : Port) : partsOnly [.ports] s (s.portTo p x) :=
  (setPort_parts p x).trans (partsOnly_of_evtOnly _ (portFlag_only p 0 53))
/-- A master's rate is cleared as its port changes state. -/
theorem portTo_rateWr_parts (p : Nat) (x : Port) : partsOnly [.ports] s ((s.rateWr p 0).portTo p x) :=
  (partsOnly_of_evtOnly _ (rateWr_only p 0)).trans (portTo_parts p x)
theorem portStart_parts (p : Nat) : partsOnly [.ports] s (s.portStart p) := partsOnly_ite (portTo_rateWr_parts p _) (portTo_parts p _)
theorem portLeadEnd_parts (p tick : Nat) : partsOnly [.ports] s (s.portLeadEnd p tick) := by
  unfold State.portLeadEnd
  dsimp only
  split
  · exact portTo_parts p _
  · exact partsOnly_ite (portTo_rateWr_parts p _) (portTo_parts p _)
  · exact .refl _ _
theorem portTick_parts (tick : Nat) (stop : Bool) (p : Nat) : partsOnly [.ports] s (s.portTick tick stop p) := by
  unfold State.portTick
  dsimp only
  split
  · exact partsOnly_ite (.trans (setPort_parts p _) (portStart_parts p)) (setPort_parts p _)
  · exact partsOnly_ite (.trans (setPort_parts p _) (portTo_parts p _)) (partsOnly_ite (partsOnly_ite (.trans (setPort_parts p _) (portLeadEnd_parts p tick))
      (.trans (setPort_parts p _) (setPort_parts p _))) (.trans (setPort_parts p _) (setPort_parts p _)))
  · exact partsOnly_ite (.trans (setPort_parts p _) (portTo_parts p _)) (partsOnly_ite (partsOnly_ite (partsOnly_ite
      (.trans (setPort_parts p _) (setPort_parts p _)) (.trans (setPort_parts p _) (setPort_parts p _)))
      (.trans (setPort_parts p _) (setPort_parts p _))) (setPort_parts p _))
  · exact partsOnly_ite (.trans (setPort_parts p _) (portLeadEnd_parts p tick)) (.trans (setPort_parts p _) (setPort_parts p _))
theorem portsTick_parts (tick : Nat) (stop : Bool) : partsOnly [.ports] s (s.portsTick tick stop) := partsOnly_fold _ fun _ p => portTick_parts tick stop p
theorem enterCores_parts : partsOnly [.cores] s s.enterCores := partsOnly_of_keeps (by simp [keeps_iff, State.enterCores]) rfl
theorem tileGating_parts : partsOnly [.canopy] s s.tileGating := partsOnly_of_keeps (by simp [keeps_iff, State.tileGating]) rfl
theorem setSel_parts (k : Nat) (x : SelState) : partsOnly [.graph] s (s.setSel k x) := partsOnly_of_keeps (by simp [keeps_iff]) rfl
theorem selEval_parts (k : Nat) (info : SelInfo) : partsOnly [.graph] s (s.selEval k info) :=
  partsOnly_ite (setSel_parts k _) (partsOnly_ite (setSel_parts k _) ((setSel_parts k _).trans (partsOnly_of_evtOnly _
    ((evtOnly_wr _ _ _).trans (evtOnly_wr _ _ _)))))
theorem selEvalAll_parts : partsOnly [.graph] s s.selEvalAll :=
  partsOnly_fold_of Prod.fst (s, 0) _ fun q _ => partsOnly_ite (t := (q.1.selEval _ _)) (selEval_parts _ _) (.refl _ _)
theorem tickEntry_parts (b : Nat) : partsOnly [.ports, .cores, .canopy, .graph] s (s.tickEntry b) := by
  refine .trans (.trans (.trans (.mono (portsTick_parts b false) ?_) (.mono enterCores_parts ?_)) (.mono tileGating_parts ?_)) (.mono selEvalAll_parts ?_) <;>
    simp [List.subset_def]

end
end Sys2Proof.Machine
end

section
/-! SUPPORT. The start sequence and its end (R504, R506, R507, R512). -/

namespace Sys2Proof.Machine

section
variable {s t u : State} {e : Nat}

/-! ## Events raised while the host interface answers are not held back -/

theorem vector_deferred (v : Nat) : (s.vector v).sys.deferred = s.sys.deferred := by
  unfold State.vector
  split_ifs <;> rfl
theorem pend_deferred (e : Nat) : (s.pend e).sys.deferred = s.sys.deferred := by
  unfold State.pend
  split_ifs
  · exact (when_keeps _ (fun t : State => t.sys.deferred) _ _ (vector_deferred 1)).trans (when_keeps _ (fun t : State => t.sys.deferred) _ _ (vector_deferred 0))
  · rfl
theorem recEvent_deferred (e : Nat) : (s.recEvent e).sys.deferred = s.sys.deferred := by
  unfold State.recEvent State.record
  split_ifs <;> rfl
theorem raiseDrop_deferred (n : Nat) : (s.raiseDrop n).sys.deferred = s.sys.deferred := by
  unfold State.raiseDrop
  split_ifs
  · rfl
  · rfl
  · rw [recEvent_deferred, pend_deferred]
theorem raise_deferred (h : s.sys.answering = true) (e : Nat) : (s.raise e).sys.deferred = s.sys.deferred := by
  rw [State.raise, if_neg (by simp [h]), raiseDrop_deferred, recEvent_deferred, pend_deferred]
theorem flagRaise_deferred (h : s.sys.answering = true) (a i e : Nat) : (s.flagRaise a i e).sys.deferred = s.sys.deferred :=
  raise_deferred (s := s.flag a i) h e

/-! ## What READY does after the image has taken over -/

theorem modPrs_parts (f : PrsSt → PrsSt) : partsOnly [.prs] s (s.modPrs f) := partsOnly_of_keeps (by simp [keeps_iff]) rfl
theorem modPwd_parts (f : PwdSt → PwdSt) : partsOnly [.pwd] s (s.modPwd f) := partsOnly_of_keeps (by simp [keeps_iff]) rfl
theorem modHwd_parts (f : HwdSt → HwdSt) : partsOnly [.hwd] s (s.modHwd f) := partsOnly_of_keeps (by simp [keeps_iff]) rfl
theorem rtcAdvance_parts (n : Nat) : partsOnly [.pwd] s (s.rtcAdvance n) := by
  unfold State.rtcAdvance
  exact (modPwd_parts _).trans (partsOnly_of_evtOnly _ (evtOnly_wr _ _ _))
theorem windowEnd_parts : partsOnly [.prs] s s.windowEnd := (modPrs_parts _).trans (partsOnly_of_evtOnly _ windowEnd_only)
theorem windowEnd_deferred (h : s.sys.answering = true) : s.windowEnd.sys.deferred = s.sys.deferred :=
  flagRaise_deferred (s := s.modPrs fun p => { p with window := false, elapsed := 0 }) h _ _ _
theorem prsElapse_parts (n : Nat) : partsOnly [.prs] s (s.prsElapse n) :=
  partsOnly_ite (partsOnly_ite (.trans (modPrs_parts _) windowEnd_parts) (modPrs_parts _)) (.refl _ _)
theorem prsElapse_deferred (h : s.sys.answering = true) (n : Nat) : (s.prsElapse n).sys.deferred = s.sys.deferred := by
  unfold State.prsElapse
  dsimp only
  split_ifs
  · exact windowEnd_deferred (s := s.modPrs fun p => { p with elapsed := p.elapsed + n }) h
  · rfl
  · rfl

theorem raiseLate_only (e : Nat) : evtOnly s (s.raiseLate e) :=
  evtOnly_ite (flagRaise_only _ _ _ _) (evtOnly_ite (flagRaise_only _ _ _ _) (evtOnly_ite (flagRaise_only _ _ _ _) (raise_only _ _)))
theorem raiseLate_deferred (h : s.sys.answering = true) (e : Nat) : (s.raiseLate e).sys.deferred = s.sys.deferred := by
  unfold State.raiseLate
  split_ifs
  · exact flagRaise_deferred h _ _ _
  · exact flagRaise_deferred h _ _ _
  · exact flagRaise_deferred h _ _ _
  · exact raise_deferred h _
theorem raiseLate_pends (h : s.sys.answering = true) (hhere : s.eventHere e = true) : (s.raiseLate e).pends e = true := by
  unfold State.raiseLate
  split_ifs with h16 h17 h22
  · exact h16 ▸ flagRaise_pends _ _ _ _ (h16 ▸ hhere) (.inr (.inr h))
  · exact h17 ▸ flagRaise_pends _ _ _ _ (h17 ▸ hhere) (.inr (.inr h))
  · exact h22 ▸ flagRaise_pends _ _ _ _ (h22 ▸ hhere) (.inr (.inr h))
  · exact raise_pends _ _ hhere (.inr (.inr h))
theorem flagRaise_pends_mono {a : Nat} (ha : evtReg a = false) (i k : Nat) (he : e < 128) (hp : s.pends e = true) : (s.flagRaise a i k).pends e = true :=
  raise_pends_mono _ _ _ he ((congrArg (bitOf · _) (rd_wr_ne s _ (evtReg_pend ha he).symm)).trans hp)
theorem raiseLate_pends_mono (k : Nat) (he : e < 128) (hp : s.pends e = true) : (s.raiseLate k).pends e = true := by
  unfold State.raiseLate
  split_ifs
  · exact flagRaise_pends_mono (by decide) _ _ he hp
  · exact flagRaise_pends_mono (by decide) _ _ he hp
  · exact flagRaise_pends_mono (by decide) _ _ he hp
  · exact raise_pends_mono _ _ _ he hp

theorem late_parts (late : List Nat) : partsOnly [] s (foldS State.raiseLate s late) :=
  partsOnly_fold late fun _ e => partsOnly_of_evtOnly _ (raiseLate_only e)
theorem late_deferred (h : s.sys.answering = true) (late : List Nat) : (foldS State.raiseLate s late).sys.deferred = s.sys.deferred := by
  induction late generalizing s with
  | nil => rfl
  | cons k ks ih => exact (ih ((raiseLate_only k).sys_answering.trans h)).trans (raiseLate_deferred h k)
theorem late_pends_mono (late : List Nat) (he : e < 128) (hp : s.pends e = true) : (foldS State.raiseLate s late).pends e = true := by
  induction late generalizing s with
  | nil => exact hp
  | cons k ks ih => exact ih (raiseLate_pends_mono k he hp)
/-- Each event that had waited is pending. -/
theorem late_pends (h : s.sys.answering = true) {late : List Nat} (he : e ∈ late) (hhere : s.eventHere e = true) :
    (foldS State.raiseLate s late).pends e = true := by
  induction late generalizing s with
  | nil => cases he
  | cons k ks ih =>
    have hans := (raiseLate_only (s := s) k).sys_answering.trans h
    rcases List.mem_cons.mp he with rfl | hks
    · exact late_pends_mono ks (eventHere_lt s hhere) (raiseLate_pends h hhere)
    · exact ih hans hks (by rw [State.eventHere, (raiseLate_only k).fit]; exact hhere)

/-- READY once the image has taken over: the time of the start, the events that had waited, EV11. -/
def State.readyEnd (s : State) (late : List Nat) (cause : Nat) : State :=
  let t := foldS State.raiseLate ((s.rtcAdvance 1260).prsElapse 1260) late
  (if cause = 1 then t else t.raise 11).modHwd fun h => { h with found := false }

section
variable (late : List Nat) (cause : Nat)

theorem readyEnd_parts : partsOnly [.prs, .pwd, .hwd] s (s.readyEnd late cause) := by
  have helapse : partsOnly [.prs, .pwd, .hwd] s ((s.rtcAdvance 1260).prsElapse 1260) :=
    .trans ((rtcAdvance_parts 1260).mono (by simp)) ((prsElapse_parts 1260).mono (by simp))
  have hlate := helapse.trans ((late_parts late).mono (by simp))
  exact .trans (partsOnly_ite hlate (hlate.trans (partsOnly_of_evtOnly _ (raise_only _ 11)))) ((modHwd_parts _).mono (by simp))

variable (hans : s.sys.answering = true)
include hans

theorem readyEnd_elapsed_answering : ((s.rtcAdvance 1260).prsElapse 1260).sys.answering = true := by
  have hrtc : (s.rtcAdvance 1260).sys.answering = true := hans
  rw [(prsElapse_parts 1260).2]
  exact hrtc
theorem readyEnd_deferred : (s.readyEnd late cause).sys.deferred = s.sys.deferred := by
  have hup := readyEnd_elapsed_answering hans
  have hlate : (foldS State.raiseLate ((s.rtcAdvance 1260).prsElapse 1260) late).sys.deferred = s.sys.deferred :=
    (late_deferred hup late).trans (prsElapse_deferred (s := s.rtcAdvance 1260) hans 1260)
  have hlateUp : (foldS State.raiseLate ((s.rtcAdvance 1260).prsElapse 1260) late).sys.answering = true := by
    rw [(late_parts late).2]
    exact hup
  show (if cause = 1 then _ else State.raise _ 11 : State).sys.deferred = _
  split_ifs
  · exact hlate
  · exact (raise_deferred hlateUp 11).trans hlate
theorem readyEnd_pends (he : e ∈ late) (hhere : s.eventHere e = true) : (s.readyEnd late cause).pends e = true := by
  have hfit : ((s.rtcAdvance 1260).prsElapse 1260).fit = s.fit := (prsElapse_parts 1260).1.fit.trans (rtcAdvance_parts 1260).1.fit
  have hlate := late_pends (readyEnd_elapsed_answering hans) he (by rw [State.eventHere, hfit]; exact hhere)
  show (if cause = 1 then _ else State.raise _ 11 : State).pends e = true
  split_ifs
  · exact hlate
  · exact raise_pends_mono _ 11 e (eventHere_lt s hhere) hlate
omit hans in
theorem readyEnd_raised (hcause : cause ≠ 1) : raised 11 s (s.readyEnd late cause) := by
  have hfit : (foldS State.raiseLate ((s.rtcAdvance 1260).prsElapse 1260) late).fit = s.fit :=
    ((late_parts late).1.fit.trans (prsElapse_parts 1260).1.fit).trans (rtcAdvance_parts 1260).1.fit
  intro hhere _
  show (if cause = 1 then _ else State.raise _ 11 : State).pends 11 = true
  rw [if_neg hcause]
  exact raise_pends _ 11 (by rw [State.eventHere, hfit]; exact hhere) (.inl (by omega))

end

/-! ## READY with an image (R104) -/

theorem pllStart_parts (net : Bool) : partsOnly [.clk, .ports] s (s.pllStart net) :=
  .trans (partsOnly_of_keeps (t := { s with clk := (s.pllStart net).clk, ports := (s.pllStart net).ports }) (by simp [keeps_iff]) rfl)
    (partsOnly_of_evtOnly _ (pllStart_only s net))

theorem heldApply_none (h : s.img.heldEnables = []) : s.heldApply = s.modImg fun p => { p with heldEnables := [] } := by
  rw [State.heldApply, h]
  rfl
/-- Phase, READY, the media clock and the running image are the same. -/
def runsAs (s t : State) : Prop := t.sys.phase = s.sys.phase ∧ t.sys.ready = s.sys.ready ∧ t.sys.mediaRun = s.sys.mediaRun ∧ t.img.running = s.img.running
theorem runsAs.trans (h : runsAs s t) (h' : runsAs t u) : runsAs s u := by
  obtain ⟨h1, h2, h3, h4⟩ := h
  obtain ⟨h1', h2', h3', h4'⟩ := h'
  exact ⟨h1'.trans h1, h2'.trans h2, h3'.trans h3, h4'.trans h4⟩
theorem runsAs_of_parts {ps : List Part} (h : partsOnly ps s t) (himg : t.img = s.img) : runsAs s t := by
  refine ⟨?_, ?_, ?_, congrArg ImgSt.running himg⟩
  · exact (congrArg SysSt.phase h.2 :)
  · exact (congrArg SysSt.ready h.2 :)
  · exact (congrArg SysSt.mediaRun h.2 :)
theorem pllStart_img (net : Bool) : (s.pllStart net).img = s.img := (pllStart_parts net).1.part (p := .img) (by simp)
theorem tickEntry_runs (b : Nat) : runsAs s (s.tickEntry b) := runsAs_of_parts (tickEntry_parts b) ((tickEntry_parts b).1.part (p := .img) (by simp))
theorem pllStart_heldApply_runs (net : Bool) (hheld : s.img.heldEnables = []) : runsAs s (s.pllStart net).heldApply := by
  rw [heldApply_none (by rw [pllStart_img]; exact hheld)]
  exact (runsAs_of_parts (pllStart_parts net) (pllStart_img net)).trans ⟨rfl, rfl, rfl, rfl⟩
/-- Starting the media clock changes nothing else of the run, where no enable is held back. -/
theorem mediaStart_runs (hheld : s.img.heldEnables = []) : s.mediaStart.sys.phase = s.sys.phase ∧ s.mediaStart.sys.ready = s.sys.ready ∧
    s.mediaStart.sys.mediaRun = true ∧ s.mediaStart.img.running = s.img.running := by
  unfold State.mediaStart
  extract_lets net loaded graph0 pipe0 emitting sys0 applied passing entered canopy0
  have happlied : runsAs { emitting with sys := { emitting.sys with mediaRun := true } } applied := pllStart_heldApply_runs net hheld
  have hpassing : runsAs applied passing := ⟨rfl, rfl, rfl, rfl⟩
  have hentered : runsAs passing entered := tickEntry_runs passing.tickN
  clear_value entered passing applied
  obtain ⟨hphase, hready, hrun, hrunning⟩ := (happlied.trans hpassing).trans hentered
  exact ⟨hphase, hready, hrun, hrunning⟩

end

/-- The supplies have not come: Nap again, SUPPLY_FAIL latched, EV21 held back. -/
def State.wakeFailed (s : State) : State :=
  let t := s.napDown.modPwd fun p => { p with supplyFail := true, pwrLow := true, napSeen := true, held := s.napHeld, coldRetry := s.sys.cause == 1 }
  t.modSys fun y => { y with deferred := y.deferred ++ [21] }

/-- READY from the sequence's last state on. -/
def State.readyStart (s : State) : State := s.modSys fun y => { y with phase := .running, ready := true, deferred := [] }

theorem exec_ready {s : State} (hstarting : s.sys.phase = .starting) (hans : s.sys.answering = true) :
    exec .ready s = done s (s.readyStart.mediaWithImage.readyEnd s.sys.deferred s.sys.cause) := by
  show done s _ = _
  rw [if_pos ⟨hstarting, hans⟩]
  rfl

/-- Settles O1. -/
theorem startSequence : Obligations.StartSequence := by
  intro s
  refine ⟨fun hoff => ?cold, fun hnap hretry => ?retry, fun hstarting hans => ?abandon, fun hstarting hans himg => ?ready, fun hstarting hans himg hheld hcause => ?image⟩
  case cold =>
    have hexec : exec .coldStart s = done s (s.startNow 1) := by
      show done s _ = _
      rw [if_pos hoff]
    exact leads_done hexec ⟨rfl, rfl, rfl, keeps.answered_cores (by simp [keeps_iff, State.startNow]) (by simp) _⟩
  case retry =>
    have hexec : exec .coldStartRetry s = done s (s.startNow 1) := by
      show done s _ = _
      rw [if_pos ⟨hnap, hretry⟩]
    exact leads_done hexec ⟨rfl, rfl, rfl, keeps.answered_cores (by simp [keeps_iff, State.startNow]) (by simp) _⟩
  case abandon =>
    have hexec : exec .wakeAbandon s = done s s.wakeFailed := by
      show done s _ = _
      rw [if_pos ⟨hstarting, by rw [hans]; rfl⟩]
      rfl
    refine leads_done hexec ?_
    rw [State.wakeFailed, State.napDown, State.engineDown, hwEngineReset_only]
    exact ⟨rfl, rfl, rfl, List.mem_append_right _ (by simp), rfl, rfl, rfl, rfl, rfl, rfl, rfl,
      fun hports => (congrArg (s.out ++ ·) (noPorts hports)).trans (List.append_nil _)⟩
  case ready =>
    have hno : s.readyStart.mediaWithImage = s.readyStart := if_neg (by simp [State.readyStart, himg])
    have hparts := readyEnd_parts (s := s.readyStart) s.sys.deferred s.sys.cause
    have hdeferred := readyEnd_deferred (s := s.readyStart) s.sys.deferred s.sys.cause hans
    have hraised := fun h => readyEnd_raised (s := s.readyStart) s.sys.deferred s.sys.cause h
    have hpends := fun e (he : e ∈ s.sys.deferred) => readyEnd_pends (s := s.readyStart) s.sys.deferred s.sys.cause hans he
    have hexec := exec_ready hstarting hans
    rw [hno] at hexec
    generalize s.readyStart.readyEnd s.sys.deferred s.sys.cause = u at hparts hdeferred hraised hpends hexec
    refine leads_done hexec ⟨?_, ?_, ?_, hdeferred, hraised, hpends, keeps.answered_cores (t := u) ?_ (by simp) _⟩
    · exact (congrArg SysSt.phase hparts.2 :)
    · exact (congrArg SysSt.ready hparts.2 :)
    · exact (congrArg SysSt.mediaRun hparts.2 :)
    · exact keeps.trans (t := s.readyStart) (by simp [keeps_iff, State.readyStart]) hparts.1 (by simp [List.subset_def])
  case image =>
    have hwith : s.readyStart.mediaWithImage = s.readyStart.mediaStart.commitMade := if_pos himg
    have hexec := exec_ready hstarting hans
    rw [hwith] at hexec
    obtain ⟨hphase, hready, hrun, hrunning⟩ := mediaStart_runs (s := s.readyStart) hheld
    generalize s.readyStart.mediaStart = m at hphase hready hrun hrunning hexec
    have hparts := readyEnd_parts (s := m.commitMade) s.sys.deferred s.sys.cause
    have himg : (m.commitMade.readyEnd s.sys.deferred s.sys.cause).img = m.img := hparts.1.part (p := .img) (by simp)
    generalize m.commitMade.readyEnd s.sys.deferred s.sys.cause = u at hparts himg hexec
    refine leads_done hexec ⟨?_, ?_, ?_, ?_, ?_⟩
    · exact (congrArg SysSt.phase hparts.2).trans hphase
    · exact (congrArg SysSt.ready hparts.2).trans hready
    · exact (congrArg SysSt.mediaRun hparts.2).trans hrun
    · refine ne_of_eq_of_ne (congrArg SysSt.cfgCommit hparts.2) ?_
      show (if m.sys.cfgPass then 2 else 1) ≠ 0
      split <;> decide
    · exact (congrArg ImgSt.running himg).trans hrunning

end Sys2Proof.Machine
end

section
/-! SUPPORT. The wake sequence without a boot image and without retained DRAM (R42, R104, R334, R367, R427). -/

namespace Sys2Proof.Machine

section
variable {s t u : State} {e : Nat}

theorem modMem_parts (f : MemSt → MemSt) : partsOnly [.mem] s (s.modMem f) := partsOnly_of_keeps (by simp [keeps_iff]) rfl

/-! ## The power-up run of the Carder -/

theorem putRep_parts (bank k : Nat) (r : RepEntry) : partsOnly [.mem] s (s.putRep bank k r) := partsOnly_of_keeps (by simp [keeps_iff, State.putRep]) rfl
theorem repairRow_parts (bank row : Nat) : partsOnly [.mem] s (s.repairRow bank row).1 := by
  unfold State.repairRow
  split_ifs
  · exact .refl _ _
  · exact .refl _ _
  · split <;> dsimp only
    · exact (putRep_parts _ _ _).trans (partsOnly_of_evtOnly _ ((evtOnly_wr _ _ _).trans (flagRaise_only _ _ _ _)))
    · exact partsOnly_of_evtOnly _ (flagRaise_only _ _ _ _)
theorem meetFails_parts (fs seen : List FailWord) (r : Nat × Nat × List W32) : partsOnly [.mem] s (State.meetFails fs seen s r).1 := by
  induction fs generalizing s seen r with
  | nil => exact .refl _ _
  | cons f fs ih =>
    unfold State.meetFails
    refine .trans ?_ (ih _ _)
    refine .trans ?_ (modMem_parts _)
    have hcount : partsOnly [.mem] s (s.count CRD_FAILS 1) := partsOnly_of_evtOnly _ (evtOnly_wr _ _ _)
    split_ifs
    · exact hcount.trans (repairRow_parts _ _)
    · exact hcount
theorem marchEnd_only (found : Nat) : evtOnly s (s.marchEnd found) := by
  have hrun : evtOnly s ((s.count CRD_RUNS 1).wr CRD_LAST_TICK s.tickLo) := (evtOnly_wr _ _ _).trans (evtOnly_wr _ _ _)
  exact evtOnly_ite hrun (hrun.trans (flagRaise_only _ _ _ _))
theorem startMarch_parts (fails : List FailWord) : partsOnly [.mem] s (s.startMarch fails) :=
  partsOnly_ite (modMem_parts _) (.trans (.trans (modMem_parts _) (meetFails_parts _ _ _)) (partsOnly_of_evtOnly _ (marchEnd_only _)))

/-! ## The clearing of the on-chip memories -/

/-- The pool, the gain memories and those of the cores are clear. -/
def chipClear (s : State) : Prop := s.mem.pool = [] ∧ s.canopy.gainLive = [] ∧ s.canopy.gainShadow = [] ∧ s.canopy.flags = [] ∧
  ∀ p ∈ s.cores, p.2.p = [] ∧ p.2.x = [] ∧ p.2.y = []
theorem clearAll_clear : chipClear (s.clearAll false) := by
  refine ⟨rfl, rfl, rfl, rfl, fun p hp => ?_⟩
  obtain ⟨q, -, rfl⟩ := List.mem_map.mp (show p ∈ s.cores.map _ from hp)
  exact ⟨rfl, rfl, rfl⟩
theorem clearAll_parts (keep : Bool) : partsOnly [.mem, .cores, .canopy] s (s.clearAll keep) := by
  unfold State.clearAll
  refine .trans ?_ (partsOnly_of_evtOnly _ (evtOnly_wr _ _ _))
  exact partsOnly_of_keeps (by simp [keeps_iff, State.clearPool, State.clearFuller, State.clearGain]) rfl
theorem chipClear.of_parts {ps : List Part} (h : chipClear s) (hst : keeps ps s t) (hmem : .mem ∉ ps) (hcanopy : .canopy ∉ ps) (hcores : .cores ∉ ps) :
    chipClear t := by
  have h1 : t.mem = s.mem := hst.part hmem
  have h2 : t.canopy = s.canopy := hst.part hcanopy
  have h3 : t.cores = s.cores := hst.part hcores
  rw [chipClear, h1, h2, h3]
  exact h
/-- Each core's memories are clear, also in the command's answer. -/
theorem chipClear.core (h : chipClear t) (old : Sparse Core) (k : Nat) : (spGet coreInit (t.cores.map (keepStacks old)) k).p = [] ∧
    (spGet coreInit (t.cores.map (keepStacks old)) k).x = [] ∧ (spGet coreInit (t.cores.map (keepStacks old)) k).y = [] := by
  obtain ⟨-, -, -, -, hcores⟩ := h
  cases hk : spFind (t.cores.map (keepStacks old)) k with
  | none =>
    rw [spGet_of_spFind_none hk]
    exact ⟨rfl, rfl, rfl⟩
  | some c =>
    rw [spGet_of_spFind hk]
    obtain ⟨q, hq, heq⟩ := List.mem_map.mp (mem_of_spFind hk)
    have hclear := hcores q hq
    unfold keepStacks at heq
    split at heq <;> (obtain ⟨-, rfl⟩ := Prod.mk.inj heq; exact hclear)

/-! ## The ranks, and the new session (R334, R427) -/

theorem freshSession (n : Nat) (old : W32) (c : Nat) (hc : c = 1 + n % 4294967294) :
    w32 (if old.toNat ≠ 0 ∧ old.toNat ≤ c then c + 1 else c) ≠ 0 ∧ w32 (if old.toNat ≠ 0 ∧ old.toNat ≤ c then c + 1 else c) ≠ old := by
  have hmod : n % 4294967294 < 4294967294 := Nat.mod_lt _ (by decide)
  have hlt : (if old.toNat ≠ 0 ∧ old.toNat ≤ c then c + 1 else c) < 2 ^ 32 := by split_ifs <;> omega
  have hval : (w32 (if old.toNat ≠ 0 ∧ old.toNat ≤ c then c + 1 else c)).toNat = if old.toNat ≠ 0 ∧ old.toNat ≤ c then c + 1 else c := by
    rw [w32, BitVec.toNat_ofNat, Nat.mod_eq_of_lt hlt]
  constructor <;> intro h <;> rw [h] at hval
  · have hzero : (0 : W32).toNat = 0 := rfl
    split_ifs at hval <;> omega
  · split_ifs at hval <;> omega

theorem dramDetect_parts (r0 r1 : List RankFound) : partsOnly [.dram] s (s.dramDetect r0 r1) := by
  unfold State.dramDetect
  extract_lets n0 n1 w conf d0 found written bad flag0 flag1
  have hfound : partsOnly [.dram] s found := partsOnly_of_keeps (by simp [keeps_iff, found]) rfl
  have hwhen (v : State) (c : Bool) (f : State → State) (h : evtOnly v (f v)) : partsOnly [.dram] v (v.when c f) :=
    partsOnly_of_evtOnly _ (evtOnly_when v c f h)
  have hwritten : partsOnly [.dram] s written := hfound.trans (partsOnly_of_evtOnly _ ((evtOnly_wr _ _ _).trans (evtOnly_wr _ _ _)))
  have hflag0 : partsOnly [.dram] s flag0 := hwritten.trans (hwhen _ _ _ (evtOnly_wr _ _ _))
  have hflag1 : partsOnly [.dram] s flag1 := hflag0.trans (hwhen _ _ _ (evtOnly_wr _ _ _))
  exact hflag1.trans (hwhen _ _ _ (raise_only _ 82))
theorem dramDetect_ranksW (r0 r1 : List RankFound) : (s.dramDetect r0 r1).dram.ranksW = min (workingRanks r0).length (workingRanks r1).length := by
  unfold State.dramDetect
  extract_lets n0 n1 w conf d0 found written bad flag0 flag1
  have hwhen (v : State) (c : Bool) (f : State → State) (h : evtOnly v (f v)) : (v.when c f).dram = v.dram := (evtOnly_when v c f h).dram
  rw [hwhen _ _ _ (raise_only _ 82), hwhen _ _ _ (evtOnly_wr _ _ _), hwhen _ _ _ (evtOnly_wr _ _ _)]
  rfl

/-- What a lost ledger leaves. -/
theorem ledgerLost_leaves : partsOnly [.free, .ledger, .dram] s s.ledgerLost ∧ s.ledgerLost.ledger.acc = 0 ∧ s.ledgerLost.ledger.exe = 0 ∧
    s.ledgerLost.ledger.entries = [] ∧ s.ledgerLost.ledger.session ≠ 0 ∧ s.ledgerLost.ledger.session ≠ s.ledger.session ∧
    s.ledgerLost.dram = { s.dram with mem := memClear s.dram.mem 0x1000000 0x200000 } ∧ s.ledgerLost.bit LDG_STAT 0 = true ∧ raised 107 s s.ledgerLost := by
  unfold State.ledgerLost
  extract_lets c v l0 d0 d1 lost
  obtain ⟨hzero, hold⟩ := freshSession (Config.freeNat s.free) s.ledger.session c rfl
  have hledger : (lost.flagRaise LDG_STAT 0 107).ledger = { resetLedger with session := w32 v } := flagRaise_ledger _ _ _ _
  have hlost : partsOnly [.free, .ledger, .dram] s lost := partsOnly_of_keeps (by simp [keeps_iff, lost, l0]) rfl
  rw [hledger]
  exact ⟨hlost.trans (partsOnly_of_evtOnly _ (flagRaise_only _ _ _ _)), rfl, rfl, rfl, hzero, hold, flagRaise_dram _ _ _ _,
    flagRaise_bit _ _ _ _ (by decide) (by decide), raised_flagRaise rfl rfl⟩

/-! ## The MAC addresses -/

theorem evtOnly_fold {α : Type} {f : State → α → State} (l : List α) (h : ∀ t a, evtOnly t (f t a)) : evtOnly s (foldS f s l) := by
  induction l generalizing s with
  | nil => exact evtOnly_refl s
  | cons x xs ih => exact (h s x).trans ih
theorem macsSet_only : evtOnly s s.macsSet := evtOnly_fold _ fun t _ => (evtOnly_wr t _ _).trans (evtOnly_wr _ _ _)
theorem macsSet_rd {a : Nat} (h : ∀ p < 4, a ≠ NET_MAC_HI p ∧ a ≠ NET_MAC_LO p) : s.macsSet.rd a = s.rd a := by
  simp only [State.macsSet, foldS]
  simp only [rd_wr_ne, h 0 (by decide), h 1 (by decide), h 2 (by decide), h 3 (by decide), ne_eq, not_false_eq_true]
theorem macsSet_pends (he : e < 128) : s.macsSet.pends e = s.pends e := by
  refine congrArg (bitOf · _) (macsSet_rd fun p hp => ?_)
  have hlo : EVT_PEND (e / 32) < 0x1020 := by
    simp only [EVT_PEND]
    omega
  simp only [NET_MAC_HI, NET_MAC_LO]
  omega

/-! ## The sequence -/

/-- The sequence up to the DRAM: straps sampled, on-chip memories cleared, the host interface answering. -/
def State.wakeCleared (s : State) (obs : WakeObs) : State :=
  (((s.modSys fun y => { y with straps := obs.straps }).startMarch obs.march).clearAll false).modSys fun y => { y with answering := true }

theorem wakeCleared_clear (obs : WakeObs) : chipClear (s.wakeCleared obs) := clearAll_clear
theorem wakeCleared_parts (obs : WakeObs) : partsOnly [.mem, .cores, .canopy] (s.modSys fun y => { y with straps := obs.straps, answering := true })
    (s.wakeCleared obs) := by
  have hmarch := (startMarch_parts (s := s.modSys fun y => { y with straps := obs.straps }) obs.march).mono (qs := [.mem, .cores, .canopy]) (by simp)
  have hclear := hmarch.trans (clearAll_parts false)
  unfold State.wakeCleared
  generalize State.clearAll _ _ = u at hclear
  refine ⟨?_, ?_⟩
  · refine keeps.trans (t := s.modSys fun y => { y with straps := obs.straps }) ?_ (keeps.trans hclear.1 (qs := [.sys]) ?_ (by simp)) fun _ => id
    · simp [keeps_iff]
    · simp [keeps_iff]
  · simp only [modSys_sys]
    rw [hclear.2]
    rfl

/-- The sequence from the DRAM on, with STRAP_BOOT at 1 and without retained DRAM. -/
def State.wakeLedger (s : State) (obs : WakeObs) : State :=
  let t := s.dramDetect obs.ranks0 obs.ranks1
  { t with dram := { t.dram with mem := [], poison := [], ret := [] } }
theorem wakeLedger_parts (obs : WakeObs) : partsOnly [.dram] s (s.wakeLedger obs) :=
  (dramDetect_parts _ _).trans (partsOnly_of_keeps (by simp [keeps_iff, State.wakeLedger]) rfl)

theorem exec_wakeSequence {obs : WakeObs} (hstarting : s.sys.phase = .starting) (hans : s.sys.answering = false) (hself : s.dram.selfRefresh = false)
    (hboot : obs.straps.getLsbD 3 = true) : exec (.wakeSequence obs) s =
      done s ((((s.wakeCleared obs).wakeLedger obs).ledgerLost.macsSet).modTwn fun t => { t with partnerReady := obs.partnerReply }) := by
  have hdram : (s.wakeCleared obs).dram = s.dram := (wakeCleared_parts obs).1.part (p := .dram) (by simp)
  have hstart : (s.wakeCleared obs).dramStart obs = ((s.wakeCleared obs).wakeLedger obs).ledgerLost := by
    have hnew : (!(s.wakeCleared obs).dram.selfRefresh) = true := by rw [hdram, hself]; rfl
    unfold State.dramStart
    dsimp only
    rw [if_pos hnew]
    rfl
  have hsys : ((s.wakeCleared obs).wakeLedger obs).ledgerLost.sys.straps = obs.straps := by
    rw [ledgerLost_leaves.1.2, (wakeLedger_parts obs).2, (wakeCleared_parts obs).2]
    rfl
  have hno : (((s.wakeCleared obs).wakeLedger obs).ledgerLost).bootStart obs = ((s.wakeCleared obs).wakeLedger obs).ledgerLost := by
    rw [State.bootStart, hsys, if_pos hboot]
  show done s _ = _
  rw [if_pos ⟨hstarting, by rw [hans]; rfl⟩, ← hno, ← hstart]
  rfl

end

/-- Settles O2. -/
theorem wakeSequence : Obligations.WakeSequence := by
  intro s obs hstarting hans hself hboot
  obtain ⟨hlost, hacc, hexe, hentries, hzero, hfresh, hdram, hbit, hraised⟩ := ledgerLost_leaves (s := (s.wakeCleared obs).wakeLedger obs)
  have hcleared := wakeCleared_parts (s := s) obs
  have hledger := (wakeLedger_parts (s := s.wakeCleared obs) obs)
  have hranks : ((s.wakeCleared obs).wakeLedger obs).dram.ranksW = min (workingRanks obs.ranks0).length (workingRanks obs.ranks1).length :=
    dramDetect_ranksW _ _
  have hmem : ((s.wakeCleared obs).wakeLedger obs).dram.mem = [] := rfl
  have hclear := ((wakeCleared_clear (s := s) obs).of_parts hledger.1 (by simp) (by simp) (by simp)).of_parts hlost.1 (by simp) (by simp) (by simp)
  have hexec := exec_wakeSequence hstarting hans hself hboot
  generalize (s.wakeCleared obs).wakeLedger obs = u at *
  generalize hv : u.ledgerLost = v at *
  have hall : partsOnly [.mem, .cores, .canopy, .dram, .free, .ledger] (s.modSys fun y => { y with straps := obs.straps, answering := true }) v :=
    ((hcleared.mono (by simp [List.subset_def])).trans (hledger.mono (by simp))).trans (hlost.mono (by simp [List.subset_def]))
  have hmacs := partsOnly_of_evtOnly (ps := []) (macsSet_only (s := v))
  have hrd : v.macsSet.rd LDG_STAT = v.rd LDG_STAT := macsSet_rd (by decide)
  have hpends := macsSet_pends (s := v) (e := 107) (by decide)
  have hfull := hall.trans (hmacs.mono (List.nil_subset _))
  have hledgerEq : v.macsSet.ledger = v.ledger := hmacs.1.part (p := .ledger) (by simp)
  have hdramEq : v.macsSet.dram = v.dram := hmacs.1.part (p := .dram) (by simp)
  have hclearEnd := hclear.of_parts hmacs.1 (by simp) (by simp) (by simp)
  have hsession : u.ledger.session = s.ledger.session := congrArg LedgerState.session
    ((hledger.1.part (p := .ledger) (by simp)).trans (hcleared.1.part (p := .ledger) (by simp)))
  have hfit : u.fit = s.fit := hledger.1.fit.trans hcleared.1.fit
  generalize v.macsSet = w at *
  obtain ⟨hpool, hlive, hshadow, hflags, -⟩ := id hclearEnd
  refine leads_done hexec ⟨?straps, ?answering, ?phase, ?ready, hpool, hlive, hshadow, hflags, fun k => hclearEnd.core s.cores k.val, ?size, ?mem, ?img,
    ?acc, ?exe, ?entries, ?zero, ?fresh, ?bit, ?raised, ?prs, ?pwd, ?jobs⟩
  case straps => exact (congrArg SysSt.straps hfull.2 :)
  case answering => exact (congrArg SysSt.answering hfull.2 :)
  case phase => exact (congrArg SysSt.phase hfull.2).trans hstarting
  case ready => exact (congrArg SysSt.ready hfull.2 :)
  case size =>
    show min 3 w.dram.ranksW * 2 ^ 35 = _
    rw [hdramEq, hdram, ← hranks]
  case mem =>
    show w.dram.mem = []
    rw [hdramEq, hdram, hmem]
    rfl
  case img => exact hfull.1.part (p := .img) (by simp)
  case acc => exact (congrArg LedgerState.acc hledgerEq).trans hacc
  case exe => exact (congrArg LedgerState.exe hledgerEq).trans hexe
  case entries => exact (congrArg LedgerState.entries hledgerEq).trans hentries
  case zero => exact ne_of_eq_of_ne (congrArg LedgerState.session hledgerEq) hzero
  case fresh => exact ne_of_eq_of_ne (congrArg LedgerState.session hledgerEq) (hsession ▸ hfresh)
  case bit => exact (congrArg (bitOf · 0) hrd).trans hbit
  case raised =>
    intro hhere _
    exact hpends.trans (hraised (by rw [State.eventHere, hfit]; exact hhere) (.inr (.inl (by omega))))
  case prs => exact hfull.1.part (p := .prs) (by simp)
  case pwd => exact hfull.1.part (p := .pwd) (by simp)
  case jobs => exact hfull.1.part (p := .jobs) (by simp)

end Sys2Proof.Machine
end

section
/-! SUPPORT. A job that an ABORT takes out of the queue: the words that an image load which never ran leaves in its result window. -/

namespace Sys2Proof.Machine

/-- A module that answers its PCIe host, with an IMG_LOAD queued in slot 0. -/
def queuedLoad : State :=
  { State.reset with sys := { resetSys with phase := .running, answering := true, ready := true, hostLink := true }
                     jobs := [(0, { idleSlot with kind := 1, st := .queued })] }

/-- Refutes O4: an ABORT of a queued IMG_LOAD writes the words 0x12 on of its result window, so it changes the pool too. -/
theorem not_jobLifeCycle : ¬ Obligations.JobLifeCycle := by
  intro h
  obtain ⟨-, -, -, -, habort, -⟩ := h queuedLoad 0 0 0 0
  obtain ⟨t, hexec, -, -, -, -, -, -, hkeeps⟩ := habort rfl
  have hmem : t.mem = resetMem := hkeeps.part (p := .mem) (by simp)
  have hword : t.poolW (resultOff 0 18) = 4 := by
    cases Host.Outcome.next.inj hexec
    decide +kernel
  rw [State.poolW, hmem] at hword
  exact absurd hword (by decide)

end Sys2Proof.Machine
end

section
/-! SUPPORT. A ledger command that writes the MSI-X table of the PCIe endpoint, which stands in no register block. -/

namespace Sys2Proof.Machine

/-- An accepted REG_WRITE of the first word of the MSI-X table, due at the boundary that ends tick 0. -/
def msixCommand : LedgerEntry :=
  { seq := 1, tick := 1, op := 1, args := [0xFE000, 0, 0], accepted := true, both := false, partner := false, granted := true }

/-- A running module with a PCIe host that holds the command. -/
def msixState : State :=
  { State.reset with sys := { resetSys with phase := .running, answering := true, ready := true, hostLink := true, mediaRun := true }
                     ledger := { resetLedger with entries := [msixCommand] } }

/-- Refutes O7: the address is in no register block, but it is mapped under PCIe, so the command is executed and no unmapped access is recorded. -/
theorem not_ledgerExecution : ¬ Obligations.LedgerExecution := by
  intro h
  obtain ⟨-, -, hunmapped, -⟩ := h msixState msixCommand .sys 0 (ro 0 0) 0xFE000 0 0 (by decide) rfl rfl rfl rfl
  obtain ⟨t, hexec, -, -, hflag, -⟩ := hunmapped rfl (by decide) (by decide)
  have hstat : t.bit SYS_STAT 1 = false := by
    cases Host.Outcome.next.inj hexec
    decide +kernel
  rw [hstat] at hflag
  exact Bool.noConfusion hflag

end Sys2Proof.Machine
end

section
/-! SUPPORT. What a store of the engine to DRAM reads back as, whatever waits in the write queues. -/

namespace Sys2Proof.Machine

section
variable {s : State} {α β : Type}

/-! ## Lists by index -/

theorem mem_upFrom {a n x : Nat} : x ∈ upFrom a n ↔ a ≤ x ∧ x < a + n := by
  induction n generalizing a with
  | zero => simp [upFrom]
  | succ n ih =>
    simp only [upFrom, List.mem_cons, ih]
    omega
theorem nth_map_upFrom (d : β) (g : Nat → β) (a n : Nat) {k : Nat} (hk : k < n) : nth d ((upFrom a n).map g) k = g (a + k) := by
  induction n generalizing a k with
  | zero => omega
  | succ n ih =>
    cases k with
    | zero => rfl
    | succ k =>
      refine (ih (a + 1) (by omega)).trans (congrArg g ?_)
      omega
theorem spRun_eq_map (d : α) (m : Sparse α) (a n : Nat) : spRun d m a n = (upFrom a n).map (spGet d m) := by
  induction n generalizing a with
  | zero => rfl
  | succ n ih => rw [spRun, upFrom, List.map_cons, ih]
theorem length_leBytes (n x : Nat) : (leBytes n x).length = n := by
  induction n generalizing x with
  | zero => rfl
  | succ n ih => rw [leBytes, List.length_cons, ih]

/-! ## A store of the engine -/

/-- A queue entry without the bytes of a range. -/
def stripEntry (a n : Nat) (e : WqEntry) : WqEntry :=
  { e with bytes := (upFrom (e.line * 64) 64).map (fun x => if a ≤ x ∧ x < a + n then none else nth none e.bytes (x - e.line * 64)) }
/-- A write queue without the bytes of a range. -/
def stripQueue (a n : Nat) (q : List WqEntry) : List WqEntry := (q.map (stripEntry a n)).filter (fun e => !e.bytes.all (·.isNone))

/-- No entry of a stripped queue covers a byte of the range. -/
theorem stripQueue_uncovered {a n x : Nat} (hx : a ≤ x ∧ x < a + n) (q : List WqEntry) {e : WqEntry} (h : findEntry (stripQueue a n q) (x / 64) = some e) :
    nth none e.bytes (x % 64) = none := by
  have hmem := List.mem_of_head? h
  obtain ⟨hq, hline⟩ := List.mem_filter.mp hmem
  obtain ⟨e0, -, rfl⟩ := List.mem_map.mp (List.mem_filter.mp hq).1
  have hline : e0.line = x / 64 := by simpa [stripEntry] using hline
  have haddr : e0.line * 64 + x % 64 = x := by omega
  unfold stripEntry
  rw [nth_map_upFrom _ _ _ _ (Nat.mod_lt _ (by decide)), haddr, if_pos hx]

/-- The DRAM after a store of whole words, and the poison that it leaves. -/
def storedDram (d : DramSt) (a : Nat) (bs : List Byte) (poison : Sparse Bool) : DramSt :=
  { d with
    mem := memWrite d.mem a bs
    poison := poison
    ch0 := { d.ch0 with wq := stripQueue a bs.length d.ch0.wq }
    ch1 := { d.ch1 with wq := stripQueue a bs.length d.ch1.wq } }
/-- A store of whole words: the bytes land, poison of the words goes, and the queues forget them. -/
theorem engineWrite_words {a : Nat} {bs : List Byte} (hfrozen : s.dram.frozen = false) (ha : a % 8 = 0) (hn : bs.length % 8 = 0) :
    ∃ poison, s.engineWrite a bs = { s with dram := storedDram s.dram a bs poison } := by
  have hwhole : (s.poisonIn a bs.length).filter (fun w => decide (w * 8 < a) || decide (a + bs.length < w * 8 + 8)) = [] := by
    refine List.filter_eq_nil_iff.mpr fun w hw => ?_
    have hrange := (List.mem_filter.mp hw).2
    simp only [Bool.and_eq_true, decide_eq_true_eq] at hrange
    simp only [Bool.or_eq_true, decide_eq_true_eq]
    omega
  unfold State.engineWrite
  rw [if_neg (by simp [hfrozen])]
  dsimp only
  rw [hwhole]
  exact ⟨_, rfl⟩

/-- What a stored range reads back as. -/
theorem dramPeek_storedDram (a : Nat) (bs : List Byte) (poison : Sparse Bool) :
    (State.dramPeek { s with dram := storedDram s.dram a bs poison } a bs.length) = bs := by
  refine Eq.trans ?_ (memRead_memWrite s.dram.mem a bs)
  rw [memRead, spRun_eq_map]
  refine List.map_congr_left fun x hx => ?_
  have hrange := mem_upFrom.mp hx
  have hchan (c : Nat) : ∃ q, (State.chan { s with dram := storedDram s.dram a bs poison } c).wq = stripQueue a bs.length q := by
    unfold State.chan
    split <;> exact ⟨_, rfl⟩
  obtain ⟨q, hq⟩ := hchan (dramCh x)
  rw [hq]
  cases he : findEntry (stripQueue a bs.length q) (x / 64) with
  | none => rfl
  | some e =>
    dsimp only
    rw [stripQueue_uncovered hrange q he]
    rfl
/-- What a store of whole words reads back as. -/
theorem dramPeek_engineWrite {a : Nat} {bs : List Byte} (hfrozen : s.dram.frozen = false) (ha : a % 8 = 0) (hn : bs.length % 8 = 0) :
    (s.engineWrite a bs).dramPeek a bs.length = bs := by
  obtain ⟨poison, heq⟩ := engineWrite_words hfrozen ha hn
  rw [heq]
  exact dramPeek_storedDram a bs poison

/-! ## A ledger entry -/

theorem length_entryWords (e : LedgerEntry) (st outcome : Nat) (h : e.args.length = 3) : (entryWords e st outcome).length = 32 := by
  obtain ⟨x, y, z, hargs⟩ := List.length_eq_three.mp h
  simp [entryWords, length_leBytes, hargs]
theorem entryAddr_mod (n : Nat) : entryAddr n % 8 = 0 := by
  unfold entryAddr
  omega
theorem dramPeek_entryWrite (e : LedgerEntry) (st outcome : Nat) (hfrozen : s.dram.frozen = false) (h : e.args.length = 3) :
    (s.entryWrite e st outcome).dramPeek (entryAddr e.seq) 32 = entryWords e st outcome := by
  have hlen := length_entryWords e st outcome h
  have hback := dramPeek_engineWrite (bs := entryWords e st outcome) hfrozen (entryAddr_mod e.seq) (by rw [hlen])
  rw [hlen] at hback
  exact hback
theorem engineWrite_keeps (a : Nat) (bs : List Byte) : keeps [.dram] s (s.engineWrite a bs) := by
  unfold State.engineWrite
  split
  · exact keeps.refl _ _
  · simp [keeps_iff]
theorem entryWrite_keeps (e : LedgerEntry) (st outcome : Nat) : keeps [.dram] s (s.entryWrite e st outcome) := engineWrite_keeps _ _
theorem dramPeek_of_dram {s t : State} (h : t.dram = s.dram) (a n : Nat) : t.dramPeek a n = s.dramPeek a n := by
  simp only [State.dramPeek, State.chan, h]

end
end Sys2Proof.Machine
end

section
/-! SUPPORT. Submission, acceptance and forwarding of ledger records (R72 to R75, R428, R429). -/

namespace Sys2Proof.Machine

section
variable {s u : State} {v : W32}

/-! ## Submission -/

/-- The state with the last submission word written. -/
def State.subLast (s : State) (v : W32) : State := { s with ledger := { s.ledger with sub := spPut s.ledger.sub 7 v } }
/-- The answer of a submission in LDG_SUBRES. -/
def State.subAnswer (u : State) (r : Nat) : State := { u with ledger := { u.ledger with result := r, resultSeq := BitVec.ofNat 16 u.subEntry.seq } }

theorem exec_ledgerSubmit (hup : s.hostUp = true) {r : Nat} (hr : (s.subLast v).subResult (s.subLast v).subEntry = r) : exec (.ledgerSubmit v) s = doneCore s (
    if r = 5 then ((s.subLast v).subAnswer r).deny ((s.subLast v).regWriteClass ((s.subLast v).sub 5).toNat ((s.subLast v).sub 6) ((s.subLast v).sub 7)) 1
      ((s.subLast v).sub 5).toNat
    else if r = 4 then (((s.subLast v).subAnswer r).count LDG_FULL_COUNT 1).raiseOnce 104
    else if r ≤ 1 then ((s.subLast v).subAnswer r).hold (s.subLast v).subEntry
    else (s.subLast v).subAnswer r) := by
  show doneCore s _ = _
  rw [byHost_up hup, ← hr]
  rfl

/-- The checks of R74, in their order. -/
theorem subResult_badOp (hbad : u.subBad u.subEntry = true) : u.subResult u.subEntry = 3 := if_pos hbad
theorem subResult_noPresence (hbad : u.subBad u.subEntry = false) (hop : u.subEntry.op = 1)
    (hgrant : u.regWriteGranted (u.sub 5).toNat (u.sub 6) (u.sub 7) = false) : u.subResult u.subEntry = 5 := by
  have hdenied : u.subEntry.op = 1 ∧ (!u.regWriteGranted (u.sub 5).toNat (u.sub 6) (u.sub 7)) = true := ⟨hop, by rw [hgrant]; rfl⟩
  exact (if_neg (by rw [hbad]; decide)).trans (if_pos hdenied)

section
variable (hbad : u.subBad u.subEntry = false) (hgrant : u.subEntry.op ≠ 1 ∨ u.regWriteGranted (u.sub 5).toNat (u.sub 6) (u.sub 7) = true)
include hbad hgrant

theorem subResult_granted : u.subResult u.subEntry = if u.subEntry.seq ≤ u.ledger.acc ∨ u.holds u.subEntry.seq then 2 else if u.subFull u.subEntry then 4
    else if u.subEntry.seq = u.accReady false + 1 then 0 else 1 := by
  have hnot : ¬(u.subEntry.op = 1 ∧ (!u.regWriteGranted (u.sub 5).toNat (u.sub 6) (u.sub 7)) = true) := by
    rintro ⟨hop, hno⟩
    rcases hgrant with h | h
    · exact h hop
    · rw [h] at hno
      cases hno
  exact (if_neg (by rw [hbad]; decide)).trans (if_neg hnot)

end

theorem subFull_roomy {e : LedgerEntry} (hready : u.sys.ready = true) (hfrozen : u.dram.frozen = false) (hroom : u.ledger.entries.length < 65536)
    (hnear : e.seq ≤ u.ledger.exe + 65536) (halone : u.twn.role = .alone) : u.subFull e = false := by
  simp [State.subFull, hready, hfrozen, hroom, hnear, halone]

theorem leads_submit_denied (hup : s.hostUp = true) (hr : (s.subLast v).subResult (s.subLast v).subEntry = 5) : leads (.ledgerSubmit v) s (fun t =>
    t.ledger = ((s.subLast v).subAnswer 5).ledger ∧ t.dram = s.dram ∧ counted PRS_DENIED 1 s t ∧ t.bit PRS_STAT 2 = true ∧
    regsKeep [PRS_DENIED, PRS_STAT, PRS_DENIED_LAST] s t ∧ keeps [.regs, .out, .mon, .sys, .ledger] s t) := by
  have hexec := exec_ledgerSubmit (v := v) hup hr
  rw [if_pos rfl] at hexec
  obtain ⟨hcount, hflag, hregs⟩ := deny_refuses (s := (s.subLast v).subAnswer 5)
    ((s.subLast v).regWriteClass ((s.subLast v).sub 5).toNat ((s.subLast v).sub 6) ((s.subLast v).sub 7)) 1 ((s.subLast v).sub 5).toNat
  have honly := deny_only ((s.subLast v).subAnswer 5)
    ((s.subLast v).regWriteClass ((s.subLast v).sub 5).toNat ((s.subLast v).sub 6) ((s.subLast v).sub 7)) 1 ((s.subLast v).sub 5).toNat
  refine leads_doneCore hexec ⟨honly.ledger, honly.dram, hcount, hflag, hregs, keeps.answered (keeps.trans (qs := [.regs, .out, .mon, .sys]) ?_ honly.keeps (by simp))⟩
  simp [keeps_iff, State.subLast, State.subAnswer]

theorem leads_submit_full (hup : s.hostUp = true) (hr : (s.subLast v).subResult (s.subLast v).subEntry = 4) : leads (.ledgerSubmit v) s (fun t =>
    t.ledger = ((s.subLast v).subAnswer 4).ledger ∧ counted LDG_FULL_COUNT 1 s t ∧ (s.sys.onceTick.contains 104 = false → raised 104 s t) ∧
    regsKeep [LDG_FULL_COUNT] s t ∧ keeps [.regs, .out, .mon, .sys, .ledger] s t) := by
  have hexec := exec_ledgerSubmit (v := v) hup hr
  rw [if_neg (by decide), if_pos rfl] at hexec
  have hbase : keeps [.regs, .out, .mon, .sys, .ledger] s ((s.subLast v).subAnswer 4) := by simp [keeps_iff, State.subLast, State.subAnswer]
  have hregs : ((s.subLast v).subAnswer 4).regs = s.regs := rfl
  have hsys : ((s.subLast v).subAnswer 4).sys = s.sys := rfl
  have hfit : ((s.subLast v).subAnswer 4).fit = s.fit := rfl
  generalize (s.subLast v).subAnswer 4 = w at hexec hbase hregs hsys hfit
  refine leads_doneCore hexec ⟨raiseOnce_ledger _ _, ?_, fun hnew => ?_, ?_, keeps.answered (t := (w.count LDG_FULL_COUNT 1).raiseOnce 104) ?_⟩
  · exact counted.raiseOnce (t := w.count LDG_FULL_COUNT 1) (counted_count (rd_of_regs hregs _)) (by decide)
  · exact raised_raiseOnce (t := w.count LDG_FULL_COUNT 1) hfit (congrArg SysSt.answering hsys) ((congrArg (fun y => y.onceTick.contains 104) hsys).trans hnew)
  · exact regsKeep.raiseOnce (t := w.count LDG_FULL_COUNT 1) (regsKeep.count (regsKeep_of_regs hregs) (by simp))
  · exact keeps.raiseOnce (keeps.count hbase (by simp)) (by simp)

theorem leads_submit_held (hup : s.hostUp = true) (halone : s.twn.role = .alone) (hfrozen : s.dram.frozen = false) {r : Nat} (hle : r ≤ 1)
    (hr : (s.subLast v).subResult (s.subLast v).subEntry = r) : leads (.ledgerSubmit v) s (fun t =>
    t.ledger.entries = s.ledger.entries ++ [(s.subLast v).subEntry] ∧ t.ledger.acc = s.ledger.acc ∧ t.ledger.exe = s.ledger.exe ∧ t.ledger.result = r ∧
    t.dramPeek (entryAddr (s.subLast v).subEntry.seq) 32 = entryWords (s.subLast v).subEntry 1 0 ∧ keeps [.ledger, .dram] s t) := by
  have hexec := exec_ledgerSubmit (v := v) hup hr
  rw [if_neg (by omega), if_neg (by omega), if_pos hle] at hexec
  have hhold (w : State) (e : LedgerEntry) (hw : w.twn.role = .alone) : w.hold e = (w.modLedger fun l => { l with entries := l.entries ++ [e] }).entryWrite e 1 0 := by
    have htwn : ((w.modLedger fun l => { l with entries := l.entries ++ [e] }).entryWrite e 1 0).twn = w.twn := (entryWrite_keeps e 1 0).part (p := .twn) (by simp)
    refine if_neg ?_
    rw [hw]
    simp
  rw [hhold ((s.subLast v).subAnswer r) _ halone] at hexec
  have hwrite := entryWrite_keeps (s := ((s.subLast v).subAnswer r).modLedger fun l => { l with entries := l.entries ++ [(s.subLast v).subEntry] }) (s.subLast v).subEntry 1 0
  have hpeek := dramPeek_entryWrite (s := ((s.subLast v).subAnswer r).modLedger fun l => { l with entries := l.entries ++ [(s.subLast v).subEntry] })
    (s.subLast v).subEntry 1 0 hfrozen rfl
  have hledger := hwrite.part (p := .ledger) (by simp)
  refine leads_doneCore hexec ⟨?_, ?_, ?_, ?_, hpeek, keeps.answered (keeps.trans (qs := [.dram]) ?_ hwrite (by simp))⟩
  · exact (congrArg LedgerState.entries hledger :)
  · exact (congrArg LedgerState.acc hledger :)
  · exact (congrArg LedgerState.exe hledger :)
  · exact (congrArg LedgerState.result hledger :)
  · simp [keeps_iff, State.subLast, State.subAnswer]

/-! ## Acceptance at a boundary (R429) -/

theorem ledgerVector_only : evtOnly s s.ledgerVector := evtOnly_ite (evtOnly_refl _) (.trans (t := { s with sys := { s.sys with onceTick := 1002 :: s.sys.onceTick } }) rfl (vector_only _ 2))
theorem ledgerVector_rd {a : Nat} : s.ledgerVector.rd a = s.rd a := by
  unfold State.ledgerVector State.vector
  split_ifs <;> rfl
theorem entryWrites_keeps (st outcome : Nat) (es : List LedgerEntry) : keeps [.dram] s (foldS (fun (t : State) e => t.entryWrite e st outcome) s es) := by
  induction es generalizing s with
  | nil => exact keeps.refl _ _
  | cons e es ih => exact (entryWrite_keeps e st outcome).trans ih (by simp)

theorem exec_ledgerAccept (hmedia : s.sys.mediaRun = true) : exec .ledgerAccept s = doneCore s (s.ledgerAccept (s.tickN + 1)) := by
  show doneCore s _ = _
  rw [if_pos hmedia]

theorem leads_ledgerAccept (hmedia : s.sys.mediaRun = true) (halone : s.twn.role = .alone) (hfrozen : s.dram.frozen = false)
    (hnew : s.ledger.acc < s.accReady false) : leads .ledgerAccept s (fun t => t.ledger.acc = s.accReady false ∧ t.ledger.exe = s.ledger.exe ∧
    t.ledger.entries = s.ledger.entries.map (fun x => if x.seq ≤ s.accReady false then { x with accepted := true } else x) ∧
    regsKeep [] s t ∧ keeps [.regs, .out, .mon, .sys, .ledger, .dram] s t) := by
  have hat : s.accAt (s.tickN + 1) = s.accReady false := by rw [State.accAt, halone]
  have hexec := exec_ledgerAccept hmedia
  unfold State.ledgerAccept at hexec
  rw [hat] at hexec
  extract_lets n new written accepted at hexec
  have hdo : ¬(s.dram.frozen || decide (n ≤ s.ledger.acc)) = true := by
    simp [hfrozen, n, hnew]
  rw [if_neg hdo] at hexec
  have hwritten : keeps [.dram] s written := entryWrites_keeps 2 0 _
  have haccepted : keeps [.ledger] written accepted := by simp [keeps_iff, accepted]
  have hledger : accepted.ledger = { s.ledger with acc := n, entries := s.ledger.entries.map (fun e => if new e then { e with accepted := true } else e) } := by
    have hw : written.ledger = s.ledger := hwritten.part (p := .ledger) (by simp)
    simp only [accepted, modLedger_ledger, hw]
  have hregs : accepted.regs = s.regs := hwritten.part (p := .regs) (by simp)
  clear_value accepted
  have honly := ledgerVector_only (s := accepted)
  have htrace := trace_only accepted.ledgerVector 3 (spaced [txt "T", dec ((s.tickN + 1) % 2 ^ 32), txt "acc", dec n])
  have hend := (honly.trans htrace).ledger.trans hledger
  refine leads_doneCore hexec ⟨?_, ?_, ?_, fun a _ hevt => ?_, keeps.answered (keeps.trans (qs := [.regs, .out, .mon, .sys]) ?_ (honly.trans htrace).keeps (by simp))⟩
  · exact (congrArg LedgerState.acc hend :)
  · exact (congrArg LedgerState.exe hend :)
  · refine (congrArg LedgerState.entries hend).trans (List.map_congr_left fun x _ => ?_)
    have hmark : new x = (!x.accepted && decide (x.seq ≤ s.accReady false)) := rfl
    rw [hmark]
    by_cases hx : x.seq ≤ s.accReady false
    · cases hacc : x.accepted
      · simp [hx]
      · simp only [hx, if_true, Bool.not_true, Bool.false_and, Bool.false_eq_true, if_false]
        exact hacc ▸ rfl
    · simp [hx]
  · exact (trace_rd _ _ _ hevt).trans (ledgerVector_rd.trans (rd_of_regs hregs a))
  · exact (hwritten.mono (by simp)).trans haccepted (by simp)

/-! ## Records of the partner (R428, R429) -/

/-- The entry that a record of the partner's makes. -/
def State.entryOf (s : State) (r : RecordMsg) : LedgerEntry :=
  { seq := r.seq.toNat, tick := r.tick.toNat, op := r.op.toNat, args := r.args, accepted := false, both := true, partner := s.twn.role == .active, granted := r.granted }

theorem find_none {r : RecordMsg} (hnone : s.ledger.entries.all (fun x => x.seq != r.seq.toNat) = true) : s.ledger.entries.find? (fun e => e.seq == r.seq.toNat) = none := by
  refine List.find?_eq_none.mpr fun x hx => ?_
  simpa using List.all_eq_true.mp hnone x hx

section
variable {r : RecordMsg} (hlink : s.twn.linkUp = true) (hfrozen : s.dram.frozen = false) (hconfirm : r.confirm = false)
include hlink hfrozen hconfirm

theorem exec_forward_old (hnone : s.ledger.entries.all (fun x => x.seq != r.seq.toNat) = true) (hold : r.seq.toNat ≤ s.ledger.acc) :
    exec (.ledgerRecordForward r) s = .next s := by
  show execLedgerRecordForward r s = _
  unfold execLedgerRecordForward
  dsimp only
  rw [if_neg (by simp [hlink, hfrozen]), if_neg (by simp [hconfirm]), find_none hnone]
  dsimp only
  rw [if_pos hold]
  rfl

theorem exec_forward_new (hnone : s.ledger.entries.all (fun x => x.seq != r.seq.toNat) = true) (hnew : s.ledger.acc < r.seq.toNat) :
    exec (.ledgerRecordForward r) s = doneCore s (((s.modLedger fun l => { l with entries := l.entries ++ [s.entryOf r] }).entryWrite (s.entryOf r) 1 0).emit
      (.twinRecord r.seq.toNat r.tick.toNat r.op.toNat r.args r.granted true)) := by
  show execLedgerRecordForward r s = _
  unfold execLedgerRecordForward
  dsimp only
  rw [if_neg (by simp [hlink, hfrozen]), if_neg (by simp [hconfirm]), find_none hnone]
  dsimp only
  rw [if_neg (by omega)]
  rfl

theorem leads_forward_conflict {e : LedgerEntry} (hactive : s.twn.role = .active)
    (hfound : s.ledger.entries.find? (fun x => x.seq == r.seq.toNat) = some e) (hdiff : sameRecord e r = false) (hopen : e.accepted = false) :
    leads (.ledgerRecordForward r) s (fun t => t.ledger = s.ledger ∧ counted LDG_CONFLICTS 1 s t ∧ t.bit LDG_STAT 1 = true ∧ raised 105 s t ∧ evtOnly s t ∧
    regsKeep [LDG_CONFLICTS, LDG_STAT] s t) := by
  have hexec : exec (.ledgerRecordForward r) s = doneCore s ((s.count LDG_CONFLICTS 1).flagRaise LDG_STAT 1 105) := by
    show execLedgerRecordForward r s = _
    unfold execLedgerRecordForward
    dsimp only
    rw [if_neg (by simp [hlink, hfrozen]), if_neg (by simp [hconfirm]), hfound]
    dsimp only
    rw [if_neg (by simp [hdiff]), if_neg (by simp [hopen]), State.ledgerConflict]
    dsimp only
    rw [if_pos hactive]
  have honly : evtOnly s ((s.count LDG_CONFLICTS 1).flagRaise LDG_STAT 1 105) := .trans (evtOnly_wr _ _ _) (flagRaise_only _ _ _ _)
  refine leads_doneCore hexec ?_
  rw [honly.answer]
  refine ⟨honly.ledger, ?_, flagRaise_bit _ _ _ _ (by decide) (by decide), raised_flagRaise rfl rfl, honly, ?_⟩
  · exact counted.flagRaise (counted_count rfl) (by decide) (by decide)
  · exact regsKeep.flagRaise (regsKeep.count (regsKeep.refl _ _) (by simp)) (by simp)

end
end

/-- Settles O5. -/
theorem ledgerSubmission : Obligations.LedgerSubmission := by
  rintro s u v hup rfl
  refine ⟨fun hbad => ?bad, fun hbad hop hgrant => leads_submit_denied hup (subResult_noPresence hbad hop hgrant), fun hbad hgrant hold => ?duplicate,
    fun hbad hgrant hnew hheld hfull => leads_submit_full hup ?full, fun hbad hgrant hnew hheld hready hfrozen hroom hnear halone => ?taken⟩
  case bad =>
    refine (exec_ledgerSubmit hup (subResult_badOp hbad)).trans ?_
    rfl
  case duplicate =>
    refine (exec_ledgerSubmit hup ((subResult_granted hbad hgrant).trans (if_pos hold))).trans ?_
    rfl
  case full =>
    refine (subResult_granted hbad hgrant).trans ((if_neg ?_).trans (if_pos ?_))
    · rintro (h | h)
      · exact absurd h (Nat.not_le.mpr hnew)
      · exact absurd (hheld.symm.trans h) (by decide)
    · rcases hfull with h | h | h | h <;> simp [State.subFull, h]
  case taken =>
    have hnotHeld : ¬((s.subLast v).subEntry.seq ≤ s.ledger.acc ∨ (s.subLast v).holds (s.subLast v).subEntry.seq = true) := by
      rintro (h | h)
      · exact absurd h (Nat.not_le.mpr hnew)
      · exact absurd (hheld.symm.trans h) (by decide)
    have hnotFull : ¬(s.subLast v).subFull (s.subLast v).subEntry = true :=
      Bool.eq_false_iff.mp (subFull_roomy (u := s.subLast v) hready hfrozen hroom hnear halone)
    have hr := (subResult_granted hbad hgrant).trans ((if_neg hnotHeld).trans (if_neg hnotFull))
    exact leads_submit_held hup halone hfrozen (by split_ifs <;> omega) hr

/-- Settles O6. -/
theorem ledgerAcceptance : Obligations.LedgerAcceptance := by
  intro s r e
  refine ⟨leads_ledgerAccept, fun hlink hfrozen hconfirm hargs hnone hnew => ?new, exec_forward_old,
    fun hlink hfrozen hconfirm hactive hfound hdiff hopen => leads_forward_conflict hlink hfrozen hconfirm hactive hfound hdiff hopen⟩
  case new =>
    have hexec := exec_forward_new hlink hfrozen hconfirm hnone hnew
    have hwrite := entryWrite_keeps (s := s.modLedger fun l => { l with entries := l.entries ++ [s.entryOf r] }) (s.entryOf r) 1 0
    have hpeek := dramPeek_entryWrite (s := s.modLedger fun l => { l with entries := l.entries ++ [s.entryOf r] }) (s.entryOf r) 1 0 hfrozen hargs
    have hledger := hwrite.part (p := .ledger) (by simp)
    have hout := hwrite.part (p := .out) (by simp)
    generalize (s.modLedger fun l => { l with entries := l.entries ++ [s.entryOf r] }).entryWrite (s.entryOf r) 1 0 = w at hexec hwrite hpeek hledger hout
    have hentries : w.ledger.entries = s.ledger.entries ++ [s.entryOf r] := (congrArg LedgerState.entries hledger :)
    refine leads_doneCore hexec ⟨⟨s.entryOf r, ?_, hentries, rfl, rfl, rfl, rfl, rfl, rfl, rfl, hpeek⟩, ?_, ?_⟩
    · show _ ∈ w.ledger.entries
      rw [hentries]
      exact List.mem_append_right _ (by simp)
    · exact congrArg (· ++ [_]) hout
    · refine keeps.answered (keeps.trans (t := s.modLedger fun l => { l with entries := l.entries ++ [s.entryOf r] }) (qs := [.out, .dram]) ?_ ?_ (by simp))
      · simp [keeps_iff]
      · exact keeps.trans (t := w) (qs := [.out]) (hwrite.mono (by simp)) (by simp [keeps_iff]) (by simp)

end Sys2Proof.Machine
end

section
/-! SUPPORT. The dump of the ledger (R433): the entries copied, and the words of its result window. -/

namespace Sys2Proof.Machine

section
variable {s t : State}

/-! ## Words of the pool -/

theorem leNat_leBytes (n x : Nat) : leNat (leBytes n x) = x % 256 ^ n := by
  induction n generalizing x with
  | zero => simp [leBytes, leNat, Nat.mod_one]
  | succ n ih =>
    have hbyte : (BitVec.ofNat 8 x).toNat = x % 256 := BitVec.toNat_ofNat ..
    rw [leBytes, leNat, ih, hbyte, Nat.pow_succ, Nat.mul_comm (256 ^ n), Nat.mod_mul]
theorem word_leBytes (w : W32) : w32 (leNat (leBytes 4 w.toNat)) = w := by
  have hlt : w.toNat < 256 ^ 4 := w.isLt
  rw [leNat_leBytes, Nat.mod_eq_of_lt hlt]
  exact (BitVec.ofNat_toNat ..).trans (BitVec.setWidth_eq w)

theorem memWrite_append (m : Sparse Byte) (a : Nat) (bs cs : List Byte) : memWrite m a (bs ++ cs) = memWrite (memWrite m a bs) (a + bs.length) cs := by
  unfold memWrite
  induction bs generalizing m a with
  | nil => rfl
  | cons b bs ih =>
    rw [List.cons_append, spSetAll, ih, spSetAll, List.length_cons]
    congr 1
    omega
theorem memRead_congr {m m' : Sparse Byte} {a n : Nat} (h : ∀ x, a ≤ x → x < a + n → spGet 0 m x = spGet 0 m' x) : memRead m a n = memRead m' a n := by
  rw [memRead, memRead, spRun_eq_map, spRun_eq_map]
  refine List.map_congr_left fun x hx => ?_
  obtain ⟨hlo, hhi⟩ := mem_upFrom.mp hx
  exact h x hlo hhi
/-- Of words stored one after the other, each reads back. -/
theorem memRead_memWrite_words (m : Sparse Byte) (a : Nat) (ws : List W32) {i : Nat} (hi : i < ws.length) :
    memRead (memWrite m a (ws.flatMap fun w => leBytes 4 w.toNat)) (a + 4 * i) 4 = leBytes 4 (nth 0 ws i).toNat := by
  induction ws generalizing m a i with
  | nil => exact absurd hi (Nat.not_lt_zero i)
  | cons w ws ih =>
    rw [List.flatMap_cons, memWrite_append, length_leBytes]
    cases i with
    | zero =>
      have hfirst := memRead_memWrite m a (leBytes 4 w.toNat)
      rw [length_leBytes] at hfirst
      exact (memRead_congr fun x _ hx => memWrite_other _ _ _ (.inl (by omega))).trans hfirst
    | succ i =>
      have hrest := ih (memWrite m a (leBytes 4 w.toNat)) (a + 4) (Nat.lt_of_succ_lt_succ hi)
      rw [show a + 4 * (i + 1) = a + 4 + 4 * i by omega]
      exact hrest

/-- The words of a result window: their number, then each of them. -/
theorem poolW_resultWrite_count (k : Nat) {ws : List W32} (hlen : ws.length ≤ 255) : (s.resultWrite k ws).poolW (resultOff k 0) = w32 ws.length := by
  have hcount := memRead_memWrite (s.poolWr (resultOff k 1) (ws.flatMap fun w => leBytes 4 w.toNat)).mem.pool (resultOff k 0) (leBytes 4 (w32 ws.length).toNat)
  rw [length_leBytes] at hcount
  have hpool : (s.resultWrite k ws).mem.pool = memWrite (s.poolWr (resultOff k 1) (ws.flatMap fun w => leBytes 4 w.toNat)).mem.pool (resultOff k 0)
      (leBytes 4 (w32 ws.length).toNat) := by
    rw [State.resultWrite, List.take_of_length_le hlen]
    rfl
  rw [State.poolW, hpool, hcount, word_leBytes]
theorem poolW_resultWrite (k : Nat) {ws : List W32} (hlen : ws.length ≤ 255) {i : Nat} (hi : i < ws.length) :
    (s.resultWrite k ws).poolW (resultOff k (i + 1)) = nth 0 ws i := by
  have hword := memRead_memWrite_words s.mem.pool (resultOff k 1) ws hi
  have hpool : (s.resultWrite k ws).mem.pool = memWrite (memWrite s.mem.pool (resultOff k 1) (ws.flatMap fun w => leBytes 4 w.toNat)) (resultOff k 0)
      (leBytes 4 (w32 ws.length).toNat) := by
    rw [State.resultWrite, List.take_of_length_le hlen]
    rfl
  have hoff : resultOff k (i + 1) = resultOff k 1 + 4 * i := by
    unfold resultOff
    omega
  rw [State.poolW, hpool, hoff]
  refine Eq.trans (congrArg (fun l => w32 (leNat l)) ((memRead_congr fun x hx _ => memWrite_other _ _ _ (.inr ?_)).trans hword)) (word_leBytes _)
  rw [length_leBytes]
  unfold resultOff at hx ⊢
  omega
theorem resultWrite_keeps (k : Nat) (ws : List W32) : keeps [.mem] s (s.resultWrite k ws) := by
  simp [keeps_iff, State.resultWrite, State.poolWr, State.poolWrW]

/-! ## Slots -/

theorem slot_setSlot_same (k : Nat) (j : JobSlot) : (s.setSlot k j).slot k = j := spGet_spPut_same ..
theorem slot_of_jobs (h : t.jobs = s.jobs) (k : Nat) : t.slot k = s.slot k := congrArg (spGet idleSlot · k) h
theorem setSlot_keeps (k : Nat) (j : JobSlot) : keeps [.jobs] s (s.setSlot k j) := by simp [keeps_iff, State.setSlot]

/-- A queued job whose engine is free begins. -/
theorem jobTryBegin_free {k : Nat} (hqueued : (s.slot k).st = .queued) (hfree : s.engineFree k = true) : s.jobTryBegin k = s.jobBegin k :=
  if_pos ⟨hqueued, hfree⟩
theorem jobBegin_slot (k : Nat) : (s.jobBegin k).slot k = { s.slot k with st := .running, total := 0, error := 0, fin := none } := slot_setSlot_same ..
theorem jobBegin_keeps (k : Nat) : keeps [.jobs, .mem] s (s.jobBegin k) := by
  simp [keeps_iff, State.jobBegin, State.resultClear, State.modSlot, State.setSlot]

/-! ## The copying -/

theorem engineRead_clean {a n master : Nat} {rt : Bool} (hfrozen : s.dram.frozen = false) (hclean : s.dram.poison = []) :
    s.engineRead a n master rt = (s, s.dramPeek a n, false) := by
  simp [State.engineRead, State.poisonIn, hfrozen, hclean, foldS]

/-- What copying the entries from index a on makes of the work. -/
def DmaWork.after (d : DmaWork) (n : Nat) : DmaWork := { d with plan := [], addr := d.addr + 32 * n, copied := d.copied + n }
/-- The transfers of n entries from index a on. -/
def dumpOuts (s : State) (addr a n : Nat) : List Out := (upFrom 0 n).map fun j => .dma (addr + 32 * j) (s.dramPeek (0x1000000 + (a + j) % 65536 * 32) 32)

theorem upFrom_succ_map {α : Type} (f : Nat → α) (a n : Nat) : (upFrom (a + 1) n).map f = (upFrom a n).map fun j => f (j + 1) := by
  induction n generalizing a with
  | zero => rfl
  | succ n ih => rw [upFrom, upFrom, List.map_cons, List.map_cons, ih]
theorem dumpOuts_succ (addr a n : Nat) : dumpOuts s addr a (n + 1) =
    .dma addr (s.dramPeek (0x1000000 + a % 65536 * 32) 32) :: dumpOuts s (addr + 32) (a + 1) n := by
  rw [dumpOuts, upFrom, List.map_cons, upFrom_succ_map]
  refine congrArg _ (List.map_congr_left fun j _ => ?_)
  rw [show addr + 32 * (j + 1) = addr + 32 + 32 * j by omega, show a + (j + 1) = a + 1 + j by omega]

theorem dumpOne_next {d : DmaWork} {i : Nat} {is : List Nat} (hfrozen : s.dram.frozen = false) (hclean : s.dram.poison = []) (hdma : s.graph.dma = some d)
    (hplan : d.plan = i :: is) : s.dumpOne = ({ s.emit (.dma d.addr (s.dramPeek (0x1000000 + i % 65536 * 32) 32)) with
      graph := { s.graph with dma := some { d with plan := is, addr := d.addr + 32, copied := d.copied + 1 } } }).jobProgress d.slot (d.copied + 1) := by
  rw [State.dumpOne, hdma]
  dsimp only
  rw [hplan]
  dsimp only
  rw [engineRead_clean hfrozen hclean]
  rfl

/-- Copying all that is planned. -/
theorem dump_all (n a : Nat) {d : DmaWork} (hfrozen : s.dram.frozen = false) (hclean : s.dram.poison = []) (hdma : s.graph.dma = some d)
    (hplan : d.plan = (upFrom a n).map (· % 65536)) :
    (timesN State.dumpOne n s).out = s.out ++ dumpOuts s d.addr a n ∧ (timesN State.dumpOne n s).graph = { s.graph with dma := some (d.after n) } ∧
    (timesN State.dumpOne n s).slot d.slot = { s.slot d.slot with total := if n = 0 then (s.slot d.slot).total else d.copied + n } ∧
    keeps [.out, .jobs, .graph] s (timesN State.dumpOne n s) := by
  induction n generalizing s a d with
  | zero =>
    have hafter : d.after 0 = d := by
      simp only [DmaWork.after, Nat.mul_zero, Nat.add_zero]
      rw [← show d.plan = [] from hplan]
    refine ⟨?_, ?_, rfl, keeps.refl _ _⟩
    · simp [timesN, dumpOuts, upFrom]
    · rw [hafter, ← hdma]
      rfl
  | succ n ih =>
    have hnext := dumpOne_next hfrozen hclean hdma hplan
    rw [timesN, hnext]
    set u := ({ s.emit (.dma d.addr (s.dramPeek (0x1000000 + a % 65536 % 65536 * 32) 32)) with
      graph := { s.graph with dma := some { d with plan := (upFrom (a + 1) n).map (· % 65536), addr := d.addr + 32, copied := d.copied + 1 } } }).jobProgress
        d.slot (d.copied + 1) with hu
    obtain ⟨hout, hgraph, hslot, hkeeps⟩ := ih (s := u) (a + 1) hfrozen hclean rfl rfl
    have hpeek : dumpOuts u (d.addr + 32) (a + 1) n = dumpOuts s (d.addr + 32) (a + 1) n := rfl
    refine ⟨?_, ?_, ?_, keeps.trans ?_ hkeeps fun _ => id⟩
    · rw [hout, dumpOuts_succ]
      refine (List.append_assoc s.out _ _).trans ?_
      rw [Nat.mod_mod]
      rfl
    · have hafter : DmaWork.after { d with plan := (upFrom (a + 1) n).map (· % 65536), addr := d.addr + 32, copied := d.copied + 1 } n = d.after (n + 1) := by
        simp only [DmaWork.after]
        congr 1 <;> omega
      rw [hgraph, ← hafter]
      rfl
    · have hfirst : u.slot d.slot = { s.slot d.slot with total := d.copied + 1 } := slot_setSlot_same ..
      refine hslot.trans ?_
      dsimp only
      rw [hfirst]
      rcases Nat.eq_zero_or_pos n with rfl | hn
      · rfl
      · rw [if_neg (by omega), if_neg (by omega), show d.copied + 1 + n = d.copied + (n + 1) by omega]
    · simp [keeps_iff, hu, State.jobProgress, State.modSlot, State.setSlot]

end

theorem cat64_halves (w : W64) : cat64 (hi32 w) (lo32 w) = w := by
  apply BitVec.eq_of_toNat_eq
  simp only [cat64, hi32, lo32, BitVec.toNat_ofNat, BitVec.toNat_setWidth, BitVec.toNat_ushiftRight, Nat.shiftRight_eq_div_pow]
  have := w.isLt
  omega
theorem toNat_w32 {n : Nat} (h : n < 2 ^ 32) : (w32 n).toNat = n := (BitVec.toNat_ofNat ..).trans (Nat.mod_eq_of_lt h)

/-- The work of a dump that begins. -/
def dumpWork (s : State) (k i count : Nat) (host : W64) : DmaWork :=
  { slot := k, chan := 0, plan := (upFrom i count).map (· % 65536), addr := host.toNat, copied := 0, bytes := 0, first := loN s.ledger.exe, skipped := 0 }
/-- The job has begun, its work laid out. -/
def State.dumpBegun (s : State) (k i count : Nat) (host : W64) : State :=
  { s.jobBegin k with graph := { s.graph with dma := some (dumpWork s k i count host) } }
/-- The end of the copying: the result window, and the job's ending. -/
def State.dumpEnd (s : State) (k copied : Nat) (first : W32) : State :=
  ({ s with graph := { s.graph with dma := none } }.resultWrite k [w32 copied, first]).jobFin k 0

section
variable {s : State} {k i count : Nat} {host : W64}

theorem dumpEnd_slot (copied : Nat) (first : W32) : (s.dumpEnd k copied first).slot k = { s.slot k with fin := some 0 } := by
  have hjobs := (resultWrite_keeps (s := { s with graph := { s.graph with dma := none } }) k [w32 copied, first]).part (p := .jobs) (by simp)
  exact (slot_setSlot_same k _).trans (congrArg (fun j : JobSlot => { j with fin := some (0 : Byte) }) (slot_of_jobs hjobs k))
theorem dumpEnd_keeps (copied : Nat) (first : W32) : keeps [.jobs, .mem, .graph] s (s.dumpEnd k copied first) := by
  have hresult := resultWrite_keeps (s := { s with graph := { s.graph with dma := none } }) k [w32 copied, first]
  refine keeps.trans (t := { s with graph := { s.graph with dma := none } }) (qs := [.jobs, .mem]) (by simp [keeps_iff]) ?_ (by simp)
  exact keeps.trans (hresult.mono (by simp)) (setSlot_keeps k _) (by simp)

theorem exec_ledgerDump {k : Fin 16} (hqueued : (s.slot k.val).st = .queued) (hkind : (s.slot k.val).kind = 10) (hfree : s.engineFree k.val = true)
    (hfrozen : s.dram.frozen = false) (hdma : s.graph.dma = none) (hargs : (s.slot k.val).args = [w32 i, w32 count, lo32 host, hi32 host])
    (hi : i < 65536) (hcount : count ≤ 65536) {d : DmaWork}
    (hcopied : (timesN State.dumpOne count (s.dumpBegun k.val i count host)).graph.dma = some d) (hplan : d.plan = []) :
    exec (.ledgerDump k count) s = doneCore s ((timesN State.dumpOne count (s.dumpBegun k.val i count host)).dumpEnd k.val d.copied d.first) := by
  have hslot := jobBegin_slot (s := s) k.val
  have hbegin := jobBegin_keeps (s := s) k.val
  have hgraph : (s.jobBegin k.val).graph = s.graph := hbegin.part (p := .graph) (by simp)
  have hdram : (s.jobBegin k.val).dram = s.dram := hbegin.part (p := .dram) (by simp)
  have hledger : (s.jobBegin k.val).ledger = s.ledger := hbegin.part (p := .ledger) (by simp)
  have hfld : fld (w32 i) 15 0 = i := by
    rw [fld, toNat_w32 (by omega)]
    omega
  have hruns : ¬(!(s.jobBegin k.val).runsJob k.val 10 || ((s.jobBegin k.val).slot k.val).fin.isSome) = true := by
    simp [State.runsJob, hslot, hkind]
  have hwork : ({ slot := k.val, chan := 0, plan := (upFrom (fld (nth 0 ((s.jobBegin k.val).slot k.val).args 0) 15 0)
      (nth 0 ((s.jobBegin k.val).slot k.val).args 1).toNat).map (· % 65536), addr := (cat64 (nth 0 ((s.jobBegin k.val).slot k.val).args 3)
      (nth 0 ((s.jobBegin k.val).slot k.val).args 2)).toNat, copied := 0, bytes := 0, first := loN (s.jobBegin k.val).ledger.exe, skipped := 0 } : DmaWork) =
      dumpWork s k.val i count host := by
    rw [hslot, hargs, hledger]
    simp only [nth, hfld, toNat_w32 (show count < 2 ^ 32 by omega), cat64_halves, dumpWork]
  show execLedgerDump k count s = _
  unfold execLedgerDump
  dsimp only
  rw [jobTryBegin_free hqueued hfree, if_neg hruns, if_neg (by simp [hdram, hfrozen]), hwork, if_pos (by simp [hgraph, hdma]), hgraph]
  show doneCore s (match (timesN State.dumpOne count (s.dumpBegun k.val i count host)).graph.dma with | some d => _ | none => _) = _
  rw [hcopied]
  dsimp only
  rw [if_pos (by simp [hplan])]
  rfl

end

/-- Settles O8. -/
theorem ledgerDump : Obligations.LedgerDump := by
  intro s k i count host hqueued hkind hfree hfrozen hclean hdma hargs hi hpos hcount
  have hbegin := jobBegin_keeps (s := s) k.val
  have hdram : (s.jobBegin k.val).dram = s.dram := hbegin.part (p := .dram) (by simp)
  have hgraphB : (s.jobBegin k.val).graph = s.graph := hbegin.part (p := .graph) (by simp)
  have houtB : (s.jobBegin k.val).out = s.out := hbegin.part (p := .out) (by simp)
  have hbegun : keeps [.jobs, .mem, .graph] s (s.dumpBegun k.val i count host) := by
    refine keeps.trans (t := s.jobBegin k.val) (qs := [.graph]) (hbegin.mono (by simp)) ?_ (by simp)
    simp [keeps_iff, State.dumpBegun]
  have hpeek (a n : Nat) : (s.dumpBegun k.val i count host).dramPeek a n = s.dramPeek a n := dramPeek_of_dram hdram a n
  obtain ⟨hout, hgraph, hslot, hkeeps⟩ := dump_all (s := s.dumpBegun k.val i count host) count i (d := dumpWork s k.val i count host)
    ((congrArg DramSt.frozen hdram).trans hfrozen) ((congrArg DramSt.poison hdram).trans hclean) rfl rfl
  have hexec := exec_ledgerDump hqueued hkind hfree hfrozen hdma hargs hi hcount (congrArg GraphSt.dma hgraph) rfl
  have hfull : keeps [.out, .jobs, .mem, .graph] s (timesN State.dumpOne count (s.dumpBegun k.val i count host)) :=
    keeps.trans (hbegun.mono (by simp)) hkeeps (by simp)
  have hslotB : (s.dumpBegun k.val i count host).slot k.val = { s.slot k.val with st := .running, total := 0, error := 0, fin := none } := jobBegin_slot k.val
  have houts : dumpOuts (s.dumpBegun k.val i count host) host.toNat i count =
      (upFrom 0 count).map fun j => .dma (host.toNat + 32 * j) (s.dramPeek (0x1000000 + (i + j) % 65536 * 32) 32) := by
    simp only [dumpOuts, hpeek]
  have hstart : (s.dumpBegun k.val i count host).out = s.out := houtB
  generalize timesN State.dumpOne count (s.dumpBegun k.val i count host) = u at *
  have hcopied : ((dumpWork s k.val i count host).after count).copied = count := Nat.zero_add count
  rw [hcopied] at hexec
  have hran : u.slot k.val = { s.slot k.val with st := .running, total := count, error := 0, fin := none } := by
    have htotal : u.slot k.val = { (s.dumpBegun k.val i count host).slot k.val with
        total := if count = 0 then ((s.dumpBegun k.val i count host).slot k.val).total else 0 + count } := hslot
    rw [htotal, hslotB, if_neg (by omega), Nat.zero_add]
  have hfin := (dumpEnd_slot (s := u) (k := k.val) count (loN s.ledger.exe)).trans (congrArg (fun j : JobSlot => { j with fin := some (0 : Byte) }) hran)
  have hkept := dumpEnd_keeps (s := u) (k := k.val) count (loN s.ledger.exe)
  refine leads_doneCore hexec ⟨?out, congrArg JobSlot.st hfin, congrArg JobSlot.fin hfin, congrArg JobSlot.total hfin, rfl, ?count, ?copied, ?first,
    keeps.answered (keeps.trans hfull hkept (by simp))⟩
  case out => exact (hkept.part (p := .out) (by simp)).trans (hout.trans (by rw [hstart]; exact congrArg (s.out ++ ·) houts))
  case count => exact poolW_resultWrite_count (s := { u with graph := { u.graph with dma := none } }) k.val (ws := [w32 count, loN s.ledger.exe]) (by simp)
  case copied => exact poolW_resultWrite (s := { u with graph := { u.graph with dma := none } }) k.val (ws := [w32 count, loN s.ledger.exe]) (by simp) (i := 0) (by simp)
  case first => exact poolW_resultWrite (s := { u with graph := { u.graph with dma := none } }) k.val (ws := [w32 count, loN s.ledger.exe]) (by simp) (i := 1) (by simp)

end Sys2Proof.Machine
end

section
/-! SUPPORT. Host accesses of registers (R12, R53 to R60): where a register stands, what a write changes, and what a read returns. -/

namespace Sys2Proof.Machine

variable {s t u : State} {b : Block} {r : RegSpec} {v : W32} {addr off i a : Nat}

/-! ## The control and lock registers -/

theorem multiWin_header (h : off < 0x10) (b : Block) (w : Nat) (has : Bool) : multiWin b w off has = (b, off) := if_pos h
/-- The header of a block's window is listed at its own offset, wherever the block stands (R545). -/
theorem locate_header (a : Nat) (h : a % 0x400 / 4 * 4 < 0x10) : (locate a).all (fun p => p.2 == a % 0x400 / 4 * 4) = true := by
  unfold locate
  extract_lets win off
  have hoff : off = a % 0x400 / 4 * 4 := rfl
  rw [← hoff] at h ⊢
  simp only [multiWin_header h]
  clear_value win off
  clear hoff
  simp only [apply_ite (Option.all fun p : Block × Nat => p.2 == off), Option.all_some, Option.all_none, beq_self_eq_true, ite_self]
  split
  · split
    · split <;> exact beq_self_eq_true _
    · simp only [apply_ite Prod.snd, ite_self, beq_self_eq_true]
  · rfl

theorem blkBase_aligned (b : Block) : blkBase b % 0x400 = 0 := by
  cases b with
  | aest n =>
    simp only [blkBase, aestBase]
    split_ifs <;> omega
  | asp n | aesr n | net n | drc n | tile n | ful n =>
    simp only [blkBase]
    omega
  | _ => rfl
/-- A row of the map at a header offset of some block's window. -/
theorem specAt_header (ho : off < 0x10) (h4 : off % 4 = 0) (h : specAt (blkBase b + off) = some r) : ∃ c, findSpec (specsOf c) off = some r := by
  have hb := blkBase_aligned b
  have hoff : (blkBase b + off) % 0x400 / 4 * 4 = off := by omega
  have hl := locate_header (blkBase b + off) (by omega)
  unfold specAt at h
  rw [hoff] at hl
  cases hx : locate (blkBase b + off) with
  | none => rw [hx] at h; cases h
  | some p =>
    rw [hx] at h hl
    exact ⟨p.1, by rw [← beq_iff_eq.mp hl]; exact h⟩
theorem findSpec_ctl (c : Block) : (findSpec (specsOf c) 4).all (fun r => r.cfg == 0) = true := by cases c <;> rfl
theorem findSpec_lock (c : Block) : (findSpec (specsOf c) 0xC).all (fun r => r.lk == 0) = true := by cases c <;> rfl
/-- A control register has no CFG field (R12). -/
theorem cfg_of_ctl (h : specAt (blkBase b + 4) = some r) : r.cfg = 0 := by
  obtain ⟨c, hc⟩ := specAt_header (by decide) (by decide) h
  have := findSpec_ctl c
  rw [hc] at this
  exact beq_iff_eq.mp this
/-- A LOCK register has no LK field (R12). -/
theorem lk_of_lock (h : specAt (blkBase b + 0xC) = some r) : r.lk = 0 := by
  obtain ⟨c, hc⟩ := specAt_header (by decide) (by decide) h
  have := findSpec_lock c
  rw [hc] at this
  exact beq_iff_eq.mp this

/-! ## Host writes of registers -/

theorem hostWrite_word (hit : WriteHit) (ha : addr < 0x240000) (hm : s.msixAt addr = false) :
    s.hostWrite addr .word v hit = s.regWrite 0 (addr / 4 * 4) v := by
  unfold State.hostWrite
  rw [if_pos ha, if_neg (by simp [hm]), if_pos rfl]
theorem regWrite_of_locate (hl : locate addr = some (b, off)) (hb : b ≠ .hwd ∨ s.fit.variantA = true) (hsil : s.hwSilent b = false)
    (hg : s.granted (classAt (blkBase b + off)) = true ∨ blkBase b + off = PRS_RESEAL) : s.regWrite 0 addr v = s.blockWrite 0 b off v := by
  unfold State.regWrite
  simp only [hl]
  rw [if_neg (by rintro ⟨h1, h2⟩; rcases hb with hb | hb; exacts [hb h1, by simp [hb] at h2]),
    if_neg (by rintro ⟨_, h1, h2⟩; rcases hg with hg | hg; exacts [by simp [hg] at h2, h1 hg]), if_neg (by simp [hsil])]
theorem regWrite_denied (hl : locate addr = some (b, off)) (hb : b ≠ .hwd ∨ s.fit.variantA = true) (hne : blkBase b + off ≠ PRS_RESEAL)
    (hg : s.granted (classAt (blkBase b + off)) = false) : s.regWrite 0 addr v = s.deny (classAt (blkBase b + off)) 0 addr := by
  unfold State.regWrite
  simp only [hl]
  rw [if_neg (by rintro ⟨h1, h2⟩; rcases hb with hb | hb; exacts [hb h1, by simp [hb] at h2]), if_pos (by simp [hne, hg])]
theorem blockWrite_side (hspec : specAt (blkBase b + off) = some r) (hlk : r.lk = 0 ∨ s.locked b = false) (hd : dumb b off v = false)
    (hbad : s.badArg b off v = none) (hside : s.sideWrite 0 b off v = some u) : s.blockWrite 0 b off v = u := by
  have hheld : (r.lk != 0 && s.locked b) = false := by rcases hlk with h | h <;> simp [h]
  unfold State.blockWrite
  simp only [hspec, hheld, hbad, hside]
  rw [if_neg (by simp [hd])]
  rfl
theorem blockWrite_plain (hspec : specAt (blkBase b + off) = some r) (hd : dumb b off v = false) (hbad : s.badArg b off v = none)
    (hside : s.sideWrite 0 b off v = none) (htaken : s.taken b off v = v) : s.blockWrite 0 b off v = s.plainWrite b (blkBase b + off) r v := by
  unfold State.blockWrite
  simp only [hspec, hbad, hside, htaken, ite_self]
  rw [if_neg (by simp [hd])]
theorem hostWrite_plain (hit : WriteHit) (h : plainPlace s addr b off r v) : s.hostWrite addr .word v hit = s.plainWrite b (blkBase b + off) r v := by
  obtain ⟨ha, hm, hl, hspec, hb, hsil, hg, hside, hd, hbad, htaken⟩ := h
  rw [hostWrite_word hit ha hm, regWrite_of_locate hl hb hsil (.inl hg), blockWrite_plain hspec hd hbad hside htaken]

/-- What a write leaves of a register's bits, by the mask of the bits that take the value (R12). -/
theorem bitOf_written (old v m : W32) (r : RegSpec) (hi : i < 32) : bitOf (written old v m r) i =
    ((((bitOf old i && !bitOf m i) || (bitOf v i && bitOf m i)) && !(bitOf v i && bitOf r.w1c i)) || (bitOf v i && bitOf r.w1s i)) := by
  simp only [written, bitOf_or, bitOf_and, bitOf_not _ hi]
theorem writable_free (hc : r.cfg = 0 ∨ s.enabled b = false) (hl : r.lk = 0 ∨ s.locked b = false) : s.writable b r = r.rw ||| r.cfg ||| r.lk := by
  have h1 : (if s.enabled b then 0 else r.cfg) = r.cfg := by rcases hc with h | h <;> simp [h]
  have h2 : (if s.locked b then 0 else r.lk) = r.lk := by rcases hl with h | h <;> simp [h]
  rw [State.writable, h1, h2]

/-- A write of a register as the host makes it, with its mark for the configuration CRC, before what is ignored is recorded. -/
def State.stored (s : State) (b : Block) (a : Nat) (r : RegSpec) (v : W32) : State :=
  let t := s.wr a (written (s.rd a) v (s.writable b r) r)
  t.when ((t.rd a ^^^ s.rd a) &&& r.cfg != 0) (·.modSys (fun y => { y with cfgDirty := true }))
theorem plainWrite_eq (b : Block) (a : Nat) (r : RegSpec) (v : W32) : s.plainWrite b a r v = (s.stored b a r v).ignored b r := rfl
theorem when_modSys_rd (c : Bool) (f : SysSt → SysSt) (a : Nat) : (s.when c (·.modSys f)).rd a = s.rd a := by cases c <;> rfl
theorem stored_rd_same (b : Block) (a : Nat) (r : RegSpec) (v : W32) : (s.stored b a r v).rd a = written (s.rd a) v (s.writable b r) r := by
  rw [State.stored, when_modSys_rd, rd_wr_same]
theorem stored_rd_ne {x : Nat} (b : Block) (r : RegSpec) (v : W32) (h : x ≠ a) : (s.stored b a r v).rd x = s.rd x := by
  rw [State.stored, when_modSys_rd, rd_wr_ne _ _ h]
theorem stored_sys (b : Block) (a : Nat) (r : RegSpec) (v : W32) : (s.stored b a r v).sys = { s.sys with cfgDirty := (s.stored b a r v).sys.cfgDirty } := by
  unfold State.stored State.when
  dsimp only
  split_ifs <;> rfl
theorem stored_keeps (b : Block) (a : Nat) (r : RegSpec) (v : W32) : keeps [.regs, .sys] s (s.stored b a r v) := by
  unfold State.stored State.when
  dsimp only
  split_ifs <;> simp [keeps_iff]
theorem stored_enabled (h : specAt (blkBase b + off) = some r) (hc : r.cfg ≠ 0) : (s.stored b (blkBase b + off) r v).enabled b = s.enabled b :=
  bit_of_rd (stored_rd_ne b r v fun ha => hc (cfg_of_ctl (by rw [ha]; exact h)))
theorem stored_locked (h : specAt (blkBase b + off) = some r) (hl : r.lk ≠ 0) : (s.stored b (blkBase b + off) r v).locked b = s.locked b :=
  bit_of_rd (stored_rd_ne b r v fun ha => hl (lk_of_lock (by rw [ha]; exact h)))
theorem ignored_free (hc : r.cfg = 0 ∨ s.enabled b = false) (hl : r.lk = 0 ∨ s.locked b = false) : s.ignored b r = s := by
  have h1 : (r.cfg != 0 && s.enabled b) = false := by rcases hc with h | h <;> simp [h]
  have h2 : (r.lk != 0 && s.locked b) = false := by rcases hl with h | h <;> simp [h]
  unfold State.ignored State.when
  rw [h1, if_neg Bool.false_ne_true, h2, if_neg Bool.false_ne_true]
theorem plainWrite_free (hspec : specAt (blkBase b + off) = some r) (hc : r.cfg = 0 ∨ s.enabled b = false) (hl : r.lk = 0 ∨ s.locked b = false) :
    s.plainWrite b (blkBase b + off) r v = s.stored b (blkBase b + off) r v := by
  rw [plainWrite_eq]
  refine ignored_free ?_ ?_
  · by_cases h : r.cfg = 0
    · exact .inl h
    · exact .inr ((stored_enabled hspec h).trans (hc.resolve_left h))
  · by_cases h : r.lk = 0
    · exact .inl h
    · exact .inr ((stored_locked hspec h).trans (hl.resolve_left h))
theorem stored_bit (hc : r.cfg = 0 ∨ s.enabled b = false) (hl : r.lk = 0 ∨ s.locked b = false) (hi : i < 32) :
    (s.stored b a r v).bit a i = ((((s.bit a i && !bitOf (r.rw ||| r.cfg ||| r.lk) i) || (bitOf v i && bitOf (r.rw ||| r.cfg ||| r.lk) i)) &&
      !(bitOf v i && bitOf r.w1c i)) || (bitOf v i && bitOf r.w1s i)) := by
  rw [show (s.stored b a r v).bit a i = bitOf ((s.stored b a r v).rd a) i from rfl, stored_rd_same, bitOf_written _ _ _ _ hi, writable_free hc hl]
  rfl

theorem hostWrite_pool (h1 : 0x1000000 ≤ addr) (h2 : addr < 0x2000000) (ht : s.underTest 0 = false) (w : Width) (v : W32) (hit : WriteHit) :
    s.hostWrite addr w v hit = s.poolWr (widthAlign w (addr - 0x1000000)) (leBytes (widthBytes w) v.toNat) := by
  unfold State.hostWrite
  rw [if_neg (by omega), if_neg (by omega), if_pos h2, if_neg (by simp [ht])]

/-! ## O10: host writes -/

/-- Settles O10: a register's write by the rules of R12 stores the word that the kinds of its bits give, and its CTL and LOCK words hold no field that they guard. -/
theorem registerWrite : Obligations.RegisterWrite := by
  intro s u addr off i b r v hup
  have hexec : ∀ t, s.hostWrite addr .word v cleanWrite = t → exec (.registerWrite addr v) s = done s t := fun t ht => by
    rw [← ht, ← byHost_up hup fun s => s.hostWrite addr .word v cleanWrite]; rfl
  refine ⟨fun hp hc hl hi => ?_, fun ha hm hloc hspec hlk hb hsil hg hd hbad hside => ?_, fun h1 h2 ht => ?_⟩
  · obtain ⟨ha, hm, hloc, hspec, hrest⟩ := hp
    refine leads_done (hexec _ ((hostWrite_plain cleanWrite ⟨ha, hm, hloc, hspec, hrest⟩).trans (plainWrite_free hspec hc hl))) ?_
    have hbit := stored_bit (s := s) (b := b) (a := blkBase b + off) (v := v) hc hl hi
    generalize hx : s.stored b (blkBase b + off) r v = x at hbit
    simp only [bitOf_or, Bool.or_eq_true, Bool.or_eq_false_iff] at hbit ⊢
    refine ⟨fun h1 h2 => hbit.trans ?_, fun h1 h2 => hbit.trans ?_, fun h1 h2 => hbit.trans ?_, fun h1 => hbit.trans ?_, ?_, ?_, ?_⟩
    · have hm : ((bitOf r.rw i || bitOf r.cfg i) || bitOf r.lk i) = true := by simpa only [Bool.or_eq_true] using h1
      rw [hm, h2.1, h2.2]
      simp
    · simp [h1, h2]
    · simp [h1, h2]
    · simp [h1]
    · exact fun c hc' => (congrArg (State.rd · c) hx.symm).trans (stored_rd_ne b r v (fun h => hc' (List.mem_singleton.mpr h)))
    · rw [← hx]; exact stored_sys b _ r v
    · rw [← hx]; exact ((stored_keeps b _ r v).mono (by simp)).answered_cores (by simp) _
  · exact leads_done (hexec _ ((hostWrite_word cleanWrite ha hm).trans ((regWrite_of_locate hloc hb hsil hg).trans (blockWrite_side hspec hlk hd hbad hside)))) rfl
  · exact leads_done (hexec _ (hostWrite_pool h1 h2 ht .word v cleanWrite)) ⟨rfl, keeps.answered_cores (t := s.poolWr _ _) (by simp [keeps_iff, State.poolWr]) (by simp) _⟩

/-! ## What a protected field's write records -/

theorem evtReg_header {a : Nat} (hb : a % 0x400 < 0x10) (hne : a ≠ MON_STAT) : evtReg a = false := by
  simp only [evtReg, Bool.or_eq_false_iff, Bool.and_eq_false_iff, decide_eq_false_iff_not, beq_eq_false_iff_ne, EVT_LAST, EVT_LAST_TICK, EVT_COUNT,
    MON_TRACE_DROP, MON_STAT] at hne ⊢
  omega
theorem record_stat (k : Nat) (l : List Byte) (hi : i < 32) (h : s.bit MON_STAT i = true) : (s.record k l).bit MON_STAT i = true := by
  unfold State.record
  split_ifs
  · exact h
  · rw [bit_flag _ _ _ hi, State.count, bit_wr_ne _ _ _ (by decide)]
    simp only [Bool.or_eq_true]
    exact .inr h
  · exact h
theorem pend_stat (e : Nat) (h : s.bit MON_STAT i = true) : (s.pend e).bit MON_STAT i = true := by
  by_cases he : s.eventHere e = true
  · have hne : MON_STAT ≠ EVT_PEND (e / 32) := by
      have := eventHere_lt s he
      simp only [MON_STAT, EVT_PEND]
      omega
    refine (bit_of_rd ?_).trans h
    rw [rd_of_regs (pend_regs s e he)]
    simp only [flag_regs_only, count_regs_only]
    rw [rd_wr_ne _ _ (by decide), rd_wr_ne _ _ (by decide), rd_wr_ne _ _ (by decide), rd_wr_ne _ _ hne]
  · unfold State.pend
    rw [if_neg he]
    exact h
theorem recEvent_stat (e : Nat) (hi : i < 32) (h : s.bit MON_STAT i = true) : (s.recEvent e).bit MON_STAT i = true := by
  unfold State.recEvent
  split_ifs
  · exact record_stat _ _ hi h
  · exact h
/-- Raising an event clears no bit of a block's STAT word, of the monitor's neither, which a dropped record sets a bit of. -/
theorem raise_stat_mono (e : Nat) (ha : a % 0x400 = 8) (hi : i < 32) (h : s.bit a i = true) : (s.raise e).bit a i = true := by
  by_cases hm : a = MON_STAT
  · subst hm
    unfold State.raise
    split_ifs
    · exact h
    · have h2 := recEvent_stat e hi (pend_stat e h)
      unfold State.raiseDrop
      split_ifs
      · exact h2
      · exact h2
      · exact recEvent_stat 125 hi (pend_stat 125 h2)
  · rw [bit_raise (evtReg_header (by omega) hm)]
    exact h
theorem flagRaise_stat (b : Block) (i e : Nat) (hi : i < 32) : (s.flagRaise (blkBase b + 8) i e).bit (blkBase b + 8) i = true :=
  raise_stat_mono e (by have := blkBase_aligned b; omega) hi (bit_flag_self hi)
theorem flagRaise_stat_mono {j : Nat} (b : Block) (i e : Nat) (hj : j < 32) (h : s.bit (blkBase b + 8) j = true) :
    (s.flagRaise (blkBase b + 8) i e).bit (blkBase b + 8) j = true :=
  raise_stat_mono e (by have := blkBase_aligned b; omega) hj (by rw [bit_flag _ _ _ hj, h, Bool.or_true])

theorem when_flagRaise_regsKeep (c : Bool) (x i e : Nat) : regsKeep [x] s (s.when c (·.flagRaise x i e)) := by
  cases c
  · exact regsKeep.refl _ _
  · exact (regsKeep.refl _ _).flagRaise (by simp)
theorem when_flagRaise_only (c : Bool) (x i e : Nat) : evtOnly s (s.when c (·.flagRaise x i e)) := by
  cases c
  · exact evtOnly_refl _
  · exact flagRaise_only _ _ _ _
theorem ignored_regsKeep (b : Block) (r : RegSpec) : regsKeep [blkBase b + 8] s (s.ignored b r) :=
  (when_flagRaise_regsKeep _ _ _ _).trans (when_flagRaise_regsKeep _ _ _ _)
theorem ignored_only (b : Block) (r : RegSpec) : evtOnly s (s.ignored b r) := (when_flagRaise_only _ _ _ _).trans (when_flagRaise_only _ _ _ _)
theorem raised.stat {e : Nat} (h : raised e s t) (b : Block) (i k : Nat) : raised e s (t.flagRaise (blkBase b + 8) i k) := fun hhere hup => by
  have hlt := eventHere_lt s hhere
  have hb := blkBase_aligned b
  have hne : EVT_PEND (e / 32) ≠ blkBase b + 8 := by
    simp only [EVT_PEND]
    omega
  exact raise_pends_mono _ _ _ hlt ((congrArg (bitOf · _) (rd_wr_ne t _ hne)).trans (h hhere hup))
/-- A CFG field that was written while CTL.ENABLE is 1 (R12). -/
theorem ignored_cfg (hc : r.cfg ≠ 0) (he : s.enabled b = true) : (s.ignored b r).bit (blkBase b + 8) 31 = true ∧ raised 6 s (s.ignored b r) := by
  have h1 : s.when (r.cfg != 0 && s.enabled b) (·.cfgIgnored b) = s.cfgIgnored b := if_pos (by rw [he, Bool.and_true]; exact bne_iff_ne.mpr hc)
  have hr : raised 6 s (s.cfgIgnored b) := raised_flagRaise rfl rfl
  have hbit : (s.cfgIgnored b).bit (blkBase b + 8) 31 = true := flagRaise_stat b 31 6 (by decide)
  unfold State.ignored
  rw [h1]
  generalize s.cfgIgnored b = t at hr hbit
  unfold State.when
  split_ifs
  · exact ⟨flagRaise_stat_mono b 30 7 (by decide) hbit, hr.stat b 30 7⟩
  · exact ⟨hbit, hr⟩
/-- An LK field that was written while LOCK is 1 (R12, R57). -/
theorem ignored_lk (hl : r.lk ≠ 0) (he : s.locked b = true) : (s.ignored b r).bit (blkBase b + 8) 30 = true ∧ raised 7 s (s.ignored b r) := by
  unfold State.ignored
  have honly : evtOnly s (s.when (r.cfg != 0 && s.enabled b) (·.cfgIgnored b)) := when_flagRaise_only _ _ _ _
  rw [show (r.lk != 0 && s.locked b) = true by rw [he, Bool.and_true]; exact bne_iff_ne.mpr hl]
  generalize s.when (r.cfg != 0 && s.enabled b) (·.cfgIgnored b) = t at honly
  exact ⟨flagRaise_stat b 30 7 (by decide), raised_flagRaise honly.fit honly.sys_answering⟩

/-! ## O11: protected writes -/

/-- A field whose bits the write leaves alone keeps them, whatever else the register holds. -/
theorem stored_bit_held (hm : bitOf (s.writable b r) i = false) (h1 : bitOf r.w1c i = false) (h2 : bitOf r.w1s i = false) (hi : i < 32) :
    (s.stored b a r v).bit a i = s.bit a i := by
  rw [show (s.stored b a r v).bit a i = bitOf ((s.stored b a r v).rd a) i from rfl, stored_rd_same, bitOf_written _ _ _ _ hi, hm, h1, h2]
  simp [State.bit]
theorem bitOf_writable (b : Block) (r : RegSpec) (i : Nat) :
    bitOf (s.writable b r) i = (bitOf r.rw i || (!s.enabled b && bitOf r.cfg i) || (!s.locked b && bitOf r.lk i)) := by
  have hite (c : Bool) (w : W32) : bitOf (if c then 0 else w) i = (!c && bitOf w i) := by cases c <;> simp [bitOf]
  rw [State.writable, bitOf_or, bitOf_or, hite, hite]
theorem plainWrite_bit (h8 : off ≠ 8) (hevt : evtReg (blkBase b + off) = false) (hm : bitOf (s.writable b r) i = false) (h1 : bitOf r.w1c i = false)
    (h2 : bitOf r.w1s i = false) (hi : i < 32) : (s.plainWrite b (blkBase b + off) r v).bit (blkBase b + off) i = s.bit (blkBase b + off) i :=
  (bit_of_rd (ignored_regsKeep b r _ (by simp [h8]) hevt)).trans (stored_bit_held hm h1 h2 hi)
theorem plainWrite_regsKeep : regsKeep [blkBase b + 8, blkBase b + off] s (s.plainWrite b (blkBase b + off) r v) :=
  regsKeep.trans (t := s.stored b (blkBase b + off) r v) (fun _ ha _ => stored_rd_ne b r v fun h => ha (by simp [h])) ((ignored_regsKeep b r).mono (by simp))
theorem plainWrite_keeps (b : Block) (a : Nat) : keeps [.regs, .cores, .out, .mon, .sys] s (s.plainWrite b a r v) :=
  ((stored_keeps b a r v).mono (by simp)).evt (by simp) (ignored_only b r)
theorem raised.stored {e : Nat} (h : raised e (s.stored b a r v) t) : raised e s t := fun hhere hup =>
  h ((congrArg (fun f => !eventReserved e && (f.variantA || !(decide (108 ≤ e) && decide (e ≤ 119)))) (stored_keeps b a r v).2.1 :).trans hhere)
    (by rw [stored_sys]; exact hup)

/-- Settles O11: a plain write's mask leaves out the held fields, and what it records goes to the block's STAT word, which the write itself does not reach. -/
theorem protectedWrite : Obligations.ProtectedWrite := by
  intro s addr off b r v hup
  have hexec : ∀ t, s.hostWrite addr .word v cleanWrite = t → exec (.registerWrite addr v) s = done s t := fun t ht => by
    rw [← ht, ← byHost_up hup fun s => s.hostWrite addr .word v cleanWrite]; rfl
  refine ⟨fun hp h8 hevt hc he => ?_, fun hp h8 hevt hl he => ?_, fun ha hm hloc hb hne hg => ?_⟩
  · have hspec : specAt (blkBase b + off) = some r := by obtain ⟨-, -, -, hspec, -⟩ := hp; exact hspec
    obtain ⟨hbit, hraised⟩ := ignored_cfg hc ((stored_enabled (v := v) hspec hc).trans he)
    refine leads_done (hexec _ (hostWrite_plain cleanWrite hp)) ⟨fun i h1 h2 => ?_, hbit, hraised.stored, plainWrite_regsKeep,
      (plainWrite_keeps b _).answered_cores (by simp) _⟩
    simp only [bitOf_or, Bool.or_eq_false_iff] at h2
    exact plainWrite_bit h8 hevt (by simp [bitOf_writable, he, h2]) h2.1.2 h2.2 i.isLt
  · have hspec : specAt (blkBase b + off) = some r := by obtain ⟨-, -, -, hspec, -⟩ := hp; exact hspec
    obtain ⟨hbit, hraised⟩ := ignored_lk hl ((stored_locked (v := v) hspec hl).trans he)
    refine leads_done (hexec _ (hostWrite_plain cleanWrite hp)) ⟨fun i h1 h2 => ?_, hbit, hraised.stored, plainWrite_regsKeep,
      (plainWrite_keeps b _).answered_cores (by simp) _⟩
    simp only [bitOf_or, Bool.or_eq_false_iff] at h2
    exact plainWrite_bit h8 hevt (by simp [bitOf_writable, he, h2]) h2.1.2 h2.2 i.isLt
  · obtain ⟨hcount, hstat, hregs⟩ := deny_refuses (s := s) (classAt (blkBase b + off)) 0 (addr / 4 * 4)
    exact leads_done (hexec _ ((hostWrite_word cleanWrite ha hm).trans (regWrite_denied hloc hb hne hg)))
      ⟨hcount, hstat, hregs, ((deny_only s _ _ _).keeps.mono (by simp)).answered_cores (by simp) _⟩

/-! ## O12: host reads -/

theorem hostReadOut_reg (hit : ReadHit) (ha : addr < 0x240000) (hm : s.msixAt addr = false) :
    s.hostReadOut addr hit = (s.hostReg addr).1.answer (narrow hit.width addr (s.hostReg addr).2) := by
  simp only [State.hostReadOut, State.hostRead, if_pos ha, hm, Bool.false_eq_true, if_false]
theorem hostReg_of_locate (hl : locate addr = some (b, off)) (hsil : s.hwSilent b = false) (hb : b ≠ .hwd ∨ off ≠ 0x30)
    (hph : readsPhase (blkBase b + off) = false) : s.hostReg addr =
    (({ s with sys := { s.sys with capHost := s.capture s.sys.capHost b off } }).clearRc b off, s.seen s.sys.capHost b off) := by
  simp only [State.hostReg, hl, hsil, Bool.false_eq_true, if_false, hph]
  rw [if_neg (by rintro ⟨h1, h2, -⟩; exact hb.elim (absurd h1) (absurd h2))]
  rfl
theorem clearRc_keeps (hspec : specAt (blkBase b + off) = some r) (hrc : r.rc = false) : s.clearRc b off = s := by
  simp only [State.clearRc, hspec, hrc, Bool.false_eq_true, if_false]
theorem clearRc_clears (hspec : specAt (blkBase b + off) = some r) (hrc : r.rc = true) (h1 : blkBase b + off ≠ TRK_WAIT_MAX) (h2 : blkBase b + off ≠ PWD_OCC) :
    s.clearRc b off = s.unwr (blkBase b + off) := by
  simp only [State.clearRc, hspec, hrc, if_true, if_neg h1, if_neg h2]
theorem unwr_rd_same (a : Nat) : (s.unwr a).rd a = resetVal a := spGet_spDel_same _ _ _
theorem unwr_rd_ne {x : Nat} (h : x ≠ a) : (s.unwr a).rd x = s.rd x := spGet_spDel_ne _ _ h
theorem capture_none (cap : Sparse W32) (h : capturesOf b off = []) : s.capture cap b off = cap := by rw [State.capture, h]; rfl
theorem capture_sys_none (h : capturesOf b off = []) : { s with sys := { s.sys with capHost := s.capture s.sys.capHost b off } } = s := by
  rw [capture_none _ h]
theorem seen_captured (cap : Sparse W32) (h : capturedWord b off = true) : s.seen cap b off = spGet (resetVal (blkBase b + off)) cap (blkBase b + off) := if_pos h
theorem seen_shown (cap : Sparse W32) (h : capturedWord b off = false) : s.seen cap b off = s.regShow b off := if_neg (by simp [h])
/-- The capture of a word holds what its registers show, and it leaves the others. -/
theorem spGet_fold_captured (f : Nat → W32) (os : List Nat) (hnd : os.Nodup) (m : Sparse W32) (o : Nat) :
    spGet 0 (foldS (fun m o => spPut m (blkBase b + o) (f o)) m os) (blkBase b + o) = if o ∈ os then f o else spGet 0 m (blkBase b + o) := by
  induction os generalizing m with
  | nil => rfl
  | cons k ks ih =>
    obtain ⟨hk, hks⟩ := List.nodup_cons.mp hnd
    rw [show foldS (fun m o => spPut m (blkBase b + o) (f o)) m (k :: ks) =
      foldS (fun m o => spPut m (blkBase b + o) (f o)) (spPut m (blkBase b + k) (f k)) ks from rfl, ih hks]
    by_cases h : o = k
    · subst h
      rw [if_neg hk, if_pos (by simp), spGet_spPut_same]
    · simp only [List.mem_cons, h, false_or]
      rw [spGet_spPut_ne _ _ _ (by omega)]

/-- Settles O12: a read shows the register, or the host's capture, and then clears what an RC register holds. -/
theorem registerRead : Obligations.RegisterRead := by
  intro s addr off b r hit hup ha hm hloc hsil hb hph
  have hread (hit : ReadHit) : s.hostReadOut addr hit =
      (({ s with sys := { s.sys with capHost := s.capture s.sys.capHost b off } }).clearRc b off).answer
        (narrow hit.width addr (s.seen s.sys.capHost b off)) := by
    rw [hostReadOut_reg hit ha hm, hostReg_of_locate hloc hsil hb hph]
  have hmulti : exec (.multiwordCaptureRead addr) s = doneCore s (s.hostReadOut addr (cleanRead .word)) := by
    rw [← byHost_up hup fun s => s.hostReadOut addr (cleanRead .word)]; rfl
  have hrcread : exec (.rcRegisterRead addr hit) s = doneCore s (s.hostReadOut addr hit) := by
    rw [← byHost_up hup fun s => s.hostReadOut addr hit]; rfl
  refine ⟨fun hspec hrc hword hcap h1 h2 => ?_, fun hspec hrc hword hnd => ?_, fun hspec hrc hword hcap => ?_⟩
  · rw [hread, capture_sys_none hcap, clearRc_clears hspec hrc h1 h2, seen_shown _ hword] at hrcread
    exact leads_doneCore hrcread ⟨rfl, unwr_rd_same _, fun x hx => unwr_rd_ne fun h => hx (by simp [h]),
      keeps.answered (t := (s.unwr _).answer _) (by simp [keeps_iff, State.unwr, State.answer, State.emit])⟩
  · rw [hread, clearRc_keeps hspec hrc, seen_shown _ hword] at hmulti
    refine leads_doneCore hmulti ⟨rfl, fun o ho => ?_, rfl, keeps.answered
      (t := State.answer { s with sys := { s.sys with capHost := s.capture s.sys.capHost b off } } _) (by simp [keeps_iff, State.answer, State.emit])⟩
    exact (spGet_fold_captured (s.regVal b) (capturesOf b off) hnd s.sys.capHost o).trans (if_pos ho)
  · rw [hread, capture_sys_none hcap, clearRc_keeps hspec hrc, seen_captured _ hword] at hmulti
    exact leads_doneCore hmulti rfl

/-! ## O13: narrow and unmapped accesses -/

/-- What an access outside mapped space records (R53). -/
theorem unmappedAt_keeps (addr : Nat) : keeps [.regs, .out, .mon, .sys] s (s.unmappedAt addr) :=
  ((evtOnly_wr _ _ _).trans ((evtOnly_wr _ _ _).trans (raise_only _ 5))).keeps
theorem unmappedAt_records (addr : Nat) : (s.unmappedAt addr).bit SYS_STAT 1 = true ∧ (s.unmappedAt addr).rd SYS_UNMAP_ADDR = w32 addr ∧
    raised 5 s (s.unmappedAt addr) ∧ regsKeep [SYS_STAT, SYS_UNMAP_ADDR] s (s.unmappedAt addr) := by
  refine ⟨?_, ?_, raised_raise rfl rfl, (((regsKeep.refl _ _).flag (by simp)).wr (by simp)).raise⟩
  · exact (bit_raise rfl).trans ((bit_wr_ne _ _ _ (by decide)).trans (bit_flag_self (by decide)))
  · exact (raise_rd _ 5 rfl).trans (rd_wr_same _ _ _)
/-- What a narrow write of a register records (R54), before it is found to be unmapped. -/
def State.narrowed (s : State) (addr : Nat) : State := ((s.flag SYS_STAT 0).wr SYS_NARROW_ADDR (w32 addr)).raise 4
theorem narrowed_keeps (addr : Nat) : keeps [.regs, .out, .mon, .sys] s (s.narrowed addr) :=
  ((evtOnly_wr _ _ _).trans ((evtOnly_wr _ _ _).trans (raise_only _ 4))).keeps
theorem narrowed_records (addr : Nat) : (s.narrowed addr).bit SYS_STAT 0 = true ∧ (s.narrowed addr).rd SYS_NARROW_ADDR = w32 addr ∧
    raised 4 s (s.narrowed addr) ∧ regsKeep [SYS_STAT, SYS_NARROW_ADDR] s (s.narrowed addr) := by
  refine ⟨?_, ?_, raised_raise rfl rfl, (((regsKeep.refl _ _).flag (by simp)).wr (by simp)).raise⟩
  · exact (bit_raise rfl).trans ((bit_wr_ne _ _ _ (by decide)).trans (bit_flag_self (by decide)))
  · exact (raise_rd _ 4 rfl).trans (rd_wr_same _ _ _)
theorem narrowAt_mapped (h : locate addr ≠ none) : s.narrowAt addr = s.narrowed addr := by
  have : (locate addr).isNone = false := by rw [← Bool.not_eq_true, Option.isNone_iff_eq_none]; exact h
  unfold State.narrowAt
  simp only [this, Bool.false_and, Bool.false_eq_true, if_false]
  rfl
theorem narrowAt_unmapped (h : locate addr = none) (hm : s.msixAt addr = false) : s.narrowAt addr = (s.narrowed addr).unmappedAt addr := by
  unfold State.narrowAt
  simp only [h, hm, Option.isNone_none, Bool.not_false, Bool.and_self, if_true]
  rfl
theorem narrowed_unmappedAt_records (addr : Nat) : ((s.narrowed addr).unmappedAt addr).bit SYS_STAT 0 = true ∧
    ((s.narrowed addr).unmappedAt addr).rd SYS_NARROW_ADDR = w32 addr ∧ raised 4 s ((s.narrowed addr).unmappedAt addr) ∧
    raised 5 s ((s.narrowed addr).unmappedAt addr) := by
  obtain ⟨hbit, hrd, hraised, -⟩ := narrowed_records (s := s) addr
  have hsame := raise_only ((s.flag SYS_STAT 0).wr SYS_NARROW_ADDR (w32 addr)) 4
  refine ⟨?_, ?_, ((hraised.wr rfl).wr rfl).raise, raised_raise hsame.fit hsame.sys_answering⟩
  · refine (bit_raise rfl).trans ((bit_wr_ne _ _ _ (by decide)).trans ?_)
    rw [bit_flag _ _ _ (by decide), hbit, Bool.or_true]
  · exact (raise_rd _ 5 rfl).trans ((rd_wr_ne _ _ (by decide)).trans ((rd_wr_ne _ _ (by decide)).trans hrd))
theorem hostWrite_narrow {w : Width} (hit : WriteHit) (ha : addr < 0x240000) (hm : s.msixAt addr = false) (hw : w ≠ .word) :
    s.hostWrite addr w v hit = s.narrowAt addr := by
  unfold State.hostWrite
  rw [if_pos ha, if_neg (by simp [hm]), if_neg hw]
theorem hostWrite_nowhere (hit : WriteHit) (h4 : addr % 4 = 0) (h : nowhere s true addr) : s.hostWrite addr .word v hit = s.unmappedAt addr := by
  unfold State.hostWrite
  rcases h with ⟨ha, hm, hl⟩ | ⟨h1, h2⟩ | ⟨h1, h2⟩ | ⟨-, h1, h2⟩ | h1
  · rw [if_pos ha, if_neg (by simp [hm]), if_pos rfl, State.regWrite, show addr / 4 * 4 = addr by omega, hl]
    rfl
  · rw [if_neg (by omega), if_pos h2]
  · rw [if_neg (by omega), if_neg (by omega), if_neg (by omega), if_neg (by omega), if_pos h2]
  · rw [if_neg (by omega), if_neg (by omega), if_neg (by omega), if_neg (by omega), if_neg (by omega), if_neg (by omega), if_pos h2]
  · rw [if_neg (by omega), if_neg (by omega), if_neg (by omega), if_neg (by omega), if_neg (by omega), if_neg (by omega), if_neg (by omega), if_neg (by omega)]
theorem hostReadOut_nowhere (h : nowhere s false addr) : s.hostReadOut addr (cleanRead .word) = (s.unmappedAt addr).answer 0 := by
  rcases h with ⟨ha, hm, hl⟩ | ⟨h1, h2⟩ | ⟨h1, h2⟩ | ⟨h0, -, -⟩ | h1
  · rw [hostReadOut_reg _ ha hm, State.hostReg, hl]
    rfl
  · simp only [State.hostReadOut, State.hostRead, if_neg (show ¬ addr < 0x240000 by omega), if_pos h2]
    rfl
  · simp only [State.hostReadOut, State.hostRead, if_neg (show ¬ addr < 0x240000 by omega), if_neg (show ¬ addr < 0x1000000 by omega),
      if_neg (show ¬ addr < 0x2000000 by omega), if_neg (show ¬ addr < 0x3000000 by omega), if_pos h2]
    rfl
  · cases h0
  · simp only [State.hostReadOut, State.hostRead, if_neg (show ¬ addr < 0x240000 by omega), if_neg (show ¬ addr < 0x1000000 by omega),
      if_neg (show ¬ addr < 0x2000000 by omega), if_neg (show ¬ addr < 0x3000000 by omega), if_neg (show ¬ addr < 0x4000000 by omega),
      if_neg (show ¬ addr < 0xC000000 by omega), if_neg (show ¬ addr < 0x10000000 by omega)]
    rfl

/-- Settles O13: a narrow write of a register and an access outside mapped space only record themselves; the pool takes any width. -/
theorem narrowAndUnmapped : Obligations.NarrowAndUnmapped := by
  intro s addr w v hup
  have hexec : ∀ t, s.hostWrite addr w v cleanWrite = t → exec (.narrowWrite addr w v) s = done s t := fun t ht => by
    rw [← ht, ← byHost_up hup fun s => s.hostWrite addr w v cleanWrite]; rfl
  refine ⟨fun ha hm hl hw => ?_, fun h1 h2 ht => ?_, fun ha hm hl hw => ?_, fun h4 hno => ?_, fun hno => ?_⟩
  · obtain ⟨hbit, hrd, hraised, hregs⟩ := narrowed_records (s := s) addr
    exact leads_done (hexec _ ((hostWrite_narrow cleanWrite ha hm hw).trans (narrowAt_mapped hl)))
      ⟨hbit, hrd, hraised, hregs, ((narrowed_keeps addr).mono (by simp)).answered_cores (by simp) _⟩
  · exact leads_done (hexec _ (hostWrite_pool h1 h2 ht w v cleanWrite))
      ⟨rfl, keeps.answered_cores (t := s.poolWr _ _) (by simp [keeps_iff, State.poolWr]) (by simp) _⟩
  · obtain ⟨hstat, hun, -, hregs5⟩ := unmappedAt_records (s := s.narrowed addr) addr
    obtain ⟨hbit, hrd, h4, h5⟩ := narrowed_unmappedAt_records (s := s) addr
    obtain ⟨-, -, -, hregs4⟩ := narrowed_records (s := s) addr
    exact leads_done (hexec _ ((hostWrite_narrow cleanWrite ha hm hw).trans (narrowAt_unmapped hl hm)))
      ⟨hbit, hstat, hrd, hun, h4, h5, (hregs4.mono (by simp)).trans (hregs5.mono (by simp)),
        (((narrowed_keeps addr).trans (unmappedAt_keeps addr) (by simp)).mono (by simp)).answered_cores (by simp) _⟩
  · obtain ⟨hbit, hrd, hraised, hregs⟩ := unmappedAt_records (s := s) addr
    refine leads_done (t := s.unmappedAt addr) ?_ ⟨hbit, hrd, hraised, hregs, ((unmappedAt_keeps addr).mono (by simp)).answered_cores (by simp) _⟩
    rw [← hostWrite_nowhere (v := v) cleanWrite h4 hno, ← byHost_up hup fun s => s.hostWrite addr .word v cleanWrite]; rfl
  · obtain ⟨hbit, hrd, hraised, hregs⟩ := unmappedAt_records (s := s) addr
    refine leads_done (t := (s.unmappedAt addr).answer 0) ?_ ⟨by simp [State.answer, State.emit], hbit, hrd, hraised, hregs, ?_⟩
    · rw [← hostReadOut_nowhere hno, ← byHost_up hup fun s => s.hostReadOut addr (cleanRead .word)]; rfl
    · have hans : keeps [.out] (s.unmappedAt addr) ((s.unmappedAt addr).answer 0) := by simp [keeps_iff, State.answer, State.emit]
      exact (((unmappedAt_keeps addr).trans hans (by simp)).mono (by simp)).answered_cores (by simp) _
end Sys2Proof.Machine
end

section
/-! SUPPORT. The host interface of chapter 02: the PCIe endpoint (R44), SPI frames (R46 to R50), the configuration CRC (R61 to R63) and the pending events (R66). -/

namespace Sys2Proof.Machine

variable {s t u : State} {v : W32} {a e i n : Nat}

/-! ## O14: the endpoint -/

theorem isolateWaiting_idle (h : s.trk.waiting = []) (m : Nat) : s.isolateWaiting m = s := by
  unfold State.isolateWaiting
  rw [h]
  rfl
theorem isolateWaiting_fold_idle (h : s.trk.waiting = []) (ms : List Nat) : foldS (fun (u : State) m => u.isolateWaiting m) s ms = s := by
  induction ms with
  | nil => rfl
  | cons m ms ih => exact (congrArg (foldS (fun (u : State) m => u.isolateWaiting m) · ms) (isolateWaiting_idle h m)).trans ih
/-- The endpoint's reset, with no request of its masters waiting. -/
theorem endpointReset_idle (h : s.trk.waiting = []) :
    s.endpointReset = { s with sys := { s.sys with msix := [] }, net := { s.net with dmaStopped := true } } :=
  isolateWaiting_fold_idle (s := { s with sys := { s.sys with msix := [] }, net := { s.net with dmaStopped := true } }) h _
theorem evtOnly.answered_self (h : evtOnly u t) (hpend : u.pending = s.pending) (hfit : u.fit = s.fit) (hcores : u.cores = s.cores) :
    t.answered s s.cores = t := by
  rw [show t.answered s s.cores = { t with pending := s.pending, fit := s.fit, cores := s.cores } from rfl, ← h.pending.trans hpend, ← h.fit.trans hfit,
    ← h.cores.trans hcores]

/-- A command that changes no register and raises one event. -/
theorem leads_raise {i : Instr} (hexec : exec i s = doneCore s (u.raise e)) (hpend : u.pending = s.pending) (hfit : u.fit = s.fit)
    (hcores : u.cores = s.cores) (hans : u.sys.answering = s.sys.answering) (hregs : u.regs = s.regs) :
    leads i s (fun t => evtOnly u t ∧ raised e s t ∧ regsKeep [] s t) := by
  refine leads_doneCore hexec ?_
  have honly := raise_only u e
  rw [honly.answered_self hpend hfit hcores]
  exact ⟨honly, raised_raise hfit hans, (regsKeep_of_regs hregs).raise⟩

/-- Settles O14: with no transfer waiting, the endpoint's reset is the MSI-X table and the DMA rings alone. -/
theorem pcieEndpoint : Obligations.PcieEndpoint := by
  intro s hpcie hwait
  refine ⟨fun hlink => ?_, fun hlink hans => leads_raise ?_ rfl rfl rfl rfl rfl, fun hlink => leads_raise ?_ rfl rfl rfl rfl rfl⟩
  · show execFunctionLevelReset s = _
    rw [execFunctionLevelReset, hpcie, hlink, Bool.and_self, if_pos rfl, endpointReset_idle hwait]
    rfl
  · show execHostLink true s = _
    rw [execHostLink, hpcie, hlink, hans]
    rfl
  · show execHostLink false s = _
    rw [execHostLink, hpcie, hlink, endpointReset_idle hwait]
    rfl

/-! ## What an event sends -/

theorem vector_out (n : Nat) : s.out <+: (s.vector n).out := by
  unfold State.vector
  split_ifs
  · exact List.prefix_rfl
  · exact List.prefix_append _ _
  · exact List.prefix_rfl
theorem record_out (k : Nat) (l : List Byte) : (s.record k l).out = s.out := by
  unfold State.record
  split_ifs <;> rfl
theorem recEvent_out (e : Nat) : (s.recEvent e).out = s.out := by
  unfold State.recEvent
  split_ifs
  · exact record_out _ _
  · rfl
theorem when_vector_out (c : Bool) (n : Nat) : s.out <+: (s.when c (·.vector n)).out := by
  cases c
  · exact List.prefix_rfl
  · exact vector_out n
theorem pend_out (e : Nat) : s.out <+: (s.pend e).out := by
  unfold State.pend
  split_ifs
  · extract_lets t1 t2 t3
    have h2 : s.out <+: t2.out := List.prefix_rfl
    clear_value t2
    have h3 : t2.out <+: t3.out := when_vector_out _ _
    clear_value t3
    exact (h2.trans h3).trans (when_vector_out _ _)
  · exact List.prefix_rfl
theorem raiseDrop_out (n : Nat) : s.out <+: (s.raiseDrop n).out := by
  unfold State.raiseDrop
  split_ifs
  · exact List.prefix_rfl
  · exact List.prefix_rfl
  · rw [recEvent_out]
    exact pend_out (s := { s with sys := { s.sys with onceTick := 125 :: s.sys.onceTick } }) 125
/-- What has left the module stays when an event is raised; an event can only add its interrupt messages. -/
theorem raise_out (e : Nat) : s.out <+: (s.raise e).out := by
  unfold State.raise
  split_ifs
  · exact List.prefix_rfl
  · exact List.IsPrefix.trans (by rw [recEvent_out]; exact pend_out e) (raiseDrop_out _)
theorem flagRaise_out (a i e : Nat) : s.out <+: (s.flagRaise a i e).out := raise_out (s := s.flag a i) e

/-! ## O15: SPI frames -/

/-- The end of a frame of the SPI target before the error is raised. -/
def State.spiEnded (s : State) (tag : Byte) (code : Nat) : State :=
  let d := if code = 5 then satN 16 (s.sys.spiDiscarded + 1) else s.sys.spiDiscarded
  State.wr { s with sys := { s.sys with spiTag := tag, spiStatus := BitVec.ofNat 8 code, spiDiscarded := d } } SYS_SPI_LAST (w32 (tag.toNat * 256 + code))
theorem spiEnd_error (tag : Byte) {code : Nat} (h : code ≠ 0) :
    s.spiEnd tag code = ((s.spiEnded tag code).count SYS_SPI_ERR_COUNT 1).flagRaise SYS_STAT 2 9 := if_neg h
/-- What a frame that ends in an error records (R50). -/
structure SpiError (tag : Byte) (code : Nat) (s t : State) : Prop where
  status : t.sys.spiStatus = BitVec.ofNat 8 code
  discarded : t.sys.spiDiscarded = if code = 5 then satN 16 (s.sys.spiDiscarded + 1) else s.sys.spiDiscarded
  last : t.rd SYS_SPI_LAST = w32 (tag.toNat * 256 + code)
  counts : counted SYS_SPI_ERR_COUNT 1 s t
  stat : t.bit SYS_STAT 2 = true
  event : raised 9 s t
  pends : t.pends 9 = true
  regs : regsKeep [SYS_SPI_LAST, SYS_SPI_ERR_COUNT, SYS_STAT] s t
  frame : keeps [.regs, .out, .mon, .sys] s t
  out : s.out <+: t.out
theorem spiEnd_records (tag : Byte) {code : Nat} (h : code ≠ 0) : SpiError tag code s (s.spiEnd tag code) := by
  rw [spiEnd_error tag h]
  have honly := flagRaise_only ((s.spiEnded tag code).count SYS_SPI_ERR_COUNT 1) SYS_STAT 2 9
  refine ⟨honly.sys_spiStatus, honly.sys_spiDiscarded, ?_, ?_, flagRaise_bit _ _ _ _ rfl (by decide), raised_flagRaise rfl rfl, ?_, ?_, ?_, ?_⟩
  · exact (flagRaise_rd _ _ _ _ rfl (by decide)).trans ((rd_wr_ne _ _ (by decide)).trans (rd_wr_same _ _ _))
  · exact counted.flagRaise (counted_count (rd_wr_ne _ _ (by decide))) (by decide) rfl
  · exact flagRaise_pends _ _ _ _ (by simp [State.eventHere, eventReserved]) (.inl (by decide))
  · have h0 : regsKeep [SYS_SPI_LAST, SYS_SPI_ERR_COUNT, SYS_STAT] s (s.spiEnded tag code) := regsKeep.wr (regsKeep_of_regs rfl) (by simp)
    exact (h0.count (by simp)).flagRaise (by simp)
  · exact keeps.evt (t := (s.spiEnded tag code).count SYS_SPI_ERR_COUNT 1) (by simp [keeps_iff, State.spiEnded, State.count]) (by simp) honly
  · exact flagRaise_out (s := (s.spiEnded tag code).count SYS_SPI_ERR_COUNT 1) _ _ _

theorem exec_spiWriteFrame {bytes : List Byte} (hup : s.spiUp = true) (hop : nth 0 bytes 0 = 0xA2) (hlen : 11 + 4 * spiWords bytes ≤ bytes.length) :
    exec (.spiWriteFrame bytes) s = done s (
      let code := if !spiCrcOk bytes (7 + 4 * spiWords bytes) then 1 else if spiAddr bytes % 4 ≠ 0 then 3 else 0
      let t := if code = 0 then s.spiStore (spiAddr bytes) (wordsOf (spiWords bytes) (bytes.drop 7)) else s
      if t.spiUp then (t.emit (.spi [BitVec.ofNat 8 code])).spiEnd (spiTagOf bytes) code else t) := by
  show execSpiWriteFrame bytes s = _
  unfold execSpiWriteFrame
  dsimp only
  rw [if_neg (by rw [hup, hop]; decide), if_neg (by omega)]
theorem spiRead_frame {bytes : List Byte} (waits : Nat) (late : Bool) (hup : s.spiUp = true) (hop : nth 0 bytes 0 = 0xA3) (hlen : 11 ≤ bytes.length)
    (hcode : spiReadCode bytes = 0) : s.spiRead bytes waits late =
    (match (s.spiLoad (spiAddr bytes) (spiWords bytes) []).2 with
     | some ws => if late then ((s.spiLoad (spiAddr bytes) (spiWords bytes) []).1.emit (.spi (spiErrorBytes bytes.length 1024 4))).spiEnd (spiTagOf bytes) 4
       else ((s.spiLoad (spiAddr bytes) (spiWords bytes) []).1.emit (.spi (List.replicate waits 0 ++ (0x5A :: ws.flatMap (fun w => leBytes 4 w.toNat)) ++
         leBytes 4 (crc32c (0x5A :: ws.flatMap (fun w => leBytes 4 w.toNat))).toNat ++ [0]))).spiEnd (spiTagOf bytes) 0
     | none => ((s.spiLoad (spiAddr bytes) (spiWords bytes) []).1.emit (.spi (spiErrorBytes bytes.length 1024 4))).spiEnd (spiTagOf bytes) 4) := by
  unfold State.spiRead
  dsimp only
  rw [if_neg (by rw [hup, hop]; decide), if_neg (by omega), if_neg (by simp [hcode])] <;> rfl
/-- A read that has sent its last wait byte ends in an error, whatever it would have read (R48). -/
theorem spiRead_late {bytes : List Byte} (waits : Nat) (hup : s.spiUp = true) (hop : nth 0 bytes 0 = 0xA3) (hlen : 11 ≤ bytes.length)
    (hcode : spiReadCode bytes = 0) : s.spiRead bytes waits true =
    ((s.spiLoad (spiAddr bytes) (spiWords bytes) []).1.emit (.spi (spiErrorBytes bytes.length 1024 4))).spiEnd (spiTagOf bytes) 4 := by
  rw [spiRead_frame waits true hup hop hlen hcode]
  split <;> rfl

/-- Settles O15: each frame ends in `spiEnd`, whose record is said once, after what its kind stores, reads and sends. -/
theorem spiTarget : Obligations.SpiTarget := by
  intro s bytes waits ws tag hup
  refine ⟨fun hop hlen hcrc haddr hstill => ?_, fun hop hlen hcrc => ?_, fun hop hlen hcode hwaits hload => ?_, fun hop hlen hcode => ?_, fun hop => ?_,
    fun h2 h3 h5 => ?_, ?_⟩
  · have hexec := exec_spiWriteFrame hup hop hlen
    simp only [hcrc, haddr, Bool.not_true, Bool.false_eq_true, if_false, ne_eq, not_true, if_true, hstill] at hexec
    refine leads_done hexec ⟨rfl, rfl, rfl, ?_, ?_, rfl, rfl⟩
    · exact (rd_wr_same _ _ _).trans (congrArg w32 (Nat.add_zero _))
    · exact regsOnly.wr (regsOnly_of_regs rfl) (by simp)
  · have hexec := exec_spiWriteFrame hup hop hlen
    simp only [hcrc, Bool.not_false, if_true, hup, one_ne_zero, if_false] at hexec
    have herr := spiEnd_records (s := s.emit (.spi [BitVec.ofNat 8 1])) (spiTagOf bytes) one_ne_zero
    have hkeep : keeps [.regs, .out, .mon, .sys] s (s.emit (.spi [BitVec.ofNat 8 1])) := by simp [keeps_iff, State.emit]
    exact leads_done hexec ⟨herr.status, herr.counts, herr.stat, herr.event, herr.regs, ((hkeep.trans herr.frame (by simp)).mono (by simp)).answered_cores (by simp) _⟩
  · have hexec : exec (.spiReadFrame bytes waits) s = doneCore s (s.spiRead bytes waits (decide (1024 < waits))) := rfl
    rw [show decide (1024 < waits) = false by simp [hwaits], spiRead_frame waits false hup hop hlen hcode, hload] at hexec
    exact leads_doneCore hexec ⟨rfl, rfl, rfl, rfl⟩
  · have hexec : exec (.spiReadTimeout bytes) s = doneCore s (s.spiRead bytes 1024 true) := rfl
    rw [spiRead_late 1024 hup hop hlen hcode] at hexec
    have herr := spiEnd_records (s := (s.spiLoad (spiAddr bytes) (spiWords bytes) []).1.emit (.spi (spiErrorBytes bytes.length 1024 4))) (spiTagOf bytes)
      (show 4 ≠ 0 by decide)
    exact leads_doneCore hexec ⟨herr.status, herr.stat, herr.pends, herr.out.subset (List.mem_append_right _ (List.mem_singleton.mpr rfl)), herr.last⟩
  · have hexec : exec (.spiShort bytes) s = doneCore s (s.spiEnd (spiTagOf bytes) 5) := by
      show execSpiShort bytes s = _
      simp only [execSpiShort, hup, Bool.not_true, Bool.false_eq_true, if_false, beq_eq_false_iff_ne.mpr hop, Bool.false_and]
    have herr := spiEnd_records (s := s) (spiTagOf bytes) (show 5 ≠ 0 by decide)
    exact leads_doneCore hexec ⟨herr.status, herr.discarded, herr.counts, herr.stat, herr.event, herr.regs, herr.frame.answered⟩
  · have hexec : exec (.spiBadOpFrame bytes) s = doneCore s ((s.emit (.spi [2])).spiEnd (spiTagOf bytes) 2) := by
      show execSpiBadOpFrame bytes s = _
      simp only [execSpiBadOpFrame, hup, Bool.not_true, Bool.false_or, beq_eq_false_iff_ne.mpr h2, beq_eq_false_iff_ne.mpr h3,
        beq_eq_false_iff_ne.mpr h5, Bool.false_eq_true, if_false]
    have herr := spiEnd_records (s := s.emit (.spi [2])) (spiTagOf bytes) (show 2 ≠ 0 by decide)
    have hkeep : keeps [.regs, .out, .mon, .sys] s (s.emit (.spi [2])) := by simp [keeps_iff, State.emit]
    exact leads_doneCore hexec ⟨herr.status, herr.out.subset (List.mem_append_right _ (List.mem_singleton.mpr rfl)), herr.counts, herr.stat, herr.event,
      herr.regs, (hkeep.trans herr.frame (by simp)).answered⟩
  · show execSpiStatusFrame tag s = _
    rw [execSpiStatusFrame, hup]
    rfl

/-! ## O16: the configuration CRC and the pending events -/

theorem bitOf_putBit_self (w : W32) {i : Nat} (b : Bool) (hi : i < 32) : bitOf (putBit w i b) i = b := by rw [bitOf_putBit w b hi, if_pos rfl]
theorem exec_cfgcrcPassEnd (hmedia : s.sys.mediaRun = true) (hpass : s.sys.cfgPass = true) (htick : (s.tickN + 1) % 16 = 0) :
    exec .cfgcrcPassEnd s = doneCore s s.cfgEnd := by
  show execCfgcrcPassEnd s = _
  rw [execCfgcrcPassEnd, hmedia, hpass, htick]
  rfl
/-- The end of a pass up to its comparison: LAST and MATCH are written (R62). -/
def State.cfgShown (s : State) (crc : W32) (m : Bool) : State :=
  let t := s.wr SYS_CFGCRC_LAST crc
  t.wr SYS_CFGCRC_CTL (putBit (t.rd SYS_CFGCRC_CTL) 1 m)
variable {crc : W32} {m : Bool}
theorem cfgShown_last : (s.cfgShown crc m).rd SYS_CFGCRC_LAST = crc := (rd_wr_ne _ _ (by decide)).trans (rd_wr_same _ _ _)
theorem cfgShown_match : (s.cfgShown crc m).bit SYS_CFGCRC_CTL 1 = m := (bit_wr_same _ _ _ _).trans (bitOf_putBit_self _ m (by decide))
theorem cfgShown_bit (hi : i < 32) (h1 : i ≠ 1) : (s.cfgShown crc m).bit SYS_CFGCRC_CTL i = s.bit SYS_CFGCRC_CTL i := by
  refine (bit_wr_same _ _ _ _).trans ?_
  rw [bitOf_putBit _ _ hi, if_neg h1.symm]
  exact bit_wr_ne _ _ _ (by decide)
theorem cfgShown_rd (h1 : a ≠ SYS_CFGCRC_LAST) (h2 : a ≠ SYS_CFGCRC_CTL) : (s.cfgShown crc m).rd a = s.rd a :=
  (rd_wr_ne _ _ h2).trans (rd_wr_ne _ _ h1)
theorem cfgShown_regs : regsOnly [SYS_CFGCRC_LAST, SYS_CFGCRC_CTL] s (s.cfgShown crc m) := ((regsOnly.refl _ s).wr (by simp)).wr (by simp)
theorem cfgShown_keeps : keeps [.regs] s (s.cfgShown crc m) := by simp [keeps_iff, State.cfgShown]
theorem cfgShown_sys : (s.cfgShown crc m).sys = s.sys := rfl
/-- The end of a pass of a configuration that no one wrote meanwhile, begun before any COMMIT. -/
theorem cfgEnd_judged (hclean : s.sys.cfgDirty = false) (hcommit : s.sys.cfgCommit < 2) (hcrc : s.cfgCrc = crc) (hm : (crc == s.rd SYS_CFGCRC_REF) = m) :
    s.cfgEnd = ((s.cfgShown crc m).cfgJudge crc).modSys (fun y => { y with cfgPass := false }) := by
  have href : (s.wr SYS_CFGCRC_LAST crc).rd SYS_CFGCRC_REF = s.rd SYS_CFGCRC_REF := rd_wr_ne _ _ (by decide)
  unfold State.cfgEnd
  rw [hclean, if_neg Bool.false_ne_true, if_neg Bool.false_ne_true, hcrc]
  dsimp only
  rw [if_neg (by exact Nat.not_le.mpr hcommit), href, hm]
  rfl
/-- The end of a pass that began after a COMMIT. -/
def State.cfgCopied (s : State) (crc : W32) : State :=
  let t := (s.wr SYS_CFGCRC_LAST crc).wr SYS_CFGCRC_REF crc
  (t.wr SYS_CFGCRC_CTL (putBit (t.rd SYS_CFGCRC_CTL) 1 true)).unflag SYS_CFGCRC_CTL 2
theorem cfgEnd_committed (hclean : s.sys.cfgDirty = false) (hcommit : 2 ≤ s.sys.cfgCommit) (hcrc : s.cfgCrc = crc) :
    s.cfgEnd = (s.cfgCopied crc).modSys (fun y => { y with cfgPass := false, cfgCommit := y.cfgCommit - 2, cfgDiffs := 0, cfgActed := false }) := by
  unfold State.cfgEnd
  rw [hclean, if_neg Bool.false_ne_true, if_neg Bool.false_ne_true, hcrc]
  dsimp only
  rw [if_pos (by exact hcommit)]
  rfl
theorem cfgCopied_writes : (s.cfgCopied crc).rd SYS_CFGCRC_LAST = crc ∧ (s.cfgCopied crc).rd SYS_CFGCRC_REF = crc ∧
    (s.cfgCopied crc).bit SYS_CFGCRC_CTL 1 = true ∧ (s.cfgCopied crc).bit SYS_CFGCRC_CTL 2 = false := by
  refine ⟨?_, ?_, ?_, ?_⟩
  · exact (rd_wr_ne _ _ (by decide)).trans ((rd_wr_ne _ _ (by decide)).trans ((rd_wr_ne _ _ (by decide)).trans (rd_wr_same _ _ _)))
  · exact (rd_wr_ne _ _ (by decide)).trans ((rd_wr_ne _ _ (by decide)).trans (rd_wr_same _ _ _))
  · refine (bit_unflag _ _ _ (by decide)).trans ?_
    rw [bit_wr_same, bitOf_putBit_self _ _ (by decide)]
    rfl
  · refine (bit_unflag _ _ _ (by decide)).trans ?_
    simp
theorem cfgCopied_regs : regsOnly [SYS_CFGCRC_LAST, SYS_CFGCRC_REF, SYS_CFGCRC_CTL] s (s.cfgCopied crc) :=
  ((((regsOnly.refl _ s).wr (by simp)).wr (by simp)).wr (by simp)).unflag (by simp)
theorem cfgCopied_keeps : keeps [.regs] s (s.cfgCopied crc) := by simp [keeps_iff, State.cfgCopied, State.unflag]
theorem modSys_keeps (f : SysSt → SysSt) : keeps [.sys] s (s.modSys f) := by simp [keeps_iff]
theorem vector_keeps (n : Nat) : keeps [.sys, .out] s (s.vector n) := by
  unfold State.vector
  split_ifs <;> simp [keeps_iff, State.emit]

theorem cfgJudge_acts (hact : s.rdF SYS_CFGCRC_ACT 1 0 ≠ 0) (hne : crc ≠ s.rd SYS_CFGCRC_REF) (hhold : s.bit SYS_CFGCRC_CTL 3 = false)
    (hdiffs : 1 ≤ s.sys.cfgDiffs) (hacted : s.sys.cfgActed = false) (hno : s.rdF SYS_CFGCRC_ACT 1 0 ≠ 2) :
    s.cfgJudge crc = (s.modSys (fun y => { y with cfgDiffs := 2, cfgActed := true })).flagRaise SYS_CFGCRC_CTL 2 0 := by
  rw [State.cfgJudge, if_neg (by rintro (h | h); exacts [hact h, hne h]), if_neg (by simp [hhold]), if_pos ⟨hdiffs, hacted⟩]
  exact if_neg hno
theorem commitWrite_commits (v : W32) : (s.commitWrite (v ||| 1)).sys.cfgCommit ≠ 0 ∧
    (s.commitWrite (v ||| 1)).sys = { s.sys with cfgCommit := (s.commitWrite (v ||| 1)).sys.cfgCommit } ∧
    (s.commitWrite (v ||| 1)).bit SYS_CFGCRC_CTL 3 = bitOf v 3 ∧ (bitOf v 2 = true → (s.commitWrite (v ||| 1)).bit SYS_CFGCRC_CTL 2 = false) ∧
    regsOnly [SYS_CFGCRC_CTL] s (s.commitWrite (v ||| 1)) ∧ keeps [.regs, .sys] s (s.commitWrite (v ||| 1)) := by
  have h0 : bitOf (v ||| 1) 0 = true := by rw [bitOf_or]; exact Bool.or_true _
  have h2 : bitOf (v ||| 1) 2 = bitOf v 2 := by rw [bitOf_or]; exact Bool.or_false _
  have h3 : bitOf (v ||| 1) 3 = bitOf v 3 := by rw [bitOf_or]; exact Bool.or_false _
  unfold State.commitWrite
  generalize v ||| 1 = x at h0 h2 h3
  dsimp only
  rw [if_pos h0]
  refine ⟨?_, rfl, ?_, fun hv => ?_, regsOnly.of_regs ((regsOnly.refl _ s).wr (by simp)) rfl, by simp [keeps_iff]⟩
  · show ite _ _ _ ≠ 0
    split_ifs <;> decide
  · refine (bit_wr_same _ _ _ _).trans ?_
    rw [bitOf_and, bitOf_not _ (by decide), bitOf_or, bitOf_and, bitOf_and, bitOf_and, ← h3]
    simp [bitOf]
  · refine (bit_wr_same _ _ _ _).trans ?_
    rw [bitOf_and, bitOf_not _ (by decide), bitOf_and x, h2, hv]
    simp [bitOf]
theorem pendWrite_regs (k : Nat) (v : W32) : (s.pendWrite k v).regs = (s.wr (EVT_PEND k) (s.rd (EVT_PEND k) &&& ~~~v)).regs :=
  when_keeps _ State.regs _ _ (vector_regs _ 0)
theorem pendWrite_keeps (k : Nat) (v : W32) : keeps [.regs, .sys, .out] s (s.pendWrite k v) := by
  have h : keeps [.regs, .sys, .out] s (s.wr (EVT_PEND k) (s.rd (EVT_PEND k) &&& ~~~v)) := by simp [keeps_iff]
  unfold State.pendWrite State.when
  dsimp only
  split_ifs
  · exact h.trans (vector_keeps 0) (by simp)
  · exact h
theorem fld_event (e : Fin 128) : fld (w32 e.val) 6 0 = e.val := by
  have := e.isLt
  simp only [fld, w32, BitVec.toNat_ofNat]
  omega

/-- Settles O16: the pass's three endings (COMMIT, the reference found, the second difference), and the writes of the pending events. -/
theorem configCrcAndEvents : Obligations.ConfigCrcAndEvents := by
  intro s v k e hup
  refine ⟨?_, ?_, fun hmedia hpass htick hclean hcommit => ?_, fun hmedia hpass htick hclean hcommit hdiffs hacted hhold hact hne => ?_,
    fun hmedia hpass htick hclean hcommit heq => ?_, ?_, fun hcls hhere => ?_, fun hcls => ?_⟩
  · have hexec : exec (.commit v) s = doneCore s (s.commitWrite (v ||| 1)) := by rw [← byHost_up hup fun s => s.commitWrite (v ||| 1)]; rfl
    obtain ⟨hcommit, hsys, hhold, hact, hregs, hkeep⟩ := commitWrite_commits (s := s) v
    exact leads_doneCore hexec ⟨hcommit, hsys, hhold, hact, hregs, hkeep.answered⟩
  · have hexec : exec (.cfgcrcRefWrite v) s = doneCore s (s.refWrite v) := by rw [← byHost_up hup fun s => s.refWrite v]; rfl
    exact leads_doneCore hexec ⟨rd_wr_same _ _ _, rfl, regsOnly.of_regs (t := s.wr SYS_CFGCRC_REF v) ((regsOnly.refl _ s).wr (by simp)) rfl,
      keeps.answered (t := s.refWrite v) (by simp [keeps_iff, State.refWrite])⟩
  · obtain ⟨crc, hcrc⟩ : ∃ crc, s.cfgCrc = crc := ⟨_, rfl⟩
    rw [hcrc]
    have hexec := exec_cfgcrcPassEnd hmedia hpass htick
    rw [cfgEnd_committed hclean hcommit hcrc] at hexec
    obtain ⟨hlast, href, hmatch, hact⟩ := cfgCopied_writes (s := s) (crc := crc)
    have hregs := cfgCopied_regs (s := s) (crc := crc)
    have hkeep := cfgCopied_keeps (s := s) (crc := crc)
    generalize s.cfgCopied crc = t at *
    exact leads_doneCore hexec ⟨hlast, href, hmatch, hact, rfl, rfl, hregs.of_regs rfl, ((hkeep.mono (by simp)).trans (modSys_keeps _) (by simp)).answered⟩
  · obtain ⟨crc, hcrc⟩ : ∃ crc, s.cfgCrc = crc := ⟨_, rfl⟩
    rw [hcrc] at hne ⊢
    have hexec := exec_cfgcrcPassEnd hmedia hpass htick
    rw [cfgEnd_judged hclean hcommit hcrc (beq_eq_false_iff_ne.mpr hne)] at hexec
    have hsys := cfgShown_sys (s := s) (crc := crc) (m := false)
    have hkeep : keeps [.regs] s (s.cfgShown crc false) := cfgShown_keeps
    have hlast := cfgShown_last (s := s) (crc := crc) (m := false)
    have hmatch := cfgShown_match (s := s) (crc := crc) (m := false)
    have hregs := cfgShown_regs (s := s) (crc := crc) (m := false)
    have hhold' := (cfgShown_bit (s := s) (crc := crc) (m := false) (show 3 < 32 by decide) (by decide)).trans hhold
    have href := cfgShown_rd (s := s) (crc := crc) (m := false) (a := SYS_CFGCRC_REF) (by decide) (by decide)
    have hactrd := cfgShown_rd (s := s) (crc := crc) (m := false) (a := SYS_CFGCRC_ACT) (by decide) (by decide)
    generalize s.cfgShown crc false = t at *
    have hactrd' : t.rdF SYS_CFGCRC_ACT 1 0 = 1 := (congrArg (fld · 1 0) hactrd).trans hact
    rw [cfgJudge_acts (by rw [hactrd']; decide) (by rw [href]; exact hne) hhold' (by rw [hsys, hdiffs]) (by rw [hsys]; exact hacted) (by rw [hactrd']; decide)] at hexec
    have honly := flagRaise_only (t.modSys (fun y => { y with cfgDiffs := 2, cfgActed := true })) SYS_CFGCRC_CTL 2 0
    refine leads_doneCore hexec ⟨?_, ?_, ?_, ?_, rfl, honly.sys_cfgActed, ?_, ?_⟩
    · exact (flagRaise_rd _ _ _ _ rfl (by decide)).trans hlast
    · exact (bit_raise rfl).trans ((bit_flag _ _ _ (by decide)).trans hmatch)
    · exact flagRaise_bit _ _ _ _ rfl (by decide)
    · exact raised_flagRaise (by rw [modSys_fit]; exact hkeep.2.1) (show t.sys.answering = s.sys.answering by rw [hsys])
    · exact regsKeep.flagRaise (hregs.keep.of_regs rfl) (by simp)
    · exact ((((hkeep.mono (by simp)).trans (modSys_keeps _) (by simp)).evt (by simp) honly).trans (modSys_keeps _) (by simp)).answered
  · obtain ⟨crc, hcrc⟩ : ∃ crc, s.cfgCrc = crc := ⟨_, rfl⟩
    rw [hcrc] at heq ⊢
    have hexec := exec_cfgcrcPassEnd hmedia hpass htick
    rw [cfgEnd_judged hclean hcommit hcrc (beq_iff_eq.mpr heq), State.cfgJudge, if_pos (.inr (heq.trans (cfgShown_rd (by decide) (by decide)).symm))] at hexec
    have hsys := cfgShown_sys (s := s) (crc := crc) (m := true)
    have hkeep : keeps [.regs] s (s.cfgShown crc true) := cfgShown_keeps
    have hlast := cfgShown_last (s := s) (crc := crc) (m := true)
    have hmatch := cfgShown_match (s := s) (crc := crc) (m := true)
    have hregs := cfgShown_regs (s := s) (crc := crc) (m := true)
    generalize s.cfgShown crc true = t at *
    exact leads_doneCore hexec ⟨hlast, hmatch, rfl, rfl, rfl, hregs.of_regs rfl,
      (((hkeep.mono (by simp)).trans (modSys_keeps _) (by simp)).trans (modSys_keeps _) (by simp)).answered⟩
  · have hexec : exec (.evtPendClear k v) s = doneCore s (s.pendWrite k.val v) := by rw [← byHost_up hup fun s => s.pendWrite k.val v]; rfl
    have hregs := rd_of_regs (pendWrite_regs (s := s) k.val v)
    refine leads_doneCore hexec ⟨(hregs _).trans (rd_wr_same _ _ _), fun x hx => (hregs x).trans ((regsOnly.refl _ s).wr (by simp) x hx), ?_⟩
    exact (pendWrite_keeps k.val v).answered
  · have hexec : exec (.evtRaise (w32 e.val)) s = doneCore s (s.raise (fld (w32 e.val) 6 0)) := by
      show execEvtRaise _ s = _
      rw [execEvtRaise, byHost_up hup, if_pos hcls]
    rw [fld_event] at hexec
    have hans : s.sys.answering = true := by rw [State.hostUp, Bool.and_eq_true] at hup; exact hup.1
    refine leads_doneCore hexec ?_
    rw [(raise_only s e.val).answer]
    exact ⟨raise_only s _, raise_pends _ _ hhere (.inr (.inr hans)), (regsKeep.refl _ _).raise⟩
  · have hexec : exec (.evtRaise (w32 e.val)) s = doneCore s (s.deny 2 0 EVT_RAISE) := by
      show execEvtRaise _ s = _
      rw [execEvtRaise, byHost_up hup, if_neg (by simp [hcls])]
    refine leads_doneCore hexec ?_
    rw [(deny_only s _ _ _).answer]
    exact ⟨deny_only s _ _ _, deny_refuses _ _ _⟩
end Sys2Proof.Machine
end

section
/-! SUPPORT. Phase 1 of a load (R95 to R106): what refusing and staging an image leave. -/

namespace Sys2Proof.Machine

variable {s t : State} {k code sec n : Nat} {known : ImgKnown} {i : Image} {bs : List Byte}

theorem length_imgWords (known : ImgKnown) : (imgWords known).length = 17 := by simp [imgWords, digestWords, upFrom]
theorem modSlot_slot (k : Nat) (f : JobSlot → JobSlot) : (s.modSlot k f).slot k = f (s.slot k) := slot_setSlot_same ..
theorem modSlot_keeps (k : Nat) (f : JobSlot → JobSlot) : keeps [.jobs] s (s.modSlot k f) := setSlot_keeps _ _
theorem modSlot_poolW (k : Nat) (f : JobSlot → JobSlot) (a : Nat) : (s.modSlot k f).poolW a = s.poolW a := rfl

/-- What a refusal of an image leaves (R97, R102). -/
structure ImgRefused (k code sec : Nat) (known : ImgKnown) (s t : State) : Prop where
  slot : t.slot k = { s.slot k with fin := some (BitVec.ofNat 8 code) }
  img : t.img = { s.img with phase := .idle, slot := none, staged := none, carry := [], partnerCode := none }
  fail : t.rd IMG_FAIL = w32 (sec * 256 + code)
  fails : counted IMG_FAILS 1 s t
  stat : t.bit IMG_STAT 0 = true
  words : t.poolW (resultOff k 0) = 20
  gen : t.poolW (resultOff k 1) = known.gen
  outcome : t.poolW (resultOff k 18) = 3
  error : t.poolW (resultOff k 19) = w32 (sec * 256 + code)
  regs : regsOnly [IMG_FAIL, IMG_FAILS, IMG_STAT] s t
  frame : keeps [.regs, .jobs, .img, .mem] s t
/-- The words that a load's result window ends with (R102). -/
theorem poolW_imgEnd (s : State) (k : Nat) (known : ImgKnown) (a b c : W32) :
    (s.resultWrite k (imgWords known ++ [a, b, c])).poolW (resultOff k 0) = 20 ∧ (s.resultWrite k (imgWords known ++ [a, b, c])).poolW (resultOff k 1) = known.gen ∧
    (s.resultWrite k (imgWords known ++ [a, b, c])).poolW (resultOff k 18) = a ∧ (s.resultWrite k (imgWords known ++ [a, b, c])).poolW (resultOff k 19) = b := by
  have hlen : (imgWords known ++ [a, b, c]).length = 20 := by simp [length_imgWords]
  have hword (j : Nat) (hj : j < 20) := poolW_resultWrite (s := s) k (ws := imgWords known ++ [a, b, c]) (by omega) (i := j) (by omega)
  refine ⟨?_, hword 0 (by decide), hword 17 (by decide), hword 18 (by decide)⟩
  rw [poolW_resultWrite_count k (by omega), hlen]
  rfl
/-- The registers of a failed load. -/
theorem imgFailed_records (place code sec : Nat) : (s.imgFailed place code sec).rd IMG_FAIL = w32 (place * 65536 + sec * 256 + code) ∧
    counted IMG_FAILS 1 s (s.imgFailed place code sec) ∧ (s.imgFailed place code sec).bit IMG_STAT 0 = true ∧
    regsOnly [IMG_FAIL, IMG_FAILS, IMG_STAT] s (s.imgFailed place code sec) ∧ keeps [.regs] s (s.imgFailed place code sec) := by
  unfold State.imgFailed
  refine ⟨(rd_wr_ne _ _ (by decide)).trans (rd_wr_same _ _ _), counted_count ((rd_wr_ne _ _ (by decide)).trans (rd_wr_ne _ _ (by decide))), ?_, ?_, ?_⟩
  · exact (bit_wr_ne _ _ _ (by decide)).trans ((bit_wr_ne _ _ _ (by decide)).trans (bit_flag_self (by decide)))
  · exact (((regsOnly.refl _ s).flag (by simp)).wr (by simp)).count (by simp)
  · simp [keeps_iff, State.flag, State.count]
theorem imgRefuse_refused (k code sec : Nat) (known : ImgKnown) : ImgRefused k code sec known s (s.imgRefuse k code sec known) := by
  obtain ⟨hwords, hgen, hout, herr⟩ := poolW_imgEnd (s.imgIdle.imgFailed 0 code sec) k known 3 (w32 (sec * 256 + code)) 0
  obtain ⟨hfail, hfails, hstat, hregs, hkeep⟩ := imgFailed_records (s := s.imgIdle) 0 code sec
  rw [Nat.zero_mul, Nat.zero_add] at hfail
  have hidle : keeps [.regs, .jobs, .img, .mem] s s.imgIdle := by simp [keeps_iff, State.imgIdle, State.modImg]
  have hslot : (s.imgIdle.imgFailed 0 code sec).slot k = s.slot k := rfl
  have himg : (s.imgIdle.imgFailed 0 code sec).img = { s.img with phase := .idle, slot := none, staged := none, carry := [], partnerCode := none } := rfl
  unfold State.imgRefuse
  generalize s.imgIdle.imgFailed 0 code sec = u at *
  have hwrite := resultWrite_keeps (s := u) k (imgWords known ++ [3, w32 (sec * 256 + code), 0])
  have hkeeps := ((hidle.trans hkeep (by simp)).trans hwrite (by simp)).trans (modSlot_keeps k (fun j => { j with fin := some (BitVec.ofNat 8 code) })) (by simp)
  have hsame : (u.resultWrite k (imgWords known ++ [3, w32 (sec * 256 + code), 0])).slot k = s.slot k := (slot_of_jobs (hwrite.part (p := .jobs) (by simp)) k).trans hslot
  have hregs' : (u.resultWrite k (imgWords known ++ [3, w32 (sec * 256 + code), 0])).regs = u.regs := hwrite.part (p := .regs) (by simp)
  have himg' : (u.resultWrite k (imgWords known ++ [3, w32 (sec * 256 + code), 0])).img = u.img := hwrite.part (p := .img) (by simp)
  generalize u.resultWrite k (imgWords known ++ [3, w32 (sec * 256 + code), 0]) = v at *
  have hrd (a : Nat) : (v.jobFin k code).rd a = u.rd a := rd_of_regs hregs' a
  exact ⟨(modSlot_slot k _).trans (by rw [hsame]), himg'.trans himg, (hrd _).trans hfail, hfails.of_rd (hrd _), (bit_of_rd (hrd _)).trans hstat, hwords, hgen, hout,
    herr, hregs.of_regs hregs', hkeeps⟩
theorem imgRefuseTell_alone (h : s.pairLoads = false) : s.imgRefuseTell k code sec known = s.imgRefuse k code sec known := by
  rw [State.imgRefuseTell, h]
  rfl
theorem slotNums_mem (h : k < 16) : k ∈ slotNums := by
  simp only [slotNums, mem_upFrom]
  omega

/-! ## Phase 1 -/

theorem runsJob_load (hst : (s.slot k).st = .running) (hkind : (s.slot k).kind = 1) : s.runsJob k 1 = true := by
  rw [State.runsJob, hst, hkind]
  rfl
theorem imgReady_load (hst : (s.slot k).st = .running) (hkind : (s.slot k).kind = 1) (hfin : (s.slot k).fin = none) (hslot : s.img.slot = none)
    (hphase : s.img.phase = .idle) : s.imgReady k 1 = true := by
  rw [State.imgReady, runsJob_load hst hkind, hfin, hslot, hphase]
  rfl
theorem imgRun_running {kind : Nat} (bytes : Option (List Byte)) (hst : (s.slot k).st = .running) (hready : s.imgReady k kind = true) :
    s.imgRun k kind bytes = if (s.slot k).abortReq then s.imgAbort k else s.imgPhase1 k bytes := by
  have hbegin : s.jobTryBegin k = s := if_neg (by rw [hst]; simp)
  unfold State.imgRun
  rw [hbegin]
  dsimp only
  rw [hready, if_neg (by simp), if_neg (by rw [hst]; simp)]
theorem exec_imgLoad {k : Fin 16} (bytes : Option (List Byte)) (hst : (s.slot k.val).st = .running) (hready : s.imgReady k.val 1 = true)
    (hgo : (s.slot k.val).abortReq = false) : exec (.imgLoad k bytes) s = doneCore s (s.imgPhase1 k.val bytes) := by
  show doneCore s (s.imgRun k.val 1 bytes) = _
  rw [imgRun_running bytes hst hready, hgo]
  rfl
/-- What the flash is sent before its first read. -/
theorem flashOpen_keeps : keeps [.out] s s.flashOpen := by simp [keeps_iff, State.flashOpen, State.emit]
/-- The state in which phase 1 checks the bytes that the flash has supplied from slot 0. -/
def State.flashed (s : State) (k : Nat) (bs : List Byte) : State := (s.flashOpen.emit (.flash (.read 0))).jobProgress k (bs.length / 1024)
theorem imgPhase1_none (hsrc : fld ((s.slot k).arg 0) 3 0 = 0) : s.imgPhase1 k none = s.flashOpen.imgRefuseTell k 0x4E 0xFF { gen := 0, ssig := [], fprint := [] } := by
  unfold State.imgPhase1
  dsimp only
  rw [hsrc, State.imgSource, if_pos (by decide)]
  simp only [ite_self]
  rfl
theorem imgPhase1_flash (hsrc : fld ((s.slot k).arg 0) 3 0 = 0) (hkind : (s.slot k).kind = 1) (hfrozen : s.dram.frozen = false) (hsize : 16777216 ≤ s.dramSize) :
    s.imgPhase1 k (some bs) = (match checkImage s.imgTarget bs with
      | (known, .error f) => (s.flashed k bs).imgRefuseTell k f.code f.sec known
      | (_, .ok i) =>
        if !(s.slot k).granted && !(s.img.shown.isNone && s.trustedSsig i.ssig) then ((s.flashed k bs).deny 1 2 (jobCmdA k)).imgRefuseTell k 0x03 0xFF i.known
        else if s.bit IMG_TRUST_CTL 0 && !s.trustedSsig i.ssig then (s.flashed k bs).imgRefuseTell k 0x4F 0xFF i.known
        else (s.flashed k bs).imgStage k 0 bs i) := by
  unfold State.imgPhase1
  dsimp only
  rw [hsrc, State.imgSource, if_pos (by decide), hkind, hfrozen, decide_eq_false (Nat.not_lt.mpr hsize)]
  rfl

theorem badLayout_length (h : badLayout bs = false) : bs.length % 16 = 0 := by
  simp only [badLayout, Bool.or_eq_false_iff, bne_eq_false_iff_eq] at h
  obtain ⟨⟨⟨⟨⟨⟨⟨⟨-, -⟩, hmod⟩, hlen⟩, -⟩, -⟩, -⟩, -⟩, -⟩ := h
  rw [← hlen]
  exact hmod
/-- An image that passes has a whole number of 16-byte units (R87). -/
theorem checkImage_ok_length {x : ImgTarget} (h : (checkImage x bs).2 = .ok i) : bs.length % 16 = 0 := by
  by_cases hbad : badLayout bs = true
  · exfalso
    unfold checkImage at h
    dsimp only at h
    rw [if_pos hbad] at h
    revert h
    split_ifs <;> simp [refuse]
  · exact badLayout_length (Bool.not_eq_true _ |>.mp hbad)

theorem checkImage_badMagic {x : ImgTarget} (h4 : 4 ≤ bs.length) (hmagic : bs.take 4 ≠ [0x48, 0x56, 0x42, 0x49]) :
    ∃ known, checkImage x bs = (known, .error { code := 0x40, sec := 0xFF }) := by
  unfold checkImage
  dsimp only
  split_ifs with hshort hbad
  · exact ⟨_, rfl⟩
  · exact absurd ⟨h4, hmagic⟩ hbad
  · exact ⟨_, rfl⟩

theorem flashed_keeps (k : Nat) (bs : List Byte) : keeps [.out, .jobs] s (s.flashed k bs) := by
  have h : keeps [.out, .jobs] s (s.flashOpen.emit (.flash (.read 0))) := by simp [keeps_iff, State.flashOpen, State.emit]
  exact h.trans (modSlot_keeps _ _) (by simp)
theorem flashed_out (k : Nat) (bs : List Byte) :
    (s.flashed k bs).out = s.out ++ [.flash (.command 0x66), .flash (.command 0x99), .flash .sfdp, .flash (.read 0)] := by
  simp [State.flashed, State.flashOpen, State.emit, State.jobProgress, State.modSlot, State.setSlot]
theorem flashed_slot (k : Nat) (bs : List Byte) : (s.flashed k bs).slot k = { s.slot k with total := bs.length / 1024 } := modSlot_slot _ _

/-- What staging an image of a module that loads alone leaves (R98). -/
structure ImgStaged (k : Nat) (bs : List Byte) (i : Image) (s t : State) : Prop where
  img : t.img = { s.img with slot := some k, staged := some i, stagedSrc := 0, phase := .armed (s.tickN + 1) }
  jobs : t.jobs = s.jobs
  stored : t.dramPeek 0 bs.length = bs
  words : t.poolW (resultOff k 0) = 17
  gen : t.poolW (resultOff k 1) = i.generation
  frame : keeps [.img, .mem, .dram] s t
theorem pairLoads_of_twn (h : t.twn = s.twn) : t.pairLoads = s.pairLoads := by simp only [State.pairLoads, State.inPair, h]
theorem tickN_of_sys (h : t.sys = s.sys) : t.tickN = s.tickN := by simp only [State.tickN, h]
theorem imgStage_alone (hpair : s.pairLoads = false) : s.imgStage k 0 bs i =
    ((s.engineWrite 0 bs).resultWrite k (imgWords i.known)).modImg (fun p => { p with slot := some k, staged := some i, stagedSrc := 0, phase := .armed (s.tickN + 1) }) := by
  have hw := engineWrite_keeps (s := s) 0 bs
  have hwrite := resultWrite_keeps (s := s.engineWrite 0 bs) k (imgWords i.known)
  unfold State.imgStage
  dsimp only
  rw [if_neg (c := 0 = 3) (by decide)]
  have htwn : ((s.engineWrite 0 bs).resultWrite k (imgWords i.known)).twn = s.twn :=
    (hwrite.part (p := .twn) (by simp)).trans (hw.part (p := .twn) (by simp))
  have hsys : ((s.engineWrite 0 bs).resultWrite k (imgWords i.known)).sys = s.sys :=
    (hwrite.part (p := .sys) (by simp)).trans (hw.part (p := .sys) (by simp))
  generalize (s.engineWrite 0 bs).resultWrite k (imgWords i.known) = u at *
  have hpair' : (u.modImg (fun p => { p with slot := some k, staged := some i, stagedSrc := 0 })).pairLoads = false :=
    (pairLoads_of_twn (s := u) rfl).trans ((pairLoads_of_twn htwn).trans hpair)
  have htick : (u.modImg (fun p => { p with slot := some k, staged := some i, stagedSrc := 0 })).tickN = s.tickN :=
    (tickN_of_sys (s := u) rfl).trans (tickN_of_sys hsys)
  rw [if_neg (by rw [hpair']; simp), htick]
  rfl
theorem imgStage_staged (hpair : s.pairLoads = false) (hfrozen : s.dram.frozen = false) (hlen : bs.length % 8 = 0) : ImgStaged k bs i s (s.imgStage k 0 bs i) := by
  rw [imgStage_alone hpair]
  have hback := dramPeek_engineWrite (s := s) (a := 0) (bs := bs) hfrozen rfl hlen
  have hw := engineWrite_keeps (s := s) 0 bs
  generalize s.engineWrite 0 bs = u at *
  have hlen17 := length_imgWords i.known
  have hword := poolW_resultWrite (s := u) k (ws := imgWords i.known) (by omega) (i := 0) (by omega)
  have hcount := poolW_resultWrite_count (s := u) k (ws := imgWords i.known) (by omega)
  rw [hlen17] at hcount
  have hwrite := resultWrite_keeps (s := u) k (imgWords i.known)
  have himg : (u.resultWrite k (imgWords i.known)).img = s.img := (hwrite.part (p := .img) (by simp)).trans (hw.part (p := .img) (by simp))
  have hjobs : (u.resultWrite k (imgWords i.known)).jobs = s.jobs := (hwrite.part (p := .jobs) (by simp)).trans (hw.part (p := .jobs) (by simp))
  have hdram : (u.resultWrite k (imgWords i.known)).dram = u.dram := rfl
  have hkeep : keeps [.img, .mem, .dram] s (u.resultWrite k (imgWords i.known)) := (hw.mono (by simp)).trans hwrite (by simp)
  generalize u.resultWrite k (imgWords i.known) = v at *
  refine ⟨?_, hjobs, (dramPeek_of_dram hdram _ _).trans hback, hcount, hword, hkeep.trans (u := v.modImg _) (qs := [.img]) (by simp [keeps_iff, State.modImg]) (by simp)⟩
  rw [State.modImg, himg]

theorem imgAbort_aborted (k : Nat) : ((s.imgAbort k).slot k).st = .aborted ∧ (s.imgAbort k).poolW (resultOff k 18) = 4 ∧
    (s.imgAbort k).img.running = s.img.running ∧ keeps [.jobs, .img, .mem] s (s.imgAbort k) := by
  obtain ⟨known, heq⟩ : ∃ known, s.imgAbort k = (s.imgIdle.resultWrite k (imgWords known ++ [4, 0, 0])).jobAborted k := ⟨_, rfl⟩
  rw [heq]
  obtain ⟨-, -, hout, -⟩ := poolW_imgEnd s.imgIdle k known 4 0 0
  have hwrite := resultWrite_keeps (s := s.imgIdle) k (imgWords known ++ [4, 0, 0])
  have hidle : keeps [.jobs, .img, .mem] s s.imgIdle := by simp [keeps_iff, State.imgIdle, State.modImg]
  have himg : (s.imgIdle.resultWrite k (imgWords known ++ [4, 0, 0])).img.running = s.img.running := rfl
  generalize s.imgIdle.resultWrite k (imgWords known ++ [4, 0, 0]) = u at *
  exact ⟨congrArg JobSlot.st (modSlot_slot (s := u) k _), hout, himg, (hidle.trans hwrite (by simp)).trans (modSlot_keeps _ _) (by simp)⟩

/-! ## The partner's report -/

theorem exec_verdict {ss fp : List Byte} {k : Nat} (code : Byte) (hk : k < 16) (hst : (s.slot k).st = .running) (hkind : (s.slot k).kind = 1) (hfin : (s.slot k).fin = none)
    (hlink : s.twn.linkUp = true) : exec (.imgTwinReport ss fp (.verdict code)) s = doneCore s
      (((if code = 0 then (s.modImg (fun p => { p with ssig1 := ss, fprint1 := fp })).modTwn (fun x => { x with partnerImage := true }) else s).modImg
        (fun p => { p with partnerCode := some code.toNat })).imgDecide none) := by
  have hmem : k ∈ s.slotsWith (fun j => j.busy && (j.kind == 1 || j.kind == 2) && j.fin.isNone) :=
    List.mem_filter.mpr ⟨slotNums_mem hk, by simp [JobSlot.busy, hst, hkind, hfin]⟩
  have hloads : (!(s.slotsWith (fun j => j.busy && (j.kind == 1 || j.kind == 2) && j.fin.isNone)).isEmpty) = true := by
    cases h : s.slotsWith (fun j => j.busy && (j.kind == 1 || j.kind == 2) && j.fin.isNone) with
    | nil => rw [h] at hmem; cases hmem
    | cons => rfl
  show execImgTwinReport ss fp (.verdict code) s = _
  unfold execImgTwinReport
  rw [hlink]
  dsimp only
  rw [hloads]
  rfl
/-- The partner's answer is the last thing that a load of the pair waits for (R106). -/
theorem imgDecide_reported {c : Nat} (named : Option Nat) (hphase : s.img.phase = .reported) (hslot : s.img.slot = some k) (hstaged : s.img.staged = some i)
    (hcode : s.img.partnerCode = some c) : s.imgDecide named = (match s.imgAgreed k i c with
     | .error e => s.imgRefuse k e 0xFF i.known
     | .ok rs =>
       if s.twn.role = .active then (s.imgNamed k (s.tickN + 3) rs).emit (.twin 15 [s.tickN + 3])
       else match named with
         | some t => s.imgNamed k t rs
         | none => s) := by
  unfold State.imgDecide
  rw [hphase, hslot, hstaged, hcode] <;> rfl
theorem imgNamed_load (n : Nat) (rs : List (Nat × Nat)) (hkind : (s.slot k).kind = 1) :
    s.imgNamed k n rs = s.modImg (fun p => { p with partnerCode := none, phase := .armed n }) := if_pos hkind
/-- The state in which a load of the pair has the partner's digests (R106). -/
def State.heard (s : State) (ss fp : List Byte) : State :=
  ((s.modImg (fun p => { p with ssig1 := ss, fprint1 := fp })).modTwn (fun x => { x with partnerImage := true })).modImg (fun p => { p with partnerCode := some 0 })
theorem heard_keeps (ss fp : List Byte) : keeps [.img, .twn] s (s.heard ss fp) := by simp [keeps_iff, State.heard, State.modImg, State.modTwn]
theorem imgAgreed_load (hsig : s.img.ssig1 = i.ssig) (hprint : s.img.fprint1 = i.fprint) (hkind : (s.slot k).kind = 1) : s.imgAgreed k i 0 = .ok [] := by
  rw [State.imgAgreed, if_neg (by simp), if_neg (by simp [hsig, hprint]), if_pos hkind]
theorem imgAgreed_refused {c : Nat} (h : c ≠ 0) : s.imgAgreed k i c = .error c := if_pos h
theorem imgAgreed_mismatch (h : s.img.ssig1 ≠ i.ssig) : s.imgAgreed k i 0 = .error 0x50 := by
  rw [State.imgAgreed, if_neg (by simp), if_pos (.inl h)]

/-- A refusal after the source was opened, seen from before. -/
theorem ImgRefused.opened {u : State} (hr : ImgRefused k code sec known u t) (hu : keeps [.out, .jobs] s u) : t.img.running = s.img.running ∧ t.img.phase = .idle ∧
    counted IMG_FAILS 1 s t ∧ regsOnly [IMG_FAIL, IMG_FAILS, IMG_STAT] s t ∧ keeps [.regs, .out, .jobs, .img, .mem] s t ∧ t.out = u.out := by
  have himg : u.img = s.img := hu.part (p := .img) (by simp)
  have hrd := rd_of_regs (hu.part (p := .regs) (by simp))
  refine ⟨(congrArg ImgSt.running hr.img).trans (show u.img.running = _ by rw [himg]), congrArg ImgSt.phase hr.img, ?_, fun a ha => (hr.regs a ha).trans (hrd a),
    (hu.mono (by simp)).trans hr.frame (by simp), hr.frame.part (p := .out) (by simp)⟩
  have h := hr.fails
  rwa [counted, hrd] at h
theorem flashOpen_out : s.flashOpen.out = s.out ++ [.flash (.command 0x66), .flash (.command 0x99), .flash .sfdp] := by
  simp [State.flashOpen, State.emit]

/-- Settles O17: what phase 1 refuses, stages, gives up and agrees on with the partner. -/
theorem imagePhase1 : Obligations.ImagePhase1 := by
  intro s k bytes ss fp code i n hst hkind hfin hfrozen
  refine ⟨fun hslot hphase hpair hgo hsrc => ?_, fun hslot hphase hpair hgo hgrant hsrc hsize => ?_, fun hslot hphase hpair hgo hsrc h4 hmagic hsize => ?_,
    fun hslot hphase habort => ?_, fun hslot hphase hpair hpcie hsrc => ?_, fun hslot hphase hstaged hlink hrole hss hfp => ?_,
    fun hslot hphase hstaged hcode hsig hprint hlink hrole => ?_, fun hslot hphase hstaged hlink hcode => ?_, fun hslot hphase hstaged hlink hss => ?_⟩
  · have hexec := exec_imgLoad none hst (imgReady_load hst hkind hfin hslot hphase) hgo
    rw [imgPhase1_none hsrc, imgRefuseTell_alone (by exact (pairLoads_of_twn (s := s) rfl).trans hpair)] at hexec
    have hr := imgRefuse_refused (s := s.flashOpen) k.val 0x4E 0xFF { gen := 0, ssig := [], fprint := [] }
    have hslot' : s.flashOpen.slot k.val = s.slot k.val := rfl
    have hout := flashOpen_out (s := s)
    obtain ⟨hrun, hidle, hcount, hregs, hkeep, hsame⟩ := hr.opened (flashOpen_keeps.mono (by simp))
    generalize s.flashOpen.imgRefuse k.val 0x4E 0xFF { gen := 0, ssig := [], fprint := [] } = t at *
    have hst' : (t.slot k.val).st = .running := (congrArg JobSlot.st hr.slot).trans (by rw [hslot']; exact hst)
    exact leads_doneCore hexec ⟨congrArg JobSlot.fin hr.slot, hst', hrun, hidle, hr.fail, hcount, hr.stat, hr.words, hr.outcome, hr.error, hr.gen,
      hsame.trans hout, hregs, hkeep.answered⟩
  · have hexec := exec_imgLoad (some bytes) hst (imgReady_load hst hkind hfin hslot hphase) hgo
    rw [imgPhase1_flash hsrc hkind hfrozen hsize, hgrant] at hexec
    have hf := flashed_keeps (s := s) k.val bytes
    have hout := flashed_out (s := s) k.val bytes
    have hpair' : (s.flashed k.val bytes).pairLoads = false := (pairLoads_of_twn (hf.part (p := .twn) (by simp))).trans hpair
    have hfrozen' : (s.flashed k.val bytes).dram.frozen = false := (show (s.flashed k.val bytes).dram = s.dram from hf.part (p := .dram) (by simp)) ▸ hfrozen
    have hslot' := flashed_slot (s := s) k.val bytes
    have htick : (s.flashed k.val bytes).tickN = s.tickN := tickN_of_sys (hf.part (p := .sys) (by simp))
    have himg : (s.flashed k.val bytes).img = s.img := hf.part (p := .img) (by simp)
    generalize s.flashed k.val bytes = u at *
    obtain ⟨known, res, hcheck⟩ : ∃ known res, checkImage s.imgTarget bytes = (known, res) := ⟨_, _, rfl⟩
    rw [hcheck] at hexec ⊢
    cases res with
    | error f =>
      dsimp only at hexec
      rw [imgRefuseTell_alone hpair'] at hexec
      have hr := imgRefuse_refused (s := u) k.val f.code f.sec known
      obtain ⟨hrun, hidle, hcount, hregs, hkeep, hsame⟩ := hr.opened (hf.mono (by simp))
      generalize u.imgRefuse k.val f.code f.sec known = t at *
      refine leads_doneCore hexec ⟨hrun, hsame.trans hout, fun e he => ?_, fun x hx => (nomatch hx)⟩
      obtain rfl := Except.error.inj he
      exact ⟨congrArg JobSlot.fin hr.slot, hr.fail, hcount, hidle, hr.outcome, hregs, hkeep.answered⟩
    | ok x =>
      dsimp only at hexec
      rw [Bool.not_true, Bool.false_and, if_neg Bool.false_ne_true] at hexec
      by_cases htrust : (s.bit IMG_TRUST_CTL 0 && !s.trustedSsig x.ssig) = true
      · rw [if_pos htrust, imgRefuseTell_alone hpair'] at hexec
        have hr := imgRefuse_refused (s := u) k.val 0x4F 0xFF x.known
        obtain ⟨hrun, -, -, -, -, hsame⟩ := hr.opened (hf.mono (by simp))
        generalize u.imgRefuse k.val 0x4F 0xFF x.known = t at *
        refine leads_doneCore hexec ⟨hrun, hsame.trans hout, fun e he => (nomatch he), fun y _ _ hoff => ?_⟩
        rw [hoff] at htrust
        cases htrust
      · rw [if_neg htrust] at hexec
        have hlen : bytes.length % 16 = 0 := checkImage_ok_length (x := s.imgTarget) (i := x) (by rw [hcheck])
        have hs := imgStage_staged (k := k.val) (i := x) hpair' hfrozen' (show bytes.length % 8 = 0 by omega)
        generalize u.imgStage k.val 0 bytes x = t at *
        have himg' : t.img = { s.img with slot := some k.val, staged := some x, stagedSrc := 0, phase := .armed (s.tickN + 1) } := by
          rw [hs.img, himg, htick]
        have hjob : t.slot k.val = { s.slot k.val with total := bytes.length / 1024 } := (slot_of_jobs hs.jobs k.val).trans hslot'
        refine leads_doneCore hexec ⟨(congrArg ImgSt.running himg' :), (hs.frame.part (p := .out) (by simp)).trans hout, fun e he => (nomatch he), fun y hy _ _ => ?_⟩
        obtain rfl := Except.ok.inj hy
        exact ⟨(congrArg ImgSt.staged himg' :), (congrArg ImgSt.phase himg' :), (congrArg ImgSt.slot himg' :), hs.stored, (congrArg JobSlot.st hjob).trans hst,
          (congrArg JobSlot.fin hjob).trans hfin, hs.words, hs.gen, ((hf.mono (by simp)).trans hs.frame (by simp)).answered⟩
  · have hexec := exec_imgLoad (some bytes) hst (imgReady_load hst hkind hfin hslot hphase) hgo
    obtain ⟨known, hcheck⟩ := checkImage_badMagic (x := s.imgTarget) h4 hmagic
    rw [imgPhase1_flash hsrc hkind hfrozen hsize, hcheck] at hexec
    dsimp only at hexec
    rw [imgRefuseTell_alone ((pairLoads_of_twn ((flashed_keeps (s := s) k.val bytes).part (p := .twn) (by simp))).trans hpair)] at hexec
    have hr := imgRefuse_refused (s := s.flashed k.val bytes) k.val 0x40 0xFF known
    generalize (s.flashed k.val bytes).imgRefuse k.val 0x40 0xFF known = t at *
    exact leads_doneCore hexec ⟨congrArg JobSlot.fin hr.slot, hr.fail⟩
  · have hexec : exec (.imgLoad k (some bytes)) s = doneCore s (s.imgAbort k.val) := by
      show doneCore s (s.imgRun k.val 1 (some bytes)) = _
      rw [imgRun_running _ hst (imgReady_load hst hkind hfin hslot hphase), habort]
      rfl
    obtain ⟨hend, hout, hrun, hkeep⟩ := imgAbort_aborted (s := s) k.val
    generalize s.imgAbort k.val = t at *
    exact leads_doneCore hexec ⟨hend, hout, hrun, hkeep.answered⟩
  · have hexec : exec (.imgDmaTimeout k) s = doneCore s (s.imgRefuseTell k.val 0x4E 0xFF { gen := 0, ssig := [], fprint := [] }) := by
      show execImgDmaTimeout k s = _
      unfold execImgDmaTimeout
      dsimp only
      rw [imgReady_load hst hkind hfin hslot hphase, hsrc, hpcie]
      rfl
    rw [imgRefuseTell_alone hpair] at hexec
    have hr := imgRefuse_refused (s := s) k.val 0x4E 0xFF { gen := 0, ssig := [], fprint := [] }
    generalize s.imgRefuse k.val 0x4E 0xFF { gen := 0, ssig := [], fprint := [] } = t at *
    exact leads_doneCore hexec ⟨congrArg JobSlot.fin hr.slot, hr.fail, hr.fails, (congrArg ImgSt.running hr.img :), hr.outcome, hr.regs, hr.frame.answered⟩
  · have hexec := exec_verdict (ss := ss) (fp := fp) (k := k.val) 0 k.isLt hst hkind hfin hlink
    rw [if_pos rfl] at hexec
    change _ = doneCore s ((s.heard ss fp).imgDecide none) at hexec
    rw [imgDecide_reported (s := s.heard ss fp) (k := k.val) (i := i) (c := 0) none hphase hslot hstaged rfl, imgAgreed_load (s := s.heard ss fp) (k := k.val) hss hfp hkind] at hexec
    dsimp only at hexec
    rw [if_pos (by exact hrole), imgNamed_load _ _ (by exact hkind)] at hexec
    refine leads_doneCore hexec ⟨rfl, hstaged, rfl, rfl, rfl, rfl, ?_⟩
    exact keeps.answered (t := State.emit ((s.heard ss fp).modImg _) _) (by simp [keeps_iff, State.heard, State.modImg, State.modTwn, State.emit])
  · have hexec : exec (.imgTwinReport ss fp (.boundary n)) s = doneCore s (s.imgDecide (some n)) := by
      show execImgTwinReport ss fp (.boundary n) s = _
      rw [execImgTwinReport, hlink]
      rfl
    rw [imgDecide_reported _ hphase hslot hstaged hcode, imgAgreed_load hsig hprint hkind] at hexec
    dsimp only at hexec
    rw [if_neg (by rw [hrole]; decide), imgNamed_load _ _ hkind] at hexec
    exact leads_doneCore hexec ⟨rfl, keeps.answered (t := s.modImg _) (by simp [keeps_iff, State.modImg])⟩
  · have hexec := exec_verdict (ss := ss) (fp := fp) (k := k.val) code k.isLt hst hkind hfin hlink
    have hcode' : code.toNat ≠ 0 := fun h => hcode (BitVec.eq_of_toNat_eq h)
    rw [if_neg hcode, imgDecide_reported (s := s.modImg (fun p => { p with partnerCode := some code.toNat })) (k := k.val) (i := i) (c := code.toNat) none hphase hslot hstaged rfl, imgAgreed_refused hcode'] at hexec
    dsimp only at hexec
    have hr := imgRefuse_refused (s := s.modImg (fun p => { p with partnerCode := some code.toNat })) k.val code.toNat 0xFF i.known
    generalize State.imgRefuse (s.modImg (fun p => { p with partnerCode := some code.toNat })) k.val code.toNat 0xFF i.known = t at *
    refine leads_doneCore hexec ⟨(congrArg JobSlot.fin hr.slot).trans ?_, (congrArg ImgSt.phase hr.img :), (congrArg ImgSt.staged hr.img :), (congrArg ImgSt.running hr.img :), hr.fails, hr.regs, ?_⟩
    · simp
    · have h : keeps [.regs, .jobs, .img, .mem] s (s.modImg (fun p => { p with partnerCode := some code.toNat })) := by simp [keeps_iff, State.modImg]
      exact (h.trans hr.frame (by simp)).answered
  · have hexec := exec_verdict (ss := ss) (fp := fp) (k := k.val) 0 k.isLt hst hkind hfin hlink
    rw [if_pos rfl] at hexec
    change _ = doneCore s ((s.heard ss fp).imgDecide none) at hexec
    rw [imgDecide_reported (s := s.heard ss fp) (k := k.val) (i := i) (c := 0) none hphase hslot hstaged rfl, imgAgreed_mismatch (s := s.heard ss fp) (k := k.val) hss] at hexec
    dsimp only at hexec
    have hr := imgRefuse_refused (s := s.heard ss fp) k.val 0x50 0xFF i.known
    generalize (s.heard ss fp).imgRefuse k.val 0x50 0xFF i.known = t at *
    exact leads_doneCore hexec ⟨congrArg JobSlot.fin hr.slot, (congrArg ImgSt.phase hr.img :), (congrArg ImgSt.running hr.img :),
      (((heard_keeps ss fp).mono (by simp)).trans hr.frame (by simp)).answered⟩
end Sys2Proof.Machine
end

section
/-! SUPPORT. Grafts (R107, R110, R111): taking up an image at t1, the carried state, and the exchange of the roles at t2. -/

namespace Sys2Proof.Machine

variable {s t u : State} {i o : Image} {k n : Nat} {bs : List Byte}

/-! ## Phase 1 of a graft -/

theorem imgReady_graft (hst : (s.slot k).st = .running) (hkind : (s.slot k).kind = 2) (hfin : (s.slot k).fin = none) (hslot : s.img.slot = none)
    (hphase : s.img.phase = .idle) : s.imgReady k 2 = true := by
  rw [State.imgReady, State.runsJob, hst, hkind, hfin, hslot, hphase]
  rfl
theorem imgPhase1_graft (hsrc : fld ((s.slot k).arg 0) 3 0 = 0) (hkind : (s.slot k).kind = 2) (hfrozen : s.dram.frozen = false) (hsize : 16777216 ≤ s.dramSize)
    (htrust : s.bit IMG_TRUST_CTL 0 = false) : s.imgPhase1 k (some bs) = (match checkImage s.imgTarget bs with
      | (known, .error f) => (s.flashed k bs).imgRefuseTell k f.code f.sec known
      | (_, .ok i) => if s.pairLoads then (s.flashed k bs).imgStage k 0 bs i else (s.flashed k bs).imgRefuse k 0x51 0xFF i.known) := by
  unfold State.imgPhase1
  dsimp only
  rw [hsrc, State.imgSource, if_pos (by decide), hkind, hfrozen, decide_eq_false (Nat.not_lt.mpr hsize)]
  have htrust' : (s.flashed k bs).bit IMG_TRUST_CTL 0 = false := htrust
  have hpair' : (s.flashed k bs).pairLoads = s.pairLoads := pairLoads_of_twn ((flashed_keeps k bs).part (p := .twn) (by simp))
  change (match checkImage s.imgTarget bs with
    | (known, .error f) => (s.flashed k bs).imgRefuseTell k f.code f.sec known
    | (_, .ok i) =>
      if !true && !(s.slot k).granted && !(s.img.shown.isNone && s.trustedSsig i.ssig) then ((s.flashed k bs).deny 1 2 (jobCmdA k)).imgRefuseTell k 0x03 0xFF i.known
      else if (s.flashed k bs).bit IMG_TRUST_CTL 0 && !s.trustedSsig i.ssig then (s.flashed k bs).imgRefuseTell k 0x4F 0xFF i.known
      else if true && !(s.flashed k bs).pairLoads then (s.flashed k bs).imgRefuse k 0x51 0xFF i.known
      else (s.flashed k bs).imgStage k 0 bs i) = _
  rw [htrust', hpair']
  split
  · rfl
  · cases s.pairLoads <;> rfl

/-- A refusal, told to the partner or not. -/
theorem imgRefuseTell_leaves (k code sec : Nat) (known : ImgKnown) (ht : t = s.imgRefuseTell k code sec known) : t.slot k = { s.slot k with fin := some (BitVec.ofNat 8 code) } ∧
    t.img = { s.img with phase := .idle, slot := none, staged := none, carry := [], partnerCode := none } ∧ keeps [.regs, .out, .jobs, .img, .mem] s t := by
  have hr := imgRefuse_refused (s := s) k code sec known
  unfold State.imgRefuseTell State.when at ht
  generalize s.imgRefuse k code sec known = u at *
  have hk : keeps [.regs, .out, .jobs, .img, .mem] s u := hr.frame.mono (by simp)
  split_ifs at ht
  · subst ht
    exact ⟨hr.slot, hr.img, hk.trans (qs := [.out]) (by simp [keeps_iff, State.emit]) (by simp)⟩
  · subst ht
    exact ⟨hr.slot, hr.img, hk⟩

/-- A load that has not heard from its partner waits. -/
theorem imgDecide_waiting (named : Option Nat) (h : s.img.partnerCode = none) : s.imgDecide named = s := by
  unfold State.imgDecide
  rw [h]
  split
  · next hcode => cases hcode
  · rfl
/-- What staging an image that the partner is still to agree to leaves (R106, R107). -/
theorem imgStage_reported (hpair : s.pairLoads = true) (hcode : s.img.partnerCode = none) (hphase : t = s.imgStage k 0 bs i) :
    t.img = { s.img with slot := some k, staged := some i, stagedSrc := 0, phase := .reported } ∧ keeps [.out, .img, .mem, .dram] s t := by
  have hw := engineWrite_keeps (s := s) 0 bs
  have hwrite := resultWrite_keeps (s := s.engineWrite 0 bs) k (imgWords i.known)
  unfold State.imgStage at hphase
  dsimp only at hphase
  rw [if_neg (c := 0 = 3) (by decide)] at hphase
  have hkeep : keeps [.out, .img, .mem, .dram] s ((s.engineWrite 0 bs).resultWrite k (imgWords i.known)) := (hw.mono (by simp)).trans hwrite (by simp)
  have htwn : ((s.engineWrite 0 bs).resultWrite k (imgWords i.known)).twn = s.twn :=
    (hwrite.part (p := .twn) (by simp)).trans (hw.part (p := .twn) (by simp))
  have himg : ((s.engineWrite 0 bs).resultWrite k (imgWords i.known)).img = s.img :=
    (hwrite.part (p := .img) (by simp)).trans (hw.part (p := .img) (by simp))
  generalize (s.engineWrite 0 bs).resultWrite k (imgWords i.known) = u at *
  have hpair' : (u.modImg (fun p => { p with slot := some k, staged := some i, stagedSrc := 0 })).pairLoads = true :=
    (pairLoads_of_twn (s := u) rfl).trans ((pairLoads_of_twn htwn).trans hpair)
  have hcode' : u.img.partnerCode = none := by rw [himg]; exact hcode
  rw [if_pos hpair', imgDecide_waiting _ (by exact hcode')] at hphase
  subst hphase
  refine ⟨?_, hkeep.trans (qs := [.out, .img]) (by simp [keeps_iff, State.modImg, State.emit]) (by simp)⟩
  rw [← himg]
  rfl

/-! ## Taking up an image -/

theorem coresRevived_rd {a : Nat} (h : ∀ j, a ≠ FUL_STAT j) : s.coresRevived.rd a = s.rd a := by
  unfold State.coresRevived
  induction coreNums generalizing s with
  | nil => rfl
  | cons j js ih => exact (ih (s := s.unflag (FUL_STAT j) 5)).trans (rd_wr_ne _ _ (h j))
theorem coresRevived_keeps : keeps [.regs] s s.coresRevived := by
  unfold State.coresRevived
  induction coreNums generalizing s with
  | nil => exact keeps.refl _ _
  | cons j js ih => exact keeps.trans (t := s.unflag (FUL_STAT j) 5) (by simp [keeps_iff, State.unflag]) ih (by simp)
/-- The state in which the module runs the image's sections and shows it, from the pair (R110). -/
def State.takenUp (s : State) (i : Image) : State := ((s.distribute i).heldApply).imgShow 4
/-- The distribution up to the image's registers. -/
def State.emptied (s : State) : State := ((s.clearAll true).portsClear).coresRevived
theorem emptied_keeps : keeps [.regs, .mem, .cores, .canopy, .ports] s s.emptied := by
  have h : keeps [.regs, .mem, .cores, .canopy, .ports] s (s.clearAll true).portsClear := by
    simp [keeps_iff, State.clearAll, State.portsClear, State.clearGain, State.clearFuller, State.clearPool, State.modMem]
  exact h.trans coresRevived_keeps (by simp)
theorem emptied_rd {a : Nat} (h1 : a ≠ MEM_CLEAR_TIME) (h : ∀ j, a ≠ FUL_STAT j) : s.emptied.rd a = s.rd a :=
  (coresRevived_rd h).trans ((rd_of_regs (show (s.clearAll true).portsClear.regs = (s.wr MEM_CLEAR_TIME 0x4B0).regs from rfl) a).trans (rd_wr_ne s _ h1))
theorem takenUp_of_noRegs (hreg : i.reginit = []) : (s.takenUp i).img = { s.img with running := some i, heldEnables := [], shown := some i, source := 4 } ∧
    (s.takenUp i).canopy = canopyOf i.structure' ∧ (s.takenUp i).regs = s.emptied.regs ∧ keeps [.regs, .img, .graph, .canopy, .cores, .ports, .net, .mem] s (s.takenUp i) := by
  have himg : s.emptied.img = s.img := emptied_keeps.part (p := .img) (by simp)
  have hkeep := emptied_keeps (s := s)
  have hdist : s.distribute i = State.reginit (State.modImg { s.emptied with
      graph := { graphInit s.emptied.graph s.struct i.structure' with dma := s.emptied.graph.dma }
      canopy := canopyOf i.structure'
      cores := (coreNums.filter (fun k => i.progs.any (fun (q : W64 × List W64) => q.1.getLsbD k) || i.datas.any (fun d => d.1 == k)
        || (spFind i.structure'.cores k).isSome)).map (fun k => (k, coreOf i k))
      net := { s.emptied.net with streams := s.emptied.streamsKept i.structure' } } (fun p => { p with running := some i })) i.reginit := rfl
  unfold State.takenUp
  rw [hdist, hreg]
  generalize s.emptied = u at *
  rw [← himg]
  refine ⟨rfl, rfl, rfl, hkeep.mono (by simp) |>.trans (qs := [.graph, .canopy, .cores, .net, .img]) ?_ (by simp)⟩
  simp [keeps_iff, State.reginit, State.heldApply, State.imgShow, State.modImg, foldS]

theorem takenUp_pends {e : Nat} (hregs : (s.takenUp i).regs = s.emptied.regs) (he : e < 128) : (s.takenUp i).pends e = s.pends e := by
  refine congrArg (bitOf · _) ((rd_of_regs hregs _).trans (emptied_rd ?_ fun j => ?_))
  · simp only [EVT_PEND, MEM_CLEAR_TIME]
    omega
  · simp only [EVT_PEND, FUL_STAT]
    omega

/-! ## Taking the role -/

theorem steer_keeps : keeps [.ports] s s.steer := by simp [keeps_iff, State.steer]
/-- The register and event effects of a change of reference (R272). -/
theorem switchTo_leaves (target : Nat) : keeps [.regs, .out, .mon, .sys, .clk, .ports] s (s.switchTo target) ∧ regsKeep [CLK_SWITCHES, CLK_STAT] s (s.switchTo target) ∧
    (s.switchTo target).sys.answering = s.sys.answering := by
  unfold State.switchTo
  extract_lets c y t0 bo t1 t2 t3
  have h0 : keeps [.regs, .out, .mon, .sys, .clk, .ports] s t0 ∧ t0.regs = s.regs ∧ t0.sys.answering = s.sys.answering := by
    simp only [t0]
    split_ifs <;> simp [keeps_iff, y]
  obtain ⟨hk0, hr0, ha0⟩ := h0
  clear_value t0
  have hk1 : keeps [.regs, .out, .mon, .sys, .clk, .ports] s t1 := hk0.trans (qs := [.clk]) (by simp [keeps_iff, t1, State.modClk]) (by simp)
  have hr1 : t1.regs = s.regs := hr0
  have ha1 : t1.sys.answering = s.sys.answering := ha0
  clear_value t1
  have hk2 : keeps [.regs, .out, .mon, .sys, .clk, .ports] s t2 :=
    (hk1.trans steer_keeps (by simp)).trans (qs := [.regs]) (by simp [keeps_iff, t2, State.count]) (by simp)
  have hr2 : regsKeep [CLK_SWITCHES, CLK_STAT] s t2 := ((regsKeep_of_regs (t := t1.steer) hr1).count (by simp)).flag (by simp)
  have ha2 : t2.sys.answering = s.sys.answering := ha1
  clear_value t2
  have h3 : keeps [.regs, .out, .mon, .sys, .clk, .ports] s t3 ∧ regsKeep [CLK_SWITCHES, CLK_STAT] s t3 ∧ t3.sys.answering = s.sys.answering := by
    simp only [t3]
    split_ifs
    · exact ⟨hk2.flagRaise (by simp), hr2.flagRaise (by simp), (flagRaise_only _ _ _ _).sys_answering.trans ha2⟩
    · exact ⟨hk2, hr2, ha2⟩
  obtain ⟨hk3, hr3, ha3⟩ := h3
  exact ⟨hk3.raise (by simp), hr3.raise, (raise_only _ _).sys_answering.trans ha3⟩
/-- The new active's part of the pair. -/
def TwnSt.taken (x : TwnSt) (b : Nat) : TwnSt :=
  { x with role := .active, roleTx := true, selOut := true, activeSince := b, misses := 0, orphans := [], faultP := false, faultClosed := false, partnerStep := false }
/-- The taking of the role, with the word that TWN_LAST_TAKE shows (R421). -/
def State.takes (s : State) (v : W32) : State :=
  let t := ((s.modTwn (fun x => x.taken s.tickN)).count TWN_TAKEOVERS 1).wr TWN_LAST_TAKE v
  (if s.sys.mediaRun then t.clkTakeover else t).flagRaise TWN_STAT 3 98
theorem takeover_takes (cause : Nat) : s.takeover cause = s.takes (w32 (cause * 2 ^ 28 + s.tickN % 2 ^ 28)) := rfl
/-- What the new active's takeover leaves (R420, R421). -/
theorem takes_leaves (v : W32) (hmedia : s.sys.mediaRun = true) : (s.takes v).twn = s.twn.taken s.tickN ∧
    counted TWN_TAKEOVERS 1 s (s.takes v) ∧ raised 98 s (s.takes v) ∧ (s.takes v).bit TWN_STAT 3 = true ∧
    keeps [.regs, .out, .mon, .sys, .clk, .ports, .twn] s (s.takes v) ∧ (s.takes v).sys.answering = s.sys.answering := by
  unfold State.takes
  extract_lets t1
  have hk1 : keeps [.regs, .twn] s t1 := by simp [keeps_iff, t1, State.modTwn, State.count]
  have hcount : counted TWN_TAKEOVERS 1 s t1 := counted.wr (counted_count rfl) (by decide)
  have htwn : t1.twn = s.twn.taken s.tickN := rfl
  have hsys : t1.sys = s.sys := hk1.part (p := .sys) (by simp)
  clear_value t1
  rw [if_pos hmedia]
  unfold State.clkTakeover
  obtain ⟨hk2, hr2, ha2⟩ := switchTo_leaves (s := t1) (t1.bestRef.getD 6)
  generalize t1.switchTo (t1.bestRef.getD 6) = t2 at *
  have hk : keeps [.regs, .out, .mon, .sys, .clk, .ports, .twn] s t2 := (hk1.mono (by simp)).trans (hk2.mono (by simp)) (fun _ => id)
  have ha : t2.sys.answering = s.sys.answering := ha2.trans (by rw [hsys])
  have honly := flagRaise_only t2 TWN_STAT 3 98
  refine ⟨?_, ?_, raised_flagRaise hk.2.1 ha, flagRaise_bit _ _ _ _ rfl (by decide), hk.evt (by simp) honly, honly.sys_answering.trans ha⟩
  · exact honly.twn.trans ((hk2.part (p := .twn) (by simp)).trans htwn)
  · exact counted.flagRaise (hcount.of_rd (hr2 _ (by decide) rfl)) (by decide) rfl

theorem resyncStart_leaves (slot : Option Nat) : (s.resyncStart slot).twn = { s.twn with role := .resyncing, phase := 2, outcome := 0, mib := 0, passes := 0, resyncStart := s.tickLo, resyncSlot := slot, matching := 0, bundles := [], orphans := [], digests := [], digestsP := [], faultP := false, faultClosed := false } ∧
    raised 101 s (s.resyncStart slot) ∧ keeps [.regs, .out, .mon, .sys, .twn] s (s.resyncStart slot) := by
  unfold State.resyncStart
  extract_lets t0
  refine ⟨raise_twn _ _, raised_raise rfl rfl, ?_⟩
  have hk0 : keeps [.regs, .out, .mon, .sys, .twn] s t0 := by simp [keeps_iff, t0, State.modTwn]
  exact hk0.raise (by simp)

/-! ## The carried state -/

theorem setCore_keeps (k : Nat) (c : Core) : keeps [.cores] s (s.setCore k c) := by simp [keeps_iff, State.setCore]
theorem carryRegion_keeps (c : StateCopy) (a b : Region) : keeps [.cores, .mem] s (s.carryRegion c a b) := by
  unfold State.carryRegion
  dsimp only
  split
  · exact (setCore_keeps _ _).mono (by simp)
  · exact (setCore_keeps _ _).mono (by simp)
  · simp [keeps_iff, State.poolWr]
  · exact keeps.refl _ _
theorem carryParams_keeps (c : StateCopy) (o : Structure) (p : Nat × CoreInfo) : keeps [.cores] s (s.carryParams c o p) := by
  unfold State.carryParams
  split
  · exact keeps.refl _ _
  · exact setCore_keeps _ _
theorem keeps_fold {α : Type} {ps : List Part} {f : State → α → State} (l : List α) (h : ∀ t a, keeps ps t (f t a)) : keeps ps s (foldS f s l) := by
  induction l generalizing s with
  | nil => exact keeps.refl _ _
  | cons x xs ih => exact (h s x).trans ih (fun _ => id)
/-- What the standby takes over of the state (R110, step 4). -/
theorem graftApply_carries (o n : Image) (c : StateCopy) : (s.graftApply o n c).canopy = c.canopy ∧ (s.graftApply o n c).graph.sels = c.graph.sels ∧
    (s.graftApply o n c).graph.pris = c.graph.pris ∧ keeps [.graph, .canopy, .cores, .mem, .dram] s (s.graftApply o n c) := by
  unfold State.graftApply
  extract_lets pairs t1 d t2 t3 bases
  have hk1 : keeps [.cores, .mem] s t1 := keeps_fold _ fun t q => carryRegion_keeps c q.1 q.2
  clear_value t1
  have hk2 : keeps [.cores, .mem, .dram] s t2 := (hk1.mono (by simp)).trans (qs := [.dram]) (by simp [keeps_iff, t2]) (by simp)
  clear_value t2
  have hk3 : keeps [.cores, .mem, .dram] s t3 := hk2.trans (keeps_fold _ fun t q => carryParams_keeps c o.structure' q) (by simp)
  clear_value t3
  exact ⟨rfl, rfl, rfl, (hk3.mono (by simp)).trans (qs := [.graph, .canopy]) (by simp [keeps_iff]) (by simp)⟩

/-! ## O19: the graft -/

theorem exec_graftT1 (hphase : s.img.phase = .graftT1 (s.tickN + 1)) (hsus : s.twn.suspended = false) (hstaged : s.img.staged = some i) (hlink : s.twn.linkUp = true)
    (hok : (s.twn.role = .active ∧ s.twn.partnerStep = true) ∨ s.twn.role = .standby) : exec .graftT1 s = done s (
      if s.twn.role = .active then s.modTwn (fun x => { x with suspended := true })
      else ((s.modTwn (fun x => { x with suspended := true })).modTwn (fun x => { x with role := .grafting })).takenUp i) := by
  show execGraftT1 s = _
  have hgo : (!s.twn.linkUp || (s.twn.role == .active && !s.twn.partnerStep) || (s.twn.role != .active && s.twn.role != .standby)) = false := by
    rcases hok with ⟨hrole, hstep⟩ | hrole
    · simp [hlink, hrole, hstep]
    · simp [hlink, hrole]
  unfold execGraftT1 State.graftBegin
  rw [hphase, hstaged]
  dsimp only
  rw [if_pos ⟨rfl, by simp [hsus]⟩, hgo]
  rfl
theorem exec_graftStateComplete (copy : StateCopy) (hphase : s.img.phase = .graftT1 n) (hslot : s.img.slot = some k) (hstaged : s.img.staged = some i)
    (hsus : s.twn.suspended = true) (hlink : s.twn.linkUp = true) : exec (.graftStateComplete copy) s = done s (
      let t := (s.jobProgress k ((s.slot k).total + copy.mib)).modImg (fun p => { p with phase := .graftCopied (s.tickN + 1 + ((s.slot k).arg 3).toNat) })
      if s.twn.role = .grafting then
        (match s.img.oldImage with
         | some o => t.graftApply o i copy
         | none => t)
      else t) := by
  show execGraftStateComplete copy s = _
  unfold execGraftStateComplete
  rw [hphase, hslot, hstaged]
  dsimp only
  rw [hsus, hlink]
  rfl
/-- The old active as it gives up the role, before it takes up the new image (R110, step 6). -/
def State.stoodDown (s : State) : State :=
  let t := s.modImg (fun p => { p with phase := .graftSwapped (s.tickN + 1), takeTick := w32 (s.tickN + 1) })
  let t := t.modTwn (fun x => { x with role := .standby, roleTx := false, partnerStep := false, misses := 0, orphans := [], bundles := [] })
  if t.sys.mediaRun then t.modClk (fun c => { c with pll := .locked, selected := 7, target := 7, wtrLeft := none }) else t
theorem stoodDown_leaves : s.stoodDown.img = { s.img with phase := .graftSwapped (s.tickN + 1), takeTick := w32 (s.tickN + 1) } ∧ s.stoodDown.twn.roleTx = false ∧
    keeps [.img, .clk, .twn] s s.stoodDown := by
  unfold State.stoodDown
  dsimp only
  split_ifs
  · exact ⟨rfl, rfl, by simp [keeps_iff, State.modImg, State.modTwn, State.modClk]⟩
  · exact ⟨rfl, rfl, by simp [keeps_iff, State.modImg, State.modTwn]⟩
theorem exec_graftT2 (hphase : s.img.phase = .graftCopied (s.tickN + 1)) (hslot : s.img.slot = some k) (hstaged : s.img.staged = some i) : exec .graftT2 s = done s (
    let t := s.modImg (fun p => { p with phase := .graftSwapped (s.tickN + 1), takeTick := w32 (s.tickN + 1) })
    if s.twn.role = .grafting then (t.takeover 2).raise 99
    else if s.twn.role = .active then ((s.stoodDown.raise 99).takenUp i).resyncStart none
    else t) := by
  show execGraftT2 s = _
  unfold execGraftT2 State.graftSwap
  rw [hphase, hslot, hstaged]
  dsimp only
  rw [if_pos rfl]
  rfl

theorem eventHere_of_fit (h : t.fit = s.fit) (e : Nat) : t.eventHere e = s.eventHere e := by simp only [State.eventHere, h]
/-- Settles O19: each step of a graft by the function that makes it: phase 1, the taking up at t1, the carried state, the roles at t2. -/
theorem graft : Obligations.Graft := by
  intro s i o k bytes n copy
  refine ⟨fun hst hkind hfin hgo hfrozen hslot hphase hsrc hsize hcode htrust hrun => ?_, fun hphase hsus hstaged hlink hrole hstep => ?_,
    fun hphase hsus hstaged hlink hrole hreg => ?_, fun hphase hslot hstaged hsus hlink hrole => ?_, fun hphase hslot hstaged hsus hlink hrole hold => ?_,
    fun hphase hslot hstaged hrole hmedia => ?_, fun hphase hslot hstaged hrole hmedia hreg => ?_⟩
  · have hexec : exec (.graft k (some bytes)) s = doneCore s (s.imgPhase1 k.val (some bytes)) := by
      show doneCore s (s.imgRun k.val 2 (some bytes)) = _
      rw [imgRun_running _ hst (imgReady_graft hst hkind hfin hslot hphase), hgo]
      rfl
    rw [imgPhase1_graft hsrc hkind hfrozen hsize htrust] at hexec
    have hf := flashed_keeps (s := s) k.val bytes
    have hpair' : (s.flashed k.val bytes).pairLoads = s.pairLoads := pairLoads_of_twn (hf.part (p := .twn) (by simp))
    have himg : (s.flashed k.val bytes).img = s.img := hf.part (p := .img) (by simp)
    generalize s.flashed k.val bytes = u at *
    obtain ⟨known, res, hcheck⟩ : ∃ known res, checkImage s.imgTarget bytes = (known, res) := ⟨_, _, rfl⟩
    rw [hcheck] at hexec ⊢
    cases res with
    | error f =>
      dsimp only at hexec
      obtain ⟨hsl, him, hk⟩ := imgRefuseTell_leaves (s := u) k.val f.code f.sec known rfl
      generalize u.imgRefuseTell k.val f.code f.sec known = t at *
      refine leads_doneCore hexec ⟨?_, fun e he => ?_, fun x hx => (nomatch hx), ((hf.mono (by simp)).trans (hk.mono (by simp)) (fun _ => id)).answered⟩
      · exact (congrArg ImgSt.running him :).trans (show u.img.running = _ by rw [himg, hrun])
      · obtain rfl := Except.error.inj he
        exact ⟨congrArg JobSlot.fin hsl, (congrArg ImgSt.phase him :)⟩
    | ok x =>
      dsimp only at hexec
      by_cases hpair : s.pairLoads = true
      · rw [if_pos hpair] at hexec
        obtain ⟨him, hk⟩ := imgStage_reported (s := u) (k := k.val) (bs := bytes) (i := x) (hpair'.trans hpair) (by rw [himg]; exact hcode) rfl
        generalize u.imgStage k.val 0 bytes x = t at *
        refine leads_doneCore hexec ⟨?_, fun e he => (nomatch he), fun y hy => ?_, ((hf.mono (by simp)).trans (hk.mono (by simp)) (fun _ => id)).answered⟩
        · exact (congrArg ImgSt.running him :).trans (show u.img.running = _ by rw [himg, hrun])
        · obtain rfl := Except.ok.inj hy
          rw [if_pos hpair]
          exact ⟨(congrArg ImgSt.phase him :), (congrArg ImgSt.staged him :), (congrArg ImgSt.slot him :)⟩
      · rw [if_neg hpair] at hexec
        have hr := imgRefuse_refused (s := u) k.val 0x51 0xFF x.known
        generalize u.imgRefuse k.val 0x51 0xFF x.known = t at *
        refine leads_doneCore hexec ⟨?_, fun e he => (nomatch he), fun y hy => ?_, ((hf.mono (by simp)).trans (hr.frame.mono (by simp)) (fun _ => id)).answered⟩
        · exact (congrArg ImgSt.running hr.img :).trans (show u.img.running = _ by rw [himg, hrun])
        · rw [if_neg hpair]
          exact ⟨congrArg JobSlot.fin hr.slot, (congrArg ImgSt.phase hr.img :)⟩
  · have hexec := exec_graftT1 hphase hsus hstaged hlink (.inl ⟨hrole, hstep⟩)
    rw [if_pos hrole] at hexec
    exact leads_done hexec ⟨rfl, keeps.answered_cores (t := s.modTwn _) (by simp [keeps_iff, State.modTwn]) (by simp) _⟩
  · have hexec := exec_graftT1 hphase hsus hstaged hlink (.inr hrole)
    rw [if_neg (by rw [hrole]; decide)] at hexec
    have hk0 : keeps [.twn] s ((s.modTwn (fun x => { x with suspended := true })).modTwn (fun x => { x with role := .grafting })) := by simp [keeps_iff, State.modTwn]
    have htwn0 : ((s.modTwn (fun x => { x with suspended := true })).modTwn (fun x => { x with role := .grafting })).twn = { s.twn with suspended := true, role := .grafting } := rfl
    generalize (s.modTwn (fun x => { x with suspended := true })).modTwn (fun x => { x with role := .grafting }) = u at *
    obtain ⟨himg, hcan, -, hk⟩ := takenUp_of_noRegs (s := u) hreg
    generalize u.takenUp i = t at *
    exact leads_done hexec ⟨(hk.part (p := .twn) (by simp)).trans htwn0, (congrArg ImgSt.running himg :), (congrArg ImgSt.shown himg :), (congrArg ImgSt.source himg :), hcan,
      ((hk0.mono (by simp)).trans (hk.mono (by simp)) (fun _ => id)).answered_cores (by simp) _⟩
  · have hexec := exec_graftStateComplete copy hphase hslot hstaged hsus hlink
    dsimp only at hexec
    rw [if_neg (by rw [hrole]; decide)] at hexec
    have hp := modSlot_slot (s := s) k.val (fun j => { j with total := (s.slot k.val).total + copy.mib })
    have hk := modSlot_keeps (s := s) k.val (fun j => { j with total := (s.slot k.val).total + copy.mib })
    change _ = done s (State.modImg (s.modSlot k.val (fun j => { j with total := (s.slot k.val).total + copy.mib })) _) at hexec
    have himg : (s.modSlot k.val (fun j => { j with total := (s.slot k.val).total + copy.mib })).img = s.img := hk.part (p := .img) (by simp)
    generalize s.modSlot k.val (fun j => { j with total := (s.slot k.val).total + copy.mib }) = u at *
    refine leads_done hexec ⟨?_, congrArg JobSlot.total hp, ?_⟩
    · rw [← himg]
      rfl
    · exact keeps.answered_cores (t := u.modImg _) ((hk.mono (by simp)).trans (qs := [.img]) (by simp [keeps_iff, State.modImg]) (by simp)) (by simp) _
  · have hexec := exec_graftStateComplete copy hphase hslot hstaged hsus hlink
    dsimp only at hexec
    rw [if_pos hrole, hold] at hexec
    dsimp only at hexec
    have hk := modSlot_keeps (s := s) k.val (fun j => { j with total := (s.slot k.val).total + copy.mib })
    change _ = done s (State.graftApply (State.modImg (s.modSlot k.val (fun j => { j with total := (s.slot k.val).total + copy.mib })) _) o i copy) at hexec
    have himg : (s.modSlot k.val (fun j => { j with total := (s.slot k.val).total + copy.mib })).img = s.img := hk.part (p := .img) (by simp)
    generalize s.modSlot k.val (fun j => { j with total := (s.slot k.val).total + copy.mib }) = u at *
    have hk1 : keeps [.jobs, .img] s (u.modImg (fun p => { p with phase := .graftCopied (s.tickN + 1 + ((s.slot k.val).arg 3).toNat) })) :=
      (hk.mono (by simp)).trans (qs := [.img]) (by simp [keeps_iff, State.modImg]) (by simp)
    have himg1 : (u.modImg (fun p => { p with phase := .graftCopied (s.tickN + 1 + ((s.slot k.val).arg 3).toNat) })).img =
        { s.img with phase := .graftCopied (s.tickN + 1 + ((s.slot k.val).arg 3).toNat) } := by
      rw [← himg]
      rfl
    generalize u.modImg (fun p => { p with phase := .graftCopied (s.tickN + 1 + ((s.slot k.val).arg 3).toNat) }) = v at *
    obtain ⟨hcan, hsels, hpris, hk2⟩ := graftApply_carries (s := v) o i copy
    generalize v.graftApply o i copy = t at *
    exact leads_done hexec ⟨(hk2.part (p := .img) (by simp)).trans himg1, hcan, hsels, hpris, ((hk1.mono (by simp)).trans (hk2.mono (by simp)) (fun _ => id)).answered_cores (by simp) _⟩
  · have hexec := exec_graftT2 hphase hslot hstaged
    dsimp only at hexec
    rw [if_pos hrole, takeover_takes] at hexec
    have hk0 : keeps [.img] s (s.modImg (fun p => { p with phase := .graftSwapped (s.tickN + 1), takeTick := w32 (s.tickN + 1) })) := by simp [keeps_iff, State.modImg]
    have himg0 : (s.modImg (fun p => { p with phase := .graftSwapped (s.tickN + 1), takeTick := w32 (s.tickN + 1) })).img =
      { s.img with phase := .graftSwapped (s.tickN + 1), takeTick := w32 (s.tickN + 1) } := rfl
    generalize s.modImg (fun p => { p with phase := .graftSwapped (s.tickN + 1), takeTick := w32 (s.tickN + 1) }) = u at *
    generalize w32 (2 * 2 ^ 28 + u.tickN % 2 ^ 28) = last at hexec
    have hsys0 : u.sys = s.sys := hk0.part (p := .sys) (by simp)
    have hregs0 : u.regs = s.regs := hk0.part (p := .regs) (by simp)
    obtain ⟨htwn, hcount, h98, hbit, hk1, hans⟩ := takes_leaves (s := u) last (by rw [hsys0]; exact hmedia)
    have hk1' := (hk0.mono (qs := [.regs, .out, .mon, .sys, .img, .cores, .ports, .clk, .twn]) (by simp)).trans hk1 (by simp)
    have himg1 := (hk1.part (p := .img) (by simp)).trans himg0
    generalize u.takes last = v at *
    have honly := raise_only v 99
    have hkept := hk1'.evt (by simp) honly
    have htwn' := honly.twn.trans htwn
    have himg' := honly.img.trans himg1
    have h98' : raised 98 s v := fun hhere hup => h98 ((eventHere_of_fit hk0.2.1 98).trans hhere) (by rw [hsys0]; exact hup)
    refine leads_done hexec ⟨congrArg TwnSt.role htwn', congrArg TwnSt.roleTx htwn', congrArg TwnSt.selOut htwn', (congrArg ImgSt.phase himg' :),
      (congrArg ImgSt.takeTick himg' :), ?_, h98'.raise, raised_raise hk1'.2.1 (hans.trans (by rw [hsys0])), (bit_raise rfl).trans hbit, hkept.answered_cores (by simp) _⟩
    refine counted.raise ?_ rfl
    rwa [counted, rd_of_regs hregs0] at hcount
  · have hexec := exec_graftT2 hphase hslot hstaged
    dsimp only at hexec
    rw [if_neg (by rw [hrole]; decide), if_pos hrole] at hexec
    obtain ⟨himg0, htx0, hk0⟩ := stoodDown_leaves (s := s)
    generalize s.stoodDown = u at *
    have h1 : raised 99 s (u.raise 99) := raised_raise hk0.2.1 (congrArg SysSt.answering (hk0.part (p := .sys) (by simp)))
    have honly := raise_only u 99
    have himg1 := honly.img.trans himg0
    have htx1 : (u.raise 99).twn.roleTx = false := by rw [honly.twn]; exact htx0
    have hk1 := (hk0.mono (qs := [.regs, .out, .mon, .sys, .img, .graph, .canopy, .cores, .ports, .clk, .net, .mem, .twn]) (by simp)).evt (by simp) honly
    have hans1 : (u.raise 99).sys.answering = s.sys.answering := honly.sys_answering.trans (congrArg SysSt.answering (hk0.part (p := .sys) (by simp)))
    generalize u.raise 99 = v at *
    obtain ⟨himg2, -, hregs2, hk2⟩ := takenUp_of_noRegs (s := v) hreg
    have h2 : raised 99 s (v.takenUp i) := fun hhere hup => (takenUp_pends hregs2 (eventHere_lt s hhere)).trans (h1 hhere hup)
    have hsys2 : (v.takenUp i).sys = v.sys := hk2.part (p := .sys) (by simp)
    have htx2 : (v.takenUp i).twn = v.twn := hk2.part (p := .twn) (by simp)
    have hk2' := hk1.trans hk2 (by simp)
    generalize v.takenUp i = w at *
    obtain ⟨htwn3, h101, hk3⟩ := resyncStart_leaves (s := w) none
    have h3 : raised 99 s (w.resyncStart none) := h2.of_regs (u := w.modTwn _) rfl |>.raise
    have himg3 : (w.resyncStart none).img = w.img := hk3.part (p := .img) (by simp)
    have hk3' := hk2'.trans hk3 (by simp)
    generalize w.resyncStart none = t at *
    rw [himg2, himg1] at himg3
    refine leads_done hexec ⟨congrArg TwnSt.role htwn3, (congrArg TwnSt.roleTx htwn3).trans (by rw [← htx1, ← htx2]), congrArg TwnSt.phase htwn3, (congrArg ImgSt.running himg3 :),
      (congrArg ImgSt.source himg3 :), (congrArg ImgSt.phase himg3 :), h3, ?_, hk3'.answered_cores (by simp) _⟩
    exact fun hhere hup => h101 ((eventHere_of_fit hk2'.2.1 101).trans hhere) (by rw [hsys2, hans1]; exact hup)
end Sys2Proof.Machine
end

section
/-! SUPPORT. The settings of the signal graph and the ring store (R119 to R126): selectors, candidates, delays and lengths. -/

namespace Sys2Proof.Machine

variable {s t u : State} {i : Instr} {v : W32} {n : Nat}

theorem flag_keeps (a k : Nat) : keeps [.regs] s (s.flag a k) := by simp [keeps_iff, State.flag]
/-- A command of the host whose effect is one flag. -/
theorem leads_flag {a k : Nat} (hexec : exec i s = doneCore s (s.flag a k)) (hk : k < 32) :
    leads i s (fun t => t.bit a k = true ∧ regsOnly [a] s t ∧ keeps [.regs] s t) :=
  leads_doneCore hexec ⟨bit_flag_self hk, (regsOnly.refl _ s).flag (by simp), (flag_keeps a k).answered⟩
/-- A command of the host whose effect is one flag and its event. -/
theorem leads_flagRaise {a k e : Nat} (hexec : exec i s = doneCore s (s.flagRaise a k e)) (ha : evtReg a = false) (hk : k < 32) :
    leads i s (fun t => t.bit a k = true ∧ raised e s t ∧ regsKeep [a] s t ∧ evtOnly s t) := by
  refine leads_doneCore hexec ?_
  rw [(flagRaise_only s a k e).answer]
  exact ⟨flagRaise_bit _ _ _ _ ha hk, raised_flagRaise rfl rfl, (regsKeep.refl _ s).flagRaise (by simp), flagRaise_only s a k e⟩
/-- A command of the host that its class does not allow (R498). -/
theorem leads_deny {c p x : Nat} (hexec : exec i s = doneCore s (s.deny c p x)) : leads i s (fun t => counted PRS_DENIED 1 s t ∧ t.bit PRS_STAT 2 = true ∧
    regsKeep [PRS_DENIED, PRS_STAT, PRS_DENIED_LAST] s t ∧ evtOnly s t) := by
  refine leads_doneCore hexec ?_
  rw [(deny_only s c p x).answer]
  obtain ⟨hcount, hstat, hregs⟩ := deny_refuses (s := s) c p x
  exact ⟨hcount, hstat, hregs, deny_only s c p x⟩
theorem leads.imp {p q : State → Prop} (h : leads i s p) (hpq : ∀ t, p t → q t) : leads i s q := by
  obtain ⟨t, hexec, ht⟩ := h
  exact ⟨t, hexec, hpq t ht⟩

theorem exec_grfSelSet (hup : s.hostUp = true) : exec (.grfSelSet v) s = doneCore s (s.grfSelSet v) := by rw [← byHost_up hup fun s => s.grfSelSet v]; rfl
theorem exec_grfPriSet (hup : s.hostUp = true) : exec (.grfPriSet v) s = doneCore s (if s.class1 then s.priWrite v else s.deny 1 0 GRF_PRI_SET) := by
  rw [← byHost_up hup fun s => if s.class1 then s.priWrite v else s.deny 1 0 GRF_PRI_SET]; rfl
theorem exec_rngDlySet (hup : s.hostUp = true) : exec (.rngDlySet v) s = doneCore s (s.rngDlySet v) := by rw [← byHost_up hup fun s => s.rngDlySet v]; rfl
theorem exec_rngLenSet (hup : s.hostUp = true) : exec (.rngLenSet v) s = doneCore s (s.rngLenSet v) := by rw [← byHost_up hup fun s => s.rngLenSet v]; rfl
theorem lineInfo_none (h : s.struct.lines.length ≤ n) : s.lineInfo n = none := by rw [State.lineInfo, List.drop_of_length_le h]; rfl

/-- Settles O20: each command's branch, and step 6 of a boundary for a line whose delay alone is asked. -/
theorem selectorsAndDelays : Obligations.SelectorsAndDelays := by
  intro s v i l k n x hup
  refine ⟨fun hk hi hplain hpos => ?_, fun hbad => ?_, fun hk hi hpri hc hcls hlock => ?_, fun hcls hlock hbad => ?_, fun hcls hlock => ?_, fun hcls => ?_,
    fun hleft hfresh => ?_, fun hk hlt => ?_, fun hge c hc => ?_, fun hk hl h2 hmax => ?_, fun hl hbad => ?_, fun hx hleft => ?_,
    fun hx hleft hwant hlen hne hmin hmax => ?_, fun hx hleft hwant hlen hdelay hpos hlt => ?_, fun hx hleft hlen => ?_⟩
  · rw [exec_grfSelSet hup, State.grfSelSet, ← hk]
    simp only [hi, hplain, Bool.false_or, decide_eq_true_eq]
    rw [if_neg (Nat.not_le.mpr hpos)]
    rfl
  · refine leads_flag ((exec_grfSelSet hup).trans ?_) (by decide)
    unfold State.grfSelSet
    rcases hbad with hnone | ⟨hsome, hbad⟩
    · simp only [hnone]
    · simp only [hsome]
      rw [if_pos (by simpa using hbad)]
  · have hexec := exec_grfPriSet (v := v) hup
    rw [if_pos hcls, State.priWrite, if_neg (by simp [hlock]), State.grfPriSet, ← hk] at hexec
    simp only [hi, hpri, Bool.not_true, Bool.false_or, decide_eq_true_eq] at hexec
    rw [if_neg (Nat.not_le.mpr hc)] at hexec
    refine leads_doneCore hexec ⟨spGet_spPut_same _ _ _ _, fun a ha => spGet_spPut_ne _ _ _ (fun h => ha (by simp [h])), rfl, ?_⟩
    exact keeps.answered (t := { s with graph := { s.graph with pris := _ } }) (by simp [keeps_iff])
  · refine leads_flag ((exec_grfPriSet hup).trans ?_) (by decide)
    rw [if_pos hcls, State.priWrite, if_neg (by simp [hlock]), State.grfPriSet]
    rcases hbad with hnone | ⟨hsome, hbad⟩
    · simp only [hnone]
    · simp only [hsome]
      rw [if_pos (by simpa using hbad)]
  · have hexec := exec_grfPriSet (v := v) hup
    rw [if_pos hcls, State.priWrite, if_pos hlock] at hexec
    exact (leads_flagRaise hexec rfl (by decide)).imp fun t ⟨hbit, hraised, hregs, honly⟩ => ⟨honly.graph, hbit, hraised, hregs, honly⟩
  · have hexec := exec_grfPriSet (v := v) hup
    rw [if_neg (by simp [hcls])] at hexec
    exact (leads_deny hexec).imp fun t ⟨hcount, hstat, hregs, honly⟩ => ⟨honly.graph, hcount, hstat, hregs, honly⟩
  · show execSelectorFadeEnd k s = _
    rw [execSelectorFadeEnd, if_pos ⟨hleft, hfresh⟩]
    rfl
  · rw [exec_rngDlySet hup, State.rngDlySet, ← hk]
    simp only [if_neg (Nat.not_le.mpr hlt)]
    rfl
  · simp only [List.mem_cons, List.not_mem_nil, or_false] at hc
    rcases hc with rfl | rfl
    · refine leads_flagRaise ((exec_rngDlySet hup).trans ?_) rfl (by decide)
      simp only [State.rngDlySet, if_pos hge]
      rfl
    · refine leads_flagRaise ((exec_rngLenSet hup).trans ?_) rfl (by decide)
      simp only [State.rngLenSet, lineInfo_none hge]
      rfl
  · rw [exec_rngLenSet hup, State.rngLenSet, ← hk]
    simp only [hl]
    rw [if_neg (by omega)]
    rfl
  · refine leads_flagRaise ((exec_rngLenSet hup).trans ?_) rfl (by decide)
    simp only [State.rngLenSet, hl, if_pos hbad]
    rfl
  · show execDelayFadeEnd k s = _
    rw [execDelayFadeEnd, hx, if_pos hleft]
    rfl
  · have hclamp : clampDelay x.len s.tickLen n = (n, false) := by
      have ht : 0 < s.tickLen := by
        unfold State.tickLen
        split
        · split <;> decide
        · decide
      rw [clampDelay, if_neg (by omega), if_neg (by omega), if_neg (by omega)]
    unfold State.lineStep6
    simp only [hx, hleft, if_true, hwant, hlen, hclamp, if_neg hne]
    rfl
  · have hclamp : clampDelay x.len s.tickLen n = (s.tickLen, true) := by rw [clampDelay, if_neg (by omega), if_pos hlt]
    unfold State.lineStep6
    simp only [hx, hleft, if_true, hwant, hlen, hclamp, hdelay]
    rfl
  · unfold State.lineStep6
    simp only [hx, hlen, if_neg (show ¬ x.fadeLeft = 0 by omega)]
end Sys2Proof.Machine
end

section
/-! SUPPORT. A due ledger command's execution (R75, R430), and the message players (R128 to R131). -/

namespace Sys2Proof.Machine

variable {s t u : State} {e : LedgerEntry} {b n v outcome : Nat}

/-! ## The execution of a due command -/

theorem trace_pends_mono (k : Nat) (l : List Byte) (hn : n < 128) (h : s.pends n = true) : (s.trace k l).pends n = true :=
  raiseDrop_pends _ _ _ hn ((record_pends s k l n hn).trans h)
theorem ledgerVector_regs : s.ledgerVector.regs = s.regs := by
  unfold State.ledgerVector
  split_ifs
  · rfl
  · exact vector_regs _ 2
/-- What the ledger's part of an execution leaves: the command is done, its entry shows it, and events apart nothing else changes. -/
structure Executed (e : LedgerEntry) (outcome : Nat) (s t : State) : Prop where
  exe : t.ledger.exe = max s.ledger.exe e.seq
  stored : t.dramPeek (entryAddr e.seq) 32 = entryWords e 3 outcome
  regs : regsKeep [] s t
  pends : ∀ n < 128, s.pends n = true → t.pends n = true
  frame : keeps [.regs, .out, .mon, .sys, .ledger, .dram] s t
theorem executed_leaves (b : Nat) (outcome : Nat) (hfrozen : s.dram.frozen = false) (hargs : e.args.length = 3) : Executed e outcome s (s.executed b e outcome) := by
  unfold State.executed
  extract_lets t1 t2
  have hled1 : t1.ledger.exe = max s.ledger.exe e.seq := congrArg (fun l => l.exe) ((entryWrite_keeps e 3 outcome).part (p := .ledger) (by simp))
  have hstored1 : t1.dramPeek (entryAddr e.seq) 32 = entryWords e 3 outcome := dramPeek_entryWrite e 3 outcome hfrozen hargs
  have hregs1 : t1.regs = s.regs := (entryWrite_keeps e 3 outcome).part (p := .regs) (by simp)
  have hk1 : keeps [.regs, .out, .mon, .sys, .ledger, .dram] s t1 :=
    keeps.trans (t := s.modLedger _) (by simp [keeps_iff, State.modLedger]) (entryWrite_keeps e 3 outcome) (by simp)
  clear_value t1
  have hvec : evtOnly t1 t2 ∧ t2.regs = t1.regs := by
    simp only [t2]
    split_ifs
    · exact ⟨ledgerVector_only, ledgerVector_regs⟩
    · exact ⟨evtOnly_refl _, rfl⟩
  clear_value t2
  generalize spaced _ = l
  have honly : evtOnly t1 (t2.trace 3 l) := hvec.1.trans (trace_only t2 3 l)
  refine ⟨(congrArg (fun l => l.exe) honly.ledger).trans hled1, (dramPeek_of_dram honly.dram _ _).trans hstored1, fun a _ hevt => ?_, fun n hn h => ?_, hk1.evt (by simp) honly⟩
  · exact (trace_rd t2 3 l hevt).trans ((rd_of_regs hvec.2 a).trans (rd_of_regs hregs1 a))
  · exact trace_pends_mono 3 l hn ((pends_of_regs (hvec.2.trans hregs1)).trans h)

theorem Executed.raised {k : Nat} (h : Executed e outcome u t) (hu : raised k s u) : raised k s t := fun hhere hup => h.pends k (eventHere_lt s hhere) (hu hhere hup)
theorem Executed.counted {a k : Nat} (h : Executed e outcome u t) (hu : counted a k s u) (ha : evtReg a = false) : counted a k s t := hu.of_rd (h.regs a (by simp) ha)
theorem Executed.bit {a k : Nat} (h : Executed e outcome u t) (ha : evtReg a = false) : t.bit a k = u.bit a k := bit_of_rd (h.regs a (by simp) ha)
theorem Executed.regsKeep {as : List Nat} (h : Executed e outcome u t) (hu : regsKeep as s u) : regsKeep as s t := hu.trans (h.regs.mono (by simp))
/-- A command whose named tick is the coming boundary's runs there. -/
theorem ledgerStep_due {op : Nat} (hfirst : firstDue s.ledger.entries (s.tickN + 1) = some e) (hmedia : s.sys.mediaRun = true) (hrun : s.sys.phase = .running)
    (hfrozen : s.dram.frozen = false) (hop : e.op = op) (htick : s.tickN + 1 ≤ e.tick) (hphase : (s.ledgerOp e).1.sys.phase = s.sys.phase) :
    s.ledgerStep op e.seq = (s.ledgerOp e).1.executed (s.tickN + 1) e (s.ledgerOp e).2 := by
  have hlate : decide (e.tick < s.tickN + 1) = false := decide_eq_false (Nat.not_lt.mpr htick)
  unfold State.ledgerStep
  simp only [hfirst]
  rw [if_pos (by simp [hmedia, hrun, hfrozen, hop]), State.ledgerRun, hlate]
  simp only [Bool.false_and, Bool.false_eq_true, if_false, hphase, if_true]

/-! ## The players' operations -/

theorem setVoice_sameBut (v : Nat) (x : Voice) : sameBut [v] idleVoice s.graph.voices (s.setVoice v x).graph.voices := fun _ ha => spGet_spPut_ne _ _ _ fun h => ha (by simp [h])
theorem setVoice_keeps (v : Nat) (x : Voice) : keeps [.graph] s (s.setVoice v x) := by simp [keeps_iff, State.setVoice]
/-- Where an announcement joins the queue of its voice (R128). -/
theorem enqueue_between {a : Announce} {q1 q2 : List Announce} (h1 : ∀ q ∈ q1, q.pri < a.pri ∨ (q.pri = a.pri ∧ q.seq ≤ a.seq))
    (h2 : ∀ q ∈ q2, a.pri < q.pri ∨ (a.pri = q.pri ∧ a.seq < q.seq)) : enqueue a (q1 ++ q2) = q1 ++ [a] ++ q2 := by
  induction q1 with
  | nil =>
    cases q2 with
    | nil => rfl
    | cons q qs => exact if_pos (h2 q (by simp))
  | cons q qs ih =>
    have hq := h1 q (by simp)
    rw [List.cons_append, enqueue, if_neg (by omega), ih fun x hx => h1 x (by simp [hx])]
    rfl
/-- The start of the announcement at the head of a queue. -/
theorem voiceStart_valid {x : Voice} {a : Announce} {q : List Announce} (hx : s.voice v = x) (hqueue : x.queue = a :: q) (hfrozen : s.dram.frozen = false) (hclean : s.dram.poison = [])
    (hvalid : clipValid s.struct (s.dramPeek (s.struct.clipBase + 16 * a.clip) 16) = true) : s.voiceStart v =
    s.setVoice v { x with queue := q, lastId := a.id, play := some { ann := a, addr := leAt (s.dramPeek (s.struct.clipBase + 16 * a.clip) 16) 0 8, length := leAt (s.dramPeek (s.struct.clipBase + 16 * a.clip) 16) 8 4, format := leAt (s.dramPeek (s.struct.clipBase + 16 * a.clip) 16) 12 1, pos := 0, left := a.repeats, stopping := false } } := by
  unfold State.voiceStart
  simp only [hx, hqueue, engineRead_clean hfrozen hclean, hfrozen, Bool.false_eq_true, if_false, hvalid, if_true]
theorem voiceStart_invalid {x : Voice} {a : Announce} {q : List Announce} (hx : s.voice v = x) (hqueue : x.queue = a :: q) (hfrozen : s.dram.frozen = false) (hclean : s.dram.poison = [])
    (hvalid : clipValid s.struct (s.dramPeek (s.struct.clipBase + 16 * a.clip) 16) = false) : s.voiceStart v =
    ((s.setVoice v { x with queue := q }).count RNG_ANN_REFUSED 1).rngFlag 2 := by
  unfold State.voiceStart
  simp only [hx, hqueue, engineRead_clean hfrozen hclean, hfrozen, Bool.false_eq_true, if_false, hvalid]

/-! ## Announcements -/

section
variable {a0 a1 a2 : W32} {x : Voice} {a : Announce}
theorem ledgerOp_announce (hop : e.op = 3) (hargs : e.args = [a0, a1, a2]) :
    s.ledgerOp e = ((s.announce e.seq a0 a1 a2).1, if (s.announce e.seq a0 a1 a2).2 then 1 else 2) := by
  unfold State.ledgerOp
  rw [hop, hargs]
  rfl
theorem announce_noVoice (seq : Nat) (a1 : W32) (h : s.struct.voices ≤ fld a0 25 16) : s.announce seq a0 a1 a2 = ((s.count RNG_ANN_REFUSED 1).rngFlag 4, false) := if_pos (.inl h)
theorem announce_full (seq : Nat) (a1 : W32) (hv : fld a0 25 16 < s.struct.voices) (h0 : fld a0 31 30 = 0) (h2 : fld a2 31 16 = 0) (hfull : 32 ≤ (s.voice (fld a0 25 16)).queue.length) :
    s.announce seq a0 a1 a2 = ((s.count RNG_ANN_REFUSED 1).rngFlag 3, false) := by
  unfold State.announce
  dsimp only
  rw [if_neg (by omega), if_pos hfull]
theorem announce_joins (hv : fld a0 25 16 < s.struct.voices) (h0 : fld a0 31 30 = 0) (h2 : fld a2 31 16 = 0) (hx : s.voice (fld a0 25 16) = x) (hroom : x.queue.length < 32)
    (ha : a = { clip := fld a0 15 0, pri := fld a0 29 26, id := a1, repeats := fld a2 15 0, seq := n }) : s.announce n a0 a1 a2 =
    (if x.play.isNone then (s.setVoice (fld a0 25 16) { x with queue := enqueue a x.queue }).voiceStart (fld a0 25 16) else s.setVoice (fld a0 25 16) { x with queue := enqueue a x.queue }, true) := by
  unfold State.announce
  dsimp only
  rw [hx, if_neg (by omega), if_neg (by omega), ← ha]
end

theorem rngRefuse_records {k : Nat} (hk : k < 32) : counted RNG_ANN_REFUSED 1 s ((s.count RNG_ANN_REFUSED 1).rngFlag k) ∧
    ((s.count RNG_ANN_REFUSED 1).rngFlag k).bit RNG_STAT k = true ∧ raised 83 s ((s.count RNG_ANN_REFUSED 1).rngFlag k) ∧
    regsKeep [RNG_ANN_REFUSED, RNG_STAT] s ((s.count RNG_ANN_REFUSED 1).rngFlag k) ∧ evtOnly s ((s.count RNG_ANN_REFUSED 1).rngFlag k) :=
  ⟨counted.flagRaise (counted_count rfl) (by decide) rfl, flagRaise_bit _ _ _ _ rfl hk, raised_flagRaise rfl rfl,
    ((regsKeep.refl _ s).count (by simp)).flagRaise (by simp), (evtOnly_wr _ _ _).trans (flagRaise_only _ _ _ _)⟩

/-! ## Cancels -/

theorem fld_cancelWord_voice {m : Nat} (hv : v < 1024) (hm : m < 4) : fld (cancelWord v m) 25 16 = v := by
  simp only [fld, cancelWord, w32, BitVec.toNat_ofNat]
  omega
theorem fld_cancelWord_mode {m : Nat} (hm : m < 4) : fld (cancelWord v m) 1 0 = m := by
  simp only [fld, cancelWord, w32, BitVec.toNat_ofNat]
  omega
theorem fld_lt (w : W32) (hi lo : Nat) : fld w hi lo < 2 ^ (hi + 1 - lo) := Nat.mod_lt _ (by positivity)
theorem rngCancel_noVoice {m : Nat} (hv : v < 1024) (hm : m < 4) (h : s.struct.voices ≤ v) : s.rngCancel (cancelWord v m) = s.rngFlag 1 := by
  unfold State.rngCancel
  dsimp only
  rw [fld_cancelWord_voice hv hm, if_pos (.inr h)]
theorem rngCancel_stop (hv : v < 1024) (h : v < s.struct.voices) : s.rngCancel (cancelWord v 1) = s.cancelStop v := by
  unfold State.rngCancel
  dsimp only
  rw [fld_cancelWord_voice hv (by decide), fld_cancelWord_mode (by decide), if_neg (by omega), if_pos rfl]
theorem rngCancel_queue (hv : v < 1024) (h : v < s.struct.voices) : s.rngCancel (cancelWord v 2) = s.cancelQueue v := by
  unfold State.rngCancel
  dsimp only
  rw [fld_cancelWord_voice hv (by decide), fld_cancelWord_mode (by decide), if_neg (by omega), if_neg (by decide), if_pos rfl]
theorem rngCancel_both (hv : v < 1024) (h : v < s.struct.voices) : s.rngCancel (cancelWord v 3) = (s.cancelStop v).cancelQueue v := by
  unfold State.rngCancel
  dsimp only
  rw [fld_cancelWord_voice hv (by decide), fld_cancelWord_mode (by decide), if_neg (by omega), if_neg (by decide), if_neg (by decide)]
theorem cancelStop_playing {x : Voice} {p : Play} (hx : s.voice v = x) (hplay : x.play = some p) (hgo : p.stopping = false) :
    s.cancelStop v = (s.setVoice v { x with play := some { p with stopping := true } }).count RNG_ANN_CANCELLED 1 := by
  unfold State.cancelStop
  simp only [hx, hplay, hgo, Bool.false_eq_true, if_false]
/-- A voice's change with a count of announcements. -/
theorem setVoice_count_leaves (x : Voice) {a k : Nat} (ht : t = (s.setVoice v x).count a k) : t.voice v = x ∧ counted a k s t ∧
    sameBut [v] idleVoice s.graph.voices t.graph.voices ∧ regsOnly [a] s t ∧ keeps [.regs, .graph] s t := by
  subst ht
  refine ⟨voice_setVoice_same _ _ _, counted_count rfl, setVoice_sameBut v x, regsOnly.count (regsOnly_of_regs rfl) (by simp), ?_⟩
  exact (setVoice_keeps v x |>.mono (by simp)).trans (qs := [.regs]) (by simp [keeps_iff, State.count]) (by simp)
/-- Counting twice is counting once (R59). -/
theorem counted_add {a j k : Nat} (h1 : counted a j s t) (h2 : counted a k t u) : counted a (j + k) s u := by
  unfold counted at *
  rw [h2, h1]
  have hle : satN 32 ((s.rd a).toNat + j) < 2 ^ 32 := by
    unfold satN
    split_ifs <;> omega
  rw [toNat_w32 hle]
  unfold satN
  congr 1
  split_ifs <;> omega

theorem voice_of_graph (h : t.graph = s.graph) (v : Nat) : t.voice v = s.voice v := congrArg (fun g : GraphSt => spGet idleVoice g.voices v) h
theorem exec_playEnd {x : Voice} {p : Play} (hx : s.voice v = x) (hplay : x.play = some p) (hpos : p.length ≤ p.pos) (hgo : p.stopping = false) :
    exec (.playEnd v) s = doneCore s (if p.left = 0 then (s.setVoice v { x with play := none }).count RNG_ANN_DONE 1
      else s.setVoice v { x with play := some { p with pos := 0, left := if p.ann.repeats = 0xFFFF then p.left else p.left - 1 } }) := by
  show execPlayEnd v s = _
  unfold execPlayEnd
  rw [hx, hplay]
  dsimp only
  rw [if_pos ⟨hpos, hgo⟩]
  unfold State.voiceEnd
  dsimp only
  rw [hx, hplay]
  dsimp only
  rw [hgo, if_neg Bool.false_ne_true, if_neg (Nat.not_lt.mpr hpos)]
/-- Settles O21: an announcement's branch and the ledger's part of its execution; the end of a clip, the next start, and the three cancels. -/
theorem messagePlayers : Obligations.MessagePlayers := by
  intro s e v x p a q1 q2 bs a0 a1 a2 hx hv ha hop hargs htick hmedia hrun hfrozen hclean hup
  have hlen : e.args.length = 3 := by rw [hargs]; rfl
  have hv10 : v < 1024 := by rw [hv]; exact fld_lt a0 25 16
  have hstep (hfirst : firstDue s.ledger.entries (s.tickN + 1) = some e) {u : State} {ok : Bool} (hann : s.announce e.seq a0 a1 a2 = (u, ok))
      (hu : u.sys.phase = s.sys.phase) : exec (.announce e.seq) s = doneCore s (u.executed (s.tickN + 1) e (if ok then 1 else 2)) := by
    show doneCore s (s.ledgerStep 3 e.seq) = _
    rw [ledgerStep_due hfirst hmedia hrun hfrozen hop htick (by rw [ledgerOp_announce hop hargs, hann]; exact hu), ledgerOp_announce hop hargs, hann]
  refine ⟨fun hfirst hvoice h0 h2 hroom hplay hq hq1 hq2 => ?_, fun hfirst hvoice h0 h2 hq hplay hbs hvalid => ?_, fun hfirst hvoice h0 h2 hq hplay hvalid => ?_,
    fun hfirst hvoice => ?_, fun hfirst hvoice h0 h2 hfull => ?_, fun hplay hpos hgo hleft => ?_, fun hplay hq hbs hvalid => ?_, fun hplay hpos hgo hleft => ?_,
    fun hvoice hplay hgo => ?_, fun hvoice => ?_, fun hvoice hplay hgo => ?_, fun hvoice c hc => ?_⟩
  · have hann := announce_joins (s := s) (hv ▸ hvoice) h0 h2 (hv ▸ hx) hroom ha
    rw [if_neg (by rw [hplay]; simp), hq, ← hv, enqueue_between hq1 hq2] at hann
    have hexec := hstep hfirst hann rfl
    have hk0 := setVoice_keeps (s := s) v { x with queue := q1 ++ [a] ++ q2 }
    have hv0 := voice_setVoice_same s v { x with queue := q1 ++ [a] ++ q2 }
    have hs0 := setVoice_sameBut (s := s) v { x with queue := q1 ++ [a] ++ q2 }
    change _ = doneCore s ((s.setVoice v { x with queue := q1 ++ [a] ++ q2 }).executed _ e 1) at hexec
    have hex := executed_leaves (s := s.setVoice v { x with queue := q1 ++ [a] ++ q2 }) (e := e) (s.tickN + 1) 1 hfrozen hlen
    have hexe : (s.setVoice v { x with queue := q1 ++ [a] ++ q2 }).ledger = s.ledger := rfl
    generalize s.setVoice v { x with queue := q1 ++ [a] ++ q2 } = u at *
    have hgraph := hex.frame.part (p := .graph) (by simp)
    generalize u.executed (s.tickN + 1) e 1 = t at *
    refine leads_doneCore hexec ⟨(voice_of_graph hgraph v).trans hv0, hex.exe.trans (by rw [hexe]), hex.stored, ?_, hex.regsKeep (regsKeep_of_regs (hk0.part (p := .regs) (by simp))), ?_⟩
    · exact fun j hj => (congrArg (fun g : GraphSt => spGet idleVoice g.voices j) hgraph).trans (hs0 j hj)
    · exact ((hk0.mono (by simp)).trans hex.frame (by simp)).answered
  · have hann := announce_joins (s := s) (hv ▸ hvoice) h0 h2 (hv ▸ hx) (by rw [hq]; decide) ha
    have hq1 : enqueue a x.queue = [a] := by rw [hq]; rfl
    rw [if_pos (by rw [hplay]; rfl), hq1, ← hv] at hann
    have hk0 := setVoice_keeps (s := s) v { x with queue := [a] }
    have hs0 := setVoice_sameBut (s := s) v { x with queue := [a] }
    have hstart := voiceStart_valid (voice_setVoice_same s v { x with queue := [a] }) rfl hfrozen hclean (show clipValid s.struct (s.dramPeek (s.struct.clipBase + 16 * a.clip) 16) = true from hbs ▸ hvalid)
    change _ = (s.setVoice v { x with queue := [a] }).setVoice v { x with queue := [], lastId := a.id, play := some { ann := a, addr := leAt (s.dramPeek (s.struct.clipBase + 16 * a.clip) 16) 0 8, length := leAt (s.dramPeek (s.struct.clipBase + 16 * a.clip) 16) 8 4, format := leAt (s.dramPeek (s.struct.clipBase + 16 * a.clip) 16) 12 1, pos := 0, left := a.repeats, stopping := false } } at hstart
    rw [← hbs] at hstart
    generalize hu0 : s.setVoice v { x with queue := [a] } = u0 at *
    have hphase0 : (u0.voiceStart v).sys.phase = s.sys.phase := by rw [hstart, ← hu0]; rfl
    have hfrozen0 : (u0.voiceStart v).dram.frozen = false := by rw [hstart, ← hu0]; exact hfrozen
    have hexec := hstep hfirst hann hphase0
    have hvoice0 : (u0.voiceStart v).voice v = _ := (congrArg (State.voice · v) hstart).trans (voice_setVoice_same _ _ _)
    have hsame0 : sameBut [v] idleVoice s.graph.voices (u0.voiceStart v).graph.voices := fun j hj =>
      ((congrArg (fun y : State => spGet idleVoice y.graph.voices j) hstart).trans (setVoice_sameBut _ _ j hj)).trans (hs0 j hj)
    have hregs0 : (u0.voiceStart v).regs = s.regs := by rw [hstart, ← hu0]; rfl
    generalize u0.voiceStart v = u at *
    have hex := executed_leaves (s := u) (e := e) (s.tickN + 1) 1 hfrozen0 hlen
    change _ = doneCore s (u.executed _ e 1) at hexec
    have hgraph := hex.frame.part (p := .graph) (by simp)
    generalize u.executed (s.tickN + 1) e 1 = t at *
    refine leads_doneCore hexec ⟨(voice_of_graph hgraph v).trans (hvoice0.trans ?_), ?_, hex.regsKeep (regsKeep_of_regs hregs0)⟩
    · rw [ha, ← hq]
    · exact fun j hj => (congrArg (fun g : GraphSt => spGet idleVoice g.voices j) hgraph).trans (hsame0 j hj)
  · have hann := announce_joins (s := s) (hv ▸ hvoice) h0 h2 (hv ▸ hx) (by rw [hq]; decide) ha
    have hq1 : enqueue a x.queue = [a] := by rw [hq]; rfl
    rw [if_pos (by rw [hplay]; rfl), hq1, ← hv] at hann
    have hstart := voiceStart_invalid (voice_setVoice_same s v { x with queue := [a] }) rfl hfrozen hclean (show clipValid s.struct (s.dramPeek (s.struct.clipBase + 16 * a.clip) 16) = false from hvalid)
    rw [hstart] at hann
    have hsame : ({ x with queue := [] } : Voice) = x := by rw [← hq]
    have hrec : counted RNG_ANN_REFUSED 1 ((s.setVoice v { x with queue := [a] }).setVoice v { x with queue := [] }) _ ∧ _ := rngRefuse_records (k := 2) (by decide)
    have hv1 := voice_setVoice_same (s.setVoice v { x with queue := [a] }) v { x with queue := [] }
    have hregs1 : ((s.setVoice v { x with queue := [a] }).setVoice v { x with queue := [] }).regs = s.regs := rfl
    have hdram1 : ((s.setVoice v { x with queue := [a] }).setVoice v { x with queue := [] }).dram = s.dram := rfl
    have hsys1 : ((s.setVoice v { x with queue := [a] }).setVoice v { x with queue := [] }).sys = s.sys := rfl
    have hfit1 : ((s.setVoice v { x with queue := [a] }).setVoice v { x with queue := [] }).fit = s.fit := rfl
    change s.announce e.seq a0 a1 a2 = (((((s.setVoice v { x with queue := [a] }).setVoice v { x with queue := [] }).count RNG_ANN_REFUSED 1).rngFlag 2), true) at hann
    rw [hsame] at *
    generalize (s.setVoice v { x with queue := [a] }).setVoice v x = u1 at *
    obtain ⟨hcount, hbit, hraised, hregs, honly⟩ := hrec
    have hexec := hstep hfirst hann (honly.sys_phase.trans (by rw [hsys1]))
    generalize (u1.count RNG_ANN_REFUSED 1).rngFlag 2 = u at *
    have hex := executed_leaves (s := u) (e := e) (s.tickN + 1) 1 (by rw [honly.dram, hdram1]; exact hfrozen) hlen
    change _ = doneCore s (u.executed _ e 1) at hexec
    have hgraph := hex.frame.part (p := .graph) (by simp)
    have hcount' : counted RNG_ANN_REFUSED 1 s u := by rwa [counted, rd_of_regs hregs1] at hcount
    have hraised' : raised 83 s u := fun hhere hup => hraised ((eventHere_of_fit hfit1 83).trans hhere) (by rw [hsys1]; exact hup)
    generalize u.executed (s.tickN + 1) e 1 = t at *
    exact leads_doneCore hexec ⟨(voice_of_graph (hgraph.trans honly.graph) v).trans hv1, hex.counted hcount' rfl, (hex.bit rfl).trans hbit, hex.raised hraised', hex.stored,
      hex.regsKeep ((regsKeep_of_regs hregs1).trans hregs)⟩
  · have hexec := hstep hfirst (announce_noVoice e.seq a1 (hv ▸ hvoice)) (flagRaise_only _ _ _ _).sys_phase
    obtain ⟨hcount, hbit, hraised, hregs, honly⟩ := rngRefuse_records (s := s) (k := 4) (by decide)
    generalize (s.count RNG_ANN_REFUSED 1).rngFlag 4 = u at *
    have hex := executed_leaves (s := u) (e := e) (s.tickN + 1) 2 (by rw [honly.dram]; exact hfrozen) hlen
    change _ = doneCore s (u.executed _ e 2) at hexec
    generalize u.executed (s.tickN + 1) e 2 = t at *
    exact leads_doneCore hexec ⟨(hex.frame.part (p := .graph) (by simp)).trans honly.graph, hex.counted hcount rfl, (hex.bit rfl).trans hbit, hex.raised hraised, hex.stored,
      hex.regsKeep hregs, ((honly.keeps.mono (by simp)).trans hex.frame (by simp)).answered⟩
  · have hexec := hstep hfirst (announce_full e.seq a1 (hv ▸ hvoice) h0 h2 (by rw [← hv, hx]; exact hfull)) (flagRaise_only _ _ _ _).sys_phase
    obtain ⟨hcount, hbit, hraised, hregs, honly⟩ := rngRefuse_records (s := s) (k := 3) (by decide)
    generalize (s.count RNG_ANN_REFUSED 1).rngFlag 3 = u at *
    have hex := executed_leaves (s := u) (e := e) (s.tickN + 1) 2 (by rw [honly.dram]; exact hfrozen) hlen
    change _ = doneCore s (u.executed _ e 2) at hexec
    generalize u.executed (s.tickN + 1) e 2 = t at *
    exact leads_doneCore hexec ⟨(hex.frame.part (p := .graph) (by simp)).trans honly.graph, hex.counted hcount rfl, (hex.bit rfl).trans hbit, hex.raised hraised, hex.stored,
      hex.regsKeep hregs, ((honly.keeps.mono (by simp)).trans hex.frame (by simp)).answered⟩
  · have hexec : exec (.playEnd v) s = doneCore s ((s.setVoice v { x with play := none }).count RNG_ANN_DONE 1) := by
      rw [exec_playEnd hx hplay hpos hgo, if_pos hleft]
    obtain ⟨hvoice, hcount, hsame, hregs, hk⟩ := setVoice_count_leaves (s := s) (v := v) { x with play := none } (a := RNG_ANN_DONE) (k := 1) rfl
    exact leads_doneCore hexec ⟨hvoice, hcount, hsame, hregs, hk.answered⟩
  · rw [voiceStart_valid hx hq hfrozen hclean (hbs ▸ hvalid), ← hbs, ha]
    exact ⟨voice_setVoice_same _ _ _, regsOnly_of_regs rfl, setVoice_keeps _ _⟩
  · rw [exec_playEnd hx hplay hpos hgo, if_neg hleft]
    rfl
  · have hexec : exec (.plyCancelStop v) s = doneCore s ((s.setVoice v { x with play := some { p with stopping := true } }).count RNG_ANN_CANCELLED 1) := by
      rw [← cancelStop_playing hx hplay hgo, ← rngCancel_stop hv10 hvoice, ← byHost_up hup fun s => s.rngCancel (cancelWord v 1)]; rfl
    obtain ⟨hv', hcount, hsame, hregs, hk⟩ := setVoice_count_leaves (s := s) (v := v) { x with play := some { p with stopping := true } } (a := RNG_ANN_CANCELLED) (k := 1) rfl
    exact leads_doneCore hexec ⟨hv', hcount, hsame, hregs, hk.answered⟩
  · have hexec : exec (.plyCancelQueue v) s = doneCore s ((s.setVoice v { x with queue := [] }).count RNG_ANN_CANCELLED x.queue.length) := by
      rw [← hx, show (s.setVoice v { s.voice v with queue := [] }).count RNG_ANN_CANCELLED (s.voice v).queue.length = s.cancelQueue v from rfl,
        ← rngCancel_queue hv10 hvoice, ← byHost_up hup fun s => s.rngCancel (cancelWord v 2)]; rfl
    obtain ⟨hv', hcount, hsame, hregs, hk⟩ := setVoice_count_leaves (s := s) (v := v) { x with queue := [] } (a := RNG_ANN_CANCELLED) (k := x.queue.length) rfl
    exact leads_doneCore hexec ⟨hv', hcount, hsame, hregs, hk.answered⟩
  · have hexec : exec (.plyCancelBoth v) s = doneCore s (((s.setVoice v { x with play := some { p with stopping := true } }).count RNG_ANN_CANCELLED 1).cancelQueue v) := by
      rw [← cancelStop_playing hx hplay hgo, ← rngCancel_both hv10 hvoice, ← byHost_up hup fun s => s.rngCancel (cancelWord v 3)]; rfl
    obtain ⟨hv', hcount, -, hregs, hk⟩ := setVoice_count_leaves (s := s) (v := v) { x with play := some { p with stopping := true } } (a := RNG_ANN_CANCELLED) (k := 1) rfl
    generalize (s.setVoice v { x with play := some { p with stopping := true } }).count RNG_ANN_CANCELLED 1 = u at *
    obtain ⟨hv2, hcount2, -, hregs2, hk2⟩ := setVoice_count_leaves (s := u) (t := u.cancelQueue v) (v := v) { u.voice v with queue := [] } (a := RNG_ANN_CANCELLED) (k := (u.voice v).queue.length) rfl
    rw [hv'] at hv2 hcount2
    generalize u.cancelQueue v = t at *
    exact leads_doneCore hexec ⟨hv2, by rw [Nat.add_comm]; exact counted_add hcount hcount2, hregs.trans hregs2, (hk.trans hk2 (fun _ => id)).answered⟩
  · have hflag {m : Nat} (hm : m < 4) {c : Instr} (hexec : exec c s = doneCore s (s.rngCancel (cancelWord v m))) : leads c s (fun t => t.graph = s.graph ∧ t.bit RNG_STAT 1 = true ∧ raised 83 s t ∧ regsKeep [RNG_STAT] s t ∧ evtOnly s t) := by
      rw [rngCancel_noVoice hv10 hm hvoice] at hexec
      exact (leads_flagRaise hexec rfl (by decide)).imp fun t ⟨hbit, hraised, hregs, honly⟩ => ⟨honly.graph, hbit, hraised, hregs, honly⟩
    simp only [List.mem_cons, List.not_mem_nil, or_false] at hc
    rcases hc with rfl | rfl | rfl
    · exact hflag (m := 1) (by decide) (by rw [← byHost_up hup fun s => s.rngCancel (cancelWord v 1)]; rfl)
    · exact hflag (m := 2) (by decide) (by rw [← byHost_up hup fun s => s.rngCancel (cancelWord v 2)]; rfl)
    · exact hflag (m := 3) (by decide) (by rw [← byHost_up hup fun s => s.rngCancel (cancelWord v 3)]; rfl)
end Sys2Proof.Machine
end

section
/-! SUPPORT. Recorders (R133 to R135): the store of a segment and the export of one. -/

namespace Sys2Proof.Machine

variable {s t u : State} {c a n m len : Nat} {i : RecInfo} {r : Recorder} {g : RecSeg} {k : Nat} {host : W64} {plan : List Nat} {bs : List Byte}

/-! ## Segments -/

/-- A store into DRAM without poison, wherever it stands. -/
theorem engineWrite_clean (hfrozen : s.dram.frozen = false) (hclean : s.dram.poison = []) :
    s.engineWrite a bs = { s with dram := storedDram s.dram a bs [] } := by
  unfold State.engineWrite
  rw [if_neg (by simp [hfrozen])]
  simp only [State.poisonIn, hclean]
  rfl
theorem take_upFrom (h : m ≤ n) (a : Nat) : (upFrom a n).take m = upFrom a m := by
  induction m generalizing a n with
  | zero => rfl
  | succ m ih =>
    cases n with
    | zero => omega
    | succ n => rw [upFrom, upFrom, List.take_succ_cons, ih (by omega)]
theorem dramPeek_take (h : m ≤ n) (a : Nat) : s.dramPeek a m = (s.dramPeek a n).take m := by
  rw [State.dramPeek, State.dramPeek, ← List.map_take, take_upFrom h]
/-- The first bytes of a stored range. -/
theorem dramPeek_stored_head {head rest : List Byte} (hfrozen : s.dram.frozen = false) (hclean : s.dram.poison = []) :
    (s.engineWrite a (head ++ rest)).dramPeek a head.length = head := by
  have hback := dramPeek_storedDram (s := s) a (head ++ rest) []
  rw [engineWrite_clean hfrozen hclean, dramPeek_take (n := (head ++ rest).length) (by simp), hback]
  simp
theorem setRecorder_sameBut (c : Nat) (r : Recorder) : sameBut [c] noRecorder s.graph.recs (s.setRecorder c r).graph.recs :=
  fun _ ha => spGet_spPut_ne _ _ _ fun h => ha (by simp [h])
theorem segPut_fits (h : len ≤ n) (ha : a = if r.nextOff + len ≤ n then r.nextOff else 0) : segPut n r len =
    (r.segs.filter (fun x => decide (x.off + x.len ≤ a) || decide (a + len ≤ x.off)) ++ [{ tick := r.firstTick, off := a, len := len }], a) := by
  unfold segPut
  rw [if_neg (by omega), ← ha]
/-- The recorder after a segment of it is written. -/
def Recorder.wrote (r : Recorder) (a len : Nat) : Recorder :=
  { r with ticks := 0, gated := false, flagged := false, skipped := false, buf := [], nextOff := a + len, segs := r.segs.filter (fun x => decide (x.off + x.len ≤ a) || decide (a + len ≤ x.off)) ++ [{ tick := r.firstTick, off := a, len := len }] }
/-- What every segment's header begins with (R133). -/
def segHead (r : Recorder) (c format : Nat) : List Byte :=
  leBytes 8 r.firstTick ++ leBytes 2 c ++ leBytes 1 format ++ leBytes 1 ((if r.skipped = true then 1 else 0) + (if r.flagged = true then 2 else 0))
theorem b01_flags (x y : Bool) : b01 x + 2 * b01 y = (if x = true then 1 else 0) + (if y = true then 2 else 0) := by cases x <;> cases y <;> rfl
theorem segmentEnd_written (hi : s.recInfo c = some i) (hr : s.recorder c = r) (hlen : len = 16 + recPayload i.format s.rate96) (hticks : 30 ≤ r.ticks)
    (hgated : r.gated = true) (hfits : len ≤ i.size) (ha : a = if r.nextOff + len ≤ i.size then r.nextOff else 0) : s.segmentEnd c =
    (s.engineWrite (i.base + a) (segHead r c i.format ++ (leBytes 4 (crc32c (recBytes i.format r.buf)).toNat ++ recBytes i.format r.buf))).setRecorder c (r.wrote a len) := by
  unfold State.segmentEnd
  dsimp only
  rw [hr, hi]
  dsimp only
  rw [if_neg (by omega), hgated, if_neg (by simp), ← hlen, segPut_fits hfits ha, if_neg (by omega), b01_flags, List.append_assoc]
  rfl

/-! ## Export -/

/-- The work of an export that begins. -/
def exportWork (k c : Nat) (plan : List Nat) (host : W64) : DmaWork :=
  { slot := k, chan := c, plan := plan, addr := host.toNat, copied := 0, bytes := 0, first := 0, skipped := 0 }
/-- The job has begun, its work laid out. -/
def State.exportBegun (s : State) (k c : Nat) (plan : List Nat) (host : W64) : State :=
  { s.jobBegin k with graph := { s.graph with dma := some (exportWork k c plan host) } }
/-- The end of the copying: the result window, and the job's ending. -/
def State.exportEnd (s : State) (k : Nat) (d : DmaWork) : State := ({ s with graph := { s.graph with dma := none } }.resultWrite k (exportResult d)).jobFin k 0
theorem fld_chan (hc : c < 512) : fld (w32 c) 8 0 = c := by
  rw [fld, toNat_w32 (by omega)]
  omega
theorem fld_all (hc : c < 512) : fld (w32 c) 31 16 = 0 := by
  rw [fld, toNat_w32 (by omega)]
  omega
/-- The segments of an export from a tick on: all that are retained and not before it. -/
theorem exportPlan_from (hr : s.recorder c = r) (hc : c < 512) (from' lo hi : W32) :
    s.exportPlan [w32 c, from', lo, hi] = (r.segs.map (·.tick)).filter (fun t => decide ((w32 t - from').toNat < 2 ^ 31)) := by
  unfold State.exportPlan
  simp only [nth, fld_chan hc, fld_all hc, if_true, hr]
  rfl
theorem exec_recorderExport {k : Fin 16} (hqueued : (s.slot k.val).st = .queued) (hkind : (s.slot k.val).kind = 9) (hfree : s.engineFree k.val = true)
    (hfrozen : s.dram.frozen = false) (hdma : s.graph.dma = none) {from' : W32} (hargs : (s.slot k.val).args = [w32 c, from', lo32 host, hi32 host])
    (hc : c < 512) (hplan : s.exportPlan [w32 c, from', lo32 host, hi32 host] = plan) {d : DmaWork}
    (hcopied : (timesN State.exportOne 1 (s.exportBegun k.val c plan host)).graph.dma = some d) (hdone : d.plan = []) :
    exec (.recorderExport k 1) s = doneCore s ((timesN State.exportOne 1 (s.exportBegun k.val c plan host)).exportEnd k.val d) := by
  have hslot := jobBegin_slot (s := s) k.val
  have hbegin := jobBegin_keeps (s := s) k.val
  have hgraph : (s.jobBegin k.val).graph = s.graph := hbegin.part (p := .graph) (by simp)
  have hdram : (s.jobBegin k.val).dram = s.dram := hbegin.part (p := .dram) (by simp)
  have hruns : ¬(!(s.jobBegin k.val).runsJob k.val 9 || ((s.jobBegin k.val).slot k.val).fin.isSome) = true := by
    simp [State.runsJob, hslot, hkind]
  have hplan' : (s.jobBegin k.val).exportPlan ((s.jobBegin k.val).slot k.val).args = plan := by
    rw [hslot, ← hplan, ← hargs]
    simp only [State.exportPlan, State.recorder, hgraph]
  have hwork : ({ slot := k.val, chan := fld (nth 0 ((s.jobBegin k.val).slot k.val).args 0) 8 0, plan := (s.jobBegin k.val).exportPlan ((s.jobBegin k.val).slot k.val).args, addr := (cat64 (nth 0 ((s.jobBegin k.val).slot k.val).args 3) (nth 0 ((s.jobBegin k.val).slot k.val).args 2)).toNat, copied := 0, bytes := 0, first := 0, skipped := 0 } : DmaWork) =
      exportWork k.val c plan host := by
    rw [hplan', hslot, hargs]
    simp only [nth, fld_chan hc, cat64_halves, exportWork]
  show execRecorderExport k 1 s = _
  unfold execRecorderExport
  dsimp only
  rw [jobTryBegin_free hqueued hfree, if_neg hruns, if_neg (by simp [hdram, hfrozen]), hwork, if_pos (by simp [hgraph, hdma]), hgraph]
  show doneCore s (match (timesN State.exportOne 1 (s.exportBegun k.val c plan host)).graph.dma with | some d => _ | none => _) = _
  rw [hcopied]
  dsimp only
  rw [if_pos (by simp [hdone])]
  rfl

theorem exportOne_copied {d : DmaWork} (hdma : s.graph.dma = some d) (hplan : d.plan = [g.tick]) (hr : s.recorder d.chan = r) (hi : s.recInfo d.chan = some i)
    (hsegs : r.segs = [g]) (hfrozen : s.dram.frozen = false) (hclean : s.dram.poison = []) (hnew : d.copied = 0) : s.exportOne =
    State.jobProgress { s.emit (.dma d.addr (s.dramPeek (i.base + g.off) g.len)) with graph := { s.graph with dma := some { d with plan := [], copied := d.copied + 1, bytes := d.bytes + g.len, addr := d.addr + g.len, first := w32 g.tick } } }
      d.slot (d.copied + 1 + d.skipped) := by
  unfold State.exportOne
  simp only [hdma, hplan, hr, hi, hsegs, List.filter_cons, beq_self_eq_true, if_true, List.filter_nil, List.head?_cons, engineRead_clean hfrozen hclean, hnew]
  rfl
/-- The work after the copy of its only segment. -/
def DmaWork.copiedOne (d : DmaWork) (g : RecSeg) : DmaWork :=
  { d with plan := [], copied := d.copied + 1, bytes := d.bytes + g.len, addr := d.addr + g.len, first := w32 g.tick }
theorem exportOne_leaves {d : DmaWork} (hdma : s.graph.dma = some d) (hplan : d.plan = [g.tick]) (hr : s.recorder d.chan = r) (hi : s.recInfo d.chan = some i)
    (hsegs : r.segs = [g]) (hfrozen : s.dram.frozen = false) (hclean : s.dram.poison = []) (hnew : d.copied = 0) :
    s.exportOne.out = s.out ++ [.dma d.addr (s.dramPeek (i.base + g.off) g.len)] ∧ s.exportOne.graph = { s.graph with dma := some (d.copiedOne g) } ∧
    s.exportOne.slot d.slot = { s.slot d.slot with total := d.copied + 1 + d.skipped } ∧ keeps [.out, .jobs, .graph] s s.exportOne := by
  rw [exportOne_copied hdma hplan hr hi hsegs hfrozen hclean hnew]
  refine ⟨rfl, rfl, modSlot_slot _ _, ?_⟩
  refine keeps.trans (t := { s.emit (.dma d.addr (s.dramPeek (i.base + g.off) g.len)) with graph := { s.graph with dma := some (d.copiedOne g) } }) ?_ (modSlot_keeps d.slot _) (by simp)
  simp [keeps_iff, State.emit]
theorem exportEnd_slot (d : DmaWork) : (s.exportEnd k d).slot k = { s.slot k with fin := some 0 } := by
  have hjobs := (resultWrite_keeps (s := { s with graph := { s.graph with dma := none } }) k (exportResult d)).part (p := .jobs) (by simp)
  exact (slot_setSlot_same k _).trans (congrArg (fun j : JobSlot => { j with fin := some (0 : Byte) }) (slot_of_jobs hjobs k))
theorem exportEnd_keeps (d : DmaWork) : keeps [.jobs, .mem, .graph] s (s.exportEnd k d) := by
  have hresult := resultWrite_keeps (s := { s with graph := { s.graph with dma := none } }) k (exportResult d)
  refine keeps.trans (t := { s with graph := { s.graph with dma := none } }) (qs := [.jobs, .mem]) (by simp [keeps_iff]) ?_ (by simp)
  exact keeps.trans (hresult.mono (by simp)) (setSlot_keeps k _) (by simp)
theorem exportEnd_graph (d : DmaWork) : (s.exportEnd k d).graph = { s.graph with dma := none } := rfl
/-- The result window of an export (R135). -/
theorem exportEnd_words (d : DmaWork) : (s.exportEnd k d).poolW (resultOff k 0) = 4 ∧ (s.exportEnd k d).poolW (resultOff k 1) = w32 d.copied ∧
    (s.exportEnd k d).poolW (resultOff k 2) = w32 d.bytes ∧ (s.exportEnd k d).poolW (resultOff k 3) = d.first ∧ (s.exportEnd k d).poolW (resultOff k 4) = w32 d.skipped := by
  have hword (j : Nat) (hj : j < 4) := poolW_resultWrite (s := { s with graph := { s.graph with dma := none } }) k (ws := exportResult d) (by simp [exportResult]) (i := j) (by simpa [exportResult] using hj)
  have hcount := poolW_resultWrite_count (s := { s with graph := { s.graph with dma := none } }) k (ws := exportResult d) (by simp [exportResult])
  exact ⟨hcount, hword 0 (by decide), hword 1 (by decide), hword 2 (by decide), hword 3 (by decide)⟩
theorem exportBegun_slot (c : Nat) (plan : List Nat) (host : W64) : (s.exportBegun k c plan host).slot k = { s.slot k with st := .running, total := 0, error := 0, fin := none } := jobBegin_slot k
theorem exportBegun_keeps (c : Nat) (plan : List Nat) (host : W64) : keeps [.jobs, .mem, .graph] s (s.exportBegun k c plan host) :=
  keeps.trans (t := s.jobBegin k) (qs := [.graph]) ((jobBegin_keeps k).mono (by simp)) (by simp [keeps_iff, State.exportBegun]) (by simp)

/-- Settles O22: a written segment is its header and payload at the place that `segPut` finds; an export of one segment, or of none, step by step. -/
theorem recorders : Obligations.Recorders := by
  intro s c len a g i r k host hi hr hlen hc hfrozen hclean
  refine ⟨fun hticks hgated hfits ha => ?_, fun hticks hgated => ?_, fun hticks => ?_, fun hqueued hkind hfree hdma hargs hsegs => ?_,
    fun hqueued hkind hfree hdma hargs hsegs => ?_⟩
  · have hexec : exec (.recorderSegmentEnd c) s = doneCore s (s.segmentEnd c) := rfl
    rw [segmentEnd_written hi hr hlen hticks hgated hfits ha] at hexec
    have hw := engineWrite_keeps (s := s) (i.base + a) (segHead r c i.format ++ (leBytes 4 (crc32c (recBytes i.format r.buf)).toNat ++ recBytes i.format r.buf))
    have hback := dramPeek_stored_head (a := i.base + a) (head := segHead r c i.format) (rest := leBytes 4 (crc32c (recBytes i.format r.buf)).toNat ++ recBytes i.format r.buf) hfrozen hclean
    have hgraph := hw.part (p := .graph) (by simp)
    generalize s.engineWrite (i.base + a) (segHead r c i.format ++ (leBytes 4 (crc32c (recBytes i.format r.buf)).toNat ++ recBytes i.format r.buf)) = u at *
    have hset : keeps [.graph] u (u.setRecorder c (r.wrote a len)) := by simp [keeps_iff, State.setRecorder]
    refine leads_doneCore hexec ⟨recorder_setRecorder_same _ _ _, ?_, fun j hj => ?_, ((hw.mono (by simp)).trans hset (by simp)).answered⟩
    · have hl : (segHead r c i.format).length = 12 := by simp [segHead, length_leBytes]
      rw [hl] at hback
      exact hback
    · exact (setRecorder_sameBut c _ j hj).trans (congrArg (fun y : GraphSt => spGet noRecorder y.recs j) hgraph)
  · show execRecorderSegmentEnd c s = _
    unfold execRecorderSegmentEnd State.segmentEnd
    dsimp only
    rw [hr, hi]
    dsimp only
    rw [if_neg (by omega), hgated, if_pos (by rfl)]
    rfl
  · show execRecorderSegmentEnd c s = _
    unfold execRecorderSegmentEnd State.segmentEnd
    dsimp only
    rw [hr, hi]
    dsimp only
    rw [if_pos hticks]
    rfl
  · have hplan : s.exportPlan [w32 c, w32 g.tick, lo32 host, hi32 host] = [g.tick] := by
      rw [exportPlan_from hr hc, hsegs]
      exact List.filter_eq_self.mpr fun x hx => by rw [List.mem_singleton.mp hx, BitVec.sub_self]; decide
    have hb := exportBegun_keeps (s := s) (k := k.val) c [g.tick] host
    have hslot := exportBegun_slot (s := s) (k := k.val) c [g.tick] host
    have hdram := hb.part (p := .dram) (by simp)
    have hr' : (s.exportBegun k.val c [g.tick] host).recorder c = r := hr
    have hi' : (s.exportBegun k.val c [g.tick] host).recInfo c = some i := hi
    have hd' : (s.exportBegun k.val c [g.tick] host).graph.dma = some (exportWork k.val c [g.tick] host) := rfl
    have hpeek := dramPeek_of_dram hdram (i.base + g.off) g.len
    have hout := hb.part (p := .out) (by simp)
    have hexec {d : DmaWork} := exec_recorderExport hqueued hkind hfree hfrozen hdma hargs hc hplan (d := d)
    change ∀ {d : DmaWork}, ((s.exportBegun k.val c [g.tick] host).exportOne).graph.dma = some d → d.plan = [] → _ = doneCore s (((s.exportBegun k.val c [g.tick] host).exportOne).exportEnd k.val d) at hexec
    have hgraph0 : (s.exportBegun k.val c [g.tick] host).graph = { s.graph with dma := some (exportWork k.val c [g.tick] host) } := rfl
    generalize s.exportBegun k.val c [g.tick] host = u0 at *
    obtain ⟨hout1, hgraph1, hslot1, hk1⟩ := exportOne_leaves hd' rfl hr' hi' hsegs ((congrArg DramSt.frozen hdram).trans hfrozen) ((congrArg DramSt.poison hdram).trans hclean) rfl
    have hexec := hexec (congrArg GraphSt.dma hgraph1) rfl
    have hb1 := (hb.mono (qs := [.out, .jobs, .mem, .graph]) (by simp)).trans hk1 (by simp)
    have hslot1 : u0.exportOne.slot k.val = _ := hslot1
    generalize u0.exportOne = u1 at *
    obtain ⟨hwords, hcopied, hbytes, hfirst, hskipped⟩ := exportEnd_words (s := u1) (k := k.val) ((exportWork k.val c [g.tick] host).copiedOne g)
    have hend := exportEnd_slot (s := u1) (k := k.val) ((exportWork k.val c [g.tick] host).copiedOne g)
    have hk2 := exportEnd_keeps (s := u1) (k := k.val) ((exportWork k.val c [g.tick] host).copiedOne g)
    have hgraph2 := exportEnd_graph (s := u1) (k := k.val) ((exportWork k.val c [g.tick] host).copiedOne g)
    have hout2 := hk2.part (p := .out) (by simp)
    rw [hslot1, show (exportWork k.val c [g.tick] host).slot = k.val from rfl, hslot] at hend
    generalize u1.exportEnd k.val ((exportWork k.val c [g.tick] host).copiedOne g) = t at *
    have hlen0 : ((exportWork k.val c [g.tick] host).copiedOne g).bytes = g.len := Nat.zero_add _
    refine leads_doneCore hexec ⟨hout2.trans (hout1.trans ?_), congrArg JobSlot.st hend, congrArg JobSlot.fin hend, congrArg JobSlot.total hend, ?_, hwords, hcopied,
      hbytes.trans (by rw [hlen0]), hfirst, hskipped, (hb1.trans hk2 (by simp)).answered⟩
    · rw [hout, hpeek]
      rfl
    · refine hgraph2.trans ?_
      rw [hgraph1, hgraph0, ← hdma]
  · have hplan : s.exportPlan [w32 c, w32 g.tick, lo32 host, hi32 host] = [] := by
      rw [exportPlan_from hr hc, hsegs]
      rfl
    have hexec := exec_recorderExport hqueued hkind hfree hfrozen hdma hargs hc hplan (d := exportWork k.val c [] host) rfl rfl
    have hb := exportBegun_keeps (s := s) (k := k.val) c [] host
    have hslot := exportBegun_slot (s := s) (k := k.val) c [] host
    change _ = doneCore s ((s.exportBegun k.val c [] host).exportEnd k.val _) at hexec
    generalize s.exportBegun k.val c [] host = u at *
    obtain ⟨hwords, hcopied, -⟩ := exportEnd_words (s := u) (k := k.val) (exportWork k.val c [] host)
    have hend := exportEnd_slot (s := u) (k := k.val) (exportWork k.val c [] host)
    have hk := hb.trans (exportEnd_keeps (s := u) (k := k.val) (exportWork k.val c [] host)) (fun _ => id)
    rw [hslot] at hend
    generalize u.exportEnd k.val (exportWork k.val c [] host) = t at *
    exact leads_doneCore hexec ⟨hk.part (p := .out) (by simp), congrArg JobSlot.fin hend, congrArg JobSlot.total hend, hwords, hcopied, hk.answered⟩
end Sys2Proof.Machine
end

section
/-! SUPPORT. A swap joins the pending list in a state whose transitions stand in 2^31 tiles: CNP_XFR counts the tiles beyond its field. -/

namespace Sys2Proof.Machine

theorem map_keyTile (n : Nat) (m : Nat) : ((upFrom m n).map fun j => ((j * 131072, true) : Nat × Bool)).map (fun p => keyTile p.1) = upFrom m n := by
  rw [List.map_map]
  refine (List.map_congr_left fun j _ => ?_).trans (List.map_id _)
  simp [keyTile]
theorem nodup_upFrom (m n : Nat) : (upFrom m n).Nodup := by
  induction n generalizing m with
  | zero => exact List.nodup_nil
  | succ n ih => exact List.nodup_cons.mpr ⟨fun h => by have := (mem_upFrom.mp h).1; omega, ih (m + 1)⟩
theorem length_upFrom (m n : Nat) : (upFrom m n).length = n := by
  induction n generalizing m with
  | zero => rfl
  | succ n ih => rw [upFrom, List.length_cons, ih]

/-- A SWAP that is due at the boundary that ends tick 0. -/
def dueSwap : LedgerEntry :=
  { seq := 1, tick := 1, op := 2, args := [0, 0, 0], accepted := true, both := false, partner := false, granted := true }
/-- A running module that holds the SWAP, with one crosspoint in transition in each of `n` tiles. -/
def busyTiles (n : Nat) : State :=
  { State.reset with sys := { resetSys with phase := .running, answering := true, ready := true, hostLink := true, mediaRun := true }
                     ledger := { resetLedger with entries := [dueSwap] }
                     canopy := { resetCanopy with flags := (upFrom 0 n).map fun j => (j * 131072, true) } }
/-- With a swap pending, CNP_XFR is the pending bit plus the number of tiles in transition. -/
theorem cnpXfr_pending {t : State} {q : PendSwap} {n : Nat} (h : t.canopy = { (busyTiles n).canopy with pendSwaps := [q] }) : t.cnpXfr = w32 (2 ^ 31 + n) := by
  have hflags : t.canopy.flags = (upFrom 0 n).map fun j => (j * 131072, true) := by rw [h]; rfl
  have hpend : t.canopy.pendSwaps = [q] := by rw [h]
  rw [State.cnpXfr, hflags, hpend, map_keyTile, List.Nodup.dedup (nodup_upFrom 0 n), length_upFrom]
  exact congrArg (fun m => w32 (m + n)) (Nat.one_mul _)

/-- Refutes O23: a canopy may flag crosspoints of 2^31 tiles, and CNP_XFR's count of them carries out of bit 31. -/
theorem not_swapsAndTransitions : ¬ Obligations.SwapsAndTransitions := by
  intro h
  obtain ⟨hswap, -⟩ := h (busyTiles (2 ^ 31)) dueSwap { seq := 0, step := 0 } [] default 0 0 0 0 0 0 0 0 0
  obtain ⟨t, -, hcanopy, hbit, -⟩ := hswap rfl rfl rfl rfl rfl rfl (by decide)
  rw [cnpXfr_pending hcanopy, show w32 (2 ^ 31 + 2 ^ 31) = 0 by decide] at hbit
  exact absurd hbit (by decide)
end Sys2Proof.Machine
end

section
/-! SUPPORT. Host writes of gain words (R148, R149, R151) and the staging of scenes (R182 to R186). -/

namespace Sys2Proof.Machine

variable {s t u : State} {a k j n addr key : Nat} {v : W32} {w : SceneWork} {hit : WriteHit} {g : W16} {α : Type}

/-! ## Runs and copies of sparse maps -/

theorem spGet_spSetAll_replicate [DecidableEq α] (d : α) (m : Sparse α) (k n : Nat) (x : α) (j : Nat) :
    spGet d (spSetAll d m k (List.replicate n x)) j = if k ≤ j ∧ j < k + n then x else spGet d m j := by
  induction n generalizing m k with
  | zero => rw [if_neg (by omega)]; rfl
  | succ n ih =>
    rw [List.replicate_succ, spSetAll, ih]
    by_cases hk : j = k
    · rw [if_neg (by omega), if_pos (by omega), hk, spGet_spSet_same]
    · rw [spGet_spSet_ne d d m x hk]
      exact if_congr (by omega) rfl rfl
theorem spGet_spClear (d : α) (m : Sparse α) (lo hi j : Nat) : spGet d (spClear m lo hi) j = if lo ≤ j ∧ j < hi then d else spGet d m j := by
  induction m with
  | nil => simp [spClear, spGet]
  | cons p m ih =>
    obtain ⟨i, x⟩ := p
    by_cases hi' : lo ≤ i ∧ i < hi
    · rw [spClear, if_pos hi', ih, spGet]
      split_ifs with h1 h2
      · rfl
      · exact absurd (h2 ▸ hi') h1
      · rfl
    · rw [spClear, if_neg hi', spGet, spGet, ih]
      split_ifs with h1 h2 h3
      · exact absurd (h1 ▸ h2) hi'
      all_goals rfl
theorem spGet_canonFrom_low [DecidableEq α] {d : Nat → α} {e : α} {m : Sparse α} {b : Nat} (h : spCanonFrom d (some b) m = true) (hj : j ≤ b) : spGet e m j = e := by
  induction m generalizing b with
  | nil => rfl
  | cons p m ih =>
    obtain ⟨i, x⟩ := p
    simp only [spCanonFrom, Bool.and_eq_true, decide_eq_true_eq] at h
    obtain ⟨⟨hlow, -⟩, hrest⟩ := h
    rw [spGet, if_neg (by omega), ih hrest (by omega)]
/-- A copy of a stretch of a live bank: inside it the live words, outside it the shadow's. -/
theorem spGet_copyBank [DecidableEq α] {d : α} {live : Sparse α} (h : spCanon (fun _ => d) live = true) (shadow : Sparse α) (lo hi j : Nat) :
    spGet d (copyBank d live shadow lo hi) j = if lo ≤ j ∧ j < hi then spGet d live j else spGet d shadow j := by
  have hfold (live : Sparse α) (b : Option Nat) (h : spCanonFrom (fun _ => d) b live = true) (m : Sparse α) :
      spGet d (foldS (fun m (p : Nat × α) => if lo ≤ p.1 ∧ p.1 < hi then spSet d m p.1 p.2 else m) m live) j =
        if (lo ≤ j ∧ j < hi) ∧ spGet d live j ≠ d then spGet d live j else spGet d m j := by
    induction live generalizing b m with
    | nil => simp [foldS, spGet]
    | cons p live ih =>
      obtain ⟨i, x⟩ := p
      simp only [spCanonFrom, Bool.and_eq_true, Bool.not_eq_true', decide_eq_false_iff_not] at h
      obtain ⟨⟨-, hx⟩, hrest⟩ := h
      rw [foldS, ih _ hrest, spGet]
      by_cases hij : i = j
      · subst hij
        have hlow := spGet_canonFrom_low (e := d) hrest (le_refl i)
        by_cases hr : lo ≤ i ∧ i < hi
        · simp [hr, hlow, hx]
        · simp [hr]
      · rw [if_neg hij]
        by_cases hr : lo ≤ i ∧ i < hi
        · rw [if_pos hr, spGet_spSet_ne d d m x (Ne.symm hij)]
        · rw [if_neg hr]
  rw [copyBank, hfold live none h, spGet_spClear]
  by_cases hr : lo ≤ j ∧ j < hi
  · by_cases hd : spGet d live j = d <;> simp [hr, hd]
  · simp [hr]

/-! ## Gain words that the host writes -/

theorem hostWrite_gain (ha : addr < 0x4000000) (ht : s.underTest 2 = false) (x : Width) (v : W32) (hit : WriteHit) :
    s.hostWrite (0x4000000 + addr % 0x4000000) x v hit = s.gainWin (0x4000000 + addr) x v hit := by
  rw [Nat.mod_eq_of_lt ha]
  unfold State.hostWrite
  rw [if_neg (by omega), if_neg (by omega), if_neg (by omega), if_neg (by omega), if_neg (by omega), if_pos (by omega), if_neg (by simp [ht])]
theorem exec_gainShadowWrite (hup : s.hostUp = true) (ha : addr < 0x4000000) (ht : s.underTest 2 = false) (x : Width) (v : W32) (hit : WriteHit)
    (hw : s.gainWin (0x4000000 + addr) x v hit = t) : exec (.gainShadowWrite addr x v hit) s = doneCore s t := by
  rw [← hw, ← hostWrite_gain ha ht x v hit, ← byHost_up hup fun s => s.hostWrite (0x4000000 + addr % 0x4000000) x v hit]
  rfl
/-- The place of a gain word in the window, from where the host writes it. -/
theorem gainWin_place (ha : addr < 0x4000000) (x : Width) (hx : addr % widthBytes x = 0) : widthAlign x ((0x4000000 + addr) % 2 ^ 26) = addr := by
  have hm : (0x4000000 + addr) % 2 ^ 26 = addr := by omega
  rw [hm, widthAlign, Nat.div_mul_cancel (Nat.dvd_of_mod_eq_zero hx)]
theorem gainWin_clean (ha : addr < 0x4000000) (x : Width) (hx : addr % widthBytes x = 0) (hhole : s.gainHole addr = false) (v : W32) :
    s.gainWin (0x4000000 + addr) x v { collide := false, ecc := none } = s.gainHostWrite addr x v := by
  unfold State.gainWin
  rw [gainWin_place ha x hx]
  dsimp only
  rw [if_neg (by simp [hhole]), if_neg (by simp)]
  rfl
/-- A store of a gain word in the shadow bank. -/
def State.gained (s : State) (key : Nat) (g : W16) : State := { s with canopy := { s.canopy with gainShadow := spSet 0x7FFF s.canopy.gainShadow key g } }
theorem gainWrite_free (h : s.canopy.flagged key = false) (g : W16) : s.gainWrite key g = s.gained key g := if_neg (by simp [h])
theorem gained_sameBut {as : List Nat} (hmem : key ∈ as) (g : W16) : sameBut as 0x7FFF s.canopy.gainShadow (s.gained key g).canopy.gainShadow := sameBut_spSet g hmem
theorem gained_keeps (key : Nat) (g : W16) : keeps [.canopy] s (s.gained key g) := by simp [keeps_iff, State.gained]
theorem gained_shadow_same (key : Nat) (g : W16) : (s.gained key g).canopy.shadow key = g := spGet_spSet_same ..
theorem gained_shadow_ne (h : j ≠ key) (g : W16) : (s.gained key g).canopy.shadow j = s.canopy.shadow j := spGet_spSet_ne _ _ _ _ h
/-- The write of the word of a crosspoint in transition: held, and counted in its tile (R151). -/
theorem gainWrite_held (h : s.canopy.flagged key = true) (g : W16) : s.gainWrite key g =
    (s.flag (TILE_STAT (keyTile key)) 2).count (TILE_HELD_COUNT (keyTile key)) 1 := if_pos h
theorem tile_regs_ne (m n : Nat) : TILE_STAT m ≠ TILE_HELD_COUNT n := by
  simp only [TILE_STAT, TILE_HELD_COUNT]
  omega
theorem held_leaves (n : Nat) : ((s.flag (TILE_STAT n) 2).count (TILE_HELD_COUNT n) 1).bit (TILE_STAT n) 2 = true ∧
    counted (TILE_HELD_COUNT n) 1 s ((s.flag (TILE_STAT n) 2).count (TILE_HELD_COUNT n) 1) ∧
    regsOnly [TILE_STAT n, TILE_HELD_COUNT n] s ((s.flag (TILE_STAT n) 2).count (TILE_HELD_COUNT n) 1) ∧
    keeps [.regs] s ((s.flag (TILE_STAT n) 2).count (TILE_HELD_COUNT n) 1) := by
  refine ⟨?_, counted_count (rd_wr_ne _ _ (tile_regs_ne n n).symm), fun x hx => ?_, (flag_keeps _ _).count (by simp)⟩
  · rw [State.count, bit_wr_ne _ _ _ (tile_regs_ne n n)]
    exact bit_flag_self (by decide)
  · simp only [List.mem_cons, List.not_mem_nil, or_false, not_or] at hx
    obtain ⟨h1, h2⟩ := hx
    exact (rd_wr_ne _ _ h2).trans (rd_wr_ne _ _ h1)
theorem gainCollided_leaves : s.gainCollided.canopy = s.canopy ∧ counted SYS_COLLIDE_COUNT 1 s s.gainCollided ∧ s.gainCollided.bit SYS_STAT 3 = true ∧
    raised 10 s s.gainCollided ∧ regsKeep [SYS_COLLIDE_COUNT, SYS_STAT] s s.gainCollided ∧ evtOnly s s.gainCollided := by
  have honly : evtOnly s s.gainCollided := .trans (evtOnly_wr _ _ _) (flagRaise_only _ _ _ _)
  refine ⟨honly.keeps.part (p := .canopy) (by simp), ?_, flagRaise_bit _ _ _ _ rfl (by decide), raised_flagRaise rfl rfl, ?_, honly⟩
  · exact (flagRaise_rd _ _ _ _ rfl (by decide)).trans (counted_count rfl)
  · exact ((regsKeep.refl _ _).wr (by simp)).flagRaise (by simp)
/-- Writing an even word in the window: its two gain words, one after the other. -/
theorem gainHostWrite_word (hx : addr % 4 = 0) (h1 : s.canopy.flagged (addr / 2) = false) (h2 : s.canopy.flagged (addr / 2 + 1) = false) (v : W32) :
    s.gainHostWrite addr .word v = (s.gained (addr / 2) (v.setWidth 16)).gained (addr / 2 + 1) ((v >>> 16).setWidth 16) := by
  have hkey : addr / 4 * 2 = addr / 2 := by omega
  rw [State.gainHostWrite, hkey, gainWrite_free h1, gainWrite_free (s := s.gained _ _) h2]

/-! ## Staging a scene -/

/-- A job of SCENE_STAGE that runs, of the mode of its first argument: 0 for LOAD, 1 for MIRROR. -/
abbrev staging (s : State) (k mode : Nat) (ab : Bool) : Prop := (s.slot k).st = .running ∧ (s.slot k).kind = 3 ∧ (s.slot k).fin = none ∧
  (s.slot k).abortReq = ab ∧ fld ((s.slot k).arg 0) 1 0 = mode ∧ s.dram.frozen = false
theorem staging.begun {mode : Nat} {ab : Bool} (h : staging s k mode ab) : s.jobTryBegin k = s := by
  obtain ⟨hst, -⟩ := h
  exact if_neg (by simp [hst])
theorem staging.live {mode : Nat} {ab : Bool} (h : staging s k mode ab) (hm : mode = m) : (!s.runsJob k 3 || fld ((s.slot k).arg 0) 1 0 != m || (s.slot k).fin.isSome) = false := by
  obtain ⟨hst, hkind, hfin, -, hmode, -⟩ := h
  simp [State.runsJob, hst, hkind, hfin, hmode, hm]
theorem exec_sceneStageLoad {k : Fin 16} (h : staging s k.val 0 false) (n : Nat) : exec (.sceneStageLoad k n false) s =
    done s (timesN (fun t => t.sceneStep k.val) n (if s.sceneOf k.val then s else s.sceneOpen k.val)) := by
  have hlive := h.live rfl
  obtain ⟨-, -, -, habort, -, hfrozen⟩ := id h
  show execSceneStageLoad k n false s = _
  unfold execSceneStageLoad
  dsimp only
  rw [h.begun, hlive, if_neg (by simp), if_neg (by simp [hfrozen]), habort, if_neg (by simp)]
  rfl
/-- No scene is being staged: the abort's result window. -/
theorem exec_sceneStageLoad_abort {k : Fin 16} (h : staging s k.val 0 true) (hscene : s.canopy.scene = none) (n : Nat) : exec (.sceneStageLoad k n false) s =
    done s ((s.resultWrite k.val (List.replicate 7 0)).jobAborted k.val) := by
  have hlive := h.live rfl
  obtain ⟨-, -, -, habort, -, hfrozen⟩ := id h
  show execSceneStageLoad k n false s = _
  unfold execSceneStageLoad
  dsimp only
  rw [h.begun, hlive, if_neg (by simp), if_neg (by simp [hfrozen]), habort, State.sceneOf, hscene, if_pos (by simp), State.sceneAbort, State.sceneClose, hscene]
theorem sceneOf_some (h : s.canopy.scene = some w) (hw : w.slot = k) : s.sceneOf k = true := by simp [State.sceneOf, h, hw]
theorem sceneOf_none (h : s.canopy.scene = none) : s.sceneOf k = false := by simp [State.sceneOf, h]
/-- The end of a scene's work with its result window (R186). -/
theorem sceneStop_leaves (h : s.canopy.scene = some w) (hw : w.slot = k) (err : Nat) : ((s.sceneStop k err).slot k).fin = some (BitVec.ofNat 8 err) ∧
    (s.sceneStop k err).canopy = { s.canopy with scene := none } ∧ (s.sceneStop k err).poolW (resultOff k 0) = 7 ∧
    (∀ i < 7, (s.sceneStop k err).poolW (resultOff k (i + 1)) = nth 0 (sceneResult w) i) ∧ keeps [.jobs, .canopy, .mem] s (s.sceneStop k err) := by
  have hstop : s.sceneStop k err = ({ s with canopy := { s.canopy with scene := none } }.resultWrite k (sceneResult w)).jobFin k err := by
    rw [State.sceneStop, State.sceneClose, h]
    dsimp only
    rw [if_pos hw]
  rw [hstop]
  have hcount := poolW_resultWrite_count (s := { s with canopy := { s.canopy with scene := none } }) k (ws := sceneResult w) (by simp [sceneResult])
  have hword (i : Nat) (hi : i < 7) := poolW_resultWrite (s := { s with canopy := { s.canopy with scene := none } }) k (ws := sceneResult w) (by simp [sceneResult]) (i := i) (by simpa [sceneResult] using hi)
  have hk := resultWrite_keeps (s := { s with canopy := { s.canopy with scene := none } }) k (sceneResult w)
  have hcan := hk.part (p := .canopy) (by simp)
  generalize State.resultWrite { s with canopy := { s.canopy with scene := none } } k (sceneResult w) = u at *
  have hs : keeps [.canopy] s { s with canopy := { s.canopy with scene := none } } := by simp [keeps_iff]
  exact ⟨congrArg JobSlot.fin (modSlot_slot k _), hcan, hcount, hword, ((hs.mono (by simp)).trans hk (by simp)).trans (modSlot_keeps k _) (by simp)⟩
theorem sceneStep_idle (h : s.canopy.scene = none) : s.sceneStep k = s := by
  rw [State.sceneStep, h]
theorem timesN_fixed {f : State → State} (h : f s = s) (n : Nat) : timesN f n s = s := by
  induction n with
  | zero => rfl
  | succ n ih => rw [timesN, h, ih]
/-- The work of a load as it begins. -/
def sceneWork (k : Nat) : SceneWork :=
  { slot := k, mirror := false, pos := 32, records := 0, written := 0, gains := 0, held := 0, firstTick := none, lastTick := 0, swapAt := none, torn := false, crc := 0xFFFFFFFF, want := 0, total := 0, recCount := 0 }
/-- A load that its extent or its header ends. -/
def State.sceneRefused (s : State) (k err : Nat) : State := { s with canopy := { s.canopy with scene := some (sceneWork k) } }.sceneStop k err
theorem sceneRefused_leaves (h : s.canopy.scene = none) (k err : Nat) : ((s.sceneRefused k err).slot k).fin = some (BitVec.ofNat 8 err) ∧
    (s.sceneRefused k err).canopy = s.canopy ∧ (s.sceneRefused k err).poolW (resultOff k 0) = 7 ∧
    (∀ i < 7, (s.sceneRefused k err).poolW (resultOff k (i + 1)) = nth 0 (sceneResult (sceneWork k)) i) ∧ keeps [.jobs, .mem] s (s.sceneRefused k err) := by
  obtain ⟨hfin, hcan, hcount, hword, hk⟩ := sceneStop_leaves (s := { s with canopy := { s.canopy with scene := some (sceneWork k) } }) (w := sceneWork k) (k := k) rfl rfl err
  have hcan' : (s.sceneRefused k err).canopy = s.canopy := hcan.trans (by rw [← h])
  refine ⟨hfin, hcan', hcount, hword, ?_⟩
  have hs : keeps [.jobs, .canopy, .mem] s (s.sceneRefused k err) := keeps.trans (t := { s with canopy := { s.canopy with scene := some (sceneWork k) } }) (by simp [keeps_iff]) hk (by simp)
  refine ⟨hs.1, hs.2.1, fun p hp => ?_⟩
  by_cases hc : p = .canopy
  · exact hc ▸ hcan'
  · exact hs.part (by simpa [hc] using hp)
theorem sceneOpen_outside (ha : a = (cat64 ((s.slot k).arg 2) ((s.slot k).arg 1)).toNat) (h : a % 64 ≠ 0 ∨ a < s.struct.sceneBase ∨ s.struct.sceneBase + s.struct.sceneSize < a + 32) :
    s.sceneOpen k = s.sceneRefused k 0x40 := by
  unfold State.sceneOpen
  dsimp only
  rw [← ha, if_pos h]
  rfl
theorem leAt_head {h : List Byte} (hlen : 4 ≤ h.length) (hm : h.take 4 ≠ [0x48, 0x56, 0x53, 0x43]) : leAt h 0 4 ≠ 0x43535648 := by
  obtain _ | ⟨b0, _ | ⟨b1, _ | ⟨b2, _ | ⟨b3, bs⟩⟩⟩⟩ := h <;> simp only [List.length_cons, List.length_nil] at hlen
  iterate 4 omega
  intro heq
  refine hm ?_
  have h0 := b0.isLt
  have h1 := b1.isLt
  have h2 := b2.isLt
  have h3 := b3.isLt
  have heq : b0.toNat + 256 * (b1.toNat + 256 * (b2.toNat + 256 * b3.toNat)) = 0x43535648 := by simpa [leAt, slice, leNat] using heq
  have e0 : b0 = 0x48 := BitVec.eq_of_toNat_eq (by change _ = 72; omega)
  have e1 : b1 = 0x56 := BitVec.eq_of_toNat_eq (by change _ = 86; omega)
  have e2 : b2 = 0x53 := BitVec.eq_of_toNat_eq (by change _ = 83; omega)
  have e3 : b3 = 0x43 := BitVec.eq_of_toNat_eq (by change _ = 67; omega)
  rw [e0, e1, e2, e3]
  rfl
theorem length_dramPeek (a n : Nat) : (s.dramPeek a n).length = n := by
  rw [State.dramPeek, List.length_map, length_upFrom]
theorem sceneOpen_header {h : List Byte} (hfrozen : s.dram.frozen = false) (hclean : s.dram.poison = []) (ha : a = (cat64 ((s.slot k).arg 2) ((s.slot k).arg 1)).toNat)
    (hh : h = s.dramPeek a 32) (h64 : a % 64 = 0) (hlow : s.struct.sceneBase ≤ a) (hhigh : a + max (leAt h 4 4) 32 ≤ s.struct.sceneBase + s.struct.sceneSize)
    (hmark : h.take 4 ≠ [0x48, 0x56, 0x53, 0x43]) : s.sceneOpen k = s.sceneRefused k 0x41 := by
  have hlen : h.length = 32 := by rw [hh, length_dramPeek]
  unfold State.sceneOpen
  dsimp only
  rw [← ha, if_neg (by omega), engineRead_clean hfrozen hclean]
  dsimp only
  rw [← hh, if_neg (by omega), if_pos (.inl (leAt_head (by omega) hmark))]
  rfl

/-! ## A record of gains that are all one (R183) -/

theorem upFrom_append (a m n : Nat) : upFrom a (m + n) = upFrom a m ++ upFrom (a + m) n := by
  induction m generalizing a with
  | zero => simp [upFrom]
  | succ m ih => rw [Nat.add_right_comm, upFrom, upFrom, ih, List.cons_append, Nat.add_right_comm a 1 m, Nat.add_assoc]
theorem dramPeek_append (a m n : Nat) : s.dramPeek a (m + n) = s.dramPeek a m ++ s.dramPeek (a + m) n := by
  rw [State.dramPeek, State.dramPeek, State.dramPeek, ← List.map_append, upFrom_append]
theorem unflagged (h : ∀ x ∈ s.canopy.flags, x.1 ≠ j) : s.canopy.flagged j = false := by
  refine spGet_of_spFind_none ?_
  cases hf : spFind s.canopy.flags j with
  | none => rfl
  | some v => exact absurd rfl (h _ (mem_of_spFind hf))
/-- The shadow bank after a run of gains. -/
def State.gainedAll (s : State) (key : Nat) (gs : List W16) : State := { s with canopy := { s.canopy with gainShadow := spSetAll 0x7FFF s.canopy.gainShadow key gs } }
theorem sceneRun_free {gs : List W16} (h : ∀ j, key ≤ j → j < key + gs.length → s.canopy.flagged j = false) :
    s.sceneRun w key gs = (s.gainedAll key gs, { w with gains := w.gains + gs.length }) := by
  induction gs generalizing s w key with
  | nil => rfl
  | cons g gs ih =>
    have hkey := h key (le_refl _) (by simp)
    rw [State.sceneRun, State.sceneGain, hkey, if_neg (by simp), gainWrite_free hkey]
    dsimp only
    rw [ih (s := s.gained key g) fun j h1 h2 => h j (by omega) (by simp only [List.length_cons]; omega), List.length_cons, Nat.add_assoc, Nat.add_comm 1]
    rfl
/-- The fields of a record of one gain for a run, from its 12 bytes. -/
theorem record_fields {r : List Byte} (hlen : r.length = 12) : leAt (r.take 4) 0 4 = leAt r 0 4 ∧ wordsOf 2 (r.drop 4) = [w32 (leAt r 4 4), w32 (leAt r 8 4)] ∧
    fld (w32 (leAt r 4 4)) 7 0 = leAt r 4 1 ∧ fld (w32 (leAt r 4 4)) 15 8 = leAt r 5 1 ∧
    (w32 (leAt r 8 4) >>> 16).setWidth 16 = BitVec.ofNat 16 (leAt r 10 2) := by
  obtain _ | ⟨b0, _ | ⟨b1, _ | ⟨b2, _ | ⟨b3, _ | ⟨b4, _ | ⟨b5, _ | ⟨b6, _ | ⟨b7, _ | ⟨b8, _ | ⟨b9, _ | ⟨b10, _ | ⟨b11, _ | ⟨b12, bs⟩⟩⟩⟩⟩⟩⟩⟩⟩⟩⟩⟩⟩ := r <;>
    simp only [List.length_cons, List.length_nil, Nat.reduceAdd, Nat.reduceEqDiff, reduceCtorEq] at hlen
  have h4 := b4.isLt
  have h5 := b5.isLt
  have h6 := b6.isLt
  have h7 := b7.isLt
  have h8 := b8.isLt
  have h9 := b9.isLt
  have h10 := b10.isLt
  have h11 := b11.isLt
  have hlow : leAt [b0, b1, b2, b3, b4, b5, b6, b7, b8, b9, b10, b11] 4 4 = b4.toNat + 256 * (b5.toNat + 256 * (b6.toNat + 256 * b7.toNat)) := by simp [leAt, slice, leNat]
  have hhigh : leAt [b0, b1, b2, b3, b4, b5, b6, b7, b8, b9, b10, b11] 8 4 = b8.toNat + 256 * (b9.toNat + 256 * (b10.toNat + 256 * b11.toNat)) := by simp [leAt, slice, leNat]
  have hword : (w32 (b8.toNat + 256 * (b9.toNat + 256 * (b10.toNat + 256 * b11.toNat)))).toNat = b8.toNat + 256 * (b9.toNat + 256 * (b10.toNat + 256 * b11.toNat)) := toNat_w32 (by omega)
  refine ⟨by simp [leAt, slice, leNat], by simp [leAt, slice, leNat, wordsOf], ?_, ?_, ?_⟩
  · rw [hlow, fld, toNat_w32 (by omega)]
    simp only [leAt, slice, leNat, List.drop_succ_cons, List.drop_zero, List.take_succ_cons, List.take_zero, List.length_cons, List.length_nil, Nat.reduceAdd, Nat.reduceSub, List.replicate_zero, List.append_nil]
    omega
  · rw [hlow, fld, toNat_w32 (by omega)]
    simp only [leAt, slice, leNat, List.drop_succ_cons, List.drop_zero, List.take_succ_cons, List.take_zero, List.length_cons, List.length_nil, Nat.reduceAdd, Nat.reduceSub, List.replicate_zero, List.append_nil]
    omega
  · refine BitVec.eq_of_toNat_eq ?_
    rw [hhigh, BitVec.toNat_setWidth, BitVec.toNat_ushiftRight, hword, BitVec.toNat_ofNat, Nat.shiftRight_eq_div_pow]
    simp only [leAt, slice, leNat, List.drop_succ_cons, List.drop_zero, List.take_succ_cons, List.take_zero, List.length_cons, List.length_nil, Nat.reduceAdd, Nat.reduceSub, List.replicate_zero, List.append_nil]
    omega

/-- The work after a record of a run of c gains that are all one. -/
def SceneWork.ranOne (w : SceneWork) (tick : W32) (r : List Byte) (c : Nat) : SceneWork :=
  { w with pos := w.pos + 12, records := w.records + 1, written := w.written + 1, gains := w.gains + c, firstTick := some (w.firstTick.getD tick), lastTick := tick, torn := w.torn || w.swapAt.isSome, crc := crcRun 0x82F63B78 w.crc r }
/-- The scene's work as it stands. -/
def State.staged (s : State) (w : SceneWork) : State := { s with canopy := { s.canopy with scene := some w } }
theorem sceneStep_run {r : List Byte} {c : Nat} (hfrozen : s.dram.frozen = false) (hclean : s.dram.poison = []) (hscene : s.canopy.scene = some w)
    (hab : (s.slot k).abortReq = false) (ha : a = (cat64 ((s.slot k).arg 2) ((s.slot k).arg 1)).toNat) (hr : r = s.dramPeek (a + w.pos) 12)
    (hhead : leAt r 0 4 = 0x20002) (hrec : w.records < w.recCount) (hpos : w.pos + 12 ≤ w.total) (hgood : s.recordBad 2 2 [w32 (leAt r 4 4), w32 (leAt r 8 4)] = false)
    (hkey : key = xpKey (leAt r 4 1) (leAt r 5 1) (fld (w32 (leAt r 4 4)) 24 16)) (hc : c = fld (w32 (leAt r 8 4)) 9 0)
    (hflags : ∀ x ∈ s.canopy.flags, x.1 < key ∨ key + 512 ≤ x.1) :
    s.sceneStep k = ((s.gainedAll key (List.replicate c (BitVec.ofNat 16 (leAt r 10 2)))).staged (w.ranOne s.tickLo r c)).jobProgress k ((w.pos + 12) / 1024) := by
  have hlen : r.length = 12 := by rw [hr, length_dramPeek]
  obtain ⟨hfirst, hwords, hn, hb, hgain⟩ := record_fields hlen
  have hsplit : r = s.dramPeek (a + w.pos) 4 ++ s.dramPeek (a + w.pos + 4) 8 := hr.trans (dramPeek_append _ 4 8)
  have htake : s.dramPeek (a + w.pos) 4 = r.take 4 := by rw [hsplit, List.take_left' (length_dramPeek _ _)]
  have hdrop : s.dramPeek (a + w.pos + 4) 8 = r.drop 4 := by rw [hsplit, List.drop_left' (length_dramPeek _ _)]
  have hc512 : c ≤ 512 := by
    simp [State.recordBad, nth, ← hc] at hgood
    omega
  have hfree : ∀ j, key ≤ j → j < key + (List.replicate c (BitVec.ofNat 16 (leAt r 10 2))).length → s.canopy.flagged j = false := fun j h1 h2 =>
    unflagged fun x hx => by
      rw [List.length_replicate] at h2
      have := hflags x hx
      omega
  have hwrite : ∀ w' : SceneWork, s.recordWrite w' 2 [w32 (leAt r 4 4), w32 (leAt r 8 4)] =
      (s.gainedAll key (List.replicate c (BitVec.ofNat 16 (leAt r 10 2))), { (w'.wrote s.tickLo) with written := w'.written + 1, gains := w'.gains + c }) := fun w' => by
    unfold State.recordWrite
    simp only [nth, hn, hb, ← hkey, hgain, ← hc]
    rw [if_neg (by decide : ¬(2 : Nat) = 1), if_pos trivial, sceneRun_free hfree, List.length_replicate]
    rfl
  unfold State.sceneStep
  rw [hscene]
  dsimp only
  rw [← ha, hab, if_neg (by simp), if_neg (by omega), engineRead_clean hfrozen hclean]
  dsimp only
  rw [htake, hfirst, hhead, show fld (w32 0x20002) 31 16 = 2 from rfl, show fld (w32 0x20002) 15 0 = 2 from rfl, if_neg (by omega), engineRead_clean hfrozen hclean]
  dsimp only
  rw [hdrop, hwords, hgood, if_neg (by simp), List.take_append_drop, hwrite]
  rfl

/-! ## A mirror (R184) -/

theorem exec_sceneStageMirror {k : Fin 16} (h : staging s k.val 1 false) (hof : s.sceneOf k.val = true) : exec (.sceneStageMirror k 1) s =
    done s (s.mirrorStep k.val) := by
  have hlive := h.live rfl
  obtain ⟨-, -, -, habort, -, hfrozen⟩ := id h
  show execSceneStageMirror k 1 s = _
  unfold execSceneStageMirror
  dsimp only
  rw [h.begun, hlive, if_neg (by simp), if_neg (by simp [hfrozen]), habort, hof, if_neg (by simp), if_neg (by simp), if_pos rfl, timesN, timesN, if_pos hof]
/-- Copying waits for the transitions, the fades and the pending swaps. -/
theorem exec_sceneStageMirror_waits {k : Fin 16} (h : staging s k.val 1 false) (hscene : s.canopy.scene = none)
    (hbusy : s.canopy.flags ≠ [] ∨ s.plainFading 0 = true ∨ s.canopy.pendSwaps ≠ []) (n : Nat) : exec (.sceneStageMirror k n) s = done s s := by
  have hlive := h.live rfl
  obtain ⟨-, -, -, habort, -, hfrozen⟩ := id h
  show execSceneStageMirror k n s = _
  unfold execSceneStageMirror
  dsimp only
  rw [h.begun, hlive, if_neg (by simp), if_neg (by simp [hfrozen]), habort, sceneOf_none hscene, if_neg (by simp), if_pos]
  simpa [List.isEmpty_eq_false_iff, or_assoc] using hbusy
/-- The work of a mirror after 64 KiB of gains. -/
def SceneWork.mirrored (w : SceneWork) (tick : W32) (c : Nat) : SceneWork := { w.wrote tick with pos := w.pos + 1, gains := w.gains + c }
theorem mirrorStep_gains (hscene : s.canopy.scene = some w) (hab : (s.slot k).abortReq = false) (hflags : s.canopy.flags = []) (hpos : w.pos < 1024) :
    s.mirrorStep k = (({ s with canopy := { s.canopy with gainShadow := copyBank 0x7FFF s.canopy.gainLive s.canopy.gainShadow (w.pos * 32768) ((w.pos + 1) * 32768) } }).staged
      (w.mirrored s.tickLo (if s.rate96 then 16384 else 32768))).jobProgress k ((w.pos + 1) * 64) := by
  unfold State.mirrorStep State.mirrorGains
  rw [hscene]
  dsimp only
  rw [hab, if_neg (by simp), if_pos hpos, hflags]
  rfl
/-- The banks other than the gains, copied. -/
def State.banked (s : State) : State :=
  { s with
    canopy := { s.canopy with detShadow := copyBank detDefault s.canopy.detLive s.canopy.detShadow 0 8192, sclShadow := copyBank 0 s.canopy.sclLive s.canopy.sclShadow 0 4096 }
    graph := { s.graph with sels := s.graph.sels.map fun p => if 49152 + 4 * p.1 < 65536 then (p.1, { p.2 with shadowPos := p.2.pos, shadowFade := p.2.fade }) else p } }
theorem mirrorSets_none (h : s.struct.cores = []) (lo hi : Nat) : s.mirrorSets lo hi = s := by
  rw [State.mirrorSets, h]
  rfl
theorem mirrorBanks_whole (hcores : s.struct.cores = []) : s.mirrorBanks 0 65536 = s.banked := by
  have hsets := mirrorSets_none (s := s.banked) hcores 0 65536
  unfold State.mirrorBanks
  simp only [Nat.zero_le, true_and]
  exact hsets
theorem mirrorStep_banks (hscene : s.canopy.scene = some w) (hab : (s.slot k).abortReq = false) (hcores : s.struct.cores = []) (hpos : w.pos = 1024) :
    s.mirrorStep k = ((s.banked.staged { w.wrote s.tickLo with pos := w.pos + 1 }).jobProgress k (65536 + 57344 / 1024)).sceneStop k 0 := by
  have htail : s.mirrorTail = 57344 := by rw [State.mirrorTail, hcores]; rfl
  unfold State.mirrorStep
  rw [hscene]
  dsimp only
  rw [hab, if_neg (by simp), if_neg (by omega), htail, hpos, if_pos (by decide), mirrorBanks_whole hcores]
  rfl
theorem spGet_map_at (d : α) {f : Nat × α → Nat × α} {g : α → α} (hf : ∀ x, f (j, x) = (j, g x)) (hkey : ∀ p, (f p).1 = p.1) (hd : g d = d) (m : Sparse α) :
    spGet d (m.map f) j = g (spGet d m j) := by
  induction m with
  | nil => exact hd.symm
  | cons p m ih =>
    obtain ⟨i, x⟩ := p
    by_cases hi : i = j
    · subst hi
      rw [List.map_cons, hf, spGet, spGet, if_pos rfl, if_pos rfl]
    · have hk : f (i, x) = (i, (f (i, x)).2) := Prod.ext (hkey _) rfl
      rw [List.map_cons, hk, spGet, spGet, if_neg hi, if_neg hi, ih]
theorem banked_sel (hj : j < 2048) : s.banked.sel j = { s.sel j with shadowPos := (s.sel j).pos, shadowFade := (s.sel j).fade } := by
  refine spGet_map_at noSel (g := fun x => { x with shadowPos := x.pos, shadowFade := x.fade }) (fun x => if_pos (by omega)) (fun p => ?_) rfl s.graph.sels
  dsimp only
  split_ifs <;> rfl

/-- What a step answers of the cores that it has not touched reads the same. -/
theorem keepStacks_self (m : Sparse Core) : sameBut [] coreInit m (m.map (keepStacks m)) := by
  intro j _
  have hfind := spFind_keepStacks m m j
  cases hold : spFind m j with
  | none => rw [spGet_of_spFind_none hold, spGet_of_spFind_none (by rw [hfind, hold]; rfl)]
  | some c =>
    rw [hold, Option.map_some, keepStacks_same hold rfl rfl] at hfind
    rw [spGet_of_spFind hold, spGet_of_spFind hfind]
theorem jobProgress_slot (k n : Nat) : (s.jobProgress k n).slot k = { s.slot k with total := n } := modSlot_slot ..

/-- Settles O24: a gain word's store, its loss and its holding; each step of a scene's work; each step of a mirror. -/
theorem gainWritesAndScenes : Obligations.GainWritesAndScenes := by
  intro s w hit k addr key j n a v h r
  refine ⟨fun hup ht h2 ha hkey hhole hflag => ?_, fun hup ht h4 ha hkey hhole hflag hflag1 => ?_, fun hup ht h2 ha hkey hhole hflag => ?_,
    fun hup ht h2 ha hhole hcol => ?_, fun hup ht h2 ha h96 hupper => ?_, fun hst hkind hfin hab hmode hfrozen hscene hclean haddr hout => ?_,
    fun hst hkind hfin hab hmode hfrozen hscene hclean haddr hh h64 hlow hhigh hmark => ?_,
    fun hst hkind hfin hab hmode hfrozen hscene hslot hclean haddr hr hhead hrec hpos hgood hkey hflags => ?_,
    fun hst hkind hfin hab hmode hfrozen hscene hslot hpos => ?_, fun hst hkind hfin hab hmode hfrozen hscene => ?_,
    fun hst hkind hfin hab hmode hfrozen hflags hcanon hscene hslot hpos => ?_,
    fun hst hkind hfin hab hmode hfrozen hcores hdet hscl hscene hslot hpos => ?_, fun hst hkind hfin hab hmode hfrozen hscene hbusy => ?_⟩
  · have hw : s.gainWin (0x4000000 + addr) .half v { collide := false, ecc := none } = s.gained key (v.setWidth 16) := by
      rw [gainWin_clean ha .half h2 hhole v, State.gainHostWrite, ← hkey, gainWrite_free hflag]
    exact leads_doneCore (exec_gainShadowWrite hup ha ht .half v _ hw) ⟨gained_shadow_same _ _, gained_sameBut (by simp) _, rfl, (gained_keeps _ _).answered⟩
  · have hw : s.gainWin (0x4000000 + addr) .word v { collide := false, ecc := none } = (s.gained key (v.setWidth 16)).gained (key + 1) ((v >>> 16).setWidth 16) := by
      rw [gainWin_clean ha .word h4 hhole v, hkey, gainHostWrite_word h4 (hkey ▸ hflag) (hkey ▸ hflag1)]
    refine leads_doneCore (exec_gainShadowWrite hup ha ht .word v _ hw) ⟨?_, gained_shadow_same _ _, ?_, ((gained_keeps _ _).trans (gained_keeps _ _) (fun _ => id)).answered⟩
    · exact (gained_shadow_ne (Nat.ne_of_lt (Nat.lt_succ_self key)) _).trans (gained_shadow_same _ _)
    · exact (gained_sameBut (by simp) _).trans (gained_sameBut (by simp) _)
  · have hw : s.gainWin (0x4000000 + addr) .half v { collide := false, ecc := none } = (s.flag (TILE_STAT (keyTile key)) 2).count (TILE_HELD_COUNT (keyTile key)) 1 := by
      rw [gainWin_clean ha .half h2 hhole v, State.gainHostWrite, ← hkey, gainWrite_held hflag]
    obtain ⟨hbit, hcount, honly, hk⟩ := held_leaves (s := s) (keyTile key)
    exact leads_doneCore (exec_gainShadowWrite hup ha ht .half v _ hw) ⟨rfl, hbit, hcount, honly, hk.answered⟩
  · have hw : s.gainWin (0x4000000 + addr) .half v hit = s.gainCollided := by
      unfold State.gainWin
      rw [gainWin_place ha .half h2]
      dsimp only
      rw [if_neg (by simp [hhole]), if_pos hcol]
    obtain ⟨hcan, hcount, hbit, hraised, hregs, honly⟩ := gainCollided_leaves (s := s)
    have hexec := exec_gainShadowWrite hup ha ht .half v hit hw
    generalize s.gainCollided = t at *
    exact leads_doneCore hexec ⟨hcan, hcount, hbit, hraised, hregs, (honly.answered_self rfl rfl rfl).symm ▸ honly⟩
  · have hw : s.gainWin (0x4000000 + addr) .half v hit = s.unmappedAt (0x4000000 + addr) := by
      unfold State.gainWin
      rw [gainWin_place ha .half h2]
      dsimp only
      rw [if_pos (by simp [State.gainHole, h96, hupper])]
    obtain ⟨hbit, hrd, hraised, hregs⟩ := unmappedAt_records (s := s) (0x4000000 + addr)
    have honly : evtOnly s (s.unmappedAt (0x4000000 + addr)) := (evtOnly_wr _ _ _).trans ((evtOnly_wr _ _ _).trans (raise_only _ 5))
    have hcan := honly.keeps.part (p := .canopy) (by simp)
    have hexec := exec_gainShadowWrite hup ha ht .half v hit hw
    generalize s.unmappedAt (0x4000000 + addr) = t at *
    exact leads_doneCore hexec ⟨hcan, hbit, hrd, hraised, hregs, (honly.answered_self rfl rfl rfl).symm ▸ honly⟩
  · have hexec := exec_sceneStageLoad (k := k) ⟨hst, hkind, hfin, hab, hmode, hfrozen⟩ n
    obtain ⟨hend, hcan, hcount, hword, hk⟩ := sceneRefused_leaves hscene k.val 0x40
    rw [sceneOf_none hscene, if_neg (by simp), sceneOpen_outside haddr hout, timesN_fixed (sceneStep_idle ((congrArg CanopySt.scene hcan).trans hscene))] at hexec
    generalize s.sceneRefused k.val 0x40 = t at *
    exact leads_done hexec ⟨hend, hcan, hcount, hword 0 (by decide), hword 3 (by decide), (hk.mono (by simp)).answered_cores (by simp) _⟩
  · have hexec := exec_sceneStageLoad (k := k) ⟨hst, hkind, hfin, hab, hmode, hfrozen⟩ n
    obtain ⟨hend, hcan, hcount, hword, hk⟩ := sceneRefused_leaves hscene k.val 0x41
    rw [sceneOf_none hscene, if_neg (by simp), sceneOpen_header hfrozen hclean haddr hh h64 hlow hhigh hmark,
      timesN_fixed (sceneStep_idle ((congrArg CanopySt.scene hcan).trans hscene))] at hexec
    generalize s.sceneRefused k.val 0x41 = t at *
    exact leads_done hexec ⟨hend, hcan, hcount, hword 0 (by decide), (hk.mono (by simp)).answered_cores (by simp) _⟩
  · have hexec := exec_sceneStageLoad (k := k) ⟨hst, hkind, hfin, hab, hmode, hfrozen⟩ 1
    rw [sceneOf_some hscene hslot, if_pos rfl, timesN, timesN, sceneStep_run hfrozen hclean hscene hab haddr hr hhead hrec hpos hgood hkey rfl hflags] at hexec
    generalize fld (w32 (leAt r 8 4)) 9 0 = c at *
    have hslot' := jobProgress_slot (s := (s.gainedAll key (List.replicate c (BitVec.ofNat 16 (leAt r 10 2)))).staged (w.ranOne s.tickLo r c)) k.val ((w.pos + 12) / 1024)
    have hk : keeps [.jobs, .canopy, .cores] s (((s.gainedAll key (List.replicate c (BitVec.ofNat 16 (leAt r 10 2)))).staged (w.ranOne s.tickLo r c)).jobProgress k.val ((w.pos + 12) / 1024)) :=
      keeps.trans (t := (s.gainedAll key (List.replicate c (BitVec.ofNat 16 (leAt r 10 2)))).staged (w.ranOne s.tickLo r c)) (by simp [keeps_iff, State.staged, State.gainedAll]) (modSlot_keeps k.val _) (by simp)
    refine leads_done hexec ⟨spGet_spSetAll_replicate _ _ _ _ _ _, rfl, congrArg JobSlot.total hslot', (congrArg JobSlot.fin hslot').trans hfin, hk.answered_cores (by simp) _⟩
  · have hexec := exec_sceneStageLoad (k := k) ⟨hst, hkind, hfin, hab, hmode, hfrozen⟩ 1
    have hstep : s.sceneStep k.val = s.sceneStop k.val (if w.records ≠ w.recCount then 0x42 else if ~~~w.crc ≠ w.want then 0x43 else 0) := by
      unfold State.sceneStep
      rw [hscene]
      dsimp only
      rw [hab, if_neg (by simp), if_pos hpos]
    rw [sceneOf_some hscene hslot, if_pos rfl, timesN, timesN, hstep] at hexec
    obtain ⟨hend, hcan, hcount, hword, hk⟩ := sceneStop_leaves hscene hslot (if w.records ≠ w.recCount then 0x42 else if ~~~w.crc ≠ w.want then 0x43 else 0)
    generalize s.sceneStop k.val (if w.records ≠ w.recCount then 0x42 else if ~~~w.crc ≠ w.want then 0x43 else 0) = t at *
    refine leads_done hexec ⟨hend.trans ?_, hcan, hcount, hword 0 (by decide), hword 1 (by decide), hword 2 (by decide), hword 3 (by decide), hword 4 (by decide),
      (hword 5 (by decide)).trans ?_, hword 6 (by decide), (hk.mono (by simp)).answered_cores (by simp) _⟩
    · split_ifs <;> rfl
    · cases htorn : w.torn <;> simp [sceneResult, nth, htorn] <;> rfl
  · have hexec := exec_sceneStageLoad_abort (k := k) ⟨hst, hkind, hfin, hab, hmode, hfrozen⟩ hscene n
    have hcount := poolW_resultWrite_count (s := s) k.val (ws := List.replicate 7 0) (by simp)
    have hword := poolW_resultWrite (s := s) k.val (ws := List.replicate 7 0) (by simp) (i := 0) (by simp)
    have hk := resultWrite_keeps (s := s) k.val (List.replicate 7 0)
    generalize s.resultWrite k.val (List.replicate 7 0) = u at *
    have hslot := modSlot_slot (s := u) k.val fun j => { j with st := .aborted, error := 0, abortReq := false, fin := none }
    have hk' := (hk.mono (qs := [.jobs, .mem, .cores]) (by simp)).trans (modSlot_keeps (s := u) k.val fun j => { j with st := .aborted, error := 0, abortReq := false, fin := none }) (by simp)
    exact leads_done hexec ⟨congrArg JobSlot.st hslot, hk.part (p := .canopy) (by simp), hcount, hword, hk'.answered_cores (by simp) _⟩
  · have hexec := exec_sceneStageMirror (k := k) ⟨hst, hkind, hfin, hab, hmode, hfrozen⟩ (sceneOf_some hscene hslot)
    rw [mirrorStep_gains hscene hab hflags hpos] at hexec
    have hslot' := jobProgress_slot (s := ({ s with canopy := { s.canopy with gainShadow := copyBank 0x7FFF s.canopy.gainLive s.canopy.gainShadow (w.pos * 32768) ((w.pos + 1) * 32768) } }).staged (w.mirrored s.tickLo (if s.rate96 then 16384 else 32768))) k.val ((w.pos + 1) * 64)
    refine leads_done hexec ⟨spGet_copyBank hcanon _ _ _ _, congrArg JobSlot.total hslot', rfl, keeps.answered_cores ?_ (by simp) _⟩
    exact keeps.trans (by simp [keeps_iff, State.staged]) (modSlot_keeps k.val _) (by simp)
  · have hexec := exec_sceneStageMirror (k := k) ⟨hst, hkind, hfin, hab, hmode, hfrozen⟩ (sceneOf_some hscene hslot)
    rw [mirrorStep_banks hscene hab hcores hpos] at hexec
    have hu : keeps [.jobs, .canopy, .graph] s ((s.banked.staged { w.wrote s.tickLo with pos := w.pos + 1 }).jobProgress k.val (65536 + 57344 / 1024)) :=
      keeps.trans (t := s.banked.staged { w.wrote s.tickLo with pos := w.pos + 1 }) (by simp [keeps_iff, State.staged, State.banked]) (modSlot_keeps k.val _) (by simp)
    have hcanopy : ((s.banked.staged { w.wrote s.tickLo with pos := w.pos + 1 }).jobProgress k.val (65536 + 57344 / 1024)).canopy =
      { s.banked.canopy with scene := some { w.wrote s.tickLo with pos := w.pos + 1 } } := rfl
    have hgraph : ((s.banked.staged { w.wrote s.tickLo with pos := w.pos + 1 }).jobProgress k.val (65536 + 57344 / 1024)).graph = s.banked.graph := rfl
    generalize (s.banked.staged { w.wrote s.tickLo with pos := w.pos + 1 }).jobProgress k.val (65536 + 57344 / 1024) = u at *
    obtain ⟨hend, hcan, hcount, hword, hk⟩ := sceneStop_leaves (congrArg CanopySt.scene hcanopy) hslot 0
    have hgraph' := (hk.part (p := .graph) (by simp)).trans hgraph
    have hk' := (hu.mono (qs := [.jobs, .canopy, .graph, .mem, .cores]) (by simp)).trans hk (by simp)
    rw [hcanopy] at hcan
    generalize u.sceneStop k.val 0 = t at *
    have hsel : t.sel j = s.banked.sel j := congrArg (fun g : GraphSt => spGet noSel g.sels j) hgraph'
    refine leads_done hexec ⟨?_, fun hj => ?_, fun hj => ?_, fun hj => ?_, hend, hcount, hword 0 (by decide), hword 1 (by decide), hk'.answered_cores (by simp) _⟩
    · show t.canopy = { s.canopy with detShadow := t.canopy.detShadow, sclShadow := t.canopy.sclShadow, scene := none }
      rw [hcan]
      rfl
    · show spGet detDefault t.canopy.detShadow j = _
      rw [hcan]
      exact (spGet_copyBank hdet _ _ _ _).trans (if_pos ⟨Nat.zero_le _, hj⟩)
    · show spGet 0 t.canopy.sclShadow j = _
      rw [hcan]
      exact (spGet_copyBank hscl _ _ _ _).trans (if_pos ⟨Nat.zero_le _, hj⟩)
    · show (t.sel j).shadowPos = (t.sel j).pos ∧ (t.sel j).pos = (s.sel j).pos
      rw [hsel, banked_sel hj]
      exact ⟨rfl, rfl⟩
  · have hexec := exec_sceneStageMirror_waits (k := k) ⟨hst, hkind, hfin, hab, hmode, hfrozen⟩ hscene hbusy n
    exact leads_done hexec ⟨rfl, keepStacks_self _, (keeps.refl _ _).answered_cores (by simp) _⟩

end Sys2Proof.Machine
end

section
/-! SUPPORT. The operations of format P that write one accumulator (R209, R210, R212). -/

namespace Sys2Proof.Machine

/-- An operation of format P that writes DA from an exact result, and the flags. -/
theorem leads_single {i : Instr} {k : Fin 64} {s : State} {f : PArgs} {r : Core → Int} {v : Int}
    (hexec : exec i s = coreDoes k i (stepP k.val f [f.da.val] fun c => ar1 f.da.val (r c) c) s) (hruns : (s.core k.val).runs 1 = true)
    (hr : r (s.core k.val) = v) (hdue : s.due k = i) : leads i s (gives1 k.val f v s) := by
  refine (leads_arithmetic hexec rfl hruns hdue).mono fun t ⟨honly, hframe, hacc, hz, hn, hv, hovf⟩ => ?_
  subst hr
  refine ⟨honly, (hacc _ (List.mem_singleton_self _)).trans (put_a_same ..), ⟨hz, hn, hv, hovf.trans ?_⟩, hframe⟩
  rw [show (ar1 f.da.val (r (s.core k.val)) (s.core k.val)).ovf = ((s.core k.val).ovf || accOver (r (s.core k.val))) from put_ovf ..]
  cases (s.core k.val).ovf <;> rfl

/-- Settles O25: each operation is an exact result of the core's registers, put into DA by `leads_single`. -/
theorem fullerAccumulator : Obligations.FullerAccumulator := by
  intro s k f hruns
  have habs (x : Int) : (x.natAbs : Int) = max x (-x) := by omega
  refine ⟨leads_single (r := fun _ => 0) rfl hruns rfl, leads_single (r := fun c => c.xv f.xs * c.yv f.ys) rfl hruns rfl,
    leads_single (r := fun c => c.a f.da.val + c.xv f.xs * c.yv f.ys) rfl hruns rfl, leads_single (r := fun c => c.a f.da.val - c.xv f.xs * c.yv f.ys) rfl hruns rfl,
    leads_single (r := fun c => c.a f.da.val + c.a f.sa.val) rfl hruns rfl, leads_single (r := fun c => c.a f.da.val - c.a f.sa.val) rfl hruns rfl,
    leads_single (r := fun c => c.a f.da.val + c.xv f.xs * 2 ^ 22) rfl hruns rfl, leads_single (r := fun c => c.a f.da.val * 2 ^ f.k.val) rfl hruns rfl,
    leads_single (r := fun c => c.a f.da.val / 2 ^ f.k.val) rfl hruns ?_, leads_single (r := fun c => -(c.a f.da.val)) rfl hruns rfl,
    leads_single (r := fun c => ((c.a f.da.val).natAbs : Int)) rfl hruns (habs _),
    leads_single (r := fun c => max (c.a f.da.val) (((c.xv f.xs).natAbs : Int) * 2 ^ 22)) rfl hruns ?_, leads_single (r := fun c => c.a f.sa.val) rfl hruns rfl⟩
  · exact (Int.fdiv_eq_ediv_of_nonneg _ (by positivity)).symm
  · rw [habs]
    rfl

end Sys2Proof.Machine
end

section
/-! SUPPORT. A Y move by itself (R211, R214, R215, R220, R221): what it loads or stores, and its pointer. -/

namespace Sys2Proof.Machine

section
variable {s : State} {k : Fin 64} {i : CoreInfo} {f : PArgs} {c : Core} {keep : List Nat} {ar : Core → Core} {a : Nat} {m : PMove}

/-! ## The instruction with a Y move alone -/

theorem moved_of_y (hx : f.x.code = 0) : c.moved i f keep = movePtr c f.y (doMove i c keep false f.y c) := by
  rw [Core.moved, doMove_of_code_zero i c keep true c hx, movePtr_of_code_zero c _ hx]
theorem pRun_regs : (pRun i f keep ar c).x0 = (c.moved i f keep).x0 ∧ (pRun i f keep ar c).x1 = (c.moved i f keep).x1 ∧
    (pRun i f keep ar c).y0 = (c.moved i f keep).y0 ∧ (pRun i f keep ar c).y1 = (c.moved i f keep).y1 ∧ (pRun i f keep ar c).y = (c.moved i f keep).y := by
  rw [pRun_only]
  exact ⟨rfl, rfl, rfl, rfl, rfl⟩
theorem pRun_esat : (pRun i f keep ar c).esat = (c.moved i f keep).esat ∧ (pRun i f keep ar c).esats = (c.moved i f keep).esats := by
  rw [pRun_only]
  exact ⟨rfl, rfl⟩
theorem pRun_ptr : (pRun i f keep ar c).pt = (c.moved i f keep).pt ∧ (pRun i f keep ar c).wrap = (c.moved i f keep).wrap ∧
    (pRun i f keep ar c).recWrap = (c.moved i f keep).recWrap := by
  rw [pRun_only]
  exact ⟨rfl, rfl, rfl⟩
/-- What a Y move leaves in the registers and in Y, its pointer apart. -/
theorem moved_regs (hx : f.x.code = 0) : (c.moved i f keep).x0 = (doMove i c keep false f.y c).x0 ∧ (c.moved i f keep).x1 = (doMove i c keep false f.y c).x1 ∧
    (c.moved i f keep).y0 = (doMove i c keep false f.y c).y0 ∧ (c.moved i f keep).y1 = (doMove i c keep false f.y c).y1 ∧
    (c.moved i f keep).y = (doMove i c keep false f.y c).y ∧ (c.moved i f keep).acc = (doMove i c keep false f.y c).acc ∧
    (c.moved i f keep).esat = (doMove i c keep false f.y c).esat ∧ (c.moved i f keep).esats = (doMove i c keep false f.y c).esats := by
  rw [moved_of_y hx, movePtr_only]
  exact ⟨rfl, rfl, rfl, rfl, rfl, rfl, rfl, rfl⟩

/-! ## The word that it moves -/

theorem ptr_settled (hlate : c.late = none) (n : Nat) : c.ptr n = ((spGet 0 c.pt n).toNat, (spGet 0 c.st n).toInt, spGet 0 c.rg n) := by
  rw [Core.ptr, hlate]
theorem moveAddr_single (hlate : c.late = none) (hcode : m.code.val ≤ 12) : c.moveAddr m = (spGet 0 c.pt m.ptr.val).toNat := by
  have hsize : moveSize m.code.val = 1 := if_neg (by omega)
  rw [Core.moveAddr, hsize, if_neg (by decide), ptr_settled hlate]
theorem moveAddr_double (hlate : c.late = none) (hcode : m.code.val = 14) : c.moveAddr m = (spGet 0 c.pt m.ptr.val).toNat / 2 * 2 := by
  have hsize : moveSize m.code.val = 2 := if_pos (by omega)
  rw [Core.moveAddr, hsize, if_pos rfl, ptr_settled hlate]
/-- A load of Y, which sets no flag. -/
theorem doMove_load_y (hcode : 1 ≤ m.code.val ∧ m.code.val ≤ 14) (hload : m.store = false) : doMove i c keep false m c =
    c.loadRegs keep m.code.val (spGet 0 c.y (c.moveAddr m % 16384)) (spGet 0 c.y ((c.moveAddr m + 1) % 16384)) := by
  unfold doMove
  dsimp only
  rw [if_neg (by omega), if_neg (by simp [moveActs, hcode]), hload, if_neg (by simp)]
  simp [Core.noteFar, Core.load]
/-- A store of one word of Y. -/
theorem doMove_store_y (hcode : 1 ≤ m.code.val ∧ m.code.val ≤ 12) (hstore : m.store = true) : doMove i c keep false m c =
    { c.noteSat (c.storeWords m.code.val).2 with y := spSet 0 (c.noteSat (c.storeWords m.code.val).2).y (c.moveAddr m % 16384) (nth 0 (c.storeWords m.code.val).1 0) } := by
  have hsize : moveSize m.code.val = 1 := if_neg (by omega)
  unfold doMove
  dsimp only
  rw [if_neg (by omega), if_neg (by simp [moveActs]; omega), if_pos hstore, if_neg (by omega), if_neg (by omega)]
  simp [Core.noteFar, Core.store]
theorem noteSat_esat (b : Bool) : (c.noteSat b).esat = (c.esat || b) ∧ (c.noteSat b).esats = c.esats + (if b = true then 1 else 0) := by
  cases b
  · exact ⟨(Bool.or_false _).symm, rfl⟩
  · exact ⟨(Bool.or_true _).symm, rfl⟩

/-! ## Its pointer -/

theorem movePtr_moved (hacts : 1 ≤ m.code.val ∧ m.code.val ≤ 14) (hmode : m.mode.val ≠ 0) (hlate : c.late = none) {d : Core} {r : Nat × Bool}
    (hr : ptStep (spGet 0 c.pt m.ptr.val).toNat (spGet 0 c.rg m.ptr.val)
      (if m.mode.val = 1 then (moveSize m.code.val : Int) else if m.mode.val = 2 then (spGet 0 c.st m.ptr.val).toInt else -(moveSize m.code.val : Int)) = r) :
    (movePtr c m d).pt = spSet 0 d.pt m.ptr.val (BitVec.ofNat 15 r.1) ∧ (movePtr c m d).wrap = (d.wrap || r.2) ∧ (movePtr c m d).recWrap = (d.recWrap || r.2) := by
  unfold movePtr
  dsimp only
  rw [if_neg (by simp [moveActs, hacts, hmode]), ptr_settled hlate]
  dsimp only
  rw [hr]
  cases r.2 <;> simp [Core.setWrap]

theorem doMove_y_ptr : (doMove i c keep false m c).pt = c.pt ∧ (doMove i c keep false m c).wrap = c.wrap ∧ (doMove i c keep false m c).recWrap = c.recWrap := by
  rw [(doMove_moveFrame i c keep false c).only]
  exact ⟨rfl, rfl, rfl⟩
/-- The pointer of a Y move that acts, once the instruction has run. -/
theorem pRun_moved (hx : f.x.code = 0) (hacts : 1 ≤ f.y.code.val ∧ f.y.code.val ≤ 14) (hmode : f.y.mode.val ≠ 0) (hlate : c.late = none) {r : Nat × Bool}
    (hr : ptStep (spGet 0 c.pt f.y.ptr.val).toNat (spGet 0 c.rg f.y.ptr.val)
      (if f.y.mode.val = 1 then (moveSize f.y.code.val : Int) else if f.y.mode.val = 2 then (spGet 0 c.st f.y.ptr.val).toInt else -(moveSize f.y.code.val : Int)) = r) :
    spGet 0 (pRun i f keep ar c).pt f.y.ptr.val = BitVec.ofNat 15 r.1 ∧ (pRun i f keep ar c).wrap = (c.wrap || r.2) ∧ (pRun i f keep ar c).recWrap = (c.recWrap || r.2) := by
  obtain ⟨hpt, hwrap, hrec⟩ := pRun_ptr (i := i) (f := f) (keep := keep) (ar := ar) (c := c)
  obtain ⟨gpt, gwrap, grec⟩ := movePtr_moved (d := doMove i c keep false f.y c) hacts hmode hlate hr
  obtain ⟨-, dwrap, drec⟩ := doMove_y_ptr (i := i) (keep := keep) (m := f.y) (c := c)
  rw [hpt, hwrap, hrec, moved_of_y hx, gpt, gwrap, grec, dwrap, drec, spGet_spSet_same]
  exact ⟨rfl, rfl, rfl⟩
theorem pRun_a_of_y (hx : f.x.code = 0) (j : Nat) : (pRun i f [] ar c).a j = (doMove i c [] false f.y c).a j := by
  obtain ⟨-, -, -, -, -, hacc, -, -⟩ := moved_regs (i := i) (keep := []) (c := c) hx
  rw [pRun_a, if_neg (by simp), Core.a, hacc]
  rfl
/-- The load of an accumulator from a word, 32 bits or 24 (R220). -/
theorem doMove_load_acc (j : Fin 4) (hload : m.store = false) (hcode : m.code.val = 5 + j.val) :
    (doMove i c [] false m c).a j.val = (spGet 0 c.y (c.moveAddr m % 16384)).toInt * 4194304 := by
  have hj := j.isLt
  have hbits := BitVec.toInt_lt (x := spGet 0 c.y (c.moveAddr m % 16384))
  have hbits' := BitVec.le_toInt (spGet 0 c.y (c.moveAddr m % 16384))
  rw [doMove_load_y (by omega) hload, Core.loadRegs, if_neg (by omega), if_neg (by omega), if_neg (by omega), if_neg (by omega), if_pos (by omega),
    show m.code.val - 5 = j.val by omega, if_neg (by simp), a_setA_same _ _ (by omega) (by omega)]
  rfl
theorem sext_24 (x : Nat) : -8388608 ≤ sext 24 x ∧ sext 24 x < 8388608 := by
  unfold sext
  split_ifs <;> omega
theorem doMove_load_acc24 (j : Fin 4) (hload : m.store = false) (hcode : m.code.val = 9 + j.val) :
    (doMove i c [] false m c).a j.val = sext 24 (spGet 0 c.y (c.moveAddr m % 16384)).toNat * 8388608 := by
  have hj := j.isLt
  have hbits := sext_24 (spGet 0 c.y (c.moveAddr m % 16384)).toNat
  rw [doMove_load_y (by omega) hload, Core.loadRegs, if_neg (by omega), if_neg (by omega), if_neg (by omega), if_neg (by omega), if_neg (by omega), if_pos (by omega),
    show m.code.val - 9 = j.val by omega, if_neg (by simp), a_setA_same _ _ (by omega) (by omega)]
  rfl
theorem storeWords_acc (j : Fin 4) : c.storeWords (5 + j.val) = ([i32 (extract (c.a j.val) 22 32)], extractSat (c.a j.val) 22 32) := by
  have hj := j.isLt
  rw [Core.storeWords, if_neg (by omega), if_neg (by omega), if_neg (by omega), if_neg (by omega), if_pos (by omega), Nat.add_sub_cancel_left]
theorem storeWords_acc24 (j : Fin 4) : c.storeWords (9 + j.val) = ([i32 (extract (c.a j.val) 23 24)], extractSat (c.a j.val) 23 24) := by
  have hj := j.isLt
  rw [Core.storeWords, if_neg (by omega), if_neg (by omega), if_neg (by omega), if_neg (by omega), if_neg (by omega), if_pos (by omega), Nat.add_sub_cancel_left]
theorem pRun_stored (hx : f.x.code = 0) (hcode : 1 ≤ f.y.code.val ∧ f.y.code.val ≤ 12) (hstore : f.y.store = true) :
    spGet 0 (pRun i f keep ar c).y (c.moveAddr f.y % 16384) = nth 0 (c.storeWords f.y.code.val).1 0 := by
  obtain ⟨-, -, -, -, hy⟩ := pRun_regs (i := i) (f := f) (keep := keep) (ar := ar) (c := c)
  obtain ⟨-, -, -, -, hmoved, -, -, -⟩ := moved_regs (i := i) (keep := keep) (c := c) hx
  rw [hy, hmoved, doMove_store_y hcode hstore]
  exact spGet_spSet_same ..

end

/-- A core that counts its saturated extractions. -/
theorem rd_putCore_same (s : State) (k : Nat) (c : Core) : (s.putCore k c).rd (FUL_ESAT_COUNT k) = w32 (satN 32 ((s.rd (FUL_ESAT_COUNT k)).toNat + c.esats)) :=
  rd_wr_same ..
theorem satN_count (x : W32) (b : Bool) : w32 (satN 32 (x.toNat + (if b = true then 1 else 0))) = x ↔ b = false ∨ x.toNat = 4294967295 := by
  have hx := x.isLt
  cases b
  · simp only [true_or, iff_true, Bool.false_eq_true, if_false, satN]
    rw [if_neg (by omega)]
    simp [w32]
  · simp only [if_true, Bool.true_eq_false, false_or, satN]
    constructor
    · intro h
      have hn := congrArg BitVec.toNat h
      rw [toNat_w32 (by split_ifs <;> omega)] at hn
      split_ifs at hn <;> omega
    · intro h
      refine BitVec.eq_of_toNat_eq ?_
      rw [toNat_w32 (by split_ifs <;> omega)]
      split_ifs <;> omega

theorem rgBase_lt (w : W32) : rgBase w < 16384 := by
  simp only [rgBase, fld]
  omega
/-- A step within a modulo buffer (R215). -/
theorem ptStep_inside {pt : Nat} {rg : W32} {delta : Int} (hmode : rgMode rg = 1) (hlen : 0 < rgLen rg) (hlow : rgBase rg ≤ pt) (hhigh : pt < rgBase rg + rgLen rg) :
    ptStep pt rg delta = (rgBase rg + (((pt : Int) - rgBase rg + delta) % (rgLen rg : Int)).toNat, false) := by
  unfold ptStep
  dsimp only
  rw [if_pos ⟨hmode, by omega⟩, if_neg (by omega)]
/-- A pointer outside its modulo buffer goes to its base. -/
theorem ptStep_outside {pt : Nat} {rg : W32} (delta : Int) (hmode : rgMode rg = 1) (hlen : 0 < rgLen rg) (hout : pt < rgBase rg ∨ rgBase rg + rgLen rg ≤ pt) :
    ptStep pt rg delta = (rgBase rg, true) := by
  unfold ptStep
  dsimp only
  rw [if_pos ⟨hmode, by omega⟩, if_pos (by omega)]

/-- Settles O27: the word moved is that of `doMove_load_y` and `doMove_store_y`, the pointer's step that of `movePtr_moved`. -/
theorem fullerMoves : Obligations.FullerMoves := by
  intro s k f c a w j hruns hcore hlate hx ha hw
  rw [hcore] at hruns
  subst ha hw
  have hstep {p : State → Prop} (hdue : s.due k = .nop k f) (hp : ∀ t, coreOnly k.val s t ∧ t.core k.val = { pRun (s.coreInfo k.val) f [] id c with esats := 0 } → p t) :
      leads (.nop k f) s p := (leads_stepP (ar := id) rfl hcore hruns hdue).mono hp
  obtain ⟨hx0, hx1, hy0, hy1, hy⟩ := pRun_regs (i := s.coreInfo k.val) (f := f) (keep := []) (ar := id) (c := c)
  obtain ⟨mx0, mx1, my0, my1, -, -, -, -⟩ := moved_regs (i := s.coreInfo k.val) (keep := []) (c := c) hx
  refine ⟨fun hdue hload hcode => hstep hdue fun t ⟨_, ht⟩ => ?_, fun hdue hload hcode => hstep hdue fun t ⟨_, ht⟩ => ?_,
    fun hdue hload hcode => hstep hdue fun t ⟨_, ht⟩ => ?_, fun hdue hload hcode => hstep hdue fun t ⟨_, ht⟩ => ?_,
    fun hdue hstore hcode => hstep hdue fun t ⟨_, ht⟩ => ?_, fun hdue hstore hcode hesats => ?_,
    fun hdue hstore hcode => hstep hdue fun t ⟨_, ht⟩ => ?_, fun hdue hlow hhigh hmode hrg => hstep hdue fun t ⟨_, ht⟩ => ?_,
    fun hdue hlow hhigh hmode hrg hlen hlen' hbase hbase' => hstep hdue fun t ⟨_, ht⟩ => ?_, fun hdue hlow hhigh hmode hrg hlen hout => hstep hdue fun t ⟨_, ht⟩ => ?_⟩
  · rw [ht]
    show (pRun (s.coreInfo k.val) f [] id c).y0 = _ ∧ (pRun (s.coreInfo k.val) f [] id c).y1 = _ ∧ (pRun (s.coreInfo k.val) f [] id c).x0 = _ ∧ (pRun (s.coreInfo k.val) f [] id c).x1 = _
    have hv : f.y.code.val = 3 := congrArg Fin.val hcode
    rw [hy0, hy1, hx0, hx1, my0, my1, mx0, mx1, doMove_load_y (by omega) hload, hv, moveAddr_single hlate (by omega)]
    exact ⟨rfl, rfl, rfl, rfl⟩
  · rw [ht]
    exact (pRun_a_of_y hx j.val).trans ((doMove_load_acc j hload hcode).trans (by rw [moveAddr_single hlate (by omega)]))
  · rw [ht]
    exact (pRun_a_of_y hx j.val).trans ((doMove_load_acc24 j hload hcode).trans (by rw [moveAddr_single hlate (by omega)]))
  · rw [ht]
    show (pRun (s.coreInfo k.val) f [] id c).y0 = _ ∧ (pRun (s.coreInfo k.val) f [] id c).y1 = _
    have hv : f.y.code.val = 14 := congrArg Fin.val hcode
    rw [hy0, hy1, my0, my1, doMove_load_y (by omega) hload, hv, moveAddr_double hlate hv]
    exact ⟨rfl, rfl⟩
  · have hv : f.y.code.val = 3 := congrArg Fin.val hcode
    have hstored := pRun_stored (i := s.coreInfo k.val) (keep := []) (ar := id) (c := c) hx (by omega) hstore
    rw [moveAddr_single hlate (by omega), hv] at hstored
    rw [ht]
    exact hstored
  · have hexec : exec (.clr k f) s = doneStep s (s.putCore k.val (pRun (s.coreInfo k.val) f [f.da.val] (ar1 f.da.val 0) c)) := by
      show coreDoes k (.clr k f) (stepP k.val f [f.da.val] (ar1 f.da.val 0)) s = _
      rw [coreDoes_due _ hdue, stepP, hcore, if_pos hruns]
    have hstored := pRun_stored (i := s.coreInfo k.val) (keep := [f.da.val]) (ar := ar1 f.da.val 0) (c := c) hx (by omega) hstore
    obtain ⟨hesat, hcount⟩ := pRun_esat (i := s.coreInfo k.val) (f := f) (keep := [f.da.val]) (ar := ar1 f.da.val 0) (c := c)
    obtain ⟨-, -, -, -, -, -, hmoved, hmoved'⟩ := moved_regs (i := s.coreInfo k.val) (keep := [f.da.val]) (c := c) hx
    rw [hmoved, doMove_store_y (by omega) hstore, hcode, storeWords_acc] at hesat
    rw [hmoved', doMove_store_y (by omega) hstore, hcode, storeWords_acc] at hcount
    rw [moveAddr_single hlate (by omega), hcode, storeWords_acc] at hstored
    obtain ⟨hflag, hnumber⟩ := noteSat_esat (c := c) (extractSat (c.a j.val) 22 32)
    have hrd := rd_putCore_same s k.val (pRun (s.coreInfo k.val) f [f.da.val] (ar1 f.da.val 0) c)
    rw [hcount, hnumber, hesats, Nat.zero_add] at hrd
    have hcore' := core_putCore_same (s := s) (k := k.val) (c := pRun (s.coreInfo k.val) f [f.da.val] (ar1 f.da.val 0) c)
    generalize pRun (s.coreInfo k.val) f [f.da.val] (ar1 f.da.val 0) c = d at *
    refine leads_doneStep hexec ⟨?_, ?_, ?_⟩
    · exact (congrArg (fun d : Core => spGet 0 d.y _) hcore').trans hstored
    · exact (congrArg Core.esat hcore').trans (hesat.trans hflag)
    · exact (Eq.congr_left hrd).trans (satN_count _ _)
  · have hstored := pRun_stored (i := s.coreInfo k.val) (keep := []) (ar := id) (c := c) hx (by omega) hstore
    rw [moveAddr_single hlate (by omega), hcode, storeWords_acc24] at hstored
    rw [ht]
    exact hstored
  · have hm : f.y.mode.val = 1 := congrArg Fin.val hmode
    have hsize : moveSize f.y.code.val = 1 := if_neg (by omega)
    obtain ⟨hpt, hwrap, -⟩ := pRun_moved (i := s.coreInfo k.val) (f := f) (keep := []) (ar := id) (c := c) hx (by omega) (by omega) hlate rfl
    have hr : ptStep (spGet 0 c.pt f.y.ptr.val).toNat (spGet 0 c.rg f.y.ptr.val)
        (if f.y.mode.val = 1 then (moveSize f.y.code.val : Int) else if f.y.mode.val = 2 then (spGet 0 c.st f.y.ptr.val).toInt else -(moveSize f.y.code.val : Int)) =
        (((spGet 0 c.pt f.y.ptr.val).toNat + 1) % 16384, false) := by
      rw [if_pos hm, hsize, ptStep]
      dsimp only
      rw [if_neg (by omega), if_neg (by omega)]
      refine Prod.ext ?_ rfl
      dsimp only
      omega
    rw [hr] at hpt hwrap
    rw [ht]
    refine ⟨(congrArg BitVec.toNat hpt).trans ?_, hwrap.trans (Bool.or_false _)⟩
    rw [BitVec.toNat_ofNat]
    omega
  · have hm : f.y.mode.val = 2 := congrArg Fin.val hmode
    obtain ⟨hpt, hwrap, -⟩ := pRun_moved (i := s.coreInfo k.val) (f := f) (keep := []) (ar := id) (c := c) hx (by omega) (by omega) hlate rfl
    rw [if_neg (by omega), if_pos hm, ptStep_inside hrg hlen hbase hbase'] at hpt hwrap
    rw [ht]
    refine ⟨(congrArg (fun p : BitVec 15 => (p.toNat : Int)) hpt).trans ?_, hwrap.trans (Bool.or_false _)⟩
    have hb := rgBase_lt (spGet 0 c.rg f.y.ptr.val)
    have hnonneg := Int.emod_nonneg ((((spGet 0 c.pt f.y.ptr.val).toNat : Int) - rgBase (spGet 0 c.rg f.y.ptr.val)) + (spGet 0 c.st f.y.ptr.val).toInt) (b := rgLen (spGet 0 c.rg f.y.ptr.val)) (by omega)
    have hlt := Int.emod_lt_of_pos ((((spGet 0 c.pt f.y.ptr.val).toNat : Int) - rgBase (spGet 0 c.rg f.y.ptr.val)) + (spGet 0 c.st f.y.ptr.val).toInt) (b := rgLen (spGet 0 c.rg f.y.ptr.val)) (by omega)
    dsimp only
    rw [BitVec.toNat_ofNat, Nat.mod_eq_of_lt (by omega)]
    omega
  · have hm : f.y.mode.val = 3 := congrArg Fin.val hmode
    obtain ⟨hpt, hwrap, hrec⟩ := pRun_moved (i := s.coreInfo k.val) (f := f) (keep := []) (ar := id) (c := c) hx (by omega) (by omega) hlate rfl
    rw [ptStep_outside _ hrg hlen hout] at hpt hwrap hrec
    rw [ht]
    refine ⟨(congrArg BitVec.toNat hpt).trans ?_, hwrap.trans (Bool.or_true _), hrec.trans (Bool.or_true _)⟩
    have hbase := rgBase_lt (spGet 0 c.rg f.y.ptr.val)
    rw [BitVec.toNat_ofNat]
    omega

end Sys2Proof.Machine
end

section
/-! SUPPORT. A host write of a core's X memory that loses its cycle and meets a corrected ECC error. -/

namespace Sys2Proof.Machine

/-- A core that runs. -/
def eccCore : Core := { coreInit with active := true, len := 9 }

/-- A running module with a host, whose core 1 runs. -/
def eccState : State :=
  { State.reset with sys := { resetSys with phase := .running, answering := true, ready := true, hostLink := true, mediaRun := true }
                     cores := [(1, eccCore)] }

/-- Refutes O29: the word found corrected is recorded in FUL_ECC_ADDR and counted, whether or not the write has lost its cycle. -/
theorem not_fullerTransfersAndHost : ¬ Obligations.FullerTransfersAndHost := by
  intro h
  obtain ⟨-, -, -, -, -, -, -, -, -, -, -, -, -, -, -, -, -, -, -, hcollide, -⟩ :=
    h eccState 1 0 0 0 { collide := true, ecc := some .corrected } eccCore 0 0 16 rfl (by decide)
  obtain ⟨t, hexec, -, -, -, hregs, -⟩ := hcollide rfl rfl (by decide) (by decide) rfl
  have hcount : t.rd (FUL_CE_COUNT 1) = 1 := by
    cases Host.Outcome.next.inj hexec
    decide +kernel
  have hkept := hregs (FUL_CE_COUNT 1) (by decide)
  rw [hcount] at hkept
  exact absurd hkept (by decide +kernel)

end Sys2Proof.Machine
end

section
/-! SUPPORT. The states of the audio ports (R244 to R253): enable and lead, slot masks, the clock of a slave, its rate, the lock of its converter. -/

namespace Sys2Proof.Machine

variable {s t u : State} {x y : Port} {p a b i e n rate : Nat} {as : List Nat} {v : W32} {k : Fin 16} {q : Fin 24}

/-! ## The registers of a port, and a port itself -/

theorem evtReg_port : ∀ p : Fin 32, evtReg (portCtlA p.val) = false ∧ evtReg (portStat p.val) = false ∧ portStat p.val ≠ ASR_EVSRC ∧ portStat p.val ≠ ASR_STAT ∧
    portStat p.val ≠ ASR_UNLOCK_COUNT ∧ portCtlA p.val ≠ portStat p.val ∧ portCtlA p.val ≠ ASR_EVSRC := by decide
theorem evtReg_rate : ∀ q : Fin 24, evtReg (rateA q.val) = false ∧ rateA q.val ≠ portStat q.val ∧ rateA q.val ≠ ASR_EVSRC ∧ rateA q.val ≠ ASR_STAT ∧
    rateA q.val ≠ ASR_UNLOCK_COUNT := by decide
theorem port_setPort_same (p : Nat) (x : Port) : (s.setPort p x).port p = x := spGet_spPut_same ..
theorem setPort_sameBut (p : Nat) (x : Port) : sameBut [p] portInit s.ports (s.setPort p x).ports := fun _ ha => spGet_spPut_ne _ _ _ fun h => ha (by simp [h])
theorem setPort_keeps (p : Nat) (x : Port) : keeps [.ports] s (s.setPort p x) := by simp [keeps_iff, State.setPort]
theorem port_of_ports (h : t.ports = s.ports) (p : Nat) : t.port p = s.port p := congrArg (spGet portInit · p) h

/-! ## Flags and events of a port -/

/-- What an event's rising needs of the state that it starts from. -/
theorem raised.of_start (h : raised e u t) (hfit : u.fit = s.fit) (hans : u.sys.answering = s.sys.answering) : raised e s t := fun hhere hup =>
  h (by rw [State.eventHere, hfit]; exact hhere) (by rw [hans]; exact hup)
theorem counted.of_start (h : counted a n u t) (hrd : u.rd a = s.rd a) : counted a n s t := by rwa [counted, ← hrd]

theorem bit_flag_mono (a i : Nat) {b j : Nat} (hj : j < 32) (h : s.bit b j = true) : (s.flag a i).bit b j = true := by
  by_cases hb : b = a
  · subst hb
    rw [bit_flag _ _ _ hj, h, Bool.or_true]
  · exact (bit_of_rd (rd_flag_ne _ _ hb)).trans h
theorem portRaise_only (p e : Nat) : evtOnly s (s.portRaise p e) := .trans (evtOnly_wr _ _ _) (raise_only _ _)
theorem regsKeep.portRaise (h : regsKeep as s t) (hsrc : ASR_EVSRC ∈ as) : regsKeep as s (t.portRaise p e) := (h.flag hsrc).raise
theorem regsKeep.portFlag (h : regsKeep as s t) (hstat : portStat p ∈ as) (hsrc : ASR_EVSRC ∈ as) : regsKeep as s (t.portFlag p i e) := (h.flag hstat).portRaise hsrc
theorem portRaise_rd (h : evtReg a = false) (hne : a ≠ ASR_EVSRC) : (t.portRaise p e).rd a = t.rd a := (raise_rd _ _ h).trans (rd_flag_ne _ _ hne)
theorem portFlag_rd (h : evtReg a = false) (hne : a ≠ ASR_EVSRC) (hne' : a ≠ portStat p) : (t.portFlag p i e).rd a = t.rd a :=
  (portRaise_rd h hne).trans (rd_flag_ne _ _ hne')
theorem raised_portRaise (hfit : t.fit = s.fit) (hans : t.sys.answering = s.sys.answering) : raised e s (t.portRaise p e) := raised_raise (t := t.flag ASR_EVSRC p) hfit hans
theorem raised_portFlag (hfit : t.fit = s.fit) (hans : t.sys.answering = s.sys.answering) : raised e s (t.portFlag p i e) := raised_portRaise (t := t.flag _ _) hfit hans
theorem raised.portRaise (h : raised n s t) : raised n s (t.portRaise p e) := (h.wr rfl).raise
theorem raised.portFlag (h : raised n s t) (hp : evtReg (portStat p) = false) : raised n s (t.portFlag p i e) := raised.portRaise (t := t.flag _ _) (h.wr hp)
theorem bit_portRaise_src (hp : p < 32) : (t.portRaise p e).bit ASR_EVSRC p = true := (bit_raise rfl).trans (bit_flag_self hp)
theorem bit_portFlag_src (hp : p < 32) : (t.portFlag p i e).bit ASR_EVSRC p = true := bit_portRaise_src hp
theorem bit_portRaise_mono {j : Nat} (h : evtReg b = false) (hj : j < 32) (hb : t.bit b j = true) : (t.portRaise p e).bit b j = true :=
  (bit_raise h).trans (bit_flag_mono _ _ hj hb)
theorem bit_portFlag_mono {j : Nat} (h : evtReg b = false) (hj : j < 32) (hb : t.bit b j = true) : (t.portFlag p i e).bit b j = true :=
  bit_portRaise_mono h hj (bit_flag_mono _ _ hj hb)
theorem bit_portFlag_self (hp : evtReg (portStat p) = false) (hi : i < 32) : (t.portFlag p i e).bit (portStat p) i = true :=
  bit_portRaise_mono hp hi (bit_flag_self hi)

/-! ## The converter loses its lock (R253) -/

theorem asrcUnlock_free (h : (s.port p).locked = false) : s.asrcUnlock p = s := if_neg (by simp [h])
/-- What the converter's loss leaves of its port. -/
def Port.unlocked (x : Port) : Port := { x with locked := false, fade := 2, lockTicks := 0, ratio := 0, reenter := x.reenter || x.st == .run, quality := 0 }
theorem asrcUnlock_locked (h : (s.port p).locked = true) :
    s.asrcUnlock p = (((s.setPort p (s.port p).unlocked).flag ASR_STAT 0).count ASR_UNLOCK_COUNT 1).portRaise p 50 := if_pos h
theorem asrcUnlock_answering : (s.asrcUnlock p).sys.answering = s.sys.answering := by
  by_cases h : (s.port p).locked = true
  · rw [asrcUnlock_locked h]
    exact (portRaise_only _ _).sys_answering
  · rw [asrcUnlock_free (by simpa using h)]
theorem asrcUnlock_leaves (h : (s.port p).locked = true) : (s.asrcUnlock p).port p = (s.port p).unlocked ∧ (s.asrcUnlock p).bit ASR_STAT 0 = true ∧
    raised 50 s (s.asrcUnlock p) ∧ counted ASR_UNLOCK_COUNT 1 s (s.asrcUnlock p) ∧ regsKeep [ASR_STAT, ASR_UNLOCK_COUNT, ASR_EVSRC] s (s.asrcUnlock p) ∧
    sameBut [p] portInit s.ports (s.asrcUnlock p).ports ∧ keeps [.regs, .out, .mon, .sys, .ports] s (s.asrcUnlock p) := by
  rw [asrcUnlock_locked h]
  generalize (s.port p).unlocked = y
  have hset : keeps [.regs, .out, .mon, .sys, .ports] s ((s.setPort p y).flag ASR_STAT 0 |>.count ASR_UNLOCK_COUNT 1) :=
    (((setPort_keeps p y).mono (by simp)).flag (by simp)).count (by simp)
  have hports := (portRaise_only (s := (s.setPort p y).flag ASR_STAT 0 |>.count ASR_UNLOCK_COUNT 1) p 50).keeps.part (p := .ports) (by simp)
  refine ⟨(port_of_ports hports p).trans (port_setPort_same p y), bit_portRaise_mono rfl (by decide) ?_, raised_portRaise rfl rfl, ?_, ?_, ?_, hset.evt (by simp) (portRaise_only _ _)⟩
  · rw [State.count, bit_wr_ne _ _ _ (by decide)]
    exact bit_flag_self (by decide)
  · exact (portRaise_rd rfl (by decide)).trans (counted_count (rd_wr_ne _ _ (by decide)))
  · exact (((regsKeep_of_regs rfl).flag (by simp)).count (by simp)).portRaise (by simp)
  · exact (congrArg (sameBut [p] portInit s.ports) hports).mpr (setPort_sameBut p y)
/-- What was pending or set before the converter's loss still is. -/
theorem raised.asrcUnlock (h : raised e u s) : raised e u (s.asrcUnlock p) := by
  by_cases hl : (s.port p).locked = true
  · rw [asrcUnlock_locked hl]
    exact raised.portRaise (((h.of_regs (u := s.setPort p _) rfl).wr rfl).wr rfl)
  · rwa [asrcUnlock_free (by simpa using hl)]
theorem bit_asrcUnlock_mono (hb : evtReg b = false) (hne : b ≠ ASR_UNLOCK_COUNT) (hi : i < 32) (h : s.bit b i = true) : (s.asrcUnlock p).bit b i = true := by
  by_cases hl : (s.port p).locked = true
  · rw [asrcUnlock_locked hl]
    refine bit_portRaise_mono hb hi ((bit_wr_ne _ _ _ hne).trans ?_)
    exact bit_flag_mono (s := s.setPort p _) _ _ hi h
  · rwa [asrcUnlock_free (by simpa using hl)]

/-! ## The rate of a port is measured (R248 to R250) -/

/-- A port whose rate has been measured. -/
def Port.rated (x : Port) (rate : Nat) (off chg : Bool) : Port :=
  { x with rate := rate, rateClass := rateClassOf rate, mismatch := off, rateRef := if chg then rate else x.rateRef, reenter := x.reenter || (off && x.st == .run),
           quality := if off then 0 else x.quality, rx := if off then none else x.rx, tx := if off then none else x.tx }
/-- The measurement noted: the port, its RATE register, and the event of a change. -/
def State.rateNoted (s : State) (p rate : Nat) (y : Port) (chg : Bool) : State :=
  if chg then ((s.wr (rateA p) (w32 rate)).setPort p y).portFlag p 5 (if p < 16 then 41 else 46) else (s.wr (rateA p) (w32 rate)).setPort p y
theorem portRate_eq {off chg : Bool} (hx : s.port p = x) (hoff : off = s.misrated p (s.cfgNow p) rate)
    (hchg : chg = (rateClassOf rate != x.rateClass || (x.rateRef != 0 && !rateWithin 50 rate x.rateRef))) : s.portRate p rate =
    if rateClassOf rate != x.rateClass then (s.rateNoted p rate (x.rated rate off chg) chg).asrcUnlock p else s.rateNoted p rate (x.rated rate off chg) chg := by
  subst hx hoff hchg
  rfl
theorem rateNoted_leaves (q : Fin 24) (rate : Nat) (y : Port) (chg : Bool) : (s.rateNoted q.val rate y chg).port q.val = y ∧
    (s.rateNoted q.val rate y chg).rd (rateA q.val) = w32 rate ∧
    (chg = true → (s.rateNoted q.val rate y chg).bit (portStat q.val) 5 = true ∧ raised (if q.val < 16 then 41 else 46) s (s.rateNoted q.val rate y chg)) ∧
    sameBut [q.val] portInit s.ports (s.rateNoted q.val rate y chg).ports ∧ (chg = false → regsOnly [rateA q.val] s (s.rateNoted q.val rate y chg)) ∧
    regsKeep [rateA q.val, portStat q.val, ASR_EVSRC] s (s.rateNoted q.val rate y chg) ∧ keeps [.regs, .out, .mon, .sys, .ports] s (s.rateNoted q.val rate y chg) := by
  obtain ⟨hevt, hne, hne', -, -⟩ := evtReg_rate q
  obtain ⟨-, hstat, -⟩ := evtReg_port ⟨q.val, by omega⟩
  have hset : keeps [.regs, .out, .mon, .sys, .ports] s ((s.wr (rateA q.val) (w32 rate)).setPort q.val y) :=
    keeps.trans (t := s.wr (rateA q.val) (w32 rate)) (keeps.wr (keeps.refl _ _) (by simp)) (setPort_keeps _ _) (by simp)
  have hregs : regsOnly [rateA q.val] s ((s.wr (rateA q.val) (w32 rate)).setPort q.val y) := ((regsOnly.refl _ s).wr (by simp)).of_regs rfl
  have hrd : ((s.wr (rateA q.val) (w32 rate)).setPort q.val y).rd (rateA q.val) = w32 rate := rd_wr_same ..
  cases chg with
  | false => exact ⟨port_setPort_same _ _, hrd, (fun h => absurd h (by decide)), setPort_sameBut (s := s.wr _ _) _ _, fun _ => hregs, hregs.keep.mono (by simp), hset⟩
  | true =>
    have honly := portFlag_only (s := (s.wr (rateA q.val) (w32 rate)).setPort q.val y) q.val 5 (if q.val < 16 then 41 else 46)
    have hports := honly.keeps.part (p := .ports) (by simp)
    refine ⟨(port_of_ports hports _).trans (port_setPort_same _ _), (portFlag_rd hevt hne' hne).trans hrd, fun _ => ⟨bit_portFlag_self hstat (by decide), raised_portFlag rfl rfl⟩,
      (congrArg (sameBut [q.val] portInit s.ports) hports).mpr (setPort_sameBut (s := s.wr _ _) _ _), (fun h => absurd h (by decide)), ?_, hset.evt (by simp) honly⟩
    exact (hregs.keep.mono (by simp)).portFlag (by simp) (by simp)
theorem rateNoted_answering (p rate : Nat) (y : Port) (chg : Bool) : (s.rateNoted p rate y chg).sys.answering = s.sys.answering := by
  cases chg
  · rfl
  · exact (portFlag_only (s := (s.wr (rateA p) (w32 rate)).setPort p y) p 5 _).sys_answering
theorem raised.rateNoted (h : raised n u s) (q : Fin 24) (rate : Nat) (y : Port) (chg : Bool) : raised n u (s.rateNoted q.val rate y chg) := by
  obtain ⟨hevt, -⟩ := evtReg_rate q
  obtain ⟨-, hstat, -⟩ := evtReg_port ⟨q.val, by omega⟩
  have hset : raised n u ((s.wr (rateA q.val) (w32 rate)).setPort q.val y) := (h.wr hevt).of_regs rfl
  cases chg
  · exact hset
  · exact hset.portFlag hstat

/-! ## The last tick of a lead (R245) -/

theorem portTo_leaves (p : Fin 32) (y : Port) : (s.portTo p.val y).port p.val = y ∧ (s.portTo p.val y).bit (portStat p.val) 0 = true ∧ (s.portTo p.val y).bit ASR_EVSRC p.val = true ∧
    raised 53 s (s.portTo p.val y) ∧ sameBut [p.val] portInit s.ports (s.portTo p.val y).ports ∧ regsKeep [portStat p.val, ASR_EVSRC] s (s.portTo p.val y) ∧
    keeps [.regs, .out, .mon, .sys, .ports] s (s.portTo p.val y) := by
  obtain ⟨-, hstat, -⟩ := evtReg_port p
  have honly := portFlag_only (s := s.setPort p.val y) p.val 0 53
  have hports := honly.keeps.part (p := .ports) (by simp)
  refine ⟨(port_of_ports hports _).trans (port_setPort_same _ _), bit_portFlag_self hstat (by decide), bit_portFlag_src p.isLt, raised_portFlag rfl rfl,
    (congrArg (sameBut [p.val] portInit s.ports) hports).mpr (setPort_sameBut _ _), ?_, ((setPort_keeps _ y).mono (by simp)).evt (by simp) honly⟩
  exact regsKeep.portFlag (regsKeep_of_regs rfl) (by simp) (by simp)

/-! ## The obligation -/

theorem enableBad_of {p : Fin 32} (h : (p.val < 16 ∧ (aspFmt (s.rd (portCfgA p.val)) = 3 ∨ fld (s.rd (portCfgA p.val)) 4 3 = 3 ∨ aspMode (s.rd (portCfgA p.val)) = 3 ∨ fld (s.rd (portBase p.val + 0x14)) 6 0 = 0 ∨
    64 < fld (s.rd (portBase p.val + 0x14)) 14 8 ∨ (aspMode (s.rd (portCfgA p.val)) = 2 ∧ s.asrcOf p.val = []) ∨ (s.struct.rooted.contains p.val = true ∧ aspMode (s.rd (portCfgA p.val)) ≠ 1))) ∨
    (16 ≤ p.val ∧ p.val < 24 ∧ 2 ≤ fld (s.rd (portCfgA p.val)) 1 0)) : s.enableBad p.val = true := by
  unfold State.enableBad
  dsimp only
  rcases h with ⟨hp, h⟩ | ⟨hlow, hhigh, h⟩
  · rw [if_pos hp]
    rcases h with h | h | h | h | h | ⟨h, h'⟩ | ⟨h, h'⟩
    · simp only [h, beq_self_eq_true, Bool.true_or]
    · simp only [h, beq_self_eq_true, Bool.true_or, Bool.or_true]
    · simp only [h, beq_self_eq_true, Bool.true_or, Bool.or_true]
    · simp only [h, beq_self_eq_true, Bool.true_or, Bool.or_true]
    · simp only [h, decide_true, Bool.true_or, Bool.or_true]
    · simp only [h, h', beq_self_eq_true, List.isEmpty_nil, Bool.and_true, Bool.true_or, Bool.or_true]
    · rw [h, (bne_iff_ne.mpr h' : (aspMode (s.rd (portCfgA p.val)) != 1) = true), Bool.and_true, Bool.or_true]
  · rw [if_neg (by omega), if_pos hhigh]
    simp [h]
theorem exec_portCtl (hup : s.hostUp = true) (p : Fin 32) (v : W32) (hw : s.portCtl p.val v = t) : doneCore s (s.byHost fun s => s.portCtl p.val v) = doneCore s t := by
  rw [byHost_up hup, hw]
theorem maskAt_last (mask : W32) (chg : List MaskChange) (h : a + 1 ≤ n) : maskAt n mask (chg ++ [{ mask := v, tick := a }]) = v := by
  unfold maskAt
  induction chg generalizing mask with
  | nil => exact if_pos h
  | cons c chg ih => exact ih _
theorem slotMask_leaves (p : Nat) (tx : Bool) (v : W32) (y : Port) :
    ((s.wr (portBase p + (if tx = true then 0x1C else 0x18)) v).setPort p y).rd (portBase p + (if tx = true then 0x1C else 0x18)) = v ∧
    sameBut [p] portInit s.ports ((s.wr (portBase p + (if tx = true then 0x1C else 0x18)) v).setPort p y).ports ∧
    regsOnly [portBase p + (if tx = true then 0x1C else 0x18)] s ((s.wr (portBase p + (if tx = true then 0x1C else 0x18)) v).setPort p y) ∧
    keeps [.regs, .ports] s ((s.wr (portBase p + (if tx = true then 0x1C else 0x18)) v).setPort p y) :=
  ⟨rd_wr_same .., setPort_sameBut (s := s.wr _ _) _ _, ((regsOnly.refl _ s).wr (by simp)).of_regs rfl,
    keeps.trans (t := s.wr _ v) (keeps.wr (keeps.refl _ _) (by simp)) (setPort_keeps _ _) (by simp)⟩

theorem rateWr_leaves (p : Fin 32) : regsKeep (if p.val < 24 then [rateA p.val] else []) s (s.rateWr p.val 0) ∧
    (p.val < 24 → (s.rateWr p.val 0).rd (rateA p.val) = 0) ∧ keeps [.regs] s (s.rateWr p.val 0) := by
  unfold State.rateWr
  by_cases hp : p.val < 24
  · rw [if_pos hp, if_pos hp]
    exact ⟨(regsKeep.refl _ s).wr (by simp), fun _ => rd_wr_same .., keeps.wr (keeps.refl _ s) (by simp)⟩
  · rw [if_neg hp, if_neg hp]
    exact ⟨regsKeep.refl _ s, fun h => absurd h hp, keeps.refl _ s⟩
theorem cfgNow_of_port (hx : s.port p = x) (hy : t.port p = y) (hst : y.st = x.st) (hcfg : y.cfg = x.cfg) (hrd : t.rd (portCfgA p) = s.rd (portCfgA p)) : t.cfgNow p = s.cfgNow p := by
  rw [State.cfgNow, State.cfgNow, hx, hy, hst, hcfg, hrd]
theorem misrated_of_img (h : t.img = s.img) (cfg : W32) : t.misrated p cfg rate = s.misrated p cfg rate := by
  rw [State.misrated, State.misrated, State.sysRate, State.sysRate, State.rate96, State.rate96, h]
theorem cfgA_ne_rate : ∀ q : Fin 24, portCfgA q.val ≠ rateA q.val := by decide
theorem cfgA_plain : ∀ q : Fin 24, evtReg (portCfgA q.val) = false ∧ portCfgA q.val ≠ ASR_EVSRC := by decide
/-- The clock of a slave is lost: the port, its RATE register and the events, before its converter is told. -/
def State.clockLost (s : State) (q : Nat) (x : Port) : State :=
  (((s.wr (rateA q) 0).setPort q { x with clock := false, rateClass := 0, rate := 0, rateRef := 0, rx := none, tx := none, quality := 0, mismatch := false, reenter := x.reenter || x.st == .run }).portFlag q 4
    (if q < 16 then 42 else 45)).when (x.rateClass != 0) (·.portFlag q 5 (if q < 16 then 41 else 46))
theorem clockLost_leaves (q : Fin 24) (x : Port) : (s.clockLost q.val x).port q.val =
      { x with clock := false, rateClass := 0, rate := 0, rateRef := 0, rx := none, tx := none, quality := 0, mismatch := false, reenter := x.reenter || x.st == .run } ∧
    (s.clockLost q.val x).rd (rateA q.val) = 0 ∧ (s.clockLost q.val x).bit (portStat q.val) 4 = true ∧ raised (if q.val < 16 then 42 else 45) s (s.clockLost q.val x) ∧
    (x.rateClass ≠ 0 → raised (if q.val < 16 then 41 else 46) s (s.clockLost q.val x) ∧ (s.clockLost q.val x).bit (portStat q.val) 5 = true) ∧
    sameBut [q.val] portInit s.ports (s.clockLost q.val x).ports ∧ regsKeep [rateA q.val, portStat q.val, ASR_EVSRC] s (s.clockLost q.val x) ∧
    (s.clockLost q.val x).sys.answering = s.sys.answering ∧ keeps [.regs, .out, .mon, .sys, .ports] s (s.clockLost q.val x) := by
  obtain ⟨hevt, hne, hne', -, -⟩ := evtReg_rate q
  obtain ⟨-, hstat, -⟩ := evtReg_port ⟨q.val, by omega⟩
  unfold State.clockLost
  generalize ({ x with clock := false, rateClass := 0, rate := 0, rateRef := 0, rx := none, tx := none, quality := 0, mismatch := false, reenter := x.reenter || x.st == .run } : Port) = y
  have hset : keeps [.regs, .out, .mon, .sys, .ports] s ((s.wr (rateA q.val) 0).setPort q.val y) :=
    keeps.trans (t := s.wr (rateA q.val) 0) (keeps.wr (keeps.refl _ _) (by simp)) (setPort_keeps _ _) (by simp)
  have hregs : regsKeep [rateA q.val, portStat q.val, ASR_EVSRC] s ((s.wr (rateA q.val) 0).setPort q.val y) := ((regsKeep.refl _ s).wr (by simp)).of_regs rfl
  have hrd : ((s.wr (rateA q.val) 0).setPort q.val y).rd (rateA q.val) = 0 := rd_wr_same ..
  have hport := port_setPort_same (s := s.wr (rateA q.val) 0) q.val y
  have hbut : sameBut [q.val] portInit s.ports ((s.wr (rateA q.val) 0).setPort q.val y).ports := setPort_sameBut (s := s.wr _ _) _ _
  have hfit : ((s.wr (rateA q.val) 0).setPort q.val y).fit = s.fit := rfl
  have hans : ((s.wr (rateA q.val) 0).setPort q.val y).sys.answering = s.sys.answering := rfl
  generalize (s.wr (rateA q.val) 0).setPort q.val y = u at *
  have honly4 := portFlag_only (s := u) q.val 4 (if q.val < 16 then 42 else 45)
  have hports4 := honly4.keeps.part (p := .ports) (by simp)
  have hrd4 := (portFlag_rd (t := u) (p := q.val) (i := 4) (e := if q.val < 16 then 42 else 45) hevt hne' hne).trans hrd
  have hbit4 := bit_portFlag_self (t := u) (i := 4) (e := if q.val < 16 then 42 else 45) hstat (by decide)
  have hraised4 := raised_portFlag (p := q.val) (i := 4) (e := if q.val < 16 then 42 else 45) hfit hans
  have hregs4 := hregs.portFlag (p := q.val) (i := 4) (e := if q.val < 16 then 42 else 45) (by simp) (by simp)
  have hk4 := hset.evt (by simp) honly4
  have hfit4 := honly4.fit.trans hfit
  have hans4 := honly4.sys_answering.trans hans
  generalize u.portFlag q.val 4 (if q.val < 16 then 42 else 45) = w at *
  have hport4 := (port_of_ports hports4 q.val).trans hport
  have hbut4 := (congrArg (sameBut [q.val] portInit s.ports) hports4).mpr hbut
  by_cases hc : x.rateClass = 0
  · have hw : w.when (x.rateClass != 0) (·.portFlag q.val 5 (if q.val < 16 then 41 else 46)) = w := by rw [hc]; rfl
    rw [hw]
    exact ⟨hport4, hrd4, hbit4, hraised4, fun h => absurd hc h, hbut4, hregs4, hans4, hk4⟩
  · have hw : w.when (x.rateClass != 0) (·.portFlag q.val 5 (if q.val < 16 then 41 else 46)) = w.portFlag q.val 5 (if q.val < 16 then 41 else 46) :=
      if_pos (by simpa using hc)
    rw [hw]
    have honly5 := portFlag_only (s := w) q.val 5 (if q.val < 16 then 41 else 46)
    have hports5 := honly5.keeps.part (p := .ports) (by simp)
    exact ⟨(port_of_ports hports5 _).trans hport4, (portFlag_rd hevt hne' hne).trans hrd4, bit_portFlag_mono hstat (by decide) hbit4, hraised4.portFlag hstat,
      fun _ => ⟨raised_portFlag hfit4 hans4, bit_portFlag_self hstat (by decide)⟩, (congrArg (sameBut [q.val] portInit s.ports) hports5).mpr hbut4,
      hregs4.portFlag (by simp) (by simp), honly5.sys_answering.trans hans4, hk4.evt (by simp) honly5⟩

theorem exec_asrcLock (hx : s.port q.val = x) (hasrc : portAsrc q.val x.cfg = true) (hclk : x.clock = true) (hst : x.st ≠ .off) : exec (.asrcLock q v) s = doneCore s
    (if v.toNat < 0x4000000 ∨ 0x40000000 < v.toNat then (s.asrcUnlock q.val).flagRaise ASR_STAT 1 51 |>.flag ASR_EVSRC q.val
    else if x.locked then (if rateWithin 50 v.toNat x.ratio.toNat then s.setPort q.val { x with ratio := v } else s.asrcUnlock q.val)
    else if x.lockTicks < 300 then s
    else (s.setPort q.val { x with locked := true, ratio := v }).portRaise q.val 50) := by
  show execAsrcLock q v s = _
  unfold execAsrcLock
  dsimp only
  rw [hx, if_neg (by simp [hasrc, hclk, hst])]

/-- Settles O30: each command's branch, its port and registers by the lemmas on `portFlag`, `rateNoted` and `asrcUnlock`. -/
theorem portStates : Obligations.PortStates := by
  intro s p q k x tx v rate n off chg hup
  obtain ⟨hctlEvt, hstatEvt, hstat1, hstat2, hstat3, hctl1, hctl2⟩ := evtReg_port p
  obtain ⟨hrateEvt, hrate1, hrate2, hrate3, hrate4⟩ := evtReg_rate q
  obtain ⟨hqctlEvt, hqstatEvt, hqstat1, hqstat2, hqstat3, -, -⟩ := evtReg_port ⟨q.val, by omega⟩
  refine ⟨fun hoff hdom hgood => ?_, fun hoff hdom hbad => ?_, ?_, fun hx hrun hlead hst hen hready => ?_, fun hx hrun hlead hst => ?_, fun hstop => ?_,
    fun hx hrun hn => ?_, fun hx hstop => ?_, fun hx hclk hslave => ?_, fun hx hclk hslave hrate hlock hoff => ?_, fun hx hclk hwin hslave => ?_,
    fun hx hclk hwin hslave hlock hoff hchg => ?_, fun hx hclk hwin hslave hlock hcls => ?_, fun hx hasrc hclk hst hlock hticks hlow hhigh => ?_,
    fun hx hasrc hclk hst hlock hticks hlow hhigh => ?_, fun hx hasrc hclk hst hlock hwithin hlow hhigh => ?_, fun hx hasrc hclk hst hout => ?_⟩
  · have hexec : exec (.portEnable p) s = doneCore s (s.wr (portCtlA p.val) 1) := by
      refine exec_portCtl hup p 1 ?_
      rw [State.portCtl, if_pos (by decide), hoff, hdom, hgood]
      rfl
    exact leads_doneCore hexec ⟨rd_wr_same .., (regsOnly.refl _ s).wr (by simp), (keeps.wr (keeps.refl _ s) (by simp)).answered⟩
  · have hexec : exec (.portEnable p) s = doneCore s (s.portFlag p.val 6 44) := by
      refine exec_portCtl hup p 1 ?_
      rw [State.portCtl, if_pos (by decide), hoff, hdom, enableBad_of hbad]
      rfl
    have honly := portFlag_only (s := s) p.val 6 44
    refine leads_doneCore hexec ⟨portFlag_rd hctlEvt hctl2 hctl1, bit_portFlag_self hstatEvt (by decide), bit_portFlag_src p.isLt, raised_portFlag rfl rfl,
      (regsKeep.refl _ s).portFlag (by simp) (by simp), (honly.answered_self rfl rfl rfl).symm ▸ honly⟩
  · have hexec : exec (.portDisable p) s = doneCore s (s.wr (portCtlA p.val) 0) := exec_portCtl hup p 0 (if_neg (by decide))
    exact leads_doneCore hexec ⟨rd_wr_same .., (regsOnly.refl _ s).wr (by simp), (keeps.wr (keeps.refl _ s) (by simp)).answered⟩
  · have hexec : exec (.portLeadExpiry p) s = doneCore s (s.portTo p.val { x with st := .run, leadLeft := 0, runTick := s.tickN + 1, tx := none }) := by
      show execPortLeadExpiry p s = _
      unfold execPortLeadExpiry
      dsimp only
      rw [hx, if_pos (by simpa [hrun, hlead, hst, hen] using hready), State.portLeadEnd, hx]
      dsimp only
      rw [hst]
    obtain ⟨hport, hbit, hsrc, hraised, hbut, hregs, hk⟩ := portTo_leaves (s := s) p { x with st := .run, leadLeft := 0, runTick := s.tickN + 1, tx := none }
    generalize s.portTo p.val { x with st := .run, leadLeft := 0, runTick := s.tickN + 1, tx := none } = t at *
    exact leads_doneCore hexec ⟨hport, hbit, hsrc, hraised, hbut, hregs, hk.answered⟩
  · have hrest : (x.st == .stopping || (x.st == .starting && (s.bit (portCtlA p.val) 0 && (portMaster p.val x.cfg || portQualified p.val x)))) = true := by simp [hst]
    by_cases hm : portMaster p.val x.cfg = true
    · have hexec : exec (.portLeadExpiry p) s = doneCore s ((s.rateWr p.val 0).portTo p.val
          { x with st := .off, leadLeft := 0, blk := [], rx := none, tx := none, locked := false, ratio := 0, fade := 0, ended := some (s.tickN + 1), clock := false, rateClass := 0, rate := 0 }) := by
        show execPortLeadExpiry p s = _
        unfold execPortLeadExpiry
        dsimp only
        rw [hx, hrest, hrun, hlead, if_pos (by rfl), State.portLeadEnd, hx]
        dsimp only
        rw [hst]
        dsimp only
        rw [if_pos hm]
      obtain ⟨hregs0, hrd0, hk0⟩ := rateWr_leaves (s := s) p
      have hports0 : (s.rateWr p.val 0).ports = s.ports := hk0.part (p := .ports) (by simp)
      have hfit0 : (s.rateWr p.val 0).fit = s.fit := hk0.2.1
      have hsys0 : (s.rateWr p.val 0).sys = s.sys := hk0.part (p := .sys) (by simp)
      generalize s.rateWr p.val 0 = u at *
      obtain ⟨hport, hbit, -, hraised, hbut, hregs, hk⟩ := portTo_leaves (s := u) p
        { x with st := .off, leadLeft := 0, blk := [], rx := none, tx := none, locked := false, ratio := 0, fade := 0, ended := some (s.tickN + 1), clock := false, rateClass := 0, rate := 0 }
      have hrate : p.val < 24 → evtReg (rateA p.val) = false ∧ rateA p.val ∉ [portStat p.val, ASR_EVSRC] := fun h => by
        obtain ⟨h1, h2, h3, -, -⟩ := evtReg_rate ⟨p.val, h⟩
        exact ⟨h1, by simp only [List.mem_cons, List.not_mem_nil, or_false, not_or]; exact ⟨h2, h3⟩⟩
      generalize u.portTo p.val _ = t at *
      refine leads_doneCore hexec ⟨hport.trans (by simp [hm]), fun _ h => (hregs _ (hrate h).2 (hrate h).1).trans (hrd0 h), hbit,
        hraised.of_start hfit0 (congrArg SysSt.answering hsys0), hports0 ▸ hbut, ?_, ((hk0.mono (by simp)).trans hk (fun _ => id)).answered⟩
      refine (hregs0.mono ?_).trans (hregs.mono (by simp))
      by_cases hp : p.val < 24 <;> simp [hm, hp]
    · have hexec : exec (.portLeadExpiry p) s = doneCore s (s.portTo p.val
          { x with st := .off, leadLeft := 0, blk := [], rx := none, tx := none, locked := false, ratio := 0, fade := 0, ended := some (s.tickN + 1) }) := by
        show execPortLeadExpiry p s = _
        unfold execPortLeadExpiry
        dsimp only
        rw [hx, hrest, hrun, hlead, if_pos (by rfl), State.portLeadEnd, hx]
        dsimp only
        rw [hst]
        dsimp only
        rw [if_neg hm]
      obtain ⟨hport, hbit, -, hraised, hbut, hregs, hk⟩ := portTo_leaves (s := s) p
        { x with st := .off, leadLeft := 0, blk := [], rx := none, tx := none, locked := false, ratio := 0, fade := 0, ended := some (s.tickN + 1) }
      generalize s.portTo p.val _ = t at *
      exact leads_doneCore hexec ⟨hport.trans (by simp [hm]), fun h => absurd h hm, hbit, hraised, hbut, hregs.mono (by simp), hk.answered⟩
  · show execPortLeadExpiry p s = _
    unfold execPortLeadExpiry
    dsimp only
    rw [if_neg (by simp [hstop])]
    rfl
  · have hexec (y : Port) (hy : y = if tx = true then { x with maskTx := maskOld s.tickN x.maskTx x.chgTx, chgTx := maskLate s.tickN x.chgTx ++ [{ mask := v, tick := s.tickN }] }
          else { x with maskRx := maskOld s.tickN x.maskRx x.chgRx, chgRx := maskLate s.tickN x.chgRx ++ [{ mask := v, tick := s.tickN }] }) :
        exec (.slotMaskWrite k tx v) s = doneCore s ((s.wr (portBase k.val + (if tx = true then 0x1C else 0x18)) v).setPort k.val y) := by
      rw [hy, ← hx]
      refine (congrArg (doneCore s) (byHost_up hup fun s => s.slotMask k.val tx v)).trans ?_
      rw [State.slotMask, State.modPort]
      simp only [wr_sys, hrun, if_true]
      rfl
    have hexec := hexec _ rfl
    generalize hy : (if tx = true then { x with maskTx := maskOld s.tickN x.maskTx x.chgTx, chgTx := maskLate s.tickN x.chgTx ++ [{ mask := v, tick := s.tickN }] }
          else { x with maskRx := maskOld s.tickN x.maskRx x.chgRx, chgRx := maskLate s.tickN x.chgRx ++ [{ mask := v, tick := s.tickN }] } : Port) = y at *
    obtain ⟨hrd, hbut, hregs, hk⟩ := slotMask_leaves (s := s) k.val tx v y
    have hport := port_setPort_same (s := s.wr (portBase k.val + (if tx = true then 0x1C else 0x18)) v) k.val y
    refine leads_doneCore hexec ⟨hrd, hport, ?_, hbut, hregs, hk.answered⟩
    have hmask : maskAt n (if tx = true then y.maskTx else y.maskRx) (if tx = true then y.chgTx else y.chgRx) = v := by
      rw [← hy]
      cases tx <;> exact maskAt_last _ _ hn
    exact (congrArg (fun y : Port => maskAt n (if tx = true then y.maskTx else y.maskRx) (if tx = true then y.chgTx else y.chgRx)) hport).trans hmask
  · have hexec : exec (.slotMaskWrite k tx v) s = doneCore s ((s.wr (portBase k.val + (if tx = true then 0x1C else 0x18)) v).setPort k.val
        (if tx = true then { x with maskTx := v, chgTx := [] } else { x with maskRx := v, chgRx := [] })) := by
      rw [← hx]
      refine (congrArg (doneCore s) (byHost_up hup fun s => s.slotMask k.val tx v)).trans ?_
      rw [State.slotMask, State.modPort]
      simp only [wr_sys, hstop, Bool.false_eq_true, if_false]
      rfl
    obtain ⟨hrd, hbut, hregs, hk⟩ := slotMask_leaves (s := s) k.val tx v (if tx = true then { x with maskTx := v, chgTx := [] } else { x with maskRx := v, chgRx := [] })
    exact leads_doneCore hexec ⟨port_setPort_same (s := s.wr _ v) _ _, hrd, hbut, hregs, hk.answered⟩
  · have hexec : exec (.portClockLoss q) s = doneCore s ((s.clockLost q.val x).asrcUnlock q.val) := by
      show execPortClockLoss q s = _
      unfold execPortClockLoss
      dsimp only
      rw [hx, if_pos (by simp [hclk, hslave])]
      rfl
    obtain ⟨hport, hrd, hbit, hraised, hcls, hbut, hregs, hans, hk⟩ := clockLost_leaves (s := s) q x
    generalize s.clockLost q.val x = u at *
    by_cases hl : x.locked = true
    · obtain ⟨gport, gbit, graised, gcount, gregs, gbut, gk⟩ := asrcUnlock_leaves (p := q.val) ((congrArg Port.locked hport).trans hl)
      rw [hport] at gport
      have hraised' := hraised.asrcUnlock (p := q.val)
      have hbit' := bit_asrcUnlock_mono (p := q.val) hqstatEvt hqstat3 (by decide) hbit
      have hcls' : x.rateClass ≠ 0 → raised (if q.val < 16 then 41 else 46) s (u.asrcUnlock q.val) ∧ (u.asrcUnlock q.val).bit (portStat q.val) 5 = true := fun h =>
        ⟨(hcls h).1.asrcUnlock, bit_asrcUnlock_mono hqstatEvt hqstat3 (by decide) (hcls h).2⟩
      have hrd' := (gregs (rateA q.val) (by simp [hrate2, hrate3, hrate4]) hrateEvt).trans hrd
      have hcount := hregs ASR_UNLOCK_COUNT (by simp [hrate4.symm, hqstat3.symm]) rfl
      generalize u.asrcUnlock q.val = t at *
      refine leads_doneCore hexec ⟨gport.trans ?_, hrd', hbit', hraised', hcls', fun _ => ⟨graised.of_start hk.2.1 hans, gcount.of_start hcount, gbit⟩, hbut.trans gbut, ?_,
        (hk.trans gk (fun _ => id)).answered⟩
      · simp [Port.unlocked, hl]
      · rw [if_pos hl]
        exact (hregs.mono (by simp)).trans (gregs.mono (by simp))
    · have hl' : x.locked = false := by simpa using hl
      rw [asrcUnlock_free ((congrArg Port.locked hport).trans hl')] at hexec
      refine leads_doneCore hexec ⟨hport.trans ?_, hrd, hbit, hraised, hcls, fun h => absurd h hl, hbut, hregs.mono (by simp), hk.answered⟩
      simp [hl']
  · have hexec : exec (.portClockQualify q rate) s = doneCore s (((s.setPort q.val { x with clock := true, lockTicks := 0, rateRef := 0, win := 0 }).portRaise q.val
        (if q.val < 16 then 42 else 45)).portRate q.val rate) := by
      show execPortClockQualify q rate s = _
      unfold execPortClockQualify
      dsimp only
      rw [hx, if_pos (by simp [hclk, hslave, hrate])]
    have honly := portRaise_only (s := s.setPort q.val { x with clock := true, lockTicks := 0, rateRef := 0, win := 0 }) q.val (if q.val < 16 then 42 else 45)
    have hports := honly.keeps.part (p := .ports) (by simp)
    have himg := honly.keeps.part (p := .img) (by simp)
    have hk0 : keeps [.regs, .out, .mon, .sys, .ports] s _ := ((setPort_keeps q.val { x with clock := true, lockTicks := 0, rateRef := 0, win := 0 }).mono (by simp)).evt (by simp) honly
    have hraised0 : raised (if q.val < 16 then 42 else 45) s _ := raised_portRaise (t := s.setPort q.val { x with clock := true, lockTicks := 0, rateRef := 0, win := 0 }) (p := q.val) rfl rfl
    have hregs0 : regsKeep [ASR_EVSRC] s _ := (regsKeep_of_regs (t := s.setPort q.val { x with clock := true, lockTicks := 0, rateRef := 0, win := 0 }) rfl).portRaise (p := q.val) (e := if q.val < 16 then 42 else 45) (by simp)
    have hport0 := (port_of_ports hports q.val).trans (port_setPort_same _ _)
    have hbut0 := (congrArg (sameBut [q.val] portInit s.ports) hports).mpr (setPort_sameBut _ _)
    have hans0 := honly.sys_answering
    have hcfg : evtReg (portCfgA q.val) = false ∧ portCfgA q.val ≠ ASR_EVSRC := cfgA_plain q
    have hnow := cfgNow_of_port hx hport0 rfl rfl
      (hregs0 _ (by simp [hcfg.2]) hcfg.1)
    have hmis := misrated_of_img (p := q.val) (rate := rate) himg (s.cfgNow q.val)
    generalize (s.setPort q.val { x with clock := true, lockTicks := 0, rateRef := 0, win := 0 }).portRaise q.val (if q.val < 16 then 42 else 45) = u at *
    rw [portRate_eq (off := off) (chg := rateClassOf rate != x.rateClass) hport0 (by rw [hoff, hnow, hmis]; rfl) (by simp)] at hexec
    obtain ⟨gport, grd, gcls, gbut, -, gregs, gk⟩ := rateNoted_leaves (s := u) q rate
      (Port.rated { x with clock := true, lockTicks := 0, rateRef := 0, win := 0 } rate off (rateClassOf rate != x.rateClass)) (rateClassOf rate != x.rateClass)
    have hraised' := hraised0.rateNoted q rate (Port.rated { x with clock := true, lockTicks := 0, rateRef := 0, win := 0 } rate off (rateClassOf rate != x.rateClass)) (rateClassOf rate != x.rateClass)
    rw [asrcUnlock_free ((congrArg Port.locked gport).trans hlock), ite_self] at hexec
    generalize u.rateNoted q.val rate _ (rateClassOf rate != x.rateClass) = t at *
    refine leads_doneCore hexec ⟨gport.trans ?_, grd, hraised', fun h => ?_, hbut0.trans gbut, (hregs0.mono (by simp)).trans gregs, (hk0.trans gk (fun _ => id)).answered⟩
    · simp [Port.rated]
    · obtain ⟨hbit, hraised⟩ := gcls (by simpa using h)
      exact ⟨hraised.of_start hk0.2.1 hans0, hbit⟩
  · have hexec : exec (.rateWindowEnd q rate) s = doneCore s (((s.setPort q.val { x with win := 0 }).wr (rateA q.val) (w32 rate)).setPort q.val { x with rate := rate, win := 0 }) := by
      show execRateWindowEnd q rate s = _
      unfold execRateWindowEnd
      dsimp only
      rw [hx, if_neg (by simp [hclk, hwin]), hslave]
      rfl
    refine leads_doneCore hexec ⟨port_setPort_same _ _, rd_wr_same .., (setPort_sameBut _ _).trans (setPort_sameBut (s := (s.setPort _ _).wr _ _) _ _),
      (((regsOnly_of_regs rfl : regsOnly _ s (s.setPort q.val { x with win := 0 })).wr (by simp)).of_regs rfl), keeps.answered ?_⟩
    exact keeps.trans (t := (s.setPort q.val { x with win := 0 }).wr (rateA q.val) (w32 rate)) (keeps.wr ((setPort_keeps _ _).mono (by simp)) (by simp)) (setPort_keeps _ _) (by simp)
  · have hexec : exec (.rateWindowEnd q rate) s = doneCore s ((s.setPort q.val { x with win := 0 }).portRate q.val rate) := by
      show execRateWindowEnd q rate s = _
      unfold execRateWindowEnd
      dsimp only
      rw [hx, if_neg (by simp [hclk, hwin]), if_pos hslave]
    have hport0 := port_setPort_same (s := s) q.val { x with win := 0 }
    have hk0 := setPort_keeps (s := s) q.val { x with win := 0 }
    have hbut0 := setPort_sameBut (s := s) q.val { x with win := 0 }
    have hregs0 : regsOnly [rateA q.val] s (s.setPort q.val { x with win := 0 }) := regsOnly_of_regs rfl
    have hnow := cfgNow_of_port hx hport0 rfl rfl (hregs0 (portCfgA q.val) (by simp [cfgA_ne_rate q]))
    have hmis := misrated_of_img (p := q.val) (rate := rate) (hk0.part (p := .img) (by simp)) (s.cfgNow q.val)
    have hans0 : (s.setPort q.val { x with win := 0 }).sys.answering = s.sys.answering := rfl
    generalize s.setPort q.val { x with win := 0 } = u at *
    rw [portRate_eq (off := off) (chg := chg) hport0 (by rw [hoff, hnow, hmis]) hchg] at hexec
    obtain ⟨gport, grd, gcls, gbut, gonly, gregs, gk⟩ := rateNoted_leaves (s := u) q rate (Port.rated { x with win := 0 } rate off chg) chg
    rw [asrcUnlock_free ((congrArg Port.locked gport).trans hlock), ite_self] at hexec
    generalize u.rateNoted q.val rate _ chg = t at *
    refine leads_doneCore hexec ⟨gport, grd, fun h => ?_, hbut0.trans gbut, fun h => hregs0.trans (gonly h), (hregs0.keep.mono (by simp)).trans gregs,
      ((hk0.mono (by simp)).trans gk (fun _ => id)).answered⟩
    obtain ⟨hbit, hraised⟩ := gcls h
    exact ⟨hbit, hraised.of_start hk0.2.1 hans0⟩
  · have hexec : exec (.rateWindowEnd q rate) s = doneCore s ((s.setPort q.val { x with win := 0 }).portRate q.val rate) := by
      show execRateWindowEnd q rate s = _
      unfold execRateWindowEnd
      dsimp only
      rw [hx, if_neg (by simp [hclk, hwin]), if_pos hslave]
    have hport0 := port_setPort_same (s := s) q.val { x with win := 0 }
    have hk0 := setPort_keeps (s := s) q.val { x with win := 0 }
    have hbut0 := setPort_sameBut (s := s) q.val { x with win := 0 }
    have hregs0 : regsOnly [rateA q.val] s (s.setPort q.val { x with win := 0 }) := regsOnly_of_regs rfl
    have hans0 : (s.setPort q.val { x with win := 0 }).sys.answering = s.sys.answering := rfl
    generalize s.setPort q.val { x with win := 0 } = u at *
    have hchg : true = (rateClassOf rate != x.rateClass || (x.rateRef != 0 && !rateWithin 50 rate x.rateRef)) := by simp [hcls]
    rw [portRate_eq (off := u.misrated q.val (u.cfgNow q.val) rate) (chg := true) hport0 rfl hchg, if_pos (by simpa using hcls)] at hexec
    obtain ⟨gport, -, gcls, gbut, -, gregs, gk⟩ := rateNoted_leaves (s := u) q rate (Port.rated { x with win := 0 } rate (u.misrated q.val (u.cfgNow q.val) rate) true) true
    have gans := (rateNoted_answering (s := u) q.val rate (Port.rated { x with win := 0 } rate (u.misrated q.val (u.cfgNow q.val) rate) true) true).trans hans0
    obtain ⟨gbit, -⟩ := gcls rfl
    generalize u.rateNoted q.val rate _ true = w at *
    obtain ⟨kport, kbit, kraised, kcount, kregs, kbut, kk⟩ := asrcUnlock_leaves (p := q.val) ((congrArg Port.locked gport).trans hlock)
    rw [gport] at kport
    have kbit' := bit_asrcUnlock_mono (p := q.val) hqstatEvt hqstat3 (by decide) gbit
    have hk := (hk0.mono (by simp)).trans gk (fun _ => id)
    have hregs := (hregs0.keep.mono (by simp)).trans gregs
    have hcount := hregs ASR_UNLOCK_COUNT (by simp [hrate4.symm, hqstat3.symm]) rfl
    generalize w.asrcUnlock q.val = t at *
    exact leads_doneCore hexec ⟨congrArg Port.locked kport, congrArg Port.fade kport, congrArg Port.ratio kport, congrArg Port.rateClass kport, kraised.of_start hk.2.1 gans, kbit,
      kcount.of_start hcount, kbit', (hbut0.trans gbut).trans kbut, (hregs.mono (by simp)).trans (kregs.mono (by simp)), (hk.trans kk (fun _ => id)).answered⟩
  · have hexec : exec (.asrcLock q v) s = doneCore s ((s.setPort q.val { x with locked := true, ratio := v }).portRaise q.val 50) := by
      rw [exec_asrcLock hx hasrc hclk hst, if_neg (by omega), if_neg (by simp [hlock]), if_neg (by omega)]
    have honly := portRaise_only (s := s.setPort q.val { x with locked := true, ratio := v }) q.val 50
    have hports := honly.keeps.part (p := .ports) (by simp)
    have hsrc := bit_portRaise_src (t := s.setPort q.val { x with locked := true, ratio := v }) (p := q.val) (e := 50) (by omega)
    have hraised : raised 50 s _ := raised_portRaise (t := s.setPort q.val { x with locked := true, ratio := v }) (p := q.val) rfl rfl
    have hregs : regsKeep [ASR_EVSRC] s _ := (regsKeep_of_regs (t := s.setPort q.val { x with locked := true, ratio := v }) rfl).portRaise (p := q.val) (e := 50) (by simp)
    have hk : keeps [.regs, .out, .mon, .sys, .ports] s _ := ((setPort_keeps q.val { x with locked := true, ratio := v }).mono (by simp)).evt (by simp) honly
    have hport := (port_of_ports hports q.val).trans (port_setPort_same _ _)
    have hbut := (congrArg (sameBut [q.val] portInit s.ports) hports).mpr (setPort_sameBut _ _)
    generalize (s.setPort q.val { x with locked := true, ratio := v }).portRaise q.val 50 = t at *
    exact leads_doneCore hexec ⟨hport, hsrc, hraised, hbut, hregs, hk.answered⟩
  · rw [exec_asrcLock hx hasrc hclk hst, if_neg (by omega), if_neg (by simp [hlock]), if_pos hticks]
    rfl
  · have hexec : exec (.asrcLock q v) s = doneCore s (s.setPort q.val { x with ratio := v }) := by
      rw [exec_asrcLock hx hasrc hclk hst, if_neg (by omega), if_pos hlock, if_pos hwithin]
    exact leads_doneCore hexec ⟨port_setPort_same _ _, setPort_sameBut _ _, (setPort_keeps _ _).answered⟩
  · have hexec : exec (.asrcLock q v) s = doneCore s (((s.asrcUnlock q.val).flagRaise ASR_STAT 1 51).flag ASR_EVSRC q.val) := by
      rw [exec_asrcLock hx hasrc hclk hst, if_pos (by omega)]
    have hans := asrcUnlock_answering (s := s) (p := q.val)
    have hu : ((s.asrcUnlock q.val).port q.val).locked = false ∧ (x.locked = true → raised 50 s (s.asrcUnlock q.val) ∧ counted ASR_UNLOCK_COUNT 1 s (s.asrcUnlock q.val)) ∧
        regsKeep [ASR_STAT, ASR_UNLOCK_COUNT, ASR_EVSRC] s (s.asrcUnlock q.val) ∧ sameBut [q.val] portInit s.ports (s.asrcUnlock q.val).ports ∧
        keeps [.regs, .out, .mon, .sys, .ports] s (s.asrcUnlock q.val) := by
      by_cases hl : x.locked = true
      · obtain ⟨kport, -, kraised, kcount, kregs, kbut, kk⟩ := asrcUnlock_leaves (s := s) (p := q.val) (by rw [hx]; exact hl)
        exact ⟨congrArg Port.locked kport, fun _ => ⟨kraised, kcount⟩, kregs, kbut, kk⟩
      · have hl' : (s.port q.val).locked = false := by simpa [hx] using hl
        rw [asrcUnlock_free hl']
        exact ⟨hl', fun h => absurd h hl, regsKeep.refl _ s, sameBut_refl _ _ _, keeps.refl _ s⟩
    obtain ⟨hlocked, hevents, hregs, hbut, hk⟩ := hu
    generalize s.asrcUnlock q.val = u at *
    have honly : evtOnly u ((u.flagRaise ASR_STAT 1 51).flag ASR_EVSRC q.val) := (flagRaise_only _ _ _ _).trans (evtOnly_wr _ _ _)
    have hports := honly.keeps.part (p := .ports) (by simp)
    have hbit : ((u.flagRaise ASR_STAT 1 51).flag ASR_EVSRC q.val).bit ASR_STAT 1 = true := bit_flag_mono _ _ (by decide) (flagRaise_bit _ _ _ _ rfl (by decide))
    have hsrc : ((u.flagRaise ASR_STAT 1 51).flag ASR_EVSRC q.val).bit ASR_EVSRC q.val = true := bit_flag_self (by omega)
    have hraised : raised 51 s ((u.flagRaise ASR_STAT 1 51).flag ASR_EVSRC q.val) := (raised_flagRaise hk.2.1 hans).wr rfl
    have hlost (h : raised 50 s u) : raised 50 s ((u.flagRaise ASR_STAT 1 51).flag ASR_EVSRC q.val) := ((h.wr rfl).raise).wr rfl
    have hcount (h : counted ASR_UNLOCK_COUNT 1 s u) : counted ASR_UNLOCK_COUNT 1 s ((u.flagRaise ASR_STAT 1 51).flag ASR_EVSRC q.val) := (h.flagRaise (by decide) rfl).wr (by decide)
    have hregs' := ((hregs.mono (bs := [ASR_STAT, ASR_EVSRC, ASR_UNLOCK_COUNT]) (by simp)).flagRaise (a := ASR_STAT) (i := 1) (e := 51) (by simp)).flag (a := ASR_EVSRC) (i := q.val) (by simp)
    have hk' := hk.evt (by simp) honly
    generalize (u.flagRaise ASR_STAT 1 51).flag ASR_EVSRC q.val = t at *
    exact leads_doneCore hexec ⟨(congrArg Port.locked (port_of_ports hports q.val)).trans hlocked, hbit, hsrc, hraised, fun h => ⟨hlost (hevents h).1, hcount (hevents h).2⟩,
      (congrArg (sameBut [q.val] portInit s.ports) hports).mpr hbut, hregs', hk'.answered⟩

end Sys2Proof.Machine
end

section
/-! SUPPORT. Received and transmitted frames of the audio ports (R239 to R242, R255 to R260). -/

namespace Sys2Proof.Machine

variable {s t u : State} {x y : Port} {a b e n p sp frac : Nat} {pos ts depth : Int} {samples : List Int} {keep : Bool} {v : W32}

/-! ## The index of an edge (R239) -/

/-- A port that listens and runs takes every edge. -/
abbrev taking (s : State) (p : Nat) (x : Port) : Prop := s.port p = x ∧ portListens p x = true ∧ x.st = .run ∧ x.reenter = false
theorem portListens_hears (h : portListens p x = true) (hst : x.st = .run) : portHears p x = true := by
  simp only [portListens, Bool.and_eq_true] at h
  obtain ⟨⟨⟨⟨-, hclock⟩, -⟩, -⟩, hpins⟩ := h
  simp [portHears, hst, hclock, hpins]
theorem portListens_no_asrc (h : portListens p x = true) : portAsrc p x.cfg = false := by
  simp only [portListens, Bool.and_eq_true, Bool.not_eq_true'] at h
  obtain ⟨⟨-, hasrc⟩, -⟩ := h
  exact hasrc
theorem edgeIndex_near (hm : portMaster p x.cfg = false) (c : Nat) (h : 4 * (pos - (e : Int) * (c : Int)).natAbs ≤ 3 * c) : edgeIndex p c x pos (some e) = ((e : Int), false) := by
  rw [edgeIndex, hm, if_neg (by simp), indexOf]
  exact if_pos h
theorem edgeIndex_slip (hm : portMaster p x.cfg = false) (c : Nat) (h : 3 * c < 4 * (pos - (e : Int) * (c : Int)).natAbs) : edgeIndex p c x pos (some e) = (roundEvenQ pos c, true) := by
  rw [edgeIndex, hm, if_neg (by simp), indexOf]
  exact if_neg (by omega)
theorem cyc_pos : 0 < s.cyc := by
  unfold State.cyc
  split <;> decide
theorem edgeIndex_exact (hm : portMaster p x.cfg = true) (h : pos = (e : Int) * (s.cyc : Int)) (rx : Option Nat) : edgeIndex p s.cyc x pos rx = ((e : Int), false) := by
  have hc := cyc_pos (s := s)
  rw [edgeIndex, if_pos hm, h, Int.mul_ediv_cancel _ (by omega)]

/-! ## A frame takes its index -/

/-- A port that has taken an edge: what it expects next; the measures of the tick's edges follow too. -/
abbrev Took (i : Nat) (x y : Port) : Prop := y = { x with rx := some (i + 1), eSum := y.eSum, eCnt := y.eCnt, firsts := y.firsts }
/-- A port's slip, where its edge has slipped. -/
abbrev State.slipped (s : State) (p : Nat) (slip : Bool) : State := s.when slip fun s => (s.slipLast p).portFlag p 2 (if p < 16 then 40 else 47)
theorem slipped_tickN (y : Port) (slip : Bool) : ((s.setPort p y).slipped p slip).tickN = s.tickN := by
  have hlast : ((s.setPort p y).slipLast p).tickN = s.tickN := by
    unfold State.slipLast
    split <;> rfl
  cases slip with
  | false => rfl
  | true => exact (congrArg State.tickN (portFlag_only (s := (s.setPort p y).slipLast p) p 2 _) :).trans hlast
theorem portTake_taking (h : taking s p x) {r : Int × Bool} (hr : edgeIndex p s.cyc x (ts + depth) x.rx = r) : ∃ y, Took r.1.toNat x y ∧ s.portTake p ts depth samples keep =
    if !keep ∨ r.1 < (s.tickN * s.tickLen : Nat) ∨ (spFind x.blk r.1.toNat).isSome then ((s.setPort p y).slipped p r.2).portDrops p 1
    else ((s.setPort p y).slipped p r.2).modPort p fun x => { x with blk := spPut x.blk r.1.toNat samples } := by
  obtain ⟨hx, hlisten, hst, hre⟩ := h
  have hsoon : portSoon p x = false := by simp [portSoon, hst, hre]
  refine ⟨{ x with rx := some (r.1.toNat + 1), eSum := x.eSum + (ts + depth - r.1 * (s.cyc : Int)), eCnt := x.eCnt + 1, firsts := if (spFind x.firsts (r.1.toNat / s.tickLen)).isNone && decide (s.tickN ≤ r.1.toNat / s.tickLen) then spPut x.firsts (r.1.toNat / s.tickLen) (ts.toNat, ts + depth - r.1 * (s.cyc : Int)) else x.firsts }, rfl, ?_⟩
  unfold State.portTake
  rw [hx, if_neg (by simp [hlisten])]
  dsimp only
  rw [hr, hsoon, if_neg (by simp), slipped_tickN]
theorem modPort_eq (p : Nat) (f : Port → Port) : s.modPort p f = s.setPort p (f (s.port p)) := rfl
/-- A frame that is kept: its samples stand at its index. -/
theorem portTake_kept (h : taking s p x) (hr : edgeIndex p s.cyc x (ts + depth) x.rx = ((e : Int), false)) (hin : s.tickN * s.tickLen ≤ e) (hfree : spFind x.blk e = none) :
    ∃ y, Took e x y ∧ (s.portTake p ts depth samples true).port p = { y with blk := spPut x.blk e samples } ∧
      sameBut [p] portInit s.ports (s.portTake p ts depth samples true).ports ∧ keeps [.ports] s (s.portTake p ts depth samples true) := by
  obtain ⟨y, hy, htake⟩ := portTake_taking (samples := samples) (keep := true) h hr
  rw [if_neg (by simp only [Bool.not_true, Bool.false_eq_true, false_or, not_or, Int.toNat_natCast, hfree]; exact ⟨by omega, by simp⟩)] at htake
  have hblk : y.blk = x.blk := (congrArg Port.blk hy :)
  refine ⟨y, hy, ?_⟩
  rw [htake]
  show ((s.setPort p y).modPort p _).port p = _ ∧ sameBut [p] portInit s.ports ((s.setPort p y).modPort p _).ports ∧ keeps [.ports] s ((s.setPort p y).modPort p _)
  rw [modPort_eq, port_setPort_same, port_setPort_same, hblk]
  exact ⟨rfl, (setPort_sameBut _ _).trans (setPort_sameBut (s := s.setPort p y) _ _), (setPort_keeps _ _).trans (setPort_keeps _ _) (fun _ => id)⟩
/-- A frame that its length or its errors drop. -/
theorem portTake_dropped (h : taking s p x) (hr : edgeIndex p s.cyc x (ts + depth) x.rx = ((e : Int), false)) :
    ∃ y, Took e x y ∧ s.portTake p ts depth samples false = (s.setPort p y).portDrops p 1 := by
  obtain ⟨y, hy, htake⟩ := portTake_taking (samples := samples) (keep := false) h hr
  rw [if_pos (.inl rfl)] at htake
  exact ⟨y, hy, htake⟩

/-! ## Drops, slips, wrong lengths -/

theorem asp_regs : ∀ p : Fin 16, ASP_SLIP_LAST p.val ≠ dropA p.val ∧ ASP_SLIP_LAST p.val ≠ portStat p.val ∧ ASP_SLIP_LAST p.val ≠ ASR_EVSRC ∧ evtReg (ASP_SLIP_LAST p.val) = false ∧
    dropA p.val ≠ portStat p.val ∧ dropA p.val ≠ ASR_EVSRC ∧ evtReg (dropA p.val) = false ∧ ASP_FERR_COUNT p.val ≠ portStat p.val ∧ ASP_FERR_COUNT p.val ≠ ASR_EVSRC ∧
    evtReg (ASP_FERR_COUNT p.val) = false ∧ ASP_FERR_COUNT p.val ≠ dropA p.val ∧ ASP_FERR_COUNT p.val ≠ ASP_SLIP_LAST p.val := by decide
theorem slipLast_eq (p : Fin 16) : s.slipLast p.val = s.wr (ASP_SLIP_LAST p.val) s.tickLo := if_pos p.isLt
theorem portDrops_eq (p : Fin 16) : s.portDrops p.val 1 = (s.count (dropA p.val) 1).wr (ASP_SLIP_LAST p.val) s.tickLo := (if_neg (by decide)).trans (slipLast_eq p)
theorem portDrops_aes (r : Fin 8) : s.portDrops (16 + r.val) 1 = s.count (dropA (16 + r.val)) 1 := (if_neg (by decide)).trans (if_neg (by omega))
theorem frameLen_whole (hx : (s.port p).cfg = v) (hn : portMaster p v = true ∨ n = aspSlots v * aspWidth v) : s.frameLen p (some n) = s := by
  rw [State.frameLen, hx]
  exact if_pos (by simpa using hn)
theorem frameLen_bad (hx : (s.port p).cfg = v) (hm : portMaster p v = false) (hn : n ≠ aspSlots v * aspWidth v) :
    s.frameLen p (some n) = (s.count (ASP_FERR_COUNT p) 1).portFlag p 3 43 := by
  rw [State.frameLen, hx]
  exact if_neg (by simp [hm, hn])

/-! ## Receive frames of a serial port -/

/-- The samples that a receive frame carries. -/
def rxSamples (cfg data : W32) (dr : List Bool) : List Int := (upFrom 0 (aspSlots cfg)).map fun k => if bitOf data k then rxWord cfg (slotWord cfg dr k) else 0
theorem exec_portReceiveFrame {p : Fin 16} {dr : List Bool} (h : taking s p.val x) (hfit : portMaster p.val x.cfg = true → ((sp * s.cyc + frac + 256 * fld x.depth 6 0 : Nat) : Int) = (e : Int) * (s.cyc : Int))
    (hkeep : keep = (portMaster p.val x.cfg || n == aspSlots x.cfg * aspWidth x.cfg)) : exec (.portReceiveFrame p sp frac n dr) s =
    doneCore s (((s.when (portMaster p.val x.cfg) (·.emit (.rxSync p.val (frameSync x.cfg)))).portTake p.val ((sp * s.cyc + frac : Nat) : Int) ((256 * fld x.depth 6 0 : Nat) : Int)
      (rxSamples x.cfg (dataAt (sp / s.tickLen) x.maskRx x.chgRx) dr) keep).frameLen p.val (some n)) := by
  obtain ⟨hx, hlisten, hst, hre⟩ := h
  have hfits : edgeFits p.val s.cyc x (((sp * s.cyc + frac : Nat) : Int) + ((256 * fld x.depth 6 0 : Nat) : Int)) = true := by
    cases hm : portMaster p.val x.cfg with
    | false => simp [edgeFits, hm]
    | true =>
      rw [edgeFits, ← Int.natCast_add, hfit hm, Int.mul_emod_left, hm]
      rfl
  show execPortReceiveFrame p sp frac n dr s = _
  unfold execPortReceiveFrame
  dsimp only
  rw [hx, portListens_hears hlisten hst, hfits, if_neg (by simp), ← hkeep, portListens_no_asrc hlisten]
  rfl
theorem rxSamples_nth (cfg data : W32) (dr : List Bool) {k : Nat} (hk : k < aspSlots cfg) :
    nth 0 (rxSamples cfg data dr) k = if bitOf data k = true then rxWord cfg (slotWord cfg dr k) else 0 := by
  rw [rxSamples, nth_map_upFrom _ _ _ _ hk, Nat.zero_add]
theorem rxSamples_length (cfg data : W32) (dr : List Bool) : (rxSamples cfg data dr).length = aspSlots cfg := by
  rw [rxSamples, List.length_map, length_upFrom]
theorem blk_sameBut (e : Nat) (xs : List Int) (m : Sparse (List Int)) : sameBut [e] [] m (spPut m e xs) := fun _ ha => spGet_spPut_ne _ _ _ fun h => ha (by simp [h])

/-- What a kept frame leaves of its port. -/
theorem kept_leaves (hy : Took e x y) (hport : t.port p = { y with blk := spPut x.blk e samples }) : (t.port p).rx = some (e + 1) ∧ (t.port p).cfg = x.cfg ∧
    spGet [] (t.port p).blk e = samples ∧ sameBut [e] [] x.blk (t.port p).blk := by
  rw [hport]
  exact ⟨(congrArg Port.rx hy :), (congrArg Port.cfg hy :), spGet_spPut_same .., blk_sameBut _ _ _⟩
/-- A dropped frame of a serial port: the drop is counted, and the port expects the next. -/
theorem dropped_leaves (p : Fin 16) (hy : Took e x y) : (((s.setPort p.val y).portDrops p.val 1).port p.val).rx = some (e + 1) ∧ (((s.setPort p.val y).portDrops p.val 1).port p.val).cfg = x.cfg ∧
    (((s.setPort p.val y).portDrops p.val 1).port p.val).blk = x.blk ∧ counted (dropA p.val) 1 s ((s.setPort p.val y).portDrops p.val 1) ∧
    ((s.setPort p.val y).portDrops p.val 1).rd (ASP_SLIP_LAST p.val) = s.tickLo ∧ sameBut [p.val] portInit s.ports ((s.setPort p.val y).portDrops p.val 1).ports ∧
    regsKeep [dropA p.val, ASP_SLIP_LAST p.val] s ((s.setPort p.val y).portDrops p.val 1) ∧ keeps [.regs, .ports] s ((s.setPort p.val y).portDrops p.val 1) := by
  obtain ⟨hs1, -⟩ := asp_regs p
  rw [portDrops_eq]
  have hport : (((s.setPort p.val y).count (dropA p.val) 1).wr (ASP_SLIP_LAST p.val) s.tickLo).port p.val = y := port_setPort_same (s := s) p.val y
  refine ⟨(congrArg Port.rx hport).trans (congrArg Port.rx hy :), (congrArg Port.cfg hport).trans (congrArg Port.cfg hy :), (congrArg Port.blk hport).trans (congrArg Port.blk hy :),
    (counted_count rfl).wr hs1.symm, rd_wr_same .., setPort_sameBut _ _, ?_, ?_⟩
  · exact (((regsKeep_of_regs rfl : regsKeep _ s (s.setPort p.val y)).count (by simp)).wr (by simp))
  · exact ((((setPort_keeps p.val y).mono (by simp)).count (by simp)).wr (by simp))
/-- A frame of the wrong length, counted and flagged (R260). -/
theorem badLength_leaves (p : Fin 16) : counted (ASP_FERR_COUNT p.val) 1 s ((s.count (ASP_FERR_COUNT p.val) 1).portFlag p.val 3 43) ∧
    ((s.count (ASP_FERR_COUNT p.val) 1).portFlag p.val 3 43).bit (portStat p.val) 3 = true ∧ raised 43 s ((s.count (ASP_FERR_COUNT p.val) 1).portFlag p.val 3 43) ∧
    regsKeep [ASP_FERR_COUNT p.val, portStat p.val, ASR_EVSRC] s ((s.count (ASP_FERR_COUNT p.val) 1).portFlag p.val 3 43) ∧
    evtOnly s ((s.count (ASP_FERR_COUNT p.val) 1).portFlag p.val 3 43) := by
  obtain ⟨-, -, -, -, -, -, -, hf1, hf2, hf3, -⟩ := asp_regs p
  obtain ⟨-, hstatEvt, -⟩ := evtReg_port ⟨p.val, by omega⟩
  exact ⟨(counted_count rfl).of_rd (portFlag_rd hf3 hf2 hf1), bit_portFlag_self hstatEvt (by decide), raised_portFlag rfl rfl,
    ((regsKeep.refl _ s).count (by simp)).portFlag (by simp) (by simp), (evtOnly_wr _ _ _).trans (portFlag_only _ _ _)⟩

/-- A slave's slip, flagged and stamped (R239). -/
theorem slipped_leaves (p : Fin 16) (y : Port) : ((s.setPort p.val y).slipped p.val true).port p.val = y ∧ ((s.setPort p.val y).slipped p.val true).bit (portStat p.val) 2 = true ∧
    raised 40 s ((s.setPort p.val y).slipped p.val true) ∧ ((s.setPort p.val y).slipped p.val true).rd (ASP_SLIP_LAST p.val) = s.tickLo ∧
    sameBut [p.val] portInit s.ports ((s.setPort p.val y).slipped p.val true).ports ∧ regsKeep [portStat p.val, ASR_EVSRC, ASP_SLIP_LAST p.val] s ((s.setPort p.val y).slipped p.val true) ∧
    ((s.setPort p.val y).slipped p.val true).tickLo = s.tickLo ∧ keeps [.regs, .out, .mon, .sys, .ports] s ((s.setPort p.val y).slipped p.val true) := by
  obtain ⟨-, hs2, hs3, hs4, -⟩ := asp_regs p
  obtain ⟨-, hstatEvt, -⟩ := evtReg_port ⟨p.val, by omega⟩
  have heq : (s.setPort p.val y).slipped p.val true = ((s.setPort p.val y).wr (ASP_SLIP_LAST p.val) s.tickLo).portFlag p.val 2 40 := by
    show ((s.setPort p.val y).slipLast p.val).portFlag p.val 2 (if p.val < 16 then 40 else 47) = _
    rw [slipLast_eq, if_pos p.isLt]
    rfl
  have hset : keeps [.regs, .out, .mon, .sys, .ports] s ((s.setPort p.val y).wr (ASP_SLIP_LAST p.val) s.tickLo) := ((setPort_keeps p.val y).mono (by simp)).wr (by simp)
  have honly := portFlag_only (s := (s.setPort p.val y).wr (ASP_SLIP_LAST p.val) s.tickLo) p.val 2 40
  have hports := honly.keeps.part (p := .ports) (by simp)
  rw [heq]
  exact ⟨(port_of_ports hports p.val).trans (port_setPort_same _ _), bit_portFlag_self hstatEvt (by decide), raised_portFlag rfl rfl, (portFlag_rd hs4 hs3 hs2).trans (rd_wr_same _ _ _),
    (congrArg (sameBut [p.val] portInit s.ports) hports).mpr (setPort_sameBut _ _), ((regsKeep_of_regs rfl : regsKeep _ s (s.setPort p.val y)).wr (by simp)).portFlag (by simp) (by simp),
    (congrArg State.tickLo honly :), hset.evt (by simp) honly⟩
theorem bit_wr_other {i : Nat} (h : t.bit a i = true) (hne : a ≠ b) : (t.wr b v).bit a i = true := (bit_wr_ne _ _ _ hne).trans h

/-! ## Transmit frames -/

theorem clips_leaves (p n : Nat) : regsOnly [if p < 16 then ASP_CLIP_COUNT p else AEST_CLIP_COUNT (p - 24), portStat p] s (s.clips p n) ∧ keeps [.regs] s (s.clips p n) := by
  by_cases hn : n = 0
  · rw [State.clips, if_pos hn]
    exact ⟨regsOnly.refl _ s, keeps.refl _ s⟩
  · rw [State.clips, if_neg hn]
    exact ⟨((regsOnly.refl _ s).count (by simp)).flag (by simp), ((keeps.refl _ s).count (by simp)).flag (by simp)⟩
/-- The words of a serial transmit frame, an enabled slot without data zero, a disabled one at high impedance. -/
def txWords (cfg mask data : W32) (n : Nat) (xs : List Int) : List (Option W32) :=
  (upFrom 0 n).map fun k => if bitOf mask k then some (txWord cfg (if bitOf data k then nth 0 xs k else 0)).1 else none
/-- How many of those words were clamped. -/
def txClips (cfg mask data : W32) (n : Nat) (xs : List Int) : Nat :=
  (((upFrom 0 n).map fun k => if bitOf mask k then some (txWord cfg (if bitOf data k then nth 0 xs k else 0)) else none).filter
    (fun w => match w with | some (_, true) => true | _ => false)).length
theorem txSend_eq (hx : s.port p = x) (n : Nat) (mask data : W32) (xs : List Int) (len : Option Nat) : s.txSend p n mask data xs len =
    ((s.clips p (txClips x.cfg mask data n xs)).modPort p fun x => { x with lastSent := xs }).emit
      (.serial p (txWords x.cfg mask data n xs) (serialPins p x.cfg (txWords x.cfg mask data n xs) len)) := by
  have hwords : ((upFrom 0 n).map fun k => if bitOf mask k then some (txWord x.cfg (if bitOf data k then nth 0 xs k else 0)) else none).map (fun w => w.map (·.1)) = txWords x.cfg mask data n xs := by
    rw [List.map_map]
    refine List.map_congr_left fun k _ => ?_
    simp only [Function.comp]
    split <;> rfl
  subst hx
  rw [← hwords]
  rfl
theorem txSend_leaves (hx : s.port p = x) (n : Nat) (mask data : W32) (xs : List Int) (len : Option Nat) :
    (s.txSend p n mask data xs len).out = s.out ++ [.serial p (txWords x.cfg mask data n xs) (serialPins p x.cfg (txWords x.cfg mask data n xs) len)] ∧
    (s.txSend p n mask data xs len).port p = { x with lastSent := xs } ∧ sameBut [p] portInit s.ports (s.txSend p n mask data xs len).ports ∧
    regsOnly [if p < 16 then ASP_CLIP_COUNT p else AEST_CLIP_COUNT (p - 24), portStat p] s (s.txSend p n mask data xs len) ∧ keeps [.regs, .out, .ports] s (s.txSend p n mask data xs len) := by
  have heq := txSend_eq hx n mask data xs len
  generalize txClips x.cfg mask data n xs = c at heq
  obtain ⟨hregs, hk⟩ := clips_leaves (s := s) p c
  have hport := (port_of_ports (hk.part (p := .ports) (by simp)) p).trans hx
  have hout := hk.part (p := .out) (by simp)
  have hports := hk.part (p := .ports) (by simp)
  rw [heq]
  generalize s.clips p c = u at *
  rw [modPort_eq, hport]
  refine ⟨congrArg (· ++ _) hout, port_setPort_same _ _, ?_, hregs.of_regs rfl, ?_⟩
  · exact (congrArg (sameBut [p] portInit · _) hports).mp (setPort_sameBut (s := u) p { x with lastSent := xs })
  · exact keeps.trans (t := u) (hk.mono (by simp)) (by simp [keeps_iff, State.emit, State.setPort]) (fun _ => id)
theorem txWord_zero (cfg : W32) : txWord cfg 0 = (0, false) := by
  unfold txWord
  dsimp only
  split_ifs <;> rfl
theorem nth_replicate_zero (m k : Nat) : nth 0 (List.replicate m (0 : Int)) k = 0 := by
  induction m generalizing k with
  | zero => rfl
  | succ m ih => cases k with
    | zero => rfl
    | succ k => exact ih k
theorem txWords_zero (cfg mask data : W32) (n m : Nat) : txWords cfg mask data n (List.replicate m 0) = (upFrom 0 n).map fun k => if bitOf mask k then some 0 else none := by
  refine List.map_congr_left fun k _ => ?_
  rw [nth_replicate_zero, ite_self, txWord_zero]
/-- Nothing is clamped where zeros are sent: no register differs. -/
theorem txSend_zero_regs (hx : s.port p = x) (n m : Nat) (mask data : W32) (len : Option Nat) : (s.txSend p n mask data (List.replicate m 0) len).regs = s.regs := by
  have hnone : txClips x.cfg mask data n (List.replicate m 0) = 0 := by
    rw [txClips, List.length_eq_zero_iff, List.filter_eq_nil_iff]
    intro w hw
    obtain ⟨k, -, rfl⟩ := List.mem_map.mp hw
    rw [nth_replicate_zero, ite_self, txWord_zero]
    split <;> simp_all
  rw [txSend_eq hx, hnone]
  rfl

/-- A slave port whose transmit pins follow its clock. -/
abbrev sending (s : State) (p : Nat) (x : Port) : Prop := s.port p = x ∧ x.clock = true ∧ bitOf x.cfg 16 = true ∧ portMaster p x.cfg = false
theorem sending.open {p : Fin 16} (h : sending s p.val x) (hst : x.st ≠ .off) (pos : Int) :
    ¬((16 ≤ p.val ∧ p.val < 24) ∨ x.st = .off ∨ x.clock = false ∨ (p.val < 16 ∧ bitOf x.cfg 16 = false) ∨ edgeFits p.val s.cyc x pos = false) := by
  obtain ⟨-, hclk, hpins, hm⟩ := h
  have hp := p.isLt
  simp only [hst, hclk, hpins, edgeFits, hm]
  simp
theorem exec_transmit_idle {p : Fin 16} (h : sending s p.val x) (hst : x.st = .starting) (len : Option Nat) : exec (.portTransmitFrame (Fin.castLE (by decide) p) sp ⟨frac, len⟩) s =
    doneCore s ((s.frameLen p.val len).txSend p.val (aspSlots x.cfg) (maskAt (sp / s.tickLen) x.maskTx x.chgTx) (dataAt (sp / s.tickLen) x.maskTx x.chgTx) (List.replicate (aspSlots x.cfg) 0) len) := by
  obtain ⟨hx, -⟩ := id h
  show execPortTransmitFrame (Fin.castLE (by decide) p) sp ⟨frac, len⟩ s = _
  unfold execPortTransmitFrame
  simp only [Fin.val_castLE, hx, if_pos p.isLt]
  rw [if_neg (h.open (by simp [hst]) _), if_neg (by omega), if_neg (by simp [hst]), if_pos (.inl (by simp [hst]))]
theorem exec_transmit_indexed {p : Fin 16} (h : sending s p.val x) (hst : x.st = .run) (hre : x.reenter = false) (hmis : x.mismatch = false) (hasrc : portAsrc p.val x.cfg = false) :
    exec (.portTransmitFrame (Fin.castLE (by decide) p) sp ⟨frac, none⟩) s = doneCore s (s.txIndexed p.val (aspSlots x.cfg) (maskAt (sp / s.tickLen) x.maskTx x.chgTx)
      (dataAt (sp / s.tickLen) x.maskTx x.chgTx) (((sp * s.cyc + frac : Nat) : Int) - ((256 * fld x.depth 14 8 : Nat) : Int)) none) := by
  obtain ⟨hx, -⟩ := id h
  show execPortTransmitFrame (Fin.castLE (by decide) p) sp ⟨frac, none⟩ s = _
  unfold execPortTransmitFrame
  simp only [Fin.val_castLE, hx, if_pos p.isLt]
  rw [if_neg (h.open (by simp [hst]) _), if_neg (by omega), if_neg (by simp [hasrc]), if_neg (by simp [hst, hre, hmis])]
  rfl
/-- A running port that expects the index of the edge sends the emitted block's samples of it. -/
theorem txIndexed_sent {p : Fin 16} {o : List (SinkId × List Int)} {mask data : W32} (hx : s.port p.val = x) (hst : x.st = .run) (hre : x.reenter = false) (hmis : x.mismatch = false)
    (hm : portMaster p.val x.cfg = false) (htx : x.tx = some e) (hnear : 4 * (pos - (e : Int) * (s.cyc : Int)).natAbs ≤ 3 * s.cyc) (hrun : x.runTick ≤ e / s.tickLen)
    (ho : findFrame s.graph.pipe.emitted (e / s.tickLen) s.tickN = some o) (n : Nat) : s.txIndexed p.val n mask data pos none =
    (s.setPort p.val { x with tx := some (e + 1) }).txSend p.val n mask data ((upFrom 0 n).map fun k => nth 0 (findSink o (.asp p.val k)) (e % s.tickLen)) none := by
  have hport : (s.setPort p.val { x with tx := some (e + 1) }).port p.val = { x with tx := some (e + 1) } := port_setPort_same _ _
  have hsamples : (s.setPort p.val { x with tx := some (e + 1) }).txSamples p.val e n = ((upFrom 0 n).map (fun k => nth 0 (findSink o (.asp p.val k)) (e % s.tickLen)), true) := by
    have hlen : (s.setPort p.val { x with tx := some (e + 1) }).tickLen = s.tickLen := rfl
    unfold State.txSamples
    dsimp only
    rw [hport, hlen, if_neg (by simp [hst, hre, hmis, hrun]),
      show findFrame (s.setPort p.val { x with tx := some (e + 1) }).graph.pipe.emitted (e / s.tickLen) (s.setPort p.val { x with tx := some (e + 1) }).tickN = some o from ho]
    refine Prod.ext ?_ rfl
    exact List.map_congr_left fun k _ => by rw [slotSink, if_pos p.isLt]
  have hstart : ((s.modPort p.val fun x => { x with tx := some (e + 1) }).when false fun s => (s.slipLast p.val).portFlag p.val 2 40).portDrops p.val 0 =
      s.setPort p.val { x with tx := some (e + 1) } := by
    rw [← hx]
    rfl
  unfold State.txIndexed
  dsimp only
  rw [hx, htx, edgeIndex_near hm _ hnear]
  dsimp only
  rw [hm]
  simp only [Bool.false_eq_true, if_false, Int.toNat_natCast, Nat.sub_self]
  rw [hstart, hsamples, if_pos rfl]
theorem txWords_nth (cfg mask data : W32) (n : Nat) (g : Nat → Int) : txWords cfg mask data n ((upFrom 0 n).map g) =
    (upFrom 0 n).map fun k => if bitOf mask k = true then some (txWord cfg (if bitOf data k = true then g k else 0)).1 else none := by
  refine List.map_congr_left fun k hk => ?_
  have hlt := (mem_upFrom.mp hk).2
  rw [nth_map_upFrom _ _ _ _ (by omega), Nat.zero_add]

/-! ## AES3 frames and channel status -/

theorem aes_tx_regs : ∀ r : Fin 8, AEST_CFG r.val ≠ AEST_CLIP_COUNT r.val ∧ AEST_CFG r.val ≠ portStat (24 + r.val) := by decide
theorem exec_transmit_aes {r : Fin 8} {o : List (SinkId × List Int)} (hx : s.port (24 + r.val) = x) (hst : x.st = .run) (hclk : x.clock = true) (hre : x.reenter = false) (hmis : x.mismatch = false)
    (hpos : ((sp * s.cyc + frac : Nat) : Int) - (s.cyc : Int) = (e : Int) * (s.cyc : Int)) (hrun : x.runTick ≤ e / s.tickLen)
    (ho : findFrame s.graph.pipe.emitted (e / s.tickLen) s.tickN = some o) : exec (.portTransmitFrame ⟨24 + r.val, by omega⟩ sp ⟨frac, none⟩) s =
    doneCore s (s.aesSend r.val e [nth 0 (findSink o (.aes r.val false)) (e % s.tickLen), nth 0 (findSink o (.aes r.val true)) (e % s.tickLen)]) := by
  have hm : portMaster (24 + r.val) x.cfg = true := by
    rw [portMaster, if_neg (by omega)]
    simp
  have hc := cyc_pos (s := s)
  have hindex : (((e : Int) * (s.cyc : Int)) / (s.cyc : Int)).toNat = e := by rw [Int.mul_ediv_cancel _ (by omega), Int.toNat_natCast]
  have hsamples : (s.txSamples (24 + r.val) e 2).1 = [nth 0 (findSink o (.aes r.val false)) (e % s.tickLen), nth 0 (findSink o (.aes r.val true)) (e % s.tickLen)] := by
    have hsink (k : Nat) : slotSink (24 + r.val) k = .aes r.val (k == 1) := by rw [slotSink, if_neg (by omega), Nat.add_sub_cancel_left]
    unfold State.txSamples
    dsimp only
    rw [hx, if_neg (by simp [hst, hre, hmis, hrun]), ho]
    simp only [upFrom, List.map, hsink]
    rfl
  show execPortTransmitFrame ⟨24 + r.val, by omega⟩ sp ⟨frac, none⟩ s = _
  unfold execPortTransmitFrame
  dsimp only
  rw [hx, if_neg (show ¬24 + r.val < 16 by omega), if_neg (show ¬24 + r.val < 16 by omega), hpos, if_neg, if_pos (by omega), hindex, hsamples, Nat.add_sub_cancel_left]
  simp only [hst, hclk, edgeFits, hm]
  simp only [Int.mul_emod_left]
  simp
  omega
theorem aesSend_leaves (r : Fin 8) (hx : s.port (24 + r.val) = x) (he : e % 192 ≠ 0) (y0 y1 : Int) :
    (s.aesSend r.val e [y0, y1]).out = s.out ++ [.aesFrame r.val false (aesSub y0 (s.bit (AEST_CFG r.val) 1) (bitOf (w32 (nth 0 x.csTx (e % 192 / 8)).toNat) (e % 192 % 8)))
      (aesSub y1 (s.bit (AEST_CFG r.val) 1) (bitOf (w32 (nth 0 x.csTx (e % 192 / 8)).toNat) (e % 192 % 8)))] ∧
    sameBut [24 + r.val] portInit s.ports (s.aesSend r.val e [y0, y1]).ports ∧ regsOnly [AEST_CLIP_COUNT r.val, portStat (24 + r.val)] s (s.aesSend r.val e [y0, y1]) ∧
    keeps [.regs, .out, .ports] s (s.aesSend r.val e [y0, y1]) := by
  obtain ⟨hcfg1, hcfg2⟩ := aes_tx_regs r
  have hz : (e % 192 == 0) = false := by simpa using he
  unfold State.aesSend
  dsimp only
  rw [if_neg he, hx, hz]
  obtain ⟨hregs, hk⟩ := clips_leaves (s := s) (24 + r.val) (([y0, y1] : List Int).filter (fun y => decide (satI 24 y ≠ y))).length
  rw [if_neg (by omega), Nat.add_sub_cancel_left] at hregs
  have hports := hk.part (p := .ports) (by simp)
  have hout := hk.part (p := .out) (by simp)
  generalize s.clips (24 + r.val) _ = u at *
  have hvalid : u.bit (AEST_CFG r.val) 1 = s.bit (AEST_CFG r.val) 1 := bit_of_rd (hregs _ (by simp [hcfg2]))
  rw [hvalid, modPort_eq]
  refine ⟨congrArg (· ++ _) hout, ?_, hregs.of_regs rfl, ?_⟩
  · exact (congrArg (sameBut [24 + r.val] portInit · _) hports).mp (setPort_sameBut (s := u) (24 + r.val) _)
  · exact keeps.trans (t := u) (hk.mono (by simp)) (by simp [keeps_iff, State.emit, State.setPort]) (fun _ => id)

theorem aes_rx_regs : ∀ r : Fin 8, AESR_PARITY_COUNT r.val ≠ dropA (16 + r.val) ∧ AESR_PARITY_COUNT r.val ≠ portStat (16 + r.val) ∧ AESR_PARITY_COUNT r.val ≠ ASR_EVSRC ∧
    evtReg (AESR_PARITY_COUNT r.val) = false ∧ dropA (16 + r.val) ≠ portStat (16 + r.val) ∧ dropA (16 + r.val) ≠ ASR_EVSRC ∧ evtReg (dropA (16 + r.val)) = false ∧
    AESR_CS_TICK r.val ≠ portStat (16 + r.val) ∧ AESR_CS_TICK r.val ≠ ASR_EVSRC ∧ evtReg (AESR_CS_TICK r.val) = false ∧ evtReg (portStat (16 + r.val)) = false ∧ portStat (16 + r.val) ≠ ASR_EVSRC := by decide
theorem aes_master (r : Fin 8) (cfg : W32) : portMaster (16 + r.val) cfg = false := by
  rw [portMaster, if_neg (by omega)]
  simp only [decide_eq_false_iff_not]
  omega
/-- A frame whose subframes are both valid. -/
theorem exec_aes3ReceiveFrame {r : Fin 8} {a b : W32} {pe be : Bool} (h : taking s (16 + r.val) x) (ha : bitOf a 28 = false) (hb : bitOf b 28 = false) (hkeep : keep = !(pe || be)) :
    exec (.aes3ReceiveFrame r sp frac a b pe be) s = doneCore s (if (pe || be) = true then
      ((s.portTake (16 + r.val) ((sp * s.cyc + frac : Nat) : Int) (s.cyc : Int) [aesWord x.cfg a, aesWord x.cfg b] keep).count (AESR_PARITY_COUNT r.val) 1).aesError (16 + r.val)
    else s.portTake (16 + r.val) ((sp * s.cyc + frac : Nat) : Int) (s.cyc : Int) [aesWord x.cfg a, aesWord x.cfg b] keep) := by
  obtain ⟨hx, hlisten, hst, -⟩ := h
  show execAes3ReceiveFrame r sp frac a b pe be s = _
  unfold execAes3ReceiveFrame
  dsimp only
  rw [hx, portListens_hears hlisten hst, if_neg (by simp), portListens_no_asrc hlisten, ha, hb, hkeep]
  simp only [Bool.or_self, Bool.false_and, Bool.or_false, Bool.false_eq_true, if_false, State.when]
/-- EV48 with ERROR, at most once per tick. -/
theorem aesError_leaves (r : Fin 8) : (s.aesError (16 + r.val)).bit (portStat (16 + r.val)) 3 = true ∧ (s.sys.onceTick.contains 48 = false → raised 48 s (s.aesError (16 + r.val))) ∧
    regsKeep [portStat (16 + r.val), ASR_EVSRC] s (s.aesError (16 + r.val)) ∧ evtOnly s (s.aesError (16 + r.val)) := by
  obtain ⟨-, -, -, -, -, -, -, -, -, -, hstat, hsrc⟩ := aes_rx_regs r
  refine ⟨?_, fun h => raised_raiseOnce (t := (s.flag _ _).flag _ _) rfl rfl h, (((regsKeep.refl _ s).flag (by simp)).flag (by simp)).raiseOnce,
    ((evtOnly_wr _ _ _).trans (evtOnly_wr _ _ _)).trans (raiseOnce_only _ _)⟩
  refine (bit_of_rd (raiseOnce_rd _ 48 hstat)).trans ?_
  exact bit_flag_mono _ _ (by decide) (bit_flag_self (by decide))

/-- Settles O31: what a frame's index is by `edgeIndex`, what receiving it stores by `portTake_kept` and `portTake_dropped`, what is sent by the words of `txSend` and `aesSend`. -/
theorem portFrames : Obligations.PortFrames := by
  intro s p r x e sp frac n k pos dr a b data mask vs pe be csA csB o
  obtain ⟨hs1, hs2, hs3, hs4, hd1, hd2, hd3, hf1, hf2, hf3, hf4, hf5⟩ := asp_regs p
  obtain ⟨-, hstatEvt, hstat1, -, -, -, -⟩ := evtReg_port ⟨p.val, by omega⟩
  refine ⟨fun hx hl hst hre hm hrx hn hpos hnear hin hfree hk hdata => ?_, fun hx hl hst hre hm hn hpos hexact hin hfree hk hdata => ?_,
    fun hx hl hst hre hrx hm hn hpos hnear => ?_, fun hx hl hst hre hm hrx hn hpos hfar => ?_, fun hx hst => ?_, ?_⟩
  · have hexec := exec_portReceiveFrame (p := p) (sp := sp) (frac := frac) (n := n * aspWidth x.cfg) (dr := dr) (keep := true) ⟨hx, hl, hst, hre⟩ (e := e) (fun h => absurd h (by simp [hm])) (by simp [hn])
    rw [hm, ← hdata] at hexec
    change exec _ s = doneCore s ((s.portTake p.val ((sp * s.cyc + frac : Nat) : Int) ((256 * fld x.depth 6 0 : Nat) : Int) (rxSamples x.cfg data dr) true).frameLen p.val _) at hexec
    obtain ⟨y, hy, hport, hbut, hkeep⟩ := portTake_kept (ts := ((sp * s.cyc + frac : Nat) : Int)) (depth := ((256 * fld x.depth 6 0 : Nat) : Int)) (samples := rxSamples x.cfg data dr)
      ⟨hx, hl, hst, hre⟩ (by rw [hrx]; exact edgeIndex_near hm _ (by rw [← Int.natCast_add, ← hpos]; exact hnear)) hin hfree
    generalize s.portTake p.val _ _ (rxSamples x.cfg data dr) true = t at *
    obtain ⟨grx, gcfg, gget, gbut⟩ := kept_leaves hy hport
    rw [frameLen_whole gcfg (.inr (by rw [hn]))] at hexec
    refine leads_doneCore hexec ⟨grx, ?_, ?_, gbut, hbut, hkeep.answered⟩
    · exact (congrArg (nth 0 · k) gget).trans (rxSamples_nth _ _ _ (hn ▸ hk))
    · exact (congrArg List.length gget).trans ((rxSamples_length _ _ _).trans hn.symm)
  · have hexec := exec_portReceiveFrame (p := p) (sp := sp) (frac := frac) (n := n * aspWidth x.cfg) (dr := dr) (keep := true) ⟨hx, hl, hst, hre⟩ (e := e) (fun _ => hpos ▸ hexact) (by simp [hm])
    rw [hm, ← hdata] at hexec
    change exec _ s = doneCore s (((s.emit (.rxSync p.val (frameSync x.cfg))).portTake p.val ((sp * s.cyc + frac : Nat) : Int) ((256 * fld x.depth 6 0 : Nat) : Int) (rxSamples x.cfg data dr) true).frameLen p.val _) at hexec
    have hemit : keeps [.out, .ports] s (s.emit (.rxSync p.val (frameSync x.cfg))) := by simp [keeps_iff, State.emit]
    obtain ⟨y, hy, hport, hbut, hkeep⟩ := portTake_kept (s := s.emit (.rxSync p.val (frameSync x.cfg))) (ts := ((sp * s.cyc + frac : Nat) : Int)) (depth := ((256 * fld x.depth 6 0 : Nat) : Int))
      (samples := rxSamples x.cfg data dr) ⟨hx, hl, hst, hre⟩ (edgeIndex_exact hm (by rw [← Int.natCast_add, ← hpos]; exact hexact) _) hin hfree
    have hout := hkeep.part (p := .out) (by simp)
    generalize (s.emit (.rxSync p.val (frameSync x.cfg))).portTake p.val _ _ (rxSamples x.cfg data dr) true = t at *
    obtain ⟨grx, gcfg, gget, gbut⟩ := kept_leaves hy hport
    rw [frameLen_whole gcfg (.inl hm)] at hexec
    refine leads_doneCore hexec ⟨hout, grx, ?_, ?_, gbut, hbut, (hemit.trans hkeep (by simp)).answered⟩
    · exact (congrArg (nth 0 · k) gget).trans (rxSamples_nth _ _ _ (hn ▸ hk))
    · exact (congrArg List.length gget).trans ((rxSamples_length _ _ _).trans hn.symm)
  · have hexec := exec_portReceiveFrame (p := p) (sp := sp) (frac := frac) (n := n) (dr := dr) (keep := false) ⟨hx, hl, hst, hre⟩ (e := e) (fun h => absurd h (by simp [hm])) (by simp [hm, hn])
    rw [hm] at hexec
    change exec _ s = doneCore s ((s.portTake p.val ((sp * s.cyc + frac : Nat) : Int) ((256 * fld x.depth 6 0 : Nat) : Int) (rxSamples x.cfg _ dr) false).frameLen p.val _) at hexec
    obtain ⟨y, hy, htake⟩ := portTake_dropped (ts := ((sp * s.cyc + frac : Nat) : Int)) (depth := ((256 * fld x.depth 6 0 : Nat) : Int))
      (samples := rxSamples x.cfg (dataAt (sp / s.tickLen) x.maskRx x.chgRx) dr) ⟨hx, hl, hst, hre⟩ (by rw [hrx]; exact edgeIndex_near hm _ (by rw [← Int.natCast_add, ← hpos]; exact hnear))
    rw [htake] at hexec
    obtain ⟨grx, gcfg, gblk, gcount, glast, gbut, gregs, gk⟩ := dropped_leaves (s := s) p hy
    have gans : ((s.setPort p.val y).portDrops p.val 1).sys.answering = s.sys.answering := by
      rw [portDrops_eq]
      rfl
    rw [frameLen_bad gcfg hm hn] at hexec
    generalize (s.setPort p.val y).portDrops p.val 1 = u at *
    obtain ⟨kcount, kbit, kraised, kregs, konly⟩ := badLength_leaves (s := u) p
    have hferr := gregs (ASP_FERR_COUNT p.val) (by simp [hf4]) hf3
    have hdrop := kregs (dropA p.val) (by simp [hf4.symm, hd1, hd2]) hd3
    have hlast := kregs (ASP_SLIP_LAST p.val) (by simp [hs2, hs3]) hs4
    have hports := konly.keeps.part (p := .ports) (by simp)
    have hport := port_of_ports hports p.val
    generalize (u.count (ASP_FERR_COUNT p.val) 1).portFlag p.val 3 43 = t at *
    exact leads_doneCore hexec ⟨(congrArg Port.rx hport).trans grx, (congrArg Port.blk hport).trans gblk, kcount.of_start hferr, gcount.of_rd hdrop, hlast.trans glast, kbit,
      kraised.of_start gk.2.1 gans, (congrArg (sameBut [p.val] portInit s.ports) hports).mpr gbut, (gregs.mono (by simp)).trans (kregs.mono (by simp)), ((gk.mono (by simp)).evt (by simp) konly).answered⟩
  · have hexec := exec_portReceiveFrame (p := p) (sp := sp) (frac := frac) (n := n * aspWidth x.cfg) (dr := dr) (keep := true) ⟨hx, hl, hst, hre⟩ (e := e) (fun h => absurd h (by simp [hm])) (by simp [hn])
    rw [hm] at hexec
    change exec _ s = doneCore s ((s.portTake p.val ((sp * s.cyc + frac : Nat) : Int) ((256 * fld x.depth 6 0 : Nat) : Int) (rxSamples x.cfg _ dr) true).frameLen p.val _) at hexec
    obtain ⟨y, hy, htake⟩ := portTake_taking (ts := ((sp * s.cyc + frac : Nat) : Int)) (depth := ((256 * fld x.depth 6 0 : Nat) : Int)) (keep := true)
      (samples := rxSamples x.cfg (dataAt (sp / s.tickLen) x.maskRx x.chgRx) dr) ⟨hx, hl, hst, hre⟩ (r := (roundEvenQ pos s.cyc, true)) (by rw [hrx, ← Int.natCast_add, ← hpos]; exact edgeIndex_slip hm _ hfar)
    obtain ⟨wport, wbit, wraised, wlast, wbut, wregs, wtick, wk⟩ := slipped_leaves (s := s) p y
    rw [htake] at hexec
    generalize (s.setPort p.val y).slipped p.val true = w at *
    have hcfg : y.cfg = x.cfg := (congrArg Port.cfg hy :)
    have hrx' : y.rx = some ((roundEvenQ pos s.cyc).toNat + 1) := (congrArg Port.rx hy :)
    split at hexec
    · rw [portDrops_eq, wtick, frameLen_whole (s := (w.count _ _).wr _ _) (v := x.cfg) ((congrArg Port.cfg wport).trans hcfg) (.inr (by rw [hn]))] at hexec
      refine leads_doneCore hexec ⟨(congrArg Port.rx wport).trans hrx', ?_, ?_, rd_wr_same _ _ _, wbut, ?_, ((wk.count (by simp)).wr (by simp)).answered⟩
      · exact bit_wr_other (bit_wr_other wbit hd1.symm) hs2.symm
      · exact (wraised.wr hd3).wr hs4
      · exact ((wregs.mono (by simp)).count (by simp)).wr (by simp)
    · have hframe (m : Sparse (List Int)) := frameLen_whole (s := w.setPort p.val { y with blk := m }) ((congrArg Port.cfg (port_setPort_same p.val { y with blk := m })).trans hcfg)
        (.inr (congrArg (· * aspWidth x.cfg) hn))
      rw [modPort_eq, wport, hframe] at hexec
      exact leads_doneCore hexec ⟨(congrArg Port.rx (port_setPort_same _ _)).trans hrx', wbit, wraised.of_regs rfl, wlast, wbut.trans (setPort_sameBut _ _), (wregs.of_regs rfl).mono (by simp),
        (wk.trans (setPort_keeps _ _) (by simp)).answered⟩
  · have hhears : portHears p.val x = false := by simp [portHears, hst]
    constructor
    · show execPortReceiveFrame p sp frac n dr s = _
      unfold execPortReceiveFrame
      dsimp only
      rw [hx, hhears, if_pos (by rfl)]
      rfl
    · show execPortTransmitFrame (Fin.castLE (by decide) p) sp ⟨frac, none⟩ s = _
      unfold execPortTransmitFrame
      dsimp only
      rw [if_pos (.inr (.inl (by rw [← hst, ← hx]; rfl)))]
      rfl
  refine ⟨fun hx hst hclk hpins hm hmask hvs => ?_, fun hx hst hclk hpins hm hn => ?_, fun hx hst hclk hpins hre hmis hasrc hm htx hpos hnear hrun ho hmask hdata hvs => ?_, ?_⟩
  · subst hmask
    have hexec := exec_transmit_idle (sp := sp) (frac := frac) (p := p) ⟨hx, hclk, hpins, hm⟩ hst none
    change exec _ s = doneCore s (s.txSend p.val _ _ _ _ none) at hexec
    obtain ⟨hout, -, hbut, -, hk⟩ := txSend_leaves hx (aspSlots x.cfg) (maskAt (sp / s.tickLen) x.maskTx x.chgTx) (dataAt (sp / s.tickLen) x.maskTx x.chgTx) (List.replicate (aspSlots x.cfg) 0) none
    have hregs := txSend_zero_regs hx (aspSlots x.cfg) (aspSlots x.cfg) (maskAt (sp / s.tickLen) x.maskTx x.chgTx) (dataAt (sp / s.tickLen) x.maskTx x.chgTx) none
    rw [txWords_zero, ← hvs] at hout
    generalize s.txSend p.val _ _ _ _ none = t at *
    refine leads_doneCore hexec ⟨hout, hbut, keeps.answered ⟨hk.1, hk.2.1, fun q hq => ?_⟩⟩
    by_cases hr : q = .regs
    · exact hr ▸ hregs
    · exact hk.part (by simpa [hr] using hq)
  · have hexec := exec_transmit_idle (sp := sp) (frac := frac) (p := p) ⟨hx, hclk, hpins, hm⟩ hst (some n)
    rw [frameLen_bad (congrArg Port.cfg hx) hm hn] at hexec
    obtain ⟨kcount, kbit, kraised, kregs, konly⟩ := badLength_leaves (s := s) p
    have hports := konly.keeps.part (p := .ports) (by simp)
    generalize (s.count (ASP_FERR_COUNT p.val) 1).portFlag p.val 3 43 = u at *
    have hxu := (port_of_ports hports p.val).trans hx
    obtain ⟨-, -, hbut, -, hk⟩ := txSend_leaves hxu (aspSlots x.cfg) (maskAt (sp / s.tickLen) x.maskTx x.chgTx) (dataAt (sp / s.tickLen) x.maskTx x.chgTx) (List.replicate (aspSlots x.cfg) 0) (some n)
    have hregs := txSend_zero_regs hxu (aspSlots x.cfg) (aspSlots x.cfg) (maskAt (sp / s.tickLen) x.maskTx x.chgTx) (dataAt (sp / s.tickLen) x.maskTx x.chgTx) (some n)
    generalize u.txSend p.val _ _ _ _ (some n) = t at *
    exact leads_doneCore hexec ⟨kcount.of_rd (rd_of_regs hregs _), (bit_of_rd (rd_of_regs hregs _)).trans kbit, kraised.of_regs hregs, (congrArg (sameBut [p.val] portInit · _) hports).mp hbut,
      kregs.of_regs hregs, (keeps.trans (konly.keeps.mono (by simp)) hk (by simp)).answered⟩
  · have hexec := exec_transmit_indexed (sp := sp) (frac := frac) (p := p) ⟨hx, hclk, hpins, hm⟩ hst hre hmis hasrc
    rw [← hpos, txIndexed_sent hx hst hre hmis hm htx hnear hrun ho, ← hmask, ← hdata] at hexec
    obtain ⟨hout, hport, hbut, hregs, hk⟩ := txSend_leaves (port_setPort_same (s := s) p.val { x with tx := some (e + 1) }) (aspSlots x.cfg) mask data
      ((upFrom 0 (aspSlots x.cfg)).map fun k => nth 0 (findSink o (.asp p.val k)) (e % s.tickLen)) none
    rw [txWords_nth, ← hvs] at hout
    have hk' := ((setPort_keeps (s := s) p.val { x with tx := some (e + 1) }).mono (by simp)).trans hk (fun _ => id)
    have hbut' := (setPort_sameBut (s := s) p.val { x with tx := some (e + 1) }).trans hbut
    have hregs' := (regsOnly_of_regs rfl : regsOnly _ s (s.setPort p.val { x with tx := some (e + 1) })).trans hregs
    generalize State.txSend _ p.val _ _ _ _ none = t at *
    refine leads_doneCore hexec ⟨hout, congrArg Port.tx hport, hbut', ?_, hk'.answered⟩
    rwa [if_pos p.isLt] at hregs'
  refine ⟨fun hx hst hclk hre hmis hpos he hrun ho => ?_, fun hx hl hst hre hrx hpos hnear hin hfree ha hb => ?_, fun hx hl hst hre hrx hpos hnear ha hb hbad => ?_,
    fun hx hhears ha hcsA hcsB hb => ?_, fun hx hhears => ?_, fun hx hst hcrc => ?_⟩
  · obtain ⟨hout, hbut, hregs, hk⟩ := aesSend_leaves r hx he (nth 0 (findSink o (.aes r.val false)) (e % s.tickLen)) (nth 0 (findSink o (.aes r.val true)) (e % s.tickLen))
    have hexec := exec_transmit_aes hx hst hclk hre hmis hpos hrun ho
    generalize s.aesSend r.val e _ = t at *
    exact leads_doneCore hexec ⟨hout, hbut, hregs, hk.answered⟩
  · have hexec := exec_aes3ReceiveFrame (sp := sp) (frac := frac) (pe := false) (be := false) (keep := true) ⟨hx, hl, hst, hre⟩ ha hb rfl
    rw [if_neg (by simp)] at hexec
    obtain ⟨y, hy, hport, hbut, hkeep⟩ := portTake_kept (ts := ((sp * s.cyc + frac : Nat) : Int)) (depth := (s.cyc : Int)) (samples := [aesWord x.cfg a, aesWord x.cfg b])
      ⟨hx, hl, hst, hre⟩ (by rw [hrx]; exact edgeIndex_near (aes_master r _) _ (by rw [← Int.natCast_add, ← hpos]; exact hnear)) hin hfree
    generalize s.portTake (16 + r.val) _ _ _ true = t at *
    obtain ⟨grx, -, gget, gbut⟩ := kept_leaves hy hport
    exact leads_doneCore hexec ⟨grx, gget, gbut, hbut, hkeep.answered⟩
  · have hexec := exec_aes3ReceiveFrame (sp := sp) (frac := frac) (pe := pe) (be := be) (keep := false) ⟨hx, hl, hst, hre⟩ ha hb (by rw [hbad]; rfl)
    obtain ⟨y, hy, htake⟩ := portTake_dropped (ts := ((sp * s.cyc + frac : Nat) : Int)) (depth := (s.cyc : Int)) (samples := [aesWord x.cfg a, aesWord x.cfg b])
      ⟨hx, hl, hst, hre⟩ (by rw [hrx]; exact edgeIndex_near (aes_master r _) _ (by rw [← Int.natCast_add, ← hpos]; exact hnear))
    rw [if_pos hbad, htake, portDrops_aes] at hexec
    obtain ⟨hp1, hp2, hp3, hp4, hp5, hp6, hp7, -⟩ := aes_rx_regs r
    obtain ⟨kbit, kraised, kregs, konly⟩ := aesError_leaves (s := ((s.setPort (16 + r.val) y).count (dropA (16 + r.val)) 1).count (AESR_PARITY_COUNT r.val) 1) r
    have hparity := kregs (AESR_PARITY_COUNT r.val) (by simp [hp2, hp3]) hp4
    have hdrop := kregs (dropA (16 + r.val)) (by simp [hp5, hp6]) hp7
    have hports := konly.keeps.part (p := .ports) (by simp)
    have hport : State.port _ (16 + r.val) = y := (port_of_ports hports _).trans (port_setPort_same (s := s) _ _)
    have hregs : regsKeep [AESR_PARITY_COUNT r.val, dropA (16 + r.val), portStat (16 + r.val), ASR_EVSRC] s _ :=
      (((regsKeep_of_regs rfl : regsKeep _ s (s.setPort (16 + r.val) y)).count (by simp)).count (by simp)).trans (kregs.mono (by simp))
    have hk : keeps [.regs, .out, .mon, .sys, .ports] s _ := ((((setPort_keeps (s := s) (16 + r.val) y).mono (by simp)).count (by simp)).count (by simp)).evt (by simp) konly
    have hcount : counted (AESR_PARITY_COUNT r.val) 1 s (((s.setPort (16 + r.val) y).count (dropA (16 + r.val)) 1).count (AESR_PARITY_COUNT r.val) 1) := counted_count (rd_count_ne _ _ hp1)
    have hcount' : counted (dropA (16 + r.val)) 1 s (((s.setPort (16 + r.val) y).count (dropA (16 + r.val)) 1).count (AESR_PARITY_COUNT r.val) 1) := (counted_count rfl).wr hp1.symm
    generalize State.aesError _ (16 + r.val) = t at *
    exact leads_doneCore hexec ⟨(congrArg Port.rx hport).trans (congrArg Port.rx hy :), (congrArg Port.blk hport).trans (congrArg Port.blk hy :), hcount.of_rd hparity, hcount'.of_rd hdrop, kbit,
      fun h => (kraised h).of_start rfl rfl, (congrArg (sameBut [16 + r.val] portInit s.ports) hports).mpr (setPort_sameBut _ _), hregs, hk.answered⟩
  · obtain ⟨-, -, -, -, -, -, -, hc1, hc2, hc3, hc4, hc5⟩ := aes_rx_regs r
    have hexec : exec (.aesCs r csA csB) s = doneCore s (((s.setPort (16 + r.val) { x with csA := csA }).wr (AESR_CS_TICK r.val) s.tickLo).portFlag (16 + r.val) 1 49) := by
      have hfirst : s.aesCs r.val false csA = ((s.setPort (16 + r.val) { x with csA := csA }).wr (AESR_CS_TICK r.val) s.tickLo).portFlag (16 + r.val) 1 49 := by
        unfold State.aesCs
        dsimp only
        rw [hx, if_neg (by omega), if_neg (show ¬(if false = true then x.csB else x.csA) = csA from fun h => hcsA h.symm)]
        rfl
      have hsecond : (((s.setPort (16 + r.val) { x with csA := csA }).wr (AESR_CS_TICK r.val) s.tickLo).portFlag (16 + r.val) 1 49).aesCs r.val true csB =
          ((s.setPort (16 + r.val) { x with csA := csA }).wr (AESR_CS_TICK r.val) s.tickLo).portFlag (16 + r.val) 1 49 := by
        have hport := (port_of_ports ((portFlag_only (s := (s.setPort (16 + r.val) { x with csA := csA }).wr (AESR_CS_TICK r.val) s.tickLo) (16 + r.val) 1 49).keeps.part (p := .ports) (by simp)) (16 + r.val)).trans
          (port_setPort_same (s := s) (16 + r.val) { x with csA := csA })
        unfold State.aesCs
        dsimp only
        rw [hport, if_neg (by omega)]
        exact if_pos hcsB.symm
      show execAesCs r csA csB s = _
      rw [execAesCs, hx, if_pos hhears, hfirst, hsecond]
    have honly := portFlag_only (s := (s.setPort (16 + r.val) { x with csA := csA }).wr (AESR_CS_TICK r.val) s.tickLo) (16 + r.val) 1 49
    have hports := honly.keeps.part (p := .ports) (by simp)
    refine leads_doneCore hexec ⟨(port_of_ports hports _).trans (port_setPort_same (s := s) _ _), (portFlag_rd hc3 hc2 hc1).trans (rd_wr_same _ _ _), bit_portFlag_self hc4 (by decide), raised_portFlag rfl rfl,
      (congrArg (sameBut [16 + r.val] portInit s.ports) hports).mpr (setPort_sameBut _ _), ?_, keeps.answered ?_⟩
    · exact ((regsKeep_of_regs rfl : regsKeep _ s (s.setPort (16 + r.val) { x with csA := csA })).wr (by simp)).portFlag (by simp) (by simp)
    · exact (((setPort_keeps (16 + r.val) { x with csA := csA }).mono (by simp)).wr (by simp)).evt (by simp) honly
  · show execAesCs r csA csB s = _
    rw [execAesCs, hx, hhears]
    rfl
  · have hexec : exec (.aes3TxBlockStart r) s = doneCore s ((s.setPort (24 + r.val) { x with csTx := s.csBytes r.val }).emit (.aesBlock r.val (s.csBytes r.val))) := by
      show execAes3TxBlockStart r s = _
      rw [execAes3TxBlockStart, hx, if_neg hst, ← hx]
      rfl
    have hcs : s.csBytes r.val = (upFrom 0 6).flatMap fun i => leBytes 4 (s.rd (AEST_CS r.val i)).toNat := if_neg (by simp [hcrc])
    rw [hcs] at hexec
    exact leads_doneCore hexec ⟨rfl, port_setPort_same _ _, setPort_sameBut _ _, keeps.answered (by simp [keeps_iff, State.emit, State.setPort])⟩

end Sys2Proof.Machine
end

section
/-! SUPPORT. The Trunk: a lock of the test mode is noted for the tick's boundary. -/

namespace Sys2Proof.Machine

/-- A module in TEST mode. -/
def inTestMode : State := { State.reset with sys := { resetSys with ready := true }, trk := { State.reset.trk with test := true } }

/-- Refutes O44: in TEST mode the grant of a lock at a target below 3 also notes the lock for the tick's boundary (`lockTick`), so the state that follows is
not the one with the lock and its address alone. -/
theorem not_trunkContainment : ¬ Obligations.TrunkContainment := by
  unfold Obligations.TrunkContainment
  intro h
  obtain ⟨hlock, -⟩ := h inTestMode 0 0 0 0 (0, 0)
  have hnext := Host.Outcome.next.inj (hlock (by decide +kernel) (by decide +kernel))
  have hnote : (inTestMode.lockRequest 1 0 0).trk.lockTick = false := congrArg (fun t : State => t.trk.lockTick) hnext
  exact absurd hnote (by decide +kernel)

end Sys2Proof.Machine
end

section
/-! SUPPORT. The end of a PROVE whose last writes a freeze discards. -/

namespace Sys2Proof.Machine

/-- The last group's writes of a run, due now. -/
def endingRun : PrvRun := { slot := 0, rets := false, last := 0, table := 0, stage := .ending }
def endingWrite : PrvWrite := { left := 0, entries := [], endTick := 0 }
/-- A module with frozen channels in the last tick of a PROVE's writes, one of its tiles having spent proving cycles. -/
def endingProve : State :=
  { State.reset with prv := { State.reset.prv with run := some endingRun, pend := some endingWrite }, dram := { State.reset.dram with frozen := true }
                     canopy := { State.reset.canopy with prvUsed := [(0, 0)] } }

/-- Refutes O50: the end of the last group's writes leaves the tiles' proving cycles (`prvUsed`) as they stand; the next boundary clears them. -/
theorem not_provingJob : ¬ Obligations.ProvingJob := by
  unfold Obligations.ProvingJob
  intro h
  obtain ⟨-, -, -, -, -, -, -, -, hend⟩ := h endingProve 0 0 0 0 0 0 false endingRun endingWrite { isRet := false, point := 0, input := 0, gain := 0, lat := 0, snr := 0, inv := false } 0 0
  obtain ⟨t, hexec, -, -, hused, -⟩ := hend rfl rfl (by decide) rfl rfl
  cases Host.Outcome.next.inj hexec
  have hclear : endingProve.canopy.prvUsed = [] := congrArg CanopySt.prvUsed hused
  exact absurd hclear (by decide)

end Sys2Proof.Machine
end

section
/-! SUPPORT. The DRAM channels: their ranks, the command history, refreshes (R341 to R343), calibration and retraining (R338). -/

namespace Sys2Proof.Machine

variable {s t u : State} {c d k j n : Nat} {x : Channel}

/-! ## Lists by position -/

theorem nth_eq_getD {α : Type} (d : α) : ∀ (xs : List α) (k : Nat), nth d xs k = xs.getD k d
  | [], _ => rfl
  | _ :: _, 0 => rfl
  | _ :: xs, k + 1 => (nth_eq_getD d xs k).trans List.getD_cons_succ.symm
theorem setNth_eq_set {α : Type} (v : α) : ∀ (xs : List α) (k : Nat), setNth xs k v = xs.set k v
  | [], _ => rfl
  | _ :: _, 0 => rfl
  | x :: xs, k + 1 => congrArg (x :: ·) (setNth_eq_set v xs k)
theorem nth_beyond {α : Type} {d : α} {xs : List α} (h : xs.length ≤ k) : nth d xs k = d := by rw [nth_eq_getD, List.getD_eq_default _ _ h]
theorem nth_setNth_same {α : Type} {d v : α} {xs : List α} (h : k < xs.length) : nth d (setNth xs k v) k = v := by
  rw [nth_eq_getD, setNth_eq_set, List.getD_eq_getElem _ _ (by rw [List.length_set]; exact h), List.getElem_set_self]
theorem nth_setNth_ne {α : Type} {d v : α} {xs : List α} (h : j ≠ k) : nth d (setNth xs k v) j = nth d xs j := by
  rw [nth_eq_getD, nth_eq_getD, setNth_eq_set, List.getD_eq_getElem?_getD, List.getD_eq_getElem?_getD, List.getElem?_set_ne h.symm]
theorem setNth_nth {α : Type} {d : α} : ∀ (xs : List α) (k : Nat), setNth xs k (nth d xs k) = xs
  | [], _ => rfl
  | _ :: _, 0 => rfl
  | x :: xs, k + 1 => congrArg (x :: ·) (setNth_nth xs k)

/-! ## Channels and ranks -/

theorem chan_setChan_same (s : State) (c : Nat) (x : Channel) : (s.setChan c x).chan c = x := by
  unfold State.chan State.setChan
  split <;> rfl
theorem chan_setChan_other (h : ¬(c = 0 ↔ d = 0)) : (s.setChan c x).chan d = s.chan d := by
  unfold State.chan State.setChan
  by_cases hc : c = 0
  · rw [if_pos hc, if_neg fun hd => h (by simp [hc, hd]), if_neg fun hd => h (by simp [hc, hd])]
  · have hd : d = 0 := Classical.byContradiction fun hd => h (by simp [hc, hd])
    rw [if_neg hc, if_pos hd, if_pos hd]
theorem chan_modChan_same (s : State) (c : Nat) (f : Channel → Channel) : (s.modChan c f).chan c = f (s.chan c) := chan_setChan_same ..
theorem modChan_self {f : Channel → Channel} (h : f (s.chan c) = s.chan c) : s.modChan c f = s := by
  rw [State.modChan, h]
  unfold State.setChan State.chan
  split <;> rfl
theorem chan_of_dram (h : t.dram = s.dram) (c : Nat) : t.chan c = s.chan c := by rw [State.chan, h]; rfl
theorem setChan_keeps (c : Nat) (x : Channel) : keeps [.dram] s (s.setChan c x) := by simp [keeps_iff, State.setChan]
theorem modChan_keeps (c : Nat) (f : Channel → Channel) : keeps [.dram] s (s.modChan c f) := setChan_keeps ..
theorem setChan_channels (c : Nat) (x : Channel) : (s.setChan c x).dram = { s.dram with ch0 := (s.setChan c x).dram.ch0, ch1 := (s.setChan c x).dram.ch1 } := by
  unfold State.setChan
  split <;> rfl
theorem rank_modRank_same {f : Rank → Rank} (h : (x.rank k).st.live = true) : (x.modRank k f).rank k = f (x.rank k) :=
  nth_setNth_same (Nat.lt_of_not_le fun he => absurd h (by rw [Channel.rank, nth_beyond he]; decide))
theorem rank_modRank_ne {f : Rank → Rank} (h : j ≠ k) : (x.modRank k f).rank j = x.rank j := nth_setNth_ne h
/-- A rank beyond the channel's list stands for none, and setting it changes nothing. -/
theorem rank_modRank_cases (x : Channel) (k : Nat) (f : Rank → Rank) : (x.modRank k f).rank k = f (x.rank k) ∨ (x.modRank k f).rank k = noRank ∧ x.rank k = noRank := by
  by_cases h : k < x.ranks.length
  · exact .inl (nth_setNth_same h)
  · have hk := Nat.le_of_not_lt h
    refine .inr ⟨nth_beyond ?_, nth_beyond hk⟩
    rw [Channel.modRank, setNth_eq_set, List.length_set]
    exact hk

/-! ## The command history -/

/-- Nothing differs but the histories of the channels. -/
structure HistOnly (s t : State) : Prop where
  chan : ∀ c, t.chan c = { s.chan c with hist := (t.chan c).hist }
  dram : t.dram = { s.dram with ch0 := t.dram.ch0, ch1 := t.dram.ch1 }
  keeps : keeps [.dram] s t
theorem HistOnly.refl (s : State) : HistOnly s s := ⟨fun _ => rfl, rfl, keeps.refl _ _⟩
theorem HistOnly.trans (h : HistOnly s t) (h' : HistOnly t u) : HistOnly s u :=
  ⟨fun c => by rw [h'.chan c, h.chan c], by rw [h'.dram, h.dram], h.keeps.trans h'.keeps fun _ => id⟩
theorem HistOnly.fold {α : Type} {f : State → α → State} (l : List α) (h : ∀ t a, HistOnly t (f t a)) : HistOnly s (foldS f s l) := by
  induction l generalizing s with
  | nil => exact .refl s
  | cons a as ih => exact (h s a).trans ih
theorem HistOnly.times {f : State → State} (n : Nat) (h : ∀ t, HistOnly t (f t)) : HistOnly s (timesN f n s) := by
  induction n generalizing s with
  | zero => exact .refl s
  | succ n ih => exact (h s).trans ih
theorem hist_only (ch cmd rank bg bank master addr : Nat) (alert : Bool) : HistOnly s (s.hist ch cmd rank bg bank master addr alert) := by
  unfold State.hist
  split
  · exact .refl s
  · refine ⟨fun c => ?_, setChan_channels .., modChan_keeps ..⟩
    by_cases h : ch = 0 ↔ c = 0
    · have hc : ∀ u : State, u.chan c = u.chan ch := fun u => by simp only [State.chan, h]
      rw [hc, hc, chan_modChan_same]
    · rw [State.modChan, chan_setChan_other h]
/-- The word of a command in the history (R361). -/
def cmdWord (cmd rank bg bank master addr : Nat) (alert : Bool) : W32 :=
  w32 (cmd * 2 ^ 28 + rank % 4 * 2 ^ 26 + bg % 4 * 2 ^ 24 + bank % 4 * 2 ^ 22 + master % 16 * 2 ^ 18 + b01 alert * 2 ^ 17 + addr % 2 ^ 17)
theorem hist_cmds (hrun : s.dram.frozen = false) (ch cmd rank bg bank master addr : Nat) (alert : Bool) :
    ((s.hist ch cmd rank bg bank master addr alert).chan ch).hist.map (·.cmd) = (cmdWord cmd rank bg bank master addr alert :: (s.chan ch).hist.map (·.cmd)).take 64 := by
  rw [State.hist, if_neg (by rw [hrun]; decide), chan_modChan_same]
  exact List.map_take
theorem HistOnly.frozen (h : HistOnly s t) : t.dram.frozen = s.dram.frozen := by rw [h.dram]
theorem HistOnly.mem (h : HistOnly s t) : t.dram.mem = s.dram.mem := by rw [h.dram]

/-! ## Refreshes -/

/-- Refreshes leave a rank's interval and the bytes as they are, and no register differs but the count of the forced ones. -/
structure RefreshStep (c k : Nat) (s t : State) : Prop where
  fast : ((t.chan c).rank k).fast = ((s.chan c).rank k).fast
  mem : t.dram.mem = s.dram.mem
  regs : regsOnly [DRC_REF_FORCED c] s t
  keeps : keeps [.regs, .dram] s t
theorem RefreshStep.refl (c k : Nat) (s : State) : RefreshStep c k s s := ⟨rfl, rfl, .refl _ _, keeps.refl _ _⟩
theorem RefreshStep.trans (h : RefreshStep c k s t) (h' : RefreshStep c k t u) : RefreshStep c k s u :=
  ⟨h'.fast.trans h.fast, h'.mem.trans h.mem, h.regs.trans h'.regs, h.keeps.trans h'.keeps fun _ => id⟩
theorem HistOnly.refreshStep (h : HistOnly s t) (c k : Nat) : RefreshStep c k s t :=
  ⟨by rw [h.chan c]; rfl, h.mem, regsOnly_of_regs (h.keeps.part (p := .regs) (by simp)), h.keeps.mono (by simp)⟩
theorem modChan_mem (c : Nat) (f : Channel → Channel) : (s.modChan c f).dram.mem = s.dram.mem := by rw [State.modChan, setChan_channels]
theorem modChan_refreshStep {f : Channel → Channel} (h : ((f (s.chan c)).rank k).fast = ((s.chan c).rank k).fast) : RefreshStep c k s (s.modChan c f) :=
  ⟨by rw [chan_modChan_same, h], modChan_mem c f, regsOnly_of_regs rfl, (modChan_keeps c f).mono (by simp)⟩
theorem count_refreshStep (n : Nat) : RefreshStep c k s (s.count (DRC_REF_FORCED c) n) :=
  ⟨rfl, rfl, (regsOnly.refl _ s).count (by simp), (keeps.refl _ s).count (by simp)⟩
/-- The owed count of a rank is no part of its interval. -/
theorem owed_refreshStep (c k : Nat) (g : Nat → Nat) : RefreshStep c k s (s.modChan c fun x => x.modRank k fun r => { r with owed := g r.owed }) := by
  refine modChan_refreshStep ?_
  rcases rank_modRank_cases (s.chan c) k fun r => { r with owed := g r.owed } with h | ⟨h, hnone⟩
  · rw [h]
  · rw [h, hnone]
/-- The REF commands of n refreshes of a rank, and the activations of the neighbours that wait for its slot. -/
def State.refs (s : State) (c k n : Nat) : State := timesN (fun t => t.hist c 5 k 0 0 14 0 false) n s
def State.slotNeighbours (s : State) (c k : Nat) : List (Nat × Nat) := (s.chan c).neighbours.filter (fun p => p.1 / 16 == k)
def State.neighbourCmds (s : State) (c k : Nat) : State :=
  foldS (fun t p => (t.hist c 0 k (p.1 / 4) p.1 14 p.2 false).hist c 3 k (p.1 / 4) p.1 14 0 false) s (s.slotNeighbours c k)
theorem refs_only (c k n : Nat) : HistOnly s (s.refs c k n) := .times n fun _ => hist_only ..
theorem neighbourCmds_only (c k : Nat) : HistOnly s (s.neighbourCmds c k) := .fold _ fun _ _ => (hist_only ..).trans (hist_only ..)
theorem neighbourCmds_none (h : (s.chan c).neighbours = []) (k : Nat) : s.neighbourCmds c k = s := by
  rw [State.neighbourCmds, State.slotNeighbours, h]
  rfl
theorem refreshIssue_eq (hn : n ≠ 0) (c k : Nat) :
    s.refreshIssue c k n = ((s.refs c k n).neighbourCmds c k).modChan c (fun x => { x with neighbours := x.neighbours.filter (fun p => p.1 / 16 != k) }) := by
  rw [State.refreshIssue, if_neg hn]
  rfl
theorem refreshIssue_zero (c k : Nat) : s.refreshIssue c k 0 = s := by
  rw [State.refreshIssue, if_pos rfl]
  rfl
theorem refreshIssue_step (c k n : Nat) : RefreshStep c k s (s.refreshIssue c k n) := by
  by_cases hn : n = 0
  · rw [hn, refreshIssue_zero]
    exact .refl c k s
  · rw [refreshIssue_eq hn]
    exact (((refs_only c k n).trans (neighbourCmds_only c k)).refreshStep c k).trans (modChan_refreshStep rfl)
theorem refreshIssue_rank (c k n : Nat) : ((s.refreshIssue c k n).chan c).rank k = (s.chan c).rank k := by
  by_cases hn : n = 0
  · rw [hn, refreshIssue_zero]
  · rw [refreshIssue_eq hn, chan_modChan_same, ((refs_only c k n).trans (neighbourCmds_only c k)).chan c]
    rfl
theorem refreshForce_step (c k : Nat) : RefreshStep c k s (s.refreshForce c k) :=
  ((refreshIssue_step c k _).trans (owed_refreshStep c k fun _ => 0)).trans (count_refreshStep _)
theorem refreshForce_chan (c k : Nat) : (s.refreshForce c k).chan c = ((s.refreshIssue c k ((s.chan c).rank k).owed).chan c).modRank k fun r => { r with owed := 0 } := by
  unfold State.refreshForce
  dsimp only
  generalize s.refreshIssue c k ((s.chan c).rank k).owed = u
  exact (chan_of_dram (s := u.modChan c fun x => x.modRank k fun r => { r with owed := 0 }) rfl c).trans (chan_modChan_same ..)
theorem refreshForce_owed (c k : Nat) : (((s.refreshForce c k).chan c).rank k).owed = 0 := by
  rw [refreshForce_chan]
  rcases rank_modRank_cases ((s.refreshIssue c k ((s.chan c).rank k).owed).chan c) k fun r => { r with owed := 0 } with h | ⟨h, -⟩ <;> rw [h]
  rfl
theorem refreshIssue_regs (c k n : Nat) : (s.refreshIssue c k n).regs = s.regs := by
  by_cases hn : n = 0
  · rw [hn, refreshIssue_zero]
  · rw [refreshIssue_eq hn]
    exact ((refs_only c k n).trans (neighbourCmds_only c k)).keeps.part (p := .regs) (by simp)
theorem refreshForce_counted (c k : Nat) : counted (DRC_REF_FORCED c) ((s.chan c).rank k).owed s (s.refreshForce c k) := by
  unfold State.refreshForce
  generalize ((s.chan c).rank k).owed = n
  have hregs := refreshIssue_regs (s := s) c k n
  dsimp only
  generalize s.refreshIssue c k n = u at *
  exact counted_count (rd_of_regs hregs _)

/-! ## The commands of a refresh -/

theorem intervalChange_same {rank : Fin 4} (hsame : (((s.chan c).rank rank.val).hot || s.bit (DRC_POLICY c) 2) = ((s.chan c).rank rank.val).fast) :
    s.intervalChange c rank.val = s := by
  rw [State.intervalChange]
  exact if_pos hsame
theorem exec_refreshDue {ch : Fin 2} {rank : Fin 4} (hlive : ((s.chan ch.val).rank rank.val).st.live = true) (ht : s.intervalChange ch.val rank.val = t) :
    exec (.refreshDue ch rank) s = doneCore s (if t.rtQueued ch.val rank.val then
      (if 8 ≤ (((t.modChan ch.val (fun x => x.modRank rank.val (fun r => { r with owed := r.owed + 1 }))).chan ch.val).rank rank.val).owed
        then (t.modChan ch.val (fun x => x.modRank rank.val (fun r => { r with owed := r.owed + 1 }))).refreshForce ch.val rank.val
        else t.modChan ch.val (fun x => x.modRank rank.val (fun r => { r with owed := r.owed + 1 })))
      else t.refreshIssue ch.val rank.val 1) := by
  show execRefreshDue ch rank s = _
  unfold execRefreshDue
  dsimp only
  rw [if_neg (by simp [hlive]), ht]

/-- A refresh that is issued leaves the channel but its history, and the history begins with it. -/
theorem refreshIssue_idle (hidle : (s.chan c).neighbours = []) : HistOnly s (s.refreshIssue c k 1) ∧
    (s.dram.frozen = false → (((s.refreshIssue c k 1).chan c).hist.map (·.cmd)).head? = some (cmdWord 5 k 0 0 14 0 false)) := by
  have hrefs := refs_only (s := s) c k 1
  have heq : s.refreshIssue c k 1 = s.refs c k 1 := by
    have hempty : ((s.refs c k 1).chan c).neighbours = [] := by rw [hrefs.chan c]; exact hidle
    rw [refreshIssue_eq (by decide), neighbourCmds_none hempty]
    refine modChan_self ?_
    rw [hempty]
    exact congrArg (fun l => ({ (s.refs c k 1).chan c with neighbours := l } : Channel)) hempty.symm
  rw [heq]
  refine ⟨hrefs, fun hrun => ?_⟩
  show (((s.hist c 5 k 0 0 14 0 false).chan c).hist.map (·.cmd)).head? = _
  rw [hist_cmds hrun]
  rfl

theorem refWord : ∀ rank : Fin 4, cmdWord 5 rank.val 0 0 14 0 false = w32 (5 * 2 ^ 28 + rank.val * 2 ^ 26 + 14 * 2 ^ 18) := by decide

/-! ## A change of interval -/

/-- A change of interval at a rank: its flag and event stand, and refreshes change no more than the counts. -/
structure Interval (c k : Nat) (f : Bool) (s t : State) : Prop where
  fast : ((t.chan c).rank k).fast = f
  flag : t.bit (DRC_STAT c) 8 = true
  raised : raised 80 s t
  regs : regsKeep [DRC_STAT c, DRC_REF_FORCED c, DRC_REF_OVER c] s t
  mem : t.dram.mem = s.dram.mem
  keeps : keeps [.regs, .out, .mon, .sys, .dram] s t
theorem drc_regs : ∀ c : Fin 2, evtReg (DRC_REF_FORCED c.val) = false ∧ evtReg (DRC_REF_OVER c.val) = false ∧ evtReg (DRC_STAT c.val) = false ∧
    DRC_STAT c.val ≠ DRC_REF_FORCED c.val ∧ DRC_STAT c.val ≠ DRC_REF_OVER c.val := by decide
theorem evtReg_pends {e : Nat} (he : e < 128) : evtReg (EVT_PEND (e / 32)) = true := by
  cases h : evtReg (EVT_PEND (e / 32)) with
  | true => rfl
  | false => exact absurd rfl (evtReg_pend h he)
theorem raised.of_regsOnly {e : Nat} {as : List Nat} (h : raised e s t) (hr : regsOnly as t u) (hevt : ∀ a ∈ as, evtReg a = false) : raised e s u := fun hhere hup => by
  have hpend := evtReg_pends (eventHere_lt s hhere)
  exact (bit_of_rd (hr _ fun hmem => by rw [hevt _ hmem] at hpend; exact absurd hpend (by decide))).trans (h hhere hup)
theorem Interval.step {f : Bool} {c : Fin 2} (h : Interval c.val k f s t) (h' : RefreshStep c.val k t u) : Interval c.val k f s u := by
  obtain ⟨hforced, -, -, hne, -⟩ := drc_regs c
  exact ⟨h'.fast.trans h.fast, (bit_of_rd (h'.regs _ (by simp))).trans h.flag, h.raised.of_regsOnly h'.regs (by simp [hforced]),
    h.regs.trans (h'.regs.keep.mono (by simp)), h'.mem.trans h.mem, h.keeps.trans (h'.keeps.mono (by simp)) fun _ => id⟩
theorem Interval.over {f : Bool} {c : Fin 2} (h : Interval c.val k f s t) :
    Interval c.val k f s (((t.modChan c.val (fun x => { x with overTick := true })).count (DRC_REF_OVER c.val) 1).flagRaise (DRC_STAT c.val) 7 79) := by
  obtain ⟨-, hover, hstat, -, hne⟩ := drc_regs c
  have hfast : (((t.modChan c.val (fun x => { x with overTick := true })).chan c.val).rank k).fast = f := by rw [chan_modChan_same]; exact h.fast
  have hmem := (modChan_mem (s := t) c.val (fun x => { x with overTick := true })).trans h.mem
  have hk := h.keeps.trans (modChan_keeps c.val (fun x => { x with overTick := true })) (by simp)
  have hregs : (t.modChan c.val (fun x => { x with overTick := true })).regs = t.regs := rfl
  generalize t.modChan c.val (fun x => { x with overTick := true }) = u at *
  have hflag : (u.count (DRC_REF_OVER c.val) 1).bit (DRC_STAT c.val) 8 = true := (bit_of_rd ((rd_wr_ne _ _ hne).trans (rd_of_regs hregs _))).trans h.flag
  have hbut := flagRaise_only (u.count (DRC_REF_OVER c.val) 1) (DRC_STAT c.val) 7 79
  have hcount : ((u.count (DRC_REF_OVER c.val) 1).flagRaise (DRC_STAT c.val) 7 79).dram = u.dram := hbut.keeps.part (p := .dram) (by simp)
  exact ⟨(congrArg (fun x : Channel => (x.rank k).fast) (chan_of_dram hcount _)).trans hfast, (bit_raise hstat).trans (bit_flag_mono _ _ (by decide) hflag),
    (((h.raised.of_regs hregs).wr hover).wr hstat).raise, (((h.regs.of_regs hregs).count (by simp)).flagRaise (by simp)), (congrArg DramSt.mem hcount).trans hmem,
    (hk.count (by simp)).flagRaise (by simp)⟩
theorem flagRaise_interval {f : Bool} {c : Fin 2} (hfast : ((t.chan c.val).rank k).fast = f) (hmem : t.dram.mem = s.dram.mem) (hregs : t.regs = s.regs) (hk : keeps [.dram] s t) :
    Interval c.val k f s (t.flagRaise (DRC_STAT c.val) 8 80) := by
  obtain ⟨-, -, hstat, -, -⟩ := drc_regs c
  have hdram : (t.flagRaise (DRC_STAT c.val) 8 80).dram = t.dram := (flagRaise_only t _ _ _).keeps.part (p := .dram) (by simp)
  have hsys : t.sys = s.sys := hk.part (p := .sys) (by simp)
  exact ⟨(congrArg (fun x : Channel => (x.rank k).fast) (chan_of_dram hdram _)).trans hfast, flagRaise_bit _ _ _ _ hstat (by decide), raised_flagRaise hk.2.1 (by rw [hsys]),
    (regsKeep_of_regs hregs).flagRaise (by simp), (congrArg DramSt.mem hdram).trans hmem, (hk.mono (by simp)).flagRaise (by simp)⟩
theorem intervalChange_interval {c : Fin 2} {f : Bool} (hlive : ((s.chan c.val).rank k).st.live = true) (hf : (((s.chan c.val).rank k).hot || s.bit (DRC_POLICY c.val) 2) = f)
    (hne : f ≠ ((s.chan c.val).rank k).fast) : Interval c.val k f s (s.intervalChange c.val k) := by
  unfold State.intervalChange
  dsimp only
  rw [hf, if_neg hne]
  generalize (if f = true then 2 * ((s.chan c.val).rank k).owed else (((s.chan c.val).rank k).owed + 1) / 2) = n
  have hfast : (((s.setChan c.val ((s.chan c.val).modRank k fun r => { r with fast := f, owed := n })).chan c.val).rank k).fast = f := by
    rw [chan_setChan_same, rank_modRank_same hlive]
  have hint := flagRaise_interval hfast (modChan_mem (s := s) c.val fun x => x.modRank k fun r => { r with fast := f, owed := n }) rfl (setChan_keeps ..)
  generalize (s.setChan c.val ((s.chan c.val).modRank k fun r => { r with fast := f, owed := n })).flagRaise (DRC_STAT c.val) 8 80 = t at *
  split
  · exact (hint.step (refreshForce_step c.val k)).over
  · exact hint

/-! ## Temperature readings (R341) -/

/-- The reading of one live rank. -/
def State.hotRead (s : State) (c : Nat) (hot : List Bool) (k : Nat) : State :=
  (s.hist c 10 k 0 0 14 0 false).modChan c (fun x => x.modRank k (fun r => { r with hot := nth false hot k }))
/-- Only the histories and the temperatures of the channel's ranks differ. -/
structure TempStep (c : Nat) (s t : State) : Prop where
  ticks : (t.chan c).tempTicks = (s.chan c).tempTicks
  mem : t.dram.mem = s.dram.mem
  keeps : keeps [.dram] s t
theorem TempStep.trans (h : TempStep c s t) (h' : TempStep c t u) : TempStep c s u := ⟨h'.ticks.trans h.ticks, h'.mem.trans h.mem, h.keeps.trans h'.keeps fun _ => id⟩
theorem hotRead_step (c : Nat) (hot : List Bool) (k : Nat) : TempStep c s (s.hotRead c hot k) := by
  have hh := hist_only (s := s) c 10 k 0 0 14 0 false
  refine ⟨?_, (modChan_mem c _).trans hh.mem, hh.keeps.trans (modChan_keeps c _) fun _ => id⟩
  rw [State.hotRead, chan_modChan_same, hh.chan c]
  rfl
theorem hotRead_rank (c : Nat) (hot : List Bool) (hlive : ((s.chan c).rank k).st.live = true) : ((s.hotRead c hot k).chan c).rank k = { (s.chan c).rank k with hot := nth false hot k } := by
  have hrank : ((s.hist c 10 k 0 0 14 0 false).chan c).rank k = (s.chan c).rank k := by rw [(hist_only (s := s) c 10 k 0 0 14 0 false).chan c]; rfl
  rw [State.hotRead, chan_modChan_same, rank_modRank_same (by rw [hrank]; exact hlive), hrank]
theorem hotRead_other (c : Nat) (hot : List Bool) (h : j ≠ k) : ((s.hotRead c hot k).chan c).rank j = (s.chan c).rank j := by
  rw [State.hotRead, chan_modChan_same, rank_modRank_ne h, (hist_only (s := s) c 10 k 0 0 14 0 false).chan c]
  rfl
/-- A list of different ranks is read one after another; each live one of it takes its status. -/
theorem hotReads {live : Nat → Bool} {hot : List Bool} (l : List Nat) (hl : l.Nodup) :
    TempStep c s (foldS (fun t k => if !live k then t else t.hotRead c hot k) s l) ∧
    (∀ k, k ∉ l → ((foldS (fun t k => if !live k then t else t.hotRead c hot k) s l).chan c).rank k = (s.chan c).rank k) ∧
    (∀ k ∈ l, live k = true → ((s.chan c).rank k).st.live = true → ((foldS (fun t k => if !live k then t else t.hotRead c hot k) s l).chan c).rank k = { (s.chan c).rank k with hot := nth false hot k }) := by
  induction l generalizing s with
  | nil => exact ⟨⟨rfl, rfl, keeps.refl _ _⟩, fun _ _ => rfl, fun _ h => absurd h List.not_mem_nil⟩
  | cons a as ih =>
    obtain ⟨ha, has⟩ := List.nodup_cons.mp hl
    have hfirst : TempStep c s (if !live a then s else s.hotRead c hot a) ∧ (∀ k, k ≠ a → ((if !live a then s else s.hotRead c hot a).chan c).rank k = (s.chan c).rank k) ∧
        (live a = true → ((s.chan c).rank a).st.live = true → ((if !live a then s else s.hotRead c hot a).chan c).rank a = { (s.chan c).rank a with hot := nth false hot a }) := by
      cases live a with
      | false => exact ⟨⟨rfl, rfl, keeps.refl _ _⟩, fun _ _ => rfl, fun h => absurd h (by decide)⟩
      | true => exact ⟨hotRead_step c hot a, fun _ h => hotRead_other c hot h, fun _ h => hotRead_rank c hot h⟩
    obtain ⟨hstep, hother, hself⟩ := hfirst
    obtain ⟨hsteps, hothers, hin⟩ := ih (s := if !live a then s else s.hotRead c hot a) has
    refine ⟨hstep.trans hsteps, fun k hk => ?_, fun k hk hread hlive => ?_⟩
    · obtain ⟨hka, hkas⟩ := not_or.mp fun h => hk (List.mem_cons.mpr h)
      exact (hothers k hkas).trans (hother k hka)
    · rcases List.mem_cons.mp hk with rfl | hkas
      · exact (hothers k ha).trans (hself hread hlive)
      · have hne : k ≠ a := fun h => ha (h ▸ hkas)
        rw [← hother k hne]
        exact hin k hkas hread (by rw [hother k hne]; exact hlive)

/-- Settles O37: a refresh that falls due is issued, owed or forced by what is queued; a change of interval raises its event before it. -/
theorem dramRefresh : Obligations.DramRefresh := by
  unfold Obligations.DramRefresh
  intro s ch rank n hot
  refine ⟨?_, ?_, ?_, ?_, ?_, ?_, ?_⟩
  · intro hlive hsame hrt hidle
    have hexec := exec_refreshDue hlive (intervalChange_same hsame)
    rw [if_neg (by rw [hrt]; decide)] at hexec
    obtain ⟨honly, hfirst⟩ := refreshIssue_idle (k := rank.val) hidle
    generalize s.refreshIssue ch.val rank.val 1 = t at *
    exact leads_doneCore hexec ⟨honly.chan _, honly.keeps.answered, honly.mem, fun hrun => (hfirst hrun).trans (congrArg some (refWord rank))⟩
  · intro hlive hsame hrt howed
    have hexec := exec_refreshDue hlive (intervalChange_same hsame)
    have hchan := chan_modChan_same s ch.val fun x => x.modRank rank.val fun r => { r with owed := r.owed + 1 }
    have hmem := modChan_mem (s := s) ch.val fun x => x.modRank rank.val fun r => { r with owed := r.owed + 1 }
    have hk := modChan_keeps (s := s) ch.val fun x => x.modRank rank.val fun r => { r with owed := r.owed + 1 }
    rw [if_pos hrt, hchan, rank_modRank_same hlive, if_neg (by dsimp only; omega)] at hexec
    generalize s.modChan ch.val (fun x => x.modRank rank.val fun r => { r with owed := r.owed + 1 }) = t at *
    exact leads_doneCore hexec ⟨hchan, hk.answered, hmem⟩
  · intro hlive hsame hrt howed
    have hexec := exec_refreshDue hlive (intervalChange_same hsame)
    have hchan := chan_modChan_same s ch.val fun x => x.modRank rank.val fun r => { r with owed := r.owed + 1 }
    have hstep := owed_refreshStep (s := s) ch.val rank.val (· + 1)
    have hregs : (s.modChan ch.val (fun x => x.modRank rank.val fun r => { r with owed := r.owed + 1 })).regs = s.regs := rfl
    have hrank : ((s.modChan ch.val (fun x => x.modRank rank.val fun r => { r with owed := r.owed + 1 })).chan ch.val).rank rank.val =
        { (s.chan ch.val).rank rank.val with owed := ((s.chan ch.val).rank rank.val).owed + 1 } := by rw [hchan, rank_modRank_same hlive]
    rw [if_pos hrt, hrank, if_pos (by dsimp only; omega)] at hexec
    generalize s.modChan ch.val (fun x => x.modRank rank.val fun r => { r with owed := r.owed + 1 }) = t at *
    have hforce := hstep.trans (refreshForce_step ch.val rank.val)
    have hcount := refreshForce_counted (s := t) ch.val rank.val
    have howed0 := refreshForce_owed (s := t) ch.val rank.val
    rw [hrank] at hcount
    unfold counted at hcount
    rw [rd_of_regs hregs] at hcount
    generalize t.refreshForce ch.val rank.val = u at *
    exact leads_doneCore hexec ⟨howed0, hcount, hforce.regs, hforce.keeps.answered, hforce.mem⟩
  · intro hlive hne
    have hint := intervalChange_interval hlive rfl hne
    have hexec := exec_refreshDue (s := s) hlive rfl
    generalize s.intervalChange ch.val rank.val = t at *
    have hdone : Interval ch.val rank.val (((s.chan ch.val).rank rank.val).hot || s.bit (DRC_POLICY ch.val) 2) s (if t.rtQueued ch.val rank.val then
      (if 8 ≤ (((t.modChan ch.val (fun x => x.modRank rank.val (fun r => { r with owed := r.owed + 1 }))).chan ch.val).rank rank.val).owed
        then (t.modChan ch.val (fun x => x.modRank rank.val (fun r => { r with owed := r.owed + 1 }))).refreshForce ch.val rank.val
        else t.modChan ch.val (fun x => x.modRank rank.val (fun r => { r with owed := r.owed + 1 })))
      else t.refreshIssue ch.val rank.val 1) := by
      have howed := hint.step (owed_refreshStep ch.val rank.val (· + 1))
      split
      · split
        · exact howed.step (refreshForce_step ..)
        · exact howed
      · exact hint.step (refreshIssue_step ..)
    generalize (if t.rtQueued ch.val rank.val then _ else _) = u at *
    exact leads_doneCore hexec ⟨hdone.fast, hdone.flag, hdone.raised, hdone.regs, hdone.keeps.answered, hdone.mem⟩
  · intro hrt
    have hexec : exec (.owedRefreshIssue ch rank n) s = doneCore s ((s.refreshIssue ch.val rank.val (min n ((s.chan ch.val).rank rank.val).owed)).modChan ch.val
        fun x => x.modRank rank.val fun r => { r with owed := r.owed - min n ((s.chan ch.val).rank rank.val).owed }) := by
      show execOwedRefreshIssue ch rank n s = _
      unfold execOwedRefreshIssue
      dsimp only
      rw [if_neg (by rw [hrt]; decide)]
    have hrank := refreshIssue_rank (s := s) ch.val rank.val (min n ((s.chan ch.val).rank rank.val).owed)
    have hstep := refreshIssue_step (s := s) ch.val rank.val (min n ((s.chan ch.val).rank rank.val).owed)
    have hk : keeps [.dram] s (s.refreshIssue ch.val rank.val (min n ((s.chan ch.val).rank rank.val).owed)) :=
      ⟨hstep.keeps.1, hstep.keeps.2.1, fun p hp => by
        by_cases hr : p = .regs
        · exact hr ▸ refreshIssue_regs ..
        · exact hstep.keeps.2.2 p (by simpa [hr] using hp)⟩
    have hmem := hstep.mem
    generalize s.refreshIssue ch.val rank.val (min n ((s.chan ch.val).rank rank.val).owed) = t at *
    have howed : (((t.modChan ch.val fun x => x.modRank rank.val fun r => { r with owed := r.owed - min n ((s.chan ch.val).rank rank.val).owed }).chan ch.val).rank rank.val).owed =
        ((s.chan ch.val).rank rank.val).owed - n := by
      rw [chan_modChan_same]
      rcases rank_modRank_cases (t.chan ch.val) rank.val fun r => { r with owed := r.owed - min n ((s.chan ch.val).rank rank.val).owed } with h | ⟨h, hnone⟩
      · rw [h, hrank]
        dsimp only
        omega
      · rw [h, ← hrank, hnone]
        exact (Nat.zero_sub n).symm
    have hk' := hk.trans (modChan_keeps (s := t) ch.val fun x => x.modRank rank.val fun r => { r with owed := r.owed - min n ((s.chan ch.val).rank rank.val).owed }) fun _ => id
    have hmem' := (modChan_mem (s := t) ch.val fun x => x.modRank rank.val fun r => { r with owed := r.owed - min n ((s.chan ch.val).rank rank.val).owed }).trans hmem
    generalize t.modChan ch.val (fun x => x.modRank rank.val fun r => { r with owed := r.owed - min n ((s.chan ch.val).rank rank.val).owed }) = u at *
    exact leads_doneCore hexec ⟨howed, hk'.answered, hmem'⟩
  · intro hticks
    have hexec : exec (.dramTempRead ch hot) s = doneCore s (foldS (fun t k => if !((s.chan ch.val).rank k).st.live then t else t.hotRead ch.val hot k)
        (s.modChan ch.val fun x => { x with tempTicks := 0 }) (upFrom 0 4)) := by
      show execDramTempRead ch hot s = _
      unfold execDramTempRead
      rw [if_pos hticks]
      rfl
    have hzero := congrArg Channel.tempTicks (chan_modChan_same s ch.val fun x => { x with tempTicks := 0 })
    have hranks : ∀ k, ((s.modChan ch.val fun x => { x with tempTicks := 0 }).chan ch.val).rank k = (s.chan ch.val).rank k := fun k => by rw [chan_modChan_same]; rfl
    have hk := modChan_keeps (s := s) ch.val fun x => { x with tempTicks := 0 }
    have hmem := modChan_mem (s := s) ch.val fun x => { x with tempTicks := 0 }
    generalize s.modChan ch.val (fun x => { x with tempTicks := 0 }) = t at *
    obtain ⟨hstep, -, hread⟩ := hotReads (s := t) (c := ch.val) (live := fun k => ((s.chan ch.val).rank k).st.live) (hot := hot) (upFrom 0 4) (by decide)
    generalize foldS (fun t k => if !((s.chan ch.val).rank k).st.live then t else t.hotRead ch.val hot k) t (upFrom 0 4) = u at *
    refine leads_doneCore hexec ⟨hstep.ticks.trans hzero, fun k hlive => ?_, (hk.trans hstep.keeps fun _ => id).answered, hstep.mem.trans hmem⟩
    rw [← hranks k.val]
    exact hread k.val (by simp [mem_upFrom, k.isLt]) hlive (by rw [hranks]; exact hlive)
  · intro hticks
    show execDramTempRead ch hot s = _
    unfold execDramTempRead
    rw [if_neg (Nat.not_le.mpr hticks)]
    rfl

end Sys2Proof.Machine
end

section
/-! SUPPORT. Calibration and retraining of the ranks (R338). -/

namespace Sys2Proof.Machine

variable {s t u : State} {c d k j n : Nat} {x : Channel}

/-- Calibrations leave the channel but its history; a rank's command stays in the history while no more than 64 commands follow. -/
theorem zqCalibrate_only (c : Nat) : HistOnly s (s.zqCalibrate c) := by
  refine .fold _ fun t k => ?_
  split
  · exact hist_only ..
  · exact .refl t
theorem hist_mem {w : W32} (hrun : s.dram.frozen = false) {m : Nat} (h : w ∈ ((s.chan c).hist.map (·.cmd)).take m) (hm : m < 64) (cmd rank bg bank master addr : Nat) (alert : Bool) :
    w ∈ (((s.hist c cmd rank bg bank master addr alert).chan c).hist.map (·.cmd)).take (m + 1) := by
  rw [hist_cmds hrun, List.take_take, Nat.min_eq_left (by omega)]
  exact List.mem_cons_of_mem _ h
/-- A command enters the history's front and is moved back by one place for each later one. -/
theorem calibrations_mem {live : Nat → Bool} (hlive : live k = true) : ∀ (l : List Nat) (t : State) (m : Nat), t.dram.frozen = false → m + l.length ≤ 64 →
    k ∈ l ∨ cmdWord 7 k 0 0 14 0 false ∈ ((t.chan c).hist.map (·.cmd)).take m →
    cmdWord 7 k 0 0 14 0 false ∈ (((foldS (fun t k => if live k then t.hist c 7 k 0 0 14 0 false else t) t l).chan c).hist.map (·.cmd)).take (m + l.length)
  | [], t, m, _, _, h => h.elim (fun h => absurd h List.not_mem_nil) id
  | a :: as, t, m, hrun, hm, h => by
    have hlen : m + (a :: as).length = m + 1 + as.length := by rw [List.length_cons]; omega
    rw [hlen] at hm ⊢
    have hrun' : (if live a then t.hist c 7 a 0 0 14 0 false else t).dram.frozen = false := by
      split
      · rw [(hist_only ..).frozen, hrun]
      · exact hrun
    refine calibrations_mem hlive as _ (m + 1) hrun' hm ?_
    dsimp only
    rcases h with hmem | hmem
    · rcases List.mem_cons.mp hmem with rfl | htail
      · right
        rw [if_pos hlive, hist_cmds hrun, List.take_take, Nat.min_eq_left (by omega)]
        exact List.mem_cons_self
      · exact .inl htail
    · right
      split
      · exact hist_mem hrun hmem (by omega) ..
      · exact List.take_subset_take_left _ (Nat.le_succ m) hmem
theorem zqWord : ∀ rank : Fin 4, cmdWord 7 rank.val 0 0 14 0 false = w32 (7 * 2 ^ 28 + rank.val * 2 ^ 26 + 14 * 2 ^ 18) := by decide
theorem zqCalibrate_mem {rank : Fin 4} (hrun : s.dram.frozen = false) (hlive : ((s.chan c).rank rank.val).st.live = true) :
    w32 (7 * 2 ^ 28 + rank.val * 2 ^ 26 + 14 * 2 ^ 18) ∈ ((s.zqCalibrate c).chan c).hist.map (·.cmd) := by
  have h := calibrations_mem (c := c) (live := fun k => ((s.chan c).rank k).st.live) hlive (upFrom 0 4) s 0 hrun (by decide) (.inl (by simp [mem_upFrom, rank.isLt]))
  rw [zqWord] at h
  exact List.mem_of_mem_take h

/-! ## Retraining -/

theorem lt_of_nextRank : ∀ {n i k : Nat}, nextRank x n i = some k → (x.rank k).st.live = true
  | _ + 1, i, k, h => by
    unfold nextRank at h
    split at h
    · rename_i hlive
      exact Option.some.inj h ▸ hlive
    · exact lt_of_nextRank h
/-- The retrained channel: the rank's settings, and the turn passes on. -/
def Channel.trained (x : Channel) (k : Nat) (r : Rank) : Channel := { x.modRank k (fun _ => r) with trainNext := (k + 1) % 4, trainTicks := 0 }
theorem trained_rank (r : Rank) (h : (x.rank k).st.live = true) : (x.trained k r).rank k = r := rank_modRank_same (f := fun _ => r) h
theorem trained_other (r : Rank) (h : j ≠ k) : (x.trained k r).rank j = x.rank j := rank_modRank_ne (f := fun _ => r) h
theorem exec_retrain {ch : Fin 2} {k : Nat} (ok : Bool) (readWin writeWin lane : Nat) (hnext : nextRank (s.chan ch.val) 4 (s.chan ch.val).trainNext = some k) : exec (.retrain ch ok readWin writeWin lane) s =
    doneCore s (if s.dram.frozen ∨ (s.chan ch.val).trainTicks + 1 < 3000 * (s.chan ch.val).trainEff ∨ 0 < ((s.chan ch.val).rank k).owed then s else s.retrain ch.val k ok readWin writeWin lane) := by
  show execRetrain ch ok readWin writeWin lane s = _
  unfold execRetrain
  simp only [hnext]
theorem exec_retrain_due {ch : Fin 2} {k : Nat} (ok : Bool) (readWin writeWin lane : Nat) (hnext : nextRank (s.chan ch.val) 4 (s.chan ch.val).trainNext = some k) (hrun : s.dram.frozen = false)
    (hdue : 3000 * (s.chan ch.val).trainEff ≤ (s.chan ch.val).trainTicks + 1) (howed : ((s.chan ch.val).rank k).owed = 0) :
    exec (.retrain ch ok readWin writeWin lane) s = doneCore s (s.retrain ch.val k ok readWin writeWin lane) := by
  rw [exec_retrain ok readWin writeWin lane hnext, if_neg]
  rw [hrun]
  simp only [Bool.false_eq_true, false_or]
  omega
theorem retrain_ok (c k readWin writeWin lane : Nat) : s.retrain c k true readWin writeWin lane =
    s.setChan c ((s.chan c).trained k { (s.chan c).rank k with readWin := readWin % 256, writeWin := writeWin % 256, lane := lane % 16, lkg := false, lastTrain := s.tickLo }) := rfl
theorem setChan_setChan (x y : Channel) : (s.setChan c x).setChan c y = s.setChan c y := by
  unfold State.setChan
  split <;> rfl
theorem setChan_ranksW (c : Nat) (y : Channel) : (s.setChan c y).dram.ranksW = s.dram.ranksW := (congrArg DramSt.ranksW (setChan_channels (s := s) c y) :)
theorem setNth_setNth {α : Type} (v w : α) (xs : List α) (k : Nat) : setNth (setNth xs k v) k w = setNth xs k w := by
  rw [setNth_eq_set, setNth_eq_set, setNth_eq_set, List.set_set]
/-- What a failed retraining makes of the rank in the end: the last settings stay, and the rank is SUSPECT. -/
theorem suspected_channel (hst : (x.rank k).st = .inService) (w : W32) :
    ({ x.modRank k (fun r => { r with lkg := true, lastTrain := w }) with trainNext := (k + 1) % 4, trainTicks := 0 } : Channel).modRank k (fun r => { r with st := .suspect }) =
      x.trained k { x.rank k with st := .suspect, lkg := true, lastTrain := w } := by
  have hrank : ({ x.modRank k (fun r => { r with lkg := true, lastTrain := w }) with trainNext := (k + 1) % 4, trainTicks := 0 } : Channel).rank k =
      { x.rank k with lkg := true, lastTrain := w } := rank_modRank_same (f := fun r => { r with lkg := true, lastTrain := w }) (by rw [hst]; rfl)
  rw [Channel.modRank, hrank]
  exact congrArg (fun rs => { x with ranks := rs, trainNext := (k + 1) % 4, trainTicks := 0 }) (setNth_setNth ..)
/-- Without a working setting the rank becomes SUSPECT, which is counted, and nothing else follows where no spare can take it. -/
theorem retrain_fails (hst : ((s.chan c).rank k).st = .inService) (hspare : s.dram.ranksW ≠ 4) (readWin writeWin lane : Nat) : s.retrain c k false readWin writeWin lane =
    ((s.setChan c ((s.chan c).trained k { (s.chan c).rank k with st := .suspect, lkg := true, lastTrain := s.tickLo })).count (DRC_TRAIN_FAILS c) 1).flagRaise (DRC_STAT c) 4 76 := by
  have hrank : ({ (s.chan c).modRank k (fun r => { r with lkg := true, lastTrain := s.tickLo }) with trainNext := (k + 1) % 4, trainTicks := 0 } : Channel).rank k =
      { (s.chan c).rank k with lkg := true, lastTrain := s.tickLo } := rank_modRank_same (f := fun r => { r with lkg := true, lastTrain := s.tickLo }) (by rw [hst]; rfl)
  have hchan := suspected_channel (x := s.chan c) hst s.tickLo
  have hfirst : s.modChan c (fun x => { x.modRank k (fun r => if false = true then { r with readWin := readWin % 256, writeWin := writeWin % 256, lane := lane % 16, lkg := false, lastTrain := s.tickLo }
      else { r with lkg := true, lastTrain := s.tickLo }) with trainNext := (k + 1) % 4, trainTicks := 0 }) =
      s.setChan c { (s.chan c).modRank k (fun r => { r with lkg := true, lastTrain := s.tickLo }) with trainNext := (k + 1) % 4, trainTicks := 0 } := rfl
  unfold State.retrain
  dsimp only
  rw [hfirst, if_neg (by decide)]
  generalize ({ (s.chan c).modRank k (fun r => { r with lkg := true, lastTrain := s.tickLo }) with trainNext := (k + 1) % 4, trainTicks := 0 } : Channel) = y at *
  have hst' : (y.rank k).st = .inService := by rw [hrank]; exact hst
  rw [State.modChan, chan_setChan_same, setChan_setChan, hst', ← hchan]
  exact if_neg (by rw [(flagRaise_only _ _ _ _).keeps.part (p := .dram) (by simp)]; exact fun h => hspare ((setChan_ranksW ..).symm.trans h))

theorem trainFails_reg : ∀ c : Fin 2, evtReg (DRC_TRAIN_FAILS c.val) = false ∧ evtReg (DRC_STAT c.val) = false ∧ DRC_STAT c.val ≠ DRC_TRAIN_FAILS c.val := by decide
/-- The channel of a rank that has been retrained. -/
structure Trained (c k : Nat) (r : Rank) (s t : State) : Prop where
  rank : (t.chan c).rank k = r
  next : (t.chan c).trainNext = (k + 1) % 4
  ticks : (t.chan c).trainTicks = 0
  others : ∀ j, j ≠ k → (t.chan c).rank j = (s.chan c).rank j
  mem : t.dram.mem = s.dram.mem
  keeps : keeps [.dram] s t
theorem setChan_trained (r : Rank) (hlive : ((s.chan c).rank k).st.live = true) : Trained c k r s (s.setChan c ((s.chan c).trained k r)) := by
  have hchan := chan_setChan_same s c ((s.chan c).trained k r)
  exact ⟨by rw [hchan]; exact trained_rank r hlive, by rw [hchan]; rfl, by rw [hchan]; rfl, fun j hj => by rw [hchan]; exact trained_other r hj,
    (congrArg DramSt.mem (setChan_channels (s := s) c _) :), setChan_keeps ..⟩

/-- Settles O38: a calibration adds a command to the history; a retraining changes the rank whose turn it is. -/
theorem dramTraining : Obligations.DramTraining := by
  unfold Obligations.DramTraining
  intro s ch k readWin writeWin lane
  refine ⟨?_, ?_, ?_, ?_, ?_⟩
  · intro hticks
    have hexec : exec (.zqCalibration ch) s = doneCore s ((s.zqCalibrate ch.val).modChan ch.val fun x => { x with zqTicks := 384 }) := congrArg (doneCore s) (if_pos hticks)
    have honly := zqCalibrate_only (s := s) ch.val
    have hmem : s.dram.frozen = false → ((s.chan ch.val).rank k.val).st.live = true → _ := zqCalibrate_mem (s := s) (c := ch.val) (rank := k)
    generalize s.zqCalibrate ch.val = t at *
    have hchan := chan_modChan_same t ch.val fun x => { x with zqTicks := 384 }
    have hk := honly.keeps.trans (modChan_keeps (s := t) ch.val fun x => { x with zqTicks := 384 }) fun _ => id
    have hbytes := (modChan_mem (s := t) ch.val fun x => { x with zqTicks := 384 }).trans honly.mem
    generalize t.modChan ch.val (fun x => { x with zqTicks := 384 }) = u at *
    have hhist : (u.chan ch.val).hist = (t.chan ch.val).hist := by rw [hchan]
    refine leads_doneCore hexec ⟨?_, hk.answered, hbytes, fun hrun hlive => ?_⟩
    · show u.chan ch.val = { s.chan ch.val with hist := (u.chan ch.val).hist, zqTicks := 384 }
      rw [hhist, hchan]
      exact congrArg (fun x : Channel => { x with zqTicks := 384 }) (honly.chan ch.val)
    · show _ ∈ (u.chan ch.val).hist.map (·.cmd)
      rw [hhist]
      exact hmem hrun hlive
  · intro hticks
    show execZqCalibration ch s = _
    unfold execZqCalibration
    rw [if_neg hticks]
    rfl
  · intro hnext hrun hdue howed
    have hexec := exec_retrain_due true readWin writeWin lane hnext hrun hdue howed
    have hlive := lt_of_nextRank hnext
    rw [retrain_ok] at hexec
    have ht := setChan_trained { (s.chan ch.val).rank k.val with readWin := readWin % 256, writeWin := writeWin % 256, lane := lane % 16, lkg := false, lastTrain := s.tickLo } hlive
    generalize s.setChan ch.val ((s.chan ch.val).trained k.val { (s.chan ch.val).rank k.val with readWin := readWin % 256, writeWin := writeWin % 256, lane := lane % 16, lkg := false, lastTrain := s.tickLo }) = t at *
    exact leads_doneCore hexec ⟨ht.rank, ht.next, ht.ticks, fun j hj => ht.others j.val fun h => hj (Fin.ext h), ht.keeps.answered, ht.mem⟩
  · intro hnext hrun hdue howed hspare hst
    have hexec := exec_retrain_due false readWin writeWin lane hnext hrun hdue howed
    have hlive := lt_of_nextRank hnext
    rw [retrain_fails hst hspare] at hexec
    have ht := setChan_trained { (s.chan ch.val).rank k.val with st := .suspect, lkg := true, lastTrain := s.tickLo } hlive
    have hregs : (s.setChan ch.val ((s.chan ch.val).trained k.val { (s.chan ch.val).rank k.val with st := .suspect, lkg := true, lastTrain := s.tickLo })).regs = s.regs := rfl
    generalize s.setChan ch.val ((s.chan ch.val).trained k.val { (s.chan ch.val).rank k.val with st := .suspect, lkg := true, lastTrain := s.tickLo }) = t at *
    obtain ⟨hfails, hstat, hne⟩ := trainFails_reg ch
    have hdram : ((t.count (DRC_TRAIN_FAILS ch.val) 1).flagRaise (DRC_STAT ch.val) 4 76).dram = t.dram := (flagRaise_only _ _ _ _).keeps.part (p := .dram) (by simp)
    have hchan := chan_of_dram hdram ch.val
    have hsys : t.sys = s.sys := ht.keeps.part (p := .sys) (by simp)
    have hcount : counted (DRC_TRAIN_FAILS ch.val) 1 s ((t.count (DRC_TRAIN_FAILS ch.val) 1).flagRaise (DRC_STAT ch.val) 4 76) := (counted_count (rd_of_regs hregs _)).flagRaise hne.symm hfails
    have hraised : raised 76 s ((t.count (DRC_TRAIN_FAILS ch.val) 1).flagRaise (DRC_STAT ch.val) 4 76) := raised_flagRaise (t := t.count (DRC_TRAIN_FAILS ch.val) 1) ht.keeps.2.1 (congrArg SysSt.answering hsys)
    have hbit : ((t.count (DRC_TRAIN_FAILS ch.val) 1).flagRaise (DRC_STAT ch.val) 4 76).bit (DRC_STAT ch.val) 4 = true := flagRaise_bit _ _ _ _ hstat (by decide)
    have hkeep : regsKeep [DRC_STAT ch.val, DRC_TRAIN_FAILS ch.val] s ((t.count (DRC_TRAIN_FAILS ch.val) 1).flagRaise (DRC_STAT ch.val) 4 76) := ((regsKeep_of_regs hregs).count (by simp)).flagRaise (by simp)
    have hk : keeps [.regs, .out, .mon, .sys, .dram] s ((t.count (DRC_TRAIN_FAILS ch.val) 1).flagRaise (DRC_STAT ch.val) 4 76) := ((ht.keeps.mono (by simp)).count (by simp)).flagRaise (by simp)
    generalize (t.count (DRC_TRAIN_FAILS ch.val) 1).flagRaise (DRC_STAT ch.val) 4 76 = u at *
    refine leads_doneCore hexec ⟨?_, ?_, ?_, hcount, hbit, hraised, hkeep, hk.answered, (congrArg DramSt.mem hdram).trans ht.mem⟩
    · exact (congrArg Channel.trainTicks hchan).trans ht.ticks
    · exact (congrArg Channel.trainNext hchan).trans ht.next
    · exact (congrArg (fun x : Channel => x.rank k.val) hchan).trans ht.rank
  · intro hnext hwhy
    rw [exec_retrain true readWin writeWin lane hnext, if_pos hwhy]
    rfl

end Sys2Proof.Machine
end

section
/-! SUPPORT. A flag with its event, and a count before them: what the two leave of the state they report on. -/

namespace Sys2Proof.Machine

variable {s t u : State} {a b i e n : Nat} {as : List Nat} {ps : List Part}

/-- A state that has the registers of s but for the named ones, and to which an event may be added. -/
structure Quiet (as : List Nat) (s u : State) : Prop where
  regs : regsOnly as s u
  fit : u.fit = s.fit
  answering : u.sys.answering = s.sys.answering
theorem Quiet.refl (s : State) : Quiet [] s s := ⟨.refl _ _, rfl, rfl⟩
theorem keeps.quiet (h : keeps ps s u) (hregs : .regs ∉ ps) (hsys : .sys ∉ ps) : Quiet [] s u :=
  ⟨regsOnly_of_regs (h.part (p := .regs) hregs), h.2.1, congrArg SysSt.answering (h.part (p := .sys) hsys)⟩
theorem keeps.quietBut (h : keeps ps s u) (hsys : .sys ∉ ps) (hregs : regsOnly as s u) : Quiet as s u :=
  ⟨hregs, h.2.1, congrArg SysSt.answering (h.part (p := .sys) hsys)⟩

/-- What a flag with its event leaves of a state u. -/
structure Noted (as : List Nat) (b i e : Nat) (s u t : State) : Prop where
  bit : t.bit b i = true
  raised : raised e s t
  regs : regsKeep (b :: as) s t
  only : evtOnly u t
theorem Quiet.noted (h : Quiet as s u) (hb : evtReg b = false) (hi : i < 32) (e : Nat) : Noted as b i e s u (u.flagRaise b i e) :=
  ⟨flagRaise_bit _ _ _ _ hb hi, raised_flagRaise h.fit h.answering, (h.regs.keep.mono (by simp)).flagRaise (by simp), flagRaise_only _ _ _ _⟩
/-- What a count and a flag with its event leave of a state u. -/
structure Reported (as : List Nat) (a n b i e : Nat) (s u t : State) : Prop where
  counted : counted a n s t
  bit : t.bit b i = true
  raised : raised e s t
  regs : regsKeep (a :: b :: as) s t
  only : evtOnly u t
theorem Quiet.reported (h : Quiet as s u) (ha : evtReg a = false) (hb : evtReg b = false) (hne : a ≠ b) (hi : i < 32) (hmem : a ∉ as) (n e : Nat) :
    Reported as a n b i e s u ((u.count a n).flagRaise b i e) :=
  ⟨(counted_count (h.regs _ hmem)).flagRaise hne ha, flagRaise_bit _ _ _ _ hb hi, raised_flagRaise (t := u.count a n) h.fit h.answering,
    ((h.regs.keep.mono (fun _ h => by simp [h])).count (by simp)).flagRaise (by simp), (evtOnly_wr _ _ _).trans (flagRaise_only _ _ _ _)⟩
theorem Noted.keeps (h : Noted as b i e s u t) (hk : keeps ps s u) (hsub : [.regs, .out, .mon, .sys] ⊆ ps) : keeps ps s t := hk.evt hsub h.only
theorem Reported.keeps (h : Reported as a n b i e s u t) (hk : keeps ps s u) (hsub : [.regs, .out, .mon, .sys] ⊆ ps) : keeps ps s t := hk.evt hsub h.only

end Sys2Proof.Machine
end

section
/-! SUPPORT. Network time's settings and the pulse outputs (R314, R320, R322, R324, R325). -/

namespace Sys2Proof.Machine

variable {s t : State} {v w : W32} {p j k : Nat}

theorem bit_wr_self (a i : Nat) (v : W32) : (s.wr a v).bit a i = bitOf v i := congrArg (bitOf · i) (rd_wr_same s a v)
theorem toNat_cat64 (h l : W32) : (cat64 h l).toNat = h.toNat * 2 ^ 32 + l.toNat := by
  have hh := h.isLt
  have hl := l.isLt
  exact (BitVec.toNat_ofNat ..).trans (Nat.mod_eq_of_lt (by omega))

/-! ## A pulse output -/

theorem modPulse_sameBut (p : Nat) (f : Pps → Pps) : sameBut [p] ppsInit s.pps (s.modPulse p f).pps := fun _ ha => spGet_spPut_ne _ _ _ fun h => ha (by simp [h])
theorem modPulse_keeps (p : Nat) (f : Pps → Pps) : keeps [.pps] s (s.modPulse p f) := by simp [keeps_iff, State.modPulse]
theorem modTim_keeps (f : TimSt → TimSt) : keeps [.tim] s (s.modTim f) := by simp [keeps_iff, State.modTim]
theorem pulse_of_pps (h : t.pps = s.pps) (p : Nat) : t.pulse p = s.pulse p := congrArg (spGet ppsInit · p) h
theorem evtReg_pulse : ∀ p : Fin 4, evtReg (PPS_COUNT p.val) = false ∧ evtReg (PPS_STATE p.val) = false ∧ PPS_COUNT p.val ≠ PPS_STATE p.val ∧
    PPS_COUNT p.val ≠ PPS_CTL p.val := by decide
theorem pulse_setup_apart : ∀ p : Fin 4, ∀ a ∈ [PPS_START_NS p.val, PPS_PERIOD p.val, PPS_WIDTH p.val, PPS_START_SHI p.val, PPS_START_SLO p.val], a ≠ PPS_CTL p.val := by
  decide

/-- A pulse output at rest, its schedule as it was. -/
def Pps.rest (x : Pps) : Pps := { x with active := false }
theorem ppsStep_unarmed (h : (s.pulse p).armed = false) : s.ppsStep p = s.modPulse p Pps.rest := by
  have hp : (s.modPulse p Pps.rest).pulse p = (s.pulse p).rest := pulse_modPulse_same ..
  have hpassed : ((s.modPulse p Pps.rest).pulse p).passed (s.modPulse p Pps.rest).tim.now = none := by
    rw [hp]
    exact if_pos (by simp [Pps.rest, h])
  show (match ((s.modPulse p Pps.rest).pulse p).passed (s.modPulse p Pps.rest).tim.now with
    | some k => (s.modPulse p Pps.rest).ppsProduce p k true
    | none => s.modPulse p Pps.rest) = _
  rw [hpassed]
theorem pulse_modPulse_rest (p j : Nat) : (s.modPulse p Pps.rest).pulse j = if j = p then (s.pulse j).rest else s.pulse j := by
  split
  · next h => rw [h, pulse_modPulse_same]
  · next h => exact pulse_modPulse_ne _ _ _ h
theorem steps_unarmed (l : List Nat) (h : ∀ j ∈ l, (s.pulse j).armed = false) :
    (∀ j, (foldS State.ppsStep s l).pulse j = if j ∈ l then (s.pulse j).rest else s.pulse j) ∧ keeps [.pps] s (foldS State.ppsStep s l) := by
  induction l generalizing s with
  | nil => exact ⟨fun _ => rfl, keeps.refl _ s⟩
  | cons a l ih =>
    have hstep : s.ppsStep a = s.modPulse a Pps.rest := ppsStep_unarmed (h a (by simp))
    have hpulse : ∀ j, (s.ppsStep a).pulse j = if j = a then (s.pulse j).rest else s.pulse j := fun j => by rw [hstep, pulse_modPulse_rest]
    have harmed : ∀ j, ((s.ppsStep a).pulse j).armed = (s.pulse j).armed := fun j => by
      rw [hpulse]
      split <;> rfl
    obtain ⟨hall, hkeeps⟩ := ih (s := s.ppsStep a) fun j hj => (harmed j).trans (h j (by simp [hj]))
    refine ⟨fun j => (hall j).trans ?_, (hstep ▸ modPulse_keeps a Pps.rest : keeps [.pps] s (s.ppsStep a)).trans hkeeps fun _ => id⟩
    rw [hpulse]
    by_cases hja : j = a <;> by_cases hjl : j ∈ l <;> simp [hja, hjl, Pps.rest]

/-- A pulse that an edge has started at the time now, of the schedule's edge k. -/
def Pps.started (x : Pps) (now k : Nat) : Pps := { x with active := true, endAt := now + x.width, nextK := k + 1, armed := x.period != 0 }
theorem ppsProduce_late (p k : Nat) : s.ppsProduce p k true = ((s.modPulse p fun x => x.started s.tim.now k).count (PPS_COUNT p) 1).flagRaise (PPS_STATE p) 2 71 := rfl
theorem ppsProduce_due (p k : Nat) : s.ppsProduce p k false = (s.modPulse p fun x => x.started s.tim.now k).count (PPS_COUNT p) 1 := rfl

/-! ## The judgement of network time (R322) -/

theorem timJudge_off (hon : s.timOn = false) (hq : s.tim.qualified = false) : s.timJudge = s := by
  unfold State.timJudge
  dsimp only
  rw [if_pos (by simp [hon, hq])]
theorem timJudge_lost (hfit : s.tim.fit (s.bit TIM_CTL 1) = false) (hq : s.tim.qualified = true) :
    s.timJudge = (s.modTim fun t => { t with qualified := false }).flagRaise TIM_STAT 1 67 := by
  unfold State.timJudge
  dsimp only
  rw [hfit, Bool.and_false, if_neg (by simp [hq])]
  rfl

/-! ## The settings of TIM_CTL (R314, R322) -/

theorem timOn_wr_ctl (h : bitOf v 0 = false) : (s.wr TIM_CTL (v &&& 3)).timOn = false := by
  rw [State.timOn, bit_wr_self, bitOf_and, h, Bool.false_and]
theorem timCtl_refused (hv : bitOf v 0 = true) (hon : s.timOn = false) (hbad : s.intervalsBad = true) : s.timCtl v = s.timBad.raise 69 := by
  unfold State.timCtl
  rw [if_pos (by simp [hv, hon, hbad])]
theorem timCtl_enable (hv : bitOf v 0 = true) (hset : bitOf v 2 = false) (hon : s.timOn = false) (hgood : s.intervalsBad = false) :
    s.timCtl v = (s.wr TIM_CTL (v &&& 3)).ptpTo .listening := by
  unfold State.timCtl
  rw [if_neg (by simp [hgood]), if_pos (by simp [hv, hon]), if_neg (by simp [hset])]
theorem timCtl_load (hv : bitOf v 0 = false) (hset : bitOf v 2 = true) (hon : s.timOn = false) : s.timCtl v = (s.wr TIM_CTL (v &&& 3)).timLoad.timJudge := by
  unfold State.timCtl
  dsimp only
  rw [if_neg (by simp [hv]), if_pos hset, if_neg (by simp [hv]), if_neg (by simp [hon])]
theorem or_four_and_three : (v ||| 4) &&& 3 = v &&& 3 := by
  rw [BitVec.and_or_distrib_right]
  simp
/-- Network time as it begins to listen, from DISABLED. -/
def TimSt.listening (t : TimSt) : TimSt :=
  { t with pst := .listening, rate := 0, good := 0, legA := { t.legA with annAt := t.mono }, legB := { t.legB with annAt := t.mono } }
theorem ptpTo_listening (h : s.tim.pst = .disabled) : s.ptpTo .listening = (s.modTim TimSt.listening).flagRaise TIM_STAT 0 66 := by
  unfold State.ptpTo
  rw [if_neg (by simp [h])]
  rfl
theorem intervalsBad_of (h : 2 ≤ s.rdF TIM_CFG 3 2 ∨ 128 ≤ s.rdF TIM_CFG 15 8 ∨ fld (s.rd TIM_INTERVALS) 15 12 < 2 ∨ 10 < fld (s.rd TIM_INTERVALS) 15 12 ∨ 4 < sext 4 (fld (s.rd TIM_INTERVALS) 7 4) ∨ sext 4 (fld (s.rd TIM_INTERVALS) 7 4) < 0 ∨ 1 < sext 4 (fld (s.rd TIM_INTERVALS) 3 0) ∨
    (s.rdF TIM_CFG 3 2 = 1 ∧ sext 4 (fld (s.rd TIM_INTERVALS) 3 0) < -1)) : s.intervalsBad = true := by
  unfold State.intervalsBad
  dsimp only
  split <;> simp only [Bool.or_eq_true, decide_eq_true_eq] <;> omega

/-! ## The writes of a pulse's control register (R324) -/

theorem ppsCtl_arm (h : bitOf v 1 = false) : s.ppsCtl p (v ||| 1) = (s.wr (PPS_CTL p) ((v ||| 1) &&& 4)).ppsArm p := by
  unfold State.ppsCtl
  dsimp only
  have hdisarm : bitOf (v ||| 1) 1 = false := by
    rw [bitOf_or, h]
    rfl
  rw [if_neg (Bool.eq_false_iff.mp hdisarm), if_pos (by simp [bitOf])]
theorem ppsCtl_disarm : s.ppsCtl p (v ||| 2) = (s.wr (PPS_CTL p) ((v ||| 2) &&& 4)).ppsDisarm p := by
  unfold State.ppsCtl
  dsimp only
  rw [if_pos (by simp [bitOf])]
theorem bit_ctl_arm : bitOf ((v ||| 1) &&& 4) 2 = bitOf v 2 := by simp [bitOf]

/-- A pulse that ARM has given its schedule. -/
def Pps.schedule (x : Pps) (st per wid k : Nat) : Pps := { x with armed := true, start := st, period := per, width := wid, nextK := k }
theorem ppsArm_refused (h : (1 ≤ (s.rd (PPS_PERIOD p)).toNat ∧ (s.rd (PPS_PERIOD p)).toNat ≤ 999) ∨ (s.rd (PPS_WIDTH p)).toNat < 8 ∨ (1 ≤ (s.rd (PPS_PERIOD p)).toNat ∧ (s.rd (PPS_PERIOD p)).toNat ≤ (s.rd (PPS_WIDTH p)).toNat) ∨ 999999999 < (s.rd (PPS_START_NS p)).toNat) :
    s.ppsArm p = (s.modPulse p fun x => { x with armed := false }).timBad := by
  unfold State.ppsArm
  dsimp only
  rw [if_pos (by omega)]
/-- The start that PPS_START names, in nanoseconds. -/
def State.ppsStart (s : State) (p : Nat) : Nat := ((s.rd (PPS_START_SHI p)).toNat * 2 ^ 32 + (s.rd (PPS_START_SLO p)).toNat) * 1000000000 + (s.rd (PPS_START_NS p)).toNat
theorem ppsArm_ahead {st per wid : Nat} (hper : per = (s.rd (PPS_PERIOD p)).toNat) (hwid : wid = (s.rd (PPS_WIDTH p)).toNat) (hst : st = s.ppsStart p)
    (hns : (s.rd (PPS_START_NS p)).toNat ≤ 999999999) (hlow : 1000 ≤ per) (hw : 8 ≤ wid) (hlt : wid < per) (hnow : s.tim.now ≤ st) :
    s.ppsArm p = s.modPulse p (·.schedule st per wid 0) := by
  unfold State.ppsArm
  unfold State.ppsStart at hst
  dsimp only
  rw [← hst, ← hper, ← hwid, if_neg (by omega), if_neg (by omega), if_pos (by omega)]
  rfl
theorem ppsArm_late {st per wid : Nat} (hper : per = (s.rd (PPS_PERIOD p)).toNat) (hwid : wid = (s.rd (PPS_WIDTH p)).toNat) (hst : st = s.ppsStart p)
    (hns : (s.rd (PPS_START_NS p)).toNat ≤ 999999999) (hzero : per = 0) (hw : 8 ≤ wid) (hnow : st < s.tim.now) :
    s.ppsArm p = (s.modPulse p (·.schedule st per wid 0)).ppsProduce p 0 true := by
  unfold State.ppsArm
  unfold State.ppsStart at hst
  dsimp only
  rw [← hst, ← hper, ← hwid, if_neg (by omega), if_pos (by omega), if_pos (by omega)]
  rfl
theorem ppsStart_wr_ctl (p : Fin 4) : (s.wr (PPS_CTL p.val) v).ppsStart p.val = s.ppsStart p.val := by
  have h := pulse_setup_apart p
  rw [State.ppsStart, rd_wr_ne s v (h (PPS_START_SHI p.val) (by simp)), rd_wr_ne s v (h (PPS_START_SLO p.val) (by simp)), rd_wr_ne s v (h (PPS_START_NS p.val) (by simp))]
  rfl

/-- The time that TIM_SET names, and what SET leaves before the pulses are looked at. -/
def State.timSetNs (s : State) : Nat := ((s.rd TIM_SET_SHI).toNat * 2 ^ 32 + (s.rd TIM_SET_SLO).toNat) * 1000000000 + (s.rd TIM_SET_NS).toNat
def State.clockLoaded (s : State) (v : W32) : State := (s.wr TIM_CTL (v &&& 3)).modTim fun t => { t with now := s.timSetNs }
theorem clockLoaded_leaves (v : W32) : (s.clockLoaded v).rd TIM_CTL = v &&& 3 ∧ (s.clockLoaded v).tim = { s.tim with now := s.timSetNs } ∧ (s.clockLoaded v).pps = s.pps ∧
    regsOnly [TIM_CTL] s (s.clockLoaded v) ∧ keeps [.regs, .tim, .pps] s (s.clockLoaded v) :=
  ⟨rd_wr_same .., rfl, rfl, ((regsOnly.refl _ s).wr (by simp)).of_regs rfl,
    (keeps.wr (keeps.refl _ s) (by simp)).trans (modTim_keeps (s := s.wr TIM_CTL (v &&& 3)) _) (by simp)⟩
theorem timLoad_alone (hpair : s.twn.paired = false) (hns : (s.rd TIM_SET_NS).toNat ≤ 999999999) :
    (s.wr TIM_CTL (v &&& 3)).timLoad = foldS State.ppsStep (s.clockLoaded v) [0, 1, 2, 3] := by
  have hpair' : ¬ (s.wr TIM_CTL (v &&& 3)).twn.paired = true := ne_true_of_eq_false hpair
  unfold State.timLoad
  rw [rd_wr_ne s _ (show TIM_SET_NS ≠ TIM_CTL by decide), rd_wr_ne s _ (show TIM_SET_SHI ≠ TIM_CTL by decide), rd_wr_ne s _ (show TIM_SET_SLO ≠ TIM_CTL by decide),
    if_neg hpair', if_neg (by omega), toNat_cat64]
  rfl
theorem exec_timSet (hup : s.hostUp = true) (hv : bitOf v 0 = false) (hoff : s.timOn = false) :
    exec (.timSet v) s = doneCore s (s.wr TIM_CTL (v &&& 3)).timLoad.timJudge := by
  have hctl : s.timCtl (v ||| 4) = (s.wr TIM_CTL (v &&& 3)).timLoad.timJudge := by
    rw [timCtl_load (by rw [bitOf_or, hv]; rfl) (by simp [bitOf]) hoff, or_four_and_three]
  rw [← hctl, ← byHost_up hup fun s => s.timCtl (v ||| 4)]
  rfl
theorem exec_timStepAck (hup : s.hostUp = true) : exec (.timStepAck v) s = doneCore s (if s.class1 then s.stepAck v else s.deny 1 0 TIM_STEP_ACK) := by
  rw [← byHost_up hup fun s => if s.class1 then s.stepAck v else s.deny 1 0 TIM_STEP_ACK]
  rfl
theorem exec_ppsArm (hup : s.hostUp = true) (p : Fin 4) (hv : bitOf v 1 = false) :
    exec (.ppsArm p v) s = doneCore s ((s.wr (PPS_CTL p.val) ((v ||| 1) &&& 4)).ppsArm p.val) := by
  rw [← ppsCtl_arm hv, ← byHost_up hup fun s => s.ppsCtl p.val (v ||| 1)]
  rfl
theorem exec_ppsDisarm (hup : s.hostUp = true) (p : Fin 4) :
    exec (.ppsDisarm p v) s = doneCore s ((s.wr (PPS_CTL p.val) ((v ||| 2) &&& 4)).ppsDisarm p.val) := by
  rw [← ppsCtl_disarm, ← byHost_up hup fun s => s.ppsCtl p.val (v ||| 2)]
  rfl
/-- What a write of PPS_CTL and a change of its pulse leave. -/
theorem ctlPulse_leaves (p : Nat) (f : Pps → Pps) : ((s.wr (PPS_CTL p) v).modPulse p f).pulse p = f (s.pulse p) ∧
    sameBut [p] ppsInit s.pps ((s.wr (PPS_CTL p) v).modPulse p f).pps ∧ regsOnly [PPS_CTL p] s ((s.wr (PPS_CTL p) v).modPulse p f) ∧
    keeps [.regs, .pps] s ((s.wr (PPS_CTL p) v).modPulse p f) :=
  ⟨pulse_modPulse_same _ p f, modPulse_sameBut (s := s.wr _ _) p f, ((regsOnly.refl _ s).wr (by simp)).of_regs rfl,
    (keeps.wr (keeps.refl _ s) (by simp)).trans (modPulse_keeps p f) (by simp)⟩

/-- What an ARM of a late one-shot leaves before the produced pulse is counted. -/
theorem rd_setup_wr_ctl (p : Fin 4) : (s.wr (PPS_CTL p.val) v).rd (PPS_START_NS p.val) = s.rd (PPS_START_NS p.val) ∧
    (s.wr (PPS_CTL p.val) v).rd (PPS_PERIOD p.val) = s.rd (PPS_PERIOD p.val) ∧ (s.wr (PPS_CTL p.val) v).rd (PPS_WIDTH p.val) = s.rd (PPS_WIDTH p.val) := by
  have h := pulse_setup_apart p
  exact ⟨rd_wr_ne s v (h _ (by simp)), rd_wr_ne s v (h _ (by simp)), rd_wr_ne s v (h _ (by simp))⟩
theorem timAdvance_keeps (dt : Nat) : keeps [.tim] s (s.timAdvance dt) := modTim_keeps _

/-- Settles O35: each write takes its branch, the judgement and the pulses by the lemmas above. -/
theorem netTimeAndPulses : Obligations.NetTimeAndPulses := by
  intro s p v x st per wid dt hup hx
  obtain ⟨hcntEvt, hstEvt, hcntSt, hcntCtl⟩ := evtReg_pulse p
  refine ⟨fun hon hset hoff hgood hq hpst => ?_, fun hon hoff hbad => ?_, fun hv hoff hq hpair hns harm => ?_, fun hv hoff hq hpair => ?_, fun hcls hv hheld => ?_,
    fun hcls hv => ?_, fun hcls => ?_, fun hon hpst hq hlim => ?_, fun hlim => ?_, fun hv hper hwid hst hns hlow hw hlt hnow => ?_,
    fun hv hper hwid hst hns hzero hw hnow => ?_, fun hv hbad => ?_, ?_, fun harm hnow => ?_, fun hact hnow => ?_⟩
  · have hexec : exec (.ptpEnable v) s = doneCore s (((s.wr TIM_CTL (v &&& 3)).modTim TimSt.listening).flagRaise TIM_STAT 0 66) := by
      rw [← ptpTo_listening (s := s.wr TIM_CTL (v &&& 3)) hpst, ← timCtl_enable hon hset hoff hgood, ← byHost_up hup fun s => s.timCtl v]
      rfl
    have hk : keeps [.regs, .tim] s ((s.wr TIM_CTL (v &&& 3)).modTim TimSt.listening) :=
      (keeps.wr (keeps.refl _ s) (by simp)).trans (modTim_keeps (s := s.wr TIM_CTL (v &&& 3)) _) (by simp)
    have hregs : regsOnly [TIM_CTL] s ((s.wr TIM_CTL (v &&& 3)).modTim TimSt.listening) := ((regsOnly.refl _ s).wr (by simp)).of_regs rfl
    have hrd : ((s.wr TIM_CTL (v &&& 3)).modTim TimSt.listening).rd TIM_CTL = v &&& 3 := rd_wr_same ..
    have htim : ((s.wr TIM_CTL (v &&& 3)).modTim TimSt.listening).tim = s.tim.listening := rfl
    generalize (s.wr TIM_CTL (v &&& 3)).modTim TimSt.listening = u at *
    have hnoted := (hk.quietBut (by simp) hregs).noted (b := TIM_STAT) (i := 0) rfl (by decide) 66
    exact leads_doneCore hexec ⟨(flagRaise_rd _ _ _ _ rfl (by decide)).trans hrd, hnoted.only.tim.trans htim, hnoted.bit, hnoted.raised, hnoted.regs.mono (by simp),
      ((hk.mono (by simp)).evt (by simp) hnoted.only).answered⟩
  · have hexec : exec (.ptpEnable v) s = doneCore s (s.flagRaise TIM_STAT 6 69) := by
      have hctl : s.timCtl v = s.flagRaise TIM_STAT 6 69 := timCtl_refused hon hoff (intervalsBad_of hbad)
      rw [← hctl, ← byHost_up hup fun s => s.timCtl v]
      rfl
    have hnoted := (Quiet.refl s).noted (b := TIM_STAT) (i := 6) rfl (by decide) 69
    have hrd := flagRaise_rd s TIM_STAT 6 69 (b := TIM_CTL) rfl (by decide)
    generalize s.flagRaise TIM_STAT 6 69 = u at *
    exact leads_doneCore hexec ⟨hrd, hnoted.bit, hnoted.raised, hnoted.regs, (hnoted.only.answered_self rfl rfl rfl).symm ▸ hnoted.only⟩
  · have hexec := exec_timSet hup hv hoff
    obtain ⟨hrd, htim, hpps, hregs, hk⟩ := clockLoaded_leaves (s := s) v
    rw [timLoad_alone hpair hns] at hexec
    generalize s.clockLoaded v = u at *
    obtain ⟨hpulse, hsteps⟩ := steps_unarmed (s := u) [0, 1, 2, 3] fun j hj => pulse_of_pps hpps j ▸ harm j hj
    have hp := hpulse p.val
    have hregs4 := rd_of_regs (hsteps.part (p := .regs) (by simp))
    have htim4 := hsteps.part (p := .tim) (by simp)
    have hk4 := hk.trans hsteps (by simp)
    have hreg4 := hregs.of_regs (hsteps.part (p := .regs) (by simp))
    generalize foldS State.ppsStep u [0, 1, 2, 3] = r at *
    have hon : r.timOn = false := by
      rw [State.timOn, State.bit, hregs4, hrd, bitOf_and, hv, Bool.false_and]
    have hq4 : r.tim.qualified = false := by
      rw [htim4, htim]
      exact hq
    rw [timJudge_off hon hq4] at hexec
    rw [if_pos (by fin_cases p <;> simp), pulse_of_pps hpps, hx] at hp
    exact leads_doneCore hexec ⟨(hregs4 _).trans hrd, htim4.trans htim, hp, hreg4, hk4.answered⟩
  · have hload : (s.wr TIM_CTL (v &&& 3)).timLoad = s.wr TIM_CTL (v &&& 3) := if_pos (show (s.wr TIM_CTL (v &&& 3)).twn.paired = true from hpair)
    have hexec := exec_timSet hup hv hoff
    rw [hload, timJudge_off (timOn_wr_ctl hv) hq] at hexec
    exact leads_doneCore hexec ⟨rd_wr_same .., (regsOnly.refl _ s).wr (by simp), (keeps.wr (keeps.refl _ s) (by simp)).answered⟩
  · rw [exec_timStepAck hup, if_pos hcls, State.stepAck, if_pos ⟨hv, hheld⟩]
    rfl
  · rw [exec_timStepAck hup, if_pos hcls, State.stepAck, if_neg (by rintro ⟨h, h'⟩; rcases hv with hv | hv <;> simp_all)]
    rfl
  · have hexec := exec_timStepAck (v := v) hup
    rw [if_neg (ne_true_of_eq_false hcls)] at hexec
    obtain ⟨hcnt, hbit, hregs⟩ := deny_refuses (s := s) 1 0 TIM_STEP_ACK
    have honly := deny_only (s := s) 1 0 TIM_STEP_ACK
    generalize s.deny 1 0 TIM_STEP_ACK = u at *
    exact leads_doneCore hexec ⟨honly.tim, hcnt, hbit, hregs, (honly.answered_self rfl rfl rfl).symm ▸ honly⟩
  · have hfit : TimSt.fit { (s.timAdvance dt).tim with syncLost := true } (s.bit TIM_CTL 1) = false := by
      show (s.tim.pst == .slave && !s.tim.stepHeld && !true && decide (fld s.tim.qualThr 23 16 ≤ s.tim.good) || (s.tim.pst == .master && s.bit TIM_CTL 1)) = false
      rw [hpst]
      simp
    have hexec : exec (.syncLossTimeout dt) s = doneCore s (((s.timAdvance dt).modTim fun t => { t with syncLost := true, qualified := false }).flagRaise TIM_STAT 1 67) := by
      show doneCore s (s.timAdvance dt).syncTimeout = _
      have hlim' : (s.timOn && s.tim.pst == .slave && decide (s.syncLimit ≤ s.tim.mono + dt - s.tim.syncAt)) = true := by simp [hon, hpst, hlim]
      have hsync : (s.timAdvance dt).syncTimeout = ((s.timAdvance dt).modTim fun t => { t with syncLost := true }).timJudge := if_pos hlim'
      rw [hsync, timJudge_lost (s := (s.timAdvance dt).modTim fun t => { t with syncLost := true }) hfit hq]
      rfl
    have hk : keeps [.tim] s ((s.timAdvance dt).modTim fun t => { t with syncLost := true, qualified := false }) :=
      (timAdvance_keeps dt).trans (modTim_keeps _) fun _ => id
    have htim : ((s.timAdvance dt).modTim fun t => { t with syncLost := true, qualified := false }).tim = { (s.timAdvance dt).tim with syncLost := true, qualified := false } := rfl
    generalize (s.timAdvance dt).modTim (fun t => { t with syncLost := true, qualified := false }) = u at *
    have hnoted := (hk.quiet (by simp) (by simp)).noted (b := TIM_STAT) (i := 1) rfl (by decide) 67
    have htim' := hnoted.only.tim.trans htim
    exact leads_doneCore hexec ⟨htim', (congrArg TimSt.now htim' :), hnoted.bit, hnoted.raised, hnoted.regs, ((hk.mono (by simp)).evt (by simp) hnoted.only).answered⟩
  · show doneCore s (s.timAdvance dt).syncTimeout = _
    have hlim' : ¬ (s.timOn && s.tim.pst == .slave && decide (s.syncLimit ≤ s.tim.mono + dt - s.tim.syncAt)) = true := by simp [Nat.not_le.mpr hlim]
    have hsync : (s.timAdvance dt).syncTimeout = s.timAdvance dt := if_neg hlim'
    rw [hsync]
    rfl
  · obtain ⟨hns', hper', hwid'⟩ := rd_setup_wr_ctl (s := s) (v := (v ||| 1) &&& 4) p
    have hexec := exec_ppsArm hup p hv
    rw [ppsArm_ahead (hper.trans (congrArg _ hper'.symm)) (hwid.trans (congrArg _ hwid'.symm)) (hst.trans (ppsStart_wr_ctl p).symm) (hns'.symm ▸ hns) hlow hw hlt hnow] at hexec
    obtain ⟨hp, hbut, hregs, hk⟩ := ctlPulse_leaves (s := s) (v := (v ||| 1) &&& 4) p.val (·.schedule st per wid 0)
    rw [hx] at hp
    exact leads_doneCore hexec ⟨hp, (bit_wr_self _ _ _).trans bit_ctl_arm, hbut, hregs, hk.answered⟩
  · obtain ⟨hns', hper', hwid'⟩ := rd_setup_wr_ctl (s := s) (v := (v ||| 1) &&& 4) p
    have hexec := exec_ppsArm hup p hv
    rw [ppsArm_late (hper.trans (congrArg _ hper'.symm)) (hwid.trans (congrArg _ hwid'.symm)) (hst.trans (ppsStart_wr_ctl p).symm) (hns'.symm ▸ hns) hzero hw hnow,
      ppsProduce_late] at hexec
    obtain ⟨hp, hbut, hregs, hk⟩ := ctlPulse_leaves (s := s) (v := (v ||| 1) &&& 4) p.val (·.schedule st per wid 0)
    have hnow' : ((s.wr (PPS_CTL p.val) ((v ||| 1) &&& 4)).modPulse p.val (·.schedule st per wid 0)).tim.now = s.tim.now := rfl
    generalize (s.wr (PPS_CTL p.val) ((v ||| 1) &&& 4)).modPulse p.val (·.schedule st per wid 0) = u at *
    have hp' : (u.modPulse p.val fun x => x.started u.tim.now 0).pulse p.val = (x.schedule st per wid 0).started s.tim.now 0 :=
      (pulse_modPulse_same ..).trans (by rw [hp, hx, hnow'])
    have hbut' := modPulse_sameBut (s := u) p.val fun x => x.started u.tim.now 0
    have hk' := modPulse_keeps (s := u) p.val fun x => x.started u.tim.now 0
    have hbut'' : sameBut [p.val] ppsInit s.pps (u.modPulse p.val fun x => x.started u.tim.now 0).pps := hbut.trans hbut'
    have hk'' := hk.trans hk' (by simp)
    have hregs' := hregs.of_regs (hk'.part (p := .regs) (by simp))
    generalize (u.modPulse p.val fun x => x.started u.tim.now 0) = r at *
    have hrep := (hk''.quietBut (by simp) hregs').reported hcntEvt hstEvt hcntSt (i := 2) (by decide) (by simp) 1 71
    have hkeep := (hk''.mono (qs := [.regs, .out, .mon, .sys, .pps]) (by simp)).evt (by simp) hrep.only
    generalize (r.count (PPS_COUNT p.val) 1).flagRaise (PPS_STATE p.val) 2 71 = f at *
    refine leads_doneCore hexec ⟨(pulse_of_pps hrep.only.pps _).trans (hp'.trans ?_), hrep.counted, hrep.bit, hrep.raised, hrep.only.pps.symm ▸ hbut'',
      hrep.regs.mono (by simp), hkeep.answered⟩
    rw [hzero]
    rfl
  · obtain ⟨hns', hper', hwid'⟩ := rd_setup_wr_ctl (s := s) (v := (v ||| 1) &&& 4) p
    have hexec := exec_ppsArm hup p hv
    rw [ppsArm_refused (by rw [hns', hper', hwid']; exact hbad)] at hexec
    obtain ⟨hp, hbut, hregs, hk⟩ := ctlPulse_leaves (s := s) (v := (v ||| 1) &&& 4) p.val fun x => { x with armed := false }
    rw [hx] at hp
    generalize (s.wr (PPS_CTL p.val) ((v ||| 1) &&& 4)).modPulse p.val (fun x => { x with armed := false }) = u at *
    exact leads_doneCore hexec ⟨hp, bit_flag_self (by decide), hbut, (hregs.mono (by simp)).flag (by simp), (hk.flag (by simp)).answered⟩
  · obtain ⟨hp, hbut, hregs, hk⟩ := ctlPulse_leaves (s := s) (v := (v ||| 2) &&& 4) p.val fun x => { x with armed := false, active := false }
    rw [hx] at hp
    exact leads_doneCore (exec_ppsDisarm hup p) ⟨hp, hbut, hregs, hk.answered⟩
  · have hexec : exec (.ppsEdge p) s = doneCore s (((s.timAdvance (x.start + x.nextK * x.period - s.tim.now)).modPulse p.val fun y =>
        y.started (s.timAdvance (x.start + x.nextK * x.period - s.tim.now)).tim.now x.nextK).count (PPS_COUNT p.val) 1) := by
      have harm' : (s.pulse p.val).armed = true := hx.symm ▸ harm
      rw [← ppsProduce_due, ← hx]
      exact congrArg (doneCore s) (if_pos harm')
    have hnow' : (s.timAdvance (x.start + x.nextK * x.period - s.tim.now)).tim.now = x.start + x.nextK * x.period := Nat.add_sub_of_le hnow
    have hp0 := pulse_of_pps (s := s) (t := s.timAdvance (x.start + x.nextK * x.period - s.tim.now)) rfl p.val
    have hk0 := timAdvance_keeps (s := s) (x.start + x.nextK * x.period - s.tim.now)
    generalize s.timAdvance (x.start + x.nextK * x.period - s.tim.now) = u at *
    have hp : (u.modPulse p.val fun y => y.started u.tim.now x.nextK).pulse p.val = x.started (x.start + x.nextK * x.period) x.nextK :=
      (pulse_modPulse_same ..).trans (by rw [hp0, hx, hnow'])
    have hbut : sameBut [p.val] ppsInit s.pps (u.modPulse p.val fun y => y.started u.tim.now x.nextK).pps :=
      hk0.part (p := .pps) (by simp) ▸ modPulse_sameBut (s := u) p.val fun y => y.started u.tim.now x.nextK
    have htim : (u.modPulse p.val fun y => y.started u.tim.now x.nextK).tim = u.tim := rfl
    have hk : keeps [.regs, .tim, .pps] s (u.modPulse p.val fun y => y.started u.tim.now x.nextK) := (hk0.mono (by simp)).trans (modPulse_keeps _ _) (by simp)
    have hregs : (u.modPulse p.val fun y => y.started u.tim.now x.nextK).regs = s.regs := hk0.part (p := .regs) (by simp)
    generalize (u.modPulse p.val fun y => y.started u.tim.now x.nextK) = r at *
    exact leads_doneCore hexec ⟨hp, htim, (congrArg TimSt.now htim).trans hnow', counted_count (rd_of_regs hregs _), hbut, (regsOnly_of_regs hregs).count (by simp),
      (hk.count (by simp)).answered⟩
  · have hexec : exec (.ppsPulseEnd p) s = doneCore s ((s.timAdvance (x.endAt - s.tim.now)).modPulse p.val fun x => { x with active := false }) := by
      have hact' : (s.pulse p.val).active = true := hx.symm ▸ hact
      rw [← hx]
      exact congrArg (doneCore s) (if_pos hact')
    have hnow' : (s.timAdvance (x.endAt - s.tim.now)).tim.now = x.endAt := Nat.add_sub_of_le hnow
    have hp0 := pulse_of_pps (s := s) (t := s.timAdvance (x.endAt - s.tim.now)) rfl p.val
    have hk0 := timAdvance_keeps (s := s) (x.endAt - s.tim.now)
    generalize s.timAdvance (x.endAt - s.tim.now) = u at *
    have hp : (u.modPulse p.val fun x => { x with active := false }).pulse p.val = { x with active := false } := (pulse_modPulse_same ..).trans (by rw [hp0, hx])
    have hbut : sameBut [p.val] ppsInit s.pps (u.modPulse p.val fun x => { x with active := false }).pps :=
      hk0.part (p := .pps) (by simp) ▸ modPulse_sameBut (s := u) p.val fun x => { x with active := false }
    exact leads_doneCore hexec ⟨hp, rfl, hnow', hbut, ((hk0.mono (by simp)).trans (modPulse_keeps _ _) (by simp)).answered⟩

end Sys2Proof.Machine
end

section
/-! SUPPORT. Power supervision (R501, R502, R511): what a fault of the engine's own leaves. -/

namespace Sys2Proof.Machine

variable {s t u : State} {v : W32} {e : Nat}

theorem awake_iff : s.awake = true ↔ s.sys.phase = .running ∨ s.sys.phase = .starting ∨ s.sys.phase = .held := by
  simp [State.awake, or_assoc]
theorem not_awake (h : s.sys.phase = .off ∨ s.sys.phase = .nap ∨ s.sys.phase = .failed) : s.awake = false := by
  rcases h with h | h | h <;> simp [State.awake, h]
theorem modPwd_keeps (f : PwdSt → PwdSt) : keeps [.pwd] s (s.modPwd f) := by simp [keeps_iff, State.modPwd]
theorem modTwn_self_keeps (x : TwnSt) : keeps [.twn] s { s with twn := x } := by simp [keeps_iff]

theorem emit_keeps (o : Out) : keeps [.out] s (s.emit o) := by simp [keeps_iff, State.emit]

/-- What a change of role, with its count, event and message to the partner, leaves where it may act. -/
structure StandbyOnly (s t : State) : Prop where
  regs : regsKeep [TWN_OOS_COUNT, TWN_STAT] s t
  kept : s.twn.role ≠ .standby → t.regs = s.regs
  keeps : keeps [.regs, .out, .mon, .sys, .twn] s t
  answering : t.sys.answering = s.sys.answering
  faulty : t.sys.faulty = s.sys.faulty
  selOut : t.twn.selOut = s.twn.selOut
  raised : ∀ {e : Nat} {s0 : State}, raised e s0 s → raised e s0 t

theorem outOfStep_standby (cause : Nat) : StandbyOnly s (s.outOfStep cause) := by
  by_cases hrole : s.twn.role = .standby
  · have heq : s.outOfStep cause = ((({ s with twn := { s.twn with role := .outOfStep, oosCause := cause } } : State).count TWN_OOS_COUNT 1).flagRaise TWN_STAT 4 100).emit (.twin 2 [cause]) := by
      unfold State.outOfStep
      rw [hrole]
    have hk : Machine.keeps [.twn] s { s with twn := { s.twn with role := .outOfStep, oosCause := cause } } := modTwn_self_keeps _
    rw [heq]
    generalize hu : ({ s with twn := { s.twn with role := .outOfStep, oosCause := cause } } : State) = u at hk
    have hregs : u.regs = s.regs := hk.part (p := .regs) (by simp)
    have hsel : u.twn.selOut = s.twn.selOut := hu ▸ rfl
    have hrep := (hk.quiet (by simp) (by simp)).reported (a := TWN_OOS_COUNT) (b := TWN_STAT) (i := 4) rfl rfl (by decide) (by decide) (by simp) 1 100
    have hraised : ∀ {e : Nat} {s0 : State}, Machine.raised e s0 s → Machine.raised e s0 ((u.count TWN_OOS_COUNT 1).flagRaise TWN_STAT 4 100) := fun h =>
      raised.raise (t := (u.count TWN_OOS_COUNT 1).flag TWN_STAT 4) (((h.of_regs hregs).wr rfl).wr rfl)
    generalize (u.count TWN_OOS_COUNT 1).flagRaise TWN_STAT 4 100 = w at *
    have hsys := hk.part (p := .sys) (by simp)
    have hkeep := (hk.mono (qs := [.regs, .out, .mon, .sys, .twn]) (by simp)).evt (by simp) hrep.only
    exact ⟨hrep.regs.of_regs rfl, fun h => absurd hrole h, hkeep.trans (emit_keeps _) (by simp), hrep.only.sys_answering.trans (congrArg SysSt.answering hsys),
      hrep.only.sys_faulty.trans (congrArg SysSt.faulty hsys), (congrArg TwnSt.selOut hrep.only.twn).trans hsel, fun h => (hraised h).of_regs rfl⟩
  · have heq : s.outOfStep cause = s := by
      unfold State.outOfStep
      cases h : s.twn.role <;> simp_all
    rw [heq]
    exact ⟨regsKeep.refl _ s, fun _ => rfl, keeps.refl _ s, rfl, rfl, rfl, id⟩

/-- What a change of the twin record that keeps SEL_OUT leaves, before the standby acts on it. -/
theorem StandbyOnly.of_twn {x : TwnSt} (hrole : x.role = s.twn.role) (hsel : x.selOut = s.twn.selOut) (h : StandbyOnly { s with twn := x } t) : StandbyOnly s t :=
  ⟨h.regs, fun hne => h.kept fun heq => hne (hrole.symm.trans heq), ((modTwn_self_keeps x).mono (by simp)).trans h.keeps fun _ => id, h.answering, h.faulty,
    h.selOut.trans hsel, fun hr => h.raised (hr.of_regs rfl)⟩
theorem StandbyOnly.refl (s : State) : StandbyOnly s s := ⟨regsKeep.refl _ s, fun _ => rfl, keeps.refl _ s, rfl, rfl, rfl, id⟩
theorem twinFault_standby : StandbyOnly s s.twinFault := by
  unfold State.twinFault
  split
  · exact .of_twn (x := { s.twn with faultFlag := true }) rfl rfl (outOfStep_standby 3)
  · exact .of_twn (x := { s.twn with faultFlag := true }) rfl rfl (.refl _)
  · exact .refl s

/-- What the engine leaves that declares itself faulty, at the twin link too. -/
structure FaultDeclared (s t : State) : Prop where
  faulty : t.sys.faulty = true
  selOut : t.twn.selOut = false
  regs : regsKeep [TWN_OOS_COUNT, TWN_STAT] s t
  kept : s.twn.role ≠ .standby → t.regs = s.regs
  keeps : keeps [.regs, .out, .mon, .sys, .twn] s t
  raised : ∀ {e : Nat} {s0 : State}, raised e s0 s → raised e s0 t
theorem declareFaulty_keeps : keeps [.sys, .twn] s s.declareFaulty := by simp [keeps_iff, State.declareFaulty]
theorem engineFault_declared : FaultDeclared s s.declareFaulty.twinFault := by
  have h := twinFault_standby (s := s.declareFaulty)
  exact ⟨h.faulty, h.selOut, h.regs, h.kept, (declareFaulty_keeps.mono (by simp)).trans h.keeps fun _ => id, fun hr => h.raised (hr.of_regs rfl)⟩

/-! ## Supplies and heat -/

/-- The state of an engine whose supply has failed. -/
def State.unsupplied (s : State) : State :=
  { s.modPwd (fun p => { p with supplyFail := true }) with sys := { s.sys with phase := .failed, answering := false, ready := false, mediaRun := false, deferred := s.sys.deferred ++ [21] } }
theorem unsupplied_keeps : keeps [.sys, .pwd] s s.unsupplied := by simp [keeps_iff, State.unsupplied, State.modPwd]
theorem supplyFail_awake (h : s.awake = true) : s.supplyFail = s.declareFaulty.twinFault.unsupplied := if_pos h
theorem exec_pwdLatchClr (hup : s.hostUp = true) (hcls : s.class1 = true) : exec (.pwdLatchClr v) s = doneCore s (s.latchClr v) := by
  show doneCore s _ = _
  rw [byHost_up hup, regWrite_side (b := .pwd) (off := 0x30) rfl rfl (.inr ?_) rfl rfl rfl]
  show (_ || (_ && s.class1) || _) = true
  rw [hcls]
  rfl
theorem failed_after (w : BitVec 12) (d : Fin 12) : (w ||| BitVec.ofNat 12 (2 ^ d.val)).getLsbD d.val = true := by
  rw [BitVec.getLsbD_or, BitVec.getLsbD_ofNat, Nat.testBit_two_pow_self, decide_eq_true d.isLt]
  simp
theorem engine_domain (d : Fin 12) : (d.val + 1 == 3 || d.val + 1 == 4 || d.val + 1 == 5 || d.val + 1 == 6 || d.val + 1 == 9 || d.val + 1 == 11) = true ↔
    d.val = 2 ∨ d.val = 3 ∨ d.val = 4 ∨ d.val = 5 ∨ d.val = 8 ∨ d.val = 10 := by simp [or_assoc]

theorem exec_tempWarnCross {temp : Int} (h : s.awake = true) : exec (.tempWarnCross temp) s = doneCore s
    (if s.pwd.tempAbove = false ∧ s.tempWarn < temp then ({ s with pwd := { s.pwd with temp := temp, tempAbove := true } } : State).flagRaise PWD_STAT 0 22
    else if s.pwd.tempAbove = true ∧ temp < s.tempWarn - 5 then ({ s with pwd := { s.pwd with temp := temp, tempAbove := false } } : State).flagRaise PWD_STAT 0 22
    else { s with pwd := { s.pwd with temp := temp } }) := congrArg (doneCore s) (if_neg (by simp [h]))
/-- A noted temperature with its mark and event. -/
theorem leads_tempNoted {i : Instr} {x : PwdSt} (hexec : exec i s = doneCore s (({ s with pwd := x } : State).flagRaise PWD_STAT 0 22)) :
    leads i s (fun t => evtOnly { s with pwd := x } t ∧ t.bit PWD_STAT 0 = true ∧ raised 22 s t ∧ regsKeep [PWD_STAT] s t) := by
  have hk : keeps [.pwd] s { s with pwd := x } := by simp [keeps_iff]
  have hnoted := (hk.quiet (by simp) (by simp)).noted (b := PWD_STAT) (i := 0) rfl (by decide) 22
  obtain ⟨hbit, hraised, hregs, honly⟩ := hnoted
  refine leads_doneCore hexec ⟨?_, hbit, hraised, hregs⟩
  exact (honly.answered_self rfl rfl rfl).symm ▸ honly

/-- Settles O53: the engine's own fault by `engineFault_declared`, the marks and events by the reporting lemmas. -/
theorem powerSupervision : Obligations.PowerSupervision := by
  intro s d temp v
  refine ⟨fun hoff => ?_, fun hon => ?_, fun hphase c hc => ?_, fun hphase => ?_, fun hphase hbelow hcross => ?_, fun hphase habove hcross => ?_,
    fun hphase c hc => ?_, fun hup hcls => ?_⟩
  · exact congrArg (doneCore s) (if_pos (by simp [hoff]))
  · have hk := modPwd_keeps (s := s) fun p => { p with failed := p.failed ||| BitVec.ofNat 12 (2 ^ d.val) }
    have hexec : exec (.domainFault d) s = doneCore s (if (d.val + 1 == 3 || d.val + 1 == 4 || d.val + 1 == 5 || d.val + 1 == 6 || d.val + 1 == 9 || d.val + 1 == 11) = true then
        ((s.modPwd fun p => { p with failed := p.failed ||| BitVec.ofNat 12 (2 ^ d.val) }).flagRaise PWD_STAT 1 21).declareFaulty.twinFault
        else (s.modPwd fun p => { p with failed := p.failed ||| BitVec.ofNat 12 (2 ^ d.val) }).flagRaise PWD_STAT 1 21) :=
      congrArg (doneCore s) (if_neg (by simp [hon]))
    have hpwd : (s.modPwd fun p => { p with failed := p.failed ||| BitVec.ofNat 12 (2 ^ d.val) }).pwd = { s.pwd with failed := s.pwd.failed ||| BitVec.ofNat 12 (2 ^ d.val) } := rfl
    generalize (s.modPwd fun p => { p with failed := p.failed ||| BitVec.ofNat 12 (2 ^ d.val) }) = u at *
    have hnoted := (hk.quiet (by simp) (by simp)).noted (b := PWD_STAT) (i := 1) rfl (by decide) 21
    have hkeep := (hk.mono (qs := [.regs, .out, .mon, .sys, .twn, .pwd]) (by simp)).evt (by simp) hnoted.only
    have hrole := congrArg TwnSt.role (hnoted.only.twn.trans (hk.part (p := .twn) (by simp)))
    have hpwd' := hnoted.only.pwd.trans hpwd
    obtain ⟨hbit, hraised, hregs, -⟩ := hnoted
    generalize u.flagRaise PWD_STAT 1 21 = w at *
    have hfailed : ∀ {t : State}, t.pwd = { s.pwd with failed := s.pwd.failed ||| BitVec.ofNat 12 (2 ^ d.val) } → t.domFailed (d.val + 1) = true := fun h =>
      (congrArg (fun p : PwdSt => p.failed.getLsbD (d.val + 1 - 1)) h).trans (failed_after _ d)
    by_cases heng : (d.val + 1 == 3 || d.val + 1 == 4 || d.val + 1 == 5 || d.val + 1 == 6 || d.val + 1 == 9 || d.val + 1 == 11) = true
    · rw [if_pos heng] at hexec
      have hfault := engineFault_declared (s := w)
      have hpwd'' := (hfault.keeps.part (p := .pwd) (by simp)).trans hpwd'
      generalize w.declareFaulty.twinFault = f at *
      exact leads_doneCore hexec ⟨hpwd'', hfailed hpwd'', (bit_of_rd (hfault.regs _ (by decide) rfl)).trans hbit, hfault.raised hraised, fun _ => ⟨hfault.faulty, hfault.selOut⟩,
        (hkeep.trans hfault.keeps (by simp)).answered, (hregs.mono (by simp)).trans (hfault.regs.mono (by simp)),
        fun hne => hregs.of_regs (hfault.kept fun h => hne (hrole.symm.trans h))⟩
    · rw [if_neg heng] at hexec
      exact leads_doneCore hexec ⟨hpwd', hfailed hpwd', hbit, hraised, fun h => absurd ((engine_domain d).mpr h) heng, hkeep.answered, hregs.mono (by simp), fun _ => hregs⟩
  · have hexec : exec c s = doneCore s s.supplyFail := by
      simp only [List.mem_cons, List.not_mem_nil, or_false] at hc
      rcases hc with rfl | rfl <;> rfl
    rw [supplyFail_awake (awake_iff.mpr hphase)] at hexec
    have hfault := engineFault_declared (s := s)
    generalize s.declareFaulty.twinFault = f at *
    have hpwd : f.unsupplied.pwd = { s.pwd with supplyFail := true } := congrArg (fun p : PwdSt => { p with supplyFail := true }) (hfault.keeps.part (p := .pwd) (by simp))
    refine leads_doneCore hexec ⟨rfl, rfl, rfl, rfl, hfault.faulty, hpwd, ?_, hfault.regs, hfault.kept, ((hfault.keeps.mono (by simp)).trans unsupplied_keeps (by simp)).answered⟩
    exact List.mem_append_right _ (List.mem_singleton.mpr rfl)
  · have hexec : exec .engineThermalFault s = doneCore s (s.declareFaulty.twinFault.modPwd fun p => { p with thermal := true }) :=
      congrArg (doneCore s) (if_pos (awake_iff.mpr hphase))
    have hfault := engineFault_declared (s := s)
    generalize s.declareFaulty.twinFault = f at *
    have hpwd : (f.modPwd fun p => { p with thermal := true }).pwd = { s.pwd with thermal := true } :=
      congrArg (fun p : PwdSt => { p with thermal := true }) (hfault.keeps.part (p := .pwd) (by simp))
    exact leads_doneCore hexec ⟨hpwd, hfault.faulty, hfault.selOut, hfault.regs, hfault.kept, ((hfault.keeps.mono (by simp)).trans (modPwd_keeps _) (by simp)).answered⟩
  · have hexec : exec (.tempWarnCross temp) s = doneCore s (({ s with pwd := { s.pwd with temp := temp, tempAbove := true } } : State).flagRaise PWD_STAT 0 22) := by
      rw [exec_tempWarnCross (awake_iff.mpr hphase), if_pos ⟨hbelow, hcross⟩]
    exact leads_tempNoted hexec
  · have hexec : exec (.tempWarnCross temp) s = doneCore s (({ s with pwd := { s.pwd with temp := temp, tempAbove := false } } : State).flagRaise PWD_STAT 0 22) := by
      rw [exec_tempWarnCross (awake_iff.mpr hphase), if_neg (by simp [habove]), if_pos ⟨habove, hcross⟩]
    exact leads_tempNoted hexec
  · have hawake := not_awake hphase
    simp only [List.mem_cons, List.not_mem_nil, or_false] at hc
    rcases hc with rfl | rfl | rfl | rfl
    · exact congrArg (doneCore s) (if_neg (ne_true_of_eq_false hawake))
    · exact congrArg (doneCore s) (if_neg (ne_true_of_eq_false hawake))
    · exact congrArg (doneCore s) (if_neg (ne_true_of_eq_false hawake))
    · exact congrArg (doneCore s) (if_pos (by simp [hawake]))
  · exact exec_pwdLatchClr hup hcls

end Sys2Proof.Machine
end

section
/-! SUPPORT. The repair map (R377): a spare is taken, the write is ignored, the row switches. -/

namespace Sys2Proof.Machine

variable {s t : State} {v : W32} {key : Nat} {r : RepEntry}

theorem exec_memRepSet (hup : s.hostUp = true) : exec (.memRepSet v) s = doneCore s (s.repSet v) := by
  show doneCore s _ = _
  rw [byHost_up hup]
theorem repSet_locked (h : s.locked .mem = true) : s.repSet v = s.lockViol .mem := if_pos h
theorem repSet_named (h : s.locked .mem = false) (hn : s.rowNamed (fld v 21 16) (fld v 9 0) = true) : s.repSet v = s.flag MEM_STAT 2 :=
  (if_neg (ne_true_of_eq_false h)).trans (if_pos hn)
theorem repSet_full (h : s.locked .mem = false) (hn : s.rowNamed (fld v 21 16) (fld v 9 0) = false) (hf : s.freeSpare (fld v 21 16) = none) :
    s.repSet v = s.flag MEM_STAT 3 := by
  unfold State.repSet
  dsimp only
  rw [if_neg (ne_true_of_eq_false h), if_neg (ne_true_of_eq_false hn), hf]
/-- A row takes a spare; where the steward was idle, its work of remapping begins. -/
def MemSt.taken (m : MemSt) (key : Nat) (r : RepEntry) : MemSt :=
  { m with rep := spPut m.rep key (some r), act := if m.act = .idle then .remap else m.act }
theorem repSet_taken {e : Nat} (h : s.locked .mem = false) (hn : s.rowNamed (fld v 21 16) (fld v 9 0) = false) (hf : s.freeSpare (fld v 21 16) = some e) :
    s.repSet v = s.modMem (·.taken (fld v 21 16 * 8 + e) { row := fld v 9 0, host := true, active := false }) := by
  unfold State.repSet
  dsimp only
  rw [if_neg (ne_true_of_eq_false h), if_neg (ne_true_of_eq_false hn), hf]
  by_cases hidle : s.mem.act = .idle
  · exact (if_pos hidle).trans (by simp [State.modMem, MemSt.taken, State.putRep, hidle])
  · exact (if_neg hidle).trans (by simp [State.modMem, MemSt.taken, State.putRep, hidle])
theorem modMem_keeps (f : MemSt → MemSt) : keeps [.mem] s (s.modMem f) := by simp [keeps_iff, State.modMem]
theorem repSwitch_waiting (h : spGet none s.mem.rep key = some r) (hr : r.active = false) :
    ∃ act, s.repSwitch key = (s.modMem fun m => { m with rep := spPut m.rep key (some { r with active := true }), act := act }).raise 89 := by
  unfold State.repSwitch
  rw [h]
  exact ⟨_, if_neg (ne_true_of_eq_false hr)⟩

/-- Settles O43: the four answers of MEM_REP_SET, and the row's switch. -/
theorem repairMap : Obligations.RepairMap := by
  intro s k v bank e r hup
  have hexec := exec_memRepSet (v := v) hup
  refine ⟨fun hl hn hf => ?_, fun hl hn => ?_, fun hl hn hf => ?_, fun hl => ?_, fun hrep hact => ?_⟩
  · rw [repSet_taken hl hn hf] at hexec
    exact leads_doneCore hexec ⟨spGet_spPut_same .., fun hk => spGet_spPut_ne _ _ _ hk, rfl, (modMem_keeps _).answered⟩
  · exact leads_flag (hexec.trans (congrArg _ (repSet_named hl hn))) (by decide)
  · exact leads_flag (hexec.trans (congrArg _ (repSet_full hl hn hf))) (by decide)
  · rw [repSet_locked hl] at hexec
    refine (leads_flagRaise hexec rfl (by decide)).imp fun t ht => ?_
    exact ⟨ht.1, ht.2.1, ht.2.2.2, ht.2.2.1⟩
  · obtain ⟨act, hsw⟩ := repSwitch_waiting hrep hact
    have hexec : exec (.repairRowSwitch bank e) s = doneCore s (s.repSwitch (bank.val * 8 + e.val)) := rfl
    rw [hsw] at hexec
    have hget : spGet none (s.modMem fun m => { m with rep := spPut m.rep (bank.val * 8 + e.val) (some { r with active := true }), act := act }).mem.rep (bank.val * 8 + e.val) =
      some { r with active := true } := spGet_spPut_same ..
    have hpool : (s.modMem fun m => { m with rep := spPut m.rep (bank.val * 8 + e.val) (some { r with active := true }), act := act }).mem.pool = s.mem.pool := rfl
    have hk := modMem_keeps (s := s) fun m => { m with rep := spPut m.rep (bank.val * 8 + e.val) (some { r with active := true }), act := act }
    generalize (s.modMem fun m => { m with rep := spPut m.rep (bank.val * 8 + e.val) (some { r with active := true }), act := act }) = u at *
    have hmem := (raise_only u 89).mem
    have hraised : raised 89 s (u.raise 89) := raised_raise (hk.2.1) (congrArg SysSt.answering (hk.part (p := .sys) (by simp)))
    have hregs : regsKeep [] s (u.raise 89) := (regsKeep_of_regs (hk.part (p := .regs) (by simp))).raise
    have hk' := (hk.mono (qs := [.regs, .out, .mon, .sys, .mem]) (by simp)).raise (e := 89) (by simp)
    generalize u.raise 89 = w at *
    exact leads_doneCore hexec ⟨(congrArg (fun m : MemSt => spGet none m.rep (bank.val * 8 + e.val)) hmem).trans hget, hraised, (congrArg MemSt.pool hmem).trans hpool,
      hregs, hk'.answered⟩

end Sys2Proof.Machine
end

section
/-! SUPPORT. The twin pair's link, its bundles, and what a change of the twin record reports (R406 to R416). -/

namespace Sys2Proof.Machine

variable {s t u : State} {v : W32} {i : Instr} {x : TwnSt}

/-! ## Bundles -/

theorem bundle_frame (x : TwnSt) (frame : Nat) : (x.bundle frame).frame = frame := by
  unfold TwnSt.bundle
  cases h : x.bundles.find? (fun b => b.frame == frame) with
  | none => rfl
  | some b =>
    have hb := List.find?_some h
    exact beq_iff_eq.mp hb
theorem bundle_modBundle_same (frame : Nat) {f : Bundle → Bundle} (hf : (f (s.twn.bundle frame)).frame = frame) :
    (s.modBundle frame f).twn.bundle frame = f (s.twn.bundle frame) := by
  show ((f (s.twn.bundle frame) :: _).find? _).getD _ = _
  rw [List.find?_cons_of_pos (by simp [hf])]
  rfl
theorem bundle_modBundle_ne {frame tick : Nat} {f : Bundle → Bundle} (hf : (f (s.twn.bundle frame)).frame = frame) (h : frame ≠ tick) :
    (s.modBundle frame f).twn.bundle tick = s.twn.bundle tick := by
  have hfind : (s.twn.bundles.filter fun b => b.frame != frame).find? (fun b => b.frame == tick) = s.twn.bundles.find? (fun b => b.frame == tick) := by
    rw [List.find?_filter]
    congr 1
    funext b
    by_cases hb : b.frame = tick
    · simp [hb, h.symm]
    · simp [hb]
  show ((f (s.twn.bundle frame) :: _).find? _).getD _ = _
  rw [List.find?_cons_of_neg (by simp [hf, h]), hfind]
  rfl
theorem modBundle_keeps (frame : Nat) (f : Bundle → Bundle) : keeps [.twn] s (s.modBundle frame f) := by simp [keeps_iff, State.modBundle, State.modTwn]
theorem leads_modBundle {frame tick : Nat} {f : Bundle → Bundle} {b : Bundle} (hexec : exec i s = doneCore s (s.modBundle frame f)) (hb : f (s.twn.bundle frame) = b)
    (hf : b.frame = frame) : leads i s (fun t => t.twn.bundle frame = b ∧ (frame ≠ tick → t.twn.bundle tick = s.twn.bundle tick) ∧
      t.twn = { s.twn with bundles := t.twn.bundles } ∧ keeps [.twn] s t) :=
  leads_doneCore hexec ⟨(bundle_modBundle_same frame (hb ▸ hf)).trans hb, bundle_modBundle_ne (hb ▸ hf), rfl, (modBundle_keeps _ _).answered⟩

theorem bundleSize_leaves {n : Nat} (h : n < 2 ^ 32) : ((s.bundleSize n).rd TWN_BUNDLE_BYTES).toNat = n ∧
    ((s.bundleSize n).rd TWN_BUNDLE_MAX).toNat = max n (s.rd TWN_BUNDLE_MAX).toNat ∧ regsOnly [TWN_BUNDLE_BYTES, TWN_BUNDLE_MAX] s (s.bundleSize n) ∧
    keeps [.regs] s (s.bundleSize n) := by
  have hmax : (s.wr TWN_BUNDLE_BYTES (w32 n)).rd TWN_BUNDLE_MAX = s.rd TWN_BUNDLE_MAX := rd_wr_ne s _ (by decide)
  have hregs : regsOnly [TWN_BUNDLE_BYTES, TWN_BUNDLE_MAX] s (s.wr TWN_BUNDLE_BYTES (w32 n)) := (regsOnly.refl _ s).wr (by simp)
  have hk : keeps [.regs] s (s.wr TWN_BUNDLE_BYTES (w32 n)) := keeps.wr (keeps.refl _ s) (by simp)
  have hbytes : (s.wr TWN_BUNDLE_BYTES (w32 n)).rd TWN_BUNDLE_BYTES = w32 n := rd_wr_same ..
  unfold State.bundleSize
  generalize s.wr TWN_BUNDLE_BYTES (w32 n) = u at *
  dsimp only
  rw [hmax]
  by_cases hlt : (s.rd TWN_BUNDLE_MAX).toNat < n
  · rw [if_pos hlt, rd_wr_same, rd_wr_ne u _ (by decide), hbytes, toNat_w32 h]
    exact ⟨rfl, by omega, hregs.wr (by simp), hk.wr (by simp)⟩
  · rw [if_neg hlt, hbytes, toNat_w32 h, hmax]
    exact ⟨rfl, by omega, hregs, hk⟩

/-- What the cutoff leaves before the bundle's length is noted. -/
def State.cutAt (s : State) : State := { s.drawn with ledger := { s.ledger with sent := some (s.accReady true) }, twn := { s.twn with cutoff := true } }
theorem cutAt_leaves : s.cutAt.twn = { s.twn with cutoff := true } ∧ s.cutAt.ledger = { s.ledger with sent := some (s.accReady true) } ∧ s.cutAt.out = s.out ∧
    s.cutAt.free = s.free + 1 ∧ s.cutAt.regs = s.regs ∧ keeps [.free, .ledger, .twn] s s.cutAt :=
  ⟨rfl, rfl, rfl, rfl, rfl, by simp [keeps_iff, State.cutAt, State.drawn]⟩

/-! ## A change of the twin record with its mark and event -/

/-- What is left by a change of the twin record that is reported in TWN_STAT. -/
def twnNoted (x : TwnSt) (b e : Nat) (s t : State) : Prop :=
  t.twn = x ∧ t.bit TWN_STAT b = true ∧ raised e s t ∧ regsKeep [TWN_STAT] s t ∧ keeps [.regs, .out, .mon, .sys, .twn] s t
theorem twnNoted_flagRaise (x : TwnSt) {b : Nat} (e : Nat) (hb : b < 32) : twnNoted x b e s (({ s with twn := x } : State).flagRaise TWN_STAT b e) := by
  have hk : keeps [.twn] s { s with twn := x } := modTwn_self_keeps x
  obtain ⟨hbit, hraised, hregs, honly⟩ := (hk.quiet (by simp) (by simp)).noted (b := TWN_STAT) rfl hb e
  exact ⟨honly.twn, hbit, hraised, hregs, (hk.mono (by simp)).evt (by simp) honly⟩
theorem leads_twnNoted {b e : Nat} (hb : b < 32) (hexec : exec i s = doneCore s (({ s with twn := x } : State).flagRaise TWN_STAT b e)) : leads i s (twnNoted x b e s) := by
  obtain ⟨htwn, hbit, hraised, hregs, hk⟩ := twnNoted_flagRaise (s := s) x e hb
  exact leads_doneCore hexec ⟨htwn, hbit, hraised, hregs, hk.answered⟩
theorem exec_twinPair (hup : s.hostUp = true) {c : Instr} (hc : c ∈ [Instr.twinPair v, .twinUnpair v]) : exec c s = doneCore s (s.twinPairHost v) := by
  rw [← byHost_up hup fun s => s.twinPairHost v]
  simp only [List.mem_cons, List.not_mem_nil, or_false] at hc
  rcases hc with rfl | rfl <;> rfl
theorem twnFlag_answering (x : TwnSt) (b e : Nat) : (({ s with twn := x } : State).flagRaise TWN_STAT b e).sys.answering = s.sys.answering :=
  (flagRaise_only _ _ _ _).sys_answering
theorem outOfStep_elsewhere {cause : Nat} (h : s.twn.role ≠ .standby) : s.outOfStep cause = s := by
  unfold State.outOfStep
  cases hr : s.twn.role <;> simp_all
theorem outOfStep_of_standby {cause : Nat} (h : s.twn.role = .standby) : s.outOfStep cause =
    ((({ s with twn := { s.twn with role := .outOfStep, oosCause := cause } } : State).count TWN_OOS_COUNT 1).flagRaise TWN_STAT 4 100).emit (.twin 2 [cause]) := by
  unfold State.outOfStep
  rw [h]
theorem partnerOut_elsewhere (h : s.twn.role ≠ .active) : s.partnerOut = s := if_neg fun hr => h hr.1
theorem isolateWaiting_none {m : Nat} (h : s.trk.waiting.filter (fun r => r.master == m) = []) : s.isolateWaiting m = s := by
  unfold State.isolateWaiting
  rw [h]
  rfl
/-- The twin record of a module that has left its pair. -/
def TwnSt.unpaired (x : TwnSt) : TwnSt :=
  { x with role := .alone, paired := false, keyHere := false, partner := none, roleTx := false, selOut := false, partnerStep := false }
theorem unpaired_alone (h : x.paired = false) :
    x.unpaired = { x with role := .alone, keyHere := false, partner := none, roleTx := false, selOut := false, partnerStep := false } := by
  cases x
  cases h
  rfl
/-- What TWN_PAIR's key of unpairing leaves before it is reported. -/
def State.unpairing (s : State) : State := { (s.wr TWN_PARTNER_LO 0).wr TWN_PARTNER_HI 0 with twn := s.twn.unpaired }
theorem unpairing_leaves : s.unpairing.twn = s.twn.unpaired ∧ s.unpairing.rd TWN_PARTNER_LO = 0 ∧ s.unpairing.rd TWN_PARTNER_HI = 0 ∧ s.unpairing.out = s.out ∧
    regsOnly [TWN_PARTNER_LO, TWN_PARTNER_HI] s s.unpairing ∧ keeps [.regs, .twn] s s.unpairing :=
  have hlo : ((s.wr TWN_PARTNER_LO 0).wr TWN_PARTNER_HI 0).rd TWN_PARTNER_LO = 0 := (rd_wr_ne _ _ (by decide)).trans (rd_wr_same ..)
  have hhi : ((s.wr TWN_PARTNER_LO 0).wr TWN_PARTNER_HI 0).rd TWN_PARTNER_HI = 0 := rd_wr_same ..
  have hregs : regsOnly [TWN_PARTNER_LO, TWN_PARTNER_HI] s ((s.wr TWN_PARTNER_LO 0).wr TWN_PARTNER_HI 0) := ((regsOnly.refl _ s).wr (by simp)).wr (by simp)
  have hk : keeps [.regs, .twn] s ((s.wr TWN_PARTNER_LO 0).wr TWN_PARTNER_HI 0) := keeps.wr (keeps.wr (keeps.refl _ s) (by simp)) (by simp)
  ⟨rfl, hlo, hhi, rfl, hregs.of_regs rfl, hk.trans (modTwn_self_keeps s.twn.unpaired) (by simp)⟩
theorem twinPairHost_unpair (hcls : s.class1 = true) (hstrap : s.strapTwin = true) (hv : v = 0x7A00) :
    s.twinPairHost v = (if s.twn.paired = true then s.unpairing.flagRaise TWN_STAT 1 97 else s.unpairing).emit (.twin 12 []) := by
  rw [State.twinPairHost, if_pos hcls, State.twinPair, if_neg (by simp [hstrap]), if_neg (by rw [hv]; decide), if_pos hv]
  rfl
theorem exec_twinLinkUp {serial : W64} {lanes latency : Nat} (hstrap : s.strapTwin = true) (hdown : s.twn.linkUp = false) (hdom : s.domFailed 8 = false) :
    exec (.twinLinkUp serial lanes latency) s = doneCore s (if serial = s.partnerReg then
      (({ s with twn := { s.twn with linkUp := true, lanes := lanes % 16, latency := latency % 4096, partner := some serial } } : State).flagRaise TWN_STAT 0 96).emit (.twin 1 [s.fit.serial.toNat])
      else ({ s with twn := { s.twn with lanes := lanes % 16, latency := latency % 4096, partner := none } } : State).flagRaise TWN_STAT 5 96) :=
  congrArg (doneCore s) (if_neg (by simp [hstrap, hdown, hdom]))
theorem exec_twinLinkLoss (hup : s.twn.linkUp = true) (hrole : s.twn.role ≠ .resyncing) (hwait : s.trk.waiting.filter (fun r => r.master == 9) = []) :
    exec .twinLinkLoss s = doneCore s (if s.twn.edges = 1 then ((s.twinLink false).outOfStep 4).partnerOut else s.twinLink false) := by
  have hwait' : (s.twinLink false).isolateWaiting 9 = s.twinLink false := isolateWaiting_none ((congrArg TrkSt.waiting (flagRaise_only _ _ _ _).trk).symm ▸ hwait)
  have htwn : (s.twinLink false).twn = { s.twn with linkUp := false, lanes := 0 } := (flagRaise_only _ _ _ _).twn
  have hne : ¬ (s.twinLink false).twn.role = .resyncing := by
    rw [htwn]
    exact hrole
  have hedges : (s.twinLink false).twn.edges = s.twn.edges := (congrArg TwnSt.edges htwn :)
  refine congrArg (doneCore s) ((if_neg (by simp [hup])).trans ?_)
  dsimp only
  rw [hwait', if_neg hne, hedges]

/-- Settles O45: the branches of each command, the reports by `twnNoted_flagRaise`, the bundles by `leads_modBundle`. -/
theorem twinPairLinkAndBundles : Obligations.TwinPairLinkAndBundles := by
  intro s v serial lanes latency tick frame bytes acc edge fault src xs closed
  refine ⟨fun hup hcls hstrap hv => ?_, fun hup hcls hstrap hv hp => ?_, fun hup hcls hstrap hv hp => ?_, fun hup hcls hv c hc => ?_, fun hup hcls c hc => ?_,
    fun hstrap hkey hl hpart hlat hp => ?_, fun hstrap hl hdom hser => ?_, fun hstrap hl hdom hser => ?_, fun hl hrole hedges hwait => ?_,
    fun hl hrole hedges hwait => ?_, fun hl hrole hstep hedges hwait => ?_, rfl, fun hl => ?_, fun hl => ?_, fun hrole hl hcut => ?_, fun hl hrole hlt => ?_,
    fun hl hrole => ?_, fun hl hrole => ?_, fun hl => ?_, fun hl hrole => ?_, fun hl hrole hstep => ?_, fun hl c hc => ?_⟩
  · rw [exec_twinPair (v := v) hup (by simp), State.twinPairHost, if_pos hcls, State.twinPair, if_neg (by simp [hstrap]), if_pos hv]
    rfl
  · have hexec := exec_twinPair (v := v) hup (c := .twinUnpair v) (by simp)
    rw [twinPairHost_unpair hcls hstrap hv, if_pos hp] at hexec
    obtain ⟨htwn, hlo, hhi, -, hregs, hk⟩ := unpairing_leaves (s := s)
    generalize s.unpairing = u at *
    have hnoted := (hk.quietBut (by simp) hregs).noted (b := TWN_STAT) (i := 1) rfl (by decide) 97
    have hlo' := (flagRaise_rd (s := u) TWN_STAT 1 97 (b := TWN_PARTNER_LO) rfl (by decide)).trans hlo
    have hhi' := (flagRaise_rd (s := u) TWN_STAT 1 97 (b := TWN_PARTNER_HI) rfl (by decide)).trans hhi
    generalize u.flagRaise TWN_STAT 1 97 = w at *
    have hkeep := (hk.mono (qs := [.regs, .out, .mon, .sys, .twn]) (by simp)).evt (by simp) hnoted.only
    exact leads_doneCore hexec ⟨hnoted.only.twn.trans htwn, hlo', hhi', hnoted.bit, hnoted.raised.of_regs rfl, List.getLast?_concat, (hnoted.regs.mono (by simp)).of_regs rfl,
      (hkeep.trans (emit_keeps _) (by simp)).answered⟩
  · have hexec := exec_twinPair (v := v) hup (c := .twinUnpair v) (by simp)
    rw [twinPairHost_unpair hcls hstrap hv, if_neg (ne_true_of_eq_false hp)] at hexec
    obtain ⟨htwn, hlo, hhi, hout, hregs, hk⟩ := unpairing_leaves (s := s)
    generalize s.unpairing = u at *
    exact leads_doneCore hexec ⟨htwn.trans (unpaired_alone hp), hlo, hhi, congrArg (· ++ [Out.twin 12 []]) hout, hregs.of_regs rfl, ((hk.mono (by simp)).trans (emit_keeps _) (by simp)).answered⟩
  · have hnone : s.twinPair v = s := by
      unfold State.twinPair
      rcases hv with hv | ⟨hv, hv'⟩
      · exact if_pos (by simp [hv])
      · rw [if_neg hv, if_neg hv', ite_self]
    rw [exec_twinPair hup hc, State.twinPairHost, if_pos hcls, hnone]
    rfl
  · have hexec := exec_twinPair hup hc
    rw [State.twinPairHost, if_neg (ne_true_of_eq_false hcls)] at hexec
    have hraised : s.sys.onceTick.contains 19 = false → raised 19 s (s.deny 1 0 TWN_PAIR) := fun h => raised_raiseOnce rfl rfl h
    obtain ⟨hcnt, hbit, hregs⟩ := deny_refuses (s := s) 1 0 TWN_PAIR
    have honly := deny_only (s := s) 1 0 TWN_PAIR
    generalize s.deny 1 0 TWN_PAIR = u at *
    exact leads_doneCore hexec ⟨honly.twn, hcnt, hbit, hraised, hregs, (honly.answered_self rfl rfl rfl).symm ▸ honly⟩
  · have hexec : exec .pairForm s = doneCore s (({ s with twn := { s.twn with paired := true, keyHere := false } } : State).flagRaise TWN_STAT 1 97) :=
      congrArg (doneCore s) (if_pos (by simp [hstrap, hkey, hl, hpart, hlat, hp]))
    exact leads_twnNoted (by decide) hexec
  · have hexec := exec_twinLinkUp (serial := serial) (lanes := lanes) (latency := latency) hstrap hl hdom
    rw [if_pos hser] at hexec
    obtain ⟨htwn, hbit, hraised, hregs, hk⟩ := twnNoted_flagRaise (s := s) { s.twn with linkUp := true, lanes := lanes % 16, latency := latency % 4096, partner := some serial } (b := 0) 96 (by decide)
    generalize State.flagRaise { s with twn := { s.twn with linkUp := true, lanes := lanes % 16, latency := latency % 4096, partner := some serial } } TWN_STAT 0 96 = u at *
    exact leads_doneCore hexec ⟨htwn, hbit, hraised.of_regs rfl, List.getLast?_concat, hregs.of_regs rfl, (hk.trans (emit_keeps _) (by simp)).answered⟩
  · have hexec := exec_twinLinkUp (serial := serial) (lanes := lanes) (latency := latency) hstrap hl hdom
    rw [if_neg hser] at hexec
    exact leads_twnNoted (by decide) hexec
  · have hexec := exec_twinLinkLoss hl hrole hwait
    rw [if_neg hedges] at hexec
    exact leads_twnNoted (by decide) hexec
  · have hexec := exec_twinLinkLoss hl (by simp [hrole]) hwait
    obtain ⟨htwn, hbit, hraised, hregs, hk⟩ := twnNoted_flagRaise (s := s) { s.twn with linkUp := false, lanes := 0 } (b := 0) 96 (by decide)
    have hlink : s.twinLink false = State.flagRaise { s with twn := { s.twn with linkUp := false, lanes := 0 } } TWN_STAT 0 96 := rfl
    have hans := twnFlag_answering (s := s) { s.twn with linkUp := false, lanes := 0 } 0 96
    rw [if_pos hedges, hlink] at hexec
    generalize State.flagRaise { s with twn := { s.twn with linkUp := false, lanes := 0 } } TWN_STAT 0 96 = u at *
    rw [outOfStep_of_standby (by rw [htwn]; exact hrole)] at hexec
    have hk1 : keeps [.twn] u { u with twn := { u.twn with role := .outOfStep, oosCause := 4 } } := modTwn_self_keeps _
    have hrep := (hk1.quiet (by simp) (by simp)).reported (a := TWN_OOS_COUNT) (b := TWN_STAT) (i := 4) rfl rfl (by decide) (by decide) (by simp) 1 100
    have hbit0 : (State.flagRaise (State.count { u with twn := { u.twn with role := .outOfStep, oosCause := 4 } } TWN_OOS_COUNT 1) TWN_STAT 4 100).bit TWN_STAT 0 = true :=
      (bit_raise rfl).trans (bit_flag_mono _ _ (by decide) ((bit_of_rd (rd_count_ne _ _ (by decide))).trans hbit))
    have hraised96 : raised 96 s (State.flagRaise (State.count { u with twn := { u.twn with role := .outOfStep, oosCause := 4 } } TWN_OOS_COUNT 1) TWN_STAT 4 100) :=
      raised.raise (t := State.flag _ TWN_STAT 4) (((hraised.of_regs rfl).wr rfl).wr rfl)
    have hcnt := counted.of_start hrep.counted (hregs _ (by decide) rfl)
    have htwn2 := hrep.only.twn.trans (congrArg (fun x : TwnSt => { x with role := .outOfStep, oosCause := 4 }) htwn)
    have hk2 := (hk.trans hk1 (by simp)).evt (by simp) hrep.only
    generalize State.flagRaise (State.count { u with twn := { u.twn with role := .outOfStep, oosCause := 4 } } TWN_OOS_COUNT 1) TWN_STAT 4 100 = w at *
    have hpart : (w.emit (.twin 2 [4])).partnerOut = w.emit (.twin 2 [4]) := partnerOut_elsewhere (by
      show w.twn.role ≠ .active
      rw [htwn2]
      simp)
    rw [hpart] at hexec
    exact leads_doneCore hexec ⟨htwn2, hbit0, hrep.bit, hraised96.of_regs rfl, (hrep.raised.of_start hk.fit hans).of_regs rfl, hcnt,
      ((hregs.mono (by simp)).trans (hrep.regs.mono (by simp))).of_regs rfl, (hk2.trans (emit_keeps _) (by simp)).answered⟩
  · have hexec := exec_twinLinkLoss hl (by simp [hrole]) hwait
    obtain ⟨htwn, hbit, hraised, hregs, hk⟩ := twnNoted_flagRaise (s := s) { s.twn with linkUp := false, lanes := 0 } (b := 0) 96 (by decide)
    have hlink : s.twinLink false = State.flagRaise { s with twn := { s.twn with linkUp := false, lanes := 0 } } TWN_STAT 0 96 := rfl
    have hans := twnFlag_answering (s := s) { s.twn with linkUp := false, lanes := 0 } 0 96
    rw [if_pos hedges, hlink] at hexec
    generalize State.flagRaise { s with twn := { s.twn with linkUp := false, lanes := 0 } } TWN_STAT 0 96 = u at *
    have hout : u.outOfStep 4 = u := outOfStep_elsewhere (by rw [htwn]; simp [hrole])
    have hpart : u.partnerOut = ({ u with twn := { u.twn with partnerStep := false } } : State).flagRaise TWN_STAT 4 100 := if_pos (by rw [htwn]; exact ⟨hrole, hstep⟩)
    rw [hout, hpart] at hexec
    obtain ⟨htwn2, hbit2, hraised2, hregs2, hk2⟩ := twnNoted_flagRaise (s := u) { u.twn with partnerStep := false } (b := 4) 100 (by decide)
    have hbit0 : (State.flagRaise { u with twn := { u.twn with partnerStep := false } } TWN_STAT 4 100).bit TWN_STAT 0 = true :=
      (bit_raise rfl).trans (bit_flag_mono _ _ (by decide) hbit)
    have hraised96 : raised 96 s (State.flagRaise { u with twn := { u.twn with partnerStep := false } } TWN_STAT 4 100) :=
      raised.raise (t := State.flag { u with twn := { u.twn with partnerStep := false } } TWN_STAT 4) ((hraised.of_regs rfl).wr rfl)
    generalize State.flagRaise { u with twn := { u.twn with partnerStep := false } } TWN_STAT 4 100 = w at *
    rw [htwn] at htwn2
    exact leads_doneCore hexec ⟨htwn2, hbit0, hbit2, hraised96, hraised2.of_start hk.fit hans, hregs.trans hregs2, (hk.trans hk2 fun _ => id).answered⟩
  · by_cases htick : tick = s.tickN
    · rw [if_pos htick]
      exact congrArg (doneCore s) ((if_neg Bool.false_ne_true).trans (if_pos (by simp [hl, htick])))
    · rw [if_neg htick]
      exact congrArg (doneCore s) ((if_neg Bool.false_ne_true).trans (if_neg (by simp [htick])))
  · have hexec : exec (.digestMessage tick v fault) s = doneCore s (s.modTwn fun t => { t with digestsP := spPut t.digestsP tick v, faultP := t.faultP || fault }) :=
      congrArg (doneCore s) (if_pos hl)
    refine leads_doneCore hexec ⟨spFind_spPut_same .., rfl, fun a ha => spGet_spPut_ne _ _ _ (by simpa using ha), ?_⟩
    exact (modTwn_self_keeps (s := s) _).answered
  · have hexec : exec .bundleCutoff s = doneCore s ((s.cutAt.bundleSize (Config.freeNat s.free % 2 ^ 32)).emit (.twin 7 [s.tickN, Config.freeNat s.free % 2 ^ 32, s.accReady true])) :=
      congrArg (doneCore s) (if_pos ⟨hrole, hl, by simp [hcut]⟩)
    obtain ⟨htwn, hldg, hout, hfree, hregs, hk⟩ := cutAt_leaves (s := s)
    have hlt : Config.freeNat s.free % 2 ^ 32 < 2 ^ 32 := Nat.mod_lt _ (by decide)
    generalize Config.freeNat s.free % 2 ^ 32 = n at *
    generalize s.cutAt = u at *
    obtain ⟨hbytes, hmax, hregs', hk'⟩ := bundleSize_leaves (s := u) hlt
    have htwn' := (hk'.part (p := .twn) (by simp)).trans htwn
    have hldg' := (hk'.part (p := .ledger) (by simp)).trans hldg
    have hout' := (hk'.part (p := .out) (by simp)).trans hout
    have hfree' := (hk'.part (p := .free) (by simp)).trans hfree
    rw [rd_of_regs hregs] at hmax
    generalize u.bundleSize n = w at *
    have hb : ((w.emit (.twin 7 [s.tickN, n, s.accReady true])).rd TWN_BUNDLE_BYTES).toNat = n := hbytes
    have hm : ((w.emit (.twin 7 [s.tickN, n, s.accReady true])).rd TWN_BUNDLE_MAX).toNat = max n (s.rd TWN_BUNDLE_MAX).toNat := hmax
    have hout'' : (w.emit (.twin 7 [s.tickN, n, s.accReady true])).out = s.out ++ [.twin 7 [s.tickN, n, s.accReady true]] := congrArg (· ++ [Out.twin 7 [s.tickN, n, s.accReady true]]) hout'
    have hk'' : keeps [.regs, .out, .free, .ledger, .twn] s (w.emit (.twin 7 [s.tickN, n, s.accReady true])) := ((hk.mono (by simp)).trans hk' (by simp)).trans (emit_keeps _) (by simp)
    have hregs'' : regsOnly [TWN_BUNDLE_BYTES, TWN_BUNDLE_MAX] s (w.emit (.twin 7 [s.tickN, n, s.accReady true])) := ((regsOnly_of_regs hregs).trans hregs').of_regs rfl
    refine leads_doneCore hexec ⟨htwn', hldg', hout''.trans ?_, ?_, ?_, hfree', hregs'', hk''.answered⟩
    · rw [answered_rd, hb]
    · rw [answered_rd, hm]
      exact Nat.le_max_right _ _
    · rw [answered_rd, answered_rd, hb, hm]
      exact Nat.le_max_left _ _
  · have hexec : exec (.bundleTrailer frame bytes acc true) s = doneCore s ((s.modBundle frame fun b => { b with whole := true, acc := acc }).bundleSize bytes) :=
      congrArg (doneCore s) ((if_neg (by simp [hrole])).trans ((if_pos (by simp [hl, hrole])).trans (if_pos rfl)))
    have hsame := bundle_modBundle_same (s := s) frame (f := fun b => { b with whole := true, acc := acc }) (bundle_frame _ _)
    have hother := bundle_modBundle_ne (s := s) (frame := frame) (tick := tick) (f := fun b => { b with whole := true, acc := acc }) (bundle_frame _ _)
    have htwn : (s.modBundle frame fun b => { b with whole := true, acc := acc }).twn = { s.twn with bundles := (s.modBundle frame fun b => { b with whole := true, acc := acc }).twn.bundles } := rfl
    have hregs : (s.modBundle frame fun b => { b with whole := true, acc := acc }).regs = s.regs := rfl
    have hk := modBundle_keeps (s := s) frame fun b => { b with whole := true, acc := acc }
    generalize (s.modBundle frame fun b => { b with whole := true, acc := acc }) = u at *
    obtain ⟨hbytes, hmax, hregs', hk'⟩ := bundleSize_leaves (s := u) hlt
    rw [rd_of_regs hregs] at hmax
    have htwn' := hk'.part (p := .twn) (by simp)
    generalize u.bundleSize bytes = w at *
    exact leads_doneCore hexec ⟨(congrArg (TwnSt.bundle · frame) htwn').trans hsame, fun h => (congrArg (TwnSt.bundle · tick) htwn').trans (hother h),
      (htwn'.trans htwn).trans (congrArg (fun b => { s.twn with bundles := b }) (congrArg TwnSt.bundles htwn').symm), hbytes, hmax, (regsOnly_of_regs hregs).trans hregs', ((hk.mono (by simp)).trans hk' (by simp)).answered⟩
  · have hsat : ∀ n, satN 16 n = min n 65535 := fun n => by
      unfold satN
      split <;> omega
    rw [← hsat]
    exact congrArg (doneCore s) ((if_neg (by simp)).trans ((if_pos (by simp [hl, hrole])).trans (if_neg Bool.false_ne_true)))
  · have hexec : exec (.bundleItem frame (.block src xs)) s = doneCore s (s.modBundle frame fun b => { b with blocks := (src, xs) :: b.blocks }) :=
      congrArg (doneCore s) ((if_neg (by simp [hl])).trans (if_neg hrole))
    exact leads_modBundle hexec rfl (bundle_frame _ _)
  · have hexec : exec (.bundleItem frame (.contacts closed)) s = doneCore s (s.modBundle frame fun b => { b with contacts := closed }) :=
      congrArg (doneCore s) (if_neg (by simp [hl]))
    exact leads_modBundle hexec rfl (bundle_frame _ _)
  · have hexec : exec (.bundleItem frame (.ports src xs true)) s = doneCore s (s.modBundle frame fun b => { b with blocks := (src, xs) :: b.blocks }) :=
      congrArg (doneCore s) ((if_neg (by simp [hl])).trans (if_pos ⟨hrole, rfl⟩))
    exact leads_modBundle hexec rfl (bundle_frame _ _)
  · have hexec : exec (.bundleItem frame .outOfStep) s = doneCore s (({ s with twn := { s.twn with partnerStep := false } } : State).flagRaise TWN_STAT 4 100) :=
      congrArg (doneCore s) ((if_neg (by simp [hl])).trans (if_pos ⟨hrole, hstep⟩))
    exact leads_twnNoted (by decide) hexec
  · simp only [List.mem_cons, List.not_mem_nil, or_false] at hc
    rcases hc with rfl | rfl | rfl | rfl
    · exact congrArg (doneCore s) (if_neg (ne_true_of_eq_false hl))
    · exact congrArg (doneCore s) (if_pos (by simp [hl]))
    · exact congrArg (doneCore s) ((if_neg (by simp [hl])).trans (if_neg (by simp [hl])))
    · exact congrArg (doneCore s) (if_pos (by simp [hl]))

end Sys2Proof.Machine
end

section
/-! SUPPORT. The monitor's line and replies (R513 to R517). -/

namespace Sys2Proof.Machine

variable {s t u : State} {i : Instr} {c : MonCmd} {e n : Nat} {line : List Byte}

/-! ## What an event leaves of the monitor while no trace runs -/

theorem raise_mon (e : Nat) (h : s.mon.trace = 0) (ha : s.sys.answering = true) : (s.raise e).mon = s.mon := by
  rw [raise_quiet s e h ha, pend_mon]
theorem flagRaise_mon (a i e : Nat) (h : s.mon.trace = 0) (ha : s.sys.answering = true) : (s.flagRaise a i e).mon = s.mon := raise_mon (s := s.flag a i) e h ha

/-! ## Replies -/

/-- A command's reply and its final line, after which the prompt follows. -/
def MonSt.reply (m : MonSt) (line : List Byte) : MonSt := { m with tx := m.tx ++ line ++ crlf, promptNext := true }
/-- The final line of the error n. -/
def errLine (n : Nat) : List Byte := spaced [txt "err", txt "0" ++ dec n, txt (errName n)]
theorem errLine_texts : errLine 1 = txt "err 01 SYNTAX" ∧ errLine 2 = txt "err 02 RANGE" ∧ errLine 3 = txt "err 03 DEVELOP" ∧ errLine 5 = txt "err 05 BUSY" ∧
    errLine 7 = txt "err 07 LOCKED" ∧ errLine 8 = txt "err 08 DISABLED" := by decide +kernel
/-- The state in which a command at the prompt runs. -/
def State.serving (s : State) : State := s.modMon fun m => { m with prompt := false }
theorem monUp_of (hup : s.engineUp = true) (hans : s.sys.answering = true) : s.monUp = true := by simp [State.monUp, hup, hans]
theorem monLine_prompt (hup : s.monUp = true) (htrace : s.mon.trace = 0) (hprompt : s.mon.prompt = true) (c : MonCmd) : s.monLine c = s.monRun c := by
  unfold State.monLine
  rw [if_neg (by simp [hup]), if_neg (by simp [htrace]), if_pos hprompt]
theorem modMon_keeps (f : MonSt → MonSt) : keeps [.mon] s (s.modMon f) := by simp [keeps_iff, State.modMon]
theorem setMon_keeps (m : MonSt) : keeps [.mon] s { s with mon := m } := modMon_keeps fun _ => m

theorem monRun_disabled (hoff : s.bit MON_CTL 0 = false) (hc : alwaysServed c = false) :
    s.monRun c = { s with mon := ({ s.mon with prompt := false } : MonSt).reply (txt "err 08 DISABLED") } := by
  unfold State.monRun
  refine (if_pos (by rw [hc, Bool.not_false, Bool.and_true, Bool.not_eq_true']; exact hoff)).trans ?_
  simp only [State.sayErr, State.sayEnd, State.say, State.modMon, MonSt.reply, ← errLine_texts.2.2.2.2.2, errLine]
theorem not_disabled (hon : s.bit MON_CTL 0 = true) (c : MonCmd) : ¬ (!s.serving.bit MON_CTL 0 && !alwaysServed c) = true := by
  rw [show s.serving.bit MON_CTL 0 = true from hon]
  exact Bool.false_ne_true
theorem not_disabled_always (hc : alwaysServed c = true) : ¬ (!s.serving.bit MON_CTL 0 && !alwaysServed c) = true := by
  rw [hc, Bool.not_true, Bool.and_false]
  exact Bool.false_ne_true
theorem monLine_busy (hup : s.monUp = true) (htrace : s.mon.trace ≠ 0) (hstop : c ≠ .stop) (hbad : c ≠ .bad) :
    s.monLine c = { s with mon := s.mon.reply (txt "err 05 BUSY") } := by
  have hbusy : s.monLine c = s.sayErr 5 := by
    unfold State.monLine
    rw [if_neg (by simp [hup]), if_pos htrace]
    cases c with
    | stop => exact absurd rfl hstop
    | bad => exact absurd rfl hbad
    | _ => rfl
  rw [hbusy]
  simp only [State.sayErr, State.sayEnd, State.say, State.modMon, MonSt.reply, ← errLine_texts.2.2.2.1, errLine]

/-- A part that did not change need not stand among those that may. -/
theorem keeps_without_mon (h : keeps [.regs, .out, .mon, .sys, .cores] s t) (hmon : t.mon = s.mon) : keeps [.regs, .out, .sys, .cores] s t := by
  obtain ⟨hpend, hfit, hparts⟩ := h
  refine ⟨hpend, hfit, fun p hp => ?_⟩
  by_cases hm : p = .mon
  · exact hm ▸ hmon
  · exact hparts p (by simpa [hm] using hp)

/-! ## The line -/

theorem recordNext_busy {ch : Byte} {cs : List Byte} (h : s.mon.tx = ch :: cs) : s.recordNext = s := by
  unfold State.recordNext
  rw [h]

theorem echo_mon (ch : Byte) : s.echo ch = { s with mon := { s.mon with tx := s.mon.tx ++ if s.bit MON_CTL 1 = true then [ch] else [] } } := by
  unfold State.echo State.when
  split
  · rfl
  · rw [List.append_nil]
theorem echo_off {ch : Byte} (h : s.bit MON_CTL 1 = false) : s.echo ch = s := if_neg (ne_true_of_eq_false h)
/-- The monitor's record with a character that the line takes. -/
def MonSt.typed (m : MonSt) (ch : Byte) (echo : List Byte) : MonSt := { m with line := ch :: m.line, lastCr := false, brk := false, tx := m.tx ++ echo }
theorem monChar_typed {ch : Byte} (hch : ch ∉ ([0x08, 0x0A, 0x0D, 0x7F] : List Byte)) (hlong : s.mon.tooLong = false) (hlen : s.mon.line.length < 120) :
    s.monChar ch = { s with mon := s.mon.typed ch (if s.bit MON_CTL 1 = true then [ch] else []) } := by
  simp only [List.mem_cons, List.not_mem_nil, or_false, not_or] at hch
  obtain ⟨hbs, hlf, hcr, hdel⟩ := hch
  have hlast : s.modMon (fun m => { m with lastCr := ch == 0x0D, brk := false }) = { s with mon := { s.mon with lastCr := false, brk := false } } := by
    rw [State.modMon, beq_false_of_ne hcr]
  unfold State.monChar
  rw [hlast]
  exact (if_neg fun h => hlf h.1).trans ((if_neg (not_or.mpr ⟨hcr, hlf⟩)).trans ((if_neg (ne_true_of_eq_false hlong)).trans ((if_neg (not_or.mpr ⟨hbs, hdel⟩)).trans
    ((if_neg (Nat.not_le.mpr hlen)).trans (congrArg (State.modMon · fun m => { m with line := ch :: m.line }) (echo_mon ch))))))
theorem monChar_cr (hoff : s.bit MON_CTL 1 = false) : s.monChar 0x0D =
    ({ s with mon := { s.mon with line := [], tooLong := false, lastCr := true, brk := false } } : State).monLine (if s.mon.tooLong = true then .bad else parseLine s.mon.line.reverse) := by
  unfold State.monChar
  dsimp only
  rw [if_neg fun h => absurd h.1 (by decide), if_pos (.inl rfl), echo_off (by exact hoff)]
  rfl
theorem exec_monitorCharacter {ch : Byte} (hup : s.monUp = true) (hseen : s.mon.rxSeen = true) :
    exec (.monitorCharacter ch false) s = done s (({ s with mon := { s.mon with rxIdle := 0 } } : State).monChar ch) := by
  have hset : s.modMon (fun m => { m with rxSeen := true, rxIdle := 0 }) = { s with mon := { s.mon with rxIdle := 0 } } := by
    rw [State.modMon, ← hseen]
  rw [← hset]
  refine congrArg (done s) ((if_neg (by simp [hup])).trans ((if_neg Bool.false_ne_true).trans ?_))
  dsimp only
  rw [if_pos hseen]

theorem exec_firstCharacter {ch : Byte} (hup : s.monUp = true) (hseen : s.mon.rxSeen = false) : exec (.monitorCharacter ch false) s =
    done s (({ s.flagRaise MON_STAT 0 124 with mon := { (s.flagRaise MON_STAT 0 124).mon with rxSeen := true, rxIdle := 0 } } : State).monChar ch) := by
  refine congrArg (done s) ((if_neg (by simp [hup])).trans ((if_neg Bool.false_ne_true).trans ?_))
  dsimp only
  rw [if_neg (ne_true_of_eq_false hseen)]
  rfl
/-- The monitor's record as a line has ended. -/
def MonSt.ended (m : MonSt) : MonSt := { m with line := [], tooLong := false, lastCr := true, brk := false, rxIdle := 0 }
theorem exec_lineEnd (hup : s.monUp = true) (hseen : s.mon.rxSeen = true) (htrace : s.mon.trace = 0) (hprompt : s.mon.prompt = true) (hoff : s.bit MON_CTL 1 = false) :
    exec (.monitorCharacter 0x0D false) s = done s (({ s with mon := s.mon.ended } : State).monRun (if s.mon.tooLong = true then .bad else parseLine s.mon.line.reverse)) :=
  (exec_monitorCharacter hup hseen).trans (congrArg (done s) ((monChar_cr (s := { s with mon := { s.mon with rxIdle := 0 } }) hoff).trans
    (monLine_prompt (s := { s with mon := s.mon.ended }) hup htrace hprompt _)))
theorem bit_monFlag {k : Nat} (hk : k < 32) (e : Nat) : (s.flagRaise MON_STAT k e).bit MON_STAT k = true := raise_stat_mono e (by decide) hk (bit_flag_self hk)
/-- The monitor's record after a break on the line, before its reply. -/
def MonSt.broken (m : MonSt) : MonSt :=
  { m with line := [], tooLong := false, lastCr := false, brk := true, baudNext := none, baudLine := none, prompt := false }
theorem traceEnd_clean (h : s.mon.dropped = 0) : s.traceEnd = { s with mon := ({ s.mon with trace := 0, left := 0, buf := [] } : MonSt).reply (txt "ok") } := by
  unfold State.traceEnd State.when
  rw [h]
  rfl
/-- The command of the line that a command of R516 stands for. -/
def lineOf : Instr → Option MonCmd
  | .baud n => some (.baud n)
  | .monEv => some .ev
  | .monStat => some .stat
  | .monPeek a n => some (.peek a n)
  | .monDump a n => some (.dump a n)
  | .monDram a n => some (.dram a n)
  | .monJob k => some (.job k)
  | .monLedger j n => some (.ledger j n)
  | .traceTick n => some (.traceTick n)
  | .monStop => some .stop
  | .poke a v => some (.poke a v)
  | .rmw a v m => some (.rmw a v m)
  | .testOn => some .testOn
  | .testOff => some .testOff
  | _ => none
theorem exec_lineOf (h : lineOf i = some c) : exec i s = doneCore s (s.monLine c) ∨ exec i s = done s (s.monLine c) := by
  unfold lineOf at h
  split at h
  case h_11 => cases h; exact .inr rfl
  case h_12 => cases h; exact .inr rfl
  case h_15 => exact absurd h (by simp)
  all_goals cases h; exact .inl rfl
/-- A command of R516 whose whole effect is on the monitor's record. -/
theorem leads_lineOf {m : MonSt} (hi : lineOf i = some c) (hm : s.monLine c = { s with mon := m }) : leads i s (fun t => t.mon = m ∧ keeps [.mon, .cores] s t) := by
  rcases exec_lineOf (s := s) hi with hexec | hexec
  · rw [hm] at hexec
    exact leads_doneCore hexec ⟨rfl, ((setMon_keeps m).mono (by simp)).answered⟩
  · rw [hm] at hexec
    exact leads_done hexec ⟨rfl, ((setMon_keeps m).mono (by simp)).answered_cores (by simp) _⟩
/-- The rate of the line and the monitor's record change. -/
theorem baudMon_leaves (w : W32) (m : MonSt) : ({ s.wr MON_BAUD w with mon := m } : State).rd MON_BAUD = w ∧ ({ s.wr MON_BAUD w with mon := m } : State).mon = m ∧
    regsOnly [MON_BAUD] s { s.wr MON_BAUD w with mon := m } ∧ keeps [.regs, .mon] s { s.wr MON_BAUD w with mon := m } := by
  have hrd : (s.wr MON_BAUD w).rd MON_BAUD = w := rd_wr_same ..
  have hregs : regsOnly [MON_BAUD] s (s.wr MON_BAUD w) := (regsOnly.refl _ s).wr (by simp)
  have hk : keeps [.regs, .mon] s (s.wr MON_BAUD w) := keeps.wr (keeps.refl _ s) (by simp)
  exact ⟨hrd, rfl, hregs.of_regs rfl, hk.trans (setMon_keeps _) (by simp)⟩
/-- The state after a character has been sent, before the line is found idle. -/
def State.sent (s : State) (ch : Byte) (cs : List Byte) : State := ({ s with mon := { s.mon with tx := cs } } : State).emit (.mon ch)
/-- A rate that the host has written takes effect once a character has been sent. -/
def State.rated (t : State) : State := match t.mon.baudNext with
  | some r => (t.wr MON_BAUD (w32 r)).modMon (fun m => { m with baudNext := none })
  | none => t
theorem exec_txSent {ch : Byte} {cs : List Byte} (h : s.mon.tx = ch :: cs) :
    exec .monTxCharacterSent s = done s (if cs.isEmpty = true then (s.sent ch cs).rated.lineIdle else (s.sent ch cs).rated) := by
  show execMonTxCharacterSent s = _
  unfold execMonTxCharacterSent
  rw [recordNext_busy h]
  dsimp only
  rw [h]
  rfl
theorem sent_plain {ch : Byte} {cs : List Byte} (h : s.mon.baudNext = none) : (s.sent ch cs).rated = s.sent ch cs := by
  unfold State.rated
  rw [show (s.sent ch cs).mon.baudNext = none from h]
theorem lineIdle_prompt_baud (hline : s.mon.baudLine = some n) (hnext : s.mon.promptNext = true) :
    s.lineIdle = { s.wr MON_BAUD (w32 n) with mon := { s.mon with tx := txt "> ", promptNext := false, baudLine := none } } := by
  unfold State.lineIdle
  rw [hline]
  dsimp only
  rw [if_pos hnext]
  exact if_pos hnext
theorem lineIdle_quiet (hline : s.mon.baudLine = none) (hnext : s.mon.promptNext = false) (htrace : s.mon.trace = 0) (hwait : s.mon.waiting = []) :
    s.lineIdle = { s with mon := { s.mon with prompt := true } } := by
  unfold State.lineIdle
  rw [hline]
  dsimp only
  rw [if_neg (ne_true_of_eq_false hnext), if_neg (by simp [htrace])]
  split
  · rfl
  · next heq => exact absurd (hwait.symm.trans heq) (by simp)
theorem monRun_stop (hon : s.bit MON_CTL 0 = true) : s.monRun .stop = { s with mon := ({ s.mon with prompt := false } : MonSt).reply (txt "ok") } := by
  unfold State.monRun
  refine (if_neg (not_disabled hon _)).trans ?_
  simp only [State.sayOk, State.sayEnd, State.say, State.modMon, MonSt.reply]
theorem monRun_bad : s.monRun .bad = { s with mon := ({ s.mon with prompt := false } : MonSt).reply (txt "err 01 SYNTAX") } := by
  unfold State.monRun
  refine (if_neg (not_disabled_always rfl)).trans ?_
  simp only [State.sayErr, State.sayEnd, State.say, State.modMon, MonSt.reply, ← errLine_texts.1, errLine]
theorem traceStart_range {k : Nat} (h : n = 0 ∨ 3000 < n) : s.traceStart k n = { s with mon := s.mon.reply (txt "err 02 RANGE") } := by
  unfold State.traceStart
  refine (if_pos h).trans ?_
  simp only [State.sayErr, State.sayEnd, State.say, State.modMon, MonSt.reply, ← errLine_texts.2.1, errLine]
theorem monRun_baud (h : n ≤ 5) : s.monRun (.baud n) = { s with mon := ({ s.mon with prompt := false, baudLine := some n } : MonSt).reply (txt "ok") } := by
  have hrange : ¬ 5 < n := by omega
  unfold State.monRun
  dsimp only
  rw [if_neg (by simp [alwaysServed]), if_neg hrange]
  simp only [State.sayOk, State.sayEnd, State.say, State.modMon, MonSt.reply]
/-- The monitor's record as `stop` ends a trace that has dropped three records. -/
def MonSt.stopped (m : MonSt) : MonSt :=
  ({ m with trace := 0, left := 0, buf := [], tx := m.tx ++ txt "dropped 3" ++ crlf ++ txt "ok" ++ crlf ++ txt "> " } : MonSt).reply (txt "ok")
theorem traceEnd_dropped (h : s.mon.dropped = 3) :
    s.traceEnd = { s with mon := { s.mon with trace := 0, left := 0, buf := [], tx := s.mon.tx ++ txt "dropped 3" ++ crlf ++ txt "ok" ++ crlf, promptNext := true } } := by
  have htext : spaced [txt "dropped", dec s.mon.dropped] = txt "dropped 3" := by
    rw [h]
    decide
  have hne : (s.mon.dropped != 0) = true := by simp [h]
  unfold State.traceEnd
  dsimp only
  rw [State.when, if_pos hne, htext]
  simp only [State.sayOk, State.sayEnd, State.say, State.modMon]
theorem monLine_stop (hup : s.monUp = true) (htrace : s.mon.trace ≠ 0) (hdrop : s.mon.dropped = 3) : s.monLine .stop = { s with mon := s.mon.stopped } := by
  unfold State.monLine
  rw [if_neg (by simp [hup]), if_pos htrace]
  dsimp only
  rw [traceEnd_dropped hdrop]
  simp only [State.sayOk, State.sayEnd, State.say, State.modMon, MonSt.reply, MonSt.stopped]
theorem exec_monLine (c : MonCmd) {i : Instr} (hi : exec i s = doneCore s (s.monLine c)) {m : MonSt} (hm : s.monLine c = { s with mon := m }) :
    exec i s = .next { s with mon := m } := hi.trans (congrArg (doneCore s) hm)
/-- A command whose whole effect is on the monitor's record. -/
theorem leads_mon {m : MonSt} (hi : exec i s = doneCore s { s with mon := m }) : leads i s (fun t => t.mon = m ∧ keeps [.mon] s t) :=
  leads_doneCore hi ⟨rfl, (setMon_keeps m).answered⟩
theorem leads_mon_done {m : MonSt} (hi : exec i s = done s { s with mon := m }) : leads i s (fun t => t.mon = m ∧ keeps [.mon, .cores] s t) :=
  leads_done hi ⟨rfl, ((setMon_keeps m).mono (by simp)).answered_cores (by simp) _⟩

/-- Settles O55: the characters by `monChar_typed` and `monChar_cr`, the commands by their branch of `monRun`. -/
theorem monitorLine : Obligations.MonitorLine := by
  intro s ch d cs ln n v hphase hans
  have hup := monUp_of hphase hans
  refine ⟨fun hseen hch hlong hlen => ?_, fun hseen htr hch hlong hlen => ?_, fun htr => ?_, fun hseen htr hpr hlong hline hon hecho => ?_,
    fun hseen htr hpr hlong hecho => ?_, fun htr => ?_, fun htr hdrop => ?_, fun htr hpr hln => ?_, fun htx hbaud => ?_, fun htx hbaud hline hn hnext => ?_,
    fun htx hbaud hline hnext htr hwait => ?_, fun htr hpr hon h1 hn q hq => ?_, fun htr hpr hon hn c hc => ?_, fun htr hdrop => ?_, fun htr hpr hon => ?_,
    fun htr hpr hn => ?_, fun htr c hc => ?_, fun htr hpr hoff c hc => ?_, fun hhost => ?_⟩
  · have hexec := exec_monitorCharacter (ch := ch) hup hseen
    rw [monChar_typed (s := { s with mon := { s.mon with rxIdle := 0 } }) hch hlong hlen] at hexec
    exact leads_done hexec ⟨rfl, keepStacks_self _, ((setMon_keeps _).mono (by simp)).answered_cores (by simp) _⟩
  · have hexec := exec_firstCharacter (ch := ch) hup hseen
    have hbit := bit_monFlag (s := s) (k := 0) (by decide) 124
    have hmon : (s.flagRaise MON_STAT 0 124).mon = s.mon := flagRaise_mon _ _ _ htr hans
    have honly := flagRaise_only s MON_STAT 0 124
    have hraised : raised 124 s (s.flagRaise MON_STAT 0 124) := raised_flagRaise rfl rfl
    have hregs : regsKeep [MON_STAT] s (s.flagRaise MON_STAT 0 124) := (regsKeep.refl _ s).flagRaise (by simp)
    generalize s.flagRaise MON_STAT 0 124 = u at *
    rw [monChar_typed (s := { u with mon := { u.mon with rxSeen := true, rxIdle := 0 } }) hch (hmon ▸ hlong) (hmon ▸ hlen)] at hexec
    have hline : (MonSt.typed { u.mon with rxSeen := true, rxIdle := 0 } ch (if u.bit MON_CTL 1 = true then [ch] else [])).line = ch :: s.mon.line :=
      (congrArg (fun m : MonSt => ch :: m.line) hmon :)
    exact leads_done hexec ⟨hline, rfl, hbit, hraised.of_regs rfl, hregs.of_regs rfl, ((honly.keeps.mono (by simp)).trans (setMon_keeps _) (by simp)).answered_cores (by simp) _⟩
  · have hexec : exec (.monitorCharacter ch true) s = done s ((s.count MON_LINE_ERR 1).flagRaise MON_STAT 1 127) :=
      congrArg (done s) ((if_neg (by simp [hup])).trans (if_pos rfl))
    have hbit := bit_monFlag (s := s.count MON_LINE_ERR 1) (k := 1) (by decide) 127
    have hcnt : counted MON_LINE_ERR 1 s ((s.count MON_LINE_ERR 1).flagRaise MON_STAT 1 127) := (counted_count rfl).flagRaise (by decide) rfl
    have hraised : raised 127 s ((s.count MON_LINE_ERR 1).flagRaise MON_STAT 1 127) := raised_flagRaise (t := s.count _ _) rfl rfl
    have hregs : regsKeep [MON_LINE_ERR, MON_STAT] s ((s.count MON_LINE_ERR 1).flagRaise MON_STAT 1 127) := ((regsKeep.refl _ s).count (by simp)).flagRaise (by simp)
    have honly : evtOnly s ((s.count MON_LINE_ERR 1).flagRaise MON_STAT 1 127) := (evtOnly_wr s _ _).trans (flagRaise_only _ _ _ _)
    have hmon : ((s.count MON_LINE_ERR 1).flagRaise MON_STAT 1 127).mon = s.mon := flagRaise_mon (s := s.count MON_LINE_ERR 1) _ _ _ htr hans
    generalize (s.count MON_LINE_ERR 1).flagRaise MON_STAT 1 127 = u at *
    exact leads_done hexec ⟨hmon, hcnt, hbit, hraised, hregs, (keeps_without_mon (honly.keeps.mono (by simp)) hmon).answered_cores (by simp) _⟩
  · have hexec := exec_lineEnd hup hseen htr hpr hecho
    rw [if_neg (ne_true_of_eq_false hlong), hline, show parseLine (txt "STOP") = .stop by decide +kernel] at hexec
    have hended : s.mon.ended = { s.mon with line := [], lastCr := true, brk := false, rxIdle := 0 } := by
      rw [MonSt.ended, ← hlong]
    rw [hended] at hexec
    exact leads_mon_done (hexec.trans (congrArg (done s) (monRun_stop (s := { s with mon := { s.mon with line := [], lastCr := true, brk := false, rxIdle := 0 } }) hon)))
  · have hexec := exec_lineEnd hup hseen htr hpr hecho
    rw [if_pos hlong] at hexec
    exact leads_mon_done (hexec.trans (congrArg (done s) (monRun_bad (s := { s with mon := s.mon.ended }))))
  · have hexec : exec .monitorBreak s = doneCore s { s.wr MON_BAUD 0 with mon := s.mon.broken.reply (txt "ok") } :=
      congrArg (doneCore s) ((if_neg (by simp [hup])).trans (if_neg (by simp [State.modMon, htr])))
    obtain ⟨hrd, hmon, hregs, hk⟩ := baudMon_leaves (s := s) 0 (s.mon.broken.reply (txt "ok"))
    exact leads_doneCore hexec ⟨hrd, hmon, hregs, hk.answered⟩
  · have hexec : exec .monitorBreak s = doneCore s { s.wr MON_BAUD 0 with mon := ({ s.mon.broken with trace := 0, left := 0, buf := [] } : MonSt).reply (txt "ok") } := by
      have hbroken : ({ s.wr MON_BAUD 0 with mon := s.mon.broken } : State).traceEnd = { s.wr MON_BAUD 0 with mon := ({ s.mon.broken with trace := 0, left := 0, buf := [] } : MonSt).reply (txt "ok") } :=
        traceEnd_clean hdrop
      exact congrArg (doneCore s) ((if_neg (by simp [hup])).trans ((if_pos htr).trans hbroken))
    obtain ⟨hrd, -, hregs, hk⟩ := baudMon_leaves (s := s) 0 (({ s.mon.broken with trace := 0, left := 0, buf := [] } : MonSt).reply (txt "ok"))
    exact leads_doneCore hexec ⟨hrd, rfl, rfl, rfl, rfl, hregs, hk.answered⟩
  · exact leads_mon (congrArg (doneCore s) ((if_pos hln).trans ((monLine_prompt hup htr hpr .bad).trans monRun_bad)))
  · have hexec : exec .monTxCharacterSent s = done s (({ s with mon := { s.mon with tx := d :: cs } } : State).emit (.mon ch)) := by
      rw [exec_txSent htx, sent_plain hbaud]
      rfl
    have hk : keeps [.out, .mon, .cores] s (({ s with mon := { s.mon with tx := d :: cs } } : State).emit (.mon ch)) :=
      ((setMon_keeps (s := s) { s.mon with tx := d :: cs }).mono (by simp)).trans (emit_keeps _) (by simp)
    exact leads_done hexec ⟨rfl, rfl, keepStacks_self _, hk.answered_cores (by simp) _⟩
  · have hexec : exec .monTxCharacterSent s = done s (({ s.wr MON_BAUD (w32 n) with mon := { s.mon with tx := txt "> ", promptNext := false, baudLine := none } } : State).emit (.mon ch)) := by
      rw [exec_txSent htx, sent_plain hbaud]
      exact congrArg (done s) ((if_pos rfl).trans (lineIdle_prompt_baud (s := s.sent ch []) hline hnext))
    obtain ⟨hrd, hmon, hregs, hk⟩ := baudMon_leaves (s := s) (w32 n) { s.mon with tx := txt "> ", promptNext := false, baudLine := none }
    exact leads_done hexec ⟨rfl, hrd, hmon, hregs, ((hk.mono (by simp)).trans (emit_keeps _) (by simp)).answered_cores (by simp) _⟩
  · have hexec : exec .monTxCharacterSent s = done s (({ s with mon := { s.mon with tx := [], prompt := true } } : State).emit (.mon ch)) := by
      rw [exec_txSent htx, sent_plain hbaud]
      exact congrArg (done s) ((if_pos rfl).trans (lineIdle_quiet (s := s.sent ch []) hline hnext htr hwait))
    have hk : keeps [.out, .mon, .cores] s (({ s with mon := { s.mon with tx := [], prompt := true } } : State).emit (.mon ch)) :=
      ((setMon_keeps (s := s) { s.mon with tx := [], prompt := true }).mono (by simp)).trans (emit_keeps _) (by simp)
    exact leads_done hexec ⟨rfl, rfl, hk.answered_cores (by simp) _⟩
  · simp only [List.mem_cons, List.not_mem_nil, or_false] at hq
    have hrange : ¬ (n = 0 ∨ 3000 < n) := by omega
    rcases hq with rfl | rfl | rfl
    · exact exec_monLine (.traceTick n) rfl ((monLine_prompt hup htr hpr _).trans ((if_neg (not_disabled hon _)).trans (if_neg hrange)))
    · exact exec_monLine (.traceEv n) rfl ((monLine_prompt hup htr hpr _).trans ((if_neg (not_disabled hon _)).trans (if_neg hrange)))
    · exact exec_monLine (.traceLedger n) rfl ((monLine_prompt hup htr hpr _).trans ((if_neg (not_disabled hon _)).trans (if_neg hrange)))
  · simp only [List.mem_cons, List.not_mem_nil, or_false] at hc
    rcases hc with rfl | rfl | rfl
    · exact exec_monLine (.traceTick n) rfl ((monLine_prompt hup htr hpr _).trans ((if_neg (not_disabled hon _)).trans (traceStart_range (s := s.serving) hn)))
    · exact exec_monLine (.traceEv n) rfl ((monLine_prompt hup htr hpr _).trans ((if_neg (not_disabled hon _)).trans (traceStart_range (s := s.serving) hn)))
    · exact exec_monLine (.traceLedger n) rfl ((monLine_prompt hup htr hpr _).trans ((if_neg (not_disabled hon _)).trans (traceStart_range (s := s.serving) hn)))
  · exact exec_monLine .stop rfl (monLine_stop hup htr hdrop)
  · exact exec_monLine .stop rfl ((monLine_prompt hup htr hpr _).trans (monRun_stop hon))
  · exact exec_monLine (.baud n) rfl ((monLine_prompt hup htr hpr _).trans (monRun_baud hn))
  · simp only [List.mem_cons, List.not_mem_nil, or_false] at hc
    rcases hc with rfl | rfl | rfl | rfl | rfl | rfl | rfl | rfl | rfl | rfl | rfl | rfl <;> exact leads_lineOf rfl (monLine_busy hup htr (by simp) (by simp))
  · simp only [List.mem_cons, List.not_mem_nil, or_false] at hc
    rcases hc with rfl | rfl | rfl | rfl | rfl | rfl | rfl | rfl | rfl | rfl | rfl | rfl <;>
      exact leads_lineOf rfl ((monLine_prompt hup htr hpr _).trans (monRun_disabled hoff rfl))
  · have hexec : exec (.monBaudWrite v) s = doneCore s (s.baudWrite v) := by
      show doneCore s _ = _
      rw [State.hostReg32, byHost_up hhost, regWrite_side (b := .mon) (off := 0x10) rfl rfl (.inr rfl) rfl rfl rfl]
    rcases htx : s.mon.tx with _ | ⟨ch, cs⟩
    · have hw : s.baudWrite v = { s.wr MON_BAUD (v &&& 7) with mon := { s.mon with baudNext := none } } := if_pos (by rw [htx]; rfl)
      rw [hw] at hexec
      obtain ⟨hrd, hmon, hregs, hk⟩ := baudMon_leaves (s := s) (v &&& 7) { s.mon with baudNext := none }
      exact leads_doneCore hexec ⟨fun _ => ⟨hrd, hmon⟩, fun h => absurd rfl h, hregs, hk.answered⟩
    · have hw : s.baudWrite v = { s with mon := { s.mon with baudNext := some (fld v 2 0) } } := if_neg (by rw [htx]; exact Bool.false_ne_true)
      rw [hw] at hexec
      exact leads_doneCore hexec ⟨fun h => absurd h (by simp), fun _ => ⟨rfl, rfl⟩, regsOnly_of_regs rfl, ((setMon_keeps _).mono (by simp)).answered⟩

end Sys2Proof.Machine
end

section
/-! SUPPORT. The monitor's commands (R516 to R520): what each shows or writes. -/

namespace Sys2Proof.Machine

variable {s t u : State} {i : Instr} {c : MonCmd} {a e n k : Nat} {v w : W32} {line : List Byte}

/-! ## Reads of words -/

theorem slice_dramPeek {off len : Nat} (h : off + len ≤ n) : slice (s.dramPeek a n) off len = s.dramPeek (a + off) len := by
  obtain ⟨r, rfl⟩ := Nat.exists_eq_add_of_le h
  unfold slice
  rw [Nat.add_assoc, dramPeek_append, dramPeek_append, List.drop_left' (length_dramPeek ..), List.take_left' (length_dramPeek ..)]
  dsimp only
  rw [length_dramPeek, Nat.sub_self, List.replicate_zero, List.append_nil]
theorem leAt_dramPeek {off len : Nat} (h : off + len ≤ n) : leAt (s.dramPeek a n) off len = leNat (s.dramPeek (a + off) len) := congrArg leNat (slice_dramPeek h)
theorem drop_dramPeek {m : Nat} (h : m ≤ n) : (s.dramPeek a n).drop m = s.dramPeek (a + m) (n - m) := by
  obtain ⟨r, rfl⟩ := Nat.exists_eq_add_of_le h
  rw [dramPeek_append, List.drop_left' (length_dramPeek ..), Nat.add_sub_cancel_left]
/-- The words of a DRAM line, as the monitor shows them. -/
theorem wordsOf_dramPeek (k a : Nat) : wordsOf k (s.dramPeek a (4 * k)) = (upFrom 0 k).map fun j => w32 (leNat (s.dramPeek (a + 4 * j) 4)) := by
  have hgen : ∀ b, wordsOf k (s.dramPeek (a + 4 * b) (4 * k)) = (upFrom b k).map fun j => w32 (leNat (s.dramPeek (a + 4 * j) 4)) := by
    induction k with
    | zero => exact fun _ => rfl
    | succ k ih =>
      intro b
      rw [wordsOf, leAt_dramPeek (by omega), drop_dramPeek (by omega), upFrom, List.map_cons, ← ih (b + 1)]
      rfl
  exact hgen 0

theorem monRead_gap (hlow : 0x240000 ≤ a) (hhigh : a < 0x1000000) : s.monRead a = (s, some 0) :=
  (if_neg (by omega)).trans (if_pos hhigh)
theorem monRead_pool (hlow : 0x1000000 ≤ a) (hhigh : a < 0x2000000) (htest : s.underTest 0 = false) : s.monRead a = (s, some (s.poolW (a - 0x1000000))) := by
  unfold State.monRead
  rw [if_neg (by omega), if_neg (by omega), if_pos hhigh, htest]
  rfl
/-- The words that a run of reads without an effect shows. -/
theorem monWords_pure (f : Nat → W32) (n a : Nat) (h : ∀ j, j < n → s.monRead (a + 4 * j) = (s, some (f (a + 4 * j)))) :
    State.monWords a n s = (s, (upFrom 0 n).map fun j => f (a + 4 * j), true) := by
  have hgen : ∀ b, (∀ j, b ≤ j → j < b + n → s.monRead (a + 4 * j) = (s, some (f (a + 4 * j)))) →
      State.monWords (a + 4 * b) n s = (s, (upFrom b n).map fun j => f (a + 4 * j), true) := by
    clear h
    induction n with
    | zero => exact fun _ _ => rfl
    | succ n ih =>
      intro b h
      have hrest := ih (b + 1) fun j hlow hhigh => h j (by omega) (by omega)
      rw [State.monWords, h b (Nat.le_refl _) (by omega)]
      dsimp only
      rw [Nat.add_assoc a (4 * b) 4, show 4 * b + 4 = 4 * (b + 1) from rfl, hrest, upFrom, List.map_cons]
  exact hgen 0 fun j _ hj => h j (by omega)

/-! ## Lines and replies -/

/-- The monitor's record after a command at the prompt that showed one line and `ok`. -/
def MonSt.answer (m : MonSt) (line : List Byte) : MonSt := { m with prompt := false, tx := m.tx ++ line ++ crlf ++ txt "ok" ++ crlf, promptNext := true }
theorem say_sayOk (line : List Byte) : (s.serving.say line).sayOk = { s with mon := s.mon.answer line } := by
  simp only [State.serving, State.sayOk, State.sayEnd, State.say, State.modMon, MonSt.answer]
theorem answer_words (m : MonSt) (x y z : List Byte) :
    { m with prompt := false, tx := m.tx ++ x ++ y ++ z ++ crlf ++ txt "ok" ++ crlf, promptNext := true } = m.answer (x ++ y ++ z) := by
  simp only [MonSt.answer, List.append_assoc]
theorem wordLine_low (h : a < 2 ^ 32) (ws : List W32) : wordLine a ws = hexW (w32 a) ++ txt ": " ++ spaced (ws.map hexW) := by
  rw [wordLine, addrText, if_pos h]
theorem dumpLines_one (f : Nat) {ws : List W32} (hne : ws ≠ []) (hlen : ws.length ≤ k) : dumpLines k (f + 1) a ws = [wordLine a ws] := by
  have hnil : dumpLines k f (a + 4 * k) [] = [] := by cases f <;> rfl
  rw [dumpLines, if_neg (by simpa using hne), List.take_of_length_le hlen, List.drop_of_length_le hlen, hnil]
theorem monShow_line {f : Nat} {ws : List W32} (hread : State.monWords a (f + 1) s = (s, ws, true)) (hne : ws ≠ []) (hlen : ws.length ≤ k) :
    s.monShow k a (f + 1) = (s.say (wordLine a ws)).sayOk := by
  unfold State.monShow
  rw [hread]
  dsimp only
  rw [dumpLines_one f hne hlen]
  rfl

theorem foldS_say {α : Type} (f : α → List Byte) (l : List α) :
    foldS (fun (t : State) x => t.say (f x)) s l = { s with mon := { s.mon with tx := s.mon.tx ++ l.flatMap fun x => f x ++ crlf } } := by
  induction l generalizing s with
  | nil => simp [foldS]
  | cons x l ih =>
    rw [foldS, ih]
    simp only [State.say, State.modMon, List.flatMap_cons, List.append_assoc]
/-- A command of R516, whatever cores it answers with. -/
theorem leads_lineOf_of (hi : lineOf i = some c) (hm : s.monLine c = u) {p : State → Prop} (hp : ∀ m, p (u.answered s m)) : leads i s p := by
  rcases exec_lineOf (s := s) hi with hexec | hexec
  · exact leads_doneCore (hexec.trans (congrArg _ hm)) (hp _)
  · exact leads_done (hexec.trans (congrArg _ hm)) (hp _)

/-! ## Refusals and writes -/

theorem raiseOnce_mon (e : Nat) (h : s.mon.trace = 0) (ha : s.sys.answering = true) : (s.raiseOnce e).mon = s.mon := by
  unfold State.raiseOnce
  split
  · rfl
  · exact raise_mon (s := { s with sys := { s.sys with onceTick := e :: s.sys.onceTick } }) e h ha
theorem raiseOnce_wr_mon (a b d : Nat) (v w x : W32) (h : s.mon.trace = 0) (ha : s.sys.answering = true) :
    ((((s.wr a v).wr b w).wr d x).raiseOnce e).mon = s.mon := raiseOnce_mon (s := ((s.wr a v).wr b w).wr d x) e h ha
theorem deny_mon (c p x : Nat) (h : s.mon.trace = 0) (ha : s.sys.answering = true) : (s.deny c p x).mon = s.mon := by
  unfold State.deny
  exact raiseOnce_wr_mon _ _ _ _ _ _ h ha
/-- What a write by the monitor is counted and reported with. -/
def State.noted (s : State) : State := (s.count MON_WRITES 1).flagRaise MON_STAT 2 126
theorem noted_only : evtOnly s s.noted := (evtOnly_wr _ _ _).trans (flagRaise_only _ _ _ _)
theorem noted_mon (h : s.mon.trace = 0) (ha : s.sys.answering = true) : s.noted.mon = s.mon := flagRaise_mon (s := s.count _ _) _ _ _ h ha
theorem noted_bit : s.noted.bit MON_STAT 2 = true := bit_monFlag (by decide) 126
theorem monStore_noted (hsilent : s.monSilent a = false) (hw : s.monWrite a v = u) (hphase : u.sys.phase = s.sys.phase) (hreseal : regAt a ≠ some PRS_RESEAL)
    (hread : u.noted.monRead a = (t, some w)) : s.monStore a v = (t.say (wordLine a [w])).sayOk := by
  unfold State.monStore
  rw [hw]
  dsimp only
  rw [if_neg (ne_true_of_eq_false hsilent), if_neg (by simp [hphase]), if_neg hreseal]
  show ((u.noted.monRead a).1.say (wordLine a [(u.noted.monRead a).2.getD 0])).sayOk = _
  rw [hread]
  rfl
theorem monChecked_range (f : State → State) (h : a % 4 ≠ 0 ∨ 2 ^ 32 ≤ a) : s.monChecked a f = s.sayErr 2 := if_pos h
theorem monChecked_denied (f : State → State) (ha : a % 4 = 0) (hlt : a < 2 ^ 32) (hcls : s.class2 = false) : s.monChecked a f = (s.deny 2 3 a).sayErr 3 :=
  (if_neg (by omega)).trans (if_pos (by rw [hcls]; rfl))
theorem monChecked_granted (f : State → State) (ha : a % 4 = 0) (hlt : a < 2 ^ 32) (hcls : s.class2 = true) (hreg : regClass a ≠ 1) : s.monChecked a f = f s :=
  (if_neg (by omega)).trans ((if_neg (by rw [hcls]; exact Bool.false_ne_true)).trans (if_neg fun h => hreg h.1))
theorem regAt_memory (h : 0x240000 ≤ a) : regAt a = none := if_neg (by omega)
theorem regClass_memory (h : 0x240000 ≤ a) : regClass a = 0 := by
  rw [regClass, regAt_memory h]
theorem monSilent_memory (h : 0x240000 ≤ a) : s.monSilent a = false := by
  rw [State.monSilent, decide_eq_false (by omega), Bool.false_and]

theorem refused (e : Nat) : s.serving.sayErr e = { s with mon := ({ s.mon with prompt := false } : MonSt).reply (errLine e) } := by
  simp only [State.serving, State.sayErr, State.sayEnd, State.say, State.modMon, MonSt.reply, errLine]
theorem refused_range : s.serving.sayErr 2 = { s with mon := ({ s.mon with prompt := false } : MonSt).reply (txt "err 02 RANGE") } := by
  rw [← errLine_texts.2.1, refused]

/-! ## Registers that `stat` shows -/

/-- What reading registers and showing lines leaves: a longer reply, and no other part than the monitor's own captures and drawn values. -/
structure Shown (s t : State) : Prop where
  mon : ∃ l, t.mon = { s.mon with tx := s.mon.tx ++ l }
  keeps : keeps [.free, .mon, .sys] s t
theorem Shown.refl (s : State) : Shown s s := ⟨⟨[], by rw [List.append_nil]⟩, keeps.refl _ s⟩
theorem Shown.trans (h : Shown s t) (h' : Shown t u) : Shown s u := by
  obtain ⟨l, hl⟩ := h.mon
  obtain ⟨l', hl'⟩ := h'.mon
  refine ⟨⟨l ++ l', ?_⟩, h.keeps.trans h'.keeps fun _ => id⟩
  rw [hl', hl, List.append_assoc]
theorem Shown.say (h : Shown s t) (line : List Byte) : Shown s (t.say line) :=
  h.trans ⟨⟨line ++ crlf, by simp only [State.say, State.modMon, List.append_assoc]⟩, (modMon_keeps _).mono (by simp)⟩
theorem Shown.silent (h : Shown s t) (b : Block) : t.hwSilent b = s.hwSilent b := by
  have hhwd := h.keeps.part (p := .hwd) (by simp)
  have hpwd := h.keeps.part (p := .pwd) (by simp)
  unfold State.hwSilent State.hwHere State.domFailed
  rw [h.keeps.fit, show t.hwd = s.hwd from hhwd, show t.pwd = s.pwd from hpwd]
theorem monReg_shown (a : Nat) : Shown s (s.monReg a).1 := by
  unfold State.monReg
  split
  · exact .refl s
  · next b off _ =>
    split
    · exact .refl s
    · have hcap : Shown s { s with sys := { s.sys with capMon := s.capture s.sys.capMon b off } } := ⟨⟨[], by rw [List.append_nil]⟩, by simp [keeps_iff]⟩
      generalize ({ s with sys := { s.sys with capMon := s.capture s.sys.capMon b off } } : State) = u at *
      dsimp only
      cases readsPhase (blkBase b + off)
      · exact hcap
      · exact hcap.trans ⟨⟨[], by rw [List.append_nil]; rfl⟩, by simp [keeps_iff, State.when, State.drawn]⟩
theorem monRead_reg {b : Block} {off : Nat} (hlow : a < 0xFE000) (hl : locate a = some (b, off)) (hs : s.hwSilent .hwd = false) :
    s.monRead a = ((s.monReg a).1, some (s.monReg a).2) := by
  have hb : s.hwSilent b = false := by
    by_cases h : b = .hwd
    · rw [h, hs]
    · rw [State.hwSilent, beq_false_of_ne h, Bool.false_and, Bool.false_and]
  have hm : s.msixAt a = false := by simp [State.msixAt, show ¬ 0xFE000 ≤ a by omega]
  unfold State.monRead
  rw [if_pos (by omega), if_neg (ne_true_of_eq_false hm)]
  simp only [hl, hb, Bool.false_eq_true, if_false]
/-- One word more of a line of `stat`. -/
def statWord (p : State × List W32 × Bool) (a : Nat) : State × List W32 × Bool := ((p.1.monRead a).1, p.2.1 ++ [(p.1.monRead a).2.getD 0], p.2.2 && (p.1.monRead a).2.isSome)
theorem statWords_shown {p : State × List W32 × Bool} (l : List Nat) (hl : ∀ a ∈ l, a < 0xFE000 ∧ (locate a).isSome = true) (hs : p.1.hwSilent .hwd = false) (hp : p.2.2 = true) :
    Shown p.1 (foldS statWord p l).1 ∧ (foldS statWord p l).2.2 = true := by
  induction l generalizing p with
  | nil => exact ⟨.refl _, hp⟩
  | cons a l ih =>
    obtain ⟨hlow, hloc⟩ := hl a (by simp)
    obtain ⟨⟨b, off⟩, hloc⟩ := Option.isSome_iff_exists.mp hloc
    have hread := monRead_reg hlow hloc hs
    have hshown : Shown p.1 (statWord p a).1 := by
      rw [statWord, hread]
      exact monReg_shown a
    obtain ⟨hrest, hok⟩ := ih (p := statWord p a) (fun x hx => hl x (by simp [hx])) ((hshown.silent _).trans hs) (by rw [statWord, hread]; simp [hp])
    exact ⟨hshown.trans hrest, hok⟩
theorem statLine_shown {q : State × Bool} (n : String × List Nat) (hl : ∀ a ∈ n.2, a < 0xFE000 ∧ (locate a).isSome = true) (hs : q.1.hwSilent .hwd = false) (hq : q.2 = true) :
    Shown q.1 (State.statLine q n).1 ∧ (State.statLine q n).2 = true := by
  obtain ⟨hshown, hok⟩ := statWords_shown (p := (q.1, [], true)) n.2 hl hs rfl
  exact ⟨hshown.say _, by show (q.2 && (foldS statWord (q.1, [], true) n.2).2.2) = true; rw [hq, hok]; rfl⟩
theorem statLines_shown {q : State × Bool} (l : List (String × List Nat)) (hl : ∀ n ∈ l, ∀ a ∈ n.2, a < 0xFE000 ∧ (locate a).isSome = true)
    (hs : q.1.hwSilent .hwd = false) (hq : q.2 = true) : Shown q.1 (foldS State.statLine q l).1 ∧ (foldS State.statLine q l).2 = true := by
  induction l generalizing q with
  | nil => exact ⟨.refl _, hq⟩
  | cons n l ih =>
    obtain ⟨hshown, hok⟩ := statLine_shown n (hl n (by simp)) hs hq
    obtain ⟨hrest, hok'⟩ := ih (q := State.statLine q n) (fun x hx => hl x (by simp [hx])) ((hshown.silent _).trans hs) hok
    exact ⟨hshown.trans hrest, hok'⟩
theorem monReg_mon (a : Nat) : (s.monReg a).1.mon = s.mon := by
  unfold State.monReg
  split
  · rfl
  · next b off _ =>
    split
    · rfl
    · dsimp only
      cases readsPhase (blkBase b + off) <;> rfl
/-- The first line of `stat`, and the others. -/
def State.statHead (s : State) : State × Bool := ((s.monReg SYS_STAT).1.say (txt "SYS_STAT " ++ hexW (s.monReg SYS_STAT).2), true)
theorem statLine_head (hs : s.hwSilent .hwd = false) : State.statLine (s, true) ("SYS_STAT", [SYS_STAT]) = s.statHead := by
  have hread := monRead_reg (s := s) (a := SYS_STAT) (b := .sys) (off := 8) (by decide) rfl hs
  have htext : txt "SYS_STAT" ++ [0x20] = txt "SYS_STAT " := by decide
  unfold State.statLine State.statHead
  simp only [foldS, hread, List.nil_append, List.map_cons, List.map_nil, spaced, htext, Option.getD_some, Option.isSome_some, Bool.and_true]
/-- The other lines of `stat`: before Heartwood's, Heartwood's own, after it, and the end. -/
def statMiddle : List (String × List Nat) := [("TCK_STAT", [TCK_STAT]), ("IMG_STATE", [IMG_STATE]), ("TWN_STATE", [TWN_STATE]), ("CLK_STATE", [CLK_STATE])]
def statTail : List (String × List Nat) := [("LDG_ACC", [LDG_ACC_HI, LDG_ACC_LO]), ("LDG_EXE", [LDG_EXE_HI, LDG_EXE_LO]), ("TCK_LOAD", [TCK_LOAD])]
def statHwd (here : Bool) (q : State × Bool) : State × Bool := if here then State.statLine q ("HWD_STATE", [HWD_STATE]) else (q.1.say (txt "HWD_STATE -"), q.2)
def statEnd (q : State × Bool) : State := if q.2 then q.1.sayOk else q.1.sayErr 6
theorem statMiddle_located : ∀ n ∈ statMiddle, ∀ a ∈ n.2, a < 0xFE000 ∧ (locate a).isSome = true := by decide
theorem statTail_located : ∀ n ∈ statTail, ∀ a ∈ n.2, a < 0xFE000 ∧ (locate a).isSome = true := by decide
theorem statHwd_shown {q : State × Bool} (here : Bool) (hs : q.1.hwSilent .hwd = false) (hq : q.2 = true) :
    Shown q.1 (statHwd here q).1 ∧ (statHwd here q).2 = true := by
  cases here
  · exact ⟨(Shown.refl _).say _, hq⟩
  · exact statLine_shown _ (by decide) hs hq
theorem monStatLines_eq (hs : s.hwSilent .hwd = false) :
    s.monStatLines = statEnd (foldS State.statLine (statHwd s.fit.variantA (foldS State.statLine s.statHead statMiddle)) statTail) := by
  rw [← statLine_head hs]
  rfl
/-- `stat` begins with SYS_STAT, and ends with `ok`. -/
theorem monStatLines_shown (hs : s.hwSilent .hwd = false) : ∃ u, s.monStatLines = u.sayOk ∧ Shown s.statHead.1 u := by
  have hhead : Shown s s.statHead.1 := (monReg_shown SYS_STAT).say _
  have hlines := monStatLines_eq hs
  have hs0 := (hhead.silent _).trans hs
  obtain ⟨h1, hok1⟩ := statLines_shown (q := s.statHead) statMiddle statMiddle_located hs0 rfl
  generalize foldS State.statLine s.statHead statMiddle = q1 at *
  have hs1 := (h1.silent _).trans hs0
  obtain ⟨h2, hok2⟩ := statHwd_shown s.fit.variantA hs1 hok1
  generalize statHwd s.fit.variantA q1 = q2 at *
  obtain ⟨h3, hok3⟩ := statLines_shown statTail statTail_located ((h2.silent _).trans hs1) hok2
  exact ⟨_, hlines.trans (if_pos hok3), (h1.trans h2).trans h3⟩

/-! ## The commands of R516 at the prompt, MON_CTL.ENABLE at 1 -/

theorem monRun_peek (hon : s.bit MON_CTL 0 = true) (h : ¬ (a % 4 ≠ 0 ∨ 2 ^ 32 ≤ a ∨ n = 0 ∨ 256 < n)) : s.monRun (.peek a n) = s.serving.monShow 1 a n :=
  (if_neg (not_disabled hon _)).trans (if_neg h)
theorem monRun_dump (hon : s.bit MON_CTL 0 = true) (h : ¬ (a % 4 ≠ 0 ∨ 2 ^ 32 ≤ a ∨ n < 4 ∨ 65536 < n)) :
    s.monRun (.dump a n) = s.serving.monShow 4 a ((n + 15) / 16 * 4) := (if_neg (not_disabled hon _)).trans (if_neg h)
theorem monRun_dram (hon : s.bit MON_CTL 0 = true) (h : ¬ (a % 16 ≠ 0 ∨ n < 4 ∨ 65536 < n)) :
    s.monRun (.dram a n) = s.serving.monDramRead a ((n + 15) / 16 * 16) := (if_neg (not_disabled hon _)).trans (if_neg h)
theorem monRun_ev (hon : s.bit MON_CTL 0 = true) :
    s.monRun .ev = (foldS (fun (t : State) e => t.say (eventLabel e)) s.serving ((upFrom 0 128).filter s.serving.pends)).sayOk := if_neg (not_disabled hon _)
theorem monRun_job (hon : s.bit MON_CTL 0 = true) (k : Nat) : s.monRun (.job k) = if 16 ≤ k then s.serving.sayErr 2 else s.serving.monJobLine k :=
  if_neg (not_disabled hon _)
theorem monRun_ledger (hon : s.bit MON_CTL 0 = true) (h : ¬ (65536 ≤ a ∨ n = 0 ∨ 64 < n)) : s.monRun (.ledger a n) = State.monEntries n a s.serving :=
  (if_neg (not_disabled hon _)).trans (if_neg h)
theorem monRun_stat : s.monRun .stat = s.serving.monStatLines := if_neg (not_disabled_always rfl)
theorem monRun_poke (hon : s.bit MON_CTL 0 = true) : s.monRun (.poke a v) = s.serving.monChecked a (fun t => t.monStore a v) := if_neg (not_disabled hon _)
theorem monRun_rmw {m : W32} (hon : s.bit MON_CTL 0 = true) : s.monRun (.rmw a v m) = s.serving.monChecked a (fun t => t.monRmw a v m) := if_neg (not_disabled hon _)
theorem monRun_testOn (hon : s.bit MON_CTL 0 = true) : s.monRun .testOn = s.serving.monTest true := if_neg (not_disabled hon _)
theorem monRun_testOff (hon : s.bit MON_CTL 0 = true) : s.monRun .testOff = s.serving.monTest false := if_neg (not_disabled hon _)

theorem counted_serving {b j : Nat} (h : counted b j s.serving t) : counted b j s t := h
/-- A command that needs DEVELOP is refused. -/
theorem leads_develop {x : Nat} (htr : s.mon.trace = 0) (hans : s.sys.answering = true) (hi : lineOf i = some c) (hm : s.monLine c = (s.serving.deny 2 3 x).sayErr 3) : leads i s (fun t =>
    t.mon.tx = s.mon.tx ++ txt "err 03 DEVELOP" ++ crlf ∧ t.mon.promptNext = true ∧ counted PRS_DENIED 1 s t ∧ t.bit PRS_STAT 2 = true ∧ (s.sys.onceTick.contains 19 = false → raised 19 s t) ∧
    t.mem = s.mem ∧ t.trk = s.trk ∧ regsKeep [PRS_DENIED, PRS_STAT, PRS_DENIED_LAST] s t ∧ keeps [.regs, .out, .mon, .sys, .cores] s t) := by
  have hraised : s.sys.onceTick.contains 19 = false → raised 19 s (s.serving.deny 2 3 x) := fun h => raised_raiseOnce rfl rfl h
  obtain ⟨hcnt, hbit, hregs⟩ := deny_refuses (s := s.serving) 2 3 x
  have honly := deny_only (s := s.serving) 2 3 x
  have hmon : (s.serving.deny 2 3 x).mon = s.serving.mon := deny_mon 2 3 x htr hans
  have hk : keeps [.regs, .out, .mon, .sys, .cores] s (s.serving.deny 2 3 x) := ((modMon_keeps _).mono (by simp)).evt (by simp) honly
  generalize s.serving.deny 2 3 x = u at *
  have htx : (u.sayErr 3).mon.tx = s.mon.tx ++ txt "err 03 DEVELOP" ++ crlf := by
    rw [← errLine_texts.2.2.1]
    exact (congrArg (fun m : MonSt => m.tx ++ errLine 3 ++ crlf) hmon :)
  exact leads_lineOf_of hi hm fun cs => ⟨htx, rfl, counted_serving hcnt, hbit, fun h => (hraised h).of_regs rfl, honly.mem, honly.trk, hregs.of_regs rfl,
    (hk.trans ((setMon_keeps _).mono (by simp)) fun _ => id).answered_cores (by simp) _⟩

/-- What a write of a word of the pool leaves. -/
theorem poolWrW_leaves (o : Nat) (v : W32) : (s.poolWrW o v).poolW o = v ∧ sameBut [o, o + 1, o + 2, o + 3] 0 s.mem.pool (s.poolWrW o v).mem.pool ∧
    keeps [.mem] s (s.poolWrW o v) := by
  refine ⟨?_, fun x hx => ?_, by simp [keeps_iff, State.poolWrW, State.poolWr]⟩
  · have hread := memRead_memWrite s.mem.pool o (leBytes 4 v.toNat)
    rw [length_leBytes] at hread
    exact (congrArg (fun l => w32 (leNat l)) hread).trans (word_leBytes v)
  · simp only [List.mem_cons, List.not_mem_nil, or_false, not_or] at hx
    refine memWrite_other _ _ _ ?_
    rw [length_leBytes]
    omega
/-- What the monitor shows of a write that it has counted. -/
theorem noted_answer (hmon : u.mon = s.serving.mon) (htr : s.mon.trace = 0) (hans : u.sys.answering = true) (line : List Byte) :
    (u.noted.say line).sayOk = { u.noted with mon := s.mon.answer line } := by
  have h : u.noted.mon = { s.mon with prompt := false } := (noted_mon (hmon.symm ▸ htr) hans).trans hmon
  generalize u.noted = f at *
  simp only [State.sayOk, State.sayEnd, State.say, State.modMon, MonSt.answer, h]
/-- A write by the monitor: what is shown, counted and reported. -/
theorem noted_leaves {as : List Nat} {ps : List Part} {m : MonSt} (hregs : regsOnly as s u) (hmem : MON_WRITES ∉ as) (hk : keeps ps s u) (hsys : .sys ∉ ps) (cs : Sparse Core) :
    counted MON_WRITES 1 s (State.answered { u.noted with mon := m } s cs) ∧ (State.answered { u.noted with mon := m } s cs).bit MON_STAT 2 = true ∧
    raised 126 s (State.answered { u.noted with mon := m } s cs) ∧ regsKeep (MON_WRITES :: MON_STAT :: as) s (State.answered { u.noted with mon := m } s cs) ∧
    keeps ([.regs, .out, .mon, .sys, .cores] ++ ps) s (State.answered { u.noted with mon := m } s cs) := by
  have hcnt : counted MON_WRITES 1 s u.noted := (counted_count (hregs _ hmem)).flagRaise (by decide) rfl
  have hraised : raised 126 s u.noted := raised_flagRaise (t := u.count _ _) hk.fit (congrArg SysSt.answering (hk.part hsys))
  have hkeep : keeps ([.regs, .out, .mon, .sys, .cores] ++ ps) s u.noted := (hk.mono (List.subset_append_right _ ps)).evt (by simp) noted_only
  have hregs' : regsKeep (MON_WRITES :: MON_STAT :: as) s u.noted := ((hregs.keep.mono (List.subset_append_right [MON_WRITES, MON_STAT] as)).count (by simp)).flagRaise (by simp)
  have hbit := noted_bit (s := u)
  generalize u.noted = f at *
  exact ⟨hcnt, hbit, hraised.of_regs rfl, hregs'.of_regs rfl, (hkeep.trans ((setMon_keeps m).mono (by simp)) fun _ => id).answered_cores (by simp) _⟩
/-- A word of the pool that the monitor writes, and its reply. -/
theorem monStore_pool (htr : s.mon.trace = 0) (hans : s.sys.answering = true) (hlow : 0x1000000 ≤ a) (hhigh : a < 0x2000000) (htest : s.underTest 0 = false) :
    s.serving.monStore a w = { (s.serving.poolWrW (a - 0x1000000) w).noted with mon := s.mon.answer (wordLine a [w]) } := by
  obtain ⟨hword, -, -⟩ := poolWrW_leaves (s := s.serving) (a - 0x1000000) w
  have hwrite : s.serving.monWrite a w = s.serving.poolWrW (a - 0x1000000) w := by
    unfold State.monWrite
    rw [if_neg (by omega), if_neg (by omega), if_pos hhigh, if_neg (show ¬ s.serving.underTest 0 = true from ne_true_of_eq_false htest)]
  have htest' : (s.serving.poolWrW (a - 0x1000000) w).underTest 0 = false := htest
  have hmon : (s.serving.poolWrW (a - 0x1000000) w).mon = s.serving.mon := rfl
  have hphase : (s.serving.poolWrW (a - 0x1000000) w).sys = s.serving.sys := rfl
  have hans' : (s.serving.poolWrW (a - 0x1000000) w).sys.answering = true := hans
  generalize s.serving.poolWrW (a - 0x1000000) w = u at *
  have hmem := noted_only (s := u).mem
  have hread : u.noted.monRead a = (u.noted, some w) := by
    rw [monRead_pool hlow hhigh (by rw [State.underTest, hmem]; exact htest'), State.poolW, hmem]
    exact congrArg (fun x => (u.noted, some x)) hword
  rw [monStore_noted (monSilent_memory (by omega)) hwrite (congrArg SysSt.phase hphase) (by rw [regAt_memory (by omega)]; simp) hread]
  exact noted_answer hmon htr hans' _
theorem leads_poolStore (htr : s.mon.trace = 0) (hans : s.sys.answering = true) (hlow : 0x1000000 ≤ a) (hhigh : a < 0x2000000) (htest : s.underTest 0 = false)
    (hi : lineOf i = some c) (hm : s.monLine c = s.serving.monStore a w) : leads i s (fun t => t.poolW (a - 0x1000000) = w ∧
      t.mon = { s.mon with prompt := false, tx := s.mon.tx ++ hexW (w32 a) ++ txt ": " ++ hexW w ++ crlf ++ txt "ok" ++ crlf, promptNext := true } ∧
      counted MON_WRITES 1 s t ∧ t.bit MON_STAT 2 = true ∧ raised 126 s t ∧ sameBut [a - 0x1000000, a - 0xFFFFFF, a - 0xFFFFFE, a - 0xFFFFFD] 0 s.mem.pool t.mem.pool ∧
      regsKeep [MON_WRITES, MON_STAT] s t ∧ keeps [.regs, .out, .mon, .sys, .cores, .mem] s t) := by
  rw [monStore_pool htr hans hlow hhigh htest] at hm
  obtain ⟨hword, hbut, hk⟩ := poolWrW_leaves (s := s.serving) (a - 0x1000000) w
  have hregs : regsOnly [] s (s.serving.poolWrW (a - 0x1000000) w) := regsOnly_of_regs rfl
  rw [show a - 0x1000000 + 1 = a - 0xFFFFFF by omega, show a - 0x1000000 + 2 = a - 0xFFFFFE by omega, show a - 0x1000000 + 3 = a - 0xFFFFFD by omega] at hbut
  have hk' : keeps [.mon, .mem] s (s.serving.poolWrW (a - 0x1000000) w) := (modMon_keeps (s := s) _).mono (by simp) |>.trans hk (by simp)
  generalize s.serving.poolWrW (a - 0x1000000) w = u at *
  have hmem := noted_only (s := u).mem
  have hleaves := noted_leaves (m := s.mon.answer (wordLine a [w])) hregs (by simp) hk' (by simp)
  have hword' : u.noted.poolW (a - 0x1000000) = w := (congrArg (fun m : MemSt => w32 (leNat (memRead m.pool (a - 0x1000000) 4))) hmem).trans hword
  have hline : s.mon.answer (wordLine a [w]) = { s.mon with prompt := false, tx := s.mon.tx ++ hexW (w32 a) ++ txt ": " ++ hexW w ++ crlf ++ txt "ok" ++ crlf, promptNext := true } := by
    rw [answer_words, wordLine_low (by omega)]
    rfl
  refine leads_lineOf_of hi hm fun cs => ?_
  obtain ⟨hcnt, hbit, hraised, hregs', hkeep⟩ := hleaves cs
  exact ⟨hword', hline, hcnt, hbit, hraised, (congrArg MemSt.pool hmem).symm ▸ hbut, hregs', hkeep.mono (by simp)⟩

/-- The lock that NORMAL refuses to the monitor. -/
theorem leads_lockout (htr : s.mon.trace = 0) (hans : s.sys.answering = true) (hi : lineOf i = some c)
    (hm : s.monLine c = (s.serving.lockout 1 2 false a).sayErr 7) : leads i s (fun t => t.mem = s.mem ∧
      t.mon = { s.mon with prompt := false, tx := s.mon.tx ++ txt "err 07 LOCKED" ++ crlf, promptNext := true } ∧ t.rd TRK_LOCKOUT_LAST = w32 (2 ^ 28 + 2 * 2 ^ 25 + a / 64 % 2 ^ 24) ∧
      counted TRK_LOCKOUT_COUNT 1 s t ∧ t.bit TRK_STAT 0 = true ∧ raised 92 s t ∧ regsKeep [TRK_LOCKOUT_LAST, TRK_LOCKOUT_COUNT, TRK_STAT] s t ∧ keeps [.regs, .out, .mon, .sys, .cores] s t) := by
  have hword : trkWord 1 2 false a = w32 (2 ^ 28 + 2 * 2 ^ 25 + a / 64 % 2 ^ 24) := rfl
  have hregs : regsOnly [TRK_LOCKOUT_LAST] s (s.serving.wr TRK_LOCKOUT_LAST (trkWord 1 2 false a)) := ((regsOnly.refl _ s).of_regs rfl).wr (by simp)
  have hk : keeps [.regs, .mon] s (s.serving.wr TRK_LOCKOUT_LAST (trkWord 1 2 false a)) := keeps.wr ((modMon_keeps _).mono (by simp)) (by simp)
  have hrd : (s.serving.wr TRK_LOCKOUT_LAST (trkWord 1 2 false a)).rd TRK_LOCKOUT_LAST = trkWord 1 2 false a := rd_wr_same ..
  have hmon : (s.serving.wr TRK_LOCKOUT_LAST (trkWord 1 2 false a)).mon = s.serving.mon := rfl
  have hmem : (s.serving.wr TRK_LOCKOUT_LAST (trkWord 1 2 false a)).mem = s.mem := rfl
  have hans' : (s.serving.wr TRK_LOCKOUT_LAST (trkWord 1 2 false a)).sys.answering = true := hans
  have hlock : s.serving.lockout 1 2 false a = ((s.serving.wr TRK_LOCKOUT_LAST (trkWord 1 2 false a)).count TRK_LOCKOUT_COUNT 1).flagRaise TRK_STAT 0 92 := rfl
  rw [hlock] at hm
  rw [← hword]
  generalize trkWord 1 2 false a = word at *
  generalize s.serving.wr TRK_LOCKOUT_LAST word = u at *
  have hrep := (hk.quietBut (by simp) hregs).reported (a := TRK_LOCKOUT_COUNT) (b := TRK_STAT) (i := 0) rfl rfl (by decide) (by decide) (by decide) 1 92
  have hmon' : ((u.count TRK_LOCKOUT_COUNT 1).flagRaise TRK_STAT 0 92).mon = s.serving.mon := (flagRaise_mon (s := u.count _ _) _ _ _ (hmon.symm ▸ htr) hans').trans hmon
  have hrd' : ((u.count TRK_LOCKOUT_COUNT 1).flagRaise TRK_STAT 0 92).rd TRK_LOCKOUT_LAST = word :=
    (flagRaise_rd _ TRK_STAT 0 92 (b := TRK_LOCKOUT_LAST) rfl (by decide)).trans ((rd_count_ne _ _ (by decide)).trans hrd)
  generalize (u.count TRK_LOCKOUT_COUNT 1).flagRaise TRK_STAT 0 92 = f at *
  have hkeep : keeps [.regs, .out, .mon, .sys, .cores] s f := (hk.mono (by simp)).evt (by simp) hrep.only
  have hreply : (f.sayErr 7).mon = { s.mon with prompt := false, tx := s.mon.tx ++ txt "err 07 LOCKED" ++ crlf, promptNext := true } := by
    rw [← errLine_texts.2.2.2.2.1]
    exact (congrArg (fun m : MonSt => m.reply (errLine 7)) hmon' :)
  exact leads_lineOf_of hi hm fun cs => ⟨hrep.only.mem.trans hmem, hreply, hrd', hrep.counted, hrep.bit, hrep.raised.of_regs rfl, (hrep.regs.mono (by simp)).of_regs rfl,
    (hkeep.trans ((setMon_keeps _).mono (by simp)) fun _ => id).answered_cores (by simp) _⟩
theorem mode_texts : spaced [txt "mode", dec 1] = txt "mode 1" ∧ spaced [txt "mode", dec 2] = txt "mode 2" := by decide
theorem trkMode_idle (hready : s.sys.ready = true) (hact : s.mem.act ≠ .destructive) (himg : s.img.phase = .idle) : s.trkMode = if s.trk.test then 2 else 1 := by
  unfold State.trkMode
  rw [if_neg (by simp [hready]), if_neg (by simpa using hact), himg]
theorem lockForced_free (h : s.trk.lock = none) : s.lockForced = s := by
  unfold State.lockForced
  rw [h]
/-- TEST mode switched, before the fabric looks at its lock. -/
def State.testing (s : State) (on : Bool) : State := { s with trk := { s.trk with test := on } }
theorem monTest_shown {on : Bool} {d : Nat} (hcls : s.class2 = true) (hports : ¬ (on && s.img.running.isSome && s.ports.any (fun p => p.2.st != .off)) = true)
    (hlock : (s.testing on).serving.lockMode = (s.testing on).serving) (hmode : (s.testing on).serving.trkMode = d) :
    s.serving.monTest on = { s.testing on with mon := s.mon.answer (spaced [txt "mode", dec d]) } := by
  have hgranted : s.serving.monTest on = ((State.lockMode (s.testing on).serving).say (spaced [txt "mode", dec (State.lockMode (s.testing on).serving).trkMode])).sayOk :=
    (if_neg (by rw [show s.serving.class2 = true from hcls]; exact Bool.false_ne_true)).trans (if_neg hports)
  rw [hgranted, hlock, hmode]
  exact say_sayOk (s := s.testing on) _

/-! ## A mask register that the monitor writes -/

theorem written_all (old v : W32) : written old v (0xFFFFFFFF ||| 0 ||| 0) (rw 0x20 0xFFFFFFFF 0xFFFFFFFF 0) = v := by
  have hones : 4294967295#32 = BitVec.allOnes 32 := by decide
  simp only [written, BitVec.ofNat_eq_ofNat, BitVec.or_zero, BitVec.and_zero, BitVec.not_zero, hones, BitVec.and_allOnes, BitVec.not_allOnes, BitVec.zero_or]
theorem locate_mask : locate 0x1020 = some (.evt, 0x20) := by decide
theorem spec_mask : specAt (blkBase .evt + 0x20) = some (rw 0x20 0xFFFFFFFF 0xFFFFFFFF 0) := by decide
theorem plainWrite_mask : s.plainWrite .evt 0x1020 (rw 0x20 0xFFFFFFFF 0xFFFFFFFF 0) v = s.wr 0x1020 v := by
  have hwritable : s.writable .evt (rw 0x20 0xFFFFFFFF 0xFFFFFFFF 0) = 0xFFFFFFFF ||| 0 ||| 0 := by
    unfold State.writable
    simp only [ite_self]
  unfold State.plainWrite
  rw [hwritable, written_all]
  simp only [State.when, State.ignored, BitVec.ofNat_eq_ofNat, BitVec.and_zero, bne_self_eq_false, Bool.false_and, Bool.false_eq_true, if_false]
theorem regWrite_mask : s.regWrite 3 0x1020 v = s.wr 0x1020 v := by
  have hblock : s.blockWrite 3 .evt 0x20 v = s.plainWrite .evt 0x1020 (rw 0x20 0xFFFFFFFF 0xFFFFFFFF 0) v := by
    have hbad : s.badArg .evt 0x20 v = none := rfl
    have hside : s.sideWrite 3 .evt 0x20 v = none := by simp [State.sideWrite]
    have htaken : s.taken .evt 0x20 v = v := rfl
    unfold State.blockWrite
    simp only [spec_mask, hbad, hside, htaken, ite_self]
    exact if_neg (by simp [dumb])
  unfold State.regWrite
  rw [locate_mask]
  exact (if_neg (by simp)).trans ((if_neg (by simp)).trans ((if_neg (by simp [State.hwSilent])).trans (hblock.trans plainWrite_mask)))
theorem monReg_mask : s.monReg 0x1020 = (s, s.rd 0x1020) := by
  unfold State.monReg
  rw [locate_mask]
  exact (if_neg (by simp [State.hwSilent])).trans rfl
theorem monRead_mask : s.monRead 0x1020 = (s, some (s.rd 0x1020)) := by
  unfold State.monRead
  rw [if_pos (by decide), if_neg (by simp [State.msixAt]), locate_mask, monReg_mask]
  exact if_neg (by simp [State.hwSilent])
theorem maskWritten_leaves (v : W32) : regsOnly [0x1020] s (s.serving.wr 0x1020 v) ∧ (s.serving.wr 0x1020 v).rd 0x1020 = v ∧ keeps [.regs, .mon] s (s.serving.wr 0x1020 v) :=
  ⟨((regsOnly.refl _ s).of_regs (u := s.serving) rfl).wr (by simp), rd_wr_same .., keeps.wr ((modMon_keeps _).mono (by simp)) (by simp)⟩
theorem monStore_mask (htr : s.mon.trace = 0) (hans : s.sys.answering = true) :
    s.serving.monStore 0x1020 v = { (s.serving.wr 0x1020 v).noted with mon := s.mon.answer (wordLine 0x1020 [v]) } := by
  have hwrite : s.serving.monWrite 0x1020 v = s.serving.wr 0x1020 v := (if_pos (by decide)).trans ((if_neg (by simp [State.msixAt])).trans regWrite_mask)
  have hsilent : s.serving.monSilent 0x1020 = false := by
    unfold State.monSilent
    rw [locate_mask]
    simp [State.hwSilent]
  have hmon : (s.serving.wr 0x1020 v).mon = s.serving.mon := rfl
  have hsys : (s.serving.wr 0x1020 v).sys = s.serving.sys := rfl
  have hans' : (s.serving.wr 0x1020 v).sys.answering = true := hans
  have hrd : (s.serving.wr 0x1020 v).rd 0x1020 = v := rd_wr_same ..
  generalize s.serving.wr 0x1020 v = u at *
  have hrd' : u.noted.rd 0x1020 = v := (flagRaise_rd _ MON_STAT 2 126 (b := 0x1020) rfl (by decide)).trans ((rd_count_ne _ _ (by decide)).trans hrd)
  have hread := monRead_mask (s := u.noted)
  rw [hrd'] at hread
  rw [monStore_noted hsilent hwrite (congrArg SysSt.phase hsys) (by decide) hread]
  exact noted_answer hmon htr hans' _
theorem mask_shown (m : MonSt) (v : W32) : (m.answer (wordLine 0x1020 [v])).tx = m.tx ++ txt "0x0000_1020: " ++ hexW v ++ crlf ++ txt "ok" ++ crlf := by
  have htext : hexW (w32 0x1020) ++ txt ": " = txt "0x0000_1020: " := by decide
  rw [wordLine_low (by decide), htext]
  simp only [MonSt.answer, List.append_assoc, List.map_cons, List.map_nil, spaced]

/-- Settles O56: each command's branch of `monRun`, its lines by `say_sayOk`, its writes by `monStore_noted`. -/
theorem monitorCommands : Obligations.MonitorCommands := by
  intro s a n k v m w hphase hans htr hpr hon
  have hup := monUp_of hphase hans
  have hrun : ∀ c, s.monLine c = s.monRun c := monLine_prompt hup htr hpr
  refine ⟨fun ha hlow hhigh htest => ?_, fun ha hlow hhigh htest => ?_, fun ha hlow hhigh q hq hend => ?_, fun hbad c hc => ?_, fun ha hlt hfroz hclean hsize => ?_,
    ?_, fun hk => ?_, fun hk => ?_, fun hn hfroz hclean => ?_, fun hsil => ?_, fun hcls ha hlt c hc => ?_, fun hcls ha hlow hhigh htest => ?_, fun hcls => ?_,
    fun hcls ha hlow hhigh htest hmode hw => ?_, fun hcls ha hlow hhigh hmode => ?_, fun hcls hrunning hready hact himg => ?_, fun hcls hrunning hports => ?_,
    fun hcls hready hact himg hlock => ?_⟩
  · have hread : State.monWords a 1 s.serving = (s.serving, [s.poolW (a - 0x1000000)], true) :=
      monWords_pure (s := s.serving) (fun a => s.poolW (a - 0x1000000)) 1 a fun j hj => monRead_pool (s := s.serving) (by omega) (by omega) htest
    have hline : s.monLine (.peek a 1) = { s with mon := s.mon.answer (wordLine a [s.poolW (a - 0x1000000)]) } := by
      rw [hrun, monRun_peek hon (by omega), monShow_line hread (by simp) (by simp), say_sayOk]
    rw [wordLine_low (by omega)] at hline
    rw [answer_words]
    exact exec_monLine (.peek a 1) rfl hline
  · have hread : State.monWords a 4 s.serving = (s.serving, (upFrom 0 4).map fun j => s.poolW (a - 0x1000000 + 4 * j), true) := by
      have hpool := monWords_pure (s := s.serving) (fun a => s.poolW (a - 0x1000000)) 4 a fun j hj => monRead_pool (s := s.serving) (by omega) (by omega) htest
      rw [hpool]
      exact congrArg (fun ws => (s.serving, ws, true)) (List.map_congr_left fun j _ => congrArg s.poolW (by omega))
    have hline : s.monLine (.dump a 13) = { s with mon := s.mon.answer (wordLine a ((upFrom 0 4).map fun j => s.poolW (a - 0x1000000 + 4 * j))) } := by
      rw [hrun, monRun_dump hon (by omega), monShow_line hread (by simp [upFrom]) (by simp [upFrom]), say_sayOk]
    rw [wordLine_low (by omega), List.map_map] at hline
    rw [answer_words]
    exact exec_monLine (.dump a 13) rfl hline
  · have hgap : ∀ n, a + 4 * n ≤ 0x1000000 → State.monWords a n s.serving = (s.serving, (upFrom 0 n).map fun _ => 0, true) := fun n hn =>
      monWords_pure (s := s.serving) (fun _ => 0) n a fun j hj => monRead_gap (by omega) (by omega)
    have hpeek : s.monLine (.peek a 1) = { s with mon := s.mon.answer (wordLine a [0]) } := by
      rw [hrun, monRun_peek hon (by omega), monShow_line (hgap 1 (by omega)) (by simp [upFrom]) (by simp [upFrom]), say_sayOk]
      rfl
    have hdump : s.monLine (.dump a 16) = { s with mon := s.mon.answer (wordLine a [0, 0, 0, 0]) } := by
      rw [hrun, monRun_dump hon (by omega), monShow_line (hgap 4 (by omega)) (by simp [upFrom]) (by simp [upFrom]), say_sayOk]
      rfl
    rw [wordLine_low (by omega)] at hpeek hdump
    simp only [List.mem_cons, List.not_mem_nil, or_false] at hq
    rcases hq with rfl | rfl
    · rw [answer_words]
      exact exec_monLine (.peek a 1) rfl hpeek
    · rw [answer_words]
      exact exec_monLine (.dump a 16) rfl hdump
  · simp only [List.mem_cons, List.not_mem_nil, or_false] at hc
    rcases hc with rfl | rfl | rfl | rfl
    · exact leads_lineOf (c := .peek a 1) rfl ((hrun _).trans ((if_neg (not_disabled hon _)).trans ((if_pos (by omega)).trans refused_range)))
    · exact leads_lineOf (c := .dump a 16) rfl ((hrun _).trans ((if_neg (not_disabled hon _)).trans ((if_pos (by omega)).trans refused_range)))
    · exact leads_lineOf (c := .poke a v) rfl ((hrun _).trans ((monRun_poke hon).trans ((monChecked_range _ hbad).trans refused_range)))
    · exact leads_lineOf (c := .rmw a v m) rfl ((hrun _).trans ((monRun_rmw hon).trans ((monChecked_range _ hbad).trans refused_range)))
  · have hread : s.serving.monDramRead a 16 = (s.serving.say (wordLine a ((upFrom 0 4).map fun j => w32 (leNat (s.dramPeek (a + 4 * j) 4))))).sayOk := by
      have hmin : min 16 (s.serving.dramSize - a) = 16 := Nat.min_eq_left (show 16 ≤ s.dramSize - a by omega)
      have hwords : wordsOf 4 (s.serving.dramPeek a 16) = (upFrom 0 4).map fun j => w32 (leNat (s.dramPeek (a + 4 * j) 4)) := wordsOf_dramPeek (s := s.serving) 4 a
      unfold State.monDramRead
      rw [hmin, engineRead_clean (s := s.serving) hfroz hclean]
      dsimp only
      rw [length_dramPeek, Nat.sub_self, List.replicate_zero, List.append_nil, hwords, dumpLines_one 15 (by simp [upFrom]) (by simp [upFrom])]
      rfl
    have hline : s.monLine (.dram a 16) = { s with mon := s.mon.answer (wordLine a ((upFrom 0 4).map fun j => w32 (leNat (s.dramPeek (a + 4 * j) 4)))) } := by
      rw [hrun, monRun_dram hon (by omega), hread, say_sayOk]
    rw [wordLine_low hlt, List.map_map] at hline
    rw [answer_words]
    exact exec_monLine (.dram a 16) rfl hline
  · have hline : s.monLine .ev = { s with mon := { s.mon with prompt := false, tx := s.mon.tx ++ ((upFrom 0 128).filter s.pends).flatMap (fun e => eventLabel e ++ crlf) ++ txt "ok" ++ crlf, promptNext := true } } := by
      rw [hrun, monRun_ev hon, foldS_say]
      simp only [State.sayOk, State.sayEnd, State.say, State.modMon, State.serving]
      rfl
    exact exec_monLine .ev rfl hline
  · have hline : s.monLine (.job k) = { s with mon := s.mon.answer (spaced [txt "slot", dec k, txt "kind", dec (s.slot k).kind.toNat, txt "state", dec (fld (s.slot k).status 31 28), txt "error", dec (fld (s.slot k).status 27 20), txt "progress", dec (fld (s.slot k).status 19 0), txt "total", dec (s.slot k).total]) } := by
      rw [hrun, monRun_job hon, if_neg (by omega), ← say_sayOk]
      rfl
    exact exec_monLine (.job k) rfl hline
  · exact exec_monLine (.job k) rfl ((hrun _).trans ((monRun_job hon k).trans ((if_pos hk).trans refused_range)))
  · have hline : s.monLine (.ledger n 1) = { s with mon := s.mon.answer (spaced [dec (leNat (s.dramPeek (entryAddr n) 8)), dec (leNat (s.dramPeek (entryAddr n + 8) 8)), dec (leNat (s.dramPeek (entryAddr n + 16) 2) % 16), dec (leNat (s.dramPeek (entryAddr n + 16) 2) / 16 % 16), dec (leNat (s.dramPeek (entryAddr n + 18) 2)), hexW (w32 (leNat (s.dramPeek (entryAddr n + 20) 4))), hexW (w32 (leNat (s.dramPeek (entryAddr n + 24) 4))), hexW (w32 (leNat (s.dramPeek (entryAddr n + 28) 4)))]) } := by
      rw [hrun, monRun_ledger hon (by omega), State.monEntries, Nat.mod_eq_of_lt hn, engineRead_clean (s := s.serving) hfroz hclean]
      dsimp only
      rw [leAt_dramPeek (by omega), leAt_dramPeek (by omega), leAt_dramPeek (by omega), leAt_dramPeek (by omega), leAt_dramPeek (by omega), leAt_dramPeek (by omega),
        leAt_dramPeek (by omega), State.monEntries, say_sayOk]
      rfl
    exact exec_monLine (.ledger n 1) rfl hline
  · obtain ⟨u, hlines, hshown⟩ := monStatLines_shown (s := s.serving) hsil
    have hline : s.monLine .stat = u.sayOk := (hrun _).trans (monRun_stat.trans hlines)
    have hhead : s.serving.statHead.1.mon = { s.mon with prompt := false, tx := s.mon.tx ++ (txt "SYS_STAT " ++ hexW (s.monReg SYS_STAT).2) ++ crlf } :=
      congrArg (fun m : MonSt => { m with tx := m.tx ++ (txt "SYS_STAT " ++ hexW (s.monReg SYS_STAT).2) ++ crlf }) (monReg_mon (s := s.serving) SYS_STAT)
    have hk : keeps [.free, .mon, .sys] s s.serving.statHead.1 := ((modMon_keeps _).mono (by simp)).trans ((monReg_shown (s := s.serving) SYS_STAT).say _).keeps fun _ => id
    obtain ⟨l, hl⟩ := hshown.mon
    rw [hhead] at hl
    have hk' := hk.trans hshown.keeps fun _ => id
    have hmon : u.sayOk.mon = { u.mon with tx := u.mon.tx ++ txt "ok" ++ crlf, promptNext := true } := rfl
    rw [hl] at hmon
    have hkeep : keeps [.free, .mon, .sys] s u.sayOk := hk'.trans ((setMon_keeps _).mono (by simp)) fun _ => id
    generalize u.sayOk = t at *
    refine leads_doneCore (congrArg (doneCore s) hline) ⟨?_, ?_, ?_, ?_, ?_, hkeep.answered⟩
    · rw [answered_mon, hmon]
      exact ⟨l ++ txt "ok" ++ crlf, by simp only [List.append_assoc]⟩
    · rw [answered_mon, hmon]
      exact ⟨s.mon.tx ++ (txt "SYS_STAT " ++ hexW (s.monReg SYS_STAT).2) ++ crlf ++ l, by simp only [List.append_assoc]⟩
    · rw [answered_mon, hmon]
    · rw [answered_mon, hmon]
    · rw [answered_mon, hmon]
  · simp only [List.mem_cons, List.not_mem_nil, or_false] at hc
    rcases hc with rfl | rfl | rfl | rfl
    · exact leads_develop htr hans (c := .poke a v) rfl ((hrun _).trans ((monRun_poke hon).trans (monChecked_denied _ ha hlt hcls)))
    · exact leads_develop htr hans (c := .rmw a v m) rfl ((hrun _).trans ((monRun_rmw hon).trans (monChecked_denied _ ha hlt hcls)))
    · exact leads_develop htr hans (c := .testOn) rfl ((hrun _).trans ((monRun_testOn hon).trans (if_pos (by rw [show s.serving.class2 = false from hcls]; rfl))))
    · exact leads_develop htr hans (c := .testOff) rfl ((hrun _).trans ((monRun_testOff hon).trans (if_pos (by rw [show s.serving.class2 = false from hcls]; rfl))))
  · exact leads_poolStore htr hans hlow hhigh htest (c := .poke a v) rfl ((hrun _).trans ((monRun_poke hon).trans
      (monChecked_granted _ ha (by omega) hcls (by rw [regClass_memory (by omega)]; decide))))
  · have hm := (hrun _).trans ((monRun_poke (a := 0x1020) (v := v) hon).trans ((monChecked_granted (s := s.serving) _ (by decide) (by decide) hcls (by decide)).trans (monStore_mask htr hans)))
    obtain ⟨hregs, hrd, hk⟩ := maskWritten_leaves (s := s) v
    generalize s.serving.wr 0x1020 v = u at *
    have hrd' : u.noted.rd 0x1020 = v := (flagRaise_rd _ MON_STAT 2 126 (b := 0x1020) rfl (by decide)).trans ((rd_count_ne _ _ (by decide)).trans hrd)
    have hleaves := noted_leaves (m := s.mon.answer (wordLine 0x1020 [v])) hregs (by decide) hk (by decide)
    refine leads_lineOf_of (c := .poke 0x1020 v) rfl hm fun cs => ?_
    obtain ⟨hcnt, hbit, hraised, hregs', hkeep⟩ := hleaves cs
    exact ⟨hrd', hcnt, hbit, hraised, mask_shown _ _, hregs'.mono (by simp), hkeep.mono (by simp)⟩
  · have hread := monRead_pool (s := s.serving) hlow hhigh htest
    have hstore : s.serving.monRmw a v m = s.serving.monStore a w := by
      unfold State.monRmw
      rw [if_neg (show ¬ s.serving.trkMode = 1 from hmode), hread, hw]
      rfl
    exact leads_poolStore htr hans hlow hhigh htest (c := .rmw a v m) rfl ((hrun _).trans ((monRun_rmw hon).trans
      ((monChecked_granted (s := s.serving) _ ha (by omega) hcls (by rw [regClass_memory (by omega)]; decide)).trans hstore)))
  · have hlock : s.monLine (.rmw a v m) = (s.serving.lockout 1 2 false a).sayErr 7 := by
      refine (hrun _).trans ((monRun_rmw hon).trans ((monChecked_granted (s := s.serving) _ ha (by omega) hcls (by rw [regClass_memory (by omega)]; decide)).trans ?_))
      have htarget : s.serving.targetOf a = 2 := by
        unfold State.targetOf
        rw [if_neg (by omega), if_pos hhigh]
      refine (if_pos (show s.serving.trkMode = 1 from hmode)).trans ?_
      rw [htarget]
      exact congrArg (State.sayErr · 7) ((if_neg (by decide)).trans (if_pos (show s.serving.trkMode = 1 from hmode)))
    exact leads_lockout htr hans rfl hlock
  · have hmode : (s.testing true).serving.trkMode = 2 := trkMode_idle hready hact himg
    have hlock : (s.testing true).serving.lockMode = (s.testing true).serving := if_neg (by rw [hmode]; decide)
    have hline := (hrun .testOn).trans ((monRun_testOn hon).trans (monTest_shown hcls (by rw [hrunning]; simp) hlock hmode))
    rw [mode_texts.2] at hline
    exact congrArg (doneCore s) hline
  · refine exec_monLine .testOn rfl ((hrun _).trans ((monRun_testOn hon).trans ((if_neg (by rw [show s.serving.class2 = true from hcls]; exact Bool.false_ne_true)).trans
      ((if_pos ?_).trans refused_range))))
    show (true && s.img.running.isSome && s.ports.any (fun p => p.2.st != .off)) = true
    rw [hrunning, hports]
    rfl
  · have hmode : (s.testing false).serving.trkMode = 1 := trkMode_idle hready hact himg
    have hlock' : (s.testing false).serving.lockMode = (s.testing false).serving := (if_pos hmode).trans (lockForced_free hlock)
    have hline := (hrun .testOff).trans ((monRun_testOff hon).trans (monTest_shown hcls (by simp) hlock' hmode))
    rw [mode_texts.1] at hline
    exact congrArg (doneCore s) hline

end Sys2Proof.Machine
end

section
/-! PROOF. O36, over the rules of the PTP port (R313 to R315) and its servo (R319 to R322). -/

namespace Sys2Proof.Machine

variable {s t u : State} {i : Instr} {h : PtpHead} {o : Int} {n : Nat}

/-! ## Legs -/

theorem leg_modLeg_same (b : Bool) (f : PtpLeg → PtpLeg) : (s.modLeg b f).tim.leg b = f (s.tim.leg b) := by cases b <;> rfl
theorem leg_modLeg_other (b : Bool) (f : PtpLeg → PtpLeg) : (s.modLeg b f).tim.leg (!b) = s.tim.leg (!b) := by cases b <;> rfl
theorem modLeg_keeps (b : Bool) (f : PtpLeg → PtpLeg) : keeps [.tim] s (s.modLeg b f) := modTim_keeps _
/-- What a leg's change leaves of network time beside the legs. -/
theorem modLeg_tim (b : Bool) (f : PtpLeg → PtpLeg) : (s.modLeg b f).tim = { s.tim with legA := (s.modLeg b f).tim.legA, legB := (s.modLeg b f).tim.legB } := by cases b <;> rfl
theorem netPort_of_net (hnet : t.net = s.net) (p : Nat) : t.netPort p = s.netPort p := by
  unfold State.netPort
  rw [hnet]

/-! ## What leaves by a port -/

theorem portSend_up {p : Nat} (hup : (s.netPort p).up = true) (x : Out) : s.portSend p x = (s.emit x).count (NET_TX_FRAMES p) 1 := if_pos hup
theorem portSend_down {p : Nat} (hup : (s.netPort p).up = false) (x : Out) : s.portSend p x = s.count (NET_TX_DISCARD p) 1 := if_neg (ne_true_of_eq_false hup)
theorem portSend_leaves {p : Nat} (hup : (s.netPort p).up = true) (x : Out) : (s.portSend p x).out = s.out ++ [x] ∧ (s.portSend p x).tim = s.tim ∧
    counted (NET_TX_FRAMES p) 1 s (s.portSend p x) ∧ regsOnly [NET_TX_FRAMES p] s (s.portSend p x) ∧ (s.portSend p x).net = s.net ∧ keeps [.regs, .out] s (s.portSend p x) := by
  rw [portSend_up hup]
  exact ⟨rfl, rfl, counted_count rfl, ((regsOnly.refl _ s).of_regs (u := s.emit x) rfl).count (by simp), rfl, ((emit_keeps x).mono (by simp)).count (by simp)⟩

/-! ## The message is for this port, or not -/

theorem ptpHere_not (hno : h.version ≠ 2 ∨ h.domain.toNat ≠ s.rdF TIM_CFG 15 8 ∨ h.v6 ≠ s.bit TIM_CFG 1 ∨ (s.netPort (s.timPort h.legB)).up = false) : s.ptpHere h = false := by
  unfold State.ptpHere
  rcases hno with hno | hno | hno | hno
  · simp [beq_false_of_ne hno]
  · simp [beq_false_of_ne hno]
  · simp [beq_false_of_ne hno]
  · simp [hno]

theorem up_of_here (hhere : s.ptpHere h = true) : (s.netPort (s.timPort h.legB)).up = true := by
  unfold State.ptpHere at hhere
  simp only [Bool.and_eq_true] at hhere
  exact hhere.1.1.1.2
theorem timPort_lt (b : Bool) : s.timPort b < 4 := by
  have h1 : s.rdF TIM_CFG 0 0 < 2 := fld_lt (s.rd TIM_CFG) 0 0
  unfold State.timPort
  cases b
  · exact show _ + 0 < 4 by omega
  · exact show _ + 1 < 4 by omega

/-- The registers from which a leg's messages are made are none that sending changes. -/
theorem framesReg_apart : ∀ p : Fin 4, ∀ a ∈ [TIM_CFG, NET_MAC_HI p.val, NET_MAC_LO p.val, NET_IP4 p.val, NET_VLAN p.val, NET_IP6 p.val 0, NET_IP6 p.val 1, NET_IP6 p.val 2, NET_IP6 p.val 3],
    a ∉ [NET_TX_FRAMES p.val] := by decide
theorem ptpNet_of_frames {p : Nat} (hp : p < 4) (b : Bool) (hport : s.timPort b = p) (hregs : regsOnly [NET_TX_FRAMES p] s t) : t.timPort b = p ∧ t.ptpNet b = s.ptpNet b := by
  have hrd : ∀ a ∈ [TIM_CFG, NET_MAC_HI p, NET_MAC_LO p, NET_IP4 p, NET_VLAN p, NET_IP6 p 0, NET_IP6 p 1, NET_IP6 p 2, NET_IP6 p 3], t.rd a = s.rd a :=
    fun a ha => hregs a (framesReg_apart ⟨p, hp⟩ a ha)
  simp only [List.forall_mem_cons, List.not_mem_nil, false_imp_iff, implies_true, and_true] at hrd
  obtain ⟨hcfg, hhi, hlo, hip, hvlan, h0, h1, h2, h3⟩ := hrd
  have hport' : t.timPort b = p := by
    unfold State.timPort State.rdF at *
    rw [hcfg, hport]
  refine ⟨hport', ?_⟩
  unfold State.ptpNet State.netMac State.bit State.rdF
  rw [hport, hport']
  simp only [hcfg, hhi, hlo, hip, hvlan, upFrom, List.map_cons, List.map_nil, Nat.zero_add, Nat.reduceAdd, h0, h1, h2, h3]

/-- A leg's port on the way of sending messages: those that have left, and their count. -/
structure Sending (b : Bool) (n : Nat) (xs : List Out) (x : TimSt) (s u : State) : Prop where
  out : u.out = s.out ++ xs
  tim : u.tim = x
  count : counted (NET_TX_FRAMES (s.timPort b)) n s u
  regs : regsOnly [NET_TX_FRAMES (s.timPort b)] s u
  net : u.net = s.net
  keeps : keeps [.regs, .out, .tim] s u
theorem counted_none (h : t.rd n = s.rd n) : counted n 0 s t := by
  have hlt := (s.rd n).isLt
  have hsat : satN 32 ((s.rd n).toNat + 0) = (s.rd n).toNat := if_neg (by omega)
  rw [counted, h, hsat]
  simp [w32]
theorem sending_start (b : Bool) (hk : keeps [.tim] s u) : Sending b 0 [] u.tim s u := by
  have hregs := hk.part (p := .regs) (by simp)
  exact ⟨(hk.part (p := .out) (by simp)).trans (List.append_nil _).symm, rfl, counted_none (rd_of_regs hregs _), regsOnly_of_regs hregs, hk.part (p := .net) (by simp), hk.mono (by simp)⟩
theorem Sending.send {b : Bool} {xs : List Out} {x : TimSt} (hs : Sending b n xs x s u) (hup : (s.netPort (s.timPort b)).up = true) (kind q : Nat) (o : Int) :
    Sending b (n + 1) (xs ++ [.ptp (s.ptpNet b) kind q o]) x s (u.ptpSend b kind q o) := by
  obtain ⟨hport, hnet⟩ := ptpNet_of_frames (timPort_lt b) b rfl hs.regs
  have hup' : (u.netPort (s.timPort b)).up = true := (congrArg NetPort.up (netPort_of_net hs.net _)).trans hup
  obtain ⟨hout, htim, hcount, hregs, hnet', hk⟩ := portSend_leaves hup' (.ptp (s.ptpNet b) kind q o)
  have heq : u.ptpSend b kind q o = u.portSend (s.timPort b) (.ptp (s.ptpNet b) kind q o) := by rw [State.ptpSend, hport, hnet]
  rw [heq]
  generalize u.portSend (s.timPort b) (.ptp (s.ptpNet b) kind q o) = t at *
  exact ⟨by rw [hout, hs.out, List.append_assoc], htim.trans hs.tim, counted_add hs.count hcount, hs.regs.trans hregs, hnet'.trans hs.net, hs.keeps.trans hk (by simp)⟩

/-! ## The state decision (R313) -/

/-- A leg without a master. -/
def PtpLeg.alone (l : PtpLeg) : PtpLeg := { l with master := none, wait := none, t12 := none, reqTx := none, lastOffset := none }
theorem alone_of_none {l : PtpLeg} (hm : l.master = none) : l.alone = { l with wait := none, t12 := none, reqTx := none, lastOffset := none } := by
  cases l
  cases hm
  rfl
theorem follow_none (l : PtpLeg) : l.follow none = l.alone := by
  unfold PtpLeg.follow
  cases l.master <;> rfl
theorem follow_new {l : PtpLeg} (hl : l.master = none) (m : ForeignMaster) :
    l.follow (some m) = { l with master := some m, wait := none, t12 := none, reqTx := none, lastOffset := none } := by
  unfold PtpLeg.follow
  rw [hl]
theorem bestForeign_one {m : ForeignMaster} : bestForeign [m] = if m.count < 2 then none else some m := by
  simp [bestForeign, foldS]

/-- Network time with its serving leg and grandmaster chosen (R315). -/
def TimSt.served (t : TimSt) (leg : Nat) (gm : W64) : TimSt := { t with serving := leg, gm := gm }
theorem serve_none (ha : s.tim.legA.master = none) (hb : s.tim.legB.master = none) (hgm : s.tim.gm = 0) : s.serve = s.modTim (·.served 0 0) := by
  unfold State.serve
  simp [ha, hb, hgm, TimSt.served]
theorem serve_lost (ha : s.tim.legA.master = none) (hb : s.tim.legB.master = none) (hgm : s.tim.gm ≠ 0) :
    s.serve = (s.modTim (·.served 0 0)).flagRaise TIM_STAT 0 66 := by
  have hgm' : 0#64 ≠ s.tim.gm := Ne.symm hgm
  unfold State.serve
  simp [ha, hb, hgm', TimSt.served]
theorem serve_new (b : Bool) {m : ForeignMaster} (hm : (s.tim.leg b).master = some m) (ho : (s.tim.leg !b).master = none) (hs : s.tim.serving = 0)
    (hgm : m.gm ≠ s.tim.gm) : s.serve = (s.modTim (·.served (1 + b01 b) m.gm)).flagRaise TIM_STAT 0 66 := by
  unfold State.serve
  cases b
  case false =>
    have hm' : s.tim.legA.master = some m := hm
    simp [hm', hs, hgm, TimSt.served, b01]
  case true =>
    have ho' : s.tim.legA.master = none := ho
    have hm' : s.tim.legB.master = some m := hm
    simp [hm', ho', hs, hgm, TimSt.served, b01]

/-- Network time when the port's state changes (R317). -/
def TimSt.enter (t : TimSt) (st : PtpState) : TimSt :=
  { t with
    pst := st
    rate := if st = .slave then t.rate else 0
    good := if st = .slave then t.good else 0
    legA := if st = .listening then { t.legA with annAt := t.mono } else t.legA
    legB := if st = .listening then { t.legB with annAt := t.mono } else t.legB }
theorem ptpTo_same {st : PtpState} (hst : s.tim.pst = st) : s.ptpTo st = s := if_pos hst
theorem ptpTo_ne {st : PtpState} (hst : s.tim.pst ≠ st) : s.ptpTo st = (s.modTim (·.enter st)).flagRaise TIM_STAT 0 66 := if_neg hst
theorem fit_unsettled {x : TimSt} {self : Bool} (hs : x.pst ≠ .slave) (hm : x.pst ≠ .master) : x.fit self = false := by simp [TimSt.fit, hs, hm]
theorem timJudge_unfit (hfit : s.tim.fit (s.bit TIM_CTL 1) = false) (hq : s.tim.qualified = false) : s.timJudge = s :=
  if_pos (by simp [hfit, hq])

/-- The legs follow the best of the masters they have heard. -/
def State.followed (s : State) : State := (s.modLeg false (·.follow (bestForeign s.tim.legA.foreign))).modLeg true (·.follow (bestForeign s.tim.legB.foreign))
theorem followed_tim : s.followed.tim = { s.tim with legA := s.tim.legA.follow (bestForeign s.tim.legA.foreign), legB := s.tim.legB.follow (bestForeign s.tim.legB.foreign) } := rfl
theorem followed_keeps : keeps [.tim] s s.followed := (modLeg_keeps _ _).trans (modLeg_keeps _ _) fun _ => id
theorem ptpDecide_slave (hso : s.slaveOnly = true) : s.ptpDecide =
    (if s.followed.serve.tim.serving = 0 then (if s.tim.pst = .master then s.followed.serve else s.followed.serve.ptpTo .listening)
      else if s.tim.pst = .slave || s.tim.pst = .uncalibrated then s.followed.serve
      else (s.followed.serve.modTim (fun t => { t with first := true })).ptpTo .uncalibrated).timJudge :=
  if_neg (by simp [hso])

/-- Network time that has no master to decide for. -/
def TimSt.undecided (t : TimSt) : TimSt := { t with legA := t.legA.alone, legB := t.legB.alone, serving := 0, gm := 0 }
theorem ptpDecide_undecided (hso : s.slaveOnly = true) (hA : bestForeign s.tim.legA.foreign = none) (hB : bestForeign s.tim.legB.foreign = none)
    (hgm : s.tim.gm = 0) (hpst : s.tim.pst = .listening) (hq : s.tim.qualified = false) : s.ptpDecide = s.modTim TimSt.undecided := by
  have hf : s.followed = s.modTim fun t => { t with legA := t.legA.alone, legB := t.legB.alone } := by
    unfold State.followed
    rw [hA, hB, funext follow_none]
    rfl
  have hserve : s.followed.serve = s.modTim TimSt.undecided := by
    rw [hf]
    exact serve_none rfl rfl hgm
  have hfit : (s.modTim TimSt.undecided).tim.fit ((s.modTim TimSt.undecided).bit TIM_CTL 1) = false := by
    have hpst' : (s.modTim TimSt.undecided).tim.pst = .listening := hpst
    exact fit_unsettled (by rw [hpst']; decide) (by rw [hpst']; decide)
  have hpst' : (s.modTim TimSt.undecided).tim.pst = .listening := hpst
  have hserv : (s.modTim TimSt.undecided).tim.serving = 0 := rfl
  have hq' : (s.modTim TimSt.undecided).tim.qualified = false := hq
  rw [ptpDecide_slave hso, hserve]
  generalize s.modTim TimSt.undecided = u at *
  rw [if_pos hserv, if_neg (by simp [hpst]), ptpTo_same hpst', timJudge_unfit hfit hq']

/-- What a decision with EV66 leaves of the state. -/
structure Decided (x : TimSt) (s t : State) : Prop where
  tim : t.tim = x
  bit : t.bit TIM_STAT 0 = true
  raised : raised 66 s t
  regs : regsKeep [TIM_STAT] s t
  keeps : keeps [.regs, .out, .mon, .sys, .tim] s t
/-- A choice of the serving leg and a change of the port's state, each with EV66. -/
theorem decided_of_notes (hk : keeps [.tim] s u) (f : TimSt → TimSt) : Decided (f u.tim) s (((u.flagRaise TIM_STAT 0 66).modTim f).flagRaise TIM_STAT 0 66) := by
  have hn := (hk.quiet (by simp) (by simp)).noted (b := TIM_STAT) (i := 0) rfl (by decide) 66
  have hk1 := hn.keeps (hk.mono (qs := [.regs, .out, .mon, .sys, .tim]) (by simp)) (by simp)
  have htim : (u.flagRaise TIM_STAT 0 66).tim = u.tim := hn.only.tim
  obtain ⟨-, hraised, hregs, -⟩ := hn
  generalize u.flagRaise TIM_STAT 0 66 = v at *
  have hk2 : keeps [.regs, .out, .mon, .sys, .tim] s (v.modTim f) := hk1.trans (modTim_keeps f) (by simp)
  have hregs2 : regsKeep [TIM_STAT] s (v.modTim f) := hregs
  have hraised2 : raised 66 s (v.modTim f) := hraised
  have htim2 : (v.modTim f).tim = f u.tim := congrArg f htim
  generalize v.modTim f = w at *
  exact ⟨(flagRaise_only w TIM_STAT 0 66).tim.trans htim2, flagRaise_bit w TIM_STAT 0 66 rfl (by decide), (hraised2.wr rfl : raised 66 s (w.flag TIM_STAT 0)).raise,
    hregs2.flagRaise (by simp), hk2.evt (by simp) (flagRaise_only w TIM_STAT 0 66)⟩

/-- Network time that has taken a master (R319). -/
def TimSt.taken (t : TimSt) : TimSt := { t with first := true }.enter .uncalibrated
theorem ptpDecide_master (b : Bool) {m : ForeignMaster} (hso : s.slaveOnly = true) (hm : (s.followed.tim.leg b).master = some m)
    (ho : (s.followed.tim.leg !b).master = none) (hs : s.tim.serving = 0) (hgm : m.gm ≠ s.tim.gm) (hpst : s.tim.pst = .listening) (hq : s.tim.qualified = false) :
    Decided (s.followed.tim.served (1 + b01 b) m.gm).taken s s.ptpDecide := by
  have hserve : s.followed.serve = (s.followed.modTim (·.served (1 + b01 b) m.gm)).flagRaise TIM_STAT 0 66 := serve_new b hm ho hs hgm
  have hd := decided_of_notes (s := s) (u := s.followed.modTim (·.served (1 + b01 b) m.gm)) (followed_keeps.trans (modTim_keeps _) fun _ => id) TimSt.taken
  have htim : ((s.followed.modTim (·.served (1 + b01 b) m.gm)).flagRaise TIM_STAT 0 66).tim = s.followed.tim.served (1 + b01 b) m.gm := (flagRaise_only _ _ _ _).tim
  rw [ptpDecide_slave hso, hserve]
  generalize (s.followed.modTim (·.served (1 + b01 b) m.gm)).flagRaise TIM_STAT 0 66 = v at *
  have hserv : v.tim.serving ≠ 0 := fun h => by
    have h' : 1 + b01 b = 0 := (congrArg TimSt.serving htim).symm.trans h
    omega
  have hpst' : (v.modTim fun t => { t with first := true }).tim.pst = .listening := ((congrArg TimSt.pst htim).trans hpst : v.tim.pst = .listening)
  have hq' : v.tim.qualified = false := (congrArg TimSt.qualified htim).trans hq
  have hto : (v.modTim fun t => { t with first := true }).ptpTo .uncalibrated = (v.modTim TimSt.taken).flagRaise TIM_STAT 0 66 := ptpTo_ne (by rw [hpst']; decide)
  rw [if_neg hserv, if_neg (by simp [hpst]), hto, timJudge_unfit]
  · exact hd
  · rw [hd.tim]
    exact fit_unsettled nofun nofun
  · rw [hd.tim]
    exact (congrArg TimSt.qualified htim).symm.trans hq'
theorem ptpDecide_lost (hso : s.slaveOnly = true) (ha : s.followed.tim.legA.master = none) (hb : s.followed.tim.legB.master = none) (hgm : s.tim.gm ≠ 0)
    (hpst : s.tim.pst = .slave) (hq : s.tim.qualified = false) : Decided ((s.followed.tim.served 0 0).enter .listening) s s.ptpDecide := by
  have hserve : s.followed.serve = (s.followed.modTim (·.served 0 0)).flagRaise TIM_STAT 0 66 := serve_lost ha hb hgm
  have hd := decided_of_notes (s := s) (u := s.followed.modTim (·.served 0 0)) (followed_keeps.trans (modTim_keeps _) fun _ => id) (·.enter .listening)
  have htim : ((s.followed.modTim (·.served 0 0)).flagRaise TIM_STAT 0 66).tim = s.followed.tim.served 0 0 := (flagRaise_only _ _ _ _).tim
  rw [ptpDecide_slave hso, hserve]
  generalize (s.followed.modTim (·.served 0 0)).flagRaise TIM_STAT 0 66 = v at *
  have hserv : v.tim.serving = 0 := congrArg TimSt.serving htim
  have hpst' : v.tim.pst = .slave := (congrArg TimSt.pst htim).trans hpst
  have hq' : v.tim.qualified = false := (congrArg TimSt.qualified htim).trans hq
  rw [if_pos hserv, if_neg (by simp [hpst]), ptpTo_ne (by rw [hpst']; decide), timJudge_unfit]
  · exact hd
  · rw [hd.tim]
    exact fit_unsettled nofun nofun
  · rw [hd.tim]
    exact (congrArg TimSt.qualified htim).symm.trans hq'

/-! ## Announces (R321) -/

/-- Whether a foreign master is the sender of a message. -/
def sentBy (h : PtpHead) (m : ForeignMaster) : Bool := m.src == h.src && m.srcPort == h.srcPort
/-- The entry of a sender that has been heard n times before. -/
def foreignOf (h : PtpHead) (b : AnnounceBody) (n : Nat) : ForeignMaster :=
  { src := h.src, srcPort := h.srcPort, gm := b.gm, pri1 := b.pri1, clockClass := b.clockClass, accuracy := b.accuracy,
    variance := b.variance, pri2 := b.pri2, steps := b.steps,
    utc := w32 (b.utc.toNat + b01 b.utcValid * 65536 + b01 b.leap61 * 131072 + b01 b.leap59 * 262144),
    ptpScale := b.ptpScale, count := n + 1 }
/-- A leg that has heard a master. -/
def PtpLeg.heard (l : PtpLeg) (h : PtpHead) (m : ForeignMaster) : PtpLeg := { l with foreign := m :: l.foreign.filter fun x => !sentBy h x }
theorem heard_alone {l : PtpLeg} (hall : ∀ x ∈ l.foreign, sentBy h x = true) (m : ForeignMaster) : l.heard h m = { l with foreign := [m] } := by
  have hnone : l.foreign.filter (fun x => !sentBy h x) = [] := List.filter_eq_nil_iff.2 fun x hx => by simp [hall x hx]
  unfold PtpLeg.heard
  rw [hnone]
/-- A leg to which its master, or any while it has none, has spoken. -/
def PtpLeg.announced (l : PtpLeg) (h : PtpHead) (mono : Nat) : PtpLeg := if l.master.any (sentBy h) || l.master.isNone then { l with annAt := mono } else l
theorem announced_tim (l : PtpLeg) (mono : Nat) : ∃ n, l.announced h mono = { l with annAt := n } := by
  unfold PtpLeg.announced
  split
  · exact ⟨mono, rfl⟩
  · exact ⟨l.annAt, rfl⟩
theorem exec_announce {b : AnnounceBody} {dt : Nat} (hhere : s.ptpHere h = true) (hsteps : b.steps < 255) (hany : s.bit TIM_CFG 5 = false)
    (hn : n = match (s.tim.leg h.legB).foreign.find? (sentBy h) with | some m => m.count | none => 0) :
    exec (.announceMessage h b dt) s =
      doneCore s (((s.timAdvance dt).modLeg h.legB (·.heard h (foreignOf h b n))).ptpDecide.modLeg h.legB (·.announced h (s.tim.mono + dt))) := by
  have hhere' : (s.timAdvance dt).ptpHere h = true := hhere
  have hany' : (s.timAdvance dt).bit TIM_CFG 5 = false := hany
  subst hn
  refine congrArg (doneCore s) ((if_neg (by simp [hhere'])).trans ((if_neg (by simp [hany']; omega)).trans ?_))
  cases h.legB <;> rfl
theorem leg_undecided (x : TimSt) (c : Bool) : x.undecided.leg c = (x.leg c).alone := by cases c <;> rfl
theorem leg_followed (c : Bool) : s.followed.tim.leg c = (s.tim.leg c).follow (bestForeign (s.tim.leg c).foreign) := by cases c <;> rfl
theorem legs_all {q : PtpLeg → Prop} {x : TimSt} (b : Bool) (hb : q (x.leg b)) (ho : q (x.leg !b)) : q x.legA ∧ q x.legB := by
  cases b
  · exact ⟨hb, ho⟩
  · exact ⟨ho, hb⟩
theorem legs_pick {q : PtpLeg → Prop} {x : TimSt} (b : Bool) (hA : q x.legA) (hB : q x.legB) : q (x.leg b) ∧ q (x.leg !b) := by
  cases b
  · exact ⟨hA, hB⟩
  · exact ⟨hB, hA⟩
theorem reject_leaves (hk : keeps [.tim] s u) : u.timReject.tim = u.tim ∧ counted TIM_REJECT 1 s u.timReject ∧ u.timReject.bit TIM_STAT 4 = true ∧
    (s.sys.onceTick.contains 69 = false → raised 69 s u.timReject) ∧ regsKeep [TIM_REJECT, TIM_STAT] s u.timReject ∧ keeps [.regs, .out, .mon, .sys, .tim] s u.timReject := by
  have hregs : regsOnly [] s u := regsOnly_of_regs (hk.part (p := .regs) (by simp))
  have hsys := hk.part (p := .sys) (by simp)
  have hk' : keeps [.regs, .tim] s ((u.count TIM_REJECT 1).flag TIM_STAT 4) := ((hk.mono (by simp)).count (by simp)).flag (by simp)
  have hcount : counted TIM_REJECT 1 s ((u.count TIM_REJECT 1).flag TIM_STAT 4) := (counted_count (rd_of_regs (hk.part (p := .regs) (by simp)) _)).flag (by decide)
  have hregs' : regsOnly [TIM_REJECT, TIM_STAT] s ((u.count TIM_REJECT 1).flag TIM_STAT 4) := ((hregs.mono (by simp)).count (by simp)).flag (by simp)
  have hbit : ((u.count TIM_REJECT 1).flag TIM_STAT 4).bit TIM_STAT 4 = true := bit_flag_self (by decide)
  have hsys' : ((u.count TIM_REJECT 1).flag TIM_STAT 4).sys = s.sys := hsys
  have htim : ((u.count TIM_REJECT 1).flag TIM_STAT 4).tim = u.tim := rfl
  have hfit := hk'.fit
  unfold State.timReject
  generalize (u.count TIM_REJECT 1).flag TIM_STAT 4 = v at *
  have honly := raiseOnce_only v 69
  exact ⟨honly.tim.trans htim, hcount.raiseOnce rfl, (bit_of_rd (raiseOnce_rd v 69 rfl)).trans hbit,
    fun hnew => raised_raiseOnce hfit (congrArg _ hsys') (by rw [hsys']; exact hnew), hregs'.keep.raiseOnce, (hk'.mono (by simp)).evt (by simp) honly⟩

/-! ## The servo (R319, R320) -/

/-- Network time with the legs compared at a sync of the serving leg and the threshold of R322 latched. -/
def TimSt.measured (x : TimSt) (thr : W32) : TimSt := { x with disagree := 0, qualThr := thr }
/-- A leg that has measured an offset. -/
def PtpLeg.measured (l : PtpLeg) (o d : Int) : PtpLeg := { l with lastOffset := some o, t12 := some d }
theorem legsAgree_single (c : Bool) (hc : (s.tim.leg c).lastOffset = none) : s.legsAgree = s.modTim fun x => { x with disagree := 0 } := by
  unfold State.legsAgree
  cases c
  case false =>
    have hc' : s.tim.legA.lastOffset = none := hc
    rw [hc']
  case true =>
    have hc' : s.tim.legB.lastOffset = none := hc
    rw [hc']
    cases s.tim.legA.lastOffset <;> rfl
/-- What an offset of the serving leg does to the port. -/
def State.serveSync (s : State) (o : Int) : State :=
  let s := if s.tim.pst = .uncalibrated then (s.modTim (fun t => { t with first := true, syncAt := t.mono, syncLost := false })).ptpTo .slave else s
  if s.tim.pst = .slave then (s.servo o).timJudge else s
theorem serveSync_slave (hpst : s.tim.pst = .slave) : s.serveSync o = (s.servo o).timJudge := by
  simp [State.serveSync, hpst]
/-- The state in which a leg's offset has been measured. -/
def State.measured (s : State) (b : Bool) (o d : Int) : State := s.modLeg b (·.measured o d)
theorem ptpOffset_serving {b : Bool} {t1 corr t2 : Int} (ho : o = t1 + (s.tim.leg b).mpd + corr - t2) (hserv : s.tim.serving = 1 + b01 b) :
    s.ptpOffset b t1 corr t2 = (((s.measured b o (t2 - t1 - corr)).legsAgree).modTim fun x => { x with qualThr := s.rd TIM_QUAL }).serveSync o := by
  have hserv' : (s.measured b o (t2 - t1 - corr)).tim.serving = 1 + b01 b := (congrArg TimSt.serving (modLeg_tim b _)).trans hserv
  subst ho
  exact if_pos hserv'
/-- The state that the servo finds at a sync of the serving leg, the other leg having none. -/
def State.synced (s : State) (b : Bool) (o d : Int) : State := (s.measured b o d).modTim (·.measured (s.rd TIM_QUAL))
theorem ptpOffset_slave {b : Bool} {t1 corr t2 : Int} (ho : o = t1 + (s.tim.leg b).mpd + corr - t2) (hserv : s.tim.serving = 1 + b01 b)
    (hother : (s.tim.leg !b).lastOffset = none) (hpst : s.tim.pst = .slave) :
    s.ptpOffset b t1 corr t2 = ((s.synced b o (t2 - t1 - corr)).servo o).timJudge := by
  have hother' : ((s.measured b o (t2 - t1 - corr)).tim.leg !b).lastOffset = none := (congrArg PtpLeg.lastOffset (leg_modLeg_other b _)).trans hother
  have hpst' : (s.synced b o (t2 - t1 - corr)).tim.pst = .slave := (congrArg TimSt.pst (modLeg_tim b _)).trans hpst
  rw [ptpOffset_serving ho hserv, legsAgree_single _ hother', ← serveSync_slave hpst']
  rfl
theorem synced_keeps (b : Bool) (o d : Int) : keeps [.tim] s (s.synced b o d) := (modLeg_keeps _ _).trans (modTim_keeps _) fun _ => id
theorem synced_tim (b : Bool) (o d : Int) :
    (s.synced b o d).tim = { s.tim with legA := (s.synced b o d).tim.legA, legB := (s.synced b o d).tim.legB, disagree := 0, qualThr := s.rd TIM_QUAL } :=
  congrArg (·.measured (s.rd TIM_QUAL)) (modLeg_tim b (·.measured o d))

/-- Network time that has accepted an offset (R322). -/
def TimSt.accepted (x : TimSt) (residual : Int) : TimSt :=
  { x with
    good := if residual.natAbs ≤ fld x.qualThr 15 0 then x.good + 1 else 0
    outs := []
    first := false
    lastGm := some x.gm
    syncAt := x.mono
    syncLost := false }
theorem timAccept_tim (o residual : Int) : (s.timAccept o residual).tim = s.tim.accepted residual := by simp [State.timAccept, TimSt.accepted, State.count, State.wr, State.modTim]
theorem timAccept_leaves {ps : List Part} (hk : keeps ps s u) (hr : .regs ∉ ps) (ht : .tim ∈ ps) (residual : Int) : (u.timAccept o residual).rd TIM_OFFSET = i32sat o ∧ counted TIM_SYNC_RX 1 s (u.timAccept o residual) ∧
    regsOnly [TIM_OFFSET, TIM_SYNC_RX] s (u.timAccept o residual) ∧ keeps (.regs :: ps) s (u.timAccept o residual) := by
  have hregs := hk.part (p := .regs) hr
  have hk' : keeps (.regs :: ps) s (u.modTim (·.accepted residual)) := (hk.mono (List.subset_cons_self ..)).trans (modTim_keeps _) (by simp [ht])
  have heq : u.timAccept o residual = ((u.modTim (·.accepted residual)).wr TIM_OFFSET (i32sat o)).count TIM_SYNC_RX 1 := by
    simp only [State.timAccept, decide_eq_true_eq]
    rfl
  have hregs' : (u.modTim (·.accepted residual)).regs = s.regs := hregs
  rw [heq]
  generalize u.modTim (·.accepted residual) = v at *
  exact ⟨(rd_wr_ne _ _ (by decide)).trans (rd_wr_same _ _ _), counted_count ((rd_wr_ne _ _ (by decide)).trans (rd_of_regs hregs' _)),
    ((regsOnly_of_regs hregs').wr (by simp)).count (by simp), (hk'.wr (by simp)).count (by simp)⟩

/-- How far the rate of the loop may move (R319). -/
def TimSt.slewSpan (x : TimSt) : Int := (x.now - x.slewAt) / 100
/-- The rate that the loop takes on, from a free value. -/
def TimSt.slewRate (x : TimSt) (free : Nat) : Int := clampI (x.rate - x.slewSpan) (x.rate + x.slewSpan) (clampI (-1000000000) 1000000000 (Config.freeInt free))
theorem slewRate_near {x : TimSt} (free : Nat) (h : x.slewAt ≤ x.now) : (x.slewRate free - x.rate).natAbs ≤ (x.now - x.slewAt) / 100 := by
  have hspan : x.slewSpan = ((x.now - x.slewAt) / 100 : Nat) := by
    unfold TimSt.slewSpan
    omega
  unfold TimSt.slewRate clampI
  rw [hspan]
  split
  · omega
  · split
    · omega
    · omega
/-- The state in which the loop has taken on a rate. -/
def State.slewed (s : State) : State := s.drawn.modTim fun x => { x with rate := s.tim.slewRate s.free, slewAt := x.now }
theorem timSlew_eq : s.timSlew o = s.slewed.timAccept o o := rfl
theorem slewed_keeps : keeps [.free, .tim] s s.slewed := by simp [keeps_iff, State.slewed, State.drawn, State.modTim]

theorem servo_first (hack : s.tim.ackArmed = false) (hheld : s.tim.stepHeld = false) (hfirst : s.tim.first = true) :
    s.servo o = if 20 < o.natAbs then s.timStep o false else s.timSlew o :=
  (if_neg (by simp [hack])).trans ((if_neg (by simp [hheld])).trans (if_pos (by simp [hfirst])))

/-- The state in which the clock has made a step. -/
def State.stepped (s : State) (o : Int) : State :=
  s.modTim fun x => { x with now := ((x.now : Int) + o).toNat, slewAt := ((x.now : Int) + o).toNat, stepHeld := false, ackArmed := false }
theorem timStep_made (hmax : o.natAbs ≤ (s.rd TIM_STEP_MAX).toNat) :
    s.timStep o false = foldS State.ppsStep (((((s.stepped o).timAccept o 0).count TIM_STEPS 1).wr TIM_LAST_STEP (i32sat o)).flagRaise TIM_STAT 2 68) [0, 1, 2, 3] :=
  if_pos (by simp [hmax])
theorem timStep_held (hmax : (s.rd TIM_STEP_MAX).toNat < o.natAbs) (hset : s.rd TIM_STEP_MAX ≠ 0) :
    s.timStep o false = (s.modTim fun x => { x with stepHeld := true }).raise 69 :=
  if_neg (by
    have hne : (s.rd TIM_STEP_MAX).toNat ≠ 0 := fun h => hset (BitVec.eq_of_toNat_eq h)
    simp [hne]
    omega)

/-! ## What the servo leaves of a port that is not qualified (R322) -/

theorem fit_short {x : TimSt} {self : Bool} (hm : x.pst ≠ .master) (hgood : x.good < fld x.qualThr 23 16) : x.fit self = false := by
  simp [TimSt.fit, hm]
  omega
theorem fit_held {x : TimSt} {self : Bool} (hm : x.pst ≠ .master) (hheld : x.stepHeld = true) : x.fit self = false := by simp [TimSt.fit, hm, hheld]
theorem good_accepted_zero (x : TimSt) : (x.accepted 0).good = x.good + 1 := by simp [TimSt.accepted]
theorem good_accepted (x : TimSt) (residual : Int) : (x.accepted residual).good ≤ x.good + 1 := by
  unfold TimSt.accepted
  dsimp only
  split <;> omega
theorem slew_leaves (hk : keeps [.tim] s u) (hpst : u.tim.pst = .slave) (hq : u.tim.qualified = false) (hgood : u.tim.good + 1 < fld u.tim.qualThr 23 16) :
    (u.timSlew o).timJudge.tim = u.slewed.tim.accepted o ∧ (u.timSlew o).timJudge.rd TIM_OFFSET = i32sat o ∧ counted TIM_SYNC_RX 1 s (u.timSlew o).timJudge ∧
    regsOnly [TIM_OFFSET, TIM_SYNC_RX] s (u.timSlew o).timJudge ∧ keeps [.regs, .free, .tim] s (u.timSlew o).timJudge := by
  have htim : (u.timSlew o).tim = u.slewed.tim.accepted o := (congrArg State.tim timSlew_eq).trans (timAccept_tim ..)
  have hk' : keeps [.free, .tim] s u.slewed := (hk.mono (by simp)).trans slewed_keeps fun _ => id
  have hleaves := timAccept_leaves (o := o) hk' (by simp) (by simp) o
  rw [← timSlew_eq] at hleaves
  have hg := good_accepted u.slewed.tim o
  generalize hx : u.slewed.tim.accepted o = x at *
  have hxpst : x.pst = .slave := hx ▸ hpst
  have hxthr : x.qualThr = u.tim.qualThr := hx ▸ rfl
  have hxgood : x.good ≤ u.tim.good + 1 := hg
  have hxq : x.qualified = false := hx ▸ hq
  rw [timJudge_unfit]
  · exact ⟨htim, hleaves⟩
  · rw [htim]
    exact fit_short (by rw [hxpst]; decide) (by rw [hxthr]; omega)
  · rw [htim]
    exact hxq

/-- What a step of the clock leaves (R320). -/
structure StepMade (o : Int) (x : TimSt) (s t : State) : Prop where
  tim : t.tim = x
  steps : counted TIM_STEPS 1 s t
  last : t.rd TIM_LAST_STEP = i32sat o
  offset : t.rd TIM_OFFSET = i32sat o
  bit : t.bit TIM_STAT 2 = true
  raised : raised 68 s t
  regs : regsKeep [TIM_OFFSET, TIM_SYNC_RX, TIM_STEPS, TIM_LAST_STEP, TIM_STAT] s t
  keeps : keeps [.regs, .out, .mon, .sys, .tim, .pps] s t
theorem timStep_leaves (hk : keeps [.tim] s u) (hmax : o.natAbs ≤ (u.rd TIM_STEP_MAX).toNat) (hpps : ∀ j ∈ [0, 1, 2, 3], (u.pulse j).armed = false) :
    StepMade o ((u.stepped o).tim.accepted 0) s (u.timStep o false) := by
  have hk1 : keeps [.tim] s (u.stepped o) := hk.trans (modTim_keeps _) fun _ => id
  have hpps1 : ((u.stepped o).timAccept o 0).pps = u.pps := rfl
  have htim1 := timAccept_tim (s := u.stepped o) o 0
  obtain ⟨hoff, -, hregs, hk3⟩ := timAccept_leaves (o := o) hk1 (by simp) (by simp) 0
  rw [timStep_made hmax]
  generalize (u.stepped o).timAccept o 0 = v at *
  have hcount : counted TIM_STEPS 1 s ((v.count TIM_STEPS 1).wr TIM_LAST_STEP (i32sat o)) := (counted_count (hregs _ (by decide))).wr (by decide)
  have hlast : ((v.count TIM_STEPS 1).wr TIM_LAST_STEP (i32sat o)).rd TIM_LAST_STEP = i32sat o := rd_wr_same ..
  have hoff' : ((v.count TIM_STEPS 1).wr TIM_LAST_STEP (i32sat o)).rd TIM_OFFSET = i32sat o := (rd_wr_ne _ _ (by decide)).trans ((rd_wr_ne _ _ (by decide)).trans hoff)
  have hregs' : regsOnly [TIM_OFFSET, TIM_SYNC_RX, TIM_STEPS, TIM_LAST_STEP] s ((v.count TIM_STEPS 1).wr TIM_LAST_STEP (i32sat o)) :=
    ((hregs.mono (by simp)).count (by simp)).wr (by simp)
  have hk4 : keeps [.regs, .tim] s ((v.count TIM_STEPS 1).wr TIM_LAST_STEP (i32sat o)) := (hk3.count (by simp)).wr (by simp)
  have htim4 : ((v.count TIM_STEPS 1).wr TIM_LAST_STEP (i32sat o)).tim = (u.stepped o).tim.accepted 0 := htim1
  have hpps4 : ((v.count TIM_STEPS 1).wr TIM_LAST_STEP (i32sat o)).pps = u.pps := hpps1
  generalize (v.count TIM_STEPS 1).wr TIM_LAST_STEP (i32sat o) = w at *
  have hn := (hk4.quietBut (by simp) hregs').noted (b := TIM_STAT) (i := 2) rfl (by decide) 68
  have hk5 := hn.keeps (hk4.mono (qs := [.regs, .out, .mon, .sys, .tim]) (by simp)) (by simp)
  have hcount5 := hcount.flagRaise (b := TIM_STAT) (i := 2) (e := 68) (by decide) rfl
  have hlast5 := (flagRaise_rd (s := w) TIM_STAT 2 68 (b := TIM_LAST_STEP) rfl (by decide)).trans hlast
  have hoff5 := (flagRaise_rd (s := w) TIM_STAT 2 68 (b := TIM_OFFSET) rfl (by decide)).trans hoff'
  have htim5 := hn.only.tim.trans htim4
  have hpps5 := hn.only.pps.trans hpps4
  generalize w.flagRaise TIM_STAT 2 68 = x at *
  have hk6 := (steps_unarmed [0, 1, 2, 3] fun j hj => (congrArg Pps.armed (pulse_of_pps hpps5 j)).trans (hpps j hj)).2
  have hregs6 := hk6.part (p := .regs) (by simp)
  have htim6 := hk6.part (p := .tim) (by simp)
  generalize foldS State.ppsStep x [0, 1, 2, 3] = y at *
  exact ⟨htim6.trans htim5, hcount5.of_rd (rd_of_regs hregs6 _), (rd_of_regs hregs6 _).trans hlast5, (rd_of_regs hregs6 _).trans hoff5, (bit_of_rd (rd_of_regs hregs6 _)).trans hn.bit,
    hn.raised.of_regs hregs6, (hn.regs.of_regs hregs6).mono (by simp), (hk5.mono (by simp)).trans hk6 (by simp)⟩

theorem serving_code (b : Bool) : (if b = true then 2 else 1) = 1 + b01 b := by cases b <;> rfl
theorem synced_leaves (b : Bool) (o d : Int) (dt : Nat) :
    ((s.timAdvance dt).synced b o d).tim = { (s.timAdvance dt).tim with legA := ((s.timAdvance dt).synced b o d).tim.legA, legB := ((s.timAdvance dt).synced b o d).tim.legB, disagree := 0, qualThr := s.rd TIM_QUAL } ∧
    keeps [.tim] s ((s.timAdvance dt).synced b o d) :=
  ⟨synced_tim b o d, (timAdvance_keeps dt).trans (synced_keeps b o d) fun _ => id⟩

theorem leg_synced (b : Bool) (o d : Int) : (s.synced b o d).tim.leg b = (s.tim.leg b).measured o d := by cases b <;> rfl

/-! ## The messages -/

/-- A leg with a two-step Sync that waits for its Follow_Up. -/
def PtpLeg.waiting (l : PtpLeg) (w : WaitSync) : PtpLeg := { l with wait := some w }

theorem exec_sync {t2 : Int} {dt : Nat} (hhere : s.ptpHere h = true) (hfrom : s.fromMaster h = true) (t1 : Option Int) :
    exec (.ptpSync h t1 t2 dt) s = doneCore s (match t1 with
      | some t => (s.timAdvance dt).ptpOffset h.legB t h.corr (s.ingress h.legB t2)
      | none => (s.timAdvance dt).modLeg h.legB (fun l => { l with wait := some { src := h.src, seq := h.seq, rx := s.ingress h.legB t2, corr := h.corr } })) := by
  have hhere' : (s.timAdvance dt).ptpHere h = true := hhere
  have hfrom' : (s.timAdvance dt).fromMaster h = true := hfrom
  refine congrArg (doneCore s) ((if_neg (by simp [hhere', hfrom'])).trans ?_)
  cases t1 <;> rfl
theorem exec_followUp {w : WaitSync} {t1 : Int} {dt : Nat} (hhere : s.ptpHere h = true) (hfrom : s.fromMaster h = true) (hwait : (s.tim.leg h.legB).wait = some w)
    (hsrc : w.src = h.src) (hseq : w.seq = h.seq) :
    exec (.followUp h t1 dt) s = doneCore s (((s.timAdvance dt).modLeg h.legB (fun l => { l with wait := none })).ptpOffset h.legB t1 (w.corr + h.corr) w.rx) := by
  have hhere' : (s.timAdvance dt).ptpHere h = true := hhere
  have hfrom' : (s.timAdvance dt).fromMaster h = true := hfrom
  have hwait' : ((s.timAdvance dt).tim.leg h.legB).wait = some w := hwait
  refine congrArg (doneCore s) ((if_neg (by simp [hhere', hfrom'])).trans ?_)
  simp only [hwait']
  exact if_pos ⟨hsrc, hseq⟩
/-- A leg that has sent a Delay_Req. -/
def PtpLeg.reqSent (l : PtpLeg) (stamp : Int) : PtpLeg := { l with reqSeq := (l.reqSeq + 1) % 65536, reqTx := some stamp }
theorem reqSent_leaves (b : Bool) (t3 : Int) (dt : Nat) :
    ((s.timAdvance dt).modLeg b (·.reqSent (s.egress b t3))).tim.leg b = { s.tim.leg b with reqSeq := ((s.tim.leg b).reqSeq + 1) % 65536, reqTx := some (s.egress b t3) } ∧
    ((s.timAdvance dt).modLeg b (·.reqSent (s.egress b t3))).tim.leg (!b) = s.tim.leg (!b) ∧
    ((s.timAdvance dt).modLeg b (·.reqSent (s.egress b t3))).tim = { (s.timAdvance dt).tim with
      legA := ((s.timAdvance dt).modLeg b (·.reqSent (s.egress b t3))).tim.legA, legB := ((s.timAdvance dt).modLeg b (·.reqSent (s.egress b t3))).tim.legB } ∧
    keeps [.tim] s ((s.timAdvance dt).modLeg b (·.reqSent (s.egress b t3))) ∧
    (((s.timAdvance dt).modLeg b (·.reqSent (s.egress b t3))).netPort (s.timPort b)).up = (s.netPort (s.timPort b)).up :=
  ⟨leg_modLeg_same .., leg_modLeg_other .., modLeg_tim .., (timAdvance_keeps dt).trans (modLeg_keeps ..) fun _ => id, rfl⟩
theorem exec_delayReqSend {t3 : Int} {dt : Nat} (b : Bool) (hon : s.timOn = true) (hm : (s.tim.leg b).master.isSome = true) (hst : s.tim.pst = .slave ∨ s.tim.pst = .uncalibrated) :
    exec (.delayReqSend b t3 dt) s = doneCore s (((s.timAdvance dt).modLeg b (·.reqSent (s.egress b t3))).portSend (s.timPort b)
      (.ptp (s.ptpNet b) 1 (s.tim.leg b).reqSeq t3)) := by
  have hon' : (s.timAdvance dt).timOn = true := hon
  have hm' : ((s.timAdvance dt).tim.leg b).master.isSome = true := hm
  have hst' : (s.timAdvance dt).tim.pst = .slave ∨ (s.timAdvance dt).tim.pst = .uncalibrated := hst
  exact congrArg (doneCore s) (if_pos (by simp [hon', hm', hst']))
theorem exec_unheard {dt : Nat} {t1 t2 t4 : Int} {b : AnnounceBody} {rs : W64} (hno : s.ptpHere h = false) :
    ∀ c ∈ [Instr.announceMessage h b dt, .ptpSync h (some t1) t2 dt, .ptpSync h none t2 dt, .followUp h t1 dt, .delayReq h t2 dt, .delayResp h t4 rs dt],
      exec c s = .next (s.timAdvance dt) := by
  have hno' : (s.timAdvance dt).ptpHere h = false := hno
  have hx : doneCore s (s.timAdvance dt) = .next (s.timAdvance dt) := rfl
  intro c hc
  refine Eq.trans ?_ hx
  simp only [List.mem_cons, List.not_mem_nil, or_false] at hc
  rcases hc with rfl | rfl | rfl | rfl | rfl | rfl
  · exact congrArg (doneCore s) (if_pos (by simp [hno']))
  · exact congrArg (doneCore s) (if_pos (.inl (by simp [hno'])))
  · exact congrArg (doneCore s) (if_pos (.inl (by simp [hno'])))
  · exact congrArg (doneCore s) (if_pos (.inl (by simp [hno'])))
  · exact congrArg (doneCore s) (if_neg (by simp [hno']))
  · refine congrArg (doneCore s) ?_
    dsimp only
    split
    · exact if_neg (by simp [hno'])
    · rfl

/-! ## The announce receipt timeout (R319) -/

/-- The legs after an announce receipt timeout. -/
def State.silenced (s : State) : State := (s.modLeg false (·.silence s.tim.mono s.annLimit)).modLeg true (·.silence s.tim.mono s.annLimit)
theorem silenced_keeps : keeps [.tim] s s.silenced := (modLeg_keeps _ _).trans (modLeg_keeps _ _) fun _ => id
theorem silence_gone {l : PtpLeg} {m : ForeignMaster} {mono lim : Nat} (hm : l.master = some m) (hf : l.foreign = [m]) (hlim : lim ≤ mono - l.annAt) :
    l.silence mono lim = { l with foreign := [], annAt := mono } := by
  simp [PtpLeg.silence, hm, hf, hlim]
theorem silence_none {l : PtpLeg} {mono lim : Nat} (hm : l.master = none) : l.silence mono lim = l := by simp [PtpLeg.silence, hm]

/-- Settles O36: each message changes the port's state through the decision of R313 or the servo of R319. -/
theorem ptpMessages : Obligations.PtpMessages := by
  unfold Obligations.PtpMessages
  intro s h b m l w o t1 t2 t3 t4 d dt rs hon hl
  subst hl
  refine ⟨?_, ?_, ?_, ?_, ?_, ?_, ?_, ?_, ?_, ?_, ?_, ?_, ?_, ?_, ?_⟩
  · intro hhere hsteps hany hpst _ hgm hq hso hfA hfB hmA hmB
    obtain ⟨hfor, hfor'⟩ := legs_pick (q := fun l => l.foreign = []) h.legB hfA hfB
    obtain ⟨-, hm'⟩ := legs_pick (q := fun l => l.master = none) h.legB hmA hmB
    have hexec := exec_announce (n := 0) (dt := dt) hhere hsteps hany (by rw [hfor]; rfl)
    have hsame : ((s.timAdvance dt).modLeg h.legB (·.heard h (foreignOf h b 0))).tim.leg h.legB = { s.tim.leg h.legB with foreign := [foreignOf h b 0] } :=
      (leg_modLeg_same ..).trans (heard_alone (fun x hx => absurd (hfor ▸ hx) List.not_mem_nil) _)
    have hother : ((s.timAdvance dt).modLeg h.legB (·.heard h (foreignOf h b 0))).tim.leg (!h.legB) = s.tim.leg !h.legB := leg_modLeg_other ..
    have hk := (timAdvance_keeps (s := s) dt).trans (modLeg_keeps h.legB (·.heard h (foreignOf h b 0))) fun _ => id
    have htim := modLeg_tim (s := s.timAdvance dt) h.legB (·.heard h (foreignOf h b 0))
    have hso' : ((s.timAdvance dt).modLeg h.legB (·.heard h (foreignOf h b 0))).slaveOnly = true := hso
    generalize (s.timAdvance dt).modLeg h.legB (·.heard h (foreignOf h b 0)) = v at *
    have hbest := legs_all (q := fun l => bestForeign l.foreign = none) h.legB
      (by rw [hsame]; exact bestForeign_one.trans (if_pos (Nat.lt_succ_self 1))) (by rw [hother, hfor']; rfl)
    have hvpst : v.tim.pst = .listening := (congrArg TimSt.pst htim).trans hpst
    rw [ptpDecide_undecided hso' hbest.1 hbest.2 ((congrArg TimSt.gm htim).trans hgm) hvpst ((congrArg TimSt.qualified htim).trans hq)] at hexec
    have hlegs := leg_undecided v.tim
    obtain ⟨k, hann⟩ := announced_tim (h := h) (v.tim.undecided.leg h.legB) (s.tim.mono + dt)
    have hsame2 := (leg_modLeg_same (s := v.modTim TimSt.undecided) h.legB (·.announced h (s.tim.mono + dt))).trans hann
    have hother2 := leg_modLeg_other (s := v.modTim TimSt.undecided) h.legB (·.announced h (s.tim.mono + dt))
    have htim2 := modLeg_tim (s := v.modTim TimSt.undecided) h.legB (·.announced h (s.tim.mono + dt))
    have hk2 := hk.trans ((modTim_keeps TimSt.undecided).trans (modLeg_keeps h.legB (·.announced h (s.tim.mono + dt))) fun _ => id) fun _ => id
    generalize (v.modTim TimSt.undecided).modLeg h.legB (·.announced h (s.tim.mono + dt)) = t at *
    have hforeign : (t.tim.leg h.legB).foreign.map (fun x => (x.src, x.srcPort, x.gm, x.steps, x.count)) = [(h.src, h.srcPort, b.gm, b.steps, 1)] := by
      rw [hsame2, hlegs, hsame]
      rfl
    have hrest : t.tim.leg (!h.legB) = { s.tim.leg (!h.legB) with wait := none, t12 := none, reqTx := none, lastOffset := none } := by
      refine hother2.trans ((hlegs _).trans ?_)
      rw [hother]
      exact alone_of_none hm'
    exact leads_doneCore hexec ⟨hforeign, (congrArg TimSt.now htim2).trans (congrArg TimSt.now htim), (congrArg TimSt.pst htim2).trans hvpst, hrest, hk2.answered⟩
  · intro hhere hsteps hany hpst hserv hgm hq hso hfor hsrc hport hcount hfor' hmA hmB hb
    obtain ⟨hm, hm'⟩ := legs_pick (q := fun l => l.master = none) h.legB hmA hmB
    have hsent : sentBy h m = true := by simp [sentBy, hsrc, hport]
    have hexec := exec_announce (n := 1) (dt := dt) hhere hsteps hany (by rw [hfor, List.find?_cons_of_pos hsent]; exact hcount.symm)
    have hsame : ((s.timAdvance dt).modLeg h.legB (·.heard h (foreignOf h b 1))).tim.leg h.legB = { s.tim.leg h.legB with foreign := [foreignOf h b 1] } :=
      (leg_modLeg_same ..).trans (heard_alone (fun x hx => List.mem_singleton.1 ((congrArg (x ∈ ·) hfor).mp hx) ▸ hsent) _)
    have hother : ((s.timAdvance dt).modLeg h.legB (·.heard h (foreignOf h b 1))).tim.leg (!h.legB) = s.tim.leg !h.legB := leg_modLeg_other ..
    have hk := (timAdvance_keeps (s := s) dt).trans (modLeg_keeps h.legB (·.heard h (foreignOf h b 1))) fun _ => id
    have htim := modLeg_tim (s := s.timAdvance dt) h.legB (·.heard h (foreignOf h b 1))
    have hso' : ((s.timAdvance dt).modLeg h.legB (·.heard h (foreignOf h b 1))).slaveOnly = true := hso
    generalize (s.timAdvance dt).modLeg h.legB (·.heard h (foreignOf h b 1)) = v at *
    have hfollow : (v.followed.tim.leg h.legB).master = some (foreignOf h b 1) := by
      rw [leg_followed, hsame, show bestForeign [foreignOf h b 1] = some (foreignOf h b 1) from bestForeign_one.trans (if_neg (Nat.lt_irrefl 2))]
      exact congrArg PtpLeg.master (follow_new (by exact hm) _)
    have hfollow' : (v.followed.tim.leg !h.legB).master = none := by
      rw [leg_followed, hother, hfor', show bestForeign [] = none from rfl, follow_none]
      rfl
    have hgm' : (foreignOf h b 1).gm ≠ v.tim.gm := by
      rw [htim]
      exact fun hx => hb (hx.trans hgm)
    have hd := ptpDecide_master h.legB hso' hfollow hfollow' ((congrArg TimSt.serving htim).trans hserv) hgm' ((congrArg TimSt.pst htim).trans hpst)
      ((congrArg TimSt.qualified htim).trans hq)
    have hnow : v.followed.tim.now = s.tim.now + dt := congrArg TimSt.now htim
    have hleg : v.followed.tim.leg h.legB = ((v.followed.tim.served (1 + b01 h.legB) (foreignOf h b 1).gm).taken).leg h.legB := by cases h.legB <;> rfl
    generalize v.ptpDecide = x at *
    obtain ⟨hxtim, hbit, hraised, hregs, hk2⟩ := hd
    obtain ⟨k, hann⟩ := announced_tim (h := h) (x.tim.leg h.legB) (s.tim.mono + dt)
    have hsame2 := (leg_modLeg_same (s := x) h.legB (·.announced h (s.tim.mono + dt))).trans hann
    have htim2 := modLeg_tim (s := x) h.legB (·.announced h (s.tim.mono + dt))
    have hk3 := ((hk.mono (by simp)).trans hk2 fun _ => id).trans (modLeg_keeps h.legB (·.announced h (s.tim.mono + dt))) (by simp)
    have hbit2 : (x.modLeg h.legB (·.announced h (s.tim.mono + dt))).bit TIM_STAT 0 = true := hbit
    have hregs0 : v.regs = s.regs := hk.part (p := .regs) (by simp)
    have hregs2 : (x.modLeg h.legB (·.announced h (s.tim.mono + dt))).regs = x.regs := rfl
    generalize x.modLeg h.legB (·.announced h (s.tim.mono + dt)) = t at *
    have hregs3 : regsKeep [TIM_STAT] s t := ((regsKeep_of_regs hregs0).trans hregs).of_regs hregs2
    have hmaster : (t.tim.leg h.legB).master = some (foreignOf h b 1) := by
      rw [hsame2, hxtim, ← hleg]
      exact hfollow
    rw [hxtim] at htim2
    have hserving : t.tim.serving = if h.legB = true then 2 else 1 := by
      rw [htim2]
      cases h.legB <;> rfl
    exact leads_doneCore hexec ⟨congrArg _ hmaster, hserving, congrArg TimSt.gm htim2, congrArg TimSt.pst htim2, (congrArg TimSt.now htim2).trans hnow, hbit2,
      (hraised.of_start hk.fit (congrArg _ (hk.part (p := .sys) (by simp)))).of_regs hregs2,
      hregs3, hk3.answered⟩
  · intro hhere hbad
    have hexec : exec (.announceMessage h b dt) s = doneCore s (s.timAdvance dt).timReject := by
      have hhere' : (s.timAdvance dt).ptpHere h = true := hhere
      have hbad' : 255 ≤ b.steps ∨ (s.timAdvance dt).bit TIM_CFG 5 = true ∧ (s.timAdvance dt).acceptable b.gm = false := hbad
      exact congrArg (doneCore s) ((if_neg (by simp [hhere'])).trans (if_pos (by simpa using hbad')))
    obtain ⟨htim, hcount, hbit, hraised, hregs, hk⟩ := reject_leaves (timAdvance_keeps (s := s) dt)
    generalize (s.timAdvance dt).timReject = t at *
    exact leads_doneCore hexec ⟨htim, hcount, hbit, hraised, hregs, hk.answered⟩
  · intro hno
    exact exec_unheard (ptpHere_not hno)
  · intro hhere hfrom
    have hexec := exec_sync (t2 := t2) (dt := dt) hhere hfrom none
    have hsame := leg_modLeg_same (s := s.timAdvance dt) h.legB (·.waiting { src := h.src, seq := h.seq, rx := s.ingress h.legB t2, corr := h.corr })
    have hother := leg_modLeg_other (s := s.timAdvance dt) h.legB (·.waiting { src := h.src, seq := h.seq, rx := s.ingress h.legB t2, corr := h.corr })
    have htim := modLeg_tim (s := s.timAdvance dt) h.legB (·.waiting { src := h.src, seq := h.seq, rx := s.ingress h.legB t2, corr := h.corr })
    have hk := (timAdvance_keeps (s := s) dt).trans (modLeg_keeps h.legB (·.waiting { src := h.src, seq := h.seq, rx := s.ingress h.legB t2, corr := h.corr })) fun _ => id
    change exec _ s = doneCore s ((s.timAdvance dt).modLeg h.legB (·.waiting { src := h.src, seq := h.seq, rx := s.ingress h.legB t2, corr := h.corr })) at hexec
    generalize (s.timAdvance dt).modLeg h.legB (·.waiting { src := h.src, seq := h.seq, rx := s.ingress h.legB t2, corr := h.corr }) = t at *
    exact leads_doneCore hexec ⟨hsame, hother, congrArg TimSt.now htim, (congrArg TimSt.pst htim :), (congrArg TimSt.rate htim :), hk.answered⟩
  · intro hhere hfrom ho hserv hother hpst hack hheld hfirst hsmall hslew hq hgood
    have hexec := exec_sync (t2 := t2) (dt := dt) hhere hfrom (some t1)
    dsimp only at hexec
    rw [ptpOffset_slave (s := s.timAdvance dt) ho (hserv.trans (serving_code _)) hother hpst] at hexec
    obtain ⟨hwtim, hwk⟩ := synced_leaves (s := s) h.legB o (s.ingress h.legB t2 - t1 - h.corr) dt
    generalize (s.timAdvance dt).synced h.legB o (s.ingress h.legB t2 - t1 - h.corr) = v at *
    have hservo : v.servo o = v.timSlew o := (servo_first ((congrArg TimSt.ackArmed hwtim).trans hack) ((congrArg TimSt.stepHeld hwtim).trans hheld)
      ((congrArg TimSt.first hwtim).trans hfirst)).trans (if_neg (by omega))
    rw [hservo] at hexec
    have hgood' : v.tim.good + 1 < fld v.tim.qualThr 23 16 := by
      rw [hwtim]
      exact hgood
    have hslew' : v.tim.slewAt ≤ v.tim.now := by
      rw [hwtim]
      exact hslew
    obtain ⟨htim, hoff, hcount, hregs, hk⟩ := slew_leaves (o := o) hwk ((congrArg TimSt.pst hwtim).trans hpst) ((congrArg TimSt.qualified hwtim).trans hq) hgood'
    have hnear := slewRate_near v.free hslew'
    have hrate : v.slewed.tim.rate = v.tim.slewRate v.free := rfl
    have hslewed : v.slewed.tim = { v.tim with rate := v.slewed.tim.rate, slewAt := v.tim.now } := rfl
    generalize v.slewed.tim = x at *
    generalize (v.timSlew o).timJudge = t at *
    have hr : (t.tim.rate - s.tim.rate).natAbs ≤ (s.tim.now + dt - s.tim.slewAt) / 100 := by
      rw [congrArg TimSt.rate htim, show (x.accepted o).rate = x.rate from rfl, hrate]
      rwa [congrArg TimSt.rate hwtim, congrArg TimSt.now hwtim, congrArg TimSt.slewAt hwtim] at hnear
    rw [hslewed, hwtim] at htim
    exact leads_doneCore hexec ⟨hoff, hcount, hr, congrArg TimSt.now htim, congrArg TimSt.slewAt htim, congrArg TimSt.first htim, congrArg TimSt.outs htim, congrArg TimSt.good htim,
      congrArg TimSt.lastGm htim, hregs, hk.answered⟩
  · intro hhere hfrom hwait hsrc hseq ho hserv hother hpst hack hheld hfirst hbig hmax hq hgood hpps
    have hexec := exec_followUp (dt := dt) (t1 := t1) hhere hfrom hwait hsrc hseq
    have hsame := leg_modLeg_same (s := s.timAdvance dt) h.legB fun l => { l with wait := none }
    have hother' := leg_modLeg_other (s := s.timAdvance dt) h.legB fun l => { l with wait := none }
    have hutim := modLeg_tim (s := s.timAdvance dt) h.legB fun l => { l with wait := none }
    have huk := (timAdvance_keeps (s := s) dt).trans (modLeg_keeps h.legB fun l => { l with wait := none }) fun _ => id
    have hurd : ((s.timAdvance dt).modLeg h.legB fun l => { l with wait := none }).rd TIM_QUAL = s.rd TIM_QUAL := rfl
    generalize (s.timAdvance dt).modLeg h.legB (fun l => { l with wait := none }) = u at *
    have ho' : o = t1 + (u.tim.leg h.legB).mpd + (w.corr + h.corr) - w.rx := ho.trans (by rw [hsame]; rfl)
    rw [ptpOffset_slave ho' (((congrArg TimSt.serving hutim).trans hserv).trans (serving_code _)) ((congrArg PtpLeg.lastOffset hother').trans hother)
      ((congrArg TimSt.pst hutim).trans hpst)] at hexec
    have hleg := leg_synced (s := u) h.legB o (w.rx - t1 - (w.corr + h.corr))
    have hvtim := synced_tim (s := u) h.legB o (w.rx - t1 - (w.corr + h.corr))
    have hvk := huk.trans (synced_keeps h.legB o (w.rx - t1 - (w.corr + h.corr))) fun _ => id
    rw [hurd] at hvtim
    generalize u.synced h.legB o (w.rx - t1 - (w.corr + h.corr)) = v at *
    rw [hutim] at hvtim
    have hregs := hvk.part (p := .regs) (by simp)
    have hpps' := hvk.part (p := .pps) (by simp)
    have hservo : v.servo o = v.timStep o false := (servo_first ((congrArg TimSt.ackArmed hvtim).trans hack) ((congrArg TimSt.stepHeld hvtim).trans hheld)
      ((congrArg TimSt.first hvtim).trans hfirst)).trans (if_pos hbig)
    have hst := timStep_leaves (o := o) hvk ((rd_of_regs hregs TIM_STEP_MAX).symm ▸ hmax) fun j hj => (congrArg Pps.armed (pulse_of_pps hpps' j)).trans (hpps j hj)
    rw [hservo] at hexec
    generalize v.timStep o false = t at *
    have htim := hst.tim
    have hnow : t.tim.now = (((s.tim.now + dt : Nat) : Int) + o).toNat := (congrArg TimSt.now htim).trans (congrArg (fun n : Nat => ((n : Int) + o).toNat) (congrArg TimSt.now hvtim))
    have hgood' : t.tim.good = s.tim.good + 1 := (congrArg TimSt.good htim).trans ((good_accepted_zero _).trans (congrArg (· + 1) (congrArg TimSt.good hvtim :)))
    have hthr : t.tim.qualThr = s.rd TIM_QUAL := (congrArg TimSt.qualThr htim).trans (congrArg TimSt.qualThr hvtim)
    have hpst' : t.tim.pst = .slave := (congrArg TimSt.pst htim).trans ((congrArg TimSt.pst hvtim).trans hpst)
    have hq' : t.tim.qualified = false := (congrArg TimSt.qualified htim).trans ((congrArg TimSt.qualified hvtim).trans hq)
    have hwait' : (t.tim.leg h.legB).wait = none := by
      rw [htim, show ((v.stepped o).tim.accepted 0).leg h.legB = v.tim.leg h.legB by cases h.legB <;> rfl, hleg, hsame]
      rfl
    rw [timJudge_unfit (fit_short (by rw [hpst']; decide) (by rw [hgood', hthr]; exact hgood)) hq'] at hexec
    exact leads_doneCore hexec ⟨hnow, hst.steps, hst.last, hst.offset, hst.bit, hst.raised, hgood', (congrArg TimSt.rate htim).trans (congrArg TimSt.rate hvtim :), hwait',
      hst.regs, hst.keeps.answered⟩
  · intro hhere hfrom ho hserv hother hpst hack hheld hfirst hbig hmax hset hq
    have hexec := exec_sync (t2 := t2) (dt := dt) hhere hfrom (some t1)
    dsimp only at hexec
    rw [ptpOffset_slave (s := s.timAdvance dt) ho (hserv.trans (serving_code _)) hother hpst] at hexec
    obtain ⟨hvtim, hvk⟩ := synced_leaves (s := s) h.legB o (s.ingress h.legB t2 - t1 - h.corr) dt
    generalize (s.timAdvance dt).synced h.legB o (s.ingress h.legB t2 - t1 - h.corr) = v at *
    have hrd := rd_of_regs (hvk.part (p := .regs) (by simp)) TIM_STEP_MAX
    have hservo : v.servo o = (v.modTim fun x => { x with stepHeld := true }).raise 69 :=
      (servo_first ((congrArg TimSt.ackArmed hvtim).trans hack) ((congrArg TimSt.stepHeld hvtim).trans hheld) ((congrArg TimSt.first hvtim).trans hfirst)).trans
        ((if_pos hbig).trans (timStep_held (hrd.symm ▸ hmax) (hrd.symm ▸ hset)))
    have hk : keeps [.tim] s (v.modTim fun x => { x with stepHeld := true }) := hvk.trans (modTim_keeps _) fun _ => id
    have htim : (v.modTim fun x => { x with stepHeld := true }).tim = { v.tim with stepHeld := true } := rfl
    rw [hservo] at hexec
    generalize (v.modTim fun x => { x with stepHeld := true }) = u at *
    have honly := raise_only u 69
    have hraised : raised 69 s (u.raise 69) := raised_raise hk.fit (congrArg _ (hk.part (p := .sys) (by simp)))
    have hregs : regsKeep [] s (u.raise 69) := (regsKeep_of_regs (hk.part (p := .regs) (by simp))).raise
    have hk2 := (hk.mono (qs := [.regs, .out, .mon, .sys, .tim]) (by simp)).evt (by simp) honly
    have htim2 := honly.tim.trans htim
    generalize u.raise 69 = t at *
    have hpst' : t.tim.pst = .slave := (congrArg TimSt.pst htim2).trans ((congrArg TimSt.pst hvtim).trans hpst)
    have hheld' : t.tim.stepHeld = true := congrArg TimSt.stepHeld htim2
    have hq' : t.tim.qualified = false := (congrArg TimSt.qualified htim2).trans ((congrArg TimSt.qualified hvtim).trans hq)
    rw [timJudge_unfit (fit_held (by rw [hpst']; decide) hheld') hq'] at hexec
    exact leads_doneCore hexec ⟨hheld', (congrArg TimSt.now htim2).trans (congrArg TimSt.now hvtim), (congrArg TimSt.rate htim2).trans (congrArg TimSt.rate hvtim :), hraised, hregs, hk2.answered⟩
  · intro hm hst hup
    have hexec := exec_delayReqSend (t3 := t3) (dt := dt) h.legB hon hm hst
    obtain ⟨hsame, hother, htim, hk, hup'⟩ := reqSent_leaves (s := s) h.legB t3 dt
    have hregs := hk.part (p := .regs) (by simp)
    have hout0 := hk.part (p := .out) (by simp)
    generalize (s.timAdvance dt).modLeg h.legB (·.reqSent (s.egress h.legB t3)) = u at *
    obtain ⟨hout, htim2, hcount, hregs2, -, hk2⟩ := portSend_leaves (hup'.trans hup) (.ptp (s.ptpNet h.legB) 1 (s.tim.leg h.legB).reqSeq t3)
    generalize u.portSend (s.timPort h.legB) (.ptp (s.ptpNet h.legB) 1 (s.tim.leg h.legB).reqSeq t3) = t at *
    rw [← htim2] at hsame hother htim
    exact leads_doneCore hexec ⟨hout.trans (congrArg (· ++ _) hout0), hsame, hother, congrArg TimSt.now htim, hcount.of_start (rd_of_regs hregs _),
      (regsOnly_of_regs hregs).trans hregs2, ((hk.mono (by simp)).trans hk2 (by simp)).answered⟩
  · intro hm hst hup
    have hexec := exec_delayReqSend (t3 := t3) (dt := dt) h.legB hon hm hst
    obtain ⟨hsame, -, htim, hk, hup'⟩ := reqSent_leaves (s := s) h.legB t3 dt
    have hregs := hk.part (p := .regs) (by simp)
    generalize (s.timAdvance dt).modLeg h.legB (·.reqSent (s.egress h.legB t3)) = u at *
    rw [portSend_down (hup'.trans hup)] at hexec
    exact leads_doneCore hexec ⟨counted_count (rd_of_regs hregs _), hsame, congrArg TimSt.now htim, (regsOnly_of_regs hregs).count (by simp), ((hk.mono (by simp)).count (by simp)).answered⟩
  · intro hhere hfrom hreq ht12 hrs hseq
    have hexec : exec (.delayResp h t4 rs dt) s = doneCore s ((s.timAdvance dt).modLeg h.legB fun l => { l with mpd := roundDiv (d + (t4 - h.corr - t3)) 2, reqTx := none }) := by
      have hreq' : ((s.timAdvance dt).tim.leg h.legB).reqTx = some t3 := hreq
      have ht12' : ((s.timAdvance dt).tim.leg h.legB).t12 = some d := ht12
      have hok : ((s.timAdvance dt).ptpHere h && (s.timAdvance dt).fromMaster h && rs == (s.timAdvance dt).clockId && (h.seq + 1) % 65536 == ((s.timAdvance dt).tim.leg h.legB).reqSeq) = true := by
        simp only [Bool.and_eq_true, beq_iff_eq]
        exact ⟨⟨⟨hhere, hfrom⟩, hrs⟩, hseq⟩
      refine congrArg (doneCore s) ?_
      simp only [hreq', ht12']
      exact if_pos hok
    have hsame := leg_modLeg_same (s := s.timAdvance dt) h.legB fun l => { l with mpd := roundDiv (d + (t4 - h.corr - t3)) 2, reqTx := none }
    have hother := leg_modLeg_other (s := s.timAdvance dt) h.legB fun l => { l with mpd := roundDiv (d + (t4 - h.corr - t3)) 2, reqTx := none }
    have htim := modLeg_tim (s := s.timAdvance dt) h.legB fun l => { l with mpd := roundDiv (d + (t4 - h.corr - t3)) 2, reqTx := none }
    have hk := (timAdvance_keeps (s := s) dt).trans (modLeg_keeps h.legB fun l => { l with mpd := roundDiv (d + (t4 - h.corr - t3)) 2, reqTx := none }) fun _ => id
    generalize (s.timAdvance dt).modLeg h.legB (fun l => { l with mpd := roundDiv (d + (t4 - h.corr - t3)) 2, reqTx := none }) = t at *
    exact leads_doneCore hexec ⟨hsame, hother, congrArg TimSt.now htim, hk.answered⟩
  · intro hpst hup
    have hexec : exec (.ptpMasterSend h.legB dt) s = doneCore s ((((((s.timAdvance dt).modTim fun t => { t with masterSeq := (s.tim.masterSeq + 1) % 65536 }).ptpSend h.legB 11 s.tim.masterSeq
        ((s.tim.now + dt : Nat) : Int)).ptpSend h.legB 0 s.tim.masterSeq 0).ptpSend h.legB 8 s.tim.masterSeq (s.egress h.legB ((s.tim.now + dt : Nat) : Int)))) := by
      have hon' : (s.timAdvance dt).timOn = true := hon
      have hpst' : (s.timAdvance dt).tim.pst = .master := hpst
      exact congrArg (doneCore s) (if_pos (by simp [hon', hpst']))
    have hs0 := sending_start h.legB ((timAdvance_keeps (s := s) dt).trans (modTim_keeps fun t => { t with masterSeq := (s.tim.masterSeq + 1) % 65536 }) fun _ => id)
    have hs := ((hs0.send hup 11 s.tim.masterSeq ((s.tim.now + dt : Nat) : Int)).send hup 0 s.tim.masterSeq 0).send hup 8 s.tim.masterSeq (s.egress h.legB ((s.tim.now + dt : Nat) : Int))
    have htim : ((s.timAdvance dt).modTim fun t => { t with masterSeq := (s.tim.masterSeq + 1) % 65536 }).tim = { (s.timAdvance dt).tim with masterSeq := (s.tim.masterSeq + 1) % 65536 } := rfl
    generalize (s.timAdvance dt).modTim (fun t => { t with masterSeq := (s.tim.masterSeq + 1) % 65536 }) = u at *
    generalize ((u.ptpSend h.legB 11 s.tim.masterSeq ((s.tim.now + dt : Nat) : Int)).ptpSend h.legB 0 s.tim.masterSeq 0).ptpSend h.legB 8 s.tim.masterSeq
      (s.egress h.legB ((s.tim.now + dt : Nat) : Int)) = t at *
    exact leads_doneCore hexec ⟨hs.out, hs.tim.trans htim, hs.count, hs.regs, hs.keeps.answered⟩
  · intro hhere hpst
    have hup : ((s.timAdvance dt).netPort (s.timPort h.legB)).up = true := up_of_here hhere
    have hexec : exec (.delayReq h t2 dt) s = doneCore s ((s.timAdvance dt).portSend (s.timPort h.legB) (.ptp (s.ptpNet h.legB) 9 h.seq (s.ingress h.legB t2))) := by
      have hhere' : (s.timAdvance dt).ptpHere h = true := hhere
      have hpst' : (s.timAdvance dt).tim.pst = .master := hpst
      exact congrArg (doneCore s) (if_pos (by simp [hhere', hpst']))
    have hk := timAdvance_keeps (s := s) dt
    have hregs := hk.part (p := .regs) (by simp)
    have hout0 := hk.part (p := .out) (by simp)
    generalize s.timAdvance dt = u at *
    obtain ⟨hout, htim, hcount, hregs2, -, hk2⟩ := portSend_leaves hup (.ptp (s.ptpNet h.legB) 9 h.seq (s.ingress h.legB t2))
    generalize u.portSend (s.timPort h.legB) (.ptp (s.ptpNet h.legB) 9 h.seq (s.ingress h.legB t2)) = t at *
    exact leads_doneCore hexec ⟨htim, hout.trans (congrArg (· ++ _) hout0), hcount.of_start (rd_of_regs hregs _),
      (regsOnly_of_regs hregs).trans hregs2, ((hk.mono (by simp)).trans hk2 (by simp)).answered⟩
  · intro hso hmA hmB hfA hfB _ hpst hgm hne hq hlim
    have hA : (s.timAdvance dt).silenced.tim.legA = { s.tim.legA with foreign := [], annAt := s.tim.mono + dt } := silence_gone hmA hfA hlim
    have hB : (s.timAdvance dt).silenced.tim.legB = s.tim.legB := silence_none hmB
    have hgone : ((s.timAdvance dt).tim.legA.master.isSome && decide ((s.timAdvance dt).annLimit ≤ (s.timAdvance dt).tim.mono - (s.timAdvance dt).tim.legA.annAt)) = true := by
      simp only [Bool.and_eq_true, decide_eq_true_eq]
      exact ⟨congrArg Option.isSome hmA, hlim⟩
    have hk := (timAdvance_keeps (s := s) dt).trans (silenced_keeps (s := s.timAdvance dt)) fun _ => id
    have htim : (s.timAdvance dt).silenced.tim = { (s.timAdvance dt).tim with legA := (s.timAdvance dt).silenced.tim.legA, legB := (s.timAdvance dt).silenced.tim.legB } := rfl
    have hexec : exec (.announceReceiptTimeout dt) s = doneCore s (if (s.timAdvance dt).silenced.ptpDecide.tim.serving = 0 && !(s.timAdvance dt).silenced.ptpDecide.slaveOnly
        then ((s.timAdvance dt).silenced.ptpDecide.ptpTo .master).timJudge else (s.timAdvance dt).silenced.ptpDecide) := by
      have hon' : (s.timAdvance dt).timOn = true := hon
      exact congrArg (doneCore s) ((if_neg (by simp [hon'])).trans (if_pos (by simp only [hgone, Bool.true_or])))
    have hso' : (s.timAdvance dt).silenced.slaveOnly = true := hso
    generalize (s.timAdvance dt).silenced = v at *
    have hfollowA : v.followed.tim.legA = { s.tim.legA.alone with foreign := [], annAt := s.tim.mono + dt } := by
      rw [followed_tim, hA, show bestForeign [] = none from rfl, follow_none]
      rfl
    have hfollowB : v.followed.tim.legB.master = none := by
      rw [followed_tim, hB, hfB, show bestForeign [] = none from rfl, follow_none]
      rfl
    have hgm' : v.tim.gm ≠ 0 := by
      rw [htim]
      exact fun hx => hne (hgm.symm.trans hx)
    have hd := ptpDecide_lost hso' (congrArg PtpLeg.master hfollowA) hfollowB hgm' ((congrArg TimSt.pst htim).trans hpst) ((congrArg TimSt.qualified htim).trans hq)
    have hnow : v.followed.tim.now = s.tim.now + dt := congrArg TimSt.now htim
    generalize v.followed.tim = x at *
    generalize v.ptpDecide = t at *
    obtain ⟨htim2, hbit, hraised, hregs, hk2⟩ := hd
    have hso2 : t.slaveOnly = true := by
      unfold State.slaveOnly State.bit
      rw [hregs TIM_CFG (by decide) rfl, hk2.part (p := .twn) (by simp)]
      exact hso'
    rw [if_neg (by simp [hso2])] at hexec
    have hregs0 : regsKeep [TIM_STAT] s v := regsKeep_of_regs (hk.part (p := .regs) (by simp))
    have hlegA : t.tim.legA = { x.legA with annAt := x.mono } := congrArg TimSt.legA htim2
    rw [hfollowA] at hlegA
    exact leads_doneCore hexec ⟨congrArg PtpLeg.master hlegA, congrArg PtpLeg.foreign hlegA, congrArg TimSt.serving htim2, congrArg TimSt.gm htim2, congrArg TimSt.pst htim2, congrArg TimSt.rate htim2,
      (congrArg TimSt.now htim2).trans hnow, hbit, hraised.of_start hk.fit (congrArg _ (hk.part (p := .sys) (by simp))), hregs0.trans hregs, ((hk.mono (by simp)).trans hk2 fun _ => id).answered⟩
  · intro hpst hA hB
    have hpst' : (s.timAdvance dt).tim.pst = .slave := hpst
    have hA' : (s.timAdvance dt).tim.mono - (s.timAdvance dt).tim.legA.annAt < (s.timAdvance dt).annLimit := hA
    have hB' : (s.timAdvance dt).tim.mono - (s.timAdvance dt).tim.legB.annAt < (s.timAdvance dt).annLimit := hB
    have hon' : (s.timAdvance dt).timOn = true := hon
    exact congrArg (doneCore s) ((if_neg (by simp [hon'])).trans ((if_neg (by simp; omega)).trans (if_neg (by simp [hpst']))))

end Sys2Proof.Machine
end

section
/-! PROOF. O48, over the rules of Heartwood's parts: what a change of one leaves, and what a STAT bit with its event leaves. -/

namespace Sys2Proof.Machine

variable {s t u : State} {i m c k b e : Nat} {v : W32}

/-! ## Heartwood acts where it runs -/

theorem modHwd_keeps (f : HwdSt → HwdSt) : keeps [.hwd] s (s.modHwd f) := by simp [keeps_iff, State.modHwd]

/-! ## Parts by number -/

theorem setMic_sameBut (m : Nat) (x : MicIn) : sameBut [m] noMic s.hwd.mics (s.setMic m x).hwd.mics := fun _ ha => spGet_spPut_ne _ _ _ fun h => ha (by simp [h])
theorem setCin_sameBut (c : Nat) (x : CinLine) : sameBut [c] noCin s.hwd.cins (s.setCin c x).hwd.cins := fun _ ha => spGet_spPut_ne _ _ _ fun h => ha (by simp [h])

/-- A microphone input changes and nothing else. -/
structure MicSet (m : Nat) (x : MicIn) (s u : State) : Prop where
  mic : u.micIn m = x
  others : sameBut [m] noMic s.hwd.mics u.hwd.mics
  hwd : u.hwd = { s.hwd with mics := u.hwd.mics }
  keeps : keeps [.hwd] s u
theorem setMic_leaves (m : Nat) (x : MicIn) : MicSet m x s (s.setMic m x) := ⟨micIn_setMic_same s m x, setMic_sameBut m x, rfl, modHwd_keeps _⟩
/-- A contact changes and nothing else. -/
structure CinSet (c : Nat) (x : CinLine) (s u : State) : Prop where
  cin : u.cin c = x
  others : sameBut [c] noCin s.hwd.cins u.hwd.cins
  hwd : u.hwd = { s.hwd with cins := u.hwd.cins }
  keeps : keeps [.hwd] s u
theorem setCin_leaves (c : Nat) (x : CinLine) : CinSet c x s (s.setCin c x) := ⟨cin_setCin_same s c x, setCin_sameBut c x, rfl, modHwd_keeps _⟩

/-- A STAT bit is set and its event is kept for the engine's next boundary (R442). -/
structure HwSet (b e : Nat) (s t : State) : Prop where
  bit : t.bit HWD_STAT b = true
  cause : e ∈ t.hwd.causes
  hwd : t.hwd = { s.hwd with causes := t.hwd.causes }
  regs : regsOnly [HWD_STAT] s t
  keeps : keeps [.regs, .hwd] s t
theorem hwFlag_leaves (hb : b < 32) (e : Nat) : HwSet b e s (s.hwFlag b e) := by
  refine ⟨bit_flag_self hb, ?_, rfl, ((regsOnly.refl _ s).flag (by simp)).of_regs rfl, ((keeps.refl [.regs, .hwd] s).flag (by simp)).trans (modHwd_keeps _) (by simp)⟩
  show e ∈ if s.hwd.causes.contains e then s.hwd.causes else s.hwd.causes ++ [e]
  split
  · next h => exact List.contains_iff_mem.1 h
  · simp

/-- What a tick's state of keys and contacts sent again leaves (R446, R448). -/
theorem hwResend_none (hst : s.hwd.status = false) (hcut : s.hwd.afterCut = none) : s.hwResend = s :=
  (if_neg (by simp [hcut])).trans (if_neg (by simp [hst]))
theorem hwResend_sent (hst : s.hwd.status = true) (hcut : s.hwd.afterCut = none) : s.hwResend = s.modHwd fun h => { h with sentC := s.cinClosed, sentP := s.pttPressed } :=
  (if_neg (by simp [hcut])).trans (if_pos hst)
/-- A word sent again changes no more than the words on the way to the engine. -/
theorem hwResend_leaves : s.hwResend.regs = s.regs ∧ s.hwResend.hwd = { s.hwd with afterCut := s.hwResend.hwd.afterCut, sentC := s.hwResend.hwd.sentC, sentP := s.hwResend.hwd.sentP } ∧
    keeps [.hwd] s s.hwResend := by
  unfold State.hwResend
  split
  · exact ⟨rfl, rfl, modHwd_keeps _⟩
  · split
    · exact ⟨rfl, rfl, modHwd_keeps _⟩
    · exact ⟨rfl, rfl, keeps.refl _ s⟩

/-! ## Bands (R444, R446, R447) -/

theorem micType_of {i rd ty : Nat} (h : (i < 50 ∧ 50 ≤ rd ∧ rd ≤ 2000 ∧ ty = 1) ∨ (300 ≤ i ∧ i ≤ 3000 ∧ ty = 2) ∨ (i < 50 ∧ 20000 < rd ∧ ty = 3) ∨ (120 ≤ i ∧ i ≤ 260 ∧ ty = 4) ∨
    (3000 < i ∧ ty = 6) ∨ (50 ≤ i ∧ i < 120 ∧ ty = 5) ∨ (260 < i ∧ i < 300 ∧ ty = 5) ∨ (i < 50 ∧ rd < 50 ∧ ty = 5) ∨ (i < 50 ∧ 2000 < rd ∧ rd ≤ 20000 ∧ ty = 5)) :
    micType i rd = ty := by
  unfold micType
  split
  · omega
  split
  · omega
  split
  · omega
  split
  · omega
  split
  · omega
  · omega
theorem keyBand_open (h : 46800 * i < 5000000) : keyBand i = 4 := if_pos (by simpa [rcOver] using h)
theorem keyBand_short (h : 5000000 < 8800 * i) : keyBand i = 5 := by
  unfold keyBand rcOver rcFrom
  simp only [Bool.and_eq_true, Bool.not_eq_true', decide_eq_true_eq, decide_eq_false_iff_not]
  rw [if_neg (by omega), if_neg (by omega), if_neg (by omega), if_neg (by omega), if_neg (by omega), if_pos (by omega)]
theorem keyBand_talk (h1 : 14800 * i ≤ 5000000) (h2 : 5000000 ≤ 16800 * i) : keyBand i = 2 := by
  unfold keyBand rcOver rcFrom
  simp only [Bool.and_eq_true, Bool.not_eq_true', decide_eq_true_eq, decide_eq_false_iff_not]
  rw [if_neg (by omega), if_neg (by omega), if_neg (by omega), if_pos (by omega)]
theorem keyBand_chime (h1 : 17800 * i ≤ 5000000) (h2 : 5000000 ≤ 23300 * i) : keyBand i = 1 := by
  unfold keyBand rcOver rcFrom
  simp only [Bool.and_eq_true, Bool.not_eq_true', decide_eq_true_eq, decide_eq_false_iff_not]
  rw [if_neg (by omega), if_neg (by omega), if_pos (by omega)]
theorem keyBand_held (h1 : 5000000 ≤ 46800 * i) (h2 : 8800 * i ≤ 5000000) : keyBand i ≠ 4 ∧ keyBand i ≠ 5 := by
  unfold keyBand rcOver rcFrom
  simp only [Bool.and_eq_true, Bool.not_eq_true', decide_eq_true_eq, decide_eq_false_iff_not]
  rw [if_neg (by omega)]
  have hshort : ¬ (¬ (2000 + 6800) * i ≤ 5000000) := by omega
  rw [if_neg hshort]
  split
  · decide
  split
  · decide
  split
  · decide
  split
  · decide
  · decide
theorem micFails_of {ty : Nat} (h : (ty = 2 ∧ (i < 300 ∨ 3000 < i)) ∨ (ty = 4 ∧ (46800 * i < 5000000 ∨ 5000000 < 8800 * i))) : micFails ty i = true := by
  rcases h with ⟨rfl, h⟩ | ⟨rfl, h | h⟩
  · simp [micFails]
    omega
  · simp [micFails, keyBand_open h]
  · simp [micFails, keyBand_short h]
theorem micFails_not {ty : Nat} (h : (ty = 2 ∧ 300 ≤ i ∧ i ≤ 3000) ∨ (ty = 4 ∧ 5000000 ≤ 46800 * i ∧ 8800 * i ≤ 5000000)) : micFails ty i = false := by
  rcases h with ⟨rfl, h⟩ | ⟨rfl, h1, h2⟩
  · simp [micFails]
    omega
  · simp [micFails, keyBand_held h1 h2]
theorem cinBand_closed {ohms : Nat} (h1 : 150 ≤ ohms) (h2 : ohms < 2200) : cinBand ohms = 1 := (if_neg (by omega)).trans (if_pos h2)
theorem cinBand_fault {ohms ty : Nat} (h : (12000 < ohms ∧ ty = 2) ∨ (ohms < 150 ∧ ty = 3)) : cinBand ohms = ty ∧ 2 ≤ ty := by
  rcases h with ⟨h, rfl⟩ | ⟨h, rfl⟩
  · exact ⟨(if_neg (by omega)).trans ((if_neg (by omega)).trans (if_neg (by omega))), by omega⟩
  · exact ⟨if_pos h, by omega⟩

/-! ## A change that is reported -/

/-- A microphone input changes, with some registers, and a STAT bit reports it. -/
structure MicNotedBut (as : List Nat) (m : Nat) (x : MicIn) (b e : Nat) (s t : State) : Prop where
  mic : t.micIn m = x
  cause : e ∈ t.hwd.causes
  bit : t.bit HWD_STAT b = true
  others : sameBut [m] noMic s.hwd.mics t.hwd.mics
  hwd : t.hwd = { s.hwd with mics := t.hwd.mics, causes := t.hwd.causes }
  regs : regsOnly (as ++ [HWD_STAT]) s t
  keeps : keeps [.regs, .hwd] s t
/-- A microphone input changes, and of the registers only STAT. -/
abbrev MicNoted := MicNotedBut []
theorem micIn_of_mics (h : t.hwd.mics = s.hwd.mics) (m : Nat) : t.micIn m = s.micIn m := congrArg (spGet noMic · m) h
theorem cin_of_cins (h : t.hwd.cins = s.hwd.cins) (c : Nat) : t.cin c = s.cin c := congrArg (spGet noCin · c) h
theorem MicSet.noted {x : MicIn} (h : MicSet m x s u) (hf : HwSet b e u t) : MicNoted m x b e s t := by
  have hmics : t.hwd.mics = u.hwd.mics := (congrArg HwdSt.mics hf.hwd :)
  have hregs := h.keeps.part (p := .regs) (by simp)
  refine ⟨(micIn_of_mics hmics m).trans h.mic, hf.cause, hf.bit, hmics ▸ h.others, ?_, (regsOnly_of_regs hregs).trans hf.regs, (h.keeps.mono (by simp)).trans hf.keeps (by simp)⟩
  rw [hmics]
  exact hf.hwd.trans (congrArg (fun y : HwdSt => { y with causes := t.hwd.causes }) h.hwd)
theorem leads_micNoted {i : Instr} {x : MicIn} (hexec : exec i s = doneCore s t) (h : MicNoted m x b e s t) : leads i s fun t => t.micIn m = x ∧ e ∈ t.hwd.causes ∧ t.bit HWD_STAT b = true ∧
    sameBut [m] noMic s.hwd.mics t.hwd.mics ∧ t.hwd = { s.hwd with mics := t.hwd.mics, causes := t.hwd.causes } ∧ regsOnly [HWD_STAT] s t ∧ keeps [.regs, .hwd] s t :=
  leads_doneCore hexec ⟨h.mic, h.cause, h.bit, h.others, h.hwd, h.regs, h.keeps.answered⟩

/-! ## Inputs: what each command does -/

/-- The state in which an input's type and resistance have been reported. -/
def State.typed (s : State) (m : Nat) (x : MicIn) (rd : Nat) : State := ((s.setMic m x).wr (HWD_MIC_RD m) (w32 (if 65534 < rd then 0xFFFF else rd))).hwFlag 2 112
theorem exec_micTypeDetect {x : MicIn} {m : Fin 4} {i rd : Nat} (hhere : s.hwHere = true) (hx : s.micIn m.val = x) (hjack : x.jack = true) (hty : x.ty = 7) (hmeas : 150 ≤ x.meas)
    {ty : Nat} (hof : (if s.typeForce m.val = 0 then micType i rd else s.typeForce m.val) = ty) :
    exec (.micTypeDetect m i rd) s =
      doneCore s (s.typed m.val { x with ty := ty, bias := ty == 2 || ty == 4, iUa := i } rd) := by
  subst hx hof
  exact congrArg (doneCore s) ((onHw_here _ hhere).trans (if_pos (by simp [hjack, hty, hmeas])))
theorem micRd_word (rd : Nat) : (if 65534 < rd then 0xFFFF else rd) = if rd ≤ 65534 then rd else 0xFFFF := by
  split
  · rw [if_neg (by omega)]
  · rw [if_pos (by omega)]
theorem typed_leaves (m : Fin 4) (x : MicIn) (rd : Nat) : MicNotedBut [HWD_MIC_RD m.val] m.val x 2 112 s (s.typed m.val x rd) ∧
    (s.typed m.val x rd).rd (HWD_MIC_RD m.val) = w32 (if rd ≤ 65534 then rd else 0xFFFF) := by
  have hne : ∀ m : Fin 4, HWD_MIC_RD m.val ≠ HWD_STAT := by decide
  obtain ⟨hmic, hothers, hhwd, hk⟩ := setMic_leaves (s := s) m.val x
  have hregs : regsOnly [] s (s.setMic m.val x) := regsOnly_of_regs rfl
  unfold State.typed
  generalize s.setMic m.val x = u at *
  have hrd : (u.wr (HWD_MIC_RD m.val) (w32 (if 65534 < rd then 0xFFFF else rd))).rd (HWD_MIC_RD m.val) = w32 (if 65534 < rd then 0xFFFF else rd) := rd_wr_same ..
  have hwd : (u.wr (HWD_MIC_RD m.val) (w32 (if 65534 < rd then 0xFFFF else rd))).hwd = u.hwd := rfl
  have hregs1 : regsOnly [HWD_MIC_RD m.val] s (u.wr (HWD_MIC_RD m.val) (w32 (if 65534 < rd then 0xFFFF else rd))) := (hregs.mono (by simp)).wr (by simp)
  have hk1 : keeps [.regs, .hwd] s (u.wr (HWD_MIC_RD m.val) (w32 (if 65534 < rd then 0xFFFF else rd))) := (hk.mono (by simp)).wr (by simp)
  generalize u.wr (HWD_MIC_RD m.val) (w32 (if 65534 < rd then 0xFFFF else rd)) = v at *
  obtain ⟨hbit, hcause, hhwd2, hregs2, hk2⟩ := hwFlag_leaves (s := v) (b := 2) (by decide) 112
  generalize v.hwFlag 2 112 = t at *
  have hmics2 : t.hwd.mics = v.hwd.mics := (congrArg HwdSt.mics hhwd2 :)
  have hmics : t.hwd.mics = u.hwd.mics := hmics2.trans (congrArg HwdSt.mics hwd)
  refine ⟨⟨(micIn_of_mics hmics _).trans hmic, hcause, hbit, hmics ▸ hothers, ?_, (hregs1.mono (by simp)).trans (hregs2.mono (by simp)), hk1.trans hk2 (by simp)⟩, ?_⟩
  · rw [hmics]
    exact hhwd2.trans (congrArg (fun y : HwdSt => { y with causes := t.hwd.causes }) (hwd.trans hhwd))
  · rw [hregs2 _ (by simpa using hne m), hrd, micRd_word]

theorem micSupervise_turn {x : MicIn} (hx : s.micIn m = x) (hjack : x.jack = true) (hty : x.ty = 2 ∨ x.ty = 4) (hfails : micFails x.ty i ≠ x.fault) (hdeb : s.keyDeb ≤ x.badCnt + 1) :
    s.micSupervise m i = (s.setMic m { x with badCnt := 0, fault := !x.fault }).when (!x.fault) (·.hwFlag 2 113) := by
  subst hx
  exact (if_pos (by simpa [hjack] using hty)).trans ((if_neg hfails).trans (if_pos hdeb))
theorem exec_micFault {m : Fin 4} {x : MicIn} (hhere : s.hwHere = true) (hage : 120 ≤ s.hwd.age) (hx : s.micIn m.val = x) (hdeb : s.rdF HWD_KEY_DEB 7 0 ≤ x.badCnt + 1)
    (hjack : x.jack = true) (hty : x.ty = 2 ∨ x.ty = 4) (hfails : micFails x.ty i ≠ x.fault) :
    exec (.hwMicFault m i) s = doneCore s ((s.setMic m.val { x with badCnt := 0, fault := !x.fault }).when (!x.fault) (·.hwFlag 2 113)) := by
  rw [← micSupervise_turn hx hjack hty hfails hdeb]
  exact congrArg (doneCore s) ((onHwReady_ready _ hhere hage).trans (if_pos (by rw [hx]; exact hdeb)))
/-- An input whose key has been pressed. -/
def MicIn.keyed (x : MicIn) (ptt chime : Bool) : MicIn := { x with ptt := ptt, chime := chime, cnt := min 255 (x.cnt + 1) }
theorem exec_key {m : Fin 4} {x : MicIn} (b : Nat) (hhere : s.hwHere = true) (hage : 120 ≤ s.hwd.age) (hx : s.micIn m.val = x) (hjack : x.jack = true) (hty : x.ty = 4) (hband : keyBand i = b) (hcand : x.cand = b)
    (hb : b < 4) (hdeb : s.rdF HWD_KEY_DEB 7 0 ≤ x.cnt + 1) (hturn : (b == 2 || b == 3) ≠ x.ptt ∨ (b == 1 || b == 3) ≠ x.chime) :
    exec (.hwKey m i) s = doneCore s (((s.setMic m.val (x.keyed (b == 2 || b == 3) (b == 1 || b == 3))).chimePress m.val x.chime).hwFlag 3 114).hwResend := by
  subst hx hband
  have hdeb' : s.keyDeb ≤ (s.micIn m.val).cnt + 1 := hdeb
  have hkeys : s.micKeys m.val i = ((s.setMic m.val ((s.micIn m.val).keyed (keyBand i == 2 || keyBand i == 3) (keyBand i == 1 || keyBand i == 3))).chimePress m.val (s.micIn m.val).chime).hwFlag 3 114 := by
    refine (if_pos (by simp [hjack, hty])).trans ((if_neg (by omega)).trans ?_)
    simp only [hcand, if_true]
    exact (if_pos ⟨hb, hdeb', hturn⟩).trans (by rw [← hcand]; rfl)
  rw [← hkeys]
  exact congrArg (doneCore s) ((onHwReady_ready _ hhere hage).trans (if_pos (by rw [if_pos hcand]; exact hdeb')))

theorem chimePress_none {before : Bool} (h : m = 0 → (s.micIn 0).chime = false) : s.chimePress m before = s := if_neg fun ⟨hm, _, hc, _⟩ => by simp [h hm] at hc
theorem chimePress_asked (h : (s.micIn m).chime = true) :
    s.chimePress m false = s.modHwd fun x => { x with chimeReq := x.chimeReq || (decide (m = 0) && decide (s.hwd.mode = .fallback)) } := by
  unfold State.chimePress
  by_cases hm : m = 0
  · subst hm
    by_cases hmode : s.hwd.mode = .fallback
    · simp [h, hmode]
    · simp [hmode, State.modHwd]
  · simp [hm, State.modHwd]

/-! ## Contacts: what the command does -/

/-- The state in which a contact's new state has been taken, counted and reported. -/
def State.contactTaken (s : State) (c : Nat) (x : CinLine) : State := ((s.setCin c x).count HWD_CIN_CHANGES 1).hwFlag 4 115
theorem exec_contact {c : Fin 8} {y : CinLine} {ohms ty : Nat} (hhere : s.hwHere = true) (hage : 120 ≤ s.hwd.age) (hy : s.cin c.val = y) (hband : cinBand ohms = ty) (hne : y.st ≠ ty)
    (hcand : y.cand = ty) (hdeb : s.rdF HWD_CIN_DEB 7 0 ≤ y.cnt + 1) :
    exec (.hwContact c ohms) s = doneCore s ((s.contactTaken c.val { st := ty, cand := ty, cnt := 0, ohms := ohms }).when (decide (2 ≤ ty)) (·.hwFlag 4 116)).hwResend := by
  subst hy hband
  have hdeb' : s.cinDeb ≤ (s.cin c.val).cnt + 1 := hdeb
  have htick : s.cinTick c.val ohms =
      (s.contactTaken c.val { st := cinBand ohms, cand := cinBand ohms, cnt := 0, ohms := ohms }).when (decide (2 ≤ cinBand ohms)) (·.hwFlag 4 116) := by
    refine (if_neg hne.symm).trans ?_
    simp only [hcand, if_true]
    exact if_pos hdeb'
  rw [← htick]
  exact congrArg (doneCore s) ((onHwReady_ready _ hhere hage).trans (if_pos ⟨hne, by rw [if_pos hcand]; exact hdeb'⟩))
/-- A contact's state is taken: counted, and reported by a STAT bit. -/
structure CinNoted (c : Nat) (x : CinLine) (s t : State) : Prop where
  cin : t.cin c = x
  count : counted HWD_CIN_CHANGES 1 s t
  cause : 115 ∈ t.hwd.causes
  bit : t.bit HWD_STAT 4 = true
  others : sameBut [c] noCin s.hwd.cins t.hwd.cins
  hwd : t.hwd = { s.hwd with cins := t.hwd.cins, causes := t.hwd.causes }
  regs : regsOnly [HWD_CIN_CHANGES, HWD_STAT] s t
  keeps : keeps [.regs, .hwd] s t
theorem taken_leaves (c : Nat) (x : CinLine) : CinNoted c x s (s.contactTaken c x) := by
  obtain ⟨hcin, hothers, hhwd, hk⟩ := setCin_leaves (s := s) c x
  have hregs : (s.setCin c x).regs = s.regs := rfl
  unfold State.contactTaken
  generalize s.setCin c x = u at *
  have hcount : counted HWD_CIN_CHANGES 1 s (u.count HWD_CIN_CHANGES 1) := counted_count (rd_of_regs hregs _)
  have hregs1 : regsOnly [HWD_CIN_CHANGES] s (u.count HWD_CIN_CHANGES 1) := (regsOnly_of_regs hregs).count (by simp)
  have hk1 : keeps [.regs, .hwd] s (u.count HWD_CIN_CHANGES 1) := (hk.mono (by simp)).count (by simp)
  have hwd1 : (u.count HWD_CIN_CHANGES 1).hwd = u.hwd := rfl
  generalize u.count HWD_CIN_CHANGES 1 = v at *
  obtain ⟨hbit, hcause, hhwd2, hregs2, hk2⟩ := hwFlag_leaves (s := v) (b := 4) (by decide) 115
  generalize v.hwFlag 4 115 = t at *
  have hcins2 : t.hwd.cins = v.hwd.cins := (congrArg HwdSt.cins hhwd2 :)
  have hcins := hcins2.trans (congrArg HwdSt.cins hwd1)
  refine ⟨(cin_of_cins hcins _).trans hcin, hcount.of_rd (hregs2 _ (by decide)), hcause, hbit, hcins ▸ hothers, ?_, (hregs1.mono (by simp)).trans (hregs2.mono (by simp)), hk1.trans hk2 (by simp)⟩
  rw [hcins]
  exact hhwd2.trans (congrArg (fun y : HwdSt => { y with causes := t.hwd.causes }) (hwd1.trans hhwd))
theorem hwFlag_causes (b e : Nat) {n : Nat} (h : n ∈ s.hwd.causes) : n ∈ (s.hwFlag b e).hwd.causes := by
  show n ∈ if s.hwd.causes.contains e then s.hwd.causes else s.hwd.causes ++ [e]
  split
  · exact h
  · exact List.mem_append_left _ h
theorem cinClosed_mem {c : Nat} (hc : c < 8) (h : (s.cin c).st = 1) : c ∈ s.cinClosed :=
  List.mem_filter.2 ⟨mem_upFrom.2 ⟨by omega, by omega⟩, by simp [h]⟩

/-- Settles O48: each input takes its band, and reports it by one change, one STAT bit and one kept event. -/
theorem heartwoodInputs : Obligations.HeartwoodInputs := by
  unfold Obligations.HeartwoodInputs
  intro s m c x y i rd ohms ty hhere hx hy
  refine ⟨?_, ?_, ?_, ?_, ?_, ?_, ?_, ?_, ?_, ?_, ?_, ?_, ?_⟩
  · intro hage hjack
    have hexec : exec (.jackInsert m) s = doneCore s (s.setMic m.val { noMic with jack := true, ty := 7, bias := true }) :=
      congrArg (doneCore s) ((onHwReady_ready _ hhere hage).trans (if_neg (by simp [hx, hjack])))
    obtain ⟨hmic, hothers, hhwd, hk⟩ := setMic_leaves (s := s) m.val { noMic with jack := true, ty := 7, bias := true }
    exact leads_doneCore hexec ⟨hmic, hhwd, hothers, hk.answered⟩
  · intro hno
    refine (congrArg (doneCore s) ?_ : exec (.jackInsert m) s = doneCore s s)
    by_cases hage : s.hwd.age < 120
    · exact onHwReady_early _ hage
    · have hjack : x.jack = true := hno.resolve_right hage
      exact (onHwReady_ready _ hhere (by omega)).trans (if_pos (by simp [hx, hjack]))
  · intro hjack hty hmeas hforce hof
    have hexec := exec_micTypeDetect hhere hx hjack hty hmeas ((if_pos hforce).trans (micType_of hof))
    obtain ⟨hn, hrd⟩ := typed_leaves (s := s) m { x with ty := ty, bias := ty == 2 || ty == 4, iUa := i } rd
    generalize s.typed m.val { x with ty := ty, bias := ty == 2 || ty == 4, iUa := i } rd = t at *
    exact leads_doneCore hexec ⟨hn.mic, hrd, hn.cause, hn.bit, hn.others, hn.hwd, hn.regs, hn.keeps.answered⟩
  · intro hjack hty hmeas hforce hlo hhi
    have hof : (if s.typeForce m.val = 0 then micType i rd else s.typeForce m.val) = ty := by
      have hf : s.typeForce m.val = ty := by
        unfold State.typeForce
        rw [hforce]
        exact if_pos ⟨hlo, hhi⟩
      rw [hf]
      exact if_neg (by omega)
    have hexec := exec_micTypeDetect hhere hx hjack hty hmeas hof
    obtain ⟨hn, -⟩ := typed_leaves (s := s) m { x with ty := ty, bias := ty == 2 || ty == 4, iUa := i } rd
    generalize s.typed m.val { x with ty := ty, bias := ty == 2 || ty == 4, iUa := i } rd = t at *
    exact leads_doneCore hexec ⟨hn.mic, hn.cause, hn.keeps.answered⟩
  · intro _ _ hmeas
    exact (congrArg (doneCore s) ((onHw_here _ hhere).trans (if_neg (by simp [hx]; omega))) : exec (.micTypeDetect m i rd) s = doneCore s s)
  · intro hjack
    have hexec : exec (.jackRemove m) s = doneCore s ((s.setMic m.val noMic).hwFlag 2 112) := congrArg (doneCore s) ((onHw_here _ hhere).trans (if_pos (by rw [hx]; exact hjack)))
    exact leads_micNoted hexec ((setMic_leaves m.val noMic).noted (hwFlag_leaves (by decide) 112))
  · intro hage hjack hfault hdeb hfails
    have hfails' := micFails_of hfails
    have hexec := exec_micFault hhere hage hx hdeb hjack (hfails.imp And.left And.left) (by rw [hfails', hfault]; decide)
    rw [hfault] at hexec
    exact leads_micNoted hexec ((setMic_leaves m.val _).noted (hwFlag_leaves (by decide) 113))
  · intro hage hjack hfault hdeb hholds
    have hfails' := micFails_not hholds
    have hexec := exec_micFault hhere hage hx hdeb hjack (hholds.imp And.left And.left) (by rw [hfails', hfault]; decide)
    rw [hfault] at hexec
    obtain ⟨hmic, hothers, hhwd, hk⟩ := setMic_leaves (s := s) m.val { x with badCnt := 0, fault := !true }
    exact leads_doneCore hexec ⟨hmic, hothers, hhwd, hk.answered⟩
  · intro hage hjack hty hptt hst hcut hcand h1 h2 hdeb
    have hexec := exec_key 2 hhere hage hx hjack hty (keyBand_talk h1 h2) hcand (by decide) hdeb (.inl (by rw [hptt]; decide))
    have hn := (setMic_leaves (s := s) m.val (x.keyed true false)).noted (hwFlag_leaves (b := 3) (by decide) 114)
    have hpress : (s.setMic m.val (x.keyed true false)).chimePress m.val x.chime = s.setMic m.val (x.keyed true false) := chimePress_none (by
      intro h
      rw [← h, micIn_setMic_same]
      rfl)
    change exec _ s = doneCore s (((s.setMic m.val (x.keyed true false)).chimePress m.val x.chime).hwFlag 3 114).hwResend at hexec
    rw [hpress, hwResend_none (s := (s.setMic m.val (x.keyed true false)).hwFlag 3 114) hst hcut] at hexec
    exact leads_micNoted hexec hn
  · intro hage hjack hty hchime hst hcut hcand h1 h2 hdeb
    have hexec := exec_key 1 hhere hage hx hjack hty (keyBand_chime h1 h2) hcand (by decide) hdeb (.inr (by rw [hchime]; decide))
    obtain ⟨hmic, -, hhwd, hk⟩ := setMic_leaves (s := s) m.val (x.keyed false true)
    change exec _ s = doneCore s (((s.setMic m.val (x.keyed false true)).chimePress m.val x.chime).hwFlag 3 114).hwResend at hexec
    rw [hchime] at hexec
    have hst' : (s.setMic m.val (x.keyed false true)).hwd.status = false := hst
    have hcut' : (s.setMic m.val (x.keyed false true)).hwd.afterCut = none := hcut
    have hreq : (s.setMic m.val (x.keyed false true)).hwd.chimeReq = s.hwd.chimeReq := rfl
    have hmode : (s.setMic m.val (x.keyed false true)).hwd.mode = s.hwd.mode := rfl
    generalize s.setMic m.val (x.keyed false true) = u at *
    have hpress := chimePress_asked (s := u) (m := m.val) (by rw [hmic]; rfl)
    rw [hpress] at hexec
    have hk2 : keeps [.hwd] s (u.modHwd fun h => { h with chimeReq := h.chimeReq || (decide (m.val = 0) && decide (u.hwd.mode = .fallback)) }) := hk.trans (modHwd_keeps _) fun _ => id
    have hreq2 : (u.modHwd fun h => { h with chimeReq := h.chimeReq || (decide (m.val = 0) && decide (u.hwd.mode = .fallback)) }).hwd.chimeReq =
        (s.hwd.chimeReq || (decide (m.val = 0) && decide (s.hwd.mode = .fallback))) := by
      rw [← hreq, ← hmode]
      rfl
    have hmic2 : (u.modHwd fun h => { h with chimeReq := h.chimeReq || (decide (m.val = 0) && decide (u.hwd.mode = .fallback)) }).micIn m.val = x.keyed false true := hmic
    have hst2 : (u.modHwd fun h => { h with chimeReq := h.chimeReq || (decide (m.val = 0) && decide (u.hwd.mode = .fallback)) }).hwd.status = false := hst'
    have hcut2 : (u.modHwd fun h => { h with chimeReq := h.chimeReq || (decide (m.val = 0) && decide (u.hwd.mode = .fallback)) }).hwd.afterCut = none := hcut'
    generalize (u.modHwd fun h => { h with chimeReq := h.chimeReq || (decide (m.val = 0) && decide (u.hwd.mode = .fallback)) }) = v at *
    obtain ⟨-, hcause, hhwd2, hregs, hk3⟩ := hwFlag_leaves (s := v) (b := 3) (by decide) 114
    rw [hwResend_none (s := v.hwFlag 3 114) hst2 hcut2] at hexec
    generalize v.hwFlag 3 114 = t at *
    have hmics : t.hwd.mics = v.hwd.mics := (congrArg HwdSt.mics hhwd2 :)
    have hreq3 : t.hwd.chimeReq = v.hwd.chimeReq := (congrArg HwdSt.chimeReq hhwd2 :)
    exact leads_doneCore hexec ⟨(micIn_of_mics hmics _).trans hmic2, hcause, hreq3.trans hreq2, (regsOnly_of_regs (hk2.part (p := .regs) (by simp))).trans hregs, ((hk2.mono (by simp)).trans hk3 (by simp)).answered⟩
  · intro hage hst hcut hne hcand h1 h2 hdeb
    have hband := cinBand_closed h1 h2
    have hexec := exec_contact hhere hage hy hband hne hcand hdeb
    have hn := taken_leaves (s := s) c.val { st := 1, cand := 1, cnt := 0, ohms := ohms }
    have hresend := hwResend_none (s := s.contactTaken c.val { st := 1, cand := 1, cnt := 0, ohms := ohms }) hst hcut
    generalize s.contactTaken c.val { st := 1, cand := 1, cnt := 0, ohms := ohms } = t at *
    rw [State.when, if_neg (by decide), hresend] at hexec
    exact leads_doneCore hexec ⟨hn.cin, hn.count, hn.cause, hn.bit, hn.others, hn.hwd, hn.regs, hn.keeps.answered⟩
  · intro hage hof hne hcand hdeb
    obtain ⟨hband, htwo⟩ := cinBand_fault hof
    have hexec := exec_contact hhere hage hy hband hne hcand hdeb
    have hn := taken_leaves (s := s) c.val { st := ty, cand := ty, cnt := 0, ohms := ohms }
    generalize s.contactTaken c.val { st := ty, cand := ty, cnt := 0, ohms := ohms } = u at *
    rw [State.when, if_pos (by simpa using htwo)] at hexec
    obtain ⟨hbit, hcause, hhwd, hregs, hk⟩ := hwFlag_leaves (s := u) (b := 4) (by decide) 116
    have hold : 115 ∈ (u.hwFlag 4 116).hwd.causes := hwFlag_causes 4 116 hn.cause
    have hcins : (u.hwFlag 4 116).hwd.cins = u.hwd.cins := rfl
    generalize u.hwFlag 4 116 = w at *
    obtain ⟨hregs2, hhwd2, hk2⟩ := hwResend_leaves (s := w)
    have hcins2 : w.hwResend.hwd.cins = w.hwd.cins := (congrArg HwdSt.cins hhwd2 :)
    have hcauses2 : w.hwResend.hwd.causes = w.hwd.causes := (congrArg HwdSt.causes hhwd2 :)
    generalize w.hwResend = t at *
    have hcins3 := hcins2.trans hcins
    exact leads_doneCore hexec ⟨(cin_of_cins hcins3 _).trans hn.cin, (hn.count.of_rd (hregs _ (by decide))).of_rd (rd_of_regs hregs2 _), hcauses2 ▸ hold, hcauses2 ▸ hcause,
      (bit_of_rd (rd_of_regs hregs2 _)).trans hbit, hcins3 ▸ hn.others, (hn.regs.trans (hregs.mono (by simp))).of_regs hregs2, ((hn.keeps.trans hk fun _ => id).trans hk2 (by simp)).answered⟩
  · intro hage hst hcut hne hcand h1 h2 hdeb
    have hband := cinBand_closed h1 h2
    have hexec := exec_contact hhere hage hy hband hne hcand hdeb
    have hn := taken_leaves (s := s) c.val { st := 1, cand := 1, cnt := 0, ohms := ohms }
    have hresend := hwResend_sent (s := s.contactTaken c.val { st := 1, cand := 1, cnt := 0, ohms := ohms }) hst hcut
    generalize s.contactTaken c.val { st := 1, cand := 1, cnt := 0, ohms := ohms } = u at *
    rw [State.when, if_neg (by decide), hresend] at hexec
    have hin : c.val ∈ u.cinClosed := cinClosed_mem c.isLt (by rw [hn.cin])
    have hk := hn.keeps.trans (modHwd_keeps fun h => { h with sentC := u.cinClosed, sentP := u.pttPressed }) (by simp)
    exact leads_doneCore hexec ⟨rfl, hin, hk.answered⟩

end Sys2Proof.Machine
end

section
/-! SUPPORT. Heartwood's power channels (R453 to R457): a change of one, the line state of a window, the host's writes, the supply. -/

namespace Sys2Proof.Machine

variable {s t u : State} {i : Instr} {k b e a : Nat} {as bs : List Nat} {v : W32} {r x : Int} {y z : PowCh}

/-- A power channel changes and nothing else. -/
structure ChSet (k : Nat) (y : PowCh) (s u : State) : Prop where
  ch : u.powCh k = y
  others : sameBut [k] noCh s.hwd.chs u.hwd.chs
  hwd : u.hwd = { s.hwd with chs := u.hwd.chs }
  keeps : keeps [.hwd] s u
theorem setCh_leaves (k : Nat) (y : PowCh) : ChSet k y s (s.setCh k y) :=
  ⟨powCh_setCh_same s k y, fun _ ha => spGet_spPut_ne _ _ _ fun h => ha (by simp [h]), rfl, modHwd_keeps _⟩
theorem powCh_of_chs (h : t.hwd.chs = s.hwd.chs) (k : Nat) : t.powCh k = s.powCh k := congrArg (spGet noCh · k) h

/-- A power channel changes, with some registers. -/
structure ChTo (as : List Nat) (k : Nat) (y : PowCh) (s u : State) : Prop where
  ch : u.powCh k = y
  others : sameBut [k] noCh s.hwd.chs u.hwd.chs
  hwd : u.hwd = { s.hwd with chs := u.hwd.chs }
  regs : regsOnly as s u
  keeps : keeps [.regs, .hwd] s u
theorem ChSet.to (h : ChSet k y s u) : ChTo [] k y s u := ⟨h.ch, h.others, h.hwd, regsOnly_of_regs (h.keeps.part (p := .regs) (by simp)), h.keeps.mono (by simp)⟩
theorem ChTo.mono (h : ChTo as k y s u) (hsub : as ⊆ bs) : ChTo bs k y s u := ⟨h.ch, h.others, h.hwd, h.regs.mono hsub, h.keeps⟩
theorem ChTo.wr (h : ChTo as k y s u) (ha : a ∈ as) : ChTo as k y s (u.wr a v) := ⟨h.ch, h.others, h.hwd, h.regs.wr ha, h.keeps.wr (by simp)⟩
theorem ChTo.set (h : ChTo as k y s u) (z : PowCh) : ChTo as k z s (u.setCh k z) := by
  obtain ⟨hch, hothers, hhwd, hk⟩ := setCh_leaves (s := u) k z
  generalize u.setCh k z = t at *
  exact ⟨hch, h.others.trans hothers, hhwd.trans (congrArg (fun w : HwdSt => { w with chs := t.hwd.chs }) h.hwd), h.regs.of_regs (hk.part (p := .regs) (by simp)),
    h.keeps.trans hk (by simp)⟩

/-- A power channel changes, with some registers, and a STAT bit reports it. -/
structure ChNoted (as : List Nat) (k : Nat) (y : PowCh) (b e : Nat) (s t : State) : Prop where
  ch : t.powCh k = y
  bit : t.bit HWD_STAT b = true
  cause : e ∈ t.hwd.causes
  others : sameBut [k] noCh s.hwd.chs t.hwd.chs
  hwd : t.hwd = { s.hwd with chs := t.hwd.chs, causes := t.hwd.causes }
  regs : regsOnly (as ++ [HWD_STAT]) s t
  keeps : keeps [.regs, .hwd] s t
theorem ChTo.noted (h : ChTo as k y s u) (hf : HwSet b e u t) : ChNoted as k y b e s t := by
  have hchs : t.hwd.chs = u.hwd.chs := (congrArg HwdSt.chs hf.hwd :)
  refine ⟨(powCh_of_chs hchs k).trans h.ch, hf.bit, hf.cause, hchs ▸ h.others, ?_, (h.regs.mono (by simp)).trans (hf.regs.mono (by simp)), h.keeps.trans hf.keeps (by simp)⟩
  rw [hchs]
  exact hf.hwd.trans (congrArg (fun w : HwdSt => { w with causes := t.hwd.causes }) h.hwd)

/-! ## A measured impedance (R455) -/

theorem zSq_int (r x : Int) : ((zSq r x : Nat) : Int) = r * r + x * x := by
  rw [zSq, Int.natCast_add, Int.natAbs_mul_self, Int.natAbs_mul_self]
theorem zRange_eq (r x : Int) : zRange r x = (decide (r * r + x * x < 40000) || decide (10240000 < r * r + x * x)) := by
  have h := zSq_int r x
  have h1 : zSq r x < 200 * 200 ↔ r * r + x * x < 40000 := by omega
  have h2 : 3200 * 3200 < zSq r x ↔ 10240000 < r * r + x * x := by omega
  rw [zRange, decide_eq_decide.2 h1, decide_eq_decide.2 h2]
theorem zReport_to (h : ChTo as k y s u) (ha : HWD_CH_Z k ∈ as) :
    ChTo as k { y with range := zRange r x } s (u.zReport k r x) ∧ (u.zReport k r x).rd (HWD_CH_Z k) = zWord r x := by
  unfold State.zReport
  rw [h.ch]
  exact ⟨(h.set _).wr ha, rd_wr_same ..⟩

theorem lineOf_measured (hlo : ((s.zShort * s.zShort : Nat) : Int) ≤ r * r + x * x) (hhi : r * r + x * x ≤ ((s.zOpen * s.zOpen : Nat) : Int)) :
    s.lineOf k r x false = if 10000 * zSq r x < s.rdF (HWD_CH_ZREF k) 15 0 * (100 - s.rdF (HWD_CH_ZREF k) 23 16) * (s.rdF (HWD_CH_ZREF k) 15 0 * (100 - s.rdF (HWD_CH_ZREF k) 23 16)) then 2
      else if s.rdF (HWD_CH_ZREF k) 15 0 * (100 + s.rdF (HWD_CH_ZREF k) 23 16) * (s.rdF (HWD_CH_ZREF k) 15 0 * (100 + s.rdF (HWD_CH_ZREF k) 23 16)) < 10000 * zSq r x then 3 else 1 := by
  have h := zSq_int r x
  have h1 : ¬ zSq r x < s.zShort * s.zShort := by omega
  have h2 : ¬ s.zOpen * s.zOpen < zSq r x := by omega
  exact (if_neg (by simp [h1])).trans (if_neg (by simp [h2]))
theorem lineOf_ok {a z : Nat} (hlo : ((s.zShort * s.zShort : Nat) : Int) ≤ r * r + x * x) (hhi : r * r + x * x ≤ ((s.zOpen * s.zOpen : Nat) : Int))
    (ha : a = s.rdF (HWD_CH_ZREF k) 15 0 * (100 - s.rdF (HWD_CH_ZREF k) 23 16)) (hz : z = s.rdF (HWD_CH_ZREF k) 15 0 * (100 + s.rdF (HWD_CH_ZREF k) 23 16))
    (h1 : ((a * a : Nat) : Int) ≤ 10000 * (r * r + x * x)) (h2 : 10000 * (r * r + x * x) ≤ ((z * z : Nat) : Int)) : s.lineOf k r x false = 1 := by
  have h := zSq_int r x
  rw [lineOf_measured hlo hhi, ← ha, ← hz, if_neg (by omega), if_neg (by omega)]
theorem lineOf_high {z : Nat} (hlo : ((s.zShort * s.zShort : Nat) : Int) ≤ r * r + x * x) (hhi : r * r + x * x ≤ ((s.zOpen * s.zOpen : Nat) : Int))
    (hz : z = s.rdF (HWD_CH_ZREF k) 15 0 * (100 + s.rdF (HWD_CH_ZREF k) 23 16)) (h2 : ((z * z : Nat) : Int) < 10000 * (r * r + x * x)) : s.lineOf k r x false = 3 := by
  have h := zSq_int r x
  have hle : s.rdF (HWD_CH_ZREF k) 15 0 * (100 - s.rdF (HWD_CH_ZREF k) 23 16) ≤ z := hz ▸ Nat.mul_le_mul_left _ (by omega)
  have hsq := Nat.mul_le_mul hle hle
  rw [lineOf_measured hlo hhi, ← hz, if_neg (by omega), if_pos (by omega)]

/-! ## What a window's end and a probe's end do -/

/-- The state in which a window's measurement has been reported. -/
def State.windowed (s : State) (k : Nat) (r x : Int) (power : Nat) : State :=
  ((s.setCh k { s.powCh k with win := 0 }).zReport k r x).wr (HWD_CH_POWER k) (w32 (min 0xFFFF power))
theorem windowed_to (k : Fin 2) (hy : s.powCh k.val = y) (power : Nat) : ChTo [HWD_CH_Z k.val, HWD_CH_POWER k.val] k.val { y with win := 0, range := zRange r x } s (s.windowed k.val r x power) ∧
    (s.windowed k.val r x power).rd (HWD_CH_Z k.val) = zWord r x ∧ (s.windowed k.val r x power).rd (HWD_CH_POWER k.val) = w32 (min 0xFFFF power) := by
  have hne : ∀ k : Fin 2, HWD_CH_Z k.val ≠ HWD_CH_POWER k.val := by decide
  unfold State.windowed
  rw [hy]
  obtain ⟨hto, hrd⟩ := zReport_to (r := r) (x := x) ((setCh_leaves (s := s) k.val { y with win := 0 }).to.mono (bs := [HWD_CH_Z k.val, HWD_CH_POWER k.val]) (by simp)) (by simp)
  exact ⟨hto.wr (by simp), (rd_wr_ne _ _ (hne k)).trans hrd, rd_wr_same ..⟩
theorem exec_window {k : Fin 2} {pw d : Nat} (hhere : s.hwHere = true) (hy : s.powCh k.val = y) (hst : y.st = .play) (hwin : 300 ≤ y.win) (hd : s.lineOf k.val r x false = d) (hne : d ≠ 4) :
    exec (.pilotWindowEnd k r x false pw) s = doneCore s ((s.windowed k.val r x pw).lineTake k.val d) := by
  subst hd
  exact congrArg (doneCore s) ((onHw_here _ hhere).trans ((if_pos (by rw [hy]; exact ⟨hst, hwin⟩)).trans (if_neg hne)))
theorem exec_probeEnd {k : Fin 2} {limited : Bool} (hhere : s.hwHere = true) (hy : s.powCh k.val = y) (hst : y.st = .hizShort) (hpr : y.probing = true)
    (hend : limited = true ∨ 300 ≤ y.probeTicks) :
    exec (.shortProbeEnd k r x limited) s = doneCore s (if (!limited && decide (4 * s.zShort * s.zShort ≤ zSq r x)) && (y.single || decide (1 ≤ y.passes))
      then (s.zReport k.val r x).setCh k.val { y with range := zRange r x, probing := false, back := true }
      else (s.zReport k.val r x).setCh k.val { y with range := zRange r x, probing := false, single := false, passes := if !limited && decide (4 * s.zShort * s.zShort ≤ zSq r x) then y.passes + 1 else 0 }) := by
  have hch : (s.zReport k.val r x).powCh k.val = { y with range := zRange r x } := by
    unfold State.zReport
    rw [hy]
    exact powCh_setCh_same ..
  refine congrArg (doneCore s) ((onHw_here _ hhere).trans ((if_pos (by rw [hy]; exact ⟨hst, hpr, hend⟩)).trans ?_))
  simp only [hch]

/-! ## The host's writes of Heartwood's registers -/

theorem regWrite_hwd {addr off : Nat} {u : State} (hloc : locate addr = some (.hwd, off)) (hhere : s.hwHere = true) (hlost : s.hwd.lost = false)
    (hgrant : s.granted (classAt (blkBase .hwd + off)) = true) (hdumb : dumb .hwd off v = false) (hside : s.sideWrite 0 .hwd off v = some u) : s.regWrite 0 addr v = u := by
  have hA : s.fit.variantA = true := by
    simp only [State.hwHere, Bool.and_eq_true] at hhere
    exact hhere.1.1
  rw [State.regWrite, hloc]
  simp only [State.hwSilent, hhere, hlost, Bool.not_true, Bool.or_self, Bool.and_false, Bool.false_eq_true, if_false]
  rw [if_neg (by simp [hA]), if_neg (by simp [hgrant]), State.blockWrite]
  simp only [hdumb, hside, State.badArg, ite_self, Bool.false_eq_true, if_false]
theorem hostReg32_chCfg (k : Fin 2) (hup : s.hostUp = true) (hhere : s.hwHere = true) (hlost : s.hwd.lost = false) :
    s.hostReg32 (HWD_CH_CFG k.val) v = s.chCfg k.val v := by
  refine (byHost_up hup _).trans ?_
  match k with
  | 0 => exact regWrite_hwd (off := 0x2010) rfl hhere hlost rfl rfl rfl
  | 1 => exact regWrite_hwd (off := 0x2030) rfl hhere hlost rfl rfl rfl
theorem chCfg_off {k : Nat} (hy : s.powCh k = y) (hst : y.st = .hizShort) (hv : bitOf v 0 = false) :
    s.chCfg k v = (s.wr (HWD_CH_CFG k) (v &&& 0x33F01)).setCh k { y with enLow := true } := by
  have hy' : (s.wr (HWD_CH_CFG k) (v &&& 0x33F01)).powCh k = y := hy
  unfold State.chCfg
  simp only [hy', hv, hst, Bool.false_eq_true, if_false]
theorem chCfg_on {k : Nat} (hy : s.powCh k = y) (hst : y.st = .hizShort) (hlow : y.enLow = true) (hv : bitOf v 0 = true) (hauto : bitOf v 17 = false) :
    s.chCfg k v = ((s.wr (HWD_CH_CFG k) (v &&& 0x33F01)).setCh k { y with enLow := false }).probeStart k true := by
  have hy' : (s.wr (HWD_CH_CFG k) (v &&& 0x33F01)).powCh k = y := hy
  unfold State.chCfg
  simp only [hy', hv, hst, hlow, hauto, Bool.not_false, Bool.and_self, if_true]

/-! ## Supply and temperature (R457, R464) -/

/-- A channel whose supply or temperature has failed. -/
def PowCh.faulted (y : PowCh) : PowCh := { y with st := .hizFault, win := 0, probing := false, passes := 0, single := false, back := false }
theorem chsFault_leaves (hsweep : s.hwd.sweep = none) : (∀ j ∈ [0, 1], (s.chsFault.powCh j).st = .hizFault) ∧ s.chsFault.hwd = { s.hwd with chs := s.chsFault.hwd.chs } ∧
    keeps [.hwd] s s.chsFault := by
  have hfail : s.sweepFail = s := by simp [State.sweepFail, hsweep]
  have heq : s.chsFault = (s.setCh 0 (s.powCh 0).faulted).setCh 1 ((s.setCh 0 (s.powCh 0).faulted).powCh 1).faulted := by
    unfold State.chsFault
    rw [hfail]
    rfl
  rw [heq]
  refine ⟨fun j hj => ?_, rfl, (setCh_leaves _ _).keeps.trans (setCh_leaves _ _).keeps fun _ => id⟩
  simp only [List.mem_cons, List.not_mem_nil, or_false] at hj
  rcases hj with rfl | rfl
  · rw [powCh_setCh_ne _ _ _ (by decide), powCh_setCh_same]
    rfl
  · rw [powCh_setCh_same]
    rfl
/-- A channel that returns where its EN is 1. -/
def PowCh.returned (y : PowCh) (en : Bool) : PowCh :=
  { y with st := if en then .play else .off, fadeIn := true, win := 0, probing := false, passes := 0, single := false, enLow := false, back := false }
theorem chReturn_eq (k : Nat) : s.chReturn k = s.setCh k ((s.powCh k).returned (s.bit (HWD_CH_CFG k) 0)) := by
  unfold State.chReturn PowCh.returned
  rfl
/-- One channel's turn of a return. -/
def State.chTurn (s : State) (k : Nat) : State := if (s.powCh k).st = .hizFault then s.chReturn k else s
theorem chTurn_leaves (k : Nat) : (∀ j, (s.chTurn k).powCh j = if j = k ∧ (s.powCh k).st = .hizFault then (s.powCh k).returned (s.bit (HWD_CH_CFG k) 0) else s.powCh j) ∧
    (s.chTurn k).hwd = { s.hwd with chs := (s.chTurn k).hwd.chs } ∧ keeps [.hwd] s (s.chTurn k) := by
  unfold State.chTurn
  by_cases h : (s.powCh k).st = .hizFault
  · rw [if_pos h, chReturn_eq]
    refine ⟨fun j => ?_, rfl, (setCh_leaves _ _).keeps⟩
    by_cases hj : j = k
    · rw [if_pos ⟨hj, h⟩, hj, powCh_setCh_same]
    · rw [if_neg fun hx => hj hx.1, powCh_setCh_ne _ _ _ hj]
  · rw [if_neg h]
    exact ⟨fun j => (if_neg fun hx => h hx.2).symm, rfl, keeps.refl _ s⟩
theorem chsReturn_leaves (hbad : s.hwd.vbatBad = false) (hhot : s.hwd.hot = false) : s.chsReturn.hwd = { s.hwd with chs := s.chsReturn.hwd.chs } ∧ keeps [.hwd] s s.chsReturn ∧
    ∀ k : Fin 2, (s.powCh k.val).st = .hizFault → s.bit (HWD_CH_CFG k.val) 0 = true → (s.chsReturn.powCh k.val).st = .play ∧ (s.chsReturn.powCh k.val).fadeIn = true := by
  have heq : s.chsReturn = (s.chTurn 0).chTurn 1 := if_neg (by simp [hbad, hhot])
  rw [heq]
  obtain ⟨hch0, hhwd0, hk0⟩ := chTurn_leaves (s := s) 0
  generalize s.chTurn 0 = u at *
  obtain ⟨hch1, hhwd1, hk1⟩ := chTurn_leaves (s := u) 1
  have hbit := bit_of_rd (i := 0) (rd_of_regs (hk0.part (p := .regs) (by simp)) (HWD_CH_CFG 1))
  generalize u.chTurn 1 = t at *
  refine ⟨hhwd1.trans (congrArg (fun w : HwdSt => { w with chs := t.hwd.chs }) hhwd0), hk0.trans hk1 fun _ => id, fun k hst hen => ?_⟩
  match k with
  | 0 =>
    have hch : t.powCh 0 = (s.powCh 0).returned true := by rw [hch1, if_neg (by simp), hch0, if_pos ⟨rfl, hst⟩]; exact congrArg _ hen
    exact hch ▸ ⟨rfl, rfl⟩
  | 1 =>
    have hsame : u.powCh 1 = s.powCh 1 := by rw [hch0, if_neg (by simp)]
    have hch : t.powCh 1 = (s.powCh 1).returned true := by rw [hch1, hsame, if_pos ⟨rfl, hst⟩, hbit]; exact congrArg _ hen
    exact hch ▸ ⟨rfl, rfl⟩

end Sys2Proof.Machine
end

section
/-! PROOF. O49: the impedance sweep (R468), the reserve store (R465 to R467), and the statement over the rules of the channels. -/

namespace Sys2Proof.Machine

variable {s t u : State} {i : Instr} {b e a : Nat} {as bs : List Nat} {v : W32} {r x : Int} {y z : PowCh} {w : SweepWork}

theorem ChTo.start {k : Nat} (hy : s.powCh k = y) : ChTo as k y s s := ⟨hy, sameBut_refl _ _ _, rfl, regsOnly.refl _ s, keeps.refl _ s⟩

/-! ## IMPEDANCE_SWEEP (R468) -/

/-- A sweep's argument names its level and its channel. -/
theorem sweepArg_fields : ∀ pw : Fin 61, ∀ ch : Fin 2, w32 (pw.val * 256 + ch.val) &&& 0xFFFF00FE = 0 ∧ fld (w32 (pw.val * 256 + ch.val)) 15 8 = pw.val ∧
    fld (w32 (pw.val * 256 + ch.val)) 0 0 = ch.val := by decide
theorem sweepError_args {j : JobSlot} {pw : Nat} {ch : Fin 2} (hhere : s.hwHere = true) (hargs : j.args = [w32 (pw * 256 + ch.val), 0, 0, 0]) (hlo : 20 ≤ pw) (hhi : pw ≤ 60) :
    s.sweepError j = (if s.bit (HWD_CH_CFG ch.val) 0 = true ∧ (s.powCh ch.val).st = .play then 0 else 0x40) ∧ fld (j.arg 0) 0 0 = ch.val ∧ fld (j.arg 0) 15 8 = pw := by
  obtain ⟨hmask, hlevel, hch⟩ := sweepArg_fields ⟨pw, by omega⟩ ch
  have hA : s.fit.variantA = true := by
    simp only [State.hwHere, Bool.and_eq_true] at hhere
    exact hhere.1.1
  have h0 : j.arg 0 = w32 (pw * 256 + ch.val) := by rw [JobSlot.arg, hargs]; rfl
  have h1 : j.arg 1 = 0 := by rw [JobSlot.arg, hargs]; rfl
  have h2 : j.arg 2 = 0 := by rw [JobSlot.arg, hargs]; rfl
  have h3 : j.arg 3 = 0 := by rw [JobSlot.arg, hargs]; rfl
  rw [h0]
  refine ⟨?_, hch, hlevel⟩
  have hbad : ¬ (w32 (pw * 256 + ch.val) &&& 0xFFFF00FE ≠ 0 ∨ fld (w32 (pw * 256 + ch.val)) 15 8 < 20 ∨ 60 < fld (w32 (pw * 256 + ch.val)) 15 8 ∨ j.arg 1 ≠ 0 ∨ j.arg 2 ≠ 0 ∨ j.arg 3 ≠ 0) := by
    rw [hmask, hlevel, h1, h2, h3]
    simp
    omega
  refine (if_neg (by simp [hA])).trans ?_
  rw [h0, if_neg hbad, hch, hhere]
  simp
theorem exec_sweep {k : Fin 16} {pw : Nat} {ch : Fin 2} (hhere : s.hwHere = true) (hst : (s.slot k.val).st = .queued) (hkind : (s.slot k.val).kind = 8) (hfree : s.engineFree k.val = true)
    (hsweep : s.hwd.sweep = none) (hargs : (s.slot k.val).args = [w32 (pw * 256 + ch.val), 0, 0, 0]) (hlo : 20 ≤ pw) (hhi : pw ≤ 60) :
    exec (.impedanceSweep k) s = doneCore s (if s.bit (HWD_CH_CFG ch.val) 0 = true ∧ (s.powCh ch.val).st = .play
      then ((s.jobBegin k.val).setCh ch.val { s.powCh ch.val with st := .sweep, win := 0 }).modHwd fun h => { h with sweep := some { slot := k.val, ch := ch.val, points := [], ticks := 0, level := pw } }
      else (s.jobBegin k.val).jobFin k.val 0x40) := by
  have hslot := jobBegin_slot (s := s) k.val
  have hhere' : (s.jobBegin k.val).hwHere = true := hhere
  have hrun : (s.jobBegin k.val).runsJob k.val 8 = true := by
    rw [State.runsJob, hslot, hkind]
    rfl
  have hsweep' : (s.jobBegin k.val).hwd.sweep = none := hsweep
  have hfin : ((s.jobBegin k.val).slot k.val).fin = none := congrArg JobSlot.fin hslot
  have hargs' : ((s.jobBegin k.val).slot k.val).args = [w32 (pw * 256 + ch.val), 0, 0, 0] := (congrArg JobSlot.args hslot).trans hargs
  obtain ⟨herr, hch, hlevel⟩ := sweepError_args hhere' hargs' hlo hhi
  have hbit : (s.jobBegin k.val).bit (HWD_CH_CFG ch.val) 0 = s.bit (HWD_CH_CFG ch.val) 0 := rfl
  have hpow : (s.jobBegin k.val).powCh ch.val = s.powCh ch.val := rfl
  refine congrArg (doneCore s) ?_
  dsimp only
  rw [jobTryBegin_free hst hfree]
  generalize s.jobBegin k.val = u at *
  rw [if_neg (by simp [hrun, hsweep', hfin]), herr, hch, hlevel, hbit, hpow]
  split
  · exact if_neg (by simp)
  · exact if_pos (by simp)

theorem modSlot_sameBut (k : Nat) (f : JobSlot → JobSlot) : sameBut [k] idleSlot s.jobs (s.modSlot k f).jobs := fun _ ha => spGet_spPut_ne _ _ _ fun h => ha (by simp [h])
theorem jobBegin_sameBut (k : Nat) : sameBut [k] idleSlot s.jobs (s.jobBegin k).jobs :=
  modSlot_sameBut (s := s) k fun j => { j with st := .running, total := 0, error := 0, fin := none }

/-- A sweep that has measured one point more. -/
def SweepWork.measured (w : SweepWork) (r x : Int) : SweepWork := { w with points := w.points ++ [zWord r x], ticks := 0 }
/-- The state in which a point has been measured. -/
def State.pointed (s : State) (w : SweepWork) (r x : Int) : State :=
  (s.modHwd fun h => { h with sweep := some (w.measured r x) }).jobProgress w.slot (w.points.length + 1)
theorem exec_point (hsweep : s.hwd.sweep = some w) (hticks : 300 ≤ w.ticks) (hab : (s.slot w.slot).abortReq = false) :
    exec (.sweepPointEnd r x) s = doneCore s (if 28 ≤ w.points.length + 1 then (s.pointed w r x).sweepClose.jobFin w.slot 0 else s.pointed w r x) := by
  refine congrArg (doneCore s) ?_
  rw [hsweep]
  dsimp only
  rw [if_neg (by omega), if_neg (by simp [hab])]
  simp only [List.length_append, List.length_cons, List.length_nil]
  rfl
theorem sweepClose_eq (hsweep : s.hwd.sweep = some w) (hst : (s.powCh w.ch).st = .sweep) : s.sweepClose =
    ((s.setCh w.ch { s.powCh w.ch with st := .play, fadeIn := true, win := 0 }).modHwd fun h => { h with sweep := none }).resultWrite w.slot (sweepWords w) := by
  unfold State.sweepClose
  simp only [hsweep, hst, if_true]
theorem nth_last {ps : List W32} {p q : W32} {n : Nat} (hn : ps.length = n) : nth 0 (p :: (ps ++ [q])) (n + 1) = q := by
  subst hn
  rw [nth_eq_getD]
  simp

/-! ## The reserve store (R465 to R467) -/

theorem granted_class1 (h : s.class1 = true) : s.granted 1 = true := by simp [State.granted, h]
theorem exec_storeRead (hup : s.hostUp = true) (hhere : s.hwHere = true) (hlost : s.hwd.lost = false) :
    exec .reserveStoreRead s = doneCore s (s.rsNext.answer (w32 (s.hwd.word s.rsAddr))) := by
  have hA : s.fit.variantA = true := by
    simp only [State.hwHere, Bool.and_eq_true] at hhere
    exact hhere.1.1
  have hreg : s.hostReg HWD_RS_DATA = s.rsRead := by
    have hloc : locate HWD_RS_DATA = some (.hwd, 0x30) := rfl
    rw [State.hostReg, hloc]
    simp [State.hwSilent, hhere, hlost, hA]
  refine congrArg (doneCore s) ((byHost_up hup _).trans ?_)
  rw [hostReadOut_reg (cleanRead .word) (by decide) (by simp [State.msixAt, HWD_RS_DATA]), hreg]
  rfl
theorem exec_storeWrite (hup : s.hostUp = true) (hhere : s.hwHere = true) (hlost : s.hwd.lost = false) (hclass : s.class1 = true) :
    exec (.reserveStoreWrite v) s = doneCore s (s.rsWrite v) :=
  congrArg (doneCore s) ((byHost_up hup _).trans (regWrite_hwd (off := 0x30) rfl hhere hlost (granted_class1 hclass) rfl rfl))
theorem exec_storeSave (hup : s.hostUp = true) (hhere : s.hwHere = true) (hlost : s.hwd.lost = false) (hclass : s.class1 = true) :
    exec (.hwdRsSave v) s = doneCore s (s.rsSave v) :=
  congrArg (doneCore s) ((byHost_up hup _).trans (regWrite_hwd (off := 0x38) rfl hhere hlost (granted_class1 hclass) rfl rfl))
theorem hwStored_idle {a n : Nat} (hplay : s.hwd.play = none) : s.hwStored a n = s.modHwd fun h => { h with checkLeft := 4020 } := by
  unfold State.hwStored State.modHwd
  simp [hplay]
theorem memWrite_sameBut (m : Sparse Byte) (a : Nat) (bs : List Byte) {as : List Nat} (hin : ∀ j, a ≤ j → j < a + bs.length → j ∈ as) : sameBut as 0 m (memWrite m a bs) :=
  fun j hj => memWrite_other m a bs (by
    by_contra h
    exact hj (hin j (by omega) (by omega)))
theorem length_flatMap_regs (rs : List (Nat × W32)) : (rs.flatMap fun r => leBytes 4 (s.rd r.1).toNat).length = 4 * rs.length := by
  induction rs with
  | nil => rfl
  | cons r rs ih =>
    rw [List.flatMap_cons, List.length_append, ih, length_leBytes, List.length_cons]
    omega
theorem length_hwBlock : s.hwBlock.length = 88 := by
  unfold State.hwBlock
  simp only [List.length_append, length_flatMap_regs, length_leBytes]
  rfl
theorem hwCheck_leaves : s.hwCheck.hwd = { s.hwd with good := (upFrom 0 256).filter s.hwd.msgGood, checkLeft := 0, cfgOk := s.hwd.cfgGood, causes := s.hwCheck.hwd.causes } ∧
    ((∃ i ∈ upFrom 0 256, s.hwd.msgValid i = true ∧ s.hwd.msgGood i = false) → s.hwCheck.bit HWD_STAT 7 = true ∧ 118 ∈ s.hwCheck.hwd.causes) ∧
    regsOnly [HWD_STAT] s s.hwCheck ∧ keeps [.regs, .hwd] s s.hwCheck := by
  have hk := modHwd_keeps (s := s) fun h => { h with good := (upFrom 0 256).filter h.msgGood, checkLeft := 0, cfgOk := h.cfgGood }
  have hregs := hk.part (p := .regs) (by simp)
  by_cases hbad : (upFrom 0 256).any (fun i => s.hwd.msgValid i && !s.hwd.msgGood i) = true
  · have heq : s.hwCheck = (s.modHwd fun h => { h with good := (upFrom 0 256).filter h.msgGood, checkLeft := 0, cfgOk := h.cfgGood }).hwFlag 7 118 := if_pos hbad
    have hwd : (s.modHwd fun h => { h with good := (upFrom 0 256).filter h.msgGood, checkLeft := 0, cfgOk := h.cfgGood }).hwd =
        { s.hwd with good := (upFrom 0 256).filter s.hwd.msgGood, checkLeft := 0, cfgOk := s.hwd.cfgGood } := rfl
    rw [heq]
    generalize (s.modHwd fun h => { h with good := (upFrom 0 256).filter h.msgGood, checkLeft := 0, cfgOk := h.cfgGood }) = u at *
    obtain ⟨hbit, hcause, hhwd, hregs2, hk2⟩ := hwFlag_leaves (s := u) (b := 7) (by decide) 118
    exact ⟨hhwd.trans (congrArg (fun h : HwdSt => { h with causes := (u.hwFlag 7 118).hwd.causes }) hwd), fun _ => ⟨hbit, hcause⟩, (regsOnly_of_regs hregs).trans hregs2, (hk.mono (by simp)).trans hk2 (by simp)⟩
  · have heq : s.hwCheck = s.modHwd fun h => { h with good := (upFrom 0 256).filter h.msgGood, checkLeft := 0, cfgOk := h.cfgGood } := if_neg hbad
    rw [heq]
    refine ⟨rfl, fun ⟨i, hi, hvalid, hgood⟩ => absurd (List.any_eq_true.2 ⟨i, hi, by simp [hvalid, hgood]⟩) hbad, regsOnly_of_regs hregs, hk.mono (by simp)⟩

theorem exec_reenable {ch : Fin 2} (hup : s.hostUp = true) (hhere : s.hwHere = true) (hlost : s.hwd.lost = false) (hy : s.powCh ch.val = y) (hst : y.st = .hizShort) (hauto : bitOf v 17 = false) :
    exec (.channelReenable ch v) s = doneCore s (((((s.wr (HWD_CH_CFG ch.val) ((v &&& 0xFFFFFFFE) &&& 0x33F01)).setCh ch.val { y with enLow := true }).wr (HWD_CH_CFG ch.val)
      ((v ||| 1) &&& 0x33F01)).setCh ch.val { y with enLow := false }).setCh ch.val { y with enLow := false, probing := true, probeTicks := 0, since := 0, single := true }) := by
  have hoff : bitOf (v &&& 0xFFFFFFFE) 0 = false := by simp [bitOf]
  have hon : bitOf (v ||| 1) 0 = true := by simp [bitOf]
  have hauto' : bitOf (v ||| 1) 17 = false := by simpa [bitOf] using hauto
  have h1 : s.hostReg32 (HWD_CH_CFG ch.val) (v &&& 0xFFFFFFFE) = (s.wr (HWD_CH_CFG ch.val) ((v &&& 0xFFFFFFFE) &&& 0x33F01)).setCh ch.val { y with enLow := true } :=
    (hostReg32_chCfg ch hup hhere hlost).trans (chCfg_off hy hst hoff)
  have hy2 : ((s.wr (HWD_CH_CFG ch.val) ((v &&& 0xFFFFFFFE) &&& 0x33F01)).setCh ch.val { y with enLow := true }).powCh ch.val = { y with enLow := true } := powCh_setCh_same ..
  have hup2 : ((s.wr (HWD_CH_CFG ch.val) ((v &&& 0xFFFFFFFE) &&& 0x33F01)).setCh ch.val { y with enLow := true }).hostUp = true := hup
  have hhere2 : ((s.wr (HWD_CH_CFG ch.val) ((v &&& 0xFFFFFFFE) &&& 0x33F01)).setCh ch.val { y with enLow := true }).hwHere = true := hhere
  have hlost2 : ((s.wr (HWD_CH_CFG ch.val) ((v &&& 0xFFFFFFFE) &&& 0x33F01)).setCh ch.val { y with enLow := true }).hwd.lost = false := hlost
  refine congrArg (doneCore s) ?_
  rw [h1]
  generalize (s.wr (HWD_CH_CFG ch.val) ((v &&& 0xFFFFFFFE) &&& 0x33F01)).setCh ch.val { y with enLow := true } = u at *
  refine (hostReg32_chCfg ch hup2 hhere2 hlost2).trans ((chCfg_on hy2 hst rfl hon hauto').trans ?_)
  unfold State.probeStart
  rw [powCh_setCh_same]
  rfl

/-! ## Supply and temperature -/

theorem fld_putFld_low {w : W32} {n : Nat} (hn : n < 65536) : fld (putFld w 15 0 n) 15 0 = n := by
  have hmask : (~~~(maskOf 15 0)).toNat = 0xFFFF0000 := by decide
  have hw : (w32 (n % 2 ^ (15 + 1 - 0) * 2 ^ 0)).toNat = n := by
    rw [w32, BitVec.toNat_ofNat]
    omega
  rw [fld, putFld, BitVec.toNat_or, BitVec.toNat_and, hmask, hw, Nat.pow_zero, Nat.div_one, Nat.or_mod_two_pow, Nat.and_mod_two_pow]
  simp
  omega
theorem fld_putFld_high {w : W32} {n : Nat} : fld (putFld w 15 0 n) 31 16 = fld w 31 16 := by
  have hmask : (~~~(maskOf 15 0)).toNat = 0xFFFF0000 := by decide
  have hw : (w32 (n % 2 ^ (15 + 1 - 0) * 2 ^ 0)).toNat / 2 ^ 16 = 0 := by
    rw [w32, BitVec.toNat_ofNat]
    omega
  rw [fld, fld, putFld, BitVec.toNat_or, BitVec.toNat_and, hmask, Nat.or_div_two_pow, Nat.and_div_two_pow, hw]
  have hand := Nat.and_two_pow_sub_one_eq_mod (w.toNat / 2 ^ 16) 16
  have hlt := w.isLt
  simp at *
  omega
theorem chCfg_apart : ∀ ch : Fin 2, HWD_CH_CFG ch.val ∉ [HWD_VBAT] ∧ HWD_CH_CFG ch.val ≠ HWD_TEMP := by decide
/-- A report of VBAT's voltage. -/
theorem measured_leaves (mv : Nat) : (s.wrF HWD_VBAT 15 0 (min 0xFFFF mv)).rdF HWD_VBAT 15 0 = min 0xFFFF mv ∧ (s.wrF HWD_VBAT 15 0 (min 0xFFFF mv)).rdF HWD_VBAT 31 16 = s.rdF HWD_VBAT 31 16 ∧
    (s.wrF HWD_VBAT 15 0 (min 0xFFFF mv)).hwd = s.hwd ∧ regsOnly [HWD_VBAT] s (s.wrF HWD_VBAT 15 0 (min 0xFFFF mv)) ∧ keeps [.regs] s (s.wrF HWD_VBAT 15 0 (min 0xFFFF mv)) := by
  refine ⟨?_, ?_, rfl, (regsOnly.refl _ s).wr (by simp), (keeps.refl _ s).wr (by simp)⟩
  · rw [State.rdF, State.wrF, rd_wr_same, fld_putFld_low (by omega)]
  · rw [State.rdF, State.wrF, rd_wr_same, fld_putFld_high]
    rfl
/-- A change of supply or temperature: Heartwood's state is changed by f, and the channels. -/
structure SupplyTo (as : List Nat) (f : HwdSt → HwdSt) (s u : State) : Prop where
  hwd : u.hwd = { f s.hwd with chs := u.hwd.chs }
  regs : regsOnly as s u
  keeps : keeps [.regs, .hwd] s u
theorem SupplyTo.start {f : HwdSt → HwdSt} (hwd : u.hwd = s.hwd) (hregs : regsOnly as s u) (hk : Machine.keeps [.regs] s u) : SupplyTo as f s (u.modHwd f) := by
  refine ⟨?_, hregs.of_regs rfl, (hk.mono (by simp)).trans (modHwd_keeps f) (by simp)⟩
  have h : (u.modHwd f).hwd = f s.hwd := congrArg f hwd
  rw [h]
theorem SupplyTo.chs {f : HwdSt → HwdSt} (h : SupplyTo as f s u) (hwd : t.hwd = { u.hwd with chs := t.hwd.chs }) (hk : Machine.keeps [.hwd] u t) : SupplyTo as f s t :=
  ⟨hwd.trans (congrArg (fun w : HwdSt => { w with chs := t.hwd.chs }) h.hwd), h.regs.of_regs (hk.part (p := .regs) (by simp)), h.keeps.trans hk (by simp)⟩
/-- A change of supply or temperature that a STAT bit reports. -/
structure SupplyNoted (as : List Nat) (f : HwdSt → HwdSt) (b e : Nat) (s t : State) : Prop where
  bit : t.bit HWD_STAT b = true
  cause : e ∈ t.hwd.causes
  hwd : t.hwd = { f s.hwd with chs := t.hwd.chs, causes := t.hwd.causes }
  regs : regsOnly (as ++ [HWD_STAT]) s t
  keeps : keeps [.regs, .hwd] s t
theorem SupplyTo.noted {f : HwdSt → HwdSt} (h : SupplyTo as f s u) (hb : b < 32) (e : Nat) : SupplyNoted as f b e s (u.hwFlag b e) ∧ (∀ j, (u.hwFlag b e).powCh j = u.powCh j) ∧
    regsOnly [HWD_STAT] u (u.hwFlag b e) := by
  obtain ⟨hbit, hcause, hhwd, hregs, hk⟩ := hwFlag_leaves (s := u) hb e
  generalize u.hwFlag b e = t at *
  have hchs : t.hwd.chs = u.hwd.chs := (congrArg HwdSt.chs hhwd :)
  refine ⟨⟨hbit, hcause, ?_, (h.regs.mono (by simp)).trans (hregs.mono (by simp)), h.keeps.trans hk (by simp)⟩, fun j => powCh_of_chs hchs j, hregs⟩
  rw [hchs]
  exact hhwd.trans (congrArg (fun w : HwdSt => { w with causes := t.hwd.causes }) h.hwd)

/-- The die's temperature with the limits that it then passes. -/
theorem exec_thermal {temp : Int} {a h : Bool} (hhere : s.hwHere = true) (ha : (if 150 < temp then true else if temp < 140 then false else s.hwd.att) = a)
    (hh : (if 165 < temp then true else if temp < 140 then false else s.hwd.hot) = h) :
    exec (.hwThermal temp) s = doneCore s (
      if a ≠ s.hwd.att ∨ h ≠ s.hwd.hot
      then (if h && !s.hwd.hot then ((s.wr HWD_TEMP (w32 (uwrap 8 (satI 8 temp)))).modHwd fun w => { w with att := a, hot := h }).chsFault
        else if !h && s.hwd.hot then ((s.wr HWD_TEMP (w32 (uwrap 8 (satI 8 temp)))).modHwd fun w => { w with att := a, hot := h }).chsReturn
        else (s.wr HWD_TEMP (w32 (uwrap 8 (satI 8 temp)))).modHwd fun w => { w with att := a, hot := h }).hwFlag 9 117
      else (if h && !s.hwd.hot then ((s.wr HWD_TEMP (w32 (uwrap 8 (satI 8 temp)))).modHwd fun w => { w with att := a, hot := h }).chsFault
        else if !h && s.hwd.hot then ((s.wr HWD_TEMP (w32 (uwrap 8 (satI 8 temp)))).modHwd fun w => { w with att := a, hot := h }).chsReturn
        else (s.wr HWD_TEMP (w32 (uwrap 8 (satI 8 temp)))).modHwd fun w => { w with att := a, hot := h })) := by
  subst ha hh
  exact congrArg (doneCore s) (onHw_here _ hhere)

/-- Settles O49: each channel's change is one record set, reported by one STAT bit where the rules say so. -/
theorem heartwoodChannelsAndStore : Obligations.HeartwoodChannelsAndStore := by
  unfold Obligations.HeartwoodChannelsAndStore
  intro s ch k y w r x temp mv pw a z v hhere hy
  refine ⟨?_, ?_, ?_, ?_, ?_, ?_, ?_, ?_, ?_, ?_, ?_, ?_, ?_, ?_, ?_, ?_, ?_, ?_, ?_, ?_, ?_, ?_, ?_⟩
  · intro hst
    have hexec : exec (.hwShort ch r x) s = doneCore s (s.chShort ch.val r x) := congrArg (doneCore s) ((onHw_here _ hhere).trans (if_pos (by rw [hy]; exact hst)))
    unfold State.chShort at hexec
    rw [hy] at hexec
    obtain ⟨hch, hothers, hhwd, hk⟩ := setCh_leaves (s := s) ch.val { y with
      st := .hizShort, shorted := some (r, x), cand := 0, cnt := 0, win := 0, since := 0, probing := false, passes := 0, single := false, enLow := false, fadeIn := false, back := false }
    exact leads_doneCore hexec ⟨hch, hothers, hhwd, hk.answered⟩
  · intro hshort t ht
    have hne : ∀ ch : Fin 2, HWD_CH_Z ch.val ≠ HWD_CH_SHORTS ch.val ∧ HWD_CH_SHORTS ch.val ≠ HWD_CH_Z ch.val ∧ HWD_CH_Z ch.val ≠ HWD_STAT ∧ HWD_CH_SHORTS ch.val ≠ HWD_STAT := by decide
    obtain ⟨hne1, hne2, hne3, hne4⟩ := hne ch
    obtain ⟨hto, hz⟩ := zReport_to (r := r) (x := x) (ChTo.start (s := s) (as := [HWD_CH_Z ch.val, HWD_CH_SHORTS ch.val]) hy) (by simp)
    have hcnt0 : (s.zReport ch.val r x).rd (HWD_CH_SHORTS ch.val) = s.rd (HWD_CH_SHORTS ch.val) := rd_wr_ne _ _ hne2
    have heq : s.shortReport ch.val = (((s.zReport ch.val r x).setCh ch.val { (s.zReport ch.val r x).powCh ch.val with line := 4, shorted := none }).count (HWD_CH_SHORTS ch.val) 1).hwFlag 5 110 := by
      unfold State.shortReport
      rw [hy, hshort]
    rw [hto.ch] at heq
    rw [List.mem_singleton.1 ht, heq]
    generalize s.zReport ch.val r x = u at *
    have hset := hto.set { y with range := zRange r x, line := 4, shorted := none }
    have hz2 : (u.setCh ch.val { y with range := zRange r x, line := 4, shorted := none }).rd (HWD_CH_Z ch.val) = zWord r x := hz
    have hcnt2 : (u.setCh ch.val { y with range := zRange r x, line := 4, shorted := none }).rd (HWD_CH_SHORTS ch.val) = s.rd (HWD_CH_SHORTS ch.val) := hcnt0
    generalize u.setCh ch.val { y with range := zRange r x, line := 4, shorted := none } = v at *
    have hset3 : ChTo [HWD_CH_Z ch.val, HWD_CH_SHORTS ch.val] ch.val { y with range := zRange r x, line := 4, shorted := none } s (v.count (HWD_CH_SHORTS ch.val) 1) := hset.wr (by simp)
    have hz3 := (rd_wr_ne v (w32 (satN 32 ((v.rd (HWD_CH_SHORTS ch.val)).toNat + 1))) hne1).trans hz2
    have hcnt3 : counted (HWD_CH_SHORTS ch.val) 1 s (v.count (HWD_CH_SHORTS ch.val) 1) := counted_count hcnt2
    change (v.count (HWD_CH_SHORTS ch.val) 1).rd (HWD_CH_Z ch.val) = _ at hz3
    generalize v.count (HWD_CH_SHORTS ch.val) 1 = w at *
    have hf := hwFlag_leaves (s := w) (b := 5) (by decide) 110
    have hn := hset3.noted hf
    have hch := hn.ch
    rw [zRange_eq] at hch
    exact ⟨hch, (hf.regs _ (by simpa using hne3)).trans hz3, hcnt3.of_rd (hf.regs _ (by simpa using hne4)), hn.bit, hn.cause, hn.others, hn.hwd, hn.regs, hn.keeps⟩
  · intro hst hwin hline hlo hhi ha hz h1 h2
    have hexec := exec_window (pw := pw) hhere hy hst hwin (lineOf_ok hlo hhi ha hz h1 h2) (by decide)
    obtain ⟨hto, hz, hp⟩ := windowed_to (s := s) (r := r) (x := x) ch hy pw
    have hne : ∀ ch : Fin 2, HWD_CH_Z ch.val ≠ HWD_CH_POWER ch.val := by decide
    generalize s.windowed ch.val r x pw = u at *
    have htake : u.lineTake ch.val 1 = u.setCh ch.val { y with win := 0, range := zRange r x, cand := 0, cnt := 0 } := by
      unfold State.lineTake
      rw [hto.ch]
      exact if_pos hline.symm
    rw [htake] at hexec
    have hset := hto.set { y with win := 0, range := zRange r x, cand := 0, cnt := 0 }
    refine leads_doneCore hexec ⟨?_, ?_, ?_, hz, hp, hset.others, hset.hwd, hset.regs, hset.keeps.answered⟩
    · exact (congrArg PowCh.st hset.ch).trans hst
    · exact (congrArg PowCh.line hset.ch).trans hline
    · exact congrArg PowCh.win hset.ch
  · intro hst hwin hline hcand hlo hhi hz h2
    have hexec := exec_window (pw := pw) hhere hy hst hwin (lineOf_high hlo hhi hz h2) (by decide)
    obtain ⟨hto, -, -⟩ := windowed_to (s := s) (r := r) (x := x) ch hy pw
    generalize s.windowed ch.val r x pw = u at *
    have htake : u.lineTake ch.val 3 = (u.setCh ch.val { y with win := 0, range := zRange r x, line := 3, cand := 0, cnt := 0 }).hwFlag 6 111 := by
      unfold State.lineTake
      rw [hto.ch]
      exact (if_neg (by simp [hline])).trans ((if_neg (by simp [hline])).trans (if_pos hcand))
    rw [htake] at hexec
    have hn := (hto.set { y with win := 0, range := zRange r x, line := 3, cand := 0, cnt := 0 }).noted (hwFlag_leaves (b := 6) (by decide) 111)
    generalize (u.setCh ch.val { y with win := 0, range := zRange r x, line := 3, cand := 0, cnt := 0 }).hwFlag 6 111 = t at *
    exact leads_doneCore hexec ⟨congrArg PowCh.line hn.ch, (congrArg PowCh.st hn.ch).trans hst, hn.bit, hn.cause, hn.regs, hn.keeps.answered⟩
  · intro hst hauto hpr hback hsince
    have hexec : exec (.shortProbe ch) s = doneCore s (s.probeStart ch.val false) :=
      congrArg (doneCore s) ((onHw_here _ hhere).trans (if_pos (by rw [hy]; exact ⟨hst, hauto, hpr, hback, hsince⟩)))
    unfold State.probeStart at hexec
    rw [hy] at hexec
    obtain ⟨hch, hothers, hhwd, hk⟩ := setCh_leaves (s := s) ch.val { y with probing := true, probeTicks := 0, since := 0, single := false || y.single }
    exact leads_doneCore hexec ⟨hch, hothers, hhwd, hk.answered⟩
  · intro hst hpr hticks hfar hpass
    have hexec := exec_probeEnd (r := r) (x := x) (limited := false) hhere hy hst hpr (.inr hticks)
    have hz := zSq_int r x
    rw [if_pos (by simp only [Bool.not_false, Bool.true_and, Bool.and_eq_true, Bool.or_eq_true, decide_eq_true_eq]; exact ⟨by omega, hpass⟩)] at hexec
    obtain ⟨hto, hrd⟩ := zReport_to (r := r) (x := x) (ChTo.start (s := s) (as := [HWD_CH_Z ch.val]) hy) (by simp)
    generalize s.zReport ch.val r x = u at *
    have hset := hto.set { y with range := zRange r x, probing := false, back := true }
    have hrd2 : (u.setCh ch.val { y with range := zRange r x, probing := false, back := true }).rd (HWD_CH_Z ch.val) = zWord r x := hrd
    generalize u.setCh ch.val { y with range := zRange r x, probing := false, back := true } = t at *
    exact leads_doneCore hexec ⟨(congrArg PowCh.st hset.ch).trans hst, congrArg PowCh.back hset.ch, congrArg PowCh.probing hset.ch, hrd2, hset.others, hset.hwd, hset.regs, hset.keeps.answered⟩
  · intro hback hen t ht
    have heq : s.shortReturn ch.val = (s.setCh ch.val (y.returned true)).hwFlag 5 110 := by
      unfold State.shortReturn
      rw [hy, if_pos hback, chReturn_eq, hy, hen]
    have hn := ((ChTo.start (s := s) (as := []) hy).set (y.returned true)).noted (hwFlag_leaves (b := 5) (by decide) 110)
    rw [List.mem_singleton.1 ht, heq]
    exact ⟨congrArg PowCh.st hn.ch, congrArg PowCh.fadeIn hn.ch, congrArg PowCh.back hn.ch, hn.bit, hn.cause, hn.others, hn.hwd, hn.regs, hn.keeps⟩
  · intro hst hpr
    have hexec := exec_probeEnd (r := r) (x := x) (limited := true) hhere hy hst hpr (.inl rfl)
    rw [if_neg (by simp), if_neg (by simp)] at hexec
    obtain ⟨hto, -⟩ := zReport_to (r := r) (x := x) (ChTo.start (s := s) (as := [HWD_CH_Z ch.val]) hy) (by simp)
    generalize s.zReport ch.val r x = u at *
    have hset := hto.set { y with range := zRange r x, probing := false, single := false, passes := 0 }
    generalize u.setCh ch.val { y with range := zRange r x, probing := false, single := false, passes := 0 } = t at *
    exact leads_doneCore hexec ⟨(congrArg PowCh.st hset.ch).trans hst, congrArg PowCh.probing hset.ch, congrArg PowCh.passes hset.ch, congrArg PowCh.single hset.ch, hset.regs, hset.keeps.answered⟩
  · intro hup hlost hst hlow hauto
    have hexec := exec_reenable hup hhere hlost hy hst hauto
    have hto := (((ChTo.start (s := s) (as := [HWD_CH_CFG ch.val]) hy).wr (v := (v &&& 0xFFFFFFFE) &&& 0x33F01) (List.mem_singleton_self _)).set { y with enLow := true }).wr (v := (v ||| 1) &&& 0x33F01)
      (List.mem_singleton_self _)
    have hrd : ((((s.wr (HWD_CH_CFG ch.val) ((v &&& 0xFFFFFFFE) &&& 0x33F01)).setCh ch.val { y with enLow := true }).wr (HWD_CH_CFG ch.val) ((v ||| 1) &&& 0x33F01))).rd (HWD_CH_CFG ch.val) = (v ||| 1) &&& 0x33F01 :=
      rd_wr_same ..
    generalize ((s.wr (HWD_CH_CFG ch.val) ((v &&& 0xFFFFFFFE) &&& 0x33F01)).setCh ch.val { y with enLow := true }).wr (HWD_CH_CFG ch.val) ((v ||| 1) &&& 0x33F01) = u at *
    have hset := (hto.set { y with enLow := false }).set { y with enLow := false, probing := true, probeTicks := 0, since := 0, single := true }
    have hrd2 : ((u.setCh ch.val { y with enLow := false }).setCh ch.val { y with enLow := false, probing := true, probeTicks := 0, since := 0, single := true }).rd (HWD_CH_CFG ch.val) = (v ||| 1) &&& 0x33F01 := hrd
    generalize (u.setCh ch.val { y with enLow := false }).setCh ch.val { y with enLow := false, probing := true, probeTicks := 0, since := 0, single := true } = t at *
    exact leads_doneCore hexec ⟨hset.ch, hrd2, hset.others, hset.regs, hset.keeps.answered⟩
  · intro hbad hvbat hsweep
    obtain ⟨hlow, hhigh, hwd0, hregs0, hk0⟩ := measured_leaves (s := s) mv
    have hexec : exec (.vbatFault mv) s = doneCore s ((((s.wrF HWD_VBAT 15 0 (min 0xFFFF mv)).modHwd fun h => { h with vbatBad := true }).chsFault).hwFlag 8 117) :=
      congrArg (doneCore s) ((onHw_here _ hhere).trans (if_pos ⟨hbad, hvbat⟩))
    generalize s.wrF HWD_VBAT 15 0 (min 0xFFFF mv) = u at *
    have hsup := SupplyTo.start (f := fun h => { h with vbatBad := true }) hwd0 hregs0 hk0
    have hsweep1 : (u.modHwd fun h => { h with vbatBad := true }).hwd.sweep = none := (congrArg HwdSt.sweep hwd0).trans hsweep
    have hlow1 : (u.modHwd fun h => { h with vbatBad := true }).rdF HWD_VBAT 15 0 = min 0xFFFF mv := hlow
    have hhigh1 : (u.modHwd fun h => { h with vbatBad := true }).rdF HWD_VBAT 31 16 = s.rdF HWD_VBAT 31 16 := hhigh
    generalize (u.modHwd fun h => { h with vbatBad := true }) = v at *
    obtain ⟨hst, hwd, hk⟩ := chsFault_leaves hsweep1
    have hsup2 := hsup.chs hwd hk
    have hrd := rd_of_regs (hk.part (p := .regs) (by simp)) HWD_VBAT
    generalize v.chsFault = w at *
    obtain ⟨hn, hch, hregs⟩ := hsup2.noted (b := 8) (by decide) 117
    have hrd2 := (hregs HWD_VBAT (by decide)).trans hrd
    generalize w.hwFlag 8 117 = t at *
    exact leads_doneCore hexec ⟨congrArg HwdSt.vbatBad hn.hwd, fun j hj => (congrArg PowCh.st (hch j)).trans (hst j hj), (congrArg (fld · 15 0) hrd2).trans hlow1, (congrArg (fld · 31 16) hrd2).trans hhigh1,
      hn.bit, hn.cause, hn.hwd, hn.regs, hn.keeps.answered⟩
  · intro hlo hhi hbad hhot hst hen
    obtain ⟨-, -, hwd0, hregs0, hk0⟩ := measured_leaves (s := s) mv
    have hen0 : (s.wrF HWD_VBAT 15 0 (min 0xFFFF mv)).bit (HWD_CH_CFG ch.val) 0 = true := (bit_of_rd (hregs0 _ (chCfg_apart ch).1)).trans hen
    have hexec : exec (.vbatReturn mv) s = doneCore s ((((s.wrF HWD_VBAT 15 0 (min 0xFFFF mv)).modHwd fun h => { h with vbatBad := false }).chsReturn).hwFlag 8 117) :=
      congrArg (doneCore s) ((onHw_here _ hhere).trans (if_pos ⟨hlo, hhi, hbad⟩))
    generalize s.wrF HWD_VBAT 15 0 (min 0xFFFF mv) = u at *
    have hsup := SupplyTo.start (f := fun h => { h with vbatBad := false }) hwd0 hregs0 hk0
    have hhot1 : (u.modHwd fun h => { h with vbatBad := false }).hwd.hot = false := (congrArg HwdSt.hot hwd0).trans hhot
    have hst1 : ((u.modHwd fun h => { h with vbatBad := false }).powCh ch.val).st = .hizFault :=
      (congrArg PowCh.st ((powCh_of_chs (congrArg HwdSt.chs hwd0) _).trans hy)).trans hst
    have hvbat1 : (u.modHwd fun h => { h with vbatBad := false }).hwd.vbatBad = false := rfl
    have hen1 : (u.modHwd fun h => { h with vbatBad := false }).bit (HWD_CH_CFG ch.val) 0 = true := hen0
    generalize (u.modHwd fun h => { h with vbatBad := false }) = v at *
    obtain ⟨hwd, hk, hback⟩ := chsReturn_leaves hvbat1 hhot1
    obtain ⟨hplay, hfade⟩ := hback ch hst1 hen1
    have hsup2 := hsup.chs hwd hk
    generalize v.chsReturn = w at *
    obtain ⟨hn, hch, -⟩ := hsup2.noted (b := 8) (by decide) 117
    generalize w.hwFlag 8 117 = t at *
    exact leads_doneCore hexec ⟨congrArg HwdSt.vbatBad hn.hwd, (congrArg PowCh.st (hch _)).trans hplay, (congrArg PowCh.fadeIn (hch _)).trans hfade, hn.bit, hn.cause, hn.hwd, hn.regs, hn.keeps.answered⟩
  · intro hwarm hcool hatt hhot
    have hexec := exec_thermal (temp := temp) (a := true) (h := false) hhere (if_pos hwarm) ((if_neg (by omega)).trans ((if_neg (by omega)).trans hhot))
    rw [hhot, hatt, if_pos (.inl (by decide)), if_neg (by decide), if_neg (by decide)] at hexec
    have hsup := SupplyTo.start (s := s) (u := s.wr HWD_TEMP (w32 (uwrap 8 (satI 8 temp)))) (f := fun w => { w with att := true, hot := false }) (as := [HWD_TEMP]) rfl ((regsOnly.refl _ s).wr (by simp)) ((keeps.refl _ s).wr (by simp))
    have hchs : ((s.wr HWD_TEMP (w32 (uwrap 8 (satI 8 temp)))).modHwd fun w => { w with att := true, hot := false }).hwd = { s.hwd with att := true, hot := false } := rfl
    generalize ((s.wr HWD_TEMP (w32 (uwrap 8 (satI 8 temp)))).modHwd fun w => { w with att := true, hot := false }) = u at *
    obtain ⟨hn, -, -⟩ := hsup.noted (b := 9) (by decide) 117
    have hhwd : (u.hwFlag 9 117).hwd = { u.hwd with causes := (u.hwFlag 9 117).hwd.causes } := rfl
    generalize u.hwFlag 9 117 = t at *
    rw [hchs, ← hhot] at hhwd
    exact leads_doneCore hexec ⟨hhwd, hn.cause, hn.bit, hn.regs, hn.keeps.answered⟩
  · intro hburn hhot hsweep
    have hexec := exec_thermal (temp := temp) (a := true) (h := true) hhere (if_pos (by omega)) (if_pos hburn)
    rw [hhot, if_pos (.inr (by decide)), if_pos (by decide)] at hexec
    have hsup := SupplyTo.start (s := s) (u := s.wr HWD_TEMP (w32 (uwrap 8 (satI 8 temp)))) (f := fun w => { w with att := true, hot := true }) (as := [HWD_TEMP]) rfl ((regsOnly.refl _ s).wr (by simp)) ((keeps.refl _ s).wr (by simp))
    have hsweep1 : ((s.wr HWD_TEMP (w32 (uwrap 8 (satI 8 temp)))).modHwd fun w => { w with att := true, hot := true }).hwd.sweep = none := hsweep
    generalize ((s.wr HWD_TEMP (w32 (uwrap 8 (satI 8 temp)))).modHwd fun w => { w with att := true, hot := true }) = u at *
    obtain ⟨hst, hwd, hk⟩ := chsFault_leaves hsweep1
    have hsup2 := hsup.chs hwd hk
    generalize u.chsFault = w at *
    obtain ⟨hn, hch, -⟩ := hsup2.noted (b := 9) (by decide) 117
    generalize w.hwFlag 9 117 = t at *
    exact leads_doneCore hexec ⟨hn.hwd, fun j hj => (congrArg PowCh.st (hch j)).trans (hst j hj), hn.cause, hn.bit, hn.regs, hn.keeps.answered⟩
  · intro hcool hhot hvbat hst hen
    have hexec := exec_thermal (temp := temp) (a := false) (h := false) hhere ((if_neg (by omega)).trans (if_pos hcool)) ((if_neg (by omega)).trans (if_pos hcool))
    rw [hhot, if_pos (.inr (by decide)), if_neg (by decide), if_pos (by decide)] at hexec
    have hsup := SupplyTo.start (s := s) (u := s.wr HWD_TEMP (w32 (uwrap 8 (satI 8 temp)))) (f := fun w => { w with att := false, hot := false }) (as := [HWD_TEMP]) rfl ((regsOnly.refl _ s).wr (by simp)) ((keeps.refl _ s).wr (by simp))
    have hvbat1 : ((s.wr HWD_TEMP (w32 (uwrap 8 (satI 8 temp)))).modHwd fun w => { w with att := false, hot := false }).hwd.vbatBad = false := hvbat
    have hhot1 : ((s.wr HWD_TEMP (w32 (uwrap 8 (satI 8 temp)))).modHwd fun w => { w with att := false, hot := false }).hwd.hot = false := rfl
    have hst1 : (((s.wr HWD_TEMP (w32 (uwrap 8 (satI 8 temp)))).modHwd fun w => { w with att := false, hot := false }).powCh ch.val).st = .hizFault := (congrArg PowCh.st hy).trans hst
    have hen1 : ((s.wr HWD_TEMP (w32 (uwrap 8 (satI 8 temp)))).modHwd fun w => { w with att := false, hot := false }).bit (HWD_CH_CFG ch.val) 0 = true :=
      (bit_of_rd (rd_wr_ne s _ (chCfg_apart ch).2)).trans hen
    generalize ((s.wr HWD_TEMP (w32 (uwrap 8 (satI 8 temp)))).modHwd fun w => { w with att := false, hot := false }) = u at *
    obtain ⟨hwd, hk, hback⟩ := chsReturn_leaves hvbat1 hhot1
    obtain ⟨hplay, hfade⟩ := hback ch hst1 hen1
    have hsup2 := hsup.chs hwd hk
    generalize u.chsReturn = w at *
    obtain ⟨hn, hch, -⟩ := hsup2.noted (b := 9) (by decide) 117
    generalize w.hwFlag 9 117 = t at *
    exact leads_doneCore hexec ⟨hn.hwd, (congrArg PowCh.st (hch _)).trans hplay, (congrArg PowCh.fadeIn (hch _)).trans hfade, hn.bit, hn.regs, hn.keeps.answered⟩
  · intro hst hkind hfree hsweep hargs hlo hhi hen hplay
    have hexec := exec_sweep hhere hst hkind hfree hsweep hargs hlo hhi
    rw [hy, if_pos ⟨hen, hplay⟩] at hexec
    have hslot := jobBegin_slot (s := s) k.val
    have hjobs := jobBegin_sameBut (s := s) k.val
    have hk0 := jobBegin_keeps (s := s) k.val
    have hhwd0 : (s.jobBegin k.val).hwd = s.hwd := rfl
    generalize s.jobBegin k.val = u at *
    have hset := setCh_leaves (s := u) ch.val { y with st := .sweep, win := 0 }
    have hset2 : ((u.setCh ch.val { y with st := .sweep, win := 0 }).modHwd fun h => { h with sweep := some { slot := k.val, ch := ch.val, points := [], ticks := 0, level := pw } }).powCh ch.val = { y with st := .sweep, win := 0 } := hset.ch
    have hothers : sameBut [ch.val] noCh s.hwd.chs ((u.setCh ch.val { y with st := .sweep, win := 0 }).modHwd fun h => { h with sweep := some { slot := k.val, ch := ch.val, points := [], ticks := 0, level := pw } }).hwd.chs :=
      hhwd0 ▸ hset.others
    have hsw : ((u.setCh ch.val { y with st := .sweep, win := 0 }).modHwd fun h => { h with sweep := some { slot := k.val, ch := ch.val, points := [], ticks := 0, level := pw } }).hwd.sweep =
      some { slot := k.val, ch := ch.val, points := [], ticks := 0, level := pw } := rfl
    have hjobs2 : ((u.setCh ch.val { y with st := .sweep, win := 0 }).modHwd fun h => { h with sweep := some { slot := k.val, ch := ch.val, points := [], ticks := 0, level := pw } }).jobs = u.jobs := rfl
    have hk : keeps [.jobs, .mem, .hwd] s ((u.setCh ch.val { y with st := .sweep, win := 0 }).modHwd fun h => { h with sweep := some { slot := k.val, ch := ch.val, points := [], ticks := 0, level := pw } }) :=
      ((hk0.mono (by simp)).trans hset.keeps (by simp)).trans (modHwd_keeps _) (by simp)
    generalize ((u.setCh ch.val { y with st := .sweep, win := 0 }).modHwd fun h => { h with sweep := some { slot := k.val, ch := ch.val, points := [], ticks := 0, level := pw } }) = t at *
    exact leads_doneCore hexec ⟨(congrArg JobSlot.st (slot_of_jobs hjobs2 _)).trans (congrArg JobSlot.st hslot), hsw, hset2, hjobs2 ▸ hjobs, hothers, hk.answered⟩
  · intro hst hkind hfree hsweep hargs hlo hhi hno
    have hexec := exec_sweep hhere hst hkind hfree hsweep hargs hlo hhi
    rw [hy, if_neg fun h => hno.elim (fun he => by simp [he] at h) fun hp => hp h.2] at hexec
    have hjobs := jobBegin_sameBut (s := s) k.val
    have hk0 := jobBegin_keeps (s := s) k.val
    have hhwd0 : ((s.jobBegin k.val).jobFin k.val 0x40).hwd = s.hwd := rfl
    generalize s.jobBegin k.val = u at *
    have hfin : ((u.jobFin k.val 0x40).slot k.val).fin = some 0x40 := congrArg JobSlot.fin (modSlot_slot (s := u) k.val fun j => { j with fin := some (BitVec.ofNat 8 0x40) })
    have hjobs2 : sameBut [k.val] idleSlot s.jobs (u.jobFin k.val 0x40).jobs := hjobs.trans (modSlot_sameBut _ _)
    have hk : keeps [.jobs, .mem] s (u.jobFin k.val 0x40) := hk0.trans (modSlot_keeps _ _) (by simp)
    generalize u.jobFin k.val 0x40 = t at *
    exact leads_doneCore hexec ⟨hfin, hhwd0, hjobs2, hk.answered⟩
  · intro hsweep hticks hlen hab
    have hexec := exec_point (r := r) (x := x) hsweep hticks hab
    rw [if_neg (by omega)] at hexec
    have hhwd : (s.pointed w r x).hwd = { s.hwd with sweep := some { w with points := w.points ++ [zWord r x], ticks := 0 } } := rfl
    have hslot : (s.pointed w r x).slot w.slot = { s.slot w.slot with total := w.points.length + 1 } :=
      modSlot_slot (s := s.modHwd fun h => { h with sweep := some (w.measured r x) }) w.slot fun j => { j with total := w.points.length + 1 }
    have hjobs : sameBut [w.slot] idleSlot s.jobs (s.pointed w r x).jobs :=
      modSlot_sameBut (s := s.modHwd fun h => { h with sweep := some (w.measured r x) }) w.slot fun j => { j with total := w.points.length + 1 }
    have hk : keeps [.jobs, .hwd] s (s.pointed w r x) := ((modHwd_keeps fun h => { h with sweep := some (w.measured r x) }).mono (by simp)).trans (modSlot_keeps _ _) (by simp)
    generalize s.pointed w r x = t at *
    exact leads_doneCore hexec ⟨hhwd, congrArg JobSlot.total hslot, hjobs, hk.answered⟩
  · intro hsweep hticks hlen hab hk hch hst
    have hexec := exec_point (r := r) (x := x) hsweep hticks hab
    rw [if_pos (by omega)] at hexec
    have hslot : (s.pointed w r x).slot w.slot = { s.slot w.slot with total := w.points.length + 1 } :=
      modSlot_slot (s := s.modHwd fun h => { h with sweep := some (w.measured r x) }) w.slot fun j => { j with total := w.points.length + 1 }
    have hkeep : keeps [.jobs, .hwd] s (s.pointed w r x) := ((modHwd_keeps fun h => { h with sweep := some (w.measured r x) }).mono (by simp)).trans (modSlot_keeps _ _) (by simp)
    have hpow : (s.pointed w r x).powCh (w.measured r x).ch = y := (congrArg s.powCh hch).trans hy
    have hclose := sweepClose_eq (s := s.pointed w r x) (w := w.measured r x) rfl ((congrArg PowCh.st hpow).trans hst)
    rw [hpow] at hclose
    generalize s.pointed w r x = u at *
    have hset := setCh_leaves (s := u) (w.measured r x).ch { y with st := .play, fadeIn := true, win := 0 }
    have hjobs2 : ((u.setCh (w.measured r x).ch { y with st := .play, fadeIn := true, win := 0 }).modHwd fun h => { h with sweep := none }).jobs = u.jobs := rfl
    have hpow2 : ((u.setCh (w.measured r x).ch { y with st := .play, fadeIn := true, win := 0 }).modHwd fun h => { h with sweep := none }).powCh (w.measured r x).ch = { y with st := .play, fadeIn := true, win := 0 } := hset.ch
    have hsw2 : ((u.setCh (w.measured r x).ch { y with st := .play, fadeIn := true, win := 0 }).modHwd fun h => { h with sweep := none }).hwd.sweep = none := rfl
    have hkeep2 : keeps [.jobs, .hwd] s ((u.setCh (w.measured r x).ch { y with st := .play, fadeIn := true, win := 0 }).modHwd fun h => { h with sweep := none }) :=
      (hkeep.trans hset.keeps (by simp)).trans (modHwd_keeps _) (by simp)
    generalize (u.setCh (w.measured r x).ch { y with st := .play, fadeIn := true, win := 0 }).modHwd (fun h => { h with sweep := none }) = v at *
    have hwords : sweepWords (w.measured r x) = w32 28 :: (w.points ++ [zWord r x]) := by
      unfold sweepWords SweepWork.measured
      rw [List.length_append, hlen]
      rfl
    have hwlen : (w32 28 :: (w.points ++ [zWord r x])).length = 29 := by simp [hlen]
    rw [hwords] at hclose
    have h0 := poolW_resultWrite_count (s := v) w.slot (ws := w32 28 :: (w.points ++ [zWord r x])) (by omega)
    have h1 := poolW_resultWrite (s := v) w.slot (ws := w32 28 :: (w.points ++ [zWord r x])) (by omega) (i := 0) (by omega)
    have h28 := (poolW_resultWrite (s := v) w.slot (ws := w32 28 :: (w.points ++ [zWord r x])) (by omega) (i := 28) (by omega)).trans (nth_last hlen)
    rw [hwlen] at h0
    have hkr := resultWrite_keeps (s := v) w.slot (w32 28 :: (w.points ++ [zWord r x]))
    rw [hclose] at hexec
    change exec _ s = doneCore s ((v.resultWrite w.slot (w32 28 :: (w.points ++ [zWord r x]))).jobFin w.slot 0) at hexec
    generalize v.resultWrite w.slot (w32 28 :: (w.points ++ [zWord r x])) = p at *
    have hslot3 : p.slot w.slot = { s.slot w.slot with total := w.points.length + 1 } := (slot_of_jobs ((hkr.part (p := .jobs) (by simp)).trans hjobs2) _).trans hslot
    have hfin := (modSlot_slot (s := p) w.slot fun j => { j with fin := some (BitVec.ofNat 8 0) }).trans (congrArg (fun j : JobSlot => { j with fin := some (BitVec.ofNat 8 0) }) hslot3)
    have hhwd3 : (p.jobFin w.slot 0).hwd = v.hwd := (hkr.part (p := .hwd) (by simp) : p.hwd = v.hwd)
    have hpool : ∀ a, (p.jobFin w.slot 0).poolW a = p.poolW a := modSlot_poolW _ _
    have hkf : keeps [.jobs, .mem, .hwd] s (p.jobFin w.slot 0) := ((hkeep2.mono (by simp)).trans hkr (by simp)).trans (modSlot_keeps _ _) (by simp)
    change (p.jobFin w.slot 0).slot w.slot = _ at hfin
    generalize p.jobFin w.slot 0 = t at *
    have hpow3 : t.powCh ch.val = { y with st := .play, fadeIn := true, win := 0 } := hch ▸ (powCh_of_chs (congrArg HwdSt.chs hhwd3) _).trans hpow2
    rw [hk] at *
    refine leads_doneCore hexec ⟨(congrArg HwdSt.sweep hhwd3).trans hsw2, congrArg JobSlot.fin hfin, (congrArg JobSlot.total hfin).trans (by rw [hlen]), congrArg PowCh.st hpow3, congrArg PowCh.fadeIn hpow3,
      (hpool _).trans h0, (hpool _).trans h1, (hpool _).trans h28, hkf.answered⟩
  · intro hup hlost
    have hexec := exec_storeRead hup hhere hlost
    have hout : (s.rsNext.answer (w32 (s.hwd.word s.rsAddr))).out = s.out ++ [.readData (w32 (s.hwd.word s.rsAddr))] := rfl
    have hrd : (s.rsNext.answer (w32 (s.hwd.word s.rsAddr))).rd HWD_RS_ADDR = w32 ((s.rsAddr + 4) % 0x1000000) := rd_wr_same ..
    have hregs : regsOnly [HWD_RS_ADDR] s (s.rsNext.answer (w32 (s.hwd.word s.rsAddr))) := (((regsOnly.refl _ s).wr (by simp) : regsOnly [HWD_RS_ADDR] s s.rsNext)).of_regs rfl
    have hk : keeps [.regs, .out] s (s.rsNext.answer (w32 (s.hwd.word s.rsAddr))) := ((keeps.refl _ s).wr (by simp) : keeps [.regs, .out] s s.rsNext).trans (emit_keeps _) (by simp)
    generalize s.rsNext.answer (w32 (s.hwd.word s.rsAddr)) = t at *
    exact leads_doneCore hexec ⟨hout, hrd, hregs, hk.answered⟩
  · intro hup hlost hclass hplay
    have hexec := exec_storeWrite (v := v) hup hhere hlost hclass
    have hlen : (leBytes 4 v.toNat).length = 4 := length_leBytes ..
    have hback := memRead_memWrite s.hwd.mram s.rsAddr (leBytes 4 v.toNat)
    rw [hlen] at hback
    have hbut := memWrite_sameBut s.hwd.mram s.rsAddr (leBytes 4 v.toNat) (as := [s.rsAddr, s.rsAddr + 1, s.rsAddr + 2, s.rsAddr + 3]) fun j h1 h2 => by
      rw [hlen] at h2
      simp
      omega
    have heq : s.rsWrite v = (s.modHwd fun h => { h with checkLeft := 4020, mram := memWrite h.mram s.rsAddr (leBytes 4 v.toNat) }).rsNext := by
      unfold State.rsWrite
      dsimp only
      rw [hwStored_idle hplay]
      rfl
    have hhwd : (s.modHwd fun h => { h with checkLeft := 4020, mram := memWrite h.mram s.rsAddr (leBytes 4 v.toNat) }).rsNext.hwd =
        { s.hwd with mram := memWrite s.hwd.mram s.rsAddr (leBytes 4 v.toNat), checkLeft := 4020 } := rfl
    have hrd : (s.modHwd fun h => { h with checkLeft := 4020, mram := memWrite h.mram s.rsAddr (leBytes 4 v.toNat) }).rsNext.rd HWD_RS_ADDR = w32 ((s.rsAddr + 4) % 0x1000000) := rd_wr_same ..
    have hregs : regsOnly [HWD_RS_ADDR] s (s.modHwd fun h => { h with checkLeft := 4020, mram := memWrite h.mram s.rsAddr (leBytes 4 v.toNat) }).rsNext :=
      ((regsOnly.refl _ s).of_regs rfl : regsOnly [HWD_RS_ADDR] s (s.modHwd fun h => { h with checkLeft := 4020, mram := memWrite h.mram s.rsAddr (leBytes 4 v.toNat) })).wr (by simp)
    have hk : keeps [.regs, .hwd] s (s.modHwd fun h => { h with checkLeft := 4020, mram := memWrite h.mram s.rsAddr (leBytes 4 v.toNat) }).rsNext := ((modHwd_keeps _).mono (by simp)).wr (by simp)
    rw [heq] at hexec
    generalize (s.modHwd fun h => { h with checkLeft := 4020, mram := memWrite h.mram s.rsAddr (leBytes 4 v.toNat) }).rsNext = t at *
    have hmram : t.hwd.mram = memWrite s.hwd.mram s.rsAddr (leBytes 4 v.toNat) := congrArg HwdSt.mram hhwd
    rw [← hmram] at hback hbut hhwd
    exact leads_doneCore hexec ⟨hback, hbut, hhwd, hrd, hregs, hk.answered⟩
  · intro hdue
    have hexec : exec .reserveCheck s = doneCore s s.hwCheck := congrArg (doneCore s) ((onHw_here _ hhere).trans (if_pos hdue))
    obtain ⟨hhwd, hbad, hregs, hk⟩ := hwCheck_leaves (s := s)
    generalize s.hwCheck = t at *
    exact leads_doneCore hexec ⟨hhwd, hbad, hregs, hk.answered⟩
  · intro hup hlost hclass hplay hv
    have hexec := exec_storeSave (v := v) hup hhere hlost hclass
    have heq : s.rsSave v = s.modHwd fun h => { h with checkLeft := 4020, mram := memWrite h.mram 0x1000 s.hwBlock, cfgOk := true } := by
      refine (if_pos hv).trans ?_
      rw [hwStored_idle hplay]
      rfl
    have hback := memRead_memWrite s.hwd.mram 0x1000 s.hwBlock
    have hbut := memWrite_sameBut s.hwd.mram 0x1000 s.hwBlock (as := upFrom 0x1000 88) fun j h1 h2 => mem_upFrom.2 ⟨h1, by rwa [length_hwBlock] at h2⟩
    rw [length_hwBlock] at hback
    have hhwd : (s.modHwd fun h => { h with checkLeft := 4020, mram := memWrite h.mram 0x1000 s.hwBlock, cfgOk := true }).hwd =
        { s.hwd with mram := memWrite s.hwd.mram 0x1000 s.hwBlock, checkLeft := 4020, cfgOk := true } := rfl
    have hk := modHwd_keeps (s := s) fun h => { h with checkLeft := 4020, mram := memWrite h.mram 0x1000 s.hwBlock, cfgOk := true }
    rw [heq] at hexec
    generalize (s.modHwd fun h => { h with checkLeft := 4020, mram := memWrite h.mram 0x1000 s.hwBlock, cfgOk := true }) = t at *
    have hmram : t.hwd.mram = memWrite s.hwd.mram 0x1000 s.hwBlock := congrArg HwdSt.mram hhwd
    rw [← hmram] at hback hbut hhwd
    exact leads_doneCore hexec ⟨hback, hbut, hhwd, hk.answered⟩
  · intro hup hlost hclass hv
    have hexec := exec_storeSave (v := v) hup hhere hlost hclass
    rw [show s.rsSave v = s from if_neg hv] at hexec
    exact hexec

end Sys2Proof.Machine
end

section
/-! SUPPORT. The bits of HWD_FB_CTL that no field names: a write leaves them (R12). -/

namespace Sys2Proof.Machine

/-- A running variant A with the presence window open, bit 1 of HWD_FB_CTL set, which no field names and no write clears. -/
def heldFbCtl : State :=
  { State.reset with fit := { State.reset.fit with variantA := true }, regs := [(HWD_FB_CTL, 2)], hwd := { State.reset.hwd with powered := true }
                     sys := { State.reset.sys with answering := true, hostLink := true }, prs := { State.reset.prs with window := true, sealLatch := false } }

/-- Refutes O47: a write of HWD_FB_CTL with FORCE at 1 leaves the register's other bits as they stand (R12), so in a state that holds one of them at 1 it does not read 1
afterwards. No write sets such a bit, but the statement is about every state. -/
theorem not_heartwoodBridgeAndFallback : ¬ Obligations.HeartwoodBridgeAndFallback := by
  unfold Obligations.HeartwoodBridgeAndFallback
  intro h
  obtain ⟨-, -, -, -, -, -, -, -, -, -, -, -, -, -, hforce, -⟩ := h heldFbCtl 0 0 0 [] { vbat := 0, vrail := 0, limits := [], iUa := [], ohms := [] } 0
    { idx := 0, chime := false, trig := 0, pos := 0, fading := false, fresh := false } (by decide +kernel)
  obtain ⟨⟨t, hexec, hone, -⟩, -⟩ := hforce (by decide +kernel) (by decide +kernel) (by decide +kernel)
  cases Host.Outcome.next.inj hexec
  exact absurd hone (by decide +kernel)

end Sys2Proof.Machine
end

section
/-! SUPPORT. The commands of a DRAM line, and what a read or write inside one line does under the write queue (R344, R345, R389). -/

namespace Sys2Proof.Machine

variable {s t u : State} {a c k n x line master qos : Nat} {rt : Bool} {bs ys zs : List (Option Byte)} {found : List DramFound} {q : List WqEntry} {e : WqEntry}

/-! ## The commands of a line -/

/-- Nothing differs but the channels' histories and row-hammer records, and what the report of a treated row changes. -/
structure LineOnly (s t : State) : Prop where
  chan : ∀ c, t.chan c = { s.chan c with hist := (t.chan c).hist, hammer := (t.chan c).hammer, neighbours := (t.chan c).neighbours, throttle := (t.chan c).throttle }
  dram : t.dram = { s.dram with ch0 := t.dram.ch0, ch1 := t.dram.ch1 }
  keeps : keeps [.regs, .out, .free, .sys, .mon, .dram] s t
theorem LineOnly.refl (s : State) : LineOnly s s := ⟨fun _ => rfl, rfl, keeps.refl _ _⟩
theorem LineOnly.trans (h : LineOnly s t) (h' : LineOnly t u) : LineOnly s u :=
  ⟨fun c => by rw [h'.chan c, h.chan c], by rw [h'.dram, h.dram], h.keeps.trans h'.keeps fun _ => id⟩
theorem LineOnly.of_dram (hdram : t.dram = s.dram) (hk : Machine.keeps [.regs, .out, .free, .sys, .mon, .dram] s t) : LineOnly s t :=
  ⟨fun c => by rw [chan_of_dram hdram], by rw [hdram], hk⟩
theorem HistOnly.lineOnly (h : HistOnly s t) : LineOnly s t := ⟨fun c => by rw [h.chan c], h.dram, h.keeps.mono (by simp)⟩
theorem LineOnly.mem (h : LineOnly s t) : t.dram.mem = s.dram.mem := by rw [h.dram]
theorem LineOnly.poison (h : LineOnly s t) : t.dram.poison = s.dram.poison := by rw [h.dram]
theorem LineOnly.frozen (h : LineOnly s t) : t.dram.frozen = s.dram.frozen := by rw [h.dram]
theorem LineOnly.wq (h : LineOnly s t) (c : Nat) : (t.chan c).wq = (s.chan c).wq := by rw [h.chan c]
theorem chan_cases (c d : Nat) : (∀ u : State, u.chan d = u.chan c) ∨ ∀ (u : State) (x : Channel), (u.setChan c x).chan d = u.chan d := by
  by_cases h : c = 0 ↔ d = 0
  · exact .inl fun u => by simp only [State.chan, h]
  · exact .inr fun _ _ => chan_setChan_other h
theorem modChan_line {f : Channel → Channel} (h : ∀ x, f x = { x with hist := (f x).hist, hammer := (f x).hammer, neighbours := (f x).neighbours, throttle := (f x).throttle }) (c : Nat) :
    LineOnly s (s.modChan c f) := by
  refine ⟨fun d => ?_, setChan_channels .., (modChan_keeps c f).mono (by simp)⟩
  rcases chan_cases c d with hsame | hother
  · rw [hsame, hsame, chan_modChan_same]
    exact h _
  · rw [State.modChan, hother]
/-- The channel of a row that is treated (R350): its row marked, its neighbours waiting for their slot, its heaviest requester throttled. -/
def Channel.treated (x : Channel) (k row m : Nat) : Channel :=
  { x with
    hammer := spMod [] x.hammer k (fun rows => rows.map (fun r => if r.row = row then { r with treated := true } else r))
    neighbours := x.neighbours ++ (if row = 0 then [] else [(k, row - 1)]) ++ (if row + 1 = 2 ^ 17 then [] else [(k, row + 1)])
    throttle := if m = 7 then x.throttle else x.throttle ++ [(m, k)] }
/-- The record, count and event of a row that is treated. -/
def State.treatNoted (s : State) (c word : Nat) : State := ((s.wr (DRC_HAMMER_LAST c) (w32 word)).count (DRC_HAMMER_COUNT c) 1).flagRaise (DRC_STAT c) 5 77
theorem hammerTreat_eq (c rank bg bank row : Nat) (masters : Sparse Nat) : s.hammerTreat c rank bg bank row masters =
    (s.modChan c fun x => x.treated (bankKey rank bg bank) row (heaviest masters)).treatNoted c (heaviest masters * 2 ^ 28 + rank * 2 ^ 26 + bg * 2 ^ 24 + bank * 2 ^ 22 + row) := rfl
theorem treatNoted_keeps (c word : Nat) : keeps [.regs, .out, .mon, .sys] s (s.treatNoted c word) := (((keeps.refl _ s).wr (by simp)).count (by simp)).flagRaise (by simp)
theorem hammerTreat_line (c rank bg bank row : Nat) (masters : Sparse Nat) : LineOnly s (s.hammerTreat c rank bg bank row masters) := by
  rw [hammerTreat_eq]
  refine (modChan_line (f := fun x => x.treated (bankKey rank bg bank) row (heaviest masters)) (fun _ => rfl) c).trans ?_
  have hk := treatNoted_keeps (s := s.modChan c fun x => x.treated (bankKey rank bg bank) row (heaviest masters)) c (heaviest masters * 2 ^ 28 + rank * 2 ^ 26 + bg * 2 ^ 24 + bank * 2 ^ 22 + row)
  exact .of_dram (hk.part (p := .dram) (by simp)) (hk.mono (by simp))
theorem hammerCheck_line (c rank bg bank row : Nat) : LineOnly s (s.hammerCheck c rank bg bank row) := by
  unfold State.hammerCheck
  split
  · split
    · exact hammerTreat_line ..
    · exact .refl s
  · exact .refl s
theorem activate_line (c rank bg bank row master : Nat) : LineOnly s (s.activate c rank bg bank row master) :=
  ((hist_only ..).lineOnly.trans (modChan_line (fun _ => rfl) c)).trans (hammerCheck_line ..)
theorem drawn_keeps : keeps [.free] s s.drawn := by simp [keeps_iff, State.drawn]
theorem lineCmd_line (a cmd master : Nat) : LineOnly s (s.lineCmd a cmd master) := by
  unfold State.lineCmd State.when
  dsimp only
  refine LineOnly.trans ?_ (hist_only ..).lineOnly
  have hdrawn : LineOnly s s.drawn := .of_dram rfl (drawn_keeps.mono (by simp))
  refine hdrawn.trans ?_
  split
  · exact activate_line ..
  · exact .refl _

/-! ## A read inside one line -/

theorem dramWordRead_clean (hclean : s.dram.poison = []) : s.dramWordRead a master rt .clean = s := by
  unfold State.dramWordRead
  split
  · rfl
  · rw [if_neg (by simp [State.poisoned, hclean])]
theorem wordReads_clean (hclean : s.dram.poison = []) (hfound : ∀ i, nth .clean found i = .clean) (ws : List Nat) (i : Nat) :
    (foldS (fun (p : State × Nat) w => (p.1.dramWordRead (w * 8) master rt (nth .clean found p.2), p.2 + 1)) (s, i) ws).1 = s := by
  induction ws generalizing i with
  | nil => rfl
  | cons w ws ih =>
    rw [foldS]
    dsimp only
    rw [hfound, dramWordRead_clean hclean]
    exact ih (i + 1)
/-- A read that no queue entry covers: the line's commands, and what DRAM holds. -/
theorem lineRead_clean (hrun : s.dram.frozen = false) (hclean : s.dram.poison = []) (hfound : ∀ i, nth .clean found i = .clean) (hentry : findEntry (s.chan (dramCh a)).wq (a / 64) = none) :
    LineOnly s (s.lineRead a n master rt found).1 ∧ (s.lineRead a n master rt found).2 = memRead s.dram.mem a n := by
  have hline := lineCmd_line (s := s) (a / 64 * 64) 1 master
  have hreads := wordReads_clean (master := master) (rt := rt) (hline.poison.trans hclean) hfound (upFrom (a / 8) ((a + n - 1) / 8 + 1 - a / 8)) 0
  unfold State.lineRead
  dsimp only
  rw [if_neg (by simp [hrun]), hentry]
  dsimp only
  rw [hreads]
  exact ⟨hline, by rw [hline.mem]⟩
/-- A read that an entry with all its strobes forwards. -/
theorem lineRead_forwarded (hrun : s.dram.frozen = false) (hentry : findEntry (s.chan (dramCh a)).wq (a / 64) = some e) (hall : e.bytes.all (·.isSome) = true) :
    s.lineRead a n master rt found = (s.count (DRC_FWD_COUNT (dramCh a)) 1, slice (entryBytes e.bytes) (a % 64) n) := by
  unfold State.lineRead
  dsimp only
  rw [if_neg (by simp [hrun]), hentry]
  exact if_pos hall

/-! ## A write inside one line -/

/-- The byte that a read finds now at an address. -/
def State.byteNow (s : State) (x : Nat) : Byte :=
  match findEntry (s.chan (dramCh x)).wq (x / 64) with
  | some e => (match nth none e.bytes (x % 64) with | some b => b | none => spGet 0 s.dram.mem x)
  | none => spGet 0 s.dram.mem x
theorem byteNow_entry (h : findEntry (s.chan (dramCh x)).wq (x / 64) = some e) : s.byteNow x = (nth none e.bytes (x % 64)).getD (spGet 0 s.dram.mem x) := by
  unfold State.byteNow
  rw [h]
  dsimp only
  cases nth none e.bytes (x % 64) <;> rfl
theorem byteNow_free (h : findEntry (s.chan (dramCh x)).wq (x / 64) = none) : s.byteNow x = spGet 0 s.dram.mem x := by
  unfold State.byteNow
  rw [h]
theorem byteNow_of_entry (hfind : findEntry (t.chan (dramCh x)).wq (x / 64) = findEntry (s.chan (dramCh x)).wq (x / 64)) (hmem : t.dram.mem = s.dram.mem) : t.byteNow x = s.byteNow x := by
  unfold State.byteNow
  rw [hfind, hmem]
theorem dramCh_line (a : Nat) : dramCh (a / 64 * 64) = dramCh a := by
  unfold dramCh
  omega
theorem nth_mergeStrobes : ∀ (ys zs : List (Option Byte)) (k : Nat), nth none (mergeStrobes ys zs) k = (nth none zs k).or (nth none ys k)
  | [], zs, k => by simp [mergeStrobes, nth]
  | _ :: _, [], k => by simp [mergeStrobes, nth]
  | y :: ys, z :: zs, 0 => by cases z <;> rfl
  | _ :: ys, _ :: zs, k + 1 => nth_mergeStrobes ys zs k
/-- What a write makes of the queue entries of its line. -/
def mergeEntry (line : Nat) (bs : List (Option Byte)) (rt : Bool) (e : WqEntry) : WqEntry :=
  if e.line = line then { e with bytes := mergeStrobes e.bytes bs, qos15 := e.qos15 || rt } else e
theorem mergeEntry_line (line : Nat) (bs : List (Option Byte)) (rt : Bool) (e : WqEntry) : (mergeEntry line bs rt e).line = e.line := by
  unfold mergeEntry
  split <;> rfl
theorem findEntry_merge (line : Nat) (bs : List (Option Byte)) (rt : Bool) (q : List WqEntry) (l : Nat) :
    findEntry (q.map (mergeEntry line bs rt)) l = (findEntry q l).map (mergeEntry line bs rt) := by
  unfold findEntry
  rw [List.filter_map, List.head?_map]
  congr 2
  exact List.filter_congr fun e _ => by simp [mergeEntry_line]
theorem findEntry_append (q : List WqEntry) (e : WqEntry) (l : Nat) : findEntry (q ++ [e]) l = (findEntry q l).or (if e.line = l then some e else none) := by
  unfold findEntry
  rw [List.filter_append, List.head?_append]
  by_cases h : e.line = l <;> simp [h]
theorem line_of_findEntry {l : Nat} (h : findEntry q l = some e) : e.line = l := by
  have := (List.mem_filter.mp (List.mem_of_head? h)).2
  simpa using this
/-- What the write of one line does to a queue that has its line or room for it. -/
structure LineWritten (line : Nat) (bs : List (Option Byte)) (s t : State) : Prop where
  byte : ∀ x, t.byteNow x = if x / 64 = line then (nth none bs (x % 64)).getD (s.byteNow x) else s.byteNow x
  mem : t.dram.mem = s.dram.mem
  keeps : keeps [.dram] s t
theorem modWq_written {f : List WqEntry → List WqEntry} (hother : ∀ q l, l ≠ line → findEntry (f q) l = findEntry q l)
    (hthis : ∀ x, x / 64 = line → (s.modChan (dramCh (line * 64)) fun y => { y with wq := f y.wq }).byteNow x = (nth none bs (x % 64)).getD (s.byteNow x)) :
    LineWritten line bs s (s.modChan (dramCh (line * 64)) fun y => { y with wq := f y.wq }) := by
  have hmem := modChan_mem (s := s) (dramCh (line * 64)) fun y => { y with wq := f y.wq }
  refine ⟨fun x => ?_, hmem, modChan_keeps ..⟩
  split
  case isTrue h => exact hthis x h
  case isFalse h =>
    refine byteNow_of_entry ?_ hmem
    rcases chan_cases (dramCh (line * 64)) (dramCh x) with hsame | hdiff
    · rw [hsame, hsame, chan_modChan_same]
      exact hother _ _ h
    · rw [State.modChan, hdiff]
theorem lineWrite_written (hrun : s.dram.frozen = false) (hany : bs.any (·.isSome) = true)
    (hroom : (findEntry (s.chan (dramCh (line * 64))).wq line).isSome = true ∨ wqFree (s.chan (dramCh (line * 64))).wq rt = true) :
    LineWritten line bs s (s.lineWrite line bs rt) := by
  have hsome : bs.all (·.isNone) = false := by
    obtain ⟨b, hb, hbs⟩ := List.any_eq_true.mp hany
    exact List.all_eq_false.mpr ⟨b, hb, by simpa [Option.isSome_iff_ne_none] using hbs⟩
  have hch : ∀ {x}, x / 64 = line → dramCh x = dramCh (line * 64) := fun {x} h => by rw [← dramCh_line x, h]
  unfold State.lineWrite
  dsimp only
  rw [if_neg (by simp [hrun, hsome])]
  cases hfind : findEntry (s.chan (dramCh (line * 64))).wq line with
  | some e =>
    refine modWq_written (f := fun q => q.map (mergeEntry line bs rt)) (fun q l hl => ?_) fun x hx => ?_
    · rw [findEntry_merge]
      cases hq : findEntry q l with
      | none => rfl
      | some e' => exact congrArg some (if_neg fun h => hl ((line_of_findEntry hq).symm.trans h))
    · have hold : findEntry (s.chan (dramCh x)).wq (x / 64) = some e := by rw [hch hx, hx]; exact hfind
      have hnew : findEntry ((s.modChan (dramCh (line * 64)) fun y => { y with wq := y.wq.map (mergeEntry line bs rt) }).chan (dramCh x)).wq (x / 64) = some (mergeEntry line bs rt e) := by
        rw [hch hx, chan_modChan_same, hx]
        exact (findEntry_merge ..).trans (congrArg _ hfind)
      rw [byteNow_entry hold, byteNow_entry hnew, modChan_mem, mergeEntry, if_pos (line_of_findEntry hfind)]
      dsimp only
      rw [nth_mergeStrobes]
      cases nth none bs (x % 64) <;> rfl
  | none =>
    have hfree : wqFree (s.chan (dramCh (line * 64))).wq rt = true := hroom.resolve_left (by simp [hfind])
    dsimp only
    rw [if_pos hfree, if_neg (by simp [hrun])]
    refine modWq_written (f := fun q => q ++ [{ line := line, bytes := bs, qos15 := rt }]) (fun q l hl => ?_) fun x hx => ?_
    · rw [findEntry_append, if_neg (Ne.symm hl), Option.or_none]
    · have hold : findEntry (s.chan (dramCh x)).wq (x / 64) = none := by rw [hch hx, hx]; exact hfind
      have hnew : findEntry ((s.modChan (dramCh (line * 64)) fun y => { y with wq := y.wq ++ [{ line := line, bytes := bs, qos15 := rt }] }).chan (dramCh x)).wq (x / 64) =
          some { line := line, bytes := bs, qos15 := rt } := by
        rw [hch hx, chan_modChan_same, hx]
        dsimp only
        rw [findEntry_append, hfind, if_pos rfl, Option.none_or]
      rw [byteNow_free hold, byteNow_entry hnew, modChan_mem]

/-! ## A burst that stays inside one line -/

theorem piecesOf_one {g f : Nat} (hn : 0 < n) (h : a % g + n ≤ g) : piecesOf g (f + 1) a n = [(a, n)] := by
  obtain ⟨m, rfl⟩ : ∃ m, n = m + 1 := ⟨n - 1, by omega⟩
  rw [piecesOf, Nat.min_eq_left (by omega), Nat.sub_self]
  cases f <;> rfl
/-- The books of the Trunk on a piece that is granted at once. -/
def State.booked (s : State) (r : TrkReq) : State :=
  { s with trk := { s.trk with
    lastGrant := spPut s.trk.lastGrant (r.target * 16 + s.effQos r) r.master
    waitMax := if spGet 0 s.trk.waitMax r.master < satN 20 r.waited then spPut s.trk.waitMax r.master (satN 20 r.waited) else s.trk.waitMax
    waitTgt := if spGet 0 s.trk.waitMax r.master < satN 20 r.waited then spPut s.trk.waitTgt r.master r.target else s.trk.waitTgt } }
theorem booked_keeps (r : TrkReq) : keeps [.trk] s (s.booked r) := by simp [keeps_iff, State.booked]
theorem booked_dram (r : TrkReq) : (s.booked r).dram = s.dram := rfl
theorem piece_granted (hlock : s.trk.lock = none) (r : TrkReq) : s.piece r found = s.grant r found := by
  unfold State.piece
  rw [if_neg (by simp [State.mustWait, hlock])]
/-- The piece of a transaction inside one line. -/
def linePiece (s : State) (master qos a : Nat) (isWrite : Bool) (bs : List (Option Byte)) : TrkReq :=
  { master := master, target := dramCh a, qos := s.qosOf master qos, waited := 0, addr := a, isWrite := isWrite, bytes := bs }
theorem burst_line {isWrite : Bool} (hn : bs ≠ []) (hline : a % 64 + bs.length ≤ 64) (hsize : a + bs.length ≤ s.dramSize) (hlock : s.trk.lock = none) :
    s.burst master qos a isWrite bs found = s.grant (linePiece s master qos a isWrite bs) found := by
  have hpos := List.length_pos_of_ne_nil hn
  unfold State.burst
  dsimp only
  rw [if_neg (by omega), piecesOf_one hpos (by omega)]
  have hwhen : s.when (decide (1 < [(a, bs.length)].length)) (fun t => t.count TRK_SPLIT_COUNT 1) = s := rfl
  rw [hwhen, foldS, foldS, List.take_length]
  dsimp only
  rw [piece_granted hlock]
  rfl
/-- The strobes of a write inside one line, spread over the line. -/
def lineStrobes (a : Nat) (bs : List (Option Byte)) : List (Option Byte) :=
  (List.replicate (a % 64) none ++ bs) ++ List.replicate (64 - (List.replicate (a % 64) none ++ bs).length) none
theorem burst_write (hn : bs ≠ []) (hline : a % 64 + bs.length ≤ 64) (hsize : a + bs.length ≤ s.dramSize) (hlock : s.trk.lock = none) :
    (s.burst master qos a true bs found).1 = (s.booked (linePiece s master qos a true bs)).lineWrite (a / 64) (lineStrobes a bs) (s.qosOf master qos == 15) := by
  rw [burst_line hn hline hsize hlock]
  show (s.booked (linePiece s master qos a true bs)).rangeWrite a bs (s.qosOf master qos == 15) = _
  unfold State.rangeWrite linesOf
  rw [piecesOf_one (List.length_pos_of_ne_nil hn) hline, foldS, foldS]
  dsimp only
  rw [List.take_length]
  rfl
theorem burst_read (hn : 0 < n) (hline : a % 64 + n ≤ 64) (hsize : a + n ≤ s.dramSize) (hlock : s.trk.lock = none) :
    s.burst master qos a false (List.replicate n none) found =
      (s.booked (linePiece s master qos a false (List.replicate n none))).lineRead a n master (s.qosOf master qos == 15) found := by
  rw [burst_line (by simp; omega) (by simpa using hline) (by simpa using hsize) hlock]
  show (s.booked (linePiece s master qos a false (List.replicate n none))).rangeRead a (List.replicate n none).length master (s.qosOf master qos == 15) found = _
  unfold State.rangeRead linesOf
  rw [List.length_replicate, piecesOf_one hn hline, foldS, foldS]
  dsimp only
  rfl
theorem nth_append {α : Type} (d : α) : ∀ (xs ys : List α) (k : Nat), nth d (xs ++ ys) k = if k < xs.length then nth d xs k else nth d ys (k - xs.length)
  | [], ys, k => by simp
  | x :: xs, ys, 0 => by simp [nth]
  | x :: xs, ys, k + 1 => by
    rw [List.cons_append, nth, nth_append d xs ys k]
    simp [nth]
theorem nth_replicate {α : Type} (d : α) : ∀ (m k : Nat), nth d (List.replicate m d) k = d
  | 0, k => by cases k <;> rfl
  | m + 1, 0 => rfl
  | m + 1, k + 1 => nth_replicate d m k
theorem nth_lineStrobes (hx : x / 64 = a / 64) :
    nth none (lineStrobes a bs) (x % 64) = if a ≤ x ∧ x < a + bs.length then nth none bs (x - a) else none := by
  unfold lineStrobes
  rw [nth_append, nth_replicate, nth_append, nth_replicate, List.length_append, List.length_replicate]
  by_cases hlow : x % 64 < a % 64
  · rw [if_pos (by omega), if_pos hlow, if_neg (by omega)]
  · by_cases hhigh : x % 64 < a % 64 + bs.length
    · rw [if_pos hhigh, if_neg hlow, if_pos (by omega)]
      exact congrArg _ (by omega)
    · rw [if_neg hhigh, if_neg (by omega)]
/-- A write inside one line: each byte reads as written, every other as before. -/
structure BytesWritten (a : Nat) (bs : List (Option Byte)) (s t : State) : Prop where
  byte : ∀ x, t.byteNow x = if a ≤ x ∧ x < a + bs.length then (nth none bs (x - a)).getD (s.byteNow x) else s.byteNow x
  mem : t.dram.mem = s.dram.mem
  keeps : keeps [.dram, .trk] s t
theorem burst_written (hrun : s.dram.frozen = false) (hany : bs.any (·.isSome) = true) (hline : a % 64 + bs.length ≤ 64) (hsize : a + bs.length ≤ s.dramSize) (hlock : s.trk.lock = none)
    (hroom : (findEntry (s.chan (dramCh a)).wq (a / 64)).isSome = true ∨ wqFree (s.chan (dramCh a)).wq (s.qosOf master qos == 15) = true) :
    BytesWritten a bs s (s.burst master qos a true bs found).1 := by
  have hn : bs ≠ [] := fun h => by rw [h] at hany; exact absurd hany (by decide)
  rw [burst_write hn hline hsize hlock]
  have hk := booked_keeps (s := s) (linePiece s master qos a true bs)
  have hdram := booked_dram (s := s) (linePiece s master qos a true bs)
  generalize s.booked (linePiece s master qos a true bs) = g at *
  have hnow : ∀ x, g.byteNow x = s.byteNow x := fun x => byteNow_of_entry (by rw [chan_of_dram hdram]) (by rw [hdram])
  have hw := lineWrite_written (s := g) (line := a / 64) (bs := lineStrobes a bs) (rt := s.qosOf master qos == 15) (by rw [hdram]; exact hrun)
    (by simp [lineStrobes, List.any_append, hany]) (by rw [dramCh_line, chan_of_dram hdram]; exact hroom)
  refine ⟨fun x => ?_, by rw [hw.mem, hdram], (hk.mono (by simp)).trans (hw.keeps.mono (by simp)) fun _ => id⟩
  rw [hw.byte, hnow]
  by_cases hx : x / 64 = a / 64
  · rw [if_pos hx, nth_lineStrobes hx]
    split <;> rfl
  · rw [if_neg hx, if_neg (by omega)]

end Sys2Proof.Machine
end

section
/-! PROOF. DRAM reads and writes (R344, R345, R389), the patrol and the host's aperture (R347, R357). -/

namespace Sys2Proof.Machine

variable {s t u : State} {a addr c k n x i m : Nat} {bs : List (Option Byte)} {e : WqEntry} {es : List WqEntry}

/-! ## An entry that issues -/

theorem spGet_storeBytes (m : Sparse Byte) (a : Nat) (bs : List (Option Byte)) (x : Nat) :
    spGet 0 (storeBytes m a bs) x = if a ≤ x ∧ x < a + bs.length then (nth none bs (x - a)).getD (spGet 0 m x) else spGet 0 m x := by
  induction bs generalizing m a with
  | nil => rw [if_neg (by simp)]; rfl
  | cons b bs ih =>
    have hrest : ∀ m' : Sparse Byte, (x ≠ a → spGet 0 m' x = spGet 0 m x) → spGet 0 m' a = b.getD (spGet 0 m a) →
        spGet 0 (storeBytes m' (a + 1) bs) x = if a ≤ x ∧ x < a + (b :: bs).length then (nth none (b :: bs) (x - a)).getD (spGet 0 m x) else spGet 0 m x := fun m' hne hself => by
      rw [ih, List.length_cons]
      by_cases hx : x = a
      · rw [if_neg (by omega), if_pos (by omega), hx, Nat.sub_self]
        exact hself
      · rw [hne hx]
        by_cases hin : a ≤ x ∧ x < a + (bs.length + 1)
        · obtain ⟨j, rfl⟩ : ∃ j, x = a + 1 + j := ⟨x - (a + 1), by omega⟩
          rw [if_pos (by omega), if_pos hin, Nat.add_sub_cancel_left, show a + 1 + j - a = j + 1 by omega]
          rfl
        · rw [if_neg (by omega), if_neg hin]
    cases b with
    | none => exact hrest m (fun _ => rfl) rfl
    | some b => exact hrest (spSet 0 m a b) (fun hx => spGet_spSet_ne 0 0 m b hx) (spGet_spSet_same ..)
theorem nth_wqWord {w : Nat} (h : k < 8) : nth none (wqWord bs w) k = nth none bs (8 * w + k) := by
  rw [wqWord, nth_eq_getD, nth_eq_getD, List.getD_eq_getElem?_getD, List.getD_eq_getElem?_getD, List.getElem?_take_of_lt h, List.getElem?_drop]
theorem length_wqWord {w : Nat} (hlen : bs.length = 64) (hw : w < 8) : (wqWord bs w).length = 8 := by
  rw [wqWord, List.length_take, List.length_drop]
  omega
theorem wqWord_full {w : Nat} (hall : bs.all (·.isSome) = true) : (wqWord bs w).all (·.isSome) = true :=
  List.all_eq_true.mpr fun b hb => List.all_eq_true.mp hall b (List.mem_of_mem_drop (List.mem_of_mem_take hb))
theorem wqWord_any {w : Nat} (hall : bs.all (·.isSome) = true) : (wqWord bs w).any (·.isNone) = false :=
  List.any_eq_false.mpr fun b hb => by simpa [Option.isSome_iff_ne_none] using List.all_eq_true.mp (wqWord_full hall) b hb
theorem wqWord_not_none {w : Nat} (hlen : bs.length = 64) (hall : bs.all (·.isSome) = true) (hw : w < 8) : (wqWord bs w).all (·.isNone) = false := by
  cases h : wqWord bs w with
  | nil => exact absurd (h ▸ length_wqWord hlen hw) (by decide)
  | cons b ws =>
    have hb := List.all_eq_true.mp (wqWord_full (w := w) hall) b (by simp [h])
    exact List.all_eq_false.mpr ⟨b, by simp, by simpa [Option.isSome_iff_ne_none] using hb⟩
/-- The words from lo up to hi of a whole line are stored, and their poison is gone. -/
structure WordsStored (a : Nat) (bs : List (Option Byte)) (lo hi : Nat) (s t : State) : Prop where
  mem : ∀ x, spGet 0 t.dram.mem x = if a + 8 * lo ≤ x ∧ x < a + 8 * hi then (nth none bs (x - a)).getD 0 else spGet 0 s.dram.mem x
  clean : ∀ w, a / 8 + lo ≤ w → w < a / 8 + hi → spGet false t.dram.poison w = false
  kept : ∀ w, spGet false s.dram.poison w = false → spGet false t.dram.poison w = false
  chan : ∀ c, t.chan c = s.chan c
  keeps : keeps [.dram] s t
theorem WordsStored.trans {lo mid hi : Nat} (h : WordsStored a bs lo mid s t) (h' : WordsStored a bs mid hi t u) (hlo : lo ≤ mid) (hhi : mid ≤ hi) : WordsStored a bs lo hi s u := by
  refine ⟨fun x => ?_, fun w hwlo hwhi => ?_, fun w hw => h'.kept w (h.kept w hw), fun c => (h'.chan c).trans (h.chan c), h.keeps.trans h'.keeps fun _ => id⟩
  · rw [h'.mem, h.mem]
    by_cases hin : a + 8 * mid ≤ x ∧ x < a + 8 * hi
    · rw [if_pos hin, if_pos (by omega)]
    · rw [if_neg hin]
      by_cases hin' : a + 8 * lo ≤ x ∧ x < a + 8 * mid
      · rw [if_pos hin', if_pos (by omega)]
      · rw [if_neg hin', if_neg (by omega)]
  · by_cases hw : w < a / 8 + mid
    · exact h'.kept w (h.clean w hwlo hw)
    · exact h'.clean w (by omega) hwhi
theorem issueWord_stored {w : Nat} (ha : a % 64 = 0) (hlen : bs.length = 64) (hall : bs.all (·.isSome) = true) (hw : w < 8) (master : Nat) (found : List DramFound) :
    WordsStored a bs w (w + 1) s (s.issueWord a master bs found w) := by
  have heq : s.issueWord a master bs found w =
      { s with dram := { s.dram with mem := storeBytes s.dram.mem (a + 8 * w) (wqWord bs w), poison := spSet false s.dram.poison ((a + 8 * w) / 8) false } } := by
    unfold State.issueWord
    dsimp only
    rw [if_neg (by rw [wqWord_not_none hlen hall hw]; decide), if_pos (wqWord_full hall)]
  rw [heq]
  have hpoison : ∀ j, spGet false (spSet false s.dram.poison ((a + 8 * w) / 8) false) j = if j = (a + 8 * w) / 8 then false else spGet false s.dram.poison j := fun j => by
    split
    case isTrue h => rw [h, spGet_spSet_same]
    case isFalse h => exact spGet_spSet_ne _ _ _ _ h
  refine ⟨fun x => ?_, fun j hlo hhi => ?_, fun j hj => ?_, fun c => rfl, by simp [keeps_iff]⟩
  · refine (spGet_storeBytes ..).trans ?_
    rw [length_wqWord hlen hw]
    by_cases hin : a + 8 * w ≤ x ∧ x < a + 8 * w + 8
    · have hsome : (nth none (wqWord bs w) (x - (a + 8 * w))).isSome = true := by
        have hlt : x - (a + 8 * w) < (wqWord bs w).length := by rw [length_wqWord hlen hw]; omega
        rw [nth_eq_getD, List.getD_eq_getElem _ _ hlt]
        exact List.all_eq_true.mp (wqWord_full hall) _ (List.getElem_mem hlt)
      rw [if_pos hin, if_pos (by omega), ← show 8 * w + (x - (a + 8 * w)) = x - a by omega, ← nth_wqWord (by omega)]
      obtain ⟨b, hb⟩ := Option.isSome_iff_exists.mp hsome
      rw [hb]
      rfl
    · rw [if_neg hin, if_neg (by omega)]
  · exact (hpoison j).trans (if_pos (by omega))
  · refine (hpoison j).trans ?_
    split
    · rfl
    · exact hj
theorem issueWords_stored (ha : a % 64 = 0) (hlen : bs.length = 64) (hall : bs.all (·.isSome) = true) (master : Nat) (found : List DramFound) (n : Nat) :
    ∀ {i : Nat} {s : State}, i + n ≤ 8 → WordsStored a bs i (i + n) s (foldS (fun t w => t.issueWord a master bs found w) s (upFrom i n)) := by
  induction n with
  | zero => exact fun {i s} _ => ⟨fun x => by rw [if_neg (by omega)]; rfl, fun w h1 h2 => by omega, fun w h => h, fun c => rfl, keeps.refl _ s⟩
  | succ n ih =>
    intro i s hi
    have hrest := ih (i := i + 1) (s := s.issueWord a master bs found i) (by omega)
    rw [show i + 1 + n = i + (n + 1) by omega] at hrest
    exact (issueWord_stored ha hlen hall (by omega) master found).trans hrest (by omega) (by omega)
/-- The issue of an entry with all its strobes: the commands of its line, and its words. -/
theorem issueEntry_full (hlen : e.bytes.length = 64) (hall : e.bytes.all (·.isSome) = true) (found : List DramFound) :
    ∃ t, LineOnly s t ∧ WordsStored (e.line * 64) e.bytes 0 8 t (s.issueEntry e found) := by
  refine ⟨s.lineCmd (e.line * 64) 2 14, lineCmd_line .., ?_⟩
  have hpart : (upFrom 0 8).any (fun w => (wqWord e.bytes w).any (·.isNone) && (wqWord e.bytes w).any (·.isSome)) = false :=
    List.any_eq_false.mpr fun w _ => by rw [wqWord_any hall]; simp
  unfold State.issueEntry
  dsimp only
  rw [if_neg (by rw [hpart]; decide)]
  exact issueWords_stored (Nat.mul_mod_left ..) hlen hall 14 found 8 (by omega)

/-! ## Reads and writes of a master -/

theorem dramPeek_one (x : Nat) : s.dramPeek x 1 = [s.byteNow x] := rfl
theorem exec_dramRead {master : Fin 12} {qos : Fin 16} {found : List DramFound} {r : State × List Byte} (hr : s.burst master.val qos.val a false (List.replicate n none) found = r) :
    exec (.dramRead a n master qos found) s = doneCore s (r.1.emit (.dram master.val r.2)) := by rw [← hr]; rfl
theorem nth_nil_clean (i : Nat) : nth DramFound.clean [] i = .clean := rfl
theorem nth_one_clean (i : Nat) : nth DramFound.clean [DramFound.clean] i = .clean := by cases i <;> rfl

theorem leads_dramRead_clean {master : Fin 12} {qos : Fin 16} (hrun : s.dram.frozen = false) (hn : 0 < n) (hline : addr % 64 + n ≤ 64) (hsize : addr + n ≤ s.dramSize) (hlock : s.trk.lock = none)
    (hentry : findEntry (s.chan (dramCh addr)).wq (addr / 64) = none) (hclean : s.dram.poison = []) :
    leads (.dramRead addr n master qos []) s (fun t => .dram master.val (memRead s.dram.mem addr n) ∈ t.out ∧ t.dram.mem = s.dram.mem ∧ t.dram.poison = [] ∧
      (∀ c : Fin 2, (t.chan c.val).wq = (s.chan c.val).wq) ∧ keeps [.regs, .out, .free, .sys, .mon, .dram, .trk] s t) := by
  have hexec := exec_dramRead (burst_read (found := []) (master := master.val) (qos := qos.val) hn hline hsize hlock)
  have hk := booked_keeps (s := s) (linePiece s master.val qos.val addr false (List.replicate n none))
  have hdram := booked_dram (s := s) (linePiece s master.val qos.val addr false (List.replicate n none))
  generalize s.booked (linePiece s master.val qos.val addr false (List.replicate n none)) = g at *
  obtain ⟨hread, hbytes⟩ := lineRead_clean (s := g) (a := addr) (n := n) (master := master.val) (rt := s.qosOf master.val qos.val == 15) (found := []) (by rw [hdram]; exact hrun)
    (by rw [hdram]; exact hclean) nth_nil_clean (by rw [chan_of_dram hdram]; exact hentry)
  generalize g.lineRead addr n master.val (s.qosOf master.val qos.val == 15) [] = r at *
  rw [hbytes, hdram] at hexec
  have hkeeps : keeps [.regs, .out, .free, .sys, .mon, .dram, .trk] s (r.1.emit (.dram master.val (memRead s.dram.mem addr n))) :=
    ((hk.mono (by simp)).trans hread.keeps (by simp)).trans (emit_keeps _) (by simp)
  refine leads_doneCore hexec ⟨List.mem_append_right _ List.mem_cons_self, hread.mem.trans (by rw [hdram]), (hread.poison.trans (by rw [hdram])).trans hclean, fun c => ?_, hkeeps.answered⟩
  exact (hread.wq c.val).trans (by rw [chan_of_dram hdram])
theorem leads_dramRead_forwarded {master : Fin 12} {qos : Fin 16} (hrun : s.dram.frozen = false) (hn : 0 < n) (hline : addr % 64 + n ≤ 64) (hsize : addr + n ≤ s.dramSize) (hlock : s.trk.lock = none)
    (hentry : findEntry (s.chan (dramCh addr)).wq (addr / 64) = some e) (hall : e.bytes.all (·.isSome) = true) :
    leads (.dramRead addr n master qos []) s (fun t => t.out = s.out ++ [.dram master.val (slice (entryBytes e.bytes) (addr % 64) n)] ∧ t.dram = s.dram ∧
      counted (DRC_FWD_COUNT (dramCh addr)) 1 s t ∧ regsOnly [DRC_FWD_COUNT (dramCh addr)] s t ∧ keeps [.regs, .out, .trk] s t) := by
  have hexec := exec_dramRead (burst_read (found := []) (master := master.val) (qos := qos.val) hn hline hsize hlock)
  have hk := booked_keeps (s := s) (linePiece s master.val qos.val addr false (List.replicate n none))
  have hdram := booked_dram (s := s) (linePiece s master.val qos.val addr false (List.replicate n none))
  generalize s.booked (linePiece s master.val qos.val addr false (List.replicate n none)) = g at *
  rw [lineRead_forwarded (s := g) (by rw [hdram]; exact hrun) (by rw [chan_of_dram hdram]; exact hentry) hall] at hexec
  have hregs : g.regs = s.regs := hk.part (p := .regs) (by simp)
  have hout : g.out = s.out := hk.part (p := .out) (by simp)
  have hkeeps : keeps [.regs, .out, .trk] s ((g.count (DRC_FWD_COUNT (dramCh addr)) 1).emit (.dram master.val (slice (entryBytes e.bytes) (addr % 64) n))) :=
    ((hk.mono (by simp)).count (by simp)).trans (emit_keeps _) (by simp)
  exact leads_doneCore hexec ⟨congrArg (· ++ _) hout, hdram, counted_count (rd_of_regs hregs _), (regsOnly_of_regs hregs).count (by simp), hkeeps.answered⟩
/-- What a write of strobed bytes shows at an address. -/
theorem dramPeek_written (h : BytesWritten a bs s t) (x : Nat) :
    t.dramPeek x 1 = (if a ≤ x ∧ x < a + bs.length then (match nth none bs (x - a) with | some b => [b] | none => s.dramPeek x 1) else s.dramPeek x 1) := by
  rw [dramPeek_one, h.byte, dramPeek_one]
  split
  · cases nth none bs (x - a) <;> rfl
  · rfl
theorem leads_written {i : Instr} (hexec : exec i s = doneCore s t) (h : BytesWritten a bs s t) (x : Nat) : leads i s (fun t =>
    t.dramPeek x 1 = (if a ≤ x ∧ x < a + bs.length then (match nth none bs (x - a) with | some b => [b] | none => s.dramPeek x 1) else s.dramPeek x 1) ∧
    t.dram.mem = s.dram.mem ∧ keeps [.dram, .trk] s t) :=
  leads_doneCore hexec ⟨(dramPeek_of_dram rfl x 1).trans (dramPeek_written h x), h.mem, h.keeps.answered⟩
theorem exec_dramWrite (master : Fin 12) (qos : Fin 16) : exec (.dramWrite addr bs master qos) s = doneCore s (s.burst master.val qos.val addr true bs []).1 := rfl
theorem leads_writeQueueIssue (hrun : s.dram.frozen = false) (hwq : (s.chan (dramCh (e.line * 64))).wq = e :: es) (hlen : e.bytes.length = 64) (hall : e.bytes.all (·.isSome) = true) (x : Nat) :
    leads (.writeQueueIssue (if e.line / 4 % 2 = 0 then 0 else 1) []) s (fun t =>
      (t.chan (dramCh (e.line * 64))).wq = es ∧ spGet 0 t.dram.mem x = (if x / 64 = e.line then (nth none e.bytes (x % 64)).getD 0 else spGet 0 s.dram.mem x) ∧
      (x / 8 / 8 = e.line → spGet false t.dram.poison (x / 8) = false) ∧ keeps [.regs, .out, .free, .sys, .mon, .dram] s t) := by
  have hch : ((if e.line / 4 % 2 = 0 then 0 else 1 : Fin 2)).val = dramCh (e.line * 64) := by
    unfold dramCh
    split
    · show 0 = _
      omega
    · show 1 = _
      omega
  generalize (if e.line / 4 % 2 = 0 then 0 else 1 : Fin 2) = ch at *
  rw [← hch] at hwq ⊢
  have hexec : exec (.writeQueueIssue ch []) s = doneCore s ((s.modChan ch.val fun y => { y with wq := es }).issueEntry e []) := by
    refine congrArg (doneCore s) ?_
    unfold State.issueOldest
    rw [if_neg (by simp [hrun]), hwq]
  have hchan := chan_modChan_same s ch.val fun y => { y with wq := es }
  have hk := modChan_keeps (s := s) ch.val fun y => { y with wq := es }
  have hmem := modChan_mem (s := s) ch.val fun y => { y with wq := es }
  generalize s.modChan ch.val (fun y => { y with wq := es }) = g at *
  obtain ⟨t, hline, hstored⟩ := issueEntry_full (s := g) hlen hall []
  generalize g.issueEntry e [] = u at *
  have hkeeps : keeps [.regs, .out, .free, .sys, .mon, .dram] s u := ((hk.mono (by simp)).trans hline.keeps fun _ => id).trans hstored.keeps (by simp)
  have hbyte : spGet 0 u.dram.mem x = if x / 64 = e.line then (nth none e.bytes (x % 64)).getD 0 else spGet 0 s.dram.mem x := by
    rw [hstored.mem, hline.mem, hmem]
    by_cases hx : x / 64 = e.line
    · rw [if_pos (by omega), if_pos hx, show x - e.line * 64 = x % 64 by omega]
    · rw [if_neg (by omega), if_neg hx]
  refine leads_doneCore hexec ⟨?_, hbyte, fun hx => hstored.clean _ (by omega) (by omega), hkeeps.answered⟩
  show (u.chan ch.val).wq = es
  rw [hstored.chan, hline.wq, hchan]

/-- Settles O39: a burst inside one line is one access of the write queue or of DRAM, and an issue stores its words. -/
theorem dramReadsAndWrites : Obligations.DramReadsAndWrites := by
  intro s addr n x bytes master qos e es hrun
  refine ⟨leads_dramRead_clean hrun, leads_dramRead_forwarded hrun, fun _ hany hline hsize hlock hroom => ?_, fun hwq hlen hall => leads_writeQueueIssue hrun hwq hlen hall x⟩
  exact leads_written (exec_dramWrite master qos) (burst_written hrun hany hline hsize hlock hroom) x

/-! ## The patrol and the aperture -/

theorem lineReads_clean (hclean : s.dram.poison = []) (a : Nat) (fs : List DramFound) (hfs : ∀ f ∈ fs, f = .clean) (i : Nat) :
    (foldS (fun (p : State × Nat) f => (p.1.dramWordRead (a + 8 * p.2) 13 false f, p.2 + 1)) (s, i) fs).1 = s := by
  induction fs generalizing i with
  | nil => rfl
  | cons f fs ih =>
    rw [foldS]
    dsimp only
    rw [hfs f List.mem_cons_self, dramWordRead_clean hclean]
    exact ih (fun f hf => hfs f (List.mem_cons_of_mem _ hf)) (i + 1)
/-- The patrol's place moved on by one line. -/
def State.patrolled (s : State) (c : Nat) : State := s.modChan c fun x => { x with scrubPos := (s.chan c).scrubPos + 1 }
theorem patrolled_chan (c : Nat) : ((s.patrolled c).chan c).scrubPos = (s.chan c).scrubPos + 1 := congrArg Channel.scrubPos (chan_modChan_same ..)
theorem patrolled_dram (c : Nat) : (s.patrolled c).dram = { s.dram with ch0 := (s.patrolled c).dram.ch0, ch1 := (s.patrolled c).dram.ch1 } := setChan_channels ..
theorem patrolled_keeps (c : Nat) : keeps [.dram] s (s.patrolled c) := modChan_keeps ..
/-- A patrol of one line that finds nothing: the next line, and the commands of a line that has DRAM addresses. -/
theorem patrolLine_clean (hclean : s.dram.poison = []) (hnext : (s.chan c).scrubPos + 1 < (patrolRanks (s.chan c)).length * rankLines) :
    LineOnly (s.patrolled c) (s.patrolLine c []) := by
  have hpoison : (s.patrolled c).dram.poison = [] := by rw [patrolled_dram]; exact hclean
  have heq : (s.modChan c fun x => { x with scrubPos := if (patrolRanks (s.chan c)).length * rankLines ≤ (s.chan c).scrubPos + 1 then 0 else (s.chan c).scrubPos + 1 }) = s.patrolled c := by
    rw [if_neg (by omega)]
    rfl
  unfold State.patrolLine
  dsimp only
  rw [if_neg (by omega), heq]
  generalize s.patrolled c = t at *
  split
  · rename_i l ls _
    have hline := lineCmd_line (s := t) (dramOf c (l * 2 ^ 34 + (s.chan c).scrubPos % rankLines * 64)) 1 13
    rw [lineReads_clean (hline.poison.trans hpoison) _ _ (by decide)]
    exact hline
  · exact .refl t
theorem exec_patrol {ch : Fin 2} (hon : (s.chan ch.val).scrubOn = true) (hrun : s.dram.frozen = false) : exec (.patrolScrubRead ch [[]]) s = doneCore s (s.patrolLine ch.val []) := by
  show execPatrolScrubRead ch [[]] s = _
  unfold execPatrolScrubRead
  rw [if_pos (by simp [hon, hrun]), foldS, foldS, if_neg (by simp [hrun])]
theorem leads_patrol {ch : Fin 2} (hexec : exec (.patrolScrubRead ch [[]]) s = doneCore s t) (hline : LineOnly u t) (hpos : (u.chan ch.val).scrubPos = n) (hmem : u.dram.mem = s.dram.mem)
    (hpoison : u.dram.poison = []) (hk : keeps [.dram] s u) : leads (.patrolScrubRead ch [[]]) s (fun t => (t.chan ch.val).scrubPos = n ∧ t.dram.mem = s.dram.mem ∧ t.dram.poison = [] ∧
      keeps [.regs, .out, .free, .sys, .mon, .dram] s t) := by
  have hnow : (t.chan ch.val).scrubPos = n := by rw [hline.chan]; exact hpos
  exact leads_doneCore hexec ⟨hnow, hline.mem.trans hmem, hline.poison.trans hpoison, ((hk.mono (by simp)).trans hline.keeps fun _ => id).answered⟩
theorem exec_aperture {isWrite : Bool} {width : Width} {v : W32} {found : DramFound} (hup : s.hostUp = true) :
    exec (.apertureAccess addr isWrite width v found) s = doneCore s (s.aperture addr isWrite width v found) := congrArg (doneCore s) (byHost_up hup _)
theorem widthAlign_line (width : Width) (x : Nat) : widthAlign width x % 64 + widthBytes width ≤ 64 := by
  unfold widthAlign
  cases width <;> simp only [widthBytes] <;> omega
theorem widthBytes_pos (width : Width) : 0 < widthBytes width := by cases width <;> decide
theorem apOutside_false {width : Width} (h : s.apOutside addr width = false) : widthAlign width (s.apAddr addr) + widthBytes width ≤ s.dramSize := Nat.le_of_not_lt (of_decide_eq_false h)
theorem nth_map_some {α : Type} (xs : List α) (k : Nat) (d : α) : (nth none (xs.map some) k).getD d = nth d xs k := by
  induction xs generalizing k with
  | nil => rfl
  | cons x xs ih =>
    cases k with
    | zero => rfl
    | succ k => exact ih k
theorem map_nth_upFrom {α : Type} (d : α) (xs : List α) : (upFrom a xs.length).map (fun x => nth d xs (x - a)) = xs := by
  induction xs generalizing a with
  | nil => rfl
  | cons y ys ih =>
    rw [List.length_cons, upFrom, List.map_cons, Nat.sub_self]
    refine congrArg (y :: ·) ((List.map_congr_left fun x hx => ?_).trans (ih (a := a + 1)))
    have hrange := mem_upFrom.mp hx
    rw [show x - a = (x - (a + 1)) + 1 by omega]
    rfl
theorem dramPeek_stored {bytes : List Byte} (h : BytesWritten a (bytes.map some) s t) : t.dramPeek a bytes.length = bytes := by
  refine Eq.trans (List.map_congr_left fun x hx => ?_) (map_nth_upFrom (a := a) 0 bytes)
  have hrange := mem_upFrom.mp hx
  show t.byteNow x = _
  rw [h.byte, if_pos (by simpa using hrange), nth_map_some, nth_eq_getD, nth_eq_getD, List.getD_eq_getElem _ _ (by omega), List.getD_eq_getElem _ _ (by omega)]
theorem leads_stored {i : Instr} {bytes : List Byte} (hlen : bytes.length = n) (hexec : exec i s = doneCore s t) (h : BytesWritten a (bytes.map some) s t) (x : Nat) :
    leads i s (fun t => t.dramPeek a n = bytes ∧ (x < a ∨ a + n ≤ x → t.dramPeek x 1 = s.dramPeek x 1) ∧ t.dram.mem = s.dram.mem ∧ keeps [.dram, .trk] s t) := by
  have hpeek := dramPeek_stored h
  rw [hlen] at hpeek
  refine leads_doneCore hexec ⟨(dramPeek_of_dram rfl a n).trans hpeek, fun hx => (dramPeek_of_dram (s := t) rfl x 1).trans ?_, h.mem, h.keeps.answered⟩
  rw [dramPeek_one, dramPeek_one, h.byte, if_neg (by rw [List.length_map, hlen]; omega)]
theorem aperture_read {width : Width} {v : W32} {found : DramFound} {r : State × List Byte} (hrun : s.dram.frozen = false) (hin : s.apOutside addr width = false) (hlock : s.trk.lock = none)
    (hr : s.burst 0 8 (widthAlign width (s.apAddr addr)) false (List.replicate (widthBytes width) none) [found] = r) :
    s.aperture addr false width v found = r.1.answer (w32 (leNat r.2)) := by
  have hwait : s.mustWait 0 (dramCh (widthAlign width (s.apAddr addr))) = false := by rw [State.mustWait, hlock]
  have hread : s.apRead addr width found = (r.1, some (w32 (leNat r.2))) := by
    unfold State.apRead
    dsimp only
    rw [if_neg (by simp [hin]), if_neg (by simp [hrun]), hr, if_neg (by simp [hwait])]
  unfold State.aperture
  rw [if_neg (by decide), hread]
/-- A write above the module's area crosses the Trunk; one inside it, above the staging area, is ignored and marked. -/
theorem apWrite_high {width : Width} {v : W32} (hrun : s.dram.frozen = false) (hin : s.apOutside addr width = false) (hlow : 0x4000000 ≤ widthAlign width (s.apAddr addr)) :
    s.apWrite addr width v = (s.burst 0 8 (widthAlign width (s.apAddr addr)) true ((leBytes (widthBytes width) v.toNat).map some) []).1 := by
  unfold State.apWrite
  dsimp only
  rw [if_neg (by simp [hin]), if_neg (by simp [hrun]), if_neg (by omega), if_neg (by omega)]
theorem apWrite_protected {width : Width} {v : W32} (hrun : s.dram.frozen = false) (hin : s.apOutside addr width = false) (hlow : 0x1000000 ≤ widthAlign width (s.apAddr addr))
    (hhigh : widthAlign width (s.apAddr addr) < 0x4000000) : s.apWrite addr width v = s.flag (DRC_STAT 0) 12 := by
  unfold State.apWrite
  dsimp only
  rw [if_neg (by simp [hin]), if_neg (by simp [hrun]), if_neg (by omega), if_pos ⟨hlow, hhigh⟩]
theorem apWrite_outside {width : Width} {v : W32} (hout : s.apOutside addr width = true) : s.apWrite addr width v = s.apUnmapped addr := if_pos hout
theorem exec_apertureWrite {width : Width} {v : W32} {found : DramFound} (hup : s.hostUp = true) (h : s.apWrite addr width v = t) :
    exec (.apertureAccess addr true width v found) s = doneCore s t := (exec_aperture hup).trans (congrArg (doneCore s) ((if_pos rfl).trans h))
theorem answer_keeps (v : W32) : keeps [.out] s (s.answer v) := emit_keeps _
/-- What an access records that lies outside the DRAM which the aperture shows. -/
theorem apUnmapped_records (addr : Nat) : (s.apUnmapped addr).bit (DRC_STAT 0) 11 = true ∧ (s.apUnmapped addr).bit SYS_STAT 1 = true ∧ (s.apUnmapped addr).rd SYS_UNMAP_ADDR = w32 addr ∧
    raised 5 s (s.apUnmapped addr) ∧ regsKeep [DRC_STAT 0, SYS_STAT, SYS_UNMAP_ADDR] s (s.apUnmapped addr) := by
  obtain ⟨hbit, haddr, hraised, hregs⟩ := unmappedAt_records (s := s) addr
  exact ⟨bit_flag_self (by decide), (bit_wr_ne _ _ _ (by decide)).trans hbit, (rd_wr_ne _ _ (by decide)).trans haddr, hraised.wr rfl, (hregs.mono (by simp)).flag (by simp)⟩
theorem apUnmapped_only (addr : Nat) : evtOnly s (s.apUnmapped addr) :=
  ((evtOnly_wr _ _ _).trans ((evtOnly_wr _ _ _).trans (raise_only _ 5))).trans (evtOnly_wr _ _ _)

/-- Settles O40: the patrol's line by `patrolLine_clean`, an access of the aperture by the burst of its one line. -/
theorem patrolAndAperture : Obligations.PatrolAndAperture := by
  intro s ch addr x width v found
  refine ⟨fun hon hrun hclean hnext => ?_, fun hup hrun hin hlow hlock hroom hqos => ?_, fun hup hrun hin hlock hclean hentry => ?_, fun hup hout => ?_, fun hup hrun hin hlow hhigh => ?_⟩
  · exact leads_patrol (exec_patrol hon hrun) (patrolLine_clean hclean hnext) (patrolled_chan _) (by rw [patrolled_dram]) (by rw [patrolled_dram]; exact hclean) (patrolled_keeps _)
  · have hexec := exec_apertureWrite (v := v) (found := found) hup (apWrite_high hrun hin hlow)
    have hlen := length_leBytes (widthBytes width) v.toNat
    have hpos := widthBytes_pos width
    have hline := widthAlign_line width (s.apAddr addr)
    have hsize := apOutside_false hin
    generalize widthAlign width (s.apAddr addr) = a at *
    have hany : ((leBytes (widthBytes width) v.toNat).map some).any (·.isSome) = true := by
      cases hb : leBytes (widthBytes width) v.toNat with
      | nil => rw [hb] at hlen; exact absurd hlen (by simp; omega)
      | cons b bs => rfl
    have hlen' : ((leBytes (widthBytes width) v.toNat).map some).length = widthBytes width := List.length_map _ |>.trans hlen
    exact leads_stored hlen hexec (burst_written hrun hany (by rw [hlen']; exact hline) (by rw [hlen']; exact hsize) hlock (by rw [beq_eq_false_iff_ne.mpr hqos]; exact hroom)) x
  · have hread := burst_read (master := 0) (qos := 8) (found := [DramFound.clean]) (widthBytes_pos width) (widthAlign_line width (s.apAddr addr)) (apOutside_false hin) hlock
    have hexec := (exec_aperture hup).trans (congrArg (doneCore s) (aperture_read (v := v) hrun hin hlock hread))
    generalize widthAlign width (s.apAddr addr) = a at *
    have hk := booked_keeps (s := s) (linePiece s 0 8 a false (List.replicate (widthBytes width) none))
    have hdram := booked_dram (s := s) (linePiece s 0 8 a false (List.replicate (widthBytes width) none))
    generalize s.booked (linePiece s 0 8 a false (List.replicate (widthBytes width) none)) = g at *
    obtain ⟨hline, hbytes⟩ := lineRead_clean (s := g) (a := a) (n := widthBytes width) (master := 0) (rt := s.qosOf 0 8 == 15) (found := [DramFound.clean]) (by rw [hdram]; exact hrun)
      (by rw [hdram]; exact hclean) nth_one_clean (by rw [chan_of_dram hdram]; exact hentry)
    generalize g.lineRead a (widthBytes width) 0 (s.qosOf 0 8 == 15) [DramFound.clean] = r at *
    rw [hbytes, hdram] at hexec
    exact leads_doneCore hexec ⟨List.mem_append_right _ List.mem_cons_self, hline.mem.trans (by rw [hdram]),
      (((hk.mono (by simp)).trans hline.keeps (by simp)).trans (answer_keeps _) (by simp)).answered⟩
  · have hexec := exec_apertureWrite (v := v) (found := found) hup (apWrite_outside hout)
    obtain ⟨hstat, hflag, haddr, hraised, hregs⟩ := apUnmapped_records (s := s) addr
    have honly := apUnmapped_only (s := s) addr
    generalize s.apUnmapped addr = t at *
    exact leads_doneCore hexec ⟨hstat, hflag, haddr, hraised, (honly.answered_self rfl rfl rfl).symm ▸ honly, hregs⟩
  · have hexec := exec_apertureWrite (v := v) (found := found) hup (apWrite_protected hrun hin hlow hhigh)
    exact leads_doneCore hexec ⟨bit_flag_self (by decide), (regsOnly.refl _ s).flag (by simp), ((keeps.refl [.regs] s).flag (by simp)).answered⟩

end Sys2Proof.Machine
end

section
/-! SUPPORT. Command errors of the DRAM channels (R348) and the freeze of both channels (R352). -/

namespace Sys2Proof.Machine

variable {s t u v : State} {c d k n : Nat} {x : Channel} {rank : Fin 4} {hit : ParityHit}

/-! ## The error record and a retried alert -/

/-- The registers of the error record (R349), of the parity count and of the status of a channel. -/
def errRegs (c : Nat) : List Nat := [DRC_ERR_SYND c, DRC_ERR_INFO c, DRC_ERR_ADDR_LO c, DRC_ERR_ADDR_HI c]
theorem errAt_regs (c kind synd word master rank p a : Nat) : regsOnly (errRegs c) s (s.errAt c kind synd word master rank p a) := by
  unfold State.errAt
  split
  · exact .refl _ _
  · split
    · exact .refl _ _
    · exact ((((regsOnly.refl _ s).wr (by simp [errRegs])).wr (by simp [errRegs])).wr (by simp [errRegs])).wr (by simp [errRegs])
theorem errAt_keeps (c kind synd word master rank p a : Nat) : keeps [.regs] s (s.errAt c kind synd word master rank p a) := by
  unfold State.errAt
  split
  · exact keeps.refl _ _
  · split
    · exact keeps.refl _ _
    · exact ((((keeps.refl _ s).wr (by simp)).wr (by simp)).wr (by simp)).wr (by simp)
/-- The address that an alert names: a refresh has none. -/
def hitAddr (hit : ParityHit) : Nat := if hit.cmd.val = 5 then 0 else hit.addr
/-- The record and the commands of an alert, before it is counted. -/
def State.alerted (s : State) (c : Nat) (rank : Fin 4) (hit : ParityHit) : State :=
  ((s.errRec c (if hit.persist then 5 else 4) 0 0 hit.master.val rank.val (hitAddr hit)).histCmd c hit.cmd.val rank.val hit.master.val (dramC (hitAddr hit)) true).hist c 4 rank.val 0 0 14 0 false
/-- An alert with its count, flag and event (R348). -/
def State.parityHit (s : State) (c : Nat) (rank : Fin 4) (hit : ParityHit) : State := (((s.alerted c rank hit).count (DRC_PAR_COUNT c) 1).flag (DRC_STAT c) 2).raiseOnce 74
theorem exec_dramParity {ch : Fin 2} (h : s.dram.frozen = false ∨ hit.cmd.val = 5) : exec (.dramParity ch rank hit) s = doneCore s (if hit.persist then
    (if s.dram.frozen then ((s.parityHit ch.val rank hit).count (DRC_UE_COUNT ch.val) 1).flagRaise (DRC_STAT ch.val) 1 73
      else (((s.parityHit ch.val rank hit).count (DRC_UE_COUNT ch.val) 1).flagRaise (DRC_STAT ch.val) 1 73).dramOutcome ch.val rank.val 2 false)
    else (s.parityHit ch.val rank hit).histCmd ch.val hit.cmd.val rank.val hit.master.val (dramC (hitAddr hit)) false) := by
  show execDramParity ch rank hit s = _
  unfold execDramParity
  dsimp only
  rw [if_neg (by rcases h with h | h <;> simp [h])]
  rfl
theorem exec_dramParity_frozen {ch : Fin 2} (hfrozen : s.dram.frozen = true) (hcmd : hit.cmd.val ≠ 5) : exec (.dramParity ch rank hit) s = .next s := by
  show execDramParity ch rank hit s = _
  unfold execDramParity
  rw [if_pos ⟨hfrozen, hcmd⟩]
  rfl
theorem parity_regs : ∀ c : Fin 2, DRC_PAR_COUNT c.val ∉ errRegs c.val ∧ DRC_UE_COUNT c.val ∉ errRegs c.val ∧ evtReg (DRC_PAR_COUNT c.val) = false ∧ evtReg (DRC_UE_COUNT c.val) = false ∧
    evtReg (DRC_STAT c.val) = false ∧ DRC_PAR_COUNT c.val ≠ DRC_STAT c.val ∧ DRC_UE_COUNT c.val ≠ DRC_STAT c.val ∧ DRC_PAR_COUNT c.val ≠ DRC_UE_COUNT c.val := by decide
/-- What an alert leaves. -/
structure ParityNoted (c : Nat) (s t : State) : Prop where
  chan : ∀ d, t.chan d = { s.chan d with hist := (t.chan d).hist }
  dram : t.dram = { s.dram with ch0 := t.dram.ch0, ch1 := t.dram.ch1 }
  counted : counted (DRC_PAR_COUNT c) 1 s t
  errors : t.rd (DRC_UE_COUNT c) = s.rd (DRC_UE_COUNT c)
  bit : t.bit (DRC_STAT c) 2 = true
  raised : s.sys.onceTick.contains 74 = false → raised 74 s t
  regs : regsKeep (DRC_PAR_COUNT c :: DRC_STAT c :: errRegs c) s t
  keeps : keeps [.regs, .out, .mon, .sys, .dram] s t
  answering : t.sys.answering = s.sys.answering
theorem parityHit_noted (ch : Fin 2) (rank : Fin 4) (hit : ParityHit) : ParityNoted ch.val s (s.parityHit ch.val rank hit) := by
  obtain ⟨hpar, hue, hparE, hueE, hstatE, hne, hne', hne''⟩ := parity_regs ch
  unfold State.parityHit State.alerted State.errRec
  have hregs := errAt_regs (s := s) ch.val (if hit.persist then 5 else 4) 0 0 hit.master.val rank.val (dramC (hitAddr hit)) (hitAddr hit)
  have hk := errAt_keeps (s := s) ch.val (if hit.persist then 5 else 4) 0 0 hit.master.val rank.val (dramC (hitAddr hit)) (hitAddr hit)
  generalize s.errAt ch.val (if hit.persist then 5 else 4) 0 0 hit.master.val rank.val (dramC (hitAddr hit)) (hitAddr hit) = t at *
  have hhist : HistOnly t ((t.histCmd ch.val hit.cmd.val rank.val hit.master.val (dramC (hitAddr hit)) true).hist ch.val 4 rank.val 0 0 14 0 false) := (hist_only ..).trans (hist_only ..)
  generalize (t.histCmd ch.val hit.cmd.val rank.val hit.master.val (dramC (hitAddr hit)) true).hist ch.val 4 rank.val 0 0 14 0 false = u at *
  have hdram : t.dram = s.dram := hk.part (p := .dram) (by simp)
  have hsys : u.sys = s.sys := (hhist.keeps.part (p := .sys) (by simp)).trans (hk.part (p := .sys) (by simp))
  have hregs' : regsOnly (errRegs ch.val) s u := hregs.of_regs (hhist.keeps.part (p := .regs) (by simp))
  have hkeeps : keeps [.regs, .dram] s u := (hk.mono (by simp)).trans hhist.keeps (by simp)
  have honly := raiseOnce_only ((u.count (DRC_PAR_COUNT ch.val) 1).flag (DRC_STAT ch.val) 2) 74
  have hdram' : (((u.count (DRC_PAR_COUNT ch.val) 1).flag (DRC_STAT ch.val) 2).raiseOnce 74).dram = u.dram := honly.keeps.part (p := .dram) (by simp)
  have hchan := chan_of_dram hdram'
  refine ⟨fun d => ?_, ?_, ((counted_count (hregs' _ hpar)).flag hne).raiseOnce hparE, ?_, ?_, fun hnew => ?_, ?_, ?_, ?_⟩
  · rw [hchan, hhist.chan d, chan_of_dram hdram]
  · rw [hdram', hhist.dram, hdram]
  · exact (raiseOnce_rd _ 74 hueE).trans ((rd_wr_ne _ _ hne').trans ((rd_wr_ne _ _ hne''.symm).trans (hregs' _ hue)))
  · exact (bit_of_rd (raiseOnce_rd _ 74 hstatE)).trans (bit_flag_self (by decide))
  · exact raised_raiseOnce (t := (u.count (DRC_PAR_COUNT ch.val) 1).flag (DRC_STAT ch.val) 2) hkeeps.2.1 (congrArg SysSt.answering hsys) (by rw [show ((u.count (DRC_PAR_COUNT ch.val) 1).flag (DRC_STAT ch.val) 2).sys = s.sys from hsys]; exact hnew)
  · exact (((hregs'.keep.mono (fun _ h => by simp [h])).count (by simp)).flag (by simp)).raiseOnce
  · exact (((hkeeps.mono (by simp)).count (by simp)).flag (by simp)).raiseOnce (by simp)
  · exact honly.sys_answering.trans (congrArg SysSt.answering hsys)

/-! ## The steps of a freeze -/

/-- The registers that the ends of jobs, the migrations given up and the twin's fault of a freeze change. -/
def freezeRegs : List Nat := [IMG_STAT, IMG_FAIL, IMG_FAILS, TWN_OOS_COUNT, TWN_STAT, DRC_STAT 0, DRC_STAT 1]
/-- What each step of a freeze leaves alone, and what it keeps once it stands. -/
structure FreezeStep (s t : State) : Prop where
  regs : regsKeep freezeRegs s t
  flag : ∀ c : Fin 2, s.bit (DRC_STAT c.val) 1 = true → t.bit (DRC_STAT c.val) 1 = true
  raised : ∀ {e : Nat} {s0 : State}, raised e s0 s → raised e s0 t
  fit : t.fit = s.fit
  answering : t.sys.answering = s.sys.answering
  mem : t.dram.mem = s.dram.mem
theorem FreezeStep.refl (s : State) : FreezeStep s s := ⟨.refl _ s, fun _ h => h, fun h => h, rfl, rfl, rfl⟩
theorem FreezeStep.trans (h : FreezeStep s t) (h' : FreezeStep t u) : FreezeStep s u :=
  ⟨h.regs.trans h'.regs, fun c hc => h'.flag c (h.flag c hc), fun hr => h'.raised (h.raised hr), h'.fit.trans h.fit, h'.answering.trans h.answering, h'.mem.trans h.mem⟩
theorem freeze_evtRegs : ∀ a ∈ freezeRegs, evtReg a = false := by decide
theorem image_not_stat : ∀ c : Fin 2, DRC_STAT c.val ∉ [IMG_STAT, IMG_FAIL, IMG_FAILS] := by decide
theorem stat_freezes : ∀ c : Fin 2, DRC_STAT c.val ∈ freezeRegs := by decide
/-- A step that writes no register but those of the loader. -/
theorem FreezeStep.of_keeps {ps : List Part} (hk : Machine.keeps ps s t) (hregs : regsOnly [IMG_STAT, IMG_FAIL, IMG_FAILS] s t) (hsys : .sys ∉ ps) (hmem : t.dram.mem = s.dram.mem) : FreezeStep s t :=
  ⟨hregs.keep.mono (by simp [freezeRegs]), fun c hc => (bit_of_rd (hregs _ (image_not_stat c))).trans hc,
    fun hr => hr.of_regsOnly hregs fun a ha => freeze_evtRegs a (by simp only [freezeRegs, List.mem_cons] at ha ⊢; rcases ha with h | h | h | h <;> simp_all), hk.2.1,
    congrArg SysSt.answering (hk.part (p := .sys) hsys), hmem⟩
theorem FreezeStep.of_quiet {ps : List Part} (hk : Machine.keeps ps s t) (hregs : .regs ∉ ps) (hsys : .sys ∉ ps) (hmem : t.dram.mem = s.dram.mem) : FreezeStep s t :=
  .of_keeps hk (regsOnly_of_regs (hk.part (p := .regs) hregs)) hsys hmem
theorem raise_freezeStep (e : Nat) : FreezeStep s (s.raise e) :=
  ⟨(regsKeep.refl _ s).raise, fun c hc => (bit_raise (freeze_evtRegs _ (stat_freezes c))).trans hc, fun hr => hr.raise, (raise_only s e).fit, (raise_only s e).sys_answering,
    (congrArg DramSt.mem ((raise_only s e).keeps.part (p := .dram) (by simp)) :)⟩
theorem flagRaise_freezeStep (ch : Fin 2) (i e : Nat) : FreezeStep s (s.flagRaise (DRC_STAT ch.val) i e) :=
  FreezeStep.trans (t := s.flag (DRC_STAT ch.val) i) ⟨(regsKeep.refl _ s).flag (stat_freezes ch), fun _ hc => bit_flag_mono _ _ (by decide) hc, fun hr => hr.wr (freeze_evtRegs _ (stat_freezes ch)), rfl, rfl, rfl⟩
    (raise_freezeStep e)
theorem StandbyOnly.freezeStep (h : StandbyOnly s t) : FreezeStep s t := by
  have hne : ∀ c : Fin 2, DRC_STAT c.val ∉ [TWN_OOS_COUNT, TWN_STAT] := by decide
  exact ⟨h.regs.mono (by simp [freezeRegs]), fun c hc => (bit_of_rd (h.regs _ (hne c) (freeze_evtRegs _ (stat_freezes c)))).trans hc, h.raised, h.keeps.2.1, h.answering,
    (congrArg DramSt.mem (h.keeps.part (p := .dram) (by simp)) :)⟩
theorem imgFailed_freezeStep (place code sec : Nat) : FreezeStep s (s.imgFailed place code sec) := by
  have hk : keeps [.regs] s (s.imgFailed place code sec) := (((keeps.refl _ s).flag (by simp)).wr (by simp)).count (by simp)
  have hregs : regsOnly [IMG_STAT, IMG_FAIL, IMG_FAILS] s (s.imgFailed place code sec) := (((regsOnly.refl _ s).flag (by simp)).wr (by simp)).count (by simp)
  exact .of_keeps hk hregs (by simp) (congrArg DramSt.mem (hk.part (p := .dram) (by simp)) :)

/-- A step of a freeze after the channels stand: DRAM as it was. -/
structure FrozenStep (s t : State) : Prop where
  step : FreezeStep s t
  dram : t.dram = s.dram
theorem FrozenStep.refl (s : State) : FrozenStep s s := ⟨.refl s, rfl⟩
theorem FrozenStep.trans (h : FrozenStep s t) (h' : FrozenStep t u) : FrozenStep s u := ⟨h.step.trans h'.step, h'.dram.trans h.dram⟩
theorem FrozenStep.of_keeps {ps : List Part} (hk : keeps ps s t) (hregs : .regs ∉ ps) (hsys : .sys ∉ ps) (hdram : .dram ∉ ps) : FrozenStep s t :=
  ⟨.of_quiet hk hregs hsys (congrArg DramSt.mem (hk.part (p := .dram) hdram) :), hk.part (p := .dram) hdram⟩
theorem FrozenStep.fold {α : Type} {f : State → α → State} (l : List α) (h : ∀ t a, FrozenStep t (f t a)) : FrozenStep s (foldS f s l) := by
  induction l generalizing s with
  | nil => exact .refl s
  | cons a as ih => exact (h s a).trans ih
theorem resultWrite_frozenStep (k : Nat) (ws : List W32) : FrozenStep s (s.resultWrite k ws) := .of_keeps (resultWrite_keeps k ws) (by simp) (by simp) (by simp)
theorem resultMore_keeps (k n : Nat) (ws : List W32) : keeps [.mem] s (s.resultMore k n ws) := by simp [keeps_iff, State.resultMore, State.poolWrW, State.poolWr]
theorem resultClear_keeps (k : Nat) : keeps [.mem] s (s.resultClear k) := by simp [keeps_iff, State.resultClear]
theorem imgDropped_frozenStep (k code : Nat) : FrozenStep s (s.imgDropped k code) := by
  have hclear : FrozenStep s (if (s.slot k).st = .running then s else s.resultClear k) := by
    split
    · exact .refl s
    · exact .of_keeps (resultClear_keeps k) (by simp) (by simp) (by simp)
  exact hclear.trans (FrozenStep.trans ⟨imgFailed_freezeStep 0 code 0xFF, rfl⟩ (.of_keeps (resultMore_keeps k 18 _) (by simp) (by simp) (by simp)))
theorem sceneClose_frozenStep (k : Nat) : FrozenStep s (s.sceneClose k) := by
  unfold State.sceneClose
  split
  · rename_i w _
    split
    · have hk : keeps [.canopy] s { s with canopy := { s.canopy with scene := none } } := by simp [keeps_iff]
      exact (FrozenStep.of_keeps hk (by simp) (by simp) (by simp)).trans (resultWrite_frozenStep k (sceneResult w))
    · exact resultWrite_frozenStep k _
  · exact resultWrite_frozenStep k _
theorem jobFrozen_frozenStep (k : Nat) : FrozenStep s (s.jobFrozen k) := by
  unfold State.jobFrozen
  refine FrozenStep.trans (t := if (s.slot k).kind.toNat = 3 then s.sceneClose k else if (s.slot k).kind.toNat = 1 ∨ (s.slot k).kind.toNat = 2 then s.imgDropped k 0x05 else s) ?_
    (.of_keeps (modSlot_keeps k _) (by simp) (by simp) (by simp))
  split
  · exact sceneClose_frozenStep k
  · split
    · exact imgDropped_frozenStep k 0x05
    · exact .refl s

/-! ## The freeze -/

/-- What a migration given up leaves: no copy at its channel, the queues, and the other channel. -/
structure Abandoned (c : Fin 2) (s t : State) : Prop where
  step : FreezeStep s t
  copying : (t.chan c.val).copying = none
  wq : (t.chan c.val).wq = (s.chan c.val).wq
  other : ∀ d : Fin 2, d ≠ c → t.chan d.val = s.chan d.val
  keeps : keeps [.regs, .out, .mon, .sys, .mem, .dram] s t
theorem chan_other {c d : Fin 2} (h : d ≠ c) : (s.setChan c.val x).chan d.val = s.chan d.val :=
  chan_setChan_other fun hiff => h (Fin.ext (by omega))
theorem migAbandon_abandoned (c : Fin 2) : Abandoned c s (s.migAbandon c.val false) := by
  unfold State.migAbandon
  cases hcopy : (s.chan c.val).copying with
  | none => exact ⟨.refl s, hcopy, rfl, fun _ _ => rfl, keeps.refl _ s⟩
  | some m =>
    dsimp only
    generalize hy : ({ ((s.chan c.val).modRank m.source fun r => { r with st := if m.wasSuspect then .suspect else .inService }).modRank m.target (fun r => { r with st := if false = true then .failed else .spare })
      with mig := none, migLast := migWord m 3 } : Channel) = y
    have hnone : y.copying = none := hy ▸ rfl
    have hwq : y.wq = (s.chan c.val).wq := hy ▸ rfl
    have hk : keeps [.dram] s (s.setChan c.val y) := setChan_keeps ..
    have hstep : FreezeStep s ((s.setChan c.val y).flagRaise (DRC_STAT c.val) 6 78) :=
      (FreezeStep.of_quiet hk (by simp) (by simp) (congrArg DramSt.mem (setChan_channels (s := s) c.val y) :)).trans (flagRaise_freezeStep c 6 78)
    have hdram : ((s.setChan c.val y).flagRaise (DRC_STAT c.val) 6 78).dram = (s.setChan c.val y).dram := (flagRaise_only _ _ _ _).keeps.part (p := .dram) (by simp)
    have hkeep : keeps [.regs, .out, .mon, .sys, .mem, .dram] s ((s.setChan c.val y).flagRaise (DRC_STAT c.val) 6 78) := (hk.mono (by simp)).flagRaise (by simp)
    have hchan := chan_of_dram hdram
    have hsame := chan_setChan_same s c.val y
    have hother : ∀ d : Fin 2, d ≠ c → (s.setChan c.val y).chan d.val = s.chan d.val := fun d hd => chan_other hd
    generalize s.setChan c.val y = g at *
    generalize g.flagRaise (DRC_STAT c.val) 6 78 = u at *
    have hend : ∀ {v : State}, FrozenStep u v → keeps [.mem] u v → Abandoned c s v := fun {v} hv hkv =>
      ⟨hstep.trans hv.step, by rw [chan_of_dram hv.dram, hchan, hsame]; exact hnone, by rw [chan_of_dram hv.dram, hchan, hsame]; exact hwq,
        fun d hd => by rw [chan_of_dram hv.dram, hchan, hother d hd], hkeep.trans hkv (by simp)⟩
    cases m.slot with
    | none => exact hend (.refl u) (keeps.refl _ u)
    | some k => exact hend (resultWrite_frozenStep k _) (resultWrite_keeps k _)
/-- The channels stand: their queued writes are dropped and counted. -/
def Channel.dropped (x : Channel) : Channel := { x with frzDrop := x.wq.length, wq := [] }
def State.dropQueues (s : State) : State := { s with dram := { s.dram with frozen := true, ch0 := s.dram.ch0.dropped, ch1 := s.dram.ch1.dropped } }
theorem dropQueues_chan (c : Nat) : s.dropQueues.chan c = (s.chan c).dropped := by
  unfold State.chan
  split <;> rfl
theorem dropQueues_step : FreezeStep s s.dropQueues := .of_quiet (ps := [.dram]) (by simp [keeps_iff, State.dropQueues]) (by simp) (by simp) rfl
/-- The jobs, the load and the export that a freeze ends. -/
def State.freezeEnds (s : State) : State :=
  let s := foldS (fun t k => if s.usesDram (s.slot k) then t.jobFrozen k else t) s slotNums
  let s := if s.img.phase1 && s.img.slot.any (fun k => (s.slot k).kind == 1) then { s with img := { s.img with phase := .idle, slot := none, staged := none } } else s
  { s with graph := { s.graph with dma := none } }
theorem freezeEnds_frozenStep : FrozenStep s s.freezeEnds := by
  unfold State.freezeEnds
  dsimp only
  have hjobs : FrozenStep s (foldS (fun t k => if s.usesDram (s.slot k) then t.jobFrozen k else t) s slotNums) := .fold _ fun t k => by
    split
    · exact jobFrozen_frozenStep k
    · exact .refl t
  generalize foldS (fun t k => if s.usesDram (s.slot k) then t.jobFrozen k else t) s slotNums = t at *
  refine hjobs.trans (FrozenStep.trans (t := if t.img.phase1 && t.img.slot.any (fun k => (t.slot k).kind == 1) then { t with img := { t.img with phase := .idle, slot := none, staged := none } } else t) ?_
    (.of_keeps (ps := [.graph]) (by simp [keeps_iff]) (by simp) (by simp) (by simp)))
  split
  · exact .of_keeps (ps := [.img]) (by simp [keeps_iff]) (by simp) (by simp) (by simp)
  · exact .refl t
theorem declareFaulty_frozenStep : FrozenStep s s.declareFaulty :=
  ⟨⟨.refl _ s, fun _ h => h, fun h => h.of_regs rfl, rfl, rfl, rfl⟩, rfl⟩
theorem dramFreeze_eq (hrun : s.dram.frozen = false) : s.dramFreeze =
    (((((s.migAbandon 0 false).migAbandon 1 false).dropQueues.freezeEnds.raise 75).when
      ((((s.migAbandon 0 false).migAbandon 1 false).dropQueues.freezeEnds.raise 75).bit (DRC_POLICY 0) 0 && !(((s.migAbandon 0 false).migAbandon 1 false).dropQueues.freezeEnds.raise 75).inPair) State.declareFaulty)).twinFault := by
  unfold State.dramFreeze
  rw [if_neg (by simp [hrun])]
  rfl
/-- What a freeze of both channels leaves. -/
structure Froze (s t : State) : Prop where
  step : FreezeStep s t
  raised : raised 75 s t
  frozen : t.dram.frozen = true
  chans : ∀ c : Fin 2, (t.chan c.val).wq = [] ∧ (t.chan c.val).frzDrop = (s.chan c.val).wq.length ∧ (t.chan c.val).copying = none
theorem dramFreeze_froze (hrun : s.dram.frozen = false) : Froze s s.dramFreeze := by
  rw [dramFreeze_eq hrun]
  have h0 := migAbandon_abandoned (s := s) 0
  have h1 := migAbandon_abandoned (s := s.migAbandon 0 false) 1
  rw [show ((0 : Fin 2) : Nat) = 0 from rfl] at h0
  rw [show ((1 : Fin 2) : Nat) = 1 from rfl] at h1
  generalize s.migAbandon 0 false = a at *
  generalize a.migAbandon 1 false = b at *
  have hchans : ∀ c : Fin 2, (b.chan c.val).wq = (s.chan c.val).wq ∧ (b.chan c.val).copying = none := fun c => by
    rcases (by decide +revert : c = 0 ∨ c = 1) with rfl | rfl
    · rw [h1.other 0 (by decide)]
      exact ⟨h0.wq, h0.copying⟩
    · exact ⟨h1.wq.trans (congrArg Channel.wq (h0.other 1 (by decide))), h1.copying⟩
  have hdrop := (h0.step.trans h1.step).trans (dropQueues_step (s := b))
  have hnow := dropQueues_chan (s := b)
  have hfrozen : b.dropQueues.dram.frozen = true := rfl
  generalize b.dropQueues = g at *
  have hends := freezeEnds_frozenStep (s := g)
  generalize g.freezeEnds = e at *
  have hfit := hdrop.trans hends.step
  have hraised : Machine.raised 75 s (e.raise 75) := raised_raise hfit.fit hfit.answering
  have hraise : FrozenStep e (e.raise 75) := ⟨raise_freezeStep 75, (raise_only e 75).keeps.part (p := .dram) (by simp)⟩
  generalize e.raise 75 = r at *
  have hlast : FrozenStep r ((r.when (r.bit (DRC_POLICY 0) 0 && !r.inPair) State.declareFaulty).twinFault) := by
    have htwin := twinFault_standby (s := r.when (r.bit (DRC_POLICY 0) 0 && !r.inPair) State.declareFaulty)
    refine FrozenStep.trans ?_ ⟨htwin.freezeStep, htwin.keeps.part (p := .dram) (by simp)⟩
    unfold State.when
    split
    · exact declareFaulty_frozenStep
    · exact .refl r
  generalize (r.when (r.bit (DRC_POLICY 0) 0 && !r.inPair) State.declareFaulty).twinFault = t at *
  have hdram : t.dram = g.dram := hlast.dram.trans (hraise.dram.trans hends.dram)
  refine ⟨hfit.trans (hraise.step.trans hlast.step), hlast.step.raised hraised, by rw [hdram]; exact hfrozen, fun c => ?_⟩
  obtain ⟨hwq, hcopy⟩ := hchans c
  rw [chan_of_dram hdram, hnow]
  exact ⟨rfl, congrArg List.length hwq, hcopy⟩

end Sys2Proof.Machine
end

section
/-! PROOF. The DRAM channels' command errors, row-hammer defence and migrations (R348, R350 to R355). -/

namespace Sys2Proof.Machine

variable {s t u v : State} {c k n row source : Nat} {x : Channel} {rank : Fin 4} {hit : ParityHit} {rows : List HammerRow}

/-! ## A command error -/

theorem dramOutcome_pair (h : s.dram.ranksW ≠ 4) (c rank cause : Nat) (isWord : Bool) : s.dramOutcome c rank cause isWord = s.dramFreeze := if_neg h
theorem freeze_counts : ∀ c : Fin 2, DRC_PAR_COUNT c.val ∉ freezeRegs ∧ DRC_UE_COUNT c.val ∉ freezeRegs := by decide
theorem leads_parityRetried {ch : Fin 2} (hretry : hit.persist = false) (h : s.dram.frozen = false ∨ hit.cmd.val = 5) : leads (.dramParity ch rank hit) s (fun t =>
    counted (DRC_PAR_COUNT ch.val) 1 s t ∧ t.bit (DRC_STAT ch.val) 2 = true ∧ (s.sys.onceTick.contains 74 = false → raised 74 s t) ∧ t.dram.mem = s.dram.mem ∧ t.dram.frozen = s.dram.frozen ∧
    (∀ c : Fin 2, t.chan c.val = { s.chan c.val with hist := (t.chan c.val).hist }) ∧
    regsKeep [DRC_PAR_COUNT ch.val, DRC_STAT ch.val, DRC_ERR_SYND ch.val, DRC_ERR_INFO ch.val, DRC_ERR_ADDR_LO ch.val, DRC_ERR_ADDR_HI ch.val] s t ∧ keeps [.regs, .out, .mon, .sys, .dram] s t) := by
  have hexec := exec_dramParity (rank := rank) (ch := ch) h
  rw [if_neg (by simp [hretry])] at hexec
  have hnoted := parityHit_noted (s := s) ch rank hit
  generalize s.parityHit ch.val rank hit = p at *
  have hhist : HistOnly p (p.histCmd ch.val hit.cmd.val rank.val hit.master.val (dramC (hitAddr hit)) false) := hist_only ..
  generalize p.histCmd ch.val hit.cmd.val rank.val hit.master.val (dramC (hitAddr hit)) false = t at *
  have hregs : t.regs = p.regs := hhist.keeps.part (p := .regs) (by simp)
  exact leads_doneCore hexec ⟨hnoted.counted.of_rd (rd_of_regs hregs _), (bit_of_rd (rd_of_regs hregs _)).trans hnoted.bit, fun hnew => (hnoted.raised hnew).of_regs hregs,
    hhist.mem.trans (by rw [hnoted.dram]), hhist.frozen.trans (by rw [hnoted.dram]), fun c => show t.chan c.val = { s.chan c.val with hist := (t.chan c.val).hist } by rw [hhist.chan, hnoted.chan],
    hnoted.regs.of_regs hregs, (hnoted.keeps.trans hhist.keeps (by simp)).answered⟩
theorem leads_commandError {ch : Fin 2} (hpersist : hit.persist = true) (hrun : s.dram.frozen = false) (hpair : s.dram.ranksW ≠ 4) : leads (.dramParity ch rank hit) s (fun t =>
    t.dram.frozen = true ∧ counted (DRC_PAR_COUNT ch.val) 1 s t ∧ counted (DRC_UE_COUNT ch.val) 1 s t ∧ t.bit (DRC_STAT ch.val) 1 = true ∧ raised 73 s t ∧ raised 75 s t ∧ t.dram.mem = s.dram.mem ∧
    (∀ c : Fin 2, (t.chan c.val).wq = [] ∧ (t.chan c.val).frzDrop = (s.chan c.val).wq.length ∧ (t.chan c.val).copying = none)) := by
  have hexec := exec_dramParity (rank := rank) (hit := hit) (ch := ch) (.inl hrun)
  rw [if_pos hpersist, if_neg (by simp [hrun])] at hexec
  obtain ⟨-, -, hparE, hueE, hstatE, hne, hne', hne''⟩ := parity_regs ch
  obtain ⟨hpar, hue⟩ := freeze_counts ch
  have hnoted := parityHit_noted (s := s) ch rank hit
  generalize s.parityHit ch.val rank hit = p at *
  have honly := flagRaise_only (p.count (DRC_UE_COUNT ch.val) 1) (DRC_STAT ch.val) 1 73
  have hdram : ((p.count (DRC_UE_COUNT ch.val) 1).flagRaise (DRC_STAT ch.val) 1 73).dram = p.dram := honly.keeps.part (p := .dram) (by simp)
  have hcount : counted (DRC_PAR_COUNT ch.val) 1 s ((p.count (DRC_UE_COUNT ch.val) 1).flagRaise (DRC_STAT ch.val) 1 73) := (hnoted.counted.wr hne'').flagRaise hne hparE
  have herrors : counted (DRC_UE_COUNT ch.val) 1 s ((p.count (DRC_UE_COUNT ch.val) 1).flagRaise (DRC_STAT ch.val) 1 73) := (counted_count hnoted.errors).flagRaise hne' hueE
  have hbit : ((p.count (DRC_UE_COUNT ch.val) 1).flagRaise (DRC_STAT ch.val) 1 73).bit (DRC_STAT ch.val) 1 = true := flagRaise_bit _ _ _ _ hstatE (by decide)
  have hraised : raised 73 s ((p.count (DRC_UE_COUNT ch.val) 1).flagRaise (DRC_STAT ch.val) 1 73) := raised_flagRaise (t := p.count (DRC_UE_COUNT ch.val) 1) hnoted.keeps.2.1 hnoted.answering
  have hans : ((p.count (DRC_UE_COUNT ch.val) 1).flagRaise (DRC_STAT ch.val) 1 73).sys.answering = s.sys.answering := honly.sys_answering.trans hnoted.answering
  have hfit : ((p.count (DRC_UE_COUNT ch.val) 1).flagRaise (DRC_STAT ch.val) 1 73).fit = s.fit := honly.fit.trans hnoted.keeps.2.1
  generalize (p.count (DRC_UE_COUNT ch.val) 1).flagRaise (DRC_STAT ch.val) 1 73 = u at *
  rw [dramOutcome_pair (by rw [hdram, hnoted.dram]; exact hpair)] at hexec
  have hfroze := dramFreeze_froze (s := u) (by rw [hdram, hnoted.dram]; exact hrun)
  generalize u.dramFreeze = t at *
  have hraised75 : raised 75 s t := fun hhere hup => hfroze.raised (by rw [State.eventHere, hfit]; exact hhere) (by rw [hans]; exact hup)
  refine leads_doneCore hexec ⟨hfroze.frozen, hcount.of_rd (hfroze.step.regs _ hpar hparE), herrors.of_rd (hfroze.step.regs _ hue hueE), hfroze.step.flag ch hbit, hfroze.step.raised hraised,
    hraised75, ?_, fun c => ?_⟩
  · exact hfroze.step.mem.trans (by rw [hdram, hnoted.dram])
  · obtain ⟨hwq, hdrop, hcopy⟩ := hfroze.chans c
    exact ⟨hwq, hdrop.trans (by rw [chan_of_dram hdram, hnoted.chan]), hcopy⟩

/-! ## Row hammer -/

theorem hammerMin_lt : ∀ (rows : List HammerRow) (i best low n : Nat), best < n → i + rows.length ≤ n → hammerMin rows i best low < n
  | [], _, _, _, _, hbest, _ => hbest
  | r :: rs, i, best, low, n, hbest, hlen => by
    rw [List.length_cons] at hlen
    unfold hammerMin
    split
    · exact hammerMin_lt rs (i + 1) i r.count n (by omega) (by omega)
    · exact hammerMin_lt rs (i + 1) best low n hbest (by omega)
/-- A row that no table entry has enters the table untreated, for the entry of the smallest count where the table is full. -/
theorem hammerTouch_new (h : rows.any (fun r => r.row == row) = false) (master : Nat) : ∃ r0, r0.row = row ∧ r0.treated = false ∧ r0 ∈ hammerTouch rows row master ∧
    ∀ r ∈ hammerTouch rows row master, r.row = row → r = r0 := by
  have hnone : ∀ r ∈ rows, r.row ≠ row := fun r hr heq => by simpa [heq] using List.any_eq_false.mp h r hr
  unfold hammerTouch
  rw [if_neg (by rw [h]; decide)]
  split
  · refine ⟨_, rfl, rfl, List.mem_append_right _ List.mem_cons_self, fun r hr heq => ?_⟩
    rcases List.mem_append.mp hr with hr | hr
    · exact absurd heq (hnone r hr)
    · exact List.mem_singleton.mp hr
  · rename_i hfull
    have hlt : hammerMin rows 0 0 (2 ^ 32) < rows.length := hammerMin_lt rows 0 0 _ _ (by omega) (by omega)
    dsimp only
    rw [setNth_eq_set]
    refine ⟨_, rfl, rfl, List.mem_set hlt _, fun r hr heq => ?_⟩
    rcases List.mem_or_eq_of_mem_set hr with hr | hr
    · exact absurd heq (hnone r hr)
    · exact hr
/-- The table of a bank once a row's activations have reached the threshold. -/
def hammered (rows : List HammerRow) (row thr : Nat) : List HammerRow :=
  (if rows.any (fun r => r.row == row) then rows else hammerTouch rows row 7).map (fun r => if r.row = row then { r with count := max thr r.count } else r)
theorem hammered_head (huntreated : ∀ r ∈ rows, r.row = row → r.treated = false) (thr : Nat) :
    ∃ r, ((hammered rows row thr).filter (fun r => r.row == row)).head? = some r ∧ thr ≤ r.count ∧ r.treated = false := by
  have hrows : ∃ ys : List HammerRow, hammered rows row thr = ys.map (fun r => if r.row = row then { r with count := max thr r.count } else r) ∧ (∃ r ∈ ys, r.row = row) ∧ ∀ r ∈ ys, r.row = row → r.treated = false := by
    refine ⟨_, rfl, ?_⟩
    split
    case isTrue hany =>
      obtain ⟨r, hr, heq⟩ := List.any_eq_true.mp hany
      exact ⟨⟨r, hr, by simpa using heq⟩, huntreated⟩
    case isFalse hany =>
      obtain ⟨r0, hrow, hfalse, hmem, honly⟩ := hammerTouch_new (Bool.eq_false_iff.mpr hany) 7
      exact ⟨⟨r0, hmem, hrow⟩, fun r hr heq => by rw [honly r hr heq]; exact hfalse⟩
  obtain ⟨ys, heq, ⟨r0, hr0, hrow0⟩, hall⟩ := hrows
  rw [heq]
  cases hhead : ((ys.map (fun r => if r.row = row then { r with count := max thr r.count } else r)).filter (fun r => r.row == row)).head? with
  | none =>
    refine absurd (List.head?_eq_none_iff.mp hhead) (List.ne_nil_of_mem (a := { r0 with count := max thr r0.count }) (List.mem_filter.mpr ⟨List.mem_map.mpr ⟨r0, hr0, if_pos hrow0⟩, ?_⟩))
    simpa using hrow0
  | some r =>
    obtain ⟨hmem, hrow⟩ := List.mem_filter.mp (List.mem_of_head? hhead)
    obtain ⟨y, hy, rfl⟩ := List.mem_map.mp hmem
    refine ⟨_, rfl, ?_⟩
    by_cases hyrow : y.row = row
    · rw [if_pos hyrow]
      exact ⟨Nat.le_max_left .., hall y hy hyrow⟩
    · rw [if_neg hyrow] at hrow
      exact absurd (by simpa using hrow) hyrow
theorem exec_rowHammer {ch : Fin 2} {bg bank : Fin 4} : exec (.rowHammer ch rank bg bank row) s = doneCore s
    ((s.modChan ch.val fun x => { x with hammer := spPut x.hammer (bankKey rank.val bg.val bank.val) (hammered (spGet [] (s.chan ch.val).hammer (bankKey rank.val bg.val bank.val)) row (s.chan ch.val).thrEff) }).hammerCheck
      ch.val rank.val bg.val bank.val row) := rfl
theorem hammerCheck_reached {r : HammerRow} {bg bank : Nat} (hen : s.bit (DRC_POLICY c) 3 = true) (hhead : ((spGet [] (s.chan c).hammer (bankKey k bg bank)).filter (fun r => r.row == row)).head? = some r)
    (hthr : (s.chan c).thrEff ≤ r.count) (hnew : r.treated = false) : s.hammerCheck c k bg bank row = s.hammerTreat c k bg bank row r.masters := by
  unfold State.hammerCheck
  rw [hhead]
  exact if_pos (by simp [hen, hthr, hnew])
/-- The word of DRC_HAMMER_LAST. -/
def hammerWord (m rank bg bank row : Nat) : Nat := m * 2 ^ 28 + rank * 2 ^ 26 + bg * 2 ^ 24 + bank * 2 ^ 22 + row
theorem hammerWord_row {m rank bg bank row : Nat} (hrank : rank < 4) (hbg : bg < 4) (hbank : bank < 4) (hrow : row < 2 ^ 17) :
    (w32 (hammerWord m rank bg bank row)).toNat % 2 ^ 28 = rank * 2 ^ 26 + bg * 2 ^ 24 + bank * 2 ^ 22 + row := by
  rw [hammerWord, w32, BitVec.toNat_ofNat]
  omega
theorem hammerTreat_word (c rank bg bank row : Nat) (masters : Sparse Nat) : s.hammerTreat c rank bg bank row masters =
    (s.modChan c fun x => x.treated (bankKey rank bg bank) row (heaviest masters)).treatNoted c (hammerWord (heaviest masters) rank bg bank row) := rfl
theorem hammer_regs : ∀ c : Fin 2, evtReg (DRC_HAMMER_LAST c.val) = false ∧ evtReg (DRC_HAMMER_COUNT c.val) = false ∧ evtReg (DRC_STAT c.val) = false ∧
    DRC_HAMMER_LAST c.val ≠ DRC_HAMMER_COUNT c.val ∧ DRC_HAMMER_LAST c.val ≠ DRC_STAT c.val ∧ DRC_HAMMER_COUNT c.val ≠ DRC_STAT c.val := by decide
/-- What the report of a treated row leaves. -/
structure TreatNoted (c word : Nat) (s t : State) : Prop where
  bit : t.bit (DRC_STAT c) 5 = true
  raised : raised 77 s t
  counted : counted (DRC_HAMMER_COUNT c) 1 s t
  last : t.rd (DRC_HAMMER_LAST c) = w32 word
  regs : regsKeep [DRC_STAT c, DRC_HAMMER_COUNT c, DRC_HAMMER_LAST c] s t
theorem treatNoted_noted (ch : Fin 2) (word : Nat) : TreatNoted ch.val word s (s.treatNoted ch.val word) := by
  obtain ⟨hlastE, hcountE, hstatE, hne, hne', hne''⟩ := hammer_regs ch
  exact ⟨flagRaise_bit _ _ _ _ hstatE (by decide), raised_flagRaise (t := (s.wr _ _).count _ 1) rfl rfl, (counted_count (rd_wr_ne _ _ hne.symm)).flagRaise hne'' hcountE,
    (flagRaise_rd _ _ _ _ hlastE hne').trans ((rd_wr_ne _ _ hne).trans (rd_wr_same ..)), (((regsKeep.refl _ s).wr (by simp)).count (by simp)).flagRaise (by simp)⟩
/-- The treated channel: the row's entries marked, and its neighbours waiting. -/
theorem treated_rows (k row m : Nat) : ∀ r ∈ spGet [] (x.treated k row m).hammer k, r.row = row → r.treated = true := by
  intro r hr hrow
  have htable : spGet [] (x.treated k row m).hammer k = (spGet [] x.hammer k).map (fun r => if r.row = row then { r with treated := true } else r) := spGet_spPut_same ..
  rw [htable] at hr
  obtain ⟨y, -, rfl⟩ := List.mem_map.mp hr
  by_cases hy : y.row = row
  · rw [if_pos hy]
  · rw [if_neg hy] at hrow
    exact absurd hrow hy
theorem treated_below (h : row ≠ 0) (k m : Nat) : (k, row - 1) ∈ (x.treated k row m).neighbours := by
  show (k, row - 1) ∈ x.neighbours ++ _ ++ _
  rw [if_neg h]
  simp
theorem treated_above (h : row + 1 ≠ 2 ^ 17) (k m : Nat) : (k, row + 1) ∈ (x.treated k row m).neighbours := by
  show (k, row + 1) ∈ x.neighbours ++ _ ++ _
  rw [if_neg (c := row + 1 = 2 ^ 17) h]
  simp
theorem leads_rowHammer {ch : Fin 2} {bg bank : Fin 4} (hrow : row < 2 ^ 17) (hen : s.bit (DRC_POLICY ch.val) 3 = true)
    (huntreated : ∀ r ∈ spGet [] (s.chan ch.val).hammer (bankKey rank.val bg.val bank.val), r.row = row → r.treated = false) :
    leads (.rowHammer ch rank bg bank row) s (fun t => t.bit (DRC_STAT ch.val) 5 = true ∧ raised 77 s t ∧ counted (DRC_HAMMER_COUNT ch.val) 1 s t ∧
      (t.rd (DRC_HAMMER_LAST ch.val)).toNat % 2 ^ 28 = rank.val * 2 ^ 26 + bg.val * 2 ^ 24 + bank.val * 2 ^ 22 + row ∧
      (∀ r ∈ spGet [] (t.chan ch.val).hammer (bankKey rank.val bg.val bank.val), r.row = row → r.treated = true) ∧
      (row ≠ 0 → (bankKey rank.val bg.val bank.val, row - 1) ∈ (t.chan ch.val).neighbours) ∧
      (row + 1 ≠ 2 ^ 17 → (bankKey rank.val bg.val bank.val, row + 1) ∈ (t.chan ch.val).neighbours) ∧
      regsKeep [DRC_STAT ch.val, DRC_HAMMER_COUNT ch.val, DRC_HAMMER_LAST ch.val] s t ∧ keeps [.regs, .out, .mon, .sys, .dram] s t ∧ t.dram.mem = s.dram.mem) := by
  have hexec := exec_rowHammer (s := s) (ch := ch) (rank := rank) (bg := bg) (bank := bank) (row := row)
  obtain ⟨r, hhead, hthr, hnew⟩ := hammered_head huntreated (s.chan ch.val).thrEff
  generalize hammered (spGet [] (s.chan ch.val).hammer (bankKey rank.val bg.val bank.val)) row (s.chan ch.val).thrEff = rows at *
  have hchan := chan_modChan_same s ch.val fun x => { x with hammer := spPut x.hammer (bankKey rank.val bg.val bank.val) rows }
  have hmem := modChan_mem (s := s) ch.val fun x => { x with hammer := spPut x.hammer (bankKey rank.val bg.val bank.val) rows }
  have hk := modChan_keeps (s := s) ch.val fun x => { x with hammer := spPut x.hammer (bankKey rank.val bg.val bank.val) rows }
  generalize s.modChan ch.val (fun x => { x with hammer := spPut x.hammer (bankKey rank.val bg.val bank.val) rows }) = g at *
  have hgbit : g.bit (DRC_POLICY ch.val) 3 = true := (bit_of_rd (rd_of_regs (hk.part (p := .regs) (by simp)) _)).trans hen
  rw [hammerCheck_reached (r := r) hgbit (by rw [hchan, spGet_spPut_same]; exact hhead) (by rw [hchan]; exact hthr) hnew, hammerTreat_word] at hexec
  generalize heaviest r.masters = m at *
  have htreat := chan_modChan_same g ch.val fun x => x.treated (bankKey rank.val bg.val bank.val) row m
  have hmem' := modChan_mem (s := g) ch.val fun x => x.treated (bankKey rank.val bg.val bank.val) row m
  have hk' := hk.trans (modChan_keeps (s := g) ch.val fun x => x.treated (bankKey rank.val bg.val bank.val) row m) fun _ => id
  generalize g.modChan ch.val (fun x => x.treated (bankKey rank.val bg.val bank.val) row m) = u at *
  have hlast := hammerWord_row (m := m) rank.isLt bg.isLt bank.isLt hrow
  have hnoted := treatNoted_noted (s := u) ch (hammerWord m rank.val bg.val bank.val row)
  have hnk := treatNoted_keeps (s := u) ch.val (hammerWord m rank.val bg.val bank.val row)
  generalize hammerWord m rank.val bg.val bank.val row = word at *
  generalize u.treatNoted ch.val word = t at *
  have hregs : u.regs = s.regs := hk'.part (p := .regs) (by simp)
  have hdram : t.dram = u.dram := hnk.part (p := .dram) (by simp)
  have htchan : t.chan ch.val = (g.chan ch.val).treated (bankKey rank.val bg.val bank.val) row m := (chan_of_dram hdram _).trans htreat
  have hraised : raised 77 s t := fun hhere hup => hnoted.raised (by rw [State.eventHere, hk'.2.1]; exact hhere) (by rw [show u.sys = s.sys from hk'.part (p := .sys) (by simp)]; exact hup)
  have hword : (t.rd (DRC_HAMMER_LAST ch.val)).toNat % 2 ^ 28 = rank.val * 2 ^ 26 + bg.val * 2 ^ 24 + bank.val * 2 ^ 22 + row := by rw [hnoted.last]; exact hlast
  have hrows := treated_rows (x := g.chan ch.val) (bankKey rank.val bg.val bank.val) row m
  have hbelow := fun h => treated_below (x := g.chan ch.val) (row := row) h (bankKey rank.val bg.val bank.val) m
  have habove := fun h => treated_above (x := g.chan ch.val) (row := row) h (bankKey rank.val bg.val bank.val) m
  rw [← htchan] at hrows hbelow habove
  exact leads_doneCore hexec ⟨hnoted.bit, hraised, hnoted.counted.of_start (rd_of_regs hregs _), hword, hrows, hbelow, habove, (regsKeep_of_regs hregs).trans hnoted.regs,
    ((hk'.mono (by simp)).trans hnk (by simp)).answered, (congrArg DramSt.mem hdram).trans (hmem'.trans hmem)⟩

/-! ## Migrations -/

/-- Why a migration may start: the spare is free, and the source serves. -/
theorem migrateError_zero (h : s.migrateError c source = 0) (hspare : (s.chan c).spareRank = some k) :
    ((s.chan c).rank k).st = .spare ∧ (((s.chan c).rank source).st = .inService ∨ ((s.chan c).rank source).st = .suspect) := by
  unfold State.migrateError at h
  dsimp only at h
  split at h
  · exact absurd h (by decide)
  · rename_i hfree
    split at h
    · rename_i hsource
      simp only [Channel.spareFree, hspare, Bool.not_eq_true', Bool.not_eq_false, Bool.and_eq_true, beq_iff_eq] at hfree
      simp only [Bool.and_eq_true, Bool.or_eq_true, beq_iff_eq] at hsource
      exact ⟨hfree.1, hsource.2⟩
    · exact absurd h (by decide)
/-- The channel of a migration that starts. -/
def Channel.migrating (x : Channel) (k : Nat) (m : Migration) : Channel :=
  { (x.modRank m.source (fun r => { r with st := .migratingOut })).modRank k (fun r => { r with st := .migratingIn }) with mig := some m }
theorem migrating_ranks {m : Migration} (hspare : (x.rank k).st = .spare) (hsource : (x.rank m.source).st = .inService ∨ (x.rank m.source).st = .suspect) :
    ((x.migrating k m).rank m.source).st = .migratingOut ∧ ((x.migrating k m).rank k).st = .migratingIn := by
  have hne : m.source ≠ k := fun h => by rw [h, hspare] at hsource; exact hsource.elim (fun h => absurd h (by decide)) fun h => absurd h (by decide)
  have hlive : (x.rank m.source).st.live = true := by rcases hsource with h | h <;> rw [h] <;> rfl
  have heq : ∀ j, (x.migrating k m).rank j = ((x.modRank m.source fun r => { r with st := .migratingOut }).modRank k fun r => { r with st := .migratingIn }).rank j := fun _ => rfl
  rw [heq, heq]
  have hout : (x.modRank m.source fun r => { r with st := .migratingOut }).rank m.source = _ := rank_modRank_same (f := fun r => { r with st := .migratingOut }) hlive
  have hkeep : (x.modRank m.source fun r => { r with st := .migratingOut }).rank k = x.rank k := rank_modRank_ne hne.symm
  generalize (x.modRank m.source fun r => { r with st := .migratingOut }) = y at *
  have h1 : (y.modRank k fun r => { r with st := .migratingIn }).rank m.source = y.rank m.source := rank_modRank_ne hne
  have h2 : (y.modRank k fun r => { r with st := .migratingIn }).rank k = { y.rank k with st := .migratingIn } := rank_modRank_same (f := fun r => { r with st := .migratingIn }) (by rw [hkeep, hspare]; rfl)
  exact ⟨(congrArg Rank.st (h1.trans hout) :), (congrArg Rank.st h2 :)⟩
/-- The record of a migration that starts. -/
def State.newMig (s : State) (c source k cause : Nat) (slot : Option Nat) : Migration :=
  { source := source, target := k, cause := cause, copied := 0, wasSuspect := ((s.chan c).rank source).st == .suspect, slot := slot, poisoned := 0, startTick := s.tickLo, done := false, complete := false }
theorem migStart_eq (hspare : (s.chan c).spareRank = some k) (cause : Nat) (slot : Option Nat) : s.migStart c source cause slot =
    (s.setChan c ((s.chan c).migrating k (s.newMig c source k cause slot))).flagRaise (DRC_STAT c) 6 78 := by
  unfold State.migStart
  rw [hspare]
  rfl
theorem migrateError_of_dram (h : t.dram = s.dram) (c rank : Nat) : t.migrateError c rank = s.migrateError c rank := by
  unfold State.migrateError
  rw [chan_of_dram h]
theorem exec_migrate {slot : Fin 16} {ch : Fin 2} (hqueued : (s.slot slot.val).st = .queued) (hkind : (s.slot slot.val).kind = 5) (hfree : s.engineFree slot.val = true) (hrun : s.dram.frozen = false)
    (hch : ch.val = fld ((s.slot slot.val).arg 0) 0 0) (herr : s.migrateError ch.val (fld ((s.slot slot.val).arg 0) 2 1) = 0) :
    exec (.migrate slot) s = doneCore s ((s.jobBegin slot.val).migStart ch.val (fld ((s.slot slot.val).arg 0) 2 1) 4 (some slot.val)) := by
  have hbegin := jobBegin_slot (s := s) slot.val
  have hdram : (s.jobBegin slot.val).dram = s.dram := (jobBegin_keeps slot.val).part (p := .dram) (by simp)
  show execMigrate slot s = _
  unfold execMigrate
  rw [jobTryBegin_free hqueued hfree]
  generalize s.jobBegin slot.val = b at *
  have hruns : b.runsJob slot.val 5 = true := by
    rw [State.runsJob, hbegin]
    dsimp only
    rw [hkind]
    rfl
  have harg : (b.slot slot.val).arg 0 = (s.slot slot.val).arg 0 := by rw [hbegin]; rfl
  dsimp only
  rw [if_pos hruns, harg, ← hch, if_neg (by rw [hdram, hrun]; decide), migrateError_of_dram hdram, if_neg (not_not_intro herr)]
theorem stat_evt : ∀ c : Fin 2, evtReg (DRC_STAT c.val) = false := by decide
theorem leads_migrate {slot : Fin 16} {ch : Fin 2} (hqueued : (s.slot slot.val).st = .queued) (hkind : (s.slot slot.val).kind = 5) (hfree : s.engineFree slot.val = true) (hrun : s.dram.frozen = false)
    (hch : ch.val = fld ((s.slot slot.val).arg 0) 0 0) (herr : s.migrateError ch.val (fld ((s.slot slot.val).arg 0) 2 1) = 0) (hspare : (s.chan ch.val).spareRank = some k) :
    leads (.migrate slot) s (fun t => (t.slot slot.val).st = .running ∧ ((t.chan ch.val).rank (fld ((s.slot slot.val).arg 0) 2 1)).st = .migratingOut ∧
      ((t.chan ch.val).rank k).st = .migratingIn ∧ t.bit (DRC_STAT ch.val) 6 = true ∧ raised 78 s t ∧
      (t.chan ch.val).copying.map (fun x => (x.source, x.target, x.cause, x.copied, x.slot)) = some (fld ((s.slot slot.val).arg 0) 2 1, k, 4, 0, some slot.val) ∧
      regsKeep [DRC_STAT ch.val] s t ∧ keeps [.regs, .out, .mon, .sys, .jobs, .mem, .dram] s t ∧ t.dram.mem = s.dram.mem) := by
  have hexec := exec_migrate hqueued hkind hfree hrun hch herr
  obtain ⟨hfreeRank, hsource⟩ := migrateError_zero herr hspare
  have hbegin := congrArg JobSlot.st (jobBegin_slot (s := s) slot.val)
  have hk := jobBegin_keeps (s := s) slot.val
  generalize fld ((s.slot slot.val).arg 0) 2 1 = source at *
  generalize s.jobBegin slot.val = b at *
  have hdram : b.dram = s.dram := hk.part (p := .dram) (by simp)
  have hchan := chan_of_dram hdram ch.val
  rw [migStart_eq (by rw [hchan]; exact hspare), hchan] at hexec
  have hranks := migrating_ranks (x := s.chan ch.val) (m := b.newMig ch.val source k 4 (some slot.val)) hfreeRank hsource
  have hcopy : (((s.chan ch.val).migrating k (b.newMig ch.val source k 4 (some slot.val))).copying.map fun x => (x.source, x.target, x.cause, x.copied, x.slot)) = some (source, k, 4, 0, some slot.val) := rfl
  rw [show (b.newMig ch.val source k 4 (some slot.val)).source = source from rfl] at hranks
  generalize (s.chan ch.val).migrating k (b.newMig ch.val source k 4 (some slot.val)) = y at *
  have hset := chan_setChan_same b ch.val y
  have hmem : (b.setChan ch.val y).dram.mem = b.dram.mem := (congrArg DramSt.mem (setChan_channels (s := b) ch.val y) :)
  have hk' : keeps [.jobs, .mem, .dram] s (b.setChan ch.val y) := (hk.mono (by simp)).trans (setChan_keeps ..) (by simp)
  have hjobs : (b.setChan ch.val y).jobs = b.jobs := rfl
  generalize b.setChan ch.val y = g at *
  have hnoted := (hk'.quiet (by simp) (by simp)).noted (b := DRC_STAT ch.val) (i := 6) (stat_evt ch) (by decide) 78
  have hkeep := hnoted.keeps (hk'.mono (qs := [.regs, .out, .mon, .sys, .jobs, .mem, .dram]) (by simp)) (by simp)
  generalize g.flagRaise (DRC_STAT ch.val) 6 78 = t at *
  have hdram' : t.dram = g.dram := hnoted.only.keeps.part (p := .dram) (by simp)
  have htchan : t.chan ch.val = y := (chan_of_dram hdram' _).trans hset
  have hst : (t.slot slot.val).st = .running := (congrArg JobSlot.st (slot_of_jobs ((hnoted.only.keeps.part (p := .jobs) (by simp)).trans hjobs) slot.val)).trans hbegin
  rw [← htchan] at hranks hcopy
  exact leads_doneCore hexec ⟨hst, hranks.1, hranks.2, hnoted.bit, hnoted.raised, hcopy, hnoted.regs, hkeep.answered, (congrArg DramSt.mem hdram').trans (hmem.trans (congrArg DramSt.mem hdram))⟩

/-- The last line has been copied. -/
theorem leads_migrationComplete {ch : Fin 2} {m : Migration} (hcopy : (s.chan ch.val).copying = some m) (hslot : m.slot = none) (hn : n = s.rankPoison ch.val m.source m.copied 16384) :
    leads (.migrationComplete ch) s (fun t => (t.chan ch.val) = { s.chan ch.val with mig := some { m with copied := 16384, poisoned := m.poisoned + n, done := true } } ∧
      counted (DRC_MIG_POISON ch.val) n s t ∧ (∀ c : Fin 2, c ≠ ch → t.chan c.val = s.chan c.val) ∧ t.dram.mem = s.dram.mem ∧ regsOnly [DRC_MIG_POISON ch.val] s t ∧ keeps [.regs, .dram] s t) := by
  have hexec : exec (.migrationComplete ch) s = doneCore s ((s.modChan ch.val fun x => { x with mig := some { m with copied := 16384, poisoned := m.poisoned + n, done := true } }).count (DRC_MIG_POISON ch.val) n) := by
    show execMigrationComplete ch s = _
    unfold execMigrationComplete State.migCopied
    rw [hcopy]
    dsimp only
    rw [hslot, hn]
  have hchan := chan_modChan_same s ch.val fun x => { x with mig := some { m with copied := 16384, poisoned := m.poisoned + n, done := true } }
  have hother : ∀ c : Fin 2, c ≠ ch → (s.modChan ch.val fun x => { x with mig := some { m with copied := 16384, poisoned := m.poisoned + n, done := true } }).chan c.val = s.chan c.val := fun c hc => chan_other hc
  have hmem := modChan_mem (s := s) ch.val fun x => { x with mig := some { m with copied := 16384, poisoned := m.poisoned + n, done := true } }
  have hk := modChan_keeps (s := s) ch.val fun x => { x with mig := some { m with copied := 16384, poisoned := m.poisoned + n, done := true } }
  generalize s.modChan ch.val (fun x => { x with mig := some { m with copied := 16384, poisoned := m.poisoned + n, done := true } }) = g at *
  have hregs : g.regs = s.regs := hk.part (p := .regs) (by simp)
  exact leads_doneCore hexec ⟨hchan, counted_count (rd_of_regs hregs _), hother, hmem, (regsOnly_of_regs hregs).count (by simp), ((hk.mono (by simp)).count (by simp)).answered⟩

/-- The channel after the remap of a migration. -/
def Channel.remapped (x : Channel) (m : Migration) : Channel :=
  { (x.modRank m.source (fun r => { r with st := .retired, owed := 0 })).modRank m.target (fun r => { r with st := .inService }) with
    rankMap := x.rankMap.map (fun k => if k = m.source then m.target else k), spareUsed := true, mig := some { m with complete := true }, migLast := migWord { m with complete := true } 2 }
theorem remapped_ranks {m : Migration} (hsource : m.source < x.ranks.length) (htarget : m.target < x.ranks.length) (hne : m.source ≠ m.target) :
    (x.remapped m).rank m.source = { x.rank m.source with st := .retired, owed := 0 } ∧ ((x.remapped m).rank m.target).st = .inService := by
  have heq : ∀ j, (x.remapped m).rank j = ((x.modRank m.source fun r => { r with st := .retired, owed := 0 }).modRank m.target fun r => { r with st := .inService }).rank j := fun _ => rfl
  rw [heq, heq]
  have hout : (x.modRank m.source fun r => { r with st := .retired, owed := 0 }).rank m.source = { x.rank m.source with st := .retired, owed := 0 } := nth_setNth_same hsource
  have hlen : m.target < (x.modRank m.source fun r => { r with st := .retired, owed := 0 }).ranks.length := by
    rw [Channel.modRank, setNth_eq_set, List.length_set]
    exact htarget
  generalize (x.modRank m.source fun r => { r with st := .retired, owed := 0 }) = y at *
  have h1 : (y.modRank m.target fun r => { r with st := .inService }).rank m.source = y.rank m.source := rank_modRank_ne hne
  have h2 : (y.modRank m.target fun r => { r with st := .inService }).rank m.target = { y.rank m.target with st := .inService } := nth_setNth_same hlen
  exact ⟨h1.trans hout, (congrArg Rank.st h2 :)⟩
theorem migRemap_eq {m : Migration} (hcopy : (s.chan c).copying = some m) (hdone : m.done = true) (hslot : m.slot = none) :
    s.migRemap c = ((s.setChan c ((s.chan c).remapped m)).hist c 8 m.source 0 0 14 0 false).flagRaise (DRC_STAT c) 6 78 := by
  unfold State.migRemap
  rw [hcopy]
  dsimp only
  rw [if_pos hdone]
  unfold State.migComplete
  dsimp only
  split
  · rename_i j hj
    exact absurd (hslot.symm.trans hj) (by simp)
  · rfl

/-- Settles O41: an alert by `parityHit_noted`, the freeze by `dramFreeze_froze`, and each migration by what it makes of its channel. -/
theorem dramFaultsAndMigration : Obligations.DramFaultsAndMigration := by
  intro s ch rank bg bank row slot m k hit
  refine ⟨fun hretry h => leads_parityRetried hretry h, fun hpersist hrun hpair => leads_commandError hpersist hrun hpair, fun hfrozen hcmd => exec_dramParity_frozen hfrozen hcmd, fun hwin => ?_, fun hwin => ?_,
    fun hrow hen huntreated => leads_rowHammer hrow hen huntreated, fun hqueued hkind hfree hrun hch herr hspare => leads_migrate hqueued hkind hfree hrun hch herr hspare,
    fun hcopy hslot hk => leads_migrationComplete hcopy hslot hk, fun hcopy hdone hslot hsource htarget hne => ?_⟩
  · exact congrArg (doneCore s) (if_neg hwin)
  · exact congrArg (doneCore s) (if_pos hwin)
  · rw [migRemap_eq hcopy hdone hslot]
    obtain ⟨hretired, hserves⟩ := remapped_ranks hsource htarget hne
    have hmap : ((s.chan ch.val).remapped m).rankMap = (s.chan ch.val).rankMap.map fun j => if j = m.source then m.target else j := rfl
    have hused : ((s.chan ch.val).remapped m).spareUsed = true := rfl
    have hnone : ((s.chan ch.val).remapped m).copying = none := rfl
    generalize (s.chan ch.val).remapped m = y at *
    have hset := chan_setChan_same s ch.val y
    have hmem : (s.setChan ch.val y).dram.mem = s.dram.mem := (congrArg DramSt.mem (setChan_channels (s := s) ch.val y) :)
    have hk := setChan_keeps (s := s) ch.val y
    generalize s.setChan ch.val y = g at *
    have hhist : HistOnly g (g.hist ch.val 8 m.source 0 0 14 0 false) := hist_only ..
    generalize g.hist ch.val 8 m.source 0 0 14 0 false = u at *
    have hku : keeps [.dram] s u := hk.trans hhist.keeps fun _ => id
    have hnoted := (hku.quiet (by simp) (by simp)).noted (b := DRC_STAT ch.val) (i := 6) (stat_evt ch) (by decide) 78
    have hkeep := hnoted.keeps (hku.mono (qs := [.regs, .out, .mon, .sys, .dram]) (by simp)) (by simp)
    generalize u.flagRaise (DRC_STAT ch.val) 6 78 = t at *
    have hdram : t.dram = u.dram := hnoted.only.keeps.part (p := .dram) (by simp)
    have hchan : t.chan ch.val = { y with hist := (u.chan ch.val).hist } := by rw [chan_of_dram hdram, hhist.chan, hset]
    rw [hchan]
    exact ⟨hretired, hserves, hmap, hused, hnone, hnoted.bit, hnoted.raised, hnoted.regs, hkeep, (congrArg DramSt.mem hdram).trans (hhist.mem.trans hmem)⟩

end Sys2Proof.Machine
end

section
/-! SUPPORT. The bits of STR_HQ_TX_PROD that no field names: a write leaves them (R12). -/

namespace Sys2Proof.Machine

/-- A running module with bit 12 of STR_HQ_TX_PROD set, which no field names. -/
def heldTxProd : State :=
  { State.reset with regs := [(STR_HQ_TX_PROD, 0x1000)], sys := { State.reset.sys with answering := true, hostLink := true } }

/-- Refutes O34: a write of STR_HQ_TX_PROD leaves the register's bits above its field as they stand (R12), so in a state that holds one of them at 1 the register does not
read the value's field alone afterwards. No write sets such a bit, but the statement is about every state. -/
theorem not_netPackets : ¬ Obligations.NetPackets := by
  unfold Obligations.NetPackets
  intro h
  obtain ⟨-, -, -, -, -, -, -, -, -, -, -, t, hexec, hprod, -⟩ := h heldTxProd 0 [] [] [] [] [] [] 0 0 0 0 0 false (heldTxProd.str 0) (heldTxProd.str 0) 5 (by decide +kernel) rfl rfl
  cases Host.Outcome.next.inj hexec
  exact absurd hprod (by decide +kernel)

end Sys2Proof.Machine
end

section
/-! SUPPORT. Network ports: their enable and the changes of their link (R287, R289, R290). -/

namespace Sys2Proof.Machine

variable {s t u g : State} {p : Fin 4} {n m : NetPort} {as : List Nat} {ps : List Part} {v : W32} {pins : LinkPins} {speed : Nat} {up : Bool}

/-! ## A port's record -/

theorem modNetPort_keeps (p : Nat) (f : NetPort → NetPort) : keeps [.net] s (s.modNetPort p f) := by simp [keeps_iff, State.modNetPort]
theorem modNetPort_sameBut {p : Nat} {f : NetPort → NetPort} : sameBut [p] netPortInit s.net.ports (s.modNetPort p f).net.ports :=
  fun _ ha => spGet_spPut_ne _ _ _ fun h => ha (by simp [h])
theorem sameBut_trans {α : Type} {as : List Nat} {d : α} {m n o : Sparse α} (h : sameBut as d m n) (h' : sameBut as d n o) : sameBut as d m o := fun a ha => (h' a ha).trans (h a ha)

/-! ## A change of the link -/

/-- The count, flag and event of a change of the link (R289). -/
def State.linkReport (s : State) (p : Nat) : State := (s.count (NET_LINK_CHANGES p) 1).flagRaise (NET_STAT p) 0 56
/-- A link that is down carries nothing. -/
def NetPort.down (n : NetPort) (speed : Nat) : NetPort := { n with up := false, speed := speed, an := false, fec := false }
theorem linkSet_down (hup : (s.netPort p.val).up = true) (speed : Nat) : s.linkSet p.val false speed = (s.modNetPort p.val (·.down speed)).linkReport p.val :=
  if_neg (by rw [hup]; decide)
theorem linkSet_stays_down (hup : (s.netPort p.val).up = false) (speed : Nat) : s.linkSet p.val false speed = s.modNetPort p.val (·.down speed) := if_pos hup
/-- What auto-negotiation gives a link that comes up (R310). -/
def State.negotiates (s : State) (p : Nat) : Bool := s.netType p == 1 || (s.bit (NET_CFG p) 3 && (s.netType p == 3 || s.netType p == 4))
theorem linkSet_up (hup : (s.netPort p.val).up = false) (speed : Nat) : s.linkSet p.val true speed =
    (s.modNetPort p.val fun n => { n with up := true, speed := speed, an := s.negotiates p.val, fec := s.netType p.val == 1 && s.bit (NET_CFG p.val) 4 }).linkReport p.val :=
  if_neg (by rw [hup]; decide)
theorem net_regs : ∀ p : Fin 4, evtReg (NET_CTL p.val) = false ∧ evtReg (NET_STAT p.val) = false ∧ evtReg (NET_LINK_CHANGES p.val) = false ∧
    NET_LINK_CHANGES p.val ≠ NET_STAT p.val ∧ NET_CTL p.val ∉ [NET_LINK_CHANGES p.val, NET_STAT p.val] := by decide
/-- What the report of a change leaves of the state that holds the changed port. -/
structure LinkNoted (as : List Nat) (p : Fin 4) (n : NetPort) (s u t : State) : Prop where
  port : t.netPort p.val = n
  same : sameBut [p.val] netPortInit s.net.ports t.net.ports
  counted : counted (NET_LINK_CHANGES p.val) 1 s t
  bit : t.bit (NET_STAT p.val) 0 = true
  raised : raised 56 s t
  regs : regsKeep (NET_LINK_CHANGES p.val :: NET_STAT p.val :: as) s t
  rest : regsKeep [NET_LINK_CHANGES p.val, NET_STAT p.val] u t
  keeps : keeps [.regs, .out, .mon, .sys, .net] s t
theorem linkReport_noted (hk : keeps [.regs, .net] s u) (hregs : regsOnly as s u) (hmem : NET_LINK_CHANGES p.val ∉ as) (hport : u.netPort p.val = n)
    (hsame : sameBut [p.val] netPortInit s.net.ports u.net.ports) : LinkNoted as p n s u (u.linkReport p.val) := by
  obtain ⟨-, hstat, hchanges, hne, -⟩ := net_regs p
  have hrep := (hk.quietBut (by simp) hregs).reported (a := NET_LINK_CHANGES p.val) (b := NET_STAT p.val) (i := 0) hchanges hstat hne (by decide) hmem 1 56
  have hkeep := hrep.keeps (hk.mono (qs := [.regs, .out, .mon, .sys, .net]) (by simp)) (by simp)
  have hrest : regsKeep [NET_LINK_CHANGES p.val, NET_STAT p.val] u (u.linkReport p.val) := ((regsKeep.refl _ u).count (by simp)).flagRaise (by simp)
  have hnet : (u.linkReport p.val).net = u.net := hrep.only.keeps.part (p := .net) (by simp)
  exact ⟨(netPort_of_net hnet _).trans hport, by rw [hnet]; exact hsame, hrep.counted, hrep.bit, hrep.raised, hrep.regs, hrest, hkeep⟩

/-! ## The enable of a port -/

theorem exec_netEnable (hup : s.hostUp = true) (h : s.netCtl p.val v = t) : exec (.netEnable p v) s = doneCore s t := congrArg (doneCore s) ((byHost_up hup _).trans h)
theorem netBad_of (h : 5 ≤ s.netType p.val ∨ (s.bit (NET_CFG p.val) 4 = true ∧ s.netType p.val ≠ 1) ∨ s.bit (NET_MAC_HI p.val) 8 = true) : s.netBad p.val = true := by
  unfold State.netBad
  rcases h with h | ⟨h, hne⟩ | h
  · simp [h]
  · simp [h, hne]
  · rw [show bitOf (s.rd (NET_MAC_HI p.val)) 8 = true from h]
    simp
theorem netCtl_on (hv : bitOf v 0 = true) (hoff : s.netOn p.val = false) (hgood : s.netBad p.val = false) : s.netCtl p.val v = (s.wr (NET_CTL p.val) 1).emit (.txDis p.val false) := by
  unfold State.netCtl
  rw [if_pos hv, if_neg (by simp [hoff]), if_neg (by simp [hgood])]
theorem netCtl_bad (hv : bitOf v 0 = true) (hoff : s.netOn p.val = false) (hbad : s.netBad p.val = true) : s.netCtl p.val v = s.flagRaise (NET_STAT p.val) 4 65 := by
  unfold State.netCtl
  rw [if_pos hv, if_neg (by simp [hoff]), if_pos hbad]
theorem netCtl_off (hv : bitOf v 0 = false) : s.netCtl p.val v = if s.netOn p.val then ((s.wr (NET_CTL p.val) 0).linkSet p.val false 0).emit (.txDis p.val true) else (s.wr (NET_CTL p.val) 0).linkSet p.val false 0 := by
  unfold State.netCtl
  rw [if_neg (by simp [hv])]
theorem leads_netEnable_on (hup : s.hostUp = true) (hv : bitOf v 0 = true) (hoff : s.netOn p.val = false) (hgood : s.netBad p.val = false) :
    leads (.netEnable p v) s (fun t => t.rd (NET_CTL p.val) = 1 ∧ t.out = s.out ++ [.txDis p.val false] ∧ regsOnly [NET_CTL p.val] s t ∧ keeps [.regs, .out] s t) :=
  leads_doneCore (exec_netEnable hup (netCtl_on hv hoff hgood)) ⟨rd_wr_same .., rfl, (regsOnly.refl _ s).wr (by simp),
    (((keeps.refl [.regs, .out] s).wr (by simp)).trans (emit_keeps _) (by simp)).answered⟩
theorem leads_netEnable_bad (hup : s.hostUp = true) (hv : bitOf v 0 = true) (hoff : s.netOn p.val = false) (hbad : s.netBad p.val = true) :
    leads (.netEnable p v) s (fun t => s.netBad p.val = true ∧ t.rd (NET_CTL p.val) = s.rd (NET_CTL p.val) ∧ t.bit (NET_STAT p.val) 4 = true ∧ raised 65 s t ∧ regsKeep [NET_STAT p.val] s t ∧ evtOnly s t) := by
  obtain ⟨hctl, hstat, -, -, hmem⟩ := net_regs p
  have hnoted := (Quiet.refl s).noted (b := NET_STAT p.val) (i := 4) hstat (by decide) 65
  have hexec := exec_netEnable hup (netCtl_bad hv hoff hbad)
  generalize s.flagRaise (NET_STAT p.val) 4 65 = t at *
  exact leads_doneCore hexec ⟨hbad, hnoted.regs _ (fun h => hmem (List.mem_cons_of_mem _ h)) hctl, hnoted.bit, hnoted.raised, hnoted.regs, (hnoted.only.answered_self rfl rfl rfl).symm ▸ hnoted.only⟩
theorem leads_netEnable_off (hup : s.hostUp = true) (hport : s.netPort p.val = n) (hv : bitOf v 0 = false) (hlink : n.up = true) :
    leads (.netEnable p v) s (fun t => t.rd (NET_CTL p.val) = 0 ∧ t.netPort p.val = { n with up := false, speed := 0, an := false, fec := false } ∧ counted (NET_LINK_CHANGES p.val) 1 s t ∧
      t.bit (NET_STAT p.val) 0 = true ∧ raised 56 s t ∧ sameBut [p.val] netPortInit s.net.ports t.net.ports ∧ regsKeep [NET_CTL p.val, NET_LINK_CHANGES p.val, NET_STAT p.val] s t ∧
      keeps [.regs, .out, .mon, .sys, .net] s t) := by
  obtain ⟨hctl, -, -, -, hmem⟩ := net_regs p
  have hexec := exec_netEnable (p := p) hup (netCtl_off hv)
  rw [linkSet_down (s := s.wr (NET_CTL p.val) 0) (by rw [← hport] at hlink; exact hlink)] at hexec
  have hk : keeps [.regs, .net] s ((s.wr (NET_CTL p.val) 0).modNetPort p.val (·.down 0)) := ((keeps.refl [.regs, .net] s).wr (by simp)).trans (modNetPort_keeps ..) (by simp)
  have hregs : regsOnly [NET_CTL p.val] s ((s.wr (NET_CTL p.val) 0).modNetPort p.val (·.down 0)) := ((regsOnly.refl [NET_CTL p.val] s).wr (by simp)).of_regs rfl
  have hzero : ((s.wr (NET_CTL p.val) 0).modNetPort p.val (·.down 0)).rd (NET_CTL p.val) = 0 := rd_wr_same ..
  have hnoted := linkReport_noted (p := p) (n := n.down 0) hk hregs (fun h => hmem (by simp [← List.mem_singleton.mp h])) ((netPort_modNetPort_same ..).trans (congrArg (·.down 0) hport)) modNetPort_sameBut
  generalize (s.wr (NET_CTL p.val) 0).modNetPort p.val (·.down 0) = u at *
  generalize u.linkReport p.val = r at *
  have hlast : keeps [.out] r (if s.netOn p.val then r.emit (.txDis p.val true) else r) := by
    split
    · exact emit_keeps _
    · exact keeps.refl _ r
  generalize (if s.netOn p.val then r.emit (.txDis p.val true) else r) = t at *
  have hregs' : t.regs = r.regs := hlast.part (p := .regs) (by simp)
  have hnet : t.net = r.net := hlast.part (p := .net) (by simp)
  exact leads_doneCore hexec ⟨(rd_of_regs hregs' _).trans ((hnoted.rest _ hmem hctl).trans hzero), (netPort_of_net hnet _).trans hnoted.port, hnoted.counted.of_rd (rd_of_regs hregs' _),
    (bit_of_rd (rd_of_regs hregs' _)).trans hnoted.bit, hnoted.raised.of_regs hregs', show sameBut [p.val] netPortInit s.net.ports t.net.ports by rw [hnet]; exact hnoted.same,
    (hnoted.regs.of_regs hregs').mono (by simp), (hnoted.keeps.trans hlast (by simp)).answered⟩
theorem leads_netEnable_stays_down (hup : s.hostUp = true) (hport : s.netPort p.val = n) (hv : bitOf v 0 = false) (hlink : n.up = false) (hon : s.netOn p.val = true) :
    leads (.netEnable p v) s (fun t => t.rd (NET_CTL p.val) = 0 ∧ t.out = s.out ++ [.txDis p.val true] ∧ t.netPort p.val = { n with speed := 0, an := false, fec := false } ∧
      sameBut [p.val] netPortInit s.net.ports t.net.ports ∧ regsOnly [NET_CTL p.val] s t ∧ keeps [.regs, .out, .net] s t) := by
  have hexec := exec_netEnable (p := p) hup (netCtl_off hv)
  rw [if_pos hon, linkSet_stays_down (s := s.wr (NET_CTL p.val) 0) (by rw [← hport] at hlink; exact hlink)] at hexec
  have hdown : n.down 0 = { n with speed := 0, an := false, fec := false } := by
    rw [NetPort.down, ← hlink]
  have hk : keeps [.regs, .out, .net] s (((s.wr (NET_CTL p.val) 0).modNetPort p.val (·.down 0)).emit (.txDis p.val true)) :=
    (((keeps.refl [.regs, .out, .net] s).wr (by simp)).trans (modNetPort_keeps ..) (by simp)).trans (emit_keeps _) (by simp)
  have hrecord : ((s.wr (NET_CTL p.val) 0).modNetPort p.val (·.down 0)).netPort p.val = { n with speed := 0, an := false, fec := false } :=
    (netPort_modNetPort_same (s.wr (NET_CTL p.val) 0) p.val (·.down 0)).trans ((congrArg (NetPort.down · 0) hport).trans hdown)
  have hsame : sameBut [p.val] netPortInit s.net.ports ((s.wr (NET_CTL p.val) 0).modNetPort p.val (·.down 0)).net.ports := modNetPort_sameBut (s := s.wr (NET_CTL p.val) 0)
  exact leads_doneCore hexec ⟨rd_wr_same .., rfl, hrecord, hsame, (regsOnly.refl [NET_CTL p.val] s).wr (by simp), hk.answered⟩

/-! ## The link's pins -/

/-- The port with the pins that a change of the link shows. -/
def State.pinned (s : State) (p : Nat) (pins : LinkPins) : State := s.modNetPort p (fun n => { n with los := pins.los, modAbs := pins.modAbs })
theorem pinned_port (hport : s.netPort p.val = n) (pins : LinkPins) : (s.pinned p.val pins).netPort p.val = { n with los := pins.los, modAbs := pins.modAbs } := by
  rw [← hport]
  exact netPort_modNetPort_same ..
theorem pinned_sameBut (pins : LinkPins) : sameBut [p.val] netPortInit s.net.ports (s.pinned p.val pins).net.ports := modNetPort_sameBut
theorem exec_netLink_off (hoff : s.netOn p.val = false) (up : Bool) : exec (.netLink p up pins) s = doneCore s (s.pinned p.val pins) := by
  have hg : (s.pinned p.val pins).netOn p.val = false := hoff
  exact congrArg (doneCore s) (if_pos (c := (!(s.pinned p.val pins).netOn p.val || (s.pinned p.val pins).domFailed 7) = true) (by rw [hg]; rfl))
/-- What a change of the link brings at a port that is on and powered, by the port's type. -/
def State.linkBrought (s : State) (p : Nat) (up : Bool) (speed : Nat) : State :=
  if !up then s.linkSet p false 0
  else match s.netType p with
    | 4 => if speed = 5 then ((s.linkSet p false 5).flag (NET_STAT p) 3).raise 56 else s.linkSet p true (if speed = 1 then 1 else 2)
    | 3 => s.linkSet p true 2
    | 2 => s.linkSet p true 3
    | _ => s.linkSet p true 4
theorem exec_netLink_on (hon : s.netOn p.val = true) (hpower : s.domFailed 7 = false) (up : Bool) : exec (.netLink p up pins) s = doneCore s ((s.pinned p.val pins).linkBrought p.val up pins.speed) := by
  have hg : (s.pinned p.val pins).netOn p.val = true := hon
  have hd : (s.pinned p.val pins).domFailed 7 = false := hpower
  exact congrArg (doneCore s) (if_neg (c := (!(s.pinned p.val pins).netOn p.val || (s.pinned p.val pins).domFailed 7) = true) (by rw [hg, hd]; decide))
theorem negotiates_copper (h : s.netType p.val < 2) : s.negotiates p.val = (s.netType p.val == 1) := by
  rw [State.negotiates, beq_eq_false_iff_ne.mpr (show s.netType p.val ≠ 3 by omega), beq_eq_false_iff_ne.mpr (show s.netType p.val ≠ 4 by omega)]
  simp
theorem linkBrought_copper (h : s.netType p.val < 2) (speed : Nat) : s.linkBrought p.val true speed = s.linkSet p.val true 4 := by
  unfold State.linkBrought
  rw [if_neg (by decide)]
  rcases (by omega : s.netType p.val = 0 ∨ s.netType p.val = 1) with h | h <;> rw [h] <;> rfl
theorem leads_netLink_off (hport : s.netPort p.val = n) (hoff : s.netOn p.val = false) (up : Bool) : leads (.netLink p up pins) s (fun t =>
    t.netPort p.val = { n with los := pins.los, modAbs := pins.modAbs } ∧ sameBut [p.val] netPortInit s.net.ports t.net.ports ∧ keeps [.net] s t) :=
  leads_doneCore (exec_netLink_off hoff up) ⟨pinned_port hport pins, pinned_sameBut pins, (modNetPort_keeps ..).answered⟩
/-- The link comes up or goes down: the port's record, and the report of the change. -/
theorem leads_linkReport {i : Instr} {f : NetPort → NetPort} (hport : s.netPort p.val = n) (hexec : exec i s = doneCore s (((s.pinned p.val pins).modNetPort p.val f).linkReport p.val)) :
    leads i s (fun t => t.netPort p.val = f { n with los := pins.los, modAbs := pins.modAbs } ∧ counted (NET_LINK_CHANGES p.val) 1 s t ∧ t.bit (NET_STAT p.val) 0 = true ∧ raised 56 s t ∧
      sameBut [p.val] netPortInit s.net.ports t.net.ports ∧ regsKeep [NET_LINK_CHANGES p.val, NET_STAT p.val] s t ∧ keeps [.regs, .out, .mon, .sys, .net] s t) := by
  have hk : keeps [.regs, .net] s ((s.pinned p.val pins).modNetPort p.val f) := ((modNetPort_keeps (s := s) ..).trans (modNetPort_keeps ..) fun _ => id).mono (by simp)
  have hnoted := linkReport_noted (p := p) (as := []) hk (regsOnly_of_regs rfl) (by simp) ((netPort_modNetPort_same ..).trans (congrArg f (pinned_port hport pins)))
    (sameBut_trans (modNetPort_sameBut (s := s)) modNetPort_sameBut)
  generalize ((s.pinned p.val pins).modNetPort p.val f).linkReport p.val = t at *
  exact leads_doneCore hexec ⟨hnoted.port, hnoted.counted, hnoted.bit, hnoted.raised, hnoted.same, hnoted.regs, hnoted.keeps.answered⟩
theorem leads_netLink_up (hport : s.netPort p.val = n) (hon : s.netOn p.val = true) (hpower : s.domFailed 7 = false) (htype : s.netType p.val < 2) (hlink : n.up = false) :
    leads (.netLink p true pins) s (fun t => t.netPort p.val = { n with los := pins.los, modAbs := pins.modAbs, up := true, speed := 4, an := s.netType p.val == 1, fec := s.netType p.val == 1 && s.bit (NET_CFG p.val) 4 } ∧
      counted (NET_LINK_CHANGES p.val) 1 s t ∧ t.bit (NET_STAT p.val) 0 = true ∧ raised 56 s t ∧ sameBut [p.val] netPortInit s.net.ports t.net.ports ∧
      regsKeep [NET_LINK_CHANGES p.val, NET_STAT p.val] s t ∧ keeps [.regs, .out, .mon, .sys, .net] s t) := by
  have hexec := exec_netLink_on (pins := pins) hon hpower true
  rw [linkBrought_copper (s := s.pinned p.val pins) htype, linkSet_up (s := s.pinned p.val pins) (by rw [pinned_port hport]; exact hlink), negotiates_copper (s := s.pinned p.val pins) htype] at hexec
  exact leads_linkReport hport hexec
theorem leads_netLink_down (hport : s.netPort p.val = n) (hon : s.netOn p.val = true) (hpower : s.domFailed 7 = false) (hlink : n.up = true) :
    leads (.netLink p false pins) s (fun t => t.netPort p.val = { n with los := pins.los, modAbs := pins.modAbs, up := false, speed := 0, an := false, fec := false } ∧
      counted (NET_LINK_CHANGES p.val) 1 s t ∧ t.bit (NET_STAT p.val) 0 = true ∧ raised 56 s t ∧ sameBut [p.val] netPortInit s.net.ports t.net.ports ∧
      regsKeep [NET_LINK_CHANGES p.val, NET_STAT p.val] s t ∧ keeps [.regs, .out, .mon, .sys, .net] s t) := by
  have hexec := exec_netLink_on (pins := pins) hon hpower false
  rw [State.linkBrought, if_pos (by decide), linkSet_down (s := s.pinned p.val pins) (by rw [pinned_port hport]; exact hlink)] at hexec
  exact leads_linkReport hport hexec
/-- A copper port of type 4 that the link partner answers at a speed the port does not carry. -/
theorem leads_netLink_refused (hport : s.netPort p.val = n) (hon : s.netOn p.val = true) (hpower : s.domFailed 7 = false) (htype : s.netType p.val = 4) (hspeed : pins.speed = 5) (hlink : n.up = false) :
    leads (.netLink p true pins) s (fun t => t.netPort p.val = { n with los := pins.los, modAbs := pins.modAbs, up := false, speed := 5, an := false, fec := false } ∧
      t.bit (NET_STAT p.val) 3 = true ∧ raised 56 s t ∧ sameBut [p.val] netPortInit s.net.ports t.net.ports ∧ regsKeep [NET_STAT p.val] s t ∧ keeps [.regs, .out, .mon, .sys, .net] s t) := by
  have hexec := exec_netLink_on (pins := pins) hon hpower true
  have hg : (s.pinned p.val pins).netType p.val = 4 := htype
  rw [State.linkBrought, if_neg (by decide), hg] at hexec
  rw [if_pos hspeed, linkSet_stays_down (s := s.pinned p.val pins) (by rw [pinned_port hport]; exact hlink)] at hexec
  have hexec : exec (.netLink p true pins) s = doneCore s (((s.pinned p.val pins).modNetPort p.val (·.down 5)).flagRaise (NET_STAT p.val) 3 56) := hexec
  obtain ⟨-, hstat, -, -, -⟩ := net_regs p
  have hk : keeps [.net] s ((s.pinned p.val pins).modNetPort p.val (·.down 5)) := (modNetPort_keeps (s := s) ..).trans (modNetPort_keeps ..) fun _ => id
  have hrecord : ((s.pinned p.val pins).modNetPort p.val (·.down 5)).netPort p.val = NetPort.down { n with los := pins.los, modAbs := pins.modAbs } 5 := (netPort_modNetPort_same ..).trans (congrArg (·.down 5) (pinned_port hport pins))
  have hsame : sameBut [p.val] netPortInit s.net.ports ((s.pinned p.val pins).modNetPort p.val (·.down 5)).net.ports := sameBut_trans (modNetPort_sameBut (s := s)) modNetPort_sameBut
  generalize (s.pinned p.val pins).modNetPort p.val (·.down 5) = u at *
  have hnoted := (hk.quiet (by simp) (by simp)).noted (b := NET_STAT p.val) (i := 3) hstat (by decide) 56
  have hkeep := hnoted.keeps (hk.mono (qs := [.regs, .out, .mon, .sys, .net]) (by simp)) (by simp)
  generalize u.flagRaise (NET_STAT p.val) 3 56 = t at *
  have hnet : t.net = u.net := hnoted.only.keeps.part (p := .net) (by simp)
  exact leads_doneCore hexec ⟨(netPort_of_net hnet _).trans hrecord, hnoted.bit, hnoted.raised, show sameBut [p.val] netPortInit s.net.ports t.net.ports by rw [hnet]; exact hsame, hnoted.regs, hkeep.answered⟩

end Sys2Proof.Machine
end

section
/-! PROOF. Streams: their operations at a boundary, loss, margins and membership (R291, R293, R298, R300, R303). -/

namespace Sys2Proof.Machine

variable {s t u : State} {p : Fin 4} {n : NetPort} {k e : Nat} {v : W32} {x y : Stream} {d : List W32} {q : GroupQuery} {qs : List GroupQuery}

/-! ## A stream's record -/

theorem setStr_keeps (k : Nat) (x : Stream) : keeps [.net] s (s.setStr k x) := by simp [keeps_iff, State.setStr]
theorem setStr_sameBut : sameBut [k] strInit s.net.streams (s.setStr k x).net.streams := fun _ ha => spGet_spPut_ne _ _ _ fun h => ha (by simp [h])
/-- The event of a stream (R308). -/
structure StrNoted (k e : Nat) (s u t : State) : Prop where
  last : t.rd STR_LAST_EV = w32 (k % 1024 + k / 1024 * 32768 + e * 65536)
  raised : raised e s t
  regs : regsKeep [STR_LAST_EV] u t
  only : evtOnly u t
theorem strRaise_noted (hfit : u.fit = s.fit) (hans : u.sys.answering = s.sys.answering) (k e : Nat) : StrNoted k e s u (u.strRaise k e) :=
  ⟨(raise_rd _ e rfl).trans (rd_wr_same ..), raised_raise (t := u.strMark k e) hfit hans, ((regsKeep.refl _ u).wr (by simp)).raise, (evtOnly_wr _ _ _).trans (raise_only _ e)⟩
theorem rx_event (hk : k < 1024) (e : Nat) : w32 (k % 1024 + k / 1024 * 32768 + e * 65536) = w32 (k + e * 65536) := by
  rw [Nat.mod_eq_of_lt hk, Nat.div_eq_of_lt hk, Nat.zero_mul, Nat.add_zero]

/-! ## The operations of STR_APPLY -/

/-- The boundary has taken the writes. -/
def State.applied (s : State) : State := { s with net := { s.net with applies := [] } }
theorem strApplies_one (h : s.net.applies = [v]) : s.strApplies = (s.strApply v).applied := by
  unfold State.strApplies
  rw [h]
  rfl
theorem strApply_load (h : fld v 17 16 = 0) : s.strApply v = s.strLoad v := by
  rw [State.strApply, h]
  rfl
theorem strApply_enable (h : fld v 17 16 = 1) : s.strApply v = s.strEnable v := by
  rw [State.strApply, h]
  rfl
theorem strApply_disable (h : fld v 17 16 = 2) : s.strApply v = s.strDisable v := by
  rw [State.strApply, h]
  rfl
theorem strApply_clear (h : fld v 17 16 = 3) : s.strApply v = s.strClear v := by
  rw [State.strApply, h]
  rfl
theorem applyBad_false (hk : k = applyKey v) (hzero : v &&& 0xFFFC7C00 = 0) (hchans : (s.strChans k).isSome = true) : s.applyBad v = false := by
  rw [State.applyBad, ← hk, Bool.or_eq_false_iff]
  exact ⟨by rw [hzero]; rfl, by simpa [Option.isSome_iff_ne_none] using hchans⟩
/-- What the change of one stream's record leaves, with what an operation sends besides. -/
structure StrSet (k : Nat) (x : Stream) (s t : State) : Prop where
  str : t.str k = x
  same : sameBut [k] strInit s.net.streams t.net.streams
  net : t.net = { s.net with streams := t.net.streams, applies := [] }
theorem applied_set (hnet : t.net = (s.setStr k x).net) : StrSet k x s t.applied := by
  have hstr : t.str k = (s.setStr k x).str k := by rw [State.str, hnet]; rfl
  have happlied : t.applied.net = { t.net with applies := [] } := rfl
  exact ⟨hstr.trans (str_setStr_same ..), fun a ha => by rw [happlied, hnet]; exact setStr_sameBut a ha, by rw [happlied, hnet]; rfl⟩
theorem applied_keeps : keeps [.net] s s.applied := by simp [keeps_iff, State.applied]
theorem applied_setStr (k : Nat) (x : Stream) : StrSet k x s (s.setStr k x).applied ∧ keeps [.net] s (s.setStr k x).applied :=
  ⟨applied_set rfl, (setStr_keeps k x).trans applied_keeps fun _ => id⟩
/-- What a refused operation leaves (R293). -/
structure StrRefused (k : Nat) (s t : State) : Prop where
  bit : t.bit STR_STAT 0 = true
  last : t.rd STR_LAST_EV = w32 (k % 1024 + k / 1024 * 32768 + 65 * 65536)
  raised : raised 65 s t
  net : t.net = { s.net with applies := [] }
  regs : regsKeep [STR_STAT, STR_LAST_EV] s t
  keeps : keeps [.regs, .out, .mon, .sys, .net] s t
theorem strRefuse_refused (k : Nat) : StrRefused k s (s.strRefuse k).applied := by
  have hnoted := strRaise_noted (s := s) (u := s.flag STR_STAT 0) rfl rfl k 65
  have hbit : (s.strRefuse k).bit STR_STAT 0 = true := (bit_of_rd (hnoted.regs _ (by decide) rfl)).trans (bit_flag_self (by decide))
  have hregs : regsKeep [STR_STAT, STR_LAST_EV] s (s.strRefuse k) := ((regsKeep.refl _ s).flag (by simp)).trans (hnoted.regs.mono (by simp))
  have honly : evtOnly s (s.strRefuse k) := (evtOnly_wr _ _ _).trans hnoted.only
  have hlast : (s.strRefuse k).rd STR_LAST_EV = _ := hnoted.last
  have hraised : Machine.raised 65 s (s.strRefuse k) := hnoted.raised
  generalize s.strRefuse k = t at *
  have hnet : t.net = s.net := honly.keeps.part (p := .net) (by simp)
  exact ⟨hbit, hlast, hraised.of_regs rfl, congrArg (fun n : NetSt => { n with applies := [] }) hnet, hregs.of_regs rfl, (honly.keeps.mono (by simp)).trans applied_keeps (by simp)⟩
theorem strLoad_refused (hk : k = applyKey v) (hwhy : v &&& 0xFFFC7C00 ≠ 0 ∨ s.strChans k = none ∨ (s.str k).on = true) : s.strLoad v = s.strRefuse k := by
  unfold State.strLoad State.applyBad
  dsimp only
  have hbad : (v &&& 0xFFFC7C00 != 0 || (s.strChans k).isNone || (s.str k).on || descBad (decide (1024 ≤ k)) ((upFrom 0 16).map fun i => s.rd (STR_D i))) = true := by
    simp only [Bool.or_eq_true]
    rcases hwhy with h | h | h
    · exact .inl (.inl (.inl (bne_iff_ne.mpr h)))
    · exact .inl (.inl (.inr (by rw [h]; rfl)))
    · exact .inl (.inr h)
  rw [← hk, if_pos hbad]
theorem strLoad_taken (hk : k = applyKey v) (hgood : s.applyBad v = false) (hoff : (s.str k).on = false) (hd : d = (upFrom 0 16).map fun j => s.rd (STR_D j)) (hdesc : descBad (decide (1024 ≤ k)) d = false) :
    s.strLoad v = s.setStr k { s.str k with desc := d } := by
  unfold State.strLoad
  dsimp only
  rw [← hk, ← hd, if_neg (by rw [hgood, hoff, hdesc]; decide)]
  rfl
theorem strEnable_tx (hk : k = applyKey v) (hgood : s.applyBad v = false) (htx : 1024 ≤ k) (hdesc : descBad true (s.str k).desc = false) (hroom : s.txBad k = false) :
    s.strEnable v = s.setStr k { s.str k with st := .run } := by
  unfold State.strEnable
  dsimp only
  rw [← hk, decide_eq_true htx, if_neg (by rw [hgood, hdesc]; decide), if_pos htx, if_neg (by rw [hroom]; decide)]
  rfl
/-- A receive stream as its ENABLE leaves it. -/
def Stream.opened (x : Stream) : Stream :=
  { x with st := .waiting, legA := false, legB := false, lostA := false, lostB := false, arrA := false, arrB := false, lateA := false, lateB := false, quietA := 0, quietB := 0, quiet := 0, jitter := [], seen := [] }
theorem strEnable_rx (hk : k = applyKey v) (hgood : s.applyBad v = false) (hrx : k < 1024) (hdesc : descBad false (s.str k).desc = false)
    (hfree : ∀ j ∈ s.rxKeys, (s.str j).on = true → (s.str j).admitKey ≠ (s.str k).admitKey) : s.strEnable v = (s.setStr k (s.str k).opened).reports (s.str k) false := by
  have hnone : (s.rxKeys.any fun j => (s.str j).on && (s.str j).admitKey == (s.str k).admitKey) = false :=
    List.any_eq_false.mpr fun j hj => by
      rw [Bool.and_eq_true, beq_iff_eq]
      exact fun h => hfree j hj h.1 h.2
  unfold State.strEnable
  dsimp only
  rw [← hk, decide_eq_false (Nat.not_le.mpr hrx), if_neg (by rw [hgood, hdesc]; decide), if_neg (Nat.not_le.mpr hrx), if_neg (by rw [hnone]; decide)]
  rfl
/-- A stream as its DISABLE leaves it. -/
def Stream.closed (x : Stream) : Stream := { x with st := .off, legA := false, legB := false, jitter := [], seen := [] }
theorem strDisable_rx (hk : k = applyKey v) (hgood : s.applyBad v = false) (hrx : k < 1024) (hon : (s.str k).on = true) : s.strDisable v = (s.setStr k (s.str k).closed).reports (s.str k) true := by
  unfold State.strDisable
  dsimp only
  rw [← hk, if_neg (by rw [hgood, hon]; decide), if_pos hrx]
  rfl
theorem strDisable_refused (hk : k = applyKey v) (hoff : (s.str k).on = false) : s.strDisable v = s.strRefuse k := by
  unfold State.strDisable
  dsimp only
  rw [← hk, if_pos (by rw [hoff]; simp)]
/-- A stream as CLEAR leaves it. -/
def Stream.cleared (x : Stream) : Stream := { x with pkts := 0, late := 0, early := 0, dup := 0, pad := 0, malf := 0, guard := 0, diverge := 0 }
theorem strClear_taken (hk : k = applyKey v) (hgood : s.applyBad v = false) : s.strClear v = s.setStr k (s.str k).cleared := by
  unfold State.strClear
  dsimp only
  rw [← hk, if_neg (by rw [hgood]; decide)]
  rfl

/-! ## Membership reports -/

theorem report_unicast (h : multicast x.v6 x.dst = false) (p : Nat) (leave : Bool) : s.report p x leave = s := if_neg (by simp [h])
theorem reports_unicast (h : multicast x.v6 x.dst = false) (leave : Bool) : s.reports x leave = s := by
  unfold State.reports
  induction x.ports with
  | nil => rfl
  | cons p ps ih =>
    rw [foldS, report_unicast h]
    exact ih
theorem report_sent (hon : s.netOn p.val = true) (higmp : s.netIgmp p.val = true) (hmulti : multicast x.v6 x.dst = true) (hv3 : (s.netPort p.val).v2Left = 0) (leave : Bool) :
    s.report p.val x leave = s.portSend p.val (.igmp p.val [x.dst ++ x.src] leave) := by
  unfold State.report
  rw [if_pos (by simp [hon, higmp, hmulti]), if_neg (by simp [hv3])]
theorem reports_one (hports : x.ports = [p.val]) (leave : Bool) : s.reports x leave = s.report p.val x leave := by
  unfold State.reports
  rw [hports]
  rfl
theorem sent_keeps (p : Nat) (o : Out) : keeps [.regs, .out] s ((s.emit o).count (NET_TX_FRAMES p) 1) := ((emit_keeps o).mono (by simp)).count (by simp)

/-! ## Loss and margins -/

theorem bitOf_eq (w : W32) (i : Nat) : bitOf w i = decide (w.toNat / 2 ^ i % 2 = 1) := Nat.testBit_eq_decide_div_mod_eq
theorem usesLeg_both (h : x.legs = 3) (b : Bool) : x.usesLeg b = true := by
  have hlegs : (x.d 0).toNat / 2 ^ 0 % 2 ^ 2 = 3 := h
  rw [Stream.usesLeg, bitOf_eq]
  cases b
  · exact decide_eq_true (show (x.d 0).toNat / 2 ^ 0 % 2 = 1 by omega)
  · exact decide_eq_true (show (x.d 0).toNat / 2 ^ 1 % 2 = 1 by omega)
theorem exec_streamLost (hk : k < 1024) (hon : (s.str k).on = true) : exec (.streamLost k) s = doneCore s
    (s.strJudge k (if (s.str k).arrA then 0 else (s.str k).quietA + 1) (if (s.str k).arrB then 0 else (s.str k).quietB + 1) (if (s.str k).arrA || (s.str k).arrB then 0 else (s.str k).quiet + 1)) :=
  congrArg (doneCore s) (if_pos ⟨hk, hon⟩)
/-- Both legs are silent for the timeout: the stream is lost, and its legs are as they are judged. -/
theorem strJudge_lost {qa qb q : Nat} (hon : (s.str k).on = true) (hst : (s.str k).st ≠ .lost) (hq : (s.str k).timeout ≤ q) : ∃ y, s.strJudge k qa qb q = ((s.setStr k y).setStr k { y with st := .lost, legA := false, legB := false }).strRaise k 57 ∧
    y.pkts = (s.str k).pkts := by
  unfold State.strJudge
  dsimp only
  rw [if_pos (by simp [hon, hst, hq])]
  exact ⟨_, rfl, rfl⟩
/-- Leg A is silent for the timeout while leg B carries the stream. -/
theorem strJudge_legA {qa : Nat} (hrun : (s.str k).st = .run) (hlegs : (s.str k).legs = 3) (hleg : (s.str k).legB = true) (hheard : (s.str k).lostA = false) (hqa : (s.str k).timeout ≤ qa) (ht : 1 ≤ (s.str k).timeout) :
    s.strJudge k qa 0 0 = (s.setStr k { s.str k with lostA := true, legA := false }).strRaise k 59 := by
  have hgoneA : ((s.str k).usesLeg false && !(s.str k).lostA && decide ((s.str k).timeout ≤ qa)) = true := by simp [usesLeg_both hlegs, hheard, hqa]
  have hgoneB : ((s.str k).usesLeg true && !(s.str k).lostB && decide ((s.str k).timeout ≤ 0)) = false := by
    rw [decide_eq_false (by omega)]
    simp
  unfold State.strJudge
  dsimp only
  rw [hgoneA, hgoneB, hlegs, decide_eq_false (show ¬(s.str k).timeout ≤ 0 by omega), if_neg (by simp), if_pos (by rw [hrun, hleg]; rfl)]
  simp only [Bool.or_true, Bool.or_false, Bool.not_true, Bool.and_false, Bool.not_false, Bool.and_true]

/-- The margins that a window's end reports. -/
def Stream.margined (x : Stream) : Stream := { x with marMin := x.mMin, marMax := x.mMax, mMin := none, mMax := none }
theorem spGet_map {α : Type} (f : α → α) (d : α) (hd : f d = d) (m : Sparse α) (k : Nat) : spGet d (m.map fun q => (q.1, f q.2)) k = f (spGet d m k) := by
  induction m with
  | nil => exact hd.symm
  | cons q m ih =>
    obtain ⟨j, v⟩ := q
    rw [List.map_cons, spGet, spGet]
    split
    · rfl
    · exact ih

/-! ## The commands -/

theorem leads_applyOp {i : Instr} {op : Nat} (hup : s.hostUp = true) (hexec : exec i s = doneCore s (s.applyOp op v)) :
    leads i s (fun t => t.net = { s.net with applies := s.net.applies ++ [putFld v 17 16 op] } ∧ keeps [.net] s t) := by
  rw [show s.applyOp op v = s.applyWrite (putFld v 17 16 op) from byHost_up hup _] at hexec
  exact leads_doneCore hexec ⟨rfl, keeps.answered (t := s.applyWrite (putFld v 17 16 op)) (by simp [keeps_iff, State.applyWrite])⟩
/-- An operation on a stream's record whose report is sent. -/
theorem applied_sent (hport : s.netPort p.val = n) (hlink : n.up = true) (o : Out) : StrSet k x s ((s.setStr k x).portSend p.val o).applied ∧ ((s.setStr k x).portSend p.val o).applied.out = s.out ++ [o] ∧
    counted (NET_TX_FRAMES p.val) 1 s ((s.setStr k x).portSend p.val o).applied ∧ regsOnly [NET_TX_FRAMES p.val] s ((s.setStr k x).portSend p.val o).applied ∧
    keeps [.regs, .out, .net] s ((s.setStr k x).portSend p.val o).applied := by
  rw [portSend_up (s := s.setStr k x) (by rw [← hport] at hlink; exact hlink)]
  have hk : keeps [.regs, .out, .net] s (((s.setStr k x).emit o).count (NET_TX_FRAMES p.val) 1) := ((setStr_keeps k x).mono (by simp)).trans (sent_keeps _ o) (by simp)
  exact ⟨applied_set rfl, rfl, (counted_count (s := s) (t := (s.setStr k x).emit o) rfl), (regsOnly.refl [NET_TX_FRAMES p.val] s).count (by simp), hk.trans applied_keeps (by simp)⟩
theorem applied_discarded (hport : s.netPort p.val = n) (hlink : n.up = false) (o : Out) : StrSet k x s ((s.setStr k x).portSend p.val o).applied ∧
    counted (NET_TX_DISCARD p.val) 1 s ((s.setStr k x).portSend p.val o).applied ∧ regsOnly [NET_TX_DISCARD p.val] s ((s.setStr k x).portSend p.val o).applied ∧
    keeps [.regs, .net] s ((s.setStr k x).portSend p.val o).applied := by
  rw [portSend_down (s := s.setStr k x) (by rw [← hport] at hlink; exact hlink)]
  have hk : keeps [.regs, .net] s ((s.setStr k x).count (NET_TX_DISCARD p.val) 1) := ((setStr_keeps k x).mono (by simp)).count (by simp)
  exact ⟨applied_set rfl, (counted_count (s := s) (t := s.setStr k x) rfl), (regsOnly.refl [NET_TX_DISCARD p.val] s).count (by simp), hk.trans applied_keeps (by simp)⟩
/-- A change of a receive stream's record with its event. -/
structure StrEvented (k e : Nat) (y : Stream) (s t : State) : Prop where
  str : t.str k = y
  last : t.rd STR_LAST_EV = w32 (k + e * 65536)
  raised : raised e s t
  same : sameBut [k] strInit s.net.streams t.net.streams
  regs : regsKeep [STR_LAST_EV] s t
  keeps : keeps [.regs, .out, .mon, .sys, .net] s t
theorem strRaise_evented (hk : k < 1024) (hkeep : keeps [.net] s u) (hstr : u.str k = y) (hsame : sameBut [k] strInit s.net.streams u.net.streams) (e : Nat) : StrEvented k e y s (u.strRaise k e) := by
  have hnoted := strRaise_noted (s := s) (u := u) hkeep.2.1 (congrArg SysSt.answering (hkeep.part (p := .sys) (by simp))) k e
  have hall := (hkeep.mono (qs := [.regs, .out, .mon, .sys, .net]) (by simp)).trans hnoted.only.keeps (by simp)
  have hnet : (u.strRaise k e).net = u.net := hnoted.only.keeps.part (p := .net) (by simp)
  exact ⟨(show (u.strRaise k e).str k = u.str k by rw [State.str, hnet]; rfl).trans hstr, hnoted.last.trans (rx_event hk e), hnoted.raised, by rw [hnet]; exact hsame,
    (regsKeep_of_regs (hkeep.part (p := .regs) (by simp))).trans hnoted.regs, hall⟩
theorem leads_streamLost (hx : s.str k = x) (hk : k < 1024) (hrun : x.st = .run) (ha : x.arrA = false) (hb : x.arrB = false) (hq : x.timeout ≤ x.quiet + 1) :
    leads (.streamLost k) s (fun t => (t.str k).st = .lost ∧ (t.str k).legA = false ∧ (t.str k).legB = false ∧ (t.str k).pkts = x.pkts ∧ t.rd STR_LAST_EV = w32 (k + 57 * 65536) ∧ raised 57 s t ∧
      sameBut [k] strInit s.net.streams t.net.streams ∧ regsKeep [STR_LAST_EV] s t ∧ keeps [.regs, .out, .mon, .sys, .net] s t) := by
  subst hx
  have hon : (s.str k).on = true := by rw [Stream.on, hrun]; rfl
  have hexec := exec_streamLost hk hon
  rw [ha, hb] at hexec
  obtain ⟨y, heq, hpkts⟩ := strJudge_lost (s := s) (k := k) (qa := (s.str k).quietA + 1) (qb := (s.str k).quietB + 1) (q := (s.str k).quiet + 1) hon (by rw [hrun]; decide) hq
  have hexec : exec (.streamLost k) s = doneCore s (((s.setStr k y).setStr k { y with st := .lost, legA := false, legB := false }).strRaise k 57) := hexec.trans (congrArg (doneCore s) heq)
  have h := strRaise_evented (s := s) hk ((setStr_keeps (s := s) k y).trans (setStr_keeps ..) fun _ => id) (str_setStr_same (s := s.setStr k y) k { y with st := .lost, legA := false, legB := false })
    (sameBut_trans (setStr_sameBut (s := s)) setStr_sameBut) 57
  generalize ((s.setStr k y).setStr k { y with st := .lost, legA := false, legB := false }).strRaise k 57 = t at *
  exact leads_doneCore hexec ⟨(congrArg Stream.st h.str :), (congrArg Stream.legA h.str :), (congrArg Stream.legB h.str :), (congrArg Stream.pkts h.str).trans hpkts, h.last, h.raised, h.same, h.regs, h.keeps.answered⟩
theorem leads_streamLegLost (hx : s.str k = x) (hk : k < 1024) (hrun : x.st = .run) (hlegs : x.legs = 3) (ha : x.arrA = false) (hb : x.arrB = true) (hleg : x.legB = true) (hheard : x.lostA = false)
    (hq : x.timeout ≤ x.quietA + 1) (ht : 1 ≤ x.timeout) : leads (.streamLost k) s (fun t => t.str k = { x with lostA := true, legA := false } ∧ t.rd STR_LAST_EV = w32 (k + 59 * 65536) ∧ raised 59 s t ∧
      sameBut [k] strInit s.net.streams t.net.streams ∧ regsKeep [STR_LAST_EV] s t ∧ keeps [.regs, .out, .mon, .sys, .net] s t) := by
  subst hx
  have hon : (s.str k).on = true := by rw [Stream.on, hrun]; rfl
  have hexec := exec_streamLost hk hon
  rw [ha, hb] at hexec
  have hexec : exec (.streamLost k) s = doneCore s ((s.setStr k { s.str k with lostA := true, legA := false }).strRaise k 59) :=
    hexec.trans (congrArg (doneCore s) (strJudge_legA hrun hlegs hleg hheard hq ht))
  have h := strRaise_evented (s := s) hk (setStr_keeps k { s.str k with lostA := true, legA := false }) (str_setStr_same ..) setStr_sameBut 59
  generalize (s.setStr k { s.str k with lostA := true, legA := false }).strRaise k 59 = t at *
  exact leads_doneCore hexec ⟨h.str, h.last, h.raised, h.same, h.regs, h.keeps.answered⟩
theorem leads_marginEnd (hx : s.str k = x) (hticks : s.net.marginTicks = 2999) : leads .streamMarginWindowEnd s (fun t =>
    t.str k = { x with marMin := x.mMin, marMax := x.mMax, mMin := none, mMax := none } ∧ t.net = { s.net with marginTicks := 3000, streams := t.net.streams } ∧ keeps [.net] s t) := by
  subst hx
  have hexec : exec .streamMarginWindowEnd s = doneCore s { s.marginEnd with net := { s.marginEnd.net with marginTicks := 3000 } } := congrArg (doneCore s) (if_pos hticks)
  have hstr : spGet strInit (s.net.streams.map fun q => (q.1, q.2.margined)) k = (s.str k).margined := spGet_map Stream.margined strInit rfl s.net.streams k
  exact leads_doneCore hexec ⟨hstr, rfl, keeps.answered (t := { s.marginEnd with net := { s.marginEnd.net with marginTicks := 3000 } }) (by simp [keeps_iff, State.marginEnd])⟩
theorem leads_membershipReport (hport : s.netPort p.val = n) (hx : s.str k = x) (hqs : n.queries = q :: qs) (hgeneral : q.group.all (· == 0) = true) (hv6 : q.v6 = x.v6) (hstreams : s.portStreams p.val = [k])
    (hon : s.netOn p.val = true) (higmp : s.netIgmp p.val = true) (hv3 : n.v2Left = 0) (hmulti : multicast x.v6 x.dst = true) (hlink : n.up = true) :
    leads (.membershipReport p) s (fun t => t.netPort p.val = { n with queries := qs } ∧ t.out = s.out ++ [.igmp p.val [x.dst ++ x.src] false] ∧ counted (NET_TX_FRAMES p.val) 1 s t ∧
      sameBut [p.val] netPortInit s.net.ports t.net.ports ∧ t.net = { s.net with ports := t.net.ports } ∧ regsOnly [NET_TX_FRAMES p.val] s t ∧ keeps [.regs, .out, .net] s t) := by
  subst hx
  have hrecord : (s.modNetPort p.val fun n => { n with queries := qs }).netPort p.val = { n with queries := qs } := (netPort_modNetPort_same ..).trans (by rw [hport])
  have hsame : sameBut [p.val] netPortInit s.net.ports (s.modNetPort p.val fun n => { n with queries := qs }).net.ports := modNetPort_sameBut
  have hk := modNetPort_keeps (s := s) p.val fun n => { n with queries := qs }
  have hnet : (s.modNetPort p.val fun n => { n with queries := qs }).net = { s.net with ports := (s.modNetPort p.val fun n => { n with queries := qs }).net.ports } := rfl
  have hexec : exec (.membershipReport p) s = doneCore s ((s.modNetPort p.val fun n => { n with queries := qs }).igmpAnswer p.val q) := by
    show execMembershipReport p s = _
    unfold execMembershipReport
    dsimp only
    rw [hport, hqs]
  have hstreams' : (s.modNetPort p.val fun n => { n with queries := qs }).portStreams p.val = [k] := hstreams
  have hstr : (s.modNetPort p.val fun n => { n with queries := qs }).str k = s.str k := rfl
  have hon' : (s.modNetPort p.val fun n => { n with queries := qs }).netOn p.val = true := hon
  have higmp' : (s.modNetPort p.val fun n => { n with queries := qs }).netIgmp p.val = true := higmp
  generalize s.modNetPort p.val (fun n => { n with queries := qs }) = g at *
  have hanswer : g.igmpAnswer p.val q = (g.emit (.igmp p.val [(s.str k).dst ++ (s.str k).src] false)).count (NET_TX_FRAMES p.val) 1 := by
    rw [State.igmpAnswer, hstreams', foldS, foldS, hstr, if_pos (by rw [hv6, hgeneral]; simp), report_sent hon' higmp' hmulti (by rw [hrecord]; exact hv3), portSend_up (by rw [hrecord]; exact hlink)]
  rw [hanswer] at hexec
  have hregs : g.regs = s.regs := hk.part (p := .regs) (by simp)
  have hout : g.out = s.out := hk.part (p := .out) (by simp)
  exact leads_doneCore hexec ⟨hrecord, congrArg (· ++ _) hout, (counted_count (s := s) (t := g.emit _) (rd_of_regs hregs _)), hsame, hnet,
    (regsOnly_of_regs hregs).count (by simp), ((hk.mono (by simp)).trans (sent_keeps _ _) (by simp)).answered⟩
/-- A command that changes one port's record. -/
theorem leads_modNetPort {i : Instr} {f : NetPort → NetPort} (hexec : exec i s = doneCore s (s.modNetPort p.val f)) : leads i s (fun t => t.netPort p.val = f (s.netPort p.val) ∧
    sameBut [p.val] netPortInit s.net.ports t.net.ports ∧ t.net = { s.net with ports := t.net.ports } ∧ keeps [.net] s t) := by
  have hsame : sameBut [p.val] netPortInit s.net.ports (s.modNetPort p.val f).net.ports := modNetPort_sameBut
  exact leads_doneCore hexec ⟨netPort_modNetPort_same .., hsame, rfl, (modNetPort_keeps ..).answered⟩

/-- Settles O33: each clause by the command's or the operation's case that its premises name. -/
theorem netPortsAndStreams : Obligations.NetPortsAndStreams := by
  intro s p pins v k x n q qs d hup hport hx
  refine ⟨fun hv hoff hgood => leads_netEnable_on hup hv hoff hgood, fun hv hoff hwhy => leads_netEnable_bad hup hv hoff (netBad_of hwhy), fun hv hlink => leads_netEnable_off hup hport hv hlink,
    fun hv hlink hon => leads_netEnable_stays_down hup hport hv hlink hon, fun hon hpower htype hlink => leads_netLink_up hport hon hpower htype hlink,
    fun hon hpower htype hspeed hlink => leads_netLink_refused hport hon hpower htype hspeed hlink, fun hon hpower hlink => leads_netLink_down hport hon hpower hlink, fun hoff => leads_netLink_off hport hoff true,
    ⟨leads_applyOp hup rfl, leads_applyOp hup rfl, leads_applyOp hup rfl, leads_applyOp hup rfl⟩, ?_⟩
  subst hx
  refine ⟨fun happ hk hzero hchans hop hoff hd hdesc => ?_, fun happ hk hop hwhy => ?_, fun happ hk hzero hchans hop hrx hdesc hfree hports hon higmp hv3 hmulti hlink => ?_, fun happ hk hzero hchans hop htx hdesc hroom => ?_,
    fun happ hk hzero hchans hop hon hrx huni => ?_, fun happ hk hzero hchans hop hon hrx hports hnet higmp hv3 hmulti hlink => ?_, fun happ hk hop hoff => ?_, fun happ hk hzero hchans hop => ?_,
    fun hk hrun ha hb hq => leads_streamLost rfl hk hrun ha hb hq, fun hk hrun hlegs ha hb hleg hheard hq ht => leads_streamLegLost rfl hk hrun hlegs ha hb hleg hheard hq ht, leads_marginEnd rfl,
    fun hqs hgeneral hv6 hstreams hon higmp hv3 hmulti hlink => leads_membershipReport hport rfl hqs hgeneral hv6 hstreams hon higmp hv3 hmulti hlink, fun hv2 => ?_, fun hpause => ?_⟩
  · rw [strApplies_one happ, strApply_load hop, strLoad_taken hk (applyBad_false hk hzero hchans) hoff hd hdesc]
    obtain ⟨h, hkeep⟩ := applied_setStr (s := s) k { s.str k with desc := d }
    exact ⟨h.str, h.same, h.net, hkeep⟩
  · rw [strApplies_one happ, strApply_load hop, strLoad_refused hk hwhy]
    have h := strRefuse_refused (s := s) k
    exact ⟨h.bit, h.last, h.raised, h.net, h.regs, h.keeps⟩
  · rw [strApplies_one happ, strApply_enable hop, strEnable_rx hk (applyBad_false hk hzero hchans) hrx hdesc hfree, reports_one hports, report_sent (s := s.setStr k _) hon higmp hmulti (by rw [← hport] at hv3; exact hv3)]
    obtain ⟨h, hout, hcount, hregs, hkeep⟩ := applied_sent (k := k) (x := (s.str k).opened) hport hlink (.igmp p.val [(s.str k).dst ++ (s.str k).src] false)
    exact ⟨h.str, hout, hcount, h.same, h.net, hregs, hkeep⟩
  · rw [strApplies_one happ, strApply_enable hop, strEnable_tx hk (applyBad_false hk hzero hchans) htx hdesc hroom]
    obtain ⟨h, hkeep⟩ := applied_setStr (s := s) k { s.str k with st := .run }
    exact ⟨h.str, h.same, h.net, hkeep⟩
  · rw [strApplies_one happ, strApply_disable hop, strDisable_rx hk (applyBad_false hk hzero hchans) hrx hon, reports_unicast huni]
    obtain ⟨h, hkeep⟩ := applied_setStr (s := s) k (s.str k).closed
    exact ⟨h.str, h.same, h.net, hkeep⟩
  · rw [strApplies_one happ, strApply_disable hop, strDisable_rx hk (applyBad_false hk hzero hchans) hrx hon, reports_one hports, report_sent (s := s.setStr k _) hnet higmp hmulti (by rw [← hport] at hv3; exact hv3)]
    obtain ⟨h, hcount, hregs, hkeep⟩ := applied_discarded (k := k) (x := (s.str k).closed) hport hlink (.igmp p.val [(s.str k).dst ++ (s.str k).src] true)
    exact ⟨h.str, hcount, h.same, h.net, hregs, hkeep⟩
  · rw [strApplies_one happ, strApply_disable hop, strDisable_refused hk hoff]
    have h := strRefuse_refused (s := s) k
    exact ⟨h.net, h.bit, h.raised, h.regs, h.keeps⟩
  · rw [strApplies_one happ, strApply_clear hop, strClear_taken hk (applyBad_false hk hzero hchans)]
    obtain ⟨h, hkeep⟩ := applied_setStr (s := s) k (s.str k).cleared
    exact ⟨h.str, h.same, h.net, hkeep⟩
  · obtain ⟨t, hexec, hrecord, hrest⟩ := leads_modNetPort (p := p) (s := s) (i := .igmpv2QuerierTimeout p) (f := fun n => if n.v2Left ≤ 1 then { n with v2Left := 0 } else n) rfl
    exact ⟨t, hexec, hrecord.trans (by rw [hport]; exact if_pos hv2), hrest⟩
  · obtain ⟨t, hexec, hrecord, hrest⟩ := leads_modNetPort (p := p) (s := s) (i := .pauseExpiry p) (f := fun n => if n.paused ≤ tickBits (s.netSpeed p.val) then { n with paused := 0 } else n) rfl
    exact ⟨t, hexec, hrecord.trans (by rw [hport]; exact if_pos hpause), hrest⟩

end Sys2Proof.Machine
end

section
/-! SUPPORT. The reference inputs: their states, the end of a frequency window, disputes (R268 to R271, R278). -/

namespace Sys2Proof.Machine

variable {s t u : State} {x y : RefIn} {i j k n e : Nat} {f g : Int}

/-! ## One input -/

theorem modRef_keeps (i : Nat) (f : RefIn → RefIn) : keeps [.clk] s (s.modRef i f) := by simp [keeps_iff, State.modRef]
theorem modRef_sameBut {i : Nat} {f : RefIn → RefIn} : sameBut [i] refInit s.clk.refs (s.modRef i f).clk.refs := fun _ ha => spGet_spPut_ne _ _ _ fun h => ha (by simp [h])
theorem modRef_clk_refs (i : Nat) (f : RefIn → RefIn) : (s.modRef i f).clk = { s.clk with refs := (s.modRef i f).clk.refs } := rfl
theorem modClk_keeps (f : ClkSt → ClkSt) : keeps [.clk] s (s.modClk f) := by simp [keeps_iff, State.modClk]
theorem ref_of_refs (h : t.clk.refs = s.clk.refs) (i : Nat) : t.ref i = s.ref i := by rw [State.ref, h]; rfl
theorem clkRaise_only (i e : Nat) : evtOnly s (s.clkRaise i e) := .trans (evtOnly_wr _ _ _) (raise_only _ _)
theorem clkRaise_clk (i e : Nat) : (s.clkRaise i e).clk = s.clk := (clkRaise_only i e).keeps.part (p := .clk) (by simp)
theorem bit_clkRaise_self (hi : i < 32) : (s.clkRaise i e).bit CLK_EVSRC i = true := (bit_raise rfl).trans (bit_flag_self hi)
theorem raised_clkRaise (hfit : t.fit = s.fit) (hans : t.sys.answering = s.sys.answering) : raised e s (t.clkRaise i e) := raised_raise (t := t.flag CLK_EVSRC i) hfit hans
theorem regsKeep.clkRaise {as : List Nat} (h : regsKeep as s t) (hsrc : CLK_EVSRC ∈ as) : regsKeep as s (t.clkRaise i e) := (h.flag hsrc).raise

/-- A change of one input's record. -/
structure RefSet (i : Nat) (x : RefIn) (s t : State) : Prop where
  ref : t.ref i = x
  clk : t.clk = { s.clk with refs := t.clk.refs }
  refs : sameBut [i] refInit s.clk.refs t.clk.refs
  keeps : keeps [.clk] s t
theorem RefSet.refl (h : s.ref i = x) : RefSet i x s s := ⟨h, rfl, fun _ _ => rfl, keeps.refl _ s⟩
theorem RefSet.modRef (h : RefSet i x s t) (m : RefIn → RefIn) : RefSet i (m x) s (t.modRef i m) where
  ref := (ref_modRef_same ..).trans (by rw [h.ref])
  clk := by rw [modRef_clk_refs, h.clk]
  refs := sameBut_trans h.refs modRef_sameBut
  keeps := h.keeps.trans (modRef_keeps i m) fun _ => id
theorem modRef_set (hx : s.ref i = x) (m : RefIn → RefIn) : RefSet i (m x) s (s.modRef i m) := (RefSet.refl hx).modRef m
/-- A change of one input that raises an event of it (R282). -/
structure RefEvent (i e : Nat) (x : RefIn) (s t : State) : Prop where
  ref : t.ref i = x
  raised : raised e s t
  source : t.bit CLK_EVSRC i = true
  clk : t.clk = { s.clk with refs := t.clk.refs }
  refs : sameBut [i] refInit s.clk.refs t.clk.refs
  regs : regsKeep [CLK_EVSRC] s t
  keeps : keeps [.regs, .out, .mon, .sys, .clk] s t
theorem RefSet.event (h : RefSet i x s u) (hi : i < 32) (e : Nat) : RefEvent i e x s (u.clkRaise i e) := by
  have huclk := clkRaise_clk (s := u) i e
  exact ⟨(ref_of_refs (congrArg ClkSt.refs huclk) i).trans h.ref, raised_clkRaise h.keeps.2.1 (congrArg SysSt.answering (h.keeps.part (p := .sys) (by simp))), bit_clkRaise_self hi,
    by rw [huclk]; exact h.clk, by rw [huclk]; exact h.refs, (regsKeep_of_regs (h.keeps.part (p := .regs) (by simp))).clkRaise (by simp), (h.keeps.mono (by simp)).evt (by simp) (clkRaise_only _ _)⟩
theorem RefEvent.modRef (h : RefEvent i e x s t) (m : RefIn → RefIn) : RefEvent i e (m x) s (t.modRef i m) where
  ref := (ref_modRef_same ..).trans (by rw [h.ref])
  raised := h.raised.of_regs rfl
  source := h.source
  clk := by rw [modRef_clk_refs, h.clk]
  refs := sameBut_trans h.refs modRef_sameBut
  regs := h.regs.of_regs rfl
  keeps := h.keeps.trans (modRef_keeps i m) (by simp)

/-! ## Presence, guard time and disqualification (R270) -/

theorem exec_refPresent {i : Fin 6} (hx : s.ref i.val = x) (hwhy : i.val = 1 ∨ i.val = 3 ∨ s.refDerived i.val = true) (hst : x.st = .absent) :
    exec (.refPresent i) s = doneCore s (s.modRef i.val fun x => { x with present := true, winClean := false, hist := [], st := if s.refEn i.val && x.st == .absent then .qualifying else x.st }) := by
  refine congrArg (doneCore s) ((if_pos (by simpa using hwhy)).trans ?_)
  unfold State.refArrive
  dsimp only
  rw [hx, if_neg (by simp [hst])]
theorem refLeave_lost (hx : s.ref i = x) (hi : i < 32) (hen : s.refEn i = true) (hp : x.present = true) :
    RefEvent i 26 { x with present := false, winClean := false, hist := [], fail := if x.fail = 0 then 1 else x.fail } s (s.refLeave i) := by
  have heq : s.refLeave i = ((s.modRef i fun x => { x with present := false, winClean := false, hist := [] }).clkRaise i 26).refMark i 1 := by
    unfold State.refLeave
    dsimp only
    rw [hx, if_pos hp, if_pos hen]
  rw [heq]
  exact ((modRef_set hx fun x => { x with present := false, winClean := false, hist := [] }).event hi 26).modRef fun x => { x with fail := if x.fail = 0 then 1 else x.fail }
theorem refQualify_event (h : RefSet i x s u) (hi : i < 32) : RefEvent i 25 { x with st := .qualified, guardLeft := 0 } s (u.refQualify i) :=
  (h.modRef fun x => { x with st := .qualified, guardLeft := 0 }).event hi 25
theorem refSettle_event (hx : s.ref i = x) (hi : i < 32) (hfail : x.fail = n) (hn : n ≠ 0) (hst : x.st = .qualified) :
    RefEvent i 24 { x with st := .disqualified, reason := n, guardLeft := s.rdF CLK_GUARD 9 0 * 3000 + 1, fail := 0 } s (s.refSettle i) := by
  have heq : s.refSettle i = (((s.modRef i fun x => { x with guardLeft := s.guardTicks + 1 }).modRef i fun x => { x with st := .disqualified, reason := n }).clkRaise i 24).modRef i fun x => { x with fail := 0 } := by
    unfold State.refSettle State.refFail
    dsimp only
    rw [hx, hfail, if_neg hn, hst, if_pos (by rfl), if_pos (by rfl)]
  rw [heq]
  exact ((((modRef_set hx fun x => { x with guardLeft := s.guardTicks + 1 }).modRef fun x => { x with st := .disqualified, reason := n }).event hi 24).modRef fun x => { x with fail := 0 })
theorem guardTick_end (hx : s.ref i = x) (hst : x.st = .disqualified) (hp : x.present = true) (hg : x.guardLeft ≤ 1) : s.guardTick i = s.guardEnd i := by
  unfold State.guardTick
  rw [hx, if_pos (by simp [hst, hp]), if_pos hg]
theorem exec_guardExpiry {i : Fin 6} (hx : s.ref i.val = x) (hst : x.st = .disqualified) (hp : x.present = true) (hg : x.guardLeft ≤ 1) : exec (.guardExpiry i) s = doneCore s (s.guardEnd i.val) :=
  congrArg (doneCore s) ((if_pos (by rw [hx]; exact hg)).trans (guardTick_end hx hst hp hg))
theorem outside_false (h : f.natAbs ≤ s.rdF CLK_FWIN 16 0) : s.outside f = false := decide_eq_false (by omega)
theorem guardEnd_qualifies (hx : s.ref i = x) (hst : x.st = .disqualified) (hp : x.present = true) (hfail : x.fail = 0) (hin : x.freq.natAbs ≤ s.rdF CLK_FWIN 16 0) : s.guardEnd i = s.refQualify i := by
  unfold State.guardEnd
  rw [hx]
  exact if_pos (by rw [hst, hp, hfail, outside_false hin]; rfl)
theorem guardEnd_waits (hx : s.ref i = x) (hwhy : s.rdF CLK_FWIN 16 0 < x.freq.natAbs ∨ x.fail ≠ 0) : s.guardEnd i = s := by
  unfold State.guardEnd
  rw [hx]
  refine if_neg ?_
  rcases hwhy with h | h
  · rw [show s.outside x.freq = true from decide_eq_true h]
    simp
  · rw [beq_eq_false_iff_ne.mpr h]
    simp

/-! ## The end of a frequency window -/

theorem refNums_lt (h : i ∈ refNums) : i < 6 := by
  simp only [refNums, List.mem_cons, List.not_mem_nil, or_false] at h
  omega
theorem mem_refNums (h : i < 6) : i ∈ refNums := by
  simp only [refNums, List.mem_cons, List.not_mem_nil, or_false]
  omega
/-- What the end of a window does for one input: with its frequency, where one is shown. -/
def State.windowOne (s : State) (freqs : List (Nat × Int)) (t : State) (i : Nat) : State :=
  match freqs.find? (fun q => q.1 == i) with
  | some q => t.refWindowEnd q
  | none => if s.refEn i && (s.ref i).present then (t.drawn).refWindowEnd (i, Config.freeInt t.free) else t
/-- The pairs of one rank whose frequencies differ. -/
def State.apartPairs (s : State) : List (Nat × Nat) := s.rankPairs.filter (fun p => s.differ p.1 p.2)
/-- The disputes that a window's end opens and closes. -/
def State.disputed (s : State) : State :=
  let apart := s.apartPairs
  let t := foldS State.dispute (foldS (State.agree apart) s refNums) apart
  foldS (fun u i => u.modRef i (fun x => { x with minority := true })) t (apart.filterMap t.disputeLost)
theorem exec_freqWindowEnd (hwin : s.clk.win = 2999) (hdone : s.clk.winDone = false) (freqs : List (Nat × Int)) :
    exec (.freqWindowEnd freqs) s = doneCore s ((foldS (s.windowOne freqs) s refNums).disputed.modClk fun c => { c with winDone := true }) :=
  congrArg (doneCore s) (if_pos ⟨hwin, hdone⟩)
theorem foldS_single {α : Type} {h : State → α → State} {a : α} {l : List α} (hother : ∀ t, ∀ b ∈ l, b ≠ a → h t b = t) (hmem : a ∈ l) (hnd : l.Nodup) : foldS h s l = h s a := by
  have hnone : ∀ (l : List α) (t : State), (∀ t, ∀ b ∈ l, h t b = t) → foldS h t l = t := fun l => by
    induction l with
    | nil => exact fun _ _ => rfl
    | cons b bs ih =>
      intro t hb
      rw [foldS, hb t b List.mem_cons_self]
      exact ih t fun t c hc => hb t c (List.mem_cons_of_mem _ hc)
  induction l with
  | nil => exact absurd hmem List.not_mem_nil
  | cons b bs ih =>
    obtain ⟨hb, hnd⟩ := List.nodup_cons.mp hnd
    rw [foldS]
    rcases List.mem_cons.mp hmem with rfl | hmem
    · exact hnone bs _ fun t c hc => hother t c (List.mem_cons_of_mem _ hc) fun h => hb (h ▸ hc)
    · rw [hother s b List.mem_cons_self fun h => hb (h ▸ hmem)]
      exact ih (fun t c hc => hother t c (List.mem_cons_of_mem _ hc)) hmem hnd
theorem windowOne_shown (freqs : List (Nat × Int)) (h : freqs.find? (fun q => q.1 == i) = some (i, f)) : s.windowOne freqs t i = t.refWindowEnd (i, f) := by
  unfold State.windowOne
  rw [h]
theorem windowOne_absent {freqs : List (Nat × Int)} (h : freqs.find? (fun q => q.1 == i) = none) (habsent : (s.refEn i && (s.ref i).present) = false) : s.windowOne freqs t i = t := by
  unfold State.windowOne
  rw [h]
  exact if_neg (by rw [habsent]; decide)
theorem window_single (hi : i < 6) (habsent : ∀ k ∈ refNums, k ≠ i → (s.refEn k && (s.ref k).present) = false) (f : Int) : foldS (s.windowOne [(i, f)]) s refNums = s.refWindowEnd (i, f) := by
  rw [foldS_single (a := i) (fun t k hk hne => windowOne_absent (by simp [Ne.symm hne]) (habsent k hk hne)) (mem_refNums hi) (by decide)]
  exact windowOne_shown _ (by simp)
/-- Where no pair is compared and none is disputed, nothing follows. -/
theorem disputed_none (hpairs : s.apartPairs = []) (hquiet : ∀ k ∈ refNums, (s.ref k).disputed = false) : s.disputed = s := by
  have hagree : ∀ l : List Nat, (∀ k ∈ l, (s.ref k).disputed = false) → foldS (State.agree []) s l = s := fun l => by
    induction l with
    | nil => exact fun _ => rfl
    | cons k ks ih =>
      intro hl
      have hk : State.agree [] s k = s := if_neg (by rw [hl k List.mem_cons_self]; simp)
      rw [foldS, hk]
      exact ih fun j hj => hl j (List.mem_cons_of_mem _ hj)
  unfold State.disputed
  dsimp only
  rw [hpairs, hagree refNums hquiet]
  rfl
theorem apartPairs_single (hone : ∀ k ∈ refNums, k ≠ i → (s.ref k).compared = false) : s.apartPairs = [] := by
  refine List.filter_eq_nil_iff.mpr fun p hp => ?_
  obtain ⟨hmem, hp⟩ := List.mem_filter.mp hp
  obtain ⟨a, ha, hmem⟩ := List.mem_flatMap.mp hmem
  obtain ⟨b, hb, rfl⟩ := List.mem_map.mp hmem
  simp only [Bool.and_eq_true, decide_eq_true_eq] at hp
  obtain ⟨⟨⟨hlt, -⟩, h1⟩, h2⟩ := hp
  by_cases hai : a = i
  · rw [hone b hb (by omega)] at h2
    exact absurd h2 (by decide)
  · rw [hone a ha hai] at h1
    exact absurd h1 (by decide)
theorem disputed_single (hone : ∀ k ∈ refNums, k ≠ i → (s.ref k).compared = false) (hx : (s.ref i).disputed = false) : s.disputed = s := by
  refine disputed_none (apartPairs_single hone) fun k hk => ?_
  by_cases hki : k = i
  · rw [hki]
    exact hx
  · exact (Bool.or_eq_false_iff.mp (hone k hk hki)).2

/-! ## One input's window -/

theorem refWindowEnd_outside (hi : i < 6) (hx : s.ref i = x) (hen : s.refEn i = true) (hp : x.present = true) (hst : x.st ≠ .absent) (hout : s.rdF CLK_FWIN 16 0 < f.natAbs) :
    s.refWindowEnd (i, f) = ((s.modRef i fun x => { x with freq := f, winClean := true }).clkRaise i 32).refMark i 3 := by
  unfold State.refWindowEnd
  dsimp only
  rw [hx, if_pos (by simp [hi, hen, hp, hst]), if_pos (show s.outside f = true from decide_eq_true hout)]
theorem refWindowEnd_qualifies (hi : i < 6) (hx : s.ref i = x) (hen : s.refEn i = true) (hp : x.present = true) (hst : x.st = .qualifying) (hclean : x.winClean = true) (hfail : x.fail = 0)
    (hin : f.natAbs ≤ s.rdF CLK_FWIN 16 0) : s.refWindowEnd (i, f) = (s.modRef i fun x => { x with freq := f, winClean := true }).refQualify i := by
  unfold State.refWindowEnd
  dsimp only
  rw [hx, if_pos (by simp [hi, hen, hp, hst]), if_neg (by rw [outside_false hin]; decide), if_pos (by simp [hst, hclean, hfail])]
theorem refWindowEnd_inside (hi : i < 6) (hx : s.ref i = x) (hen : s.refEn i = true) (hp : x.present = true) (hst : x.st ≠ .absent) (hnot : x.st ≠ .qualifying ∨ x.winClean = false)
    (hin : f.natAbs ≤ s.rdF CLK_FWIN 16 0) : s.refWindowEnd (i, f) = s.modRef i fun x => { x with freq := f, winClean := true } := by
  unfold State.refWindowEnd
  dsimp only
  rw [hx, if_pos (by simp [hi, hen, hp, hst]), if_neg (by rw [outside_false hin]; decide), if_neg]
  rcases hnot with h | h <;> simp [h]

/-! ## Windows of several inputs -/

/-- An input with the frequency that a window shows for it, if any. -/
def RefIn.shown (x : RefIn) (o : Option Int) : RefIn :=
  match o with
  | some f => { x with freq := f, winClean := true }
  | none => x
/-- The inputs after the ends of some windows: each with what was shown for it. -/
structure WindowShown (fr : Nat → Option Int) (s t : State) : Prop where
  ref : ∀ k, t.ref k = (s.ref k).shown (fr k)
  clk : t = { s with clk := { s.clk with refs := t.clk.refs } }
/-- What each input of a list of windows is, where nothing but its frequency follows. -/
structure WindowsPlain (fr : Nat → Option Int) (freqs : List (Nat × Int)) (s : State) (k : Nat) : Prop where
  find : freqs.find? (fun q => q.1 == k) = (fr k).map fun f => (k, f)
  none : fr k = none → (s.refEn k && (s.ref k).present) = false
  some : ∀ f, fr k = some f → s.refEn k = true ∧ (s.ref k).present = true ∧ (s.ref k).st = .qualified ∧ f.natAbs ≤ s.rdF CLK_FWIN 16 0
theorem windows_shown (fr : Nat → Option Int) (freqs : List (Nat × Int)) : ∀ (l : List Nat) (t : State) (done : List Nat), l.Nodup → (∀ k ∈ l, k < 6 ∧ k ∉ done ∧ WindowsPlain fr freqs s k) →
    WindowShown (fun k => if k ∈ done then fr k else none) s t → WindowShown (fun k => if k ∈ done ∨ k ∈ l then fr k else none) s (foldS (s.windowOne freqs) t l)
  | [], t, done, _, _, h => by simpa [foldS] using h
  | a :: as, t, done, hnd, hl, h => by
    obtain ⟨ha, hnd⟩ := List.nodup_cons.mp hnd
    obtain ⟨hlt, hnew, hplain⟩ := hl a List.mem_cons_self
    have hta : t.ref a = s.ref a := (h.ref a).trans (by rw [if_neg hnew]; rfl)
    have hstep : WindowShown (fun k => if k ∈ a :: done then fr k else none) s (s.windowOne freqs t a) := by
      cases hfr : fr a with
      | none =>
        rw [windowOne_absent (by rw [hplain.find, hfr]; rfl) (hplain.none hfr)]
        refine ⟨fun k => ?_, h.clk⟩
        rw [h.ref]
        by_cases hka : k = a
        · rw [hka, if_neg hnew, if_pos List.mem_cons_self, hfr]
        · simp only [List.mem_cons, hka, false_or]
      | some f =>
        obtain ⟨hen, hp, hst, hin⟩ := hplain.some f hfr
        have hregs : t.regs = s.regs := by rw [h.clk]
        have hwin : t.refWindowEnd (a, f) = t.modRef a fun x => { x with freq := f, winClean := true } :=
          refWindowEnd_inside hlt hta ((bit_of_rd (rd_of_regs hregs _)).trans hen) hp (by rw [hst]; decide) (.inl (by rw [hst]; decide)) (by rw [State.rdF, rd_of_regs hregs]; exact hin)
        rw [windowOne_shown freqs (by rw [hplain.find, hfr]; rfl), hwin]
        refine ⟨fun k => ?_, ?_⟩
        · by_cases hka : k = a
          · rw [hka, ref_modRef_same, hta, if_pos List.mem_cons_self, hfr]
            rfl
          · rw [ref_modRef_ne _ _ _ hka, h.ref]
            simp only [List.mem_cons, hka, false_or]
        · have hclk := h.clk
          generalize hr : t.clk.refs = r at hclk
          rw [hclk]
          rfl
    have hrest := windows_shown fr freqs as (s.windowOne freqs t a) (a :: done) hnd (fun k hk => ?_) hstep
    · have hsame : (fun k => if k ∈ a :: done ∨ k ∈ as then fr k else none) = fun k => if k ∈ done ∨ k ∈ a :: as then fr k else none := funext fun k => by
        simp only [List.mem_cons, or_assoc, or_left_comm]
      rw [hsame] at hrest
      exact hrest
    · obtain ⟨h1, h2, h3⟩ := hl k (List.mem_cons_of_mem _ hk)
      exact ⟨h1, fun hmem => (List.mem_cons.mp hmem).elim (fun heq => ha (heq ▸ hk)) h2, h3⟩

/-! ## Disputes -/

/-- An input that a dispute names. -/
def RefIn.marked (x : RefIn) (guard : Nat) : RefIn := { x with disputed := true, minority := false, agreeLeft := guard }
theorem allPairs_one : ∀ a b : Fin 6, (refNums.flatMap (fun i => refNums.map (fun j => (i, j)))).filter (fun p => p == (a.val, b.val)) = [(a.val, b.val)] := by decide
/-- The one pair of a rank that differs, where no other two of a rank are compared. -/
theorem apartPairs_pair {a b : Nat} (hab : a < b) (hb : b < 6) (hrank : s.refRank a = s.refRank b) (hca : (s.ref a).compared = true) (hcb : (s.ref b).compared = true) (hdiff : s.differ a b = true)
    (hrest : ∀ c ∈ refNums, (s.ref c).compared = true → c = a ∨ c = b ∨ c = k ∧ s.refRank k ≠ s.refRank a) : s.apartPairs = [(a, b)] := by
  unfold State.apartPairs State.rankPairs
  rw [List.filter_filter, ← allPairs_one ⟨a, by omega⟩ ⟨b, hb⟩]
  refine List.filter_congr fun p hp => ?_
  obtain ⟨c, hc, hp⟩ := List.mem_flatMap.mp hp
  obtain ⟨d, hd, rfl⟩ := List.mem_map.mp hp
  by_cases heq : (c, d) = (a, b)
  · obtain ⟨rfl, rfl⟩ := Prod.mk.inj heq
    simp [hab, hrank, hca, hcb, hdiff]
  · rw [beq_eq_false_iff_ne.mpr heq, Bool.eq_false_iff]
    intro h
    simp only [Bool.and_eq_true, decide_eq_true_eq, beq_iff_eq] at h
    obtain ⟨-, ⟨⟨hlt, hsame⟩, h1⟩, h2⟩ := h
    rcases hrest c hc h1 with rfl | rfl | ⟨rfl, hne⟩
    · rcases hrest d hd h2 with rfl | rfl | ⟨rfl, hne⟩
      · omega
      · exact heq rfl
      · exact hne hsame.symm
    · rcases hrest d hd h2 with rfl | rfl | ⟨rfl, hne⟩
      · omega
      · omega
      · exact hne (hsame.symm.trans hrank.symm)
    · rcases hrest d hd h2 with rfl | rfl | ⟨rfl, -⟩
      · exact hne hsame
      · exact hne (hsame.trans hrank.symm)
      · omega
theorem agrees_none {apart : List (Nat × Nat)} (l : List Nat) (hl : ∀ k ∈ l, (s.ref k).disputed = false ∨ apart.any (fun p => p.1 == k || p.2 == k) = true) : foldS (State.agree apart) s l = s := by
  induction l with
  | nil => rfl
  | cons k ks ih =>
    have hk : State.agree apart s k = s := if_neg (by rcases hl k List.mem_cons_self with h | h <;> simp [h])
    rw [foldS, hk]
    exact ih fun j hj => hl j (List.mem_cons_of_mem _ hj)
theorem disputed_pair {a b : Nat} (hpairs : s.apartPairs = [(a, b)]) (hquiet : ∀ c ∈ refNums, c ≠ a → c ≠ b → (s.ref c).disputed = false) : s.disputed =
    match (s.dispute (a, b)).disputeLost (a, b) with
    | some m => (s.dispute (a, b)).modRef m (fun x => { x with minority := true })
    | none => s.dispute (a, b) := by
  have hagree : foldS (State.agree [(a, b)]) s refNums = s := agrees_none refNums fun c hc => by
    by_cases hca : c = a
    · exact .inr (by simp [hca])
    · by_cases hcb : c = b
      · exact .inr (by simp [hcb])
      · exact .inl (hquiet c hc hca hcb)
  unfold State.disputed
  dsimp only
  rw [hpairs, hagree, foldS, foldS]
  cases h : (s.dispute (a, b)).disputeLost (a, b) with
  | none => rw [List.filterMap_cons_none h]; rfl
  | some m => rw [List.filterMap_cons_some h]; rfl
/-- What a dispute leaves. -/
structure DisputeNoted (a b : Nat) (s u t : State) : Prop where
  first : t.ref a = (u.ref a).marked (s.rdF CLK_GUARD 9 0 * 3000)
  second : t.ref b = (u.ref b).marked (s.rdF CLK_GUARD 9 0 * 3000)
  others : ∀ c, c ≠ a → c ≠ b → t.ref c = u.ref c
  counted : counted CLK_DISPUTES 1 s t
  bit : t.bit CLK_STAT 2 = true
  sources : t.bit CLK_EVSRC a = true ∧ t.bit CLK_EVSRC b = true
  raised : raised 29 s t
  regs : regsKeep [CLK_DISPUTES, CLK_STAT, CLK_EVSRC] s t
  keeps : keeps [.regs, .out, .mon, .sys, .clk] s t
theorem dispute_noted {a b : Nat} (hk : keeps [.clk] s u) (hab : a ≠ b) (ha : a < 32) (hb : b < 32) : DisputeNoted a b s u (u.dispute (a, b)) := by
  have hregs : u.regs = s.regs := hk.part (p := .regs) (by simp)
  have hguard : u.guardTicks = s.rdF CLK_GUARD 9 0 * 3000 := by rw [State.guardTicks, State.rdF, rd_of_regs hregs]; rfl
  have hfirst : ((u.modRef a (·.marked u.guardTicks)).modRef b (·.marked u.guardTicks)).ref a = (u.ref a).marked u.guardTicks := (ref_modRef_ne _ _ _ hab).trans (ref_modRef_same ..)
  have hsecond : ((u.modRef a (·.marked u.guardTicks)).modRef b (·.marked u.guardTicks)).ref b = (u.ref b).marked u.guardTicks :=
    (ref_modRef_same ..).trans (congrArg (RefIn.marked · u.guardTicks) (ref_modRef_ne _ _ _ hab.symm))
  have hothers : ∀ c, c ≠ a → c ≠ b → ((u.modRef a (·.marked u.guardTicks)).modRef b (·.marked u.guardTicks)).ref c = u.ref c := fun c hca hcb => (ref_modRef_ne _ _ _ hcb).trans (ref_modRef_ne _ _ _ hca)
  have hkv : Machine.keeps [.clk] s ((u.modRef a (·.marked u.guardTicks)).modRef b (·.marked u.guardTicks)) := (hk.trans (modRef_keeps ..) fun _ => id).trans (modRef_keeps ..) fun _ => id
  have hregsv : ((u.modRef a (·.marked u.guardTicks)).modRef b (·.marked u.guardTicks)).regs = s.regs := hregs
  have heq : u.dispute (a, b) = ((((u.modRef a (·.marked u.guardTicks)).modRef b (·.marked u.guardTicks)).count CLK_DISPUTES 1).flag CLK_STAT 2 |>.flag CLK_EVSRC a).clkRaise b 29 := rfl
  rw [heq]
  rw [hguard] at *
  generalize (u.modRef a (·.marked (s.rdF CLK_GUARD 9 0 * 3000))).modRef b (·.marked (s.rdF CLK_GUARD 9 0 * 3000)) = v at *
  have hcount : Machine.counted CLK_DISPUTES 1 s ((((v.count CLK_DISPUTES 1).flag CLK_STAT 2).flag CLK_EVSRC a).clkRaise b 29) :=
    counted.flagRaise (((counted_count (rd_of_regs hregsv _)).flag (by decide)).flag (by decide)) (by decide) rfl
  have hbit : ((((v.count CLK_DISPUTES 1).flag CLK_STAT 2).flag CLK_EVSRC a).clkRaise b 29).bit CLK_STAT 2 = true :=
    (bit_raise rfl).trans ((bit_wr_ne _ _ _ (by decide)).trans ((bit_wr_ne _ _ _ (by decide)).trans (bit_flag_self (by decide))))
  have hsrc : ((((v.count CLK_DISPUTES 1).flag CLK_STAT 2).flag CLK_EVSRC a).clkRaise b 29).bit CLK_EVSRC a = true :=
    (bit_raise rfl).trans (bit_flag_mono _ _ ha (bit_flag_self ha))
  have hsrc' : ((((v.count CLK_DISPUTES 1).flag CLK_STAT 2).flag CLK_EVSRC a).clkRaise b 29).bit CLK_EVSRC b = true := bit_clkRaise_self hb
  have hraised : Machine.raised 29 s ((((v.count CLK_DISPUTES 1).flag CLK_STAT 2).flag CLK_EVSRC a).clkRaise b 29) :=
    raised_clkRaise (t := ((v.count CLK_DISPUTES 1).flag CLK_STAT 2).flag CLK_EVSRC a) hkv.2.1 (congrArg SysSt.answering (hkv.part (p := .sys) (by simp)) :)
  have hkeepRegs : regsKeep [CLK_DISPUTES, CLK_STAT, CLK_EVSRC] s ((((v.count CLK_DISPUTES 1).flag CLK_STAT 2).flag CLK_EVSRC a).clkRaise b 29) :=
    regsKeep.clkRaise ((((regsKeep_of_regs hregsv).count (by simp)).flag (by simp)).flag (by simp)) (by simp)
  have hkeep : Machine.keeps [.regs, .out, .mon, .sys, .clk] s ((((v.count CLK_DISPUTES 1).flag CLK_STAT 2).flag CLK_EVSRC a).clkRaise b 29) :=
    ((((hkv.mono (by simp)).count (by simp)).flag (by simp)).flag (by simp)).evt (by simp) (clkRaise_only _ _)
  have hclk : ((((v.count CLK_DISPUTES 1).flag CLK_STAT 2).flag CLK_EVSRC a).clkRaise b 29).clk = v.clk := clkRaise_clk ..
  have href := ref_of_refs (congrArg ClkSt.refs hclk)
  exact ⟨(href a).trans hfirst, (href b).trans hsecond, fun c hca hcb => (href c).trans (hothers c hca hcb), hcount, hbit, ⟨hsrc, hsrc'⟩, hraised, hkeepRegs, hkeep⟩
/-- No third input speaks where none other is qualified. -/
theorem disputeLost_none {a b : Nat} (h : ∀ c ∈ refNums, c ≠ a → c ≠ b → (s.ref c).st ≠ .qualified) : s.disputeLost (a, b) = none := by
  unfold State.disputeLost
  rw [List.find?_eq_none.mpr fun c hc => ?_]
  · rfl
  · by_cases hca : c = a
    · simp [hca]
    · by_cases hcb : c = b
      · simp [hcb]
      · simp [h c hc hca hcb]
/-- The one third input that is qualified names the minority, where it differs from one of the pair alone. -/
theorem disputeLost_third {a b : Nat} (hk6 : k < 6) (hka : k ≠ a) (hkb : k ≠ b) (hst : (s.ref k).st = .qualified) (hnamed : (s.differ k a != s.differ k b) = true)
    (h : ∀ c ∈ refNums, c ≠ a → c ≠ b → c ≠ k → (s.ref c).st ≠ .qualified) : s.disputeLost (a, b) = some (if s.differ k a then a else b) := by
  unfold State.disputeLost
  have hfind : refNums.find? (fun c => c != a && c != b && (s.ref c).st == .qualified && (s.differ c a != s.differ c b)) = some k := by
    cases hf : refNums.find? (fun c => c != a && c != b && (s.ref c).st == .qualified && (s.differ c a != s.differ c b)) with
    | none => exact absurd (by simp [hka, hkb, hst, hnamed]) (List.find?_eq_none.mp hf k (mem_refNums hk6))
    | some c =>
      have hc := List.find?_some hf
      simp only [Bool.and_eq_true, bne_iff_ne, beq_iff_eq] at hc
      obtain ⟨⟨⟨hca, hcb⟩, hcst⟩, -⟩ := hc
      exact congrArg some (Classical.byContradiction fun hck => h c (List.mem_of_find?_eq_some hf) hca hcb hck hcst)
  rw [hfind]
  rfl

end Sys2Proof.Machine
end

section
/-! SUPPORT. The commands of the reference inputs (R268 to R271, R278). -/

namespace Sys2Proof.Machine

variable {s t u : State} {x y : RefIn} {j k n e : Nat} {f g h : Int} {i : Fin 6}

/-- The frequency window has been judged. -/
def State.windowJudged (s : State) : State := s.modClk fun c => { c with winDone := true }
theorem windowJudged_keeps : keeps [.clk] s s.windowJudged := modClk_keeps _
theorem windowJudged_ref (k : Nat) : s.windowJudged.ref k = s.ref k := rfl

/-! ## Windows of one input -/

/-- What the other inputs of a window of one input are: not measured, and not compared. -/
abbrev aloneInWindow (s : State) (i : Nat) : Prop := ∀ k ∈ refNums, k ≠ i → (s.refEn k && (s.ref k).present) = false ∧ (s.ref k).compared = false
theorem exec_window_single (hwin : s.clk.win = 2999) (hdone : s.clk.winDone = false) (halone : aloneInWindow s i.val) (hsame : sameBut [i.val] refInit s.clk.refs (s.refWindowEnd (i.val, f)).clk.refs)
    (hquiet : ((s.refWindowEnd (i.val, f)).ref i.val).disputed = false) : exec (.freqWindowEnd [(i.val, f)]) s = doneCore s (s.refWindowEnd (i.val, f)).windowJudged := by
  have hone : ∀ k ∈ refNums, k ≠ i.val → ((s.refWindowEnd (i.val, f)).ref k).compared = false := fun k hk hne => by
    rw [show (s.refWindowEnd (i.val, f)).ref k = s.ref k from hsame k (by simpa using hne)]
    exact (halone k hk hne).2
  rw [exec_freqWindowEnd hwin hdone, window_single i.isLt (fun k hk hne => (halone k hk hne).1), disputed_single hone hquiet]
  rfl
/-- The change of the one input that is measured, with its event. -/
theorem leads_window_event {z : RefIn} (hwin : s.clk.win = 2999) (hdone : s.clk.winDone = false) (halone : aloneInWindow s i.val) (hquiet : z.disputed = false)
    (hev : RefEvent i.val e z s (s.refWindowEnd (i.val, f))) : leads (.freqWindowEnd [(i.val, f)]) s (fun t => t.ref i.val = z ∧ raised e s t ∧ t.bit CLK_EVSRC i.val = true ∧
      t.clk = { s.clk with refs := t.clk.refs, winDone := true } ∧ sameBut [i.val] refInit s.clk.refs t.clk.refs ∧ regsKeep [CLK_EVSRC] s t ∧ keeps [.regs, .out, .mon, .sys, .clk] s t) := by
  have hexec := exec_window_single (f := f) hwin hdone halone hev.refs (by rw [hev.ref]; exact hquiet)
  generalize s.refWindowEnd (i.val, f) = u at *
  have hclk : u.windowJudged.clk = { s.clk with refs := u.clk.refs, winDone := true } := (congrArg (fun c : ClkSt => { c with winDone := true }) hev.clk :)
  exact leads_doneCore hexec ⟨hev.ref, hev.raised.of_regs rfl, hev.source, hclk, hev.refs, hev.regs.of_regs rfl, (hev.keeps.trans windowJudged_keeps (by simp)).answered⟩
theorem leads_window_outside (hx : s.ref i.val = x) (hen : s.refEn i.val = true) (hst : x.st ≠ .absent) (hp : x.present = true) (hwin : s.clk.win = 2999) (hdone : s.clk.winDone = false)
    (hout : s.rdF CLK_FWIN 16 0 < f.natAbs) (hquiet : x.disputed = false) (halone : aloneInWindow s i.val) : leads (.freqWindowEnd [(i.val, f)]) s (fun t =>
      t.ref i.val = { x with freq := f, winClean := true, fail := if x.fail = 0 then 3 else x.fail } ∧ raised 32 s t ∧ t.bit CLK_EVSRC i.val = true ∧
      t.clk = { s.clk with refs := t.clk.refs, winDone := true } ∧ sameBut [i.val] refInit s.clk.refs t.clk.refs ∧ regsKeep [CLK_EVSRC] s t ∧ keeps [.regs, .out, .mon, .sys, .clk] s t) := by
  have hi32 : i.val < 32 := by omega
  have hev := ((modRef_set hx fun x => { x with freq := f, winClean := true }).event hi32 32).modRef fun x => { x with fail := if x.fail = 0 then 3 else x.fail }
  refine leads_window_event hwin hdone halone hquiet ?_
  rw [refWindowEnd_outside i.isLt hx hen hp hst hout]
  exact hev
theorem leads_window_qualifies (hx : s.ref i.val = x) (hen : s.refEn i.val = true) (hst : x.st = .qualifying) (hp : x.present = true) (hclean : x.winClean = true) (hfail : x.fail = 0) (hquiet : x.disputed = false)
    (hwin : s.clk.win = 2999) (hdone : s.clk.winDone = false) (hin : f.natAbs ≤ s.rdF CLK_FWIN 16 0) (halone : aloneInWindow s i.val) : leads (.freqWindowEnd [(i.val, f)]) s (fun t =>
      t.ref i.val = { x with freq := f, st := .qualified, guardLeft := 0 } ∧ raised 25 s t ∧ t.bit CLK_EVSRC i.val = true ∧ t.clk = { s.clk with refs := t.clk.refs, winDone := true } ∧
      sameBut [i.val] refInit s.clk.refs t.clk.refs ∧ regsKeep [CLK_EVSRC] s t ∧ keeps [.regs, .out, .mon, .sys, .clk] s t) := by
  have hi32 : i.val < 32 := by omega
  have hev := refQualify_event (modRef_set hx fun x => { x with freq := f, winClean := true }) hi32
  have hrec : ({ x with freq := f, winClean := true, st := .qualified, guardLeft := 0 } : RefIn) = { x with freq := f, st := .qualified, guardLeft := 0 } := by rw [← hclean]
  refine leads_window_event hwin hdone halone hquiet ?_
  rw [refWindowEnd_qualifies i.isLt hx hen hp hst hclean hfail hin, ← hrec]
  exact hev
theorem leads_window_clean (hx : s.ref i.val = x) (hen : s.refEn i.val = true) (hst : x.st = .qualifying) (hp : x.present = true) (hclean : x.winClean = false) (hquiet : x.disputed = false)
    (hwin : s.clk.win = 2999) (hdone : s.clk.winDone = false) (hin : f.natAbs ≤ s.rdF CLK_FWIN 16 0) (halone : aloneInWindow s i.val) : leads (.freqWindowEnd [(i.val, f)]) s (fun t =>
      t.ref i.val = { x with freq := f, winClean := true } ∧ t.clk = { s.clk with refs := t.clk.refs, winDone := true } ∧ sameBut [i.val] refInit s.clk.refs t.clk.refs ∧ keeps [.clk] s t) := by
  have hset := modRef_set hx fun x => { x with freq := f, winClean := true }
  rw [← refWindowEnd_inside i.isLt hx hen hp (by rw [hst]; decide) (.inr hclean) hin] at hset
  have hexec := exec_window_single (f := f) hwin hdone halone hset.refs (by rw [hset.ref]; exact hquiet)
  generalize s.refWindowEnd (i.val, f) = u at *
  have hclk : u.windowJudged.clk = { s.clk with refs := u.clk.refs, winDone := true } := (congrArg (fun c : ClkSt => { c with winDone := true }) hset.clk :)
  exact leads_doneCore hexec ⟨hset.ref, hclk, hset.refs, (hset.keeps.trans windowJudged_keeps fun _ => id).answered⟩

/-! ## Windows that open a dispute -/

theorem shown_keeps {fr : Nat → Option Int} (hs : WindowShown fr s u) : keeps [.clk] s u := by
  have hk : keeps [.clk] s { s with clk := { s.clk with refs := u.clk.refs } } := by simp [keeps_iff]
  rw [← hs.clk] at hk
  exact hk
theorem window_fold (fr : Nat → Option Int) (freqs : List (Nat × Int)) (hall : ∀ k ∈ refNums, WindowsPlain fr freqs s k) :
    WindowShown (fun k => if k ∈ refNums then fr k else none) s (foldS (s.windowOne freqs) s refNums) := by
  have hs := windows_shown (s := s) fr freqs refNums s [] (by decide) (fun k hk => ⟨refNums_lt hk, List.not_mem_nil, hall k hk⟩) ⟨fun k => by rw [if_neg List.not_mem_nil]; rfl, rfl⟩
  simpa using hs
/-- The compared pair of one rank, each with its frequency, and what each other input is. -/
structure PairShown (a b : Nat) (fa fb : Int) (s u : State) : Prop where
  first : u.ref a = { s.ref a with freq := fa, winClean := true }
  second : u.ref b = { s.ref b with freq := fb, winClean := true }
  keeps : keeps [.clk] s u
theorem PairShown.rank {a b : Nat} {fa fb : Int} (hs : PairShown a b fa fb s u) (k : Nat) : u.refRank k = s.refRank k := by
  rw [State.refRank, State.rdF, rd_of_regs (hs.keeps.part (p := .regs) (by simp))]
  rfl
theorem PairShown.apart {a b : Nat} {fa fb : Int} (hs : PairShown a b fa fb s u) (hab : a < b) (hb : b < 6) (hrank : s.refRank a = s.refRank b) (hea : (s.ref a).eligible = true) (heb : (s.ref b).eligible = true)
    (hdiff : s.rdF CLK_DISPUTE 15 0 < (fa - fb).natAbs) (hrest : ∀ c ∈ refNums, c ≠ a → c ≠ b → (u.ref c).compared = true → c = k ∧ s.refRank k ≠ s.refRank a) : u.apartPairs = [(a, b)] := by
  have hca : (u.ref a).compared = true := by rw [hs.first]; exact Bool.or_eq_true_iff.mpr (.inl hea)
  have hcb : (u.ref b).compared = true := by rw [hs.second]; exact Bool.or_eq_true_iff.mpr (.inl heb)
  have hd : u.differ a b = true := by
    rw [State.differ, hs.first, hs.second, State.rdF, rd_of_regs (hs.keeps.part (p := .regs) (by simp))]
    exact decide_eq_true hdiff
  refine apartPairs_pair (k := k) hab hb (by rw [hs.rank, hs.rank, hrank]) hca hcb hd fun c hc hcomp => ?_
  by_cases h1 : c = a
  · exact .inl h1
  · by_cases h2 : c = b
    · exact .inr (.inl h2)
    · rw [hs.rank, hs.rank]
      exact .inr (.inr (hrest c hc h1 h2 hcomp))

end Sys2Proof.Machine
end

section
/-! SUPPORT. The ends of the windows that open a dispute (R278). -/

namespace Sys2Proof.Machine

variable {s t u : State} {x y z : RefIn} {a b c j k m : Nat} {fa fb f g h : Int} {freqs : List (Nat × Int)} {i : Fin 6}

/-- The frequency that the ends of some windows show for an input. -/
def shownFreq (freqs : List (Nat × Int)) (k : Nat) : Option Int := (freqs.find? fun q => q.1 == k).map Prod.snd
theorem shownFreq_cons_self (k : Nat) (f : Int) : shownFreq ((k, f) :: freqs) k = some f := by simp [shownFreq]
theorem shownFreq_cons_ne (hne : j ≠ k) (f : Int) : shownFreq ((j, f) :: freqs) k = shownFreq freqs k := by simp [shownFreq, hne]
theorem shownFreq_nil (k : Nat) : shownFreq [] k = none := rfl
theorem find_shownFreq (k : Nat) : freqs.find? (fun q => q.1 == k) = (shownFreq freqs k).map fun f => (k, f) := by
  unfold shownFreq
  cases hf : freqs.find? (fun q => q.1 == k) with
  | none => rfl
  | some q =>
    have hq : q.1 = k := by simpa using List.find?_some hf
    simp [← hq]

/-- Two inputs of one rank whose windows end with frequencies that differ; no other input is compared, but for one of another rank. -/
structure DisputeWindow (freqs : List (Nat × Int)) (a b : Nat) (fa fb : Int) (k : Nat) (s : State) : Prop where
  win : s.clk.win = 2999
  open_ : s.clk.winDone = false
  unseen : ∀ c ∈ refNums, shownFreq freqs c = none → (s.refEn c && (s.ref c).present) = false
  seen : ∀ c ∈ refNums, ∀ f, shownFreq freqs c = some f → s.refEn c = true ∧ (s.ref c).present = true ∧ (s.ref c).st = .qualified ∧ f.natAbs ≤ s.rdF CLK_FWIN 16 0
  first : shownFreq freqs a = some fa
  second : shownFreq freqs b = some fb
  rank : s.refRank a = s.refRank b
  eligible : (s.ref a).eligible = true ∧ (s.ref b).eligible = true
  differ : s.rdF CLK_DISPUTE 15 0 < (fa - fb).natAbs
  rest : ∀ c ∈ refNums, c ≠ a → c ≠ b → (s.ref c).disputed = false ∧ ((s.ref c).st = .qualified → c = k ∧ s.refRank k ≠ s.refRank a)
theorem DisputeWindow.symm (hw : DisputeWindow freqs a b fa fb k s) : DisputeWindow freqs b a fb fa k s :=
  { hw with first := hw.second, second := hw.first, rank := hw.rank.symm, eligible := hw.eligible.symm, differ := by have := hw.differ; omega
            rest := fun c hc hb ha => by rw [← hw.rank]; exact hw.rest c hc ha hb }
/-- The inputs with the frequencies of their windows. -/
def State.windowsEnded (s : State) (freqs : List (Nat × Int)) : State := foldS (s.windowOne freqs) s refNums
theorem DisputeWindow.shown (hw : DisputeWindow freqs a b fa fb k s) : WindowShown (fun k => if k ∈ refNums then shownFreq freqs k else none) s (s.windowsEnded freqs) :=
  window_fold _ _ fun c hc => ⟨find_shownFreq c, hw.unseen c hc, hw.seen c hc⟩
theorem DisputeWindow.ref (hw : DisputeWindow freqs a b fa fb k s) (hc : c ∈ refNums) : (s.windowsEnded freqs).ref c = (s.ref c).shown (shownFreq freqs c) := by
  rw [hw.shown.ref c, if_pos hc]
theorem DisputeWindow.ref_unseen (hw : DisputeWindow freqs a b fa fb k s) (hnone : shownFreq freqs c = none) : (s.windowsEnded freqs).ref c = s.ref c := by
  rw [hw.shown.ref c, hnone, ite_self]
  rfl
theorem shown_st (x : RefIn) (o : Option Int) : (x.shown o).st = x.st ∧ (x.shown o).disputed = x.disputed ∧ (x.shown o).eligible = x.eligible := by
  cases o <;> exact ⟨rfl, rfl, rfl⟩
theorem DisputeWindow.pairShown (hw : DisputeWindow freqs a b fa fb k s) (ha : a < 6) (hb : b < 6) : PairShown a b fa fb s (s.windowsEnded freqs) where
  first := by rw [hw.ref (mem_refNums ha), hw.first]; rfl
  second := by rw [hw.ref (mem_refNums hb), hw.second]; rfl
  keeps := shown_keeps hw.shown
theorem DisputeWindow.quiet (hw : DisputeWindow freqs a b fa fb k s) (hc : c ∈ refNums) (hca : c ≠ a) (hcb : c ≠ b) : ((s.windowsEnded freqs).ref c).disputed = false := by
  rw [hw.ref hc, (shown_st ..).2.1]
  exact (hw.rest c hc hca hcb).1
theorem DisputeWindow.apart (hw : DisputeWindow freqs a b fa fb k s) (hab : a < b) (hb : b < 6) : (s.windowsEnded freqs).apartPairs = [(a, b)] := by
  refine (hw.pairShown (by omega) hb).apart (k := k) hab hb hw.rank hw.eligible.1 hw.eligible.2 hw.differ fun c hc hca hcb hcomp => (hw.rest c hc hca hcb).2 ?_
  have hquiet := hw.quiet hc hca hcb
  rw [RefIn.compared, hquiet, Bool.or_false, hw.ref hc, (shown_st ..).2.2, RefIn.eligible] at hcomp
  simp only [Bool.and_eq_true, beq_iff_eq] at hcomp
  exact hcomp.1

/-- The minority of a dispute, where a third input names it. -/
def State.minorityOf (s : State) (p : Nat × Nat) : State :=
  match s.disputeLost p with
  | some m => s.modRef m (fun x => { x with minority := true })
  | none => s
theorem minorityOf_none {p : Nat × Nat} (hl : s.disputeLost p = none) : s.minorityOf p = s := by rw [State.minorityOf, hl]
theorem minorityOf_some {p : Nat × Nat} (hl : s.disputeLost p = some m) : s.minorityOf p = s.modRef m (fun x => { x with minority := true }) := by rw [State.minorityOf, hl]
theorem DisputeNoted.symm (hn : DisputeNoted a b s u t) : DisputeNoted b a s u t :=
  { hn with first := hn.second, second := hn.first, others := fun c hb ha => hn.others c ha hb, sources := hn.sources.symm }
/-- The end of the windows disputes the pair, in the order of the inputs' numbers. -/
theorem DisputeWindow.exec (hw : DisputeWindow freqs a b fa fb k s) (hab : a ≠ b) (ha : a < 6) (hb : b < 6) : ∃ p, (p = (a, b) ∨ p = (b, a)) ∧ DisputeNoted a b s (s.windowsEnded freqs) ((s.windowsEnded freqs).dispute p) ∧
    Machine.exec (.freqWindowEnd freqs) s = doneCore s (((s.windowsEnded freqs).dispute p).minorityOf p).windowJudged := by
  have hlt : ∀ {a b fa fb}, DisputeWindow freqs a b fa fb k s → a < b → b < 6 → Machine.exec (.freqWindowEnd freqs) s = doneCore s (((s.windowsEnded freqs).dispute (a, b)).minorityOf (a, b)).windowJudged :=
    fun hw hab hb => by
      rw [exec_freqWindowEnd hw.win hw.open_]
      exact congrArg (fun t => doneCore s (State.windowJudged t)) (disputed_pair (hw.apart hab hb) fun c hc hca hcb => hw.quiet hc hca hcb)
  have hk := shown_keeps hw.shown
  rcases Nat.lt_or_gt_of_ne hab with hl | hl
  · exact ⟨(a, b), .inl rfl, dispute_noted hk hab (by omega) (by omega), hlt hw hl hb⟩
  · exact ⟨(b, a), .inr rfl, (dispute_noted hk hab.symm (by omega) (by omega)).symm, hlt hw.symm hl ha⟩

/-! ## Two inputs that differ -/

theorem DisputeNoted.judged (hn : DisputeNoted a b s u t) : DisputeNoted a b s u t.windowJudged :=
  ⟨hn.first, hn.second, hn.others, hn.counted, hn.bit, hn.sources, hn.raised.of_regs rfl, hn.regs.of_regs rfl, hn.keeps.trans windowJudged_keeps (by simp)⟩
theorem leads_window_dispute (hx : s.ref i.val = x) (hy : s.ref j = y) (hw : DisputeWindow [(i.val, f), (j, g)] i.val j f g i.val s) (hj : j < 6) (hij : i.val ≠ j) : leads (.freqWindowEnd [(i.val, f), (j, g)]) s (fun t =>
    t.ref i.val = { x with freq := f, winClean := true, disputed := true, minority := false, agreeLeft := s.rdF CLK_GUARD 9 0 * 3000 } ∧ t.ref j = { y with freq := g, winClean := true, disputed := true, minority := false, agreeLeft := s.rdF CLK_GUARD 9 0 * 3000 } ∧
    counted CLK_DISPUTES 1 s t ∧ t.bit CLK_STAT 2 = true ∧ t.bit CLK_EVSRC i.val = true ∧ t.bit CLK_EVSRC j = true ∧ raised 29 s t ∧ sameBut [i.val, j] refInit s.clk.refs t.clk.refs ∧ regsKeep [CLK_DISPUTES, CLK_STAT, CLK_EVSRC] s t ∧ keeps [.regs, .out, .mon, .sys, .clk] s t) := by
  obtain ⟨p, hp, hn, hexec⟩ := hw.exec hij i.isLt hj
  have hshown := hw.pairShown i.isLt hj
  have hsame : ∀ c, c ≠ i.val → c ≠ j → (s.windowsEnded [(i.val, f), (j, g)]).ref c = s.ref c := fun c hci hcj =>
    hw.ref_unseen (by rw [shownFreq_cons_ne hci.symm, shownFreq_cons_ne hcj.symm, shownFreq_nil])
  have hnone : ∀ c ∈ refNums, c ≠ i.val → c ≠ j → (((s.windowsEnded [(i.val, f), (j, g)]).dispute p).ref c).st ≠ .qualified := fun c hc hci hcj => by
    rw [hn.others c hci hcj, hsame c hci hcj]
    exact fun hst => hci ((hw.rest c hc hci hcj).2 hst).1
  have hlost : ((s.windowsEnded [(i.val, f), (j, g)]).dispute p).disputeLost p = none := by
    rcases hp with rfl | rfl
    · exact disputeLost_none hnone
    · exact disputeLost_none fun c hc hcj hci => hnone c hc hci hcj
  rw [minorityOf_none hlost] at hexec
  generalize s.windowsEnded [(i.val, f), (j, g)] = v at *
  have hn := hn.judged
  generalize (v.dispute p).windowJudged = t at *
  have hi := hn.first
  have hj' := hn.second
  rw [hshown.first, hx] at hi
  rw [hshown.second, hy] at hj'
  have hrefs : sameBut [i.val, j] refInit s.clk.refs t.clk.refs := fun c hc => by
    simp only [List.mem_cons, List.not_mem_nil, or_false, not_or] at hc
    exact (hn.others c hc.1 hc.2).trans (hsame c hc.1 hc.2)
  exact leads_doneCore hexec ⟨hi, hj', hn.counted, hn.bit, hn.sources.1, hn.sources.2, hn.raised, hrefs, hn.regs, hn.keeps.answered⟩

/-! ## A third input names the minority -/

/-- The third input's frequency lies by the second's, and not by the first's. -/
theorem DisputeWindow.minority {p : Nat × Nat} (hw : DisputeWindow freqs a b fa fb k s) (hn : DisputeNoted a b s (s.windowsEnded freqs) t) (hp : p = (a, b) ∨ p = (b, a)) (ha : a < 6) (hb : b < 6) (hk : k < 6) (hak : a ≠ k) (hbk : b ≠ k)
    (hfk : shownFreq freqs k = some h) (hka : s.rdF CLK_DISPUTE 15 0 < (h - fa).natAbs) (hkb : (h - fb).natAbs ≤ s.rdF CLK_DISPUTE 15 0) : t.disputeLost p = some a := by
  have hshown := hw.pairShown ha hb
  have hrefk : t.ref k = { s.ref k with freq := h, winClean := true } := by
    rw [hn.others k hak.symm hbk.symm, hw.ref (mem_refNums hk), hfk]
    rfl
  have hfa : (t.ref a).freq = fa := by rw [hn.first, hshown.first]; rfl
  have hfb : (t.ref b).freq = fb := by rw [hn.second, hshown.second]; rfl
  have hdisp : t.rdF CLK_DISPUTE 15 0 = s.rdF CLK_DISPUTE 15 0 := by
    rw [State.rdF, hn.regs CLK_DISPUTE (by decide) rfl]
    rfl
  have hda : t.differ k a = true := by
    rw [State.differ, hdisp, hrefk, hfa]
    exact decide_eq_true hka
  have hdb : t.differ k b = false := by
    rw [State.differ, hdisp, hrefk, hfb]
    exact decide_eq_false (by simpa using hkb)
  have hst : (t.ref k).st = .qualified := by
    rw [hrefk]
    exact (hw.seen k (mem_refNums hk) h hfk).2.2.1
  have hnone : ∀ c ∈ refNums, c ≠ a → c ≠ b → c ≠ k → (t.ref c).st ≠ .qualified := fun c hc hca hcb hck => by
    rw [hn.others c hca hcb, hw.ref hc, (shown_st ..).1]
    exact fun hst => hck ((hw.rest c hc hca hcb).2 hst).1
  rcases hp with rfl | rfl
  · rw [disputeLost_third hk hak.symm hbk.symm hst (by rw [hda, hdb]; rfl) hnone, if_pos hda]
  · rw [disputeLost_third hk hbk.symm hak.symm hst (by rw [hda, hdb]; rfl) fun c hc hcb hca => hnone c hc hca hcb, if_neg (by rw [hdb]; decide)]
theorem leads_window_minority (hx : s.ref i.val = x) (hy : s.ref j = y) (hw : DisputeWindow [(i.val, f), (j, g), (k, h)] i.val j f g k s) (hj : j < 6) (hk : k < 6) (hij : i.val ≠ j) (hik : i.val ≠ k) (hjk : j ≠ k)
    (hki : s.rdF CLK_DISPUTE 15 0 < (h - f).natAbs) (hkj : (h - g).natAbs ≤ s.rdF CLK_DISPUTE 15 0) : leads (.freqWindowEnd [(i.val, f), (j, g), (k, h)]) s (fun t =>
    t.ref i.val = { x with freq := f, winClean := true, disputed := true, minority := true, agreeLeft := s.rdF CLK_GUARD 9 0 * 3000 } ∧ t.ref j = { y with freq := g, winClean := true, disputed := true, minority := false, agreeLeft := s.rdF CLK_GUARD 9 0 * 3000 } ∧
    raised 29 s t ∧ sameBut [i.val, j, k] refInit s.clk.refs t.clk.refs ∧ regsKeep [CLK_DISPUTES, CLK_STAT, CLK_EVSRC] s t ∧ keeps [.regs, .out, .mon, .sys, .clk] s t) := by
  obtain ⟨p, hp, hn, hexec⟩ := hw.exec hij i.isLt hj
  have hshown := hw.pairShown i.isLt hj
  have hthird : shownFreq [(i.val, f), (j, g), (k, h)] k = some h := by rw [shownFreq_cons_ne hik, shownFreq_cons_ne hjk, shownFreq_cons_self]
  have hsame : ∀ c, c ≠ i.val → c ≠ j → c ≠ k → (s.windowsEnded [(i.val, f), (j, g), (k, h)]).ref c = s.ref c := fun c hci hcj hck =>
    hw.ref_unseen (by rw [shownFreq_cons_ne hci.symm, shownFreq_cons_ne hcj.symm, shownFreq_cons_ne hck.symm, shownFreq_nil])
  rw [minorityOf_some (hw.minority hn hp i.isLt hj hk hik hjk hthird hki hkj)] at hexec
  generalize s.windowsEnded [(i.val, f), (j, g), (k, h)] = v at *
  have hi := hn.first
  have hj' := hn.second
  rw [hshown.first, hx] at hi
  rw [hshown.second, hy] at hj'
  generalize v.dispute p = w at *
  have hraised : raised 29 s (w.modRef i.val fun x => { x with minority := true }).windowJudged := hn.raised.of_regs rfl
  have hregs : regsKeep [CLK_DISPUTES, CLK_STAT, CLK_EVSRC] s (w.modRef i.val fun x => { x with minority := true }).windowJudged := hn.regs.of_regs rfl
  have hkeeps : keeps [.regs, .out, .mon, .sys, .clk] s (w.modRef i.val fun x => { x with minority := true }).windowJudged := (hn.keeps.trans (modRef_keeps ..) (by simp)).trans windowJudged_keeps (by simp)
  have hrefi : (w.modRef i.val fun x => { x with minority := true }).windowJudged.ref i.val = { x with freq := f, winClean := true, disputed := true, minority := true, agreeLeft := s.rdF CLK_GUARD 9 0 * 3000 } := by
    rw [windowJudged_ref, ref_modRef_same, hi]
    rfl
  have hrefj : (w.modRef i.val fun x => { x with minority := true }).windowJudged.ref j = w.ref j := by
    rw [windowJudged_ref]
    exact ref_modRef_ne _ _ _ hij.symm
  have hrefs : sameBut [i.val, j, k] refInit s.clk.refs (w.modRef i.val fun x => { x with minority := true }).windowJudged.clk.refs := fun c hc => by
    simp only [List.mem_cons, List.not_mem_nil, or_false, not_or] at hc
    have hc' := (ref_modRef_ne w _ (fun x => { x with minority := true }) hc.1).trans ((hn.others c hc.1 hc.2.1).trans (hsame c hc.1 hc.2.1 hc.2.2))
    exact hc'
  generalize (w.modRef i.val fun x => { x with minority := true }).windowJudged = t at *
  exact leads_doneCore hexec ⟨hrefi, hrefj.trans hj', hraised, hrefs, hregs, hkeeps.answered⟩

end Sys2Proof.Machine
end

section
/-! SUPPORT. The loop and the selector (R272 to R277, R280, R281). -/

namespace Sys2Proof.Machine

variable {s t u : State} {j k n : Nat} {f : Int} {c : ClkSt}

/-! ## The output frequency -/

/-- What the loop's own steps leave: the clock's part is c, CLK_STAT and an event may be shown. -/
structure Steered (c : ClkSt) (s t : State) : Prop where
  clk : t.clk = c
  regs : regsKeep [CLK_STAT] s t
  aligned : t.sys.aligned = s.sys.aligned
  answering : t.sys.answering = s.sys.answering
  keeps : keeps [.regs, .out, .mon, .sys, .clk] s t
theorem Steered.refl (s : State) : Steered s.clk s s := ⟨rfl, .refl _ _, rfl, rfl, .refl _ _⟩
theorem Steered.modClk (h : Steered c s t) (g : ClkSt → ClkSt) : Steered (g c) s (t.modClk g) :=
  ⟨congrArg g h.clk, h.regs.of_regs rfl, h.aligned, h.answering, h.keeps.trans (modClk_keeps g) (by simp)⟩
theorem Steered.flagRaise (h : Steered c s t) (b e : Nat) : Steered c s (t.flagRaise CLK_STAT b e) :=
  have hu := flagRaise_only t CLK_STAT b e
  ⟨hu.clk.trans h.clk, h.regs.flagRaise (by simp), hu.sys_aligned.trans h.aligned, hu.sys_answering.trans h.answering, h.keeps.flagRaise (by simp)⟩
/-- The output frequency in its range, and whether it is at a limit of it. -/
def ClkSt.steeredTo (c : ClkSt) (f : Int) : ClkSt := { c with outFreq := clampI (-pullLimit) pullLimit f, atLimit := decide (pullLimit ≤ f.natAbs) }
theorem Steered.setOut (h : Steered c s t) (f : Int) : Steered (c.steeredTo f) s (t.setOut f) := by
  have hset : Steered (c.steeredTo f) s (t.modClk (·.steeredTo f)) := h.modClk (·.steeredTo f)
  unfold State.setOut
  extract_lets lim u
  split
  · exact hset.flagRaise 5 33
  · exact hset
theorem pullLimit_eq : pullLimit = 300000000 := rfl
theorem setOut_inside (hin : f.natAbs < 300000000) : s.setOut f = s.modClk fun c => { c with outFreq := f, atLimit := false } := by
  have hlim : decide (pullLimit ≤ f.natAbs) = false := decide_eq_false (by rw [pullLimit_eq]; omega)
  have hclamp : clampI (-pullLimit) pullLimit f = f := by
    rw [clampI, if_neg (by rw [pullLimit_eq]; omega), if_neg (by rw [pullLimit_eq]; omega)]
  unfold State.setOut
  dsimp only
  rw [hlim, hclamp]
  rfl
theorem slewed_self (f : Int) (n : Nat) : slewed f f n = f := if_pos (by simp)
theorem switchOver_self (f : Int) : switchOver f f = true := by simp [switchOver]

/-! ## The selector -/

theorem Steered.ref (h : Steered c s t) (hrefs : c.refs = s.clk.refs) (k : Nat) : t.ref k = s.ref k := ref_of_refs (by rw [h.clk, hrefs]) k
theorem eligibleRefs_of_refs (h : t.clk.refs = s.clk.refs) : t.eligibleRefs = s.eligibleRefs := by
  unfold State.eligibleRefs
  exact List.filter_congr fun k _ => congrArg RefIn.eligible (ref_of_refs h k)
theorem eligible_of_refs (h : k ∈ s.eligibleRefs) : (s.ref k).eligible = true := (List.mem_filter.mp h).2
theorem refRank_of_regs (hregs : regsKeep [CLK_STAT] s t) (hk : k < 6) : t.refRank k = s.refRank k := by
  have hrd : t.rd (CLK_REF_CFG k) = s.rd (CLK_REF_CFG k) := hregs _ (by simp [CLK_REF_CFG, CLK_STAT]; omega) (by simp [evtReg, CLK_REF_CFG, EVT_LAST, EVT_LAST_TICK, EVT_COUNT, MON_STAT, MON_TRACE_DROP]; omega)
  rw [State.refRank, State.rdF, hrd]
  rfl
theorem selectRef_stays (hlive : s.clk.pll ≠ .switching ∧ s.clk.pll ≠ .stopped) (hel : s.eligibleRefs = [k]) (hsel : s.clk.selected = k) :
    s.selectRef = s.modClk fun c => { c with wtrLeft := none } := by
  unfold State.selectRef
  dsimp only
  rw [if_neg (by simp [hlive.1, hlive.2]), hel, hsel]
  simp [foldS]
theorem selectRef_free (hpll : s.clk.pll = .freeRun) (hel : s.eligibleRefs = []) : s.selectRef = s := by
  unfold State.selectRef
  dsimp only
  rw [hpll, if_neg (by decide), hel]
  rfl
/-- The better of two eligible inputs is taken when the wait to restore ends. -/
theorem selectRef_restores {a : Nat} (hpll : s.clk.pll = .locked) (hel : s.eligibleRefs = if a < j then [a, j] else [j, a]) (hsel : s.clk.selected = a) (hrank : s.refRank j < s.refRank a)
    (hauto : s.bit CLK_CTL 1 = true) (hwtr : s.clk.wtrLeft = some n) (hn : n ≤ 1) : s.selectRef = s.switchTo j := by
  have hja : ¬ s.refRank a < s.refRank j := by omega
  unfold State.selectRef
  dsimp only
  rw [hpll, if_neg (by decide), hel, hsel, hwtr, hauto]
  split_ifs with hlt <;> simp [foldS, hrank, hja, hn]

/-! ## Switches -/

/-- The clock's part when a switch to an input starts. -/
def State.switchClk (s : State) (j : Nat) : ClkSt :=
  { s.clk with pll := .switching, target := j, selected := 7, wtrLeft := none, absorbDev := 0, targetLost := false, targetFreq := (s.ref j).freq, fromFree := s.clk.fromFree || s.clk.pll == .freeRun
               buildout := if s.clk.pll = .absorbing then (s.ref 0).phi else s.clk.buildout }
/-- A switch to an input starts (R272). -/
structure SwitchStarted (c : ClkSt) (s u t : State) : Prop where
  clk : t.clk = c
  aligned : t.sys.aligned = (s.sys.aligned && decide (u.clk.selected ≠ 0))
  counted : counted CLK_SWITCHES 1 s t
  bit : t.bit CLK_STAT 0 = true
  raised : raised 27 s t
  regs : regsKeep [CLK_SWITCHES, CLK_STAT] s t
  keeps : keeps [.regs, .out, .mon, .sys, .clk, .ports] s t
theorem SwitchStarted.looped (h : SwitchStarted c s u t) : SwitchStarted { c with looped := true } s u (t.modClk fun c => { c with looped := true }) :=
  ⟨congrArg (fun c : ClkSt => { c with looped := true }) h.clk, h.aligned, h.counted, h.bit, h.raised.of_regs rfl, h.regs.of_regs rfl, h.keeps.trans (modClk_keeps _) (by simp)⟩
/-- ALIGNED is dropped with input 0 (R272). -/
def State.alignDropped (s : State) : State := if s.clk.selected = 0 then { s with sys := { s.sys with aligned := false } } else s
theorem alignDropped_leaves : s.alignDropped.regs = s.regs ∧ s.alignDropped.sys.answering = s.sys.answering ∧ s.alignDropped.sys.aligned = (s.sys.aligned && decide (s.clk.selected ≠ 0)) ∧
    s.alignDropped.clk = s.clk ∧ keeps [.sys] s s.alignDropped := by
  unfold State.alignDropped
  split_ifs with h <;> simp [h, keeps_iff]
theorem Steered.switchTo (h : Steered c s u) (hj : j < 6) : SwitchStarted (u.switchClk j) s u (u.switchTo j) := by
  obtain ⟨hregs, hans, hal, hclk, hkeeps⟩ := alignDropped_leaves (s := u)
  have heq : u.switchTo j = ((((u.alignDropped.modClk fun _ => u.switchClk j).steer.count CLK_SWITCHES 1).flag CLK_STAT 0).raise 27) := by
    unfold State.switchTo
    dsimp only
    rw [if_neg (show ¬ j = 6 by omega), if_neg (show ¬ j = 6 by omega), show (if u.clk.selected = 0 then { u with sys := { u.sys with aligned := false } } else u) = u.alignDropped from rfl]
    unfold State.modClk
    rw [hclk]
    rfl
  have hr := h.regs.of_regs hregs
  have hk := h.keeps.trans hkeeps (by simp)
  rw [heq]
  generalize u.alignDropped = w at *
  have hv := h.answering ▸ hans
  have hw := h.aligned ▸ hal
  have hall : Machine.keeps [.regs, .out, .mon, .sys, .clk, .ports] s (w.modClk fun _ => u.switchClk j).steer := ((hk.trans (modClk_keeps _) (by simp)).mono (by simp) : Machine.keeps [.regs, .out, .mon, .sys, .clk, .ports] s _).trans steer_keeps (by simp)
  have hvclk : (w.modClk fun _ => u.switchClk j).steer.clk = u.switchClk j := rfl
  have hvsys : (w.modClk fun _ => u.switchClk j).steer.sys = w.sys := rfl
  have hvregs : (w.modClk fun _ => u.switchClk j).steer.regs = w.regs := rfl
  generalize (w.modClk fun _ => u.switchClk j).steer = v at *
  have honly := raise_only ((v.count CLK_SWITCHES 1).flag CLK_STAT 0) 27
  have hrd : v.rd CLK_SWITCHES = s.rd CLK_SWITCHES := (rd_of_regs hvregs _).trans (hr _ (by decide) rfl)
  exact ⟨honly.clk.trans hvclk, honly.sys_aligned.trans ((congrArg SysSt.aligned hvsys).trans hw), ((counted_count hrd).flag (by decide)).raise rfl, (bit_raise rfl).trans (bit_flag_self (by decide)),
    raised_raise (t := (v.count CLK_SWITCHES 1).flag CLK_STAT 0) hall.2.1 ((congrArg SysSt.answering hvsys).trans hv),
    ((((hr.of_regs hvregs).mono (by simp)).count (by simp)).flag (by simp)).raise, ((hall.count (by simp)).flag (by simp)).raise (by simp)⟩

end Sys2Proof.Machine
end

section
/-! SUPPORT. The commands of the selected reference (R272 to R277, R280, R281). -/

namespace Sys2Proof.Machine

variable {s t u : State} {x : RefIn} {j k n m : Nat} {f o : Int} {i : Fin 6} {c : ClkSt}

/-- The loop has run for the coming boundary. -/
def ClkSt.ran (c : ClkSt) : ClkSt := { c with looped := true }

/-! ## The wait to restore -/

theorem exec_wtrExpiry (hwtr : s.clk.wtrLeft = some n) (hn : n ≤ 1) (hloop : s.clk.looped = false) : exec .wtrExpiry s = doneCore s (s.loopTick.selectRef.modClk ClkSt.ran) := by
  show doneCore s (match s.clk.wtrLeft with | some n => if n ≤ 1 ∧ s.clk.looped = false then s.loopEarly else s | none => s) = _
  rw [hwtr]
  exact congrArg (doneCore s) (if_pos ⟨hn, hloop⟩)
theorem exec_wtrExpiry_none (h : s.clk.wtrLeft = none ∨ s.clk.looped = true) : exec .wtrExpiry s = .next s := by
  show doneCore s (match s.clk.wtrLeft with | some n => if n ≤ 1 ∧ s.clk.looped = false then s.loopEarly else s | none => s) = _
  cases hwtr : s.clk.wtrLeft with
  | none => rfl
  | some n =>
    rcases h with h | h
    · exact absurd (hwtr.symm.trans h) (by simp)
    · exact congrArg (doneCore s) (if_neg fun hc => by rw [h] at hc; exact absurd hc.2 (by decide))
theorem loopTick_locked (hpll : s.clk.pll = .locked) : s.loopTick = s.setOut (slewed s.clk.outFreq s.loopAim (s.rdF CLK_SLEW 6 0)) := by
  unfold State.loopTick
  rw [hpll]
/-- The frequency of the locked loop at the coming boundary. -/
def State.lockedOut (s : State) : Int := Machine.slewed s.clk.outFreq s.loopAim (s.rdF CLK_SLEW 6 0)
theorem wtrExpiry_switches {a : Nat} (hpll : s.clk.pll = .locked) (hsel : s.clk.selected = a) (ha : a < 6) (hj : j < 6) (hel : s.eligibleRefs = if a < j then [a, j] else [j, a]) (hrank : s.refRank j < s.refRank a)
    (hauto : s.bit CLK_CTL 1 = true) (hwtr : s.clk.wtrLeft = some n) (hn : n ≤ 1) :
    ∃ u, Steered (s.clk.steeredTo s.lockedOut) s u ∧ SwitchStarted (u.switchClk j).ran s u (s.loopTick.selectRef.modClk ClkSt.ran) := by
  have hu := (Steered.refl s).setOut s.lockedOut
  rw [loopTick_locked hpll, show slewed s.clk.outFreq s.loopAim (s.rdF CLK_SLEW 6 0) = s.lockedOut from rfl]
  generalize s.setOut s.lockedOut = u at *
  have hrefs : u.clk.refs = s.clk.refs := (congrArg ClkSt.refs hu.clk :)
  have hctl : u.bit CLK_CTL 1 = true := (bit_of_rd (hu.regs _ (by decide) rfl)).trans hauto
  rw [selectRef_restores (j := j) ((congrArg ClkSt.pll hu.clk :).trans hpll) ((eligibleRefs_of_refs hrefs).trans hel) ((congrArg ClkSt.selected hu.clk :).trans hsel)
    (by rw [refRank_of_regs hu.regs hj, refRank_of_regs hu.regs ha]; exact hrank) hctl ((congrArg ClkSt.wtrLeft hu.clk :).trans hwtr) hn]
  exact ⟨u, hu, (hu.switchTo hj).looped⟩
theorem leads_wtrExpiry (hwtr : s.clk.wtrLeft = some n) (hn : n ≤ 1) (hloop : s.clk.looped = false) (hpll : s.clk.pll = .locked) (hsel : s.clk.selected = i.val) (hel : s.eligibleRefs = if i.val < j then [i.val, j] else [j, i.val]) (hj : j < 6)
    (hrank : s.refRank j < s.refRank i.val) (hauto : s.bit CLK_CTL 1 = true) : leads .wtrExpiry s (fun t =>
    t.clk.pll = .switching ∧ t.clk.target = j ∧ t.clk.selected = 7 ∧ t.clk.wtrLeft = none ∧ t.clk.looped = true ∧ t.clk.targetFreq = (s.ref j).freq ∧ t.clk.refs = s.clk.refs ∧ t.clk.outFreq = clampI (-pullLimit) pullLimit (slewed s.clk.outFreq s.loopAim (s.rdF CLK_SLEW 6 0)) ∧
    t.sys.aligned = (s.sys.aligned && decide (i.val ≠ 0)) ∧ counted CLK_SWITCHES 1 s t ∧ t.bit CLK_STAT 0 = true ∧ raised 27 s t ∧ regsKeep [CLK_SWITCHES, CLK_STAT] s t ∧ keeps [.regs, .out, .mon, .sys, .clk, .ports] s t) := by
  have hexec := exec_wtrExpiry hwtr hn hloop
  obtain ⟨u, hu, hsw⟩ := wtrExpiry_switches hpll hsel i.isLt hj hel hrank hauto hwtr hn
  generalize s.loopTick.selectRef.modClk ClkSt.ran = t at *
  have hfreq : t.clk.targetFreq = (s.ref j).freq := (congrArg ClkSt.targetFreq hsw.clk :).trans (congrArg RefIn.freq (hu.ref rfl j))
  have hrefs : t.clk.refs = s.clk.refs := (congrArg ClkSt.refs hsw.clk :).trans (congrArg ClkSt.refs hu.clk :)
  have hout : t.clk.outFreq = clampI (-pullLimit) pullLimit s.lockedOut := (congrArg ClkSt.outFreq hsw.clk :).trans (congrArg ClkSt.outFreq hu.clk :)
  have hal : t.sys.aligned = (s.sys.aligned && decide (i.val ≠ 0)) := by
    rw [hsw.aligned, congrArg ClkSt.selected hu.clk]
    exact congrArg (fun k => s.sys.aligned && decide (k ≠ 0)) hsel
  exact leads_doneCore hexec ⟨(congrArg ClkSt.pll hsw.clk :), (congrArg ClkSt.target hsw.clk :), (congrArg ClkSt.selected hsw.clk :), (congrArg ClkSt.wtrLeft hsw.clk :), (congrArg ClkSt.looped hsw.clk :), hfreq, hrefs, hout, hal,
    hsw.counted, hsw.bit, hsw.raised, hsw.regs, hsw.keeps.answered⟩

/-! ## The end of a switch -/

theorem exec_switchDone (hpll : s.clk.pll = .switching) (hends : s.switchTick.clk.pll ≠ .switching) (hloop : s.clk.looped = false) : exec .switchDone s = doneCore s (s.switchTick.selectRef.modClk ClkSt.ran) := by
  have htick : s.loopTick = s.switchTick := by
    unfold State.loopTick
    rw [hpll]
  rw [← htick]
  exact congrArg (doneCore s) (if_pos ⟨hpll, hends, hloop⟩)
/-- A tick of a switch whose output has come to its aim. -/
theorem switchTick_ends (haim : s.switchAim.clk.outFreq = 3000 * s.switchAim.clk.targetFreq) (hin : (3000 * s.switchAim.clk.targetFreq).natAbs < 300000000) :
    s.switchTick = (s.switchAim.modClk fun c => { c with outFreq := 3000 * s.switchAim.clk.targetFreq, atLimit := false }).switchEnd := by
  unfold State.switchTick
  generalize s.switchAim = u at *
  have hout : u.switchOut = 3000 * u.clk.targetFreq := by rw [State.switchOut, haim, slewed_self]
  dsimp only
  rw [hout, setOut_inside hin]
  exact if_pos (switchOver_self _)
/-- The clock in free run after a switch. -/
def ClkSt.freed (c : ClkSt) : ClkSt := { c with pll := .freeRun, target := 7, selected := 7, buildout := 0, fromFree := true, atLimit := false }
theorem switchTick_free (htarget : s.clk.target = 6) (hfreq : s.clk.targetFreq = 0) (hout : s.clk.outFreq = 0) : s.switchTick = (s.modClk ClkSt.freed).raise 28 := by
  have haim : s.switchAim = s := if_neg (by rw [htarget]; decide)
  rw [switchTick_ends (by rw [haim, hout, hfreq]; rfl) (by rw [haim, hfreq]; decide), haim, hfreq]
  have hsame : (s.modClk fun c => { c with outFreq := 3000 * 0, atLimit := false }) = s.modClk fun c => { c with atLimit := false } := by
    have hclk : ({ s.clk with outFreq := 3000 * 0, atLimit := false } : ClkSt) = { s.clk with atLimit := false } := by rw [show (3000 * 0 : Int) = s.clk.outFreq from hout.symm]
    exact congrArg (fun c => { s with clk := c }) hclk
  rw [hsame]
  exact if_pos htarget
/-- The state after the end of a switch to free run. -/
theorem leads_switchDone_free (hpll : s.clk.pll = .switching) (hloop : s.clk.looped = false) (htarget : s.clk.target = 6) (hfreq : s.clk.targetFreq = 0) (hout : s.clk.outFreq = 0) (hel : s.eligibleRefs = []) : leads .switchDone s (fun t =>
    t.clk = { s.clk with pll := .freeRun, target := 7, selected := 7, buildout := 0, fromFree := true, atLimit := false, looped := true } ∧ raised 28 s t ∧ regsKeep [] s t ∧ keeps [.regs, .out, .mon, .sys, .clk] s t) := by
  have htick := switchTick_free htarget hfreq hout
  have honly := raise_only (s.modClk ClkSt.freed) 28
  have hraised : raised 28 s ((s.modClk ClkSt.freed).raise 28) := raised_raise (t := s.modClk ClkSt.freed) rfl rfl
  have hregs : regsKeep [] s ((s.modClk ClkSt.freed).raise 28) := ((regsKeep.refl [] s).of_regs (u := s.modClk ClkSt.freed) rfl).raise
  have hkeeps : keeps [.regs, .out, .mon, .sys, .clk] s ((s.modClk ClkSt.freed).raise 28) := (((modClk_keeps ClkSt.freed).mono (by simp) : Machine.keeps [.regs, .out, .mon, .sys, .clk] s _)).raise (by simp)
  have hclk : ((s.modClk ClkSt.freed).raise 28).clk = s.clk.freed := honly.clk
  have hexec := exec_switchDone hpll (by rw [htick, hclk]; exact (by decide : PllState.freeRun ≠ .switching)) hloop
  rw [htick] at hexec
  generalize (s.modClk ClkSt.freed).raise 28 = u at *
  rw [selectRef_free ((congrArg ClkSt.pll hclk :)) ((eligibleRefs_of_refs ((congrArg ClkSt.refs hclk :))).trans hel)] at hexec
  exact leads_doneCore hexec ⟨(congrArg ClkSt.ran hclk :), hraised.of_regs rfl, hregs.of_regs rfl, (hkeeps.trans (modClk_keeps _) (by simp)).answered⟩

/-- The clock with its loop closed on an input, without absorption. -/
def ClkSt.closedOn (c : ClkSt) (k : Nat) (phi : Int) : ClkSt :=
  { c with pll := .locked, selected := k, target := 7, buildout := phi, holdTicks := none, holdE0 := 0, holdTe := 0, holdExceeded := false, fromFree := false, absorbDev := 0 }
/-- The loop closes on an input (R273). -/
structure LoopClosed (c : ClkSt) (fromFree : Bool) (s t : State) : Prop where
  clk : t.clk = c
  raised : raised 28 s t
  back : fromFree = true → Machine.raised 30 s t ∧ t.bit CLK_STAT 3 = true
  regs : regsKeep [CLK_STAT] s t
  keeps : keeps [.regs, .out, .mon, .sys, .clk, .ports] s t
theorem closeLoop_closed (hk : keeps [.clk] s u) (hne : k ≠ 0) : LoopClosed (u.clk.closedOn k (u.ref k).phi) u.clk.fromFree s (u.closeLoop k) := by
  have heq : u.closeLoop k = (if u.clk.fromFree then ((u.modClk (·.closedOn k (u.ref k).phi)).steer.raise 28).flagRaise CLK_STAT 3 30 else (u.modClk (·.closedOn k (u.ref k).phi)).steer.raise 28) := by
    unfold State.closeLoop
    dsimp only
    rw [beq_eq_false_iff_ne.mpr hne]
    rfl
  have hkv : Machine.keeps [.clk, .ports] s (u.modClk (·.closedOn k (u.ref k).phi)).steer := ((hk.trans (modClk_keeps _) (by simp)).mono (by simp) : Machine.keeps [.clk, .ports] s _).trans steer_keeps (by simp)
  have hclk : (u.modClk (·.closedOn k (u.ref k).phi)).steer.clk = u.clk.closedOn k (u.ref k).phi := rfl
  rw [heq]
  generalize (u.modClk (·.closedOn k (u.ref k).phi)).steer = v at *
  have honly := raise_only v 28
  have hans : v.sys.answering = s.sys.answering := congrArg SysSt.answering (hkv.part (p := .sys) (by simp))
  have hraised : Machine.raised 28 s (v.raise 28) := raised_raise hkv.2.1 hans
  have hregs : regsKeep [CLK_STAT] s (v.raise 28) := (regsKeep_of_regs (hkv.part (p := .regs) (by simp))).raise
  have hkeeps : Machine.keeps [.regs, .out, .mon, .sys, .clk, .ports] s (v.raise 28) := (hkv.mono (by simp)).raise (by simp)
  have hvclk := honly.clk.trans hclk
  have hfit : (v.raise 28).fit = s.fit := honly.fit.trans hkv.2.1
  have hup : (v.raise 28).sys.answering = s.sys.answering := honly.sys_answering.trans hans
  generalize v.raise 28 = w at *
  split
  · have honly' := flagRaise_only w CLK_STAT 3 30
    exact ⟨honly'.clk.trans hvclk, (hraised.wr (a := CLK_STAT) rfl).raise, fun _ => ⟨raised_flagRaise hfit hup, flagRaise_bit _ _ _ _ rfl (by decide)⟩, hregs.flagRaise (by simp), hkeeps.flagRaise (by simp)⟩
  · next hnot => exact ⟨hvclk, hraised, fun h => absurd h hnot, hregs, hkeeps⟩

/-- The clock at the end of a switch to an input at its frequency. -/
def State.arrived (s : State) (f : Int) : State := (s.modClk fun c => { c with targetFreq := f }).modClk fun c => { c with outFreq := 3000 * f, atLimit := false }
theorem switchTick_input (hx : s.ref k = x) (htarget : s.clk.target = k) (hk : k < 6) (hlost : s.clk.targetLost = false) (hel : x.eligible = true) (hout : s.clk.outFreq = 3000 * x.freq) (hin : x.freq.natAbs < 100000) :
    s.switchTick = (s.arrived x.freq).closeLoop k := by
  have haim : s.switchAim = s.modClk fun c => { c with targetFreq := x.freq } := by
    unfold State.switchAim
    dsimp only
    rw [htarget, hx, hel, hlost, if_pos hk, if_pos (by rfl)]
    exact congrArg (fun f => s.modClk fun c => { c with targetFreq := f }) (show (s.ref s.clk.target).freq = x.freq by rw [htarget, hx])
  rw [switchTick_ends (by rw [haim]; exact hout) (by rw [haim]; show (3000 * x.freq).natAbs < 300000000; omega), haim]
  show (s.arrived x.freq).switchEnd = _
  have ht : (s.arrived x.freq).clk.target = k := htarget
  have hl : (s.arrived x.freq).clk.targetLost = false := hlost
  unfold State.switchEnd
  dsimp only
  rw [ht, hl, if_neg (by omega : ¬ k = 6), if_neg (by decide)]
theorem leads_switchDone_input (hx : s.ref i.val = x) (hpll : s.clk.pll = .switching) (hloop : s.clk.looped = false) (htarget : s.clk.target = i.val) (hlost : s.clk.targetLost = false) (hne : i.val ≠ 0) (hout : s.clk.outFreq = 3000 * x.freq)
    (hin : x.freq.natAbs < 100000) (hel : s.eligibleRefs = [i.val]) : leads .switchDone s (fun t =>
    t.clk = { s.clk with pll := .locked, selected := i.val, target := 7, targetFreq := x.freq, buildout := x.phi, holdTicks := none, holdE0 := 0, holdTe := 0, holdExceeded := false, fromFree := false, absorbDev := 0, wtrLeft := none, atLimit := false, looped := true } ∧
    raised 28 s t ∧ (s.clk.fromFree = true → raised 30 s t ∧ t.bit CLK_STAT 3 = true) ∧ regsKeep [CLK_STAT] s t ∧ keeps [.regs, .out, .mon, .sys, .clk, .ports] s t) := by
  have hx' : x.eligible = true := hx ▸ eligible_of_refs (k := i.val) (by rw [hel]; exact List.mem_cons_self)
  have htick := switchTick_input hx htarget i.isLt hlost hx' hout hin
  have hc := closeLoop_closed (u := s.arrived x.freq) ((modClk_keeps _).trans (modClk_keeps _) (by simp) : keeps [.clk] s _) hne
  have hclk : (s.arrived x.freq).clk.closedOn i.val ((s.arrived x.freq).ref i.val).phi = ({ s.clk with targetFreq := x.freq, atLimit := false } : ClkSt).closedOn i.val x.phi := by
    rw [show (s.arrived x.freq).ref i.val = x from hx]
    have hsame : (s.arrived x.freq).clk = { s.clk with targetFreq := x.freq, atLimit := false } := by
      show ({ s.clk with targetFreq := x.freq, outFreq := 3000 * x.freq, atLimit := false } : ClkSt) = _
      rw [← hout]
    rw [hsame]
  rw [hclk] at hc
  have hfree : (s.arrived x.freq).clk.fromFree = s.clk.fromFree := rfl
  rw [hfree] at hc
  have hends : ((s.arrived x.freq).closeLoop i.val).clk.pll ≠ .switching := by
    rw [hc.clk]
    exact (by decide : PllState.locked ≠ .switching)
  have hexec := exec_switchDone hpll (by rw [htick]; exact hends) hloop
  rw [htick] at hexec
  generalize (s.arrived x.freq).closeLoop i.val = u at *
  rw [selectRef_stays (k := i.val) (by rw [hc.clk]; exact ⟨(by decide : PllState.locked ≠ .switching), (by decide : PllState.locked ≠ .stopped)⟩) ((eligibleRefs_of_refs (congrArg ClkSt.refs hc.clk :)).trans hel)
    (congrArg ClkSt.selected hc.clk :)] at hexec
  have hkeeps := ((hc.keeps.trans (modClk_keeps fun c => { c with wtrLeft := none }) (by simp)).trans (modClk_keeps ClkSt.ran) (by simp)).answered
  exact leads_doneCore hexec ⟨(congrArg (fun c : ClkSt => { c with wtrLeft := none, looped := true }) hc.clk :), hc.raised.of_regs rfl, fun h => ⟨(hc.back h).1.of_regs rfl, (hc.back h).2⟩, hc.regs.of_regs rfl, hkeeps⟩

end Sys2Proof.Machine
end

section
/-! PROOF. The reference inputs, the loop and the selector (R268 to R282). -/

namespace Sys2Proof.Machine

variable {s t u : State} {x y : RefIn} {j k n m : Nat} {f g h o : Int} {i : Fin 6} {c : ClkSt}

/-! ## Absorption (R277) -/

theorem exec_absorbed (hpll : s.clk.pll = .absorbing) (hel : (s.ref 0).eligible = true) (hphi : (s.ref 0).phi.natAbs < 20) (hloop : s.clk.looped = false) :
    exec .absorbed s = doneCore s (s.absorbEnd.selectRef.modClk ClkSt.ran) := by
  have htick : s.loopTick = s.absorbEnd := by
    unfold State.loopTick
    rw [hpll]
    dsimp only
    rw [hel, if_neg (by decide), if_pos hphi]
  rw [← htick]
  exact congrArg (doneCore s) (if_pos ⟨hpll, hel, hphi, hloop⟩)
/-- The clock when an offset has been absorbed. -/
def ClkSt.absorbedAll (c : ClkSt) : ClkSt := { c with pll := .locked, absorbDev := 0, buildout := 0 }
/-- The offset has been absorbed, before the event. -/
def State.absorbDone (s : State) : State := ({ s with sys := { s.sys with aligned := true } }.modClk ClkSt.absorbedAll).wr TCK_EPOCH_OFS 0
theorem leads_absorbed (hpll : s.clk.pll = .absorbing) (hloop : s.clk.looped = false) (hsel : s.clk.selected = 0) (hphi : (s.ref 0).phi.natAbs < 20) (hel : s.eligibleRefs = [0]) : leads .absorbed s (fun t =>
    t.clk = { s.clk with pll := .locked, absorbDev := 0, buildout := 0, wtrLeft := none, looped := true } ∧ t.sys.aligned = true ∧ t.rd TCK_EPOCH_OFS = 0 ∧ raised 34 s t ∧ regsKeep [TCK_EPOCH_OFS] s t ∧ keeps [.regs, .out, .mon, .sys, .clk] s t) := by
  have hexec := exec_absorbed hpll (eligible_of_refs (by rw [hel]; exact List.mem_cons_self)) hphi hloop
  rw [show s.absorbEnd = s.absorbDone.raise 34 from rfl] at hexec
  have hclk : s.absorbDone.clk = s.clk.absorbedAll := rfl
  have hal : s.absorbDone.sys.aligned = true := rfl
  have hans : s.absorbDone.sys.answering = s.sys.answering := rfl
  have hofs : s.absorbDone.rd TCK_EPOCH_OFS = 0 := rd_wr_same ..
  have hregs : regsKeep [TCK_EPOCH_OFS] s s.absorbDone := ((regsKeep.refl _ s).of_regs (u := { s with sys := { s.sys with aligned := true } }.modClk ClkSt.absorbedAll) rfl).wr (by simp)
  have hkeeps : keeps [.regs, .out, .mon, .sys, .clk] s s.absorbDone := by simp [keeps_iff, State.absorbDone, State.modClk]
  generalize s.absorbDone = v at *
  have honly := raise_only v 34
  have huclk := honly.clk.trans hclk
  have hual := honly.sys_aligned.trans hal
  have huofs := (raise_rd v 34 (a := TCK_EPOCH_OFS) rfl).trans hofs
  have hraised : raised 34 s (v.raise 34) := raised_raise hkeeps.2.1 hans
  have huregs := hregs.raise (e := 34)
  have hukeeps := hkeeps.raise (e := 34) (by simp)
  generalize v.raise 34 = u at *
  rw [selectRef_stays (k := 0) (by rw [huclk]; exact ⟨(by decide : PllState.locked ≠ .switching), (by decide : PllState.locked ≠ .stopped)⟩) ((eligibleRefs_of_refs (congrArg ClkSt.refs huclk :)).trans hel)
    ((congrArg ClkSt.selected huclk :).trans hsel)] at hexec
  have hall := ((hukeeps.trans (modClk_keeps fun c => { c with wtrLeft := none }) (by simp)).trans (modClk_keeps ClkSt.ran) (by simp)).answered
  exact leads_doneCore hexec ⟨(congrArg (fun c : ClkSt => { c with wtrLeft := none, looped := true }) huclk :), hual, huofs, hraised.of_regs rfl, huregs.of_regs rfl, hall⟩

/-! ## Holdover (R280) -/

theorem leads_holdover (hticks : s.clk.holdTicks = some n) (hnew : s.clk.holdExceeded = false) (hover : (s.rd CLK_HOLD_SPEC).toNat * teDen < teNum (s.rdF CLK_HOLD_CFG 2 0) s.clk.holdE0 (n + 1)) : leads .holdover s (fun t =>
    t.clk = { s.clk with holdExceeded := true } ∧ t.bit CLK_STAT 4 = true ∧ raised 31 s t ∧ regsKeep [CLK_STAT] s t ∧ keeps [.regs, .out, .mon, .sys, .clk] s t) := by
  have hjudge : s.holdJudge (n + 1) = (s.modClk fun c => { c with holdExceeded := true }).flagRaise CLK_STAT 4 31 := if_pos (by rw [hnew, decide_eq_true hover]; rfl)
  have hexec : exec .holdover s = doneCore s ((s.modClk fun c => { c with holdExceeded := true }).flagRaise CLK_STAT 4 31) := by
    show doneCore s (match s.clk.holdTicks with | none => s | some n => s.holdJudge (n + 1)) = _
    rw [hticks, ← hjudge]
  have hset := ((Steered.refl s).modClk fun c => { c with holdExceeded := true })
  have hst := hset.flagRaise 4 31
  have hraised : raised 31 s ((s.modClk fun c => { c with holdExceeded := true }).flagRaise CLK_STAT 4 31) := raised_flagRaise hset.keeps.2.1 hset.answering
  have hbit := flagRaise_bit (s := s.modClk fun c => { c with holdExceeded := true }) CLK_STAT 4 31 rfl (by decide)
  generalize (s.modClk fun c => { c with holdExceeded := true }).flagRaise CLK_STAT 4 31 = t at *
  exact leads_doneCore hexec ⟨hst.clk, hbit, hraised, hst.regs, hst.keeps.answered⟩
theorem holdJudge_timer (s : State) (n : Nat) : (s.holdJudge n).clk.holdTicks = s.clk.holdTicks ∧ (s.holdJudge n).clk.holdTe = s.clk.holdTe := by
  unfold State.holdJudge
  split
  · rw [flagRaise_clk]
    exact ⟨rfl, rfl⟩
  · exact ⟨rfl, rfl⟩

/-! ## The active's marker (R281) -/

/-- The clock of a standby, steered by its active. -/
def ClkSt.following (c : ClkSt) : ClkSt := { c with pll := .locked, selected := 7, target := 7, wtrLeft := none }
theorem leads_tickMarker (hlink : s.twn.linkUp = true) (halone : s.twn.role ≠ .alone) (hactive : s.twn.role ≠ .active) (hrun : s.sys.mediaRun = true) : leads (.tickMarker o) s (fun t =>
    t.clk.outFreq = clampI (-pullLimit) pullLimit (s.clk.outFreq - (Config.loopGain 13 : Int) * o) ∧ t.clk = { s.clk with pll := .locked, selected := 7, target := 7, wtrLeft := none, outFreq := t.clk.outFreq, atLimit := t.clk.atLimit } ∧
    regsKeep [CLK_STAT] s t ∧ keeps [.regs, .out, .mon, .sys, .clk] s t) := by
  have hexec : exec (.tickMarker o) s = doneCore s ((s.modClk ClkSt.following).setOut (s.clk.outFreq - (Config.loopGain 13 : Int) * o)) :=
    congrArg (doneCore s) (if_pos (by simp [State.followsMarker, hlink, halone, hactive, hrun]))
  have hst := ((Steered.refl s).modClk ClkSt.following).setOut (s.clk.outFreq - (Config.loopGain 13 : Int) * o)
  generalize (s.modClk ClkSt.following).setOut (s.clk.outFreq - (Config.loopGain 13 : Int) * o) = t at *
  have hout : t.clk.outFreq = clampI (-pullLimit) pullLimit (s.clk.outFreq - (Config.loopGain 13 : Int) * o) := (congrArg ClkSt.outFreq hst.clk :)
  have hclk : t.clk = { s.clk with pll := .locked, selected := 7, target := 7, wtrLeft := none, outFreq := t.clk.outFreq, atLimit := t.clk.atLimit } := by
    rw [hst.clk]
    rfl
  exact leads_doneCore hexec ⟨hout, hclk, hst.regs, hst.keeps.answered⟩

/-! ## Presence, loss, guard time -/

theorem leads_refPresent (hx : s.ref i.val = x) (hen : s.refEn i.val = true) (hwhy : i.val = 1 ∨ i.val = 3 ∨ s.refDerived i.val = true) (hst : x.st = .absent) : leads (.refPresent i) s (fun t =>
    t.ref i.val = { x with present := true, winClean := false, hist := [], st := .qualifying } ∧ sameBut [i.val] refInit s.clk.refs t.clk.refs ∧ keeps [.clk] s t) := by
  have hset := modRef_set hx fun x => { x with present := true, winClean := false, hist := [], st := if s.refEn i.val && x.st == .absent then .qualifying else x.st }
  rw [hen, hst] at hset
  have hexec := exec_refPresent hx hwhy hst
  rw [hen] at hexec
  exact leads_doneCore hexec ⟨hset.ref, hset.refs, hset.keeps.answered⟩
theorem leads_refLost (hx : s.ref i.val = x) (hen : s.refEn i.val = true) (hwhy : i.val = 1 ∨ i.val = 3 ∨ s.refDerived i.val = false) (hp : x.present = true) : leads (.refLost i) s (fun t =>
    t.ref i.val = { x with present := false, winClean := false, hist := [], fail := if x.fail = 0 then 1 else x.fail } ∧ raised 26 s t ∧ t.bit CLK_EVSRC i.val = true ∧ t.clk = { s.clk with refs := t.clk.refs } ∧ sameBut [i.val] refInit s.clk.refs t.clk.refs ∧
    regsKeep [CLK_EVSRC] s t ∧ keeps [.regs, .out, .mon, .sys, .clk] s t) := by
  have hev := refLeave_lost hx (by omega) hen hp
  have hexec : exec (.refLost i) s = doneCore s (s.refLeave i.val) := congrArg (doneCore s) (if_pos (by simpa using hwhy))
  generalize s.refLeave i.val = t at *
  exact leads_doneCore hexec ⟨hev.ref, hev.raised, hev.source, hev.clk, hev.refs, hev.regs, hev.keeps.answered⟩
theorem exec_freqWindowEnd_running (h : s.clk.win ≠ 2999 ∨ s.clk.winDone = true) (freqs : List (Nat × Int)) : exec (.freqWindowEnd freqs) s = .next s :=
  congrArg (doneCore s) (if_neg fun ⟨hwin, hdone⟩ => h.elim (fun h => h hwin) fun h => by rw [hdone] at h; exact absurd h (by decide))
theorem leads_guardExpiry (hx : s.ref i.val = x) (hst : x.st = .disqualified) (hp : x.present = true) (hleft : x.guardLeft ≤ 1) (hfail : x.fail = 0) (hin : x.freq.natAbs ≤ s.rdF CLK_FWIN 16 0) : leads (.guardExpiry i) s (fun t =>
    t.ref i.val = { x with st := .qualified, guardLeft := 0 } ∧ raised 25 s t ∧ t.bit CLK_EVSRC i.val = true ∧ sameBut [i.val] refInit s.clk.refs t.clk.refs ∧ regsKeep [CLK_EVSRC] s t ∧ keeps [.regs, .out, .mon, .sys, .clk] s t) := by
  have hev := refQualify_event (RefSet.refl hx) (show i.val < 32 by omega)
  have hexec := exec_guardExpiry hx hst hp hleft
  rw [guardEnd_qualifies hx hst hp hfail hin] at hexec
  generalize s.refQualify i.val = t at *
  exact leads_doneCore hexec ⟨hev.ref, hev.raised, hev.source, hev.refs, hev.regs, hev.keeps.answered⟩

/-! ## The windows of two and of three inputs -/

theorem eligible_iff (x : RefIn) : x.eligible = true ↔ x.st = .qualified ∧ x.minority = false := by
  rw [RefIn.eligible, Bool.and_eq_true, beq_iff_eq, Bool.not_eq_true']
theorem mem_of_shownFreq {freqs : List (Nat × Int)} (hc : shownFreq freqs k = some f) : (k, f) ∈ freqs := by
  obtain ⟨q, hq, hf⟩ := Option.map_eq_some_iff.mp hc
  have hk : q.1 = k := by simpa using List.find?_some hq
  rw [← hk, ← hf]
  exact List.mem_of_find?_eq_some hq
theorem ne_of_shownFreq {freqs : List (Nat × Int)} (hc : shownFreq freqs k = none) : ∀ q ∈ freqs, k ≠ q.1 := fun q hq heq => by
  have hnot := List.find?_eq_none.mp (Option.map_eq_none_iff.mp hc) q hq
  exact hnot (by simp [heq])
/-- An input whose window ends with a frequency inside ±FWIN. -/
structure WindowGood (s : State) (k : Nat) (f : Int) : Prop where
  enabled : s.refEn k = true
  present : (s.ref k).present = true
  eligible : (s.ref k).eligible = true
  inside : f.natAbs ≤ s.rdF CLK_FWIN 16 0
theorem WindowGood.seen (hg : WindowGood s k f) : s.refEn k = true ∧ (s.ref k).present = true ∧ (s.ref k).st = .qualified ∧ f.natAbs ≤ s.rdF CLK_FWIN 16 0 :=
  ⟨hg.enabled, hg.present, ((eligible_iff _).mp hg.eligible).1, hg.inside⟩
/-- What an input with no window is: not measured, not qualified, not disputed. -/
abbrev WindowNone (s : State) (k : Nat) : Prop := (s.refEn k && (s.ref k).present) = false ∧ (s.ref k).st ≠ .qualified ∧ (s.ref k).disputed = false
theorem DisputeWindow.of_pair (hi : WindowGood s i.val f) (hj : WindowGood s j g) (hij : i.val ≠ j) (hrank : s.refRank i.val = s.refRank j) (hwin : s.clk.win = 2999) (hdone : s.clk.winDone = false)
    (hdiff : s.rdF CLK_DISPUTE 15 0 < (f - g).natAbs) (hrest : ∀ k ∈ refNums, k ≠ i.val → k ≠ j → WindowNone s k) : DisputeWindow [(i.val, f), (j, g)] i.val j f g i.val s where
  win := hwin
  open_ := hdone
  unseen c hc hnone := by
    have hne := ne_of_shownFreq hnone
    exact (hrest c hc (hne (i.val, f) (by simp)) (hne (j, g) (by simp))).1
  seen c _ l hl := by
    have hmem := mem_of_shownFreq hl
    simp only [List.mem_cons, Prod.mk.injEq, List.not_mem_nil, or_false] at hmem
    rcases hmem with ⟨rfl, rfl⟩ | ⟨rfl, rfl⟩
    · exact hi.seen
    · exact hj.seen
  first := shownFreq_cons_self ..
  second := by rw [shownFreq_cons_ne hij, shownFreq_cons_self]
  rank := hrank
  eligible := ⟨hi.eligible, hj.eligible⟩
  differ := hdiff
  rest c hc hci hcj := ⟨(hrest c hc hci hcj).2.2, fun hst => absurd hst (hrest c hc hci hcj).2.1⟩
theorem DisputeWindow.of_three (hi : WindowGood s i.val f) (hj : WindowGood s j g) (hk : WindowGood s k h) (hij : i.val ≠ j) (hrank : s.refRank i.val = s.refRank j) (hother : s.refRank k ≠ s.refRank j) (hquiet : (s.ref k).disputed = false)
    (hwin : s.clk.win = 2999) (hdone : s.clk.winDone = false) (hdiff : s.rdF CLK_DISPUTE 15 0 < (f - g).natAbs) (hrest : ∀ l ∈ refNums, l ≠ i.val → l ≠ j → l ≠ k → WindowNone s l) :
    DisputeWindow [(i.val, f), (j, g), (k, h)] i.val j f g k s where
  win := hwin
  open_ := hdone
  unseen c hc hnone := by
    have hne := ne_of_shownFreq hnone
    exact (hrest c hc (hne (i.val, f) (by simp)) (hne (j, g) (by simp)) (hne (k, h) (by simp))).1
  seen c _ l hl := by
    have hmem := mem_of_shownFreq hl
    simp only [List.mem_cons, Prod.mk.injEq, List.not_mem_nil, or_false] at hmem
    rcases hmem with ⟨rfl, rfl⟩ | ⟨rfl, rfl⟩ | ⟨rfl, rfl⟩
    · exact hi.seen
    · exact hj.seen
    · exact hk.seen
  first := shownFreq_cons_self ..
  second := by rw [shownFreq_cons_ne hij, shownFreq_cons_self]
  rank := hrank
  eligible := ⟨hi.eligible, hj.eligible⟩
  differ := hdiff
  rest c hc hci hcj := by
    by_cases hck : c = k
    · exact ⟨hck ▸ hquiet, fun _ => ⟨hck, by rw [hrank]; exact hother⟩⟩
    · exact ⟨(hrest c hc hci hcj hck).2.2, fun hst => absurd hst (hrest c hc hci hcj hck).2.1⟩

/-! ## The obligation -/

/-- Settles O32: presence, windows, guard time and disputes change the inputs' records with their events; the loop's tick and the selector, in the states named, start or end a switch, end an absorption, or steer the output; the
holdover timer is judged by its bound. -/
theorem clockReferences : Obligations.ClockReferences := by
  unfold Obligations.ClockReferences
  intro s i j k n m x y f g h o hx hen
  refine ⟨fun hwhy hst => leads_refPresent hx hen hwhy hst, fun hwhy hp => leads_refLost hx hen hwhy hp, ?_, ?_, ?_, ?_, ?_, ?_, ?_, ?_, ?_, ?_, exec_wtrExpiry_none, ?_, ?_, ?_, ?_, ?_, ?_, ?_⟩
  · intro hfail hn hst
    have hev := refSettle_event hx (show i.val < 32 by omega) hfail hn hst
    exact ⟨hev.ref, hev.raised, hev.source, hev.refs, hev.regs, hev.keeps⟩
  · intro hst hp hwin hdone hout hquiet halone
    exact leads_window_outside hx hen hst hp hwin hdone hout hquiet halone
  · intro hst hp hclean hfail hquiet hwin hdone hin halone
    exact leads_window_qualifies hx hen hst hp hclean hfail hquiet hwin hdone hin halone
  · intro hst hp hclean hquiet hwin hdone hin halone
    exact leads_window_clean hx hen hst hp hclean hquiet hwin hdone hin halone
  · intro hy hj hij henj hrank hpx hpy hex hey hwin hdone hf hg hdiff hrest
    have hgi : WindowGood s i.val f := ⟨hen, hx ▸ hpx, hx ▸ hex, hf⟩
    have hgj : WindowGood s j g := ⟨henj, hy ▸ hpy, hy ▸ hey, hg⟩
    exact leads_window_dispute hx hy (.of_pair hgi hgj hij hrank hwin hdone hdiff hrest) hj hij
  · intro hy hj hk hij hik hjk henj henk hrank hother hpx hpy hpk hex hey hek hquiet hwin hdone hf hg hh hdiff hki hkj hrest
    have hgi : WindowGood s i.val f := ⟨hen, hx ▸ hpx, hx ▸ hex, hf⟩
    have hgj : WindowGood s j g := ⟨henj, hy ▸ hpy, hy ▸ hey, hg⟩
    exact leads_window_minority hx hy (.of_three hgi hgj ⟨henk, hpk, hek, hh⟩ hij hrank hother hquiet hwin hdone hdiff hrest) hj hk hij hik hjk hki hkj
  · exact fun hrun => exec_freqWindowEnd_running hrun _
  · exact fun hst hp hleft hfail hin => leads_guardExpiry hx hst hp hleft hfail hin
  · intro hst hp hleft hwhy
    rw [exec_guardExpiry hx hst hp hleft, guardEnd_waits hx hwhy]
    rfl
  · exact fun hwtr hn hloop hpll hsel hel hj hrank hauto => leads_wtrExpiry hwtr hn hloop hpll hsel hel hj hrank hauto
  · exact fun hpll hloop htarget hfreq hout hel => leads_switchDone_free hpll hloop htarget hfreq hout hel
  · exact fun hpll hloop htarget hlost hne hout hin hel => leads_switchDone_input hx hpll hloop htarget hlost hne hout hin hel
  · exact fun hpll hloop hsel hphi hel => leads_absorbed hpll hloop hsel hphi hel
  · exact fun hticks hnew hover => leads_holdover hticks hnew hover
  · intro _
    exact holdJudge_timer (s.modClk fun c => { c with holdTicks := some m, holdTe := teNum (s.rdF CLK_HOLD_CFG 2 0) c.holdE0 m / teDen }) m
  · exact fun hlink halone hactive hrun => leads_tickMarker hlink halone hactive hrun
  · intro hfollows
    exact congrArg (doneCore s) (if_neg (by rw [hfollows]; simp))

end Sys2Proof.Machine
end
